-- ==== Sys2Proof/Word.lean ====
section
/-! DEFINITION. The words the commands carry: a register byte, a native address of the 24-bit space (R36), and the
initiators that issue register accesses (R11, R88). -/

namespace Sys2Proof

/-- One 8-bit register's contents, or one byte of a frame. -/
abbrev Byte := BitVec 8

/-- A native address: bits [23:12] the window, bits [11:0] the offset (R36). -/
abbrev Addr := BitVec 24

/-- The initiators of R11 and R88. -/
inductive Initiator where
  | spi | pcie | mp | jtag
  | peer (p : Fin 16)
  deriving DecidableEq, Repr

end Sys2Proof
end

