-- ==== Sys2Proof/Operands.lean ====
section
/-! DEFINITION. Operands of the commands that are more than a number: what the outside supplies with an event. -/

namespace Sys2Proof

/-- Whose hold of R360 expires. -/
inductive HoldOf where
  | pnc (p : Fin 24)
  | net (n : Fin 44)
  deriving DecidableEq, Repr

/-- A frame as a CAN transceiver in STANDBY decodes it (R372): without error or not, in the classical format or in another. -/
structure WufFrame where
  ok : Bool
  classical : Bool
  ide : Bool
  id : BitVec 29
  dlc : Fin 16
  data : BitVec 64
  deriving DecidableEq, Repr

/-- A ring message (R364). -/
structure NmMsg where
  sender : Fin 64
  dest : Fin 64
  ring : Bool
  alive : Bool
  limpHome : Bool
  sleepInd : Bool
  sleepAck : Bool
  pnc : BitVec 24
  deriving DecidableEq, Repr

/-- A frame a CAN controller has received up to its validation point, with the nanoseconds since its start of frame. fmt: 0 classical,
1 FD, 2 XL. A remote frame has no data, and dlc is the length it names. -/
structure CanRx where
  fmt : Fin 3
  dlc : Fin 16
  ide : Bool
  id : BitVec 29
  rtr : Bool
  brs : Bool
  esi : Bool
  sdt : Byte
  vcid : Byte
  sec : Bool
  af : BitVec 32
  data : List Byte
  age : BitVec 32
  deriving DecidableEq, Repr

/-- The recessive bit of a protocol exception (R210). -/
inductive PxBit where
  | res | fdf | xlf
  deriving DecidableEq, Repr

/-- How far an error moves its counter (ISO 11898-1). -/
inductive CanInc where
  | zero | one | eight
  deriving DecidableEq, Repr

/-- A transceiver fault that holds the transmitter off (R220). -/
inductive TrxFault where
  | txdDom | overtemp | undervoltage
  deriving DecidableEq, Repr

/-- The line rates of R158, as ETH_STATE.RATE codes them. -/
inductive EthRate where
  | r100M | r1G | r2G5 | r5G | r10G
  deriving DecidableEq, Repr

/-- How a LIN slot's DELAY ends on the bus (R223): what the slave's response was when no whole response has been taken. -/
inductive LinEnd where
  | nothing | partialResp | checksum | framing
  deriving DecidableEq, Repr

/-- What a MAC hands up (R171, R173): a whole frame, or parts of one as its bytes arrive. Data run from the destination address on, without
FCS; the first part holds at least the headers. `age` is the nanoseconds since the start-of-frame delimiter. -/
inductive EthRx where
  | whole (data : List Byte) (symErr fcsOk : Bool) (age : BitVec 32)
  | first (data : List Byte) (age : BitVec 32)
  | more (data : List Byte)
  | last (data : List Byte) (symErr fcsOk : Bool)
  deriving DecidableEq, Repr

/-- A holder of a cell lease (R135): the writer of a frame in reception, the reader of a copy in transmission, a DMA transfer to a receive
ring, the oldest frame in stages 2 to 6. -/
inductive CellHolder where
  | writer (p : Fin 16)
  | reader (p : Fin 16)
  | dma (r : Fin 16)
  | stages
  deriving DecidableEq, Repr

/-- Who reads a cell with an uncorrectable error (R136): the egress reader of a port, a CAN controller, the DMA of a receive ring. -/
inductive CellRead where
  | eth (p : Fin 16)
  | can (p : Fin 16)
  | dma (r : Fin 16)
  deriving DecidableEq, Repr

/-- An operation under a key-slot session lease (R291): a verification or an appending of a context on a CMAC engine, a protection on a GCM
engine. -/
inductive KeyOp where
  | verify (ctx : Fin 4096) (e : Fin 4)
  | append (ctx : Fin 4096) (e : Fin 4)
  | protect (p : Fin 6)
  | receive (p : Fin 6)
  deriving DecidableEq, Repr

/-- A host ring descriptor as the host has written it (R101), with the bytes its transmit buffer holds. -/
structure RingDesc where
  buf : BitVec 64
  len : BitVec 14
  sop : Bool
  eop : Bool
  tsreq : Bool
  tag : BitVec 32
  mem : List Byte
  deriving DecidableEq, Repr

/-- The tables with an entry view (R498). -/
inductive ViewTab where
  | vlan | route | dlist | signal | pdu | template | sieve | canf | weigh | auth
  deriving DecidableEq, Repr

/-- What an input's pin shows as it is sampled: the level of a switch input, the voltage of an analog input. -/
structure PinReading where
  high : Bool
  mv : BitVec 16
  deriving DecidableEq, Repr

/-- The BARs of the PCIe face, each by its first (R96). -/
inductive Bar where
  | bar0 | bar2 | bar4
  deriving DecidableEq, Repr

/-- A KMP frame as Derrick receives it (R429): what its row's TYPE does not fix. `body` runs from byte 32 on, padding included. -/
structure KmpRx where
  sa : BitVec 48
  ver : Byte
  lane : Byte
  flags : Byte
  seq : BitVec 16
  ackP : BitVec 16
  ackC : BitVec 16
  ackR : BitVec 16
  plen : BitVec 16
  tag : BitVec 16
  fence : BitVec 16
  body : List Byte
  deriving DecidableEq, Repr

/-- A failing bit of a GX memory, as a memory test finds it (R391, R392). -/
structure MemFail where
  mem : Byte
  addr : BitVec 24
  bit : Byte
  deriving DecidableEq, Repr

/-- One record of a section of the configuration image, as the controller of the load reads it (R113): a register byte; a whole entry of a
benched table by its view's bytes; a static L2 entry; a Seam prefix; a key-blob reference with the two copies that lie there; an
MDIO write; the gPTP roles of the Ethernet ports (R301); a legacy record, of a section 0x0080 read from its data. -/
inductive ImgRec where
  | reg (addr : Addr) (val : Byte)
  | entry (t : ViewTab) (i : BitVec 16) (bytes : List Byte)
  | l2 (fid : BitVec 12) (mac : BitVec 48) (dropMove dlist : Bool) (dest : BitVec 16)
  | pfx (v6 : Bool) (plen : Byte) (addr : BitVec 128) (route : BitVec 16)
  | blob (slot : Byte) (ofs : BitVec 20) (copy0 copy1 : List Byte)
  | mdio (port : Fin 6) (devad : BitVec 5) (reg : BitVec 16) (data : BitVec 16)
  | ptp (slaves masters : BitVec 16)
  | legacy (addr : BitVec 16) (val : Byte)
  deriving DecidableEq, Repr

/-- A block of flash as its readings give it, the first of them first: the payload and the stored CRC, 4,096 bytes each (R109, R116). -/
abbrev BlockReads := List (List Byte)

/-- A section as the load reads it (R111, R112, R116): its index in the section table and its entry there, its digest in the digest table,
its blocks, and the records that its data spell. -/
structure ImgSection where
  idx : Byte
  ty : BitVec 16
  mand : Bool
  restart : Bool
  phase : Byte
  ofs : BitVec 32
  len : BitVec 32
  target : BitVec 16
  digest : BitVec 384
  blocks : List BlockReads
  recs : List ImgRec
  deriving DecidableEq, Repr

/-- A configuration slot as phase 0 finds it (R114): its bytes from the slot's first on, as each reading gives them (of a native image the
header block, of a bare one the whole image), whether the two signatures over the signed region verify under the keys of the
current root, and a native image's sections in section-table order. -/
structure SlotImage where
  head : BlockReads
  ecdsaOk : Bool
  hssOk : Bool
  sects : List ImgSection
  deriving DecidableEq, Repr

/-- What the controller finds in the flash's SFDP tables (R108): the flash's size in MiB, the modes they declare and the modes in which the
signature reads back, bit 0 8D-8D-8D at 200 MHz, bit 1 8D-8D-8D at 100 MHz, bit 2 1S-8S-8S at 100 MHz. -/
structure Sfdp where
  mib : BitVec 16
  modes : BitVec 3
  good : BitVec 3
  deriving DecidableEq, Repr

/-- One image of a firmware set's directory (R417), as the bank holds it. -/
structure FwDirImage where
  ty : Byte
  version : BitVec 32
  ofs : BitVec 32
  len : BitVec 32
  sha : BitVec 384
  deriving DecidableEq, Repr

/-- The header and the directory of the firmware set that a bank holds when the module is delivered (R417). -/
structure FwDir where
  raise : Bool
  svn : BitVec 16
  seq : BitVec 32
  images : List FwDirImage
  deriving DecidableEq, Repr

end Sys2Proof
end

