-- ==== Sys2Proof/Syntax.lean ====
section
/-! DEFINITION. The commands of the block, one constructor per row of spec/opcode_table.json. A command carries what the
outside supplies: the port or unit it concerns, the bytes of a frame, a measured value, the outcome of a check that another
standard defines. Instances are finite types of exactly the units the spec has. -/

namespace Sys2Proof

inductive Instr where
  /-- REGISTER_WRITE (R5): A write to a register field that has no row of its own stores or acts on the value according to the field's access type. One byte, as a write access of its own. -/
  | registerWrite (init : Initiator) (addr : Addr) (b : Byte)
  /-- LIVE_VALUE_MSB_READ (R11): A read of a live value's most significant byte copies its lower bytes into the initiator's hold for that window. -/
  | liveValueMsbRead (init : Initiator) (addr : Addr)
  /-- TALLY_SNAPSHOT_READ (R14): A non-speculative read of a tally's most significant byte snapshots the tally into the initiator's store and clears it. -/
  | tallySnapshotRead (init : Initiator) (addr : Addr)
  /-- SPECULATIVE_READ (R98): A speculative read returns data without any side effect and sets SPEC_HIT where a side effect was withheld. -/
  | speculativeRead (init : Initiator) (addr : Addr)
  /-- INTERFACE_HANDSHAKE (R49): A write to DRV_MIN commits the driver version pair and sets DESC_ACT and VBASE. The two bytes of DESC_DRV. -/
  | interfaceHandshake (init : Initiator) (w : BitVec 12) (maj : Byte) (min : Byte)
  /-- FANOUT_START (R42): A write to GRP_FANOUT_DATA starts a fan-out of the byte to offset FOFS of every reached window. grp: the group window; data: the byte written to GRP_FANOUT_DATA. -/
  | fanoutStart (init : Initiator) (grp : BitVec 12) (data : Byte)
  /-- FANOUT_WINDOW_WRITE (R42): The fan-out issues its write to the next reached window, skipping windows in OFF and recording a rejection. -/
  | fanoutWindowWrite (grp : BitVec 12)
  /-- FANOUT_COMPLETE (R43): When every fan-out write has taken effect or been refused, BUSY falls and HITS, REJ and REJWIN are final. -/
  | fanoutComplete (grp : BitVec 12)
  /-- SUMMARY_PROPAGATE (R41): A change in a summary source reaches the DESC_SUMMARY of the next ancestor group. w: the window whose source has changed. -/
  | summaryPropagate (w : BitVec 12)
  /-- UNIT_RESET (R85): A write of URST starts a UNIT reset of the unit and its descendants, which reload their image fields. R85: lock is the value of LOCK in the byte written. -/
  | unitReset (init : Initiator) (w : BitVec 12) (lock : Bool)
  /-- UNIT_RELOAD_COMPLETE (R118): A unit's sections finish reloading from the active slot after a UNIT reset and the unit becomes READY. -/
  | unitReloadComplete (w : BitVec 12)
  /-- SCRUB_CHECK (R83): The scrubber checks a parity group of a powered window in its 256 us cycle. -/
  | scrubCheck (w : BitVec 12) (k : Fin 512) (mismatch : Bool)
  /-- GX_HEARTBEAT_LOST (R30): Loss of the GX heartbeat for 10 ms turns channels off or to limp-home and applies a WDOG reset. -/
  | gxHeartbeatLost
  /-- POWER_ON_RESET (R380): The AON supply rises above 1.9 V, a POR takes place and the module enters BACKUP or starts GX. -/
  | powerOnReset (vbatGood : Bool)
  /-- AON_SUPPLY_LOST (R380): The AON supply falls below 1.7 V and the module enters OFF, losing all AON content. -/
  | aonSupplyLost
  /-- PIN_RESET (R56): RST_N held low for at least 10 us causes a PIN reset of the IX core and GX. -/
  | pinReset
  /-- BOR_BEGIN (R67): VBAT_PERM below 4.6 V for 20 us starts a BOR and the module enters BACKUP. -/
  | borBegin
  /-- BOR_END (R67): VBAT_PERM above 5.2 V for 1 ms ends the BOR and GX starts. -/
  | borEnd
  /-- MODE_SAMPLE (R59): 100 us after a POR, BOR, PIN or SOFT reset, IX samples the MODE strap and records its code. -/
  | modeSample (mv : Fin 4096)
  /-- LIMP_IN_EDGE (R60): A filtered edge on a LIMP_IN pin updates SUP_PINS and the outputs of limp-home channels in LIMP. -/
  | limpInEdge (k : Fin 4) (high : Bool)
  /-- SAFE_N_UPDATE (R61): SAFE_N changes to follow the condition that governs it. -/
  | safeNUpdate
  /-- GX_PGOOD_HIGH (R69): GX_PGOOD rises after the rails reach range, which leads to the release of GX reset. -/
  | gxPgoodHigh
  /-- GX_RESET_RELEASE (R69): GX reset is released, XSRC is sampled and GX starts, warm or cold. -/
  | gxResetRelease (xsrc : Bool)
  /-- GX_PGOOD_TIMEOUT (R70): GX_PGOOD is not high 10 ms after GX_PWR_EN rises, so IX removes power and retries. -/
  | gxPgoodTimeout
  /-- GX_PGOOD_LOST (R71): GX_PGOOD low for 2 us while GX_PWR_EN is high is a loss of GX power. -/
  | gxPgoodLost
  /-- OFF_TIME_END (R72): The 20 ms off time ends and a latched wake starts the GX power-up. -/
  | offTimeEnd
  /-- CLOCK_LOSS (R74): The GX reference is absent or off frequency for 10 us, so SUP sets CLK_LOSS and applies a WDOG reset. -/
  | clockLoss
  /-- SPI_WRITE_FRAME (R93): An SPI write frame is decoded and accepted into the write buffer, or answered RETRY or ERROR. len + 1 data bytes; rest: the bytes clocked after the address, data and CRC. -/
  | spiWriteFrame (fix : Bool) (len : Fin 64) (addr : Addr) (rest : List Byte)
  /-- SPI_READ_FRAME (R92): An SPI read frame is performed and its data and status returned, or a delayed read begins. len + 1 data bytes; rest: the bytes clocked after the address; late: the data are not ready when NOW begins. -/
  | spiReadFrame (fix : Bool) (len : Fin 64) (addr : Addr) (rest : List Byte) (late : Bool)
  /-- SPI_FRAME_TOO_SHORT (R94): SPI_CS_N rises before the command and address are clocked, so the frame starts nothing and sets SPI_SHORT. n: its bytes. -/
  | spiFrameTooShort (n : Fin 4)
  /-- SPI_WRITE_APPLY (R93): A buffered SPI write frame is applied to its window. -/
  | spiWriteApply
  /-- DELAYED_READ_PERFORM (R95): A delayed read completes with its side effects and its data is held for the SPI face under a lease. -/
  | delayedReadPerform
  /-- DELAYED_READ_LEASE_EXPIRY (R95): An unclaimed delayed read's lease expires, so the data is discarded and DR_LOST is set. -/
  | delayedReadLeaseExpiry
  /-- PCIE_READ_REQUEST (R97): A PCIe memory read request through a BAR is checked and answered with a completion. -/
  | pcieReadRequest (bar : Bar) (addr : Addr) (len : BitVec 13) (tag : Byte)
  /-- PCIE_WRITE_REQUEST (R97): A posted PCIe memory write through a BAR is checked and applied in ascending byte order. -/
  | pcieWriteRequest (bar : Bar) (addr : Addr) (data : List Byte)
  /-- PCIE_PERST_ASSERT (R99): PCIE_PERST_N goes low, holding the PCIe face in reset and stopping every DMA ring. -/
  | pciePerstAssert
  /-- PCIE_LINK_DOWN (R99): The PCIe link is lost and every DMA ring stops. -/
  | pcieLinkDown
  /-- PCIE_LINK_UP (R53): PCIe link training completes at the highest common rate and width. -/
  | pcieLinkUp (rate : Fin 3) (two : Bool)
  /-- RING_TAIL_WRITE (R100): A write of a ring's TAIL least significant byte acts as the doorbell, or stops the ring when out of range. -/
  | ringTailWrite (init : Initiator) (tx : Bool) (r : Fin 16) (v : BitVec 16)
  /-- RING_EN_SET (R103): A write of EN from 0 to 1 sets HEAD and TAIL to 0 and clears STOPPED. -/
  | ringEnSet (init : Initiator) (tx : Bool) (r : Fin 16) (low : Fin 128)
  /-- RING_EN_CLEAR (R103): A clear of EN lets the frame in transfer finish and writes back other fetched descriptors as dropped. -/
  | ringEnClear (init : Initiator) (tx : Bool) (r : Fin 16) (low : Fin 128)
  /-- RING_DESC_FETCH (R100): The module fetches the next descriptor of an active ring from host memory. -/
  | ringDescFetch (tx : Bool) (r : Fin 16) (d : RingDesc)
  /-- RING_WRITEBACK (R102): The module writes back a frame's descriptors with DONE set and advances HEAD past the frame. -/
  | ringWriteback (tx : Bool) (r : Fin 16)
  /-- HOST_DMA_ERROR (R455): A host memory access fails, so its item fails with reason 0x34 and DMA_ERR is set. -/
  | hostDmaError (tx : Bool) (r : Fin 16) (wrote : Bool)
  /-- RING_DESC_LEASE_EXPIRY (R458): A fetched descriptor not written back within 10 ms fails with reason 0x30 and is written back. -/
  | ringDescLeaseExpiry (tx : Bool) (r : Fin 16)
  /-- IMOD_INTERVAL_END (R103): A ring's interrupt moderation interval ends and an IRQ is raised if writebacks fell in it. -/
  | imodIntervalEnd (tx : Bool) (r : Fin 16)
  /-- MSIX_PENDING_SEND (R105): A pending MSI-X vector becomes allowed and its message is sent. -/
  | msixPendingSend (v : Fin 64)
  /-- IRQ_N_UPDATE (R106): IRQ_N is released after the last pin-routed source clears. -/
  | irqNUpdate
  /-- NVM_SFDP_STEP_UP (R108): At GX start the NVM controller reads SFDP and steps up to the fastest verified flash mode. R108, R115: the flash steps up by what its SFDP tables say (none: no valid tables), and the firmware of the committed bank runs, but for the TYPEs whose check fails. fw: what the bank was delivered with. -/
  | nvmSfdpStepUp (sfdp : Option Sfdp) (fw : Option FwDir) (fails : List Byte)
  /-- CONFIG_SLOT_SELECT (R114): Phase 0 reads both slot headers, chooses a candidate and verifies its signatures. R114: phase 0 over what CFG_A and CFG_B hold. -/
  | configSlotSelect (a : SlotImage) (b : SlotImage)
  /-- CONFIG_PHASE_INSTALL (R115): A load phase finishes installing its sections and its units become READY. R115, R116: phase k + 1 of the load ends. -/
  | configPhaseInstall (k : Fin 3)
  /-- STAGE_SELECT (R498): A commit of an entry view's select register loads its write buffer with the entry's next-Bench content. -/
  | stageSelect (init : Initiator) (v : ViewTab) (next : Bool) (k : BitVec 16)
  /-- STAGE_ENTRY_WRITE (R498): A write of an entry view's committing byte checks and stages the buffered entry into the next Bench. -/
  | stageEntryWrite (init : Initiator) (v : ViewTab) (data : List Byte)
  /-- TBL_ACQUIRE (R121): ACQUIRE grants the staging lock to the initiator when it is free. -/
  | tblAcquire (init : Initiator) (rw : Fin 4)
  /-- TBL_COMMIT (R123): COMMIT flips the Bench atomically, or starts a split commit, or is refused. -/
  | tblCommit (init : Initiator) (rw : Fin 4)
  /-- TBL_ABORT (R123): ABORT restores every touched entry to its current-Bench content and empties both lists. -/
  | tblAbort (init : Initiator) (rw : Fin 4)
  /-- TBL_RELEASE (R121): RELEASE gives up the staging lock while the staged delta stays staged. -/
  | tblRelease (init : Initiator) (rw : Fin 4)
  /-- TBL_LEASE_EXPIRY (R121): The staging lock lease expires, the staged delta is discarded and LEASE is set in the holder's window. -/
  | tblLeaseExpiry
  /-- COMMIT_DRAIN_END (R123): No frame that sampled the old Bench remains in stages 2 to 6 and the reclaim starts. -/
  | commitDrainEnd
  /-- COMMIT_RECLAIM_DONE (R123): The reclaim of slots and paired indices ends and BUSY falls. -/
  | commitReclaimDone
  /-- SPLIT_TABLE_SWITCH (R125): A split commit switches the next table's pointer, under a lookup stall for a slotted table. -/
  | splitTableSwitch
  /-- FLOW_HOLD_EXPIRY (R126): A split commit runs past HOLD_LIM and the held frames are released and HOLD_EXP set. -/
  | flowHoldExpiry
  /-- ETH_FRAME_RECEIVED (R171): An Ethernet port receives a frame into the Stockpile and applies its receive checks. -/
  | ethFrameReceived (p : Fin 16) (x : EthRx)
  /-- CUT_THROUGH_ENQUEUE (R139): A cut-through frame is enqueued once classified and CT_THR x 64 bytes are stored. -/
  | cutThroughEnqueue
  /-- FRAME_CLASSIFY (R34): An item enters stage 2, samples the Bench and passes filtering, policing and lookup to its copies. -/
  | frameClassify
  /-- AUTH_VERIFY (R275): At stage 5 the AUTH unit checks the item's freshness and MAC under its context. -/
  | authVerify (c : Fin 4096) (e : Fin 4)
  /-- AUTH_APPEND (R280): At stage 8 the AUTH unit appends a freshness value and MAC to a copy. -/
  | authAppend (c : Fin 4096) (e : Fin 4)
  /-- AUTH_CEIL_WRITE (R281): A background ceiling write into AON completes and waiting items continue. -/
  | authCeilWrite (c : Fin 4096) (e : Fin 4)
  /-- AUTH_EPOCH_WRITE (R284): A write of AUTH_EPOCH offers an epoch value for adoption. -/
  | authEpochWrite (init : Initiator) (v : BitVec 24)
  /-- KEY_SESSION_LEASE_EXPIRY (R291): A key-slot session lease of an engine expires and its operation fails with 0x30. -/
  | keySessionLeaseExpiry (o : KeyOp)
  /-- EGRESS_DEQUEUE (R143): The egress reader takes the head frame of the highest eligible class and starts sending. -/
  | egressDequeue (p : Fin 16)
  /-- EGRESS_LAST_BYTE_SENT (R154): The last byte of a copy leaves the MAC, it ends delivered and its reference is released. -/
  | egressLastByteSent (p : Fin 16)
  /-- CT_UNDERRUN (R140): A cut-through copy runs out of data, ends with the bad-check ending and CT_THR is raised. -/
  | ctUnderrun (p : Fin 16)
  /-- STOCKPILE_ECC_UNCORR (R136): An uncorrectable cell read error fails the copy and retires the cell. -/
  | stockpileEccUncorr (x : CellRead)
  /-- STOCKPILE_LEASE_EXPIRY (R135): A Stockpile cell lease expires and the holder's copy fails with 0x30. -/
  | stockpileLeaseExpiry (h : CellHolder)
  /-- HOPPER_FLUSH (R146): FLUSH snapshots the masked classes and drops their queued copies. -/
  | hopperFlush (init : Initiator) (p : Fin 16)
  /-- FLUSH_COMPLETE (R146): The last snapshot copy of a flush is removed and FLUSH reads 0. -/
  | flushComplete (p : Fin 16)
  /-- FRER_RESET_TIMEOUT (R152): A recovery function receiving nothing for RESET_TO resets to take the next frame as first. -/
  | frerResetTimeout (k : Fin 256)
  /-- ETH_ENABLE (R166): EN written 1 takes a port from DISABLED to TRAINING. -/
  | ethEnable (init : Initiator) (p : Fin 16) (low : Fin 128)
  /-- ETH_DISABLE (R166): EN written 0 takes a port to DISABLED and resets its PHY. -/
  | ethDisable (init : Initiator) (p : Fin 16) (low : Fin 128)
  /-- ETH_LINK_UP (R166): A training port reaches link up and enters UP if its rate is accepted. -/
  | ethLinkUp (p : Fin 16) (r : EthRate) (full : Bool)
  /-- ETH_LINK_TIMEOUT (R166): The LINK_TO timer expires in TRAINING and training restarts with TRAIN_FAIL. -/
  | ethLinkTimeout (p : Fin 16)
  /-- ETH_LINK_LOST (R167): The link is lost and the port returns to TRAINING. -/
  | ethLinkLost (p : Fin 16)
  /-- ETH_SLEEP_CMD (R169): SLEEP starts the drain toward a TC10 sleep of the port. -/
  | ethSleepCmd (init : Initiator) (p : Fin 16)
  /-- ETH_WAKE_CMD (R168): WAKE wakes a sleeping port or aborts a sleep request. -/
  | ethWakeCmd (init : Initiator) (p : Fin 16)
  /-- ETH_RETRAIN_CMD (R166): RETRAIN restarts training of the port. -/
  | ethRetrainCmd (init : Initiator) (p : Fin 16)
  /-- ETH_PHY_RESET_CMD (R159): PHY_RESET drives PHY_RST_N low for 1.0 ms. -/
  | ethPhyResetCmd (init : Initiator) (p : Fin 16)
  /-- PHY_RESET_PULSE_END (R159): The PHY_RST_N low pulse ends and the pin rises. -/
  | phyResetPulseEnd (p : Fin 16)
  /-- PHY_RST_RELEASE (R159): 1.0 ms after GX reset release the module releases the PHY reset pins. -/
  | phyRstRelease
  /-- ETH_LOOP_WRITE (R177): A write of ETH_LOOP enters or leaves a loopback mode. -/
  | ethLoopWrite (init : Initiator) (p : Fin 16) (v : Byte)
  /-- ETH_SLEEP_DRAIN_END (R169): The Hopper empties during SLEEP_REQ and the sleep request is sent or the handshake completes. -/
  | ethSleepDrainEnd (p : Fin 16)
  /-- ETH_SLEEP_DRAIN_TIMEOUT (R169): The drain limit expires and the port returns to UP with SLEEP_FAIL. -/
  | ethSleepDrainTimeout (p : Fin 16)
  /-- ETH_SLEEP_ACK_RECEIVED (R169): The partner acknowledges the sleep request and the port enters SLEEPING. -/
  | ethSleepAckReceived (p : Fin 16)
  /-- ETH_SLEEP_ACK_TIMEOUT (R166): The acknowledge wait expires and the port returns to UP with SLEEP_FAIL. -/
  | ethSleepAckTimeout (p : Fin 16)
  /-- ETH_SLEEP_REQUEST_RECEIVED (R166): A partner's sleep request is accepted with an acknowledge or left unanswered. -/
  | ethSleepRequestReceived (p : Fin 16)
  /-- ETH_WAKE_REQUEST_RECEIVED (R170): A wake-up request from the partner aborts a sleep request. -/
  | ethWakeRequestReceived (p : Fin 16)
  /-- ETH_WAKE_PULSE_DETECTED (R166): A wake-up pulse on a silent line takes a sleeping port to TRAINING. -/
  | ethWakePulseDetected (p : Fin 16)
  /-- ETH_PHY_INT (R160): A filtered falling edge on PHY_INT_N sets PHY_INT and may wake a sleeping port. -/
  | ethPhyInt (p : Fin 16)
  /-- MDIO_GO (R162): GO starts an MDIO transaction queued in order on the shared bus. -/
  | mdioGo (init : Initiator) (p : Fin 6) (low : Fin 128)
  /-- MDIO_DONE (R162): An MDIO transaction completes with data or no response. -/
  | mdioDone (bus : Fin 2) (resp : Option (BitVec 16))
  /-- LEARN_ENGINE_WRITE (R190): The learn engine takes a queued request and writes a learned entry or sets BUCKET_FULL. -/
  | learnEngineWrite
  /-- AGER_VISIT (R192): The ager visits a bucket, clearing activity bits or requesting conditional removals. -/
  | agerVisit (b : Fin 8192)
  /-- AGE_REMOVAL (R193): A conditional removal reaches the bank arbiter and commits or aborts. -/
  | ageRemoval
  /-- L2_REHASH_START (R194): START inverts CUR and begins the first migration pass. -/
  | l2RehashStart (init : Initiator) (low : Fin 128)
  /-- REHASH_PASS_END (R194): A rehash pass ends and the rehash finishes, repeats or stalls. -/
  | rehashPassEnd
  /-- REHASH_STALL_RETRY (R194): In STALLED every 1 ms a further pass over remaining static entries runs. -/
  | rehashStallRetry
  /-- L2_CMD_READ (R187): L2_CMD OP 0 reads the entry of the key in the current Bench. -/
  | l2CmdRead (init : Initiator)
  /-- L2_CMD_STAGE_STATIC (R187): L2_CMD OP 1 stages a static entry. -/
  | l2CmdStageStatic (init : Initiator)
  /-- L2_CMD_STAGE_DELETE (R187): L2_CMD OP 2 stages deletion of a static entry. -/
  | l2CmdStageDelete (init : Initiator)
  /-- L2_CMD_REMOVE_LEARNED (R193): L2_CMD OP 3 removes the learned entry of the key now. -/
  | l2CmdRemoveLearned (init : Initiator)
  /-- L2_CMD_FLUSH_PORT (R193): L2_CMD OP 4 removes every learned entry on one port. -/
  | l2CmdFlushPort (init : Initiator)
  /-- L2_CMD_FLUSH_FID (R193): L2_CMD OP 5 removes every learned entry of one FID. -/
  | l2CmdFlushFid (init : Initiator)
  /-- L2_CMD_BAD_OP (R201): L2_CMD with OP 6 or 7 ends with RESULT 4. -/
  | l2CmdBadOp (init : Initiator) (seven : Bool)
  /-- L2_CMD_COMPLETE (R201): A running L2_CMD operation completes, GO falls and RESULT is written. -/
  | l2CmdComplete
  /-- SEAM_STAGE_INSERT (R199): SEAM_CMD OP 0 stages a prefix insert or replace and builds its nodes. -/
  | seamStageInsert (init : Initiator) (v6 : Bool)
  /-- SEAM_STAGE_DELETE (R199): SEAM_CMD OP 1 stages a prefix deletion. -/
  | seamStageDelete (init : Initiator) (v6 : Bool)
  /-- SEAM_TEST_LOOKUP (R197): SEAM_CMD OP 2 looks up SEAM_ADDR in the current Bench. -/
  | seamTestLookup (init : Initiator) (v6 : Bool)
  /-- SEAM_BAD_OP (R201): SEAM_CMD OP 3 ends with RESULT 5. -/
  | seamBadOp (init : Initiator) (v6 : Bool)
  /-- SEAM_CMD_COMPLETE (R201): A Seam command completes and RESULT is written. -/
  | seamCmdComplete
  /-- CAN_ENABLE (R207): EN written 1 takes a controller to INTEGRATE if the timing checks pass. -/
  | canEnable (init : Initiator) (p : Fin 16) (low : Fin 128)
  /-- CAN_DISABLE (R226): EN written 0 turns the controller OFF and drops queued copies with 0x56. -/
  | canDisable (init : Initiator) (p : Fin 16) (low : Fin 128)
  /-- CAN_INTEGRATE_DONE (R209): 11 consecutive recessive bits take the controller to ACTIVE or LISTEN. -/
  | canIntegrateDone (p : Fin 16)
  /-- CAN_FRAME_RECEIVED (R205): A CAN frame reaches its validation point and becomes an item. -/
  | canFrameReceived (p : Fin 16) (f : CanRx)
  /-- CAN_PROTOCOL_EXCEPTION (R210): A recessive res, FDF or XLF bit triggers a protocol exception or form error. -/
  | canProtocolException (p : Fin 16) (b : PxBit)
  /-- CAN_ARBITRATION (R212): At an arbitration opportunity the controller offers its winning candidate and expired candidates end. -/
  | canArbitration (p : Fin 16) (won : Bool)
  /-- CAN_FRAME_SENT (R213): A transmitted frame reaches the end of its end-of-frame field and ends delivered. -/
  | canFrameSent (p : Fin 16)
  /-- CAN_BUS_ERROR (R213): An error in transmission or reception updates the error counters and may retransmit or end the frame. -/
  | canBusError (p : Fin 16) (transmitting : Bool) (inc : CanInc)
  /-- CAN_BUSOFF_DELAY (R210): BO_DELAY elapses in BUSOFF with BO_AUTO 1 and recovery starts. -/
  | canBusoffDelay (p : Fin 16)
  /-- CAN_RECOVER_CMD (R210): RECOVER starts bus-off recovery. -/
  | canRecoverCmd (init : Initiator) (p : Fin 16)
  /-- CAN_BUSOFF_RECOVERED (R210): The 128th sequence of 11 recessive bits returns the controller to ACTIVE. -/
  | canBusoffRecovered (p : Fin 16)
  /-- CAN_OBJ_TAKE (R216): TAKE copies the selected object into the view and clears NEWDAT and MSGLST. -/
  | canObjTake (init : Initiator) (p : Fin 16)
  /-- CAN_OBJ_STORE (R217): STORE copies the view into the selected object. -/
  | canObjStore (init : Initiator) (p : Fin 16)
  /-- CAN_OBJ_SEND (R217): SEND sets TXRQ and makes the send object a candidate. -/
  | canObjSend (init : Initiator) (p : Fin 16)
  /-- CAN_OBJ_ABORT (R217): ABORT ends a pending send with reason 0x55. -/
  | canObjAbort (init : Initiator) (p : Fin 16)
  /-- CAN_FIFO_POP (R218): A non-speculative read of CAN_FIFOn_POP returns the count and pops the oldest element into the view. -/
  | canFifoPop (init : Initiator) (p : Fin 16) (n : Fin 2) (spec : Bool)
  /-- CAN_FIFO_CONFIG (R218): A FIFO configuration write is checked and makes objects its elements. -/
  | canFifoConfig (init : Initiator) (p : Fin 16) (n : Fin 2) (v : BitVec 96)
  /-- CANT_TXD_DOM_TIMEOUT (R220): The transmit signal stays dominant beyond the TXD timeout and the transmitter switches off. -/
  | cantTxdDomTimeout (p : Fin 16)
  /-- CANT_BUS_DOM_TIMEOUT (R220): The bus stays dominant beyond the bus-dominant timeout and BUS_DOM is set. -/
  | cantBusDomTimeout (p : Fin 16)
  /-- CANT_OVERTEMP (R220): Transceiver over-temperature switches the transmitter off. -/
  | cantOvertemp (p : Fin 16)
  /-- CANT_UNDERVOLTAGE (R220): VBAT_PERM below the transceiver undervoltage threshold switches the transmitter off. -/
  | cantUndervoltage (p : Fin 16)
  /-- CANT_FAULT_CLEAR (R220): The fault condition ends and the transmitter returns. -/
  | cantFaultClear (p : Fin 16) (f : TrxFault)
  /-- LIN_ENABLE (R224): EN written 1 takes the schedule runner to IDLE. -/
  | linEnable (init : Initiator) (p : Fin 12) (low : Fin 128)
  /-- LIN_DISABLE (R224): EN written 0 takes the runner OFF and drops unsent copies with 0x5A. -/
  | linDisable (init : Initiator) (p : Fin 12) (low : Fin 128)
  /-- LIN_SCHED_GO (R225): GO starts a schedule table or records a pending switch. -/
  | linSchedGo (init : Initiator) (p : Fin 12) (t : Fin 8)
  /-- LIN_SLOT_START (R222): A schedule entry's slot starts and its header and response act by TYPE. -/
  | linSlotStart (p : Fin 12)
  /-- LIN_RESPONSE_COMPLETE (R223): A slave response arrives whole with a matching checksum and fills the buffer. -/
  | linResponseComplete (p : Fin 12) (data : BitVec 64)
  /-- LIN_BIT_ERROR (R223): A readback mismatch while the master sends stops the response. -/
  | linBitError (p : Fin 12)
  /-- LIN_SLOT_END (R225): The slot's DELAY ends and the runner moves to the next entry, a pending table or a collision table. -/
  | linSlotEnd (p : Fin 12) (e : LinEnd)
  /-- LIN_HOST_COMMIT (R224): A host write to byte 15 of LIN_FRAMEi commits the buffer data and sets UNSENT. -/
  | linHostCommit (init : Initiator) (p : Fin 12) (e : Fin 64) (data : BitVec 64)
  /-- LIN_SENTRY_WRITE (R221): A schedule entry write is checked against the frame time and the running table. -/
  | linSentryWrite (init : Initiator) (p : Fin 12) (e : Fin 128) (v : BitVec 32)
  /-- LINT_TXD_DOM_TIMEOUT (R228): The LIN transmit signal stays dominant too long and the transmitter switches off. -/
  | lintTxdDomTimeout (p : Fin 12)
  /-- LINT_BUS_DOM_TIMEOUT (R228): The LIN bus stays dominant too long and BUS_DOM is set. -/
  | lintBusDomTimeout (p : Fin 12)
  /-- LINT_OVERTEMP (R220): LIN transceiver over-temperature switches the transmitter off until cooled. -/
  | lintOvertemp (p : Fin 12)
  /-- SE_EXTRACT (R248): A signal engine processes a queued PDU and stores its signals. -/
  | seExtract (e : Fin 4)
  /-- SIGNAL_TIMEOUT (R243): A signal entry's timeout expires and it enters TIMEOUT, holding or substituting DEFAULT. -/
  | signalTimeout (k : Fin 65536)
  /-- SIG_VALUE_WRITE (R243): A write to SIG_VALUE's last byte stores the value into an entry with SRC 6. -/
  | sigValueWrite (init : Initiator) (v : BitVec 64)
  /-- BODY_SOURCE_REPORT (R245): A body unit reports its value to a signal entry through its engine. -/
  | bodySourceReport (k : Fin 65536)
  /-- SINK_CH_ON (R246): A SINK_FN 1 command turns a channel on or off on IX. -/
  | sinkChOn
  /-- SINK_CH_DUTY (R246): A SINK_FN 2 command sets a channel's PWM duty on IX. -/
  | sinkChDuty
  /-- SINK_CH_PHASE (R246): A SINK_FN 3 command sets a channel's PWM phase on IX. -/
  | sinkChPhase
  /-- SINK_ME_MOVE (R246): A SINK_FN 4 command moves a motion engine to a target position. -/
  | sinkMeMove
  /-- SINK_ME_MODE (R246): A SINK_FN 5 command sets a motion engine's mode. -/
  | sinkMeMode
  /-- PDU_CYCLIC_DUE (R249): A PDU entry's cyclic timer falls due and a build is queued. -/
  | pduCyclicDue (j : Fin 8192)
  /-- PDU_SEND_CMD (R249): SEND queues a build of the selected PDU entry. -/
  | pduSendCmd (init : Initiator)
  /-- PDU_MDT_EXPIRY (R249): The MDT timer expires with PEND set and a build is queued. -/
  | pduMdtExpiry (j : Fin 8192)
  /-- PDU_REPEAT_EXPIRY (R249): The repeat timer expires with repeats left and a build is queued. -/
  | pduRepeatExpiry (j : Fin 8192)
  /-- PDU_BUILD (R250): An engine packs a PDU's member signals and the build enters stage 7 with its destinations. -/
  | pduBuild (e : Fin 4)
  /-- WB_REFILL (R268): REFILL fills both buckets of the selected policer. -/
  | wbRefill (init : Initiator)
  /-- STREAM_UNBLOCK (R261): Writing 1 to BLOCKED unblocks a stream filter. -/
  | streamUnblock (init : Initiator)
  /-- MACSEC_SC_WRITE (R285): A write to the last byte of MSEC_SC commits a secure channel under the binding rules. -/
  | macsecScWrite (init : Initiator) (v : BitVec 96)
  /-- MACSEC_SA_WRITE (R285): A write to the last byte of MSEC_SA commits a secure association under the binding rules. -/
  | macsecSaWrite (init : Initiator) (v : BitVec 224)
  /-- MACSEC_SWITCH (R288): SWITCH makes the other association encoding at the next frame boundary. -/
  | macsecSwitch (init : Initiator) (autoSw : Bool)
  /-- AXIS_ENABLE (R295): EN written 1 starts an axis in WAIT or RUN. -/
  | axisEnable (init : Initiator) (n : Fin 7) (low : Fin 128)
  /-- AXIS_DISABLE (R295): EN written 0 stops an axis and drops its armed events with 0x94. -/
  | axisDisable (init : Initiator) (n : Fin 7) (low : Fin 128)
  /-- AXIS_MEASURED_UPDATE (R297): A measured source update refreshes the axis position and speed, including reversals. -/
  | axisMeasuredUpdate (n : Fin 7) (up : Bool)
  /-- AXIS_STALL_TIMEOUT (R295): No measured update for STALL_TO takes the axis to STALLED. -/
  | axisStallTimeout (n : Fin 7)
  /-- AX0_STEP (R302): STEP sets AX0 to AX0_SET and treats passed events under the late rule. -/
  | ax0Step (init : Initiator)
  /-- AX0_MARK (R301): MARK takes AX0 to SYNC. -/
  | ax0Mark (init : Initiator)
  /-- AX0_UNSYNC (R301): UNSYNC takes AX0 to FREE. -/
  | ax0Unsync (init : Initiator)
  /-- AX0_SERVO_UPDATE (R300): A write of AX0_RATE or AX0_SLEW changes the rate or slew remainder. -/
  | ax0ServoUpdate (init : Initiator) (slew : Bool) (v : BitVec 32)
  /-- AX0_HOLDOVER_TIMEOUT (R301): HOLD_TO elapses without a servo update and AX0 enters HOLDOVER. -/
  | ax0HoldoverTimeout
  /-- AX0_COPY_UPDATE (R313): GX updates the IX copy of AX0 every 1 ms. -/
  | ax0CopyUpdate
  /-- GPTP_FRAME_RECEIVED (R301): A gPTP frame with its stamp reaches MP, which runs the gPTP instance. -/
  | gptpFrameReceived (p : Fin 16) (d : List Byte) (sec : BitVec 48) (ns : BitVec 32)
  /-- EVENT_ARM (R303): ARM resolves the target and side and arms the selected event. -/
  | eventArm (init : Initiator)
  /-- EVENT_DISARM (R305): DISARM returns an armed event to IDLE, dropped with 0x90. -/
  | eventDisarm (init : Initiator)
  /-- EVENT_GROUP_ARM (R303): GARM arms every event of the group. -/
  | eventGroupArm (init : Initiator)
  /-- EVENT_GROUP_DISARM (R305): GDIS disarms every event of the group. -/
  | eventGroupDisarm (init : Initiator)
  /-- EVENT_POOL_EVALUATE (R299): The pool evaluates axis positions against armed events and finds crossings. -/
  | eventPoolEvaluate
  /-- ACTION_MARK (R308): A MARK action changes only the tallies and EVP_FIRED. -/
  | actionMark
  /-- ACTION_LAUNCH (R310): A LAUNCH action releases a ring's held frame to stage 2. -/
  | actionLaunch
  /-- ACTION_SEND_PDU (R308): A SEND_PDU action starts a build of a PDU entry. -/
  | actionSendPdu
  /-- ACTION_GATE (R308): A GATE action writes Hopper gate states. -/
  | actionGate
  /-- ACTION_SGATE (R262): An SGATE action writes a stream gate's OPEN bit. -/
  | actionSgate
  /-- ACTION_CH_ON (R308): A CH_ON action turns a channel on or off on IX. -/
  | actionChOn
  /-- ACTION_CH_DUTY (R308): A CH_DUTY action sets a channel's duty on IX. -/
  | actionChDuty
  /-- ACTION_CH_PHASE (R308): A CH_PHASE action sets a channel's phase on IX. -/
  | actionChPhase
  /-- ACTION_SAMPLE (R308): A SAMPLE action samples a switch or analog input and reports it at once. -/
  | actionSample (x : PinReading)
  /-- ACTION_SET_SIGNAL (R308): A SET_SIGNAL action stores a value into a signal entry with SRC 6. -/
  | actionSetSignal
  /-- ACTION_ME_MOVE (R308): An ME_MOVE action starts a motion engine move. -/
  | actionMeMove
  /-- ACTION_ME_MODE (R308): An ME_MODE action sets a motion engine's mode. -/
  | actionMeMode
  /-- ACTION_GROUPS (R309): A GROUPS action disarms and then arms event groups. -/
  | actionGroups
  /-- IX_TIMED_ACTION_APPLY (R311): IX applies an action sent in advance at its tagged AX0 time. -/
  | ixTimedActionApply
  /-- LAUNCH_FETCH (R310): A launch-mode ring fetches its next frame into the launch slot. -/
  | launchFetch (r : Fin 16) (l : List RingDesc)
  /-- STAMP_TXQ_POP (R316): A read of STP_TXQ_POP by the owner pops the oldest transmit stamp into the view. -/
  | stampTxqPop (init : Initiator) (spec : Bool)
  /-- STAMP_WAIT_EXPIRY (R317): STAMP_WAIT ends with the stamp queue full and the copy is sent untimed or the class back-pressured. -/
  | stampWaitExpiry (p : Fin 16) (c : Fin 8)
  /-- STAMP_AGE_EXPIRY (R318): An unread stamp entry ages out to the miss ring. -/
  | stampAgeExpiry (p : Fin 16)
  /-- STAMP_MISS_POP (R318): A read of STP_MISS_POP pops the oldest miss record into the view. -/
  | stampMissPop (init : Initiator) (spec : Bool)
  /-- CH_COMMAND (R323): A write of a channel's ON commands it on or off. -/
  | chCommand (init : Initiator) (n : Fin 72) (on : Bool)
  /-- CH_PERIOD_START (R323): A PWM period starts and new DUTY, PHASE and PERIOD take effect. -/
  | chPeriodStart (n : Fin 72)
  /-- CH_CURRENT_SAMPLE (R332): A channel samples its switch current once per period. -/
  | chCurrentSample (n : Fin 72) (code : Fin 65536)
  /-- CH_SHORT_CIRCUIT (R327): A channel in current limitation for 50 us has a short-circuit fault. -/
  | chShortCircuit (n : Fin 72)
  /-- CH_OVERCURRENT (R327): A current above the threshold for OC_FILT is an overcurrent fault. -/
  | chOvercurrent (n : Fin 72) (ma : Fin 65536)
  /-- CH_THERMAL_TRIP (R327): The channel sensor reaches 175 C and the thermal latch holds the output off. -/
  | chThermalTrip (n : Fin 72)
  /-- CH_THERMAL_LATCH_CLEAR (R328): The sensor falls below 155 C and the channel retries, latches or turns off. -/
  | chThermalLatchClear (n : Fin 72)
  /-- CH_RETRY_DELAY_ELAPSED (R328): The retry DELAY elapses and the channel retries or turns off. -/
  | chRetryDelayElapsed (n : Fin 72)
  /-- CH_FAULT_FREE_SECOND (R328): One second in ON without a fault resets the retry counter. -/
  | chFaultFreeSecond (n : Fin 72)
  /-- CH_CLEAR (R328): CLEAR takes a latched channel to OFF with Count 0. -/
  | chClear (init : Initiator) (n : Fin 72)
  /-- CH_DIAG_CMD (R329): DIAG starts the off-state test at once. -/
  | chDiagCmd (init : Initiator) (n : Fin 72)
  /-- CH_OFF_STATE_TEST (R329): Every 10 ms a channel in OFF connects its test resistor. -/
  | chOffStateTest (n : Fin 72)
  /-- CH_OFF_TEST_COMPLETE (R329): After 200 us the output voltage is compared and the diagnosis result set. -/
  | chOffTestComplete (n : Fin 72) (v1 v2 : Fin 65536)
  /-- HB_MODE_CHANGE (R326): A change of bridge MODE turns off unused switches and starts the dead time. -/
  | hbModeChange (init : Initiator) (k : Fin 6) (mode : Fin 8)
  /-- HB_DEAD_TIME_END (R326): The dead time ends and the new mode's switches turn on. -/
  | hbDeadTimeEnd (k : Fin 6)
  /-- THERM_UPDATE (R333): Every 1 ms THERM estimates die losses and steps model temperatures. -/
  | thermUpdate (slug : BitVec 16)
  /-- THERM_DERATE_STEP (R334): Every 10 ms while derating runs, the lowest PRIO channels lower DER by 1. -/
  | thermDerateStep (k : Fin 6)
  /-- THERM_RESTORE_STEP (R334): Every 100 ms while restoring runs, the highest derated PRIO raises DER by 1. -/
  | thermRestoreStep (k : Fin 6)
  /-- CHG_RESUME (R336): RESUME by MP ends HOLD in every channel. -/
  | chgResume (init : Initiator)
  /-- HOLD_MAX_EXPIRY (R336): The hold timer reaches HOLD_MAX and channels enter LIMP or FAILOFF. -/
  | holdMaxExpiry
  /-- SW_SAMPLE (R340): A MODE 1 input samples every 1 ms and debounces its STATE. -/
  | swSample (n : Fin 64) (high : Bool)
  /-- SW_EDGE (R341): A MODE 2 level change takes effect after FILT. -/
  | swEdge (n : Fin 64) (high : Bool)
  /-- CYCLIC_SENSE_CYCLE (R342): A PARK or DEEP_PARK sensing cycle compares armed inputs and may latch a wake. -/
  | cyclicSenseCycle (levels : BitVec 64)
  /-- AN_CONVERSION (R345): The converter converts an analog input and updates VALUE and its thresholds. -/
  | anConversion (n : Fin 16) (mv : BitVec 16)
  /-- ME_ENABLE (R348): A write of ME_CFG.EN gives or takes the bridge to or from the engine. -/
  | meEnable (init : Initiator) (k : Fin 6) (en : Bool)
  /-- ME_MODE_WRITE (R352): A write of ME_MODE commands stop, park, continuous drive or sweep. -/
  | meModeWrite (init : Initiator) (k : Fin 6) (mode : Fin 8)
  /-- ME_TARGET_WRITE (R352): A write to ME_TARGET's last byte commands a move. -/
  | meTargetWrite (init : Initiator) (k : Fin 6) (target : BitVec 32)
  /-- ME_SETPOS (R353): SETPOS sets the position to REF_POS and NORM in IDLE. -/
  | meSetpos (init : Initiator) (k : Fin 6)
  /-- ME_RAMP_STEP (R349): Every 1 ms the drive duty ramps toward the target. -/
  | meRampStep (k : Fin 6) (volt : Fin 65536)
  /-- ME_RIPPLE_SAMPLE (R350): Every 10 us the engine samples the bridge current and counts ripple crossings. -/
  | meRippleSample (k : Fin 6) (us : Fin 65536) (volt : BitVec 16) (cur : BitVec 32) (crossing : Bool)
  /-- ME_RIPPLE_INSERT (R350): 1.5 x T_exp without a count inserts one count. -/
  | meRippleInsert (k : Fin 6) (us : Fin 65536) (volt : BitVec 16) (cur : BitVec 32)
  /-- ME_HALL_EDGE (R351): A Hall input edge counts one position step. -/
  | meHallEdge (k : Fin 6) (us : Fin 65536) (up : Bool)
  /-- ME_END_STOP (R353): No count or high current for STALL_MS detects an end stop. -/
  | meEndStop (k : Fin 6)
  /-- ME_FORCE_ESTIMATE (R355): Every 1 ms the engine forms a force estimate and may detect a pinch. -/
  | meForceEstimate (k : Fin 6) (ma : Fin 65536)
  /-- ME_REVERSE_BRAKE_END (R352): REV_BRK elapses after a pinch and the engine drives in reverse. -/
  | meReverseBrakeEnd (k : Fin 6)
  /-- ME_PARK_TIMEOUT (R354): PARK_TO passes during a park or sweep and the engine brakes. -/
  | meParkTimeout (k : Fin 6)
  /-- ME_SETTLE_ELAPSED (R352): SETTLE ms without a count end BRAKE, starting a pending command or going IDLE. -/
  | meSettleElapsed (k : Fin 6)
  /-- NETWORK_WAKE_DETECTED (R372): A wake pattern, wake frame or FEC threshold is detected on a network. -/
  | networkWakeDetected (n : Fin 44)
  /-- CANT_WUF_FRAME_DECODED (R372): A transceiver in STANDBY decodes a frame and updates FEC. -/
  | cantWufFrameDecoded (p : Fin 16) (f : WufFrame)
  /-- WAKE_IO_WAKE (R373): WAKE_IO at or above 4.0 V for 50 us is a wake. -/
  | wakeIoWake
  /-- WAKE_IO_PULSE_END (R373): The WAKE_IO drive pulse ends after WIO_PULSE. -/
  | wakeIoPulseEnd
  /-- WK_TIMER_EXPIRY (R374): WK_TIMER expires in PARK or DEEP_PARK as a source event. -/
  | wkTimerExpiry
  /-- PNC_LOCAL_WRITE (R361): A write of WK_PNC_LOCAL that sets a bit is a local source event. -/
  | pncLocalWrite (init : Initiator) (v : BitVec 24)
  /-- PNC_HOLD_EXPIRY (R360): A PNC or network hold expires and its request may end. -/
  | pncHoldExpiry (h : HoldOf)
  /-- NET_READY_DELAY_EXPIRY (R363): DELAY in READY ends and the network moves toward sleep. -/
  | netReadyDelayExpiry (n : Fin 44)
  /-- TRX_SWITCH_COMPLETE (R367): The transceiver switch ends and the network is ASLEEP or wakes at once. -/
  | trxSwitchComplete (n : Fin 44)
  /-- NM_ENABLE (R365): NM_EN written 1 starts the CAN logical ring with an ALIVE message. -/
  | nmEnable (init : Initiator) (v : BitVec 64)
  /-- NM_MESSAGE_RECEIVED (R365): A ring message is received and presence, agreement and PNCs are updated. -/
  | nmMessageReceived (p : Fin 16) (m : NmMsg)
  /-- NM_TTYP_EXPIRY (R365): T_TYP after a ring message addressed to NODE, the module sends its ring message. -/
  | nmTtypExpiry (p : Fin 16)
  /-- NM_TMAX_TIMEOUT (R365): T_MAX without a ring message takes the ring to LIMP. -/
  | nmTmaxTimeout (p : Fin 16)
  /-- NM_TERR_TIMER (R365): In LIMP a LIMPHOME message is sent every T_ERR. -/
  | nmTerrTimer (p : Fin 16)
  /-- NM_TWBS_EXPIRY (R365): T_WBS elapses and the network enters TRX_SWITCH. -/
  | nmTwbsExpiry (p : Fin 16)
  /-- LIN_WAKE_RESTART (R370): 100 ms after a LIN wake signal the runner starts table WTAB. -/
  | linWakeRestart (p : Fin 12)
  /-- PWR_PARK (R382): PARK requests park entry, pending until the conditions hold. -/
  | pwrPark (init : Initiator)
  /-- PWR_CANCEL (R382): CANCEL clears a pending PARK. -/
  | pwrCancel (init : Initiator)
  /-- PARK_DELAY_EXPIRY (R382): With PARK_AUTO the conditions hold for PARK_DLY and park entry begins. -/
  | parkDelayExpiry
  /-- PARK_ENTRY_BEGIN (R383): Park entry stops rings, writes back freshness, copies settings to AON and commits. -/
  | parkEntryBegin
  /-- PARK_ME_WAIT_EXPIRY (R383): ME_WAIT expires before an engine reaches IDLE and its command ends FAULT. -/
  | parkMeWaitExpiry
  /-- IX_SELFTEST_DONE (R390): The IX logic self-test completes and records its result. -/
  | ixSelftestDone (fail : Bool)
  /-- MEMORY_SELFTEST_DONE (R391): The memory self-test completes and the GX logic self-test starts. -/
  | memorySelftestDone (fails : List MemFail)
  /-- GX_SELFTEST_DONE (R383): The GX logic self-test completes, results enter AON and GX power is removed. -/
  | gxSelftestDone (fail : Bool)
  /-- DEEP_AFTER_EXPIRY (R380): DEEP_AFTER elapses in PARK and the module enters DEEP_PARK. -/
  | deepAfterExpiry
  /-- STARTUP_CHECK_DONE (R388): The cold-start SRAM check completes and the image load runs. -/
  | startupCheckDone (fails : List MemFail)
  /-- SOFT_RESET (R385): SOFT starts a SOFT reset of the IX core and GX. -/
  | softReset (init : Initiator)
  /-- MPWARM_RESET (R385): MPWARM resets the MP pair while forwarding continues and channels enter HOLD. -/
  | mpwarmReset (src : Option Initiator)
  /-- MP_RESTART (R385): MP runs again from its active bank after an MPWARM reset. -/
  | mpRestart
  /-- TRM_CLAIM (R399): A write to TRM_PTR while the buffer is free claims it for the initiator. -/
  | trmClaim (init : Initiator) (ptr : Fin 8192)
  /-- TRM_DATA_ACCESS (R399): A TRM_DATA access stores or returns byte PTR and advances PTR. -/
  | trmDataAccess (init : Initiator) (w : Option Byte) (spec : Bool)
  /-- TRM_LEASE_EXPIRY (R399): The trust buffer lease expires and the buffer is cleared and released. -/
  | trmLeaseExpiry
  /-- TRM_LC_ADVANCE (R397): OP 1 advances the life-cycle state after its checks. -/
  | trmLcAdvance (init : Initiator) (ecdsaOk : Bool) (hssOk : Bool)
  /-- TRM_ROOT_INSTALL (R402): OP 2 installs a root secret unwrapped from the message. -/
  | trmRootInstall (init : Initiator) (ecdsaOk : Bool) (hssOk : Bool) (live : Fin 8)
  /-- TRM_DEBUG_OPEN (R402): OP 3 opens debug at the token's level. -/
  | trmDebugOpen (init : Initiator) (ecdsaOk : Bool) (hssOk : Bool)
  /-- TRM_DEBUG_CLOSE (R402): OP 4 closes an open debug session. -/
  | trmDebugClose (init : Initiator)
  /-- TRM_NONCE (R399): OP 5 writes a fresh nonce and sets NV. -/
  | trmNonce (init : Initiator)
  /-- TRM_HSS_INSTALL (R410): OP 6 creates a new HSS key with index 0. -/
  | trmHssInstall (init : Initiator) (ecdsaOk : Bool) (hssOk : Bool)
  /-- TRM_ATTEST (R409): OP 7 writes and signs an attestation statement into the buffer. -/
  | trmAttest (init : Initiator)
  /-- TRM_RELEASE (R399): OP 8 releases the trust message buffer. -/
  | trmRelease (init : Initiator)
  /-- TRM_BAD_OP (R401): GO with an undefined OP ends with RESULT 1. -/
  | trmBadOp (init : Initiator) (op : Fin 8)
  /-- TRUST_OP_COMPLETE (R401): A running trust operation ends, GO falls and RESULT is written. -/
  | trustOpComplete (writeOk : Bool)
  /-- DEBUG_SESSION_EXPIRY (R412): The debug session timer expires and acts as DEBUG_CLOSE. -/
  | debugSessionExpiry
  /-- KS_SHADOW_WRITE (R405): A KS_SHADOW write takes the lease and the last byte starts the unwrap. -/
  | ksShadowWrite (init : Initiator) (k : Fin 40) (v : Byte)
  /-- KS_UNWRAP_DONE (R405): The shadow unwrap ends in VERIFIED or FAILED. -/
  | ksUnwrapDone (k : Fin 256)
  /-- KS_COMMIT (R405): COMMIT moves a verified key into the slot and raises VER. -/
  | ksCommit (init : Initiator)
  /-- KS_DISCARD (R405): DISCARD empties the shadow. -/
  | ksDiscard (init : Initiator)
  /-- KS_PERSIST (R406): PERSIST writes the slot's key as a new blob into the trust area. -/
  | ksPersist (init : Initiator)
  /-- KS_SHADOW_LEASE_EXPIRY (R405): The shadow lease expires, the shadow is zeroed and LEASE set. -/
  | ksShadowLeaseExpiry (k : Fin 256)
  /-- TAMPER_DETECTED (R408): A tamper source fires and secrets are zeroed, the mark set and GX restarted. -/
  | tamperDetected (src : Fin 3)
  /-- UPD_BLOCK_RECEIVED (R419): An update block is checked, staged, forwarded and acknowledged. flashOk: the write into the staging area succeeds. -/
  | updBlockReceived (flashOk : Bool)
  /-- UPD_ACK_RECEIVED (R419): Downstream acknowledges forwarded blocks, which end delivered. -/
  | updAckReceived
  /-- UPD_BLOCK_RESEND (R419): A block is resent 50 ms after its last sending or fails with 0xA4. -/
  | updBlockResend (stream : BitVec 16) (blk : BitVec 32)
  /-- UPD_STREAM_TIMEOUT (R419): No block for 2 s discards the staged data and sets STREAM_TO. -/
  | updStreamTimeout
  /-- UPD_VERIFY_DONE (R419): Whole-package verification ends in STAGED or IDLE. ec, hs, digest: what the check found. -/
  | updVerifyDone (ec : Bool) (hs : Bool) (digest : Bool)
  /-- UPD_INSTALL_DONE (R420): Installation and read-back finish and the package is INSTALLED. ok: the read-back matches. -/
  | updInstallDone (ok : Bool)
  /-- UPD_CONFIRM (R424): CONFIRM by MP commits the trial bank and raises the floors. -/
  | updConfirm (init : Initiator)
  /-- UPD_DISCARD (R419): DISCARD returns the staging area to IDLE. -/
  | updDiscard (init : Initiator)
  /-- UPD_ARM (R421): ARM schedules activation at ACT_TIME. -/
  | updArm (init : Initiator)
  /-- UPD_CANCEL (R421): CANCEL returns an armed activation to INSTALLED. -/
  | updCancel (init : Initiator)
  /-- UPD_RECOVER (R423): RECOVER loads a unit in ROM recovery from the named bank. -/
  | updRecover (init : Initiator)
  /-- UPD_ACTIVATION_START (R422): AX0 reaches ACT_TIME and the activation sequence starts. -/
  | updActivationStart
  /-- UPD_ACTIVATION_STEP (R422): An activation step ends and the next targeted step begins. fails: TYPEs whose image fails its check as it is loaded; image: what the slot of a CFG step holds. -/
  | updActivationStep (fails : List Byte) (image : Option SlotImage)
  /-- UPD_TRIAL_TIMEOUT (R424): The confirm window expires and fallback to the former bank runs. -/
  | updTrialTimeout
  /-- KMP_HELLO_TIMER (R432): In HELLO a HELLO frame is sent every 10 ms. -/
  | kmpHelloTimer (n : Fin 16)
  /-- KMP_KEEPALIVE_TIMER (R430): A KEEPALIVE is sent after 10 ms idle or 20 us after an unacknowledged frame. -/
  | kmpKeepaliveTimer (n : Fin 16)
  /-- KMP_RESEND_TIMER (R430): Unacknowledged frames of a lane are resent after 500 us, or the peer is lost. k: the lane P, C or U. -/
  | kmpResendTimer (n : Fin 16) (k : Fin 3)
  /-- KMP_PEER_TIMEOUT (R432): No KMP frame for PEER_TO takes the peer back to HELLO with accounting. -/
  | kmpPeerTimeout (n : Fin 16)
  /-- KMP_HELLO_RECEIVED (R432): A HELLO is received and the version and features are agreed. -/
  | kmpHelloReceived (n : Fin 16) (f : KmpRx)
  /-- KMP_KEEPALIVE_RECEIVED (R430): A KEEPALIVE carries acknowledgements for the three lanes. -/
  | kmpKeepaliveReceived (n : Fin 16) (f : KmpRx)
  /-- KMP_WRITE_RECEIVED (R438): An inbound WRITE is checked whole and applied at the target. -/
  | kmpWriteReceived (n : Fin 16) (f : KmpRx)
  /-- KMP_READ_RECEIVED (R444): An inbound READ takes a buffer entry or is answered RETRY. -/
  | kmpReadReceived (n : Fin 16) (f : KmpRx)
  /-- KMP_INBOUND_READ_PERFORM (R443): A buffered READ is performed after its fence and its RESPONSE is sent. -/
  | kmpInboundReadPerform (n : Fin 16)
  /-- KMP_INBOUND_LEASE_EXPIRY (R458): An inbound read entry's lease expires and the entry is freed. -/
  | kmpInboundLeaseExpiry (n : Fin 16)
  /-- KMP_RESPONSE_RECEIVED (R445): A RESPONSE completes, retries or fails an outbound read. -/
  | kmpResponseReceived (n : Fin 16) (f : KmpRx)
  /-- KMP_EVENT_RECEIVED (R446): An EVENT stores the peer's summary in DRK_PSUM and may set DRK_PCHG. -/
  | kmpEventReceived (n : Fin 16) (f : KmpRx)
  /-- KMP_UPD_SEG_RECEIVED (R448): An UPD_SEG extends a serialised block and passes a complete one to UPD. -/
  | kmpUpdSegReceived (n : Fin 16) (f : KmpRx)
  /-- KMP_UPD_ACK_RECEIVED (R448): An UPD_ACK carries the update acknowledgement to UPD. -/
  | kmpUpdAckReceived (n : Fin 16) (f : KmpRx)
  /-- KMP_RETRY_RESEND (R445): After DRK_RETRY_GAP a refused READ is sent again with a new TAG. k: the READ's tracker. -/
  | kmpRetryResend (k : Fin 16)
  /-- KMP_READ_TIMEOUT (R445): RD_TO passes and the remote read fails with 0xB2. k: the outbound READ, those that wait for a tracker counting on from the 16 trackers in use. -/
  | kmpReadTimeout (k : BitVec 12)
  /-- KMP_PREFETCH_EXPIRY (R441): A held prefetch block expires after 2 us. k: the held block, the oldest first. -/
  | kmpPrefetchExpiry (k : BitVec 12)
  /-- KMP_EVENT_SEND (R446): A root summary change sends an EVENT to each peer with events agreed. -/
  | kmpEventSend
  /-- KMP_POLL_TIMER (R447): Every POLL_MS a poll READ of the peer's root summary is sent. -/
  | kmpPollTimer (n : Fin 16)
  /-- DRK_MAP_WRITE (R435): A write to DRK_MAP's last byte commits a remote window mapping and fetches its descriptor. -/
  | drkMapWrite (init : Initiator) (v : BitVec 32)
  /-- UNIT_WATCHDOG_EXPIRY (R459): A unit completes none of its work for its limit and enters RECOVERY. -/
  | unitWatchdogExpiry (w : BitVec 12)
  /-- WD_KICK (R460): MP writes 0x5A to SUP_WD_KICK and the watchdog period restarts. -/
  | wdKick (init : Initiator) (v : Byte)
  /-- MP_WATCHDOG_EXPIRY (R460): The MP watchdog expires, first applying MPWARM and then a WDOG reset. -/
  | mpWatchdogExpiry
  /-- HW_WATCHDOG_EXPIRY (R461): The AON hardware watchdog expires and resets the IX core and GX. -/
  | hwWatchdogExpiry
  /-- SPOIL_POP (R457): A read of SPOIL_POP pops the oldest Spoil record into the view. -/
  | spoilPop (init : Initiator) (spec : Bool)
  /-- TROUBLE_POP (R453): A read of TRB_POP pops the oldest trouble record into the view. -/
  | troublePop (init : Initiator) (spec : Bool)
  /-- LEGACY_WRITE_FRAME (R465): A 3-byte legacy write frame is applied after SPI_CS_N rises. bytes: the frame, W of its first byte being 1. -/
  | legacyWriteFrame (bytes : List Byte)
  /-- LEGACY_READ_FRAME (R465): A 3-byte legacy read frame is performed and its result held for the next frame. bytes: the frame, W of its first byte being 0. -/
  | legacyReadFrame (bytes : List Byte)
  /-- LEGACY_ROUTE_SLOT_COMMIT (R468): A write to byte 15 of a route slot stages and commits its native entries. k: the slot; v: byte 15. -/
  | legacyRouteSlotCommit (k : Byte) (v : Byte)
  /-- LEGACY_MAILBOX_TAKE (R471): A read of a mailbox's first byte performs TAKE on its object. -/
  | legacyMailboxTake (p : Fin 6) (m : Fin 16)
  /-- LEGACY_MAILBOX_STORE (R471): A write of a mailbox's first byte performs STORE and optionally SEND. -/
  | legacyMailboxStore (p : Fin 6) (m : Fin 16) (v : Byte)
  /-- LEGACY_COUNTER_SNAPSHOT (R470): A read of a counter group's first byte snapshots and clears its four counters. k: 0 to 5 the CAN ports, 6 to 9 the LIN ports. -/
  | legacyCounterSnapshot (k : Fin 10)
  /-- LEGACY_OUT_DUTY_WRITE (R472): A write of OUT_DUTYn sets the channel's ON, DUTY and PERIOD. -/
  | legacyOutDutyWrite (n : Fin 24) (d : Byte)
  /-- LEGACY_CAN_ENABLE (R469): A legacy CAN enable translates the XB16 timing and enables the port or answers ERR. -/
  | legacyCanEnable (p : Fin 6) (listen : Bool)
  /-- LEGACY_SRST (R476): SRST applies a SOFT reset in C1 or a reset of the legacy windows in C2. -/
  | legacySrst
  /-- LEGACY_SLEEP (R467): XB_CTRL SLEEP writes PWR_CTRL.PARK in C1 and is refused in C2. -/
  | legacySleep
  /-- LEGACY_UPD_DATA (R477): Bytes written to XB_UPD_DATA form update blocks handed to UPD. -/
  | legacyUpdData (v : Byte)
  /-- LEGACY_UPD_ACTIVATE (R477): XB_UPD_ACT arms the package for activation 1 ms ahead. -/
  | legacyUpdActivate
  /-- PIN_RESET_END (R57): RST_N returns high after a PIN reset, and IX releases GX from reset once it has stayed high for 100 us. -/
  | pinResetEnd
  /-- PCIE_PERST_RELEASE (R99): PCIE_PERST_N rises and the PCIe face leaves reset so that link training can start. -/
  | pciePerstRelease
  /-- LINT_FAULT_CLEAR (R228): A LIN transceiver's transmit signal returns recessive or its die cools, and its transmitter returns. -/
  | lintFaultClear (p : Fin 12) (f : TrxFault)
  /-- KS_PERSIST_DONE (R406): The flash write of a PERSIST ends, the blob copy is in place or PERS_FAIL is set, and the command reads 0. -/
  | ksPersistDone (ok : Bool)
  /-- ROM_RECOVERY_LOAD_DONE (R423): A load started by RECOVER succeeds and the unit leaves ROM recovery and does its work again. ok: the load succeeds. -/
  | romRecoveryLoadDone (ok : Bool)
  deriving DecidableEq, Repr

end Sys2Proof
end

