-- ==== Sys2Proof/WellFormed.lean ====
section
/-! DEFINITION. Which commands the outside can send: the lengths that the media, the formats and the tables of the spec bound. The operands'
types bound the rest. Every meaning is total, so nothing stops on an ill-formed command. -/

namespace Sys2Proof

/-- The longest frame a MAC hands up, with margin over ETH_MAX_FRAME. -/
def maxFrame : Nat := 16384

/-- The data lengths of CAN FD by DLC. -/
def fdLength (dlc : Nat) : Nat := [0, 1, 2, 3, 4, 5, 6, 7, 8, 12, 16, 20, 24, 32, 48, 64].getD dlc 0

/-- A CAN frame has the data its format and DLC give it; a base identifier has 11 bits. -/
def CanRx.fits (f : CanRx) : Bool :=
  (f.ide || f.id.toNat < 2048) &&
    (if f.rtr then f.fmt.val == 0 && f.data == []
     else if f.fmt.val = 0 then f.data.length == min 8 f.dlc.val
     else if f.fmt.val = 1 then f.data.length == fdLength f.dlc.val
     else decide (1 ≤ f.data.length) && decide (f.data.length ≤ 2048))

def EthRx.fits : EthRx → Bool
  | .whole d _ _ _ | .first d _ | .more d | .last d _ _ => decide (d.length ≤ maxFrame)

/-- A descriptor's buffer holds no more bytes than LEN says. -/
def RingDesc.fits (d : RingDesc) : Bool := decide (d.mem.length ≤ d.len.toNat)

def KmpRx.fits (f : KmpRx) : Bool := decide (f.body.length ≤ maxFrame)

/-- A reading of a block gives 4,096 bytes (R109). -/
def blockFits (b : BlockReads) : Bool := b.all fun r => r.length == 4096

/-- A section's blocks lie in its slot of 2,048 (R107, R109). -/
def ImgSection.fits (x : ImgSection) : Bool := decide (x.blocks.length ≤ 2048) && x.blocks.all blockFits

/-- A slot's first reading is a block, or a bare image of at most 16,384 records; an image has at most 200 sections (R109, R110, R473). -/
def SlotImage.fits (x : SlotImage) : Bool :=
  x.head.all (fun r => decide (r.length ≤ 49168)) && decide (x.sects.length ≤ 200) && x.sects.all ImgSection.fits

/-- TYPEs of R415. -/
def typesFit (l : List Byte) : Bool := l.all fun t => decide (1 ≤ t.toNat) && decide (t.toNat ≤ 11)

/-- The command is one that the outside can send. -/
def Instr.wellFormed : Instr → Bool
  | .pcieReadRequest _ _ len _ => len.toNat ≤ 4096
  | .pcieWriteRequest _ _ data => data.length ≤ 4096
  | .ringDescFetch _ _ d => d.fits
  | .nvmSfdpStepUp _ fw fails => (match fw with | some d => decide (d.images.length ≤ 11) | none => true) && typesFit fails
  | .configSlotSelect a b => a.fits && b.fits
  | .stageEntryWrite _ _ data => 1 ≤ data.length && data.length ≤ 128
  | .ethFrameReceived _ x => x.fits
  | .canFrameReceived _ f => f.fits
  | .gptpFrameReceived _ d _ ns => decide (d.length ≤ maxFrame) && decide (ns.toNat < 1000000000)
  | .launchFetch _ l => l.all RingDesc.fits
  | .updActivationStep fails image => typesFit fails && (match image with | some x => x.fits | none => true)
  | .kmpHelloReceived _ f => f.fits
  | .kmpKeepaliveReceived _ f => f.fits
  | .kmpWriteReceived _ f => f.fits
  | .kmpReadReceived _ f => f.fits
  | .kmpResponseReceived _ f => f.fits
  | .kmpEventReceived _ f => f.fits
  | .kmpUpdSegReceived _ f => f.fits
  | .kmpUpdAckReceived _ f => f.fits
  | .registerWrite .. | .liveValueMsbRead .. | .tallySnapshotRead .. | .speculativeRead .. | .interfaceHandshake ..
  | .fanoutStart .. | .fanoutWindowWrite .. | .fanoutComplete .. | .summaryPropagate .. | .unitReset .. | .unitReloadComplete ..
  | .scrubCheck .. | .gxHeartbeatLost | .powerOnReset .. | .aonSupplyLost | .pinReset | .borBegin | .borEnd | .modeSample ..
  | .limpInEdge .. | .safeNUpdate | .gxPgoodHigh | .gxResetRelease .. | .gxPgoodTimeout | .gxPgoodLost | .offTimeEnd | .clockLoss
  | .spiWriteFrame .. | .spiReadFrame .. | .spiFrameTooShort .. | .spiWriteApply | .delayedReadPerform | .delayedReadLeaseExpiry
  | .pciePerstAssert | .pcieLinkDown | .pcieLinkUp .. | .ringTailWrite .. | .ringEnSet .. | .ringEnClear .. | .ringWriteback ..
  | .hostDmaError .. | .ringDescLeaseExpiry .. | .imodIntervalEnd .. | .msixPendingSend .. | .irqNUpdate | .configPhaseInstall ..
  | .stageSelect .. | .tblAcquire .. | .tblCommit .. | .tblAbort .. | .tblRelease .. | .tblLeaseExpiry | .commitDrainEnd
  | .commitReclaimDone | .splitTableSwitch | .flowHoldExpiry | .cutThroughEnqueue | .frameClassify | .authVerify ..
  | .authAppend .. | .authCeilWrite .. | .authEpochWrite .. | .keySessionLeaseExpiry .. | .egressDequeue ..
  | .egressLastByteSent .. | .ctUnderrun .. | .stockpileEccUncorr .. | .stockpileLeaseExpiry .. | .hopperFlush ..
  | .flushComplete .. | .frerResetTimeout .. | .ethEnable .. | .ethDisable .. | .ethLinkUp .. | .ethLinkTimeout ..
  | .ethLinkLost .. | .ethSleepCmd .. | .ethWakeCmd .. | .ethRetrainCmd .. | .ethPhyResetCmd .. | .phyResetPulseEnd ..
  | .phyRstRelease | .ethLoopWrite .. | .ethSleepDrainEnd .. | .ethSleepDrainTimeout .. | .ethSleepAckReceived ..
  | .ethSleepAckTimeout .. | .ethSleepRequestReceived .. | .ethWakeRequestReceived .. | .ethWakePulseDetected .. | .ethPhyInt ..
  | .mdioGo .. | .mdioDone .. | .learnEngineWrite | .agerVisit .. | .ageRemoval | .l2RehashStart .. | .rehashPassEnd
  | .rehashStallRetry | .l2CmdRead .. | .l2CmdStageStatic .. | .l2CmdStageDelete .. | .l2CmdRemoveLearned .. | .l2CmdFlushPort ..
  | .l2CmdFlushFid .. | .l2CmdBadOp .. | .l2CmdComplete | .seamStageInsert .. | .seamStageDelete .. | .seamTestLookup ..
  | .seamBadOp .. | .seamCmdComplete | .canEnable .. | .canDisable .. | .canIntegrateDone .. | .canProtocolException ..
  | .canArbitration .. | .canFrameSent .. | .canBusError .. | .canBusoffDelay .. | .canRecoverCmd .. | .canBusoffRecovered ..
  | .canObjTake .. | .canObjStore .. | .canObjSend .. | .canObjAbort .. | .canFifoPop .. | .canFifoConfig ..
  | .cantTxdDomTimeout .. | .cantBusDomTimeout .. | .cantOvertemp .. | .cantUndervoltage .. | .cantFaultClear .. | .linEnable ..
  | .linDisable .. | .linSchedGo .. | .linSlotStart .. | .linResponseComplete .. | .linBitError .. | .linSlotEnd ..
  | .linHostCommit .. | .linSentryWrite .. | .lintTxdDomTimeout .. | .lintBusDomTimeout .. | .lintOvertemp .. | .seExtract ..
  | .signalTimeout .. | .sigValueWrite .. | .bodySourceReport .. | .sinkChOn | .sinkChDuty | .sinkChPhase | .sinkMeMove
  | .sinkMeMode | .pduCyclicDue .. | .pduSendCmd .. | .pduMdtExpiry .. | .pduRepeatExpiry .. | .pduBuild .. | .wbRefill ..
  | .streamUnblock .. | .macsecScWrite .. | .macsecSaWrite .. | .macsecSwitch .. | .axisEnable .. | .axisDisable ..
  | .axisMeasuredUpdate .. | .axisStallTimeout .. | .ax0Step .. | .ax0Mark .. | .ax0Unsync .. | .ax0ServoUpdate ..
  | .ax0HoldoverTimeout | .ax0CopyUpdate | .eventArm .. | .eventDisarm .. | .eventGroupArm .. | .eventGroupDisarm ..
  | .eventPoolEvaluate | .actionMark | .actionLaunch | .actionSendPdu | .actionGate | .actionSgate | .actionChOn | .actionChDuty
  | .actionChPhase | .actionSample .. | .actionSetSignal | .actionMeMove | .actionMeMode | .actionGroups | .ixTimedActionApply
  | .stampTxqPop .. | .stampWaitExpiry .. | .stampAgeExpiry .. | .stampMissPop .. | .chCommand .. | .chPeriodStart ..
  | .chCurrentSample .. | .chShortCircuit .. | .chOvercurrent .. | .chThermalTrip .. | .chThermalLatchClear ..
  | .chRetryDelayElapsed .. | .chFaultFreeSecond .. | .chClear .. | .chDiagCmd .. | .chOffStateTest .. | .chOffTestComplete ..
  | .hbModeChange .. | .hbDeadTimeEnd .. | .thermUpdate .. | .thermDerateStep .. | .thermRestoreStep .. | .chgResume ..
  | .holdMaxExpiry | .swSample .. | .swEdge .. | .cyclicSenseCycle .. | .anConversion .. | .meEnable .. | .meModeWrite ..
  | .meTargetWrite .. | .meSetpos .. | .meRampStep .. | .meRippleSample .. | .meRippleInsert .. | .meHallEdge .. | .meEndStop ..
  | .meForceEstimate .. | .meReverseBrakeEnd .. | .meParkTimeout .. | .meSettleElapsed .. | .networkWakeDetected ..
  | .cantWufFrameDecoded .. | .wakeIoWake | .wakeIoPulseEnd | .wkTimerExpiry | .pncLocalWrite .. | .pncHoldExpiry ..
  | .netReadyDelayExpiry .. | .trxSwitchComplete .. | .nmEnable .. | .nmMessageReceived .. | .nmTtypExpiry .. | .nmTmaxTimeout ..
  | .nmTerrTimer .. | .nmTwbsExpiry .. | .linWakeRestart .. | .pwrPark .. | .pwrCancel .. | .parkDelayExpiry | .parkEntryBegin
  | .parkMeWaitExpiry | .ixSelftestDone .. | .memorySelftestDone .. | .gxSelftestDone .. | .deepAfterExpiry | .startupCheckDone ..
  | .softReset .. | .mpwarmReset .. | .mpRestart | .trmClaim .. | .trmDataAccess .. | .trmLeaseExpiry | .trmLcAdvance ..
  | .trmRootInstall .. | .trmDebugOpen .. | .trmDebugClose .. | .trmNonce .. | .trmHssInstall .. | .trmAttest .. | .trmRelease ..
  | .trmBadOp .. | .trustOpComplete .. | .debugSessionExpiry | .ksShadowWrite .. | .ksUnwrapDone .. | .ksCommit .. | .ksDiscard ..
  | .ksPersist .. | .ksShadowLeaseExpiry .. | .tamperDetected .. | .updBlockReceived .. | .updAckReceived | .updBlockResend ..
  | .updStreamTimeout | .updVerifyDone .. | .updInstallDone .. | .updConfirm .. | .updDiscard .. | .updArm .. | .updCancel ..
  | .updRecover .. | .updActivationStart | .updTrialTimeout | .kmpHelloTimer .. | .kmpKeepaliveTimer .. | .kmpResendTimer ..
  | .kmpPeerTimeout .. | .kmpInboundReadPerform .. | .kmpInboundLeaseExpiry .. | .kmpRetryResend .. | .kmpReadTimeout ..
  | .kmpPrefetchExpiry .. | .kmpEventSend | .kmpPollTimer .. | .drkMapWrite .. | .unitWatchdogExpiry .. | .wdKick ..
  | .mpWatchdogExpiry | .hwWatchdogExpiry | .spoilPop .. | .troublePop .. | .legacyWriteFrame .. | .legacyReadFrame ..
  | .legacyRouteSlotCommit .. | .legacyMailboxTake .. | .legacyMailboxStore .. | .legacyCounterSnapshot ..
  | .legacyOutDutyWrite .. | .legacyCanEnable .. | .legacySrst | .legacySleep | .legacyUpdData .. | .legacyUpdActivate
  | .pinResetEnd | .pciePerstRelease | .lintFaultClear .. | .ksPersistDone .. | .romRecoveryLoadDone .. => true

end Sys2Proof
end

