-- ==== Sys2Proof/Config.lean ====
section
/-! DEFINITION. What the spec leaves to the implementation or to other standards, as constants without a body: nothing can be
proved of their values, so a statement holds whatever they are. -/

namespace Sys2Proof

/-- The cell that becomes the first cell of the model's n-th frame: R132 lets the Stockpile choose. -/
opaque Config.firstCell : Nat → BitVec 16

/-- CMAC-AES-128 (NIST SP 800-38B) of a message, named by R274 and defined outside the spec: key, message bytes. -/
opaque Config.cmac : Nat → List Nat → BitVec 128

/-- The ICV of GCM (IEEE 802.1AE-2018), named by R286: suite, key, IV, authenticated bytes, secured bytes. -/
opaque Config.gcmIcv : Nat → Nat → Nat → List Nat → List Nat → BitVec 128

/-- The GCM key stream over n bytes: suite, key, IV, n. Encryption and decryption XOR with it. -/
opaque Config.gcmStream : Nat → Nat → Nat → Nat → List (BitVec 8)

/-- SHA-384 of a byte sequence (R112, R409). -/
opaque Config.sha384 : List Nat → BitVec 384

/-- The signature over a statement under the HSS key with an index (R409, R410). -/
opaque Config.hssSign : Nat → List Nat → List (BitVec 8)

/-- The n-th draw of the true random generator: nonces and new secrets (R399, R410). -/
opaque Config.random : Nat → BitVec 384

/-- The key that AES-256 key unwrapping (RFC 3394) gives under a wrapping key, none where its integrity check fails (R400, R404,
R405). -/
opaque Config.unwrap : Nat → List Nat → Option (BitVec 256)

/-- AES-256 key wrapping (RFC 3394): wrapping key, key, wrapped length. -/
opaque Config.wrap : Nat → Nat → Nat → List (BitVec 8)

/-- The wrapping key of a blob (R404): root secret, slot, attribute word. -/
opaque Config.slotKek : Nat → Nat → Nat → BitVec 256

/-- The key-encryption key of ROOT_INSTALL (R400): ephemeral public key, nonce, ARG. The identity key enters with the device. -/
opaque Config.rootKek : List Nat → Nat → Nat → BitVec 256

/-- The ECDSA P-384 signature of the identity key over a message (R409, R410). -/
opaque Config.identitySign : List Nat → List (BitVec 8)

/-- The public key of the n-th HSS key the module makes (R410). -/
opaque Config.hssPublic : Nat → List (BitVec 8)

/-- Class and instance under which the statement of R409 lists the active configuration image: R409 gives the fields, no rule their
values. -/
opaque Config.imageClass : BitVec 24

/-- SHA-384 of a configuration image, by its header (R409). -/
opaque Config.imageSha : List Nat → BitVec 384

/-- The row of a memory that a word lies in: memory, word address (R391, R393). -/
opaque Config.memRow : Nat → Nat → Nat

/-- The column of a memory that a bit of a word lies in: memory, word address, bit. -/
opaque Config.memColumn : Nat → Nat → Nat → Nat

/-- The cells of a Stockpile row. -/
opaque Config.rowCells : Nat → Nat

/-- The entries a row of a table memory holds, as entry * 4096 + window. -/
opaque Config.rowEntries : Nat → Nat → List Nat

/-- DEVICE_ID, programmed in OTP (R395). -/
opaque Config.deviceId : BitVec 128

/-- The identity public key (R397), as the device generates it. -/
opaque Config.identityKey : List (BitVec 8)

/-- Traffic class of the gPTP messages that MP sends; the spec gives them none. -/
opaque Config.ptpClass : BitVec 3

/-- Which of the stores of PCIe configuration the vendor and device identifiers hold: fixed in silicon (R96). -/
opaque Config.pciIds : BitVec 32

/-- The class code that the PCIe endpoint reports (R96). -/
def Config.pciClass : BitVec 24 := 0x028000

/-- AX0 rounds the part of a tick below its 32 fractional bits up, by the fraction and RATE (R300 gives no rounding). -/
opaque Config.rateRound : Nat → Int → Bool

/-- The converter rounds a code up, by the exact code times the range (R345 gives no rounding). -/
opaque Config.adcRound : Nat → Bool

/-- A value the spec leaves free, drawn at the n-th draw. -/
opaque Config.freeValue : Nat → BitVec 64

end Sys2Proof
end

