-- ==== Sys2Proof/Machine/Bits.lean ====
section
/-! DEFINITION. Bit fields of values held as natural numbers, byte order, signed readings, and the two checksums the
spec gives in full (CRC-8 of the SPI face, R92, and CRC-32C, R185). A value wider than one byte has its most significant byte
at the lowest address (R4). -/

namespace Sys2Proof.Machine

/-- Bits [hi:lo] of a value. -/
def bits (v hi lo : Nat) : Nat := v / 2 ^ lo % 2 ^ (hi + 1 - lo)

/-- The value with bits [hi:lo] replaced. -/
def putBits (v hi lo x : Nat) : Nat :=
  v / 2 ^ (hi + 1) * 2 ^ (hi + 1) + x % 2 ^ (hi + 1 - lo) * 2 ^ lo + v % 2 ^ lo

/-- Bit k of a value. -/
def bit (v k : Nat) : Bool := v / 2 ^ k % 2 == 1

def b2n (b : Bool) : Nat := if b then 1 else 0

/-- Sets bit k. -/
def setBit (v k : Nat) : Nat := if bit v k then v else v + 2 ^ k

/-- Clears bit k. -/
def clrBit (v k : Nat) : Nat := if bit v k then v - 2 ^ k else v

/-- Byte b of a value of len bytes, byte 0 the most significant (R4). -/
def byteOf (v len b : Nat) : Nat := v / 256 ^ (len - 1 - b) % 256

/-- The value of a sequence of bytes, the first the most significant (R4). -/
def beNat (l : List Nat) : Nat := l.foldl (fun a b => a * 256 + b) 0

/-- The value of a sequence of bytes, the first the least significant. -/
def leNat : List Nat → Nat
  | [] => 0
  | b :: r => b + 256 * leNat r

/-- A value as len bytes, the most significant first. -/
def toBytes (v len : Nat) : List Nat := (List.range len).map (byteOf v len)

/-- Two's complement reading of w bits. -/
def toSigned (v w : Nat) : Int := if v % 2 ^ w < 2 ^ (w - 1) then (v % 2 ^ w : Nat) else ((v % 2 ^ w : Nat) : Int) - (2 ^ w : Nat)

/-- Two's complement writing of w bits. -/
def ofSigned (i : Int) (w : Nat) : Nat := (i % ((2 ^ w : Nat) : Int)).toNat

/-- Adds one and stays at the all-ones value of w bits (R13). -/
def satInc (v w : Nat) : Nat := if v + 1 < 2 ^ w then v + 1 else 2 ^ w - 1

/-- Adds n and stays at the all-ones value of w bits (R13). -/
def satAdd (v n w : Nat) : Nat := if v + n < 2 ^ w then v + n else 2 ^ w - 1

/-- n items rounded up to units of d. -/
def ceilDiv (n d : Nat) : Nat := (n + d - 1) / d

def xorBits (a b : Nat) : Nat := a ^^^ b

/-- One bit of a CRC register of w bits, most significant bit first. -/
def crcBitMsb (w poly c : Nat) : Nat :=
  if bit c (w - 1) then xorBits (c * 2 % 2 ^ w) poly else c * 2 % 2 ^ w

def iter {α : Type} (f : α → α) : Nat → α → α
  | 0, a => a
  | n + 1, a => iter f n (f a)

/-- CRC-8 with polynomial 0x2F, initial value 0xFF and final XOR 0xFF, most significant bit first (R92). -/
def crc8 (l : List Nat) : Nat :=
  xorBits (l.foldl (fun c b => iter (crcBitMsb 8 0x2F) 8 (xorBits c b)) 0xFF) 0xFF

def crcBitLsb (poly c : Nat) : Nat := if c % 2 == 1 then xorBits (c / 2) poly else c / 2

/-- CRC-32C (Castagnoli) in its usual reflected form, initial value and final XOR all ones. -/
def crc32c (init : Nat) (l : List Nat) : Nat :=
  xorBits (l.foldl (fun c b => iter (crcBitLsb 0x82F63B78) 8 (xorBits c b)) init) 0xFFFFFFFF

/-- CRC-32 of IEEE 802.3, whose bytes go out least significant first. -/
def crc32 (l : List Nat) : Nat :=
  xorBits (l.foldl (fun c b => iter (crcBitLsb 0xEDB88320) 8 (xorBits c b)) 0xFFFFFFFF) 0xFFFFFFFF

/-- The list with element n replaced. -/
def setAt {α : Type} : List α → Nat → α → List α
  | [], _, _ => []
  | _ :: r, 0, x => x :: r
  | a :: r, n + 1, x => a :: setAt r n x

/-- The first element that satisfies p, and the rest without it. -/
def takeFirst {α : Type} (p : α → Bool) : List α → Option (α × List α)
  | [] => none
  | a :: r => if p a then some (a, r) else
      match takeFirst p r with
      | none => none
      | some (x, t) => some (x, a :: t)

/-- The list without its repeats. -/
def dedup {α : Type} [BEq α] (l : List α) : List α := l.foldl (fun a x => if a.contains x then a else a ++ [x]) []

end Sys2Proof.Machine
end

