-- ==== Sys2Proof/Machine/Field.lean ====
section
/-! DEFINITION. What a register card says of one field (00_scope.md, "Register cards"): its place, access type (R5), reset
value (R19), the events it is kept through (R20), and the range its stored value is brought into (R18); the unit classes of
the window map (R46). -/

namespace Sys2Proof.Machine

/-- The access types of R5. RC fields are tallies (R13, R14) everywhere but in the legacy map, so a tally has a type
of its own. -/
inductive Access where
  | rw | ro | rc | w1c | wo | rs | cmd | tally
  deriving DecidableEq, Repr

/-- The event codes of R20. -/
inductive ResetCode where
  | U | M | W | S | N | B | K | D | X | T
  deriving DecidableEq, Repr

/-- How a written value outside the allowed range is stored (R18, or the card's own words): the nearest of a range; at least a bound;
zero or the nearest of a range; a default for codes above the last; one of two values, else a default. -/
inductive Fit where
  | any
  | range (lo hi : Nat)
  | atLeast (lo : Nat)
  | zeroOr (lo hi : Nat)
  | codes (last dflt : Nat)
  | only (a b dflt : Nat)
  deriving DecidableEq, Repr

/-- The unit classes of R46 that have register cards of their own; the others carry only the common registers. -/
inductive Cls where
  | common | group | root | sup | host | upd | tables | fabric | stockpile | hopper | ethGroup | eth | l2 | vlan | seam
  | can | cant | lin | lint | route | dlist | signal | pdu | se | sieve | canf | weigh | auth | macsec | engine
  | axis | axis0 | evp | stamp | channels | channel | bridge | therm | ps | inputs | switch | analog | motion
  | wake | pwr | bist | ks | lc | tamper | attest | debug | derrick | legacy | plain
  deriving DecidableEq, Repr

/-- One field of a register card. `ofs` and `len` place the register (R4: most significant byte first), `hi` and `lo` the
field in the whole value. A field of a register array has the stride and count of the array. `live` marks the multi-byte
live values of R10. -/
structure Field where
  cls : Cls
  ofs : Nat
  len : Nat
  hi : Nat
  lo : Nat
  acc : Access
  reset : Nat
  kept : List ResetCode
  img : Bool
  sticky : Bool
  stride : Nat
  count : Nat
  fit : Fit
  live : Bool
  deriving DecidableEq, Repr

/-- A plain field of one register. -/
def fld (cls : Cls) (ofs len hi lo : Nat) (acc : Access) (reset : Nat) (kept : List ResetCode) : Field :=
  { cls, ofs, len, hi, lo, acc, reset, kept, img := false, sticky := false, stride := 0, count := 1, fit := .any,
    live := false }

def kNone : List ResetCode := []
def kM : List ResetCode := [.M]
def kUM : List ResetCode := [.U, .M]
def kUMW : List ResetCode := [.U, .M, .W]
def kAON : List ResetCode := [.U, .M, .W, .S, .N, .B, .K, .D, .X, .T]

/-- Element i of a field of a register array. -/
def Field.elem (f : Field) (i : Nat) : Field := { f with ofs := f.ofs + f.stride * i }

def Field.width (f : Field) : Nat := f.hi + 1 - f.lo

/-- The place of a field in the register store: the selected entry (0 for a register that is no view), the window, the
register's offset and the field's lowest bit. -/
def Field.key (f : Field) (w idx : Nat) : Nat := ((idx * 4096 + w) * 4096 + f.ofs) * 1024 + f.lo

/-- The stored value for a written value (R18). -/
def Fit.apply (k : Fit) (v : Nat) : Nat :=
  match k with
  | .any => v
  | .range lo hi => if v < lo then lo else if hi < v then hi else v
  | .atLeast lo => if v < lo then lo else v
  | .zeroOr lo hi => if v = 0 then 0 else if v < lo then lo else if hi < v then hi else v
  | .codes last d => if last < v then d else v
  | .only a b d => if v = a ∨ v = b then v else d

end Sys2Proof.Machine
end

