-- ==== Sys2Proof/Machine/Tab.lean ====
section
/-! DEFINITION. Sparse stores: a list of (key, value) pairs in one canonical form, keys strictly rising and no pair equal to what
an unlisted key reads as. The register file, the two Benches and every numbered memory of the block are of this form,
so that equal contents are equal data. -/

namespace Sys2Proof.Machine

/-- A sparse store. What an unlisted key reads as is given where the store is read. -/
abbrev Tab (α : Type) := List (Nat × α)

/-- What the store holds at a key, `d` where nothing is listed. -/
def look {α : Type} : Tab α → Nat → α → α
  | [], _, d => d
  | (k, v) :: r, q, d => if k = q then v else look r q d

/-- The store without a key. -/
def erase {α : Type} : Tab α → Nat → Tab α
  | [], _ => []
  | (k, v) :: r, q => if k = q then erase r q else (k, v) :: erase r q

/-- The store with a pair put in its place. -/
def insertAt {α : Type} : Tab α → Nat → α → Tab α
  | [], q, x => [(q, x)]
  | (k, v) :: r, q, x =>
    if q < k then (q, x) :: (k, v) :: r else if k = q then (k, x) :: r else (k, v) :: insertAt r q x

/-- The store with a value at a key; writing the default `d` removes the entry. -/
def store {α : Type} [DecidableEq α] (t : Tab α) (q : Nat) (x d : α) : Tab α :=
  if x = d then erase t q else insertAt t q x

/-- The keys rise strictly from above a bound. -/
def risesFrom {α : Type} : Option Nat → Tab α → Bool
  | _, [] => true
  | none, (k, _) :: r => risesFrom (some k) r
  | some b, (k, _) :: r => decide (b < k) && risesFrom (some k) r

/-- The canonical form: keys strictly rising. -/
def Tab.sorted {α : Type} (t : Tab α) : Bool := risesFrom none t

end Sys2Proof.Machine
end

