-- ==== Sys2Proof/Machine/Fields.lean ====
section
/-! DEFINITION. The register cards of the spec, one definition per field: the first bits of a card's row (offset and
length of the register, position of the field), its access type, its reset value, the events it is kept through, and
the way a value outside the allowed range is stored.  Chapters: 01, 03 for the registers of every window; the file of
each class is named above its fields.  A field whose Reset column reads "img" carries the mark img and resets to 0
(R19).  A field array is one definition with its stride and count. -/

namespace Sys2Proof.Machine


/-! Class `common` (cards of spec/01, 03). -/

def DESC_ID.CLASS : Field := fld .common 0x000 4 31 16 .ro 0 kAON
def DESC_ID.INST : Field := fld .common 0x000 4 15 8 .ro 0 kAON
def DESC_ID.GROUP : Field := fld .common 0x000 4 7 7 .ro 0 kAON
def DESC_ID.FW : Field := fld .common 0x000 4 6 6 .ro 0 kAON
def DESC_ID.LEGACY : Field := fld .common 0x000 4 5 5 .ro 0 kAON
def DESC_ID.RO_HERE : Field := fld .common 0x000 4 4 4 .ro 0 kNone
def DESC_ID.DIE : Field := fld .common 0x000 4 3 2 .ro 0 kAON
def DESC_IFV.IFV_MAJ : Field := fld .common 0x004 2 15 8 .ro 0 kAON
def DESC_IFV.IFV_MIN : Field := fld .common 0x004 2 7 0 .ro 0 kAON
def DESC_BASE.BASE_MAJ : Field := fld .common 0x006 2 15 8 .ro 1 kAON
def DESC_BASE.BASE_MIN : Field := fld .common 0x006 2 7 0 .ro 0 kAON
def DESC_DRV.DRV_MAJ : Field := fld .common 0x008 2 15 8 .rw 0 kUM
def DESC_DRV.DRV_MIN : Field := fld .common 0x008 2 7 0 .rw 0 kUM
def DESC_ACT.ACT_MAJ : Field := fld .common 0x00A 2 15 8 .ro 1 kUM
def DESC_ACT.ACT_MIN : Field := fld .common 0x00A 2 7 0 .ro 0 kUM
def DESC_LINK.PARENT : Field := fld .common 0x00C 6 43 32 .ro 0 kAON
def DESC_LINK.CHILD : Field := fld .common 0x00C 6 27 16 .ro 0 kAON
def DESC_LINK.SIBLING : Field := fld .common 0x00C 6 11 0 .ro 0 kAON
def DESC_NCHILD.NCHILD : Field := { fld .common 0x012 2 11 0 .ro 0 kAON with live := true }
def DESC_STATE.STATE : Field := fld .common 0x018 1 2 0 .ro 1 kNone
def DESC_SUMMARY.STICKY : Field := fld .common 0x01C 1 7 7 .ro 0 kNone
def DESC_SUMMARY.CFG_PARITY : Field := fld .common 0x01C 1 6 6 .ro 0 kNone
def DESC_SUMMARY.VIOL : Field := fld .common 0x01C 1 5 5 .ro 0 kNone
def DESC_SUMMARY.LEASE : Field := fld .common 0x01C 1 4 4 .ro 0 kNone
def DESC_SUMMARY.IRQ : Field := fld .common 0x01C 1 3 3 .ro 0 kNone
def DESC_SUMMARY.VBASE : Field := fld .common 0x01C 1 2 2 .ro 1 kNone
def UNIT_CTRL.URST : Field := fld .common 0x020 1 7 7 .cmd 0 kNone
def UNIT_CTRL.LOCK : Field := fld .common 0x020 1 6 6 .rw 0 kUM
def UNIT_STICKY.CFG_PARITY : Field := { fld .common 0x021 1 7 7 .w1c 0 kAON with sticky := true }
def UNIT_STICKY.VIOL : Field := { fld .common 0x021 1 6 6 .w1c 0 kAON with sticky := true }
def UNIT_STICKY.LEASE : Field := { fld .common 0x021 1 5 5 .w1c 0 kAON with sticky := true }
def UNIT_STICKY.FAULT : Field := { fld .common 0x021 1 4 4 .w1c 0 kAON with sticky := true }
def FAULT_ADDR.CAUSE : Field := fld .common 0x024 2 15 13 .ro 0 kAON
def FAULT_ADDR.OVR : Field := fld .common 0x024 2 12 12 .ro 0 kAON
def FAULT_ADDR.OFS : Field := fld .common 0x024 2 11 0 .ro 0 kAON
def VIOL_ADDR.ADDR : Field := fld .common 0x028 6 47 24 .ro 0 kAON
def VIOL_ADDR.INIT : Field := fld .common 0x028 6 23 16 .ro 0 kAON
def VIOL_ADDR.KIND : Field := fld .common 0x028 6 15 12 .ro 0 kAON
def VIOL_ADDR.WR : Field := fld .common 0x028 6 11 11 .ro 0 kAON
def VIOL_ADDR.OVR : Field := fld .common 0x028 6 10 10 .ro 0 kAON
def VIOL_ADDR.WDATA : Field := fld .common 0x028 6 7 0 .ro 0 kAON
def UNIT_IRQ_PEND.TROUBLE : Field := { fld .common 0x030 1 7 7 .w1c 0 kM with sticky := true }
def UNIT_IRQ_PEND.EV : Field := fld .common 0x030 1 6 0 .w1c 0 kM
def UNIT_IRQ_EN.EN : Field := fld .common 0x031 1 7 0 .rw 0 kM
def UNIT_IRQ_ROUTE.PIN : Field := fld .common 0x032 1 7 7 .rw 0 kM
def UNIT_IRQ_ROUTE.VEC : Field := fld .common 0x032 1 5 0 .rw 0 kM
def commonFields0 : List Field :=
  [DESC_ID.CLASS, DESC_ID.INST, DESC_ID.GROUP, DESC_ID.FW, DESC_ID.LEGACY, DESC_ID.RO_HERE, DESC_ID.DIE, DESC_IFV.IFV_MAJ, DESC_IFV.IFV_MIN, DESC_BASE.BASE_MAJ, DESC_BASE.BASE_MIN, DESC_DRV.DRV_MAJ, DESC_DRV.DRV_MIN, DESC_ACT.ACT_MAJ, DESC_ACT.ACT_MIN, DESC_LINK.PARENT, DESC_LINK.CHILD, DESC_LINK.SIBLING, DESC_NCHILD.NCHILD, DESC_STATE.STATE, DESC_SUMMARY.STICKY, DESC_SUMMARY.CFG_PARITY, DESC_SUMMARY.VIOL, DESC_SUMMARY.LEASE, DESC_SUMMARY.IRQ, DESC_SUMMARY.VBASE, UNIT_CTRL.URST, UNIT_CTRL.LOCK, UNIT_STICKY.CFG_PARITY, UNIT_STICKY.VIOL, UNIT_STICKY.LEASE, UNIT_STICKY.FAULT, FAULT_ADDR.CAUSE, FAULT_ADDR.OVR, FAULT_ADDR.OFS, VIOL_ADDR.ADDR, VIOL_ADDR.INIT, VIOL_ADDR.KIND, VIOL_ADDR.WR, VIOL_ADDR.OVR]
def commonFields1 : List Field :=
  [VIOL_ADDR.WDATA, UNIT_IRQ_PEND.TROUBLE, UNIT_IRQ_PEND.EV, UNIT_IRQ_EN.EN, UNIT_IRQ_ROUTE.PIN, UNIT_IRQ_ROUTE.VEC]
def commonFields : List Field := commonFields0 ++ commonFields1

/-! Class `group` (cards of spec/01). -/

def GRP_FANOUT_CLASS.FCLASS : Field := fld .group 0x100 2 15 0 .rw 0 kUM
def GRP_FANOUT_OFS.FOFS : Field := fld .group 0x102 2 11 0 .rw 0 kUM
def GRP_FANOUT_DATA.FDATA : Field := fld .group 0x104 1 7 0 .wo 0 kNone
def GRP_FANOUT_STAT.BUSY : Field := fld .group 0x105 1 7 7 .ro 0 kNone
def GRP_FANOUT_STAT.REJ : Field := { fld .group 0x105 1 6 6 .w1c 0 kM with sticky := true }
def GRP_FANOUT_HITS.HITS : Field := fld .group 0x106 1 7 0 .ro 0 kUM
def GRP_FANOUT_REJWIN.REJWIN : Field := fld .group 0x108 2 11 0 .ro 0 kM
def GRP_STICKY_MAP.SMAP : Field := { fld .group 0x110 16 127 0 .ro 0 kNone with live := true }
def groupFields : List Field :=
  [GRP_FANOUT_CLASS.FCLASS, GRP_FANOUT_OFS.FOFS, GRP_FANOUT_DATA.FDATA, GRP_FANOUT_STAT.BUSY, GRP_FANOUT_STAT.REJ, GRP_FANOUT_HITS.HITS, GRP_FANOUT_REJWIN.REJWIN, GRP_STICKY_MAP.SMAP]

/-! Class `sup` (cards of spec/02, 20). -/

def SUP_STRAP.MODE_CODE : Field := fld .sup 0x1E0 1 7 6 .ro 0 [.U, .M, .W, .K, .D, .X, .T]
def SUP_STRAP.MODE_ERR : Field := { fld .sup 0x1E0 1 5 5 .w1c 0 kAON with sticky := true }
def SUP_STRAP.XSRC : Field := fld .sup 0x1E0 1 4 4 .ro 0 kUM
def SUP_STRAP.CLK_LOSS : Field := { fld .sup 0x1E0 1 3 3 .w1c 0 kAON with sticky := true }
def SUP_STRAP.PGOOD_FAIL : Field := { fld .sup 0x1E0 1 2 2 .w1c 0 kAON with sticky := true }
def SUP_PINS.LIMP : Field := fld .sup 0x1E1 1 7 4 .ro 0 kNone
def SUP_PINS.WAKE : Field := fld .sup 0x1E1 1 3 3 .ro 0 kNone
def SUP_PINS.SAFE : Field := fld .sup 0x1E1 1 2 2 .ro 1 kNone
def SUP_PINS.PGOOD : Field := fld .sup 0x1E1 1 1 1 .ro 0 kNone
def SUP_PINS.LID : Field := fld .sup 0x1E1 1 0 0 .ro 0 kNone
def SUP_WD_CFG.WD_PERIOD : Field := { fld .sup 0x150 1 7 0 .rw 0 kUMW with img := true }
def SUP_WD_KICK.KICK : Field := fld .sup 0x151 1 7 0 .wo 0 kNone
def SUP_WD_STAT.MPWD : Field := { fld .sup 0x152 1 7 7 .w1c 0 kAON with sticky := true }
def SUP_WD_STAT.HWWD : Field := { fld .sup 0x152 1 6 6 .w1c 0 kAON with sticky := true }
def supFields : List Field :=
  [SUP_STRAP.MODE_CODE, SUP_STRAP.MODE_ERR, SUP_STRAP.XSRC, SUP_STRAP.CLK_LOSS, SUP_STRAP.PGOOD_FAIL, SUP_PINS.LIMP, SUP_PINS.WAKE, SUP_PINS.SAFE, SUP_PINS.PGOOD, SUP_PINS.LID, SUP_WD_CFG.WD_PERIOD, SUP_WD_KICK.KICK, SUP_WD_STAT.MPWD, SUP_WD_STAT.HWWD]

/-! Class `host` (cards of spec/03). -/

def HOST_TX_BASE.BASE : Field := { fld .host 0x200 8 63 6 .rw 0 kM with stride := 32, count := 16 }
def HOST_RX_BASE.BASE : Field := { fld .host 0x400 8 63 6 .rw 0 kM with stride := 32, count := 16 }
def HOST_TX_CFG.EN : Field := { fld .host 0x208 1 7 7 .rw 0 kM with stride := 32, count := 16 }
def HOST_TX_CFG.TC : Field := { fld .host 0x208 1 6 4 .rw 0 kM with stride := 32, count := 16 }
def HOST_TX_CFG.RSIZE : Field := { fld .host 0x208 1 3 0 .rw 0 kM with stride := 32, count := 16, fit := .range 0 10 }
def HOST_RX_CFG.EN : Field := { fld .host 0x408 1 7 7 .rw 0 kM with stride := 32, count := 16 }
def HOST_RX_CFG.TC : Field := { fld .host 0x408 1 6 4 .rw 0 kM with stride := 32, count := 16 }
def HOST_RX_CFG.RSIZE : Field := { fld .host 0x408 1 3 0 .rw 0 kM with stride := 32, count := 16, fit := .range 0 10 }
def HOST_TX_IMOD.IMOD : Field := { fld .host 0x209 1 7 0 .rw 0 kM with stride := 32, count := 16 }
def HOST_RX_IMOD.IMOD : Field := { fld .host 0x409 1 7 0 .rw 0 kM with stride := 32, count := 16 }
def HOST_TX_VEC.PIN : Field := { fld .host 0x20A 1 7 7 .rw 0 kM with stride := 32, count := 16 }
def HOST_TX_VEC.VEC : Field := { fld .host 0x20A 1 5 0 .rw 0 kM with stride := 32, count := 16 }
def HOST_RX_VEC.PIN : Field := { fld .host 0x40A 1 7 7 .rw 0 kM with stride := 32, count := 16 }
def HOST_RX_VEC.VEC : Field := { fld .host 0x40A 1 5 0 .rw 0 kM with stride := 32, count := 16 }
def HOST_TX_TAIL.TAIL : Field := { fld .host 0x20C 2 15 0 .rw 0 kM with stride := 32, count := 16 }
def HOST_RX_TAIL.TAIL : Field := { fld .host 0x40C 2 15 0 .rw 0 kM with stride := 32, count := 16 }
def HOST_TX_HEAD.HEAD : Field := { fld .host 0x20E 2 15 0 .ro 0 kM with stride := 32, count := 16, live := true }
def HOST_RX_HEAD.HEAD : Field := { fld .host 0x40E 2 15 0 .ro 0 kM with stride := 32, count := 16, live := true }
def HOST_TX_STAT.STOPPED : Field := { fld .host 0x210 1 7 7 .ro 0 kM with stride := 32, count := 16 }
def HOST_TX_STAT.DESC_ERR : Field := { fld .host 0x210 1 6 6 .w1c 0 kAON with sticky := true, stride := 32, count := 16 }
def HOST_TX_STAT.DMA_ERR : Field := { fld .host 0x210 1 5 5 .w1c 0 kAON with sticky := true, stride := 32, count := 16 }
def HOST_TX_STAT.IRQ : Field := { fld .host 0x210 1 4 4 .w1c 0 kM with stride := 32, count := 16 }
def HOST_RX_STAT.STOPPED : Field := { fld .host 0x410 1 7 7 .ro 0 kM with stride := 32, count := 16 }
def HOST_RX_STAT.DESC_ERR : Field := { fld .host 0x410 1 6 6 .w1c 0 kAON with sticky := true, stride := 32, count := 16 }
def HOST_RX_STAT.DMA_ERR : Field := { fld .host 0x410 1 5 5 .w1c 0 kAON with sticky := true, stride := 32, count := 16 }
def HOST_RX_STAT.IRQ : Field := { fld .host 0x410 1 4 4 .w1c 0 kM with stride := 32, count := 16 }
def HOST_STATUS.SPEC_HIT : Field := { fld .host 0x140 1 7 7 .w1c 0 kAON with sticky := true }
def HOST_STATUS.DR_LOST : Field := { fld .host 0x140 1 6 6 .w1c 0 kAON with sticky := true }
def HOST_STATUS.SPI_SHORT : Field := { fld .host 0x140 1 5 5 .w1c 0 kAON with sticky := true }
def HOST_STATUS.SPI_CRC : Field := { fld .host 0x140 1 4 4 .w1c 0 kAON with sticky := true }
def HOST_SPEC_ADDR.INIT : Field := fld .host 0x141 4 31 24 .ro 0 kAON
def HOST_SPEC_ADDR.ADDR : Field := fld .host 0x141 4 23 0 .ro 0 kAON
def HOST_DR_ADDR.ADDR : Field := fld .host 0x145 3 23 0 .ro 0 kAON
def HOST_SPI_CFG.CRC : Field := fld .host 0x150 1 3 3 .rw 0 kM
def HOST_SPI_CFG.DUMMY : Field := fld .host 0x150 1 2 0 .rw 2 kM
def HOST_PCIE_LINK.UP : Field := fld .host 0x151 1 7 7 .ro 0 kNone
def HOST_PCIE_LINK.RATE : Field := fld .host 0x151 1 6 4 .ro 0 kNone
def HOST_PCIE_LINK.WIDTH : Field := fld .host 0x151 1 3 2 .ro 0 kNone
def hostFields : List Field :=
  [HOST_TX_BASE.BASE, HOST_RX_BASE.BASE, HOST_TX_CFG.EN, HOST_TX_CFG.TC, HOST_TX_CFG.RSIZE, HOST_RX_CFG.EN, HOST_RX_CFG.TC, HOST_RX_CFG.RSIZE, HOST_TX_IMOD.IMOD, HOST_RX_IMOD.IMOD, HOST_TX_VEC.PIN, HOST_TX_VEC.VEC, HOST_RX_VEC.PIN, HOST_RX_VEC.VEC, HOST_TX_TAIL.TAIL, HOST_RX_TAIL.TAIL, HOST_TX_HEAD.HEAD, HOST_RX_HEAD.HEAD, HOST_TX_STAT.STOPPED, HOST_TX_STAT.DESC_ERR, HOST_TX_STAT.DMA_ERR, HOST_TX_STAT.IRQ, HOST_RX_STAT.STOPPED, HOST_RX_STAT.DESC_ERR, HOST_RX_STAT.DMA_ERR, HOST_RX_STAT.IRQ, HOST_STATUS.SPEC_HIT, HOST_STATUS.DR_LOST, HOST_STATUS.SPI_SHORT, HOST_STATUS.SPI_CRC, HOST_SPEC_ADDR.INIT, HOST_SPEC_ADDR.ADDR, HOST_DR_ADDR.ADDR, HOST_SPI_CFG.CRC, HOST_SPI_CFG.DUMMY, HOST_PCIE_LINK.UP, HOST_PCIE_LINK.RATE, HOST_PCIE_LINK.WIDTH]

/-! Class `upd` (cards of spec/04, 18). -/

def UPD_CFG_STAT.SLOT : Field := fld .upd 0x180 1 7 6 .ro 0 kUM
def UPD_CFG_STAT.PHASE : Field := fld .upd 0x180 1 5 4 .ro 0 kUM
def UPD_CFG_STAT.UNCFG : Field := fld .upd 0x180 1 3 3 .ro 0 kUM
def UPD_CFG_STAT.OPT_SKIP : Field := { fld .upd 0x180 1 2 2 .w1c 0 kAON with sticky := true }
def UPD_CFG_STAT.SLOT_BAD : Field := { fld .upd 0x180 1 1 1 .w1c 0 kAON with sticky := true }
def UPD_CFG_ERR.CAUSE : Field := fld .upd 0x181 2 15 12 .ro 0 kUM
def UPD_CFG_ERR.SECT : Field := fld .upd 0x181 2 7 0 .ro 0 kUM
def UPD_CFG_SEQ.SEQ : Field := fld .upd 0x184 4 31 0 .ro 0 kUM
def UPD_FW_STAT.BANK : Field := fld .upd 0x140 1 7 7 .ro 0 kAON
def UPD_FW_STAT.TRIAL : Field := fld .upd 0x140 1 6 6 .ro 0 kUM
def UPD_FW_STAT.FALLBACK : Field := { fld .upd 0x140 1 5 5 .w1c 0 kAON with sticky := true }
def UPD_FW_STAT.FW_FAIL : Field := { fld .upd 0x140 1 4 4 .w1c 0 kAON with sticky := true }
def UPD_FW_STAT.STREAM_TO : Field := { fld .upd 0x140 1 3 3 .w1c 0 kAON with sticky := true }
def UPD_FW_CTRL.CONFIRM : Field := fld .upd 0x141 1 7 7 .cmd 0 kNone
def UPD_FW_CTRL.DISCARD : Field := fld .upd 0x141 1 6 6 .cmd 0 kNone
def UPD_FW_CTRL.ARM : Field := fld .upd 0x141 1 5 5 .cmd 0 kNone
def UPD_FW_CTRL.CANCEL : Field := fld .upd 0x141 1 4 4 .cmd 0 kNone
def UPD_FW_CTRL.RECOVER : Field := fld .upd 0x141 1 3 3 .cmd 0 kNone
def UPD_CONF_WIN.CONF_WIN : Field := { fld .upd 0x142 1 7 0 .rw 30 kUM with fit := .atLeast 5 }
def UPD_STG_STAT.STATE : Field := fld .upd 0x143 1 7 5 .ro 0 kUM
def UPD_STG_STAT.STG_REJ : Field := { fld .upd 0x143 1 4 4 .w1c 0 kAON with sticky := true }
def UPD_STG_STAT.CAUSE : Field := fld .upd 0x143 1 3 0 .ro 0 kAON
def UPD_CHAIN.DOWN : Field := { fld .upd 0x144 1 7 0 .rw 0 kUM with img := true, fit := .codes 0x0F 0xFF }
def UPD_ACT_TGT.CFG : Field := fld .upd 0x148 2 15 15 .rw 0 kUM
def UPD_ACT_TGT.TYPES : Field := fld .upd 0x148 2 10 0 .rw 0 kUM
def UPD_ACT_PORTS.PORTS : Field := fld .upd 0x14A 2 15 0 .rw 0 kUM
def UPD_ACT_TIME.SEC : Field := fld .upd 0x14C 10 79 32 .rw 0 kUM
def UPD_ACT_TIME.NS : Field := { fld .upd 0x14C 10 31 0 .rw 0 kUM with fit := .range 0 999999999 }
def UPD_FLOOR.FW : Field := fld .upd 0x158 4 31 16 .ro 0 kAON
def UPD_FLOOR.CFG : Field := fld .upd 0x158 4 15 0 .ro 0 kAON
def UPD_REC.TYPE : Field := fld .upd 0x15C 2 15 12 .rw 0 kUM
def UPD_REC.BANK : Field := fld .upd 0x15C 2 11 11 .rw 0 kUM
def UPD_REC.INST : Field := fld .upd 0x15C 2 5 0 .rw 0 kUM
def UPD_BLK_OK.COUNT : Field := fld .upd 0x200 4 31 0 .tally 0 kUM
def UPD_BLK_DROP.COUNT : Field := fld .upd 0x204 4 31 0 .tally 0 kUM
def UPD_BLK_FAIL.COUNT : Field := fld .upd 0x208 4 31 0 .tally 0 kUM
def UPD_LATE.COUNT : Field := fld .upd 0x20C 4 31 0 .tally 0 kUM
def updFields : List Field :=
  [UPD_CFG_STAT.SLOT, UPD_CFG_STAT.PHASE, UPD_CFG_STAT.UNCFG, UPD_CFG_STAT.OPT_SKIP, UPD_CFG_STAT.SLOT_BAD, UPD_CFG_ERR.CAUSE, UPD_CFG_ERR.SECT, UPD_CFG_SEQ.SEQ, UPD_FW_STAT.BANK, UPD_FW_STAT.TRIAL, UPD_FW_STAT.FALLBACK, UPD_FW_STAT.FW_FAIL, UPD_FW_STAT.STREAM_TO, UPD_FW_CTRL.CONFIRM, UPD_FW_CTRL.DISCARD, UPD_FW_CTRL.ARM, UPD_FW_CTRL.CANCEL, UPD_FW_CTRL.RECOVER, UPD_CONF_WIN.CONF_WIN, UPD_STG_STAT.STATE, UPD_STG_STAT.STG_REJ, UPD_STG_STAT.CAUSE, UPD_CHAIN.DOWN, UPD_ACT_TGT.CFG, UPD_ACT_TGT.TYPES, UPD_ACT_PORTS.PORTS, UPD_ACT_TIME.SEC, UPD_ACT_TIME.NS, UPD_FLOOR.FW, UPD_FLOOR.CFG, UPD_REC.TYPE, UPD_REC.BANK, UPD_REC.INST, UPD_BLK_OK.COUNT, UPD_BLK_DROP.COUNT, UPD_BLK_FAIL.COUNT, UPD_LATE.COUNT]

/-! Class `tables` (cards of spec/04). -/

def TBL_CTRL.COMMIT : Field := fld .tables 0x140 1 7 7 .cmd 0 kNone
def TBL_CTRL.ABORT : Field := fld .tables 0x140 1 6 6 .cmd 0 kNone
def TBL_CTRL.ACQUIRE : Field := fld .tables 0x140 1 5 5 .cmd 0 kNone
def TBL_CTRL.RELEASE : Field := fld .tables 0x140 1 4 4 .cmd 0 kNone
def TBL_CTRL.SPLIT_OK : Field := { fld .tables 0x140 1 3 3 .rw 0 kUM with img := true }
def TBL_CTRL.HOLD_EN : Field := { fld .tables 0x140 1 2 2 .rw 0 kUM with img := true }
def TBL_OWNER.OWNER : Field := fld .tables 0x141 1 7 0 .ro 0 kUM
def TBL_LEASE.LEASE_MS : Field := { fld .tables 0x142 1 7 0 .rw 100 kUM with fit := .atLeast 1 }
def TBL_HOLD_LIM.HOLD_LIM : Field := { fld .tables 0x143 1 7 0 .rw 0 kUM with img := true, fit := .range 0 100 }
def TBL_HOLD_PORTS.HOST : Field := { fld .tables 0x144 6 44 44 .rw 0 kUM with img := true }
def TBL_HOLD_PORTS.LIN : Field := { fld .tables 0x144 6 43 32 .rw 0 kUM with img := true }
def TBL_HOLD_PORTS.CAN : Field := { fld .tables 0x144 6 31 16 .rw 0 kUM with img := true }
def TBL_HOLD_PORTS.ETH : Field := { fld .tables 0x144 6 15 0 .rw 0 kUM with img := true }
def TBL_STAT.BUSY : Field := fld .tables 0x14A 1 7 7 .ro 0 kNone
def TBL_STAT.G : Field := fld .tables 0x14A 1 6 6 .ro 0 kUM
def TBL_STAT.SPLIT_COMMIT : Field := { fld .tables 0x14A 1 5 5 .w1c 0 kAON with sticky := true }
def TBL_STAT.HOLD_EXP : Field := { fld .tables 0x14A 1 4 4 .w1c 0 kAON with sticky := true }
def TBL_STAT.ENTRY_REJ : Field := { fld .tables 0x14A 1 3 3 .w1c 0 kAON with sticky := true }
def TBL_STAT.REFUSED : Field := { fld .tables 0x14A 1 2 2 .w1c 0 kAON with sticky := true }
def TBL_STAT.STG_FULL : Field := { fld .tables 0x14A 1 1 1 .w1c 0 kAON with sticky := true }
def TBL_STAT.STAGED : Field := fld .tables 0x14A 1 0 0 .ro 0 kUM
def TBL_OVF_CNT.OVF : Field := fld .tables 0x14C 2 8 0 .ro 0 kUM
def TBL_REJ_INFO.TABLE : Field := fld .tables 0x14E 4 31 24 .ro 0 kAON
def TBL_REJ_INFO.KEYREF : Field := fld .tables 0x14E 4 23 0 .ro 0 kAON
def TBL_SPLIT_STEP.STEP : Field := fld .tables 0x152 1 7 0 .ro 0 kUM
def TBL_COMMITS.COUNT : Field := fld .tables 0x160 4 31 0 .tally 0 kUM
def TBL_SPLITS.COUNT : Field := fld .tables 0x164 4 31 0 .tally 0 kUM
def tablesFields : List Field :=
  [TBL_CTRL.COMMIT, TBL_CTRL.ABORT, TBL_CTRL.ACQUIRE, TBL_CTRL.RELEASE, TBL_CTRL.SPLIT_OK, TBL_CTRL.HOLD_EN, TBL_OWNER.OWNER, TBL_LEASE.LEASE_MS, TBL_HOLD_LIM.HOLD_LIM, TBL_HOLD_PORTS.HOST, TBL_HOLD_PORTS.LIN, TBL_HOLD_PORTS.CAN, TBL_HOLD_PORTS.ETH, TBL_STAT.BUSY, TBL_STAT.G, TBL_STAT.SPLIT_COMMIT, TBL_STAT.HOLD_EXP, TBL_STAT.ENTRY_REJ, TBL_STAT.REFUSED, TBL_STAT.STG_FULL, TBL_STAT.STAGED, TBL_OVF_CNT.OVF, TBL_REJ_INFO.TABLE, TBL_REJ_INFO.KEYREF, TBL_SPLIT_STEP.STEP, TBL_COMMITS.COUNT, TBL_SPLITS.COUNT]

/-! Class `fabric` (cards of spec/05). -/

def FAB_DELIVERED.COUNT : Field := fld .fabric 0x140 4 31 0 .tally 0 kUM
def FAB_UNTIMED.COUNT : Field := fld .fabric 0x144 4 31 0 .tally 0 kUM
def FAB_DROPPED.COUNT : Field := fld .fabric 0x148 4 31 0 .tally 0 kUM
def FAB_FAILED.COUNT : Field := fld .fabric 0x14C 4 31 0 .tally 0 kUM
def FAB_MIR.ING : Field := { fld .fabric 0x160 8 63 48 .rw 0 kUM with img := true, stride := 8, count := 4 }
def FAB_MIR.EGR : Field := { fld .fabric 0x160 8 47 32 .rw 0 kUM with img := true, stride := 8, count := 4 }
def FAB_MIR.DEST : Field := { fld .fabric 0x160 8 31 24 .rw 0 kUM with img := true, stride := 8, count := 4 }
def FAB_MIR.EN : Field := { fld .fabric 0x160 8 23 23 .rw 0 kUM with img := true, stride := 8, count := 4 }
def FAB_MIR.TC : Field := { fld .fabric 0x160 8 22 20 .rw 0 kUM with img := true, stride := 8, count := 4 }
def FAB_FRER_SEL.IDX : Field := fld .fabric 0x180 1 7 0 .rw 0 kUM
def FAB_FRER_REC.EN : Field := { fld .fabric 0x181 4 31 31 .rw 0 kUM with img := true }
def FAB_FRER_REC.ALG : Field := { fld .fabric 0x181 4 30 30 .rw 0 kUM with img := true }
def FAB_FRER_REC.HIST : Field := { fld .fabric 0x181 4 29 24 .rw 0 kUM with img := true, fit := .range 1 32 }
def FAB_FRER_REC.RESET_TO : Field := { fld .fabric 0x181 4 23 16 .rw 0 kUM with img := true }
def FAB_FRER_GEN.SEQ : Field := { fld .fabric 0x185 2 15 0 .ro 0 kNone with live := true }
def FAB_FRER_PASSED.COUNT : Field := fld .fabric 0x188 4 31 0 .tally 0 kUM
def FAB_FRER_DUP.COUNT : Field := fld .fabric 0x18C 4 31 0 .tally 0 kUM
def FAB_FRER_ROGUE.COUNT : Field := fld .fabric 0x190 4 31 0 .tally 0 kUM
def FAB_FRER_RESETS.COUNT : Field := fld .fabric 0x194 4 31 0 .tally 0 kUM
def fabricFields : List Field :=
  [FAB_DELIVERED.COUNT, FAB_UNTIMED.COUNT, FAB_DROPPED.COUNT, FAB_FAILED.COUNT, FAB_MIR.ING, FAB_MIR.EGR, FAB_MIR.DEST, FAB_MIR.EN, FAB_MIR.TC, FAB_FRER_SEL.IDX, FAB_FRER_REC.EN, FAB_FRER_REC.ALG, FAB_FRER_REC.HIST, FAB_FRER_REC.RESET_TO, FAB_FRER_GEN.SEQ, FAB_FRER_PASSED.COUNT, FAB_FRER_DUP.COUNT, FAB_FRER_ROGUE.COUNT, FAB_FRER_RESETS.COUNT]

/-! Class `stockpile` (cards of spec/05). -/

def STK_ADMIT_MIN.ADMIT_MIN : Field := { fld .stockpile 0x140 1 7 0 .rw 0 kUM with img := true }
def STK_LEASE.LEASE_MS : Field := { fld .stockpile 0x141 1 7 0 .rw 4 kUM with fit := .atLeast 1 }
def STK_RSV_SEL.PORT : Field := fld .stockpile 0x144 1 7 0 .rw 0 kUM
def STK_RSV.RSV : Field := { fld .stockpile 0x145 2 12 0 .rw 0 kUM with img := true, fit := .range 0 4096 }
def STK_INUSE.INUSE : Field := { fld .stockpile 0x147 2 15 0 .ro 0 kNone with live := true }
def STK_FREE.FREE : Field := { fld .stockpile 0x14A 2 15 0 .ro 49152 kNone with live := true }
def STK_SHARED_FREE.FREE : Field := { fld .stockpile 0x14C 2 15 0 .ro 49152 kNone with live := true }
def STK_STAT.ADMIT_DROP : Field := { fld .stockpile 0x14E 1 7 7 .w1c 0 kAON with sticky := true }
def STK_STAT.ECC_UNCORR : Field := { fld .stockpile 0x14E 1 6 6 .w1c 0 kAON with sticky := true }
def STK_STAT.LEASE_REV : Field := { fld .stockpile 0x14E 1 5 5 .w1c 0 kAON with sticky := true }
def STK_RETIRED.RETIRED : Field := fld .stockpile 0x150 2 15 0 .ro 0 kUM
def STK_ECC_CORR.COUNT : Field := fld .stockpile 0x154 4 31 0 .tally 0 kUM
def stockpileFields : List Field :=
  [STK_ADMIT_MIN.ADMIT_MIN, STK_LEASE.LEASE_MS, STK_RSV_SEL.PORT, STK_RSV.RSV, STK_INUSE.INUSE, STK_FREE.FREE, STK_SHARED_FREE.FREE, STK_STAT.ADMIT_DROP, STK_STAT.ECC_UNCORR, STK_STAT.LEASE_REV, STK_RETIRED.RETIRED, STK_ECC_CORR.COUNT]

/-! Class `hopper` (cards of spec/05). -/

def HOP_CTRL.FLUSH : Field := fld .hopper 0x140 1 7 7 .cmd 0 kNone
def HOP_FLUSH_MASK.MASK : Field := fld .hopper 0x141 1 7 0 .rw 0 kUM
def HOP_CT_THR.CT_THR : Field := { fld .hopper 0x142 1 7 0 .rw 0 kM with img := true, fit := .range 0 32 }
def HOP_STAT.UNDERRUN : Field := { fld .hopper 0x143 1 7 7 .w1c 0 kAON with sticky := true }
def HOP_STAT.CT_RAISED : Field := { fld .hopper 0x143 1 6 6 .w1c 0 kAON with sticky := true }
def HOP_STAT.OVERSIZE : Field := { fld .hopper 0x143 1 5 5 .w1c 0 kAON with sticky := true }
def HOP_STAT.DOWN : Field := fld .hopper 0x143 1 4 4 .ro 1 kNone
def HOP_DROPS.COUNT : Field := fld .hopper 0x150 4 31 0 .tally 0 kUM
def HOP_QLIM.QLIM : Field := { fld .hopper 0x160 2 13 0 .rw 0 kUM with img := true, stride := 16, count := 8 }
def HOP_GATE.OPEN : Field := { fld .hopper 0x162 1 0 0 .rw 1 kUM with stride := 16, count := 8 }
def HOP_IDLESLOPE.IDLESLOPE : Field := { fld .hopper 0x164 4 31 0 .rw 0 kUM with img := true, stride := 16, count := 8 }
def HOP_QDEPTH.QDEPTH : Field := { fld .hopper 0x168 2 15 0 .ro 0 kNone with stride := 16, count := 8, live := true }
def HOP_PEEK.HANDLE : Field := { fld .hopper 0x16A 3 23 0 .ro 0 kNone with stride := 16, count := 8, live := true }
def hopperFields : List Field :=
  [HOP_CTRL.FLUSH, HOP_FLUSH_MASK.MASK, HOP_CT_THR.CT_THR, HOP_STAT.UNDERRUN, HOP_STAT.CT_RAISED, HOP_STAT.OVERSIZE, HOP_STAT.DOWN, HOP_DROPS.COUNT, HOP_QLIM.QLIM, HOP_GATE.OPEN, HOP_IDLESLOPE.IDLESLOPE, HOP_QDEPTH.QDEPTH, HOP_PEEK.HANDLE]

/-! Class `ethGroup` (cards of spec/06). -/

def ETH_MDC_CFG.MDC1 : Field := { fld .ethGroup 0x140 1 3 2 .rw 0 kUM with img := true, fit := .range 0 2 }
def ETH_MDC_CFG.MDC0 : Field := { fld .ethGroup 0x140 1 1 0 .rw 0 kUM with img := true, fit := .range 0 2 }
def ethGroupFields : List Field :=
  [ETH_MDC_CFG.MDC1, ETH_MDC_CFG.MDC0]

/-! Class `eth` (cards of spec/06). -/

def ETH_CFG.EN : Field := { fld .eth 0x140 1 7 7 .rw 0 kUM with img := true }
def ETH_CFG.IF : Field := { fld .eth 0x140 1 6 4 .rw 0 kUM with img := true }
def ETH_CFG.ROLE : Field := { fld .eth 0x140 1 3 3 .rw 0 kUM with img := true }
def ETH_CFG.KMP_EN : Field := { fld .eth 0x140 1 2 2 .rw 0 kUM with img := true }
def ETH_CFG.AN : Field := { fld .eth 0x140 1 1 1 .rw 0 kUM with img := true }
def ETH_STATE.STATE : Field := fld .eth 0x141 1 7 4 .ro 0 kNone
def ETH_STATE.KMP_ONLY : Field := fld .eth 0x141 1 3 3 .ro 0 kNone
def ETH_STATE.RATE : Field := fld .eth 0x141 1 2 0 .ro 0 kNone
def ETH_CTRL.SLEEP : Field := fld .eth 0x142 1 7 7 .cmd 0 kNone
def ETH_CTRL.WAKE : Field := fld .eth 0x142 1 6 6 .cmd 0 kNone
def ETH_CTRL.RETRAIN : Field := fld .eth 0x142 1 5 5 .cmd 0 kNone
def ETH_CTRL.PHY_RESET : Field := fld .eth 0x142 1 4 4 .cmd 0 kNone
def ETH_STAT.LINK_LOST : Field := { fld .eth 0x143 1 7 7 .w1c 0 kAON with sticky := true }
def ETH_STAT.TRAIN_FAIL : Field := { fld .eth 0x143 1 6 6 .w1c 0 kAON with sticky := true }
def ETH_STAT.RX_ERR : Field := { fld .eth 0x143 1 5 5 .w1c 0 kAON with sticky := true }
def ETH_STAT.SLEEP_FAIL : Field := { fld .eth 0x143 1 4 4 .w1c 0 kAON with sticky := true }
def ETH_STAT.PHY_INT : Field := { fld .eth 0x143 1 3 3 .w1c 0 kAON with sticky := true }
def ETH_STAT.MDIO_NORESP : Field := { fld .eth 0x143 1 2 2 .w1c 0 kAON with sticky := true }
def ETH_MAX_FRAME.MAX : Field := { fld .eth 0x144 2 13 0 .rw 0 kUM with img := true, fit := .range 1518 9216 }
def ETH_LOOP.MODE : Field := fld .eth 0x146 1 1 0 .rw 0 kNone
def ETH_LINK_TO.LINK_TO : Field := { fld .eth 0x147 1 7 0 .rw 0 kUM with img := true }
def ETH_SLEEP_CFG.TC10_EN : Field := { fld .eth 0x148 1 7 7 .rw 0 kUM with img := true }
def ETH_SLEEP_CFG.ACCEPT : Field := { fld .eth 0x148 1 6 6 .rw 0 kUM with img := true }
def ETH_SLEEP_CFG.WAKE_ON_TX : Field := { fld .eth 0x148 1 5 5 .rw 0 kUM with img := true }
def ETH_SLEEP_CFG.RST_SLEEP : Field := { fld .eth 0x148 1 4 4 .rw 0 kUM with img := true }
def ETH_PHY_CFG.PRESENT : Field := { fld .eth 0x150 1 7 7 .rw 0 kUM with img := true }
def ETH_PHY_CFG.C45 : Field := { fld .eth 0x150 1 6 6 .rw 0 kUM with img := true }
def ETH_PHY_CFG.PHYAD : Field := { fld .eth 0x150 1 4 0 .rw 0 kUM with img := true }
def ETH_MDIO_CTRL.GO : Field := fld .eth 0x151 1 7 7 .cmd 0 kNone
def ETH_MDIO_CTRL.WR : Field := fld .eth 0x151 1 6 6 .rw 0 kM
def ETH_MDIO_CTRL.NR : Field := fld .eth 0x151 1 5 5 .ro 0 kM
def ETH_MDIO_CTRL.DEVAD : Field := fld .eth 0x151 1 4 0 .rw 0 kM
def ETH_MDIO_REG.REG : Field := fld .eth 0x152 2 15 0 .rw 0 kM
def ETH_MDIO_DATA.DATA : Field := fld .eth 0x154 2 15 0 .rw 0 kM
def ETH_MDIO_STAT.QPOS : Field := fld .eth 0x156 1 7 6 .ro 0 kNone
def ETH_RX_OK.COUNT : Field := fld .eth 0x200 4 31 0 .tally 0 kUM
def ETH_RX_FCS.COUNT : Field := fld .eth 0x204 4 31 0 .tally 0 kUM
def ETH_RX_RUNT.COUNT : Field := fld .eth 0x208 4 31 0 .tally 0 kUM
def ETH_RX_OVERSIZE.COUNT : Field := fld .eth 0x20C 4 31 0 .tally 0 kUM
def ETH_RX_SYMBOL.COUNT : Field := fld .eth 0x210 4 31 0 .tally 0 kUM
def ETH_RX_SA_GROUP.COUNT : Field := fld .eth 0x214 4 31 0 .tally 0 kUM
def ETH_RX_PAUSE.COUNT : Field := fld .eth 0x218 4 31 0 .tally 0 kUM
def ETH_RX_BLOCKED.COUNT : Field := fld .eth 0x21C 4 31 0 .tally 0 kUM
def ETH_TX_OK.COUNT : Field := fld .eth 0x220 4 31 0 .tally 0 kUM
def ETH_TX_BADCHECK.COUNT : Field := fld .eth 0x224 4 31 0 .tally 0 kUM
def ETH_TX_OVERSIZE.COUNT : Field := fld .eth 0x228 4 31 0 .tally 0 kUM
def ETH_LINK_DOWNS.COUNT : Field := fld .eth 0x22C 4 31 0 .tally 0 kUM
def ETH_TRAIN_FAILS.COUNT : Field := fld .eth 0x230 4 31 0 .tally 0 kUM
def ETH_SLEEPS.COUNT : Field := fld .eth 0x234 4 31 0 .tally 0 kUM
def ETH_WAKES.COUNT : Field := fld .eth 0x238 4 31 0 .tally 0 kUM
def ETH_RX_BYTES.COUNT : Field := fld .eth 0x240 8 63 0 .tally 0 kUM
def ETH_TX_BYTES.COUNT : Field := fld .eth 0x248 8 63 0 .tally 0 kUM
def ethFields0 : List Field :=
  [ETH_CFG.EN, ETH_CFG.IF, ETH_CFG.ROLE, ETH_CFG.KMP_EN, ETH_CFG.AN, ETH_STATE.STATE, ETH_STATE.KMP_ONLY, ETH_STATE.RATE, ETH_CTRL.SLEEP, ETH_CTRL.WAKE, ETH_CTRL.RETRAIN, ETH_CTRL.PHY_RESET, ETH_STAT.LINK_LOST, ETH_STAT.TRAIN_FAIL, ETH_STAT.RX_ERR, ETH_STAT.SLEEP_FAIL, ETH_STAT.PHY_INT, ETH_STAT.MDIO_NORESP, ETH_MAX_FRAME.MAX, ETH_LOOP.MODE, ETH_LINK_TO.LINK_TO, ETH_SLEEP_CFG.TC10_EN, ETH_SLEEP_CFG.ACCEPT, ETH_SLEEP_CFG.WAKE_ON_TX, ETH_SLEEP_CFG.RST_SLEEP, ETH_PHY_CFG.PRESENT, ETH_PHY_CFG.C45, ETH_PHY_CFG.PHYAD, ETH_MDIO_CTRL.GO, ETH_MDIO_CTRL.WR, ETH_MDIO_CTRL.NR, ETH_MDIO_CTRL.DEVAD, ETH_MDIO_REG.REG, ETH_MDIO_DATA.DATA, ETH_MDIO_STAT.QPOS, ETH_RX_OK.COUNT, ETH_RX_FCS.COUNT, ETH_RX_RUNT.COUNT, ETH_RX_OVERSIZE.COUNT, ETH_RX_SYMBOL.COUNT]
def ethFields1 : List Field :=
  [ETH_RX_SA_GROUP.COUNT, ETH_RX_PAUSE.COUNT, ETH_RX_BLOCKED.COUNT, ETH_TX_OK.COUNT, ETH_TX_BADCHECK.COUNT, ETH_TX_OVERSIZE.COUNT, ETH_LINK_DOWNS.COUNT, ETH_TRAIN_FAILS.COUNT, ETH_SLEEPS.COUNT, ETH_WAKES.COUNT, ETH_RX_BYTES.COUNT, ETH_TX_BYTES.COUNT]
def ethFields : List Field := ethFields0 ++ ethFields1

/-! Class `l2` (cards of spec/07). -/

def L2_CFG.LEARN_EN : Field := { fld .l2 0x140 1 7 7 .rw 0 kUM with img := true }
def L2_AGE_PERIOD.P : Field := { fld .l2 0x141 2 15 0 .rw 0 kUM with img := true }
def L2_PORT_LEARN.PORTS : Field := { fld .l2 0x144 2 15 0 .rw 0 kUM with img := true }
def L2_SEED0.SEED : Field := { fld .l2 0x146 2 15 0 .rw 0 kUM with img := true }
def L2_SEED1.SEED : Field := { fld .l2 0x148 2 15 0 .rw 0 kUM with img := true }
def L2_REHASH.START : Field := fld .l2 0x14A 1 7 7 .cmd 0 kNone
def L2_REHASH.CUR : Field := fld .l2 0x14A 1 6 6 .ro 0 kUM
def L2_REHASH.STATE : Field := fld .l2 0x14A 1 5 4 .ro 0 kUM
def L2_REHASH.PASS : Field := fld .l2 0x14A 1 3 2 .ro 0 kUM
def L2_STAT.LEARN_FULL : Field := { fld .l2 0x14B 1 7 7 .w1c 0 kAON with sticky := true }
def L2_STAT.BUCKET_FULL : Field := { fld .l2 0x14B 1 6 6 .w1c 0 kAON with sticky := true }
def L2_STAT.REHASH_LOSS : Field := { fld .l2 0x14B 1 5 5 .w1c 0 kAON with sticky := true }
def L2_STAT.STALLED : Field := { fld .l2 0x14B 1 4 4 .w1c 0 kAON with sticky := true }
def L2_COUNT.ENTRIES : Field := { fld .l2 0x14C 2 15 0 .ro 0 kNone with live := true }
def L2_LEARNQ.DEPTH : Field := fld .l2 0x14E 1 7 0 .ro 0 kNone
def L2_CMD.GO : Field := fld .l2 0x150 1 7 7 .cmd 0 kNone
def L2_CMD.OP : Field := fld .l2 0x150 1 6 4 .rw 0 kM
def L2_CMD.RESULT : Field := fld .l2 0x150 1 3 0 .ro 0 kM
def L2_KEY.FID : Field := fld .l2 0x151 8 59 48 .rw 0 kM
def L2_KEY.MAC : Field := fld .l2 0x151 8 47 0 .rw 0 kM
def L2_DATA.VALID : Field := fld .l2 0x15C 4 31 31 .ro 0 kM
def L2_DATA.STATIC : Field := fld .l2 0x15C 4 30 30 .rw 0 kM
def L2_DATA.ACT : Field := fld .l2 0x15C 4 29 29 .ro 0 kM
def L2_DATA.H : Field := fld .l2 0x15C 4 28 28 .ro 0 kM
def L2_DATA.TAG : Field := fld .l2 0x15C 4 27 26 .ro 0 kM
def L2_DATA.DROP_MOVE : Field := fld .l2 0x15C 4 25 25 .rw 0 kM
def L2_DATA.DLIST : Field := fld .l2 0x15C 4 24 24 .rw 0 kM
def L2_DATA.DEST : Field := fld .l2 0x15C 4 15 0 .rw 0 kM
def L2_LEARNED.COUNT : Field := fld .l2 0x200 4 31 0 .tally 0 kUM
def L2_LEARN_DISCARD.COUNT : Field := fld .l2 0x204 4 31 0 .tally 0 kUM
def L2_BUCKET_FULL.COUNT : Field := fld .l2 0x208 4 31 0 .tally 0 kUM
def L2_AGED.COUNT : Field := fld .l2 0x20C 4 31 0 .tally 0 kUM
def L2_AGE_ABORT.COUNT : Field := fld .l2 0x210 4 31 0 .tally 0 kUM
def L2_MOVES.COUNT : Field := fld .l2 0x214 4 31 0 .tally 0 kUM
def L2_EVICTED.COUNT : Field := fld .l2 0x218 4 31 0 .tally 0 kUM
def L2_REHASH_LOST.COUNT : Field := fld .l2 0x21C 4 31 0 .tally 0 kUM
def L2_DA_MISS.COUNT : Field := fld .l2 0x220 4 31 0 .tally 0 kUM
def l2Fields : List Field :=
  [L2_CFG.LEARN_EN, L2_AGE_PERIOD.P, L2_PORT_LEARN.PORTS, L2_SEED0.SEED, L2_SEED1.SEED, L2_REHASH.START, L2_REHASH.CUR, L2_REHASH.STATE, L2_REHASH.PASS, L2_STAT.LEARN_FULL, L2_STAT.BUCKET_FULL, L2_STAT.REHASH_LOSS, L2_STAT.STALLED, L2_COUNT.ENTRIES, L2_LEARNQ.DEPTH, L2_CMD.GO, L2_CMD.OP, L2_CMD.RESULT, L2_KEY.FID, L2_KEY.MAC, L2_DATA.VALID, L2_DATA.STATIC, L2_DATA.ACT, L2_DATA.H, L2_DATA.TAG, L2_DATA.DROP_MOVE, L2_DATA.DLIST, L2_DATA.DEST, L2_LEARNED.COUNT, L2_LEARN_DISCARD.COUNT, L2_BUCKET_FULL.COUNT, L2_AGED.COUNT, L2_AGE_ABORT.COUNT, L2_MOVES.COUNT, L2_EVICTED.COUNT, L2_REHASH_LOST.COUNT, L2_DA_MISS.COUNT]

/-! Class `vlan` (cards of spec/07). -/

def VLAN_PVID.UNTAG_DROP : Field := { fld .vlan 0x140 2 15 15 .rw 0 kUM with img := true, stride := 2, count := 16 }
def VLAN_PVID.PVID : Field := { fld .vlan 0x140 2 11 0 .rw 0 kUM with img := true, stride := 2, count := 16 }
def VLAN_SEL.NEXT : Field := fld .vlan 0x160 2 15 15 .rw 0 kM
def VLAN_SEL.VID : Field := fld .vlan 0x160 2 11 0 .rw 0 kM
def VLAN_ENTRY.VALID : Field := { fld .vlan 0x168 8 63 63 .rw 0 kUM with img := true }
def VLAN_ENTRY.LEARN : Field := { fld .vlan 0x168 8 62 62 .rw 0 kUM with img := true }
def VLAN_ENTRY.UNK_UC : Field := { fld .vlan 0x168 8 61 60 .rw 0 kUM with img := true }
def VLAN_ENTRY.UNK_MC : Field := { fld .vlan 0x168 8 59 58 .rw 0 kUM with img := true }
def VLAN_ENTRY.RTR_EN : Field := { fld .vlan 0x168 8 57 57 .rw 0 kUM with img := true }
def VLAN_ENTRY.RMAC : Field := { fld .vlan 0x168 8 56 55 .rw 0 kUM with img := true }
def VLAN_ENTRY.HRING : Field := { fld .vlan 0x168 8 54 51 .rw 0 kUM with img := true }
def VLAN_ENTRY.MEMBER : Field := { fld .vlan 0x168 8 47 32 .rw 0 kUM with img := true }
def VLAN_ENTRY.UNTAG : Field := { fld .vlan 0x168 8 31 16 .rw 0 kUM with img := true }
def VLAN_ENTRY.FID : Field := { fld .vlan 0x168 8 11 0 .rw 0 kUM with img := true }
def VLAN_RMAC.MAC : Field := { fld .vlan 0x180 6 47 0 .rw 0 kUM with img := true, stride := 8, count := 4 }
def vlanFields : List Field :=
  [VLAN_PVID.UNTAG_DROP, VLAN_PVID.PVID, VLAN_SEL.NEXT, VLAN_SEL.VID, VLAN_ENTRY.VALID, VLAN_ENTRY.LEARN, VLAN_ENTRY.UNK_UC, VLAN_ENTRY.UNK_MC, VLAN_ENTRY.RTR_EN, VLAN_ENTRY.RMAC, VLAN_ENTRY.HRING, VLAN_ENTRY.MEMBER, VLAN_ENTRY.UNTAG, VLAN_ENTRY.FID, VLAN_RMAC.MAC]

/-! Class `seam` (cards of spec/07). -/

def SEAM_CMD.GO : Field := fld .seam 0x140 1 7 7 .cmd 0 kNone
def SEAM_CMD.OP : Field := fld .seam 0x140 1 6 5 .rw 0 kM
def SEAM_CMD.FAM : Field := fld .seam 0x140 1 4 4 .rw 0 kM
def SEAM_PLEN.PLEN : Field := fld .seam 0x141 1 7 0 .rw 0 kM
def SEAM_ADDR.ADDR : Field := fld .seam 0x142 16 127 0 .rw 0 kM
def SEAM_ROUTE.ROUTE : Field := fld .seam 0x152 2 13 0 .rw 0 kM
def SEAM_RESULT.RESULT : Field := fld .seam 0x154 1 7 4 .ro 0 kM
def SEAM_RESULT.HIT : Field := fld .seam 0x154 1 3 3 .ro 0 kM
def SEAM_HIT.HPLEN : Field := fld .seam 0x156 3 23 16 .ro 0 kM
def SEAM_HIT.HROUTE : Field := fld .seam 0x156 3 15 0 .ro 0 kM
def SEAM_FREE_M.FREE : Field := { fld .seam 0x160 2 15 0 .ro 0 kNone with stride := 2, count := 4, live := true }
def SEAM_COUNT.V4 : Field := { fld .seam 0x168 4 31 16 .ro 0 kNone with live := true }
def SEAM_COUNT.V6 : Field := { fld .seam 0x168 4 15 0 .ro 0 kNone with live := true }
def SEAM_STAT.NODE_FULL : Field := { fld .seam 0x16C 1 7 7 .w1c 0 kAON with sticky := true }
def SEAM_HITS.COUNT : Field := fld .seam 0x200 4 31 0 .tally 0 kUM
def SEAM_MISSES.COUNT : Field := fld .seam 0x204 4 31 0 .tally 0 kUM
def seamFields : List Field :=
  [SEAM_CMD.GO, SEAM_CMD.OP, SEAM_CMD.FAM, SEAM_PLEN.PLEN, SEAM_ADDR.ADDR, SEAM_ROUTE.ROUTE, SEAM_RESULT.RESULT, SEAM_RESULT.HIT, SEAM_HIT.HPLEN, SEAM_HIT.HROUTE, SEAM_FREE_M.FREE, SEAM_COUNT.V4, SEAM_COUNT.V6, SEAM_STAT.NODE_FULL, SEAM_HITS.COUNT, SEAM_MISSES.COUNT]

/-! Class `can` (cards of spec/08). -/

def CAN_RX_OK.COUNT : Field := fld .can 0x140 4 31 0 .tally 0 kUM
def CAN_TX_OK.COUNT : Field := fld .can 0x144 4 31 0 .tally 0 kUM
def CAN_RX_ERR.COUNT : Field := fld .can 0x148 4 31 0 .tally 0 kUM
def CAN_TX_ERR.COUNT : Field := fld .can 0x14C 4 31 0 .tally 0 kUM
def CAN_ARB_LOST.COUNT : Field := fld .can 0x150 4 31 0 .tally 0 kUM
def CAN_BUSOFFS.COUNT : Field := fld .can 0x154 4 31 0 .tally 0 kUM
def CAN_PXE.COUNT : Field := fld .can 0x158 4 31 0 .tally 0 kUM
def CAN_TX_DROPS.COUNT : Field := fld .can 0x15C 4 31 0 .tally 0 kUM
def CAN_OBJ_LOST.COUNT : Field := fld .can 0x160 4 31 0 .tally 0 kUM
def CAN_CFG.EN : Field := { fld .can 0x170 1 7 7 .rw 0 kUM with img := true }
def CAN_CFG.FD_EN : Field := { fld .can 0x170 1 6 6 .rw 0 kUM with img := true }
def CAN_CFG.XL_EN : Field := { fld .can 0x170 1 5 5 .rw 0 kUM with img := true }
def CAN_CFG.FAST : Field := { fld .can 0x170 1 4 4 .rw 0 kUM with img := true }
def CAN_CFG.ERRSIG : Field := { fld .can 0x170 1 3 3 .rw 0 kUM with img := true }
def CAN_CFG.LISTEN_ONLY : Field := { fld .can 0x170 1 2 2 .rw 0 kUM with img := true }
def CAN_CFG.DAR : Field := { fld .can 0x170 1 1 1 .rw 0 kUM with img := true }
def CAN_CFG.PXHD : Field := { fld .can 0x170 1 0 0 .rw 0 kUM with img := true }
def CAN_STATE.STATE : Field := fld .can 0x171 1 7 4 .ro 0 kNone
def CAN_CTRL.RECOVER : Field := fld .can 0x172 1 7 7 .cmd 0 kNone
def CAN_STAT.BUSOFF : Field := { fld .can 0x173 1 7 7 .w1c 0 kAON with sticky := true }
def CAN_STAT.PASSIVE : Field := { fld .can 0x173 1 6 6 .w1c 0 kAON with sticky := true }
def CAN_STAT.PXE : Field := { fld .can 0x173 1 5 5 .w1c 0 kAON with sticky := true }
def CAN_STAT.FIFO_OVR : Field := { fld .can 0x173 1 4 4 .w1c 0 kAON with sticky := true }
def CAN_STAT.MSGLST : Field := { fld .can 0x173 1 3 3 .w1c 0 kAON with sticky := true }
def CAN_STAT.TX_DROP : Field := { fld .can 0x173 1 2 2 .w1c 0 kAON with sticky := true }
def CAN_ERRCNT.TEC : Field := { fld .can 0x174 2 15 8 .ro 0 kNone with live := true }
def CAN_ERRCNT.REC : Field := { fld .can 0x174 2 7 0 .ro 0 kNone with live := true }
def CAN_BO_CFG.BO_AUTO : Field := { fld .can 0x176 1 7 7 .rw 0 kUM with img := true }
def CAN_BO_CFG.BO_FLUSH : Field := { fld .can 0x176 1 6 6 .rw 0 kUM with img := true }
def CAN_BO_CFG.BO_DELAY : Field := { fld .can 0x176 1 5 0 .rw 0 kUM with img := true }
def CAN_TXLIFE.TX_LIFE : Field := { fld .can 0x177 1 7 0 .rw 0 kUM with img := true }
def CAN_TXQ_DEPTH.DEPTH : Field := fld .can 0x178 1 7 0 .ro 0 kNone
def CAN_TXQ_RSV.RSV : Field := { fld .can 0x179 1 7 0 .rw 0 kUM with img := true, fit := .range 0 32 }
def CAN_NBT.BRP : Field := { fld .can 0x180 5 39 32 .rw 0 kUM with img := true, fit := .range 1 32 }
def CAN_NBT.TSEG1 : Field := { fld .can 0x180 5 31 23 .rw 0 kUM with img := true, fit := .range 2 256 }
def CAN_NBT.TSEG2 : Field := { fld .can 0x180 5 22 15 .rw 0 kUM with img := true, fit := .range 1 128 }
def CAN_NBT.SJW : Field := { fld .can 0x180 5 14 7 .rw 0 kUM with img := true, fit := .range 1 128 }
def CAN_DBT.BRP : Field := { fld .can 0x185 4 31 26 .rw 0 kUM with img := true, fit := .range 1 32 }
def CAN_DBT.TSEG1 : Field := { fld .can 0x185 4 25 20 .rw 0 kUM with img := true, fit := .range 1 32 }
def CAN_DBT.TSEG2 : Field := { fld .can 0x185 4 19 15 .rw 0 kUM with img := true, fit := .range 1 16 }
def CAN_DBT.SJW : Field := { fld .can 0x185 4 14 10 .rw 0 kUM with img := true, fit := .range 1 16 }
def CAN_DBT.TDCO : Field := { fld .can 0x185 4 9 3 .rw 0 kUM with img := true }
def CAN_XBT.BRP : Field := { fld .can 0x189 4 31 26 .rw 0 kUM with img := true, fit := .range 1 32 }
def CAN_XBT.TSEG1 : Field := { fld .can 0x189 4 25 20 .rw 0 kUM with img := true, fit := .range 1 32 }
def CAN_XBT.TSEG2 : Field := { fld .can 0x189 4 19 15 .rw 0 kUM with img := true, fit := .range 1 16 }
def CAN_XBT.SJW : Field := { fld .can 0x189 4 14 10 .rw 0 kUM with img := true, fit := .range 1 16 }
def CAN_XBT.TDCO : Field := { fld .can 0x189 4 9 3 .rw 0 kUM with img := true }
def CAN_XPWM.PWMS : Field := { fld .can 0x18E 3 23 18 .rw 0 kUM with img := true, fit := .atLeast 1 }
def CAN_XPWM.PWML : Field := { fld .can 0x18E 3 17 12 .rw 0 kUM with img := true, fit := .atLeast 1 }
def CAN_XPWM.PWMO : Field := { fld .can 0x18E 3 11 6 .rw 0 kUM with img := true }
def CAN_FIFO0_CFG.MODE : Field := { fld .can 0x1A0 12 95 95 .rw 0 kUM with img := true }
def CAN_FIFO0_CFG.BASE : Field := { fld .can 0x1A0 12 94 88 .rw 0 kUM with img := true }
def CAN_FIFO0_CFG.SIZE : Field := { fld .can 0x1A0 12 87 81 .rw 0 kUM with img := true, fit := .range 0 64 }
def CAN_FIFO0_CFG.TRIG : Field := { fld .can 0x1A0 12 80 74 .rw 0 kUM with img := true, fit := .atLeast 1 }
def CAN_FIFO0_CFG.FMT : Field := { fld .can 0x1A0 12 73 72 .rw 0 kUM with img := true }
def CAN_FIFO0_CFG.IDE : Field := { fld .can 0x1A0 12 71 71 .rw 0 kUM with img := true }
def CAN_FIFO0_CFG.ID : Field := { fld .can 0x1A0 12 60 32 .rw 0 kUM with img := true }
def CAN_FIFO0_CFG.MASK : Field := { fld .can 0x1A0 12 28 0 .rw 0 kUM with img := true }
def CAN_FIFO1_CFG.MODE : Field := { fld .can 0x1B0 12 95 95 .rw 0 kUM with img := true }
def CAN_FIFO1_CFG.BASE : Field := { fld .can 0x1B0 12 94 88 .rw 0 kUM with img := true }
def CAN_FIFO1_CFG.SIZE : Field := { fld .can 0x1B0 12 87 81 .rw 0 kUM with img := true, fit := .range 0 64 }
def CAN_FIFO1_CFG.TRIG : Field := { fld .can 0x1B0 12 80 74 .rw 0 kUM with img := true, fit := .atLeast 1 }
def CAN_FIFO1_CFG.FMT : Field := { fld .can 0x1B0 12 73 72 .rw 0 kUM with img := true }
def CAN_FIFO1_CFG.IDE : Field := { fld .can 0x1B0 12 71 71 .rw 0 kUM with img := true }
def CAN_FIFO1_CFG.ID : Field := { fld .can 0x1B0 12 60 32 .rw 0 kUM with img := true }
def CAN_FIFO1_CFG.MASK : Field := { fld .can 0x1B0 12 28 0 .rw 0 kUM with img := true }
def CAN_FIFO0_POP.COUNT : Field := fld .can 0x1AC 1 7 0 .rs 0 kNone
def CAN_FIFO1_POP.COUNT : Field := fld .can 0x1BC 1 7 0 .rs 0 kNone
def CAN_OBJ_SEL.OBJ : Field := fld .can 0x200 1 6 0 .rw 0 kM
def CAN_OBJ_CMD.TAKE : Field := fld .can 0x201 1 7 7 .cmd 0 kNone
def CAN_OBJ_CMD.STORE : Field := fld .can 0x201 1 6 6 .cmd 0 kNone
def CAN_OBJ_CMD.SEND : Field := fld .can 0x201 1 5 5 .cmd 0 kNone
def CAN_OBJ_CMD.ABORT : Field := fld .can 0x201 1 4 4 .cmd 0 kNone
def CAN_OBJ_VIEW.TYPE : Field := { fld .can 0x204 24 191 190 .rw 0 kUM with img := true }
def CAN_OBJ_VIEW.FMT : Field := { fld .can 0x204 24 189 188 .rw 0 kUM with img := true }
def CAN_OBJ_VIEW.IDE : Field := { fld .can 0x204 24 187 187 .rw 0 kUM with img := true }
def CAN_OBJ_VIEW.BRS : Field := { fld .can 0x204 24 186 186 .rw 0 kUM with img := true }
def CAN_OBJ_VIEW.ESI : Field := fld .can 0x204 24 185 185 .ro 0 kUM
def CAN_OBJ_VIEW.NEWDAT : Field := fld .can 0x204 24 184 184 .ro 0 kUM
def CAN_OBJ_VIEW.MSGLST : Field := fld .can 0x204 24 183 183 .ro 0 kUM
def CAN_OBJ_VIEW.TXRQ : Field := fld .can 0x204 24 182 182 .ro 0 kUM
def CAN_OBJ_VIEW.SINGLE : Field := { fld .can 0x204 24 181 181 .rw 0 kUM with img := true }
def CAN_OBJ_VIEW.XLSTK : Field := fld .can 0x204 24 180 180 .ro 0 kUM
def CAN_OBJ_VIEW.DISP : Field := fld .can 0x204 24 179 178 .ro 0 kUM
def CAN_OBJ_VIEW.RTR : Field := { fld .can 0x204 24 177 177 .rw 0 kUM with img := true }
def CAN_OBJ_VIEW.REASON : Field := fld .can 0x204 24 175 168 .ro 0 kUM
def CAN_OBJ_VIEW.ID : Field := { fld .can 0x204 24 167 139 .rw 0 kUM with img := true }
def CAN_OBJ_VIEW.MASK : Field := { fld .can 0x204 24 127 99 .rw 0 kUM with img := true }
def CAN_OBJ_VIEW.LEN : Field := { fld .can 0x204 24 95 84 .rw 0 kUM with img := true, fit := .range 0 2048 }
def CAN_OBJ_VIEW.SDT : Field := { fld .can 0x204 24 83 76 .rw 0 kUM with img := true }
def CAN_OBJ_VIEW.VCID : Field := { fld .can 0x204 24 75 68 .rw 0 kUM with img := true }
def CAN_OBJ_VIEW.SEC : Field := { fld .can 0x204 24 67 67 .rw 0 kUM with img := true }
def CAN_OBJ_VIEW.AF : Field := { fld .can 0x204 24 63 32 .rw 0 kUM with img := true }
def CAN_OBJ_VIEW.STAMP : Field := fld .can 0x204 24 31 0 .ro 0 kUM
def CAN_NEWDAT.MAP : Field := { fld .can 0x260 16 127 0 .ro 0 kNone with live := true }
def CAN_TXRQ.MAP : Field := { fld .can 0x270 16 127 0 .ro 0 kNone with live := true }
def CAN_XLDATA.DATA : Field := { fld .can 0x800 1 7 0 .ro 0 kNone with stride := 1, count := 2048 }
def CAN_OBJ_DATA.DATA : Field := { fld .can 0x21C 1 7 0 .rw 0 kUM with img := true, stride := 1, count := 64 }
def canFields0 : List Field :=
  [CAN_RX_OK.COUNT, CAN_TX_OK.COUNT, CAN_RX_ERR.COUNT, CAN_TX_ERR.COUNT, CAN_ARB_LOST.COUNT, CAN_BUSOFFS.COUNT, CAN_PXE.COUNT, CAN_TX_DROPS.COUNT, CAN_OBJ_LOST.COUNT, CAN_CFG.EN, CAN_CFG.FD_EN, CAN_CFG.XL_EN, CAN_CFG.FAST, CAN_CFG.ERRSIG, CAN_CFG.LISTEN_ONLY, CAN_CFG.DAR, CAN_CFG.PXHD, CAN_STATE.STATE, CAN_CTRL.RECOVER, CAN_STAT.BUSOFF, CAN_STAT.PASSIVE, CAN_STAT.PXE, CAN_STAT.FIFO_OVR, CAN_STAT.MSGLST, CAN_STAT.TX_DROP, CAN_ERRCNT.TEC, CAN_ERRCNT.REC, CAN_BO_CFG.BO_AUTO, CAN_BO_CFG.BO_FLUSH, CAN_BO_CFG.BO_DELAY, CAN_TXLIFE.TX_LIFE, CAN_TXQ_DEPTH.DEPTH, CAN_TXQ_RSV.RSV, CAN_NBT.BRP, CAN_NBT.TSEG1, CAN_NBT.TSEG2, CAN_NBT.SJW, CAN_DBT.BRP, CAN_DBT.TSEG1, CAN_DBT.TSEG2]
def canFields1 : List Field :=
  [CAN_DBT.SJW, CAN_DBT.TDCO, CAN_XBT.BRP, CAN_XBT.TSEG1, CAN_XBT.TSEG2, CAN_XBT.SJW, CAN_XBT.TDCO, CAN_XPWM.PWMS, CAN_XPWM.PWML, CAN_XPWM.PWMO, CAN_FIFO0_CFG.MODE, CAN_FIFO0_CFG.BASE, CAN_FIFO0_CFG.SIZE, CAN_FIFO0_CFG.TRIG, CAN_FIFO0_CFG.FMT, CAN_FIFO0_CFG.IDE, CAN_FIFO0_CFG.ID, CAN_FIFO0_CFG.MASK, CAN_FIFO1_CFG.MODE, CAN_FIFO1_CFG.BASE, CAN_FIFO1_CFG.SIZE, CAN_FIFO1_CFG.TRIG, CAN_FIFO1_CFG.FMT, CAN_FIFO1_CFG.IDE, CAN_FIFO1_CFG.ID, CAN_FIFO1_CFG.MASK, CAN_FIFO0_POP.COUNT, CAN_FIFO1_POP.COUNT, CAN_OBJ_SEL.OBJ, CAN_OBJ_CMD.TAKE, CAN_OBJ_CMD.STORE, CAN_OBJ_CMD.SEND, CAN_OBJ_CMD.ABORT, CAN_OBJ_VIEW.TYPE, CAN_OBJ_VIEW.FMT, CAN_OBJ_VIEW.IDE, CAN_OBJ_VIEW.BRS, CAN_OBJ_VIEW.ESI, CAN_OBJ_VIEW.NEWDAT, CAN_OBJ_VIEW.MSGLST]
def canFields2 : List Field :=
  [CAN_OBJ_VIEW.TXRQ, CAN_OBJ_VIEW.SINGLE, CAN_OBJ_VIEW.XLSTK, CAN_OBJ_VIEW.DISP, CAN_OBJ_VIEW.RTR, CAN_OBJ_VIEW.REASON, CAN_OBJ_VIEW.ID, CAN_OBJ_VIEW.MASK, CAN_OBJ_VIEW.LEN, CAN_OBJ_VIEW.SDT, CAN_OBJ_VIEW.VCID, CAN_OBJ_VIEW.SEC, CAN_OBJ_VIEW.AF, CAN_OBJ_VIEW.STAMP, CAN_NEWDAT.MAP, CAN_TXRQ.MAP, CAN_XLDATA.DATA, CAN_OBJ_DATA.DATA]
def canFields : List Field := canFields0 ++ canFields1 ++ canFields2

/-! Class `cant` (cards of spec/08, 15). -/

def CANT_MODE.MODE : Field := { fld .cant 0x140 1 7 5 .rw 2 [.K, .D] with fit := .codes 3 0 }
def CANT_MODE.SIC : Field := { fld .cant 0x140 1 4 4 .rw 0 kUM with img := true }
def CANT_MODE.FAST_CAP : Field := fld .cant 0x140 1 3 3 .ro 0 kAON
def CANT_STAT.TXD_DOM : Field := { fld .cant 0x141 1 7 7 .w1c 0 kAON with sticky := true }
def CANT_STAT.BUS_DOM : Field := { fld .cant 0x141 1 6 6 .w1c 0 kAON with sticky := true }
def CANT_STAT.THERM : Field := { fld .cant 0x141 1 5 5 .w1c 0 kAON with sticky := true }
def CANT_STAT.UV : Field := { fld .cant 0x141 1 4 4 .w1c 0 kAON with sticky := true }
def CANT_LIVE.TX_OFF : Field := fld .cant 0x142 1 7 7 .ro 0 kNone
def CANT_LIVE.FAST_ON : Field := fld .cant 0x142 1 6 6 .ro 0 kNone
def CANT_ARM.ARM : Field := { fld .cant 0x143 1 7 6 .rw 0 kAON with img := true, fit := .codes 2 0 }
def CANT_ARM.FD_PASSIVE : Field := { fld .cant 0x143 1 5 5 .rw 0 kAON with img := true }
def CANT_ARM.DLC_EN : Field := { fld .cant 0x143 1 4 4 .rw 0 kAON with img := true }
def CANT_ARM.DLC : Field := { fld .cant 0x143 1 3 0 .rw 0 kAON with img := true }
def CANT_WUF_ID.IDE : Field := { fld .cant 0x144 4 31 31 .rw 0 kAON with img := true }
def CANT_WUF_ID.ID : Field := { fld .cant 0x144 4 28 0 .rw 0 kAON with img := true }
def CANT_WUF_MASK.MASK : Field := { fld .cant 0x148 4 28 0 .rw 0 kAON with img := true }
def CANT_WUF_DATA.DATA : Field := { fld .cant 0x14C 8 63 0 .rw 0 kAON with img := true }
def CANT_WUF_RATE.RATE : Field := { fld .cant 0x154 1 1 0 .rw 0 kAON with img := true }
def CANT_FEC.FEC : Field := fld .cant 0x155 1 4 0 .ro 0 kNone
def CANT_FEC_THR.FEC_THR : Field := { fld .cant 0x156 1 4 0 .rw 0 kAON with img := true, fit := .atLeast 1 }
def CANT_WUF_WAKES.WUF_WAKES : Field := fld .cant 0x158 4 31 0 .tally 0 [.U, .M, .K, .D]
def cantFields : List Field :=
  [CANT_MODE.MODE, CANT_MODE.SIC, CANT_MODE.FAST_CAP, CANT_STAT.TXD_DOM, CANT_STAT.BUS_DOM, CANT_STAT.THERM, CANT_STAT.UV, CANT_LIVE.TX_OFF, CANT_LIVE.FAST_ON, CANT_ARM.ARM, CANT_ARM.FD_PASSIVE, CANT_ARM.DLC_EN, CANT_ARM.DLC, CANT_WUF_ID.IDE, CANT_WUF_ID.ID, CANT_WUF_MASK.MASK, CANT_WUF_DATA.DATA, CANT_WUF_RATE.RATE, CANT_FEC.FEC, CANT_FEC_THR.FEC_THR, CANT_WUF_WAKES.WUF_WAKES]

/-! Class `lin` (cards of spec/08). -/

def LIN_HEADERS.COUNT : Field := fld .lin 0x140 4 31 0 .tally 0 kUM
def LIN_RX_OK.COUNT : Field := fld .lin 0x144 4 31 0 .tally 0 kUM
def LIN_TX_OK.COUNT : Field := fld .lin 0x148 4 31 0 .tally 0 kUM
def LIN_NORESP.COUNT : Field := fld .lin 0x14C 4 31 0 .tally 0 kUM
def LIN_CSUM.COUNT : Field := fld .lin 0x150 4 31 0 .tally 0 kUM
def LIN_BITERR.COUNT : Field := fld .lin 0x154 4 31 0 .tally 0 kUM
def LIN_FRAMING.COUNT : Field := fld .lin 0x158 4 31 0 .tally 0 kUM
def LIN_COLLISIONS.COUNT : Field := fld .lin 0x15C 4 31 0 .tally 0 kUM
def LIN_DROPS.COUNT : Field := fld .lin 0x160 4 31 0 .tally 0 kUM
def LIN_CFG.EN : Field := { fld .lin 0x170 1 7 7 .rw 0 kUM with img := true }
def LIN_CFG.BREAK : Field := { fld .lin 0x170 1 6 4 .rw 0 kUM with img := true }
def LIN_CFG.DELIM : Field := { fld .lin 0x170 1 3 2 .rw 0 kUM with img := true }
def LIN_RATE.RATE : Field := { fld .lin 0x171 2 15 0 .rw 0 kUM with img := true, fit := .range 1000 20000 }
def LIN_SCHED_CMD.GO : Field := fld .lin 0x173 1 7 7 .cmd 0 kNone
def LIN_SCHED_CMD.TABLE : Field := { fld .lin 0x173 1 2 0 .rw 0 kUM with img := true }
def LIN_SCHED_STAT.CUR : Field := fld .lin 0x174 1 7 5 .ro 0 kNone
def LIN_SCHED_STAT.COLL : Field := fld .lin 0x174 1 4 4 .ro 0 kNone
def LIN_SCHED_STAT.STATE : Field := fld .lin 0x174 1 3 2 .ro 0 kNone
def LIN_SCHED_STAT.PEND : Field := fld .lin 0x174 1 1 1 .ro 0 kNone
def LIN_SCHED_POS.POS : Field := fld .lin 0x175 1 6 0 .ro 0 kNone
def LIN_STAT.NORESP : Field := { fld .lin 0x176 1 7 7 .w1c 0 kAON with sticky := true }
def LIN_STAT.CSUM : Field := { fld .lin 0x176 1 6 6 .w1c 0 kAON with sticky := true }
def LIN_STAT.BITERR : Field := { fld .lin 0x176 1 5 5 .w1c 0 kAON with sticky := true }
def LIN_STAT.FRAMING : Field := { fld .lin 0x176 1 4 4 .w1c 0 kAON with sticky := true }
def LIN_STAT.OVERWRITE : Field := { fld .lin 0x176 1 3 3 .w1c 0 kAON with sticky := true }
def LIN_TAB.START : Field := { fld .lin 0x180 2 15 9 .rw 0 kUM with img := true, stride := 2, count := 8 }
def LIN_TAB.LEN : Field := { fld .lin 0x180 2 8 2 .rw 0 kUM with img := true, stride := 2, count := 8, fit := .range 0 64 }
def LIN_SENTRY.TYPE : Field := { fld .lin 0x200 4 31 29 .rw 0 kUM with img := true, stride := 4, count := 128 }
def LIN_SENTRY.CTAB : Field := { fld .lin 0x200 4 28 26 .rw 0 kUM with img := true, stride := 4, count := 128 }
def LIN_SENTRY.ID : Field := { fld .lin 0x200 4 23 18 .rw 0 kUM with img := true, stride := 4, count := 128 }
def LIN_SENTRY.DELAY : Field := { fld .lin 0x200 4 9 0 .rw 0 kUM with img := true, stride := 4, count := 128 }
def LIN_FRAME.DIR : Field := { fld .lin 0x400 1 7 6 .rw 0 kUM with img := true, stride := 16, count := 64 }
def LIN_FRAME.CSUM : Field := { fld .lin 0x400 1 5 5 .rw 0 kUM with img := true, stride := 16, count := 64 }
def LIN_FRAME.ROUTE : Field := { fld .lin 0x400 1 4 4 .rw 0 kUM with img := true, stride := 16, count := 64 }
def LIN_FRAME.LEN : Field := { fld .lin 0x400 1 3 0 .rw 0 kUM with img := true, stride := 16, count := 64 }
def LIN_FRAME_STAT.NEW : Field := { fld .lin 0x401 1 7 7 .w1c 0 kUM with stride := 16, count := 64 }
def LIN_FRAME_STAT.LAST : Field := { fld .lin 0x401 1 6 4 .ro 0 kUM with stride := 16, count := 64 }
def LIN_FRAME_STAT.UNSENT : Field := { fld .lin 0x401 1 3 3 .ro 0 kUM with stride := 16, count := 64 }
def LIN_FRAME_DATA.DATA : Field := { fld .lin 0x408 8 63 0 .rw 0 kUM with stride := 16, count := 64, live := true }
def linFields : List Field :=
  [LIN_HEADERS.COUNT, LIN_RX_OK.COUNT, LIN_TX_OK.COUNT, LIN_NORESP.COUNT, LIN_CSUM.COUNT, LIN_BITERR.COUNT, LIN_FRAMING.COUNT, LIN_COLLISIONS.COUNT, LIN_DROPS.COUNT, LIN_CFG.EN, LIN_CFG.BREAK, LIN_CFG.DELIM, LIN_RATE.RATE, LIN_SCHED_CMD.GO, LIN_SCHED_CMD.TABLE, LIN_SCHED_STAT.CUR, LIN_SCHED_STAT.COLL, LIN_SCHED_STAT.STATE, LIN_SCHED_STAT.PEND, LIN_SCHED_POS.POS, LIN_STAT.NORESP, LIN_STAT.CSUM, LIN_STAT.BITERR, LIN_STAT.FRAMING, LIN_STAT.OVERWRITE, LIN_TAB.START, LIN_TAB.LEN, LIN_SENTRY.TYPE, LIN_SENTRY.CTAB, LIN_SENTRY.ID, LIN_SENTRY.DELAY, LIN_FRAME.DIR, LIN_FRAME.CSUM, LIN_FRAME.ROUTE, LIN_FRAME.LEN, LIN_FRAME_STAT.NEW, LIN_FRAME_STAT.LAST, LIN_FRAME_STAT.UNSENT, LIN_FRAME_DATA.DATA]

/-! Class `lint` (cards of spec/08). -/

def LINT_CTRL.MPU : Field := { fld .lint 0x140 1 7 7 .rw 0 kUM with img := true }
def LINT_CTRL.MODE : Field := { fld .lint 0x140 1 6 5 .rw 2 [.K, .D] with fit := .codes 2 0 }
def LINT_STAT.TXD_DOM : Field := { fld .lint 0x141 1 7 7 .w1c 0 kAON with sticky := true }
def LINT_STAT.BUS_DOM : Field := { fld .lint 0x141 1 6 6 .w1c 0 kAON with sticky := true }
def LINT_STAT.THERM : Field := { fld .lint 0x141 1 5 5 .w1c 0 kAON with sticky := true }
def lintFields : List Field :=
  [LINT_CTRL.MPU, LINT_CTRL.MODE, LINT_STAT.TXD_DOM, LINT_STAT.BUS_DOM, LINT_STAT.THERM]

/-! Class `route` (cards of spec/09). -/

def RT_SEL.NEXT : Field := fld .route 0x140 2 15 15 .rw 0 kM
def RT_SEL.INDEX : Field := fld .route 0x140 2 13 0 .rw 0 kM
def RT_ENTRY.VALID : Field := { fld .route 0x148 12 95 95 .rw 0 kUM with img := true }
def RT_ENTRY.KIND : Field := { fld .route 0x148 12 94 94 .rw 0 kUM with img := true }
def RT_ENTRY.SE : Field := { fld .route 0x148 12 93 92 .rw 0 kUM with img := true }
def RT_ENTRY.DCOUNT : Field := { fld .route 0x148 12 91 88 .rw 0 kUM with img := true, fit := .range 0 8 }
def RT_ENTRY.DL_INDEX : Field := { fld .route 0x148 12 87 73 .rw 0 kUM with img := true }
def RT_ENTRY.IN_CTX : Field := { fld .route 0x148 12 72 61 .rw 0 kUM with img := true }
def RT_ENTRY.SIG_FIRST : Field := { fld .route 0x148 12 60 45 .rw 0 kUM with img := true }
def RT_ENTRY.SIG_COUNT : Field := { fld .route 0x148 12 44 37 .rw 0 kUM with img := true }
def RT_ENTRY.DECAP_FMT : Field := { fld .route 0x148 12 36 35 .rw 0 kUM with img := true, fit := .codes 1 0 }
def RT_ENTRY.PDU_OFS : Field := { fld .route 0x148 12 34 24 .rw 0 kUM with img := true }
def RT_LIN_BASE.VALID : Field := { fld .route 0x160 2 15 15 .rw 0 kUM with img := true }
def RT_LIN_BASE.BASE : Field := { fld .route 0x160 2 13 0 .rw 0 kUM with img := true }
def RT_STAT.SINK : Field := { fld .route 0x162 1 7 7 .w1c 0 kAON with sticky := true }
def RT_STAT.INVALID : Field := { fld .route 0x162 1 6 6 .w1c 0 kAON with sticky := true }
def RT_STAT.TTL : Field := { fld .route 0x162 1 5 5 .w1c 0 kAON with sticky := true }
def RT_STAT.DECAP : Field := { fld .route 0x162 1 4 4 .w1c 0 kAON with sticky := true }
def RT_SINK.COUNT : Field := fld .route 0x200 4 31 0 .tally 0 kUM
def RT_INVALID.COUNT : Field := fld .route 0x204 4 31 0 .tally 0 kUM
def RT_TTL.COUNT : Field := fld .route 0x208 4 31 0 .tally 0 kUM
def RT_DECAP.COUNT : Field := fld .route 0x20C 4 31 0 .tally 0 kUM
def routeFields : List Field :=
  [RT_SEL.NEXT, RT_SEL.INDEX, RT_ENTRY.VALID, RT_ENTRY.KIND, RT_ENTRY.SE, RT_ENTRY.DCOUNT, RT_ENTRY.DL_INDEX, RT_ENTRY.IN_CTX, RT_ENTRY.SIG_FIRST, RT_ENTRY.SIG_COUNT, RT_ENTRY.DECAP_FMT, RT_ENTRY.PDU_OFS, RT_LIN_BASE.VALID, RT_LIN_BASE.BASE, RT_STAT.SINK, RT_STAT.INVALID, RT_STAT.TTL, RT_STAT.DECAP, RT_SINK.COUNT, RT_INVALID.COUNT, RT_TTL.COUNT, RT_DECAP.COUNT]

/-! Class `dlist` (cards of spec/09). -/

def DL_SEL.NEXT : Field := fld .dlist 0x140 2 15 15 .rw 0 kM
def DL_SEL.INDEX : Field := fld .dlist 0x140 2 14 0 .rw 0 kM
def DL_ENTRY.LAST : Field := { fld .dlist 0x148 16 127 127 .rw 0 kUM with img := true }
def DL_ENTRY.PORT : Field := { fld .dlist 0x148 16 126 119 .rw 0 kUM with img := true }
def DL_ENTRY.TC : Field := { fld .dlist 0x148 16 118 116 .rw 0 kUM with img := true }
def DL_ENTRY.OUT_FMT : Field := { fld .dlist 0x148 16 115 113 .rw 0 kUM with img := true }
def DL_ENTRY.IDE : Field := { fld .dlist 0x148 16 112 112 .rw 0 kUM with img := true }
def DL_ENTRY.ID_KEEP : Field := { fld .dlist 0x148 16 111 111 .rw 0 kUM with img := true }
def DL_ENTRY.ID_OUT : Field := { fld .dlist 0x148 16 110 82 .rw 0 kUM with img := true }
def DL_ENTRY.TRUNC : Field := { fld .dlist 0x148 16 81 81 .rw 0 kUM with img := true }
def DL_ENTRY.OUT_CTX : Field := { fld .dlist 0x148 16 80 69 .rw 0 kUM with img := true }
def DL_ENTRY.TMPL : Field := { fld .dlist 0x148 16 68 60 .rw 0 kUM with img := true }
def DL_ENTRY.SDT : Field := { fld .dlist 0x148 16 59 52 .rw 0 kUM with img := true }
def DL_ENTRY.VCID : Field := { fld .dlist 0x148 16 51 44 .rw 0 kUM with img := true }
def DL_ENTRY.AF : Field := { fld .dlist 0x148 16 43 12 .rw 0 kUM with img := true }
def DL_ENTRY.VID_OUT : Field := { fld .dlist 0x148 16 11 0 .rw 0 kUM with img := true }
def dlistFields : List Field :=
  [DL_SEL.NEXT, DL_SEL.INDEX, DL_ENTRY.LAST, DL_ENTRY.PORT, DL_ENTRY.TC, DL_ENTRY.OUT_FMT, DL_ENTRY.IDE, DL_ENTRY.ID_KEEP, DL_ENTRY.ID_OUT, DL_ENTRY.TRUNC, DL_ENTRY.OUT_CTX, DL_ENTRY.TMPL, DL_ENTRY.SDT, DL_ENTRY.VCID, DL_ENTRY.AF, DL_ENTRY.VID_OUT]

/-! Class `signal` (cards of spec/09). -/

def SIG_SEL.NEXT : Field := fld .signal 0x140 3 23 23 .rw 0 kM
def SIG_SEL.INDEX : Field := fld .signal 0x140 3 15 0 .rw 0 kM
def SIG_ENTRY.VALID : Field := { fld .signal 0x148 24 191 191 .rw 0 kUM with img := true }
def SIG_ENTRY.SRC : Field := { fld .signal 0x148 24 190 188 .rw 0 kUM with img := true, fit := .codes 6 6 }
def SIG_ENTRY.SRC_UNIT : Field := { fld .signal 0x148 24 187 181 .rw 0 kUM with img := true }
def SIG_ENTRY.SIGNED : Field := { fld .signal 0x148 24 180 180 .rw 0 kUM with img := true }
def SIG_ENTRY.LEN : Field := { fld .signal 0x148 24 179 173 .rw 0 kUM with img := true, fit := .range 0 64 }
def SIG_ENTRY.IN_ORD : Field := { fld .signal 0x148 24 172 172 .rw 0 kUM with img := true }
def SIG_ENTRY.IN_START : Field := { fld .signal 0x148 24 171 158 .rw 0 kUM with img := true }
def SIG_ENTRY.IN_UB_EN : Field := { fld .signal 0x148 24 157 157 .rw 0 kUM with img := true }
def SIG_ENTRY.IN_UB : Field := { fld .signal 0x148 24 156 143 .rw 0 kUM with img := true }
def SIG_ENTRY.OUT_ORD : Field := { fld .signal 0x148 24 142 142 .rw 0 kUM with img := true }
def SIG_ENTRY.OUT_START : Field := { fld .signal 0x148 24 141 128 .rw 0 kUM with img := true }
def SIG_ENTRY.OUT_UB_EN : Field := { fld .signal 0x148 24 127 127 .rw 0 kUM with img := true }
def SIG_ENTRY.OUT_UB : Field := { fld .signal 0x148 24 126 113 .rw 0 kUM with img := true }
def SIG_ENTRY.OUT_TRIG : Field := { fld .signal 0x148 24 112 112 .rw 0 kUM with img := true }
def SIG_ENTRY.TIMEOUT : Field := { fld .signal 0x148 24 111 96 .rw 0 kUM with img := true }
def SIG_ENTRY.TO_START : Field := { fld .signal 0x148 24 95 95 .rw 0 kUM with img := true }
def SIG_ENTRY.TO_ACT : Field := { fld .signal 0x148 24 94 94 .rw 0 kUM with img := true }
def SIG_ENTRY.SINK_MODE : Field := { fld .signal 0x148 24 93 92 .rw 0 kUM with img := true, fit := .codes 2 0 }
def SIG_ENTRY.SINK_FN : Field := { fld .signal 0x148 24 91 88 .rw 0 kUM with img := true, fit := .codes 5 0 }
def SIG_ENTRY.SINK_UNIT : Field := { fld .signal 0x148 24 87 81 .rw 0 kUM with img := true }
def SIG_ENTRY.SINK_EVERY : Field := { fld .signal 0x148 24 80 80 .rw 0 kUM with img := true }
def SIG_ENTRY.SHIFT : Field := { fld .signal 0x148 24 79 76 .rw 0 kUM with img := true }
def SIG_ENTRY.MUL : Field := { fld .signal 0x148 24 63 48 .rw 0 kUM with img := true }
def SIG_ENTRY.OFS : Field := { fld .signal 0x148 24 47 32 .rw 0 kUM with img := true }
def SIG_ENTRY.DEFAULT : Field := { fld .signal 0x148 24 31 0 .rw 0 kUM with img := true }
def SIG_VALUE.VALUE : Field := { fld .signal 0x160 8 63 0 .rw 0 kM with live := true }
def SIG_STATE.STATE : Field := fld .signal 0x168 1 1 0 .ro 0 kM
def SIG_STAT.TIMEOUT : Field := { fld .signal 0x169 1 7 7 .w1c 0 kAON with sticky := true }
def SIG_STAT.SHORT : Field := { fld .signal 0x169 1 6 6 .w1c 0 kAON with sticky := true }
def SIG_STAT.SINK_RANGE : Field := { fld .signal 0x169 1 5 5 .w1c 0 kAON with sticky := true }
def SIG_TIMEOUTS.COUNT : Field := fld .signal 0x200 4 31 0 .tally 0 kUM
def SIG_SHORT.COUNT : Field := fld .signal 0x204 4 31 0 .tally 0 kUM
def signalFields : List Field :=
  [SIG_SEL.NEXT, SIG_SEL.INDEX, SIG_ENTRY.VALID, SIG_ENTRY.SRC, SIG_ENTRY.SRC_UNIT, SIG_ENTRY.SIGNED, SIG_ENTRY.LEN, SIG_ENTRY.IN_ORD, SIG_ENTRY.IN_START, SIG_ENTRY.IN_UB_EN, SIG_ENTRY.IN_UB, SIG_ENTRY.OUT_ORD, SIG_ENTRY.OUT_START, SIG_ENTRY.OUT_UB_EN, SIG_ENTRY.OUT_UB, SIG_ENTRY.OUT_TRIG, SIG_ENTRY.TIMEOUT, SIG_ENTRY.TO_START, SIG_ENTRY.TO_ACT, SIG_ENTRY.SINK_MODE, SIG_ENTRY.SINK_FN, SIG_ENTRY.SINK_UNIT, SIG_ENTRY.SINK_EVERY, SIG_ENTRY.SHIFT, SIG_ENTRY.MUL, SIG_ENTRY.OFS, SIG_ENTRY.DEFAULT, SIG_VALUE.VALUE, SIG_STATE.STATE, SIG_STAT.TIMEOUT, SIG_STAT.SHORT, SIG_STAT.SINK_RANGE, SIG_TIMEOUTS.COUNT, SIG_SHORT.COUNT]

/-! Class `pdu` (cards of spec/09). -/

def PDU_SEL.NEXT : Field := fld .pdu 0x140 2 15 15 .rw 0 kM
def PDU_SEL.INDEX : Field := fld .pdu 0x140 2 12 0 .rw 0 kM
def PDU_CMD.SEND : Field := fld .pdu 0x142 1 7 7 .cmd 0 kNone
def PDU_ENTRY.VALID : Field := { fld .pdu 0x148 20 159 159 .rw 0 kUM with img := true }
def PDU_ENTRY.MODE : Field := { fld .pdu 0x148 20 158 157 .rw 0 kUM with img := true }
def PDU_ENTRY.SE : Field := { fld .pdu 0x148 20 156 155 .rw 0 kUM with img := true }
def PDU_ENTRY.LEN : Field := { fld .pdu 0x148 20 154 144 .rw 0 kUM with img := true, fit := .range 0 1024 }
def PDU_ENTRY.SIG_FIRST : Field := { fld .pdu 0x148 20 143 128 .rw 0 kUM with img := true }
def PDU_ENTRY.SIG_COUNT : Field := { fld .pdu 0x148 20 127 120 .rw 0 kUM with img := true }
def PDU_ENTRY.PERIOD : Field := { fld .pdu 0x148 20 119 104 .rw 0 kUM with img := true }
def PDU_ENTRY.OFFSET : Field := { fld .pdu 0x148 20 103 88 .rw 0 kUM with img := true }
def PDU_ENTRY.MDT : Field := { fld .pdu 0x148 20 87 80 .rw 0 kUM with img := true }
def PDU_ENTRY.NREP : Field := { fld .pdu 0x148 20 79 76 .rw 0 kUM with img := true }
def PDU_ENTRY.REP_PERIOD : Field := { fld .pdu 0x148 20 75 68 .rw 0 kUM with img := true, fit := .atLeast 1 }
def PDU_ENTRY.FILL : Field := { fld .pdu 0x148 20 67 67 .rw 0 kUM with img := true }
def PDU_ENTRY.HDR : Field := { fld .pdu 0x148 20 66 66 .rw 0 kUM with img := true }
def PDU_ENTRY.DL_INDEX : Field := { fld .pdu 0x148 20 65 51 .rw 0 kUM with img := true }
def PDU_ENTRY.DCOUNT : Field := { fld .pdu 0x148 20 50 47 .rw 0 kUM with img := true, fit := .range 0 8 }
def PDU_ENTRY.PDU_ID : Field := { fld .pdu 0x148 20 31 0 .rw 0 kUM with img := true }
def PDU_TMPL_SEL.NEXT : Field := fld .pdu 0x170 2 15 15 .rw 0 kM
def PDU_TMPL_SEL.INDEX : Field := fld .pdu 0x170 2 8 0 .rw 0 kM
def PDU_TMPL_CFG.TYPE : Field := { fld .pdu 0x172 1 7 6 .rw 0 kUM with img := true, fit := .codes 2 0 }
def PDU_TMPL_CFG.LEN : Field := { fld .pdu 0x172 1 5 0 .rw 0 kUM with img := true, fit := .atLeast 13 }
def PDU_STAT.SKIP : Field := { fld .pdu 0x173 1 7 7 .w1c 0 kAON with sticky := true }
def PDU_SKIPPED.COUNT : Field := fld .pdu 0x200 4 31 0 .tally 0 kUM
def PDU_TMPL_DATA.DATA : Field := { fld .pdu 0x180 1 7 0 .rw 0 kUM with img := true, stride := 1, count := 64 }
def pduFields : List Field :=
  [PDU_SEL.NEXT, PDU_SEL.INDEX, PDU_CMD.SEND, PDU_ENTRY.VALID, PDU_ENTRY.MODE, PDU_ENTRY.SE, PDU_ENTRY.LEN, PDU_ENTRY.SIG_FIRST, PDU_ENTRY.SIG_COUNT, PDU_ENTRY.PERIOD, PDU_ENTRY.OFFSET, PDU_ENTRY.MDT, PDU_ENTRY.NREP, PDU_ENTRY.REP_PERIOD, PDU_ENTRY.FILL, PDU_ENTRY.HDR, PDU_ENTRY.DL_INDEX, PDU_ENTRY.DCOUNT, PDU_ENTRY.PDU_ID, PDU_TMPL_SEL.NEXT, PDU_TMPL_SEL.INDEX, PDU_TMPL_CFG.TYPE, PDU_TMPL_CFG.LEN, PDU_STAT.SKIP, PDU_SKIPPED.COUNT, PDU_TMPL_DATA.DATA]

/-! Class `se` (cards of spec/09). -/

def SE_QDEPTH.EXQ : Field := { fld .se 0x140 2 15 6 .ro 0 kNone with live := true }
def SE_STAT.LOST : Field := { fld .se 0x142 1 7 7 .w1c 0 kAON with sticky := true }
def SE_STAT.BQ : Field := fld .se 0x142 1 6 0 .ro 0 kNone
def SE_STORED.COUNT : Field := fld .se 0x200 4 31 0 .tally 0 kUM
def SE_PACKED.COUNT : Field := fld .se 0x204 4 31 0 .tally 0 kUM
def SE_LOST.COUNT : Field := fld .se 0x208 4 31 0 .tally 0 kUM
def seFields : List Field :=
  [SE_QDEPTH.EXQ, SE_STAT.LOST, SE_STAT.BQ, SE_STORED.COUNT, SE_PACKED.COUNT, SE_LOST.COUNT]

/-! Class `sieve` (cards of spec/10). -/

def SIEVE_CFG.UDF_BASE : Field := { fld .sieve 0x140 1 7 6 .rw 0 kUM with img := true, fit := .codes 2 0 }
def SIEVE_CFG.IP6SEL : Field := { fld .sieve 0x140 1 5 4 .rw 0 kUM with img := true }
def SIEVE_UDF_OFS.UDF_OFS : Field := { fld .sieve 0x141 1 7 0 .rw 0 kUM with img := true }
def SIEVE_PDEF.HOST : Field := { fld .sieve 0x142 3 16 16 .rw 0 kUM with img := true }
def SIEVE_PDEF.ETH : Field := { fld .sieve 0x142 3 15 0 .rw 0 kUM with img := true }
def SIEVE_SEL.NEXT : Field := fld .sieve 0x146 2 15 15 .rw 0 kM
def SIEVE_SEL.RULE : Field := fld .sieve 0x146 2 9 0 .rw 0 kM
def SIEVE_VALUE.VALUE : Field := { fld .sieve 0x150 40 319 0 .rw 0 kUM with img := true }
def SIEVE_MASK.MASK : Field := { fld .sieve 0x180 40 319 0 .rw 0 kUM with img := true }
def SIEVE_ACT.VALID : Field := { fld .sieve 0x1B0 8 63 63 .rw 0 kUM with img := true }
def SIEVE_ACT.DENY : Field := { fld .sieve 0x1B0 8 62 62 .rw 0 kUM with img := true }
def SIEVE_ACT.TC_EN : Field := { fld .sieve 0x1B0 8 61 61 .rw 0 kUM with img := true }
def SIEVE_ACT.TC : Field := { fld .sieve 0x1B0 8 60 58 .rw 0 kUM with img := true }
def SIEVE_ACT.ROUTE_EN : Field := { fld .sieve 0x1B0 8 57 57 .rw 0 kUM with img := true }
def SIEVE_ACT.ROUTE : Field := { fld .sieve 0x1B0 8 56 43 .rw 0 kUM with img := true }
def SIEVE_ACT.STRM_EN : Field := { fld .sieve 0x1B0 8 42 42 .rw 0 kUM with img := true }
def SIEVE_ACT.STRM : Field := { fld .sieve 0x1B0 8 41 34 .rw 0 kUM with img := true }
def SIEVE_ACT.POL_EN : Field := { fld .sieve 0x1B0 8 33 33 .rw 0 kUM with img := true }
def SIEVE_ACT.POL : Field := { fld .sieve 0x1B0 8 32 21 .rw 0 kUM with img := true }
def SIEVE_ACT.FRER : Field := { fld .sieve 0x1B0 8 20 19 .rw 0 kUM with img := true, fit := .codes 2 0 }
def SIEVE_ACT.FRER_IDX : Field := { fld .sieve 0x1B0 8 18 11 .rw 0 kUM with img := true }
def STRM_SEL.STRM : Field := fld .sieve 0x1C0 1 7 0 .rw 0 kM
def STRM_CFG.GATE_EN : Field := { fld .sieve 0x1C1 4 31 31 .rw 0 kUM with img := true }
def STRM_CFG.GATE : Field := { fld .sieve 0x1C1 4 30 25 .rw 0 kUM with img := true }
def STRM_CFG.BLOCK_EN : Field := { fld .sieve 0x1C1 4 24 24 .rw 0 kUM with img := true }
def STRM_CFG.BLOCKED : Field := fld .sieve 0x1C1 4 23 23 .w1c 0 kUM
def STRM_CFG.MAX_SDU : Field := { fld .sieve 0x1C1 4 13 0 .rw 0 kUM with img := true, fit := .zeroOr 64 16383 }
def SGATE_OPEN.OPEN : Field := { fld .sieve 0x1D0 8 63 0 .rw 0 kUM with img := true }
def SGATE_IPV.IPV_EN : Field := { fld .sieve 0x240 1 3 3 .rw 0 kUM with img := true, stride := 1, count := 64 }
def SGATE_IPV.IPV : Field := { fld .sieve 0x240 1 2 0 .rw 0 kUM with img := true, stride := 1, count := 64 }
def SIEVE_STAT.DENY : Field := { fld .sieve 0x1B8 1 7 7 .w1c 0 kAON with sticky := true }
def SIEVE_STAT.NOMATCH : Field := { fld .sieve 0x1B8 1 6 6 .w1c 0 kAON with sticky := true }
def SIEVE_STAT.GATE : Field := { fld .sieve 0x1B8 1 5 5 .w1c 0 kAON with sticky := true }
def SIEVE_STAT.OVERSIZE : Field := { fld .sieve 0x1B8 1 4 4 .w1c 0 kAON with sticky := true }
def SIEVE_HITS.COUNT : Field := fld .sieve 0x200 4 31 0 .tally 0 kUM
def STRM_PASSED.COUNT : Field := fld .sieve 0x204 4 31 0 .tally 0 kUM
def STRM_GATE_DROPS.COUNT : Field := fld .sieve 0x208 4 31 0 .tally 0 kUM
def STRM_SDU_DROPS.COUNT : Field := fld .sieve 0x20C 4 31 0 .tally 0 kUM
def sieveFields : List Field :=
  [SIEVE_CFG.UDF_BASE, SIEVE_CFG.IP6SEL, SIEVE_UDF_OFS.UDF_OFS, SIEVE_PDEF.HOST, SIEVE_PDEF.ETH, SIEVE_SEL.NEXT, SIEVE_SEL.RULE, SIEVE_VALUE.VALUE, SIEVE_MASK.MASK, SIEVE_ACT.VALID, SIEVE_ACT.DENY, SIEVE_ACT.TC_EN, SIEVE_ACT.TC, SIEVE_ACT.ROUTE_EN, SIEVE_ACT.ROUTE, SIEVE_ACT.STRM_EN, SIEVE_ACT.STRM, SIEVE_ACT.POL_EN, SIEVE_ACT.POL, SIEVE_ACT.FRER, SIEVE_ACT.FRER_IDX, STRM_SEL.STRM, STRM_CFG.GATE_EN, STRM_CFG.GATE, STRM_CFG.BLOCK_EN, STRM_CFG.BLOCKED, STRM_CFG.MAX_SDU, SGATE_OPEN.OPEN, SGATE_IPV.IPV_EN, SGATE_IPV.IPV, SIEVE_STAT.DENY, SIEVE_STAT.NOMATCH, SIEVE_STAT.GATE, SIEVE_STAT.OVERSIZE, SIEVE_HITS.COUNT, STRM_PASSED.COUNT, STRM_GATE_DROPS.COUNT, STRM_SDU_DROPS.COUNT]

/-! Class `canf` (cards of spec/10). -/

def CANF_SEL.NEXT : Field := fld .canf 0x142 2 15 15 .rw 0 kM
def CANF_SEL.FILTER : Field := fld .canf 0x142 2 11 0 .rw 0 kM
def CANF_ENTRY.VALID : Field := { fld .canf 0x148 16 127 127 .rw 0 kUM with img := true }
def CANF_ENTRY.DENY : Field := { fld .canf 0x148 16 126 126 .rw 0 kUM with img := true }
def CANF_ENTRY.IDE : Field := { fld .canf 0x148 16 125 125 .rw 0 kUM with img := true }
def CANF_ENTRY.FMT : Field := { fld .canf 0x148 16 124 123 .rw 0 kUM with img := true }
def CANF_ENTRY.PORTS : Field := { fld .canf 0x148 16 122 107 .rw 0 kUM with img := true }
def CANF_ENTRY.ID : Field := { fld .canf 0x148 16 106 78 .rw 0 kUM with img := true }
def CANF_ENTRY.MASK : Field := { fld .canf 0x148 16 77 49 .rw 0 kUM with img := true }
def CANF_ENTRY.VCID : Field := { fld .canf 0x148 16 48 41 .rw 0 kUM with img := true }
def CANF_ENTRY.VMASK : Field := { fld .canf 0x148 16 40 33 .rw 0 kUM with img := true }
def CANF_ENTRY.ROUTE : Field := { fld .canf 0x148 16 32 19 .rw 0 kUM with img := true }
def CANF_ENTRY.POL_EN : Field := { fld .canf 0x148 16 18 18 .rw 0 kUM with img := true }
def CANF_ENTRY.POL : Field := { fld .canf 0x148 16 17 6 .rw 0 kUM with img := true }
def CANF_HITS.COUNT : Field := fld .canf 0x200 4 31 0 .tally 0 kUM
def canfFields : List Field :=
  [CANF_SEL.NEXT, CANF_SEL.FILTER, CANF_ENTRY.VALID, CANF_ENTRY.DENY, CANF_ENTRY.IDE, CANF_ENTRY.FMT, CANF_ENTRY.PORTS, CANF_ENTRY.ID, CANF_ENTRY.MASK, CANF_ENTRY.VCID, CANF_ENTRY.VMASK, CANF_ENTRY.ROUTE, CANF_ENTRY.POL_EN, CANF_ENTRY.POL, CANF_HITS.COUNT]

/-! Class `weigh` (cards of spec/10). -/

def WB_SEL.NEXT : Field := fld .weigh 0x140 2 15 15 .rw 0 kM
def WB_SEL.POL : Field := fld .weigh 0x140 2 11 0 .rw 0 kM
def WB_ENTRY.MODE : Field := { fld .weigh 0x148 20 159 159 .rw 0 kUM with img := true }
def WB_ENTRY.CM : Field := { fld .weigh 0x148 20 158 158 .rw 0 kUM with img := true }
def WB_ENTRY.CF : Field := { fld .weigh 0x148 20 157 157 .rw 0 kUM with img := true }
def WB_ENTRY.DROP_Y : Field := { fld .weigh 0x148 20 156 156 .rw 0 kUM with img := true }
def WB_ENTRY.YDEI : Field := { fld .weigh 0x148 20 155 155 .rw 0 kUM with img := true }
def WB_ENTRY.YTC_EN : Field := { fld .weigh 0x148 20 154 154 .rw 0 kUM with img := true }
def WB_ENTRY.YTC : Field := { fld .weigh 0x148 20 153 151 .rw 0 kUM with img := true }
def WB_ENTRY.ADJ : Field := { fld .weigh 0x148 20 150 145 .rw 0 kUM with img := true }
def WB_ENTRY.CIR : Field := { fld .weigh 0x148 20 127 104 .rw 0 kUM with img := true }
def WB_ENTRY.EIR : Field := { fld .weigh 0x148 20 103 80 .rw 0 kUM with img := true }
def WB_ENTRY.CBS : Field := { fld .weigh 0x148 20 79 56 .rw 0 kUM with img := true }
def WB_ENTRY.EBS : Field := { fld .weigh 0x148 20 55 32 .rw 0 kUM with img := true }
def WB_FILL.TC : Field := { fld .weigh 0x160 6 47 24 .ro 0 kUM with live := true }
def WB_FILL.TE : Field := { fld .weigh 0x160 6 23 0 .ro 0 kUM with live := true }
def WB_CMD.REFILL : Field := fld .weigh 0x166 1 7 7 .cmd 0 kNone
def WB_STAT.RED : Field := { fld .weigh 0x167 1 7 7 .w1c 0 kAON with sticky := true }
def WB_STAT.YDROP : Field := { fld .weigh 0x167 1 6 6 .w1c 0 kAON with sticky := true }
def WB_GREEN.COUNT : Field := fld .weigh 0x200 4 31 0 .tally 0 kUM
def WB_YELLOW.COUNT : Field := fld .weigh 0x204 4 31 0 .tally 0 kUM
def WB_RED.COUNT : Field := fld .weigh 0x208 4 31 0 .tally 0 kUM
def weighFields : List Field :=
  [WB_SEL.NEXT, WB_SEL.POL, WB_ENTRY.MODE, WB_ENTRY.CM, WB_ENTRY.CF, WB_ENTRY.DROP_Y, WB_ENTRY.YDEI, WB_ENTRY.YTC_EN, WB_ENTRY.YTC, WB_ENTRY.ADJ, WB_ENTRY.CIR, WB_ENTRY.EIR, WB_ENTRY.CBS, WB_ENTRY.EBS, WB_FILL.TC, WB_FILL.TE, WB_CMD.REFILL, WB_STAT.RED, WB_STAT.YDROP, WB_GREEN.COUNT, WB_YELLOW.COUNT, WB_RED.COUNT]

/-! Class `auth` (cards of spec/11). -/

def AUTH_CFG.RESERVE : Field := { fld .auth 0x140 1 7 4 .rw 0 kUM with img := true, fit := .range 0 8 }
def AUTH_CFG.EPOCH_SIG_EN : Field := { fld .auth 0x140 1 3 3 .rw 0 kUM with img := true }
def AUTH_EPOCH.VALID : Field := fld .auth 0x141 4 31 31 .ro 0 [.U, .M, .W, .S, .N, .B, .K, .D, .X]
def AUTH_EPOCH.EPOCH : Field := fld .auth 0x141 4 23 0 .rw 0 [.U, .M, .W, .S, .N, .B, .K, .D, .X]
def AUTH_EPOCH_SIG.SIG : Field := { fld .auth 0x146 2 15 0 .rw 0 kUM with img := true }
def AUTH_SEL.NEXT : Field := fld .auth 0x148 2 15 15 .rw 0 kM
def AUTH_SEL.CTX : Field := fld .auth 0x148 2 11 0 .rw 0 kM
def AUTH_CTX.VALID : Field := { fld .auth 0x150 16 127 127 .rw 0 kUM with img := true }
def AUTH_CTX.DIR : Field := { fld .auth 0x150 16 126 126 .rw 0 kUM with img := true }
def AUTH_CTX.FLAT : Field := { fld .auth 0x150 16 125 125 .rw 0 kUM with img := true }
def AUTH_CTX.MONITOR : Field := { fld .auth 0x150 16 124 124 .rw 0 kUM with img := true }
def AUTH_CTX.STRIP : Field := { fld .auth 0x150 16 123 123 .rw 0 kUM with img := true }
def AUTH_CTX.KEY : Field := { fld .auth 0x150 16 122 115 .rw 0 kUM with img := true }
def AUTH_CTX.DATA_ID : Field := { fld .auth 0x150 16 114 99 .rw 0 kUM with img := true }
def AUTH_CTX.MAC_LEN : Field := { fld .auth 0x150 16 98 95 .rw 0 kUM with img := true, fit := .atLeast 2 }
def AUTH_CTX.TFV_BITS : Field := { fld .auth 0x150 16 94 89 .rw 0 kUM with img := true, fit := .range 0 32 }
def AUTH_CTX.ACC_WIN : Field := { fld .auth 0x150 16 88 73 .rw 0 kUM with img := true, fit := .atLeast 1 }
def AUTH_CTX.AUTH_LEN : Field := { fld .auth 0x150 16 72 62 .rw 0 kUM with img := true }
def AUTH_FV.FV : Field := { fld .auth 0x160 8 63 0 .ro 0 [.U, .M, .S, .K, .D, .X] with live := true }
def AUTH_CTX_STATE.STATE : Field := fld .auth 0x168 1 1 0 .ro 0 [.U, .M, .S, .K, .D, .X]
def AUTH_STAT.MAC_FAIL : Field := { fld .auth 0x16A 1 7 7 .w1c 0 kAON with sticky := true }
def AUTH_STAT.REPLAY : Field := { fld .auth 0x16A 1 6 6 .w1c 0 kAON with sticky := true }
def AUTH_STAT.UNSYNC : Field := { fld .auth 0x16A 1 5 5 .w1c 0 kAON with sticky := true }
def AUTH_STAT.KEY : Field := { fld .auth 0x16A 1 4 4 .w1c 0 kAON with sticky := true }
def AUTH_STAT.EPOCH_LOW : Field := { fld .auth 0x16A 1 3 3 .w1c 0 kAON with sticky := true }
def AUTH_STAT.CEIL_WAIT : Field := { fld .auth 0x16A 1 2 2 .w1c 0 kAON with sticky := true }
def AUTH_STAT.RESTORED : Field := { fld .auth 0x16A 1 1 1 .w1c 0 kAON with sticky := true }
def AUTH_VERIFIED.COUNT : Field := fld .auth 0x200 4 31 0 .tally 0 kUM
def AUTH_APPENDED.COUNT : Field := fld .auth 0x204 4 31 0 .tally 0 kUM
def AUTH_MAC_FAILS.COUNT : Field := fld .auth 0x208 4 31 0 .tally 0 kUM
def AUTH_REPLAYS.COUNT : Field := fld .auth 0x20C 4 31 0 .tally 0 kUM
def AUTH_OTHER.COUNT : Field := fld .auth 0x210 4 31 0 .tally 0 kUM
def AUTH_MONITOR_FAILS.COUNT : Field := fld .auth 0x214 4 31 0 .tally 0 kUM
def AUTH_CTX_FAILS.COUNT : Field := fld .auth 0x218 4 31 0 .tally 0 kUM
def authFields : List Field :=
  [AUTH_CFG.RESERVE, AUTH_CFG.EPOCH_SIG_EN, AUTH_EPOCH.VALID, AUTH_EPOCH.EPOCH, AUTH_EPOCH_SIG.SIG, AUTH_SEL.NEXT, AUTH_SEL.CTX, AUTH_CTX.VALID, AUTH_CTX.DIR, AUTH_CTX.FLAT, AUTH_CTX.MONITOR, AUTH_CTX.STRIP, AUTH_CTX.KEY, AUTH_CTX.DATA_ID, AUTH_CTX.MAC_LEN, AUTH_CTX.TFV_BITS, AUTH_CTX.ACC_WIN, AUTH_CTX.AUTH_LEN, AUTH_FV.FV, AUTH_CTX_STATE.STATE, AUTH_STAT.MAC_FAIL, AUTH_STAT.REPLAY, AUTH_STAT.UNSYNC, AUTH_STAT.KEY, AUTH_STAT.EPOCH_LOW, AUTH_STAT.CEIL_WAIT, AUTH_STAT.RESTORED, AUTH_VERIFIED.COUNT, AUTH_APPENDED.COUNT, AUTH_MAC_FAILS.COUNT, AUTH_REPLAYS.COUNT, AUTH_OTHER.COUNT, AUTH_MONITOR_FAILS.COUNT, AUTH_CTX_FAILS.COUNT]

/-! Class `macsec` (cards of spec/11). -/

def MSEC_PORT.EN : Field := { fld .macsec 0x140 1 7 7 .rw 0 kUM with img := true, stride := 1, count := 6 }
def MSEC_PORT.VALIDATE : Field := { fld .macsec 0x140 1 6 5 .rw 0 kUM with img := true, stride := 1, count := 6, fit := .range 0 2 }
def MSEC_PORT.RP : Field := { fld .macsec 0x140 1 4 4 .rw 0 kUM with img := true, stride := 1, count := 6 }
def MSEC_PORT.CONF : Field := { fld .macsec 0x140 1 3 3 .rw 0 kUM with img := true, stride := 1, count := 6 }
def MSEC_PORT.SCI_INC : Field := { fld .macsec 0x140 1 2 2 .rw 0 kUM with img := true, stride := 1, count := 6 }
def MSEC_PORT.ES : Field := { fld .macsec 0x140 1 1 1 .rw 0 kUM with img := true, stride := 1, count := 6 }
def MSEC_WIN.WIN : Field := { fld .macsec 0x148 4 31 0 .rw 0 kUM with img := true, stride := 4, count := 6 }
def MSEC_EXEMPT.ETYPE : Field := { fld .macsec 0x160 2 15 0 .rw 0 kUM with img := true }
def MSEC_SC_SEL.SC : Field := fld .macsec 0x168 1 4 0 .rw 0 kM
def MSEC_SC.VALID : Field := { fld .macsec 0x170 12 95 95 .rw 0 kUM with img := true }
def MSEC_SC.DIR : Field := { fld .macsec 0x170 12 94 94 .rw 0 kUM with img := true }
def MSEC_SC.PORT : Field := { fld .macsec 0x170 12 93 91 .rw 0 kUM with img := true }
def MSEC_SC.CIPHER : Field := { fld .macsec 0x170 12 90 89 .rw 0 kUM with img := true }
def MSEC_SC.SCI : Field := { fld .macsec 0x170 12 63 0 .rw 0 kUM with img := true }
def MSEC_SC_CTRL.SWITCH : Field := fld .macsec 0x17C 1 7 7 .cmd 0 kNone
def MSEC_SC_CTRL.AUTO_SW : Field := { fld .macsec 0x17C 1 6 6 .rw 0 kUM with img := true }
def MSEC_SC_STATE.STATE : Field := fld .macsec 0x17D 1 7 6 .ro 0 kNone
def MSEC_SC_STATE.ENC_SA : Field := { fld .macsec 0x17D 1 5 5 .ro 0 kUM with img := true }
def MSEC_SA_SEL.SA : Field := fld .macsec 0x180 1 0 0 .rw 0 kM
def MSEC_SA.EN : Field := { fld .macsec 0x188 28 223 223 .rw 0 kUM with img := true }
def MSEC_SA.AN : Field := { fld .macsec 0x188 28 222 221 .rw 0 kUM with img := true }
def MSEC_SA.KEY : Field := { fld .macsec 0x188 28 220 213 .rw 0 kUM with img := true }
def MSEC_SA.SSCI : Field := { fld .macsec 0x188 28 191 160 .rw 0 kUM with img := true }
def MSEC_SA.SALT : Field := { fld .macsec 0x188 28 159 64 .rw 0 kUM with img := true }
def MSEC_SA.PN : Field := { fld .macsec 0x188 28 63 0 .rw 0 kUM with img := true, fit := .atLeast 1 }
def MSEC_SA_PN.PN : Field := { fld .macsec 0x1A8 8 63 0 .ro 0 kUM with live := true }
def MSEC_STAT.ICV : Field := { fld .macsec 0x1B0 1 7 7 .w1c 0 kAON with sticky := true }
def MSEC_STAT.REPLAY : Field := { fld .macsec 0x1B0 1 6 6 .w1c 0 kAON with sticky := true }
def MSEC_STAT.NOSA : Field := { fld .macsec 0x1B0 1 5 5 .w1c 0 kAON with sticky := true }
def MSEC_STAT.UNTAGGED : Field := { fld .macsec 0x1B0 1 4 4 .w1c 0 kAON with sticky := true }
def MSEC_STAT.PN_LOW : Field := { fld .macsec 0x1B0 1 3 3 .w1c 0 kAON with sticky := true }
def MSEC_STAT.HALT : Field := { fld .macsec 0x1B0 1 2 2 .w1c 0 kAON with sticky := true }
def MSEC_IN_OK.COUNT : Field := fld .macsec 0x200 4 31 0 .tally 0 kUM
def MSEC_IN_INVALID.COUNT : Field := fld .macsec 0x204 4 31 0 .tally 0 kUM
def MSEC_IN_LATE.COUNT : Field := fld .macsec 0x208 4 31 0 .tally 0 kUM
def MSEC_IN_UNCHECKED.COUNT : Field := fld .macsec 0x20C 4 31 0 .tally 0 kUM
def MSEC_IN_NOSA.COUNT : Field := fld .macsec 0x210 4 31 0 .tally 0 kUM
def MSEC_OUT_PROTECTED.COUNT : Field := fld .macsec 0x214 4 31 0 .tally 0 kUM
def MSEC_OUT_ENCRYPTED.COUNT : Field := fld .macsec 0x218 4 31 0 .tally 0 kUM
def macsecFields : List Field :=
  [MSEC_PORT.EN, MSEC_PORT.VALIDATE, MSEC_PORT.RP, MSEC_PORT.CONF, MSEC_PORT.SCI_INC, MSEC_PORT.ES, MSEC_WIN.WIN, MSEC_EXEMPT.ETYPE, MSEC_SC_SEL.SC, MSEC_SC.VALID, MSEC_SC.DIR, MSEC_SC.PORT, MSEC_SC.CIPHER, MSEC_SC.SCI, MSEC_SC_CTRL.SWITCH, MSEC_SC_CTRL.AUTO_SW, MSEC_SC_STATE.STATE, MSEC_SC_STATE.ENC_SA, MSEC_SA_SEL.SA, MSEC_SA.EN, MSEC_SA.AN, MSEC_SA.KEY, MSEC_SA.SSCI, MSEC_SA.SALT, MSEC_SA.PN, MSEC_SA_PN.PN, MSEC_STAT.ICV, MSEC_STAT.REPLAY, MSEC_STAT.NOSA, MSEC_STAT.UNTAGGED, MSEC_STAT.PN_LOW, MSEC_STAT.HALT, MSEC_IN_OK.COUNT, MSEC_IN_INVALID.COUNT, MSEC_IN_LATE.COUNT, MSEC_IN_UNCHECKED.COUNT, MSEC_IN_NOSA.COUNT, MSEC_OUT_PROTECTED.COUNT, MSEC_OUT_ENCRYPTED.COUNT]

/-! Class `engine` (cards of spec/11). -/

def ENG_WORK.COUNT : Field := fld .engine 0x200 8 63 0 .tally 0 kUM
def ENG_BUSY.LOAD : Field := fld .engine 0x140 1 7 0 .ro 0 kNone
def engineFields : List Field :=
  [ENG_WORK.COUNT, ENG_BUSY.LOAD]

/-! Class `axis` (cards of spec/12). -/

def AX_CFG.EN : Field := { fld .axis 0x140 1 7 7 .rw 0 kUM with img := true }
def AX_CFG.SRC : Field := { fld .axis 0x140 1 6 4 .rw 0 kUM with img := true, fit := .codes 4 0 }
def AX_CFG.KIND : Field := { fld .axis 0x140 1 3 3 .rw 0 kUM with img := true }
def AX_CFG.FILT : Field := { fld .axis 0x140 1 2 0 .rw 0 kUM with img := true }
def AX_SRC.UNIT_A : Field := { fld .axis 0x141 4 31 26 .rw 0 kUM with img := true }
def AX_SRC.UNIT_B : Field := { fld .axis 0x141 4 25 20 .rw 0 kUM with img := true }
def AX_SRC.SIG : Field := { fld .axis 0x141 4 15 0 .rw 0 kUM with img := true }
def AX_CPR.CPR : Field := { fld .axis 0x146 2 15 0 .rw 0 kUM with img := true, fit := .atLeast 1 }
def AX_CAP.CAP : Field := { fld .axis 0x148 4 31 0 .rw 0 kUM with img := true }
def AX_RATE.RATE : Field := { fld .axis 0x14C 4 31 0 .rw 0 kUM with img := true }
def AX_STALL.STALL_TO : Field := { fld .axis 0x150 1 7 0 .rw 0 kUM with img := true }
def AX_STATE.STATE : Field := fld .axis 0x151 1 7 6 .ro 0 kNone
def AX_STATE.DIRN : Field := fld .axis 0x151 1 5 5 .ro 0 kNone
def AX_STAT.STALL : Field := { fld .axis 0x152 1 7 7 .w1c 0 kAON with sticky := true }
def AX_STAT.SRC_ERR : Field := { fld .axis 0x152 1 6 6 .w1c 0 kAON with sticky := true }
def AX_POS.POS : Field := { fld .axis 0x154 4 31 0 .ro 0 kNone with live := true }
def AX_SPEED.SPEED : Field := { fld .axis 0x158 4 31 0 .ro 0 kNone with live := true }
def AX_REVERSALS.COUNT : Field := fld .axis 0x200 4 31 0 .tally 0 kUM
def axisFields : List Field :=
  [AX_CFG.EN, AX_CFG.SRC, AX_CFG.KIND, AX_CFG.FILT, AX_SRC.UNIT_A, AX_SRC.UNIT_B, AX_SRC.SIG, AX_CPR.CPR, AX_CAP.CAP, AX_RATE.RATE, AX_STALL.STALL_TO, AX_STATE.STATE, AX_STATE.DIRN, AX_STAT.STALL, AX_STAT.SRC_ERR, AX_POS.POS, AX_SPEED.SPEED, AX_REVERSALS.COUNT]

/-! Class `axis0` (cards of spec/12). -/

def AX0_TIME.SEC : Field := { fld .axis0 0x160 10 79 32 .ro 0 kUM with live := true }
def AX0_TIME.NS : Field := { fld .axis0 0x160 10 31 0 .ro 0 kUM with live := true }
def AX0_SET.SEC : Field := fld .axis0 0x16C 10 79 32 .rw 0 kUM
def AX0_SET.NS : Field := { fld .axis0 0x16C 10 31 0 .rw 0 kUM with fit := .range 0 999999999 }
def AX0_CTRL.STEP : Field := fld .axis0 0x176 1 7 7 .cmd 0 kNone
def AX0_CTRL.MARK : Field := fld .axis0 0x176 1 6 6 .cmd 0 kNone
def AX0_CTRL.UNSYNC : Field := fld .axis0 0x176 1 5 5 .cmd 0 kNone
def AX0_STATE.STATE : Field := fld .axis0 0x177 1 7 6 .ro 0 kUM
def AX0_HOLD_TO.HOLD_TO : Field := { fld .axis0 0x178 1 7 0 .rw 0 kUM with img := true }
def AX0_STAT.HOLDOVER : Field := { fld .axis0 0x1A0 1 7 7 .w1c 0 kAON with sticky := true }
def AX0_STAT.STEPPED : Field := { fld .axis0 0x1A0 1 6 6 .w1c 0 kAON with sticky := true }
def AX0_RATE.RATE : Field := { fld .axis0 0x17C 4 31 0 .rw 0 kUM with img := true }
def AX0_SLEW.SLEW : Field := fld .axis0 0x180 4 31 0 .rw 0 kUM
def AX0_PTP.PTP_EN : Field := { fld .axis0 0x184 2 15 0 .rw 0 kUM with img := true }
def AX0_DOMAIN.DOMAIN : Field := { fld .axis0 0x186 1 7 0 .rw 0 kUM with img := true, fit := .range 0 127 }
def AX0_LOCK_MAP.MAP : Field := { fld .axis0 0x190 9 71 0 .rw 0 kUM with img := true }
def AX0_LOCK_BASE.BASE : Field := { fld .axis0 0x19C 4 31 0 .rw 0 kUM with img := true }
def axis0Fields : List Field :=
  [AX0_TIME.SEC, AX0_TIME.NS, AX0_SET.SEC, AX0_SET.NS, AX0_CTRL.STEP, AX0_CTRL.MARK, AX0_CTRL.UNSYNC, AX0_STATE.STATE, AX0_HOLD_TO.HOLD_TO, AX0_STAT.HOLDOVER, AX0_STAT.STEPPED, AX0_RATE.RATE, AX0_SLEW.SLEW, AX0_PTP.PTP_EN, AX0_DOMAIN.DOMAIN, AX0_LOCK_MAP.MAP, AX0_LOCK_BASE.BASE]

/-! Class `evp` (cards of spec/12). -/

def EVP_SEL.EVENT : Field := fld .evp 0x140 2 11 0 .rw 0 kM
def EVP_CMD.ARM : Field := fld .evp 0x142 1 7 7 .cmd 0 kNone
def EVP_CMD.DISARM : Field := fld .evp 0x142 1 6 6 .cmd 0 kNone
def EVP_CMD.GARM : Field := fld .evp 0x142 1 5 5 .cmd 0 kNone
def EVP_CMD.GDIS : Field := fld .evp 0x142 1 4 4 .cmd 0 kNone
def EVP_GROUP.GROUP : Field := fld .evp 0x143 1 3 0 .rw 0 kM
def EVP_STATE.ARMED : Field := fld .evp 0x144 1 7 7 .ro 0 kUM
def EVP_STATE.LAST : Field := fld .evp 0x144 1 6 0 .ro 0 kUM
def EVP_ENTRY.AXIS : Field := { fld .evp 0x148 20 159 157 .rw 0 kUM with img := true }
def EVP_ENTRY.DIR : Field := { fld .evp 0x148 20 156 155 .rw 0 kUM with img := true, fit := .atLeast 1 }
def EVP_ENTRY.MATCH : Field := { fld .evp 0x148 20 154 154 .rw 0 kUM with img := true }
def EVP_ENTRY.EXACT : Field := { fld .evp 0x148 20 153 153 .rw 0 kUM with img := true }
def EVP_ENTRY.LATE_ACT : Field := { fld .evp 0x148 20 152 152 .rw 0 kUM with img := true }
def EVP_ENTRY.GROUP : Field := { fld .evp 0x148 20 151 148 .rw 0 kUM with img := true }
def EVP_ENTRY.ACTION : Field := { fld .evp 0x148 20 147 144 .rw 0 kUM with img := true, fit := .codes 12 0 }
def EVP_ENTRY.TARGET : Field := { fld .evp 0x148 20 143 128 .rw 0 kUM with img := true }
def EVP_ENTRY.ARG : Field := { fld .evp 0x148 20 127 96 .rw 0 kUM with img := true }
def EVP_ENTRY.REPEAT : Field := { fld .evp 0x148 20 95 64 .rw 0 kUM with img := true }
def EVP_ENTRY.POS : Field := { fld .evp 0x148 20 63 0 .rw 0 kUM with img := true }
def EVP_FIRED.TIME : Field := fld .evp 0x160 10 79 0 .ro 0 kUM
def EVP_LAUNCH.RINGS : Field := { fld .evp 0x16A 2 15 0 .rw 0 kUM with img := true }
def EVP_STAT.LATE : Field := { fld .evp 0x16C 1 7 7 .w1c 0 kAON with sticky := true }
def EVP_STAT.OVERRUN : Field := { fld .evp 0x16C 1 6 6 .w1c 0 kAON with sticky := true }
def EVP_STAT.TARGET : Field := { fld .evp 0x16C 1 5 5 .w1c 0 kAON with sticky := true }
def EVP_STAT.EMPTY : Field := { fld .evp 0x16C 1 4 4 .w1c 0 kAON with sticky := true }
def EVP_DELIVERED.COUNT : Field := fld .evp 0x200 4 31 0 .tally 0 kUM
def EVP_DROPPED.COUNT : Field := fld .evp 0x204 4 31 0 .tally 0 kUM
def EVP_FAILED.COUNT : Field := fld .evp 0x208 4 31 0 .tally 0 kUM
def evpFields : List Field :=
  [EVP_SEL.EVENT, EVP_CMD.ARM, EVP_CMD.DISARM, EVP_CMD.GARM, EVP_CMD.GDIS, EVP_GROUP.GROUP, EVP_STATE.ARMED, EVP_STATE.LAST, EVP_ENTRY.AXIS, EVP_ENTRY.DIR, EVP_ENTRY.MATCH, EVP_ENTRY.EXACT, EVP_ENTRY.LATE_ACT, EVP_ENTRY.GROUP, EVP_ENTRY.ACTION, EVP_ENTRY.TARGET, EVP_ENTRY.ARG, EVP_ENTRY.REPEAT, EVP_ENTRY.POS, EVP_FIRED.TIME, EVP_LAUNCH.RINGS, EVP_STAT.LATE, EVP_STAT.OVERRUN, EVP_STAT.TARGET, EVP_STAT.EMPTY, EVP_DELIVERED.COUNT, EVP_DROPPED.COUNT, EVP_FAILED.COUNT]

/-! Class `stamp` (cards of spec/12). -/

def STP_WAIT.WAIT : Field := { fld .stamp 0x140 1 7 0 .rw 4 kUM with fit := .range 0 64 }
def STP_AGE.AGE : Field := { fld .stamp 0x141 1 7 0 .rw 0 kUM with img := true }
def STP_TXQ_SEL.PORT : Field := fld .stamp 0x142 1 3 0 .rw 0 kM
def STP_TXQ_CNT.CNT : Field := fld .stamp 0x143 1 5 0 .ro 0 kNone
def STP_TAG_OFS.TAG_OFS : Field := { fld .stamp 0x144 1 7 0 .rw 0 kUM with img := true }
def STP_CLASSES.CLASSES : Field := { fld .stamp 0x150 1 7 0 .rw 0 kUM with img := true, stride := 1, count := 16 }
def STP_LAT.TX_LAT : Field := { fld .stamp 0x160 4 31 16 .rw 0 kUM with img := true, stride := 4, count := 6 }
def STP_LAT.RX_LAT : Field := { fld .stamp 0x160 4 15 0 .rw 0 kUM with img := true, stride := 4, count := 6 }
def STP_TXQ_POP.COUNT : Field := fld .stamp 0x180 1 7 0 .rs 0 kNone
def STP_TXQ_VIEW.OWNER : Field := fld .stamp 0x184 16 121 120 .ro 0 kM
def STP_TXQ_VIEW.TAG : Field := fld .stamp 0x184 16 111 80 .ro 0 kM
def STP_TXQ_VIEW.TIME : Field := fld .stamp 0x184 16 79 0 .ro 0 kM
def STP_MISS_POP.COUNT : Field := fld .stamp 0x1A0 1 7 0 .rs 0 kNone
def STP_MISS_CNT.CNT : Field := { fld .stamp 0x1A1 2 8 0 .ro 0 kNone with live := true }
def STP_MISS_VIEW.PORT : Field := fld .stamp 0x1A4 16 127 124 .ro 0 kM
def STP_MISS_VIEW.KIND : Field := fld .stamp 0x1A4 16 123 122 .ro 0 kM
def STP_MISS_VIEW.OWNER : Field := fld .stamp 0x1A4 16 121 120 .ro 0 kM
def STP_MISS_VIEW.TAG : Field := fld .stamp 0x1A4 16 111 80 .ro 0 kM
def STP_MISS_VIEW.TIME : Field := fld .stamp 0x1A4 16 79 0 .ro 0 kM
def STP_STAT.MISS : Field := { fld .stamp 0x1B8 1 7 7 .w1c 0 kAON with sticky := true }
def STP_STAT.MISS_FULL : Field := { fld .stamp 0x1B8 1 6 6 .w1c 0 kAON with sticky := true }
def STP_STAT.AGED : Field := { fld .stamp 0x1B8 1 5 5 .w1c 0 kAON with sticky := true }
def STP_STAMPED.COUNT : Field := fld .stamp 0x200 4 31 0 .tally 0 kUM
def STP_UNTIMED.COUNT : Field := fld .stamp 0x204 4 31 0 .tally 0 kUM
def STP_BACKPRESSURE.COUNT : Field := fld .stamp 0x208 4 31 0 .tally 0 kUM
def STP_LOST.COUNT : Field := fld .stamp 0x20C 4 31 0 .tally 0 kUM
def stampFields : List Field :=
  [STP_WAIT.WAIT, STP_AGE.AGE, STP_TXQ_SEL.PORT, STP_TXQ_CNT.CNT, STP_TAG_OFS.TAG_OFS, STP_CLASSES.CLASSES, STP_LAT.TX_LAT, STP_LAT.RX_LAT, STP_TXQ_POP.COUNT, STP_TXQ_VIEW.OWNER, STP_TXQ_VIEW.TAG, STP_TXQ_VIEW.TIME, STP_MISS_POP.COUNT, STP_MISS_CNT.CNT, STP_MISS_VIEW.PORT, STP_MISS_VIEW.KIND, STP_MISS_VIEW.OWNER, STP_MISS_VIEW.TAG, STP_MISS_VIEW.TIME, STP_STAT.MISS, STP_STAT.MISS_FULL, STP_STAT.AGED, STP_STAMPED.COUNT, STP_UNTIMED.COUNT, STP_BACKPRESSURE.COUNT, STP_LOST.COUNT]

/-! Class `channels` (cards of spec/13). -/

def CHG_HOLD.HOLD_MAX : Field := fld .channels 0x140 1 7 0 .rw 50 kAON
def CHG_CTRL.RESUME : Field := fld .channels 0x141 1 7 7 .cmd 0 kNone
def CHG_STAT.HOLDING : Field := fld .channels 0x142 1 7 7 .ro 0 kNone
def CHG_STAT.HOLD_EXP : Field := { fld .channels 0x142 1 6 6 .w1c 0 kAON with sticky := true }
def CHG_STAT.FAIL : Field := { fld .channels 0x142 1 5 5 .w1c 0 kAON with sticky := true }
def channelsFields : List Field :=
  [CHG_HOLD.HOLD_MAX, CHG_CTRL.RESUME, CHG_STAT.HOLDING, CHG_STAT.HOLD_EXP, CHG_STAT.FAIL]

/-! Class `channel` (cards of spec/13). -/

def CH_CFG.LS : Field := { fld .channel 0x140 1 7 7 .rw 0 kUMW with img := true }
def CH_CFG.PRIO : Field := { fld .channel 0x140 1 6 4 .rw 0 kUMW with img := true }
def CH_CFG.OLOFF_EN : Field := { fld .channel 0x140 1 3 3 .rw 0 kUMW with img := true }
def CH_LIMP.LIMP_EN : Field := { fld .channel 0x141 1 7 7 .rw 0 kAON with img := true }
def CH_LIMP.PIN : Field := { fld .channel 0x141 1 6 5 .rw 0 kAON with img := true }
def CH_LIMP.POL : Field := { fld .channel 0x141 1 4 4 .rw 0 kAON with img := true }
def CH_LIMP.LDUTY : Field := { fld .channel 0x141 1 3 0 .rw 0 kAON with img := true }
def CH_CTRL.ON : Field := { fld .channel 0x142 1 7 7 .rw 0 kM with img := true }
def CH_CMD.CLEAR : Field := fld .channel 0x143 1 7 7 .cmd 0 kNone
def CH_CMD.DIAG : Field := fld .channel 0x143 1 6 6 .cmd 0 kNone
def CH_PERIOD.PERIOD : Field := { fld .channel 0x144 2 15 0 .rw 0 kUMW with img := true, fit := .zeroOr 40 10000 }
def CH_DUTY.DUTY : Field := { fld .channel 0x146 2 15 0 .rw 0 kUMW with img := true }
def CH_PHASE.PHASE : Field := { fld .channel 0x148 1 7 0 .rw 0 kUMW with img := true }
def CH_PHASE_EFF.PHASE_EFF : Field := fld .channel 0x149 1 7 0 .ro 0 kNone
def CH_OC_THR.OC_THR : Field := { fld .channel 0x14A 2 15 0 .rw 0 kUMW with img := true }
def CH_INRUSH.INRUSH : Field := { fld .channel 0x14C 1 7 0 .rw 0 kUMW with img := true }
def CH_OC_FILT.OC_FILT : Field := { fld .channel 0x14D 1 7 0 .rw 0 kUMW with img := true, fit := .atLeast 1 }
def CH_RETRY.LIMIT : Field := { fld .channel 0x14E 1 7 4 .rw 0 kUMW with img := true }
def CH_RETRY.DELAY : Field := { fld .channel 0x14E 1 3 0 .rw 0 kUMW with img := true, fit := .atLeast 1 }
def CH_OLON.OLON : Field := { fld .channel 0x150 2 15 0 .rw 0 kUMW with img := true }
def CH_REPORT.REPORT : Field := { fld .channel 0x152 2 15 0 .rw 0 kUMW with img := true }
def CH_SAMPLE.SAMPLE : Field := fld .channel 0x154 1 7 0 .rw 128 kUMW
def CH_STATE.PROT : Field := fld .channel 0x158 1 7 5 .ro 0 kNone
def CH_STATE.CTRL : Field := fld .channel 0x158 1 4 3 .ro 2 kNone
def CH_STATE.OUT : Field := fld .channel 0x158 1 2 2 .ro 0 kNone
def CH_STATE.DERATED : Field := fld .channel 0x158 1 1 1 .ro 0 kNone
def CH_STATE.STAGGERED : Field := fld .channel 0x158 1 0 0 .ro 0 kNone
def CH_RETRY_CNT.COUNT : Field := fld .channel 0x159 1 3 0 .ro 0 kNone
def CH_DIAG.RESULT : Field := fld .channel 0x15B 1 2 0 .ro 0 kNone
def CH_CURRENT.CURRENT : Field := { fld .channel 0x15C 2 15 0 .ro 0 kNone with live := true }
def CH_DERATE.DER : Field := fld .channel 0x15E 1 3 0 .ro 8 kNone
def CH_STAT.SC : Field := { fld .channel 0x15A 1 7 7 .w1c 0 kAON with sticky := true }
def CH_STAT.OC : Field := { fld .channel 0x15A 1 6 6 .w1c 0 kAON with sticky := true }
def CH_STAT.THERM : Field := { fld .channel 0x15A 1 5 5 .w1c 0 kAON with sticky := true }
def CH_STAT.LATCHED : Field := { fld .channel 0x15A 1 4 4 .w1c 0 kAON with sticky := true }
def CH_STAT.OPEN_OFF : Field := { fld .channel 0x15A 1 3 3 .w1c 0 kAON with sticky := true }
def CH_STAT.OPEN_ON : Field := { fld .channel 0x15A 1 2 2 .w1c 0 kAON with sticky := true }
def CH_STAT.STB : Field := { fld .channel 0x15A 1 1 1 .w1c 0 kAON with sticky := true }
def CH_STAT.STG : Field := { fld .channel 0x15A 1 0 0 .w1c 0 kAON with sticky := true }
def CH_FAULTS.COUNT : Field := fld .channel 0x200 4 31 0 .tally 0 kUMW
def CH_THERMS.COUNT : Field := fld .channel 0x204 4 31 0 .tally 0 kUMW
def CH_RETRIES.COUNT : Field := fld .channel 0x208 4 31 0 .tally 0 kUMW
def CH_LATCHES.COUNT : Field := fld .channel 0x20C 4 31 0 .tally 0 kUMW
def channelFields0 : List Field :=
  [CH_CFG.LS, CH_CFG.PRIO, CH_CFG.OLOFF_EN, CH_LIMP.LIMP_EN, CH_LIMP.PIN, CH_LIMP.POL, CH_LIMP.LDUTY, CH_CTRL.ON, CH_CMD.CLEAR, CH_CMD.DIAG, CH_PERIOD.PERIOD, CH_DUTY.DUTY, CH_PHASE.PHASE, CH_PHASE_EFF.PHASE_EFF, CH_OC_THR.OC_THR, CH_INRUSH.INRUSH, CH_OC_FILT.OC_FILT, CH_RETRY.LIMIT, CH_RETRY.DELAY, CH_OLON.OLON, CH_REPORT.REPORT, CH_SAMPLE.SAMPLE, CH_STATE.PROT, CH_STATE.CTRL, CH_STATE.OUT, CH_STATE.DERATED, CH_STATE.STAGGERED, CH_RETRY_CNT.COUNT, CH_DIAG.RESULT, CH_CURRENT.CURRENT, CH_DERATE.DER, CH_STAT.SC, CH_STAT.OC, CH_STAT.THERM, CH_STAT.LATCHED, CH_STAT.OPEN_OFF, CH_STAT.OPEN_ON, CH_STAT.STB, CH_STAT.STG, CH_FAULTS.COUNT]
def channelFields1 : List Field :=
  [CH_THERMS.COUNT, CH_RETRIES.COUNT, CH_LATCHES.COUNT]
def channelFields : List Field := channelFields0 ++ channelFields1

/-! Class `bridge` (cards of spec/13). -/

def HB_CTRL.ME_OWN : Field := fld .bridge 0x140 1 7 7 .ro 0 kNone
def HB_CTRL.MODE : Field := fld .bridge 0x140 1 2 0 .rw 0 kUM
def HB_DT.DT : Field := { fld .bridge 0x141 1 7 0 .rw 0 kUMW with img := true, fit := .range 2 40 }
def HB_STAT.PARTNER : Field := { fld .bridge 0x142 1 7 7 .w1c 0 kAON with sticky := true }
def bridgeFields : List Field :=
  [HB_CTRL.ME_OWN, HB_CTRL.MODE, HB_DT.DT, HB_STAT.PARTNER]

/-! Class `therm` (cards of spec/13). -/

def THERM_CFG.TJ_STAG : Field := { fld .therm 0x140 3 23 16 .rw 0 kUMW with img := true, fit := .range 60 170 }
def THERM_CFG.TJ_DER : Field := { fld .therm 0x140 3 15 8 .rw 0 kUMW with img := true, fit := .range 60 170 }
def THERM_CFG.HYST : Field := { fld .therm 0x140 3 7 0 .rw 0 kUMW with img := true, fit := .range 1 30 }
def THERM_SLUG.SLUG : Field := { fld .therm 0x144 2 15 0 .ro 0 kNone with live := true }
def THERM_TOTAL.TOTAL : Field := { fld .therm 0x146 2 15 0 .ro 0 kNone with live := true }
def THERM_STAT.STAGGER : Field := { fld .therm 0x148 1 7 7 .w1c 0 kAON with sticky := true }
def THERM_STAT.DERATE : Field := { fld .therm 0x148 1 6 6 .w1c 0 kAON with sticky := true }
def thermFields : List Field :=
  [THERM_CFG.TJ_STAG, THERM_CFG.TJ_DER, THERM_CFG.HYST, THERM_SLUG.SLUG, THERM_TOTAL.TOTAL, THERM_STAT.STAGGER, THERM_STAT.DERATE]

/-! Class `ps` (cards of spec/13). -/

def PS_ALLOT.ALLOT : Field := { fld .ps 0x140 2 15 0 .rw 0 kUMW with img := true }
def PS_RTH.RTH : Field := { fld .ps 0x142 2 15 0 .rw 0 kUMW with img := true, fit := .atLeast 1 }
def PS_TAU.TAU : Field := { fld .ps 0x144 2 15 0 .rw 0 kUMW with img := true, fit := .atLeast 1 }
def PS_TJ.TJ : Field := { fld .ps 0x146 2 15 0 .ro 0 kNone with live := true }
def PS_PLOSS.PLOSS : Field := { fld .ps 0x148 2 15 0 .ro 0 kNone with live := true }
def PS_STATE.STAG : Field := fld .ps 0x14A 1 7 7 .ro 0 kNone
def PS_STATE.DER : Field := fld .ps 0x14A 1 6 6 .ro 0 kNone
def psFields : List Field :=
  [PS_ALLOT.ALLOT, PS_RTH.RTH, PS_TAU.TAU, PS_TJ.TJ, PS_PLOSS.PLOSS, PS_STATE.STAG, PS_STATE.DER]

/-! Class `inputs` (cards of spec/14). -/

def INP_PARK_PER.PER : Field := { fld .inputs 0x140 1 7 0 .rw 0 kAON with img := true, fit := .atLeast 5 }
def INP_PARK_ON.ON : Field := { fld .inputs 0x141 1 7 0 .rw 0 kAON with img := true, fit := .range 5 100 }
def INP_PARK_DEB.PDEB : Field := { fld .inputs 0x142 1 2 0 .rw 0 kAON with img := true, fit := .range 1 4 }
def INP_DEEP_ARM.ARM : Field := { fld .inputs 0x143 1 7 0 .rw 0 kAON with img := true }
def INP_DEEP_PER.PER : Field := { fld .inputs 0x144 1 7 0 .rw 0 kAON with img := true, fit := .atLeast 5 }
def INP_DEEP_ON.ON : Field := { fld .inputs 0x145 1 7 0 .rw 0 kAON with img := true, fit := .range 5 100 }
def INP_DEEP_WET.WET : Field := { fld .inputs 0x146 1 2 0 .rw 0 kAON with img := true, fit := .range 0 4 }
def INP_STATES.STATES : Field := { fld .inputs 0x148 8 63 0 .ro 0 kNone with live := true }
def inputsFields : List Field :=
  [INP_PARK_PER.PER, INP_PARK_ON.ON, INP_PARK_DEB.PDEB, INP_DEEP_ARM.ARM, INP_DEEP_PER.PER, INP_DEEP_ON.ON, INP_DEEP_WET.WET, INP_STATES.STATES]

/-! Class `switch` (cards of spec/14). -/

def SW_CFG.MODE : Field := { fld .switch 0x140 1 7 6 .rw 0 kUMW with img := true, fit := .codes 2 0 }
def SW_CFG.PULL : Field := { fld .switch 0x140 1 5 5 .rw 0 kAON with img := true }
def SW_CFG.WET : Field := { fld .switch 0x140 1 4 2 .rw 0 kAON with img := true, fit := .range 0 4 }
def SW_CFG.POL : Field := { fld .switch 0x140 1 1 1 .rw 0 kAON with img := true }
def SW_CFG.WAKE_EN : Field := { fld .switch 0x140 1 0 0 .rw 0 kAON with img := true }
def SW_DEB.DEB : Field := { fld .switch 0x141 1 7 0 .rw 0 kUMW with img := true }
def SW_FILT.FILT : Field := { fld .switch 0x142 1 7 0 .rw 0 kUMW with img := true }
def SW_STATE.STATE : Field := fld .switch 0x143 1 7 7 .ro 0 kNone
def SW_STATE.RAW : Field := fld .switch 0x143 1 6 6 .ro 0 kNone
def SW_STAT.WAKE : Field := { fld .switch 0x144 1 7 7 .w1c 0 kAON with sticky := true }
def SW_CHANGES.COUNT : Field := fld .switch 0x200 4 31 0 .tally 0 kUMW
def switchFields : List Field :=
  [SW_CFG.MODE, SW_CFG.PULL, SW_CFG.WET, SW_CFG.POL, SW_CFG.WAKE_EN, SW_DEB.DEB, SW_FILT.FILT, SW_STATE.STATE, SW_STATE.RAW, SW_STAT.WAKE, SW_CHANGES.COUNT]

/-! Class `analog` (cards of spec/14). -/

def AN_CFG.EN : Field := { fld .analog 0x140 1 7 7 .rw 0 kUMW with img := true }
def AN_CFG.RANGE : Field := { fld .analog 0x140 1 6 6 .rw 0 kUMW with img := true }
def AN_CFG.AVG : Field := { fld .analog 0x140 1 5 3 .rw 0 kUMW with img := true }
def AN_REPORT.REPORT : Field := { fld .analog 0x141 2 15 0 .rw 0 kUMW with img := true }
def AN_LO.LO_THR : Field := { fld .analog 0x144 2 11 0 .rw 0 kUMW with img := true }
def AN_HI.HI_THR : Field := { fld .analog 0x146 2 11 0 .rw 0 kUMW with img := true }
def AN_VALUE.VALUE : Field := { fld .analog 0x148 2 11 0 .ro 0 kNone with live := true }
def AN_STAT.LO : Field := { fld .analog 0x14A 1 7 7 .w1c 0 kAON with sticky := true }
def AN_STAT.HI : Field := { fld .analog 0x14A 1 6 6 .w1c 0 kAON with sticky := true }
def analogFields : List Field :=
  [AN_CFG.EN, AN_CFG.RANGE, AN_CFG.AVG, AN_REPORT.REPORT, AN_LO.LO_THR, AN_HI.HI_THR, AN_VALUE.VALUE, AN_STAT.LO, AN_STAT.HI]

/-! Class `motion` (cards of spec/14). -/

def ME_CFG.EN : Field := { fld .motion 0x140 1 7 7 .rw 0 kUMW with img := true }
def ME_CFG.TRACK : Field := { fld .motion 0x140 1 6 5 .rw 0 kUMW with img := true, fit := .codes 2 0 }
def ME_CFG.COMP : Field := { fld .motion 0x140 1 4 4 .rw 0 kUMW with img := true }
def ME_CFG.PINCH_EN : Field := { fld .motion 0x140 1 3 3 .rw 0 kUMW with img := true }
def ME_CFG.CLOSE_DIR : Field := { fld .motion 0x140 1 2 2 .rw 0 kUMW with img := true }
def ME_CFG.REF_EN : Field := { fld .motion 0x140 1 1 1 .rw 0 kUMW with img := true }
def ME_CFG.REF_DIR : Field := { fld .motion 0x140 1 0 0 .rw 0 kUMW with img := true }
def ME_INPUTS.HALL_A : Field := { fld .motion 0x141 3 23 18 .rw 0 kUMW with img := true }
def ME_INPUTS.HALL_B : Field := { fld .motion 0x141 3 17 12 .rw 0 kUMW with img := true }
def ME_INPUTS.PARK_SW : Field := { fld .motion 0x141 3 11 6 .rw 0 kUMW with img := true }
def ME_INPUTS.PARK_EN : Field := { fld .motion 0x141 3 5 5 .rw 0 kUMW with img := true }
def ME_MOTOR.RM : Field := { fld .motion 0x144 4 31 16 .rw 0 kUMW with img := true }
def ME_MOTOR.KV : Field := { fld .motion 0x144 4 15 0 .rw 0 kUMW with img := true }
def ME_SPEED_A.SPEED_A : Field := { fld .motion 0x148 2 15 0 .rw 0 kUMW with img := true }
def ME_SPEED_B.SPEED_B : Field := { fld .motion 0x14A 2 15 0 .rw 0 kUMW with img := true }
def ME_START.START : Field := { fld .motion 0x14C 2 15 0 .rw 0 kUMW with img := true }
def ME_RAMP.RAMP : Field := { fld .motion 0x14E 1 7 0 .rw 0 kUMW with img := true }
def ME_BRK.BRK_DIST : Field := { fld .motion 0x150 2 15 0 .rw 0 kUMW with img := true }
def ME_TOL.TOL : Field := { fld .motion 0x152 1 7 0 .rw 0 kUMW with img := true }
def ME_SETTLE.SETTLE : Field := { fld .motion 0x153 1 7 0 .rw 0 kUMW with img := true, fit := .atLeast 1 }
def ME_STALL_MS.STALL_MS : Field := { fld .motion 0x154 1 7 0 .rw 0 kUMW with img := true }
def ME_BLANK.BLANK : Field := { fld .motion 0x155 1 7 0 .rw 0 kUMW with img := true }
def ME_STALL_I.STALL_I : Field := { fld .motion 0x156 2 15 0 .rw 0 kUMW with img := true }
def ME_PARK_TO.PARK_TO : Field := { fld .motion 0x158 1 7 0 .rw 0 kUMW with img := true }
def ME_REPORT.POS_REP : Field := { fld .motion 0x15C 4 31 16 .rw 0 kUMW with img := true }
def ME_REPORT.SPD_REP : Field := { fld .motion 0x15C 4 15 0 .rw 0 kUMW with img := true }
def ME_REF_POS.REF_POS : Field := { fld .motion 0x160 4 31 0 .rw 0 kUMW with img := true }
def ME_PINCH_K.KI : Field := { fld .motion 0x164 4 31 16 .rw 0 kUMW with img := true }
def ME_PINCH_K.KS : Field := { fld .motion 0x164 4 15 0 .rw 0 kUMW with img := true }
def ME_PINCH_LIM.F_LIM : Field := { fld .motion 0x168 2 15 0 .rw 0 kUMW with img := true, fit := .atLeast 1 }
def ME_PINCH_WIN.BASE_WIN : Field := { fld .motion 0x16A 1 7 0 .rw 0 kUMW with img := true, fit := .atLeast 1 }
def ME_REV.REV_BRK : Field := { fld .motion 0x16B 1 7 0 .rw 0 kUMW with img := true }
def ME_REV_DIST.REV_DIST : Field := { fld .motion 0x16C 2 15 0 .rw 0 kUMW with img := true }
def ME_ZONE.ZONE_LO : Field := { fld .motion 0x170 8 63 32 .rw 0 kUMW with img := true }
def ME_ZONE.ZONE_HI : Field := { fld .motion 0x170 8 31 0 .rw 0 kUMW with img := true }
def ME_MODE.MODE : Field := fld .motion 0x180 1 2 0 .rw 0 kUMW
def ME_CTRL.SETPOS : Field := fld .motion 0x181 1 7 7 .cmd 0 kNone
def ME_TARGET.TARGET : Field := fld .motion 0x184 4 31 0 .rw 0 kUMW
def ME_STATE.STATE : Field := fld .motion 0x188 1 7 5 .ro 0 kNone
def ME_STATE.NORM : Field := fld .motion 0x188 1 4 4 .ro 0 [.U, .M, .W, .S, .N, .K, .D, .X, .T]
def ME_STATE.DIRN : Field := fld .motion 0x188 1 3 3 .ro 0 kNone
def ME_RESULT.RESULT : Field := fld .motion 0x189 1 3 0 .ro 0 kUMW
def ME_POS.POS : Field := { fld .motion 0x18C 4 31 0 .ro 0 kAON with live := true }
def ME_SPEED.SPEED : Field := { fld .motion 0x190 2 15 0 .ro 0 kNone with live := true }
def ME_FORCE.FORCE : Field := { fld .motion 0x192 2 15 0 .ro 0 kNone with live := true }
def ME_STAT.PINCH : Field := { fld .motion 0x194 1 7 7 .w1c 0 kAON with sticky := true }
def ME_STAT.STALL : Field := { fld .motion 0x194 1 6 6 .w1c 0 kAON with sticky := true }
def ME_STAT.FAULT : Field := { fld .motion 0x194 1 5 5 .w1c 0 kAON with sticky := true }
def ME_STAT.PARK_TO : Field := { fld .motion 0x194 1 4 4 .w1c 0 kAON with sticky := true }
def ME_STAT.NORM_LOST : Field := { fld .motion 0x194 1 3 3 .w1c 0 kAON with sticky := true }
def ME_STAT.CMD_LOST : Field := { fld .motion 0x194 1 2 2 .w1c 0 kAON with sticky := true }
def ME_STAT.RIPPLE : Field := { fld .motion 0x194 1 1 1 .w1c 0 kAON with sticky := true }
def ME_PINCHES.COUNT : Field := fld .motion 0x200 4 31 0 .tally 0 kUMW
def ME_STALLS.COUNT : Field := fld .motion 0x204 4 31 0 .tally 0 kUMW
def ME_INSERTED.COUNT : Field := fld .motion 0x208 4 31 0 .tally 0 kUMW
def ME_DISCARDED.COUNT : Field := fld .motion 0x20C 4 31 0 .tally 0 kUMW
def motionFields0 : List Field :=
  [ME_CFG.EN, ME_CFG.TRACK, ME_CFG.COMP, ME_CFG.PINCH_EN, ME_CFG.CLOSE_DIR, ME_CFG.REF_EN, ME_CFG.REF_DIR, ME_INPUTS.HALL_A, ME_INPUTS.HALL_B, ME_INPUTS.PARK_SW, ME_INPUTS.PARK_EN, ME_MOTOR.RM, ME_MOTOR.KV, ME_SPEED_A.SPEED_A, ME_SPEED_B.SPEED_B, ME_START.START, ME_RAMP.RAMP, ME_BRK.BRK_DIST, ME_TOL.TOL, ME_SETTLE.SETTLE, ME_STALL_MS.STALL_MS, ME_BLANK.BLANK, ME_STALL_I.STALL_I, ME_PARK_TO.PARK_TO, ME_REPORT.POS_REP, ME_REPORT.SPD_REP, ME_REF_POS.REF_POS, ME_PINCH_K.KI, ME_PINCH_K.KS, ME_PINCH_LIM.F_LIM, ME_PINCH_WIN.BASE_WIN, ME_REV.REV_BRK, ME_REV_DIST.REV_DIST, ME_ZONE.ZONE_LO, ME_ZONE.ZONE_HI, ME_MODE.MODE, ME_CTRL.SETPOS, ME_TARGET.TARGET, ME_STATE.STATE, ME_STATE.NORM]
def motionFields1 : List Field :=
  [ME_STATE.DIRN, ME_RESULT.RESULT, ME_POS.POS, ME_SPEED.SPEED, ME_FORCE.FORCE, ME_STAT.PINCH, ME_STAT.STALL, ME_STAT.FAULT, ME_STAT.PARK_TO, ME_STAT.NORM_LOST, ME_STAT.CMD_LOST, ME_STAT.RIPPLE, ME_PINCHES.COUNT, ME_STALLS.COUNT, ME_INSERTED.COUNT, ME_DISCARDED.COUNT]
def motionFields : List Field := motionFields0 ++ motionFields1

/-! Class `wake` (cards of spec/15). -/

def WK_CFG.WIO_MODE : Field := { fld .wake 0x140 1 7 6 .rw 0 kAON with img := true, fit := .codes 2 0 }
def WK_WIO_PULSE.WIO_PULSE : Field := { fld .wake 0x141 1 7 0 .rw 0 kAON with img := true, fit := .atLeast 1 }
def WK_TIMER.TIMER : Field := { fld .wake 0x142 2 15 0 .rw 0 kAON with img := true }
def WK_PNC_HOLD.PNC_HOLD : Field := { fld .wake 0x144 1 7 0 .rw 0 kUM with img := true, fit := .atLeast 1 }
def WK_LATCH.LATCH : Field := { fld .wake 0x148 6 47 0 .w1c 0 kAON with sticky := true }
def WK_FIRST.VALID : Field := fld .wake 0x14E 1 7 7 .ro 0 kAON
def WK_FIRST.SRC : Field := fld .wake 0x14E 1 5 0 .ro 0 kAON
def WK_STAT.LATE_WAKE : Field := { fld .wake 0x14F 1 7 7 .w1c 0 kAON with sticky := true }
def WK_STAT.ABORT : Field := { fld .wake 0x14F 1 6 6 .w1c 0 kAON with sticky := true }
def WK_STAT.LIMP : Field := { fld .wake 0x14F 1 5 5 .w1c 0 kAON with sticky := true }
def WK_STAT.TX_ASLEEP : Field := { fld .wake 0x14F 1 4 4 .w1c 0 kAON with sticky := true }
def WK_PNC_REQ.REQ : Field := { fld .wake 0x150 3 23 0 .ro 0 kNone with live := true }
def WK_PNC_LOCAL.LOCAL : Field := fld .wake 0x154 3 23 0 .rw 0 kUM
def WK_ARM_LIN.LIN : Field := { fld .wake 0x158 2 11 0 .rw 0 kAON with img := true }
def WK_ARM_ETH.ETH : Field := { fld .wake 0x15A 2 15 6 .rw 0 kAON with img := true }
def WK_ROUTE.PWR : Field := { fld .wake 0x200 4 31 31 .rw 0 kAON with img := true, stride := 4, count := 48 }
def WK_ROUTE.WIO : Field := { fld .wake 0x200 4 30 30 .rw 0 kAON with img := true, stride := 4, count := 48 }
def WK_ROUTE.PNC : Field := { fld .wake 0x200 4 23 0 .rw 0 kAON with img := true, stride := 4, count := 48 }
def WK_NET.WAKE_ON_TX : Field := { fld .wake 0x400 4 31 31 .rw 0 kAON with img := true, stride := 4, count := 44 }
def WK_NET.WTAB : Field := { fld .wake 0x400 4 30 28 .rw 0 kAON with img := true, stride := 4, count := 44 }
def WK_NET.MEMBER : Field := { fld .wake 0x400 4 23 0 .rw 0 kAON with img := true, stride := 4, count := 44 }
def WK_NET_DLY.DELAY : Field := { fld .wake 0x4C0 1 7 0 .rw 0 kAON with img := true, stride := 1, count := 44 }
def WK_NET_STATE.STATE : Field := { fld .wake 0x500 1 7 5 .ro 1 kNone with stride := 1, count := 44 }
def WK_NET_STATE.REQ : Field := { fld .wake 0x500 1 4 4 .ro 0 kNone with stride := 1, count := 44 }
def WK_NM_SEL.PORT : Field := fld .wake 0x600 1 3 0 .rw 0 kM
def WK_NM_CFG.NM_EN : Field := { fld .wake 0x608 8 63 63 .rw 0 kUM with img := true }
def WK_NM_CFG.NODE : Field := { fld .wake 0x608 8 62 57 .rw 0 kUM with img := true }
def WK_NM_CFG.NM_BASE : Field := { fld .wake 0x608 8 56 46 .rw 0 kUM with img := true }
def WK_NM_CFG.T_TYP : Field := { fld .wake 0x608 8 45 38 .rw 0 kUM with img := true, fit := .atLeast 1 }
def WK_NM_CFG.T_MAX : Field := { fld .wake 0x608 8 37 30 .rw 0 kUM with img := true, fit := .atLeast 1 }
def WK_NM_CFG.T_ERR : Field := { fld .wake 0x608 8 29 22 .rw 0 kUM with img := true, fit := .atLeast 1 }
def WK_NM_CFG.T_WBS : Field := { fld .wake 0x608 8 21 10 .rw 0 kUM with img := true }
def WK_NM_PRESENT.PRESENT : Field := { fld .wake 0x610 8 63 0 .ro 0 kNone with live := true }
def NM_TX.COUNT : Field := fld .wake 0x620 4 31 0 .tally 0 kUM
def NM_RX.COUNT : Field := fld .wake 0x624 4 31 0 .tally 0 kUM
def NM_ABORTS.COUNT : Field := fld .wake 0x628 4 31 0 .tally 0 kUM
def NM_LIMPS.COUNT : Field := fld .wake 0x62C 4 31 0 .tally 0 kUM
def wakeFields : List Field :=
  [WK_CFG.WIO_MODE, WK_WIO_PULSE.WIO_PULSE, WK_TIMER.TIMER, WK_PNC_HOLD.PNC_HOLD, WK_LATCH.LATCH, WK_FIRST.VALID, WK_FIRST.SRC, WK_STAT.LATE_WAKE, WK_STAT.ABORT, WK_STAT.LIMP, WK_STAT.TX_ASLEEP, WK_PNC_REQ.REQ, WK_PNC_LOCAL.LOCAL, WK_ARM_LIN.LIN, WK_ARM_ETH.ETH, WK_ROUTE.PWR, WK_ROUTE.WIO, WK_ROUTE.PNC, WK_NET.WAKE_ON_TX, WK_NET.WTAB, WK_NET.MEMBER, WK_NET_DLY.DELAY, WK_NET_STATE.STATE, WK_NET_STATE.REQ, WK_NM_SEL.PORT, WK_NM_CFG.NM_EN, WK_NM_CFG.NODE, WK_NM_CFG.NM_BASE, WK_NM_CFG.T_TYP, WK_NM_CFG.T_MAX, WK_NM_CFG.T_ERR, WK_NM_CFG.T_WBS, WK_NM_PRESENT.PRESENT, NM_TX.COUNT, NM_RX.COUNT, NM_ABORTS.COUNT, NM_LIMPS.COUNT]

/-! Class `pwr` (cards of spec/16). -/

def PWR_STATE.STATE : Field := fld .pwr 0x140 1 7 6 .ro 0 kNone
def PWR_STATE.TAMP : Field := fld .pwr 0x140 1 5 5 .ro 0 kNone
def PWR_STATE.COLD : Field := fld .pwr 0x140 1 4 4 .ro 0 kNone
def PWR_STATE.PEND : Field := fld .pwr 0x140 1 3 3 .ro 0 kNone
def PWR_CTRL.PARK : Field := fld .pwr 0x141 1 7 7 .cmd 0 kNone
def PWR_CTRL.CANCEL : Field := fld .pwr 0x141 1 6 6 .cmd 0 kNone
def PWR_CTRL.SOFT : Field := fld .pwr 0x141 1 5 5 .cmd 0 kNone
def PWR_CTRL.MPWARM : Field := fld .pwr 0x141 1 4 4 .cmd 0 kNone
def PWR_CFG.PARK_AUTO : Field := { fld .pwr 0x142 1 7 7 .rw 0 kUM with img := true }
def PWR_CFG.DEEP : Field := { fld .pwr 0x142 1 6 6 .rw 0 kUM with img := true }
def PWR_CFG.BIST_EN : Field := { fld .pwr 0x142 1 5 5 .rw 0 kUM with img := true }
def PWR_PARK_DLY.PARK_DLY : Field := { fld .pwr 0x143 1 7 0 .rw 0 kUM with img := true }
def PWR_DEEP_AFTER.DEEP_AFTER : Field := { fld .pwr 0x144 2 15 0 .rw 0 kUM with img := true }
def PWR_ME_WAIT.ME_WAIT : Field := { fld .pwr 0x146 1 7 0 .rw 0 kUM with img := true }
def PWR_RST_CAUSE.KIND : Field := fld .pwr 0x148 1 7 4 .ro 0 kAON
def PWR_RST_CAUSE.WDOG : Field := fld .pwr 0x148 1 3 0 .ro 0 kAON
def PWR_START_MS.MS : Field := fld .pwr 0x14A 2 15 0 .ro 0 kAON
def PWR_STAT.ABANDON : Field := { fld .pwr 0x14C 1 7 7 .w1c 0 kAON with sticky := true }
def PWR_STAT.ST_ABORT : Field := { fld .pwr 0x14C 1 6 6 .w1c 0 kAON with sticky := true }
def PWR_STAT.ME_FORCED : Field := { fld .pwr 0x14C 1 5 5 .w1c 0 kAON with sticky := true }
def pwrFields : List Field :=
  [PWR_STATE.STATE, PWR_STATE.TAMP, PWR_STATE.COLD, PWR_STATE.PEND, PWR_CTRL.PARK, PWR_CTRL.CANCEL, PWR_CTRL.SOFT, PWR_CTRL.MPWARM, PWR_CFG.PARK_AUTO, PWR_CFG.DEEP, PWR_CFG.BIST_EN, PWR_PARK_DLY.PARK_DLY, PWR_DEEP_AFTER.DEEP_AFTER, PWR_ME_WAIT.ME_WAIT, PWR_RST_CAUSE.KIND, PWR_RST_CAUSE.WDOG, PWR_START_MS.MS, PWR_STAT.ABANDON, PWR_STAT.ST_ABORT, PWR_STAT.ME_FORCED]

/-! Class `bist` (cards of spec/16). -/

def BIST_RESULT.VALID : Field := fld .bist 0x140 1 7 7 .ro 0 kAON
def BIST_RESULT.GX_LOGIC_FAIL : Field := { fld .bist 0x140 1 6 6 .w1c 0 kAON with sticky := true }
def BIST_RESULT.IX_LOGIC_FAIL : Field := { fld .bist 0x140 1 5 5 .w1c 0 kAON with sticky := true }
def BIST_RESULT.MEM_FAIL : Field := { fld .bist 0x140 1 4 4 .w1c 0 kAON with sticky := true }
def BIST_RESULT.REPAIR_SHORT : Field := { fld .bist 0x140 1 3 3 .w1c 0 kAON with sticky := true }
def BIST_MEM_FAILS.MEM_FAILS : Field := fld .bist 0x141 2 15 0 .ro 0 kAON
def BIST_FAIL.MEMID : Field := { fld .bist 0x150 8 63 56 .ro 0 kAON with stride := 8, count := 16 }
def BIST_FAIL.ADDR : Field := { fld .bist 0x150 8 55 32 .ro 0 kAON with stride := 8, count := 16 }
def BIST_FAIL.BIT : Field := { fld .bist 0x150 8 31 24 .ro 0 kAON with stride := 8, count := 16 }
def BIST_FAIL.FIX : Field := { fld .bist 0x150 8 23 22 .ro 0 kAON with stride := 8, count := 16 }
def BIST_SPARES.ROWS : Field := fld .bist 0x1D0 4 31 16 .ro 0 kAON
def BIST_SPARES.COLS : Field := fld .bist 0x1D0 4 15 0 .ro 0 kAON
def BIST_FENCED.FENCED : Field := fld .bist 0x1D4 2 15 0 .ro 0 kAON
def bistFields : List Field :=
  [BIST_RESULT.VALID, BIST_RESULT.GX_LOGIC_FAIL, BIST_RESULT.IX_LOGIC_FAIL, BIST_RESULT.MEM_FAIL, BIST_RESULT.REPAIR_SHORT, BIST_MEM_FAILS.MEM_FAILS, BIST_FAIL.MEMID, BIST_FAIL.ADDR, BIST_FAIL.BIT, BIST_FAIL.FIX, BIST_SPARES.ROWS, BIST_SPARES.COLS, BIST_FENCED.FENCED]

/-! Class `ks` (cards of spec/17). -/

def KS_ATTR.VALID : Field := fld .ks 0x144 4 31 31 .ro 0 kUM
def KS_ATTR.LEN : Field := fld .ks 0x144 4 30 30 .ro 0 kUM
def KS_ATTR.CMAC : Field := fld .ks 0x144 4 29 29 .ro 0 kUM
def KS_ATTR.GCM : Field := fld .ks 0x144 4 28 28 .ro 0 kUM
def KS_ATTR.WRAP : Field := fld .ks 0x144 4 27 27 .ro 0 kUM
def KS_ATTR.ROOT : Field := fld .ks 0x144 4 26 25 .ro 0 kUM
def KS_ATTR.REPL : Field := fld .ks 0x144 4 24 24 .ro 0 kUM
def KS_ATTR.WSLOT : Field := fld .ks 0x144 4 23 16 .ro 0 kUM
def KS_SEL.SLOT : Field := fld .ks 0x140 1 7 0 .rw 0 kM
def KS_VER.VER : Field := fld .ks 0x148 2 15 0 .ro 0 kUM
def KS_CMD.COMMIT : Field := fld .ks 0x14A 1 7 7 .cmd 0 kNone
def KS_CMD.DISCARD : Field := fld .ks 0x14A 1 6 6 .cmd 0 kNone
def KS_CMD.PERSIST : Field := fld .ks 0x14A 1 5 5 .cmd 0 kNone
def KS_SH_STATE.SH_STATE : Field := fld .ks 0x14B 1 7 6 .ro 0 kNone
def KS_SH_STATE.SH_LEN : Field := { fld .ks 0x14B 1 5 0 .rw 24 kNone with fit := .only 24 40 24 }
def KS_LEASE.LEASE_MS : Field := { fld .ks 0x14D 1 7 0 .rw 100 kUM with fit := .atLeast 1 }
def KS_LOADFAIL.SLOT : Field := fld .ks 0x14E 1 7 0 .ro 0 kUM
def KS_STAT.LOADFAIL : Field := { fld .ks 0x14C 1 7 7 .w1c 0 kAON with sticky := true }
def KS_STAT.REPL_FAIL : Field := { fld .ks 0x14C 1 6 6 .w1c 0 kAON with sticky := true }
def KS_STAT.PERS_FAIL : Field := { fld .ks 0x14C 1 5 5 .w1c 0 kAON with sticky := true }
def KS_USABLE.USABLE : Field := fld .ks 0x180 32 255 0 .ro 0 kNone
def KS_SHADOW.WRAPPED : Field := { fld .ks 0x150 1 7 0 .wo 0 kNone with stride := 1, count := 40 }
def ksFields : List Field :=
  [KS_ATTR.VALID, KS_ATTR.LEN, KS_ATTR.CMAC, KS_ATTR.GCM, KS_ATTR.WRAP, KS_ATTR.ROOT, KS_ATTR.REPL, KS_ATTR.WSLOT, KS_SEL.SLOT, KS_VER.VER, KS_CMD.COMMIT, KS_CMD.DISCARD, KS_CMD.PERSIST, KS_SH_STATE.SH_STATE, KS_SH_STATE.SH_LEN, KS_LEASE.LEASE_MS, KS_LOADFAIL.SLOT, KS_STAT.LOADFAIL, KS_STAT.REPL_FAIL, KS_STAT.PERS_FAIL, KS_USABLE.USABLE, KS_SHADOW.WRAPPED]

/-! Class `lc` (cards of spec/17). -/

def LC_STATE.STATE : Field := fld .lc 0x140 1 7 5 .ro 0 kAON
def LC_STATE.TAMP : Field := fld .lc 0x140 1 4 4 .ro 0 kAON
def LC_STATE.DBG : Field := fld .lc 0x140 1 3 2 .ro 0 kNone
def LC_STATE.ROOT : Field := fld .lc 0x140 1 1 0 .ro 0 kAON
def LC_ROOTS.INST : Field := fld .lc 0x141 1 7 4 .ro 0 kAON
def LC_ROOTS.AUTH : Field := fld .lc 0x141 1 3 0 .ro 0 kAON
def lcFields : List Field :=
  [LC_STATE.STATE, LC_STATE.TAMP, LC_STATE.DBG, LC_STATE.ROOT, LC_ROOTS.INST, LC_ROOTS.AUTH]

/-! Class `tamper` (cards of spec/17). -/

def TAMP_EN.LID : Field := fld .tamper 0x140 1 7 7 .rw 0 kAON
def TAMP_EN.MESH : Field := fld .tamper 0x140 1 6 6 .rw 0 kAON
def TAMP_EN.GLITCH : Field := fld .tamper 0x140 1 5 5 .rw 0 kAON
def TAMP_FIRST.SRC : Field := fld .tamper 0x141 1 7 6 .ro 0 kAON
def TAMP_LIVE.LID : Field := fld .tamper 0x142 1 7 7 .ro 0 kNone
def TAMP_LIVE.MESH : Field := fld .tamper 0x142 1 6 6 .ro 0 kNone
def TAMP_LIVE.GLITCH : Field := fld .tamper 0x142 1 5 5 .ro 0 kNone
def TAMP_COUNT.COUNT : Field := fld .tamper 0x144 2 15 0 .ro 0 kAON
def tamperFields : List Field :=
  [TAMP_EN.LID, TAMP_EN.MESH, TAMP_EN.GLITCH, TAMP_FIRST.SRC, TAMP_LIVE.LID, TAMP_LIVE.MESH, TAMP_LIVE.GLITCH, TAMP_COUNT.COUNT]

/-! Class `attest` (cards of spec/17). -/

def TRM_CMD.GO : Field := fld .attest 0x140 1 7 7 .cmd 0 kNone
def TRM_CMD.OP : Field := fld .attest 0x140 1 3 0 .rw 0 kM
def TRM_RESULT.RESULT : Field := fld .attest 0x141 1 3 0 .ro 0 kM
def TRM_PTR.PTR : Field := fld .attest 0x142 2 12 0 .rw 0 kNone
def TRM_DATA.DATA : Field := fld .attest 0x144 1 7 0 .rs 0 kNone
def TRM_LEN.LEN : Field := { fld .attest 0x146 2 13 0 .rw 0 kNone with fit := .range 0 8192 }
def TRM_OWNER.OWNER : Field := fld .attest 0x148 1 7 0 .ro 0 kNone
def TRM_NONCE.NONCE : Field := fld .attest 0x160 32 255 0 .ro 0 kNone
def TRM_NV.NV : Field := fld .attest 0x180 1 7 7 .ro 0 kNone
def HSS_STATE.STATE : Field := fld .attest 0x181 1 1 0 .ro 0 kAON
def HSS_INDEX.INDEX : Field := { fld .attest 0x184 4 31 0 .ro 0 kAON with live := true }
def attestFields : List Field :=
  [TRM_CMD.GO, TRM_CMD.OP, TRM_RESULT.RESULT, TRM_PTR.PTR, TRM_DATA.DATA, TRM_LEN.LEN, TRM_OWNER.OWNER, TRM_NONCE.NONCE, TRM_NV.NV, HSS_STATE.STATE, HSS_INDEX.INDEX]

/-! Class `debug` (cards of spec/17). -/

def DBG_STATE.LEVEL : Field := fld .debug 0x140 1 7 6 .ro 0 kNone
def DBG_MIN.MIN : Field := fld .debug 0x141 1 7 0 .ro 0 kNone
def debugFields : List Field :=
  [DBG_STATE.LEVEL, DBG_MIN.MIN]

/-! Class `derrick` (cards of spec/19). -/

def DRK_CFG.EN : Field := { fld .derrick 0x140 1 7 7 .rw 0 kUM with img := true }
def DRK_CFG.TC : Field := { fld .derrick 0x140 1 6 4 .rw 0 kUM with img := true }
def DRK_RD_TO.RD_TO : Field := { fld .derrick 0x141 1 7 0 .rw 10 kUM with fit := .atLeast 1 }
def DRK_RETRY_GAP.GAP : Field := { fld .derrick 0x142 1 7 0 .rw 10 kUM with fit := .atLeast 1 }
def DRK_POLL.POLL_MS : Field := { fld .derrick 0x143 1 7 0 .rw 10 kUM with fit := .atLeast 1 }
def DRK_PEER_TO.PEER_TO : Field := { fld .derrick 0x144 1 7 0 .rw 5 kUM with fit := .atLeast 1 }
def DRK_SEG.SEG : Field := { fld .derrick 0x146 2 15 0 .rw 1400 kUM with fit := .range 256 8192 }
def DRK_PSEL.PEER : Field := fld .derrick 0x148 1 3 0 .rw 0 kM
def DRK_PEER.STATE : Field := fld .derrick 0x149 3 23 22 .ro 0 kNone
def DRK_PEER.EVT_EN : Field := { fld .derrick 0x149 3 21 21 .rw 0 kUM with img := true }
def DRK_PEER.POLL : Field := fld .derrick 0x149 3 20 20 .rw 0 kUM
def DRK_PEER.VER : Field := fld .derrick 0x149 3 15 8 .ro 0 kNone
def DRK_PEER.FEAT : Field := fld .derrick 0x149 3 7 4 .ro 0 kNone
def DRK_MAC.MAC : Field := { fld .derrick 0x150 6 47 0 .rw 0 kUM with img := true }
def DRK_PID.PID : Field := fld .derrick 0x1A0 16 127 0 .ro 0 kNone
def DRK_MSEL.IDX : Field := fld .derrick 0x160 2 10 0 .rw 0 kM
def DRK_MAP.EN : Field := { fld .derrick 0x164 4 31 31 .rw 0 kUM with img := true }
def DRK_MAP.LANES : Field := { fld .derrick 0x164 4 30 30 .rw 0 kUM with img := true }
def DRK_MAP.PREF : Field := { fld .derrick 0x164 4 29 29 .rw 0 kUM with img := true }
def DRK_MAP.MAP_BAD : Field := fld .derrick 0x164 4 28 28 .ro 0 kUM
def DRK_MAP.PEER : Field := { fld .derrick 0x164 4 27 24 .rw 0 kUM with img := true }
def DRK_MAP.RWIN : Field := { fld .derrick 0x164 4 11 0 .rw 0 kUM with img := true }
def DRK_MAP_INFO.RCLASS : Field := fld .derrick 0x168 3 23 8 .ro 0 kNone
def DRK_MAP_INFO.RINST : Field := fld .derrick 0x168 3 7 0 .ro 0 kNone
def DRK_STAT.PEER_LOST : Field := { fld .derrick 0x170 1 7 7 .w1c 0 kAON with sticky := true }
def DRK_STAT.REM_ERR : Field := { fld .derrick 0x170 1 6 6 .w1c 0 kAON with sticky := true }
def DRK_STAT.RSP_LOST : Field := { fld .derrick 0x170 1 5 5 .w1c 0 kAON with sticky := true }
def DRK_STAT.RX_DROP : Field := { fld .derrick 0x170 1 4 4 .w1c 0 kAON with sticky := true }
def DRK_STAT.VERSION : Field := { fld .derrick 0x170 1 3 3 .w1c 0 kAON with sticky := true }
def DRK_STAT.SPEC_REM : Field := { fld .derrick 0x170 1 2 2 .w1c 0 kAON with sticky := true }
def DRK_ERR_ADDR.PEER : Field := fld .derrick 0x171 4 31 28 .ro 0 kAON
def DRK_ERR_ADDR.KIND : Field := fld .derrick 0x171 4 27 24 .ro 0 kAON
def DRK_ERR_ADDR.ADDR : Field := fld .derrick 0x171 4 23 0 .ro 0 kAON
def DRK_PCHG.PCHG : Field := fld .derrick 0x176 2 15 0 .w1c 0 kM
def DRK_PSUM.SUM : Field := { fld .derrick 0x180 1 7 0 .ro 0 kNone with stride := 1, count := 16 }
def KMP_TX.COUNT : Field := fld .derrick 0x200 4 31 0 .tally 0 kUM
def KMP_RX.COUNT : Field := fld .derrick 0x204 4 31 0 .tally 0 kUM
def KMP_RESENT.COUNT : Field := fld .derrick 0x208 4 31 0 .tally 0 kUM
def KMP_RETRIES.COUNT : Field := fld .derrick 0x20C 4 31 0 .tally 0 kUM
def KMP_RX_DROP.COUNT : Field := fld .derrick 0x210 4 31 0 .tally 0 kUM
def KMP_FAILED.COUNT : Field := fld .derrick 0x214 4 31 0 .tally 0 kUM
def KMP_RSP_LOST.COUNT : Field := fld .derrick 0x218 4 31 0 .tally 0 kUM
def derrickFields0 : List Field :=
  [DRK_CFG.EN, DRK_CFG.TC, DRK_RD_TO.RD_TO, DRK_RETRY_GAP.GAP, DRK_POLL.POLL_MS, DRK_PEER_TO.PEER_TO, DRK_SEG.SEG, DRK_PSEL.PEER, DRK_PEER.STATE, DRK_PEER.EVT_EN, DRK_PEER.POLL, DRK_PEER.VER, DRK_PEER.FEAT, DRK_MAC.MAC, DRK_PID.PID, DRK_MSEL.IDX, DRK_MAP.EN, DRK_MAP.LANES, DRK_MAP.PREF, DRK_MAP.MAP_BAD, DRK_MAP.PEER, DRK_MAP.RWIN, DRK_MAP_INFO.RCLASS, DRK_MAP_INFO.RINST, DRK_STAT.PEER_LOST, DRK_STAT.REM_ERR, DRK_STAT.RSP_LOST, DRK_STAT.RX_DROP, DRK_STAT.VERSION, DRK_STAT.SPEC_REM, DRK_ERR_ADDR.PEER, DRK_ERR_ADDR.KIND, DRK_ERR_ADDR.ADDR, DRK_PCHG.PCHG, DRK_PSUM.SUM, KMP_TX.COUNT, KMP_RX.COUNT, KMP_RESENT.COUNT, KMP_RETRIES.COUNT, KMP_RX_DROP.COUNT]
def derrickFields1 : List Field :=
  [KMP_FAILED.COUNT, KMP_RSP_LOST.COUNT]
def derrickFields : List Field := derrickFields0 ++ derrickFields1

/-! Class `root` (cards of spec/20). -/

def SPOIL_POP.COUNT : Field := fld .root 0x140 1 7 0 .rs 0 kNone
def SPOIL_CNT.CNT : Field := { fld .root 0x142 2 10 0 .ro 0 kUM with live := true }
def SPOIL_REASON_SEL.REASON : Field := fld .root 0x144 1 7 0 .rw 0 kM
def SPOIL_VIEW.RECORD : Field := fld .root 0x150 16 127 0 .ro 0 kM
def SPOIL_OVERWRITTEN.COUNT : Field := fld .root 0x200 4 31 0 .tally 0 kUM
def SPOIL_REASON_CNT.COUNT : Field := fld .root 0x204 4 31 0 .tally 0 kUM
def TRB_POP.COUNT : Field := fld .root 0x160 1 7 0 .rs 0 kNone
def TRB_CNT.CNT : Field := fld .root 0x161 1 6 0 .ro 0 kAON
def TRB_VIEW.RECORD : Field := fld .root 0x168 8 63 0 .ro 0 kAON
def rootFields : List Field :=
  [SPOIL_POP.COUNT, SPOIL_CNT.CNT, SPOIL_REASON_SEL.REASON, SPOIL_VIEW.RECORD, SPOIL_OVERWRITTEN.COUNT, SPOIL_REASON_CNT.COUNT, TRB_POP.COUNT, TRB_CNT.CNT, TRB_VIEW.RECORD]

/-! Class `legacy` (cards of spec/21). -/

def XB_STAT.NOCFG : Field := fld .legacy 0x002 1 7 7 .ro 0 kNone
def XB_STAT.C2 : Field := fld .legacy 0x002 1 6 6 .ro 0 kNone
def XB_STAT.RST : Field := fld .legacy 0x002 1 5 5 .rc 1 kNone
def XB_STAT.SLOT_BUSY : Field := fld .legacy 0x002 1 4 4 .ro 0 kNone
def XB_STAT.THERM : Field := fld .legacy 0x002 1 3 3 .ro 0 kNone
def XB_CTRL.SRST : Field := fld .legacy 0x003 1 7 7 .cmd 0 kNone
def XB_CTRL.SLEEP : Field := fld .legacy 0x003 1 6 6 .cmd 0 kNone
def legacyFields : List Field :=
  [XB_STAT.NOCFG, XB_STAT.C2, XB_STAT.RST, XB_STAT.SLOT_BUSY, XB_STAT.THERM, XB_CTRL.SRST, XB_CTRL.SLEEP]

/-- The fields that the cards of a class give (R37: the fields common to every window are added by `fieldsAt`). -/
def classFields : Cls → List Field
  | .common => commonFields
  | .group => groupFields
  | .sup => supFields
  | .host => hostFields
  | .upd => updFields
  | .tables => tablesFields
  | .fabric => fabricFields
  | .stockpile => stockpileFields
  | .hopper => hopperFields
  | .ethGroup => ethGroupFields
  | .eth => ethFields
  | .l2 => l2Fields
  | .vlan => vlanFields
  | .seam => seamFields
  | .can => canFields
  | .cant => cantFields
  | .lin => linFields
  | .lint => lintFields
  | .route => routeFields
  | .dlist => dlistFields
  | .signal => signalFields
  | .pdu => pduFields
  | .se => seFields
  | .sieve => sieveFields
  | .canf => canfFields
  | .weigh => weighFields
  | .auth => authFields
  | .macsec => macsecFields
  | .engine => engineFields
  | .axis => axisFields
  | .axis0 => axis0Fields
  | .evp => evpFields
  | .stamp => stampFields
  | .channels => channelsFields
  | .channel => channelFields
  | .bridge => bridgeFields
  | .therm => thermFields
  | .ps => psFields
  | .inputs => inputsFields
  | .switch => switchFields
  | .analog => analogFields
  | .motion => motionFields
  | .wake => wakeFields
  | .pwr => pwrFields
  | .bist => bistFields
  | .ks => ksFields
  | .lc => lcFields
  | .tamper => tamperFields
  | .attest => attestFields
  | .debug => debugFields
  | .derrick => derrickFields
  | .root => rootFields
  | .legacy => legacyFields
  | .plain => []

end Sys2Proof.Machine
end

