-- ==== Sys2Proof/Machine/Windows.lean ====
section
/-! DEFINITION. The window map (R46), the tree of windows (R47), the register class of each window, and the static descriptor
facts (R37, R48, "Descriptor" in 01_unit_tree.md). -/

namespace Sys2Proof.Machine

/-- What the window map says of one window: class code, instance, parent window, die code of DESC_ID.DIE, and the register
cards it carries. -/
structure Unit where
  code : Nat
  inst : Nat
  parent : Nat
  die : Nat
  cls : Cls
  deriving DecidableEq, Repr

def dieGX : Nat := 0
def dieIX : Nat := 1
def diePS : Nat := 2
def dieGroup : Nat := 3

/-- A run of windows of one class: first window, how many, class code, parent window, die, register class. -/
structure WindowRun where
  first : Nat
  count : Nat
  code : Nat
  parent : Nat
  die : Nat
  cls : Cls

/-- The table of R46, in ascending window number. Runs whose parent depends on the instance (transceivers, half-bridges) have
their parent computed in `unitOf`. -/
def windowRuns : List WindowRun :=
  [ ⟨0x000, 1, 0x0001, 0x000, dieGroup, .root⟩, ⟨0x008, 1, 0x0002, 0x000, dieGX, .plain⟩,
    ⟨0x010, 1, 0x0010, 0x000, dieGroup, .fabric⟩, ⟨0x011, 1, 0x0011, 0x010, dieGX, .stockpile⟩,
    ⟨0x012, 1, 0x0012, 0x010, dieGX, .plain⟩, ⟨0x013, 2, 0x0013, 0x010, dieGX, .plain⟩,
    ⟨0x018, 1, 0x0014, 0x010, dieGroup, .tables⟩, ⟨0x019, 1, 0x0015, 0x018, dieGX, .l2⟩,
    ⟨0x01A, 1, 0x0016, 0x018, dieGX, .vlan⟩, ⟨0x01B, 1, 0x0017, 0x018, dieGX, .seam⟩,
    ⟨0x020, 1, 0x0018, 0x010, dieGroup, .plain⟩, ⟨0x021, 16, 0x0019, 0x020, dieGX, .hopper⟩,
    ⟨0x040, 1, 0x0020, 0x000, dieGroup, .ethGroup⟩, ⟨0x041, 16, 0x0021, 0x040, dieGX, .eth⟩,
    ⟨0x060, 1, 0x0030, 0x000, dieGroup, .plain⟩, ⟨0x061, 16, 0x0031, 0x060, dieGX, .can⟩,
    ⟨0x071, 16, 0x0032, 0x061, dieIX, .cant⟩, ⟨0x090, 1, 0x0038, 0x000, dieGroup, .plain⟩,
    ⟨0x091, 12, 0x0039, 0x090, dieGX, .lin⟩, ⟨0x0A1, 12, 0x003A, 0x091, dieIX, .lint⟩,
    ⟨0x0C0, 1, 0x0040, 0x000, dieGroup, .plain⟩, ⟨0x0C1, 1, 0x0041, 0x0C0, dieGX, .route⟩,
    ⟨0x0C2, 1, 0x0042, 0x0C0, dieGX, .dlist⟩, ⟨0x0C3, 1, 0x0043, 0x0C0, dieGX, .signal⟩,
    ⟨0x0C4, 1, 0x0044, 0x0C0, dieGX, .pdu⟩, ⟨0x0C5, 4, 0x0045, 0x0C0, dieGX, .se⟩ ] ++
  [ ⟨0x0E0, 1, 0x0050, 0x000, dieGroup, .plain⟩, ⟨0x0E1, 1, 0x0051, 0x0E0, dieGX, .sieve⟩,
    ⟨0x0E2, 1, 0x0052, 0x0E0, dieGX, .canf⟩, ⟨0x0E3, 1, 0x0053, 0x0E0, dieGX, .weigh⟩,
    ⟨0x0E4, 1, 0x0054, 0x0E0, dieGX, .auth⟩, ⟨0x0E5, 1, 0x0055, 0x0E0, dieGX, .macsec⟩,
    ⟨0x0E6, 6, 0x0056, 0x0E0, dieGX, .engine⟩, ⟨0x0EC, 4, 0x0057, 0x0E0, dieGX, .engine⟩,
    ⟨0x100, 1, 0x0060, 0x000, dieGroup, .plain⟩, ⟨0x101, 8, 0x0061, 0x100, dieGX, .axis⟩,
    ⟨0x109, 1, 0x0062, 0x100, dieGX, .evp⟩, ⟨0x10A, 1, 0x0063, 0x100, dieGX, .stamp⟩,
    ⟨0x200, 1, 0x0070, 0x000, dieGroup, .plain⟩, ⟨0x201, 1, 0x0071, 0x200, dieGroup, .channels⟩,
    ⟨0x202, 1, 0x0075, 0x200, dieGroup, .inputs⟩, ⟨0x203, 1, 0x0078, 0x200, dieIX, .therm⟩,
    ⟨0x210, 72, 0x0072, 0x201, dieIX, .channel⟩, ⟨0x260, 6, 0x0073, 0x201, dieGroup, .bridge⟩,
    ⟨0x268, 6, 0x0074, 0x200, dieIX, .motion⟩, ⟨0x280, 64, 0x0076, 0x202, dieIX, .switch⟩,
    ⟨0x2C0, 16, 0x0077, 0x202, dieIX, .analog⟩, ⟨0x2D0, 6, 0x0079, 0x203, diePS, .ps⟩ ] ++
  [ ⟨0x300, 1, 0x0080, 0x000, dieGroup, .plain⟩, ⟨0x301, 1, 0x0081, 0x300, dieGX, .pwr⟩,
    ⟨0x302, 1, 0x0082, 0x300, dieIX, .sup⟩, ⟨0x303, 1, 0x0083, 0x300, dieGX, .bist⟩,
    ⟨0x304, 1, 0x0084, 0x300, dieIX, .wake⟩, ⟨0x305, 1, 0x0085, 0x300, dieIX, .plain⟩,
    ⟨0x320, 1, 0x0090, 0x000, dieGroup, .plain⟩, ⟨0x321, 1, 0x0091, 0x320, dieGX, .ks⟩,
    ⟨0x322, 1, 0x0092, 0x320, dieIX, .lc⟩, ⟨0x323, 1, 0x0093, 0x320, dieGX, .attest⟩,
    ⟨0x324, 1, 0x0094, 0x320, dieGX, .debug⟩, ⟨0x325, 1, 0x0095, 0x320, dieIX, .tamper⟩,
    ⟨0x340, 1, 0x00A0, 0x000, dieGroup, .plain⟩, ⟨0x341, 1, 0x00A1, 0x340, dieGX, .upd⟩,
    ⟨0x342, 1, 0x00A2, 0x340, dieGX, .plain⟩, ⟨0x360, 1, 0x00B0, 0x000, dieGroup, .plain⟩,
    ⟨0x361, 1, 0x00B1, 0x360, dieGX, .host⟩, ⟨0x362, 1, 0x00B2, 0x360, dieGX, .derrick⟩ ]

/-- Instance numbers of IX-die channels in the half-bridges have their bridge as parent (R29, R46); a transceiver has its controller. -/
def parentOf (r : WindowRun) (i : Nat) : Nat :=
  if r.cls = .channel ∧ i < 12 then 0x260 + i / 2
  else if r.cls = .cant ∨ r.cls = .lint then r.parent + i
  else r.parent

/-- The unit a run gives a window, if the window lies in it. -/
def unitIn (w : Nat) (r : WindowRun) : Option Unit :=
  if r.first ≤ w ∧ w < r.first + r.count then
    some ⟨r.code, w - r.first, parentOf r (w - r.first), r.die,
      if r.cls = .axis ∧ w = r.first then .axis0 else r.cls⟩
  else none

/-- The fixed part of the window map; remote windows (0x800 to 0xFFF) are assigned only while mapped (R47). -/
def unitOf (w : Nat) : Option Unit := windowRuns.findSome? (unitIn w)

/-- The windows the map assigns, in ascending number. -/
def fixedWindows : List Nat := windowRuns.flatMap fun r => (List.range r.count).map (r.first + ·)

/-- GROUP of DESC_ID: the windows that carry the group registers. -/
def isGroup (w : Nat) : Bool := match unitOf w with
  | some u => u.die == dieGroup
  | none => false

/-- Direct children in ascending window number (R47). -/
def childrenOf (w : Nat) : List Nat :=
  fixedWindows.filter fun c => decide (c ≠ 0) && (match unitOf c with
    | some u => u.parent == w
    | none => false)

/-- Every window below a window, at most four levels (R41). -/
def descendantsOf (w : Nat) : List Nat :=
  let l1 := childrenOf w
  let l2 := l1.flatMap childrenOf
  let l3 := l2.flatMap childrenOf
  let l4 := l3.flatMap childrenOf
  l1 ++ l2 ++ l3 ++ l4

/-- The windows from a window's parent up to the root. -/
def ancestorsOf (w : Nat) : List Nat :=
  let up := fun v => match unitOf v with
    | some u => u.parent
    | none => 0
  let a := up w
  let b := up a
  let c := up b
  if w = 0 then [] else if a = 0 then [0] else if b = 0 then [a, 0] else if c = 0 then [a, b, 0] else [a, b, c, 0]

/-- FW of DESC_ID: the units that run firmware or microcode (R415). -/
def isFirmware (w : Nat) : Bool :=
  w == 0x008 || (0x013 ≤ w && w ≤ 0x014) || (0x041 ≤ w && w ≤ 0x050) || (0x061 ≤ w && w ≤ 0x070) ||
  (0x091 ≤ w && w ≤ 0x09C) || (0x0C5 ≤ w && w ≤ 0x0C8) || (0x0E6 ≤ w && w ≤ 0x0EF) || w == 0x341

/-- LEGACY of DESC_ID: the legacy resource set, CAN0 to CAN5 and LIN0 to LIN3 with their transceivers, CH12 to CH35 and SW0 to
SW31 (R464 and the table of R1). -/
def isLegacy (w : Nat) : Bool :=
  (0x061 ≤ w && w ≤ 0x066) || (0x071 ≤ w && w ≤ 0x076) || (0x091 ≤ w && w ≤ 0x094) || (0x0A1 ≤ w && w ≤ 0x0A4) ||
  (0x21C ≤ w && w ≤ 0x233) || (0x280 ≤ w && w ≤ 0x29F)

/-- DESC_IFV (R48). -/
def ifvOf (w : Nat) : Nat := match unitOf w with
  | some u => if u.cls = .eth ∨ u.cls = .channel then 0x0102
      else if u.cls = .can ∨ u.cls = .axis ∨ u.cls = .axis0 then 0x0101 else 0x0100
  | none => 0

/-- The register cards of a window: the common ones, the group ones, and its class's own. AX0 also carries the registers of
an axis, and SUP those of its two chapters. -/
def fieldsAt (w : Nat) : List Field :=
  match unitOf w with
  | none => []
  | some u => commonFields ++ (if u.die = dieGroup then groupFields else []) ++
      (if u.cls = .axis0 then axisFields else []) ++ classFields u.cls

/-! Windows by number of the unit. -/
def wRoot : Nat := 0x000
def wMP : Nat := 0x008
def wFabric : Nat := 0x010
def wStockpile : Nat := 0x011
def wTables : Nat := 0x018
def wL2 : Nat := 0x019
def wVlan : Nat := 0x01A
def wSeam : Nat := 0x01B
def wHop (p : Nat) : Nat := 0x021 + p
def wEthGroup : Nat := 0x040
def wEth (p : Nat) : Nat := 0x041 + p
def wCan (p : Nat) : Nat := 0x061 + p
def wCanT (p : Nat) : Nat := 0x071 + p
def wLin (p : Nat) : Nat := 0x091 + p
def wLinT (p : Nat) : Nat := 0x0A1 + p
def wRoute : Nat := 0x0C1
def wDlist : Nat := 0x0C2
def wSignal : Nat := 0x0C3
def wPdu : Nat := 0x0C4
def wSE (e : Nat) : Nat := 0x0C5 + e
def wSieve : Nat := 0x0E1
def wCanf : Nat := 0x0E2
def wWeigh : Nat := 0x0E3
def wAuth : Nat := 0x0E4
def wMacsec : Nat := 0x0E5
def wGcm (k : Nat) : Nat := 0x0E6 + k
def wCmac (k : Nat) : Nat := 0x0EC + k
def wAx (n : Nat) : Nat := 0x101 + n
def wEvp : Nat := 0x109
def wStamp : Nat := 0x10A
def wChannels : Nat := 0x201
def wInputs : Nat := 0x202
def wTherm : Nat := 0x203
def wCh (n : Nat) : Nat := 0x210 + n
def wHB (k : Nat) : Nat := 0x260 + k
def wME (k : Nat) : Nat := 0x268 + k
def wSW (n : Nat) : Nat := 0x280 + n
def wAN (n : Nat) : Nat := 0x2C0 + n
def wPS (k : Nat) : Nat := 0x2D0 + k
def wPwr : Nat := 0x301
def wSup : Nat := 0x302
def wBist : Nat := 0x303
def wWake : Nat := 0x304
def wKS : Nat := 0x321
def wLC : Nat := 0x322
def wAttest : Nat := 0x323
def wDebug : Nat := 0x324
def wTamper : Nat := 0x325
def wUpd : Nat := 0x341
def wHost : Nat := 0x361
def wDerrick : Nat := 0x362

/-- A number lies in a range, its ends included. -/
def inRange (lo hi n : Nat) : Bool := lo ≤ n && n ≤ hi

/-- What C1 holds off (R464). -/
def c1Off (w : Nat) : Bool :=
  inRange (wEth 0) (wEth 15) w || inRange (wCan 6) (wCan 15) w || inRange (wCanT 6) (wCanT 15) w ||
  inRange (wLin 4) (wLin 11) w || inRange (wLinT 4) (wLinT 11) w || inRange (wCh 0) (wCh 11) w || inRange (wCh 36) (wCh 71) w ||
  inRange (wHB 0) (wHB 5) w || inRange (wME 0) (wME 5) w || inRange (wSW 32) (wSW 63) w || inRange (wAN 0) (wAN 15) w

/-! ## The registers of a window -/

/-- The field, or the element of its array, when it has bits in the byte at an offset. -/
def Field.cover (f : Field) (ofs : Nat) : Option Field :=
  let i := if f.stride = 0 then 0 else (ofs - f.ofs) / f.stride
  let g := f.elem i
  let k := 8 * (g.ofs + g.len - 1 - ofs)
  if g.ofs ≤ ofs ∧ ofs < g.ofs + g.len ∧ i < f.count ∧ g.lo ≤ k + 7 ∧ k ≤ g.hi then some g else none

/-- Like `cover`, for the whole register: the byte is one of the register's bytes. -/
def Field.spans (f : Field) (ofs : Nat) : Option Field :=
  let i := if f.stride = 0 then 0 else (ofs - f.ofs) / f.stride
  let g := f.elem i
  if g.ofs ≤ ofs ∧ ofs < g.ofs + g.len ∧ i < f.count then some g else none

/-- The fields with bits in a byte. -/
def fieldsIn (w ofs : Nat) : List Field := (fieldsAt w).filterMap (·.cover ofs)

/-- The fields of the register a byte belongs to. -/
def regFields (w ofs : Nat) : List Field := (fieldsAt w).filterMap (·.spans ofs)

/-- First and last offset of that register: its widest card. -/
def regSpan (w ofs : Nat) : Nat × Nat :=
  match regFields w ofs with
  | [] => (ofs, ofs)
  | f :: _ => (f.ofs, f.ofs + f.len - 1)

end Sys2Proof.Machine
end

