-- ==== Sys2Proof/Machine/Units.lean ====
section
/-! DEFINITION. The state of the units that no register card shows: queues, holds, frames, staged deltas, work in progress. One
structure per chapter's unit; State puts them together. -/

namespace Sys2Proof.Machine

/-! ## 00, 01: holds and fan-out -/

/-- The store of one initiator in one window (R11, R12, R14): which value it was taken from (its register offset and selected
entry) and the value. -/
structure Hold where
  ofs : Nat
  idx : Nat
  val : Nat
  deriving DecidableEq, Repr

/-- A running fan-out (R42 to R44): its group, the initiator of the write, the offset and byte, the windows still to be written
and the windows reached so far. -/
structure Fanout where
  grp : Nat
  init : Nat
  ofs : Nat
  data : Nat
  todo : List Nat
  hits : Nat
  deriving DecidableEq, Repr

/-! ## 03: host port -/

/-- A write frame in the SPI write buffer (R93). -/
structure SpiWrite where
  addr : Nat
  fix : Bool
  data : List Nat
  deriving DecidableEq, Repr

/-- The delayed read of the SPI face (R95). `done` is none until the read is performed, then some of its data; a read that met a
violation holds no data. -/
structure DelayedRead where
  addr : Nat
  fix : Bool
  len : Nat
  done : Option (Option (List Nat))
  deriving DecidableEq, Repr

/-- A fetched host ring descriptor (R100 to R102): its index and the host address of its entry. -/
structure Desc where
  idx : Nat
  entry : Nat
  buf : Nat
  len : Nat
  sop : Bool
  eop : Bool
  tsreq : Bool
  tag : Nat
  data : List Nat
  deriving DecidableEq, Repr

/-- A frame of a transmit ring on its way through the fabric: its descriptors, the frame it became, how that ended, and whether the ring has
been started anew since, so that HEAD no longer counts its entries. -/
structure RingFrame where
  fid : Nat
  descs : List Desc
  outcome : Option Nat        -- how the frame ended: disposition * 256 + reason
  stale : Bool
  deriving DecidableEq, Repr

/-- The host port's own state: SPI face, PCIe function, MSI-X, rings. -/
structure HostSt where
  spiBuf : List SpiWrite      -- at most 4 (R93)
  spiPrev : Nat               -- PREV status byte
  spiPend : Bool              -- the last frame was a write that still waits in the buffer
  delayed : Option DelayedRead
  perst : Bool                -- PCIE_PERST_N is low
  busMaster : Bool            -- bus mastering on
  msixOn : Bool               -- MSI-X enabled
  msixTab : Tab Nat           -- the 64 MSI-X table entries, by byte offset
  pba : Nat                   -- pending-bit array
  txDesc : Tab (List Desc)    -- fetched descriptors of transmit ring r, oldest first
  rxDesc : Tab (List Desc)    -- fetched descriptors of receive ring r
  txFrames : Tab (List RingFrame) -- frames of ring r not yet written back
  doneIdx : Tab (List Nat)    -- indices written back and not yet passed by HEAD, ring r at r (transmit) and 16 + r (receive)
  imodRun : Tab Bool          -- an interrupt moderation interval runs
  imodHit : Tab Bool          -- a writeback fell in it
  launch : Tab RingFrame      -- launch slot of ring r (R310)
  legacyRead : Option (Nat × Nat) -- held read result of the legacy framing: address, data (R465)
  deriving DecidableEq, Repr

/-! ## 04: configuration image and Benches -/

/-- The configuration load (R114 to R118). `stage` is how far the start has come: 0 GX just released, 1 the memories are ready, 2 the
flash has stepped up and the firmware runs, 3 a slot is selected, 4 to 6 the phases 1 to 3 are installed, 7 UNCONFIGURED. `image`
holds the sections of the active image for UNIT reloads, in the order in which they were installed; `sects` those of the image
that is being loaded. -/
structure CfgSt where
  badA : Bool                 -- AON slot record
  badB : Bool
  stage : Nat
  sects : List ImgSection
  image : List ImgSection
  header : List Nat           -- header of the active image
  bare : Bool                 -- the active image is a bare XB16 image
  subsys : Nat                -- PCIe subsystem identifiers
  ptpSlaves : Nat             -- Ethernet ports that the image makes gPTP slaves, bit n ETHn (R301)
  ptpMasters : Nat            -- those that it makes masters
  deriving DecidableEq, Repr

/-- One entry of the overflow list (R122): table window, entry number, staging order. Its content stands in the next Bench's
store, which no frame reads before the table switches. -/
structure OvfEntry where
  win : Nat
  idx : Nat
  order : Nat
  deriving DecidableEq, Repr

/-- What a commit is doing (R123, R125). -/
inductive CommitPhase where
  | idle
  | drain
  | reclaim
  | splitDrain
  | split
  deriving DecidableEq, Repr

/-- The Benches: the two generations of every benched entry (indexed as registers of the entry views), the staged delta, the
overflow list, and the commit in progress. -/
structure BenchSt where
  bank0 : Tab Nat
  bank1 : Tab Nat
  touched : List Nat          -- entries the delta changes: idx * 4096 + window
  ovf : List OvfEntry
  stageCnt : Nat              -- staging writes accepted in this delta
  lease : Bool                -- the staging lock's lease runs
  phase : CommitPhase
  switched : List Nat         -- table windows already switched in a split commit
  holdOn : Bool               -- this split has flow hold, and HOLD_LIM has not run out in it
  deletions : List Nat        -- deferred deletions of paired tables
  viewBuf : Tab Nat           -- write buffers of the entry views, by register key of the view
  deriving DecidableEq, Repr

/-! ## 05: fabric -/

/-- What a CAN frame carries beside its data. fmt: 0 classical, 1 FD, 2 XL. `dlc` is the length a remote frame names (R204). -/
structure CanHdr where
  fmt : Nat
  dlc : Nat
  ide : Bool
  id : Nat
  rtr : Bool
  brs : Bool
  esi : Bool
  sdt : Nat
  vcid : Nat
  sec : Bool
  af : Nat
  deriving DecidableEq, Repr

/-- A frame in the Stockpile (R132, R134). `fid` is the model's own number of it, from which its
handle is drawn (Config.firstCell). -/
structure Frame where
  fid : Nat
  cells : Nat
  src : Nat                   -- source port code (R101)
  data : List Nat
  stampSec : Nat
  stampNs : Nat
  can : Option CanHdr
  lin : Option Nat
  pduBuild : Bool             -- a PDU build (R454)
  isOpen : Bool               -- its last byte has not arrived (cut-through, R139)
  len : Nat                   -- bytes of an Ethernet frame as received, destination address through FCS (R264)
  ecc : Bool                  -- one of its cells has an uncorrectable error (R136)
  refs : Nat
  last : Nat                  -- how its last reference ended: disposition * 256 + reason
  deriving DecidableEq, Repr

/-- How an Ethernet copy of a PDU build is put together (R250): the template's bytes and type, the PDU header's identifier where HDR is
1, and the IPv4 identification. -/
structure Wrap where
  tmpl : List Nat
  ty : Nat
  pduId : Option Nat
  ident : Nat
  deriving DecidableEq, Repr

/-- What a copy carries for a transmit stamp (R315): the owner and TAG its entry gets, and whether the copy asks for one itself. -/
structure StampAsk where
  owner : Nat
  tag : Nat
  asks : Bool
  deriving DecidableEq, Repr

/-- A copy of a frame for one destination, from stage 7 on (R149): an entry of a Hopper class, of a CAN transmit queue, of a LIN
buffer or of a receive ring's queue. `data` are the bytes to send after the rewrite of stage 8 up to AUTH and MACsec. -/
structure Copy where
  cid : Nat
  fid : Nat
  dest : Nat                  -- destination port code
  src : Nat                   -- source port code
  tc : Nat
  cells : Nat
  data : List Nat
  can : Option CanHdr
  linId : Nat                 -- identifier of a copy for a LIN port
  outCtx : Nat                -- append context of AUTH, 0: none or done
  wrap : Option Wrap          -- an Ethernet copy of a PDU build
  pdu : List Nat              -- its PDU, to which AUTH appends
  ct : Bool                   -- cut-through (R138)
  sealed : Bool               -- MACsec has done its part (R288)
  mirror : Bool
  pduBuild : Bool
  stamp : Option StampAsk     -- of a copy from a host ring or from MP (R315)
  evt : Bool                  -- launched by the event pool (R310)
  inSlot : Bool               -- in the reserved head slot of its class (R310)
  enq : Nat                   -- clock count at enqueue
  ingressBad : Bool           -- a cut-through frame's ingress ended in error (R141)
  ovr : Bool                 -- passed over for lack of time in this gate opening (R145)
  passed : Nat                -- gate openings in a row at which it was passed over
  untimed : Bool              -- STAMP_WAIT ended with the stamp queue full: sent without a stamp (R317)
  deriving DecidableEq, Repr

/-- Where a frame between stage 1 and stage 7 stands. -/
inductive PipeStage where
  | held                      -- flow hold: has not entered stage 2 (R126)
  | atFilter                  -- about to enter stage 2
  | atVerify                  -- waits at stage 5 for AUTH
  | atCut                     -- classified while its last byte has not arrived (R139)
  deriving DecidableEq, Repr

/-- What the lookup of stage 4 found for an item (R181, R182, R229). -/
inductive Plan where
  | none
  | route (i : Nat)
  | dlist (i : Nat)
  | ports (l : List Nat)
  deriving DecidableEq, Repr

/-- A frame in stages 2 to 6. `gen` is the Bench it sampled; the rest is what earlier stages decided. -/
structure PipeItem where
  fid : Nat
  stage : PipeStage
  gen : Nat
  data : List Nat             -- the frame's bytes from its first, without FCS
  plan : Plan
  tc : Option Nat             -- class that stands over the destination's (R263)
  ydei : Bool                 -- yellow under YDEI 1 (R266)
  frerGen : Option Nat        -- sequence number for an R-TAG (R151)
  frerCut : Bool              -- the arriving R-TAG is to be removed (R152)
  vid : Nat                   -- VID of R181 step 1, 0 for a CAN or LIN item
  strip : Nat                 -- bytes AUTH takes off the end of the copies (R279)
  secured : Bool              -- verified at stage 5
  routed : Bool               -- routed by the Seam
  inCtx : Nat                 -- verify context of the route, 0: none
  cand : Option Nat           -- its MAC is good under this freshness value, which a ceiling write must reach before it goes on (R281)
  ring : Option Nat           -- transmit ring of a host frame
  ringTc : Nat                -- class of that ring
  ask : Option StampAsk       -- TAG and TSREQ of a transmit descriptor (R315)
  evt : Bool                  -- released by the event pool
  made : Bool                 -- its copies have been made while it was open
  ready : List Copy           -- copies that wait for stage 7: for the threshold of R139, or for the frame's last byte
  deriving DecidableEq, Repr

/-- A sequence recovery function's state (R152): the sequence number taken last as newest, and the history bits below it. -/
structure FrerRec where
  seq : Nat
  hist : Nat
  deriving DecidableEq, Repr

/-- Stockpile, pipeline, Hoppers and FRER functions. Hopper stores are indexed by port * 8 + class, readers by port. -/
structure FabSt where
  frames : List Frame
  nextFid : Nat
  nextCid : Nat
  pipe : List PipeItem
  queues : Tab (List Copy)
  reader : Tab Copy           -- the copy in transmission on port n
  credit : Tab Int            -- credit of a shaped class, in millionths of a bit
  creditClk : Tab Nat         -- clock count at which the port's credits were last brought up to date
  backPress : Tab Bool        -- classes held by the stamp miss ring (R317)
  frerGen : Tab Nat
  frerRec : Tab FrerRec
  appendQ : List Nat          -- copies that wait for AUTH at stage 8, in the order in which they reached it
  ringQ : Tab (List Copy)     -- copies waiting for receive ring r, oldest first
  appendWait : List Copy      -- copies for LIN ports and receive rings that wait for AUTH at stage 8
  handed : List Nat           -- frames handed to Derrick or the stamp unit and not yet taken, oldest first (R172)
  retired : Nat
  deriving DecidableEq, Repr

/-! ## 06: Ethernet ports -/

/-- An MDIO transaction (R161, R162). `list` marks a write of the image's list (R163). -/
structure Mdio where
  port : Nat
  wr : Bool
  list : Bool
  c45 : Bool
  phyad : Nat
  devad : Nat
  reg : Nat
  data : Nat
  deriving DecidableEq, Repr

/-- Where a port in SLEEP_REQ stands: it drains its Hopper, or its sleep request (or acknowledge) is out. -/
inductive SleepStep where
  | none
  | drain
  | requested
  | acked
  deriving DecidableEq, Repr

/-- A frame in reception: its frame in the Stockpile, none when it has already ended, and the bytes that have arrived, with 4 for the FCS. The
frame itself holds at most MAX_FRAME of them (R171). -/
structure RxOpen where
  fid : Option Nat
  len : Nat
  deriving DecidableEq, Repr

/-- The Ethernet ports' pins, buses and sleep handshakes. -/
structure EthSt where
  rstLow : Tab Bool           -- ETHn_PHY_RST_N driven low, n = 0 to 5
  phyHold : Tab Bool          -- DISABLED or SLEEPING holds the pin low (R159)
  pulse : Tab Bool            -- a PHY_RESET pulse runs
  sleep : Tab SleepStep
  linkTo : Tab Bool           -- the LINK_TO timer runs
  rxOpen : Tab RxOpen         -- the frame in reception
  mdioList : Tab (List Mdio)  -- writes of a port's image list not yet done (R163)
  bus0 : List Mdio            -- MDC0/MDIO0, the first in progress
  bus1 : List Mdio
  deriving DecidableEq, Repr

/-! ## 07: tables -/

/-- One way of the L2 table (R185 to R190). `tag` is the Bench tag of R120. -/
structure L2Way where
  bucket : Nat
  fid : Nat
  mac : Nat
  static : Bool
  act : Bool
  h : Nat
  tag : Nat
  dropMove : Bool
  dlist : Bool
  dest : Nat
  deriving DecidableEq, Repr

/-- One prefix of the Seam's prefix store (R197 to R199). -/
structure Prefix where
  v6 : Bool
  plen : Nat
  addr : Nat
  tag : Nat
  route : Nat
  deriving DecidableEq, Repr

/-- A request of the learn-pending queue (R189). -/
structure LearnReq where
  fid : Nat
  mac : Nat
  port : Nat
  deriving DecidableEq, Repr

/-- The L2 table, the learn queue, the ager's pending removals and the Seam's prefix store. A command of L2_CMD or SEAM_CMD that
runs has its RESULT waiting. -/
structure TableSt where
  l2 : List L2Way
  learnQ : List LearnReq
  removals : List L2Way       -- conditional removals not yet committed (R193)
  l2Run : Option Nat          -- the RESULT of the L2_CMD operation that runs
  prefixes : List Prefix
  seamRun : Option Nat        -- the RESULT of the SEAM_CMD that runs
  l2Ovf : List L2Way          -- content of the overflow list's static entries
  pfxOvf : List Prefix        -- content of the overflow list's prefixes
  standing : List Prefix      -- prefixes that are gone, whose nodes stand until the reclaim of a commit (R199)
  deriving DecidableEq, Repr

/-! ## 10, 11: guard group -/

/-- The two buckets of a policer in 10^-9 tokens, and the time in nanoseconds of its last update (R265). A policer without one has full
buckets. -/
structure Bucket where
  tc : Nat
  te : Nat
  at_ : Nat
  deriving DecidableEq, Repr

/-- What AON keeps of a freshness value: the record of L and its ceiling (R281). -/
structure AonFv where
  fv : Nat
  ceil : Nat
  deriving DecidableEq, Repr

/-- A write of a secure channel, or of association a of a channel (R285). -/
inductive SecyWrite where
  | sc (k v : Nat)
  | sa (k a v : Nat)
  deriving DecidableEq, Repr

/-- The live state of the guard group. Channel stores are indexed by channel, association stores by channel * 2 + association. -/
structure GuardSt where
  bucket : Tab Bucket
  wbFull : Nat                -- since when, in nanoseconds, a policer without a bucket has been full
  aonFv : Tab AonFv           -- by context
  ceilPend : List Nat         -- contexts whose background ceiling write runs
  started : List Nat          -- contexts that have been valid before: they continue from their record
  secySwitch : Tab Bool       -- a SWITCH waits for the frame boundary
  pnLow : Tab Bool            -- PN_LOW has been given once for the association
  pnSpent : List Nat          -- transmit associations that have no PN left
  secyPend : List SecyWrite   -- channel and association writes that wait for a frame boundary (R285)
  deriving DecidableEq, Repr

/-! ## 09: gateway -/

/-- An extraction on its engine's queue (R232, R248): its PDU from the secured PDU's start, the signals, the Bench it sampled, and whether
the engine is the item's only destination. -/
structure Extract where
  fid : Nat
  data : List Nat
  first : Nat
  count : Nat
  gen : Nat
  only : Bool
  deriving DecidableEq, Repr

/-- What waits on an engine's extraction queue: a PDU, or a report of a body unit for one signal entry. -/
inductive EngineWork where
  | pdu (x : Extract)
  | report (entry : Nat) (v : Nat)
  deriving DecidableEq, Repr

/-- A body unit's last report to a signal entry: the value, and the clock count (R245). -/
structure Report where
  val : Nat
  clk : Nat
  deriving DecidableEq, Repr

/-- A sink command on its way over the die link (R246): function, unit, value. -/
structure SinkCmd where
  fn : Nat
  unit : Nat
  val : Int
  deriving DecidableEq, Repr

/-- The gateway's live state. -/
structure GwSt where
  exq : Tab (List EngineWork) -- by engine, oldest first
  bq : Tab (List Nat)         -- PDU entries that wait for a build, by engine
  served : Tab Nat            -- what the engine served last: 1 an extraction queue item, 2 a build
  stored : List Nat           -- signals stored since their PDU's previous build: PDU entry * 65536 + signal entry
  pend : List Nat             -- PDU entries with PEND
  mdtRun : List Nat           -- PDU entries whose MDT timer runs
  repRun : List Nat           -- PDU entries whose repeat timer runs
  repLeft : Tab Nat
  sendCmd : Option Nat        -- the entry of a SEND whose build is neither enqueued nor skipped
  tmplSeq : Tab Nat           -- NTSCF sequence counter of a template
  ipIdent : Tab Nat           -- IPv4 identification counter of a template
  sinkQ : List SinkCmd        -- oldest first
  due : Tab Nat               -- clock count at which a waiting build fell due, by PDU entry
  reported : Tab Report       -- what a body unit last reported to a signal entry (R245)
  deriving DecidableEq, Repr

/-! ## 02, 16: pins, supply, power -/

/-- The power states of R380; RUN and PARTIAL are told apart by the wake unit's networks. -/
inductive PowerState where
  | run | partialRun | park | deepPark | backup | off
  deriving DecidableEq, Repr

/-- The levels of the pins of 02 and the supervisor's view of GX. -/
structure PinSt where
  rstLow : Bool               -- RST_N is low
  bor : Bool                  -- VBAT_PERM is in BOR (R67)
  pwrEn : Bool                -- GX_PWR_EN
  pgood : Bool                -- GX_PGOOD
  gxRun : Bool                -- GX is out of reset
  heartbeat : Bool            -- the GX heartbeat is healthy
  attempts : Nat              -- failed power-up attempts in a row (R70)
  offTime : Bool              -- the off time of R72 runs
  startWanted : Bool          -- a start is wanted when the off time ends
  irqLow : Bool               -- IRQ_N is driven low
  sfdpDone : Bool             -- the NVM controller has stepped up (R108)
  flashMode : Nat             -- 0: 1S-1S-1S 25 MHz, 1: 1S-8S-8S 100 MHz, 2: 8D 100 MHz, 3: 8D 200 MHz
  deriving DecidableEq, Repr

/-- Power states, park entry and self-test (16). The `aon` fields are the copies of step 3 of R383. -/
structure PwrSt where
  state : PowerState
  entryStep : Option Nat      -- the step of R383 in progress, none: no park entry runs
  tampered : Bool
  cause : Nat                 -- KIND the next start records
  wdogCause : Nat
  aonDeep : Bool
  aonBist : Bool
  aonDeepAfter : Nat
  dlyRun : Bool               -- PARK_DLY runs
  memDone : Bool              -- the memory self-test is done
  ixDone : Bool               -- the IX logic self-test is done
  fenced : List Nat           -- fenced table entries: idx * 4096 + window (R393)
  mpRun : Bool                -- MP executes
  modeDue : Bool              -- a sample of the MODE strap is due (R59)
  repairs : List (Nat × Nat × Nat) -- repair records in AON: memory, word address, failing bit (R388, R391)
  ixFail : Bool               -- result of the IX logic self-test, until the next start reports it
  gxFail : Bool               -- the same of the GX logic self-test
  found : List (Nat × Nat × Nat) -- what the memory self-test has found, until step 9
  exact : Bool                -- the freshness records hold exact values (R282)
  wakeClk : Nat               -- clock count at the wake edge of the present start (R389)
  wdFirst : Bool              -- MP's watchdog has expired once and MP has not kicked it since (R460)
  mode : Nat                  -- 0 native, 1 C1, 2 C2 (R1)
  heldMode : Option Nat       -- the mode an image has set since the last SOFT, PIN, BOR or POR reset (R1)
  deriving DecidableEq, Repr

/-! ## 12: network time -/

/-- AX0: 48-bit seconds, nanoseconds, and the fraction of a nanosecond in units of 2^-32 ns; the slew still to be made, in the
same units (R300). -/
structure Ax0St where
  sec : Nat
  ns : Nat
  frac : Nat
  slew : Int
  ixSec : Nat                 -- the copy of AX0 on IX (R313)
  ixNs : Nat
  deriving DecidableEq, Repr

/-- An axis AX1 to AX7 beside its registers (R297, R298). Positions are in 2^-16 units, speeds in 2^-16 units/s, moments in cycles of 8 ns. -/
structure AxisSt where
  pm : Int                    -- last measured position, or the position at EN for SRC 4
  tm : Nat                    -- when it was measured
  speed : Int
  shown : Int                 -- the position shown when the last measured update came
  count : Nat                 -- measured updates since EN
  lastD : Int                 -- the last difference
  edges : Int                 -- encoder edges since EN
  updated : Bool              -- a measured update that the event pool has not evaluated
  lost : Bool                 -- the source unit is in OFF or SAFE
  deriving DecidableEq, Repr

/-- An armed event (R303): its target T, in axis units or in nanoseconds of AX0, its side, and whether its action has been sent to IX in
advance (R311). -/
structure ArmedEv where
  target : Int
  below : Bool
  timed : Bool
  deriving DecidableEq, Repr

/-- An action that has been fired and waits to be issued, one per 8 ns (R307). -/
structure EvAct where
  ev : Nat
  act : Nat
  target : Nat
  arg : Nat
  deriving DecidableEq, Repr

/-- The event pool: armed events by number, and the fired actions in the order of their issue. -/
structure EvpSt where
  armed : Tab ArmedEv
  queue : List EvAct
  deriving DecidableEq, Repr

/-- An entry of a transmit stamp queue or a record of the miss ring (R316, R318). -/
structure StampRec where
  port : Nat
  kind : Nat
  owner : Nat
  tag : Nat
  time : Nat
  deriving DecidableEq, Repr

/-- The stamp unit. -/
structure StampSt where
  txq : Tab (List StampRec)   -- by port, oldest first, at most 32
  miss : List StampRec        -- oldest first, at most 256
  waiting : Tab Nat           -- clock count since which a class waits for a queue entry, by port * 8 + class
  deriving DecidableEq, Repr

/-! ## Outputs -/

/-- What the block sends out: bytes on the host faces, frames on the ports, accesses to host memory, messages to peers,
levels on pins. -/
inductive Output where
  | spi (miso : List Nat)
  | completion (tag : Nat) (ok : Bool) (data : List Nat)
  | readData (init : Nat) (data : List Nat)
  | msix (vec : Nat)
  | hostMem (addr : Nat) (data : List Nat)
  | ethFrame (port : Nat) (octets : List Nat) (badCheck : Bool)   -- preamble to FCS (R174)
  | ethEcho (port : Nat) (x : EthRx)                              -- received symbols go back (R177)
  | ethLine (port : Nat) (what : Nat)
  | canFrame (port : Nat) (hdr : CanHdr) (data : List Nat)
  | linHeader (port : Nat) (pid : Nat)
  | linResponse (port : Nat) (data : List Nat) (sum : Nat)
  | linWake (port : Nat)
  | mdio (port : Nat) (frames : List (List Bool))                 -- the bits that the module drives (R161)
  | kmp (peer : Nat) (kind : Nat) (body : List Nat)
  | channel (n : Nat) (on : Bool)
  | bridge (k : Nat) (switches : Nat)
  | wakeIo (on : Bool)
  | canWake (port : Nat)
  | flash (ofs : Nat) (data : List Nat)
  | xb (data : List Nat)
  deriving DecidableEq, Repr

/-! ## 20: faults -/

/-- The Spoil log and the trouble log: records as the values of R457 and R453, oldest first. -/
structure FaultSt where
  spoil : List Nat
  trouble : List Nat
  starts : Nat                -- the start counter (R453)
  deriving DecidableEq, Repr

/-! ## 13, 14: channels, bridges, thermal governor, inputs, motion engines -/

/-- A load channel beside its registers: the duty, phase and period in force since its last period start, and its runs of samples. -/
structure ChanSt where
  duty : Nat
  phase : Nat
  period : Nat
  low : Nat                   -- samples in a row below OLON (R330)
  good : Nat
  onSince : Nat               -- clock count at the last entry to ON: the inrush window starts there
  started : Option Nat        -- clock count at the last period start since that entry
  testing : Bool              -- the test resistor is connected (R329)
  hot : Bool                  -- the thermal latch (R327)
  deriving DecidableEq, Repr

/-- A power-stage die: the model temperature in millionths of a degree, the loss in 10^-12 W, and for how many updates in a row
the conditions of R334 have held. -/
structure DieSt where
  temp : Int
  loss : Nat
  ovr : Nat
  calm : Nat
  deriving DecidableEq, Repr

/-- A motion command (R352). -/
inductive MeCmd where
  | stop
  | move (target : Int)
  | park
  | run (mode : Nat)
  | sweep
  deriving DecidableEq, Repr

/-- A motion engine beside its registers. -/
structure MeSt where
  cmd : Option MeCmd          -- the running command
  pend : Option MeCmd         -- waits for the end of BRAKE
  result : Nat                -- what the running command ends with
  ms : Nat                    -- milliseconds of drive since the entry to DRIVE or REVERSE
  target : Nat                -- target duty
  ramped : Bool               -- the ramp is over: a command of the same direction took over (R352)
  volt : Nat                  -- last measured supply of the die in mV
  samples : List (Nat × Nat)  -- current and speed of each millisecond since the entry to DRIVE
  revBrake : Bool             -- REVERSE brakes before it drives
  revFrom : Int               -- position at the start of the reverse drive
  left : Bool                 -- a sweep has left its park position
  coast : Bool                -- tracking goes on after the drive
  deriving DecidableEq, Repr

/-- A switch input: samples in a row that read the opposite level, its reference in cyclic sensing, differing cycles in a row, and
whether cyclic sensing arms it. -/
structure SwSt where
  run : Nat
  ref : Bool
  diff : Nat
  armed : Bool
  deriving DecidableEq, Repr

/-- An analog input: the conversions of its mean, newest first. -/
structure AnSt where
  conv : List Nat
  deriving DecidableEq, Repr

/-- The body: channels, bridges, dies, motion engines and inputs. A bridge's switches are the six bits of
modeSwitches. -/
structure BodySt where
  chan : Tab ChanSt
  hbSwitch : Tab Nat          -- the switches the bridge uses now
  hbDead : Tab Bool           -- the dead time of a mode change runs
  hbForced : Tab Bool         -- protection holds the bridge FREE (R326)
  hbSample : Tab Nat          -- last bridge current in mA
  die : Tab DieSt
  me : Tab MeSt
  sw : Tab SwSt
  an : Tab AnSt
  holdRun : Bool              -- the hold timer runs (R336)
  deriving DecidableEq, Repr

/-! ## 08: CAN and LIN ports -/

/-- What a CAN controller offers or sends: a copy of its transmit queue, or a send object. -/
inductive CanCand where
  | copy (cid : Nat)
  | obj (k : Nat)
  deriving DecidableEq, Repr

/-- The CAN controllers beside their registers. The content of object k of port p is kept in the registers of the object view under
entry k + 1; stores of objects are indexed by port * 128 + k. -/
structure CanSt where
  txq : Tab (List Copy)       -- transmit queue, oldest first
  sending : Tab CanCand       -- the frame in transmission
  objSeq : Tab Nat            -- arrival number of a pending send object, in one order with the copies
  objEnq : Tab Nat            -- clock count at SEND
  abortReq : Tab Bool         -- ABORT came while the object was in transmission (R217)
  objFmt : Tab Nat            -- format of the frame an object holds, where the object accepts any
  fastOn : Tab Bool           -- the transceiver is in FAST mode
  xlRef : Tab Nat             -- frame an object holds a reference to, by port * 129 + k + 1; the view's own at port * 129
  fifo : Tab (List Nat)       -- objects that hold an element of FIFO n, oldest first, by port * 2 + n
  fault : Tab Nat             -- transceiver faults that hold the transmitter off: bit 0 TXD_DOM, 1 THERM, 2 UV
  deriving DecidableEq, Repr

/-- A LIN slot in progress: its identifier, whether it is event-triggered, whether the master sends the response or one is expected,
whether the buffer still holds what is being sent, and how it stands (0 open, else the LAST code of its outcome). -/
structure LinSlot where
  id : Nat
  event : Bool
  sends : Bool
  expects : Bool
  same : Bool
  outcome : Nat
  deriving DecidableEq, Repr

/-- The LIN masters beside their registers. Stores of identifiers are indexed by port * 64 + identifier. -/
structure LinSt where
  owner : Tab Copy            -- the copy whose data the buffer holds unsent
  pendTab : Tab Nat           -- the table of a pending switch
  collTab : Tab Nat           -- the running collision table
  saved : Tab Nat             -- the entry to resume at after the collision table
  slot : Tab LinSlot
  sleepDue : Tab Bool         -- the go-to-sleep command is due at the end of the slot
  fault : Tab Nat             -- bit 0 TXD_DOM, 1 THERM
  deriving DecidableEq, Repr

/-! ## 15: sleep and wake -/

/-- The wake unit beside its registers. Lists name networks 0 to 43, clusters 0 to 23 or CAN ports. -/
structure WakeSt where
  pncHold : List Nat          -- clusters whose hold runs
  netHold : List Nat          -- networks whose own hold runs
  delay : List Nat            -- networks whose DELAY in READY runs
  late : List Nat             -- networks with a request latched during their switch (R367)
  ring : List Nat             -- CAN ports whose ring is not OFF
  sleepInd : Tab Nat          -- addresses that sent SLEEP_IND 1 since the module's previous ring message, by CAN port
  tTyp : List Nat             -- CAN ports whose T_TYP runs
  ackDue : List Nat           -- CAN ports whose next ring message carries SLEEP_ACK
  limpInd : List Nat          -- rings in LIMP that sent LIMPHOME with SLEEP_IND 1 and heard no SLEEP_IND 0 since
  alive : List Nat            -- CAN ports with an ALIVE message to send
  linWake : List Nat          -- LIN ports between their wake-up signal and the restart
  wioPulse : Bool             -- the module pulses WAKE_IO
  wioOut : Bool               -- the pin is driven
  wioEnd : Option Nat         -- clock count at the end of the last drive of WAKE_IO
  deriving DecidableEq, Repr

/-! ## 17: trust -/

/-- A trust operation that runs (R401): its OP, the message as GO found it, and the result its checks gave. -/
structure TrustRun where
  op : Nat
  msg : List Nat
  result : Nat
  deriving DecidableEq, Repr

/-- One copy of a key blob in the trust area (R404): its bytes. -/
abbrev Blob := List Nat

/-- The trust group beside its registers. KS_ATTR, KS_VER and the shadow states of slot s are kept in their registers under entry s. -/
structure TrustSt where
  otp : Nat                   -- highest complete OTP row: 0 none (BLANK), 1 MAKE, 2 FIELD, 3 RETURN, 4 SCRAP (R397)
  service : Bool              -- the AON flag of SERVICE
  digests : List Nat          -- the 24 authority digests of OTP, none in BLANK
  roots : Tab Nat             -- root secrets of the installed roots
  identity : Bool             -- the identity key pair is in the trust area
  keys : Tab Nat              -- working keys, by slot
  shadow : Tab Nat            -- bytes in the shadow of a slot, by slot * 64 + offset
  shKey : Tab Nat             -- the key a VERIFIED shadow holds
  shOwner : Tab Nat           -- initiator that holds the shadow's lease
  blobRec : Tab Nat           -- trust-area offset that section 0x0070 names for a slot
  blobs : Tab Blob            -- blob copies in the trust area, by offset * 2 + copy
  persist : Option Nat        -- slot of a PERSIST that runs
  mirror : Nat                -- HSS index mirror in flash
  hssGen : Nat                -- which HSS key: seeds made so far
  buf : Tab Nat               -- the trust message buffer
  run : Option TrustRun
  unwrapping : List Nat       -- slots whose shadow is being unwrapped
  session : Bool              -- a debug session with a time limit runs
  sessEnd : Nat               -- clock count at which it ends
  aonLost : Bool              -- AON was lost while the HSS state was READY, and GX has not started since (R410)
  deriving DecidableEq, Repr

/-! ## 18: firmware update -/

/-- One image of a firmware set's directory (R417). -/
structure FwImage where
  ty : Nat
  version : Nat
  ofs : Nat
  len : Nat
  sha : Nat
  deriving DecidableEq, Repr

/-- A firmware set as its header and directory describe it (R417). -/
structure FwSet where
  raise : Bool
  svn : Nat
  seq : Nat
  images : List FwImage
  deriving DecidableEq, Repr

/-- The image of a TYPE that runs, and the bank it came from (R416). -/
structure Running where
  bank : Nat
  version : Nat
  sha : Nat
  deriving DecidableEq, Repr

/-- An update block as it reaches UPD (R418), with the port it came in on, none for the legacy update window. -/
structure UpdBlock where
  port : Option Nat
  stream : Nat
  blk : Nat
  kind : Nat
  data : List Nat
  crc : Nat
  deriving DecidableEq, Repr

/-- A forwarded block: how often it has been sent (0: it waits its turn), and when last. -/
structure FwdBlock where
  block : UpdBlock
  sends : Nat
  sentAt : Nat
  deriving DecidableEq, Repr

/-- A step of the activation sequence (R422) for one unit of it: FS, a GCM, CMAC or signal engine, the CAN and LIN shadow stores, the DSP
of a port, MP, the configuration image. -/
inductive ActStep where
  | fs
  | gcm (k : Nat)
  | cmac (k : Nat)
  | se (k : Nat)
  | canLin (types : List Nat)
  | phy (p : Nat)
  | mp
  | cfg
  deriving DecidableEq, Repr

/-- The update group. `todo` holds the running activation or fallback, the step in progress first. -/
structure UpdSt where
  bankA : Option FwSet        -- the set each bank of the flash holds
  bankB : Option FwSet
  badA : Bool                 -- a failed trial bank
  badB : Bool
  running : Tab Running       -- by TYPE
  portBank : Tab Nat          -- bank of a port's DSP
  recovery : List Nat         -- windows of units in ROM recovery
  inbox : List UpdBlock       -- blocks received and not yet handled, oldest first
  stream : Nat                -- the stream of a staging area that is not IDLE
  kind : Nat
  stored : Nat                -- its data blocks stored
  head : List Nat             -- the data of its block 0
  fwd : List FwdBlock         -- blocks for the downstream port, oldest first
  dead : List Nat             -- streams given up
  passed : Tab Nat            -- by stream: the block up to which every block before it is stored or was forwarded only
  acks : List (Nat × Nat × Nat) -- acknowledgements not yet handled: port, stream, block
  todo : List ActStep
  ran : List ActStep          -- the steps of the last activation that have ended
  reverse : Bool              -- a fallback runs
  newImage : Option SlotImage -- the new image, while its activation waits for BUSY to fall
  trialBank : Nat
  formerSlot : Nat            -- UPD_CFG_STAT.SLOT before the activation
  startSlot : Nat             -- the slot that starts take before any other after a fallback, 0 none
  built : List Nat            -- PDU entries that have built since the MP restart
  seEnd : Tab Nat             -- clock count at which an engine's reload ended
  deriving DecidableEq, Repr

/-! ## 19: Derrick -/

/-- A KMP frame of a lane or a HELLO, KEEPALIVE (R429), without what the sending adds: acknowledgements. -/
structure KmpFrame where
  ty : Nat
  seq : Nat
  flags : Nat
  tag : Nat
  fence : Nat
  body : List Nat
  deriving DecidableEq, Repr

/-- A lane of a peer (R430): next sequence number to send and to receive, the frames sent and not acknowledged with their resends, the
frames that wait to be sent. -/
structure Lane where
  tx : Nat
  rx : Nat
  out : List (KmpFrame × Nat)
  wait : List KmpFrame
  deriving DecidableEq, Repr

/-- An inbound read in its buffer entry (R444). -/
structure InRead where
  tag : Nat
  origin : Nat
  spec : Bool
  addr : Nat
  len : Nat
  fence : Nat
  deriving DecidableEq, Repr

/-- What an outbound read is for: a read frame of the SPI face, a frame whose lease has expired, a PCIe request with its tag and the lane
rule of its window (R439), a read by MP, a poll, the fetch of a remote window's descriptor. -/
inductive ReadFor where
  | spi
  | lost
  | pcie (tag : Nat) (rev : Bool)
  | mp
  | poll
  | map (i : Nat)
  deriving DecidableEq, Repr

/-- An outbound read in its tracker (R444, R445). `sent` is false while it waits for the gap after a RETRY; `addr` is at the peer, and
`want` and `wantLen` are the bytes of it that the face asked for, where a prefetchable window widened it; `pre` are the bytes of the
access that lie in the descriptor, which is served locally. -/
structure OutRead where
  why : ReadFor
  peer : Nat
  tag : Nat
  origin : Nat
  win : Nat
  addr : Nat
  len : Nat
  want : Nat
  wantLen : Nat
  pre : List Nat
  spec : Bool
  sent : Bool
  began : Nat
  deriving DecidableEq, Repr

/-- A block of a prefetchable window held for its origin (R441). -/
structure Prefetched where
  win : Nat
  origin : Nat
  addr : Nat
  data : List Nat
  since : Nat
  deriving DecidableEq, Repr

/-- A peer beside its registers (R428 to R448). -/
structure Peer where
  p : Lane
  c : Lane
  r : Lane
  fence : Nat                 -- SEQ of the last WRITE plus 1
  owes : Bool                 -- a received frame has not been acknowledged
  upAt : Nat                  -- clock count at the entry to UP
  sa : Nat
  maxSeg : Nat
  partBlock : List Nat        -- the update block in reception
  partLen : Nat
  evtLast : Nat               -- the root summary last sent
  inReads : List InRead       -- accepted and not yet performed, oldest first
  deriving DecidableEq, Repr

/-- Derrick. Remote windows are numbered from 0 (window 0x800). -/
structure DrkSt where
  peers : Tab Peer
  reads : List OutRead        -- at most 16
  readQ : List OutRead        -- reads that wait for a tracker, oldest first
  nextTag : Nat
  held : List Prefetched
  desc : Tab (List Nat)       -- the first 32 bytes of a remote window as last fetched
  found : List Nat            -- remote windows whose fetch found a unit, since their peer came UP
  fetchQ : List Nat           -- remote windows whose fetch waits for a tracker
  deriving DecidableEq, Repr

/-! ## 21: compatibility mode -/

/-- The legacy personality (R465 to R477). Counter groups: CAN port p is group p, LIN port i group 16 + i. -/
structure LegSt where
  framing : Bool              -- the SPI face carries the legacy framing
  ready : Bool
  err : Bool
  busy : Bool
  irq : Nat                   -- XB_IRQ
  irqEn : Nat
  slots : Tab Nat             -- bytes of the route slots, by slot * 16 + byte
  commit : Option Nat         -- the route slot whose commit runs
  boxes : Tab Nat             -- the mailbox copies, by port * 256 + mailbox * 16 + byte
  ctr : Tab Nat               -- counters, by group * 4 + counter
  snap : Tab Nat              -- the last snapshot of a group, its 8 bytes as one value
  timing : Tab Nat            -- BRP, T1, T2, SJW of a CAN port, by port * 4
  duty : Tab Nat              -- the last D written to OUT_DUTYn
  upd : List Nat              -- the bytes of the update block in the window
  updAck : Nat
  deriving DecidableEq, Repr

end Sys2Proof.Machine
end

