-- ==== Sys2Proof/Machine/Resets.lean ====
section
/-! DEFINITION. The reset value of every unit structure: queues empty, nothing in progress. -/

namespace Sys2Proof.Machine

def HostSt.reset : HostSt :=
  { spiBuf := [], spiPrev := 0x3C, spiPend := false, delayed := none, perst := false, busMaster := false, msixOn := false,
    msixTab := [], pba := 0, txDesc := [], rxDesc := [], txFrames := [], doneIdx := [], imodRun := [],
    imodHit := [], launch := [], legacyRead := none }

def CfgSt.reset : CfgSt :=
  { badA := false, badB := false, stage := 0, sects := [], image := [], header := [], bare := false, subsys := 0,
    ptpSlaves := 0, ptpMasters := 0 }

def BenchSt.reset : BenchSt :=
  { bank0 := [], bank1 := [], touched := [], ovf := [], stageCnt := 0, lease := false, phase := .idle, switched := [],
    holdOn := false, deletions := [], viewBuf := [] }

def FabSt.reset : FabSt :=
  { frames := [], nextFid := 1, nextCid := 1, pipe := [], queues := [], reader := [], credit := [], creditClk := [],
    backPress := [], frerGen := [], frerRec := [], appendQ := [], ringQ := [], appendWait := [], handed := [], retired := 0 }

def EthSt.reset : EthSt :=
  { rstLow := [(0, true), (1, true), (2, true), (3, true), (4, true), (5, true)], phyHold := [], pulse := [], sleep := [], linkTo := [], rxOpen := [], mdioList := [], bus0 := [], bus1 := [] }

def TableSt.reset : TableSt :=
  { l2 := [], learnQ := [], removals := [], l2Run := none, prefixes := [], seamRun := none, l2Ovf := [], pfxOvf := [], standing := [] }

/-- After POR: no BOR, GX_PWR_EN just raised, GX unpowered and in reset, XTAL and rails not yet up. -/
def PinSt.reset : PinSt :=
  { rstLow := false, bor := false, pwrEn := true, pgood := false, gxRun := false, heartbeat := false, attempts := 0,
    offTime := false, startWanted := false, irqLow := false, sfdpDone := false, flashMode := 0 }

def PwrSt.reset : PwrSt :=
  { state := .run, entryStep := none, tampered := false, cause := 0, wdogCause := 0, aonDeep := false, aonBist := false,
    aonDeepAfter := 0, dlyRun := false, memDone := false, ixDone := false, fenced := [], mpRun := false, modeDue := true,
    repairs := [], ixFail := false, gxFail := false, found := [], exact := false, wakeClk := 0, wdFirst := false, mode := 0,
    heldMode := none }

def Ax0St.reset : Ax0St := { sec := 0, ns := 0, frac := 0, slew := 0, ixSec := 0, ixNs := 0 }

def AxisSt.reset : AxisSt :=
  { pm := 0, tm := 0, speed := 0, shown := 0, count := 0, lastD := 0, edges := 0, updated := false, lost := false }

def EvpSt.reset : EvpSt := { armed := [], queue := [] }

def FaultSt.reset : FaultSt := { spoil := [], trouble := [], starts := 0 }

def ChanSt.reset : ChanSt :=
  { duty := 0, phase := 0, period := 0, low := 0, good := 0, onSince := 0, started := none, testing := false, hot := false }

/-- The model starts at 25 °C, the reference of R322's on-resistances; the slug's readings then lead it. -/
def DieSt.reset : DieSt := { temp := 25000000, loss := 0, ovr := 0, calm := 0 }

def MeSt.reset : MeSt :=
  { cmd := none, pend := none, result := 0, ms := 0, target := 0, ramped := false, volt := 13500, samples := [], revBrake := false, revFrom := 0,
    left := false, coast := false }

def SwSt.reset : SwSt := { run := 0, ref := false, diff := 0, armed := false }

def AnSt.reset : AnSt := { conv := [] }

def BodySt.reset : BodySt :=
  { chan := [], hbSwitch := [], hbDead := [], hbForced := [], hbSample := [], die := [], me := [], sw := [], an := [],
    holdRun := false }

def CanSt.reset : CanSt :=
  { txq := [], sending := [], objSeq := [], objEnq := [], abortReq := [], objFmt := [], fastOn := [], xlRef := [], fifo := [], fault := [] }

def LinSt.reset : LinSt :=
  { owner := [], pendTab := [], collTab := [], saved := [], slot := [], sleepDue := [], fault := [] }

def WakeSt.reset : WakeSt :=
  { pncHold := [], netHold := [], delay := [], late := [], ring := [], sleepInd := [], tTyp := [], ackDue := [], limpInd := [],
    alive := [], linWake := [], wioPulse := false, wioOut := false, wioEnd := none }

def GuardSt.reset : GuardSt :=
  { bucket := [], wbFull := 0, aonFv := [], ceilPend := [], started := [], secySwitch := [], pnLow := [], pnSpent := [], secyPend := [] }

def GwSt.reset : GwSt :=
  { exq := [], bq := [], served := [], stored := [], pend := [], mdtRun := [], repRun := [], repLeft := [], sendCmd := none, tmplSeq := [],
    ipIdent := [], sinkQ := [], due := [], reported := [] }

def StampSt.reset : StampSt := { txq := [], miss := [], waiting := [] }

/-- As delivered: no OTP row programmed, no root installed, the trust area empty. -/
def TrustSt.reset : TrustSt :=
  { otp := 0, service := false, digests := [], roots := [], identity := false, keys := [], shadow := [], shKey := [], shOwner := [],
    blobRec := [], blobs := [], persist := none, mirror := 0, hssGen := 0, buf := [], run := none, unwrapping := [],
    session := false, sessEnd := 0, aonLost := false }

/-- As delivered: no firmware set in either bank. -/
def UpdSt.reset : UpdSt :=
  { bankA := none, bankB := none, badA := false, badB := false, running := [], portBank := [], recovery := [], inbox := [], stream := 0,
    kind := 0, stored := 0, head := [], fwd := [], dead := [], passed := [], acks := [], todo := [], ran := [], reverse := false, newImage := none, trialBank := 0,
    formerSlot := 0, startSlot := 0, built := [], seEnd := [] }

def Lane.reset : Lane := { tx := 0, rx := 0, out := [], wait := [] }

def Peer.reset : Peer :=
  { p := Lane.reset, c := Lane.reset, r := Lane.reset, fence := 0, owes := false, upAt := 0, sa := 0, maxSeg := 0, partBlock := [], partLen := 0,
    evtLast := 0, inReads := [] }

def DrkSt.reset : DrkSt := { peers := [], reads := [], readQ := [], nextTag := 0, held := [], desc := [], found := [], fetchQ := [] }

def LegSt.reset : LegSt :=
  { framing := false, ready := false, err := false, busy := false, irq := 0, irqEn := 0, slots := [], commit := none, boxes := [],
    ctr := [], snap := [], timing := [], duty := [], upd := [], updAck := 0 }

end Sys2Proof.Machine
end

