-- ==== Sys2Proof/Machine/State.lean ====
section
/-! DEFINITION. The state of the block: every register field of every window, what the units hold beside their registers, and
the queue of waiting commands. State.reset is the block right after a power-on reset. -/

namespace Sys2Proof.Machine

/-- Why the block stops. No command of the spec stops this block: every command is either performed, refused by the block with a
record in its own registers, or left without effect. The type has one constructor so that it is not empty. -/
inductive Fault where
  /-- Raised by nothing: no meaning answers a fault. Safe. -/
  | stopped
  deriving DecidableEq, Repr

/-- Why a command has no meaning. -/
inductive Refusal where
  /-- Raised only by an arm of `exec` whose command has no meaning yet. Safe: nothing can be proved of a run through it. -/
  | notModelled (mnemonic : String)
  deriving DecidableEq, Repr

/-- The state. -/
structure State where
  /-- the register fields of every window, keyed by selected entry, window, offset and lowest bit; an unlisted field reads as its card's reset value -/
  regs : Tab Nat
  /-- the bytes held for a wide register until its highest-address byte is written (R496), by window * 4096 + offset -/
  wbuf : Tab Nat
  /-- the parity groups whose odd-parity bit disagrees with their data (R82), by window * 512 + group -/
  parity : List Nat
  /-- the hold of each initiator and window (R11, R14), by initiator code * 4096 + window -/
  holds : Tab Hold
  /-- the fan-outs that run, at most one for each group (R42) -/
  fans : List Fanout
  /-- the host port (03) -/
  host : HostSt
  /-- the configuration load (04) -/
  cfg : CfgSt
  /-- the Benches and the staged delta (04) -/
  bench : BenchSt
  /-- Stockpile, pipeline, Hoppers, FRER (05) -/
  fab : FabSt
  /-- Ethernet ports (06) -/
  eth : EthSt
  /-- L2 table and Seam (07) -/
  tbl : TableSt
  /-- Spoil log and trouble log (20) -/
  flt : FaultSt
  /-- the network time axis (12) -/
  ax0 : Ax0St
  /-- pins, supply and GX power sequencing (02) -/
  pins : PinSt
  /-- power states and park entry (16) -/
  pwr : PwrSt
  /-- channels, bridges, thermal governor, inputs and motion engines (13, 14) -/
  body : BodySt
  /-- CAN controllers and transceivers (08) -/
  can : CanSt
  /-- LIN masters and transceivers (08) -/
  lin : LinSt
  /-- network sleep and wake (15) -/
  wake : WakeSt
  /-- policers, AUTH and MACsec (10, 11) -/
  guard : GuardSt
  /-- signals, PDU assembly and signal engines (09) -/
  gw : GwSt
  /-- keys, life cycle, trust messages and debug (17) -/
  trust : TrustSt
  /-- the stamp unit (12) -/
  stamps : StampSt
  /-- the axes AX1 to AX7 by number (12) -/
  axes : Tab AxisSt
  /-- the event pool (12) -/
  evp : EvpSt
  /-- the update group (18) -/
  upd : UpdSt
  /-- Derrick (19) -/
  drk : DrkSt
  /-- the legacy personality (21) -/
  leg : LegSt
  /-- cycles of 8 ns since power-on: the model's own clock, which only an idle step advances -/
  clk : Nat
  /-- the model's own counter of free values drawn -/
  draws : Nat
  /-- what the block sent out during the last command, oldest first: the model's own record of its outputs -/
  outs : List Output
  /-- the commands that wait, first in, first out -/
  pending : List Instr
  deriving DecidableEq, Repr

/-- The block right after a power-on reset: every register at its card's reset value, every queue empty. -/
def State.reset : State where
  regs := []
  wbuf := []
  parity := []
  holds := []
  fans := []
  host := HostSt.reset
  cfg := CfgSt.reset
  bench := BenchSt.reset
  fab := FabSt.reset
  eth := EthSt.reset
  tbl := TableSt.reset
  flt := FaultSt.reset
  ax0 := Ax0St.reset
  pins := PinSt.reset
  pwr := PwrSt.reset
  body := BodySt.reset
  can := CanSt.reset
  lin := LinSt.reset
  wake := WakeSt.reset
  guard := GuardSt.reset
  gw := GwSt.reset
  trust := TrustSt.reset
  stamps := StampSt.reset
  axes := []
  evp := EvpSt.reset
  upd := UpdSt.reset
  drk := DrkSt.reset
  leg := LegSt.reset
  clk := 0
  draws := 0
  outs := []
  pending := []

/-! One setter per field. -/
def State.setRegs (s : State) (v : Tab Nat) : State := { s with regs := v }
def State.setWbuf (s : State) (v : Tab Nat) : State := { s with wbuf := v }
def State.setParity (s : State) (v : List Nat) : State := { s with parity := v }
def State.setHolds (s : State) (v : Tab Hold) : State := { s with holds := v }
def State.setFans (s : State) (v : List Fanout) : State := { s with fans := v }
def State.setHost (s : State) (v : HostSt) : State := { s with host := v }
def State.setCfg (s : State) (v : CfgSt) : State := { s with cfg := v }
def State.setBench (s : State) (v : BenchSt) : State := { s with bench := v }
def State.setFab (s : State) (v : FabSt) : State := { s with fab := v }
def State.setEth (s : State) (v : EthSt) : State := { s with eth := v }
def State.setTbl (s : State) (v : TableSt) : State := { s with tbl := v }
def State.setFlt (s : State) (v : FaultSt) : State := { s with flt := v }
def State.setAx0 (s : State) (v : Ax0St) : State := { s with ax0 := v }
def State.setPins (s : State) (v : PinSt) : State := { s with pins := v }
def State.setPwr (s : State) (v : PwrSt) : State := { s with pwr := v }
def State.setBody (s : State) (v : BodySt) : State := { s with body := v }
def State.setCan (s : State) (v : CanSt) : State := { s with can := v }
def State.setLin (s : State) (v : LinSt) : State := { s with lin := v }
def State.setWake (s : State) (v : WakeSt) : State := { s with wake := v }
def State.setGuard (s : State) (v : GuardSt) : State := { s with guard := v }
def State.setGw (s : State) (v : GwSt) : State := { s with gw := v }
def State.setTrust (s : State) (v : TrustSt) : State := { s with trust := v }
def State.setStamps (s : State) (v : StampSt) : State := { s with stamps := v }
def State.setAxes (s : State) (v : Tab AxisSt) : State := { s with axes := v }
def State.setEvp (s : State) (v : EvpSt) : State := { s with evp := v }
def State.setUpd (s : State) (v : UpdSt) : State := { s with upd := v }
def State.setDrk (s : State) (v : DrkSt) : State := { s with drk := v }
def State.setLeg (s : State) (v : LegSt) : State := { s with leg := v }
def State.setClk (s : State) (v : Nat) : State := { s with clk := v }
def State.setDraws (s : State) (v : Nat) : State := { s with draws := v }
def State.setOuts (s : State) (v : List Output) : State := { s with outs := v }
def State.setPending (s : State) (v : List Instr) : State := { s with pending := v }

end Sys2Proof.Machine
end

