-- ==== Sys2Proof/Machine/Ops.lean ====
section
/-! DEFINITION. The named operations every meaning is written over: reading and writing a register field, tallies, sticky bits, unit
events and interrupts, faults and violations, dispositions and the Spoil log, outputs. -/

namespace Sys2Proof.Machine

/-- What a command's meaning answers. -/
abbrev Result := Host.Outcome State Fault Refusal

/-! ## Register fields -/

/-- The stored value of a field of window w, of entry i for a view. -/
def State.rd (s : State) (w : Nat) (f : Field) (i : Nat := 0) : Nat := look s.regs (f.key w i) f.reset

/-- Stores a field; the value is cut to the field's width. -/
def State.wr (s : State) (w : Nat) (f : Field) (v : Nat) (i : Nat := 0) : State :=
  s.setRegs (store s.regs (f.key w i) (v % 2 ^ f.width) f.reset)

/-- A one-bit field reads 1. -/
def State.on (s : State) (w : Nat) (f : Field) (i : Nat := 0) : Bool := s.rd w f i == 1

/-- The legacy counter that an event of a native tally counts in (R470): group * 4 + counter, where CAN port p has group p and LIN port i
group 16 + i. -/
def legacyCounter (w : Nat) (f : Field) : Option Nat :=
  if wCan 0 ≤ w ∧ w < wCan 6 then
    let g := 4 * (w - wCan 0)
    if f = CAN_RX_OK.COUNT then some g else if f = CAN_TX_OK.COUNT then some (g + 1)
    else if f = CAN_RX_ERR.COUNT ∨ f = CAN_TX_ERR.COUNT then some (g + 2)
    else if f = CAN_OBJ_LOST.COUNT ∨ f = CAN_TX_DROPS.COUNT then some (g + 3) else none
  else if wLin 0 ≤ w ∧ w < wLin 4 then
    let g := 64 + 4 * (w - wLin 0)
    if f = LIN_HEADERS.COUNT then some g else if f = LIN_RX_OK.COUNT then some (g + 1)
    else if f = LIN_NORESP.COUNT ∨ f = LIN_CSUM.COUNT ∨ f = LIN_BITERR.COUNT ∨ f = LIN_FRAMING.COUNT then some (g + 2)
    else if f = LIN_DROPS.COUNT then some (g + 3) else none
  else none

/-- A legacy counter wraps from 0xFFFF to 0x0000 (R470). -/
def State.legacyCount (s : State) (w : Nat) (f : Field) (n : Nat) : State :=
  if s.pwr.mode = 0 then s
  else match legacyCounter w f with
    | none => s
    | some k => s.setLeg { s.leg with ctr := store s.leg.ctr k ((look s.leg.ctr k 0 + n) % 65536) 0 }

/-- Counts n in a tally, which stays at its all-ones value (R13). -/
def State.count (s : State) (w : Nat) (f : Field) (i : Nat := 0) (n : Nat := 1) : State :=
  (s.wr w f (satAdd (s.rd w f i) n f.width) i).legacyCount w f n

/-- The outputs of a command are those it makes itself. -/
def fresh (s : State) : State := s.setOuts []

def State.emit (s : State) (o : Output) : State := s.setOuts (s.outs ++ [o])

/-- The next free value of the model, and the state that has drawn it. -/
def State.draw (s : State) : BitVec 64 × State := (Config.freeValue s.draws, s.setDraws (s.draws + 1))

/-- DESC_STATE of a window. -/
def State.unitState (s : State) (w : Nat) : Nat := s.rd w DESC_STATE.STATE

def usOff : Nat := 0
def usHeld : Nat := 1
def usLoading : Nat := 2
def usReady : Nat := 3
def usSafe : Nat := 4
def usRecovery : Nat := 5

/-- The unit does not act on its RW fields in SAFE (R85). -/
def State.isSafe (s : State) (w : Nat) : Bool := s.unitState w == usSafe

def State.gxOn (s : State) : Bool := s.pins.gxRun

/-- The unit is in ROM recovery and does no work of its kind (R423). -/
def State.inRom (s : State) (w : Nat) : Bool := s.upd.recovery.contains w

/-- This step of an activation or a fallback is in progress (R422). -/
def State.activating (s : State) (x : ActStep) : Bool := s.upd.todo.head? == some x

/-! ## Interrupts (R104 to R106, R497) -/

def State.irqPending (s : State) (w : Nat) : Bool :=
  (s.rd w UNIT_IRQ_PEND.TROUBLE * 128 + s.rd w UNIT_IRQ_PEND.EV) &&& s.rd w UNIT_IRQ_EN.EN != 0

/-- The mask bit of a vector: bit 0 of the last doubleword of its MSI-X table entry; an untouched entry is masked, as a PCIe
function's is after reset. -/
def State.vecMasked (s : State) (v : Nat) : Bool := bit (look s.host.msixTab (16 * v + 12) 1) 0

/-- The host can be sent a message: bus mastering on, the link up, the function out of reset. -/
def State.canSend (s : State) : Bool := s.host.busMaster && s.on wHost HOST_PCIE_LINK.UP && !s.host.perst

/-- Sends the MSI-X message of a vector once, or sets its pending bit (R104, R105). With MSI-X disabled there is nothing to send; the
rule for enabling it covers what is then pending. -/
def State.sendVec (s : State) (v : Nat) : State :=
  if !s.gxOn || !s.host.msixOn || s.host.perst then s
  else if s.canSend && !s.vecMasked v then s.emit (.msix v)
  else s.setHost { s.host with pba := setBit s.host.pba v }

/-- XB_IRQ AND XB_IRQ_EN is not 0 (R475). -/
def State.legacyIrq (s : State) : Bool := s.pwr.mode != 0 && s.leg.irq &&& s.leg.irqEn != 0

/-- Any window routed to the pin is pending, or any ring whose PIN is 1 has IRQ set (R106), or a legacy source (R475). -/
def State.pinWanted (s : State) : Bool :=
  s.gxOn && (s.legacyIrq || fixedWindows.any (fun w => s.on w UNIT_IRQ_ROUTE.PIN && s.irqPending w) ||
    (List.range 16).any (fun r =>
      (s.on wHost (HOST_TX_VEC.PIN.elem r) && s.on wHost (HOST_TX_STAT.IRQ.elem r)) ||
      (s.on wHost (HOST_RX_VEC.PIN.elem r) && s.on wHost (HOST_RX_STAT.IRQ.elem r))))

def State.driveIrq (s : State) : State := s.setPins { s.pins with irqLow := true }

/-- What follows a change of a window's interrupt registers: a rise from zero sends the vector and drives the pin. -/
def State.irqRise (s : State) (w : Nat) (before : Bool) : State :=
  if before || !s.irqPending w then s
  else
    let s := s.sendVec (s.rd w UNIT_IRQ_ROUTE.VEC)
    if s.gxOn && s.on w UNIT_IRQ_ROUTE.PIN then s.driveIrq else s

/-- The bit of XB_IRQ that a unit event of a legacy resource sets (R467). -/
def legacyIrqBit (w k : Nat) : Option Nat :=
  if wCan 0 ≤ w ∧ w < wCan 6 then (if k = 0 then some 0 else if k = 4 ∨ k = 5 then some 1 else none)
  else if wLin 0 ≤ w ∧ w < wLin 4 then (if k = 1 then some 2 else none)
  else if wCh 12 ≤ w ∧ w < wCh 36 then (if k = 0 then some 3 else none)
  else if wSW 0 ≤ w ∧ w < wSW 32 then (if k = 0 then some 4 else none)
  else none

def State.legacyEvent (s : State) (w k : Nat) : State :=
  match legacyIrqBit w k with
  | none => s
  | some b =>
    if s.pwr.mode = 0 then s
    else
      let s := s.setLeg { s.leg with irq := setBit s.leg.irq b }
      if s.gxOn && s.legacyIrq then s.driveIrq else s

/-- Raises unit event k of a window. -/
def State.event (s : State) (w k : Nat) : State :=
  ((s.wr w UNIT_IRQ_PEND.EV (setBit (s.rd w UNIT_IRQ_PEND.EV) k)).irqRise w (s.irqPending w)).legacyEvent w k

/-- Sets a sticky trouble bit; TROUBLE rises with it when it was 0 (UNIT_IRQ_PEND card). -/
def State.sticky (s : State) (w : Nat) (f : Field) (i : Nat := 0) : State :=
  if s.on w f i then s
  else ((s.wr w f 1 i).wr w UNIT_IRQ_PEND.TROUBLE 1).irqRise w (s.irqPending w)

/-! ## Faults and violations (R84, R87, R452, R453) -/

/-- Writes a trouble-log record: 64 records, a new one overwrites the oldest (R453). -/
def State.troubleRecord (s : State) (cls win ofs : Nat) : State :=
  let r := cls * 2 ^ 60 + win * 2 ^ 48 + ofs * 2 ^ 36 + s.flt.starts % 4096 * 2 ^ 24 +
    (if s.gxOn then s.ax0.sec % 2 ^ 24 else 0)
  let l := s.flt.trouble ++ [r]
  (s.setFlt { s.flt with trouble := if 64 < l.length then l.drop 1 else l }).event wRoot 1

/-- Records a fault of a unit in FAULT_ADDR; a further one sets OVR (R84, FAULT_ADDR card). Only a new record enters the trouble
log. -/
def State.recordFault (s : State) (w cause ofs cls : Nat) : State :=
  if s.rd w FAULT_ADDR.CAUSE = 0 then
    ((s.wr w FAULT_ADDR.CAUSE cause).wr w FAULT_ADDR.OFS ofs).troubleRecord cls w ofs
  else s.wr w FAULT_ADDR.OVR 1

/-- The violation kinds of R87. -/
inductive Kind where
  | lifecycle | privilege | locked | commitBusy | cmdBusy | fanoutBusy | partition | state | shape
  deriving DecidableEq, Repr

def Kind.code : Kind → Nat
  | .lifecycle => 1
  | .privilege => 2
  | .locked => 3
  | .commitBusy => 4
  | .cmdBusy => 5
  | .fanoutBusy => 6
  | .partition => 7
  | .state => 8
  | .shape => 9


/-! Initiator codes (R88). -/
def initSpi : Nat := 0x01
def initPcie : Nat := 0x02
def initMp : Nat := 0x03
def initJtag : Nat := 0x04
def initPeer (p : Nat) : Nat := 0x10 + p

end Sys2Proof.Machine

namespace Sys2Proof

/-- The code of an initiator (R88). -/
def Initiator.code : Initiator → Nat
  | .spi => Machine.initSpi
  | .pcie => Machine.initPcie
  | .mp => Machine.initMp
  | .jtag => Machine.initJtag
  | .peer p => Machine.initPeer p.val

end Sys2Proof

namespace Sys2Proof.Machine

/-- Records an access violation in the addressed window (R87): VIOL, VIOL_ADDR or its OVR, and the trouble log. -/
def State.violate (s : State) (w init : Nat) (k : Kind) (isWrite : Bool) (addr data : Nat) : State :=
  let s := s.sticky w UNIT_STICKY.VIOL
  if s.rd w VIOL_ADDR.INIT = 0 then
    let s := s.wr w VIOL_ADDR.ADDR addr
    let s := s.wr w VIOL_ADDR.INIT init
    let s := s.wr w VIOL_ADDR.KIND k.code
    let s := s.wr w VIOL_ADDR.WR (b2n isWrite)
    let s := s.wr w VIOL_ADDR.WDATA (if isWrite then data else 0)
    s.troubleRecord 6 w (addr % 4096)
  else s.wr w VIOL_ADDR.OVR 1

/-- The window of the unit behind a lease holder that is an initiator (R458). -/
def holderWindow (init : Nat) : Nat :=
  if init = initMp then wMP else if init = initSpi ∨ init = initPcie then wHost
  else if init = initJtag then wDebug else wDerrick

/-- What the revocation of a lease records in the holder's window (R458). -/
def State.leaseRevoked (s : State) (w : Nat) : State := (s.sticky w UNIT_STICKY.LEASE).recordFault w 3 0 4

/-! ## Dispositions (R154, R454 to R457) -/

/-- Where an item ends. -/
inductive Disp where
  | delivered | untimed | dropped | failed
  deriving DecidableEq, Repr

def Disp.code : Disp → Nat
  | .delivered => 0
  | .untimed => 1
  | .dropped => 2
  | .failed => 3

/-- The item kinds of the Spoil log (R457). -/
inductive Item where
  | frame | pduBuild | canObject | linCopy | descriptor | access | event | updBlock | kmpFrame | remote
  deriving DecidableEq, Repr

def Item.code : Item → Nat
  | .frame => 0
  | .pduBuild => 1
  | .canObject => 2
  | .linCopy => 3
  | .descriptor => 4
  | .access => 5
  | .event => 6
  | .updBlock => 7
  | .kmpFrame => 8
  | .remote => 9

/-- The codes R455 lists whose items end dropped or failed. -/
def reasonListed (r : Nat) : Bool :=
  (0x10 ≤ r && r ≤ 0x17) || (0x20 ≤ r && r ≤ 0x2A) || (0x30 ≤ r && r ≤ 0x36) || (0x40 ≤ r && r ≤ 0x46) ||
  (0x50 ≤ r && r ≤ 0x5C) || (0x60 ≤ r && r ≤ 0x66) || (0x70 ≤ r && r ≤ 0x76) || (0x80 ≤ r && r ≤ 0x8F) ||
  (0x90 ≤ r && r ≤ 0x95) || (0xA0 ≤ r && r ≤ 0xA6) || (0xB0 ≤ r && r ≤ 0xB2) || (0xB4 ≤ r && r ≤ 0xB6)

/-- No source or destination port. -/
def noPort : Nat := 0xFF

/-- AX0 seconds and nanoseconds as the 80 bits of a time. -/
def State.time80 (s : State) : Nat := s.ax0.sec * 2 ^ 32 + s.ax0.ns

/-- Window and source port of a record of the Spoil log, as one number. -/
def spoilKey (r : Nat) : Nat := r / 2 ^ 92 % 2 ^ 20

/-- A record joins the log at its end, before those of its clock cycle with a greater window or, in one window, source port (R457). -/
def spoilIn (r : Nat) : List Nat → List Nat
  | [] => [r]
  | x :: l =>
    if spoilKey r < spoilKey x ∧ (x :: l).all (fun y => y % 2 ^ 80 == r % 2 ^ 80) then r :: x :: l else x :: spoilIn r l

/-- Enters a dropped or failed item in the Spoil log and counts it under its reason (R454, R457). The log holds 1,024 records in
GX SRAM; the oldest is overwritten. -/
def State.spoil (s : State) (win : Nat) (d : Disp) (reason : Nat) (k : Item) (src dest : Nat) : State :=
  if !s.gxOn then s else
  let r := reason * 2 ^ 120 + d.code * 2 ^ 118 + k.code * 2 ^ 114 + win * 2 ^ 100 + src * 2 ^ 92 + dest * 2 ^ 84 + s.time80
  let full := 1024 ≤ s.flt.spoil.length
  let s := if full then s.count wRoot SPOIL_OVERWRITTEN.COUNT else s
  let s := s.setFlt { s.flt with spoil := spoilIn r (if full then s.flt.spoil.drop 1 else s.flt.spoil) }
  let s := if s.rd wRoot SPOIL_REASON_SEL.REASON = reason ∧ reasonListed reason
    then s.count wRoot SPOIL_REASON_CNT.COUNT else s
  s.event wRoot 0

/-- Ends an item of a kind the fabric group does not count. -/
def State.endOther (s : State) (win : Nat) (d : Disp) (reason : Nat) (k : Item) (src dest : Nat) : State :=
  match d with
  | .delivered | .untimed => s
  | .dropped | .failed => s.spoil win d reason k src dest

/-- Ends a frame item, a copy or a PDU build: counted once in the fabric group (R154), and in the Spoil log when dropped or
failed. -/
def State.endFrame (s : State) (win : Nat) (d : Disp) (reason : Nat) (build : Bool) (src dest : Nat) : State :=
  let k := if build then Item.pduBuild else Item.frame
  match d with
  | .delivered => s.count wFabric FAB_DELIVERED.COUNT
  | .untimed => s.count wFabric FAB_UNTIMED.COUNT
  | .dropped => (s.count wFabric FAB_DROPPED.COUNT).spoil win d reason k src dest
  | .failed => (s.count wFabric FAB_FAILED.COUNT).spoil win d reason k src dest

/-! ## Accesses (R38, R39, R87, R411, R475) -/

/-- The precedence of R87. -/
def Kind.rank : Kind → Nat
  | .shape => 0
  | .lifecycle => 1
  | .partition => 2
  | .privilege => 3
  | .locked => 4
  | .state => 5
  | .commitBusy => 6
  | .fanoutBusy => 7
  | .cmdBusy => 8

/-- The kind that is recorded when an access meets the conditions of several (R87). -/
def firstKind (l : List Kind) : Option Kind :=
  l.foldl (fun a k => match a with
    | none => some k
    | some b => if k.rank < b.rank then some k else some b) none

def whenK (c : Bool) (k : Kind) : List Kind := if c then [k] else []

/-- The write has no effect and no violation: an unassigned window, a unit in OFF, or a static descriptor byte (R38, R39). -/
def State.writeIgnored (s : State) (w ofs : Nat) : Bool :=
  (unitOf w).isNone || (ofs < 0x20 && !(ofs == 8 || ofs == 9)) || (0x20 ≤ ofs && s.unitState w == usOff)

/-- RO_HERE for an initiator: the C2 partition (R475). -/
def State.roHere (s : State) (init w : Nat) : Bool :=
  s.pwr.mode == 2 && isLegacy w && init != initMp && init != initSpi

/-- The open debug level (R411). -/
def State.debugLevel (s : State) : Nat := s.rd wLC LC_STATE.DBG

/-- What every write is refused for, whatever register it names (R87). -/
def State.commonKinds (s : State) (init w ofs : Nat) : List Kind :=
  whenK (init == initJtag && s.debugLevel < 2) .lifecycle ++ whenK (s.roHere init w) .partition ++
  whenK (0x100 ≤ ofs && init != initMp && s.on w UNIT_CTRL.LOCK) .locked ++
  whenK (0x100 ≤ ofs && (s.unitState w == usHeld || s.unitState w == usLoading)) .state

/-- The offset of the byte that holds the low end of a field. -/
def Field.byteOfs (f : Field) : Nat := f.ofs + f.len - 1 - f.lo / 8

/-- A register transaction of a face that was refused is an item that ends failed (R499). -/
def State.endAccess (s : State) (init : Nat) : State :=
  if init = initSpi ∨ init = initPcie then s.endOther wHost .failed 0x35 .access noPort noPort else s

/-- The native map is not presented to this initiator: the PCIe face is held in reset in C1, and an SPI face that carries the legacy framing
has no native accesses (R46, R463, R464). -/
def State.noMap (s : State) (init : Nat) : Bool := (init == initPcie && s.pwr.mode == 1) || (init == initSpi && s.leg.framing)

/-- The initiator's accesses reach the registers: every initiator is on GX or goes through it. -/
def State.reaches (s : State) (init : Nat) : Bool := s.gxOn && !s.noMap init

/-- The parity groups of the register that a byte of a window belongs to (R82). -/
def groupsOf (w ofs : Nat) : List Nat :=
  (fieldsAt w).flatMap fun f =>
    let a := f.ofs + (if f.stride = 0 then 0 else (ofs - f.ofs) / f.stride * f.stride)
    if a ≤ ofs ∧ ofs < a + f.len then (List.range ((a + f.len - 1) / 8 + 1 - a / 8)).map (a / 8 + ·) else []

/-- A write brings the parity of its groups into line with the data (R82). -/
def State.freshParity (s : State) (w ofs : Nat) : State :=
  s.setParity (s.parity.filter fun c => !(c / 512 == w && (groupsOf w ofs).contains (c % 512)))

/-- A write that is a command of its own, of an initiator that reaches the registers. Then: ignored, refused with a record (R87), or
carried out, with fresh parity. `kinds` are the refusals of the register's own card in the present state. -/
def State.cmdWrite (s : State) (init w ofs data : Nat) (kinds : List Kind) (f : State → State) : State :=
  if !s.reaches init || s.writeIgnored w ofs then s
  else match firstKind (s.commonKinds init w ofs ++ kinds) with
    | some k => (s.violate w init k true (w * 4096 + ofs) data).endAccess init
    | none => f (s.freshParity w ofs)

/-- A write of 1 to a CMD field (R5, R8). -/
def State.cmdField (s : State) (init w : Nat) (f : Field) (kinds : List Kind) (g : State → State) : State :=
  s.cmdWrite init w f.byteOfs (2 ^ (f.lo % 8)) (kinds ++ whenK (s.on w f) .cmdBusy) g

/-! ### Reads that act -/

/-- The read carries the speculative mark, or acts as if it did: the C2 partition (R9, R475). -/
def State.specRead (s : State) (init w : Nat) (spec : Bool) : Bool := spec || s.roHere init w

/-- A speculative read has withheld a side effect (R9, R98); the reads of R475 set nothing. -/
def State.specHit (s : State) (init addr : Nat) (spec : Bool) : State :=
  if !spec then s
  else
    let s := s.sticky wHost HOST_STATUS.SPEC_HIT
    if s.rd wHost HOST_SPEC_ADDR.INIT = 0 then
      (s.wr wHost HOST_SPEC_ADDR.INIT init).wr wHost HOST_SPEC_ADDR.ADDR addr
    else s

/-- A read that is a command of its own, of `len` bytes. An unassigned window and a unit in OFF read 0x00 (R38, R39); a read that is
refused returns 0x00 and leaves a record (R87); the debug port reads from level 1 on (R411). -/
def State.cmdRead (s : State) (init w ofs len : Nat) (f : State → State × List Nat) : State :=
  if !s.reaches init then s
  else if (unitOf w).isNone || s.unitState w == usOff then s.emit (.readData init (List.replicate len 0))
  else if init == initJtag && s.debugLevel < 1 then
    ((s.violate w init .lifecycle false (w * 4096 + ofs) 0).endAccess init).emit (.readData init (List.replicate len 0))
  else
    let r := f s
    r.1.emit (.readData init r.2)

/-- A list of steps done one after the other. -/
def State.each {α : Type} (s : State) (l : List α) (f : State → α → State) : State := l.foldl f s

def State.when (s : State) (c : Bool) (f : State → State) : State := if c then f s else s

/-- Stores the fields of a register from its whole value, each brought into its range (R18). -/
def State.wrWide (s : State) (w : Nat) (fs : List Field) (v : Nat) (i : Nat := 0) : State :=
  s.each fs fun s f => s.wr w f (f.fit.apply (bits v f.hi f.lo)) i

/-- One cycle of the block's clock, in nanoseconds. -/
def clkNs : Nat := 8

/-- A set kept as a list without repeats. -/
def addTo (l : List Nat) (n : Nat) : List Nat := if l.contains n then l else l ++ [n]
def dropFrom (l : List Nat) (n : Nat) : List Nat := l.filter (· != n)

end Sys2Proof.Machine
end

