-- ==== Sys2Proof/Machine/Parse.lean ====
section
/-! DEFINITION. Reading and rewriting the headers of Ethernet frames (R181, R237, R256), and the encapsulations of R238 and R239. A frame is
its bytes from the destination address on, without FCS. -/

namespace Sys2Proof.Machine

/-- n bytes from an offset, the first the most significant; bytes beyond the frame read 0. -/
def beAt (d : List Nat) (ofs n : Nat) : Nat := beNat ((List.range n).map fun i => d.getD (ofs + i) 0)

def ethDa (d : List Nat) : Nat := beAt d 0 6
def ethSa (d : List Nat) : Nat := beAt d 6 6
def isGroupMac (m : Nat) : Bool := bit m 40

/-- A tag with Ethertype 0x8100 at bytes 12 and 13 (R181). -/
def ethTagged (d : List Nat) : Bool := beAt d 12 2 == 0x8100

def ethTci (d : List Nat) : Nat := if ethTagged d then beAt d 14 2 else 0
def ethPcp (d : List Nat) : Nat := bits (ethTci d) 15 13
def ethDei (d : List Nat) : Bool := bit (ethTci d) 12

/-- Offset of the Ethertype after the tag, and of what follows it. -/
def typeOfs (d : List Nat) : Nat := if ethTagged d then 16 else 12
def l3Ofs (d : List Nat) : Nat := typeOfs d + 2
def ethType (d : List Nat) : Nat := beAt d (typeOfs d) 2

def isV4 (d : List Nat) : Bool :=
  ethType d == 0x0800 && d.getD (l3Ofs d) 0 / 16 == 4 && 5 ≤ d.getD (l3Ofs d) 0 % 16
def isV6 (d : List Nat) : Bool := ethType d == 0x86DD && d.getD (l3Ofs d) 0 / 16 == 6

def ipProto (d : List Nat) : Nat :=
  if isV4 d then d.getD (l3Ofs d + 9) 0 else if isV6 d then d.getD (l3Ofs d + 6) 0 else 0
def ipFrag (d : List Nat) : Bool := isV4 d && beAt d (l3Ofs d + 6) 2 % 8192 != 0

/-- TTL or hop limit. -/
def ipTtl (d : List Nat) : Nat := if isV4 d then d.getD (l3Ofs d + 8) 0 else d.getD (l3Ofs d + 7) 0

/-- Destination address as the Seam sees it. -/
def ipDst (d : List Nat) : Nat := if isV4 d then beAt d (l3Ofs d + 16) 4 else beAt d (l3Ofs d + 24) 16

/-- Start of the TCP or UDP header, where there is one (R256). -/
def l4Ofs (d : List Nat) : Option Nat :=
  if (ipProto d == 6 || ipProto d == 17) && !ipFrag d then
    if isV4 d then some (l3Ofs d + 4 * (d.getD (l3Ofs d) 0 % 16)) else if isV6 d then some (l3Ofs d + 40) else none
  else none

/-! ### The R-TAG of IEEE 802.1CB: 0xF1C1, two reserved bytes, the sequence number -/

def rtagSeq (d : List Nat) : Option Nat := if ethType d = 0xF1C1 then some (beAt d (typeOfs d + 4) 2) else none

/-- Takes n bytes out at an offset. -/
def cutAt (d : List Nat) (ofs n : Nat) : List Nat := d.take ofs ++ d.drop (ofs + n)

/-- Puts bytes in at an offset. -/
def putAt (d : List Nat) (ofs : Nat) (x : List Nat) : List Nat := d.take ofs ++ x ++ d.drop ofs

/-- Writes bytes over those at an offset. -/
def overAt (d : List Nat) (ofs : Nat) (x : List Nat) : List Nat := d.take ofs ++ x ++ d.drop (ofs + x.length)

def cutRtag (d : List Nat) : List Nat := if ethType d = 0xF1C1 then cutAt d (typeOfs d) 6 else d

def addRtag (d : List Nat) (seq : Nat) : List Nat := putAt d (typeOfs d) ([0xF1, 0xC1, 0, 0] ++ toBytes seq 2)

def dropTag (d : List Nat) : List Nat := if ethTagged d then cutAt d 12 4 else d

/-- DEI 1 in a tagged frame (R266). -/
def setDei (d : List Nat) : List Nat := if ethTagged d then overAt d 14 (toBytes (setBit (ethTci d) 12) 2) else d

/-! ### The Internet checksum -/

def sum16 : List Nat → Nat
  | a :: b :: r => a * 256 + b + sum16 r
  | [a] => a * 256
  | [] => 0

/-- Ones' complement sum folded to 16 bits, and inverted. -/
def ipSum (l : List Nat) : Nat :=
  let fold := fun n => n / 65536 + n % 65536
  0xFFFF - fold (fold (fold (sum16 l)))

/-- The header checksum of an IPv4 header at an offset, recomputed. -/
def fixV4 (d : List Nat) (ofs : Nat) : List Nat :=
  let n := 4 * (d.getD ofs 0 % 16)
  let d := overAt d (ofs + 10) [0, 0]
  overAt d (ofs + 10) (toBytes (ipSum ((d.drop ofs).take n)) 2)

/-- R237: the routed copy. -/
def routeIp (d : List Nat) (da sa vid : Nat) : List Nat :=
  let o := l3Ofs d
  let d := if isV4 d then fixV4 (overAt d (o + 8) [d.getD (o + 8) 0 - 1]) o else overAt d (o + 7) [d.getD (o + 7) 0 - 1]
  let pcp := ethPcp d
  let dei := ethDei d
  let d := dropTag (overAt (overAt d 0 (toBytes da 6)) 6 (toBytes sa 6))
  if vid = 0 then d else putAt d 12 ([0x81, 0x00] ++ toBytes (pcp * 8192 + b2n dei * 4096 + vid) 2)

/-! ### VCX messages (R238) -/

/-- The identifier byte of a LIN frame: the identifier with its parity bits (ISO 17987). -/
def linPid (i : Nat) : Nat :=
  let b := fun k => i / 2 ^ k % 2
  let p0 := (b 0 + b 1 + b 2 + b 4) % 2
  let p1 := (b 1 + b 3 + b 4 + b 5 + 1) % 2
  i % 64 + p0 * 64 + p1 * 128

def pad4 (d : List Nat) : List Nat := d ++ List.replicate ((4 - d.length % 4) % 4) 0

/-- LEN of a remote frame's message is its DLC; SDT, VCID, AF and SEC are those of an XL frame, else 0. -/
def vcxCan (h : CanHdr) (src : Nat) (data : List Nat) : List Nat :=
  let xl := fun n => if h.fmt = 2 then n else 0
  [0x10 + h.fmt, b2n h.ide * 16 + b2n h.brs * 8 + b2n h.esi * 4 + b2n h.rtr * 2 + xl (b2n h.sec), src, 0] ++ toBytes h.id 4 ++
    toBytes (if h.rtr then h.dlc else data.length) 2 ++ [xl h.sdt, xl h.vcid] ++ toBytes (xl h.af) 4 ++ pad4 data

def vcxLin (id src : Nat) (data : List Nat) : List Nat :=
  [0x13, 0, src, 0] ++ toBytes (linPid id) 4 ++ toBytes data.length 2 ++ [0, 0, 0, 0, 0, 0] ++ pad4 data

/-- A message taken out of an encapsulation: where it came in, and its frame. -/
structure Message where
  src : Nat
  can : Option CanHdr
  lin : Option Nat
  data : List Nat
  deriving DecidableEq, Repr

def lenFits (fmt n : Nat) : Bool :=
  if fmt = 0 then n ≤ 8 else if fmt = 1 then [0, 1, 2, 3, 4, 5, 6, 7, 8, 12, 16, 20, 24, 32, 48, 64].contains n
  else 1 ≤ n ∧ n ≤ 2048

/-- One VCX message, and the bytes after it. Of the identifier byte of a LIN message only the identifier counts, and a source code that names no
port of the message's kind is for stages 2 and 4 to find: neither is among the causes of R239. -/
def vcxOne (d : List Nat) : Option (Message × List Nat) :=
  let k := d.getD 0 0 % 16
  let fl := d.getD 1 0
  let src := d.getD 2 0
  let len := beAt d 8 2
  let rtr := bit fl 1 && k == 0
  let n := if rtr then 0 else len
  let size := 16 + (n + 3) / 4 * 4
  if d.length < size || d.getD 0 0 / 16 != 1 || 3 < k then none
  else if k = 3 then
    if len = 0 || 8 < len then none
    else some (⟨src, none, some (d.getD 7 0 % 64), (d.drop 16).take len⟩, d.drop size)
  else if !lenFits k len then none
  else
    let xl := fun v => if k = 2 then v else 0
    let h : CanHdr := { fmt := k, dlc := if rtr then len else 0, ide := bit fl 4, id := beAt d 4 4 % 2 ^ 29, rtr, brs := bit fl 3 && k == 1,
                        esi := bit fl 2 && k == 1, sdt := xl (d.getD 10 0), vcid := xl (d.getD 11 0), sec := bit fl 0 && k == 2,
                        af := xl (beAt d 12 4) }
    some (⟨src, some h, none, (d.drop 16).take n⟩, d.drop size)

/-- At most 16 messages; what is left after the last may only be the padding of a short frame. -/
def vcxAll : Nat → List Nat → Option (List Message)
  | 0, d => if d.all (· == 0) then some [] else none
  | n + 1, d =>
    if d.all (· == 0) then some []
    else match vcxOne d with
      | none => none
      | some (m, r) => match vcxAll n r with
        | none => none
        | some l => some (m :: l)

/-! ### IEEE 1722 NTSCF with ACF CAN (R238, R239) -/

/-- An ACF CAN message: type 1, its length in quadlets, flags, bus, timestamp 0, identifier, payload. -/
def acfCan (h : CanHdr) (bus : Nat) (data : List Nat) : List Nat :=
  let padn := (4 - data.length % 4) % 4
  let quads := (16 + data.length + padn) / 4
  [1 * 2 + quads / 256, quads % 256,
   padn * 64 + b2n h.rtr * 16 + b2n h.ide * 8 + b2n h.brs * 4 + b2n (h.fmt == 1) * 2 + b2n h.esi, bus % 32] ++
    List.replicate 8 0 ++ toBytes h.id 4 ++ pad4 data

/-- A template's NTSCF header, its last 12 bytes, with subtype, data length and sequence number filled in. -/
def fillNtscf (t : List Nat) (len seq : Nat) : List Nat :=
  let o := t.length - 12
  overAt (overAt t o [0x82]) (o + 1) [t.getD (o + 1) 0 / 8 * 8 + len / 256 % 8, len % 256, seq % 256]

/-- One ACF message of type CAN (1) or CAN Brief (2), and the bytes after it. -/
def acfOne (d : List Nat) : Option (Message × List Nat) :=
  let ty := d.getD 0 0 / 2
  let size := 4 * (d.getD 0 0 % 2 * 256 + d.getD 1 0)
  let fl := d.getD 2 0
  let bus := d.getD 3 0 % 32
  let hd := if ty = 1 then 16 else 8
  let padn := fl / 64
  let n := size - hd - padn
  let fmt := if bit fl 1 then 1 else 0
  if !(ty == 1 || ty == 2) || d.length < size || size < hd + padn || 15 < bus || !lenFits fmt n || (bit fl 4 && n != 0) then none
  else
    let h : CanHdr := { fmt, dlc := 0, ide := bit fl 3, id := beAt d (hd - 4) 4 % 2 ^ 29, rtr := bit fl 4 && fmt == 0,
                        brs := bit fl 2 && fmt == 1, esi := bit fl 0 && fmt == 1, sdt := 0, vcid := 0, sec := false, af := 0 }
    some (⟨0x10 + bus, some h, none, (d.drop hd).take n⟩, d.drop size)

def acfAll : Nat → List Nat → Option (List Message)
  | 0, d => if d = [] then some [] else none
  | n + 1, d =>
    if d = [] then some []
    else match acfOne d with
      | none => none
      | some (m, r) => match acfAll n r with
        | none => none
        | some l => some (m :: l)

/-- R239: the messages of a frame in the form that DECAP_FMT names. -/
def decapsulate (fmt : Nat) (d : List Nat) : Option (List Message) :=
  let o := l3Ofs d
  let r := if fmt = 1 then (if ethType d = 0x88B6 then vcxAll 16 (d.drop o) else none)
    else
      let len := d.getD (o + 1) 0 % 8 * 256 + d.getD (o + 2) 0
      if ethType d ≠ 0x22F0 ∨ d.getD o 0 ≠ 0x82 ∨ d.getD (o + 1) 0 / 16 % 8 ≠ 0 ∨ d.length < o + 12 + len then none
      else acfAll 16 ((d.drop (o + 12)).take len)
  match r with
  | some [] => none
  | x => x

/-! ### Headers of PDU builds (R250) -/

/-- The PDU header: PDU_ID, then LEN. -/
def pduHeader (id len : Nat) : List Nat := toBytes id 4 ++ toBytes len 4

/-- The pseudo-header sum of UDP over IPv6. -/
def udp6Sum (ip6 : List Nat) (udp : List Nat) : Nat :=
  let c := ipSum ((ip6.drop 8).take 32 ++ toBytes udp.length 4 ++ [0, 0, 0, 17] ++ udp)
  if c = 0 then 0xFFFF else c

/-- R250: a template of TYPE 1 or 2 with its lengths, identification and checksums. The IP and UDP headers are the last 28 or 48 bytes
of the template. -/
def fillTemplate (w : Wrap) (pdu : List Nat) : List Nat :=
  let body := (match w.pduId with
    | some id => pduHeader id pdu.length
    | none => []) ++ pdu
  let t := w.tmpl
  let n := t.length
  if w.ty = 1 then
    let o := n - 28
    let t := overAt (overAt t (o + 2) (toBytes (28 + body.length) 2)) (o + 4) (toBytes w.ident 2)
    let t := overAt (overAt t (n - 4) (toBytes (8 + body.length) 2)) (n - 2) [0, 0]
    fixV4 t o ++ body
  else if w.ty = 2 then
    let o := n - 48
    let t := overAt (overAt t (o + 4) (toBytes (8 + body.length) 2)) (n - 4) (toBytes (8 + body.length) 2)
    let t := overAt t (n - 2) [0, 0]
    overAt t (n - 2) (toBytes (udp6Sum (t.drop o) (t.drop (n - 8) ++ body)) 2) ++ body
  else t ++ body

end Sys2Proof.Machine
end

