-- ==== Sys2Proof/Machine/SecyOps.lean ====
section
/-! DEFINITION. The secure channels and associations of MACsec (R285): their fields, the encoding association, and the writes, which take effect at
a frame boundary of the port. -/

namespace Sys2Proof.Machine

/-! ## What passes through a port -/

/-- The copy in transmission. -/
def State.sending (s : State) (p : Nat) : Option Copy := (s.fab.reader.find? (·.1 == p)).map (·.2)

/-- The frame in reception. -/
def State.rxOpen (s : State) (p : Nat) : Option RxOpen := (s.eth.rxOpen.find? (·.1 == p)).map (·.2)

/-! ## Channels and associations -/

def scOff : Nat := 0
def scEnc : Nat := 1
def scHalt : Nat := 2

def State.sc (s : State) (k : Nat) (f : Field) : Nat := s.rd wMacsec f k

/-- A field of association a of channel k. -/
def saIdx (k a : Nat) : Nat := k * 2 + a
def State.sa (s : State) (k a : Nat) (f : Field) : Nat := s.rd wMacsec f (saIdx k a)
def State.saOn (s : State) (k a : Nat) : Bool := s.on wMacsec MSEC_SA.EN (saIdx k a)

def State.secyOn (s : State) (p : Nat) : Bool := p < 6 && s.on wMacsec (MSEC_PORT.EN.elem p)

def isXpn (cipher : Nat) : Bool := 2 ≤ cipher

/-- The key length code of a cipher suite. -/
def cipherLen (cipher : Nat) : Nat := cipher % 2

/-- The channels of a port in a direction: 0 receive, 1 transmit. -/
def State.portScs (s : State) (p dir : Nat) : List Nat :=
  (List.range 32).filter fun k => s.sc k MSEC_SC.VALID == 1 && s.sc k MSEC_SC.DIR == dir && s.sc k MSEC_SC.PORT == p

def State.txSc (s : State) (p : Nat) : Option Nat := (s.portScs p 1).head?

def State.scState (s : State) (k : Nat) : Nat := s.sc k MSEC_SC_STATE.STATE
def State.setScState (s : State) (k v : Nat) : State := s.wr wMacsec MSEC_SC_STATE.STATE v k
def State.encSa (s : State) (k : Nat) : Nat := s.sc k MSEC_SC_STATE.ENC_SA

/-- The row OFF to ENC. -/
def State.scEval (s : State) (k : Nat) : State :=
  if s.scState k = scOff ∧ s.sc k MSEC_SC.VALID = 1 ∧ s.sc k MSEC_SC.DIR = 1 ∧ s.saOn k (s.encSa k) then s.setScState k scEnc else s

def scFields : List Field := [MSEC_SC.VALID, MSEC_SC.DIR, MSEC_SC.PORT, MSEC_SC.CIPHER, MSEC_SC.SCI]
def saFields : List Field := [MSEC_SA.EN, MSEC_SA.AN, MSEC_SA.KEY, MSEC_SA.SSCI, MSEC_SA.SALT, MSEC_SA.PN]

def State.selSc (s : State) : Nat := s.rd wMacsec MSEC_SC_SEL.SC
def State.selSa (s : State) : Nat := s.rd wMacsec MSEC_SA_SEL.SA

def fieldOf (v : Nat) (f : Field) : Nat := bits v f.hi f.lo

/-- The other association becomes encoding. -/
def State.scSwitch (s : State) (k : Nat) : State :=
  let s := (s.wr wMacsec MSEC_SC_STATE.ENC_SA (1 - s.encSa k) k).setScState k scEnc
  ((s.setGuard { s.guard with secySwitch := erase s.guard.secySwitch k }).wr wMacsec MSEC_SC_CTRL.SWITCH 0 k).event wMacsec 1

/-! ### Writes -/

/-- The channel takes its new content; no association is enabled, so its transmit state is OFF. -/
def State.scStore (s : State) (k v : Nat) : State :=
  let s := (s.wrWide wMacsec scFields v k).setScState k scOff
  (s.setGuard { s.guard with secySwitch := erase s.guard.secySwitch k }).wr wMacsec MSEC_SC_CTRL.SWITCH 0 k

/-- The association value changes nothing but EN, from 1 to 0. -/
def State.onlyClears (s : State) (k a v : Nat) : Bool :=
  s.saOn k a && fieldOf v MSEC_SA.EN == 0 &&
    saFields.all fun f => f == MSEC_SA.EN || fieldOf v f == s.sa k a f || (f == MSEC_SA.PN && fieldOf v f == 0 && s.sa k a f == 1)

/-- The association takes its new content. Unless the write only clears EN, its PN starts anew. -/
def State.saStore (s : State) (k a v : Nat) : State :=
  if s.onlyClears k a v then s.wr wMacsec MSEC_SA.EN 0 (saIdx k a)
  else
    let s := s.wrWide wMacsec saFields v (saIdx k a)
    let s := s.setGuard { s.guard with pnLow := erase s.guard.pnLow (saIdx k a), pnSpent := dropFrom s.guard.pnSpent (saIdx k a) }
    (s.wr wMacsec MSEC_SA_PN.PN (if s.sc k MSEC_SC.DIR = 1 then s.sa k a MSEC_SA.PN else 0) (saIdx k a)).scEval k

def State.secyApply (s : State) (x : SecyWrite) : State :=
  match x with
  | .sc k v => s.scStore k v
  | .sa k a v => s.saStore k a v

/-- The writes that wait have taken effect: what a further write is checked against. -/
def State.secyAll (s : State) : State := s.guard.secyPend.foldl State.secyApply (s.setGuard { s.guard with secyPend := [] })

/-- The channel of a write, and the port and direction it serves or is to serve. -/
def State.secyPort (s : State) (x : SecyWrite) : Nat × Nat :=
  match x with
  | .sc k v => if s.sc k MSEC_SC.VALID = 1 then (s.sc k MSEC_SC.PORT, s.sc k MSEC_SC.DIR) else (fieldOf v MSEC_SC.PORT, fieldOf v MSEC_SC.DIR)
  | .sa k _ _ => (s.sc k MSEC_SC.PORT, s.sc k MSEC_SC.DIR)

/-- A frame of the write's channel passes: the write waits for the frame boundary. -/
def State.secyBusy (s : State) (x : SecyWrite) : Bool :=
  let y := s.secyPort x
  if y.2 = 1 then (s.sending y.1).isSome else (s.rxOpen y.1).isSome

/-- The writes that no frame holds up take effect, in their order. -/
def State.secySettle (s : State) : State :=
  s.guard.secyPend.foldl (fun s x => if s.secyBusy x then s.setGuard { s.guard with secyPend := s.guard.secyPend ++ [x] } else s.secyApply x)
    (s.setGuard { s.guard with secyPend := [] })

/-- A write of a channel or an association. DEDUCED: until its frame boundary the register reads as before. -/
def State.secyPut (s : State) (x : SecyWrite) : State :=
  (s.setGuard { s.guard with secyPend := s.guard.secyPend ++ [x] }).secySettle

/-- A channel value would give its port a second transmit channel. -/
def State.secondTx (s : State) (k v : Nat) : Bool :=
  fieldOf v MSEC_SC.VALID == 1 && fieldOf v MSEC_SC.DIR == 1 && (s.portScs (fieldOf v MSEC_SC.PORT) 1).any (· != k)

/-- The write would make the AN that of the other association. DEDUCED: two associations that have never been given an AN, both 0 after reset,
stand so until one of them is enabled beside the other. -/
def State.anClash (s : State) (k a v : Nat) : Bool :=
  fieldOf v MSEC_SA.AN == s.sa k (1 - a) MSEC_SA.AN &&
    (fieldOf v MSEC_SA.AN != s.sa k a MSEC_SA.AN || (fieldOf v MSEC_SA.EN == 1 && s.saOn k (1 - a)))

/-! ### The encoding association -/

/-- A frame boundary of a port: the writes that wait take effect, then a switch that waits takes place. -/
def State.secyBoundary (s : State) (p : Nat) : State :=
  let s := s.secySettle
  match s.txSc p with
  | none => s
  | some k => if look s.guard.secySwitch k false then s.scSwitch k else s

/-- SWITCH on channel k: at once in HALT and at a frame boundary, else when the copy in transmission ends. In HALT without another enabled
association it has no row, and no effect. -/
def State.switchSc (s : State) (k : Nat) : State :=
  if s.scState k = scOff ∨ (s.scState k = scHalt ∧ s.saOn k (1 - s.encSa k) = false) then s
  else if s.scState k = scEnc ∧ (s.sending (s.sc k MSEC_SC.PORT)).isSome then
    (s.setGuard { s.guard with secySwitch := insertAt s.guard.secySwitch k true }).wr wMacsec MSEC_SC_CTRL.SWITCH 1 k
  else s.scSwitch k

end Sys2Proof.Machine
end

