-- ==== Sys2Proof/Machine/FabOps.lean ====
section
/-! DEFINITION. The Stockpile and the Hoppers as operations: admission, references, queues, eligibility and the end of a copy
(R132 to R149, R154). -/

namespace Sys2Proof.Machine

/-! ## Stockpile -/

def totalCells : Nat := 49152

/-- The source port codes of R101. -/
def sourcePorts : List Nat :=
  List.range 16 ++ (List.range 16).map (0x10 + ·) ++ (List.range 12).map (0x20 + ·) ++ [0x30, 0x3F]

def srcPdu : Nat := 0x30
def srcHost : Nat := 0x3F

/-- The handle of a frame: its first cell number plus 1, in 0x000001 to 0x00C000 (R132). Which cell is first is the hardware's. -/
def handleOf (fid : Nat) : Nat := 1 + (Config.firstCell fid).toNat % totalCells

/-- Cells of a frame of n bytes (R132). -/
def cellsOf (n : Nat) : Nat := max 1 (ceilDiv n 256)

/-- Cells of a CAN frame: one for a classical or FD frame; an XL frame adds 16 bytes to its data (R34, 08, 09). -/
def canCells (h : CanHdr) (n : Nat) : Nat := if h.fmt = 2 then cellsOf (n + 16) else 1

def State.stkRsv (s : State) (p : Nat) : Nat := if s.isSafe wStockpile then 0 else s.rd wStockpile STK_RSV.RSV p

def State.stkInUse (s : State) (p : Nat) : Nat := ((s.fab.frames.filter (·.src == p)).map (·.cells)).sum

def State.rsvSum (s : State) : Nat := (sourcePorts.map s.stkRsv).sum

/-- Free cells of the shared pool (R133): what is neither reserved nor retired, less what frames took beyond their reservations. A frame
without a source port, as a KMP frame, has no reservation. -/
def State.sharedFree (s : State) : Nat :=
  totalCells - s.rsvSum - s.fab.retired - (sourcePorts.map fun p => s.stkInUse p - s.stkRsv p).sum -
    ((s.fab.frames.filter fun f => !sourcePorts.contains f.src).map (·.cells)).sum

def State.freeCells (s : State) : Nat := totalCells - s.fab.retired - (s.fab.frames.map (·.cells)).sum

def State.admitMin (s : State) : Nat :=
  if s.isSafe wStockpile then 40 else max 1 (s.rd wStockpile STK_ADMIT_MIN.ADMIT_MIN)

/-- n cells are found: from the reservation while it lasts, then from the shared pool (R133). -/
def State.roomFor (s : State) (p n : Nat) : Bool := n ≤ (s.stkRsv p - s.stkInUse p) + s.sharedFree

/-- A frame of n cells from port p is admitted and finds all its cells (R133). -/
def State.admits (s : State) (p n : Nat) : Bool :=
  (s.stkInUse p < s.stkRsv p || s.admitMin ≤ s.sharedFree) && s.roomFor p n

/-- The end of a frame that found no cell (R133). -/
def State.stockpileFull (s : State) (build : Bool) (src : Nat) : State :=
  (s.sticky wStockpile STK_STAT.ADMIT_DROP).endFrame wStockpile .dropped 0x20 build src noPort

/-- Stores a frame with one reference. -/
def State.addFrame (s : State) (src cells : Nat) (data : List Nat) (can : Option CanHdr) (lin : Option Nat)
    (build isOpen : Bool) : State :=
  let f : Frame :=
    { fid := s.fab.nextFid, cells := cells, src := src, data := data, stampSec := s.ax0.sec, stampNs := s.ax0.ns,
      can := can, lin := lin, pduBuild := build, isOpen := isOpen, len := data.length + 4, ecc := false, refs := 1, last := 0 }
  s.setFab { s.fab with frames := s.fab.frames ++ [f], nextFid := s.fab.nextFid + 1 }

def State.frame (s : State) (fid : Nat) : Option Frame := s.fab.frames.find? (·.fid == fid)

/-- The frame's last byte has not arrived. -/
def State.frameOpen (s : State) (fid : Nat) : Bool := match s.frame fid with
  | some f => f.isOpen
  | none => false

def State.mapFrame (s : State) (fid : Nat) (f : Frame → Frame) : State :=
  s.setFab { s.fab with frames := s.fab.frames.map fun x => if x.fid = fid then f x else x }

def State.addRefs (s : State) (fid n : Nat) : State := s.mapFrame fid fun f => { f with refs := f.refs + n }

/-- A transmit-ring frame that has left the Stockpile has an outcome for its writeback (R101). -/
def ringOutcome (h : HostSt) (fid last : Nat) : HostSt :=
  { h with txFrames := h.txFrames.map fun (r, l) =>
      (r, l.map fun x => if x.fid = fid ∧ x.outcome = none then { x with outcome := some last } else x) }

/-- Releases one reference of a frame; the last frees its cells at once (R134). `how` is disposition * 256 + reason. -/
def State.release (s : State) (fid how : Nat) : State :=
  match s.frame fid with
  | none => s
  | some f =>
    if f.refs ≤ 1 then
      let s := s.setFab { s.fab with frames := s.fab.frames.filter (·.fid != fid) }
      if f.src = srcHost then s.setHost (ringOutcome s.host fid how) else s
    else s.mapFrame fid fun f => { f with refs := f.refs - 1, last := how }

/-- Ends a frame item before stage 7: counted once, and its reference released (R149, R154). -/
def State.endItem (s : State) (win : Nat) (d : Disp) (reason fid : Nat) : State :=
  match s.frame fid with
  | none => s
  | some f => (s.endFrame win d reason f.pduBuild f.src noPort).release fid (d.code * 256 + reason)

/-- Owner codes of a stamp (STP_TXQ_VIEW card). -/
def ownerMp : Nat := 0
def ownerHost : Nat := 1

/-! ### Frames handed to Derrick or the stamp unit (R172) -/

def State.handOver (s : State) (fid : Nat) : State := s.setFab { s.fab with handed := s.fab.handed ++ [fid] }

/-- The oldest frame of port p and an Ethertype that was handed over and not yet taken. -/
def State.handedFrame (s : State) (p ty : Nat) : Option Nat :=
  s.fab.handed.find? fun fid => (s.frame fid).any fun f => f.src == p && beAt f.data 12 2 == ty

/-- The unit takes that frame: it ends delivered where the unit accepts it; what fails there the unit reports. -/
def State.handedEnd (s : State) (p ty : Nat) (accepted : Bool) : State :=
  match s.handedFrame p ty with
  | none => s
  | some fid =>
    let s := s.setFab { s.fab with handed := s.fab.handed.filter (· != fid) }
    if accepted then s.endItem (wEth p) .delivered 0 fid else s.release fid (Disp.dropped.code * 256)

/-! ## Hoppers -/

def allClasses : List Nat := List.range 8

def qKey (p c : Nat) : Nat := p * 8 + c

def State.queue (s : State) (p c : Nat) : List Copy := look s.fab.queues (qKey p c) []

def State.setQueue (s : State) (p c : Nat) (l : List Copy) : State :=
  s.setFab { s.fab with queues := store s.fab.queues (qKey p c) l [] }

/-- Cells that count against QLIM: the reserved head slot does not (R310). -/
def qCells (l : List Copy) : Nat := ((l.filter fun c => !c.inSlot).map (·.cells)).sum

/-- The Hopper acts on its registers, or as its safe state says (R147). -/
def State.hopQlim (s : State) (p c : Nat) : Nat :=
  if s.isSafe (wHop p) then 1024 else s.rd (wHop p) (HOP_QLIM.QLIM.elem c)

def State.hopOpen (s : State) (p c : Nat) : Bool := s.isSafe (wHop p) || s.on (wHop p) (HOP_GATE.OPEN.elem c)

def State.hopSlope (s : State) (p c : Nat) : Nat :=
  if s.isSafe (wHop p) then 0 else s.rd (wHop p) (HOP_IDLESLOPE.IDLESLOPE.elem c)

def State.hopCtThr (s : State) (p : Nat) : Nat := if s.isSafe (wHop p) then 0 else s.rd (wHop p) HOP_CT_THR.CT_THR

def State.hopDown (s : State) (p : Nat) : Bool := s.on (wHop p) HOP_STAT.DOWN

/-- The window that ends a copy for a destination port code at stage 7 or later. -/
def destWindow (d : Nat) : Nat :=
  if d < 0x10 then wHop d else if d < 0x20 then wCan (d - 0x10) else if 0x20 ≤ d ∧ d < 0x2C then wLin (d - 0x20)
  else if 0x40 ≤ d ∧ d < 0x50 then wHost else wRoute

/-- Ends a copy from stage 7 on: its tally, its disposition, its reference (R134, R149, R154). -/
def State.endCopy (s : State) (win : Nat) (c : Copy) (d : Disp) (reason : Nat) : State :=
  let s := if c.dest < 0x10 ∧ 2 ≤ d.code then s.count (wHop c.dest) HOP_DROPS.COUNT else s
  (s.endFrame win d reason c.pduBuild c.src c.dest).release c.fid (d.code * 256 + reason)

def State.credit (s : State) (p c : Nat) : Int := look s.fab.credit (qKey p c) 0

def State.setCredit (s : State) (p c : Nat) (v : Int) : State :=
  s.setFab { s.fab with credit := store s.fab.credit (qKey p c) v 0 }

/-- Brings a port's credits up to date (R144): a shaped class that is not sending rises at IDLESLOPE while its gate is open, an empty
class at most to 0. One kbit/s for 8 ns is 8 millionths of a bit. -/
def State.refreshCredit (s : State) (p : Nat) : State :=
  let dt := s.clk - look s.fab.creditClk p 0
  let sending := (s.fab.reader.find? (·.1 == p)).map (·.2.tc)
  let s := s.each allClasses fun s c =>
    if s.hopSlope p c = 0 ∨ s.hopOpen p c = false ∨ sending = some c then s
    else
      let v := s.credit p c + ((s.hopSlope p c * clkNs * dt : Nat) : Int)
      s.setCredit p c (if s.queue p c = [] ∧ 0 < v then 0 else v)
  s.setFab { s.fab with creditClk := store s.fab.creditClk p s.clk 0 }

/-- The head of a receive ring's queue ends. -/
def State.ringHeadEnd (s : State) (r : Nat) (d : Disp) (reason : Nat) : State :=
  match look s.fab.ringQ r [] with
  | [] => s
  | c :: l => (s.setFab { s.fab with ringQ := store s.fab.ringQ r l [] }).endCopy wHost c d reason

/-- Its frame has a cell with an uncorrectable error (R136). -/
def State.copyBad (s : State) (c : Copy) : Bool := (s.frame c.fid).any (·.ecc)

/-- Enqueues a copy on its class of Hopper p (R142, R150; the DOWN row of R147). A launched copy takes the reserved head slot when that is
free (R310). -/
def State.hopEnqueue (s : State) (p : Nat) (c : Copy) : State :=
  let s := s.refreshCredit p
  if s.hopDown p then s.endCopy (wHop p) c .dropped 0x28
  else if c.evt ∧ (s.queue p c.tc).any (·.inSlot) = false then
    s.setQueue p c.tc ({ c with enq := s.clk, inSlot := true } :: s.queue p c.tc)
  else if s.hopQlim p c.tc = 0 ∨ s.hopQlim p c.tc < qCells (s.queue p c.tc) + c.cells then
    s.endCopy (wHop p) c .dropped (if c.mirror then 0x2A else 0x21)
  else s.setQueue p c.tc (s.queue p c.tc ++ [{ c with enq := s.clk }])

/-- Ends every queued copy of Hopper p in the classes of a list. -/
def State.hopDrain (s : State) (p : Nat) (classes : List Nat) (d : Disp) (reason : Nat) : State :=
  s.each classes fun s c => ((s.queue p c).foldl (fun s x => s.endCopy (wHop p) x d reason) s).setQueue p c []

/-- Line rate of an Ethernet port in kbit/s, from ETH_STATE.RATE. -/
def rateKbps (code : Nat) : Nat :=
  if code = 1 then 100000 else if code = 2 then 1000000 else if code = 3 then 2500000
  else if code = 4 then 5000000 else if code = 5 then 10000000 else 0

def State.lineRate (s : State) (p : Nat) : Nat := rateKbps (s.rd (wEth p) ETH_STATE.RATE)

/-- Bytes on the wire of a copy, destination address through FCS, padded (R174). -/
def wireBytes (c : Copy) : Nat := max 60 c.data.length + 4

/-- Transmission time of n bytes (R144) in nanoseconds, rounded up. -/
def txNs (rate n : Nat) : Nat := if rate = 0 then 0 else ceilDiv ((n + 20) * 8 * 1000000) rate

/-- The credit of a class falls by sendSlope times the transmission time of the copy it sent (R144). -/
def State.payCredit (s : State) (p : Nat) (c : Copy) : State :=
  let is := s.hopSlope p c.tc
  let rate := s.lineRate p
  if is = 0 ∨ rate = 0 then s
  else
    let d : Int := ((is : Int) - (rate : Int)) * (((wireBytes c + 20) * 8 * 1000000 : Nat) : Int) / (rate : Int)
    let v := s.credit p c.tc + d
    s.setCredit p c.tc (if s.queue p c.tc = [] ∧ 0 < v then 0 else v)

/-- AX0 in nanoseconds. -/
def State.ax0Ns (s : State) : Nat := s.ax0.sec * 1000000000 + s.ax0.ns

/-- The earliest known close of a class's gate (R312): the next occurrence, within 100 µs, of an armed GATE event on AX0 that closes it. -/
def State.knownClose (s : State) (p c : Nat) : Option Int :=
  let l := s.evp.armed.filterMap fun (i, a) =>
    let arg := s.rd wEvp EVP_ENTRY.ARG i
    if s.rd wEvp EVP_ENTRY.AXIS i = 0 ∧ s.rd wEvp EVP_ENTRY.ACTION i = 3 ∧ s.rd wEvp EVP_ENTRY.TARGET i = p ∧
      bit arg (8 + c) ∧ bit arg c = false ∧ a.target ≤ (s.ax0Ns + 100000 : Nat) then some a.target else none
  l.foldl (fun m t => match m with
    | none => some t
    | some x => some (if t < x then t else x)) none

/-- A gate is written: by an event or by software (R145). An opening ends the mark of the one before; a head that was not passed over in that
one starts its count anew. -/
def State.setGate (s : State) (p c : Nat) (isOpen : Bool) : State :=
  let was := s.on (wHop p) (HOP_GATE.OPEN.elem c)
  let s := s.refreshCredit p
  let s := s.wr (wHop p) (HOP_GATE.OPEN.elem c) (b2n isOpen)
  if was || !isOpen then s
  else match s.queue p c with
    | [] => s
    | h :: r => s.setQueue p c ({ h with ovr := false, passed := if h.ovr then h.passed else 0 } :: r)

/-- Raises CT_THR after an underrun (R140). -/
def State.raiseCt (s : State) (p : Nat) : State :=
  let v := s.rd (wHop p) HOP_CT_THR.CT_THR
  let s := s.wr (wHop p) HOP_CT_THR.CT_THR (if 32 ≤ v then 0 else v + 1)
  ((s.sticky (wHop p) HOP_STAT.UNDERRUN).sticky (wHop p) HOP_STAT.CT_RAISED).event (wHop p) 0 |>.event (wHop p) 1

def State.setReader (s : State) (p : Nat) (c : Option Copy) : State :=
  s.setFab { s.fab with reader := match c with
    | none => erase s.fab.reader p
    | some c => insertAt s.fab.reader p c }

/-- The port tells its egress reader that the link is up: DOWN to IDLE (R147's table). -/
def State.readerUp (s : State) (p : Nat) : State := s.wr (wHop p) HOP_STAT.DOWN 0

/-- The port tells its egress reader that the link is down: the copy in transmission and every queued copy end with LINK_DOWN. -/
def State.readerDown (s : State) (p : Nat) : State :=
  if s.hopDown p then s
  else
    let s := match s.sending p with
      | none => s
      | some c => ((s.setReader p none).endCopy (wHop p) c .dropped 0x28).secyBoundary p
    let s := s.hopDrain p allClasses .dropped 0x28
    s.wr (wHop p) HOP_STAT.DOWN 1

/-- What goes out for a frame's bytes: seven preamble bytes, the start-of-frame delimiter, the bytes and their FCS, which a bad-check ending
sends as its ones' complement (R140, R174). -/
def ethOctets (d : List Nat) (bad : Bool) : List Nat :=
  let fcs := crc32 d
  List.replicate 7 0x55 ++ [0xD5] ++ d ++ (toBytes (if bad then xorBits fcs 0xFFFFFFFF else fcs) 4).reverse

end Sys2Proof.Machine
end

