-- ==== Sys2Proof/Machine/AxisOps.lean ====
section
/-! DEFINITION. The axes as operations: AX0's tick (R300), and the tracking of AX1 to AX7 (R295 to R298). -/

namespace Sys2Proof.Machine

/-! ## AX0 -/

def billion : Nat := 1000000000

/-- One nanosecond in the units of the fraction. -/
def fracUnit : Nat := 2 ^ 32

/-- The slew step of one tick: 8 / 4,096 ns, toward the remainder's sign (R300). -/
def slewStep (rem : Int) : Int := if rem = 0 then 0 else if 0 < rem then 8388608 else -8388608

/-- What RATE adds to a tick, in the units of the fraction: 8 ns x RATE x 2^-40. The field has 32 fractional bits; which way the part below
them is rounded is left open. -/
def rateStep (rate : Int) (frac : Nat) : Int :=
  rate / 32 + (if rate % 32 ≠ 0 ∧ Config.rateRound frac rate then 1 else 0)

/-- AX0 advances by one tick of 8 ns (R300). -/
def Ax0St.tick (a : Ax0St) (rate : Int) : Ax0St :=
  let st := slewStep a.slew
  let add := 8 * (fracUnit : Int) + rateStep rate a.frac + st
  let t := (a.ns * fracUnit + a.frac : Nat) + add
  let sec := t / (billion * fracUnit : Nat)
  let r := (t % (billion * fracUnit : Nat)).toNat
  let ix := a.ixNs + 8
  { sec := ((a.sec : Int) + sec).toNat % 2 ^ 48, ns := r / fracUnit, frac := r % fracUnit, slew := a.slew - st,
    ixSec := (a.ixSec + ix / billion) % 2 ^ 48, ixNs := ix % billion }

def State.ax0Rate (s : State) : Int := toSigned (s.rd (wAx 0) AX0_RATE.RATE) 32

/-- One cycle of the block's clock; AX0 runs while GX does, the copy on IX while IX is powered. -/
def State.tickAx0 (s : State) : State := if s.gxOn then s.setAx0 (s.ax0.tick s.ax0Rate) else s

def free0 : Nat := 0
def sync0 : Nat := 1
def holdover0 : Nat := 2

def State.ax0State (s : State) : Nat := s.rd (wAx 0) AX0_STATE.STATE
def State.setAx0State (s : State) (v : Nat) : State := s.wr (wAx 0) AX0_STATE.STATE v

/-! ## AX1 to AX7 -/

def axOff : Nat := 0
def axWait : Nat := 1
def axRun : Nat := 2
def axStalled : Nat := 3

/-- One unit of a scaled position. -/
def axUnit : Int := 65536

def State.axis (s : State) (n : Nat) : AxisSt := look s.axes n AxisSt.reset
def State.setAxis (s : State) (n : Nat) (a : AxisSt) : State := s.setAxes (store s.axes n a AxisSt.reset)
def State.axState (s : State) (n : Nat) : Nat := s.rd (wAx n) AX_STATE.STATE
def State.setAxState (s : State) (n v : Nat) : State := s.wr (wAx n) AX_STATE.STATE v
def State.axSrc (s : State) (n : Nat) : Nat := s.rd (wAx n) AX_CFG.SRC
def State.axAngle (s : State) (n : Nat) : Bool := s.on (wAx n) AX_CFG.KIND

/-- One encoder edge in scaled units (R295). -/
def State.edgeUnits (s : State) (n : Nat) : Int := 65536 * axUnit / (max 1 (s.rd (wAx n) AX_CPR.CPR) : Nat)

/-- CAP of R297, none for SRC 4. -/
def State.axCap (s : State) (n : Nat) : Option Int :=
  let src := s.axSrc n
  if src = 1 then some (s.edgeUnits n) else if src = 2 then some axUnit
  else if src = 3 then some ((s.rd (wAx n) AX_CAP.CAP : Nat) * axUnit) else none

/-- p(t) of R297. -/
def State.axRaw (s : State) (n : Nat) : Int :=
  let a := s.axis n
  if s.axState n ≠ axRun then a.pm
  else
    let c := Int.tdiv (a.speed * ((s.clk - a.tm) * clkNs : Nat)) billion
    match s.axCap n with
    | none => a.pm + c
    | some cap => a.pm + (if cap < c then cap else if c < -cap then -cap else c)

/-- The position under R298: it never moves against the direction of motion. -/
def State.axPos (s : State) (n : Nat) : Int :=
  let a := s.axis n
  let p := s.axRaw n
  if s.axSrc n = 4 then p
  else if s.on (wAx n) AX_STATE.DIRN then (if p < a.shown then p else a.shown) else (if a.shown < p then p else a.shown)

/-- AX_POS and AX_SPEED. -/
def State.axPosReg (s : State) (n : Nat) : Nat := ofSigned (s.axPos n / axUnit) 32
def State.axSpeedReg (s : State) (n : Nat) : Nat :=
  if s.axState n = axRun then ofSigned (Int.tdiv (s.axis n).speed axUnit) 32 else 0

/-! ### Sources -/

/-- The windows of the source unit (R295). -/
def State.axSources (s : State) (n : Nat) : List Nat :=
  let a := s.rd (wAx n) AX_SRC.UNIT_A
  let src := s.axSrc n
  if src = 1 then [wSW a, wSW (s.rd (wAx n) AX_SRC.UNIT_B)] else if src = 2 then [wME a] else if src = 3 then [wSignal] else []

def State.sourceLost (s : State) (n : Nat) : Bool := (s.axSources n).any fun w => s.unitState w == usOff || s.unitState w == usSafe
def State.sourceReady (s : State) (n : Nat) : Bool := (s.axSources n).all fun w => s.unitState w == usReady

/-- The row "source unit enters OFF or SAFE". -/
def State.axSourceCheck (s : State) (n : Nat) : State :=
  let a := s.axis n
  if s.axState n = axOff ∨ s.axSources n = [] then s
  else if !s.sourceLost n then (if a.lost then s.setAxis n { a with lost := false } else s)
  else if a.lost then s
  else
    let s := (s.setAxis n { a with lost := true, speed := 0, shown := s.axPos n }).setAxState n axStalled
    (s.sticky (wAx n) AX_STAT.SRC_ERR).event (wAx n) 1

/-- After any change of a unit's state. -/
def State.axisSources (s : State) : State := if s.gxOn then s.each [1, 2, 3, 4, 5, 6, 7] State.axSourceCheck else s

/-! ### Measured updates -/

/-- The position a source gives now, in scaled units; a signal's is unwrapped by R296. -/
def State.axMeasure (s : State) (n : Nat) (edges : Int) : Int :=
  let a := s.axis n
  let src := s.axSrc n
  if src = 1 then edges * (65536 * axUnit) / (max 1 (s.rd (wAx n) AX_CPR.CPR) : Nat)
  else if src = 2 then toSigned (s.rd (wME (s.rd (wAx n) AX_SRC.UNIT_A)) ME_POS.POS) 32 * axUnit
  else
    let v := s.rd wSignal SIG_VALUE.VALUE (s.rd (wAx n) AX_SRC.SIG) % 2 ^ 32
    if a.count = 0 then toSigned v 32 * axUnit
    else
      let w := if s.axAngle n then 16 else 32
      a.pm + toSigned (ofSigned ((v : Int) - a.pm / axUnit) w) w * axUnit

def sign (i : Int) : Int := if i < 0 then -1 else if 0 < i then 1 else 0

/-- A measured update (R297, R298). Two updates lie at least one cycle apart. -/
def State.axUpdate (s : State) (n : Nat) (up : Bool) : State :=
  let a := s.axis n
  let st := s.axState n
  let edges := if up then a.edges + 1 else a.edges - 1
  let pm := s.axMeasure n edges
  let dt := max 1 (s.clk - a.tm)
  let vraw := if a.count = 0 then 0 else Int.tdiv ((pm - a.pm) * billion) (dt * clkNs : Nat)
  let d := if s.axSrc n = 1 ∨ s.axSrc n = 2 then (if up then 1 else -1) else if a.count = 0 then 0 else pm - a.pm
  let rev := sign d * sign a.lastD == -1
  let dirn := if d < 0 then 1 else if 0 < d then 0 else s.rd (wAx n) AX_STATE.DIRN
  let shown := if rev || a.count = 0 then pm else s.axPos n
  let speed :=
    if a.count = 0 then 0
    else if rev || st = axStalled then vraw
    else a.speed + Int.tdiv (vraw - a.speed) (2 ^ s.rd (wAx n) AX_CFG.FILT : Nat)
  let s := s.setAxis n
    { a with pm, tm := s.clk, speed, shown, count := a.count + 1, lastD := if d = 0 then a.lastD else d, edges, updated := true }
  let s := s.wr (wAx n) AX_STATE.DIRN dirn
  let s := if rev then s.count (wAx n) AX_REVERSALS.COUNT else s
  if st = axStalled ∨ 1 ≤ a.count then s.setAxState n axRun else s

/-- A cycle in which no command comes (DESIGN CHOICE): the model's clock advances, and AX0 with it at its rate (R295). -/
def State.idle (s : State) : State := ((fresh s).setClk (s.clk + 1)).tickAx0

end Sys2Proof.Machine
end

