-- ==== Sys2Proof/Machine/Bench.lean ====
section
/-! DEFINITION. The two Benches (R120): reading a benched entry under the pointer in force, the entry views and their write buffers
(R498), and the staged delta with its touched and overflow lists (R122). -/

namespace Sys2Proof.Machine

/-! ## Reading -/

/-- The current Bench. -/
def State.gen (s : State) : Nat := s.rd wTables TBL_STAT.G

/-- The Bench in which a table is looked up by an item that sampled Bench `sampled` on entry to stage 2: during a split each table
has its own pointer (R125). -/
def State.tabGen (s : State) (win sampled : Nat) : Nat :=
  match s.bench.phase with
  | .split | .splitDrain => if s.bench.switched.contains win then 1 - s.gen else s.gen
  | _ => sampled

/-- The Bench a table is read in now. -/
def State.genOf (s : State) (win : Nat) : Nat := s.tabGen win s.gen

/-- The Bench a frame samples on entry to stage 2. In a split it looks every table up under that table's pointer, and the pointers end at
the new Bench (R125). -/
def State.entryGen (s : State) : Nat :=
  match s.bench.phase with
  | .split | .splitDrain => 1 - s.gen
  | _ => s.gen

def State.bank (s : State) (g : Nat) : Tab Nat := if g = 0 then s.bench.bank0 else s.bench.bank1

def State.setBank (s : State) (g : Nat) (t : Tab Nat) : State :=
  s.setBench (if g = 0 then { s.bench with bank0 := t } else { s.bench with bank1 := t })

/-- A field of entry i of a benched table in Bench g. -/
def State.ent (s : State) (g w : Nat) (f : Field) (i : Nat) : Nat := look (s.bank g) (f.key w i) f.reset

def State.entOn (s : State) (g w : Nat) (f : Field) (i : Nat) : Bool := s.ent g w f i == 1

def State.setEnt (s : State) (g w : Nat) (f : Field) (i v : Nat) : State :=
  s.setBank g (store (s.bank g) (f.key w i) (v % 2 ^ f.width) f.reset)

/-- The flow hold is in force (R126): HOLD_EN reads 1 and HOLD_LIM is not 0. -/
def State.holdInForce (s : State) : Bool := s.on wTables TBL_CTRL.HOLD_EN && s.rd wTables TBL_HOLD_LIM.HOLD_LIM != 0

/-! ## Entry views (R498) -/

/-- Template i of the PDU assembly is entry 8192 + i of its table. -/
def tmplBase : Nat := 8192

def vlanView : List Field :=
  [VLAN_ENTRY.VALID, VLAN_ENTRY.LEARN, VLAN_ENTRY.UNK_UC, VLAN_ENTRY.UNK_MC, VLAN_ENTRY.RTR_EN, VLAN_ENTRY.RMAC,
   VLAN_ENTRY.HRING, VLAN_ENTRY.MEMBER, VLAN_ENTRY.UNTAG, VLAN_ENTRY.FID]

def routeView : List Field :=
  [RT_ENTRY.VALID, RT_ENTRY.KIND, RT_ENTRY.SE, RT_ENTRY.DCOUNT, RT_ENTRY.DL_INDEX, RT_ENTRY.IN_CTX, RT_ENTRY.SIG_FIRST,
   RT_ENTRY.SIG_COUNT, RT_ENTRY.DECAP_FMT, RT_ENTRY.PDU_OFS]

def dlView : List Field :=
  [DL_ENTRY.LAST, DL_ENTRY.PORT, DL_ENTRY.TC, DL_ENTRY.OUT_FMT, DL_ENTRY.IDE, DL_ENTRY.ID_KEEP, DL_ENTRY.ID_OUT,
   DL_ENTRY.TRUNC, DL_ENTRY.OUT_CTX, DL_ENTRY.TMPL, DL_ENTRY.SDT, DL_ENTRY.VCID, DL_ENTRY.AF, DL_ENTRY.VID_OUT]

def sigView : List Field :=
  [SIG_ENTRY.VALID, SIG_ENTRY.SRC, SIG_ENTRY.SRC_UNIT, SIG_ENTRY.SIGNED, SIG_ENTRY.LEN, SIG_ENTRY.IN_ORD,
   SIG_ENTRY.IN_START, SIG_ENTRY.IN_UB_EN, SIG_ENTRY.IN_UB, SIG_ENTRY.OUT_ORD, SIG_ENTRY.OUT_START, SIG_ENTRY.OUT_UB_EN,
   SIG_ENTRY.OUT_UB, SIG_ENTRY.OUT_TRIG, SIG_ENTRY.TIMEOUT, SIG_ENTRY.TO_START, SIG_ENTRY.TO_ACT, SIG_ENTRY.SINK_MODE,
   SIG_ENTRY.SINK_FN, SIG_ENTRY.SINK_UNIT, SIG_ENTRY.SINK_EVERY, SIG_ENTRY.SHIFT, SIG_ENTRY.MUL, SIG_ENTRY.OFS,
   SIG_ENTRY.DEFAULT]

def pduView : List Field :=
  [PDU_ENTRY.VALID, PDU_ENTRY.MODE, PDU_ENTRY.SE, PDU_ENTRY.LEN, PDU_ENTRY.SIG_FIRST, PDU_ENTRY.SIG_COUNT,
   PDU_ENTRY.PERIOD, PDU_ENTRY.OFFSET, PDU_ENTRY.MDT, PDU_ENTRY.NREP, PDU_ENTRY.REP_PERIOD, PDU_ENTRY.FILL, PDU_ENTRY.HDR,
   PDU_ENTRY.DL_INDEX, PDU_ENTRY.DCOUNT, PDU_ENTRY.PDU_ID]

def tmplView : List Field :=
  [PDU_TMPL_CFG.TYPE, PDU_TMPL_CFG.LEN] ++ (List.range 64).map PDU_TMPL_DATA.DATA.elem

def sieveView : List Field :=
  [SIEVE_VALUE.VALUE, SIEVE_MASK.MASK, SIEVE_ACT.VALID, SIEVE_ACT.DENY, SIEVE_ACT.TC_EN, SIEVE_ACT.TC, SIEVE_ACT.ROUTE_EN,
   SIEVE_ACT.ROUTE, SIEVE_ACT.STRM_EN, SIEVE_ACT.STRM, SIEVE_ACT.POL_EN, SIEVE_ACT.POL, SIEVE_ACT.FRER,
   SIEVE_ACT.FRER_IDX]

def canfView : List Field :=
  [CANF_ENTRY.VALID, CANF_ENTRY.DENY, CANF_ENTRY.IDE, CANF_ENTRY.FMT, CANF_ENTRY.PORTS, CANF_ENTRY.ID, CANF_ENTRY.MASK,
   CANF_ENTRY.VCID, CANF_ENTRY.VMASK, CANF_ENTRY.ROUTE, CANF_ENTRY.POL_EN, CANF_ENTRY.POL]

def wbView : List Field :=
  [WB_ENTRY.MODE, WB_ENTRY.CM, WB_ENTRY.CF, WB_ENTRY.DROP_Y, WB_ENTRY.YDEI, WB_ENTRY.YTC_EN, WB_ENTRY.YTC, WB_ENTRY.ADJ,
   WB_ENTRY.CIR, WB_ENTRY.EIR, WB_ENTRY.CBS, WB_ENTRY.EBS]

def authView : List Field :=
  [AUTH_CTX.VALID, AUTH_CTX.DIR, AUTH_CTX.FLAT, AUTH_CTX.MONITOR, AUTH_CTX.STRIP, AUTH_CTX.KEY, AUTH_CTX.DATA_ID,
   AUTH_CTX.MAC_LEN, AUTH_CTX.TFV_BITS, AUTH_CTX.ACC_WIN, AUTH_CTX.AUTH_LEN]

/-- The fields of entry i of a benched table's view. -/
def viewFields (w i : Nat) : List Field :=
  if w = wVlan then vlanView else if w = wRoute then routeView else if w = wDlist then dlView
  else if w = wSignal then sigView else if w = wPdu then (if i < tmplBase then pduView else tmplView)
  else if w = wSieve then sieveView else if w = wCanf then canfView else if w = wWeigh then wbView
  else if w = wAuth then authView else []

/-- The VALID field of a view, where the entry has one; a destination, a template or a policer is always in use. -/
def viewValid (w i : Nat) : Option Field :=
  if w = wVlan then some VLAN_ENTRY.VALID else if w = wRoute then some RT_ENTRY.VALID
  else if w = wSignal then some SIG_ENTRY.VALID else if w = wPdu ∧ i < tmplBase then some PDU_ENTRY.VALID
  else if w = wSieve then some SIEVE_ACT.VALID else if w = wCanf then some CANF_ENTRY.VALID
  else if w = wAuth then some AUTH_CTX.VALID else none

/-- The write buffer's content of a view field (the buffer of a view is kept under entry number 0, that of the templates under
`tmplBase`). -/
def bufIdx (i : Nat) : Nat := if i < tmplBase then 0 else tmplBase

def State.buf (s : State) (w : Nat) (f : Field) (i : Nat) : Nat := look s.bench.viewBuf (f.key w (bufIdx i)) f.reset

def State.setBuf (s : State) (w : Nat) (f : Field) (i v : Nat) : State :=
  s.setBench { s.bench with viewBuf := store s.bench.viewBuf (f.key w (bufIdx i)) (v % 2 ^ f.width) f.reset }

/-- A commit of a view's select register loads the write buffer with the entry's next-Bench content (R498). -/
def State.loadView (s : State) (w i : Nat) : State :=
  s.each (viewFields w i) fun s f => s.setBuf w f i (s.ent (1 - s.gen) w f i)

/-! ## The staged delta -/

def entryCode (w i : Nat) : Nat := i * 4096 + w

def State.touchedEntry (s : State) (w i : Nat) : Bool := s.bench.touched.contains (entryCode w i)

def State.inOvf (s : State) (w i : Nat) : Bool := s.bench.ovf.any fun e => e.win == w && e.idx == i

/-- How many slots a slotted table has; 0 for a paired one (R120, R255, R260). -/
def slotsOf (w : Nat) : Nat := if w = wSieve then 1024 else if w = wCanf then 4096 else 0

/-- The entries that are valid in a Bench. -/
def State.validIn (s : State) (g w : Nat) (f : Field) : List Nat :=
  (s.bank g).filterMap fun (k, v) =>
    if v = 1 ∧ k % (4096 * 4096 * 1024) = f.key w 0 then some (k / (4096 * 4096 * 1024)) else none

/-- Slots taken: one for each entry of the current Bench, and one for each next-Bench version that the delta put in a slot. -/
def State.slotsUsed (s : State) (w : Nat) (f : Field) : Nat :=
  (s.validIn s.gen w f).length +
    ((s.validIn (1 - s.gen) w f).filter fun i => s.touchedEntry w i && !s.inOvf w i).length

/-- What a staged write met. -/
inductive Staged where
  | slot | overflow | refused
  deriving DecidableEq, Repr

/-- Notes an entry in the touched list; a delta touches at most 8,192 entries (R122). -/
def State.touch (s : State) (w i : Nat) : State :=
  if s.touchedEntry w i then s else s.setBench { s.bench with touched := s.bench.touched ++ [entryCode w i] }

/-- A staged write counts in the staging order, renews the lock's lease and leaves a staged delta. -/
def State.stagedOne (s : State) : State :=
  (s.setBench { s.bench with stageCnt := s.bench.stageCnt + 1, lease := true }).wr wTables TBL_STAT.STAGED 1

def State.dropOvf (s : State) (w i : Nat) : State :=
  s.setBench { s.bench with ovf := s.bench.ovf.filter fun e => !(e.win == w && e.idx == i) }

def State.addOvf (s : State) (w i : Nat) : State :=
  s.setBench { s.bench with ovf := s.bench.ovf ++ [⟨w, i, s.bench.stageCnt⟩] }

/-- Where a staged write of a slotted table goes (R122): nowhere when it deletes, in place when the delta has staged the entry
before, else a free slot, else the overflow list. -/
def State.slotFor (s : State) (w i : Nat) (valid : Bool) : Staged :=
  if !s.touchedEntry w i && 8192 ≤ s.bench.touched.length then .refused
  else match viewValid w i with
    | none => .slot
    | some f =>
      if slotsOf w = 0 || !valid then .slot
      else if s.inOvf w i then .overflow
      else if s.touchedEntry w i && s.entOn (1 - s.gen) w f i then .slot
      else if s.slotsUsed w f < slotsOf w then .slot
      else if s.bench.ovf.length < 256 then .overflow
      else .refused

/-- Stages the view buffer as entry i (R498, R122). The content checks are made before. -/
def State.stageBuf (s : State) (w i : Nat) (valid : Bool) (how : Staged) : State :=
  let s := s.each (viewFields w i) fun s f => s.setEnt (1 - s.gen) w f i (s.buf w f i)
  let s := match how with
    | .overflow => if s.inOvf w i then s else s.addOvf w i
    | _ => if valid then s else s.dropOvf w i
  (s.touch w i).stagedOne

/-- Restores an entry of the next Bench to its content in the current Bench. -/
def State.restoreEntry (s : State) (w i : Nat) : State :=
  s.each (viewFields w i) fun s f => s.setEnt (1 - s.gen) w f i (s.ent s.gen w f i)

/-- Empties both lists; no staged delta is left. -/
def State.clearDelta (s : State) : State :=
  (s.setBench { s.bench with touched := [], ovf := [], stageCnt := 0, deletions := [] }).wr wTables TBL_STAT.STAGED 0

/-- A unit in SAFE refuses staging; a fenced entry refuses it too (R202, R252, R270, R293, R393). -/
def State.stageBlocked (s : State) (w i : Nat) : Bool := s.isSafe w || s.pwr.fenced.contains (entryCode w i)

end Sys2Proof.Machine
end

