-- ==== Sys2Proof/Machine/PipeOps.lean ====
section
/-! DEFINITION. The way into the data path (R34, R132 to R134): admission and the entry to stage 2, with the flow hold of R126. -/

namespace Sys2Proof.Machine

/-- The bit of TBL_HOLD_PORTS of a source port; PDU builds are held by none. -/
def holdBit (src : Nat) : Option Nat :=
  if src < 0x10 then some src else if src < 0x20 then some (src - 0x10 + 16) else if 0x20 ≤ src ∧ src < 0x2C then some (src - 0x20 + 32)
  else if src = srcHost then some 44 else none

/-- The flow hold stops frames of this source before stage 2 (R126). -/
def State.flowHeld (s : State) (src : Nat) : Bool :=
  s.bench.holdOn && s.holdInForce && (match holdBit src with
    | none => false
    | some b => bit (s.rd wTables TBL_HOLD_PORTS.HOST * 2 ^ 44 + s.rd wTables TBL_HOLD_PORTS.LIN * 2 ^ 32 +
        s.rd wTables TBL_HOLD_PORTS.CAN * 2 ^ 16 + s.rd wTables TBL_HOLD_PORTS.ETH) b)

/-- A frame that enters stage 2. It samples the current Bench there (R120). -/
def State.enterPipe (s : State) (fid src : Nat) (data : List Nat) (ring : Option Nat) (ringTc : Nat) (ask : Option StampAsk)
    (evt : Bool) : State :=
  let it : PipeItem :=
    { fid, stage := if s.flowHeld src then .held else .atFilter, gen := s.entryGen, data, plan := .none, tc := none, ydei := false,
      frerGen := none, frerCut := false, vid := 0, strip := 0, secured := false, routed := false, inCtx := 0, cand := none, ring, ringTc, ask, evt, made := false, ready := [] }
  s.setFab { s.fab with pipe := s.fab.pipe ++ [it] }

/-- A frame that arrives at a port: admitted under R133 and sent to stage 2 with the time of its start, or dropped with 0x20. -/
def State.arrive (s : State) (src cells : Nat) (data : List Nat) (can : Option CanHdr) (lin : Option Nat) (age : Nat) : State :=
  if s.admits src cells = false then s.stockpileFull false src
  else
    let fid := s.fab.nextFid
    let s := s.addFrame src cells data can lin false false
    let t := s.ax0.sec * 1000000000 + s.ax0.ns - age
    let s := s.mapFrame fid fun f => { f with stampSec := t / 1000000000, stampNs := t % 1000000000 }
    s.enterPipe fid src data none 0 none false

/-! ## Reception's checks (R171, R172) -/

/-- Most bytes a port accepts or sends, FCS included (R171, R175, R178). -/
def State.maxFrame (s : State) (p : Nat) : Nat := if s.isSafe (wEth p) then 1518 else s.rd (wEth p) ETH_MAX_FRAME.MAX

/-- R171: the first check that applies to a frame of n bytes: its reason and tally. -/
def State.rxCheck (s : State) (p : Nat) (d : List Nat) (n : Nat) (symErr fcsOk : Bool) : Option (Nat × Field) :=
  let w := wEth p
  let ty := beAt d 12 2
  if symErr then some (0x13, ETH_RX_SYMBOL.COUNT)
  else if n < 64 then some (0x11, ETH_RX_RUNT.COUNT)
  else if s.maxFrame p < n then some (0x12, ETH_RX_OVERSIZE.COUNT)
  else if !fcsOk then some (0x10, ETH_RX_FCS.COUNT)
  else if bit (ethSa d) 40 then some (0x14, ETH_RX_SA_GROUP.COUNT)
  else if ty = 0x8808 then some (0x15, ETH_RX_PAUSE.COUNT)
  else if s.on w ETH_STATE.KMP_ONLY ∧ ty ≠ 0x88B5 then some (0x16, ETH_RX_BLOCKED.COUNT)
  else if !s.on w ETH_CFG.KMP_EN ∧ ty = 0x88B5 ∧ ethDa d = 0x0180C200000E then some (0x16, ETH_RX_BLOCKED.COUNT)
  else none

/-- Counts a check that failed. Checks 1 to 4 set RX_ERR. -/
def State.rxFailed (s : State) (p reason : Nat) (f : Field) : State :=
  let s := s.count (wEth p) f
  if 0x10 ≤ reason ∧ reason ≤ 0x13 then s.sticky (wEth p) ETH_STAT.RX_ERR else s

/-- R172: the frame is Derrick's or the stamp unit's. -/
def State.rxTaken (s : State) (p : Nat) (d : List Nat) : Bool :=
  (beAt d 12 2 == 0x88B5 && s.on (wEth p) ETH_CFG.KMP_EN) || (ethDa d == 0x0180C200000E && beAt d 12 2 == 0x88F7)

end Sys2Proof.Machine
end

