-- ==== Sys2Proof/Machine/Chan.lean ====
section
/-! DEFINITION. Load channels and H-bridges as operations: what is commanded, the protection state machine, switches and dead
time, diagnosis results, and the thermal governor's arithmetic (R322 to R338). -/

namespace Sys2Proof.Machine

def State.chan (s : State) (n : Nat) : ChanSt := look s.body.chan n ChanSt.reset
def State.setChan (s : State) (n : Nat) (c : ChanSt) : State :=
  s.setBody { s.body with chan := store s.body.chan n c ChanSt.reset }
def State.mapChan (s : State) (n : Nat) (f : ChanSt → ChanSt) : State := s.setChan n (f (s.chan n))

/-! Codes of CH_STATE. -/
def protOff : Nat := 0
def protOn : Nat := 1
def protRetry : Nat := 2
def protTherm : Nat := 3
def protLatched : Nat := 4
def ctrlNormal : Nat := 0
def ctrlHold : Nat := 1
def ctrlFailoff : Nat := 2
def ctrlLimp : Nat := 3

def State.prot (s : State) (n : Nat) : Nat := s.rd (wCh n) CH_STATE.PROT
def State.ctrl (s : State) (n : Nat) : Nat := s.rd (wCh n) CH_STATE.CTRL

def allChannels : List Nat := List.range 72
def isHalf (n : Nat) : Bool := n < 12

/-- Sense LSB in mA and on-resistance at 25 °C in micro-ohms (R322), and the class inrush in mA. -/
def chLsb (n : Nat) : Nat := if n < 12 then 16 else if n < 36 then 8 else 2
def chR25 (n : Nat) : Nat := if n < 12 then 4500 else if n < 36 then 16000 else 90000
def chInrush (n : Nat) : Nat := if n < 12 then 40000 else if n < 36 then 30000 else 6000

/-- The die a channel's switch sits on (R62). -/
def dieOf (n : Nat) : Nat :=
  if n < 6 then 0 else if n < 12 then 1 else if n < 20 then 2 else if n < 28 then 3 else if n < 32 then 4
  else if n < 36 then 5 else (n - 36) / 6

def dieChannels (k : Nat) : List Nat := allChannels.filter (dieOf · == k)

/-- The filtered LIMP_IN pin of a channel equals POL (R337). -/
def State.limpOn (s : State) (n : Nat) : Bool :=
  b2n (bit (s.rd wSup SUP_PINS.LIMP) (s.rd (wCh n) CH_LIMP.PIN)) == s.rd (wCh n) CH_LIMP.POL

def State.hbMode (s : State) (k : Nat) : Nat := s.rd (wHB k) HB_CTRL.MODE

/-- ON as it reads: a half's is 1 while the bridge mode drives it (R324). -/
def State.chOn (s : State) (n : Nat) : Bool := if isHalf n then s.hbMode (n / 2) != 0 else s.on (wCh n) CH_CTRL.ON

/-- The period in force: a new PERIOD takes effect at the next period start of a channel in ON (R323). -/
def State.chPeriod (s : State) (n : Nat) : Nat :=
  if s.prot n = protOn then (s.chan n).period else s.rd (wCh n) CH_PERIOD.PERIOD

/-- The channel is asked to be on: by its commands in NORMAL and HOLD (R323), by its pin in LIMP; never in FAILOFF or in the safe
state (R336, R338). -/
def State.chWanted (s : State) (n : Nat) : Bool :=
  if s.isSafe (wCh n) then false
  else if s.ctrl n = ctrlFailoff then false
  else if s.ctrl n = ctrlLimp then s.limpOn n
  else s.chOn n && s.chPeriod n != 0

/-- The duty in force: LDUTY / 15 in LIMP, else DUTY x DER / 8 (R333, R337). -/
def State.chDuty (s : State) (n : Nat) : Nat :=
  if s.ctrl n = ctrlLimp then s.rd (wCh n) CH_LIMP.LDUTY * 65536 / 15
  else (if (s.chan n).duty = 65535 then 65536 else (s.chan n).duty) * s.rd (wCh n) CH_DERATE.DER / 8

def State.hbSwitches (s : State) (k : Nat) : Nat := look s.body.hbSwitch k 0

/-- What of a bridge's switches belongs to a half: its two switches and its PWM. -/
def halfMask (n : Nat) : Nat := if n % 2 = 0 then 0b010011 else 0b101100

/-- Switches the output as the protection state and the duty say, and tells the outside of a change. The output of a half is on while the bridge
uses a switch of it (DEDUCED). -/
def State.chOutput (s : State) (n : Nat) : State :=
  let o := s.prot n == protOn && (if isHalf n then s.hbSwitches (n / 2) &&& halfMask n != 0 else s.chDuty n != 0)
  if s.on (wCh n) CH_STATE.OUT = o then s else (s.wr (wCh n) CH_STATE.OUT (b2n o)).emit (.channel n o)

/-! ## H-bridges (R325, R326) -/

/-- The switches a bridge mode uses: bit 0 high and bit 1 low of CH(2k), bit 2 high and bit 3 low of CH(2k+1) steadily on; bit 4 CH(2k) and
bit 5 CH(2k+1) under PWM, which has its high switch on for the on-time and its low switch for the off-time. -/
def modeSwitches (m : Nat) : Nat :=
  if m = 1 then 0b011000 else if m = 2 then 0b100010 else if m = 3 then 0b001010 else if m = 4 then 0b000101 else 0

/-- What the bridge's switches are to be: FREE under protection, in the safe state of the bridge or of a half, or outside NORMAL and
HOLD. A half that is not ON has none on. -/
def State.hbTarget (s : State) (k : Nat) : Nat :=
  let half := fun n => !s.isSafe (wCh n) && (s.ctrl n == ctrlNormal || s.ctrl n == ctrlHold)
  let mask := fun n => if s.prot n = protOn then halfMask n else 0
  if look s.body.hbForced k false || s.isSafe (wHB k) || !(half (2 * k) && half (2 * k + 1)) then 0
  else modeSwitches (s.hbMode k) &&& (mask (2 * k) ||| mask (2 * k + 1))

def State.setSwitches (s : State) (k v : Nat) (dead : Bool) : State :=
  let b := { s.body with hbSwitch := store s.body.hbSwitch k v 0, hbDead := store s.body.hbDead k dead false }
  let s' := s.setBody b
  ((if s.hbSwitches k = v then s' else s'.emit (.bridge k v)).chOutput (2 * k)).chOutput (2 * k + 1)

/-- Turns off every switch the bridge is not to use, and starts the dead time before it turns on the others (R326). -/
def State.hbApply (s : State) (k : Nat) : State :=
  let keep := s.hbSwitches k &&& s.hbTarget k
  s.setSwitches k keep (s.hbTarget k != keep)

/-- The bridge of a half whose protection acted is FREE, without a change of MODE (R326). -/
def State.hbForce (s : State) (k : Nat) : State :=
  ((s.setBody { s.body with hbForced := store s.body.hbForced k true false }).sticky (wHB k) HB_STAT.PARTNER).hbApply k

/-! ## PWM periods (R313, R323, R335) -/

/-- The channel is locked to AX0 (R313). -/
def State.chLocked (s : State) (n : Nat) : Bool := bit (s.rd (wAx 0) AX0_LOCK_MAP.MAP) n

/-- The channels of a staggering die whose phases THERM sets, in ascending number. -/
def State.staggered (s : State) (k : Nat) : List Nat :=
  if !s.on (wPS k) PS_STATE.STAG then []
  else (dieChannels k).filter fun n =>
    s.prot n == protOn && !s.chLocked n && decide (s.rd (wCh n) CH_DUTY.DUTY < 65535) && s.ctrl n != ctrlLimp

/-- CH_PHASE_EFF (R335). -/
def State.phaseEff (s : State) (n : Nat) : Nat :=
  let group := (s.staggered (dieOf n)).filter fun m => s.rd (wCh m) CH_PERIOD.PERIOD == s.rd (wCh n) CH_PERIOD.PERIOD
  if group.contains n then 256 * (group.filter (· < n)).length / group.length else s.rd (wCh n) CH_PHASE.PHASE

/-- Nanoseconds since the last lock instant BASE + k P + PHASE P / 256 on IX's copy of AX0, for a period in ns (R313). -/
def State.sinceLock (s : State) (n p : Nat) : Nat :=
  ((((s.ax0.ixSec * 1000000000 + s.ax0.ixNs : Nat) : Int) - (s.rd (wAx 0) AX0_LOCK_BASE.BASE : Nat) -
    (s.rd (wCh n) CH_PHASE.PHASE * p / 256 : Nat)) % (p : Int)).toNat

/-- The period of the channel follows AX0 now: not in LIMP, nor while GX does not update the copy (R313, R337). -/
def State.lockHeld (s : State) (n : Nat) : Bool :=
  s.chLocked n && s.gxOn && s.ctrl n != ctrlLimp && s.rd (wCh n) CH_PERIOD.PERIOD != 0

/-- A period may start: a locked channel's at the first lock instant that lies P / 2 or more after the last start, its first one at any after
the entry to ON. -/
def State.lockReady (s : State) (n : Nat) : Bool :=
  let p := s.rd (wCh n) CH_PERIOD.PERIOD * 1000
  !s.lockHeld n || (match (s.chan n).started with
    | some t => decide (s.sinceLock n p + p / 2 ≤ (s.clk - t) * clkNs)
    | none => decide (s.sinceLock n p ≤ (s.clk - (s.chan n).onSince) * clkNs))

/-- The test unit of a channel: the low half stands for its bridge. -/
def testUnit (n : Nat) : Nat := if isHalf n then 2 * (n / 2) else n

/-! ## Protection (R328) -/

/-- A test that runs on the channel or its bridge is over. -/
def State.testEnd (s : State) (n : Nat) : State :=
  let s := s.mapChan (testUnit n) fun c => { c with testing := false }
  let s := s.wr (wCh n) CH_CMD.DIAG 0
  if isHalf n then (s.wr (wCh (2 * (n / 2))) CH_CMD.DIAG 0).wr (wCh (2 * (n / 2) + 1)) CH_CMD.DIAG 0 else s

/-- The bridge of a half follows its protection state; a half that is back in ON ends what protection held FREE (R326). -/
def State.hbFollow (s : State) (n : Nat) : State :=
  let k := n / 2
  if !isHalf n then s
  else
    let back := s.prot n == protOn && look s.body.hbForced k false && decide (s.prot (2 * k) < protRetry) && decide (s.prot (2 * k + 1) < protRetry)
    (s.when back fun s => s.setBody { s.body with hbForced := store s.body.hbForced k false false }).hbApply k

/-- Entry to ON: the inrush window and a period start, which a locked channel leaves to its lock instant with the output off until then (R313). A
bridge whose faulting half is back resumes its MODE. -/
def State.chEnterOn (s : State) (n : Nat) : State :=
  let s := s.wr (wCh n) CH_STATE.PROT protOn
  let held := s.lockHeld n
  let s := s.mapChan n fun c =>
    { c with onSince := s.clk, started := if held then none else some s.clk, duty := if held then 0 else s.rd (wCh n) CH_DUTY.DUTY,
             phase := s.phaseEff n, period := s.rd (wCh n) CH_PERIOD.PERIOD, low := 0, good := 0 }
  ((s.testEnd n).chOutput n).hbFollow n

/-- Leaves ON for another protection state: the output is off, and CURRENT reads 0 (R332). -/
def State.chLeave (s : State) (n p : Nat) : State :=
  (((s.wr (wCh n) CH_STATE.PROT p).wr (wCh n) CH_CURRENT.CURRENT 0).chOutput n).hbFollow n

/-- The rows "commanded on" of OFF and "commanded off" of ON. The thermal latch keeps a channel in OFF (DESIGN CHOICE: R328 gives the trip no row
there, R327 lets it hold the output off). -/
def State.chEval (s : State) (n : Nat) : State :=
  if s.chWanted n then (if s.prot n = protOff ∧ (s.chan n).hot = false then s.chEnterOn n else s)
  else if s.prot n = protOn then s.chLeave n protOff else s

/-- A retry: Count + 1, a new inrush window. -/
def State.chRetry (s : State) (n : Nat) : State :=
  ((s.wr (wCh n) CH_RETRY_CNT.COUNT (s.rd (wCh n) CH_RETRY_CNT.COUNT + 1)).count (wCh n) CH_RETRIES.COUNT).chEnterOn n

def State.chLatch (s : State) (n : Nat) : State :=
  (((s.chLeave n protLatched).sticky (wCh n) CH_STAT.LATCHED).count (wCh n) CH_LATCHES.COUNT).event (wCh n) 1

/-- Count has reached LIMIT. -/
def State.chSpent (s : State) (n : Nat) : Bool := s.rd (wCh n) CH_RETRY.LIMIT ≤ s.rd (wCh n) CH_RETRY_CNT.COUNT

/-- A short-circuit or overcurrent fault in ON. -/
def State.chFault (s : State) (n : Nat) (f : Field) : State :=
  if s.prot n ≠ protOn then s
  else
    let s := ((s.sticky (wCh n) f).count (wCh n) CH_FAULTS.COUNT).event (wCh n) 0
    let s := if s.chSpent n then s.chLatch n else s.chLeave n protRetry
    if isHalf n then s.hbForce (n / 2) else s

/-- A thermal trip: the latch is set; the rows of ON and RETRY_WAIT. -/
def State.chTrip (s : State) (n : Nat) : State :=
  let s := s.mapChan n fun c => { c with hot := true }
  if s.prot n = protOn ∨ s.prot n = protRetry then
    let wasOn := s.prot n == protOn
    let s := ((s.sticky (wCh n) CH_STAT.THERM).count (wCh n) CH_THERMS.COUNT).chLeave n protTherm
    let s := if wasOn then s.event (wCh n) 0 else s
    if wasOn ∧ isHalf n then s.hbForce (n / 2) else s
  else s

/-- The thermal latch clears: the limit is checked before anything else. -/
def State.chCooled (s : State) (n : Nat) : State :=
  let s := s.mapChan n fun c => { c with hot := false }
  if s.prot n ≠ protTherm then s.chEval n
  else if s.chSpent n then s.chLatch n
  else if s.chWanted n then s.chRetry n
  else s.chLeave n protOff

/-- DELAY elapses. -/
def State.chDelayEnd (s : State) (n : Nat) : State :=
  if s.prot n ≠ protRetry then s else if s.chWanted n then s.chRetry n else s.chLeave n protOff

/-! ## Commands (R323, R324, R326) -/

/-- A command of ON that has effect at IX. On CH0 to CH11 ON follows the bridge. -/
def State.chCommand (s : State) (n : Nat) (on : Bool) : State :=
  if isHalf n then s else (s.wr (wCh n) CH_CTRL.ON (b2n on)).chEval n

/-- A new duty; it takes effect at the next period start. -/
def State.chSetDuty (s : State) (n v : Nat) : State := s.wr (wCh n) CH_DUTY.DUTY v
def State.chSetPhase (s : State) (n v : Nat) : State := s.wr (wCh n) CH_PHASE.PHASE v

/-- The bridge acts on its MODE: both halves are commanded on while it is not FREE. -/
def State.hbAct (s : State) (k : Nat) : State := ((s.chEval (2 * k)).chEval (2 * k + 1)).hbApply k

/-- A change of MODE. -/
def State.hbSetMode (s : State) (k m : Nat) : State := (s.wr (wHB k) HB_CTRL.MODE (if 4 < m then 0 else m)).hbAct k

/-! ## Thermal governor (R333 to R335) -/

def State.die (s : State) (k : Nat) : DieSt := look s.body.die k DieSt.reset
def State.setDie (s : State) (k : Nat) (d : DieSt) : State :=
  s.setBody { s.body with die := store s.body.die k d DieSt.reset }

/-- Loss of one channel in 10^-12 W at a model temperature in millionths of a degree, with a derating factor (R322, R333). -/
def State.chLoss (s : State) (n : Nat) (temp : Int) (der : Nat) : Nat :=
  let i := s.rd (wCh n) CH_CURRENT.CURRENT
  let r := (((chR25 n : Int) * (10000000000 + 45 * (temp - 25000000))) / 10000000000).toNat
  if isHalf n then
    -- the bridge counts once, with its current through two switches
    if n % 2 = 0 ∧ s.hbSwitches (n / 2) ≠ 0 then
      let b := look s.body.hbSample (n / 2) 0
      2 * b * b * r
    else 0
  else if s.prot n ≠ protOn then 0
  else if s.ctrl n = ctrlLimp then i * i * r * s.rd (wCh n) CH_LIMP.LDUTY / 15
  else
    let d := s.rd (wCh n) CH_DUTY.DUTY
    i * i * r * (if d = 65535 then 65536 else d) * der / 524288

/-- Loss of a die; `raise` adds 1 to the derating factor of the channels it names. -/
def State.dieLoss (s : State) (k : Nat) (raise : Nat → Bool) : Nat :=
  ((dieChannels k).map fun n =>
    s.chLoss n (s.die k).temp (s.rd (wCh n) CH_DERATE.DER + b2n (raise n))).sum

/-- ALLOT, or 1,000 mW in the safe state of THERM or of the die (R338). -/
def State.allot (s : State) (k : Nat) : Nat :=
  if s.isSafe wTherm || s.isSafe (wPS k) then 1000 else s.rd (wPS k) PS_ALLOT.ALLOT

/-! ## Diagnosis (R329 to R331) -/

/-- Sets the result of a channel: a change raises EV bit 2, and a result other than OK its sticky bit. -/
def State.chResult (s : State) (n r : Nat) : State :=
  let s := if s.rd (wCh n) CH_DIAG.RESULT = r then s else (s.wr (wCh n) CH_DIAG.RESULT r).event (wCh n) 2
  if r = 1 then s.sticky (wCh n) CH_STAT.OPEN_OFF else if r = 2 then s.sticky (wCh n) CH_STAT.OPEN_ON
  else if r = 3 then s.sticky (wCh n) CH_STAT.STB else if r = 4 then s.sticky (wCh n) CH_STAT.STG else s

/-- The off-state test can run: OFF with OLOFF_EN 1; a bridge needs both halves in OFF (R329). -/
def State.chTestable (s : State) (n : Nat) : Bool :=
  s.on (wCh n) CH_CFG.OLOFF_EN && s.prot n == protOff &&
    (!isHalf n || (s.prot (2 * (n / 2)) == protOff && s.prot (2 * (n / 2) + 1) == protOff))

/-- The first matching row of R329's table; voltages in mV. -/
def offResult (half low : Bool) (v1 v2 : Nat) : Nat :=
  if !low && (6000 < v1 || (half && 6000 < v2)) then 3
  else if half then (if v1 < 500 ∧ v2 < 500 then 4 else if 3500 ≤ v1 ∧ v2 ≤ 1000 then 1 else 0)
  else if low then (if v1 < 1000 then 1 else 0)
  else if 3500 ≤ v1 then 1 else 0

/-! ## Control modes (R336) -/

/-- Gives one channel a control mode and lets its output follow. -/
def State.chMode (s : State) (n m : Nat) : State :=
  let s := (s.wr (wCh n) CH_STATE.CTRL m).chEval n |>.chOutput n
  if isHalf n then s.hbApply (n / 2) else s

/-- SAFE_N is to be low (R61 and its pin row). -/
def State.safeWanted (s : State) : Bool :=
  !s.gxOn || !s.pins.heartbeat || s.on wChannels CHG_STAT.HOLDING ||
    allChannels.any fun n => s.ctrl n == ctrlFailoff || s.ctrl n == ctrlLimp

end Sys2Proof.Machine
end

