-- ==== Sys2Proof/Machine/MotionOps.lean ====
section
/-! DEFINITION. The motion engines as operations: commands, the state table of R352, counting, end stops, anti-pinch, faults; and
the control modes of all channels together with what they end (R336, R348 to R357). -/

namespace Sys2Proof.Machine

def State.me (s : State) (k : Nat) : MeSt := look s.body.me k MeSt.reset
def State.setMe (s : State) (k : Nat) (m : MeSt) : State :=
  s.setBody { s.body with me := store s.body.me k m MeSt.reset }
def State.mapMe (s : State) (k : Nat) (f : MeSt → MeSt) : State := s.setMe k (f (s.me k))

/-! Codes of ME_STATE and ME_RESULT. -/
def meOff : Nat := 0
def meIdle : Nat := 1
def meDrive : Nat := 2
def meBrake : Nat := 3
def meReverse : Nat := 4
def resDone : Nat := 1
def resMiss : Nat := 2
def resStopped : Nat := 3
def resEndstop : Nat := 4
def resPinch : Nat := 5
def resFault : Nat := 6
def resParkTo : Nat := 7
def resReplaced : Nat := 8

def State.meState (s : State) (k : Nat) : Nat := s.rd (wME k) ME_STATE.STATE
def State.mePos (s : State) (k : Nat) : Int := toSigned (s.rd (wME k) ME_POS.POS) 32
def State.setPos (s : State) (k : Nat) (p : Int) : State := s.wr (wME k) ME_POS.POS (ofSigned p 32)

/-- A command has ended: its result is written, and EV bit 0 rises. -/
def State.meEnd (s : State) (k r : Nat) : State := (s.wr (wME k) ME_RESULT.RESULT r).event (wME k) 0

/-- The position is no longer referenced (R357). -/
def State.normLost (s : State) (k : Nat) : State :=
  (s.wr (wME k) ME_STATE.NORM 0).sticky (wME k) ME_STAT.NORM_LOST

/-- A command ends FAULT; with ripple counting the reference is lost (R357). -/
def State.meFaultEnd (s : State) (k : Nat) : State :=
  let s := (s.meEnd k resFault).sticky (wME k) ME_STAT.FAULT
  if s.rd (wME k) ME_CFG.TRACK = 0 then s.normLost k else s

/-- The channels of the bridge are in NORMAL or HOLD (R348). -/
def State.meMayDrive (s : State) (k : Nat) : Bool :=
  let ok := fun n => s.ctrl n == ctrlNormal || s.ctrl n == ctrlHold
  ok (2 * k) && ok (2 * k + 1)

/-- The half that drives in the engine's direction. -/
def State.meHalf (s : State) (k : Nat) : Nat := 2 * k + s.rd (wME k) ME_STATE.DIRN

/-- The duty after supply compensation (R349). -/
def meDuty (comp : Bool) (target volt : Nat) : Nat :=
  if comp then (if volt = 0 then 65535 else min 65535 (target * 13500 / volt)) else target

/-- The duty of a ramp `ms` milliseconds after entry (R349). -/
def rampDuty (start target ramp ms : Nat) : Nat :=
  if ramp ≤ ms then target
  else if start ≤ target then start + (target - start) * ms / ramp else start - (start - target) * ms / ramp

/-- Gives the driving half the duty of the present millisecond; it takes effect at once at an entry, else at its period start. -/
def State.meApplyDuty (s : State) (k : Nat) : State :=
  let m := s.me k
  let d := if m.ramped then m.target else rampDuty (s.rd (wME k) ME_START.START) m.target (s.rd (wME k) ME_RAMP.RAMP) m.ms
  s.chSetDuty (s.meHalf k) (meDuty (s.on (wME k) ME_CFG.COMP) d m.volt)

/-- Drives in a direction (0 forward, 1 reverse) with a ramp to a target duty. -/
def State.meDriveOn (s : State) (k dirn target : Nat) : State :=
  let s := s.wr (wME k) ME_STATE.DIRN dirn
  let s := s.mapMe k fun m => { m with ms := 0, target := target, ramped := false }
  (s.meApplyDuty k).hbSetMode k (if dirn = 0 then 1 else 2)

/-- Enters BRAKE with what the command will end with. -/
def State.meEnterBrake (s : State) (k r : Nat) : State :=
  ((s.mapMe k fun m => { m with result := r, samples := [], revBrake := false }).wr (wME k) ME_FORCE.FORCE 0
    |>.wr (wME k) ME_STATE.STATE meBrake).hbSetMode k 3

def meTargetDuty (s : State) (k : Nat) : MeCmd → Nat
  | .run 3 => s.rd (wME k) ME_SPEED_B.SPEED_B
  | _ => s.rd (wME k) ME_SPEED_A.SPEED_A

/-- The direction a command drives in: park, continuous drive and sweep run forward (0). -/
def meDirOf (s : State) (k : Nat) : MeCmd → Nat
  | .move t => if t < s.mePos k then 1 else 0
  | _ => 0

def State.parkActive (s : State) (k : Nat) : Bool :=
  s.on (wSW (s.rd (wME k) ME_INPUTS.PARK_SW)) SW_STATE.STATE

/-- Starts DRIVE with a command. -/
def State.meStart (s : State) (k : Nat) (c : MeCmd) : State :=
  let s := s.mapMe k fun m => { m with cmd := some c, pend := none, result := resDone, samples := [], left := !s.parkActive k }
  (s.wr (wME k) ME_STATE.STATE meDrive).meDriveOn k (meDirOf s k c) (meTargetDuty s k c)

/-- The end condition of the running command, from the position. -/
def State.meMoveDone (s : State) (k : Nat) : Bool :=
  match (s.me k).cmd with
  | some (.move t) => (t - s.mePos k).natAbs ≤ s.rd (wME k) ME_BRK.BRK_DIST
  | _ => false

def State.meCheckMove (s : State) (k : Nat) : State :=
  if s.meState k = meDrive ∧ s.meMoveDone k then s.meEnterBrake k resDone else s

/-- A command that ends DONE at once from IDLE. -/
def meAtOnce (s : State) (k : Nat) : MeCmd → Bool
  | .move t => (t - s.mePos k).natAbs ≤ s.rd (wME k) ME_TOL.TOL
  | .park => s.parkActive k
  | _ => false

def meNeedsPark : MeCmd → Bool
  | .park | .sweep => true
  | _ => false

/-- A command that reaches a free engine: starts, or ends at once. -/
def State.meBegin (s : State) (k : Nat) (c : MeCmd) : State :=
  if meAtOnce s k c then s.meEnd k resDone
  else if !s.meMayDrive k then s.meFaultEnd k
  else (s.meStart k c).meCheckMove k

/-- A motion command from whatever source (R352, R354, R359). -/
def State.meCommand (s : State) (k : Nat) (c : MeCmd) : State :=
  let st := s.meState k
  if st = meOff then s
  else if s.isSafe (wME k) then s.sticky (wME k) ME_STAT.CMD_LOST
  else if st = meReverse then
    if c = .stop then s.meEnterBrake k resPinch else s.sticky (wME k) ME_STAT.CMD_LOST
  else if c = .stop then (if st = meDrive then s.meEnterBrake k resStopped else s)
  else if meNeedsPark c && !s.on (wME k) ME_INPUTS.PARK_EN then s.meFaultEnd k
  else if st = meIdle then s.meBegin k c
  else if st = meBrake then s.mapMe k fun m => { m with pend := some c }
  else if meDirOf s k c = s.rd (wME k) ME_STATE.DIRN then
    let s := (s.meEnd k resReplaced).mapMe k fun m =>
      { m with cmd := some c, target := meTargetDuty s k c, ramped := true,
               left := !s.parkActive k }
    let s := s.meApplyDuty k
    if c = .park ∧ s.parkActive k then s.meEnterBrake k resDone else s.meCheckMove k
  else
    let s := s.meEnd k resReplaced
    (s.meEnterBrake k resReplaced).mapMe k fun m => { m with cmd := none, pend := some c }

/-- The command a mode code stands for: 0 stop, 1 park, 2 and 3 continuous, 4 sweep. -/
def meModeCmd (m : Nat) : Option MeCmd :=
  if m = 0 then some .stop else if m = 1 then some .park else if m = 2 ∨ m = 3 then some (.run m)
  else if m = 4 then some .sweep else none

/-- A mode command: ME_MODE reads the last mode commanded. -/
def State.meModeCommand (s : State) (k m : Nat) : State :=
  match meModeCmd m with
  | none => s
  | some c => (s.wr (wME k) ME_MODE.MODE m).meCommand k c

/-- BRAKE has settled: the command ends, and a pending one starts. -/
def State.meSettled (s : State) (k : Nat) : State :=
  let m := s.me k
  let r := match m.cmd with
    | some (.move t) =>
      if m.result = resDone ∧ s.rd (wME k) ME_TOL.TOL < (t - s.mePos k).natAbs then resMiss else m.result
    | _ => m.result
  let s := if r = resReplaced then s else s.meEnd k r
  let s := s.mapMe k fun m => { m with cmd := none, result := 0 }
  let s := s.wr (wME k) ME_SPEED.SPEED 0
  match m.pend with
  | some c =>
    let s := s.mapMe k fun m => { m with pend := none }
    if s.meMayDrive k then (s.meStart k c).meCheckMove k
    else ((s.wr (wME k) ME_STATE.STATE meIdle).hbSetMode k 0).meFaultEnd k
  | none => (s.wr (wME k) ME_STATE.STATE meIdle).hbSetMode k 0

/-- The bridge was set FREE by protection, or its channels left NORMAL and HOLD: a driving engine goes to IDLE with FAULT. -/
def State.meLost (s : State) (k : Nat) : State :=
  if s.meState k = meDrive ∨ s.meState k = meReverse then
    let s := s.mapMe k fun m => { m with cmd := none, pend := none, result := 0, samples := [], revBrake := false, coast := true }
    let s := (s.wr (wME k) ME_FORCE.FORCE 0).wr (wME k) ME_STATE.STATE meIdle
    (s.hbSetMode k 0).meFaultEnd k
  else s

/-- Ends any running command with FAULT, whatever the state (R357, R359, R383 step 0). -/
def State.meForceEnd (s : State) (k : Nat) : State :=
  if s.meState k = meBrake then
    let running := (s.me k).cmd.isSome || (s.me k).pend.isSome
    let s := s.mapMe k fun m => { m with cmd := none, pend := none, result := 0, samples := [] }
    let s := (s.wr (wME k) ME_STATE.STATE meIdle).hbSetMode k 0
    if running then s.meFaultEnd k else s
  else s.meLost k

/-! ## Counting (R350, R351) -/

/-- REVERSE has travelled REV_DIST. -/
def State.meCheckReverse (s : State) (k : Nat) : State :=
  if s.meState k = meReverse ∧ (s.me k).revBrake = false ∧
      s.rd (wME k) ME_REV_DIST.REV_DIST ≤ (s.mePos k - (s.me k).revFrom).natAbs then s.meEnterBrake k resPinch
  else s

/-- One position step: up or down, with the interval since the last one in microseconds, from which the speed follows. -/
def State.meCount (s : State) (k : Nat) (up : Bool) (us : Nat) : State :=
  let s := s.setPos k (s.mePos k + if up then 1 else -1)
  let v := if us = 0 then 32767 else min 32767 (1000000 / us)
  let s := s.wr (wME k) ME_SPEED.SPEED (ofSigned (if up then (v : Int) else -(v : Int)) 16)
  (s.meCheckMove k).meCheckReverse k

/-- |v_emf| in 1/(524,288 x 10^6) counts per second, from the mean bridge voltage in mV / 524,288 and the current in mA, positive in the
direction of the drive (R350). -/
def emf (vbr : Nat) (i : Int) (rm kv : Nat) : Nat := ((1000 * (vbr : Int) - 524288 * (i * (rm : Int))) * (kv : Int)).natAbs

/-- One count per second in the unit of emf. -/
def emfUnit : Nat := 524288000000

/-- V_BR of R350 in mV / 524,288 under a supply of `volt` mV: V x D while the bridge drives, 0 while it brakes. D is the duty the half has, its
derating with it. -/
def State.meBridge (s : State) (k volt : Nat) : Nat :=
  if s.meState k = meBrake ∨ (s.me k).revBrake then 0
  else
    let d := s.rd (wCh (s.meHalf k)) CH_DUTY.DUTY
    volt * (if d = 65535 then 65536 else d) * s.rd (wCh (s.meHalf k)) CH_DERATE.DER

/-- |v_emf| of the engine under a supply and a bridge current. -/
def State.meEmf (s : State) (k volt : Nat) (i : Int) : Nat :=
  emf (s.meBridge k volt) i (s.rd (wME k) ME_MOTOR.RM) (s.rd (wME k) ME_MOTOR.KV)

/-- The engine's bridge is in drive or brake, so that ripples are counted. -/
def State.meRipples (s : State) (k : Nat) : Bool :=
  s.rd (wME k) ME_CFG.TRACK == 0 && (s.meState k == meDrive || s.meState k == meBrake || s.meState k == meReverse)

/-- The reverse drive after the braking of a pinch (R352); with REV_DIST 0 it ends at once in BRAKE. -/
def State.meReverseDrive (s : State) (k : Nat) : State :=
  let s := s.mapMe k fun m => { m with revBrake := false, revFrom := s.mePos k }
  (s.meDriveOn k (1 - s.rd (wME k) ME_STATE.DIRN) (s.rd (wME k) ME_SPEED_B.SPEED_B)).meCheckReverse k

/-- A pinch: PINCH, the tally, the event; REV_BRK of BRAKE_LOW, then the other direction. -/
def State.mePinch (s : State) (k : Nat) : State :=
  let s := (((s.sticky (wME k) ME_STAT.PINCH).count (wME k) ME_PINCHES.COUNT).event (wME k) 1).wr (wME k) ME_STATE.STATE meReverse
  let s := s.mapMe k fun m => { m with result := resPinch, revBrake := true, samples := [] }
  if s.rd (wME k) ME_REV.REV_BRK = 0 then s.meReverseDrive k else s.hbSetMode k 3

/-- The force estimate of R355 in 0.1 N times 1,000 x BASE_WIN, from the samples of DRIVE, the newest last. -/
def forceScaled (ki ks bw i v : Nat) (samples : List (Nat × Nat)) : Nat :=
  let base := (samples.drop (samples.length - 2 * bw)).take bw
  ki * (bw * i - (base.map (·.1)).sum) + 10 * ks * ((base.map (·.2)).sum - bw * v)

/-- The driving direction is the closing one, and the blanking windows are over. -/
def State.meEstimates (s : State) (k : Nat) : Bool :=
  s.on (wME k) ME_CFG.PINCH_EN && s.meState k == meDrive &&
    s.rd (wME k) ME_STATE.DIRN + s.rd (wME k) ME_CFG.CLOSE_DIR == 1 &&
    decide (2 * max 1 (s.rd (wME k) ME_PINCH_WIN.BASE_WIN) ≤ (s.me k).samples.length) &&
    decide (2 * s.rd (wME k) ME_BLANK.BLANK ≤ (s.me k).samples.length)

/-- The position lies in the zone, limits included. -/
def State.meInZone (s : State) (k : Nat) : Bool :=
  decide (toSigned (s.rd (wME k) ME_ZONE.ZONE_LO) 32 ≤ s.mePos k) && decide (s.mePos k ≤ toSigned (s.rd (wME k) ME_ZONE.ZONE_HI) 32)

/-- An end stop (R353): the position takes REF_POS in direction REF_DIR (0 reverse, 1 forward). -/
def State.meStop (s : State) (k : Nat) : State :=
  let s := s.count (wME k) ME_STALLS.COUNT
  let s := if s.on (wME k) ME_CFG.REF_EN ∧ s.rd (wME k) ME_CFG.REF_DIR + s.rd (wME k) ME_STATE.DIRN = 1 then
      (s.setPos k (toSigned (s.rd (wME k) ME_REF_POS.REF_POS) 32)).wr (wME k) ME_STATE.NORM 1
    else s
  if s.meState k = meDrive then (((s.sticky (wME k) ME_STAT.STALL).event (wME k) 2)).meEnterBrake k resEndstop
  else s.meEnterBrake k resPinch

/-- The park switch of an engine changed: park ends when it becomes active, a sweep when it becomes active after it has left (R352). -/
def State.meParkSwitch (s : State) (k : Nat) (active : Bool) : State :=
  if s.meState k ≠ meDrive then s
  else match (s.me k).cmd with
    | some .park => if active then s.meEnterBrake k resDone else s
    | some .sweep =>
      if !active then s.mapMe k fun m => { m with left := true }
      else if (s.me k).left then s.meEnterBrake k resDone else s
    | _ => s

/-! ## Protection and control modes act on the engines -/

/-- A fault of a half ends its engine's drive (R352). -/
def State.meHalfFault (s : State) (n : Nat) : State :=
  if isHalf n ∧ look s.body.hbForced (n / 2) false then s.meLost (n / 2) else s

/-- Gives every channel a control mode; engines that may no longer drive end their command. -/
def State.allModes (s : State) (f : State → Nat → Nat) : State :=
  let s := s.each allChannels fun s n => s.chMode n (f s n)
  s.each (List.range 6) fun s k => if s.meMayDrive k then s else s.meForceEnd k

/-- The row "POR, BOR, PIN or SOFT reset; entry to PARK or DEEP_PARK" of R336. -/
def State.failOff (s : State) : State :=
  let s := s.allModes fun _ _ => ctrlFailoff
  (s.setBody { s.body with holdRun := false }).wr wChannels CHG_STAT.HOLDING 0

def State.limpOrOff (s : State) (n : Nat) : Nat := if s.on (wCh n) CH_LIMP.LIMP_EN then ctrlLimp else ctrlFailoff

/-- The rows "GX heartbeat lost ..." of R336: channels in NORMAL or HOLD go to LIMP or FAILOFF, and FAIL is set. -/
def State.heartbeatRow (s : State) : State :=
  let hit := allChannels.any fun n => s.ctrl n == ctrlNormal || s.ctrl n == ctrlHold
  let s := s.allModes fun s n =>
    if s.ctrl n = ctrlNormal ∨ s.ctrl n = ctrlHold then s.limpOrOff n else s.ctrl n
  let s := (s.setBody { s.body with holdRun := false }).wr wChannels CHG_STAT.HOLDING 0
  if hit then (s.sticky wChannels CHG_STAT.FAIL).event wChannels 1 else s

/-- The rows "MPWARM reset begins" of R336. -/
def State.holdRow (s : State) : State :=
  if s.rd wChannels CHG_HOLD.HOLD_MAX = 0 then s.heartbeatRow
  else
    let s := s.allModes fun s n => if s.ctrl n = ctrlNormal then ctrlHold else s.ctrl n
    (s.setBody { s.body with holdRun := true }).wr wChannels CHG_STAT.HOLDING 1

/-- FAILOFF to LIMP when a GX start has failed (R336). -/
def State.startFailedRow (s : State) : State :=
  s.allModes fun s n => if s.ctrl n = ctrlFailoff then s.limpOrOff n else s.ctrl n

/-- The row "body section installed at phase 1" of R336: protection state OFF, Count 0, then what is commanded. -/
def State.bodyInstalled (s : State) : State :=
  s.each allChannels fun s n =>
    if s.ctrl n = ctrlFailoff ∨ s.ctrl n = ctrlLimp then
      let s := (s.chLeave n protOff).wr (wCh n) CH_RETRY_CNT.COUNT 0
      s.chMode n ctrlNormal
    else s

end Sys2Proof.Machine
end

