-- ==== Sys2Proof/Machine/DrkPeer.lean ====
section
/-! DEFINITION. Derrick's peers (R428 to R434): sending KMP frames in sequenced lanes, acknowledgements, and what a peer leaves behind when
it is lost. The port state machines use it. -/

namespace Sys2Proof.Machine

/-! ## Peers -/

def State.peer (s : State) (n : Nat) : Peer := look s.drk.peers n Peer.reset
def State.setPeer (s : State) (n : Nat) (x : Peer) : State := s.setDrk { s.drk with peers := store s.drk.peers n x Peer.reset }

def psDown : Nat := 0
def psHello : Nat := 1
def psUp : Nat := 2
def psMismatch : Nat := 3

def State.peerState (s : State) (n : Nat) : Nat := s.rd wDerrick DRK_PEER.STATE n
def State.setPeerState (s : State) (n v : Nat) : State := s.wr wDerrick DRK_PEER.STATE v n

/-- KMP runs on the port (R428). -/
def State.kmpOn (s : State) (n : Nat) : Bool :=
  s.on wDerrick DRK_CFG.EN && s.on (wEth n) ETH_CFG.KMP_EN && s.rd (wEth n) ETH_STATE.STATE == 2

def State.feature (s : State) (n k : Nat) : Bool := bit (s.rd wDerrick DRK_PEER.FEAT n) k

/-! ## Frames (R429) -/

def kmpHello : Nat := 0x01
def kmpKeepalive : Nat := 0x02
def kmpWrite : Nat := 0x10
def kmpRead : Nat := 0x11
def kmpResponse : Nat := 0x12
def kmpEvent : Nat := 0x20
def kmpUpdSeg : Nat := 0x30
def kmpUpdAck : Nat := 0x31

/-- The lane of a TYPE: 0 P, 1 C, 2 R, 3 none. -/
def laneOf (ty : Nat) : Nat :=
  if ty = kmpHello ∨ ty = kmpKeepalive then 3 else if ty = kmpResponse then 1 else if ty = kmpRead then 2 else 0

/-- Major and minor version that the module implements, as byte 14 codes them. -/
def kmpVersion : Nat := 0x11

def State.lane (s : State) (n k : Nat) : Lane :=
  if k = 0 then (s.peer n).p else if k = 1 then (s.peer n).c else (s.peer n).r

def State.setLane (s : State) (n k : Nat) (l : Lane) : State :=
  s.setPeer n (if k = 0 then { s.peer n with p := l } else if k = 1 then { s.peer n with c := l } else { s.peer n with r := l })

/-- The bytes of a frame, with the acknowledgements of the moment. -/
def State.kmpBytes (s : State) (n : Nat) (f : KmpFrame) : List Nat :=
  toBytes 0x0180C200000E 6 ++ toBytes (s.rd wDerrick DRK_MAC.MAC n) 6 ++ [0x88, 0xB5] ++
    [if f.ty = kmpHello then kmpVersion else s.rd wDerrick DRK_PEER.VER n, f.ty, laneOf f.ty * 64, f.flags] ++ toBytes f.seq 2 ++
    toBytes (s.lane n 0).rx 2 ++ toBytes (s.lane n 1).rx 2 ++ toBytes (s.lane n 2).rx 2 ++ toBytes f.body.length 2 ++
    toBytes f.tag 2 ++ toBytes f.fence 2 ++ f.body

/-- An Ethernet copy without a route. -/
def plainCopy (cid fid dest tc cells : Nat) (data : List Nat) : Copy :=
  { cid, fid, dest, src := noPort, tc, cells, data, can := none, linId := 0, outCtx := 0, wrap := none, pdu := [], ct := false, sealed := false,
    mirror := false, pduBuild := false, stamp := none, evt := false, inSlot := false, enq := 0, ingressBad := false, ovr := false,
    passed := 0, untimed := false }

/-- A frame of the module's own goes to the Hopper of a port under R133 and R142, if it finds room in the Stockpile. -/
def State.sendOwn (s : State) (n tc : Nat) (data : List Nat) (stamp : Option StampAsk) : State :=
  let cells := cellsOf data.length
  if s.admits noPort cells then
    let fid := s.fab.nextFid
    let cid := s.fab.nextCid
    let s := s.addFrame noPort cells data none none false false
    let s := s.setFab { s.fab with nextCid := cid + 1 }
    s.hopEnqueue n { plainCopy cid fid n tc cells data with stamp }
  else s

/-- Hands a frame to the port's Hopper (R431). One that finds no room is resent. -/
def State.kmpOut (s : State) (n : Nat) (f : KmpFrame) : State :=
  let data := s.kmpBytes n f
  ((s.count wDerrick KMP_TX.COUNT).setPeer n { s.peer n with owes := false }).sendOwn n (s.rd wDerrick DRK_CFG.TC) data none

/-! ## Lanes (R430, R431) -/

/-- A frame of the lane may be sent: the window is open, and a READ passes no P frame that waits (R443). -/
def State.laneOpen (s : State) (n k : Nat) : Bool :=
  (s.lane n k).out.length < 32 && (k != 2 || (s.lane n 0).wait.isEmpty)

/-- The oldest waiting frame of a lane is sent. -/
def State.laneStep (s : State) (n k : Nat) : State :=
  let l := s.lane n k
  match l.wait with
  | [] => s
  | f :: r => if s.laneOpen n k then (s.setLane n k { l with wait := r, out := l.out ++ [(f, 0)] }).kmpOut n f else s

/-- Waiting frames are sent while the windows are open: C first, then P, then R. -/
def State.lanesFlow (s : State) (n : Nat) : State := s.each [1, 0, 2] fun s k => iter (fun s => s.laneStep n k) 32 s

/-- A frame joins its lane with the lane's next sequence number. -/
def State.kmpPush (s : State) (n : Nat) (f : KmpFrame) : State :=
  let k := laneOf f.ty
  let l := s.lane n k
  let s := s.setLane n k { l with tx := (l.tx + 1) % 65536, wait := l.wait ++ [{ f with seq := l.tx }] }
  (if f.ty = kmpWrite then s.setPeer n { s.peer n with fence := (l.tx + 1) % 65536 } else s).lanesFlow n

/-- HELLO and KEEPALIVE have no lane. -/
def State.kmpLoose (s : State) (n ty : Nat) (body : List Nat) : State := s.kmpOut n ⟨ty, 0, 0, 0, 0, body⟩

/-- The largest UPD_SEG payload that fits the port's frames. -/
def State.segRoom (s : State) (n : Nat) : Nat := s.rd (wEth n) ETH_MAX_FRAME.MAX - 36

def State.sendHello (s : State) (n : Nat) : State :=
  s.kmpLoose n kmpHello ([1, 1, 0, 0x0F] ++ toBytes Config.deviceId.toNat 16 ++ toBytes (s.segRoom n) 2)

def State.sendKeepalive (s : State) (n : Nat) : State := s.kmpLoose n kmpKeepalive []

/-- A cumulative acknowledgement of a lane: the frames before it are done. -/
def State.laneAck (s : State) (n k ack : Nat) : State :=
  let l := s.lane n k
  match l.out with
  | [] => s
  | (f, _) :: _ =>
    let m := (ack + 65536 - f.seq) % 65536
    if m ≤ l.out.length then s.setLane n k { l with out := l.out.drop m } else s

/-! ## Failures (R445, R447) -/

/-- REM_ERR, and the first record (DRK_ERR_ADDR card). -/
def State.drkRecord (s : State) (peer kind addr : Nat) : State :=
  if s.rd wDerrick DRK_ERR_ADDR.KIND = 0 then
    ((s.wr wDerrick DRK_ERR_ADDR.PEER peer).wr wDerrick DRK_ERR_ADDR.KIND kind).wr wDerrick DRK_ERR_ADDR.ADDR addr
  else s

def State.remErr (s : State) : State := (s.sticky wDerrick DRK_STAT.REM_ERR).event wDerrick 2

/-- KIND of DRK_ERR_ADDR for a reason 0xB0 to 0xB2. -/
def remKind (reason : Nat) : Nat := reason - 0xAF

/-- What the face that issued a read sees of its failure. -/
def State.faceFail (s : State) (why : ReadFor) : State :=
  match why with
  | .spi => match s.host.delayed with
      | some d => if d.done.isNone then s.setHost { s.host with delayed := some { d with done := some none } } else s
      | none => s
  | .pcie tag _ => s.emit (.completion tag false [])
  | .mp => s.emit (.readData initMp [])
  | .lost | .poll | .map _ => s

/-- An outbound read ends failed. One whose lease has expired has ended already (R95). A poll changes nothing but KMP_FAILED and REM_ERR. -/
def State.readFail (s : State) (r : OutRead) (reason : Nat) : State :=
  let s := s.setDrk { s.drk with reads := s.drk.reads.filter (· != r), readQ := s.drk.readQ.filter (· != r) }
  if r.why = .lost then s else
  let s := s.count wDerrick KMP_FAILED.COUNT
  if r.why = .poll then s.remErr
  else (((s.drkRecord r.peer (remKind reason) r.want).remErr).endOther wDerrick .failed reason .remote noPort noPort).faceFail r.why

/-! ## Fetches of remote descriptors (R435) -/

/-- Sends a READ in a tracker, with a new TAG. -/
def State.sendRead (s : State) (r : OutRead) : State :=
  let t := s.drk.nextTag
  let s := s.setDrk { s.drk with nextTag := (t + 1) % 65536, reads := s.drk.reads ++ [{ r with tag := t, sent := true }] }
  s.kmpPush r.peer ⟨kmpRead, 0, b2n r.spec * 128 + r.origin * 16, t, (s.peer r.peer).fence, toBytes r.addr 3 ++ [r.len - 1]⟩

def State.trackerFree (s : State) : Bool := s.drk.reads.length < 16

def State.mapOn (s : State) (i : Nat) : Bool := s.on wDerrick DRK_MAP.EN i
def State.mapPeer (s : State) (i : Nat) : Nat := s.rd wDerrick DRK_MAP.PEER i
def State.mapWin (s : State) (i : Nat) : Nat := s.rd wDerrick DRK_MAP.RWIN i

/-- A read begins, or waits for a tracker. -/
def State.startRead (s : State) (r : OutRead) : State :=
  if s.trackerFree then s.sendRead r else s.setDrk { s.drk with readQ := s.drk.readQ ++ [r] }

/-- A read of the bridge's own: offset and length in the peer's address space. -/
def State.bridgeRead (s : State) (why : ReadFor) (peer addr len : Nat) : State :=
  s.startRead
    { why, peer, tag := 0, origin := 3, win := 0, addr, len, want := addr, wantLen := len, pre := [], spec := why == .poll,
      sent := true, began := s.clk }

/-- The reads and the fetches that wait begin while trackers are free. -/
def State.fetchNext (s : State) : State :=
  if !s.trackerFree then s
  else match s.drk.readQ, s.drk.fetchQ with
  | x :: q, _ => (s.setDrk { s.drk with readQ := q }).sendRead x
  | [], [] => s
  | [], i :: r =>
    let s := s.setDrk { s.drk with fetchQ := r }
    if s.mapOn i && s.peerState (s.mapPeer i) == psUp && s.feature (s.mapPeer i) 0 then s.bridgeRead (.map i) (s.mapPeer i) (s.mapWin i * 4096) 32 else s

def State.fetchFlow (s : State) : State := iter State.fetchNext 16 s

/-- A window's descriptor is to be fetched. -/
def State.fetch (s : State) (i : Nat) : State := (s.setDrk { s.drk with fetchQ := addTo s.drk.fetchQ i }).fetchFlow

/-- The delayed read of the SPI face has ended: its READ goes on for nobody (R95, R445). -/
def State.loseSpiReads (s : State) : State :=
  let f := fun (r : OutRead) => if r.why = .spi then { r with why := .lost } else r
  s.setDrk { s.drk with reads := s.drk.reads.map f, readQ := s.drk.readQ.map f }

/-! ## A peer leaves UP (R434) -/

/-- A response that waits to be sent for a read performed. -/
def isPerformed (f : KmpFrame) : Bool := f.ty == kmpResponse && f.body.headD 0 != 0x5A

/-- The work that involves the peer ends. -/
def State.peerAccount (s : State) (n : Nat) : State :=
  let s := s.each ((s.drk.reads ++ s.drk.readQ).filter fun r => r.peer == n) fun s r => s.readFail r 0xB0
  let x := s.peer n
  let writes := ((x.p.out.map (·.1)) ++ x.p.wait).filter fun f => f.ty == kmpWrite
  let s := s.each writes fun s _ => (s.count wDerrick KMP_FAILED.COUNT).endOther wDerrick .failed 0xB0 .remote noPort noPort
  let lost := (x.c.wait.filter isPerformed).length
  let s := if lost = 0 then s else (s.sticky wDerrick DRK_STAT.RSP_LOST).count wDerrick KMP_RSP_LOST.COUNT 0 lost
  let s := s.setPeer n Peer.reset
  let s := s.setDrk { s.drk with
    found := s.drk.found.filter fun i => s.mapPeer i != n,
    fetchQ := s.drk.fetchQ.filter fun i => s.mapPeer i != n }
  let s := ((s.wr wDerrick DRK_PEER.VER 0 n).wr wDerrick DRK_PEER.FEAT 0 n).wr wDerrick DRK_PID.PID 0 n
  (s.wr wDerrick (DRK_PSUM.SUM.elem n) 0).fetchFlow

/-- UP to HELLO: the peer is lost. -/
def State.peerLost (s : State) (n : Nat) : State :=
  (((s.peerAccount n).sticky wDerrick DRK_STAT.PEER_LOST).setPeerState n psHello).event wDerrick 1

/-- The peer follows KMP on its port: the rows of R432 from and to DOWN. -/
def State.peerSync (s : State) (n : Nat) : State :=
  if s.kmpOn n then (if s.peerState n = psDown then (s.setPeerState n psHello).sendHello n else s)
  else if s.peerState n = psDown then s
  else
    let was := s.peerState n
    let s := (s.peerAccount n).setPeerState n psDown
    if was = psUp then s.sticky wDerrick DRK_STAT.PEER_LOST else s

end Sys2Proof.Machine
end

