-- ==== Sys2Proof/Machine/PortOps.lean ====
section
/-! DEFINITION. The port state machines as operations: Ethernet training, sleep and wake (R166 to R170), the CAN controller's states and
the end of its frames (08, state table), and the LIN runner's start, stop, sleep and wake (R224, R225). -/

namespace Sys2Proof.Machine

/-! ## Ethernet -/

def ethDisabled : Nat := 0
def ethTraining : Nat := 1
def ethUp : Nat := 2
def ethSleepReq : Nat := 3
def ethSleeping : Nat := 4
def ethLoop : Nat := 5

def State.ethState (s : State) (p : Nat) : Nat := s.rd (wEth p) ETH_STATE.STATE
def State.setEthState (s : State) (p v : Nat) : State := s.wr (wEth p) ETH_STATE.STATE v

/-- ETH0 to ETH5 have external PHYs, ETH6 to ETH15 integrated ones (R156). -/
def isSerdes (p : Nat) : Bool := p < 6

/-- PHY_RST_N of a port; low while a PHY_RESET pulse runs. -/
def State.phyReset (s : State) (p : Nat) (low : Bool) : State :=
  if isSerdes p then s.setEth { s.eth with rstLow := store s.eth.rstLow p low false } else s

/-- DISABLED or SLEEPING takes the pin low and keeps it there, or lets go of it (R159). -/
def State.phyHeld (s : State) (p : Nat) : Bool := look s.eth.phyHold p false
def State.setPhyHeld (s : State) (p : Nat) (x : Bool) : State :=
  s.setEth { s.eth with phyHold := store s.eth.phyHold p (x && isSerdes p) false }

def State.mdioList (s : State) (p : Nat) : List Mdio := look s.eth.mdioList p []
def State.setMdioList (s : State) (p : Nat) (l : List Mdio) : State :=
  s.setEth { s.eth with mdioList := store s.eth.mdioList p l [] }

def State.sleepStep (s : State) (p : Nat) : SleepStep := look s.eth.sleep p .none
def State.setSleepStep (s : State) (p : Nat) (x : SleepStep) : State :=
  s.setEth { s.eth with sleep := store s.eth.sleep p x .none }

/-- The rate code of an interface's highest rate (R156, ETH_STATE card). -/
def topRate (ifc : Nat) : Nat :=
  if ifc = 1 ∨ ifc = 2 then 5 else if ifc = 3 then 2 else if ifc = 4 then 3 else if ifc = 5 then 1 else 0

/-- Starts training and its timer. The pin rises when the port leaves DISABLED or SLEEPING (R159). -/
def State.train (s : State) (p : Nat) : State :=
  let s := (s.setEthState p ethTraining).wr (wEth p) ETH_STATE.RATE 0
  let s := s.setEth { s.eth with linkTo := store s.eth.linkTo p (s.rd (wEth p) ETH_LINK_TO.LINK_TO != 0) false }
  let s := s.setPhyHeld p false
  (if look s.eth.pulse p false then s else s.phyReset p false).peerSync p

/-- A training failure. -/
def State.trainFail (s : State) (p : Nat) : State :=
  ((s.sticky (wEth p) ETH_STAT.TRAIN_FAIL).count (wEth p) ETH_TRAIN_FAILS.COUNT).event (wEth p) 6

/-- Link up: UP with a rate, and the egress reader learns of it. -/
def State.ethGoUp (s : State) (p rate : Nat) : State :=
  let s := ((s.setEthState p ethUp).wr (wEth p) ETH_STATE.RATE rate).event (wEth p) 0
  ((s.setEth { s.eth with linkTo := store s.eth.linkTo p false false }).readerUp p).peerSync p

/-- A sleep attempt ends without sleep: SLEEP reads 0 again. -/
def State.sleepFail (s : State) (p : Nat) : State :=
  ((s.sticky (wEth p) ETH_STAT.SLEEP_FAIL).wr (wEth p) ETH_CTRL.SLEEP 0).setSleepStep p .none

/-- UP to TRAINING: the reader goes down, LINK_DOWNS counts one, EV bit 1. -/
def State.ethDrop (s : State) (p : Nat) : State :=
  (((s.count (wEth p) ETH_LINK_DOWNS.COUNT).event (wEth p) 1).readerDown p).train p

/-- The row "link lost". -/
def State.linkLost (s : State) (p : Nat) : State :=
  if s.ethState p = ethUp then (s.sticky (wEth p) ETH_STAT.LINK_LOST).ethDrop p
  else if s.ethState p = ethSleepReq then ((s.sleepFail p).sticky (wEth p) ETH_STAT.LINK_LOST).ethDrop p
  else s

/-- SLEEP takes UP to SLEEP_REQ and starts the drain; not in the safe state. DESIGN CHOICE: the egress reader stays up, though R166 gives link
down on leaving UP: the drain of R169 and the dequeued copy of R170 need it. -/
def State.sleepStart (s : State) (p : Nat) : State :=
  if s.ethState p = ethUp ∧ s.isSafe (wEth p) = false then
    (((s.setEthState p ethSleepReq).wr (wEth p) ETH_CTRL.SLEEP 1).setSleepStep p .drain).peerSync p
  else s

/-- The Hopper holds no copy and none is in transmission. -/
def State.hopEmpty (s : State) (p : Nat) : Bool :=
  allClasses.all (fun c => s.queue p c == []) && (s.sending p).isNone

/-- Back to UP from SLEEP_REQ. -/
def State.sleepAbort (s : State) (p : Nat) : State := ((s.sleepFail p).setEthState p ethUp).peerSync p

/-- WAKE, from the register or the wake unit: SLEEPING to TRAINING with a wake-up pulse or the release of PHY_RST_N, SLEEP_REQ back to
UP; no effect elsewhere (R166, R168). -/
def State.ethWake (s : State) (p : Nat) : State :=
  if s.ethState p = ethSleeping then
    let s := if isSerdes p then s else s.emit (.ethLine p 1)
    (s.event (wEth p) 3).train p
  else if s.ethState p = ethSleepReq then s.sleepAbort p
  else s

/-- A copy enqueued in SLEEPING wakes a port that is set to (R166, R170). -/
def State.txWakes (s : State) (p : Nat) : Bool := s.on (wEth p) ETH_SLEEP_CFG.WAKE_ON_TX && !s.isSafe (wEth p)

/-- The handshake is complete: SLEEPING, the transmitter silent. A copy that the reader holds then ends with the link down, and counts as one
enqueued in SLEEPING (R170). -/
def State.sleepDone (s : State) (p : Nat) : State :=
  let copy := (s.sending p).isSome
  let s := (s.setEthState p ethSleeping).wr (wEth p) ETH_STATE.RATE 0
  let s := (((s.wr (wEth p) ETH_CTRL.SLEEP 0).setSleepStep p .none).count (wEth p) ETH_SLEEPS.COUNT).event (wEth p) 2
  let s := if s.on (wEth p) ETH_SLEEP_CFG.RST_SLEEP then (s.phyReset p true).setPhyHeld p true else s
  let s := (s.readerDown p).peerSync p
  if copy && s.txWakes p then s.ethWake p else s

/-- EN written 0 (R166). -/
def State.ethDisable (s : State) (p : Nat) : State :=
  if s.ethState p = ethDisabled then s
  else
    let s := if s.ethState p = ethSleepReq then s.sleepFail p else s
    let s := (s.readerDown p).setEthState p ethDisabled
    let s := (s.wr (wEth p) ETH_STATE.RATE 0).wr (wEth p) ETH_LOOP.MODE 0
    (((s.setEth { s.eth with linkTo := store s.eth.linkTo p false false }).phyReset p true).setPhyHeld p true).peerSync p

/-- EN written 1, or a section installed with EN 1 (R166); the image's MDIO writes come first (R163). -/
def State.ethEnable (s : State) (p : Nat) : State :=
  if s.ethState p = ethDisabled ∧ s.rd (wEth p) ETH_CFG.IF ≠ 0 ∧ s.mdioList p = [] then s.train p else s

/-! ### MDIO (R161 to R163) -/

def mdioBus (p : Nat) : Nat := if p < 2 then 0 else 1

def State.bus (s : State) (b : Nat) : List Mdio := if b = 0 then s.eth.bus0 else s.eth.bus1

def State.setBus (s : State) (b : Nat) (l : List Mdio) : State :=
  s.setEth (if b = 0 then { s.eth with bus0 := l } else { s.eth with bus1 := l })

/-- A port has a transaction outstanding, of its GO or of its list: at most one (R162). -/
def State.mdioBusy (s : State) (p : Nat) : Bool :=
  s.on (wEth p) ETH_MDIO_CTRL.GO || s.mdioList p != [] || (s.bus (mdioBus p)).any fun m => m.port == p

def State.mdioPut (s : State) (m : Mdio) : State := s.setBus (mdioBus m.port) (s.bus (mdioBus m.port) ++ [m])

/-- The next write of a port's list joins its bus; after the last, a port with EN 1 starts to train. -/
def State.mdioListGo (s : State) (p : Nat) : State :=
  match s.mdioList p with
  | m :: _ => s.mdioPut m
  | [] => s

/-- The port's transactions are forgotten. -/
def State.mdioDrop (s : State) (p : Nat) : State :=
  (s.setBus (mdioBus p) ((s.bus (mdioBus p)).filter fun m => m.port != p)).setMdioList p []

/-- What the module drives of one frame of IEEE 802.3 clause 22 or 45: 32 ones, ST, OP, the two addresses, and in a frame that carries data or
an address, the turnaround and the 16 bits. -/
def mdioFrame (st op phyad reg : Nat) (data : Option Nat) : List Bool :=
  let put := fun (n v : Nat) => (List.range n).map fun k => bit v (n - 1 - k)
  List.replicate 32 true ++ put 2 st ++ put 2 op ++ put 5 phyad ++ put 5 reg ++ (match data with
    | some d => put 2 2 ++ put 16 d
    | none => [])

/-- R162: a clause 45 transaction is an address frame and a data frame. -/
def mdioFrames (m : Mdio) : List (List Bool) :=
  let data := if m.wr then some m.data else none
  if m.c45 then [mdioFrame 0 0 m.phyad m.devad (some m.reg), mdioFrame 0 (if m.wr then 1 else 3) m.phyad m.devad data]
  else [mdioFrame 1 (if m.wr then 1 else 2) m.phyad m.reg data]

/-! ## CAN -/

def canOff : Nat := 0
def canIntegrate : Nat := 1
def canActive : Nat := 2
def canPassive : Nat := 3
def canBusOff : Nat := 4
def canRecover : Nat := 5
def canListen : Nat := 6
def canSleep : Nat := 7

def State.canState (s : State) (p : Nat) : Nat := s.rd (wCan p) CAN_STATE.STATE
def State.setCanState (s : State) (p v : Nat) : State := s.wr (wCan p) CAN_STATE.STATE v

/-- The controller takes part in what it receives. -/
def State.hears (s : State) (p : Nat) : Bool :=
  s.canState p == canActive || s.canState p == canPassive || s.canState p == canListen

def State.txq (s : State) (p : Nat) : List Copy := look s.can.txq p []
def State.setTxq (s : State) (p : Nat) (l : List Copy) : State := s.setCan { s.can with txq := store s.can.txq p l [] }

def objKey (p k : Nat) : Nat := p * 128 + k

/-- A field of object k. -/
def State.obj (s : State) (p k : Nat) (f : Field) : Nat := s.rd (wCan p) f (k + 1)
def State.setObj (s : State) (p k : Nat) (f : Field) (v : Nat) : State := s.wr (wCan p) f v (k + 1)

def allObjects : List Nat := List.range 128

/-- What every frame that ends dropped at a CAN port counts (CAN_TX_DROPS, TX_DROP). -/
def State.canDropped (s : State) (p : Nat) : State :=
  (s.count (wCan p) CAN_TX_DROPS.COUNT).sticky (wCan p) CAN_STAT.TX_DROP

/-- Ends a copy at a CAN port dropped. -/
def State.canDrop (s : State) (p : Nat) (c : Copy) (reason : Nat) : State :=
  ((s.canDropped p).event (wCan p) 6).endCopy (wCan p) c .dropped reason

/-- Ends the frame of a send object (R217): TXRQ clears, DISP and REASON are written, EV bit 3. -/
def State.objEnd (s : State) (p k : Nat) (d : Disp) (reason : Nat) : State :=
  let s := ((s.setObj p k CAN_OBJ_VIEW.TXRQ 0).setObj p k CAN_OBJ_VIEW.DISP d.code).setObj p k CAN_OBJ_VIEW.REASON reason
  let s := s.setCan { s.can with
    objSeq := erase s.can.objSeq (objKey p k), objEnq := erase s.can.objEnq (objKey p k),
    abortReq := erase s.can.abortReq (objKey p k) }
  let s := if 2 ≤ d.code then (s.canDropped p).endOther (wCan p) d reason .canObject noPort noPort else s
  s.event (wCan p) 3

/-- Send objects whose frame has not ended. -/
def State.pendingObjects (s : State) (p : Nat) : List Nat :=
  allObjects.filter fun k => s.obj p k CAN_OBJ_VIEW.TXRQ == 1

/-- Drops every queued copy. -/
def State.canDropCopies (s : State) (p reason : Nat) : State :=
  ((s.txq p).foldl (fun s c => s.canDrop p c reason) s).setTxq p []

def State.canDropAll (s : State) (p reason : Nat) : State :=
  let s := s.canDropCopies p reason
  let s := s.each (s.pendingObjects p) fun s k => s.objEnd p k .dropped reason
  s.setCan { s.can with sending := erase s.can.sending p }

/-- Network sleep (state table): the controller enters SLEEP, its transceiver STANDBY when it is armed and SLEEP otherwise (R370). The
frame error counter is cleared on each entry to STANDBY (R372). -/
def State.canToSleep (s : State) (p : Nat) : State :=
  let st := s.canState p
  let s := if st = canActive ∨ st = canPassive ∨ st = canListen ∨ st = canIntegrate then s.setCanState p canSleep else s
  if s.rd (wCanT p) CANT_ARM.ARM = 0 then s.wr (wCanT p) CANT_MODE.MODE 3
  else (s.wr (wCanT p) CANT_MODE.MODE 2).wr (wCanT p) CANT_FEC.FEC 0

/-- A wake: the transceiver in NORMAL, the controller in INTEGRATE with its counters (R368). -/
def State.canWakeUp (s : State) (p : Nat) : State :=
  let s := s.wr (wCanT p) CANT_MODE.MODE 0
  if s.canState p = canSleep then s.setCanState p canIntegrate else s

/-! ## LIN -/

def linOff : Nat := 0
def linIdle : Nat := 1
def linRun : Nat := 2
def linSleep : Nat := 3

def State.linState (s : State) (p : Nat) : Nat := s.rd (wLin p) LIN_SCHED_STAT.STATE
def State.setLinState (s : State) (p v : Nat) : State := s.wr (wLin p) LIN_SCHED_STAT.STATE v

def idKey (p i : Nat) : Nat := p * 64 + i

def State.linUnsent (s : State) (p i : Nat) : Bool := s.on (wLin p) (LIN_FRAME_STAT.UNSENT.elem i)

/-- The end of a LIN copy, an item of its own kind (R224, R454): LIN_DROPS counts it where it is dropped. -/
def State.linEnd (s : State) (p : Nat) (c : Copy) (d : Disp) (reason : Nat) : State :=
  let s := if 2 ≤ d.code then (s.count (wLin p) LIN_DROPS.COUNT).event (wLin p) 3 else s
  (s.endOther (wLin p) d reason .linCopy c.src c.dest).release c.fid (d.code * 256 + reason)

/-- The end of the copy that owns a buffer, when there is one. -/
def State.linOwnerEnd (s : State) (p i : Nat) (d : Disp) (reason : Nat) : State :=
  match s.lin.owner.find? (·.1 == idKey p i) with
  | none => s
  | some (_, c) =>
    (s.setLin { s.lin with owner := erase s.lin.owner (idKey p i) }).linEnd p c d reason

/-- Unsent data ends for every identifier. -/
def State.linDropAll (s : State) (p reason : Nat) : State :=
  s.each (List.range 64) fun s i =>
    (s.linOwnerEnd p i .dropped reason).wr (wLin p) (LIN_FRAME_STAT.UNSENT.elem i) 0

/-- Starts a table at its first entry. An empty table stops the schedule (LIN_TABk card). -/
def State.linStart (s : State) (p t : Nat) : State :=
  let s := s.setLin { s.lin with pendTab := erase s.lin.pendTab p, collTab := erase s.lin.collTab p,
                                 saved := erase s.lin.saved p, slot := erase s.lin.slot p }
  let s := (s.wr (wLin p) LIN_SCHED_STAT.PEND 0).wr (wLin p) LIN_SCHED_STAT.COLL 0
  if s.rd (wLin p) (LIN_TAB.LEN.elem t) = 0 then s.setLinState p linIdle
  else
    let s := (s.setLinState p linRun).wr (wLin p) LIN_SCHED_STAT.CUR t
    s.wr (wLin p) LIN_SCHED_POS.POS (s.rd (wLin p) (LIN_TAB.START.elem t))

/-- The runner stops: no slot, no pending switch. -/
def State.linStop (s : State) (p st : Nat) : State :=
  let s := s.setLin { s.lin with pendTab := erase s.lin.pendTab p, collTab := erase s.lin.collTab p,
                                 saved := erase s.lin.saved p, slot := erase s.lin.slot p,
                                 sleepDue := erase s.lin.sleepDue p }
  ((s.wr (wLin p) LIN_SCHED_STAT.PEND 0).wr (wLin p) LIN_SCHED_STAT.COLL 0).setLinState p st

/-- The go-to-sleep command: master request 0x3C with 0x00 and seven 0xFF, classic checksum (R370); then SLEEP. -/
def State.linGoToSleep (s : State) (p : Nat) : State :=
  let s := s.emit (.linHeader p 0x3C)
  let s := s.emit (.linResponse p [0, 255, 255, 255, 255, 255, 255, 255] 0)
  ((s.count (wLin p) LIN_HEADERS.COUNT).linStop p linSleep).wr (wLinT p) LINT_CTRL.MODE 2

/-- A LIN network is put to sleep: at once without a slot in progress, else at its end. -/
def State.linToSleep (s : State) (p : Nat) : State :=
  if s.linState p = linOff then s.wr (wLinT p) LINT_CTRL.MODE 2
  else if (s.lin.slot.find? (·.1 == p)).isSome then s.setLin { s.lin with sleepDue := store s.lin.sleepDue p true false }
  else s.linGoToSleep p

/-- A LIN network wakes: the transceiver in NORMAL and the wake-up signal of 1 ms (R370). -/
def State.linWakeUp (s : State) (p : Nat) : State :=
  (s.wr (wLinT p) LINT_CTRL.MODE 0).emit (.linWake p)

end Sys2Proof.Machine
end

