-- ==== Sys2Proof/Machine/WakeOps.lean ====
section
/-! DEFINITION. What a wake does to the power state (R361, R380, R384), the networks' sleep and wake (R360 to R371), and the CAN logical
ring (R364 to R366). -/

namespace Sys2Proof.Machine

/-! ## Power -/

/-- WAKE_IO is to be driven (R373): in WIO_MODE 1 by a pulse, in WIO_MODE 2 whenever GX is powered. -/
def State.wioDriven (s : State) : Bool :=
  let m := s.rd wWake WK_CFG.WIO_MODE
  (m == 1 && s.wake.wioPulse) || (m == 2 && s.pins.pgood)

/-- The pin follows; the end of a drive is noted. -/
def State.wioSync (s : State) : State :=
  let d := s.wioDriven
  if d = s.wake.wioOut then s
  else (s.setWake { s.wake with wioOut := d, wioEnd := if d then s.wake.wioEnd else some s.clk }).emit (.wakeIo d)

/-- Raises GX_PWR_EN, or leaves the start to the end of the off time (R69, R72). -/
def State.startPower (s : State) : State :=
  if s.pins.offTime then s.setPins { s.pins with startWanted := true }
  else s.setPins { s.pins with pwrEn := true, attempts := 0 }

/-- Clears a pending PARK (R382). -/
def State.clearPark (s : State) : State := (s.wr wPwr PWR_STATE.PEND 0).wr wPwr PWR_CTRL.PARK 0

/-- Abandons a park entry before its commit (R384). -/
def State.abandonPark (s : State) : State :=
  (((s.setPwr { s.pwr with entryStep := none }).clearPark).sticky wPwr PWR_STAT.ABANDON).event wPwr 0

/-- Aborts the self-test after the commit (R384): the start that follows is cold. -/
def State.abortSelfTest (s : State) : State :=
  let s := s.setPwr { s.pwr with
    entryStep := none, cause := 8, state := .run, memDone := false, ixDone := false, found := [], ixFail := false, wakeClk := s.clk }
  (s.sticky wPwr PWR_STAT.ST_ABORT).wr wBist BIST_RESULT.VALID 0

/-- A source event whose route has PWR 1 (R361, R380, R382, R384). In RUN with GX unpowered after three failed attempts it is the next wake
edge of R70. -/
def State.powerWake (s : State) : State :=
  match s.pwr.state with
  | .park | .deepPark => (s.setPwr { s.pwr with state := .run, cause := 7, wakeClk := s.clk }).startPower
  | .run | .partialRun =>
    match s.pwr.entryStep with
    | some k => if k ≤ 3 then s.abandonPark else s.abortSelfTest
    | none => if s.gxOn || s.pins.pwrEn then s.clearPark else s.startPower
  | .backup | .off => s

def State.parked (s : State) : Bool := s.pwr.state == .park || s.pwr.state == .deepPark

/-! ## Networks -/

def nsAwake : Nat := 1
def nsReady : Nat := 2
def nsWait : Nat := 3
def nsSwitch : Nat := 4
def nsAsleep : Nat := 5
def nsLimp : Nat := 6

def allNets : List Nat := List.range 44
def isEthNet (n : Nat) : Bool := n < 16
def isCanNet (n : Nat) : Bool := 16 ≤ n && n < 32
def isLinNet (n : Nat) : Bool := 32 ≤ n && n < 44
def netOfCan (p : Nat) : Nat := 16 + p
def netOfLin (p : Nat) : Nat := 32 + p

def State.netMember (s : State) (n : Nat) : Nat := s.rd wWake (WK_NET.MEMBER.elem n)
def State.managed (s : State) (n : Nat) : Bool := s.netMember n != 0
def State.netState (s : State) (n : Nat) : Nat := s.rd wWake (WK_NET_STATE.STATE.elem n)

/-- RUN or PARTIAL by the networks (R380). -/
def State.evalPartial (s : State) : State :=
  let some' := allNets.any fun n => s.managed n && (s.netState n == nsSwitch || s.netState n == nsAsleep)
  match s.pwr.state with
  | .run | .partialRun => s.setPwr { s.pwr with state := if some' then .partialRun else .run }
  | _ => s

/-- A PNC is requested by its local bit or its hold (R360). -/
def State.pncRequested (s : State) (p : Nat) : Bool :=
  bit (s.rd wWake WK_PNC_LOCAL.LOCAL) p || s.wake.pncHold.contains p

/-- WK_PNC_REQ. -/
def State.pncReq (s : State) : Nat :=
  ((List.range 24).map fun p => if s.pncRequested p then 2 ^ p else 0).sum

/-- The first condition of R382; it is taken as failing while debug is open (R412) or a trial runs (R424). -/
def State.parkReady (s : State) : Bool :=
  allNets.all (fun n => !s.managed n || s.netState n == nsAsleep) && s.pncReq == 0 && s.debugLevel == 0 &&
    !s.on wUpd UPD_FW_STAT.TRIAL

/-- Park entry may begin: GX runs, no entry runs, no TAMPERED mark (R381), PWR not in its safe state (R394). -/
def State.parkAllowed (s : State) : Bool :=
  (s.pwr.state == .run || s.pwr.state == .partialRun) && s.gxOn && s.pwr.entryStep.isNone && !s.pwr.tampered && !s.isSafe wPwr

/-- No engine drives. -/
def State.enginesIdle (s : State) : Bool := (List.range 6).all fun k => s.meState k == meIdle || s.meState k == meOff

/-- ME_WAIT has passed in step 0: the commands that still run end (R383). -/
def State.enginesForced (s : State) : State :=
  if s.enginesIdle then s
  else
    let busy := (List.range 6).filter fun k => s.meState k != meIdle && s.meState k != meOff
    (s.each busy fun s k => s.meForceEnd k).sticky wPwr PWR_STAT.ME_FORCED

/-- Step 0 of the entry (R383); with ME_WAIT 0 running commands end at once. -/
def State.entryBegins (s : State) : State :=
  let s := s.setPwr { s.pwr with entryStep := some 0 }
  if s.rd wPwr PWR_ME_WAIT.ME_WAIT = 0 then s.enginesForced else s

/-- A pending PARK whose conditions hold begins the entry, and PARK_AUTO with PARK_DLY 0 as well (R382). -/
def State.parkCheck (s : State) : State :=
  if (s.on wPwr PWR_STATE.PEND || (s.on wPwr PWR_CFG.PARK_AUTO && s.rd wPwr PWR_PARK_DLY.PARK_DLY == 0)) && s.parkAllowed && s.parkReady then
    s.entryBegins
  else s

def State.setNet (s : State) (n v : Nat) : State := (s.wr wWake (WK_NET_STATE.STATE.elem n) v).evalPartial.parkCheck

/-- A managed network is requested (R360). -/
def State.netRequested (s : State) (n : Nat) : Bool :=
  s.managed n && (s.wake.netHold.contains n || (List.range 24).any fun p => bit (s.netMember n) p && s.pncRequested p)

/-- Nothing puts an unmanaged network to sleep (R360). -/
def State.netWanted (s : State) (n : Nat) : Bool := !s.managed n || s.netRequested n

def State.hasRing (s : State) (n : Nat) : Bool := isCanNet n && s.wake.ring.contains (n - 16)

/-! ### Ring messages (R364) -/

def nmRing : Nat := 1
def nmAlive : Nat := 2
def nmLimp : Nat := 4
def nmInd : Nat := 16
def nmAck : Nat := 32

def State.nm (s : State) (p : Nat) (f : Field) : Nat := s.rd wWake f p

/-- The successor (R365): the next present address above NODE, wrapping; NODE when no other node is present. -/
def successor (present node : Nat) : Nat :=
  ((List.range 63).map fun k => (node + 1 + k) % 64).find? (bit present) |>.getD node

def State.canTalks (s : State) (p : Nat) : Bool := s.canState p == canActive || s.canState p == canPassive

/-- Sends a ring message with its flags; SLEEP_IND is that of the network's state or wish. -/
def State.sendNm (s : State) (p flags : Nat) : State :=
  let node := s.nm p WK_NM_CFG.NODE
  let pnc := s.pncReq &&& s.netMember (netOfCan p)
  let data := [successor (s.nm p WK_NM_PRESENT.PRESENT) node, flags, pnc / 65536, pnc / 256 % 256, pnc % 256, 0, 0, 0]
  let hdr : CanHdr := { fmt := 0, dlc := 0, ide := false, id := s.nm p WK_NM_CFG.NM_BASE + node, rtr := false, brs := false, esi := false,
                        sdt := 0, vcid := 0, sec := false, af := 0 }
  let s := (s.emit (.canFrame p hdr data)).count wWake NM_TX.COUNT p
  s.setWake { s.wake with sleepInd := erase s.wake.sleepInd p }

/-- ALIVE with SLEEP_IND 0: at once, or as soon as the controller is back on its bus. -/
def State.sendAlive (s : State) (p : Nat) : State :=
  if s.canTalks p then (s.setWake { s.wake with alive := dropFrom s.wake.alive p }).sendNm p nmAlive
  else s.setWake { s.wake with alive := addTo s.wake.alive p }

/-- SLEEP_IND is 1 in READY and 0 in AWAKE (R365). -/
def State.indFlag (s : State) (p : Nat) : Nat := if s.netState (netOfCan p) = nsReady then nmInd else 0

/-! ### Sleeping and waking -/

/-- Sends a network to sleep (R363, R369, R370). An Ethernet port that cannot take SLEEP is tried again after a further DELAY. -/
def State.netSleep (s : State) (n : Nat) : State :=
  if isEthNet n then
    let s := s.setWake { s.wake with delay := addTo s.wake.delay n }
    s.sleepStart n
  else
    let s := s.setWake { s.wake with delay := dropFrom s.wake.delay n, late := dropFrom s.wake.late n }
    let s := s.setNet n nsSwitch
    if isCanNet n then s.canToSleep (n - 16) else s.linToSleep (n - 32)

/-- A network leaves ASLEEP (R363, R367 to R370). -/
def State.netWake (s : State) (n : Nat) : State :=
  let s := (s.setNet n nsAwake).event wWake 2
  if isEthNet n then s.ethWake n
  else if isCanNet n then
    let s := (s.canWakeUp (n - 16)).wr wWake WK_NM_PRESENT.PRESENT 0 (n - 16)
    if s.hasRing n then s.sendAlive (n - 16) else s
  else (s.linWakeUp (n - 32)).setWake { s.wake with linWake := addTo s.wake.linWake (n - 32) }

/-- The agreement is aborted in WAIT_SLEEP (R366); a local request sends ALIVE at once. -/
def State.netAbort (s : State) (n : Nat) (isLocal : Bool) : State :=
  let s := ((s.setNet n nsAwake).sticky wWake WK_STAT.ABORT).count wWake NM_ABORTS.COUNT (n - 16)
  if isLocal then s.sendAlive (n - 16) else s

/-- Lets one network follow its requests. -/
def State.evalNet (s : State) (n : Nat) : State :=
  let st := s.netState n
  if s.netWanted n then
    if st = nsReady then (s.setWake { s.wake with delay := dropFrom s.wake.delay n }).setNet n nsAwake
    else if st = nsWait then s.netAbort n true
    else if st = nsSwitch then
      if s.wake.late.contains n then s
      else (s.setWake { s.wake with late := addTo s.wake.late n }).sticky wWake WK_STAT.LATE_WAKE
    else if st = nsAsleep then s.netWake n
    else s
  else if st = nsAwake then
    let s := s.setNet n nsReady
    if s.hasRing n then s
    else if s.rd wWake (WK_NET_DLY.DELAY.elem n) = 0 then s.netSleep n
    else s.setWake { s.wake with delay := addTo s.wake.delay n }
  else s

def State.evalNets (s : State) : State := s.each allNets State.evalNet

/-- Request events: each restarts a hold (R360). A network request clears a pending PARK (R382). -/
def State.request (s : State) (pncs : Nat) (nets : List Nat) : State :=
  let new := (List.range 24).filter (bit pncs)
  let s := s.setWake { s.wake with pncHold := new.foldl addTo s.wake.pncHold, netHold := nets.foldl addTo s.wake.netHold }
  (if new.isEmpty && nets.isEmpty then s else s.clearPark).evalNets

/-! ### Source events (R361, R362) -/

/-- The latch. -/
def State.latch (s : State) (w : Nat) : State :=
  let old := s.rd wWake WK_LATCH.LATCH
  let s := if old = 0 then (s.wr wWake WK_FIRST.VALID 1).wr wWake WK_FIRST.SRC w else s
  let before := s.irqPending wWake
  let s := s.wr wWake WK_LATCH.LATCH (setBit old w)
  let s := if bit old w then s else (s.wr wWake UNIT_IRQ_PEND.TROUBLE 1).irqRise wWake before
  s.event wWake 0

/-- WIO_MODE 1 pulses WAKE_IO (R373). -/
def State.pulseWio (s : State) : State :=
  if s.rd wWake WK_CFG.WIO_MODE = 1 then (s.setWake { s.wake with wioPulse := true }).wioSync else s

/-- A source event. In PARK and DEEP_PARK an event whose route has PWR 0 is only latched (R361). -/
def State.sourceEvent (s : State) (w : Nat) (nets : List Nat) : State :=
  let s := s.latch w
  let s := if s.on wWake (WK_ROUTE.WIO.elem w) then s.pulseWio else s
  let pwr := s.on wWake (WK_ROUTE.PWR.elem w)
  if s.parked && !pwr then s
  else
    let s := s.request (s.rd wWake (WK_ROUTE.PNC.elem w)) (if w < 44 then addTo nets w else nets)
    if pwr then s.powerWake else s

/-- The copy rule of R361: source 47 on behalf of a copy. -/
def State.copyWake (s : State) (net : Nat) : State := s.sourceEvent 47 [net]

/-- A frame was received on a network (R361): in WAIT_SLEEP any frame is a source event, and the abort is the requester's, so that no ALIVE is
sent (R366). -/
def State.netFrame (s : State) (n : Nat) : State :=
  if s.netState n = nsWait then (s.netAbort n false).sourceEvent n [] else s

/-- An Ethernet port has entered or left SLEEPING: its network follows (R369). -/
def State.ethSynced (s : State) (p : Nat) : State :=
  if s.ethState p = ethSleeping ∧ s.netState p ≠ nsAsleep then
    let s := (s.setWake { s.wake with delay := dropFrom s.wake.delay p }).setNet p nsAsleep
    let s := s.event wWake 1
    if s.managed p && s.netRequested p then s.netWake p else s
  else if s.ethState p ≠ ethSleeping ∧ s.netState p = nsAsleep then
    ((s.setNet p nsAwake).event wWake 2).evalNet p
  else s

/-- Every managed network AWAKE, with fresh holds of every PNC and network (R378). -/
def State.wakeAll (s : State) : State :=
  let s := s.setWake { s.wake with pncHold := List.range 24, netHold := allNets, delay := [], late := [] }
  s.each (allNets.filter s.managed) fun s n =>
    if s.netState n = nsAsleep ∨ s.netState n = nsSwitch then s.netWake n else s.setNet n nsAwake

end Sys2Proof.Machine
end

