-- ==== Sys2Proof/Machine/CanOps.lean ====
section
/-! DEFINITION. CAN controllers as operations: formats and padding (R211), the checks of a copy at a CAN egress (R500), arbitration
(R212, R213), fault confinement (state table of 08), message objects and receive FIFOs (R214 to R218). -/

namespace Sys2Proof.Machine

/-! ## Formats -/

def fmtClassical : Nat := 0
def fmtFd : Nat := 1
def fmtXl : Nat := 2
def fmtAny : Nat := 3

/-- Most data bytes a format carries (R236). -/
def canLimit (fmt : Nat) : Nat := if fmt = fmtClassical then 8 else if fmt = fmtFd then 64 else 2048

/-- The valid lengths of an FD frame (ISO 11898-1). -/
def fdLens : List Nat := [0, 1, 2, 3, 4, 5, 6, 7, 8, 12, 16, 20, 24, 32, 48, 64]

/-- R211: an FD frame whose length is not valid is padded with 0xCC to the next valid length. -/
def fdPad (data : List Nat) : List Nat :=
  match fdLens.find? (data.length ≤ ·) with
  | some n => data ++ List.replicate (n - data.length) 0xCC
  | none => data

/-- The data as the format sends it. -/
def canPad (fmt : Nat) (data : List Nat) : List Nat := if fmt = fmtFd then fdPad data else data

/-- R211, R236: the port can carry a frame of this format with n data bytes. -/
def State.canCarries (s : State) (p : Nat) (h : CanHdr) (n : Nat) : Bool :=
  if h.fmt = fmtClassical then n ≤ 8 ∧ (h.rtr = true → h.dlc ≤ 8)
  else if h.fmt = fmtFd then s.on (wCan p) CAN_CFG.FD_EN ∧ n ≤ 64
  else if h.fmt = fmtXl then s.on (wCan p) CAN_CFG.XL_EN ∧ 1 ≤ n ∧ n ≤ 2048
  else false

/-! ## A copy at a CAN egress (R500) -/

/-- The network is ASLEEP or in TRX_SWITCH. -/
def State.netAsleep (s : State) (n : Nat) : Bool := s.netState n == nsAsleep || s.netState n == nsSwitch

def State.wakeOnTx (s : State) (n : Nat) : Bool := s.on wWake (WK_NET.WAKE_ON_TX.elem n)

/-- R211: there is room for a copy. -/
def State.canRoom (s : State) (p : Nat) (evt : Bool) : Bool :=
  (s.txq p).length < 64 - s.rd (wCan p) CAN_TXQ_RSV.RSV || (evt && (s.txq p).length < 64)

/-- R500, R371: the checks of a copy at a CAN egress, in their order, and its place in the transmit queue. Padding waits for AUTH where the
copy is to be authenticated (R280). -/
def State.canEnqueue (s : State) (p : Nat) (c : Copy) : State :=
  let net := netOfCan p
  match c.can with
  | none => s.canDrop p c 0x52
  | some h =>
    if s.canState p = canOff then s.canDrop p c 0x56
    else if s.netAsleep net ∧ s.wakeOnTx net = false then (s.sticky wWake WK_STAT.TX_ASLEEP).canDrop p c 0x5C
    else if s.canCarries p h c.data.length = false then s.canDrop p c 0x52
    else if s.canRoom p c.evt = false then s.canDrop p c 0x50
    else
      let c := { c with enq := s.clk, data := if c.outCtx = 0 then canPad h.fmt c.data else c.data }
      let s := s.setTxq p (s.txq p ++ [c])
      if s.netAsleep net then s.copyWake net else s

/-! ## Arbitration (R212, R213) -/

/-- The arbitration field as a number, the lower the stronger: bits as ISO 11898-1 transmits them, recessive 1. A base-format frame sends
RTR and a dominant IDE, an extended one a recessive SRR and IDE and then the other 18 bits and RTR; the format bits come last. -/
def arbKey (h : CanHdr) : Nat :=
  if h.ide then ((h.id / 2 ^ 18 % 2 ^ 11 * 2 + 1) * 2 + 1) * 2 ^ 21 + (h.id % 2 ^ 18 * 2 + b2n h.rtr) * 4 + h.fmt
  else (h.id % 2 ^ 11 * 2 + b2n h.rtr) * 2 * 2 ^ 21 + h.fmt * 2 ^ 19

/-- The header a send object gives its frame. -/
def State.objHdr (s : State) (p k : Nat) : CanHdr :=
  { fmt := s.obj p k CAN_OBJ_VIEW.FMT, dlc := s.obj p k CAN_OBJ_VIEW.LEN, ide := s.obj p k CAN_OBJ_VIEW.IDE == 1,
    id := s.obj p k CAN_OBJ_VIEW.ID, rtr := s.obj p k CAN_OBJ_VIEW.RTR == 1, brs := s.obj p k CAN_OBJ_VIEW.BRS == 1,
    esi := false, sdt := s.obj p k CAN_OBJ_VIEW.SDT, vcid := s.obj p k CAN_OBJ_VIEW.VCID,
    sec := s.obj p k CAN_OBJ_VIEW.SEC == 1, af := s.obj p k CAN_OBJ_VIEW.AF }

/-- The data bytes of object k. -/
def State.objData (s : State) (p k : Nat) : List Nat :=
  if s.obj p k CAN_OBJ_VIEW.RTR = 1 then []
  else (List.range (min 64 (s.obj p k CAN_OBJ_VIEW.LEN))).map fun i => s.obj p k (CAN_OBJ_DATA.DATA.elem i)

/-- A candidate with its arbitration key, its arrival number and the clock count since which it waits. -/
structure CanOffer where
  cand : CanCand
  key : Nat
  seq : Nat
  since : Nat
  deriving DecidableEq, Repr

/-- The candidates of R212; a copy that waits for AUTH is none. -/
def State.canOffers (s : State) (p : Nat) : List CanOffer :=
  ((s.txq p).filterMap fun c => if c.outCtx = 0 then c.can.map fun h => ⟨.copy c.cid, arbKey h, c.cid, c.enq⟩ else none) ++
  (s.pendingObjects p).map fun k =>
    ⟨.obj k, arbKey (s.objHdr p k), look s.can.objSeq (objKey p k) 0, look s.can.objEnq (objKey p k) 0⟩

/-- The stronger of two candidates; equal arbitration fields go by order of arrival. -/
def CanOffer.before (a b : CanOffer) : Bool := a.key < b.key || (a.key == b.key && a.seq < b.seq)

def bestOffer (l : List CanOffer) : Option CanOffer :=
  l.foldl (fun m a => match m with
    | none => some a
    | some b => if a.before b then some a else some b) none

/-- R213: a candidate has waited TX_LIFE. -/
def State.canExpired (s : State) (p : Nat) (o : CanOffer) : Bool :=
  let life := s.rd (wCan p) CAN_TXLIFE.TX_LIFE
  life != 0 && life * 1000000 ≤ (s.clk - o.since) * clkNs

/-- Ends a candidate's frame dropped. -/
def State.candDrop (s : State) (p : Nat) (x : CanCand) (reason : Nat) : State :=
  match x with
  | .copy cid => match (s.txq p).find? (·.cid == cid) with
      | some c => (s.setTxq p ((s.txq p).filter (·.cid != cid))).canDrop p c reason
      | none => s
  | .obj k => s.objEnd p k .dropped reason

/-- A copy whose frame has an uncorrectable error ends failed as it is read (R136). -/
def State.candBad (s : State) (p : Nat) (x : CanCand) : Option Copy :=
  match x with
  | .copy cid => ((s.txq p).find? (·.cid == cid)).bind fun c => match s.frame c.fid with
      | some f => if f.ecc then some c else none
      | none => none
  | .obj _ => none

/-- The candidate to offer; those that have expired end as they would be offered (R213). -/
def State.canOffer (s : State) (p : Nat) : Nat → State × Option CanCand
  | 0 => (s, none)
  | n + 1 => match bestOffer (s.canOffers p) with
      | none => (s, none)
      | some o =>
        if s.canExpired p o then (s.candDrop p o.cand 0x51).canOffer p n
        else match s.candBad p o.cand with
          | some c => ((s.setTxq p ((s.txq p).filter (·.cid != c.cid))).endCopy (wCan p) c .failed 0x31).canOffer p n
          | none => (s, some o.cand)

def State.canSending (s : State) (p : Nat) : Option CanCand := (s.can.sending.find? (·.1 == p)).map (·.2)

def State.setCanSending (s : State) (p : Nat) (x : Option CanCand) : State :=
  s.setCan { s.can with sending := match x with
    | none => erase s.can.sending p
    | some c => insertAt s.can.sending p c }

/-- DAR for the port, SINGLE for a send object (R213). -/
def State.singleShot (s : State) (p : Nat) (x : CanCand) : Bool :=
  s.on (wCan p) CAN_CFG.DAR || (match x with
    | .copy _ => false
    | .obj k => s.obj p k CAN_OBJ_VIEW.SINGLE == 1)

/-- A lost arbitration or an error ends one try: dropped under DAR or SINGLE (0x54), after an abort (0x55), else it competes again. -/
def State.canTryFailed (s : State) (p : Nat) (x : CanCand) : State :=
  let s := s.setCan { s.can with sending := erase s.can.sending p, fastOn := erase s.can.fastOn p }
  let aborted := match x with
    | .copy _ => false
    | .obj k => look s.can.abortReq (objKey p k) false
  if aborted then s.candDrop p x 0x55 else if s.singleShot p x then s.candDrop p x 0x54 else s

/-- Format of a candidate's frame. -/
def State.candHdr (s : State) (p : Nat) (x : CanCand) : Option CanHdr :=
  match x with
  | .copy cid => ((s.txq p).find? (·.cid == cid)).bind (·.can)
  | .obj k => some (s.objHdr p k)

def State.candData (s : State) (p : Nat) (x : CanCand) : List Nat :=
  match x with
  | .copy cid => match (s.txq p).find? (·.cid == cid) with
      | some c => c.data
      | none => []
  | .obj k => canPad (s.obj p k CAN_OBJ_VIEW.FMT) (s.objData p k)

/-! ## Fault confinement -/

def State.tec (s : State) (p : Nat) : Nat := s.rd (wCan p) CAN_ERRCNT.TEC
def State.rec' (s : State) (p : Nat) : Nat := s.rd (wCan p) CAN_ERRCNT.REC

/-- Entry to RECOVER: the counter of sequences starts at 0. -/
def State.canToRecover (s : State) (p : Nat) : State :=
  (s.setCanState p canRecover).wr (wCan p) CAN_ERRCNT.REC 0

/-- Entry to BUSOFF (state table, R210). -/
def State.canBusOffEntry (s : State) (p : Nat) : State :=
  let s := ((s.setCanState p canBusOff).wr (wCan p) CAN_ERRCNT.TEC 0xFF).sticky (wCan p) CAN_STAT.BUSOFF
  let s := ((s.count (wCan p) CAN_BUSOFFS.COUNT).event (wCan p) 5).setCanSending p none
  let s := if s.on (wCan p) CAN_BO_CFG.BO_FLUSH then s.canDropCopies p 0x53 else s
  if s.on (wCan p) CAN_BO_CFG.BO_AUTO ∧ s.rd (wCan p) CAN_BO_CFG.BO_DELAY = 0 then s.canToRecover p else s

/-- The rows of the state table on the error counters. `t` is the new TEC, which may be above 255; the row "PASSIVE, TEC above 255" is
reached from ACTIVE in the same step. -/
def State.canConfine (s : State) (p t r : Nat) : State :=
  let s := (s.wr (wCan p) CAN_ERRCNT.TEC (min t 255)).wr (wCan p) CAN_ERRCNT.REC (min r 255)
  let s := if s.canState p = canActive ∧ (127 < t ∨ 127 < r) then
      ((s.setCanState p canPassive).sticky (wCan p) CAN_STAT.PASSIVE).event (wCan p) 4
    else s
  if s.canState p = canPassive ∧ 255 < t then s.canBusOffEntry p
  else if s.canState p = canPassive ∧ t ≤ 127 ∧ r ≤ 127 then (s.setCanState p canActive).event (wCan p) 4
  else s

/-- A frame was sent: TEC falls by 1 (ISO 11898-1). -/
def State.canSentOk (s : State) (p : Nat) : State := s.canConfine p (s.tec p - 1) (s.rec' p)

/-- A frame was received: REC falls by 1, from above 127 to 127 (ISO 11898-1). -/
def State.canReceivedOk (s : State) (p : Nat) : State :=
  s.canConfine p (s.tec p) (if 127 < s.rec' p then 127 else s.rec' p - 1)

/-! ## Message objects (R214 to R218) -/

/-- The fields of the object view, without its data bytes. -/
def objFields : List Field :=
  [CAN_OBJ_VIEW.TYPE, CAN_OBJ_VIEW.FMT, CAN_OBJ_VIEW.IDE, CAN_OBJ_VIEW.BRS, CAN_OBJ_VIEW.ESI, CAN_OBJ_VIEW.NEWDAT,
   CAN_OBJ_VIEW.MSGLST, CAN_OBJ_VIEW.TXRQ, CAN_OBJ_VIEW.SINGLE, CAN_OBJ_VIEW.XLSTK, CAN_OBJ_VIEW.DISP, CAN_OBJ_VIEW.RTR,
   CAN_OBJ_VIEW.REASON, CAN_OBJ_VIEW.ID, CAN_OBJ_VIEW.MASK, CAN_OBJ_VIEW.LEN, CAN_OBJ_VIEW.SDT, CAN_OBJ_VIEW.VCID,
   CAN_OBJ_VIEW.SEC, CAN_OBJ_VIEW.AF, CAN_OBJ_VIEW.STAMP]

/-- The fields that software fills (the RW ones but TYPE). -/
def objRwFields : List Field :=
  [CAN_OBJ_VIEW.FMT, CAN_OBJ_VIEW.IDE, CAN_OBJ_VIEW.BRS, CAN_OBJ_VIEW.SINGLE, CAN_OBJ_VIEW.RTR, CAN_OBJ_VIEW.ID,
   CAN_OBJ_VIEW.MASK, CAN_OBJ_VIEW.LEN, CAN_OBJ_VIEW.SDT, CAN_OBJ_VIEW.VCID, CAN_OBJ_VIEW.SEC, CAN_OBJ_VIEW.AF]

def objDataFields : List Field := (List.range 64).map CAN_OBJ_DATA.DATA.elem

/-- Where an object's reference is kept; the view's own is kept under e = 0. -/
def xlKey (p e : Nat) : Nat := p * 129 + e

/-- Gives back the reference to an XL frame that a store holds (R215). -/
def State.xlRelease (s : State) (p e : Nat) : State :=
  match s.can.xlRef.find? (·.1 == xlKey p e) with
  | none => s
  | some (_, fid) => (s.setCan { s.can with xlRef := erase s.can.xlRef (xlKey p e) }).release fid 0

/-- Takes a reference to a frame (R134). -/
def State.xlHold (s : State) (p e fid : Nat) : State :=
  (s.setCan { s.can with xlRef := insertAt s.can.xlRef (xlKey p e) fid }).addRefs fid 1

/-- Empties object k: its content, its reference, and what is noted of its sending. -/
def State.objClear (s : State) (p k : Nat) : State :=
  let s := s.xlRelease p (k + 1)
  let s := s.each (objFields ++ objDataFields) fun s f => s.wr (wCan p) f f.reset (k + 1)
  s.setCan { s.can with
    objSeq := erase s.can.objSeq (objKey p k), objEnq := erase s.can.objEnq (objKey p k),
    abortReq := erase s.can.abortReq (objKey p k), objFmt := erase s.can.objFmt (objKey p k) }

/-- FMT matches (R214): 0b11 any. -/
def fmtMatches (want have' : Nat) : Bool := want == fmtAny || want == have'

/-- Identifier matching of R214 and R260: for IDE 0 only the 11 least significant bits take part. -/
def idMatches (ide : Bool) (id mask : Nat) (h : CanHdr) : Bool :=
  let w := if ide then 2 ^ 29 else 2 ^ 11
  ide == h.ide && (id % w &&& mask % w) == (h.id % w &&& mask % w)

def State.objAccepts (s : State) (p : Nat) (h : CanHdr) (k : Nat) : Bool :=
  s.obj p k CAN_OBJ_VIEW.TYPE == 1 && fmtMatches (s.obj p k CAN_OBJ_VIEW.FMT) h.fmt &&
    idMatches (s.obj p k CAN_OBJ_VIEW.IDE == 1) (s.obj p k CAN_OBJ_VIEW.ID) (s.obj p k CAN_OBJ_VIEW.MASK) h

/-- Writes a frame's header and data into object k. An XL frame of more than 64 bytes is not copied: its first 64 bytes can be read, and the
object holds a reference (R215). LEN of a remote frame is its DLC (R204). -/
def State.objFill (s : State) (p k fid : Nat) (h : CanHdr) (data : List Nat) (ns : Nat) : State :=
  let s := s.xlRelease p (k + 1)
  let len := if h.rtr then h.dlc else data.length
  let vals : List (Field × Nat) :=
    [(CAN_OBJ_VIEW.IDE, b2n h.ide), (CAN_OBJ_VIEW.BRS, b2n h.brs), (CAN_OBJ_VIEW.ESI, b2n h.esi), (CAN_OBJ_VIEW.RTR, b2n h.rtr),
     (CAN_OBJ_VIEW.ID, h.id), (CAN_OBJ_VIEW.LEN, len), (CAN_OBJ_VIEW.SDT, h.sdt), (CAN_OBJ_VIEW.VCID, h.vcid),
     (CAN_OBJ_VIEW.SEC, b2n h.sec), (CAN_OBJ_VIEW.AF, h.af), (CAN_OBJ_VIEW.STAMP, ns)]
  let s := s.each vals fun s x => s.setObj p k x.1 x.2
  let s := s.each (List.range 64) fun s i => s.setObj p k (CAN_OBJ_DATA.DATA.elem i) (data.getD i 0)
  let s := s.setCan { s.can with objFmt := store s.can.objFmt (objKey p k) h.fmt fmtAny }
  let big := h.fmt == fmtXl && 64 < data.length
  let s := s.setObj p k CAN_OBJ_VIEW.XLSTK (b2n big)
  if big then s.xlHold p (k + 1) fid else s

/-- R215: a store into a receive object. -/
def State.objStore (s : State) (p k fid : Nat) (h : CanHdr) (data : List Nat) (ns : Nat) : State :=
  let had := s.obj p k CAN_OBJ_VIEW.NEWDAT == 1
  let s := if had then
      ((s.setObj p k CAN_OBJ_VIEW.MSGLST 1).sticky (wCan p) CAN_STAT.MSGLST).count (wCan p) CAN_OBJ_LOST.COUNT
    else s
  let s := (s.objFill p k fid h data ns).setObj p k CAN_OBJ_VIEW.NEWDAT 1
  if had then s else s.event (wCan p) 0

/-! ### FIFOs (R218) -/

/-- The fields of a FIFO's configuration. -/
structure FifoCfg where
  mode : Nat
  base : Nat
  size : Nat
  trig : Nat
  fmt : Nat
  ide : Bool
  id : Nat
  mask : Nat
  deriving DecidableEq, Repr

def State.fifoCfg (s : State) (p n : Nat) : FifoCfg :=
  let w := wCan p
  if n = 0 then
    ⟨s.rd w CAN_FIFO0_CFG.MODE, s.rd w CAN_FIFO0_CFG.BASE, s.rd w CAN_FIFO0_CFG.SIZE, s.rd w CAN_FIFO0_CFG.TRIG,
     s.rd w CAN_FIFO0_CFG.FMT, s.on w CAN_FIFO0_CFG.IDE, s.rd w CAN_FIFO0_CFG.ID, s.rd w CAN_FIFO0_CFG.MASK⟩
  else
    ⟨s.rd w CAN_FIFO1_CFG.MODE, s.rd w CAN_FIFO1_CFG.BASE, s.rd w CAN_FIFO1_CFG.SIZE, s.rd w CAN_FIFO1_CFG.TRIG,
     s.rd w CAN_FIFO1_CFG.FMT, s.on w CAN_FIFO1_CFG.IDE, s.rd w CAN_FIFO1_CFG.ID, s.rd w CAN_FIFO1_CFG.MASK⟩

/-- The configuration in a written value, brought into its ranges: SIZE at most 64, TRIG 1 to SIZE. -/
def fifoOf (v : Nat) : FifoCfg :=
  let size := min 64 (bits v 87 81)
  ⟨bits v 95 95, bits v 94 88, size, max 1 (min (bits v 80 74) (max 1 size)), bits v 73 72, bit v 71, bits v 60 32, bits v 28 0⟩

def State.setFifo (s : State) (p n : Nat) (c : FifoCfg) : State :=
  let w := wCan p
  let f := fun a b => if n = 0 then a else b
  let s := (s.wr w (f CAN_FIFO0_CFG.MODE CAN_FIFO1_CFG.MODE) c.mode).wr w (f CAN_FIFO0_CFG.BASE CAN_FIFO1_CFG.BASE) c.base
  let s := (s.wr w (f CAN_FIFO0_CFG.SIZE CAN_FIFO1_CFG.SIZE) c.size).wr w (f CAN_FIFO0_CFG.TRIG CAN_FIFO1_CFG.TRIG) c.trig
  let s := (s.wr w (f CAN_FIFO0_CFG.FMT CAN_FIFO1_CFG.FMT) c.fmt).wr w (f CAN_FIFO0_CFG.IDE CAN_FIFO1_CFG.IDE) (b2n c.ide)
  (s.wr w (f CAN_FIFO0_CFG.ID CAN_FIFO1_CFG.ID) c.id).wr w (f CAN_FIFO0_CFG.MASK CAN_FIFO1_CFG.MASK) c.mask

def FifoCfg.elements (c : FifoCfg) : List Nat := (List.range c.size).map (c.base + ·)

def State.fifo (s : State) (p n : Nat) : List Nat := look s.can.fifo (p * 2 + n) []
def State.setFifoList (s : State) (p n : Nat) (l : List Nat) : State :=
  s.setCan { s.can with fifo := store s.can.fifo (p * 2 + n) l [] }

/-- R218: what a FIFO configuration is refused for. -/
def State.fifoRefused (s : State) (p n : Nat) (c : FifoCfg) : Bool :=
  128 < c.base + c.size ||
  (c.elements.any fun k => (s.fifoCfg p (1 - n)).elements.contains k || s.obj p k CAN_OBJ_VIEW.TXRQ == 1)

/-- R218: the configuration makes objects its elements, whose earlier content is discarded; the objects it no longer names are unused. -/
def State.fifoConfigure (s : State) (p n : Nat) (c : FifoCfg) : State :=
  let old := (s.fifoCfg p n).elements
  let s := s.each (old ++ c.elements) fun s k => s.objClear p k
  let s := s.each c.elements fun s k => s.setObj p k CAN_OBJ_VIEW.TYPE 3
  (s.setFifo p n c).setFifoList p n []

def State.fifoAccepts (s : State) (p n : Nat) (h : CanHdr) : Bool :=
  let c := s.fifoCfg p n
  c.size != 0 && fmtMatches c.fmt h.fmt && idMatches c.ide c.id c.mask h

/-- R218: a frame for FIFO n. A free element of lowest number takes it. -/
def State.fifoStore (s : State) (p n fid : Nat) (h : CanHdr) (data : List Nat) (ns : Nat) : State :=
  let c := s.fifoCfg p n
  let l := s.fifo p n
  let lost := fun (s : State) => (s.sticky (wCan p) CAN_STAT.FIFO_OVR).count (wCan p) CAN_OBJ_LOST.COUNT
  match c.elements.find? (fun k => !l.contains k) with
  | some k =>
    let s := (s.objFill p k fid h data ns).setFifoList p n (l ++ [k])
    if l.length + 1 = c.trig then s.event (wCan p) (1 + n) else s
  | none => match l with
    | [] => s
    | k :: r => if c.mode = 0 then lost s else (lost (s.objFill p k fid h data ns)).setFifoList p n (r ++ [k])

/-- R214: the one place a received item is stored in. -/
def State.canStore (s : State) (p fid : Nat) (h : CanHdr) (data : List Nat) (ns : Nat) : State :=
  match allObjects.find? (s.objAccepts p h) with
  | some k => s.objStore p k fid h data ns
  | none =>
    if s.fifoAccepts p 0 h then s.fifoStore p 0 fid h data ns
    else if s.fifoAccepts p 1 h then s.fifoStore p 1 fid h data ns
    else s

/-- R216: the object's header and data into the view, with a reference of the view's own for an XL frame. -/
def State.objToView (s : State) (p k : Nat) : State :=
  let s := s.xlRelease p 0
  let fid := (s.can.xlRef.find? (·.1 == xlKey p (k + 1))).map (·.2)
  let s := match fid with
    | some f => s.xlHold p 0 f
    | none => s
  let s := s.each (objFields ++ objDataFields) fun s f => s.wr (wCan p) f (s.rd (wCan p) f (k + 1))
  let fmt := look s.can.objFmt (objKey p k) fmtAny
  if fmt = fmtAny then s else s.wr (wCan p) CAN_OBJ_VIEW.FMT fmt

/-- R217: the view into the object. TYPE 0b11 is no type to write, and the object keeps its own. -/
def State.viewToObj (s : State) (p k : Nat) : State :=
  let ty := if s.rd (wCan p) CAN_OBJ_VIEW.TYPE = 3 then s.obj p k CAN_OBJ_VIEW.TYPE else s.rd (wCan p) CAN_OBJ_VIEW.TYPE
  let s := (s.objClear p k).setObj p k CAN_OBJ_VIEW.TYPE ty
  s.each (objRwFields ++ objDataFields) fun s f => s.setObj p k f (s.rd (wCan p) f)

end Sys2Proof.Machine
end

