-- ==== Sys2Proof/Machine/TableOps.lean ====
section
/-! DEFINITION. The L2 table, the VLAN table and the Seam as operations: buckets, lookups, learning, and prefix matching (R181 to
R199). -/

namespace Sys2Proof.Machine

/-- A table answers lookups; while its unit reloads they miss (R118). -/
def State.answers (s : State) (w : Nat) : Bool := s.unitState w != usLoading

/-! ## L2 -/

def rhIdle : Nat := 0
def rhMigrate : Nat := 1
def rhStalled : Nat := 2

def State.l2Cur (s : State) : Nat := s.rd wL2 L2_REHASH.CUR
def State.rehash (s : State) : Nat := s.rd wL2 L2_REHASH.STATE

/-- The bucket of a key under a seed slot (R185). -/
def State.l2Bucket (s : State) (slot fid mac : Nat) : Nat :=
  let seed := if slot = 0 then s.rd wL2 L2_SEED0.SEED else s.rd wL2 L2_SEED1.SEED
  crc32c 0xFFFFFFFF (toBytes seed 2 ++ toBytes (fid % 4096) 2 ++ toBytes mac 6) % 8192

/-- A way lies in a bucket that a lookup of the key probes (R186). -/
def State.l2Probed (s : State) (fid mac : Nat) (w : L2Way) : Bool :=
  w.bucket == s.l2Bucket s.l2Cur fid mac || (s.rehash != rhIdle && w.bucket == s.l2Bucket (1 - s.l2Cur) fid mac)

def L2Way.isKey (w : L2Way) (fid mac : Nat) : Bool := w.fid == fid && w.mac == mac

/-- The way a lookup in Bench g uses. -/
def State.l2Find (s : State) (g fid mac : Nat) : Option L2Way :=
  let l := s.tbl.l2.filter fun w => w.isKey fid mac && bit w.tag g && s.l2Probed fid mac w
  if s.answers wL2 then
    match l.find? (fun w => w.h == s.l2Cur) with
    | some w => some w
    | none => l.head?
  else none

def State.setL2 (s : State) (l : List L2Way) : State := s.setTbl { s.tbl with l2 := l }

/-- Changes the way that is equal to w. -/
def State.l2Map (s : State) (w : L2Way) (f : L2Way → L2Way) : State :=
  s.setL2 (s.tbl.l2.map fun x => if x = w then f x else x)

/-- A hit sets the activity bit of a learned entry; a removal that waited for it is void (R192, R193). -/
def State.l2Hit (s : State) (w : L2Way) : State := if w.static then s else s.l2Map w fun x => { x with act := true }

/-- Ways taken of a bucket; four are there (R185). -/
def State.l2Used (s : State) (b : Nat) : Nat := (s.tbl.l2.filter (·.bucket == b)).length
def State.l2Free (s : State) (b : Nat) : Bool := s.l2Used b < 4

def State.l2Add (s : State) (w : L2Way) : State := s.setL2 (s.tbl.l2 ++ [w])
def State.l2Drop (s : State) (w : L2Way) : State := s.setL2 (s.tbl.l2.filter (· != w))

/-- R188: learning is on for a frame of port n in a VLAN. -/
def State.learningOn (s : State) (g vid n : Nat) : Bool :=
  s.on wL2 L2_CFG.LEARN_EN && s.entOn g wVlan VLAN_ENTRY.LEARN vid && bit (s.rd wL2 L2_PORT_LEARN.PORTS) n && !s.isSafe wL2

/-- R189: a learn request. -/
def State.learnRequest (s : State) (fid mac n : Nat) : State :=
  if s.tbl.learnQ.any (fun r => r.fid == fid && r.mac == mac) then s
  else if 16 ≤ s.tbl.learnQ.length then
    ((s.sticky wL2 L2_STAT.LEARN_FULL).count wL2 L2_LEARN_DISCARD.COUNT).event wL2 0
  else s.setTbl { s.tbl with learnQ := s.tbl.learnQ ++ [⟨fid, mac, n⟩] }

/-- R188: the source lookup of a frame from port n. The answer says whether the frame goes on. -/
def State.sourceLookup (s : State) (g vid fid sa n : Nat) : State × Bool :=
  match s.l2Find g fid sa with
  | some w =>
    let s := s.l2Hit w
    let other := !w.dlist && w.dest != n
    if !other then (s, true)
    else if w.static then (s, !w.dropMove)
    else if s.learningOn g vid n then
      ((s.l2Map { w with act := true } fun x => { x with dest := n }).count wL2 L2_MOVES.COUNT, true)
    else (s, true)
  | none => (if s.learningOn g vid n then s.learnRequest fid sa n else s, true)

/-! ## VLAN -/

/-- R181 step 1: the VID of a frame; 0x3F as port stands for a host ring, whose untagged frames are in VID 1 (R183). DESIGN CHOICE: so is a
host-ring frame whose tag carries VID 0. -/
def State.vidOf (s : State) (src : Nat) (d : List Nat) : Nat :=
  let v := ethTci d % 4096
  if ethTagged d && v != 0 then v
  else if src = srcHost then 1 else s.rd wVlan (VLAN_PVID.PVID.elem src)

def isUntagged (d : List Nat) : Bool := !ethTagged d || ethTci d % 4096 == 0

def State.vlanOk (s : State) (g vid : Nat) : Bool :=
  vid != 0 && vid != 0xFFF && s.answers wVlan && s.entOn g wVlan VLAN_ENTRY.VALID vid

def State.vlanMembers (s : State) (g vid : Nat) : List Nat :=
  (List.range 16).filter (bit (s.ent g wVlan VLAN_ENTRY.MEMBER vid))

/-! ## Seam -/

def famBits (v6 : Bool) : Nat := if v6 then 128 else 32

/-- A prefix covers an address. -/
def Prefix.covers (p : Prefix) (v6 : Bool) (a : Nat) : Bool :=
  p.v6 == v6 && p.addr / 2 ^ (famBits v6 - p.plen) == a / 2 ^ (famBits v6 - p.plen)

/-- R197: the longest prefix of Bench g. -/
def State.seamFind (s : State) (g : Nat) (v6 : Bool) (a : Nat) : Option Prefix :=
  if !s.answers wSeam then none
  else s.tbl.prefixes.foldl (fun m p =>
    if p.covers v6 a && bit p.tag g then
      match m with
      | none => some p
      | some q => if q.plen < p.plen then some p else some q
    else m) none

/-- R198: the nodes of a family at level j ≥ 1: the distinct leading 8 j bits of its prefixes longer than that. -/
def levelNodes (l : List Prefix) (v6 : Bool) (j : Nat) : Nat :=
  ((l.filter fun p => p.v6 == v6 && 8 * j < p.plen).foldl (fun a p => addTo a (p.addr / 2 ^ (famBits v6 - 8 * j))) []).length

/-- Nodes in memory M(m); M0 holds a root of each family. -/
def memNodes (l : List Prefix) (m : Nat) : Nat :=
  ((List.range 15).map fun i => if (i + 1) % 4 = m then
      levelNodes l true (i + 1) + (if i < 3 then levelNodes l false (i + 1) else 0) else 0).sum + (if m = 0 then 2 else 0)

def memLimit (m : Nat) : Nat := if m = 0 then 64 else if m = 1 then 256 else if m = 2 then 384 else 512

def nodesFit (l : List Prefix) : Bool := (List.range 4).all fun m => memNodes l m ≤ memLimit m

def storeSlots (v6 : Bool) : Nat := if v6 then 4096 else 16384

def State.prefixCount (s : State) (v6 : Bool) : Nat := (s.tbl.prefixes.filter (·.v6 == v6)).length

def Prefix.same (p q : Prefix) : Bool := p.v6 == q.v6 && p.plen == q.plen && p.addr == q.addr

/-- The bits of an address that a prefix length keeps. -/
def maskAddr (v6 : Bool) (plen a : Nat) : Nat := a / 2 ^ (famBits v6 - plen) * 2 ^ (famBits v6 - plen)

end Sys2Proof.Machine
end

