-- ==== Sys2Proof/Machine/GuardOps.lean ====
section
/-! DEFINITION. Stages 2 and 3: the Sieve, its stream filters and gates, the CAN identifier filter, and the Weighbridge's policers
(R255 to R271). -/

namespace Sys2Proof.Machine

/-- What stages 2 and 3 found for an item. -/
structure Guarded where
  route : Option Nat
  tc : Option Nat
  pol : Option Nat
  frer : Nat
  frerIdx : Nat
  sized : Bool                -- the stream filter measures the frame (R261)
  deriving DecidableEq, Repr

/-! ## The Sieve -/

/-- The 320-bit key of an Ethernet item (R256). -/
def State.sieveKey (s : State) (src : Nat) (d : List Nat) : Nat :=
  let tagged := ethTagged d
  let o := l3Ofs d
  let l3 := if isV4 d then 1 else if isV6 d then 2 else 0
  let dscp := if isV4 d then d.getD (o + 1) 0 / 4 else if isV6 d then beAt d o 2 / 64 % 64 else 0
  let w := s.rd wSieve SIEVE_CFG.IP6SEL
  let sip := if isV4 d then beAt d (o + 12) 4 else if isV6 d then beAt d (o + 8 + 4 * w) 4 else 0
  let dip := if isV4 d then beAt d (o + 16) 4 else if isV6 d then beAt d (o + 24 + 4 * w) 4 else 0
  let l4 := l4Ofs d
  let ports := match l4 with
    | some x => beAt d x 4
    | none => 0
  let flags := match l4 with
    | some x => if ipProto d = 6 then d.getD (x + 13) 0 % 64 else 0
    | none => 0
  let base : Option Nat :=
    if s.rd wSieve SIEVE_CFG.UDF_BASE = 1 then (if l3 = 0 then none else some o)
    else if s.rd wSieve SIEVE_CFG.UDF_BASE = 2 then l4 else some 0
  let udf := match base with
    | some b => beAt d (b + s.rd wSieve SIEVE_UDF_OFS.UDF_OFS) 8
    | none => 0
  src * 2 ^ 312 + b2n tagged * 2 ^ 311 + ethPcp d * 2 ^ 308 + b2n (ethDei d) * 2 ^ 307 + s.vidOf src d * 2 ^ 295 + ethType d * 2 ^ 279 +
    ethDa d * 2 ^ 231 + ethSa d * 2 ^ 183 + l3 * 2 ^ 181 + dscp * 2 ^ 175 + ipProto d * 2 ^ 167 + b2n (ipFrag d) * 2 ^ 166 +
    sip * 2 ^ 134 + dip * 2 ^ 102 + ports * 2 ^ 70 + flags * 2 ^ 64 + udf

/-- Bytes of a frame that the key, an R-TAG and the destination's address stand in (R256); of a frame in reception the key is whole once they
have arrived. -/
def State.keyBytes (s : State) (d : List Nat) : Nat :=
  let o := l3Ofs d
  let l3 := if isV4 d then o + 4 * (d.getD o 0 % 16) else if isV6 d then o + 40 else o + 1
  let l4 := match l4Ofs d with
    | some x => x + 14
    | none => 0
  let ofs := s.rd wSieve SIEVE_UDF_OFS.UDF_OFS + 8
  let udf := if s.rd wSieve SIEVE_CFG.UDF_BASE = 1 then o + ofs
    else if s.rd wSieve SIEVE_CFG.UDF_BASE = 2 then (l4Ofs d).getD 0 + ofs else ofs
  max (max l3 l4) (max udf (typeOfs d + 6))

/-- R257: the matching rule of lowest RULE_ID in Bench g. -/
def State.sieveMatch (s : State) (g key : Nat) : Option Nat :=
  if !s.answers wSieve then none
  else (s.validIn g wSieve SIEVE_ACT.VALID).find? fun i =>
    let m := s.ent g wSieve SIEVE_MASK.MASK i
    (key &&& m) == (s.ent g wSieve SIEVE_VALUE.VALUE i &&& m)

/-- R257: the action without a match. -/
def State.pdef (s : State) (src : Nat) : Bool :=
  if src = srcHost then s.on wSieve SIEVE_PDEF.HOST else bit (s.rd wSieve SIEVE_PDEF.ETH) src

/-- R261: stream filter f on a frame of n bytes, destination address through FCS. The answer is the reason that ends the item. -/
def State.streamCheck (s : State) (f n : Nat) : State × Option Nat :=
  let w := wSieve
  let maxSdu := s.rd w STRM_CFG.MAX_SDU f
  if s.on w STRM_CFG.BLOCKED f then
    ((s.sticky w SIEVE_STAT.OVERSIZE).count w STRM_SDU_DROPS.COUNT f, some 0x74)
  else if s.on w STRM_CFG.GATE_EN f && !bit (s.rd w SGATE_OPEN.OPEN) (s.rd w STRM_CFG.GATE f) then
    ((s.sticky w SIEVE_STAT.GATE).count w STRM_GATE_DROPS.COUNT f, some 0x72)
  else if maxSdu ≠ 0 ∧ maxSdu < n then
    let s := (s.sticky w SIEVE_STAT.OVERSIZE).count w STRM_SDU_DROPS.COUNT f
    (if s.on w STRM_CFG.BLOCK_EN f then (s.wr w STRM_CFG.BLOCKED 1 f).event w 0 else s, some 0x73)
  else (s.count w STRM_PASSED.COUNT f, none)

/-- The class an open gate gives (R262, R263). -/
def State.gateTc (s : State) (f : Nat) : Option Nat :=
  let g := s.rd wSieve STRM_CFG.GATE f
  if s.on wSieve STRM_CFG.GATE_EN f && s.on wSieve (SGATE_IPV.IPV_EN.elem g) then some (s.rd wSieve (SGATE_IPV.IPV.elem g)) else none

/-- Stage 2 of an Ethernet item: its action, or the reason that ends it (R257, R258, R261). -/
def State.sieve (s : State) (g src : Nat) (d : List Nat) : State × (Guarded ⊕ Nat) :=
  let w := wSieve
  match s.sieveMatch g (s.sieveKey src d) with
  | none =>
    if s.pdef src then (s, .inl ⟨none, none, none, 0, 0, false⟩) else (s.sticky w SIEVE_STAT.NOMATCH, .inr 0x71)
  | some i =>
    let s := s.count w SIEVE_HITS.COUNT i
    if s.entOn g w SIEVE_ACT.DENY i then (s.sticky w SIEVE_STAT.DENY, .inr 0x70)
    else
      let f := s.ent g w SIEVE_ACT.STRM i
      let strm := s.entOn g w SIEVE_ACT.STRM_EN i
      let opt := fun (b : Bool) (v : Nat) => if b then some v else none
      let tc := opt (s.entOn g w SIEVE_ACT.TC_EN i) (s.ent g w SIEVE_ACT.TC i)
      let r := if strm then s.streamCheck f (d.length + 4) else (s, none)
      match r.2 with
      | some reason => (r.1, .inr reason)
      | none =>
        let tc := if strm then (match s.gateTc f with
          | some t => some t
          | none => tc) else tc
        (r.1, .inl { route := opt (s.entOn g w SIEVE_ACT.ROUTE_EN i) (s.ent g w SIEVE_ACT.ROUTE i), tc,
                     pol := opt (s.entOn g w SIEVE_ACT.POL_EN i) (s.ent g w SIEVE_ACT.POL i),
                     frer := s.ent g w SIEVE_ACT.FRER i, frerIdx := s.ent g w SIEVE_ACT.FRER_IDX i,
                     sized := strm && s.rd w STRM_CFG.MAX_SDU f != 0 })

/-! ## The CAN identifier filter -/

/-- R260. -/
def State.canfMatch (s : State) (g port : Nat) (h : CanHdr) : Option Nat :=
  let e := fun f i => s.ent g wCanf f i
  if !s.answers wCanf then none
  else (s.validIn g wCanf CANF_ENTRY.VALID).find? fun i =>
    bit (e CANF_ENTRY.PORTS i) port && fmtMatches (e CANF_ENTRY.FMT i) h.fmt &&
    idMatches (e CANF_ENTRY.IDE i == 1) (e CANF_ENTRY.ID i) (e CANF_ENTRY.MASK i) h &&
    (h.fmt != fmtXl || (h.vcid &&& e CANF_ENTRY.VMASK i) == (e CANF_ENTRY.VCID i &&& e CANF_ENTRY.VMASK i))

/-- Stage 2 of a CAN item: the sticky bits of a drop are the Sieve's (SIEVE_STAT card). -/
def State.canFilter (s : State) (g port : Nat) (h : CanHdr) : State × (Guarded ⊕ Nat) :=
  match s.canfMatch g port h with
  | none => (s.sticky wSieve SIEVE_STAT.NOMATCH, .inr 0x71)
  | some i =>
    let s := s.count wCanf CANF_HITS.COUNT i
    if s.entOn g wCanf CANF_ENTRY.DENY i then (s.sticky wSieve SIEVE_STAT.DENY, .inr 0x70)
    else
      let pol := if s.entOn g wCanf CANF_ENTRY.POL_EN i then some (s.ent g wCanf CANF_ENTRY.POL i) else none
      (s, .inl ⟨some (s.ent g wCanf CANF_ENTRY.ROUTE i), none, pol, 0, 0, false⟩)

/-! ## The Weighbridge -/

inductive Colour where
  | green | yellow | red
  deriving DecidableEq, Repr

/-- A policer's parameters in Bench g. -/
def State.pol (s : State) (g : Nat) (f : Field) (i : Nat) : Nat := s.ent g wWeigh f i

def unit9 : Nat := 1000000000

/-- The rate of a bucket in tokens per second, which is 10^-9 tokens per nanosecond (R264, R265). -/
def State.polRate (s : State) (g i r : Nat) : Nat := if s.pol g WB_ENTRY.MODE i = 1 then r else 125 * r

def State.nowNs (s : State) : Nat := s.clk * clkNs

/-- The buckets of a policer before this item. -/
def State.bucketOf (s : State) (g i : Nat) : Bucket :=
  match s.guard.bucket.find? (·.1 == i) with
  | some (_, b) => b
  | none => ⟨s.pol g WB_ENTRY.CBS i * unit9, s.pol g WB_ENTRY.EBS i * unit9, s.guard.wbFull⟩

/-- Both buckets of a policer are full from now on (R268, R269). -/
def State.fillBucket (s : State) (g i : Nat) : State :=
  let b : Bucket := ⟨s.pol g WB_ENTRY.CBS i * unit9, s.pol g WB_ENTRY.EBS i * unit9, s.nowNs⟩
  s.setGuard { s.guard with bucket := insertAt s.guard.bucket i b }

/-- A flip from Bench o to Bench n: a policer that it installs, or whose MODE it changes, starts full; another carries its fill (R269). -/
def State.bucketFlipped (s : State) (o n i : Nat) : State :=
  if s.pol o WB_ENTRY.MODE i ≠ s.pol n WB_ENTRY.MODE i ∨ (viewFields wWeigh i).all (fun f => s.ent o wWeigh f i == 0) = true then
    s.fillBucket n i
  else s.setGuard { s.guard with bucket := insertAt s.guard.bucket i (s.bucketOf o i) }

/-- R265, R267, R269: the refill over the span since the previous update, clamped to the sizes in force. -/
def State.refill (s : State) (g i : Nat) : Bucket :=
  let b := s.bucketOf g i
  let dt := s.nowNs - b.at_
  let cbs := s.pol g WB_ENTRY.CBS i * unit9
  let ebs := s.pol g WB_ENTRY.EBS i * unit9
  let cir := s.pol g WB_ENTRY.CIR i
  let raw := b.tc + s.polRate g i cir * dt
  let ovr := if s.pol g WB_ENTRY.CF i = 1 ∧ cir ≠ 0 then raw - cbs else 0
  ⟨min cbs raw, min ebs (b.te + s.polRate g i (s.pol g WB_ENTRY.EIR i) * dt + ovr), s.nowNs⟩

/-- R264: the size of an item of n frame bytes. -/
def State.polSize (s : State) (g i n : Nat) : Nat :=
  if s.pol g WB_ENTRY.MODE i = 1 then 1
  else (max 1 ((n : Int) + toSigned (s.pol g WB_ENTRY.ADJ i) 6)).toNat

/-- R265 to R267: policer i meters an item. -/
def State.meter (s : State) (g i n : Nat) (yellowIn : Bool) : State × Colour :=
  let b := s.refill g i
  let sz := s.polSize g i n * unit9
  let yin := yellowIn && s.pol g WB_ENTRY.CM i == 1
  let set := fun (b : Bucket) => s.setGuard { s.guard with bucket := insertAt s.guard.bucket i b }
  if s.pol g WB_ENTRY.CBS i = 0 then ((set b).count wWeigh WB_RED.COUNT i, .red)
  else if !yin && sz ≤ b.tc then ((set { b with tc := b.tc - sz }).count wWeigh WB_GREEN.COUNT i, .green)
  else if sz ≤ b.te then ((set { b with te := b.te - sz }).count wWeigh WB_YELLOW.COUNT i, .yellow)
  else ((set b).count wWeigh WB_RED.COUNT i, .red)

/-- Stage 3: the class and DEI marking of a yellow item, or the reason that ends it (R266). -/
def State.police (s : State) (g : Nat) (pol : Option Nat) (n : Nat) (yellowIn : Bool) (tc : Option Nat) :
    State × ((Option Nat × Bool) ⊕ Nat) :=
  match pol with
  | none => (s, .inl (tc, false))
  | some i =>
    if !s.answers wWeigh then (s, .inl (tc, false))
    else
      let r := s.meter g i n yellowIn
      match r.2 with
      | .green => (r.1, .inl (tc, false))
      | .red => ((r.1.sticky wWeigh WB_STAT.RED).event wWeigh 0, .inr 0x75)
      | .yellow =>
        if s.pol g WB_ENTRY.DROP_Y i = 1 then (r.1.sticky wWeigh WB_STAT.YDROP, .inr 0x76)
        else (r.1, .inl (if s.pol g WB_ENTRY.YTC_EN i = 1 then some (s.pol g WB_ENTRY.YTC i) else tc,
                         s.pol g WB_ENTRY.YDEI i == 1))

end Sys2Proof.Machine
end

