-- ==== Sys2Proof/Machine/LinOps.lean ====
section
/-! DEFINITION. LIN masters as operations: buffers and their copies (R224), slots and their outcomes (R222, R223), and the schedule
runner's next entry (state table of 08). -/

namespace Sys2Proof.Machine

/-! ## Buffers -/

/-- LEN of a descriptor. -/
def State.linLen (s : State) (p i : Nat) : Nat := s.rd (wLin p) (LIN_FRAME.LEN.elem i)

/-- The data bytes of a buffer, byte 8 of LIN_FRAMEi first. -/
def State.linBytes (s : State) (p i : Nat) : List Nat :=
  (toBytes (s.rd (wLin p) (LIN_FRAME_DATA.DATA.elem i)) 8).take (s.linLen p i)

def State.setLinData (s : State) (p i v : Nat) : State := s.wr (wLin p) (LIN_FRAME_DATA.DATA.elem i) v

/-- Bytes put at the front of a buffer; the others keep their values. -/
def State.fillLin (s : State) (p i : Nat) (data : List Nat) : State :=
  let old := toBytes (s.rd (wLin p) (LIN_FRAME_DATA.DATA.elem i)) 8
  s.setLinData p i (beNat ((data ++ old.drop data.length).take 8))

def State.linSlot (s : State) (p : Nat) : Option LinSlot := (s.lin.slot.find? (·.1 == p)).map (·.2)

def State.setLinSlot (s : State) (p : Nat) (x : LinSlot) : State :=
  s.setLin { s.lin with slot := insertAt s.lin.slot p x }

/-- The buffer of an identifier gets new unsent data (R224): what it held unsent is overwritten, and a slot that is sending the old data no
longer sends what the buffer holds. -/
def State.linReplace (s : State) (p i : Nat) : State :=
  let s := if (s.lin.owner.find? (·.1 == idKey p i)).isSome then
      (s.sticky (wLin p) LIN_STAT.OVERWRITE).linOwnerEnd p i .dropped 0x58
    else s
  let s := match s.linSlot p with
    | none => s
    | some x => if x.id = i then s.setLinSlot p { x with same := false } else s
  s.wr (wLin p) (LIN_FRAME_STAT.UNSENT.elem i) 1

def State.linAsleep (s : State) (p : Nat) : Bool := s.netState (netOfLin p) == nsAsleep || s.netState (netOfLin p) == nsSwitch

/-- The first two checks of R500 end a copy: the port is off, or its network sleeps and does not wake for it. -/
def State.linShut (s : State) (p : Nat) : Bool :=
  !s.on (wLin p) LIN_CFG.EN || (s.linAsleep p && !s.on wWake (WK_NET.WAKE_ON_TX.elem (netOfLin p)))

/-- A copy at a LIN egress, in the order of R500. -/
def State.linEnqueue (s : State) (p : Nat) (c : Copy) : State :=
  let net := netOfLin p
  let asleep := s.linAsleep p
  if !s.on (wLin p) LIN_CFG.EN then s.linEnd p c .dropped 0x5A
  else if s.linShut p then (s.sticky wWake WK_STAT.TX_ASLEEP).linEnd p c .dropped 0x5C
  else if s.copyBad c then s.linEnd p c .failed 0x31
  else if s.rd (wLin p) (LIN_FRAME.DIR.elem c.linId) ≠ 1 ∨ s.linLen p c.linId ≠ c.data.length then s.linEnd p c .dropped 0x59
  else
    let s := (s.linReplace p c.linId).fillLin p c.linId c.data
    let s := s.setLin { s.lin with owner := insertAt s.lin.owner (idKey p c.linId) c }
    if asleep then s.copyWake net else s

/-! ## Frames on the bus (ISO 17987) -/

/-- The inverted sum with carries, over the PID too when enhanced. -/
def linSum (l : List Nat) : Nat := 255 - l.foldl (fun a b => if 255 < a + b then a + b - 255 else a + b) 0

/-- R223: the checksum of an identifier's frame. -/
def State.linChecksum (s : State) (p i : Nat) (data : List Nat) : Nat :=
  if s.on (wLin p) (LIN_FRAME.CSUM.elem i) ∧ i < 0x3C then linSum (linPid i :: data) else linSum data

/-- R221: TFrame_Maximum of an N-byte frame against a slot of `delay` quarters of a millisecond. 1.4 times the nominal bits at RATE. -/
def State.linDelayOk (s : State) (p n delay : Nat) : Bool :=
  let bitsNom := (13 + s.rd (wLin p) LIN_CFG.BREAK) + (1 + s.rd (wLin p) LIN_CFG.DELIM) + 20 + 10 * (n + 1)
  5600 * bitsNom ≤ delay * s.rd (wLin p) LIN_RATE.RATE

/-! ## The runner -/

def State.linPos (s : State) (p : Nat) : Nat := s.rd (wLin p) LIN_SCHED_POS.POS
def State.setLinPos (s : State) (p v : Nat) : State := s.wr (wLin p) LIN_SCHED_POS.POS v

def State.entryTy (s : State) (p e : Nat) : Nat := min 5 (s.rd (wLin p) (LIN_SENTRY.TYPE.elem e))

/-- The identifier of an entry's frame: 0x3C and 0x3D for the request and response slots. -/
def State.entryId (s : State) (p e : Nat) : Nat :=
  if s.entryTy p e = 3 then 0x3C else if s.entryTy p e = 4 then 0x3D else s.rd (wLin p) (LIN_SENTRY.ID.elem e)

/-- The slot of an entry as R222 gives it. -/
def State.slotOf (s : State) (p e : Nat) : LinSlot :=
  let ty := s.entryTy p e
  let i := s.entryId p e
  let dir := s.rd (wLin p) (LIN_FRAME.DIR.elem i)
  let usable := dir != 0 && s.linLen p i != 0
  let unsent := s.linUnsent p i
  { id := i, event := usable && ty == 1,
    sends := usable && ((ty == 0 && dir == 1) || ((ty == 2 || ty == 3) && unsent)),
    expects := usable && ((ty == 0 && dir != 1) || ty == 1 || ty == 4), same := true, outcome := 0 }

/-- Entries of a table. -/
def State.tabFirst (s : State) (p t : Nat) : Nat := s.rd (wLin p) (LIN_TAB.START.elem t)
def State.tabLen (s : State) (p t : Nat) : Nat := s.rd (wLin p) (LIN_TAB.LEN.elem t)
def State.inTab (s : State) (p t e : Nat) : Bool := s.tabFirst p t ≤ e && e < s.tabFirst p t + s.tabLen p t

def State.linCur (s : State) (p : Nat) : Nat := s.rd (wLin p) LIN_SCHED_STAT.CUR
def State.linColl (s : State) (p : Nat) : Option Nat := (s.lin.collTab.find? (·.1 == p)).map (·.2)

/-- The entry after e in table t; after the last, the first. -/
def State.tabNext (s : State) (p t e : Nat) : Nat :=
  if e + 1 < s.tabFirst p t + s.tabLen p t then e + 1 else s.tabFirst p t

/-- R225: an entry, or a table, that the runner is in. -/
def State.linBusyEntry (s : State) (p e : Nat) : Bool :=
  s.linState p == linRun && (s.inTab p (s.linCur p) e || (match s.linColl p with
    | some t => s.inTab p t e
    | none => false))

def State.linBusyTab (s : State) (p t : Nat) : Bool :=
  s.linState p == linRun && (s.linCur p == t || s.linColl p == some t)

/-- The end of a slot: LAST, the Tallies and sticky bits of its outcome (R223). `code` is the LAST code. -/
def State.slotOutcome (s : State) (p : Nat) (x : LinSlot) (code : Nat) : State :=
  let w := wLin p
  let s := s.wr w (LIN_FRAME_STAT.LAST.elem x.id) code
  let err := fun (tally bit : Field) => ((s.count w tally).sticky w bit).event w 1
  if code = 2 then (if x.event then s else err LIN_NORESP.COUNT LIN_STAT.NORESP)
  else if code = 3 then err LIN_CSUM.COUNT LIN_STAT.CSUM
  else if code = 4 ∨ code = 7 then err LIN_FRAMING.COUNT LIN_STAT.FRAMING
  else if code = 5 then err LIN_BITERR.COUNT LIN_STAT.BITERR
  else if code = 6 then s.count w LIN_COLLISIONS.COUNT
  else s

/-- The response of the slot was sent without a bit error (R224). -/
def State.slotSent (s : State) (p : Nat) (x : LinSlot) : State :=
  let s := (s.count (wLin p) LIN_TX_OK.COUNT).wr (wLin p) (LIN_FRAME_STAT.LAST.elem x.id) 1
  if x.same then (s.linOwnerEnd p x.id .delivered 0).wr (wLin p) (LIN_FRAME_STAT.UNSENT.elem x.id) 0 else s

/-- The runner moves on at the end of a slot (state table). -/
def State.linAdvance (s : State) (p : Nat) (collided : Bool) : State :=
  let e := s.linPos p
  let ctab := s.rd (wLin p) (LIN_SENTRY.CTAB.elem e)
  let s := s.setLin { s.lin with slot := erase s.lin.slot p }
  match s.lin.pendTab.find? (·.1 == p) with
  | some (_, t) => (s.linStart p t).event (wLin p) 2
  | none =>
    if collided ∧ s.tabLen p ctab ≠ 0 then
      let saved := match s.linColl p with
        | none => s.tabNext p (s.linCur p) e
        | some _ => look s.lin.saved p 0
      let s := s.setLin { s.lin with collTab := insertAt s.lin.collTab p ctab, saved := insertAt s.lin.saved p saved }
      (s.wr (wLin p) LIN_SCHED_STAT.COLL 1).setLinPos p (s.tabFirst p ctab)
    else match s.linColl p with
      | some t =>
        if e + 1 < s.tabFirst p t + s.tabLen p t then s.setLinPos p (e + 1)
        else
          let back := look s.lin.saved p 0
          let s := s.setLin { s.lin with collTab := erase s.lin.collTab p, saved := erase s.lin.saved p }
          (s.wr (wLin p) LIN_SCHED_STAT.COLL 0).setLinPos p back
      | none => s.setLinPos p (s.tabNext p (s.linCur p) e)

end Sys2Proof.Machine
end

