-- ==== Sys2Proof/Machine/TrustOps.lean ====
section
/-! DEFINITION. The trust group as operations: life-cycle state, roots, and which key slots are usable (R395 to R403). -/

namespace Sys2Proof.Machine

/-! ## Life cycle (R396, R397) -/

def lcBlank : Nat := 0
def lcMake : Nat := 1
def lcField : Nat := 2
def lcService : Nat := 3
def lcReturn : Nat := 4
def lcScrap : Nat := 5

def State.lcState (s : State) : Nat :=
  if s.trust.otp ≤ 1 then s.trust.otp
  else if s.trust.otp = 2 then (if s.trust.service then lcService else lcField)
  else if s.trust.otp = 3 then lcReturn else lcScrap

/-- The current root: 0 MAKE, 1 FIELD, 2 SERVICE, 3 RETURN (R396). -/
def State.currentRoot (s : State) : Option Nat :=
  if s.lcState = lcBlank ∨ s.lcState = lcScrap then none else some (s.lcState - 1)

def State.rootSecret (s : State) (r : Nat) : Option Nat := (s.trust.roots.find? (·.1 == r)).map (·.2)

def State.installed (s : State) (r : Nat) : Bool := (s.rootSecret r).isSome

/-- LC_ROOTS.AUTH: every authority is programmed with the digests of BLANK's LC_ADVANCE. -/
def State.programmed (s : State) : Bool := s.trust.digests != []

/-! ## Key slots (R403) -/

def useCmac : Nat := 0
def useGcm : Nat := 1
def useWrap : Nat := 2

def useField (u : Nat) : Field := if u = useCmac then KS_ATTR.CMAC else if u = useGcm then KS_ATTR.GCM else KS_ATTR.WRAP

/-- Slot k may be used in the present life cycle, whatever the use. -/
def State.slotLive (s : State) (k : Nat) : Bool :=
  s.on wKS KS_ATTR.VALID k && s.currentRoot == some (s.rd wKS KS_ATTR.ROOT k) && s.installed (s.rd wKS KS_ATTR.ROOT k) && !s.pwr.tampered

/-- R403: slot k is usable for a use with a key of the given length code. -/
def State.keyUsable (s : State) (k u len : Nat) : Bool :=
  s.slotLive k && s.on wKS (useField u) k && s.rd wKS KS_ATTR.LEN k == len

def State.key (s : State) (k : Nat) : Nat := look s.trust.keys k 0

/-- KS_USABLE. -/
def State.usableMap (s : State) : Nat :=
  (List.range 256).foldl (fun m k =>
    if s.slotLive k && (s.on wKS KS_ATTR.CMAC k || s.on wKS KS_ATTR.GCM k || s.on wKS KS_ATTR.WRAP k) then setBit m k else m) 0

/-! ## The staging area (R419) -/

def stgIdle : Nat := 0
def stgReceiving : Nat := 1
def stgForward : Nat := 2
def stgVerifying : Nat := 3
def stgStaged : Nat := 4
def stgInstalled : Nat := 5
def stgArmed : Nat := 6

def State.stg (s : State) : Nat := s.rd wUpd UPD_STG_STAT.STATE
def State.setStg (s : State) (v : Nat) : State := s.wr wUpd UPD_STG_STAT.STATE v

end Sys2Proof.Machine
end

