-- ==== Sys2Proof/Machine/MacsecOps.lean ====
section
/-! DEFINITION. MACsec on ETH0 to ETH5 as operations: reception (R286, R287) and protection (R288). -/

namespace Sys2Proof.Machine

/-- Engine of R289. -/
def gcmEngine (p : Nat) (tx : Bool) : Nat := 2 * min p 2 + b2n tx

/-! ## SecTAG (IEEE 802.1AE-2018) -/

def secType : Nat := 0x88E5

/-- A SecTAG as R286 reads it. `len` counts the tag with its Ethertype. -/
structure SecTag where
  ver : Bool
  es : Bool
  scBit : Bool
  e : Bool
  an : Nat
  sl : Nat
  pn : Nat
  sci : Nat
  len : Nat
  deriving DecidableEq, Repr

def secTag (d : List Nat) : Option SecTag :=
  if beAt d 12 2 ≠ secType then none
  else
    let b := d.getD 14 0
    let sc := bit b 5
    some { ver := bit b 7, es := bit b 6, scBit := sc, e := bit b 3, an := b % 4, sl := d.getD 15 0, pn := beAt d 16 4,
           sci := if sc then beAt d 20 8 else ethSa d * 65536 + 1, len := if sc then 16 else 8 }

/-- Bytes of secure data: SL where it is not 0, else all before the ICV. A short frame may be padded to the 60 bytes of the minimum. -/
def secLen (t : SecTag) (d : List Nat) : Nat := if t.sl ≠ 0 then t.sl else d.length - 12 - t.len - 16

def secBad (t : SecTag) (d : List Nat) : Bool :=
  t.ver || (t.es && t.scBit) || 47 < t.sl || d.length < 12 + t.len + 16 || d.length < 12 + t.len + secLen t d + 16 ||
  (t.sl == 0 && secLen t d < 48) || (t.sl != 0 && d.length != 12 + t.len + t.sl + 16 && d.length != 60)

def xorList (a : List Nat) (b : List (BitVec 8)) : List Nat := (a.zip b).map fun (x, y) => xorBits x y.toNat

/-- R287: the IV. -/
def State.secIv (s : State) (k a pn sci : Nat) : Nat :=
  if isXpn (s.sc k MSEC_SC.CIPHER) then xorBits (s.sa k a MSEC_SA.SSCI * 2 ^ 64 + pn) (s.sa k a MSEC_SA.SALT)
  else sci * 2 ^ 32 + pn

/-- R287: the lowest acceptable PN. With window 0 only increasing PNs are accepted. -/
def State.lowestPn (s : State) (p k a : Nat) : Nat :=
  let high := s.sa k a MSEC_SA_PN.PN
  let w := s.rd wMacsec (MSEC_WIN.WIN.elem p)
  let w := if isXpn (s.sc k MSEC_SC.CIPHER) then min w (2 ^ 30) else w
  max (max 1 (s.sa k a MSEC_SA.PN)) (if high = 0 then 0 else if w = 0 then high + 1 else high - w)

/-- R287: the PN of received 32 bits. -/
def recoverPn (xpn : Bool) (lowest pn : Nat) : Nat :=
  if !xpn then pn
  else if lowest % 2 ^ 32 ≤ pn then lowest / 2 ^ 32 * 2 ^ 32 + pn else (lowest / 2 ^ 32 + 1) * 2 ^ 32 + pn

def State.secExempt (s : State) (d : List Nat) : Bool :=
  let ty := beAt d 12 2
  ty == 0x888E || (s.rd wMacsec MSEC_EXEMPT.ETYPE != 0 && ty == s.rd wMacsec MSEC_EXEMPT.ETYPE)

/-! ## Reception -/

/-- What R286 does with a frame. -/
inductive Secured where
  | pass (d : List Nat)
  | ended (d : Disp) (reason : Nat)
  deriving DecidableEq, Repr

/-- R286, R423 for a frame whose channel, association, PN and lowest acceptable PN are known. -/
def State.secOpen (s : State) (p k a : Nat) (t : SecTag) (d : List Nat) : State × Secured :=
  let w := wMacsec
  let cipher := s.sc k MSEC_SC.CIPHER
  let slot := s.sa k a MSEC_SA.KEY
  let lowest := s.lowestPn p k a
  let pn := recoverPn (isXpn cipher) lowest t.pn
  if s.inRom (wGcm (gcmEngine p false)) then (s, .ended .failed 0xA6)
  else if s.keyUsable slot useGcm (cipherLen cipher) = false then (s, .ended .failed 0x8E)
  else if s.on w (MSEC_PORT.RP.elem p) ∧ pn < lowest then
    (((s.sticky w MSEC_STAT.REPLAY).count w MSEC_IN_LATE.COUNT k).event w 0, .ended .dropped 0x89)
  else
    let body := (d.drop (12 + t.len)).take (secLen t d)
    let icv := beNat ((d.drop (12 + t.len + body.length)).take 16)
    let key := s.key slot
    let iv := s.secIv k a pn t.sci
    let head := d.take (12 + t.len)
    let good := (if t.e then Config.gcmIcv cipher key iv head body else Config.gcmIcv cipher key iv (head ++ body) []).toNat == icv
    let plain := if t.e then xorList body (Config.gcmStream cipher key iv body.length) else body
    let s := s.count (wGcm (gcmEngine p false)) ENG_WORK.COUNT 0 d.length
    if !good then
      let s := ((s.sticky w MSEC_STAT.ICV).count w MSEC_IN_INVALID.COUNT k).event w 0
      if s.rd w (MSEC_PORT.VALIDATE.elem p) = 2 ∨ t.e then (s, .ended .dropped 0x88) else (s, .pass (d.take 12 ++ plain))
    else
      let s := if s.sa k a MSEC_SA_PN.PN < pn then s.wr w MSEC_SA_PN.PN pn (saIdx k a) else s
      (s.count w MSEC_IN_OK.COUNT k, .pass (d.take 12 ++ plain))

/-- R286. -/
def State.secReceive (s : State) (p : Nat) (d : List Nat) : State × Secured :=
  let w := wMacsec
  let mode := min 2 (s.rd w (MSEC_PORT.VALIDATE.elem p))
  let scOfSci := fun sci => (s.portScs p 0).find? fun k => s.sc k MSEC_SC.SCI == sci
  if !s.secyOn p then (s, .pass d)
  else if mode = 0 then
    let sci := match secTag d with
      | some t => t.sci
      | none => ethSa d * 65536 + 1
    (match scOfSci sci with
      | some k => s.count w MSEC_IN_UNCHECKED.COUNT k
      | none => s, .pass d)
  else match secTag d with
    | none =>
      if s.secExempt d || mode == 1 then (s, .pass d)
      else (s.sticky w MSEC_STAT.UNTAGGED, .ended .dropped 0x8C)
    | some t =>
      if secBad t d then (s.sticky w MSEC_STAT.UNTAGGED, .ended .dropped 0x8B)
      else
        let noSa := ((s.sticky w MSEC_STAT.NOSA).count w MSEC_IN_NOSA.COUNT p, Secured.ended .dropped 0x8A)
        match scOfSci t.sci with
        | none => noSa
        | some k =>
          match [0, 1].find? fun a => s.saOn k a && s.sa k a MSEC_SA.AN == t.an with
          | none => noSa
          | some a => s.secOpen p k a t d

/-! ## Protection -/

def pnMax (xpn : Bool) : Nat := if xpn then 2 ^ 64 - 1 else 2 ^ 32 - 1

def State.scToHalt (s : State) (k : Nat) : State := ((s.setScState k scHalt).sticky wMacsec MSEC_STAT.HALT).event wMacsec 3

/-- The rows "exhausted". -/
def State.scExhausted (s : State) (k : Nat) : State :=
  if s.sc k MSEC_SC_CTRL.AUTO_SW = 1 ∧ s.saOn k (1 - s.encSa k) then s.scSwitch k else s.scToHalt k

/-- The encoding association has no PN left. -/
def State.encSpent (s : State) (k : Nat) : Bool := s.scState k == scEnc && s.guard.pnSpent.contains (saIdx k (s.encSa k))

/-- What follows the use of a PN: PN_LOW at three quarters of the space, and the rows "exhausted". -/
def State.pnUsed (s : State) (k a pn : Nat) : State :=
  let w := wMacsec
  let top := pnMax (isXpn (s.sc k MSEC_SC.CIPHER))
  let s := if (top + 1) / 4 * 3 < pn + 1 ∧ look s.guard.pnLow (saIdx k a) false = false then
      ((s.sticky w MSEC_STAT.PN_LOW).event w 2).setGuard { s.guard with pnLow := insertAt s.guard.pnLow (saIdx k a) true }
    else s
  if pn + 1 ≤ top then s.wr w MSEC_SA_PN.PN (pn + 1) (saIdx k a)
  else
    let s := (s.wr w MSEC_SA_PN.PN pn (saIdx k a)).setGuard { s.guard with pnSpent := addTo s.guard.pnSpent (saIdx k a) }
    s.scExhausted k

/-- R288, R423: a copy leaves port p. -/
def State.secProtect (s : State) (p : Nat) (d : List Nat) : State × Secured :=
  let w := wMacsec
  if !s.secyOn p || s.secExempt d then (s, .pass d)
  else
    let s := s.secyBoundary p
    match s.txSc p with
    | none => (s, .pass d)
    | some k =>
      let s := if s.encSpent k then s.scExhausted k else s
      let s := if s.encSpent k then s.scToHalt k else s
      if s.scState k = scHalt then (s, .ended .dropped 0x8D)
      else if s.scState k ≠ scEnc then (s, .pass d)
      else
        let a := s.encSa k
        let cipher := s.sc k MSEC_SC.CIPHER
        let slot := s.sa k a MSEC_SA.KEY
        if s.inRom (wGcm (gcmEngine p true)) then (s, .ended .failed 0xA6)
        else if s.keyUsable slot useGcm (cipherLen cipher) = false then (s, .ended .failed 0x8E)
        else
          let conf := s.on w (MSEC_PORT.CONF.elem p)
          let inc := s.on w (MSEC_PORT.SCI_INC.elem p)
          let pn := max 1 (s.sa k a MSEC_SA_PN.PN)
          let sci := s.sc k MSEC_SC.SCI
          let body := d.drop 12
          let tci := b2n (s.on w (MSEC_PORT.ES.elem p)) * 64 + b2n inc * 32 + b2n conf * 12 + s.sa k a MSEC_SA.AN
          let tag := toBytes secType 2 ++ [tci, if body.length < 48 then body.length else 0] ++ toBytes (pn % 2 ^ 32) 4 ++
            (if inc then toBytes sci 8 else [])
          let head := d.take 12 ++ tag
          let key := s.key slot
          let iv := s.secIv k a pn sci
          let out := if conf then xorList body (Config.gcmStream cipher key iv body.length) else body
          let icv := if conf then Config.gcmIcv cipher key iv head out else Config.gcmIcv cipher key iv (head ++ body) []
          let s := s.count w (if conf then MSEC_OUT_ENCRYPTED.COUNT else MSEC_OUT_PROTECTED.COUNT) k
          let s := s.count (wGcm (gcmEngine p true)) ENG_WORK.COUNT 0 d.length
          (s.pnUsed k a pn, .pass (head ++ out ++ toBytes icv.toNat 16))

end Sys2Proof.Machine
end

