-- ==== Sys2Proof/Machine/AuthOps.lean ====
section
/-! DEFINITION. The AUTH unit as operations: freshness values and their ceilings (R281 to R284), the verification of stage 5 (R275 to R279)
and the appending of stage 8 (R280). -/

namespace Sys2Proof.Machine

/-! ## Freshness values -/

def fvUnsync : Nat := 0
def fvSync : Nat := 1
def fvSpent : Nat := 2

/-- The latest value L of a context. -/
def State.fv (s : State) (c : Nat) : Nat := s.rd wAuth AUTH_FV.FV c
def State.fvState (s : State) (c : Nat) : Nat := s.rd wAuth AUTH_CTX_STATE.STATE c
def State.setFvState (s : State) (c v : Nat) : State := s.wr wAuth AUTH_CTX_STATE.STATE v c

/-- A field of binding c in Bench g. -/
def State.ctx (s : State) (g : Nat) (f : Field) (c : Nat) : Nat := s.ent g wAuth f c

def State.flat (s : State) (c : Nat) : Bool := s.entOn (s.genOf wAuth) wAuth AUTH_CTX.FLAT c

def State.reserve (s : State) : Nat := 2 ^ (min 8 (s.rd wAuth AUTH_CFG.RESERVE) + 4)

/-- The ceiling in AON; a context without a record has just started. -/
def State.ceil (s : State) (c : Nat) : Nat :=
  match s.guard.aonFv.find? (·.1 == c) with
  | some (_, r) => r.ceil
  | none => s.fv c + s.reserve

def State.setAonFv (s : State) (c fv ceil : Nat) : State :=
  s.setGuard { s.guard with aonFv := insertAt s.guard.aonFv c ⟨fv, ceil⟩ }

/-- R281: a background write is due when less than half the reserve is left. -/
def State.ceilCheck (s : State) (c : Nat) : State :=
  if s.ceil c - s.fv c < s.reserve / 2 then s.setGuard { s.guard with ceilPend := addTo s.guard.ceilPend c } else s

/-- The last value of a context: nothing can follow it. -/
def fvLast (flat : Bool) (v : Nat) : Bool := if flat then v == 2 ^ 64 - 1 else v % 2 ^ 40 == 2 ^ 40 - 1

/-- L takes a value: SPENT at the last one (state table of 11). -/
def State.takeFv (s : State) (c v : Nat) : State :=
  let s := s.wr wAuth AUTH_FV.FV v c
  let s := if fvLast (s.flat c) v then (s.setFvState c fvSpent).event wAuth 2 else s
  s.ceilCheck c

/-- R281 after a change of RESERVE: no ceiling stands more than RESERVE above L. -/
def State.reserveChanged (s : State) : State :=
  s.each s.guard.started fun s c =>
    let s := match s.guard.aonFv.find? (·.1 == c) with
      | some (_, r) => if s.fv c + s.reserve < r.ceil then s.setAonFv c r.fv (s.fv c + s.reserve) else s
      | none => s
    s.ceilCheck c

/-- The write of R281 is done: CEIL is RESERVE above L. -/
def State.ceilWritten (s : State) (c : Nat) : State :=
  let s := s.setAonFv c (s.fv c) (s.fv c + s.reserve)
  s.setGuard { s.guard with ceilPend := dropFrom s.guard.ceilPend c }

/-- A value an item would take reaches the ceiling (R281): the item waits. -/
def State.ceilBlocks (s : State) (c v : Nat) : Bool := s.ceil c ≤ v

def State.ceilWait (s : State) (c : Nat) : State :=
  (s.sticky wAuth AUTH_STAT.CEIL_WAIT).setGuard { s.guard with ceilPend := addTo s.guard.ceilPend c }

/-! ### Start, loss and write-back -/

/-- The row "install or flip to VALID 1": an index that has a record goes on from it. -/
def State.authStart (s : State) (c : Nat) : State :=
  let flat := s.flat c
  let epoch := s.on wAuth AUTH_EPOCH.VALID
  let s := if s.guard.started.contains c then s
    else
      let s := s.setGuard { s.guard with started := s.guard.started ++ [c] }
      let v := if flat then 0 else if epoch then s.rd wAuth AUTH_EPOCH.EPOCH * 2 ^ 40 else 0
      (s.wr wAuth AUTH_FV.FV v c).setAonFv c v (v + s.reserve)
  let s := s.setFvState c (if flat || epoch then fvSync else fvUnsync)
  s.ceilCheck c

/-- R282: every exact value goes into AON. -/
def State.authWriteBack (s : State) : State :=
  s.each s.guard.started fun s c =>
    let s := s.setAonFv c (s.fv c) (s.fv c + 1)
    s.setGuard { s.guard with ceilPend := addTo s.guard.ceilPend c }

/-- R282: the start after a reset or a loss of power that left no write-back. -/
def State.authRestore (s : State) : State :=
  let s := s.each s.guard.started fun s c => s.wr wAuth AUTH_FV.FV (s.ceil c - 1) c
  if s.guard.started = [] then s else (s.sticky wAuth AUTH_STAT.RESTORED).event wAuth 3

/-- The start after a reset that kept the exact values: L is the record's. -/
def State.authReload (s : State) : State :=
  s.each s.guard.started fun s c => match s.guard.aonFv.find? (·.1 == c) with
    | some (_, r) => s.wr wAuth AUTH_FV.FV r.fv c
    | none => s

/-- R283: POR, OFF and tamper clear every record and the epoch. -/
def State.authClear (s : State) : State :=
  let s := s.each (s.validIn (s.genOf wAuth) wAuth AUTH_CTX.VALID) fun s c =>
    (s.wr wAuth AUTH_FV.FV 0 c).setFvState c (if s.flat c then fvSync else fvUnsync)
  let s := s.each s.guard.started fun s c => s.wr wAuth AUTH_FV.FV 0 c
  let s := s.setGuard { s.guard with aonFv := [], ceilPend := [], started := [] }
  (s.wr wAuth AUTH_EPOCH.VALID 0).wr wAuth AUTH_EPOCH.EPOCH 0

/-! ### The epoch (R284) -/

/-- The value is adopted. -/
def State.epochNew (s : State) (e : Nat) : Bool := !s.on wAuth AUTH_EPOCH.VALID || s.rd wAuth AUTH_EPOCH.EPOCH < e

def State.offerEpoch (s : State) (e : Nat) : State :=
  if !s.epochNew e then s.sticky wAuth AUTH_STAT.EPOCH_LOW
  else
    let s := (s.wr wAuth AUTH_EPOCH.VALID 1).wr wAuth AUTH_EPOCH.EPOCH e
    let s := s.each s.guard.started fun s c =>
      if s.flat c then s
      else
        let v := e * 2 ^ 40
        let s := ((s.wr wAuth AUTH_FV.FV v c).setAonFv c v (v + s.reserve)).setFvState c fvSync
        s.setGuard { s.guard with ceilPend := dropFrom s.guard.ceilPend c }
    s.event wAuth 1

/-! ## Secured PDUs (R273, R274) -/

def State.macLen (s : State) (g c : Nat) : Nat := max 2 (s.ctx g AUTH_CTX.MAC_LEN c) + 1
def State.tfvBits (s : State) (g c : Nat) : Nat := min 32 (s.ctx g AUTH_CTX.TFV_BITS c)

/-- T. -/
def State.trailerLen (s : State) (g c : Nat) : Nat := ceilDiv (s.tfvBits g c + 8 * s.macLen g c) 8

/-- The truncated MAC over a freshness value. -/
def State.mac (s : State) (g c fv : Nat) (part : List Nat) : Nat :=
  let m := toBytes (s.ctx g AUTH_CTX.DATA_ID c) 2 ++ part ++ toBytes fv 8
  (Config.cmac (s.key (s.ctx g AUTH_CTX.KEY c)) m).toNat / 2 ^ (128 - 8 * s.macLen g c)

/-- The trailer for a freshness value. -/
def State.trailer (s : State) (g c fv : Nat) (part : List Nat) : List Nat :=
  let t := s.tfvBits g c
  let n := s.trailerLen g c
  let v := (fv % 2 ^ t * 2 ^ (8 * s.macLen g c) + s.mac g c fv part) * 2 ^ (8 * n - t - 8 * s.macLen g c)
  toBytes v n

/-- R276. -/
def candidate (l r t : Nat) : Nat :=
  if t = 0 then l + 1 else if l % 2 ^ t < r then l - l % 2 ^ t + r else l - l % 2 ^ t + 2 ^ t + r

/-- Blocks of an operation over the authenticated bytes (R290). -/
def cmacBlocks (n : Nat) : Nat := max 1 (ceilDiv n 16)

def State.cmacWork (s : State) (e n : Nat) : State := s.count (wCmac e) ENG_WORK.COUNT 0 (cmacBlocks (n + 10))

/-! ## Verification -/

/-- What stage 5 does with an item: it goes on, `strip` bytes taken off its copies; it ends; or it waits for a ceiling write. -/
inductive Verdict where
  | pass (strip : Nat)
  | ended (d : Disp) (reason : Nat)
  | waits (cand : Nat)
  deriving DecidableEq, Repr

/-- The sticky bit and the tally of a failure of R275 or R280. -/
def State.authFailed (s : State) (c reason : Nat) (monitored : Bool) : State :=
  let w := wAuth
  let s := if reason = 0x80 then s.sticky w AUTH_STAT.MAC_FAIL else if reason = 0x81 then s.sticky w AUTH_STAT.REPLAY
    else if reason = 0x83 then s.sticky w AUTH_STAT.UNSYNC else if reason = 0x87 then s.sticky w AUTH_STAT.KEY else s
  let s := if monitored then s.count w AUTH_MONITOR_FAILS.COUNT
    else if reason = 0x80 then s.count w AUTH_MAC_FAILS.COUNT else if reason = 0x81 then s.count w AUTH_REPLAYS.COUNT
    else s.count w AUTH_OTHER.COUNT
  s.count w AUTH_CTX_FAILS.COUNT c

/-- Bytes that STRIP takes off an item of n bytes; none where the data do not reach. -/
def State.stripLen (s : State) (g c n : Nat) : Nat :=
  let a := s.ctx g AUTH_CTX.AUTH_LEN c
  let t := s.trailerLen g c
  if s.entOn g wAuth AUTH_CTX.STRIP c = false ∨ n < t then 0 else if a = 0 then t else n - a

/-- The item's candidate becomes L. An item that has waited while the epoch moved on finishes under the old value, and L stays (R284). -/
def State.verified (s : State) (c cand : Nat) : State :=
  (if s.fv c < cand then s.takeFv c cand else s).count wAuth AUTH_VERIFIED.COUNT

/-- R275 to R278 on the secured PDU d by CMAC engine e. -/
def State.authVerify (s : State) (g c e : Nat) (d : List Nat) : State × Verdict :=
  let n := d.length
  let t := s.trailerLen g c
  let al := s.ctx g AUTH_CTX.AUTH_LEN c
  let part := if al = 0 then d.take (n - t) else d.take al
  let raw := beNat ((d.drop part.length).take t) / 2 ^ (8 * t - s.tfvBits g c - 8 * s.macLen g c)
  let r := raw / 2 ^ (8 * s.macLen g c)
  let l := s.fv c
  let cand := candidate l r (s.tfvBits g c)
  let hard := fun reason => ((s.authFailed c reason false).event wAuth 0, Verdict.ended .failed reason)
  let soft := fun (s : State) reason =>
    if s.entOn g wAuth AUTH_CTX.MONITOR c then ((s.authFailed c reason true).event wAuth 0, Verdict.pass (s.stripLen g c n))
    else ((s.authFailed c reason false).event wAuth 0, Verdict.ended .dropped reason)
  if s.entOn g wAuth AUTH_CTX.VALID c = false ∨ s.entOn g wAuth AUTH_CTX.DIR c then hard 0x86
  else if s.keyUsable (s.ctx g AUTH_CTX.KEY c) useCmac 0 = false then hard 0x87
  else if n < al + t then soft s 0x82
  else if s.fvState c ≠ fvSync then soft s 0x83
  else if max 1 (s.ctx g AUTH_CTX.ACC_WIN c) < cand - l ∨ (s.entOn g wAuth AUTH_CTX.FLAT c = false ∧ cand / 2 ^ 40 ≠ l / 2 ^ 40) ∨
      2 ^ 64 ≤ cand then soft s 0x81
  else
    let s := s.cmacWork e part.length
    if s.mac g c cand part ≠ raw % 2 ^ (8 * s.macLen g c) then soft s 0x80
    else if s.ceilBlocks c cand then (s.ceilWait c, .waits cand)
    else (s.verified c cand, .pass (s.stripLen g c n))

/-! ## Appending (R280) -/

/-- What stage 8 does with a copy: its data gain a trailer, it ends, or it waits for a ceiling write. -/
inductive Appended where
  | data (d : List Nat)
  | ended (d : Disp) (reason : Nat)
  | waits
  deriving DecidableEq, Repr

/-- R280 on the authentic part d, whose form carries `limit` bytes. `form` is false for an Ethernet copy that is no PDU build. The
value is taken where the CMAC starts, so a copy that waits for a ceiling has not started it. DESIGN CHOICE: a context that came back to SYNC with its
last value has no next one, and ends its copies as SPENT does. -/
def State.authAppend (s : State) (c e : Nat) (d : List Nat) (limit : Nat) (form : Bool) : State × Appended :=
  let g := s.genOf wAuth
  let stop := fun (k : Disp) reason => (s.authFailed c reason false, Appended.ended k reason)
  let l := s.fv c
  if s.entOn g wAuth AUTH_CTX.VALID c = false ∨ s.entOn g wAuth AUTH_CTX.DIR c = false ∨ form = false then stop .failed 0x86
  else if s.keyUsable (s.ctx g AUTH_CTX.KEY c) useCmac 0 = false then stop .failed 0x87
  else if s.ctx g AUTH_CTX.AUTH_LEN c ≠ 0 ∧ s.ctx g AUTH_CTX.AUTH_LEN c ≠ d.length then stop .dropped 0x82
  else if s.fvState c ≠ fvSync ∨ fvLast (s.flat c) l then stop .dropped 0x83
  else if limit < d.length + s.trailerLen g c then stop .dropped 0x84
  else if s.ceilBlocks c (l + 1) then (s.ceilWait c, .waits)
  else
    let s := (s.cmacWork e d.length).takeFv c (l + 1)
    (s.count wAuth AUTH_APPENDED.COUNT, .data (d ++ s.trailer g c (l + 1) d))

end Sys2Proof.Machine
end

