-- ==== Sys2Proof/Machine/SignalOps.lean ====
section
/-! DEFINITION. Signals as operations: positions and values (R240 to R242), stores and what they trigger (R243 to R247), and the queues of
the engines (R248, R249, R251). -/

namespace Sys2Proof.Machine

/-! ## Positions -/

/-- Bit p of a PDU (09, "Signal positions"). -/
def pduBit (d : List Nat) (p : Nat) : Bool := bit (d.getD (p / 8) 0) (p % 8)

def setPduBit (d : List Nat) (p : Nat) (b : Bool) : List Nat :=
  setAt d (p / 8) (if b then setBit (d.getD (p / 8) 0) (p % 8) else clrBit (d.getD (p / 8) 0) (p % 8))

/-- q_k of R240. -/
def bigPos (start : Nat) : Nat → Nat
  | 0 => start
  | k + 1 => if bigPos start k % 8 ≠ 0 then bigPos start k - 1 else bigPos start k + 15

/-- R240: the position of bit k of a signal of len bits. -/
def sigPos (big : Bool) (start len k : Nat) : Nat := if big then bigPos start (len - 1 - k) else start + k

def sigInside (big : Bool) (start len n : Nat) : Bool :=
  (List.range len).all fun k => sigPos big start len k < 8 * n

/-- The raw value of a signal that lies inside the data. -/
def sigGet (big : Bool) (start len : Nat) (d : List Nat) : Nat :=
  (List.range len).foldl (fun v k => if pduBit d (sigPos big start len k) then v + 2 ^ k else v) 0

def sigPut (big : Bool) (start len v : Nat) (d : List Nat) : List Nat :=
  (List.range len).foldl (fun d k =>
    let p := sigPos big start len k
    if p < 8 * d.length then setPduBit d p (bit v k) else d) d

/-- R241: the 64-bit value of LEN bits. -/
def extend64 (signed : Bool) (len v : Nat) : Nat := if signed then ofSigned (toSigned v len) 64 else v

/-- R242: the LEN bits of a 64-bit value. -/
def saturate (signed : Bool) (len v : Nat) : Nat :=
  if signed then
    let x := toSigned v 64
    let top : Int := (2 ^ (len - 1) : Nat)
    ofSigned (if top - 1 < x then top - 1 else if x < -top then -top else x) len
  else min v (2 ^ len - 1)

/-! ## Signal entries -/

def siInit : Nat := 0
def siValid : Nat := 1
def siTimeout : Nat := 2

def State.sig (s : State) (g : Nat) (f : Field) (i : Nat) : Nat := s.ent g wSignal f i
def State.sigValue (s : State) (i : Nat) : Nat := s.rd wSignal SIG_VALUE.VALUE i
def State.sigState (s : State) (i : Nat) : Nat := s.rd wSignal SIG_STATE.STATE i

def State.sigLen (s : State) (g i : Nat) : Nat := min 64 (s.sig g SIG_ENTRY.LEN i)
def State.sigSigned (s : State) (g i : Nat) : Bool := s.sig g SIG_ENTRY.SIGNED i == 1

/-- DEFAULT, extended under SIGNED (R243). -/
def State.sigDefault (s : State) (g i : Nat) : Nat := extend64 (s.sigSigned g i) 32 (s.sig g SIG_ENTRY.DEFAULT i)

/-! ### Sinks (R246, R247) -/

/-- ⌊v × MUL / 2^SHIFT⌋ + OFS, or the mapped nibble; none outside the map. -/
def sinkRaw (mode mul ofs shift : Nat) (v : Int) : Option Int :=
  if mode = 1 then some ((v * toSigned mul 16) / ((2 ^ shift : Nat) : Int) + toSigned ofs 16)
  else if mode = 2 then
    (if 0 ≤ v ∧ v ≤ 7 then some (((mul * 65536 + ofs) / 16 ^ (7 - v.toNat) % 16 : Nat) : Int) else none)
  else some v

def clampInt (lo hi x : Int) : Int := if x < lo then lo else if hi < x then hi else x

def sinkRange (fn : Nat) (c : Int) : Int :=
  if fn = 1 then (if c = 0 then 0 else 1) else if fn = 2 then clampInt 0 65535 c else if fn = 3 then clampInt 0 255 c
  else if fn = 4 then clampInt (-2147483648) 2147483647 c else clampInt 0 4 c

/-- The command of entry i for its stored value goes on its way. -/
def State.sinkSend (s : State) (i : Nat) : State :=
  let g := s.genOf wSignal
  let fn := s.sig g SIG_ENTRY.SINK_FN i
  let mode := s.sig g SIG_ENTRY.SINK_MODE i
  let v : Int := if s.sigSigned g i then toSigned (s.sigValue i) 64 else s.sigValue i
  if fn = 0 ∨ 5 < fn then s
  else match sinkRaw mode (s.sig g SIG_ENTRY.MUL i) (s.sig g SIG_ENTRY.OFS i) (s.sig g SIG_ENTRY.SHIFT i) v with
    | none => (s.sticky wSignal SIG_STAT.SINK_RANGE).event wSignal 1
    | some c => s.setGw { s.gw with sinkQ := s.gw.sinkQ ++ [⟨fn, s.sig g SIG_ENTRY.SINK_UNIT i, sinkRange fn c⟩] }

/-! ## Builds (R249, R251) -/

def State.pdu (s : State) (g : Nat) (f : Field) (j : Nat) : Nat := s.ent g wPdu f j

/-- The entry is in RUN. -/
def State.pduRuns (s : State) (j : Nat) : Bool := s.pdu (s.genOf wPdu) PDU_ENTRY.VALID j == 1 && s.pdu (s.genOf wPdu) PDU_ENTRY.LEN j != 0

def State.bq (s : State) (e : Nat) : List Nat := look s.gw.bq e []
def State.setBq (s : State) (e : Nat) (l : List Nat) : State := s.setGw { s.gw with bq := store s.gw.bq e l [] }
def State.exq (s : State) (e : Nat) : List EngineWork := look s.gw.exq e []
def State.setExq (s : State) (e : Nat) (l : List EngineWork) : State := s.setGw { s.gw with exq := store s.gw.exq e l [] }

/-- SEND of the selected entry is over. -/
def State.sendDone (s : State) (j : Nat) : State :=
  if s.gw.sendCmd = some j then ((s.setGw { s.gw with sendCmd := none }).wr wPdu PDU_CMD.SEND 0).event wPdu 0 else s

/-- A skipped build (R251). -/
def State.buildSkip (s : State) : State :=
  ((s.count wPdu PDU_SKIPPED.COUNT).sticky wPdu PDU_STAT.SKIP).event wPdu 1

/-- A build of the entry finds an earlier one waiting, its engine's queue full, or the engine in its ROM (R251, R423). -/
def State.buildSkips (s : State) (j : Nat) : Bool :=
  let e := s.pdu (s.genOf wPdu) PDU_ENTRY.SE j
  s.inRom (wSE e) || ((List.range 4).any fun e => (s.bq e).contains j) || decide (64 ≤ (s.bq e).length)

/-- A build is due: it waits on its engine, or is skipped. -/
def State.buildDue (s : State) (j : Nat) : State :=
  let e := s.pdu (s.genOf wPdu) PDU_ENTRY.SE j
  if s.buildSkips j then s.buildSkip
  else (s.setGw { s.gw with due := store s.gw.due j s.clk 0 }).setBq e (s.bq e ++ [j])

/-- SEND (PDU_CMD card): it reads 1 until its own build is enqueued or skipped. -/
def State.sendBuild (s : State) (j : Nat) : State :=
  if !s.pduRuns j then s
  else
    let s := (s.wr wPdu PDU_CMD.SEND 1).setGw { s.gw with sendCmd := some j }
    if s.buildSkips j then s.buildSkip.sendDone j else s.buildDue j

/-- The row "trigger". -/
def State.pduTrigger (s : State) (j : Nat) : State :=
  let m := s.pdu (s.genOf wPdu) PDU_ENTRY.MODE j
  if !s.pduRuns j || !(m == 0 || m == 2) then s
  else if s.gw.mdtRun.contains j then s.setGw { s.gw with pend := addTo s.gw.pend j }
  else
    let n := s.pdu (s.genOf wPdu) PDU_ENTRY.NREP j
    (s.buildDue j).setGw { (s.buildDue j).gw with
      repLeft := store (s.buildDue j).gw.repLeft j n 0, repRun := addTo (s.buildDue j).gw.repRun j }

/-- Entry i is a member of PDU entry j in the current Bench (R241's range). -/
def State.isMember (s : State) (j i : Nat) : Bool :=
  (i + 65536 - s.pdu (s.genOf wPdu) PDU_ENTRY.SIG_FIRST j) % 65536 < s.pdu (s.genOf wPdu) PDU_ENTRY.SIG_COUNT j

def State.pdusOf (s : State) (i : Nat) : List Nat :=
  (s.validIn (s.genOf wPdu) wPdu PDU_ENTRY.VALID).filter fun j => j < tmplBase && s.isMember j i

/-! ## Stores (R243, R244) -/

/-- What a change of the value triggers. -/
def State.sigChanged (s : State) (i : Nat) : State :=
  let s := if s.sig (s.genOf wSignal) SIG_ENTRY.OUT_TRIG i = 1 then s.each (s.pdusOf i) State.pduTrigger else s
  s.sinkSend i

/-- A store of a 64-bit value into an entry in use. -/
def State.sigStore (s : State) (i v : Nat) : State :=
  let v := v % 2 ^ 64
  let changed := v != s.sigValue i
  let s := (s.wr wSignal SIG_VALUE.VALUE v i).wr wSignal SIG_STATE.STATE siValid i
  let s := s.setGw { s.gw with stored := (s.pdusOf i).foldl (fun l j => addTo l (j * 65536 + i)) s.gw.stored }
  let s := if changed then s.sigChanged i else if s.sig (s.genOf wSignal) SIG_ENTRY.SINK_EVERY i = 1 then s.sinkSend i else s
  if s.on wAuth AUTH_CFG.EPOCH_SIG_EN && s.rd wAuth AUTH_EPOCH_SIG.SIG == i then s.offerEpoch (v % 2 ^ 24) else s

/-- The entry returns to INIT with DEFAULT; a sink that has the other value receives it (R243, R252). -/
def State.sigInit (s : State) (i : Nat) : State :=
  let old := s.sigValue i
  let s := (s.wr wSignal SIG_VALUE.VALUE (s.sigDefault (s.genOf wSignal) i) i).wr wSignal SIG_STATE.STATE siInit i
  if s.sigValue i ≠ old then s.sinkSend i else s

/-- The entries of a window that hold something other than 0 in a field. -/
def heldIn (t : Tab Nat) (w : Nat) (f : Field) : List Nat :=
  t.filterMap fun (k, _) => if k % (4096 * 4096 * 1024) = f.key w 0 then some (k / (4096 * 4096 * 1024)) else none

/-- Every entry that is not as INIT with DEFAULT 0 leaves it: in use, with a value or a state, or with a DEFAULT. -/
def State.sigEntries (s : State) : List Nat :=
  let b := s.bank (s.genOf wSignal)
  dedup (heldIn b wSignal SIG_ENTRY.VALID ++ heldIn b wSignal SIG_ENTRY.DEFAULT ++ heldIn s.regs wSignal SIG_VALUE.VALUE ++
    heldIn s.regs wSignal SIG_STATE.STATE)

/-- R252: every entry returns to INIT with DEFAULT; only one in use binds a sink (R247). -/
def State.sigResetAll (s : State) : State :=
  let g := s.genOf wSignal
  s.each s.sigEntries fun s i =>
    if s.sig g SIG_ENTRY.VALID i = 1 then s.sigInit i
    else (s.wr wSignal SIG_VALUE.VALUE (s.sigDefault g i) i).wr wSignal SIG_STATE.STATE siInit i

/-- An entry is installed: INIT, DEFAULT, no report yet, and its sink's command once (R243, R247). -/
def State.sigInstall (s : State) (i : Nat) : State :=
  (((s.setGw { s.gw with reported := erase s.gw.reported i }).wr wSignal SIG_VALUE.VALUE (s.sigDefault (s.genOf wSignal) i) i).wr wSignal SIG_STATE.STATE siInit i).sinkSend i

/-- R243: the timeout of an entry. -/
def State.sigTimeout (s : State) (i : Nat) : State :=
  let g := s.genOf wSignal
  let armed := s.sigState i == siValid || (s.sigState i == siInit && s.sig g SIG_ENTRY.TO_START i == 1)
  if s.sig g SIG_ENTRY.VALID i = 0 ∨ s.sig g SIG_ENTRY.TIMEOUT i = 0 ∨ armed = false then s
  else
    let s := s.wr wSignal SIG_STATE.STATE siTimeout i
    let s := ((s.count wSignal SIG_TIMEOUTS.COUNT).sticky wSignal SIG_STAT.TIMEOUT).event wSignal 0
    if s.sig g SIG_ENTRY.TO_ACT i = 1 ∧ s.sigValue i ≠ s.sigDefault g i then
      (s.wr wSignal SIG_VALUE.VALUE (s.sigDefault g i) i).sigChanged i
    else s

/-! ## Extraction (R241, R248) -/

/-- One entry of an extraction by engine e. -/
def State.extractOne (s : State) (e : Nat) (d : List Nat) (g i : Nat) : State :=
  let f := fun (x : Field) => s.sig g x i
  let big := f SIG_ENTRY.IN_ORD == 1
  let start := f SIG_ENTRY.IN_START
  let len := s.sigLen g i
  let ub := f SIG_ENTRY.IN_UB_EN == 1
  if f SIG_ENTRY.VALID = 0 ∨ f SIG_ENTRY.SRC ≠ 0 then s
  else if !sigInside big start len d.length || (ub && 8 * d.length ≤ f SIG_ENTRY.IN_UB) then
    ((s.count wSignal SIG_SHORT.COUNT).sticky wSignal SIG_STAT.SHORT).event wSignal 1
  else if ub && !pduBit d (f SIG_ENTRY.IN_UB) then s
  else (s.sigStore i (extend64 (s.sigSigned g i) len (sigGet big start len d))).count (wSE e) SE_STORED.COUNT

/-- The engine loses an extraction or a report. -/
def State.seLost (s : State) (e : Nat) : State :=
  let s := s.count (wSE e) SE_LOST.COUNT
  if s.on (wSE e) SE_STAT.LOST then s else (s.sticky (wSE e) SE_STAT.LOST).event (wSE e) 0

/-! ## Reports (R245, R332, R347) -/

/-- The value a body unit has for a source (R245), none from a unit in OFF. -/
def State.sourceValue (s : State) (src u : Nat) : Option Nat :=
  let w := if src = 1 then wCh u else if src = 2 then wSW u else if src = 3 then wAN u else wME u
  if s.unitState w = usOff then none
  else if src = 1 then some (s.rd w CH_CURRENT.CURRENT)
  else if src = 2 then some (s.rd w SW_STATE.STATE)
  else if src = 3 then some (s.rd w AN_VALUE.VALUE)
  else if src = 4 then some (extend64 true 32 (s.rd w ME_POS.POS))
  else if src = 5 then some (extend64 true 16 (s.rd w ME_SPEED.SPEED))
  else none

/-- The threshold that the unit's chapter sets; 0: every change. -/
def State.reportStep (s : State) (src u : Nat) : Nat :=
  if src = 1 then s.rd (wCh u) CH_REPORT.REPORT else if src = 3 then s.rd (wAN u) AN_REPORT.REPORT
  else if src = 4 then s.rd (wME u) ME_REPORT.POS_REP else if src = 5 then s.rd (wME u) ME_REPORT.SPD_REP else 0

/-- The source of entry i reports its value v: when that has moved by the threshold since the last report, at most once per 1 ms, and after 100 ms
without a change. -/
def State.reportDue (s : State) (i v : Nat) : Bool :=
  let g := s.genOf wSignal
  match s.gw.reported.find? (·.1 == i) with
  | none => true
  | some (_, r) =>
    let moved := (toSigned v 64 - toSigned r.val 64).natAbs
    let ns := (s.clk - r.clk) * clkNs
    (decide (1000000 ≤ ns) && decide (0 < moved) &&
      decide (s.reportStep (s.sig g SIG_ENTRY.SRC i) (s.sig g SIG_ENTRY.SRC_UNIT i) ≤ moved)) || decide (100000000 ≤ ns)

/-- A report goes to the engine of entry i, which discards it when its queue is full (R248). -/
def State.report (s : State) (i v : Nat) : State :=
  let e := i % 4
  if s.inRom (wSE e) || 512 ≤ (s.exq e).length then s.seLost e else s.setExq e (s.exq e ++ [.report i v])

/-- The source unit of entry i reports if that is due. -/
def bodyReport (i : Nat) (s : State) : State :=
  let g := s.genOf wSignal
  if !s.gxOn || s.sig g SIG_ENTRY.VALID i = 0 then s
  else match s.sourceValue (s.sig g SIG_ENTRY.SRC i) (s.sig g SIG_ENTRY.SRC_UNIT i) with
    | none => s
    | some v =>
      if s.reportDue i v then
        (s.setGw { s.gw with reported := insertAt s.gw.reported i ⟨v, s.clk⟩ }).report i v
      else s

/-- The entries in use that a body unit feeds. -/
def State.fedBy (s : State) (src u : Nat) : List Nat :=
  let g := s.genOf wSignal
  (s.validIn g wSignal SIG_ENTRY.VALID).filter fun i => s.sig g SIG_ENTRY.SRC i == src && s.sig g SIG_ENTRY.SRC_UNIT i == u

/-- A body unit's value may have moved: it reports to its entries as that is due. -/
def State.unitReports (s : State) (src u : Nat) : State := s.each (s.fedBy src u) fun s i => bodyReport i s

/-- The engine serves its two queues in turn while both have work (R248): `what` is 1 for the extraction queue, 2 for the build queue. -/
def State.seTurn (s : State) (e what : Nat) : Bool :=
  s.exq e == [] || s.bq e == [] || look s.gw.served e 0 != what

def State.seServed (s : State) (e what : Nat) : State := s.setGw { s.gw with served := store s.gw.served e what 0 }

end Sys2Proof.Machine
end

