-- ==== Sys2Proof/Machine/RouteOps.lean ====
section
/-! DEFINITION. Stages 6 and 7 as operations: destination lists (R231, R232), the form of a copy (R234 to R238, R250), its way to its
destination, mirrors (R150), and the accounting of routes. -/

namespace Sys2Proof.Machine

/-! ## Destination lists -/

/-- A destination entry. -/
structure Dest where
  last : Bool
  port : Nat
  tc : Nat
  fmt : Nat
  ide : Bool
  idKeep : Bool
  idOut : Nat
  trunc : Bool
  outCtx : Nat
  tmpl : Nat
  sdt : Nat
  vcid : Nat
  af : Nat
  vid : Nat
  deriving DecidableEq, Repr

def State.dest (s : State) (g i : Nat) : Dest :=
  let f := fun (x : Field) => s.ent g wDlist x i
  { last := f DL_ENTRY.LAST == 1, port := f DL_ENTRY.PORT, tc := f DL_ENTRY.TC, fmt := f DL_ENTRY.OUT_FMT, ide := f DL_ENTRY.IDE == 1,
    idKeep := f DL_ENTRY.ID_KEEP == 1, idOut := f DL_ENTRY.ID_OUT, trunc := f DL_ENTRY.TRUNC == 1, outCtx := f DL_ENTRY.OUT_CTX,
    tmpl := f DL_ENTRY.TMPL, sdt := f DL_ENTRY.SDT, vcid := f DL_ENTRY.VCID, af := f DL_ENTRY.AF, vid := f DL_ENTRY.VID_OUT }

/-- R231: at most n destinations from entry i. -/
def State.dests (s : State) (g : Nat) : Nat → Nat → List Dest
  | 0, _ => []
  | n + 1, i =>
    let d := s.dest g (i % 32768)
    if d.last then [d] else d :: s.dests g n (i + 1)

def isEngine (port : Nat) : Bool := 0x50 ≤ port && port ≤ 0x53
def isRing (port : Nat) : Bool := 0x40 ≤ port && port ≤ 0x4F
def isCanPort (port : Nat) : Bool := 0x10 ≤ port && port ≤ 0x1F
def isLinPort (port : Nat) : Bool := 0x20 ≤ port && port ≤ 0x2B

/-! ## Accounting of routes (R253, RT registers) -/

/-- The sticky bit, tally and event of reasons 0x61 to 0x64. -/
def State.routeReason (s : State) (reason : Nat) : State :=
  let s := if reason = 0x61 then (s.count wRoute RT_SINK.COUNT).sticky wRoute RT_STAT.SINK
    else if reason = 0x62 then (s.count wRoute RT_INVALID.COUNT).sticky wRoute RT_STAT.INVALID
    else if reason = 0x63 then (s.count wRoute RT_TTL.COUNT).sticky wRoute RT_STAT.TTL
    else (s.count wRoute RT_DECAP.COUNT).sticky wRoute RT_STAT.DECAP
  s.event wRoute 0

/-- Ends an item at the route table. -/
def State.endRouted (s : State) (reason fid : Nat) : State := (s.routeReason reason).endItem wRoute .dropped reason fid

/-! ## The form of a copy -/

/-- What the copies of an item are made from. -/
structure Origin where
  fid : Nat
  src : Nat
  cells : Nat
  data : List Nat
  can : Option CanHdr
  lin : Option Nat
  build : Bool
  pduId : Nat
  hdr : Bool
  routed : Bool               -- routed by the Seam
  ivid : Nat                  -- ingress VID
  rmac : Nat                  -- router address of that VID (R237)
  bridged : Bool
  untag : Nat                 -- ports that send untagged
  tc : Option Nat
  ydei : Bool
  frerGen : Option Nat
  frerCut : Bool
  ask : Option StampAsk
  evt : Bool
  secured : Bool
  deriving DecidableEq, Repr

def Origin.isEth (o : Origin) : Bool := o.can.isNone && o.lin.isNone && !o.build

def Origin.copy (o : Origin) (cid : Nat) (d : Dest) (data : List Nat) : Copy :=
  { cid, fid := o.fid, dest := d.port, src := o.src, tc := o.tc.getD d.tc, cells := o.cells, data, can := none, linId := 0,
    outCtx := d.outCtx, wrap := none, pdu := o.data, ct := false, sealed := false, mirror := false, pduBuild := o.build, stamp := none, evt := o.evt,
    inSlot := false, enq := 0, ingressBad := false, ovr := false, passed := 0, untimed := false }

/-- R236: data in a format. -/
def truncTo (o : Origin) (d : Dest) (fmt : Nat) : List Nat :=
  if d.trunc ∧ d.outCtx = 0 then o.data.take (canLimit fmt) else o.data

/-- R235, R250: the header of a copy for a CAN port, where the table of R234 allows it. -/
def canForm (o : Origin) (d : Dest) : Option CanHdr :=
  let xl := 8 ≤ d.port - 0x10
  let base : CanHdr := { fmt := fmtClassical, dlc := 0, ide := d.ide, id := if d.ide then d.idOut else d.idOut % 2048, rtr := false,
                         brs := false, esi := false, sdt := 0, vcid := 0, sec := false, af := 0 }
  if o.isEth then none
  else if d.fmt = 0 then
    if o.build then some (if o.data.length ≤ 8 then base else { base with fmt := fmtFd, brs := true }) else o.can
  else if 4 < d.fmt ∨ (d.fmt = 4 ∧ !xl) then none
  else
    let kept := match o.can with
      | some h => if d.idKeep then some h else none
      | none => none
    let h := match kept with
      | some h => { base with ide := h.ide, id := h.id }
      | none => base
    if d.fmt = 4 then
      let pid := match kept with
        | some h => if h.ide then h.id / 2 ^ 18 % 2048 else h.id % 2048
        | none => d.idOut % 2048
      some { base with fmt := fmtXl, ide := false, id := pid, sdt := d.sdt, vcid := d.vcid, af := d.af }
    else if d.fmt = 1 then
      some (match o.can with
        | some r => { h with rtr := r.rtr, dlc := if r.rtr then r.dlc else 0 }
        | none => h)
    else some { h with fmt := fmtFd, brs := d.fmt == 3 }

/-- The bytes of a header template in Bench g. -/
def State.template (s : State) (g t : Nat) : List Nat :=
  let i := tmplBase + t
  (List.range (max 13 (s.ent g wPdu PDU_TMPL_CFG.LEN i) + 1)).map fun b => s.ent g wPdu (PDU_TMPL_DATA.DATA.elem b) i

def State.tmplType (s : State) (g t : Nat) : Nat := s.ent g wPdu PDU_TMPL_CFG.TYPE (tmplBase + t)

def nextSeq (t : Tab Nat) (k m : Nat) : Tab Nat := store t k ((look t k 0 + 1) % m) 0

/-- The data of a bridged, routed or listed Ethernet copy: R-TAG (R151, R152), VLAN tag (R182), IP rewrite (R237), DEI (R266). -/
def ethForm (o : Origin) (d : Dest) : List Nat :=
  let x := if o.frerCut || o.frerGen.isSome then cutRtag o.data else o.data
  let x := if d.fmt = 7 then routeIp x (d.sdt * 2 ^ 40 + d.vcid * 2 ^ 32 + d.af) o.rmac d.vid else x
  let x := if o.ydei then setDei x else x
  let x := if o.bridged && d.port < 16 && bit o.untag d.port then dropTag x else x
  match o.frerGen with
  | some n => if d.port < 6 then addRtag x n else x
  | none => x

/-- One copy, or the reason that ends it at stage 7. The counters of a template move on with each frame built from it. -/
def State.form (s : State) (g : Nat) (o : Origin) (d : Dest) : State × (Copy ⊕ Nat) :=
  let cid := s.fab.nextCid
  let s := s.setFab { s.fab with nextCid := cid + 1 }
  let c := o.copy cid d o.data
  let ok := fun (c : Copy) => (s, (Sum.inl c : Copy ⊕ Nat))
  let yellow := fun (x : List Nat) => if o.ydei then setDei x else x
  let bad : State × (Copy ⊕ Nat) := (s, .inr 0x66)
  if d.port < 0x10 then
    if o.build then
      if d.fmt ≠ 0 then bad
      else
        let w : Wrap := { tmpl := s.template g d.tmpl, ty := s.tmplType g d.tmpl, pduId := if o.hdr then some o.pduId else none,
                          ident := look s.gw.ipIdent d.tmpl 0 }
        let s := if w.ty = 1 then s.setGw { s.gw with ipIdent := nextSeq s.gw.ipIdent d.tmpl 65536 } else s
        (s, .inl { c with wrap := some w, data := fillTemplate w o.data })
    else if o.isEth then
      if d.fmt = 0 ∨ (d.fmt = 7 ∧ o.routed) then
        ok { c with data := ethForm o d, stamp := o.ask }
      else bad
    else match o.can, o.lin with
      | some h, _ =>
        if d.fmt = 5 ∧ h.fmt ≤ 1 then
          let acf := acfCan h (o.src - 0x10) o.data
          let data := fillNtscf (s.template g d.tmpl) acf.length (look s.gw.tmplSeq d.tmpl 0) ++ acf
          (s.setGw { s.gw with tmplSeq := nextSeq s.gw.tmplSeq d.tmpl 256 }, .inl { c with data := yellow data })
        else if d.fmt = 6 then ok { c with data := yellow (s.template g d.tmpl ++ vcxCan h o.src o.data) } else bad
      | none, some id =>
        if d.fmt = 6 then ok { c with data := yellow (s.template g d.tmpl ++ vcxLin id o.src o.data) } else bad
      | none, none => bad
  else if isCanPort d.port then
    match canForm o d with
    | none => bad
    | some h => ok { c with can := some h, data := if h.rtr then [] else if d.fmt = 0 ∧ o.build = false then o.data else truncTo o d h.fmt }
  else if isLinPort d.port then
    if d.fmt ≠ 0 ∨ o.isEth then bad else ok { c with linId := d.idOut % 64 }
  else if isRing d.port then
    if o.build then
      let w : Wrap := { tmpl := [], ty := 0, pduId := some o.pduId, ident := 0 }
      ok { c with wrap := some w, data := fillTemplate w o.data }
    else match o.can, o.lin with
      | some h, _ => ok { c with can := some h, data := vcxCan h o.src o.data }
      | none, some id => ok { c with linId := id, data := vcxLin id o.src o.data }
      | none, none => ok c
  else (s, .inr 0x62)

/-! ## The way to a destination (stage 7) -/

/-- A receive ring takes a copy: one that is off, has no descriptors or has stopped ends it (R102). -/
def State.ringEnqueue (s : State) (c : Copy) : State :=
  let r := c.dest - 0x40
  let on := s.on wHost (HOST_RX_CFG.EN.elem r) && s.rd wHost (HOST_RX_CFG.RSIZE.elem r) != 0 &&
    !s.on wHost (HOST_RX_STAT.STOPPED.elem r)
  if !on then s.endCopy wHost c .dropped 0x33
  else if !(s.host.busMaster && s.on wHost HOST_PCIE_LINK.UP && !s.host.perst) then s.endCopy wHost c .failed 0x32
  else s.setFab { s.fab with ringQ := store s.fab.ringQ r (look s.fab.ringQ r [] ++ [{ c with enq := s.clk }]) [] }

/-- An Ethernet copy: a sleeping port wakes for it where it is set to, and the copy ends with the link down (R150, R168). -/
def State.ethEnqueue (s : State) (p : Nat) (c : Copy) : State :=
  let asleep := s.ethState p == ethSleeping
  let s := s.hopEnqueue p c
  if asleep && s.txWakes p then (s.ethWake p).ethSynced p else s

/-- A copy that waits for AUTH, wherever it stands. -/
def State.waitingCopy (s : State) (cid : Nat) : Option Copy :=
  (s.can.txq.flatMap (·.2) ++ s.fab.appendWait ++ s.fab.reader.map (·.2)).find? fun c => c.cid == cid && c.outCtx != 0

/-- The copies that wait for AUTH, in the order in which they reached stage 8. -/
def State.appending (s : State) : List Copy := s.fab.appendQ.filterMap s.waitingCopy

/-- Operations of the CMAC queue (R290). -/
def State.cmacQueued (s : State) : Nat := (s.fab.pipe.filter fun i => i.stage == .atVerify).length + s.appending.length

/-- The CMAC queue takes no more (R290). -/
def State.cmacBusy (s : State) : Bool := 256 ≤ s.cmacQueued

/-- A copy finds no place in the CMAC queue. -/
def State.cmacFull (s : State) (c : Copy) : State := (s.count wAuth AUTH_OTHER.COUNT).endCopy wAuth c .dropped 0x85

/-- A copy that is to be authenticated joins the queue of R290 as it reaches stage 8. -/
def State.toAppend (s : State) (c : Copy) : State := s.setFab { s.fab with appendQ := s.fab.appendQ ++ [c.cid] }

/-- Stage 7 of a copy for a CAN port: the checks of R500, and AUTH for one that passed them. -/
def State.canDispatch (s : State) (p : Nat) (c : Copy) : State :=
  let t := s.canEnqueue p c
  if c.outCtx = 0 || !((t.txq p).any fun x => x.cid == c.cid) then t
  else if s.cmacBusy then (t.setTxq p ((t.txq p).filter fun x => x.cid != c.cid)).cmacFull c
  else t.toAppend c

/-- Stage 7 of a copy for a LIN port: EN and the sleep of its network end it before AUTH (R500); what R224 asks of its length is checked on the
data with its trailer. -/
def State.linDispatch (s : State) (p : Nat) (c : Copy) : State :=
  if c.outCtx = 0 || s.linShut p then s.linEnqueue p c
  else if s.cmacBusy then s.cmacFull c
  else (s.toAppend c).setFab { (s.toAppend c).fab with appendWait := s.fab.appendWait ++ [c] }

def State.ringDispatch (s : State) (c : Copy) : State :=
  if c.outCtx = 0 then s.ringEnqueue c
  else if s.cmacBusy then s.cmacFull c
  else (s.toAppend c).setFab { (s.toAppend c).fab with appendWait := s.fab.appendWait ++ [c] }

/-- Stage 7 of a copy (R149). Copies for CAN ports, LIN ports and rings meet AUTH before they can be sent. -/
def State.dispatch (s : State) (c : Copy) : State :=
  if c.dest < 0x10 then s.ethEnqueue c.dest c
  else if isCanPort c.dest then s.canDispatch (c.dest - 0x10) c
  else if isLinPort c.dest then s.linDispatch (c.dest - 0x20) c
  else s.ringDispatch c

/-- A copy that ends at stage 7 before its queue, accounted as one for its port (R149). -/
def State.formRefused (s : State) (o : Origin) (d : Dest) (reason : Nat) : State :=
  let s := if d.port < 0x10 then s.count (wHop d.port) HOP_DROPS.COUNT else s
  let s := if reason = 0x62 then s.routeReason 0x62 else s
  (s.endFrame wRoute .dropped reason o.build o.src d.port).release o.fid (Disp.dropped.code * 256 + reason)

/-- The copies of an item. Each takes a reference; those that end at once give it back. -/
def State.makeCopies (s : State) (g : Nat) (o : Origin) : List Dest → State × List Copy
  | [] => (s, [])
  | d :: r =>
    let s := s.addRefs o.fid 1
    let x := s.form g o d
    match x.2 with
    | .inl c => let y := x.1.makeCopies g o r
                (y.1, c :: y.2)
    | .inr reason => (x.1.formRefused o d reason).makeCopies g o r

/-- Ascending port order (R149). -/
def byPort (l : List Dest) : List Dest := (List.range 256).flatMap fun p => l.filter (·.port == p)

/-- Releases the item's own reference at stage 7: its copies are items of their own. -/
def State.releaseItem (s : State) (fid : Nat) : State :=
  match s.frame fid with
  | none => s
  | some f => s.release fid f.last

/-! ## Mirrors (R150) -/

def State.mirrorOn (s : State) (k : Nat) : Bool := s.on wFabric (FAB_MIR.EN.elem k) && !s.isSafe wFabric

/-- A mirror copy of a frame in reception is stored and forwarded (R138): it waits for the frame's last byte. -/
def State.mirrorCopy (s : State) (c : Copy) : State :=
  if s.frameOpen c.fid then
    s.setFab { s.fab with pipe := s.fab.pipe.map fun i => if i.fid = c.fid then { i with ready := i.ready ++ [c] } else i }
  else s.dispatch c

/-- A mirror copy of session k. -/
def State.mirrorTo (s : State) (k fid src cells : Nat) (data : List Nat) : State :=
  let dest := s.rd wFabric (FAB_MIR.DEST.elem k)
  let ing := s.rd wFabric (FAB_MIR.ING.elem k)
  let egr := s.rd wFabric (FAB_MIR.EGR.elem k)
  if !(dest < 0x10 || isRing dest) || (dest < 0x10 && (bit ing dest || bit egr dest)) then s
  else
    let cid := s.fab.nextCid
    let s := (s.setFab { s.fab with nextCid := cid + 1 }).addRefs fid 1
    s.mirrorCopy
      { cid, fid, dest, src, tc := s.rd wFabric (FAB_MIR.TC.elem k), cells, data, can := none, linId := 0, outCtx := 0, wrap := none, pdu := [],
        ct := false, sealed := false, mirror := true, pduBuild := false, stamp := none, evt := false, inSlot := false, enq := 0,
        ingressBad := false, ovr := false, passed := 0, untimed := false }

def State.mirrorIn (s : State) (p fid cells : Nat) (data : List Nat) : State :=
  s.each (List.range 4) fun s k => if s.mirrorOn k && bit (s.rd wFabric (FAB_MIR.ING.elem k)) p then s.mirrorTo k fid p cells data else s

def State.mirrorOut (s : State) (p : Nat) (c : Copy) : State :=
  s.each (List.range 4) fun s k =>
    if s.mirrorOn k && bit (s.rd wFabric (FAB_MIR.EGR.elem k)) p then s.mirrorTo k c.fid c.src c.cells c.data else s

end Sys2Proof.Machine
end

