-- ==== Sys2Proof/Machine/Classify.lean ====
section
/-! DEFINITION. FRAME_CLASSIFY: an item's way through stages 2 to 7 (R34): filter, policer, lookup (R181 to R183, R229, R230), FRER (R151,
R152), verification, extraction (R232), decapsulation (R239) and its copies (R138, R139, R149). -/

namespace Sys2Proof.Machine

/-! ## The pipeline -/

def State.mapItem (s : State) (fid : Nat) (f : PipeItem → PipeItem) : State :=
  s.setFab { s.fab with pipe := s.fab.pipe.map fun x => if x.fid = fid then f x else x }

def State.dropItem (s : State) (fid : Nat) : State := s.setFab { s.fab with pipe := s.fab.pipe.filter (·.fid != fid) }

/-- An item arrives at stage 5: it stands behind those that are there (R278). -/
def State.toVerify (s : State) (it : PipeItem) : State :=
  let s := s.dropItem it.fid
  s.setFab { s.fab with pipe := s.fab.pipe ++ [it] }

/-- Ends an item in stages 2 to 6. -/
def State.stopItem (s : State) (win : Nat) (d : Disp) (reason fid : Nat) : State := (s.dropItem fid).endItem win d reason fid

def State.stopRouted (s : State) (reason fid : Nat) : State := (s.dropItem fid).endRouted reason fid

/-! ## Stages 2 and 3 -/

def isEthFrame (f : Frame) : Bool := f.can.isNone && f.lin.isNone

/-- Stage 2 by the kind of the item (R255). A message whose source code is no CAN port's matches no filter entry. -/
def State.stage2 (s : State) (it : PipeItem) (f : Frame) : State × (Guarded ⊕ Nat) :=
  match f.can, f.lin with
  | some h, _ =>
    if isCanPort f.src then s.canFilter (s.tabGen wCanf it.gen) (f.src - 0x10) h else (s.sticky wSieve SIEVE_STAT.NOMATCH, .inr 0x71)
  | none, some _ => (s, .inl ⟨none, none, none, 0, 0, false⟩)
  | none, none => s.sieve (s.tabGen wSieve it.gen) f.src it.data

/-- Frame bytes of R264: an Ethernet frame's as received. -/
def meterBytes (f : Frame) (d : List Nat) : Nat := if f.can.isSome then d.length else f.len

/-- The guard measures the frame, which takes its last byte: its stream filter, or a policer that counts bytes. -/
def State.needsLength (s : State) (g : Nat) (gd : Guarded) : Bool :=
  gd.sized || (match gd.pol with
    | some i => s.pol g WB_ENTRY.MODE i == 0
    | none => false)

/-! ## Stage 4 -/

/-- What stage 4 finds: a plan, whether the Seam routed, the VID; or the window and reason that end the item. -/
inductive Looked where
  | found (p : Plan) (routed : Bool) (vid : Nat)
  | ended (win reason : Nat)
  deriving DecidableEq, Repr

/-- R182: flooding. -/
def State.floodPorts (s : State) (g vid src : Nat) : List Nat := (s.vlanMembers g vid).filter (· != src)

/-- R181 step 4, R182. -/
def State.destLookup (s : State) (it : PipeItem) (src vid fid : Nat) : State × Looked :=
  let gv := s.tabGen wVlan it.gen
  let da := ethDa it.data
  let flood := Looked.found (.ports (s.floodPorts gv vid src)) false vid
  if da = 2 ^ 48 - 1 then (s, flood)
  else match s.l2Find (s.tabGen wL2 it.gen) fid da with
    | some w =>
      let s := s.l2Hit w
      if w.dlist then (s, .found (.dlist w.dest) false vid)
      else if w.dest = src then (s, .ended wL2 0x45) else (s, .found (.ports [w.dest]) false vid)
    | none =>
      let s := s.count wL2 L2_DA_MISS.COUNT
      let pol := s.ent gv wVlan (if isGroupMac da then VLAN_ENTRY.UNK_MC else VLAN_ENTRY.UNK_UC) vid
      if pol = 1 then (s, .ended wL2 0x43)
      else if pol = 2 then (s, .found (.ports [0x40 + s.ent gv wVlan VLAN_ENTRY.HRING vid]) false vid)
      else (s, flood)

/-- R181 step 3. A frame whose TTL or hop limit is spent is not routed (R237). -/
def State.seamLookup (s : State) (it : PipeItem) (vid : Nat) : State × Looked :=
  let d := it.data
  if !(isV4 d || isV6 d) then (s, .ended wSeam 0x46)
  else match s.seamFind (s.tabGen wSeam it.gen) (isV6 d) (ipDst d) with
    | none => (s.count wSeam SEAM_MISSES.COUNT, .ended wSeam 0x44)
    | some p =>
      let s := s.count wSeam SEAM_HITS.COUNT
      (s, if ipTtl d ≤ 1 then .ended wRoute 0x63 else .found (.route p.route) true vid)

/-- R181 to R183. A Sieve rule's route stands in place of steps 3 and 4 (R229). -/
def State.ethLookup (s : State) (it : PipeItem) (f : Frame) (rule : Option Nat) : State × Looked :=
  let g := s.tabGen wVlan it.gen
  let host := f.src == srcHost
  let vid := s.vidOf f.src it.data
  let fid := s.ent g wVlan VLAN_ENTRY.FID vid
  let rmac := s.rd wVlan (VLAN_RMAC.MAC.elem (s.ent g wVlan VLAN_ENTRY.RMAC vid))
  if !s.vlanOk g vid then (s, .ended wVlan 0x40)
  else if !host && (!(s.vlanMembers g vid).contains f.src || (isUntagged it.data && s.on wVlan (VLAN_PVID.UNTAG_DROP.elem f.src))) then
    (s, .ended wVlan 0x41)
  else
    let x := if host then (s, true) else s.sourceLookup (s.tabGen wL2 it.gen) vid fid (ethSa it.data) f.src
    if !x.2 then (x.1, .ended wL2 0x42)
    else match rule with
      | some r => (x.1, .found (.route r) false vid)
      | none =>
        if s.entOn g wVlan VLAN_ENTRY.RTR_EN vid && ethDa it.data == rmac && !isGroupMac rmac then x.1.seamLookup it vid
        else x.1.destLookup it f.src vid fid

/-- R229: where a LIN response finds its route; a source code that is no LIN port's has none. -/
def State.linRoute (s : State) (src id : Nat) : Looked :=
  let i := s.rd wRoute RT_LIN_BASE.BASE + 64 * (src - 0x20) + id
  if isLinPort src && s.on wRoute RT_LIN_BASE.VALID && i ≤ 16383 then .found (.route i) false 0 else .ended wRoute 0x62

def State.stage4 (s : State) (it : PipeItem) (f : Frame) (gd : Guarded) : State × Looked :=
  match f.can, f.lin with
  | some _, _ => (s, match gd.route with
      | some r => .found (.route r) false 0
      | none => .ended wRoute 0x62)
  | none, some id => (s, s.linRoute f.src id)
  | none, none => s.ethLookup it f gd.route

/-! ### FRER (R151, R152; IEEE 802.1CB) -/

def State.frerHist (s : State) (i : Nat) : Nat := min 32 (max 1 (s.rd wFabric FAB_FRER_REC.HIST i))

/-- Sequence recovery of function i: passes, or the reason that ends the frame. -/
def State.frerRecover (s : State) (i seq : Nat) : State × Option Nat :=
  let w := wFabric
  let put := fun (r : FrerRec) => (s.setFab { s.fab with frerRec := insertAt s.fab.frerRec i r }).count w FAB_FRER_PASSED.COUNT i
  if !s.on w FAB_FRER_REC.EN i || s.isSafe w then (s, none)
  else match s.fab.frerRec.find? (·.1 == i) with
    | none => (put ⟨seq, 1⟩, none)
    | some (_, r) =>
      let delta := toSigned (seq + 65536 - r.seq) 16
      let n := s.frerHist i
      if s.on w FAB_FRER_REC.ALG i then
        if delta = 0 then (s.count w FAB_FRER_DUP.COUNT i, some 0x26) else (put ⟨seq, 1⟩, none)
      else if (n : Int) ≤ delta ∨ delta ≤ -(n : Int) then (s.count w FAB_FRER_ROGUE.COUNT i, some 0x27)
      else if delta ≤ 0 then
        if bit r.hist delta.natAbs then (s.count w FAB_FRER_DUP.COUNT i, some 0x26) else (put ⟨r.seq, setBit r.hist delta.natAbs⟩, none)
      else (put ⟨seq, (r.hist * 2 ^ delta.natAbs + 1) % 2 ^ n⟩, none)

/-- FRER at stage 4 (R258): the answer is the sequence number for a new R-TAG, whether the arriving one is to go, and the reason that ends
the frame. -/
def State.frer (s : State) (f : Frame) (d : List Nat) (gd : Guarded) : State × Option Nat × Bool × Option Nat :=
  if gd.frer = 1 then
    let n := look s.fab.frerGen gd.frerIdx 0
    (s.setFab { s.fab with frerGen := store s.fab.frerGen gd.frerIdx ((n + 1) % 65536) 0 }, some n, false, none)
  else if gd.frer = 2 ∧ f.src < 6 then
    match rtagSeq d with
    | some q => let r := s.frerRecover gd.frerIdx q
                (r.1, none, true, r.2)
    | none => (s, none, false, none)
  else (s, none, false, none)

/-! ## Stages 6 and 7 -/

def State.itemOrigin (s : State) (it : PipeItem) (f : Frame) (routed bridged : Bool) : Origin :=
  let g := s.tabGen wVlan it.gen
  let untag := s.ent g wVlan VLAN_ENTRY.UNTAG it.vid
  let rmac := s.rd wVlan (VLAN_RMAC.MAC.elem (s.ent g wVlan VLAN_ENTRY.RMAC it.vid))
  { fid := f.fid, src := f.src, cells := f.cells, data := it.data.take (it.data.length - it.strip), can := f.can, lin := f.lin,
    build := false, pduId := 0, hdr := false, routed, ivid := it.vid, rmac, bridged, untag, tc := it.tc, ydei := it.ydei,
    frerGen := it.frerGen, frerCut := it.frerCut, ask := it.ask, evt := it.evt, secured := it.secured }

/-- The destinations of an item's plan. A bridged copy has the class of its tag; without one it has class 0, a host ring's frame that of its ring
(R263, HOST_TXr_CFG card). -/
def State.planDests (s : State) (it : PipeItem) (f : Frame) : List Dest :=
  let g := s.tabGen wDlist it.gen
  match it.plan with
  | .none => []
  | .route i =>
    let r := s.tabGen wRoute it.gen
    s.dests g (min 8 (s.ent r wRoute RT_ENTRY.DCOUNT i)) (s.ent r wRoute RT_ENTRY.DL_INDEX i)
  | .dlist i => s.dests g 8 i
  | .ports l =>
    let tc := if f.src = srcHost ∧ ethTagged it.data = false then it.ringTc else ethPcp it.data
    l.map fun p => { last := false, port := p, tc, fmt := 0, ide := false, idKeep := false, idOut := 0, trunc := false, outCtx := 0,
                     tmpl := 0, sdt := 0, vcid := 0, af := 0, vid := 0 }

def planRoute (p : Plan) : Option Nat := match p with
  | .route i => some i
  | _ => none

def isBridged (p : Plan) : Bool := match p with
  | .ports _ => true
  | .dlist _ => true
  | _ => false

/-- R138: the copy may be sent cut-through. -/
def State.ctAllowed (s : State) (it : PipeItem) (f : Frame) (c : Copy) (d : Dest) : Bool :=
  f.isOpen && c.dest < 0x10 && s.hopCtThr c.dest != 0 && s.lineRate c.dest ≤ s.lineRate f.src && !s.secyOn f.src && d.fmt == 0 &&
  d.outCtx == 0 && it.inCtx == 0 && it.stage != .held

/-- The extractions of stage 6 (R232): the engine's queue holds 512 PDUs. -/
def State.extractions (s : State) (it : PipeItem) (f : Frame) (engines : List Nat) (only : Bool) : State :=
  match planRoute it.plan with
  | none => s
  | some i =>
    let g := s.tabGen wRoute it.gen
    let r := fun (x : Field) => s.ent g wRoute x i
    let d := it.data.drop (r RT_ENTRY.PDU_OFS)
    s.each ((List.range engines.length).zip engines) fun s (n, p) =>
      let e := p - 0x50
      let only := only && n + 1 == engines.length
      if s.inRom (wSE e) then (if only then s.stopItem (wSE e) .failed 0xA6 f.fid else s.seLost e)
      else if 512 ≤ (s.exq e).length then
        if only then s.stopItem (wSE e) .dropped 0x60 f.fid else s.seLost e
      else s.setExq e (s.exq e ++ [.pdu ⟨f.fid, d, r RT_ENTRY.SIG_FIRST, r RT_ENTRY.SIG_COUNT, it.gen, only⟩])

/-- R239: the messages of an encapsulation become items. -/
def State.decapItem (s : State) (it : PipeItem) (f : Frame) (i : Nat) : State :=
  let fmt := s.ent (s.tabGen wRoute it.gen) wRoute RT_ENTRY.DECAP_FMT i
  match (if isEthFrame f then decapsulate fmt it.data else none) with
  | none => s.stopRouted 0x64 f.fid
  | some l =>
    let s := s.each l fun s m =>
      let cells := match m.can with
        | some h => canCells h m.data.length
        | none => 1
      s.arrive m.src cells m.data m.can m.lin 0
    s.stopItem wRoute .delivered 0 f.fid

/-- An engine is a destination of a route only: a list that the L2 table names has no extraction, so that its engine codes are codes that
name nothing (R232). -/
def enginesOf (p : Plan) (l : List Dest) : List Nat :=
  if (planRoute p).isSome then (l.filter fun d => isEngine d.port).map (·.port) else []

def portsOf (p : Plan) (l : List Dest) : List Dest :=
  byPort (if (planRoute p).isSome then l.filter fun d => !isEngine d.port else l)

/-- Stages 6 and 7: a whole item becomes its copies and extractions. -/
def State.finish (s : State) (it : PipeItem) (f : Frame) : State :=
  let all := s.planDests it f
  let engines := enginesOf it.plan all
  let dests := portsOf it.plan all
  let only := dests == [] && engines != []
  let s := s.extractions it f engines only
  if only then s.dropItem f.fid
  else if dests == [] then
    if (planRoute it.plan).isSome then s.stopRouted 0x61 f.fid else s.stopItem wFabric .delivered 0 f.fid
  else
    let r := s.makeCopies (s.tabGen wPdu it.gen) (s.itemOrigin it f it.routed (isBridged it.plan)) dests
    ((r.1.dropItem f.fid).each r.2 State.dispatch).releaseItem f.fid

/-- R138, R139: an open frame. Its copies are made now when one of them may leave cut-through; else it waits for its last byte. -/
def State.finishOpen (s : State) (it : PipeItem) (f : Frame) : State :=
  let all := s.planDests it f
  let dests := portsOf it.plan all
  let cut := fun (c : Copy) => dests.any fun d => d.port == c.dest && s.ctAllowed it f c d
  let o := s.itemOrigin it f it.routed (isBridged it.plan)
  if enginesOf it.plan all != [] || !(dests.any fun d => cut (o.copy 0 d [])) then s.mapItem f.fid fun _ => { it with stage := .atCut }
  else
    let r := s.makeCopies (s.tabGen wPdu it.gen) o dests
    r.1.mapItem f.fid fun _ =>
      { it with stage := .atCut, made := true, ready := r.2.map fun c => { c with ct := cut c } }

/-- What follows stage 4: the route is checked (R230), and verification, decapsulation or the copies follow. An item for AUTH finds fewer
than 256 operations before it (R290); an open frame that is to be verified or decapsulated waits for its end. -/
def State.afterLookup (s : State) (it : PipeItem) (f : Frame) : State :=
  match planRoute it.plan with
  | none => if f.isOpen then s.finishOpen it f else s.finish it f
  | some i =>
    let g := s.tabGen wRoute it.gen
    let ctx := s.ent g wRoute RT_ENTRY.IN_CTX i
    let decap := s.ent g wRoute RT_ENTRY.KIND i = 1
    if s.ent g wRoute RT_ENTRY.VALID i = 0 ∨ s.answers wRoute = false then s.stopRouted 0x62 f.fid
    else if f.isOpen then
      if ctx ≠ 0 ∨ decap then s.mapItem f.fid fun _ => { it with stage := .atCut } else s.finishOpen it f
    else if ctx ≠ 0 then
      if 256 ≤ s.cmacQueued then (s.count wAuth AUTH_OTHER.COUNT).stopItem wAuth .dropped 0x85 f.fid
      else s.toVerify { it with stage := .atVerify, inCtx := ctx }
    else if decap then s.decapItem it f i
    else s.finish it f

/-- A verified item goes on to stage 6. -/
def State.afterVerify (s : State) (it : PipeItem) (f : Frame) : State :=
  match planRoute it.plan with
  | none => s.finish it f
  | some i => if s.ent (s.tabGen wRoute it.gen) wRoute RT_ENTRY.KIND i = 1 then s.decapItem it f i else s.finish it f

/-- Stages 2 to 4 of an item. -/
def State.classify (s : State) (it : PipeItem) (f : Frame) : State :=
  let r := s.stage2 it f
  match r.2 with
  | .inr reason => r.1.stopItem (if f.can.isSome then wCanf else wSieve) .dropped reason f.fid
  | .inl gd =>
    if f.isOpen && r.1.needsLength (s.tabGen wWeigh it.gen) gd then r.1.mapItem f.fid fun i => { i with stage := .atCut }
    else
    let yellow := isEthFrame f && ethDei it.data
    let p := r.1.police (s.tabGen wWeigh it.gen) gd.pol (meterBytes f it.data) yellow gd.tc
    match p.2 with
    | .inr reason => p.1.stopItem wWeigh .dropped reason f.fid
    | .inl (tc, ydei) =>
      let l := p.1.stage4 it f gd
      match l.2 with
      | .ended win reason =>
        if win = wRoute then l.1.stopRouted reason f.fid else l.1.stopItem win .dropped reason f.fid
      | .found plan routed vid =>
        let x := l.1.frer f it.data gd
        match x.2.2.2 with
        | some reason => x.1.stopItem wFabric .dropped reason f.fid
        | none =>
          let it := { it with plan, tc, ydei, vid, routed, frerGen := x.2.1, frerCut := x.2.2.1 }
          (x.1.mapItem f.fid fun _ => it).afterLookup it f

/-- A frame in reception may go on before its end (R138): nothing at its port takes or stops it, and what the lookups read of it has arrived. -/
def State.mayCut (s : State) (f : Frame) (d : List Nat) : Bool :=
  !s.secyOn f.src && (s.rxCheck f.src d (max 64 (d.length + 4)) false true).isNone && !s.rxTaken f.src d && s.keyBytes d ≤ d.length

def State.copiesMade (s : State) (fid : Nat) : Bool := s.fab.pipe.any fun i => i.fid == fid && i.made

/-- A frame in reception passes stages 2 to 7 now only where one of its copies goes cut-through; else it waits, and passes them when its last
byte has arrived and its FCS is good (R139). -/
def State.classifyOpen (s : State) (it : PipeItem) (f : Frame) : State :=
  let t := s.classify it f
  if s.mayCut f it.data && t.copiesMade f.fid then t else s.mapItem f.fid fun i => { i with stage := .atCut }

/-- The first item that is about to enter stage 2. While the sequencers change over no lookup runs (R422); without their microcode the item
ends (R423). -/
def classifyNext (s : State) : State :=
  if s.activating .fs then s
  else match s.fab.pipe.find? (fun i => i.stage == .atFilter) with
  | none => s
  | some it => match s.frame it.fid with
    | none => s.dropItem it.fid
    | some f =>
      if s.inRom 0x013 && s.inRom 0x014 then
        (if f.isOpen then s.mapItem f.fid fun i => { i with stage := .atCut } else s.stopItem wFabric .failed 0xA6 f.fid)
      else if f.isOpen then s.classifyOpen it f
      else s.classify it f

def execFrameClassify (s : State) : Result := .next (classifyNext (fresh s))

end Sys2Proof.Machine
end

