-- ==== Sys2Proof/Machine/EgressOps.lean ====
section
/-! DEFINITION. The egress side of an Ethernet port as operations: the reader's choice (R143), stamps (R315 to R317), stage 8 (R175, R280, R288)
and the ends of a copy in transmission (R140, R141, R154); and reception (R171 to R173), which looped frames share (R177). -/

namespace Sys2Proof.Machine

/-! ## Stamps -/

def State.stampQ (s : State) (p : Nat) : List StampRec := look s.stamps.txq p []
def State.setStampQ (s : State) (p : Nat) (l : List StampRec) : State :=
  s.setStamps { s.stamps with txq := store s.stamps.txq p l [] }

/-- R315: whether a copy asks for a stamp, with its owner and TAG. -/
def State.stampAsked (s : State) (p : Nat) (c : Copy) : Option (Nat × Nat) :=
  let byClass := bit (s.rd wStamp (STP_CLASSES.CLASSES.elem p)) c.tc
  match c.stamp with
  | some x => if x.asks || byClass then some (x.owner, x.tag) else none
  | none => if byClass then some (ownerHost, beAt c.data (s.rd wStamp STP_TAG_OFS.TAG_OFS) 4) else none

/-- The copy that the reader has dequeued and that waits for AUTH has taken its entry, whose time is still to come (R316). -/
def State.stampTaken (s : State) (p : Nat) : Nat :=
  match s.sending p with
  | some c => if c.outCtx ≠ 0 ∧ c.untimed = false ∧ (s.stampAsked p c).isSome then 1 else 0
  | none => 0

def State.stampFull (s : State) (p : Nat) : Bool := 32 ≤ (s.stampQ p).length + s.stampTaken p
def State.missFull (s : State) : Bool := 256 ≤ s.stamps.miss.length

/-- The head of a class waits for a stamp queue entry (R317). -/
def State.stampHeld (s : State) (p c : Nat) : Bool :=
  match s.queue p c with
  | [] => false
  | h :: _ => !h.untimed && (s.stampAsked p h).isSome && s.stampFull p

/-- AX0 in 80 bits, a number of nanoseconds later. -/
def State.timePlus (s : State) (n : Nat) : Nat :=
  let t := s.ax0.ns + n
  (s.ax0.sec + t / 1000000000) * 2 ^ 32 + t % 1000000000

def State.txLat (s : State) (p : Nat) : Nat := if p < 6 then s.rd wStamp (STP_LAT.TX_LAT.elem p) else 0
def State.rxLat (s : State) (p : Nat) : Nat := if p < 6 then s.rd wStamp (STP_LAT.RX_LAT.elem p) else 0

/-- The entry of a copy, with the time at which its delimiter leaves (R314, R316). -/
def State.takeStamp (s : State) (p : Nat) (c : Copy) : State :=
  if c.untimed then s
  else match s.stampAsked p c with
    | none => s
    | some (owner, tag) =>
      ((s.setStampQ p (s.stampQ p ++ [⟨p, 0, owner, tag, s.timePlus (s.txLat p)⟩])).count wStamp STP_STAMPED.COUNT).event wStamp 2

/-! ## The reader -/

/-- Bytes that MACsec adds to a copy (R288): the tag with its Ethertype, and the ICV. -/
def State.secGrowth (s : State) (p : Nat) (c : Copy) : Nat :=
  if c.sealed || !s.secyOn p || s.secExempt c.data then 0
  else match s.txSc p with
    | none => 0
    | some k => if s.scState k = scEnc then (if s.on wMacsec (MSEC_PORT.SCI_INC.elem p) then 32 else 24) else 0

/-- Bytes of a copy on the wire, destination address through FCS, with what stage 8 still adds: AUTH's trailer (R280) and MACsec's tag and ICV. A
copy of a frame in reception counts as a frame of MAX_FRAME bytes. -/
def State.sentBytes (s : State) (p : Nat) (c : Copy) : Nat :=
  if s.frameOpen c.fid then s.maxFrame p
  else
    let n := c.data.length + (if c.outCtx = 0 then 0 else s.trailerLen (s.genOf wAuth) c.outCtx) + s.secGrowth p c
    max 60 n + 4

/-- A head frame ends before the next known close of its gate (R143, R145). -/
def State.inTime (s : State) (p c : Nat) (h : Copy) : Bool :=
  match s.knownClose p c with
  | none => true
  | some t => decide (((s.ax0Ns + txNs (s.lineRate p) (s.sentBytes p h) : Nat) : Int) < t)

/-- Everything R143 asks of a class but the time left. -/
def State.ready (s : State) (p c : Nat) : Bool :=
  s.queue p c != [] && s.hopOpen p c && (s.hopSlope p c == 0 || 0 ≤ s.credit p c) &&
    !(look s.fab.backPress (qKey p c) false)

def State.eligible (s : State) (p c : Nat) : Bool :=
  match s.queue p c with
  | [] => false
  | h :: _ => s.ready p c && s.inTime p c h

/-- R145: a head that is passed over for lack of time is marked once in a gate opening; at its third opening in a row it ends. -/
def State.passOver (s : State) (p c : Nat) : State :=
  match s.queue p c with
  | [] => s
  | h :: r =>
    if !s.ready p c || s.inTime p c h || h.ovr then s
    else if 3 ≤ h.passed + 1 then
      ((s.setQueue p c r).sticky (wHop p) HOP_STAT.OVERSIZE).endCopy (wHop p) h .dropped 0x25
    else s.setQueue p c ({ h with ovr := true, passed := h.passed + 1 } :: r)

def State.markPassed (s : State) (p : Nat) : State := s.each allClasses fun s c => s.passOver p c

/-- R143 with R317: the class the reader serves. A class whose head waits for a stamp entry starts its wait. -/
def State.serveClass (s : State) (p : Nat) : Option Nat := allClasses.reverse.find? fun c => s.eligible p c && !s.stampHeld p c

def State.startWaits (s : State) (p : Nat) : State :=
  s.each allClasses fun s c =>
    if s.eligible p c && s.stampHeld p c && (s.stamps.waiting.find? (·.1 == qKey p c)).isNone then
      s.setStamps { s.stamps with waiting := insertAt s.stamps.waiting (qKey p c) s.clk }
    else s

/-! ## Reception (R171 to R173) -/

def State.rxCounted (s : State) (p n : Nat) : State := (s.count (wEth p) ETH_RX_OK.COUNT).count (wEth p) ETH_RX_BYTES.COUNT 0 n

/-- The ingress stamp of R314. -/
def State.stampAt (s : State) (fid age : Nat) : State :=
  let t := s.ax0.sec * 1000000000 + s.ax0.ns - age
  s.mapFrame fid fun f => { f with stampSec := t / 1000000000, stampNs := t % 1000000000 }

/-- R172: a frame that passed goes to the unit that takes it, or through MACsec to stage 2. -/
def State.handOn (s : State) (p fid : Nat) (d : List Nat) : State :=
  if s.rxTaken p d then s.handOver fid
  else
    let x := s.secReceive p d
    match x.2 with
    | .ended k reason => x.1.endItem wMacsec k reason fid
    | .pass d' => (x.1.mapFrame fid fun f => { f with data := d' }).enterPipe fid p d' none 0 none false

/-- A whole frame arrives at port p. -/
def State.ethReceive (s : State) (p : Nat) (d : List Nat) (symErr fcsOk : Bool) (age : Nat) : State :=
  let n := d.length + 4
  let cells := cellsOf (min n (s.maxFrame p))
  if !s.admits p cells then s.stockpileFull false p
  else match s.rxCheck p d n symErr fcsOk with
    | some (reason, f) => (s.rxFailed p reason f).endFrame (wEth p) .dropped reason false p noPort
    | none =>
      let s := s.rxCounted p n
      let fid := s.fab.nextFid
      let s := (s.addFrame p cells d none none false false).stampAt fid (age + s.rxLat p)
      (s.mirrorIn p fid cells d).handOn p fid d

/-! ## The ends of a copy in transmission -/

/-- The MAC sends a frame: on the line, or in a loop back to its own receiver while the line is idle (R174, R177). -/
def State.lineOut (s : State) (p : Nat) (d : List Nat) (bad : Bool) : State :=
  if s.ethState p = ethLoop then s else s.emit (.ethFrame p (ethOctets d bad) bad)

/-- What a loop returns as ingress (R177). -/
def State.looped (s : State) (p : Nat) (d : List Nat) (bad : Bool) : State :=
  if s.ethState p = ethLoop then s.ethReceive p d false (!bad) 0 else s

/-- The end of a copy in transmission: the reader is idle, the credit is paid (R144), and a frame boundary is passed. -/
def State.readerEnd (s : State) (p : Nat) (c : Copy) (win : Nat) (d : Disp) (reason : Nat) : State :=
  ((((s.refreshCredit p).setReader p none).payCredit p c).endCopy win c d reason).secyBoundary p

/-- The bad-check ending of the copy in transmission (R140, R141, R176): the bytes it has, then the complement of their FCS. -/
def State.readerBad (s : State) (p : Nat) (c : Copy) (win : Nat) (d : Disp) (reason : Nat) : State :=
  let s := (s.lineOut p c.data true).count (wEth p) ETH_TX_BADCHECK.COUNT
  (s.readerEnd p c win d reason).looped p c.data true

def State.txOversize (s : State) (p : Nat) : State := s.count (wEth p) ETH_TX_OVERSIZE.COUNT

/-- R175: a cut-through copy that has reached the egress MAX_FRAME ends at that byte. -/
def State.oversized (s : State) (p : Nat) (c : Copy) : State :=
  (s.txOversize p).readerBad p { c with data := c.data.take (s.maxFrame p) } (wEth p) .dropped 0x17

/-- Stage 8 after AUTH: MACsec and the length check (R175, R288); then the copy is in transmission. A copy of a frame in reception is protected as
its bytes pass, which the model does at its end. -/
def State.startSend (s : State) (p : Nat) (c : Copy) : State :=
  let x := if s.frameOpen c.fid then (s, Secured.pass c.data) else s.secProtect p c.data
  match x.2 with
  | .ended d reason => ((x.1.setReader p none).endCopy wMacsec c d reason).secyBoundary p
  | .pass data =>
    let c' := { c with data, sealed := !s.frameOpen c.fid }
    if s.maxFrame p < wireBytes c' then (((x.1.txOversize p).setReader p none).endCopy (wEth p) c .dropped 0x17).secyBoundary p
    else (x.1.setReader p (some c')).takeStamp p c

/-- Single-bit errors that the Stockpile corrects as it reads a frame's cells (R136): how many there were is the hardware's. -/
def State.eccCorrected (s : State) (f : Frame) : State :=
  let x := s.draw
  x.2.count wStockpile STK_ECC_CORR.COUNT 0 (x.1.toNat % (f.cells + 1))

/-- The reader takes the head of a class (R143, the SEND row). -/
def State.dequeue (s : State) (p c : Nat) : State :=
  match s.queue p c with
  | [] => s
  | h :: r =>
    let s := s.setQueue p c r
    let s := s.setStamps { s.stamps with waiting := erase s.stamps.waiting (qKey p c) }
    let s := if s.ethState p = ethSleepReq then s.sleepAbort p else s
    match s.frame h.fid with
    | none => s
    | some f =>
      let s := s.eccCorrected f
      if f.ecc then (s.setReader p (some h)).readerBad p h (wHop p) .failed 0x31
      else
        let s := (s.setReader p (some h)).mirrorOut p h
        if h.outCtx = 0 then s.startSend p h
        else if 256 ≤ s.cmacQueued - 1 then ((s.setReader p none).cmacFull h).secyBoundary p
        else s.toAppend h

/-! ### A frame that goes on before its end -/

def State.setRxOpen (s : State) (p : Nat) (x : Option RxOpen) : State :=
  s.setEth { s.eth with rxOpen := match x with
    | none => erase s.eth.rxOpen p
    | some v => insertAt s.eth.rxOpen p v }

/-- The first bytes of a frame: it takes its cells as they arrive, at most MAX_FRAME bytes (R132, R171). The writer holds one reference, and one
is the item's, which may go on to stages 2 to 7 before the end (R138). -/
def State.rxFirst (s : State) (p : Nat) (d : List Nat) (age : Nat) : State :=
  let n := d.length + 4
  let cells := cellsOf (min n (s.maxFrame p))
  if !s.admits p cells then (s.stockpileFull false p).setRxOpen p (some ⟨none, n⟩)
  else
    let fid := s.fab.nextFid
    let d := d.take (s.maxFrame p)
    let s := (s.addFrame p cells d none none false true).stampAt fid (age + s.rxLat p)
    ((s.setRxOpen p (some ⟨some fid, n⟩)).addRefs fid 1).enterPipe fid p d none 0 none false

/-- More bytes reach a frame's item and the copies that leave cut-through; an item that waits is looked at again. -/
def State.growFrame (s : State) (fid cells n : Nat) (d : List Nat) : State :=
  let g := fun (c : Copy) => if c.fid = fid then { c with data := c.data ++ d, cells } else c
  let s := s.mapFrame fid fun f => { f with data := f.data ++ d, cells, len := n }
  s.setFab { s.fab with
    pipe := s.fab.pipe.map fun i =>
      if i.fid = fid then
        { i with data := i.data ++ d, ready := i.ready.map g, stage := if i.made || i.stage == .held then i.stage else .atFilter }
      else i,
    queues := s.fab.queues.map fun (k, l) => (k, l.map g),
    reader := s.fab.reader.map fun (k, c) => (k, g c) }

/-- A queue without the copies of a frame; they end with a reason. -/
def State.dropQueued (s : State) (fid : Nat) (d : Disp) (reason : Nat) : State :=
  s.each (List.range 16) fun s p => s.each allClasses fun s c =>
    let gone := (s.queue p c).filter fun x => x.fid == fid
    (gone.foldl (fun s x => s.endCopy (wHop p) x d reason) (s.setQueue p c ((s.queue p c).filter fun x => x.fid != fid)))

/-- The item of a frame whose reception failed. Copies that have not reached stage 7 are still one item; a mirror copy is one of its own. -/
def State.openItem (s : State) (p : Nat) (it : PipeItem) (d : Disp) (reason copies : Nat) : State :=
  let waiting := it.ready.filter fun c => !c.mirror
  let s := s.each (it.ready.filter (·.mirror)) fun s c => s.endCopy (destWindow c.dest) c d copies
  let s := s.each waiting fun s _ => s.release it.fid (d.code * 256 + reason)
  let s := s.dropItem it.fid
  if it.made && waiting == [] then s.releaseItem it.fid else s.endItem (wEth p) d reason it.fid

/-- The reception of a frame fails (R133, R135, R141): its item ends with the port's reason, its copies sent or queued with theirs. -/
def State.openFailed (s : State) (p fid : Nat) (d : Disp) (reason copies : Nat) : State :=
  let s := s.mapFrame fid fun f => { f with isOpen := false }
  let s := s.each (List.range 16) fun s q => match s.sending q with
    | some c => if c.fid = fid then s.readerBad q c (wHop q) d copies else s
    | none => s
  let s := s.dropQueued fid d copies
  let s := match s.fab.pipe.find? (·.fid == fid) with
    | none => s
    | some it => s.openItem p it d reason copies
  s.release fid (d.code * 256 + reason)

/-- R175: the cut-through copies in transmission that have reached the egress MAX_FRAME, with the bytes that MACsec adds. -/
def State.cutOversize (s : State) (fid : Nat) : State :=
  s.each (List.range 16) fun s q => match s.sending q with
    | some c => if c.fid = fid ∧ s.maxFrame q < wireBytes c + s.secGrowth q c then s.oversized q c else s
    | none => s

/-- More bytes of a frame; the frame ends when they find no cell (R133). What is past MAX_FRAME is counted and discarded (R171). -/
def State.rxMore (s : State) (p : Nat) (d : List Nat) : State :=
  match s.rxOpen p with
  | none => s
  | some x =>
    let n := x.len + d.length
    let s := s.setRxOpen p (some { x with len := n })
    match x.fid.bind s.frame with
    | none => s
    | some f =>
      let cells := cellsOf (min n (s.maxFrame p))
      if !(s.roomFor p (cells - f.cells)) then
        ((s.sticky wStockpile STK_STAT.ADMIT_DROP).openFailed p f.fid .dropped 0x20 0x20).setRxOpen p (some ⟨none, n⟩)
      else (s.growFrame f.fid (max cells f.cells) n (d.take (s.maxFrame p - f.data.length))).cutOversize f.fid

/-- A frame that passed its checks with its last byte: what has gone on is sent to its end, anything else goes to its unit now (R172). -/
def State.rxEnded (s : State) (p : Nat) (f : Frame) : State :=
  match s.fab.pipe.find? (·.fid == f.fid) with
  | none => s.handOn p f.fid f.data
  | some it =>
    let s := s.dropItem f.fid
    if it.made then
      ((s.each it.ready fun s c => s.dispatch { c with ct := false }).releaseItem f.fid).releaseItem f.fid
    else (s.releaseItem f.fid).handOn p f.fid f.data

/-- The last bytes of a frame: the checks of R171 decide, in one reception for a frame that went on before (R173). -/
def State.rxLast (s : State) (p : Nat) (d : List Nat) (symErr fcsOk : Bool) : State :=
  let s := s.rxMore p d
  match s.rxOpen p with
  | none => s
  | some x =>
    let s := s.setRxOpen p none
    let s := match x.fid.bind s.frame with
      | none => s
      | some f => match s.rxCheck p f.data x.len symErr fcsOk with
        | some (reason, k) => (s.rxFailed p reason k).openFailed p f.fid .dropped reason 0x24
        | none =>
          let s := ((s.rxCounted p x.len).mapFrame f.fid fun f => { f with isOpen := false }).mirrorIn p f.fid f.cells f.data
          s.rxEnded p f
    s.secyBoundary p

/-- The port takes bytes from its line, or from its loop (R166, R177). -/
def State.ethHears (s : State) (p : Nat) : Bool := s.gxOn && (s.ethState p == ethUp || s.ethState p == ethSleepReq)

end Sys2Proof.Machine
end

