-- ==== Sys2Proof/Machine/Gateway.lean ====
section
/-! DEFINITION. The commands of the signal gateway (09): extraction, timeouts, reports, sink commands, PDU timers and builds. -/

namespace Sys2Proof.Machine

/-! ## Engines -/

/-- The entries an extraction or a build runs over (R241). -/
def memberList (first count : Nat) : List Nat := (List.range count).map fun k => (first + k) % 65536

/-- The Bench of an extraction: during a split, the signal table's pointer (R248). -/
def State.extractGen (s : State) (x : Extract) : Nat := s.tabGen wSignal x.gen

/-- The engine does its work: its microcode is there and not being loaded. -/
def State.seWorks (s : State) (e : Nat) : Bool := s.answers (wSE e) && !s.inRom (wSE e) && !s.activating (.se e)

/-- Engine e serves its extraction queue: a PDU, or a report. -/
def seExtract (e : Nat) (s : State) : State :=
  if !s.gxOn || !s.seWorks e || s.seTurn e 1 = false then s
  else match s.exq e with
    | [] => s
    | w :: rest =>
      let s := (s.setExq e rest).seServed e 1
      match w with
      | .report i v => if s.sig (s.genOf wSignal) SIG_ENTRY.VALID i = 1 then (s.sigStore i v).count (wSE e) SE_STORED.COUNT else s
      | .pdu x =>
        let g := s.extractGen x
        let s := s.each (memberList x.first x.count) fun s i => s.extractOne e x.data g i
        if x.only then s.endItem (wSE e) .delivered 0 x.fid else s

def execSeExtract (e : Fin 4) (s : State) : Result := .next (seExtract e.val (fresh s))

/-- R245, R248: the source unit of entry i reports. -/
def execBodySourceReport (i : Fin 65536) (s : State) : Result := .next (bodyReport i.val (fresh s))

/-! ## Signal table -/

def execSignalTimeout (i : Fin 65536) (s : State) : Result := .next (if s.gxOn then (fresh s).sigTimeout i.val else fresh s)

/-- A write of SIG_VALUE's last byte (SIG_VALUE card); an unused entry is never stored. -/
def State.sigValueWrite (s : State) (init v : Nat) : State :=
  let i := s.rd wSignal SIG_SEL.INDEX
  let g := s.genOf wSignal
  s.cmdWrite init wSignal 0x167 (v % 256) (whenK (s.sig g SIG_ENTRY.SRC i != 6) .state) fun s =>
    if s.sig g SIG_ENTRY.VALID i = 1 then s.sigStore i v else s

def execSigValueWrite (init : Initiator) (v : BitVec 64) (s : State) : Result := .next ((fresh s).sigValueWrite init.code v.toNat)

/-! ## Sink commands (R246) -/

/-- The oldest command of a function reaches its unit. -/
def State.takeSink (s : State) (fn : Nat) : Option (SinkCmd × State) :=
  match takeFirst (fun c => c.fn == fn) s.gw.sinkQ with
  | none => none
  | some (c, r) => some (c, s.setGw { s.gw with sinkQ := r })

def sinkOn (s : State) : State :=
  match s.takeSink 1 with
  | none => s
  | some (c, t) => if isHalf c.unit || 72 ≤ c.unit then t else t.chCommand c.unit (c.val != 0)

def sinkDuty (s : State) : State :=
  match s.takeSink 2 with
  | none => s
  | some (c, t) => if 72 ≤ c.unit then t else t.chSetDuty c.unit c.val.toNat

def sinkPhase (s : State) : State :=
  match s.takeSink 3 with
  | none => s
  | some (c, t) => if 72 ≤ c.unit then t else t.chSetPhase c.unit c.val.toNat

def sinkMove (s : State) : State :=
  match s.takeSink 4 with
  | none => s
  | some (c, t) => if 6 ≤ c.unit then t else (t.wr (wME c.unit) ME_TARGET.TARGET (ofSigned c.val 32)).meCommand c.unit (.move c.val)

def sinkMode (s : State) : State :=
  match s.takeSink 5 with
  | none => s
  | some (c, t) => if 6 ≤ c.unit then t else t.meModeCommand c.unit c.val.toNat

def execSinkChOn (s : State) : Result := .next (sinkOn (fresh s))
def execSinkChDuty (s : State) : Result := .next (sinkDuty (fresh s))
def execSinkChPhase (s : State) : Result := .next (sinkPhase (fresh s))
def execSinkMeMove (s : State) : Result := .next (sinkMove (fresh s))
def execSinkMeMode (s : State) : Result := .next (sinkMode (fresh s))

/-! ## PDU timers (R249) -/

def pduCyclic (j : Nat) (s : State) : State :=
  let g := s.genOf wPdu
  let m := s.pdu g PDU_ENTRY.MODE j
  if s.gxOn && s.pduRuns j && (m == 1 || m == 2) && s.pdu g PDU_ENTRY.PERIOD j != 0 then s.buildDue j else s

def execPduCyclicDue (j : Fin 8192) (s : State) : Result := .next (pduCyclic j.val (fresh s))

/-- SEND for the selected entry; one that is not in RUN has nothing to build. -/
def State.pduSend (s : State) (init : Nat) : State :=
  s.cmdField init wPdu PDU_CMD.SEND [] fun s =>
    s.sendBuild (s.rd wPdu PDU_SEL.INDEX)

def execPduSendCmd (init : Initiator) (s : State) : Result := .next ((fresh s).pduSend init.code)

def pduMdt (j : Nat) (s : State) : State :=
  if s.gw.mdtRun.contains j = false then s
  else
    let pend := s.gw.pend.contains j
    let s := s.setGw { s.gw with mdtRun := dropFrom s.gw.mdtRun j, pend := dropFrom s.gw.pend j }
    if pend && s.pduRuns j then s.buildDue j else s

def execPduMdtExpiry (j : Fin 8192) (s : State) : Result := .next (pduMdt j.val (fresh s))

def pduRepeat (j : Nat) (s : State) : State :=
  if s.gw.repRun.contains j = false then s
  else
    let n := look s.gw.repLeft j 0
    if n = 0 || !s.pduRuns j then s.setGw { s.gw with repRun := dropFrom s.gw.repRun j }
    else (s.setGw { s.gw with repLeft := store s.gw.repLeft j (n - 1) 0 }).buildDue j

def execPduRepeatExpiry (j : Fin 8192) (s : State) : Result := .next (pduRepeat j.val (fresh s))

/-! ## Builds (R242, R250) -/

/-- One member signal packed into the PDU. -/
def State.packOne (s : State) (j : Nat) (d : List Nat) (i : Nat) : List Nat :=
  let g := s.genOf wSignal
  if s.sig g SIG_ENTRY.VALID i = 0 then d
  else
    let len := s.sigLen g i
    let d := sigPut (s.sig g SIG_ENTRY.OUT_ORD i == 1) (s.sig g SIG_ENTRY.OUT_START i) len (saturate (s.sigSigned g i) len (s.sigValue i)) d
    let ub := s.sig g SIG_ENTRY.OUT_UB i
    if s.sig g SIG_ENTRY.OUT_UB_EN i = 1 ∧ ub < 8 * d.length then setPduBit d ub (s.gw.stored.contains (j * 65536 + i)) else d

/-- The data of a build of entry j. -/
def State.packPdu (s : State) (j : Nat) : List Nat :=
  let g := s.genOf wPdu
  (memberList (s.pdu g PDU_ENTRY.SIG_FIRST j) (s.pdu g PDU_ENTRY.SIG_COUNT j)).foldl (s.packOne j)
    (List.replicate (s.pdu g PDU_ENTRY.LEN j) (if s.pdu g PDU_ENTRY.FILL j = 1 then 0xFF else 0))

/-- How many signals a build of entry j packs. -/
def State.packed (s : State) (j : Nat) : Nat :=
  let g := s.genOf wPdu
  ((memberList (s.pdu g PDU_ENTRY.SIG_FIRST j) (s.pdu g PDU_ENTRY.SIG_COUNT j)).filter fun i =>
    s.sig (s.genOf wSignal) SIG_ENTRY.VALID i == 1).length

/-- The entry builds (R424); a build that a reload of the engine has held back for more than 2 µs counts in UPD_LATE (R422). -/
def State.builtLate (s : State) (e j : Nat) : State :=
  let due := look s.gw.due j 0
  let late := due < look s.upd.seEnd e 0 && 2000 < (s.clk - due) * clkNs
  let s := s.when late fun s => s.count wUpd UPD_LATE.COUNT
  (s.setGw { s.gw with due := erase s.gw.due j }).setUpd { s.upd with built := addTo s.upd.built j }

/-- The start of a build: the MDT timer runs, PEND falls, the update bits begin anew. -/
def State.buildStarts (s : State) (j : Nat) : State :=
  s.setGw { s.gw with
    mdtRun := if s.pdu (s.genOf wPdu) PDU_ENTRY.MDT j = 0 then s.gw.mdtRun else addTo s.gw.mdtRun j,
    pend := dropFrom s.gw.pend j, stored := s.gw.stored.filter fun x => x / 65536 != j }

/-- The build as an item: stored, and sent to the entry's destinations. -/
def State.buildItem (s : State) (j : Nat) (data : List Nat) : State :=
  let g := s.genOf wPdu
  let cells := cellsOf data.length
  if s.admits srcPdu cells = false then s.stockpileFull true srcPdu
  else
    let fid := s.fab.nextFid
    let s := s.addFrame srcPdu cells data none none true false
    let n := s.pdu g PDU_ENTRY.DCOUNT j
    if n = 0 then s.endRouted 0x61 fid
    else
      let o : Origin :=
        { fid, src := srcPdu, cells, data, can := none, lin := none, build := true, pduId := s.pdu g PDU_ENTRY.PDU_ID j,
          hdr := s.pdu g PDU_ENTRY.HDR j == 1, routed := false, ivid := 0, rmac := 0, bridged := false, untag := 0, tc := none, ydei := false,
          frerGen := none, frerCut := false, ask := none, evt := false, secured := false }
      let r := s.makeCopies g o (byPort (s.dests (s.genOf wDlist) n (s.pdu g PDU_ENTRY.DL_INDEX j)))
      (r.1.each r.2 State.dispatch).releaseItem fid

/-- Engine e serves its build queue. -/
def pduBuild (e : Nat) (s : State) : State :=
  if !s.gxOn || !s.seWorks e || s.seTurn e 2 = false then s
  else match s.bq e with
    | [] => s
    | j :: rest =>
      let s := (s.setBq e rest).seServed e 2
      if s.pduRuns j = false then s.buildSkip.sendDone j
      else
        let data := s.packPdu j
        let s := s.builtLate e j
        (((s.buildStarts j).count (wSE e) SE_PACKED.COUNT 0 (s.packed j)).buildItem j data).sendDone j

def execPduBuild (e : Fin 4) (s : State) : Result := .next (pduBuild e.val (fresh s))

end Sys2Proof.Machine
end

