-- ==== Sys2Proof/Machine/RingOps.lean ====
section
/-! DEFINITION. The host DMA rings as operations (R100 to R103): fetching, writing back, HEAD, stopping, and the ring interrupt with its
moderation. -/

namespace Sys2Proof.Machine

/-! ## Registers of a ring -/

/-- A register field of ring r, of the transmit or the receive rings. -/
def ringF (tx : Bool) (ft fr : Field) (r : Nat) : Field := (if tx then ft else fr).elem r

def fBase (tx : Bool) (r : Nat) : Field := ringF tx HOST_TX_BASE.BASE HOST_RX_BASE.BASE r
def fEn (tx : Bool) (r : Nat) : Field := ringF tx HOST_TX_CFG.EN HOST_RX_CFG.EN r
def fTc (tx : Bool) (r : Nat) : Field := ringF tx HOST_TX_CFG.TC HOST_RX_CFG.TC r
def fRsize (tx : Bool) (r : Nat) : Field := ringF tx HOST_TX_CFG.RSIZE HOST_RX_CFG.RSIZE r
def fImod (tx : Bool) (r : Nat) : Field := ringF tx HOST_TX_IMOD.IMOD HOST_RX_IMOD.IMOD r
def fPin (tx : Bool) (r : Nat) : Field := ringF tx HOST_TX_VEC.PIN HOST_RX_VEC.PIN r
def fVec (tx : Bool) (r : Nat) : Field := ringF tx HOST_TX_VEC.VEC HOST_RX_VEC.VEC r
def fTail (tx : Bool) (r : Nat) : Field := ringF tx HOST_TX_TAIL.TAIL HOST_RX_TAIL.TAIL r
def fHead (tx : Bool) (r : Nat) : Field := ringF tx HOST_TX_HEAD.HEAD HOST_RX_HEAD.HEAD r
def fStopped (tx : Bool) (r : Nat) : Field := ringF tx HOST_TX_STAT.STOPPED HOST_RX_STAT.STOPPED r
def fDescErr (tx : Bool) (r : Nat) : Field := ringF tx HOST_TX_STAT.DESC_ERR HOST_RX_STAT.DESC_ERR r
def fDmaErr (tx : Bool) (r : Nat) : Field := ringF tx HOST_TX_STAT.DMA_ERR HOST_RX_STAT.DMA_ERR r
def fIrq (tx : Bool) (r : Nat) : Field := ringF tx HOST_TX_STAT.IRQ HOST_RX_STAT.IRQ r

/-- A ring in the stores that hold both kinds. -/
def ringCode (tx : Bool) (r : Nat) : Nat := if tx then r else 16 + r

/-- S of R100, 0 while RSIZE disables the ring. -/
def State.ringSize (s : State) (tx : Bool) (r : Nat) : Nat :=
  let n := s.rd wHost (fRsize tx r)
  if n = 0 then 0 else 2 ^ (n + 3)

def State.ringStopped (s : State) (tx : Bool) (r : Nat) : Bool := s.on wHost (fStopped tx r)
def State.ringHead (s : State) (tx : Bool) (r : Nat) : Nat := s.rd wHost (fHead tx r)
def State.ringTail (s : State) (tx : Bool) (r : Nat) : Nat := s.rd wHost (fTail tx r)

/-- The function can reach host memory. -/
def State.dmaOk (s : State) : Bool := s.gxOn && s.host.busMaster && s.on wHost HOST_PCIE_LINK.UP && !s.host.perst

/-! ## Fetched descriptors -/

def State.txDescs (s : State) (r : Nat) : List Desc := look s.host.txDesc r []
def State.rxDescs (s : State) (r : Nat) : List Desc := look s.host.rxDesc r []
def State.txFramesOf (s : State) (r : Nat) : List RingFrame := look s.host.txFrames r []
def State.doneOf (s : State) (tx : Bool) (r : Nat) : List Nat := look s.host.doneIdx (ringCode tx r) []
def State.launchOf (s : State) (r : Nat) : Option RingFrame := (s.host.launch.find? (·.1 == r)).map (·.2)

def State.setTxDescs (s : State) (r : Nat) (l : List Desc) : State :=
  s.setHost { s.host with txDesc := store s.host.txDesc r l [] }
def State.setRxDescs (s : State) (r : Nat) (l : List Desc) : State :=
  s.setHost { s.host with rxDesc := store s.host.rxDesc r l [] }
def State.setTxFrames (s : State) (r : Nat) (l : List RingFrame) : State :=
  s.setHost { s.host with txFrames := store s.host.txFrames r l [] }
def State.setDone (s : State) (tx : Bool) (r : Nat) (l : List Nat) : State :=
  s.setHost { s.host with doneIdx := store s.host.doneIdx (ringCode tx r) l [] }
def State.setLaunch (s : State) (r : Nat) (x : Option RingFrame) : State :=
  s.setHost { s.host with launch := match x with
    | none => erase s.host.launch r
    | some f => insertAt s.host.launch r f }

/-- Descriptors that have been fetched and that HEAD has not passed. -/
def State.outstanding (s : State) (tx : Bool) (r : Nat) : Nat :=
  (if tx then
    (s.txDescs r).length + (((s.txFramesOf r).filter (!·.stale)).map (·.descs.length)).sum +
      (match s.launchOf r with
        | none => 0
        | some f => f.descs.length)
   else (s.rxDescs r).length) + (s.doneOf tx r).length

/-- The index the next fetch reads. -/
def State.nextIdx (s : State) (tx : Bool) (r : Nat) : Nat := (s.ringHead tx r + s.outstanding tx r) % 65536

/-- The ring is active, or lets the frame in transfer finish after EN has been cleared (R103). HOST has no documented safe state of its
rings; in SAFE it does not act on EN (R85). -/
def State.fetches (s : State) (tx : Bool) (r : Nat) : Bool :=
  s.dmaOk && s.unitState wHost == usReady && s.ringSize tx r != 0 && !s.ringStopped tx r &&
    (s.on wHost (fEn tx r) || (tx && s.txDescs r != [])) &&
    s.outstanding tx r < s.ringSize tx r && s.nextIdx tx r != s.ringTail tx r

/-! ## Writing back -/

/-- A value as n bytes, the least significant first. -/
def leBytes (v n : Nat) : List Nat := (List.range n).map fun i => v / 256 ^ i % 256

/-- The 16 bytes of a descriptor as the module writes it back (R101). -/
def descBytes (d : Desc) (len flags b11 last : Nat) : List Nat :=
  leBytes d.buf 8 ++ leBytes len 2 ++ [flags, b11] ++ leBytes last 4

/-- DONE and DISP of byte 10. -/
def doneFlags (disp : Nat) (sop eop : Bool) : Nat := 128 + disp * 32 + b2n eop * 2 + b2n sop

/-- A descriptor's item ends (R454) and it is written back; where host memory cannot be reached, its item ends failed with 0x32 and
nothing is written (R99). `how` is disposition * 256 + reason. DESIGN CHOICE: the bytes taken of a descriptor whose data no frame took, that of
a stopped ring or of a refused admission, are written back as its LEN; R101 states no value for it. -/
def State.wbTx (s : State) (reach : Bool) (d : Desc) (how : Nat) : State :=
  if !reach then s.endOther wHost .failed 0x32 .descriptor srcHost noPort
  else
    let s := s.emit (.hostMem d.entry (descBytes d d.len (doneFlags (how / 256) d.sop d.eop) (how % 256) d.tag))
    if how / 256 = 2 then s.endOther wHost .dropped (how % 256) .descriptor srcHost noPort
    else if how / 256 = 3 then s.endOther wHost .failed (how % 256) .descriptor srcHost noPort else s

/-- A receive descriptor that carries no frame. -/
def State.wbRxEmpty (s : State) (reach : Bool) (d : Desc) (disp : Disp) (reason : Nat) : State :=
  if !reach then s.endOther wHost .failed 0x32 .descriptor noPort noPort
  else (s.emit (.hostMem d.entry (descBytes d 0 (doneFlags disp.code false false) 0 0))).endOther wHost disp reason .descriptor noPort noPort

def passHead (done : List Nat) : Nat → Nat → Nat × List Nat
  | 0, h => (h, done)
  | n + 1, h => if done.contains h then passHead (done.filter (· != h)) n ((h + 1) % 65536) else (h, done)
  termination_by structural n => n

/-- Indices that are written back; HEAD moves to the oldest entry not yet complete (R102). -/
def State.complete (s : State) (tx : Bool) (r : Nat) (idxs : List Nat) : State :=
  let done := s.doneOf tx r ++ idxs
  let x := passHead done done.length (s.ringHead tx r)
  (s.wr wHost (fHead tx r) x.1).setDone tx r x.2

/-- The ring's IRQ bit rises: its message, and the pin (R104, R106). -/
def State.ringRaise (s : State) (tx : Bool) (r : Nat) : State :=
  if s.on wHost (fIrq tx r) then s
  else
    let s := (s.wr wHost (fIrq tx r) 1).sendVec (s.rd wHost (fVec tx r))
    if s.gxOn && s.on wHost (fPin tx r) then s.driveIrq else s

/-- A writeback's interrupt under IMOD. -/
def State.ringIrq (s : State) (tx : Bool) (r : Nat) : State :=
  let k := ringCode tx r
  if s.rd wHost (fImod tx r) = 0 then s.ringRaise tx r
  else if look s.host.imodRun k false then s.setHost { s.host with imodHit := store s.host.imodHit k true false }
  else
    let s := s.ringRaise tx r
    s.setHost { s.host with imodRun := store s.host.imodRun k true false }

/-- The frame of a transmit ring is out of the fabric: the other descriptors first, SOP last, then HEAD (R102). -/
def State.wbFrame (s : State) (r : Nat) (f : RingFrame) (how : Nat) : State :=
  let reach := s.dmaOk
  let s := (f.descs.drop 1 ++ f.descs.take 1).foldl (fun s d => s.wbTx reach d how) s
  if !reach then s
  else (if f.stale then s else s.complete true r (f.descs.map (·.idx))).ringIrq true r

/-! ## Stopping -/

/-- Descriptors that belong to no frame end and are passed by HEAD each on its own (R102). -/
def State.wbLoose (s : State) (r : Nat) (l : List Desc) (how : Nat) : State :=
  let reach := s.dmaOk
  let s := l.foldl (fun s d => s.wbTx reach d how) s
  if reach && l != [] then (s.complete true r (l.map (·.idx))).ringIrq true r else s

/-- The frames that the fabric holds go on as items of their own; their descriptors are written back dropped (R103), or end failed where host
memory is out of reach (R99). -/
def State.txFlush (s : State) (r : Nat) : State :=
  (s.setTxFrames r []).each (s.txFramesOf r) fun s f => s.wbFrame r f 0x233

/-- What R103 does with the descriptors that are fetched when a transmit ring stops: those of no whole frame and the held frame of a launch
slot (R310) end dropped. With host memory out of reach the descriptors of the frames in the fabric end now as well (R99). -/
def State.txStop (s : State) (r : Nat) : State :=
  let l := s.txDescs r
  let s := (s.setTxDescs r []).wbLoose r l 0x233
  let s := match s.launchOf r with
    | none => s
    | some f => (((s.setLaunch r none).endItem wHost .dropped 0x33 f.fid)).wbFrame r f 0x233
  let s := if s.dmaOk then s
    else
      let fs := s.txFramesOf r
      fs.foldl (fun s f => f.descs.foldl (fun s d => s.wbTx false d 0) s) (s.setTxFrames r [])
  s.wr wHost (fStopped true r) 1

/-- The same of a receive ring: its free buffers, and the copies that wait for it. -/
def State.rxStop (s : State) (r : Nat) : State :=
  let reach := s.dmaOk
  let l := s.rxDescs r
  let s := l.foldl (fun s d => s.wbRxEmpty reach d .dropped 0x33) (s.setRxDescs r [])
  let s := if reach && l != [] then (s.complete false r (l.map (·.idx))).ringIrq false r else s
  let q := look s.fab.ringQ r []
  let s := s.setFab { s.fab with ringQ := store s.fab.ringQ r [] [] }
  let s := q.foldl (fun s c => if reach then s.endCopy wHost c .dropped 0x33 else s.endCopy wHost c .failed 0x32) s
  s.wr wHost (fStopped false r) 1

def State.ringStop (s : State) (tx : Bool) (r : Nat) : State := if tx then s.txStop r else s.rxStop r

/-- The loss of the link or of the function stops every ring (R99). -/
def State.stopRings (s : State) : State :=
  s.each [true, false] fun s tx => s.each (List.range 16) fun s r =>
    if s.on wHost (fEn tx r) || s.outstanding tx r != 0 then (if tx then s.txFlush r else s).ringStop tx r else s

/-- DESC_ERR stops the ring (R100). -/
def State.descError (s : State) (tx : Bool) (r : Nat) : State := (s.sticky wHost (fDescErr tx r)).ringStop tx r

/-! ## Fetching -/

/-- A descriptor as fetched from its entry. -/
def State.makeDesc (s : State) (tx : Bool) (r : Nat) (d : RingDesc) : Desc :=
  let i := s.nextIdx tx r
  { idx := i, entry := s.rd wHost (fBase tx r) * 64 + 16 * (i % s.ringSize tx r), buf := d.buf.toNat, len := d.len.toNat,
    sop := d.sop, eop := d.eop, tsreq := d.tsreq, tag := d.tag.toNat, data := (d.mem.map (·.toNat)).take d.len.toNat }

def State.launchMode (s : State) (r : Nat) : Bool := bit (s.rd wEvp EVP_LAUNCH.RINGS) r

/-- The stamp of a ring frame: TAG and TSREQ of its SOP descriptor (R315). -/
def ringStamp (l : List Desc) : Option StampAsk := l.head?.map fun d => ⟨ownerHost, d.tag, d.tsreq⟩

/-- A whole frame of a transmit ring: admitted under R133, and sent to stage 2 or held in the launch slot (R310). -/
def State.ringSubmit (s : State) (r : Nat) (l : List Desc) : State :=
  let data := l.flatMap (·.data)
  let cells := cellsOf data.length
  if !s.admits srcHost cells then
    (s.stockpileFull false srcHost).setTxFrames r (s.txFramesOf r ++ [⟨0, l, some 0x220, false⟩])
  else
    let fid := s.fab.nextFid
    let s := s.addFrame srcHost cells data none none false false
    if s.launchMode r then s.setLaunch r (some ⟨fid, l, none, false⟩)
    else (s.setTxFrames r (s.txFramesOf r ++ [⟨fid, l, none, false⟩])).enterPipe fid srcHost data (some r)
      (s.rd wHost (fTc true r)) (ringStamp l) false

/-- Descriptors that form no frame by their SOP and EOP marks; the spec gives their DISP and reason no value, but that delivered has the
reason 0x00 (R101). -/
def State.wbStray (s : State) (r : Nat) (l : List Desc) : State :=
  let x := s.draw
  let how := x.1.toNat % 1024
  x.2.wbLoose r l (if how / 256 = 0 then 0 else how)

/-- A transmit descriptor is fetched. -/
def State.txTake (s : State) (r : Nat) (d : Desc) : State :=
  let before := s.txDescs r
  let s := if d.sop && before != [] then (s.setTxDescs r []).wbStray r before else s
  if !d.sop && s.txDescs r == [] then s.wbStray r [d]
  else
    let l := s.txDescs r ++ [d]
    if d.eop then
      let s := (s.setTxDescs r []).ringSubmit r l
      if s.on wHost (fEn true r) then s else s.ringStop true r
    else
      let s := s.setTxDescs r l
      if s.ringSize true r ≤ l.length then s.descError true r else s

/-- A receive descriptor is fetched; a buffer below 64 bytes is a descriptor error. -/
def State.rxTake (s : State) (r : Nat) (d : Desc) : State :=
  let s := s.setRxDescs r (s.rxDescs r ++ [d])
  if d.len < 64 then s.descError false r else s

/-! ## Receive frames -/

/-- The buffers a frame takes, with the bytes each gets; none when they do not hold it. -/
def fillBufs : List Desc → List Nat → Option (List (Desc × List Nat) × List Desc)
  | [], _ => none
  | d :: r, data =>
    if data.length ≤ d.len then some ([(d, data)], r)
    else match fillBufs r (data.drop d.len) with
      | none => none
      | some (l, rest) => some ((d, data.take d.len) :: l, rest)

/-- A frame goes into its buffers, its other descriptors are written back first and its SOP descriptor last (R101, R102). -/
def State.rxDeliver (s : State) (r : Nat) (c : Copy) (l : List (Desc × List Nat)) : State :=
  let ns := match s.frame c.fid with
    | some f => f.stampNs
    | none => 0
  let n := l.length
  let s := l.foldl (fun s x => s.emit (.hostMem x.1.buf x.2)) s
  let marked := (List.range n).zip l
  let s := (marked.drop 1 ++ marked.take 1).foldl (fun s (i, d, b) =>
    s.emit (.hostMem d.entry (descBytes d b.length (doneFlags 0 (i == 0) (i + 1 == n)) c.src ns))) s
  ((s.complete false r (l.map (·.1.idx))).endCopy wHost c .delivered 0).ringIrq false r

end Sys2Proof.Machine
end

