-- ==== Sys2Proof/Machine/EventOps.lean ====
section
/-! DEFINITION. The event pool as operations (R302 to R310): arming, crossings, the ends of an occurrence, and what an action does. -/

namespace Sys2Proof.Machine

/-! ## Occurrences -/

/-- Adds n records of the same item to the Spoil log at once. -/
def State.spoilMany (s : State) (win : Nat) (d : Disp) (reason : Nat) (k : Item) (n : Nat) : State :=
  if n = 0 then s
  else
    let s := s.spoil win d reason k noPort noPort
    if n = 1 || !s.gxOn then s
    else
      let r := s.flt.spoil.getLastD 0
      let all := s.flt.spoil.length + (n - 1)
      let s := s.count wRoot SPOIL_OVERWRITTEN.COUNT 0 (all - 1024)
      let l := s.flt.spoil ++ List.replicate (min 1024 (n - 1)) r
      let s := s.setFlt { s.flt with spoil := l.drop (l.length - 1024) }
      if s.rd wRoot SPOIL_REASON_SEL.REASON = reason ∧ reasonListed reason then s.count wRoot SPOIL_REASON_CNT.COUNT 0 (n - 1) else s

/-- Ends n occurrences of event i the same way (R305, R454). -/
def State.evEnd (s : State) (i : Nat) (d : Disp) (reason n : Nat) : State :=
  if n = 0 then s
  else
    let f := match d with
      | .delivered | .untimed => EVP_DELIVERED.COUNT
      | .dropped => EVP_DROPPED.COUNT
      | .failed => EVP_FAILED.COUNT
    let s := (s.count wEvp f 0 n).wr wEvp EVP_STATE.LAST (reason % 128) i
    match d with
    | .delivered | .untimed => s
    | .dropped | .failed => s.spoilMany wEvp d reason .event n

/-! ## Targets -/

def State.evAxis (s : State) (i : Nat) : Nat := s.rd wEvp EVP_ENTRY.AXIS i
def State.evRepeat (s : State) (i : Nat) : Nat := s.rd wEvp EVP_ENTRY.REPEAT i

/-- DIR, rising on AX0 and for the code that stores rising (R303). -/
def State.evDir (s : State) (i : Nat) : Nat :=
  let d := s.rd wEvp EVP_ENTRY.DIR i
  if s.evAxis i = 0 ∨ d = 0 then 1 else d

/-- The position an event is compared with: nanoseconds of AX0, scaled units elsewhere; EXACT ignores interpolation (R307). -/
def State.evPos (s : State) (i : Nat) : Int :=
  let n := s.evAxis i
  if n = 0 then s.ax0Ns else if s.on wEvp EVP_ENTRY.EXACT i then (s.axis n).pm else s.axPos n

/-- A target in the units of `evPos`. -/
def State.evScale (s : State) (i : Nat) : Int := if s.evAxis i = 0 then 1 else axUnit

/-- T of R304, in axis units, or nanoseconds on AX0. On an angle axis, whose revolution count wraps, MATCH 0 means the value with these 32 bits
nearest to the position. -/
def State.evTarget (s : State) (i : Nat) : Int :=
  let pos := s.rd wEvp EVP_ENTRY.POS i
  let n := s.evAxis i
  if n = 0 then (((s.ax0.sec / 2 ^ 32 * 2 ^ 32 + pos / 2 ^ 32) * billion + pos % 2 ^ 32 : Nat) : Int)
  else
    let p := s.axPos n / axUnit
    if s.on wEvp EVP_ENTRY.MATCH i && s.axAngle n then
      let l : Int := (pos % 65536 : Nat)
      let up := (l - p) % 65536
      let above := p + (if up = 0 then 65536 else up)
      let below := p - (p - l) % 65536
      if s.evDir i = 1 then above else if s.evDir i = 2 then below
      else if (above - p) ≤ (p - below) then above else below
    else if s.axAngle n then p + toSigned (ofSigned (((pos % 2 ^ 32 : Nat) : Int) - p) 32) 32
    else toSigned (pos % 2 ^ 32) 32

/-- TARGET lies in the range of ACTION (R308). -/
def State.evTargetOk (s : State) (i : Nat) : Bool :=
  let t := s.rd wEvp EVP_ENTRY.TARGET i
  let a := s.rd wEvp EVP_ENTRY.ACTION i
  if a = 1 ∨ a = 3 then t < 16 else if a = 2 then t < 8192 else if a = 4 then t < 64
  else if a = 5 ∨ a = 6 ∨ a = 7 then t < 72 else if a = 8 then t < 80 else if a = 10 ∨ a = 11 then t < 6 else true

def State.evArmed (s : State) (i : Nat) : Option ArmedEv := (s.evp.armed.find? (·.1 == i)).map (·.2)

/-- The condition of the row "ARM". -/
def State.evFits (s : State) (i : Nat) : Bool :=
  (s.evAxis i == 0 || s.axState (s.evAxis i) != axOff) && s.rd wEvp EVP_ENTRY.ACTION i ≤ 12 && s.evTargetOk i &&
    (s.evRepeat i == 0 || s.evDir i != 3)

/-- R311: the action goes to IX in advance. -/
def State.evAhead (s : State) (i : Nat) (t : Int) : Bool :=
  s.evAxis i == 0 && [5, 6, 7, 10, 11].contains (s.rd wEvp EVP_ENTRY.ACTION i) && decide (((s.ax0Ns + 5000 : Nat) : Int) ≤ t)

def State.setArmed (s : State) (i : Nat) (t : Int) : State :=
  let below := decide (s.evPos i < t * s.evScale i)
  (s.setEvp { s.evp with armed := insertAt s.evp.armed i ⟨t, below, s.evAhead i t⟩ }).wr wEvp EVP_STATE.ARMED 1 i

def State.unarm (s : State) (i : Nat) : State :=
  (s.setEvp { s.evp with armed := erase s.evp.armed i }).wr wEvp EVP_STATE.ARMED 0 i

/-- After k occurrences: the target advances by REPEAT in the event's direction, or the event returns to IDLE. -/
def State.evAdvance (s : State) (i : Nat) (a : ArmedEv) (k : Nat) : State :=
  let r := s.evRepeat i
  if r = 0 then s.unarm i
  else s.setArmed i (if s.evDir i = 2 then a.target - ((k * r : Nat) : Int) else a.target + ((k * r : Nat) : Int))

/-- How many occurrences the position has passed (R306). -/
def State.evPassed (s : State) (i : Nat) (a : ArmedEv) (falling : Bool) : Nat :=
  let r := s.evRepeat i
  if r = 0 then 1
  else
    let p := s.evPos i
    let t := a.target * s.evScale i
    let step := (r : Int) * s.evScale i
    if falling then ((t - p - 1) / step).toNat + 1 else ((p - t) / step).toNat + 1

/-- The first k - 1 of k occurrences are overrun (R306). -/
def State.evOverrun (s : State) (i k : Nat) : State :=
  if k ≤ 1 then s
  else ((s.evEnd i .dropped 0x92 (k - 1)).sticky wEvp EVP_STAT.OVERRUN).event wEvp 1

/-- The event fires once for the last of k occurrences: its action is issued. -/
def State.evFire (s : State) (i : Nat) (a : ArmedEv) (k : Nat) : State :=
  let s := (s.evOverrun i k).wr wEvp EVP_FIRED.TIME s.time80 i
  let s := s.setEvp { s.evp with queue := s.evp.queue ++
    [⟨i, s.rd wEvp EVP_ENTRY.ACTION i, s.rd wEvp EVP_ENTRY.TARGET i, s.rd wEvp EVP_ENTRY.ARG i⟩] }
  s.evAdvance i a k

/-- The late rule of R305 over the k occurrences that a target at or before AX0 leaves behind. -/
def State.evLate (s : State) (i : Nat) (a : ArmedEv) : State :=
  let k := s.evPassed i a false
  if s.on wEvp EVP_ENTRY.LATE_ACT i then ((s.evFire i a k).sticky wEvp EVP_STAT.LATE).event wEvp 0
  else (s.evEnd i .dropped 0x91 k).evAdvance i a k

/-- Arms an event that fits (R303 to R305). -/
def State.evArm (s : State) (i : Nat) : State :=
  let t := s.evTarget i
  let s := s.setArmed i t
  match s.evArmed i with
  | none => s
  | some a => if s.evAxis i = 0 ∧ a.target ≤ (s.ax0Ns : Int) then s.evLate i a else s

/-- An armed event returns to IDLE with its occurrence dropped. -/
def State.evDrop (s : State) (i reason : Nat) : State :=
  if (s.evArmed i).isNone then s else (s.unarm i).evEnd i .dropped reason 1

/-- The axis of armed events enters OFF or is reset. -/
def State.axisLost (s : State) (n : Nat) : State :=
  s.each (s.evp.armed.map (·.1)) fun s i => if s.evAxis i = n then s.evDrop i 0x94 else s

/-- One armed event is evaluated (R299, R303). -/
def State.evEval (s : State) (i : Nat) : State :=
  match s.evArmed i with
  | none => s
  | some a =>
    let n := s.evAxis i
    if a.timed then s
    else if n = 0 then (if a.target ≤ (s.ax0Ns : Int) then s.evFire i a (s.evPassed i a false) else s)
    else if s.axState n ≠ axRun ∨ (s.on wEvp EVP_ENTRY.EXACT i ∧ !(s.axis n).updated) then s
    else
      let below := decide (s.evPos i < a.target * axUnit)
      if a.below && !below && s.evDir i != 2 then s.evFire i a (s.evPassed i a false)
      else if !a.below && below && s.evDir i != 1 then s.evFire i a (s.evPassed i a true)
      else s.setEvp { s.evp with armed := insertAt s.evp.armed i { a with below } }

/-! ## Actions (R308, R309) -/

/-- The target refuses (R309). -/
def State.evRefused (s : State) (i : Nat) : State := ((s.evEnd i .failed 0x95 1).sticky wEvp EVP_STAT.TARGET).event wEvp 2

def State.evDone (s : State) (i : Nat) : State := s.evEnd i .delivered 0 1

def State.shut (s : State) (w : Nat) : Bool := s.unitState w == usOff || s.unitState w == usSafe

/-- The action to be issued now, when it is of this kind: actions leave in the order of their occurrences, those of one tick in ascending event
number (R307). -/
def State.takeAct (s : State) (k : Nat) : Option (EvAct × State) :=
  match s.evp.queue with
  | [] => none
  | a :: r => if a.act = k then some (a, s.setEvp { s.evp with queue := r }) else none

/-- The action on a channel or engine, as IX applies it; none where the target refuses. A half-bridge's channel takes no on command. -/
def State.ixAction (s : State) (act n arg : Nat) : Option State :=
  if act = 5 then (if s.shut (wCh n) || isHalf n then none else some (s.chCommand n (bit arg 0)))
  else if act = 6 then (if s.shut (wCh n) then none else some (s.chSetDuty n (arg % 65536)))
  else if act = 7 then (if s.shut (wCh n) then none else some (s.chSetPhase n (arg % 256)))
  else if act = 10 then (if s.shut (wME n) then none else
      some ((s.wr (wME n) ME_TARGET.TARGET (arg % 2 ^ 32)).meCommand n (.move (toSigned arg 32))))
  else if s.shut (wME n) then none else some (s.meModeCommand n (arg % 8))

/-- An action on IX that is applied on arrival. -/
def State.ixIssued (s : State) (act : Nat) : State :=
  match s.takeAct act with
  | none => s
  | some (a, s) => match s.ixAction act a.target a.arg with
    | none => s.evRefused a.ev
    | some t => t.evDone a.ev

/-- The signal entries that a body unit feeds report a value at once, outside the rate rule (R308). -/
def State.reportAll (s : State) (src u v : Nat) : State := s.each (s.fedBy src u) fun s i => s.report i v

def allEvents : List Nat := List.range 4096

/-- Group arm and disarm of the groups of a mask; an event that does not fit stays IDLE. -/
def State.groupArm (s : State) (mask : Nat) : State :=
  s.each allEvents fun s i =>
    if bit mask (s.rd wEvp EVP_ENTRY.GROUP i) && (s.evArmed i).isNone && s.evFits i then s.evArm i else s

def State.groupDisarm (s : State) (mask : Nat) : State :=
  s.each (s.evp.armed.map (·.1)) fun s i => if bit mask (s.rd wEvp EVP_ENTRY.GROUP i) then s.evDrop i 0x90 else s

end Sys2Proof.Machine
end

