-- ==== Sys2Proof/Machine/Axes.lean ====
section
/-! DEFINITION. The commands of the axes: enabling and tracking AX1 to AX7 (R295 to R298), AX0's STEP, MARK, UNSYNC and servo (R300 to R302),
and gPTP (R301). -/

namespace Sys2Proof.Machine

/-! ## AX1 to AX7 -/

/-- AX_CFG as a written byte is stored: SRC 5 to 7 stores 0, SRC 1 makes KIND 1, SRC 2 makes it 0. -/
def axCfgFit (v : Nat) : Nat :=
  let src := if 4 < v / 16 % 8 then 0 else v / 16 % 8
  let kind := if src = 1 then 1 else if src = 2 then 0 else v / 8 % 2
  v / 128 % 2 * 128 + src * 16 + kind * 8 + v % 8

def State.axCfgByte (s : State) (n : Nat) : Nat :=
  s.rd (wAx n) AX_CFG.EN * 128 + s.rd (wAx n) AX_CFG.SRC * 16 + s.rd (wAx n) AX_CFG.KIND * 8 + s.rd (wAx n) AX_CFG.FILT

def State.putAxCfg (s : State) (n v : Nat) : State :=
  (((s.wr (wAx n) AX_CFG.EN (v / 128)).wr (wAx n) AX_CFG.SRC (v / 16)).wr (wAx n) AX_CFG.KIND (v / 8)).wr (wAx n) AX_CFG.FILT v

/-- The inputs of an encoder axis are in MODE 2 (R341). -/
def State.encoderOk (s : State) (n : Nat) : Bool :=
  s.rd (wSW (s.rd (wAx n) AX_SRC.UNIT_A)) SW_CFG.MODE == 2 && s.rd (wSW (s.rd (wAx n) AX_SRC.UNIT_B)) SW_CFG.MODE == 2

/-- The refusals of a write of AX_CFG (R295, R320, R341): while EN reads 1 only a write that changes nothing, or only clears EN, is
taken. -/
def State.axCfgKinds (s : State) (n v : Nat) : List Kind :=
  let old := s.axCfgByte n
  let new := axCfgFit v
  whenK (s.isSafe (wAx n) && new != old) .state ++
  whenK (128 ≤ old && new != old && new != old - 128) .state ++
  whenK (old < 128 && 128 ≤ new && new / 16 % 8 == 1 && !s.encoderOk n) .state

/-- EN from 0 to 1. -/
def State.axStart (s : State) (n : Nat) : State :=
  let src := s.axSrc n
  let rate := toSigned (s.rd (wAx n) AX_RATE.RATE) 32
  if src = 0 then s
  else if src = 4 then
    let s := s.setAxis n { AxisSt.reset with tm := s.clk, speed := rate * axUnit }
    (s.wr (wAx n) AX_STATE.DIRN (b2n (decide (rate < 0)))).setAxState n axRun
  else
    let p := if src = 2 then toSigned (s.rd (wME (s.rd (wAx n) AX_SRC.UNIT_A)) ME_POS.POS) 32 * axUnit else 0
    let s := s.setAxis n { AxisSt.reset with tm := s.clk, pm := p, shown := p }
    ((s.wr (wAx n) AX_STATE.DIRN 0).setAxState n axWait).axSourceCheck n

/-- EN from 1 to 0: every armed event of the axis ends dropped. -/
def State.axStop (s : State) (n : Nat) : State :=
  if s.axState n = axOff then s
  else (((s.setAxState n axOff).wr (wAx n) AX_STATE.DIRN 0).setAxis n AxisSt.reset).axisLost n

/-- A byte of AX_CFG takes effect. -/
def axCfgWrite (n v : Nat) (s : State) : State :=
  let was := s.on (wAx n) AX_CFG.EN
  let s := s.putAxCfg n (axCfgFit v)
  let on := s.on (wAx n) AX_CFG.EN
  if on && !was then s.axStart n else if was && !on then s.axStop n else s

/-- n: 0 to 6 for AX1 to AX7; low: the other bits of AX_CFG. -/
def execAxisEnable (init : Initiator) (n : Fin 7) (low : Fin 128) (s : State) : Result :=
  let s := fresh s
  .next (s.cmdWrite init.code (wAx (n + 1)) 0x140 (128 + low) (s.axCfgKinds (n + 1) (128 + low)) (axCfgWrite (n + 1) (128 + low)))

def execAxisDisable (init : Initiator) (n : Fin 7) (low : Fin 128) (s : State) : Result :=
  let s := fresh s
  .next (s.cmdWrite init.code (wAx (n + 1)) 0x140 low (s.axCfgKinds (n + 1) low) (axCfgWrite (n + 1) low))

/-- The source reports: an encoder edge in a direction, a count of the engine, a store of the signal. A source that is not READY takes a
stalled axis nowhere. -/
def measured (n : Nat) (up : Bool) (s : State) : State :=
  if !s.gxOn || s.axState n == axOff || s.axSources n == [] then s
  else
    let s := s.axSourceCheck n
    if (s.axState n == axStalled && !s.sourceReady n) || s.sourceLost n then s else s.axUpdate n up

def execAxisMeasuredUpdate (n : Fin 7) (up : Bool) (s : State) : Result := .next (measured (n + 1) up (fresh s))

/-- STALL_TO has passed without a measured update. -/
def stallTimeout (n : Nat) (s : State) : State :=
  if s.gxOn && s.axState n == axRun && s.rd (wAx n) AX_STALL.STALL_TO != 0 && s.axSources n != [] then
    let s := (s.setAxis n { s.axis n with speed := 0, shown := s.axPos n }).setAxState n axStalled
    (s.sticky (wAx n) AX_STAT.STALL).event (wAx n) 0
  else s

def execAxisStallTimeout (n : Fin 7) (s : State) : Result := .next (stallTimeout (n + 1) (fresh s))

/-! ## AX0 -/

/-- An armed AX0 event whose position lies after A, up to where AX0 is now, is late (R302). -/
def State.passedLate (s : State) (a : Nat) (i : Nat) : State :=
  match s.evArmed i with
  | some e => if s.evAxis i = 0 ∧ (a : Int) < e.target ∧ e.target ≤ (s.ax0Ns : Int) then s.evLate i e else s
  | none => s

/-- STEP (R300, R302): what AX0 had reached by the tick of the step has fired; then no crossing, but the armed events that a forward step passes
are late. -/
def ax0Step (s : State) : State :=
  let s := s.each ((s.evp.armed.map (·.1)).filter fun i => s.evAxis i == 0) State.evEval
  let a := s.ax0Ns
  let sec := s.rd (wAx 0) AX0_SET.SEC
  let ns := s.rd (wAx 0) AX0_SET.NS
  let s := s.setAx0 { s.ax0 with sec, ns, frac := 0, slew := 0 }
  let s := s.each (s.evp.armed.map (·.1)) fun s i => s.passedLate a i
  (s.sticky (wAx 0) AX0_STAT.STEPPED).event (wAx 0) 1

def execAx0Step (init : Initiator) (s : State) : Result :=
  let s := fresh s
  .next (s.cmdField init.code (wAx 0) AX0_CTRL.STEP (whenK (s.isSafe (wAx 0)) .state) ax0Step)

def ax0Mark (s : State) : State := s.setAx0State sync0

def execAx0Mark (init : Initiator) (s : State) : Result := .next ((fresh s).cmdField init.code (wAx 0) AX0_CTRL.MARK [] ax0Mark)

def ax0Unsync (s : State) : State := s.setAx0State free0

def execAx0Unsync (init : Initiator) (s : State) : Result := .next ((fresh s).cmdField init.code (wAx 0) AX0_CTRL.UNSYNC [] ax0Unsync)

/-- A servo update: RATE, or a new slew remainder (R300, R301). -/
def servo (slew : Bool) (v : Nat) (s : State) : State :=
  if slew then (s.wr (wAx 0) AX0_SLEW.SLEW v).setAx0 { s.ax0 with slew := toSigned v 32 * fracUnit }
  else s.wr (wAx 0) AX0_RATE.RATE v

def execAx0ServoUpdate (init : Initiator) (slew : Bool) (v : BitVec 32) (s : State) : Result :=
  .next ((fresh s).cmdWrite init.code (wAx 0) (if slew then 0x183 else 0x17F) (v.toNat % 256) [] (servo slew v.toNat))

/-- HOLD_TO has passed without a servo update. -/
def holdoverTimeout (s : State) : State :=
  if s.gxOn && s.ax0State == sync0 && s.rd (wAx 0) AX0_HOLD_TO.HOLD_TO != 0 then
    ((s.setAx0State holdover0).sticky (wAx 0) AX0_STAT.HOLDOVER).event (wAx 0) 0
  else s

def execAx0HoldoverTimeout (s : State) : Result := .next (holdoverTimeout (fresh s))

def copyUpdate (s : State) : State := if s.gxOn then s.setAx0 { s.ax0 with ixSec := s.ax0.sec, ixNs := s.ax0.ns } else s

def execAx0CopyUpdate (s : State) : Result := .next (copyUpdate (fresh s))

/-! ## gPTP (R301; the message formats are those of IEEE 802.1AS-2020) -/

/-- MP sends a gPTP message through the port's Hopper; an event message asks for a stamp under a tag of MP's choice (R315). The spec gives MP's
frames no class. -/
def State.mpSend (s : State) (p : Nat) (d : List Nat) (stamped : Bool) : State :=
  let x := s.draw
  x.2.sendOwn p Config.ptpClass.toNat d (some ⟨ownerMp, x.1.toNat % 2 ^ 32, stamped⟩)

/-- The message with another type and correction field. -/
def ptpWith (d : List Nat) (ty corr : Nat) : List Nat :=
  d.take 14 ++ [d.getD 14 0 / 16 * 16 + ty] ++ (d.drop 15).take 7 ++ toBytes corr 8 ++ d.drop 30

/-- The correction field of a message. -/
def ptpCorr (d : List Nat) : Nat := beNat ((d.drop 22).take 8)

/-- A Sync or Follow_Up goes on to the master ports, the residence time and the link delay, which MP measures, added to its correction
field. -/
def State.ptpRelay (s : State) (d : List Nat) (ty : Nat) (stamped : Bool) : State :=
  s.each ((List.range 16).filter fun q => bit s.cfg.ptpMasters q && bit (s.rd (wAx 0) AX0_PTP.PTP_EN) q) fun s q =>
    let x := s.draw
    x.2.mpSend q (ptpWith d ty ((ptpCorr d + x.1.toNat) % 2 ^ 64)) stamped

/-- What MP's instance does with a message (R301): a slave port's Follow_Up disciplines AX0 by values of MP's own, a delay request is
answered in two steps. -/
def State.ptpMessage (s : State) (p : Nat) (d : List Nat) : State :=
  let ty := d.getD 14 0 % 16
  let slave := bit s.cfg.ptpSlaves p
  if ty = 0 then (if slave then s.ptpRelay d 0 true else s)
  else if ty = 8 then
    if !slave then s
    else
      let a := s.draw
      let b := a.2.draw
      (servo true (b.1.toNat % 2 ^ 32) (servo false (a.1.toNat % 2 ^ 32) b.2)).ptpRelay d 8 false
  else if ty = 2 then (s.mpSend p (ptpWith d 3 0) true).mpSend p (ptpWith d 10 0) false
  else s

/-- A gPTP frame reaches MP, which takes those of its domain on its ports; the frame that the port handed over ends with it (R172). -/
def ptpReceived (p : Nat) (d : List Nat) (s : State) : State :=
  if !s.gxOn then s
  else
    let takes := s.pwr.mpRun && bit (s.rd (wAx 0) AX0_PTP.PTP_EN) p && beNat ((d.drop 12).take 2) == 0x88F7 &&
      d.getD 18 0 == s.rd (wAx 0) AX0_DOMAIN.DOMAIN
    let s := s.handedEnd p 0x88F7 takes
    if takes then s.ptpMessage p d else s

/-- The frame's stamp comes with it; what MP computes from it are the values of its own. -/
def execGptpFrameReceived (p : Fin 16) (d : List Byte) (_sec : BitVec 48) (_ns : BitVec 32) (s : State) : Result :=
  .next (ptpReceived p (d.map (·.toNat)) (fresh s))

end Sys2Proof.Machine
end

