-- ==== Sys2Proof/Machine/StageOps.lean ====
section
/-! DEFINITION. Staging (R121, R122, R498): who may stage, the staged delta of the L2 table and of the Seam (R187, R199), and giving a
staged delta up (R123). -/

namespace Sys2Proof.Machine

/-- What a staging write of a table is refused for. -/
def State.stageKinds (s : State) (init w : Nat) : List Kind :=
  whenK (s.on wTables TBL_STAT.BUSY) .commitBusy ++
    whenK (s.rd wTables TBL_OWNER.OWNER != init || s.isSafe w) .state

/-- A staged write that would exceed a list (R122). -/
def State.stageFull (s : State) (w init ofs data : Nat) : State :=
  (s.sticky wTables TBL_STAT.STG_FULL).violate w init .state true (w * 4096 + ofs) data

/-- The delta may touch this entry. -/
def State.touchRoom (s : State) (w i : Nat) : Bool := s.touchedEntry w i || s.bench.touched.length < 8192

def State.ovfRoom (s : State) : Bool := s.bench.ovf.length < 256

/-- The tag bits of R120: valid in Bench g only. -/
def tagOnly (g : Nat) : Nat := 2 ^ g
def tagBoth : Nat := 3

/-- An index the model draws from n ≥ 1, where the spec lets the block choose. -/
def State.pick (s : State) (n : Nat) : Nat × State := (s.draw.1.toNat % n, s.draw.2)

/-! ## Static L2 entries (R187) -/

/-- The number of a key in the delta's lists. -/
def l2Key (fid mac : Nat) : Nat := fid * 2 ^ 48 + mac

def L2Way.sameKey (a b : L2Way) : Bool := a.isKey b.fid b.mac

/-- The key's version that the delta has put into a way. -/
def State.l2Staged (s : State) (x : L2Way) : Option L2Way :=
  s.tbl.l2.find? fun w => w.sameKey x && w.tag == tagOnly (1 - s.gen)

/-- The superseded entry of a key becomes current-only. -/
def State.l2Supersede (s : State) (x : L2Way) : State :=
  s.setL2 (s.tbl.l2.map fun w => if w.sameKey x && w.tag == tagBoth then { w with tag := tagOnly s.gen } else w)

/-- Puts a new version under CUR into a free way, or into the way of an idle learned entry of another key. -/
def State.l2Place (s : State) (x : L2Way) : Option State :=
  let b := s.l2Bucket s.l2Cur x.fid x.mac
  let x := { x with bucket := b, h := s.l2Cur }
  if s.l2Free b then some (s.l2Add x)
  else
    let idle := s.tbl.l2.filter fun w => w.bucket == b && !w.static && !w.act && !w.sameKey x
    let p := s.pick idle.length
    match idle[p.1]? with
    | none => none
    | some w => some (((p.2.l2Drop w).count wL2 L2_EVICTED.COUNT).l2Add x)

/-- Stages a static entry. The answer is its RESULT: 0, 2 or 3. -/
def State.l2Stage (s : State) (x : L2Way) : State × Nat :=
  let k := l2Key x.fid x.mac
  let x := { x with static := true, act := false, tag := tagOnly (1 - s.gen) }
  if s.touchRoom wL2 k = false then (s, 3)
  else if s.inOvf wL2 k then
    (((s.setTbl { s.tbl with l2Ovf := s.tbl.l2Ovf.map fun w => if w.sameKey x then x else w }).touch wL2 k).stagedOne, 2)
  else match s.l2Staged x with
    | some w => (((s.l2Map w fun w => { x with bucket := w.bucket, h := w.h }).touch wL2 k).stagedOne, 0)
    | none => match s.l2Place x with
      | some t => (((t.l2Supersede x).touch wL2 k).stagedOne, 0)
      | none =>
        if s.ovfRoom = false then (s, 3)
        else
          let s := (s.l2Supersede x).addOvf wL2 k
          (((s.setTbl { s.tbl with l2Ovf := s.tbl.l2Ovf ++ [x] }).touch wL2 k).stagedOne, 2)

/-- Stages the deletion of a static entry: RESULT 0, 1 or 3. -/
def State.l2Unstage (s : State) (fid mac : Nat) : State × Nat :=
  let k := l2Key fid mac
  let nb := 1 - s.gen
  if s.inOvf wL2 k then
    ((((s.dropOvf wL2 k).setTbl { s.tbl with l2Ovf := s.tbl.l2Ovf.filter fun w => !w.isKey fid mac }).touch wL2 k).stagedOne, 0)
  else match s.tbl.l2.find? (fun w => w.static && w.isKey fid mac && bit w.tag nb) with
    | none => (s, 1)
    | some w =>
      if s.touchRoom wL2 k = false then (s, 3)
      else
        let s := if w.tag = tagBoth then s.l2Map w fun w => { w with tag := tagOnly s.gen } else s.l2Drop w
        ((s.touch wL2 k).stagedOne, 0)

/-! ## Prefixes (R199) -/

def pfxKey (p : Prefix) : Nat := ((b2n p.v6) * 256 + p.plen) * 2 ^ 128 + p.addr

def State.setPrefixes (s : State) (l : List Prefix) : State := s.setTbl { s.tbl with prefixes := l }

/-- The nodes of prefixes that go stand until the reclaim of a commit. -/
def State.stand (s : State) (l : List Prefix) : State := s.setTbl { s.tbl with standing := s.tbl.standing ++ l }

/-- The prefixes whose nodes the trie holds: those of both Benches, of the overflow list, and of what is gone since the last reclaim. -/
def State.nodeSet (s : State) : List Prefix := s.tbl.prefixes ++ s.tbl.pfxOvf ++ s.tbl.standing

def State.pfxSupersede (s : State) (x : Prefix) : State :=
  s.setPrefixes (s.tbl.prefixes.map fun p => if p.same x && p.tag == tagBoth then { p with tag := tagOnly s.gen } else p)

/-- Stages a prefix: RESULT 0, 2, 3 or 6. -/
def State.pfxStage (s : State) (x : Prefix) : State × Nat :=
  let k := pfxKey x
  let x := { x with tag := tagOnly (1 - s.gen) }
  if s.touchRoom wSeam k = false then (s, 6)
  else if s.inOvf wSeam k then
    (((s.setTbl { s.tbl with pfxOvf := s.tbl.pfxOvf.map fun p => if p.same x then x else p }).touch wSeam k).stagedOne, 2)
  else if s.tbl.prefixes.any (fun p => p.same x && p.tag == x.tag) then
    (((s.setPrefixes (s.tbl.prefixes.map fun p => if p.same x && p.tag == x.tag then x else p)).touch wSeam k).stagedOne, 0)
  else if nodesFit (s.nodeSet ++ [x]) = false then (s, 3)
  else if s.prefixCount x.v6 < storeSlots x.v6 then
    (((((s.pfxSupersede x).setPrefixes ((s.pfxSupersede x).tbl.prefixes ++ [x]))).touch wSeam k).stagedOne, 0)
  else if s.ovfRoom = false then (s, 6)
  else
    let s := (s.pfxSupersede x).addOvf wSeam k
    (((s.setTbl { s.tbl with pfxOvf := s.tbl.pfxOvf ++ [x] }).touch wSeam k).stagedOne, 2)

/-- Stages the deletion of a prefix: RESULT 0, 1 or 6. -/
def State.pfxUnstage (s : State) (x : Prefix) : State × Nat :=
  let k := pfxKey x
  let nb := 1 - s.gen
  if s.inOvf wSeam k then
    let s := (s.dropOvf wSeam k).stand [x]
    (((s.setTbl { s.tbl with pfxOvf := s.tbl.pfxOvf.filter fun p => !p.same x }).touch wSeam k).stagedOne, 0)
  else match s.tbl.prefixes.find? (fun p => p.same x && bit p.tag nb) with
    | none => (s, 1)
    | some p =>
      if s.touchRoom wSeam k = false then (s, 6)
      else
        let s := if p.tag = tagBoth then s.pfxSupersede x else (s.stand [p]).setPrefixes (s.tbl.prefixes.filter (· != p))
        ((s.touch wSeam k).stagedOne, 0)

/-! ## Ends of a delta -/

/-- The keyed tables in the state of one Bench only: ways and prefixes that are not in Bench g go, the others are valid in both. The nodes of
those that go stand, also after an ABORT, until the reclaim of a commit (DEDUCED: R199 lets that alone free them). -/
def State.keyedSettle (s : State) (g : Nat) : State :=
  s.setTbl { s.tbl with
    l2 := (s.tbl.l2.filter fun w => bit w.tag g).map fun w => { w with tag := tagBoth },
    prefixes := (s.tbl.prefixes.filter fun p => bit p.tag g).map fun p => { p with tag := tagBoth },
    l2Ovf := [], pfxOvf := [], standing := s.tbl.standing ++ (s.tbl.prefixes.filter fun p => !bit p.tag g) ++ s.tbl.pfxOvf }

/-- Every entry of the delta that has a view. -/
def State.touchedViews (s : State) : List (Nat × Nat) :=
  (s.bench.touched.filter fun c => c % 4096 != wL2 && c % 4096 != wSeam).map fun c => (c % 4096, c / 4096)

/-- ABORT: every touched entry as it is in the current Bench, both lists empty (R123). -/
def State.discardDelta (s : State) : State :=
  ((s.each s.touchedViews fun s e => s.restoreEntry e.1 e.2).keyedSettle s.gen).clearDelta

end Sys2Proof.Machine
end

