-- ==== Sys2Proof/Machine/ViewOps.lean ====
section
/-! DEFINITION. The entry views (R498): selecting an entry, writing the view's bytes, and staging the buffer with its content checks. -/

namespace Sys2Proof

/-- The window of a view. -/
def ViewTab.win : ViewTab → Nat
  | .vlan => Machine.wVlan
  | .route => Machine.wRoute
  | .dlist => Machine.wDlist
  | .signal => Machine.wSignal
  | .pdu | .template => Machine.wPdu
  | .sieve => Machine.wSieve
  | .canf => Machine.wCanf
  | .weigh => Machine.wWeigh
  | .auth => Machine.wAuth

/-- The select register: its index field. -/
def ViewTab.sel : ViewTab → Machine.Field
  | .vlan => Machine.VLAN_SEL.VID
  | .route => Machine.RT_SEL.INDEX
  | .dlist => Machine.DL_SEL.INDEX
  | .signal => Machine.SIG_SEL.INDEX
  | .pdu => Machine.PDU_SEL.INDEX
  | .template => Machine.PDU_TMPL_SEL.INDEX
  | .sieve => Machine.SIEVE_SEL.RULE
  | .canf => Machine.CANF_SEL.FILTER
  | .weigh => Machine.WB_SEL.POL
  | .auth => Machine.AUTH_SEL.CTX

/-- The select register: its NEXT field. -/
def ViewTab.next : ViewTab → Machine.Field
  | .vlan => Machine.VLAN_SEL.NEXT
  | .route => Machine.RT_SEL.NEXT
  | .dlist => Machine.DL_SEL.NEXT
  | .signal => Machine.SIG_SEL.NEXT
  | .pdu => Machine.PDU_SEL.NEXT
  | .template => Machine.PDU_TMPL_SEL.NEXT
  | .sieve => Machine.SIEVE_SEL.NEXT
  | .canf => Machine.CANF_SEL.NEXT
  | .weigh => Machine.WB_SEL.NEXT
  | .auth => Machine.AUTH_SEL.NEXT

/-- The offset of the view's committing byte. -/
def ViewTab.commit : ViewTab → Nat
  | .vlan => 0x16F
  | .route => 0x153
  | .dlist => 0x157
  | .signal => 0x15F
  | .pdu => 0x15B
  | .template => 0x172
  | .sieve => 0x1B7
  | .canf => 0x157
  | .weigh => 0x15B
  | .auth => 0x15F

/-- The entry number of index 0 in the table's store. -/
def ViewTab.base : ViewTab → Nat
  | .template => Machine.tmplBase
  | _ => 0

end Sys2Proof

namespace Sys2Proof.Machine

def allViews : List ViewTab := [.vlan, .route, .dlist, .signal, .pdu, .template, .sieve, .canf, .weigh, .auth]

/-- The entry a view's select register names. -/
def State.selected (s : State) (v : ViewTab) : Nat := v.base + s.rd v.win v.sel

/-- The select register takes a value, and the buffer the selected entry's next-Bench content. -/
def State.selectView (s : State) (v : ViewTab) (next : Bool) (i : Nat) : State :=
  let s := (s.wr v.win v.next (b2n next)).wr v.win v.sel i
  s.loadView v.win (s.selected v)

/-- A field's value after a write of byte b at offset a. -/
def Field.putByte (f : Field) (v a b : Nat) : Nat :=
  if f.ofs ≤ a ∧ a < f.ofs + f.len then
    bits (putBits (v * 2 ^ f.lo) (8 * (f.ofs + f.len - 1 - a) + 7) (8 * (f.ofs + f.len - 1 - a)) b) f.hi f.lo
  else v

/-- Bytes from offset a on enter the view's buffer. -/
def State.bufBytes (s : State) (v : ViewTab) (a : Nat) : List Nat → State
  | [] => s
  | b :: r =>
    let i := s.selected v
    (s.each (viewFields v.win i) fun s f => s.setBuf v.win f i (f.putByte (s.buf v.win f i) a b)).bufBytes v (a + 1) r

/-- The buffer with the values that its fields store (R18). -/
def State.bufFit (s : State) (v : ViewTab) : State :=
  let i := s.selected v
  s.each (viewFields v.win i) fun s f => s.setBuf v.win f i (f.fit.apply (s.buf v.win f i))

/-! ## Content checks -/

/-- R245: the units a SRC has. -/
def srcUnits (src : Nat) : Nat :=
  if src = 1 then 72 else if src = 2 then 64 else if src = 3 then 16 else if src = 4 ∨ src = 5 then 6 else 128

/-- Another entry of Bench g than i binds this function of this unit (R247). -/
def State.sinkTaken (s : State) (g i fn unit : Nat) : Bool :=
  (s.validIn g wSignal SIG_ENTRY.VALID).any fun j =>
    j != i && s.ent g wSignal SIG_ENTRY.SINK_FN j == fn && s.ent g wSignal SIG_ENTRY.SINK_UNIT j == unit

/-- R246: the units a SINK_FN has. -/
def sinkUnits (fn : Nat) : Nat := if 1 ≤ fn ∧ fn ≤ 3 then 72 else if fn = 4 ∨ fn = 5 then 6 else 128

/-- R324: an image binds no SINK_FN 1 to a channel of a half-bridge. -/
def sinkBarred (get : Field → Nat) : Bool :=
  get SIG_ENTRY.VALID == 1 && get SIG_ENTRY.SINK_FN == 1 && decide (get SIG_ENTRY.SINK_UNIT < 12)

/-- The content of entry i of window w in Bench g is what its unit takes, for an entry with VALID 1. `get` reads its fields. -/
def State.contentOk (s : State) (g w i : Nat) (get : Field → Nat) : Bool :=
  if w = wSignal ∧ get SIG_ENTRY.VALID = 1 then
    get SIG_ENTRY.LEN != 0 && decide (get SIG_ENTRY.SRC_UNIT < srcUnits (get SIG_ENTRY.SRC)) &&
      (get SIG_ENTRY.SINK_FN == 0 ||
        (decide (get SIG_ENTRY.SINK_UNIT < sinkUnits (get SIG_ENTRY.SINK_FN)) &&
          !s.sinkTaken g i (get SIG_ENTRY.SINK_FN) (get SIG_ENTRY.SINK_UNIT)))
  else !(w == wAuth && i == 0)

/-! ### The C2 partition (R464, R475) -/

/-- Entries of the shared tables that the legacy route slots hold. -/
def reservedEntry (w i : Nat) : Bool :=
  (w == wCanf && 3840 ≤ i && i < 4096) || (w == wRoute && 16128 ≤ i && i < 16384) || (w == wDlist && 30720 ≤ i && i < 32768)

/-- Port codes of the legacy ports. -/
def legacyPort (c : Nat) : Bool := (0x10 ≤ c && c < 0x16) || (0x20 ≤ c && c < 0x24)

/-- Legacy channels are CH12 to CH35. -/
def legacyChannel (n : Nat) : Bool := 12 ≤ n && n < 36

/-- The content names a legacy resource as R475 forbids. -/
def legacyRef (w : Nat) (get : Field → Nat) : Bool :=
  (w == wDlist && legacyPort (get DL_ENTRY.PORT)) ||
    (w == wSignal && get SIG_ENTRY.VALID == 1 &&
      ((1 ≤ get SIG_ENTRY.SINK_FN && get SIG_ENTRY.SINK_FN ≤ 3 && legacyChannel (get SIG_ENTRY.SINK_UNIT)) ||
        (get SIG_ENTRY.SRC == 1 && legacyChannel (get SIG_ENTRY.SRC_UNIT))))

/-! ## Staging -/

/-- VALID of the buffered entry; an entry without VALID counts as valid. -/
def State.bufValid (s : State) (v : ViewTab) : Bool :=
  match viewValid v.win (s.selected v) with
  | some f => s.buf v.win f (s.selected v) == 1
  | none => true

/-- The buffered entry would exceed a list of the delta (R122). -/
def State.viewFull (s : State) (v : ViewTab) : Bool :=
  match s.slotFor v.win (s.selected v) (s.bufValid v) with
  | .refused => true
  | .slot | .overflow => false

/-- What an access to the committing byte is refused for but a full list, the buffer holding the access's bytes. -/
def State.viewChecks (s : State) (init : Nat) (v : ViewTab) : List Kind :=
  let i := s.selected v
  let get := fun f => s.buf v.win f i
  s.stageKinds init v.win ++ whenK (s.stageBlocked v.win i || !s.contentOk (1 - s.gen) v.win i get) .state ++
    whenK (s.pwr.mode == 2 && init != initMp && (reservedEntry v.win i || legacyRef v.win get)) .partition

/-- With a full list. -/
def State.viewKinds (s : State) (init : Nat) (v : ViewTab) : List Kind := s.viewChecks init v ++ whenK (s.viewFull v) .state

/-- The access is refused for a full list and for nothing else: STG_FULL (R122). -/
def State.viewOnlyFull (s : State) (init : Nat) (v : ViewTab) : Bool :=
  s.viewFull v && (firstKind (s.commonKinds init v.win v.commit ++ s.viewChecks init v)).isNone

/-- In C2, PORTS bits 0 to 5 that the native side writes to the filter store 0 (R475). -/
def State.nativePorts (s : State) (init : Nat) (v : ViewTab) : State :=
  if s.pwr.mode = 2 ∧ init ≠ initMp ∧ v = .canf then
    s.setBuf wCanf CANF_ENTRY.PORTS (s.selected v) (s.buf wCanf CANF_ENTRY.PORTS (s.selected v) / 64 * 64)
  else s

/-- A write of the bytes that end with the committing byte: the whole access is refused, or the buffer is staged. -/
def State.stageView (s : State) (init : Nat) (v : ViewTab) (data : List Nat) : State :=
  let t := (s.bufBytes v (v.commit + 1 - data.length) data).bufFit v
  let full := s.reaches init && !s.writeIgnored v.win v.commit && t.viewOnlyFull init v
  (s.when full fun s => s.sticky wTables TBL_STAT.STG_FULL).cmdWrite init v.win v.commit (data.getLastD 0) (t.viewKinds init v) fun s =>
    let t := (((s.bufBytes v (v.commit + 1 - data.length) data).bufFit v)).nativePorts init v
    let i := t.selected v
    t.stageBuf v.win i (t.bufValid v) (t.slotFor v.win i (t.bufValid v))

end Sys2Proof.Machine
end

