-- ==== Sys2Proof/Machine/SelOps.lean ====
section
/-! DEFINITION. Which register a byte of a window belongs to (R4, R36, R37): the fields of its card, the entry that a select register
names for it, and the view it is part of. -/

namespace Sys2Proof.Machine

def clsOf (w : Nat) : Cls := match unitOf w with
  | some u => u.cls
  | none => .plain

def instOf (w : Nat) : Nat := match unitOf w with
  | some u => u.inst
  | none => 0

/-! ## Select registers -/

/-- The entry under which the registers at an offset are kept: what the window's select register names, 0 for a register without
one. -/
def State.selOf (s : State) (w ofs : Nat) : Nat :=
  if w = wFabric ∧ inRange 0x181 0x197 ofs then s.rd w FAB_FRER_SEL.IDX
  else if w = wStockpile ∧ inRange 0x145 0x148 ofs then s.rd w STK_RSV_SEL.PORT
  else if w = wSieve then
    (if inRange 0x1C1 0x1C4 ofs ∨ inRange 0x204 0x20F ofs then s.rd w STRM_SEL.STRM
      else if inRange 0x200 0x203 ofs then s.rd w SIEVE_SEL.RULE else 0)
  else if w = wCanf ∧ inRange 0x200 0x203 ofs then s.rd w CANF_SEL.FILTER
  else if w = wWeigh ∧ (inRange 0x160 0x165 ofs ∨ inRange 0x200 0x20B ofs) then s.rd w WB_SEL.POL
  else if w = wAuth ∧ inRange 0x160 0x168 ofs then s.rd w AUTH_SEL.CTX
  else if w = wMacsec then
    (if inRange 0x210 0x213 ofs then s.rd w MSEC_SC.PORT (s.rd w MSEC_SC_SEL.SC)
      else if inRange 0x170 0x17D ofs ∨ inRange 0x200 0x21B ofs then s.rd w MSEC_SC_SEL.SC
      else if inRange 0x188 0x1AF ofs then 2 * s.rd w MSEC_SC_SEL.SC + s.rd w MSEC_SA_SEL.SA else 0)
  else if w = wSignal ∧ inRange 0x160 0x168 ofs then s.rd w SIG_SEL.INDEX
  else if w = wKS ∧ inRange 0x144 0x14B ofs ∧ ofs ≠ 0x14A then s.rd w KS_SEL.SLOT
  else if w = wEvp ∧ inRange 0x144 0x169 ofs then s.rd w EVP_SEL.EVENT
  else if w = wWake ∧ inRange 0x608 0x62F ofs then s.rd w WK_NM_SEL.PORT
  else if w = wDerrick ∧ (inRange 0x149 0x157 ofs ∨ inRange 0x1A0 0x1AF ofs) then s.rd w DRK_PSEL.PEER
  else if w = wDerrick ∧ inRange 0x164 0x16A ofs then s.rd w DRK_MSEL.IDX
  else 0

/-- The view whose entry a byte belongs to. -/
def viewAt (w ofs : Nat) : Option ViewTab :=
  allViews.find? fun v => v.win == w && (viewFields w v.base).any fun f => (f.spans ofs).isSome

/-- The view whose select register a byte belongs to. -/
def viewOfSel (w ofs : Nat) : Option ViewTab := allViews.find? fun v => v.win == w && inRange v.sel.ofs (v.sel.ofs + v.sel.len - 1) ofs

/-! ## Storing a byte -/

/-- A byte goes into the RW fields that have bits in it, as it is. -/
def State.rawByte (s : State) (w ofs v : Nat) : State :=
  s.each ((fieldsIn w ofs).filter fun f => f.acc == .rw) fun s f =>
    let i := s.selOf w ofs
    s.wr w f (f.putByte (s.rd w f i) ofs v) i

/-- The fields of a register take the values their ranges store (R18). -/
def State.fitReg (s : State) (w ofs : Nat) : State :=
  s.each ((regFields w ofs).filter fun f => f.acc == .rw) fun s f =>
    let i := s.selOf w ofs
    s.wr w f (f.fit.apply (s.rd w f i)) i

/-! ## A register as a whole -/

/-- The RW fields of the register at an offset. -/
def rwFields (w o : Nat) : List Field := (regFields w o).filter fun f => f.acc == .rw

/-- DEST as L2_DATA stores it. -/
def l2Dest (dlist : Bool) (d : Nat) : Nat :=
  if dlist then d % 32768 else if d < 0x10 || (0x40 ≤ d && d < 0x50) then d else 0

/-- What a card stores where one field's range depends on another field, or on the window's number: TJ_DER is at least TJ_STAG, LS exists on
CH36 to CH71 and LIMP_EN on CH12 to CH71 only, OC_THR is at most the class inrush, an L2 DEST is a port code or a list index, only a LIN network has
a WTAB. -/
def wholeFit (w o v : Nat) : Nat :=
  let n := instOf w
  match clsOf w with
  | .therm => if o = 0x140 then putBits v 15 8 (max (THERM_CFG.TJ_STAG.fit.apply (bits v 23 16)) (bits v 15 8)) else v
  | .channel =>
    if (o = 0x140 ∧ n < 36) ∨ (o = 0x141 ∧ isHalf n) then v % 128 else if o = 0x14A then min v (chInrush n) else v
  | .l2 => if o = 0x15C then putBits v 15 0 (l2Dest (bit v 24) (v % 65536)) else v
  | .wake => if 0x400 ≤ o ∧ o < 0x480 then putBits v 30 28 0 else v
  | _ => v

/-- The register's RW fields take a value (R18, R496). -/
def State.storeReg (s : State) (w o v : Nat) : State := s.wrWide w (rwFields w o) (wholeFit w o v) (s.selOf w o)

/-- The write changes a field (R494). -/
def State.changes (s : State) (w o v : Nat) : Bool :=
  (rwFields w o).any fun f => f.fit.apply (bits (wholeFit w o v) f.hi f.lo) != s.rd w f (s.selOf w o)

/-- The write changes this field. -/
def State.changesF (s : State) (w : Nat) (f : Field) (v : Nat) : Bool :=
  f.fit.apply (bits (wholeFit w f.ofs v) f.hi f.lo) != s.rd w f (s.selOf w f.ofs)

end Sys2Proof.Machine
end

