-- ==== Sys2Proof/Machine/Wake.lean ====
section
/-! DEFINITION. The commands and events of network sleep and wake (15_network_sleep_wake.md). -/

namespace Sys2Proof.Machine

/-- A detector serves the network in the present power state (R361, R367, R372, R375): of a network in ASLEEP or on its way there, or in PARK,
CAN in STANDBY and armed LIN in SLEEP, and in PARK an armed ETH6 to ETH15. In DEEP_PARK none is powered. -/
def State.detects (s : State) (n : Nat) : Bool :=
  if s.pwr.state == .deepPark || s.pwr.state == .backup || s.pwr.state == .off ||
      !(s.parked || s.netState n == nsAsleep || s.netState n == nsSwitch) then false
  else if isCanNet n then
    s.rd (wCanT (n - 16)) CANT_MODE.MODE == 2 && s.rd (wCanT (n - 16)) CANT_ARM.ARM != 0
  else if isLinNet n then
    s.rd (wLinT (n - 32)) LINT_CTRL.MODE == 2 && bit (s.rd wWake WK_ARM_LIN.LIN) (n - 32)
  else s.pwr.state == .park && 6 ≤ n && bit (s.rd wWake WK_ARM_ETH.ETH) (n - 6)

/-- R361, R368, R372: a wake on the network's line. -/
def netDetected (n : Nat) (s : State) : State :=
  if s.detects n then
    let s := if isCanNet n then s.count (wCanT (n - 16)) CANT_WUF_WAKES.WUF_WAKES else s
    s.sourceEvent n []
  else s

def execNetworkWakeDetected (n : Fin 44) (s : State) : Result := .next (netDetected n (fresh s))

/-- The wake-up frame matches (R372). -/
def State.wufMatches (s : State) (p : Nat) (f : WufFrame) : Bool :=
  let w := wCanT p
  let mask := s.rd w CANT_WUF_MASK.MASK
  let m := s.rd w CANT_WUF_DATA.DATA
  b2n f.ide == s.rd w CANT_WUF_ID.IDE && (f.id.toNat &&& mask) == (s.rd w CANT_WUF_ID.ID &&& mask) &&
    (!s.on w CANT_ARM.DLC_EN || f.dlc.val == s.rd w CANT_ARM.DLC) && (m == 0 || (f.data.toNat &&& m) != 0)

/-- R372: ARM 2 decodes one frame: FEC, the match, the wake. -/
def wufDecoded (p : Nat) (f : WufFrame) (s : State) : State :=
  let w := wCanT p
  if !s.detects (netOfCan p) || s.rd w CANT_ARM.ARM != 2 || (!f.classical && s.on w CANT_ARM.FD_PASSIVE) then s
  else if f.ok && f.classical then
    let s := s.wr w CANT_FEC.FEC (s.rd w CANT_FEC.FEC - 1)
    if s.wufMatches p f then netDetected (netOfCan p) s else s
  else
    let s := s.wr w CANT_FEC.FEC (satInc (s.rd w CANT_FEC.FEC) 5)
    if max 1 (s.rd w CANT_FEC_THR.FEC_THR) < s.rd w CANT_FEC.FEC then netDetected (netOfCan p) s else s

def execCantWufFrameDecoded (p : Fin 16) (f : WufFrame) (s : State) : Result := .next (wufDecoded p f (fresh s))

/-- R373: a wake on the pin; while the module drives it, and for 1 ms after, none is recognised. -/
def wakeIo (s : State) : State :=
  let quiet := match s.wake.wioEnd with
    | some t => decide (s.clk * clkNs < t * clkNs + 1000000)
    | none => false
  if s.wioDriven || quiet || s.pwr.state == .backup || s.pwr.state == .off then s else s.sourceEvent 44 []

def execWakeIoWake (s : State) : Result := .next (wakeIo (fresh s))

/-- R373: the pulse ends. -/
def wioPulseEnd (s : State) : State :=
  (s.setWake { s.wake with wioPulse := false }).wioSync

def execWakeIoPulseEnd (s : State) : Result := .next (wioPulseEnd (fresh s))

/-- R374: the timer runs in PARK and DEEP_PARK only; 0 is no timer wake. -/
def wkTimer (s : State) : State :=
  if s.parked && s.rd wWake WK_TIMER.TIMER != 0 then s.sourceEvent 46 [] else s

def execWkTimerExpiry (s : State) : Result := .next (wkTimer (fresh s))

/-- R360, R361: a write of WK_PNC_LOCAL; a bit it sets is an event of source 47. -/
def pncLocal (v : Nat) (s : State) : State :=
  let old := s.rd wWake WK_PNC_LOCAL.LOCAL
  let s := s.wr wWake WK_PNC_LOCAL.LOCAL v
  if v &&& old == v then s.evalNets.parkCheck else (s.clearPark.sourceEvent 47 []).evalNets

def execPncLocalWrite (init : Initiator) (v : BitVec 24) (s : State) : Result :=
  .next ((fresh s).cmdWrite init.code wWake 0x156 (v.toNat % 256) [] (pncLocal v.toNat))

/-- R360: a hold ends, and with it, perhaps, its request. -/
def holdEnds (h : HoldOf) (s : State) : State :=
  (match h with
    | .pnc p => s.setWake { s.wake with pncHold := dropFrom s.wake.pncHold p }
    | .net n => s.setWake { s.wake with netHold := dropFrom s.wake.netHold n }).evalNets.parkCheck

def execPncHoldExpiry (h : HoldOf) (s : State) : Result := .next (holdEnds h (fresh s))

/-- R363, R369: DELAY in READY ends. -/
def readyDelay (n : Nat) (s : State) : State :=
  if s.wake.delay.contains n ∧ s.netState n = nsReady then s.netSleep n else s

def execNetReadyDelayExpiry (n : Fin 44) (s : State) : Result := .next (readyDelay n (fresh s))

/-- R367: the switch completes; a latched request takes the network out of ASLEEP in the same step. A LIN network has sent its
go-to-sleep command before (R370). -/
def switchDone (n : Nat) (s : State) : State :=
  if s.netState n ≠ nsSwitch ∨ (isLinNet n ∧ look s.lin.sleepDue (n - 32) false) then s
  else
    let late := s.wake.late.contains n
    let s := s.setWake { s.wake with late := dropFrom s.wake.late n }
    let s := (s.setNet n nsAsleep).event wWake 1
    if late then s.netWake n else s

def execTrxSwitchComplete (n : Fin 44) (s : State) : Result := .next (switchDone n (fresh s))

/-! ## The ring (R365) -/

/-- Starts the ring of a port whose controller is not OFF. -/
def ringStart (p : Nat) (s : State) : State :=
  if s.canState p = canOff ∨ s.wake.ring.contains p then s
  else
    let s := s.setWake { s.wake with ring := addTo s.wake.ring p, delay := dropFrom s.wake.delay (netOfCan p) }
    let s := (s.wr wWake WK_NM_PRESENT.PRESENT 0 p).setNet (netOfCan p) nsAwake
    (s.sendAlive p).evalNet (netOfCan p)

/-- Stops the ring: the network follows R363. -/
def ringStop (p : Nat) (s : State) : State :=
  if !s.wake.ring.contains p then s
  else
    let s := s.setWake { s.wake with
      ring := dropFrom s.wake.ring p, tTyp := dropFrom s.wake.tTyp p, ackDue := dropFrom s.wake.ackDue p,
      limpInd := dropFrom s.wake.limpInd p, alive := dropFrom s.wake.alive p, sleepInd := erase s.wake.sleepInd p }
    let st := s.netState (netOfCan p)
    if st = nsWait ∨ st = nsLimp ∨ st = nsReady then (s.setNet (netOfCan p) nsAwake).evalNet (netOfCan p) else s

def nmFields : List Field :=
  [WK_NM_CFG.NM_EN, WK_NM_CFG.NODE, WK_NM_CFG.NM_BASE, WK_NM_CFG.T_TYP, WK_NM_CFG.T_MAX, WK_NM_CFG.T_ERR, WK_NM_CFG.T_WBS]

/-- A write of WK_NM_CFG for the selected port: NM_BASE bits [5:0] store 0; NM_EN starts or stops the ring. -/
def nmWrite (v : Nat) (s : State) : State :=
  let p := s.rd wWake WK_NM_SEL.PORT
  let was := s.nm p WK_NM_CFG.NM_EN
  let s := s.wrWide wWake nmFields v p
  let s := s.wr wWake WK_NM_CFG.NM_BASE (s.nm p WK_NM_CFG.NM_BASE / 64 * 64) p
  if s.nm p WK_NM_CFG.NM_EN = 0 then ringStop p s else if was = 0 ∨ !s.wake.ring.contains p then ringStart p s else s

def execNmEnable (init : Initiator) (v : BitVec 64) (s : State) : Result :=
  .next ((fresh s).cmdWrite init.code wWake 0x60F (v.toNat % 256) (whenK (s.isSafe wWake && s.changes wWake 0x608 v.toNat) .state)
    (nmWrite v.toNat))

/-- T_WBS has elapsed: queued copies end, the controller and transceiver go to sleep. -/
def ringSleep (p : Nat) (s : State) : State :=
  let s := s.setWake { s.wake with tTyp := dropFrom s.wake.tTyp p, limpInd := dropFrom s.wake.limpInd p,
                                   alive := dropFrom s.wake.alive p }
  (s.canDropCopies p 0x5C).netSleep (netOfCan p)

/-- The agreement: WAIT_SLEEP; with T_WBS 0 the switch comes at once. -/
def ringAgree (p : Nat) (s : State) : State :=
  let s := s.setWake { s.wake with tTyp := dropFrom s.wake.tTyp p, ackDue := dropFrom s.wake.ackDue p }
  let s := s.setNet (netOfCan p) nsWait
  if s.nm p WK_NM_CFG.T_WBS = 0 then ringSleep p s else s

/-- Every other present node has sent SLEEP_IND 1 since the module's previous ring message. -/
def State.allIndicated (s : State) (p : Nat) : Bool :=
  let others := clrBit (s.nm p WK_NM_PRESENT.PRESENT) (s.nm p WK_NM_CFG.NODE)
  others &&& look s.wake.sleepInd p 0 == others

/-- What a ring message changes before its requests: presence, indications, T_TYP. -/
def nmNote (p : Nat) (m : NmMsg) (s : State) : State :=
  let s := (s.count wWake NM_RX.COUNT p).wr wWake WK_NM_PRESENT.PRESENT (setBit (s.nm p WK_NM_PRESENT.PRESENT) m.sender) p
  let ind := if m.sleepInd then setBit (look s.wake.sleepInd p 0) m.sender else look s.wake.sleepInd p 0
  s.setWake { s.wake with
    sleepInd := store s.wake.sleepInd p ind 0,
    limpInd := if m.sleepInd then s.wake.limpInd else dropFrom s.wake.limpInd p,
    tTyp := if m.ring ∧ m.dest.val = s.nm p WK_NM_CFG.NODE then addTo s.wake.tTyp p else s.wake.tTyp }

/-- R361, R364 to R366: a ring message from another node. -/
def nmReceived (p : Nat) (m : NmMsg) (s : State) : State :=
  if !s.wake.ring.contains p || !s.hears p then s
  else
    let n := netOfCan p
    let s := nmNote p m s
    let s := if s.netState n = nsWait then s.netFrame n
      else if m.sleepInd = false ∧ m.sender.val ≠ s.nm p WK_NM_CFG.NODE ∧ (s.netState n = nsAwake ∨ s.netState n = nsReady ∨ s.netState n = nsLimp) then
        s.sourceEvent n []
      else s
    let s := if m.pnc.toNat = 0 then s else s.request m.pnc.toNat []
    let s := if s.netState n = nsLimp then (s.setNet n nsAwake).evalNet n else s
    if m.sleepAck then
      if s.netState n = nsReady then ringAgree p s else if s.netState n = nsAwake then s.sendAlive p else s
    else if s.netState n = nsReady ∧ m.dest.val = s.nm p WK_NM_CFG.NODE ∧ m.sleepInd ∧ s.allIndicated p then
      s.setWake { s.wake with ackDue := addTo s.wake.ackDue p }
    else s

/-- R365: T_TYP after a ring message addressed to NODE, the module sends its own; with the agreement due it carries SLEEP_ACK. -/
def nmTtyp (p : Nat) (s : State) : State :=
  let n := netOfCan p
  let st := s.netState n
  if !s.wake.tTyp.contains p || !s.canTalks p || !(st == nsAwake || st == nsReady) then s
  else
    let ack := s.wake.ackDue.contains p && st == nsReady
    let alone := successor (s.nm p WK_NM_PRESENT.PRESENT) (s.nm p WK_NM_CFG.NODE) == s.nm p WK_NM_CFG.NODE
    let s := s.setWake { s.wake with tTyp := if alone then s.wake.tTyp else dropFrom s.wake.tTyp p,
                                     ackDue := dropFrom s.wake.ackDue p }
    let s := s.sendNm p (nmRing + s.indFlag p + if ack then nmAck else 0)
    if ack then ringAgree p s else s

def execNmTtypExpiry (p : Fin 16) (s : State) : Result := .next (nmTtyp p (fresh s))

/-- R365: T_MAX without any ring message. -/
def nmTmax (p : Nat) (s : State) : State :=
  let st := s.netState (netOfCan p)
  if s.wake.ring.contains p && (st == nsAwake || st == nsReady) then
    let s := s.setWake { s.wake with tTyp := dropFrom s.wake.tTyp p, ackDue := dropFrom s.wake.ackDue p,
                                     limpInd := dropFrom s.wake.limpInd p }
    (((s.setNet (netOfCan p) nsLimp).sticky wWake WK_STAT.LIMP).count wWake NM_LIMPS.COUNT p).event wWake 3
  else s

def execNmTmaxTimeout (p : Fin 16) (s : State) : Result := .next (nmTmax p (fresh s))

/-- R365: in LIMP a LIMPHOME message every T_ERR; SLEEP_IND 1 while the network is not requested. -/
def nmTerr (p : Nat) (s : State) : State :=
  if s.wake.ring.contains p && s.netState (netOfCan p) == nsLimp && s.canTalks p then
    let ind := !s.netWanted (netOfCan p)
    let s := s.sendNm p (nmLimp + if ind then nmInd else 0)
    s.setWake { s.wake with limpInd := if ind then addTo s.wake.limpInd p else dropFrom s.wake.limpInd p }
  else s

def execNmTerrTimer (p : Fin 16) (s : State) : Result := .next (nmTerr p (fresh s))

/-- R365: T_WBS elapses in WAIT_SLEEP, or in LIMP after LIMPHOME with SLEEP_IND 1 and no message with SLEEP_IND 0. -/
def nmTwbs (p : Nat) (s : State) : State :=
  let st := s.netState (netOfCan p)
  if s.wake.ring.contains p &&
      (st == nsWait || (st == nsLimp && s.wake.limpInd.contains p && !s.netWanted (netOfCan p))) then ringSleep p s
  else s

def execNmTwbsExpiry (p : Fin 16) (s : State) : Result := .next (nmTwbs p (fresh s))

/-- R370: 100 ms after the wake-up signal the runner enters IDLE and starts WTAB, as a GO would. -/
def linRestart (p : Nat) (s : State) : State :=
  if s.wake.linWake.contains p then
    let s := s.setWake { s.wake with linWake := dropFrom s.wake.linWake p }
    if s.linState p = linSleep then (s.setLinState p linIdle).linStart p (s.rd wWake (WK_NET.WTAB.elem (netOfLin p))) else s
  else s

def execLinWakeRestart (p : Fin 12) (s : State) : Result := .next (linRestart p (fresh s))

end Sys2Proof.Machine
end

