-- ==== Sys2Proof/Machine/Can.lean ====
section
/-! DEFINITION. The commands and events of the CAN controllers and their transceivers (08_can_lin_ports.md). -/

namespace Sys2Proof.Machine

/-! ## On and off -/

/-- The fields of CAN_CFG for a written byte: no XL on CAN0 to CAN7, FAST only with XL_EN, ERRSIG 0 while FAST is 1. -/
def canCfgFit (p v : Nat) : Nat :=
  let xl := bit v 5 && decide (8 ≤ p)
  let fast := bit v 4 && xl
  bits v 7 6 * 64 + b2n xl * 32 + b2n fast * 16 + b2n (bit v 3 && !fast) * 8 + bits v 2 0

/-- A bit time in quanta. -/
def quanta (tseg1 tseg2 : Nat) : Nat := 1 + tseg1 + tseg2

/-- R207: the checks of EN from 0 to 1, on the values of a written CAN_CFG. -/
def State.canTimingOk (s : State) (p v : Nat) : Bool :=
  let w := wCan p
  let xq := quanta (s.rd w CAN_XBT.TSEG1) (s.rd w CAN_XBT.TSEG2)
  80 ≤ s.rd w CAN_NBT.BRP * quanta (s.rd w CAN_NBT.TSEG1) (s.rd w CAN_NBT.TSEG2) &&
  (!bit v 6 || 10 ≤ s.rd w CAN_DBT.BRP * quanta (s.rd w CAN_DBT.TSEG1) (s.rd w CAN_DBT.TSEG2)) &&
  (!bit v 5 || 4 ≤ s.rd w CAN_XBT.BRP * xq) &&
  (!bit v 4 || s.rd w CAN_XPWM.PWMS + s.rd w CAN_XPWM.PWML == xq)

/-- CAN_CFG as it stands. -/
def State.canCfgByte (s : State) (p : Nat) : Nat :=
  let r := s.rd (wCan p)
  r CAN_CFG.EN * 128 + r CAN_CFG.FD_EN * 64 + r CAN_CFG.XL_EN * 32 + r CAN_CFG.FAST * 16 + r CAN_CFG.ERRSIG * 8 +
    r CAN_CFG.LISTEN_ONLY * 4 + r CAN_CFG.DAR * 2 + r CAN_CFG.PXHD

/-- R207, R209, R227: what a write of CAN_CFG is refused for. -/
def State.canCfgKinds (s : State) (p v : Nat) : List Kind :=
  let w := canCfgFit p v
  whenK (s.isSafe (wCan p) && w != s.canCfgByte p) .state ++
  whenK (b2n (bit w 2) != s.rd (wCan p) CAN_CFG.LISTEN_ONLY && s.canState p != canOff) .state ++
  whenK (bit w 7 && !s.on (wCan p) CAN_CFG.EN && !s.canTimingOk p w) .state

/-- The rows on EN of the state table. -/
def State.canFollowEn (s : State) (p : Nat) : State :=
  if s.on (wCan p) CAN_CFG.EN then
    if s.canState p = canOff then
      ((s.setCanState p canIntegrate).wr (wCan p) CAN_ERRCNT.TEC 0).wr (wCan p) CAN_ERRCNT.REC 0
    else s
  else if s.canState p = canOff then s
  else
    let s := (s.setCanState p canOff).canDropAll p 0x56
    s.setCan { s.can with fastOn := erase s.can.fastOn p }

def canCfgFields : List Field :=
  [CAN_CFG.EN, CAN_CFG.FD_EN, CAN_CFG.XL_EN, CAN_CFG.FAST, CAN_CFG.ERRSIG, CAN_CFG.LISTEN_ONLY, CAN_CFG.DAR, CAN_CFG.PXHD]

/-- A write of CAN_CFG takes effect. -/
def canCfgWrite (p v : Nat) (s : State) : State := (s.wrWide (wCan p) canCfgFields (canCfgFit p v)).canFollowEn p

def canCfgCmd (init p v : Nat) (s : State) : State := s.cmdWrite init (wCan p) 0x170 v (s.canCfgKinds p v) (canCfgWrite p v)

/-- R207: CAN_CFG written with EN 1; `low` are the other bits. -/
def execCanEnable (init : Initiator) (p : Fin 16) (low : Fin 128) (s : State) : Result :=
  .next (canCfgCmd init.code p (128 + low) (fresh s))

/-- R226: CAN_CFG written with EN 0. -/
def execCanDisable (init : Initiator) (p : Fin 16) (low : Fin 128) (s : State) : Result :=
  .next (canCfgCmd init.code p low (fresh s))

/-- An ALIVE message that waited for the controller is sent (R365). -/
def State.canOnline (s : State) (p : Nat) : State :=
  if s.canTalks p && s.wake.alive.contains p then s.sendAlive p else s

/-- The state table: 11 consecutive recessive bits in INTEGRATE. -/
def canIntegrated (p : Nat) (s : State) : State :=
  if s.canState p ≠ canIntegrate then s
  else if s.on (wCan p) CAN_CFG.LISTEN_ONLY then (s.setCanState p canListen).event (wCan p) 4
  else (((s.setCanState p canActive).event (wCan p) 4).canConfine p (s.tec p) (s.rec' p)).canOnline p

def execCanIntegrateDone (p : Fin 16) (s : State) : Result := .next (canIntegrated p (fresh s))

/-! ## Reception -/

/-- The frame's header as the Stockpile keeps it. -/
def rxHdr (f : CanRx) : CanHdr :=
  { fmt := f.fmt, dlc := f.dlc, ide := f.ide && f.fmt != 2, id := if f.ide && f.fmt != 2 then f.id.toNat else f.id.toNat % 2048,
    rtr := f.rtr && f.fmt == 0, brs := f.brs && f.fmt == 1, esi := f.esi && f.fmt == 1, sdt := if f.fmt = 2 then f.sdt.toNat else 0,
    vcid := if f.fmt = 2 then f.vcid.toNat else 0, sec := f.sec && f.fmt == 2, af := if f.fmt = 2 then f.af.toNat else 0 }

def rxBytes (f : CanRx) : List Nat := if (rxHdr f).rtr then [] else f.data.map (·.toNat)

/-- A frame of ISO 11898-1 of its format: its length is one the format has (R204). -/
def rxLegal (f : CanRx) : Bool :=
  if f.fmt = 0 then (rxBytes f).length ≤ 8 else if f.fmt = 1 then fdLens.contains (rxBytes f).length
  else 1 ≤ (rxBytes f).length ∧ (rxBytes f).length ≤ 2048

/-- The controller takes part in receptions (R209, R219) and receives the frame's format. -/
def State.canReceives (s : State) (p : Nat) (f : CanRx) : Bool :=
  s.hears p && (s.canSending p).isNone && s.rd (wCanT p) CANT_MODE.MODE ≤ 1 && rxLegal f &&
    (f.fmt == 0 || (f.fmt == 1 && s.on (wCan p) CAN_CFG.FD_EN) || (f.fmt == 2 && s.on (wCan p) CAN_CFG.XL_EN))

/-- The ring message that a received frame is, on a port whose ring runs (R364). -/
def State.ringMsg (s : State) (p : Nat) (f : CanRx) : Option NmMsg :=
  let h := rxHdr f
  let d := rxBytes f
  let flag := fun k => bit (d.getD 1 0) k
  if s.wake.ring.contains p && h.fmt == 0 && !h.ide && !h.rtr && d.length == 8 && h.id / 64 * 64 == s.nm p WK_NM_CFG.NM_BASE then
    some { sender := Fin.ofNat 64 h.id, dest := Fin.ofNat 64 (d.getD 0 0), ring := flag 0, alive := flag 1, limpHome := flag 2,
           sleepInd := flag 4, sleepAck := flag 5, pnc := BitVec.ofNat 24 (beAt d 2 3) }
  else none

/-- A ring message reaches the wake logic, past the identifier filter: it is no item (R364). -/
def ringReceived (p : Nat) (m : NmMsg) (s : State) : State :=
  if !s.wake.ring.contains p || !s.hears p || 1 < s.rd (wCanT p) CANT_MODE.MODE then s else nmReceived p m (s.canReceivedOk p)

def execNmMessageReceived (p : Fin 16) (m : NmMsg) (s : State) : Result := .next (ringReceived p m (fresh s))

/-- R205, R214: the item enters the Stockpile and stage 2, and is stored in at most one place. An item that admission drops is stored as
well, but for a long XL frame, which then has no handle to refer to (R215). -/
def canReceived (p : Nat) (f : CanRx) (s : State) : State :=
  if !s.canReceives p f then s
  else match s.ringMsg p f with
  | some m => ringReceived p m s
  | none =>
    let s := (s.netFrame (netOfCan p)).canReceivedOk p
    let s := s.count (wCan p) CAN_RX_OK.COUNT
    let fid := s.fab.nextFid
    let t := s.ax0.sec * 1000000000 + s.ax0.ns - f.age.toNat
    let s := s.arrive (0x10 + p) (canCells (rxHdr f) (rxBytes f).length) (rxBytes f) (some (rxHdr f)) none f.age.toNat
    if (s.frame fid).isNone ∧ f.fmt = 2 ∧ 64 < (rxBytes f).length then s
    else s.canStore p fid (rxHdr f) (rxBytes f) (t % 1000000000)

def execCanFrameReceived (p : Fin 16) (f : CanRx) (s : State) : Result := .next (canReceived p f (fresh s))

/-- R210: a recessive res bit, or a recessive FDF or XLF bit of a disabled format. -/
def canPxe (p : Nat) (b : PxBit) (s : State) : State :=
  let w := wCan p
  let applies := match b with
    | .res => true
    | .fdf => !s.on w CAN_CFG.FD_EN
    | .xlf => !s.on w CAN_CFG.XL_EN
  if !applies || !s.hears p then s
  else if !s.on w CAN_CFG.PXHD then
    let s := (s.sticky w CAN_STAT.PXE).count w CAN_PXE.COUNT
    if s.canState p = canListen then s
    else (match s.canSending p with
      | some x => s.canTryFailed p x
      | none => s).setCanState p canIntegrate
  else
    let s := s.count w CAN_RX_ERR.COUNT
    if s.canState p = canListen then s else s.canConfine p (s.tec p) (s.rec' p + 1)

def execCanProtocolException (p : Fin 16) (b : PxBit) (s : State) : Result := .next (canPxe p b (fresh s))

/-! ## Transmission -/

/-- The transmitter drives the bus: the transceiver is in NORMAL, and no fault has switched it off (R219, R220). -/
def State.canDrives (s : State) (p : Nat) : Bool := s.rd (wCanT p) CANT_MODE.MODE == 0 && look s.can.fault p 0 == 0

/-- An error in the transmission of a frame, with what ISO 11898-1 adds to TEC. -/
def State.canTxError (s : State) (p : Nat) (x : CanCand) (inc : Nat) : State :=
  ((s.count (wCan p) CAN_TX_ERR.COUNT).canTryFailed p x).canConfine p (s.tec p + inc) (s.rec' p)

/-- R212, R213, R219: an arbitration opportunity, and whether the frame offered wins. A frame that the transmitter does not drive fails as a bit
error (R220). In an XL frame with FAST 1 the transceiver goes to FAST transmit. -/
def canArbitrate (p : Nat) (won : Bool) (s : State) : State :=
  if !s.canTalks p || (s.canSending p).isSome then s
  else
    let r := s.canOffer p (64 + 128)
    match r.2 with
    | none => r.1
    | some x =>
      if !r.1.canDrives p then r.1.canTxError p x 8
      else if won then
        let s := r.1.setCanSending p (some x)
        let xl := match s.candHdr p x with
          | some h => h.fmt == fmtXl
          | none => false
        if xl && s.on (wCan p) CAN_CFG.FAST then s.setCan { s.can with fastOn := store s.can.fastOn p true false } else s
      else (r.1.count (wCan p) CAN_ARB_LOST.COUNT).canTryFailed p x

def execCanArbitration (p : Fin 16) (won : Bool) (s : State) : Result := .next (canArbitrate p won (fresh s))

/-- R213, R217: the frame in transmission reaches the end of its end-of-frame field; one whose transmitter was switched off on the way has failed
as a bit error (R220). -/
def canSent (p : Nat) (s : State) : State :=
  match s.canSending p with
  | none => s
  | some x =>
    if !s.canDrives p then s.canTxError p x 8 else
    let s := match s.candHdr p x with
      | some h => s.emit (.canFrame p h (s.candData p x))
      | none => s
    let s := s.setCan { s.can with sending := erase s.can.sending p, fastOn := erase s.can.fastOn p }
    let s := (s.count (wCan p) CAN_TX_OK.COUNT).canSentOk p
    match x with
    | .copy cid => match (s.txq p).find? (·.cid == cid) with
        | some c => (s.setTxq p ((s.txq p).filter (·.cid != cid))).endCopy (wCan p) c .delivered 0
        | none => s
    | .obj k => s.objEnd p k .delivered 0

def execCanFrameSent (p : Fin 16) (s : State) : Result := .next (canSent p (fresh s))

def incVal : CanInc → Nat
  | .zero => 0
  | .one => 1
  | .eight => 8

/-- R205, R210, R213: an error in transmission or reception, with what ISO 11898-1 adds to its counter. -/
def canError (p : Nat) (transmitting : Bool) (inc : CanInc) (s : State) : State :=
  let w := wCan p
  if transmitting then
    match s.canSending p with
    | none => s
    | some x => s.canTxError p x (incVal inc)
  else if !s.hears p then s
  else
    let s := s.count w CAN_RX_ERR.COUNT
    if s.canState p = canListen then s else s.canConfine p (s.tec p) (s.rec' p + incVal inc)

def execCanBusError (p : Fin 16) (transmitting : Bool) (inc : CanInc) (s : State) : Result :=
  .next (canError p transmitting inc (fresh s))

/-- R210: BO_DELAY has elapsed. -/
def boDelayEnd (p : Nat) (s : State) : State :=
  if s.canState p = canBusOff ∧ s.on (wCan p) CAN_BO_CFG.BO_AUTO then s.canToRecover p else s

def execCanBusoffDelay (p : Fin 16) (s : State) : Result := .next (boDelayEnd p (fresh s))

/-- R210: RECOVER; outside BUSOFF refused with kind STATE. -/
def execCanRecoverCmd (init : Initiator) (p : Fin 16) (s : State) : Result :=
  .next ((fresh s).cmdField init.code (wCan p) CAN_CTRL.RECOVER (whenK (s.canState p != canBusOff) .state) fun s =>
    s.canToRecover p)

/-- The state table: the 128th sequence in RECOVER. -/
def canRecovered (p : Nat) (s : State) : State :=
  if s.canState p ≠ canRecover then s
  else
    let s := ((s.setCanState p canActive).wr (wCan p) CAN_ERRCNT.TEC 0).wr (wCan p) CAN_ERRCNT.REC 0
    (s.event (wCan p) 4).canOnline p

def execCanBusoffRecovered (p : Fin 16) (s : State) : Result := .next (canRecovered p (fresh s))

/-! ## Message objects -/

def State.objSel (s : State) (p : Nat) : Nat := s.rd (wCan p) CAN_OBJ_SEL.OBJ

/-- R216: TAKE. -/
def objTake (p : Nat) (s : State) : State :=
  let k := s.objSel p
  ((s.objToView p k).setObj p k CAN_OBJ_VIEW.NEWDAT 0).setObj p k CAN_OBJ_VIEW.MSGLST 0

def execCanObjTake (init : Initiator) (p : Fin 16) (s : State) : Result :=
  .next ((fresh s).cmdField init.code (wCan p) CAN_OBJ_CMD.TAKE [] (objTake p))

/-- R217, R227: STORE on an object whose TXRQ is 1, on a FIFO element, or in the safe state is refused. -/
def State.storeRefusedFor (s : State) (p k : Nat) : Bool :=
  s.obj p k CAN_OBJ_VIEW.TXRQ == 1 || s.obj p k CAN_OBJ_VIEW.TYPE == 3 || s.isSafe (wCan p)

def State.storeRefused (s : State) (p : Nat) : Bool := s.storeRefusedFor p (s.objSel p)

def execCanObjStore (init : Initiator) (p : Fin 16) (s : State) : Result :=
  .next ((fresh s).cmdField init.code (wCan p) CAN_OBJ_CMD.STORE (whenK (s.storeRefused p) .state) fun s =>
    s.viewToObj p (s.objSel p))

/-- The frame of a send object that cannot be sent (R217). -/
def State.objUnfit (s : State) (p k : Nat) : Bool :=
  let h := s.objHdr p k
  let n := s.obj p k CAN_OBJ_VIEW.LEN
  64 < n || s.obj p k CAN_OBJ_VIEW.FMT == fmtAny || !s.canCarries p h (if h.rtr then 0 else n)

/-- R217: SEND. On an object that is no send object it has no effect. -/
def State.objSendOf (s : State) (p k : Nat) : State :=
  if s.obj p k CAN_OBJ_VIEW.TYPE ≠ 2 then s
  else
    let s := s.setObj p k CAN_OBJ_VIEW.TXRQ 1
    if s.objUnfit p k then s.objEnd p k .dropped 0x52
    else
      let cid := s.fab.nextCid
      let s := s.setFab { s.fab with nextCid := cid + 1 }
      s.setCan { s.can with objSeq := store s.can.objSeq (objKey p k) cid 0, objEnq := store s.can.objEnq (objKey p k) s.clk 0 }

def objSend (p : Nat) (s : State) : State := s.objSendOf p (s.objSel p)

def execCanObjSend (init : Initiator) (p : Fin 16) (s : State) : Result :=
  .next ((fresh s).cmdField init.code (wCan p) CAN_OBJ_CMD.SEND
    (whenK (s.obj p (s.objSel p) CAN_OBJ_VIEW.TXRQ == 1 || s.isSafe (wCan p)) .state) (objSend p))

/-- R217: ABORT on an object whose TXRQ is 1. -/
def objAbort (p : Nat) (s : State) : State :=
  let k := s.objSel p
  if s.obj p k CAN_OBJ_VIEW.TXRQ ≠ 1 then s
  else if s.canSending p = some (.obj k) then
    s.setCan { s.can with abortReq := store s.can.abortReq (objKey p k) true false }
  else s.objEnd p k .dropped 0x55

def execCanObjAbort (init : Initiator) (p : Fin 16) (s : State) : Result :=
  .next ((fresh s).cmdField init.code (wCan p) CAN_OBJ_CMD.ABORT [] (objAbort p))

/-- R218: a read of CAN_FIFOn_POP returns the count before the pop; a read that is not speculative pops the oldest element into the
view. -/
def fifoPop (init p n : Nat) (spec : Bool) (s : State) : State × List Nat :=
  match s.fifo p n with
  | [] => (s, [0])
  | k :: r =>
    if s.specRead init (wCan p) spec then (s.specHit init (wCan p * 4096 + 0x1AC + 16 * n) spec, [r.length + 1])
    else
      let s := ((s.objToView p k).setObj p k CAN_OBJ_VIEW.NEWDAT 0).setObj p k CAN_OBJ_VIEW.MSGLST 0
      ((s.wr (wCan p) CAN_OBJ_SEL.OBJ k).setFifoList p n r, [r.length + 1])

def execCanFifoPop (init : Initiator) (p : Fin 16) (n : Fin 2) (spec : Bool) (s : State) : Result :=
  .next ((fresh s).cmdRead init.code (wCan p) (0x1AC + 16 * n) 1 (fifoPop init.code p n spec))

/-- R218, R227: what a write that changes a FIFO's configuration is refused for (R494). -/
def State.fifoShut (s : State) (p n v : Nat) : Bool :=
  fifoOf v != s.fifoCfg p n && (s.fifoRefused p n (fifoOf v) || s.isSafe (wCan p))

/-- A write that changes nothing has no effect in the safe state. -/
def fifoWrite (p n v : Nat) (s : State) : State := if s.isSafe (wCan p) then s else s.fifoConfigure p n (fifoOf v)

/-- The write of the last byte of a FIFO's configuration. -/
def execCanFifoConfig (init : Initiator) (p : Fin 16) (n : Fin 2) (v : BitVec 96) (s : State) : Result :=
  .next ((fresh s).cmdWrite init.code (wCan p) (0x1AB + 16 * n) (v.toNat % 256)
    (whenK (s.fifoShut p n v.toNat) .state) (fifoWrite p n v.toNat))

/-! ## Transceivers (R220) -/

def faultBit : TrxFault → Nat
  | .txdDom => 0
  | .overtemp => 1
  | .undervoltage => 2

/-- IX is powered (R380). -/
def State.ixOn (s : State) : Bool := s.pwr.state != .backup && s.pwr.state != .off

/-- A fault switches the transmitter off: the sticky bit, and the event when it was on. -/
def cantFault (p : Nat) (f : TrxFault) (st : Field) (s : State) : State :=
  if !s.ixOn then s
  else
    let old := look s.can.fault p 0
    let s := (s.sticky (wCanT p) st).setCan { s.can with fault := store s.can.fault p (setBit old (faultBit f)) 0 }
    if old = 0 then s.event (wCanT p) 0 else s

def execCantTxdDomTimeout (p : Fin 16) (s : State) : Result := .next (cantFault p .txdDom CANT_STAT.TXD_DOM (fresh s))

/-- The transmitter stays on. -/
def cantBusDom (p : Nat) (s : State) : State := if s.ixOn then s.sticky (wCanT p) CANT_STAT.BUS_DOM else s

def execCantBusDomTimeout (p : Fin 16) (s : State) : Result := .next (cantBusDom p (fresh s))

def execCantOvertemp (p : Fin 16) (s : State) : Result := .next (cantFault p .overtemp CANT_STAT.THERM (fresh s))

def execCantUndervoltage (p : Fin 16) (s : State) : Result := .next (cantFault p .undervoltage CANT_STAT.UV (fresh s))

/-- The condition of a fault ends. -/
def cantClear (p : Nat) (f : TrxFault) (s : State) : State :=
  s.setCan { s.can with fault := store s.can.fault p (clrBit (look s.can.fault p 0) (faultBit f)) 0 }

def execCantFaultClear (p : Fin 16) (f : TrxFault) (s : State) : Result := .next (cantClear p f (fresh s))

end Sys2Proof.Machine
end

