-- ==== Sys2Proof/Machine/Channels.lean ====
section
/-! DEFINITION. The commands and events of the load channels, the H-bridges and the thermal governor (13_load_channels.md). -/

namespace Sys2Proof.Machine

/-- R323, R324, R336: a write of ON. The write is ignored on CH0 to CH11. -/
def execChCommand (init : Initiator) (n : Fin 72) (on : Bool) (s : State) : Result :=
  .next ((fresh s).cmdWrite init.code (wCh n) 0x142 (128 * b2n on) [] fun s => s.chCommand n on)

/-- R323: at a period start the written DUTY and PERIOD and the effective phase take effect; a PERIOD of 0 switches off; with DUTY 0 CURRENT reads
0 (R332). A locked channel starts no period but at its lock instants (R313). -/
def periodStart (n : Nat) (s : State) : State :=
  if s.prot n ≠ protOn ∨ !s.lockReady n then s
  else
    let s := s.mapChan n fun c =>
      { c with duty := s.rd (wCh n) CH_DUTY.DUTY, phase := s.phaseEff n, period := s.rd (wCh n) CH_PERIOD.PERIOD, started := some s.clk }
    ((s.when (s.ctrl n != ctrlLimp && (s.chan n).duty == 0) fun s => s.wr (wCh n) CH_CURRENT.CURRENT 0).chOutput n).chEval n

def execChPeriodStart (n : Fin 72) (s : State) : Result := .next (periodStart n (fresh s))

/-- On-time of the present period in units of 1/65,536 microseconds; LIMP runs at 200 Hz (R337). -/
def State.onTime (s : State) (n : Nat) : Nat :=
  s.chDuty n * if s.ctrl n = ctrlLimp then 5000 else (s.chan n).period

/-- R330, R332: one sample of the switch current. A channel whose on-time is shorter than 4 us takes none. -/
def currentSample (n code : Nat) (s : State) : State :=
  if s.prot n ≠ protOn ∨ s.onTime n < 4 * 65536 then s
  else
    let ma := min 65535 (code * chLsb n)
    let s := s.wr (wCh n) CH_CURRENT.CURRENT ma
    let s := if isHalf n ∧ s.hbMode (n / 2) = n % 2 + 1 then
        s.setBody { s.body with hbSample := store s.body.hbSample (n / 2) ma 0 }
      else s
    let th := s.rd (wCh n) CH_OLON.OLON
    if th = 0 then s
    else if ma < th then
      let s := s.mapChan n fun c => { c with low := min 8 (c.low + 1), good := 0 }
      if (s.chan n).low = 8 then s.chResult n 2 else s
    else
      let s := s.mapChan n fun c => { c with good := min 8 (c.good + 1), low := 0 }
      if (s.chan n).good = 8 ∧ s.rd (wCh n) CH_DIAG.RESULT = 2 then s.chResult n 0 else s

def execChCurrentSample (n : Fin 72) (code : Fin 65536) (s : State) : Result :=
  .next ((currentSample n code (fresh s)).unitReports 1 n)

/-- R327: 50 us in current limitation. -/
def execChShortCircuit (n : Fin 72) (s : State) : Result :=
  .next (((fresh s).chFault n CH_STAT.SC).meHalfFault n)

/-- R327: the threshold is the class inrush in the first INRUSH ms after an entry to ON, then OC_THR; OC_THR 0 switches detection off. -/
def State.ocThreshold (s : State) (n : Nat) : Nat :=
  if s.clk * clkNs < (s.chan n).onSince * clkNs + s.rd (wCh n) CH_INRUSH.INRUSH * 1000000 then chInrush n
  else s.rd (wCh n) CH_OC_THR.OC_THR

/-- R327: the current has exceeded the threshold for OC_FILT. -/
def overcurrent (n ma : Nat) (s : State) : State :=
  if s.rd (wCh n) CH_OC_THR.OC_THR = 0 ∨ ma ≤ s.ocThreshold n then s
  else (s.chFault n CH_STAT.OC).meHalfFault n

def execChOvercurrent (n : Fin 72) (ma : Fin 65536) (s : State) : Result := .next (overcurrent n ma (fresh s))

/-- R327, R328: the channel's own sensor reaches 175 °C. -/
def execChThermalTrip (n : Fin 72) (s : State) : Result := .next (((fresh s).chTrip n).meHalfFault n)

/-- R328: the sensor falls below 155 °C. -/
def execChThermalLatchClear (n : Fin 72) (s : State) : Result := .next ((fresh s).chCooled n)

/-- R328: DELAY elapses. -/
def execChRetryDelayElapsed (n : Fin 72) (s : State) : Result := .next ((fresh s).chDelayEnd n)

/-- R328: one second in ON without a fault. -/
def faultFreeSecond (n : Nat) (s : State) : State :=
  if s.prot n = protOn then s.wr (wCh n) CH_RETRY_CNT.COUNT 0 else s

def execChFaultFreeSecond (n : Fin 72) (s : State) : Result := .next (faultFreeSecond n (fresh s))

/-- R328: CLEAR takes LATCHED to OFF with Count 0; no effect in other states. -/
def chClear (n : Nat) (s : State) : State :=
  if s.prot n = protLatched then (s.wr (wCh n) CH_STATE.PROT protOff).wr (wCh n) CH_RETRY_CNT.COUNT 0 else s

def execChClear (init : Initiator) (n : Fin 72) (s : State) : Result :=
  .next ((fresh s).cmdField init.code (wCh n) CH_CMD.CLEAR [] (chClear n))

/-- R329: the test resistor is connected. -/
def offTest (n : Nat) (s : State) : State :=
  if s.chTestable n then s.mapChan (testUnit n) fun c => { c with testing := true } else s

def execChDiagCmd (init : Initiator) (n : Fin 72) (s : State) : Result :=
  .next ((fresh s).cmdField init.code (wCh n) CH_CMD.DIAG [] fun s =>
    if s.chTestable n then offTest n (s.wr (wCh n) CH_CMD.DIAG 1) else s)

def execChOffStateTest (n : Fin 72) (s : State) : Result := .next (offTest n (fresh s))

/-- R329: 200 us later the output voltages, in mV, are compared and the resistor disconnected. A channel that has left OFF gives no
result. -/
def offTestDone (n v1 v2 : Nat) (s : State) : State :=
  if (s.chan (testUnit n)).testing then
    let s := s.testEnd n
    if s.prot n ≠ protOff ∨ (isHalf n && (s.prot (2 * (n / 2)) != protOff || s.prot (2 * (n / 2) + 1) != protOff)) then s
    else
      let r := offResult (isHalf n) (s.on (wCh n) CH_CFG.LS) v1 v2
      if isHalf n then (s.chResult (2 * (n / 2)) r).chResult (2 * (n / 2) + 1) r else s.chResult n r
  else s

def execChOffTestComplete (n : Fin 72) (v1 v2 : Fin 65536) (s : State) : Result :=
  .next (offTestDone n v1 v2 (fresh s))

/-- A write that keeps MODE is none (R494). -/
def State.hbKinds (s : State) (k mode : Nat) : List Kind :=
  whenK (s.on (wHB k) HB_CTRL.ME_OWN && mode != s.rd (wHB k) HB_CTRL.MODE) .state

/-- R326: a register write of MODE; refused while the motion engine owns the bridge. In the safe state the outputs stay FREE. -/
def execHbModeChange (init : Initiator) (k : Fin 6) (mode : Fin 8) (s : State) : Result :=
  .next ((fresh s).cmdWrite init.code (wHB k) 0x140 mode (s.hbKinds k mode)
    fun s => s.hbSetMode k mode)

/-- R326: the dead time ends and the new mode's switches turn on. -/
def deadTimeEnd (k : Nat) (s : State) : State :=
  if look s.body.hbDead k false then s.setSwitches k (s.hbTarget k) false else s

def execHbDeadTimeEnd (k : Fin 6) (s : State) : Result := .next (deadTimeEnd k (fresh s))

/-! ## Thermal governor -/

/-- R333, R334: one die's update with the slug temperature in 0.1 °C. -/
def thermDie (slug : Int) (s : State) (k : Nat) : State :=
  let d := s.die k
  let loss := s.dieLoss k fun _ => false
  let rth := max 1 (s.rd (wPS k) PS_RTH.RTH)
  let tau := max 1 (s.rd (wPS k) PS_TAU.TAU)
  let temp := d.temp + (slug * 100000 + ((loss * rth / 100000000 : Nat) : Int) - d.temp) / (tau : Int)
  let limit := s.allot k * 1000000000
  let stag : Int := s.rd wTherm THERM_CFG.TJ_STAG
  let der : Int := s.rd wTherm THERM_CFG.TJ_DER
  let hyst : Int := max 1 (s.rd wTherm THERM_CFG.HYST)
  let ovr := if limit < loss then min 101 (d.ovr + 1) else 0
  let calm := if 8 * loss ≤ 7 * limit ∧ temp < (stag - hyst) * 1000000 then min 101 (d.calm + 1) else 0
  let s := s.setDie k { temp := temp, loss := loss, ovr := ovr, calm := calm }
  let s := s.wr (wPS k) PS_TJ.TJ (ofSigned (temp / 100000) 16)
  let s := s.wr (wPS k) PS_PLOSS.PLOSS (min 65535 (loss / 1000000000))
  let s := if !s.on (wPS k) PS_STATE.STAG && (decide (limit < loss) || decide (stag * 1000000 ≤ temp)) then
      ((s.wr (wPS k) PS_STATE.STAG 1).sticky wTherm THERM_STAT.STAGGER).event wTherm 0
    else if s.on (wPS k) PS_STATE.STAG && decide (100 < calm) then s.wr (wPS k) PS_STATE.STAG 0
    else s
  let run := decide (100 < ovr) || decide (der * 1000000 ≤ temp)
  if run && !s.on (wPS k) PS_STATE.DER then
    ((s.wr (wPS k) PS_STATE.DER 1).sticky wTherm THERM_STAT.DERATE).event wTherm 1
  else s.wr (wPS k) PS_STATE.DER (b2n run)

/-- R333: the 1 ms update of every die. -/
def thermUpdate (slug : BitVec 16) (s : State) : State :=
  let s := s.wr wTherm THERM_SLUG.SLUG slug.toNat
  let s := s.each (List.range 6) (thermDie slug.toInt)
  s.wr wTherm THERM_TOTAL.TOTAL (min 65535 (((List.range 6).map fun k => (s.die k).loss).sum / 1000000000))

def execThermUpdate (slug : BitVec 16) (s : State) : Result := .next (thermUpdate slug (fresh s))

/-- Sets DER of a channel: EV bit 3 of its window on a change. -/
def State.setDer (s : State) (n v : Nat) : State :=
  ((s.wr (wCh n) CH_DERATE.DER v).event (wCh n) 3).chOutput n

def State.prioOf (s : State) (n : Nat) : Nat := s.rd (wCh n) CH_CFG.PRIO
def State.derOf (s : State) (n : Nat) : Nat := s.rd (wCh n) CH_DERATE.DER

/-- R334: the channels a derating step lowers: of those of the die in ON with DER above 0, the ones of the lowest PRIO; PRIO 7 never. -/
def State.derateSet (s : State) (k : Nat) : List Nat :=
  let c := (dieChannels k).filter fun n => s.prot n == protOn && decide (0 < s.derOf n) && decide (s.prioOf n < 7)
  let p := c.foldl (fun a n => min a (s.prioOf n)) 7
  c.filter fun n => s.prioOf n == p

/-- R334: a derating step, while derating runs. -/
def derateStep (k : Nat) (s : State) : State :=
  if s.on (wPS k) PS_STATE.DER then s.each (s.derateSet k) fun s n => s.setDer n (s.derOf n - 1) else s

def execThermDerateStep (k : Fin 6) (s : State) : Result := .next (derateStep k (fresh s))

/-- R334: the channels a restoring step raises: the derated ones of the highest derated PRIO. -/
def State.restoreSet (s : State) (k : Nat) : List Nat :=
  let c := (dieChannels k).filter fun n => decide (s.derOf n < 8)
  let p := c.foldl (fun a n => max a (s.prioOf n)) 0
  c.filter fun n => s.prioOf n == p

/-- R334: a restoring step, while T_k < TJ_DER - HYST, if the loss predicted for the raised factors is at most ALLOT. -/
def restoreStep (k : Nat) (s : State) : State :=
  let lim : Int := ((s.rd wTherm THERM_CFG.TJ_DER : Int) - (max 1 (s.rd wTherm THERM_CFG.HYST) : Nat)) * 1000000
  if (s.die k).temp < lim ∧ s.dieLoss k (s.restoreSet k).contains ≤ s.allot k * 1000000000 then
    s.each (s.restoreSet k) fun s n => s.setDer n (s.derOf n + 1)
  else s

def execThermRestoreStep (k : Fin 6) (s : State) : Result := .next (restoreStep k (fresh s))

/-! ## Hold (R336) -/

/-- R336: RESUME ends HOLD in every channel; only MP may write it. -/
def resumeHold (s : State) : State :=
  let s := s.allModes fun s n => if s.ctrl n = ctrlHold then ctrlNormal else s.ctrl n
  (s.setBody { s.body with holdRun := false }).wr wChannels CHG_STAT.HOLDING 0

def execChgResume (init : Initiator) (s : State) : Result :=
  .next ((fresh s).cmdField init.code wChannels CHG_CTRL.RESUME (whenK (init.code != initMp) .privilege) resumeHold)

/-- R336: the hold timer reaches HOLD_MAX. -/
def holdExpiry (s : State) : State :=
  if s.body.holdRun then
    let s := s.allModes fun s n => if s.ctrl n = ctrlHold then s.limpOrOff n else s.ctrl n
    let s := (s.setBody { s.body with holdRun := false }).wr wChannels CHG_STAT.HOLDING 0
    (s.sticky wChannels CHG_STAT.HOLD_EXP).event wChannels 0
  else s

def execHoldMaxExpiry (s : State) : Result := .next (holdExpiry (fresh s))

end Sys2Proof.Machine
end

