-- ==== Sys2Proof/Machine/Commit.lean ====
section
/-! DEFINITION. The commits (04): the staging lock, the entry views as commands, the atomic flip with drain and reclaim, the split commit with
flow hold (R121 to R127, R498). -/

namespace Sys2Proof.Machine

/-! ## Entry views -/

def execStageSelect (init : Initiator) (v : ViewTab) (next : Bool) (i : BitVec 16) (s : State) : Result :=
  .next ((fresh s).cmdWrite init.code v.win (v.sel.ofs + v.sel.len - 1) (i.toNat % 256) [] fun s => s.selectView v next i.toNat)

def execStageEntryWrite (init : Initiator) (v : ViewTab) (data : List Byte) (s : State) : Result :=
  .next ((fresh s).stageView init.code v (data.map BitVec.toNat))

/-! ## What a flip means for the entries' live state -/

/-- Entry i of table w has changed from Bench o to Bench n: a policer whose MODE changes starts full (R269), a binding that becomes valid
starts (R281), a signal entry that becomes valid is installed (R243), a PDU entry that goes OFF loses what is pending (R249). -/
def State.entryFlipped (s : State) (o n w i : Nat) : State :=
  let rose := fun (f : Field) => !s.entOn o w f i && s.entOn n w f i
  if w = wWeigh then
    s.bucketFlipped o n i
  else if w = wAuth then s.when (rose AUTH_CTX.VALID) fun s => s.authStart i
  else if w = wSignal then s.when (rose SIG_ENTRY.VALID) fun s => s.sigInstall i
  else if w = wPdu ∧ i < tmplBase then
    s.when (!s.entOn n w PDU_ENTRY.VALID i || s.ent n w PDU_ENTRY.LEN i == 0) fun s =>
      s.setGw { s.gw with pend := dropFrom s.gw.pend i, repRun := dropFrom s.gw.repRun i, repLeft := erase s.gw.repLeft i }
  else s

def State.touchedIn (s : State) (w : Nat) : List Nat := (s.bench.touched.filter fun c => c % 4096 == w).map fun c => c / 4096

def State.tableFlipped (s : State) (o n w : Nat) : State := s.each (s.touchedIn w) fun s i => s.entryFlipped o n w i

/-! ## The lock (R121) -/

/-- A write of TBL_CTRL stores its two RW bits with the command, whose own field must read 0 (R8). -/
def State.tblCtrl (s : State) (init cmd rw : Nat) (kinds : List Kind) (f : State → State) : State :=
  let busy := [TBL_CTRL.COMMIT, TBL_CTRL.ABORT, TBL_CTRL.ACQUIRE, TBL_CTRL.RELEASE].any fun f => bit cmd f.lo && s.on wTables f
  s.cmdWrite init wTables 0x140 (cmd + rw % 4 * 4) (kinds ++ whenK busy .cmdBusy) fun s =>
    f ((s.wr wTables TBL_CTRL.SPLIT_OK (rw / 2)).wr wTables TBL_CTRL.HOLD_EN rw)

def State.tblOwner (s : State) : Nat := s.rd wTables TBL_OWNER.OWNER
def State.tblBusy (s : State) : Bool := s.on wTables TBL_STAT.BUSY
def State.setLease (s : State) (b : Bool) : State := s.setBench { s.bench with lease := b }

/-- What ABORT and COMMIT are refused for. -/
def State.ownerKinds (s : State) (init : Nat) : List Kind :=
  whenK s.tblBusy .commitBusy ++ whenK (s.tblOwner != init) .state

def State.tblAcquire (s : State) (init : Nat) : State :=
  if s.tblOwner = 0 then (s.wr wTables TBL_OWNER.OWNER init).setLease true else s

def State.tblRelease (s : State) : State := (s.wr wTables TBL_OWNER.OWNER 0).setLease false

def execTblAcquire (init : Initiator) (rw : Fin 4) (s : State) : Result :=
  .next ((fresh s).tblCtrl init.code 0x20 rw.val [] fun s => s.tblAcquire init.code)

def execTblRelease (init : Initiator) (rw : Fin 4) (s : State) : Result :=
  .next ((fresh s).tblCtrl init.code 0x10 rw.val (whenK ((fresh s).tblOwner != init.code) .state) State.tblRelease)

def execTblAbort (init : Initiator) (rw : Fin 4) (s : State) : Result :=
  .next ((fresh s).tblCtrl init.code 0x40 rw.val ((fresh s).ownerKinds init.code) State.discardDelta)

/-- The lease of the lock runs out: outside a commit, the delta is discarded (R121, R127). -/
def tblLeaseExpiry (s : State) : State :=
  if s.bench.lease = false ∨ s.tblOwner = 0 then s
  else
    let w := holderWindow s.tblOwner
    let s := s.when (!s.tblBusy) fun s => s.discardDelta.event wTables 2
    s.tblRelease.leaseRevoked w

def execTblLeaseExpiry (s : State) : Result := .next (tblLeaseExpiry (fresh s))

/-! ## The commit (R123, R124) -/

def State.setPhase (s : State) (p : CommitPhase) : State := s.setBench { s.bench with phase := p }

def State.busy (s : State) : State := (s.wr wTables TBL_STAT.BUSY 1).wr wTables TBL_CTRL.COMMIT 1

/-- Tables in the order of R125, the code in TBL_SPLIT_STEP one more than the position. -/
def splitOrder : List Nat := [wDlist, wPdu, wSignal, wAuth, wWeigh, wRoute, wVlan, wSeam, wL2, wCanf, wSieve]

/-- The atomic flip: every table changes to the other Bench in one cycle. -/
def State.flip (s : State) : State :=
  let o := s.gen
  let s := s.wr wTables TBL_STAT.G (1 - o)
  s.each splitOrder fun s w => s.tableFlipped o (1 - o) w

/-- COMMIT by the owner. `force`: a split commit whatever SPLIT_OK reads, and without flow hold (R468). -/
def State.commit (s : State) (force : Bool) : State :=
  let s := s.setLease true
  if s.bench.ovf = [] then s.busy.flip.setPhase .drain
  else if !force && !s.on wTables TBL_CTRL.SPLIT_OK then s.sticky wTables TBL_STAT.REFUSED
  else s.busy.setBench { s.busy.bench with phase := .splitDrain, switched := [], holdOn := !force }

def execTblCommit (init : Initiator) (rw : Fin 4) (s : State) : Result :=
  .next ((fresh s).tblCtrl init.code 0x80 rw.val ((fresh s).ownerKinds init.code) fun s => s.commit false)

/-! ## Drain and reclaim -/

/-- An extraction that waits on an engine sampled this Bench; a report samples none. -/
def EngineWork.inGen (g : Nat) : EngineWork → Bool
  | .pdu x => x.gen == g
  | .report _ _ => true

/-- No frame that sampled the Bench now left remains in stages 2 to 6, where waiting extractions count as stage 6 (R248). -/
def State.drained (s : State) : Bool :=
  (s.fab.pipe.all fun i => i.stage == .held || i.gen == s.entryGen) &&
    s.gw.exq.all fun q => q.2.all (EngineWork.inGen s.entryGen)

def State.drainEnd (s : State) : State :=
  if s.drained = false then s
  else match s.bench.phase with
    | .drain => s.setPhase .reclaim
    | .splitDrain => s.setPhase .split
    | _ => s

def execCommitDrainEnd (s : State) : Result := .next ((fresh s).drainEnd)

/-- Both Benches hold what the current one holds, and no delta is left. -/
def State.reclaim (s : State) : State :=
  let o := 1 - s.gen
  let s := s.each s.touchedViews fun s e =>
    s.each (viewFields e.1 e.2) fun s f => s.setEnt o e.1 f e.2 (s.ent (1 - o) e.1 f e.2)
  let s := s.keyedSettle s.gen
  (s.setTbl { s.tbl with standing := [] }).clearDelta

def State.reclaimDone (s : State) : State :=
  if s.bench.phase ≠ .reclaim then s
  else
    let split := s.bench.switched != []
    let s := s.reclaim
    let s := s.setBench { s.bench with phase := .idle, switched := [] }
    let s := ((s.wr wTables TBL_STAT.BUSY 0).wr wTables TBL_CTRL.COMMIT 0).setLeg { s.leg with commit := none }
    let s := s.when split fun s => ((s.sticky wTables TBL_STAT.SPLIT_COMMIT).count wTables TBL_SPLITS.COUNT).event wTables 1
    (s.count wTables TBL_COMMITS.COUNT).event wTables 0

def execCommitReclaimDone (s : State) : Result := .next ((fresh s).reclaimDone)

/-! ## Split commit (R125, R126) -/

def State.hasStaged (s : State) (w : Nat) : Bool := s.bench.touched.any fun c => c % 4096 == w

/-- Held frames enter stage 2 under the pointers now in force. -/
def State.releaseHeld (s : State) : State :=
  let s := s.setBench { s.bench with holdOn := false }
  s.setFab { s.fab with pipe := s.fab.pipe.map fun i =>
    if i.stage = .held then { i with stage := .atFilter, gen := s.entryGen } else i }

/-- The two copies of an entry change places. -/
def State.swapEntry (s : State) (w i : Nat) : State :=
  s.each (viewFields w i) fun s f =>
    let a := s.ent 0 w f i
    let b := s.ent 1 w f i
    (s.setEnt 0 w f i b).setEnt 1 w f i a

/-- Entry i of a paired table is deleted by the delta. -/
def State.isDeletion (s : State) (w i : Nat) : Bool :=
  match viewValid w i with
  | none => false
  | some f => s.entOn s.gen w f i && !s.entOn (1 - s.gen) w f i

/-- A paired table switches; its deletions wait for step 12. -/
def State.switchPaired (s : State) (w : Nat) : State :=
  let dels := (s.touchedIn w).filter (s.isDeletion w)
  let s := s.each dels fun s i => s.swapEntry w i
  let s := s.setBench { s.bench with switched := s.bench.switched ++ [w],
                                     deletions := s.bench.deletions ++ dels.map (entryCode w) }
  s.each ((s.touchedIn w).filter fun i => !dels.contains i) fun s i => s.entryFlipped s.gen (1 - s.gen) w i

/-- An overflow insertion without a slot (R125). -/
def State.entryRejected (s : State) (code : Nat) (e : OvfEntry) : State :=
  let s := s.when (s.rd wTables TBL_REJ_INFO.TABLE == 0) fun s =>
    (s.wr wTables TBL_REJ_INFO.TABLE code).wr wTables TBL_REJ_INFO.KEYREF (s.bench.ovf.idxOf e * 65536 + e.order)
  s.sticky wTables TBL_STAT.ENTRY_REJ

/-- The overflow entries of the Sieve or the filter: replacements take the slots of what they replace, insertions freed slots. -/
def State.placeViews (s : State) (w code : Nat) (valid : Field) : State :=
  let l := s.bench.ovf.filter fun e => e.win == w
  let isNew := fun (e : OvfEntry) => !s.entOn s.gen w valid e.idx
  let inPlace := ((s.validIn (1 - s.gen) w valid).filter fun i => !s.inOvf w i).length + (l.filter fun e => !isNew e).length
  let room := slotsOf w - inPlace
  s.each ((l.filter isNew).drop room) fun s e => (s.restoreEntry w e.idx).entryRejected code e

/-- The overflow entries of the L2 table. -/
def State.placeL2 (s : State) (code : Nat) : State :=
  let o := s.gen
  let n := 1 - o
  let repl := s.tbl.l2Ovf.filter fun x => s.tbl.l2.any fun w => w.sameKey x && w.tag == tagOnly o
  let s := s.each repl fun s x => s.setL2 (s.tbl.l2.map fun w =>
    if w.sameKey x && w.tag == tagOnly o then { x with bucket := w.bucket, h := w.h } else w)
  let s := s.setL2 (s.tbl.l2.filter fun w => bit w.tag n)
  s.each (s.tbl.l2Ovf.filter fun x => !repl.contains x) fun s x =>
    let b := s.l2Bucket s.l2Cur x.fid x.mac
    if s.l2Free b then s.l2Add { x with bucket := b, h := s.l2Cur }
    else match s.bench.ovf.find? (fun e => e.win == wL2 && e.idx == l2Key x.fid x.mac) with
      | some e => s.entryRejected code e
      | none => s

/-- The overflow prefixes. -/
def State.placePrefixes (s : State) (code : Nat) : State :=
  let o := s.gen
  let n := 1 - o
  let isRepl := fun (x : Prefix) => s.tbl.prefixes.any fun p => p.same x && p.tag == tagOnly o
  let repl := s.tbl.pfxOvf.filter isRepl
  let s := (s.stand (s.tbl.prefixes.filter fun p => !bit p.tag n)).setPrefixes ((s.tbl.prefixes.filter fun p => bit p.tag n) ++ repl)
  s.each (s.tbl.pfxOvf.filter fun x => !repl.contains x) fun s x =>
    if s.prefixCount x.v6 < storeSlots x.v6 then s.setPrefixes (s.tbl.prefixes ++ [x])
    else match s.bench.ovf.find? (fun e => e.win == wSeam && e.idx == pfxKey x) with
      | some e => s.entryRejected code e
      | none => s

/-- A slotted table switches, with its overflow entries under a lookup stall. -/
def State.switchSlotted (s : State) (w code : Nat) : State :=
  let s := s.when (s.bench.ovf.any fun e => e.win == w) fun s =>
    if w = wL2 then s.placeL2 code else if w = wSeam then s.placePrefixes code
    else if w = wCanf then s.placeViews w code CANF_ENTRY.VALID else s.placeViews w code SIEVE_ACT.VALID
  s.setBench { s.bench with switched := s.bench.switched ++ [w] }

def isSlotted (w : Nat) : Bool := w == wSeam || w == wL2 || w == wCanf || w == wSieve

/-- The tables that still have to switch. -/
def State.toSwitch (s : State) : List Nat := splitOrder.filter fun w => s.hasStaged w && !s.bench.switched.contains w

/-- The end of the split: G names the new Bench, held frames go on, the reclaim runs. -/
def State.splitEnd (s : State) : State :=
  ((s.wr wTables TBL_STAT.G (1 - s.gen)).setPhase .reclaim).releaseHeld

/-- Step 12. -/
def State.splitDeletions (s : State) : State :=
  let o := s.gen
  let s := s.each s.bench.deletions fun s c => s.swapEntry (c % 4096) (c / 4096)
  let s := s.each s.bench.deletions fun s c => s.entryFlipped o (1 - o) (c % 4096) (c / 4096)
  (s.setBench { s.bench with deletions := [] }).wr wTables TBL_SPLIT_STEP.STEP 0x0C

/-- The next step of a split commit. -/
def State.splitStep (s : State) : State :=
  if s.bench.phase ≠ .split then s
  else
    let s := match s.toSwitch with
      | [] => s.splitDeletions
      | w :: _ =>
        let code := splitOrder.idxOf w + 1
        let s := if isSlotted w then s.switchSlotted w code else s.switchPaired w
        s.wr wTables TBL_SPLIT_STEP.STEP code
    if s.toSwitch = [] ∧ s.bench.deletions = [] then s.splitEnd else s

def execSplitTableSwitch (s : State) : Result := .next ((fresh s).splitStep)

/-- HOLD_LIM has run out in a split with flow hold (R126). R126 does not say whether frames that arrive after it, while the split runs on, are
held: none is (DESIGN CHOICE). -/
def flowHoldExpiry (s : State) : State :=
  if s.bench.holdOn ∧ s.rd wTables TBL_HOLD_LIM.HOLD_LIM ≠ 0 ∧ (s.holdInForce ∨ s.fab.pipe.any fun i => i.stage == .held) then s.releaseHeld.sticky wTables TBL_STAT.HOLD_EXP else s

def execFlowHoldExpiry (s : State) : Result := .next (flowHoldExpiry (fresh s))

end Sys2Proof.Machine
end

