-- ==== Sys2Proof/Machine/EthPort.lean ====
section
/-! DEFINITION. The commands and events of the Ethernet ports' state machine, their sleep handshake, PHY pins and MDIO (R156 to R170, R177,
06_ethernet_ports.md). -/

namespace Sys2Proof.Machine

/-! ## On and off -/

/-- R156: the interface codes a port accepts. -/
def ifAllowed (p ifc : Nat) : Bool :=
  if p < 2 then ifc == 1 || ifc == 2 else if p < 6 then ifc == 3 || ifc == 4 else ifc == 5

/-- The stored ETH_CFG for a written byte: IF per R156, ROLE on ETH6 to ETH15 only, AN on USXGMII and SGMII only. -/
def ethCfgFit (p v : Nat) : Nat :=
  let ifc := if ifAllowed p (bits v 6 4) then bits v 6 4 else 0
  bits v 7 7 * 128 + ifc * 16 + b2n (bit v 3 && decide (6 ≤ p)) * 8 + bits v 2 2 * 4 + b2n (bit v 1 && (ifc == 2 || ifc == 3)) * 2

def ethCfgFields : List Field := [ETH_CFG.EN, ETH_CFG.IF, ETH_CFG.ROLE, ETH_CFG.KMP_EN, ETH_CFG.AN]

/-- A write of ETH_CFG: EN acts on the port (R166), and the port's network follows. DESIGN CHOICE: EN acts in the safe state too (R166's rows of
EN carry no condition, R85 leaves RW fields unacted on), and an IF written outside DISABLED is stored and leaves state and rate as they are
until the port next leaves DISABLED or comes up (R156 gives it no event). -/
def ethCfgWrite (p v : Nat) (s : State) : State :=
  let s := s.wrWide (wEth p) ethCfgFields (ethCfgFit p v)
  ((if s.on (wEth p) ETH_CFG.EN then s.ethEnable p else s.ethDisable p).ethSynced p).peerSync p

/-- ETH_CFG written with EN 1; `low` are the other bits. -/
def execEthEnable (init : Initiator) (p : Fin 16) (low : Fin 128) (s : State) : Result :=
  .next ((fresh s).cmdWrite init.code (wEth p) 0x140 (128 + low) [] (ethCfgWrite p (128 + low)))

/-- ETH_CFG written with EN 0. -/
def execEthDisable (init : Initiator) (p : Fin 16) (low : Fin 128) (s : State) : Result :=
  .next ((fresh s).cmdWrite init.code (wEth p) 0x140 low [] (ethCfgWrite p low))

/-- The stored ETH_SLEEP_CFG for a written byte: TC10_EN on ETH6 to ETH15 only (R169), RST_SLEEP on ETH0 to ETH5 only. -/
def sleepCfgFit (p v : Nat) : Nat := if isSerdes p then v % 128 else bits v 7 5 * 32 + v % 16

/-! ## The link -/

def rateCode : EthRate → Nat
  | .r100M => 1
  | .r1G => 2
  | .r2G5 => 3
  | .r5G => 4
  | .r10G => 5

/-- R158: the rate a port comes up with; none when the in-band word is not accepted. -/
def State.linkRate (s : State) (p : Nat) (r : EthRate) (full : Bool) : Option Nat :=
  let ifc := s.rd (wEth p) ETH_CFG.IF
  if !s.on (wEth p) ETH_CFG.AN then some (topRate ifc)
  else if !full then none
  else if ifc = 2 then (if 3 ≤ rateCode r then some (rateCode r) else none)
  else if rateCode r = 2 then some 2 else none

/-- R166: link up in TRAINING, with the word of the in-band auto-negotiation where the port uses it. A port without its
DSP image finds no link (R423). -/
def linkUp (p : Nat) (r : EthRate) (full : Bool) (s : State) : State :=
  if s.ethState p ≠ ethTraining || s.inRom (wEth p) then s
  else match s.linkRate p r full with
    | some rate => s.ethGoUp p rate
    | none => s.trainFail p

def execEthLinkUp (p : Fin 16) (r : EthRate) (full : Bool) (s : State) : Result := .next (linkUp p r full (fresh s))

/-- R166: the LINK_TO timer expires. -/
def linkTimeout (p : Nat) (s : State) : State :=
  if s.ethState p = ethTraining ∧ look s.eth.linkTo p false ∧ s.rd (wEth p) ETH_LINK_TO.LINK_TO ≠ 0 then (s.trainFail p).train p else s

def execEthLinkTimeout (p : Fin 16) (s : State) : Result := .next (linkTimeout p (fresh s))

/-- R166, R167. -/
def execEthLinkLost (p : Fin 16) (s : State) : Result := .next (((fresh s).linkLost p).ethSynced p)

/-! ## Commands of ETH_CTRL and ETH_LOOP -/

/-- R168, R169: SLEEP outside UP, or in the safe state, is refused. -/
def execEthSleepCmd (init : Initiator) (p : Fin 16) (s : State) : Result :=
  .next ((fresh s).cmdField init.code (wEth p) ETH_CTRL.SLEEP
    (whenK (s.ethState p != ethUp || s.isSafe (wEth p)) .state) fun s => s.sleepStart p)

/-- R166, R168. -/
def execEthWakeCmd (init : Initiator) (p : Fin 16) (s : State) : Result :=
  .next ((fresh s).cmdField init.code (wEth p) ETH_CTRL.WAKE [] fun s => (s.ethWake p).ethSynced p)

/-- R166: RETRAIN; in states without a row it has no effect. -/
def retrain (p : Nat) (s : State) : State :=
  if s.ethState p = ethTraining then s.train p else if s.ethState p = ethUp then s.ethDrop p else s

def execEthRetrainCmd (init : Initiator) (p : Fin 16) (s : State) : Result :=
  .next ((fresh s).cmdField init.code (wEth p) ETH_CTRL.RETRAIN (whenK (s.ethState p == ethDisabled) .state) (retrain p))

/-- R159: PHY_RESET; reserved on ETH6 to ETH15. -/
def phyResetStart (p : Nat) (s : State) : State :=
  if !isSerdes p then s
  else
    let s := (s.wr (wEth p) ETH_CTRL.PHY_RESET 1).phyReset p true
    s.setEth { s.eth with pulse := store s.eth.pulse p true false }

def execEthPhyResetCmd (init : Initiator) (p : Fin 16) (s : State) : Result :=
  .next ((fresh s).cmdField init.code (wEth p) ETH_CTRL.PHY_RESET [] (phyResetStart p))

/-- The pulse ends, and the pin rises unless DISABLED or SLEEPING holds it (R159). -/
def pulseEnd (p : Nat) (s : State) : State :=
  if !look s.eth.pulse p false then s
  else
    let s := (s.setEth { s.eth with pulse := erase s.eth.pulse p }).wr (wEth p) ETH_CTRL.PHY_RESET 0
    if s.phyHeld p then s else s.phyReset p false

def execPhyResetPulseEnd (p : Fin 16) (s : State) : Result := .next (pulseEnd p (fresh s))

/-- R159: 1.0 ms after the release of the GX reset every pin rises that no pulse and no state of its port holds. -/
def phyRelease (s : State) : State :=
  if !s.gxOn then s
  else s.each (List.range 6) fun s p =>
    if look s.eth.pulse p false || s.phyHeld p then s else s.phyReset p false

def execPhyRstRelease (s : State) : Result := .next (phyRelease (fresh s))

/-- R166, R177: a write of ETH_LOOP. The reader learns of a link down on leaving UP or LOOP, and of a link up in MODE 1 and 2.
DESIGN CHOICE: another MODE 1 to 3 written in LOOP, which has no row in R166, gives link down and enters the new mode. -/
def loopWrite (p mode : Nat) (s : State) : State :=
  let st := s.ethState p
  if mode = s.rd (wEth p) ETH_LOOP.MODE then s
  else if mode = 0 then
    if st = ethLoop then ((s.wr (wEth p) ETH_LOOP.MODE 0).readerDown p).train p else s
  else
    let s := (s.wr (wEth p) ETH_LOOP.MODE mode).readerDown p
    let s := ((s.setEth { s.eth with linkTo := store s.eth.linkTo p false false }).setEthState p ethLoop).peerSync p
    if mode = 3 then s.wr (wEth p) ETH_STATE.RATE 0
    else (s.wr (wEth p) ETH_STATE.RATE (topRate (s.rd (wEth p) ETH_CFG.IF))).readerUp p

/-- R168, R180; a write that keeps MODE is none (R494). -/
def State.loopRefused (s : State) (p mode : Nat) : Bool :=
  mode != s.rd (wEth p) ETH_LOOP.MODE && (!(s.ethState p == ethTraining || s.ethState p == ethUp || s.ethState p == ethLoop) || (mode != 0 && s.isSafe (wEth p)))

def execEthLoopWrite (init : Initiator) (p : Fin 16) (v : Byte) (s : State) : Result :=
  .next ((fresh s).cmdWrite init.code (wEth p) 0x146 v.toNat (whenK (s.loopRefused p (v.toNat % 4)) .state)
    (loopWrite p (v.toNat % 4)))

/-! ## Sleep and wake (R169, R170) -/

/-- R169: the Hopper is empty. The handshake follows on a port that has one. DESIGN CHOICE: ETH6 to ETH15 with TC10_EN 0, of which R169 does not
speak, enter SLEEPING after the drain with no sleep request, as ETH0 to ETH5 do. -/
def drainEnd (p : Nat) (s : State) : State :=
  if s.ethState p ≠ ethSleepReq ∨ s.sleepStep p ≠ .drain ∨ s.hopEmpty p = false then s
  else if !isSerdes p && s.on (wEth p) ETH_SLEEP_CFG.TC10_EN then (s.setSleepStep p .requested).emit (.ethLine p 2)
  else (s.sleepDone p).ethSynced p

def execEthSleepDrainEnd (p : Fin 16) (s : State) : Result := .next (drainEnd p (fresh s))

def drainTimeout (p : Nat) (s : State) : State :=
  if s.ethState p = ethSleepReq ∧ s.sleepStep p = .drain then s.sleepAbort p else s

def execEthSleepDrainTimeout (p : Fin 16) (s : State) : Result := .next (drainTimeout p (fresh s))

/-- A sleep request or a sleep acknowledge of the port is out. -/
def State.handshaking (s : State) (p : Nat) : Bool :=
  s.ethState p == ethSleepReq && (s.sleepStep p == .requested || s.sleepStep p == .acked)

/-- The handshake is complete. -/
def sleepAcked (p : Nat) (s : State) : State := if s.handshaking p then (s.sleepDone p).ethSynced p else s

def execEthSleepAckReceived (p : Fin 16) (s : State) : Result := .next (sleepAcked p (fresh s))

def ackTimeout (p : Nat) (s : State) : State := if s.handshaking p then s.sleepAbort p else s

def execEthSleepAckTimeout (p : Fin 16) (s : State) : Result := .next (ackTimeout p (fresh s))

/-- R166: an accepted request is acknowledged; another is left unanswered. -/
def sleepRequested (p : Nat) (s : State) : State :=
  if !isSerdes p && s.ethState p == ethUp && s.on (wEth p) ETH_SLEEP_CFG.TC10_EN && s.on (wEth p) ETH_SLEEP_CFG.ACCEPT &&
      s.hopEmpty p && !s.isSafe (wEth p) then
    (((s.setEthState p ethSleepReq).setSleepStep p .acked).emit (.ethLine p 3)).peerSync p
  else s

def execEthSleepRequestReceived (p : Fin 16) (s : State) : Result := .next (sleepRequested p (fresh s))

/-- A wake from the line: WAKES, EV bit 3, training, and the report to the wake unit. -/
def State.lineWake (s : State) (p : Nat) : State :=
  (((((s.count (wEth p) ETH_WAKES.COUNT).event (wEth p) 3).train p).ethSynced p)).sourceEvent p []

/-- R170: a wake-up request on an active link ends a sleep under way; one that comes as the handshake completes is evaluated in SLEEPING, as a
wake from the line. -/
def wakeRequested (p : Nat) (s : State) : State :=
  if s.ethState p = ethSleeping then (if isSerdes p then s else s.lineWake p)
  else if s.ethState p = ethSleepReq then s.sleepAbort p else s

def execEthWakeRequestReceived (p : Fin 16) (s : State) : Result := .next (wakeRequested p (fresh s))

/-- R166, R170: a wake-up pulse; while a sleep is still under way it ends that. -/
def wakePulse (p : Nat) (s : State) : State :=
  if isSerdes p then s
  else if s.ethState p = ethSleeping then s.lineWake p
  else if s.ethState p = ethSleepReq then s.sleepAbort p else s

def execEthWakePulseDetected (p : Fin 16) (s : State) : Result := .next (wakePulse p (fresh s))

/-- R160, R166: PHY_INT_N falls; ignored without a PHY. -/
def phyInt (p : Nat) (s : State) : State :=
  if !isSerdes p || !s.on (wEth p) ETH_PHY_CFG.PRESENT || !s.gxOn then s
  else
    let s := (s.sticky (wEth p) ETH_STAT.PHY_INT).event (wEth p) 4
    if s.ethState p = ethSleeping then s.lineWake p else s

def execEthPhyInt (p : Fin 16) (s : State) : Result := .next (phyInt p (fresh s))

/-! ## MDIO (R161 to R163) -/

/-- A transaction of port p under its ETH_PHY_CFG. Clause 22 names its register by five bits. -/
def State.mdioOf (s : State) (p : Nat) (list wr : Bool) (devad reg data : Nat) : Mdio :=
  let c45 := s.on (wEth p) ETH_PHY_CFG.C45
  { port := p, wr, list, c45, phyad := s.rd (wEth p) ETH_PHY_CFG.PHYAD, devad, reg := if c45 then reg else reg % 32, data }

/-- GO with WR and DEVAD: the transaction joins its bus. -/
def mdioGo (p v : Nat) (s : State) : State :=
  let w := wEth p
  let s := ((s.wr w ETH_MDIO_CTRL.WR (bits v 6 6)).wr w ETH_MDIO_CTRL.DEVAD (bits v 4 0)).wr w ETH_MDIO_CTRL.GO 1
  s.mdioPut (s.mdioOf p false (bit v 6) (bits v 4 0) (s.rd w ETH_MDIO_REG.REG) (s.rd w ETH_MDIO_DATA.DATA))

/-- What GO is refused for (R8, R162). -/
def State.mdioKinds (s : State) (p : Nat) : List Kind :=
  whenK (!s.on (wEth p) ETH_PHY_CFG.PRESENT) .state ++ whenK (s.mdioBusy p) .cmdBusy

/-- A write of ETH_MDIO_CTRL with GO 1; `low` are the other bits. -/
def execMdioGo (init : Initiator) (p : Fin 6) (low : Fin 128) (s : State) : Result :=
  .next ((fresh s).cmdWrite init.code (wEth p) 0x151 (128 + low)
    (s.mdioKinds p) (mdioGo p (128 + low)))

/-- What the end of a transaction leaves in its port's registers; a read without response gives 0xFFFF. -/
def State.mdioResult (s : State) (m : Mdio) (resp : Option Nat) : State :=
  let w := wEth m.port
  let s := s.wr w ETH_MDIO_CTRL.GO 0
  if m.wr then s
  else match resp with
    | some d => (s.wr w ETH_MDIO_DATA.DATA d).wr w ETH_MDIO_CTRL.NR 0
    | none => ((s.wr w ETH_MDIO_DATA.DATA 0xFFFF).wr w ETH_MDIO_CTRL.NR 1).sticky w ETH_STAT.MDIO_NORESP

/-- A write of a port's list is done: the next one, or the port's training (R163). -/
def State.mdioListed (s : State) (p : Nat) : State :=
  let s := (s.setMdioList p ((s.mdioList p).drop 1)).mdioListGo p
  if s.mdioList p = [] ∧ s.on (wEth p) ETH_CFG.EN then ((s.ethEnable p).ethSynced p).peerSync p else s

/-- R162: the transaction in progress on a bus completes. -/
def mdioDone (b : Nat) (resp : Option Nat) (s : State) : State :=
  match s.bus b with
  | [] => s
  | m :: r =>
    let s := ((s.setBus b r).emit (.mdio m.port (mdioFrames m))).event (wEth m.port) 5
    if m.list then s.mdioListed m.port else s.mdioResult m resp

def execMdioDone (bus : Fin 2) (resp : Option (BitVec 16)) (s : State) : Result :=
  .next (mdioDone bus (resp.map (·.toNat)) (fresh s))

end Sys2Proof.Machine
end

