-- ==== Sys2Proof/Machine/Inputs.lean ====
section
/-! DEFINITION. Switch inputs, cyclic sensing and analog inputs (R339 to R346). -/

namespace Sys2Proof.Machine

def State.sw (s : State) (n : Nat) : SwSt := look s.body.sw n SwSt.reset
def State.setSw (s : State) (n : Nat) (x : SwSt) : State :=
  s.setBody { s.body with sw := store s.body.sw n x SwSt.reset }

/-- A level that reads active (R339). -/
def State.swActive (s : State) (n : Nat) (high : Bool) : Bool := high == s.on (wSW n) SW_CFG.POL

/-- Inputs are sampled in RUN and PARTIAL. -/
def State.inputsRun (s : State) : Bool := s.pwr.state == .run || s.pwr.state == .partialRun

/-- STATE changes: counted, reported to the engines that park on it, and a source event where WAKE_EN is 1. -/
def State.swChange (s : State) (n : Nat) (active : Bool) : State :=
  let s := s.wr (wSW n) SW_STATE.STATE (b2n active)
  let s := (s.count (wSW n) SW_CHANGES.COUNT).event (wSW n) 0
  let s := s.each (List.range 6) fun s k =>
    if s.rd (wME k) ME_INPUTS.PARK_SW = n ∧ s.on (wME k) ME_CFG.EN then s.meParkSwitch k active else s
  if s.on (wSW n) SW_CFG.WAKE_EN then s.sourceEvent 45 [] else s

/-- SW_CFG has been written, with POL as it was: MODE 0 reads STATE 0, and another POL makes the same debounced level read the other way
(R339). -/
def State.swFollow (s : State) (n : Nat) (pol : Bool) : State :=
  let st := s.on (wSW n) SW_STATE.STATE
  let now := if s.rd (wSW n) SW_CFG.MODE = 0 then false else if s.on (wSW n) SW_CFG.POL == pol then st else !st
  if now == st then s else (s.setSw n { s.sw n with run := 0 }).swChange n now

/-- A sample of a MODE 1 input, every 1 ms (R340); the command also lets the input report (R347). -/
def swSample (n : Nat) (high : Bool) (s : State) : State :=
  if !s.inputsRun || s.unitState (wSW n) == usOff || s.rd (wSW n) SW_CFG.MODE != 1 then s
  else
    let s := s.wr (wSW n) SW_STATE.RAW (b2n high)
    let active := s.swActive n high
    if active == s.on (wSW n) SW_STATE.STATE then s.setSw n { s.sw n with run := 0 }
    else if (s.sw n).run + 1 < s.rd (wSW n) SW_DEB.DEB then s.setSw n { s.sw n with run := (s.sw n).run + 1 }
    else (s.setSw n { s.sw n with run := 0 }).swChange n active

def execSwSample (n : Fin 64) (high : Bool) (s : State) : Result := .next ((swSample n high (fresh s)).unitReports 2 n)

/-- A level of a MODE 2 input has held for FILT (R341); reported as R347 says. -/
def swEdge (n : Nat) (high : Bool) (s : State) : State :=
  if !s.inputsRun || s.unitState (wSW n) == usOff || s.rd (wSW n) SW_CFG.MODE != 2 then s
  else
    let s := s.wr (wSW n) SW_STATE.RAW (b2n high)
    let active := s.swActive n high
    if active == s.on (wSW n) SW_STATE.STATE then s else s.swChange n active

def execSwEdge (n : Fin 64) (high : Bool) (s : State) : Result := .next ((swEdge n high (fresh s)).unitReports 2 n)

/-! ## Cyclic sensing (R342, R344) -/

/-- The input is armed in the present power state. -/
def State.swArmed (s : State) (n : Nat) : Bool :=
  (s.sw n).armed && s.on (wSW n) SW_CFG.WAKE_EN &&
    (s.pwr.state == .park || (s.pwr.state == .deepPark && n < 8 && bit (s.rd wInputs INP_DEEP_ARM.ARM) n))

/-- The entry to PARK or DEEP_PARK: an armed input takes its STATE as its reference. -/
def State.armInputs (s : State) : State :=
  s.each (List.range 64) fun s n =>
    s.setSw n { run := 0, ref := s.on (wSW n) SW_STATE.STATE, diff := 0, armed := s.on (wSW n) SW_CFG.WAKE_EN }

/-- One input at the end of its wetting. -/
def sense (levels : Nat) (s : State) (n : Nat) : State :=
  let active := s.swActive n (bit levels n)
  let x := s.sw n
  if active == x.ref then s.setSw n { x with diff := 0 }
  else if x.diff + 1 < max 1 (s.rd wInputs INP_PARK_DEB.PDEB) then s.setSw n { x with diff := x.diff + 1 }
  else ((s.setSw n { x with ref := active, diff := 0 }).sticky (wSW n) SW_STAT.WAKE).sourceEvent 45 []

/-- A sensing cycle of PARK or DEEP_PARK over the inputs armed at its start; the levels are those at the end of each input's wetting. -/
def senseCycle (levels : Nat) (s : State) : State :=
  if s.parked then s.each ((List.range 64).filter s.swArmed) (sense levels) else s

def execCyclicSenseCycle (levels : BitVec 64) (s : State) : Result := .next (senseCycle levels.toNat (fresh s))

/-! ## Analog inputs (R345, R346) -/

def State.an (s : State) (n : Nat) : AnSt := look s.body.an n AnSt.reset
def State.setAn (s : State) (n : Nat) (x : AnSt) : State := s.setBody { s.body with an := store s.body.an n x AnSt.reset }

/-- VALUE changes: each flag is set on its crossing only. -/
def State.anValue (s : State) (n v : Nat) : State :=
  let old := s.rd (wAN n) AN_VALUE.VALUE
  let lo := s.rd (wAN n) AN_LO.LO_THR
  let hi := s.rd (wAN n) AN_HI.HI_THR
  let s := s.wr (wAN n) AN_VALUE.VALUE v
  let s := if v < lo ∧ lo ≤ old then (s.sticky (wAN n) AN_STAT.LO).event (wAN n) 0 else s
  if hi < v ∧ old ≤ hi then (s.sticky (wAN n) AN_STAT.HI).event (wAN n) 1 else s

/-- The code of a voltage in mV: V / 5.0 V x 4,095, or with RANGE 1 V / 20.0 V x 4,095. The spec does not state the rounding, which is free;
beyond the range the code is its end. -/
def State.anCode (s : State) (n mv : Nat) : Nat :=
  let full := if s.on (wAN n) AN_CFG.RANGE then 20000 else 5000
  let up := mv * 4095 % full != 0 && Config.adcRound (mv * 4095)
  min 4095 (mv * 4095 / full + b2n up)

/-- A conversion of input n. VALUE is the mean of the last 2^AVG conversions, of all there are while they are fewer. -/
def conversion (n mv : Nat) (s : State) : State :=
  if !s.inputsRun || s.unitState (wAN n) == usOff || !s.on (wAN n) AN_CFG.EN then s
  else
    let l := (s.anCode n mv :: (s.an n).conv).take (2 ^ s.rd (wAN n) AN_CFG.AVG)
    (s.setAn n ⟨l⟩).anValue n (l.sum / l.length)

def execAnConversion (n : Fin 16) (mv : BitVec 16) (s : State) : Result := .next ((conversion n mv.toNat (fresh s)).unitReports 3 n)

/-- An input that is switched off reads VALUE 0. -/
def State.anOff (s : State) (n : Nat) : State := (s.setAn n AnSt.reset).wr (wAN n) AN_VALUE.VALUE 0

end Sys2Proof.Machine
end

