-- ==== Sys2Proof/Machine/Events.lean ====
section
/-! DEFINITION. The commands of the event pool (R299, R303 to R311): arming, evaluating, and the actions. -/

namespace Sys2Proof.Machine

/-! ## Arming -/

def State.evSel (s : State) : Nat := s.rd wEvp EVP_SEL.EVENT

/-- ARM of the selected event; one that is armed has no row for it. -/
def armCmd (s : State) : State := if (s.evArmed s.evSel).isSome then s else s.evArm s.evSel

def State.armKinds (s : State) : List Kind :=
  whenK (s.isSafe wEvp) .state ++ whenK ((s.evArmed s.evSel).isNone && !s.evFits s.evSel) .state

def execEventArm (init : Initiator) (s : State) : Result :=
  let s := fresh s
  .next (s.cmdField init.code wEvp EVP_CMD.ARM s.armKinds armCmd)

def disarmCmd (s : State) : State := s.evDrop s.evSel 0x90

def execEventDisarm (init : Initiator) (s : State) : Result := .next ((fresh s).cmdField init.code wEvp EVP_CMD.DISARM [] disarmCmd)

def State.groupMask (s : State) : Nat := 2 ^ s.rd wEvp EVP_GROUP.GROUP

def groupArmCmd (s : State) : State := s.groupArm s.groupMask

def execEventGroupArm (init : Initiator) (s : State) : Result :=
  let s := fresh s
  .next (s.cmdField init.code wEvp EVP_CMD.GARM (whenK (s.isSafe wEvp) .state) groupArmCmd)

def groupDisarmCmd (s : State) : State := s.groupDisarm s.groupMask

def execEventGroupDisarm (init : Initiator) (s : State) : Result :=
  .next ((fresh s).cmdField init.code wEvp EVP_CMD.GDIS [] groupDisarmCmd)

/-- Every armed event is evaluated, in ascending number (R299, R307). -/
def evaluate (s : State) : State :=
  if !s.gxOn then s
  else
    let s := s.each (s.evp.armed.map (·.1)) State.evEval
    s.setAxes (s.axes.map fun (k, a) => (k, { a with updated := false }))

def execEventPoolEvaluate (s : State) : Result := .next (evaluate (fresh s))

/-! ## Actions -/

def actMark (s : State) : State :=
  match s.takeAct 0 with
  | none => s
  | some (a, s) => s.evDone a.ev

def execActionMark (s : State) : Result := .next (actMark (fresh s))

/-- LAUNCH (R310): the held frame is released to stage 2. -/
def actLaunch (s : State) : State :=
  match s.takeAct 1 with
  | none => s
  | some (a, s) =>
    let r := a.target
    if s.shut wHost || !s.launchMode r then s.evRefused a.ev
    else match s.launchOf r with
      | none => ((s.evEnd a.ev .dropped 0x93 1).sticky wEvp EVP_STAT.EMPTY).event wEvp 3
      | some f =>
        let data := match s.frame f.fid with
          | some x => x.data
          | none => []
        let s := (s.setLaunch r none).setTxFrames r (s.txFramesOf r ++ [f])
        (s.enterPipe f.fid srcHost data (some r) (s.rd wHost (fTc true r)) (ringStamp f.descs) true).evDone a.ev

def execActionLaunch (s : State) : Result := .next (actLaunch (fresh s))

/-- SEND_PDU: a build that is skipped does not start. -/
def actSendPdu (s : State) : State :=
  match s.takeAct 2 with
  | none => s
  | some (a, s) =>
    let j := a.target
    if s.shut wPdu || !s.pduRuns j then s.evRefused a.ev
    else if s.buildSkips j then (s.buildDue j).evRefused a.ev
    else (s.buildDue j).evDone a.ev

def execActionSendPdu (s : State) : Result := .next (actSendPdu (fresh s))

/-- GATE (R145, R308). -/
def actGate (s : State) : State :=
  match s.takeAct 3 with
  | none => s
  | some (a, s) =>
    if s.shut (wHop a.target) then s.evRefused a.ev
    else (s.each (allClasses.filter fun c => bit a.arg (8 + c)) fun s c => s.setGate a.target c (bit a.arg c)).evDone a.ev

def execActionGate (s : State) : Result := .next (actGate (fresh s))

/-- SGATE (R262); in the Sieve's safe state gate writes by events continue (R270). -/
def actSgate (s : State) : State :=
  match s.takeAct 4 with
  | none => s
  | some (a, s) =>
    let old := s.rd wSieve SGATE_OPEN.OPEN
    if s.unitState wSieve = usOff then s.evRefused a.ev
    else (s.wr wSieve SGATE_OPEN.OPEN (if bit a.arg 0 then setBit old a.target else clrBit old a.target)).evDone a.ev

def execActionSgate (s : State) : Result := .next (actSgate (fresh s))

def actChOn (s : State) : State := s.ixIssued 5
def execActionChOn (s : State) : Result := .next (actChOn (fresh s))

def actChDuty (s : State) : State := s.ixIssued 6
def execActionChDuty (s : State) : Result := .next (actChDuty (fresh s))

def actChPhase (s : State) : State := s.ixIssued 7
def execActionChPhase (s : State) : Result := .next (actChPhase (fresh s))

/-- SAMPLE: a switch input's level, or one conversion without averaging (R345), is reported at once. -/
def actSample (high : Bool) (mv : Nat) (s : State) : State :=
  match s.takeAct 8 with
  | none => s
  | some (a, s) =>
    if a.target < 64 then
      if s.shut (wSW a.target) then s.evRefused a.ev
      else (s.reportAll 2 a.target (b2n (s.swActive a.target high))).evDone a.ev
    else if s.shut (wAN (a.target - 64)) then s.evRefused a.ev
    else (s.reportAll 3 (a.target - 64) (s.anCode (a.target - 64) mv)).evDone a.ev

def execActionSample (x : PinReading) (s : State) : Result := .next (actSample x.high x.mv.toNat (fresh s))

/-- SET_SIGNAL: ARG extended under SIGNED. -/
def actSetSignal (s : State) : State :=
  match s.takeAct 9 with
  | none => s
  | some (a, s) =>
    let g := s.genOf wSignal
    let i := a.target
    if s.shut wSignal || s.sig g SIG_ENTRY.VALID i != 1 || s.sig g SIG_ENTRY.SRC i != 6 then s.evRefused a.ev
    else (s.sigStore i (extend64 (s.sigSigned g i) 32 (a.arg % 2 ^ 32))).evDone a.ev

def execActionSetSignal (s : State) : Result := .next (actSetSignal (fresh s))

def actMeMove (s : State) : State := s.ixIssued 10
def execActionMeMove (s : State) : Result := .next (actMeMove (fresh s))

def actMeMode (s : State) : State := s.ixIssued 11
def execActionMeMode (s : State) : Result := .next (actMeMode (fresh s))

/-- GROUPS: disarms first (R309). -/
def actGroups (s : State) : State :=
  match s.takeAct 12 with
  | none => s
  | some (a, s) => ((s.groupDisarm (a.arg / 65536)).groupArm (a.arg % 65536)).evDone a.ev

def execActionGroups (s : State) : Result := .next (actGroups (fresh s))

/-! ## Actions sent to IX in advance (R311) -/

/-- The copy of AX0 on IX, in nanoseconds. -/
def State.ixNow (s : State) : Int := ((s.ax0.ixSec * billion + s.ax0.ixNs : Nat) : Int)

/-- The event with the earliest tag that IX's copy of AX0 has reached. -/
def State.timedDue (s : State) : Option (Nat × ArmedEv) :=
  (s.evp.armed.filter fun x => x.2.timed && decide (x.2.target ≤ s.ixNow)).foldl (fun m x => match m with
    | none => some x
    | some y => if x.2.target < y.2.target then some x else some y) none

/-- The action of an event on IX, and the end of its occurrence. -/
def State.timedAct (s : State) (i arg : Nat) : State :=
  match s.ixAction (s.rd wEvp EVP_ENTRY.ACTION i) (s.rd wEvp EVP_ENTRY.TARGET i) arg with
  | none => s.evRefused i
  | some t => t.evDone i

/-- An armed event whose time has come: its occurrences up to now and its next target, then its action. -/
def State.timedOne (s : State) (i : Nat) (a : ArmedEv) : State :=
  let r := s.evRepeat i
  let k := if r = 0 then 1 else ((s.ixNow - a.target) / (r : Int)).toNat + 1
  let arg := s.rd wEvp EVP_ENTRY.ARG i
  (((s.evOverrun i k).wr wEvp EVP_FIRED.TIME s.time80 i).evAdvance i a k).timedAct i arg

/-- IX applies an action at its tagged time. -/
def timedApply (s : State) : State :=
  match s.timedDue with
  | none => s
  | some (i, a) => s.timedOne i a

def execIxTimedActionApply (s : State) : Result := .next (timedApply (fresh s))

end Sys2Proof.Machine
end

