-- ==== Sys2Proof/Machine/Fabric.lean ====
section
/-! DEFINITION. The commands and events of the fabric, AUTH and the egress readers (05, 11): cut-through, verification and appending, ceilings
and the epoch, dequeue and the ends of a copy, cell errors and leases, flushes and FRER timeouts. -/

namespace Sys2Proof.Machine

/-! ## Cut-through (R139) -/

/-- A copy of a frame in reception has its threshold in the Stockpile. With CT_THR 0 it is stored and forwarded (R138). -/
def State.cutReady (s : State) (it : PipeItem) (c : Copy) : Bool := c.ct && s.hopCtThr c.dest != 0 && s.hopCtThr c.dest * 64 ≤ it.data.length

def cutThrough (s : State) : State :=
  match s.fab.pipe.find? (fun i => i.stage == .atCut && i.ready.any (s.cutReady i)) with
  | none => s
  | some it =>
    let go := it.ready.filter (s.cutReady it)
    let s := s.mapItem it.fid fun x => { x with ready := x.ready.filter fun c => !(go.contains c) }
    s.each go State.dispatch

def execCutThroughEnqueue (s : State) : Result := .next (cutThrough (fresh s))

/-! ## AUTH at stage 5 (R275 to R279) -/

/-- The secured PDU of an item (R273). -/
def State.securedPdu (s : State) (it : PipeItem) (f : Frame) : List Nat :=
  match planRoute it.plan with
  | some i => if isEthFrame f then it.data.drop (s.ent (s.tabGen wRoute it.gen) wRoute RT_ENTRY.PDU_OFS i) else it.data
  | none => it.data

/-- The first item that waits at stage 5 under a context. -/
def State.verifying (s : State) (c : Nat) : Option (PipeItem × Frame) :=
  (s.fab.pipe.find? fun i => i.stage == .atVerify && i.inCtx == c).bind fun it => (s.frame it.fid).map fun f => (it, f)

/-- An engine without its microcode, or with it being loaded, leaves the queue to the others (R422, R423). -/
def State.cmacWorks (s : State) (e : Nat) : Bool := !s.inRom (wCmac e) && !s.activating (.cmac e)

/-- No engine has its microcode. -/
def State.cmacRom (s : State) : Bool := (List.range 4).all fun e => s.inRom (wCmac e)

/-- The item has passed stage 5. -/
def State.itemVerified (s : State) (it : PipeItem) (f : Frame) (strip : Nat) : State :=
  let it := { it with strip, secured := true, cand := none }
  (s.mapItem f.fid fun _ => it).afterVerify it f

/-- An item whose MAC is good goes on with the value it found. -/
def State.candTaken (s : State) (c cand : Nat) (it : PipeItem) (f : Frame) : State :=
  let strip := s.stripLen (s.tabGen wAuth it.gen) c (s.securedPdu it f).length
  (s.verified c cand).itemVerified it f strip

def authItem (c e : Nat) (s : State) : State :=
  match s.verifying c with
  | none => s
  | some (it, f) =>
    match it.cand with
    | some cand => if s.ceilBlocks c cand then s else s.candTaken c cand it f
    | none =>
      if s.cmacRom then s.stopItem wAuth .failed 0xA6 f.fid
      else if !s.cmacWorks e then s
      else
        let r := s.authVerify (s.tabGen wAuth it.gen) c e (s.securedPdu it f)
        match r.2 with
        | .pass strip => r.1.itemVerified it f strip
        | .ended d reason => r.1.stopItem wAuth d reason f.fid
        | .waits cand => r.1.mapItem f.fid fun x => { x with cand := some cand }

def execAuthVerify (c : Fin 4096) (e : Fin 4) (s : State) : Result := .next (authItem c e (fresh s))

/-! ## AUTH at stage 8 (R280) -/

/-- The first copy that waits for a trailer under a context. -/
def State.appendNext (s : State) (c : Nat) : Option Copy := s.appending.find? (·.outCtx == c)

/-- What carries the PDU, and how long it may become (R236). -/
def appendLimit (c : Copy) : Nat :=
  if isCanPort c.dest then (match c.can with
    | some h => canLimit h.fmt
    | none => 8)
  else if isLinPort c.dest then 8 else 2048

/-- An Ethernet copy takes a trailer only as a PDU assembly build (row 1); a copy for a ring as one, or with the message it carries. -/
def appendForm (c : Copy) : Bool :=
  c.pduBuild || isCanPort c.dest || isLinPort c.dest || (isRing c.dest && (c.can.isSome || isLinPort c.src))

def State.leaveAppend (s : State) (cid : Nat) : State :=
  s.setFab { s.fab with appendQ := s.fab.appendQ.filter (· != cid), appendWait := s.fab.appendWait.filter (·.cid != cid) }

/-- The copy with its secured PDU goes on. -/
def State.appended (s : State) (c : Copy) (d : List Nat) : State :=
  let s := s.leaveAppend c.cid
  if isCanPort c.dest then
    let fmt := match c.can with
      | some h => h.fmt
      | none => 0
    let p := c.dest - 0x10
    s.setTxq p ((s.txq p).map fun x => if x.cid = c.cid then { x with outCtx := 0, data := canPad fmt d } else x)
  else if isLinPort c.dest then s.linEnqueue (c.dest - 0x20) { c with outCtx := 0, data := d }
  else
    let data := match c.wrap, c.can with
      | some w, _ => fillTemplate w d
      | none, some h => vcxCan h c.src d
      | none, none => vcxLin c.linId c.src d
    let c := { c with outCtx := 0, data }
    if c.dest < 0x10 then s.startSend c.dest c else s.ringEnqueue c

/-- The copy ends at stage 8. -/
def State.appendEnded (s : State) (c : Copy) (d : Disp) (reason : Nat) : State :=
  let s := s.leaveAppend c.cid
  let s := if isCanPort c.dest then s.setTxq (c.dest - 0x10) ((s.txq (c.dest - 0x10)).filter (·.cid != c.cid))
    else if c.dest < 0x10 then s.setReader c.dest none else s
  s.endCopy wAuth c d reason

def authCopy (c e : Nat) (s : State) : State :=
  match s.appendNext c with
  | none => s
  | some x =>
    if s.cmacRom then s.appendEnded x .failed 0xA6
    else if !s.cmacWorks e then s
    else
    let part := if isCanPort x.dest then x.data else x.pdu
    let r := s.authAppend c e part (appendLimit x) (appendForm x)
    match r.2 with
    | .data d => r.1.appended x d
    | .ended k reason => r.1.appendEnded x k reason
    | .waits => r.1

def execAuthAppend (c : Fin 4096) (e : Fin 4) (s : State) : Result := .next (authCopy c e (fresh s))

/-! ## Ceilings and the epoch (R281, R284) -/

/-- R281: the background write completes; an item that waited for it goes on with it, a copy through CMAC engine e, which it had not
reached. A value beyond RESERVE takes a ceiling of its own. -/
def ceilWrite (c e : Nat) (s : State) : State :=
  if !s.guard.ceilPend.contains c then s
  else
    let waits := s.ceilBlocks c (s.fv c + 1)
    let s := s.ceilWritten c
    match s.verifying c with
    | none => if waits then authCopy c e s else s
    | some (it, f) => match it.cand with
      | none => s
      | some cand => (if s.ceilBlocks c cand then s.setAonFv c (s.fv c) (cand + s.reserve) else s).candTaken c cand it f

def execAuthCeilWrite (c : Fin 4096) (e : Fin 4) (s : State) : Result := .next (ceilWrite c e (fresh s))

/-- Nothing but the register's own card can refuse the write. -/
def State.writeOpen (s : State) (init w ofs : Nat) : Bool :=
  s.reaches init && !s.writeIgnored w ofs && (s.commonKinds init w ofs).isEmpty

/-- R284, R293: a write of AUTH_EPOCH. A value that is not adopted also sets EPOCH_LOW. -/
def epochWrite (init v : Nat) (s : State) : State :=
  let low := !s.epochNew v
  let s := if low && s.writeOpen init wAuth 0x144 && !s.isSafe wAuth then s.sticky wAuth AUTH_STAT.EPOCH_LOW else s
  s.cmdWrite init wAuth 0x144 (v % 256) (whenK (low || s.isSafe wAuth) .state) fun s => s.offerEpoch v

def execAuthEpochWrite (init : Initiator) (v : BitVec 24) (s : State) : Result := .next (epochWrite init.code v.toNat (fresh s))

/-! ## Key-slot session leases (R291, R458) -/

def keyLease (o : KeyOp) (s : State) : State :=
  match o with
  | .verify c e => match s.verifying c with
      | none => s
      | some (_, f) => (s.leaseRevoked (wCmac e)).stopItem wAuth .failed 0x30 f.fid
  | .append c e => match s.appendNext c with
      | none => s
      | some x => (s.leaseRevoked (wCmac e)).appendEnded x .failed 0x30
  | .protect p => match s.sending p with
      | none => s
      | some x =>
        if s.secyOn p && (s.txSc p).isSome && x.outCtx == 0 then
          (s.leaseRevoked (wGcm (gcmEngine p true))).readerBad p x wMacsec .failed 0x30
        else s
  | .receive p => match s.rxOpen p with
      | none => s
      | some x => match x.fid.bind s.frame with
        | none => s
        | some f =>
          if s.secyOn p && s.rd wMacsec (MSEC_PORT.VALIDATE.elem p) != 0 && (secTag f.data).isSome then
            ((s.leaseRevoked (wGcm (gcmEngine p false))).setRxOpen p (some { x with fid := none })).openFailed p f.fid .failed 0x30 0x30
          else s

def execKeySessionLeaseExpiry (o : KeyOp) (s : State) : Result := .next (keyLease o (fresh s))

/-! ## The egress reader (05, transition table) -/

/-- A port whose GCM engine is being loaded sends nothing meanwhile (R422). -/
def egressDequeue (p : Nat) (s : State) : State :=
  if s.hopDown p || (s.sending p).isSome || (s.secyOn p && s.activating (.gcm (gcmEngine p true))) then s
  else
    let s := ((s.refreshCredit p).markPassed p).startWaits p
    match s.serveClass p with
    | none => s
    | some c => s.dequeue p c

def execEgressDequeue (p : Fin 16) (s : State) : Result := .next (egressDequeue p (fresh s))

/-- R154, R174, R176: the copy has been sent, padded to 60 bytes and with its FCS. -/
def State.copySent (s : State) (p : Nat) (c : Copy) : State :=
  let sent := c.data ++ List.replicate (60 - c.data.length) 0
  let s := (s.lineOut p sent false).count (wEth p) ETH_TX_OK.COUNT
  let s := s.count (wEth p) ETH_TX_BYTES.COUNT 0 (sent.length + 4)
  let s := if c.untimed then (s.count wStamp STP_UNTIMED.COUNT).readerEnd p c (wHop p) .untimed 0x98 else s.readerEnd p c (wHop p) .delivered 0
  s.looped p sent false

/-- The copy in transmission is whole. One whose frame was in reception at its start passes MACsec now. -/
def lastByteSent (p : Nat) (s : State) : State :=
  match s.sending p with
  | none => s
  | some c =>
    if c.outCtx ≠ 0 ∨ s.frameOpen c.fid then s
    else
      let x := if c.sealed then (s, Secured.pass c.data) else s.secProtect p c.data
      match x.2 with
      | .ended d reason => x.1.readerBad p c wMacsec d reason
      | .pass data =>
        let c := { c with data, sealed := true }
        if s.maxFrame p < wireBytes c then x.1.oversized p c else x.1.copySent p c

def execEgressLastByteSent (p : Fin 16) (s : State) : Result := .next (lastByteSent p (fresh s))

/-- R140. -/
def ctUnderrun (p : Nat) (s : State) : State :=
  match s.sending p with
  | none => s
  | some c => if c.ct then (s.readerBad p c (wHop p) .dropped 0x23).raiseCt p else s

def execCtUnderrun (p : Fin 16) (s : State) : Result := .next (ctUnderrun p (fresh s))

/-! ## Cell errors and leases (R135, R136) -/

/-- The cell is retired: the frame keeps its other cells, and every later read of it fails. A frame that has lost a cell already does not lose
it again. -/
def State.retireCell (s : State) (fid : Nat) : State :=
  if (s.frame fid).any (·.ecc) then s else
  let s := s.mapFrame fid fun f => { f with ecc := true, cells := f.cells - 1 }
  let s := s.setFab { s.fab with retired := s.fab.retired + 1 }
  ((s.wr wStockpile STK_RETIRED.RETIRED s.fab.retired).sticky wStockpile STK_STAT.ECC_UNCORR).event wStockpile 0

def eccUncorr (x : CellRead) (s : State) : State :=
  match x with
  | .eth p => match s.sending p with
      | none => s
      | some c => (s.retireCell c.fid).readerBad p c (wHop p) .failed 0x31
  | .can p => match s.canSending p with
      | some (.copy cid) => match (s.txq p).find? (·.cid == cid) with
          | some c =>
            let s := (s.retireCell c.fid).setTxq p ((s.txq p).filter (·.cid != cid))
            (s.setCanSending p none).endCopy (wCan p) c .failed 0x31
          | none => s
      | _ => s
  | .dma r => match look s.fab.ringQ r [] with
      | [] => s
      | c :: _ => (s.retireCell c.fid).ringHeadEnd r .failed 0x31

def execStockpileEccUncorr (x : CellRead) (s : State) : Result := .next (eccUncorr x (fresh s))

/-- The revocation of a cell lease (R135): in the Stockpile, and in the holder's window. -/
def State.cellRevoked (s : State) (w : Nat) : State :=
  ((s.sticky wStockpile STK_STAT.LEASE_REV).event wStockpile 1).leaseRevoked w

def cellLease (h : CellHolder) (s : State) : State :=
  match h with
  | .writer p => match s.rxOpen p with
      | none => s
      | some x => match x.fid with
        | none => s
        | some fid => (((s.cellRevoked (wEth p)).setRxOpen p (some { x with fid := none })).openFailed p fid .failed 0x30 0x30)
  | .reader p => match s.sending p with
      | none => s
      | some c => (s.cellRevoked (wHop p)).readerBad p c (wHop p) .failed 0x30
  | .dma r => if look s.fab.ringQ r [] = [] then s else (s.cellRevoked wHost).ringHeadEnd r .failed 0x30
  | .stages => match s.fab.pipe.find? (fun it => !s.frameOpen it.fid) with
      | none => s
      | some it => (s.cellRevoked wFabric).stopItem wFabric .failed 0x30 it.fid

def execStockpileLeaseExpiry (h : CellHolder) (s : State) : Result := .next (cellLease h (fresh s))

/-! ## Flush (R146) -/

/-- The classes of FLUSH_MASK. -/
def State.flushClasses (s : State) (p : Nat) : List Nat := allClasses.filter fun c => bit (s.rd (wHop p) HOP_FLUSH_MASK.MASK) c

def execHopperFlush (init : Initiator) (p : Fin 16) (s : State) : Result :=
  .next ((fresh s).cmdField init.code (wHop p) HOP_CTRL.FLUSH [] fun s =>
    (s.hopDrain p (s.flushClasses p) .dropped 0x22).wr (wHop p) HOP_CTRL.FLUSH 1)

def flushDone (p : Nat) (s : State) : State :=
  if s.on (wHop p) HOP_CTRL.FLUSH then (s.wr (wHop p) HOP_CTRL.FLUSH 0).event (wHop p) 2 else s

def execFlushComplete (p : Fin 16) (s : State) : Result := .next (flushDone p (fresh s))

/-! ## FRER (R152) -/

def frerTimeout (i : Nat) (s : State) : State :=
  if s.on wFabric FAB_FRER_REC.EN i ∧ s.rd wFabric FAB_FRER_REC.RESET_TO i ≠ 0 ∧ (s.fab.frerRec.find? (·.1 == i)).isSome then
    (s.setFab { s.fab with frerRec := erase s.fab.frerRec i }).count wFabric FAB_FRER_RESETS.COUNT i
  else s

def execFrerResetTimeout (i : Fin 256) (s : State) : Result := .next (frerTimeout i (fresh s))

end Sys2Proof.Machine
end

