-- ==== Sys2Proof/Machine/Guard.lean ====
section
/-! DEFINITION. The commands of the guard group (10, 11): refill, unblocking, secure channels and associations, the switch. -/

namespace Sys2Proof.Machine

/-! ## Weighbridge and stream filters -/

/-- REFILL: both buckets of POL are full (R268). -/
def State.wbRefill (s : State) (init : Nat) : State :=
  s.cmdField init wWeigh WB_CMD.REFILL [] fun s =>
    s.fillBucket (s.genOf wWeigh) (s.rd wWeigh WB_SEL.POL)

def execWbRefill (init : Initiator) (s : State) : Result := .next ((fresh s).wbRefill init.code)

/-- Writing 1 to BLOCKED of the selected filter (R261); refused in the Sieve's safe state (R270). -/
def State.streamUnblock (s : State) (init : Nat) : State :=
  s.cmdWrite init wSieve 0x1C2 128 (whenK (s.isSafe wSieve) .state) fun s => s.wr wSieve STRM_CFG.BLOCKED 0 (s.rd wSieve STRM_SEL.STRM)

def execStreamUnblock (init : Initiator) (s : State) : Result := .next ((fresh s).streamUnblock init.code)

/-! ## MACsec (R285, R288) -/

/-- What R285 refuses, after the writes before it. -/
def State.scKinds (s : State) (k v : Nat) : List Kind :=
  let s := s.secyAll
  whenK (s.isSafe wMacsec || 6 ≤ fieldOf v MSEC_SC.PORT || s.saOn k 0 || s.saOn k 1 || s.secondTx k v) .state

def State.scWrite (s : State) (init v : Nat) : State :=
  s.cmdWrite init wMacsec 0x17B (v % 256) (s.scKinds s.selSc v) fun s => s.secyPut (.sc s.selSc v)

def execMacsecScWrite (init : Initiator) (v : BitVec 96) (s : State) : Result := .next ((fresh s).scWrite init.code v.toNat)

def State.saKinds (s : State) (k a v : Nat) : List Kind :=
  let s := s.secyAll
  whenK (s.isSafe wMacsec || (s.saOn k a && !s.onlyClears k a v) || s.anClash k a v ||
    (s.onlyClears k a v && s.scState k == scEnc && s.encSa k == a)) .state

def State.saWrite (s : State) (init v : Nat) : State :=
  s.cmdWrite init wMacsec 0x1A3 (v % 256) (s.saKinds s.selSc s.selSa v) fun s => s.secyPut (.sa s.selSc s.selSa v)

def execMacsecSaWrite (init : Initiator) (v : BitVec 224) (s : State) : Result := .next ((fresh s).saWrite init.code v.toNat)

/-- The row that refuses SWITCH is ENC's alone. -/
def State.switchKinds (s : State) (k : Nat) : List Kind :=
  whenK (s.isSafe wMacsec || (s.scState k == scEnc && !s.secyAll.saOn k (1 - s.encSa k))) .state ++
    whenK (s.on wMacsec MSEC_SC_CTRL.SWITCH k) .cmdBusy

def State.secySwitch (s : State) (init : Nat) (autoSw : Bool) : State :=
  let k := s.selSc
  s.cmdWrite init wMacsec 0x17C (128 + b2n autoSw * 64)
    (s.switchKinds k)
    fun s => (s.wr wMacsec MSEC_SC_CTRL.AUTO_SW (b2n autoSw) k).switchSc k

def execMacsecSwitch (init : Initiator) (autoSw : Bool) (s : State) : Result := .next ((fresh s).secySwitch init.code autoSw)

end Sys2Proof.Machine
end

