-- ==== Sys2Proof/Machine/Lin.lean ====
section
/-! DEFINITION. The commands and events of the LIN masters and their transceivers (08_can_lin_ports.md). -/

namespace Sys2Proof.Machine

/-- The rows on EN of the runner's table. -/
def State.linFollowEn (s : State) (p : Nat) : State :=
  if s.on (wLin p) LIN_CFG.EN then (if s.linState p = linOff then s.setLinState p linIdle else s)
  else if s.linState p = linOff then s
  else (s.linStop p linOff).linDropAll p 0x5A

def linCfgFields : List Field := [LIN_CFG.EN, LIN_CFG.BREAK, LIN_CFG.DELIM]

def linCfgWrite (p v : Nat) (s : State) : State := (s.wrWide (wLin p) linCfgFields v).linFollowEn p

/-- LIN_CFG written with EN 1; `low` are the other bits. -/
def execLinEnable (init : Initiator) (p : Fin 12) (low : Fin 128) (s : State) : Result :=
  .next ((fresh s).cmdWrite init.code (wLin p) 0x170 (128 + low) [] (linCfgWrite p (128 + low)))

/-- LIN_CFG written with EN 0: unsent copies end with 0x5A. -/
def execLinDisable (init : Initiator) (p : Fin 12) (low : Fin 128) (s : State) : Result :=
  .next ((fresh s).cmdWrite init.code (wLin p) 0x170 low [] (linCfgWrite p low))

/-- R225: GO starts TABLE from IDLE and records a pending switch in RUN. -/
def schedGo (p t : Nat) (s : State) : State :=
  let s := s.wr (wLin p) LIN_SCHED_CMD.TABLE t
  if s.linState p = linRun then
    (s.setLin { s.lin with pendTab := insertAt s.lin.pendTab p t }).wr (wLin p) LIN_SCHED_STAT.PEND 1
  else s.linStart p t

def execLinSchedGo (init : Initiator) (p : Fin 12) (t : Fin 8) (s : State) : Result :=
  .next ((fresh s).cmdWrite init.code (wLin p) 0x173 (128 + t)
    (whenK (s.linState p == linOff || s.linState p == linSleep || s.isSafe (wLin p)) .state ++
      whenK (s.on (wLin p) LIN_SCHED_CMD.GO) .cmdBusy) (schedGo p t))

/-- R222: the entry in progress starts its slot. -/
def slotStart (p : Nat) (s : State) : State :=
  if s.linState p ≠ linRun ∨ (s.linSlot p).isSome then s
  else
    let x := s.slotOf p (s.linPos p)
    let s := s.setLinSlot p x
    if !x.sends && !x.expects then s
    else
      let s := (s.count (wLin p) LIN_HEADERS.COUNT).emit (.linHeader p (linPid x.id))
      if x.sends then s.emit (.linResponse p (s.linBytes p x.id) (s.linChecksum p x.id (s.linBytes p x.id))) else s

def execLinSlotStart (p : Fin 12) (s : State) : Result := .next (slotStart p (fresh s))

/-- R223: a whole response; with ROUTE 1 it becomes an item in one cell. -/
def responseDone (p : Nat) (data : List Nat) (s : State) : State :=
  match s.linSlot p with
  | none => s
  | some x =>
    if !x.expects || x.outcome != 0 || 1 < s.rd (wLinT p) LINT_CTRL.MODE then s
    else
      let w := wLin p
      let d := data.take (s.linLen p x.id)
      let s := (s.setLinSlot p { x with outcome := 1 }).count w LIN_RX_OK.COUNT
      let s := (s.fillLin p x.id d).wr w (LIN_FRAME_STAT.LAST.elem x.id) 1
      let s := if s.on w (LIN_FRAME_STAT.NEW.elem x.id) then s
        else (s.wr w (LIN_FRAME_STAT.NEW.elem x.id) 1).event w 0
      if s.on w (LIN_FRAME.ROUTE.elem x.id) then s.arrive (0x20 + p) 1 d none (some x.id) 0 else s

def execLinResponseComplete (p : Fin 12) (data : BitVec 64) (s : State) : Result :=
  .next (responseDone p (toBytes data.toNat 8) (fresh s))

/-- R223: a readback mismatch while the master sends. -/
def linBitError (p : Nat) (s : State) : State :=
  match s.linSlot p with
  | none => s
  | some x =>
    if !x.sends || x.outcome != 0 then s else (s.setLinSlot p { x with outcome := 5 }).slotOutcome p x 5

def execLinBitError (p : Fin 12) (s : State) : Result := .next (linBitError p (fresh s))

/-- The LAST code of an expected response that has not arrived whole. -/
def endCode (event : Bool) (e : LinEnd) : Nat :=
  match e with
  | .nothing => 2
  | .partialResp => 7
  | .checksum => if event then 6 else 3
  | .framing => if event then 6 else 4

/-- R223, R225, R370: DELAY ends. -/
def slotEnd (p : Nat) (e : LinEnd) (s : State) : State :=
  match s.linSlot p with
  | none => s
  | some x =>
    let waits := x.expects && x.outcome == 0
    let s := if waits then s.slotOutcome p x (endCode x.event e)
      else if x.sends && x.outcome == 0 then s.slotSent p x else s
    if look s.lin.sleepDue p false then s.linGoToSleep p
    else s.linAdvance p (waits && endCode x.event e == 6)

def execLinSlotEnd (p : Fin 12) (e : LinEnd) (s : State) : Result := .next (slotEnd p e (fresh s))

/-- R224: a write to byte 15 commits the buffer. -/
def execLinHostCommit (init : Initiator) (p : Fin 12) (i : Fin 64) (data : BitVec 64) (s : State) : Result :=
  .next ((fresh s).cmdWrite init.code (wLin p) (0x40F + 16 * i) (data.toNat % 256) [] fun s =>
    (s.linReplace p i).setLinData p i data.toNat)

/-- R221 and the card: an entry whose DELAY does not fit its frame. -/
def State.sentryBad (s : State) (p v : Nat) : Bool :=
  let ty := bits v 31 29
  let i := if ty = 3 then 0x3C else if ty = 4 then 0x3D else bits v 23 18
  decide (ty < 5) && (bits v 9 0 == 0 || !s.linDelayOk p (s.linLen p i) (bits v 9 0))

/-- R221, R225, R227: what a write that changes a schedule entry is refused for (R494). -/
def State.sentryRefused (s : State) (p e v : Nat) : Bool :=
  s.changes (wLin p) (0x200 + 4 * e) v && (s.isSafe (wLin p) || s.linBusyEntry p e || s.sentryBad p v)

/-- TYPE 6 and 7 store 5 (R222). -/
def sentryWrite (p e v : Nat) (s : State) : State :=
  let w := wLin p
  let s := (s.wr w (LIN_SENTRY.TYPE.elem e) (min 5 (bits v 31 29))).wr w (LIN_SENTRY.CTAB.elem e) (bits v 28 26)
  (s.wr w (LIN_SENTRY.ID.elem e) (bits v 23 18)).wr w (LIN_SENTRY.DELAY.elem e) (bits v 9 0)

def execLinSentryWrite (init : Initiator) (p : Fin 12) (e : Fin 128) (v : BitVec 32) (s : State) : Result :=
  .next ((fresh s).cmdWrite init.code (wLin p) (0x203 + 4 * e) (v.toNat % 256)
    (whenK (s.sentryRefused p e v.toNat) .state) (sentryWrite p e v.toNat))

/-! ## Transceivers -/

/-- A LIN transceiver's fault holds its transmitter off (LINT_STAT card): bit 0 TXD, 1 over-temperature. -/
def lintFault (p k : Nat) (st : Field) (s : State) : State :=
  if s.pwr.state == .backup || s.pwr.state == .off then s
  else (s.sticky (wLinT p) st).setLin { s.lin with fault := store s.lin.fault p (setBit (look s.lin.fault p 0) k) 0 }

def execLintTxdDomTimeout (p : Fin 12) (s : State) : Result := .next (lintFault p 0 LINT_STAT.TXD_DOM (fresh s))

/-- The transmitter stays on. -/
def lintBusDom (p : Nat) (s : State) : State :=
  if s.pwr.state == .backup || s.pwr.state == .off then s else s.sticky (wLinT p) LINT_STAT.BUS_DOM

def execLintBusDomTimeout (p : Fin 12) (s : State) : Result := .next (lintBusDom p (fresh s))

def execLintOvertemp (p : Fin 12) (s : State) : Result := .next (lintFault p 1 LINT_STAT.THERM (fresh s))

/-- The condition of a fault ends; a LIN transceiver has no undervoltage fault. -/
def lintClear (p : Nat) (f : TrxFault) (s : State) : State :=
  let k := match f with
    | .txdDom => 0
    | .overtemp => 1
    | .undervoltage => 2
  s.setLin { s.lin with fault := store s.lin.fault p (clrBit (look s.lin.fault p 0) k) 0 }

def execLintFaultClear (p : Fin 12) (f : TrxFault) (s : State) : Result := .next (lintClear p f (fresh s))

end Sys2Proof.Machine
end

