-- ==== Sys2Proof/Machine/Motion.lean ====
section
/-! DEFINITION. The commands and events of the motion engines (14_inputs_motion.md, "Motion engines"). -/

namespace Sys2Proof.Machine

/-- The engine names an input for tracking that is not in MODE 2 (R341). -/
def State.meBadInputs (s : State) (k : Nat) : Bool :=
  let bad := fun f => s.rd (wSW (s.rd (wME k) f)) SW_CFG.MODE != 2
  let t := s.rd (wME k) ME_CFG.TRACK
  (t == 1 && bad ME_INPUTS.HALL_A) || (t == 2 && (bad ME_INPUTS.HALL_A || bad ME_INPUTS.HALL_B))

/-- R347: position and speed are reported as their thresholds say. -/
def State.meReports (s : State) (k : Nat) : State := (s.unitReports 4 k).unitReports 5 k

/-- R348, R352: EN gives the bridge to the engine or takes it. -/
def meSetEn (k : Nat) (en : Bool) (s : State) : State :=
  let s := s.wr (wME k) ME_CFG.EN (b2n en)
  if en ∧ s.meState k = meOff then
    ((s.wr (wHB k) HB_CTRL.ME_OWN 1).wr (wME k) ME_STATE.STATE meIdle).hbSetMode k 0
  else if !en ∧ s.meState k = meIdle then
    ((s.wr (wHB k) HB_CTRL.ME_OWN 0).wr (wME k) ME_STATE.STATE meOff).hbSetMode k 0
  else s

/-- A write that keeps EN is none (R494). -/
def State.meEnKinds (s : State) (k : Nat) (en : Bool) : List Kind :=
  if b2n en = s.rd (wME k) ME_CFG.EN then []
  else whenK (s.meState k != meIdle && s.meState k != meOff) .state ++ whenK (en && s.meBadInputs k) .state ++
    whenK (s.isSafe (wME k)) .state

def execMeEnable (init : Initiator) (k : Fin 6) (en : Bool) (s : State) : Result :=
  .next ((fresh s).cmdWrite init.code (wME k) 0x140 (128 * b2n en)
    (s.meEnKinds k en) (meSetEn k en))

/-- R352: modes 5 to 7 are refused. -/
def execMeModeWrite (init : Initiator) (k : Fin 6) (mode : Fin 8) (s : State) : Result :=
  .next ((fresh s).cmdWrite init.code (wME k) 0x180 mode (whenK (4 < mode.val || s.isSafe (wME k)) .state) fun s => s.meModeCommand k mode)

/-- R352: the write of the last byte of ME_TARGET commands a move. -/
def execMeTargetWrite (init : Initiator) (k : Fin 6) (target : BitVec 32) (s : State) : Result :=
  .next ((fresh s).cmdWrite init.code (wME k) 0x187 (target.toNat % 256) (whenK (s.isSafe (wME k)) .state) fun s =>
    (s.wr (wME k) ME_TARGET.TARGET target.toNat).meCommand k (.move target.toInt))

/-- R353: SETPOS takes REF_POS and sets NORM, in IDLE only. -/
def execMeSetpos (init : Initiator) (k : Fin 6) (s : State) : Result :=
  .next ((fresh s).cmdField init.code (wME k) ME_CTRL.SETPOS
    (whenK (s.meState k != meIdle || s.isSafe (wME k)) .state) fun s =>
      (s.setPos k (toSigned (s.rd (wME k) ME_REF_POS.REF_POS) 32)).wr (wME k) ME_STATE.NORM 1)

/-- R349: each millisecond of drive, with the die's supply in mV. -/
def rampStep (k volt : Nat) (s : State) : State :=
  let s := s.mapMe k fun m => { m with volt := volt }
  if s.meState k = meDrive ∨ (s.meState k = meReverse ∧ (s.me k).revBrake = false) then
    (s.mapMe k fun m => { m with ms := m.ms + 1 }).meApplyDuty k
  else s

def execMeRampStep (k : Fin 6) (volt : Fin 65536) (s : State) : Result := .next (rampStep k volt (fresh s))

/-- R350: one sample in which the filtered current crossed zero, `us` after the last count; an early crossing is discarded. -/
def rippleSample (k us volt : Nat) (i : Int) (crossing : Bool) (s : State) : State :=
  if !s.meRipples k || !crossing then s
  else if 2 * us * s.meEmf k volt i < 1000000 * emfUnit then
    (s.count (wME k) ME_DISCARDED.COUNT).sticky (wME k) ME_STAT.RIPPLE
  else s.meCount k (s.rd (wME k) ME_STATE.DIRN == 0) us

def execMeRippleSample (k : Fin 6) (us : Fin 65536) (volt : BitVec 16) (i : BitVec 32) (crossing : Bool) (s : State) : Result :=
  .next ((rippleSample k us volt.toNat i.toInt crossing (fresh s)).meReports k)

/-- R350: 1.5 x T_exp passed without a count; none is inserted while |v_emf| is below 50 counts/s. -/
def rippleInsert (k us volt : Nat) (i : Int) (s : State) : State :=
  if !s.meRipples k || decide (s.meEmf k volt i < 50 * emfUnit) then s
  else ((s.count (wME k) ME_INSERTED.COUNT).sticky (wME k) ME_STAT.RIPPLE).meCount k (s.rd (wME k) ME_STATE.DIRN == 0) us

def execMeRippleInsert (k : Fin 6) (us : Fin 65536) (volt : BitVec 16) (i : BitVec 32) (s : State) : Result :=
  .next ((rippleInsert k us volt.toNat i.toInt (fresh s)).meReports k)

/-- R351: one Hall edge; with a pair the direction comes from the phase, with one input it is the commanded or last one. Only inputs in
MODE 2 are read (R341). -/
def hallEdge (k us : Nat) (up : Bool) (s : State) : State :=
  let t := s.rd (wME k) ME_CFG.TRACK
  let st := s.meState k
  if st = meOff || s.meBadInputs k then s
  else if t = 2 then s.meCount k up us
  else if t = 1 ∧ (st ≠ meIdle ∨ (s.me k).coast) then s.meCount k (s.rd (wME k) ME_STATE.DIRN == 0) us
  else s

def execMeHallEdge (k : Fin 6) (us : Fin 65536) (up : Bool) (s : State) : Result := .next ((hallEdge k us up (fresh s)).meReports k)

/-- R353: an end stop, from BLANK x 2 ms after the entry to DRIVE; STALL_MS 0 switches detection off. -/
def endStop (k : Nat) (s : State) : State :=
  if s.rd (wME k) ME_STALL_MS.STALL_MS ≠ 0 ∧
      ((s.meState k = meDrive ∧ 2 * s.rd (wME k) ME_BLANK.BLANK ≤ (s.me k).ms) ∨
        (s.meState k = meReverse ∧ (s.me k).revBrake = false)) then s.meStop k
  else s

def execMeEndStop (k : Fin 6) (s : State) : Result := .next (endStop k (fresh s))

/-- R355: the estimate of one millisecond, from its mean current in mA. -/
def forceEstimate (k i : Nat) (s : State) : State :=
  if s.meState k ≠ meDrive then s.wr (wME k) ME_FORCE.FORCE 0
  else
    let v := (toSigned (s.rd (wME k) ME_SPEED.SPEED) 16).natAbs
    let bw := max 1 (s.rd (wME k) ME_PINCH_WIN.BASE_WIN)
    let est := s.meEstimates k
    let f := forceScaled (s.rd (wME k) ME_PINCH_K.KI) (s.rd (wME k) ME_PINCH_K.KS) bw i v (s.me k).samples
    let s := s.mapMe k fun m => { m with samples := m.samples ++ [(i, v)] }
    if !est then s.wr (wME k) ME_FORCE.FORCE 0
    else
      let s := s.wr (wME k) ME_FORCE.FORCE (min 65535 (f / (1000 * bw)))
      if max 1 (s.rd (wME k) ME_PINCH_LIM.F_LIM) * 1000 * bw < f ∧ s.meInZone k then s.mePinch k else s

def execMeForceEstimate (k : Fin 6) (ma : Fin 65536) (s : State) : Result := .next (forceEstimate k ma (fresh s))

/-- R352: REV_BRK elapses after a pinch. -/
def reverseBrakeEnd (k : Nat) (s : State) : State :=
  if s.meState k = meReverse ∧ (s.me k).revBrake then s.meReverseDrive k else s

def execMeReverseBrakeEnd (k : Fin 6) (s : State) : Result := .next (reverseBrakeEnd k (fresh s))

/-- R352, R354: PARK_TO passes during a park or sweep. -/
def parkTimeout (k : Nat) (s : State) : State :=
  if s.meState k = meDrive ∧ s.rd (wME k) ME_PARK_TO.PARK_TO ≠ 0 ∧
      ((s.me k).cmd = some .park ∨ (s.me k).cmd = some .sweep) then
    (s.sticky (wME k) ME_STAT.PARK_TO).meEnterBrake k resParkTo
  else s

def execMeParkTimeout (k : Fin 6) (s : State) : Result := .next (parkTimeout k (fresh s))

/-- R352: SETTLE ms pass without a count; tracking after a fault ends with it too (R351). -/
def settleElapsed (k : Nat) (s : State) : State :=
  let s := s.mapMe k fun m => { m with coast := false }
  if s.meState k = meBrake then s.meSettled k else s.wr (wME k) ME_SPEED.SPEED 0

def execMeSettleElapsed (k : Fin 6) (s : State) : Result :=
  .next (if s.meState k = meDrive ∨ s.meState k = meReverse then fresh s else settleElapsed k (fresh s))

end Sys2Proof.Machine
end

