-- ==== Sys2Proof/Machine/Reset.lean ====
section
/-! DEFINITION. What a reset does to the register fields (R19 to R23, R85, R387) and to what the units hold beside them, and the start
of a new run of GX as far as every reset shares it (R385, R386). -/

namespace Sys2Proof.Machine

/-! ## Register fields -/

def keyLo (k : Nat) : Nat := k % 1024
def keyOfs (k : Nat) : Nat := k / 1024 % 4096
def keyWin (k : Nat) : Nat := k / 1024 / 4096 % 4096
def keyIdx (k : Nat) : Nat := k / 1024 / 4096 / 4096

/-- The field lies at an offset: its own, or that of an element of its array. -/
def Field.at_ (f : Field) (ofs lo : Nat) : Bool :=
  f.lo == lo && f.ofs ≤ ofs && (if f.stride = 0 then f.ofs == ofs
    else (ofs - f.ofs) % f.stride == 0 && (ofs - f.ofs) / f.stride < f.count)

/-- The entries of the legacy map's registers in the register store (21). -/
def legacyIdx : Nat := 0x100000

/-- The field a key of the register store belongs to. -/
def fieldOfKey (k : Nat) : Option Field :=
  if keyIdx k = legacyIdx then legacyFields.find? fun f => f.at_ (keyOfs k) (keyLo k)
  else (fieldsAt (keyWin k)).find? fun f => f.at_ (keyOfs k) (keyLo k)

/-- The levels on SUP's pins and at the tamper sources are outside every reset. -/
def livePins (k : Nat) : Bool :=
  (keyWin k == wSup && keyOfs k == SUP_PINS.LIMP.ofs) || (keyWin k == wTamper && keyOfs k == TAMP_LIVE.LID.ofs)

/-- The RW fields with a bit in the offsets 8k to 8k + 7 of a window: parity group k (R82). -/
def rwGroup (w k : Nat) : List Field := (List.range 8).flatMap fun j => (fieldsIn w (8 * k + j)).filter fun f => f.acc == .rw

/-- Gives their reset values to the fields of the windows in reach that are not kept, each group of them with fresh parity. -/
def State.resetFields (s : State) (reach : Nat → Bool) (keeps : Nat → Field → Bool) : State :=
  let hit := fun k => reach (keyWin k) && !livePins k && (match fieldOfKey k with
    | some f => !keeps (keyWin k) f
    | none => true)
  let s := s.setParity (s.parity.filter fun c => !reach (c / 512) || (rwGroup (c / 512) (c % 512)).any (keeps (c / 512)))
  (s.setRegs (s.regs.filter fun p => !hit p.1)).setWbuf (s.wbuf.filter fun p => !reach (p.1 / 4096))

def Field.keptThrough (c : ResetCode) (f : Field) : Bool := f.kept.contains c

def isIxWindow (w : Nat) : Bool := match unitOf w with
  | some u => u.die == dieIX || u.die == diePS
  | none => false

/-- What a WDOG reset keeps: it leaves the IX core running (R385), so a live field of an IX unit goes on reading what its unit does. -/
def keepsW (w : Nat) (f : Field) : Bool :=
  f.keptThrough .W || (isIxWindow w && f.kept == [] && f.cls != .common)

/-- What goes on living in PARK and DEEP_PARK: the network states of the wake unit, which acts there (R385, R367), and the live fields of
SUP and of the transceivers. -/
def liveLow (f : Field) : Bool :=
  (f.cls == .wake && f.ofs / 64 == 0x14) || ((f.cls == .sup || f.cls == .cant) && f.kept == [])

def keepsLow (c : ResetCode) (_w : Nat) (f : Field) : Bool := f.keptThrough c || liveLow f

def allWindows : Nat → Bool := fun _ => true

/-! ## What GX holds beside its registers -/

/-- The debug port closes; SERVICE becomes FIELD (R397, R411). -/
def State.debugClose (s : State) : State :=
  (s.wr wLC LC_STATE.DBG 0).setTrust { s.trust with service := false, session := false, sessEnd := 0 }

/-- The key store, the message buffer and a running operation are lost with GX (R395). -/
def State.trustLost (s : State) : State :=
  s.setTrust { s.trust with keys := [], shadow := [], shKey := [], shOwner := [], blobRec := [], persist := none, buf := [],
                            run := none, unwrapping := [] }

/-- A network that waited in the ring's states is AWAKE again when its ring is off. -/
def State.ringsOff (s : State) : State :=
  let s := s.setWake { s.wake with ring := [], sleepInd := [], tTyp := [], ackDue := [], limpInd := [], alive := [] }
  s.each (allNets.filter isCanNet) fun s n =>
    let st := s.netState n
    if st = nsWait ∨ st = nsLimp ∨ st = nsReady then s.setNet n nsAwake else s

/-- What the flash and AON keep of the update group. -/
def UpdSt.offCopy (u : UpdSt) : UpdSt :=
  { UpdSt.reset with bankA := u.bankA, bankB := u.bankB, badA := u.badA, badB := u.badB, startSlot := u.startSlot }

def UpdSt.markBad (u : UpdSt) (bank : Nat) : UpdSt := if bank = 0 then { u with badA := true } else { u with badB := true }

/-- A reset other than MPWARM and UNIT ends a trial in fallback (R424). -/
def State.trialEnds (s : State) : State :=
  if s.on wUpd UPD_FW_STAT.TRIAL then
    let u := s.upd.markBad s.upd.trialBank
    let moved := s.upd.formerSlot != 0 && s.upd.formerSlot != s.rd wUpd UPD_CFG_STAT.SLOT
    ((s.setUpd { u with startSlot := if moved then u.formerSlot else u.startSlot }).wr wUpd UPD_FW_STAT.TRIAL 0).sticky
      wUpd UPD_FW_STAT.FALLBACK
  else s

/-- Everything GX keeps in its own memories and logic is lost; the units are rebuilt at the next start (R33). What IX and AON
hold stays. -/
def State.gxLost (s : State) : State :=
  let fv := s.guard
  let s := ((s.setHolds []).setFans []).setHost { HostSt.reset with perst := s.host.perst }
  let s := s.setCfg { CfgSt.reset with badA := s.cfg.badA, badB := s.cfg.badB }
  let s := (((s.setBench BenchSt.reset).setFab FabSt.reset).setEth EthSt.reset).setTbl TableSt.reset
  let s := s.setFlt { s.flt with spoil := [] }
  let s := ((s.setAx0 Ax0St.reset).setAxes []).setEvp EvpSt.reset
  let s := (s.setCan { CanSt.reset with fault := s.can.fault }).setLin { LinSt.reset with fault := s.lin.fault }
  let s := s.setGuard { GuardSt.reset with aonFv := fv.aonFv, started := fv.started }
  let s := ((s.setGw GwSt.reset).setStamps StampSt.reset).trustLost
  let s := ((s.setUpd s.upd.offCopy).setDrk DrkSt.reset).setLeg LegSt.reset
  let s := s.setPins { s.pins with gxRun := false, heartbeat := false, irqLow := false, sfdpDone := false, flashMode := 0 }
  (s.setPwr { s.pwr with mpRun := false, dlyRun := false, wdFirst := false, mode := s.pwr.heldMode.getD 0 }).ringsOff

/-! ## Causes (R386) -/

def causePor : Nat := 0
def causeBor : Nat := 1
def causePin : Nat := 2
def causeSoft : Nat := 3
def causeLoad : Nat := 4
def causeWdog : Nat := 5
def causeTamper : Nat := 6
def causeWake : Nat := 7
def causeAbort : Nat := 8
def causeNone : Nat := 16

/-- The most far-reaching comes first; a tamper restart and a load failure act as a SOFT reset does. -/
def causeRank (c : Nat) : Nat :=
  if c ≤ causeLoad then c else if c = causeTamper then 5 else if c = causeWdog then 6 else if c = causeAbort then 7
  else if c = causeWake then 8 else 9

/-- A cause of the next start, beside those that wait for it already. -/
def State.startCause (s : State) (c wd : Nat) : State :=
  if causeRank c < causeRank s.pwr.cause then s.setPwr { s.pwr with cause := c, wdogCause := wd } else s

/-! ## The kinds of reset -/

/-- What every restart of GX ends: a trial, a park entry, a pending PARK, an open debug port. -/
def State.entryEnds (s : State) : State :=
  let s := s.trialEnds.setPwr { s.pwr with entryStep := none, memDone := false, ixDone := false, found := [],
                                           ixFail := s.pwr.ixFail && s.pwr.entryStep.isNone }
  s.clearPark.debugClose

/-- The IX core's own state is lost with its reset: inputs, dies, transceiver faults. -/
def State.ixLost (s : State) : State :=
  let s := s.setBody { BodySt.reset with hbSwitch := s.body.hbSwitch, me := s.body.me }
  let s := s.each (List.range 6) fun s k => (s.meForceEnd k).setMe k MeSt.reset
  (s.setCan { s.can with fault := [] }).setLin { s.lin with fault := [] }

/-- A reset of GX alone (WDOG row of R385): the channels first, by the heartbeat row. -/
def State.wdogReset (s : State) (why : Nat) : State :=
  let s := (s.heartbeatRow.entryEnds.startCause causeWdog why)
  let s := s.gxLost.resetFields allWindows keepsW
  s.setPwr { s.pwr with exact := false, wakeClk := s.clk }

/-- A reset of the IX core and GX (rows BOR, PIN and SOFT of R385) with a given code: the channels enter FAILOFF, the wake unit starts
anew with its AON fields (R378), and the MODE strap is sampled again. In PARK and DEEP_PARK the wake front
ends stay as they are armed. -/
def State.coreReset (s : State) (c : ResetCode) : State :=
  let low := s.parked
  let s := s.failOff.entryEnds
  let s := s.setPwr { s.pwr with heldMode := none }
  let s := (s.gxLost.ixLost).resetFields allWindows fun _ f => f.keptThrough c || (low && liveLow f)
  let s := s.allModes fun _ _ => ctrlFailoff
  let s := if low then s else s.wakeAll
  s.setPwr { s.pwr with modeDue := true, wakeClk := s.clk, exact := false }

/-- A SOFT reset with the cause it is recorded under. AUTH writes its exact values first (R282). -/
def State.softReset (s : State) (cause : Nat) : State :=
  let exact := s.gxOn || s.pwr.exact
  let s := if s.gxOn then s.authWriteBack else s
  let s := (s.startCause cause 0).coreReset .S
  s.setPwr { s.pwr with exact }

end Sys2Proof.Machine
end

