-- ==== Sys2Proof/Machine/TrustMsg.lean ====
section
/-! DEFINITION. Trust messages, key slots and tamper as operations (R397 to R412). -/

namespace Sys2Proof.Machine

/-! ## The message buffer (R399) -/

def State.trmOwner (s : State) : Nat := s.rd wAttest TRM_OWNER.OWNER

/-- Byte i of the buffer. -/
def State.trmByte (s : State) (i : Nat) : Nat := look s.trust.buf i 0

def State.trmBytes (s : State) (i n : Nat) : List Nat := (List.range n).map fun k => s.trmByte (i + k)

def State.trmPut (s : State) (i b : Nat) : State := s.setTrust { s.trust with buf := store s.trust.buf i b 0 }

/-- Writes bytes from offset 0. -/
def State.trmFill (s : State) (l : List Nat) : State :=
  s.setTrust { s.trust with buf := ((List.range l.length).zip l).foldl (fun b x => store b x.1 x.2 0) s.trust.buf }

/-- Clears and releases the buffer. A running operation is work held through it. -/
def State.trmFree (s : State) : State :=
  let s := s.setTrust { s.trust with buf := [], run := none }
  let s := ((s.wr wAttest TRM_CMD.GO 0).wr wAttest TRM_PTR.PTR 0).wr wAttest TRM_LEN.LEN 0
  s.wr wAttest TRM_OWNER.OWNER 0

/-- What an access of an initiator to the buffer's registers is refused for. -/
def State.trmKinds (s : State) (init : Nat) : List Kind := whenK (s.trmOwner != init) .state

/-- A claim: TRM_PTR may also be written while the buffer is free. -/
def State.trmClaim (s : State) (init ptr : Nat) : State :=
  (s.wr wAttest TRM_OWNER.OWNER init).wr wAttest TRM_PTR.PTR ptr

def State.trmPtr (s : State) : Nat := s.rd wAttest TRM_PTR.PTR

/-- A TRM_DATA access moves PTR on. -/
def State.trmStep (s : State) : State := s.wr wAttest TRM_PTR.PTR (s.trmPtr + 1)

/-! ## Messages (R400, R401) -/

def msgOp (m : List Nat) : Nat := m.getD 4 0
def msgArg (m : List Nat) : Nat := m.getD 5 0
def msgSession (m : List Nat) : Nat := m.getD 6 0
def msgNonce (m : List Nat) : Nat := beNat ((m.drop 24).take 32)
def msgBodyLen (m : List Nat) : Nat := beNat ((m.drop 56).take 2)
def msgBody (m : List Nat) : List Nat := (m.drop 60).take (msgBodyLen m)

def opAdvance : Nat := 1
def opRoot : Nat := 2
def opOpen : Nat := 3
def opClose : Nat := 4
def opNonce : Nat := 5
def opHss : Nat := 6
def opAttest : Nat := 7
def opRelease : Nat := 8

/-- The bytes of a body (R400). -/
def bodyLen (op arg : Nat) : Nat := if op = opAdvance ∧ arg = 1 then 1152 else if op = opRoot then 137 else 0

/-- The authority whose TRM pair signs a message in a life-cycle state, none for an unsigned one (R397, R402). -/
def msgSigner (lc op arg : Nat) : Option Nat :=
  if op = opAdvance then
    if lc = lcBlank then none else if arg = 4 then some 3 else if lc = lcMake then some 0
    else if lc = lcField then some 1 else if lc = lcService then some 2 else some 3
  else if op = opRoot ∨ op = opHss then
    if lc = lcMake then some 0 else if lc = lcField then some 1 else if lc = lcService then some 2 else if lc = lcReturn then some 3 else none
  else if op = opOpen then
    if lc = lcMake then some 0 else if lc = lcField then some 2 else if lc = lcReturn then some 3 else none
  else none

/-- The operation may run in the life-cycle state (R397, R402). -/
def lcAllows (lc op arg : Nat) : Bool :=
  if op = opAdvance then
    (lc == lcBlank && arg == 1) || (lc == lcMake && arg == 2) || ((lc == lcField || lc == lcService) && arg == 4) ||
      (lc != lcScrap && arg == 5)
  else if op = opRoot then
    (lc == lcMake && arg == 0) || ((lc == lcMake || lc == lcField) && 1 ≤ arg && arg ≤ 3) || (lc == lcReturn && arg == 3)
  else if op = opOpen then
    1 ≤ arg && (if lc = lcScrap then arg ≤ 1 else arg ≤ 2) && lc != lcService
  else if op = opHss then lc == lcMake || lc == lcField || lc == lcReturn
  else true

/-- The root secret a ROOT_INSTALL carries; none where the wrap does not check. -/
def rootCarried (m : List Nat) : Option (BitVec 256) :=
  let b := msgBody m
  Config.unwrap (Config.rootKek (b.take 97) (msgNonce m) (msgArg m)).toNat ((b.drop 97).take 40)

/-- Result 1. -/
def State.msgBad (s : State) (op : Nat) (m : List Nat) : Bool :=
  let arg := msgArg m
  let total := 60 + bodyLen op arg
  beNat (m.take 4) != 0x5654524D || msgOp m != op || msgBodyLen m != bodyLen op arg ||
    (match msgSigner s.lcState op arg with
      | none => m.length != total
      | some _ => m.length ≤ total + 96) ||
    beNat ((m.drop 8).take 16) != Config.deviceId.toNat ||
    (op == opOpen && (msgSigner s.lcState op arg).isSome && msgSession m == 0) ||
    (op == opRoot && s.trust.identity && (rootCarried m).isNone)

/-- An enabled tamper source is asserted now (R402, R407). -/
def State.tamperLive (s : State) : Bool :=
  (s.on wTamper TAMP_LIVE.LID && s.on wTamper TAMP_EN.LID) || (s.on wTamper TAMP_LIVE.MESH && s.on wTamper TAMP_EN.MESH) ||
    (s.on wTamper TAMP_LIVE.GLITCH && s.on wTamper TAMP_EN.GLITCH)

/-- Result 6. -/
def State.msgUnmet (s : State) (op arg : Nat) : Bool :=
  if op = opAdvance then (arg == 2 && !s.installed 1) || (arg == 4 && !s.installed 3)
  else if op = opRoot then s.currentRoot == some arg && s.tamperLive
  else if op = opOpen then s.lcState == lcField && (!s.installed 2 || s.pwr.tampered)
  else if op = opClose then s.debugLevel == 0
  else false

/-- The checks of R401 on a message, in the order of the codes. `ec` and `hs`: the two signatures verify under the keys of the
signing authority; those of an authority that is not programmed never do. -/
def State.msgResult (s : State) (op : Nat) (m : List Nat) (ec hs : Bool) : Nat :=
  let arg := msgArg m
  let signed := (msgSigner s.lcState op arg).isSome
  if s.msgBad op m then 1
  else if !s.on wAttest TRM_NV.NV || msgNonce m != s.rd wAttest TRM_NONCE.NONCE then 2
  else if !lcAllows s.lcState op arg then 3
  else if signed && !(ec && s.programmed) then 4
  else if signed && !hs then 5
  else if s.msgUnmet op arg then 6
  else if (op == opRoot || op == opHss) && !s.trust.identity then 7
  else 0

/-! ## Running operations -/

/-- GO starts: the operation runs with the result its checks gave. -/
def State.trmRun (s : State) (op : Nat) (m : List Nat) (r : Nat) : State :=
  (s.wr wAttest TRM_CMD.GO 1).setTrust { s.trust with run := some ⟨op, m, r⟩ }

/-- GO with an operation that carries a message; its check clears NV. A length of 0 ends with result 1. -/
def State.trmMessage (s : State) (op : Nat) (ec hs : Bool) : State :=
  let n := s.rd wAttest TRM_LEN.LEN
  let m := s.trmBytes 0 n
  (s.trmRun op m (if n = 0 then 1 else s.msgResult op m ec hs)).wr wAttest TRM_NV.NV 0

/-- A trust command is a write of GO with its OP, which takes effect first (R495). -/
def State.trmGo (s : State) (init op : Nat) (f : State → State) : State :=
  s.cmdWrite init wAttest 0x140 (128 + op) (s.trmKinds init ++ whenK (s.on wAttest TRM_CMD.GO) .cmdBusy)
    fun s => f (s.wr wAttest TRM_CMD.OP op)

def State.setRoot (s : State) (r : Nat) (v : Option Nat) : State :=
  let rest := s.trust.roots.filter (·.1 != r)
  s.setTrust { s.trust with roots := match v with
    | none => rest
    | some x => insertAt rest r x }

/-- Every key slot is emptied. -/
def State.slotsZero (s : State) : State :=
  let s := s.setRegs (s.regs.filter fun p => !(keyWin p.1 == wKS && 0x144 ≤ keyOfs p.1 && keyOfs p.1 < 0x14A))
  s.setTrust { s.trust with keys := [] }

/-- Every shadow is emptied. -/
def State.shadowsZero (s : State) : State :=
  let s := s.setRegs (s.regs.filter fun p => !(keyWin p.1 == wKS && keyOfs p.1 == 0x14B && keyLo p.1 == 6))
  s.setTrust { s.trust with shadow := [], shKey := [], shOwner := [], unwrapping := [] }

def lastIndex : Nat := 1048576

/-- A list of exactly n bytes. -/
def fixLen (n : Nat) (l : List (BitVec 8)) : List Nat := (l.map BitVec.toNat ++ List.replicate n 0).take n

/-- The effect of LC_ADVANCE. -/
def State.lcAdvance (s : State) (m : List Nat) : State :=
  let arg := msgArg m
  if arg = 1 then
    let b := msgBody m
    s.setTrust { s.trust with otp := 1, identity := true, digests := (List.range 24).map fun i => beNat ((b.drop (48 * i)).take 48) }
  else if arg = 2 then (s.setTrust { s.trust with otp := 2 }).setRoot 0 none
  else if arg = 4 then ((s.debugClose.setTrust { s.trust with otp := 3, service := false }).setRoot 1 none).setRoot 2 none
  else
    let s := s.setTrust { s.trust with otp := 4, service := false, roots := [], identity := false, blobs := [], mirror := 0 }
    s.slotsZero.wr wAttest HSS_STATE.STATE 0

/-- The effect of ROOT_INSTALL. -/
def State.rootInstall (s : State) (m : List Nat) : State :=
  let r := msgArg m
  let s := match rootCarried m with
    | some k => s.setRoot r (some k.toNat)
    | none => s
  if s.currentRoot = some r ∧ s.pwr.tampered then
    (s.setPwr { s.pwr with tampered := false }).wr wTamper TAMP_FIRST.SRC 0
  else s

/-- The effect of DEBUG_OPEN: FIELD becomes SERVICE; a signed session has its time limit. -/
def State.debugOpen (s : State) (m : List Nat) : State :=
  let timed := (msgSigner s.lcState opOpen (msgArg m)).isSome
  let s := if s.lcState = lcField then s.setTrust { s.trust with service := true } else s
  let s := s.wr wLC LC_STATE.DBG (msgArg m)
  s.setTrust { s.trust with session := timed, sessEnd := if timed then s.clk + msgSession m * 60000000000 / clkNs else 0 }

/-- The effect of HSS_INSTALL: a new key with index 0, its public key in the buffer, signed by the identity key. -/
def State.hssInstall (s : State) : State :=
  let s := s.setTrust { s.trust with mirror := 0, hssGen := s.trust.hssGen + 1 }
  let s := (s.wr wAttest HSS_STATE.STATE 1).wr wAttest HSS_INDEX.INDEX 0
  let pub := (Config.hssPublic s.trust.hssGen).map BitVec.toNat
  let l := (pub ++ fixLen 96 (Config.identitySign pub)).take 8192
  (s.trmFill l).wr wAttest TRM_LEN.LEN l.length

/-- The effect of ATTEST: the statement and its two signatures, which the checks at GO have made (R409, R410). -/
def State.attested (s : State) (m : List Nat) : State := (s.trmFill m).wr wAttest TRM_LEN.LEN m.length

/-- R401: the operation ends with its result; with a result above 0 it changes nothing. -/
def State.trmEnd (s : State) (r : Nat) : State :=
  let s := s.setTrust { s.trust with run := none }
  ((s.wr wAttest TRM_RESULT.RESULT r).wr wAttest TRM_CMD.GO 0).event wAttest 0

/-- An operation that runs ends. `ok`: its writes to flash and OTP read back right. -/
def State.trmDone (s : State) (ok : Bool) : State :=
  match s.trust.run with
  | none => s
  | some r =>
    if r.result ≠ 0 then s.trmEnd r.result
    else if !ok && (r.op == opAdvance || r.op == opHss || r.op == opAttest) then s.trmEnd 9
    else
      let s := if r.op = opAdvance then s.lcAdvance r.msg else if r.op = opRoot then s.rootInstall r.msg
        else if r.op = opOpen then s.debugOpen r.msg else if r.op = opClose then s.debugClose
        else if r.op = opNonce then
          (s.wr wAttest TRM_NONCE.NONCE ((Config.random s.draws).toNat % 2 ^ 256)).wr wAttest TRM_NV.NV 1 |>.setDraws (s.draws + 1)
        else if r.op = opHss then s.hssInstall
        else if r.op = opAttest then s.attested r.msg
        else s
      let s := s.trmEnd 0
      if r.op = opRelease then s.trmFree else s

/-! ## Key slots (R404 to R406) -/

def shEmpty : Nat := 0
def shLoading : Nat := 1
def shVerified : Nat := 2
def shFailed : Nat := 3

def State.ksSel (s : State) : Nat := s.rd wKS KS_SEL.SLOT
def State.shState (s : State) (k : Nat) : Nat := s.rd wKS KS_SH_STATE.SH_STATE k
def State.setShState (s : State) (k v : Nat) : State := s.wr wKS KS_SH_STATE.SH_STATE v k
def State.shLen (s : State) (k : Nat) : Nat := s.rd wKS KS_SH_STATE.SH_LEN k
def State.shOwner (s : State) (k : Nat) : Nat := look s.trust.shOwner k 0

/-- An initiator other than the lease owner. -/
def State.shKinds (s : State) (init k : Nat) : List Kind :=
  whenK (s.shState k != shEmpty && s.shOwner k != init) .state

/-- A byte of KS_SHADOW: the first takes the lease, the last starts the unwrap. -/
def State.shadowByte (s : State) (init k i b : Nat) : State :=
  if s.shState k = shVerified ∨ s.shState k = shFailed ∨ s.trust.unwrapping.contains k then s
  else
    let s := if s.shState k = shEmpty then
        (s.setShState k shLoading).setTrust { s.trust with shOwner := store s.trust.shOwner k init 0 }
      else s
    let t := { s.trust with shadow := store s.trust.shadow (k * 64 + i) b 0 }
    s.setTrust { t with unwrapping := if i + 1 = s.shLen k then addTo t.unwrapping k else t.unwrapping }

/-- The shadow of a slot is zeroed. -/
def State.shadowZero (s : State) (k : Nat) : State :=
  (s.setShState k shEmpty).setTrust { s.trust with
    shadow := s.trust.shadow.filter (fun p => p.1 / 64 != k), shKey := erase s.trust.shKey k, shOwner := erase s.trust.shOwner k,
    unwrapping := dropFrom s.trust.unwrapping k }

/-- What the unwrap of slot k gives, none where a check of R405 fails. -/
def State.unwrapped (s : State) (k : Nat) : Option Nat :=
  let w := s.rd wKS KS_ATTR.WSLOT k
  let n := s.shLen k
  if !s.on wKS KS_ATTR.REPL k || !s.keyUsable w useWrap (s.rd wKS KS_ATTR.LEN w) ||
      n != (if s.on wKS KS_ATTR.LEN k then 40 else 24) then none
  else (Config.unwrap (s.key w) ((List.range n).map fun i => look s.trust.shadow (k * 64 + i) 0)).map (·.toNat)

/-- The unwrap ends. -/
def State.unwrapDone (s : State) (k : Nat) : State :=
  if s.shState k ≠ shLoading ∨ s.trust.unwrapping.contains k = false then s
  else
    let r := s.unwrapped k
    let s := s.setTrust { s.trust with unwrapping := dropFrom s.trust.unwrapping k }
    match r with
    | some x => ((s.setShState k shVerified).setTrust { s.trust with shKey := insertAt s.trust.shKey k x }).event wKS 0
    | none => ((s.setShState k shFailed).sticky wKS KS_STAT.REPL_FAIL).event wKS 0

/-- COMMIT of slot k. -/
def State.shadowCommit (s : State) (k : Nat) : State :=
  let s := s.setTrust { s.trust with keys := insertAt s.trust.keys k (look s.trust.shKey k 0) }
  (s.wr wKS KS_VER.VER (s.rd wKS KS_VER.VER k + 1) k).shadowZero k

/-- KS_ATTR of a slot as its 32 bits. -/
def State.ksAttr (s : State) (k : Nat) : Nat :=
  [KS_ATTR.VALID, KS_ATTR.LEN, KS_ATTR.CMAC, KS_ATTR.GCM, KS_ATTR.WRAP, KS_ATTR.ROOT, KS_ATTR.REPL, KS_ATTR.WSLOT].foldl
    (fun a f => a + s.rd wKS f k * 2 ^ f.lo) 0

/-- The two copies of a blob at a trust-area offset. -/
def State.blob (s : State) (ofs copy : Nat) : Blob := look s.trust.blobs (ofs * 2 + copy) []
def blobSeq (b : Blob) : Nat := b.getD 5 0

/-- The copy a new blob overwrites: one that is absent, else the one with the lower sequence byte. -/
def State.olderCopy (s : State) (ofs : Nat) : Nat :=
  if s.blob ofs 0 = [] then 0 else if s.blob ofs 1 = [] then 1
  else if blobSeq (s.blob ofs 1) < blobSeq (s.blob ofs 0) then 1 else 0

/-- The key a blob holds for slot k, none where its root is not installed or its wrap fails. -/
def State.blobKey (s : State) (k : Nat) (b : Blob) : Option Nat :=
  match s.rootSecret (b.getD 4 0) with
  | none => none
  | some sec => (Config.unwrap (Config.slotKek sec k (beNat (b.take 4))).toNat (b.drop 8)).map (·.toNat)

/-- A slot is loaded from a blob (R404). -/
def State.slotLoad (s : State) (k : Nat) (b : Blob) (x : Nat) : State :=
  let a := beNat (b.take 4)
  let s := [KS_ATTR.VALID, KS_ATTR.LEN, KS_ATTR.CMAC, KS_ATTR.GCM, KS_ATTR.WRAP, KS_ATTR.ROOT, KS_ATTR.REPL, KS_ATTR.WSLOT].foldl
    (fun (s : State) f => s.wr wKS f (bits a f.hi f.lo) k) s
  let s := (s.wr wKS KS_ATTR.VALID 1 k).wr wKS KS_ATTR.ROOT (b.getD 4 0) k
  (s.wr wKS KS_VER.VER 0 k).setTrust { s.trust with keys := insertAt s.trust.keys k x }

/-- One record of section 0x0070: the copy with the higher sequence byte whose wrap checks. -/
def State.loadBlob (s : State) (k ofs : Nat) (c0 c1 : Blob) : State :=
  let put := fun (t : Tab Blob) i b => store t (ofs * 2 + i) b []
  let s := s.setTrust { s.trust with blobRec := insertAt s.trust.blobRec k ofs, blobs := put (put s.trust.blobs 0 c0) 1 c1 }
  let order := if blobSeq c0 < blobSeq c1 then [c1, c0] else [c0, c1]
  match order.findSome? fun b => (s.blobKey k b).map fun x => (b, x) with
  | some (b, x) => s.slotLoad k b x
  | none =>
    let s := if s.on wKS KS_STAT.LOADFAIL then s else s.wr wKS KS_LOADFAIL.SLOT k
    s.sticky wKS KS_STAT.LOADFAIL

/-- PERSIST can write: a record names the slot, the slot holds a key, and its root is installed. -/
def State.persistable (s : State) (k : Nat) : Bool :=
  (s.trust.blobRec.find? (·.1 == k)).isSome && s.on wKS KS_ATTR.VALID k && s.installed (s.rd wKS KS_ATTR.ROOT k)

/-- The blob PERSIST writes. -/
def State.newBlob (s : State) (k ofs : Nat) : Blob :=
  let a := s.ksAttr k
  let r := s.rd wKS KS_ATTR.ROOT k
  let seq := if s.blob ofs 0 = [] ∧ s.blob ofs 1 = [] then 0 else max (blobSeq (s.blob ofs 0)) (blobSeq (s.blob ofs 1)) + 1
  let n := if s.on wKS KS_ATTR.LEN k then 40 else 24
  let kek := (Config.slotKek ((s.rootSecret r).getD 0) k a).toNat
  toBytes a 4 ++ [r, seq % 256, 0, 0] ++ fixLen n (Config.wrap kek (s.key k) n)

/-- The write of a PERSIST ends. -/
def State.persisted (s : State) (ok : Bool) : State :=
  match s.trust.persist with
  | none => s
  | some k =>
    let s := (s.setTrust { s.trust with persist := none }).wr wKS KS_CMD.PERSIST 0
    if !ok || !s.persistable k then s.sticky wKS KS_STAT.PERS_FAIL
    else
      let ofs := look s.trust.blobRec k 0
      s.setTrust { s.trust with blobs := store s.trust.blobs (ofs * 2 + s.olderCopy ofs) (s.newBlob k ofs) [] }

/-! ## Tamper (R407, R408) -/

def tampEn (k : Nat) : Field := if k = 0 then TAMP_EN.LID else if k = 1 then TAMP_EN.MESH else TAMP_EN.GLITCH
def tampLive (k : Nat) : Field := if k = 0 then TAMP_LIVE.LID else if k = 1 then TAMP_LIVE.MESH else TAMP_LIVE.GLITCH

/-- R408: what the tamper unit does in every state but OFF. -/
def State.tamperZero (s : State) (k : Nat) : State :=
  let s := (s.setTrust { s.trust with roots := [], service := false }).authClear
  let s := if s.rd wAttest HSS_STATE.STATE = 1 then s.wr wAttest HSS_STATE.STATE 2 else s
  let s := (s.setPwr { s.pwr with tampered := true }).count wTamper TAMP_COUNT.COUNT
  let s := if s.rd wTamper TAMP_FIRST.SRC = 0 then s.wr wTamper TAMP_FIRST.SRC (k + 1) else s
  (s.troubleRecord 10 wTamper 0).event wTamper 0

/-- R381: the restart of a tamper event. The control mode of the channels is kept. -/
def State.tamperRestart (s : State) : State :=
  let ctrl := allChannels.map fun n => s.ctrl n
  let out := allChannels.map fun n => s.rd (wCh n) CH_STATE.OUT
  let s := (s.startCause causeTamper 0).entryEnds
  let s := (s.gxLost.ixLost).resetFields allWindows fun _ f => f.keptThrough .T
  let s := s.each allChannels fun s n => s.wr (wCh n) CH_STATE.CTRL (ctrl.getD n ctrlFailoff)
  let s := s.each allChannels fun s n => (s.wr (wCh n) CH_STATE.OUT (out.getD n 0)).chOutput n
  let s := s.each (List.range 6) fun s b => s.hbApply b
  let s := s.wakeAll
  s.setPwr { s.pwr with wakeClk := s.clk, exact := false }

/-- R408. GX is powered where GX_PWR_EN and GX_PGOOD are high: also in reset and through the self-test of a park entry. -/
def tamper (k : Nat) (s : State) : State :=
  let s := s.wr wTamper (tampLive k) 1
  if s.pwr.state = .off ∨ s.on wTamper (tampEn k) = false then s
  else
    let s := s.tamperZero k
    if s.gxOn || s.pwr.entryStep.isSome || (s.pins.pwrEn && s.pins.pgood) then
      let s := s.slotsZero.shadowsZero
      let s := if s.trust.run.isSome then s.trmEnd 8 else s
      s.debugClose.tamperRestart
    else s

end Sys2Proof.Machine
end

