-- ==== Sys2Proof/Machine/Supply.lean ====
section
/-! DEFINITION. Supply, power states, resets and self-test as operations (02_package_pins_supplies.md, 16_power_reset_selftest.md). -/

namespace Sys2Proof.Machine

/-! ## GX power (R69 to R72) -/

def State.running (s : State) : Bool := s.pwr.state == .run || s.pwr.state == .partialRun

/-- GX_PWR_EN goes low, and the off time starts. -/
def State.powerOff (s : State) : State :=
  ((s.setPins { s.pins with pwrEn := false, pgood := false, offTime := true, startWanted := false }).wr wSup SUP_PINS.PGOOD 0).wioSync

/-- A further start once the off time has ended. -/
def State.wantStart (s : State) : State := s.setPins { s.pins with startWanted := true }

/-- GX is in reset with its rails up, and nothing holds it there (R57, R380). -/
def State.releasable (s : State) : Bool :=
  s.running && s.pwr.entryStep.isNone && s.pins.pwrEn && s.pins.pgood && !s.pins.rstLow && !s.pins.bor && !s.gxOn

/-! ## Repair (R391 to R393) -/

def memHasSpares (m : Nat) : Bool := 1 ≤ m && m ≤ 14
def memKnown (m : Nat) : Bool := memHasSpares m || m == 0x10

/-- A failing bit: memory, word address, bit. -/
abbrev Fail := Nat × Nat × Nat

def MemFail.asFail (f : MemFail) : Fail := (f.mem.toNat, f.addr.toNat, f.bit.toNat)

def failRow (f : Fail) : Nat × Nat := (f.1, Config.memRow f.1 f.2.1)
def failCol (f : Fail) : Nat × Nat := (f.1, Config.memColumn f.1 f.2.1 f.2.2)

/-- The columns that get a spare: those with failing bits in 4 or more rows, at most 64, in the order found. -/
def spareCols (l : List Fail) : List (Nat × Nat) :=
  let l := l.filter fun f => memHasSpares f.1
  ((dedup (l.map failCol)).filter fun c => 4 ≤ (dedup ((l.filter fun f => failCol f == c).map failRow)).length).take 64

/-- The rows that still fail. -/
def failingRows (l : List Fail) : List (Nat × Nat) :=
  let cols := spareCols l
  dedup ((l.filter fun f => memHasSpares f.1 && !cols.contains (failCol f)).map failRow)

def spareRows (l : List Fail) : List (Nat × Nat) := (failingRows l).take 512
def fencedRows (l : List Fail) : List (Nat × Nat) := (failingRows l).drop 512

/-- FIX of a failure. -/
def fixOf (l : List Fail) (f : Fail) : Nat :=
  if !memHasSpares f.1 then 0 else if (spareCols l).contains (failCol f) then 2
  else if (spareRows l).contains (failRow f) then 1 else 3

/-- Stores the failures of a run: the first 16, their count, and the repair records. -/
def State.recordFails (s : State) (l : List Fail) : State :=
  let l := l.filter fun f => memKnown f.1
  let s := s.each (List.range 16) fun s k =>
    let f := l.getD k (0, 0, 0)
    (((s.wr wBist (BIST_FAIL.MEMID.elem k) f.1).wr wBist (BIST_FAIL.ADDR.elem k) f.2.1).wr wBist (BIST_FAIL.BIT.elem k) f.2.2).wr
      wBist (BIST_FAIL.FIX.elem k) 0
  let s := (s.wr wBist BIST_MEM_FAILS.MEM_FAILS (min 65535 l.length)).setPwr { s.pwr with repairs := l }
  if l = [] then s else s.sticky wBist BIST_RESULT.MEM_FAIL

/-- R393: the assignment at a start. -/
def State.assignSpares (s : State) : State :=
  let l := s.pwr.repairs
  let s := s.each (List.range 16) fun s k =>
    match l[k]? with
    | some f => s.wr wBist (BIST_FAIL.FIX.elem k) (fixOf l f)
    | none => s
  let fenced := fencedRows l
  let s := (s.wr wBist BIST_SPARES.ROWS (spareRows l).length).wr wBist BIST_SPARES.COLS (spareCols l).length
  let s := s.wr wBist BIST_FENCED.FENCED fenced.length
  let cells := ((fenced.filter fun r => r.1 == 1).map fun r => Config.rowCells r.2).sum
  let s := (s.setFab { s.fab with retired := cells }).wr wStockpile STK_RETIRED.RETIRED cells
  let s := s.setPwr { s.pwr with fenced := (fenced.filter fun r => r.1 != 1).flatMap fun r => Config.rowEntries r.1 r.2 }
  if fenced = [] then s else (s.sticky wBist BIST_RESULT.REPAIR_SHORT).event wBist 1

/-! ## The start (R386, R388) -/

/-- UNIT_IRQ_PEND, UNIT_IRQ_EN and UNIT_IRQ_ROUTE take their reset values at a start (R497), and the cards' low-power fields those of
R20. -/
def State.irqFresh (s : State) : State :=
  s.resetFields allWindows fun _ f => !(f.cls == .common && 0x030 ≤ f.ofs && f.ofs ≤ 0x032)

/-- HSS at a GX start (R410). -/
def State.hssCheck (s : State) : State :=
  let bad := s.trust.aonLost || (s.rd wAttest HSS_STATE.STATE == 1 && decide (s.rd wAttest HSS_INDEX.INDEX < s.trust.mirror))
  let s := if bad then s.wr wAttest HSS_STATE.STATE 2 else s
  s.setTrust { s.trust with aonLost := false }

/-- The freshness values at a start: exact after a write-back, else from the ceilings (R282). -/
def State.freshAtStart (s : State) : State :=
  let s := if s.pwr.exact then s.authReload else s.authRestore
  s.setPwr { s.pwr with exact := false }

/-- GX reset is released (R69, R386, R388). -/
def State.gxStart (s : State) (xsrc : Bool) : State :=
  let s := s.irqFresh
  let s := (s.setFlt { s.flt with starts := (s.flt.starts + 1) % 2 ^ 32 }).setPins { s.pins with gxRun := true, heartbeat := true }
  let s := s.wr wPwr PWR_RST_CAUSE.KIND s.pwr.cause
  let s := s.wr wPwr PWR_RST_CAUSE.WDOG (if s.pwr.cause = causeWdog then s.pwr.wdogCause else 0)
  let s := s.wr wSup SUP_STRAP.XSRC (b2n xsrc)
  let cold := !s.on wBist BIST_RESULT.VALID
  let s := s.wr wPwr PWR_STATE.COLD (b2n cold)
  let s := s.setPwr { s.pwr with cause := causeNone, wdogCause := 0 }
  let s := s.each fixedWindows fun s w => s.wr w DESC_STATE.STATE (if s.pwr.mode = 1 && c1Off w then usOff else usLoading)
  let s := if s.pwr.gxFail || s.pwr.ixFail then s.event wBist 0 else s
  let s := s.setPwr { s.pwr with gxFail := false, ixFail := false }
  let s := s.setLeg { s.leg with framing := s.rd wSup SUP_STRAP.MODE_CODE != 0, irq := setBit s.leg.irq 5 }
  let s := s.hssCheck.freshAtStart
  if cold then s else s.assignSpares.setCfg { s.cfg with stage := 1 }

/-! ## OFF and POR (R21, R380) -/

/-- Everything but what needs no supply: OTP, the flash, the levels at the tamper sources. The switches are off. The filters of LIMP_IN
start low: the first edge of a pin that is high comes after them (R21, R60). -/
def State.aonGone (s : State) (p : PowerState) (bor en : Bool) : State :=
  let trial := s.on wUpd UPD_FW_STAT.TRIAL
  let s := s.trialEnds.failOff
  let t := { TrustSt.reset with
    otp := s.trust.otp, digests := s.trust.digests, identity := s.trust.identity, blobs := s.trust.blobs, mirror := s.trust.mirror,
    hssGen := s.trust.hssGen, aonLost := s.trust.aonLost || s.rd wAttest HSS_STATE.STATE == 1 }
  let r := { State.reset with
    host := { HostSt.reset with perst := s.host.perst },
    pins := { PinSt.reset with rstLow := s.pins.rstLow, bor := bor, pwrEn := en },
    pwr := { PwrSt.reset with state := p, wakeClk := s.clk },
    trust := t, upd := s.upd.offCopy, clk := s.clk, draws := s.draws, outs := s.outs, pending := s.pending }
  let r := r.each [TAMP_LIVE.LID, TAMP_LIVE.MESH, TAMP_LIVE.GLITCH] fun r f => r.wr wTamper f (s.rd wTamper f)
  let r := r.each [UPD_FW_STAT.BANK, UPD_FW_STAT.FALLBACK] fun r f => r.wr wUpd f (if f = UPD_FW_STAT.BANK || trial then s.rd wUpd f else 0)
  if s.trust.otp = 4 then r
  else (r.wr wUpd UPD_FLOOR.FW (s.rd wUpd UPD_FLOOR.FW)).wr wUpd UPD_FLOOR.CFG (s.rd wUpd UPD_FLOOR.CFG)

/-! ## Park entry (R382, R383) -/

/-- The queued copies of an unmanaged network end, and its port sleeps (R382). -/
def State.unmanagedSleep (s : State) (n : Nat) : State :=
  if s.managed n then s
  else if isEthNet n then s.hopDrain n allClasses .dropped 0x5C
  else if isCanNet n then
    let p := n - 16
    let s := s.canDropCopies p 0x5C
    (if s.canState p = canOff then s else s.setCanState p canSleep).wr (wCanT p) CANT_MODE.MODE 3
  else
    let p := n - 32
    let s := s.linDropAll p 0x5C
    (if s.linState p = linOff then s else s.linStop p linSleep).wr (wLinT p) LINT_CTRL.MODE 2

/-- Step 10: GX_PWR_EN low; PARK or DEEP_PARK. -/
def State.enterPark (s : State) : State :=
  let s := s.setPwr { s.pwr with state := if s.pwr.aonDeep then .deepPark else .park, entryStep := none, memDone := false, ixDone := false }
  s.powerOff

/-- Step 4, the commit, after steps 1 to 3. GX and the IX core go on to their self-tests, or straight to step 10. -/
def State.parkCommit (s : State) : State :=
  let deep := s.on wPwr PWR_CFG.DEEP
  let bist := s.on wPwr PWR_CFG.BIST_EN
  let s := s.setPwr { s.pwr with aonDeep := deep, aonBist := bist, aonDeepAfter := s.rd wPwr PWR_DEEP_AFTER.DEEP_AFTER,
                                 exact := true }
  let s := s.failOff.armInputs
  let s := s.each allNets State.unmanagedSleep
  let s := if bist then s.wr wBist BIST_RESULT.VALID 0 else s
  let s := s.clearPark.gxLost.resetFields allWindows (keepsLow (if deep then .D else .K))
  if bist then s.setPwr { s.pwr with entryStep := some 5 } else s.enterPark

/-- Steps 1 to 4, once the engines have stopped. -/
def State.parkEntry (s : State) : State := s.stopRings.authWriteBack.parkCommit

/-- Steps 9 and 10: the results enter AON. -/
def State.selfTestDone (s : State) (fail : Bool) : State :=
  let s := s.recordFails s.pwr.found
  let s := if fail then s.sticky wBist BIST_RESULT.GX_LOGIC_FAIL else s
  let s := if s.pwr.ixFail then s.sticky wBist BIST_RESULT.IX_LOGIC_FAIL else s
  let s := (s.wr wBist BIST_RESULT.VALID 1).setPwr { s.pwr with gxFail := fail, found := [] }
  s.enterPark

/-! ## MP (R385, R458, R460) -/

/-- The leases MP holds are revoked. -/
def State.mpLeases (s : State) : State :=
  let s := if s.tblOwner = initMp then tblLeaseExpiry s else s
  let s := s.each (List.range 256) fun s k =>
    if s.shState k ≠ shEmpty ∧ s.shOwner k = initMp then (s.shadowZero k).leaseRevoked wMP else s
  if s.trmOwner = initMp then s.trmFree.leaseRevoked wMP else s

/-- An MPWARM reset begins: the MP pair alone; the channels take the rows of R336. -/
def State.mpWarm (s : State) : State :=
  let s := s.mpLeases.holdRow
  let s := s.resetFields (fun w => w == wMP) fun _ f => f.keptThrough .M
  let s := s.setHolds (s.holds.filter fun p => p.1 / 4096 != initMp)
  (s.setPwr { s.pwr with mpRun := false }).wr wMP DESC_STATE.STATE usHeld

end Sys2Proof.Machine
end

