-- ==== Sys2Proof/Machine/Power.lean ====
section
/-! DEFINITION. The commands and events of supply, power states, resets, self-test and the supervisor's watchdogs
(02_package_pins_supplies.md, 16_power_reset_selftest.md, R460, R461). -/

namespace Sys2Proof.Machine

/-! ## Supply -/

/-- R380, R21: the AON supply is back: a POR. VBAT_PERM is in BOR, or above its end threshold. -/
def powerOn (vbatGood : Bool) (s : State) : State :=
  if s.pwr.state ≠ .off then s
  else if vbatGood then s.aonGone .run false true else s.aonGone .backup true false

def execPowerOnReset (vbatGood : Bool) (s : State) : Result := .next (powerOn vbatGood (fresh s))

/-- R380: OFF. -/
def aonLost (s : State) : State := if s.pwr.state = .off then s else s.aonGone .off s.pins.bor false

def execAonSupplyLost (s : State) : Result := .next (aonLost (fresh s))

/-- R67, R380, R384: a BOR abandons or aborts a park entry. -/
def borBegin (s : State) : State :=
  if s.pins.bor ∨ s.pwr.state = .off then s
  else
    let early := match s.pwr.entryStep with
      | some k => decide (k ≤ 3)
      | none => false
    let s := ((s.when early State.abandonPark).startCause causeBor 0).coreReset .B
    let s := s.setPwr { s.pwr with state := .backup }
    let s := if s.pins.pwrEn then s.powerOff else s.setPins { s.pins with startWanted := false }
    s.setPins { s.pins with bor := true }

def execBorBegin (s : State) : Result := .next (borBegin (fresh s))

/-- R67, R380: the BOR ends, and GX starts. -/
def borEnd (s : State) : State :=
  let s := s.setPins { s.pins with bor := false }
  if s.pwr.state = .backup then (s.setPwr { s.pwr with state := .run, modeDue := true, wakeClk := s.clk }).startPower else s

def execBorEnd (s : State) : Result := .next (borEnd (fresh s))

/-- R56, R385: RST_N low for 10 us. In PARK and DEEP_PARK nothing starts. -/
def pinReset (s : State) : State :=
  let s := s.setPins { s.pins with rstLow := true }
  if s.pwr.state = .off then s
  else (if s.running then s.startCause causePin 0 else s).coreReset .N

def execPinReset (s : State) : Result := .next (pinReset (fresh s))

/-- R57, R70, R389: RST_N is high again, which is a wake edge: the start is timed from here, and where GX_PWR_EN stayed low after three
failed attempts the next attempt begins. -/
def pinResetEnd (s : State) : State :=
  let s := s.setPins { s.pins with rstLow := false }
  if s.running && !s.gxOn then
    let s := s.setPwr { s.pwr with wakeClk := s.clk }
    if s.pins.pwrEn then s else s.startPower
  else s

def execPinResetEnd (s : State) : Result := .next (pinResetEnd (fresh s))

/-- The code and validity of a MODE pin voltage in mV (R59). -/
def modeOf (mv : Nat) : Nat × Bool :=
  if mv < 200 then (0, true) else if 300 ≤ mv ∧ mv ≤ 700 then (2, true) else if 1100 ≤ mv ∧ mv ≤ 1900 then (1, true) else (0, false)

/-- R59: the sample of the MODE strap; with strap C1 or C2 the SPI face carries the legacy framing from then on (R463). -/
def modeSample (mv : Nat) (s : State) : State :=
  if !s.pwr.modeDue || s.pwr.state == .off then s
  else
    let r := modeOf mv
    let s := (s.wr wSup SUP_STRAP.MODE_CODE r.1).setPwr { s.pwr with modeDue := false }
    let s := s.setLeg { s.leg with framing := s.leg.framing || r.1 != 0 }
    if r.2 then s else s.sticky wSup SUP_STRAP.MODE_ERR

def execModeSample (mv : Fin 4096) (s : State) : Result := .next (modeSample mv.val (fresh s))

/-- R60, R337: a filtered edge on LIMP_INk. The channels that follow the pin follow it. -/
def limpEdge (k : Nat) (high : Bool) (s : State) : State :=
  if s.pwr.state = .off then s
  else
    let v := s.rd wSup SUP_PINS.LIMP
    let s := s.wr wSup SUP_PINS.LIMP (if high then setBit v k else clrBit v k)
    s.each (allChannels.filter fun n => s.ctrl n == ctrlLimp && s.rd (wCh n) CH_LIMP.PIN == k) fun s n => (s.chEval n).chOutput n

def execLimpInEdge (k : Fin 4) (high : Bool) (s : State) : Result := .next (limpEdge k.val high (fresh s))

/-- R61: SAFE_N follows its condition. -/
def execSafeNUpdate (s : State) : Result := .next ((fresh s).wr wSup SUP_PINS.SAFE (b2n (fresh s).safeWanted))

/-! ## GX power (R69 to R74) -/

def pgoodHigh (s : State) : State :=
  if s.pins.pwrEn then ((s.setPins { s.pins with pgood := true, attempts := 0 }).wr wSup SUP_PINS.PGOOD 1).wioSync else s

def execGxPgoodHigh (s : State) : Result := .next (pgoodHigh (fresh s))

/-- R70: a failed attempt; the third in a row gives up until the next wake edge. -/
def pgoodTimeout (s : State) : State :=
  if !s.pins.pwrEn || s.pins.pgood then s
  else
    let n := s.pins.attempts + 1
    let s := s.powerOff
    if n < 3 then (s.setPins { s.pins with attempts := n }).wantStart
    else ((s.setPins { s.pins with attempts := 0 }).sticky wSup SUP_STRAP.PGOOD_FAIL).startFailedRow

def execGxPgoodTimeout (s : State) : Result := .next (pgoodTimeout (fresh s))

/-- R71: a loss of GX power in operation. Before GX_PGOOD has risen there is nothing to lose. -/
def pgoodLost (s : State) : State :=
  if s.pins.pwrEn && s.pins.pgood then ((s.wdogReset 1).powerOff).wantStart else s

def execGxPgoodLost (s : State) : Result := .next (pgoodLost (fresh s))

/-- R72: the off time ends; a start wanted meanwhile takes place. -/
def offTimeEnd (s : State) : State :=
  let want := s.pins.startWanted && s.running
  s.setPins { s.pins with offTime := false, startWanted := false, pwrEn := want || s.pins.pwrEn }

def execOffTimeEnd (s : State) : Result := .next (offTimeEnd (fresh s))

/-- R69: GX reset is released. -/
def gxRelease (xsrc : Bool) (s : State) : State := if s.releasable then s.gxStart xsrc else s

def execGxResetRelease (xsrc : Bool) (s : State) : Result := .next (gxRelease xsrc (fresh s))

/-- R74: the reference is compared while GX has its rails, in reset and in self-test too. -/
def clockLoss (s : State) : State :=
  if s.pins.pwrEn && s.pins.pgood then ((s.sticky wSup SUP_STRAP.CLK_LOSS).troubleRecord 8 wSup 0).wdogReset 2 else s

def execClockLoss (s : State) : Result := .next (clockLoss (fresh s))

/-- R30. -/
def heartbeatLost (s : State) : State := if s.gxOn then (s.troubleRecord 8 wSup 0).wdogReset 1 else s

def execGxHeartbeatLost (s : State) : Result := .next (heartbeatLost (fresh s))

/-! ## Starts (R388) -/

/-- R388: the start-up check of a cold start ends; its failures are the repair records from now on. -/
def startupChecked (fails : List MemFail) (s : State) : State :=
  if s.gxOn && s.on wPwr PWR_STATE.COLD && s.cfg.stage == 0 then
    let s := (s.recordFails (fails.map MemFail.asFail)).assignSpares
    (s.setCfg { s.cfg with stage := 1 }).event wPwr 1
  else s

def execStartupCheckDone (fails : List MemFail) (s : State) : Result := .next (startupChecked fails (fresh s))

/-! ## Park entry (R382, R383) -/

/-- R382: PARK waits for its conditions. -/
def park (s : State) : State := ((s.wr wPwr PWR_CTRL.PARK 1).wr wPwr PWR_STATE.PEND 1).parkCheck

/-- PARK is refused under the TAMPERED mark and in the safe state (R381, R394). -/
def State.parkKinds (s : State) : List Kind := whenK (s.pwr.tampered || s.isSafe wPwr) .state

def execPwrPark (init : Initiator) (s : State) : Result :=
  .next ((fresh s).cmdField init.code wPwr PWR_CTRL.PARK (fresh s).parkKinds park)

/-- CANCEL clears a pending PARK. DEDUCED: an entry that this PARK began and that has not committed is abandoned with it, since CANCEL has an
effect up to the commit. -/
def State.cancelPark (s : State) : State :=
  if s.on wPwr PWR_STATE.PEND && (match s.pwr.entryStep with
      | some k => decide (k ≤ 3)
      | none => false) then s.abandonPark
  else s.clearPark

def execPwrCancel (init : Initiator) (s : State) : Result :=
  .next ((fresh s).cmdField init.code wPwr PWR_CTRL.CANCEL [] State.cancelPark)

/-- R382: with PARK_AUTO the first condition has held for PARK_DLY. -/
def parkDelay (s : State) : State :=
  if s.on wPwr PWR_CFG.PARK_AUTO && s.parkAllowed && s.parkReady then s.entryBegins else s

def execParkDelayExpiry (s : State) : Result := .next (parkDelay (fresh s))

/-- R383: steps 1 to 4, once the engines have stopped. -/
def parkBegin (s : State) : State := if s.pwr.entryStep = some 0 ∧ s.enginesIdle then s.parkEntry else s

def execParkEntryBegin (s : State) : Result := .next (parkBegin (fresh s))

/-- R383: ME_WAIT ends the commands that still run. -/
def parkWait (s : State) : State :=
  if s.pwr.entryStep = some 0 then s.enginesForced else s

def execParkMeWaitExpiry (s : State) : Result := .next (parkWait (fresh s))

/-- R390: the IX logic self-test ends. -/
def ixTested (fail : Bool) (s : State) : State :=
  if s.pwr.entryStep = some 5 ∨ s.pwr.entryStep = some 8 then s.setPwr { s.pwr with ixDone := true, ixFail := fail } else s

def execIxSelftestDone (fail : Bool) (s : State) : Result := .next (ixTested fail (fresh s))

/-- R391: the memory self-test ends, and the GX logic self-test starts. -/
def memTested (fails : List MemFail) (s : State) : State :=
  if s.pwr.entryStep = some 5 then
    s.setPwr { s.pwr with entryStep := some 8, memDone := true, found := fails.map MemFail.asFail }
  else s

def execMemorySelftestDone (fails : List MemFail) (s : State) : Result := .next (memTested fails (fresh s))

/-- R383: the GX logic self-test ends: results in AON, GX power off. -/
def gxTested (fail : Bool) (s : State) : State :=
  if s.pwr.entryStep = some 8 ∧ s.pwr.ixDone then s.selfTestDone fail else s

def execGxSelftestDone (fail : Bool) (s : State) : Result := .next (gxTested fail (fresh s))

/-- R380: PARK becomes DEEP_PARK; what DEEP_PARK does not keep is lost. -/
def deepAfter (s : State) : State :=
  if s.pwr.state = .park ∧ s.pwr.aonDeepAfter ≠ 0 then
    (s.resetFields allWindows (keepsLow .D)).setPwr { s.pwr with state := .deepPark }
  else s

def execDeepAfterExpiry (s : State) : Result := .next (deepAfter (fresh s))

/-! ## Resets and watchdogs (R385, R460, R461) -/

def execSoftReset (init : Initiator) (s : State) : Result :=
  .next ((fresh s).cmdField init.code wPwr PWR_CTRL.SOFT [] fun s => s.softReset causeSoft)

/-- R385: MPWARM written, or a lock-step mismatch in the MP pair. -/
def mpwarm (src : Option Initiator) (s : State) : State :=
  match src with
  | some i => s.cmdField i.code wPwr PWR_CTRL.MPWARM [] State.mpWarm
  | none => if s.gxOn then s.mpWarm else s

def execMpwarmReset (src : Option Initiator) (s : State) : Result := .next (mpwarm src (fresh s))

/-- R385: MP runs again. -/
def mpRestart (s : State) : State :=
  if s.gxOn && !s.pwr.mpRun && 2 ≤ s.cfg.stage && !s.inRom wMP then
    (s.setPwr { s.pwr with mpRun := true }).wr wMP DESC_STATE.STATE usReady
  else s

def execMpRestart (s : State) : Result := .next (mpRestart (fresh s))

/-- R460: the kick, reserved to MP. -/
def kick (v : Nat) (s : State) : State := if v = 0x5A then s.setPwr { s.pwr with wdFirst := false } else s

def execWdKick (init : Initiator) (v : Byte) (s : State) : Result :=
  .next ((fresh s).cmdWrite init.code wSup 0x151 v.toNat (whenK (init.code != initMp) .privilege) (kick v.toNat))

/-- R460: the first expiry resets MP, a second one without a kick GX. -/
def mpWatchdog (s : State) : State :=
  if !s.gxOn || s.rd wSup SUP_WD_CFG.WD_PERIOD == 0 then s
  else
    let s := (s.sticky wSup SUP_WD_STAT.MPWD).troubleRecord 7 wSup 0
    if s.pwr.wdFirst then s.wdogReset 3 else (s.mpWarm).setPwr { s.mpWarm.pwr with wdFirst := true }

def execMpWatchdogExpiry (s : State) : Result := .next (mpWatchdog (fresh s))

/-- R461. -/
def hwWatchdog (s : State) : State :=
  if s.running then
    let s := ((s.heartbeatRow.sticky wSup SUP_WD_STAT.HWWD).troubleRecord 9 wSup 0).startCause causePin 0
    s.coreReset .N
  else s

def execHwWatchdogExpiry (s : State) : Result := .next (hwWatchdog (fresh s))

end Sys2Proof.Machine
end

