-- ==== Sys2Proof/Machine/Rings.lean ====
section
/-! DEFINITION. The commands of the host DMA rings, of MSI-X and of IRQ_N, and the events on the PCIe link (R99 to R106). -/

namespace Sys2Proof.Machine

/-! ## Writes of a ring's registers -/

/-- A TAIL write: whatever the ring does, one that exceeds its size is a descriptor error (R100). -/
def ringTail (tx : Bool) (r v : Nat) (s : State) : State :=
  let s := s.wr wHost (fTail tx r) v
  let S := s.ringSize tx r
  if S ≠ 0 ∧ !s.isSafe wHost ∧ S < (v + 65536 - s.ringHead tx r) % 65536 then s.descError tx r else s

def execRingTailWrite (init : Initiator) (tx : Bool) (r : Fin 16) (v : BitVec 16) (s : State) : Result :=
  .next ((fresh s).cmdWrite init.code wHost (fTail tx r).byteOfs (v.toNat % 256) [] (ringTail tx r v.toNat))

/-- The refusal of R103: RSIZE while EN reads 1; the value it holds is no change (R494). -/
def State.cfgKinds (s : State) (tx : Bool) (r low : Nat) : List Kind :=
  whenK (s.on wHost (fEn tx r) && (fRsize tx r).fit.apply (low % 16) != s.rd wHost (fRsize tx r)) .state

/-- TC and RSIZE of a written CFG byte; TC of a receive ring is reserved. -/
def State.putCfg (s : State) (tx : Bool) (r low : Nat) : State :=
  let s := s.wr wHost (fRsize tx r) ((fRsize tx r).fit.apply (low % 16))
  if tx then s.wr wHost (fTc tx r) (low / 16 % 8) else s

/-- A ring starts anew: HEAD and TAIL 0. Frames of the time before are written back to their entries and move no index. -/
def ringBegin (tx : Bool) (r low : Nat) (s : State) : State :=
  let was := s.on wHost (fEn tx r)
  let s := (s.putCfg tx r low).wr wHost (fEn tx r) 1
  if was then s
  else
    let s := ((s.wr wHost (fHead tx r) 0).wr wHost (fTail tx r) 0).wr wHost (fStopped tx r) 0
    let s := s.setDone tx r []
    if tx then
      let l := s.txDescs r
      let s := (s.setTxDescs r []).wbLoose r l 0x233
      let s := (s.wr wHost (fHead tx r) 0).setDone tx r []
      s.setTxFrames r ((s.txFramesOf r).map fun f => { f with stale := true })
    else s

def execRingEnSet (init : Initiator) (tx : Bool) (r : Fin 16) (low : Fin 128) (s : State) : Result :=
  let s := fresh s
  .next (s.cmdWrite init.code wHost (fEn tx r).byteOfs (128 + low) (s.cfgKinds tx r low) (ringBegin tx r low))

/-- EN cleared: the transmit frame whose descriptors are being fetched finishes when the host has posted more of it, every other fetched
descriptor is written back, and the ring is stopped then (R103). -/
def ringClear (tx : Bool) (r low : Nat) (s : State) : State :=
  let was := s.on wHost (fEn tx r)
  let s := s.wr wHost (fEn tx r) 0
  let s := if !was then s
    else if tx && s.txDescs r != [] && s.fetches tx r then s.txFlush r
    else (if tx then s.txFlush r else s).ringStop tx r
  s.putCfg tx r low

def execRingEnClear (init : Initiator) (tx : Bool) (r : Fin 16) (low : Fin 128) (s : State) : Result :=
  let s := fresh s
  .next (s.cmdWrite init.code wHost (fEn tx r).byteOfs low (s.cfgKinds tx r low) (ringClear tx r low))

/-! ## Fetch and writeback -/

def ringFetch (tx : Bool) (r : Nat) (d : RingDesc) (s : State) : State :=
  if !s.fetches tx r || (tx && s.launchMode r) then s
  else if tx then s.txTake r (s.makeDesc tx r d) else s.rxTake r (s.makeDesc tx r d)

/-- The module fetches the next descriptor of an active ring. -/
def execRingDescFetch (tx : Bool) (r : Fin 16) (d : RingDesc) (s : State) : Result := .next (ringFetch tx r d (fresh s))

/-- A launch-mode ring fetches descriptors until its launch slot holds a frame (R310). -/
def launchFetch (r : Nat) (l : List RingDesc) (s : State) : State :=
  s.each l fun s d =>
    if s.launchMode r && (s.launchOf r).isNone && s.fetches true r then s.txTake r (s.makeDesc true r d) else s

def execLaunchFetch (r : Fin 16) (l : List RingDesc) (s : State) : Result := .next (launchFetch r l (fresh s))

/-- The oldest transmit frame that has left the fabric, or the oldest copy of a receive ring whose bytes are ready. A copy that would read a retired
cell ends failed (R136). -/
def ringWriteback (tx : Bool) (r : Nat) (s : State) : State :=
  if !s.gxOn then s
  else if tx then
    match takeFirst (fun f => f.outcome.isSome) (s.txFramesOf r) with
    | none => s
    | some (f, rest) => (s.setTxFrames r rest).wbFrame r f (f.outcome.getD 0)
  else if !s.dmaOk then s
  else match look s.fab.ringQ r [] with
    | [] => s
    | c :: q =>
      if s.copyBad c then s.ringHeadEnd r .failed 0x31
      else match fillBufs (s.rxDescs r) c.data with
      | some (l, rest) =>
        let s := (s.setRxDescs r rest).setFab { s.fab with ringQ := store s.fab.ringQ r q [] }
        s.rxDeliver r c l
      | none => if s.ringSize false r ≤ (s.rxDescs r).length then s.descError false r else s

def execRingWriteback (tx : Bool) (r : Fin 16) (s : State) : Result := .next (ringWriteback tx r (fresh s))

/-! ## Failures -/

/-- The oldest descriptor that HOST holds for 10 ms: with its frame's other descriptors, its item ends failed with 0x30 and is written
back. A frame that the fabric already holds is an item of its own and goes on; the held frame of a launch slot ends. -/
def descLease (tx : Bool) (r : Nat) (s : State) : State :=
  if !s.gxOn || s.outstanding tx r ≤ (s.doneOf tx r).length then s
  else
    let s := s.leaseRevoked wHost
    if !tx then match s.rxDescs r with
      | [] => s
      | d :: rest =>
        let reach := s.dmaOk
        let s := (s.setRxDescs r rest).wbRxEmpty reach d .failed 0x30
        if reach then (s.complete false r [d.idx]).ringIrq false r else s
    else match s.txFramesOf r with
      | f :: rest => (s.setTxFrames r rest).wbFrame r f 0x330
      | [] => match s.launchOf r with
        | some f => ((s.setLaunch r none).endItem wHost .failed 0x30 f.fid).wbFrame r f 0x330
        | none =>
          let l := s.txDescs r
          (s.setTxDescs r []).wbLoose r l 0x330

def execRingDescLeaseExpiry (tx : Bool) (r : Fin 16) (s : State) : Result := .next (descLease tx r (fresh s))

/-- A host memory access of a ring fails: a fetch or the read of a buffer, or a write. What it was made for ends failed with 0x34,
and the ring stops (HOST_TXr_STAT card). -/
def dmaError (tx : Bool) (r : Nat) (wrote : Bool) (s : State) : State :=
  if !s.gxOn then s
  else
    let s := s.sticky wHost (fDmaErr tx r)
    let s :=
      if tx then
        if wrote then match takeFirst (fun f => f.outcome.isSome) (s.txFramesOf r) with
          | none => s
          | some (f, rest) => f.descs.foldl (fun s _ => s.endOther wHost .failed 0x34 .descriptor srcHost noPort) (s.setTxFrames r rest)
        else
          let l := s.txDescs r
          (s.setTxDescs r []).wbLoose r l 0x334
      else if wrote then match look s.fab.ringQ r [] with
        | [] => s
        | c :: q =>
          let s := s.setFab { s.fab with ringQ := store s.fab.ringQ r q [] }
          let s := s.endCopy wHost c .failed 0x34
          match fillBufs (s.rxDescs r) c.data with
          | none => s
          | some (l, rest) => l.foldl (fun s _ => s.endOther wHost .failed 0x34 .descriptor noPort noPort) (s.setRxDescs r rest)
      else s
    s.ringStop tx r

def execHostDmaError (tx : Bool) (r : Fin 16) (wrote : Bool) (s : State) : Result := .next (dmaError tx r wrote (fresh s))

/-! ## Interrupts -/

/-- The end of a moderation interval; a raise at its end starts the next. -/
def imodEnd (tx : Bool) (r : Nat) (s : State) : State :=
  let k := ringCode tx r
  if !look s.host.imodRun k false then s
  else
    let hit := look s.host.imodHit k false
    let s := s.setHost { s.host with imodRun := store s.host.imodRun k hit false, imodHit := store s.host.imodHit k false false }
    if hit then s.ringRaise tx r else s

def execImodIntervalEnd (tx : Bool) (r : Fin 16) (s : State) : Result := .next (imodEnd tx r (fresh s))

/-- A pending vector whose message is now allowed (R105). -/
def msixSend (v : Nat) (s : State) : State :=
  if bit s.host.pba v && s.gxOn && s.host.msixOn && s.canSend && !s.vecMasked v then
    (s.setHost { s.host with pba := clrBit s.host.pba v }).emit (.msix v)
  else s

def execMsixPendingSend (v : Fin 64) (s : State) : Result := .next (msixSend v (fresh s))

/-- IRQ_N follows its sources (R106). -/
def irqUpdate (s : State) : State := s.setPins { s.pins with irqLow := s.pinWanted }

def execIrqNUpdate (s : State) : Result := .next (irqUpdate (fresh s))

/-! ## The link (R53, R99, R105) -/

def State.setLink (s : State) (up : Bool) (rate width : Nat) : State :=
  ((s.wr wHost HOST_PCIE_LINK.UP (b2n up)).wr wHost HOST_PCIE_LINK.RATE rate).wr wHost HOST_PCIE_LINK.WIDTH width

/-- A low PCIE_PERST_N: the face is in reset, and with it the function's MSI-X table and pending bits. -/
def perstLow (s : State) : State :=
  let h := { s.host with perst := true, busMaster := false, msixOn := false, msixTab := [], pba := 0 }
  if !s.gxOn then s.setHost h else ((s.setHost h).setLink false 0 0).stopRings

def execPciePerstAssert (s : State) : Result := .next (perstLow (fresh s))

def execPciePerstRelease (s : State) : Result := .next (let s := fresh s; s.setHost { s.host with perst := false })

def linkDown (s : State) : State := if s.on wHost HOST_PCIE_LINK.UP then (s.setLink false 0 0).stopRings else s

def execPcieLinkDown (s : State) : Result := .next (linkDown (fresh s))

/-- Training completes at the highest rate and width that both sides have (R53). The endpoint is held until the configuration load has
chosen its candidate, and in C1 (R46, R115). -/
def State.canTrain (s : State) : Bool :=
  s.gxOn && !s.host.perst && s.pwr.mode != 1 && 3 ≤ s.cfg.stage && s.unitState wHost != usHeld && s.unitState wHost != usOff

/-- The vectors whose window or ring has an interrupt pending: MSI-X, enabled again, takes their pending bits (R105). -/
def State.pendAgain (s : State) : State :=
  let wins := (fixedWindows.filter s.irqPending).map fun w => s.rd w UNIT_IRQ_ROUTE.VEC
  let rings := [true, false].flatMap fun tx => ((List.range 16).filter fun r => s.on wHost (fIrq tx r)).map fun r => s.rd wHost (fVec tx r)
  s.setHost { s.host with pba := (wins ++ rings).foldl setBit s.host.pba }

/-- What the host has set in the function's configuration space, bus mastering and the enabling of MSI-X: no command of the block carries
it, so it is a free value of each training of the link. -/
def State.hostSettings (s : State) : State :=
  let v := s.draw.1
  let again := !s.host.msixOn && v.getLsbD 1
  (s.draw.2.setHost { s.host with busMaster := v.getLsbD 0, msixOn := v.getLsbD 1 }).when again State.pendAgain

/-- rate: the partner's highest of 2.5, 5 and 8 GT/s; two: the partner has two lanes. -/
def linkTrained (rate : Nat) (two : Bool) (s : State) : State :=
  if s.canTrain then (s.setLink true (rate + 1) (if two then 2 else 1)).hostSettings else s

def execPcieLinkUp (rate : Fin 3) (two : Bool) (s : State) : Result := .next (linkTrained rate two (fresh s))

end Sys2Proof.Machine
end

