-- ==== Sys2Proof/Machine/Tables.lean ====
section
/-! DEFINITION. The commands of the L2 table and of the Seam (07): learning, aging, rehash, L2_CMD and SEAM_CMD. -/

namespace Sys2Proof.Machine

/-! ## Learning and aging -/

/-- The learn engine takes the oldest request (R190); in SAFE it stops (R202). -/
def learnWrite (s : State) : State :=
  if !s.gxOn || s.isSafe wL2 then s
  else match s.tbl.learnQ with
    | [] => s
    | r :: rest =>
      let s := s.setTbl { s.tbl with learnQ := rest }
      let b := s.l2Bucket s.l2Cur r.fid r.mac
      if s.tbl.l2.any (fun w => w.isKey r.fid r.mac && s.l2Probed r.fid r.mac w) then s
      else if s.l2Free b then
        (s.l2Add ⟨b, r.fid, r.mac, false, true, s.l2Cur, tagBoth, false, false, r.port⟩).count wL2 L2_LEARNED.COUNT
      else ((s.sticky wL2 L2_STAT.BUCKET_FULL).count wL2 L2_BUCKET_FULL.COUNT).event wL2 1

def execLearnEngineWrite (s : State) : Result := .next (learnWrite (fresh s))

/-- The ager visits bucket b (R192). -/
def agerVisit (b : Nat) (s : State) : State :=
  if !s.gxOn || s.isSafe wL2 || s.rd wL2 L2_AGE_PERIOD.P == 0 then s
  else
    let idle := s.tbl.l2.filter fun w => w.bucket == b && !w.static && !w.act
    let s := s.setL2 (s.tbl.l2.map fun w => if w.bucket = b ∧ w.static = false then { w with act := false } else w)
    s.setTbl { s.tbl with removals := s.tbl.removals ++ idle }

def execAgerVisit (b : Fin 8192) (s : State) : Result := .next (agerVisit b.val (fresh s))

/-- The oldest conditional removal reaches the arbiter (R193); aging stops in the safe state (R202). -/
def ageRemoval (s : State) : State :=
  if !s.gxOn || s.isSafe wL2 then s
  else match s.tbl.removals with
    | [] => s
    | r :: rest =>
      let s := s.setTbl { s.tbl with removals := rest }
      match s.tbl.l2.find? (fun w => w.sameKey r && w.bucket == r.bucket && !w.static) with
      | none => s
      | some w =>
        if w.act then s.count wL2 L2_AGE_ABORT.COUNT else (s.l2Drop w).count wL2 L2_AGED.COUNT

def execAgeRemoval (s : State) : Result := .next (ageRemoval (fresh s))

/-! ## Rehash (R194, R195) -/

def State.setRehash (s : State) (st pass : Nat) : State := (s.wr wL2 L2_REHASH.STATE st).wr wL2 L2_REHASH.PASS pass

def State.rehashGo (s : State) (init low : Nat) : State :=
  s.cmdWrite init wL2 0x14A (128 + low % 128) (whenK (s.on wL2 L2_REHASH.START) .cmdBusy ++ whenK (s.rehash != rhIdle) .state) fun s =>
    ((s.wr wL2 L2_REHASH.CUR (1 - s.l2Cur)).wr wL2 L2_REHASH.START 1).setRehash rhMigrate 1

def execL2RehashStart (init : Initiator) (low : Fin 128) (s : State) : Result := .next ((fresh s).rehashGo init.code low.val)

/-- The migrator moves one entry to its bucket under CUR, if that has a free way. -/
def State.migrate (s : State) (w : L2Way) : State :=
  let b := s.l2Bucket s.l2Cur w.fid w.mac
  if s.l2Free b then s.l2Map w fun w => { w with bucket := b, h := s.l2Cur } else s

/-- Puts a way into a list in the order of the buckets. -/
def insertWay : List L2Way → L2Way → List L2Way
  | [], x => [x]
  | w :: r, x => if x.bucket < w.bucket then x :: w :: r else w :: insertWay r x

/-- One pass over the ways that are still under the old slot, bucket by bucket. -/
def State.migratePass (s : State) (p : L2Way → Bool) : State :=
  s.each ((s.tbl.l2.filter fun w => w.h != s.l2Cur && p w).foldl insertWay []) State.migrate

def State.rehashLeft (s : State) : List L2Way := s.tbl.l2.filter fun w => w.h != s.l2Cur

def State.rehashDone (s : State) : State := ((s.setRehash rhIdle 0).wr wL2 L2_REHASH.START 0).event wL2 2

def rehashPassEnd (s : State) : State :=
  if !s.gxOn || s.isSafe wL2 || s.rehash != rhMigrate then s
  else
    let s := s.migratePass fun _ => true
    let pass := s.rd wL2 L2_REHASH.PASS
    if s.rehashLeft = [] then s.rehashDone
    else if pass < 3 then s.setRehash rhMigrate (pass + 1)
    else
      let lost := s.rehashLeft.filter fun w => !w.static
      let s := s.setL2 (s.tbl.l2.filter fun w => w.static || w.h == s.l2Cur)
      let s := if lost = [] then s else (s.count wL2 L2_REHASH_LOST.COUNT 0 lost.length).sticky wL2 L2_STAT.REHASH_LOSS
      if s.rehashLeft = [] then s.rehashDone
      else ((s.setRehash rhStalled pass).sticky wL2 L2_STAT.STALLED).event wL2 3

def execRehashPassEnd (s : State) : Result := .next (rehashPassEnd (fresh s))

def rehashRetry (s : State) : State :=
  if !s.gxOn || s.isSafe wL2 || s.rehash != rhStalled then s
  else
    let s := s.migratePass fun w => w.static
    if (s.rehashLeft.filter fun w => w.static) = [] then s.rehashDone else s

def execRehashStallRetry (s : State) : Result := .next (rehashRetry (fresh s))

/-! ## L2_CMD -/

def State.cmdFid (s : State) : Nat := s.rd wL2 L2_KEY.FID
def State.cmdMac (s : State) : Nat := s.rd wL2 L2_KEY.MAC

/-- The entry L2_KEY and L2_DATA describe. -/
def State.cmdWay (s : State) : L2Way :=
  let dl := s.on wL2 L2_DATA.DLIST
  ⟨0, s.cmdFid, s.cmdMac, true, false, 0, 0, s.on wL2 L2_DATA.DROP_MOVE, dl, l2Dest dl (s.rd wL2 L2_DATA.DEST)⟩

/-- The entry of the key in the current Bench, as OP 0 shows it. -/
def State.l2Show (s : State) (w : L2Way) : State :=
  let s := (s.wr wL2 L2_DATA.VALID 1).wr wL2 L2_DATA.STATIC (b2n w.static)
  let s := (s.wr wL2 L2_DATA.ACT (b2n w.act)).wr wL2 L2_DATA.H w.h
  let s := (s.wr wL2 L2_DATA.TAG w.tag).wr wL2 L2_DATA.DROP_MOVE (b2n w.dropMove)
  (s.wr wL2 L2_DATA.DLIST (b2n w.dlist)).wr wL2 L2_DATA.DEST w.dest

/-- Removes the learned entries that satisfy p. -/
def State.l2Forget (s : State) (p : L2Way → Bool) : State := s.setL2 (s.tbl.l2.filter fun w => w.static || !p w)

/-- The operation and its RESULT. -/
def State.l2Op (s : State) (op : Nat) : State × Nat :=
  if op = 0 then
    match s.l2Find s.gen s.cmdFid s.cmdMac with
    | some w => (s.l2Show w, 0)
    | none => (s.wr wL2 L2_DATA.VALID 0, 1)
  else if op = 1 then (s.wr wL2 L2_DATA.STATIC 1).l2Stage s.cmdWay
  else if op = 2 then s.l2Unstage s.cmdFid s.cmdMac
  else if op = 3 then
    (if s.tbl.l2.any (fun w => !w.static && w.isKey s.cmdFid s.cmdMac) then
      (s.l2Forget fun w => w.isKey s.cmdFid s.cmdMac, 0) else (s, 1))
  else if op = 4 then (s.l2Forget fun w => !w.dlist && w.dest == s.rd wL2 L2_DATA.DEST % 256, 0)
  else if op = 5 then (s.l2Forget fun w => w.fid == s.cmdFid, 0)
  else (s, 4)

/-- The operation runs; RESULT comes with its completion. A staged write that exceeds a list is refused as well (R122). -/
def State.l2Start (s : State) (init op : Nat) : State :=
  let r := (((s.wr wL2 L2_CMD.OP op).wr wL2 L2_CMD.GO 1)).l2Op op
  let t := r.1.setTbl { r.1.tbl with l2Run := some r.2 }
  if r.2 = 3 then t.stageFull wL2 init 0x150 (128 + op * 16) else t

/-- A write of L2_CMD with GO at 1. -/
def State.l2Go (s : State) (init op : Nat) : State :=
  s.cmdWrite init wL2 0x150 (128 + op * 16)
    (whenK (s.on wL2 L2_CMD.GO) .cmdBusy ++ whenK (op != 0 && s.isSafe wL2) .state ++
      (if op = 1 ∨ op = 2 then s.stageKinds init wL2 else [])) fun s => s.l2Start init op

def execL2CmdRead (init : Initiator) (s : State) : Result := .next ((fresh s).l2Go init.code 0)
def execL2CmdStageStatic (init : Initiator) (s : State) : Result := .next ((fresh s).l2Go init.code 1)
def execL2CmdStageDelete (init : Initiator) (s : State) : Result := .next ((fresh s).l2Go init.code 2)
def execL2CmdRemoveLearned (init : Initiator) (s : State) : Result := .next ((fresh s).l2Go init.code 3)
def execL2CmdFlushPort (init : Initiator) (s : State) : Result := .next ((fresh s).l2Go init.code 4)
def execL2CmdFlushFid (init : Initiator) (s : State) : Result := .next ((fresh s).l2Go init.code 5)
def execL2CmdBadOp (init : Initiator) (seven : Bool) (s : State) : Result :=
  .next ((fresh s).l2Go init.code (if seven then 7 else 6))

def l2Complete (s : State) : State :=
  match s.tbl.l2Run with
  | none => s
  | some r => (((s.setTbl { s.tbl with l2Run := none }).wr wL2 L2_CMD.RESULT r).wr wL2 L2_CMD.GO 0).event wL2 4

def execL2CmdComplete (s : State) : Result := .next (l2Complete (fresh s))

/-! ## SEAM_CMD -/

def State.cmdPlen (s : State) : Nat := s.rd wSeam SEAM_PLEN.PLEN

/-- The address SEAM_ADDR holds for a family. -/
def State.cmdAddr (s : State) (v6 : Bool) : Nat :=
  let a := s.rd wSeam SEAM_ADDR.ADDR
  if v6 then a else a / 2 ^ 96

def State.cmdPrefix (s : State) (v6 : Bool) : Prefix :=
  ⟨v6, s.cmdPlen, maskAddr v6 s.cmdPlen (s.cmdAddr v6), 0, s.rd wSeam SEAM_ROUTE.ROUTE⟩

/-- The operation and its RESULT. -/
def State.seamOp (s : State) (v6 : Bool) (op : Nat) : State × Nat :=
  if op = 3 then (s, 5)
  else if op = 2 then
    match s.seamFind s.gen v6 (s.cmdAddr v6) with
    | some p => (((s.wr wSeam SEAM_RESULT.HIT 1).wr wSeam SEAM_HIT.HPLEN p.plen).wr wSeam SEAM_HIT.HROUTE p.route, 0)
    | none => (s.wr wSeam SEAM_RESULT.HIT 0, 0)
  else if famBits v6 < s.cmdPlen then (s, 4)
  else if op = 0 then s.pfxStage (s.cmdPrefix v6)
  else s.pfxUnstage (s.cmdPrefix v6)

def State.seamStart (s : State) (init : Nat) (v6 : Bool) (op : Nat) : State :=
  let r := (((s.wr wSeam SEAM_CMD.OP op).wr wSeam SEAM_CMD.FAM (b2n v6)).wr wSeam SEAM_CMD.GO 1).seamOp v6 op
  let t := r.1.setTbl { r.1.tbl with seamRun := some r.2 }
  if r.2 = 3 then (t.sticky wSeam SEAM_STAT.NODE_FULL).event wSeam 1
  else if r.2 = 6 then t.stageFull wSeam init 0x140 (128 + op * 32 + b2n v6 * 16)
  else t

/-- A write of SEAM_CMD with GO at 1. -/
def State.seamGo (s : State) (init : Nat) (v6 : Bool) (op : Nat) : State :=
  s.cmdWrite init wSeam 0x140 (128 + op * 32 + b2n v6 * 16)
    (whenK (s.on wSeam SEAM_CMD.GO) .cmdBusy ++ (if op < 2 then s.stageKinds init wSeam else []))
    fun s => s.seamStart init v6 op

def execSeamStageInsert (init : Initiator) (v6 : Bool) (s : State) : Result := .next ((fresh s).seamGo init.code v6 0)
def execSeamStageDelete (init : Initiator) (v6 : Bool) (s : State) : Result := .next ((fresh s).seamGo init.code v6 1)
def execSeamTestLookup (init : Initiator) (v6 : Bool) (s : State) : Result := .next ((fresh s).seamGo init.code v6 2)
def execSeamBadOp (init : Initiator) (v6 : Bool) (s : State) : Result := .next ((fresh s).seamGo init.code v6 3)

def seamComplete (s : State) : State :=
  match s.tbl.seamRun with
  | none => s
  | some r =>
    (((s.setTbl { s.tbl with seamRun := none }).wr wSeam SEAM_RESULT.RESULT r).wr wSeam SEAM_CMD.GO 0).event wSeam 0

def execSeamCmdComplete (s : State) : Result := .next (seamComplete (fresh s))

end Sys2Proof.Machine
end

