-- ==== Sys2Proof/Machine/Trust.lean ====
section
/-! DEFINITION. The commands and events of the trust group (17_keys_lifecycle_debug.md). -/

namespace Sys2Proof.Machine

/-! ## The message buffer (R399) -/

/-- A write of TRM_PTR: it claims a free buffer, and moves the owner's pointer. -/
def execTrmClaim (init : Initiator) (ptr : Fin 8192) (s : State) : Result :=
  let s := fresh s
  .next (s.cmdWrite init.code wAttest 0x143 (ptr.val % 256) (whenK (s.trmOwner != 0 && s.trmOwner != init.code) .state)
    fun s => s.trmClaim init.code ptr.val)

/-- A read of TRM_DATA. -/
def State.trmRead (s : State) (init : Nat) (spec : Bool) : State × List Nat :=
  if s.trmOwner ≠ init then ((s.violate wAttest init .state false (wAttest * 4096 + 0x144) 0).endAccess init, [0])
  else if s.specRead init wAttest spec then (s.specHit init (wAttest * 4096 + 0x144) spec, [s.trmByte s.trmPtr])
  else (s.trmStep, [s.trmByte s.trmPtr])

def execTrmDataAccess (init : Initiator) (w : Option Byte) (spec : Bool) (s : State) : Result :=
  let s := fresh s
  match w with
  | some b => .next (s.cmdWrite init.code wAttest 0x144 b.toNat (s.trmKinds init.code) fun s => (s.trmPut s.trmPtr b.toNat).trmStep)
  | none => .next (s.cmdRead init.code wAttest 0x144 1 fun s => s.trmRead init.code spec)

/-- R399, R458: the lease of 1 s expires. -/
def trmLease (s : State) : State :=
  if s.trmOwner = 0 then s else s.trmFree.leaseRevoked (holderWindow s.trmOwner)

def execTrmLeaseExpiry (s : State) : Result := .next (trmLease (fresh s))

/-! ## Operations (R397 to R402, R409, R410) -/

def execTrmLcAdvance (init : Initiator) (ecdsaOk hssOk : Bool) (s : State) : Result :=
  .next ((fresh s).trmGo init.code opAdvance fun s => s.trmMessage opAdvance ecdsaOk hssOk)

/-- The levels of the tamper sources at the check. -/
def State.setLive (s : State) (live : Nat) : State :=
  ((s.wr wTamper TAMP_LIVE.LID (b2n (bit live 0))).wr wTamper TAMP_LIVE.MESH (b2n (bit live 1))).wr wTamper TAMP_LIVE.GLITCH
    (b2n (bit live 2))

def execTrmRootInstall (init : Initiator) (ecdsaOk hssOk : Bool) (live : Fin 8) (s : State) : Result :=
  .next ((fresh s).trmGo init.code opRoot fun s => (s.setLive live.val).trmMessage opRoot ecdsaOk hssOk)

def execTrmDebugOpen (init : Initiator) (ecdsaOk hssOk : Bool) (s : State) : Result :=
  .next ((fresh s).trmGo init.code opOpen fun s => s.trmMessage opOpen ecdsaOk hssOk)

def execTrmDebugClose (init : Initiator) (s : State) : Result :=
  .next ((fresh s).trmGo init.code opClose fun s => s.trmMessage opClose false false)

def execTrmHssInstall (init : Initiator) (ecdsaOk hssOk : Bool) (s : State) : Result :=
  .next ((fresh s).trmGo init.code opHss fun s => s.trmMessage opHss ecdsaOk hssOk)

/-- An operation without a message: GO with a length of 0 ends with result 1 (TRM_LEN card). -/
def State.trmPlain (s : State) (op : Nat) : State := s.trmRun op [] (b2n (s.rd wAttest TRM_LEN.LEN == 0))

def execTrmNonce (init : Initiator) (s : State) : Result :=
  .next ((fresh s).trmGo init.code opNonce fun s => s.trmPlain opNonce)

def execTrmRelease (init : Initiator) (s : State) : Result :=
  .next ((fresh s).trmGo init.code opRelease fun s => s.trmPlain opRelease)

/-- R401: an OP that the card does not define. -/
def badOp (op : Nat) : Nat := if op = 0 then 0 else 8 + op

def execTrmBadOp (init : Initiator) (op : Fin 8) (s : State) : Result :=
  .next ((fresh s).trmGo init.code (badOp op.val) fun s => s.trmRun (badOp op.val) [] 1)

/-! ### ATTEST -/

/-- Class and instance of a TYPE's record (R415). -/
def recordClass (ty : Nat) : Nat × Nat :=
  if ty = 1 then (0x0002, 0) else if ty = 2 then (0x0013, 0) else if ty = 3 then (0x0045, 0) else if ty = 4 then (0x0056, 0)
  else if ty = 5 then (0x0057, 0) else if ty = 6 then (0x0021, 6) else if ty = 7 then (0x0021, 0) else if ty = 8 then (0x0031, 0)
  else if ty = 9 then (0x0031, 8) else if ty = 10 then (0x0039, 0) else (0x00A1, 0)

/-- The ports whose DSP a TYPE drives. -/
def dspPorts (ty : Nat) : List Nat :=
  if ty = 6 then (List.range 10).map (6 + ·) else if ty = 7 then List.range 6 else []

def fwSha (f : FwSet) (ty : Nat) : Nat × Nat :=
  match f.images.find? (·.ty == ty) with
  | some i => (i.version, i.sha)
  | none => (0, 0)

def UpdSt.bankSet (u : UpdSt) (b : Nat) : Option FwSet := if b = 0 then u.bankA else u.bankB

/-- Version and digest of a TYPE's image in a bank. -/
def UpdSt.imageIn (u : UpdSt) (b ty : Nat) : Nat × Nat :=
  match u.bankSet b with
  | some f => fwSha f ty
  | none => (0, 0)

def recordBytes (cls inst bank version sha : Nat) : List Nat :=
  toBytes cls 2 ++ [inst % 256, bank] ++ toBytes version 4 ++ toBytes sha 48

/-- The records of a TYPE: its own, and one for each port whose DSP runs from the other bank (R416). -/
def UpdSt.typeRecords (u : UpdSt) (ty : Nat) : List (List Nat) :=
  match u.running.find? (·.1 == ty) with
  | none => []
  | some (_, r) =>
    let c := recordClass ty
    let other := (dspPorts ty).filter fun p => look u.portBank p r.bank != r.bank
    recordBytes c.1 c.2 r.bank r.version r.sha ::
      other.map fun p =>
        let b := look u.portBank p r.bank
        recordBytes c.1 p b (u.imageIn b ty).1 (u.imageIn b ty).2

/-- The record of the active configuration image. -/
def State.imageRecord (s : State) : List Nat :=
  let c := Config.imageClass.toNat
  recordBytes (c / 256) (c % 256) (s.rd wUpd UPD_CFG_STAT.SLOT - 1) (s.rd wUpd UPD_CFG_SEQ.SEQ) (Config.imageSha s.cfg.header).toNat

def State.attRecords (s : State) : List (List Nat) :=
  (List.range 11).flatMap (fun k => s.upd.typeRecords (k + 1)) ++
    (if s.rd wUpd UPD_CFG_STAT.SLOT = 0 then [] else [s.imageRecord])

/-- The statement body (R409). -/
def State.attBody (s : State) (index : Nat) (nonce : List Nat) : List Nat :=
  let recs := s.attRecords
  let flags := b2n s.pwr.tampered * 128 + s.rd wPwr PWR_STATE.COLD * 64 + s.pwr.mode * 16
  let attrs := (List.range 256).flatMap fun k => toBytes (s.ksAttr k / 65536) 2 ++ toBytes (s.rd wKS KS_VER.VER k) 2
  toBytes 0x565A4154 4 ++ [1, s.lcState, s.debugLevel, flags] ++ toBytes Config.deviceId.toNat 16 ++
    toBytes (Config.sha384 (Config.identityKey.map BitVec.toNat)).toNat 48 ++ toBytes (Config.sha384 attrs).toNat 48 ++
    toBytes (s.rd wAuth AUTH_EPOCH.VALID * 2 ^ 31 + s.rd wAuth AUTH_EPOCH.EPOCH) 4 ++ toBytes index 4 ++
    toBytes s.ax0.sec 6 ++ toBytes s.ax0.ns 4 ++ [s.rd (wAx 0) AX0_STATE.STATE, recs.length] ++ nonce ++ recs.flatten

/-- The result of ATTEST's checks. -/
def State.attCheck (s : State) : Nat :=
  if s.rd wAttest TRM_LEN.LEN ≠ 32 then 1 else if s.lcState = lcScrap then 3
  else if !s.trust.identity || s.rd wAttest HSS_STATE.STATE != 1 || s.rd wAttest HSS_INDEX.INDEX == lastIndex then 7 else 0

/-- GO with OP 7: the index is consumed before anything is signed (R410). -/
def attest (s : State) : State :=
  let r := s.attCheck
  if r ≠ 0 then
    let spent := s.rd wAttest HSS_STATE.STATE == 1 && s.rd wAttest HSS_INDEX.INDEX == lastIndex
    (s.when spent fun s => s.wr wAttest HSS_STATE.STATE 3).trmRun opAttest [] r
  else
    let i := s.rd wAttest HSS_INDEX.INDEX
    let body := s.attBody i (s.trmBytes 0 32)
    let msg := body ++ fixLen 96 (Config.identitySign body) ++ fixLen 5076 (Config.hssSign (s.trust.hssGen * 2 ^ 32 + i) body)
    let s := (s.wr wAttest HSS_INDEX.INDEX (i + 1)).setTrust { s.trust with mirror := i + 1 }
    let s := if i + 1 = lastIndex then s.wr wAttest HSS_STATE.STATE 3 else s
    s.trmRun opAttest msg 0

def execTrmAttest (init : Initiator) (s : State) : Result := .next ((fresh s).trmGo init.code opAttest attest)

/-- R401: the running operation ends. A closed session may let a pending PARK begin (R412). -/
def execTrustOpComplete (writeOk : Bool) (s : State) : Result := .next ((fresh s).trmDone writeOk).parkCheck

/-- R412. -/
def sessionOver (s : State) : State := if s.trust.session then s.debugClose.parkCheck else s

def execDebugSessionExpiry (s : State) : Result := .next (sessionOver (fresh s))

/-! ## Key slots (R405, R406) -/

def execKsShadowWrite (init : Initiator) (i : Fin 40) (v : Byte) (s : State) : Result :=
  let s := fresh s
  .next (s.cmdWrite init.code wKS (0x150 + i.val) v.toNat (s.shKinds init.code s.ksSel)
    fun s => s.shadowByte init.code s.ksSel i.val v.toNat)

def execKsUnwrapDone (k : Fin 256) (s : State) : Result := .next ((fresh s).unwrapDone k.val)

def execKsCommit (init : Initiator) (s : State) : Result :=
  let s := fresh s
  .next (s.cmdField init.code wKS KS_CMD.COMMIT
    (s.shKinds init.code s.ksSel ++ whenK (s.shState s.ksSel != shVerified) .state) fun s => s.shadowCommit s.ksSel)

def execKsDiscard (init : Initiator) (s : State) : Result :=
  let s := fresh s
  .next (s.cmdField init.code wKS KS_CMD.DISCARD (s.shKinds init.code s.ksSel) fun s => s.shadowZero s.ksSel)

/-- PERSIST starts; what it lacks shows at its end. -/
def persistStart (s : State) : State := (s.wr wKS KS_CMD.PERSIST 1).setTrust { s.trust with persist := some s.ksSel }

def execKsPersist (init : Initiator) (s : State) : Result :=
  .next ((fresh s).cmdField init.code wKS KS_CMD.PERSIST [] persistStart)

def execKsPersistDone (ok : Bool) (s : State) : Result := .next ((fresh s).persisted ok)

/-- R405, R458: the shadow's lease expires. -/
def shadowLease (k : Nat) (s : State) : State :=
  if s.shState k = shEmpty then s else (s.shadowZero k).leaseRevoked (holderWindow (s.shOwner k))

def execKsShadowLeaseExpiry (k : Fin 256) (s : State) : Result := .next (shadowLease k.val (fresh s))

/-! ## Tamper (R407, R408) -/

def execTamperDetected (src : Fin 3) (s : State) : Result := .next (tamper src.val (fresh s))

end Sys2Proof.Machine
end

