-- ==== Sys2Proof/Machine/RegOps.lean ====
section
/-! DEFINITION. The write of a register, byte by byte (R5, R18, R86, R494 to R496): what each register's card says of it. The registers of UPD,
of Derrick and of the UNIT reset come in later files. -/

namespace Sys2Proof.Machine

/-- What a register's card says of a write: what it is refused for, and what it does. -/
structure Act where
  kinds : List Kind
  run : State → State

/-- A register whose fields are stored. -/
def State.plainAct (s : State) (w o v : Nat) (refused : Bool) : Act :=
  ⟨whenK (refused && s.changes w o v) .state, fun s => s.storeReg w o v⟩

/-- A register with CMD fields (R5, R8, R495): RW fields take effect first. -/
def State.cmdReg (s : State) (w o v : Nat) (l : List (Field × List Kind × (State → State))) : Act :=
  match l.filter fun x => bit v x.1.lo with
  | [] => ⟨[], fun s => s.storeReg w o v⟩
  | [(f, k, g)] => ⟨k ++ whenK (s.on w f) .cmdBusy, fun s => g (s.storeReg w o v)⟩
  | _ => ⟨[.state], id⟩

/-! ## Common and group registers (R49, R42, R44, R87) -/

/-- R49. -/
def State.handshake (s : State) (w v : Nat) : State :=
  let s := (s.wr w DESC_DRV.DRV_MAJ (v / 256)).wr w DESC_DRV.DRV_MIN v
  let ok := v / 256 % 256 == ifvOf w / 256 && v / 256 % 256 != 0
  let s := (s.wr w DESC_ACT.ACT_MAJ (if ok then ifvOf w / 256 else 1)).wr w DESC_ACT.ACT_MIN (if ok then min (v % 256) (ifvOf w % 256) else 0)
  s.wr w DESC_SUMMARY.VBASE (b2n (!ok))

/-- A fan-out of a group runs. -/
def State.fanBusy (s : State) (w : Nat) : Bool := s.fans.any (·.grp == w)

/-- The windows a fan-out reaches, in ascending number; remote windows are never among them (R42, R45). -/
def State.fanReach (s : State) (w : Nat) : List Nat :=
  let c := s.rd w GRP_FANOUT_CLASS.FCLASS
  if c = 0 then childrenOf w
  else fixedWindows.filter fun v => (descendantsOf w).contains v && (match unitOf v with
    | some u => u.code == c
    | none => false)

def State.fanStart (s : State) (init w data : Nat) : State :=
  (s.setFans (s.fans ++ [⟨w, init, s.rd w GRP_FANOUT_OFS.FOFS, data % 256, s.fanReach w, 0⟩])).wr w GRP_FANOUT_STAT.BUSY 1

def State.irqEnWrite (s : State) (w v : Nat) : State := (s.wr w UNIT_IRQ_EN.EN v).irqRise w (s.irqPending w)

/-- In C2 PIN stores 0 (R475). -/
def State.pinOf (s : State) (v : Nat) : Nat := if s.pwr.mode = 2 then 0 else v / 128 % 2

def State.irqRouteWrite (s : State) (w v : Nat) : State :=
  let s := (s.wr w UNIT_IRQ_ROUTE.PIN (s.pinOf v)).wr w UNIT_IRQ_ROUTE.VEC v
  if s.on w UNIT_IRQ_ROUTE.PIN && s.irqPending w then s.driveIrq else s

def State.commonAct (s : State) (init w o v : Nat) : Act :=
  if o = 0x008 then ⟨[], fun s => s.handshake w v⟩
  else if o = 0x020 then ⟨whenK (init != initMp && s.changesF w UNIT_CTRL.LOCK v) .privilege, fun s => s.wr w UNIT_CTRL.LOCK (v / 64)⟩
  else if o = 0x031 then ⟨[], fun s => s.irqEnWrite w v⟩
  else if o = 0x032 then ⟨[], fun s => s.irqRouteWrite w v⟩
  else ⟨[], id⟩

def State.groupAct (s : State) (init w o v : Nat) : Act :=
  if o = 0x104 then ⟨whenK (s.fanBusy w) .fanoutBusy ++ whenK (s.isSafe w) .state, fun s => s.fanStart init w v⟩
  else ⟨whenK (s.fanBusy w && s.changes w o v) .fanoutBusy, fun s => s.storeReg w o v⟩

/-! ## Host rings (R100, R103) -/

def State.hostAct (s : State) (w o v : Nat) : Act :=
  if o < 0x200 ∨ 0x600 ≤ o then s.plainAct w o v false
  else
    let tx := decide (o < 0x400)
    let r := o / 32 % 16
    let k := o % 32
    if k = 0 then s.plainAct w o v (s.on w (fEn tx r))
    else if k = 8 then ⟨s.cfgKinds tx r (v % 128), if 128 ≤ v then ringBegin tx r (v % 128) else ringClear tx r v⟩
    else if k = 0x0A then ⟨[], fun s =>
      let f := if tx then HOST_TX_VEC.PIN.elem r else HOST_RX_VEC.PIN.elem r
      let g := if tx then HOST_TX_VEC.VEC.elem r else HOST_RX_VEC.VEC.elem r
      let s := (s.wr w f (s.pinOf v)).wr w g v
      if s.pinWanted then s.driveIrq else s⟩
    else if k = 0x0C then ⟨[], Machine.ringTail tx r v⟩
    else s.plainAct w o v false

/-! ## Power, supply, trust -/

def State.pwrAct (s : State) (w o v : Nat) : Act :=
  if o = 0x141 then s.cmdReg w o v
    [(PWR_CTRL.PARK, s.parkKinds, park), (PWR_CTRL.CANCEL, [], State.cancelPark),
     (PWR_CTRL.SOFT, [], fun s => s.softReset causeSoft), (PWR_CTRL.MPWARM, [], State.mpWarm)]
  else ⟨[], fun s => (s.storeReg w o v).parkCheck⟩

/-- R460: WD_PERIOD 0 stores 10 in FIELD and SERVICE. -/
def State.wdPeriod (s : State) (v : Nat) : Nat := if v % 256 = 0 ∧ (s.lcState = lcField ∨ s.lcState = lcService) then 10 else v

def State.supAct (s : State) (init w o v : Nat) : Act :=
  if o = 0x151 then ⟨whenK (init != initMp) .privilege, kick v⟩
  else if o = 0x150 then ⟨[], fun s => s.wr w SUP_WD_CFG.WD_PERIOD (s.wdPeriod v)⟩
  else s.plainAct w o v false

def State.ksAct (s : State) (init w o v : Nat) : Act :=
  if o = 0x14A then s.cmdReg w o v
    [(KS_CMD.COMMIT, s.shKinds init s.ksSel ++ whenK (s.shState s.ksSel != shVerified) .state, fun s => s.shadowCommit s.ksSel),
     (KS_CMD.DISCARD, s.shKinds init s.ksSel, fun s => s.shadowZero s.ksSel), (KS_CMD.PERSIST, [], persistStart)]
  else if 0x150 ≤ o ∧ o < 0x178 then ⟨s.shKinds init s.ksSel, fun s => s.shadowByte init s.ksSel (o - 0x150) v⟩
  else if o = 0x14B then ⟨if s.changes w o v then s.shKinds init s.ksSel else [], fun s => s.storeReg w o v⟩
  else s.plainAct w o v false

/-- R407. -/
def State.tamperAct (s : State) (w o v : Nat) : Act :=
  let cleared := [TAMP_EN.LID, TAMP_EN.MESH, TAMP_EN.GLITCH].any fun f => s.on w f && !bit v f.lo
  ⟨whenK (o == 0x140 && cleared && (s.lcState == lcField || s.lcState == lcService)) .lifecycle, fun s => s.storeReg w o v⟩

/-- GO with an OP. Whether the two signatures of a message verify, the levels of the tamper sources being as they are, is not the register
write's to say: two free values. -/
def State.trmOp (s : State) (op : Nat) : State :=
  let (a, s) := s.draw
  let (b, s) := s.draw
  let ec := bit a.toNat 0
  let hs := bit b.toNat 0
  if op = opAdvance ∨ op = opRoot ∨ op = opOpen ∨ op = opClose ∨ op = opHss then s.trmMessage op ec hs
  else if op = opNonce ∨ op = opRelease then s.trmPlain op
  else if op = opAttest then attest s
  else s.trmRun op [] 1

def State.attestAct (s : State) (init w o v : Nat) : Act :=
  if o = 0x142 then ⟨whenK (s.trmOwner != 0 && s.trmOwner != init) .state, fun s => s.trmClaim init (v % 8192)⟩
  else if o = 0x144 then ⟨s.trmKinds init, fun s => (s.trmPut s.trmPtr v).trmStep⟩
  else if o = 0x140 then
    ⟨s.trmKinds init ++ whenK (bit v 7 && s.on w TRM_CMD.GO) .cmdBusy, fun s =>
      let s := s.wr w TRM_CMD.OP v
      if bit v 7 then s.trmOp (v % 16) else s⟩
  else if o = 0x146 then ⟨s.trmKinds init, fun s => s.storeReg w o v⟩
  else s.plainAct w o v false

/-! ## Tables, fabric -/

def State.tblAct (s : State) (init w o v : Nat) : Act :=
  if o = 0x140 then
    let busy := whenK s.tblBusy .commitBusy
    s.cmdReg w o v
      [(TBL_CTRL.COMMIT, s.ownerKinds init ++ busy, fun s => s.commit false), (TBL_CTRL.ABORT, s.ownerKinds init, State.discardDelta),
       (TBL_CTRL.ACQUIRE, [], fun s => s.tblAcquire init), (TBL_CTRL.RELEASE, whenK (s.tblOwner != init) .state, State.tblRelease)]
  else s.plainAct w o v false

def State.otherRsv (s : State) (but : Nat) : Nat :=
  (((List.range 256).filter (· != but)).map fun p => s.rd wStockpile STK_RSV.RSV p).sum

def State.stkAct (s : State) (w o v : Nat) : Act :=
  if o = 0x145 then
    s.plainAct w o v (decide (40960 < s.otherRsv (s.rd w STK_RSV_SEL.PORT) + STK_RSV.RSV.fit.apply (v % 8192)))
  else s.plainAct w o v false

/-- Writes of a Hopper: a gate is written as by an event (R145), and the credits are brought up to date before a gate or a slope changes (R144). -/
def State.hopAct (s : State) (w o v : Nat) : Act :=
  if o = 0x140 then
    let p := instOf w
    s.cmdReg w o v [(HOP_CTRL.FLUSH, [], fun s => (s.hopDrain p (s.flushClasses p) .dropped 0x22).wr w HOP_CTRL.FLUSH 1)]
  else if o = HOP_GATE.OPEN.ofs ∧ s.isSafe w = false then ⟨[], fun s => s.each allClasses fun s c => s.setGate (instOf w) c (bit v c)⟩
  else
    let a := s.plainAct w o v false
    { a with run := fun s => a.run (s.refreshCredit (instOf w)) }

def State.ethAct (s : State) (w o v : Nat) : Act :=
  let p := instOf w
  if o = 0x140 then ⟨[], ethCfgWrite p v⟩
  else if o = 0x142 then s.cmdReg w o v
    [(ETH_CTRL.SLEEP, whenK (s.ethState p != ethUp || s.isSafe w) .state, fun s => s.sleepStart p),
     (ETH_CTRL.WAKE, [], fun s => (s.ethWake p).ethSynced p),
     (ETH_CTRL.RETRAIN, whenK (s.ethState p == ethDisabled) .state, retrain p),
     (ETH_CTRL.PHY_RESET, [], phyResetStart p)]
  else if o = 0x146 then ⟨whenK (s.loopRefused p (v % 4)) .state, loopWrite p (v % 4)⟩
  else if 0x150 ≤ o ∧ o < 0x156 ∧ !isSerdes p then ⟨[], id⟩
  else if o = 0x151 ∧ bit v 7 then
    ⟨s.mdioKinds p, mdioGo p v⟩
  else if o = 0x148 then s.plainAct w o (sleepCfgFit p v) false
  else s.plainAct w o v false

def State.l2Act (s : State) (init w o v : Nat) : Act :=
  let op := v / 16 % 8
  if o = 0x14A then s.cmdReg w o v [(L2_REHASH.START, whenK (s.rehash != rhIdle) .state, fun s =>
    ((s.wr wL2 L2_REHASH.CUR (1 - s.l2Cur)).wr wL2 L2_REHASH.START 1).setRehash rhMigrate 1)]
  else if o = 0x146 ∨ o = 0x148 then s.plainAct w o v (s.rehash != rhIdle || s.l2Cur == (o - 0x146) / 2)
  else if o = 0x150 ∧ bit v 7 then
    ⟨whenK (s.on w L2_CMD.GO) .cmdBusy ++ whenK (op != 0 && s.isSafe w) .state ++
      (if op = 1 ∨ op = 2 then s.stageKinds init w else []), fun s => s.l2Start init op⟩
  else s.plainAct w o v false

def State.seamAct (s : State) (init w o v : Nat) : Act :=
  let op := v / 32 % 4
  if o = 0x140 ∧ bit v 7 then
    ⟨whenK (s.on w SEAM_CMD.GO) .cmdBusy ++ (if op < 2 then s.stageKinds init w else []), fun s => s.seamStart init (bit v 4) op⟩
  else s.plainAct w o v false

/-! ## CAN and LIN (R207, R218, R221, R224, R225, R227) -/

/-- SJW above TSEG2 stores TSEG2 (R496). -/
def State.sjwFit (s : State) (w o : Nat) : State :=
  let fit := fun (s : State) (sjw tseg : Field) => if s.rd w tseg < s.rd w sjw then s.wr w sjw (s.rd w tseg) else s
  if o = 0x180 then fit s CAN_NBT.SJW CAN_NBT.TSEG2 else if o = 0x185 then fit s CAN_DBT.SJW CAN_DBT.TSEG2
  else if o = 0x189 then fit s CAN_XBT.SJW CAN_XBT.TSEG2 else s

def State.canAct (s : State) (w o v : Nat) : Act :=
  let p := instOf w
  if o = 0x170 then ⟨s.canCfgKinds p v, canCfgWrite p v⟩
  else if o = 0x172 then s.cmdReg w o v [(CAN_CTRL.RECOVER, whenK (s.canState p != canBusOff) .state, fun s => s.canToRecover p)]
  else if o = 0x189 ∧ p < 8 then ⟨[], id⟩
  else if o = 0x18E ∧ p < 8 then ⟨[], id⟩
  else if o = 0x180 ∨ o = 0x185 ∨ o = 0x189 ∨ o = 0x18E then
    ⟨whenK (s.canState p != canOff && s.changes w o v) .state, fun s => (s.storeReg w o v).sjwFit w o⟩
  else if o = 0x1A0 ∨ o = 0x1B0 then
    let n := (o - 0x1A0) / 16
    ⟨whenK (s.fifoShut p n v) .state, fifoWrite p n v⟩
  else if o = 0x201 then s.cmdReg w o v
    [(CAN_OBJ_CMD.TAKE, [], objTake p), (CAN_OBJ_CMD.STORE, whenK (s.storeRefused p) .state, fun s => s.viewToObj p (s.objSel p)),
     (CAN_OBJ_CMD.SEND, whenK (s.obj p (s.objSel p) CAN_OBJ_VIEW.TXRQ == 1 || s.isSafe w) .state, objSend p),
     (CAN_OBJ_CMD.ABORT, [], objAbort p)]
  else s.plainAct w o v false

def State.linAct (s : State) (w o v : Nat) : Act :=
  let p := instOf w
  if o = 0x170 then ⟨[], linCfgWrite p v⟩
  else if o = 0x173 then
    if bit v 7 then
      ⟨whenK (s.linState p == linOff || s.linState p == linSleep || s.isSafe w) .state ++
        whenK (s.on w LIN_SCHED_CMD.GO) .cmdBusy, schedGo p (v % 8)⟩
    else s.plainAct w o v false
  else if 0x180 ≤ o ∧ o < 0x190 then
    let bad := 128 < bits v 15 9 + min 64 (bits v 8 2)
    s.plainAct w o v (bad || s.linBusyTab p ((o - 0x180) / 2))
  else if 0x200 ≤ o ∧ o < 0x400 then
    let e := (o - 0x200) / 4
    ⟨whenK (s.sentryRefused p e v) .state, sentryWrite p e v⟩
  else if 0x400 ≤ o then
    let i := (o - 0x400) / 16
    if o % 16 = 8 then ⟨[], fun s => (s.linReplace p i).setLinData p i v⟩
    else ⟨whenK (s.isSafe w && s.changes w o v) .state, fun s =>
      let s := s.storeReg w o v
      if 0x3C ≤ i then s.wr w (LIN_FRAME.CSUM.elem i) 0 else s⟩
  else s.plainAct w o v false

/-! ## Gateway and guard -/

def State.sigAct (s : State) (w o v : Nat) : Act :=
  if o = 0x160 then
    let i := s.rd w SIG_SEL.INDEX
    let g := s.genOf w
    ⟨whenK (s.sig g SIG_ENTRY.SRC i != 6) .state, fun s => if s.sig g SIG_ENTRY.VALID i = 1 then s.sigStore i v else s⟩
  else s.plainAct w o v false

def State.pduAct (s : State) (w o v : Nat) : Act :=
  if o = 0x142 then s.cmdReg w o v [(PDU_CMD.SEND, [], fun s => s.sendBuild (s.rd w PDU_SEL.INDEX))]
  else s.plainAct w o v false

def State.weighAct (s : State) (w o v : Nat) : Act :=
  if o = 0x166 then s.cmdReg w o v [(WB_CMD.REFILL, [], fun s =>
    s.fillBucket (s.genOf w) (s.rd w WB_SEL.POL))]
  else s.plainAct w o v false

/-- A value that is not adopted also sets EPOCH_LOW, in State.refusedByte. -/
def State.authAct (s : State) (w o v : Nat) : Act :=
  if o = 0x141 then
    let e := v % 2 ^ 24
    ⟨whenK (!s.epochNew e || s.isSafe w) .state, fun s => s.offerEpoch e⟩
  else if o = 0x140 then ⟨[], fun s => (s.storeReg w o v).reserveChanged⟩
  else s.plainAct w o v false

/-- The low bits of PN keep their places: a key write of 0 stores 1. -/
def State.msecAct (s : State) (w o v : Nat) : Act :=
  let k := s.selSc
  if o = 0x170 then ⟨if s.secyAll.changes w o v then s.scKinds k v else [], fun s => if s.secyAll.changes w o v then s.secyPut (.sc k v) else s⟩
  else if o = 0x188 then ⟨if s.secyAll.changes w o v then s.saKinds k s.selSa v else [],
    fun s => if s.secyAll.changes w o v then s.secyPut (.sa k s.selSa v) else s⟩
  else if o = 0x17C then
    if bit v 7 then
      ⟨s.switchKinds k, fun s => (s.wr w MSEC_SC_CTRL.AUTO_SW (v / 64) k).switchSc k⟩
    else s.plainAct w o v false
  else s.plainAct w o v false

/-! ## Time -/

/-- AX_SRC names an engine that is not there (AX_SRC card). -/
def State.axSrcBad (s : State) (n v : Nat) : Bool := s.axSrc n == 2 && decide (5 < bits v 31 26)

def State.axAct (s : State) (w o v : Nat) : Act :=
  let n := instOf w
  if n = 0 then
    if o = 0x176 then s.cmdReg w o v
      [(AX0_CTRL.STEP, whenK (s.isSafe w) .state, ax0Step), (AX0_CTRL.MARK, [], ax0Mark), (AX0_CTRL.UNSYNC, [], ax0Unsync)]
    else if o = 0x17C then ⟨[], servo false v⟩
    else if o = 0x180 then ⟨[], servo true v⟩
    else if o = 0x16C then s.plainAct w o v (s.isSafe w)
    else if o < 0x160 then ⟨[], id⟩
    else s.plainAct w o v false
  else if o = 0x140 then ⟨s.axCfgKinds n v, axCfgWrite n v⟩
  else if o = 0x141 then
    ⟨whenK (s.changes w o v && (s.isSafe w || s.on w AX_CFG.EN || s.axSrcBad n v)) .state, fun s => s.storeReg w o v⟩
  else if o = 0x146 then s.plainAct w o v (s.isSafe w || s.on w AX_CFG.EN)
  else s.plainAct w o v false

/-- R475: an action on a legacy channel. -/
def evLegacy (v : Nat) : Bool :=
  let a := bits v 147 144
  (a == 5 || a == 6 || a == 7) && legacyChannel (bits v 143 128)

def State.evpAct (s : State) (init w o v : Nat) : Act :=
  if o = 0x142 then s.cmdReg w o v
    [(EVP_CMD.ARM, s.armKinds, armCmd), (EVP_CMD.DISARM, [], disarmCmd),
     (EVP_CMD.GARM, whenK (s.isSafe w) .state, groupArmCmd), (EVP_CMD.GDIS, [], groupDisarmCmd)]
  else if o = 0x148 then
    ⟨whenK (s.changes w o v && (s.isSafe w || (s.evArmed s.evSel).isSome)) .state ++
      whenK (s.pwr.mode == 2 && init != initMp && evLegacy v) .partition, fun s => s.storeReg w o v⟩
  else s.plainAct w o v false

/-! ## Body -/

/-- LS is changed only in OFF (CH_CFG card). -/
def State.chAct (s : State) (w o v : Nat) : Act :=
  let n := instOf w
  if o = 0x140 then
    ⟨whenK (s.changesF w CH_CFG.LS v && s.prot n != protOff) .state, fun s => s.storeReg w o v⟩
  else if o = 0x141 then ⟨[], fun s =>
    let s := s.storeReg w o v
    if s.ctrl n = ctrlLimp then (s.chEval n).chOutput n else s⟩
  else if o = 0x142 then ⟨[], fun s => s.chCommand n (bit v 7)⟩
  else if o = 0x144 then ⟨[], fun s => (s.storeReg w o v).chEval n⟩
  else if o = 0x143 then s.cmdReg w o v
    [(CH_CMD.CLEAR, [], chClear n), (CH_CMD.DIAG, [], fun s => if s.chTestable n then offTest n (s.wr w CH_CMD.DIAG 1) else s)]
  else s.plainAct w o v false

def State.bridgeAct (s : State) (w o v : Nat) : Act :=
  let k := instOf w
  if o = 0x140 then
    ⟨s.hbKinds k (v % 8), fun s => if s.rd w HB_CTRL.MODE = v % 8 then s else s.hbSetMode k (v % 8)⟩
  else s.plainAct w o v false

/-- R334: the allotments sum to at most 12 W. -/
def State.allotBad (s : State) (k v : Nat) : Bool :=
  decide (12000 < (((List.range 6).filter (· != k)).map fun j => s.rd (wPS j) PS_ALLOT.ALLOT).sum + v % 65536)

def State.psAct (s : State) (w o v : Nat) : Act := s.plainAct w o v (o == 0x140 && s.allotBad (instOf w) v)

/-- An enabled axis or engine names an input (R341). -/
def State.swNamed (s : State) (n : Nat) : Bool :=
  ((List.range 7).any fun a => s.on (wAx (a + 1)) AX_CFG.EN && s.axSrc (a + 1) == 1 &&
    (s.rd (wAx (a + 1)) AX_SRC.UNIT_A == n || s.rd (wAx (a + 1)) AX_SRC.UNIT_B == n)) ||
  ((List.range 6).any fun k => s.on (wME k) ME_CFG.EN &&
    ((1 ≤ s.rd (wME k) ME_CFG.TRACK && s.rd (wME k) ME_INPUTS.HALL_A == n) ||
      (s.rd (wME k) ME_CFG.TRACK == 2 && s.rd (wME k) ME_INPUTS.HALL_B == n) ||
      (s.on (wME k) ME_INPUTS.PARK_EN && s.rd (wME k) ME_INPUTS.PARK_SW == n)))

def State.swAct (s : State) (w o v : Nat) : Act :=
  ⟨whenK (s.changes w o v && s.isSafe w) .state ++
    whenK (o == 0x140 && s.changesF w SW_CFG.MODE v && s.swNamed (instOf w)) .state,
    fun s => (s.storeReg w o v).swFollow (instOf w) (s.on w SW_CFG.POL)⟩

/-- An input whose EN falls reads VALUE 0 (R345). -/
def State.anAct (s : State) (w o v : Nat) : Act :=
  ⟨whenK (s.isSafe w && s.changes w o v) .state, fun s =>
    let s := s.storeReg w o v
    if o = 0x140 ∧ s.on w AN_CFG.EN = false then s.anOff (instOf w) else s⟩

/-- ME_CFG and ME_INPUTS are writable in IDLE and OFF (their card); EN acts (R348). In SAFE a written command is refused, and any other
discarded (R359). -/
def State.meAct (s : State) (w o v : Nat) : Act :=
  let k := instOf w
  if o = 0x180 then ⟨whenK (4 < v % 8 || s.isSafe w) .state, fun s => s.meModeCommand k (v % 8)⟩
  else if o = 0x181 then s.cmdReg w o v [(ME_CTRL.SETPOS, whenK (s.meState k != meIdle || s.isSafe w) .state, fun s =>
    (s.setPos k (toSigned (s.rd w ME_REF_POS.REF_POS) 32)).wr w ME_STATE.NORM 1)]
  else if o = 0x184 then ⟨whenK (s.isSafe w) .state, fun s => (s.wr w ME_TARGET.TARGET v).meCommand k (.move (toSigned v 32))⟩
  else
    let open_ := s.meState k == meIdle || s.meState k == meOff
    if o = 0x140 then
      let t := s.storeReg w o v
      ⟨whenK (s.changes w o v && !open_) .state ++
        (if bit v 7 = s.on w ME_CFG.EN then [] else whenK (bit v 7 && t.meBadInputs k) .state ++ whenK (s.isSafe w) .state),
        fun s =>
          let was := s.rd w ME_CFG.EN
          meSetEn k (bit v 7) ((s.storeReg w o v).wr w ME_CFG.EN was)⟩
    else s.plainAct w o v (o == 0x141 && !open_)

/-! ## Wake (R378) -/

/-- The registers that the safe state closes: WK_ROUTE, WK_NET and WK_NM_CFG. -/
def safeRefuses (o : Nat) : Bool := (0x200 ≤ o && o < 0x2C0) || (0x400 ≤ o && o < 0x4B0) || (0x608 ≤ o && o < 0x610)

def State.wakeAct (s : State) (w o v : Nat) : Act :=
  if o = 0x154 then ⟨[], pncLocal v⟩
  else if o = 0x608 then ⟨whenK (s.isSafe w && s.changes w o v) .state, nmWrite v⟩
  else if 0x200 ≤ o ∧ o < 0x600 then
    ⟨whenK (safeRefuses o && s.isSafe w && s.changes w o v) .state, fun s => (s.storeReg w o v).evalNets.parkCheck⟩
  else if o = 0x140 then ⟨[], fun s => (s.storeReg w o v).wioSync⟩
  else s.plainAct w o v false

/-- STANDBY begins with an empty frame error counter (R372). -/
def cantWrite (w o v : Nat) (s : State) : State :=
  let t := s.storeReg w o v
  if o = 0x140 ∧ t.rd w CANT_MODE.MODE = 2 ∧ s.rd w CANT_MODE.MODE ≠ 2 then t.wr w CANT_FEC.FEC 0 else t

/-! ## All classes -/

def State.regAct (s : State) (init w o v : Nat) : Act :=
  if o < 0x100 then s.commonAct init w o v
  else if o < 0x140 ∧ isGroup w then s.groupAct init w o v
  else match clsOf w with
    | .host => s.hostAct w o v
    | .pwr => s.pwrAct w o v
    | .sup => s.supAct init w o v
    | .ks => s.ksAct init w o v
    | .tamper => s.tamperAct w o v
    | .attest => s.attestAct init w o v
    | .tables => s.tblAct init w o v
    | .stockpile => s.stkAct w o v
    | .hopper => s.hopAct w o v
    | .eth => s.ethAct w o v
    | .l2 => s.l2Act init w o v
    | .seam => s.seamAct init w o v
    | .can => s.canAct w o v
    | .lin => s.linAct w o v
    | .signal => s.sigAct w o v
    | .pdu => s.pduAct w o v
    | .weigh => s.weighAct w o v
    | .auth => s.authAct w o v
    | .macsec => s.msecAct w o v
    | .axis | .axis0 => s.axAct w o v
    | .evp => s.evpAct init w o v
    | .channels => if o = 0x141 then
        s.cmdReg w o v [(CHG_CTRL.RESUME, whenK (init != initMp) .privilege, resumeHold)] else s.plainAct w o v false
    | .channel => s.chAct w o v
    | .bridge => s.bridgeAct w o v
    | .ps => s.psAct w o v
    | .switch => s.swAct w o v
    | .analog => s.anAct w o v
    | .motion => s.meAct w o v
    | .wake => s.wakeAct w o v
    | .cant => ⟨[], cantWrite w o v⟩
    | .sieve => s.plainAct w o v (s.isSafe w && o == 0x1C1)
    | .common | .group | .root | .upd | .fabric | .ethGroup | .vlan | .lint | .route | .dlist | .se | .canf | .engine
    | .stamp | .therm | .inputs | .bist | .lc | .debug | .derrick | .legacy | .plain => s.plainAct w o v false

/-! ## W1C (R5, R91) -/

/-- What falls with a bit that software has cleared. -/
def State.cleared (s : State) (w : Nat) (f : Field) : State :=
  let zero := fun (s : State) (l : List Field) => s.each l fun s g => s.wr w g 0
  if f = UNIT_STICKY.VIOL then zero s [VIOL_ADDR.ADDR, VIOL_ADDR.INIT, VIOL_ADDR.KIND, VIOL_ADDR.WR, VIOL_ADDR.OVR, VIOL_ADDR.WDATA]
  else if f = UNIT_STICKY.CFG_PARITY then
    (if s.rd w FAULT_ADDR.CAUSE = 1 then zero s [FAULT_ADDR.CAUSE, FAULT_ADDR.OVR, FAULT_ADDR.OFS] else s)
  else if f = UNIT_STICKY.FAULT then
    (if 2 ≤ s.rd w FAULT_ADDR.CAUSE then zero s [FAULT_ADDR.CAUSE, FAULT_ADDR.OVR, FAULT_ADDR.OFS] else s)
  else if f = HOST_STATUS.SPEC_HIT then zero s [HOST_SPEC_ADDR.INIT, HOST_SPEC_ADDR.ADDR]
  else if f = HOST_STATUS.DR_LOST then zero s [HOST_DR_ADDR.ADDR]
  else if f = GRP_FANOUT_STAT.REJ then zero s [GRP_FANOUT_REJWIN.REJWIN]
  else if f = TBL_STAT.ENTRY_REJ then zero s [TBL_REJ_INFO.TABLE, TBL_REJ_INFO.KEYREF]
  else if f = UPD_STG_STAT.STG_REJ then zero s [UPD_STG_STAT.CAUSE]
  else if f = WK_LATCH.LATCH then (if s.rd w f = 0 then zero s [WK_FIRST.VALID, WK_FIRST.SRC] else s)
  else if (f = DRK_STAT.REM_ERR ∧ s.rd w DRK_ERR_ADDR.KIND ≠ 4) ∨ (f = DRK_STAT.SPEC_REM ∧ s.rd w DRK_ERR_ADDR.KIND = 4) then
    zero s [DRK_ERR_ADDR.PEER, DRK_ERR_ADDR.KIND, DRK_ERR_ADDR.ADDR]
  else s

/-- The written 1s of a byte clear the bits they name. -/
def State.w1cByte (s : State) (w ofs b : Nat) : State :=
  s.each ((fieldsIn w ofs).filter fun f => f.acc == .w1c) fun s f =>
    let i := s.selOf w ofs
    let mask := bits (b * 256 ^ (f.ofs + f.len - 1 - ofs)) f.hi f.lo
    let old := s.rd w f i
    if old &&& mask = 0 then s else (s.wr w f (old - (old &&& mask)) i).cleared w f

/-! ## A byte -/

/-- The byte that waits for its register's highest-address byte (R496); 256: none. -/
def State.heldByte (s : State) (w ofs : Nat) : Nat := look s.wbuf (w * 4096 + ofs) 256

def State.hold (s : State) (w ofs b : Nat) : State := s.setWbuf (store s.wbuf (w * 4096 + ofs) b 256)

/-- The register's value as it stands. -/
def State.regValue (s : State) (w o : Nat) : Nat :=
  (regFields w o).foldl (fun a f => a ||| (s.rd w f (s.selOf w o) * 2 ^ f.lo)) 0

/-- The value that a write of byte b at the highest address commits. -/
def State.merged (s : State) (w o e b : Nat) : Nat :=
  let cur := s.regValue w o
  beNat ((List.range (e + 1 - o)).map fun j =>
    if o + j = e then b
    else let h := s.heldByte w (o + j)
         if h < 256 then h else byteOf cur (e + 1 - o) j)

def State.dropHeld (s : State) (w o e : Nat) : State :=
  s.setWbuf (s.wbuf.filter fun p => !(w * 4096 + o ≤ p.1 && p.1 ≤ w * 4096 + e))

/-- The present state forbids every change of this register, whatever the value: the kind a changing write meets, already at a byte that would
only be held (R44, R494, R496). -/
def State.shutReg (s : State) (w o : Nat) : Option Kind :=
  let n := instOf w
  let state := fun (c : Bool) => if c then some Kind.state else none
  if o < 0x100 then none
  else if o < 0x140 ∧ isGroup w then (if s.fanBusy w then some .fanoutBusy else none)
  else match clsOf w with
    | .host => state (0x200 ≤ o && o < 0x600 && o % 32 == 0 && s.on w (fEn (decide (o < 0x400)) (o / 32 % 16)))
    | .l2 => state ((o == 0x146 || o == 0x148) && (s.rehash != rhIdle || s.l2Cur == (o - 0x146) / 2))
    | .can => state ((o == 0x180 || o == 0x185 || o == 0x189 || o == 0x18E) && s.canState n != canOff)
    | .lin => state ((0x180 ≤ o && o < 0x190 && s.linBusyTab n ((o - 0x180) / 2)) ||
        (0x200 ≤ o && o < 0x400 && (s.isSafe w || s.linBusyEntry n ((o - 0x200) / 4))))
    | .axis => state (n != 0 && (o == 0x141 || o == 0x146) && (s.isSafe w || s.on w AX_CFG.EN))
    | .axis0 => state (o == 0x16C && s.isSafe w)
    | .evp => state (o == 0x148 && (s.isSafe w || (s.evArmed s.evSel).isSome))
    | .upd => state ((o == 0x148 || o == 0x14A || o == 0x14C) && s.stg == stgArmed)
    | .analog | .switch => state (s.isSafe w)
    | .motion => state (((o == 0x140 || o == 0x141) && s.meState n != meIdle && s.meState n != meOff) || (o == 0x184 && s.isSafe w))
    | .wake => state (safeRefuses o && s.isSafe w)
    | _ => none

/-- A byte of an entry view (R498). -/
def State.viewAct (s : State) (init : Nat) (v : ViewTab) (ofs b : Nat) : Act :=
  if ofs = v.commit then
    ⟨((s.bufBytes v ofs [b]).bufFit v).viewKinds init v, fun s =>
      let t := (((s.bufBytes v ofs [b]).bufFit v)).nativePorts init v
      let i := t.selected v
      t.stageBuf v.win i (t.bufValid v) (t.slotFor v.win i (t.bufValid v))⟩
  else ⟨[], fun s => s.bufBytes v ofs [b]⟩

/-- The write of one byte, its register's committing byte being the one at the highest address. `act` is what the cards say. -/
def State.byteActBy (s : State) (act : Nat → Nat → Act) (init w ofs b : Nat) : Act :=
  match viewAt w ofs with
  | some v => s.viewAct init v ofs b
  | none =>
    let o := (regSpan w ofs).1
    let e := (regSpan w ofs).2
    let blocked := w == wSieve && ofs == 0x1C2 && bit b 7 && s.isSafe w
    if (regFields w ofs).isEmpty then ⟨[], id⟩
    else if ofs < e then
      let shut := if (rwFields w o).any fun f => f.putByte (s.rd w f (s.selOf w o)) ofs b != s.rd w f (s.selOf w o) then s.shutReg w o else none
      ⟨whenK blocked .state ++ shut.toList, fun s => (if (rwFields w o).isEmpty then s else s.hold w ofs b).w1cByte w ofs b⟩
    else
      let v := s.merged w o e b
      match viewOfSel w ofs with
      | some t => ⟨[], fun s => (s.selectView t (bits v t.next.hi t.next.lo == 1) (bits v t.sel.hi t.sel.lo)).dropHeld w o e⟩
      | none =>
        let a := act o v
        ⟨a.kinds, fun s => ((a.run s).dropHeld w o e).w1cByte w ofs b⟩

/-- With the cards of this file. -/
def State.byteAct (s : State) (init w ofs b : Nat) : Act := s.byteActBy (s.regAct init w) init w ofs b

end Sys2Proof.Machine
end

