-- ==== Sys2Proof/Machine/LegacyOps.lean ====
section
/-! DEFINITION. The legacy personality as it writes: the legacy registers over the native units (R464, R467 to R472). A legacy image uses the
same writes (R473, R474). -/

namespace Sys2Proof.Machine

/-- How a legacy write is answered (R466): taken, with ERR, with BUSY. -/
inductive XbAns where
  | ok | err | busy
  deriving DecidableEq, Repr

/-! ## Over the native registers -/

/-- The personality acts as the SPI face; a legacy record is applied by MP. -/
def legInit (load : Bool) : Nat := if load then initMp else initSpi

/-- A native byte written for a legacy access. A refusal is recorded as R87 lays down (R466). In the load the units take their records. -/
def State.legByte (s : State) (load : Bool) (w ofs b : Nat) : State × Bool :=
  let init := legInit load
  let a := s.byteAct init w ofs b
  if !load && s.writeIgnored w ofs then (s, true)
  else match firstKind ((if load then [] else s.commonKinds init w ofs) ++ a.kinds) with
    | some k => (s.violate w init k true (w * 4096 + ofs) b, false)
    | none => (a.run s, true)

/-- Bytes one after the other, up to the first that is refused. -/
def State.legBytes (s : State) (load : Bool) (w : Nat) : List (Nat × Nat) → State × Bool
  | [] => (s, true)
  | (ofs, b) :: r =>
    let t := s.legByte load w ofs b
    if t.2 then t.1.legBytes load w r else t

def xbAns (t : State × Bool) : State × XbAns := (t.1, if t.2 then .ok else .err)

/-- A refusal of the personality's own, recorded in the window that it would have reached. -/
def State.legRefuse (s : State) (load : Bool) (w ofs v : Nat) : State × XbAns :=
  (s.violate w (legInit load) .state true (w * 4096 + ofs) v, .err)

/-! ## CAN (R469) -/

/-- Register k of a CAN port's timing: BRP_x, T1, T2, SJW. -/
def State.xbTiming (s : State) (p k : Nat) : Nat := look s.leg.timing (4 * p + k) 1

/-- The nearest value in range. -/
def xbTimingFit (k v : Nat) : Nat := max 1 (min v (if k = 0 then 64 else if k = 1 then 16 else if k = 2 then 8 else 4))

/-- TSEG1, TSEG2 and SJW of the translation; BRP is 5. -/
def State.xbBits (s : State) (p : Nat) : Nat × Nat × Nat :=
  let b := s.xbTiming p 0
  (b * (1 + s.xbTiming p 1) - 1, b * s.xbTiming p 2, b * s.xbTiming p 3)

def State.xbBitsOk (s : State) (p : Nat) : Bool :=
  let t := s.xbBits p
  2 ≤ t.1 && t.1 ≤ 256 && t.2.1 ≤ 128 && t.2.2 ≤ 128

/-- The native registers take the translation. -/
def State.xbTranslate (s : State) (p : Nat) : State :=
  let t := s.xbBits p
  let w := wCan p
  (((s.wr w CAN_NBT.BRP 5).wr w CAN_NBT.TSEG1 t.1).wr w CAN_NBT.TSEG2 t.2.1).wr w CAN_NBT.SJW t.2.2

/-- A timing write: stored, and in force with EN 0 where it can be translated. -/
def State.xbTimingWrite (s : State) (p k v : Nat) : State :=
  let s := s.setLeg { s.leg with timing := store s.leg.timing (4 * p + k) (xbTimingFit k v) 1 }
  if !s.on (wCan p) CAN_CFG.EN && s.xbBitsOk p then s.xbTranslate p else s

/-- CAN_CFG for a legacy CTRL byte: EN and LISTEN_ONLY, no FD, no XL. -/
def State.xbCanCfg (s : State) (p v : Nat) : Nat :=
  putBits (putBits (putBits (s.canCfgByte p) 7 7 (v / 128)) 6 4 0) 2 2 (v / 64)

/-- A write of a port's CTRL: on a rise of EN the translation is checked first. -/
def State.xbCanCtrl (s : State) (load : Bool) (p v : Nat) : State × XbAns :=
  let rise := bit v 7 && !s.on (wCan p) CAN_CFG.EN
  if rise && !s.xbBitsOk p then s.legRefuse load (wCan p) 0x170 v
  else
    let t := if rise then s.xbTranslate p else s
    let r := t.legByte load (wCan p) 0x170 (t.xbCanCfg p v)
    if r.2 then (r.1, .ok)
    else (r.1.each [CAN_NBT.BRP, CAN_NBT.TSEG1, CAN_NBT.TSEG2, CAN_NBT.SJW] fun t f => t.wr (wCan p) f (s.rd (wCan p) f), .err)

/-! ## Mailboxes (R471) -/

def boxKey (p m b : Nat) : Nat := p * 256 + m * 16 + b

/-- A byte of a mailbox copy; data beyond DLC read 0x00. -/
def State.box (s : State) (p m b : Nat) : Nat :=
  let v := look s.leg.boxes (boxKey p m b) 0
  if 6 ≤ b ∧ look s.leg.boxes (boxKey p m 5) 0 ≤ b - 6 then 0 else v

def State.setBox (s : State) (p m b v : Nat) : State := s.setLeg { s.leg with boxes := store s.leg.boxes (boxKey p m b) (v % 256) 0 }

/-- A write of +1 to +13: IDE aside, the identifier has 29 bits, the DLC stops at 8. -/
def State.boxWrite (s : State) (p m b v : Nat) : State :=
  if b = 1 then s.setBox p m b (v % 32) else if b = 5 then s.setBox p m b (min v 8) else if b ≤ 13 then s.setBox p m b v else s

/-- TAKE: the object into the mailbox copy. -/
def State.boxTake (s : State) (p m : Nat) : State :=
  let o := s.obj p m
  let n := min 8 (o CAN_OBJ_VIEW.LEN)
  let s := s.setBox p m 0 (o CAN_OBJ_VIEW.TYPE * 64 + o CAN_OBJ_VIEW.NEWDAT * 32 + o CAN_OBJ_VIEW.TXRQ * 16 + o CAN_OBJ_VIEW.IDE * 8 +
    o CAN_OBJ_VIEW.MSGLST * 4)
  let s := s.each (List.range 4) fun s b => s.setBox p m (1 + b) (byteOf (o CAN_OBJ_VIEW.ID) 4 b)
  let s := s.setBox p m 5 n
  let s := s.each (List.range 8) fun s b => s.setBox p m (6 + b) (if b < n then o (CAN_OBJ_DATA.DATA.elem b) else 0)
  (s.setObj p m CAN_OBJ_VIEW.NEWDAT 0).setObj p m CAN_OBJ_VIEW.MSGLST 0

/-- STORE: the mailbox copy into the object, a classical data frame; a receive object takes the one identifier. -/
def State.boxStore (s : State) (p m : Nat) : State :=
  let b := s.box p m
  let ctrl := b 0
  let s := s.objClear p m
  let set := fun (s : State) (f : Field) (v : Nat) => s.setObj p m f v
  let s := set (set s CAN_OBJ_VIEW.TYPE (ctrl / 64)) CAN_OBJ_VIEW.FMT fmtClassical
  let s := set (set s CAN_OBJ_VIEW.IDE (ctrl / 8)) CAN_OBJ_VIEW.ID (beNat [b 1, b 2, b 3, b 4])
  let s := set (set s CAN_OBJ_VIEW.MASK (2 ^ 29 - 1)) CAN_OBJ_VIEW.LEN (b 5)
  s.each (List.range 8) fun s j => s.setObj p m (CAN_OBJ_DATA.DATA.elem j) (b (6 + j))

/-- A write of +0: STORE, and with bit 4 SEND. -/
def State.boxCommand (s : State) (load : Bool) (p m v : Nat) : State × XbAns :=
  let w := wCan p
  let kinds := (if load then [] else s.commonKinds initSpi w 0x201) ++ whenK (s.storeRefusedFor p m) .state
  if !load && s.writeIgnored w 0x201 then (s, .ok)
  else match firstKind kinds with
    | some k => (s.violate w (legInit load) k true (w * 4096 + 0x201) v, .err)
    | none =>
      let s := (s.setBox p m 0 ((if v / 64 = 3 then 0 else v / 64 * 64) + v / 8 % 2 * 8)).boxStore p m
      (if bit v 4 then s.objSendOf p m else s, .ok)

/-! ## Route slots (R468) -/

def State.slotByte (s : State) (k b : Nat) : Nat := look s.leg.slots (16 * k + b) 0
def State.setSlotByte (s : State) (k b v : Nat) : State := s.setLeg { s.leg with slots := store s.leg.slots (16 * k + b) (v % 256) 0 }

/-- The destinations a slot names: CAN ports, then LIN ports, as port codes. -/
def State.slotDests (s : State) (k : Nat) : List Nat :=
  (((List.range 6).filter (bit (s.slotByte k 9))).map (0x10 + ·)) ++ (((List.range 4).filter (bit (s.slotByte k 10))).map (0x20 + ·))

/-- The source port 0 to 5. -/
def slotPort (v : Nat) : Nat := min 5 (v % 8)

/-- The fields of an entry that are not 0: window, entry, fields, and whether it is in use. -/
structure NewEntry where
  win : Nat
  idx : Nat
  vals : List (Field × Nat)

def NewEntry.get (e : NewEntry) (f : Field) : Nat := match e.vals.find? (·.1 == f) with
  | some x => x.2
  | none => 0

def NewEntry.inUse (e : NewEntry) : Bool := match viewValid e.win e.idx with
  | some f => e.get f == 1
  | none => true

/-- A destination of a slot: CAN copies in classical format, with their own or the received identifier. -/
def State.slotDest (s : State) (k j : Nat) (last : Bool) (port : Nat) : NewEntry :=
  let out := beNat [s.slotByte k 12, s.slotByte k 13, s.slotByte k 14, s.slotByte k 15]
  let can := [(DL_ENTRY.OUT_FMT, 1), (DL_ENTRY.ID_KEEP, b2n (out == 0)), (DL_ENTRY.ID_OUT, out),
    (DL_ENTRY.IDE, s.slotByte k 0 / 64 % 2)]
  ⟨wDlist, 30720 + 8 * k + j, [(DL_ENTRY.LAST, b2n last), (DL_ENTRY.PORT, port)] ++
    (if port < 0x20 then can else [(DL_ENTRY.ID_OUT, s.slotByte k 11 % 64)])⟩

/-- The entries of a slot: filter, route, destinations; all empty with VALID 0. -/
def State.slotEntries (s : State) (k : Nat) : List NewEntry :=
  let b := s.slotByte k
  if bit (b 0) 7 then
    let l := s.slotDests k
    let dests := (List.range l.length).map fun j => s.slotDest k j (j + 1 == l.length) (l.getD j 0)
    let filter : NewEntry := ⟨wCanf, 3840 + k,
      [(CANF_ENTRY.VALID, 1), (CANF_ENTRY.IDE, b 0 / 64 % 2), (CANF_ENTRY.FMT, fmtClassical), (CANF_ENTRY.PORTS, 2 ^ slotPort (b 0)),
       (CANF_ENTRY.ID, beNat [b 1, b 2, b 3, b 4]), (CANF_ENTRY.MASK, beNat [b 5, b 6, b 7, b 8]), (CANF_ENTRY.ROUTE, 16128 + k)]⟩
    let route : NewEntry := ⟨wRoute, 16128 + k,
      [(RT_ENTRY.VALID, 1), (RT_ENTRY.DCOUNT, l.length), (RT_ENTRY.DL_INDEX, 30720 + 8 * k)]⟩
    dests ++ [route, filter]
  else (List.range 8).map (fun j => ⟨wDlist, 30720 + 8 * k + j, []⟩) ++ [⟨wRoute, 16128 + k, []⟩, ⟨wCanf, 3840 + k, []⟩]

/-- Stages an entry given by its fields; none where the lists are full (R122). -/
def State.stageEntry (s : State) (e : NewEntry) : Option State :=
  let n := 1 - s.gen
  match s.slotFor e.win e.idx e.inUse with
  | .refused => none
  | how =>
    let s := s.each (viewFields e.win e.idx) fun s f => s.setEnt n e.win f e.idx (e.get f)
    let s := if how == .overflow && !s.inOvf e.win e.idx then s.addOvf e.win e.idx else if e.inUse then s else s.dropOvf e.win e.idx
    some ((s.touch e.win e.idx).stagedOne)

def State.stageEntries (s : State) : List NewEntry → Option State
  | [] => some s
  | e :: r => match s.stageEntry e with
    | none => none
    | some t => t.stageEntries r

/-- An entry of the configuration image: valid in both Benches, its live state started. -/
def State.installEntry (s : State) (e : NewEntry) : State :=
  let o := s.gen
  let put := fun (s : State) (g : Nat) => s.each (viewFields e.win e.idx) fun s f => s.setEnt g e.win f e.idx (e.get f)
  put ((put s (1 - o)).entryFlipped o (1 - o) e.win e.idx) o

/-- The write of +15: the slot's entries are staged and committed, without flow hold, by the personality as initiator 0x01. -/
def State.slotCommit (s : State) (load : Bool) (k v : Nat) : State × XbAns :=
  let last := k * 16 + 15
  if !load && (s.tblOwner != 0 || s.tblBusy) then (s, .busy)
  else
    let n := s.setSlotByte k 15 v
    let l := n.slotEntries k
    if 8 < (n.slotDests k).length then s.legRefuse load wDlist 0x157 v
    else if load then (n.each l State.installEntry, .ok)
    else if (s.isSafe wTables || l.any fun e => s.stageBlocked e.win e.idx) then s.legRefuse load wTables 0x140 v
    else match (n.tblAcquire initSpi).stageEntries l with
      | none => (s.stageFull wTables initSpi 0x140 (last % 256), .err)
      | some t => (((t.commit true).tblRelease).setLeg { (t.commit true).tblRelease.leg with commit := some k }, .ok)

/-! ## Outputs (R472) -/

def State.outDuty (s : State) (load : Bool) (n d : Nat) : State × XbAns :=
  let w := wCh (12 + n)
  let duty := d * 257
  let t := s.legBytes load w [(0x144, 5000 / 256), (0x145, 5000 % 256), (0x146, duty / 256), (0x147, duty % 256),
    (0x142, if d = 0 then 0 else 128)]
  if t.2 then (t.1.setLeg { t.1.leg with duty := store t.1.leg.duty n d 0 }, .ok) else (t.1, .err)

/-! ## Switches -/

/-- SW_CFG: EN is MODE 1, with the fixed debounce. -/
def State.xbSwitch (s : State) (load : Bool) (n v : Nat) : State × XbAns :=
  xbAns (s.legBytes load (wSW n) [(0x141, 8), (0x140, (if bit v 7 then 64 else 0) + v % 64)])

/-! ## LIN -/

/-- CTRL: EN, then GO with the table. -/
def State.xbLinCtrl (s : State) (load : Bool) (i v : Nat) : State × XbAns :=
  let w := wLin i
  let cfg := putBits (s.rd w LIN_CFG.BREAK * 16 + s.rd w LIN_CFG.DELIM * 4) 7 7 (v / 128)
  xbAns (s.legBytes load w [(0x170, cfg), (0x173, (if bit v 6 then 128 else 0) + v % 4)])

/-! ## The map (R467) -/

def State.xbIrqWrite (s : State) (a v : Nat) : State :=
  let l := if a = 4 then { s.leg with irqEn := v % 64 } else { s.leg with irq := s.leg.irq - (s.leg.irq &&& v) }
  let s := s.setLeg l
  if s.gxOn && s.legacyIrq then s.driveIrq else s

/-- A write to the legacy map, but for XB_CTRL, the update window and the native view, which no image may hold. -/
def State.legacyWrite (s : State) (load : Bool) (a v : Nat) : State × XbAns :=
  if a < 4 ∨ a = 0xF then (s, .ok)
  else if a = 4 ∨ a = 5 then (s.xbIrqWrite a v, .ok)
  else if 0x100 ≤ a ∧ a < 0x280 then
    let p := (a - 0x100) / 0x40
    let k := a % 0x40
    if k < 4 then (s.xbTimingWrite p k v, .ok)
    else if k = 4 then s.xbCanCtrl load p v
    else (s, if k < 16 then .ok else .err)
  else if 0x400 ≤ a ∧ a < 0x480 then
    let i := (a - 0x400) / 0x20
    let k := a % 0x20
    if k < 2 then xbAns (s.legByte load (wLin i) (0x171 + k) v)
    else if k = 2 then s.xbLinCtrl load i v
    else (s, if 8 ≤ k ∧ k < 16 then .ok else .err)
  else if 0x480 ≤ a ∧ a < 0x580 then
    let i := (a - 0x480) / 0x40
    let id := a % 0x40
    xbAns (s.legByte load (wLin i) (0x400 + 16 * id) (putBits v 4 4 (s.rd (wLin i) (LIN_FRAME.ROUTE.elem id))))
  else if 0x800 ≤ a ∧ a < 0x818 then s.outDuty load (a - 0x800) v
  else if 0x820 ≤ a ∧ a < 0x838 then
    if bit v 4 then xbAns (s.legByte load (wCh (12 + (a - 0x820))) 0x143 (2 ^ CH_CMD.CLEAR.lo)) else (s, .ok)
  else if 0x900 ≤ a ∧ a < 0x904 then (s, .ok)
  else if 0x910 ≤ a ∧ a < 0x930 then s.xbSwitch load (a - 0x910) v
  else if 0x1000 ≤ a ∧ a < 0x2000 then
    let k := (a - 0x1000) / 16
    if a % 16 = 15 then s.slotCommit load k v else (s.setSlotByte k (a % 16) (if a % 16 = 0 then v / 64 * 64 + slotPort v else v), .ok)
  else if 0x2000 ≤ a ∧ a < 0x2600 then
    let p := (a - 0x2000) / 256
    let m := a / 16 % 16
    if a % 16 = 0 then s.boxCommand load p m v else (s.boxWrite p m (a % 16) v, .ok)
  else if 0x3000 ≤ a ∧ a < 0x3800 then
    let i := (a - 0x3000) / 512
    xbAns (s.legByte load (wLin i) (0x400 + 16 * (a / 8 % 64) + 8 + a % 8) v)
  else if 0x3800 ≤ a ∧ a < 0x4000 then
    let i := (a - 0x3800) / 512
    xbAns (s.legByte load (wLin i) (0x200 + a % 512) v)
  else (s, .err)

/-- The native settings that the personality forces in a legacy window (R464). A switch input that is on has MODE 1. -/
def State.legacyForce (s : State) (w : Nat) : State :=
  match clsOf w with
  | .can => ((s.wr w CAN_CFG.FD_EN 0).wr w CAN_CFG.XL_EN 0).wr w CAN_NBT.BRP 5
  | .lin => s.each (List.range 4) fun s t => (s.wr w (LIN_TAB.START.elem t) (32 * t)).wr w (LIN_TAB.LEN.elem t) 32
  | .channel => (s.wr w CH_PERIOD.PERIOD 5000).wr w CH_PHASE.PHASE 0
  | .switch => (s.wr w SW_CFG.MODE (min 1 (s.rd w SW_CFG.MODE))).wr w SW_DEB.DEB 8
  | _ => s

/-- All of them: before any record, after those of the image, and with the reload of a unit. -/
def State.legacyDefaults (s : State) : State := s.each (fixedWindows.filter isLegacy) State.legacyForce

end Sys2Proof.Machine
end

