-- ==== Sys2Proof/Machine/LoadOps.lean ====
section
/-! DEFINITION. The configuration load as operations (R107 to R118, R462, R473, R474): the records of a section, the checks of a phase,
the units that a phase releases, the candidates, and the state UNCONFIGURED. The record format is the model's: no chapter gives one. -/

namespace Sys2Proof.Machine

/-! ## Blocks (R107, R109) -/

/-- Payload bytes of a block, and its bytes in the flash. -/
def blockPayload : Nat := 4092
def blockSize : Nat := 4096

/-- Payload offset p lies at this byte of the slot. -/
def slotOffset (p : Nat) : Nat := p / blockPayload * blockSize + p % blockPayload

/-- The CRC stored behind a block's payload is that of the payload. -/
def blockOk (b : List Nat) : Bool := crc32c 0xFFFFFFFF (b.take blockPayload) == beNat ((b.drop blockPayload).take 4)

/-- The payload of the first of at most three readings whose CRC matches (R116). -/
def blockRead (r : BlockReads) : Option (List Nat) :=
  (((r.take 3).map fun b => b.map BitVec.toNat).find? blockOk).map (·.take blockPayload)

/-- A section's data, none where a block mismatches in every reading. -/
def sectionData (x : ImgSection) : Option (List Nat) :=
  let n := (x.len.toNat + (blockPayload - 1)) / blockPayload
  let l := (List.range n).map fun k => blockRead (x.blocks.getD k [])
  if l.any Option.isNone then none else some ((l.flatMap fun b => b.getD []).take x.len.toNat)

/-- Legacy records of 3 bytes, the address most significant byte first (R473). -/
def legacyRecords : Nat → List Nat → List ImgRec
  | 0, _ => []
  | n + 1, l => .legacy (BitVec.ofNat 16 (beNat (l.take 2))) (BitVec.ofNat 8 (l.getD 2 0)) :: legacyRecords n (l.drop 3)

/-- The section with the records that it installs: none for LEN 0 (R111); those of a section 0x0080 stand in its data behind a 4-byte count
(R474). -/
def sectionParsed (x : ImgSection) : ImgSection :=
  if x.len = 0 then { x with recs := [] }
  else if x.ty = 0x80 then
    match sectionData x with
    | some d => { x with recs := legacyRecords (min (beNat (d.take 4)) ((d.length - 4) / 3)) (d.drop 4) }
    | none => { x with recs := [] }
  else x

/-! ## Records -/

/-- A port, channel, input or engine outside the legacy set: in C1 nothing of an image may name one (R474). -/
def nativeRef (w : Nat) (get : Field → Nat) : Bool :=
  let p := get DL_ENTRY.PORT
  let src := get SIG_ENTRY.SRC
  let fn := get SIG_ENTRY.SINK_FN
  (w == wDlist && (p < 0x10 || (0x16 ≤ p && p < 0x20) || (0x24 ≤ p && p < 0x2C))) ||
    (w == wSignal && get SIG_ENTRY.VALID == 1 &&
      ((1 ≤ fn && fn ≤ 3 && !legacyChannel (get SIG_ENTRY.SINK_UNIT)) || fn == 4 || fn == 5 ||
        (src == 1 && !legacyChannel (get SIG_ENTRY.SRC_UNIT)) || (src == 2 && 32 ≤ get SIG_ENTRY.SRC_UNIT) || (3 ≤ src && src ≤ 5)))

/-- A benched entry of the image: valid in both Benches; none where its unit rejects the content. -/
def State.imgEntry (s : State) (w i : Nat) (vals : List (Field × Nat)) : Option State :=
  let e : NewEntry := ⟨w, i, vals⟩
  let bad := e.inUse && (!s.contentOk s.gen w i e.get || (w == wSignal && sinkBarred e.get))
  let apart := (s.pwr.mode == 2 && legacyRef w e.get) || (s.pwr.mode == 1 && nativeRef w e.get)
  if bad || apart || s.pwr.fenced.contains (entryCode w i) then none else some (s.installEntry e)

/-- The entry's fields from its view's bytes, the last of them the committing byte. -/
def viewVals (v : ViewTab) (i : Nat) (bytes : List Nat) : List (Field × Nat) :=
  let first := v.commit + 1 - bytes.length
  (viewFields v.win (v.base + i)).map fun f =>
    (f, f.fit.apply (bits (beNat ((List.range f.len).map fun j =>
      if f.ofs + j < first then 0 else bytes.getD (f.ofs + j - first) 0)) f.hi f.lo))

/-- A register of an image takes its value, as its card stores it; what follows from it begins when the unit becomes READY. None where
the unit rejects it. -/
def State.imgReg (s : State) (w o v : Nat) : Option State :=
  let n := instOf w
  let plain := some (s.storeReg w o v)
  match clsOf w with
  | .can =>
    if o = 0x170 then some (s.wrWide w canCfgFields (canCfgFit n v))
    else if n < 8 ∧ (o = 0x189 ∨ o = 0x18E) then some s
    else if o = 0x1A0 ∨ o = 0x1B0 then
      let k := (o - 0x1A0) / 16
      if s.fifoRefused n k (fifoOf v) then none else some (s.fifoConfigure n k (fifoOf v))
    else if o = 0x201 then
      if !bit v CAN_OBJ_CMD.STORE.lo then some s
      else if s.storeRefusedFor n (s.objSel n) then none else some (s.viewToObj n (s.objSel n))
    else some ((s.storeReg w o v).sjwFit w o)
  | .lin =>
    if 0x200 ≤ o ∧ o < 0x400 then some (Machine.sentryWrite n ((o - 0x200) / 4) v s)
    else if 0x400 ≤ o ∧ o % 16 ≠ 8 ∧ 0x3C ≤ (o - 0x400) / 16 then some ((s.storeReg w o v).wr w (LIN_FRAME.CSUM.elem ((o - 0x400) / 16)) 0)
    else plain
  | .eth =>
    if o = 0x140 then some (s.wrWide w ethCfgFields (ethCfgFit n v))
    else if o = 0x148 then some (s.storeReg w o (sleepCfgFit n v))
    else if 0x150 ≤ o ∧ o < 0x156 ∧ !isSerdes n then some s else plain
  | .axis => if o = 0x140 then some (s.putAxCfg n (axCfgFit v)) else plain
  | .axis0 => if o < 0x160 then some s else plain
  | .channel => if o = 0x142 ∧ isHalf n then some s else plain
  | .bridge => if o = 0x140 then some (s.wr w HB_CTRL.MODE (if 4 < v % 8 then 0 else v)) else plain
  | .sup => some (s.storeReg w o (if o = 0x150 then s.wdPeriod v else v))
  | .macsec =>
    if o = 0x170 then some (s.scStore s.selSc v) else if o = 0x188 then some (s.saStore s.selSc s.selSa v) else plain
  | .auth => if o = 0x141 then some (if s.epochNew (v % 2 ^ 24) then s.offerEpoch (v % 2 ^ 24) else s)
    else if o = 0x140 then some (s.storeReg w o v).reserveChanged else plain
  | .evp => if s.pwr.mode = 2 ∧ o = 0x148 ∧ evLegacy v then none else plain
  | .derrick =>
    if o = 0x164 ∧ 0x800 ≤ v % 4096 then none
    else if o = 0x150 ∧ bit v 40 then some s else plain
  | _ => if o = 0x008 then some (s.handshake w v) else plain

/-- A register byte of an image: a wide register takes effect with its highest-address byte, as at run time (R496). -/
def State.imgByte (s : State) (w ofs b : Nat) : Option State :=
  if (unitOf w).isNone || s.unitState w == usOff then none
  else match viewAt w ofs with
  | some v =>
    let s := s.bufBytes v ofs [b]
    let i := s.selected v
    if ofs = v.commit then s.imgEntry w i ((viewFields w i).map fun f => (f, f.fit.apply (s.buf w f i))) else some s
  | none =>
    let o := (regSpan w ofs).1
    let e := (regSpan w ofs).2
    if (regFields w ofs).isEmpty then some s
    else if ofs < e then some (if (rwFields w o).isEmpty then s else s.hold w ofs b)
    else
      let v := s.merged w o e b
      match viewOfSel w ofs with
      | some t => some ((s.selectView t (bits v t.next.hi t.next.lo == 1) (bits v t.sel.hi t.sel.lo)).dropHeld w o e)
      | none => (s.imgReg w o v).map fun s => s.dropHeld w o e

/-- A static L2 entry, valid in both Benches. -/
def State.imgL2 (s : State) (fid mac : Nat) (dropMove dlist : Bool) (dest : Nat) : Option State :=
  let s := s.setL2 (s.tbl.l2.filter fun x => !x.isKey fid mac)
  s.l2Place { bucket := 0, fid, mac, static := true, act := false, h := 0, tag := tagBoth, dropMove, dlist, dest := l2Dest dlist dest }

/-- A prefix, valid in both Benches. -/
def State.imgPrefix (s : State) (v6 : Bool) (plen addr route : Nat) : Option State :=
  if famBits v6 < plen then none
  else
    let x : Prefix := { v6, plen, addr := maskAddr v6 plen addr, tag := tagBoth, route }
    let l := (s.tbl.prefixes.filter fun p => !p.same x) ++ [x]
    if nodesFit l && decide ((l.filter (·.v6 == v6)).length ≤ storeSlots v6) then some (s.setPrefixes l) else none

/-- A legacy record: one answered with ERR or BUSY is rejected (R473), as one with address bit 15. The commands of XB_CTRL have no place in an
image. -/
def State.imgLegacy (s : State) (a v : Nat) : Option State :=
  if s.pwr.mode = 0 ∨ a = 3 ∨ 0x8000 ≤ a then none
  else
    let r := s.legacyWrite true a v
    if r.2 = .ok then some r.1 else none

def State.imgRec (s : State) (r : ImgRec) : Option State :=
  match r with
  | .reg a v => s.imgByte (a.toNat / 4096) (a.toNat % 4096) v.toNat
  | .entry t i bytes =>
    if s.unitState t.win == usOff then none else s.imgEntry t.win (t.base + i.toNat) (viewVals t i.toNat (bytes.map BitVec.toNat))
  | .l2 fid mac dm dl dest => s.imgL2 fid.toNat mac.toNat dm dl dest.toNat
  | .pfx v6 plen addr route => s.imgPrefix v6 plen.toNat addr.toNat route.toNat
  | .blob k ofs c0 c1 => some (s.loadBlob k.toNat ofs.toNat (c0.map BitVec.toNat) (c1.map BitVec.toNat))
  | .mdio p devad reg data =>
    if s.unitState (wEth p) == usOff then none
    else some (s.setMdioList p (s.mdioList p ++ [s.mdioOf p true true devad.toNat reg.toNat data.toNat]))
  | .ptp slaves masters => some (s.setCfg { s.cfg with ptpSlaves := slaves.toNat, ptpMasters := masters.toNat })
  | .legacy a v => s.imgLegacy a.toNat v.toNat

def State.imgRecs (s : State) : List ImgRec → Option State
  | [] => some s
  | r :: l => match s.imgRec r with
    | none => none
    | some t => t.imgRecs l

/-! ## Sections (R111, R113, R116) -/

/-- The phases that R113 allows for a type, none for an unknown one. -/
def typePhases (ty : Nat) : Option (Nat × Nat) :=
  if ty = 0x01 ∨ ty = 0x11 ∨ ty = 0x12 ∨ (0x20 ≤ ty ∧ ty ≤ 0x24) ∨ ty = 0x50 ∨ ty = 0x70 ∨ ty = 0x80 then some (1, 1)
  else if ty = 0x10 ∨ ty = 0x32 ∨ ty = 0xF0 then some (1, 3)
  else if ty = 0x30 ∨ ty = 0x31 ∨ ty = 0x40 then some (1, 2)
  else if ty = 0x33 ∨ ty = 0x34 ∨ ty = 0x35 then some (2, 2)
  else none

/-- Two sections share a block (R111); an empty one has none. -/
def sectionsMeet (x y : ImgSection) : Bool :=
  x.len != 0 && y.len != 0 && decide (x.ofs.toNat / blockPayload < (y.ofs.toNat + y.len.toNat + 4091) / blockPayload) &&
    decide (y.ofs.toNat / blockPayload < (x.ofs.toNat + x.len.toNat + 4091) / blockPayload)

/-- The section table's entry has a phase, a known type one that is allowed for it, a type stands once; the section starts at a multiple of
4,092 inside the image of n bytes and meets no other. -/
def sectionPlaced (n : Nat) (l : List ImgSection) (x : ImgSection) : Bool :=
  1 ≤ x.phase.toNat && x.phase.toNat ≤ 3 && (l.filter (·.ty == x.ty)).length == 1 &&
    (match typePhases x.ty.toNat with
    | none => true
    | some (a, b) => a ≤ x.phase.toNat && x.phase.toNat ≤ b) &&
    x.ofs.toNat % blockPayload == 0 && decide (x.ofs.toNat + x.len.toNat ≤ n) && (l.filter (sectionsMeet x)).length ≤ 1

/-- The order in a phase: the section table's; the register patch list, then the legacy section, come last. -/
def installOrder (l : List ImgSection) : List ImgSection :=
  let is := fun (n : Nat) (x : ImgSection) => x.ty.toNat == n
  (l.filter fun x => !is 0xF0 x && !is 0x80 x) ++ l.filter (is 0xF0) ++ l.filter (is 0x80)

/-- The window that a record's content goes to. -/
def recWin : ImgRec → Nat
  | .reg a _ => a.toNat / 4096
  | .entry t _ _ => t.win
  | .l2 .. => wL2
  | .pfx .. => wSeam
  | .blob .. => wKS
  | .mdio p _ _ _ => wEth p
  | .ptp .. => wAx 0
  | .legacy a _ => legacyWin a.toNat
where
  legacyWin (a : Nat) : Nat :=
    if 0x100 ≤ a ∧ a < 0x280 then wCan ((a - 0x100) / 0x40)
    else if 0x400 ≤ a ∧ a < 0x480 then wLin ((a - 0x400) / 0x20)
    else if 0x480 ≤ a ∧ a < 0x580 then wLin ((a - 0x480) / 0x40)
    else if 0x800 ≤ a ∧ a < 0x818 then wCh (12 + (a - 0x800))
    else if 0x910 ≤ a ∧ a < 0x930 then wSW (a - 0x910)
    else if 0x2000 ≤ a ∧ a < 0x2600 then wCan ((a - 0x2000) / 256)
    else if 0x3000 ≤ a ∧ a < 0x3800 then wLin ((a - 0x3000) / 512)
    else if 0x3800 ≤ a ∧ a < 0x4000 then wLin ((a - 0x3800) / 512)
    else wRoot

/-- The class code of a window (R46). -/
def classOf (w : Nat) : Nat := match unitOf w with
  | some u => u.code
  | none => 0

/-- The section type whose content a window's settings are (R113): its classes by what the type names, every other class with the settings of
the module (DEDUCED). -/
def typeOf (w : Nat) : Nat :=
  let c := classOf w
  if inRange 0x18 0x21 c then 0x10 else if inRange 0x30 0x32 c then 0x11 else if inRange 0x38 0x3A c then 0x12
  else if c = 0x52 then 0x20 else if c = 0x41 then 0x21 else if c = 0x42 then 0x22 else if c = 0x43 then 0x23 else if c = 0x44 then 0x24
  else if c = 0x51 then 0x30 else if c = 0x53 then 0x31 else if inRange 0x54 0x57 c then 0x32 else if c = 0x16 then 0x33
  else if c = 0x15 then 0x34 else if c = 0x17 then 0x35 else if inRange 0x60 0x63 c then 0x40 else if inRange 0x70 0x79 c then 0x50
  else if c = 0x91 then 0x70 else 0x01

/-- A record is one of its section's type, and of the class that a TARGET other than 0 names (R111, R113). -/
def recFits (x : ImgSection) (r : ImgRec) : Bool :=
  let ty := x.ty.toNat
  (match r with
    | .legacy .. => ty == 0x80
    | .reg .. => ty == 0xF0 || ty == typeOf (recWin r)
    | .entry .. | .l2 .. | .pfx .. | .blob .. | .mdio .. | .ptp .. => ty == typeOf (recWin r)) &&
    (x.target == 0 || x.target.toNat == classOf (recWin r))

/-- What keeps a section from being installed whatever its units hold: a block, the digest, a mandatory unknown type, a record that is none
of its type's or its target's (R112, R113, R116). -/
def sectionFault (x : ImgSection) : Option Nat :=
  match sectionData x with
  | none => some 8
  | some d =>
    if Config.sha384 d ≠ x.digest then some 9
    else if (typePhases x.ty.toNat).isNone then (if x.mand then some 10 else none)
    else if x.recs.all (recFits x) then none else some 11

/-- A section is installed only whole; else the cause of R116. -/
def State.installSection (s : State) (x : ImgSection) : State ⊕ Nat :=
  match sectionFault x with
  | some c => .inr c
  | none =>
    if (typePhases x.ty.toNat).isNone then .inl (s.sticky wUpd UPD_CFG_STAT.OPT_SKIP)
    else match s.imgRecs x.recs with
      | none => .inr 11
      | some t => .inl t

/-- Sections in order, up to the first that fails: its cause and index. -/
def State.installSections (s : State) : List ImgSection → State × Option (Nat × Nat)
  | [] => (s, none)
  | x :: l => match s.installSection x with
    | .inr c => (s, some (c, x.idx.toNat))
    | .inl t => t.installSections l

/-- The schedule entries of window w that the records carry. -/
def imgEntries (l : List ImgRec) (w : Nat) : List Nat := dedup (l.filterMap fun r => match r with
  | .reg a _ => if a.toNat / 4096 = w ∧ inRange 0x200 0x3FF (a.toNat % 4096) then some ((a.toNat % 4096 - 0x200) / 4) else none
  | _ => none)

/-- What a unit rejects of its settings as a whole; `l` are the records installed. -/
def State.settingsBad (s : State) (l : List ImgRec) (w : Nat) : Bool :=
  let n := instOf w
  match clsOf w with
  | .ps => decide (12000 < ((List.range 6).map fun j => s.rd (wPS j) PS_ALLOT.ALLOT).sum)
  | .stockpile => decide (40960 < s.rsvSum)
  | .can => s.on w CAN_CFG.EN && !s.canTimingOk n (s.canCfgByte n)
  | .lin => (List.range 128).any fun e =>
      let d := s.rd w (LIN_SENTRY.DELAY.elem e)
      let ty := s.rd w (LIN_SENTRY.TYPE.elem e)
      let i := if ty = 3 then 0x3C else if ty = 4 then 0x3D else s.rd w (LIN_SENTRY.ID.elem e)
      ty < 5 && (d != 0 || (imgEntries l w).contains e) && !s.linDelayOk n (s.linLen n i) d
  | .motion => s.on w ME_CFG.EN && s.meBadInputs n
  | .axis => s.on w AX_CFG.EN && ((s.axSrc n == 1 && !s.encoderOk n) || (s.axSrc n == 2 && decide (5 < s.rd w AX_SRC.UNIT_A)))
  | _ => false

/-- The last section with a record for a window whose settings are rejected. -/
def State.settingsFault (s : State) (l : List ImgSection) : Option (Nat × Nat) :=
  match l.reverse.find? fun x => (dedup (x.recs.map recWin)).any (s.settingsBad (l.flatMap (·.recs))) with
  | none => none
  | some x => some (11, x.idx.toNat)

/-! ## Units (R115) -/

/-- The phase that installs a unit; units that no phase names come with phase 1. -/
def phaseOf (w : Nat) : Nat :=
  if (wEth 6 ≤ w ∧ w ≤ wEth 15) ∨ w = wSieve ∨ w = wVlan ∨ w = wL2 ∨ w = wSeam then 2
  else if (wEth 0 ≤ w ∧ w ≤ wEth 5) ∨ w = wMacsec then 3
  else 1

/-- A unit becomes READY and acts on its settings. -/
def State.unitReady (s : State) (w : Nat) : State :=
  let n := instOf w
  let s := s.wr w DESC_STATE.STATE usReady
  match clsOf w with
  | .can =>
    let s := s.canFollowEn n
    if s.netState (netOfCan n) = nsAsleep ∧ s.on w CAN_CFG.EN then s.setCanState n canSleep else s
  | .lin =>
    let s := s.linFollowEn n
    if s.netState (netOfLin n) = nsAsleep ∧ s.on w LIN_CFG.EN then s.setLinState n linSleep else s
  | .eth =>
    let s := s.mdioListGo n
    if s.on w ETH_CFG.EN then ((s.ethEnable n).ethSynced n).peerSync n else s
  | .axis => if s.on w AX_CFG.EN then s.axStart n else s
  | .motion => if s.on w ME_CFG.EN then meSetEn n true s else s
  | .channel => (s.chEval n).chOutput n
  | .bridge => s.hbAct n
  | .macsec => s.each (List.range 32) fun s k => s.scEval k
  | .derrick => s.each (List.range 16) fun s p => s.peerSync p
  | .wake => s.evalNets.wioSync
  | .weigh => s.setGuard { s.guard with bucket := [], wbFull := s.nowNs }
  | _ => s

/-- The units of a phase. -/
def State.phaseReady (s : State) (p : Nat) : State :=
  s.each (fixedWindows.filter fun w => phaseOf w == p) fun s w => if s.unitState w = usLoading then s.unitReady w else s

/-! ## Failures and UNCONFIGURED (R116, R117) -/

def State.cfgErr (s : State) (cause sect : Nat) : State := (s.wr wUpd UPD_CFG_ERR.CAUSE cause).wr wUpd UPD_CFG_ERR.SECT sect

/-- The AON slot record marks a slot bad: 1 CFG_A, 2 CFG_B. -/
def State.slotBad (s : State) (k : Nat) : State :=
  (s.setCfg (if k = 1 then { s.cfg with badA := true } else { s.cfg with badB := true })).sticky wUpd UPD_CFG_STAT.SLOT_BAD

def State.isBad (s : State) (k : Nat) : Bool := if k = 1 then s.cfg.badA else s.cfg.badB

/-- A 100BASE-T1 slave that carries KMP only. -/
def State.kmpOnly (s : State) (p : Nat) : State :=
  let w := wEth p
  let s := (((s.wr w ETH_CFG.EN 1).wr w ETH_CFG.IF 5).wr w ETH_CFG.ROLE 0).wr w ETH_CFG.KMP_EN 1
  (s.wr w ETH_STATE.KMP_ONLY 1).wr w ETH_MAX_FRAME.MAX 1518

/-- R117. -/
def State.unconfigured (s : State) : State :=
  let s := ((s.wr wUpd UPD_CFG_STAT.UNCFG 1).wr wUpd UPD_CFG_STAT.SLOT 0).wr wUpd UPD_CFG_SEQ.SEQ 0
  let s := s.setCfg { s.cfg with stage := 7, sects := [], image := [], header := [], bare := false, subsys := 0, ptpSlaves := 0, ptpMasters := 0 }
  let s := (s.setPwr { s.pwr with mode := 0 }).startFailedRow
  let s := (s.each [6, 7, 8, 9, 10, 11, 12, 13, 14, 15] fun s p => s.kmpOnly p).wr wDerrick DRK_CFG.EN 1
  let s := s.each [1, 2, 3] fun s p => s.phaseReady p
  s.wr wPwr PWR_START_MS.MS (min 65535 ((s.clk - s.pwr.wakeClk) * clkNs / 1000000))

/-! ## Candidates (R114, R462, R473) -/

def imgField (b : List Nat) (o n : Nat) : Nat := beNat ((b.drop o).take n)

def bareMagic : Nat := 0x58423136
def imageMagic : Nat := 0x565A4743
def partId : Nat := 0x48720001

/-- The slot's first reading. -/
def slotFirst (x : SlotImage) : List Nat := (x.head.headD []).map BitVec.toNat

def slotBare (x : SlotImage) : Bool := imgField (slotFirst x) 0 4 == bareMagic

/-- The header block's payload, or a bare image, which has no blocks. -/
def slotData (x : SlotImage) : List Nat := if slotBare x then slotFirst x else (blockRead x.head).getD (slotFirst x)

/-- The strap takes an image's MODE (R462), and it is the mode that holds since the last SOFT, PIN, BOR or POR reset (R1). -/
def strapTakes (strap mode : Nat) (held : Option Nat) : Bool :=
  mode ≤ 2 && (strap == 0 || strap == mode) && (held == none || held == some mode)

/-- The records of a bare image match its CRC (R473). -/
def bareCrcOk (b : List Nat) : Bool := crc32 ((b.drop 16).take (3 * imgField b 6 2)) == imgField b 8 4

/-- Why a slot is no candidate; none: it is one. Of several faults the first in this order is recorded: the block, MAGIC or HDR_CRC, PART or
MODE, FMT_MAJ, SVN, the bad mark; R114 gives no order (DESIGN CHOICE). -/
def State.slotFault (s : State) (k : Nat) (x : SlotImage) : Option Nat :=
  let b := (slotData x)
  let f := imgField b
  let strap := s.rd wSup SUP_STRAP.MODE_CODE
  if slotBare x then
    if f 4 2 / 256 ≠ 2 then some 4
    else if f 6 2 = 0 ∨ 16384 < f 6 2 ∨ bareCrcOk b = false then some 2
    else if s.lcState ≠ lcMake then some 6
    else if strapTakes strap 1 s.pwr.heldMode = false then some 3
    else if s.isBad k then some 12 else none
  else if (blockRead x.head).isNone then some 8
  else if f 0 4 ≠ imageMagic ∨ crc32c 0xFFFFFFFF (b.take 0xFC) ≠ f 0xFC 4 then some 2
  else if f 0x3C 4 ≠ partId ∨ strapTakes strap (f 6 1) s.pwr.heldMode = false then some 3
  else if f 4 1 ≠ 1 then some 4
  else if f 0x10 2 < s.rd wUpd UPD_FLOOR.CFG then some 5
  else if s.isBad k then some 12 else none

/-- The ranges of a header's fields, with NSECT entries in the section table; the signed region holds the header, the section table and the
digest table, and the image both signatures (R110, R112). -/
def headerFits (f : Nat → Nat → Nat) (sects : Nat) : Bool :=
  let n := f 0x12 2
  let len := f 8 4
  let sig := f 0x1C 4
  1 ≤ n && n ≤ 200 && sects == n && 4092 ≤ len && len ≤ 8380416 && 1 ≤ f 0x24 4 && f 0x24 4 ≤ 16384 &&
    0x100 ≤ sig && f 0x14 4 + 16 * n ≤ sig && f 0x18 4 + 48 * n ≤ sig && sig + 96 ≤ len && f 0x20 4 + f 0x24 4 ≤ len

/-- What a candidate fails in phase 0: its signatures, the ranges of its header, its section table. -/
def State.phase0Fault (s : State) (x : SlotImage) : Option (Nat × Nat) :=
  let f := imgField (slotData x)
  if slotBare x then none
  else if x.ecdsaOk = false ∨ s.programmed = false ∨ s.lcState = lcScrap then some (6, 0xFF)
  else if x.hssOk = false then some (7, 0xFF)
  else if headerFits f x.sects.length = false then some (11, 0xFF)
  else match x.sects.find? fun y => !sectionPlaced (f 8 4) x.sects y with
    | some y => some (11, y.idx.toNat)
    | none => none

/-- A candidate: its slot, what the slot holds. -/
abbrev Cand := Nat × SlotImage

/-- a is tried before b: after a fallback the former slot first; native images by descending SEQ, bare ones last, CFG_A before
CFG_B. -/
def State.candBefore (s : State) (a b : Cand) : Bool :=
  let seq := fun (c : Cand) => imgField (slotData c.2) 0xC 4
  if s.upd.startSlot = a.1 then true else if s.upd.startSlot = b.1 then false
  else if slotBare a.2 != slotBare b.2 then slotBare b.2
  else if slotBare a.2 || seq a == seq b then a.1 ≤ b.1
  else decide (seq b < seq a)

/-- A bare image holds legacy records and nothing else, for phase 1 (R473). -/
def bareSection (b : List Nat) : ImgSection :=
  { idx := 0, ty := 0x80, mand := true, restart := false, phase := 1, ofs := 0, len := 0, target := 0, digest := Config.sha384 [],
    blocks := [], recs := legacyRecords (imgField b 6 2) (b.drop 16) }

/-- The image's sections with the records that they install. -/
def imageSects (x : SlotImage) : List ImgSection := if slotBare x then [bareSection (slotData x)] else x.sects.map sectionParsed

/-- The selected image governs the module from now on. -/
def State.selectSlot (s : State) (c : Cand) : State :=
  let b := (slotData c.2)
  let mode := if slotBare c.2 then 1 else imgField b 6 1
  let s := (s.wr wUpd UPD_CFG_STAT.SLOT c.1).wr wUpd UPD_CFG_SEQ.SEQ (if slotBare c.2 then 0 else imgField b 0xC 4)
  let s := s.setCfg { s.cfg with stage := 3, sects := imageSects c.2, image := [], header := b.take 256, bare := slotBare c.2,
                                 ptpSlaves := 0, ptpMasters := 0,
                                 subsys := if slotBare c.2 then 0 else imgField b 0x38 4 }
  let s := (s.setPwr { s.pwr with mode := mode, heldMode := some mode }).setLeg { s.leg with framing := s.leg.framing || mode != 0 }
  if mode = 1 then s.each (fixedWindows.filter c1Off) fun s w => s.wr w DESC_STATE.STATE usOff else s

/-- The candidates in order: each fails phase 0 and is marked bad, or is selected. -/
def State.tryCands (s : State) : List Cand → State
  | [] => s.unconfigured
  | c :: l => match s.phase0Fault c.2 with
    | none => s.selectSlot c
    | some (cause, sect) => ((s.cfgErr cause sect).slotBad c.1).tryCands l

/-- Phase 0. -/
def State.phase0 (s : State) (a b : SlotImage) : State :=
  let all : List Cand := [(1, a), (2, b)]
  let s' := s.each all fun s c => match s.slotFault c.1 c.2 with
    | some cause => s.cfgErr cause 0xFF
    | none => s
  let ok := all.filter fun c => (s.slotFault c.1 c.2).isNone
  s'.tryCands (match ok with
    | [x, y] => if s.candBefore x y then [x, y] else [y, x]
    | l => l)

/-! ## Phases 1 to 3 -/

/-- A failure after phase 0: the slot is bad, and a SOFT reset follows. -/
def State.loadFailed (s : State) (cause sect : Nat) : State :=
  ((s.cfgErr cause sect).slotBad (s.rd wUpd UPD_CFG_STAT.SLOT)).softReset causeLoad

/-- What phase 1 brings beside its units. -/
def State.phase1Done (s : State) : State :=
  let s := s.bodyInstalled.wr wPwr PWR_START_MS.MS (min 65535 ((s.clk - s.pwr.wakeClk) * clkNs / 1000000))
  s.evalNets.parkCheck

/-- Phase p: its sections, then its units. -/
def State.installPhase (s : State) (p : Nat) : State :=
  let l := installOrder (s.cfg.sects.filter fun x => x.phase.toNat == p)
  let personality := fun (s : State) => if p = 1 ∧ s.pwr.mode ≠ 0 then s.legacyDefaults else s
  let r := (personality s).installSections l
  match r.2 with
  | some (c, i) => r.1.loadFailed c i
  | none =>
    let s := personality r.1
    match s.settingsFault l with
    | some (c, i) => s.loadFailed c i
    | none =>
      let s := s.setCfg { s.cfg with stage := p + 3, image := s.cfg.image ++ l }
      let s := (s.wr wUpd UPD_CFG_STAT.PHASE p).phaseReady p
      if p = 1 then s.phase1Done else s

/-! ## Reload of a unit (R118) -/

/-- Route slot bytes as the image's legacy records give them. -/
def imgSlotBytes (l : List ImgRec) : Tab Nat :=
  l.foldl (fun t r => match r with
    | .legacy a v => if 0x1000 ≤ a.toNat ∧ a.toNat < 0x2000 then store t (a.toNat - 0x1000) v.toNat 0 else t
    | _ => t) []

/-- The entries of the image's route slots in one table. -/
def State.reloadSlots (s : State) (w : Nat) (l : List ImgRec) : State :=
  let t := s.setLeg { s.leg with slots := imgSlotBytes l }
  let slots := dedup (l.filterMap fun r => match r with
    | .legacy a _ => if 0x1000 ≤ a.toNat ∧ a.toNat < 0x2000 ∧ a.toNat % 16 = 15 then some ((a.toNat - 0x1000) / 16) else none
    | _ => none)
  s.each slots fun s k => s.each ((t.slotEntries k).filter fun e => e.win == w && e.inUse) State.installEntry

/-- The fields whose cards list U and W, the configuration outside GX, are as the UNIT reset left them (R20, R387); every other group of the
window has been written. -/
def State.cardKept (s : State) (before : Tab Nat) (w : Nat) : State :=
  let kept := fun (f : Field) => f.keptThrough .U && f.keptThrough .W
  let hit := fun (k : Nat) => keyWin k == w && (fieldOfKey k).any kept
  let s := s.setRegs ((before.filter fun p => hit p.1).foldl (fun t p => insertAt t p.1 p.2) (s.regs.filter fun p => !hit p.1))
  s.setParity (s.parity.filter fun c => c / 512 != w || (rwGroup w (c % 512)).any kept)

def isMdio : ImgRec → Bool
  | .mdio .. => true
  | _ => false

/-- The active image's content of one window, with its parity, and the unit is READY. At run time no MDIO list is issued (R163). -/
def State.reloadUnit (s : State) (w : Nat) : State :=
  let all := s.cfg.image.flatMap (·.recs)
  let t := s.each (all.filter fun r => recWin r == w && !isMdio r) fun s r => (s.imgRec r).getD s
  let s := t.cardKept s.regs w
  let s := if w = wCanf ∨ w = wRoute ∨ w = wDlist then s.reloadSlots w all else s
  (if s.pwr.mode ≠ 0 ∧ isLegacy w then s.legacyForce w else s).unitReady w

end Sys2Proof.Machine
end

