-- ==== Sys2Proof/Machine/DrkOps.lean ====
section
/-! DEFINITION. Derrick as a requester (R435 to R445): the remote windows and their descriptors, reads and writes that a face sends to a
peer, and Derrick's own registers. Remote window 0x800 + i has map entry i. -/

namespace Sys2Proof.Machine

/-! ## Mapped windows (R435) -/

def isRemote (w : Nat) : Bool := 0x800 ≤ w && w < 0x1000
def mapIdx (w : Nat) : Nat := w - 0x800

/-- The map entries with EN 1, ascending. -/
def State.mapped (s : State) : List Nat :=
  s.regs.filterMap fun p =>
    if keyWin p.1 = wDerrick ∧ keyOfs p.1 = DRK_MAP.EN.ofs ∧ keyLo p.1 = DRK_MAP.EN.lo ∧ p.2 = 1 then some (keyIdx p.1) else none

/-- The window is mapped and reads READY. -/
def State.remoteReady (s : State) (i : Nat) : Bool := s.mapOn i && s.peerState (s.mapPeer i) == psUp && s.drk.found.contains i

/-- The descriptor of the peer window as last fetched. -/
def State.peerDesc (s : State) (i ofs : Nat) : Nat := (look s.drk.desc i []).getD ofs 0

/-- A byte of a mapped window's descriptor. -/
def State.remoteDesc (s : State) (w ofs : Nat) : Nat :=
  let i := mapIdx w
  if ofs = 1 then 0xB3
  else if ofs = 2 then s.mapPeer i
  else if 4 ≤ ofs ∧ ofs < 8 then s.peerDesc i ofs
  else if ofs = 8 then s.rd w DESC_DRV.DRV_MAJ
  else if ofs = 9 then s.rd w DESC_DRV.DRV_MIN
  else if ofs = 0x0A ∨ ofs = 0x0B then s.peerDesc i ofs
  else if 0x0C ≤ ofs ∧ ofs < 0x12 then
    let next := match s.mapped.find? (i < ·) with
      | some j => 0x800 + j
      | none => 0
    byteOf (wDerrick * 2 ^ 32 + next) 6 (ofs - 0x0C)
  else if ofs = 0x18 then (if s.remoteReady i then usReady else usHeld)
  else if ofs = 0x1C then s.peerDesc i 0x1C &&& 4
  else 0

/-! ## Sending (R436, R438, R443) -/

/-- ORIGIN of an initiator; the debug port is none of the faces. -/
def originOf (init : Nat) : Option Nat :=
  if init = initSpi then some 0 else if init = initPcie then some 1 else if init = initMp then some 2 else none

/-- A WRITE to the peer window of entry i. The window's held blocks are no longer good (R441). -/
def State.remoteWrite (s : State) (i origin ofs : Nat) (data : List Nat) : State :=
  let s := s.setDrk { s.drk with held := s.drk.held.filter fun x => x.win != i }
  s.kmpPush (s.mapPeer i) ⟨kmpWrite, 0, origin * 16, 0, 0, toBytes (s.mapWin i * 4096 + ofs) 3 ++ [data.length - 1] ++ data⟩

/-- A commit of DESC_DRV in a remote window: kept here, sent to the peer, and the peer's answer fetched. -/
def State.remoteHandshake (s : State) (w origin v : Nat) : State :=
  let i := mapIdx w
  let s := (s.wr w DESC_DRV.DRV_MAJ (v / 256)).wr w DESC_DRV.DRV_MIN v
  if s.peerState (s.mapPeer i) = psUp then (s.remoteWrite i origin 8 [v / 256 % 256, v % 256]).fetch i else s

/-- The bytes of a held block that answer a read. -/
def State.heldData (s : State) (i origin addr len : Nat) : Option (List Nat) :=
  (s.drk.held.find? fun x => x.win == i && x.origin == origin && x.addr ≤ addr && addr + len ≤ x.addr + x.data.length).map fun x =>
    (x.data.drop (addr - x.addr)).take len

/-- A read through entry i for a face: the data at once from a held block, or a READ is on its way. In a prefetchable window it is widened
to the aligned block that contains it. -/
def State.remoteRead (s : State) (why : ReadFor) (i origin ofs len : Nat) (pre : List Nat) (spec : Bool) : State × Option (List Nat) :=
  let pref := s.on wDerrick DRK_MAP.PREF i
  let addr := s.mapWin i * 4096 + ofs
  let block := addr / 64 * 64
  let wide := pref && addr + len ≤ block + 64
  match (if pref then s.heldData i origin addr len else none) with
  | some d => (s, some (pre ++ d))
  | none =>
    (s.startRead
      { why, peer := s.mapPeer i, tag := 0, origin, win := i, addr := if wide then block else addr, len := if wide then 64 else len,
        want := addr, wantLen := len, pre, spec := spec || pref, sent := true, began := s.clk }, none)

/-! ## Derrick's registers -/

/-- The new value of a map entry changes something that EN 1 does not let change. -/
def State.mapFixed (s : State) (i v : Nat) : Bool :=
  s.mapOn i && (bits v 30 30 != s.rd wDerrick DRK_MAP.LANES i || bits v 29 29 != s.rd wDerrick DRK_MAP.PREF i ||
    bits v 27 24 != s.mapPeer i || bits v 11 0 != s.mapWin i)

def State.mapKinds (s : State) (i v : Nat) : List Kind :=
  let changed := s.mapFixed i v || (bit v 31 != s.mapOn i) || (!s.mapOn i && (bits v 30 29 != s.rd wDerrick DRK_MAP.LANES i * 2 +
    s.rd wDerrick DRK_MAP.PREF i || bits v 27 24 != s.mapPeer i || bits v 11 0 != s.mapWin i))
  whenK ((s.isSafe wDerrick && changed) || s.mapFixed i v || 0x800 ≤ bits v 11 0) .state

/-- DRK_MAP takes a value: a window mapped is fetched, one unmapped is forgotten; requests in flight complete. -/
def State.mapWrite (s : State) (i v : Nat) : State :=
  let s := (s.wr wDerrick DRK_MAP.EN (v / 2 ^ 31) i).wr wDerrick DRK_MAP.LANES (v / 2 ^ 30) i
  let s := ((s.wr wDerrick DRK_MAP.PREF (v / 2 ^ 29) i).wr wDerrick DRK_MAP.PEER (v / 2 ^ 24) i).wr wDerrick DRK_MAP.RWIN v i
  let s := (s.wr wDerrick DRK_MAP.MAP_BAD 0 i).setDrk { s.drk with found := dropFrom s.drk.found i }
  if s.mapOn i then (if s.peerState (s.mapPeer i) = psUp then s.fetch i else s)
  else s.setDrk { s.drk with held := s.drk.held.filter fun x => x.win != i }

/-- A write of Derrick's register at an offset. -/
def State.drkAct (s : State) (w o v : Nat) : Act :=
  let i := s.rd w DRK_MSEL.IDX
  if o = 0x140 then
    ⟨whenK (s.isSafe w && s.changes w o v) .state, fun s => (s.storeReg w o v).each (List.range 16) fun s p => s.peerSync p⟩
  else if o = 0x150 then ⟨[], fun s => if bit v 40 then s else s.storeReg w o v⟩
  else if o = 0x164 then ⟨s.mapKinds i v, fun s => s.mapWrite i v⟩
  else s.plainAct w o v false

end Sys2Proof.Machine
end

