-- ==== Sys2Proof/Machine/Stamps.lean ====
section
/-! DEFINITION. The stamp unit: popping stamps and miss records, the wait of R317 and the aging of R318. -/

namespace Sys2Proof.Machine

/-- A record enters the miss ring; the answer is whether there was room. -/
def State.missRecord (s : State) (r : StampRec) : State × Bool :=
  if s.missFull then ((s.sticky wStamp STP_STAT.MISS_FULL).event wStamp 1, false)
  else (s.setStamps { s.stamps with miss := s.stamps.miss ++ [r] }, true)

/-- An entry has freed: back-pressured classes of the ports are held no longer, and their wait starts anew (R317). -/
def State.stampFreed (s : State) (ports : List Nat) : State :=
  let keys := ports.flatMap fun p => allClasses.map (qKey p ·)
  let s := s.setFab { s.fab with backPress := s.fab.backPress.filter fun x => !keys.contains x.1 }
  s.setStamps { s.stamps with waiting := s.stamps.waiting.filter fun x => !keys.contains x.1 }

/-- The owner whose entries an initiator pops (R316). -/
def stampOwner (init : Nat) : Option Nat := if init = initMp then some 0 else if init = initSpi ∨ init = initPcie then some ownerHost else none

/-- A read of STP_TXQ_POP. -/
def txqPop (init : Nat) (spec : Bool) (s : State) : State × List Nat :=
  let p := s.rd wStamp STP_TXQ_SEL.PORT
  match stampOwner init with
  | none => (s, [0])
  | some o =>
    let mine := (s.stampQ p).filter fun e => e.owner == o
    if s.specRead init wStamp spec then ((if mine = [] then s else s.specHit init (wStamp * 4096 + 0x180) spec), [0])
    else match takeFirst (fun e => e.owner == o) (s.stampQ p) with
      | none => (s, [0])
      | some (e, rest) =>
        let s := ((s.wr wStamp STP_TXQ_VIEW.OWNER e.owner).wr wStamp STP_TXQ_VIEW.TAG e.tag).wr wStamp STP_TXQ_VIEW.TIME e.time
        ((s.setStampQ p rest).stampFreed [p], [mine.length])

def execStampTxqPop (init : Initiator) (spec : Bool) (s : State) : Result :=
  .next ((fresh s).cmdRead init.code wStamp 0x180 1 (txqPop init.code spec))

/-- A read of STP_MISS_POP. -/
def missPop (init : Nat) (spec : Bool) (s : State) : State × List Nat :=
  let n := min 255 s.stamps.miss.length
  match s.stamps.miss with
  | [] => (s, [0])
  | e :: rest =>
    if s.specRead init wStamp spec then (s.specHit init (wStamp * 4096 + 0x1A0) spec, [n])
    else
      let s := ((s.wr wStamp STP_MISS_VIEW.PORT e.port).wr wStamp STP_MISS_VIEW.KIND e.kind).wr wStamp STP_MISS_VIEW.OWNER e.owner
      let s := (s.wr wStamp STP_MISS_VIEW.TAG e.tag).wr wStamp STP_MISS_VIEW.TIME e.time
      ((s.setStamps { s.stamps with miss := rest }).stampFreed (List.range 16), [n])

def execStampMissPop (init : Initiator) (spec : Bool) (s : State) : Result :=
  .next ((fresh s).cmdRead init.code wStamp 0x1A0 1 (missPop init.code spec))

/-- STAMP_WAIT of class c of port p ends (R317). -/
def waitExpiry (p c : Nat) (s : State) : State :=
  if (s.stamps.waiting.find? (·.1 == qKey p c)).isNone then s
  else
    let s := s.setStamps { s.stamps with waiting := erase s.stamps.waiting (qKey p c) }
    match s.queue p c with
    | [] => s
    | h :: r => match s.stampAsked p h with
      | none => s
      | some (owner, tag) =>
        if !s.stampFull p then s
        else
          let x := s.missRecord ⟨p, 0, owner, tag, s.time80⟩
          if x.2 then ((x.1.setQueue p c ({ h with untimed := true } :: r)).sticky wStamp STP_STAT.MISS).event wStamp 0
          else (x.1.setFab { x.1.fab with backPress := store x.1.fab.backPress (qKey p c) true false }).count wStamp STP_BACKPRESSURE.COUNT

def execStampWaitExpiry (p : Fin 16) (c : Fin 8) (s : State) : Result := .next (waitExpiry p c (fresh s))

/-- The oldest entry of a port's queue has been unread for STP_AGE (R318). -/
def ageExpiry (p : Nat) (s : State) : State :=
  match s.stampQ p with
  | [] => s
  | e :: rest =>
    if s.rd wStamp STP_AGE.AGE = 0 then s
    else
      let x := s.missRecord { e with kind := 1 }
      if x.2 then ((x.1.setStampQ p rest).stampFreed [p]).sticky wStamp STP_STAT.AGED else x.1

def execStampAgeExpiry (p : Fin 16) (s : State) : Result := .next (ageExpiry p (fresh s))

/-- A UNIT reset of the stamp unit moves every queue entry to the miss ring; those without room are lost (R318). -/
def State.stampReset (s : State) : State :=
  let s := s.each (List.range 16) fun s p =>
    (s.setStampQ p []).each (s.stampQ p) fun s e =>
      let x := s.missRecord { e with kind := 2 }
      if x.2 then x.1 else x.1.count wStamp STP_LOST.COUNT
  s.stampFreed (List.range 16)

end Sys2Proof.Machine
end

