-- ==== Sys2Proof/Machine/TreeOps.lean ====
section
/-! DEFINITION. The UNIT reset as an operation (R85, R118, R459): how the work of each unit ends, which of its fields keep their values, and
the reload that follows. -/

namespace Sys2Proof.Machine

/-! ## Ending the work of a unit -/

/-- SEn (R252); under a watchdog the extraction in progress ends failed (R458). -/
def State.seReset (s : State) (e : Nat) (fault : Bool) : State :=
  let q := s.exq e
  let s := s.setExq e []
  let one := fun (s : State) (w : EngineWork) (inProgress : Bool) => match w with
    | .pdu x =>
      if x.only then (if inProgress then s.endItem (wSE e) .failed 0x30 x.fid else s.endItem (wSE e) .dropped 0x65 x.fid) else s.seLost e
    | .report _ _ => s.seLost e
  let s := match q with
    | [] => s
    | w :: r => (one s w fault).each r fun s w => one s w false
  (s.setBq e []).each (s.bq e) fun s j => s.buildSkip.sendDone j

/-- The queued operations of AUTH end, and its values are written back (R293). -/
def State.authReset (s : State) : State :=
  let items := s.fab.pipe.filter fun i => i.stage == .atVerify
  let s := s.each items fun s i => (s.count wAuth AUTH_OTHER.COUNT).stopItem wAuth .dropped 0x8F i.fid
  let s := s.each s.appending fun s c => (s.count wAuth AUTH_OTHER.COUNT).appendEnded c .dropped 0x8F
  (s.setFab { s.fab with appendQ := [] }).authWriteBack

/-- What a commit still has to do is done (R127). -/
def State.commitThrough (s : State) : State :=
  match s.bench.phase with
  | .idle => s
  | .drain => s.setPhase .reclaim
  | .splitDrain => s.setPhase .split
  | .split => s.splitStep
  | .reclaim => s.reclaimDone

/-- A benched table is empty while it reloads. -/
def State.clearTable (s : State) (w : Nat) : State :=
  let out := fun (t : Tab Nat) => t.filter fun p => keyWin p.1 != w
  s.setBench { s.bench with bank0 := out s.bench.bank0, bank1 := out s.bench.bank1, viewBuf := out s.bench.viewBuf }

/-- The engine's command ends, and its bridge brakes (R359). -/
def State.meReset (s : State) (k : Nat) : State :=
  if s.meState k = meIdle then s
  else if s.meState k = meOff then s.normLost k
  else (((s.mapMe k fun m => { m with pend := none }).normLost k).sticky (wME k) ME_STAT.FAULT).meEnterBrake k resFault

/-- Every peer goes to DOWN with its accounting (R450). -/
def State.drkReset (s : State) : State :=
  let s := s.each (List.range 16) fun s n =>
    let was := s.peerState n
    if was = psDown then s
    else
      let s := (s.peerAccount n).setPeerState n psDown
      if was = psUp then s.sticky wDerrick DRK_STAT.PEER_LOST else s
  s.setDrk { s.drk with reads := [], readQ := [], held := [], desc := [], found := [], fetchQ := [] }

/-- What the unit's chapter says of its UNIT reset. -/
def State.endWork (s : State) (w : Nat) (fault : Bool) : State :=
  let n := instOf w
  match clsOf w with
  | .host => (s.stopRings.setHost { s.stopRings.host with delayed := none }).loseSpiReads
  | .hopper => s.hopDrain n allClasses .dropped 0x29
  | .fabric => s.setFab { s.fab with frerGen := [], frerRec := [] }
  | .tables => (iter State.commitThrough 16 s).discardDelta
  | .l2 => s.setTbl { s.tbl with l2 := [], learnQ := [], removals := [], l2Run := none }
  | .seam => s.setTbl { s.tbl with prefixes := [], seamRun := none, standing := [] }
  | .eth => (s.mdioDrop n).ethDisable n
  | .can =>
    let s := (s.canDropAll n 0x57).each allObjects fun s k => s.objClear n k
    (s.setCan { s.can with fifo := (s.can.fifo.filter fun x => x.1 / 2 != n), fastOn := erase s.can.fastOn n }).setCanState n canOff
  | .lin => (s.linDropAll n 0x5B).linStop n linOff
  | .signal => s.sigResetAll.clearTable w
  | .pdu =>
    (s.setGw { s.gw with pend := [], mdtRun := [], repRun := [], repLeft := [], sendCmd := none }).clearTable w
  | .vlan | .route | .dlist | .canf => s.clearTable w
  | .sieve => (s.each (List.range 256) fun s k => s.wr w STRM_CFG.BLOCKED 0 k).clearTable w
  | .weigh => (s.setGuard { s.guard with bucket := [] }).clearTable w
  | .auth => s.authReset.clearTable w
  | .macsec =>
    let s := s.setGuard { s.guard with secySwitch := [], pnLow := [], pnSpent := [], secyPend := [] }
    let s := s.each (List.range 32) fun s k => s.setScState k scOff
    s.each (List.range 64) fun s k => s.wr w MSEC_SA_PN.PN 0 k
  | .se => s.seReset n fault
  | .axis => s.axStop n
  | .axis0 => s.axisLost 0
  | .evp => s.each (s.evp.armed.map (·.1)) fun s i => s.evDrop i 0x94
  | .stamp => s.stampReset
  | .channel => ((s.chLeave n protOff).wr w CH_RETRY_CNT.COUNT 0).testEnd n
  | .motion => s.meReset n
  | .switch => s.setSw n SwSt.reset
  | .analog => s.anOff n
  | .wake => s.wakeAll
  | .ks => (s.each (List.range 256) fun s k => s.shadowZero k).setTrust { s.trust with persist := none }
  | .attest => s.trmFree.setTrust { s.trmFree.trust with run := none }
  | .derrick => s.drkReset
  | .common | .group | .root | .sup | .upd | .stockpile | .ethGroup | .cant | .lint | .engine | .channels | .bridge | .therm | .ps
  | .inputs | .pwr | .bist | .lc | .tamper | .debug | .legacy | .plain => s

/-! ## The reset -/

/-- Live fields that show something a UNIT reset of their window leaves as it is: pins, supplies and their states, the control mode and the
temperatures (R387), a link and a reader that the ports keep, a bridge that brakes (R359), a transceiver. -/
def liveThroughUnit (f : Field) : Bool :=
  f.kept == [] && f.acc == .ro &&
    match f.cls with
    | .sup | .wake | .pwr | .lc | .tamper | .debug | .ks | .attest | .cant | .lint | .upd | .therm | .ps | .host | .hopper | .stockpile
    | .channels | .inputs | .bridge => true
    | .channel => f == CH_STATE.CTRL || f == CH_STATE.PROT
    | .motion => f == ME_STATE.STATE || f == ME_STATE.DIRN
    | _ => false

/-- What a UNIT reset of its window leaves of a field: one whose card lists U (R20), a live one of the kinds above, the value and state of a
signal, which R252 sets, and a pending PARK. -/
def unitKeeps (f : Field) : Bool :=
  f.kept.contains .U || liveThroughUnit f || f == SIG_VALUE.VALUE || f == SIG_STATE.STATE || (f.cls == .pwr && f.acc == .cmd)

/-- The unit's image fields, and what does not survive. A unit in OFF stays in OFF. -/
def State.resetUnit (s : State) (w : Nat) (fault : Bool) : State :=
  if s.unitState w = usOff then s
  else
    let s := s.endWork w fault
    let s := s.resetFields (fun v => v == w) fun _ f => unitKeeps f
    let s := s.setFans (s.fans.filter fun f => f.grp != w)
    s.wr w DESC_STATE.STATE usLoading

/-- A reset of a window and everything below it (UNIT_CTRL.URST). -/
def State.unitReset (s : State) (w : Nat) (fault : Bool) : State :=
  let s := s.each (fixedWindows.filter fun v => v == w || (descendantsOf w).contains v) fun s v => s.resetUnit v fault
  (s.wr w UNIT_CTRL.URST 1).axisSources

/-- URST reads 1 until every unit it reaches has left HELD and LOADING. -/
def State.urstSettle (s : State) : State :=
  s.each (fixedWindows.filter fun w => s.on w UNIT_CTRL.URST) fun s w =>
    if (w :: descendantsOf w).any fun v => s.unitState v == usHeld || s.unitState v == usLoading then s else s.wr w UNIT_CTRL.URST 0

/-! ## The reload -/

/-- A signal entry comes back as it was: its value is DEFAULT, and its sink hears of it where that is a change (R252). -/
def State.signalBack (s : State) (i : Nat) : State :=
  if s.sigState i = siInit ∧ s.sigValue i = s.sigDefault (s.genOf wSignal) i then s else s.sigInit i

/-- An entry of the image in both Benches, without its start. -/
def State.quietEntry (s : State) (e : NewEntry) : State :=
  s.each [0, 1] fun s g => s.each (viewFields e.win e.idx) fun s f => s.setEnt g e.win f e.idx (e.get f)

/-- A record of the signal table without its start. -/
def State.imgQuiet (s : State) (r : ImgRec) : State :=
  match r with
  | .entry t i bytes => s.quietEntry ⟨t.win, t.base + i.toNat, viewVals t i.toNat (bytes.map BitVec.toNat)⟩
  | .reg a b =>
    let w := a.toNat / 4096
    let ofs := a.toNat % 4096
    match viewAt w ofs with
    | none => (s.imgByte w ofs b.toNat).getD s
    | some v =>
      let s := s.bufBytes v ofs [b.toNat]
      let i := s.selected v
      if ofs = v.commit then s.quietEntry ⟨w, i, (viewFields w i).map fun f => (f, f.fit.apply (s.buf w f i))⟩ else s
  | _ => s

/-- The entries of the signal table without their start. -/
def State.reloadSignals (s : State) : State :=
  let all := s.cfg.image.flatMap (·.recs)
  let s := s.each (all.filter fun r => recWin r == wSignal) fun s r => s.imgQuiet r
  let g := s.genOf wSignal
  let s := s.each (s.validIn g wSignal SIG_ENTRY.VALID) State.signalBack
  let s := s.each s.sigEntries fun s i => if s.sig g SIG_ENTRY.VALID i = 1 then s else s.wr wSignal SIG_VALUE.VALUE (s.sigDefault g i) i
  s.unitReady wSignal

/-- The image's content of a unit that has been reset, and the unit is READY: not before the phase that installs it. -/
def State.reloaded (s : State) (w : Nat) : State :=
  if s.unitState w ≠ usLoading ∨ s.cfg.stage < phaseOf w + 3 then s
  else
    let s := if s.cfg.stage = 7 ∧ wEth 6 ≤ w ∧ w ≤ wEth 15 then s.kmpOnly (instOf w)
      else if s.cfg.stage = 7 ∧ w = wDerrick then s.wr w DRK_CFG.EN 1 else s
    let s := if w = wSignal then s.reloadSignals else s.reloadUnit w
    s.urstSettle.axisSources.parkCheck

end Sys2Proof.Machine
end

