-- ==== Sys2Proof/Machine/Tree.lean ====
section
/-! DEFINITION. The unit tree and the faults (01, 20): UNIT resets and their reloads, the scrubber, summaries on their way to the root, the
Spoil log and the trouble log as software reads them, and the unit watchdogs. -/

namespace Sys2Proof.Machine

/-! ## UNIT reset (R85, R118) -/

/-- A write of URST, with the value of LOCK that goes with it (R87, R494). -/
def execUnitReset (init : Initiator) (w : BitVec 12) (lock : Bool) (s : State) : Result :=
  let w := w.toNat
  let i := init.code
  .next ((fresh s).cmdWrite i w 0x020 (128 + 64 * b2n lock)
    (whenK (i != initMp && lock != (fresh s).on w UNIT_CTRL.LOCK) .privilege ++
      whenK (i != initMp && (fresh s).on w UNIT_CTRL.LOCK) .locked ++ whenK ((fresh s).on w UNIT_CTRL.URST) .cmdBusy)
    fun s => ((s.wr w UNIT_CTRL.LOCK (b2n lock)).unitReset w false).urstSettle)

def execUnitReloadComplete (w : BitVec 12) (s : State) : Result := .next ((fresh s).reloaded w.toNat)

/-! ## The scrubber (R82 to R84) -/

/-- The offsets 8k to 8k + 7 hold an RW bit. -/
def parityGroup (w k : Nat) : Bool := !(rwGroup w k).isEmpty

/-- The value of the RW bits of a group, over the fields and the elements of their arrays that lie in it. -/
def State.groupData (s : State) (w k : Nat) : List Nat :=
  (List.range 8).map fun j =>
    ((fieldsIn w (8 * k + j)).filter fun f => f.acc == .rw).foldl
      (fun a f => a + bits (s.rd w f (s.selOf w f.ofs) * 2 ^ f.lo) (8 * (f.ofs + f.len - 1 - (8 * k + j)) + 7) (8 * (f.ofs + f.len - 1 - (8 * k + j)))) 0

/-- The odd-parity bit that a group carries (R82): that of its data, or the other one where a bit has been lost and no write has followed. -/
def State.parityBit (s : State) (w k : Nat) : Bool :=
  let ones := ((s.groupData w k).map fun b => ((List.range 8).filter (bit b)).length).sum
  (ones % 2 == 0) != s.parity.contains (w * 512 + k)

/-- What a unit does as it enters its safe state (R178, R338, R359). -/
def State.safeEntry (s : State) (w : Nat) : State :=
  let n := instOf w
  match clsOf w with
  | .eth => if s.ethState n = ethLoop then loopWrite n 0 s else s
  | .channel =>
    let s := (s.chEval n).chOutput n
    if isHalf n then s.hbApply (n / 2) else s
  | .bridge => s.hbApply n
  | _ => s

/-- The unit is in its safe state. An engine stops first (R359). -/
def State.toSafe (s : State) (w : Nat) : State :=
  if s.isSafe w then s
  else
    let s := if clsOf w = .motion then (s.meCommand (instOf w) .stop).mapMe (instOf w) fun m => { m with pend := none } else s
    ((s.wr w DESC_STATE.STATE usSafe).safeEntry w).axisSources

/-- A bit of a group has been lost: its data and its parity bit disagree until a write (R82, R85). -/
def State.loseParity (s : State) (c : Nat) : State := if s.parity.contains c then s else s.setParity (c :: s.parity)

/-- A check of group k. `mismatch`: a bit of the group has been lost since the last check; a mismatch that no write has ended is found
again (R85). -/
def scrub (w k : Nat) (mismatch : Bool) (s : State) : State :=
  if (unitOf w).isNone || s.unitState w == usOff || !parityGroup w k then s
  else
    let s := if mismatch then s.loseParity (w * 512 + k) else s
    if s.parity.contains (w * 512 + k) then ((s.sticky w UNIT_STICKY.CFG_PARITY).recordFault w 1 (8 * k) 1).toSafe w else s

def execScrubCheck (w : BitVec 12) (k : Fin 512) (mismatch : Bool) (s : State) : Result := .next (scrub w.toNat k mismatch (fresh s))

/-! ## Summaries (R40, R41) -/

/-- A sticky trouble bit is set in the window; UNIT_IRQ_PEND.TROUBLE is no such bit but the interrupt of one. -/
def State.stickyIn (s : State) (w : Nat) : Bool :=
  s.regs.any fun p => keyWin p.1 == w && p.2 != 0 &&
    (fieldsAt w).any fun f => f.sticky && f != UNIT_IRQ_PEND.TROUBLE && f.at_ (keyOfs p.1) (keyLo p.1)

/-- The sources of a window's own that its DESC_SUMMARY shows beside STICKY: bits 6 to 3. -/
def State.ownSources (s : State) (w : Nat) : Nat :=
  b2n (s.on w UNIT_STICKY.CFG_PARITY) * 64 + b2n (s.on w UNIT_STICKY.VIOL) * 32 + b2n (s.on w UNIT_STICKY.LEASE) * 16 +
    b2n (s.irqPending w) * 8

/-- The summary of a window: its own sources; in a group what its descendants' have been brought to; in any other window bits 6 to 3 of its
descendants, which STICKY alone leaves out there. -/
def State.summary (s : State) (w : Nat) : Nat :=
  let below := if isGroup w then s.rd w DESC_SUMMARY.STICKY * 128 + s.rd w DESC_SUMMARY.CFG_PARITY * 64 +
      s.rd w DESC_SUMMARY.VIOL * 32 + s.rd w DESC_SUMMARY.LEASE * 16 + s.rd w DESC_SUMMARY.IRQ * 8
    else (childrenOf w).foldl (fun a c => a ||| s.ownSources c) 0
  (b2n (s.stickyIn w) * 128 + s.ownSources w) ||| below

/-- The windows whose summaries a group collects: its children, and the children of those that are no groups (transceivers, power-stage
dies). -/
def summaryMembers (g : Nat) : List Nat := childrenOf g ++ ((childrenOf g).filter fun c => !isGroup c).flatMap childrenOf

/-- What they show reaches the group. -/
def State.gather (s : State) (g : Nat) : State :=
  let v := (summaryMembers g).foldl (fun a c => a ||| s.summary c) 0
  let s := ((s.wr g DESC_SUMMARY.STICKY (v / 128)).wr g DESC_SUMMARY.CFG_PARITY (v / 64)).wr g DESC_SUMMARY.VIOL (v / 32)
  (s.wr g DESC_SUMMARY.LEASE (v / 16)).wr g DESC_SUMMARY.IRQ (v / 8)

/-- A change in window w reaches the next group above it. -/
def summaryUp (w : Nat) (s : State) : State :=
  if (unitOf w).isNone then s
  else match (ancestorsOf w).find? isGroup with
    | none => s
    | some g => s.gather g

def execSummaryPropagate (w : BitVec 12) (s : State) : Result := .next (summaryUp w.toNat (fresh s))

/-! ## The logs (R453, R457) -/

/-- A read of SPOIL_POP. -/
def spoilPop (init : Nat) (spec : Bool) (s : State) : State × List Nat :=
  let n := min 255 s.flt.spoil.length
  let idle := s.flt.spoil == [] && s.rd wRoot SPOIL_VIEW.RECORD == 0
  if s.specRead init wRoot spec then ((if idle then s else s.specHit init (wRoot * 4096 + 0x140) spec), [n])
  else match s.flt.spoil with
    | [] => (s.wr wRoot SPOIL_VIEW.RECORD 0, [0])
    | r :: l => ((s.wr wRoot SPOIL_VIEW.RECORD r).setFlt { s.flt with spoil := l }, [n])

def execSpoilPop (init : Initiator) (spec : Bool) (s : State) : Result :=
  .next ((fresh s).cmdRead init.code wRoot 0x140 1 (spoilPop init.code spec))

/-- A read of TRB_POP. -/
def troublePop (init : Nat) (spec : Bool) (s : State) : State × List Nat :=
  let n := s.flt.trouble.length
  let idle := s.flt.trouble == [] && s.rd wRoot TRB_VIEW.RECORD == 0
  if s.specRead init wRoot spec then ((if idle then s else s.specHit init (wRoot * 4096 + 0x160) spec), [n])
  else match s.flt.trouble with
    | [] => (s.wr wRoot TRB_VIEW.RECORD 0, [0])
    | r :: l => ((s.wr wRoot TRB_VIEW.RECORD r).setFlt { s.flt with trouble := l }, [n])

def execTroublePop (init : Initiator) (spec : Bool) (s : State) : Result :=
  .next ((fresh s).cmdRead init.code wRoot 0x160 1 (troublePop init.code spec))

/-! ## Unit watchdogs (R458, R459) -/

/-- The party that recovers a unit: its group, MP, SUP, each while it reads READY. Without one the hardware watchdog is left, a command of
its own. -/
def State.canRecover (s : State) (w : Nat) : Bool :=
  (match unitOf w with
    | some u => w != 0 && s.unitState u.parent == usReady
    | none => false) || (s.pwr.mpRun && s.unitState wMP == usReady) || s.unitState wSup == usReady

/-- Every receive ring's copies whose transfer HOST holds cells for, and every descriptor it has fetched. -/
def State.hostLeases (s : State) : State :=
  s.each (List.range 16) fun s r =>
    let n := s.outstanding true r + s.outstanding false r
    let s := cellLease (.dma (Fin.ofNat 16 r)) s
    iter (fun s => descLease false r (descLease true r s)) n s

/-- The leases a unit holds are revoked, and what it held through them ends (R135, R291, R458). -/
def State.revokeUnit (s : State) (w : Nat) : State :=
  let n := Fin.ofNat 16 (instOf w)
  match clsOf w with
  | .eth => cellLease (.writer n) s
  | .hopper => cellLease (.reader n) s
  | .host => s.hostLeases
  | .engine =>
    s.each (List.finRange 6) fun s p =>
      if wGcm (gcmEngine p true) = w then keyLease (.protect p) s else if wGcm (gcmEngine p false) = w then keyLease (.receive p) s else s
  | .plain => if w = 0x012 then cellLease .stages s else s
  | _ => s

/-- A unit that completes none of its work is recovered by the first party in the order that is READY. MP's own recovery is R460's. -/
def unitWatchdog (w : Nat) (s : State) : State :=
  let st := s.unitState w
  if (unitOf w).isNone || w == wMP || !(st == usReady || st == usSafe) then s
  else
    let s := (s.sticky w UNIT_STICKY.FAULT).recordFault w 4 0 5
    if !s.canRecover w then s
    else
      let s := (s.wr w DESC_STATE.STATE usRecovery).axisSources
      (s.revokeUnit w).unitReset w true

def execUnitWatchdogExpiry (w : BitVec 12) (s : State) : Result := .next (unitWatchdog w.toNat (fresh s))

end Sys2Proof.Machine
end

