-- ==== Sys2Proof/Machine/RegRead.lean ====
section
/-! DEFINITION. What a byte of a window reads as (R5, R9 to R15, R38, R39, R98): descriptor bytes, stored fields, the fields that mirror
something else, holds and snapshots, and the reads that act. -/

namespace Sys2Proof.Machine

/-! ## Descriptors -/

/-- DESC_ID as a value. -/
def State.descId (s : State) (init w : Nat) (u : Unit) : Nat :=
  u.code * 65536 + u.inst * 256 + b2n (isGroup w) * 128 + b2n (isFirmware w) * 64 + b2n (isLegacy w) * 32 + b2n (s.roHere init w) * 16 + u.die * 4

/-- The links of a window's descriptor (R47): parent, first child, next sibling. A remote window is a child of Derrick while it is mapped. -/
def State.descLink (s : State) (w : Nat) (u : Unit) : Nat :=
  let child := if w = wDerrick then (match s.mapped with
      | [] => 0
      | i :: _ => 0x800 + i)
    else (childrenOf w).headD 0
  let sibling := if w = 0 then 0 else ((childrenOf u.parent).find? (w < ·)).getD 0
  u.parent * 2 ^ 32 + child * 65536 + sibling

/-- DESC_NCHILD. -/
def State.nchild (s : State) (w : Nat) : Nat := if w = wDerrick then s.mapped.length else (childrenOf w).length

/-- DESC_SUMMARY. -/
def State.summaryByte (s : State) (w : Nat) : Nat := s.summary w ||| (s.rd w DESC_SUMMARY.VBASE * 4)

/-- A descriptor byte of a window of the map; NCHILD is given apart. -/
def State.descByte (s : State) (init w ofs : Nat) (u : Unit) : Nat :=
  if ofs < 4 then byteOf (s.descId init w u) 4 ofs
  else if ofs < 6 then byteOf (ifvOf w) 2 (ofs - 4)
  else if ofs = 6 then 1
  else if ofs = 8 then s.rd w DESC_DRV.DRV_MAJ
  else if ofs = 9 then s.rd w DESC_DRV.DRV_MIN
  else if ofs = 0xA then s.rd w DESC_ACT.ACT_MAJ
  else if ofs = 0xB then s.rd w DESC_ACT.ACT_MIN
  else if 0xC ≤ ofs ∧ ofs < 0x12 then byteOf (s.descLink w u) 6 (ofs - 0xC)
  else if ofs = 0x18 then s.unitState w
  else if ofs = 0x1C then s.summaryByte w
  else 0

/-! ## Fields that mirror something else -/

/-- GRP_STICKY_MAP: bit k, STICKY of the k-th child. Remote windows read 0 (R435). -/
def State.stickyMap (s : State) (w : Nat) : Nat :=
  let l := childrenOf w
  ((List.range l.length).zip l).foldl (fun a (k, c) => if bit (s.summary c) 7 then setBit a k else a) 0

def State.objMap (s : State) (p : Nat) (f : Field) : Nat :=
  allObjects.foldl (fun a k => if s.obj p k f = 1 then setBit a k else a) 0

/-- Byte k of the XL frame in a port's view. -/
def State.xlByte (s : State) (p k : Nat) : Nat :=
  if s.rd (wCan p) CAN_OBJ_VIEW.XLSTK = 0 then 0
  else match (s.can.xlRef.find? (·.1 == xlKey p 0)).bind fun x => s.frame x.2 with
    | some f => f.data.getD k 0
    | none => 0

/-- Transactions on the bus ahead of the port's own, 0 when it has none waiting. -/
def State.mdioAhead (s : State) (p : Nat) : Nat :=
  let l := s.bus (mdioBus p)
  if l.any (·.port == p) then l.findIdx (·.port == p) else 0

/-- A policer's buckets as its last update left them, in whole tokens (R269). -/
def State.wbFill (s : State) (te : Bool) : Nat :=
  let b := s.bucketOf (s.genOf wWeigh) (s.rd wWeigh WB_SEL.POL)
  (if te then b.te else b.tc) / unit9

/-- PWR_STATE.STATE: 2 park entry before the commit, 3 self-test (R383). -/
def State.pwrCode (s : State) : Nat := match s.pwr.entryStep with
  | some k => if k ≤ 3 then 2 else 3
  | none => if s.pwr.state = .partialRun then 1 else 0

/-- DBG_MIN: begun minutes that are left. -/
def State.debugMinutes (s : State) : Nat :=
  if s.trust.session then min 255 (ceilDiv ((s.trust.sessEnd - s.clk) * clkNs) 60000000000) else 0

def State.switchMap (s : State) : Nat :=
  (List.range 64).foldl (fun a n => if s.on (wSW n) SW_STATE.STATE then setBit a n else a) 0

/-- INST of LC_ROOTS. -/
def State.rootMap (s : State) : Nat := (List.range 4).foldl (fun a r => if s.installed r then setBit a r else a) 0

/-- The values of a window's fields that mirror something else, `k` being the element of a register array and `idx` the selected
entry. -/
def State.mirror (s : State) (w : Nat) (f : Field) (k idx : Nat) : Option Nat :=
  let n := instOf w
  let one := fun (l : List (Field × Nat)) => (l.find? fun x => x.1 == f).map (·.2)
  match f.cls with
  | .group => one [(GRP_STICKY_MAP.SMAP, s.stickyMap w)]
  | .root => one [(SPOIL_CNT.CNT, s.flt.spoil.length), (TRB_CNT.CNT, s.flt.trouble.length)]
  | .tables => one [(TBL_OVF_CNT.OVF, s.bench.ovf.length)]
  | .fabric => one [(FAB_FRER_GEN.SEQ, look s.fab.frerGen idx 0)]
  | .stockpile => one [(STK_INUSE.INUSE, s.stkInUse (s.rd w STK_RSV_SEL.PORT)), (STK_FREE.FREE, s.freeCells),
      (STK_SHARED_FREE.FREE, s.sharedFree)]
  | .hopper => one [(HOP_QDEPTH.QDEPTH.elem k, qCells (s.queue n k)), (HOP_PEEK.HANDLE.elem k, ((s.queue n k).map fun c => handleOf c.fid).headD 0)]
  | .eth => one [(ETH_MDIO_STAT.QPOS, s.mdioAhead n)]
  | .l2 => one [(L2_COUNT.ENTRIES, s.tbl.l2.length), (L2_LEARNQ.DEPTH, s.tbl.learnQ.length)]
  | .seam => one [(SEAM_FREE_M.FREE.elem k, memLimit k - memNodes s.nodeSet k), (SEAM_COUNT.V4, s.prefixCount false),
      (SEAM_COUNT.V6, s.prefixCount true)]
  | .can => one [(CAN_TXQ_DEPTH.DEPTH, (s.txq n).length), (CAN_NEWDAT.MAP, s.objMap n CAN_OBJ_VIEW.NEWDAT),
      (CAN_TXRQ.MAP, s.objMap n CAN_OBJ_VIEW.TXRQ), (CAN_XLDATA.DATA.elem k, if 8 ≤ n then s.xlByte n k else 0)]
  | .cant => one [(CANT_MODE.FAST_CAP, b2n (8 ≤ n)), (CANT_LIVE.TX_OFF, b2n (look s.can.fault n 0 != 0)),
      (CANT_LIVE.FAST_ON, b2n (look s.can.fastOn n false))]
  | .se => one [(SE_QDEPTH.EXQ, (s.exq n).length), (SE_STAT.BQ, (s.bq n).length)]
  | .weigh => one [(WB_FILL.TC, s.wbFill false), (WB_FILL.TE, s.wbFill true)]
  | .axis => if n = 0 then none else one [(AX_POS.POS, s.axPosReg n), (AX_SPEED.SPEED, s.axSpeedReg n)]
  | .axis0 => one [(AX0_TIME.SEC, s.ax0.sec), (AX0_TIME.NS, s.ax0.ns),
      (AX0_SLEW.SLEW, ofSigned (Int.tdiv s.ax0.slew fracUnit) 32)]
  | .stamp => one [(STP_TXQ_CNT.CNT, (s.stampQ (s.rd w STP_TXQ_SEL.PORT)).length), (STP_MISS_CNT.CNT, s.stamps.miss.length)]
  | .channel => one [(CH_CTRL.ON, b2n (s.chOn n)), (CH_PHASE_EFF.PHASE_EFF, s.phaseEff n), (CH_STATE.DERATED, b2n (s.derOf n < 8)),
      (CH_STATE.STAGGERED, b2n ((s.staggered (dieOf n)).contains n))]
  | .inputs => one [(INP_STATES.STATES, s.switchMap)]
  | .wake => one [(WK_PNC_REQ.REQ, s.pncReq), (WK_NET_STATE.REQ.elem k, b2n (s.netRequested k)),
      (WK_NET_STATE.STATE.elem k, if s.managed k then s.netState k else 0)]
  | .sup => one [(SUP_PINS.LID, b2n (!s.on wTamper TAMP_LIVE.LID))]
  | .pwr => one [(PWR_STATE.STATE, s.pwrCode), (PWR_STATE.TAMP, b2n s.pwr.tampered)]
  | .ks => one [(KS_USABLE.USABLE, s.usableMap)]
  | .lc => one [(LC_STATE.STATE, s.lcState), (LC_STATE.TAMP, b2n s.pwr.tampered), (LC_STATE.ROOT, s.currentRoot.getD 0),
      (LC_ROOTS.INST, s.rootMap), (LC_ROOTS.AUTH, if s.programmed then 15 else 0)]
  | .debug => one [(DBG_STATE.LEVEL, s.debugLevel), (DBG_MIN.MIN, s.debugMinutes)]
  | _ => none

/-- What a read of a field returns. CH_PHASE and the other RW fields, W1C and stored RO fields return what is stored, a CMD field
whether it runs, a WO field 0. -/
def State.fieldValue (s : State) (w : Nat) (f : Field) (k idx : Nat) : Nat :=
  if f.acc = .wo then 0
  else match s.mirror w f k idx with
    | some v => v % 2 ^ f.width
    | none => s.rd w f idx

/-- The element of a register array that a byte lies in. -/
def Field.elemAt (f : Field) (ofs : Nat) : Nat := if f.stride = 0 then 0 else (ofs - f.ofs) / f.stride

/-- The fields of the register at an offset, each with its element number. -/
def regElems (w ofs : Nat) : List (Field × Nat) := (fieldsAt w).filterMap fun f => (f.spans ofs).map fun g => (g, f.elemAt ofs)

/-- The register's value as it reads. -/
def State.regReads (s : State) (w ofs : Nat) : Nat :=
  (regElems w ofs).foldl (fun a x => a ||| (s.fieldValue w x.1 x.2 (s.selOf w ofs) * 2 ^ x.1.lo)) 0

/-! ## Holds and snapshots (R11, R12, R14) -/

/-- One store for each initiator and window. -/
def holdKey (holder w : Nat) : Nat := holder * 4096 + w

def State.takeHold (s : State) (holder w o idx v : Nat) : State := s.setHolds (insertAt s.holds (holdKey holder w) ⟨o, idx, v⟩)

/-- The value the store was last filled from, when it was this one. -/
def State.heldValue (s : State) (holder w o idx : Nat) : Option Nat :=
  match s.holds.find? (·.1 == holdKey holder w) with
  | some (_, h) => if h.ofs = o ∧ h.idx = idx then some h.val else none
  | none => none

/-- A byte of a live value of `len` bytes at offset o (R10, R11). Taking the hold is no side effect in the sense of R9: the reads of
DESC_NCHILD take it, and reads of descriptor fields carry none. -/
def State.liveByte (s : State) (holder w o len idx ofs v : Nat) : State × Nat :=
  if ofs = o then (s.takeHold holder w o idx v, byteOf v len 0)
  else match s.heldValue holder w o idx with
    | some h => (s, byteOf h len (ofs - o))
    | none => (s, byteOf v len (ofs - o))

/-- A byte of a tally (R14, R98). `quiet` withholds the snapshot; `spec` is the speculative mark, which SPEC_HIT reports. -/
def State.tallyByte (s : State) (init holder w : Nat) (f : Field) (idx ofs : Nat) (quiet spec : Bool) : State × Nat :=
  let v := s.rd w f idx
  let b := ofs - f.ofs
  if quiet then (if b = 0 then s.specHit init (w * 4096 + ofs) spec else s, byteOf v f.len b)
  else if b = 0 then ((s.takeHold holder w f.ofs idx v).wr w f 0 idx, byteOf v f.len 0)
  else match s.heldValue holder w f.ofs idx with
    | some h => (s, byteOf h f.len b)
    | none => (s, 0)

/-! ## One byte -/

/-- The RS registers. -/
def State.popByte (s : State) (init w ofs : Nat) (spec : Bool) : Option (State × List Nat) :=
  match clsOf w with
  | .root => if ofs = 0x140 then some (spoilPop init spec s) else if ofs = 0x160 then some (troublePop init spec s) else none
  | .can => if ofs = 0x1AC then some (fifoPop init (instOf w) 0 spec s) else if ofs = 0x1BC then some (fifoPop init (instOf w) 1 spec s) else none
  | .stamp => if ofs = 0x180 then some (txqPop init spec s) else if ofs = 0x1A0 then some (missPop init spec s) else none
  | .attest => if ofs = 0x144 then some (s.trmRead init spec) else none
  | _ => none

/-- A byte of an entry view: the content in force, or with NEXT 1 the next Bench's (R498). -/
def State.viewByte (s : State) (v : ViewTab) (ofs : Nat) : Nat :=
  let i := s.selected v
  let g := if s.on v.win v.next then 1 - s.genOf v.win else s.genOf v.win
  (viewFields v.win i).foldl (fun a f => if f.ofs ≤ ofs ∧ ofs < f.ofs + f.len then
    a ||| (s.ent g v.win f i * 2 ^ f.lo / 256 ^ (f.ofs + f.len - 1 - ofs) % 256) else a) 0

/-- The read of a byte of a window that is assigned and, beyond its descriptor, not OFF. `holder` names the store of R11 and R14. ENG_BUSY
is the share of time the model does not count, and what drives WAKE_IO from outside is not the module's: free values. -/
def State.byteRead (s : State) (init holder w ofs : Nat) (u : Unit) (spec : Bool) : State × Nat :=
  if ofs = 0x12 ∨ ofs = 0x13 then
    (if w = wDerrick then s.liveByte holder w 0x12 2 0 ofs (s.nchild w) else (s, byteOf (s.nchild w) 2 (ofs - 0x12)))
  else if ofs < 0x20 then (s, s.descByte init w ofs u)
  else match s.popByte init w ofs spec with
    | some r => (r.1, r.2.headD 0)
    | none =>
      match viewAt w ofs with
      | some v => (s, s.viewByte v ofs)
      | none =>
        match regElems w ofs with
        | [] => (s, 0)
        | (f, k) :: r =>
          let idx := s.selOf w ofs
          let o := (regSpan w ofs).1
          let e := (regSpan w ofs).2
          if f.acc = .tally then s.tallyByte init holder w f idx ofs (s.specRead init w spec) spec
          else if o < e ∧ ((f, k) :: r).any (fun x => x.1.live) then s.liveByte holder w o (e + 1 - o) idx ofs (s.regReads w ofs)
          else if clsOf w = .engine ∧ ofs = 0x140 then (s.draw.2, s.draw.1.toNat % 256)
          else if w = wSup ∧ ofs = SUP_PINS.WAKE.ofs then
            let high := s.wioDriven
            let t := if high then s else s.draw.2
            (t, putBits (s.regReads w ofs) 3 3 (if high then 1 else s.draw.1.toNat))
          else (s, byteOf (s.regReads w ofs) (e + 1 - o) (ofs - o))

end Sys2Proof.Machine
end

