-- ==== Sys2Proof/Machine/UpdateOps.lean ====
section
/-! DEFINITION. The update group as operations (R415 to R425): packages, the staging area, the forwarding of blocks, arming, the activation
steps, confirmation and fallback. -/

namespace Sys2Proof.Machine

/-! ## The flash (R107) -/

/-- First byte and size of a region of the flash. -/
def flashTrust : Nat × Nat := (0x0000000, 0x0100000)
def flashBank (b : Nat) : Nat × Nat := (0x0100000 + 0x0800000 * b, 0x0800000)
def flashSlot (k : Nat) : Nat × Nat := (0x1100000 + 0x0800000 * (k - 1), 0x0800000)
def flashStaging : Nat × Nat := (0x2100000, 0x1F00000)

/-- The module never reads or writes the flash from here on. -/
def flashEnd : Nat := 0x4000000

/-- Block k of a package lies here in the staging area. -/
def stagedAt (k : Nat) : Nat := flashStaging.1 + 4096 * k

/-! ## Packages (R417, R110) -/

def fwMagic : Nat := 0x565A4657

/-- Entry k of a set's directory. -/
def dirEntry (b : List Nat) (k : Nat) : FwImage :=
  let o := 0x20 + 64 * k
  { ty := beAt b o 1, version := beAt b (o + 4) 4, ofs := beAt b (o + 8) 4, len := beAt b (o + 12) 4, sha := beAt b (o + 16) 48 }

/-- The set that block 0 of a package describes. -/
def parseSet (b : List Nat) : FwSet :=
  { raise := bit (beAt b 5 1) 7, svn := beAt b 6 2, seq := beAt b 8 4, images := (List.range (beAt b 0x10 1)).map (dirEntry b) }

/-- The end of the last region that the header and the directory name. -/
def setLength (b : List Nat) : Nat :=
  let ends := (parseSet b).images.map fun x => x.ofs + x.len
  (ends ++ [beAt b 0x14 4 + 96, beAt b 0x18 4 + beAt b 0x1C 4]).foldl max (0x20 + 64 * beAt b 0x10 1)

/-- Why block 0 of a package is not acceptable: its cause. -/
def State.packageFault (s : State) (kind : Nat) (b : List Nat) : Option Nat :=
  let n := beAt b 0x10 1
  let set := beAt b 0 4 == fwMagic && beAt b 4 1 == 1 && beAt b 0xC 4 == partId && 1 ≤ n && n ≤ 11 && setLength b ≤ (flashBank 0).2
  let image := beAt b 0 4 == imageMagic && beAt b 4 1 == 1 && beAt b 0x3C 4 == partId && slotOffset (beAt b 8 4) ≤ (flashSlot 1).2
  let header := if kind = 0 then set else kind == 1 && image
  let svn := if kind = 0 then beAt b 6 2 else beAt b 0x10 2
  let floor := if kind = 0 then s.rd wUpd UPD_FLOOR.FW else s.rd wUpd UPD_FLOOR.CFG
  if !header then some 1 else if svn < floor then some 2 else if s.lcState = lcScrap then some 3 else none

/-- What rejects a set's directory; a set without TYPE 1 or 2 is never installed. -/
def directoryBad (f : FwSet) : Bool :=
  let tys := f.images.map (·.ty)
  f.images.any (fun x => x.len == 0 || x.ty == 0 || 11 < x.ty) || dedup tys != tys || !tys.contains 1 || !tys.contains 2

/-- STG_REJ with its cause. -/
def State.stgReject (s : State) (cause : Nat) : State :=
  ((s.sticky wUpd UPD_STG_STAT.STG_REJ).wr wUpd UPD_STG_STAT.CAUSE cause).event wUpd 3

/-- The staged data are discarded. -/
def State.stgDiscard (s : State) : State := (s.setUpd { s.upd with stored := 0, head := [] }).setStg stgIdle

/-- The end of a block as an item. -/
def State.endBlock (s : State) (b : UpdBlock) (d : Disp) (reason : Nat) : State :=
  let s := match d with
    | .delivered | .untimed => s.count wUpd UPD_BLK_OK.COUNT
    | .dropped => s.count wUpd UPD_BLK_DROP.COUNT
    | .failed => s.count wUpd UPD_BLK_FAIL.COUNT
  s.endOther wUpd d reason .updBlock (b.port.getD noPort) noPort

/-- The staging table for a block, and whether the block is stored or forward-only. An end block stores nothing. -/
def State.stageBlock (s : State) (b : UpdBlock) (flashOk : Bool) : State × Bool :=
  let st := s.stg
  let last := b.data == []
  if st = stgIdle then
    if b.blk ≠ 0 then (s, false)
    else match s.packageFault b.kind b.data with
      | some c =>
        let s := ((s.endBlock b .dropped 0xA5).stgReject c).setUpd { s.upd with stream := b.stream }
        (if last then s else s.setStg stgForward, true)
      | none =>
        if !flashOk then (s.endBlock b .failed 0xA3, false)
        else
          let s := s.endBlock b .delivered 0
          ((s.setUpd { s.upd with stream := b.stream, kind := b.kind, stored := 1, head := b.data }).setStg stgReceiving, true)
  else if b.stream ≠ s.upd.stream then (s.endBlock b .dropped 0xA2, true)
  else if st = stgReceiving then
    if last then (if b.blk = s.upd.stored then (s.setStg stgVerifying, true) else (s.stgDiscard.stgReject 6, false))
    else if b.blk ≠ s.upd.stored then (s.endBlock b .dropped 0xA1, false)
    else if !flashOk || decide (flashEnd < stagedAt (b.blk + 1)) then ((s.endBlock b .failed 0xA3).stgDiscard, false)
    else
      let s := s.endBlock b .delivered 0
      (s.setUpd { s.upd with stored := s.upd.stored + 1 }, true)
  else if st = stgForward then
    let s := s.endBlock b .dropped 0xA5
    (if last then s.setStg stgIdle else s, true)
  else (s, false)

/-! ## Blocks on their way (R418, R448) -/

/-- A block without its CRC, as R448 serialises it. -/
def blockBytes (b : UpdBlock) : List Nat := toBytes b.stream 2 ++ toBytes b.blk 4 ++ [b.kind] ++ toBytes b.data.length 2 ++ b.data

def blockCrcOk (b : UpdBlock) : Bool := crc32c 0xFFFFFFFF (blockBytes b) == b.crc

/-- A list in pieces of k, at most n of them. -/
def pieces (k : Nat) : Nat → List Nat → List (List Nat)
  | 0, _ => []
  | _, [] => []
  | n + 1, l => l.take k :: pieces k n (l.drop k)

/-- KMP carries update frames to this port. -/
def State.updPeer (s : State) (n : Nat) : Bool := s.peerState n == psUp && s.feature n 2

/-- A block goes out in segments; to a peer that is not there it is lost, and is sent again. -/
def State.sendBlock (s : State) (n : Nat) (b : UpdBlock) : State :=
  if !s.updPeer n then s
  else
    let l := blockBytes b ++ toBytes b.crc 4
    let k := max 1 (min (min (s.rd wDerrick DRK_SEG.SEG) (s.peer n).maxSeg) (s.segRoom n))
    let ps := pieces k l.length l
    s.each ((List.range ps.length).zip ps) fun s (i, p) => s.kmpPush n ⟨kmpUpdSeg, 0, 0, 0, 0, toBytes (i * k) 2 ++ toBytes l.length 2 ++ p⟩

/-- The downstream port, none at the end of the chain. -/
def State.downPort (s : State) : Option Nat :=
  let n := s.rd wUpd UPD_CHAIN.DOWN
  if n < 16 then some n else none

/-- The oldest block that waits is sent, while fewer than 8 are unacknowledged. -/
def State.forwardOne (s : State) : State :=
  match s.downPort, s.upd.fwd.find? (·.sends == 0) with
  | some n, some x =>
    if 8 ≤ (s.upd.fwd.filter (·.sends != 0)).length then s
    else
      let i := s.upd.fwd.findIdx (·.sends == 0)
      (s.setUpd { s.upd with fwd := setAt s.upd.fwd i { x with sends := 1, sentAt := s.clk } }).sendBlock n x.block
  | _, _ => s

def State.forwardFlow (s : State) : State := iter State.forwardOne 8 s

/-- A block is forwarded once; nothing more of a stream that was given up. -/
def State.forwardBlock (s : State) (b : UpdBlock) : State :=
  let u := if b.blk = 0 then { s.upd with dead := dropFrom s.upd.dead b.stream } else s.upd
  if s.downPort.isNone || u.dead.contains b.stream then s
  else (s.setUpd { u with fwd := u.fwd ++ [⟨b, 0, 0⟩] }).forwardFlow

/-- The acknowledgement upstream: every block below it is stored or forward-only. -/
def State.ackBlock (s : State) (b : UpdBlock) (covered : Bool) : State :=
  let p := look s.upd.passed b.stream 0
  let q := if !covered then p else if b.blk = 0 then 1 else if b.blk = p then p + 1 else p
  let s := s.setUpd { s.upd with passed := store s.upd.passed b.stream q 0 }
  match b.port with
  | some n => if s.updPeer n then s.kmpPush n ⟨kmpUpdAck, 0, 0, 0, 0, toBytes b.stream 2 ++ toBytes q 4⟩ else s
  | none => s.setLeg { s.leg with updAck := q % 2 ^ 32 }

/-- R419 for one block. -/
def State.takeBlock (s : State) (b : UpdBlock) (flashOk : Bool) : State :=
  if !blockCrcOk b then s.endBlock b .dropped 0xA0
  else
    let r := s.stageBlock b flashOk
    (r.1.forwardBlock b).ackBlock b r.2

/-- A stream is given up: its forwarded blocks end failed. -/
def State.streamDead (s : State) (k : Nat) : State :=
  let gone := s.upd.fwd.filter fun x => x.block.stream == k
  let s := s.setUpd { s.upd with fwd := s.upd.fwd.filter (fun x => x.block.stream != k), dead := addTo s.upd.dead k }
  (s.each gone fun s x => s.endBlock x.block .failed 0xA4).forwardFlow

/-! ## Installation and arming (R420, R421) -/

/-- The bank that is not committed. -/
def State.spareBank (s : State) : Nat := 1 - s.rd wUpd UPD_FW_STAT.BANK

def UpdSt.putBank (u : UpdSt) (b : Nat) (f : Option FwSet) : UpdSt :=
  if b = 0 then { u with bankA := f, badA := false } else { u with bankB := f, badB := false }

/-- The configuration slot that is not active. -/
def State.spareSlot (s : State) : Nat := if s.rd wUpd UPD_CFG_STAT.SLOT = 1 then 2 else 1

def State.onTrial (s : State) : Bool := s.on wUpd UPD_FW_STAT.TRIAL

/-- ACT_TIME in nanoseconds. -/
def State.actTime (s : State) : Nat := s.rd wUpd UPD_ACT_TIME.SEC * 1000000000 + s.rd wUpd UPD_ACT_TIME.NS

def State.targeted (s : State) (ty : Nat) : Bool := bit (s.rd wUpd UPD_ACT_TGT.TYPES) (ty - 1)

/-- R421. -/
def State.mayArm (s : State) : Bool :=
  let inPack := fun ty => s.upd.kind == 0 && (match s.upd.bankSet s.spareBank with
    | some f => f.images.any fun x => x.ty == ty
    | none => false)
  s.stg == stgInstalled && (List.range 11).all (fun k => !s.targeted (k + 1) || inPack (k + 1)) &&
    (!s.on wUpd UPD_ACT_TGT.CFG || s.upd.kind == 1) && !s.onTrial && s.ax0Ns + 1000000 ≤ s.actTime

/-- The steps of R422 in their order. -/
def State.actSteps (s : State) : List ActStep :=
  let t := s.targeted
  let shadow := [8, 9, 10].filter t
  let ports := (List.range 16).filter fun p => bit (s.rd wUpd UPD_ACT_PORTS.PORTS) p && t (if p < 6 then 7 else 6)
  (if t 2 then [.fs] else []) ++ (if t 4 then (List.range 6).map .gcm else []) ++ (if t 5 then (List.range 4).map .cmac else []) ++
    (if t 3 then (List.range 4).map .se else []) ++ (if shadow = [] then [] else [.canLin shadow]) ++ ports.map .phy ++
    (if t 1 then [.mp] else []) ++ (if s.on wUpd UPD_ACT_TGT.CFG then [.cfg] else [])

/-! ## Activation steps (R415, R416, R422, R423) -/

/-- The bank that the running sequence activates from: the installed one, or in a fallback the committed one. -/
def State.actBank (s : State) : Nat := if s.upd.reverse then 1 - s.spareBank else s.spareBank

/-- A TYPE runs from the bank of the sequence. -/
def State.typeRuns (s : State) (ty : Nat) : State :=
  let b := s.actBank
  s.setUpd { s.upd with running := insertAt s.upd.running ty ⟨b, (s.upd.imageIn b ty).1, (s.upd.imageIn b ty).2⟩ }

def State.fwFail (s : State) : State := s.sticky wUpd UPD_FW_STAT.FW_FAIL

/-- An image has been written into a unit in place; its check may fail. -/
def State.inPlace (s : State) (ty w : Nat) (fails : List Nat) : State :=
  if fails.contains ty then (s.setUpd { s.upd with recovery := addTo s.upd.recovery w }).fwFail
  else (s.setUpd { s.upd with recovery := dropFrom s.upd.recovery w }).typeRuns ty

/-- The bank each port of a TYPE runs from, before the TYPE is recorded under another. -/
def State.keepPorts (s : State) (ty : Nat) : State :=
  match s.upd.running.find? (·.1 == ty) with
  | none => s
  | some (_, r) => s.setUpd { s.upd with
      portBank := (dspPorts ty).foldl (fun t p => if t.any (·.1 == p) then t else insertAt t p r.bank) s.upd.portBank }

/-- The DSP of a port is rewritten and the port retrains. -/
def State.dspStep (s : State) (p : Nat) (fails : List Nat) : State :=
  let ty := if p < 6 then 7 else 6
  let s := (s.keepPorts ty).inPlace ty (wEth p) fails
  let s := if fails.contains ty then s else s.setUpd { s.upd with portBank := insertAt s.upd.portBank p s.actBank }
  retrain p s

/-- What a step does as it begins: MP restarts as in an MPWARM reset, and outside a fallback the trial starts. -/
def State.beginStep (s : State) : State :=
  match s.upd.todo with
  | .mp :: _ =>
    let s := s.mpWarm.typeRuns 1
    if s.upd.reverse then s
    else (s.setUpd { s.upd with trialBank := s.actBank, built := [] }).wr wUpd UPD_FW_STAT.TRIAL 1
  | _ => s

/-- The next step begins. -/
def State.nextStep (s : State) : State :=
  match s.upd.todo with
  | [] => s
  | x :: r => (s.setUpd { s.upd with todo := r, ran := s.upd.ran ++ [x] }).beginStep

/-- The end of a step that loads firmware; none while MP has not resumed. -/
def State.endFwStep (s : State) (x : ActStep) (fails : List Nat) : Option State :=
  match x with
  | .fs =>
    some (if fails.contains 2 then s.fwFail
      else (s.setUpd { s.upd with recovery := dropFrom (dropFrom s.upd.recovery 0x013) 0x014 }).typeRuns 2)
  | .gcm k => some (s.inPlace 4 (wGcm k) fails)
  | .cmac k => some (s.inPlace 5 (wCmac k) fails)
  | .se k =>
    let s := s.inPlace 3 (wSE k) fails
    some (s.setUpd { s.upd with seEnd := store s.upd.seEnd k s.clk 0 })
  | .canLin l => some (s.each l fun s ty => if fails.contains ty then s.fwFail else s.typeRuns ty)
  | .phy p => some (s.dspStep p fails)
  | .mp =>
    if fails.contains 1 then some (s.setUpd { s.upd with recovery := addTo s.upd.recovery wMP }).fwFail
    else if s.pwr.mpRun then some s else none
  | .cfg => none

/-- A sequence starts. -/
def State.runSteps (s : State) (l : List ActStep) (reverse : Bool) : State :=
  (s.setUpd { s.upd with todo := l, ran := [], reverse := reverse, newImage := none }).beginStep

/-! ## Trial (R424, R425) -/

/-- Every cyclic entry in RUN has built since MP restarted. -/
def State.allBuilt (s : State) : Bool :=
  (s.validIn (s.genOf wPdu) wPdu PDU_ENTRY.VALID).all fun j =>
    tmplBase ≤ j || !s.pduRuns j || s.pdu (s.genOf wPdu) PDU_ENTRY.PERIOD j == 0 || s.upd.built.contains j

/-- The security version of the active configuration image. -/
def State.imageSvn (s : State) : Nat := if s.cfg.bare then 0 else beAt s.cfg.header 0x10 2

def State.confirmKinds (s : State) (init : Nat) : List Kind :=
  whenK (init != initMp) .privilege ++ whenK (s.onTrial && !s.allBuilt) .state

/-- CONFIRM: the trial bank is committed and the floors rise. Without a trial there is nothing to confirm. -/
def State.confirm (s : State) : State :=
  if !s.onTrial then s
  else
    let b := s.upd.trialBank
    let s := (s.wr wUpd UPD_FW_STAT.BANK b).wr wUpd UPD_FW_STAT.TRIAL 0
    let s := s.setUpd { s.upd with startSlot := 0, formerSlot := 0 }
    let s := match s.upd.bankSet b with
      | some f =>
        if f.raise then
          (s.wr wUpd UPD_FLOOR.FW (max (s.rd wUpd UPD_FLOOR.FW) f.svn)).wr wUpd UPD_FLOOR.CFG (max (s.rd wUpd UPD_FLOOR.CFG) s.imageSvn)
        else s
      | none => s
    (s.event wUpd 1).parkCheck

/-- The window expires: the steps run in reverse from the former bank. -/
def State.fallBack (s : State) : State :=
  if !s.onTrial then s
  else
    let s := (s.setUpd (s.upd.markBad s.upd.trialBank)).wr wUpd UPD_FW_STAT.TRIAL 0
    let s := (s.sticky wUpd UPD_FW_STAT.FALLBACK).event wUpd 2
    (s.runSteps s.upd.ran.reverse true).parkCheck

/-! ## Commands of UPD_FW_CTRL -/

def State.discard (s : State) : State :=
  if s.stg = stgStaged ∨ s.stg = stgInstalled ∨ s.stg = stgArmed then s.stgDiscard else s

def State.arm (s : State) : State := s.setStg stgArmed

def State.cancel (s : State) : State := if s.stg = stgArmed then s.setStg stgInstalled else s

/-- The window of the unit that UPD_REC names, none where its TYPE or instance is none of R415's. -/
def State.recWindow (s : State) : Option Nat :=
  let ty := s.rd wUpd UPD_REC.TYPE
  let k := s.rd wUpd UPD_REC.INST
  if ty = 3 ∧ k < 4 then some (wSE k) else if ty = 4 ∧ k < 6 then some (wGcm k) else if ty = 5 ∧ k < 4 then some (wCmac k)
  else if ty = 6 ∧ k < 10 then some (wEth (6 + k)) else if ty = 7 ∧ k < 6 then some (wEth k)
  else if ty = 8 ∧ k < 8 then some (wCan k) else if ty = 9 ∧ k < 8 then some (wCan (8 + k))
  else if ty = 10 ∧ k < 12 then some (wLin k) else none

/-- RECOVER starts a load; a TYPE or instance that names no unit makes it end at once. -/
def State.recover (s : State) : State := if s.recWindow.isSome then s.wr wUpd UPD_FW_CTRL.RECOVER 1 else s

/-- The load ends. One whose bank holds no such image fails as one whose check does. -/
def State.recovered (s : State) (ok : Bool) : State :=
  if !s.on wUpd UPD_FW_CTRL.RECOVER then s
  else
    let s := s.wr wUpd UPD_FW_CTRL.RECOVER 0
    match s.recWindow with
    | none => s
    | some w =>
      let ty := s.rd wUpd UPD_REC.TYPE
      let b := s.rd wUpd UPD_REC.BANK
      let there := match s.upd.bankSet b with
        | some f => f.images.any fun x => x.ty == ty
        | none => false
      let shadow := 8 ≤ ty
      if !ok || !there then (if shadow then s else s.setUpd { s.upd with recovery := addTo s.upd.recovery w }).fwFail
      else
        let s := s.setUpd { s.upd with recovery := dropFrom s.upd.recovery w }
        if clsOf w = .eth then retrain (instOf w) ((s.keepPorts ty).setUpd { (s.keepPorts ty).upd with portBank := insertAt (s.keepPorts ty).upd.portBank (instOf w) b }) else s

end Sys2Proof.Machine
end

