-- ==== Sys2Proof/Machine/RegAccess.lean ====
section
/-! DEFINITION. A register access as a whole (R79, R81, R87, R438): the check of every byte before the first takes effect, the bytes in
ascending order, and the accesses that go to a peer through a remote window. -/

namespace Sys2Proof.Machine

/-! ## What the cards say of the remaining registers -/

/-- UPD (R419, R421, R423, R424). TYPE 0x0B is never targeted. -/
def State.updAct (s : State) (init w o v : Nat) : Act :=
  if o = 0x141 then s.cmdReg w o v
    [(UPD_FW_CTRL.CONFIRM, s.confirmKinds init, State.confirm), (UPD_FW_CTRL.DISCARD, [], State.discard),
     (UPD_FW_CTRL.ARM, whenK (!s.mayArm) .state, State.arm), (UPD_FW_CTRL.CANCEL, [], State.cancel),
     (UPD_FW_CTRL.RECOVER, [], State.recover)]
  else if o = 0x148 then s.plainAct w o (putBits v 10 10 0) (s.stg == stgArmed)
  else s.plainAct w o v ((o == 0x14A || o == 0x14C) && s.stg == stgArmed)

/-- UNIT_CTRL (R87, R494). -/
def State.unitCtrlAct (s : State) (init w v : Nat) : Act :=
  let a := s.commonAct init w 0x020 v
  if bit v 7 then
    ⟨a.kinds ++ whenK (init != initMp && s.on w UNIT_CTRL.LOCK) .locked ++ whenK (s.on w UNIT_CTRL.URST) .cmdBusy,
      fun s => ((a.run s).unitReset w false).urstSettle⟩
  else a

/-- The card of the register at an offset, whatever its class. -/
def State.fullAct (s : State) (init w o v : Nat) : Act :=
  if o = 0x020 then s.unitCtrlAct init w v
  else if o < 0x100 then s.regAct init w o v
  else match clsOf w with
    | .upd => s.updAct init w o v
    | .derrick => s.drkAct w o v
    | _ => s.regAct init w o v

/-- A byte of a write to a window of the map. -/
def State.localByte (s : State) (init w ofs b : Nat) : Act := s.byteActBy (s.fullAct init w) init w ofs b

/-- What the byte is refused for. -/
def State.byteKind (s : State) (init w ofs b : Nat) : Option Kind :=
  if s.writeIgnored w ofs then none else firstKind (s.commonKinds init w ofs ++ (s.localByte init w ofs b).kinds)

/-- A byte that only enters a write buffer, as the check of a whole access sees it. -/
def State.preByte (s : State) (w ofs b : Nat) : State :=
  match viewAt w ofs with
  | some v => s.bufBytes v ofs [b]
  | none => if ofs < (regSpan w ofs).2 && !(regFields w ofs).isEmpty then s.hold w ofs b else s

/-- The lowest byte of the access that is refused: its offset, its data, the kind (R81). -/
def State.writeFault (s : State) (init w : Nat) : List (Nat × Nat) → Option (Nat × Nat × Kind)
  | [] => none
  | (ofs, b) :: r => match s.byteKind init w ofs b with
    | some k => some (ofs, b, k)
    | none => (s.preByte w ofs b).writeFault init w r

/-- The refused byte of the access stages an entry that would exceed a list (R122). -/
def State.writeFull (s : State) (init w : Nat) : List (Nat × Nat) → Bool
  | [] => false
  | (ofs, b) :: r => match s.byteKind init w ofs b with
    | some _ => (match viewAt w ofs with
      | some v => ofs == v.commit && ((s.bufBytes v ofs [b]).bufFit v).viewOnlyFull init v
      | none => false)
    | none => (s.preByte w ofs b).writeFull init w r

/-- A refused offer of an epoch is remembered (R284). -/
def State.refusedByte (s : State) (init w ofs b : Nat) (k : Kind) : State :=
  let s := if w = wAuth ∧ ofs = 0x144 ∧ k = .state ∧ s.writeOpen init w ofs ∧ !s.isSafe w ∧ !s.epochNew (s.merged w 0x141 0x144 b % 2 ^ 24)
    then s.sticky w AUTH_STAT.EPOCH_LOW else s
  s.violate w init k true (w * 4096 + ofs) b

/-- One byte takes effect. -/
def State.applyByte (s : State) (init w ofs b : Nat) : State :=
  if s.writeIgnored w ofs then s
  else
    let t := (s.localByte init w ofs b).run s
    if ofs = (regSpan w ofs).2 ∨ (viewAt w ofs).isSome then t.freshParity w ofs else t

/-- A write to a window of the map; the answer says whether it was carried out. -/
def State.localWrite (s : State) (init w : Nat) (l : List (Nat × Nat)) : State × Bool :=
  match s.writeFault init w l with
  | some (ofs, b, k) => ((s.when (s.writeFull init w l) fun s => s.sticky wTables TBL_STAT.STG_FULL).refusedByte init w ofs b k, false)
  | none => (s.each l fun s x => s.applyByte init w x.1 x.2, true)

/-! ## Reads -/

/-- R399: TRM_CMD, TRM_PTR and TRM_LEN while another initiator holds the buffer. -/
def trmGuarded (ofs : Nat) : Bool := ofs == 0x140 || (0x142 ≤ ofs && ofs < 0x144) || (0x146 ≤ ofs && ofs < 0x148)

/-- What a read of a byte is refused for (R399, R411). -/
def State.readKinds (s : State) (init w ofs : Nat) : List Kind :=
  whenK (init == initJtag && s.debugLevel < 1) .lifecycle ++ whenK (w == wAttest && ((ofs == 0x144 && s.trmOwner != init) || (trmGuarded ofs && s.trmOwner != 0 && s.trmOwner != init))) .state

/-- The byte is served: the window is assigned and, beyond its descriptor, not OFF (R38, R39). -/
def State.served (s : State) (w ofs : Nat) : Bool := (unitOf w).isSome && (ofs < 0x20 || s.unitState w != usOff)

def State.readFault (s : State) (init w : Nat) (l : List Nat) : Option (Nat × Kind) :=
  l.findSome? fun ofs => if s.served w ofs then (firstKind (s.readKinds init w ofs)).map (ofs, ·) else none

/-- One byte of a window of the map. -/
def State.readByte (s : State) (init holder w ofs : Nat) (spec : Bool) : State × Nat :=
  match unitOf w with
  | none => (s, 0)
  | some u => if s.served w ofs then s.byteRead init holder w ofs u spec else (s, 0)

/-- Bytes read one after the other. -/
def State.readBytes (s : State) (init holder w : Nat) (spec : Bool) : List Nat → State × List Nat
  | [] => (s, [])
  | ofs :: r =>
    let a := s.readByte init holder w ofs spec
    let b := a.1.readBytes init holder w spec r
    (b.1, a.2 :: b.2)

/-- A read of a window of the map; no data where it is refused. -/
def State.localRead (s : State) (init holder w : Nat) (l : List Nat) (spec : Bool) : State × Option (List Nat) :=
  match s.readFault init w l with
  | some (ofs, k) => (s.violate w init k false (w * 4096 + ofs) 0, none)
  | none =>
    let r := s.readBytes init holder w spec l
    (r.1, some r.2)

/-! ## Accesses of a face, MP or the debug port -/

/-- The offsets of an access of n bytes. -/
def offsets (ofs n : Nat) (fix : Bool) : List Nat := if fix then List.replicate n ofs else (List.range n).map (ofs + ·)

/-- An access that the face cannot carry is recorded once; for a remote window in Derrick's (R81, R87). -/
def State.shapeRefused (s : State) (init addr : Nat) (isWrite : Bool) (data : Nat) : State :=
  let w := addr / 4096
  if isRemote w then s.violate wDerrick init .shape isWrite addr data
  else if (unitOf w).isNone then s else s.violate w init .shape isWrite addr data

def crosses (addr n : Nat) (fix : Bool) : Bool := !fix && decide (4096 < addr % 4096 + n)

/-- A byte of DESC_DRV of a mapped remote window: the second commits both (R49, R435). -/
def State.remoteDrv (s : State) (w origin : Nat) (x : Nat × Nat) : State :=
  if x.1 = 8 then s.hold w 8 x.2
  else if x.1 = 9 then
    let maj := if s.heldByte w 8 < 256 then s.heldByte w 8 else s.rd w DESC_DRV.DRV_MAJ
    (s.remoteHandshake w origin (maj * 256 + x.2)).dropHeld w 8 9
  else s

/-- A write to a remote window (R435, R436): the descriptor here, the rest at the peer. An unmapped one is unassigned, and the debug port
reaches none. -/
def State.remoteWriteAll (s : State) (init w : Nat) (l : List (Nat × Nat)) : State × Bool :=
  let i := mapIdx w
  match originOf init with
  | none => (s, true)
  | some origin =>
    if !s.mapOn i then (s, true)
    else
      let far := l.filter fun x => 0x20 ≤ x.1
      match far with
      | [] => (s.each l fun s x => s.remoteDrv w origin x, true)
      | (o, b) :: _ =>
        if !s.remoteReady i then (s.violate wDerrick init .state true (w * 4096 + o) b, false)
        else ((s.each (l.filter fun x => x.1 < 0x20) fun s x => s.remoteDrv w origin x).remoteWrite i origin o (far.map (·.2)), true)

/-- A write of some bytes from an address on. -/
def State.writeAccess (s : State) (init addr : Nat) (fix : Bool) (data : List Nat) : State × Bool :=
  let w := addr / 4096
  let l := (offsets (addr % 4096) data.length fix).zip data
  if isRemote w then s.remoteWriteAll init w l else s.localWrite init w l

/-- How a read is answered. -/
inductive ReadAns where
  | data (l : List Nat)
  | refused
  | waits
  deriving DecidableEq, Repr

/-- A read of a remote window: the data of its descriptor or of a held block, or a READ under way. -/
def State.remoteReadAll (s : State) (init w : Nat) (why : ReadFor) (l : List Nat) (spec : Bool) : State × ReadAns :=
  let i := mapIdx w
  match originOf init with
  | none => (s, .data (l.map fun _ => 0))
  | some origin =>
    if !s.mapOn i then (s, .data (l.map fun _ => 0))
    else
      let pre := (l.filter (· < 0x20)).map (s.remoteDesc w)
      match l.filter (0x20 ≤ ·) with
      | [] => (s, .data pre)
      | o :: r =>
        if !s.remoteReady i then (s.violate wDerrick init .state false (w * 4096 + o) 0, .refused)
        else
          let x := s.remoteRead why i origin o (r.length + 1) pre spec
          (x.1, match x.2 with
            | some d => .data d
            | none => .waits)

/-- A read of n bytes from an address on. -/
def State.readAccess (s : State) (init addr n : Nat) (fix : Bool) (why : ReadFor) (spec : Bool) : State × ReadAns :=
  let w := addr / 4096
  let l := offsets (addr % 4096) n fix
  if isRemote w then s.remoteReadAll init w why l spec
  else
    let r := s.localRead init init w l spec
    (r.1, match r.2 with
      | some d => .data d
      | none => .refused)

/-! ## The commands that stand for one byte -/

/-- R5: a byte written by an initiator. -/
def regWrite (init addr b : Nat) (s : State) : State :=
  if !s.reaches init then s
  else
    let r := s.writeAccess init addr false [b]
    if r.2 then r.1 else r.1.endAccess init

def execRegisterWrite (init : Initiator) (addr : Addr) (b : Byte) (s : State) : Result :=
  .next (regWrite init.code addr.toNat b.toNat (fresh s))

/-- A byte read by an initiator. A read of a remote window is MP's: those of the faces are commands of their own. -/
def byteReads (init addr : Nat) (spec : Bool) (s : State) : State :=
  if !s.reaches init || (isRemote (addr / 4096) && init != initMp) then s
  else
    let r := s.readAccess init addr 1 false .mp spec
    match r.2 with
    | .data d => r.1.emit (.readData init d)
    | .refused => (r.1.endAccess init).emit (.readData init [0])
    | .waits => r.1

/-- The byte is the most significant of a live value, or may be one at the peer. -/
def liveMsb (w ofs : Nat) : Bool :=
  isRemote w || (w == wDerrick && ofs == 0x12) ||
    (ofs == (regSpan w ofs).1 && ofs < (regSpan w ofs).2 && (regFields w ofs).any fun f => f.live)

/-- The byte is the most significant of a tally, or may be one at the peer. -/
def tallyMsb (w ofs : Nat) : Bool := isRemote w || (regFields w ofs).any fun f => f.acc == .tally && f.ofs == ofs

/-- R10, R11. -/
def liveRead (init addr : Nat) (s : State) : State := if liveMsb (addr / 4096) (addr % 4096) then byteReads init addr false s else s

def execLiveValueMsbRead (init : Initiator) (addr : Addr) (s : State) : Result := .next (liveRead init.code addr.toNat (fresh s))

/-- R14, R15. -/
def tallyRead (init addr : Nat) (s : State) : State := if tallyMsb (addr / 4096) (addr % 4096) then byteReads init addr false s else s

def execTallySnapshotRead (init : Initiator) (addr : Addr) (s : State) : Result := .next (tallyRead init.code addr.toNat (fresh s))

/-- R9, R98. -/
def execSpeculativeRead (init : Initiator) (addr : Addr) (s : State) : Result := .next (byteReads init.code addr.toNat true (fresh s))

/-! ## Handshake (R49, R38) -/

/-- A driver writes both bytes of DESC_DRV. -/
def driverVersion (init w maj min : Nat) (s : State) : State :=
  if !s.reaches init then s
  else
    let r := s.writeAccess init (w * 4096 + 8) false [maj, min]
    if r.2 then r.1 else r.1.endAccess init

def execInterfaceHandshake (init : Initiator) (w : BitVec 12) (maj min : Byte) (s : State) : Result :=
  .next (driverVersion init.code w.toNat maj.toNat min.toNat (fresh s))

/-! ## Fan-out (R42 to R44) -/

def execFanoutStart (init : Initiator) (grp : BitVec 12) (data : Byte) (s : State) : Result :=
  let w := grp.toNat
  .next (if isGroup w then (fresh s).cmdWrite init.code w 0x104 data.toNat
      (whenK ((fresh s).fanBusy w) .fanoutBusy ++ whenK ((fresh s).isSafe w) .state) fun s => s.fanStart init.code w data.toNat
    else fresh s)

/-- The window takes the fan-out's byte. One in OFF is skipped, a refusal sets REJ and is recorded in REJWIN when that is empty. -/
def fanWindow (w : Nat) (s : State) : State :=
  match s.fans.find? (·.grp == w) with
  | none => s
  | some f => match f.todo with
    | [] => s
    | v :: r =>
      let off := s.unitState v == usOff
      let put := fun (s : State) (g : Fanout) => s.setFans (s.fans.map fun x => if x.grp = w then g else x)
      let s := put s { f with todo := r, hits := if off then f.hits else f.hits + 1 }
      if off then s
      else
        let x := s.localWrite f.init v [(f.ofs, f.data)]
        if x.2 then x.1
        else
          let s := x.1.sticky w GRP_FANOUT_STAT.REJ
          if s.rd w GRP_FANOUT_REJWIN.REJWIN = 0 then s.wr w GRP_FANOUT_REJWIN.REJWIN v else s

def execFanoutWindowWrite (grp : BitVec 12) (s : State) : Result := .next (fanWindow grp.toNat (fresh s))

/-- BUSY falls once every write has been issued. -/
def fanDone (w : Nat) (s : State) : State :=
  match s.fans.find? (·.grp == w) with
  | some f =>
    if f.todo = [] then ((s.setFans (s.fans.filter (·.grp != w))).wr w GRP_FANOUT_STAT.BUSY 0).wr w GRP_FANOUT_HITS.HITS f.hits else s
  | none => s

def execFanoutComplete (grp : BitVec 12) (s : State) : Result := .next (fanDone grp.toNat (fresh s))

/-- A byte written to Derrick's map register at the entry DRK_MSEL names (R435). -/
def execDrkMapWrite (init : Initiator) (v : BitVec 32) (s : State) : Result :=
  let i := (fresh s).rd wDerrick DRK_MSEL.IDX
  .next ((fresh s).cmdWrite init.code wDerrick 0x167 (v.toNat % 256) ((fresh s).mapKinds i v.toNat) fun s => s.mapWrite i v.toNat)

end Sys2Proof.Machine
end

