-- ==== Sys2Proof/Machine/Faces.lean ====
section
/-! DEFINITION. The two faces of the host port (R92 to R99, R499): SPI frames, the write buffer, delayed reads, and PCIe memory requests. -/

namespace Sys2Proof.Machine

/-! ## SPI frames (R92 to R94) -/

def spiOk : Nat := 0x3C
def spiRetry : Nat := 0x5A
def spiError : Nat := 0xA5

/-- The face answers native frames. -/
def State.spiNative (s : State) : Bool := s.gxOn && !s.leg.framing

/-- A frame begins: the write before it is no longer the previous frame (R93). -/
def State.spiBegin (s : State) : State := s.setHost { s.host with spiPend := false }

/-- PREV of the next frame. -/
def State.spiEnd (s : State) (prev : Nat) : State := s.setHost { s.host with spiPrev := prev }

def State.spiShort (s : State) : State := s.sticky wHost HOST_STATUS.SPI_SHORT

/-- The bytes on SPI_MISO of a frame of n bytes: PREV, then what lies at its place. -/
def misoBytes (prev n : Nat) (at_ : Nat → Nat) : List Nat := (List.range n).map fun i => if i = 0 then prev else at_ i

/-- The status byte of the legacy framing (R466). -/
def State.xbStatus (s : State) : Nat :=
  b2n s.leg.ready * 128 + b2n s.leg.err * 64 + b2n s.leg.busy * 32 + s.rd wRoot XB_STAT.RST legacyIdx * 16 + 5

/-- What SPI_MISO carries in a legacy frame: the status, the address of the held read result, the result (R465). -/
def State.xbMiso (s : State) : List Nat :=
  let h := s.host.legacyRead.getD (0, 0)
  [s.xbStatus, h.1 % 256, h.2]

/-- A frame in the legacy framing that is not of 3 bytes is discarded whole; a read frame takes READY with it (R465, R466). -/
def State.legacyDiscard (s : State) (wr : Bool) (n : Nat) : State :=
  let s := s.emit (.xb (s.xbMiso.take n))
  s.spiShort.setLeg { s.leg with err := true, ready := s.leg.ready && wr }

/-- A frame of the native rows, of n bytes, that a face in legacy framing receives; a dead face answers nothing. -/
def State.spiForeign (s : State) (wr : Bool) (n : Nat) : State := if s.gxOn && s.leg.framing then s.legacyDiscard wr n else s

/-- A frame that ends before its address (R94). In the legacy framing frames of 1 to 3 bytes are those of the legacy rows. -/
def spiTooShort (n : Nat) (s : State) : State :=
  if !s.spiNative then (if n = 0 then s.spiForeign true 0 else s)
  else
    let prev := s.host.spiPrev
    ((s.spiBegin.spiShort).spiEnd spiError).emit (.spi (misoBytes prev n fun _ => 0))

def execSpiFrameTooShort (n : Fin 4) (s : State) : Result := .next (spiTooShort n (fresh s))

def spiCommand (wr fix : Bool) (len : Nat) : Nat := b2n wr * 128 + b2n fix * 64 + (len - 1)

def spiCrcOn (s : State) : Bool := s.on wHost HOST_SPI_CFG.CRC

/-- A write frame: `rest` are the bytes clocked after the address. DESIGN CHOICE: after a frame of the wrong length that was answered NOW RETRY,
because the buffer was full, PREV repeats RETRY, as R93 has it of every such frame; R94 gives ERROR to a wrong length. -/
def spiWrite (fix : Bool) (len addr : Nat) (rest : List Nat) (s : State) : State :=
  if !s.spiNative then s.spiForeign true (4 + rest.length)
  else
    let prev := s.host.spiPrev
    let crc := b2n (spiCrcOn s)
    let s := s.spiBegin
    let shape := crosses addr len fix
    let now := if shape then spiError else if 4 ≤ s.host.spiBuf.length then spiRetry else spiOk
    let s := if shape then s.shapeRefused initSpi addr true (rest.headD 0) else s
    let s := if shape && rest != [] then s.endAccess initSpi else s
    let wrong := rest.length != len + crc
    let bad := crc == 1 && crc8 (spiCommand true fix len :: toBytes addr 3 ++ rest.take len) != rest.getD len 0
    let s := if wrong then s.spiShort else if bad then s.sticky wHost HOST_STATUS.SPI_CRC else s
    let s := s.emit (.spi (misoBytes prev (4 + rest.length) fun i => if i = 4 then now else 0))
    if now != spiOk then s.spiEnd (if rest = [] then spiError else now)
    else if wrong || bad then s.spiEnd spiError
    else s.setHost { s.host with spiBuf := s.host.spiBuf ++ [⟨addr, fix, rest.take len⟩], spiPrev := spiOk, spiPend := true }

def execSpiWriteFrame (fix : Bool) (len : Fin 64) (addr : Addr) (rest : List Byte) (s : State) : Result :=
  .next (spiWrite fix (len + 1) addr.toNat (rest.map BitVec.toNat) (fresh s))

/-- The oldest frame of the write buffer is applied. -/
def spiApply (s : State) : State :=
  match s.host.spiBuf with
  | [] => s
  | x :: r =>
    let last := s.host.spiPend && r == []
    let s := s.setHost { s.host with spiBuf := r }
    let a := s.writeAccess initSpi x.addr x.fix x.data
    let s := if a.2 then a.1 else a.1.endAccess initSpi
    if last then s.setHost { s.host with spiPrev := if a.2 then spiOk else spiError, spiPend := false } else s

def execSpiWriteApply (s : State) : Result := .next (spiApply (fresh s))

/-! ### Reads (R94, R95) -/

/-- A write of the buffer that the read must not pass: to the same window (R79), or to the same peer (R443). -/
def State.writesAhead (s : State) (w : Nat) : Bool :=
  s.host.spiBuf.any fun x =>
    let v := x.addr / 4096
    v == w || (isRemote w && isRemote v && s.mapPeer (mapIdx v) == s.mapPeer (mapIdx w))

/-- What a read frame gets: NOW and its data, none for no bytes; `item`: the frame is a transaction that was refused. -/
structure SpiAns where
  now : Nat
  data : List Nat
  item : Bool

/-- A read frame whose address has been clocked and whose CRC matches. DESIGN CHOICE: a frame that crosses a window is refused with SHAPE
(R94) also while a delayed read holds its lease, where R95 gives any other read frame RETRY. -/
def State.spiReadNow (s : State) (fix : Bool) (len addr : Nat) (late : Bool) : State × SpiAns :=
  let zero := List.replicate len 0
  if crosses addr len fix then (s.shapeRefused initSpi addr false 0, ⟨spiError, zero, true⟩)
  else match s.host.delayed with
    | some d =>
      if d.addr = addr ∧ d.fix = fix ∧ d.len = len then
        match d.done with
        | none => (s, ⟨spiRetry, zero, false⟩)
        | some x =>
          (s.setHost { s.host with delayed := none }, match x with
            | some l => ⟨spiOk, l, false⟩
            | none => ⟨spiError, zero, false⟩)
      else (s, ⟨spiRetry, zero, false⟩)
    | none =>
      let begin := fun (s : State) => s.setHost { s.host with delayed := some ⟨addr, fix, len, none⟩ }
      if late || s.writesAhead (addr / 4096) then (begin s, ⟨spiRetry, zero, false⟩)
      else
        let r := s.readAccess initSpi addr len fix .spi false
        match r.2 with
        | .data l => (r.1, ⟨spiOk, l, false⟩)
        | .refused => (r.1, ⟨spiError, zero, true⟩)
        | .waits => (begin r.1, ⟨spiRetry, zero, false⟩)

/-- A read frame: `rest` are the bytes clocked after the address, `late` that the data are not ready when NOW begins. -/
def spiRead (fix : Bool) (len addr : Nat) (rest : List Nat) (late : Bool) (s : State) : State :=
  if !s.spiNative then s.spiForeign false (4 + rest.length)
  else
    let prev := s.host.spiPrev
    let crc := b2n (spiCrcOn s)
    let dummy := s.rd wHost HOST_SPI_CFG.DUMMY
    let s := s.spiBegin
    let whole := crc + dummy + 1 + len + crc
    let s := if rest.length = whole then s else s.spiShort
    let zero := List.replicate len 0
    if rest.length < crc then
      (s.spiEnd spiError).emit (.spi (misoBytes prev (4 + rest.length) fun _ => 0))
    else
      let bad := crc == 1 && crc8 (spiCommand false fix len :: toBytes addr 3) != rest.headD 0
      let r := if bad then (s.sticky wHost HOST_STATUS.SPI_CRC, SpiAns.mk spiError zero false) else s.spiReadNow fix len addr late
      let s := if r.2.item && crc + dummy < rest.length then r.1.endAccess initSpi else r.1
      let out := r.2.now :: r.2.data
      let out := out ++ (if crc = 1 then [crc8 out] else [])
      (s.spiEnd r.2.now).emit (.spi (misoBytes prev (4 + rest.length) fun i => if 4 + crc + dummy ≤ i then out.getD (i - (4 + crc + dummy)) 0 else 0))

def execSpiReadFrame (fix : Bool) (len : Fin 64) (addr : Addr) (rest : List Byte) (late : Bool) (s : State) : Result :=
  .next (spiRead fix (len + 1) addr.toNat (rest.map BitVec.toNat) late (fresh s))

/-- The READ of the delayed read is under way. -/
def State.spiReadOut (s : State) : Bool := (s.drk.reads ++ s.drk.readQ).any fun r => r.why == .spi

/-- The delayed read is performed. -/
def delayedRead (s : State) : State :=
  match s.host.delayed with
  | none => s
  | some d =>
    if d.done.isSome || s.spiReadOut || s.writesAhead (d.addr / 4096) then s
    else
      let r := s.readAccess initSpi d.addr d.len d.fix .spi false
      match r.2 with
      | .data l => r.1.setHost { r.1.host with delayed := some { d with done := some (some l) } }
      | .refused => (r.1.setHost { r.1.host with delayed := some { d with done := some none } }).endAccess initSpi
      | .waits => r.1

def execDelayedReadPerform (s : State) : Result := .next (delayedRead (fresh s))

/-- Its lease expires. A local read has been performed long before. -/
def delayedLease (s : State) : State :=
  match s.host.delayed with
  | none => s
  | some d =>
    if d.done.isNone && !s.spiReadOut then s
    else
      let s := (s.setHost { s.host with delayed := none }).loseSpiReads
      let s := if s.on wHost HOST_STATUS.DR_LOST then s else s.wr wHost HOST_DR_ADDR.ADDR d.addr
      let s := (s.sticky wHost HOST_STATUS.DR_LOST).leaseRevoked wHost
      if d.done = some none then s else s.endOther wHost .dropped 0x36 .access noPort noPort

def execDelayedReadLeaseExpiry (s : State) : Result := .next (delayedLease (fresh s))

/-! ## PCIe requests (R96 to R99) -/

/-- The face takes memory requests. -/
def State.pcieOn (s : State) : Bool := s.gxOn && s.on wHost HOST_PCIE_LINK.UP && !s.host.perst && s.pwr.mode != 1

/-- A request through BAR4 that is no aligned doubleword or quadword. -/
def msixShape (addr n : Nat) : Bool := !((n == 4 && addr % 4 == 0) || (n == 8 && addr % 8 == 0))

/-- A byte of an untouched MSI-X table: the vectors are masked. -/
def msixReset (k : Nat) : Nat := if k % 16 = 12 then 1 else 0

def State.msixByte (s : State) (k : Nat) : Nat :=
  if k < 0x400 then look s.host.msixTab k (msixReset k)
  else if 0x1000 ≤ k ∧ k < 0x1008 then s.host.pba / 256 ^ (k - 0x1000) % 256
  else 0

/-- Vector control has its mask bit alone; the pending-bit array is read-only. -/
def State.msixPut (s : State) (k b : Nat) : State :=
  if k < 0x400 then
    let v := if k % 16 = 12 then b % 2 else if 12 < k % 16 then 0 else b
    s.setHost { s.host with msixTab := store s.host.msixTab k v (msixReset k) }
  else s

/-- The lane rule of the window reverses the bytes (R439). -/
def State.lanesRev (s : State) (addr : Nat) : Bool :=
  isRemote (addr / 4096) && s.mapOn (mapIdx (addr / 4096)) && s.on wDerrick DRK_MAP.LANES (mapIdx (addr / 4096))

/-- What the face cannot carry through BAR0 or BAR2. -/
def State.pcieShape (s : State) (addr n most : Nat) : Bool :=
  n == 0 || decide (most < n) || crosses addr n false ||
    (s.lanesRev addr && !(n == 1 || ((n == 2 || n == 4 || n == 8) && addr % n == 0)))

def lanes (rev : Bool) (l : List Nat) : List Nat := if rev then l.reverse else l

/-- A memory read request. -/
def pcieRead (bar : Bar) (addr n tag : Nat) (s : State) : State :=
  if !s.pcieOn then s
  else
    let abort := fun (s : State) => (s.endAccess initPcie).emit (.completion tag false [])
    match bar with
    | .bar4 =>
      if msixShape addr n then abort (s.violate wHost initPcie .shape false 0 0)
      else s.emit (.completion tag true ((List.range n).map fun i => s.msixByte (addr % 8192 + i)))
    | .bar0 | .bar2 =>
      if s.pcieShape addr n (if bar = .bar2 then 64 else 8) then abort (s.shapeRefused initPcie addr false 0)
      else
        let rev := s.lanesRev addr
        let r := s.readAccess initPcie addr n false (.pcie tag rev) (bar == .bar2)
        match r.2 with
        | .data l => r.1.emit (.completion tag true (lanes rev l))
        | .refused => abort r.1
        | .waits => r.1

def execPcieReadRequest (bar : Bar) (addr : Addr) (len : BitVec 13) (tag : Byte) (s : State) : Result :=
  .next (pcieRead bar addr.toNat len.toNat tag.toNat (fresh s))

/-- A memory write request: `data` by ascending lane. -/
def pcieWrite (bar : Bar) (addr : Nat) (data : List Nat) (s : State) : State :=
  if !s.pcieOn then s
  else
    match bar with
    | .bar4 =>
      if msixShape addr data.length then (s.violate wHost initPcie .shape true 0 (data.headD 0)).endAccess initPcie
      else s.each ((List.range data.length).zip data) fun s x => s.msixPut (addr % 8192 + x.1) x.2
    | .bar0 | .bar2 =>
      let l := lanes (s.lanesRev addr) data
      if s.pcieShape addr data.length 8 then (s.shapeRefused initPcie addr true (data.headD 0)).endAccess initPcie
      else
        let r := s.writeAccess initPcie addr false l
        if r.2 then r.1 else r.1.endAccess initPcie

def execPcieWriteRequest (bar : Bar) (addr : Addr) (data : List Byte) (s : State) : Result :=
  .next (pcieWrite bar addr.toNat (data.map BitVec.toNat) (fresh s))

end Sys2Proof.Machine
end

