-- ==== Sys2Proof/Machine/Derrick.lean ====
section
/-! DEFINITION. Derrick (R428 to R448): the peers' timers, the frames they send, inbound accesses, the answers to outbound reads, events,
polls and update streams. -/

namespace Sys2Proof.Machine

/-! ## Timers (R430, R432) -/

/-- In MISMATCH too HELLO frames are sent. -/
def helloTimer (n : Nat) (s : State) : State :=
  if s.peerState n = psHello ∨ s.peerState n = psMismatch then s.sendHello n else s

def execKmpHelloTimer (n : Fin 16) (s : State) : Result := .next (helloTimer n (fresh s))

/-- 10 ms without a frame sent, or 20 µs with one unacknowledged. -/
def keepaliveTimer (n : Nat) (s : State) : State := if s.peerState n = psUp then s.sendKeepalive n else s

def execKmpKeepaliveTimer (n : Fin 16) (s : State) : Result := .next (keepaliveTimer n (fresh s))

/-- 500 µs after the lane's last sending every unacknowledged frame goes out again, each at most 8 times. -/
def resendTimer (n k : Nat) (s : State) : State :=
  let l := s.lane n k
  if s.peerState n ≠ psUp ∨ l.out = [] then s
  else if l.out.any fun x => 8 ≤ x.2 then s.peerLost n
  else
    let s := s.setLane n k { l with out := l.out.map fun x => (x.1, x.2 + 1) }
    s.each l.out fun s x => (s.count wDerrick KMP_RESENT.COUNT).kmpOut n x.1

def execKmpResendTimer (n : Fin 16) (k : Fin 3) (s : State) : Result := .next (resendTimer n k (fresh s))

/-- No KMP frame for PEER_TO. -/
def peerTimeout (n : Nat) (s : State) : State := if s.peerState n = psUp then s.peerLost n else s

def execKmpPeerTimeout (n : Fin 16) (s : State) : Result := .next (peerTimeout n (fresh s))

/-! ## Receiving (R430, R432, R433) -/

/-- The payload: PLEN bytes. -/
def payload (f : KmpRx) : List Nat := (f.body.map BitVec.toNat).take f.plen.toNat

/-- A received frame ends dropped. -/
def State.kmpDrop (s : State) (n reason : Nat) : State :=
  ((s.sticky wDerrick DRK_STAT.RX_DROP).count wDerrick KMP_RX_DROP.COUNT).endOther wDerrick .dropped reason .kmpFrame n noPort

/-- The features that cover a TYPE. -/
def State.agreed (s : State) (n ty : Nat) : Bool :=
  if ty = kmpWrite ∨ ty = kmpRead ∨ ty = kmpResponse then s.feature n 0
  else if ty = kmpEvent then s.feature n 1
  else if ty = kmpUpdSeg ∨ ty = kmpUpdAck then s.feature n 2 else true

/-- The payload has the form of its TYPE. -/
def lengthOk (ty : Nat) (b : List Nat) : Bool :=
  if ty = kmpHello then b.length == 22
  else if ty = kmpKeepalive then b.length == 0
  else if ty = kmpWrite then beAt b 3 1 < 64 && b.length == 5 + beAt b 3 1
  else if ty = kmpRead then b.length == 4 && beAt b 3 1 < 64
  else if ty = kmpResponse then
    (b.headD 0 == spiOk && 2 ≤ b.length && b.length ≤ 65) || ((b.headD 0 == spiRetry || b.headD 0 == spiError) && b.length == 1)
  else if ty = kmpEvent then b.length == 1
  else if ty = kmpUpdSeg then 5 ≤ b.length
  else b.length == 6

/-- Why a frame is not acted on. -/
def State.kmpFault (s : State) (n ty : Nat) (f : KmpRx) : Option Nat :=
  if ty ≠ kmpHello ∧ s.peerState n ≠ psUp then some 0xB4
  else if (ty ≠ kmpHello && f.ver.toNat / 16 != s.rd wDerrick DRK_PEER.VER n / 16) || f.lane.toNat != laneOf ty * 64 ||
      decide (f.body.length < f.plen.toNat) || !lengthOk ty (payload f) || !s.agreed n ty then some 0xB5
  else if laneOf ty ≠ 3 ∧ f.seq.toNat ≠ (s.lane n (laneOf ty)).rx then some 0xB6
  else none

/-- The three acknowledgements of a frame. -/
def State.kmpAcks (s : State) (n : Nat) (f : KmpRx) : State :=
  ((s.laneAck n 0 f.ackP.toNat).laneAck n 1 f.ackC.toNat).laneAck n 2 f.ackR.toNat

/-- The next frame of its lane has come. -/
def State.laneTaken (s : State) (n k : Nat) : State :=
  if k = 3 then s
  else
    let s := s.setLane n k { s.lane n k with rx := ((s.lane n k).rx + 1) % 65536 }
    s.setPeer n { s.peer n with owes := true }

/-- A frame that Derrick takes from the port (R172): its acknowledgements, its place in its lane, what it does. `act` answers false where the frame ends
dropped after all. -/
def State.kmpTake (s : State) (n ty : Nat) (f : KmpRx) (act : State → State × Bool) : State :=
  if !s.kmpOn n then s.handedEnd n 0x88B5 false
  else match s.kmpFault n ty f with
    | some reason => (s.handedEnd n 0x88B5 false).kmpDrop n reason
    | none =>
      let r := act ((s.kmpAcks n f).laneTaken n (laneOf ty))
      (if r.2 then (r.1.handedEnd n 0x88B5 true).count wDerrick KMP_RX.COUNT else (r.1.handedEnd n 0x88B5 false).kmpDrop n 0xB5).lanesFlow n

/-- Entry to UP (R432): the version and the features are agreed, the windows fetched. -/
def State.peerUp (s : State) (n : Nat) (f : KmpRx) (b : List Nat) : State :=
  let s := s.setPeer n { Peer.reset with
    upAt := s.clk, sa := f.sa.toNat, maxSeg := beAt b 20 2, evtLast := s.summaryByte wRoot }
  let s := ((s.wr wDerrick DRK_PEER.VER (0x10 + min 1 (f.ver.toNat % 16)) n).wr wDerrick DRK_PEER.FEAT (beAt b 2 2 % 16) n).wr wDerrick
    DRK_PID.PID (beAt b 4 16) n
  let s := (s.setPeerState n psUp).event wDerrick 1
  s.each (s.mapped.filter fun i => s.mapPeer i == n) fun s i => s.fetch i

def helloAct (n : Nat) (f : KmpRx) (s : State) : State :=
  let b := payload f
  let common := b.headD 0 ≤ 1 && 1 ≤ b.getD 1 0
  let st := s.peerState n
  if st = psUp then s.sendHello n
  else if common then s.peerUp n f b
  else if st = psHello then ((s.setPeerState n psMismatch).sticky wDerrick DRK_STAT.VERSION).event wDerrick 1
  else s

def execKmpHelloReceived (n : Fin 16) (f : KmpRx) (s : State) : Result :=
  .next ((fresh s).kmpTake n kmpHello f fun s => (helloAct n f s, true))

/-- It carries acknowledgements alone. -/
def execKmpKeepaliveReceived (n : Fin 16) (f : KmpRx) (s : State) : Result :=
  .next ((fresh s).kmpTake n kmpKeepalive f fun s => (s, true))

/-! ## Inbound accesses (R436 to R438, R443, R444) -/

/-- An inbound access that the face cannot carry: into a remote window, or across the end of a window. -/
def inboundShape (addr len : Nat) : Bool := isRemote (addr / 4096) || crosses addr len false

def writeAct (n : Nat) (b : List Nat) (s : State) : State :=
  let addr := beAt b 0 3
  let data := b.drop 4
  if inboundShape addr data.length then s.shapeRefused (initPeer n) addr true (data.headD 0)
  else (s.writeAccess (initPeer n) addr false data).1

def execKmpWriteReceived (n : Fin 16) (f : KmpRx) (s : State) : Result :=
  .next ((fresh s).kmpTake n kmpWrite f fun s => (writeAct n (payload f) s, true))

/-- A RESPONSE joins the C lane. -/
def State.respond (s : State) (n tag : Nat) (hit : Bool) (body : List Nat) : State :=
  s.kmpPush n ⟨kmpResponse, 0, b2n hit * 64, tag, 0, body⟩

/-- Entries of the peer's buffer taken: reads not performed, and responses not yet sent. -/
def State.inTaken (s : State) (n : Nat) : Nat := (s.peer n).inReads.length + ((s.peer n).c.wait.filter isPerformed).length

def readAct (n : Nat) (f : KmpRx) (s : State) : State :=
  let b := payload f
  let x := s.peer n
  if 4 ≤ s.inTaken n then s.respond n f.tag.toNat false [spiRetry]
  else s.setPeer n { x with inReads := x.inReads ++
    [⟨f.tag.toNat, f.flags.toNat / 16 % 4, bit f.flags.toNat 7, beAt b 0 3, beAt b 3 1 + 1, f.fence.toNat⟩] }

def execKmpReadReceived (n : Fin 16) (f : KmpRx) (s : State) : Result :=
  .next ((fresh s).kmpTake n kmpRead f fun s => (readAct n f s, true))

/-- The store of R11 and R14 of a peer's ORIGIN (R437). -/
def peerHolder (n origin : Nat) : Nat := 0x100 + n * 4 + origin

/-- Every P-lane frame before the fence has taken effect. -/
def State.fenced (s : State) (n : Nat) (r : InRead) : Bool := ((s.lane n 0).rx + 65536 - r.fence) % 65536 < 32768

/-- The read as the target performs it. -/
def State.inboundRead (s : State) (n : Nat) (r : InRead) : State × Option (List Nat) :=
  if inboundShape r.addr r.len then (s.shapeRefused (initPeer n) r.addr false 0, none)
  else s.localRead (initPeer n) (peerHolder n r.origin) (r.addr / 4096) (offsets (r.addr % 4096) r.len false) r.spec

/-- A speculative read of it withholds a side effect (R440). -/
def State.inboundHit (s : State) (n : Nat) (r : InRead) : Bool :=
  r.spec && (((s.wr wHost HOST_STATUS.SPEC_HIT 0).inboundRead n r).1.on wHost HOST_STATUS.SPEC_HIT)

/-- The oldest buffered READ whose fence is passed. -/
def inboundPerform (n : Nat) (s : State) : State :=
  match takeFirst (s.fenced n) (s.peer n).inReads with
  | none => s
  | some (r, rest) =>
    let hit := s.inboundHit n r
    let t := (s.setPeer n { s.peer n with inReads := rest }).inboundRead n r
    t.1.respond n r.tag hit (match t.2 with
      | some d => spiOk :: d
      | none => [spiError])

def execKmpInboundReadPerform (n : Fin 16) (s : State) : Result := .next (inboundPerform n (fresh s))

/-- The frames after one that is taken out of a lane move up. -/
def renumber (l : List KmpFrame) : List KmpFrame := l.map fun f => { f with seq := (f.seq + 65535) % 65536 }

/-- The waiting responses without the first that stands for a read performed. -/
def dropPerformed : List KmpFrame → Option (List KmpFrame)
  | [] => none
  | f :: r => if isPerformed f then some (renumber r) else (dropPerformed r).map (f :: ·)

/-- The lease of the oldest entry expires (R458): a read performed loses its response. -/
def inboundLease (n : Nat) (s : State) : State :=
  let x := s.peer n
  match dropPerformed x.c.wait with
  | some l =>
    let s := s.setPeer n { x with c := { x.c with wait := l, tx := (x.c.tx + 65535) % 65536 } }
    ((s.sticky wDerrick DRK_STAT.RSP_LOST).count wDerrick KMP_RSP_LOST.COUNT).leaseRevoked wDerrick
  | none => match x.inReads with
    | [] => s
    | _ :: r => (s.setPeer n { x with inReads := r }).leaseRevoked wDerrick

def execKmpInboundLeaseExpiry (n : Fin 16) (s : State) : Result := .next (inboundLease n (fresh s))

/-! ## Outbound reads (R435, R440, R441, R445) -/

/-- The summary of a peer; a rise of IRQ or STICKY is marked (R446). -/
def State.peerSummary (s : State) (n v : Nat) : State :=
  let old := s.rd wDerrick (DRK_PSUM.SUM.elem n)
  let s := s.wr wDerrick (DRK_PSUM.SUM.elem n) v
  let up := fun k => bit v k && !bit old k
  let chg := s.rd wDerrick DRK_PCHG.PCHG
  if (up 3 || up 7) && !bit chg n then (s.wr wDerrick DRK_PCHG.PCHG (setBit chg n)).event wDerrick 0 else s

/-- The descriptor of a remote window has been fetched. -/
def State.descFetched (s : State) (i : Nat) (d : List Nat) : State :=
  let c := beAt d 0 2
  let s := (s.wr wDerrick DRK_MAP_INFO.RCLASS c i).wr wDerrick DRK_MAP_INFO.RINST (beAt d 2 1) i
  let s := s.wr wDerrick DRK_MAP.MAP_BAD (b2n (c == 0)) i
  s.setDrk { s.drk with desc := insertAt s.drk.desc i d, found := if c = 0 then dropFrom s.drk.found i else addTo s.drk.found i }

/-- The data reach the face that waits for them. -/
def State.faceData (s : State) (r : OutRead) (d : List Nat) : State :=
  let l := r.pre ++ (d.drop (r.want - r.addr)).take r.wantLen
  match r.why with
  | .spi => match s.host.delayed with
    | some x => if x.done.isNone then s.setHost { s.host with delayed := some { x with done := some (some l) } } else s
    | none => s
  | .lost => s
  | .pcie tag rev => s.emit (.completion tag true (lanes rev l))
  | .mp => s.emit (.readData initMp l)
  | .poll => s.peerSummary r.peer (d.headD 0)
  | .map i => if s.mapOn i then s.descFetched i d else s

/-- A block of a prefetchable window is held for its origin. -/
def State.holdBlock (s : State) (r : OutRead) (d : List Nat) : State :=
  if r.origin < 3 ∧ r.len = 64 ∧ r.addr % 64 = 0 ∧ s.on wDerrick DRK_MAP.PREF r.win then
    s.setDrk { s.drk with held := s.drk.held ++ [⟨r.win, r.origin, r.addr, d, s.clk⟩] }
  else s

def State.dropRead (s : State) (r : OutRead) : State := s.setDrk { s.drk with reads := s.drk.reads.filter (· != r) }

/-- A RESPONSE; one whose READ is no longer waited for changes nothing. The answer is false where its data are not of the READ's length. -/
def responseAct (n : Nat) (f : KmpRx) (s : State) : State × Bool :=
  let b := payload f
  match s.drk.reads.find? fun r => r.peer == n && r.tag == f.tag.toNat && r.sent with
  | none => (s, true)
  | some r =>
    if b.headD 0 = spiOk ∧ b.length ≠ r.len + 1 then (s, false)
    else
      let s := if bit f.flags.toNat 6 then (s.drkRecord n 4 r.want).sticky wDerrick DRK_STAT.SPEC_REM else s
      if b.headD 0 = spiRetry then
        (((s.setDrk { s.drk with reads := s.drk.reads.map fun x => if x = r then { x with sent := false } else x }).count wDerrick
          KMP_RETRIES.COUNT), true)
      else if b.headD 0 = spiOk then ((((s.dropRead r).faceData r (b.drop 1)).holdBlock r (b.drop 1)).fetchFlow, true)
      else ((s.readFail r 0xB1).fetchFlow, true)

def execKmpResponseReceived (n : Fin 16) (f : KmpRx) (s : State) : Result := .next ((fresh s).kmpTake n kmpResponse f (responseAct n f))

/-- DRK_RETRY_GAP has passed for tracker k: the READ goes out with a new TAG. -/
def retryResend (k : Nat) (s : State) : State :=
  match s.drk.reads[k]? with
  | some r => if r.sent then s else (s.dropRead r).sendRead r
  | none => s

def execKmpRetryResend (k : Fin 16) (s : State) : Result := .next (retryResend k (fresh s))

/-- RD_TO has passed for the k-th outbound read, those that wait for a tracker after those that have one. -/
def readTimeout (k : Nat) (s : State) : State :=
  match (s.drk.reads ++ s.drk.readQ)[k]? with
  | some r => (s.readFail r 0xB2).fetchFlow
  | none => s

def execKmpReadTimeout (k : BitVec 12) (s : State) : Result := .next (readTimeout k.toNat (fresh s))

/-- A held block is 2 µs old. -/
def prefetchExpiry (k : Nat) (s : State) : State := s.setDrk { s.drk with held := s.drk.held.take k ++ s.drk.held.drop (k + 1) }

def execKmpPrefetchExpiry (k : BitVec 12) (s : State) : Result := .next (prefetchExpiry k.toNat (fresh s))

/-! ## Events and polls (R446, R447) -/

/-- An EVENT is taken from a peer with EVT_EN 1. -/
def eventAct (n : Nat) (b : List Nat) (s : State) : State :=
  if s.on wDerrick DRK_PEER.EVT_EN n then s.peerSummary n (b.headD 0) else s

def execKmpEventReceived (n : Fin 16) (f : KmpRx) (s : State) : Result :=
  .next ((fresh s).kmpTake n kmpEvent f fun s => (eventAct n (payload f) s, true))

/-- The peer is told of the root summary; an EVENT that waits unsent takes the new content. -/
def State.tellPeer (s : State) (n : Nat) : State :=
  let v := s.summaryByte wRoot
  let x := s.peer n
  if s.peerState n ≠ psUp ∨ !s.feature n 1 ∨ !s.on wDerrick DRK_PEER.EVT_EN n ∨ x.evtLast = v then s
  else if x.p.wait.any fun f => f.ty == kmpEvent then
    s.setPeer n { x with evtLast := v, p := { x.p with wait := x.p.wait.map fun f => if f.ty = kmpEvent then { f with body := [v] } else f } }
  else (s.setPeer n { x with evtLast := v }).kmpPush n ⟨kmpEvent, 0, 0, 0, 0, [v]⟩

def execKmpEventSend (s : State) : Result := .next ((fresh s).each (List.range 16) fun s n => s.tellPeer n)

/-- The first 100 ms of UP. -/
def State.newlyUp (s : State) (n : Nat) : Bool := (s.clk - (s.peer n).upAt) * clkNs < 100000000

/-- A poll. -/
def pollTimer (n : Nat) (s : State) : State :=
  if s.peerState n = psUp ∧ s.feature n 0 ∧
      (!s.feature n 1 ∨ !s.on wDerrick DRK_PEER.EVT_EN n ∨ s.newlyUp n ∨ s.on wDerrick DRK_PEER.POLL n) then s.bridgeRead .poll n 0x1C 1
  else s

def execKmpPollTimer (n : Fin 16) (s : State) : Result := .next (pollTimer n (fresh s))

/-! ## Update streams (R448) -/

/-- The block that a serialised block spells, when its length is right. -/
def parseBlock (n : Option Nat) (b : List Nat) : Option UpdBlock :=
  let len := beAt b 7 2
  if b.length = 13 + len then some ⟨n, beAt b 0 2, beAt b 2 4, beAt b 6 1, (b.drop 9).take len, beAt b (9 + len) 4⟩ else none

/-- A segment extends the peer's block; one at SEGOFS 0 starts one. -/
def segAct (n : Nat) (b : List Nat) (s : State) : State × Bool :=
  let x := s.peer n
  let ofs := beAt b 0 2
  let blen := beAt b 2 2
  let d := b.drop 4
  let none' := s.setPeer n { x with partBlock := [], partLen := 0 }
  if (ofs ≠ 0 ∧ (ofs ≠ x.partBlock.length ∨ blen ≠ x.partLen)) ∨ blen < ofs + d.length then (none', false)
  else
    let l := (if ofs = 0 then [] else x.partBlock) ++ d
    if l.length < blen then (s.setPeer n { x with partBlock := l, partLen := blen }, true)
    else match parseBlock (some n) l with
      | some u => (none'.setUpd { none'.upd with inbox := none'.upd.inbox ++ [u] }, true)
      | none => (none', false)

def execKmpUpdSegReceived (n : Fin 16) (f : KmpRx) (s : State) : Result := .next ((fresh s).kmpTake n kmpUpdSeg f (segAct n (payload f)))

def execKmpUpdAckReceived (n : Fin 16) (f : KmpRx) (s : State) : Result :=
  .next ((fresh s).kmpTake n kmpUpdAck f fun s =>
    (s.setUpd { s.upd with acks := s.upd.acks ++ [(n.val, beAt (payload f) 0 2, beAt (payload f) 2 4)] }, true))

end Sys2Proof.Machine
end

