-- ==== Sys2Proof/Machine/Eth.lean ====
section
/-! DEFINITION. Frames at the Ethernet MACs: ETH_FRAME_RECEIVED (R171 to R173). -/

namespace Sys2Proof.Machine

def byteList (l : List Byte) : List Nat := l.map (·.toNat)

/-- A MAC starts a frame only while its link is up and no other is in reception; what has started is taken to its end. In the far-end loop the
received symbols go back to the partner (R177). -/
def ethRx (p : Nat) (x : EthRx) (s : State) : State :=
  let idle := s.ethHears p && (s.rxOpen p).isNone
  let s := if s.gxOn && s.ethState p == ethLoop && s.rd (wEth p) ETH_LOOP.MODE == 3 then s.emit (.ethEcho p x) else s
  match x with
  | .whole d symErr fcsOk age => if idle then s.ethReceive p (byteList d) symErr fcsOk age.toNat else s
  | .first d age => if idle then s.rxFirst p (byteList d) age.toNat else s
  | .more d => s.rxMore p (byteList d)
  | .last d symErr fcsOk => s.rxLast p (byteList d) symErr fcsOk

def execEthFrameReceived (p : Fin 16) (x : EthRx) (s : State) : Result := .next (ethRx p x (fresh s))

end Sys2Proof.Machine
end

