-- ==== Sys2Proof/Machine/Update.lean ====
section
/-! DEFINITION. The commands of the update group (18): blocks and acknowledgements, verification, installation, activation step by step, the
trial (R129, R418 to R425). -/

namespace Sys2Proof.Machine

/-! ## Blocks (R418, R419) -/

/-- The oldest block received is handled. -/
def blockReceived (flashOk : Bool) (s : State) : State :=
  match s.upd.inbox with
  | [] => s
  | b :: r => (s.setUpd { s.upd with inbox := r }).takeBlock b flashOk

def execUpdBlockReceived (flashOk : Bool) (s : State) : Result := .next (blockReceived flashOk (fresh s))

/-- Downstream has every block of a stream below this one. -/
def State.acked (s : State) (k blk : Nat) : State :=
  let done := fun (x : FwdBlock) => x.block.stream == k && decide (x.block.blk < blk) && x.sends != 0
  let gone := s.upd.fwd.filter done
  let s := s.setUpd { s.upd with fwd := s.upd.fwd.filter fun x => !done x }
  (s.each gone fun s x => s.endOther wUpd .delivered 0 .updBlock (x.block.port.getD noPort) noPort).forwardFlow

/-- The oldest acknowledgement is handled; one from another port than the downstream one acknowledges nothing. -/
def ackReceived (s : State) : State :=
  match s.upd.acks with
  | [] => s
  | (n, k, blk) :: r =>
    let s := s.setUpd { s.upd with acks := r }
    if s.downPort = some n then s.acked k blk else s

def execUpdAckReceived (s : State) : Result := .next (ackReceived (fresh s))

/-- 50 ms after a block's last sending: four times it is sent again. -/
def blockResend (k blk : Nat) (s : State) : State :=
  let i := s.upd.fwd.findIdx fun x => x.block.stream == k && x.block.blk == blk && x.sends != 0
  match s.upd.fwd[i]?, s.downPort with
  | some x, some n =>
    if x.sends = 5 then s.streamDead k
    else (s.setUpd { s.upd with fwd := setAt s.upd.fwd i { x with sends := x.sends + 1, sentAt := s.clk } }).sendBlock n x.block
  | _, _ => s

def execUpdBlockResend (stream : BitVec 16) (blk : BitVec 32) (s : State) : Result :=
  .next (blockResend stream.toNat blk.toNat (fresh s))

/-- No block of the stream for 2 s. -/
def streamTimeout (s : State) : State := if s.stg = stgReceiving then s.stgDiscard.sticky wUpd UPD_FW_STAT.STREAM_TO else s

def execUpdStreamTimeout (s : State) : Result := .next (streamTimeout (fresh s))

/-! ## Verification and installation (R110, R112, R417, R419, R420) -/

def State.stgRejected (s : State) (cause : Nat) : State := s.stgDiscard.stgReject cause

/-- The check of the whole package. A root that is not programmed verifies nothing. -/
def verifyDone (ec hs digest : Bool) (s : State) : State :=
  if s.stg ≠ stgVerifying then s
  else if s.upd.kind = 0 ∧ directoryBad (parseSet s.upd.head) then s.stgRejected 1
  else if ec = false ∨ s.programmed = false then s.stgRejected 4
  else if hs = false then s.stgRejected 5
  else if digest = false then s.stgRejected 6
  else s.setStg stgStaged

def execUpdVerifyDone (ec hs digest : Bool) (s : State) : Result := .next (verifyDone ec hs digest (fresh s))

/-- The inactive slot is written anew: its bad mark goes. -/
def State.slotInstalled (s : State) : State :=
  let s := s.setCfg (if s.spareSlot = 1 then { s.cfg with badA := false } else { s.cfg with badB := false })
  s.setUpd { s.upd with startSlot := 0 }

/-- The package is written and read back: the write alone clears the slot's bad mark (R114). A set waits while a trial holds the other bank; an image needs MP. -/
def installDone (ok : Bool) (s : State) : State :=
  if s.stg ≠ stgStaged ∨ (s.upd.kind = 0 ∧ s.onTrial) ∨ (s.upd.kind ≠ 0 ∧ s.pwr.mpRun = false) then s
  else
    let s := if s.upd.kind = 0 then s.setUpd (s.upd.putBank s.spareBank (if ok then some (parseSet s.upd.head) else none))
      else s.slotInstalled
    if ok then (s.setStg stgInstalled).event wUpd 0 else s.stgRejected 7

def execUpdInstallDone (ok : Bool) (s : State) : Result := .next (installDone ok (fresh s))

/-! ## Commands of UPD_FW_CTRL -/

def execUpdConfirm (init : Initiator) (s : State) : Result :=
  .next ((fresh s).cmdField init.code wUpd UPD_FW_CTRL.CONFIRM ((fresh s).confirmKinds init.code) State.confirm)

def execUpdDiscard (init : Initiator) (s : State) : Result :=
  .next ((fresh s).cmdField init.code wUpd UPD_FW_CTRL.DISCARD [] State.discard)

def execUpdArm (init : Initiator) (s : State) : Result :=
  .next ((fresh s).cmdField init.code wUpd UPD_FW_CTRL.ARM (whenK (!(fresh s).mayArm) .state) State.arm)

def execUpdCancel (init : Initiator) (s : State) : Result :=
  .next ((fresh s).cmdField init.code wUpd UPD_FW_CTRL.CANCEL [] State.cancel)

def execUpdRecover (init : Initiator) (s : State) : Result :=
  .next ((fresh s).cmdField init.code wUpd UPD_FW_CTRL.RECOVER [] State.recover)

/-! ## Activation (R421, R422) -/

/-- AX0 has reached ACT_TIME, also by a STEP past it; a sequence that still runs ends first. -/
def activationStart (s : State) : State :=
  if s.stg = stgArmed ∧ s.actTime ≤ s.ax0Ns ∧ s.upd.todo = [] then
    let s := s.setUpd { s.upd with formerSlot := s.rd wUpd UPD_CFG_STAT.SLOT }
    (s.setStg stgIdle).runSteps s.actSteps false
  else s

def execUpdActivationStart (s : State) : Result := .next (activationStart (fresh s))

/-! ## The configuration image at run time (R129) -/

/-- The record is of a benched table, or of the settings that the commit runs under. -/
def benchedRec : ImgRec → Bool
  | .entry .. | .l2 .. | .pfx .. => true
  | .reg a _ =>
    let w := a.toNat / 4096
    let o := a.toNat % 4096
    (viewAt w o).isSome || (viewOfSel w o).isSome || (w == wTables && o == 0x140)
  | .legacy a _ => 0x1000 ≤ a.toNat && a.toNat < 0x2000
  | .blob .. | .mdio .. | .ptp .. => false

/-- Sections in the order of a load. -/
def inPhases (l : List ImgSection) : List ImgSection := [1, 2, 3].flatMap fun p => installOrder (l.filter (·.phase.toNat == p))

/-- A start would take the image, and what is applied of it is whole. -/
def State.imageUsable (s : State) (slot : Nat) (x : SlotImage) : Bool :=
  (s.slotFault slot x).isNone && (s.phase0Fault x).isNone &&
    (imageSects x).all fun y => y.restart || (sectionFault y).isNone

/-- Empty tables, to read an image's benched content into. -/
def State.emptyTables (s : State) : State :=
  let s := ((s.setBench BenchSt.reset).setTbl { s.tbl with l2 := [], prefixes := [], l2Ovf := [], pfxOvf := [], standing := [] }).setLeg { s.leg with slots := [] }
  s.setPwr { s.pwr with fenced := [] }

/-- The benched content of sections; none where a unit rejects a record. -/
def State.benchedOf (s : State) (l : List ImgSection) : Option State :=
  s.emptyTables.imgRecs ((l.filter fun x => (typePhases x.ty.toNat).isSome).flatMap fun x => x.recs.filter benchedRec)

/-- The entries whose content differs: window, entry. -/
def viewDiffs (o n : State) : List (Nat × Nat) :=
  let a := o.bank o.gen
  let b := n.bank n.gen
  let keys := ((a.filter fun x => !b.contains x) ++ (b.filter fun x => !a.contains x)).map fun x => x.1 / 2 ^ 22
  (dedup keys).map fun k => (k % 4096, k / 4096)

def L2Way.sameContent (a b : L2Way) : Bool := a.sameKey b && a.dropMove == b.dropMove && a.dlist == b.dlist && a.dest == b.dest

/-- Steps of the staging, up to the first that the lists have no room for. -/
def stageAll {α : Type} (f : State → α → Option State) : List α → State → Option State
  | [], s => some s
  | x :: l, s => match f s x with
    | none => none
    | some t => stageAll f l t

/-- The differences of the keyed tables. -/
def State.stageKeyed (s : State) (o n : State) : Option State :=
  let l2 := stageAll (fun (s : State) (x : L2Way) => let r := s.l2Unstage x.fid x.mac; if r.2 = 3 then none else some r.1)
    (o.tbl.l2.filter fun x => !n.tbl.l2.any x.sameKey) s
  let l2 := l2.bind (stageAll (fun s x => let r := s.l2Stage x; if r.2 = 3 then none else some r.1)
    (n.tbl.l2.filter fun x => !o.tbl.l2.any x.sameContent))
  let pfx := l2.bind (stageAll (fun s x => let r := s.pfxUnstage x; if r.2 = 6 then none else some r.1)
    (o.tbl.prefixes.filter fun x => !n.tbl.prefixes.any x.same))
  pfx.bind (stageAll (fun s x => let r := s.pfxStage x; if r.2 = 3 ∨ r.2 = 6 then none else some r.1)
    (n.tbl.prefixes.filter fun x => !o.tbl.prefixes.any fun y => x.same y && x.route == y.route))

/-- The TBL_CTRL that an image carries, in whichever section it stands. -/
def imageTblCtrl (l : List ImgSection) : Nat :=
  ((l.flatMap (·.recs)).filterMap fun r => match r with
    | .reg a v => if a.toNat = wTables * 4096 + 0x140 then some v.toNat else none
    | _ => none).getLastD 0

def State.setTblCtrl (s : State) (v : Nat) : State :=
  (s.wr wTables TBL_CTRL.SPLIT_OK (bits v TBL_CTRL.SPLIT_OK.hi TBL_CTRL.SPLIT_OK.lo)).wr wTables TBL_CTRL.HOLD_EN (bits v TBL_CTRL.HOLD_EN.hi TBL_CTRL.HOLD_EN.lo)

/-- Step 1 of R129: the delta between two images is staged by MP under the new image's TBL_CTRL; none where it cannot be. -/
def State.stageImages (s : State) (ctrl : Nat) (o n : State) : Option State :=
  let s := (s.tblAcquire initMp).setTblCtrl ctrl
  let l := viewDiffs o n
  if l.any fun e => s.stageBlocked e.1 e.2 then none
  else
    let entries := l.map fun e => (⟨e.1, e.2, (viewFields e.1 e.2).map fun f => (f, n.ent n.gen e.1 f e.2)⟩ : NewEntry)
    (s.stageEntries entries).bind fun t => t.stageKeyed o n

/-- The activation is aborted: the old image stays active, the lock is free. R124 leaves a refused delta in place and R129 does not say what
becomes of it; the model discards it, and TBL_CTRL reads again what it read before (DESIGN CHOICE). -/
def State.cfgAbort (s : State) (ctrl : Nat) : State :=
  let s := s.discardDelta.tblRelease.setTblCtrl ctrl
  (s.setUpd { s.upd with todo := s.upd.todo.drop 1, newImage := none }).beginStep

/-- The slot that a CFG step makes the active one. -/
def State.cfgTarget (s : State) : Nat := if s.upd.reverse then s.upd.formerSlot else s.spareSlot

/-- The commit of the difference begins; refused under R124 it aborts the activation. -/
def State.cfgBegin (s : State) (x : SlotImage) : State :=
  let l := inPhases (imageSects x)
  let later := (l.filter (·.restart)).map (·.ty)
  let o := s.benchedOf (s.cfg.image.filter fun y => !later.contains y.ty)
  let n := s.benchedOf (l.filter fun y => !y.restart)
  let ctrl := s.rd wTables TBL_CTRL.SPLIT_OK * 8 + s.rd wTables TBL_CTRL.HOLD_EN * 4
  match s.imageUsable s.cfgTarget x, o, n with
  | true, some o, some n =>
    match s.stageImages (imageTblCtrl l) o n with
    | none => (s.stageFull wTables initMp 0x140 0).cfgAbort ctrl
    | some t =>
      let t := t.authWriteBack.commit false
      if t.tblBusy then t.tblRelease.setUpd { t.tblRelease.upd with newImage := some x } else t.cfgAbort ctrl
  | _, _, _ => s.cfgAbort ctrl

/-- A record that is not benched takes effect: registers as MP's writes. -/
def State.runRec (s : State) (r : ImgRec) : State :=
  match r with
  | .reg a v => if benchedRec r then s else (s.localWrite initMp (a.toNat / 4096) [(a.toNat % 4096, v.toNat)]).1
  | .legacy a v =>
    if benchedRec r then s.setSlotByte ((a.toNat - 0x1000) / 16) (a.toNat % 16) (if a.toNat % 16 = 0 then v.toNat / 64 * 64 + slotPort v.toNat else v.toNat)
    else (s.imgLegacy a.toNat v.toNat).getD s
  | .blob .. | .ptp .. => (s.imgRec r).getD s
  | .mdio .. => s
  | .entry .. | .l2 .. | .pfx .. => s

/-- Steps 2 and 3 of R129, once BUSY has fallen: the sections without RESTART in section-table order, and the slot is the active one. An
unknown optional section is skipped (R116). -/
def State.cfgEnd (s : State) (x : SlotImage) : State :=
  let l := imageSects x
  let s := s.each (l.filter fun y => !y.restart) fun s y =>
    if (typePhases y.ty.toNat).isSome then s.each y.recs State.runRec else s.sticky wUpd UPD_CFG_STAT.OPT_SKIP
  let b := slotData x
  let s := (s.wr wUpd UPD_CFG_STAT.SLOT s.cfgTarget).wr wUpd UPD_CFG_SEQ.SEQ (if slotBare x then 0 else imgField b 0xC 4)
  let s := s.setCfg { s.cfg with sects := l, image := inPhases l, header := b.take 256, bare := slotBare x,
                                 subsys := if slotBare x then 0 else imgField b 0x38 4 }
  (s.setUpd { s.upd with newImage := none }).nextStep

/-- The CFG step, in its two parts. Without an active image, the new one takes effect at the next SOFT reset (R117). -/
def State.cfgStep (s : State) (image : Option SlotImage) : State :=
  match s.upd.newImage, image with
  | some x, _ => if s.tblBusy then s else s.cfgEnd x
  | none, none => s
  | none, some x =>
    if s.on wUpd UPD_CFG_STAT.UNCFG then s.nextStep
    else if s.pwr.mpRun = false ∨ s.tblOwner ≠ 0 ∨ s.tblBusy then s
    else s.cfgBegin x

/-- The step in progress ends, and the next begins. -/
def activationStep (fails : List Nat) (image : Option SlotImage) (s : State) : State :=
  match s.upd.todo with
  | [] => s
  | .cfg :: _ => s.cfgStep image
  | x :: _ => match s.endFwStep x fails with
    | none => s
    | some t => t.nextStep

def execUpdActivationStep (fails : List Byte) (image : Option SlotImage) (s : State) : Result :=
  .next (activationStep (fails.map BitVec.toNat) image (fresh s))

/-! ## Trial and ROM recovery (R423, R424) -/

def execUpdTrialTimeout (s : State) : Result := .next (fresh s).fallBack

def execRomRecoveryLoadDone (ok : Bool) (s : State) : Result := .next ((fresh s).recovered ok)

end Sys2Proof.Machine
end

