-- ==== Sys2Proof/Machine/Legacy.lean ====
section
/-! DEFINITION. The legacy personality's frames (R463 to R477): reads and writes of the legacy map, each as a frame of 3 bytes. -/

namespace Sys2Proof.Machine

/-- The personality's mode: 1 C1, 2 C2. Until an image is selected the strap says (R462). -/
def State.legMode (s : State) : Nat := if s.pwr.mode = 0 then s.rd wSup SUP_STRAP.MODE_CODE else s.pwr.mode

def State.uncfg (s : State) : Bool := s.on wUpd UPD_CFG_STAT.UNCFG

/-! ## Reads (R467) -/

/-- A legacy channel is derated or staggered. -/
def State.xbTherm (s : State) : Bool :=
  (List.range 24).any fun n => s.derOf (12 + n) < 8 || (s.staggered (dieOf (12 + n))).contains (12 + n)

/-- XB_STAT. Its read clears RST. -/
def State.xbStat (s : State) : State × Nat :=
  (s.wr wRoot XB_STAT.RST 0 legacyIdx,
    b2n s.uncfg * 128 + b2n (s.legMode == 2) * 64 + s.rd wRoot XB_STAT.RST legacyIdx * 32 + b2n s.leg.commit.isSome * 16 + b2n s.xbTherm * 8)

/-- The legacy code of a CAN state. -/
def xbCanState (c : Nat) : Nat :=
  if c = canOff then 0 else if c = canActive then 1 else if c = canPassive then 2 else if c = canBusOff then 3 else 4

/-- Byte k of a counter group: the first takes the snapshot and clears the four counters (R470). -/
def State.xbCounter (s : State) (g k : Nat) : State × Nat :=
  if k = 0 then
    let v := (List.range 4).foldl (fun a c => a * 65536 + look s.leg.ctr (4 * g + c) 0) 0
    let ctr := (List.range 4).foldl (fun t c => erase t (4 * g + c)) s.leg.ctr
    (s.setLeg { s.leg with ctr := ctr, snap := store s.leg.snap g v 0 }, byteOf v 8 0)
  else (s, byteOf (look s.leg.snap g 0) 8 k)

/-- A byte of a native window, read as the SPI face. -/
def State.xbNative (s : State) (w ofs : Nat) : State × Nat :=
  let r := s.localRead initSpi initSpi w [ofs] false
  (r.1, (r.2.getD []).headD 0)

/-- OUT_STATn. -/
def State.xbOutStat (s : State) (n : Nat) : Nat :=
  let w := wCh (12 + n)
  s.rd w CH_STATE.OUT * 128 + s.rd w CH_STAT.THERM * 32 + s.rd w CH_STAT.LATCHED * 16 + s.rd w CH_DIAG.RESULT

/-- The outputs of the native view: CH71 at bit 0 of byte 0, CH0 at bit 7 of byte 8 (R475). -/
def State.xbOutputs (s : State) (k : Nat) : Nat :=
  (List.range 8).foldl (fun a b => if s.on (wCh (71 - 8 * k - b)) CH_STATE.OUT then setBit a b else a) 0

/-- The native view of C2. -/
def State.xbView (s : State) (k : Nat) : State × Nat :=
  if k < 8 then s.xbNative wInputs (INP_STATES.STATES.ofs + k)
  else if k < 0x11 then (s, s.xbOutputs (k - 8))
  else if k = 0x11 then (s, s.summaryByte wRoot)
  else if k < 0x18 then s.xbNative (wAx 0) (AX0_TIME.SEC.ofs + (k - 0x12))
  else (s, 0)

/-- The update window of C1 (R477). -/
def State.xbUpdRead (s : State) (k : Nat) : Nat :=
  if 4 ≤ k ∧ k < 8 then byteOf s.leg.updAck 4 (k - 4)
  else if k = 8 then s.stg * 32 + s.rd wUpd UPD_STG_STAT.STG_REJ * 16 + s.rd wUpd UPD_STG_STAT.CAUSE
  else 0

/-- SW_CFG of the legacy map. -/
def State.xbSwCfg (s : State) (n : Nat) : Nat :=
  let w := wSW n
  b2n (s.rd w SW_CFG.MODE == 1) * 128 + s.rd w SW_CFG.PULL * 32 + s.rd w SW_CFG.WET * 4 + s.rd w SW_CFG.POL * 2 + s.rd w SW_CFG.WAKE_EN

def State.xbCanRead (s : State) (p k : Nat) : State × Nat :=
  let w := wCan p
  if k < 4 then (s, s.xbTiming p k)
  else if k = 4 then (s, s.rd w CAN_CFG.EN * 128 + s.rd w CAN_CFG.LISTEN_ONLY * 64)
  else if k = 5 then (s, xbCanState (s.canState p))
  else if k = 6 then (s, s.tec p)
  else if k = 7 then (s, s.rec' p)
  else if k < 16 then s.xbCounter p (k - 8)
  else (s, 0)

def State.xbLinRead (s : State) (i k : Nat) : State × Nat :=
  let w := wLin i
  if k < 2 then (s, byteOf (s.rd w LIN_RATE.RATE) 2 k)
  else if k = 2 then (s, s.rd w LIN_CFG.EN * 128 + s.rd w LIN_SCHED_CMD.TABLE % 4)
  else if 8 ≤ k ∧ k < 16 then s.xbCounter (16 + i) (k - 8)
  else (s, 0)

/-- +0 performs TAKE. -/
def State.xbBoxRead (s : State) (p m b : Nat) : State × Nat :=
  if b = 0 then (s.boxTake p m, (s.boxTake p m).box p m 0)
  else (s, if b ≤ 13 then s.box p m b else 0)

/-- A read of the legacy map. UNCONFIGURED serves three addresses (R463). -/
def State.legacyReadAt (s : State) (a : Nat) : State × Nat :=
  if a = 0 then (s, 0x16)
  else if a = 1 then (s, 0x04)
  else if a = 2 then s.xbStat
  else if s.uncfg then (s, 0)
  else if a = 4 then (s, s.leg.irqEn)
  else if a = 5 then (s, s.leg.irq)
  else if a = 0xF then (s, 0x72)
  else if 0x100 ≤ a ∧ a < 0x280 then s.xbCanRead ((a - 0x100) / 0x40) (a % 0x40)
  else if 0x400 ≤ a ∧ a < 0x480 then s.xbLinRead ((a - 0x400) / 0x20) (a % 0x20)
  else if 0x480 ≤ a ∧ a < 0x580 then
    let w := wLin ((a - 0x480) / 0x40)
    let id := a % 0x40
    (s, s.rd w (LIN_FRAME.DIR.elem id) * 64 + s.rd w (LIN_FRAME.CSUM.elem id) * 32 + s.rd w (LIN_FRAME.LEN.elem id))
  else if 0x800 ≤ a ∧ a < 0x818 then (s, look s.leg.duty (a - 0x800) 0)
  else if 0x820 ≤ a ∧ a < 0x838 then (s, s.xbOutStat (a - 0x820))
  else if 0x900 ≤ a ∧ a < 0x904 then (s, byteOf (s.switchMap % 2 ^ 32) 4 (a - 0x900))
  else if 0x910 ≤ a ∧ a < 0x930 then (s, s.xbSwCfg (a - 0x910))
  else if 0x1000 ≤ a ∧ a < 0x2000 then (s, s.slotByte ((a - 0x1000) / 16) (a % 16))
  else if 0x2000 ≤ a ∧ a < 0x2600 then s.xbBoxRead ((a - 0x2000) / 256) (a / 16 % 16) (a % 16)
  else if 0x3000 ≤ a ∧ a < 0x3800 then s.xbNative (wLin ((a - 0x3000) / 512)) (0x400 + 16 * (a / 8 % 64) + 8 + a % 8)
  else if 0x3800 ≤ a ∧ a < 0x4000 then s.xbNative (wLin ((a - 0x3800) / 512)) (0x200 + a % 512)
  else if 0x6000 ≤ a ∧ a < 0x6100 ∧ s.legMode = 2 then s.xbView (a - 0x6000)
  else if 0x7E00 ≤ a ∧ a < 0x7E10 ∧ s.legMode = 1 then (s, s.xbUpdRead (a - 0x7E00))
  else (s, 0)

/-! ## Writes -/

/-- The records of section 0x0080 of the active image. -/
def State.legacyRecs (s : State) : List ImgRec := (s.cfg.image.filter fun x => x.ty.toNat == 0x80).flatMap (·.recs)

/-- The route slots that records commit. -/
def recSlots (l : List ImgRec) : List Nat :=
  dedup (l.filterMap fun r => match r with
    | .legacy a _ => if 0x1000 ≤ a.toNat ∧ a.toNat < 0x2000 ∧ a.toNat % 16 = 15 then some ((a.toNat - 0x1000) / 16) else none
    | _ => none)

/-- The route slots of section 0x0080 in one commit (R468, R476). -/
def State.slotsAgain (s : State) (l : List ImgRec) : State :=
  let s := s.setLeg { s.leg with slots := (imgSlotBytes l).foldl (fun t x => insertAt t x.1 x.2) s.leg.slots }
  match recSlots l with
  | [] => s
  | k :: r => match (s.tblAcquire initSpi).stageEntries ((k :: r).flatMap s.slotEntries) with
    | none => (s.tblAcquire initSpi).discardDelta.tblRelease.stageFull wTables initSpi 0x140 0
    | some t => ((t.commit true).tblRelease).setLeg { (t.commit true).tblRelease.leg with commit := some k }

/-- The legacy reset of C2: every legacy window, the copies that belong to them, and section 0x0080, whose records for a window come with
its reload. The host repeats a command that meets a held lock. -/
def State.legacyReset (s : State) : State × XbAns :=
  let l := s.legacyRecs
  if recSlots l != [] && (s.tblOwner != 0 || s.tblBusy) then (s, .busy)
  else
    let s := s.each (fixedWindows.filter isLegacy) fun s w => s.unitReset w false
    let s := s.urstSettle.setLeg { s.urstSettle.leg with boxes := [], ctr := [], snap := [], timing := [], duty := [] }
    let s := s.each (l.filter fun r => recWin r == wRoot && !benchedRec r) fun s r => (s.imgRec r).getD s
    ((s.slotsAgain l).wr wRoot XB_STAT.RST 1 legacyIdx, .ok)

/-- XB_CTRL: one command at a time (R495). -/
def State.xbCtrl (s : State) (v : Nat) : State × XbAns :=
  let c1 := s.legMode == 1
  if bit v 7 && bit v 6 then s.legRefuse false wPwr 0x141 v
  else if bit v 7 then (if c1 then (s.softReset causeSoft, .ok) else s.legacyReset)
  else if bit v 6 then (if c1 then xbAns (s.legByte false wPwr 0x141 (2 ^ PWR_CTRL.PARK.lo)) else s.legRefuse false wPwr 0x141 v)
  else (s, .ok)

/-- A byte of an update block; a whole one is handed to UPD. -/
def State.xbUpdData (s : State) (v : Nat) : State :=
  let l := s.leg.upd ++ [v]
  if l.length < 9 ∨ l.length < 13 + beAt l 7 2 then s.setLeg { s.leg with upd := l }
  else
    let s := s.setLeg { s.leg with upd := [] }
    match parseBlock none l with
    | some b => s.setUpd { s.upd with inbox := s.upd.inbox ++ [b] }
    | none => s

/-- XB_UPD_ACT: everything in the package, no port, 1 ms ahead. -/
def State.xbUpdAct (s : State) (v : Nat) : State × XbAns :=
  if v ≠ 1 then (s, .ok)
  else
    let types := match s.upd.kind, s.upd.bankSet s.spareBank with
      | 0, some f => (f.images.filter fun x => 1 ≤ x.ty && x.ty ≤ 10).foldl (fun a x => setBit a (x.ty - 1)) 0
      | _, _ => 0
    let at_ := s.ax0Ns + 1000000
    let t := ((s.wr wUpd UPD_ACT_TGT.TYPES types).wr wUpd UPD_ACT_TGT.CFG (b2n (s.upd.kind == 1))).wr wUpd UPD_ACT_PORTS.PORTS 0
    let t := (t.wr wUpd UPD_ACT_TIME.SEC (at_ / 1000000000)).wr wUpd UPD_ACT_TIME.NS (at_ % 1000000000)
    if t.mayArm then (t.arm, .ok) else s.legRefuse false wUpd 0x141 v

/-- A write to the legacy map. -/
def State.legacyWriteAt (s : State) (a v : Nat) : State × XbAns :=
  if s.uncfg then (s, if a < 3 then .ok else .err)
  else if a = 3 then s.xbCtrl v
  else if 0x6000 ≤ a ∧ a < 0x6100 ∧ s.legMode = 2 then (s, .ok)
  else if 0x7E00 ≤ a ∧ a < 0x7E10 ∧ s.legMode = 1 then
    if a = 0x7E00 then (s.xbUpdData v, .ok) else if a = 0x7E09 then s.xbUpdAct v else (s, .ok)
  else s.legacyWrite false a v

/-! ## Frames (R465, R466) -/

/-- A frame of 3 bytes that writes: BUSY speaks of it until the next write. -/
def State.legacyWriteFrame (s : State) (a v : Nat) : State :=
  let r := (s.emit (.xb s.xbMiso)).legacyWriteAt a v
  r.1.setLeg { r.1.leg with err := r.2 == .err, busy := r.2 == .busy }

/-- A frame of 3 bytes that reads: its result is held. -/
def State.legacyReadFrame (s : State) (a : Nat) : State :=
  let r := (s.emit (.xb s.xbMiso)).legacyReadAt a
  let s := r.1.setHost { r.1.host with legacyRead := some (a, r.2) }
  s.setLeg { s.leg with err := false, ready := true }

/-- A frame of the legacy rows. In native framing one of up to 3 bytes ends before its address. -/
def legacyFrame (l : List Nat) (s : State) : State :=
  if !s.gxOn then s
  else if !s.leg.framing then (if l.length ≤ 3 then spiTooShort l.length s else s)
  else match l with
    | [x, y, z] => if 128 ≤ x then s.legacyWriteFrame (x % 128 * 256 + y) z else s.legacyReadFrame (x * 256 + y)
    | _ => s.legacyDiscard (128 ≤ l.headD 128) l.length

/-- The first byte of the frame has W as the row says. -/
def withW (w : Bool) (l : List Nat) : List Nat := match l with
  | [] => []
  | x :: r => (x % 128 + 128 * b2n w) :: r

/-- A write of one byte to the legacy map, as its frame. -/
def legacyPut (a v : Nat) (s : State) : State := legacyFrame [128 + a / 256, a % 256, v] s

/-- A read of one byte of the legacy map, as its frame. -/
def legacyGet (a : Nat) (s : State) : State := legacyFrame [a / 256, a % 256, 0] s

def execLegacyWriteFrame (bytes : List Byte) (s : State) : Result :=
  .next (legacyFrame (withW true (bytes.map BitVec.toNat)) (fresh s))

def execLegacyReadFrame (bytes : List Byte) (s : State) : Result :=
  .next (legacyFrame (withW false (bytes.map BitVec.toNat)) (fresh s))

def execLegacyRouteSlotCommit (k v : Byte) (s : State) : Result :=
  .next (legacyPut (0x1000 + 16 * k.toNat + 15) v.toNat (fresh s))

def execLegacyMailboxTake (p : Fin 6) (m : Fin 16) (s : State) : Result :=
  .next (legacyGet (0x2000 + 256 * p.val + 16 * m.val) (fresh s))

def execLegacyMailboxStore (p : Fin 6) (m : Fin 16) (v : Byte) (s : State) : Result :=
  .next (legacyPut (0x2000 + 256 * p.val + 16 * m.val) v.toNat (fresh s))

/-- k: 0 to 5 the CAN ports, 6 to 9 the LIN ports. -/
def execLegacyCounterSnapshot (k : Fin 10) (s : State) : Result :=
  .next (legacyGet (if k.val < 6 then 0x108 + 0x40 * k.val else 0x408 + 0x20 * (k.val - 6)) (fresh s))

def execLegacyOutDutyWrite (n : Fin 24) (d : Byte) (s : State) : Result :=
  .next (legacyPut (0x800 + n.val) d.toNat (fresh s))

def execLegacyCanEnable (p : Fin 6) (listen : Bool) (s : State) : Result :=
  .next (legacyPut (0x104 + 0x40 * p.val) (128 + 64 * b2n listen) (fresh s))

def execLegacySrst (s : State) : Result := .next (legacyPut 0x0003 0x80 (fresh s))

def execLegacySleep (s : State) : Result := .next (legacyPut 0x0003 0x40 (fresh s))

def execLegacyUpdData (v : Byte) (s : State) : Result := .next (legacyPut 0x7E00 v.toNat (fresh s))

def execLegacyUpdActivate (s : State) : Result := .next (legacyPut 0x7E09 1 (fresh s))

end Sys2Proof.Machine
end

