-- ==== Sys2Proof/Machine/Load.lean ====
section
/-! DEFINITION. The commands of the configuration load (04): the flash steps up and the firmware runs, a slot is selected, the phases are
installed. -/

namespace Sys2Proof.Machine

/-! ## The firmware of a start (R108, R115 step 2, R415, R416, R423) -/

/-- The units that run the image of a TYPE, and load it in place or run it. -/
def typeWindows (ty : Nat) : List Nat :=
  if ty = 1 then [wMP] else if ty = 2 then [0x013, 0x014] else if ty = 3 then (List.range 4).map wSE
  else if ty = 4 then (List.range 6).map wGcm else if ty = 5 then (List.range 4).map wCmac
  else if ty = 6 then (List.range 10).map fun k => wEth (6 + k) else if ty = 7 then (List.range 6).map wEth else []

/-- A set as the update group keeps it. -/
def fwSet (d : FwDir) : FwSet :=
  { raise := d.raise, svn := d.svn.toNat, seq := d.seq.toNat,
    images := d.images.map fun x => { ty := x.ty.toNat, version := x.version.toNat, ofs := x.ofs.toNat, len := x.len.toNat, sha := x.sha.toNat } }

/-- The committed bank. -/
def State.fwBank (s : State) : Nat := s.rd wUpd UPD_FW_STAT.BANK

/-- The bank holds what was written into it, or what it was delivered with. -/
def State.bankHolds (s : State) (d : Option FwDir) : State :=
  match s.upd.bankSet s.fwBank, d with
  | none, some x => s.setUpd (if s.fwBank = 0 then { s.upd with bankA := some (fwSet x) } else { s.upd with bankB := some (fwSet x) })
  | _, _ => s

/-- Every image of the committed bank runs, but those whose check fails: an in-place image leaves its units in ROM recovery. -/
def State.fwStart (s : State) (fails : List Nat) : State :=
  let set := s.upd.bankSet s.fwBank
  let images : List FwImage := match set with
    | some f => f.images
    | none => []
  let has := fun (ty : Nat) => images.any fun (x : FwImage) => x.ty == ty
  let ran := (images.filter fun x => !fails.contains x.ty).map fun x => (x.ty, (⟨s.fwBank, x.version, x.sha⟩ : Running))
  let inRom := [1, 2, 3, 4, 5, 6, 7].filter fun ty => set.isNone || (has ty && fails.contains ty)
  let bad := set.isNone || (List.range 12).any fun ty => has ty && fails.contains ty
  let s := s.setUpd { s.upd with running := ran.foldl (fun t x => insertAt t x.1 x.2) [], portBank := [],
                                 recovery := inRom.flatMap typeWindows }
  let s := if bad then s.sticky wUpd UPD_FW_STAT.FW_FAIL else s
  let s := s.setPwr { s.pwr with mpRun := !inRom.contains 1 }
  let s := if inRom.contains 1 then s else s.wr wMP DESC_STATE.STATE usReady
  if inRom.contains 2 then s else (s.wr 0x013 DESC_STATE.STATE usReady).wr 0x014 DESC_STATE.STATE usReady

/-- The mode that the controller reaches: of the declared ones, from the fastest down, the first in which the signature reads back; else it
stays in 1S-1S-1S. -/
def flashModeOf (x : Sfdp) : Nat :=
  let ok := fun k => x.modes.getLsbD k && x.good.getLsbD k
  if ok 0 then 3 else if ok 1 then 2 else if ok 2 then 1 else 0

/-- Steps 1 and 2 of R115. `x`: none where the flash has no valid SFDP tables. -/
def stepUp (x : Option Sfdp) (d : Option FwDir) (fails : List Nat) (s : State) : State :=
  if !s.gxOn ∨ s.cfg.stage ≠ 1 then s
  else match x with
    | none => (s.cfgErr 1 0xFF).unconfigured
    | some x =>
      if x.mib.toNat < 64 then (s.cfgErr 1 0xFF).unconfigured
      else
        let s := s.setPins { s.pins with sfdpDone := true, flashMode := flashModeOf x }
        let s := (s.bankHolds d).fwStart fails
        s.setCfg { s.cfg with stage := 2 }

def execNvmSfdpStepUp (x : Option Sfdp) (fw : Option FwDir) (fails : List Byte) (s : State) : Result :=
  .next (stepUp x fw (fails.map BitVec.toNat) (fresh s))

/-! ## Phase 0 (R114) -/

def slotSelect (a b : SlotImage) (s : State) : State := if s.gxOn ∧ s.cfg.stage = 2 then s.phase0 a b else s

def execConfigSlotSelect (a b : SlotImage) (s : State) : Result := .next (slotSelect a b (fresh s))

/-! ## Phases 1 to 3 (R115, R116) -/

/-- k: 0 to 2 for the phases 1 to 3. -/
def phaseInstall (k : Nat) (s : State) : State := if s.gxOn ∧ s.cfg.stage = k + 3 then s.installPhase (k + 1) else s

def execConfigPhaseInstall (k : Fin 3) (s : State) : Result := .next (phaseInstall k.val (fresh s))

end Sys2Proof.Machine
end

