-- ==== Sys2Proof/Machine/Dispatch.lean ====
section
/-! DEFINITION. One arm per command, each one direct call of its meaning. -/

namespace Sys2Proof.Machine

def exec (i : Instr) (s : State) : Host.Outcome State Fault Refusal :=
  match i with
  | .registerWrite init addr b => Sys2Proof.Machine.execRegisterWrite init addr b s
  | .liveValueMsbRead init addr => Sys2Proof.Machine.execLiveValueMsbRead init addr s
  | .tallySnapshotRead init addr => Sys2Proof.Machine.execTallySnapshotRead init addr s
  | .speculativeRead init addr => Sys2Proof.Machine.execSpeculativeRead init addr s
  | .interfaceHandshake init w maj min => Sys2Proof.Machine.execInterfaceHandshake init w maj min s
  | .fanoutStart init grp data => Sys2Proof.Machine.execFanoutStart init grp data s
  | .fanoutWindowWrite grp => Sys2Proof.Machine.execFanoutWindowWrite grp s
  | .fanoutComplete grp => Sys2Proof.Machine.execFanoutComplete grp s
  | .summaryPropagate w => Sys2Proof.Machine.execSummaryPropagate w s
  | .unitReset init w lock => Sys2Proof.Machine.execUnitReset init w lock s
  | .unitReloadComplete w => Sys2Proof.Machine.execUnitReloadComplete w s
  | .scrubCheck w k mismatch => Sys2Proof.Machine.execScrubCheck w k mismatch s
  | .gxHeartbeatLost => Sys2Proof.Machine.execGxHeartbeatLost s
  | .powerOnReset vbatGood => Sys2Proof.Machine.execPowerOnReset vbatGood s
  | .aonSupplyLost => Sys2Proof.Machine.execAonSupplyLost s
  | .pinReset => Sys2Proof.Machine.execPinReset s
  | .borBegin => Sys2Proof.Machine.execBorBegin s
  | .borEnd => Sys2Proof.Machine.execBorEnd s
  | .modeSample mv => Sys2Proof.Machine.execModeSample mv s
  | .limpInEdge k high => Sys2Proof.Machine.execLimpInEdge k high s
  | .safeNUpdate => Sys2Proof.Machine.execSafeNUpdate s
  | .gxPgoodHigh => Sys2Proof.Machine.execGxPgoodHigh s
  | .gxResetRelease xsrc => Sys2Proof.Machine.execGxResetRelease xsrc s
  | .gxPgoodTimeout => Sys2Proof.Machine.execGxPgoodTimeout s
  | .gxPgoodLost => Sys2Proof.Machine.execGxPgoodLost s
  | .offTimeEnd => Sys2Proof.Machine.execOffTimeEnd s
  | .clockLoss => Sys2Proof.Machine.execClockLoss s
  | .spiWriteFrame fix len addr rest => Sys2Proof.Machine.execSpiWriteFrame fix len addr rest s
  | .spiReadFrame fix len addr rest late => Sys2Proof.Machine.execSpiReadFrame fix len addr rest late s
  | .spiFrameTooShort n => Sys2Proof.Machine.execSpiFrameTooShort n s
  | .spiWriteApply => Sys2Proof.Machine.execSpiWriteApply s
  | .delayedReadPerform => Sys2Proof.Machine.execDelayedReadPerform s
  | .delayedReadLeaseExpiry => Sys2Proof.Machine.execDelayedReadLeaseExpiry s
  | .pcieReadRequest bar addr len tag => Sys2Proof.Machine.execPcieReadRequest bar addr len tag s
  | .pcieWriteRequest bar addr data => Sys2Proof.Machine.execPcieWriteRequest bar addr data s
  | .pciePerstAssert => Sys2Proof.Machine.execPciePerstAssert s
  | .pcieLinkDown => Sys2Proof.Machine.execPcieLinkDown s
  | .pcieLinkUp rate two => Sys2Proof.Machine.execPcieLinkUp rate two s
  | .ringTailWrite init tx r v => Sys2Proof.Machine.execRingTailWrite init tx r v s
  | .ringEnSet init tx r low => Sys2Proof.Machine.execRingEnSet init tx r low s
  | .ringEnClear init tx r low => Sys2Proof.Machine.execRingEnClear init tx r low s
  | .ringDescFetch tx r d => Sys2Proof.Machine.execRingDescFetch tx r d s
  | .ringWriteback tx r => Sys2Proof.Machine.execRingWriteback tx r s
  | .hostDmaError tx r wrote => Sys2Proof.Machine.execHostDmaError tx r wrote s
  | .ringDescLeaseExpiry tx r => Sys2Proof.Machine.execRingDescLeaseExpiry tx r s
  | .imodIntervalEnd tx r => Sys2Proof.Machine.execImodIntervalEnd tx r s
  | .msixPendingSend v => Sys2Proof.Machine.execMsixPendingSend v s
  | .irqNUpdate => Sys2Proof.Machine.execIrqNUpdate s
  | .nvmSfdpStepUp sfdp fw fails => Sys2Proof.Machine.execNvmSfdpStepUp sfdp fw fails s
  | .configSlotSelect a b => Sys2Proof.Machine.execConfigSlotSelect a b s
  | .configPhaseInstall k => Sys2Proof.Machine.execConfigPhaseInstall k s
  | .stageSelect init v next k => Sys2Proof.Machine.execStageSelect init v next k s
  | .stageEntryWrite init v data => Sys2Proof.Machine.execStageEntryWrite init v data s
  | .tblAcquire init rw => Sys2Proof.Machine.execTblAcquire init rw s
  | .tblCommit init rw => Sys2Proof.Machine.execTblCommit init rw s
  | .tblAbort init rw => Sys2Proof.Machine.execTblAbort init rw s
  | .tblRelease init rw => Sys2Proof.Machine.execTblRelease init rw s
  | .tblLeaseExpiry => Sys2Proof.Machine.execTblLeaseExpiry s
  | .commitDrainEnd => Sys2Proof.Machine.execCommitDrainEnd s
  | .commitReclaimDone => Sys2Proof.Machine.execCommitReclaimDone s
  | .splitTableSwitch => Sys2Proof.Machine.execSplitTableSwitch s
  | .flowHoldExpiry => Sys2Proof.Machine.execFlowHoldExpiry s
  | .ethFrameReceived p x => Sys2Proof.Machine.execEthFrameReceived p x s
  | .cutThroughEnqueue => Sys2Proof.Machine.execCutThroughEnqueue s
  | .frameClassify => Sys2Proof.Machine.execFrameClassify s
  | .authVerify c e => Sys2Proof.Machine.execAuthVerify c e s
  | .authAppend c e => Sys2Proof.Machine.execAuthAppend c e s
  | .authCeilWrite c e => Sys2Proof.Machine.execAuthCeilWrite c e s
  | .authEpochWrite init v => Sys2Proof.Machine.execAuthEpochWrite init v s
  | .keySessionLeaseExpiry o => Sys2Proof.Machine.execKeySessionLeaseExpiry o s
  | .egressDequeue p => Sys2Proof.Machine.execEgressDequeue p s
  | .egressLastByteSent p => Sys2Proof.Machine.execEgressLastByteSent p s
  | .ctUnderrun p => Sys2Proof.Machine.execCtUnderrun p s
  | .stockpileEccUncorr x => Sys2Proof.Machine.execStockpileEccUncorr x s
  | .stockpileLeaseExpiry h => Sys2Proof.Machine.execStockpileLeaseExpiry h s
  | .hopperFlush init p => Sys2Proof.Machine.execHopperFlush init p s
  | .flushComplete p => Sys2Proof.Machine.execFlushComplete p s
  | .frerResetTimeout k => Sys2Proof.Machine.execFrerResetTimeout k s
  | .ethEnable init p low => Sys2Proof.Machine.execEthEnable init p low s
  | .ethDisable init p low => Sys2Proof.Machine.execEthDisable init p low s
  | .ethLinkUp p r full => Sys2Proof.Machine.execEthLinkUp p r full s
  | .ethLinkTimeout p => Sys2Proof.Machine.execEthLinkTimeout p s
  | .ethLinkLost p => Sys2Proof.Machine.execEthLinkLost p s
  | .ethSleepCmd init p => Sys2Proof.Machine.execEthSleepCmd init p s
  | .ethWakeCmd init p => Sys2Proof.Machine.execEthWakeCmd init p s
  | .ethRetrainCmd init p => Sys2Proof.Machine.execEthRetrainCmd init p s
  | .ethPhyResetCmd init p => Sys2Proof.Machine.execEthPhyResetCmd init p s
  | .phyResetPulseEnd p => Sys2Proof.Machine.execPhyResetPulseEnd p s
  | .phyRstRelease => Sys2Proof.Machine.execPhyRstRelease s
  | .ethLoopWrite init p v => Sys2Proof.Machine.execEthLoopWrite init p v s
  | .ethSleepDrainEnd p => Sys2Proof.Machine.execEthSleepDrainEnd p s
  | .ethSleepDrainTimeout p => Sys2Proof.Machine.execEthSleepDrainTimeout p s
  | .ethSleepAckReceived p => Sys2Proof.Machine.execEthSleepAckReceived p s
  | .ethSleepAckTimeout p => Sys2Proof.Machine.execEthSleepAckTimeout p s
  | .ethSleepRequestReceived p => Sys2Proof.Machine.execEthSleepRequestReceived p s
  | .ethWakeRequestReceived p => Sys2Proof.Machine.execEthWakeRequestReceived p s
  | .ethWakePulseDetected p => Sys2Proof.Machine.execEthWakePulseDetected p s
  | .ethPhyInt p => Sys2Proof.Machine.execEthPhyInt p s
  | .mdioGo init p low => Sys2Proof.Machine.execMdioGo init p low s
  | .mdioDone bus resp => Sys2Proof.Machine.execMdioDone bus resp s
  | .learnEngineWrite => Sys2Proof.Machine.execLearnEngineWrite s
  | .agerVisit b => Sys2Proof.Machine.execAgerVisit b s
  | .ageRemoval => Sys2Proof.Machine.execAgeRemoval s
  | .l2RehashStart init low => Sys2Proof.Machine.execL2RehashStart init low s
  | .rehashPassEnd => Sys2Proof.Machine.execRehashPassEnd s
  | .rehashStallRetry => Sys2Proof.Machine.execRehashStallRetry s
  | .l2CmdRead init => Sys2Proof.Machine.execL2CmdRead init s
  | .l2CmdStageStatic init => Sys2Proof.Machine.execL2CmdStageStatic init s
  | .l2CmdStageDelete init => Sys2Proof.Machine.execL2CmdStageDelete init s
  | .l2CmdRemoveLearned init => Sys2Proof.Machine.execL2CmdRemoveLearned init s
  | .l2CmdFlushPort init => Sys2Proof.Machine.execL2CmdFlushPort init s
  | .l2CmdFlushFid init => Sys2Proof.Machine.execL2CmdFlushFid init s
  | .l2CmdBadOp init seven => Sys2Proof.Machine.execL2CmdBadOp init seven s
  | .l2CmdComplete => Sys2Proof.Machine.execL2CmdComplete s
  | .seamStageInsert init v6 => Sys2Proof.Machine.execSeamStageInsert init v6 s
  | .seamStageDelete init v6 => Sys2Proof.Machine.execSeamStageDelete init v6 s
  | .seamTestLookup init v6 => Sys2Proof.Machine.execSeamTestLookup init v6 s
  | .seamBadOp init v6 => Sys2Proof.Machine.execSeamBadOp init v6 s
  | .seamCmdComplete => Sys2Proof.Machine.execSeamCmdComplete s
  | .canEnable init p low => Sys2Proof.Machine.execCanEnable init p low s
  | .canDisable init p low => Sys2Proof.Machine.execCanDisable init p low s
  | .canIntegrateDone p => Sys2Proof.Machine.execCanIntegrateDone p s
  | .canFrameReceived p f => Sys2Proof.Machine.execCanFrameReceived p f s
  | .canProtocolException p b => Sys2Proof.Machine.execCanProtocolException p b s
  | .canArbitration p won => Sys2Proof.Machine.execCanArbitration p won s
  | .canFrameSent p => Sys2Proof.Machine.execCanFrameSent p s
  | .canBusError p transmitting inc => Sys2Proof.Machine.execCanBusError p transmitting inc s
  | .canBusoffDelay p => Sys2Proof.Machine.execCanBusoffDelay p s
  | .canRecoverCmd init p => Sys2Proof.Machine.execCanRecoverCmd init p s
  | .canBusoffRecovered p => Sys2Proof.Machine.execCanBusoffRecovered p s
  | .canObjTake init p => Sys2Proof.Machine.execCanObjTake init p s
  | .canObjStore init p => Sys2Proof.Machine.execCanObjStore init p s
  | .canObjSend init p => Sys2Proof.Machine.execCanObjSend init p s
  | .canObjAbort init p => Sys2Proof.Machine.execCanObjAbort init p s
  | .canFifoPop init p n spec => Sys2Proof.Machine.execCanFifoPop init p n spec s
  | .canFifoConfig init p n v => Sys2Proof.Machine.execCanFifoConfig init p n v s
  | .cantTxdDomTimeout p => Sys2Proof.Machine.execCantTxdDomTimeout p s
  | .cantBusDomTimeout p => Sys2Proof.Machine.execCantBusDomTimeout p s
  | .cantOvertemp p => Sys2Proof.Machine.execCantOvertemp p s
  | .cantUndervoltage p => Sys2Proof.Machine.execCantUndervoltage p s
  | .cantFaultClear p f => Sys2Proof.Machine.execCantFaultClear p f s
  | .linEnable init p low => Sys2Proof.Machine.execLinEnable init p low s
  | .linDisable init p low => Sys2Proof.Machine.execLinDisable init p low s
  | .linSchedGo init p t => Sys2Proof.Machine.execLinSchedGo init p t s
  | .linSlotStart p => Sys2Proof.Machine.execLinSlotStart p s
  | .linResponseComplete p data => Sys2Proof.Machine.execLinResponseComplete p data s
  | .linBitError p => Sys2Proof.Machine.execLinBitError p s
  | .linSlotEnd p e => Sys2Proof.Machine.execLinSlotEnd p e s
  | .linHostCommit init p e data => Sys2Proof.Machine.execLinHostCommit init p e data s
  | .linSentryWrite init p e v => Sys2Proof.Machine.execLinSentryWrite init p e v s
  | .lintTxdDomTimeout p => Sys2Proof.Machine.execLintTxdDomTimeout p s
  | .lintBusDomTimeout p => Sys2Proof.Machine.execLintBusDomTimeout p s
  | .lintOvertemp p => Sys2Proof.Machine.execLintOvertemp p s
  | .seExtract e => Sys2Proof.Machine.execSeExtract e s
  | .signalTimeout k => Sys2Proof.Machine.execSignalTimeout k s
  | .sigValueWrite init v => Sys2Proof.Machine.execSigValueWrite init v s
  | .bodySourceReport k => Sys2Proof.Machine.execBodySourceReport k s
  | .sinkChOn => Sys2Proof.Machine.execSinkChOn s
  | .sinkChDuty => Sys2Proof.Machine.execSinkChDuty s
  | .sinkChPhase => Sys2Proof.Machine.execSinkChPhase s
  | .sinkMeMove => Sys2Proof.Machine.execSinkMeMove s
  | .sinkMeMode => Sys2Proof.Machine.execSinkMeMode s
  | .pduCyclicDue j => Sys2Proof.Machine.execPduCyclicDue j s
  | .pduSendCmd init => Sys2Proof.Machine.execPduSendCmd init s
  | .pduMdtExpiry j => Sys2Proof.Machine.execPduMdtExpiry j s
  | .pduRepeatExpiry j => Sys2Proof.Machine.execPduRepeatExpiry j s
  | .pduBuild e => Sys2Proof.Machine.execPduBuild e s
  | .wbRefill init => Sys2Proof.Machine.execWbRefill init s
  | .streamUnblock init => Sys2Proof.Machine.execStreamUnblock init s
  | .macsecScWrite init v => Sys2Proof.Machine.execMacsecScWrite init v s
  | .macsecSaWrite init v => Sys2Proof.Machine.execMacsecSaWrite init v s
  | .macsecSwitch init autoSw => Sys2Proof.Machine.execMacsecSwitch init autoSw s
  | .axisEnable init n low => Sys2Proof.Machine.execAxisEnable init n low s
  | .axisDisable init n low => Sys2Proof.Machine.execAxisDisable init n low s
  | .axisMeasuredUpdate n up => Sys2Proof.Machine.execAxisMeasuredUpdate n up s
  | .axisStallTimeout n => Sys2Proof.Machine.execAxisStallTimeout n s
  | .ax0Step init => Sys2Proof.Machine.execAx0Step init s
  | .ax0Mark init => Sys2Proof.Machine.execAx0Mark init s
  | .ax0Unsync init => Sys2Proof.Machine.execAx0Unsync init s
  | .ax0ServoUpdate init slew v => Sys2Proof.Machine.execAx0ServoUpdate init slew v s
  | .ax0HoldoverTimeout => Sys2Proof.Machine.execAx0HoldoverTimeout s
  | .ax0CopyUpdate => Sys2Proof.Machine.execAx0CopyUpdate s
  | .gptpFrameReceived p d sec ns => Sys2Proof.Machine.execGptpFrameReceived p d sec ns s
  | .eventArm init => Sys2Proof.Machine.execEventArm init s
  | .eventDisarm init => Sys2Proof.Machine.execEventDisarm init s
  | .eventGroupArm init => Sys2Proof.Machine.execEventGroupArm init s
  | .eventGroupDisarm init => Sys2Proof.Machine.execEventGroupDisarm init s
  | .eventPoolEvaluate => Sys2Proof.Machine.execEventPoolEvaluate s
  | .actionMark => Sys2Proof.Machine.execActionMark s
  | .actionLaunch => Sys2Proof.Machine.execActionLaunch s
  | .actionSendPdu => Sys2Proof.Machine.execActionSendPdu s
  | .actionGate => Sys2Proof.Machine.execActionGate s
  | .actionSgate => Sys2Proof.Machine.execActionSgate s
  | .actionChOn => Sys2Proof.Machine.execActionChOn s
  | .actionChDuty => Sys2Proof.Machine.execActionChDuty s
  | .actionChPhase => Sys2Proof.Machine.execActionChPhase s
  | .actionSample x => Sys2Proof.Machine.execActionSample x s
  | .actionSetSignal => Sys2Proof.Machine.execActionSetSignal s
  | .actionMeMove => Sys2Proof.Machine.execActionMeMove s
  | .actionMeMode => Sys2Proof.Machine.execActionMeMode s
  | .actionGroups => Sys2Proof.Machine.execActionGroups s
  | .ixTimedActionApply => Sys2Proof.Machine.execIxTimedActionApply s
  | .launchFetch r l => Sys2Proof.Machine.execLaunchFetch r l s
  | .stampTxqPop init spec => Sys2Proof.Machine.execStampTxqPop init spec s
  | .stampWaitExpiry p c => Sys2Proof.Machine.execStampWaitExpiry p c s
  | .stampAgeExpiry p => Sys2Proof.Machine.execStampAgeExpiry p s
  | .stampMissPop init spec => Sys2Proof.Machine.execStampMissPop init spec s
  | .chCommand init n on => Sys2Proof.Machine.execChCommand init n on s
  | .chPeriodStart n => Sys2Proof.Machine.execChPeriodStart n s
  | .chCurrentSample n code => Sys2Proof.Machine.execChCurrentSample n code s
  | .chShortCircuit n => Sys2Proof.Machine.execChShortCircuit n s
  | .chOvercurrent n ma => Sys2Proof.Machine.execChOvercurrent n ma s
  | .chThermalTrip n => Sys2Proof.Machine.execChThermalTrip n s
  | .chThermalLatchClear n => Sys2Proof.Machine.execChThermalLatchClear n s
  | .chRetryDelayElapsed n => Sys2Proof.Machine.execChRetryDelayElapsed n s
  | .chFaultFreeSecond n => Sys2Proof.Machine.execChFaultFreeSecond n s
  | .chClear init n => Sys2Proof.Machine.execChClear init n s
  | .chDiagCmd init n => Sys2Proof.Machine.execChDiagCmd init n s
  | .chOffStateTest n => Sys2Proof.Machine.execChOffStateTest n s
  | .chOffTestComplete n v1 v2 => Sys2Proof.Machine.execChOffTestComplete n v1 v2 s
  | .hbModeChange init k mode => Sys2Proof.Machine.execHbModeChange init k mode s
  | .hbDeadTimeEnd k => Sys2Proof.Machine.execHbDeadTimeEnd k s
  | .thermUpdate slug => Sys2Proof.Machine.execThermUpdate slug s
  | .thermDerateStep k => Sys2Proof.Machine.execThermDerateStep k s
  | .thermRestoreStep k => Sys2Proof.Machine.execThermRestoreStep k s
  | .chgResume init => Sys2Proof.Machine.execChgResume init s
  | .holdMaxExpiry => Sys2Proof.Machine.execHoldMaxExpiry s
  | .swSample n high => Sys2Proof.Machine.execSwSample n high s
  | .swEdge n high => Sys2Proof.Machine.execSwEdge n high s
  | .cyclicSenseCycle levels => Sys2Proof.Machine.execCyclicSenseCycle levels s
  | .anConversion n mv => Sys2Proof.Machine.execAnConversion n mv s
  | .meEnable init k en => Sys2Proof.Machine.execMeEnable init k en s
  | .meModeWrite init k mode => Sys2Proof.Machine.execMeModeWrite init k mode s
  | .meTargetWrite init k target => Sys2Proof.Machine.execMeTargetWrite init k target s
  | .meSetpos init k => Sys2Proof.Machine.execMeSetpos init k s
  | .meRampStep k volt => Sys2Proof.Machine.execMeRampStep k volt s
  | .meRippleSample k us volt cur crossing => Sys2Proof.Machine.execMeRippleSample k us volt cur crossing s
  | .meRippleInsert k us volt cur => Sys2Proof.Machine.execMeRippleInsert k us volt cur s
  | .meHallEdge k us up => Sys2Proof.Machine.execMeHallEdge k us up s
  | .meEndStop k => Sys2Proof.Machine.execMeEndStop k s
  | .meForceEstimate k ma => Sys2Proof.Machine.execMeForceEstimate k ma s
  | .meReverseBrakeEnd k => Sys2Proof.Machine.execMeReverseBrakeEnd k s
  | .meParkTimeout k => Sys2Proof.Machine.execMeParkTimeout k s
  | .meSettleElapsed k => Sys2Proof.Machine.execMeSettleElapsed k s
  | .networkWakeDetected n => Sys2Proof.Machine.execNetworkWakeDetected n s
  | .cantWufFrameDecoded p f => Sys2Proof.Machine.execCantWufFrameDecoded p f s
  | .wakeIoWake => Sys2Proof.Machine.execWakeIoWake s
  | .wakeIoPulseEnd => Sys2Proof.Machine.execWakeIoPulseEnd s
  | .wkTimerExpiry => Sys2Proof.Machine.execWkTimerExpiry s
  | .pncLocalWrite init v => Sys2Proof.Machine.execPncLocalWrite init v s
  | .pncHoldExpiry h => Sys2Proof.Machine.execPncHoldExpiry h s
  | .netReadyDelayExpiry n => Sys2Proof.Machine.execNetReadyDelayExpiry n s
  | .trxSwitchComplete n => Sys2Proof.Machine.execTrxSwitchComplete n s
  | .nmEnable init v => Sys2Proof.Machine.execNmEnable init v s
  | .nmMessageReceived p m => Sys2Proof.Machine.execNmMessageReceived p m s
  | .nmTtypExpiry p => Sys2Proof.Machine.execNmTtypExpiry p s
  | .nmTmaxTimeout p => Sys2Proof.Machine.execNmTmaxTimeout p s
  | .nmTerrTimer p => Sys2Proof.Machine.execNmTerrTimer p s
  | .nmTwbsExpiry p => Sys2Proof.Machine.execNmTwbsExpiry p s
  | .linWakeRestart p => Sys2Proof.Machine.execLinWakeRestart p s
  | .pwrPark init => Sys2Proof.Machine.execPwrPark init s
  | .pwrCancel init => Sys2Proof.Machine.execPwrCancel init s
  | .parkDelayExpiry => Sys2Proof.Machine.execParkDelayExpiry s
  | .parkEntryBegin => Sys2Proof.Machine.execParkEntryBegin s
  | .parkMeWaitExpiry => Sys2Proof.Machine.execParkMeWaitExpiry s
  | .ixSelftestDone fail => Sys2Proof.Machine.execIxSelftestDone fail s
  | .memorySelftestDone fails => Sys2Proof.Machine.execMemorySelftestDone fails s
  | .gxSelftestDone fail => Sys2Proof.Machine.execGxSelftestDone fail s
  | .deepAfterExpiry => Sys2Proof.Machine.execDeepAfterExpiry s
  | .startupCheckDone fails => Sys2Proof.Machine.execStartupCheckDone fails s
  | .softReset init => Sys2Proof.Machine.execSoftReset init s
  | .mpwarmReset src => Sys2Proof.Machine.execMpwarmReset src s
  | .mpRestart => Sys2Proof.Machine.execMpRestart s
  | .trmClaim init ptr => Sys2Proof.Machine.execTrmClaim init ptr s
  | .trmDataAccess init w spec => Sys2Proof.Machine.execTrmDataAccess init w spec s
  | .trmLeaseExpiry => Sys2Proof.Machine.execTrmLeaseExpiry s
  | .trmLcAdvance init ecdsaOk hssOk => Sys2Proof.Machine.execTrmLcAdvance init ecdsaOk hssOk s
  | .trmRootInstall init ecdsaOk hssOk live => Sys2Proof.Machine.execTrmRootInstall init ecdsaOk hssOk live s
  | .trmDebugOpen init ecdsaOk hssOk => Sys2Proof.Machine.execTrmDebugOpen init ecdsaOk hssOk s
  | .trmDebugClose init => Sys2Proof.Machine.execTrmDebugClose init s
  | .trmNonce init => Sys2Proof.Machine.execTrmNonce init s
  | .trmHssInstall init ecdsaOk hssOk => Sys2Proof.Machine.execTrmHssInstall init ecdsaOk hssOk s
  | .trmAttest init => Sys2Proof.Machine.execTrmAttest init s
  | .trmRelease init => Sys2Proof.Machine.execTrmRelease init s
  | .trmBadOp init op => Sys2Proof.Machine.execTrmBadOp init op s
  | .trustOpComplete writeOk => Sys2Proof.Machine.execTrustOpComplete writeOk s
  | .debugSessionExpiry => Sys2Proof.Machine.execDebugSessionExpiry s
  | .ksShadowWrite init k v => Sys2Proof.Machine.execKsShadowWrite init k v s
  | .ksUnwrapDone k => Sys2Proof.Machine.execKsUnwrapDone k s
  | .ksCommit init => Sys2Proof.Machine.execKsCommit init s
  | .ksDiscard init => Sys2Proof.Machine.execKsDiscard init s
  | .ksPersist init => Sys2Proof.Machine.execKsPersist init s
  | .ksShadowLeaseExpiry k => Sys2Proof.Machine.execKsShadowLeaseExpiry k s
  | .tamperDetected src => Sys2Proof.Machine.execTamperDetected src s
  | .updBlockReceived flashOk => Sys2Proof.Machine.execUpdBlockReceived flashOk s
  | .updAckReceived => Sys2Proof.Machine.execUpdAckReceived s
  | .updBlockResend stream blk => Sys2Proof.Machine.execUpdBlockResend stream blk s
  | .updStreamTimeout => Sys2Proof.Machine.execUpdStreamTimeout s
  | .updVerifyDone ec hs digest => Sys2Proof.Machine.execUpdVerifyDone ec hs digest s
  | .updInstallDone ok => Sys2Proof.Machine.execUpdInstallDone ok s
  | .updConfirm init => Sys2Proof.Machine.execUpdConfirm init s
  | .updDiscard init => Sys2Proof.Machine.execUpdDiscard init s
  | .updArm init => Sys2Proof.Machine.execUpdArm init s
  | .updCancel init => Sys2Proof.Machine.execUpdCancel init s
  | .updRecover init => Sys2Proof.Machine.execUpdRecover init s
  | .updActivationStart => Sys2Proof.Machine.execUpdActivationStart s
  | .updActivationStep fails image => Sys2Proof.Machine.execUpdActivationStep fails image s
  | .updTrialTimeout => Sys2Proof.Machine.execUpdTrialTimeout s
  | .kmpHelloTimer n => Sys2Proof.Machine.execKmpHelloTimer n s
  | .kmpKeepaliveTimer n => Sys2Proof.Machine.execKmpKeepaliveTimer n s
  | .kmpResendTimer n k => Sys2Proof.Machine.execKmpResendTimer n k s
  | .kmpPeerTimeout n => Sys2Proof.Machine.execKmpPeerTimeout n s
  | .kmpHelloReceived n f => Sys2Proof.Machine.execKmpHelloReceived n f s
  | .kmpKeepaliveReceived n f => Sys2Proof.Machine.execKmpKeepaliveReceived n f s
  | .kmpWriteReceived n f => Sys2Proof.Machine.execKmpWriteReceived n f s
  | .kmpReadReceived n f => Sys2Proof.Machine.execKmpReadReceived n f s
  | .kmpInboundReadPerform n => Sys2Proof.Machine.execKmpInboundReadPerform n s
  | .kmpInboundLeaseExpiry n => Sys2Proof.Machine.execKmpInboundLeaseExpiry n s
  | .kmpResponseReceived n f => Sys2Proof.Machine.execKmpResponseReceived n f s
  | .kmpEventReceived n f => Sys2Proof.Machine.execKmpEventReceived n f s
  | .kmpUpdSegReceived n f => Sys2Proof.Machine.execKmpUpdSegReceived n f s
  | .kmpUpdAckReceived n f => Sys2Proof.Machine.execKmpUpdAckReceived n f s
  | .kmpRetryResend k => Sys2Proof.Machine.execKmpRetryResend k s
  | .kmpReadTimeout k => Sys2Proof.Machine.execKmpReadTimeout k s
  | .kmpPrefetchExpiry k => Sys2Proof.Machine.execKmpPrefetchExpiry k s
  | .kmpEventSend => Sys2Proof.Machine.execKmpEventSend s
  | .kmpPollTimer n => Sys2Proof.Machine.execKmpPollTimer n s
  | .drkMapWrite init v => Sys2Proof.Machine.execDrkMapWrite init v s
  | .unitWatchdogExpiry w => Sys2Proof.Machine.execUnitWatchdogExpiry w s
  | .wdKick init v => Sys2Proof.Machine.execWdKick init v s
  | .mpWatchdogExpiry => Sys2Proof.Machine.execMpWatchdogExpiry s
  | .hwWatchdogExpiry => Sys2Proof.Machine.execHwWatchdogExpiry s
  | .spoilPop init spec => Sys2Proof.Machine.execSpoilPop init spec s
  | .troublePop init spec => Sys2Proof.Machine.execTroublePop init spec s
  | .legacyWriteFrame bytes => Sys2Proof.Machine.execLegacyWriteFrame bytes s
  | .legacyReadFrame bytes => Sys2Proof.Machine.execLegacyReadFrame bytes s
  | .legacyRouteSlotCommit k v => Sys2Proof.Machine.execLegacyRouteSlotCommit k v s
  | .legacyMailboxTake p m => Sys2Proof.Machine.execLegacyMailboxTake p m s
  | .legacyMailboxStore p m v => Sys2Proof.Machine.execLegacyMailboxStore p m v s
  | .legacyCounterSnapshot k => Sys2Proof.Machine.execLegacyCounterSnapshot k s
  | .legacyOutDutyWrite n d => Sys2Proof.Machine.execLegacyOutDutyWrite n d s
  | .legacyCanEnable p listen => Sys2Proof.Machine.execLegacyCanEnable p listen s
  | .legacySrst => Sys2Proof.Machine.execLegacySrst s
  | .legacySleep => Sys2Proof.Machine.execLegacySleep s
  | .legacyUpdData v => Sys2Proof.Machine.execLegacyUpdData v s
  | .legacyUpdActivate => Sys2Proof.Machine.execLegacyUpdActivate s
  | .pinResetEnd => Sys2Proof.Machine.execPinResetEnd s
  | .pciePerstRelease => Sys2Proof.Machine.execPciePerstRelease s
  | .lintFaultClear p f => Sys2Proof.Machine.execLintFaultClear p f s
  | .ksPersistDone ok => Sys2Proof.Machine.execKsPersistDone ok s
  | .romRecoveryLoadDone ok => Sys2Proof.Machine.execRomRecoveryLoadDone ok s

end Sys2Proof.Machine
end

