-- ==== Sys2Proof/Safety.lean ====
section
/-! DEFINITION. The words in which statements about the block are made: a command that completes, a write or a read that nothing of the
common rules stops, the parts of the state a frame speaks of, and the invariant of every step. -/

namespace Sys2Proof.Machine

/-! ## Completion -/

/-- The command answers a next state, of which P holds. -/
def Completes (c : Instr) (s : State) (P : State → Prop) : Prop := ∃ t, exec c s = .next t ∧ P t

/-- The command has no effect: of the state only the record of outputs is made empty. -/
def Quiet (c : Instr) (s : State) : Prop := exec c s = .next (fresh s)

/-! ## Accesses -/

/-- What no register's own card says: the initiator's write to this register is neither ignored nor refused (R38, R39, R87, R411, R475).
The initiator reaches the registers, and the unit is READY. -/
abbrev WriteOpen (s : State) (init : Initiator) (w ofs : Nat) : Prop :=
  s.reaches init.code = true ∧ (unitOf w).isSome = true ∧ 0x20 ≤ ofs ∧ s.unitState w = usReady ∧ (init = .jtag → 2 ≤ s.debugLevel) ∧
    (s.pwr.mode = 2 → isLegacy w = true → init = .mp ∨ init = .spi) ∧ (0x100 ≤ ofs → init = .mp ∨ s.on w UNIT_CTRL.LOCK = false)

/-- The CMD field may be written 1: its register is open, and the field reads 0 (R8). -/
abbrev CmdOpen (s : State) (init : Initiator) (w : Nat) (f : Field) : Prop := WriteOpen s init w f.byteOfs ∧ s.on w f = false

/-- A read of the initiator is served (R38, R39, R411). -/
abbrev ReadOpen (s : State) (init : Initiator) (w : Nat) : Prop :=
  s.reaches init.code = true ∧ (unitOf w).isSome = true ∧ s.unitState w ≠ usOff ∧ (init = .jtag → 1 ≤ s.debugLevel)

/-- The address of a byte of a window (R36). -/
abbrev addrOf (w ofs : Nat) : Addr := BitVec.ofNat 24 (w * 4096 + ofs)

/-- A native register that a legacy write reaches is open to the personality: the write is neither ignored nor refused whatever the register
(R464, R466). -/
abbrev LegacyOpen (s : State) (w ofs : Nat) : Prop := s.writeIgnored w ofs = false ∧ s.commonKinds initSpi w ofs = []

/-- The rows that are one write of the legacy map. -/
def IsLegacyPut : Instr → Bool
  | .legacyRouteSlotCommit _ _ | .legacyMailboxStore _ _ _ | .legacyOutDutyWrite _ _ | .legacyCanEnable _ _ | .legacySrst | .legacySleep
  | .legacyUpdData _ | .legacyUpdActivate => true
  | _ => false

/-- A frame of the legacy rows, of up to n bytes. -/
def IsLegacyFrame (n : Nat) : Instr → Bool
  | .legacyWriteFrame l | .legacyReadFrame l => l.length ≤ n
  | .legacyMailboxTake _ _ | .legacyCounterSnapshot _ => 3 ≤ n
  | c => IsLegacyPut c && 3 ≤ n

/-! ## Results -/

/-- A tally has counted one (R13). -/
abbrev OneMore (s t : State) (w : Nat) (f : Field) : Prop := t.rd w f = satAdd (s.rd w f) 1 f.width

/-- Unit event k of a window is pending. -/
abbrev EvSet (t : State) (w k : Nat) : Prop := bit (t.rd w UNIT_IRQ_PEND.EV) k = true

/-! ## Premises of the data path -/

/-- Route i of Bench g has one destination: signal engine e, which has room (R229 to R232). -/
abbrev ToEngine (s : State) (g i e : Nat) : Prop :=
  s.bench.phase = .idle ∧ s.answers wRoute = true ∧ s.ent g wRoute RT_ENTRY.VALID i = 1 ∧ s.ent g wRoute RT_ENTRY.KIND i = 0 ∧
    1 ≤ s.ent g wRoute RT_ENTRY.DCOUNT i ∧ s.ent g wDlist DL_ENTRY.LAST (s.ent g wRoute RT_ENTRY.DL_INDEX i % 32768) = 1 ∧
    s.ent g wDlist DL_ENTRY.PORT (s.ent g wRoute RT_ENTRY.DL_INDEX i % 32768) = 0x50 + e ∧ s.inRom (wSE e) = false ∧
    (s.exq e).length < 512

/-- What stage 6 puts on the engine's queue for an item of route i. -/
def extractOf (s : State) (it : PipeItem) (d : List Nat) (i : Nat) : EngineWork :=
  .pdu ⟨it.fid, d.drop (s.ent it.gen wRoute RT_ENTRY.PDU_OFS i), s.ent it.gen wRoute RT_ENTRY.SIG_FIRST i,
    s.ent it.gen wRoute RT_ENTRY.SIG_COUNT i, it.gen, true⟩

/-- No mirror session runs. -/
abbrev NoMirror (s : State) : Prop := ((List.range 4).all fun k => !s.mirrorOn k) = true

/-- Key slot k is usable by the CMAC engines, which have their microcode (R403, R423). -/
abbrev CmacReady (s : State) (g c e : Nat) : Prop :=
  s.ent g wAuth AUTH_CTX.VALID c = 1 ∧ s.keyUsable (s.ctx g AUTH_CTX.KEY c) useCmac 0 = true ∧ s.fvState c = fvSync ∧
    s.cmacWorks e = true ∧ s.ctx g AUTH_CTX.AUTH_LEN c = 0

/-- The state in which the pipeline holds one item, with these bytes, that waits at stage 5 under context c. -/
def verifyItem (s : State) (c : Nat) (it : PipeItem) (f : Frame) (d : List Nat) : State :=
  s.setFab { s.fab with pipe := [{ it with data := d, stage := .atVerify, inCtx := c }], frames := [f] }

/-- PDU entry j runs, its engine e has its microcode, and the engine's build queue takes it (R249, R251, R423). -/
abbrev CanBuild (s : State) (j e : Nat) : Prop :=
  s.pduRuns j = true ∧ s.pdu (s.genOf wPdu) PDU_ENTRY.SE j = e ∧ s.inRom (wSE e) = false ∧
    ((List.range 4).all fun e => !(s.bq e).contains j) = true ∧ (s.bq e).length < 64

/-- Destination entry i of the Bench in force is CAN port p alone, in the format of the frame, without a trailer (R231, R235). -/
abbrev ToCan (s : State) (i p : Nat) : Prop :=
  s.ent (s.genOf wDlist) wDlist DL_ENTRY.LAST (i % 32768) = 1 ∧ s.ent (s.genOf wDlist) wDlist DL_ENTRY.PORT (i % 32768) = 0x10 + p ∧
    s.ent (s.genOf wDlist) wDlist DL_ENTRY.OUT_FMT (i % 32768) = 0 ∧ s.ent (s.genOf wDlist) wDlist DL_ENTRY.OUT_CTX (i % 32768) = 0

/-! ## Premises of the body -/

/-- Channel n is in OFF and NORMAL, acts on its registers, has a period and no thermal latch (R323, R327, R328). -/
abbrev ChIdle (s : State) (n : Nat) : Prop :=
  s.isSafe (wCh n) = false ∧ s.ctrl n = ctrlNormal ∧ s.prot n = protOff ∧ (s.chan n).hot = false ∧ s.rd (wCh n) CH_PERIOD.PERIOD ≠ 0

/-! ## Premises of the axes and events -/

/-- An action of kind k, on a target with an argument, has been fired by event i and is the oldest to be issued (R307, R308). -/
abbrev Issued (s : State) (i k x g : Nat) : State := s.setEvp { s.evp with queue := ⟨i, k, x, g⟩ :: s.evp.queue }

/-- The occurrence of event i has ended delivered, and its action waits no more (R305). -/
abbrev ActDone (s t : State) (i : Nat) : Prop :=
  OneMore s t wEvp EVP_DELIVERED.COUNT ∧ t.rd wEvp EVP_STATE.LAST i = 0 ∧ t.evp.queue = s.evp.queue

/-! ## Premises of Derrick -/

/-- Derrick takes a frame of this TYPE: KMP runs on the port, and no reason to drop it holds (R430 to R433). -/
abbrev KmpAccepted (s : State) (n ty : Nat) (f : KmpRx) : Prop := s.kmpOn n = true ∧ s.kmpFault n ty f = none

/-! ## Frames -/

/-- The parts of the state. The pending interrupts, IRQ_N and the counters of the legacy personality, which a unit event may change, are a
part of their own. -/
inductive Part where
  | regs | wbuf | holds | fans | host | cfg | bench | fab | eth | tbl | flt | ax0 | pins | pwr | body | can | lin | wake
  | guard | gw | trust | stamps | axes | evp | upd | drk | leg | clk | draws | outs | irq
  deriving DecidableEq, Repr

/-- A part is the same in two states; the parity of the registers goes with them. -/
def sameIn (s t : State) : Part → Prop
  | .regs => t.regs = s.regs ∧ t.parity = s.parity
  | .wbuf => t.wbuf = s.wbuf
  | .holds => t.holds = s.holds
  | .fans => t.fans = s.fans
  | .host => { t.host with pba := 0 } = { s.host with pba := 0 }
  | .cfg => t.cfg = s.cfg
  | .bench => t.bench = s.bench
  | .fab => t.fab = s.fab
  | .eth => t.eth = s.eth
  | .tbl => t.tbl = s.tbl
  | .flt => t.flt = s.flt
  | .ax0 => t.ax0 = s.ax0
  | .pins => { t.pins with irqLow := false } = { s.pins with irqLow := false }
  | .pwr => t.pwr = s.pwr
  | .body => t.body = s.body
  | .can => t.can = s.can
  | .lin => t.lin = s.lin
  | .wake => t.wake = s.wake
  | .guard => t.guard = s.guard
  | .gw => t.gw = s.gw
  | .trust => t.trust = s.trust
  | .stamps => t.stamps = s.stamps
  | .axes => t.axes = s.axes
  | .evp => t.evp = s.evp
  | .upd => t.upd = s.upd
  | .drk => t.drk = s.drk
  | .leg => { t.leg with irq := 0, ctr := [] } = { s.leg with irq := 0, ctr := [] }
  | .clk => t.clk = s.clk
  | .draws => t.draws = s.draws
  | .outs => t.outs = s.outs
  | .irq => t.host.pba = s.host.pba ∧ t.pins.irqLow = s.pins.irqLow ∧ t.leg.irq = s.leg.irq ∧ t.leg.ctr = s.leg.ctr

/-- At most the listed parts differ. -/
def OnlyTouches (l : List Part) (s t : State) : Prop := ∀ p, p ∉ l → sameIn s t p

/-- Whatever state the command leads to, at most the listed parts differ from those before it. -/
def FrameOf (c : Instr) (l : List Part) : Prop := ∀ s t, exec c s = .next t → OnlyTouches l s t

/-- Whatever state the command leads to, the listed parts are as before. -/
def FrameBut (c : Instr) (l : List Part) : Prop := ∀ s t, exec c s = .next t → ∀ p, p ∈ l → sameIn s t p

/-- No register differs but in the listed windows. -/
def RegsSame (ws : List Nat) (s t : State) : Prop := ∀ w f i, f ∈ fieldsAt w → w ∉ ws → t.rd w f i = s.rd w f i

/-- Whatever state the command leads to, no register differs from before but in the listed windows. -/
def RegsWithin (c : Instr) (ws : List Nat) : Prop := ∀ s t, exec c s = .next t → RegsSame ws s t

/-! ## Access violations -/

/-- The fields that a refused access may change: VIOL with its record, and in the window or the root the pending events and the tallies of
the logs (R87, R104, R453, R457). -/
def violationFields : List Field :=
  [UNIT_STICKY.VIOL, VIOL_ADDR.ADDR, VIOL_ADDR.INIT, VIOL_ADDR.KIND, VIOL_ADDR.WR, VIOL_ADDR.OVR, VIOL_ADDR.WDATA, UNIT_IRQ_PEND.EV,
    UNIT_IRQ_PEND.TROUBLE, SPOIL_OVERWRITTEN.COUNT, SPOIL_REASON_CNT.COUNT]

/-- From s to t nothing has happened but an access violation in window w. -/
def Violation (s t : State) (w : Nat) : Prop :=
  t.on w UNIT_STICKY.VIOL = true ∧ OnlyTouches [.regs, .flt, .outs, .irq] s t ∧
    ∀ v f i, f ∈ fieldsAt v → v ∉ [w, wRoot] ∨ f ∉ violationFields → t.rd v f i = s.rd v f i

/-- This command, a write of 1 to field f of window w, is an access violation while the field reads 1, and the field still reads 1. -/
def BusyRefused (c : Initiator → Instr) (w : Nat) (f : Field) : Prop :=
  ∀ s init, WriteOpen s init w f.ofs → s.on w f = true → Completes (c init) s fun t => Violation s t w ∧ t.on w f = true

/-! ## The invariant -/

/-- The register file, the write buffers, the holds and the axes are in canonical form, and the two logs and the start counter are within
their size (R453, R457). -/
def Canon (s : State) : Prop :=
  s.regs.sorted = true ∧ s.wbuf.sorted = true ∧ Tab.sorted s.holds = true ∧ Tab.sorted s.axes = true ∧
    s.flt.trouble.length ≤ 64 ∧ s.flt.spoil.length ≤ 1024 ∧ s.flt.starts < 2 ^ 32

end Sys2Proof.Machine
end

