-- ==== Sys2Proof/Certificates/Slice0/Obligations.lean ====
section
/-! DEFINITION. The statements about the block, each a proposition for the provers. What a command does is said by the next state it answers
from every state that meets the clause's hypotheses. -/

open Sys2Proof Sys2Proof.Machine

/-- For each command the next state holds what is named here. R380, R67: from OFF a power-on reset leads to RUN with GX_PWR_EN high or, with VBAT_PERM in BOR, to BACKUP with it low. The loss of the AON supply leads to OFF with GX_PWR_EN low, the wake logic as at reset and OTP kept. A BOR leads to BACKUP with GX_PWR_EN low and GX not running; its end leads from BACKUP to RUN, with GX_PWR_EN high at once, or a start wanted while an off time runs. R69: GX_PGOOD high while GX_PWR_EN is high is recorded; GX reset is released in RUN outside a park entry with both high, RST_N high and no BOR, and the start counter goes on. R70: the first and the second failed attempt remove power, start an off time and want a start; the third removes power, wants none and sets PGOOD_FAIL. R71: a loss of GX power removes GX_PWR_EN, starts an off time and wants a start. R72: the end of the off time raises GX_PWR_EN where a start is wanted in RUN. R74: a lost reference while GX is powered sets CLK_LOSS and takes GX into reset. R30: a lost heartbeat takes a running GX into reset. -/
def Obligations.SupplyAndGxPowerComplete : Prop :=
  (∀ (s : State) (b : Bool), s.pwr.state = .off → Completes (.powerOnReset b) s fun t =>
    t.pwr.state = (if b then .run else .backup) ∧ t.pins.bor = !b ∧ t.pins.pwrEn = b ∧ t.gxOn = false) ∧
  (∀ (s : State), s.pwr.state ≠ .off → Completes .aonSupplyLost s fun t =>
    t.pwr.state = .off ∧ t.pins.pwrEn = false ∧ t.gxOn = false ∧ t.wake = WakeSt.reset ∧ t.trust.otp = s.trust.otp) ∧
  (∀ (s : State), s.pwr.state ≠ .off → s.pins.bor = false → Completes .borBegin s fun t =>
    t.pwr.state = .backup ∧ t.pins.bor = true ∧ t.pins.pwrEn = false ∧ t.gxOn = false) ∧
  (∀ (s : State), s.pwr.state = .backup → Completes .borEnd s fun t =>
    t.pwr.state = .run ∧ t.pins.bor = false ∧ (s.pins.offTime = false → t.pins.pwrEn = true) ∧
    (s.pins.offTime = true → t.pins.startWanted = true)) ∧
  (∀ (s : State), s.pins.pwrEn = true → Completes .gxPgoodHigh s fun t =>
    t.pins.pgood = true ∧ t.pins.attempts = 0 ∧ t.on wSup SUP_PINS.PGOOD = true) ∧
  (∀ (s : State) (x : Bool), s.pwr.state = .run → s.pwr.entryStep = none → s.pins.pwrEn = true → s.pins.pgood = true → s.pins.rstLow = false → s.pins.bor = false → s.gxOn = false → Completes (.gxResetRelease x) s fun t =>
    t.gxOn = true ∧ t.flt.starts = (s.flt.starts + 1) % 2 ^ 32 ∧ t.on wSup SUP_STRAP.XSRC = x ∧ t.rd wPwr PWR_RST_CAUSE.KIND = s.pwr.cause % 16) ∧
  (∀ (s : State), s.pins.pwrEn = true → s.pins.pgood = false → s.pins.attempts < 2 → Completes .gxPgoodTimeout s fun t =>
    t.pins.pwrEn = false ∧ t.pins.offTime = true ∧ t.pins.startWanted = true ∧ t.pins.attempts = s.pins.attempts + 1) ∧
  (∀ (s : State), s.pins.pwrEn = true → s.pins.pgood = false → 2 ≤ s.pins.attempts → Completes .gxPgoodTimeout s fun t =>
    t.pins.pwrEn = false ∧ t.pins.startWanted = false ∧ t.pins.attempts = 0 ∧ t.on wSup SUP_STRAP.PGOOD_FAIL = true) ∧
  (∀ (s : State), s.pins.pwrEn = true → s.pins.pgood = true → Completes .gxPgoodLost s fun t =>
    t.pins.pwrEn = false ∧ t.pins.pgood = false ∧ t.pins.offTime = true ∧ t.pins.startWanted = true ∧ t.gxOn = false) ∧
  (∀ (s : State), Completes .offTimeEnd s fun t =>
    t.pins.offTime = false ∧ t.pins.startWanted = false ∧ (s.pins.startWanted = true ∧ s.pwr.state = .run → t.pins.pwrEn = true)) ∧
  (∀ (s : State), s.pins.pwrEn = true → s.pins.pgood = true → Completes .clockLoss s fun t =>
    t.gxOn = false ∧ t.on wSup SUP_STRAP.CLK_LOSS = true) ∧
  (∀ (s : State), s.gxOn = true → Completes .gxHeartbeatLost s fun t =>
    t.gxOn = false ∧ t.pwr.state = s.pwr.state)

/-- For each command the next state holds what is named here. R57, R389: RST_N low outside OFF holds GX in reset and makes a sample of the MODE strap due; RST_N high ends that and writes no register, and where the module runs with GX_PWR_EN low and no off time it raises GX_PWR_EN (R70). R59: a sample that is due records the code of the strap table, and MODE_ERR with code 0 for a reading outside its rows; with code 1 or 2 the SPI face has the legacy framing (R463). R60: outside OFF the bit of SUP_PINS.LIMP follows the filtered edge. R61: SAFE reads 1 exactly while GX does not run, its heartbeat is missing, HOLDING reads 1 or a channel is in FAILOFF or LIMP. -/
def Obligations.SupervisorPinsComplete : Prop :=
  (∀ (s : State), s.pwr.state ≠ .off → Completes .pinReset s fun t =>
    t.pins.rstLow = true ∧ t.gxOn = false ∧ t.pwr.modeDue = true) ∧
  (∀ (s : State), Completes .pinResetEnd s fun t =>
    t.pins.rstLow = false ∧ t.regs = s.regs ∧ (s.running = true ∧ s.gxOn = false ∧ s.pins.pwrEn = false ∧ s.pins.offTime = false → t.pins.pwrEn = true)) ∧
  (∀ (s : State) (mv : Fin 4096), s.pwr.modeDue = true → s.pwr.state ≠ .off → Completes (.modeSample mv) s fun t =>
    t.pwr.modeDue = false ∧ (t.rd wSup SUP_STRAP.MODE_CODE ≠ 0 → t.leg.framing = true) ∧
    (mv.val < 200 → t.rd wSup SUP_STRAP.MODE_CODE = 0) ∧
    (300 ≤ mv.val ∧ mv.val ≤ 700 → t.rd wSup SUP_STRAP.MODE_CODE = 2) ∧
    (1100 ≤ mv.val ∧ mv.val ≤ 1900 → t.rd wSup SUP_STRAP.MODE_CODE = 1) ∧
    (200 ≤ mv.val ∧ mv.val < 300 ∨ 700 < mv.val ∧ mv.val < 1100 ∨ 1900 < mv.val →
    t.rd wSup SUP_STRAP.MODE_CODE = 0 ∧ t.on wSup SUP_STRAP.MODE_ERR = true)) ∧
  (∀ (s : State) (k : Fin 4) (high : Bool), s.pwr.state ≠ .off → Completes (.limpInEdge k high) s fun t =>
    (t.rd wSup SUP_PINS.LIMP).testBit k.val = high) ∧
  (∀ (s : State), Completes .safeNUpdate s fun t =>
    (t.on wSup SUP_PINS.SAFE = true ↔ s.gxOn = false ∨ s.pins.heartbeat = false ∨ s.on wChannels CHG_STAT.HOLDING = true ∨
    ∃ n ∈ List.range 72, s.rd (wCh n) CH_STATE.CTRL = ctrlFailoff ∨ s.rd (wCh n) CH_STATE.CTRL = ctrlLimp) ∧ t.pins = s.pins)

/-- For each command the next state holds what is named here. R5: a byte written to UNIT_IRQ_EN of a window that is open to the initiator is stored. R9 to R11: the read of the most significant byte of AX0_TIME answers that byte and leaves the whole value in the initiator's hold, and no register changes. R14: the read of the first byte of FAB_DELIVERED answers that byte, leaves the tally at 0 and its former value in the hold. R9, R98: a speculative read of it leaves the tally and the holds, sets SPEC_HIT, and is recorded in an empty HOST_SPEC_ADDR. A read that is of no most significant byte of a live value, or of no tally, is neither of these commands and has no effect. R49: both bytes of DESC_DRV are stored; a major version that the unit reports sets DESC_ACT to it with the lower of the two minors and VBASE to 0, another sets 1.0 and VBASE. -/
def Obligations.RegisterAccessComplete : Prop :=
  (∀ (s : State) (init : Initiator) (w : BitVec 12) (b : Byte), WriteOpen s init w.toNat 0x31 → Completes (.registerWrite init (addrOf w.toNat 0x31) b) s fun t =>
    t.rd w.toNat UNIT_IRQ_EN.EN = b.toNat ∧ t.pwr = s.pwr ∧ t.flt = s.flt) ∧
  (∀ (s : State) (init : Initiator), ReadOpen s init (wAx 0) → Completes (.liveValueMsbRead init (addrOf (wAx 0) 0x160)) s fun t =>
    t.heldValue init.code (wAx 0) 0x160 0 = some (s.ax0.sec % 2 ^ 48 * 2 ^ 32 + s.ax0.ns % 2 ^ 32) ∧
    t.outs = [.readData init.code [s.ax0.sec % 2 ^ 48 / 2 ^ 40]] ∧ t.regs = s.regs ∧ t.ax0 = s.ax0) ∧
  (∀ (s : State) (init : Initiator), ReadOpen s init wFabric → Completes (.tallySnapshotRead init (addrOf wFabric 0x140)) s fun t =>
    t.rd wFabric FAB_DELIVERED.COUNT = 0 ∧ t.heldValue init.code wFabric 0x140 0 = some (s.rd wFabric FAB_DELIVERED.COUNT) ∧
    t.outs = [.readData init.code [s.rd wFabric FAB_DELIVERED.COUNT / 2 ^ 24 % 256]]) ∧
  (∀ (s : State) (init : Initiator), ReadOpen s init wFabric → Completes (.speculativeRead init (addrOf wFabric 0x140)) s fun t =>
    t.rd wFabric FAB_DELIVERED.COUNT = s.rd wFabric FAB_DELIVERED.COUNT ∧ t.holds = s.holds ∧ t.on wHost HOST_STATUS.SPEC_HIT = true ∧
    (s.rd wHost HOST_SPEC_ADDR.INIT = 0 → t.rd wHost HOST_SPEC_ADDR.INIT = init.code ∧
    t.rd wHost HOST_SPEC_ADDR.ADDR = wFabric * 4096 + 0x140)) ∧
  (∀ (s : State) (init : Initiator) (w : BitVec 12) (maj min : Byte), WriteOpen s init w.toNat 0x20 → Completes (.interfaceHandshake init w maj min) s fun t =>
    t.rd w.toNat DESC_DRV.DRV_MAJ = maj.toNat ∧ t.rd w.toNat DESC_DRV.DRV_MIN = min.toNat ∧
    (maj.toNat = ifvOf w.toNat / 256 ∧ maj ≠ 0 → t.rd w.toNat DESC_ACT.ACT_MAJ = maj.toNat ∧
    t.rd w.toNat DESC_ACT.ACT_MIN = Nat.min min.toNat (ifvOf w.toNat % 256) ∧ t.on w.toNat DESC_SUMMARY.VBASE = false) ∧
    (maj.toNat ≠ ifvOf w.toNat / 256 → t.rd w.toNat DESC_ACT.ACT_MAJ = 1 ∧ t.rd w.toNat DESC_ACT.ACT_MIN = 0 ∧
    t.on w.toNat DESC_SUMMARY.VBASE = true)) ∧
  (∀ (s : State) (init : Initiator) (a : Addr), liveMsb (a.toNat / 4096) (a.toNat % 4096) = false → Quiet (.liveValueMsbRead init a) s) ∧
  (∀ (s : State) (init : Initiator) (a : Addr), tallyMsb (a.toNat / 4096) (a.toNat % 4096) = false → Quiet (.tallySnapshotRead init a) s)

/-- R87: a write of CH_CFG by an initiator other than MP and the debug port, outside C2, while UNIT_CTRL.LOCK of the channel reads 1 leaves PRIO and LS; VIOL is set; an empty VIOL_ADDR takes the address, the initiator, kind 3, WR 1 and the data, and one that holds a record keeps its kind and sets OVR. R38: a write to an unassigned window of the map has no effect. -/
def Obligations.RefusedWriteLeavesARecord : Prop :=
  (∀ (s : State) (init : Initiator) (n : Fin 72) (b : Byte), s.reaches init.code = true → s.unitState (wCh n.val) = usReady → s.on (wCh n.val) UNIT_CTRL.LOCK = true → init ≠ .mp → init ≠ .jtag → s.pwr.mode ≠ 2 → Completes (.registerWrite init (addrOf (wCh n.val) 0x140) b) s fun t =>
    t.on (wCh n.val) UNIT_STICKY.VIOL = true ∧ t.rd (wCh n.val) CH_CFG.PRIO = s.rd (wCh n.val) CH_CFG.PRIO ∧
    t.rd (wCh n.val) CH_CFG.LS = s.rd (wCh n.val) CH_CFG.LS ∧
    (s.rd (wCh n.val) VIOL_ADDR.INIT = 0 → t.rd (wCh n.val) VIOL_ADDR.ADDR = wCh n.val * 4096 + 0x140 ∧
    t.rd (wCh n.val) VIOL_ADDR.INIT = init.code ∧ t.rd (wCh n.val) VIOL_ADDR.KIND = 3 ∧ t.on (wCh n.val) VIOL_ADDR.WR = true ∧
    t.rd (wCh n.val) VIOL_ADDR.WDATA = b.toNat) ∧
    (s.rd (wCh n.val) VIOL_ADDR.INIT ≠ 0 → t.on (wCh n.val) VIOL_ADDR.OVR = true ∧
    t.rd (wCh n.val) VIOL_ADDR.KIND = s.rd (wCh n.val) VIOL_ADDR.KIND)) ∧
  (∀ (s : State) (init : Initiator) (a : Addr) (b : Byte), unitOf (a.toNat / 4096) = none → isRemote (a.toNat / 4096) = false → Quiet (.registerWrite init a b) s)

/-- For each command the next state holds what is named here. R42: GRP_FANOUT_DATA of an open group without a running fan-out adds one, of this byte and initiator, the offset FOFS and the windows the group reaches, and BUSY reads 1. R43: the first window that is left takes the byte (UNIT_IRQ_EN of a READY window, written by MP) and is counted; one in OFF is skipped, not counted, and no register changes. R44: with no window left the fan-out is gone, BUSY reads 0 and HITS is the count. R85, R118: URST takes the unit to LOADING and reads 1; the end of the reload takes a unit in LOADING whose phase has been installed to READY. R83, R84: a mismatch in a parity group of a unit that is not in OFF sets CFG_PARITY, takes the unit to SAFE and, into an empty FAULT_ADDR, records cause 1 and the group's first offset. R40, R41: the sticky, parity, violation, lease and interrupt bits of the nearest group above read 1 exactly where a member's summary has them. R459: the watchdog of a unit in READY or SAFE, with MP READY, sets FAULT, and the unit is in LOADING with URST 1. -/
def Obligations.FanoutAndUnitCommandsComplete : Prop :=
  (∀ (s : State) (init : Initiator) (g : BitVec 12) (d : Byte), isGroup g.toNat = true → WriteOpen s init g.toNat 0x104 → s.fans.any (fun f => f.grp == g.toNat) = false → Completes (.fanoutStart init g d) s fun t =>
    t.fans = s.fans ++ [⟨g.toNat, init.code, s.rd g.toNat GRP_FANOUT_OFS.FOFS, d.toNat, s.fanReach g.toNat, 0⟩] ∧
    t.on g.toNat GRP_FANOUT_STAT.BUSY = true) ∧
  (∀ (s : State) (g w : BitVec 12) (d : Byte) (r : List Nat) (n : Nat), s.fans = [⟨g.toNat, initMp, 0x31, d.toNat, w.toNat :: r, n⟩] → s.unitState w.toNat = usReady → (unitOf w.toNat).isSome = true → Completes (.fanoutWindowWrite g) s fun t =>
    t.fans = [⟨g.toNat, initMp, 0x31, d.toNat, r, n + 1⟩] ∧ t.rd w.toNat UNIT_IRQ_EN.EN = d.toNat) ∧
  (∀ (s : State) (g w : BitVec 12) (i o d : Nat) (r : List Nat) (n : Nat), s.fans = [⟨g.toNat, i, o, d, w.toNat :: r, n⟩] → s.unitState w.toNat = usOff → Completes (.fanoutWindowWrite g) s fun t =>
    t.fans = [⟨g.toNat, i, o, d, r, n⟩] ∧ t.regs = s.regs) ∧
  (∀ (s : State) (g : BitVec 12) (i o d n : Nat), s.fans = [⟨g.toNat, i, o, d, [], n⟩] → Completes (.fanoutComplete g) s fun t =>
    t.fans = [] ∧ t.on g.toNat GRP_FANOUT_STAT.BUSY = false ∧ t.rd g.toNat GRP_FANOUT_HITS.HITS = n % 256) ∧
  (∀ (s : State) (init : Initiator) (w : BitVec 12) (lock : Bool), WriteOpen s init w.toNat 0x20 → s.on w.toNat UNIT_CTRL.URST = false → (init ≠ .mp → lock = false ∧ s.on w.toNat UNIT_CTRL.LOCK = false) → Completes (.unitReset init w lock) s fun t =>
    t.unitState w.toNat = usLoading ∧ t.on w.toNat UNIT_CTRL.URST = true) ∧
  (∀ (s : State) (w : BitVec 12), s.unitState w.toNat = usLoading → phaseOf w.toNat + 3 ≤ s.cfg.stage → Completes (.unitReloadComplete w) s fun t =>
    t.unitState w.toNat = usReady) ∧
  (∀ (s : State) (w : BitVec 12) (k : Fin 512) (lost : Bool), (unitOf w.toNat).isSome = true → s.unitState w.toNat ≠ usOff → parityGroup w.toNat k.val = true → lost = true ∨ s.parity.contains (w.toNat * 512 + k.val) = true → Completes (.scrubCheck w k lost) s fun t =>
    t.on w.toNat UNIT_STICKY.CFG_PARITY = true ∧ t.unitState w.toNat = usSafe ∧
    (s.rd w.toNat FAULT_ADDR.CAUSE = 0 → t.rd w.toNat FAULT_ADDR.CAUSE = 1 ∧ t.rd w.toNat FAULT_ADDR.OFS = 8 * k.val)) ∧
  (∀ (s : State) (w : BitVec 12) (g : Nat), (unitOf w.toNat).isSome = true → (ancestorsOf w.toNat).find? isGroup = some g → Completes (.summaryPropagate w) s fun t =>
    t.on g DESC_SUMMARY.STICKY = (summaryMembers g).any (fun c => (s.summary c).testBit 7) ∧
    t.on g DESC_SUMMARY.CFG_PARITY = (summaryMembers g).any (fun c => (s.summary c).testBit 6) ∧
    t.on g DESC_SUMMARY.VIOL = (summaryMembers g).any (fun c => (s.summary c).testBit 5) ∧
    t.on g DESC_SUMMARY.LEASE = (summaryMembers g).any (fun c => (s.summary c).testBit 4) ∧
    t.on g DESC_SUMMARY.IRQ = (summaryMembers g).any (fun c => (s.summary c).testBit 3)) ∧
  (∀ (s : State) (w : BitVec 12), (unitOf w.toNat).isSome = true → w.toNat ≠ wMP → s.unitState w.toNat = usReady ∨ s.unitState w.toNat = usSafe → s.pwr.mpRun = true → s.unitState wMP = usReady → Completes (.unitWatchdogExpiry w) s fun t =>
    t.on w.toNat UNIT_STICKY.FAULT = true ∧ t.unitState w.toNat = usLoading ∧ t.on w.toNat UNIT_CTRL.URST = true) ∧
  (∀ (s : State) (w : BitVec 12) (k : Fin 512), s.parity.contains (w.toNat * 512 + k.val) = false → Quiet (.scrubCheck w k false) s)

/-- R457, R453: a read of SPOIL_POP or TRB_POP by an initiator whose read is served takes the oldest record out of its log into SPOIL_VIEW or TRB_VIEW and returns the number of records before, for SPOIL_POP at most 255; with an empty log it returns 0 and the view reads 0. A speculative read of SPOIL_POP pops nothing, leaves the view and returns the same number. -/
def Obligations.LogPopsComplete : Prop :=
  (∀ (s : State) (init : Initiator) (r : BitVec 128) (l : List Nat), ReadOpen s init wRoot → s.flt.spoil = r.toNat :: l → Completes (.spoilPop init false) s fun t =>
    t.flt.spoil = l ∧ t.rd wRoot SPOIL_VIEW.RECORD = r.toNat ∧ t.outs = [.readData init.code [Nat.min 255 (l.length + 1)]]) ∧
  (∀ (s : State) (init : Initiator), ReadOpen s init wRoot → s.flt.spoil = [] → Completes (.spoilPop init false) s fun t =>
    t.flt = s.flt ∧ t.rd wRoot SPOIL_VIEW.RECORD = 0 ∧ t.outs = [.readData init.code [0]]) ∧
  (∀ (s : State) (init : Initiator), ReadOpen s init wRoot → Completes (.spoilPop init true) s fun t =>
    t.flt = s.flt ∧ t.rd wRoot SPOIL_VIEW.RECORD = s.rd wRoot SPOIL_VIEW.RECORD ∧ t.outs.getLast? = some (.readData init.code [Nat.min 255 s.flt.spoil.length])) ∧
  (∀ (s : State) (init : Initiator) (r : BitVec 64) (l : List Nat), ReadOpen s init wRoot → s.flt.trouble = r.toNat :: l → Completes (.troublePop init false) s fun t =>
    t.flt.trouble = l ∧ t.rd wRoot TRB_VIEW.RECORD = r.toNat ∧ t.outs = [.readData init.code [l.length + 1]]) ∧
  (∀ (s : State) (init : Initiator), ReadOpen s init wRoot → s.flt.trouble = [] → Completes (.troublePop init false) s fun t =>
    t.flt = s.flt ∧ t.rd wRoot TRB_VIEW.RECORD = 0 ∧ t.outs = [.readData init.code [0]])

/-- For each command the next state holds what is named here; where CRC reads 1 a frame carries the CRC bytes of R92. R93: a write frame of the right length and CRC, of 1 to 64 bytes inside a window, enters the buffer of 4 and answers NOW 0x3C; with the buffer full it answers 0x5A and nothing enters. R94: a write frame that crosses a window, is of another length or fails its CRC enters no buffer and leaves PREV 0xA5, the last two with SPI_SHORT and SPI_CRC; so does a frame that ends before its address. The oldest buffered write is applied: a byte written to UNIT_IRQ_EN of an open window is stored, and PREV is 0x3C if it was the last; with none buffered nothing happens. R94: a read frame of one byte at UNIT_IRQ_EN of a readable window answers 0x3C and the byte after DUMMY bytes. R95: a read frame whose data come late answers 0x5A and holds the delayed read; the same frame later takes its data; any other, or one before it is performed, answers 0x5A and changes nothing held. The delayed read of that byte, with no write to the window ahead, is performed; when its lease expires it is given up, with DR_LOST, LEASE and, at the first time, its address in HOST_DR_ADDR; with none held nothing happens. -/
def Obligations.SpiFramesComplete : Prop :=
  (∀ (s : State) (fix : Bool) (len : Fin 64) (addr : Addr) (rest : List Byte), s.gxOn = true → s.leg.framing = false → rest.length = len.val + 1 + b2n (s.on wHost HOST_SPI_CFG.CRC) → ((s.on wHost HOST_SPI_CFG.CRC = true → crc8 (spiCommand true fix (len.val + 1) :: toBytes addr.toNat 3 ++ (rest.map BitVec.toNat).take (len.val + 1)) = (rest.map BitVec.toNat).getD (len.val + 1) 0)) → fix = true ∨ addr.toNat % 4096 + len.val + 1 ≤ 4096 → s.host.spiBuf.length < 4 → Completes (.spiWriteFrame fix len addr rest) s fun t =>
    t.host.spiBuf = s.host.spiBuf ++ [⟨addr.toNat, fix, (rest.map BitVec.toNat).take (len.val + 1)⟩] ∧ t.host.spiPrev = 0x3C ∧ t.host.spiPend = true ∧
    t.regs = s.regs ∧ t.outs = [.spi ([s.host.spiPrev, 0, 0, 0, 0x3C] ++ List.replicate (rest.length - 1) 0)]) ∧
  (∀ (s : State) (fix : Bool) (len : Fin 64) (addr : Addr) (rest : List Byte), s.gxOn = true → s.leg.framing = false → rest.length = len.val + 1 + b2n (s.on wHost HOST_SPI_CFG.CRC) → ((s.on wHost HOST_SPI_CFG.CRC = true → crc8 (spiCommand true fix (len.val + 1) :: toBytes addr.toNat 3 ++ (rest.map BitVec.toNat).take (len.val + 1)) = (rest.map BitVec.toNat).getD (len.val + 1) 0)) → fix = true ∨ addr.toNat % 4096 + len.val + 1 ≤ 4096 → 4 ≤ s.host.spiBuf.length → Completes (.spiWriteFrame fix len addr rest) s fun t =>
    t.host.spiBuf = s.host.spiBuf ∧ t.host.spiPrev = 0x5A ∧ t.regs = s.regs ∧
    t.outs = [.spi ([s.host.spiPrev, 0, 0, 0, 0x5A] ++ List.replicate (rest.length - 1) 0)]) ∧
  (∀ (s : State) (fix : Bool) (len : Fin 64) (addr : Addr) (rest : List Byte), s.gxOn = true → s.leg.framing = false → rest.length = len.val + 1 + b2n (s.on wHost HOST_SPI_CFG.CRC) → fix = false → 4096 < addr.toNat % 4096 + len.val + 1 → Completes (.spiWriteFrame fix len addr rest) s fun t =>
    t.host.spiBuf = s.host.spiBuf ∧ t.host.spiPrev = 0xA5 ∧ t.outs = [.spi ([s.host.spiPrev, 0, 0, 0, 0xA5] ++ List.replicate (rest.length - 1) 0)]) ∧
  (∀ (s : State) (fix : Bool) (len : Fin 64) (addr : Addr) (rest : List Byte), s.gxOn = true → s.leg.framing = false → rest.length ≠ len.val + 1 + b2n (s.on wHost HOST_SPI_CFG.CRC) → fix = true ∨ addr.toNat % 4096 + len.val + 1 ≤ 4096 → s.host.spiBuf.length < 4 → Completes (.spiWriteFrame fix len addr rest) s fun t =>
    t.host.spiBuf = s.host.spiBuf ∧ t.host.spiPrev = 0xA5 ∧ t.on wHost HOST_STATUS.SPI_SHORT = true) ∧
  (∀ (s : State) (fix : Bool) (len : Fin 64) (addr : Addr) (rest : List Byte), s.gxOn = true → s.leg.framing = false → s.on wHost HOST_SPI_CFG.CRC = true → rest.length = len.val + 2 → crc8 (spiCommand true fix (len.val + 1) :: toBytes addr.toNat 3 ++ (rest.map BitVec.toNat).take (len.val + 1)) ≠ (rest.map BitVec.toNat).getD (len.val + 1) 0 → fix = true ∨ addr.toNat % 4096 + len.val + 1 ≤ 4096 → s.host.spiBuf.length < 4 → Completes (.spiWriteFrame fix len addr rest) s fun t =>
    t.host.spiBuf = s.host.spiBuf ∧ t.host.spiPrev = 0xA5 ∧ t.on wHost HOST_STATUS.SPI_CRC = true) ∧
  (∀ (s : State) (w : BitVec 12) (fix : Bool) (b : Byte) (r : List SpiWrite), WriteOpen s .spi w.toNat 0x31 → s.host.spiBuf = ⟨w.toNat * 4096 + 0x31, fix, [b.toNat]⟩ :: r → Completes .spiWriteApply s fun t =>
    t.rd w.toNat UNIT_IRQ_EN.EN = b.toNat ∧ t.host.spiBuf = r ∧ (r = [] ∧ s.host.spiPend = true → t.host.spiPrev = 0x3C)) ∧
  (∀ (s : State), s.host.spiBuf = [] → Quiet .spiWriteApply s) ∧
  (∀ (s : State) (w : BitVec 12) (fix : Bool) (rest : List Byte), ReadOpen s .spi w.toNat → s.leg.framing = false → rest.length = 2 * b2n (s.on wHost HOST_SPI_CFG.CRC) + s.rd wHost HOST_SPI_CFG.DUMMY + 2 → (s.on wHost HOST_SPI_CFG.CRC = true → crc8 (spiCommand false fix 1 :: toBytes (addrOf w.toNat 0x31).toNat 3) = (rest.map BitVec.toNat).headD 0) → s.host.delayed = none → (s.host.spiBuf.all fun x => x.addr / 4096 != w.toNat) = true → Completes (.spiReadFrame fix 0 (addrOf w.toNat 0x31) rest false) s fun t =>
    t.outs = [.spi (s.host.spiPrev :: List.replicate (3 + b2n (s.on wHost HOST_SPI_CFG.CRC) + s.rd wHost HOST_SPI_CFG.DUMMY) 0 ++ 0x3C :: [s.rd w.toNat UNIT_IRQ_EN.EN] ++
    (if s.on wHost HOST_SPI_CFG.CRC then [crc8 (0x3C :: [s.rd w.toNat UNIT_IRQ_EN.EN])] else []))] ∧
    t.host.spiPrev = 0x3C ∧ t.regs = s.regs) ∧
  (∀ (s : State) (len : Fin 64) (fix : Bool) (rest : List Byte) (addr : Addr), s.gxOn = true → s.leg.framing = false → rest.length = 2 * b2n (s.on wHost HOST_SPI_CFG.CRC) + s.rd wHost HOST_SPI_CFG.DUMMY + len.val + 2 → (s.on wHost HOST_SPI_CFG.CRC = true → crc8 (spiCommand false fix (len.val + 1) :: toBytes addr.toNat 3) = (rest.map BitVec.toNat).headD 0) → fix = true ∨ addr.toNat % 4096 + len.val + 1 ≤ 4096 → s.host.delayed = none → Completes (.spiReadFrame fix len addr rest true) s fun t =>
    t.host.delayed = some ⟨addr.toNat, fix, len.val + 1, none⟩ ∧ t.host.spiPrev = 0x5A ∧ t.regs = s.regs ∧
    t.outs = [.spi (s.host.spiPrev :: List.replicate (3 + b2n (s.on wHost HOST_SPI_CFG.CRC) + s.rd wHost HOST_SPI_CFG.DUMMY) 0 ++ 0x5A :: (List.replicate (len.val + 1) 0) ++
    (if s.on wHost HOST_SPI_CFG.CRC then [crc8 (0x5A :: (List.replicate (len.val + 1) 0))] else []))]) ∧
  (∀ (s : State) (len : Fin 64) (fix : Bool) (rest : List Byte) (addr : Addr) (late : Bool) (l : List Nat), s.gxOn = true → s.leg.framing = false → rest.length = 2 * b2n (s.on wHost HOST_SPI_CFG.CRC) + s.rd wHost HOST_SPI_CFG.DUMMY + len.val + 2 → (s.on wHost HOST_SPI_CFG.CRC = true → crc8 (spiCommand false fix (len.val + 1) :: toBytes addr.toNat 3) = (rest.map BitVec.toNat).headD 0) → fix = true ∨ addr.toNat % 4096 + len.val + 1 ≤ 4096 → s.host.delayed = some ⟨addr.toNat, fix, len.val + 1, some (some l)⟩ → l.length = len.val + 1 → Completes (.spiReadFrame fix len addr rest late) s fun t =>
    t.host.delayed = none ∧ t.host.spiPrev = 0x3C ∧ t.regs = s.regs ∧
    t.outs = [.spi (s.host.spiPrev :: List.replicate (3 + b2n (s.on wHost HOST_SPI_CFG.CRC) + s.rd wHost HOST_SPI_CFG.DUMMY) 0 ++ 0x3C :: l ++
    (if s.on wHost HOST_SPI_CFG.CRC then [crc8 (0x3C :: l)] else []))]) ∧
  (∀ (s : State) (len : Fin 64) (fix : Bool) (rest : List Byte) (addr : Addr) (late : Bool) (d : DelayedRead), s.gxOn = true → s.leg.framing = false → rest.length = 2 * b2n (s.on wHost HOST_SPI_CFG.CRC) + s.rd wHost HOST_SPI_CFG.DUMMY + len.val + 2 → (s.on wHost HOST_SPI_CFG.CRC = true → crc8 (spiCommand false fix (len.val + 1) :: toBytes addr.toNat 3) = (rest.map BitVec.toNat).headD 0) → fix = true ∨ addr.toNat % 4096 + len.val + 1 ≤ 4096 → s.host.delayed = some d → d.addr ≠ addr.toNat ∨ d.fix ≠ fix ∨ d.len ≠ len.val + 1 ∨ d.done = none → Completes (.spiReadFrame fix len addr rest late) s fun t =>
    t.host = { s.host with spiPend := false, spiPrev := 0x5A } ∧ t.regs = s.regs ∧
    t.outs = [.spi (s.host.spiPrev :: List.replicate (3 + b2n (s.on wHost HOST_SPI_CFG.CRC) + s.rd wHost HOST_SPI_CFG.DUMMY) 0 ++ 0x5A :: (List.replicate (len.val + 1) 0) ++
    (if s.on wHost HOST_SPI_CFG.CRC then [crc8 (0x5A :: (List.replicate (len.val + 1) 0))] else []))]) ∧
  (∀ (s : State) (n : Fin 4), s.gxOn = true → s.leg.framing = false → Completes (.spiFrameTooShort n) s fun t =>
    t.on wHost HOST_STATUS.SPI_SHORT = true ∧ t.host.spiPrev = 0xA5 ∧ t.host.spiBuf = s.host.spiBuf ∧
    t.outs = [.spi ((s.host.spiPrev :: List.replicate 3 0).take n.val)]) ∧
  (∀ (s : State) (w : BitVec 12) (fix : Bool), ReadOpen s .spi w.toNat → s.host.delayed = some ⟨w.toNat * 4096 + 0x31, fix, 1, none⟩ → (s.host.spiBuf.all fun x => x.addr / 4096 != w.toNat) = true → ((s.drk.reads ++ s.drk.readQ).all fun r => r.why != .spi) = true → Completes .delayedReadPerform s fun t =>
    t.host.delayed = some ⟨w.toNat * 4096 + 0x31, fix, 1, some (some [s.rd w.toNat UNIT_IRQ_EN.EN])⟩ ∧ t.regs = s.regs) ∧
  (∀ (s : State), s.host.delayed = none → Quiet .delayedReadPerform s) ∧
  (∀ (s : State) (a : Addr) (fix : Bool) (n : Nat) (l : List Nat), s.host.delayed = some ⟨a.toNat, fix, n, some (some l)⟩ → Completes .delayedReadLeaseExpiry s fun t =>
    t.host.delayed = none ∧ t.on wHost HOST_STATUS.DR_LOST = true ∧ t.on wHost UNIT_STICKY.LEASE = true ∧
    (s.on wHost HOST_STATUS.DR_LOST = false → t.rd wHost HOST_DR_ADDR.ADDR = a.toNat)) ∧
  (∀ (s : State), s.host.delayed = none → Quiet .delayedReadLeaseExpiry s)

/-- For each command the next state holds what is named here. R96, R97: with the link up, outside a reset and outside C1, a one-byte read through BAR0 or BAR2 of UNIT_IRQ_EN of a readable window is completed with its byte; a one-byte write of it in an open window through them stores the byte; through BAR4 a doubleword written to a vector's control word gives its mask bit, and one read of an untouched table reads as masked. With the link down, in reset or in C1 a request has no effect. R99, R105: PCIE_PERST_N low puts the face in reset, with MSI-X table and pending bits cleared and the link down; its release ends that and writes no register. R103: a link lost stops every enabled ring. R53: training with HOST READY, phase 0 passed, outside reset and C1 records the link up, its rate and its width. R104: at the end of a moderation interval in which something was to be raised the ring's IRQ is set and the next interval runs; else the interval ends and no register changes. R105: a pending vector that is unmasked and may be sent is sent, and its bit cleared. R106: IRQ_N takes the level its sources give. -/
def Obligations.PcieComplete : Prop :=
  (∀ (s : State) (bar : Bar) (w : BitVec 12) (tag : Byte), bar ≠ .bar4 → ReadOpen s .pcie w.toNat → s.on wHost HOST_PCIE_LINK.UP = true → s.host.perst = false → s.pwr.mode ≠ 1 → Completes (.pcieReadRequest bar (addrOf w.toNat 0x31) 1 tag) s fun t =>
    t.outs = [.completion tag.toNat true [s.rd w.toNat UNIT_IRQ_EN.EN]] ∧ t.regs = s.regs) ∧
  (∀ (s : State) (bar : Bar) (w : BitVec 12) (b : Byte), bar ≠ .bar4 → WriteOpen s .pcie w.toNat 0x31 → s.on wHost HOST_PCIE_LINK.UP = true → s.host.perst = false → s.pwr.mode ≠ 1 → Completes (.pcieWriteRequest bar (addrOf w.toNat 0x31) [b]) s fun t =>
    t.rd w.toNat UNIT_IRQ_EN.EN = b.toNat) ∧
  (∀ (s : State) (v : Fin 64) (b : Byte), s.gxOn = true → s.on wHost HOST_PCIE_LINK.UP = true → s.host.perst = false → s.pwr.mode ≠ 1 → Completes (.pcieWriteRequest .bar4 (BitVec.ofNat 24 (16 * v.val + 12)) [b, 0, 0, 0]) s fun t =>
    t.vecMasked v.val = b.getLsbD 0 ∧ t.regs = s.regs) ∧
  (∀ (s : State) (v : Fin 64) (tag : Byte), s.gxOn = true → s.on wHost HOST_PCIE_LINK.UP = true → s.host.perst = false → s.pwr.mode ≠ 1 → s.host.msixTab = [] → Completes (.pcieReadRequest .bar4 (BitVec.ofNat 24 (16 * v.val + 12)) 4 tag) s fun t =>
    t.outs = [.completion tag.toNat true [1, 0, 0, 0]] ∧ t.host = s.host) ∧
  (∀ (s : State), Completes .pciePerstAssert s fun t =>
    t.host.perst = true ∧ t.host.msixTab = [] ∧ t.host.pba = 0 ∧ (s.gxOn = true → t.on wHost HOST_PCIE_LINK.UP = false)) ∧
  (∀ (s : State), Completes .pciePerstRelease s fun t =>
    t.host.perst = false ∧ t.regs = s.regs) ∧
  (∀ (s : State), s.on wHost HOST_PCIE_LINK.UP = true → Completes .pcieLinkDown s fun t =>
    t.on wHost HOST_PCIE_LINK.UP = false ∧ ∀ (tx : Bool) (r : Fin 16), s.on wHost (fEn tx r.val) = true → t.ringStopped tx r.val = true) ∧
  (∀ (s : State) (rate : Fin 3) (two : Bool), s.gxOn = true → s.host.perst = false → s.pwr.mode ≠ 1 → 3 ≤ s.cfg.stage → s.unitState wHost = usReady → Completes (.pcieLinkUp rate two) s fun t =>
    t.on wHost HOST_PCIE_LINK.UP = true ∧ t.rd wHost HOST_PCIE_LINK.RATE = rate.val + 1 ∧
    t.rd wHost HOST_PCIE_LINK.WIDTH = (if two then 2 else 1)) ∧
  (∀ (s : State) (tx : Bool) (r : Fin 16), look s.host.imodRun (ringCode tx r.val) false = true → look s.host.imodHit (ringCode tx r.val) false = true → Completes (.imodIntervalEnd tx r) s fun t =>
    t.on wHost (fIrq tx r.val) = true ∧ look t.host.imodRun (ringCode tx r.val) false = true ∧ look t.host.imodHit (ringCode tx r.val) false = false) ∧
  (∀ (s : State) (tx : Bool) (r : Fin 16), look s.host.imodRun (ringCode tx r.val) false = true → look s.host.imodHit (ringCode tx r.val) false = false → Completes (.imodIntervalEnd tx r) s fun t =>
    t.regs = s.regs ∧ look t.host.imodRun (ringCode tx r.val) false = false) ∧
  (∀ (s : State) (v : Fin 64), s.gxOn = true → s.host.msixOn = true → s.host.busMaster = true → s.host.perst = false → s.on wHost HOST_PCIE_LINK.UP = true → s.vecMasked v.val = false → s.host.pba.testBit v.val = true → Completes (.msixPendingSend v) s fun t =>
    t.outs = [.msix v.val] ∧ t.host.pba.testBit v.val = false ∧ t.regs = s.regs) ∧
  (∀ (s : State), Completes .irqNUpdate s fun t =>
    t.pins.irqLow = s.pinWanted ∧ t.regs = s.regs) ∧
  (∀ (s : State) (bar : Bar) (addr : Addr) (len : BitVec 13) (tag : Byte), s.gxOn = false ∨ s.on wHost HOST_PCIE_LINK.UP = false ∨ s.host.perst = true ∨ s.pwr.mode = 1 → Quiet (.pcieReadRequest bar addr len tag) s) ∧
  (∀ (s : State) (bar : Bar) (addr : Addr) (data : List Byte), s.gxOn = false ∨ s.on wHost HOST_PCIE_LINK.UP = false ∨ s.host.perst = true ∨ s.pwr.mode = 1 → Quiet (.pcieWriteRequest bar addr data) s)

/-- For each command the next state holds what is named here. R100: TAIL takes the value written; one that does not exceed the size, or any with RSIZE 0, leaves HEAD and STOPPED; one that does sets DESC_ERR and STOPPED. R103: EN written from 0 to 1 sets EN and leaves HEAD, TAIL and STOPPED 0; EN cleared with RSIZE as held clears EN, and stops the ring at once where it receives or holds no fetched descriptor. R101: of an active receive ring a fetched descriptor of at least 64 bytes waits with the ring; of an active transmit ring that is in no launch mode and holds none, one with SOP and no EOP does. R101: the writeback of a delivered frame of one descriptor, the entry HEAD points at, writes LEN, DONE, SOP and EOP, DISP and reason 0 and the TAG to the host and moves HEAD on by one. A DMA error sets DMA_ERR and stops the ring. R455: the lease of the oldest free buffer takes it from its ring and sets LEASE. -/
def Obligations.HostRingsComplete : Prop :=
  (∀ (s : State) (init : Initiator) (tx : Bool) (r : Fin 16) (v : BitVec 16), WriteOpen s init wHost (fTail tx r.val).byteOfs → (v.toNat + 65536 - s.ringHead tx r.val) % 65536 ≤ s.ringSize tx r.val ∨ s.ringSize tx r.val = 0 → Completes (.ringTailWrite init tx r v) s fun t =>
    t.ringTail tx r.val = v.toNat ∧ t.ringHead tx r.val = s.ringHead tx r.val ∧ t.ringStopped tx r.val = s.ringStopped tx r.val) ∧
  (∀ (s : State) (init : Initiator) (tx : Bool) (r : Fin 16) (v : BitVec 16), WriteOpen s init wHost (fTail tx r.val).byteOfs → s.ringSize tx r.val ≠ 0 → s.ringSize tx r.val < (v.toNat + 65536 - s.ringHead tx r.val) % 65536 → Completes (.ringTailWrite init tx r v) s fun t =>
    t.ringTail tx r.val = v.toNat ∧ t.on wHost (fDescErr tx r.val) = true ∧ t.ringStopped tx r.val = true) ∧
  (∀ (s : State) (init : Initiator) (tx : Bool) (r : Fin 16) (low : Fin 128), WriteOpen s init wHost (fEn tx r.val).byteOfs → s.on wHost (fEn tx r.val) = false → Completes (.ringEnSet init tx r low) s fun t =>
    t.on wHost (fEn tx r.val) = true ∧ t.ringHead tx r.val = 0 ∧ t.ringTail tx r.val = 0 ∧ t.ringStopped tx r.val = false) ∧
  (∀ (s : State) (init : Initiator) (tx : Bool) (r : Fin 16) (low : Fin 128), WriteOpen s init wHost (fEn tx r.val).byteOfs → s.on wHost (fEn tx r.val) = true → s.rd wHost (fRsize tx r.val) = (fRsize tx r.val).fit.apply (low.val % 16) → Completes (.ringEnClear init tx r low) s fun t =>
    t.on wHost (fEn tx r.val) = false ∧ (tx = false ∨ s.txDescs r.val = [] → t.ringStopped tx r.val = true)) ∧
  (∀ (s : State) (r : Fin 16) (d : RingDesc), s.fetches false r.val = true → 64 ≤ d.len.toNat → Completes (.ringDescFetch false r d) s fun t =>
    t.rxDescs r.val = s.rxDescs r.val ++ [s.makeDesc false r.val d] ∧ t.regs = s.regs) ∧
  (∀ (s : State) (r : Fin 16) (d : RingDesc), s.fetches true r.val = true → s.launchMode r.val = false → s.txDescs r.val = [] → d.sop = true → d.eop = false → Completes (.ringDescFetch true r d) s fun t =>
    t.txDescs r.val = [s.makeDesc true r.val d] ∧ t.regs = s.regs) ∧
  (∀ (s : State) (r : Fin 16) (fid : Nat) (d : Desc) (rest : List RingFrame), s.dmaOk = true → s.txFramesOf r.val = ⟨fid, [d], some 0, false⟩ :: rest → s.doneOf true r.val = [] → d.idx = s.ringHead true r.val → Completes (.ringWriteback true r) s fun t =>
    t.txFramesOf r.val = rest ∧ t.ringHead true r.val = (s.ringHead true r.val + 1) % 65536 ∧
    t.outs.head? = some (.hostMem d.entry (descBytes d d.len (128 + b2n d.eop * 2 + b2n d.sop) 0 d.tag))) ∧
  (∀ (s : State) (tx : Bool) (r : Fin 16) (wrote : Bool), s.gxOn = true → Completes (.hostDmaError tx r wrote) s fun t =>
    t.on wHost (fDmaErr tx r.val) = true ∧ t.ringStopped tx r.val = true) ∧
  (∀ (s : State) (r : Fin 16) (d : Desc) (rest : List Desc), s.gxOn = true → s.rxDescs r.val = d :: rest → Completes (.ringDescLeaseExpiry false r) s fun t =>
    t.rxDescs r.val = rest ∧ t.on wHost UNIT_STICKY.LEASE = true)

/-- For each command the next state holds what is named here; outside its stage of the load, or while GX does not run, each changes nothing. R108, R115: a flash of at least 64 MiB with valid SFDP tables leaves the first declared mode, from the fastest down, in which its signature reads back, else 1S-1S-1S, and the load goes on; a smaller flash, or one without valid tables, leaves UNCONFIGURED with cause 1. R114: with no candidate phase 0 leaves UNCONFIGURED, no slot, mode 0 and the cause of CFG_B; with one candidate that passes it selects that slot, with two it selects the one that comes first, and the mode is the selected image's. R115, R116: a phase whose sections install whole and whose settings the units take adds them to the active image, writes PHASE, and leaves none of its units LOADING; where a section fails the slot is marked bad, with SLOT_BAD, and a SOFT reset takes GX down, with its cause where none before it ranks as high. -/
def Obligations.ConfigurationLoadCompletes : Prop :=
  (∀ (s : State) (x : Sfdp) (fw : Option FwDir) (fails : List Byte), s.gxOn = true → s.cfg.stage = 1 → 64 ≤ x.mib.toNat → Completes (.nvmSfdpStepUp (some x) fw fails) s fun t =>
    t.cfg.stage = 2 ∧ t.pins.sfdpDone = true ∧
    t.pins.flashMode = (if (x.modes &&& x.good).getLsbD 0 then 3 else if (x.modes &&& x.good).getLsbD 1 then 2 else if (x.modes &&& x.good).getLsbD 2 then 1 else 0)) ∧
  (∀ (s : State) (x : Sfdp) (fw : Option FwDir) (fails : List Byte), s.gxOn = true → s.cfg.stage = 1 → x.mib.toNat < 64 → Completes (.nvmSfdpStepUp (some x) fw fails) s fun t =>
    t.cfg.stage = 7 ∧ t.rd wUpd UPD_CFG_ERR.CAUSE = 1 ∧ t.on wUpd UPD_CFG_STAT.UNCFG = true) ∧
  (∀ (s : State) (x : Option Sfdp) (fw : Option FwDir) (fails : List Byte), s.gxOn = false ∨ s.cfg.stage ≠ 1 → Quiet (.nvmSfdpStepUp x fw fails) s) ∧
  (∀ (s : State) (fw : Option FwDir) (fails : List Byte), s.gxOn = true → s.cfg.stage = 1 → Completes (.nvmSfdpStepUp none fw fails) s fun t =>
    t.cfg.stage = 7 ∧ t.rd wUpd UPD_CFG_ERR.CAUSE = 1 ∧ t.on wUpd UPD_CFG_STAT.UNCFG = true) ∧
  (∀ (s : State) (a b : SlotImage), s.gxOn = true → s.cfg.stage = 2 → (s.slotFault 1 a).isSome = true → (s.slotFault 2 b).isSome = true → Completes (.configSlotSelect a b) s fun t =>
    t.cfg.stage = 7 ∧ t.on wUpd UPD_CFG_STAT.UNCFG = true ∧ t.rd wUpd UPD_CFG_STAT.SLOT = 0 ∧ t.pwr.mode = 0 ∧
    some (t.rd wUpd UPD_CFG_ERR.CAUSE) = s.slotFault 2 b) ∧
  (∀ (s : State) (a b : SlotImage), s.gxOn = true → s.cfg.stage = 2 → s.slotFault 1 a = none → s.phase0Fault a = none → (s.slotFault 2 b).isSome = true → Completes (.configSlotSelect a b) s fun t =>
    t.cfg.stage = 3 ∧ t.rd wUpd UPD_CFG_STAT.SLOT = 1 ∧ t.cfg.bare = slotBare a ∧ t.pwr.mode = (if slotBare a then 1 else imgField (slotData a) 6 1)) ∧
  (∀ (s : State) (a b : SlotImage), s.gxOn = true → s.cfg.stage = 2 → (s.slotFault 1 a).isSome = true → s.slotFault 2 b = none → s.phase0Fault b = none → Completes (.configSlotSelect a b) s fun t =>
    t.cfg.stage = 3 ∧ t.rd wUpd UPD_CFG_STAT.SLOT = 2 ∧ t.cfg.bare = slotBare b ∧ t.pwr.mode = (if slotBare b then 1 else imgField (slotData b) 6 1)) ∧
  (∀ (s : State) (a b : SlotImage), s.gxOn = true → s.cfg.stage = 2 → s.slotFault 1 a = none → s.slotFault 2 b = none → s.phase0Fault a = none → s.phase0Fault b = none → Completes (.configSlotSelect a b) s fun t =>
    t.cfg.stage = 3 ∧ t.rd wUpd UPD_CFG_STAT.SLOT = (if s.candBefore (1, a) (2, b) then 1 else 2)) ∧
  (∀ (s : State) (a b : SlotImage), s.gxOn = false ∨ s.cfg.stage ≠ 2 → Quiet (.configSlotSelect a b) s) ∧
  (∀ (s : State) (k : Fin 3), s.gxOn = true → s.cfg.stage = k.val + 3 → ((if k.val = 0 ∧ s.pwr.mode ≠ 0 then s.legacyDefaults else s).installSections (installOrder (s.cfg.sects.filter fun x => x.phase.toNat == k.val + 1))).2 = none → (if k.val = 0 ∧ s.pwr.mode ≠ 0 then ((if k.val = 0 ∧ s.pwr.mode ≠ 0 then s.legacyDefaults else s).installSections (installOrder (s.cfg.sects.filter fun x => x.phase.toNat == k.val + 1))).1.legacyDefaults else ((if k.val = 0 ∧ s.pwr.mode ≠ 0 then s.legacyDefaults else s).installSections (installOrder (s.cfg.sects.filter fun x => x.phase.toNat == k.val + 1))).1).settingsFault (installOrder (s.cfg.sects.filter fun x => x.phase.toNat == k.val + 1)) = none → Completes (.configPhaseInstall k) s fun t =>
    t.cfg.stage = k.val + 4 ∧ t.rd wUpd UPD_CFG_STAT.PHASE = k.val + 1 ∧ t.cfg.image = s.cfg.image ++ (installOrder (s.cfg.sects.filter fun x => x.phase.toNat == k.val + 1)) ∧
    ∀ w ∈ fixedWindows, phaseOf w = k.val + 1 → t.unitState w ≠ usLoading) ∧
  (∀ (s : State) (k : Fin 3), s.gxOn = true → s.cfg.stage = k.val + 3 → 1 ≤ s.rd wUpd UPD_CFG_STAT.SLOT ∧ s.rd wUpd UPD_CFG_STAT.SLOT ≤ 2 → ((if k.val = 0 ∧ s.pwr.mode ≠ 0 then s.legacyDefaults else s).installSections (installOrder (s.cfg.sects.filter fun x => x.phase.toNat == k.val + 1))).2 ≠ none → Completes (.configPhaseInstall k) s fun t =>
    t.gxOn = false ∧ t.isBad (s.rd wUpd UPD_CFG_STAT.SLOT) = true ∧ t.on wUpd UPD_CFG_STAT.SLOT_BAD = true ∧ (causeRank causeLoad < causeRank s.pwr.cause → t.pwr.cause = causeLoad)) ∧
  (∀ (s : State) (k : Fin 3), s.gxOn = false ∨ s.cfg.stage ≠ k.val + 3 → Quiet (.configPhaseInstall k) s)

/-- For each command the next state holds what is named here. R498: a select write stores NEXT and the index and loads the view's buffer with the entry's next-Bench content. R122: a write that ends with the committing byte and that nothing refuses leaves the buffered content in the next Bench, the current Bench as it was, the entry touched, STAGED and the lease renewed. R121: ACQUIRE takes a free lock with a lease and leaves a held one as it is; RELEASE by the owner frees it and keeps the delta; ABORT by the owner outside a commit empties the delta and gives every touched entry its current content back; an expired lease outside a commit frees the lock, empties the delta and sets LEASE in the holder's window. R123 to R125: COMMIT by the owner with no overflow entry inverts G and drains; with overflow entries it is refused with REFUSED, or, with SPLIT_OK, drains with G as it was; a drain that is complete begins the reclaim or the split; a split switches one table after the other and names it in STEP; with none left it swaps the deletions, inverts G, ends the hold and begins the reclaim; the reclaim ends with BUSY, COMMIT and the delta cleared and TBL_COMMITS one more. R126: the end of HOLD_LIM with the hold in force releases every held frame and sets HOLD_EXP. Each of these events changes nothing outside its phase. -/
def Obligations.StagingAndCommitComplete : Prop :=
  (∀ (s : State) (init : Initiator) (v : ViewTab) (next : Bool) (k : BitVec 16), WriteOpen s init v.win (v.sel.ofs + v.sel.len - 1) → Completes (.stageSelect init v next k) s fun t =>
    t.rd v.win v.sel = k.toNat % 2 ^ v.sel.width ∧ t.on v.win v.next = next ∧
    ∀ f ∈ viewFields v.win (t.selected v), t.buf v.win f (t.selected v) = s.ent (1 - s.gen) v.win f (t.selected v) % 2 ^ f.width) ∧
  (∀ (s : State) (init : Initiator) (v : ViewTab) (data : List Byte), WriteOpen s init v.win v.commit → init = .mp ∨ s.pwr.mode ≠ 2 → ((s.bufBytes v (v.commit + 1 - data.length) (data.map BitVec.toNat)).bufFit v).viewKinds init.code v = [] → Completes (.stageEntryWrite init v data) s fun t =>
    t.touchedEntry v.win (s.selected v) = true ∧ t.on wTables TBL_STAT.STAGED = true ∧ t.bench.lease = true ∧
    (∀ f ∈ viewFields v.win (s.selected v), t.ent (1 - s.gen) v.win f (s.selected v) = ((s.bufBytes v (v.commit + 1 - data.length) (data.map BitVec.toNat)).bufFit v).buf v.win f (s.selected v) % 2 ^ f.width) ∧
    ∀ f ∈ viewFields v.win (s.selected v), t.ent s.gen v.win f (s.selected v) = s.ent s.gen v.win f (s.selected v)) ∧
  (∀ (s : State) (init : Initiator) (rw : Fin 4), CmdOpen s init wTables TBL_CTRL.ACQUIRE → s.rd wTables TBL_OWNER.OWNER = 0 → Completes (.tblAcquire init rw) s fun t =>
    t.rd wTables TBL_OWNER.OWNER = init.code ∧ t.bench.lease = true) ∧
  (∀ (s : State) (init : Initiator) (rw : Fin 4), CmdOpen s init wTables TBL_CTRL.ACQUIRE → s.rd wTables TBL_OWNER.OWNER ≠ 0 → Completes (.tblAcquire init rw) s fun t =>
    t.rd wTables TBL_OWNER.OWNER = s.rd wTables TBL_OWNER.OWNER ∧ t.bench = s.bench) ∧
  (∀ (s : State) (init : Initiator) (rw : Fin 4), CmdOpen s init wTables TBL_CTRL.RELEASE → s.rd wTables TBL_OWNER.OWNER = init.code → Completes (.tblRelease init rw) s fun t =>
    t.rd wTables TBL_OWNER.OWNER = 0 ∧ t.bench.lease = false ∧ t.bench.touched = s.bench.touched) ∧
  (∀ (s : State) (init : Initiator) (rw : Fin 4), CmdOpen s init wTables TBL_CTRL.ABORT → s.rd wTables TBL_OWNER.OWNER = init.code → s.on wTables TBL_STAT.BUSY = false → Completes (.tblAbort init rw) s fun t =>
    t.bench.touched = [] ∧ t.bench.ovf = [] ∧ t.on wTables TBL_STAT.STAGED = false ∧
    ∀ e ∈ s.touchedViews, ∀ f ∈ viewFields e.1 e.2, t.ent (1 - s.gen) e.1 f e.2 = s.ent s.gen e.1 f e.2 % 2 ^ f.width) ∧
  (∀ (s : State), s.bench.lease = true → s.rd wTables TBL_OWNER.OWNER ≠ 0 → s.on wTables TBL_STAT.BUSY = false → Completes .tblLeaseExpiry s fun t =>
    t.rd wTables TBL_OWNER.OWNER = 0 ∧ t.bench.touched = [] ∧ t.on (holderWindow (s.rd wTables TBL_OWNER.OWNER)) UNIT_STICKY.LEASE = true) ∧
  (∀ (s : State) (init : Initiator) (rw : Fin 4), WriteOpen s init wTables 0x140 → s.rd wTables TBL_OWNER.OWNER = init.code → s.on wTables TBL_STAT.BUSY = false → s.on wTables TBL_CTRL.COMMIT = false → s.bench.ovf = [] → Completes (.tblCommit init rw) s fun t =>
    t.gen = 1 - s.gen ∧ t.bench.phase = .drain ∧ t.on wTables TBL_STAT.BUSY = true) ∧
  (∀ (s : State) (init : Initiator) (rw : Fin 4), WriteOpen s init wTables 0x140 → s.rd wTables TBL_OWNER.OWNER = init.code → s.on wTables TBL_STAT.BUSY = false → s.on wTables TBL_CTRL.COMMIT = false → s.bench.ovf ≠ [] → 2 ≤ rw.val → Completes (.tblCommit init rw) s fun t =>
    t.gen = s.gen ∧ t.bench.phase = .splitDrain ∧ t.on wTables TBL_STAT.BUSY = true) ∧
  (∀ (s : State) (init : Initiator) (rw : Fin 4), WriteOpen s init wTables 0x140 → s.rd wTables TBL_OWNER.OWNER = init.code → s.on wTables TBL_STAT.BUSY = false → s.on wTables TBL_CTRL.COMMIT = false → s.bench.ovf ≠ [] → rw.val < 2 → Completes (.tblCommit init rw) s fun t =>
    t.gen = s.gen ∧ t.bench.phase = s.bench.phase ∧ t.on wTables TBL_STAT.BUSY = false ∧ t.on wTables TBL_STAT.REFUSED = true) ∧
  (∀ (s : State), s.bench.phase = .drain → s.drained = true → Completes .commitDrainEnd s fun t =>
    t.bench.phase = .reclaim ∧ t.regs = s.regs) ∧
  (∀ (s : State), s.bench.phase = .splitDrain → s.drained = true → Completes .commitDrainEnd s fun t =>
    t.bench.phase = .split ∧ t.regs = s.regs) ∧
  (∀ (s : State), s.bench.phase = .reclaim → Completes .commitReclaimDone s fun t =>
    t.bench.phase = .idle ∧ t.on wTables TBL_STAT.BUSY = false ∧ t.on wTables TBL_CTRL.COMMIT = false ∧ t.bench.touched = [] ∧
    t.bench.ovf = [] ∧ t.rd wTables TBL_COMMITS.COUNT = satAdd (s.rd wTables TBL_COMMITS.COUNT) 1 32) ∧
  (∀ (s : State) (w : Nat), s.bench.phase = .split → s.toSwitch.head? = some w → Completes .splitTableSwitch s fun t =>
    t.bench.switched.contains w = true ∧ t.rd wTables TBL_SPLIT_STEP.STEP = splitOrder.idxOf w + 1 ∧
    (s.toSwitch.tail = [] ∧ t.bench.deletions = [] → t.bench.phase = .reclaim ∧ t.gen = 1 - s.gen)) ∧
  (∀ (s : State), s.bench.phase = .split → s.toSwitch = [] → Completes .splitTableSwitch s fun t =>
    t.bench.phase = .reclaim ∧ t.gen = 1 - s.gen ∧ t.rd wTables TBL_SPLIT_STEP.STEP = 12 ∧ t.bench.deletions = [] ∧ t.bench.holdOn = false) ∧
  (∀ (s : State), s.bench.holdOn = true → s.holdInForce = true → Completes .flowHoldExpiry s fun t =>
    t.bench.holdOn = false ∧ t.on wTables TBL_STAT.HOLD_EXP = true ∧ (t.fab.pipe.all fun i => i.stage != .held) = true) ∧
  (∀ (s : State), s.bench.holdOn = false → Quiet .flowHoldExpiry s) ∧
  (∀ (s : State), s.bench.phase ≠ .reclaim → Quiet .commitReclaimDone s) ∧
  (∀ (s : State), s.bench.phase ≠ .split → Quiet .splitTableSwitch s) ∧
  (∀ (s : State), s.drained = false → Quiet .commitDrainEnd s) ∧
  (∀ (s : State), s.bench.lease = false ∨ s.rd wTables TBL_OWNER.OWNER = 0 → Quiet .tblLeaseExpiry s)

/-- For each command the next state holds what is named here. R171, R173: a whole frame that a hearing port admits, that passes the checks and goes to no other unit nor MACsec is stored with its bytes, its source and one reference, waits as the last item of the pipeline and is counted; one of fewer than 60 bytes before its FCS is counted as a runt and ends dropped, and the fabric is unchanged. R132, R138: the first bytes of an admitted frame are stored up to MAX_FRAME, and its item waits in the pipeline while the frame is open. R34, R229, R232: the one LIN response that waits for stage 2, whose route leads to one signal engine and names no context, joins that engine's queue and leaves the pipeline. R181: the one Ethernet frame that waits, without a Sieve rule, whose VLAN is not valid, leaves the pipeline and the Stockpile and ends dropped. A port that does not hear, further bytes without an open frame, and a classification with no item waiting change nothing. -/
def Obligations.FrameReceptionAndClassification : Prop :=
  (∀ (s : State) (p : Fin 16) (d : List Byte) (age : BitVec 32), s.ethHears p = true → s.rxOpen p = none → s.admits p (cellsOf (min (d.length + 4) (s.maxFrame p))) = true → s.rxCheck p (byteList d) (d.length + 4) false true = none → s.rxTaken p (byteList d) = false → s.secyOn p = false → NoMirror s → (s.fab.frames.all fun f => f.fid < s.fab.nextFid) = true → Completes (.ethFrameReceived p (.whole d false true age)) s fun t =>
    (t.frame s.fab.nextFid).map (fun f => (f.data, f.src, f.refs, f.isOpen)) = some (byteList d, p.val, 1, false) ∧
    t.fab.frames.length = s.fab.frames.length + 1 ∧ t.fab.pipe.length = s.fab.pipe.length + 1 ∧
    t.fab.pipe.getLast?.map (fun i => (i.fid, i.data)) = some (s.fab.nextFid, byteList d) ∧ OneMore s t (wEth p) ETH_RX_OK.COUNT) ∧
  (∀ (s : State) (p : Fin 16) (d : List Byte) (age : BitVec 32) (fcs : Bool), s.ethHears p = true → s.rxOpen p = none → s.admits p (cellsOf (min (d.length + 4) (s.maxFrame p))) = true → d.length < 60 → Completes (.ethFrameReceived p (.whole d false fcs age)) s fun t =>
    t.fab = s.fab ∧ OneMore s t (wEth p) ETH_RX_RUNT.COUNT ∧ t.on (wEth p) ETH_STAT.RX_ERR = true ∧
    OneMore s t wFabric FAB_DROPPED.COUNT ∧ t.rd (wEth p) ETH_RX_OK.COUNT = s.rd (wEth p) ETH_RX_OK.COUNT) ∧
  (∀ (s : State) (it : PipeItem) (f : Frame) (id : Fin 64) (e : Fin 4), s.activating .fs = false → (s.inRom 0x013 && s.inRom 0x014) = false → s.fab.pipe = [it] → it.stage = .atFilter → s.frame it.fid = some f → f.lin = some id.val → f.can = none → f.isOpen = false → 0x20 ≤ f.src → s.on wRoute RT_LIN_BASE.VALID = true → s.rd wRoute RT_LIN_BASE.BASE + 64 * (f.src - 0x20) + id.val ≤ 16383 → ToEngine s it.gen (s.rd wRoute RT_LIN_BASE.BASE + 64 * (f.src - 0x20) + id.val) e → s.ent it.gen wRoute RT_ENTRY.IN_CTX (s.rd wRoute RT_LIN_BASE.BASE + 64 * (f.src - 0x20) + id.val) = 0 → Completes .frameClassify s fun t =>
    t.exq e = s.exq e ++ [extractOf s it it.data (s.rd wRoute RT_LIN_BASE.BASE + 64 * (f.src - 0x20) + id.val)] ∧ t.fab.pipe = [] ∧
    t.fab.frames = s.fab.frames ∧ t.regs = s.regs) ∧
  (∀ (s : State) (it : PipeItem) (f : Frame), s.activating .fs = false → (s.inRom 0x013 && s.inRom 0x014) = false → s.bench.phase = .idle → s.fab.pipe = [it] → it.stage = .atFilter → s.frame it.fid = some f → f.lin = none → f.can = none → f.refs = 1 → s.sieveMatch it.gen (s.sieveKey f.src it.data) = none → s.pdef f.src = true → s.vlanOk it.gen (s.vidOf f.src it.data) = false → Completes .frameClassify s fun t =>
    t.fab.pipe = [] ∧ t.frame it.fid = none ∧ (f.pduBuild = false → OneMore s t wFabric FAB_DROPPED.COUNT)) ∧
  (∀ (s : State) (p : Fin 16) (d : List Byte) (age : BitVec 32), s.ethHears p = true → s.rxOpen p = none → s.admits p (cellsOf (min (d.length + 4) (s.maxFrame p))) = true → s.bench.phase = .idle → (s.fab.frames.all fun f => f.fid < s.fab.nextFid) = true → Completes (.ethFrameReceived p (.first d age)) s fun t =>
    t.rxOpen p = some ⟨some s.fab.nextFid, d.length + 4⟩ ∧ t.frameOpen s.fab.nextFid = true ∧ (t.frame s.fab.nextFid).map (·.data) = some ((byteList d).take (s.maxFrame p)) ∧
    t.fab.pipe.length = s.fab.pipe.length + 1 ∧ t.regs = s.regs) ∧
  (∀ (s : State) (p : Fin 16) (d : List Byte), s.rxOpen p = none → s.ethState p ≠ ethLoop → Quiet (.ethFrameReceived p (.more d)) s) ∧
  (∀ (s : State) (p : Fin 16) (d : List Byte) (symErr fcsOk : Bool) (age : BitVec 32), s.ethHears p = false → s.ethState p ≠ ethLoop → Quiet (.ethFrameReceived p (.whole d symErr fcsOk age)) s) ∧
  (∀ (s : State), (s.fab.pipe.find? fun i => i.stage == .atFilter) = none → Quiet .frameClassify s)

/-- For each command the next state holds what is named here. R139: the one cut-through copy of the one waiting item, with its threshold of bytes stored and room in its class, joins that class. R143: an idle reader of a port that is up, without MACsec, takes the head of the class that the selection gives, and of a port with one class waiting whose gate is open and that has no slope takes that head; the copy is then in transmission with its bytes. R154, R174: a whole copy that fits the egress MAX_FRAME and needs no more of stage 8 goes out padded to 60 bytes, is counted and ends delivered. R140: an underrun of a cut-through copy ends it with the bad-check ending, is counted, sets UNDERRUN and CT_RAISED and raises CT_THR by one, from 32 to 0. R146: FLUSH empties the masked classes and no other and reads 1 until it is done, which sets the event. With nothing of its kind each of these changes nothing. -/
def Obligations.EgressComplete : Prop :=
  (∀ (s : State) (it : PipeItem) (c : Copy) (p : Fin 16), s.fab.pipe = [it] → it.stage = .atCut → it.ready = [c] → c.dest = p.val → c.ct = true → s.hopCtThr p ≠ 0 → s.hopCtThr p * 64 ≤ it.data.length → s.hopDown p = false → s.ethState p ≠ ethSleeping → c.evt = false → s.hopQlim p c.tc ≠ 0 → qCells (s.queue p c.tc) + c.cells ≤ s.hopQlim p c.tc → Completes .cutThroughEnqueue s fun t =>
    t.queue p c.tc = s.queue p c.tc ++ [{ c with enq := s.clk }] ∧ t.fab.pipe = [{ it with ready := [] }] ∧ t.regs = s.regs ∧
    t.fab.frames = s.fab.frames) ∧
  (∀ (s : State) (p : Fin 16) (c : Copy), c.tc < 8 → s.hopDown p = false → (s.sending p).isNone = true → s.secyOn p = false → s.ethState p ≠ ethSleepReq → s.fab.queues = [(qKey p c.tc, [c])] → s.evp.armed = [] → s.hopOpen p c.tc = true → s.hopSlope p c.tc = 0 → look s.fab.backPress (qKey p c.tc) false = false → s.stampAsked p c = none → NoMirror s → (s.frame c.fid).map (·.ecc) = some false → c.outCtx = 0 → wireBytes c ≤ s.maxFrame p → Completes (.egressDequeue p) s fun t =>
    (t.sending p).map (fun x => (x.cid, x.data)) = some (c.cid, c.data) ∧ t.queue p c.tc = [] ∧ t.fab.frames = s.fab.frames ∧ t.flt = s.flt) ∧
  (∀ (s : State) (p : Fin 16) (k : Nat) (c : Copy) (r : List Copy), s.hopDown p = false → (s.sending p).isNone = true → s.secyOn p = false → s.ethState p ≠ ethSleepReq → (((s.refreshCredit p).markPassed p).startWaits p).serveClass p = some k → (((s.refreshCredit p).markPassed p).startWaits p).queue p k = c :: r → NoMirror s → (s.frame c.fid).map (·.ecc) = some false → c.outCtx = 0 → wireBytes c ≤ s.maxFrame p → Completes (.egressDequeue p) s fun t =>
    (t.sending p).map (fun x => (x.cid, x.data)) = some (c.cid, c.data) ∧ t.queue p k = r) ∧
  (∀ (s : State) (p : Fin 16), s.hopDown p = true ∨ (s.sending p).isSome = true → Quiet (.egressDequeue p) s) ∧
  (∀ (s : State) (p : Fin 16) (c : Copy), s.sending p = some c → c.outCtx = 0 → s.frameOpen c.fid = false → c.sealed = true ∨ s.secyOn p = false → wireBytes c ≤ s.maxFrame p → c.untimed = false → s.ethState p ≠ ethLoop → c.dest = p.val → Completes (.egressLastByteSent p) s fun t =>
    t.sending p = none ∧ .ethFrame p (ethOctets (c.data ++ List.replicate (60 - c.data.length) 0) false) false ∈ t.outs ∧
    OneMore s t (wEth p) ETH_TX_OK.COUNT ∧ OneMore s t wFabric FAB_DELIVERED.COUNT ∧ t.flt = s.flt) ∧
  (∀ (s : State) (p : Fin 16), s.sending p = none → Quiet (.egressLastByteSent p) s) ∧
  (∀ (s : State) (p : Fin 16) (c : Copy), s.sending p = some c → c.ct = true → s.ethState p ≠ ethLoop → c.dest = p.val → Completes (.ctUnderrun p) s fun t =>
    t.sending p = none ∧ .ethFrame p (ethOctets c.data true) true ∈ t.outs ∧ t.on (wHop p) HOP_STAT.UNDERRUN = true ∧ t.on (wHop p) HOP_STAT.CT_RAISED = true ∧
    OneMore s t (wEth p) ETH_TX_BADCHECK.COUNT ∧
    t.rd (wHop p) HOP_CT_THR.CT_THR = (if 32 ≤ s.rd (wHop p) HOP_CT_THR.CT_THR then 0 else s.rd (wHop p) HOP_CT_THR.CT_THR + 1)) ∧
  (∀ (s : State) (init : Initiator) (p : Fin 16), CmdOpen s init (wHop p) HOP_CTRL.FLUSH → Completes (.hopperFlush init p) s fun t =>
    t.on (wHop p) HOP_CTRL.FLUSH = true ∧ ∀ c : Fin 8,
    t.queue p c = if bit (s.rd (wHop p) HOP_FLUSH_MASK.MASK) c then [] else s.queue p c) ∧
  (∀ (s : State) (p : Fin 16), s.on (wHop p) HOP_CTRL.FLUSH = true → Completes (.flushComplete p) s fun t =>
    t.on (wHop p) HOP_CTRL.FLUSH = false ∧ EvSet t (wHop p) 2 ∧ t.fab = s.fab) ∧
  (∀ (s : State) (p : Fin 16), s.on (wHop p) HOP_CTRL.FLUSH = false → Quiet (.flushComplete p) s) ∧
  (∀ (s : State) (p : Fin 16), s.sending p = none → Quiet (.ctUnderrun p) s) ∧
  (∀ (s : State), (s.fab.pipe.any fun i => i.stage == .atCut && i.ready.any (s.cutReady i)) = false → Quiet .cutThroughEnqueue s)

/-- For each command the next state holds what is named here. R136: an uncorrectable error in a cell of a frame that has no bad one ends the copy that reads it, in transmission at an Ethernet port with the bad-check ending, at a CAN port or as the head of a host ring failed, retires one cell and sets ECC_UNCORR. R135: the expired lease of an egress reader ends its copy with the bad-check ending and retires none; that of a DMA transfer ends the head of the host ring failed; that of the oldest frame in stages 2 to 6 ends its item and frees its frame; that of a writer closes the frame in reception; each sets LEASE_REV in the Stockpile and LEASE in the holder's window. R152: an enabled recovery function with a timeout and a history forgets it and is counted. With nothing of its kind to act on, these events change nothing. -/
def Obligations.StockpileAndFrerComplete : Prop :=
  (∀ (s : State) (p : Fin 16) (c : Copy), s.sending p = some c → c.dest = p.val → s.ethState p ≠ ethLoop → s.copyBad c = false → Completes (.stockpileEccUncorr (.eth p)) s fun t =>
    t.sending p = none ∧ .ethFrame p (ethOctets c.data true) true ∈ t.outs ∧ t.fab.retired = s.fab.retired + 1 ∧
    t.rd wStockpile STK_RETIRED.RETIRED = (s.fab.retired + 1) % 65536 ∧ t.on wStockpile STK_STAT.ECC_UNCORR = true ∧
    OneMore s t (wHop p) HOP_DROPS.COUNT) ∧
  (∀ (s : State) (r : Fin 16) (c : Copy) (l : List Copy), look s.fab.ringQ r.val [] = c :: l → s.copyBad c = false → Completes (.stockpileEccUncorr (.dma r)) s fun t =>
    look t.fab.ringQ r.val [] = l ∧ t.fab.retired = s.fab.retired + 1 ∧ t.on wStockpile STK_STAT.ECC_UNCORR = true ∧ OneMore s t wFabric FAB_FAILED.COUNT) ∧
  (∀ (s : State) (p : Fin 16) (c : Copy) (cid : Nat), s.canSending p = some (.copy cid) → (s.txq p).find? (·.cid == cid) = some c → s.copyBad c = false → Completes (.stockpileEccUncorr (.can p)) s fun t =>
    t.canSending p = none ∧ (t.txq p).all (fun x => x.cid != cid) = true ∧ t.fab.retired = s.fab.retired + 1 ∧ t.on wStockpile STK_STAT.ECC_UNCORR = true ∧
    OneMore s t wFabric FAB_FAILED.COUNT) ∧
  (∀ (s : State) (p : Fin 16), s.sending p = none → Quiet (.stockpileEccUncorr (.eth p)) s) ∧
  (∀ (s : State) (p : Fin 16) (c : Copy), s.sending p = some c → c.dest = p.val → s.ethState p ≠ ethLoop → Completes (.stockpileLeaseExpiry (.reader p)) s fun t =>
    t.sending p = none ∧ .ethFrame p (ethOctets c.data true) true ∈ t.outs ∧ t.fab.retired = s.fab.retired ∧ t.on wStockpile STK_STAT.LEASE_REV = true ∧
    t.on (wHop p) UNIT_STICKY.LEASE = true ∧ (s.rd (wHop p) FAULT_ADDR.CAUSE = 0 → t.rd (wHop p) FAULT_ADDR.CAUSE = 3)) ∧
  (∀ (s : State) (r : Fin 16) (c : Copy) (l : List Copy), look s.fab.ringQ r.val [] = c :: l → Completes (.stockpileLeaseExpiry (.dma r)) s fun t =>
    look t.fab.ringQ r.val [] = l ∧ t.on wStockpile STK_STAT.LEASE_REV = true ∧ t.on wHost UNIT_STICKY.LEASE = true ∧ OneMore s t wFabric FAB_FAILED.COUNT) ∧
  (∀ (s : State) (it : PipeItem) (f : Frame), s.fab.pipe = [it] → s.fab.frames = [f] → f.fid = it.fid → f.refs = 1 → f.isOpen = false → Completes (.stockpileLeaseExpiry .stages) s fun t =>
    t.fab.pipe = [] ∧ t.fab.frames = [] ∧ t.on wStockpile STK_STAT.LEASE_REV = true ∧ t.on wFabric UNIT_STICKY.LEASE = true) ∧
  (∀ (s : State) (p : Fin 16) (fd n : Nat), s.rxOpen p = some ⟨some fd, n⟩ → s.ethState p ≠ ethLoop → Completes (.stockpileLeaseExpiry (.writer p)) s fun t =>
    t.rxOpen p = some ⟨none, n⟩ ∧ t.frameOpen fd = false ∧ t.on wStockpile STK_STAT.LEASE_REV = true ∧ t.on (wEth p) UNIT_STICKY.LEASE = true) ∧
  (∀ (s : State), s.fab.pipe = [] → Quiet (.stockpileLeaseExpiry .stages) s) ∧
  (∀ (s : State) (i : Fin 256), s.on wFabric FAB_FRER_REC.EN i = true → s.rd wFabric FAB_FRER_REC.RESET_TO i ≠ 0 → (s.fab.frerRec.find? (·.1 == i.val)).isSome = true → Completes (.frerResetTimeout i) s fun t =>
    t.fab.frerRec.find? (·.1 == i.val) = none ∧ t.rd wFabric FAB_FRER_RESETS.COUNT i = satAdd (s.rd wFabric FAB_FRER_RESETS.COUNT i) 1 32 ∧
    t.fab.frames = s.fab.frames) ∧
  (∀ (s : State) (i : Fin 256), s.on wFabric FAB_FRER_REC.EN i = false ∨ s.rd wFabric FAB_FRER_REC.RESET_TO i = 0 ∨ (s.fab.frerRec.find? (·.1 == i.val)).isSome = false → Quiet (.frerResetTimeout i) s)

/-- For each command the next state holds what is named here. R273 to R278, R281: the one item that waits for verification under a ready receive context, of a LIN response whose route leads to one signal engine, with a trailer made over a value above L, within the window, within 2^TFV_BITS of L, in the epoch of L unless the context is flat, and below the ceiling, passes: L becomes the value, AUTH_VERIFIED counts, and the PDU joins the engine's queue. R280: the next copy for a CAN port under a ready transmit context, with room for the trailer and below the ceiling, gains the trailer over L + 1, L becomes L + 1, AUTH_APPENDED counts and the copy waits no more. R281: a ceiling write that is pending sets the ceiling RESERVE above L, and a copy that waited for it then gains its trailer. R284: a newer epoch is stored, with VALID and the event, and every started context that is not flat takes it; another sets EPOCH_LOW and changes no value. R291: an expired session ends its operation and sets LEASE in its engine's window: a verification drops its item and frame, an append takes its copy out of the waiting ones, a protection ends the copy with the bad-check ending, the opening of a frame closes it. With nothing of its kind waiting a command changes nothing. -/
def Obligations.AuthenticationComplete : Prop :=
  (∀ (s : State) (c : Fin 4096) (e : Fin 4) (it : PipeItem) (f : Frame) (i k : Nat) (v : BitVec 64) (part : List Byte), s.cmacRom = false → f.can = none → f.lin.isSome = true → f.refs = 1 → f.fid = it.fid → it.plan = .route i → it.strip = 0 → ToEngine s it.gen i k → k < 4 → CmacReady s it.gen c e → s.ent it.gen wAuth AUTH_CTX.DIR c = 0 → s.fv c < v.toNat → v.toNat - s.fv c ≤ max 1 (s.ctx it.gen AUTH_CTX.ACC_WIN c) → v.toNat - s.fv c ≤ 2 ^ s.tfvBits it.gen c → s.entOn it.gen wAuth AUTH_CTX.FLAT c = true ∨ v.toNat / 2 ^ 40 = s.fv c / 2 ^ 40 → v.toNat < s.ceil c → Completes (.authVerify c e) (verifyItem s c it f (byteList part ++ s.trailer it.gen c v.toNat (byteList part))) fun t =>
    t.fv c = v.toNat ∧ OneMore s t wAuth AUTH_VERIFIED.COUNT ∧ t.fab.pipe = [] ∧
    t.exq k = s.exq k ++ [extractOf s it (byteList part ++ s.trailer it.gen c v.toNat (byteList part)) i]) ∧
  (∀ (s : State) (c : Fin 4096) (e : Fin 4) (p : Fin 16) (x : Copy) (h : CanHdr), s.cmacRom = false → s.appendNext c = some x → x.dest = 0x10 + p.val → x.can = some h → CmacReady s (s.genOf wAuth) c e → s.ent (s.genOf wAuth) wAuth AUTH_CTX.DIR c = 1 → s.fv c + 1 < s.ceil c → x.data.length + s.trailerLen (s.genOf wAuth) c ≤ canLimit h.fmt → s.fv c < 2 ^ 64 - 1 → Completes (.authAppend c e) s fun t =>
    t.fv c = s.fv c + 1 ∧ OneMore s t wAuth AUTH_APPENDED.COUNT ∧ t.fab.appendQ = s.fab.appendQ.filter (· != x.cid) ∧
    t.txq p = (s.txq p).map fun y => if y.cid = x.cid then { y with outCtx := 0, data := canPad h.fmt (x.data ++ s.trailer (s.genOf wAuth) c (s.fv c + 1) x.data) } else y) ∧
  (∀ (s : State) (c : Fin 4096) (e : Fin 4) (p : Fin 16) (x : Copy) (h : CanHdr), s.cmacRom = false → s.guard.ceilPend.contains c.val = true → (s.verifying c).isNone = true → s.ceil c = s.fv c + 1 → s.appendNext c = some x → x.dest = 0x10 + p.val → x.can = some h → CmacReady s (s.genOf wAuth) c e → s.ent (s.genOf wAuth) wAuth AUTH_CTX.DIR c = 1 → x.data.length + s.trailerLen (s.genOf wAuth) c ≤ canLimit h.fmt → s.fv c < 2 ^ 64 - 1 → Completes (.authCeilWrite c e) s fun t =>
    t.fv c = s.fv c + 1 ∧ t.ceil c = s.fv c + s.reserve ∧ t.guard.ceilPend.contains c.val = false ∧ OneMore s t wAuth AUTH_APPENDED.COUNT ∧
    t.fab.appendQ = s.fab.appendQ.filter (· != x.cid) ∧
    t.txq p = (s.txq p).map fun y => if y.cid = x.cid then { y with outCtx := 0, data := canPad h.fmt (x.data ++ s.trailer (s.genOf wAuth) c (s.fv c + 1) x.data) } else y) ∧
  (∀ (s : State) (c : Fin 4096) (e : Fin 4), s.guard.ceilPend.contains c.val = true → (s.verifying c).isNone = true → s.appendNext c = none → Completes (.authCeilWrite c e) s fun t =>
    t.ceil c = s.fv c + s.reserve ∧ t.guard.ceilPend.contains c.val = false ∧ t.regs = s.regs ∧ t.fab = s.fab) ∧
  (∀ (s : State) (init : Initiator) (v : BitVec 24), WriteOpen s init wAuth 0x144 → s.epochNew v.toNat = true → Completes (.authEpochWrite init v) s fun t =>
    t.rd wAuth AUTH_EPOCH.EPOCH = v.toNat ∧ t.on wAuth AUTH_EPOCH.VALID = true ∧ EvSet t wAuth 1 ∧
    ∀ c : Fin 4096, t.fv c = if s.guard.started.contains c.val && !s.flat c then v.toNat * 2 ^ 40 else s.fv c) ∧
  (∀ (s : State) (init : Initiator) (v : BitVec 24), WriteOpen s init wAuth 0x144 → s.epochNew v.toNat = false → Completes (.authEpochWrite init v) s fun t =>
    t.on wAuth AUTH_STAT.EPOCH_LOW = true ∧ t.rd wAuth AUTH_EPOCH.EPOCH = s.rd wAuth AUTH_EPOCH.EPOCH ∧ t.guard = s.guard) ∧
  (∀ (s : State) (c : Fin 4096) (e : Fin 4) (x : Copy), s.appendNext c = some x → Completes (.keySessionLeaseExpiry (.append c e)) s fun t =>
    t.fab.appendQ = s.fab.appendQ.filter (· != x.cid) ∧ t.fab.appendWait = s.fab.appendWait.filter (·.cid != x.cid) ∧
    t.on (wCmac e) UNIT_STICKY.LEASE = true) ∧
  (∀ (s : State) (c : Fin 4096) (e : Fin 4) (it : PipeItem) (f : Frame), s.verifying c = some (it, f) → f.refs = 1 → Completes (.keySessionLeaseExpiry (.verify c e)) s fun t =>
    (t.fab.pipe.all fun i => i.fid != f.fid) = true ∧ t.frame f.fid = none ∧ t.on (wCmac e) UNIT_STICKY.LEASE = true) ∧
  (∀ (s : State) (p : Fin 6) (x : Copy) (k : Nat), s.sending p = some x → s.secyOn p = true → s.txSc p = some k → x.outCtx = 0 → s.ethState p ≠ ethLoop → x.dest = p.val → Completes (.keySessionLeaseExpiry (.protect p)) s fun t =>
    t.sending p = none ∧ .ethFrame p (ethOctets x.data true) true ∈ t.outs ∧ t.on (wGcm (gcmEngine p true)) UNIT_STICKY.LEASE = true) ∧
  (∀ (s : State) (p : Fin 6) (n : Nat) (f : Frame), s.rxOpen p = some ⟨some f.fid, n⟩ → s.frame f.fid = some f → s.secyOn p = true → s.rd wMacsec (MSEC_PORT.VALIDATE.elem p) ≠ 0 → (secTag f.data).isSome = true → s.ethState p ≠ ethLoop → Completes (.keySessionLeaseExpiry (.receive p)) s fun t =>
    t.rxOpen p = some ⟨none, n⟩ ∧ t.frameOpen f.fid = false ∧ t.on (wGcm (gcmEngine p false)) UNIT_STICKY.LEASE = true) ∧
  (∀ (s : State) (p : Fin 6), s.sending p = none → Quiet (.keySessionLeaseExpiry (.protect p)) s) ∧
  (∀ (s : State) (c : Fin 4096) (e : Fin 4), s.verifying c = none → Quiet (.authVerify c e) s) ∧
  (∀ (s : State) (c : Fin 4096) (e : Fin 4), s.appendNext c = none → Quiet (.authAppend c e) s) ∧
  (∀ (s : State) (c : Fin 4096) (e : Fin 4), s.guard.ceilPend.contains c.val = false → Quiet (.authCeilWrite c e) s)

/-- For each command the next state holds what is named here. R156, R166: EN written 1 with an interface that the port has takes a disabled port with no MDIO writes outstanding to TRAINING; another IF stores 0 and leaves it DISABLED; EN written 0 leaves DISABLED, with the reader down, rate 0 and the PHY pin low where it was on. R158: link up in TRAINING gives UP, the rate, the reader up and the event, with AN the rate of an accepted word; a word that is not accepted is a training failure. R166: the timeout in TRAINING counts a failure and trains again; a lost link takes UP and SLEEP_REQ to TRAINING, counts in LINK_DOWNS and sets LINK_LOST, and in TRAINING, SLEEPING and LOOP changes neither state nor count; RETRAIN takes UP to TRAINING and restarts the timer in TRAINING. R159: PHY_RESET on ETH0 to ETH5 drives the pin low; the pin rises at the end of the pulse, and at the release after reset, unless the port's state or a pulse holds it. R177: ETH_LOOP written with MODE 1 or 2 takes UP to LOOP with the reader up, with 3 with the reader down, and 0 takes LOOP to TRAINING. Other times of link up, timeout and pulse end change nothing. -/
def Obligations.EthernetLinkComplete : Prop :=
  (∀ (s : State) (init : Initiator) (p : Fin 16) (low : Fin 128), WriteOpen s init (wEth p) 0x140 → s.ethState p = ethDisabled → ifAllowed p (bits low.val 6 4) = true → s.mdioList p = [] → Completes (.ethEnable init p low) s fun t =>
    t.ethState p = ethTraining ∧ t.on (wEth p) ETH_CFG.EN = true ∧ t.rd (wEth p) ETH_CFG.IF = bits low.val 6 4 ∧
    t.rd (wEth p) ETH_STATE.RATE = 0) ∧
  (∀ (s : State) (init : Initiator) (p : Fin 16) (low : Fin 128), WriteOpen s init (wEth p) 0x140 → s.ethState p = ethDisabled → ifAllowed p (bits low.val 6 4) = false → Completes (.ethEnable init p low) s fun t =>
    t.ethState p = ethDisabled ∧ t.on (wEth p) ETH_CFG.EN = true ∧ t.rd (wEth p) ETH_CFG.IF = 0) ∧
  (∀ (s : State) (init : Initiator) (p : Fin 16) (low : Fin 128), WriteOpen s init (wEth p) 0x140 → Completes (.ethDisable init p low) s fun t =>
    t.ethState p = ethDisabled ∧ t.on (wEth p) ETH_CFG.EN = false ∧ (s.ethState p ≠ ethDisabled → t.hopDown p = true ∧
    t.rd (wEth p) ETH_STATE.RATE = 0 ∧ (p.val < 6 → look t.eth.rstLow p false = true))) ∧
  (∀ (s : State) (p : Fin 16) (r : EthRate) (full : Bool), s.ethState p = ethTraining → s.inRom (wEth p) = false → s.on (wEth p) ETH_CFG.AN = false → Completes (.ethLinkUp p r full) s fun t =>
    t.ethState p = ethUp ∧ t.rd (wEth p) ETH_STATE.RATE = topRate (s.rd (wEth p) ETH_CFG.IF) ∧ t.hopDown p = false ∧ EvSet t (wEth p) 0 ∧
    look t.eth.linkTo p false = false) ∧
  (∀ (s : State) (p : Fin 16) (r : EthRate) (full : Bool), s.ethState p = ethTraining → s.inRom (wEth p) = false → s.on (wEth p) ETH_CFG.AN = true → full = true → if s.rd (wEth p) ETH_CFG.IF = 2 then 3 ≤ rateCode r else rateCode r = 2 → Completes (.ethLinkUp p r full) s fun t =>
    t.ethState p = ethUp ∧ t.rd (wEth p) ETH_STATE.RATE = rateCode r ∧ t.hopDown p = false ∧ EvSet t (wEth p) 0 ∧ look t.eth.linkTo p false = false) ∧
  (∀ (s : State) (p : Fin 16) (r : EthRate) (full : Bool), s.ethState p = ethTraining → s.inRom (wEth p) = false → s.on (wEth p) ETH_CFG.AN = true → full = false ∨ ¬ (if s.rd (wEth p) ETH_CFG.IF = 2 then 3 ≤ rateCode r else rateCode r = 2) → Completes (.ethLinkUp p r full) s fun t =>
    t.ethState p = ethTraining ∧ t.on (wEth p) ETH_STAT.TRAIN_FAIL = true ∧ OneMore s t (wEth p) ETH_TRAIN_FAILS.COUNT ∧ EvSet t (wEth p) 6) ∧
  (∀ (s : State) (p : Fin 16) (r : EthRate) (full : Bool), s.ethState p ≠ ethTraining ∨ s.inRom (wEth p) = true → Quiet (.ethLinkUp p r full) s) ∧
  (∀ (s : State) (p : Fin 16), s.ethState p ≠ ethTraining ∨ look s.eth.linkTo p false = false ∨ s.rd (wEth p) ETH_LINK_TO.LINK_TO = 0 → Quiet (.ethLinkTimeout p) s) ∧
  (∀ (s : State) (p : Fin 16), s.ethState p = ethSleepReq → Completes (.ethLinkLost p) s fun t =>
    t.ethState p = ethTraining ∧ t.on (wEth p) ETH_STAT.LINK_LOST = true ∧ t.on (wEth p) ETH_STAT.SLEEP_FAIL = true ∧ OneMore s t (wEth p) ETH_LINK_DOWNS.COUNT ∧
    t.hopDown p = true ∧ EvSet t (wEth p) 1) ∧
  (∀ (s : State) (init : Initiator) (p : Fin 16), CmdOpen s init (wEth p) ETH_CTRL.RETRAIN → s.ethState p = ethTraining → Completes (.ethRetrainCmd init p) s fun t =>
    t.ethState p = ethTraining ∧ look t.eth.linkTo p false = (s.rd (wEth p) ETH_LINK_TO.LINK_TO != 0) ∧ t.rd (wEth p) ETH_LINK_DOWNS.COUNT = s.rd (wEth p) ETH_LINK_DOWNS.COUNT) ∧
  (∀ (s : State) (p : Fin 16), s.ethState p = ethTraining → look s.eth.linkTo p false = true → s.rd (wEth p) ETH_LINK_TO.LINK_TO ≠ 0 → Completes (.ethLinkTimeout p) s fun t =>
    t.ethState p = ethTraining ∧ t.on (wEth p) ETH_STAT.TRAIN_FAIL = true ∧ OneMore s t (wEth p) ETH_TRAIN_FAILS.COUNT ∧ EvSet t (wEth p) 6 ∧
    look t.eth.linkTo p false = true) ∧
  (∀ (s : State) (p : Fin 16), s.ethState p = ethUp → Completes (.ethLinkLost p) s fun t =>
    t.ethState p = ethTraining ∧ t.on (wEth p) ETH_STAT.LINK_LOST = true ∧ OneMore s t (wEth p) ETH_LINK_DOWNS.COUNT ∧ t.hopDown p = true ∧
    EvSet t (wEth p) 1) ∧
  (∀ (s : State) (init : Initiator) (p : Fin 16), CmdOpen s init (wEth p) ETH_CTRL.RETRAIN → s.ethState p = ethUp → Completes (.ethRetrainCmd init p) s fun t =>
    t.ethState p = ethTraining ∧ t.hopDown p = true ∧ OneMore s t (wEth p) ETH_LINK_DOWNS.COUNT) ∧
  (∀ (s : State) (init : Initiator) (p : Fin 16), CmdOpen s init (wEth p) ETH_CTRL.PHY_RESET → p.val < 6 → Completes (.ethPhyResetCmd init p) s fun t =>
    look t.eth.rstLow p false = true ∧ look t.eth.pulse p false = true ∧ t.on (wEth p) ETH_CTRL.PHY_RESET = true ∧ t.ethState p = s.ethState p) ∧
  (∀ (s : State) (p : Fin 16), look s.eth.pulse p false = true → s.phyHeld p = false → p.val < 6 → Completes (.phyResetPulseEnd p) s fun t =>
    look t.eth.rstLow p false = false ∧ look t.eth.pulse p false = false ∧ t.on (wEth p) ETH_CTRL.PHY_RESET = false ∧ t.ethState p = s.ethState p) ∧
  (∀ (s : State) (p : Fin 6), s.gxOn = true → look s.eth.pulse p false = false → s.phyHeld p = false → Completes .phyRstRelease s fun t =>
    look t.eth.rstLow p false = false ∧ t.regs = s.regs) ∧
  (∀ (s : State) (p : Fin 6), s.gxOn = true → look s.eth.pulse p false = true ∨ s.phyHeld p = true → Completes .phyRstRelease s fun t =>
    look t.eth.rstLow p false = look s.eth.rstLow p false ∧ t.regs = s.regs) ∧
  (∀ (s : State) (p : Fin 16), look s.eth.pulse p false = true → s.phyHeld p = true → Completes (.phyResetPulseEnd p) s fun t =>
    look t.eth.rstLow p false = look s.eth.rstLow p false ∧ look t.eth.pulse p false = false ∧ t.on (wEth p) ETH_CTRL.PHY_RESET = false) ∧
  (∀ (s : State) (p : Fin 16), look s.eth.pulse p false = false → Quiet (.phyResetPulseEnd p) s) ∧
  (∀ (s : State) (init : Initiator) (p : Fin 16) (v : Byte), WriteOpen s init (wEth p) 0x146 → s.ethState p = ethUp → s.rd (wEth p) ETH_LOOP.MODE = 0 → v.toNat % 4 = 1 ∨ v.toNat % 4 = 2 → Completes (.ethLoopWrite init p v) s fun t =>
    t.ethState p = ethLoop ∧ t.rd (wEth p) ETH_LOOP.MODE = v.toNat % 4 ∧ t.hopDown p = false ∧
    t.rd (wEth p) ETH_STATE.RATE = topRate (s.rd (wEth p) ETH_CFG.IF)) ∧
  (∀ (s : State) (p : Fin 16), s.ethState p ≠ ethUp → s.ethState p ≠ ethSleepReq → ¬ (s.ethState p = ethDisabled) → Completes (.ethLinkLost p) s fun t =>
    t.ethState p = s.ethState p ∧ t.rd (wEth p) ETH_LINK_DOWNS.COUNT = s.rd (wEth p) ETH_LINK_DOWNS.COUNT ∧ t.fab = s.fab) ∧
  (∀ (s : State) (init : Initiator) (p : Fin 16) (v : Byte), WriteOpen s init (wEth p) 0x146 → s.ethState p = ethUp → s.rd (wEth p) ETH_LOOP.MODE = 0 → v.toNat % 4 = 3 → Completes (.ethLoopWrite init p v) s fun t =>
    t.ethState p = ethLoop ∧ t.rd (wEth p) ETH_LOOP.MODE = 3 ∧ t.hopDown p = true ∧ t.rd (wEth p) ETH_STATE.RATE = 0) ∧
  (∀ (s : State) (init : Initiator) (p : Fin 16) (v : Byte), WriteOpen s init (wEth p) 0x146 → s.ethState p = ethLoop → s.rd (wEth p) ETH_LOOP.MODE ≠ 0 → v.toNat % 4 = 0 → Completes (.ethLoopWrite init p v) s fun t =>
    t.ethState p = ethTraining ∧ t.rd (wEth p) ETH_LOOP.MODE = 0 ∧ t.hopDown p = true ∧ t.rd (wEth p) ETH_STATE.RATE = 0)

/-- For each command the next state holds what is named here. R168, R169: SLEEP takes UP to SLEEP_REQ, which drains; an empty Hopper of ETH6 to ETH15 with TC10_EN sends the sleep request, of another port it completes the sleep: SLEEPING, ETH_SLEEPS, the event and the reader down; so does the acknowledge of a request. The timeout of the drain or of the acknowledge returns to UP with SLEEP_FAIL. R166: an acceptable sleep request on an UP port whose Hopper is empty is acknowledged in SLEEP_REQ. R170: a wake request or a wake pulse in SLEEP_REQ returns to UP with SLEEP_FAIL; on ETH6 to ETH15 in SLEEPING each trains the port and counts a wake. WAKE takes SLEEPING to TRAINING with the event, on ETH6 to ETH15 with a wake-up pulse. R160: PHY_INT_N of a port with a PHY sets PHY_INT and the event and wakes a SLEEPING port. R162: GO of a port with a PHY and no transaction outstanding is set and its transaction joins the port's bus; its end sends the frames, clears GO and sets the event; a read leaves its data, or 0xFFFF with NR, a write leaves DATA as it was. In states without a row these events change nothing. -/
def Obligations.EthernetSleepAndMdioComplete : Prop :=
  (∀ (s : State) (init : Initiator) (p : Fin 16), CmdOpen s init (wEth p) ETH_CTRL.SLEEP → s.ethState p = ethUp → Completes (.ethSleepCmd init p) s fun t =>
    t.ethState p = ethSleepReq ∧ t.on (wEth p) ETH_CTRL.SLEEP = true ∧ t.sleepStep p = .drain) ∧
  (∀ (s : State) (init : Initiator) (p : Fin 16), CmdOpen s init (wEth p) ETH_CTRL.WAKE → s.ethState p = ethSleeping → Completes (.ethWakeCmd init p) s fun t =>
    t.ethState p = ethTraining ∧ EvSet t (wEth p) 3 ∧ (6 ≤ p.val → .ethLine p 1 ∈ t.outs)) ∧
  (∀ (s : State) (p : Fin 16), 6 ≤ p.val → s.ethState p = ethSleepReq → s.sleepStep p = .drain → s.hopEmpty p = true → s.on (wEth p) ETH_SLEEP_CFG.TC10_EN = true → Completes (.ethSleepDrainEnd p) s fun t =>
    t.sleepStep p = .requested ∧ t.outs = [.ethLine p 2] ∧ t.ethState p = ethSleepReq ∧ t.regs = s.regs) ∧
  (∀ (s : State) (p : Fin 16), s.ethState p = ethSleepReq → s.sleepStep p = .drain → Completes (.ethSleepDrainTimeout p) s fun t =>
    t.ethState p = ethUp ∧ t.on (wEth p) ETH_STAT.SLEEP_FAIL = true ∧ t.on (wEth p) ETH_CTRL.SLEEP = false ∧ t.sleepStep p = .none) ∧
  (∀ (s : State) (p : Fin 16), s.ethState p = ethSleepReq → s.sleepStep p = .requested → Completes (.ethSleepAckReceived p) s fun t =>
    t.ethState p = ethSleeping ∧ OneMore s t (wEth p) ETH_SLEEPS.COUNT ∧ EvSet t (wEth p) 2 ∧ t.hopDown p = true ∧
    t.on (wEth p) ETH_CTRL.SLEEP = false) ∧
  (∀ (s : State) (p : Fin 16), s.ethState p = ethSleepReq → s.sleepStep p = .requested ∨ s.sleepStep p = .acked → Completes (.ethSleepAckTimeout p) s fun t =>
    t.ethState p = ethUp ∧ t.on (wEth p) ETH_STAT.SLEEP_FAIL = true ∧ t.sleepStep p = .none) ∧
  (∀ (s : State) (p : Fin 16), 6 ≤ p.val → s.ethState p = ethUp → s.isSafe (wEth p) = false → s.hopEmpty p = true → s.on (wEth p) ETH_SLEEP_CFG.TC10_EN = true → s.on (wEth p) ETH_SLEEP_CFG.ACCEPT = true → Completes (.ethSleepRequestReceived p) s fun t =>
    t.ethState p = ethSleepReq ∧ t.sleepStep p = .acked ∧ .ethLine p 3 ∈ t.outs) ∧
  (∀ (s : State) (p : Fin 16), s.ethState p = ethSleepReq → Completes (.ethWakeRequestReceived p) s fun t =>
    t.ethState p = ethUp ∧ t.on (wEth p) ETH_STAT.SLEEP_FAIL = true) ∧
  (∀ (s : State) (p : Fin 16), 6 ≤ p.val → s.ethState p = ethSleeping → Completes (.ethWakePulseDetected p) s fun t =>
    t.ethState p = ethTraining ∧ OneMore s t (wEth p) ETH_WAKES.COUNT ∧ EvSet t (wEth p) 3) ∧
  (∀ (s : State) (p : Fin 16), p.val < 6 → s.on (wEth p) ETH_PHY_CFG.PRESENT = true → s.gxOn = true → Completes (.ethPhyInt p) s fun t =>
    t.on (wEth p) ETH_STAT.PHY_INT = true ∧ EvSet t (wEth p) 4 ∧ (s.ethState p = ethSleeping → t.ethState p = ethTraining) ∧
    (s.ethState p ≠ ethSleeping → t.ethState p = s.ethState p)) ∧
  (∀ (s : State) (init : Initiator) (p : Fin 6) (low : Fin 128), WriteOpen s init (wEth p) 0x151 → s.on (wEth p) ETH_PHY_CFG.PRESENT = true → s.mdioBusy p = false → Completes (.mdioGo init p low) s fun t =>
    t.on (wEth p) ETH_MDIO_CTRL.GO = true ∧ t.bus (mdioBus p) = s.bus (mdioBus p) ++ [{
    port := p.val, wr := bit low.val 6, list := false, c45 := s.on (wEth p) ETH_PHY_CFG.C45, phyad := s.rd (wEth p) ETH_PHY_CFG.PHYAD,
    devad := bits low.val 4 0, reg := if s.on (wEth p) ETH_PHY_CFG.C45 then s.rd (wEth p) ETH_MDIO_REG.REG else s.rd (wEth p) ETH_MDIO_REG.REG % 32,
    data := s.rd (wEth p) ETH_MDIO_DATA.DATA }]) ∧
  (∀ (s : State) (b : Fin 2) (m : Mdio) (l : List Mdio) (resp : Option (BitVec 16)), s.bus b = m :: l → m.list = false → m.wr = false → m.port < 6 → Completes (.mdioDone b resp) s fun t =>
    t.bus b = l ∧ t.on (wEth m.port) ETH_MDIO_CTRL.GO = false ∧ EvSet t (wEth m.port) 5 ∧
    t.rd (wEth m.port) ETH_MDIO_DATA.DATA = (match resp with | some x => x.toNat | none => 0xFFFF) ∧
    t.on (wEth m.port) ETH_MDIO_CTRL.NR = resp.isNone ∧ .mdio m.port (mdioFrames m) ∈ t.outs) ∧
  (∀ (s : State) (b : Fin 2) (m : Mdio) (l : List Mdio) (resp : Option (BitVec 16)), s.bus b = m :: l → m.list = false → m.wr = true → m.port < 6 → Completes (.mdioDone b resp) s fun t =>
    t.bus b = l ∧ t.on (wEth m.port) ETH_MDIO_CTRL.GO = false ∧ EvSet t (wEth m.port) 5 ∧ .mdio m.port (mdioFrames m) ∈ t.outs ∧
    t.rd (wEth m.port) ETH_MDIO_DATA.DATA = s.rd (wEth m.port) ETH_MDIO_DATA.DATA) ∧
  (∀ (s : State) (b : Fin 2) (resp : Option (BitVec 16)), s.bus b = [] → Quiet (.mdioDone b resp) s) ∧
  (∀ (s : State) (p : Fin 16), s.ethState p = ethSleepReq → s.sleepStep p = .drain → s.hopEmpty p = true → p.val < 6 ∨ s.on (wEth p) ETH_SLEEP_CFG.TC10_EN = false → Completes (.ethSleepDrainEnd p) s fun t =>
    t.ethState p = ethSleeping ∧ OneMore s t (wEth p) ETH_SLEEPS.COUNT ∧ EvSet t (wEth p) 2 ∧ t.hopDown p = true) ∧
  (∀ (s : State) (p : Fin 16), s.ethState p ≠ ethSleepReq ∨ s.sleepStep p ≠ .drain ∨ s.hopEmpty p = false → Quiet (.ethSleepDrainEnd p) s) ∧
  (∀ (s : State) (p : Fin 16), s.ethState p ≠ ethSleepReq → Quiet (.ethSleepDrainTimeout p) s) ∧
  (∀ (s : State) (p : Fin 16), s.ethState p ≠ ethSleepReq → Quiet (.ethSleepAckReceived p) s) ∧
  (∀ (s : State) (p : Fin 16), s.ethState p ≠ ethSleepReq → Quiet (.ethSleepAckTimeout p) s) ∧
  (∀ (s : State) (p : Fin 16), s.ethState p ≠ ethUp → Quiet (.ethSleepRequestReceived p) s) ∧
  (∀ (s : State) (p : Fin 16), 6 ≤ p.val → s.ethState p = ethSleeping → Completes (.ethWakeRequestReceived p) s fun t =>
    t.ethState p = ethTraining ∧ OneMore s t (wEth p) ETH_WAKES.COUNT ∧ EvSet t (wEth p) 3) ∧
  (∀ (s : State) (p : Fin 16), s.ethState p = ethSleepReq → 6 ≤ p.val → Completes (.ethWakePulseDetected p) s fun t =>
    t.ethState p = ethUp ∧ t.on (wEth p) ETH_STAT.SLEEP_FAIL = true) ∧
  (∀ (s : State) (p : Fin 16), s.ethState p ≠ ethSleepReq → s.ethState p ≠ ethSleeping → Quiet (.ethWakePulseDetected p) s) ∧
  (∀ (s : State) (p : Fin 16), 6 ≤ p.val ∨ s.on (wEth p) ETH_PHY_CFG.PRESENT = false → Quiet (.ethPhyInt p) s)

/-- For each command the next state holds what is named here, with GX running and the L2 table not in the safe state. R190: the oldest learn request of an address that no probed way holds leaves the queue and becomes a learned, active way of both Benches where its bucket has room; where it has none BUCKET_FULL is counted, sticky and an event, and the table stays. R192: with an age period the ager queues the idle learned ways of a bucket for removal and clears the activity of its learned ways. R193: the oldest removal drops its way and counts L2_AGED, or leaves an active one and counts L2_AGE_ABORT. R194: START with no rehash under way switches CUR and begins pass 1; a pass that leaves nothing under the old slot ends the rehash with its event; one that leaves something begins the next, and after the third with static entries left STALLED, the learned ones lost; a retry in STALLED that places the one static entry ends the rehash. In the safe state, without GX or with nothing due, these events change nothing. -/
def Obligations.LearningAgingRehashComplete : Prop :=
  (∀ (s : State) (r : LearnReq) (q : List LearnReq), s.gxOn = true → s.isSafe wL2 = false → s.tbl.learnQ = r :: q → (s.tbl.l2.any fun w => w.isKey r.fid r.mac && s.l2Probed r.fid r.mac w) = false → s.l2Free (s.l2Bucket s.l2Cur r.fid r.mac) = true → Completes .learnEngineWrite s fun t =>
    t.tbl.l2 = s.tbl.l2 ++ [⟨s.l2Bucket s.l2Cur r.fid r.mac, r.fid, r.mac, false, true, s.l2Cur, 3, false, false, r.port⟩] ∧ t.tbl.learnQ = q ∧
    OneMore s t wL2 L2_LEARNED.COUNT) ∧
  (∀ (s : State) (r : LearnReq) (q : List LearnReq), s.gxOn = true → s.isSafe wL2 = false → s.tbl.learnQ = r :: q → (s.tbl.l2.any fun w => w.isKey r.fid r.mac && s.l2Probed r.fid r.mac w) = false → s.l2Free (s.l2Bucket s.l2Cur r.fid r.mac) = false → Completes .learnEngineWrite s fun t =>
    t.tbl.l2 = s.tbl.l2 ∧ t.tbl.learnQ = q ∧ OneMore s t wL2 L2_BUCKET_FULL.COUNT ∧ t.on wL2 L2_STAT.BUCKET_FULL = true ∧ EvSet t wL2 1) ∧
  (∀ (s : State) (b : Fin 8192), s.gxOn = true → s.isSafe wL2 = false → s.rd wL2 L2_AGE_PERIOD.P ≠ 0 → Completes (.agerVisit b) s fun t =>
    t.tbl.removals = s.tbl.removals ++ s.tbl.l2.filter (fun w => w.bucket == b.val && !w.static && !w.act) ∧
    t.tbl.l2 = s.tbl.l2.map (fun w => if w.bucket = b.val ∧ w.static = false then { w with act := false } else w) ∧ t.regs = s.regs) ∧
  (∀ (s : State) (r w : L2Way) (l : List L2Way), s.gxOn = true → s.isSafe wL2 = false → s.tbl.removals = r :: l → s.tbl.l2.find? (fun x => x.sameKey r && x.bucket == r.bucket && !x.static) = some w → Completes .ageRemoval s fun t =>
    t.tbl.removals = l ∧ (w.act = false → t.tbl.l2 = (s.l2Drop w).tbl.l2 ∧ OneMore s t wL2 L2_AGED.COUNT) ∧
    (w.act = true → t.tbl.l2 = s.tbl.l2 ∧ OneMore s t wL2 L2_AGE_ABORT.COUNT)) ∧
  (∀ (s : State) (w : L2Way) (l : List L2Way), s.gxOn = true → s.isSafe wL2 = false → s.tbl.removals = w :: l → w.static = false → s.tbl.l2 = [w] → Completes .ageRemoval s fun t =>
    t.tbl.removals = l ∧ (w.act = false → t.tbl.l2 = [] ∧ OneMore s t wL2 L2_AGED.COUNT) ∧
    (w.act = true → t.tbl.l2 = [w] ∧ OneMore s t wL2 L2_AGE_ABORT.COUNT)) ∧
  (∀ (s : State) (init : Initiator) (low : Fin 128), WriteOpen s init wL2 0x14A → s.on wL2 L2_REHASH.START = false → s.rehash = rhIdle → Completes (.l2RehashStart init low) s fun t =>
    t.l2Cur = (1 - s.l2Cur) ∧ t.rehash = rhMigrate ∧ t.rd wL2 L2_REHASH.PASS = 1 ∧ t.on wL2 L2_REHASH.START = true ∧ t.tbl = s.tbl) ∧
  (∀ (s : State), s.gxOn = true → s.isSafe wL2 = false → s.rehash = rhMigrate → (s.migratePass fun _ => true).rehashLeft ≠ [] → s.rd wL2 L2_REHASH.PASS < 3 → Completes .rehashPassEnd s fun t =>
    t.rehash = rhMigrate ∧ t.rd wL2 L2_REHASH.PASS = s.rd wL2 L2_REHASH.PASS + 1 ∧ t.tbl.l2 = (s.migratePass fun _ => true).tbl.l2) ∧
  (∀ (s : State), s.gxOn = true → s.isSafe wL2 = false → s.rehash = rhMigrate → ((s.migratePass fun _ => true).rehashLeft.any (·.static)) = true → 3 ≤ s.rd wL2 L2_REHASH.PASS → Completes .rehashPassEnd s fun t =>
    t.rehash = rhStalled ∧ t.on wL2 L2_STAT.STALLED = true ∧ EvSet t wL2 3 ∧
    t.tbl.l2 = (s.migratePass fun _ => true).tbl.l2.filter fun w => w.static || w.h == s.l2Cur) ∧
  (∀ (s : State), s.gxOn = false ∨ s.isSafe wL2 = true ∨ s.rehash ≠ rhMigrate → Quiet .rehashPassEnd s) ∧
  (∀ (s : State), s.gxOn = false ∨ s.isSafe wL2 = true ∨ s.rehash ≠ rhStalled → Quiet .rehashStallRetry s) ∧
  (∀ (s : State), s.gxOn = false ∨ s.isSafe wL2 = true ∨ s.tbl.removals = [] → Quiet .ageRemoval s) ∧
  (∀ (s : State), s.gxOn = false ∨ s.isSafe wL2 = true ∨ s.tbl.learnQ = [] → Quiet .learnEngineWrite s) ∧
  (∀ (s : State) (b : Fin 8192), s.gxOn = false ∨ s.isSafe wL2 = true ∨ s.rd wL2 L2_AGE_PERIOD.P = 0 → Quiet (.agerVisit b) s) ∧
  (∀ (s : State), s.gxOn = true → s.isSafe wL2 = false → s.rehash = rhMigrate → (s.tbl.l2.all fun w => w.h == s.l2Cur) = true → Completes .rehashPassEnd s fun t =>
    t.rehash = rhIdle ∧ t.on wL2 L2_REHASH.START = false ∧ EvSet t wL2 2 ∧ t.tbl = s.tbl) ∧
  (∀ (s : State) (w : L2Way), s.gxOn = true → s.isSafe wL2 = false → s.rehash = rhStalled → w.static = true → w.h = 1 - s.l2Cur → s.l2Cur ≤ 1 → s.tbl.l2 = [w] → Completes .rehashStallRetry s fun t =>
    t.tbl.l2 = [{ w with bucket := s.l2Bucket s.l2Cur w.fid w.mac, h := s.l2Cur }] ∧ t.rehash = rhIdle ∧ EvSet t wL2 2)

/-- For each command, written with GO reading 0 in an open window, GO is set and the RESULT waits for the end of the command. R198: a read gives 0 with the entry shown, or 1 and VALID 0; staging a static entry by the owner of the lock sets STATIC and leaves a RESULT, and a new key with room in its bucket gains a way of the next Bench alone, with 0; a staged delete of the one static entry of both Benches leaves it in the current Bench, with 0, and of a key that the table does not hold static gives 1; removing and flushing drop the learned ways of the key, of the port or of the FID and no static way, the removal with 1 where there is none; an undefined OP gives 4. R200: a staged insertion into an empty store adds the prefix of the next Bench, with 0; a staged delete of the one prefix leaves it in the current Bench; a length beyond the family gives 4; a test lookup shows the prefix it finds, or HIT 0, and changes none; OP 3 gives 5. The end of a command writes its RESULT, clears GO and raises the event; with none running it changes nothing. -/
def Obligations.TableCommandsComplete : Prop :=
  (∀ (s : State) (init : Initiator), WriteOpen s init wL2 0x150 → s.on wL2 L2_CMD.GO = false → (s.l2Find s.gen s.cmdFid s.cmdMac).isNone = true → Completes (.l2CmdRead init) s fun t =>
    t.tbl.l2Run = some 1 ∧ t.on wL2 L2_CMD.GO = true ∧ t.on wL2 L2_DATA.VALID = false ∧ t.tbl.l2 = s.tbl.l2) ∧
  (∀ (s : State) (init : Initiator) (w : L2Way), WriteOpen s init wL2 0x150 → s.on wL2 L2_CMD.GO = false → s.l2Find s.gen s.cmdFid s.cmdMac = some w → Completes (.l2CmdRead init) s fun t =>
    t.tbl.l2Run = some 0 ∧ t.on wL2 L2_DATA.VALID = true ∧ t.on wL2 L2_DATA.STATIC = w.static ∧ t.rd wL2 L2_DATA.DEST = w.dest % 32768 ∧
    t.tbl.l2 = s.tbl.l2) ∧
  (∀ (s : State) (init : Initiator), WriteOpen s init wL2 0x150 → s.on wL2 L2_CMD.GO = false → s.stageKinds init.code wL2 = [] → s.touchRoom wL2 (l2Key s.cmdFid s.cmdMac) = true → s.inOvf wL2 (l2Key s.cmdFid s.cmdMac) = false → (s.tbl.l2.any fun w => w.isKey s.cmdFid s.cmdMac) = false → s.l2Free (s.l2Bucket s.l2Cur s.cmdFid s.cmdMac) = true → Completes (.l2CmdStageStatic init) s fun t =>
    t.tbl.l2 = s.tbl.l2 ++ [{ s.cmdWay with bucket := s.l2Bucket s.l2Cur s.cmdFid s.cmdMac, h := s.l2Cur, tag := 2 ^ (1 - s.gen) }] ∧
    t.tbl.l2Run = some 0 ∧ t.on wTables TBL_STAT.STAGED = true ∧ t.touchedEntry wL2 (l2Key s.cmdFid s.cmdMac) = true) ∧
  (∀ (s : State) (init : Initiator) (w : L2Way), WriteOpen s init wL2 0x150 → s.on wL2 L2_CMD.GO = false → s.stageKinds init.code wL2 = [] → s.touchRoom wL2 (l2Key s.cmdFid s.cmdMac) = true → s.inOvf wL2 (l2Key s.cmdFid s.cmdMac) = false → s.tbl.l2 = [w] → w.isKey s.cmdFid s.cmdMac = true → w.static = true → w.tag = 3 → Completes (.l2CmdStageDelete init) s fun t =>
    t.tbl.l2 = [{ w with tag := 2 ^ s.gen }] ∧ t.tbl.l2Run = some 0 ∧ t.on wTables TBL_STAT.STAGED = true) ∧
  (∀ (s : State) (init : Initiator), WriteOpen s init wL2 0x150 → s.on wL2 L2_CMD.GO = false → Completes (.l2CmdRemoveLearned init) s fun t =>
    t.tbl.l2 = s.tbl.l2.filter (fun w => w.static || !w.isKey s.cmdFid s.cmdMac) ∧ t.on wL2 L2_CMD.GO = true ∧
    t.tbl.l2Run = some (if (s.tbl.l2.any fun w => !w.static && w.isKey s.cmdFid s.cmdMac) then 0 else 1)) ∧
  (∀ (s : State) (init : Initiator), WriteOpen s init wL2 0x150 → s.on wL2 L2_CMD.GO = false → Completes (.l2CmdFlushPort init) s fun t =>
    t.tbl.l2 = s.tbl.l2.filter (fun w => w.static || !(!w.dlist && w.dest == s.rd wL2 L2_DATA.DEST % 256)) ∧ t.tbl.l2Run = some 0) ∧
  (∀ (s : State) (init : Initiator), WriteOpen s init wL2 0x150 → s.on wL2 L2_CMD.GO = false → Completes (.l2CmdFlushFid init) s fun t =>
    t.tbl.l2 = s.tbl.l2.filter (fun w => w.static || w.fid != s.cmdFid) ∧ t.tbl.l2Run = some 0) ∧
  (∀ (s : State) (init : Initiator) (seven : Bool), WriteOpen s init wL2 0x150 → s.on wL2 L2_CMD.GO = false → Completes (.l2CmdBadOp init seven) s fun t =>
    t.tbl.l2 = s.tbl.l2 ∧ t.tbl.l2Run = some 4 ∧ t.on wL2 L2_CMD.GO = true) ∧
  (∀ (s : State) (r : Fin 16), s.tbl.l2Run = some r.val → Completes .l2CmdComplete s fun t =>
    t.rd wL2 L2_CMD.RESULT = r.val ∧ t.on wL2 L2_CMD.GO = false ∧ t.tbl = { s.tbl with l2Run := none } ∧ EvSet t wL2 4) ∧
  (∀ (s : State) (init : Initiator) (v6 : Bool), WriteOpen s init wSeam 0x140 → s.on wSeam SEAM_CMD.GO = false → s.stageKinds init.code wSeam = [] → s.cmdPlen ≤ famBits v6 → s.touchRoom wSeam (pfxKey (s.cmdPrefix v6)) = true → s.inOvf wSeam (pfxKey (s.cmdPrefix v6)) = false → s.tbl.prefixes = [] → s.tbl.pfxOvf = [] → nodesFit [s.cmdPrefix v6] = true → Completes (.seamStageInsert init v6) s fun t =>
    t.tbl.prefixes = [{ s.cmdPrefix v6 with tag := 2 ^ (1 - s.gen) }] ∧ t.tbl.seamRun = some 0 ∧ t.on wSeam SEAM_CMD.GO = true ∧
    t.on wTables TBL_STAT.STAGED = true) ∧
  (∀ (s : State) (init : Initiator) (v6 : Bool), WriteOpen s init wSeam 0x140 → s.on wSeam SEAM_CMD.GO = false → s.stageKinds init.code wSeam = [] → s.cmdPlen ≤ famBits v6 → s.touchRoom wSeam (pfxKey (s.cmdPrefix v6)) = true → s.inOvf wSeam (pfxKey (s.cmdPrefix v6)) = false → s.tbl.prefixes = [{ s.cmdPrefix v6 with tag := 3 }] → Completes (.seamStageDelete init v6) s fun t =>
    t.tbl.prefixes = [{ s.cmdPrefix v6 with tag := 2 ^ s.gen }] ∧ t.tbl.seamRun = some 0) ∧
  (∀ (s : State) (init : Initiator) (v6 : Bool) (q : Prefix), WriteOpen s init wSeam 0x140 → s.on wSeam SEAM_CMD.GO = false → s.seamFind s.gen v6 (s.cmdAddr v6) = some q → Completes (.seamTestLookup init v6) s fun t =>
    t.on wSeam SEAM_RESULT.HIT = true ∧ t.rd wSeam SEAM_HIT.HPLEN = q.plen % 256 ∧ t.rd wSeam SEAM_HIT.HROUTE = q.route % 16384 ∧
    t.tbl.seamRun = some 0 ∧ t.tbl.prefixes = s.tbl.prefixes) ∧
  (∀ (s : State) (init : Initiator) (v6 : Bool), WriteOpen s init wSeam 0x140 → s.on wSeam SEAM_CMD.GO = false → Completes (.seamBadOp init v6) s fun t =>
    t.tbl.seamRun = some 5 ∧ t.on wSeam SEAM_CMD.GO = true ∧ t.tbl.prefixes = s.tbl.prefixes) ∧
  (∀ (s : State) (r : Fin 8), s.tbl.seamRun = some r.val → Completes .seamCmdComplete s fun t =>
    t.rd wSeam SEAM_RESULT.RESULT = r.val ∧ t.on wSeam SEAM_CMD.GO = false ∧ t.tbl = { s.tbl with seamRun := none } ∧ EvSet t wSeam 0) ∧
  (∀ (s : State) (init : Initiator), WriteOpen s init wL2 0x150 → s.on wL2 L2_CMD.GO = false → s.stageKinds init.code wL2 = [] → Completes (.l2CmdStageStatic init) s fun t =>
    t.on wL2 L2_CMD.GO = true ∧ t.tbl.l2Run.isSome = true ∧ t.on wL2 L2_DATA.STATIC = true) ∧
  (∀ (s : State) (init : Initiator), WriteOpen s init wL2 0x150 → s.on wL2 L2_CMD.GO = false → s.stageKinds init.code wL2 = [] → (s.tbl.l2.any fun w => w.static && w.isKey s.cmdFid s.cmdMac) = false → s.tbl.l2Ovf = [] → Completes (.l2CmdStageDelete init) s fun t =>
    t.on wL2 L2_CMD.GO = true ∧ t.tbl.l2Run = some 1 ∧ t.tbl.l2 = s.tbl.l2) ∧
  (∀ (s : State) (init : Initiator) (v6 : Bool), WriteOpen s init wSeam 0x140 → s.on wSeam SEAM_CMD.GO = false → s.seamFind s.gen v6 (s.cmdAddr v6) = none → Completes (.seamTestLookup init v6) s fun t =>
    t.on wSeam SEAM_RESULT.HIT = false ∧ t.on wSeam SEAM_CMD.GO = true ∧ t.tbl.seamRun = some 0 ∧ t.tbl.prefixes = s.tbl.prefixes) ∧
  (∀ (s : State) (init : Initiator) (v6 : Bool), WriteOpen s init wSeam 0x140 → s.on wSeam SEAM_CMD.GO = false → s.stageKinds init.code wSeam = [] → famBits v6 < s.cmdPlen → Completes (.seamStageInsert init v6) s fun t =>
    t.tbl.seamRun = some 4 ∧ t.on wSeam SEAM_CMD.GO = true ∧ t.tbl.prefixes = s.tbl.prefixes) ∧
  (∀ (s : State), s.tbl.l2Run = none → Quiet .l2CmdComplete s) ∧
  (∀ (s : State), s.tbl.seamRun = none → Quiet .seamCmdComplete s)

/-- For each command the next state holds what is named here. R207, R209: EN written 1 to a controller in OFF whose timing is legal stores EN, FD_EN and, on CAN8 to CAN15, XL_EN, and enters INTEGRATE with both counters 0. R226: EN written 0 takes a controller to OFF with no copy queued or in transmission; in OFF it stores EN 0 and LISTEN_ONLY. The integrated bus takes INTEGRATE to LISTEN or, with both counters below 128, to ACTIVE, with the event. R210: an error in ACTIVE adds 0, 1 or 8 to its counter and is counted, in a transmission of a copy with DAR 0 with the copy queued again; where REC passes 127 the controller is PASSIVE, with its sticky bit; where TEC passes 255 it is BUSOFF with TEC 255, BUSOFF, its count and the event. BO_DELAY with BO_AUTO, and RECOVER, take BUSOFF to RECOVER with REC 0; the recovery takes it to ACTIVE with both counters 0 and the event. A protocol exception in a reception without PXHD takes a controller that takes part to INTEGRATE, with PXE and its count; with PXHD it is a receive error of 1. In other states the ends of integration, delay and recovery change nothing. -/
def Obligations.CanStatesComplete : Prop :=
  (∀ (s : State) (init : Initiator) (p : Fin 16) (low : Fin 128), WriteOpen s init (wCan p) 0x170 → s.isSafe (wCan p) = false → s.canState p = canOff → s.canTimingOk p (canCfgFit p (128 + low.val)) = true → Completes (.canEnable init p low) s fun t =>
    t.canState p = canIntegrate ∧ t.on (wCan p) CAN_CFG.EN = true ∧ t.tec p = 0 ∧ t.rec' p = 0 ∧
    t.on (wCan p) CAN_CFG.FD_EN = bit low.val 6 ∧ t.on (wCan p) CAN_CFG.XL_EN = (bit low.val 5 && decide (8 ≤ p.val))) ∧
  (∀ (s : State) (init : Initiator) (p : Fin 16) (low : Fin 128), WriteOpen s init (wCan p) 0x170 → s.canState p ≠ canOff → bit low.val 2 = s.on (wCan p) CAN_CFG.LISTEN_ONLY → Completes (.canDisable init p low) s fun t =>
    t.canState p = canOff ∧ t.on (wCan p) CAN_CFG.EN = false ∧ t.txq p = [] ∧ t.canSending p = none) ∧
  (∀ (s : State) (p : Fin 16), s.canState p = canIntegrate → s.on (wCan p) CAN_CFG.LISTEN_ONLY = true → Completes (.canIntegrateDone p) s fun t =>
    t.canState p = canListen ∧ EvSet t (wCan p) 4 ∧ t.can = s.can) ∧
  (∀ (s : State) (p : Fin 16), s.canState p = canIntegrate → s.on (wCan p) CAN_CFG.LISTEN_ONLY = false → s.tec p ≤ 127 → s.rec' p ≤ 127 → s.wake.alive.contains p.val = false → Completes (.canIntegrateDone p) s fun t =>
    t.canState p = canActive ∧ EvSet t (wCan p) 4 ∧ t.tec p = s.tec p ∧ t.can = s.can) ∧
  (∀ (s : State) (p : Fin 16) (b : PxBit), s.hears p = true → s.canState p ≠ canListen → s.canSending p = none → b = .res ∨ (b = .fdf ∧ s.on (wCan p) CAN_CFG.FD_EN = false) ∨ (b = .xlf ∧ s.on (wCan p) CAN_CFG.XL_EN = false) → s.on (wCan p) CAN_CFG.PXHD = false → Completes (.canProtocolException p b) s fun t =>
    t.canState p = canIntegrate ∧ t.on (wCan p) CAN_STAT.PXE = true ∧ OneMore s t (wCan p) CAN_PXE.COUNT ∧ t.can = s.can) ∧
  (∀ (s : State) (p : Fin 16), s.canState p = canActive → s.tec p ≤ 127 → 120 ≤ s.rec' p → s.rec' p ≤ 127 → Completes (.canBusError p false .eight) s fun t =>
    t.rd (wCan p) CAN_ERRCNT.REC = s.rec' p + 8 ∧ t.canState p = canPassive ∧ OneMore s t (wCan p) CAN_RX_ERR.COUNT ∧
    t.on (wCan p) CAN_STAT.PASSIVE = true) ∧
  (∀ (s : State) (p : Fin 16) (cid : Nat), s.canState p = canPassive → s.canSending p = some (.copy cid) → s.on (wCan p) CAN_CFG.DAR = false → 248 ≤ s.tec p → s.on (wCan p) CAN_BO_CFG.BO_AUTO = false → Completes (.canBusError p true .eight) s fun t =>
    t.canState p = canBusOff ∧ t.tec p = 255 ∧ t.on (wCan p) CAN_STAT.BUSOFF = true ∧ OneMore s t (wCan p) CAN_BUSOFFS.COUNT ∧
    t.canSending p = none ∧ EvSet t (wCan p) 5) ∧
  (∀ (s : State) (p : Fin 16), s.canState p = canBusOff → s.on (wCan p) CAN_BO_CFG.BO_AUTO = true → Completes (.canBusoffDelay p) s fun t =>
    t.canState p = canRecover ∧ t.rec' p = 0 ∧ t.can = s.can) ∧
  (∀ (s : State) (init : Initiator) (p : Fin 16), CmdOpen s init (wCan p) CAN_CTRL.RECOVER → s.canState p = canBusOff → Completes (.canRecoverCmd init p) s fun t =>
    t.canState p = canRecover ∧ t.rec' p = 0 ∧ t.can = s.can) ∧
  (∀ (s : State) (p : Fin 16), s.canState p = canRecover → s.wake.alive.contains p.val = false → Completes (.canBusoffRecovered p) s fun t =>
    t.canState p = canActive ∧ t.tec p = 0 ∧ t.rec' p = 0 ∧ EvSet t (wCan p) 4 ∧ t.can = s.can) ∧
  (∀ (s : State) (init : Initiator) (p : Fin 16) (low : Fin 128), WriteOpen s init (wCan p) 0x170 → s.canState p = canOff → Completes (.canDisable init p low) s fun t =>
    t.canState p = canOff ∧ t.on (wCan p) CAN_CFG.EN = false ∧ t.on (wCan p) CAN_CFG.LISTEN_ONLY = bit low.val 2) ∧
  (∀ (s : State) (p : Fin 16) (i : CanInc), s.canState p = canActive → s.tec p ≤ 127 → s.rec' p + incVal i ≤ 127 → Completes (.canBusError p false i) s fun t =>
    t.rd (wCan p) CAN_ERRCNT.REC = s.rec' p + incVal i ∧ t.canState p = canActive ∧ t.tec p = s.tec p ∧ OneMore s t (wCan p) CAN_RX_ERR.COUNT) ∧
  (∀ (s : State) (p : Fin 16) (cid : Nat) (i : CanInc), s.canState p = canActive → s.canSending p = some (.copy cid) → s.on (wCan p) CAN_CFG.DAR = false → s.tec p + incVal i ≤ 127 → s.rec' p ≤ 127 → Completes (.canBusError p true i) s fun t =>
    t.tec p = s.tec p + incVal i ∧ t.canState p = canActive ∧ t.canSending p = none ∧ t.txq p = s.txq p ∧ OneMore s t (wCan p) CAN_TX_ERR.COUNT) ∧
  (∀ (s : State) (p : Fin 16) (i : CanInc), s.canSending p = none → Quiet (.canBusError p true i) s) ∧
  (∀ (s : State) (p : Fin 16), s.canState p = canActive → s.tec p ≤ 127 → s.rec' p ≤ 126 → s.on (wCan p) CAN_CFG.PXHD = true → s.hears p = true → Completes (.canProtocolException p .res) s fun t =>
    t.canState p = canActive ∧ t.rec' p = s.rec' p + 1 ∧ OneMore s t (wCan p) CAN_RX_ERR.COUNT) ∧
  (∀ (s : State) (p : Fin 16), s.canState p ≠ canIntegrate → Quiet (.canIntegrateDone p) s) ∧
  (∀ (s : State) (p : Fin 16), s.canState p ≠ canBusOff ∨ s.on (wCan p) CAN_BO_CFG.BO_AUTO = false → Quiet (.canBusoffDelay p) s) ∧
  (∀ (s : State) (p : Fin 16), s.canState p ≠ canRecover → Quiet (.canBusoffRecovered p) s)

/-- For each command the next state holds what is named here. R205, R214: a frame that its controller receives, on an awake network, admitted, not held, and that no message object or FIFO accepts, is counted in CAN_RX_OK, stored with its source, header and bytes, and waits in the pipeline; a frame that it does not receive changes nothing. R212: the one copy of a queue with no object pending and no lifetime, in a transceiver that drives, wins its arbitration and is in transmission, with no register changed; under DAR one that loses ends dropped, with ARB_LOST and TX_DROPS counted and TX_DROP set. R219, R220: where the transmitter does not drive, the copy fails as a bit error, stays queued and adds 8 to TEC. R213, R217: the end of a transmission that was driven sends the frame of the one queued copy, which ends delivered, or clears TXRQ, DISP and REASON of the object; both count in CAN_TX_OK. R220: a TXD dominant timeout, overtemperature or undervoltage of a powered IX sets its sticky bit and its fault, with the event where none was set before; a dominant bus sets BUS_DOM and switches nothing off; the end of a fault clears that fault, no other, and no register. -/
def Obligations.CanTrafficComplete : Prop :=
  (∀ (s : State) (p : Fin 16) (f : CanRx), s.canReceives p f = true → s.netState (netOfCan p) = nsAwake → s.admits (0x10 + p.val) (canCells (rxHdr f) (rxBytes f).length) = true → (s.fab.frames.all fun x => x.fid < s.fab.nextFid) = true → (s.fab.pipe.all fun x => x.fid < s.fab.nextFid) = true → (allObjects.any (s.objAccepts p (rxHdr f))) = false → s.fifoAccepts p 0 (rxHdr f) = false → s.fifoAccepts p 1 (rxHdr f) = false → s.flowHeld (0x10 + p.val) = false → Completes (.canFrameReceived p f) s fun t =>
    OneMore s t (wCan p) CAN_RX_OK.COUNT ∧ t.fab.pipe.length = s.fab.pipe.length + 1 ∧
    (t.frame s.fab.nextFid).map (fun x => (x.src, x.can, x.data)) = some (0x10 + p.val, some (rxHdr f), rxBytes f)) ∧
  (∀ (s : State) (p : Fin 16) (c : Copy) (h : CanHdr), s.canTalks p = true → s.canSending p = none → s.txq p = [c] → c.outCtx = 0 → c.can = some h → h.fmt < 2 → s.pendingObjects p = [] → s.rd (wCan p) CAN_TXLIFE.TX_LIFE = 0 → (s.frame c.fid).map (·.ecc) = some false → s.canDrives p = true → Completes (.canArbitration p true) s fun t =>
    t.canSending p = some (.copy c.cid) ∧ t.txq p = [c] ∧ t.regs = s.regs ∧ t.fab = s.fab) ∧
  (∀ (s : State) (p : Fin 16) (c : Copy) (h : CanHdr), s.canTalks p = true → s.canSending p = none → s.txq p = [c] → c.outCtx = 0 → c.can = some h → c.dest = 0x10 + p.val → s.pendingObjects p = [] → s.rd (wCan p) CAN_TXLIFE.TX_LIFE = 0 → (s.frame c.fid).map (·.ecc) = some false → s.canDrives p = true → s.on (wCan p) CAN_CFG.DAR = true → Completes (.canArbitration p false) s fun t =>
    t.canSending p = none ∧ t.txq p = [] ∧ OneMore s t (wCan p) CAN_ARB_LOST.COUNT ∧ OneMore s t (wCan p) CAN_TX_DROPS.COUNT ∧
    t.on (wCan p) CAN_STAT.TX_DROP = true) ∧
  (∀ (s : State) (p : Fin 16) (c : Copy) (h : CanHdr), s.canSending p = some (.copy c.cid) → s.txq p = [c] → c.can = some h → c.dest = 0x10 + p.val → c.pduBuild = false → s.canDrives p = true → Completes (.canFrameSent p) s fun t =>
    t.canSending p = none ∧ t.txq p = [] ∧ .canFrame p h c.data ∈ t.outs ∧ OneMore s t (wCan p) CAN_TX_OK.COUNT ∧
    OneMore s t wFabric FAB_DELIVERED.COUNT) ∧
  (∀ (s : State) (p : Fin 16), s.ixOn = true → Completes (.cantTxdDomTimeout p) s fun t =>
    t.on (wCanT p) CANT_STAT.TXD_DOM = true ∧ bit (look t.can.fault p 0) 0 = true ∧ (look s.can.fault p 0 = 0 → EvSet t (wCanT p) 0)) ∧
  (∀ (s : State) (p : Fin 16), s.ixOn = true → Completes (.cantOvertemp p) s fun t =>
    t.on (wCanT p) CANT_STAT.THERM = true ∧ bit (look t.can.fault p 0) 1 = true ∧ (look s.can.fault p 0 = 0 → EvSet t (wCanT p) 0)) ∧
  (∀ (s : State) (p : Fin 16), s.ixOn = true → Completes (.cantUndervoltage p) s fun t =>
    t.on (wCanT p) CANT_STAT.UV = true ∧ bit (look t.can.fault p 0) 2 = true ∧ (look s.can.fault p 0 = 0 → EvSet t (wCanT p) 0)) ∧
  (∀ (s : State) (p : Fin 16), s.ixOn = true → Completes (.cantBusDomTimeout p) s fun t =>
    t.on (wCanT p) CANT_STAT.BUS_DOM = true ∧ t.can = s.can) ∧
  (∀ (s : State) (p : Fin 16) (f : TrxFault), Completes (.cantFaultClear p f) s fun t =>
    bit (look t.can.fault p 0) (faultBit f) = false ∧ t.regs = s.regs ∧ ∀ k : Fin 3, k.val ≠ faultBit f → bit (look t.can.fault p 0) k.val = bit (look s.can.fault p 0) k.val) ∧
  (∀ (s : State) (p : Fin 16) (f : CanRx), s.canReceives p f = false → Quiet (.canFrameReceived p f) s) ∧
  (∀ (s : State) (p : Fin 16) (c : Copy) (h : CanHdr), s.canTalks p = true → s.canSending p = none → s.txq p = [c] → c.outCtx = 0 → c.can = some h → s.pendingObjects p = [] → s.rd (wCan p) CAN_TXLIFE.TX_LIFE = 0 → (s.frame c.fid).map (·.ecc) = some false → s.canDrives p = false → s.on (wCan p) CAN_CFG.DAR = false → s.tec p ≤ 247 → Completes (.canArbitration p true) s fun t =>
    t.canSending p = none ∧ t.txq p = [c] ∧ t.tec p = s.tec p + 8 ∧ OneMore s t (wCan p) CAN_TX_ERR.COUNT) ∧
  (∀ (s : State) (p : Fin 16) (won : Bool), s.canTalks p = false ∨ (s.canSending p).isSome = true → Quiet (.canArbitration p won) s) ∧
  (∀ (s : State) (p : Fin 16) (k : Fin 128), s.canSending p = some (.obj k.val) → s.canDrives p = true → Completes (.canFrameSent p) s fun t =>
    t.canSending p = none ∧ t.obj p k CAN_OBJ_VIEW.TXRQ = 0 ∧ t.obj p k CAN_OBJ_VIEW.DISP = 0 ∧ t.obj p k CAN_OBJ_VIEW.REASON = 0 ∧ OneMore s t (wCan p) CAN_TX_OK.COUNT) ∧
  (∀ (s : State) (p : Fin 16), s.canSending p = none → Quiet (.canFrameSent p) s) ∧
  (∀ (s : State) (p : Fin 16), s.ixOn = false → Quiet (.cantTxdDomTimeout p) s)

/-- For each command the next state holds what is named here, in an open window with its command field reading 0. R216: TAKE shows ID and LEN of the selected object in the view, clears its NEWDAT and MSGLST and keeps its ID. R217: STORE of a TYPE other than 3 into an object that takes it leaves TYPE, ID and LEN of the view in the object and NEWDAT 0; SEND of an idle send object sets TXRQ and gives it the next place in the order and its enqueue time, or, where its port cannot carry it, ends it dropped with 0x52; ABORT of a requested object that is not in transmission ends it dropped with 0x55, TXRQ 0, the event and the count; of one in transmission it is noted and TXRQ stays. R218: a read of the pop register that is not speculative returns the count before it, takes the oldest element out, and shows it in the view with OBJ set and its NEWDAT cleared; of an empty FIFO it returns 0 and changes no register; a speculative read returns the count and changes no FIFO. A FIFO's configuration that its checks accept is stored, its FIFO is empty and each of its elements has TYPE 3 and NEWDAT 0. -/
def Obligations.CanObjectsComplete : Prop :=
  (∀ (s : State) (init : Initiator) (p : Fin 16), CmdOpen s init (wCan p) CAN_OBJ_CMD.TAKE → s.objSel p < 128 → Completes (.canObjTake init p) s fun t =>
    t.obj p (s.objSel p) CAN_OBJ_VIEW.NEWDAT = 0 ∧ t.obj p (s.objSel p) CAN_OBJ_VIEW.MSGLST = 0 ∧
    t.rd (wCan p) CAN_OBJ_VIEW.ID = s.obj p (s.objSel p) CAN_OBJ_VIEW.ID ∧ t.rd (wCan p) CAN_OBJ_VIEW.LEN = s.obj p (s.objSel p) CAN_OBJ_VIEW.LEN ∧
    t.obj p (s.objSel p) CAN_OBJ_VIEW.ID = s.obj p (s.objSel p) CAN_OBJ_VIEW.ID) ∧
  (∀ (s : State) (init : Initiator) (p : Fin 16), CmdOpen s init (wCan p) CAN_OBJ_CMD.STORE → s.objSel p < 128 → s.storeRefused p = false → s.rd (wCan p) CAN_OBJ_VIEW.TYPE ≠ 3 → Completes (.canObjStore init p) s fun t =>
    t.obj p (s.objSel p) CAN_OBJ_VIEW.TYPE = s.rd (wCan p) CAN_OBJ_VIEW.TYPE ∧ t.obj p (s.objSel p) CAN_OBJ_VIEW.ID = s.rd (wCan p) CAN_OBJ_VIEW.ID ∧
    t.obj p (s.objSel p) CAN_OBJ_VIEW.LEN = s.rd (wCan p) CAN_OBJ_VIEW.LEN ∧ t.obj p (s.objSel p) CAN_OBJ_VIEW.NEWDAT = 0) ∧
  (∀ (s : State) (init : Initiator) (p : Fin 16), CmdOpen s init (wCan p) CAN_OBJ_CMD.SEND → s.objSel p < 128 → s.isSafe (wCan p) = false → s.obj p (s.objSel p) CAN_OBJ_VIEW.TXRQ = 0 → s.obj p (s.objSel p) CAN_OBJ_VIEW.TYPE = 2 → s.objUnfit p (s.objSel p) = false → Completes (.canObjSend init p) s fun t =>
    t.obj p (s.objSel p) CAN_OBJ_VIEW.TXRQ = 1 ∧ t.fab.nextCid = s.fab.nextCid + 1 ∧
    look t.can.objSeq (objKey p (s.objSel p)) 0 = s.fab.nextCid ∧ look t.can.objEnq (objKey p (s.objSel p)) 0 = s.clk) ∧
  (∀ (s : State) (init : Initiator) (p : Fin 16), CmdOpen s init (wCan p) CAN_OBJ_CMD.ABORT → s.objSel p < 128 → s.obj p (s.objSel p) CAN_OBJ_VIEW.TXRQ = 1 → s.canSending p = none → Completes (.canObjAbort init p) s fun t =>
    t.obj p (s.objSel p) CAN_OBJ_VIEW.TXRQ = 0 ∧ t.obj p (s.objSel p) CAN_OBJ_VIEW.DISP = 2 ∧ t.obj p (s.objSel p) CAN_OBJ_VIEW.REASON = 0x55 ∧
    EvSet t (wCan p) 3 ∧ OneMore s t (wCan p) CAN_TX_DROPS.COUNT) ∧
  (∀ (s : State) (init : Initiator) (p : Fin 16) (n : Fin 2) (k : Fin 128) (r : List Nat), ReadOpen s init (wCan p) → s.specRead init.code (wCan p) false = false → s.fifo p n = k.val :: r → Completes (.canFifoPop init p n false) s fun t =>
    t.outs = [.readData init.code [r.length + 1]] ∧ t.fifo p n = r ∧ t.rd (wCan p) CAN_OBJ_SEL.OBJ = k.val ∧
    t.rd (wCan p) CAN_OBJ_VIEW.ID = s.obj p k.val CAN_OBJ_VIEW.ID ∧ t.obj p k.val CAN_OBJ_VIEW.NEWDAT = 0) ∧
  (∀ (s : State) (init : Initiator) (p : Fin 16) (n : Fin 2) (v : BitVec 96), WriteOpen s init (wCan p) (0x1AB + 16 * n.val) → s.isSafe (wCan p) = false → s.fifoRefused p n (fifoOf v.toNat) = false → Completes (.canFifoConfig init p n v) s fun t =>
    t.fifoCfg p n = fifoOf v.toNat ∧ t.fifo p n = [] ∧
    ((fifoOf v.toNat).elements.all fun k => t.obj p k CAN_OBJ_VIEW.TYPE == 3 && t.obj p k CAN_OBJ_VIEW.NEWDAT == 0) = true) ∧
  (∀ (s : State) (init : Initiator) (p : Fin 16), CmdOpen s init (wCan p) CAN_OBJ_CMD.SEND → s.objSel p < 128 → s.isSafe (wCan p) = false → s.obj p (s.objSel p) CAN_OBJ_VIEW.TXRQ = 0 → s.obj p (s.objSel p) CAN_OBJ_VIEW.TYPE = 2 → s.objUnfit p (s.objSel p) = true → Completes (.canObjSend init p) s fun t =>
    t.obj p (s.objSel p) CAN_OBJ_VIEW.TXRQ = 0 ∧ t.obj p (s.objSel p) CAN_OBJ_VIEW.DISP = 2 ∧ t.obj p (s.objSel p) CAN_OBJ_VIEW.REASON = 0x52) ∧
  (∀ (s : State) (init : Initiator) (p : Fin 16), CmdOpen s init (wCan p) CAN_OBJ_CMD.ABORT → s.objSel p < 128 → s.obj p (s.objSel p) CAN_OBJ_VIEW.TXRQ = 1 → s.canSending p = some (.obj (s.objSel p)) → Completes (.canObjAbort init p) s fun t =>
    t.obj p (s.objSel p) CAN_OBJ_VIEW.TXRQ = 1 ∧ look t.can.abortReq (objKey p (s.objSel p)) false = true ∧ t.canSending p = s.canSending p) ∧
  (∀ (s : State) (init : Initiator) (p : Fin 16) (n : Fin 2), ReadOpen s init (wCan p) → s.fifo p n = [] → Completes (.canFifoPop init p n false) s fun t =>
    t.outs = [.readData init.code [0]] ∧ t.regs = s.regs ∧ t.can = s.can) ∧
  (∀ (s : State) (init : Initiator) (p : Fin 16) (n : Fin 2), ReadOpen s init (wCan p) → s.fifo p n ≠ [] → s.specRead init.code (wCan p) true = true → Completes (.canFifoPop init p n true) s fun t =>
    t.outs = [.readData init.code [(s.fifo p n).length]] ∧ t.can = s.can)

/-- For each command the next state holds what is named here. R225: EN written 1 takes OFF to IDLE and leaves another state; EN written 0 takes RUN, with no buffer owned, to OFF with no slot and nothing pending, and leaves OFF. GO of a table with entries starts it at its first entry in IDLE, and is pending in RUN, where the entry and slot stay. R222: in RUN with no slot the entry in progress takes its slot; where it expects or sends a response its header goes out and is counted, with the response and checksum it sends; else nothing goes out. R223: a response that the slot expects gives outcome 1 and is counted; of 8 bytes without ROUTE it stands in the buffer, with LAST 1 and NEW, and the fabric is unchanged; with ROUTE it is an admitted item with its identifier and bytes. A bit error in a sent response gives outcome and LAST 5, BITERR, its count and the event. A slot ends and its table goes on: with a sent response it is counted and UNSENT cleared; with a wrong checksum, or nothing heard, its count and LAST 3 or 2. R224: a host commit, with no buffer owned and no slot, stores the bytes and sets UNSENT. R221: a schedule entry that nothing refuses is stored, TYPE 6 and 7 as 5. Without a slot the events of a slot change nothing. -/
def Obligations.LinScheduleComplete : Prop :=
  (∀ (s : State) (init : Initiator) (p : Fin 12) (low : Fin 128), WriteOpen s init (wLin p) 0x170 → s.linState p = linOff → Completes (.linEnable init p low) s fun t =>
    t.linState p = linIdle ∧ t.on (wLin p) LIN_CFG.EN = true ∧ t.lin = s.lin) ∧
  (∀ (s : State) (init : Initiator) (p : Fin 12) (low : Fin 128), WriteOpen s init (wLin p) 0x170 → s.linState p = linRun → s.lin.owner = [] → Completes (.linDisable init p low) s fun t =>
    t.linState p = linOff ∧ t.on (wLin p) LIN_CFG.EN = false ∧ t.linSlot p = none ∧ t.on (wLin p) LIN_SCHED_STAT.PEND = false) ∧
  (∀ (s : State) (init : Initiator) (p : Fin 12) (k : Fin 8), CmdOpen s init (wLin p) LIN_SCHED_CMD.GO → s.isSafe (wLin p) = false → s.linState p = linIdle → s.tabLen p k ≠ 0 → Completes (.linSchedGo init p k) s fun t =>
    t.linState p = linRun ∧ t.linCur p = k.val ∧ t.linPos p = s.tabFirst p k ∧ t.linSlot p = none ∧ t.rd (wLin p) LIN_SCHED_CMD.TABLE = k.val) ∧
  (∀ (s : State) (init : Initiator) (p : Fin 12) (k : Fin 8), CmdOpen s init (wLin p) LIN_SCHED_CMD.GO → s.isSafe (wLin p) = false → s.linState p = linRun → Completes (.linSchedGo init p k) s fun t =>
    t.linState p = linRun ∧ t.on (wLin p) LIN_SCHED_STAT.PEND = true ∧ t.lin.pendTab.find? (·.1 == p.val) = some (p.val, k.val) ∧
    t.linPos p = s.linPos p ∧ t.linSlot p = s.linSlot p) ∧
  (∀ (s : State) (p : Fin 12) (x : LinSlot), s.linState p = linRun → s.linSlot p = none → s.slotOf p (s.linPos p) = x → x.expects = true → x.sends = false → Completes (.linSlotStart p) s fun t =>
    t.linSlot p = some x ∧ t.outs = [.linHeader p (linPid x.id)] ∧ OneMore s t (wLin p) LIN_HEADERS.COUNT) ∧
  (∀ (s : State) (p : Fin 12) (x : LinSlot), s.linState p = linRun → s.linSlot p = none → s.slotOf p (s.linPos p) = x → x.sends = true → Completes (.linSlotStart p) s fun t =>
    t.linSlot p = some x ∧ OneMore s t (wLin p) LIN_HEADERS.COUNT ∧
    t.outs = [.linHeader p (linPid x.id), .linResponse p (s.linBytes p x.id) (s.linChecksum p x.id (s.linBytes p x.id))]) ∧
  (∀ (s : State) (p : Fin 12) (x : LinSlot) (data : BitVec 64), s.linSlot p = some x → x.expects = true → x.outcome = 0 → x.id < 64 → s.rd (wLinT p) LINT_CTRL.MODE ≤ 1 → s.on (wLin p) (LIN_FRAME.ROUTE.elem x.id) = false → s.linLen p x.id = 8 → Completes (.linResponseComplete p data) s fun t =>
    t.linSlot p = some { x with outcome := 1 } ∧ t.rd (wLin p) (LIN_FRAME_DATA.DATA.elem x.id) = data.toNat ∧
    t.rd (wLin p) (LIN_FRAME_STAT.LAST.elem x.id) = 1 ∧ t.on (wLin p) (LIN_FRAME_STAT.NEW.elem x.id) = true ∧ OneMore s t (wLin p) LIN_RX_OK.COUNT ∧
    t.fab = s.fab) ∧
  (∀ (s : State) (p : Fin 12) (x : LinSlot), s.linSlot p = some x → x.sends = true → x.outcome = 0 → x.id < 64 → Completes (.linBitError p) s fun t =>
    t.linSlot p = some { x with outcome := 5 } ∧ t.rd (wLin p) (LIN_FRAME_STAT.LAST.elem x.id) = 5 ∧ OneMore s t (wLin p) LIN_BITERR.COUNT ∧
    t.on (wLin p) LIN_STAT.BITERR = true ∧ EvSet t (wLin p) 1) ∧
  (∀ (s : State) (p : Fin 12) (x : LinSlot) (e : LinEnd), s.linSlot p = some x → x.sends = true → x.expects = false → x.outcome = 0 → x.same = true → x.id < 64 → s.lin.owner = [] → s.lin.pendTab = [] → s.lin.collTab = [] → look s.lin.sleepDue p false = false → Completes (.linSlotEnd p e) s fun t =>
    t.linSlot p = none ∧ OneMore s t (wLin p) LIN_TX_OK.COUNT ∧ t.on (wLin p) (LIN_FRAME_STAT.UNSENT.elem x.id) = false ∧
    t.linPos p = s.tabNext p (s.linCur p) (s.linPos p) % 128) ∧
  (∀ (s : State) (p : Fin 12) (x : LinSlot), s.linSlot p = some x → x.sends = false → x.expects = true → x.outcome = 0 → x.event = false → x.id < 64 → look s.lin.sleepDue p false = false → Completes (.linSlotEnd p .checksum) s fun t =>
    t.linSlot p = none ∧ OneMore s t (wLin p) LIN_CSUM.COUNT ∧ t.on (wLin p) LIN_STAT.CSUM = true ∧ t.rd (wLin p) (LIN_FRAME_STAT.LAST.elem x.id) = 3) ∧
  (∀ (s : State) (init : Initiator) (p : Fin 12) (e : Fin 64) (data : BitVec 64), WriteOpen s init (wLin p) (0x40F + 16 * e.val) → s.lin.owner = [] → s.linSlot p = none → Completes (.linHostCommit init p e data) s fun t =>
    t.rd (wLin p) (LIN_FRAME_DATA.DATA.elem e) = data.toNat ∧ t.on (wLin p) (LIN_FRAME_STAT.UNSENT.elem e) = true ∧ t.lin = s.lin) ∧
  (∀ (s : State) (init : Initiator) (p : Fin 12) (e : Fin 128) (v : BitVec 32), WriteOpen s init (wLin p) (0x203 + 4 * e.val) → s.sentryRefused p e v.toNat = false → Completes (.linSentryWrite init p e v) s fun t =>
    t.rd (wLin p) (LIN_SENTRY.TYPE.elem e) = min 5 (bits v.toNat 31 29) ∧ t.rd (wLin p) (LIN_SENTRY.CTAB.elem e) = bits v.toNat 28 26 ∧
    t.rd (wLin p) (LIN_SENTRY.ID.elem e) = bits v.toNat 23 18 ∧ t.rd (wLin p) (LIN_SENTRY.DELAY.elem e) = bits v.toNat 9 0 ∧ t.lin = s.lin) ∧
  (∀ (s : State) (init : Initiator) (p : Fin 12) (low : Fin 128), WriteOpen s init (wLin p) 0x170 → s.linState p ≠ linOff → Completes (.linEnable init p low) s fun t =>
    t.linState p = s.linState p ∧ t.on (wLin p) LIN_CFG.EN = true ∧ t.lin = s.lin) ∧
  (∀ (s : State) (init : Initiator) (p : Fin 12) (low : Fin 128), WriteOpen s init (wLin p) 0x170 → s.linState p = linOff → Completes (.linDisable init p low) s fun t =>
    t.linState p = linOff ∧ t.on (wLin p) LIN_CFG.EN = false ∧ t.lin = s.lin) ∧
  (∀ (s : State) (p : Fin 12), s.linState p ≠ linRun ∨ (s.linSlot p).isSome = true → Quiet (.linSlotStart p) s) ∧
  (∀ (s : State) (p : Fin 12) (x : LinSlot), s.linState p = linRun → s.linSlot p = none → s.slotOf p (s.linPos p) = x → x.expects = false → x.sends = false → Completes (.linSlotStart p) s fun t =>
    t.linSlot p = some x ∧ t.outs = [] ∧ t.regs = s.regs) ∧
  (∀ (s : State) (p : Fin 12) (x : LinSlot) (data : BitVec 64), s.linSlot p = some x → x.expects = true → x.outcome = 0 → x.id < 64 → s.rd (wLinT p) LINT_CTRL.MODE ≤ 1 → s.on (wLin p) (LIN_FRAME.ROUTE.elem x.id) = true → s.flowHeld (0x20 + p.val) = false → s.admits (0x20 + p.val) 1 = true → (s.fab.frames.all fun x => x.fid < s.fab.nextFid) = true → Completes (.linResponseComplete p data) s fun t =>
    t.linSlot p = some { x with outcome := 1 } ∧ OneMore s t (wLin p) LIN_RX_OK.COUNT ∧ t.fab.pipe.length = s.fab.pipe.length + 1 ∧
    (t.frame s.fab.nextFid).map (fun y => (y.src, y.lin, y.data)) = some (0x20 + p.val, some x.id, (toBytes data.toNat 8).take (s.linLen p x.id))) ∧
  (∀ (s : State) (p : Fin 12) (data : BitVec 64), s.linSlot p = none → Quiet (.linResponseComplete p data) s) ∧
  (∀ (s : State) (p : Fin 12), s.linSlot p = none → Quiet (.linBitError p) s) ∧
  (∀ (s : State) (p : Fin 12) (e : LinEnd), s.linSlot p = none → Quiet (.linSlotEnd p e) s) ∧
  (∀ (s : State) (p : Fin 12) (x : LinSlot), s.linSlot p = some x → x.sends = false → x.expects = true → x.outcome = 0 → x.event = false → x.id < 64 → look s.lin.sleepDue p false = false → Completes (.linSlotEnd p .nothing) s fun t =>
    t.linSlot p = none ∧ OneMore s t (wLin p) LIN_NORESP.COUNT ∧ t.rd (wLin p) (LIN_FRAME_STAT.LAST.elem x.id) = 2)

/-- For each command the next state holds what is named here. R228: outside BACKUP and OFF a dominant TXD and an over-temperature each set their sticky bit and hold the transmitter off with a fault of their own, the other one as it was; a dominant bus sets BUS_DOM and holds nothing; in BACKUP and OFF these events change nothing. The end of a condition releases its own fault, leaves the other and changes no register. -/
def Obligations.LinTransceiversComplete : Prop :=
  (∀ (s : State) (p : Fin 12), s.pwr.state ≠ .backup → s.pwr.state ≠ .off → Completes (.lintTxdDomTimeout p) s fun t =>
    t.on (wLinT p) LINT_STAT.TXD_DOM = true ∧ bit (look t.lin.fault p 0) 0 = true ∧ bit (look t.lin.fault p 0) 1 = bit (look s.lin.fault p 0) 1) ∧
  (∀ (s : State) (p : Fin 12), s.pwr.state ≠ .backup → s.pwr.state ≠ .off → Completes (.lintOvertemp p) s fun t =>
    t.on (wLinT p) LINT_STAT.THERM = true ∧ bit (look t.lin.fault p 0) 1 = true ∧ bit (look t.lin.fault p 0) 0 = bit (look s.lin.fault p 0) 0) ∧
  (∀ (s : State) (p : Fin 12), s.pwr.state ≠ .backup → s.pwr.state ≠ .off → Completes (.lintBusDomTimeout p) s fun t =>
    t.on (wLinT p) LINT_STAT.BUS_DOM = true ∧ t.lin = s.lin) ∧
  (∀ (s : State) (p : Fin 12), s.pwr.state = .backup ∨ s.pwr.state = .off → Quiet (.lintTxdDomTimeout p) s) ∧
  (∀ (s : State) (p : Fin 12), s.pwr.state = .backup ∨ s.pwr.state = .off → Quiet (.lintOvertemp p) s) ∧
  (∀ (s : State) (p : Fin 12), s.pwr.state = .backup ∨ s.pwr.state = .off → Quiet (.lintBusDomTimeout p) s) ∧
  (∀ (s : State) (p : Fin 12), Completes (.lintFaultClear p .txdDom) s fun t =>
    bit (look t.lin.fault p 0) 0 = false ∧ bit (look t.lin.fault p 0) 1 = bit (look s.lin.fault p 0) 1 ∧ t.regs = s.regs) ∧
  (∀ (s : State) (p : Fin 12), Completes (.lintFaultClear p .overtemp) s fun t =>
    bit (look t.lin.fault p 0) 1 = false ∧ bit (look t.lin.fault p 0) 0 = bit (look s.lin.fault p 0) 0 ∧ t.regs = s.regs)

/-- For each command the next state holds what is named here. R239 to R243: an engine that works with one extraction of one VALID, unsigned bus entry without update bit, which lies inside the PDU, stores the LEN bits at its position: the entry is VALID with them, SE_STORED counts and the queue is empty; so a report of a VALID entry is stored. The timeout of a VALID entry in use sets TIMEOUT, its count, sticky bit and event, with TO_ACT 0 the value as it was, with 1 the default; of an entry not in use nothing. A value written to the selected entry of source 6 in use is stored and VALID. R245, R248: a channel's current, when a report of it is due, joins the queue of the entry's engine and changes no register. R246: the oldest sink command of each function leaves the link: ON of a half-bridge channel changes no channel; ON not 0 of another channel in OFF, NORMAL, with a period and no thermal latch switches it on, 0 switches it off; DUTY and PHASE are stored in a READY channel; MOVE stores the target; MODE 0 in DRIVE brakes the engine with result stopped. Without a command of the function, without work, with GX down, nothing changes. -/
def Obligations.SignalsComplete : Prop :=
  (∀ (s : State) (e : Fin 4) (x : Extract) (i : Fin 65536), s.gxOn = true → s.seWorks e = true → s.exq e = [.pdu x] → s.bq e = [] → x.first = i.val → x.count = 1 → x.only = false → s.bench.phase = .idle → s.sig x.gen SIG_ENTRY.VALID i = 1 → s.sig x.gen SIG_ENTRY.SRC i = 0 → s.sigSigned x.gen i = false → s.sig x.gen SIG_ENTRY.IN_UB_EN i = 0 → sigInside (s.sig x.gen SIG_ENTRY.IN_ORD i == 1) (s.sig x.gen SIG_ENTRY.IN_START i) (s.sigLen x.gen i) x.data.length = true → Completes (.seExtract e) s fun t =>
    t.sigValue i = sigGet (s.sig x.gen SIG_ENTRY.IN_ORD i == 1) (s.sig x.gen SIG_ENTRY.IN_START i) (s.sigLen x.gen i) x.data ∧
    t.sigState i = siValid ∧ t.exq e = [] ∧ OneMore s t (wSE e) SE_STORED.COUNT) ∧
  (∀ (s : State) (i : Fin 65536), s.gxOn = true → s.sig (s.genOf wSignal) SIG_ENTRY.VALID i = 1 → s.sig (s.genOf wSignal) SIG_ENTRY.TIMEOUT i ≠ 0 → s.sig (s.genOf wSignal) SIG_ENTRY.TO_ACT i = 0 → s.sigState i = siValid → Completes (.signalTimeout i) s fun t =>
    t.sigState i = siTimeout ∧ t.sigValue i = s.sigValue i ∧ OneMore s t wSignal SIG_TIMEOUTS.COUNT ∧ t.on wSignal SIG_STAT.TIMEOUT = true ∧
    EvSet t wSignal 0) ∧
  (∀ (s : State) (i : Fin 65536), s.gxOn = true → s.sig (s.genOf wSignal) SIG_ENTRY.VALID i = 0 → Quiet (.signalTimeout i) s) ∧
  (∀ (s : State) (init : Initiator) (v : BitVec 64), WriteOpen s init wSignal 0x167 → s.rd wSignal SIG_SEL.INDEX < 65536 → s.sig (s.genOf wSignal) SIG_ENTRY.SRC (s.rd wSignal SIG_SEL.INDEX) = 6 → s.sig (s.genOf wSignal) SIG_ENTRY.VALID (s.rd wSignal SIG_SEL.INDEX) = 1 → Completes (.sigValueWrite init v) s fun t =>
    t.sigValue (s.rd wSignal SIG_SEL.INDEX) = v.toNat ∧ t.sigState (s.rd wSignal SIG_SEL.INDEX) = siValid) ∧
  (∀ (s : State) (i : Fin 65536) (n : Fin 72), s.gxOn = true → s.sig (s.genOf wSignal) SIG_ENTRY.VALID i = 1 → s.sig (s.genOf wSignal) SIG_ENTRY.SRC i = 1 → s.sig (s.genOf wSignal) SIG_ENTRY.SRC_UNIT i = n.val → s.unitState (wCh n) ≠ usOff → s.inRom (wSE (i.val % 4)) = false → (s.exq (i.val % 4)).length < 512 → s.reportDue i.val (s.rd (wCh n) CH_CURRENT.CURRENT) = true → Completes (.bodySourceReport i) s fun t =>
    t.exq (i.val % 4) = s.exq (i.val % 4) ++ [.report i.val (s.rd (wCh n) CH_CURRENT.CURRENT)] ∧ t.regs = s.regs) ∧
  (∀ (s : State) (n : Fin 72) (v : Int) (r : List SinkCmd), s.gw.sinkQ = ⟨1, n.val, v⟩ :: r → isHalf n = true → Completes .sinkChOn s fun t =>
    t.gw.sinkQ = r ∧ t.body = s.body ∧ t.regs = s.regs) ∧
  (∀ (s : State) (n : Fin 72) (v : Int) (r : List SinkCmd), s.gw.sinkQ = ⟨1, n.val, v⟩ :: r → isHalf n = false → v ≠ 0 → ChIdle s n → Completes .sinkChOn s fun t =>
    t.gw.sinkQ = r ∧ t.prot n = protOn ∧ t.on (wCh n) CH_CTRL.ON = true ∧ (t.chan n).onSince = s.clk) ∧
  (∀ (s : State) (n : Fin 72) (r : List SinkCmd), s.gw.sinkQ = ⟨1, n.val, 0⟩ :: r → isHalf n = false → s.isSafe (wCh n) = false → s.ctrl n = ctrlNormal → s.prot n = protOn → Completes .sinkChOn s fun t =>
    t.gw.sinkQ = r ∧ t.prot n = protOff ∧ t.on (wCh n) CH_CTRL.ON = false) ∧
  (∀ (s : State) (n : Fin 72) (v : Fin 65536) (r : List SinkCmd), s.gw.sinkQ = ⟨2, n.val, v.val⟩ :: r → s.unitState (wCh n) = usReady → Completes .sinkChDuty s fun t =>
    t.gw.sinkQ = r ∧ t.rd (wCh n) CH_DUTY.DUTY = v.val) ∧
  (∀ (s : State) (n : Fin 72) (v : Fin 256) (r : List SinkCmd), s.gw.sinkQ = ⟨3, n.val, v.val⟩ :: r → s.unitState (wCh n) = usReady → Completes .sinkChPhase s fun t =>
    t.gw.sinkQ = r ∧ t.rd (wCh n) CH_PHASE.PHASE = v.val) ∧
  (∀ (s : State) (k : Fin 6) (v : BitVec 32) (r : List SinkCmd), s.gw.sinkQ = ⟨4, k.val, v.toInt⟩ :: r → Completes .sinkMeMove s fun t =>
    t.gw.sinkQ = r ∧ t.rd (wME k) ME_TARGET.TARGET = v.toNat) ∧
  (∀ (s : State) (k : Fin 6) (r : List SinkCmd), s.gw.sinkQ = ⟨5, k.val, 0⟩ :: r → s.isSafe (wME k) = false → s.meState k = meDrive → Completes .sinkMeMode s fun t =>
    t.gw.sinkQ = r ∧ t.rd (wME k) ME_MODE.MODE = 0 ∧ t.meState k = meBrake ∧ (t.me k).result = resStopped) ∧
  (∀ (s : State) (e : Fin 4) (i : Fin 65536) (v : Nat), s.gxOn = true → s.seWorks e = true → s.exq e = [.report i.val v] → s.bq e = [] → s.sig (s.genOf wSignal) SIG_ENTRY.VALID i = 1 → Completes (.seExtract e) s fun t =>
    t.sigValue i = v % 2 ^ 64 ∧ t.sigState i = siValid ∧ t.exq e = [] ∧ OneMore s t (wSE e) SE_STORED.COUNT) ∧
  (∀ (s : State) (e : Fin 4), s.gxOn = false ∨ s.seWorks e = false ∨ s.exq e = [] → Quiet (.seExtract e) s) ∧
  (∀ (s : State) (i : Fin 65536), s.gxOn = false ∨ s.sig (s.genOf wSignal) SIG_ENTRY.VALID i = 0 → Quiet (.bodySourceReport i) s) ∧
  (∀ (s : State), (s.gw.sinkQ.all fun c => c.fn != 1) = true → Quiet .sinkChOn s) ∧
  (∀ (s : State), (s.gw.sinkQ.all fun c => c.fn != 2) = true → Quiet .sinkChDuty s) ∧
  (∀ (s : State), (s.gw.sinkQ.all fun c => c.fn != 3) = true → Quiet .sinkChPhase s) ∧
  (∀ (s : State), (s.gw.sinkQ.all fun c => c.fn != 4) = true → Quiet .sinkMeMove s) ∧
  (∀ (s : State), (s.gw.sinkQ.all fun c => c.fn != 5) = true → Quiet .sinkMeMode s) ∧
  (∀ (s : State) (i : Fin 65536), s.gxOn = true → s.sig (s.genOf wSignal) SIG_ENTRY.VALID i = 1 → s.sig (s.genOf wSignal) SIG_ENTRY.TIMEOUT i ≠ 0 → s.sig (s.genOf wSignal) SIG_ENTRY.TO_ACT i = 1 → s.sigState i = siValid → Completes (.signalTimeout i) s fun t =>
    t.sigState i = siTimeout ∧ t.sigValue i = s.sigDefault (s.genOf wSignal) i ∧ OneMore s t wSignal SIG_TIMEOUTS.COUNT)

/-- For each command the next state holds what is named here. R249, R251: with an engine that takes it, a cyclic entry that falls due, SEND of the selected entry, which then reads 1, the end of the MDT with a pending trigger, which falls, and a repeat that is left, one fewer then, put the running entry last on its engine's queue; the end of the MDT without one and the last repeat end their timers and queue nothing; SEND of an entry that does not run queues nothing. R242, R250: a build of an entry whose one destination is a CAN port that is on, awake and has room, with data of at most 8 bytes and room in the Stockpile, leaves the queue, gives the port a last copy with the packed data and the source of a build, lowers PEND and starts the MDT timer where MDT is not 0. Timers that do not run, an empty queue, an engine that does not work and, of the cyclic timer, an entry without period or use, change nothing. -/
def Obligations.PduAssemblyComplete : Prop :=
  (∀ (s : State) (j : Fin 8192) (e : Fin 4), s.gxOn = true → CanBuild s j e → s.pdu (s.genOf wPdu) PDU_ENTRY.MODE j = 1 → s.pdu (s.genOf wPdu) PDU_ENTRY.PERIOD j ≠ 0 → Completes (.pduCyclicDue j) s fun t =>
    t.bq e = s.bq e ++ [j.val] ∧ look t.gw.due j 0 = s.clk ∧ t.regs = s.regs) ∧
  (∀ (s : State) (init : Initiator) (j : Fin 8192) (e : Fin 4), CmdOpen s init wPdu PDU_CMD.SEND → CanBuild s j e → s.rd wPdu PDU_SEL.INDEX = j.val → Completes (.pduSendCmd init) s fun t =>
    t.bq e = s.bq e ++ [j.val] ∧ t.on wPdu PDU_CMD.SEND = true ∧ t.gw.sendCmd = some j.val) ∧
  (∀ (s : State) (j : Fin 8192) (e : Fin 4), CanBuild s j e → s.gw.mdtRun.contains j.val = true → s.gw.pend.contains j.val = true → Completes (.pduMdtExpiry j) s fun t =>
    t.bq e = s.bq e ++ [j.val] ∧ t.gw.mdtRun.contains j.val = false ∧ t.gw.pend.contains j.val = false ∧ t.regs = s.regs) ∧
  (∀ (s : State) (j : Fin 8192) (e : Fin 4), CanBuild s j e → s.gw.repRun.contains j.val = true → look s.gw.repLeft j 0 ≠ 0 → Completes (.pduRepeatExpiry j) s fun t =>
    t.bq e = s.bq e ++ [j.val] ∧ look t.gw.repLeft j 0 = look s.gw.repLeft j 0 - 1 ∧ t.gw.repRun = s.gw.repRun ∧ t.regs = s.regs) ∧
  (∀ (s : State) (j : Fin 8192), s.gw.repRun.contains j.val = true → look s.gw.repLeft j 0 = 0 → Completes (.pduRepeatExpiry j) s fun t =>
    t.gw.repRun.contains j.val = false ∧ t.gw.bq = s.gw.bq ∧ t.regs = s.regs) ∧
  (∀ (s : State) (j : Fin 8192) (e : Fin 4) (p : Fin 16) (r : List Nat), s.gxOn = true → s.seWorks e = true → s.exq e = [] → s.bq e = j.val :: r → s.pduRuns j = true → (s.packPdu j).length ≤ 8 → s.admits srcPdu 1 = true → (s.fab.frames.all fun f => f.fid < s.fab.nextFid) = true → s.bench.phase = .idle → s.pdu (s.genOf wPdu) PDU_ENTRY.DCOUNT j = 1 → ToCan s (s.pdu (s.genOf wPdu) PDU_ENTRY.DL_INDEX j) p → s.canState p ≠ canOff → s.netState (netOfCan p) = nsAwake → s.canRoom p false = true → Completes (.pduBuild e) s fun t =>
    t.bq e = r ∧ (t.txq p).length = (s.txq p).length + 1 ∧ (t.txq p).getLast?.map (fun c => (c.data, c.pduBuild, c.src)) = some (s.packPdu j, true, 0x30) ∧
    t.gw.pend.contains j.val = false ∧ (s.pdu (s.genOf wPdu) PDU_ENTRY.MDT j ≠ 0 → t.gw.mdtRun.contains j.val = true)) ∧
  (∀ (s : State) (j : Fin 8192), s.gxOn = false ∨ s.pduRuns j = false ∨ s.pdu (s.genOf wPdu) PDU_ENTRY.PERIOD j = 0 → Quiet (.pduCyclicDue j) s) ∧
  (∀ (s : State) (j : Fin 8192), s.gw.mdtRun.contains j.val = false → Quiet (.pduMdtExpiry j) s) ∧
  (∀ (s : State) (j : Fin 8192), s.gw.mdtRun.contains j.val = true → s.gw.pend.contains j.val = false → Completes (.pduMdtExpiry j) s fun t =>
    t.gw.mdtRun.contains j.val = false ∧ t.gw.bq = s.gw.bq ∧ t.regs = s.regs) ∧
  (∀ (s : State) (j : Fin 8192), s.gw.repRun.contains j.val = false → Quiet (.pduRepeatExpiry j) s) ∧
  (∀ (s : State) (e : Fin 4), s.gxOn = false ∨ s.seWorks e = false ∨ s.bq e = [] → Quiet (.pduBuild e) s) ∧
  (∀ (s : State) (init : Initiator) (j : Fin 8192), CmdOpen s init wPdu PDU_CMD.SEND → s.rd wPdu PDU_SEL.INDEX = j.val → s.pduRuns j = false → Completes (.pduSendCmd init) s fun t =>
    t.gw = s.gw ∧ t.on wPdu PDU_CMD.SEND = false)

/-- For each command the next state holds what is named here; the MACsec writes are those with no earlier write waiting for a frame boundary. R268: REFILL makes both buckets of POL full at their sizes. R261: writing 1 to BLOCKED unblocks the selected filter and no other. R285: with no frame of its channel passing, the write of a channel without enabled association and for a port that exists and would have one transmit channel is stored, and its state is OFF with SWITCH 0; with a frame passing it waits and the register reads as before; with an enabled association, another port or a second transmit channel it is refused, and the channel stays. The write of a disabled association whose AN does not clash is stored, with the PN of its transmit channel, or 0; the encoding association enabled on a VALID transmit channel in OFF takes it to ENC; with a frame passing the write waits; a write that only clears EN, of an association that does not encode, disables it and keeps its key. R288: SWITCH with the other association enabled and no copy in transmission makes that one encoding, in ENC, with the event; with a copy in transmission in ENC it waits and reads 1; in ENC with the other one disabled it is refused, and in OFF it stores AUTO_SW alone. -/
def Obligations.GuardAndMacsecComplete : Prop :=
  (∀ (s : State) (init : Initiator), CmdOpen s init wWeigh WB_CMD.REFILL → Completes (.wbRefill init) s fun t =>
    look t.guard.bucket (s.rd wWeigh WB_SEL.POL) ⟨0, 0, 0⟩ = ⟨s.pol (s.genOf wWeigh) WB_ENTRY.CBS (s.rd wWeigh WB_SEL.POL) * unit9, s.pol (s.genOf wWeigh) WB_ENTRY.EBS (s.rd wWeigh WB_SEL.POL) * unit9, s.nowNs⟩) ∧
  (∀ (s : State) (init : Initiator), WriteOpen s init wSieve 0x1C2 → Completes (.streamUnblock init) s fun t =>
    t.on wSieve STRM_CFG.BLOCKED (s.rd wSieve STRM_SEL.STRM) = false ∧ ∀ k : Fin 64, k.val ≠ s.rd wSieve STRM_SEL.STRM → t.rd wSieve STRM_CFG.BLOCKED k = s.rd wSieve STRM_CFG.BLOCKED k) ∧
  (∀ (s : State) (init : Initiator) (v : BitVec 96), WriteOpen s init wMacsec 0x17B → s.saOn s.selSc 0 = false → s.saOn s.selSc 1 = false → fieldOf v.toNat MSEC_SC.PORT < 6 → s.secondTx s.selSc v.toNat = false → s.guard.secyPend = [] → s.secyBusy (.sc s.selSc v.toNat) = false → Completes (.macsecScWrite init v) s fun t =>
    (scFields.all fun f => t.sc s.selSc f == fieldOf v.toNat f) = true ∧ t.scState s.selSc = scOff ∧ t.on wMacsec MSEC_SC_CTRL.SWITCH s.selSc = false) ∧
  (∀ (s : State) (init : Initiator) (v : BitVec 96), WriteOpen s init wMacsec 0x17B → s.secyAll.saOn s.selSc 0 = true ∨ s.secyAll.saOn s.selSc 1 = true ∨ 6 ≤ fieldOf v.toNat MSEC_SC.PORT ∨ s.secyAll.secondTx s.selSc v.toNat = true → Completes (.macsecScWrite init v) s fun t =>
    t.guard = s.guard ∧ (scFields.all fun f => t.sc s.selSc f == s.sc s.selSc f) = true) ∧
  (∀ (s : State) (init : Initiator) (v : BitVec 224), WriteOpen s init wMacsec 0x1A3 → s.saOn s.selSc s.selSa = false → s.anClash s.selSc s.selSa v.toNat = false → s.guard.secyPend = [] → s.secyBusy (.sa s.selSc s.selSa v.toNat) = false → Completes (.macsecSaWrite init v) s fun t =>
    (saFields.all fun f => t.sa s.selSc s.selSa f == f.fit.apply (fieldOf v.toNat f)) = true ∧
    t.sa s.selSc s.selSa MSEC_SA_PN.PN = (if s.sc s.selSc MSEC_SC.DIR = 1 then t.sa s.selSc s.selSa MSEC_SA.PN else 0)) ∧
  (∀ (s : State) (init : Initiator) (v : BitVec 224), WriteOpen s init wMacsec 0x1A3 → s.saOn s.selSc s.selSa = false → s.anClash s.selSc s.selSa v.toNat = false → s.guard.secyPend = [] → s.secyBusy (.sa s.selSc s.selSa v.toNat) = false → fieldOf v.toNat MSEC_SA.EN = 1 → s.sc s.selSc MSEC_SC.VALID = 1 → s.sc s.selSc MSEC_SC.DIR = 1 → s.encSa s.selSc = s.selSa → s.scState s.selSc = scOff → Completes (.macsecSaWrite init v) s fun t =>
    t.scState s.selSc = scEnc) ∧
  (∀ (s : State) (init : Initiator) (v : BitVec 224), WriteOpen s init wMacsec 0x1A3 → s.onlyClears s.selSc s.selSa v.toNat = true → s.anClash s.selSc s.selSa v.toNat = false → s.scState s.selSc ≠ scEnc ∨ s.encSa s.selSc ≠ s.selSa → s.guard.secyPend = [] → s.secyBusy (.sa s.selSc s.selSa v.toNat) = false → Completes (.macsecSaWrite init v) s fun t =>
    t.saOn s.selSc s.selSa = false ∧ t.sa s.selSc s.selSa MSEC_SA.KEY = s.sa s.selSc s.selSa MSEC_SA.KEY ∧ t.guard = s.guard) ∧
  (∀ (s : State) (init : Initiator) (auto : Bool), WriteOpen s init wMacsec 0x17C → s.scState s.selSc ≠ scOff → s.guard.secyPend = [] → s.saOn s.selSc (1 - s.encSa s.selSc) = true → s.on wMacsec MSEC_SC_CTRL.SWITCH s.selSc = false → s.sending (s.sc s.selSc MSEC_SC.PORT) = none → Completes (.macsecSwitch init auto) s fun t =>
    t.encSa s.selSc = (1 - s.encSa s.selSc) % 2 ∧ t.scState s.selSc = scEnc ∧ EvSet t wMacsec 1 ∧ t.rd wMacsec MSEC_SC_CTRL.AUTO_SW s.selSc = b2n auto) ∧
  (∀ (s : State) (init : Initiator) (auto : Bool), WriteOpen s init wMacsec 0x17C → s.scState s.selSc = scEnc → s.guard.secyPend = [] → s.saOn s.selSc (1 - s.encSa s.selSc) = true → s.on wMacsec MSEC_SC_CTRL.SWITCH s.selSc = false → (s.sending (s.sc s.selSc MSEC_SC.PORT)).isSome = true → Completes (.macsecSwitch init auto) s fun t =>
    t.encSa s.selSc = s.encSa s.selSc ∧ t.on wMacsec MSEC_SC_CTRL.SWITCH s.selSc = true ∧ look t.guard.secySwitch s.selSc false = true) ∧
  (∀ (s : State) (init : Initiator) (auto : Bool), WriteOpen s init wMacsec 0x17C → s.scState s.selSc = scOff → s.on wMacsec MSEC_SC_CTRL.SWITCH s.selSc = false → Completes (.macsecSwitch init auto) s fun t =>
    t.encSa s.selSc = s.encSa s.selSc ∧ t.rd wMacsec MSEC_SC_CTRL.AUTO_SW s.selSc = b2n auto ∧ t.on wMacsec MSEC_SC_CTRL.SWITCH s.selSc = false) ∧
  (∀ (s : State) (init : Initiator) (v : BitVec 224), WriteOpen s init wMacsec 0x1A3 → s.saOn s.selSc s.selSa = false → s.anClash s.selSc s.selSa v.toNat = false → s.guard.secyPend = [] → s.secyBusy (.sa s.selSc s.selSa v.toNat) = true → Completes (.macsecSaWrite init v) s fun t =>
    t.guard.secyPend = [.sa s.selSc s.selSa v.toNat] ∧ (saFields.all fun f => t.sa s.selSc s.selSa f == s.sa s.selSc s.selSa f) = true) ∧
  (∀ (s : State) (init : Initiator) (v : BitVec 96), WriteOpen s init wMacsec 0x17B → s.saOn s.selSc 0 = false → s.saOn s.selSc 1 = false → fieldOf v.toNat MSEC_SC.PORT < 6 → s.secondTx s.selSc v.toNat = false → s.guard.secyPend = [] → s.secyBusy (.sc s.selSc v.toNat) = true → Completes (.macsecScWrite init v) s fun t =>
    t.guard.secyPend = [.sc s.selSc v.toNat] ∧ (scFields.all fun f => t.sc s.selSc f == s.sc s.selSc f) = true) ∧
  (∀ (s : State) (init : Initiator) (auto : Bool), WriteOpen s init wMacsec 0x17C → s.scState s.selSc = scEnc → s.guard.secyPend = [] → s.saOn s.selSc (1 - s.encSa s.selSc) = false → Completes (.macsecSwitch init auto) s fun t =>
    t.encSa s.selSc = s.encSa s.selSc ∧ t.scState s.selSc = scEnc ∧ t.rd wMacsec MSEC_SC_CTRL.AUTO_SW s.selSc = s.rd wMacsec MSEC_SC_CTRL.AUTO_SW s.selSc ∧ t.guard = s.guard)

/-- For each command the next state holds what is named here. R295: EN written 1 with SRC 4 takes the axis to RUN with speed RATE, position 0 and DIRN by RATE's sign; with SRC 2 and the engine READY to WAIT at the engine's position; EN written 0 alone, on an axis that is not OFF, to OFF with its tracking at rest. R296 to R298: in RUN with its sources READY and an update before, a measured update of an encoder or engine axis takes its position, the clock and one more count; on an encoder axis one of the other direction counts a reversal and turns DIRN; on an axis in STALLED it gives RUN with the raw speed; the first of a signal axis takes the signal's value and stays in WAIT; on an axis in OFF nothing happens. STALL_TO without an update, in RUN with a source, gives STALLED, speed 0, STALL and its event; elsewhere nothing. R300: STEP loads AX0 from AX0_SET with fraction and slew 0, sets STEPPED and its event; MARK and UNSYNC give SYNC and FREE and leave the clock; the servo writes RATE, or SLEW and the slew that is left. R301: HOLD_TO in SYNC gives HOLDOVER, its bit and event; elsewhere nothing. R302: IX takes its copy. R301, with no handed frame that waits, on a PTP_EN port, in the domain: a delay request puts its answer with a stamp asked for by MP first in the port's queue of MP's class where it finds room (the class is a constant the spec leaves open); a slave port's Sync goes to the one master port with a free value added to its correction field; a slave port's Follow_Up with no master port gives RATE and the slew free values; MP off, PTP_EN 0 or another domain: nothing. -/
def Obligations.AxesComplete : Prop :=
  (∀ (s : State) (init : Initiator) (n : Fin 7) (low : Fin 128), WriteOpen s init (wAx (n.val + 1)) 0x140 → s.axCfgByte (n.val + 1) < 128 → low.val / 16 = 4 → Completes (.axisEnable init n low) s fun t =>
    t.axState (n.val + 1) = axRun ∧ t.on (wAx (n.val + 1)) AX_CFG.EN = true ∧ t.rd (wAx (n.val + 1)) AX_CFG.SRC = 4 ∧
    (t.axis (n.val + 1)).speed = toSigned (s.rd (wAx (n.val + 1)) AX_RATE.RATE) 32 * axUnit ∧ (t.axis (n.val + 1)).pm = 0 ∧
    t.on (wAx (n.val + 1)) AX_STATE.DIRN = decide (toSigned (s.rd (wAx (n.val + 1)) AX_RATE.RATE) 32 < 0)) ∧
  (∀ (s : State) (init : Initiator) (n : Fin 7) (low : Fin 128), WriteOpen s init (wAx (n.val + 1)) 0x140 → s.axCfgByte (n.val + 1) < 128 → low.val / 16 = 2 → s.unitState (wME (s.rd (wAx (n.val + 1)) AX_SRC.UNIT_A)) = usReady → Completes (.axisEnable init n low) s fun t =>
    t.axState (n.val + 1) = axWait ∧ t.on (wAx (n.val + 1)) AX_CFG.EN = true ∧
    (t.axis (n.val + 1)).pm = toSigned (s.rd (wME (s.rd (wAx (n.val + 1)) AX_SRC.UNIT_A)) ME_POS.POS) 32 * axUnit ∧ (t.axis (n.val + 1)).count = 0) ∧
  (∀ (s : State) (init : Initiator) (n : Fin 7) (low : Fin 128), WriteOpen s init (wAx (n.val + 1)) 0x140 → s.axCfgByte (n.val + 1) = 128 + axCfgFit low → s.axState (n.val + 1) ≠ axOff → Completes (.axisDisable init n low) s fun t =>
    t.axState (n.val + 1) = axOff ∧ t.on (wAx (n.val + 1)) AX_CFG.EN = false ∧ t.axis (n.val + 1) = AxisSt.reset ∧
    t.rd (wAx (n.val + 1)) AX_STATE.DIRN = 0) ∧
  (∀ (s : State) (n : Fin 7) (up : Bool), s.gxOn = true → s.axState (n.val + 1) = axRun → s.rd (wAx (n.val + 1)) AX_CFG.SRC = 1 ∨ s.rd (wAx (n.val + 1)) AX_CFG.SRC = 2 → s.sourceReady (n.val + 1) = true → 1 ≤ (s.axis (n.val + 1)).count → Completes (.axisMeasuredUpdate n up) s fun t =>
    (t.axis (n.val + 1)).pm = s.axMeasure (n.val + 1) (if up then (s.axis (n.val + 1)).edges + 1 else (s.axis (n.val + 1)).edges - 1) ∧
    (t.axis (n.val + 1)).tm = s.clk ∧ (t.axis (n.val + 1)).count = (s.axis (n.val + 1)).count + 1 ∧ t.axState (n.val + 1) = axRun ∧
    (t.axis (n.val + 1)).updated = true) ∧
  (∀ (s : State) (n : Fin 7) (up : Bool), s.gxOn = true → s.axState (n.val + 1) = axRun → s.rd (wAx (n.val + 1)) AX_CFG.SRC = 1 → s.sourceReady (n.val + 1) = true → 1 ≤ (s.axis (n.val + 1)).count → (s.axis (n.val + 1)).lastD = (if up then -1 else 1) → Completes (.axisMeasuredUpdate n up) s fun t =>
    OneMore s t (wAx (n.val + 1)) AX_REVERSALS.COUNT ∧ t.on (wAx (n.val + 1)) AX_STATE.DIRN = !up) ∧
  (∀ (s : State) (n : Fin 7), s.gxOn = true → s.axState (n.val + 1) = axRun → 1 ≤ s.rd (wAx (n.val + 1)) AX_STALL.STALL_TO → 1 ≤ s.rd (wAx (n.val + 1)) AX_CFG.SRC → s.rd (wAx (n.val + 1)) AX_CFG.SRC ≤ 3 → Completes (.axisStallTimeout n) s fun t =>
    t.axState (n.val + 1) = axStalled ∧ (t.axis (n.val + 1)).speed = 0 ∧ t.on (wAx (n.val + 1)) AX_STAT.STALL = true ∧ EvSet t (wAx (n.val + 1)) 0) ∧
  (∀ (s : State) (init : Initiator), CmdOpen s init (wAx 0) AX0_CTRL.STEP → Completes (.ax0Step init) s fun t =>
    t.ax0.sec = s.rd (wAx 0) AX0_SET.SEC ∧ t.ax0.ns = s.rd (wAx 0) AX0_SET.NS ∧ t.ax0.frac = 0 ∧ t.ax0.slew = 0 ∧
    t.on (wAx 0) AX0_STAT.STEPPED = true ∧ EvSet t (wAx 0) 1) ∧
  (∀ (s : State) (init : Initiator), CmdOpen s init (wAx 0) AX0_CTRL.MARK → Completes (.ax0Mark init) s fun t =>
    t.ax0State = sync0 ∧ t.ax0 = s.ax0) ∧
  (∀ (s : State) (init : Initiator), CmdOpen s init (wAx 0) AX0_CTRL.UNSYNC → Completes (.ax0Unsync init) s fun t =>
    t.ax0State = free0 ∧ t.ax0 = s.ax0) ∧
  (∀ (s : State) (init : Initiator) (v : BitVec 32), WriteOpen s init (wAx 0) 0x17F → Completes (.ax0ServoUpdate init false v) s fun t =>
    t.rd (wAx 0) AX0_RATE.RATE = v.toNat ∧ t.ax0 = s.ax0) ∧
  (∀ (s : State) (init : Initiator) (v : BitVec 32), WriteOpen s init (wAx 0) 0x183 → Completes (.ax0ServoUpdate init true v) s fun t =>
    t.rd (wAx 0) AX0_SLEW.SLEW = v.toNat ∧ t.ax0.slew = v.toInt * fracUnit ∧ t.ax0.ns = s.ax0.ns) ∧
  (∀ (s : State), s.gxOn = true → s.ax0State = sync0 → 1 ≤ s.rd (wAx 0) AX0_HOLD_TO.HOLD_TO → Completes .ax0HoldoverTimeout s fun t =>
    t.ax0State = holdover0 ∧ t.on (wAx 0) AX0_STAT.HOLDOVER = true ∧ EvSet t (wAx 0) 0) ∧
  (∀ (s : State), s.gxOn = true → Completes .ax0CopyUpdate s fun t =>
    t.ax0 = { s.ax0 with ixSec := s.ax0.sec, ixNs := s.ax0.ns }) ∧
  (∀ (s : State) (p : Fin 16) (d : List Byte) (sec : BitVec 48) (ns : BitVec 32), s.gxOn = true → s.pwr.mpRun = true → bit (s.rd (wAx 0) AX0_PTP.PTP_EN) p.val = true → beNat (((byteList d).drop 12).take 2) = 0x88F7 → (byteList d).getD 18 0 = s.rd (wAx 0) AX0_DOMAIN.DOMAIN → (byteList d).getD 14 0 % 16 = 2 → s.fab.handed = [] → s.hopDown p = false → (∀ k : Fin 8, s.queue p k = [] ∧ s.hopQlim p k ≠ 0 ∧ cellsOf (ptpWith (byteList d) 3 0).length ≤ s.hopQlim p k) → s.admits noPort (cellsOf (ptpWith (byteList d) 3 0).length) = true → Completes (.gptpFrameReceived p d sec ns) s fun t =>
    ((t.queue p Config.ptpClass.toNat).head?).map (fun c => (c.data, (c.stamp.map fun a => (a.owner, a.asks)))) = some (ptpWith (byteList d) 3 0, some (ownerMp, true)) ∧
    t.ax0 = s.ax0) ∧
  (∀ (s : State) (p q : Fin 16) (d : List Byte) (sec : BitVec 48) (ns : BitVec 32), s.gxOn = true → s.pwr.mpRun = true → bit (s.rd (wAx 0) AX0_PTP.PTP_EN) p.val = true → beNat (((byteList d).drop 12).take 2) = 0x88F7 → (byteList d).getD 18 0 = s.rd (wAx 0) AX0_DOMAIN.DOMAIN → (byteList d).getD 14 0 % 16 = 0 → s.fab.handed = [] → bit s.cfg.ptpSlaves p = true → s.cfg.ptpMasters = 2 ^ q.val → bit (s.rd (wAx 0) AX0_PTP.PTP_EN) q.val = true → s.hopDown q = false → (∀ k : Fin 8, s.queue q k = [] ∧ s.hopQlim q k ≠ 0 ∧ cellsOf (ptpWith (byteList d) 0 0).length ≤ s.hopQlim q k) → s.admits noPort (cellsOf (ptpWith (byteList d) 0 0).length) = true → Completes (.gptpFrameReceived p d sec ns) s fun t =>
    (t.queue q Config.ptpClass.toNat).map (·.data) = [ptpWith (byteList d) 0 ((ptpCorr (byteList d) + s.draw.1.toNat) % 2 ^ 64)] ∧ t.ax0 = s.ax0) ∧
  (∀ (s : State) (p : Fin 16) (d : List Byte) (sec : BitVec 48) (ns : BitVec 32), s.gxOn = true → s.pwr.mpRun = true → bit (s.rd (wAx 0) AX0_PTP.PTP_EN) p.val = true → beNat (((byteList d).drop 12).take 2) = 0x88F7 → (byteList d).getD 18 0 = s.rd (wAx 0) AX0_DOMAIN.DOMAIN → (byteList d).getD 14 0 % 16 = 8 → s.fab.handed = [] → bit s.cfg.ptpSlaves p = true → s.cfg.ptpMasters = 0 → Completes (.gptpFrameReceived p d sec ns) s fun t =>
    t.rd (wAx 0) AX0_RATE.RATE = s.draw.1.toNat % 2 ^ 32 ∧ t.ax0.slew = toSigned (s.draw.2.draw.1.toNat % 2 ^ 32) 32 * fracUnit ∧
    t.fab = s.fab ∧ t.ax0.ns = s.ax0.ns) ∧
  (∀ (s : State) (p : Fin 16) (d : List Byte) (sec : BitVec 48) (ns : BitVec 32), s.pwr.mpRun = false ∨ bit (s.rd (wAx 0) AX0_PTP.PTP_EN) p.val = false ∨ (byteList d).getD 18 0 ≠ s.rd (wAx 0) AX0_DOMAIN.DOMAIN → s.fab.handed = [] → Quiet (.gptpFrameReceived p d sec ns) s) ∧
  (∀ (s : State) (n : Fin 7) (up : Bool), s.gxOn = true → s.axState (n.val + 1) = axWait → s.rd (wAx (n.val + 1)) AX_CFG.SRC = 3 → s.sourceReady (n.val + 1) = true → (s.axis (n.val + 1)).count = 0 → Completes (.axisMeasuredUpdate n up) s fun t =>
    (t.axis (n.val + 1)).pm = toSigned (s.rd wSignal SIG_VALUE.VALUE (s.rd (wAx (n.val + 1)) AX_SRC.SIG) % 2 ^ 32) 32 * axUnit ∧ t.axState (n.val + 1) = axWait ∧ (t.axis (n.val + 1)).count = 1) ∧
  (∀ (s : State) (n : Fin 7) (up : Bool), s.gxOn = true → s.axState (n.val + 1) = axStalled → s.rd (wAx (n.val + 1)) AX_CFG.SRC = 2 → s.sourceReady (n.val + 1) = true → 1 ≤ (s.axis (n.val + 1)).count → Completes (.axisMeasuredUpdate n up) s fun t =>
    t.axState (n.val + 1) = axRun ∧ (t.axis (n.val + 1)).speed =
    Int.tdiv ((toSigned (s.rd (wME (s.rd (wAx (n.val + 1)) AX_SRC.UNIT_A)) ME_POS.POS) 32 * axUnit - (s.axis (n.val + 1)).pm) * billion)
    (max 1 (s.clk - (s.axis (n.val + 1)).tm) * clkNs : Nat)) ∧
  (∀ (s : State) (n : Fin 7) (up : Bool), s.gxOn = false ∨ s.axState (n.val + 1) = axOff → Quiet (.axisMeasuredUpdate n up) s) ∧
  (∀ (s : State) (n : Fin 7), s.gxOn = false ∨ s.axState (n.val + 1) ≠ axRun ∨ s.rd (wAx (n.val + 1)) AX_STALL.STALL_TO = 0 → Quiet (.axisStallTimeout n) s) ∧
  (∀ (s : State), s.gxOn = false ∨ s.ax0State ≠ sync0 ∨ s.rd (wAx 0) AX0_HOLD_TO.HOLD_TO = 0 → Quiet .ax0HoldoverTimeout s)

/-- For each command the next state holds what is named here. R303 to R305: ARM of an idle event that fits arms it at its target, with the side its position lies on, where it is not an AX0 target already reached; such a target of an event without REPEAT ends dropped as late, LAST 0x11, counted, with no action, where LATE_ACT is 0, and fires with LATE and its event where LATE_ACT is 1; ARM of an armed event, or of one that does not fit, changes neither the pool nor ARMED. DISARM of an armed event returns it to idle with its occurrence dropped, LAST 0x10, counted. GARM arms each idle fitting event of the group on AX1 to AX7 at its target, GDIS returns each armed event of the group to idle with LAST 0x10. R299, R303, R306: with one armed event, an evaluation fires an AX0 event whose target AX0 has reached, and a rising event of a running axis, not EXACT, below its target before and not now: its action joins the queue, and without REPEAT it is idle; with REPEAT 100 passed k times more it fires once, advances past them, and sets OVERRUN and its event; an event whose axis does not run stays armed as it is, and so, with every register, one that goes to IX in advance or whose AX0 target lies ahead. -/
def Obligations.EventPoolComplete : Prop :=
  (∀ (s : State) (init : Initiator), CmdOpen s init wEvp EVP_CMD.ARM → s.evArmed s.evSel = none → s.evFits s.evSel = true → s.evAxis s.evSel ≠ 0 ∨ (s.ax0Ns : Int) < s.evTarget s.evSel → Completes (.eventArm init) s fun t =>
    t.evArmed s.evSel = some ⟨s.evTarget s.evSel, decide (s.evPos s.evSel < s.evTarget s.evSel * s.evScale s.evSel), s.evAhead s.evSel (s.evTarget s.evSel)⟩ ∧
    t.rd wEvp EVP_STATE.ARMED s.evSel = 1 ∧ t.evp.queue = s.evp.queue) ∧
  (∀ (s : State) (init : Initiator), CmdOpen s init wEvp EVP_CMD.ARM → s.evArmed s.evSel = none → s.evFits s.evSel = true → s.evAxis s.evSel = 0 → s.evTarget s.evSel ≤ (s.ax0Ns : Int) → s.evRepeat s.evSel = 0 → s.on wEvp EVP_ENTRY.LATE_ACT s.evSel = false → Completes (.eventArm init) s fun t =>
    t.evArmed s.evSel = none ∧ t.rd wEvp EVP_STATE.ARMED s.evSel = 0 ∧ t.rd wEvp EVP_STATE.LAST s.evSel = 0x91 % 128 ∧
    OneMore s t wEvp EVP_DROPPED.COUNT ∧ t.evp.queue = s.evp.queue) ∧
  (∀ (s : State) (init : Initiator), CmdOpen s init wEvp EVP_CMD.DISARM → (s.evArmed s.evSel).isSome = true → Completes (.eventDisarm init) s fun t =>
    t.evArmed s.evSel = none ∧ t.rd wEvp EVP_STATE.ARMED s.evSel = 0 ∧ t.rd wEvp EVP_STATE.LAST s.evSel = 0x90 % 128 ∧
    OneMore s t wEvp EVP_DROPPED.COUNT) ∧
  (∀ (s : State) (init : Initiator) (i : Fin 4096), CmdOpen s init wEvp EVP_CMD.GARM → s.rd wEvp EVP_ENTRY.GROUP i = s.rd wEvp EVP_GROUP.GROUP → s.evArmed i = none → s.evFits i = true → s.evAxis i ≠ 0 → Completes (.eventGroupArm init) s fun t =>
    (t.evArmed i).map (·.target) = some (s.evTarget i) ∧ t.rd wEvp EVP_STATE.ARMED i = 1) ∧
  (∀ (s : State) (init : Initiator) (i : Fin 4096), CmdOpen s init wEvp EVP_CMD.GDIS → s.rd wEvp EVP_ENTRY.GROUP i = s.rd wEvp EVP_GROUP.GROUP → (s.evArmed i).isSome = true → Completes (.eventGroupDisarm init) s fun t =>
    t.evArmed i = none ∧ t.rd wEvp EVP_STATE.ARMED i = 0 ∧ t.rd wEvp EVP_STATE.LAST i = 0x90 % 128) ∧
  (∀ (s : State) (i : Fin 4096) (a : ArmedEv), s.gxOn = true → s.evp.armed = [(i.val, a)] → s.evAxis i = 0 → a.timed = false → a.target ≤ (s.ax0Ns : Int) → s.evRepeat i = 0 → Completes .eventPoolEvaluate s fun t =>
    t.evp.queue = s.evp.queue ++ [⟨i.val, s.rd wEvp EVP_ENTRY.ACTION i, s.rd wEvp EVP_ENTRY.TARGET i, s.rd wEvp EVP_ENTRY.ARG i⟩] ∧
    t.evArmed i = none ∧ t.rd wEvp EVP_STATE.ARMED i = 0 ∧ t.rd wEvp EVP_FIRED.TIME i = s.time80) ∧
  (∀ (s : State) (i : Fin 4096) (a : ArmedEv), s.gxOn = true → s.evp.armed = [(i.val, a)] → s.evAxis i ≠ 0 → s.axState (s.evAxis i) = axRun → a.timed = false → a.below = true → a.target * axUnit ≤ s.evPos i → s.on wEvp EVP_ENTRY.EXACT i = false → s.evDir i = 1 → s.evRepeat i = 0 → Completes .eventPoolEvaluate s fun t =>
    t.evp.queue = s.evp.queue ++ [⟨i.val, s.rd wEvp EVP_ENTRY.ACTION i, s.rd wEvp EVP_ENTRY.TARGET i, s.rd wEvp EVP_ENTRY.ARG i⟩] ∧
    t.evArmed i = none ∧ t.rd wEvp EVP_STATE.ARMED i = 0) ∧
  (∀ (s : State) (i : Fin 4096) (a : ArmedEv), s.gxOn = true → s.evp.armed = [(i.val, a)] → s.evAxis i ≠ 0 → s.axState (s.evAxis i) ≠ axRun → Completes .eventPoolEvaluate s fun t =>
    t.evp = s.evp) ∧
  (∀ (s : State) (init : Initiator), CmdOpen s init wEvp EVP_CMD.ARM → s.evArmed s.evSel = none → s.evFits s.evSel = true → s.evAxis s.evSel = 0 → s.evTarget s.evSel ≤ (s.ax0Ns : Int) → s.evRepeat s.evSel = 0 → s.on wEvp EVP_ENTRY.LATE_ACT s.evSel = true → Completes (.eventArm init) s fun t =>
    t.evArmed s.evSel = none ∧ t.on wEvp EVP_STAT.LATE = true ∧ EvSet t wEvp 0 ∧
    t.evp.queue = s.evp.queue ++ [⟨s.evSel, s.rd wEvp EVP_ENTRY.ACTION s.evSel, s.rd wEvp EVP_ENTRY.TARGET s.evSel, s.rd wEvp EVP_ENTRY.ARG s.evSel⟩]) ∧
  (∀ (s : State) (init : Initiator), CmdOpen s init wEvp EVP_CMD.ARM → (s.evArmed s.evSel).isSome = true ∨ s.evFits s.evSel = false → Completes (.eventArm init) s fun t =>
    t.evp = s.evp ∧ t.rd wEvp EVP_STATE.ARMED s.evSel = s.rd wEvp EVP_STATE.ARMED s.evSel) ∧
  (∀ (s : State) (i : Fin 4096) (a : ArmedEv), s.gxOn = true → s.evp.armed = [(i.val, a)] → a.timed = true ∨ (s.evAxis i = 0 ∧ (s.ax0Ns : Int) < a.target) → Completes .eventPoolEvaluate s fun t =>
    t.evp = s.evp ∧ t.regs = s.regs) ∧
  (∀ (s : State) (i : Fin 4096) (a : ArmedEv) (k : Nat), s.gxOn = true → s.evp.armed = [(i.val, a)] → s.evAxis i = 0 → a.timed = false → s.evRepeat i = 100 → (s.ax0Ns : Int) = a.target + 100 * k + 7 → 1 ≤ k → s.on wEvp EVP_STAT.OVERRUN = false → Completes .eventPoolEvaluate s fun t =>
    t.evp.queue = s.evp.queue ++ [⟨i.val, s.rd wEvp EVP_ENTRY.ACTION i, s.rd wEvp EVP_ENTRY.TARGET i, s.rd wEvp EVP_ENTRY.ARG i⟩] ∧
    (t.evArmed i).map (·.target) = some (a.target + 100 * (k + 1)) ∧ t.on wEvp EVP_STAT.OVERRUN = true ∧ EvSet t wEvp 1)

/-- For each command the next state holds what is named here. R308, R309, with the action in front of the queue: it leaves the queue and, but where the target refuses, its occurrence is delivered. MARK does no more. LAUNCH in launch mode sends the held frame to stage 2 as an item of an event; with none held it ends dropped 0x93 with EMPTY and its event. SEND_PDU of an entry that can build queues it on its engine. GATE opens or closes a class that its mask names, SGATE its stream gate. CH_ON with ARG 1 takes a whole channel, idle and ready, to ON; DUTY and PHASE store. SAMPLE reports the level or the code to the one entry that the input feeds. SET_SIGNAL of an unsigned entry of source 6 stores ARG. ME_MOVE and ME_MODE with mode 2 take a READY, idle engine that may drive to DRIVE under the command. GROUPS disarms the armed events of one mask and arms the idle fitting events on AX1 to AX7 of the other. R309: LAUNCH without launch mode, and each action on a unit in OFF or SAFE (SGATE: in OFF; SET_SIGNAL: also on an entry that is not one of source 6 in use) ends failed 0x95, counted, with TARGET and its event, and has none of its effect. With another action in front, or none, each of the thirteen commands does nothing. R310: a fetch of one whole frame's descriptor, with room in the Stockpile, is held in the launch slot as a stored frame and not sent; a ring that fetches nothing stays. R311: the one armed event sent to IX in advance whose time IX's copy of AX0 has reached, a DUTY without REPEAT, sets the duty, is idle and delivered; with none such nothing happens. -/
def Obligations.EventActionsComplete : Prop :=
  (∀ (s : State) (i : Fin 4096) (x g : Nat), Completes .actionMark (Issued s i 0 x g) fun t =>
    ActDone s t i) ∧
  (∀ (s : State) (i : Fin 4096) (r : Fin 16) (g : Nat) (f : RingFrame), s.shut wHost = false → s.launchMode r = true → s.launchOf r = some f → Completes .actionLaunch (Issued s i 1 r g) fun t =>
    ActDone s t i ∧ t.launchOf r = none ∧ t.txFramesOf r = s.txFramesOf r ++ [f] ∧ t.fab.pipe.length = s.fab.pipe.length + 1 ∧
    t.fab.pipe.getLast?.map (fun it => (it.fid, it.ring, it.evt)) = some (f.fid, some r.val, true)) ∧
  (∀ (s : State) (i : Fin 4096) (j : Fin 8192) (e : Fin 4) (g : Nat), s.shut wPdu = false → CanBuild s j e → Completes .actionSendPdu (Issued s i 2 j g) fun t =>
    ActDone s t i ∧ t.bq e = s.bq e ++ [j.val]) ∧
  (∀ (s : State) (i : Fin 4096) (p : Fin 16) (g : Nat) (k : Fin 8), s.shut (wHop p) = false → bit g (8 + k) = true → bit g k = true → Completes .actionGate (Issued s i 3 p g) fun t =>
    t.on (wHop p) (HOP_GATE.OPEN.elem k) = true ∧ t.rd wEvp EVP_STATE.LAST i = 0) ∧
  (∀ (s : State) (i : Fin 4096) (p : Fin 16) (g : Nat) (k : Fin 8), s.shut (wHop p) = false → bit g (8 + k) = true → bit g k = false → Completes .actionGate (Issued s i 3 p g) fun t =>
    t.on (wHop p) (HOP_GATE.OPEN.elem k) = false ∧ t.rd wEvp EVP_STATE.LAST i = 0) ∧
  (∀ (s : State) (i : Fin 4096) (n : Fin 64) (g : Nat), s.unitState wSieve ≠ usOff → Completes .actionSgate (Issued s i 4 n g) fun t =>
    ActDone s t i ∧ bit (t.rd wSieve SGATE_OPEN.OPEN) n = bit g 0) ∧
  (∀ (s : State) (i : Fin 4096) (n : Fin 72) (g : Nat), s.unitState (wCh n) = usReady → isHalf n = false → ChIdle s n → bit g 0 = true → Completes .actionChOn (Issued s i 5 n g) fun t =>
    ActDone s t i ∧ t.on (wCh n) CH_CTRL.ON = true ∧ t.prot n = protOn) ∧
  (∀ (s : State) (i : Fin 4096) (n : Fin 72) (g : Nat), s.shut (wCh n) = false → Completes .actionChDuty (Issued s i 6 n g) fun t =>
    ActDone s t i ∧ t.rd (wCh n) CH_DUTY.DUTY = g % 65536) ∧
  (∀ (s : State) (i : Fin 4096) (n : Fin 72) (g : Nat), s.shut (wCh n) = false → Completes .actionChPhase (Issued s i 7 n g) fun t =>
    ActDone s t i ∧ t.rd (wCh n) CH_PHASE.PHASE = g % 256) ∧
  (∀ (s : State) (high : Bool) (mv : BitVec 16) (i : Fin 4096) (n : Fin 80) (g : Nat) (x : Fin 4096), s.shut (if n.val < 64 then wSW n else wAN (n.val - 64)) = false → s.validIn (s.genOf wSignal) wSignal SIG_ENTRY.VALID = [x.val] → s.sig (s.genOf wSignal) SIG_ENTRY.SRC x = (if n.val < 64 then 2 else 3) → s.sig (s.genOf wSignal) SIG_ENTRY.SRC_UNIT x = (if n.val < 64 then n.val else n.val - 64) → s.inRom (wSE (x.val % 4)) = false → (s.exq (x.val % 4)).length < 512 → Completes (.actionSample ⟨high, mv⟩) (Issued s i 8 n g) fun t =>
    ActDone s t i ∧ t.exq (x.val % 4) = s.exq (x.val % 4) ++ [.report x.val (if n.val < 64 then b2n (s.swActive n high) else s.anCode (n.val - 64) mv.toNat)]) ∧
  (∀ (s : State) (i x : Fin 4096) (g : Nat), s.shut wSignal = false → s.sig (s.genOf wSignal) SIG_ENTRY.VALID x = 1 → s.sig (s.genOf wSignal) SIG_ENTRY.SRC x = 6 → s.sigSigned (s.genOf wSignal) x = false → Completes .actionSetSignal (Issued s i 9 x g) fun t =>
    ActDone s t i ∧ t.rd wSignal SIG_VALUE.VALUE x = g % 2 ^ 32 ∧ t.rd wSignal SIG_STATE.STATE x = siValid) ∧
  (∀ (s : State) (i : Fin 4096) (k : Fin 6) (g : Nat), s.unitState (wME k) = usReady → s.meState k = meIdle → s.meMayDrive k = true → s.rd (wME k) ME_TOL.TOL < (toSigned g 32 - s.mePos k).natAbs → s.rd (wME k) ME_BRK.BRK_DIST < (toSigned g 32 - s.mePos k).natAbs → g < 2 ^ 32 → Completes .actionMeMove (Issued s i 10 k g) fun t =>
    ActDone s t i ∧ t.meState k = meDrive ∧ t.rd (wME k) ME_TARGET.TARGET = g ∧ (t.me k).cmd = some (.move (toSigned g 32))) ∧
  (∀ (s : State) (i : Fin 4096) (k : Fin 6) (g : Nat), s.unitState (wME k) = usReady → s.meState k = meIdle → s.meMayDrive k = true → g % 8 = 2 → Completes .actionMeMode (Issued s i 11 k g) fun t =>
    ActDone s t i ∧ t.meState k = meDrive ∧ t.rd (wME k) ME_MODE.MODE = 2 ∧ (t.me k).cmd = some (.run 2)) ∧
  (∀ (s : State) (i x : Fin 4096) (g : Nat), bit (g / 65536) (s.rd wEvp EVP_ENTRY.GROUP x) = true → g % 65536 = 0 → (s.evArmed x).isSome = true → Completes .actionGroups (Issued s i 12 0 g) fun t =>
    ActDone s t i ∧ t.evArmed x = none) ∧
  (∀ (s : State) (i x : Fin 4096) (g : Nat), bit (g % 65536) (s.rd wEvp EVP_ENTRY.GROUP x) = true → g / 65536 = 0 → s.evArmed x = none → s.evFits x = true → s.evAxis x ≠ 0 → Completes .actionGroups (Issued s i 12 0 g) fun t =>
    (t.evArmed x).map (·.target) = some (s.evTarget x) ∧ t.rd wEvp EVP_STATE.LAST i = 0) ∧
  (∀ (s : State) (i : Fin 4096) (n : Fin 72) (g : Nat), s.shut (wCh n) = true → Completes .actionChOn (Issued s i 5 n g) fun t =>
    OneMore s t wEvp EVP_FAILED.COUNT ∧ t.rd wEvp EVP_STATE.LAST i = 0x95 % 128 ∧ t.on wEvp EVP_STAT.TARGET = true ∧ EvSet t wEvp 2 ∧
    t.rd (wCh n) CH_CTRL.ON = s.rd (wCh n) CH_CTRL.ON) ∧
  (∀ (s : State) (i : Fin 4096) (a : ArmedEv) (n : Fin 72), s.evp.armed = [(i.val, a)] → a.timed = true → a.target ≤ s.ixNow → s.evRepeat i = 0 → s.rd wEvp EVP_ENTRY.ACTION i = 6 → s.rd wEvp EVP_ENTRY.TARGET i = n.val → s.shut (wCh n) = false → Completes .ixTimedActionApply s fun t =>
    t.rd (wCh n) CH_DUTY.DUTY = s.rd wEvp EVP_ENTRY.ARG i % 65536 ∧ t.evArmed i = none ∧ OneMore s t wEvp EVP_DELIVERED.COUNT ∧
    t.rd wEvp EVP_FIRED.TIME i = s.time80) ∧
  (∀ (s : State) (r : Fin 16) (d : RingDesc), s.launchMode r = true → s.launchOf r = none → s.fetches true r = true → s.on wHost (fEn true r) = true → s.txDescs r = [] → d.sop = true → d.eop = true → s.admits srcHost (cellsOf (s.makeDesc true r d).data.length) = true → Completes (.launchFetch r [d]) s fun t =>
    t.launchOf r = some ⟨s.fab.nextFid, [s.makeDesc true r d], none, false⟩ ∧ t.fab.frames.length = s.fab.frames.length + 1 ∧ t.fab.pipe = s.fab.pipe) ∧
  (∀ (s : State), (s.evp.queue.head?.map (·.act)) ≠ some 0 → Quiet (.actionMark ) s) ∧
  (∀ (s : State), (s.evp.queue.head?.map (·.act)) ≠ some 1 → Quiet (.actionLaunch ) s) ∧
  (∀ (s : State), (s.evp.queue.head?.map (·.act)) ≠ some 2 → Quiet (.actionSendPdu ) s) ∧
  (∀ (s : State), (s.evp.queue.head?.map (·.act)) ≠ some 3 → Quiet (.actionGate ) s) ∧
  (∀ (s : State), (s.evp.queue.head?.map (·.act)) ≠ some 4 → Quiet (.actionSgate ) s) ∧
  (∀ (s : State), (s.evp.queue.head?.map (·.act)) ≠ some 5 → Quiet (.actionChOn ) s) ∧
  (∀ (s : State), (s.evp.queue.head?.map (·.act)) ≠ some 6 → Quiet (.actionChDuty ) s) ∧
  (∀ (s : State), (s.evp.queue.head?.map (·.act)) ≠ some 7 → Quiet (.actionChPhase ) s) ∧
  (∀ (s : State) (high : Bool) (mv : BitVec 16), (s.evp.queue.head?.map (·.act)) ≠ some 8 → Quiet (.actionSample ⟨high, mv⟩) s) ∧
  (∀ (s : State), (s.evp.queue.head?.map (·.act)) ≠ some 9 → Quiet (.actionSetSignal ) s) ∧
  (∀ (s : State), (s.evp.queue.head?.map (·.act)) ≠ some 10 → Quiet (.actionMeMove ) s) ∧
  (∀ (s : State), (s.evp.queue.head?.map (·.act)) ≠ some 11 → Quiet (.actionMeMode ) s) ∧
  (∀ (s : State), (s.evp.queue.head?.map (·.act)) ≠ some 12 → Quiet (.actionGroups ) s) ∧
  (∀ (s : State) (i : Fin 4096) (r : Fin 16) (g : Nat), s.shut wHost = true ∨ s.launchMode r = false → Completes .actionLaunch (Issued s i 1 r g) fun t =>
    OneMore s t wEvp EVP_FAILED.COUNT ∧ t.rd wEvp EVP_STATE.LAST i = 0x95 % 128 ∧ t.on wEvp EVP_STAT.TARGET = true ∧ EvSet t wEvp 2 ∧ t.launchOf r = s.launchOf r) ∧
  (∀ (s : State) (i : Fin 4096) (r : Fin 16) (g : Nat), s.shut wHost = false → s.launchMode r = true → s.launchOf r = none → Completes .actionLaunch (Issued s i 1 r g) fun t =>
    OneMore s t wEvp EVP_DROPPED.COUNT ∧ t.rd wEvp EVP_STATE.LAST i = 0x93 % 128 ∧ t.on wEvp EVP_STAT.EMPTY = true ∧ EvSet t wEvp 3) ∧
  (∀ (s : State) (i : Fin 4096) (p : Fin 16) (g : Nat), s.shut (wHop p) = true → Completes .actionGate (Issued s i 3 p g) fun t =>
    OneMore s t wEvp EVP_FAILED.COUNT ∧ t.rd wEvp EVP_STATE.LAST i = 0x95 % 128 ∧ t.on wEvp EVP_STAT.TARGET = true ∧ EvSet t wEvp 2) ∧
  (∀ (s : State) (i : Fin 4096) (n : Fin 64) (g : Nat), s.unitState wSieve = usOff → Completes .actionSgate (Issued s i 4 n g) fun t =>
    OneMore s t wEvp EVP_FAILED.COUNT ∧ t.rd wEvp EVP_STATE.LAST i = 0x95 % 128 ∧ t.on wEvp EVP_STAT.TARGET = true ∧ EvSet t wEvp 2 ∧ t.rd wSieve SGATE_OPEN.OPEN = s.rd wSieve SGATE_OPEN.OPEN) ∧
  (∀ (s : State) (high : Bool) (mv : BitVec 16) (i : Fin 4096) (n : Fin 80) (g : Nat), s.shut (if n.val < 64 then wSW n else wAN (n.val - 64)) = true → Completes (.actionSample ⟨high, mv⟩) (Issued s i 8 n g) fun t =>
    OneMore s t wEvp EVP_FAILED.COUNT ∧ t.rd wEvp EVP_STATE.LAST i = 0x95 % 128 ∧ t.on wEvp EVP_STAT.TARGET = true ∧ EvSet t wEvp 2) ∧
  (∀ (s : State) (i x : Fin 4096) (g : Nat), s.shut wSignal = true ∨ s.sig (s.genOf wSignal) SIG_ENTRY.VALID x ≠ 1 ∨ s.sig (s.genOf wSignal) SIG_ENTRY.SRC x ≠ 6 → Completes .actionSetSignal (Issued s i 9 x g) fun t =>
    OneMore s t wEvp EVP_FAILED.COUNT ∧ t.rd wEvp EVP_STATE.LAST i = 0x95 % 128 ∧ t.on wEvp EVP_STAT.TARGET = true ∧ EvSet t wEvp 2 ∧ t.rd wSignal SIG_VALUE.VALUE x = s.rd wSignal SIG_VALUE.VALUE x) ∧
  (∀ (s : State) (i : Fin 4096) (k : Fin 6) (g : Nat), s.shut (wME k) = true → Completes .actionMeMove (Issued s i 10 k g) fun t =>
    OneMore s t wEvp EVP_FAILED.COUNT ∧ t.rd wEvp EVP_STATE.LAST i = 0x95 % 128 ∧ t.on wEvp EVP_STAT.TARGET = true ∧ EvSet t wEvp 2 ∧ t.meState k = s.meState k) ∧
  (∀ (s : State) (i : Fin 4096) (k : Fin 6) (g : Nat), s.shut (wME k) = true → Completes .actionMeMode (Issued s i 11 k g) fun t =>
    OneMore s t wEvp EVP_FAILED.COUNT ∧ t.rd wEvp EVP_STATE.LAST i = 0x95 % 128 ∧ t.on wEvp EVP_STAT.TARGET = true ∧ EvSet t wEvp 2 ∧ t.meState k = s.meState k) ∧
  (∀ (s : State) (i : Fin 4096) (n : Fin 72) (g : Nat), s.shut (wCh n) = true → Completes .actionChDuty (Issued s i 6 n g) fun t =>
    OneMore s t wEvp EVP_FAILED.COUNT ∧ t.rd wEvp EVP_STATE.LAST i = 0x95 % 128 ∧ t.on wEvp EVP_STAT.TARGET = true ∧ EvSet t wEvp 2) ∧
  (∀ (s : State) (i : Fin 4096) (n : Fin 72) (g : Nat), s.shut (wCh n) = true → Completes .actionChPhase (Issued s i 7 n g) fun t =>
    OneMore s t wEvp EVP_FAILED.COUNT ∧ t.rd wEvp EVP_STATE.LAST i = 0x95 % 128 ∧ t.on wEvp EVP_STAT.TARGET = true ∧ EvSet t wEvp 2) ∧
  (∀ (s : State) (r : Fin 16), s.fetches true r = false → Quiet (.launchFetch r []) s) ∧
  (∀ (s : State), (s.evp.armed.filter fun x => x.2.timed) = [] → Quiet .ixTimedActionApply s)

/-- For each command the next state holds what is named here. R316: a pop by MP that is not speculative of the selected port's queue, whose first entry is MP's, gives that entry to the view, takes it from the queue and reads the number of MP's entries that were there; a pop of the miss ring gives its oldest record to the view, takes it and reads how many there were, at most 255; a speculative pop of a queue, and a pop of an empty queue or ring, take nothing; the first and the last read 0. R318: with STP_AGE not 0 the oldest entry of a port becomes a miss record of kind 1, with AGED; with the ring full it stays, MISS_FULL and its event set; without an entry or with STP_AGE 0 nothing happens. R317: when the wait of a class ends with the port's queue full and a stamp asked for, the head goes untimed and a record of kind 0 with the time joins the ring, with MISS and its event; with the ring full the head stays, the class is held back and STP_BACKPRESSURE counts; with no wait running nothing happens. -/
def Obligations.StampsComplete : Prop :=
  (∀ (s : State) (e : StampRec) (l : List StampRec), ReadOpen s .mp wStamp → s.stampQ (s.rd wStamp STP_TXQ_SEL.PORT) = e :: l → e.owner = 0 → e.tag < 2 ^ 32 → e.time < 2 ^ 80 → s.specRead initMp wStamp false = false → Completes (.stampTxqPop .mp false) s fun t =>
    t.stampQ (s.rd wStamp STP_TXQ_SEL.PORT) = l ∧ t.rd wStamp STP_TXQ_VIEW.OWNER = 0 ∧ t.rd wStamp STP_TXQ_VIEW.TAG = e.tag ∧
    t.rd wStamp STP_TXQ_VIEW.TIME = e.time ∧ t.outs = [.readData initMp [((e :: l).filter fun x => x.owner == 0).length]]) ∧
  (∀ (s : State) (init : Initiator), ReadOpen s init wStamp → Completes (.stampTxqPop init true) s fun t =>
    t.stamps = s.stamps ∧ t.outs = [.readData init.code [0]]) ∧
  (∀ (s : State) (init : Initiator) (e : StampRec) (l : List StampRec), ReadOpen s init wStamp → s.stamps.miss = e :: l → s.specRead init.code wStamp false = false → e.time < 2 ^ 80 → e.tag < 2 ^ 32 → Completes (.stampMissPop init false) s fun t =>
    t.stamps.miss = l ∧ t.rd wStamp STP_MISS_VIEW.TAG = e.tag ∧ t.rd wStamp STP_MISS_VIEW.TIME = e.time ∧
    t.outs = [.readData init.code [min 255 (l.length + 1)]]) ∧
  (∀ (s : State) (p : Fin 16) (e : StampRec) (l : List StampRec), s.stampQ p = e :: l → s.rd wStamp STP_AGE.AGE ≠ 0 → s.missFull = false → Completes (.stampAgeExpiry p) s fun t =>
    t.stampQ p = l ∧ t.stamps.miss = s.stamps.miss ++ [{ e with kind := 1 }] ∧ t.on wStamp STP_STAT.AGED = true) ∧
  (∀ (s : State) (p : Fin 16) (e : StampRec) (l : List StampRec), s.stampQ p = e :: l → s.rd wStamp STP_AGE.AGE ≠ 0 → s.missFull = true → Completes (.stampAgeExpiry p) s fun t =>
    t.stampQ p = e :: l ∧ t.stamps.miss = s.stamps.miss ∧ t.on wStamp STP_STAT.MISS_FULL = true ∧ EvSet t wStamp 1) ∧
  (∀ (s : State) (p : Fin 16) (c : Fin 8) (h : Copy) (l : List Copy) (owner tag : Nat), (s.stamps.waiting.find? (·.1 == qKey p c)).isSome = true → s.queue p c = h :: l → s.stampAsked p h = some (owner, tag) → s.stampFull p = true → s.missFull = false → Completes (.stampWaitExpiry p c) s fun t =>
    t.queue p c = { h with untimed := true } :: l ∧ t.stamps.miss = s.stamps.miss ++ [⟨p.val, 0, owner, tag, s.time80⟩] ∧
    t.on wStamp STP_STAT.MISS = true ∧ EvSet t wStamp 0) ∧
  (∀ (s : State) (p : Fin 16) (c : Fin 8) (h : Copy) (l : List Copy) (owner tag : Nat), (s.stamps.waiting.find? (·.1 == qKey p c)).isSome = true → s.queue p c = h :: l → s.stampAsked p h = some (owner, tag) → s.stampFull p = true → s.missFull = true → Completes (.stampWaitExpiry p c) s fun t =>
    t.queue p c = h :: l ∧ t.stamps.miss = s.stamps.miss ∧ look t.fab.backPress (qKey p c) false = true ∧ OneMore s t wStamp STP_BACKPRESSURE.COUNT) ∧
  (∀ (s : State) (init : Initiator), ReadOpen s init wStamp → s.stampQ (s.rd wStamp STP_TXQ_SEL.PORT) = [] → Completes (.stampTxqPop init false) s fun t =>
    t.stamps = s.stamps ∧ t.outs = [.readData init.code [0]]) ∧
  (∀ (s : State) (init : Initiator), ReadOpen s init wStamp → s.stamps.miss = [] → Completes (.stampMissPop init false) s fun t =>
    t.stamps = s.stamps ∧ t.outs = [.readData init.code [0]]) ∧
  (∀ (s : State) (p : Fin 16), s.stampQ p = [] ∨ s.rd wStamp STP_AGE.AGE = 0 → Quiet (.stampAgeExpiry p) s) ∧
  (∀ (s : State) (p : Fin 16) (c : Fin 8), (s.stamps.waiting.find? (·.1 == qKey p c)).isNone = true → Quiet (.stampWaitExpiry p c) s)

/-- For each command the next state holds what is named here. R323, R324: ON of a whole channel that is idle takes it to ON with DUTY in force, not locked to AX0; on a half nothing happens. At the period start of a channel that is wanted and not held by its lock, DUTY, PERIOD and the effective phase come into force and OUT follows the duty, on a half the bridge's switches; with PERIOD 0 a whole channel in NORMAL leaves ON; out of ON, or not at a lock instant, nothing happens. R332: with an on-time of 4 us or more and OLON 0 a sample gives CURRENT; below OLON for the eighth time it gives RESULT 2 and OPEN_ON; with no such on-time, on a channel that feeds no entry, nothing happens. R327, R328: a short circuit in ON, and an overcurrent above the threshold, leave it for RETRY_WAIT, counted, with its sticky bit; a short circuit with LIMIT reached for LATCHED, counted, with LATCHED; an overcurrent that is none, and a short circuit of a whole channel out of ON, do nothing. A trip in ON or RETRY_WAIT gives THERM with its bit and count; in OFF or LATCHED of a whole channel it sets the thermal latch alone. The cooled channel in THERM is LATCHED with LIMIT reached, tries again with Count one more if wanted, or goes to OFF; so a delay that ends in RETRY_WAIT without LIMIT, and in other states it does nothing. A second in ON clears Count, elsewhere nothing. CLEAR takes LATCHED to OFF with Count 0; other states stay. R329: DIAG, or a test, of a testable channel connects the resistor; of another nothing; the end of a test disconnects it and gives the table's result, on a bridge to both halves; with none running nothing happens. -/
def Obligations.ChannelsComplete : Prop :=
  (∀ (s : State) (init : Initiator) (n : Fin 72), WriteOpen s init (wCh n) 0x142 → isHalf n = false → ChIdle s n → s.lockHeld n = false → Completes (.chCommand init n true) s fun t =>
    t.on (wCh n) CH_CTRL.ON = true ∧ t.prot n = protOn ∧ (t.chan n).duty = s.rd (wCh n) CH_DUTY.DUTY ∧ (t.chan n).onSince = s.clk) ∧
  (∀ (s : State) (init : Initiator) (n : Fin 72), WriteOpen s init (wCh n) 0x142 → isHalf n = true → Quiet (.chCommand init n true) s) ∧
  (∀ (s : State) (n : Fin 72), s.prot n = protOn → s.lockReady n = true → s.chWanted n = true → s.rd (wCh n) CH_PERIOD.PERIOD ≠ 0 → Completes (.chPeriodStart n) s fun t =>
    (t.chan n).duty = s.rd (wCh n) CH_DUTY.DUTY ∧ (t.chan n).period = s.rd (wCh n) CH_PERIOD.PERIOD ∧ (t.chan n).phase = s.phaseEff n ∧
    t.prot n = protOn ∧ t.on (wCh n) CH_STATE.OUT = (if isHalf n then s.hbSwitches (n / 2) &&& halfMask n != 0 else t.chDuty n != 0)) ∧
  (∀ (s : State) (n : Fin 72), isHalf n = false → s.prot n = protOn → s.lockReady n = true → s.ctrl n = ctrlNormal → s.rd (wCh n) CH_PERIOD.PERIOD = 0 → Completes (.chPeriodStart n) s fun t =>
    t.prot n = protOff ∧ t.on (wCh n) CH_STATE.OUT = false ∧ t.rd (wCh n) CH_CURRENT.CURRENT = 0) ∧
  (∀ (s : State) (n : Fin 72), s.prot n ≠ protOn ∨ s.lockReady n = false → Quiet (.chPeriodStart n) s) ∧
  (∀ (s : State) (n : Fin 72) (code : Fin 65536), s.prot n = protOn → 4 * 65536 ≤ s.onTime n → s.rd (wCh n) CH_OLON.OLON = 0 → Completes (.chCurrentSample n code) s fun t =>
    t.rd (wCh n) CH_CURRENT.CURRENT = min 65535 (code.val * chLsb n) ∧ t.prot n = protOn) ∧
  (∀ (s : State) (n : Fin 72), s.prot n = protOn → s.rd (wCh n) CH_RETRY_CNT.COUNT < s.rd (wCh n) CH_RETRY.LIMIT → Completes (.chShortCircuit n) s fun t =>
    t.prot n = protRetry ∧ t.on (wCh n) CH_STAT.SC = true ∧ OneMore s t (wCh n) CH_FAULTS.COUNT ∧ t.rd (wCh n) CH_CURRENT.CURRENT = 0 ∧
    t.on (wCh n) CH_STATE.OUT = false ∧ EvSet t (wCh n) 0) ∧
  (∀ (s : State) (n : Fin 72), s.prot n = protOn → s.rd (wCh n) CH_RETRY.LIMIT ≤ s.rd (wCh n) CH_RETRY_CNT.COUNT → Completes (.chShortCircuit n) s fun t =>
    t.prot n = protLatched ∧ t.on (wCh n) CH_STAT.SC = true ∧ t.on (wCh n) CH_STAT.LATCHED = true ∧ OneMore s t (wCh n) CH_LATCHES.COUNT ∧
    t.on (wCh n) CH_STATE.OUT = false) ∧
  (∀ (s : State) (n : Fin 72) (ma : Fin 65536), s.prot n = protOn → s.rd (wCh n) CH_OC_THR.OC_THR ≠ 0 → s.ocThreshold n < ma.val → s.rd (wCh n) CH_RETRY_CNT.COUNT < s.rd (wCh n) CH_RETRY.LIMIT → Completes (.chOvercurrent n ma) s fun t =>
    t.prot n = protRetry ∧ t.on (wCh n) CH_STAT.OC = true ∧ OneMore s t (wCh n) CH_FAULTS.COUNT) ∧
  (∀ (s : State) (n : Fin 72), s.prot n = protOn ∨ s.prot n = protRetry → Completes (.chThermalTrip n) s fun t =>
    t.prot n = protTherm ∧ t.on (wCh n) CH_STAT.THERM = true ∧ OneMore s t (wCh n) CH_THERMS.COUNT ∧ t.on (wCh n) CH_STATE.OUT = false) ∧
  (∀ (s : State) (n : Fin 72), s.prot n = protTherm → s.chWanted n = true → s.rd (wCh n) CH_RETRY_CNT.COUNT < s.rd (wCh n) CH_RETRY.LIMIT → Completes (.chThermalLatchClear n) s fun t =>
    t.prot n = protOn ∧ t.rd (wCh n) CH_RETRY_CNT.COUNT = (s.rd (wCh n) CH_RETRY_CNT.COUNT + 1) % 256 ∧ OneMore s t (wCh n) CH_RETRIES.COUNT) ∧
  (∀ (s : State) (n : Fin 72), s.prot n = protRetry → s.chWanted n = true → Completes (.chRetryDelayElapsed n) s fun t =>
    t.prot n = protOn ∧ OneMore s t (wCh n) CH_RETRIES.COUNT ∧ (t.chan n).onSince = s.clk) ∧
  (∀ (s : State) (n : Fin 72), s.prot n = protOn → Completes (.chFaultFreeSecond n) s fun t =>
    t.rd (wCh n) CH_RETRY_CNT.COUNT = 0 ∧ t.prot n = protOn ∧ t.body = s.body) ∧
  (∀ (s : State) (init : Initiator) (n : Fin 72), CmdOpen s init (wCh n) CH_CMD.CLEAR → s.prot n = protLatched → Completes (.chClear init n) s fun t =>
    t.prot n = protOff ∧ t.rd (wCh n) CH_RETRY_CNT.COUNT = 0 ∧ t.body = s.body) ∧
  (∀ (s : State) (init : Initiator) (n : Fin 72), CmdOpen s init (wCh n) CH_CMD.DIAG → s.chTestable n = true → Completes (.chDiagCmd init n) s fun t =>
    t.on (wCh n) CH_CMD.DIAG = true ∧ (t.chan (testUnit n)).testing = true ∧ t.prot n = protOff) ∧
  (∀ (s : State) (n : Fin 72), s.chTestable n = true → Completes (.chOffStateTest n) s fun t =>
    (t.chan (testUnit n)).testing = true ∧ t.regs = s.regs) ∧
  (∀ (s : State) (n : Fin 72) (v1 v2 : Fin 65536), isHalf n = false → (s.chan n).testing = true → s.prot n = protOff → Completes (.chOffTestComplete n v1 v2) s fun t =>
    (t.chan n).testing = false ∧ t.rd (wCh n) CH_DIAG.RESULT = offResult false (s.on (wCh n) CH_CFG.LS) v1 v2 ∧ t.on (wCh n) CH_CMD.DIAG = false) ∧
  (∀ (s : State) (n : Fin 72) (code : Fin 65536), s.prot n = protOn → 4 * 65536 ≤ s.onTime n → min 65535 (code.val * chLsb n) < s.rd (wCh n) CH_OLON.OLON → (s.chan n).low = 7 → Completes (.chCurrentSample n code) s fun t =>
    t.rd (wCh n) CH_DIAG.RESULT = 2 ∧ t.on (wCh n) CH_STAT.OPEN_ON = true ∧ (t.chan n).low = 8) ∧
  (∀ (s : State) (n : Fin 72) (code : Fin 65536), s.prot n ≠ protOn ∨ s.onTime n < 4 * 65536 → s.fedBy 1 n = [] → Quiet (.chCurrentSample n code) s) ∧
  (∀ (s : State) (n : Fin 72), isHalf n = false → s.prot n ≠ protOn → Quiet (.chShortCircuit n) s) ∧
  (∀ (s : State) (n : Fin 72) (ma : Fin 65536), s.rd (wCh n) CH_OC_THR.OC_THR = 0 ∨ ma.val ≤ s.ocThreshold n → Quiet (.chOvercurrent n ma) s) ∧
  (∀ (s : State) (n : Fin 72), isHalf n = false → s.prot n = protOff ∨ s.prot n = protLatched → Completes (.chThermalTrip n) s fun t =>
    (t.chan n).hot = true ∧ t.regs = s.regs ∧ t.prot n = s.prot n) ∧
  (∀ (s : State) (n : Fin 72), s.prot n = protTherm → s.rd (wCh n) CH_RETRY.LIMIT ≤ s.rd (wCh n) CH_RETRY_CNT.COUNT → Completes (.chThermalLatchClear n) s fun t =>
    t.prot n = protLatched ∧ t.on (wCh n) CH_STAT.LATCHED = true ∧ OneMore s t (wCh n) CH_LATCHES.COUNT) ∧
  (∀ (s : State) (n : Fin 72), s.prot n = protTherm → s.chWanted n = false → s.rd (wCh n) CH_RETRY_CNT.COUNT < s.rd (wCh n) CH_RETRY.LIMIT → Completes (.chThermalLatchClear n) s fun t =>
    t.prot n = protOff ∧ (t.chan n).hot = false) ∧
  (∀ (s : State) (n : Fin 72), s.prot n = protRetry → s.chWanted n = false → Completes (.chRetryDelayElapsed n) s fun t =>
    t.prot n = protOff) ∧
  (∀ (s : State) (n : Fin 72), s.prot n ≠ protRetry → Quiet (.chRetryDelayElapsed n) s) ∧
  (∀ (s : State) (n : Fin 72), s.prot n ≠ protOn → Quiet (.chFaultFreeSecond n) s) ∧
  (∀ (s : State) (init : Initiator) (n : Fin 72), CmdOpen s init (wCh n) CH_CMD.CLEAR → s.prot n ≠ protLatched → Completes (.chClear init n) s fun t =>
    t.prot n = s.prot n ∧ t.rd (wCh n) CH_RETRY_CNT.COUNT = s.rd (wCh n) CH_RETRY_CNT.COUNT ∧ t.body = s.body) ∧
  (∀ (s : State) (n : Fin 72), s.chTestable n = false → Quiet (.chOffStateTest n) s) ∧
  (∀ (s : State) (init : Initiator) (n : Fin 72), CmdOpen s init (wCh n) CH_CMD.DIAG → s.chTestable n = false → Completes (.chDiagCmd init n) s fun t =>
    t.on (wCh n) CH_CMD.DIAG = false ∧ t.body = s.body) ∧
  (∀ (s : State) (n : Fin 12) (v1 v2 : Fin 65536), (s.chan (testUnit n)).testing = true → s.prot (2 * (n / 2)) = protOff → s.prot (2 * (n / 2) + 1) = protOff → Completes (.chOffTestComplete ⟨n.val, by omega⟩ v1 v2) s fun t =>
    (t.chan (testUnit n)).testing = false ∧ t.rd (wCh (2 * (n / 2))) CH_DIAG.RESULT = offResult true (s.on (wCh n) CH_CFG.LS) v1 v2 ∧
    t.rd (wCh (2 * (n / 2) + 1)) CH_DIAG.RESULT = offResult true (s.on (wCh n) CH_CFG.LS) v1 v2 ∧ t.on (wCh n) CH_CMD.DIAG = false) ∧
  (∀ (s : State) (n : Fin 72) (v1 v2 : Fin 65536), (s.chan (testUnit n)).testing = false → Quiet (.chOffTestComplete n v1 v2) s)

/-- For each command the next state holds what is named here. R324 to R326: a mode of 0 to 4 written to a bridge that no engine owns is stored, both halves read on but in mode 0, only switches that the new mode uses stay on, and the dead time runs unless these are all; 5 to 7 store 0 with every switch off; with ME_OWN 1 another mode is refused. The dead time's end turns on the mode's switches, and OUT of a half in ON follows its switches; with none running nothing happens. R333: the update takes the slug's temperature and gives each die its loss and TJ. R334: a derating step of a die that derates lowers DER of the channels of the set by one, with their event, and no other; of another die nothing happens. A restoring step of a die below TJ_DER - HYST, whose raised loss ALLOT allows, raises DER of the channels of its set by one, with their event, and no other; at or above that temperature nothing happens. R336: RESUME by MP ends the hold timer and takes HOLD to NORMAL everywhere; by another initiator it is refused with VIOL; the hold timer's end sets HOLD_EXP and takes HOLD to LIMP where LIMP_EN is 1, else to FAILOFF; with no timer running nothing happens. -/
def Obligations.BridgesAndThermalComplete : Prop :=
  (∀ (s : State) (init : Initiator) (k : Fin 6) (m : Fin 5), WriteOpen s init (wHB k) 0x140 → s.on (wHB k) HB_CTRL.ME_OWN = false → Completes (.hbModeChange init k ⟨m.val, by omega⟩) s fun t =>
    t.rd (wHB k) HB_CTRL.MODE = m.val ∧ t.chOn (2 * k) = (m != 0) ∧ t.chOn (2 * k + 1) = (m != 0) ∧
    look t.body.hbDead k false = (t.hbTarget k != t.hbSwitches k) ∧ t.hbSwitches k &&& t.hbTarget k = t.hbSwitches k) ∧
  (∀ (s : State) (k : Fin 6), look s.body.hbDead k false = true → Completes (.hbDeadTimeEnd k) s fun t =>
    t.hbSwitches k = s.hbTarget k ∧ look t.body.hbDead k false = false ∧
    t.on (wCh (2 * k)) CH_STATE.OUT = (s.prot (2 * k) == protOn && s.hbTarget k &&& halfMask 0 != 0) ∧
    t.on (wCh (2 * k + 1)) CH_STATE.OUT = (s.prot (2 * k + 1) == protOn && s.hbTarget k &&& halfMask 1 != 0)) ∧
  (∀ (s : State) (slug : BitVec 16) (k : Fin 6), Completes (.thermUpdate slug) s fun t =>
    t.rd wTherm THERM_SLUG.SLUG = slug.toNat ∧ (t.die k).loss = s.dieLoss k (fun _ => false) ∧
    t.rd (wPS k) PS_TJ.TJ = ofSigned ((t.die k).temp / 100000) 16) ∧
  (∀ (s : State) (k : Fin 6) (n : Fin 72), s.on (wPS k) PS_STATE.DER = true → (s.derateSet k).contains n.val = true → Completes (.thermDerateStep k) s fun t =>
    t.derOf n = s.derOf n - 1 ∧ EvSet t (wCh n) 3 ∧ ∀ m : Fin 72, (s.derateSet k).contains m.val = false → t.derOf m = s.derOf m) ∧
  (∀ (s : State) (k : Fin 6) (n : Fin 72), (s.die k).temp < ((s.rd wTherm THERM_CFG.TJ_DER : Int) - (max 1 (s.rd wTherm THERM_CFG.HYST) : Nat)) * 1000000 → s.dieLoss k (s.restoreSet k).contains ≤ s.allot k * 1000000000 → (s.restoreSet k).contains n.val = true → Completes (.thermRestoreStep k) s fun t =>
    t.derOf n = s.derOf n + 1 ∧ EvSet t (wCh n) 3 ∧ ∀ m : Fin 72, (s.restoreSet k).contains m.val = false → t.derOf m = s.derOf m) ∧
  (∀ (s : State), CmdOpen s .mp wChannels CHG_CTRL.RESUME → Completes (.chgResume .mp) s fun t =>
    t.on wChannels CHG_STAT.HOLDING = false ∧ t.body.holdRun = false ∧ ∀ n : Fin 72, s.ctrl n = ctrlHold → t.ctrl n = ctrlNormal) ∧
  (∀ (s : State) (init : Initiator), CmdOpen s init wChannels CHG_CTRL.RESUME → init ≠ .mp → Completes (.chgResume init) s fun t =>
    t.body = s.body ∧ t.on wChannels UNIT_STICKY.VIOL = true) ∧
  (∀ (s : State), s.body.holdRun = true → Completes .holdMaxExpiry s fun t =>
    t.on wChannels CHG_STAT.HOLDING = false ∧ t.body.holdRun = false ∧ t.on wChannels CHG_STAT.HOLD_EXP = true ∧
    ∀ n : Fin 72, s.ctrl n = ctrlHold → t.ctrl n = if s.on (wCh n) CH_LIMP.LIMP_EN then ctrlLimp else ctrlFailoff) ∧
  (∀ (s : State) (init : Initiator) (k : Fin 6) (m : Fin 3), WriteOpen s init (wHB k) 0x140 → s.on (wHB k) HB_CTRL.ME_OWN = false → Completes (.hbModeChange init k ⟨m.val + 5, by omega⟩) s fun t =>
    t.rd (wHB k) HB_CTRL.MODE = 0 ∧ t.hbSwitches k = 0) ∧
  (∀ (s : State) (init : Initiator) (k : Fin 6) (m : Fin 8), WriteOpen s init (wHB k) 0x140 → s.on (wHB k) HB_CTRL.ME_OWN = true → m.val ≠ s.rd (wHB k) HB_CTRL.MODE → Completes (.hbModeChange init k m) s fun t =>
    t.rd (wHB k) HB_CTRL.MODE = s.rd (wHB k) HB_CTRL.MODE ∧ t.body = s.body) ∧
  (∀ (s : State) (k : Fin 6), look s.body.hbDead k false = false → Quiet (.hbDeadTimeEnd k) s) ∧
  (∀ (s : State) (k : Fin 6), s.on (wPS k) PS_STATE.DER = false → Quiet (.thermDerateStep k) s) ∧
  (∀ (s : State) (k : Fin 6), ((s.rd wTherm THERM_CFG.TJ_DER : Int) - (max 1 (s.rd wTherm THERM_CFG.HYST) : Nat)) * 1000000 ≤ (s.die k).temp → Quiet (.thermRestoreStep k) s) ∧
  (∀ (s : State), s.body.holdRun = false → Quiet .holdMaxExpiry s)

/-- For each command the next state holds what is named here. R348: EN takes an OFF engine with fit inputs to IDLE and gives it its free bridge; EN cleared in IDLE takes both back; in DRIVE it is refused. R352: with the engine idle, its bridge in NORMAL or HOLD, mode 2 drives forward to SPEED_A, and a target away by more than TOL and BRK_DIST toward it; a target within TOL ends DONE at once; mode 0 in DRIVE brakes with STOPPED; modes 5 to 7 are refused. R353: SETPOS in IDLE takes REF_POS and NORM; elsewhere it is refused. R349: a ramp step of DRIVE counts a millisecond and gives the half its duty, of the ramp or, the ramp done, the target; outside a drive it keeps the supply alone. R350: in continuous DRIVE a crossing counts one step in direction, an early one is discarded and counted, and an inserted one counts both; no ripple counting, no crossing or a speed below 50 counts/s: nothing, where no signal is fed. R351: an edge of a Hall pair in IDLE counts in its direction and gives the speed; an OFF engine, TRACK 0 or inputs not in MODE 2: nothing. R353: an end stop after blanking, without REF_EN, brakes with ENDSTOP, counted, with STALL; detection off or no drive: nothing. R355, R356: a force outside DRIVE, and in blanking, where the samples grow, reads 0; above the limit in the zone it starts REVERSE, braking, with PINCH and its count. REV_BRK's end drives the other way; PARK_TO in a park brakes with its bit; out of these states both do nothing. A settled BRAKE of a park that is done ends it: IDLE, DONE, its event, bridge FREE; in IDLE and OFF it clears SPEED, in a drive nothing. -/
def Obligations.MotionEnginesComplete : Prop :=
  (∀ (s : State) (init : Initiator) (k : Fin 6), WriteOpen s init (wME k) 0x140 → s.isSafe (wME k) = false → s.meState k = meOff → s.on (wME k) ME_CFG.EN = false → s.meBadInputs k = false → Completes (.meEnable init k true) s fun t =>
    t.meState k = meIdle ∧ t.on (wME k) ME_CFG.EN = true ∧ t.on (wHB k) HB_CTRL.ME_OWN = true ∧ t.rd (wHB k) HB_CTRL.MODE = 0) ∧
  (∀ (s : State) (init : Initiator) (k : Fin 6), WriteOpen s init (wME k) 0x180 → s.isSafe (wME k) = false → s.meState k = meIdle → s.meMayDrive k = true → Completes (.meModeWrite init k 2) s fun t =>
    t.meState k = meDrive ∧ t.rd (wME k) ME_MODE.MODE = 2 ∧ (t.me k).cmd = some (.run 2) ∧ t.rd (wME k) ME_STATE.DIRN = 0 ∧
    t.rd (wHB k) HB_CTRL.MODE = 1 ∧ (t.me k).target = s.rd (wME k) ME_SPEED_A.SPEED_A) ∧
  (∀ (s : State) (init : Initiator) (k : Fin 6) (x : BitVec 32), WriteOpen s init (wME k) 0x187 → s.isSafe (wME k) = false → s.meState k = meIdle → s.meMayDrive k = true → s.rd (wME k) ME_TOL.TOL < (x.toInt - s.mePos k).natAbs → s.rd (wME k) ME_BRK.BRK_DIST < (x.toInt - s.mePos k).natAbs → Completes (.meTargetWrite init k x) s fun t =>
    t.meState k = meDrive ∧ (t.me k).cmd = some (.move x.toInt) ∧ t.rd (wME k) ME_TARGET.TARGET = x.toNat ∧
    t.rd (wME k) ME_STATE.DIRN = (if x.toInt < s.mePos k then 1 else 0)) ∧
  (∀ (s : State) (init : Initiator) (k : Fin 6), CmdOpen s init (wME k) ME_CTRL.SETPOS → s.meState k = meIdle → Completes (.meSetpos init k) s fun t =>
    t.mePos k = toSigned (s.rd (wME k) ME_REF_POS.REF_POS) 32 ∧ t.on (wME k) ME_STATE.NORM = true ∧ t.meState k = meIdle) ∧
  (∀ (s : State) (k : Fin 6) (volt : Fin 65536), s.meState k = meDrive → (s.me k).ramped = false → Completes (.meRampStep k volt) s fun t =>
    (t.me k).ms = (s.me k).ms + 1 ∧ (t.me k).volt = volt.val ∧
    t.rd (wCh (s.meHalf k)) CH_DUTY.DUTY = meDuty (s.on (wME k) ME_CFG.COMP) (rampDuty (s.rd (wME k) ME_START.START) (s.me k).target (s.rd (wME k) ME_RAMP.RAMP) ((s.me k).ms + 1)) volt.val % 65536) ∧
  (∀ (s : State) (k : Fin 6) (us : Fin 65536) (volt : BitVec 16) (i : BitVec 32), s.rd (wME k) ME_CFG.TRACK = 0 → s.meState k = meDrive → (s.me k).cmd = some (.run 2) → 1000000 * emfUnit ≤ 2 * us.val * s.meEmf k volt.toNat i.toInt → -2147483648 < s.mePos k → s.mePos k < 2147483647 → Completes (.meRippleSample k us volt i true) s fun t =>
    t.mePos k = (if s.rd (wME k) ME_STATE.DIRN = 0 then s.mePos k + 1 else s.mePos k - 1) ∧ t.meState k = meDrive ∧
    t.rd (wME k) ME_DISCARDED.COUNT = s.rd (wME k) ME_DISCARDED.COUNT) ∧
  (∀ (s : State) (k : Fin 6) (us : Fin 65536) (volt : BitVec 16) (i : BitVec 32), s.rd (wME k) ME_CFG.TRACK = 0 → s.meState k = meDrive → 2 * us.val * s.meEmf k volt.toNat i.toInt < 1000000 * emfUnit → Completes (.meRippleSample k us volt i true) s fun t =>
    t.mePos k = s.mePos k ∧ OneMore s t (wME k) ME_DISCARDED.COUNT ∧ t.on (wME k) ME_STAT.RIPPLE = true ∧ t.body = s.body) ∧
  (∀ (s : State) (k : Fin 6) (us : Fin 65536) (volt : BitVec 16) (i : BitVec 32), s.rd (wME k) ME_CFG.TRACK = 0 → s.meState k = meDrive → (s.me k).cmd = some (.run 2) → 50 * emfUnit ≤ s.meEmf k volt.toNat i.toInt → -2147483648 < s.mePos k → s.mePos k < 2147483647 → Completes (.meRippleInsert k us volt i) s fun t =>
    t.mePos k = (if s.rd (wME k) ME_STATE.DIRN = 0 then s.mePos k + 1 else s.mePos k - 1) ∧ OneMore s t (wME k) ME_INSERTED.COUNT ∧
    t.on (wME k) ME_STAT.RIPPLE = true) ∧
  (∀ (s : State) (k : Fin 6) (us : Fin 65536) (up' : Bool), s.rd (wME k) ME_CFG.TRACK = 2 → s.meState k = meIdle → -2147483648 < s.mePos k → s.mePos k < 2147483647 → 40 ≤ us.val → s.meBadInputs k = false → Completes (.meHallEdge k us up') s fun t =>
    t.mePos k = (if up' then s.mePos k + 1 else s.mePos k - 1) ∧ toSigned (t.rd (wME k) ME_SPEED.SPEED) 16 = (if up' then 1 else -1) * (1000000 / us.val : Nat)) ∧
  (∀ (s : State) (k : Fin 6), s.rd (wME k) ME_STALL_MS.STALL_MS ≠ 0 → s.meState k = meDrive → 2 * s.rd (wME k) ME_BLANK.BLANK ≤ (s.me k).ms → s.on (wME k) ME_CFG.REF_EN = false → Completes (.meEndStop k) s fun t =>
    t.meState k = meBrake ∧ (t.me k).result = resEndstop ∧ OneMore s t (wME k) ME_STALLS.COUNT ∧ t.on (wME k) ME_STAT.STALL = true ∧
    t.rd (wHB k) HB_CTRL.MODE = 3) ∧
  (∀ (s : State) (k : Fin 6) (ma : Fin 65536), s.meState k ≠ meDrive → Completes (.meForceEstimate k ma) s fun t =>
    t.rd (wME k) ME_FORCE.FORCE = 0 ∧ t.meState k = s.meState k) ∧
  (∀ (s : State) (k : Fin 6) (ma : Fin 65536), s.meState k = meDrive → s.meEstimates k = true → max 1 (s.rd (wME k) ME_PINCH_LIM.F_LIM) * 1000 * max 1 (s.rd (wME k) ME_PINCH_WIN.BASE_WIN) < forceScaled (s.rd (wME k) ME_PINCH_K.KI) (s.rd (wME k) ME_PINCH_K.KS) (max 1 (s.rd (wME k) ME_PINCH_WIN.BASE_WIN)) ma.val (toSigned (s.rd (wME k) ME_SPEED.SPEED) 16).natAbs (s.me k).samples → s.meInZone k = true → s.rd (wME k) ME_REV.REV_BRK ≠ 0 → Completes (.meForceEstimate k ma) s fun t =>
    t.meState k = meReverse ∧ t.on (wME k) ME_STAT.PINCH = true ∧ OneMore s t (wME k) ME_PINCHES.COUNT ∧ (t.me k).revBrake = true ∧
    t.rd (wHB k) HB_CTRL.MODE = 3) ∧
  (∀ (s : State) (k : Fin 6), s.meState k = meReverse → (s.me k).revBrake = true → s.rd (wME k) ME_REV_DIST.REV_DIST ≠ 0 → Completes (.meReverseBrakeEnd k) s fun t =>
    t.meState k = meReverse ∧ (t.me k).revBrake = false ∧ (t.me k).revFrom = s.mePos k ∧ (s.rd (wME k) ME_STATE.DIRN ≤ 1 → t.rd (wME k) ME_STATE.DIRN = 1 - s.rd (wME k) ME_STATE.DIRN)) ∧
  (∀ (s : State) (k : Fin 6), s.meState k = meDrive → s.rd (wME k) ME_PARK_TO.PARK_TO ≠ 0 → (s.me k).cmd = some .park → Completes (.meParkTimeout k) s fun t =>
    t.meState k = meBrake ∧ (t.me k).result = resParkTo ∧ t.on (wME k) ME_STAT.PARK_TO = true) ∧
  (∀ (s : State) (k : Fin 6), s.meState k = meBrake → (s.me k).cmd = some .park → (s.me k).pend = none → (s.me k).result = resDone → Completes (.meSettleElapsed k) s fun t =>
    t.meState k = meIdle ∧ t.rd (wME k) ME_RESULT.RESULT = resDone ∧ (t.me k).cmd = none ∧ EvSet t (wME k) 0 ∧ t.rd (wHB k) HB_CTRL.MODE = 0) ∧
  (∀ (s : State) (init : Initiator) (k : Fin 6), WriteOpen s init (wME k) 0x140 → s.isSafe (wME k) = false → s.meState k = meIdle → s.on (wME k) ME_CFG.EN = true → Completes (.meEnable init k false) s fun t =>
    t.meState k = meOff ∧ t.on (wME k) ME_CFG.EN = false ∧ t.on (wHB k) HB_CTRL.ME_OWN = false ∧ t.rd (wHB k) HB_CTRL.MODE = 0) ∧
  (∀ (s : State) (init : Initiator) (k : Fin 6), WriteOpen s init (wME k) 0x140 → s.meState k = meDrive → s.on (wME k) ME_CFG.EN = true → Completes (.meEnable init k false) s fun t =>
    t.meState k = meDrive ∧ t.on (wME k) ME_CFG.EN = true ∧ t.body = s.body) ∧
  (∀ (s : State) (init : Initiator) (k : Fin 6), WriteOpen s init (wME k) 0x180 → s.isSafe (wME k) = false → s.meState k = meDrive → Completes (.meModeWrite init k 0) s fun t =>
    t.meState k = meBrake ∧ t.rd (wME k) ME_MODE.MODE = 0 ∧ (t.me k).result = resStopped ∧ t.rd (wHB k) HB_CTRL.MODE = 3) ∧
  (∀ (s : State) (init : Initiator) (k : Fin 6) (m : Fin 3), WriteOpen s init (wME k) 0x180 → Completes (.meModeWrite init k ⟨m.val + 5, by omega⟩) s fun t =>
    t.meState k = s.meState k ∧ t.rd (wME k) ME_MODE.MODE = s.rd (wME k) ME_MODE.MODE ∧ t.body = s.body) ∧
  (∀ (s : State) (init : Initiator) (k : Fin 6) (x : BitVec 32), WriteOpen s init (wME k) 0x187 → s.isSafe (wME k) = false → s.meState k = meIdle → (x.toInt - s.mePos k).natAbs ≤ s.rd (wME k) ME_TOL.TOL → Completes (.meTargetWrite init k x) s fun t =>
    t.meState k = meIdle ∧ t.rd (wME k) ME_RESULT.RESULT = resDone ∧ EvSet t (wME k) 0 ∧ t.rd (wME k) ME_TARGET.TARGET = x.toNat) ∧
  (∀ (s : State) (init : Initiator) (k : Fin 6), CmdOpen s init (wME k) ME_CTRL.SETPOS → s.meState k ≠ meIdle → Completes (.meSetpos init k) s fun t =>
    t.mePos k = s.mePos k ∧ t.rd (wME k) ME_STATE.NORM = s.rd (wME k) ME_STATE.NORM ∧ t.meState k = s.meState k) ∧
  (∀ (s : State) (k : Fin 6) (volt : Fin 65536), s.meState k = meDrive → (s.me k).ramped = true → Completes (.meRampStep k volt) s fun t =>
    t.rd (wCh (s.meHalf k)) CH_DUTY.DUTY = meDuty (s.on (wME k) ME_CFG.COMP) (s.me k).target volt.val % 65536) ∧
  (∀ (s : State) (k : Fin 6) (volt : Fin 65536), s.meState k = meOff ∨ s.meState k = meIdle ∨ s.meState k = meBrake → Completes (.meRampStep k volt) s fun t =>
    t.me k = { s.me k with volt := volt.val } ∧ t.regs = s.regs) ∧
  (∀ (s : State) (k : Fin 6) (us : Fin 65536) (volt : BitVec 16) (i : BitVec 32) (x : Bool), s.fedBy 4 k = [] → s.fedBy 5 k = [] → s.meRipples k = false ∨ x = false → Quiet (.meRippleSample k us volt i x) s) ∧
  (∀ (s : State) (k : Fin 6) (us : Fin 65536) (volt : BitVec 16) (i : BitVec 32), s.fedBy 4 k = [] → s.fedBy 5 k = [] → s.meRipples k = false ∨ s.meEmf k volt.toNat i.toInt < 50 * emfUnit → Quiet (.meRippleInsert k us volt i) s) ∧
  (∀ (s : State) (k : Fin 6) (us : Fin 65536) (up' : Bool), s.fedBy 4 k = [] → s.fedBy 5 k = [] → s.meState k = meOff ∨ s.rd (wME k) ME_CFG.TRACK = 0 ∨ s.meBadInputs k = true → Quiet (.meHallEdge k us up') s) ∧
  (∀ (s : State) (k : Fin 6), s.rd (wME k) ME_STALL_MS.STALL_MS = 0 ∨ (s.meState k ≠ meDrive ∧ s.meState k ≠ meReverse) → Quiet (.meEndStop k) s) ∧
  (∀ (s : State) (k : Fin 6) (ma : Fin 65536), s.meState k = meDrive → s.meEstimates k = false → Completes (.meForceEstimate k ma) s fun t =>
    t.rd (wME k) ME_FORCE.FORCE = 0 ∧ t.meState k = meDrive ∧ (t.me k).samples = (s.me k).samples ++ [(ma.val, (toSigned (s.rd (wME k) ME_SPEED.SPEED) 16).natAbs)]) ∧
  (∀ (s : State) (k : Fin 6), s.meState k ≠ meReverse ∨ (s.me k).revBrake = false → Quiet (.meReverseBrakeEnd k) s) ∧
  (∀ (s : State) (k : Fin 6), s.meState k ≠ meDrive ∨ s.rd (wME k) ME_PARK_TO.PARK_TO = 0 → Quiet (.meParkTimeout k) s) ∧
  (∀ (s : State) (k : Fin 6), s.meState k = meIdle ∨ s.meState k = meOff → Completes (.meSettleElapsed k) s fun t =>
    t.rd (wME k) ME_SPEED.SPEED = 0 ∧ t.meState k = s.meState k ∧ (t.me k).coast = false) ∧
  (∀ (s : State) (k : Fin 6), s.meState k = meDrive ∨ s.meState k = meReverse → Quiet (.meSettleElapsed k) s)

/-- For each command the next state holds what is named here. R340: in RUN or PARTIAL, of a MODE 1 input that is not OFF, the sample that completes DEB samples of the other level changes STATE, is counted and raises event 0; one before leaves STATE and gives RAW and the run. R341: a filtered level of a MODE 2 input that differs changes STATE, counted, with its event, and RAW. A sample or level of an input in another mode, in OFF or in another power state, which feeds no signal, does nothing. R342: in a sensing cycle of PARK an armed input at its reference level keeps it and has its count at 0; the one armed input at the other level for PDEB cycles sets WAKE; out of PARK and DEEP_PARK nothing happens. R345: of an enabled input in RUN or PARTIAL VALUE is the mean of the last 2^AVG codes, or of all there are; with AVG 0 R346's LO and HI and their events are set where VALUE crosses its threshold; a conversion of an input that is off, or in another power state, and feeds no signal, does nothing. -/
def Obligations.InputsComplete : Prop :=
  (∀ (s : State) (n : Fin 64) (high : Bool), s.inputsRun = true → s.unitState (wSW n) ≠ usOff → s.rd (wSW n) SW_CFG.MODE = 1 → s.swActive n high ≠ s.on (wSW n) SW_STATE.STATE → s.rd (wSW n) SW_DEB.DEB ≤ (s.sw n).run + 1 → Completes (.swSample n high) s fun t =>
    t.on (wSW n) SW_STATE.STATE = s.swActive n high ∧ OneMore s t (wSW n) SW_CHANGES.COUNT ∧ EvSet t (wSW n) 0 ∧ (t.sw n).run = 0) ∧
  (∀ (s : State) (n : Fin 64) (high : Bool), s.inputsRun = true → s.unitState (wSW n) ≠ usOff → s.rd (wSW n) SW_CFG.MODE = 1 → s.swActive n high ≠ s.on (wSW n) SW_STATE.STATE → (s.sw n).run + 1 < s.rd (wSW n) SW_DEB.DEB → Completes (.swSample n high) s fun t =>
    t.on (wSW n) SW_STATE.STATE = s.on (wSW n) SW_STATE.STATE ∧ (t.sw n).run = (s.sw n).run + 1 ∧ t.on (wSW n) SW_STATE.RAW = high ∧
    t.rd (wSW n) SW_CHANGES.COUNT = s.rd (wSW n) SW_CHANGES.COUNT) ∧
  (∀ (s : State) (n : Fin 64) (high : Bool), s.inputsRun = true → s.unitState (wSW n) ≠ usOff → s.rd (wSW n) SW_CFG.MODE = 2 → s.swActive n high ≠ s.on (wSW n) SW_STATE.STATE → Completes (.swEdge n high) s fun t =>
    t.on (wSW n) SW_STATE.STATE = s.swActive n high ∧ OneMore s t (wSW n) SW_CHANGES.COUNT ∧ EvSet t (wSW n) 0 ∧ t.on (wSW n) SW_STATE.RAW = high) ∧
  (∀ (s : State) (n : Fin 64) (levels : BitVec 64), s.pwr.state = .park → s.swArmed n = true → s.swActive n (bit levels.toNat n) = (s.sw n).ref → Completes (.cyclicSenseCycle levels) s fun t =>
    (t.sw n).diff = 0 ∧ (t.sw n).ref = (s.sw n).ref) ∧
  (∀ (s : State) (n : Fin 64) (levels : BitVec 64), s.pwr.state = .park → s.body.sw = [(n.val, s.sw n)] → s.swArmed n = true → s.swActive n (bit levels.toNat n) ≠ (s.sw n).ref → s.rd wInputs INP_PARK_DEB.PDEB ≤ (s.sw n).diff + 1 → Completes (.cyclicSenseCycle levels) s fun t =>
    t.on (wSW n) SW_STAT.WAKE = true) ∧
  (∀ (s : State) (n : Fin 16) (mv : BitVec 16), s.inputsRun = true → s.unitState (wAN n) ≠ usOff → s.on (wAN n) AN_CFG.EN = true → Completes (.anConversion n mv) s fun t =>
    t.rd (wAN n) AN_VALUE.VALUE = (((s.anCode n mv.toNat :: (s.an n).conv).take (2 ^ s.rd (wAN n) AN_CFG.AVG)).sum / ((s.anCode n mv.toNat :: (s.an n).conv).take (2 ^ s.rd (wAN n) AN_CFG.AVG)).length) % 4096 ∧
    (t.an n).conv = (s.anCode n mv.toNat :: (s.an n).conv).take (2 ^ s.rd (wAN n) AN_CFG.AVG)) ∧
  (∀ (s : State) (n : Fin 64) (high : Bool), s.fedBy 2 n = [] → s.inputsRun = false ∨ s.unitState (wSW n) = usOff ∨ s.rd (wSW n) SW_CFG.MODE ≠ 1 → Quiet (.swSample n high) s) ∧
  (∀ (s : State) (n : Fin 64) (high : Bool), s.fedBy 2 n = [] → s.inputsRun = false ∨ s.unitState (wSW n) = usOff ∨ s.rd (wSW n) SW_CFG.MODE ≠ 2 → Quiet (.swEdge n high) s) ∧
  (∀ (s : State) (n : Fin 16) (mv : BitVec 16), s.fedBy 3 n = [] → s.inputsRun = false ∨ s.unitState (wAN n) = usOff ∨ s.on (wAN n) AN_CFG.EN = false → Quiet (.anConversion n mv) s) ∧
  (∀ (s : State) (n : Fin 16) (mv : BitVec 16), s.inputsRun = true → s.unitState (wAN n) ≠ usOff → s.on (wAN n) AN_CFG.EN = true → s.rd (wAN n) AN_CFG.AVG = 0 → s.anCode n mv.toNat < s.rd (wAN n) AN_LO.LO_THR → s.rd (wAN n) AN_LO.LO_THR ≤ s.rd (wAN n) AN_VALUE.VALUE → Completes (.anConversion n mv) s fun t =>
    t.on (wAN n) AN_STAT.LO = true ∧ EvSet t (wAN n) 0) ∧
  (∀ (s : State) (n : Fin 16) (mv : BitVec 16), s.inputsRun = true → s.unitState (wAN n) ≠ usOff → s.on (wAN n) AN_CFG.EN = true → s.rd (wAN n) AN_CFG.AVG = 0 → s.rd (wAN n) AN_HI.HI_THR < s.anCode n mv.toNat → s.rd (wAN n) AN_VALUE.VALUE ≤ s.rd (wAN n) AN_HI.HI_THR → Completes (.anConversion n mv) s fun t =>
    t.on (wAN n) AN_STAT.HI = true ∧ EvSet t (wAN n) 1) ∧
  (∀ (s : State) (levels : BitVec 64), s.parked = false → Quiet (.cyclicSenseCycle levels) s)

/-- For each command the next state holds what is named here. R361, R368, R372: a wake that the network's detector serves sets its latch bit and event 0, out of PARK and DEEP_PARK starts its hold, as the first of an empty latch gives WK_FIRST, and on CAN counts; where no detector serves it nothing happens. With ARM 2 a good classical frame that matches wakes so; one that does not lowers FEC and wakes nothing; a bad one below the threshold raises FEC and wakes nothing; in another ARM nothing happens. R373: a wake on an undriven WAKE_IO with no earlier pulse, not in BACKUP or OFF, sets bit 44 and event 0; while it is driven, and in those states, nothing happens. The pulse's end in WIO_MODE 1 releases the pin and notes the time; in another mode, the pin as it is to be, it ends the pulse alone. R374: the timer, not 0, in PARK or DEEP_PARK sets bit 46 and event 0, and with PWR routed goes to RUN with cause 7; else nothing. R360: a write of WK_PNC_LOCAL is stored, and a bit it sets sets bit 47; the end of a hold takes the cluster or network out of its list. R363, R369, R370: DELAY of a READY CAN or LIN network ends in SWITCH; of an Ethernet one whose port is UP in SLEEP_REQ with SLEEP 1, the network READY; of one not in READY, or without a running DELAY, nothing happens. R367: the completed switch, with no late request and no go-to-sleep frame to come, gives ASLEEP and event 1; on CAN with a late request AWAKE, transceiver mode 0 and event 2; out of SWITCH nothing happens. -/
def Obligations.WakeSourcesAndNetworksComplete : Prop :=
  (∀ (s : State) (n : Fin 44), s.detects n = true → Completes (.networkWakeDetected n) s fun t =>
    bit (t.rd wWake WK_LATCH.LATCH) n = true ∧ EvSet t wWake 0 ∧
    (s.parked = false → t.wake.netHold.contains n.val = true) ∧
    (s.rd wWake WK_LATCH.LATCH = 0 → t.rd wWake WK_FIRST.SRC = n.val) ∧
    (isCanNet n = true → OneMore s t (wCanT (n.val - 16)) CANT_WUF_WAKES.WUF_WAKES)) ∧
  (∀ (s : State) (n : Fin 44), s.detects n = false → Quiet (.networkWakeDetected n) s) ∧
  (∀ (s : State) (p : Fin 16) (f : WufFrame), s.detects (netOfCan p) = true → s.rd (wCanT p) CANT_ARM.ARM = 2 → f.ok = true → f.classical = true → s.wufMatches p f = true → Completes (.cantWufFrameDecoded p f) s fun t =>
    bit (t.rd wWake WK_LATCH.LATCH) (netOfCan p) = true ∧ EvSet t wWake 0 ∧ OneMore s t (wCanT p) CANT_WUF_WAKES.WUF_WAKES) ∧
  (∀ (s : State) (p : Fin 16) (f : WufFrame), s.detects (netOfCan p) = true → s.rd (wCanT p) CANT_ARM.ARM = 2 → f.ok = true → f.classical = true → s.wufMatches p f = false → Completes (.cantWufFrameDecoded p f) s fun t =>
    t.rd (wCanT p) CANT_FEC.FEC = s.rd (wCanT p) CANT_FEC.FEC - 1 ∧ t.wake = s.wake ∧ t.rd wWake WK_LATCH.LATCH = s.rd wWake WK_LATCH.LATCH) ∧
  (∀ (s : State) (p : Fin 16) (f : WufFrame), s.detects (netOfCan p) = true → s.rd (wCanT p) CANT_ARM.ARM = 2 → f.ok = false → f.classical = true → s.rd (wCanT p) CANT_FEC.FEC < 31 → s.rd (wCanT p) CANT_FEC.FEC < s.rd (wCanT p) CANT_FEC_THR.FEC_THR → Completes (.cantWufFrameDecoded p f) s fun t =>
    t.rd (wCanT p) CANT_FEC.FEC = s.rd (wCanT p) CANT_FEC.FEC + 1 ∧ t.wake = s.wake ∧ t.rd wWake WK_LATCH.LATCH = s.rd wWake WK_LATCH.LATCH) ∧
  (∀ (s : State), s.wioDriven = false → s.wake.wioEnd = none → s.pwr.state ≠ .backup → s.pwr.state ≠ .off → Completes .wakeIoWake s fun t =>
    bit (t.rd wWake WK_LATCH.LATCH) 44 = true ∧ EvSet t wWake 0) ∧
  (∀ (s : State), s.wake.wioPulse = true → s.wake.wioOut = true → s.rd wWake WK_CFG.WIO_MODE = 1 → Completes .wakeIoPulseEnd s fun t =>
    t.wake = { s.wake with wioPulse := false, wioOut := false, wioEnd := some s.clk } ∧ t.outs = [.wakeIo false] ∧ t.regs = s.regs) ∧
  (∀ (s : State), s.wioDriven = s.wake.wioOut → s.rd wWake WK_CFG.WIO_MODE ≠ 1 → Completes .wakeIoPulseEnd s fun t =>
    t.wake = { s.wake with wioPulse := false } ∧ t.outs = [] ∧ t.regs = s.regs) ∧
  (∀ (s : State), s.parked = true → s.rd wWake WK_TIMER.TIMER ≠ 0 → Completes .wkTimerExpiry s fun t =>
    bit (t.rd wWake WK_LATCH.LATCH) 46 = true ∧ EvSet t wWake 0 ∧ (s.on wWake (WK_ROUTE.PWR.elem 46) = true → t.pwr.state = .run ∧ t.pwr.cause = 7)) ∧
  (∀ (s : State) (init : Initiator) (v : BitVec 24), WriteOpen s init wWake 0x156 → Completes (.pncLocalWrite init v) s fun t =>
    t.rd wWake WK_PNC_LOCAL.LOCAL = v.toNat ∧
    (s.rd wWake WK_PNC_LOCAL.LOCAL &&& v.toNat ≠ v.toNat → bit (t.rd wWake WK_LATCH.LATCH) 47 = true)) ∧
  (∀ (s : State) (p : Fin 24), Completes (.pncHoldExpiry (.pnc p)) s fun t =>
    t.wake.pncHold = dropFrom s.wake.pncHold p) ∧
  (∀ (s : State) (n : Fin 44), Completes (.pncHoldExpiry (.net n)) s fun t =>
    t.wake.netHold = dropFrom s.wake.netHold n) ∧
  (∀ (s : State) (n : Fin 44), isEthNet n = false → s.wake.delay.contains n.val = true → s.netState n = nsReady → Completes (.netReadyDelayExpiry n) s fun t =>
    t.netState n = nsSwitch ∧ t.wake.delay.contains n.val = false) ∧
  (∀ (s : State) (n : Fin 44), isEthNet n = true → s.wake.delay.contains n.val = true → s.netState n = nsReady → s.ethState n = ethUp → s.isSafe (wEth n) = false → Completes (.netReadyDelayExpiry n) s fun t =>
    t.ethState n = ethSleepReq ∧ t.on (wEth n) ETH_CTRL.SLEEP = true ∧ t.netState n = nsReady) ∧
  (∀ (s : State) (n : Fin 44), s.netState n = nsSwitch → s.wake.late.contains n.val = false → look s.lin.sleepDue (n - 32) false = false → Completes (.trxSwitchComplete n) s fun t =>
    t.netState n = nsAsleep ∧ EvSet t wWake 1) ∧
  (∀ (s : State) (n : Fin 44), isCanNet n = true → s.netState n = nsSwitch → s.wake.late.contains n.val = true → Completes (.trxSwitchComplete n) s fun t =>
    t.netState n = nsAwake ∧ t.rd (wCanT (n.val - 16)) CANT_MODE.MODE = 0 ∧ t.wake.late.contains n.val = false ∧ EvSet t wWake 2) ∧
  (∀ (s : State), s.wioDriven = true ∨ s.pwr.state = .backup ∨ s.pwr.state = .off → Quiet .wakeIoWake s) ∧
  (∀ (s : State), s.parked = false ∨ s.rd wWake WK_TIMER.TIMER = 0 → Quiet .wkTimerExpiry s) ∧
  (∀ (s : State) (n : Fin 44), s.wake.delay.contains n.val = false ∨ s.netState n ≠ nsReady → Quiet (.netReadyDelayExpiry n) s) ∧
  (∀ (s : State) (n : Fin 44), s.netState n ≠ nsSwitch ∨ (isLinNet n = true ∧ look s.lin.sleepDue (n - 32) false = true) → Quiet (.trxSwitchComplete n) s) ∧
  (∀ (s : State) (p : Fin 16) (f : WufFrame), s.detects (netOfCan p) = false ∨ s.rd (wCanT p) CANT_ARM.ARM ≠ 2 → Quiet (.cantWufFrameDecoded p f) s)

/-- For each command the next state holds what is named here. R365: NM_EN written 1 for a port that talks and has no ring starts it with a message, counted; written 0 it stops the ring. R364, R365: a message on a ring whose port hears, transceiver not in standby or sleep and TEC at most 255 as in every run, counts; with the network AWAKE its sender is present, and a ring message to NODE starts T_TYP; without a ring or hearing nothing happens. R365: T_TYP on a port that talks, AWAKE or READY with no acknowledgement due, sends the ring message with the flags of the state, counted, and the network stays; with one due in READY and T_WBS not 0 the network enters WAIT_SLEEP; not started, or off the bus, nothing happens. T_MAX in AWAKE or READY gives LIMP with its bit, count and event 3; without a ring nothing. T_ERR in LIMP sends a message, counted, and notes whether it carried SLEEP_IND, which is that the network is not wanted; elsewhere nothing. T_WBS in WAIT_SLEEP, and in LIMP after such a message with the network not wanted, gives SWITCH; in AWAKE and READY nothing. R370: the restart of a LIN network that waits for it, in SLEEP, runs WTAB, which has entries; with none waiting nothing happens. -/
def Obligations.NetworkRingComplete : Prop :=
  (∀ (s : State) (init : Initiator) (v : BitVec 64), WriteOpen s init wWake 0x60F → bits v.toNat WK_NM_CFG.NM_EN.hi WK_NM_CFG.NM_EN.lo = 1 → s.rd wWake WK_NM_SEL.PORT < 16 → s.canTalks (s.rd wWake WK_NM_SEL.PORT) = true → s.wake.ring.contains (s.rd wWake WK_NM_SEL.PORT) = false → Completes (.nmEnable init v) s fun t =>
    t.wake.ring.contains (s.rd wWake WK_NM_SEL.PORT) = true ∧
    t.rd wWake NM_TX.COUNT (s.rd wWake WK_NM_SEL.PORT) = satAdd (s.rd wWake NM_TX.COUNT (s.rd wWake WK_NM_SEL.PORT)) 1 NM_TX.COUNT.width ∧
    t.nm (s.rd wWake WK_NM_SEL.PORT) WK_NM_CFG.NM_EN = 1) ∧
  (∀ (s : State) (init : Initiator) (v : BitVec 64), WriteOpen s init wWake 0x60F → bits v.toNat WK_NM_CFG.NM_EN.hi WK_NM_CFG.NM_EN.lo = 0 → s.wake.ring.contains (s.rd wWake WK_NM_SEL.PORT) = true → Completes (.nmEnable init v) s fun t =>
    t.wake.ring.contains (s.rd wWake WK_NM_SEL.PORT) = false ∧ t.nm (s.rd wWake WK_NM_SEL.PORT) WK_NM_CFG.NM_EN = 0) ∧
  (∀ (s : State) (p : Fin 16) (m : NmMsg), s.wake.ring.contains p.val = true → s.hears p = true → s.rd (wCanT p) CANT_MODE.MODE ≤ 1 → s.tec p ≤ 255 → Completes (.nmMessageReceived p m) s fun t =>
    t.rd wWake NM_RX.COUNT p = satAdd (s.rd wWake NM_RX.COUNT p) 1 NM_RX.COUNT.width ∧
    (s.netState (netOfCan p) = nsAwake → bit (t.nm p WK_NM_PRESENT.PRESENT) m.sender = true) ∧
    (s.netState (netOfCan p) = nsAwake → m.ring = true → m.dest.val = s.nm p WK_NM_CFG.NODE → t.wake.tTyp.contains p.val = true)) ∧
  (∀ (s : State) (p : Fin 16) (m : NmMsg), s.wake.ring.contains p.val = false ∨ s.hears p = false ∨ 1 < s.rd (wCanT p) CANT_MODE.MODE → Quiet (.nmMessageReceived p m) s) ∧
  (∀ (s : State) (p : Fin 16), s.wake.tTyp.contains p.val = true → s.canTalks p = true → s.netState (netOfCan p) = nsAwake ∨ s.netState (netOfCan p) = nsReady → s.wake.ackDue.contains p.val = false → Completes (.nmTtypExpiry p) s fun t =>
    t.rd wWake NM_TX.COUNT p = satAdd (s.rd wWake NM_TX.COUNT p) 1 NM_TX.COUNT.width ∧ t.netState (netOfCan p) = s.netState (netOfCan p) ∧
    (t.outs.head?.map fun o => match o with
    | .canFrame x h d => x == p.val && h.id == s.nm p WK_NM_CFG.NM_BASE + s.nm p WK_NM_CFG.NODE && d.getD 1 0 == nmRing + s.indFlag p
    | _ => false) = some true) ∧
  (∀ (s : State) (p : Fin 16), s.wake.tTyp.contains p.val = true → s.canTalks p = true → s.netState (netOfCan p) = nsReady → s.wake.ackDue.contains p.val = true → s.nm p WK_NM_CFG.T_WBS ≠ 0 → Completes (.nmTtypExpiry p) s fun t =>
    t.netState (netOfCan p) = nsWait ∧ t.wake.tTyp.contains p.val = false ∧ t.wake.ackDue.contains p.val = false) ∧
  (∀ (s : State) (p : Fin 16), s.wake.ring.contains p.val = true → s.netState (netOfCan p) = nsAwake ∨ s.netState (netOfCan p) = nsReady → Completes (.nmTmaxTimeout p) s fun t =>
    t.netState (netOfCan p) = nsLimp ∧ t.on wWake WK_STAT.LIMP = true ∧ EvSet t wWake 3 ∧
    t.rd wWake NM_LIMPS.COUNT p = satAdd (s.rd wWake NM_LIMPS.COUNT p) 1 NM_LIMPS.COUNT.width) ∧
  (∀ (s : State) (p : Fin 16), s.wake.ring.contains p.val = true → s.netState (netOfCan p) = nsLimp → s.canTalks p = true → Completes (.nmTerrTimer p) s fun t =>
    t.rd wWake NM_TX.COUNT p = satAdd (s.rd wWake NM_TX.COUNT p) 1 NM_TX.COUNT.width ∧
    t.wake.limpInd.contains p.val = !s.netWanted (netOfCan p) ∧ t.netState (netOfCan p) = nsLimp) ∧
  (∀ (s : State) (p : Fin 16), s.wake.ring.contains p.val = true → s.netState (netOfCan p) = nsWait → Completes (.nmTwbsExpiry p) s fun t =>
    t.netState (netOfCan p) = nsSwitch ∧ t.wake.tTyp.contains p.val = false) ∧
  (∀ (s : State) (p : Fin 12), s.wake.linWake.contains p.val = true → s.linState p = linSleep → s.rd (wLin p) (LIN_TAB.LEN.elem (s.rd wWake (WK_NET.WTAB.elem (netOfLin p)))) ≠ 0 → Completes (.linWakeRestart p) s fun t =>
    t.linState p = linRun ∧ t.rd (wLin p) LIN_SCHED_STAT.CUR = s.rd wWake (WK_NET.WTAB.elem (netOfLin p)) ∧ t.wake.linWake.contains p.val = false) ∧
  (∀ (s : State) (p : Fin 16), s.wake.tTyp.contains p.val = false ∨ s.canTalks p = false → Quiet (.nmTtypExpiry p) s) ∧
  (∀ (s : State) (p : Fin 16), s.wake.ring.contains p.val = false → Quiet (.nmTmaxTimeout p) s) ∧
  (∀ (s : State) (p : Fin 16), s.wake.ring.contains p.val = false ∨ s.netState (netOfCan p) ≠ nsLimp → Quiet (.nmTerrTimer p) s) ∧
  (∀ (s : State) (p : Fin 16), s.wake.ring.contains p.val = true → s.netState (netOfCan p) = nsLimp → s.wake.limpInd.contains p.val = true → s.netWanted (netOfCan p) = false → Completes (.nmTwbsExpiry p) s fun t =>
    t.netState (netOfCan p) = nsSwitch ∧ t.wake.limpInd.contains p.val = false) ∧
  (∀ (s : State) (p : Fin 16), s.wake.ring.contains p.val = false ∨ s.netState (netOfCan p) = nsAwake ∨ s.netState (netOfCan p) = nsReady → Quiet (.nmTwbsExpiry p) s) ∧
  (∀ (s : State) (p : Fin 12), s.wake.linWake.contains p.val = false → Quiet (.linWakeRestart p) s)

/-- For each command the next state holds what is named here. R381, R382: PARK without a TAMPERED mark sets PEND and PARK; where its conditions do not hold nothing else of the power state changes, where they hold the entry is at step 0; with the mark it is refused. CANCEL clears PEND and PARK; with no entry, or nothing pending, the power state stays; of a pending PARK whose entry has not committed it abandons the entry, with ABANDON and event 0 (the model's reading, see the log entry of CANCEL). With PARK_AUTO and the conditions the delay's end begins the entry, with no register changed while no engine runs; else nothing happens. R383: at step 0 with every engine stopped and BIST_EN 0 the entry leads to PARK, or with DEEP to DEEP_PARK, GX off and unpowered, MP stopped and PEND 0; with BIST_EN 1 to the self-tests, GX off, VALID 0 and the power state as it was; at another step, or with an engine running, nothing happens. ME_WAIT at step 0 with an engine running sets ME_FORCED and leaves the step and GX; else nothing. R390, R391: the IX self-test notes its end and result, the memory self-test leads to the GX logic self-test, and that one, the IX test done, to PARK or DEEP_PARK, unpowered, with VALID 1 and a failure recorded; out of their steps the three do nothing. R380: DEEP_AFTER, not 0, takes PARK to DEEP_PARK; else nothing happens. -/
def Obligations.ParkEntryComplete : Prop :=
  (∀ (s : State) (init : Initiator), CmdOpen s init wPwr PWR_CTRL.PARK → s.pwr.tampered = false → (s.parkAllowed && s.parkReady) = false → Completes (.pwrPark init) s fun t =>
    t.on wPwr PWR_STATE.PEND = true ∧ t.on wPwr PWR_CTRL.PARK = true ∧ t.pwr = s.pwr) ∧
  (∀ (s : State) (init : Initiator), CmdOpen s init wPwr PWR_CTRL.PARK → s.parkAllowed = true → s.parkReady = true → Completes (.pwrPark init) s fun t =>
    t.pwr = { s.pwr with entryStep := some 0 } ∧ t.on wPwr PWR_STATE.PEND = true) ∧
  (∀ (s : State) (init : Initiator), CmdOpen s init wPwr PWR_CTRL.PARK → s.pwr.tampered = true → Completes (.pwrPark init) s fun t =>
    t.on wPwr PWR_STATE.PEND = s.on wPwr PWR_STATE.PEND ∧ t.pwr = s.pwr) ∧
  (∀ (s : State) (init : Initiator), CmdOpen s init wPwr PWR_CTRL.CANCEL → s.pwr.entryStep = none ∨ s.on wPwr PWR_STATE.PEND = false → Completes (.pwrCancel init) s fun t =>
    t.on wPwr PWR_STATE.PEND = false ∧ t.on wPwr PWR_CTRL.PARK = false ∧ t.pwr = s.pwr) ∧
  (∀ (s : State), s.on wPwr PWR_CFG.PARK_AUTO = true → s.parkAllowed = true → s.parkReady = true → Completes .parkDelayExpiry s fun t =>
    t.pwr = { s.pwr with entryStep := some 0 } ∧ (s.enginesIdle = true → t.regs = s.regs)) ∧
  (∀ (s : State), s.pwr.entryStep = some 0 → s.enginesIdle = true → s.on wPwr PWR_CFG.BIST_EN = false → Completes .parkEntryBegin s fun t =>
    t.pwr.state = (if s.on wPwr PWR_CFG.DEEP then .deepPark else .park) ∧ t.gxOn = false ∧ t.pins.pwrEn = false ∧ t.pwr.entryStep = none ∧
    t.pwr.mpRun = false ∧ t.on wPwr PWR_STATE.PEND = false) ∧
  (∀ (s : State), s.pwr.entryStep = some 0 → s.enginesIdle = true → s.on wPwr PWR_CFG.BIST_EN = true → Completes .parkEntryBegin s fun t =>
    t.pwr.entryStep = some 5 ∧ t.gxOn = false ∧ t.pwr.state = s.pwr.state ∧ t.on wBist BIST_RESULT.VALID = false) ∧
  (∀ (s : State), s.pwr.entryStep = some 0 → s.enginesIdle = false → Completes .parkMeWaitExpiry s fun t =>
    t.on wPwr PWR_STAT.ME_FORCED = true ∧ t.pwr = s.pwr ∧ t.gxOn = s.gxOn) ∧
  (∀ (s : State) (fail : Bool), s.pwr.entryStep = some 5 ∨ s.pwr.entryStep = some 8 → Completes (.ixSelftestDone fail) s fun t =>
    t.pwr = { s.pwr with ixDone := true, ixFail := fail } ∧ t.regs = s.regs) ∧
  (∀ (s : State) (fails : List MemFail), s.pwr.entryStep = some 5 → Completes (.memorySelftestDone fails) s fun t =>
    t.pwr = { s.pwr with entryStep := some 8, memDone := true, found := fails.map MemFail.asFail } ∧ t.regs = s.regs) ∧
  (∀ (s : State) (fail : Bool), s.pwr.entryStep = some 8 → s.pwr.ixDone = true → Completes (.gxSelftestDone fail) s fun t =>
    t.pwr.state = (if s.pwr.aonDeep then .deepPark else .park) ∧ t.pwr.entryStep = none ∧ t.pins.pwrEn = false ∧ t.pwr.gxFail = fail ∧
    t.on wBist BIST_RESULT.VALID = true ∧ (fail = true → t.on wBist BIST_RESULT.GX_LOGIC_FAIL = true)) ∧
  (∀ (s : State), s.pwr.state = .park → s.pwr.aonDeepAfter ≠ 0 → Completes .deepAfterExpiry s fun t =>
    t.pwr = { s.pwr with state := .deepPark } ∧ t.pins = s.pins) ∧
  (∀ (s : State) (init : Initiator) (k : Fin 4), CmdOpen s init wPwr PWR_CTRL.CANCEL → s.pwr.entryStep = some k.val → s.on wPwr PWR_STATE.PEND = true → Completes (.pwrCancel init) s fun t =>
    t.on wPwr PWR_STATE.PEND = false ∧ t.pwr = { s.pwr with entryStep := none } ∧ t.on wPwr PWR_STAT.ABANDON = true ∧ EvSet t wPwr 0) ∧
  (∀ (s : State), s.on wPwr PWR_CFG.PARK_AUTO = false ∨ s.parkAllowed = false ∨ s.parkReady = false → Quiet .parkDelayExpiry s) ∧
  (∀ (s : State), s.pwr.entryStep ≠ some 0 ∨ s.enginesIdle = false → Quiet .parkEntryBegin s) ∧
  (∀ (s : State), s.pwr.entryStep ≠ some 0 ∨ s.enginesIdle = true → Quiet .parkMeWaitExpiry s) ∧
  (∀ (s : State) (fail : Bool), s.pwr.entryStep = none → Quiet (.ixSelftestDone fail) s) ∧
  (∀ (s : State) (fails : List MemFail), s.pwr.entryStep ≠ some 5 → Quiet (.memorySelftestDone fails) s) ∧
  (∀ (s : State) (fail : Bool), s.pwr.entryStep ≠ some 8 ∨ s.pwr.ixDone = false → Quiet (.gxSelftestDone fail) s) ∧
  (∀ (s : State), s.pwr.state ≠ .park ∨ s.pwr.aonDeepAfter = 0 → Quiet .deepAfterExpiry s)

/-- For each command the next state holds what is named here. R388: the start-up check of a cold start at stage 0 leads to stage 1 with its event, and its known failures are the repair records, counted in MEM_FAILS; with GX off or a warm start nothing happens. R385: SOFT stops GX with exact freshness values, no park entry, every channel in FAILOFF, the MODE strap to be sampled again, and cause SOFT where none was noted. MPWARM, written or from a mismatch while GX runs, stops MP, held, and GX runs on; a mismatch with GX off does nothing. MP restarts from stage 2 on, its ROM not in recovery; while it runs, with GX off or before that stage nothing happens. R460: 0x5A from MP forgets a first expiry; another value, or another initiator, changes nothing of the power state. The watchdog's first expiry stops MP with MPWD, GX running; the second stops GX with MPWD, and cause WDOG 3 where none was noted; with GX off or period 0 nothing happens. R461: the hardware watchdog in RUN and PARTIAL stops GX with HWWD, the strap to be sampled, and cause PIN where none was noted; in other states nothing happens. -/
def Obligations.ResetsAndWatchdogsComplete : Prop :=
  (∀ (s : State) (fails : List MemFail), s.gxOn = true → s.on wPwr PWR_STATE.COLD = true → s.cfg.stage = 0 → Completes (.startupCheckDone fails) s fun t =>
    t.cfg.stage = 1 ∧ EvSet t wPwr 1 ∧ t.pwr.repairs = (fails.map MemFail.asFail).filter (fun f => memKnown f.1) ∧
    t.rd wBist BIST_MEM_FAILS.MEM_FAILS = min 65535 t.pwr.repairs.length) ∧
  (∀ (s : State) (init : Initiator), CmdOpen s init wPwr PWR_CTRL.SOFT → Completes (.softReset init) s fun t =>
    t.gxOn = false ∧ t.pwr.entryStep = none ∧ t.pwr.exact = true ∧ t.pwr.modeDue = true ∧
    (s.pwr.cause = causeNone → t.pwr.cause = causeSoft) ∧ ∀ n : Fin 72, t.rd (wCh n) CH_STATE.CTRL = ctrlFailoff) ∧
  (∀ (s : State), s.gxOn = true → Completes (.mpwarmReset none) s fun t =>
    t.gxOn = true ∧ t.pwr.mpRun = false ∧ t.unitState wMP = usHeld) ∧
  (∀ (s : State) (init : Initiator), CmdOpen s init wPwr PWR_CTRL.MPWARM → Completes (.mpwarmReset (some init)) s fun t =>
    t.gxOn = true ∧ t.pwr.mpRun = false ∧ t.unitState wMP = usHeld) ∧
  (∀ (s : State), s.gxOn = true → s.pwr.mpRun = false → 2 ≤ s.cfg.stage → s.inRom wMP = false → Completes .mpRestart s fun t =>
    t.pwr = { s.pwr with mpRun := true } ∧ t.unitState wMP = usReady) ∧
  (∀ (s : State), WriteOpen s .mp wSup 0x151 → Completes (.wdKick .mp 0x5A) s fun t =>
    t.pwr = { s.pwr with wdFirst := false }) ∧
  (∀ (s : State) (init : Initiator) (v : Byte), WriteOpen s init wSup 0x151 → init ≠ .mp → Completes (.wdKick init v) s fun t =>
    t.pwr = s.pwr ∧ t.pins = { s.pins with irqLow := t.pins.irqLow }) ∧
  (∀ (s : State), s.gxOn = true → s.rd wSup SUP_WD_CFG.WD_PERIOD ≠ 0 → s.pwr.wdFirst = false → Completes .mpWatchdogExpiry s fun t =>
    t.gxOn = true ∧ t.pwr.mpRun = false ∧ t.pwr.wdFirst = true ∧ t.on wSup SUP_WD_STAT.MPWD = true) ∧
  (∀ (s : State), s.gxOn = true → s.rd wSup SUP_WD_CFG.WD_PERIOD ≠ 0 → s.pwr.wdFirst = true → Completes .mpWatchdogExpiry s fun t =>
    t.gxOn = false ∧ t.on wSup SUP_WD_STAT.MPWD = true ∧ (s.pwr.cause = causeNone → t.pwr.cause = causeWdog ∧ t.pwr.wdogCause = 3)) ∧
  (∀ (s : State), s.running = true → Completes .hwWatchdogExpiry s fun t =>
    t.gxOn = false ∧ t.on wSup SUP_WD_STAT.HWWD = true ∧ t.pwr.modeDue = true ∧ (s.pwr.cause = causeNone → t.pwr.cause = causePin)) ∧
  (∀ (s : State), s.running = false → Quiet .hwWatchdogExpiry s) ∧
  (∀ (s : State) (fails : List MemFail), s.gxOn = false ∨ s.on wPwr PWR_STATE.COLD = false → Quiet (.startupCheckDone fails) s) ∧
  (∀ (s : State), s.gxOn = false → Quiet (.mpwarmReset none) s) ∧
  (∀ (s : State), s.gxOn = false ∨ s.pwr.mpRun = true ∨ s.cfg.stage < 2 → Quiet .mpRestart s) ∧
  (∀ (s : State) (v : Byte), WriteOpen s .mp wSup 0x151 → v ≠ 0x5A → Completes (.wdKick .mp v) s fun t =>
    t.pwr = s.pwr) ∧
  (∀ (s : State), s.gxOn = false ∨ s.rd wSup SUP_WD_CFG.WD_PERIOD = 0 → Quiet .mpWatchdogExpiry s)

/-- For each command the next state holds what is named here. R399: a write of TRM_PTR claims a free buffer, or moves the owner's pointer, the trust state as it was; of another's buffer it is refused. A byte written to TRM_DATA by the owner is stored at PTR, one read is that at PTR, not speculative, and PTR moves on; a read by another initiator moves nothing. The lease's end frees a claimed buffer and clears it; a free one nothing happens to. R397 to R402, R409, R410: GO by the owner, none running, of LC_ADVANCE, ROOT_INSTALL, DEBUG_OPEN and HSS_INSTALL runs that OP and clears NV, of DEBUG_CLOSE, and with a length of NONCE and RELEASE, runs it, each with none of its effect yet; ATTEST whose checks pass runs with result 0 and has used its index, with a failing check it runs with that result and uses none; an OP the card does not define runs with result 1; each, by another initiator or while GO is 1, is refused. R401: the end of an operation whose checks failed writes that result, and of an LC_ADVANCE whose write fails 9, and changes nothing else of the trust state; LC_ADVANCE to FIELD gives it; DEBUG_OPEN its level, CLOSE level 0 without a session; NONCE a fresh nonce, a constant of its own, with NV 1; HSS_INSTALL a new key of index 0; RELEASE frees the buffer; ATTEST gives LEN that of its message; each ends with GO 0 and event 0; with none running the trust state and RESULT stay. R412: the session's end closes debug; with no session nothing happens. -/
def Obligations.TrustMessagesComplete : Prop :=
  (∀ (s : State) (init : Initiator) (ptr : Fin 8192), WriteOpen s init wAttest 0x143 → s.trmOwner = 0 ∨ s.trmOwner = init.code → Completes (.trmClaim init ptr) s fun t =>
    t.trmOwner = init.code ∧ t.trmPtr = ptr.val ∧ t.trust = s.trust) ∧
  (∀ (s : State) (init : Initiator) (b : Byte), WriteOpen s init wAttest 0x144 → s.trmOwner = init.code → Completes (.trmDataAccess init (some b) false) s fun t =>
    t.trmByte s.trmPtr = b.toNat ∧ t.trmPtr = (s.trmPtr + 1) % 8192 ∧ t.trmOwner = init.code) ∧
  (∀ (s : State) (init : Initiator), ReadOpen s init wAttest → s.trmOwner = init.code → s.specRead init.code wAttest false = false → Completes (.trmDataAccess init none false) s fun t =>
    t.outs = [.readData init.code [s.trmByte s.trmPtr]] ∧ t.trmPtr = (s.trmPtr + 1) % 8192 ∧ t.trust = s.trust) ∧
  (∀ (s : State), s.trmOwner ≠ 0 → Completes .trmLeaseExpiry s fun t =>
    t.trmOwner = 0 ∧ t.trmPtr = 0 ∧ t.trust.buf = [] ∧ t.trust.run = none) ∧
  (∀ (s : State) (init : Initiator) (ec hs : Bool), WriteOpen s init wAttest 0x140 → s.trmOwner = init.code → s.on wAttest TRM_CMD.GO = false → Completes (.trmLcAdvance init ec hs) s fun t =>
    t.on wAttest TRM_CMD.GO = true ∧ t.on wAttest TRM_NV.NV = false ∧ t.rd wAttest TRM_CMD.OP = opAdvance ∧
    t.trust.run.map (·.op) = some opAdvance ∧ t.trust.otp = s.trust.otp) ∧
  (∀ (s : State) (init : Initiator) (ec hs : Bool) (live : Fin 8), WriteOpen s init wAttest 0x140 → s.trmOwner = init.code → s.on wAttest TRM_CMD.GO = false → Completes (.trmRootInstall init ec hs live) s fun t =>
    t.on wAttest TRM_CMD.GO = true ∧ t.on wAttest TRM_NV.NV = false ∧ t.trust.run.map (·.op) = some opRoot ∧ t.trust.roots = s.trust.roots) ∧
  (∀ (s : State) (init : Initiator) (ec hs : Bool), WriteOpen s init wAttest 0x140 → s.trmOwner = init.code → s.on wAttest TRM_CMD.GO = false → Completes (.trmDebugOpen init ec hs) s fun t =>
    t.on wAttest TRM_CMD.GO = true ∧ t.on wAttest TRM_NV.NV = false ∧ t.trust.run.map (·.op) = some opOpen ∧ t.debugLevel = s.debugLevel) ∧
  (∀ (s : State) (init : Initiator), WriteOpen s init wAttest 0x140 → s.trmOwner = init.code → s.on wAttest TRM_CMD.GO = false → Completes (.trmDebugClose init) s fun t =>
    t.on wAttest TRM_CMD.GO = true ∧ t.trust.run.map (·.op) = some opClose ∧ t.debugLevel = s.debugLevel) ∧
  (∀ (s : State) (init : Initiator) (ec hs : Bool), WriteOpen s init wAttest 0x140 → s.trmOwner = init.code → s.on wAttest TRM_CMD.GO = false → Completes (.trmHssInstall init ec hs) s fun t =>
    t.on wAttest TRM_CMD.GO = true ∧ t.on wAttest TRM_NV.NV = false ∧ t.trust.run.map (·.op) = some opHss ∧ t.trust.hssGen = s.trust.hssGen) ∧
  (∀ (s : State) (init : Initiator), WriteOpen s init wAttest 0x140 → s.trmOwner = init.code → s.on wAttest TRM_CMD.GO = false → s.rd wAttest TRM_LEN.LEN ≠ 0 → Completes (.trmNonce init) s fun t =>
    t.on wAttest TRM_CMD.GO = true ∧ t.trust.run = some ⟨opNonce, [], 0⟩ ∧ t.rd wAttest TRM_NONCE.NONCE = s.rd wAttest TRM_NONCE.NONCE) ∧
  (∀ (s : State) (init : Initiator), WriteOpen s init wAttest 0x140 → s.trmOwner = init.code → s.on wAttest TRM_CMD.GO = false → s.rd wAttest TRM_LEN.LEN ≠ 0 → Completes (.trmRelease init) s fun t =>
    t.on wAttest TRM_CMD.GO = true ∧ t.trust.run = some ⟨opRelease, [], 0⟩ ∧ t.trmOwner = init.code) ∧
  (∀ (s : State) (init : Initiator), WriteOpen s init wAttest 0x140 → s.trmOwner = init.code → s.on wAttest TRM_CMD.GO = false → s.attCheck = 0 → Completes (.trmAttest init) s fun t =>
    t.on wAttest TRM_CMD.GO = true ∧ t.trust.run.map (fun r => (r.op, r.result)) = some (opAttest, 0) ∧
    t.rd wAttest HSS_INDEX.INDEX = s.rd wAttest HSS_INDEX.INDEX + 1 ∧ t.trust.mirror = s.rd wAttest HSS_INDEX.INDEX + 1) ∧
  (∀ (s : State) (init : Initiator), WriteOpen s init wAttest 0x140 → s.trmOwner = init.code → s.on wAttest TRM_CMD.GO = false → s.attCheck ≠ 0 → Completes (.trmAttest init) s fun t =>
    t.on wAttest TRM_CMD.GO = true ∧ t.trust.run = some ⟨opAttest, [], s.attCheck⟩ ∧ t.rd wAttest HSS_INDEX.INDEX = s.rd wAttest HSS_INDEX.INDEX) ∧
  (∀ (s : State) (init : Initiator) (op : Fin 8), WriteOpen s init wAttest 0x140 → s.trmOwner = init.code → s.on wAttest TRM_CMD.GO = false → Completes (.trmBadOp init op) s fun t =>
    t.on wAttest TRM_CMD.GO = true ∧ t.trust.run = some ⟨badOp op, [], 1⟩) ∧
  (∀ (s : State) (b : Bool) (r : TrustRun), s.trust.run = some r → r.result ≠ 0 → Completes (.trustOpComplete b) s fun t =>
    t.trust = { s.trust with run := none } ∧ t.rd wAttest TRM_RESULT.RESULT = r.result % 16 ∧ t.on wAttest TRM_CMD.GO = false ∧ EvSet t wAttest 0) ∧
  (∀ (s : State) (r : TrustRun), s.trust.run = some r → r.op = opAdvance → msgArg r.msg = 2 → r.result = 0 → Completes (.trustOpComplete true) s fun t =>
    t.trust.otp = 2 ∧ t.trust.run = none ∧ t.rd wAttest TRM_RESULT.RESULT = 0 ∧ t.on wAttest TRM_CMD.GO = false ∧ EvSet t wAttest 0) ∧
  (∀ (s : State) (r : TrustRun) (b : Bool), s.trust.run = some r → r.op = opClose → r.result = 0 → Completes (.trustOpComplete b) s fun t =>
    t.debugLevel = 0 ∧ t.trust.service = false ∧ t.trust.session = false ∧ t.trust.run = none ∧ EvSet t wAttest 0) ∧
  (∀ (s : State), s.trust.session = true → Completes .debugSessionExpiry s fun t =>
    t.debugLevel = 0 ∧ t.trust.session = false ∧ t.trust.service = false) ∧
  (∀ (s : State) (init : Initiator) (ec hs : Bool), WriteOpen s init wAttest 0x140 → s.trmOwner ≠ init.code ∨ s.on wAttest TRM_CMD.GO = true → Completes (.trmLcAdvance init ec hs) s fun t =>
    t.trust = s.trust ∧ t.on wAttest TRM_CMD.GO = s.on wAttest TRM_CMD.GO ∧ t.rd wAttest TRM_CMD.OP = s.rd wAttest TRM_CMD.OP) ∧
  (∀ (s : State) (init : Initiator) (ec hs : Bool) (live : Fin 8), WriteOpen s init wAttest 0x140 → s.trmOwner ≠ init.code ∨ s.on wAttest TRM_CMD.GO = true → Completes (.trmRootInstall init ec hs live) s fun t =>
    t.trust = s.trust ∧ t.on wAttest TRM_CMD.GO = s.on wAttest TRM_CMD.GO ∧ t.rd wAttest TRM_CMD.OP = s.rd wAttest TRM_CMD.OP) ∧
  (∀ (s : State) (init : Initiator) (ec hs : Bool), WriteOpen s init wAttest 0x140 → s.trmOwner ≠ init.code ∨ s.on wAttest TRM_CMD.GO = true → Completes (.trmDebugOpen init ec hs) s fun t =>
    t.trust = s.trust ∧ t.on wAttest TRM_CMD.GO = s.on wAttest TRM_CMD.GO ∧ t.rd wAttest TRM_CMD.OP = s.rd wAttest TRM_CMD.OP) ∧
  (∀ (s : State) (init : Initiator), WriteOpen s init wAttest 0x140 → s.trmOwner ≠ init.code ∨ s.on wAttest TRM_CMD.GO = true → Completes (.trmDebugClose init) s fun t =>
    t.trust = s.trust ∧ t.on wAttest TRM_CMD.GO = s.on wAttest TRM_CMD.GO ∧ t.rd wAttest TRM_CMD.OP = s.rd wAttest TRM_CMD.OP) ∧
  (∀ (s : State) (init : Initiator) (ec hs : Bool), WriteOpen s init wAttest 0x140 → s.trmOwner ≠ init.code ∨ s.on wAttest TRM_CMD.GO = true → Completes (.trmHssInstall init ec hs) s fun t =>
    t.trust = s.trust ∧ t.on wAttest TRM_CMD.GO = s.on wAttest TRM_CMD.GO ∧ t.rd wAttest TRM_CMD.OP = s.rd wAttest TRM_CMD.OP) ∧
  (∀ (s : State) (init : Initiator), WriteOpen s init wAttest 0x140 → s.trmOwner ≠ init.code ∨ s.on wAttest TRM_CMD.GO = true → Completes (.trmNonce init) s fun t =>
    t.trust = s.trust ∧ t.on wAttest TRM_CMD.GO = s.on wAttest TRM_CMD.GO ∧ t.rd wAttest TRM_CMD.OP = s.rd wAttest TRM_CMD.OP) ∧
  (∀ (s : State) (init : Initiator), WriteOpen s init wAttest 0x140 → s.trmOwner ≠ init.code ∨ s.on wAttest TRM_CMD.GO = true → Completes (.trmRelease init) s fun t =>
    t.trust = s.trust ∧ t.on wAttest TRM_CMD.GO = s.on wAttest TRM_CMD.GO ∧ t.rd wAttest TRM_CMD.OP = s.rd wAttest TRM_CMD.OP) ∧
  (∀ (s : State) (init : Initiator), WriteOpen s init wAttest 0x140 → s.trmOwner ≠ init.code ∨ s.on wAttest TRM_CMD.GO = true → Completes (.trmAttest init) s fun t =>
    t.trust = s.trust ∧ t.on wAttest TRM_CMD.GO = s.on wAttest TRM_CMD.GO ∧ t.rd wAttest TRM_CMD.OP = s.rd wAttest TRM_CMD.OP) ∧
  (∀ (s : State) (init : Initiator) (op : Fin 8), WriteOpen s init wAttest 0x140 → s.trmOwner ≠ init.code ∨ s.on wAttest TRM_CMD.GO = true → Completes (.trmBadOp init op) s fun t =>
    t.trust = s.trust ∧ t.on wAttest TRM_CMD.GO = s.on wAttest TRM_CMD.GO ∧ t.rd wAttest TRM_CMD.OP = s.rd wAttest TRM_CMD.OP) ∧
  (∀ (s : State) (init : Initiator) (ptr : Fin 8192), WriteOpen s init wAttest 0x143 → s.trmOwner ≠ 0 → s.trmOwner ≠ init.code → Completes (.trmClaim init ptr) s fun t =>
    t.trmOwner = s.trmOwner ∧ t.trmPtr = s.trmPtr ∧ t.trust = s.trust) ∧
  (∀ (s : State) (init : Initiator), ReadOpen s init wAttest → s.trmOwner ≠ init.code → Completes (.trmDataAccess init none false) s fun t =>
    t.trmPtr = s.trmPtr ∧ t.trust = s.trust) ∧
  (∀ (s : State), s.trmOwner = 0 → Quiet .trmLeaseExpiry s) ∧
  (∀ (s : State) (r : TrustRun), s.trust.run = some r → r.op = opOpen → r.result = 0 → msgArg r.msg < 4 → Completes (.trustOpComplete true) s fun t =>
    t.debugLevel = msgArg r.msg ∧ t.trust.run = none ∧ t.on wAttest TRM_CMD.GO = false ∧ EvSet t wAttest 0) ∧
  (∀ (s : State) (r : TrustRun), s.trust.run = some r → r.op = opNonce → r.result = 0 → Completes (.trustOpComplete true) s fun t =>
    t.on wAttest TRM_NV.NV = true ∧ t.rd wAttest TRM_NONCE.NONCE = (Config.random s.draws).toNat % 2 ^ 256 ∧ t.trust.run = none ∧ t.on wAttest TRM_CMD.GO = false ∧ EvSet t wAttest 0) ∧
  (∀ (s : State) (r : TrustRun), s.trust.run = some r → r.op = opHss → r.result = 0 → Completes (.trustOpComplete true) s fun t =>
    t.rd wAttest HSS_STATE.STATE = 1 ∧ t.rd wAttest HSS_INDEX.INDEX = 0 ∧ t.trust.hssGen = s.trust.hssGen + 1 ∧ t.trust.run = none ∧ t.on wAttest TRM_CMD.GO = false ∧ EvSet t wAttest 0) ∧
  (∀ (s : State) (r : TrustRun), s.trust.run = some r → r.op = opRelease → r.result = 0 → Completes (.trustOpComplete true) s fun t =>
    t.trmOwner = 0 ∧ t.trmPtr = 0 ∧ t.trust.buf = [] ∧ t.trust.run = none ∧ t.on wAttest TRM_CMD.GO = false ∧ EvSet t wAttest 0) ∧
  (∀ (s : State) (r : TrustRun), s.trust.run = some r → r.op = opAttest → r.result = 0 → r.msg.length ≤ 8192 → Completes (.trustOpComplete true) s fun t =>
    t.rd wAttest TRM_LEN.LEN = r.msg.length ∧ t.trust.run = none ∧ t.on wAttest TRM_CMD.GO = false ∧ EvSet t wAttest 0) ∧
  (∀ (s : State) (r : TrustRun), s.trust.run = some r → r.op = opAdvance → r.result = 0 → Completes (.trustOpComplete false) s fun t =>
    t.trust = { s.trust with run := none } ∧ t.rd wAttest TRM_RESULT.RESULT = 9 ∧ t.on wAttest TRM_CMD.GO = false ∧ EvSet t wAttest 0) ∧
  (∀ (s : State) (b : Bool), s.trust.run = none → Completes (.trustOpComplete b) s fun t =>
    t.trust = s.trust ∧ t.rd wAttest TRM_RESULT.RESULT = s.rd wAttest TRM_RESULT.RESULT) ∧
  (∀ (s : State), s.trust.session = false → Quiet .debugSessionExpiry s)

/-- For each command the next state holds what is named here. R405: a byte of an empty shadow, not its last, is stored and takes the lease; the last byte of a loading one by its owner starts the unwrap; a byte by another initiator is refused. The unwrap of a slot with REPL 0 ends failed, with REPL_FAIL and event 0, no key changed; of a slot that is not loading, or not in its unwrap, nothing happens. COMMIT by the owner of a verified shadow makes it the key, counts VER and empties the shadow; of one that is not verified it is refused. DISCARD of an empty shadow, or by its owner, empties it and changes no key; by another initiator it is refused. The lease's end empties a shadow and changes no key; of an empty one nothing happens. R406: PERSIST runs; its end with a failed write, or of a slot that cannot be written, sets PERS_FAIL; of one that can it overwrites the older copy with the new blob, whose wrap is a constant of the model; with none running nothing happens. R407, R408: an enabled source, not in OFF, takes the roots, sets TAMPERED, stops GX, notes the first source, and with GX running empties every key; a source that is not enabled, or in OFF, sets its live bit alone. -/
def Obligations.KeySlotsAndTamperComplete : Prop :=
  (∀ (s : State) (init : Initiator) (i : Fin 40) (v : Byte), WriteOpen s init wKS (0x150 + i.val) → s.shState s.ksSel = shEmpty → s.trust.unwrapping.contains s.ksSel = false → s.shLen s.ksSel ≠ i.val + 1 → Completes (.ksShadowWrite init i v) s fun t =>
    t.shState s.ksSel = shLoading ∧ t.shOwner s.ksSel = init.code ∧ look t.trust.shadow (s.ksSel * 64 + i) 0 = v.toNat ∧
    t.trust.unwrapping = s.trust.unwrapping) ∧
  (∀ (s : State) (init : Initiator) (i : Fin 40) (v : Byte), WriteOpen s init wKS (0x150 + i.val) → s.shState s.ksSel = shLoading → s.shOwner s.ksSel = init.code → s.trust.unwrapping.contains s.ksSel = false → s.shLen s.ksSel = i.val + 1 → Completes (.ksShadowWrite init i v) s fun t =>
    look t.trust.shadow (s.ksSel * 64 + i) 0 = v.toNat ∧ t.trust.unwrapping.contains s.ksSel = true ∧ t.shState s.ksSel = shLoading) ∧
  (∀ (s : State) (k : Fin 256), s.shState k = shLoading → s.trust.unwrapping.contains k.val = true → s.on wKS KS_ATTR.REPL k = false → Completes (.ksUnwrapDone k) s fun t =>
    t.shState k = shFailed ∧ t.on wKS KS_STAT.REPL_FAIL = true ∧ EvSet t wKS 0 ∧ t.trust.keys = s.trust.keys) ∧
  (∀ (s : State) (init : Initiator), CmdOpen s init wKS KS_CMD.COMMIT → s.shState s.ksSel = shVerified → s.shOwner s.ksSel = init.code → Completes (.ksCommit init) s fun t =>
    t.key s.ksSel = look s.trust.shKey s.ksSel 0 ∧ t.rd wKS KS_VER.VER s.ksSel = (s.rd wKS KS_VER.VER s.ksSel + 1) % 65536 ∧
    t.shState s.ksSel = shEmpty ∧ t.shOwner s.ksSel = 0) ∧
  (∀ (s : State) (init : Initiator), CmdOpen s init wKS KS_CMD.COMMIT → s.shState s.ksSel ≠ shVerified → Completes (.ksCommit init) s fun t =>
    t.trust = s.trust ∧ t.rd wKS KS_VER.VER s.ksSel = s.rd wKS KS_VER.VER s.ksSel) ∧
  (∀ (s : State) (init : Initiator), CmdOpen s init wKS KS_CMD.DISCARD → s.shState s.ksSel = shEmpty ∨ s.shOwner s.ksSel = init.code → Completes (.ksDiscard init) s fun t =>
    t.shState s.ksSel = shEmpty ∧ t.trust.keys = s.trust.keys ∧ t.trust.unwrapping.contains s.ksSel = false) ∧
  (∀ (s : State) (init : Initiator), CmdOpen s init wKS KS_CMD.PERSIST → Completes (.ksPersist init) s fun t =>
    t.on wKS KS_CMD.PERSIST = true ∧ t.trust = { s.trust with persist := some s.ksSel }) ∧
  (∀ (s : State) (k : Nat), s.trust.persist = some k → Completes (.ksPersistDone false) s fun t =>
    t.on wKS KS_CMD.PERSIST = false ∧ t.on wKS KS_STAT.PERS_FAIL = true ∧ t.trust = { s.trust with persist := none }) ∧
  (∀ (s : State) (k : Nat), s.trust.persist = some k → s.persistable k = true → Completes (.ksPersistDone true) s fun t =>
    t.on wKS KS_CMD.PERSIST = false ∧ t.trust.persist = none ∧
    look t.trust.blobs (look s.trust.blobRec k 0 * 2 + s.olderCopy (look s.trust.blobRec k 0)) [] = s.newBlob k (look s.trust.blobRec k 0)) ∧
  (∀ (s : State) (k : Fin 256), s.shState k ≠ shEmpty → Completes (.ksShadowLeaseExpiry k) s fun t =>
    t.shState k = shEmpty ∧ t.trust.keys = s.trust.keys) ∧
  (∀ (s : State) (k : Fin 3), s.pwr.state ≠ .off → s.on wTamper (tampEn k) = true → Completes (.tamperDetected k) s fun t =>
    t.trust.roots = [] ∧ t.pwr.tampered = true ∧ t.gxOn = false ∧ (s.rd wTamper TAMP_FIRST.SRC = 0 → t.rd wTamper TAMP_FIRST.SRC = k.val + 1) ∧
    (s.gxOn = true → t.trust.keys = [])) ∧
  (∀ (s : State) (k : Fin 3), s.on wTamper (tampEn k) = false → Completes (.tamperDetected k) s fun t =>
    t.on wTamper (tampLive k) = true ∧ t.trust = s.trust ∧ t.pwr = s.pwr) ∧
  (∀ (s : State) (init : Initiator) (i : Fin 40) (v : Byte), WriteOpen s init wKS (0x150 + i.val) → s.shState s.ksSel ≠ shEmpty → s.shOwner s.ksSel ≠ init.code → Completes (.ksShadowWrite init i v) s fun t =>
    t.trust = s.trust ∧ t.shState s.ksSel = s.shState s.ksSel) ∧
  (∀ (s : State) (k : Fin 256), s.shState k ≠ shLoading ∨ s.trust.unwrapping.contains k.val = false → Quiet (.ksUnwrapDone k) s) ∧
  (∀ (s : State) (init : Initiator), CmdOpen s init wKS KS_CMD.DISCARD → s.shState s.ksSel ≠ shEmpty → s.shOwner s.ksSel ≠ init.code → Completes (.ksDiscard init) s fun t =>
    t.shState s.ksSel = s.shState s.ksSel ∧ t.trust = s.trust) ∧
  (∀ (s : State) (ok : Bool), s.trust.persist = none → Quiet (.ksPersistDone ok) s) ∧
  (∀ (s : State) (k : Nat), s.trust.persist = some k → s.persistable k = false → Completes (.ksPersistDone true) s fun t =>
    t.on wKS KS_CMD.PERSIST = false ∧ t.on wKS KS_STAT.PERS_FAIL = true ∧ t.trust = { s.trust with persist := none }) ∧
  (∀ (s : State) (k : Fin 256), s.shState k = shEmpty → Quiet (.ksShadowLeaseExpiry k) s) ∧
  (∀ (s : State) (k : Fin 3), s.pwr.state = .off → Completes (.tamperDetected k) s fun t =>
    t.on wTamper (tampLive k) = true ∧ t.trust = s.trust ∧ t.pwr = s.pwr)

/-- For each command the next state holds what is named here. R418, R419: the oldest block with a bad CRC is dropped, counted, the state as it was; a first block whose package is not acceptable sets STG_REJ with its cause and event 3, counts as dropped and leaves the state forward-only, or idle after an end block; the next block of the stream in its place, written, is stored and counted; the end block in its place leads to VERIFYING. An acknowledgement from downstream ends the one sent block below it, one from another port ends nothing. A sent block that is not acknowledged is sent again, counted, and after the fifth sending its stream is given up. A stream without a block is discarded with STREAM_TO. R419, R420: the check of an image leads to STAGED, or rejects with cause 4, 5 or 6; an image's installation while MP runs to INSTALLED with event 0, or cause 7. R421, R424, R425: CONFIRM by MP on a trial with every entry built commits the bank, with event 1; without a trial, with an entry not built, or by another initiator, it changes nothing. DISCARD of a staged, installed or armed package gives IDLE; ARM of one that may be armed ARMED; CANCEL INSTALLED; in other states, or refused, they change nothing. R423: RECOVER of a named unit reads 1, of none 0. A failed load of a TYPE below 8 leaves its unit in ROM recovery with FW_FAIL; a good one from a bank with the image takes it out, of an Ethernet port with the bank noted; with RECOVER 0, no block, no acknowledgement, nothing forwarded, or in another state, the events do nothing. -/
def Obligations.UpdateStagingComplete : Prop :=
  (∀ (s : State) (b : UpdBlock) (r : List UpdBlock) (ok : Bool), s.upd.inbox = b :: r → blockCrcOk b = false → Completes (.updBlockReceived ok) s fun t =>
    t.upd = { s.upd with inbox := r } ∧ OneMore s t wUpd UPD_BLK_DROP.COUNT ∧ t.stg = s.stg) ∧
  (∀ (s : State) (b : UpdBlock) (r : List UpdBlock) (ok : Bool) (x : Nat), s.upd.inbox = b :: r → blockCrcOk b = true → s.stg = stgIdle → b.blk = 0 → s.packageFault b.kind b.data = some x → x < 16 → Completes (.updBlockReceived ok) s fun t =>
    t.on wUpd UPD_STG_STAT.STG_REJ = true ∧ t.rd wUpd UPD_STG_STAT.CAUSE = x % 8 ∧ EvSet t wUpd 3 ∧ OneMore s t wUpd UPD_BLK_DROP.COUNT ∧
    t.stg = (if b.data = [] then stgIdle else stgForward)) ∧
  (∀ (s : State) (b : UpdBlock) (r : List UpdBlock), s.upd.inbox = b :: r → blockCrcOk b = true → s.stg = stgReceiving → b.stream = s.upd.stream → b.data ≠ [] → b.blk = s.upd.stored → stagedAt (b.blk + 1) ≤ flashEnd → Completes (.updBlockReceived true) s fun t =>
    t.upd.stored = s.upd.stored + 1 ∧ t.stg = stgReceiving ∧ OneMore s t wUpd UPD_BLK_OK.COUNT ∧ t.upd.inbox = r) ∧
  (∀ (s : State) (b : UpdBlock) (r : List UpdBlock) (ok : Bool), s.upd.inbox = b :: r → blockCrcOk b = true → s.stg = stgReceiving → b.stream = s.upd.stream → b.data = [] → b.blk = s.upd.stored → Completes (.updBlockReceived ok) s fun t =>
    t.stg = stgVerifying ∧ t.upd.stored = s.upd.stored ∧ t.upd.inbox = r) ∧
  (∀ (s : State) (n : Fin 16) (k blk : Nat) (r : List (Nat × Nat × Nat)) (x : FwdBlock), s.upd.acks = (n.val, k, blk) :: r → s.downPort = some n.val → s.upd.fwd = [x] → x.block.stream = k → x.block.blk < blk → x.sends ≠ 0 → Completes .updAckReceived s fun t =>
    t.upd.fwd = [] ∧ t.upd.acks = r) ∧
  (∀ (s : State) (n : Fin 16) (k blk : Nat) (r : List (Nat × Nat × Nat)), s.upd.acks = (n.val, k, blk) :: r → s.downPort ≠ some n.val → Completes .updAckReceived s fun t =>
    t.upd = { s.upd with acks := r } ∧ t.regs = s.regs) ∧
  (∀ (s : State) (n : Fin 16) (k : BitVec 16) (blk : BitVec 32) (x : FwdBlock), s.downPort = some n.val → s.upd.fwd = [x] → x.block.stream = k.toNat → x.block.blk = blk.toNat → 1 ≤ x.sends → x.sends ≠ 5 → Completes (.updBlockResend k blk) s fun t =>
    t.upd.fwd = [{ x with sends := x.sends + 1, sentAt := s.clk }]) ∧
  (∀ (s : State) (n : Fin 16) (k : BitVec 16) (blk : BitVec 32) (x : FwdBlock), s.downPort = some n.val → s.upd.fwd = [x] → x.block.stream = k.toNat → x.block.blk = blk.toNat → x.sends = 5 → Completes (.updBlockResend k blk) s fun t =>
    t.upd.fwd = [] ∧ t.upd.dead.contains k.toNat = true ∧ OneMore s t wUpd UPD_BLK_FAIL.COUNT) ∧
  (∀ (s : State), s.stg = stgReceiving → Completes .updStreamTimeout s fun t =>
    t.stg = stgIdle ∧ t.on wUpd UPD_FW_STAT.STREAM_TO = true ∧ t.upd = { s.upd with stored := 0, head := [] }) ∧
  (∀ (s : State) (ec hs digest : Bool), s.stg = stgVerifying → s.upd.kind ≠ 0 → Completes (.updVerifyDone ec hs digest) s fun t =>
    (if ec = false ∨ s.programmed = false then t.stg = stgIdle ∧ t.rd wUpd UPD_STG_STAT.CAUSE = 4
    else if hs = false then t.stg = stgIdle ∧ t.rd wUpd UPD_STG_STAT.CAUSE = 5
    else if digest = false then t.stg = stgIdle ∧ t.rd wUpd UPD_STG_STAT.CAUSE = 6
    else t.stg = stgStaged ∧ t.upd = s.upd)) ∧
  (∀ (s : State) (ok : Bool), s.stg = stgStaged → s.upd.kind ≠ 0 → s.pwr.mpRun = true → Completes (.updInstallDone ok) s fun t =>
    (if ok = true then t.stg = stgInstalled ∧ EvSet t wUpd 0 else t.stg = stgIdle ∧ t.rd wUpd UPD_STG_STAT.CAUSE = 7 ∧ t.on wUpd UPD_STG_STAT.STG_REJ = true)) ∧
  (∀ (s : State), CmdOpen s .mp wUpd UPD_FW_CTRL.CONFIRM → s.onTrial = true → s.allBuilt = true → Completes (.updConfirm .mp) s fun t =>
    t.rd wUpd UPD_FW_STAT.BANK = s.upd.trialBank % 2 ∧ t.on wUpd UPD_FW_STAT.TRIAL = false ∧ EvSet t wUpd 1) ∧
  (∀ (s : State) (init : Initiator), CmdOpen s init wUpd UPD_FW_CTRL.CONFIRM → init ≠ .mp → Completes (.updConfirm init) s fun t =>
    t.upd = s.upd ∧ t.rd wUpd UPD_FW_STAT.TRIAL = s.rd wUpd UPD_FW_STAT.TRIAL) ∧
  (∀ (s : State) (init : Initiator), CmdOpen s init wUpd UPD_FW_CTRL.DISCARD → s.stg = stgStaged ∨ s.stg = stgInstalled ∨ s.stg = stgArmed → Completes (.updDiscard init) s fun t =>
    t.stg = stgIdle ∧ t.upd = { s.upd with stored := 0, head := [] }) ∧
  (∀ (s : State) (init : Initiator), CmdOpen s init wUpd UPD_FW_CTRL.ARM → s.mayArm = true → Completes (.updArm init) s fun t =>
    t.stg = stgArmed ∧ t.upd = s.upd) ∧
  (∀ (s : State) (init : Initiator), CmdOpen s init wUpd UPD_FW_CTRL.CANCEL → s.stg = stgArmed → Completes (.updCancel init) s fun t =>
    t.stg = stgInstalled ∧ t.upd = s.upd) ∧
  (∀ (s : State) (init : Initiator), CmdOpen s init wUpd UPD_FW_CTRL.RECOVER → s.recWindow.isSome = true → Completes (.updRecover init) s fun t =>
    t.on wUpd UPD_FW_CTRL.RECOVER = true ∧ t.upd = s.upd) ∧
  (∀ (s : State) (w : Nat), s.on wUpd UPD_FW_CTRL.RECOVER = true → s.recWindow = some w → s.rd wUpd UPD_REC.TYPE < 8 → Completes (.romRecoveryLoadDone false) s fun t =>
    t.on wUpd UPD_FW_CTRL.RECOVER = false ∧ t.inRom w = true ∧ t.on wUpd UPD_FW_STAT.FW_FAIL = true) ∧
  (∀ (s : State) (w : Nat) (f : FwSet), s.on wUpd UPD_FW_CTRL.RECOVER = true → s.recWindow = some w → clsOf w ≠ .eth → s.upd.bankSet (s.rd wUpd UPD_REC.BANK) = some f → (f.images.any fun x => x.ty == s.rd wUpd UPD_REC.TYPE) = true → Completes (.romRecoveryLoadDone true) s fun t =>
    t.on wUpd UPD_FW_CTRL.RECOVER = false ∧ t.inRom w = false ∧ t.upd = { s.upd with recovery := dropFrom s.upd.recovery w }) ∧
  (∀ (s : State) (n : Fin 16) (f : FwSet), s.on wUpd UPD_FW_CTRL.RECOVER = true → s.recWindow = some (wEth n) → s.upd.bankSet (s.rd wUpd UPD_REC.BANK) = some f → (f.images.any fun x => x.ty == s.rd wUpd UPD_REC.TYPE) = true → Completes (.romRecoveryLoadDone true) s fun t =>
    t.on wUpd UPD_FW_CTRL.RECOVER = false ∧ t.inRom (wEth n) = false ∧ look t.upd.portBank n 2 = s.rd wUpd UPD_REC.BANK) ∧
  (∀ (s : State) (ok : Bool), s.on wUpd UPD_FW_CTRL.RECOVER = false → Quiet (.romRecoveryLoadDone ok) s) ∧
  (∀ (s : State) (ok : Bool), s.upd.inbox = [] → Quiet (.updBlockReceived ok) s) ∧
  (∀ (s : State), s.upd.acks = [] → Quiet .updAckReceived s) ∧
  (∀ (s : State) (k : BitVec 16) (blk : BitVec 32), s.upd.fwd = [] ∨ s.downPort = none → Quiet (.updBlockResend k blk) s) ∧
  (∀ (s : State), s.stg ≠ stgReceiving → Quiet .updStreamTimeout s) ∧
  (∀ (s : State) (ec hs digest : Bool), s.stg ≠ stgVerifying → Quiet (.updVerifyDone ec hs digest) s) ∧
  (∀ (s : State) (ok : Bool), s.stg ≠ stgStaged → Quiet (.updInstallDone ok) s) ∧
  (∀ (s : State), CmdOpen s .mp wUpd UPD_FW_CTRL.CONFIRM → s.onTrial = false ∨ s.allBuilt = false → Completes (.updConfirm .mp) s fun t =>
    t.upd = s.upd ∧ t.rd wUpd UPD_FW_STAT.BANK = s.rd wUpd UPD_FW_STAT.BANK ∧ t.rd wUpd UPD_FW_STAT.TRIAL = s.rd wUpd UPD_FW_STAT.TRIAL) ∧
  (∀ (s : State) (init : Initiator), CmdOpen s init wUpd UPD_FW_CTRL.DISCARD → s.stg ≠ stgStaged → s.stg ≠ stgInstalled → s.stg ≠ stgArmed → Completes (.updDiscard init) s fun t =>
    t.stg = s.stg ∧ t.upd = s.upd) ∧
  (∀ (s : State) (init : Initiator), CmdOpen s init wUpd UPD_FW_CTRL.ARM → s.mayArm = false → Completes (.updArm init) s fun t =>
    t.stg = s.stg ∧ t.upd = s.upd) ∧
  (∀ (s : State) (init : Initiator), CmdOpen s init wUpd UPD_FW_CTRL.CANCEL → s.stg ≠ stgArmed → Completes (.updCancel init) s fun t =>
    t.stg = s.stg ∧ t.upd = s.upd) ∧
  (∀ (s : State) (init : Initiator), CmdOpen s init wUpd UPD_FW_CTRL.RECOVER → s.recWindow = none → Completes (.updRecover init) s fun t =>
    t.on wUpd UPD_FW_CTRL.RECOVER = false ∧ t.upd = s.upd)

/-- For each command the next state holds what is named here. R421, R422: at ACT_TIME, with no steps left, an armed package is idle and its targets' steps are to do, in their order; before that time, or not armed, nothing happens. The end of the FS step that passes takes both filesystem windows out of ROM recovery; of an SE, GCM, CMAC or DSP step leaves its unit in ROM recovery just where the check failed, SE then with FW_FAIL; of a CAN or LIN step that passes lets its types run from the sequence's bank; of MP's, MP running again, as well ends that step: each joins the steps that ran and the next is in front. MP's step with MP not running, and no step at all, do nothing. R129: the CFG step while UNCONFIGURED ends, tables and image as they were; with an image that a start would not take it is aborted: it is not among the steps that ran, the lock is free, the image and HOLD_EN as before; with MP stopped, the lock held or a commit running nothing happens yet. R424: the trial's window clears TRIAL, sets FALLBACK and event 2, and the steps that ran are to do in reverse; without a trial nothing happens. -/
def Obligations.ActivationComplete : Prop :=
  (∀ (s : State), s.stg = stgArmed → s.actTime ≤ s.ax0Ns → s.upd.todo = [] → Completes .updActivationStart s fun t =>
    t.stg = stgIdle ∧ t.upd.todo = s.actSteps ∧ t.upd.ran = [] ∧ t.upd.reverse = false) ∧
  (∀ (s : State), s.stg ≠ stgArmed ∨ s.ax0Ns < s.actTime → Quiet .updActivationStart s) ∧
  (∀ (s : State) (fails : List Byte) (r : List ActStep), s.upd.todo = .fs :: r → (fails.map BitVec.toNat).contains 2 = false → Completes (.updActivationStep fails none) s fun t =>
    t.upd.todo = r ∧ t.upd.ran = s.upd.ran ++ [.fs] ∧ (t.inRom 0x013 || t.inRom 0x014) = false) ∧
  (∀ (s : State) (e : Fin 4) (fails : List Byte) (r : List ActStep), s.upd.todo = .se e.val :: r → Completes (.updActivationStep fails none) s fun t =>
    t.upd.todo = r ∧ t.upd.ran = s.upd.ran ++ [.se e.val] ∧ t.inRom (wSE e) = (fails.map BitVec.toNat).contains 3 ∧
    ((fails.map BitVec.toNat).contains 3 = true → t.on wUpd UPD_FW_STAT.FW_FAIL = true)) ∧
  (∀ (s : State), s.onTrial = true → Completes .updTrialTimeout s fun t =>
    t.on wUpd UPD_FW_STAT.TRIAL = false ∧ t.on wUpd UPD_FW_STAT.FALLBACK = true ∧ EvSet t wUpd 2 ∧ t.upd.todo = s.upd.ran.reverse ∧ t.upd.reverse = true) ∧
  (∀ (s : State) (e : Fin 6) (fails : List Byte) (r : List ActStep), s.upd.todo = .gcm e.val :: r → Completes (.updActivationStep fails none) s fun t =>
    t.upd.todo = r ∧ t.upd.ran = s.upd.ran ++ [.gcm e.val] ∧ t.inRom (wGcm e) = (fails.map BitVec.toNat).contains 4) ∧
  (∀ (s : State) (e : Fin 4) (fails : List Byte) (r : List ActStep), s.upd.todo = .cmac e.val :: r → Completes (.updActivationStep fails none) s fun t =>
    t.upd.todo = r ∧ t.upd.ran = s.upd.ran ++ [.cmac e.val] ∧ t.inRom (wCmac e) = (fails.map BitVec.toNat).contains 5) ∧
  (∀ (s : State) (n : Fin 16) (fails : List Byte) (r : List ActStep), s.upd.todo = .phy n.val :: r → Completes (.updActivationStep fails none) s fun t =>
    t.upd.todo = r ∧ t.upd.ran = s.upd.ran ++ [.phy n.val] ∧ t.inRom (wEth n) = (fails.map BitVec.toNat).contains (if n.val < 6 then 7 else 6)) ∧
  (∀ (s : State) (l : List Nat) (r : List ActStep), s.upd.todo = .canLin l :: r → Completes (.updActivationStep [] none) s fun t =>
    t.upd.todo = r ∧ t.upd.ran = s.upd.ran ++ [.canLin l] ∧ ∀ ty ∈ l, (look t.upd.running ty ⟨2, 0, 0⟩).bank = s.actBank) ∧
  (∀ (s : State) (r : List ActStep), s.upd.todo = .mp :: r → s.pwr.mpRun = true → Completes (.updActivationStep [] none) s fun t =>
    t.upd.todo = r ∧ t.upd.ran = s.upd.ran ++ [.mp]) ∧
  (∀ (s : State) (r : List ActStep), s.upd.todo = .mp :: r → s.pwr.mpRun = false → Quiet (.updActivationStep [] none) s) ∧
  (∀ (s : State) (x : SlotImage) (r : List ActStep), s.upd.todo = .cfg :: r → s.upd.newImage = none → s.on wUpd UPD_CFG_STAT.UNCFG = true → Completes (.updActivationStep [] (some x)) s fun t =>
    t.upd.todo = r ∧ t.upd.ran = s.upd.ran ++ [.cfg] ∧ t.bench = s.bench ∧ t.cfg = s.cfg) ∧
  (∀ (s : State) (x : SlotImage) (r : List ActStep), s.upd.todo = .cfg :: r → s.upd.newImage = none → s.on wUpd UPD_CFG_STAT.UNCFG = false → s.pwr.mpRun = true → s.tblOwner = 0 → s.tblBusy = false → s.imageUsable s.cfgTarget x = false → Completes (.updActivationStep [] (some x)) s fun t =>
    t.upd.todo = r ∧ t.upd.ran = s.upd.ran ∧ t.tblOwner = 0 ∧ t.cfg = s.cfg ∧ t.rd wTables TBL_CTRL.HOLD_EN = s.rd wTables TBL_CTRL.HOLD_EN) ∧
  (∀ (s : State) (x : SlotImage) (r : List ActStep), s.upd.todo = .cfg :: r → s.upd.newImage = none → s.on wUpd UPD_CFG_STAT.UNCFG = false → s.pwr.mpRun = false ∨ s.tblOwner ≠ 0 ∨ s.tblBusy = true → Quiet (.updActivationStep [] (some x)) s) ∧
  (∀ (s : State) (fails : List Byte), s.upd.todo = [] → Quiet (.updActivationStep fails none) s) ∧
  (∀ (s : State), s.onTrial = false → Quiet .updTrialTimeout s)

/-- For each command the next state holds what is named here. R430, R432: a HELLO goes out, counted, in HELLO and MISMATCH, a KEEPALIVE in UP; the state stays; in other states nothing happens. One unacknowledged frame of a lane in UP is sent again, counted, up to 8 times, then the peer is lost, as after PEER_TO: HELLO, PEER_LOST and event 1, its features or ID gone; without a frame, or not in UP, nothing. R433: a frame that is accepted is counted and takes its place in its lane: HELLO in HELLO with the major version in common brings UP with the peer's ID, features, version and address, event 1; without one MISMATCH with VERSION and event 1; in UP it is answered. KEEPALIVE changes no state. WRITE of one byte to UNIT_IRQ_EN of an open window writes it; to a remote window it sets Derrick's VIOL. READ joins the buffer below 4 entries, at 4 it is answered at once. EVENT gives the summary with EVT_EN 1, leaves it with 0. One segment of a whole block puts the block in the inbox; one not at the end of what came before ends dropped. An update acknowledgement is queued. A frame with a fault ends dropped, RX_DROP, counted, the peers and the update unit as they were; with KMP off on the port and no frame handed over nothing happens. R435: DRK_MAP of an entry off, RWIN below 0x800, stores peer, window and lanes, and with EN 1 and its peer not UP waits unfound; a value that EN 1 does not let change, or RWIN from 0x800, is refused. -/
def Obligations.PeersComplete : Prop :=
  (∀ (s : State) (n : Fin 16), s.peerState n = psHello ∨ s.peerState n = psMismatch → Completes (.kmpHelloTimer n) s fun t =>
    OneMore s t wDerrick KMP_TX.COUNT ∧ t.peerState n = s.peerState n) ∧
  (∀ (s : State) (n : Fin 16), s.peerState n = psUp → Completes (.kmpKeepaliveTimer n) s fun t =>
    OneMore s t wDerrick KMP_TX.COUNT ∧ t.peerState n = psUp ∧ (t.peer n).owes = false) ∧
  (∀ (s : State) (n : Fin 16) (k : Fin 3) (f : KmpFrame) (j : Fin 8), s.peerState n = psUp → (s.lane n k).out = [(f, j.val)] → Completes (.kmpResendTimer n k) s fun t =>
    (t.lane n k).out = [(f, j.val + 1)] ∧ OneMore s t wDerrick KMP_RESENT.COUNT ∧ OneMore s t wDerrick KMP_TX.COUNT ∧ t.peerState n = psUp) ∧
  (∀ (s : State) (n : Fin 16) (k : Fin 3) (f : KmpFrame), s.peerState n = psUp → (s.lane n k).out = [(f, 8)] → Completes (.kmpResendTimer n k) s fun t =>
    t.peerState n = psHello ∧ t.on wDerrick DRK_STAT.PEER_LOST = true ∧ EvSet t wDerrick 1 ∧ t.rd wDerrick DRK_PEER.FEAT n = 0) ∧
  (∀ (s : State) (n : Fin 16), s.peerState n = psUp → Completes (.kmpPeerTimeout n) s fun t =>
    t.peerState n = psHello ∧ t.on wDerrick DRK_STAT.PEER_LOST = true ∧ EvSet t wDerrick 1 ∧ t.rd wDerrick DRK_PID.PID n = 0) ∧
  (∀ (s : State) (n : Fin 16) (f : KmpRx), KmpAccepted s n kmpHello f → s.peerState n = psHello → (payload f).headD 0 ≤ 1 → 1 ≤ (payload f).getD 1 0 → Completes (.kmpHelloReceived n f) s fun t =>
    t.peerState n = psUp ∧ t.rd wDerrick DRK_PID.PID n = beAt (payload f) 4 16 ∧ t.rd wDerrick DRK_PEER.FEAT n = beAt (payload f) 2 2 % 16 ∧
    t.rd wDerrick DRK_PEER.VER n = 0x10 + min 1 (f.ver.toNat % 16) ∧ EvSet t wDerrick 1 ∧ OneMore s t wDerrick KMP_RX.COUNT ∧ (t.peer n).sa = f.sa.toNat) ∧
  (∀ (s : State) (n : Fin 16) (f : KmpRx), KmpAccepted s n kmpHello f → s.peerState n = psHello → 2 ≤ (payload f).headD 0 → Completes (.kmpHelloReceived n f) s fun t =>
    t.peerState n = psMismatch ∧ t.on wDerrick DRK_STAT.VERSION = true ∧ EvSet t wDerrick 1 ∧ OneMore s t wDerrick KMP_RX.COUNT) ∧
  (∀ (s : State) (n : Fin 16) (f : KmpRx), KmpAccepted s n kmpKeepalive f → Completes (.kmpKeepaliveReceived n f) s fun t =>
    OneMore s t wDerrick KMP_RX.COUNT ∧ t.peerState n = psUp ∧ t.rd wDerrick KMP_RX_DROP.COUNT = s.rd wDerrick KMP_RX_DROP.COUNT) ∧
  (∀ (s : State) (n : Fin 16) (f : KmpRx) (w : BitVec 12) (b : Fin 256), KmpAccepted s n kmpWrite f → isRemote w.toNat = false → payload f = [w.toNat / 16, w.toNat % 16 * 16, 0x31, 0, b.val] → WriteOpen s (.peer n) w.toNat 0x31 → Completes (.kmpWriteReceived n f) s fun t =>
    t.rd w.toNat UNIT_IRQ_EN.EN = b.val ∧ OneMore s t wDerrick KMP_RX.COUNT ∧ (t.lane n 0).rx = ((s.lane n 0).rx + 1) % 65536) ∧
  (∀ (s : State) (n : Fin 16) (f : KmpRx), KmpAccepted s n kmpRead f → (s.kmpAcks n f).inTaken n < 4 → Completes (.kmpReadReceived n f) s fun t =>
    (t.peer n).inReads = (s.peer n).inReads ++ [⟨f.tag.toNat, f.flags.toNat / 16 % 4, bit f.flags.toNat 7, beAt (payload f) 0 3, beAt (payload f) 3 1 + 1, f.fence.toNat⟩] ∧
    OneMore s t wDerrick KMP_RX.COUNT ∧ (t.lane n 2).rx = ((s.lane n 2).rx + 1) % 65536) ∧
  (∀ (s : State) (n : Fin 16) (f : KmpRx), KmpAccepted s n kmpEvent f → s.on wDerrick DRK_PEER.EVT_EN n = true → Completes (.kmpEventReceived n f) s fun t =>
    t.rd wDerrick (DRK_PSUM.SUM.elem n) = (payload f).headD 0 ∧ OneMore s t wDerrick KMP_RX.COUNT) ∧
  (∀ (s : State) (n : Fin 16) (f : KmpRx) (u : UpdBlock), KmpAccepted s n kmpUpdSeg f → beAt (payload f) 0 2 = 0 → beAt (payload f) 2 2 = (payload f).length - 4 → parseBlock (some n.val) ((payload f).drop 4) = some u → Completes (.kmpUpdSegReceived n f) s fun t =>
    t.upd.inbox = s.upd.inbox ++ [u] ∧ OneMore s t wDerrick KMP_RX.COUNT ∧ (t.peer n).partBlock = []) ∧
  (∀ (s : State) (n : Fin 16) (f : KmpRx), KmpAccepted s n kmpUpdAck f → Completes (.kmpUpdAckReceived n f) s fun t =>
    t.upd.acks = s.upd.acks ++ [(n.val, beAt (payload f) 0 2, beAt (payload f) 2 4)] ∧ OneMore s t wDerrick KMP_RX.COUNT) ∧
  (∀ (s : State) (init : Initiator) (v : BitVec 32), WriteOpen s init wDerrick 0x167 → s.mapOn (s.rd wDerrick DRK_MSEL.IDX) = false → bits v.toNat 11 0 < 0x800 → bit v.toNat 31 = false → Completes (.drkMapWrite init v) s fun t =>
    t.mapOn (s.rd wDerrick DRK_MSEL.IDX) = false ∧ t.mapPeer (s.rd wDerrick DRK_MSEL.IDX) = bits v.toNat 27 24 ∧
    t.mapWin (s.rd wDerrick DRK_MSEL.IDX) = bits v.toNat 11 0 ∧ t.rd wDerrick DRK_MAP.LANES (s.rd wDerrick DRK_MSEL.IDX) = bits v.toNat 30 30 ∧
    t.drk.found.contains (s.rd wDerrick DRK_MSEL.IDX) = false) ∧
  (∀ (s : State) (init : Initiator) (v : BitVec 32), WriteOpen s init wDerrick 0x167 → s.mapOn (s.rd wDerrick DRK_MSEL.IDX) = false → bits v.toNat 11 0 < 0x800 → bit v.toNat 31 = true → s.peerState (bits v.toNat 27 24) ≠ psUp → Completes (.drkMapWrite init v) s fun t =>
    t.mapOn (s.rd wDerrick DRK_MSEL.IDX) = true ∧ t.mapPeer (s.rd wDerrick DRK_MSEL.IDX) = bits v.toNat 27 24 ∧
    t.mapWin (s.rd wDerrick DRK_MSEL.IDX) = bits v.toNat 11 0 ∧ t.drk.found.contains (s.rd wDerrick DRK_MSEL.IDX) = false) ∧
  (∀ (s : State) (n : Fin 16) (f : KmpRx) (x : Nat), s.kmpOn n = true → s.kmpFault n kmpHello f = some x → Completes (.kmpHelloReceived n f) s fun t =>
    t.on wDerrick DRK_STAT.RX_DROP = true ∧ OneMore s t wDerrick KMP_RX_DROP.COUNT ∧ t.drk = s.drk ∧ t.upd = s.upd ∧
    t.rd wDerrick KMP_RX.COUNT = s.rd wDerrick KMP_RX.COUNT) ∧
  (∀ (s : State) (n : Fin 16) (f : KmpRx), s.kmpOn n = false → s.fab.handed = [] → Quiet (.kmpHelloReceived n f) s) ∧
  (∀ (s : State) (n : Fin 16) (f : KmpRx) (x : Nat), s.kmpOn n = true → s.kmpFault n kmpKeepalive f = some x → Completes (.kmpKeepaliveReceived n f) s fun t =>
    t.on wDerrick DRK_STAT.RX_DROP = true ∧ OneMore s t wDerrick KMP_RX_DROP.COUNT ∧ t.drk = s.drk ∧ t.upd = s.upd ∧
    t.rd wDerrick KMP_RX.COUNT = s.rd wDerrick KMP_RX.COUNT) ∧
  (∀ (s : State) (n : Fin 16) (f : KmpRx), s.kmpOn n = false → s.fab.handed = [] → Quiet (.kmpKeepaliveReceived n f) s) ∧
  (∀ (s : State) (n : Fin 16) (f : KmpRx) (x : Nat), s.kmpOn n = true → s.kmpFault n kmpWrite f = some x → Completes (.kmpWriteReceived n f) s fun t =>
    t.on wDerrick DRK_STAT.RX_DROP = true ∧ OneMore s t wDerrick KMP_RX_DROP.COUNT ∧ t.drk = s.drk ∧ t.upd = s.upd ∧
    t.rd wDerrick KMP_RX.COUNT = s.rd wDerrick KMP_RX.COUNT) ∧
  (∀ (s : State) (n : Fin 16) (f : KmpRx), s.kmpOn n = false → s.fab.handed = [] → Quiet (.kmpWriteReceived n f) s) ∧
  (∀ (s : State) (n : Fin 16) (f : KmpRx) (x : Nat), s.kmpOn n = true → s.kmpFault n kmpRead f = some x → Completes (.kmpReadReceived n f) s fun t =>
    t.on wDerrick DRK_STAT.RX_DROP = true ∧ OneMore s t wDerrick KMP_RX_DROP.COUNT ∧ t.drk = s.drk ∧ t.upd = s.upd ∧
    t.rd wDerrick KMP_RX.COUNT = s.rd wDerrick KMP_RX.COUNT) ∧
  (∀ (s : State) (n : Fin 16) (f : KmpRx), s.kmpOn n = false → s.fab.handed = [] → Quiet (.kmpReadReceived n f) s) ∧
  (∀ (s : State) (n : Fin 16) (f : KmpRx) (x : Nat), s.kmpOn n = true → s.kmpFault n kmpEvent f = some x → Completes (.kmpEventReceived n f) s fun t =>
    t.on wDerrick DRK_STAT.RX_DROP = true ∧ OneMore s t wDerrick KMP_RX_DROP.COUNT ∧ t.drk = s.drk ∧ t.upd = s.upd ∧
    t.rd wDerrick KMP_RX.COUNT = s.rd wDerrick KMP_RX.COUNT) ∧
  (∀ (s : State) (n : Fin 16) (f : KmpRx), s.kmpOn n = false → s.fab.handed = [] → Quiet (.kmpEventReceived n f) s) ∧
  (∀ (s : State) (n : Fin 16) (f : KmpRx) (x : Nat), s.kmpOn n = true → s.kmpFault n kmpUpdSeg f = some x → Completes (.kmpUpdSegReceived n f) s fun t =>
    t.on wDerrick DRK_STAT.RX_DROP = true ∧ OneMore s t wDerrick KMP_RX_DROP.COUNT ∧ t.drk = s.drk ∧ t.upd = s.upd ∧
    t.rd wDerrick KMP_RX.COUNT = s.rd wDerrick KMP_RX.COUNT) ∧
  (∀ (s : State) (n : Fin 16) (f : KmpRx), s.kmpOn n = false → s.fab.handed = [] → Quiet (.kmpUpdSegReceived n f) s) ∧
  (∀ (s : State) (n : Fin 16) (f : KmpRx) (x : Nat), s.kmpOn n = true → s.kmpFault n kmpUpdAck f = some x → Completes (.kmpUpdAckReceived n f) s fun t =>
    t.on wDerrick DRK_STAT.RX_DROP = true ∧ OneMore s t wDerrick KMP_RX_DROP.COUNT ∧ t.drk = s.drk ∧ t.upd = s.upd ∧
    t.rd wDerrick KMP_RX.COUNT = s.rd wDerrick KMP_RX.COUNT) ∧
  (∀ (s : State) (n : Fin 16) (f : KmpRx), s.kmpOn n = false → s.fab.handed = [] → Quiet (.kmpUpdAckReceived n f) s) ∧
  (∀ (s : State) (n : Fin 16) (f : KmpRx), KmpAccepted s n kmpHello f → s.peerState n = psUp → Completes (.kmpHelloReceived n f) s fun t =>
    t.peerState n = psUp ∧ OneMore s t wDerrick KMP_RX.COUNT ∧ OneMore s t wDerrick KMP_TX.COUNT ∧ t.rd wDerrick DRK_PID.PID n = s.rd wDerrick DRK_PID.PID n) ∧
  (∀ (s : State) (n : Fin 16) (f : KmpRx) (w : BitVec 12), KmpAccepted s n kmpWrite f → isRemote w.toNat = true → payload f = [w.toNat / 16, w.toNat % 16 * 16, 0x31, 0, 7] → Completes (.kmpWriteReceived n f) s fun t =>
    OneMore s t wDerrick KMP_RX.COUNT ∧ (t.lane n 0).rx = ((s.lane n 0).rx + 1) % 65536 ∧ t.on wDerrick UNIT_STICKY.VIOL = true) ∧
  (∀ (s : State) (n : Fin 16) (f : KmpRx), KmpAccepted s n kmpRead f → 4 ≤ (s.kmpAcks n f).inTaken n → Completes (.kmpReadReceived n f) s fun t =>
    (t.peer n).inReads = (s.peer n).inReads ∧ OneMore s t wDerrick KMP_RX.COUNT ∧ (t.lane n 1).tx = ((s.lane n 1).tx + 1) % 65536) ∧
  (∀ (s : State) (n : Fin 16) (f : KmpRx), KmpAccepted s n kmpEvent f → s.on wDerrick DRK_PEER.EVT_EN n = false → Completes (.kmpEventReceived n f) s fun t =>
    t.rd wDerrick (DRK_PSUM.SUM.elem n) = s.rd wDerrick (DRK_PSUM.SUM.elem n) ∧ OneMore s t wDerrick KMP_RX.COUNT) ∧
  (∀ (s : State) (n : Fin 16) (f : KmpRx), KmpAccepted s n kmpUpdSeg f → beAt (payload f) 0 2 ≠ 0 → (s.peer n).partBlock = [] → Completes (.kmpUpdSegReceived n f) s fun t =>
    t.upd.inbox = s.upd.inbox ∧ OneMore s t wDerrick KMP_RX_DROP.COUNT ∧ t.rd wDerrick KMP_RX.COUNT = s.rd wDerrick KMP_RX.COUNT) ∧
  (∀ (s : State) (n : Fin 16), s.peerState n ≠ psHello → s.peerState n ≠ psMismatch → Quiet (.kmpHelloTimer n) s) ∧
  (∀ (s : State) (n : Fin 16), s.peerState n ≠ psUp → Quiet (.kmpKeepaliveTimer n) s) ∧
  (∀ (s : State) (n : Fin 16), s.peerState n ≠ psUp → Quiet (.kmpPeerTimeout n) s) ∧
  (∀ (s : State) (n : Fin 16) (k : Fin 3), s.peerState n ≠ psUp ∨ (s.lane n k).out = [] → Quiet (.kmpResendTimer n k) s) ∧
  (∀ (s : State) (init : Initiator) (v : BitVec 32), WriteOpen s init wDerrick 0x167 → s.mapFixed (s.rd wDerrick DRK_MSEL.IDX) v.toNat = true ∨ 0x800 ≤ bits v.toNat 11 0 → Completes (.drkMapWrite init v) s fun t =>
    t.drk = s.drk ∧ t.mapOn (s.rd wDerrick DRK_MSEL.IDX) = s.mapOn (s.rd wDerrick DRK_MSEL.IDX) ∧ t.mapWin (s.rd wDerrick DRK_MSEL.IDX) = s.mapWin (s.rd wDerrick DRK_MSEL.IDX))

/-- For each command the next state holds what is named here. R437, R443: the one buffered READ of one byte of UNIT_IRQ_EN in an open window, past its fence, leaves the buffer, and the answer with that byte and its TAG is sent or waits; with none past its fence nothing happens. R444, R458: the lease's end drops the oldest buffered READ, no answer waiting, or the one waiting answer of a performed read, which RSP_LOST counts; with neither nothing happens. R440, R445, of MP's one READ with this TAG, without the mark of a speculative hit: an answer of its length gives MP the data and ends it; RETRY, counted, makes it wait unsent; ERROR gives MP none, counted as failed, with REM_ERR; an answer to no READ is counted alone; a frame with a fault ends dropped, and with KMP off on the port and none handed over nothing happens. A READ that waits unsent in tracker 0 goes out with the next TAG; one that is sent stays. RD_TO of MP's one READ ends it failed, counted, with REM_ERR and event 2; with none nothing happens. R441: the held block named leaves the list. R446: each UP peer with the feature and EVT_EN has been told the summary that stands after it, unless the telling changed the summary; with no peer UP nothing happens. R447: a poll of an UP peer with feature 0 and EVT_EN 0, a tracker free, sends a READ of its summary byte; of a peer not UP, or without the feature, nothing happens. -/
def Obligations.RemoteReadsComplete : Prop :=
  (∀ (s : State) (n : Fin 16) (tag org fence : Nat) (w : BitVec 12), (s.peer n).inReads = [⟨tag, org, false, w.toNat * 4096 + 0x31, 1, fence⟩] → s.fenced n ⟨tag, org, false, w.toNat * 4096 + 0x31, 1, fence⟩ = true → ReadOpen s (.peer n) w.toNat → isRemote w.toNat = false → Completes (.kmpInboundReadPerform n) s fun t =>
    (t.peer n).inReads = [] ∧
    (((t.lane n 1).out.map (·.1) ++ (t.lane n 1).wait).any fun f => f.ty == kmpResponse && f.tag == tag && f.body == [spiOk, s.rd w.toNat UNIT_IRQ_EN.EN]) = true) ∧
  (∀ (s : State) (n : Fin 16) (r : InRead) (l : List InRead), (s.lane n 1).wait = [] → (s.peer n).inReads = r :: l → Completes (.kmpInboundLeaseExpiry n) s fun t =>
    (t.peer n).inReads = l ∧ t.on wDerrick UNIT_STICKY.LEASE = true) ∧
  (∀ (s : State) (n : Fin 16) (f : KmpFrame), (s.lane n 1).wait = [f] → isPerformed f = true → Completes (.kmpInboundLeaseExpiry n) s fun t =>
    (t.lane n 1).wait = [] ∧ t.on wDerrick DRK_STAT.RSP_LOST = true ∧ OneMore s t wDerrick KMP_RSP_LOST.COUNT ∧ t.on wDerrick UNIT_STICKY.LEASE = true) ∧
  (∀ (s : State) (n : Fin 16) (f : KmpRx) (r : OutRead), KmpAccepted s n kmpResponse f → s.drk.reads = [r] → r.peer = n.val → r.tag = f.tag.toNat → r.sent = true → r.why = .mp → (payload f).headD 0 = spiOk → (payload f).length = r.len + 1 → bit f.flags.toNat 6 = false → s.drk.readQ = [] → s.drk.fetchQ = [] → Completes (.kmpResponseReceived n f) s fun t =>
    t.drk.reads = [] ∧ .readData initMp (r.pre ++ (((payload f).drop 1).drop (r.want - r.addr)).take r.wantLen) ∈ t.outs ∧
    OneMore s t wDerrick KMP_RX.COUNT) ∧
  (∀ (s : State) (n : Fin 16) (f : KmpRx) (r : OutRead), KmpAccepted s n kmpResponse f → s.drk.reads = [r] → r.peer = n.val → r.tag = f.tag.toNat → r.sent = true → payload f = [spiRetry] → bit f.flags.toNat 6 = false → Completes (.kmpResponseReceived n f) s fun t =>
    t.drk.reads = [{ r with sent := false }] ∧ OneMore s t wDerrick KMP_RETRIES.COUNT ∧ OneMore s t wDerrick KMP_RX.COUNT) ∧
  (∀ (s : State) (r : OutRead), s.drk.reads = [r] → r.sent = false → Completes (.kmpRetryResend 0) s fun t =>
    t.drk.reads = [{ r with sent := true, tag := s.drk.nextTag }] ∧ t.drk.nextTag = (s.drk.nextTag + 1) % 65536) ∧
  (∀ (s : State) (r : OutRead), s.drk.reads = [r] → s.drk.readQ = [] → s.drk.fetchQ = [] → r.why = .mp → Completes (.kmpReadTimeout 0) s fun t =>
    t.drk.reads = [] ∧ OneMore s t wDerrick KMP_FAILED.COUNT ∧ t.on wDerrick DRK_STAT.REM_ERR = true ∧ EvSet t wDerrick 2 ∧
    .readData initMp [] ∈ t.outs) ∧
  (∀ (s : State) (k : BitVec 12), Completes (.kmpPrefetchExpiry k) s fun t =>
    t.drk = { s.drk with held := s.drk.held.take k.toNat ++ s.drk.held.drop (k.toNat + 1) } ∧ t.regs = s.regs) ∧
  (∀ (s : State) (n : Fin 16), s.peerState n = psUp → s.feature n 1 = true → s.on wDerrick DRK_PEER.EVT_EN n = true → Completes .kmpEventSend s fun t =>
    (t.peer n).evtLast = t.summaryByte wRoot ∨ t.summaryByte wRoot ≠ s.summaryByte wRoot) ∧
  (∀ (s : State) (n : Fin 16), s.peerState n = psUp → s.feature n 0 = true → s.on wDerrick DRK_PEER.EVT_EN n = false → s.trackerFree = true → Completes (.kmpPollTimer n) s fun t =>
    t.drk.reads.map (fun r => (r.why, r.peer, r.tag, r.addr, r.len)) = s.drk.reads.map (fun r => (r.why, r.peer, r.tag, r.addr, r.len)) ++ [(.poll, n.val, s.drk.nextTag, 0x1C, 1)] ∧
    t.drk.nextTag = (s.drk.nextTag + 1) % 65536) ∧
  (∀ (s : State) (n : Fin 16) (f : KmpRx) (x : Nat), s.kmpOn n = true → s.kmpFault n kmpResponse f = some x → Completes (.kmpResponseReceived n f) s fun t =>
    t.on wDerrick DRK_STAT.RX_DROP = true ∧ OneMore s t wDerrick KMP_RX_DROP.COUNT ∧ t.drk = s.drk ∧ t.upd = s.upd ∧
    t.rd wDerrick KMP_RX.COUNT = s.rd wDerrick KMP_RX.COUNT) ∧
  (∀ (s : State) (n : Fin 16) (f : KmpRx), s.kmpOn n = false → s.fab.handed = [] → Quiet (.kmpResponseReceived n f) s) ∧
  (∀ (s : State) (n : Fin 16), takeFirst (s.fenced n) (s.peer n).inReads = none → Quiet (.kmpInboundReadPerform n) s) ∧
  (∀ (s : State) (n : Fin 16), dropPerformed (s.lane n 1).wait = none → (s.peer n).inReads = [] → Quiet (.kmpInboundLeaseExpiry n) s) ∧
  (∀ (s : State) (n : Fin 16) (f : KmpRx), KmpAccepted s n kmpResponse f → s.drk.reads = [] → s.drk.readQ = [] → s.drk.fetchQ = [] → Completes (.kmpResponseReceived n f) s fun t =>
    t.drk.reads = [] ∧ OneMore s t wDerrick KMP_RX.COUNT ∧ t.host = s.host) ∧
  (∀ (s : State) (n : Fin 16) (f : KmpRx) (r : OutRead), KmpAccepted s n kmpResponse f → s.drk.reads = [r] → r.peer = n.val → r.tag = f.tag.toNat → r.sent = true → r.why = .mp → payload f = [spiError] → bit f.flags.toNat 6 = false → s.drk.readQ = [] → s.drk.fetchQ = [] → Completes (.kmpResponseReceived n f) s fun t =>
    t.drk.reads = [] ∧ .readData initMp [] ∈ t.outs ∧ OneMore s t wDerrick KMP_FAILED.COUNT ∧ t.on wDerrick DRK_STAT.REM_ERR = true) ∧
  (∀ (s : State) (k : Fin 16) (r : OutRead), s.drk.reads[k.val]? = some r → r.sent = true → Quiet (.kmpRetryResend k) s) ∧
  (∀ (s : State) (k : BitVec 12), s.drk.reads = [] → s.drk.readQ = [] → Quiet (.kmpReadTimeout k) s) ∧
  (∀ (s : State) (n : Fin 16), s.peerState n ≠ psUp ∨ s.feature n 0 = false → Quiet (.kmpPollTimer n) s) ∧
  (∀ (s : State), (∀ n : Fin 16, s.peerState n ≠ psUp) → Quiet .kmpEventSend s)

/-- For each command the next state holds what is named here. R465, R466: a frame of other than 3 bytes is discarded, with ERR and SPI_SHORT; with GX off nothing happens; in native framing up to 3 bytes are too short. UNCONFIGURED: a write of the rows is answered with ERR, a read of mailbox or counters with 0. R467: a write of XB_IRQ_EN stores it, a read of XB_IRQ or XB_STAT holds its result, and the latter clears RST. R468: a slot's write of +15 is BUSY under a held lock, the copy as it was, and else (VALID 0, no delta, nothing blocked) commits and frees the lock; more than 8 destinations are refused. R471: TAKE copies length and the identifier's last byte, clears NEWDAT and MSGLST and holds a result; STORE without SEND stores type, length and identifier; it is refused where R217 refuses it. R470: the first byte of a counter group takes the snapshot and clears it. R472: D sets duty and ON of a channel that is no half, with PERIOD 5,000 already. R469: CTRL enables an OFF port whose timing translates, with that translation; one whose timing does not is refused. R476: SRST in C1 is a SOFT reset; in C2, with no legacy slots in section 0x0080, it sets RST and empties the mailboxes; with slots and a held lock it is BUSY. SLEEP in C1 pends a PARK, or is refused where PARK is; in C2 it is refused. R477: the update window takes a byte of a block in C1, the last byte of one hands it to UPD; its activation arms an installed KIND 1 package 1 ms ahead, and else is refused; in C2 both are answered with ERR. -/
def Obligations.LegacyFramesComplete : Prop :=
  (∀ (s : State) (b v : Byte), s.gxOn = true → s.leg.framing = true → s.uncfg = false → Completes (.legacyWriteFrame [b &&& 0x80, 4, v]) s fun t =>
    t.leg.irqEn = v.toNat % 64 ∧ t.leg.err = false ∧ t.leg.busy = false ∧ t.outs.head? = some (.xb s.xbMiso)) ∧
  (∀ (s : State) (b v : Byte), s.gxOn = true → s.leg.framing = true → s.uncfg = true → Completes (.legacyWriteFrame [b &&& 0x80, 4, v]) s fun t =>
    t.leg.irqEn = s.leg.irqEn ∧ t.leg.err = true ∧ t.leg.busy = false) ∧
  (∀ (s : State) (b v : Byte), s.gxOn = true → s.leg.framing = true → s.uncfg = false → Completes (.legacyReadFrame [b &&& 0x80, 5, v]) s fun t =>
    t.host.legacyRead = some (5, s.leg.irq) ∧ t.leg.ready = true ∧ t.leg.err = false ∧ t.outs = [.xb s.xbMiso]) ∧
  (∀ (s : State), s.gxOn = true → s.leg.framing = true → Completes (.legacyReadFrame [0, 2, 0]) s fun t =>
    t.host.legacyRead = some (2, s.xbStat.2) ∧ t.rd wRoot XB_STAT.RST legacyIdx = 0 ∧ t.leg.ready = true) ∧
  (∀ (s : State) (k v : Byte), s.gxOn = true → s.leg.framing = true → s.uncfg = false → s.tblOwner ≠ 0 → Completes (.legacyRouteSlotCommit k v) s fun t =>
    t.leg.busy = true ∧ t.leg.err = false ∧ t.slotByte k.toNat 15 = s.slotByte k.toNat 15 ∧ t.leg.slots = s.leg.slots ∧ t.bench = s.bench ∧ t.tblOwner = s.tblOwner) ∧
  (∀ (s : State) (k v : Byte), s.gxOn = true → s.leg.framing = true → s.uncfg = false → s.tblOwner = 0 → s.tblBusy = false → s.isSafe wTables = false → ((s.slotEntries k.toNat).any fun e => s.stageBlocked e.win e.idx) = false → bit (s.slotByte k.toNat 0) 7 = false → s.bench.touched = [] → s.bench.ovf = [] → Completes (.legacyRouteSlotCommit k v) s fun t =>
    t.leg.busy = false ∧ t.leg.err = false ∧ t.slotByte k.toNat 15 = v.toNat ∧ t.leg.commit = some k.toNat ∧ t.tblOwner = 0) ∧
  (∀ (s : State) (p : Fin 6) (m : Fin 16), s.gxOn = true → s.leg.framing = true → s.uncfg = false → Completes (.legacyMailboxTake p m) s fun t =>
    t.obj p m CAN_OBJ_VIEW.NEWDAT = 0 ∧ t.obj p m CAN_OBJ_VIEW.MSGLST = 0 ∧ t.box p m 5 = min 8 (s.obj p m CAN_OBJ_VIEW.LEN) ∧
    t.box p m 4 = s.obj p m CAN_OBJ_VIEW.ID % 256 ∧ t.leg.ready = true ∧ t.host.legacyRead.map (·.1) = some (0x2000 + 256 * p.val + 16 * m.val)) ∧
  (∀ (s : State) (p : Fin 6) (m : Fin 16) (v : Byte), s.gxOn = true → s.leg.framing = true → s.uncfg = false → LegacyOpen s (wCan p) 0x201 → s.storeRefusedFor p m = false → bit v.toNat 4 = false → Completes (.legacyMailboxStore p m v) s fun t =>
    t.obj p m CAN_OBJ_VIEW.TYPE = (if v.toNat / 64 = 3 then 0 else v.toNat / 64) ∧ t.obj p m CAN_OBJ_VIEW.LEN = s.box p m 5 ∧
    t.obj p m CAN_OBJ_VIEW.ID = beNat [s.box p m 1, s.box p m 2, s.box p m 3, s.box p m 4] % 2 ^ 29 ∧ t.leg.err = false) ∧
  (∀ (s : State) (k : Fin 10), s.gxOn = true → s.leg.framing = true → s.uncfg = false → Completes (.legacyCounterSnapshot k) s fun t =>
    ([0, 1, 2, 3].all fun j => look t.leg.ctr (4 * (if k.val < 6 then k.val else 10 + k.val) + j) 0 == 0) = true ∧
    look t.leg.snap (if k.val < 6 then k.val else 10 + k.val) 0 = [0, 1, 2, 3].foldl (fun a j => a * 65536 + look s.leg.ctr (4 * (if k.val < 6 then k.val else 10 + k.val) + j) 0) 0) ∧
  (∀ (s : State) (n : Fin 24) (d : Byte), s.gxOn = true → s.leg.framing = true → s.uncfg = false → LegacyOpen s (wCh (12 + n.val)) 0x142 → s.rd (wCh (12 + n.val)) CH_PERIOD.PERIOD = 5000 → isHalf (12 + n.val) = false → Completes (.legacyOutDutyWrite n d) s fun t =>
    t.rd (wCh (12 + n.val)) CH_DUTY.DUTY = d.toNat * 257 ∧ t.on (wCh (12 + n.val)) CH_CTRL.ON = (d != 0) ∧ look t.leg.duty n 0 = d.toNat ∧ t.leg.err = false) ∧
  (∀ (s : State) (p : Fin 6) (listen : Bool), s.gxOn = true → s.leg.framing = true → s.uncfg = false → LegacyOpen s (wCan p) 0x170 → s.on (wCan p) CAN_CFG.EN = false → s.xbBitsOk p = true → s.isSafe (wCan p) = false → 80 ≤ 5 * quanta (s.xbBits p).1 (s.xbBits p).2.1 → s.canState p = canOff → s.rd (wCan p) CAN_CFG.FD_EN = 0 → s.rd (wCan p) CAN_CFG.XL_EN = 0 → s.rd (wCanT p) CANT_MODE.MODE = 0 → Completes (.legacyCanEnable p listen) s fun t =>
    t.on (wCan p) CAN_CFG.EN = true ∧ t.on (wCan p) CAN_CFG.LISTEN_ONLY = listen ∧ t.rd (wCan p) CAN_NBT.BRP = 5 ∧
    t.rd (wCan p) CAN_NBT.TSEG1 = (s.xbBits p).1 % 256 ∧ t.leg.err = false) ∧
  (∀ (s : State), s.gxOn = true → s.leg.framing = true → s.uncfg = false → s.legMode = 1 → Completes .legacySrst s fun t =>
    t.gxOn = false ∧ t.pwr.exact = true ∧ t.pwr.modeDue = true) ∧
  (∀ (s : State), s.gxOn = true → s.leg.framing = true → s.uncfg = false → s.legMode = 2 → recSlots s.legacyRecs = [] → Completes .legacySrst s fun t =>
    t.gxOn = true ∧ t.rd wRoot XB_STAT.RST legacyIdx = 1 ∧ t.leg.boxes = [] ∧ t.leg.err = false ∧ t.leg.busy = false) ∧
  (∀ (s : State), s.gxOn = true → s.leg.framing = true → s.uncfg = false → s.legMode = 1 → LegacyOpen s wPwr 0x141 → s.on wPwr PWR_CTRL.PARK = false → s.isSafe wPwr = false → s.pwr.tampered = false → Completes .legacySleep s fun t =>
    t.on wPwr PWR_STATE.PEND = true ∧ t.on wPwr PWR_CTRL.PARK = true ∧ t.leg.err = false) ∧
  (∀ (s : State), s.gxOn = true → s.leg.framing = true → s.uncfg = false → s.legMode = 2 → Completes .legacySleep s fun t =>
    t.leg.err = true ∧ t.pwr = s.pwr ∧ t.on wPwr UNIT_STICKY.VIOL = true) ∧
  (∀ (s : State) (v : Byte), s.gxOn = true → s.leg.framing = true → s.uncfg = false → s.legMode = 1 → s.leg.upd.length < 8 → Completes (.legacyUpdData v) s fun t =>
    t.leg.upd = s.leg.upd ++ [v.toNat] ∧ t.upd = s.upd ∧ t.leg.err = false) ∧
  (∀ (s : State) (v : Byte), s.gxOn = true → s.leg.framing = true → s.uncfg = false → s.legMode = 1 → s.leg.upd.length = 12 → beAt s.leg.upd 7 2 = 0 → Completes (.legacyUpdData v) s fun t =>
    t.leg.upd = [] ∧ t.upd.inbox = s.upd.inbox ++ [⟨none, beAt s.leg.upd 0 2, beAt s.leg.upd 2 4, beAt s.leg.upd 6 1, [], beAt (s.leg.upd ++ [v.toNat]) 9 4⟩]) ∧
  (∀ (s : State), s.gxOn = true → s.leg.framing = true → s.uncfg = false → s.legMode = 1 → s.stg = stgInstalled → s.upd.kind = 1 → s.onTrial = false → s.ax0.sec < 2 ^ 47 → s.ax0.ns < 1000000000 → Completes .legacyUpdActivate s fun t =>
    t.stg = stgArmed ∧ t.on wUpd UPD_ACT_TGT.CFG = true ∧ t.rd wUpd UPD_ACT_TGT.TYPES = 0 ∧ t.actTime = s.ax0Ns + 1000000 ∧ t.leg.err = false) ∧
  (∀ (n : Nat) (c : Instr) (s : State), IsLegacyFrame n c = true → s.gxOn = false → Quiet c s) ∧
  (∀ (c : Instr) (s : State), IsLegacyFrame 3 c = true → s.gxOn = true → s.leg.framing = false →
    Completes c s fun t => t.leg.boxes = s.leg.boxes ∧ t.leg.irqEn = s.leg.irqEn ∧ t.on wHost HOST_STATUS.SPI_SHORT = true) ∧
  (∀ (s : State) (l : List Byte), s.gxOn = true → s.leg.framing = false → 3 < l.length → Quiet (.legacyWriteFrame l) s) ∧
  (∀ (s : State) (l : List Byte), s.gxOn = true → s.leg.framing = false → 3 < l.length → Quiet (.legacyReadFrame l) s) ∧
  (∀ (s : State) (l : List Byte), s.gxOn = true → s.leg.framing = true → l.length ≠ 3 → Completes (.legacyWriteFrame l) s fun t =>
    t.leg.err = true ∧ t.on wHost HOST_STATUS.SPI_SHORT = true ∧ t.host.legacyRead = s.host.legacyRead ∧ t.leg.irqEn = s.leg.irqEn) ∧
  (∀ (s : State) (l : List Byte), s.gxOn = true → s.leg.framing = true → l.length ≠ 3 → l ≠ [] → Completes (.legacyReadFrame l) s fun t =>
    t.leg.err = true ∧ t.leg.ready = false ∧ t.on wHost HOST_STATUS.SPI_SHORT = true ∧ t.leg.irqEn = s.leg.irqEn) ∧
  (∀ (c : Instr) (s : State), IsLegacyPut c = true → s.gxOn = true → s.leg.framing = true → s.uncfg = true →
    Completes c s fun t => t.leg.err = true ∧ t.leg.busy = false ∧ t.outs = [.xb s.xbMiso] ∧ OnlyTouches [.leg, .outs] s t) ∧
  (∀ (s : State) (p : Fin 6) (m : Fin 16), s.gxOn = true → s.leg.framing = true → s.uncfg = true → Completes (.legacyMailboxTake p m) s fun t =>
    t.host.legacyRead = some (0x2000 + 256 * p.val + 16 * m.val, 0) ∧ t.leg.boxes = s.leg.boxes ∧ t.leg.ctr = s.leg.ctr ∧ t.leg.ready = true ∧ t.leg.err = false ∧ t.regs = s.regs) ∧
  (∀ (s : State) (k : Fin 10), s.gxOn = true → s.leg.framing = true → s.uncfg = true → Completes (.legacyCounterSnapshot k) s fun t =>
    t.host.legacyRead = some ((if k.val < 6 then 0x108 + 0x40 * k.val else 0x408 + 0x20 * (k.val - 6)), 0) ∧ t.leg.boxes = s.leg.boxes ∧ t.leg.ctr = s.leg.ctr ∧ t.leg.ready = true ∧ t.leg.err = false ∧ t.regs = s.regs) ∧
  (∀ (s : State) (k v : Byte), s.gxOn = true → s.leg.framing = true → s.uncfg = false → s.tblOwner = 0 → s.tblBusy = false → 8 < (s.slotDests k.toNat).length → Completes (.legacyRouteSlotCommit k v) s fun t =>
    t.leg.err = true ∧ t.leg.busy = false ∧ t.bench = s.bench ∧ t.on wDlist UNIT_STICKY.VIOL = true) ∧
  (∀ (s : State) (p : Fin 6) (m : Fin 16) (v : Byte), s.gxOn = true → s.leg.framing = true → s.uncfg = false → LegacyOpen s (wCan p) 0x201 → s.storeRefusedFor p m = true → Completes (.legacyMailboxStore p m v) s fun t =>
    t.leg.err = true ∧ t.leg.boxes = s.leg.boxes ∧ t.on (wCan p) UNIT_STICKY.VIOL = true ∧ t.obj p m CAN_OBJ_VIEW.TYPE = s.obj p m CAN_OBJ_VIEW.TYPE ∧
    t.obj p m CAN_OBJ_VIEW.TXRQ = s.obj p m CAN_OBJ_VIEW.TXRQ) ∧
  (∀ (s : State) (p : Fin 6) (listen : Bool), s.gxOn = true → s.leg.framing = true → s.uncfg = false → s.on (wCan p) CAN_CFG.EN = false → s.xbBitsOk p = false → Completes (.legacyCanEnable p listen) s fun t =>
    t.leg.err = true ∧ t.on (wCan p) CAN_CFG.EN = false ∧ t.on (wCan p) UNIT_STICKY.VIOL = true ∧ t.canState p = s.canState p) ∧
  (∀ (s : State), s.gxOn = true → s.leg.framing = true → s.uncfg = false → s.legMode = 2 → recSlots s.legacyRecs ≠ [] → s.tblOwner ≠ 0 → Completes .legacySrst s fun t =>
    t.leg.busy = true ∧ t.leg.err = false ∧ t.regs = s.regs ∧ t.bench = s.bench ∧ t.leg.boxes = s.leg.boxes) ∧
  (∀ (s : State), s.gxOn = true → s.leg.framing = true → s.uncfg = false → s.legMode = 1 → LegacyOpen s wPwr 0x141 → s.pwr.tampered = true ∨ s.isSafe wPwr = true ∨ s.on wPwr PWR_CTRL.PARK = true → Completes .legacySleep s fun t =>
    t.leg.err = true ∧ t.on wPwr UNIT_STICKY.VIOL = true ∧ t.pwr = s.pwr ∧ t.rd wPwr PWR_CTRL.PARK = s.rd wPwr PWR_CTRL.PARK) ∧
  (∀ (s : State) (v : Byte), s.gxOn = true → s.leg.framing = true → s.uncfg = false → s.legMode = 2 → Completes (.legacyUpdData v) s fun t =>
    t.leg.err = true ∧ t.leg.upd = s.leg.upd ∧ t.upd = s.upd) ∧
  (∀ (s : State), s.gxOn = true → s.leg.framing = true → s.uncfg = false → s.legMode = 2 → Completes .legacyUpdActivate s fun t =>
    t.leg.err = true ∧ t.stg = s.stg ∧ t.rd wUpd UPD_ACT_TGT.CFG = s.rd wUpd UPD_ACT_TGT.CFG) ∧
  (∀ (s : State), s.gxOn = true → s.leg.framing = true → s.uncfg = false → s.legMode = 1 → s.stg ≠ stgInstalled → Completes .legacyUpdActivate s fun t =>
    t.leg.err = true ∧ t.stg = s.stg ∧ t.on wUpd UNIT_STICKY.VIOL = true) ∧
  (∀ (s : State) (p : Fin 6) (listen : Bool), s.gxOn = true → s.leg.framing = true → s.uncfg = false → LegacyOpen s (wCan p) 0x170 → s.on (wCan p) CAN_CFG.EN = false → s.xbBitsOk p = true → s.isSafe (wCan p) = true ∨ 5 * quanta (s.xbBits p).1 (s.xbBits p).2.1 < 80 → Completes (.legacyCanEnable p listen) s fun t =>
    t.leg.err = true ∧ t.on (wCan p) CAN_CFG.EN = false ∧ t.on (wCan p) UNIT_STICKY.VIOL = true ∧ t.rd (wCan p) CAN_NBT.BRP = s.rd (wCan p) CAN_NBT.BRP)

/-- The queue of waiting commands is the model's (R79: accesses take effect in the order they were issued). With c at the front, step is exec c on the state with the rest of the queue. On an empty queue, which is the model's choice (log entry 2), the model's clock advances by one cycle, AX0 alone moves with it, and no register changes. -/
def Obligations.StepRunsTheFrontCommand : Prop :=
  (∀ (c : Instr) (s : State) (rest : List Instr), s.pending = c :: rest → step s = exec c (s.setPending rest)) ∧
  (∀ s : State, s.pending = [] → step s = .next s.idle ∧ s.idle.clk = s.clk + 1 ∧ OnlyTouches [.ax0, .clk, .outs] s s.idle)

/-- R19, R20: State.reset lists no register, so each field of each window reads the reset value of its card, a field loaded from the image 0. No command waits. The reset values the spec does not give are the model's own (the log entries marked DESIGN CHOICE or PRESUMED); this statement names none of them. -/
def Obligations.ResetState : Prop :=
  Canon State.reset ∧ State.reset.pending = [] ∧ ∀ w f i, f ∈ fieldsAt w → State.reset.rd w f i = f.reset

/-- Every command in every state answers a next state, no fault and no refusal, with the queue it was given. The invariant Canon: the register file, the write buffers, the holds and the axes list strictly rising keys and no entry equal to what an unlisted key reads as; the trouble log holds at most 64 records (R453), the Spoil log at most 1,024 (R457), and the count of starts fits its register. Whatever the command at the front and the state, a next state keeps it, and the queue is the former one without its front. -/
def Obligations.StepKeepsCanon : Prop :=
  (∀ s t : State, Canon s → step s = .next t → Canon t ∧ t.pending = s.pending.tail) ∧
  (∀ (c : Instr) (s : State), ∃ t, exec c s = .next t ∧ t.pending = s.pending)

/-- R8. For every CMD field of every window of the map, and for every command of the table that is such a write: if the register is open to the initiator and the field reads 1, the window sets VIOL (the MDIO registers exist on ETH0 to ETH5 only), and nothing changes but the record of the violation, the logs and what they raise; the field still reads 1. -/
def Obligations.BusyCommandIsAViolation : Prop :=
  (∀ (s : State) (init : Initiator) (w : Nat) (f : Field) (b : Byte), f ∈ fieldsAt w → f.acc = .cmd → WriteOpen s init w f.ofs →
    (f = ETH_MDIO_CTRL.GO → w < wEth 6) → b.getLsbD f.lo = true → s.on w f (s.selOf w f.ofs) = true →
    Completes (.registerWrite init (addrOf w f.ofs) b) s fun t => Violation s t w ∧ t.on w f (s.selOf w f.ofs) = true) ∧
  ((∀ (w : BitVec 12) (l : Bool), BusyRefused (fun i => .unitReset i w l) w.toNat UNIT_CTRL.URST) ∧
    (∀ rw : Fin 4, BusyRefused (.tblCommit · rw) wTables TBL_CTRL.COMMIT) ∧ (∀ rw : Fin 4, BusyRefused (.tblAbort · rw) wTables TBL_CTRL.ABORT) ∧
    (∀ rw : Fin 4, BusyRefused (.tblAcquire · rw) wTables TBL_CTRL.ACQUIRE) ∧ (∀ rw : Fin 4, BusyRefused (.tblRelease · rw) wTables TBL_CTRL.RELEASE) ∧
    (∀ p : Fin 16, BusyRefused (.hopperFlush · p) (wHop p) HOP_CTRL.FLUSH) ∧ (∀ p : Fin 16, BusyRefused (.ethSleepCmd · p) (wEth p) ETH_CTRL.SLEEP) ∧
    (∀ p : Fin 16, BusyRefused (.ethWakeCmd · p) (wEth p) ETH_CTRL.WAKE) ∧ (∀ p : Fin 16, BusyRefused (.ethRetrainCmd · p) (wEth p) ETH_CTRL.RETRAIN) ∧
    (∀ p : Fin 16, BusyRefused (.ethPhyResetCmd · p) (wEth p) ETH_CTRL.PHY_RESET) ∧
    (∀ (p : Fin 6) (l : Fin 128), BusyRefused (.mdioGo · p l) (wEth p) ETH_MDIO_CTRL.GO) ∧
    (∀ l : Fin 128, BusyRefused (.l2RehashStart · l) wL2 L2_REHASH.START) ∧ BusyRefused .l2CmdRead wL2 L2_CMD.GO ∧
    BusyRefused .l2CmdStageStatic wL2 L2_CMD.GO ∧ BusyRefused .l2CmdStageDelete wL2 L2_CMD.GO ∧ BusyRefused .l2CmdRemoveLearned wL2 L2_CMD.GO ∧
    BusyRefused .l2CmdFlushPort wL2 L2_CMD.GO ∧ BusyRefused .l2CmdFlushFid wL2 L2_CMD.GO ∧ (∀ x : Bool, BusyRefused (.l2CmdBadOp · x) wL2 L2_CMD.GO) ∧
    (∀ x : Bool, BusyRefused (.seamStageInsert · x) wSeam SEAM_CMD.GO) ∧ (∀ x : Bool, BusyRefused (.seamStageDelete · x) wSeam SEAM_CMD.GO) ∧
    (∀ x : Bool, BusyRefused (.seamTestLookup · x) wSeam SEAM_CMD.GO) ∧ (∀ x : Bool, BusyRefused (.seamBadOp · x) wSeam SEAM_CMD.GO) ∧
    (∀ p : Fin 16, BusyRefused (.canRecoverCmd · p) (wCan p) CAN_CTRL.RECOVER) ∧ (∀ p : Fin 16, BusyRefused (.canObjTake · p) (wCan p) CAN_OBJ_CMD.TAKE) ∧
    (∀ p : Fin 16, BusyRefused (.canObjStore · p) (wCan p) CAN_OBJ_CMD.STORE) ∧ (∀ p : Fin 16, BusyRefused (.canObjSend · p) (wCan p) CAN_OBJ_CMD.SEND) ∧
    (∀ p : Fin 16, BusyRefused (.canObjAbort · p) (wCan p) CAN_OBJ_CMD.ABORT) ∧
    (∀ (p : Fin 12) (k : Fin 8), BusyRefused (.linSchedGo · p k) (wLin p) LIN_SCHED_CMD.GO) ∧ BusyRefused .pduSendCmd wPdu PDU_CMD.SEND ∧
    BusyRefused .wbRefill wWeigh WB_CMD.REFILL ∧ BusyRefused .ax0Step (wAx 0) AX0_CTRL.STEP ∧ BusyRefused .ax0Mark (wAx 0) AX0_CTRL.MARK ∧
    BusyRefused .ax0Unsync (wAx 0) AX0_CTRL.UNSYNC ∧ BusyRefused .eventArm wEvp EVP_CMD.ARM ∧ BusyRefused .eventDisarm wEvp EVP_CMD.DISARM ∧
    BusyRefused .eventGroupArm wEvp EVP_CMD.GARM ∧ BusyRefused .eventGroupDisarm wEvp EVP_CMD.GDIS ∧ BusyRefused .chgResume wChannels CHG_CTRL.RESUME ∧
    (∀ n : Fin 72, BusyRefused (.chClear · n) (wCh n) CH_CMD.CLEAR) ∧ (∀ n : Fin 72, BusyRefused (.chDiagCmd · n) (wCh n) CH_CMD.DIAG) ∧
    (∀ k : Fin 6, BusyRefused (.meSetpos · k) (wME k) ME_CTRL.SETPOS) ∧ BusyRefused .pwrPark wPwr PWR_CTRL.PARK ∧
    BusyRefused .pwrCancel wPwr PWR_CTRL.CANCEL ∧ BusyRefused .softReset wPwr PWR_CTRL.SOFT ∧
    (∀ a b : Bool, BusyRefused (.trmLcAdvance · a b) wAttest TRM_CMD.GO) ∧ (∀ (a b : Bool) (x : Fin 8), BusyRefused (.trmRootInstall · a b x) wAttest TRM_CMD.GO) ∧
    (∀ a b : Bool, BusyRefused (.trmDebugOpen · a b) wAttest TRM_CMD.GO) ∧ BusyRefused .trmDebugClose wAttest TRM_CMD.GO ∧
    BusyRefused .trmNonce wAttest TRM_CMD.GO ∧ (∀ a b : Bool, BusyRefused (.trmHssInstall · a b) wAttest TRM_CMD.GO) ∧
    BusyRefused .trmAttest wAttest TRM_CMD.GO ∧ BusyRefused .trmRelease wAttest TRM_CMD.GO ∧ (∀ x : Fin 8, BusyRefused (.trmBadOp · x) wAttest TRM_CMD.GO) ∧
    BusyRefused .ksCommit wKS KS_CMD.COMMIT ∧ BusyRefused .ksDiscard wKS KS_CMD.DISCARD ∧ BusyRefused .ksPersist wKS KS_CMD.PERSIST ∧
    BusyRefused .updConfirm wUpd UPD_FW_CTRL.CONFIRM ∧ BusyRefused .updDiscard wUpd UPD_FW_CTRL.DISCARD ∧ BusyRefused .updArm wUpd UPD_FW_CTRL.ARM ∧
    BusyRefused .updCancel wUpd UPD_FW_CTRL.CANCEL ∧ BusyRefused .updRecover wUpd UPD_FW_CTRL.RECOVER)

/-- R495, its first two sentences: in every window, a byte that would set more than one CMD field of an open register changes nothing but the record of the violation, and an empty VIOL_ADDR names the address, the initiator, the kind 8 and the byte. -/
def Obligations.TwoCommandsInOneWriteAreRefused : Prop :=
  ∀ (s : State) (init : Initiator) (w ofs : Nat) (b : Byte), WriteOpen s init w ofs → ofs < 4096 →
    2 ≤ ((fieldsIn w ofs).filter fun f => f.acc == .cmd && b.getLsbD f.lo).length →
    Completes (.registerWrite init (addrOf w ofs) b) s fun t => Violation s t w ∧
    (s.rd w VIOL_ADDR.INIT = 0 → t.rd w VIOL_ADDR.ADDR = w * 4096 + ofs ∧ t.rd w VIOL_ADDR.INIT = init.code ∧
    t.rd w VIOL_ADDR.KIND = 8 ∧ t.on w VIOL_ADDR.WR = true ∧ t.rd w VIOL_ADDR.WDATA = b.toNat)

/-- R91. In every window: a byte written to UNIT_STICKY with VIOL's bit clears VIOL_ADDR with VIOL; with CFG_PARITY's bit it clears FAULT_ADDR when CAUSE is 1, with FAULT's bit when CAUSE is 2 to 4. Then the next violation (a busy CMD field written), the next parity mismatch and the next unit watchdog expiry write the whole record. -/
def Obligations.ClearingStickyBitsClearsTheirRecords : Prop :=
  (∀ (s : State) (init : Initiator) (w : BitVec 12) (b : Byte), WriteOpen s init w.toNat 0x21 → s.on w.toNat UNIT_STICKY.VIOL = true → b.getLsbD 6 = true → Completes (.registerWrite init (addrOf w.toNat 0x21) b) s fun t =>
    t.on w.toNat UNIT_STICKY.VIOL = false ∧ t.rd w.toNat VIOL_ADDR.ADDR = 0 ∧ t.rd w.toNat VIOL_ADDR.INIT = 0 ∧ t.rd w.toNat VIOL_ADDR.KIND = 0 ∧
    t.on w.toNat VIOL_ADDR.WR = false ∧ t.on w.toNat VIOL_ADDR.OVR = false ∧ t.rd w.toNat VIOL_ADDR.WDATA = 0) ∧
  (∀ (s : State) (init : Initiator) (w : BitVec 12) (b : Byte), WriteOpen s init w.toNat 0x21 → s.on w.toNat UNIT_STICKY.CFG_PARITY = true → b.getLsbD 7 = true → s.rd w.toNat FAULT_ADDR.CAUSE = 1 → Completes (.registerWrite init (addrOf w.toNat 0x21) b) s fun t =>
    t.on w.toNat UNIT_STICKY.CFG_PARITY = false ∧ t.rd w.toNat FAULT_ADDR.CAUSE = 0 ∧ t.on w.toNat FAULT_ADDR.OVR = false ∧
    t.rd w.toNat FAULT_ADDR.OFS = 0) ∧
  (∀ (s : State) (init : Initiator) (w : BitVec 12) (b : Byte), WriteOpen s init w.toNat 0x21 → s.on w.toNat UNIT_STICKY.FAULT = true → b.getLsbD 4 = true → 2 ≤ s.rd w.toNat FAULT_ADDR.CAUSE ∧ s.rd w.toNat FAULT_ADDR.CAUSE ≤ 4 → Completes (.registerWrite init (addrOf w.toNat 0x21) b) s fun t =>
    t.on w.toNat UNIT_STICKY.FAULT = false ∧ t.rd w.toNat FAULT_ADDR.CAUSE = 0 ∧ t.on w.toNat FAULT_ADDR.OVR = false ∧
    t.rd w.toNat FAULT_ADDR.OFS = 0) ∧
  (∀ (s : State) (init : Initiator) (w : Nat) (f : Field) (b : Byte), f ∈ fieldsAt w → f.acc = .cmd → WriteOpen s init w f.ofs →
    (f = ETH_MDIO_CTRL.GO → w < wEth 6) → b.getLsbD f.lo = true → s.on w f (s.selOf w f.ofs) = true → s.rd w VIOL_ADDR.INIT = 0 →
    Completes (.registerWrite init (addrOf w f.ofs) b) s fun t => t.on w UNIT_STICKY.VIOL = true ∧
    t.rd w VIOL_ADDR.ADDR = w * 4096 + f.ofs ∧ t.rd w VIOL_ADDR.INIT = init.code ∧ 0 < t.rd w VIOL_ADDR.KIND ∧ t.on w VIOL_ADDR.WR = true ∧
    t.rd w VIOL_ADDR.WDATA = b.toNat ∧ t.rd w VIOL_ADDR.OVR = s.rd w VIOL_ADDR.OVR) ∧
  (∀ (s : State) (w : BitVec 12) (k : Fin 512), (unitOf w.toNat).isSome = true → s.unitState w.toNat ≠ usOff → parityGroup w.toNat k.val = true → s.rd w.toNat FAULT_ADDR.CAUSE = 0 → Completes (.scrubCheck w k true) s fun t =>
    t.on w.toNat UNIT_STICKY.CFG_PARITY = true ∧ t.rd w.toNat FAULT_ADDR.CAUSE = 1 ∧ t.rd w.toNat FAULT_ADDR.OFS = 8 * k.val ∧
    t.rd w.toNat FAULT_ADDR.OVR = s.rd w.toNat FAULT_ADDR.OVR) ∧
  (∀ (s : State) (w : BitVec 12), (unitOf w.toNat).isSome = true → w.toNat ≠ wMP → s.unitState w.toNat = usReady ∨ s.unitState w.toNat = usSafe → s.pwr.mpRun = true → s.unitState wMP = usReady → s.rd w.toNat FAULT_ADDR.CAUSE = 0 → Completes (.unitWatchdogExpiry w) s fun t =>
    t.on w.toNat UNIT_STICKY.FAULT = true ∧ t.rd w.toNat FAULT_ADDR.CAUSE = 4 ∧ t.rd w.toNat FAULT_ADDR.OFS = 0)

/-- R39. Remote windows, which the map assigns while they are mapped, apart: a read of any bytes of an unassigned window by any initiator that the registers are presented to gives zeros (so its DESC_ID class reads 0x0000) and changes nothing, and the read of one byte without side effects gives it 0; a byte written to it by any initiator changes nothing; and parent, child and sibling of every assigned window's DESC_LINK are 0 or an assigned window, or, under Derrick, a mapped remote window. -/
def Obligations.UnassignedWindows : Prop :=
  (∀ (s : State) (init : Initiator) (w : Nat) (l : List Nat) (spec : Bool), unitOf w = none →
    s.localRead init.code init.code w l spec = (s, some (l.map fun _ => 0))) ∧
  (∀ (s : State) (init : Initiator) (a : Addr), unitOf (a.toNat / 4096) = none → isRemote (a.toNat / 4096) = false → s.reaches init.code = true → Completes (.speculativeRead init a) s fun t =>
    t = (fresh s).emit (.readData init.code [0])) ∧
  (∀ (s : State) (init : Initiator) (a : Addr) (b : Byte), unitOf (a.toNat / 4096) = none → isRemote (a.toNat / 4096) = false → Quiet (.registerWrite init a b) s) ∧
  (∀ (s : State) (w v : Nat) (u : Machine.Unit), unitOf w = some u → v ∈ [s.descLink w u / 2 ^ 32, s.descLink w u / 2 ^ 16 % 2 ^ 16, s.descLink w u % 2 ^ 16] →
    (unitOf v).isSome = true ∨ w = wDerrick ∧ ∃ i, i ∈ s.mapped ∧ v = 0x800 + i)

/-- R45. The windows a fan-out reaches are windows of the map, and no window of the map is a remote one. If every fan-out that runs has only such windows still to write, the same holds after every command; and the command that writes a fan-out's next window sends no access to a peer. -/
def Obligations.FanoutsStayInTheModule : Prop :=
  (∀ (s : State) (w v : Nat), v ∈ s.fanReach w → v ∈ fixedWindows ∧ isRemote v = false) ∧
  (∀ (c : Instr) (s t : State), (∀ f ∈ s.fans, ∀ v ∈ f.todo, v ∈ fixedWindows ∧ isRemote v = false) → exec c s = .next t →
    ∀ f ∈ t.fans, ∀ v ∈ f.todo, v ∈ fixedWindows ∧ isRemote v = false)

/-- R13. Counting n in a tally of any window leaves the sum, or all ones where the sum is beyond it; all ones stay. In particular a full LINK_DOWNS stays full when a link is lost. -/
def Obligations.TalliesSaturate : Prop :=
  (∀ (s : State) (w : Nat) (f : Field) (i n : Nat), f ∈ fieldsAt w → f.acc = .tally → s.rd w f i < 2 ^ f.width →
    (s.count w f i n).rd w f i = Nat.min (2 ^ f.width - 1) (s.rd w f i + n)) ∧
  (∀ (s : State) (p : Fin 16), s.ethState p = ethUp → s.rd (wEth p) ETH_LINK_DOWNS.COUNT = 2 ^ ETH_LINK_DOWNS.COUNT.width - 1 → Completes (.ethLinkLost p) s fun t =>
    t.rd (wEth p) ETH_LINK_DOWNS.COUNT = s.rd (wEth p) ETH_LINK_DOWNS.COUNT)

/-- Whatever the state and operands, if the command answers a next state, at most the listed parts of the state differ from before; for the commands that reach nearly everything, the listed parts are the same. The pending interrupts, IRQ_N and the legacy counters are a part of their own. Commands of chapters 01 to 07. POWER_ON_RESET and AON_SUPPLY_LOST leave no part out. -/
def Obligations.FramesOfTheHostAndData : Prop :=
  (∀ (init : Initiator) (addr : Addr) (b : Byte), FrameBut (.registerWrite init addr b) [.clk]) ∧
    (∀ (init : Initiator) (addr : Addr), FrameOf (.liveValueMsbRead init addr) [.regs, .holds, .host, .fab, .flt, .can, .stamps, .drk, .draws, .outs, .irq]) ∧
    (∀ (init : Initiator) (addr : Addr), FrameOf (.tallySnapshotRead init addr) [.regs, .holds, .host, .fab, .flt, .can, .stamps, .drk, .draws, .outs, .irq]) ∧
    (∀ (init : Initiator) (addr : Addr), FrameOf (.speculativeRead init addr) [.regs, .holds, .host, .fab, .flt, .can, .stamps, .drk, .draws, .outs, .irq]) ∧
    (∀ (init : Initiator) (w : BitVec 12) (maj min : Byte), FrameBut (.interfaceHandshake init w maj min) [.clk]) ∧
    (∀ (init : Initiator) (grp : BitVec 12) (data : Byte), FrameOf (.fanoutStart init grp data) [.regs, .fans, .flt, .outs, .irq]) ∧
    (∀ (grp : BitVec 12), FrameBut (.fanoutWindowWrite grp) [.clk]) ∧
    (∀ (grp : BitVec 12), FrameOf (.fanoutComplete grp) [.regs, .fans, .outs]) ∧
    (∀ (w : BitVec 12), FrameOf (.summaryPropagate w) [.regs, .outs]) ∧
    (∀ (init : Initiator) (w : BitVec 12) (lock : Bool), FrameBut (.unitReset init w lock) [.holds, .cfg, .ax0, .pins, .upd, .clk, .draws]) ∧
    (∀ (w : BitVec 12), FrameBut (.unitReloadComplete w) [.clk]) ∧
    (∀ (w : BitVec 12) (k : Fin 512) (mismatch : Bool), FrameOf (.scrubCheck w k mismatch) [.regs, .host, .fab, .eth, .flt, .body, .guard, .axes, .drk, .outs, .irq]) ∧
    FrameBut .gxHeartbeatLost [.clk, .draws] ∧
    FrameBut .pinReset [.clk, .draws] ∧
    FrameBut .borBegin [.clk, .draws] ∧
    FrameOf .borEnd [.pins, .pwr, .outs, .irq] ∧
    (∀ (mv : Fin 4096), FrameOf (.modeSample mv) [.regs, .pwr, .leg, .outs, .irq]) ∧
    (∀ (k : Fin 4) (high : Bool), FrameOf (.limpInEdge k high) [.regs, .body, .outs]) ∧
    FrameOf .safeNUpdate [.regs, .outs] ∧
    FrameOf .gxPgoodHigh [.regs, .pins, .wake, .outs, .irq] ∧
    (∀ (xsrc : Bool), FrameOf (.gxResetRelease xsrc) [.regs, .wbuf, .cfg, .fab, .flt, .pins, .pwr, .trust, .leg, .outs, .irq]) ∧
    FrameOf .gxPgoodTimeout [.regs, .pins, .body, .wake, .outs, .irq] ∧
    FrameBut .gxPgoodLost [.clk, .draws] ∧
    FrameOf .offTimeEnd [.pins, .outs, .irq] ∧
    FrameBut .clockLoss [.clk, .draws] ∧
    (∀ (fix : Bool) (len : Fin 64) (addr : Addr) (rest : List Byte), FrameOf (.spiWriteFrame fix len addr rest) [.regs, .host, .flt, .leg, .outs, .irq]) ∧
    (∀ (fix : Bool) (len : Fin 64) (addr : Addr) (rest : List Byte) (late : Bool), FrameOf (.spiReadFrame fix len addr rest late) [.regs, .holds, .host, .fab, .flt, .can, .stamps, .drk, .leg, .draws, .outs, .irq]) ∧
    (∀ (n : Fin 4), FrameOf (.spiFrameTooShort n) [.regs, .host, .leg, .outs, .irq]) ∧
    FrameBut .spiWriteApply [.clk] ∧
    FrameOf .delayedReadPerform [.regs, .holds, .host, .fab, .flt, .can, .stamps, .drk, .draws, .outs, .irq] ∧
    FrameOf .delayedReadLeaseExpiry [.regs, .host, .flt, .drk, .outs, .irq] ∧
    (∀ (bar : Bar) (addr : Addr) (len : BitVec 13) (tag : Byte), FrameOf (.pcieReadRequest bar addr len tag) [.regs, .holds, .host, .fab, .flt, .can, .stamps, .drk, .draws, .outs, .irq]) ∧
    (∀ (bar : Bar) (addr : Addr) (data : List Byte), FrameBut (.pcieWriteRequest bar addr data) [.clk]) ∧
    FrameOf .pciePerstAssert [.regs, .host, .fab, .flt, .outs, .irq] ∧
    FrameOf .pcieLinkDown [.regs, .host, .fab, .flt, .outs, .irq] ∧
    (∀ (rate : Fin 3) (two : Bool), FrameOf (.pcieLinkUp rate two) [.regs, .host, .draws, .outs, .irq]) ∧
    (∀ (init : Initiator) (tx : Bool) (r : Fin 16) (v : BitVec 16), FrameOf (.ringTailWrite init tx r v) [.regs, .host, .fab, .flt, .outs, .irq]) ∧
    (∀ (init : Initiator) (tx : Bool) (r : Fin 16) (low : Fin 128), FrameOf (.ringEnSet init tx r low) [.regs, .host, .flt, .outs, .irq]) ∧
    (∀ (init : Initiator) (tx : Bool) (r : Fin 16) (low : Fin 128), FrameOf (.ringEnClear init tx r low) [.regs, .host, .fab, .flt, .outs, .irq]) ∧
    (∀ (tx : Bool) (r : Fin 16) (d : RingDesc), FrameOf (.ringDescFetch tx r d) [.regs, .host, .fab, .flt, .draws, .outs, .irq]) ∧
    (∀ (tx : Bool) (r : Fin 16), FrameOf (.ringWriteback tx r) [.regs, .host, .fab, .flt, .outs, .irq]) ∧
    (∀ (tx : Bool) (r : Fin 16) (wrote : Bool), FrameOf (.hostDmaError tx r wrote) [.regs, .host, .fab, .flt, .outs, .irq]) ∧
    (∀ (tx : Bool) (r : Fin 16), FrameOf (.ringDescLeaseExpiry tx r) [.regs, .host, .fab, .flt, .outs, .irq]) ∧
    (∀ (tx : Bool) (r : Fin 16), FrameOf (.imodIntervalEnd tx r) [.regs, .host, .outs, .irq]) ∧
    (∀ (v : Fin 64), FrameOf (.msixPendingSend v) [.host, .outs, .irq]) ∧
    FrameOf .irqNUpdate [.pins, .outs, .irq] ∧
    (∀ (sfdp : Option Sfdp) (fw : Option FwDir) (fails : List Byte), FrameOf (.nvmSfdpStepUp sfdp fw fails) [.regs, .host, .cfg, .fab, .eth, .flt, .pins, .pwr, .body, .can, .lin, .wake, .guard, .axes, .upd, .drk, .outs, .irq]) ∧
    (∀ (a b : SlotImage), FrameOf (.configSlotSelect a b) [.regs, .host, .cfg, .fab, .eth, .flt, .pwr, .body, .can, .lin, .wake, .guard, .axes, .drk, .leg, .outs, .irq]) ∧
    (∀ (k : Fin 3), FrameBut (.configPhaseInstall k) [.clk]) ∧
    (∀ (init : Initiator) (v : ViewTab) (next : Bool) (k : BitVec 16), FrameOf (.stageSelect init v next k) [.regs, .bench, .flt, .outs, .irq]) ∧
    (∀ (init : Initiator) (v : ViewTab) (data : List Byte), FrameOf (.stageEntryWrite init v data) [.regs, .bench, .flt, .outs, .irq]) ∧
    (∀ (init : Initiator) (rw : Fin 4), FrameOf (.tblAcquire init rw) [.regs, .bench, .flt, .outs, .irq]) ∧
    (∀ (init : Initiator) (rw : Fin 4), FrameOf (.tblCommit init rw) [.regs, .bench, .flt, .guard, .gw, .outs, .irq]) ∧
    (∀ (init : Initiator) (rw : Fin 4), FrameOf (.tblAbort init rw) [.regs, .bench, .tbl, .flt, .outs, .irq]) ∧
    (∀ (init : Initiator) (rw : Fin 4), FrameOf (.tblRelease init rw) [.regs, .bench, .flt, .outs, .irq]) ∧
    FrameOf .tblLeaseExpiry [.regs, .bench, .tbl, .flt, .outs, .irq] ∧
    FrameOf .commitDrainEnd [.bench, .outs] ∧
    FrameOf .commitReclaimDone [.regs, .bench, .tbl, .leg, .outs, .irq] ∧
    FrameOf .splitTableSwitch [.regs, .bench, .fab, .tbl, .guard, .gw, .outs, .irq] ∧
    FrameOf .flowHoldExpiry [.regs, .bench, .fab, .outs, .irq] ∧
    (∀ (p : Fin 16) (x : EthRx), FrameOf (.ethFrameReceived p x) [.regs, .host, .fab, .eth, .flt, .pins, .pwr, .body, .can, .lin, .wake, .guard, .drk, .outs, .irq]) ∧
    FrameOf .cutThroughEnqueue [.regs, .host, .fab, .eth, .flt, .pins, .pwr, .body, .can, .lin, .wake, .drk, .outs, .irq] ∧
    FrameOf .frameClassify [.regs, .host, .fab, .eth, .tbl, .flt, .pins, .pwr, .body, .can, .lin, .wake, .guard, .gw, .drk, .outs, .irq] ∧
    (∀ (c : Fin 4096) (e : Fin 4), FrameOf (.authVerify c e) [.regs, .host, .fab, .eth, .flt, .pins, .pwr, .body, .can, .lin, .wake, .guard, .gw, .drk, .outs, .irq]) ∧
    (∀ (c : Fin 4096) (e : Fin 4), FrameOf (.authAppend c e) [.regs, .host, .fab, .eth, .flt, .pins, .pwr, .body, .can, .lin, .wake, .guard, .stamps, .drk, .outs, .irq]) ∧
    (∀ (c : Fin 4096) (e : Fin 4), FrameOf (.authCeilWrite c e) [.regs, .host, .fab, .eth, .flt, .pins, .pwr, .body, .can, .lin, .wake, .guard, .gw, .stamps, .drk, .outs, .irq]) ∧
    (∀ (init : Initiator) (v : BitVec 24), FrameOf (.authEpochWrite init v) [.regs, .flt, .guard, .outs, .irq]) ∧
    (∀ (o : KeyOp), FrameOf (.keySessionLeaseExpiry o) [.regs, .host, .fab, .eth, .flt, .pins, .pwr, .body, .can, .lin, .wake, .guard, .drk, .outs, .irq]) ∧
    (∀ (p : Fin 16), FrameOf (.egressDequeue p) [.regs, .host, .fab, .eth, .flt, .pins, .pwr, .body, .can, .lin, .wake, .guard, .stamps, .drk, .draws, .outs, .irq]) ∧
    (∀ (p : Fin 16), FrameOf (.egressLastByteSent p) [.regs, .host, .fab, .eth, .flt, .pins, .pwr, .body, .can, .lin, .wake, .guard, .drk, .outs, .irq]) ∧
    (∀ (p : Fin 16), FrameOf (.ctUnderrun p) [.regs, .host, .fab, .eth, .flt, .pins, .pwr, .body, .can, .lin, .wake, .guard, .drk, .outs, .irq]) ∧
    (∀ (x : CellRead), FrameOf (.stockpileEccUncorr x) [.regs, .host, .fab, .eth, .flt, .pins, .pwr, .body, .can, .lin, .wake, .guard, .drk, .outs, .irq]) ∧
    (∀ (h : CellHolder), FrameOf (.stockpileLeaseExpiry h) [.regs, .host, .fab, .eth, .flt, .pins, .pwr, .body, .can, .lin, .wake, .guard, .drk, .outs, .irq]) ∧
    (∀ (init : Initiator) (p : Fin 16), FrameOf (.hopperFlush init p) [.regs, .host, .fab, .flt, .outs, .irq]) ∧
    (∀ (p : Fin 16), FrameOf (.flushComplete p) [.regs, .outs, .irq]) ∧
    (∀ (k : Fin 256), FrameOf (.frerResetTimeout k) [.regs, .fab, .outs, .irq]) ∧
    (∀ (init : Initiator) (p : Fin 16) (low : Fin 128), FrameOf (.ethEnable init p low) [.regs, .host, .fab, .eth, .flt, .pwr, .body, .lin, .wake, .guard, .drk, .outs, .irq]) ∧
    (∀ (init : Initiator) (p : Fin 16) (low : Fin 128), FrameOf (.ethDisable init p low) [.regs, .host, .fab, .eth, .flt, .pwr, .body, .lin, .wake, .guard, .drk, .outs, .irq]) ∧
    (∀ (p : Fin 16) (r : EthRate) (full : Bool), FrameOf (.ethLinkUp p r full) [.regs, .host, .fab, .eth, .flt, .drk, .outs, .irq]) ∧
    (∀ (p : Fin 16), FrameOf (.ethLinkTimeout p) [.regs, .host, .fab, .eth, .flt, .drk, .outs, .irq]) ∧
    (∀ (p : Fin 16), FrameOf (.ethLinkLost p) [.regs, .host, .fab, .eth, .flt, .pwr, .body, .lin, .wake, .guard, .drk, .outs, .irq]) ∧
    (∀ (init : Initiator) (p : Fin 16), FrameOf (.ethSleepCmd init p) [.regs, .host, .fab, .eth, .flt, .drk, .outs, .irq]) ∧
    (∀ (init : Initiator) (p : Fin 16), FrameOf (.ethWakeCmd init p) [.regs, .host, .fab, .eth, .flt, .pwr, .body, .lin, .wake, .drk, .outs, .irq]) ∧
    (∀ (init : Initiator) (p : Fin 16), FrameOf (.ethRetrainCmd init p) [.regs, .host, .fab, .eth, .flt, .guard, .drk, .outs, .irq]) ∧
    (∀ (init : Initiator) (p : Fin 16), FrameOf (.ethPhyResetCmd init p) [.regs, .eth, .flt, .outs, .irq]) ∧
    (∀ (p : Fin 16), FrameOf (.phyResetPulseEnd p) [.regs, .eth, .outs]) ∧
    FrameOf .phyRstRelease [.eth, .outs] ∧
    (∀ (init : Initiator) (p : Fin 16) (v : Byte), FrameOf (.ethLoopWrite init p v) [.regs, .host, .fab, .eth, .flt, .guard, .drk, .outs, .irq]) ∧
    (∀ (p : Fin 16), FrameOf (.ethSleepDrainEnd p) [.regs, .host, .fab, .eth, .flt, .pwr, .body, .lin, .wake, .guard, .drk, .outs, .irq]) ∧
    (∀ (p : Fin 16), FrameOf (.ethSleepDrainTimeout p) [.regs, .host, .fab, .eth, .flt, .drk, .outs, .irq]) ∧
    (∀ (p : Fin 16), FrameOf (.ethSleepAckReceived p) [.regs, .host, .fab, .eth, .flt, .pwr, .body, .lin, .wake, .guard, .drk, .outs, .irq]) ∧
    (∀ (p : Fin 16), FrameOf (.ethSleepAckTimeout p) [.regs, .host, .fab, .eth, .flt, .drk, .outs, .irq]) ∧
    (∀ (p : Fin 16), FrameOf (.ethSleepRequestReceived p) [.regs, .host, .fab, .eth, .flt, .drk, .outs, .irq]) ∧
    (∀ (p : Fin 16), FrameOf (.ethWakeRequestReceived p) [.regs, .host, .fab, .eth, .flt, .pins, .pwr, .body, .lin, .wake, .drk, .outs, .irq]) ∧
    (∀ (p : Fin 16), FrameOf (.ethWakePulseDetected p) [.regs, .host, .fab, .eth, .flt, .pins, .pwr, .body, .lin, .wake, .drk, .outs, .irq]) ∧
    (∀ (p : Fin 16), FrameOf (.ethPhyInt p) [.regs, .host, .fab, .eth, .flt, .pins, .pwr, .body, .lin, .wake, .drk, .outs, .irq]) ∧
    (∀ (init : Initiator) (p : Fin 6) (low : Fin 128), FrameOf (.mdioGo init p low) [.regs, .eth, .flt, .outs, .irq]) ∧
    (∀ (bus : Fin 2) (resp : Option (BitVec 16)), FrameOf (.mdioDone bus resp) [.regs, .host, .fab, .eth, .flt, .pwr, .body, .lin, .wake, .drk, .outs, .irq]) ∧
    FrameOf .learnEngineWrite [.regs, .tbl, .outs, .irq] ∧
    (∀ (b : Fin 8192), FrameOf (.agerVisit b) [.tbl, .outs]) ∧
    FrameOf .ageRemoval [.regs, .tbl, .outs, .irq] ∧
    (∀ (init : Initiator) (low : Fin 128), FrameOf (.l2RehashStart init low) [.regs, .flt, .outs, .irq]) ∧
    FrameOf .rehashPassEnd [.regs, .tbl, .outs, .irq] ∧
    FrameOf .rehashStallRetry [.regs, .tbl, .outs, .irq] ∧
    (∀ (init : Initiator), FrameOf (.l2CmdRead init) [.regs, .bench, .tbl, .flt, .draws, .outs, .irq]) ∧
    (∀ (init : Initiator), FrameOf (.l2CmdStageStatic init) [.regs, .bench, .tbl, .flt, .draws, .outs, .irq]) ∧
    (∀ (init : Initiator), FrameOf (.l2CmdStageDelete init) [.regs, .bench, .tbl, .flt, .draws, .outs, .irq]) ∧
    (∀ (init : Initiator), FrameOf (.l2CmdRemoveLearned init) [.regs, .bench, .tbl, .flt, .draws, .outs, .irq]) ∧
    (∀ (init : Initiator), FrameOf (.l2CmdFlushPort init) [.regs, .bench, .tbl, .flt, .draws, .outs, .irq]) ∧
    (∀ (init : Initiator), FrameOf (.l2CmdFlushFid init) [.regs, .bench, .tbl, .flt, .draws, .outs, .irq]) ∧
    (∀ (init : Initiator) (seven : Bool), FrameOf (.l2CmdBadOp init seven) [.regs, .bench, .tbl, .flt, .draws, .outs, .irq]) ∧
    FrameOf .l2CmdComplete [.regs, .tbl, .outs, .irq] ∧
    (∀ (init : Initiator) (v6 : Bool), FrameOf (.seamStageInsert init v6) [.regs, .bench, .tbl, .flt, .outs, .irq]) ∧
    (∀ (init : Initiator) (v6 : Bool), FrameOf (.seamStageDelete init v6) [.regs, .bench, .tbl, .flt, .outs, .irq]) ∧
    (∀ (init : Initiator) (v6 : Bool), FrameOf (.seamTestLookup init v6) [.regs, .bench, .tbl, .flt, .outs, .irq]) ∧
    (∀ (init : Initiator) (v6 : Bool), FrameOf (.seamBadOp init v6) [.regs, .bench, .tbl, .flt, .outs, .irq]) ∧
    FrameOf .seamCmdComplete [.regs, .tbl, .outs, .irq] ∧
    FrameOf .pinResetEnd [.pins, .pwr, .outs, .irq] ∧
    FrameOf .pciePerstRelease [.host, .outs, .irq]

/-- Whatever the state and operands, if the command answers a next state, at most the listed parts of the state differ from before; for the commands that reach nearly everything, the listed parts are the same. The pending interrupts, IRQ_N and the legacy counters are a part of their own. Commands of chapters 08 to 12. -/
def Obligations.FramesOfTheBusesAndTime : Prop :=
  (∀ (init : Initiator) (p : Fin 16) (low : Fin 128), FrameOf (.canEnable init p low) [.regs, .host, .fab, .flt, .can, .outs, .irq]) ∧
    (∀ (init : Initiator) (p : Fin 16) (low : Fin 128), FrameOf (.canDisable init p low) [.regs, .host, .fab, .flt, .can, .outs, .irq]) ∧
    (∀ (p : Fin 16), FrameOf (.canIntegrateDone p) [.regs, .host, .fab, .flt, .can, .wake, .outs, .irq]) ∧
    (∀ (p : Fin 16) (f : CanRx), FrameOf (.canFrameReceived p f) [.regs, .host, .fab, .eth, .flt, .pins, .pwr, .body, .can, .lin, .wake, .drk, .outs, .irq]) ∧
    (∀ (p : Fin 16) (b : PxBit), FrameOf (.canProtocolException p b) [.regs, .host, .fab, .flt, .can, .outs, .irq]) ∧
    (∀ (p : Fin 16) (won : Bool), FrameOf (.canArbitration p won) [.regs, .host, .fab, .flt, .can, .outs, .irq]) ∧
    (∀ (p : Fin 16), FrameOf (.canFrameSent p) [.regs, .host, .fab, .flt, .can, .outs, .irq]) ∧
    (∀ (p : Fin 16) (transmitting : Bool) (inc : CanInc), FrameOf (.canBusError p transmitting inc) [.regs, .host, .fab, .flt, .can, .outs, .irq]) ∧
    (∀ (p : Fin 16), FrameOf (.canBusoffDelay p) [.regs, .outs]) ∧
    (∀ (init : Initiator) (p : Fin 16), FrameOf (.canRecoverCmd init p) [.regs, .flt, .outs, .irq]) ∧
    (∀ (p : Fin 16), FrameOf (.canBusoffRecovered p) [.regs, .wake, .outs, .irq]) ∧
    (∀ (init : Initiator) (p : Fin 16), FrameOf (.canObjTake init p) [.regs, .host, .fab, .flt, .can, .outs, .irq]) ∧
    (∀ (init : Initiator) (p : Fin 16), FrameOf (.canObjStore init p) [.regs, .host, .fab, .flt, .can, .outs, .irq]) ∧
    (∀ (init : Initiator) (p : Fin 16), FrameOf (.canObjSend init p) [.regs, .fab, .flt, .can, .outs, .irq]) ∧
    (∀ (init : Initiator) (p : Fin 16), FrameOf (.canObjAbort init p) [.regs, .flt, .can, .outs, .irq]) ∧
    (∀ (init : Initiator) (p : Fin 16) (n : Fin 2) (spec : Bool), FrameOf (.canFifoPop init p n spec) [.regs, .host, .fab, .flt, .can, .outs, .irq]) ∧
    (∀ (init : Initiator) (p : Fin 16) (n : Fin 2) (v : BitVec 96), FrameOf (.canFifoConfig init p n v) [.regs, .host, .fab, .flt, .can, .outs, .irq]) ∧
    (∀ (p : Fin 16), FrameOf (.cantTxdDomTimeout p) [.regs, .can, .outs, .irq]) ∧
    (∀ (p : Fin 16), FrameOf (.cantBusDomTimeout p) [.regs, .outs, .irq]) ∧
    (∀ (p : Fin 16), FrameOf (.cantOvertemp p) [.regs, .can, .outs, .irq]) ∧
    (∀ (p : Fin 16), FrameOf (.cantUndervoltage p) [.regs, .can, .outs, .irq]) ∧
    (∀ (p : Fin 16) (f : TrxFault), FrameOf (.cantFaultClear p f) [.can, .outs]) ∧
    (∀ (init : Initiator) (p : Fin 12) (low : Fin 128), FrameOf (.linEnable init p low) [.regs, .host, .fab, .flt, .lin, .outs, .irq]) ∧
    (∀ (init : Initiator) (p : Fin 12) (low : Fin 128), FrameOf (.linDisable init p low) [.regs, .host, .fab, .flt, .lin, .outs, .irq]) ∧
    (∀ (init : Initiator) (p : Fin 12) (t : Fin 8), FrameOf (.linSchedGo init p t) [.regs, .flt, .lin, .outs, .irq]) ∧
    (∀ (p : Fin 12), FrameOf (.linSlotStart p) [.regs, .lin, .outs, .irq]) ∧
    (∀ (p : Fin 12) (data : BitVec 64), FrameOf (.linResponseComplete p data) [.regs, .fab, .flt, .lin, .outs, .irq]) ∧
    (∀ (p : Fin 12), FrameOf (.linBitError p) [.regs, .lin, .outs, .irq]) ∧
    (∀ (p : Fin 12) (e : LinEnd), FrameOf (.linSlotEnd p e) [.regs, .host, .fab, .flt, .lin, .outs, .irq]) ∧
    (∀ (init : Initiator) (p : Fin 12) (e : Fin 64) (data : BitVec 64), FrameOf (.linHostCommit init p e data) [.regs, .host, .fab, .flt, .lin, .outs, .irq]) ∧
    (∀ (init : Initiator) (p : Fin 12) (e : Fin 128) (v : BitVec 32), FrameOf (.linSentryWrite init p e v) [.regs, .flt, .outs, .irq]) ∧
    (∀ (p : Fin 12), FrameOf (.lintTxdDomTimeout p) [.regs, .lin, .outs, .irq]) ∧
    (∀ (p : Fin 12), FrameOf (.lintBusDomTimeout p) [.regs, .outs, .irq]) ∧
    (∀ (p : Fin 12), FrameOf (.lintOvertemp p) [.regs, .lin, .outs, .irq]) ∧
    (∀ (e : Fin 4), FrameOf (.seExtract e) [.regs, .host, .fab, .flt, .guard, .gw, .outs, .irq]) ∧
    (∀ (k : Fin 65536), FrameOf (.signalTimeout k) [.regs, .gw, .outs, .irq]) ∧
    (∀ (init : Initiator) (v : BitVec 64), FrameOf (.sigValueWrite init v) [.regs, .flt, .guard, .gw, .outs, .irq]) ∧
    (∀ (k : Fin 65536), FrameOf (.bodySourceReport k) [.regs, .gw, .outs, .irq]) ∧
    FrameOf .sinkChOn [.regs, .body, .gw, .outs] ∧
    FrameOf .sinkChDuty [.regs, .gw, .outs] ∧
    FrameOf .sinkChPhase [.regs, .gw, .outs] ∧
    FrameOf .sinkMeMove [.regs, .body, .gw, .outs, .irq] ∧
    FrameOf .sinkMeMode [.regs, .body, .gw, .outs, .irq] ∧
    (∀ (j : Fin 8192), FrameOf (.pduCyclicDue j) [.regs, .gw, .outs, .irq]) ∧
    (∀ (init : Initiator), FrameOf (.pduSendCmd init) [.regs, .flt, .gw, .outs, .irq]) ∧
    (∀ (j : Fin 8192), FrameOf (.pduMdtExpiry j) [.regs, .gw, .outs, .irq]) ∧
    (∀ (j : Fin 8192), FrameOf (.pduRepeatExpiry j) [.regs, .gw, .outs, .irq]) ∧
    (∀ (e : Fin 4), FrameOf (.pduBuild e) [.regs, .host, .fab, .eth, .flt, .pins, .pwr, .body, .can, .lin, .wake, .gw, .upd, .drk, .outs, .irq]) ∧
    (∀ (init : Initiator), FrameOf (.wbRefill init) [.regs, .flt, .guard, .outs, .irq]) ∧
    (∀ (init : Initiator), FrameOf (.streamUnblock init) [.regs, .flt, .outs, .irq]) ∧
    (∀ (init : Initiator) (v : BitVec 96), FrameOf (.macsecScWrite init v) [.regs, .flt, .guard, .outs, .irq]) ∧
    (∀ (init : Initiator) (v : BitVec 224), FrameOf (.macsecSaWrite init v) [.regs, .flt, .guard, .outs, .irq]) ∧
    (∀ (init : Initiator) (autoSw : Bool), FrameOf (.macsecSwitch init autoSw) [.regs, .flt, .guard, .outs, .irq]) ∧
    (∀ (init : Initiator) (n : Fin 7) (low : Fin 128), FrameOf (.axisEnable init n low) [.regs, .flt, .axes, .evp, .outs, .irq]) ∧
    (∀ (init : Initiator) (n : Fin 7) (low : Fin 128), FrameOf (.axisDisable init n low) [.regs, .flt, .axes, .evp, .outs, .irq]) ∧
    (∀ (n : Fin 7) (up : Bool), FrameOf (.axisMeasuredUpdate n up) [.regs, .axes, .outs, .irq]) ∧
    (∀ (n : Fin 7), FrameOf (.axisStallTimeout n) [.regs, .axes, .outs, .irq]) ∧
    (∀ (init : Initiator), FrameOf (.ax0Step init) [.regs, .flt, .ax0, .evp, .outs, .irq]) ∧
    (∀ (init : Initiator), FrameOf (.ax0Mark init) [.regs, .flt, .outs, .irq]) ∧
    (∀ (init : Initiator), FrameOf (.ax0Unsync init) [.regs, .flt, .outs, .irq]) ∧
    (∀ (init : Initiator) (slew : Bool) (v : BitVec 32), FrameOf (.ax0ServoUpdate init slew v) [.regs, .flt, .ax0, .outs, .irq]) ∧
    FrameOf .ax0HoldoverTimeout [.regs, .outs, .irq] ∧
    FrameOf .ax0CopyUpdate [.ax0, .outs] ∧
    (∀ (p : Fin 16) (d : List Byte) (sec : BitVec 48) (ns : BitVec 32), FrameOf (.gptpFrameReceived p d sec ns) [.regs, .host, .fab, .flt, .ax0, .draws, .outs, .irq]) ∧
    (∀ (init : Initiator), FrameOf (.eventArm init) [.regs, .flt, .evp, .outs, .irq]) ∧
    (∀ (init : Initiator), FrameOf (.eventDisarm init) [.regs, .flt, .evp, .outs, .irq]) ∧
    (∀ (init : Initiator), FrameOf (.eventGroupArm init) [.regs, .flt, .evp, .outs, .irq]) ∧
    (∀ (init : Initiator), FrameOf (.eventGroupDisarm init) [.regs, .flt, .evp, .outs, .irq]) ∧
    FrameOf .eventPoolEvaluate [.regs, .flt, .axes, .evp, .outs, .irq] ∧
    FrameOf .actionMark [.regs, .flt, .evp, .outs, .irq] ∧
    FrameOf .actionLaunch [.regs, .host, .fab, .flt, .evp, .outs, .irq] ∧
    FrameOf .actionSendPdu [.regs, .flt, .gw, .evp, .outs, .irq] ∧
    FrameOf .actionGate [.regs, .fab, .flt, .evp, .outs, .irq] ∧
    FrameOf .actionSgate [.regs, .flt, .evp, .outs, .irq] ∧
    FrameOf .actionChOn [.regs, .flt, .body, .evp, .outs, .irq] ∧
    FrameOf .actionChDuty [.regs, .flt, .body, .evp, .outs, .irq] ∧
    FrameOf .actionChPhase [.regs, .flt, .body, .evp, .outs, .irq] ∧
    (∀ (x : PinReading), FrameOf (.actionSample x) [.regs, .flt, .gw, .evp, .outs, .irq]) ∧
    FrameOf .actionSetSignal [.regs, .flt, .guard, .gw, .evp, .outs, .irq] ∧
    FrameOf .actionMeMove [.regs, .flt, .body, .evp, .outs, .irq] ∧
    FrameOf .actionMeMode [.regs, .flt, .body, .evp, .outs, .irq] ∧
    FrameOf .actionGroups [.regs, .flt, .evp, .outs, .irq] ∧
    FrameOf .ixTimedActionApply [.regs, .flt, .body, .evp, .outs, .irq] ∧
    (∀ (r : Fin 16) (l : List RingDesc), FrameOf (.launchFetch r l) [.regs, .host, .fab, .flt, .draws, .outs, .irq]) ∧
    (∀ (init : Initiator) (spec : Bool), FrameOf (.stampTxqPop init spec) [.regs, .fab, .flt, .stamps, .outs, .irq]) ∧
    (∀ (p : Fin 16) (c : Fin 8), FrameOf (.stampWaitExpiry p c) [.regs, .fab, .stamps, .outs, .irq]) ∧
    (∀ (p : Fin 16), FrameOf (.stampAgeExpiry p) [.regs, .fab, .stamps, .outs, .irq]) ∧
    (∀ (init : Initiator) (spec : Bool), FrameOf (.stampMissPop init spec) [.regs, .fab, .flt, .stamps, .outs, .irq]) ∧
    (∀ (p : Fin 12) (f : TrxFault), FrameOf (.lintFaultClear p f) [.lin, .outs])

/-- Whatever the state and operands, if the command answers a next state, at most the listed parts of the state differ from before; for the commands that reach nearly everything, the listed parts are the same. The pending interrupts, IRQ_N and the legacy counters are a part of their own. Commands of chapters 13 to 21. -/
def Obligations.FramesOfTheBodyAndModule : Prop :=
  (∀ (init : Initiator) (n : Fin 72) (on : Bool), FrameOf (.chCommand init n on) [.regs, .flt, .body, .outs, .irq]) ∧
    (∀ (n : Fin 72), FrameOf (.chPeriodStart n) [.regs, .body, .outs]) ∧
    (∀ (n : Fin 72) (code : Fin 65536), FrameOf (.chCurrentSample n code) [.regs, .body, .gw, .outs, .irq]) ∧
    (∀ (n : Fin 72), FrameOf (.chShortCircuit n) [.regs, .body, .outs, .irq]) ∧
    (∀ (n : Fin 72) (ma : Fin 65536), FrameOf (.chOvercurrent n ma) [.regs, .body, .outs, .irq]) ∧
    (∀ (n : Fin 72), FrameOf (.chThermalTrip n) [.regs, .body, .outs, .irq]) ∧
    (∀ (n : Fin 72), FrameOf (.chThermalLatchClear n) [.regs, .body, .outs, .irq]) ∧
    (∀ (n : Fin 72), FrameOf (.chRetryDelayElapsed n) [.regs, .body, .outs, .irq]) ∧
    (∀ (n : Fin 72), FrameOf (.chFaultFreeSecond n) [.regs, .outs]) ∧
    (∀ (init : Initiator) (n : Fin 72), FrameOf (.chClear init n) [.regs, .flt, .outs, .irq]) ∧
    (∀ (init : Initiator) (n : Fin 72), FrameOf (.chDiagCmd init n) [.regs, .flt, .body, .outs, .irq]) ∧
    (∀ (n : Fin 72), FrameOf (.chOffStateTest n) [.body, .outs]) ∧
    (∀ (n : Fin 72) (v1 v2 : Fin 65536), FrameOf (.chOffTestComplete n v1 v2) [.regs, .body, .outs, .irq]) ∧
    (∀ (init : Initiator) (k : Fin 6) (mode : Fin 8), FrameOf (.hbModeChange init k mode) [.regs, .flt, .body, .outs, .irq]) ∧
    (∀ (k : Fin 6), FrameOf (.hbDeadTimeEnd k) [.regs, .body, .outs]) ∧
    (∀ (slug : BitVec 16), FrameOf (.thermUpdate slug) [.regs, .body, .outs, .irq]) ∧
    (∀ (k : Fin 6), FrameOf (.thermDerateStep k) [.regs, .outs, .irq]) ∧
    (∀ (k : Fin 6), FrameOf (.thermRestoreStep k) [.regs, .outs, .irq]) ∧
    (∀ (init : Initiator), FrameOf (.chgResume init) [.regs, .flt, .body, .outs, .irq]) ∧
    FrameOf .holdMaxExpiry [.regs, .body, .outs, .irq] ∧
    (∀ (n : Fin 64) (high : Bool), FrameOf (.swSample n high) [.regs, .host, .fab, .eth, .flt, .pins, .pwr, .body, .lin, .wake, .gw, .drk, .outs, .irq]) ∧
    (∀ (n : Fin 64) (high : Bool), FrameOf (.swEdge n high) [.regs, .host, .fab, .eth, .flt, .pins, .pwr, .body, .lin, .wake, .gw, .drk, .outs, .irq]) ∧
    (∀ (levels : BitVec 64), FrameOf (.cyclicSenseCycle levels) [.regs, .host, .fab, .eth, .flt, .pins, .pwr, .body, .lin, .wake, .drk, .outs, .irq]) ∧
    (∀ (n : Fin 16) (mv : BitVec 16), FrameOf (.anConversion n mv) [.regs, .body, .gw, .outs, .irq]) ∧
    (∀ (init : Initiator) (k : Fin 6) (en : Bool), FrameOf (.meEnable init k en) [.regs, .flt, .body, .outs, .irq]) ∧
    (∀ (init : Initiator) (k : Fin 6) (mode : Fin 8), FrameOf (.meModeWrite init k mode) [.regs, .flt, .body, .outs, .irq]) ∧
    (∀ (init : Initiator) (k : Fin 6) (target : BitVec 32), FrameOf (.meTargetWrite init k target) [.regs, .flt, .body, .outs, .irq]) ∧
    (∀ (init : Initiator) (k : Fin 6), FrameOf (.meSetpos init k) [.regs, .flt, .outs, .irq]) ∧
    (∀ (k : Fin 6) (volt : Fin 65536), FrameOf (.meRampStep k volt) [.regs, .body, .outs]) ∧
    (∀ (k : Fin 6) (us : Fin 65536) (volt : BitVec 16) (cur : BitVec 32) (crossing : Bool), FrameOf (.meRippleSample k us volt cur crossing) [.regs, .body, .gw, .outs, .irq]) ∧
    (∀ (k : Fin 6) (us : Fin 65536) (volt : BitVec 16) (cur : BitVec 32), FrameOf (.meRippleInsert k us volt cur) [.regs, .body, .gw, .outs, .irq]) ∧
    (∀ (k : Fin 6) (us : Fin 65536) (up : Bool), FrameOf (.meHallEdge k us up) [.regs, .body, .gw, .outs, .irq]) ∧
    (∀ (k : Fin 6), FrameOf (.meEndStop k) [.regs, .body, .outs, .irq]) ∧
    (∀ (k : Fin 6) (ma : Fin 65536), FrameOf (.meForceEstimate k ma) [.regs, .body, .outs, .irq]) ∧
    (∀ (k : Fin 6), FrameOf (.meReverseBrakeEnd k) [.regs, .body, .outs]) ∧
    (∀ (k : Fin 6), FrameOf (.meParkTimeout k) [.regs, .body, .outs, .irq]) ∧
    (∀ (k : Fin 6), FrameOf (.meSettleElapsed k) [.regs, .body, .outs, .irq]) ∧
    (∀ (n : Fin 44), FrameOf (.networkWakeDetected n) [.regs, .host, .fab, .eth, .flt, .pins, .pwr, .body, .lin, .wake, .drk, .outs, .irq]) ∧
    (∀ (p : Fin 16) (f : WufFrame), FrameOf (.cantWufFrameDecoded p f) [.regs, .host, .fab, .eth, .flt, .pins, .pwr, .body, .lin, .wake, .drk, .outs, .irq]) ∧
    FrameOf .wakeIoWake [.regs, .host, .fab, .eth, .flt, .pins, .pwr, .body, .lin, .wake, .drk, .outs, .irq] ∧
    FrameOf .wakeIoPulseEnd [.wake, .outs] ∧
    FrameOf .wkTimerExpiry [.regs, .host, .fab, .eth, .flt, .pins, .pwr, .body, .lin, .wake, .drk, .outs, .irq] ∧
    (∀ (init : Initiator) (v : BitVec 24), FrameOf (.pncLocalWrite init v) [.regs, .host, .fab, .eth, .flt, .pins, .pwr, .body, .lin, .wake, .drk, .outs, .irq]) ∧
    (∀ (h : HoldOf), FrameOf (.pncHoldExpiry h) [.regs, .host, .fab, .eth, .flt, .pwr, .body, .lin, .wake, .drk, .outs, .irq]) ∧
    (∀ (n : Fin 44), FrameOf (.netReadyDelayExpiry n) [.regs, .host, .fab, .eth, .flt, .pwr, .body, .lin, .wake, .drk, .outs, .irq]) ∧
    (∀ (n : Fin 44), FrameOf (.trxSwitchComplete n) [.regs, .host, .fab, .eth, .flt, .pwr, .body, .wake, .drk, .outs, .irq]) ∧
    (∀ (init : Initiator) (v : BitVec 64), FrameOf (.nmEnable init v) [.regs, .host, .fab, .eth, .flt, .pwr, .body, .lin, .wake, .drk, .outs, .irq]) ∧
    (∀ (p : Fin 16) (m : NmMsg), FrameOf (.nmMessageReceived p m) [.regs, .host, .fab, .eth, .flt, .pins, .pwr, .body, .can, .lin, .wake, .drk, .outs, .irq]) ∧
    (∀ (p : Fin 16), FrameOf (.nmTtypExpiry p) [.regs, .host, .fab, .eth, .flt, .pwr, .body, .can, .lin, .wake, .drk, .outs, .irq]) ∧
    (∀ (p : Fin 16), FrameOf (.nmTmaxTimeout p) [.regs, .pwr, .body, .wake, .outs, .irq]) ∧
    (∀ (p : Fin 16), FrameOf (.nmTerrTimer p) [.regs, .wake, .outs, .irq]) ∧
    (∀ (p : Fin 16), FrameOf (.nmTwbsExpiry p) [.regs, .host, .fab, .eth, .flt, .pwr, .body, .can, .lin, .wake, .drk, .outs, .irq]) ∧
    (∀ (p : Fin 12), FrameOf (.linWakeRestart p) [.regs, .lin, .wake, .outs]) ∧
    (∀ (init : Initiator), FrameOf (.pwrPark init) [.regs, .flt, .pwr, .body, .outs, .irq]) ∧
    (∀ (init : Initiator), FrameOf (.pwrCancel init) [.regs, .flt, .pwr, .outs, .irq]) ∧
    FrameOf .parkDelayExpiry [.regs, .pwr, .body, .outs, .irq] ∧
    FrameBut .parkEntryBegin [.clk, .draws] ∧
    FrameOf .parkMeWaitExpiry [.regs, .body, .outs, .irq] ∧
    (∀ (fail : Bool), FrameOf (.ixSelftestDone fail) [.pwr, .outs]) ∧
    (∀ (fails : List MemFail), FrameOf (.memorySelftestDone fails) [.pwr, .outs]) ∧
    (∀ (fail : Bool), FrameOf (.gxSelftestDone fail) [.regs, .pins, .pwr, .wake, .outs, .irq]) ∧
    FrameOf .deepAfterExpiry [.regs, .wbuf, .pwr, .outs] ∧
    (∀ (fails : List MemFail), FrameOf (.startupCheckDone fails) [.regs, .cfg, .fab, .pwr, .outs, .irq]) ∧
    (∀ (init : Initiator), FrameBut (.softReset init) [.clk, .draws]) ∧
    (∀ (src : Option Initiator), FrameOf (.mpwarmReset src) [.regs, .wbuf, .holds, .bench, .tbl, .flt, .pwr, .body, .trust, .outs, .irq]) ∧
    FrameOf .mpRestart [.regs, .pwr, .outs] ∧
    (∀ (init : Initiator) (ptr : Fin 8192), FrameOf (.trmClaim init ptr) [.regs, .flt, .outs, .irq]) ∧
    (∀ (init : Initiator) (w : Option Byte) (spec : Bool), FrameOf (.trmDataAccess init w spec) [.regs, .flt, .trust, .outs, .irq]) ∧
    FrameOf .trmLeaseExpiry [.regs, .flt, .trust, .outs, .irq] ∧
    (∀ (init : Initiator) (ecdsaOk hssOk : Bool), FrameOf (.trmLcAdvance init ecdsaOk hssOk) [.regs, .flt, .trust, .outs, .irq]) ∧
    (∀ (init : Initiator) (ecdsaOk hssOk : Bool) (live : Fin 8), FrameOf (.trmRootInstall init ecdsaOk hssOk live) [.regs, .flt, .trust, .outs, .irq]) ∧
    (∀ (init : Initiator) (ecdsaOk hssOk : Bool), FrameOf (.trmDebugOpen init ecdsaOk hssOk) [.regs, .flt, .trust, .outs, .irq]) ∧
    (∀ (init : Initiator), FrameOf (.trmDebugClose init) [.regs, .flt, .trust, .outs, .irq]) ∧
    (∀ (init : Initiator), FrameOf (.trmNonce init) [.regs, .flt, .trust, .outs, .irq]) ∧
    (∀ (init : Initiator) (ecdsaOk hssOk : Bool), FrameOf (.trmHssInstall init ecdsaOk hssOk) [.regs, .flt, .trust, .outs, .irq]) ∧
    (∀ (init : Initiator), FrameOf (.trmAttest init) [.regs, .flt, .trust, .outs, .irq]) ∧
    (∀ (init : Initiator), FrameOf (.trmRelease init) [.regs, .flt, .trust, .outs, .irq]) ∧
    (∀ (init : Initiator) (op : Fin 8), FrameOf (.trmBadOp init op) [.regs, .flt, .trust, .outs, .irq]) ∧
    (∀ (writeOk : Bool), FrameOf (.trustOpComplete writeOk) [.regs, .pwr, .body, .trust, .draws, .outs, .irq]) ∧
    FrameOf .debugSessionExpiry [.regs, .pwr, .body, .trust, .outs, .irq] ∧
    (∀ (init : Initiator) (k : Fin 40) (v : Byte), FrameOf (.ksShadowWrite init k v) [.regs, .flt, .trust, .outs, .irq]) ∧
    (∀ (k : Fin 256), FrameOf (.ksUnwrapDone k) [.regs, .trust, .outs, .irq]) ∧
    (∀ (init : Initiator), FrameOf (.ksCommit init) [.regs, .flt, .trust, .outs, .irq]) ∧
    (∀ (init : Initiator), FrameOf (.ksDiscard init) [.regs, .flt, .trust, .outs, .irq]) ∧
    (∀ (init : Initiator), FrameOf (.ksPersist init) [.regs, .flt, .trust, .outs, .irq]) ∧
    (∀ (k : Fin 256), FrameOf (.ksShadowLeaseExpiry k) [.regs, .flt, .trust, .outs, .irq]) ∧
    (∀ (src : Fin 3), FrameBut (.tamperDetected src) [.clk, .draws]) ∧
    (∀ (flashOk : Bool), FrameOf (.updBlockReceived flashOk) [.regs, .host, .fab, .flt, .upd, .drk, .leg, .outs, .irq]) ∧
    FrameOf .updAckReceived [.regs, .host, .fab, .flt, .upd, .drk, .outs, .irq] ∧
    (∀ (stream : BitVec 16) (blk : BitVec 32), FrameOf (.updBlockResend stream blk) [.regs, .host, .fab, .flt, .upd, .drk, .outs, .irq]) ∧
    FrameOf .updStreamTimeout [.regs, .upd, .outs, .irq] ∧
    (∀ (ec hs digest : Bool), FrameOf (.updVerifyDone ec hs digest) [.regs, .upd, .outs, .irq]) ∧
    (∀ (ok : Bool), FrameOf (.updInstallDone ok) [.regs, .cfg, .upd, .outs, .irq]) ∧
    (∀ (init : Initiator), FrameOf (.updConfirm init) [.regs, .flt, .pwr, .body, .upd, .outs, .irq]) ∧
    (∀ (init : Initiator), FrameOf (.updDiscard init) [.regs, .flt, .upd, .outs, .irq]) ∧
    (∀ (init : Initiator), FrameOf (.updArm init) [.regs, .flt, .outs, .irq]) ∧
    (∀ (init : Initiator), FrameOf (.updCancel init) [.regs, .flt, .outs, .irq]) ∧
    (∀ (init : Initiator), FrameOf (.updRecover init) [.regs, .flt, .outs, .irq]) ∧
    FrameOf .updActivationStart [.regs, .wbuf, .holds, .bench, .tbl, .flt, .pwr, .body, .trust, .upd, .outs, .irq] ∧
    (∀ (fails : List Byte) (image : Option SlotImage), FrameBut (.updActivationStep fails image) [.clk]) ∧
    FrameOf .updTrialTimeout [.regs, .wbuf, .holds, .bench, .tbl, .flt, .pwr, .body, .trust, .upd, .outs, .irq] ∧
    (∀ (n : Fin 16), FrameOf (.kmpHelloTimer n) [.regs, .host, .fab, .flt, .drk, .outs, .irq]) ∧
    (∀ (n : Fin 16), FrameOf (.kmpKeepaliveTimer n) [.regs, .host, .fab, .flt, .drk, .outs, .irq]) ∧
    (∀ (n : Fin 16) (k : Fin 3), FrameOf (.kmpResendTimer n k) [.regs, .host, .fab, .flt, .drk, .outs, .irq]) ∧
    (∀ (n : Fin 16), FrameOf (.kmpPeerTimeout n) [.regs, .host, .fab, .flt, .drk, .outs, .irq]) ∧
    (∀ (n : Fin 16) (f : KmpRx), FrameOf (.kmpHelloReceived n f) [.regs, .host, .fab, .flt, .drk, .outs, .irq]) ∧
    (∀ (n : Fin 16) (f : KmpRx), FrameOf (.kmpKeepaliveReceived n f) [.regs, .host, .fab, .flt, .drk, .outs, .irq]) ∧
    (∀ (n : Fin 16) (f : KmpRx), FrameBut (.kmpWriteReceived n f) [.clk]) ∧
    (∀ (n : Fin 16) (f : KmpRx), FrameOf (.kmpReadReceived n f) [.regs, .host, .fab, .flt, .drk, .outs, .irq]) ∧
    (∀ (n : Fin 16), FrameOf (.kmpInboundReadPerform n) [.regs, .holds, .host, .fab, .flt, .can, .stamps, .drk, .draws, .outs, .irq]) ∧
    (∀ (n : Fin 16), FrameOf (.kmpInboundLeaseExpiry n) [.regs, .flt, .drk, .outs, .irq]) ∧
    (∀ (n : Fin 16) (f : KmpRx), FrameOf (.kmpResponseReceived n f) [.regs, .host, .fab, .flt, .drk, .outs, .irq]) ∧
    (∀ (n : Fin 16) (f : KmpRx), FrameOf (.kmpEventReceived n f) [.regs, .host, .fab, .flt, .drk, .outs, .irq]) ∧
    (∀ (n : Fin 16) (f : KmpRx), FrameOf (.kmpUpdSegReceived n f) [.regs, .host, .fab, .flt, .upd, .drk, .outs, .irq]) ∧
    (∀ (n : Fin 16) (f : KmpRx), FrameOf (.kmpUpdAckReceived n f) [.regs, .host, .fab, .flt, .upd, .drk, .outs, .irq]) ∧
    (∀ (k : Fin 16), FrameOf (.kmpRetryResend k) [.regs, .host, .fab, .flt, .drk, .outs, .irq]) ∧
    (∀ (k : BitVec 12), FrameOf (.kmpReadTimeout k) [.regs, .host, .fab, .flt, .drk, .outs, .irq]) ∧
    (∀ (k : BitVec 12), FrameOf (.kmpPrefetchExpiry k) [.drk, .outs]) ∧
    FrameOf .kmpEventSend [.regs, .host, .fab, .flt, .drk, .outs, .irq] ∧
    (∀ (n : Fin 16), FrameOf (.kmpPollTimer n) [.regs, .host, .fab, .flt, .drk, .outs, .irq]) ∧
    (∀ (init : Initiator) (v : BitVec 32), FrameOf (.drkMapWrite init v) [.regs, .host, .fab, .flt, .drk, .outs, .irq]) ∧
    (∀ (w : BitVec 12), FrameBut (.unitWatchdogExpiry w) [.holds, .cfg, .ax0, .upd, .clk, .draws]) ∧
    (∀ (init : Initiator) (v : Byte), FrameOf (.wdKick init v) [.regs, .flt, .pwr, .outs, .irq]) ∧
    FrameBut .mpWatchdogExpiry [.clk, .draws] ∧
    FrameBut .hwWatchdogExpiry [.clk, .draws] ∧
    (∀ (init : Initiator) (spec : Bool), FrameOf (.spoilPop init spec) [.regs, .flt, .outs, .irq]) ∧
    (∀ (init : Initiator) (spec : Bool), FrameOf (.troublePop init spec) [.regs, .flt, .outs, .irq]) ∧
    (∀ (bytes : List Byte), FrameBut (.legacyWriteFrame bytes) [.clk]) ∧
    (∀ (bytes : List Byte), FrameBut (.legacyReadFrame bytes) [.clk]) ∧
    (∀ (k v : Byte), FrameBut (.legacyRouteSlotCommit k v) [.clk]) ∧
    (∀ (p : Fin 6) (m : Fin 16), FrameBut (.legacyMailboxTake p m) [.clk]) ∧
    (∀ (p : Fin 6) (m : Fin 16) (v : Byte), FrameBut (.legacyMailboxStore p m v) [.clk]) ∧
    (∀ (k : Fin 10), FrameBut (.legacyCounterSnapshot k) [.clk]) ∧
    (∀ (n : Fin 24) (d : Byte), FrameBut (.legacyOutDutyWrite n d) [.clk]) ∧
    (∀ (p : Fin 6) (listen : Bool), FrameBut (.legacyCanEnable p listen) [.clk]) ∧
    FrameBut .legacySrst [.clk] ∧
    FrameBut .legacySleep [.clk] ∧
    (∀ (v : Byte), FrameBut (.legacyUpdData v) [.clk]) ∧
    FrameBut .legacyUpdActivate [.clk] ∧
    (∀ (ok : Bool), FrameOf (.ksPersistDone ok) [.regs, .trust, .outs, .irq]) ∧
    (∀ (ok : Bool), FrameOf (.romRecoveryLoadDone ok) [.regs, .host, .fab, .eth, .flt, .guard, .upd, .drk, .outs, .irq])

/-- R87, R453, R457: a refused write leaves its record in the addressed window, and the trouble and Spoil logs raise events of the root, so these stand among the windows named. For each command listed, whatever the state and operands, every register of every other window of the map is the same after it. -/
def Obligations.RegistersACommandWriteLeaves : Prop :=
  (∀ (init : Initiator) (grp : BitVec 12) (data : Byte), RegsWithin (.fanoutStart init grp data) [grp.toNat, wRoot]) ∧
    (∀ (grp : BitVec 12), RegsWithin (.fanoutComplete grp) [grp.toNat]) ∧
    (∀ (init : Initiator) (tx : Bool) (r : Fin 16) (low : Fin 128), RegsWithin (.ringEnSet init tx r low) [wHost, wRoot]) ∧
    (∀ (init : Initiator) (rw : Fin 4), RegsWithin (.tblAcquire init rw) [wTables, wRoot]) ∧
    (∀ (init : Initiator) (rw : Fin 4), RegsWithin (.tblRelease init rw) [wTables, wRoot]) ∧
    (∀ (init : Initiator) (v : BitVec 24), RegsWithin (.authEpochWrite init v) [wAuth, wRoot]) ∧
    (∀ (init : Initiator) (p : Fin 16), RegsWithin (.hopperFlush init p) (wFabric :: wRoot :: (List.range 16).map wHop)) ∧
    (∀ (init : Initiator) (p : Fin 16), RegsWithin (.ethPhyResetCmd init p) [wEth p, wRoot]) ∧
    (∀ (init : Initiator) (p : Fin 6) (low : Fin 128), RegsWithin (.mdioGo init p low) [wEth p, wRoot]) ∧
    (∀ (init : Initiator) (low : Fin 128), RegsWithin (.l2RehashStart init low) [wL2, wRoot]) ∧
    (∀ (init : Initiator), RegsWithin (.l2CmdRead init) [wL2, wRoot]) ∧
    (∀ (init : Initiator), RegsWithin (.l2CmdStageStatic init) [wL2, wTables, wRoot]) ∧
    (∀ (init : Initiator), RegsWithin (.l2CmdStageDelete init) [wL2, wTables, wRoot]) ∧
    (∀ (init : Initiator), RegsWithin (.l2CmdRemoveLearned init) [wL2, wRoot]) ∧
    (∀ (init : Initiator), RegsWithin (.l2CmdFlushPort init) [wL2, wRoot]) ∧
    (∀ (init : Initiator), RegsWithin (.l2CmdFlushFid init) [wL2, wRoot]) ∧
    (∀ (init : Initiator) (seven : Bool), RegsWithin (.l2CmdBadOp init seven) [wL2, wRoot]) ∧
    (∀ (init : Initiator) (v6 : Bool), RegsWithin (.seamStageInsert init v6) [wSeam, wTables, wRoot]) ∧
    (∀ (init : Initiator) (v6 : Bool), RegsWithin (.seamStageDelete init v6) [wSeam, wTables, wRoot]) ∧
    (∀ (init : Initiator) (v6 : Bool), RegsWithin (.seamTestLookup init v6) [wSeam, wRoot]) ∧
    (∀ (init : Initiator) (v6 : Bool), RegsWithin (.seamBadOp init v6) [wSeam, wRoot]) ∧
    (∀ (init : Initiator) (p : Fin 16), RegsWithin (.canRecoverCmd init p) [wCan p, wRoot]) ∧
    (∀ (init : Initiator) (p : Fin 16), RegsWithin (.canObjTake init p) [wCan p, wRoot]) ∧
    (∀ (init : Initiator) (p : Fin 16), RegsWithin (.canObjStore init p) [wCan p, wRoot]) ∧
    (∀ (init : Initiator) (p : Fin 16), RegsWithin (.canObjSend init p) [wCan p, wRoot]) ∧
    (∀ (init : Initiator) (p : Fin 16), RegsWithin (.canObjAbort init p) [wCan p, wRoot]) ∧
    (∀ (init : Initiator) (p : Fin 16) (n : Fin 2) (spec : Bool), RegsWithin (.canFifoPop init p n spec) [wCan p, wHost, wRoot]) ∧
    (∀ (init : Initiator) (p : Fin 16) (n : Fin 2) (v : BitVec 96), RegsWithin (.canFifoConfig init p n v) [wCan p, wRoot]) ∧
    (∀ (init : Initiator) (p : Fin 12) (low : Fin 128), RegsWithin (.linEnable init p low) [wLin p, wRoot]) ∧
    (∀ (init : Initiator) (p : Fin 12) (low : Fin 128), RegsWithin (.linDisable init p low) [wLin p, wRoot]) ∧
    (∀ (init : Initiator) (p : Fin 12) (t : Fin 8), RegsWithin (.linSchedGo init p t) [wLin p, wRoot]) ∧
    (∀ (init : Initiator) (p : Fin 12) (e : Fin 64) (data : BitVec 64), RegsWithin (.linHostCommit init p e data) [wLin p, wRoot]) ∧
    (∀ (init : Initiator) (p : Fin 12) (e : Fin 128) (v : BitVec 32), RegsWithin (.linSentryWrite init p e v) [wLin p, wRoot]) ∧
    (∀ (init : Initiator), RegsWithin (.pduSendCmd init) [wPdu, wRoot]) ∧
    (∀ (init : Initiator), RegsWithin (.wbRefill init) [wWeigh, wRoot]) ∧
    (∀ (init : Initiator), RegsWithin (.streamUnblock init) [wSieve, wRoot]) ∧
    (∀ (init : Initiator) (v : BitVec 96), RegsWithin (.macsecScWrite init v) [wMacsec, wRoot]) ∧
    (∀ (init : Initiator) (v : BitVec 224), RegsWithin (.macsecSaWrite init v) [wMacsec, wRoot]) ∧
    (∀ (init : Initiator) (autoSw : Bool), RegsWithin (.macsecSwitch init autoSw) [wMacsec, wRoot]) ∧
    (∀ (init : Initiator) (n : Fin 7) (low : Fin 128), RegsWithin (.axisEnable init n low) [wAx (n + 1), wEvp, wRoot]) ∧
    (∀ (init : Initiator) (n : Fin 7) (low : Fin 128), RegsWithin (.axisDisable init n low) [wAx (n + 1), wEvp, wRoot]) ∧
    (∀ (init : Initiator), RegsWithin (.ax0Step init) [wAx 0, wEvp, wRoot]) ∧
    (∀ (init : Initiator), RegsWithin (.ax0Mark init) [wAx 0, wRoot]) ∧
    (∀ (init : Initiator), RegsWithin (.ax0Unsync init) [wAx 0, wRoot]) ∧
    (∀ (init : Initiator) (slew : Bool) (v : BitVec 32), RegsWithin (.ax0ServoUpdate init slew v) [wAx 0, wRoot]) ∧
    (∀ (init : Initiator), RegsWithin (.eventArm init) [wEvp, wRoot]) ∧
    (∀ (init : Initiator), RegsWithin (.eventDisarm init) [wEvp, wRoot]) ∧
    (∀ (init : Initiator), RegsWithin (.eventGroupArm init) [wEvp, wRoot]) ∧
    (∀ (init : Initiator), RegsWithin (.eventGroupDisarm init) [wEvp, wRoot]) ∧
    (∀ (init : Initiator) (spec : Bool), RegsWithin (.stampTxqPop init spec) [wStamp, wHost, wRoot]) ∧
    (∀ (init : Initiator) (spec : Bool), RegsWithin (.stampMissPop init spec) [wStamp, wHost, wRoot]) ∧
    (∀ (init : Initiator) (n : Fin 72), RegsWithin (.chClear init n) [wCh n, wRoot]) ∧
    (∀ (init : Initiator) (n : Fin 72), RegsWithin (.chDiagCmd init n) [wCh n, wRoot]) ∧
    (∀ (init : Initiator) (k : Fin 6), RegsWithin (.meSetpos init k) [wME k, wRoot]) ∧
    (∀ (init : Initiator), RegsWithin (.pwrPark init) ([wPwr, wRoot] ++ (List.range 6).map wME ++ (List.range 6).map wHB ++ (List.range 12).map wCh)) ∧
    (∀ (init : Initiator), RegsWithin (.pwrCancel init) [wPwr, wRoot]) ∧
    (∀ (init : Initiator) (ptr : Fin 8192), RegsWithin (.trmClaim init ptr) [wAttest, wRoot]) ∧
    (∀ (init : Initiator) (w : Option Byte) (spec : Bool), RegsWithin (.trmDataAccess init w spec) [wAttest, wHost, wRoot]) ∧
    (∀ (init : Initiator) (ecdsaOk hssOk : Bool), RegsWithin (.trmLcAdvance init ecdsaOk hssOk) [wAttest, wTamper, wRoot]) ∧
    (∀ (init : Initiator) (ecdsaOk hssOk : Bool) (live : Fin 8), RegsWithin (.trmRootInstall init ecdsaOk hssOk live) [wAttest, wTamper, wRoot]) ∧
    (∀ (init : Initiator) (ecdsaOk hssOk : Bool), RegsWithin (.trmDebugOpen init ecdsaOk hssOk) [wAttest, wTamper, wRoot]) ∧
    (∀ (init : Initiator), RegsWithin (.trmDebugClose init) [wAttest, wTamper, wRoot]) ∧
    (∀ (init : Initiator), RegsWithin (.trmNonce init) [wAttest, wRoot]) ∧
    (∀ (init : Initiator) (ecdsaOk hssOk : Bool), RegsWithin (.trmHssInstall init ecdsaOk hssOk) [wAttest, wTamper, wRoot]) ∧
    (∀ (init : Initiator), RegsWithin (.trmAttest init) [wAttest, wRoot]) ∧
    (∀ (init : Initiator), RegsWithin (.trmRelease init) [wAttest, wRoot]) ∧
    (∀ (init : Initiator) (op : Fin 8), RegsWithin (.trmBadOp init op) [wAttest, wRoot]) ∧
    (∀ (init : Initiator) (k : Fin 40) (v : Byte), RegsWithin (.ksShadowWrite init k v) [wKS, wRoot]) ∧
    (∀ (init : Initiator), RegsWithin (.ksCommit init) [wKS, wRoot]) ∧
    (∀ (init : Initiator), RegsWithin (.ksDiscard init) [wKS, wRoot]) ∧
    (∀ (init : Initiator), RegsWithin (.ksPersist init) [wKS, wRoot]) ∧
    (∀ (init : Initiator), RegsWithin (.updConfirm init) ([wUpd, wPwr, wRoot] ++ (List.range 6).map wME ++ (List.range 6).map wHB ++ (List.range 12).map wCh)) ∧
    (∀ (init : Initiator), RegsWithin (.updDiscard init) [wUpd, wRoot]) ∧
    (∀ (init : Initiator), RegsWithin (.updArm init) [wUpd, wRoot]) ∧
    (∀ (init : Initiator), RegsWithin (.updCancel init) [wUpd, wRoot]) ∧
    (∀ (init : Initiator), RegsWithin (.updRecover init) [wUpd, wRoot]) ∧
    (∀ (init : Initiator) (v : Byte), RegsWithin (.wdKick init v) [wSup, wRoot]) ∧
    (∀ (init : Initiator) (spec : Bool), RegsWithin (.spoilPop init spec) [wRoot, wHost]) ∧
    (∀ (init : Initiator) (spec : Bool), RegsWithin (.troublePop init spec) [wRoot, wHost])

/-- For each event listed, whatever the state and operands, every register of every other window of the map is the same after it. A lease that ends leaves its record in the window of its holder (R458), so the holders stand among the windows named. -/
def Obligations.RegistersAnEventLeaves : Prop :=
  RegsWithin .borEnd [] ∧
    RegsWithin .pinResetEnd [] ∧
    (∀ (mv : Fin 4096), RegsWithin (.modeSample mv) [wSup]) ∧
    RegsWithin .safeNUpdate [wSup] ∧
    RegsWithin .gxPgoodHigh [wSup] ∧
    RegsWithin .offTimeEnd [] ∧
    (∀ (n : Fin 4), RegsWithin (.spiFrameTooShort n) [wHost, wRoot]) ∧
    RegsWithin .delayedReadLeaseExpiry [wHost, wRoot] ∧
    (∀ (rate : Fin 3) (two : Bool), RegsWithin (.pcieLinkUp rate two) [wHost]) ∧
    RegsWithin .pciePerstRelease [] ∧
    (∀ (tx : Bool) (r : Fin 16), RegsWithin (.imodIntervalEnd tx r) [wHost]) ∧
    (∀ (v : Fin 64), RegsWithin (.msixPendingSend v) []) ∧
    RegsWithin .irqNUpdate [] ∧
    RegsWithin .tblLeaseExpiry [wTables, wMP, wHost, wDebug, wDerrick, wRoot] ∧
    RegsWithin .commitDrainEnd [wTables] ∧
    RegsWithin .flowHoldExpiry [wTables] ∧
    (∀ (p : Fin 16), RegsWithin (.flushComplete p) [wHop p]) ∧
    (∀ (k : Fin 256), RegsWithin (.frerResetTimeout k) [wFabric]) ∧
    (∀ (p : Fin 16), RegsWithin (.phyResetPulseEnd p) [wEth p]) ∧
    RegsWithin .phyRstRelease [] ∧
    RegsWithin .learnEngineWrite [wL2] ∧
    (∀ (b : Fin 8192), RegsWithin (.agerVisit b) []) ∧
    RegsWithin .ageRemoval [wL2] ∧
    RegsWithin .rehashPassEnd [wL2] ∧
    RegsWithin .rehashStallRetry [wL2] ∧
    RegsWithin .l2CmdComplete [wL2] ∧
    RegsWithin .seamCmdComplete [wSeam] ∧
    (∀ (p : Fin 16), RegsWithin (.canBusoffDelay p) [wCan p]) ∧
    (∀ (p : Fin 16), RegsWithin (.cantTxdDomTimeout p) [wCanT p]) ∧
    (∀ (p : Fin 16), RegsWithin (.cantBusDomTimeout p) [wCanT p]) ∧
    (∀ (p : Fin 16), RegsWithin (.cantOvertemp p) [wCanT p]) ∧
    (∀ (p : Fin 16), RegsWithin (.cantUndervoltage p) [wCanT p]) ∧
    (∀ (p : Fin 16) (f : TrxFault), RegsWithin (.cantFaultClear p f) []) ∧
    (∀ (p : Fin 12), RegsWithin (.linSlotStart p) [wLin p]) ∧
    (∀ (p : Fin 12), RegsWithin (.linBitError p) [wLin p]) ∧
    (∀ (p : Fin 12) (e : LinEnd), RegsWithin (.linSlotEnd p e) [wLin p, wLinT p, wRoot]) ∧
    (∀ (p : Fin 12), RegsWithin (.lintTxdDomTimeout p) [wLinT p]) ∧
    (∀ (p : Fin 12), RegsWithin (.lintBusDomTimeout p) [wLinT p]) ∧
    (∀ (p : Fin 12), RegsWithin (.lintOvertemp p) [wLinT p]) ∧
    (∀ (p : Fin 12) (f : TrxFault), RegsWithin (.lintFaultClear p f) []) ∧
    (∀ (k : Fin 65536), RegsWithin (.signalTimeout k) [wSignal, wPdu]) ∧
    (∀ (j : Fin 8192), RegsWithin (.pduCyclicDue j) [wPdu]) ∧
    (∀ (j : Fin 8192), RegsWithin (.pduMdtExpiry j) [wPdu]) ∧
    (∀ (j : Fin 8192), RegsWithin (.pduRepeatExpiry j) [wPdu]) ∧
    (∀ (n : Fin 7) (up : Bool), RegsWithin (.axisMeasuredUpdate n up) [wAx (n + 1)]) ∧
    (∀ (n : Fin 7), RegsWithin (.axisStallTimeout n) [wAx (n + 1)]) ∧
    RegsWithin .ax0HoldoverTimeout [wAx 0] ∧
    RegsWithin .ax0CopyUpdate [] ∧
    (∀ (p : Fin 16) (d : List Byte) (sec : BitVec 48) (ns : BitVec 32), RegsWithin (.gptpFrameReceived p d sec ns) ([wStamp, wAx 0, wFabric, wRoot] ++ (List.range 16).map wHop)) ∧
    RegsWithin .eventPoolEvaluate [wEvp, wRoot] ∧
    RegsWithin .actionMark [wEvp, wRoot] ∧
    RegsWithin .actionSendPdu [wEvp, wPdu, wRoot] ∧
    RegsWithin .actionSgate [wEvp, wSieve, wRoot] ∧
    RegsWithin .actionGroups [wEvp, wRoot] ∧
    (∀ (p : Fin 16) (c : Fin 8), RegsWithin (.stampWaitExpiry p c) [wStamp]) ∧
    (∀ (p : Fin 16), RegsWithin (.stampAgeExpiry p) [wStamp]) ∧
    (∀ (n : Fin 72), RegsWithin (.chPeriodStart n) [wCh n, wCh (2 * (n.val / 2)), wCh (2 * (n.val / 2) + 1)]) ∧
    (∀ (n : Fin 72), RegsWithin (.chFaultFreeSecond n) [wCh n]) ∧
    (∀ (n : Fin 72), RegsWithin (.chOffStateTest n) []) ∧
    (∀ (slug : BitVec 16), RegsWithin (.thermUpdate slug) (wTherm :: (List.range 6).map wPS)) ∧
    (∀ (k : Fin 6), RegsWithin (.thermDerateStep k) ((List.range 72).map wCh)) ∧
    (∀ (k : Fin 6), RegsWithin (.thermRestoreStep k) ((List.range 72).map wCh)) ∧
    (∀ (n : Fin 16) (mv : BitVec 16), RegsWithin (.anConversion n mv) (wAN n :: (List.range 4).map wSE)) ∧
    RegsWithin .wakeIoPulseEnd [] ∧
    (∀ (p : Fin 16), RegsWithin (.nmTmaxTimeout p) ([wWake, wPwr] ++ (List.range 6).map wME ++ (List.range 6).map wHB ++ (List.range 12).map wCh)) ∧
    (∀ (p : Fin 16), RegsWithin (.nmTerrTimer p) [wWake]) ∧
    RegsWithin .parkDelayExpiry ([wPwr] ++ (List.range 6).map wME ++ (List.range 6).map wHB ++ (List.range 12).map wCh) ∧
    (∀ (fail : Bool), RegsWithin (.ixSelftestDone fail) []) ∧
    (∀ (fails : List MemFail), RegsWithin (.memorySelftestDone fails) []) ∧
    (∀ (fail : Bool), RegsWithin (.gxSelftestDone fail) [wBist, wSup]) ∧
    RegsWithin .mpRestart [wMP] ∧
    RegsWithin .trmLeaseExpiry [wAttest, wMP, wHost, wDebug, wDerrick, wRoot] ∧
    (∀ (k : Fin 256), RegsWithin (.ksUnwrapDone k) [wKS]) ∧
    (∀ (ok : Bool), RegsWithin (.ksPersistDone ok) [wKS]) ∧
    (∀ (k : Fin 256), RegsWithin (.ksShadowLeaseExpiry k) [wKS, wMP, wHost, wDebug, wDerrick, wRoot]) ∧
    RegsWithin .updStreamTimeout [wUpd] ∧
    (∀ (ec hs digest : Bool), RegsWithin (.updVerifyDone ec hs digest) [wUpd]) ∧
    (∀ (ok : Bool), RegsWithin (.updInstallDone ok) [wUpd]) ∧
    (∀ (k : BitVec 12), RegsWithin (.kmpPrefetchExpiry k) [])
end

