-- ==== Sys2Proof/Laws/State.lean ====
section
/-! SUPPORT. One lemma per field per update of State: what each setter writes, and that it leaves every other field as it
was. -/

namespace Sys2Proof.Machine

variable (s : State)

section
variable (v : Tab Nat)
@[simp] theorem State.setRegs_regs : (s.setRegs v).regs = v := rfl
@[simp] theorem State.setRegs_wbuf : (s.setRegs v).wbuf = s.wbuf := rfl
@[simp] theorem State.setRegs_parity : (s.setRegs v).parity = s.parity := rfl
@[simp] theorem State.setRegs_holds : (s.setRegs v).holds = s.holds := rfl
@[simp] theorem State.setRegs_fans : (s.setRegs v).fans = s.fans := rfl
@[simp] theorem State.setRegs_host : (s.setRegs v).host = s.host := rfl
@[simp] theorem State.setRegs_cfg : (s.setRegs v).cfg = s.cfg := rfl
@[simp] theorem State.setRegs_bench : (s.setRegs v).bench = s.bench := rfl
@[simp] theorem State.setRegs_fab : (s.setRegs v).fab = s.fab := rfl
@[simp] theorem State.setRegs_eth : (s.setRegs v).eth = s.eth := rfl
@[simp] theorem State.setRegs_tbl : (s.setRegs v).tbl = s.tbl := rfl
@[simp] theorem State.setRegs_flt : (s.setRegs v).flt = s.flt := rfl
@[simp] theorem State.setRegs_ax0 : (s.setRegs v).ax0 = s.ax0 := rfl
@[simp] theorem State.setRegs_pins : (s.setRegs v).pins = s.pins := rfl
@[simp] theorem State.setRegs_pwr : (s.setRegs v).pwr = s.pwr := rfl
@[simp] theorem State.setRegs_body : (s.setRegs v).body = s.body := rfl
@[simp] theorem State.setRegs_can : (s.setRegs v).can = s.can := rfl
@[simp] theorem State.setRegs_lin : (s.setRegs v).lin = s.lin := rfl
@[simp] theorem State.setRegs_wake : (s.setRegs v).wake = s.wake := rfl
@[simp] theorem State.setRegs_guard : (s.setRegs v).guard = s.guard := rfl
@[simp] theorem State.setRegs_gw : (s.setRegs v).gw = s.gw := rfl
@[simp] theorem State.setRegs_trust : (s.setRegs v).trust = s.trust := rfl
@[simp] theorem State.setRegs_stamps : (s.setRegs v).stamps = s.stamps := rfl
@[simp] theorem State.setRegs_axes : (s.setRegs v).axes = s.axes := rfl
@[simp] theorem State.setRegs_evp : (s.setRegs v).evp = s.evp := rfl
@[simp] theorem State.setRegs_upd : (s.setRegs v).upd = s.upd := rfl
@[simp] theorem State.setRegs_drk : (s.setRegs v).drk = s.drk := rfl
@[simp] theorem State.setRegs_leg : (s.setRegs v).leg = s.leg := rfl
@[simp] theorem State.setRegs_clk : (s.setRegs v).clk = s.clk := rfl
@[simp] theorem State.setRegs_draws : (s.setRegs v).draws = s.draws := rfl
@[simp] theorem State.setRegs_outs : (s.setRegs v).outs = s.outs := rfl
@[simp] theorem State.setRegs_pending : (s.setRegs v).pending = s.pending := rfl
end

section
variable (v : Tab Nat)
@[simp] theorem State.setWbuf_regs : (s.setWbuf v).regs = s.regs := rfl
@[simp] theorem State.setWbuf_wbuf : (s.setWbuf v).wbuf = v := rfl
@[simp] theorem State.setWbuf_parity : (s.setWbuf v).parity = s.parity := rfl
@[simp] theorem State.setWbuf_holds : (s.setWbuf v).holds = s.holds := rfl
@[simp] theorem State.setWbuf_fans : (s.setWbuf v).fans = s.fans := rfl
@[simp] theorem State.setWbuf_host : (s.setWbuf v).host = s.host := rfl
@[simp] theorem State.setWbuf_cfg : (s.setWbuf v).cfg = s.cfg := rfl
@[simp] theorem State.setWbuf_bench : (s.setWbuf v).bench = s.bench := rfl
@[simp] theorem State.setWbuf_fab : (s.setWbuf v).fab = s.fab := rfl
@[simp] theorem State.setWbuf_eth : (s.setWbuf v).eth = s.eth := rfl
@[simp] theorem State.setWbuf_tbl : (s.setWbuf v).tbl = s.tbl := rfl
@[simp] theorem State.setWbuf_flt : (s.setWbuf v).flt = s.flt := rfl
@[simp] theorem State.setWbuf_ax0 : (s.setWbuf v).ax0 = s.ax0 := rfl
@[simp] theorem State.setWbuf_pins : (s.setWbuf v).pins = s.pins := rfl
@[simp] theorem State.setWbuf_pwr : (s.setWbuf v).pwr = s.pwr := rfl
@[simp] theorem State.setWbuf_body : (s.setWbuf v).body = s.body := rfl
@[simp] theorem State.setWbuf_can : (s.setWbuf v).can = s.can := rfl
@[simp] theorem State.setWbuf_lin : (s.setWbuf v).lin = s.lin := rfl
@[simp] theorem State.setWbuf_wake : (s.setWbuf v).wake = s.wake := rfl
@[simp] theorem State.setWbuf_guard : (s.setWbuf v).guard = s.guard := rfl
@[simp] theorem State.setWbuf_gw : (s.setWbuf v).gw = s.gw := rfl
@[simp] theorem State.setWbuf_trust : (s.setWbuf v).trust = s.trust := rfl
@[simp] theorem State.setWbuf_stamps : (s.setWbuf v).stamps = s.stamps := rfl
@[simp] theorem State.setWbuf_axes : (s.setWbuf v).axes = s.axes := rfl
@[simp] theorem State.setWbuf_evp : (s.setWbuf v).evp = s.evp := rfl
@[simp] theorem State.setWbuf_upd : (s.setWbuf v).upd = s.upd := rfl
@[simp] theorem State.setWbuf_drk : (s.setWbuf v).drk = s.drk := rfl
@[simp] theorem State.setWbuf_leg : (s.setWbuf v).leg = s.leg := rfl
@[simp] theorem State.setWbuf_clk : (s.setWbuf v).clk = s.clk := rfl
@[simp] theorem State.setWbuf_draws : (s.setWbuf v).draws = s.draws := rfl
@[simp] theorem State.setWbuf_outs : (s.setWbuf v).outs = s.outs := rfl
@[simp] theorem State.setWbuf_pending : (s.setWbuf v).pending = s.pending := rfl
end

section
variable (v : List Nat)
@[simp] theorem State.setParity_regs : (s.setParity v).regs = s.regs := rfl
@[simp] theorem State.setParity_wbuf : (s.setParity v).wbuf = s.wbuf := rfl
@[simp] theorem State.setParity_parity : (s.setParity v).parity = v := rfl
@[simp] theorem State.setParity_holds : (s.setParity v).holds = s.holds := rfl
@[simp] theorem State.setParity_fans : (s.setParity v).fans = s.fans := rfl
@[simp] theorem State.setParity_host : (s.setParity v).host = s.host := rfl
@[simp] theorem State.setParity_cfg : (s.setParity v).cfg = s.cfg := rfl
@[simp] theorem State.setParity_bench : (s.setParity v).bench = s.bench := rfl
@[simp] theorem State.setParity_fab : (s.setParity v).fab = s.fab := rfl
@[simp] theorem State.setParity_eth : (s.setParity v).eth = s.eth := rfl
@[simp] theorem State.setParity_tbl : (s.setParity v).tbl = s.tbl := rfl
@[simp] theorem State.setParity_flt : (s.setParity v).flt = s.flt := rfl
@[simp] theorem State.setParity_ax0 : (s.setParity v).ax0 = s.ax0 := rfl
@[simp] theorem State.setParity_pins : (s.setParity v).pins = s.pins := rfl
@[simp] theorem State.setParity_pwr : (s.setParity v).pwr = s.pwr := rfl
@[simp] theorem State.setParity_body : (s.setParity v).body = s.body := rfl
@[simp] theorem State.setParity_can : (s.setParity v).can = s.can := rfl
@[simp] theorem State.setParity_lin : (s.setParity v).lin = s.lin := rfl
@[simp] theorem State.setParity_wake : (s.setParity v).wake = s.wake := rfl
@[simp] theorem State.setParity_guard : (s.setParity v).guard = s.guard := rfl
@[simp] theorem State.setParity_gw : (s.setParity v).gw = s.gw := rfl
@[simp] theorem State.setParity_trust : (s.setParity v).trust = s.trust := rfl
@[simp] theorem State.setParity_stamps : (s.setParity v).stamps = s.stamps := rfl
@[simp] theorem State.setParity_axes : (s.setParity v).axes = s.axes := rfl
@[simp] theorem State.setParity_evp : (s.setParity v).evp = s.evp := rfl
@[simp] theorem State.setParity_upd : (s.setParity v).upd = s.upd := rfl
@[simp] theorem State.setParity_drk : (s.setParity v).drk = s.drk := rfl
@[simp] theorem State.setParity_leg : (s.setParity v).leg = s.leg := rfl
@[simp] theorem State.setParity_clk : (s.setParity v).clk = s.clk := rfl
@[simp] theorem State.setParity_draws : (s.setParity v).draws = s.draws := rfl
@[simp] theorem State.setParity_outs : (s.setParity v).outs = s.outs := rfl
@[simp] theorem State.setParity_pending : (s.setParity v).pending = s.pending := rfl
end

section
variable (v : Tab Hold)
@[simp] theorem State.setHolds_regs : (s.setHolds v).regs = s.regs := rfl
@[simp] theorem State.setHolds_wbuf : (s.setHolds v).wbuf = s.wbuf := rfl
@[simp] theorem State.setHolds_parity : (s.setHolds v).parity = s.parity := rfl
@[simp] theorem State.setHolds_holds : (s.setHolds v).holds = v := rfl
@[simp] theorem State.setHolds_fans : (s.setHolds v).fans = s.fans := rfl
@[simp] theorem State.setHolds_host : (s.setHolds v).host = s.host := rfl
@[simp] theorem State.setHolds_cfg : (s.setHolds v).cfg = s.cfg := rfl
@[simp] theorem State.setHolds_bench : (s.setHolds v).bench = s.bench := rfl
@[simp] theorem State.setHolds_fab : (s.setHolds v).fab = s.fab := rfl
@[simp] theorem State.setHolds_eth : (s.setHolds v).eth = s.eth := rfl
@[simp] theorem State.setHolds_tbl : (s.setHolds v).tbl = s.tbl := rfl
@[simp] theorem State.setHolds_flt : (s.setHolds v).flt = s.flt := rfl
@[simp] theorem State.setHolds_ax0 : (s.setHolds v).ax0 = s.ax0 := rfl
@[simp] theorem State.setHolds_pins : (s.setHolds v).pins = s.pins := rfl
@[simp] theorem State.setHolds_pwr : (s.setHolds v).pwr = s.pwr := rfl
@[simp] theorem State.setHolds_body : (s.setHolds v).body = s.body := rfl
@[simp] theorem State.setHolds_can : (s.setHolds v).can = s.can := rfl
@[simp] theorem State.setHolds_lin : (s.setHolds v).lin = s.lin := rfl
@[simp] theorem State.setHolds_wake : (s.setHolds v).wake = s.wake := rfl
@[simp] theorem State.setHolds_guard : (s.setHolds v).guard = s.guard := rfl
@[simp] theorem State.setHolds_gw : (s.setHolds v).gw = s.gw := rfl
@[simp] theorem State.setHolds_trust : (s.setHolds v).trust = s.trust := rfl
@[simp] theorem State.setHolds_stamps : (s.setHolds v).stamps = s.stamps := rfl
@[simp] theorem State.setHolds_axes : (s.setHolds v).axes = s.axes := rfl
@[simp] theorem State.setHolds_evp : (s.setHolds v).evp = s.evp := rfl
@[simp] theorem State.setHolds_upd : (s.setHolds v).upd = s.upd := rfl
@[simp] theorem State.setHolds_drk : (s.setHolds v).drk = s.drk := rfl
@[simp] theorem State.setHolds_leg : (s.setHolds v).leg = s.leg := rfl
@[simp] theorem State.setHolds_clk : (s.setHolds v).clk = s.clk := rfl
@[simp] theorem State.setHolds_draws : (s.setHolds v).draws = s.draws := rfl
@[simp] theorem State.setHolds_outs : (s.setHolds v).outs = s.outs := rfl
@[simp] theorem State.setHolds_pending : (s.setHolds v).pending = s.pending := rfl
end

section
variable (v : List Fanout)
@[simp] theorem State.setFans_regs : (s.setFans v).regs = s.regs := rfl
@[simp] theorem State.setFans_wbuf : (s.setFans v).wbuf = s.wbuf := rfl
@[simp] theorem State.setFans_parity : (s.setFans v).parity = s.parity := rfl
@[simp] theorem State.setFans_holds : (s.setFans v).holds = s.holds := rfl
@[simp] theorem State.setFans_fans : (s.setFans v).fans = v := rfl
@[simp] theorem State.setFans_host : (s.setFans v).host = s.host := rfl
@[simp] theorem State.setFans_cfg : (s.setFans v).cfg = s.cfg := rfl
@[simp] theorem State.setFans_bench : (s.setFans v).bench = s.bench := rfl
@[simp] theorem State.setFans_fab : (s.setFans v).fab = s.fab := rfl
@[simp] theorem State.setFans_eth : (s.setFans v).eth = s.eth := rfl
@[simp] theorem State.setFans_tbl : (s.setFans v).tbl = s.tbl := rfl
@[simp] theorem State.setFans_flt : (s.setFans v).flt = s.flt := rfl
@[simp] theorem State.setFans_ax0 : (s.setFans v).ax0 = s.ax0 := rfl
@[simp] theorem State.setFans_pins : (s.setFans v).pins = s.pins := rfl
@[simp] theorem State.setFans_pwr : (s.setFans v).pwr = s.pwr := rfl
@[simp] theorem State.setFans_body : (s.setFans v).body = s.body := rfl
@[simp] theorem State.setFans_can : (s.setFans v).can = s.can := rfl
@[simp] theorem State.setFans_lin : (s.setFans v).lin = s.lin := rfl
@[simp] theorem State.setFans_wake : (s.setFans v).wake = s.wake := rfl
@[simp] theorem State.setFans_guard : (s.setFans v).guard = s.guard := rfl
@[simp] theorem State.setFans_gw : (s.setFans v).gw = s.gw := rfl
@[simp] theorem State.setFans_trust : (s.setFans v).trust = s.trust := rfl
@[simp] theorem State.setFans_stamps : (s.setFans v).stamps = s.stamps := rfl
@[simp] theorem State.setFans_axes : (s.setFans v).axes = s.axes := rfl
@[simp] theorem State.setFans_evp : (s.setFans v).evp = s.evp := rfl
@[simp] theorem State.setFans_upd : (s.setFans v).upd = s.upd := rfl
@[simp] theorem State.setFans_drk : (s.setFans v).drk = s.drk := rfl
@[simp] theorem State.setFans_leg : (s.setFans v).leg = s.leg := rfl
@[simp] theorem State.setFans_clk : (s.setFans v).clk = s.clk := rfl
@[simp] theorem State.setFans_draws : (s.setFans v).draws = s.draws := rfl
@[simp] theorem State.setFans_outs : (s.setFans v).outs = s.outs := rfl
@[simp] theorem State.setFans_pending : (s.setFans v).pending = s.pending := rfl
end

section
variable (v : HostSt)
@[simp] theorem State.setHost_regs : (s.setHost v).regs = s.regs := rfl
@[simp] theorem State.setHost_wbuf : (s.setHost v).wbuf = s.wbuf := rfl
@[simp] theorem State.setHost_parity : (s.setHost v).parity = s.parity := rfl
@[simp] theorem State.setHost_holds : (s.setHost v).holds = s.holds := rfl
@[simp] theorem State.setHost_fans : (s.setHost v).fans = s.fans := rfl
@[simp] theorem State.setHost_host : (s.setHost v).host = v := rfl
@[simp] theorem State.setHost_cfg : (s.setHost v).cfg = s.cfg := rfl
@[simp] theorem State.setHost_bench : (s.setHost v).bench = s.bench := rfl
@[simp] theorem State.setHost_fab : (s.setHost v).fab = s.fab := rfl
@[simp] theorem State.setHost_eth : (s.setHost v).eth = s.eth := rfl
@[simp] theorem State.setHost_tbl : (s.setHost v).tbl = s.tbl := rfl
@[simp] theorem State.setHost_flt : (s.setHost v).flt = s.flt := rfl
@[simp] theorem State.setHost_ax0 : (s.setHost v).ax0 = s.ax0 := rfl
@[simp] theorem State.setHost_pins : (s.setHost v).pins = s.pins := rfl
@[simp] theorem State.setHost_pwr : (s.setHost v).pwr = s.pwr := rfl
@[simp] theorem State.setHost_body : (s.setHost v).body = s.body := rfl
@[simp] theorem State.setHost_can : (s.setHost v).can = s.can := rfl
@[simp] theorem State.setHost_lin : (s.setHost v).lin = s.lin := rfl
@[simp] theorem State.setHost_wake : (s.setHost v).wake = s.wake := rfl
@[simp] theorem State.setHost_guard : (s.setHost v).guard = s.guard := rfl
@[simp] theorem State.setHost_gw : (s.setHost v).gw = s.gw := rfl
@[simp] theorem State.setHost_trust : (s.setHost v).trust = s.trust := rfl
@[simp] theorem State.setHost_stamps : (s.setHost v).stamps = s.stamps := rfl
@[simp] theorem State.setHost_axes : (s.setHost v).axes = s.axes := rfl
@[simp] theorem State.setHost_evp : (s.setHost v).evp = s.evp := rfl
@[simp] theorem State.setHost_upd : (s.setHost v).upd = s.upd := rfl
@[simp] theorem State.setHost_drk : (s.setHost v).drk = s.drk := rfl
@[simp] theorem State.setHost_leg : (s.setHost v).leg = s.leg := rfl
@[simp] theorem State.setHost_clk : (s.setHost v).clk = s.clk := rfl
@[simp] theorem State.setHost_draws : (s.setHost v).draws = s.draws := rfl
@[simp] theorem State.setHost_outs : (s.setHost v).outs = s.outs := rfl
@[simp] theorem State.setHost_pending : (s.setHost v).pending = s.pending := rfl
end

section
variable (v : CfgSt)
@[simp] theorem State.setCfg_regs : (s.setCfg v).regs = s.regs := rfl
@[simp] theorem State.setCfg_wbuf : (s.setCfg v).wbuf = s.wbuf := rfl
@[simp] theorem State.setCfg_parity : (s.setCfg v).parity = s.parity := rfl
@[simp] theorem State.setCfg_holds : (s.setCfg v).holds = s.holds := rfl
@[simp] theorem State.setCfg_fans : (s.setCfg v).fans = s.fans := rfl
@[simp] theorem State.setCfg_host : (s.setCfg v).host = s.host := rfl
@[simp] theorem State.setCfg_cfg : (s.setCfg v).cfg = v := rfl
@[simp] theorem State.setCfg_bench : (s.setCfg v).bench = s.bench := rfl
@[simp] theorem State.setCfg_fab : (s.setCfg v).fab = s.fab := rfl
@[simp] theorem State.setCfg_eth : (s.setCfg v).eth = s.eth := rfl
@[simp] theorem State.setCfg_tbl : (s.setCfg v).tbl = s.tbl := rfl
@[simp] theorem State.setCfg_flt : (s.setCfg v).flt = s.flt := rfl
@[simp] theorem State.setCfg_ax0 : (s.setCfg v).ax0 = s.ax0 := rfl
@[simp] theorem State.setCfg_pins : (s.setCfg v).pins = s.pins := rfl
@[simp] theorem State.setCfg_pwr : (s.setCfg v).pwr = s.pwr := rfl
@[simp] theorem State.setCfg_body : (s.setCfg v).body = s.body := rfl
@[simp] theorem State.setCfg_can : (s.setCfg v).can = s.can := rfl
@[simp] theorem State.setCfg_lin : (s.setCfg v).lin = s.lin := rfl
@[simp] theorem State.setCfg_wake : (s.setCfg v).wake = s.wake := rfl
@[simp] theorem State.setCfg_guard : (s.setCfg v).guard = s.guard := rfl
@[simp] theorem State.setCfg_gw : (s.setCfg v).gw = s.gw := rfl
@[simp] theorem State.setCfg_trust : (s.setCfg v).trust = s.trust := rfl
@[simp] theorem State.setCfg_stamps : (s.setCfg v).stamps = s.stamps := rfl
@[simp] theorem State.setCfg_axes : (s.setCfg v).axes = s.axes := rfl
@[simp] theorem State.setCfg_evp : (s.setCfg v).evp = s.evp := rfl
@[simp] theorem State.setCfg_upd : (s.setCfg v).upd = s.upd := rfl
@[simp] theorem State.setCfg_drk : (s.setCfg v).drk = s.drk := rfl
@[simp] theorem State.setCfg_leg : (s.setCfg v).leg = s.leg := rfl
@[simp] theorem State.setCfg_clk : (s.setCfg v).clk = s.clk := rfl
@[simp] theorem State.setCfg_draws : (s.setCfg v).draws = s.draws := rfl
@[simp] theorem State.setCfg_outs : (s.setCfg v).outs = s.outs := rfl
@[simp] theorem State.setCfg_pending : (s.setCfg v).pending = s.pending := rfl
end

section
variable (v : BenchSt)
@[simp] theorem State.setBench_regs : (s.setBench v).regs = s.regs := rfl
@[simp] theorem State.setBench_wbuf : (s.setBench v).wbuf = s.wbuf := rfl
@[simp] theorem State.setBench_parity : (s.setBench v).parity = s.parity := rfl
@[simp] theorem State.setBench_holds : (s.setBench v).holds = s.holds := rfl
@[simp] theorem State.setBench_fans : (s.setBench v).fans = s.fans := rfl
@[simp] theorem State.setBench_host : (s.setBench v).host = s.host := rfl
@[simp] theorem State.setBench_cfg : (s.setBench v).cfg = s.cfg := rfl
@[simp] theorem State.setBench_bench : (s.setBench v).bench = v := rfl
@[simp] theorem State.setBench_fab : (s.setBench v).fab = s.fab := rfl
@[simp] theorem State.setBench_eth : (s.setBench v).eth = s.eth := rfl
@[simp] theorem State.setBench_tbl : (s.setBench v).tbl = s.tbl := rfl
@[simp] theorem State.setBench_flt : (s.setBench v).flt = s.flt := rfl
@[simp] theorem State.setBench_ax0 : (s.setBench v).ax0 = s.ax0 := rfl
@[simp] theorem State.setBench_pins : (s.setBench v).pins = s.pins := rfl
@[simp] theorem State.setBench_pwr : (s.setBench v).pwr = s.pwr := rfl
@[simp] theorem State.setBench_body : (s.setBench v).body = s.body := rfl
@[simp] theorem State.setBench_can : (s.setBench v).can = s.can := rfl
@[simp] theorem State.setBench_lin : (s.setBench v).lin = s.lin := rfl
@[simp] theorem State.setBench_wake : (s.setBench v).wake = s.wake := rfl
@[simp] theorem State.setBench_guard : (s.setBench v).guard = s.guard := rfl
@[simp] theorem State.setBench_gw : (s.setBench v).gw = s.gw := rfl
@[simp] theorem State.setBench_trust : (s.setBench v).trust = s.trust := rfl
@[simp] theorem State.setBench_stamps : (s.setBench v).stamps = s.stamps := rfl
@[simp] theorem State.setBench_axes : (s.setBench v).axes = s.axes := rfl
@[simp] theorem State.setBench_evp : (s.setBench v).evp = s.evp := rfl
@[simp] theorem State.setBench_upd : (s.setBench v).upd = s.upd := rfl
@[simp] theorem State.setBench_drk : (s.setBench v).drk = s.drk := rfl
@[simp] theorem State.setBench_leg : (s.setBench v).leg = s.leg := rfl
@[simp] theorem State.setBench_clk : (s.setBench v).clk = s.clk := rfl
@[simp] theorem State.setBench_draws : (s.setBench v).draws = s.draws := rfl
@[simp] theorem State.setBench_outs : (s.setBench v).outs = s.outs := rfl
@[simp] theorem State.setBench_pending : (s.setBench v).pending = s.pending := rfl
end

section
variable (v : FabSt)
@[simp] theorem State.setFab_regs : (s.setFab v).regs = s.regs := rfl
@[simp] theorem State.setFab_wbuf : (s.setFab v).wbuf = s.wbuf := rfl
@[simp] theorem State.setFab_parity : (s.setFab v).parity = s.parity := rfl
@[simp] theorem State.setFab_holds : (s.setFab v).holds = s.holds := rfl
@[simp] theorem State.setFab_fans : (s.setFab v).fans = s.fans := rfl
@[simp] theorem State.setFab_host : (s.setFab v).host = s.host := rfl
@[simp] theorem State.setFab_cfg : (s.setFab v).cfg = s.cfg := rfl
@[simp] theorem State.setFab_bench : (s.setFab v).bench = s.bench := rfl
@[simp] theorem State.setFab_fab : (s.setFab v).fab = v := rfl
@[simp] theorem State.setFab_eth : (s.setFab v).eth = s.eth := rfl
@[simp] theorem State.setFab_tbl : (s.setFab v).tbl = s.tbl := rfl
@[simp] theorem State.setFab_flt : (s.setFab v).flt = s.flt := rfl
@[simp] theorem State.setFab_ax0 : (s.setFab v).ax0 = s.ax0 := rfl
@[simp] theorem State.setFab_pins : (s.setFab v).pins = s.pins := rfl
@[simp] theorem State.setFab_pwr : (s.setFab v).pwr = s.pwr := rfl
@[simp] theorem State.setFab_body : (s.setFab v).body = s.body := rfl
@[simp] theorem State.setFab_can : (s.setFab v).can = s.can := rfl
@[simp] theorem State.setFab_lin : (s.setFab v).lin = s.lin := rfl
@[simp] theorem State.setFab_wake : (s.setFab v).wake = s.wake := rfl
@[simp] theorem State.setFab_guard : (s.setFab v).guard = s.guard := rfl
@[simp] theorem State.setFab_gw : (s.setFab v).gw = s.gw := rfl
@[simp] theorem State.setFab_trust : (s.setFab v).trust = s.trust := rfl
@[simp] theorem State.setFab_stamps : (s.setFab v).stamps = s.stamps := rfl
@[simp] theorem State.setFab_axes : (s.setFab v).axes = s.axes := rfl
@[simp] theorem State.setFab_evp : (s.setFab v).evp = s.evp := rfl
@[simp] theorem State.setFab_upd : (s.setFab v).upd = s.upd := rfl
@[simp] theorem State.setFab_drk : (s.setFab v).drk = s.drk := rfl
@[simp] theorem State.setFab_leg : (s.setFab v).leg = s.leg := rfl
@[simp] theorem State.setFab_clk : (s.setFab v).clk = s.clk := rfl
@[simp] theorem State.setFab_draws : (s.setFab v).draws = s.draws := rfl
@[simp] theorem State.setFab_outs : (s.setFab v).outs = s.outs := rfl
@[simp] theorem State.setFab_pending : (s.setFab v).pending = s.pending := rfl
end

section
variable (v : EthSt)
@[simp] theorem State.setEth_regs : (s.setEth v).regs = s.regs := rfl
@[simp] theorem State.setEth_wbuf : (s.setEth v).wbuf = s.wbuf := rfl
@[simp] theorem State.setEth_parity : (s.setEth v).parity = s.parity := rfl
@[simp] theorem State.setEth_holds : (s.setEth v).holds = s.holds := rfl
@[simp] theorem State.setEth_fans : (s.setEth v).fans = s.fans := rfl
@[simp] theorem State.setEth_host : (s.setEth v).host = s.host := rfl
@[simp] theorem State.setEth_cfg : (s.setEth v).cfg = s.cfg := rfl
@[simp] theorem State.setEth_bench : (s.setEth v).bench = s.bench := rfl
@[simp] theorem State.setEth_fab : (s.setEth v).fab = s.fab := rfl
@[simp] theorem State.setEth_eth : (s.setEth v).eth = v := rfl
@[simp] theorem State.setEth_tbl : (s.setEth v).tbl = s.tbl := rfl
@[simp] theorem State.setEth_flt : (s.setEth v).flt = s.flt := rfl
@[simp] theorem State.setEth_ax0 : (s.setEth v).ax0 = s.ax0 := rfl
@[simp] theorem State.setEth_pins : (s.setEth v).pins = s.pins := rfl
@[simp] theorem State.setEth_pwr : (s.setEth v).pwr = s.pwr := rfl
@[simp] theorem State.setEth_body : (s.setEth v).body = s.body := rfl
@[simp] theorem State.setEth_can : (s.setEth v).can = s.can := rfl
@[simp] theorem State.setEth_lin : (s.setEth v).lin = s.lin := rfl
@[simp] theorem State.setEth_wake : (s.setEth v).wake = s.wake := rfl
@[simp] theorem State.setEth_guard : (s.setEth v).guard = s.guard := rfl
@[simp] theorem State.setEth_gw : (s.setEth v).gw = s.gw := rfl
@[simp] theorem State.setEth_trust : (s.setEth v).trust = s.trust := rfl
@[simp] theorem State.setEth_stamps : (s.setEth v).stamps = s.stamps := rfl
@[simp] theorem State.setEth_axes : (s.setEth v).axes = s.axes := rfl
@[simp] theorem State.setEth_evp : (s.setEth v).evp = s.evp := rfl
@[simp] theorem State.setEth_upd : (s.setEth v).upd = s.upd := rfl
@[simp] theorem State.setEth_drk : (s.setEth v).drk = s.drk := rfl
@[simp] theorem State.setEth_leg : (s.setEth v).leg = s.leg := rfl
@[simp] theorem State.setEth_clk : (s.setEth v).clk = s.clk := rfl
@[simp] theorem State.setEth_draws : (s.setEth v).draws = s.draws := rfl
@[simp] theorem State.setEth_outs : (s.setEth v).outs = s.outs := rfl
@[simp] theorem State.setEth_pending : (s.setEth v).pending = s.pending := rfl
end

section
variable (v : TableSt)
@[simp] theorem State.setTbl_regs : (s.setTbl v).regs = s.regs := rfl
@[simp] theorem State.setTbl_wbuf : (s.setTbl v).wbuf = s.wbuf := rfl
@[simp] theorem State.setTbl_parity : (s.setTbl v).parity = s.parity := rfl
@[simp] theorem State.setTbl_holds : (s.setTbl v).holds = s.holds := rfl
@[simp] theorem State.setTbl_fans : (s.setTbl v).fans = s.fans := rfl
@[simp] theorem State.setTbl_host : (s.setTbl v).host = s.host := rfl
@[simp] theorem State.setTbl_cfg : (s.setTbl v).cfg = s.cfg := rfl
@[simp] theorem State.setTbl_bench : (s.setTbl v).bench = s.bench := rfl
@[simp] theorem State.setTbl_fab : (s.setTbl v).fab = s.fab := rfl
@[simp] theorem State.setTbl_eth : (s.setTbl v).eth = s.eth := rfl
@[simp] theorem State.setTbl_tbl : (s.setTbl v).tbl = v := rfl
@[simp] theorem State.setTbl_flt : (s.setTbl v).flt = s.flt := rfl
@[simp] theorem State.setTbl_ax0 : (s.setTbl v).ax0 = s.ax0 := rfl
@[simp] theorem State.setTbl_pins : (s.setTbl v).pins = s.pins := rfl
@[simp] theorem State.setTbl_pwr : (s.setTbl v).pwr = s.pwr := rfl
@[simp] theorem State.setTbl_body : (s.setTbl v).body = s.body := rfl
@[simp] theorem State.setTbl_can : (s.setTbl v).can = s.can := rfl
@[simp] theorem State.setTbl_lin : (s.setTbl v).lin = s.lin := rfl
@[simp] theorem State.setTbl_wake : (s.setTbl v).wake = s.wake := rfl
@[simp] theorem State.setTbl_guard : (s.setTbl v).guard = s.guard := rfl
@[simp] theorem State.setTbl_gw : (s.setTbl v).gw = s.gw := rfl
@[simp] theorem State.setTbl_trust : (s.setTbl v).trust = s.trust := rfl
@[simp] theorem State.setTbl_stamps : (s.setTbl v).stamps = s.stamps := rfl
@[simp] theorem State.setTbl_axes : (s.setTbl v).axes = s.axes := rfl
@[simp] theorem State.setTbl_evp : (s.setTbl v).evp = s.evp := rfl
@[simp] theorem State.setTbl_upd : (s.setTbl v).upd = s.upd := rfl
@[simp] theorem State.setTbl_drk : (s.setTbl v).drk = s.drk := rfl
@[simp] theorem State.setTbl_leg : (s.setTbl v).leg = s.leg := rfl
@[simp] theorem State.setTbl_clk : (s.setTbl v).clk = s.clk := rfl
@[simp] theorem State.setTbl_draws : (s.setTbl v).draws = s.draws := rfl
@[simp] theorem State.setTbl_outs : (s.setTbl v).outs = s.outs := rfl
@[simp] theorem State.setTbl_pending : (s.setTbl v).pending = s.pending := rfl
end

section
variable (v : FaultSt)
@[simp] theorem State.setFlt_regs : (s.setFlt v).regs = s.regs := rfl
@[simp] theorem State.setFlt_wbuf : (s.setFlt v).wbuf = s.wbuf := rfl
@[simp] theorem State.setFlt_parity : (s.setFlt v).parity = s.parity := rfl
@[simp] theorem State.setFlt_holds : (s.setFlt v).holds = s.holds := rfl
@[simp] theorem State.setFlt_fans : (s.setFlt v).fans = s.fans := rfl
@[simp] theorem State.setFlt_host : (s.setFlt v).host = s.host := rfl
@[simp] theorem State.setFlt_cfg : (s.setFlt v).cfg = s.cfg := rfl
@[simp] theorem State.setFlt_bench : (s.setFlt v).bench = s.bench := rfl
@[simp] theorem State.setFlt_fab : (s.setFlt v).fab = s.fab := rfl
@[simp] theorem State.setFlt_eth : (s.setFlt v).eth = s.eth := rfl
@[simp] theorem State.setFlt_tbl : (s.setFlt v).tbl = s.tbl := rfl
@[simp] theorem State.setFlt_flt : (s.setFlt v).flt = v := rfl
@[simp] theorem State.setFlt_ax0 : (s.setFlt v).ax0 = s.ax0 := rfl
@[simp] theorem State.setFlt_pins : (s.setFlt v).pins = s.pins := rfl
@[simp] theorem State.setFlt_pwr : (s.setFlt v).pwr = s.pwr := rfl
@[simp] theorem State.setFlt_body : (s.setFlt v).body = s.body := rfl
@[simp] theorem State.setFlt_can : (s.setFlt v).can = s.can := rfl
@[simp] theorem State.setFlt_lin : (s.setFlt v).lin = s.lin := rfl
@[simp] theorem State.setFlt_wake : (s.setFlt v).wake = s.wake := rfl
@[simp] theorem State.setFlt_guard : (s.setFlt v).guard = s.guard := rfl
@[simp] theorem State.setFlt_gw : (s.setFlt v).gw = s.gw := rfl
@[simp] theorem State.setFlt_trust : (s.setFlt v).trust = s.trust := rfl
@[simp] theorem State.setFlt_stamps : (s.setFlt v).stamps = s.stamps := rfl
@[simp] theorem State.setFlt_axes : (s.setFlt v).axes = s.axes := rfl
@[simp] theorem State.setFlt_evp : (s.setFlt v).evp = s.evp := rfl
@[simp] theorem State.setFlt_upd : (s.setFlt v).upd = s.upd := rfl
@[simp] theorem State.setFlt_drk : (s.setFlt v).drk = s.drk := rfl
@[simp] theorem State.setFlt_leg : (s.setFlt v).leg = s.leg := rfl
@[simp] theorem State.setFlt_clk : (s.setFlt v).clk = s.clk := rfl
@[simp] theorem State.setFlt_draws : (s.setFlt v).draws = s.draws := rfl
@[simp] theorem State.setFlt_outs : (s.setFlt v).outs = s.outs := rfl
@[simp] theorem State.setFlt_pending : (s.setFlt v).pending = s.pending := rfl
end

section
variable (v : Ax0St)
@[simp] theorem State.setAx0_regs : (s.setAx0 v).regs = s.regs := rfl
@[simp] theorem State.setAx0_wbuf : (s.setAx0 v).wbuf = s.wbuf := rfl
@[simp] theorem State.setAx0_parity : (s.setAx0 v).parity = s.parity := rfl
@[simp] theorem State.setAx0_holds : (s.setAx0 v).holds = s.holds := rfl
@[simp] theorem State.setAx0_fans : (s.setAx0 v).fans = s.fans := rfl
@[simp] theorem State.setAx0_host : (s.setAx0 v).host = s.host := rfl
@[simp] theorem State.setAx0_cfg : (s.setAx0 v).cfg = s.cfg := rfl
@[simp] theorem State.setAx0_bench : (s.setAx0 v).bench = s.bench := rfl
@[simp] theorem State.setAx0_fab : (s.setAx0 v).fab = s.fab := rfl
@[simp] theorem State.setAx0_eth : (s.setAx0 v).eth = s.eth := rfl
@[simp] theorem State.setAx0_tbl : (s.setAx0 v).tbl = s.tbl := rfl
@[simp] theorem State.setAx0_flt : (s.setAx0 v).flt = s.flt := rfl
@[simp] theorem State.setAx0_ax0 : (s.setAx0 v).ax0 = v := rfl
@[simp] theorem State.setAx0_pins : (s.setAx0 v).pins = s.pins := rfl
@[simp] theorem State.setAx0_pwr : (s.setAx0 v).pwr = s.pwr := rfl
@[simp] theorem State.setAx0_body : (s.setAx0 v).body = s.body := rfl
@[simp] theorem State.setAx0_can : (s.setAx0 v).can = s.can := rfl
@[simp] theorem State.setAx0_lin : (s.setAx0 v).lin = s.lin := rfl
@[simp] theorem State.setAx0_wake : (s.setAx0 v).wake = s.wake := rfl
@[simp] theorem State.setAx0_guard : (s.setAx0 v).guard = s.guard := rfl
@[simp] theorem State.setAx0_gw : (s.setAx0 v).gw = s.gw := rfl
@[simp] theorem State.setAx0_trust : (s.setAx0 v).trust = s.trust := rfl
@[simp] theorem State.setAx0_stamps : (s.setAx0 v).stamps = s.stamps := rfl
@[simp] theorem State.setAx0_axes : (s.setAx0 v).axes = s.axes := rfl
@[simp] theorem State.setAx0_evp : (s.setAx0 v).evp = s.evp := rfl
@[simp] theorem State.setAx0_upd : (s.setAx0 v).upd = s.upd := rfl
@[simp] theorem State.setAx0_drk : (s.setAx0 v).drk = s.drk := rfl
@[simp] theorem State.setAx0_leg : (s.setAx0 v).leg = s.leg := rfl
@[simp] theorem State.setAx0_clk : (s.setAx0 v).clk = s.clk := rfl
@[simp] theorem State.setAx0_draws : (s.setAx0 v).draws = s.draws := rfl
@[simp] theorem State.setAx0_outs : (s.setAx0 v).outs = s.outs := rfl
@[simp] theorem State.setAx0_pending : (s.setAx0 v).pending = s.pending := rfl
end

section
variable (v : PinSt)
@[simp] theorem State.setPins_regs : (s.setPins v).regs = s.regs := rfl
@[simp] theorem State.setPins_wbuf : (s.setPins v).wbuf = s.wbuf := rfl
@[simp] theorem State.setPins_parity : (s.setPins v).parity = s.parity := rfl
@[simp] theorem State.setPins_holds : (s.setPins v).holds = s.holds := rfl
@[simp] theorem State.setPins_fans : (s.setPins v).fans = s.fans := rfl
@[simp] theorem State.setPins_host : (s.setPins v).host = s.host := rfl
@[simp] theorem State.setPins_cfg : (s.setPins v).cfg = s.cfg := rfl
@[simp] theorem State.setPins_bench : (s.setPins v).bench = s.bench := rfl
@[simp] theorem State.setPins_fab : (s.setPins v).fab = s.fab := rfl
@[simp] theorem State.setPins_eth : (s.setPins v).eth = s.eth := rfl
@[simp] theorem State.setPins_tbl : (s.setPins v).tbl = s.tbl := rfl
@[simp] theorem State.setPins_flt : (s.setPins v).flt = s.flt := rfl
@[simp] theorem State.setPins_ax0 : (s.setPins v).ax0 = s.ax0 := rfl
@[simp] theorem State.setPins_pins : (s.setPins v).pins = v := rfl
@[simp] theorem State.setPins_pwr : (s.setPins v).pwr = s.pwr := rfl
@[simp] theorem State.setPins_body : (s.setPins v).body = s.body := rfl
@[simp] theorem State.setPins_can : (s.setPins v).can = s.can := rfl
@[simp] theorem State.setPins_lin : (s.setPins v).lin = s.lin := rfl
@[simp] theorem State.setPins_wake : (s.setPins v).wake = s.wake := rfl
@[simp] theorem State.setPins_guard : (s.setPins v).guard = s.guard := rfl
@[simp] theorem State.setPins_gw : (s.setPins v).gw = s.gw := rfl
@[simp] theorem State.setPins_trust : (s.setPins v).trust = s.trust := rfl
@[simp] theorem State.setPins_stamps : (s.setPins v).stamps = s.stamps := rfl
@[simp] theorem State.setPins_axes : (s.setPins v).axes = s.axes := rfl
@[simp] theorem State.setPins_evp : (s.setPins v).evp = s.evp := rfl
@[simp] theorem State.setPins_upd : (s.setPins v).upd = s.upd := rfl
@[simp] theorem State.setPins_drk : (s.setPins v).drk = s.drk := rfl
@[simp] theorem State.setPins_leg : (s.setPins v).leg = s.leg := rfl
@[simp] theorem State.setPins_clk : (s.setPins v).clk = s.clk := rfl
@[simp] theorem State.setPins_draws : (s.setPins v).draws = s.draws := rfl
@[simp] theorem State.setPins_outs : (s.setPins v).outs = s.outs := rfl
@[simp] theorem State.setPins_pending : (s.setPins v).pending = s.pending := rfl
end

section
variable (v : PwrSt)
@[simp] theorem State.setPwr_regs : (s.setPwr v).regs = s.regs := rfl
@[simp] theorem State.setPwr_wbuf : (s.setPwr v).wbuf = s.wbuf := rfl
@[simp] theorem State.setPwr_parity : (s.setPwr v).parity = s.parity := rfl
@[simp] theorem State.setPwr_holds : (s.setPwr v).holds = s.holds := rfl
@[simp] theorem State.setPwr_fans : (s.setPwr v).fans = s.fans := rfl
@[simp] theorem State.setPwr_host : (s.setPwr v).host = s.host := rfl
@[simp] theorem State.setPwr_cfg : (s.setPwr v).cfg = s.cfg := rfl
@[simp] theorem State.setPwr_bench : (s.setPwr v).bench = s.bench := rfl
@[simp] theorem State.setPwr_fab : (s.setPwr v).fab = s.fab := rfl
@[simp] theorem State.setPwr_eth : (s.setPwr v).eth = s.eth := rfl
@[simp] theorem State.setPwr_tbl : (s.setPwr v).tbl = s.tbl := rfl
@[simp] theorem State.setPwr_flt : (s.setPwr v).flt = s.flt := rfl
@[simp] theorem State.setPwr_ax0 : (s.setPwr v).ax0 = s.ax0 := rfl
@[simp] theorem State.setPwr_pins : (s.setPwr v).pins = s.pins := rfl
@[simp] theorem State.setPwr_pwr : (s.setPwr v).pwr = v := rfl
@[simp] theorem State.setPwr_body : (s.setPwr v).body = s.body := rfl
@[simp] theorem State.setPwr_can : (s.setPwr v).can = s.can := rfl
@[simp] theorem State.setPwr_lin : (s.setPwr v).lin = s.lin := rfl
@[simp] theorem State.setPwr_wake : (s.setPwr v).wake = s.wake := rfl
@[simp] theorem State.setPwr_guard : (s.setPwr v).guard = s.guard := rfl
@[simp] theorem State.setPwr_gw : (s.setPwr v).gw = s.gw := rfl
@[simp] theorem State.setPwr_trust : (s.setPwr v).trust = s.trust := rfl
@[simp] theorem State.setPwr_stamps : (s.setPwr v).stamps = s.stamps := rfl
@[simp] theorem State.setPwr_axes : (s.setPwr v).axes = s.axes := rfl
@[simp] theorem State.setPwr_evp : (s.setPwr v).evp = s.evp := rfl
@[simp] theorem State.setPwr_upd : (s.setPwr v).upd = s.upd := rfl
@[simp] theorem State.setPwr_drk : (s.setPwr v).drk = s.drk := rfl
@[simp] theorem State.setPwr_leg : (s.setPwr v).leg = s.leg := rfl
@[simp] theorem State.setPwr_clk : (s.setPwr v).clk = s.clk := rfl
@[simp] theorem State.setPwr_draws : (s.setPwr v).draws = s.draws := rfl
@[simp] theorem State.setPwr_outs : (s.setPwr v).outs = s.outs := rfl
@[simp] theorem State.setPwr_pending : (s.setPwr v).pending = s.pending := rfl
end

section
variable (v : BodySt)
@[simp] theorem State.setBody_regs : (s.setBody v).regs = s.regs := rfl
@[simp] theorem State.setBody_wbuf : (s.setBody v).wbuf = s.wbuf := rfl
@[simp] theorem State.setBody_parity : (s.setBody v).parity = s.parity := rfl
@[simp] theorem State.setBody_holds : (s.setBody v).holds = s.holds := rfl
@[simp] theorem State.setBody_fans : (s.setBody v).fans = s.fans := rfl
@[simp] theorem State.setBody_host : (s.setBody v).host = s.host := rfl
@[simp] theorem State.setBody_cfg : (s.setBody v).cfg = s.cfg := rfl
@[simp] theorem State.setBody_bench : (s.setBody v).bench = s.bench := rfl
@[simp] theorem State.setBody_fab : (s.setBody v).fab = s.fab := rfl
@[simp] theorem State.setBody_eth : (s.setBody v).eth = s.eth := rfl
@[simp] theorem State.setBody_tbl : (s.setBody v).tbl = s.tbl := rfl
@[simp] theorem State.setBody_flt : (s.setBody v).flt = s.flt := rfl
@[simp] theorem State.setBody_ax0 : (s.setBody v).ax0 = s.ax0 := rfl
@[simp] theorem State.setBody_pins : (s.setBody v).pins = s.pins := rfl
@[simp] theorem State.setBody_pwr : (s.setBody v).pwr = s.pwr := rfl
@[simp] theorem State.setBody_body : (s.setBody v).body = v := rfl
@[simp] theorem State.setBody_can : (s.setBody v).can = s.can := rfl
@[simp] theorem State.setBody_lin : (s.setBody v).lin = s.lin := rfl
@[simp] theorem State.setBody_wake : (s.setBody v).wake = s.wake := rfl
@[simp] theorem State.setBody_guard : (s.setBody v).guard = s.guard := rfl
@[simp] theorem State.setBody_gw : (s.setBody v).gw = s.gw := rfl
@[simp] theorem State.setBody_trust : (s.setBody v).trust = s.trust := rfl
@[simp] theorem State.setBody_stamps : (s.setBody v).stamps = s.stamps := rfl
@[simp] theorem State.setBody_axes : (s.setBody v).axes = s.axes := rfl
@[simp] theorem State.setBody_evp : (s.setBody v).evp = s.evp := rfl
@[simp] theorem State.setBody_upd : (s.setBody v).upd = s.upd := rfl
@[simp] theorem State.setBody_drk : (s.setBody v).drk = s.drk := rfl
@[simp] theorem State.setBody_leg : (s.setBody v).leg = s.leg := rfl
@[simp] theorem State.setBody_clk : (s.setBody v).clk = s.clk := rfl
@[simp] theorem State.setBody_draws : (s.setBody v).draws = s.draws := rfl
@[simp] theorem State.setBody_outs : (s.setBody v).outs = s.outs := rfl
@[simp] theorem State.setBody_pending : (s.setBody v).pending = s.pending := rfl
end

section
variable (v : CanSt)
@[simp] theorem State.setCan_regs : (s.setCan v).regs = s.regs := rfl
@[simp] theorem State.setCan_wbuf : (s.setCan v).wbuf = s.wbuf := rfl
@[simp] theorem State.setCan_parity : (s.setCan v).parity = s.parity := rfl
@[simp] theorem State.setCan_holds : (s.setCan v).holds = s.holds := rfl
@[simp] theorem State.setCan_fans : (s.setCan v).fans = s.fans := rfl
@[simp] theorem State.setCan_host : (s.setCan v).host = s.host := rfl
@[simp] theorem State.setCan_cfg : (s.setCan v).cfg = s.cfg := rfl
@[simp] theorem State.setCan_bench : (s.setCan v).bench = s.bench := rfl
@[simp] theorem State.setCan_fab : (s.setCan v).fab = s.fab := rfl
@[simp] theorem State.setCan_eth : (s.setCan v).eth = s.eth := rfl
@[simp] theorem State.setCan_tbl : (s.setCan v).tbl = s.tbl := rfl
@[simp] theorem State.setCan_flt : (s.setCan v).flt = s.flt := rfl
@[simp] theorem State.setCan_ax0 : (s.setCan v).ax0 = s.ax0 := rfl
@[simp] theorem State.setCan_pins : (s.setCan v).pins = s.pins := rfl
@[simp] theorem State.setCan_pwr : (s.setCan v).pwr = s.pwr := rfl
@[simp] theorem State.setCan_body : (s.setCan v).body = s.body := rfl
@[simp] theorem State.setCan_can : (s.setCan v).can = v := rfl
@[simp] theorem State.setCan_lin : (s.setCan v).lin = s.lin := rfl
@[simp] theorem State.setCan_wake : (s.setCan v).wake = s.wake := rfl
@[simp] theorem State.setCan_guard : (s.setCan v).guard = s.guard := rfl
@[simp] theorem State.setCan_gw : (s.setCan v).gw = s.gw := rfl
@[simp] theorem State.setCan_trust : (s.setCan v).trust = s.trust := rfl
@[simp] theorem State.setCan_stamps : (s.setCan v).stamps = s.stamps := rfl
@[simp] theorem State.setCan_axes : (s.setCan v).axes = s.axes := rfl
@[simp] theorem State.setCan_evp : (s.setCan v).evp = s.evp := rfl
@[simp] theorem State.setCan_upd : (s.setCan v).upd = s.upd := rfl
@[simp] theorem State.setCan_drk : (s.setCan v).drk = s.drk := rfl
@[simp] theorem State.setCan_leg : (s.setCan v).leg = s.leg := rfl
@[simp] theorem State.setCan_clk : (s.setCan v).clk = s.clk := rfl
@[simp] theorem State.setCan_draws : (s.setCan v).draws = s.draws := rfl
@[simp] theorem State.setCan_outs : (s.setCan v).outs = s.outs := rfl
@[simp] theorem State.setCan_pending : (s.setCan v).pending = s.pending := rfl
end

section
variable (v : LinSt)
@[simp] theorem State.setLin_regs : (s.setLin v).regs = s.regs := rfl
@[simp] theorem State.setLin_wbuf : (s.setLin v).wbuf = s.wbuf := rfl
@[simp] theorem State.setLin_parity : (s.setLin v).parity = s.parity := rfl
@[simp] theorem State.setLin_holds : (s.setLin v).holds = s.holds := rfl
@[simp] theorem State.setLin_fans : (s.setLin v).fans = s.fans := rfl
@[simp] theorem State.setLin_host : (s.setLin v).host = s.host := rfl
@[simp] theorem State.setLin_cfg : (s.setLin v).cfg = s.cfg := rfl
@[simp] theorem State.setLin_bench : (s.setLin v).bench = s.bench := rfl
@[simp] theorem State.setLin_fab : (s.setLin v).fab = s.fab := rfl
@[simp] theorem State.setLin_eth : (s.setLin v).eth = s.eth := rfl
@[simp] theorem State.setLin_tbl : (s.setLin v).tbl = s.tbl := rfl
@[simp] theorem State.setLin_flt : (s.setLin v).flt = s.flt := rfl
@[simp] theorem State.setLin_ax0 : (s.setLin v).ax0 = s.ax0 := rfl
@[simp] theorem State.setLin_pins : (s.setLin v).pins = s.pins := rfl
@[simp] theorem State.setLin_pwr : (s.setLin v).pwr = s.pwr := rfl
@[simp] theorem State.setLin_body : (s.setLin v).body = s.body := rfl
@[simp] theorem State.setLin_can : (s.setLin v).can = s.can := rfl
@[simp] theorem State.setLin_lin : (s.setLin v).lin = v := rfl
@[simp] theorem State.setLin_wake : (s.setLin v).wake = s.wake := rfl
@[simp] theorem State.setLin_guard : (s.setLin v).guard = s.guard := rfl
@[simp] theorem State.setLin_gw : (s.setLin v).gw = s.gw := rfl
@[simp] theorem State.setLin_trust : (s.setLin v).trust = s.trust := rfl
@[simp] theorem State.setLin_stamps : (s.setLin v).stamps = s.stamps := rfl
@[simp] theorem State.setLin_axes : (s.setLin v).axes = s.axes := rfl
@[simp] theorem State.setLin_evp : (s.setLin v).evp = s.evp := rfl
@[simp] theorem State.setLin_upd : (s.setLin v).upd = s.upd := rfl
@[simp] theorem State.setLin_drk : (s.setLin v).drk = s.drk := rfl
@[simp] theorem State.setLin_leg : (s.setLin v).leg = s.leg := rfl
@[simp] theorem State.setLin_clk : (s.setLin v).clk = s.clk := rfl
@[simp] theorem State.setLin_draws : (s.setLin v).draws = s.draws := rfl
@[simp] theorem State.setLin_outs : (s.setLin v).outs = s.outs := rfl
@[simp] theorem State.setLin_pending : (s.setLin v).pending = s.pending := rfl
end

section
variable (v : WakeSt)
@[simp] theorem State.setWake_regs : (s.setWake v).regs = s.regs := rfl
@[simp] theorem State.setWake_wbuf : (s.setWake v).wbuf = s.wbuf := rfl
@[simp] theorem State.setWake_parity : (s.setWake v).parity = s.parity := rfl
@[simp] theorem State.setWake_holds : (s.setWake v).holds = s.holds := rfl
@[simp] theorem State.setWake_fans : (s.setWake v).fans = s.fans := rfl
@[simp] theorem State.setWake_host : (s.setWake v).host = s.host := rfl
@[simp] theorem State.setWake_cfg : (s.setWake v).cfg = s.cfg := rfl
@[simp] theorem State.setWake_bench : (s.setWake v).bench = s.bench := rfl
@[simp] theorem State.setWake_fab : (s.setWake v).fab = s.fab := rfl
@[simp] theorem State.setWake_eth : (s.setWake v).eth = s.eth := rfl
@[simp] theorem State.setWake_tbl : (s.setWake v).tbl = s.tbl := rfl
@[simp] theorem State.setWake_flt : (s.setWake v).flt = s.flt := rfl
@[simp] theorem State.setWake_ax0 : (s.setWake v).ax0 = s.ax0 := rfl
@[simp] theorem State.setWake_pins : (s.setWake v).pins = s.pins := rfl
@[simp] theorem State.setWake_pwr : (s.setWake v).pwr = s.pwr := rfl
@[simp] theorem State.setWake_body : (s.setWake v).body = s.body := rfl
@[simp] theorem State.setWake_can : (s.setWake v).can = s.can := rfl
@[simp] theorem State.setWake_lin : (s.setWake v).lin = s.lin := rfl
@[simp] theorem State.setWake_wake : (s.setWake v).wake = v := rfl
@[simp] theorem State.setWake_guard : (s.setWake v).guard = s.guard := rfl
@[simp] theorem State.setWake_gw : (s.setWake v).gw = s.gw := rfl
@[simp] theorem State.setWake_trust : (s.setWake v).trust = s.trust := rfl
@[simp] theorem State.setWake_stamps : (s.setWake v).stamps = s.stamps := rfl
@[simp] theorem State.setWake_axes : (s.setWake v).axes = s.axes := rfl
@[simp] theorem State.setWake_evp : (s.setWake v).evp = s.evp := rfl
@[simp] theorem State.setWake_upd : (s.setWake v).upd = s.upd := rfl
@[simp] theorem State.setWake_drk : (s.setWake v).drk = s.drk := rfl
@[simp] theorem State.setWake_leg : (s.setWake v).leg = s.leg := rfl
@[simp] theorem State.setWake_clk : (s.setWake v).clk = s.clk := rfl
@[simp] theorem State.setWake_draws : (s.setWake v).draws = s.draws := rfl
@[simp] theorem State.setWake_outs : (s.setWake v).outs = s.outs := rfl
@[simp] theorem State.setWake_pending : (s.setWake v).pending = s.pending := rfl
end

section
variable (v : GuardSt)
@[simp] theorem State.setGuard_regs : (s.setGuard v).regs = s.regs := rfl
@[simp] theorem State.setGuard_wbuf : (s.setGuard v).wbuf = s.wbuf := rfl
@[simp] theorem State.setGuard_parity : (s.setGuard v).parity = s.parity := rfl
@[simp] theorem State.setGuard_holds : (s.setGuard v).holds = s.holds := rfl
@[simp] theorem State.setGuard_fans : (s.setGuard v).fans = s.fans := rfl
@[simp] theorem State.setGuard_host : (s.setGuard v).host = s.host := rfl
@[simp] theorem State.setGuard_cfg : (s.setGuard v).cfg = s.cfg := rfl
@[simp] theorem State.setGuard_bench : (s.setGuard v).bench = s.bench := rfl
@[simp] theorem State.setGuard_fab : (s.setGuard v).fab = s.fab := rfl
@[simp] theorem State.setGuard_eth : (s.setGuard v).eth = s.eth := rfl
@[simp] theorem State.setGuard_tbl : (s.setGuard v).tbl = s.tbl := rfl
@[simp] theorem State.setGuard_flt : (s.setGuard v).flt = s.flt := rfl
@[simp] theorem State.setGuard_ax0 : (s.setGuard v).ax0 = s.ax0 := rfl
@[simp] theorem State.setGuard_pins : (s.setGuard v).pins = s.pins := rfl
@[simp] theorem State.setGuard_pwr : (s.setGuard v).pwr = s.pwr := rfl
@[simp] theorem State.setGuard_body : (s.setGuard v).body = s.body := rfl
@[simp] theorem State.setGuard_can : (s.setGuard v).can = s.can := rfl
@[simp] theorem State.setGuard_lin : (s.setGuard v).lin = s.lin := rfl
@[simp] theorem State.setGuard_wake : (s.setGuard v).wake = s.wake := rfl
@[simp] theorem State.setGuard_guard : (s.setGuard v).guard = v := rfl
@[simp] theorem State.setGuard_gw : (s.setGuard v).gw = s.gw := rfl
@[simp] theorem State.setGuard_trust : (s.setGuard v).trust = s.trust := rfl
@[simp] theorem State.setGuard_stamps : (s.setGuard v).stamps = s.stamps := rfl
@[simp] theorem State.setGuard_axes : (s.setGuard v).axes = s.axes := rfl
@[simp] theorem State.setGuard_evp : (s.setGuard v).evp = s.evp := rfl
@[simp] theorem State.setGuard_upd : (s.setGuard v).upd = s.upd := rfl
@[simp] theorem State.setGuard_drk : (s.setGuard v).drk = s.drk := rfl
@[simp] theorem State.setGuard_leg : (s.setGuard v).leg = s.leg := rfl
@[simp] theorem State.setGuard_clk : (s.setGuard v).clk = s.clk := rfl
@[simp] theorem State.setGuard_draws : (s.setGuard v).draws = s.draws := rfl
@[simp] theorem State.setGuard_outs : (s.setGuard v).outs = s.outs := rfl
@[simp] theorem State.setGuard_pending : (s.setGuard v).pending = s.pending := rfl
end

section
variable (v : GwSt)
@[simp] theorem State.setGw_regs : (s.setGw v).regs = s.regs := rfl
@[simp] theorem State.setGw_wbuf : (s.setGw v).wbuf = s.wbuf := rfl
@[simp] theorem State.setGw_parity : (s.setGw v).parity = s.parity := rfl
@[simp] theorem State.setGw_holds : (s.setGw v).holds = s.holds := rfl
@[simp] theorem State.setGw_fans : (s.setGw v).fans = s.fans := rfl
@[simp] theorem State.setGw_host : (s.setGw v).host = s.host := rfl
@[simp] theorem State.setGw_cfg : (s.setGw v).cfg = s.cfg := rfl
@[simp] theorem State.setGw_bench : (s.setGw v).bench = s.bench := rfl
@[simp] theorem State.setGw_fab : (s.setGw v).fab = s.fab := rfl
@[simp] theorem State.setGw_eth : (s.setGw v).eth = s.eth := rfl
@[simp] theorem State.setGw_tbl : (s.setGw v).tbl = s.tbl := rfl
@[simp] theorem State.setGw_flt : (s.setGw v).flt = s.flt := rfl
@[simp] theorem State.setGw_ax0 : (s.setGw v).ax0 = s.ax0 := rfl
@[simp] theorem State.setGw_pins : (s.setGw v).pins = s.pins := rfl
@[simp] theorem State.setGw_pwr : (s.setGw v).pwr = s.pwr := rfl
@[simp] theorem State.setGw_body : (s.setGw v).body = s.body := rfl
@[simp] theorem State.setGw_can : (s.setGw v).can = s.can := rfl
@[simp] theorem State.setGw_lin : (s.setGw v).lin = s.lin := rfl
@[simp] theorem State.setGw_wake : (s.setGw v).wake = s.wake := rfl
@[simp] theorem State.setGw_guard : (s.setGw v).guard = s.guard := rfl
@[simp] theorem State.setGw_gw : (s.setGw v).gw = v := rfl
@[simp] theorem State.setGw_trust : (s.setGw v).trust = s.trust := rfl
@[simp] theorem State.setGw_stamps : (s.setGw v).stamps = s.stamps := rfl
@[simp] theorem State.setGw_axes : (s.setGw v).axes = s.axes := rfl
@[simp] theorem State.setGw_evp : (s.setGw v).evp = s.evp := rfl
@[simp] theorem State.setGw_upd : (s.setGw v).upd = s.upd := rfl
@[simp] theorem State.setGw_drk : (s.setGw v).drk = s.drk := rfl
@[simp] theorem State.setGw_leg : (s.setGw v).leg = s.leg := rfl
@[simp] theorem State.setGw_clk : (s.setGw v).clk = s.clk := rfl
@[simp] theorem State.setGw_draws : (s.setGw v).draws = s.draws := rfl
@[simp] theorem State.setGw_outs : (s.setGw v).outs = s.outs := rfl
@[simp] theorem State.setGw_pending : (s.setGw v).pending = s.pending := rfl
end

section
variable (v : TrustSt)
@[simp] theorem State.setTrust_regs : (s.setTrust v).regs = s.regs := rfl
@[simp] theorem State.setTrust_wbuf : (s.setTrust v).wbuf = s.wbuf := rfl
@[simp] theorem State.setTrust_parity : (s.setTrust v).parity = s.parity := rfl
@[simp] theorem State.setTrust_holds : (s.setTrust v).holds = s.holds := rfl
@[simp] theorem State.setTrust_fans : (s.setTrust v).fans = s.fans := rfl
@[simp] theorem State.setTrust_host : (s.setTrust v).host = s.host := rfl
@[simp] theorem State.setTrust_cfg : (s.setTrust v).cfg = s.cfg := rfl
@[simp] theorem State.setTrust_bench : (s.setTrust v).bench = s.bench := rfl
@[simp] theorem State.setTrust_fab : (s.setTrust v).fab = s.fab := rfl
@[simp] theorem State.setTrust_eth : (s.setTrust v).eth = s.eth := rfl
@[simp] theorem State.setTrust_tbl : (s.setTrust v).tbl = s.tbl := rfl
@[simp] theorem State.setTrust_flt : (s.setTrust v).flt = s.flt := rfl
@[simp] theorem State.setTrust_ax0 : (s.setTrust v).ax0 = s.ax0 := rfl
@[simp] theorem State.setTrust_pins : (s.setTrust v).pins = s.pins := rfl
@[simp] theorem State.setTrust_pwr : (s.setTrust v).pwr = s.pwr := rfl
@[simp] theorem State.setTrust_body : (s.setTrust v).body = s.body := rfl
@[simp] theorem State.setTrust_can : (s.setTrust v).can = s.can := rfl
@[simp] theorem State.setTrust_lin : (s.setTrust v).lin = s.lin := rfl
@[simp] theorem State.setTrust_wake : (s.setTrust v).wake = s.wake := rfl
@[simp] theorem State.setTrust_guard : (s.setTrust v).guard = s.guard := rfl
@[simp] theorem State.setTrust_gw : (s.setTrust v).gw = s.gw := rfl
@[simp] theorem State.setTrust_trust : (s.setTrust v).trust = v := rfl
@[simp] theorem State.setTrust_stamps : (s.setTrust v).stamps = s.stamps := rfl
@[simp] theorem State.setTrust_axes : (s.setTrust v).axes = s.axes := rfl
@[simp] theorem State.setTrust_evp : (s.setTrust v).evp = s.evp := rfl
@[simp] theorem State.setTrust_upd : (s.setTrust v).upd = s.upd := rfl
@[simp] theorem State.setTrust_drk : (s.setTrust v).drk = s.drk := rfl
@[simp] theorem State.setTrust_leg : (s.setTrust v).leg = s.leg := rfl
@[simp] theorem State.setTrust_clk : (s.setTrust v).clk = s.clk := rfl
@[simp] theorem State.setTrust_draws : (s.setTrust v).draws = s.draws := rfl
@[simp] theorem State.setTrust_outs : (s.setTrust v).outs = s.outs := rfl
@[simp] theorem State.setTrust_pending : (s.setTrust v).pending = s.pending := rfl
end

section
variable (v : StampSt)
@[simp] theorem State.setStamps_regs : (s.setStamps v).regs = s.regs := rfl
@[simp] theorem State.setStamps_wbuf : (s.setStamps v).wbuf = s.wbuf := rfl
@[simp] theorem State.setStamps_parity : (s.setStamps v).parity = s.parity := rfl
@[simp] theorem State.setStamps_holds : (s.setStamps v).holds = s.holds := rfl
@[simp] theorem State.setStamps_fans : (s.setStamps v).fans = s.fans := rfl
@[simp] theorem State.setStamps_host : (s.setStamps v).host = s.host := rfl
@[simp] theorem State.setStamps_cfg : (s.setStamps v).cfg = s.cfg := rfl
@[simp] theorem State.setStamps_bench : (s.setStamps v).bench = s.bench := rfl
@[simp] theorem State.setStamps_fab : (s.setStamps v).fab = s.fab := rfl
@[simp] theorem State.setStamps_eth : (s.setStamps v).eth = s.eth := rfl
@[simp] theorem State.setStamps_tbl : (s.setStamps v).tbl = s.tbl := rfl
@[simp] theorem State.setStamps_flt : (s.setStamps v).flt = s.flt := rfl
@[simp] theorem State.setStamps_ax0 : (s.setStamps v).ax0 = s.ax0 := rfl
@[simp] theorem State.setStamps_pins : (s.setStamps v).pins = s.pins := rfl
@[simp] theorem State.setStamps_pwr : (s.setStamps v).pwr = s.pwr := rfl
@[simp] theorem State.setStamps_body : (s.setStamps v).body = s.body := rfl
@[simp] theorem State.setStamps_can : (s.setStamps v).can = s.can := rfl
@[simp] theorem State.setStamps_lin : (s.setStamps v).lin = s.lin := rfl
@[simp] theorem State.setStamps_wake : (s.setStamps v).wake = s.wake := rfl
@[simp] theorem State.setStamps_guard : (s.setStamps v).guard = s.guard := rfl
@[simp] theorem State.setStamps_gw : (s.setStamps v).gw = s.gw := rfl
@[simp] theorem State.setStamps_trust : (s.setStamps v).trust = s.trust := rfl
@[simp] theorem State.setStamps_stamps : (s.setStamps v).stamps = v := rfl
@[simp] theorem State.setStamps_axes : (s.setStamps v).axes = s.axes := rfl
@[simp] theorem State.setStamps_evp : (s.setStamps v).evp = s.evp := rfl
@[simp] theorem State.setStamps_upd : (s.setStamps v).upd = s.upd := rfl
@[simp] theorem State.setStamps_drk : (s.setStamps v).drk = s.drk := rfl
@[simp] theorem State.setStamps_leg : (s.setStamps v).leg = s.leg := rfl
@[simp] theorem State.setStamps_clk : (s.setStamps v).clk = s.clk := rfl
@[simp] theorem State.setStamps_draws : (s.setStamps v).draws = s.draws := rfl
@[simp] theorem State.setStamps_outs : (s.setStamps v).outs = s.outs := rfl
@[simp] theorem State.setStamps_pending : (s.setStamps v).pending = s.pending := rfl
end

section
variable (v : Tab AxisSt)
@[simp] theorem State.setAxes_regs : (s.setAxes v).regs = s.regs := rfl
@[simp] theorem State.setAxes_wbuf : (s.setAxes v).wbuf = s.wbuf := rfl
@[simp] theorem State.setAxes_parity : (s.setAxes v).parity = s.parity := rfl
@[simp] theorem State.setAxes_holds : (s.setAxes v).holds = s.holds := rfl
@[simp] theorem State.setAxes_fans : (s.setAxes v).fans = s.fans := rfl
@[simp] theorem State.setAxes_host : (s.setAxes v).host = s.host := rfl
@[simp] theorem State.setAxes_cfg : (s.setAxes v).cfg = s.cfg := rfl
@[simp] theorem State.setAxes_bench : (s.setAxes v).bench = s.bench := rfl
@[simp] theorem State.setAxes_fab : (s.setAxes v).fab = s.fab := rfl
@[simp] theorem State.setAxes_eth : (s.setAxes v).eth = s.eth := rfl
@[simp] theorem State.setAxes_tbl : (s.setAxes v).tbl = s.tbl := rfl
@[simp] theorem State.setAxes_flt : (s.setAxes v).flt = s.flt := rfl
@[simp] theorem State.setAxes_ax0 : (s.setAxes v).ax0 = s.ax0 := rfl
@[simp] theorem State.setAxes_pins : (s.setAxes v).pins = s.pins := rfl
@[simp] theorem State.setAxes_pwr : (s.setAxes v).pwr = s.pwr := rfl
@[simp] theorem State.setAxes_body : (s.setAxes v).body = s.body := rfl
@[simp] theorem State.setAxes_can : (s.setAxes v).can = s.can := rfl
@[simp] theorem State.setAxes_lin : (s.setAxes v).lin = s.lin := rfl
@[simp] theorem State.setAxes_wake : (s.setAxes v).wake = s.wake := rfl
@[simp] theorem State.setAxes_guard : (s.setAxes v).guard = s.guard := rfl
@[simp] theorem State.setAxes_gw : (s.setAxes v).gw = s.gw := rfl
@[simp] theorem State.setAxes_trust : (s.setAxes v).trust = s.trust := rfl
@[simp] theorem State.setAxes_stamps : (s.setAxes v).stamps = s.stamps := rfl
@[simp] theorem State.setAxes_axes : (s.setAxes v).axes = v := rfl
@[simp] theorem State.setAxes_evp : (s.setAxes v).evp = s.evp := rfl
@[simp] theorem State.setAxes_upd : (s.setAxes v).upd = s.upd := rfl
@[simp] theorem State.setAxes_drk : (s.setAxes v).drk = s.drk := rfl
@[simp] theorem State.setAxes_leg : (s.setAxes v).leg = s.leg := rfl
@[simp] theorem State.setAxes_clk : (s.setAxes v).clk = s.clk := rfl
@[simp] theorem State.setAxes_draws : (s.setAxes v).draws = s.draws := rfl
@[simp] theorem State.setAxes_outs : (s.setAxes v).outs = s.outs := rfl
@[simp] theorem State.setAxes_pending : (s.setAxes v).pending = s.pending := rfl
end

section
variable (v : EvpSt)
@[simp] theorem State.setEvp_regs : (s.setEvp v).regs = s.regs := rfl
@[simp] theorem State.setEvp_wbuf : (s.setEvp v).wbuf = s.wbuf := rfl
@[simp] theorem State.setEvp_parity : (s.setEvp v).parity = s.parity := rfl
@[simp] theorem State.setEvp_holds : (s.setEvp v).holds = s.holds := rfl
@[simp] theorem State.setEvp_fans : (s.setEvp v).fans = s.fans := rfl
@[simp] theorem State.setEvp_host : (s.setEvp v).host = s.host := rfl
@[simp] theorem State.setEvp_cfg : (s.setEvp v).cfg = s.cfg := rfl
@[simp] theorem State.setEvp_bench : (s.setEvp v).bench = s.bench := rfl
@[simp] theorem State.setEvp_fab : (s.setEvp v).fab = s.fab := rfl
@[simp] theorem State.setEvp_eth : (s.setEvp v).eth = s.eth := rfl
@[simp] theorem State.setEvp_tbl : (s.setEvp v).tbl = s.tbl := rfl
@[simp] theorem State.setEvp_flt : (s.setEvp v).flt = s.flt := rfl
@[simp] theorem State.setEvp_ax0 : (s.setEvp v).ax0 = s.ax0 := rfl
@[simp] theorem State.setEvp_pins : (s.setEvp v).pins = s.pins := rfl
@[simp] theorem State.setEvp_pwr : (s.setEvp v).pwr = s.pwr := rfl
@[simp] theorem State.setEvp_body : (s.setEvp v).body = s.body := rfl
@[simp] theorem State.setEvp_can : (s.setEvp v).can = s.can := rfl
@[simp] theorem State.setEvp_lin : (s.setEvp v).lin = s.lin := rfl
@[simp] theorem State.setEvp_wake : (s.setEvp v).wake = s.wake := rfl
@[simp] theorem State.setEvp_guard : (s.setEvp v).guard = s.guard := rfl
@[simp] theorem State.setEvp_gw : (s.setEvp v).gw = s.gw := rfl
@[simp] theorem State.setEvp_trust : (s.setEvp v).trust = s.trust := rfl
@[simp] theorem State.setEvp_stamps : (s.setEvp v).stamps = s.stamps := rfl
@[simp] theorem State.setEvp_axes : (s.setEvp v).axes = s.axes := rfl
@[simp] theorem State.setEvp_evp : (s.setEvp v).evp = v := rfl
@[simp] theorem State.setEvp_upd : (s.setEvp v).upd = s.upd := rfl
@[simp] theorem State.setEvp_drk : (s.setEvp v).drk = s.drk := rfl
@[simp] theorem State.setEvp_leg : (s.setEvp v).leg = s.leg := rfl
@[simp] theorem State.setEvp_clk : (s.setEvp v).clk = s.clk := rfl
@[simp] theorem State.setEvp_draws : (s.setEvp v).draws = s.draws := rfl
@[simp] theorem State.setEvp_outs : (s.setEvp v).outs = s.outs := rfl
@[simp] theorem State.setEvp_pending : (s.setEvp v).pending = s.pending := rfl
end

section
variable (v : UpdSt)
@[simp] theorem State.setUpd_regs : (s.setUpd v).regs = s.regs := rfl
@[simp] theorem State.setUpd_wbuf : (s.setUpd v).wbuf = s.wbuf := rfl
@[simp] theorem State.setUpd_parity : (s.setUpd v).parity = s.parity := rfl
@[simp] theorem State.setUpd_holds : (s.setUpd v).holds = s.holds := rfl
@[simp] theorem State.setUpd_fans : (s.setUpd v).fans = s.fans := rfl
@[simp] theorem State.setUpd_host : (s.setUpd v).host = s.host := rfl
@[simp] theorem State.setUpd_cfg : (s.setUpd v).cfg = s.cfg := rfl
@[simp] theorem State.setUpd_bench : (s.setUpd v).bench = s.bench := rfl
@[simp] theorem State.setUpd_fab : (s.setUpd v).fab = s.fab := rfl
@[simp] theorem State.setUpd_eth : (s.setUpd v).eth = s.eth := rfl
@[simp] theorem State.setUpd_tbl : (s.setUpd v).tbl = s.tbl := rfl
@[simp] theorem State.setUpd_flt : (s.setUpd v).flt = s.flt := rfl
@[simp] theorem State.setUpd_ax0 : (s.setUpd v).ax0 = s.ax0 := rfl
@[simp] theorem State.setUpd_pins : (s.setUpd v).pins = s.pins := rfl
@[simp] theorem State.setUpd_pwr : (s.setUpd v).pwr = s.pwr := rfl
@[simp] theorem State.setUpd_body : (s.setUpd v).body = s.body := rfl
@[simp] theorem State.setUpd_can : (s.setUpd v).can = s.can := rfl
@[simp] theorem State.setUpd_lin : (s.setUpd v).lin = s.lin := rfl
@[simp] theorem State.setUpd_wake : (s.setUpd v).wake = s.wake := rfl
@[simp] theorem State.setUpd_guard : (s.setUpd v).guard = s.guard := rfl
@[simp] theorem State.setUpd_gw : (s.setUpd v).gw = s.gw := rfl
@[simp] theorem State.setUpd_trust : (s.setUpd v).trust = s.trust := rfl
@[simp] theorem State.setUpd_stamps : (s.setUpd v).stamps = s.stamps := rfl
@[simp] theorem State.setUpd_axes : (s.setUpd v).axes = s.axes := rfl
@[simp] theorem State.setUpd_evp : (s.setUpd v).evp = s.evp := rfl
@[simp] theorem State.setUpd_upd : (s.setUpd v).upd = v := rfl
@[simp] theorem State.setUpd_drk : (s.setUpd v).drk = s.drk := rfl
@[simp] theorem State.setUpd_leg : (s.setUpd v).leg = s.leg := rfl
@[simp] theorem State.setUpd_clk : (s.setUpd v).clk = s.clk := rfl
@[simp] theorem State.setUpd_draws : (s.setUpd v).draws = s.draws := rfl
@[simp] theorem State.setUpd_outs : (s.setUpd v).outs = s.outs := rfl
@[simp] theorem State.setUpd_pending : (s.setUpd v).pending = s.pending := rfl
end

section
variable (v : DrkSt)
@[simp] theorem State.setDrk_regs : (s.setDrk v).regs = s.regs := rfl
@[simp] theorem State.setDrk_wbuf : (s.setDrk v).wbuf = s.wbuf := rfl
@[simp] theorem State.setDrk_parity : (s.setDrk v).parity = s.parity := rfl
@[simp] theorem State.setDrk_holds : (s.setDrk v).holds = s.holds := rfl
@[simp] theorem State.setDrk_fans : (s.setDrk v).fans = s.fans := rfl
@[simp] theorem State.setDrk_host : (s.setDrk v).host = s.host := rfl
@[simp] theorem State.setDrk_cfg : (s.setDrk v).cfg = s.cfg := rfl
@[simp] theorem State.setDrk_bench : (s.setDrk v).bench = s.bench := rfl
@[simp] theorem State.setDrk_fab : (s.setDrk v).fab = s.fab := rfl
@[simp] theorem State.setDrk_eth : (s.setDrk v).eth = s.eth := rfl
@[simp] theorem State.setDrk_tbl : (s.setDrk v).tbl = s.tbl := rfl
@[simp] theorem State.setDrk_flt : (s.setDrk v).flt = s.flt := rfl
@[simp] theorem State.setDrk_ax0 : (s.setDrk v).ax0 = s.ax0 := rfl
@[simp] theorem State.setDrk_pins : (s.setDrk v).pins = s.pins := rfl
@[simp] theorem State.setDrk_pwr : (s.setDrk v).pwr = s.pwr := rfl
@[simp] theorem State.setDrk_body : (s.setDrk v).body = s.body := rfl
@[simp] theorem State.setDrk_can : (s.setDrk v).can = s.can := rfl
@[simp] theorem State.setDrk_lin : (s.setDrk v).lin = s.lin := rfl
@[simp] theorem State.setDrk_wake : (s.setDrk v).wake = s.wake := rfl
@[simp] theorem State.setDrk_guard : (s.setDrk v).guard = s.guard := rfl
@[simp] theorem State.setDrk_gw : (s.setDrk v).gw = s.gw := rfl
@[simp] theorem State.setDrk_trust : (s.setDrk v).trust = s.trust := rfl
@[simp] theorem State.setDrk_stamps : (s.setDrk v).stamps = s.stamps := rfl
@[simp] theorem State.setDrk_axes : (s.setDrk v).axes = s.axes := rfl
@[simp] theorem State.setDrk_evp : (s.setDrk v).evp = s.evp := rfl
@[simp] theorem State.setDrk_upd : (s.setDrk v).upd = s.upd := rfl
@[simp] theorem State.setDrk_drk : (s.setDrk v).drk = v := rfl
@[simp] theorem State.setDrk_leg : (s.setDrk v).leg = s.leg := rfl
@[simp] theorem State.setDrk_clk : (s.setDrk v).clk = s.clk := rfl
@[simp] theorem State.setDrk_draws : (s.setDrk v).draws = s.draws := rfl
@[simp] theorem State.setDrk_outs : (s.setDrk v).outs = s.outs := rfl
@[simp] theorem State.setDrk_pending : (s.setDrk v).pending = s.pending := rfl
end

section
variable (v : LegSt)
@[simp] theorem State.setLeg_regs : (s.setLeg v).regs = s.regs := rfl
@[simp] theorem State.setLeg_wbuf : (s.setLeg v).wbuf = s.wbuf := rfl
@[simp] theorem State.setLeg_parity : (s.setLeg v).parity = s.parity := rfl
@[simp] theorem State.setLeg_holds : (s.setLeg v).holds = s.holds := rfl
@[simp] theorem State.setLeg_fans : (s.setLeg v).fans = s.fans := rfl
@[simp] theorem State.setLeg_host : (s.setLeg v).host = s.host := rfl
@[simp] theorem State.setLeg_cfg : (s.setLeg v).cfg = s.cfg := rfl
@[simp] theorem State.setLeg_bench : (s.setLeg v).bench = s.bench := rfl
@[simp] theorem State.setLeg_fab : (s.setLeg v).fab = s.fab := rfl
@[simp] theorem State.setLeg_eth : (s.setLeg v).eth = s.eth := rfl
@[simp] theorem State.setLeg_tbl : (s.setLeg v).tbl = s.tbl := rfl
@[simp] theorem State.setLeg_flt : (s.setLeg v).flt = s.flt := rfl
@[simp] theorem State.setLeg_ax0 : (s.setLeg v).ax0 = s.ax0 := rfl
@[simp] theorem State.setLeg_pins : (s.setLeg v).pins = s.pins := rfl
@[simp] theorem State.setLeg_pwr : (s.setLeg v).pwr = s.pwr := rfl
@[simp] theorem State.setLeg_body : (s.setLeg v).body = s.body := rfl
@[simp] theorem State.setLeg_can : (s.setLeg v).can = s.can := rfl
@[simp] theorem State.setLeg_lin : (s.setLeg v).lin = s.lin := rfl
@[simp] theorem State.setLeg_wake : (s.setLeg v).wake = s.wake := rfl
@[simp] theorem State.setLeg_guard : (s.setLeg v).guard = s.guard := rfl
@[simp] theorem State.setLeg_gw : (s.setLeg v).gw = s.gw := rfl
@[simp] theorem State.setLeg_trust : (s.setLeg v).trust = s.trust := rfl
@[simp] theorem State.setLeg_stamps : (s.setLeg v).stamps = s.stamps := rfl
@[simp] theorem State.setLeg_axes : (s.setLeg v).axes = s.axes := rfl
@[simp] theorem State.setLeg_evp : (s.setLeg v).evp = s.evp := rfl
@[simp] theorem State.setLeg_upd : (s.setLeg v).upd = s.upd := rfl
@[simp] theorem State.setLeg_drk : (s.setLeg v).drk = s.drk := rfl
@[simp] theorem State.setLeg_leg : (s.setLeg v).leg = v := rfl
@[simp] theorem State.setLeg_clk : (s.setLeg v).clk = s.clk := rfl
@[simp] theorem State.setLeg_draws : (s.setLeg v).draws = s.draws := rfl
@[simp] theorem State.setLeg_outs : (s.setLeg v).outs = s.outs := rfl
@[simp] theorem State.setLeg_pending : (s.setLeg v).pending = s.pending := rfl
end

section
variable (v : Nat)
@[simp] theorem State.setClk_regs : (s.setClk v).regs = s.regs := rfl
@[simp] theorem State.setClk_wbuf : (s.setClk v).wbuf = s.wbuf := rfl
@[simp] theorem State.setClk_parity : (s.setClk v).parity = s.parity := rfl
@[simp] theorem State.setClk_holds : (s.setClk v).holds = s.holds := rfl
@[simp] theorem State.setClk_fans : (s.setClk v).fans = s.fans := rfl
@[simp] theorem State.setClk_host : (s.setClk v).host = s.host := rfl
@[simp] theorem State.setClk_cfg : (s.setClk v).cfg = s.cfg := rfl
@[simp] theorem State.setClk_bench : (s.setClk v).bench = s.bench := rfl
@[simp] theorem State.setClk_fab : (s.setClk v).fab = s.fab := rfl
@[simp] theorem State.setClk_eth : (s.setClk v).eth = s.eth := rfl
@[simp] theorem State.setClk_tbl : (s.setClk v).tbl = s.tbl := rfl
@[simp] theorem State.setClk_flt : (s.setClk v).flt = s.flt := rfl
@[simp] theorem State.setClk_ax0 : (s.setClk v).ax0 = s.ax0 := rfl
@[simp] theorem State.setClk_pins : (s.setClk v).pins = s.pins := rfl
@[simp] theorem State.setClk_pwr : (s.setClk v).pwr = s.pwr := rfl
@[simp] theorem State.setClk_body : (s.setClk v).body = s.body := rfl
@[simp] theorem State.setClk_can : (s.setClk v).can = s.can := rfl
@[simp] theorem State.setClk_lin : (s.setClk v).lin = s.lin := rfl
@[simp] theorem State.setClk_wake : (s.setClk v).wake = s.wake := rfl
@[simp] theorem State.setClk_guard : (s.setClk v).guard = s.guard := rfl
@[simp] theorem State.setClk_gw : (s.setClk v).gw = s.gw := rfl
@[simp] theorem State.setClk_trust : (s.setClk v).trust = s.trust := rfl
@[simp] theorem State.setClk_stamps : (s.setClk v).stamps = s.stamps := rfl
@[simp] theorem State.setClk_axes : (s.setClk v).axes = s.axes := rfl
@[simp] theorem State.setClk_evp : (s.setClk v).evp = s.evp := rfl
@[simp] theorem State.setClk_upd : (s.setClk v).upd = s.upd := rfl
@[simp] theorem State.setClk_drk : (s.setClk v).drk = s.drk := rfl
@[simp] theorem State.setClk_leg : (s.setClk v).leg = s.leg := rfl
@[simp] theorem State.setClk_clk : (s.setClk v).clk = v := rfl
@[simp] theorem State.setClk_draws : (s.setClk v).draws = s.draws := rfl
@[simp] theorem State.setClk_outs : (s.setClk v).outs = s.outs := rfl
@[simp] theorem State.setClk_pending : (s.setClk v).pending = s.pending := rfl
end

section
variable (v : Nat)
@[simp] theorem State.setDraws_regs : (s.setDraws v).regs = s.regs := rfl
@[simp] theorem State.setDraws_wbuf : (s.setDraws v).wbuf = s.wbuf := rfl
@[simp] theorem State.setDraws_parity : (s.setDraws v).parity = s.parity := rfl
@[simp] theorem State.setDraws_holds : (s.setDraws v).holds = s.holds := rfl
@[simp] theorem State.setDraws_fans : (s.setDraws v).fans = s.fans := rfl
@[simp] theorem State.setDraws_host : (s.setDraws v).host = s.host := rfl
@[simp] theorem State.setDraws_cfg : (s.setDraws v).cfg = s.cfg := rfl
@[simp] theorem State.setDraws_bench : (s.setDraws v).bench = s.bench := rfl
@[simp] theorem State.setDraws_fab : (s.setDraws v).fab = s.fab := rfl
@[simp] theorem State.setDraws_eth : (s.setDraws v).eth = s.eth := rfl
@[simp] theorem State.setDraws_tbl : (s.setDraws v).tbl = s.tbl := rfl
@[simp] theorem State.setDraws_flt : (s.setDraws v).flt = s.flt := rfl
@[simp] theorem State.setDraws_ax0 : (s.setDraws v).ax0 = s.ax0 := rfl
@[simp] theorem State.setDraws_pins : (s.setDraws v).pins = s.pins := rfl
@[simp] theorem State.setDraws_pwr : (s.setDraws v).pwr = s.pwr := rfl
@[simp] theorem State.setDraws_body : (s.setDraws v).body = s.body := rfl
@[simp] theorem State.setDraws_can : (s.setDraws v).can = s.can := rfl
@[simp] theorem State.setDraws_lin : (s.setDraws v).lin = s.lin := rfl
@[simp] theorem State.setDraws_wake : (s.setDraws v).wake = s.wake := rfl
@[simp] theorem State.setDraws_guard : (s.setDraws v).guard = s.guard := rfl
@[simp] theorem State.setDraws_gw : (s.setDraws v).gw = s.gw := rfl
@[simp] theorem State.setDraws_trust : (s.setDraws v).trust = s.trust := rfl
@[simp] theorem State.setDraws_stamps : (s.setDraws v).stamps = s.stamps := rfl
@[simp] theorem State.setDraws_axes : (s.setDraws v).axes = s.axes := rfl
@[simp] theorem State.setDraws_evp : (s.setDraws v).evp = s.evp := rfl
@[simp] theorem State.setDraws_upd : (s.setDraws v).upd = s.upd := rfl
@[simp] theorem State.setDraws_drk : (s.setDraws v).drk = s.drk := rfl
@[simp] theorem State.setDraws_leg : (s.setDraws v).leg = s.leg := rfl
@[simp] theorem State.setDraws_clk : (s.setDraws v).clk = s.clk := rfl
@[simp] theorem State.setDraws_draws : (s.setDraws v).draws = v := rfl
@[simp] theorem State.setDraws_outs : (s.setDraws v).outs = s.outs := rfl
@[simp] theorem State.setDraws_pending : (s.setDraws v).pending = s.pending := rfl
end

section
variable (v : List Output)
@[simp] theorem State.setOuts_regs : (s.setOuts v).regs = s.regs := rfl
@[simp] theorem State.setOuts_wbuf : (s.setOuts v).wbuf = s.wbuf := rfl
@[simp] theorem State.setOuts_parity : (s.setOuts v).parity = s.parity := rfl
@[simp] theorem State.setOuts_holds : (s.setOuts v).holds = s.holds := rfl
@[simp] theorem State.setOuts_fans : (s.setOuts v).fans = s.fans := rfl
@[simp] theorem State.setOuts_host : (s.setOuts v).host = s.host := rfl
@[simp] theorem State.setOuts_cfg : (s.setOuts v).cfg = s.cfg := rfl
@[simp] theorem State.setOuts_bench : (s.setOuts v).bench = s.bench := rfl
@[simp] theorem State.setOuts_fab : (s.setOuts v).fab = s.fab := rfl
@[simp] theorem State.setOuts_eth : (s.setOuts v).eth = s.eth := rfl
@[simp] theorem State.setOuts_tbl : (s.setOuts v).tbl = s.tbl := rfl
@[simp] theorem State.setOuts_flt : (s.setOuts v).flt = s.flt := rfl
@[simp] theorem State.setOuts_ax0 : (s.setOuts v).ax0 = s.ax0 := rfl
@[simp] theorem State.setOuts_pins : (s.setOuts v).pins = s.pins := rfl
@[simp] theorem State.setOuts_pwr : (s.setOuts v).pwr = s.pwr := rfl
@[simp] theorem State.setOuts_body : (s.setOuts v).body = s.body := rfl
@[simp] theorem State.setOuts_can : (s.setOuts v).can = s.can := rfl
@[simp] theorem State.setOuts_lin : (s.setOuts v).lin = s.lin := rfl
@[simp] theorem State.setOuts_wake : (s.setOuts v).wake = s.wake := rfl
@[simp] theorem State.setOuts_guard : (s.setOuts v).guard = s.guard := rfl
@[simp] theorem State.setOuts_gw : (s.setOuts v).gw = s.gw := rfl
@[simp] theorem State.setOuts_trust : (s.setOuts v).trust = s.trust := rfl
@[simp] theorem State.setOuts_stamps : (s.setOuts v).stamps = s.stamps := rfl
@[simp] theorem State.setOuts_axes : (s.setOuts v).axes = s.axes := rfl
@[simp] theorem State.setOuts_evp : (s.setOuts v).evp = s.evp := rfl
@[simp] theorem State.setOuts_upd : (s.setOuts v).upd = s.upd := rfl
@[simp] theorem State.setOuts_drk : (s.setOuts v).drk = s.drk := rfl
@[simp] theorem State.setOuts_leg : (s.setOuts v).leg = s.leg := rfl
@[simp] theorem State.setOuts_clk : (s.setOuts v).clk = s.clk := rfl
@[simp] theorem State.setOuts_draws : (s.setOuts v).draws = s.draws := rfl
@[simp] theorem State.setOuts_outs : (s.setOuts v).outs = v := rfl
@[simp] theorem State.setOuts_pending : (s.setOuts v).pending = s.pending := rfl
end

section
variable (v : List Instr)
@[simp] theorem State.setPending_regs : (s.setPending v).regs = s.regs := rfl
@[simp] theorem State.setPending_wbuf : (s.setPending v).wbuf = s.wbuf := rfl
@[simp] theorem State.setPending_parity : (s.setPending v).parity = s.parity := rfl
@[simp] theorem State.setPending_holds : (s.setPending v).holds = s.holds := rfl
@[simp] theorem State.setPending_fans : (s.setPending v).fans = s.fans := rfl
@[simp] theorem State.setPending_host : (s.setPending v).host = s.host := rfl
@[simp] theorem State.setPending_cfg : (s.setPending v).cfg = s.cfg := rfl
@[simp] theorem State.setPending_bench : (s.setPending v).bench = s.bench := rfl
@[simp] theorem State.setPending_fab : (s.setPending v).fab = s.fab := rfl
@[simp] theorem State.setPending_eth : (s.setPending v).eth = s.eth := rfl
@[simp] theorem State.setPending_tbl : (s.setPending v).tbl = s.tbl := rfl
@[simp] theorem State.setPending_flt : (s.setPending v).flt = s.flt := rfl
@[simp] theorem State.setPending_ax0 : (s.setPending v).ax0 = s.ax0 := rfl
@[simp] theorem State.setPending_pins : (s.setPending v).pins = s.pins := rfl
@[simp] theorem State.setPending_pwr : (s.setPending v).pwr = s.pwr := rfl
@[simp] theorem State.setPending_body : (s.setPending v).body = s.body := rfl
@[simp] theorem State.setPending_can : (s.setPending v).can = s.can := rfl
@[simp] theorem State.setPending_lin : (s.setPending v).lin = s.lin := rfl
@[simp] theorem State.setPending_wake : (s.setPending v).wake = s.wake := rfl
@[simp] theorem State.setPending_guard : (s.setPending v).guard = s.guard := rfl
@[simp] theorem State.setPending_gw : (s.setPending v).gw = s.gw := rfl
@[simp] theorem State.setPending_trust : (s.setPending v).trust = s.trust := rfl
@[simp] theorem State.setPending_stamps : (s.setPending v).stamps = s.stamps := rfl
@[simp] theorem State.setPending_axes : (s.setPending v).axes = s.axes := rfl
@[simp] theorem State.setPending_evp : (s.setPending v).evp = s.evp := rfl
@[simp] theorem State.setPending_upd : (s.setPending v).upd = s.upd := rfl
@[simp] theorem State.setPending_drk : (s.setPending v).drk = s.drk := rfl
@[simp] theorem State.setPending_leg : (s.setPending v).leg = s.leg := rfl
@[simp] theorem State.setPending_clk : (s.setPending v).clk = s.clk := rfl
@[simp] theorem State.setPending_draws : (s.setPending v).draws = s.draws := rfl
@[simp] theorem State.setPending_outs : (s.setPending v).outs = s.outs := rfl
@[simp] theorem State.setPending_pending : (s.setPending v).pending = v := rfl
end

end Sys2Proof.Machine
end

