-- ==== Sys2Proof/Laws/Tab.lean ====
section
/-! SUPPORT. Reading a sparse store after a write, and the canonical form: every operation on a store keeps its keys strictly
rising. -/

namespace Sys2Proof.Machine

variable {α : Type}

@[simp] theorem look_nil (q : Nat) (d : α) : look ([] : Tab α) q d = d := rfl

@[simp] theorem look_erase_same (t : Tab α) (q : Nat) (d : α) : look (erase t q) q d = d := by
  induction t with
  | nil => rfl
  | cons p r ih =>
    obtain ⟨k, v⟩ := p
    by_cases h : k = q
    · simp [erase, h, ih]
    · simp [erase, look, h, ih]

theorem look_erase_other (t : Tab α) {q k : Nat} (h : k ≠ q) (d : α) : look (erase t k) q d = look t q d := by
  induction t with
  | nil => rfl
  | cons p r ih =>
    obtain ⟨j, v⟩ := p
    by_cases hj : j = k
    · subst hj; simp [erase, look, h, ih]
    · by_cases hq : j = q
      · subst hq; simp [erase, look, hj]
      · simp [erase, look, hj, hq, ih]

@[simp] theorem look_insertAt_same (t : Tab α) (q : Nat) (x d : α) : look (insertAt t q x) q d = x := by
  induction t with
  | nil => simp [insertAt, look]
  | cons p r ih =>
    obtain ⟨k, v⟩ := p
    unfold insertAt
    split
    · simp [look]
    · split
      · next h => subst h; simp [look]
      · next h => simp [look, h, ih]

theorem look_insertAt_other (t : Tab α) {q k : Nat} (h : k ≠ q) (x d : α) : look (insertAt t k x) q d = look t q d := by
  induction t with
  | nil => simp [insertAt, look, h]
  | cons p r ih =>
    obtain ⟨j, v⟩ := p
    unfold insertAt
    split
    · simp [look, h]
    · split
      · next hj => subst hj; simp [look, h]
      · by_cases hq : j = q
        · subst hq; simp [look]
        · simp [look, hq, ih]

/-- Reading the key that was stored gives the stored value. -/
@[simp] theorem look_store_same [DecidableEq α] (t : Tab α) (q : Nat) (x d : α) : look (store t q x d) q d = x := by
  unfold store
  split
  · next h => simp [h]
  · simp

/-- A store leaves every other key as it was. -/
theorem look_store_other [DecidableEq α] (t : Tab α) {q k : Nat} (h : k ≠ q) (x e d : α) :
    look (store t k x e) q d = look t q d := by
  unfold store
  split
  · exact look_erase_other t h d
  · exact look_insertAt_other t h x d

/-! ## The canonical form -/

theorem risesFrom_mono {b c : Option Nat} {t : Tab α} (h : risesFrom b t = true) (hc : ∀ m, c = some m → ∃ n, b = some n ∧ m ≤ n) :
    risesFrom c t = true := by
  cases t with
  | nil => cases c <;> rfl
  | cons p r =>
    obtain ⟨k, v⟩ := p
    cases c with
    | none => cases b <;> simp_all [risesFrom]
    | some m =>
      obtain ⟨n, rfl, hn⟩ := hc m rfl
      simp only [risesFrom, Bool.and_eq_true, decide_eq_true_eq] at h ⊢
      exact ⟨by omega, h.2⟩

theorem erase_risesFrom (t : Tab α) (q : Nat) : ∀ b, risesFrom b t = true → risesFrom b (erase t q) = true := by
  induction t with
  | nil => intro b h; cases b <;> rfl
  | cons p r ih =>
    obtain ⟨k, v⟩ := p
    intro b h
    have hr : risesFrom (some k) r = true := by cases b <;> simp_all [risesFrom]
    unfold erase
    split
    · refine ih b (risesFrom_mono hr ?_)
      intro m hm
      subst hm
      simp only [risesFrom, Bool.and_eq_true, decide_eq_true_eq] at h
      exact ⟨k, rfl, by omega⟩
    · have := ih _ hr
      cases b <;> simp_all [risesFrom]

theorem insertAt_risesFrom (t : Tab α) (q : Nat) (x : α) :
    ∀ b, (∀ n, b = some n → n < q) → risesFrom b t = true → risesFrom b (insertAt t q x) = true := by
  induction t with
  | nil => intro b hb _; cases b <;> simp_all [insertAt, risesFrom]
  | cons p r ih =>
    obtain ⟨k, v⟩ := p
    intro b hb h
    have hr : risesFrom (some k) r = true := by cases b <;> simp_all [risesFrom]
    unfold insertAt
    split
    · cases b <;> simp_all [risesFrom]
    · split
      · cases b <;> simp_all [risesFrom]
      · have := ih (some k) (by intro n hn; cases hn; omega) hr
        cases b <;> simp_all [risesFrom]

theorem filter_risesFrom (t : Tab α) (p : Nat × α → Bool) : ∀ b, risesFrom b t = true → risesFrom b (t.filter p) = true := by
  induction t with
  | nil => intro b h; cases b <;> rfl
  | cons a r ih =>
    obtain ⟨k, v⟩ := a
    intro b h
    have hr : risesFrom (some k) r = true := by cases b <;> simp_all [risesFrom]
    unfold List.filter
    split
    · have := ih _ hr
      cases b <;> simp_all [risesFrom]
    · refine ih b (risesFrom_mono hr ?_)
      intro m hm
      subst hm
      simp only [risesFrom, Bool.and_eq_true, decide_eq_true_eq] at h
      exact ⟨k, rfl, by omega⟩

/-- Storing a value, the default or another, keeps the canonical form. -/
theorem store_sorted [DecidableEq α] {t : Tab α} (h : t.sorted = true) (q : Nat) (x d : α) : (store t q x d).sorted = true := by
  unfold store
  split
  · exact erase_risesFrom t q none h
  · exact insertAt_risesFrom t q x none (by simp) h

theorem insertAt_sorted {t : Tab α} (h : t.sorted = true) (q : Nat) (x : α) : (insertAt t q x).sorted = true :=
  insertAt_risesFrom t q x none (by simp) h

theorem erase_sorted {t : Tab α} (h : t.sorted = true) (q : Nat) : (erase t q).sorted = true := erase_risesFrom t q none h

theorem filter_sorted {t : Tab α} (h : t.sorted = true) (p : Nat × α → Bool) : Tab.sorted (t.filter p) = true :=
  filter_risesFrom t p none h

theorem map_risesFrom (t : Tab α) (f : Nat × α → Nat × α) (hf : ∀ p, (f p).1 = p.1) : ∀ b, risesFrom b t = true → risesFrom b (t.map f) = true := by
  induction t with
  | nil => intro b h; cases b <;> rfl
  | cons a r ih =>
    intro b h
    have e : f a = (a.1, (f a).2) := by rw [← hf a]
    rw [List.map_cons, e]
    cases b with
    | none => exact ih _ h
    | some n =>
      simp only [risesFrom, Bool.and_eq_true, decide_eq_true_eq] at h ⊢
      exact ⟨h.1, ih _ h.2⟩

/-- A change of the values alone keeps the canonical form. -/
theorem map_sorted {t : Tab α} (h : t.sorted = true) (f : α → α) : Tab.sorted (t.map fun p => (p.1, f p.2)) = true :=
  map_risesFrom t (fun p => (p.1, f p.2)) (fun _ => rfl) none h

theorem map_keys {t : Tab α} (h : t.sorted = true) {f : Nat × α → Nat × α} (hf : ∀ p, (f p).1 = p.1) : Tab.sorted (t.map f) = true :=
  map_risesFrom t f hf none h

end Sys2Proof.Machine
end

