-- ==== Sys2Proof/Laws/Ops.lean ====
section
/-! SUPPORT. What a register write, an output, a tally, a unit event and a sticky bit change and what they leave: the component
of the state, and the fields of the register file. -/

namespace Sys2Proof.Machine

variable (s : State)

/-! ## Register keys -/

theorem Field.key_ne_ofs {f g : Field} (hf : f.lo < 1024) (hg : g.lo < 1024) (h : f.ofs % 4096 ≠ g.ofs % 4096) (w w' i j : Nat) :
    f.key w i ≠ g.key w' j := by
  unfold Field.key; omega

theorem Field.key_ne_lo {f g : Field} (hf : f.lo < 1024) (hg : g.lo < 1024) (h : f.lo ≠ g.lo) (w w' i j : Nat) :
    f.key w i ≠ g.key w' j := by
  unfold Field.key; omega

theorem Field.key_ne_win {f g : Field} (hf : f.lo < 1024) (hg : g.lo < 1024) (of : f.ofs < 4096) (og : g.ofs < 4096) {w w' : Nat}
    (h : w % 4096 ≠ w' % 4096) (i j : Nat) : f.key w i ≠ g.key w' j := by
  unfold Field.key; omega

theorem Field.key_ne_idx {f g : Field} (hf : f.lo < 1024) (hg : g.lo < 1024) (of : f.ofs < 4096) (og : g.ofs < 4096) {w w' : Nat}
    (hw : w < 4096) (hw' : w' < 4096) {i j : Nat} (h : i ≠ j) : f.key w i ≠ g.key w' j := by
  unfold Field.key; omega

/-! ## wr -/

/-- A field reads back what was stored in it, cut to its width. -/
@[simp] theorem State.rd_wr_same (w : Nat) (f : Field) (v i : Nat) : (s.wr w f v i).rd w f i = v % 2 ^ f.width := by
  simp [State.rd, State.wr]

/-- A store leaves every other field, window and entry. -/
theorem State.rd_wr_other {w w' : Nat} {f g : Field} {i j : Nat} (h : f.key w i ≠ g.key w' j) (v : Nat) :
    (s.wr w f v i).rd w' g j = s.rd w' g j := by
  simp [State.rd, State.wr, look_store_other _ h]

theorem State.rd_wr_ofs {f g : Field} (hf : f.lo < 1024) (hg : g.lo < 1024) (h : f.ofs % 4096 ≠ g.ofs % 4096) (w w' v i j : Nat) :
    (s.wr w f v i).rd w' g j = s.rd w' g j := s.rd_wr_other (Field.key_ne_ofs hf hg h w w' i j) v

theorem State.rd_wr_lo {f g : Field} (hf : f.lo < 1024) (hg : g.lo < 1024) (h : f.lo ≠ g.lo) (w w' v i j : Nat) :
    (s.wr w f v i).rd w' g j = s.rd w' g j := s.rd_wr_other (Field.key_ne_lo hf hg h w w' i j) v

theorem State.rd_wr_win {f g : Field} (hf : f.lo < 1024) (hg : g.lo < 1024) (of : f.ofs < 4096) (og : g.ofs < 4096) {w w' : Nat}
    (h : w % 4096 ≠ w' % 4096) (v i j : Nat) : (s.wr w f v i).rd w' g j = s.rd w' g j :=
  s.rd_wr_other (Field.key_ne_win hf hg of og h i j) v

theorem State.rd_congr {s t : State} (h : t.regs = s.regs) (w : Nat) (f : Field) (i : Nat) : t.rd w f i = s.rd w f i := by
  simp [State.rd, h]

@[simp] theorem State.rd_setWbuf (v) (w : Nat) (f : Field) (i : Nat) : (s.setWbuf v).rd w f i = s.rd w f i := rfl
@[simp] theorem State.rd_setParity (v) (w : Nat) (f : Field) (i : Nat) : (s.setParity v).rd w f i = s.rd w f i := rfl
@[simp] theorem State.rd_setHolds (v) (w : Nat) (f : Field) (i : Nat) : (s.setHolds v).rd w f i = s.rd w f i := rfl
@[simp] theorem State.rd_setFans (v) (w : Nat) (f : Field) (i : Nat) : (s.setFans v).rd w f i = s.rd w f i := rfl
@[simp] theorem State.rd_setHost (v) (w : Nat) (f : Field) (i : Nat) : (s.setHost v).rd w f i = s.rd w f i := rfl
@[simp] theorem State.rd_setCfg (v) (w : Nat) (f : Field) (i : Nat) : (s.setCfg v).rd w f i = s.rd w f i := rfl
@[simp] theorem State.rd_setBench (v) (w : Nat) (f : Field) (i : Nat) : (s.setBench v).rd w f i = s.rd w f i := rfl
@[simp] theorem State.rd_setFab (v) (w : Nat) (f : Field) (i : Nat) : (s.setFab v).rd w f i = s.rd w f i := rfl
@[simp] theorem State.rd_setEth (v) (w : Nat) (f : Field) (i : Nat) : (s.setEth v).rd w f i = s.rd w f i := rfl
@[simp] theorem State.rd_setTbl (v) (w : Nat) (f : Field) (i : Nat) : (s.setTbl v).rd w f i = s.rd w f i := rfl
@[simp] theorem State.rd_setFlt (v) (w : Nat) (f : Field) (i : Nat) : (s.setFlt v).rd w f i = s.rd w f i := rfl
@[simp] theorem State.rd_setAx0 (v) (w : Nat) (f : Field) (i : Nat) : (s.setAx0 v).rd w f i = s.rd w f i := rfl
@[simp] theorem State.rd_setPins (v) (w : Nat) (f : Field) (i : Nat) : (s.setPins v).rd w f i = s.rd w f i := rfl
@[simp] theorem State.rd_setPwr (v) (w : Nat) (f : Field) (i : Nat) : (s.setPwr v).rd w f i = s.rd w f i := rfl
@[simp] theorem State.rd_setBody (v) (w : Nat) (f : Field) (i : Nat) : (s.setBody v).rd w f i = s.rd w f i := rfl
@[simp] theorem State.rd_setCan (v) (w : Nat) (f : Field) (i : Nat) : (s.setCan v).rd w f i = s.rd w f i := rfl
@[simp] theorem State.rd_setLin (v) (w : Nat) (f : Field) (i : Nat) : (s.setLin v).rd w f i = s.rd w f i := rfl
@[simp] theorem State.rd_setWake (v) (w : Nat) (f : Field) (i : Nat) : (s.setWake v).rd w f i = s.rd w f i := rfl
@[simp] theorem State.rd_setGuard (v) (w : Nat) (f : Field) (i : Nat) : (s.setGuard v).rd w f i = s.rd w f i := rfl
@[simp] theorem State.rd_setGw (v) (w : Nat) (f : Field) (i : Nat) : (s.setGw v).rd w f i = s.rd w f i := rfl
@[simp] theorem State.rd_setTrust (v) (w : Nat) (f : Field) (i : Nat) : (s.setTrust v).rd w f i = s.rd w f i := rfl
@[simp] theorem State.rd_setStamps (v) (w : Nat) (f : Field) (i : Nat) : (s.setStamps v).rd w f i = s.rd w f i := rfl
@[simp] theorem State.rd_setAxes (v) (w : Nat) (f : Field) (i : Nat) : (s.setAxes v).rd w f i = s.rd w f i := rfl
@[simp] theorem State.rd_setEvp (v) (w : Nat) (f : Field) (i : Nat) : (s.setEvp v).rd w f i = s.rd w f i := rfl
@[simp] theorem State.rd_setUpd (v) (w : Nat) (f : Field) (i : Nat) : (s.setUpd v).rd w f i = s.rd w f i := rfl
@[simp] theorem State.rd_setDrk (v) (w : Nat) (f : Field) (i : Nat) : (s.setDrk v).rd w f i = s.rd w f i := rfl
@[simp] theorem State.rd_setLeg (v) (w : Nat) (f : Field) (i : Nat) : (s.setLeg v).rd w f i = s.rd w f i := rfl
@[simp] theorem State.rd_setClk (v) (w : Nat) (f : Field) (i : Nat) : (s.setClk v).rd w f i = s.rd w f i := rfl
@[simp] theorem State.rd_setDraws (v) (w : Nat) (f : Field) (i : Nat) : (s.setDraws v).rd w f i = s.rd w f i := rfl
@[simp] theorem State.rd_setOuts (v) (w : Nat) (f : Field) (i : Nat) : (s.setOuts v).rd w f i = s.rd w f i := rfl
@[simp] theorem State.rd_setPending (v) (w : Nat) (f : Field) (i : Nat) : (s.setPending v).rd w f i = s.rd w f i := rfl

/-! ## wr -/

@[simp] theorem State.wr_wbuf (w : Nat) (f : Field) (v i : Nat) : (s.wr w f v i).wbuf = s.wbuf := rfl
@[simp] theorem State.wr_parity (w : Nat) (f : Field) (v i : Nat) : (s.wr w f v i).parity = s.parity := rfl
@[simp] theorem State.wr_holds (w : Nat) (f : Field) (v i : Nat) : (s.wr w f v i).holds = s.holds := rfl
@[simp] theorem State.wr_fans (w : Nat) (f : Field) (v i : Nat) : (s.wr w f v i).fans = s.fans := rfl
@[simp] theorem State.wr_host (w : Nat) (f : Field) (v i : Nat) : (s.wr w f v i).host = s.host := rfl
@[simp] theorem State.wr_cfg (w : Nat) (f : Field) (v i : Nat) : (s.wr w f v i).cfg = s.cfg := rfl
@[simp] theorem State.wr_bench (w : Nat) (f : Field) (v i : Nat) : (s.wr w f v i).bench = s.bench := rfl
@[simp] theorem State.wr_fab (w : Nat) (f : Field) (v i : Nat) : (s.wr w f v i).fab = s.fab := rfl
@[simp] theorem State.wr_eth (w : Nat) (f : Field) (v i : Nat) : (s.wr w f v i).eth = s.eth := rfl
@[simp] theorem State.wr_tbl (w : Nat) (f : Field) (v i : Nat) : (s.wr w f v i).tbl = s.tbl := rfl
@[simp] theorem State.wr_flt (w : Nat) (f : Field) (v i : Nat) : (s.wr w f v i).flt = s.flt := rfl
@[simp] theorem State.wr_ax0 (w : Nat) (f : Field) (v i : Nat) : (s.wr w f v i).ax0 = s.ax0 := rfl
@[simp] theorem State.wr_pins (w : Nat) (f : Field) (v i : Nat) : (s.wr w f v i).pins = s.pins := rfl
@[simp] theorem State.wr_pwr (w : Nat) (f : Field) (v i : Nat) : (s.wr w f v i).pwr = s.pwr := rfl
@[simp] theorem State.wr_body (w : Nat) (f : Field) (v i : Nat) : (s.wr w f v i).body = s.body := rfl
@[simp] theorem State.wr_can (w : Nat) (f : Field) (v i : Nat) : (s.wr w f v i).can = s.can := rfl
@[simp] theorem State.wr_lin (w : Nat) (f : Field) (v i : Nat) : (s.wr w f v i).lin = s.lin := rfl
@[simp] theorem State.wr_wake (w : Nat) (f : Field) (v i : Nat) : (s.wr w f v i).wake = s.wake := rfl
@[simp] theorem State.wr_guard (w : Nat) (f : Field) (v i : Nat) : (s.wr w f v i).guard = s.guard := rfl
@[simp] theorem State.wr_gw (w : Nat) (f : Field) (v i : Nat) : (s.wr w f v i).gw = s.gw := rfl
@[simp] theorem State.wr_trust (w : Nat) (f : Field) (v i : Nat) : (s.wr w f v i).trust = s.trust := rfl
@[simp] theorem State.wr_stamps (w : Nat) (f : Field) (v i : Nat) : (s.wr w f v i).stamps = s.stamps := rfl
@[simp] theorem State.wr_axes (w : Nat) (f : Field) (v i : Nat) : (s.wr w f v i).axes = s.axes := rfl
@[simp] theorem State.wr_evp (w : Nat) (f : Field) (v i : Nat) : (s.wr w f v i).evp = s.evp := rfl
@[simp] theorem State.wr_upd (w : Nat) (f : Field) (v i : Nat) : (s.wr w f v i).upd = s.upd := rfl
@[simp] theorem State.wr_drk (w : Nat) (f : Field) (v i : Nat) : (s.wr w f v i).drk = s.drk := rfl
@[simp] theorem State.wr_leg (w : Nat) (f : Field) (v i : Nat) : (s.wr w f v i).leg = s.leg := rfl
@[simp] theorem State.wr_clk (w : Nat) (f : Field) (v i : Nat) : (s.wr w f v i).clk = s.clk := rfl
@[simp] theorem State.wr_draws (w : Nat) (f : Field) (v i : Nat) : (s.wr w f v i).draws = s.draws := rfl
@[simp] theorem State.wr_outs (w : Nat) (f : Field) (v i : Nat) : (s.wr w f v i).outs = s.outs := rfl
@[simp] theorem State.wr_pending (w : Nat) (f : Field) (v i : Nat) : (s.wr w f v i).pending = s.pending := rfl

/-! ## emit -/

@[simp] theorem State.emit_regs (x : Output) : (s.emit x).regs = s.regs := rfl
@[simp] theorem State.emit_wbuf (x : Output) : (s.emit x).wbuf = s.wbuf := rfl
@[simp] theorem State.emit_parity (x : Output) : (s.emit x).parity = s.parity := rfl
@[simp] theorem State.emit_holds (x : Output) : (s.emit x).holds = s.holds := rfl
@[simp] theorem State.emit_fans (x : Output) : (s.emit x).fans = s.fans := rfl
@[simp] theorem State.emit_host (x : Output) : (s.emit x).host = s.host := rfl
@[simp] theorem State.emit_cfg (x : Output) : (s.emit x).cfg = s.cfg := rfl
@[simp] theorem State.emit_bench (x : Output) : (s.emit x).bench = s.bench := rfl
@[simp] theorem State.emit_fab (x : Output) : (s.emit x).fab = s.fab := rfl
@[simp] theorem State.emit_eth (x : Output) : (s.emit x).eth = s.eth := rfl
@[simp] theorem State.emit_tbl (x : Output) : (s.emit x).tbl = s.tbl := rfl
@[simp] theorem State.emit_flt (x : Output) : (s.emit x).flt = s.flt := rfl
@[simp] theorem State.emit_ax0 (x : Output) : (s.emit x).ax0 = s.ax0 := rfl
@[simp] theorem State.emit_pins (x : Output) : (s.emit x).pins = s.pins := rfl
@[simp] theorem State.emit_pwr (x : Output) : (s.emit x).pwr = s.pwr := rfl
@[simp] theorem State.emit_body (x : Output) : (s.emit x).body = s.body := rfl
@[simp] theorem State.emit_can (x : Output) : (s.emit x).can = s.can := rfl
@[simp] theorem State.emit_lin (x : Output) : (s.emit x).lin = s.lin := rfl
@[simp] theorem State.emit_wake (x : Output) : (s.emit x).wake = s.wake := rfl
@[simp] theorem State.emit_guard (x : Output) : (s.emit x).guard = s.guard := rfl
@[simp] theorem State.emit_gw (x : Output) : (s.emit x).gw = s.gw := rfl
@[simp] theorem State.emit_trust (x : Output) : (s.emit x).trust = s.trust := rfl
@[simp] theorem State.emit_stamps (x : Output) : (s.emit x).stamps = s.stamps := rfl
@[simp] theorem State.emit_axes (x : Output) : (s.emit x).axes = s.axes := rfl
@[simp] theorem State.emit_evp (x : Output) : (s.emit x).evp = s.evp := rfl
@[simp] theorem State.emit_upd (x : Output) : (s.emit x).upd = s.upd := rfl
@[simp] theorem State.emit_drk (x : Output) : (s.emit x).drk = s.drk := rfl
@[simp] theorem State.emit_leg (x : Output) : (s.emit x).leg = s.leg := rfl
@[simp] theorem State.emit_clk (x : Output) : (s.emit x).clk = s.clk := rfl
@[simp] theorem State.emit_draws (x : Output) : (s.emit x).draws = s.draws := rfl
@[simp] theorem State.emit_pending (x : Output) : (s.emit x).pending = s.pending := rfl

/-! ## draw -/

@[simp] theorem State.draw_regs  : (s.draw.2).regs = s.regs := rfl
@[simp] theorem State.draw_wbuf  : (s.draw.2).wbuf = s.wbuf := rfl
@[simp] theorem State.draw_parity  : (s.draw.2).parity = s.parity := rfl
@[simp] theorem State.draw_holds  : (s.draw.2).holds = s.holds := rfl
@[simp] theorem State.draw_fans  : (s.draw.2).fans = s.fans := rfl
@[simp] theorem State.draw_host  : (s.draw.2).host = s.host := rfl
@[simp] theorem State.draw_cfg  : (s.draw.2).cfg = s.cfg := rfl
@[simp] theorem State.draw_bench  : (s.draw.2).bench = s.bench := rfl
@[simp] theorem State.draw_fab  : (s.draw.2).fab = s.fab := rfl
@[simp] theorem State.draw_eth  : (s.draw.2).eth = s.eth := rfl
@[simp] theorem State.draw_tbl  : (s.draw.2).tbl = s.tbl := rfl
@[simp] theorem State.draw_flt  : (s.draw.2).flt = s.flt := rfl
@[simp] theorem State.draw_ax0  : (s.draw.2).ax0 = s.ax0 := rfl
@[simp] theorem State.draw_pins  : (s.draw.2).pins = s.pins := rfl
@[simp] theorem State.draw_pwr  : (s.draw.2).pwr = s.pwr := rfl
@[simp] theorem State.draw_body  : (s.draw.2).body = s.body := rfl
@[simp] theorem State.draw_can  : (s.draw.2).can = s.can := rfl
@[simp] theorem State.draw_lin  : (s.draw.2).lin = s.lin := rfl
@[simp] theorem State.draw_wake  : (s.draw.2).wake = s.wake := rfl
@[simp] theorem State.draw_guard  : (s.draw.2).guard = s.guard := rfl
@[simp] theorem State.draw_gw  : (s.draw.2).gw = s.gw := rfl
@[simp] theorem State.draw_trust  : (s.draw.2).trust = s.trust := rfl
@[simp] theorem State.draw_stamps  : (s.draw.2).stamps = s.stamps := rfl
@[simp] theorem State.draw_axes  : (s.draw.2).axes = s.axes := rfl
@[simp] theorem State.draw_evp  : (s.draw.2).evp = s.evp := rfl
@[simp] theorem State.draw_upd  : (s.draw.2).upd = s.upd := rfl
@[simp] theorem State.draw_drk  : (s.draw.2).drk = s.drk := rfl
@[simp] theorem State.draw_leg  : (s.draw.2).leg = s.leg := rfl
@[simp] theorem State.draw_clk  : (s.draw.2).clk = s.clk := rfl
@[simp] theorem State.draw_outs  : (s.draw.2).outs = s.outs := rfl
@[simp] theorem State.draw_pending  : (s.draw.2).pending = s.pending := rfl

/-! ## fresh -/

@[simp] theorem fresh_regs : (fresh s).regs = s.regs := rfl
@[simp] theorem fresh_wbuf : (fresh s).wbuf = s.wbuf := rfl
@[simp] theorem fresh_parity : (fresh s).parity = s.parity := rfl
@[simp] theorem fresh_holds : (fresh s).holds = s.holds := rfl
@[simp] theorem fresh_fans : (fresh s).fans = s.fans := rfl
@[simp] theorem fresh_host : (fresh s).host = s.host := rfl
@[simp] theorem fresh_cfg : (fresh s).cfg = s.cfg := rfl
@[simp] theorem fresh_bench : (fresh s).bench = s.bench := rfl
@[simp] theorem fresh_fab : (fresh s).fab = s.fab := rfl
@[simp] theorem fresh_eth : (fresh s).eth = s.eth := rfl
@[simp] theorem fresh_tbl : (fresh s).tbl = s.tbl := rfl
@[simp] theorem fresh_flt : (fresh s).flt = s.flt := rfl
@[simp] theorem fresh_ax0 : (fresh s).ax0 = s.ax0 := rfl
@[simp] theorem fresh_pins : (fresh s).pins = s.pins := rfl
@[simp] theorem fresh_pwr : (fresh s).pwr = s.pwr := rfl
@[simp] theorem fresh_body : (fresh s).body = s.body := rfl
@[simp] theorem fresh_can : (fresh s).can = s.can := rfl
@[simp] theorem fresh_lin : (fresh s).lin = s.lin := rfl
@[simp] theorem fresh_wake : (fresh s).wake = s.wake := rfl
@[simp] theorem fresh_guard : (fresh s).guard = s.guard := rfl
@[simp] theorem fresh_gw : (fresh s).gw = s.gw := rfl
@[simp] theorem fresh_trust : (fresh s).trust = s.trust := rfl
@[simp] theorem fresh_stamps : (fresh s).stamps = s.stamps := rfl
@[simp] theorem fresh_axes : (fresh s).axes = s.axes := rfl
@[simp] theorem fresh_evp : (fresh s).evp = s.evp := rfl
@[simp] theorem fresh_upd : (fresh s).upd = s.upd := rfl
@[simp] theorem fresh_drk : (fresh s).drk = s.drk := rfl
@[simp] theorem fresh_leg : (fresh s).leg = s.leg := rfl
@[simp] theorem fresh_clk : (fresh s).clk = s.clk := rfl
@[simp] theorem fresh_draws : (fresh s).draws = s.draws := rfl
@[simp] theorem fresh_pending : (fresh s).pending = s.pending := rfl
@[simp] theorem fresh_outs : (fresh s).outs = [] := rfl
@[simp] theorem fresh_rd (w : Nat) (f : Field) (i : Nat) : (fresh s).rd w f i = s.rd w f i := rfl
@[simp] theorem fresh_gxOn : (fresh s).gxOn = s.gxOn := rfl
@[simp] theorem fresh_fresh : fresh (fresh s) = fresh s := rfl
@[simp] theorem State.emit_rd (x : Output) (w : Nat) (f : Field) (i : Nat) : (s.emit x).rd w f i = s.rd w f i := rfl
@[simp] theorem State.emit_outs (x : Output) : (s.emit x).outs = s.outs ++ [x] := rfl
@[simp] theorem fresh_reaches (init : Nat) : (fresh s).reaches init = s.reaches init := rfl

/-! ## freshParity -/

@[simp] theorem State.freshParity_regs (w ofs : Nat) : (s.freshParity w ofs).regs = s.regs := rfl
@[simp] theorem State.freshParity_wbuf (w ofs : Nat) : (s.freshParity w ofs).wbuf = s.wbuf := rfl
@[simp] theorem State.freshParity_holds (w ofs : Nat) : (s.freshParity w ofs).holds = s.holds := rfl
@[simp] theorem State.freshParity_fans (w ofs : Nat) : (s.freshParity w ofs).fans = s.fans := rfl
@[simp] theorem State.freshParity_host (w ofs : Nat) : (s.freshParity w ofs).host = s.host := rfl
@[simp] theorem State.freshParity_cfg (w ofs : Nat) : (s.freshParity w ofs).cfg = s.cfg := rfl
@[simp] theorem State.freshParity_bench (w ofs : Nat) : (s.freshParity w ofs).bench = s.bench := rfl
@[simp] theorem State.freshParity_fab (w ofs : Nat) : (s.freshParity w ofs).fab = s.fab := rfl
@[simp] theorem State.freshParity_eth (w ofs : Nat) : (s.freshParity w ofs).eth = s.eth := rfl
@[simp] theorem State.freshParity_tbl (w ofs : Nat) : (s.freshParity w ofs).tbl = s.tbl := rfl
@[simp] theorem State.freshParity_flt (w ofs : Nat) : (s.freshParity w ofs).flt = s.flt := rfl
@[simp] theorem State.freshParity_ax0 (w ofs : Nat) : (s.freshParity w ofs).ax0 = s.ax0 := rfl
@[simp] theorem State.freshParity_pins (w ofs : Nat) : (s.freshParity w ofs).pins = s.pins := rfl
@[simp] theorem State.freshParity_pwr (w ofs : Nat) : (s.freshParity w ofs).pwr = s.pwr := rfl
@[simp] theorem State.freshParity_body (w ofs : Nat) : (s.freshParity w ofs).body = s.body := rfl
@[simp] theorem State.freshParity_can (w ofs : Nat) : (s.freshParity w ofs).can = s.can := rfl
@[simp] theorem State.freshParity_lin (w ofs : Nat) : (s.freshParity w ofs).lin = s.lin := rfl
@[simp] theorem State.freshParity_wake (w ofs : Nat) : (s.freshParity w ofs).wake = s.wake := rfl
@[simp] theorem State.freshParity_guard (w ofs : Nat) : (s.freshParity w ofs).guard = s.guard := rfl
@[simp] theorem State.freshParity_gw (w ofs : Nat) : (s.freshParity w ofs).gw = s.gw := rfl
@[simp] theorem State.freshParity_trust (w ofs : Nat) : (s.freshParity w ofs).trust = s.trust := rfl
@[simp] theorem State.freshParity_stamps (w ofs : Nat) : (s.freshParity w ofs).stamps = s.stamps := rfl
@[simp] theorem State.freshParity_axes (w ofs : Nat) : (s.freshParity w ofs).axes = s.axes := rfl
@[simp] theorem State.freshParity_evp (w ofs : Nat) : (s.freshParity w ofs).evp = s.evp := rfl
@[simp] theorem State.freshParity_upd (w ofs : Nat) : (s.freshParity w ofs).upd = s.upd := rfl
@[simp] theorem State.freshParity_drk (w ofs : Nat) : (s.freshParity w ofs).drk = s.drk := rfl
@[simp] theorem State.freshParity_leg (w ofs : Nat) : (s.freshParity w ofs).leg = s.leg := rfl
@[simp] theorem State.freshParity_clk (w ofs : Nat) : (s.freshParity w ofs).clk = s.clk := rfl
@[simp] theorem State.freshParity_draws (w ofs : Nat) : (s.freshParity w ofs).draws = s.draws := rfl
@[simp] theorem State.freshParity_outs (w ofs : Nat) : (s.freshParity w ofs).outs = s.outs := rfl
@[simp] theorem State.freshParity_pending (w ofs : Nat) : (s.freshParity w ofs).pending = s.pending := rfl
@[simp] theorem State.freshParity_rd (w ofs : Nat) (w' : Nat) (g : Field) (j : Nat) : (s.freshParity w ofs).rd w' g j = s.rd w' g j := State.rd_congr (by simp) w' g j

/-! ## legacyCount -/

@[simp] theorem State.legacyCount_regs (w : Nat) (f : Field) (n : Nat) : (s.legacyCount w f n).regs = s.regs := by unfold State.legacyCount; split <;> (try split) <;> simp
@[simp] theorem State.legacyCount_wbuf (w : Nat) (f : Field) (n : Nat) : (s.legacyCount w f n).wbuf = s.wbuf := by unfold State.legacyCount; split <;> (try split) <;> simp
@[simp] theorem State.legacyCount_parity (w : Nat) (f : Field) (n : Nat) : (s.legacyCount w f n).parity = s.parity := by unfold State.legacyCount; split <;> (try split) <;> simp
@[simp] theorem State.legacyCount_holds (w : Nat) (f : Field) (n : Nat) : (s.legacyCount w f n).holds = s.holds := by unfold State.legacyCount; split <;> (try split) <;> simp
@[simp] theorem State.legacyCount_fans (w : Nat) (f : Field) (n : Nat) : (s.legacyCount w f n).fans = s.fans := by unfold State.legacyCount; split <;> (try split) <;> simp
@[simp] theorem State.legacyCount_host (w : Nat) (f : Field) (n : Nat) : (s.legacyCount w f n).host = s.host := by unfold State.legacyCount; split <;> (try split) <;> simp
@[simp] theorem State.legacyCount_cfg (w : Nat) (f : Field) (n : Nat) : (s.legacyCount w f n).cfg = s.cfg := by unfold State.legacyCount; split <;> (try split) <;> simp
@[simp] theorem State.legacyCount_bench (w : Nat) (f : Field) (n : Nat) : (s.legacyCount w f n).bench = s.bench := by unfold State.legacyCount; split <;> (try split) <;> simp
@[simp] theorem State.legacyCount_fab (w : Nat) (f : Field) (n : Nat) : (s.legacyCount w f n).fab = s.fab := by unfold State.legacyCount; split <;> (try split) <;> simp
@[simp] theorem State.legacyCount_eth (w : Nat) (f : Field) (n : Nat) : (s.legacyCount w f n).eth = s.eth := by unfold State.legacyCount; split <;> (try split) <;> simp
@[simp] theorem State.legacyCount_tbl (w : Nat) (f : Field) (n : Nat) : (s.legacyCount w f n).tbl = s.tbl := by unfold State.legacyCount; split <;> (try split) <;> simp
@[simp] theorem State.legacyCount_flt (w : Nat) (f : Field) (n : Nat) : (s.legacyCount w f n).flt = s.flt := by unfold State.legacyCount; split <;> (try split) <;> simp
@[simp] theorem State.legacyCount_ax0 (w : Nat) (f : Field) (n : Nat) : (s.legacyCount w f n).ax0 = s.ax0 := by unfold State.legacyCount; split <;> (try split) <;> simp
@[simp] theorem State.legacyCount_pins (w : Nat) (f : Field) (n : Nat) : (s.legacyCount w f n).pins = s.pins := by unfold State.legacyCount; split <;> (try split) <;> simp
@[simp] theorem State.legacyCount_pwr (w : Nat) (f : Field) (n : Nat) : (s.legacyCount w f n).pwr = s.pwr := by unfold State.legacyCount; split <;> (try split) <;> simp
@[simp] theorem State.legacyCount_body (w : Nat) (f : Field) (n : Nat) : (s.legacyCount w f n).body = s.body := by unfold State.legacyCount; split <;> (try split) <;> simp
@[simp] theorem State.legacyCount_can (w : Nat) (f : Field) (n : Nat) : (s.legacyCount w f n).can = s.can := by unfold State.legacyCount; split <;> (try split) <;> simp
@[simp] theorem State.legacyCount_lin (w : Nat) (f : Field) (n : Nat) : (s.legacyCount w f n).lin = s.lin := by unfold State.legacyCount; split <;> (try split) <;> simp
@[simp] theorem State.legacyCount_wake (w : Nat) (f : Field) (n : Nat) : (s.legacyCount w f n).wake = s.wake := by unfold State.legacyCount; split <;> (try split) <;> simp
@[simp] theorem State.legacyCount_guard (w : Nat) (f : Field) (n : Nat) : (s.legacyCount w f n).guard = s.guard := by unfold State.legacyCount; split <;> (try split) <;> simp
@[simp] theorem State.legacyCount_gw (w : Nat) (f : Field) (n : Nat) : (s.legacyCount w f n).gw = s.gw := by unfold State.legacyCount; split <;> (try split) <;> simp
@[simp] theorem State.legacyCount_trust (w : Nat) (f : Field) (n : Nat) : (s.legacyCount w f n).trust = s.trust := by unfold State.legacyCount; split <;> (try split) <;> simp
@[simp] theorem State.legacyCount_stamps (w : Nat) (f : Field) (n : Nat) : (s.legacyCount w f n).stamps = s.stamps := by unfold State.legacyCount; split <;> (try split) <;> simp
@[simp] theorem State.legacyCount_axes (w : Nat) (f : Field) (n : Nat) : (s.legacyCount w f n).axes = s.axes := by unfold State.legacyCount; split <;> (try split) <;> simp
@[simp] theorem State.legacyCount_evp (w : Nat) (f : Field) (n : Nat) : (s.legacyCount w f n).evp = s.evp := by unfold State.legacyCount; split <;> (try split) <;> simp
@[simp] theorem State.legacyCount_upd (w : Nat) (f : Field) (n : Nat) : (s.legacyCount w f n).upd = s.upd := by unfold State.legacyCount; split <;> (try split) <;> simp
@[simp] theorem State.legacyCount_drk (w : Nat) (f : Field) (n : Nat) : (s.legacyCount w f n).drk = s.drk := by unfold State.legacyCount; split <;> (try split) <;> simp
@[simp] theorem State.legacyCount_clk (w : Nat) (f : Field) (n : Nat) : (s.legacyCount w f n).clk = s.clk := by unfold State.legacyCount; split <;> (try split) <;> simp
@[simp] theorem State.legacyCount_draws (w : Nat) (f : Field) (n : Nat) : (s.legacyCount w f n).draws = s.draws := by unfold State.legacyCount; split <;> (try split) <;> simp
@[simp] theorem State.legacyCount_outs (w : Nat) (f : Field) (n : Nat) : (s.legacyCount w f n).outs = s.outs := by unfold State.legacyCount; split <;> (try split) <;> simp
@[simp] theorem State.legacyCount_pending (w : Nat) (f : Field) (n : Nat) : (s.legacyCount w f n).pending = s.pending := by unfold State.legacyCount; split <;> (try split) <;> simp
@[simp] theorem State.legacyCount_rd (w : Nat) (f : Field) (n : Nat) (w' : Nat) (g : Field) (j : Nat) : (s.legacyCount w f n).rd w' g j = s.rd w' g j := State.rd_congr (by simp) w' g j

/-! ## count -/

@[simp] theorem State.count_wbuf (w : Nat) (f : Field) (i n : Nat) : (s.count w f i n).wbuf = s.wbuf := by simp [State.count]
@[simp] theorem State.count_parity (w : Nat) (f : Field) (i n : Nat) : (s.count w f i n).parity = s.parity := by simp [State.count]
@[simp] theorem State.count_holds (w : Nat) (f : Field) (i n : Nat) : (s.count w f i n).holds = s.holds := by simp [State.count]
@[simp] theorem State.count_fans (w : Nat) (f : Field) (i n : Nat) : (s.count w f i n).fans = s.fans := by simp [State.count]
@[simp] theorem State.count_host (w : Nat) (f : Field) (i n : Nat) : (s.count w f i n).host = s.host := by simp [State.count]
@[simp] theorem State.count_cfg (w : Nat) (f : Field) (i n : Nat) : (s.count w f i n).cfg = s.cfg := by simp [State.count]
@[simp] theorem State.count_bench (w : Nat) (f : Field) (i n : Nat) : (s.count w f i n).bench = s.bench := by simp [State.count]
@[simp] theorem State.count_fab (w : Nat) (f : Field) (i n : Nat) : (s.count w f i n).fab = s.fab := by simp [State.count]
@[simp] theorem State.count_eth (w : Nat) (f : Field) (i n : Nat) : (s.count w f i n).eth = s.eth := by simp [State.count]
@[simp] theorem State.count_tbl (w : Nat) (f : Field) (i n : Nat) : (s.count w f i n).tbl = s.tbl := by simp [State.count]
@[simp] theorem State.count_flt (w : Nat) (f : Field) (i n : Nat) : (s.count w f i n).flt = s.flt := by simp [State.count]
@[simp] theorem State.count_ax0 (w : Nat) (f : Field) (i n : Nat) : (s.count w f i n).ax0 = s.ax0 := by simp [State.count]
@[simp] theorem State.count_pins (w : Nat) (f : Field) (i n : Nat) : (s.count w f i n).pins = s.pins := by simp [State.count]
@[simp] theorem State.count_pwr (w : Nat) (f : Field) (i n : Nat) : (s.count w f i n).pwr = s.pwr := by simp [State.count]
@[simp] theorem State.count_body (w : Nat) (f : Field) (i n : Nat) : (s.count w f i n).body = s.body := by simp [State.count]
@[simp] theorem State.count_can (w : Nat) (f : Field) (i n : Nat) : (s.count w f i n).can = s.can := by simp [State.count]
@[simp] theorem State.count_lin (w : Nat) (f : Field) (i n : Nat) : (s.count w f i n).lin = s.lin := by simp [State.count]
@[simp] theorem State.count_wake (w : Nat) (f : Field) (i n : Nat) : (s.count w f i n).wake = s.wake := by simp [State.count]
@[simp] theorem State.count_guard (w : Nat) (f : Field) (i n : Nat) : (s.count w f i n).guard = s.guard := by simp [State.count]
@[simp] theorem State.count_gw (w : Nat) (f : Field) (i n : Nat) : (s.count w f i n).gw = s.gw := by simp [State.count]
@[simp] theorem State.count_trust (w : Nat) (f : Field) (i n : Nat) : (s.count w f i n).trust = s.trust := by simp [State.count]
@[simp] theorem State.count_stamps (w : Nat) (f : Field) (i n : Nat) : (s.count w f i n).stamps = s.stamps := by simp [State.count]
@[simp] theorem State.count_axes (w : Nat) (f : Field) (i n : Nat) : (s.count w f i n).axes = s.axes := by simp [State.count]
@[simp] theorem State.count_evp (w : Nat) (f : Field) (i n : Nat) : (s.count w f i n).evp = s.evp := by simp [State.count]
@[simp] theorem State.count_upd (w : Nat) (f : Field) (i n : Nat) : (s.count w f i n).upd = s.upd := by simp [State.count]
@[simp] theorem State.count_drk (w : Nat) (f : Field) (i n : Nat) : (s.count w f i n).drk = s.drk := by simp [State.count]
@[simp] theorem State.count_clk (w : Nat) (f : Field) (i n : Nat) : (s.count w f i n).clk = s.clk := by simp [State.count]
@[simp] theorem State.count_draws (w : Nat) (f : Field) (i n : Nat) : (s.count w f i n).draws = s.draws := by simp [State.count]
@[simp] theorem State.count_outs (w : Nat) (f : Field) (i n : Nat) : (s.count w f i n).outs = s.outs := by simp [State.count]
@[simp] theorem State.count_pending (w : Nat) (f : Field) (i n : Nat) : (s.count w f i n).pending = s.pending := by simp [State.count]

/-- A tally after a count: the sum, held at the all-ones value (R13). -/
@[simp] theorem State.rd_count_same (w : Nat) (f : Field) (i n : Nat) :
    (s.count w f i n).rd w f i = satAdd (s.rd w f i) n f.width := by
  have h : satAdd (s.rd w f i) n f.width < 2 ^ f.width := by
    have := Nat.two_pow_pos f.width
    unfold satAdd; split <;> omega
  simp [State.count, Nat.mod_eq_of_lt h]

theorem State.rd_count_other {w w' : Nat} {f g : Field} {i j : Nat} (h : f.key w i ≠ g.key w' j) (n : Nat) :
    (s.count w f i n).rd w' g j = s.rd w' g j := by
  simp [State.count, State.rd_wr_other s h]

theorem State.rd_count_ofs {f g : Field} (hf : f.lo < 1024) (hg : g.lo < 1024) (h : f.ofs % 4096 ≠ g.ofs % 4096) (w w' i j n : Nat) :
    (s.count w f i n).rd w' g j = s.rd w' g j := s.rd_count_other (Field.key_ne_ofs hf hg h w w' i j) n


/-! ## sendVec -/

@[simp] theorem State.sendVec_regs (v : Nat) : (s.sendVec v).regs = s.regs := by unfold State.sendVec; split <;> (try split) <;> simp
@[simp] theorem State.sendVec_wbuf (v : Nat) : (s.sendVec v).wbuf = s.wbuf := by unfold State.sendVec; split <;> (try split) <;> simp
@[simp] theorem State.sendVec_parity (v : Nat) : (s.sendVec v).parity = s.parity := by unfold State.sendVec; split <;> (try split) <;> simp
@[simp] theorem State.sendVec_holds (v : Nat) : (s.sendVec v).holds = s.holds := by unfold State.sendVec; split <;> (try split) <;> simp
@[simp] theorem State.sendVec_fans (v : Nat) : (s.sendVec v).fans = s.fans := by unfold State.sendVec; split <;> (try split) <;> simp
@[simp] theorem State.sendVec_cfg (v : Nat) : (s.sendVec v).cfg = s.cfg := by unfold State.sendVec; split <;> (try split) <;> simp
@[simp] theorem State.sendVec_bench (v : Nat) : (s.sendVec v).bench = s.bench := by unfold State.sendVec; split <;> (try split) <;> simp
@[simp] theorem State.sendVec_fab (v : Nat) : (s.sendVec v).fab = s.fab := by unfold State.sendVec; split <;> (try split) <;> simp
@[simp] theorem State.sendVec_eth (v : Nat) : (s.sendVec v).eth = s.eth := by unfold State.sendVec; split <;> (try split) <;> simp
@[simp] theorem State.sendVec_tbl (v : Nat) : (s.sendVec v).tbl = s.tbl := by unfold State.sendVec; split <;> (try split) <;> simp
@[simp] theorem State.sendVec_flt (v : Nat) : (s.sendVec v).flt = s.flt := by unfold State.sendVec; split <;> (try split) <;> simp
@[simp] theorem State.sendVec_ax0 (v : Nat) : (s.sendVec v).ax0 = s.ax0 := by unfold State.sendVec; split <;> (try split) <;> simp
@[simp] theorem State.sendVec_pins (v : Nat) : (s.sendVec v).pins = s.pins := by unfold State.sendVec; split <;> (try split) <;> simp
@[simp] theorem State.sendVec_pwr (v : Nat) : (s.sendVec v).pwr = s.pwr := by unfold State.sendVec; split <;> (try split) <;> simp
@[simp] theorem State.sendVec_body (v : Nat) : (s.sendVec v).body = s.body := by unfold State.sendVec; split <;> (try split) <;> simp
@[simp] theorem State.sendVec_can (v : Nat) : (s.sendVec v).can = s.can := by unfold State.sendVec; split <;> (try split) <;> simp
@[simp] theorem State.sendVec_lin (v : Nat) : (s.sendVec v).lin = s.lin := by unfold State.sendVec; split <;> (try split) <;> simp
@[simp] theorem State.sendVec_wake (v : Nat) : (s.sendVec v).wake = s.wake := by unfold State.sendVec; split <;> (try split) <;> simp
@[simp] theorem State.sendVec_guard (v : Nat) : (s.sendVec v).guard = s.guard := by unfold State.sendVec; split <;> (try split) <;> simp
@[simp] theorem State.sendVec_gw (v : Nat) : (s.sendVec v).gw = s.gw := by unfold State.sendVec; split <;> (try split) <;> simp
@[simp] theorem State.sendVec_trust (v : Nat) : (s.sendVec v).trust = s.trust := by unfold State.sendVec; split <;> (try split) <;> simp
@[simp] theorem State.sendVec_stamps (v : Nat) : (s.sendVec v).stamps = s.stamps := by unfold State.sendVec; split <;> (try split) <;> simp
@[simp] theorem State.sendVec_axes (v : Nat) : (s.sendVec v).axes = s.axes := by unfold State.sendVec; split <;> (try split) <;> simp
@[simp] theorem State.sendVec_evp (v : Nat) : (s.sendVec v).evp = s.evp := by unfold State.sendVec; split <;> (try split) <;> simp
@[simp] theorem State.sendVec_upd (v : Nat) : (s.sendVec v).upd = s.upd := by unfold State.sendVec; split <;> (try split) <;> simp
@[simp] theorem State.sendVec_drk (v : Nat) : (s.sendVec v).drk = s.drk := by unfold State.sendVec; split <;> (try split) <;> simp
@[simp] theorem State.sendVec_leg (v : Nat) : (s.sendVec v).leg = s.leg := by unfold State.sendVec; split <;> (try split) <;> simp
@[simp] theorem State.sendVec_clk (v : Nat) : (s.sendVec v).clk = s.clk := by unfold State.sendVec; split <;> (try split) <;> simp
@[simp] theorem State.sendVec_draws (v : Nat) : (s.sendVec v).draws = s.draws := by unfold State.sendVec; split <;> (try split) <;> simp
@[simp] theorem State.sendVec_pending (v : Nat) : (s.sendVec v).pending = s.pending := by unfold State.sendVec; split <;> (try split) <;> simp
@[simp] theorem State.sendVec_rd (v : Nat) (w' : Nat) (g : Field) (j : Nat) : (s.sendVec v).rd w' g j = s.rd w' g j := State.rd_congr (by simp) w' g j

/-! ## driveIrq -/

@[simp] theorem State.driveIrq_regs  : (s.driveIrq).regs = s.regs := rfl
@[simp] theorem State.driveIrq_wbuf  : (s.driveIrq).wbuf = s.wbuf := rfl
@[simp] theorem State.driveIrq_parity  : (s.driveIrq).parity = s.parity := rfl
@[simp] theorem State.driveIrq_holds  : (s.driveIrq).holds = s.holds := rfl
@[simp] theorem State.driveIrq_fans  : (s.driveIrq).fans = s.fans := rfl
@[simp] theorem State.driveIrq_host  : (s.driveIrq).host = s.host := rfl
@[simp] theorem State.driveIrq_cfg  : (s.driveIrq).cfg = s.cfg := rfl
@[simp] theorem State.driveIrq_bench  : (s.driveIrq).bench = s.bench := rfl
@[simp] theorem State.driveIrq_fab  : (s.driveIrq).fab = s.fab := rfl
@[simp] theorem State.driveIrq_eth  : (s.driveIrq).eth = s.eth := rfl
@[simp] theorem State.driveIrq_tbl  : (s.driveIrq).tbl = s.tbl := rfl
@[simp] theorem State.driveIrq_flt  : (s.driveIrq).flt = s.flt := rfl
@[simp] theorem State.driveIrq_ax0  : (s.driveIrq).ax0 = s.ax0 := rfl
@[simp] theorem State.driveIrq_pwr  : (s.driveIrq).pwr = s.pwr := rfl
@[simp] theorem State.driveIrq_body  : (s.driveIrq).body = s.body := rfl
@[simp] theorem State.driveIrq_can  : (s.driveIrq).can = s.can := rfl
@[simp] theorem State.driveIrq_lin  : (s.driveIrq).lin = s.lin := rfl
@[simp] theorem State.driveIrq_wake  : (s.driveIrq).wake = s.wake := rfl
@[simp] theorem State.driveIrq_guard  : (s.driveIrq).guard = s.guard := rfl
@[simp] theorem State.driveIrq_gw  : (s.driveIrq).gw = s.gw := rfl
@[simp] theorem State.driveIrq_trust  : (s.driveIrq).trust = s.trust := rfl
@[simp] theorem State.driveIrq_stamps  : (s.driveIrq).stamps = s.stamps := rfl
@[simp] theorem State.driveIrq_axes  : (s.driveIrq).axes = s.axes := rfl
@[simp] theorem State.driveIrq_evp  : (s.driveIrq).evp = s.evp := rfl
@[simp] theorem State.driveIrq_upd  : (s.driveIrq).upd = s.upd := rfl
@[simp] theorem State.driveIrq_drk  : (s.driveIrq).drk = s.drk := rfl
@[simp] theorem State.driveIrq_leg  : (s.driveIrq).leg = s.leg := rfl
@[simp] theorem State.driveIrq_clk  : (s.driveIrq).clk = s.clk := rfl
@[simp] theorem State.driveIrq_draws  : (s.driveIrq).draws = s.draws := rfl
@[simp] theorem State.driveIrq_outs  : (s.driveIrq).outs = s.outs := rfl
@[simp] theorem State.driveIrq_pending  : (s.driveIrq).pending = s.pending := rfl
@[simp] theorem State.driveIrq_rd  (w' : Nat) (g : Field) (j : Nat) : (s.driveIrq).rd w' g j = s.rd w' g j := State.rd_congr (by simp) w' g j

/-! ## irqRise -/

@[simp] theorem State.irqRise_regs (w : Nat) (b : Bool) : (s.irqRise w b).regs = s.regs := by unfold State.irqRise; split <;> simp only <;> (try split) <;> simp
@[simp] theorem State.irqRise_wbuf (w : Nat) (b : Bool) : (s.irqRise w b).wbuf = s.wbuf := by unfold State.irqRise; split <;> simp only <;> (try split) <;> simp
@[simp] theorem State.irqRise_parity (w : Nat) (b : Bool) : (s.irqRise w b).parity = s.parity := by unfold State.irqRise; split <;> simp only <;> (try split) <;> simp
@[simp] theorem State.irqRise_holds (w : Nat) (b : Bool) : (s.irqRise w b).holds = s.holds := by unfold State.irqRise; split <;> simp only <;> (try split) <;> simp
@[simp] theorem State.irqRise_fans (w : Nat) (b : Bool) : (s.irqRise w b).fans = s.fans := by unfold State.irqRise; split <;> simp only <;> (try split) <;> simp
@[simp] theorem State.irqRise_cfg (w : Nat) (b : Bool) : (s.irqRise w b).cfg = s.cfg := by unfold State.irqRise; split <;> simp only <;> (try split) <;> simp
@[simp] theorem State.irqRise_bench (w : Nat) (b : Bool) : (s.irqRise w b).bench = s.bench := by unfold State.irqRise; split <;> simp only <;> (try split) <;> simp
@[simp] theorem State.irqRise_fab (w : Nat) (b : Bool) : (s.irqRise w b).fab = s.fab := by unfold State.irqRise; split <;> simp only <;> (try split) <;> simp
@[simp] theorem State.irqRise_eth (w : Nat) (b : Bool) : (s.irqRise w b).eth = s.eth := by unfold State.irqRise; split <;> simp only <;> (try split) <;> simp
@[simp] theorem State.irqRise_tbl (w : Nat) (b : Bool) : (s.irqRise w b).tbl = s.tbl := by unfold State.irqRise; split <;> simp only <;> (try split) <;> simp
@[simp] theorem State.irqRise_flt (w : Nat) (b : Bool) : (s.irqRise w b).flt = s.flt := by unfold State.irqRise; split <;> simp only <;> (try split) <;> simp
@[simp] theorem State.irqRise_ax0 (w : Nat) (b : Bool) : (s.irqRise w b).ax0 = s.ax0 := by unfold State.irqRise; split <;> simp only <;> (try split) <;> simp
@[simp] theorem State.irqRise_pwr (w : Nat) (b : Bool) : (s.irqRise w b).pwr = s.pwr := by unfold State.irqRise; split <;> simp only <;> (try split) <;> simp
@[simp] theorem State.irqRise_body (w : Nat) (b : Bool) : (s.irqRise w b).body = s.body := by unfold State.irqRise; split <;> simp only <;> (try split) <;> simp
@[simp] theorem State.irqRise_can (w : Nat) (b : Bool) : (s.irqRise w b).can = s.can := by unfold State.irqRise; split <;> simp only <;> (try split) <;> simp
@[simp] theorem State.irqRise_lin (w : Nat) (b : Bool) : (s.irqRise w b).lin = s.lin := by unfold State.irqRise; split <;> simp only <;> (try split) <;> simp
@[simp] theorem State.irqRise_wake (w : Nat) (b : Bool) : (s.irqRise w b).wake = s.wake := by unfold State.irqRise; split <;> simp only <;> (try split) <;> simp
@[simp] theorem State.irqRise_guard (w : Nat) (b : Bool) : (s.irqRise w b).guard = s.guard := by unfold State.irqRise; split <;> simp only <;> (try split) <;> simp
@[simp] theorem State.irqRise_gw (w : Nat) (b : Bool) : (s.irqRise w b).gw = s.gw := by unfold State.irqRise; split <;> simp only <;> (try split) <;> simp
@[simp] theorem State.irqRise_trust (w : Nat) (b : Bool) : (s.irqRise w b).trust = s.trust := by unfold State.irqRise; split <;> simp only <;> (try split) <;> simp
@[simp] theorem State.irqRise_stamps (w : Nat) (b : Bool) : (s.irqRise w b).stamps = s.stamps := by unfold State.irqRise; split <;> simp only <;> (try split) <;> simp
@[simp] theorem State.irqRise_axes (w : Nat) (b : Bool) : (s.irqRise w b).axes = s.axes := by unfold State.irqRise; split <;> simp only <;> (try split) <;> simp
@[simp] theorem State.irqRise_evp (w : Nat) (b : Bool) : (s.irqRise w b).evp = s.evp := by unfold State.irqRise; split <;> simp only <;> (try split) <;> simp
@[simp] theorem State.irqRise_upd (w : Nat) (b : Bool) : (s.irqRise w b).upd = s.upd := by unfold State.irqRise; split <;> simp only <;> (try split) <;> simp
@[simp] theorem State.irqRise_drk (w : Nat) (b : Bool) : (s.irqRise w b).drk = s.drk := by unfold State.irqRise; split <;> simp only <;> (try split) <;> simp
@[simp] theorem State.irqRise_leg (w : Nat) (b : Bool) : (s.irqRise w b).leg = s.leg := by unfold State.irqRise; split <;> simp only <;> (try split) <;> simp
@[simp] theorem State.irqRise_clk (w : Nat) (b : Bool) : (s.irqRise w b).clk = s.clk := by unfold State.irqRise; split <;> simp only <;> (try split) <;> simp
@[simp] theorem State.irqRise_draws (w : Nat) (b : Bool) : (s.irqRise w b).draws = s.draws := by unfold State.irqRise; split <;> simp only <;> (try split) <;> simp
@[simp] theorem State.irqRise_pending (w : Nat) (b : Bool) : (s.irqRise w b).pending = s.pending := by unfold State.irqRise; split <;> simp only <;> (try split) <;> simp
@[simp] theorem State.irqRise_rd (w : Nat) (b : Bool) (w' : Nat) (g : Field) (j : Nat) : (s.irqRise w b).rd w' g j = s.rd w' g j := State.rd_congr (by simp) w' g j

/-! ## legacyEvent -/

@[simp] theorem State.legacyEvent_regs (w k : Nat) : (s.legacyEvent w k).regs = s.regs := by unfold State.legacyEvent; split <;> (try split) <;> simp only <;> (try split) <;> simp
@[simp] theorem State.legacyEvent_wbuf (w k : Nat) : (s.legacyEvent w k).wbuf = s.wbuf := by unfold State.legacyEvent; split <;> (try split) <;> simp only <;> (try split) <;> simp
@[simp] theorem State.legacyEvent_parity (w k : Nat) : (s.legacyEvent w k).parity = s.parity := by unfold State.legacyEvent; split <;> (try split) <;> simp only <;> (try split) <;> simp
@[simp] theorem State.legacyEvent_holds (w k : Nat) : (s.legacyEvent w k).holds = s.holds := by unfold State.legacyEvent; split <;> (try split) <;> simp only <;> (try split) <;> simp
@[simp] theorem State.legacyEvent_fans (w k : Nat) : (s.legacyEvent w k).fans = s.fans := by unfold State.legacyEvent; split <;> (try split) <;> simp only <;> (try split) <;> simp
@[simp] theorem State.legacyEvent_host (w k : Nat) : (s.legacyEvent w k).host = s.host := by unfold State.legacyEvent; split <;> (try split) <;> simp only <;> (try split) <;> simp
@[simp] theorem State.legacyEvent_cfg (w k : Nat) : (s.legacyEvent w k).cfg = s.cfg := by unfold State.legacyEvent; split <;> (try split) <;> simp only <;> (try split) <;> simp
@[simp] theorem State.legacyEvent_bench (w k : Nat) : (s.legacyEvent w k).bench = s.bench := by unfold State.legacyEvent; split <;> (try split) <;> simp only <;> (try split) <;> simp
@[simp] theorem State.legacyEvent_fab (w k : Nat) : (s.legacyEvent w k).fab = s.fab := by unfold State.legacyEvent; split <;> (try split) <;> simp only <;> (try split) <;> simp
@[simp] theorem State.legacyEvent_eth (w k : Nat) : (s.legacyEvent w k).eth = s.eth := by unfold State.legacyEvent; split <;> (try split) <;> simp only <;> (try split) <;> simp
@[simp] theorem State.legacyEvent_tbl (w k : Nat) : (s.legacyEvent w k).tbl = s.tbl := by unfold State.legacyEvent; split <;> (try split) <;> simp only <;> (try split) <;> simp
@[simp] theorem State.legacyEvent_flt (w k : Nat) : (s.legacyEvent w k).flt = s.flt := by unfold State.legacyEvent; split <;> (try split) <;> simp only <;> (try split) <;> simp
@[simp] theorem State.legacyEvent_ax0 (w k : Nat) : (s.legacyEvent w k).ax0 = s.ax0 := by unfold State.legacyEvent; split <;> (try split) <;> simp only <;> (try split) <;> simp
@[simp] theorem State.legacyEvent_pwr (w k : Nat) : (s.legacyEvent w k).pwr = s.pwr := by unfold State.legacyEvent; split <;> (try split) <;> simp only <;> (try split) <;> simp
@[simp] theorem State.legacyEvent_body (w k : Nat) : (s.legacyEvent w k).body = s.body := by unfold State.legacyEvent; split <;> (try split) <;> simp only <;> (try split) <;> simp
@[simp] theorem State.legacyEvent_can (w k : Nat) : (s.legacyEvent w k).can = s.can := by unfold State.legacyEvent; split <;> (try split) <;> simp only <;> (try split) <;> simp
@[simp] theorem State.legacyEvent_lin (w k : Nat) : (s.legacyEvent w k).lin = s.lin := by unfold State.legacyEvent; split <;> (try split) <;> simp only <;> (try split) <;> simp
@[simp] theorem State.legacyEvent_wake (w k : Nat) : (s.legacyEvent w k).wake = s.wake := by unfold State.legacyEvent; split <;> (try split) <;> simp only <;> (try split) <;> simp
@[simp] theorem State.legacyEvent_guard (w k : Nat) : (s.legacyEvent w k).guard = s.guard := by unfold State.legacyEvent; split <;> (try split) <;> simp only <;> (try split) <;> simp
@[simp] theorem State.legacyEvent_gw (w k : Nat) : (s.legacyEvent w k).gw = s.gw := by unfold State.legacyEvent; split <;> (try split) <;> simp only <;> (try split) <;> simp
@[simp] theorem State.legacyEvent_trust (w k : Nat) : (s.legacyEvent w k).trust = s.trust := by unfold State.legacyEvent; split <;> (try split) <;> simp only <;> (try split) <;> simp
@[simp] theorem State.legacyEvent_stamps (w k : Nat) : (s.legacyEvent w k).stamps = s.stamps := by unfold State.legacyEvent; split <;> (try split) <;> simp only <;> (try split) <;> simp
@[simp] theorem State.legacyEvent_axes (w k : Nat) : (s.legacyEvent w k).axes = s.axes := by unfold State.legacyEvent; split <;> (try split) <;> simp only <;> (try split) <;> simp
@[simp] theorem State.legacyEvent_evp (w k : Nat) : (s.legacyEvent w k).evp = s.evp := by unfold State.legacyEvent; split <;> (try split) <;> simp only <;> (try split) <;> simp
@[simp] theorem State.legacyEvent_upd (w k : Nat) : (s.legacyEvent w k).upd = s.upd := by unfold State.legacyEvent; split <;> (try split) <;> simp only <;> (try split) <;> simp
@[simp] theorem State.legacyEvent_drk (w k : Nat) : (s.legacyEvent w k).drk = s.drk := by unfold State.legacyEvent; split <;> (try split) <;> simp only <;> (try split) <;> simp
@[simp] theorem State.legacyEvent_clk (w k : Nat) : (s.legacyEvent w k).clk = s.clk := by unfold State.legacyEvent; split <;> (try split) <;> simp only <;> (try split) <;> simp
@[simp] theorem State.legacyEvent_draws (w k : Nat) : (s.legacyEvent w k).draws = s.draws := by unfold State.legacyEvent; split <;> (try split) <;> simp only <;> (try split) <;> simp
@[simp] theorem State.legacyEvent_outs (w k : Nat) : (s.legacyEvent w k).outs = s.outs := by unfold State.legacyEvent; split <;> (try split) <;> simp only <;> (try split) <;> simp
@[simp] theorem State.legacyEvent_pending (w k : Nat) : (s.legacyEvent w k).pending = s.pending := by unfold State.legacyEvent; split <;> (try split) <;> simp only <;> (try split) <;> simp
@[simp] theorem State.legacyEvent_rd (w k : Nat) (w' : Nat) (g : Field) (j : Nat) : (s.legacyEvent w k).rd w' g j = s.rd w' g j := State.rd_congr (by simp) w' g j

/-! ## event -/

@[simp] theorem State.event_wbuf (w k : Nat) : (s.event w k).wbuf = s.wbuf := by simp [State.event]
@[simp] theorem State.event_parity (w k : Nat) : (s.event w k).parity = s.parity := by simp [State.event]
@[simp] theorem State.event_holds (w k : Nat) : (s.event w k).holds = s.holds := by simp [State.event]
@[simp] theorem State.event_fans (w k : Nat) : (s.event w k).fans = s.fans := by simp [State.event]
@[simp] theorem State.event_cfg (w k : Nat) : (s.event w k).cfg = s.cfg := by simp [State.event]
@[simp] theorem State.event_bench (w k : Nat) : (s.event w k).bench = s.bench := by simp [State.event]
@[simp] theorem State.event_fab (w k : Nat) : (s.event w k).fab = s.fab := by simp [State.event]
@[simp] theorem State.event_eth (w k : Nat) : (s.event w k).eth = s.eth := by simp [State.event]
@[simp] theorem State.event_tbl (w k : Nat) : (s.event w k).tbl = s.tbl := by simp [State.event]
@[simp] theorem State.event_flt (w k : Nat) : (s.event w k).flt = s.flt := by simp [State.event]
@[simp] theorem State.event_ax0 (w k : Nat) : (s.event w k).ax0 = s.ax0 := by simp [State.event]
@[simp] theorem State.event_pwr (w k : Nat) : (s.event w k).pwr = s.pwr := by simp [State.event]
@[simp] theorem State.event_body (w k : Nat) : (s.event w k).body = s.body := by simp [State.event]
@[simp] theorem State.event_can (w k : Nat) : (s.event w k).can = s.can := by simp [State.event]
@[simp] theorem State.event_lin (w k : Nat) : (s.event w k).lin = s.lin := by simp [State.event]
@[simp] theorem State.event_wake (w k : Nat) : (s.event w k).wake = s.wake := by simp [State.event]
@[simp] theorem State.event_guard (w k : Nat) : (s.event w k).guard = s.guard := by simp [State.event]
@[simp] theorem State.event_gw (w k : Nat) : (s.event w k).gw = s.gw := by simp [State.event]
@[simp] theorem State.event_trust (w k : Nat) : (s.event w k).trust = s.trust := by simp [State.event]
@[simp] theorem State.event_stamps (w k : Nat) : (s.event w k).stamps = s.stamps := by simp [State.event]
@[simp] theorem State.event_axes (w k : Nat) : (s.event w k).axes = s.axes := by simp [State.event]
@[simp] theorem State.event_evp (w k : Nat) : (s.event w k).evp = s.evp := by simp [State.event]
@[simp] theorem State.event_upd (w k : Nat) : (s.event w k).upd = s.upd := by simp [State.event]
@[simp] theorem State.event_drk (w k : Nat) : (s.event w k).drk = s.drk := by simp [State.event]
@[simp] theorem State.event_clk (w k : Nat) : (s.event w k).clk = s.clk := by simp [State.event]
@[simp] theorem State.event_draws (w k : Nat) : (s.event w k).draws = s.draws := by simp [State.event]
@[simp] theorem State.event_pending (w k : Nat) : (s.event w k).pending = s.pending := by simp [State.event]

/-- A unit event changes no register field but EV of UNIT_IRQ_PEND of its window. -/
theorem State.rd_event_other {w w' : Nat} {g : Field} {j : Nat} (h : UNIT_IRQ_PEND.EV.key w 0 ≠ g.key w' j) (k : Nat) :
    (s.event w k).rd w' g j = s.rd w' g j := by
  simp [State.event, State.rd_wr_other _ h]

theorem State.rd_event_ofs {g : Field} (hg : g.lo < 1024) (h : UNIT_IRQ_PEND.EV.ofs % 4096 ≠ g.ofs % 4096) (w k w' j : Nat) :
    (s.event w k).rd w' g j = s.rd w' g j := s.rd_event_other (Field.key_ne_ofs (by decide) hg h w w' 0 j) k

/-- A unit event sets its bit of EV. -/
@[simp] theorem State.rd_event_same (w k : Nat) :
    (s.event w k).rd w UNIT_IRQ_PEND.EV = setBit (s.rd w UNIT_IRQ_PEND.EV) k % 2 ^ UNIT_IRQ_PEND.EV.width := by
  simp [State.event]


/-! ## sticky -/

@[simp] theorem State.sticky_wbuf (w : Nat) (f : Field) (i : Nat) : (s.sticky w f i).wbuf = s.wbuf := by unfold State.sticky; split <;> simp
@[simp] theorem State.sticky_parity (w : Nat) (f : Field) (i : Nat) : (s.sticky w f i).parity = s.parity := by unfold State.sticky; split <;> simp
@[simp] theorem State.sticky_holds (w : Nat) (f : Field) (i : Nat) : (s.sticky w f i).holds = s.holds := by unfold State.sticky; split <;> simp
@[simp] theorem State.sticky_fans (w : Nat) (f : Field) (i : Nat) : (s.sticky w f i).fans = s.fans := by unfold State.sticky; split <;> simp
@[simp] theorem State.sticky_cfg (w : Nat) (f : Field) (i : Nat) : (s.sticky w f i).cfg = s.cfg := by unfold State.sticky; split <;> simp
@[simp] theorem State.sticky_bench (w : Nat) (f : Field) (i : Nat) : (s.sticky w f i).bench = s.bench := by unfold State.sticky; split <;> simp
@[simp] theorem State.sticky_fab (w : Nat) (f : Field) (i : Nat) : (s.sticky w f i).fab = s.fab := by unfold State.sticky; split <;> simp
@[simp] theorem State.sticky_eth (w : Nat) (f : Field) (i : Nat) : (s.sticky w f i).eth = s.eth := by unfold State.sticky; split <;> simp
@[simp] theorem State.sticky_tbl (w : Nat) (f : Field) (i : Nat) : (s.sticky w f i).tbl = s.tbl := by unfold State.sticky; split <;> simp
@[simp] theorem State.sticky_flt (w : Nat) (f : Field) (i : Nat) : (s.sticky w f i).flt = s.flt := by unfold State.sticky; split <;> simp
@[simp] theorem State.sticky_ax0 (w : Nat) (f : Field) (i : Nat) : (s.sticky w f i).ax0 = s.ax0 := by unfold State.sticky; split <;> simp
@[simp] theorem State.sticky_pwr (w : Nat) (f : Field) (i : Nat) : (s.sticky w f i).pwr = s.pwr := by unfold State.sticky; split <;> simp
@[simp] theorem State.sticky_body (w : Nat) (f : Field) (i : Nat) : (s.sticky w f i).body = s.body := by unfold State.sticky; split <;> simp
@[simp] theorem State.sticky_can (w : Nat) (f : Field) (i : Nat) : (s.sticky w f i).can = s.can := by unfold State.sticky; split <;> simp
@[simp] theorem State.sticky_lin (w : Nat) (f : Field) (i : Nat) : (s.sticky w f i).lin = s.lin := by unfold State.sticky; split <;> simp
@[simp] theorem State.sticky_wake (w : Nat) (f : Field) (i : Nat) : (s.sticky w f i).wake = s.wake := by unfold State.sticky; split <;> simp
@[simp] theorem State.sticky_guard (w : Nat) (f : Field) (i : Nat) : (s.sticky w f i).guard = s.guard := by unfold State.sticky; split <;> simp
@[simp] theorem State.sticky_gw (w : Nat) (f : Field) (i : Nat) : (s.sticky w f i).gw = s.gw := by unfold State.sticky; split <;> simp
@[simp] theorem State.sticky_trust (w : Nat) (f : Field) (i : Nat) : (s.sticky w f i).trust = s.trust := by unfold State.sticky; split <;> simp
@[simp] theorem State.sticky_stamps (w : Nat) (f : Field) (i : Nat) : (s.sticky w f i).stamps = s.stamps := by unfold State.sticky; split <;> simp
@[simp] theorem State.sticky_axes (w : Nat) (f : Field) (i : Nat) : (s.sticky w f i).axes = s.axes := by unfold State.sticky; split <;> simp
@[simp] theorem State.sticky_evp (w : Nat) (f : Field) (i : Nat) : (s.sticky w f i).evp = s.evp := by unfold State.sticky; split <;> simp
@[simp] theorem State.sticky_upd (w : Nat) (f : Field) (i : Nat) : (s.sticky w f i).upd = s.upd := by unfold State.sticky; split <;> simp
@[simp] theorem State.sticky_drk (w : Nat) (f : Field) (i : Nat) : (s.sticky w f i).drk = s.drk := by unfold State.sticky; split <;> simp
@[simp] theorem State.sticky_leg (w : Nat) (f : Field) (i : Nat) : (s.sticky w f i).leg = s.leg := by unfold State.sticky; split <;> simp
@[simp] theorem State.sticky_clk (w : Nat) (f : Field) (i : Nat) : (s.sticky w f i).clk = s.clk := by unfold State.sticky; split <;> simp
@[simp] theorem State.sticky_draws (w : Nat) (f : Field) (i : Nat) : (s.sticky w f i).draws = s.draws := by unfold State.sticky; split <;> simp
@[simp] theorem State.sticky_pending (w : Nat) (f : Field) (i : Nat) : (s.sticky w f i).pending = s.pending := by unfold State.sticky; split <;> simp

theorem State.rd_sticky_other {w w' : Nat} {f g : Field} {i j : Nat} (h : f.key w i ≠ g.key w' j)
    (ht : UNIT_IRQ_PEND.TROUBLE.key w 0 ≠ g.key w' j) : (s.sticky w f i).rd w' g j = s.rd w' g j := by
  unfold State.sticky
  split
  · rfl
  · simp [State.rd_wr_other _ h, State.rd_wr_other _ ht]

theorem State.rd_sticky_ofs {f g : Field} (hf : f.lo < 1024) (hg : g.lo < 1024) (h : f.ofs % 4096 ≠ g.ofs % 4096)
    (ht : UNIT_IRQ_PEND.TROUBLE.ofs % 4096 ≠ g.ofs % 4096) (w w' i j : Nat) : (s.sticky w f i).rd w' g j = s.rd w' g j :=
  s.rd_sticky_other (Field.key_ne_ofs hf hg h w w' i j) (Field.key_ne_ofs (by decide) hg ht w w' 0 j)

/-- A sticky bit reads 1 after it is set; the field is no part of UNIT_IRQ_PEND. -/
theorem State.rd_sticky_same {f : Field} (hf : f.lo < 1024) (hw : 0 < f.width) (ht : UNIT_IRQ_PEND.TROUBLE.ofs % 4096 ≠ f.ofs % 4096) (w i : Nat) :
    (s.sticky w f i).rd w f i = 1 := by
  unfold State.sticky
  split
  · next h => simpa [State.on] using h
  · have h1 : 1 % 2 ^ f.width = 1 := Nat.mod_eq_of_lt (Nat.one_lt_two_pow (by omega))
    rw [State.irqRise_rd, State.rd_wr_ofs _ (by decide) hf ht, State.rd_wr_same, h1]


/-! ## troubleRecord -/

@[simp] theorem State.troubleRecord_wbuf (c w n : Nat) : (s.troubleRecord c w n).wbuf = s.wbuf := by simp [State.troubleRecord]
@[simp] theorem State.troubleRecord_parity (c w n : Nat) : (s.troubleRecord c w n).parity = s.parity := by simp [State.troubleRecord]
@[simp] theorem State.troubleRecord_holds (c w n : Nat) : (s.troubleRecord c w n).holds = s.holds := by simp [State.troubleRecord]
@[simp] theorem State.troubleRecord_fans (c w n : Nat) : (s.troubleRecord c w n).fans = s.fans := by simp [State.troubleRecord]
@[simp] theorem State.troubleRecord_cfg (c w n : Nat) : (s.troubleRecord c w n).cfg = s.cfg := by simp [State.troubleRecord]
@[simp] theorem State.troubleRecord_bench (c w n : Nat) : (s.troubleRecord c w n).bench = s.bench := by simp [State.troubleRecord]
@[simp] theorem State.troubleRecord_fab (c w n : Nat) : (s.troubleRecord c w n).fab = s.fab := by simp [State.troubleRecord]
@[simp] theorem State.troubleRecord_eth (c w n : Nat) : (s.troubleRecord c w n).eth = s.eth := by simp [State.troubleRecord]
@[simp] theorem State.troubleRecord_tbl (c w n : Nat) : (s.troubleRecord c w n).tbl = s.tbl := by simp [State.troubleRecord]
@[simp] theorem State.troubleRecord_ax0 (c w n : Nat) : (s.troubleRecord c w n).ax0 = s.ax0 := by simp [State.troubleRecord]
@[simp] theorem State.troubleRecord_pwr (c w n : Nat) : (s.troubleRecord c w n).pwr = s.pwr := by simp [State.troubleRecord]
@[simp] theorem State.troubleRecord_body (c w n : Nat) : (s.troubleRecord c w n).body = s.body := by simp [State.troubleRecord]
@[simp] theorem State.troubleRecord_can (c w n : Nat) : (s.troubleRecord c w n).can = s.can := by simp [State.troubleRecord]
@[simp] theorem State.troubleRecord_lin (c w n : Nat) : (s.troubleRecord c w n).lin = s.lin := by simp [State.troubleRecord]
@[simp] theorem State.troubleRecord_wake (c w n : Nat) : (s.troubleRecord c w n).wake = s.wake := by simp [State.troubleRecord]
@[simp] theorem State.troubleRecord_guard (c w n : Nat) : (s.troubleRecord c w n).guard = s.guard := by simp [State.troubleRecord]
@[simp] theorem State.troubleRecord_gw (c w n : Nat) : (s.troubleRecord c w n).gw = s.gw := by simp [State.troubleRecord]
@[simp] theorem State.troubleRecord_trust (c w n : Nat) : (s.troubleRecord c w n).trust = s.trust := by simp [State.troubleRecord]
@[simp] theorem State.troubleRecord_stamps (c w n : Nat) : (s.troubleRecord c w n).stamps = s.stamps := by simp [State.troubleRecord]
@[simp] theorem State.troubleRecord_axes (c w n : Nat) : (s.troubleRecord c w n).axes = s.axes := by simp [State.troubleRecord]
@[simp] theorem State.troubleRecord_evp (c w n : Nat) : (s.troubleRecord c w n).evp = s.evp := by simp [State.troubleRecord]
@[simp] theorem State.troubleRecord_upd (c w n : Nat) : (s.troubleRecord c w n).upd = s.upd := by simp [State.troubleRecord]
@[simp] theorem State.troubleRecord_drk (c w n : Nat) : (s.troubleRecord c w n).drk = s.drk := by simp [State.troubleRecord]
@[simp] theorem State.troubleRecord_clk (c w n : Nat) : (s.troubleRecord c w n).clk = s.clk := by simp [State.troubleRecord]
@[simp] theorem State.troubleRecord_draws (c w n : Nat) : (s.troubleRecord c w n).draws = s.draws := by simp [State.troubleRecord]
@[simp] theorem State.troubleRecord_pending (c w n : Nat) : (s.troubleRecord c w n).pending = s.pending := by simp [State.troubleRecord]

/-! ## recordFault -/

@[simp] theorem State.recordFault_wbuf (w c n k : Nat) : (s.recordFault w c n k).wbuf = s.wbuf := by unfold State.recordFault; split <;> simp
@[simp] theorem State.recordFault_parity (w c n k : Nat) : (s.recordFault w c n k).parity = s.parity := by unfold State.recordFault; split <;> simp
@[simp] theorem State.recordFault_holds (w c n k : Nat) : (s.recordFault w c n k).holds = s.holds := by unfold State.recordFault; split <;> simp
@[simp] theorem State.recordFault_fans (w c n k : Nat) : (s.recordFault w c n k).fans = s.fans := by unfold State.recordFault; split <;> simp
@[simp] theorem State.recordFault_cfg (w c n k : Nat) : (s.recordFault w c n k).cfg = s.cfg := by unfold State.recordFault; split <;> simp
@[simp] theorem State.recordFault_bench (w c n k : Nat) : (s.recordFault w c n k).bench = s.bench := by unfold State.recordFault; split <;> simp
@[simp] theorem State.recordFault_fab (w c n k : Nat) : (s.recordFault w c n k).fab = s.fab := by unfold State.recordFault; split <;> simp
@[simp] theorem State.recordFault_eth (w c n k : Nat) : (s.recordFault w c n k).eth = s.eth := by unfold State.recordFault; split <;> simp
@[simp] theorem State.recordFault_tbl (w c n k : Nat) : (s.recordFault w c n k).tbl = s.tbl := by unfold State.recordFault; split <;> simp
@[simp] theorem State.recordFault_ax0 (w c n k : Nat) : (s.recordFault w c n k).ax0 = s.ax0 := by unfold State.recordFault; split <;> simp
@[simp] theorem State.recordFault_pwr (w c n k : Nat) : (s.recordFault w c n k).pwr = s.pwr := by unfold State.recordFault; split <;> simp
@[simp] theorem State.recordFault_body (w c n k : Nat) : (s.recordFault w c n k).body = s.body := by unfold State.recordFault; split <;> simp
@[simp] theorem State.recordFault_can (w c n k : Nat) : (s.recordFault w c n k).can = s.can := by unfold State.recordFault; split <;> simp
@[simp] theorem State.recordFault_lin (w c n k : Nat) : (s.recordFault w c n k).lin = s.lin := by unfold State.recordFault; split <;> simp
@[simp] theorem State.recordFault_wake (w c n k : Nat) : (s.recordFault w c n k).wake = s.wake := by unfold State.recordFault; split <;> simp
@[simp] theorem State.recordFault_guard (w c n k : Nat) : (s.recordFault w c n k).guard = s.guard := by unfold State.recordFault; split <;> simp
@[simp] theorem State.recordFault_gw (w c n k : Nat) : (s.recordFault w c n k).gw = s.gw := by unfold State.recordFault; split <;> simp
@[simp] theorem State.recordFault_trust (w c n k : Nat) : (s.recordFault w c n k).trust = s.trust := by unfold State.recordFault; split <;> simp
@[simp] theorem State.recordFault_stamps (w c n k : Nat) : (s.recordFault w c n k).stamps = s.stamps := by unfold State.recordFault; split <;> simp
@[simp] theorem State.recordFault_axes (w c n k : Nat) : (s.recordFault w c n k).axes = s.axes := by unfold State.recordFault; split <;> simp
@[simp] theorem State.recordFault_evp (w c n k : Nat) : (s.recordFault w c n k).evp = s.evp := by unfold State.recordFault; split <;> simp
@[simp] theorem State.recordFault_upd (w c n k : Nat) : (s.recordFault w c n k).upd = s.upd := by unfold State.recordFault; split <;> simp
@[simp] theorem State.recordFault_drk (w c n k : Nat) : (s.recordFault w c n k).drk = s.drk := by unfold State.recordFault; split <;> simp
@[simp] theorem State.recordFault_clk (w c n k : Nat) : (s.recordFault w c n k).clk = s.clk := by unfold State.recordFault; split <;> simp
@[simp] theorem State.recordFault_draws (w c n k : Nat) : (s.recordFault w c n k).draws = s.draws := by unfold State.recordFault; split <;> simp
@[simp] theorem State.recordFault_pending (w c n k : Nat) : (s.recordFault w c n k).pending = s.pending := by unfold State.recordFault; split <;> simp

/-! ## violate -/

@[simp] theorem State.violate_wbuf (w n : Nat) (k : Kind) (b : Bool) (a d : Nat) : (s.violate w n k b a d).wbuf = s.wbuf := by unfold State.violate; simp only; split <;> simp
@[simp] theorem State.violate_parity (w n : Nat) (k : Kind) (b : Bool) (a d : Nat) : (s.violate w n k b a d).parity = s.parity := by unfold State.violate; simp only; split <;> simp
@[simp] theorem State.violate_holds (w n : Nat) (k : Kind) (b : Bool) (a d : Nat) : (s.violate w n k b a d).holds = s.holds := by unfold State.violate; simp only; split <;> simp
@[simp] theorem State.violate_fans (w n : Nat) (k : Kind) (b : Bool) (a d : Nat) : (s.violate w n k b a d).fans = s.fans := by unfold State.violate; simp only; split <;> simp
@[simp] theorem State.violate_cfg (w n : Nat) (k : Kind) (b : Bool) (a d : Nat) : (s.violate w n k b a d).cfg = s.cfg := by unfold State.violate; simp only; split <;> simp
@[simp] theorem State.violate_bench (w n : Nat) (k : Kind) (b : Bool) (a d : Nat) : (s.violate w n k b a d).bench = s.bench := by unfold State.violate; simp only; split <;> simp
@[simp] theorem State.violate_fab (w n : Nat) (k : Kind) (b : Bool) (a d : Nat) : (s.violate w n k b a d).fab = s.fab := by unfold State.violate; simp only; split <;> simp
@[simp] theorem State.violate_eth (w n : Nat) (k : Kind) (b : Bool) (a d : Nat) : (s.violate w n k b a d).eth = s.eth := by unfold State.violate; simp only; split <;> simp
@[simp] theorem State.violate_tbl (w n : Nat) (k : Kind) (b : Bool) (a d : Nat) : (s.violate w n k b a d).tbl = s.tbl := by unfold State.violate; simp only; split <;> simp
@[simp] theorem State.violate_ax0 (w n : Nat) (k : Kind) (b : Bool) (a d : Nat) : (s.violate w n k b a d).ax0 = s.ax0 := by unfold State.violate; simp only; split <;> simp
@[simp] theorem State.violate_pwr (w n : Nat) (k : Kind) (b : Bool) (a d : Nat) : (s.violate w n k b a d).pwr = s.pwr := by unfold State.violate; simp only; split <;> simp
@[simp] theorem State.violate_body (w n : Nat) (k : Kind) (b : Bool) (a d : Nat) : (s.violate w n k b a d).body = s.body := by unfold State.violate; simp only; split <;> simp
@[simp] theorem State.violate_can (w n : Nat) (k : Kind) (b : Bool) (a d : Nat) : (s.violate w n k b a d).can = s.can := by unfold State.violate; simp only; split <;> simp
@[simp] theorem State.violate_lin (w n : Nat) (k : Kind) (b : Bool) (a d : Nat) : (s.violate w n k b a d).lin = s.lin := by unfold State.violate; simp only; split <;> simp
@[simp] theorem State.violate_wake (w n : Nat) (k : Kind) (b : Bool) (a d : Nat) : (s.violate w n k b a d).wake = s.wake := by unfold State.violate; simp only; split <;> simp
@[simp] theorem State.violate_guard (w n : Nat) (k : Kind) (b : Bool) (a d : Nat) : (s.violate w n k b a d).guard = s.guard := by unfold State.violate; simp only; split <;> simp
@[simp] theorem State.violate_gw (w n : Nat) (k : Kind) (b : Bool) (a d : Nat) : (s.violate w n k b a d).gw = s.gw := by unfold State.violate; simp only; split <;> simp
@[simp] theorem State.violate_trust (w n : Nat) (k : Kind) (b : Bool) (a d : Nat) : (s.violate w n k b a d).trust = s.trust := by unfold State.violate; simp only; split <;> simp
@[simp] theorem State.violate_stamps (w n : Nat) (k : Kind) (b : Bool) (a d : Nat) : (s.violate w n k b a d).stamps = s.stamps := by unfold State.violate; simp only; split <;> simp
@[simp] theorem State.violate_axes (w n : Nat) (k : Kind) (b : Bool) (a d : Nat) : (s.violate w n k b a d).axes = s.axes := by unfold State.violate; simp only; split <;> simp
@[simp] theorem State.violate_evp (w n : Nat) (k : Kind) (b : Bool) (a d : Nat) : (s.violate w n k b a d).evp = s.evp := by unfold State.violate; simp only; split <;> simp
@[simp] theorem State.violate_upd (w n : Nat) (k : Kind) (b : Bool) (a d : Nat) : (s.violate w n k b a d).upd = s.upd := by unfold State.violate; simp only; split <;> simp
@[simp] theorem State.violate_drk (w n : Nat) (k : Kind) (b : Bool) (a d : Nat) : (s.violate w n k b a d).drk = s.drk := by unfold State.violate; simp only; split <;> simp
@[simp] theorem State.violate_clk (w n : Nat) (k : Kind) (b : Bool) (a d : Nat) : (s.violate w n k b a d).clk = s.clk := by unfold State.violate; simp only; split <;> simp
@[simp] theorem State.violate_draws (w n : Nat) (k : Kind) (b : Bool) (a d : Nat) : (s.violate w n k b a d).draws = s.draws := by unfold State.violate; simp only; split <;> simp
@[simp] theorem State.violate_pending (w n : Nat) (k : Kind) (b : Bool) (a d : Nat) : (s.violate w n k b a d).pending = s.pending := by unfold State.violate; simp only; split <;> simp

/-! ## leaseRevoked -/

@[simp] theorem State.leaseRevoked_wbuf (w : Nat) : (s.leaseRevoked w).wbuf = s.wbuf := by simp [State.leaseRevoked]
@[simp] theorem State.leaseRevoked_parity (w : Nat) : (s.leaseRevoked w).parity = s.parity := by simp [State.leaseRevoked]
@[simp] theorem State.leaseRevoked_holds (w : Nat) : (s.leaseRevoked w).holds = s.holds := by simp [State.leaseRevoked]
@[simp] theorem State.leaseRevoked_fans (w : Nat) : (s.leaseRevoked w).fans = s.fans := by simp [State.leaseRevoked]
@[simp] theorem State.leaseRevoked_cfg (w : Nat) : (s.leaseRevoked w).cfg = s.cfg := by simp [State.leaseRevoked]
@[simp] theorem State.leaseRevoked_bench (w : Nat) : (s.leaseRevoked w).bench = s.bench := by simp [State.leaseRevoked]
@[simp] theorem State.leaseRevoked_fab (w : Nat) : (s.leaseRevoked w).fab = s.fab := by simp [State.leaseRevoked]
@[simp] theorem State.leaseRevoked_eth (w : Nat) : (s.leaseRevoked w).eth = s.eth := by simp [State.leaseRevoked]
@[simp] theorem State.leaseRevoked_tbl (w : Nat) : (s.leaseRevoked w).tbl = s.tbl := by simp [State.leaseRevoked]
@[simp] theorem State.leaseRevoked_ax0 (w : Nat) : (s.leaseRevoked w).ax0 = s.ax0 := by simp [State.leaseRevoked]
@[simp] theorem State.leaseRevoked_pwr (w : Nat) : (s.leaseRevoked w).pwr = s.pwr := by simp [State.leaseRevoked]
@[simp] theorem State.leaseRevoked_body (w : Nat) : (s.leaseRevoked w).body = s.body := by simp [State.leaseRevoked]
@[simp] theorem State.leaseRevoked_can (w : Nat) : (s.leaseRevoked w).can = s.can := by simp [State.leaseRevoked]
@[simp] theorem State.leaseRevoked_lin (w : Nat) : (s.leaseRevoked w).lin = s.lin := by simp [State.leaseRevoked]
@[simp] theorem State.leaseRevoked_wake (w : Nat) : (s.leaseRevoked w).wake = s.wake := by simp [State.leaseRevoked]
@[simp] theorem State.leaseRevoked_guard (w : Nat) : (s.leaseRevoked w).guard = s.guard := by simp [State.leaseRevoked]
@[simp] theorem State.leaseRevoked_gw (w : Nat) : (s.leaseRevoked w).gw = s.gw := by simp [State.leaseRevoked]
@[simp] theorem State.leaseRevoked_trust (w : Nat) : (s.leaseRevoked w).trust = s.trust := by simp [State.leaseRevoked]
@[simp] theorem State.leaseRevoked_stamps (w : Nat) : (s.leaseRevoked w).stamps = s.stamps := by simp [State.leaseRevoked]
@[simp] theorem State.leaseRevoked_axes (w : Nat) : (s.leaseRevoked w).axes = s.axes := by simp [State.leaseRevoked]
@[simp] theorem State.leaseRevoked_evp (w : Nat) : (s.leaseRevoked w).evp = s.evp := by simp [State.leaseRevoked]
@[simp] theorem State.leaseRevoked_upd (w : Nat) : (s.leaseRevoked w).upd = s.upd := by simp [State.leaseRevoked]
@[simp] theorem State.leaseRevoked_drk (w : Nat) : (s.leaseRevoked w).drk = s.drk := by simp [State.leaseRevoked]
@[simp] theorem State.leaseRevoked_clk (w : Nat) : (s.leaseRevoked w).clk = s.clk := by simp [State.leaseRevoked]
@[simp] theorem State.leaseRevoked_draws (w : Nat) : (s.leaseRevoked w).draws = s.draws := by simp [State.leaseRevoked]
@[simp] theorem State.leaseRevoked_pending (w : Nat) : (s.leaseRevoked w).pending = s.pending := by simp [State.leaseRevoked]

/-! ## spoil -/

@[simp] theorem State.spoil_wbuf (w : Nat) (d : Disp) (r : Nat) (k : Item) (a b : Nat) : (s.spoil w d r k a b).wbuf = s.wbuf := by unfold State.spoil; split; rfl; simp only; split <;> split <;> simp
@[simp] theorem State.spoil_parity (w : Nat) (d : Disp) (r : Nat) (k : Item) (a b : Nat) : (s.spoil w d r k a b).parity = s.parity := by unfold State.spoil; split; rfl; simp only; split <;> split <;> simp
@[simp] theorem State.spoil_holds (w : Nat) (d : Disp) (r : Nat) (k : Item) (a b : Nat) : (s.spoil w d r k a b).holds = s.holds := by unfold State.spoil; split; rfl; simp only; split <;> split <;> simp
@[simp] theorem State.spoil_fans (w : Nat) (d : Disp) (r : Nat) (k : Item) (a b : Nat) : (s.spoil w d r k a b).fans = s.fans := by unfold State.spoil; split; rfl; simp only; split <;> split <;> simp
@[simp] theorem State.spoil_cfg (w : Nat) (d : Disp) (r : Nat) (k : Item) (a b : Nat) : (s.spoil w d r k a b).cfg = s.cfg := by unfold State.spoil; split; rfl; simp only; split <;> split <;> simp
@[simp] theorem State.spoil_bench (w : Nat) (d : Disp) (r : Nat) (k : Item) (a b : Nat) : (s.spoil w d r k a b).bench = s.bench := by unfold State.spoil; split; rfl; simp only; split <;> split <;> simp
@[simp] theorem State.spoil_fab (w : Nat) (d : Disp) (r : Nat) (k : Item) (a b : Nat) : (s.spoil w d r k a b).fab = s.fab := by unfold State.spoil; split; rfl; simp only; split <;> split <;> simp
@[simp] theorem State.spoil_eth (w : Nat) (d : Disp) (r : Nat) (k : Item) (a b : Nat) : (s.spoil w d r k a b).eth = s.eth := by unfold State.spoil; split; rfl; simp only; split <;> split <;> simp
@[simp] theorem State.spoil_tbl (w : Nat) (d : Disp) (r : Nat) (k : Item) (a b : Nat) : (s.spoil w d r k a b).tbl = s.tbl := by unfold State.spoil; split; rfl; simp only; split <;> split <;> simp
@[simp] theorem State.spoil_ax0 (w : Nat) (d : Disp) (r : Nat) (k : Item) (a b : Nat) : (s.spoil w d r k a b).ax0 = s.ax0 := by unfold State.spoil; split; rfl; simp only; split <;> split <;> simp
@[simp] theorem State.spoil_pwr (w : Nat) (d : Disp) (r : Nat) (k : Item) (a b : Nat) : (s.spoil w d r k a b).pwr = s.pwr := by unfold State.spoil; split; rfl; simp only; split <;> split <;> simp
@[simp] theorem State.spoil_body (w : Nat) (d : Disp) (r : Nat) (k : Item) (a b : Nat) : (s.spoil w d r k a b).body = s.body := by unfold State.spoil; split; rfl; simp only; split <;> split <;> simp
@[simp] theorem State.spoil_can (w : Nat) (d : Disp) (r : Nat) (k : Item) (a b : Nat) : (s.spoil w d r k a b).can = s.can := by unfold State.spoil; split; rfl; simp only; split <;> split <;> simp
@[simp] theorem State.spoil_lin (w : Nat) (d : Disp) (r : Nat) (k : Item) (a b : Nat) : (s.spoil w d r k a b).lin = s.lin := by unfold State.spoil; split; rfl; simp only; split <;> split <;> simp
@[simp] theorem State.spoil_wake (w : Nat) (d : Disp) (r : Nat) (k : Item) (a b : Nat) : (s.spoil w d r k a b).wake = s.wake := by unfold State.spoil; split; rfl; simp only; split <;> split <;> simp
@[simp] theorem State.spoil_guard (w : Nat) (d : Disp) (r : Nat) (k : Item) (a b : Nat) : (s.spoil w d r k a b).guard = s.guard := by unfold State.spoil; split; rfl; simp only; split <;> split <;> simp
@[simp] theorem State.spoil_gw (w : Nat) (d : Disp) (r : Nat) (k : Item) (a b : Nat) : (s.spoil w d r k a b).gw = s.gw := by unfold State.spoil; split; rfl; simp only; split <;> split <;> simp
@[simp] theorem State.spoil_trust (w : Nat) (d : Disp) (r : Nat) (k : Item) (a b : Nat) : (s.spoil w d r k a b).trust = s.trust := by unfold State.spoil; split; rfl; simp only; split <;> split <;> simp
@[simp] theorem State.spoil_stamps (w : Nat) (d : Disp) (r : Nat) (k : Item) (a b : Nat) : (s.spoil w d r k a b).stamps = s.stamps := by unfold State.spoil; split; rfl; simp only; split <;> split <;> simp
@[simp] theorem State.spoil_axes (w : Nat) (d : Disp) (r : Nat) (k : Item) (a b : Nat) : (s.spoil w d r k a b).axes = s.axes := by unfold State.spoil; split; rfl; simp only; split <;> split <;> simp
@[simp] theorem State.spoil_evp (w : Nat) (d : Disp) (r : Nat) (k : Item) (a b : Nat) : (s.spoil w d r k a b).evp = s.evp := by unfold State.spoil; split; rfl; simp only; split <;> split <;> simp
@[simp] theorem State.spoil_upd (w : Nat) (d : Disp) (r : Nat) (k : Item) (a b : Nat) : (s.spoil w d r k a b).upd = s.upd := by unfold State.spoil; split; rfl; simp only; split <;> split <;> simp
@[simp] theorem State.spoil_drk (w : Nat) (d : Disp) (r : Nat) (k : Item) (a b : Nat) : (s.spoil w d r k a b).drk = s.drk := by unfold State.spoil; split; rfl; simp only; split <;> split <;> simp
@[simp] theorem State.spoil_clk (w : Nat) (d : Disp) (r : Nat) (k : Item) (a b : Nat) : (s.spoil w d r k a b).clk = s.clk := by unfold State.spoil; split; rfl; simp only; split <;> split <;> simp
@[simp] theorem State.spoil_draws (w : Nat) (d : Disp) (r : Nat) (k : Item) (a b : Nat) : (s.spoil w d r k a b).draws = s.draws := by unfold State.spoil; split; rfl; simp only; split <;> split <;> simp
@[simp] theorem State.spoil_pending (w : Nat) (d : Disp) (r : Nat) (k : Item) (a b : Nat) : (s.spoil w d r k a b).pending = s.pending := by unfold State.spoil; split; rfl; simp only; split <;> split <;> simp

/-! ## endOther -/

@[simp] theorem State.endOther_wbuf (w : Nat) (d : Disp) (r : Nat) (k : Item) (a b : Nat) : (s.endOther w d r k a b).wbuf = s.wbuf := by cases d <;> simp [State.endOther]
@[simp] theorem State.endOther_parity (w : Nat) (d : Disp) (r : Nat) (k : Item) (a b : Nat) : (s.endOther w d r k a b).parity = s.parity := by cases d <;> simp [State.endOther]
@[simp] theorem State.endOther_holds (w : Nat) (d : Disp) (r : Nat) (k : Item) (a b : Nat) : (s.endOther w d r k a b).holds = s.holds := by cases d <;> simp [State.endOther]
@[simp] theorem State.endOther_fans (w : Nat) (d : Disp) (r : Nat) (k : Item) (a b : Nat) : (s.endOther w d r k a b).fans = s.fans := by cases d <;> simp [State.endOther]
@[simp] theorem State.endOther_cfg (w : Nat) (d : Disp) (r : Nat) (k : Item) (a b : Nat) : (s.endOther w d r k a b).cfg = s.cfg := by cases d <;> simp [State.endOther]
@[simp] theorem State.endOther_bench (w : Nat) (d : Disp) (r : Nat) (k : Item) (a b : Nat) : (s.endOther w d r k a b).bench = s.bench := by cases d <;> simp [State.endOther]
@[simp] theorem State.endOther_fab (w : Nat) (d : Disp) (r : Nat) (k : Item) (a b : Nat) : (s.endOther w d r k a b).fab = s.fab := by cases d <;> simp [State.endOther]
@[simp] theorem State.endOther_eth (w : Nat) (d : Disp) (r : Nat) (k : Item) (a b : Nat) : (s.endOther w d r k a b).eth = s.eth := by cases d <;> simp [State.endOther]
@[simp] theorem State.endOther_tbl (w : Nat) (d : Disp) (r : Nat) (k : Item) (a b : Nat) : (s.endOther w d r k a b).tbl = s.tbl := by cases d <;> simp [State.endOther]
@[simp] theorem State.endOther_ax0 (w : Nat) (d : Disp) (r : Nat) (k : Item) (a b : Nat) : (s.endOther w d r k a b).ax0 = s.ax0 := by cases d <;> simp [State.endOther]
@[simp] theorem State.endOther_pwr (w : Nat) (d : Disp) (r : Nat) (k : Item) (a b : Nat) : (s.endOther w d r k a b).pwr = s.pwr := by cases d <;> simp [State.endOther]
@[simp] theorem State.endOther_body (w : Nat) (d : Disp) (r : Nat) (k : Item) (a b : Nat) : (s.endOther w d r k a b).body = s.body := by cases d <;> simp [State.endOther]
@[simp] theorem State.endOther_can (w : Nat) (d : Disp) (r : Nat) (k : Item) (a b : Nat) : (s.endOther w d r k a b).can = s.can := by cases d <;> simp [State.endOther]
@[simp] theorem State.endOther_lin (w : Nat) (d : Disp) (r : Nat) (k : Item) (a b : Nat) : (s.endOther w d r k a b).lin = s.lin := by cases d <;> simp [State.endOther]
@[simp] theorem State.endOther_wake (w : Nat) (d : Disp) (r : Nat) (k : Item) (a b : Nat) : (s.endOther w d r k a b).wake = s.wake := by cases d <;> simp [State.endOther]
@[simp] theorem State.endOther_guard (w : Nat) (d : Disp) (r : Nat) (k : Item) (a b : Nat) : (s.endOther w d r k a b).guard = s.guard := by cases d <;> simp [State.endOther]
@[simp] theorem State.endOther_gw (w : Nat) (d : Disp) (r : Nat) (k : Item) (a b : Nat) : (s.endOther w d r k a b).gw = s.gw := by cases d <;> simp [State.endOther]
@[simp] theorem State.endOther_trust (w : Nat) (d : Disp) (r : Nat) (k : Item) (a b : Nat) : (s.endOther w d r k a b).trust = s.trust := by cases d <;> simp [State.endOther]
@[simp] theorem State.endOther_stamps (w : Nat) (d : Disp) (r : Nat) (k : Item) (a b : Nat) : (s.endOther w d r k a b).stamps = s.stamps := by cases d <;> simp [State.endOther]
@[simp] theorem State.endOther_axes (w : Nat) (d : Disp) (r : Nat) (k : Item) (a b : Nat) : (s.endOther w d r k a b).axes = s.axes := by cases d <;> simp [State.endOther]
@[simp] theorem State.endOther_evp (w : Nat) (d : Disp) (r : Nat) (k : Item) (a b : Nat) : (s.endOther w d r k a b).evp = s.evp := by cases d <;> simp [State.endOther]
@[simp] theorem State.endOther_upd (w : Nat) (d : Disp) (r : Nat) (k : Item) (a b : Nat) : (s.endOther w d r k a b).upd = s.upd := by cases d <;> simp [State.endOther]
@[simp] theorem State.endOther_drk (w : Nat) (d : Disp) (r : Nat) (k : Item) (a b : Nat) : (s.endOther w d r k a b).drk = s.drk := by cases d <;> simp [State.endOther]
@[simp] theorem State.endOther_clk (w : Nat) (d : Disp) (r : Nat) (k : Item) (a b : Nat) : (s.endOther w d r k a b).clk = s.clk := by cases d <;> simp [State.endOther]
@[simp] theorem State.endOther_draws (w : Nat) (d : Disp) (r : Nat) (k : Item) (a b : Nat) : (s.endOther w d r k a b).draws = s.draws := by cases d <;> simp [State.endOther]
@[simp] theorem State.endOther_pending (w : Nat) (d : Disp) (r : Nat) (k : Item) (a b : Nat) : (s.endOther w d r k a b).pending = s.pending := by cases d <;> simp [State.endOther]

/-! ## endFrame -/

@[simp] theorem State.endFrame_wbuf (w : Nat) (d : Disp) (r : Nat) (k : Bool) (a b : Nat) : (s.endFrame w d r k a b).wbuf = s.wbuf := by cases d <;> simp [State.endFrame]
@[simp] theorem State.endFrame_parity (w : Nat) (d : Disp) (r : Nat) (k : Bool) (a b : Nat) : (s.endFrame w d r k a b).parity = s.parity := by cases d <;> simp [State.endFrame]
@[simp] theorem State.endFrame_holds (w : Nat) (d : Disp) (r : Nat) (k : Bool) (a b : Nat) : (s.endFrame w d r k a b).holds = s.holds := by cases d <;> simp [State.endFrame]
@[simp] theorem State.endFrame_fans (w : Nat) (d : Disp) (r : Nat) (k : Bool) (a b : Nat) : (s.endFrame w d r k a b).fans = s.fans := by cases d <;> simp [State.endFrame]
@[simp] theorem State.endFrame_cfg (w : Nat) (d : Disp) (r : Nat) (k : Bool) (a b : Nat) : (s.endFrame w d r k a b).cfg = s.cfg := by cases d <;> simp [State.endFrame]
@[simp] theorem State.endFrame_bench (w : Nat) (d : Disp) (r : Nat) (k : Bool) (a b : Nat) : (s.endFrame w d r k a b).bench = s.bench := by cases d <;> simp [State.endFrame]
@[simp] theorem State.endFrame_fab (w : Nat) (d : Disp) (r : Nat) (k : Bool) (a b : Nat) : (s.endFrame w d r k a b).fab = s.fab := by cases d <;> simp [State.endFrame]
@[simp] theorem State.endFrame_eth (w : Nat) (d : Disp) (r : Nat) (k : Bool) (a b : Nat) : (s.endFrame w d r k a b).eth = s.eth := by cases d <;> simp [State.endFrame]
@[simp] theorem State.endFrame_tbl (w : Nat) (d : Disp) (r : Nat) (k : Bool) (a b : Nat) : (s.endFrame w d r k a b).tbl = s.tbl := by cases d <;> simp [State.endFrame]
@[simp] theorem State.endFrame_ax0 (w : Nat) (d : Disp) (r : Nat) (k : Bool) (a b : Nat) : (s.endFrame w d r k a b).ax0 = s.ax0 := by cases d <;> simp [State.endFrame]
@[simp] theorem State.endFrame_pwr (w : Nat) (d : Disp) (r : Nat) (k : Bool) (a b : Nat) : (s.endFrame w d r k a b).pwr = s.pwr := by cases d <;> simp [State.endFrame]
@[simp] theorem State.endFrame_body (w : Nat) (d : Disp) (r : Nat) (k : Bool) (a b : Nat) : (s.endFrame w d r k a b).body = s.body := by cases d <;> simp [State.endFrame]
@[simp] theorem State.endFrame_can (w : Nat) (d : Disp) (r : Nat) (k : Bool) (a b : Nat) : (s.endFrame w d r k a b).can = s.can := by cases d <;> simp [State.endFrame]
@[simp] theorem State.endFrame_lin (w : Nat) (d : Disp) (r : Nat) (k : Bool) (a b : Nat) : (s.endFrame w d r k a b).lin = s.lin := by cases d <;> simp [State.endFrame]
@[simp] theorem State.endFrame_wake (w : Nat) (d : Disp) (r : Nat) (k : Bool) (a b : Nat) : (s.endFrame w d r k a b).wake = s.wake := by cases d <;> simp [State.endFrame]
@[simp] theorem State.endFrame_guard (w : Nat) (d : Disp) (r : Nat) (k : Bool) (a b : Nat) : (s.endFrame w d r k a b).guard = s.guard := by cases d <;> simp [State.endFrame]
@[simp] theorem State.endFrame_gw (w : Nat) (d : Disp) (r : Nat) (k : Bool) (a b : Nat) : (s.endFrame w d r k a b).gw = s.gw := by cases d <;> simp [State.endFrame]
@[simp] theorem State.endFrame_trust (w : Nat) (d : Disp) (r : Nat) (k : Bool) (a b : Nat) : (s.endFrame w d r k a b).trust = s.trust := by cases d <;> simp [State.endFrame]
@[simp] theorem State.endFrame_stamps (w : Nat) (d : Disp) (r : Nat) (k : Bool) (a b : Nat) : (s.endFrame w d r k a b).stamps = s.stamps := by cases d <;> simp [State.endFrame]
@[simp] theorem State.endFrame_axes (w : Nat) (d : Disp) (r : Nat) (k : Bool) (a b : Nat) : (s.endFrame w d r k a b).axes = s.axes := by cases d <;> simp [State.endFrame]
@[simp] theorem State.endFrame_evp (w : Nat) (d : Disp) (r : Nat) (k : Bool) (a b : Nat) : (s.endFrame w d r k a b).evp = s.evp := by cases d <;> simp [State.endFrame]
@[simp] theorem State.endFrame_upd (w : Nat) (d : Disp) (r : Nat) (k : Bool) (a b : Nat) : (s.endFrame w d r k a b).upd = s.upd := by cases d <;> simp [State.endFrame]
@[simp] theorem State.endFrame_drk (w : Nat) (d : Disp) (r : Nat) (k : Bool) (a b : Nat) : (s.endFrame w d r k a b).drk = s.drk := by cases d <;> simp [State.endFrame]
@[simp] theorem State.endFrame_clk (w : Nat) (d : Disp) (r : Nat) (k : Bool) (a b : Nat) : (s.endFrame w d r k a b).clk = s.clk := by cases d <;> simp [State.endFrame]
@[simp] theorem State.endFrame_draws (w : Nat) (d : Disp) (r : Nat) (k : Bool) (a b : Nat) : (s.endFrame w d r k a b).draws = s.draws := by cases d <;> simp [State.endFrame]
@[simp] theorem State.endFrame_pending (w : Nat) (d : Disp) (r : Nat) (k : Bool) (a b : Nat) : (s.endFrame w d r k a b).pending = s.pending := by cases d <;> simp [State.endFrame]

/-! ## endAccess -/

@[simp] theorem State.endAccess_wbuf (n : Nat) : (s.endAccess n).wbuf = s.wbuf := by unfold State.endAccess; split <;> simp
@[simp] theorem State.endAccess_parity (n : Nat) : (s.endAccess n).parity = s.parity := by unfold State.endAccess; split <;> simp
@[simp] theorem State.endAccess_holds (n : Nat) : (s.endAccess n).holds = s.holds := by unfold State.endAccess; split <;> simp
@[simp] theorem State.endAccess_fans (n : Nat) : (s.endAccess n).fans = s.fans := by unfold State.endAccess; split <;> simp
@[simp] theorem State.endAccess_cfg (n : Nat) : (s.endAccess n).cfg = s.cfg := by unfold State.endAccess; split <;> simp
@[simp] theorem State.endAccess_bench (n : Nat) : (s.endAccess n).bench = s.bench := by unfold State.endAccess; split <;> simp
@[simp] theorem State.endAccess_fab (n : Nat) : (s.endAccess n).fab = s.fab := by unfold State.endAccess; split <;> simp
@[simp] theorem State.endAccess_eth (n : Nat) : (s.endAccess n).eth = s.eth := by unfold State.endAccess; split <;> simp
@[simp] theorem State.endAccess_tbl (n : Nat) : (s.endAccess n).tbl = s.tbl := by unfold State.endAccess; split <;> simp
@[simp] theorem State.endAccess_ax0 (n : Nat) : (s.endAccess n).ax0 = s.ax0 := by unfold State.endAccess; split <;> simp
@[simp] theorem State.endAccess_pwr (n : Nat) : (s.endAccess n).pwr = s.pwr := by unfold State.endAccess; split <;> simp
@[simp] theorem State.endAccess_body (n : Nat) : (s.endAccess n).body = s.body := by unfold State.endAccess; split <;> simp
@[simp] theorem State.endAccess_can (n : Nat) : (s.endAccess n).can = s.can := by unfold State.endAccess; split <;> simp
@[simp] theorem State.endAccess_lin (n : Nat) : (s.endAccess n).lin = s.lin := by unfold State.endAccess; split <;> simp
@[simp] theorem State.endAccess_wake (n : Nat) : (s.endAccess n).wake = s.wake := by unfold State.endAccess; split <;> simp
@[simp] theorem State.endAccess_guard (n : Nat) : (s.endAccess n).guard = s.guard := by unfold State.endAccess; split <;> simp
@[simp] theorem State.endAccess_gw (n : Nat) : (s.endAccess n).gw = s.gw := by unfold State.endAccess; split <;> simp
@[simp] theorem State.endAccess_trust (n : Nat) : (s.endAccess n).trust = s.trust := by unfold State.endAccess; split <;> simp
@[simp] theorem State.endAccess_stamps (n : Nat) : (s.endAccess n).stamps = s.stamps := by unfold State.endAccess; split <;> simp
@[simp] theorem State.endAccess_axes (n : Nat) : (s.endAccess n).axes = s.axes := by unfold State.endAccess; split <;> simp
@[simp] theorem State.endAccess_evp (n : Nat) : (s.endAccess n).evp = s.evp := by unfold State.endAccess; split <;> simp
@[simp] theorem State.endAccess_upd (n : Nat) : (s.endAccess n).upd = s.upd := by unfold State.endAccess; split <;> simp
@[simp] theorem State.endAccess_drk (n : Nat) : (s.endAccess n).drk = s.drk := by unfold State.endAccess; split <;> simp
@[simp] theorem State.endAccess_clk (n : Nat) : (s.endAccess n).clk = s.clk := by unfold State.endAccess; split <;> simp
@[simp] theorem State.endAccess_draws (n : Nat) : (s.endAccess n).draws = s.draws := by unfold State.endAccess; split <;> simp
@[simp] theorem State.endAccess_pending (n : Nat) : (s.endAccess n).pending = s.pending := by unfold State.endAccess; split <;> simp

/-! ## The logs -/

theorem length_kept {α : Type} (l : List α) (r : α) (n : Nat) (h : l.length ≤ n) :
    (if n < (l ++ [r]).length then (l ++ [r]).drop 1 else l ++ [r]).length ≤ n := by
  split <;> simp_all

/-- The trouble log grows by one record and keeps the newest 64 (R453). -/
theorem State.troubleRecord_trouble (c w n : Nat) (h : s.flt.trouble.length ≤ 64) :
    (s.troubleRecord c w n).flt.trouble.length ≤ 64 := by
  unfold State.troubleRecord
  simp only [State.event_flt, State.setFlt_flt]
  exact length_kept _ _ _ h

/-- A record joins the log wherever it stands among those of its cycle (R457). -/
@[simp] theorem spoilIn_length (r : Nat) (l : List Nat) : (spoilIn r l).length = l.length + 1 := by
  induction l with
  | nil => rfl
  | cons x l ih => unfold spoilIn; split <;> simp [ih]

/-- The Spoil log grows by one record and keeps the newest 1,024 (R457). -/
theorem State.spoil_length (w : Nat) (d : Disp) (r : Nat) (k : Item) (a b : Nat) (h : s.flt.spoil.length ≤ 1024) :
    (s.spoil w d r k a b).flt.spoil.length ≤ 1024 := by
  unfold State.spoil
  split
  · exact h
  · simp only
    split <;> split <;> simp <;> omega

/-! ## Writes -/

/-- A write that nothing of the common checks stops is decided by the card's own refusals. -/
theorem State.cmdWrite_open {init w ofs : Nat} (hg : s.reaches init = true) (hi : s.writeIgnored w ofs = false)
    (hk : s.commonKinds init w ofs = []) (data : Nat) (kinds : List Kind) (f : State → State) :
    s.cmdWrite init w ofs data kinds f = match firstKind kinds with
      | some k => (s.violate w init k true (w * 4096 + ofs) data).endAccess init
      | none => f (s.freshParity w ofs) := by
  simp only [State.cmdWrite, hg, hi, hk, List.nil_append, Bool.not_true, Bool.or_self, Bool.false_eq_true, if_false]
  all_goals cases firstKind kinds <;> rfl

/-- An ignored write changes nothing (R38, R39). -/
theorem State.cmdWrite_ignored {w ofs : Nat} (hi : s.writeIgnored w ofs = true) (init data : Nat) (kinds : List Kind) (f : State → State) :
    s.cmdWrite init w ofs data kinds f = s := by
  simp [State.cmdWrite, hi]

theorem State.each_pres {α β : Type} (p : State → β) (f : State → α → State) (h : ∀ t x, p (f t x) = p t) (l : List α) :
    p (s.each l f) = p s := by
  unfold State.each
  induction l generalizing s with
  | nil => rfl
  | cons a r ih => simp [ih, h]

theorem State.when_pres {β : Type} (p : State → β) (c : Bool) (f : State → State) (h : ∀ t, p (f t) = p t) :
    p (s.when c f) = p s := by
  unfold State.when; split <;> simp [h]

end Sys2Proof.Machine
end

