-- ==== Sys2Proof/Laws/Keeps.lean ====
section
/-! SUPPORT. A relation between two states that composes: the queue of waiting commands is the same, the canonical form is kept, and
at most the parts of a bit mask differ. One lemma of this form for each operation says what it can change. -/

namespace Sys2Proof.Machine

/-- The bit of a part in a mask. -/
def Part.code : Part → Nat

  | .regs => 0
  | .wbuf => 1
  | .holds => 2
  | .fans => 3
  | .host => 4
  | .cfg => 5
  | .bench => 6
  | .fab => 7
  | .eth => 8
  | .tbl => 9
  | .flt => 10
  | .ax0 => 11
  | .pins => 12
  | .pwr => 13
  | .body => 14
  | .can => 15
  | .lin => 16
  | .wake => 17
  | .guard => 18
  | .gw => 19
  | .trust => 20
  | .stamps => 21
  | .axes => 22
  | .evp => 23
  | .upd => 24
  | .drk => 25
  | .leg => 26
  | .clk => 27
  | .draws => 28
  | .outs => 29
  | .irq => 30

/-- From s to t the queue stays, the canonical form is kept, and no part outside the mask T differs. -/
def Keeps (T : Nat) (s t : State) : Prop :=
  t.pending = s.pending ∧ (Canon s → Canon t) ∧ ∀ p : Part, T.testBit p.code = false → sameIn s t p

theorem sameIn.refl (s : State) (p : Part) : sameIn s s p := by cases p <;> simp [sameIn]

theorem sameIn.trans {a b c : State} {p : Part} (h : sameIn a b p) (k : sameIn b c p) : sameIn a c p := by
  cases p <;> simp only [sameIn] at h k ⊢ <;> simp [h, k]

theorem Keeps.refl (T : Nat) (s : State) : Keeps T s s := ⟨rfl, id, fun p _ => sameIn.refl s p⟩

theorem Keeps.step {m T : Nat} {a b c : State} (h : Keeps m b c) (hm : m &&& T = m) (hb : Keeps T a b) : Keeps T a c := by
  refine ⟨h.1.trans hb.1, fun hc => h.2.1 (hb.2.1 hc), fun p hp => (hb.2.2 p hp).trans (h.2.2 p ?_)⟩
  rw [← hm, Nat.testBit_and, hp, Bool.and_false]

theorem canon_like_reset {s : State} (h1 : s.regs = []) (h2 : s.wbuf = []) (h3 : s.holds = []) (h4 : s.axes = []) (h5 : s.flt = FaultSt.reset) :
    Canon s := by
  unfold Canon
  rw [h1, h2, h3, h4, h5]
  exact ⟨rfl, rfl, rfl, rfl, Nat.zero_le _, Nat.zero_le _, Nat.two_pow_pos 32⟩

theorem Keeps.ite {T : Nat} {a b c : State} {p : Prop} [Decidable p] (hb : Keeps T a b) (hc : Keeps T a c) :
    Keeps T a (if p then b else c) := by split <;> assumption

theorem Keeps.cond {T : Nat} {a b c : State} (p : Bool) (hb : Keeps T a b) (hc : Keeps T a c) :
    Keeps T a (bif p then b else c) := by cases p <;> assumption

theorem Keeps.each {α : Type} {T : Nat} {a b : State} {l : List α} {f : State → α → State} (hb : Keeps T a b)
    (hf : ∀ t x, Keeps T a t → Keeps T a (f t x)) : Keeps T a (b.each l f) := by
  unfold State.each
  induction l generalizing b with
  | nil => exact hb
  | cons x r ih => exact ih (hf b x hb)

theorem Keeps.foldl {α : Type} {T : Nat} {a b : State} {l : List α} {f : State → α → State} (hb : Keeps T a b)
    (hf : ∀ t x, Keeps T a t → Keeps T a (f t x)) : Keeps T a (l.foldl f b) := Keeps.each (l := l) hb hf

theorem Keeps.when {T : Nat} {a b : State} {c : Bool} {f : State → State} (hb : Keeps T a b)
    (hf : ∀ t, Keeps T a t → Keeps T a (f t)) : Keeps T a (b.when c f) := by
  unfold State.when; split
  · exact hf b hb
  · exact hb

theorem Keeps.iter {T : Nat} {a b : State} {f : State → State} (n : Nat) (hb : Keeps T a b)
    (hf : ∀ t, Keeps T a t → Keeps T a (f t)) : Keeps T a (Machine.iter f n b) := by
  induction n generalizing b with
  | zero => exact hb
  | succ n ih => exact ih (hf b hb)

/-! For the other types that an operation may answer. -/

def KeepsP {β : Type} (T : Nat) (a : State) (p : State × β) : Prop := Keeps T a p.1
def KeepsQ {β : Type} (T : Nat) (a : State) (p : β × State) : Prop := Keeps T a p.2
structure KeepsO (T : Nat) (a : State) (o : Option State) : Prop where
  keeps : ∀ t, o = some t → Keeps T a t
structure KeepsOP {β : Type} (T : Nat) (a : State) (o : Option (State × β)) : Prop where
  keeps : ∀ t x, o = some (t, x) → Keeps T a t
structure KeepsOQ {β : Type} (T : Nat) (a : State) (o : Option (β × State)) : Prop where
  keeps : ∀ t x, o = some (x, t) → Keeps T a t
structure KeepsL {β : Type} (T : Nat) (a : State) (o : State ⊕ β) : Prop where
  keeps : ∀ t, o = .inl t → Keeps T a t
structure KeepsA (T : Nat) (a : State) (x : Act) : Prop where
  keeps : ∀ t, Keeps T a t → Keeps T a (x.run t)
structure KeepsR (T : Nat) (a : State) (r : Result) : Prop where
  keeps : ∀ t, r = .next t → Keeps T a t

theorem KeepsP.mk {β : Type} {T : Nat} {a b : State} {x : β} (h : Keeps T a b) : KeepsP T a (b, x) := h
theorem KeepsQ.mk {β : Type} {T : Nat} {a b : State} {x : β} (h : Keeps T a b) : KeepsQ T a (x, b) := h
theorem KeepsO.none {T : Nat} {a : State} : KeepsO T a none := ⟨by intro t h; cases h⟩
theorem KeepsO.some {T : Nat} {a b : State} (h : Keeps T a b) : KeepsO T a (some b) := ⟨by intro t ht; cases ht; exact h⟩
theorem KeepsOP.none {β : Type} {T : Nat} {a : State} : KeepsOP (β := β) T a none := ⟨by intro t x h; cases h⟩
theorem KeepsOP.some {β : Type} {T : Nat} {a : State} {p : State × β} (h : KeepsP T a p) : KeepsOP T a (some p) := ⟨by
  intro t x ht; cases ht; exact h⟩
theorem KeepsOQ.none {β : Type} {T : Nat} {a : State} : KeepsOQ (β := β) T a none := ⟨by intro t x h; cases h⟩
theorem KeepsOQ.some {β : Type} {T : Nat} {a : State} {p : β × State} (h : KeepsQ T a p) : KeepsOQ T a (some p) := ⟨by
  intro t x ht; cases ht; exact h⟩
theorem KeepsL.inl {β : Type} {T : Nat} {a b : State} (h : Keeps T a b) : KeepsL (β := β) T a (.inl b) := ⟨by intro t ht; cases ht; exact h⟩
theorem KeepsL.inr {β : Type} {T : Nat} {a : State} {x : β} : KeepsL T a (.inr x) := ⟨by intro t h; cases h⟩
theorem KeepsA.intro {T : Nat} {a : State} {k : List Kind} {f : State → State} (h : ∀ t, Keeps T a t → Keeps T a (f t)) : KeepsA T a ⟨k, f⟩ := ⟨h⟩
theorem KeepsA.act {T : Nat} {a t : State} {x : Act} (h : KeepsA T a x) (ht : Keeps T a t) : Keeps T a (x.run t) := h.keeps t ht
theorem KeepsR.next {T : Nat} {a b : State} (h : Keeps T a b) : KeepsR T a (.next b) := ⟨by intro t ht; cases ht; exact h⟩

theorem KeepsP.of {β : Type} {T : Nat} {a t : State} {x : β} {p : State × β} (h : KeepsP T a p) (e : p = (t, x)) : Keeps T a t := by
  subst e; exact h
theorem KeepsQ.of {β : Type} {T : Nat} {a t : State} {x : β} {p : β × State} (h : KeepsQ T a p) (e : p = (x, t)) : Keeps T a t := by
  subst e; exact h
theorem KeepsOP.get {β : Type} {T : Nat} {a t : State} {x : β} {o : Option (State × β)} (h : KeepsOP T a o) (e : o = .some (t, x)) :
    Keeps T a t := h.keeps t x e
theorem KeepsOP.getP {β : Type} {T : Nat} {a : State} {p : State × β} {o : Option (State × β)} (h : KeepsOP T a o) (e : o = .some p) :
    KeepsP T a p := h.keeps p.1 p.2 e
theorem KeepsOQ.get {β : Type} {T : Nat} {a t : State} {x : β} {o : Option (β × State)} (h : KeepsOQ T a o) (e : o = .some (x, t)) :
    Keeps T a t := h.keeps t x e
theorem KeepsL.get {β : Type} {T : Nat} {a t : State} {o : State ⊕ β} (h : KeepsL T a o) (e : o = .inl t) : Keeps T a t := h.keeps t e
theorem KeepsO.get {T : Nat} {a t : State} {o : Option State} (h : KeepsO T a o) (e : o = .some t) : Keeps T a t := h.keeps t e
theorem KeepsO.map {T : Nat} {a : State} {o : Option State} {f : State → State} (h : KeepsO T a o) (hf : ∀ t, Keeps T a t → Keeps T a (f t)) :
    KeepsO T a (o.map f) := by
  cases o with
  | none => exact KeepsO.none
  | some t => exact KeepsO.some (hf t (h.keeps t rfl))
theorem KeepsO.bind {T : Nat} {a : State} {o : Option State} {f : State → Option State} (h : KeepsO T a o)
    (hf : ∀ t, Keeps T a t → KeepsO T a (f t)) : KeepsO T a (o.bind f) := by
  cases o with
  | none => exact KeepsO.none
  | some t => exact hf t (h.keeps t rfl)
theorem KeepsO.stageAll {α : Type} {T : Nat} {a b : State} {f : State → α → Option State} {l : List α} (hb : Keeps T a b)
    (hf : ∀ t x, Keeps T a t → KeepsO T a (f t x)) : KeepsO T a (Machine.stageAll f l b) := by
  induction l generalizing b with
  | nil => exact KeepsO.some hb
  | cons x r ih =>
    unfold Machine.stageAll
    split
    · exact KeepsO.none
    · next u e => exact ih ((hf b x hb).keeps u e)
theorem KeepsP.xbAns {T : Nat} {a : State} {p : State × Bool} (h : KeepsP T a p) : KeepsP T a (Machine.xbAns p) := h
theorem KeepsO.getD {T : Nat} {a b : State} {o : Option State} (h : KeepsO T a o) (hb : Keeps T a b) : Keeps T a (o.getD b) := by
  cases o with
  | none => exact hb
  | some t => exact h.keeps t rfl

theorem KeepsP.ite {β : Type} {T : Nat} {a : State} {b c : State × β} {p : Prop} [Decidable p] (hb : KeepsP T a b) (hc : KeepsP T a c) :
    KeepsP T a (if p then b else c) := by split <;> assumption
theorem KeepsQ.ite {β : Type} {T : Nat} {a : State} {b c : β × State} {p : Prop} [Decidable p] (hb : KeepsQ T a b) (hc : KeepsQ T a c) :
    KeepsQ T a (if p then b else c) := by split <;> assumption
theorem KeepsO.ite {T : Nat} {a : State} {b c : Option State} {p : Prop} [Decidable p] (hb : KeepsO T a b) (hc : KeepsO T a c) :
    KeepsO T a (if p then b else c) := by split <;> assumption
theorem KeepsOP.ite {β : Type} {T : Nat} {a : State} {b c : Option (State × β)} {p : Prop} [Decidable p] (hb : KeepsOP T a b) (hc : KeepsOP T a c) :
    KeepsOP T a (if p then b else c) := by split <;> assumption
theorem KeepsOQ.ite {β : Type} {T : Nat} {a : State} {b c : Option (β × State)} {p : Prop} [Decidable p] (hb : KeepsOQ T a b) (hc : KeepsOQ T a c) :
    KeepsOQ T a (if p then b else c) := by split <;> assumption
theorem KeepsL.ite {β : Type} {T : Nat} {a : State} {b c : State ⊕ β} {p : Prop} [Decidable p] (hb : KeepsL T a b) (hc : KeepsL T a c) :
    KeepsL T a (if p then b else c) := by split <;> assumption
theorem KeepsA.ite {T : Nat} {a : State} {b c : Act} {p : Prop} [Decidable p] (hb : KeepsA T a b) (hc : KeepsA T a c) :
    KeepsA T a (if p then b else c) := by split <;> assumption
theorem KeepsR.ite {T : Nat} {a : State} {b c : Result} {p : Prop} [Decidable p] (hb : KeepsR T a b) (hc : KeepsR T a c) :
    KeepsR T a (if p then b else c) := by split <;> assumption
theorem KeepsP.step {β : Type} {m T : Nat} {a b : State} {c : State × β} (h : KeepsP m b c) (hm : m &&& T = m) (hb : Keeps T a b) : KeepsP T a c := Keeps.step h hm hb
theorem KeepsQ.step {β : Type} {m T : Nat} {a b : State} {c : β × State} (h : KeepsQ m b c) (hm : m &&& T = m) (hb : Keeps T a b) : KeepsQ T a c := Keeps.step h hm hb
theorem KeepsO.step {m T : Nat} {a b : State} {c : Option State} (h : KeepsO m b c) (hm : m &&& T = m) (hb : Keeps T a b) : KeepsO T a c := ⟨fun t e => Keeps.step (h.keeps t e) hm hb⟩
theorem KeepsOP.step {β : Type} {m T : Nat} {a b : State} {c : Option (State × β)} (h : KeepsOP m b c) (hm : m &&& T = m) (hb : Keeps T a b) : KeepsOP T a c := ⟨fun t x e => Keeps.step (h.keeps t x e) hm hb⟩
theorem KeepsOQ.step {β : Type} {m T : Nat} {a b : State} {c : Option (β × State)} (h : KeepsOQ m b c) (hm : m &&& T = m) (hb : Keeps T a b) : KeepsOQ T a c := ⟨fun t x e => Keeps.step (h.keeps t x e) hm hb⟩
theorem KeepsL.step {β : Type} {m T : Nat} {a b : State} {c : State ⊕ β} (h : KeepsL m b c) (hm : m &&& T = m) (hb : Keeps T a b) : KeepsL T a c := ⟨fun t e => Keeps.step (h.keeps t e) hm hb⟩

/-! ## The setters -/

theorem State.setFans_keeps (s : State) (v) : Keeps 8 s (s.setFans v) :=
  ⟨rfl, id, fun p hp => by cases p <;> first | rfl | exact ⟨rfl, rfl⟩ | exact ⟨rfl, rfl, rfl, rfl⟩ | exact absurd hp (by decide)⟩
theorem State.setCfg_keeps (s : State) (v) : Keeps 32 s (s.setCfg v) :=
  ⟨rfl, id, fun p hp => by cases p <;> first | rfl | exact ⟨rfl, rfl⟩ | exact ⟨rfl, rfl, rfl, rfl⟩ | exact absurd hp (by decide)⟩
theorem State.setBench_keeps (s : State) (v) : Keeps 64 s (s.setBench v) :=
  ⟨rfl, id, fun p hp => by cases p <;> first | rfl | exact ⟨rfl, rfl⟩ | exact ⟨rfl, rfl, rfl, rfl⟩ | exact absurd hp (by decide)⟩
theorem State.setFab_keeps (s : State) (v) : Keeps 128 s (s.setFab v) :=
  ⟨rfl, id, fun p hp => by cases p <;> first | rfl | exact ⟨rfl, rfl⟩ | exact ⟨rfl, rfl, rfl, rfl⟩ | exact absurd hp (by decide)⟩
theorem State.setEth_keeps (s : State) (v) : Keeps 256 s (s.setEth v) :=
  ⟨rfl, id, fun p hp => by cases p <;> first | rfl | exact ⟨rfl, rfl⟩ | exact ⟨rfl, rfl, rfl, rfl⟩ | exact absurd hp (by decide)⟩
theorem State.setTbl_keeps (s : State) (v) : Keeps 512 s (s.setTbl v) :=
  ⟨rfl, id, fun p hp => by cases p <;> first | rfl | exact ⟨rfl, rfl⟩ | exact ⟨rfl, rfl, rfl, rfl⟩ | exact absurd hp (by decide)⟩
theorem State.setAx0_keeps (s : State) (v) : Keeps 2048 s (s.setAx0 v) :=
  ⟨rfl, id, fun p hp => by cases p <;> first | rfl | exact ⟨rfl, rfl⟩ | exact ⟨rfl, rfl, rfl, rfl⟩ | exact absurd hp (by decide)⟩
theorem State.setPwr_keeps (s : State) (v) : Keeps 8192 s (s.setPwr v) :=
  ⟨rfl, id, fun p hp => by cases p <;> first | rfl | exact ⟨rfl, rfl⟩ | exact ⟨rfl, rfl, rfl, rfl⟩ | exact absurd hp (by decide)⟩
theorem State.setBody_keeps (s : State) (v) : Keeps 16384 s (s.setBody v) :=
  ⟨rfl, id, fun p hp => by cases p <;> first | rfl | exact ⟨rfl, rfl⟩ | exact ⟨rfl, rfl, rfl, rfl⟩ | exact absurd hp (by decide)⟩
theorem State.setCan_keeps (s : State) (v) : Keeps 32768 s (s.setCan v) :=
  ⟨rfl, id, fun p hp => by cases p <;> first | rfl | exact ⟨rfl, rfl⟩ | exact ⟨rfl, rfl, rfl, rfl⟩ | exact absurd hp (by decide)⟩
theorem State.setLin_keeps (s : State) (v) : Keeps 65536 s (s.setLin v) :=
  ⟨rfl, id, fun p hp => by cases p <;> first | rfl | exact ⟨rfl, rfl⟩ | exact ⟨rfl, rfl, rfl, rfl⟩ | exact absurd hp (by decide)⟩
theorem State.setWake_keeps (s : State) (v) : Keeps 131072 s (s.setWake v) :=
  ⟨rfl, id, fun p hp => by cases p <;> first | rfl | exact ⟨rfl, rfl⟩ | exact ⟨rfl, rfl, rfl, rfl⟩ | exact absurd hp (by decide)⟩
theorem State.setGuard_keeps (s : State) (v) : Keeps 262144 s (s.setGuard v) :=
  ⟨rfl, id, fun p hp => by cases p <;> first | rfl | exact ⟨rfl, rfl⟩ | exact ⟨rfl, rfl, rfl, rfl⟩ | exact absurd hp (by decide)⟩
theorem State.setGw_keeps (s : State) (v) : Keeps 524288 s (s.setGw v) :=
  ⟨rfl, id, fun p hp => by cases p <;> first | rfl | exact ⟨rfl, rfl⟩ | exact ⟨rfl, rfl, rfl, rfl⟩ | exact absurd hp (by decide)⟩
theorem State.setTrust_keeps (s : State) (v) : Keeps 1048576 s (s.setTrust v) :=
  ⟨rfl, id, fun p hp => by cases p <;> first | rfl | exact ⟨rfl, rfl⟩ | exact ⟨rfl, rfl, rfl, rfl⟩ | exact absurd hp (by decide)⟩
theorem State.setStamps_keeps (s : State) (v) : Keeps 2097152 s (s.setStamps v) :=
  ⟨rfl, id, fun p hp => by cases p <;> first | rfl | exact ⟨rfl, rfl⟩ | exact ⟨rfl, rfl, rfl, rfl⟩ | exact absurd hp (by decide)⟩
theorem State.setEvp_keeps (s : State) (v) : Keeps 8388608 s (s.setEvp v) :=
  ⟨rfl, id, fun p hp => by cases p <;> first | rfl | exact ⟨rfl, rfl⟩ | exact ⟨rfl, rfl, rfl, rfl⟩ | exact absurd hp (by decide)⟩
theorem State.setUpd_keeps (s : State) (v) : Keeps 16777216 s (s.setUpd v) :=
  ⟨rfl, id, fun p hp => by cases p <;> first | rfl | exact ⟨rfl, rfl⟩ | exact ⟨rfl, rfl, rfl, rfl⟩ | exact absurd hp (by decide)⟩
theorem State.setDrk_keeps (s : State) (v) : Keeps 33554432 s (s.setDrk v) :=
  ⟨rfl, id, fun p hp => by cases p <;> first | rfl | exact ⟨rfl, rfl⟩ | exact ⟨rfl, rfl, rfl, rfl⟩ | exact absurd hp (by decide)⟩
theorem State.setClk_keeps (s : State) (v) : Keeps 134217728 s (s.setClk v) :=
  ⟨rfl, id, fun p hp => by cases p <;> first | rfl | exact ⟨rfl, rfl⟩ | exact ⟨rfl, rfl, rfl, rfl⟩ | exact absurd hp (by decide)⟩
theorem State.setDraws_keeps (s : State) (v) : Keeps 268435456 s (s.setDraws v) :=
  ⟨rfl, id, fun p hp => by cases p <;> first | rfl | exact ⟨rfl, rfl⟩ | exact ⟨rfl, rfl, rfl, rfl⟩ | exact absurd hp (by decide)⟩
theorem State.setOuts_keeps (s : State) (v) : Keeps 536870912 s (s.setOuts v) :=
  ⟨rfl, id, fun p hp => by cases p <;> first | rfl | exact ⟨rfl, rfl⟩ | exact ⟨rfl, rfl, rfl, rfl⟩ | exact absurd hp (by decide)⟩
theorem State.setHost_keeps (s : State) (v) : Keeps 1073741840 s (s.setHost v) :=
  ⟨rfl, id, fun p hp => by cases p <;> first | rfl | exact ⟨rfl, rfl⟩ | exact absurd hp (by decide)⟩
theorem State.setPins_keeps (s : State) (v) : Keeps 1073745920 s (s.setPins v) :=
  ⟨rfl, id, fun p hp => by cases p <;> first | rfl | exact ⟨rfl, rfl⟩ | exact absurd hp (by decide)⟩
theorem State.setLeg_keeps (s : State) (v) : Keeps 1140850688 s (s.setLeg v) :=
  ⟨rfl, id, fun p hp => by cases p <;> first | rfl | exact ⟨rfl, rfl⟩ | exact absurd hp (by decide)⟩
theorem Keeps.setRegs {T : Nat} {z s : State} {v} (h : Keeps T z s) (hm : 1 &&& T = 1) (hv : Canon s → v.sorted = true) :
    Keeps T z (s.setRegs v) :=
  Keeps.step (m := 1) (b := s) ⟨rfl, fun hc => ⟨hv hc, hc.2⟩,
    fun p hp => by cases p <;> first | rfl | exact ⟨rfl, rfl⟩ | exact ⟨rfl, rfl, rfl, rfl⟩ | exact absurd hp (by decide)⟩ hm h
theorem Keeps.setWbuf {T : Nat} {z s : State} {v} (h : Keeps T z s) (hm : 2 &&& T = 2) (hv : Canon s → v.sorted = true) :
    Keeps T z (s.setWbuf v) :=
  Keeps.step (m := 2) (b := s) ⟨rfl, fun hc => ⟨hc.1, hv hc, hc.2.2⟩,
    fun p hp => by cases p <;> first | rfl | exact ⟨rfl, rfl⟩ | exact ⟨rfl, rfl, rfl, rfl⟩ | exact absurd hp (by decide)⟩ hm h
theorem Keeps.setHolds {T : Nat} {z s : State} {v} (h : Keeps T z s) (hm : 4 &&& T = 4) (hv : Canon s → Tab.sorted v = true) :
    Keeps T z (s.setHolds v) :=
  Keeps.step (m := 4) (b := s) ⟨rfl, fun hc => ⟨hc.1, hc.2.1, hv hc, hc.2.2.2⟩,
    fun p hp => by cases p <;> first | rfl | exact ⟨rfl, rfl⟩ | exact ⟨rfl, rfl, rfl, rfl⟩ | exact absurd hp (by decide)⟩ hm h
theorem Keeps.setAxes {T : Nat} {z s : State} {v} (h : Keeps T z s) (hm : 4194304 &&& T = 4194304) (hv : Canon s → Tab.sorted v = true) :
    Keeps T z (s.setAxes v) :=
  Keeps.step (m := 4194304) (b := s) ⟨rfl, fun hc => ⟨hc.1, hc.2.1, hc.2.2.1, hv hc, hc.2.2.2.2⟩,
    fun p hp => by cases p <;> first | rfl | exact ⟨rfl, rfl⟩ | exact ⟨rfl, rfl, rfl, rfl⟩ | exact absurd hp (by decide)⟩ hm h
theorem Keeps.setFlt {T : Nat} {z s : State} {v} (h : Keeps T z s) (hm : 1024 &&& T = 1024) (hv : Canon s → v.trouble.length ≤ 64 ∧ v.spoil.length ≤ 1024 ∧ v.starts < 2 ^ 32) :
    Keeps T z (s.setFlt v) :=
  Keeps.step (m := 1024) (b := s) ⟨rfl, fun hc => ⟨hc.1, hc.2.1, hc.2.2.1, hc.2.2.2.1, hv hc⟩,
    fun p hp => by cases p <;> first | rfl | exact ⟨rfl, rfl⟩ | exact ⟨rfl, rfl, rfl, rfl⟩ | exact absurd hp (by decide)⟩ hm h

/-! ## The shared operations of Ops -/

theorem fresh_keeps (s : State) : Keeps 536870912 s (fresh s) := State.setOuts_keeps s []

theorem State.wr_keeps (s : State) (w : Nat) (f : Field) (v i : Nat) : Keeps 1 s (s.wr w f v i) :=
  Keeps.setRegs (Keeps.refl _ s) (by decide) fun hc => store_sorted hc.1 _ _ _

/-- The parity bits go with the registers. -/
theorem State.setParity_keeps (s : State) (v : List Nat) : Keeps 1 s (s.setParity v) :=
  ⟨rfl, id, fun p hp => by cases p <;> first | rfl | exact ⟨rfl, rfl, rfl, rfl⟩ | exact absurd hp (by decide)⟩

theorem Keeps.freshParity {T : Nat} {a s : State} (w ofs : Nat) (hr : 1 &&& T = 1) (hs : Keeps T a s) : Keeps T a (s.freshParity w ofs) :=
  Keeps.step (State.setParity_keeps s _) hr hs

theorem State.emit_keeps (s : State) (x : Output) : Keeps 536870912 s (s.emit x) := State.setOuts_keeps s _

theorem State.draw_keeps (s : State) : KeepsQ 268435456 s s.draw := State.setDraws_keeps s _

/-- The pending bits of the host, IRQ_N, the counters and XB_IRQ are the part irq. -/
theorem State.setPba_keeps (s : State) (v : Nat) : Keeps 1073741824 s (s.setHost { s.host with pba := v }) :=
  ⟨rfl, id, fun p hp => by cases p <;> first | rfl | exact ⟨rfl, rfl⟩ | exact absurd hp (by decide)⟩

theorem State.driveIrq_keeps (s : State) : Keeps 1073741824 s s.driveIrq :=
  ⟨rfl, id, fun p hp => by cases p <;> first | rfl | exact ⟨rfl, rfl⟩ | exact absurd hp (by decide)⟩

theorem State.setLegCtr_keeps (s : State) (v) : Keeps 1073741824 s (s.setLeg { s.leg with ctr := v }) :=
  ⟨rfl, id, fun p hp => by cases p <;> first | rfl | exact ⟨rfl, rfl⟩ | exact absurd hp (by decide)⟩

theorem State.setLegIrq_keeps (s : State) (v) : Keeps 1073741824 s (s.setLeg { s.leg with irq := v }) :=
  ⟨rfl, id, fun p hp => by cases p <;> first | rfl | exact ⟨rfl, rfl⟩ | exact absurd hp (by decide)⟩

theorem State.legacyCount_keeps (s : State) (w : Nat) (f : Field) (n : Nat) : Keeps 1073741824 s (s.legacyCount w f n) := by
  unfold State.legacyCount
  split
  · exact Keeps.refl _ _
  · split
    · exact Keeps.refl _ _
    · exact State.setLegCtr_keeps s _

theorem State.count_keeps (s : State) (w : Nat) (f : Field) (i n : Nat) : Keeps 1073741825 s (s.count w f i n) :=
  Keeps.step (State.legacyCount_keeps ..) (by decide) (Keeps.step (State.wr_keeps ..) (by decide) (Keeps.refl _ _))

theorem State.sendVec_keeps (s : State) (v : Nat) : Keeps 1610612736 s (s.sendVec v) := by
  unfold State.sendVec
  refine Keeps.ite (Keeps.refl _ _) (Keeps.ite ?_ ?_)
  · exact Keeps.step (State.emit_keeps ..) (by decide) (Keeps.refl _ _)
  · exact Keeps.step (State.setPba_keeps ..) (by decide) (Keeps.refl _ _)

theorem State.irqRise_keeps (s : State) (w : Nat) (b : Bool) : Keeps 1610612736 s (s.irqRise w b) := by
  unfold State.irqRise
  have h := State.sendVec_keeps s (s.rd w UNIT_IRQ_ROUTE.VEC)
  exact Keeps.ite (Keeps.refl _ _) (Keeps.ite (Keeps.step (State.driveIrq_keeps ..) (by decide) h) h)

theorem State.legacyEvent_keeps (s : State) (w k : Nat) : Keeps 1073741824 s (s.legacyEvent w k) := by
  unfold State.legacyEvent
  split
  · exact Keeps.refl _ _
  · next b _ =>
    have h := State.setLegIrq_keeps s (setBit s.leg.irq b)
    exact Keeps.ite (Keeps.refl _ _) (Keeps.ite (Keeps.step (State.driveIrq_keeps ..) (by decide) h) h)

theorem State.event_keeps (s : State) (w k : Nat) : Keeps 1610612737 s (s.event w k) :=
  Keeps.step (State.legacyEvent_keeps ..) (by decide) (Keeps.step (State.irqRise_keeps ..) (by decide)
    (Keeps.step (State.wr_keeps ..) (by decide) (Keeps.refl _ _)))

theorem State.sticky_keeps (s : State) (w : Nat) (f : Field) (i : Nat) : Keeps 1610612737 s (s.sticky w f i) := by
  unfold State.sticky
  exact Keeps.ite (Keeps.refl _ _) (Keeps.step (State.irqRise_keeps ..) (by decide) (Keeps.step (State.wr_keeps ..) (by decide)
    (Keeps.step (State.wr_keeps ..) (by decide) (Keeps.refl _ _))))

theorem State.troubleRecord_keeps (s : State) (c w n : Nat) : Keeps 1610613761 s (s.troubleRecord c w n) := by
  unfold State.troubleRecord
  exact Keeps.step (State.event_keeps ..) (by decide) (Keeps.setFlt (Keeps.refl _ _) (by decide) fun hc =>
    ⟨length_kept _ _ _ hc.2.2.2.2.1, hc.2.2.2.2.2⟩)

theorem State.spoil_keeps (s : State) (w : Nat) (d : Disp) (r : Nat) (k : Item) (a b : Nat) :
    Keeps 1610613761 s (s.spoil w d r k a b) := by
  unfold State.spoil
  split
  · exact Keeps.refl _ _
  · extract_lets x1 x2 x3 y x4 x5
    have h3 : Keeps 1610613761 s x3 := Keeps.ite (Keeps.step (State.count_keeps ..) (by decide) (Keeps.refl _ _)) (Keeps.refl _ _)
    have h4 : Keeps 1610613761 s x4 := by
      refine Keeps.setFlt h3 (by decide) fun hc => ⟨hc.2.2.2.2.1, ?_, hc.2.2.2.2.2.2⟩
      have hl : x3.flt.spoil.length ≤ 1024 := hc.2.2.2.2.2.1
      have hx : x3.flt = s.flt := by simp only [x3]; split <;> simp
      rw [hx] at hl
      simp only [spoilIn_length]
      split
      · rw [hx, List.length_drop]; omega
      · next hf => rw [hx]; simp only [x2] at hf; omega
    have h5 : Keeps 1610613761 s x5 := Keeps.ite (Keeps.step (State.count_keeps ..) (by decide) h4) h4
    exact Keeps.step (State.event_keeps ..) (by decide) h5

/-- What a write that is a command of its own can change: what its effect can, and what a refusal records. -/
theorem Keeps.cmdWrite {T : Nat} {a s : State} {init w ofs data : Nat} {kinds : List Kind} {f : State → State}
    (hr : 1 &&& T = 1) (hs : Keeps T a s) (hf : ∀ t, Keeps T a t → Keeps T a (f t)) (hv : ∀ k, Keeps T a ((s.violate w init k true (w * 4096 + ofs) data).endAccess init)) :
    Keeps T a (s.cmdWrite init w ofs data kinds f) := by
  unfold State.cmdWrite
  refine Keeps.ite hs ?_
  split
  · exact hv _
  · exact hf _ (Keeps.freshParity w ofs hr hs)

theorem Keeps.cmdField {T : Nat} {a s : State} {init w : Nat} {f : Field} {kinds : List Kind} {g : State → State}
    (hr : 1 &&& T = 1) (hs : Keeps T a s) (hf : ∀ t, Keeps T a t → Keeps T a (g t))
    (hv : ∀ k, Keeps T a ((s.violate w init k true (w * 4096 + f.byteOfs) (2 ^ (f.lo % 8))).endAccess init)) :
    Keeps T a (s.cmdField init w f kinds g) := Keeps.cmdWrite hr hs hf hv

theorem State.recordFault_keeps (s : State) (w c n k : Nat) : Keeps 1610613761 s (s.recordFault w c n k) := by
  unfold State.recordFault
  exact Keeps.ite (Keeps.step (State.troubleRecord_keeps ..) (by decide) (Keeps.step (State.wr_keeps ..) (by decide)
    (Keeps.step (State.wr_keeps ..) (by decide) (Keeps.refl _ _)))) (Keeps.step (State.wr_keeps ..) (by decide) (Keeps.refl _ _))

theorem State.violate_keeps (s : State) (w n : Nat) (k : Kind) (b : Bool) (x d : Nat) :
    Keeps 1610613761 s (s.violate w n k b x d) := by
  unfold State.violate
  extract_lets s1 s2 s3 s4 s5 s6
  have h1 : Keeps 1610613761 s s1 := Keeps.step (State.sticky_keeps ..) (by decide) (Keeps.refl _ _)
  have h6 : Keeps 1610613761 s s6 := Keeps.step (State.wr_keeps ..) (by decide) (Keeps.step (State.wr_keeps ..) (by decide)
    (Keeps.step (State.wr_keeps ..) (by decide) (Keeps.step (State.wr_keeps ..) (by decide) (Keeps.step (State.wr_keeps ..) (by decide) h1))))
  exact Keeps.ite (Keeps.step (State.troubleRecord_keeps ..) (by decide) h6) (Keeps.step (State.wr_keeps ..) (by decide) h1)

theorem State.endOther_keeps (s : State) (w : Nat) (d : Disp) (r : Nat) (k : Item) (a b : Nat) :
    Keeps 1610613761 s (s.endOther w d r k a b) := by
  cases d
  · exact Keeps.refl _ _
  · exact Keeps.refl _ _
  · exact State.spoil_keeps ..
  · exact State.spoil_keeps ..

theorem State.endAccess_keeps (s : State) (n : Nat) : Keeps 1610613761 s (s.endAccess n) := by
  unfold State.endAccess
  exact Keeps.ite (Keeps.step (State.endOther_keeps ..) (by decide) (Keeps.refl _ _)) (Keeps.refl _ _)

theorem Keeps.cmdRead {T : Nat} {a s : State} {init w ofs len : Nat} {f : State → State × List Nat} (hm : 1610613761 &&& T = 1610613761) (ho : 536870912 &&& T = 536870912)
    (hs : Keeps T a s) (hf : ∀ t, Keeps T a t → KeepsP T a (f t)) : Keeps T a (s.cmdRead init w ofs len f) := by
  unfold State.cmdRead
  have e : ∀ t x, Keeps T a t → Keeps T a (t.emit x) := fun t x h => Keeps.step (State.emit_keeps t x) ho h
  refine Keeps.ite hs (Keeps.ite (e _ _ hs) (Keeps.ite (e _ _ (Keeps.step (State.endAccess_keeps ..) hm (Keeps.step (State.violate_keeps ..) hm hs))) ?_))
  exact e _ _ (hf s hs)

/-- A list of the commands of a register, none of whose effects reaches outside the mask. -/
def KeepsL3 (T : Nat) (a : State) (l : List (Field × List Kind × (State → State))) : Prop :=
  ∀ x ∈ l, ∀ t, Keeps T a t → Keeps T a (x.2.2 t)

theorem KeepsL3.nil {T : Nat} {a : State} : KeepsL3 T a [] := by intro x h; cases h

theorem KeepsL3.cons {T : Nat} {a : State} {f : Field} {k : List Kind} {g : State → State} {l : List (Field × List Kind × (State → State))}
    (h : ∀ t, Keeps T a t → Keeps T a (g t)) (hl : KeepsL3 T a l) : KeepsL3 T a ((f, k, g) :: l) := by
  intro x hx
  cases hx with
  | head => exact h
  | tail _ hx => exact hl x hx

theorem Keeps.wrAll {T : Nat} {a b : State} (w : Nat) (fs : List Field) (v i : Nat) (hm : 1 &&& T = 1) (hb : Keeps T a b) :
    Keeps T a (b.wrWide w fs v i) := Keeps.each hb fun _ _ h => Keeps.step (State.wr_keeps ..) hm h

theorem KeepsA.cmdReg {T : Nat} {a s : State} {w o v : Nat} {l : List (Field × List Kind × (State → State))} (hm : 1 &&& T = 1)
    (h : KeepsL3 T a l) : KeepsA T a (s.cmdReg w o v l) := by
  unfold State.cmdReg
  have hs : ∀ t, Keeps T a t → Keeps T a (t.storeReg w o v) := fun t ht => Keeps.wrAll _ _ _ _ hm ht
  split
  · exact ⟨fun t ht => hs t ht⟩
  · next f k g e =>
    refine ⟨fun t ht => ?_⟩
    have hx : (f, k, g) ∈ l := (List.mem_filter.1 (e ▸ List.mem_singleton.2 rfl : (f, k, g) ∈ l.filter fun x => bit v x.1.lo)).1
    exact h _ hx _ (hs t ht)
  · exact ⟨fun t ht => ht⟩

theorem KeepsA.of {T m : Nat} {a : State} {x : Act} (h : ∀ t, Keeps m t (x.run t)) (hm : m &&& T = m) : KeepsA T a x :=
  ⟨fun t ht => Keeps.step (h t) hm ht⟩

end Sys2Proof.Machine
end

