-- ==== Sys2Proof/Laws/Keeps1.lean ====
section
/-! SUPPORT. What each operation of these files can change: Ops, SecyOps, FabOps, AxisOps, Bench, TrustOps, AuthOps, SignalOps, TableOps, DrkPeer, PortOps, Chan. The number is the mask of parts (Part.code). -/

namespace Sys2Proof.Machine

/-! ## Ops -/

theorem State.leaseRevoked_keeps (s : State) (w : Nat) : Keeps 1610613761 s (State.leaseRevoked s w) := by
  unfold State.leaseRevoked
  exact (Keeps.step (State.recordFault_keeps ..) (by decide) (Keeps.step (State.sticky_keeps ..) (by decide) (Keeps.refl _ _)))

theorem State.endFrame_keeps (s : State) (win : Nat) (d : Disp) (reason : Nat) (build : Bool) (src : Nat) (dest : Nat) : Keeps 1610613761 s
    (State.endFrame s win d reason build src dest) := by
  unfold State.endFrame
  extract_lets a0_0
  clear_value a0_0
  split
  · exact (Keeps.step (State.count_keeps ..) (by decide) (Keeps.refl _ _))
  · exact (Keeps.step (State.count_keeps ..) (by decide) (Keeps.refl _ _))
  · exact (Keeps.step (State.spoil_keeps ..) (by decide) (Keeps.step (State.count_keeps ..) (by decide) (Keeps.refl _ _)))
  · exact (Keeps.step (State.spoil_keeps ..) (by decide) (Keeps.step (State.count_keeps ..) (by decide) (Keeps.refl _ _)))

theorem State.freshParity_keeps (s : State) (w : Nat) (ofs : Nat) : Keeps 1 s (State.freshParity s w ofs) := by
  unfold State.freshParity
  exact (Keeps.step (State.setParity_keeps ..) (by decide) (Keeps.refl _ _))

theorem State.specHit_keeps (s : State) (init : Nat) (addr : Nat) (spec : Bool) : Keeps 1610612737 s (State.specHit s init addr spec) := by
  unfold State.specHit
  refine (Keeps.ite (Keeps.refl _ _) ?_)
  extract_lets a0_0
  have h_a0_0 : Keeps 1610612737 s a0_0 := (Keeps.step (State.sticky_keeps ..) (by decide) (Keeps.refl _ _))
  exact (Keeps.ite (Keeps.step (State.wr_keeps ..) (by decide) (Keeps.step (State.wr_keeps ..) (by decide) h_a0_0)) h_a0_0)

theorem State.wrWide_keeps (s : State) (w : Nat) (fs : List Field) (v : Nat) (i : Nat) : Keeps 1 s (State.wrWide s w fs v i) := by
  unfold State.wrWide
  exact (Keeps.each (Keeps.refl _ _) (fun t0 y0 k0 => (Keeps.step (State.wr_keeps ..) (by decide) k0)))

/-! ## SecyOps -/

theorem State.setScState_keeps (s : State) (k : Nat) (v : Nat) : Keeps 1 s (State.setScState s k v) := by
  unfold State.setScState
  exact (Keeps.step (State.wr_keeps ..) (by decide) (Keeps.refl _ _))

theorem State.scEval_keeps (s : State) (k : Nat) : Keeps 1 s (State.scEval s k) := by
  unfold State.scEval
  exact (Keeps.ite (Keeps.step (State.setScState_keeps ..) (by decide) (Keeps.refl _ _)) (Keeps.refl _ _))

theorem State.scSwitch_keeps (s : State) (k : Nat) : Keeps 1610874881 s (State.scSwitch s k) := by
  unfold State.scSwitch
  extract_lets a0_0 a0_1
  have h_a0_0 : Keeps 1610874881 s a0_0 := (Keeps.step (State.setScState_keeps ..) (by decide) (Keeps.step (State.wr_keeps ..) (by decide)
      (Keeps.refl _ _)))
  exact (Keeps.step (State.event_keeps ..) (by decide) (Keeps.step (State.wr_keeps ..) (by decide) (Keeps.step (State.setGuard_keeps ..) (by decide)
      h_a0_0)))

theorem State.scStore_keeps (s : State) (k : Nat) (v : Nat) : Keeps 262145 s (State.scStore s k v) := by
  unfold State.scStore
  extract_lets a0_0 a0_1
  have h_a0_0 : Keeps 262145 s a0_0 := (Keeps.step (State.setScState_keeps ..) (by decide) (Keeps.step (State.wrWide_keeps ..) (by decide)
      (Keeps.refl _ _)))
  exact (Keeps.step (State.wr_keeps ..) (by decide) (Keeps.step (State.setGuard_keeps ..) (by decide) h_a0_0))

theorem State.saStore_keeps (s : State) (k : Nat) (a : Nat) (v : Nat) : Keeps 262145 s (State.saStore s k a v) := by
  unfold State.saStore
  refine (Keeps.ite (Keeps.step (State.wr_keeps ..) (by decide) (Keeps.refl _ _)) ?_)
  extract_lets a0_0 a0_1 a0_2
  have h_a0_0 : Keeps 262145 s a0_0 := (Keeps.step (State.wrWide_keeps ..) (by decide) (Keeps.refl _ _))
  have h_a0_2 : Keeps 262145 s a0_2 := (Keeps.step (State.setGuard_keeps ..) (by decide) h_a0_0)
  exact (Keeps.step (State.scEval_keeps ..) (by decide) (Keeps.step (State.wr_keeps ..) (by decide) h_a0_2))

theorem State.secyApply_keeps (s : State) (x : SecyWrite) : Keeps 262145 s (State.secyApply s x) := by
  unfold State.secyApply
  split
  · exact (Keeps.step (State.scStore_keeps ..) (by decide) (Keeps.refl _ _))
  · exact (Keeps.step (State.saStore_keeps ..) (by decide) (Keeps.refl _ _))

theorem State.secyAll_keeps (s : State) : Keeps 262145 s (State.secyAll s) := by
  unfold State.secyAll
  exact (Keeps.foldl (Keeps.step (State.setGuard_keeps ..) (by decide) (Keeps.refl _ _)) (fun t0 y0 k0 => (Keeps.step (State.secyApply_keeps ..) (by
      decide) k0)))

theorem State.secySettle_keeps (s : State) : Keeps 262145 s (State.secySettle s) := by
  unfold State.secySettle
  exact (Keeps.foldl (Keeps.step (State.setGuard_keeps ..) (by decide) (Keeps.refl _ _)) (fun t0 y0 k0 => (Keeps.ite (Keeps.step
      (State.setGuard_keeps ..) (by decide) k0) (Keeps.step (State.secyApply_keeps ..) (by decide) k0))))

theorem State.secyPut_keeps (s : State) (x : SecyWrite) : Keeps 262145 s (State.secyPut s x) := by
  unfold State.secyPut
  exact (Keeps.step (State.secySettle_keeps ..) (by decide) (Keeps.step (State.setGuard_keeps ..) (by decide) (Keeps.refl _ _)))

theorem State.secyBoundary_keeps (s : State) (p : Nat) : Keeps 1610874881 s (State.secyBoundary s p) := by
  unfold State.secyBoundary
  extract_lets a0_0
  have h_a0_0 : Keeps 1610874881 s a0_0 := (Keeps.step (State.secySettle_keeps ..) (by decide) (Keeps.refl _ _))
  clear_value a0_0
  split
  · exact h_a0_0
  · exact (Keeps.ite (Keeps.step (State.scSwitch_keeps ..) (by decide) h_a0_0) h_a0_0)

theorem State.switchSc_keeps (s : State) (k : Nat) : Keeps 1610874881 s (State.switchSc s k) := by
  unfold State.switchSc
  exact (Keeps.ite (Keeps.refl _ _) (Keeps.ite (Keeps.step (State.wr_keeps ..) (by decide) (Keeps.step (State.setGuard_keeps ..) (by decide)
      (Keeps.refl _ _))) (Keeps.step (State.scSwitch_keeps ..) (by decide) (Keeps.refl _ _))))

/-! ## FabOps -/

theorem State.stockpileFull_keeps (s : State) (build : Bool) (src : Nat) : Keeps 1610613761 s (State.stockpileFull s build src) := by
  unfold State.stockpileFull
  exact (Keeps.step (State.endFrame_keeps ..) (by decide) (Keeps.step (State.sticky_keeps ..) (by decide) (Keeps.refl _ _)))

theorem State.addFrame_keeps (s : State) (src : Nat) (cells : Nat) (data : List Nat) (can : Option CanHdr) (lin : Option Nat) (build : Bool) (isOpen
    : Bool) : Keeps 128 s (State.addFrame s src cells data can lin build isOpen) := by
  unfold State.addFrame
  extract_lets a0_0 a0_1
  exact (Keeps.step (State.setFab_keeps ..) (by decide) (Keeps.refl _ _))

theorem State.mapFrame_keeps (s : State) (fid : Nat) (f : Frame → Frame) : Keeps 128 s (State.mapFrame s fid f) := by
  unfold State.mapFrame
  exact (Keeps.step (State.setFab_keeps ..) (by decide) (Keeps.refl _ _))

theorem State.addRefs_keeps (s : State) (fid : Nat) (n : Nat) : Keeps 128 s (State.addRefs s fid n) := by
  unfold State.addRefs
  exact (Keeps.step (State.mapFrame_keeps ..) (by decide) (Keeps.refl _ _))

theorem State.release_keeps (s : State) (fid : Nat) (how : Nat) : Keeps 1073741968 s (State.release s fid how) := by
  unfold State.release
  split
  · exact (Keeps.refl _ _)
  · refine (Keeps.ite ?_ (Keeps.step (State.mapFrame_keeps ..) (by decide) (Keeps.refl _ _)))
    extract_lets a2_0 a2_1
    have h_a2_1 : Keeps 1073741968 s a2_1 := (Keeps.step (State.setFab_keeps ..) (by decide) (Keeps.refl _ _))
    exact (Keeps.ite (Keeps.step (State.setHost_keeps ..) (by decide) h_a2_1) h_a2_1)

theorem State.endItem_keeps (s : State) (win : Nat) (d : Disp) (reason : Nat) (fid : Nat) : Keeps 1610613905 s (State.endItem s win d reason fid) :=
    by
  unfold State.endItem
  split
  · exact (Keeps.refl _ _)
  · exact (Keeps.step (State.release_keeps ..) (by decide) (Keeps.step (State.endFrame_keeps ..) (by decide) (Keeps.refl _ _)))

theorem State.handOver_keeps (s : State) (fid : Nat) : Keeps 128 s (State.handOver s fid) := by
  unfold State.handOver
  exact (Keeps.step (State.setFab_keeps ..) (by decide) (Keeps.refl _ _))

theorem State.handedEnd_keeps (s : State) (p : Nat) (ty : Nat) (accepted : Bool) : Keeps 1610613905 s (State.handedEnd s p ty accepted) := by
  unfold State.handedEnd
  split
  · exact (Keeps.refl _ _)
  · extract_lets a2_0 a2_1
    have h_a2_1 : Keeps 1610613905 s a2_1 := (Keeps.step (State.setFab_keeps ..) (by decide) (Keeps.refl _ _))
    exact (Keeps.ite (Keeps.step (State.endItem_keeps ..) (by decide) h_a2_1) (Keeps.step (State.release_keeps ..) (by decide) h_a2_1))

theorem State.setQueue_keeps (s : State) (p : Nat) (c : Nat) (l : List Copy) : Keeps 128 s (State.setQueue s p c l) := by
  unfold State.setQueue
  exact (Keeps.step (State.setFab_keeps ..) (by decide) (Keeps.refl _ _))

theorem State.endCopy_keeps (s : State) (win : Nat) (c : Copy) (d : Disp) (reason : Nat) : Keeps 1610613905 s (State.endCopy s win c d reason) := by
  unfold State.endCopy
  extract_lets a0_0
  have h_a0_0 : Keeps 1610613905 s a0_0 := (Keeps.ite (Keeps.step (State.count_keeps ..) (by decide) (Keeps.refl _ _)) (Keeps.refl _ _))
  exact (Keeps.step (State.release_keeps ..) (by decide) (Keeps.step (State.endFrame_keeps ..) (by decide) h_a0_0))

theorem State.setCredit_keeps (s : State) (p : Nat) (c : Nat) (v : Int) : Keeps 128 s (State.setCredit s p c v) := by
  unfold State.setCredit
  exact (Keeps.step (State.setFab_keeps ..) (by decide) (Keeps.refl _ _))

theorem State.refreshCredit_keeps (s : State) (p : Nat) : Keeps 128 s (State.refreshCredit s p) := by
  unfold State.refreshCredit
  extract_lets a0_0 a0_1 a0_2 a0_3
  have h_a0_2 : Keeps 128 s a0_2 := by
    unfold a0_2
    clear_value a0_0 a0_1
    refine (Keeps.each (Keeps.refl _ _) ?_)
    refine (fun t1 y1 k1 => ?_)
    refine (Keeps.ite k1 ?_)
    extract_lets a2_0
    exact (Keeps.step (State.setCredit_keeps ..) (by decide) k1)
  exact (Keeps.step (State.setFab_keeps ..) (by decide) h_a0_2)

theorem State.ringHeadEnd_keeps (s : State) (r : Nat) (d : Disp) (reason : Nat) : Keeps 1610613905 s (State.ringHeadEnd s r d reason) := by
  unfold State.ringHeadEnd
  split
  · exact (Keeps.refl _ _)
  · exact (Keeps.step (State.endCopy_keeps ..) (by decide) (Keeps.step (State.setFab_keeps ..) (by decide) (Keeps.refl _ _)))

theorem State.hopEnqueue_keeps (s : State) (p : Nat) (c : Copy) : Keeps 1610613905 s (State.hopEnqueue s p c) := by
  unfold State.hopEnqueue
  extract_lets a0_0
  have h_a0_0 : Keeps 1610613905 s a0_0 := (Keeps.step (State.refreshCredit_keeps ..) (by decide) (Keeps.refl _ _))
  exact (Keeps.ite (Keeps.step (State.endCopy_keeps ..) (by decide) h_a0_0) (Keeps.ite (Keeps.step (State.setQueue_keeps ..) (by decide) h_a0_0)
      (Keeps.ite (Keeps.step (State.endCopy_keeps ..) (by decide) h_a0_0) (Keeps.step (State.setQueue_keeps ..) (by decide) h_a0_0))))

theorem State.hopDrain_keeps (s : State) (p : Nat) (classes : List Nat) (d : Disp) (reason : Nat) : Keeps 1610613905 s (State.hopDrain s p classes d
    reason) := by
  unfold State.hopDrain
  exact (Keeps.each (Keeps.refl _ _) (fun t0 y0 k0 => (Keeps.step (State.setQueue_keeps ..) (by decide) (Keeps.foldl k0 (fun t1 y1 k1 => (Keeps.step
      (State.endCopy_keeps ..) (by decide) k1))))))

theorem State.payCredit_keeps (s : State) (p : Nat) (c : Copy) : Keeps 128 s (State.payCredit s p c) := by
  unfold State.payCredit
  extract_lets a0_0 a0_1 a0_2 a0_3
  exact (Keeps.ite (Keeps.refl _ _) (Keeps.step (State.setCredit_keeps ..) (by decide) (Keeps.refl _ _)))

theorem State.setGate_keeps (s : State) (p : Nat) (c : Nat) (isOpen : Bool) : Keeps 129 s (State.setGate s p c isOpen) := by
  unfold State.setGate
  extract_lets a0_0 a0_1 a0_2
  have h_a0_1 : Keeps 129 s a0_1 := (Keeps.step (State.refreshCredit_keeps ..) (by decide) (Keeps.refl _ _))
  have h_a0_2 : Keeps 129 s a0_2 := (Keeps.step (State.wr_keeps ..) (by decide) h_a0_1)
  clear_value a0_0 a0_1 a0_2
  refine (Keeps.ite h_a0_2 ?_)
  split
  · exact h_a0_2
  · exact (Keeps.step (State.setQueue_keeps ..) (by decide) h_a0_2)

theorem State.raiseCt_keeps (s : State) (p : Nat) : Keeps 1610612737 s (State.raiseCt s p) := by
  unfold State.raiseCt
  extract_lets a0_0 a0_1
  have h_a0_1 : Keeps 1610612737 s a0_1 := (Keeps.step (State.wr_keeps ..) (by decide) (Keeps.refl _ _))
  exact (Keeps.step (State.event_keeps ..) (by decide) (Keeps.step (State.event_keeps ..) (by decide) (Keeps.step (State.sticky_keeps ..) (by
      decide) (Keeps.step (State.sticky_keeps ..) (by decide) h_a0_1))))

theorem State.setReader_keeps (s : State) (p : Nat) (c : Option Copy) : Keeps 128 s (State.setReader s p c) := by
  unfold State.setReader
  exact (Keeps.step (State.setFab_keeps ..) (by decide) (Keeps.refl _ _))

theorem State.readerUp_keeps (s : State) (p : Nat) : Keeps 1 s (State.readerUp s p) := by
  unfold State.readerUp
  exact (Keeps.step (State.wr_keeps ..) (by decide) (Keeps.refl _ _))

theorem State.readerDown_keeps (s : State) (p : Nat) : Keeps 1610876049 s (State.readerDown s p) := by
  unfold State.readerDown
  refine (Keeps.ite (Keeps.refl _ _) ?_)
  extract_lets a0_0 a0_1
  have h_a0_0 : Keeps 1610876049 s a0_0 := by
    unfold a0_0
    split
    · exact (Keeps.refl _ _)
    · exact (Keeps.step (State.secyBoundary_keeps ..) (by decide) (Keeps.step (State.endCopy_keeps ..) (by decide) (Keeps.step
        (State.setReader_keeps ..) (by decide) (Keeps.refl _ _))))
  have h_a0_1 : Keeps 1610876049 s a0_1 := (Keeps.step (State.hopDrain_keeps ..) (by decide) h_a0_0)
  exact (Keeps.step (State.wr_keeps ..) (by decide) h_a0_1)

/-! ## AxisOps -/

theorem State.tickAx0_keeps (s : State) : Keeps 2048 s (State.tickAx0 s) := by
  unfold State.tickAx0
  exact (Keeps.ite (Keeps.step (State.setAx0_keeps ..) (by decide) (Keeps.refl _ _)) (Keeps.refl _ _))

theorem State.setAx0State_keeps (s : State) (v : Nat) : Keeps 1 s (State.setAx0State s v) := by
  unfold State.setAx0State
  exact (Keeps.step (State.wr_keeps ..) (by decide) (Keeps.refl _ _))

theorem State.setAxis_keeps (s : State) (n : Nat) (a : AxisSt) : Keeps 4194304 s (State.setAxis s n a) := by
  unfold State.setAxis
  exact (Keeps.setAxes (Keeps.refl _ _) (by decide) (fun hc => store_sorted hc.2.2.2.1 _ _ _))

theorem State.setAxState_keeps (s : State) (n : Nat) (v : Nat) : Keeps 1 s (State.setAxState s n v) := by
  unfold State.setAxState
  exact (Keeps.step (State.wr_keeps ..) (by decide) (Keeps.refl _ _))

theorem State.axSourceCheck_keeps (s : State) (n : Nat) : Keeps 1614807041 s (State.axSourceCheck s n) := by
  unfold State.axSourceCheck
  extract_lets a0_0 a0_1
  have h_a0_1 : Keeps 1614807041 s a0_1 := (Keeps.step (State.setAxState_keeps ..) (by decide) (Keeps.step (State.setAxis_keeps ..) (by decide)
      (Keeps.refl _ _)))
  exact (Keeps.ite (Keeps.refl _ _) (Keeps.ite (Keeps.ite (Keeps.step (State.setAxis_keeps ..) (by decide) (Keeps.refl _ _)) (Keeps.refl _ _))
      (Keeps.ite (Keeps.refl _ _) (Keeps.step (State.event_keeps ..) (by decide) (Keeps.step (State.sticky_keeps ..) (by decide) h_a0_1)))))

theorem State.axisSources_keeps (s : State) : Keeps 1614807041 s (State.axisSources s) := by
  unfold State.axisSources
  exact (Keeps.ite (Keeps.each (Keeps.refl _ _) (fun t0 y0 k0 => (Keeps.step (State.axSourceCheck_keeps ..) (by decide) k0))) (Keeps.refl _ _))

theorem State.axUpdate_keeps (s : State) (n : Nat) (up : Bool) : Keeps 1077936129 s (State.axUpdate s n up) := by
  unfold State.axUpdate
  extract_lets a0_0 a0_1 a0_2 a0_3 a0_4 a0_5 a0_6 a0_7 a0_8 a0_9 a0_10 a0_11 a0_12 a0_13
  have h_a0_11 : Keeps 1077936129 s a0_11 := (Keeps.step (State.setAxis_keeps ..) (by decide) (Keeps.refl _ _))
  have h_a0_12 : Keeps 1077936129 s a0_12 := (Keeps.step (State.wr_keeps ..) (by decide) h_a0_11)
  have h_a0_13 : Keeps 1077936129 s a0_13 := (Keeps.ite (Keeps.step (State.count_keeps ..) (by decide) h_a0_12) h_a0_12)
  exact (Keeps.ite (Keeps.step (State.setAxState_keeps ..) (by decide) h_a0_13) h_a0_13)

theorem State.idle_keeps (s : State) : Keeps 671090688 s (State.idle s) := by
  unfold State.idle
  exact (Keeps.step (State.tickAx0_keeps ..) (by decide) (Keeps.step (State.setClk_keeps ..) (by decide) (Keeps.step (fresh_keeps ..) (by decide)
      (Keeps.refl _ _))))

/-! ## Bench -/

theorem State.setBank_keeps (s : State) (g : Nat) (t : Tab Nat) : Keeps 64 s (State.setBank s g t) := by
  unfold State.setBank
  exact (Keeps.step (State.setBench_keeps ..) (by decide) (Keeps.refl _ _))

theorem State.setEnt_keeps (s : State) (g : Nat) (w : Nat) (f : Field) (i : Nat) (v : Nat) : Keeps 64 s (State.setEnt s g w f i v) := by
  unfold State.setEnt
  exact (Keeps.step (State.setBank_keeps ..) (by decide) (Keeps.refl _ _))

theorem State.setBuf_keeps (s : State) (w : Nat) (f : Field) (i : Nat) (v : Nat) : Keeps 64 s (State.setBuf s w f i v) := by
  unfold State.setBuf
  exact (Keeps.step (State.setBench_keeps ..) (by decide) (Keeps.refl _ _))

theorem State.loadView_keeps (s : State) (w : Nat) (i : Nat) : Keeps 64 s (State.loadView s w i) := by
  unfold State.loadView
  exact (Keeps.each (Keeps.refl _ _) (fun t0 y0 k0 => (Keeps.step (State.setBuf_keeps ..) (by decide) k0)))

theorem State.touch_keeps (s : State) (w : Nat) (i : Nat) : Keeps 64 s (State.touch s w i) := by
  unfold State.touch
  exact (Keeps.ite (Keeps.refl _ _) (Keeps.step (State.setBench_keeps ..) (by decide) (Keeps.refl _ _)))

theorem State.stagedOne_keeps (s : State) : Keeps 65 s (State.stagedOne s) := by
  unfold State.stagedOne
  exact (Keeps.step (State.wr_keeps ..) (by decide) (Keeps.step (State.setBench_keeps ..) (by decide) (Keeps.refl _ _)))

theorem State.dropOvf_keeps (s : State) (w : Nat) (i : Nat) : Keeps 64 s (State.dropOvf s w i) := by
  unfold State.dropOvf
  exact (Keeps.step (State.setBench_keeps ..) (by decide) (Keeps.refl _ _))

theorem State.addOvf_keeps (s : State) (w : Nat) (i : Nat) : Keeps 64 s (State.addOvf s w i) := by
  unfold State.addOvf
  exact (Keeps.step (State.setBench_keeps ..) (by decide) (Keeps.refl _ _))

theorem State.stageBuf_keeps (s : State) (w : Nat) (i : Nat) (valid : Bool) (how : Staged) : Keeps 65 s (State.stageBuf s w i valid how) := by
  unfold State.stageBuf
  extract_lets a0_0 a0_1
  have h_a0_0 : Keeps 65 s a0_0 := (Keeps.each (Keeps.refl _ _) (fun t1 y1 k1 => (Keeps.step (State.setEnt_keeps ..) (by decide) k1)))
  have h_a0_1 : Keeps 65 s a0_1 := by
    unfold a0_1
    clear_value a0_0
    split
    · exact (Keeps.ite h_a0_0 (Keeps.step (State.addOvf_keeps ..) (by decide) h_a0_0))
    · exact (Keeps.ite h_a0_0 (Keeps.step (State.dropOvf_keeps ..) (by decide) h_a0_0))
  exact (Keeps.step (State.stagedOne_keeps ..) (by decide) (Keeps.step (State.touch_keeps ..) (by decide) h_a0_1))

theorem State.restoreEntry_keeps (s : State) (w : Nat) (i : Nat) : Keeps 64 s (State.restoreEntry s w i) := by
  unfold State.restoreEntry
  exact (Keeps.each (Keeps.refl _ _) (fun t0 y0 k0 => (Keeps.step (State.setEnt_keeps ..) (by decide) k0)))

theorem State.clearDelta_keeps (s : State) : Keeps 65 s (State.clearDelta s) := by
  unfold State.clearDelta
  exact (Keeps.step (State.wr_keeps ..) (by decide) (Keeps.step (State.setBench_keeps ..) (by decide) (Keeps.refl _ _)))

/-! ## TrustOps -/

theorem State.setStg_keeps (s : State) (v : Nat) : Keeps 1 s (State.setStg s v) := by
  unfold State.setStg
  exact (Keeps.step (State.wr_keeps ..) (by decide) (Keeps.refl _ _))

/-! ## AuthOps -/

theorem State.setFvState_keeps (s : State) (c : Nat) (v : Nat) : Keeps 1 s (State.setFvState s c v) := by
  unfold State.setFvState
  exact (Keeps.step (State.wr_keeps ..) (by decide) (Keeps.refl _ _))

theorem State.setAonFv_keeps (s : State) (c : Nat) (fv : Nat) (ceil : Nat) : Keeps 262144 s (State.setAonFv s c fv ceil) := by
  unfold State.setAonFv
  exact (Keeps.step (State.setGuard_keeps ..) (by decide) (Keeps.refl _ _))

theorem State.ceilCheck_keeps (s : State) (c : Nat) : Keeps 262144 s (State.ceilCheck s c) := by
  unfold State.ceilCheck
  exact (Keeps.ite (Keeps.step (State.setGuard_keeps ..) (by decide) (Keeps.refl _ _)) (Keeps.refl _ _))

theorem State.takeFv_keeps (s : State) (c : Nat) (v : Nat) : Keeps 1610874881 s (State.takeFv s c v) := by
  unfold State.takeFv
  extract_lets a0_0 a0_1
  have h_a0_0 : Keeps 1610874881 s a0_0 := (Keeps.step (State.wr_keeps ..) (by decide) (Keeps.refl _ _))
  have h_a0_1 : Keeps 1610874881 s a0_1 := (Keeps.ite (Keeps.step (State.event_keeps ..) (by decide) (Keeps.step (State.setFvState_keeps ..) (by
      decide) h_a0_0)) h_a0_0)
  exact (Keeps.step (State.ceilCheck_keeps ..) (by decide) h_a0_1)

theorem State.reserveChanged_keeps (s : State) : Keeps 262144 s (State.reserveChanged s) := by
  unfold State.reserveChanged
  refine (Keeps.each (Keeps.refl _ _) ?_)
  refine (fun t0 y0 k0 => ?_)
  extract_lets a1_0
  have h_a1_0 : Keeps 262144 s a1_0 := by
    unfold a1_0
    split
    · exact (Keeps.ite (Keeps.step (State.setAonFv_keeps ..) (by decide) k0) k0)
    · exact k0
  exact (Keeps.step (State.ceilCheck_keeps ..) (by decide) h_a1_0)

theorem State.ceilWritten_keeps (s : State) (c : Nat) : Keeps 262144 s (State.ceilWritten s c) := by
  unfold State.ceilWritten
  extract_lets a0_0 a0_1
  have h_a0_0 : Keeps 262144 s a0_0 := (Keeps.step (State.setAonFv_keeps ..) (by decide) (Keeps.refl _ _))
  exact (Keeps.step (State.setGuard_keeps ..) (by decide) h_a0_0)

theorem State.ceilWait_keeps (s : State) (c : Nat) : Keeps 1610874881 s (State.ceilWait s c) := by
  unfold State.ceilWait
  exact (Keeps.step (State.setGuard_keeps ..) (by decide) (Keeps.step (State.sticky_keeps ..) (by decide) (Keeps.refl _ _)))

theorem State.authStart_keeps (s : State) (c : Nat) : Keeps 262145 s (State.authStart s c) := by
  unfold State.authStart
  extract_lets a0_0 a0_1 a0_2 a0_3 a0_4 a0_5 a0_6
  have h_a0_3 : Keeps 262145 s a0_3 := (Keeps.step (State.setGuard_keeps ..) (by decide) (Keeps.refl _ _))
  have h_a0_5 : Keeps 262145 s a0_5 := (Keeps.ite (Keeps.refl _ _) (Keeps.step (State.setAonFv_keeps ..) (by decide) (Keeps.step (State.wr_keeps ..)
      (by decide) h_a0_3)))
  have h_a0_6 : Keeps 262145 s a0_6 := (Keeps.step (State.setFvState_keeps ..) (by decide) h_a0_5)
  exact (Keeps.step (State.ceilCheck_keeps ..) (by decide) h_a0_6)

theorem State.authWriteBack_keeps (s : State) : Keeps 262144 s (State.authWriteBack s) := by
  unfold State.authWriteBack
  refine (Keeps.each (Keeps.refl _ _) ?_)
  refine (fun t0 y0 k0 => ?_)
  extract_lets a1_0 a1_1
  have h_a1_0 : Keeps 262144 s a1_0 := (Keeps.step (State.setAonFv_keeps ..) (by decide) k0)
  exact (Keeps.step (State.setGuard_keeps ..) (by decide) h_a1_0)

theorem State.authRestore_keeps (s : State) : Keeps 1610612737 s (State.authRestore s) := by
  unfold State.authRestore
  extract_lets a0_0
  have h_a0_0 : Keeps 1610612737 s a0_0 := (Keeps.each (Keeps.refl _ _) (fun t1 y1 k1 => (Keeps.step (State.wr_keeps ..) (by decide) k1)))
  exact (Keeps.ite h_a0_0 (Keeps.step (State.event_keeps ..) (by decide) (Keeps.step (State.sticky_keeps ..) (by decide) h_a0_0)))

theorem State.authReload_keeps (s : State) : Keeps 1 s (State.authReload s) := by
  unfold State.authReload
  refine (Keeps.each (Keeps.refl _ _) ?_)
  refine (fun t0 y0 k0 => ?_)
  split
  · exact (Keeps.step (State.wr_keeps ..) (by decide) k0)
  · exact k0

theorem State.authClear_keeps (s : State) : Keeps 262145 s (State.authClear s) := by
  unfold State.authClear
  extract_lets a0_0 a0_1 a0_2 a0_3
  have h_a0_0 : Keeps 262145 s a0_0 := (Keeps.each (Keeps.refl _ _) (fun t1 y1 k1 => (Keeps.step (State.setFvState_keeps ..) (by decide) (Keeps.step
      (State.wr_keeps ..) (by decide) k1))))
  have h_a0_1 : Keeps 262145 s a0_1 := (Keeps.each h_a0_0 (fun t2 y2 k2 => (Keeps.step (State.wr_keeps ..) (by decide) k2)))
  have h_a0_3 : Keeps 262145 s a0_3 := (Keeps.step (State.setGuard_keeps ..) (by decide) h_a0_1)
  exact (Keeps.step (State.wr_keeps ..) (by decide) (Keeps.step (State.wr_keeps ..) (by decide) h_a0_3))

theorem State.offerEpoch_keeps (s : State) (e : Nat) : Keeps 1610874881 s (State.offerEpoch s e) := by
  unfold State.offerEpoch
  refine (Keeps.ite (Keeps.step (State.sticky_keeps ..) (by decide) (Keeps.refl _ _)) ?_)
  extract_lets a0_0 a0_1 a0_2
  have h_a0_0 : Keeps 1610874881 s a0_0 := (Keeps.step (State.wr_keeps ..) (by decide) (Keeps.step (State.wr_keeps ..) (by decide) (Keeps.refl _ _)))
  have h_a0_2 : Keeps 1610874881 s a0_2 := by
    unfold a0_2
    clear_value a0_0 a0_1
    refine (Keeps.each h_a0_0 ?_)
    refine (fun t1 y1 k1 => ?_)
    refine (Keeps.ite k1 ?_)
    extract_lets a2_0 a2_1
    have h_a2_0 : Keeps 1610874881 s a2_0 := (Keeps.step (State.setFvState_keeps ..) (by decide) (Keeps.step (State.setAonFv_keeps ..) (by decide)
        (Keeps.step (State.wr_keeps ..) (by decide) k1)))
    exact (Keeps.step (State.setGuard_keeps ..) (by decide) h_a2_0)
  exact (Keeps.step (State.event_keeps ..) (by decide) h_a0_2)

theorem State.cmacWork_keeps (s : State) (e : Nat) (n : Nat) : Keeps 1073741825 s (State.cmacWork s e n) := by
  unfold State.cmacWork
  exact (Keeps.step (State.count_keeps ..) (by decide) (Keeps.refl _ _))

theorem State.authFailed_keeps (s : State) (c : Nat) (reason : Nat) (monitored : Bool) : Keeps 1610612737 s (State.authFailed s c reason monitored)
    := by
  unfold State.authFailed
  extract_lets a0_0 a0_1 a0_2
  have h_a0_1 : Keeps 1610612737 s a0_1 := (Keeps.ite (Keeps.step (State.sticky_keeps ..) (by decide) (Keeps.refl _ _)) (Keeps.ite (Keeps.step
      (State.sticky_keeps ..) (by decide) (Keeps.refl _ _)) (Keeps.ite (Keeps.step (State.sticky_keeps ..) (by decide) (Keeps.refl _ _)) (Keeps.ite
      (Keeps.step (State.sticky_keeps ..) (by decide) (Keeps.refl _ _)) (Keeps.refl _ _)))))
  have h_a0_2 : Keeps 1610612737 s a0_2 := (Keeps.ite (Keeps.step (State.count_keeps ..) (by decide) h_a0_1) (Keeps.ite (Keeps.step
      (State.count_keeps ..) (by decide) h_a0_1) (Keeps.ite (Keeps.step (State.count_keeps ..) (by decide) h_a0_1) (Keeps.step (State.count_keeps
      ..) (by decide) h_a0_1))))
  exact (Keeps.step (State.count_keeps ..) (by decide) h_a0_2)

theorem State.verified_keeps (s : State) (c : Nat) (cand : Nat) : Keeps 1610874881 s (State.verified s c cand) := by
  unfold State.verified
  exact (Keeps.step (State.count_keeps ..) (by decide) (Keeps.ite (Keeps.step (State.takeFv_keeps ..) (by decide) (Keeps.refl _ _)) (Keeps.refl _ _)))

theorem State.authVerify_keeps (s : State) (g : Nat) (c : Nat) (e : Nat) (d : List Nat) : KeepsP 1610874881 s (State.authVerify s g c e d) := by
  unfold State.authVerify
  extract_lets a0_0 a0_1 a0_2 a0_3 a0_4 a0_5 a0_6 a0_7 a0_8 a0_9 a0_10
  have h_a0_10 : Keeps 1610874881 s a0_10 := (Keeps.step (State.cmacWork_keeps ..) (by decide) (Keeps.refl _ _))
  exact (KeepsP.ite (KeepsP.mk (Keeps.step (State.event_keeps ..) (by decide) (Keeps.step (State.authFailed_keeps ..) (by decide) (Keeps.refl _
      _)))) (KeepsP.ite (KeepsP.mk (Keeps.step (State.event_keeps ..) (by decide) (Keeps.step (State.authFailed_keeps ..) (by decide) (Keeps.refl _
      _)))) (KeepsP.ite (KeepsP.ite (KeepsP.mk (Keeps.step (State.event_keeps ..) (by decide) (Keeps.step (State.authFailed_keeps ..) (by decide)
      (Keeps.refl _ _)))) (KeepsP.mk (Keeps.step (State.event_keeps ..) (by decide) (Keeps.step (State.authFailed_keeps ..) (by decide) (Keeps.refl
      _ _))))) (KeepsP.ite (KeepsP.ite (KeepsP.mk (Keeps.step (State.event_keeps ..) (by decide) (Keeps.step (State.authFailed_keeps ..) (by decide)
      (Keeps.refl _ _)))) (KeepsP.mk (Keeps.step (State.event_keeps ..) (by decide) (Keeps.step (State.authFailed_keeps ..) (by decide) (Keeps.refl
      _ _))))) (KeepsP.ite (KeepsP.ite (KeepsP.mk (Keeps.step (State.event_keeps ..) (by decide) (Keeps.step (State.authFailed_keeps ..) (by decide)
      (Keeps.refl _ _)))) (KeepsP.mk (Keeps.step (State.event_keeps ..) (by decide) (Keeps.step (State.authFailed_keeps ..) (by decide) (Keeps.refl
      _ _))))) (KeepsP.ite (KeepsP.ite (KeepsP.mk (Keeps.step (State.event_keeps ..) (by decide) (Keeps.step (State.authFailed_keeps ..) (by decide)
      h_a0_10))) (KeepsP.mk (Keeps.step (State.event_keeps ..) (by decide) (Keeps.step (State.authFailed_keeps ..) (by decide) h_a0_10))))
      (KeepsP.ite (KeepsP.mk (Keeps.step (State.ceilWait_keeps ..) (by decide) h_a0_10)) (KeepsP.mk (Keeps.step (State.verified_keeps ..) (by
      decide) h_a0_10)))))))))

theorem State.authAppend_keeps (s : State) (c : Nat) (e : Nat) (d : List Nat) (limit : Nat) (form : Bool) : KeepsP 1610874881 s (State.authAppend s
    c e d limit form) := by
  unfold State.authAppend
  extract_lets a0_0 a0_1 a0_2 a0_3
  have h_a0_3 : Keeps 1610874881 s a0_3 := (Keeps.step (State.takeFv_keeps ..) (by decide) (Keeps.step (State.cmacWork_keeps ..) (by decide)
      (Keeps.refl _ _)))
  exact (KeepsP.ite (KeepsP.mk (Keeps.step (State.authFailed_keeps ..) (by decide) (Keeps.refl _ _))) (KeepsP.ite (KeepsP.mk (Keeps.step
      (State.authFailed_keeps ..) (by decide) (Keeps.refl _ _))) (KeepsP.ite (KeepsP.mk (Keeps.step (State.authFailed_keeps ..) (by decide)
      (Keeps.refl _ _))) (KeepsP.ite (KeepsP.mk (Keeps.step (State.authFailed_keeps ..) (by decide) (Keeps.refl _ _))) (KeepsP.ite (KeepsP.mk
      (Keeps.step (State.authFailed_keeps ..) (by decide) (Keeps.refl _ _))) (KeepsP.ite (KeepsP.mk (Keeps.step (State.ceilWait_keeps ..) (by
      decide) (Keeps.refl _ _))) (KeepsP.mk (Keeps.step (State.count_keeps ..) (by decide) h_a0_3))))))))

/-! ## SignalOps -/

theorem State.sinkSend_keeps (s : State) (i : Nat) : Keeps 1611137025 s (State.sinkSend s i) := by
  unfold State.sinkSend
  extract_lets a0_0 a0_1 a0_2 a0_3 a0_4
  clear_value a0_0 a0_1 a0_2 a0_3 a0_4
  refine (Keeps.ite (Keeps.refl _ _) ?_)
  split
  · exact (Keeps.step (State.event_keeps ..) (by decide) (Keeps.step (State.sticky_keeps ..) (by decide) (Keeps.refl _ _)))
  · exact (Keeps.step (State.setGw_keeps ..) (by decide) (Keeps.refl _ _))

theorem State.setBq_keeps (s : State) (e : Nat) (l : List Nat) : Keeps 524288 s (State.setBq s e l) := by
  unfold State.setBq
  exact (Keeps.step (State.setGw_keeps ..) (by decide) (Keeps.refl _ _))

theorem State.setExq_keeps (s : State) (e : Nat) (l : List EngineWork) : Keeps 524288 s (State.setExq s e l) := by
  unfold State.setExq
  exact (Keeps.step (State.setGw_keeps ..) (by decide) (Keeps.refl _ _))

theorem State.sendDone_keeps (s : State) (j : Nat) : Keeps 1611137025 s (State.sendDone s j) := by
  unfold State.sendDone
  exact (Keeps.ite (Keeps.step (State.event_keeps ..) (by decide) (Keeps.step (State.wr_keeps ..) (by decide) (Keeps.step (State.setGw_keeps ..) (by
      decide) (Keeps.refl _ _)))) (Keeps.refl _ _))

theorem State.buildSkip_keeps (s : State) : Keeps 1610612737 s (State.buildSkip s) := by
  unfold State.buildSkip
  exact (Keeps.step (State.event_keeps ..) (by decide) (Keeps.step (State.sticky_keeps ..) (by decide) (Keeps.step (State.count_keeps ..) (by
      decide) (Keeps.refl _ _))))

theorem State.buildDue_keeps (s : State) (j : Nat) : Keeps 1611137025 s (State.buildDue s j) := by
  unfold State.buildDue
  extract_lets a0_0 a0_1
  exact (Keeps.ite (Keeps.step (State.buildSkip_keeps ..) (by decide) (Keeps.refl _ _)) (Keeps.step (State.setBq_keeps ..) (by decide) (Keeps.step
      (State.setGw_keeps ..) (by decide) (Keeps.refl _ _))))

theorem State.sendBuild_keeps (s : State) (j : Nat) : Keeps 1611137025 s (State.sendBuild s j) := by
  unfold State.sendBuild
  refine (Keeps.ite (Keeps.refl _ _) ?_)
  extract_lets a0_0 a0_1
  have h_a0_1 : Keeps 1611137025 s a0_1 := (Keeps.step (State.setGw_keeps ..) (by decide) (Keeps.step (State.wr_keeps ..) (by decide) (Keeps.refl _
      _)))
  exact (Keeps.ite (Keeps.step (State.sendDone_keeps ..) (by decide) (Keeps.step (State.buildSkip_keeps ..) (by decide) h_a0_1)) (Keeps.step
      (State.buildDue_keeps ..) (by decide) h_a0_1))

theorem State.pduTrigger_keeps (s : State) (j : Nat) : Keeps 1611137025 s (State.pduTrigger s j) := by
  unfold State.pduTrigger
  extract_lets a0_0 a0_1 a0_2 a0_3
  exact (Keeps.ite (Keeps.refl _ _) (Keeps.ite (Keeps.step (State.setGw_keeps ..) (by decide) (Keeps.refl _ _)) (Keeps.step (State.setGw_keeps ..)
      (by decide) (Keeps.step (State.buildDue_keeps ..) (by decide) (Keeps.refl _ _)))))

theorem State.sigChanged_keeps (s : State) (i : Nat) : Keeps 1611137025 s (State.sigChanged s i) := by
  unfold State.sigChanged
  extract_lets a0_0
  have h_a0_0 : Keeps 1611137025 s a0_0 := (Keeps.ite (Keeps.each (Keeps.refl _ _) (fun t1 y1 k1 => (Keeps.step (State.pduTrigger_keeps ..) (by
      decide) k1))) (Keeps.refl _ _))
  exact (Keeps.step (State.sinkSend_keeps ..) (by decide) h_a0_0)

theorem State.sigStore_keeps (s : State) (i : Nat) (v : Nat) : Keeps 1611399169 s (State.sigStore s i v) := by
  unfold State.sigStore
  extract_lets a0_0 a0_1 a0_2 a0_3 a0_4 a0_5
  have h_a0_2 : Keeps 1611399169 s a0_2 := (Keeps.step (State.wr_keeps ..) (by decide) (Keeps.step (State.wr_keeps ..) (by decide) (Keeps.refl _ _)))
  have h_a0_4 : Keeps 1611399169 s a0_4 := (Keeps.step (State.setGw_keeps ..) (by decide) h_a0_2)
  have h_a0_5 : Keeps 1611399169 s a0_5 := (Keeps.ite (Keeps.step (State.sigChanged_keeps ..) (by decide) h_a0_4) (Keeps.ite (Keeps.step
      (State.sinkSend_keeps ..) (by decide) h_a0_4) h_a0_4))
  exact (Keeps.ite (Keeps.step (State.offerEpoch_keeps ..) (by decide) h_a0_5) h_a0_5)

theorem State.sigInit_keeps (s : State) (i : Nat) : Keeps 1611137025 s (State.sigInit s i) := by
  unfold State.sigInit
  extract_lets a0_0 a0_1
  have h_a0_1 : Keeps 1611137025 s a0_1 := (Keeps.step (State.wr_keeps ..) (by decide) (Keeps.step (State.wr_keeps ..) (by decide) (Keeps.refl _ _)))
  exact (Keeps.ite (Keeps.step (State.sinkSend_keeps ..) (by decide) h_a0_1) h_a0_1)

theorem State.sigResetAll_keeps (s : State) : Keeps 1611137025 s (State.sigResetAll s) := by
  unfold State.sigResetAll
  extract_lets a0_0
  exact (Keeps.each (Keeps.refl _ _) (fun t1 y1 k1 => (Keeps.ite (Keeps.step (State.sigInit_keeps ..) (by decide) k1) (Keeps.step (State.wr_keeps
      ..) (by decide) (Keeps.step (State.wr_keeps ..) (by decide) k1)))))

theorem State.sigInstall_keeps (s : State) (i : Nat) : Keeps 1611137025 s (State.sigInstall s i) := by
  unfold State.sigInstall
  exact (Keeps.step (State.sinkSend_keeps ..) (by decide) (Keeps.step (State.wr_keeps ..) (by decide) (Keeps.step (State.wr_keeps ..) (by decide)
      (Keeps.step (State.setGw_keeps ..) (by decide) (Keeps.refl _ _)))))

theorem State.sigTimeout_keeps (s : State) (i : Nat) : Keeps 1611137025 s (State.sigTimeout s i) := by
  unfold State.sigTimeout
  extract_lets a0_0 a0_1 a0_2 a0_3
  have h_a0_2 : Keeps 1611137025 s a0_2 := (Keeps.step (State.wr_keeps ..) (by decide) (Keeps.refl _ _))
  have h_a0_3 : Keeps 1611137025 s a0_3 := (Keeps.step (State.event_keeps ..) (by decide) (Keeps.step (State.sticky_keeps ..) (by decide)
      (Keeps.step (State.count_keeps ..) (by decide) h_a0_2)))
  exact (Keeps.ite (Keeps.refl _ _) (Keeps.ite (Keeps.step (State.sigChanged_keeps ..) (by decide) (Keeps.step (State.wr_keeps ..) (by decide)
      h_a0_3)) h_a0_3))

theorem State.extractOne_keeps (s : State) (e : Nat) (d : List Nat) (g : Nat) (i : Nat) : Keeps 1611399169 s (State.extractOne s e d g i) := by
  unfold State.extractOne
  extract_lets a0_0 a0_1 a0_2 a0_3 a0_4
  exact (Keeps.ite (Keeps.refl _ _) (Keeps.ite (Keeps.step (State.event_keeps ..) (by decide) (Keeps.step (State.sticky_keeps ..) (by decide)
      (Keeps.step (State.count_keeps ..) (by decide) (Keeps.refl _ _)))) (Keeps.ite (Keeps.refl _ _) (Keeps.step (State.count_keeps ..) (by decide)
      (Keeps.step (State.sigStore_keeps ..) (by decide) (Keeps.refl _ _))))))

theorem State.seLost_keeps (s : State) (e : Nat) : Keeps 1610612737 s (State.seLost s e) := by
  unfold State.seLost
  extract_lets a0_0
  have h_a0_0 : Keeps 1610612737 s a0_0 := (Keeps.step (State.count_keeps ..) (by decide) (Keeps.refl _ _))
  exact (Keeps.ite h_a0_0 (Keeps.step (State.event_keeps ..) (by decide) (Keeps.step (State.sticky_keeps ..) (by decide) h_a0_0)))

theorem State.report_keeps (s : State) (i : Nat) (v : Nat) : Keeps 1611137025 s (State.report s i v) := by
  unfold State.report
  extract_lets a0_0
  exact (Keeps.ite (Keeps.step (State.seLost_keeps ..) (by decide) (Keeps.refl _ _)) (Keeps.step (State.setExq_keeps ..) (by decide) (Keeps.refl _
      _)))

theorem bodyReport_keeps (i : Nat) (s : State) : Keeps 1611137025 s (bodyReport i s) := by
  unfold bodyReport
  extract_lets a0_0 a0_1
  clear_value a0_0 a0_1
  refine (Keeps.ite (Keeps.refl _ _) ?_)
  split
  · exact (Keeps.refl _ _)
  · exact (Keeps.ite (Keeps.step (State.report_keeps ..) (by decide) (Keeps.step (State.setGw_keeps ..) (by decide) (Keeps.refl _ _))) (Keeps.refl _
      _))

theorem State.unitReports_keeps (s : State) (src : Nat) (u : Nat) : Keeps 1611137025 s (State.unitReports s src u) := by
  unfold State.unitReports
  exact (Keeps.each (Keeps.refl _ _) (fun t0 y0 k0 => (Keeps.step (bodyReport_keeps ..) (by decide) k0)))

theorem State.seServed_keeps (s : State) (e : Nat) (what : Nat) : Keeps 524288 s (State.seServed s e what) := by
  unfold State.seServed
  exact (Keeps.step (State.setGw_keeps ..) (by decide) (Keeps.refl _ _))

/-! ## TableOps -/

theorem State.setL2_keeps (s : State) (l : List L2Way) : Keeps 512 s (State.setL2 s l) := by
  unfold State.setL2
  exact (Keeps.step (State.setTbl_keeps ..) (by decide) (Keeps.refl _ _))

theorem State.l2Map_keeps (s : State) (w : L2Way) (f : L2Way → L2Way) : Keeps 512 s (State.l2Map s w f) := by
  unfold State.l2Map
  exact (Keeps.step (State.setL2_keeps ..) (by decide) (Keeps.refl _ _))

theorem State.l2Hit_keeps (s : State) (w : L2Way) : Keeps 512 s (State.l2Hit s w) := by
  unfold State.l2Hit
  exact (Keeps.ite (Keeps.refl _ _) (Keeps.step (State.l2Map_keeps ..) (by decide) (Keeps.refl _ _)))

theorem State.l2Add_keeps (s : State) (w : L2Way) : Keeps 512 s (State.l2Add s w) := by
  unfold State.l2Add
  exact (Keeps.step (State.setL2_keeps ..) (by decide) (Keeps.refl _ _))

theorem State.l2Drop_keeps (s : State) (w : L2Way) : Keeps 512 s (State.l2Drop s w) := by
  unfold State.l2Drop
  exact (Keeps.step (State.setL2_keeps ..) (by decide) (Keeps.refl _ _))

theorem State.learnRequest_keeps (s : State) (fid : Nat) (mac : Nat) (n : Nat) : Keeps 1610613249 s (State.learnRequest s fid mac n) := by
  unfold State.learnRequest
  exact (Keeps.ite (Keeps.refl _ _) (Keeps.ite (Keeps.step (State.event_keeps ..) (by decide) (Keeps.step (State.count_keeps ..) (by decide)
      (Keeps.step (State.sticky_keeps ..) (by decide) (Keeps.refl _ _)))) (Keeps.step (State.setTbl_keeps ..) (by decide) (Keeps.refl _ _))))

theorem State.sourceLookup_keeps (s : State) (g : Nat) (vid : Nat) (fid : Nat) (sa : Nat) (n : Nat) : KeepsP 1610613249 s (State.sourceLookup s g
    vid fid sa n) := by
  unfold State.sourceLookup
  split
  · extract_lets a1_0 a1_1
    have h_a1_0 : Keeps 1610613249 s a1_0 := (Keeps.step (State.l2Hit_keeps ..) (by decide) (Keeps.refl _ _))
    exact (KeepsP.ite (KeepsP.mk h_a1_0) (KeepsP.ite (KeepsP.mk h_a1_0) (KeepsP.ite (KeepsP.mk (Keeps.step (State.count_keeps ..) (by decide)
        (Keeps.step (State.l2Map_keeps ..) (by decide) h_a1_0))) (KeepsP.mk h_a1_0))))
  · exact (KeepsP.mk (Keeps.ite (Keeps.step (State.learnRequest_keeps ..) (by decide) (Keeps.refl _ _)) (Keeps.refl _ _)))

/-! ## DrkPeer -/

theorem State.setPeer_keeps (s : State) (n : Nat) (x : Peer) : Keeps 33554432 s (State.setPeer s n x) := by
  unfold State.setPeer
  exact (Keeps.step (State.setDrk_keeps ..) (by decide) (Keeps.refl _ _))

theorem State.setPeerState_keeps (s : State) (n : Nat) (v : Nat) : Keeps 1 s (State.setPeerState s n v) := by
  unfold State.setPeerState
  exact (Keeps.step (State.wr_keeps ..) (by decide) (Keeps.refl _ _))

theorem State.setLane_keeps (s : State) (n : Nat) (k : Nat) (l : Lane) : Keeps 33554432 s (State.setLane s n k l) := by
  unfold State.setLane
  exact (Keeps.step (State.setPeer_keeps ..) (by decide) (Keeps.refl _ _))

theorem State.sendOwn_keeps (s : State) (n : Nat) (tc : Nat) (data : List Nat) (stamp : Option StampAsk) : Keeps 1610613905 s (State.sendOwn s n tc
    data stamp) := by
  unfold State.sendOwn
  extract_lets a0_0 a0_1 a0_2 a0_3 a0_4 a0_5 a0_6
  have h_a0_3 : Keeps 1610613905 s a0_3 := (Keeps.step (State.addFrame_keeps ..) (by decide) (Keeps.refl _ _))
  have h_a0_5 : Keeps 1610613905 s a0_5 := (Keeps.step (State.setFab_keeps ..) (by decide) h_a0_3)
  exact (Keeps.ite (Keeps.step (State.hopEnqueue_keeps ..) (by decide) h_a0_5) (Keeps.refl _ _))

theorem State.kmpOut_keeps (s : State) (n : Nat) (f : KmpFrame) : Keeps 1644168337 s (State.kmpOut s n f) := by
  unfold State.kmpOut
  extract_lets a0_0 a0_1
  exact (Keeps.step (State.sendOwn_keeps ..) (by decide) (Keeps.step (State.setPeer_keeps ..) (by decide) (Keeps.step (State.count_keeps ..) (by
      decide) (Keeps.refl _ _))))

theorem State.laneStep_keeps (s : State) (n : Nat) (k : Nat) : Keeps 1644168337 s (State.laneStep s n k) := by
  unfold State.laneStep
  extract_lets a0_0
  clear_value a0_0
  split
  · exact (Keeps.refl _ _)
  · exact (Keeps.ite (Keeps.step (State.kmpOut_keeps ..) (by decide) (Keeps.step (State.setLane_keeps ..) (by decide) (Keeps.refl _ _))) (Keeps.refl
      _ _))

theorem State.lanesFlow_keeps (s : State) (n : Nat) : Keeps 1644168337 s (State.lanesFlow s n) := by
  unfold State.lanesFlow
  exact (Keeps.each (Keeps.refl _ _) (fun t0 y0 k0 => (Keeps.iter _ k0 (fun t1 k1 => (Keeps.step (State.laneStep_keeps ..) (by decide) k1)))))

theorem State.kmpPush_keeps (s : State) (n : Nat) (f : KmpFrame) : Keeps 1644168337 s (State.kmpPush s n f) := by
  unfold State.kmpPush
  extract_lets a0_0 a0_1 a0_2 a0_3
  have h_a0_2 : Keeps 1644168337 s a0_2 := (Keeps.step (State.setLane_keeps ..) (by decide) (Keeps.refl _ _))
  exact (Keeps.step (State.lanesFlow_keeps ..) (by decide) (Keeps.ite (Keeps.step (State.setPeer_keeps ..) (by decide) h_a0_2) h_a0_2))

theorem State.kmpLoose_keeps (s : State) (n : Nat) (ty : Nat) (body : List Nat) : Keeps 1644168337 s (State.kmpLoose s n ty body) := by
  unfold State.kmpLoose
  exact (Keeps.step (State.kmpOut_keeps ..) (by decide) (Keeps.refl _ _))

theorem State.sendHello_keeps (s : State) (n : Nat) : Keeps 1644168337 s (State.sendHello s n) := by
  unfold State.sendHello
  exact (Keeps.step (State.kmpLoose_keeps ..) (by decide) (Keeps.refl _ _))

theorem State.sendKeepalive_keeps (s : State) (n : Nat) : Keeps 1644168337 s (State.sendKeepalive s n) := by
  unfold State.sendKeepalive
  exact (Keeps.step (State.kmpLoose_keeps ..) (by decide) (Keeps.refl _ _))

theorem State.laneAck_keeps (s : State) (n : Nat) (k : Nat) (ack : Nat) : Keeps 33554432 s (State.laneAck s n k ack) := by
  unfold State.laneAck
  extract_lets a0_0
  clear_value a0_0
  split
  · exact (Keeps.refl _ _)
  · extract_lets a3_0
    exact (Keeps.ite (Keeps.step (State.setLane_keeps ..) (by decide) (Keeps.refl _ _)) (Keeps.refl _ _))

theorem State.drkRecord_keeps (s : State) (peer : Nat) (kind : Nat) (addr : Nat) : Keeps 1 s (State.drkRecord s peer kind addr) := by
  unfold State.drkRecord
  exact (Keeps.ite (Keeps.step (State.wr_keeps ..) (by decide) (Keeps.step (State.wr_keeps ..) (by decide) (Keeps.step (State.wr_keeps ..) (by
      decide) (Keeps.refl _ _)))) (Keeps.refl _ _))

theorem State.remErr_keeps (s : State) : Keeps 1610612737 s (State.remErr s) := by
  unfold State.remErr
  exact (Keeps.step (State.event_keeps ..) (by decide) (Keeps.step (State.sticky_keeps ..) (by decide) (Keeps.refl _ _)))

theorem State.faceFail_keeps (s : State) (why : ReadFor) : Keeps 1610612752 s (State.faceFail s why) := by
  unfold State.faceFail
  split
  · split
    · exact (Keeps.ite (Keeps.step (State.setHost_keeps ..) (by decide) (Keeps.refl _ _)) (Keeps.refl _ _))
    · exact (Keeps.refl _ _)
  · exact (Keeps.step (State.emit_keeps ..) (by decide) (Keeps.refl _ _))
  · exact (Keeps.step (State.emit_keeps ..) (by decide) (Keeps.refl _ _))
  · exact (Keeps.refl _ _)
  · exact (Keeps.refl _ _)
  · exact (Keeps.refl _ _)

theorem State.readFail_keeps (s : State) (r : OutRead) (reason : Nat) : Keeps 1644168209 s (State.readFail s r reason) := by
  unfold State.readFail
  extract_lets a0_0 a0_1 a0_2
  have h_a0_1 : Keeps 1644168209 s a0_1 := (Keeps.step (State.setDrk_keeps ..) (by decide) (Keeps.refl _ _))
  have h_a0_2 : Keeps 1644168209 s a0_2 := (Keeps.step (State.count_keeps ..) (by decide) h_a0_1)
  exact (Keeps.ite h_a0_1 (Keeps.ite (Keeps.step (State.remErr_keeps ..) (by decide) h_a0_2) (Keeps.step (State.faceFail_keeps ..) (by decide)
      (Keeps.step (State.endOther_keeps ..) (by decide) (Keeps.step (State.remErr_keeps ..) (by decide) (Keeps.step (State.drkRecord_keeps ..) (by
      decide) h_a0_2))))))

theorem State.sendRead_keeps (s : State) (r : OutRead) : Keeps 1644168337 s (State.sendRead s r) := by
  unfold State.sendRead
  extract_lets a0_0 a0_1 a0_2
  have h_a0_2 : Keeps 1644168337 s a0_2 := (Keeps.step (State.setDrk_keeps ..) (by decide) (Keeps.refl _ _))
  exact (Keeps.step (State.kmpPush_keeps ..) (by decide) h_a0_2)

theorem State.startRead_keeps (s : State) (r : OutRead) : Keeps 1644168337 s (State.startRead s r) := by
  unfold State.startRead
  exact (Keeps.ite (Keeps.step (State.sendRead_keeps ..) (by decide) (Keeps.refl _ _)) (Keeps.step (State.setDrk_keeps ..) (by decide) (Keeps.refl _
      _)))

theorem State.bridgeRead_keeps (s : State) (why : ReadFor) (peer : Nat) (addr : Nat) (len : Nat) : Keeps 1644168337 s (State.bridgeRead s why peer
    addr len) := by
  unfold State.bridgeRead
  exact (Keeps.step (State.startRead_keeps ..) (by decide) (Keeps.refl _ _))

theorem State.fetchNext_keeps (s : State) : Keeps 1644168337 s (State.fetchNext s) := by
  unfold State.fetchNext
  refine (Keeps.ite (Keeps.refl _ _) ?_)
  split
  · exact (Keeps.step (State.sendRead_keeps ..) (by decide) (Keeps.step (State.setDrk_keeps ..) (by decide) (Keeps.refl _ _)))
  · exact (Keeps.refl _ _)
  · extract_lets a3_0 a3_1
    have h_a3_1 : Keeps 1644168337 s a3_1 := (Keeps.step (State.setDrk_keeps ..) (by decide) (Keeps.refl _ _))
    exact (Keeps.ite (Keeps.step (State.bridgeRead_keeps ..) (by decide) h_a3_1) h_a3_1)

theorem State.fetchFlow_keeps (s : State) : Keeps 1644168337 s (State.fetchFlow s) := by
  unfold State.fetchFlow
  exact (Keeps.iter _ (Keeps.refl _ _) (fun t0 k0 => (Keeps.step (State.fetchNext_keeps ..) (by decide) k0)))

theorem State.fetch_keeps (s : State) (i : Nat) : Keeps 1644168337 s (State.fetch s i) := by
  unfold State.fetch
  exact (Keeps.step (State.fetchFlow_keeps ..) (by decide) (Keeps.step (State.setDrk_keeps ..) (by decide) (Keeps.refl _ _)))

theorem State.loseSpiReads_keeps (s : State) : Keeps 33554432 s (State.loseSpiReads s) := by
  unfold State.loseSpiReads
  extract_lets a0_0 a0_1
  exact (Keeps.step (State.setDrk_keeps ..) (by decide) (Keeps.refl _ _))

theorem State.peerAccount_keeps (s : State) (n : Nat) : Keeps 1644168337 s (State.peerAccount s n) := by
  unfold State.peerAccount
  extract_lets a0_0 a0_1 a0_2 a0_3 a0_4 a0_5 a0_6 a0_7 a0_8 a0_9
  have h_a0_0 : Keeps 1644168337 s a0_0 := (Keeps.each (Keeps.refl _ _) (fun t1 y1 k1 => (Keeps.step (State.readFail_keeps ..) (by decide) k1)))
  have h_a0_3 : Keeps 1644168337 s a0_3 := (Keeps.each h_a0_0 (fun t2 y2 k2 => (Keeps.step (State.endOther_keeps ..) (by decide) (Keeps.step
      (State.count_keeps ..) (by decide) k2))))
  have h_a0_5 : Keeps 1644168337 s a0_5 := (Keeps.ite h_a0_3 (Keeps.step (State.count_keeps ..) (by decide) (Keeps.step (State.sticky_keeps ..) (by
      decide) h_a0_3)))
  have h_a0_6 : Keeps 1644168337 s a0_6 := (Keeps.step (State.setPeer_keeps ..) (by decide) h_a0_5)
  have h_a0_8 : Keeps 1644168337 s a0_8 := (Keeps.step (State.setDrk_keeps ..) (by decide) h_a0_6)
  have h_a0_9 : Keeps 1644168337 s a0_9 := (Keeps.step (State.wr_keeps ..) (by decide) (Keeps.step (State.wr_keeps ..) (by decide) (Keeps.step
      (State.wr_keeps ..) (by decide) h_a0_8)))
  exact (Keeps.step (State.fetchFlow_keeps ..) (by decide) (Keeps.step (State.wr_keeps ..) (by decide) h_a0_9))

theorem State.peerLost_keeps (s : State) (n : Nat) : Keeps 1644168337 s (State.peerLost s n) := by
  unfold State.peerLost
  exact (Keeps.step (State.event_keeps ..) (by decide) (Keeps.step (State.setPeerState_keeps ..) (by decide) (Keeps.step (State.sticky_keeps ..) (by
      decide) (Keeps.step (State.peerAccount_keeps ..) (by decide) (Keeps.refl _ _)))))

theorem State.peerSync_keeps (s : State) (n : Nat) : Keeps 1644168337 s (State.peerSync s n) := by
  unfold State.peerSync
  refine (Keeps.ite (Keeps.ite (Keeps.step (State.sendHello_keeps ..) (by decide) (Keeps.step (State.setPeerState_keeps ..) (by decide) (Keeps.refl
      _ _))) (Keeps.refl _ _)) ?_)
  refine (Keeps.ite (Keeps.refl _ _) ?_)
  extract_lets a0_0 a0_1
  have h_a0_1 : Keeps 1644168337 s a0_1 := (Keeps.step (State.setPeerState_keeps ..) (by decide) (Keeps.step (State.peerAccount_keeps ..) (by
      decide) (Keeps.refl _ _)))
  exact (Keeps.ite (Keeps.step (State.sticky_keeps ..) (by decide) h_a0_1) h_a0_1)

/-! ## PortOps -/

theorem State.setEthState_keeps (s : State) (p : Nat) (v : Nat) : Keeps 1 s (State.setEthState s p v) := by
  unfold State.setEthState
  exact (Keeps.step (State.wr_keeps ..) (by decide) (Keeps.refl _ _))

theorem State.phyReset_keeps (s : State) (p : Nat) (low : Bool) : Keeps 256 s (State.phyReset s p low) := by
  unfold State.phyReset
  exact (Keeps.ite (Keeps.step (State.setEth_keeps ..) (by decide) (Keeps.refl _ _)) (Keeps.refl _ _))

theorem State.setPhyHeld_keeps (s : State) (p : Nat) (x : Bool) : Keeps 256 s (State.setPhyHeld s p x) := by
  unfold State.setPhyHeld
  exact (Keeps.step (State.setEth_keeps ..) (by decide) (Keeps.refl _ _))

theorem State.setMdioList_keeps (s : State) (p : Nat) (l : List Mdio) : Keeps 256 s (State.setMdioList s p l) := by
  unfold State.setMdioList
  exact (Keeps.step (State.setEth_keeps ..) (by decide) (Keeps.refl _ _))

theorem State.setSleepStep_keeps (s : State) (p : Nat) (x : SleepStep) : Keeps 256 s (State.setSleepStep s p x) := by
  unfold State.setSleepStep
  exact (Keeps.step (State.setEth_keeps ..) (by decide) (Keeps.refl _ _))

theorem State.train_keeps (s : State) (p : Nat) : Keeps 1644168593 s (State.train s p) := by
  unfold State.train
  extract_lets a0_0 a0_1 a0_2 a0_3
  have h_a0_0 : Keeps 1644168593 s a0_0 := (Keeps.step (State.wr_keeps ..) (by decide) (Keeps.step (State.setEthState_keeps ..) (by decide)
      (Keeps.refl _ _)))
  have h_a0_2 : Keeps 1644168593 s a0_2 := (Keeps.step (State.setEth_keeps ..) (by decide) h_a0_0)
  have h_a0_3 : Keeps 1644168593 s a0_3 := (Keeps.step (State.setPhyHeld_keeps ..) (by decide) h_a0_2)
  exact (Keeps.step (State.peerSync_keeps ..) (by decide) (Keeps.ite h_a0_3 (Keeps.step (State.phyReset_keeps ..) (by decide) h_a0_3)))

theorem State.trainFail_keeps (s : State) (p : Nat) : Keeps 1610612737 s (State.trainFail s p) := by
  unfold State.trainFail
  exact (Keeps.step (State.event_keeps ..) (by decide) (Keeps.step (State.count_keeps ..) (by decide) (Keeps.step (State.sticky_keeps ..) (by
      decide) (Keeps.refl _ _))))

theorem State.ethGoUp_keeps (s : State) (p : Nat) (rate : Nat) : Keeps 1644168593 s (State.ethGoUp s p rate) := by
  unfold State.ethGoUp
  extract_lets a0_0 a0_1
  have h_a0_0 : Keeps 1644168593 s a0_0 := (Keeps.step (State.event_keeps ..) (by decide) (Keeps.step (State.wr_keeps ..) (by decide) (Keeps.step
      (State.setEthState_keeps ..) (by decide) (Keeps.refl _ _))))
  exact (Keeps.step (State.peerSync_keeps ..) (by decide) (Keeps.step (State.readerUp_keeps ..) (by decide) (Keeps.step (State.setEth_keeps ..) (by
      decide) h_a0_0)))

theorem State.sleepFail_keeps (s : State) (p : Nat) : Keeps 1610612993 s (State.sleepFail s p) := by
  unfold State.sleepFail
  exact (Keeps.step (State.setSleepStep_keeps ..) (by decide) (Keeps.step (State.wr_keeps ..) (by decide) (Keeps.step (State.sticky_keeps ..) (by
      decide) (Keeps.refl _ _))))

theorem State.ethDrop_keeps (s : State) (p : Nat) : Keeps 1644430737 s (State.ethDrop s p) := by
  unfold State.ethDrop
  exact (Keeps.step (State.train_keeps ..) (by decide) (Keeps.step (State.readerDown_keeps ..) (by decide) (Keeps.step (State.event_keeps ..) (by
      decide) (Keeps.step (State.count_keeps ..) (by decide) (Keeps.refl _ _)))))

theorem State.linkLost_keeps (s : State) (p : Nat) : Keeps 1644430737 s (State.linkLost s p) := by
  unfold State.linkLost
  exact (Keeps.ite (Keeps.step (State.ethDrop_keeps ..) (by decide) (Keeps.step (State.sticky_keeps ..) (by decide) (Keeps.refl _ _))) (Keeps.ite
      (Keeps.step (State.ethDrop_keeps ..) (by decide) (Keeps.step (State.sticky_keeps ..) (by decide) (Keeps.step (State.sleepFail_keeps ..) (by
      decide) (Keeps.refl _ _)))) (Keeps.refl _ _)))

theorem State.sleepStart_keeps (s : State) (p : Nat) : Keeps 1644168593 s (State.sleepStart s p) := by
  unfold State.sleepStart
  exact (Keeps.ite (Keeps.step (State.peerSync_keeps ..) (by decide) (Keeps.step (State.setSleepStep_keeps ..) (by decide) (Keeps.step
      (State.wr_keeps ..) (by decide) (Keeps.step (State.setEthState_keeps ..) (by decide) (Keeps.refl _ _))))) (Keeps.refl _ _))

theorem State.sleepAbort_keeps (s : State) (p : Nat) : Keeps 1644168593 s (State.sleepAbort s p) := by
  unfold State.sleepAbort
  exact (Keeps.step (State.peerSync_keeps ..) (by decide) (Keeps.step (State.setEthState_keeps ..) (by decide) (Keeps.step (State.sleepFail_keeps
      ..) (by decide) (Keeps.refl _ _))))

theorem State.ethWake_keeps (s : State) (p : Nat) : Keeps 1644168593 s (State.ethWake s p) := by
  unfold State.ethWake
  refine (Keeps.ite ?_ (Keeps.ite (Keeps.step (State.sleepAbort_keeps ..) (by decide) (Keeps.refl _ _)) (Keeps.refl _ _)))
  extract_lets a0_0
  have h_a0_0 : Keeps 1644168593 s a0_0 := (Keeps.ite (Keeps.refl _ _) (Keeps.step (State.emit_keeps ..) (by decide) (Keeps.refl _ _)))
  exact (Keeps.step (State.train_keeps ..) (by decide) (Keeps.step (State.event_keeps ..) (by decide) h_a0_0))

theorem State.sleepDone_keeps (s : State) (p : Nat) : Keeps 1644430737 s (State.sleepDone s p) := by
  unfold State.sleepDone
  extract_lets a0_0 a0_1 a0_2 a0_3 a0_4
  have h_a0_1 : Keeps 1644430737 s a0_1 := (Keeps.step (State.wr_keeps ..) (by decide) (Keeps.step (State.setEthState_keeps ..) (by decide)
      (Keeps.refl _ _)))
  have h_a0_2 : Keeps 1644430737 s a0_2 := (Keeps.step (State.event_keeps ..) (by decide) (Keeps.step (State.count_keeps ..) (by decide) (Keeps.step
      (State.setSleepStep_keeps ..) (by decide) (Keeps.step (State.wr_keeps ..) (by decide) h_a0_1))))
  have h_a0_3 : Keeps 1644430737 s a0_3 := (Keeps.ite (Keeps.step (State.setPhyHeld_keeps ..) (by decide) (Keeps.step (State.phyReset_keeps ..) (by
      decide) h_a0_2)) h_a0_2)
  have h_a0_4 : Keeps 1644430737 s a0_4 := (Keeps.step (State.peerSync_keeps ..) (by decide) (Keeps.step (State.readerDown_keeps ..) (by decide)
      h_a0_3))
  exact (Keeps.ite (Keeps.step (State.ethWake_keeps ..) (by decide) h_a0_4) h_a0_4)

theorem State.ethDisable_keeps (s : State) (p : Nat) : Keeps 1644430737 s (State.ethDisable s p) := by
  unfold State.ethDisable
  refine (Keeps.ite (Keeps.refl _ _) ?_)
  extract_lets a0_0 a0_1 a0_2 a0_3
  have h_a0_0 : Keeps 1644430737 s a0_0 := (Keeps.ite (Keeps.step (State.sleepFail_keeps ..) (by decide) (Keeps.refl _ _)) (Keeps.refl _ _))
  have h_a0_1 : Keeps 1644430737 s a0_1 := (Keeps.step (State.setEthState_keeps ..) (by decide) (Keeps.step (State.readerDown_keeps ..) (by decide)
      h_a0_0))
  have h_a0_2 : Keeps 1644430737 s a0_2 := (Keeps.step (State.wr_keeps ..) (by decide) (Keeps.step (State.wr_keeps ..) (by decide) h_a0_1))
  exact (Keeps.step (State.peerSync_keeps ..) (by decide) (Keeps.step (State.setPhyHeld_keeps ..) (by decide) (Keeps.step (State.phyReset_keeps ..)
      (by decide) (Keeps.step (State.setEth_keeps ..) (by decide) h_a0_2))))

theorem State.ethEnable_keeps (s : State) (p : Nat) : Keeps 1644168593 s (State.ethEnable s p) := by
  unfold State.ethEnable
  exact (Keeps.ite (Keeps.step (State.train_keeps ..) (by decide) (Keeps.refl _ _)) (Keeps.refl _ _))

theorem State.setBus_keeps (s : State) (b : Nat) (l : List Mdio) : Keeps 256 s (State.setBus s b l) := by
  unfold State.setBus
  exact (Keeps.step (State.setEth_keeps ..) (by decide) (Keeps.refl _ _))

theorem State.mdioPut_keeps (s : State) (m : Mdio) : Keeps 256 s (State.mdioPut s m) := by
  unfold State.mdioPut
  exact (Keeps.step (State.setBus_keeps ..) (by decide) (Keeps.refl _ _))

theorem State.mdioListGo_keeps (s : State) (p : Nat) : Keeps 256 s (State.mdioListGo s p) := by
  unfold State.mdioListGo
  split
  · exact (Keeps.step (State.mdioPut_keeps ..) (by decide) (Keeps.refl _ _))
  · exact (Keeps.refl _ _)

theorem State.mdioDrop_keeps (s : State) (p : Nat) : Keeps 256 s (State.mdioDrop s p) := by
  unfold State.mdioDrop
  exact (Keeps.step (State.setMdioList_keeps ..) (by decide) (Keeps.step (State.setBus_keeps ..) (by decide) (Keeps.refl _ _)))

theorem State.setCanState_keeps (s : State) (p : Nat) (v : Nat) : Keeps 1 s (State.setCanState s p v) := by
  unfold State.setCanState
  exact (Keeps.step (State.wr_keeps ..) (by decide) (Keeps.refl _ _))

theorem State.setTxq_keeps (s : State) (p : Nat) (l : List Copy) : Keeps 32768 s (State.setTxq s p l) := by
  unfold State.setTxq
  exact (Keeps.step (State.setCan_keeps ..) (by decide) (Keeps.refl _ _))

theorem State.setObj_keeps (s : State) (p : Nat) (k : Nat) (f : Field) (v : Nat) : Keeps 1 s (State.setObj s p k f v) := by
  unfold State.setObj
  exact (Keeps.step (State.wr_keeps ..) (by decide) (Keeps.refl _ _))

theorem State.canDropped_keeps (s : State) (p : Nat) : Keeps 1610612737 s (State.canDropped s p) := by
  unfold State.canDropped
  exact (Keeps.step (State.sticky_keeps ..) (by decide) (Keeps.step (State.count_keeps ..) (by decide) (Keeps.refl _ _)))

theorem State.canDrop_keeps (s : State) (p : Nat) (c : Copy) (reason : Nat) : Keeps 1610613905 s (State.canDrop s p c reason) := by
  unfold State.canDrop
  exact (Keeps.step (State.endCopy_keeps ..) (by decide) (Keeps.step (State.event_keeps ..) (by decide) (Keeps.step (State.canDropped_keeps ..) (by
      decide) (Keeps.refl _ _))))

theorem State.objEnd_keeps (s : State) (p : Nat) (k : Nat) (d : Disp) (reason : Nat) : Keeps 1610646529 s (State.objEnd s p k d reason) := by
  unfold State.objEnd
  extract_lets a0_0 a0_1 a0_2 a0_3
  have h_a0_0 : Keeps 1610646529 s a0_0 := (Keeps.step (State.setObj_keeps ..) (by decide) (Keeps.step (State.setObj_keeps ..) (by decide)
      (Keeps.step (State.setObj_keeps ..) (by decide) (Keeps.refl _ _))))
  have h_a0_2 : Keeps 1610646529 s a0_2 := (Keeps.step (State.setCan_keeps ..) (by decide) h_a0_0)
  have h_a0_3 : Keeps 1610646529 s a0_3 := (Keeps.ite (Keeps.step (State.endOther_keeps ..) (by decide) (Keeps.step (State.canDropped_keeps ..) (by
      decide) h_a0_2)) h_a0_2)
  exact (Keeps.step (State.event_keeps ..) (by decide) h_a0_3)

theorem State.canDropCopies_keeps (s : State) (p : Nat) (reason : Nat) : Keeps 1610646673 s (State.canDropCopies s p reason) := by
  unfold State.canDropCopies
  exact (Keeps.step (State.setTxq_keeps ..) (by decide) (Keeps.foldl (Keeps.refl _ _) (fun t0 y0 k0 => (Keeps.step (State.canDrop_keeps ..) (by
      decide) k0))))

theorem State.canDropAll_keeps (s : State) (p : Nat) (reason : Nat) : Keeps 1610646673 s (State.canDropAll s p reason) := by
  unfold State.canDropAll
  extract_lets a0_0 a0_1 a0_2
  have h_a0_0 : Keeps 1610646673 s a0_0 := (Keeps.step (State.canDropCopies_keeps ..) (by decide) (Keeps.refl _ _))
  have h_a0_1 : Keeps 1610646673 s a0_1 := (Keeps.each h_a0_0 (fun t1 y1 k1 => (Keeps.step (State.objEnd_keeps ..) (by decide) k1)))
  exact (Keeps.step (State.setCan_keeps ..) (by decide) h_a0_1)

theorem State.canToSleep_keeps (s : State) (p : Nat) : Keeps 1 s (State.canToSleep s p) := by
  unfold State.canToSleep
  extract_lets a0_0 a0_1
  have h_a0_1 : Keeps 1 s a0_1 := (Keeps.ite (Keeps.step (State.setCanState_keeps ..) (by decide) (Keeps.refl _ _)) (Keeps.refl _ _))
  exact (Keeps.ite (Keeps.step (State.wr_keeps ..) (by decide) h_a0_1) (Keeps.step (State.wr_keeps ..) (by decide) (Keeps.step (State.wr_keeps ..)
      (by decide) h_a0_1)))

theorem State.canWakeUp_keeps (s : State) (p : Nat) : Keeps 1 s (State.canWakeUp s p) := by
  unfold State.canWakeUp
  extract_lets a0_0
  have h_a0_0 : Keeps 1 s a0_0 := (Keeps.step (State.wr_keeps ..) (by decide) (Keeps.refl _ _))
  exact (Keeps.ite (Keeps.step (State.setCanState_keeps ..) (by decide) h_a0_0) h_a0_0)

theorem State.setLinState_keeps (s : State) (p : Nat) (v : Nat) : Keeps 1 s (State.setLinState s p v) := by
  unfold State.setLinState
  exact (Keeps.step (State.wr_keeps ..) (by decide) (Keeps.refl _ _))

theorem State.linEnd_keeps (s : State) (p : Nat) (c : Copy) (d : Disp) (reason : Nat) : Keeps 1610613905 s (State.linEnd s p c d reason) := by
  unfold State.linEnd
  extract_lets a0_0
  have h_a0_0 : Keeps 1610613905 s a0_0 := (Keeps.ite (Keeps.step (State.event_keeps ..) (by decide) (Keeps.step (State.count_keeps ..) (by decide)
      (Keeps.refl _ _))) (Keeps.refl _ _))
  exact (Keeps.step (State.release_keeps ..) (by decide) (Keeps.step (State.endOther_keeps ..) (by decide) h_a0_0))

theorem State.linOwnerEnd_keeps (s : State) (p : Nat) (i : Nat) (d : Disp) (reason : Nat) : Keeps 1610679441 s (State.linOwnerEnd s p i d reason) :=
    by
  unfold State.linOwnerEnd
  split
  · exact (Keeps.refl _ _)
  · exact (Keeps.step (State.linEnd_keeps ..) (by decide) (Keeps.step (State.setLin_keeps ..) (by decide) (Keeps.refl _ _)))

theorem State.linDropAll_keeps (s : State) (p : Nat) (reason : Nat) : Keeps 1610679441 s (State.linDropAll s p reason) := by
  unfold State.linDropAll
  exact (Keeps.each (Keeps.refl _ _) (fun t0 y0 k0 => (Keeps.step (State.wr_keeps ..) (by decide) (Keeps.step (State.linOwnerEnd_keeps ..) (by
      decide) k0))))

theorem State.linStart_keeps (s : State) (p : Nat) (t : Nat) : Keeps 65537 s (State.linStart s p t) := by
  unfold State.linStart
  extract_lets a0_0 a0_1 a0_2 a0_3
  have h_a0_1 : Keeps 65537 s a0_1 := (Keeps.step (State.setLin_keeps ..) (by decide) (Keeps.refl _ _))
  have h_a0_2 : Keeps 65537 s a0_2 := (Keeps.step (State.wr_keeps ..) (by decide) (Keeps.step (State.wr_keeps ..) (by decide) h_a0_1))
  have h_a0_3 : Keeps 65537 s a0_3 := (Keeps.step (State.wr_keeps ..) (by decide) (Keeps.step (State.setLinState_keeps ..) (by decide) h_a0_2))
  exact (Keeps.ite (Keeps.step (State.setLinState_keeps ..) (by decide) h_a0_2) (Keeps.step (State.wr_keeps ..) (by decide) h_a0_3))

theorem State.linStop_keeps (s : State) (p : Nat) (st : Nat) : Keeps 65537 s (State.linStop s p st) := by
  unfold State.linStop
  extract_lets a0_0 a0_1
  have h_a0_1 : Keeps 65537 s a0_1 := (Keeps.step (State.setLin_keeps ..) (by decide) (Keeps.refl _ _))
  exact (Keeps.step (State.setLinState_keeps ..) (by decide) (Keeps.step (State.wr_keeps ..) (by decide) (Keeps.step (State.wr_keeps ..) (by decide)
      h_a0_1)))

theorem State.linGoToSleep_keeps (s : State) (p : Nat) : Keeps 1610678273 s (State.linGoToSleep s p) := by
  unfold State.linGoToSleep
  extract_lets a0_0 a0_1
  have h_a0_0 : Keeps 1610678273 s a0_0 := (Keeps.step (State.emit_keeps ..) (by decide) (Keeps.refl _ _))
  have h_a0_1 : Keeps 1610678273 s a0_1 := (Keeps.step (State.emit_keeps ..) (by decide) h_a0_0)
  exact (Keeps.step (State.wr_keeps ..) (by decide) (Keeps.step (State.linStop_keeps ..) (by decide) (Keeps.step (State.count_keeps ..) (by decide)
      h_a0_1)))

theorem State.linToSleep_keeps (s : State) (p : Nat) : Keeps 1610678273 s (State.linToSleep s p) := by
  unfold State.linToSleep
  exact (Keeps.ite (Keeps.step (State.wr_keeps ..) (by decide) (Keeps.refl _ _)) (Keeps.ite (Keeps.step (State.setLin_keeps ..) (by decide)
      (Keeps.refl _ _)) (Keeps.step (State.linGoToSleep_keeps ..) (by decide) (Keeps.refl _ _))))

theorem State.linWakeUp_keeps (s : State) (p : Nat) : Keeps 536870913 s (State.linWakeUp s p) := by
  unfold State.linWakeUp
  exact (Keeps.step (State.emit_keeps ..) (by decide) (Keeps.step (State.wr_keeps ..) (by decide) (Keeps.refl _ _)))

/-! ## Chan -/

theorem State.setChan_keeps (s : State) (n : Nat) (c : ChanSt) : Keeps 16384 s (State.setChan s n c) := by
  unfold State.setChan
  exact (Keeps.step (State.setBody_keeps ..) (by decide) (Keeps.refl _ _))

theorem State.mapChan_keeps (s : State) (n : Nat) (f : ChanSt → ChanSt) : Keeps 16384 s (State.mapChan s n f) := by
  unfold State.mapChan
  exact (Keeps.step (State.setChan_keeps ..) (by decide) (Keeps.refl _ _))

theorem State.chOutput_keeps (s : State) (n : Nat) : Keeps 536870913 s (State.chOutput s n) := by
  unfold State.chOutput
  extract_lets a0_0
  exact (Keeps.ite (Keeps.refl _ _) (Keeps.step (State.emit_keeps ..) (by decide) (Keeps.step (State.wr_keeps ..) (by decide) (Keeps.refl _ _))))

theorem State.setSwitches_keeps (s : State) (k : Nat) (v : Nat) (dead : Bool) : Keeps 536887297 s (State.setSwitches s k v dead) := by
  unfold State.setSwitches
  extract_lets a0_0 a0_1 a0_2
  have h_a0_2 : Keeps 536887297 s a0_2 := (Keeps.step (State.setBody_keeps ..) (by decide) (Keeps.refl _ _))
  exact (Keeps.step (State.chOutput_keeps ..) (by decide) (Keeps.step (State.chOutput_keeps ..) (by decide) (Keeps.ite h_a0_2 (Keeps.step
      (State.emit_keeps ..) (by decide) h_a0_2))))

theorem State.hbApply_keeps (s : State) (k : Nat) : Keeps 536887297 s (State.hbApply s k) := by
  unfold State.hbApply
  extract_lets a0_0
  exact (Keeps.step (State.setSwitches_keeps ..) (by decide) (Keeps.refl _ _))

theorem State.hbForce_keeps (s : State) (k : Nat) : Keeps 1610629121 s (State.hbForce s k) := by
  unfold State.hbForce
  exact (Keeps.step (State.hbApply_keeps ..) (by decide) (Keeps.step (State.sticky_keeps ..) (by decide) (Keeps.step (State.setBody_keeps ..) (by
      decide) (Keeps.refl _ _))))

theorem State.testEnd_keeps (s : State) (n : Nat) : Keeps 16385 s (State.testEnd s n) := by
  unfold State.testEnd
  extract_lets a0_0 a0_1
  have h_a0_0 : Keeps 16385 s a0_0 := (Keeps.step (State.mapChan_keeps ..) (by decide) (Keeps.refl _ _))
  have h_a0_1 : Keeps 16385 s a0_1 := (Keeps.step (State.wr_keeps ..) (by decide) h_a0_0)
  exact (Keeps.ite (Keeps.step (State.wr_keeps ..) (by decide) (Keeps.step (State.wr_keeps ..) (by decide) h_a0_1)) h_a0_1)

theorem State.hbFollow_keeps (s : State) (n : Nat) : Keeps 536887297 s (State.hbFollow s n) := by
  unfold State.hbFollow
  extract_lets a0_0 a0_1
  exact (Keeps.ite (Keeps.refl _ _) (Keeps.step (State.hbApply_keeps ..) (by decide) (Keeps.when (Keeps.refl _ _) (fun t1 k1 => (Keeps.step
      (State.setBody_keeps ..) (by decide) k1)))))

theorem State.chEnterOn_keeps (s : State) (n : Nat) : Keeps 536887297 s (State.chEnterOn s n) := by
  unfold State.chEnterOn
  extract_lets a0_0 a0_1 a0_2
  have h_a0_0 : Keeps 536887297 s a0_0 := (Keeps.step (State.wr_keeps ..) (by decide) (Keeps.refl _ _))
  have h_a0_2 : Keeps 536887297 s a0_2 := (Keeps.step (State.mapChan_keeps ..) (by decide) h_a0_0)
  exact (Keeps.step (State.hbFollow_keeps ..) (by decide) (Keeps.step (State.chOutput_keeps ..) (by decide) (Keeps.step (State.testEnd_keeps ..) (by
      decide) h_a0_2)))

theorem State.chLeave_keeps (s : State) (n : Nat) (p : Nat) : Keeps 536887297 s (State.chLeave s n p) := by
  unfold State.chLeave
  exact (Keeps.step (State.hbFollow_keeps ..) (by decide) (Keeps.step (State.chOutput_keeps ..) (by decide) (Keeps.step (State.wr_keeps ..) (by
      decide) (Keeps.step (State.wr_keeps ..) (by decide) (Keeps.refl _ _)))))

theorem State.chEval_keeps (s : State) (n : Nat) : Keeps 536887297 s (State.chEval s n) := by
  unfold State.chEval
  exact (Keeps.ite (Keeps.ite (Keeps.step (State.chEnterOn_keeps ..) (by decide) (Keeps.refl _ _)) (Keeps.refl _ _)) (Keeps.ite (Keeps.step
      (State.chLeave_keeps ..) (by decide) (Keeps.refl _ _)) (Keeps.refl _ _)))

theorem State.chRetry_keeps (s : State) (n : Nat) : Keeps 1610629121 s (State.chRetry s n) := by
  unfold State.chRetry
  exact (Keeps.step (State.chEnterOn_keeps ..) (by decide) (Keeps.step (State.count_keeps ..) (by decide) (Keeps.step (State.wr_keeps ..) (by
      decide) (Keeps.refl _ _))))

theorem State.chLatch_keeps (s : State) (n : Nat) : Keeps 1610629121 s (State.chLatch s n) := by
  unfold State.chLatch
  exact (Keeps.step (State.event_keeps ..) (by decide) (Keeps.step (State.count_keeps ..) (by decide) (Keeps.step (State.sticky_keeps ..) (by
      decide) (Keeps.step (State.chLeave_keeps ..) (by decide) (Keeps.refl _ _)))))

theorem State.chFault_keeps (s : State) (n : Nat) (f : Field) : Keeps 1610629121 s (State.chFault s n f) := by
  unfold State.chFault
  refine (Keeps.ite (Keeps.refl _ _) ?_)
  extract_lets a0_0 a0_1
  have h_a0_0 : Keeps 1610629121 s a0_0 := (Keeps.step (State.event_keeps ..) (by decide) (Keeps.step (State.count_keeps ..) (by decide) (Keeps.step
      (State.sticky_keeps ..) (by decide) (Keeps.refl _ _))))
  have h_a0_1 : Keeps 1610629121 s a0_1 := (Keeps.ite (Keeps.step (State.chLatch_keeps ..) (by decide) h_a0_0) (Keeps.step (State.chLeave_keeps ..)
      (by decide) h_a0_0))
  exact (Keeps.ite (Keeps.step (State.hbForce_keeps ..) (by decide) h_a0_1) h_a0_1)

theorem State.chTrip_keeps (s : State) (n : Nat) : Keeps 1610629121 s (State.chTrip s n) := by
  unfold State.chTrip
  extract_lets a0_0 a0_1 a0_2 a0_3
  have h_a0_0 : Keeps 1610629121 s a0_0 := (Keeps.step (State.mapChan_keeps ..) (by decide) (Keeps.refl _ _))
  have h_a0_2 : Keeps 1610629121 s a0_2 := (Keeps.step (State.chLeave_keeps ..) (by decide) (Keeps.step (State.count_keeps ..) (by decide)
      (Keeps.step (State.sticky_keeps ..) (by decide) h_a0_0)))
  have h_a0_3 : Keeps 1610629121 s a0_3 := (Keeps.ite (Keeps.step (State.event_keeps ..) (by decide) h_a0_2) h_a0_2)
  exact (Keeps.ite (Keeps.ite (Keeps.step (State.hbForce_keeps ..) (by decide) h_a0_3) h_a0_3) h_a0_0)

theorem State.chCooled_keeps (s : State) (n : Nat) : Keeps 1610629121 s (State.chCooled s n) := by
  unfold State.chCooled
  extract_lets a0_0
  have h_a0_0 : Keeps 1610629121 s a0_0 := (Keeps.step (State.mapChan_keeps ..) (by decide) (Keeps.refl _ _))
  exact (Keeps.ite (Keeps.step (State.chEval_keeps ..) (by decide) h_a0_0) (Keeps.ite (Keeps.step (State.chLatch_keeps ..) (by decide) h_a0_0)
      (Keeps.ite (Keeps.step (State.chRetry_keeps ..) (by decide) h_a0_0) (Keeps.step (State.chLeave_keeps ..) (by decide) h_a0_0))))

theorem State.chDelayEnd_keeps (s : State) (n : Nat) : Keeps 1610629121 s (State.chDelayEnd s n) := by
  unfold State.chDelayEnd
  exact (Keeps.ite (Keeps.refl _ _) (Keeps.ite (Keeps.step (State.chRetry_keeps ..) (by decide) (Keeps.refl _ _)) (Keeps.step (State.chLeave_keeps
      ..) (by decide) (Keeps.refl _ _))))

theorem State.chCommand_keeps (s : State) (n : Nat) (on : Bool) : Keeps 536887297 s (State.chCommand s n on) := by
  unfold State.chCommand
  exact (Keeps.ite (Keeps.refl _ _) (Keeps.step (State.chEval_keeps ..) (by decide) (Keeps.step (State.wr_keeps ..) (by decide) (Keeps.refl _ _))))

theorem State.chSetDuty_keeps (s : State) (n : Nat) (v : Nat) : Keeps 1 s (State.chSetDuty s n v) := by
  unfold State.chSetDuty
  exact (Keeps.step (State.wr_keeps ..) (by decide) (Keeps.refl _ _))

theorem State.chSetPhase_keeps (s : State) (n : Nat) (v : Nat) : Keeps 1 s (State.chSetPhase s n v) := by
  unfold State.chSetPhase
  exact (Keeps.step (State.wr_keeps ..) (by decide) (Keeps.refl _ _))

theorem State.hbAct_keeps (s : State) (k : Nat) : Keeps 536887297 s (State.hbAct s k) := by
  unfold State.hbAct
  exact (Keeps.step (State.hbApply_keeps ..) (by decide) (Keeps.step (State.chEval_keeps ..) (by decide) (Keeps.step (State.chEval_keeps ..) (by
      decide) (Keeps.refl _ _))))

theorem State.hbSetMode_keeps (s : State) (k : Nat) (m : Nat) : Keeps 536887297 s (State.hbSetMode s k m) := by
  unfold State.hbSetMode
  exact (Keeps.step (State.hbAct_keeps ..) (by decide) (Keeps.step (State.wr_keeps ..) (by decide) (Keeps.refl _ _)))

theorem State.setDie_keeps (s : State) (k : Nat) (d : DieSt) : Keeps 16384 s (State.setDie s k d) := by
  unfold State.setDie
  exact (Keeps.step (State.setBody_keeps ..) (by decide) (Keeps.refl _ _))

theorem State.chResult_keeps (s : State) (n : Nat) (r : Nat) : Keeps 1610612737 s (State.chResult s n r) := by
  unfold State.chResult
  extract_lets a0_0
  have h_a0_0 : Keeps 1610612737 s a0_0 := (Keeps.ite (Keeps.refl _ _) (Keeps.step (State.event_keeps ..) (by decide) (Keeps.step (State.wr_keeps
      ..) (by decide) (Keeps.refl _ _))))
  exact (Keeps.ite (Keeps.step (State.sticky_keeps ..) (by decide) h_a0_0) (Keeps.ite (Keeps.step (State.sticky_keeps ..) (by decide) h_a0_0)
      (Keeps.ite (Keeps.step (State.sticky_keeps ..) (by decide) h_a0_0) (Keeps.ite (Keeps.step (State.sticky_keeps ..) (by decide) h_a0_0)
      h_a0_0))))

theorem State.chMode_keeps (s : State) (n : Nat) (m : Nat) : Keeps 536887297 s (State.chMode s n m) := by
  unfold State.chMode
  extract_lets a0_0
  have h_a0_0 : Keeps 536887297 s a0_0 := (Keeps.step (State.chOutput_keeps ..) (by decide) (Keeps.step (State.chEval_keeps ..) (by decide)
      (Keeps.step (State.wr_keeps ..) (by decide) (Keeps.refl _ _))))
  exact (Keeps.ite (Keeps.step (State.hbApply_keeps ..) (by decide) h_a0_0) h_a0_0)

end Sys2Proof.Machine
end

