-- ==== Sys2Proof/Laws/Keeps2.lean ====
section
/-! SUPPORT. What each operation of these files can change: MotionOps, WakeOps, CanOps, GuardOps, MacsecOps, PipeOps, LinOps, RouteOps, Gateway, RingOps, EventOps. The number is the mask of parts (Part.code). -/

namespace Sys2Proof.Machine

/-! ## MotionOps -/

theorem State.setMe_keeps (s : State) (k : Nat) (m : MeSt) : Keeps 16384 s (State.setMe s k m) := by
  unfold State.setMe
  exact (Keeps.step (State.setBody_keeps ..) (by decide) (Keeps.refl _ _))

theorem State.mapMe_keeps (s : State) (k : Nat) (f : MeSt → MeSt) : Keeps 16384 s (State.mapMe s k f) := by
  unfold State.mapMe
  exact (Keeps.step (State.setMe_keeps ..) (by decide) (Keeps.refl _ _))

theorem State.setPos_keeps (s : State) (k : Nat) (p : Int) : Keeps 1 s (State.setPos s k p) := by
  unfold State.setPos
  exact (Keeps.step (State.wr_keeps ..) (by decide) (Keeps.refl _ _))

theorem State.meEnd_keeps (s : State) (k : Nat) (r : Nat) : Keeps 1610612737 s (State.meEnd s k r) := by
  unfold State.meEnd
  exact (Keeps.step (State.event_keeps ..) (by decide) (Keeps.step (State.wr_keeps ..) (by decide) (Keeps.refl _ _)))

theorem State.normLost_keeps (s : State) (k : Nat) : Keeps 1610612737 s (State.normLost s k) := by
  unfold State.normLost
  exact (Keeps.step (State.sticky_keeps ..) (by decide) (Keeps.step (State.wr_keeps ..) (by decide) (Keeps.refl _ _)))

theorem State.meFaultEnd_keeps (s : State) (k : Nat) : Keeps 1610612737 s (State.meFaultEnd s k) := by
  unfold State.meFaultEnd
  extract_lets a0_0
  have h_a0_0 : Keeps 1610612737 s a0_0 := (Keeps.step (State.sticky_keeps ..) (by decide) (Keeps.step (State.meEnd_keeps ..) (by decide)
      (Keeps.refl _ _)))
  exact (Keeps.ite (Keeps.step (State.normLost_keeps ..) (by decide) h_a0_0) h_a0_0)

theorem State.meApplyDuty_keeps (s : State) (k : Nat) : Keeps 1 s (State.meApplyDuty s k) := by
  unfold State.meApplyDuty
  extract_lets a0_0 a0_1
  exact (Keeps.step (State.chSetDuty_keeps ..) (by decide) (Keeps.refl _ _))

theorem State.meDriveOn_keeps (s : State) (k : Nat) (dirn : Nat) (target : Nat) : Keeps 536887297 s (State.meDriveOn s k dirn target) := by
  unfold State.meDriveOn
  extract_lets a0_0 a0_1
  have h_a0_0 : Keeps 536887297 s a0_0 := (Keeps.step (State.wr_keeps ..) (by decide) (Keeps.refl _ _))
  have h_a0_1 : Keeps 536887297 s a0_1 := (Keeps.step (State.mapMe_keeps ..) (by decide) h_a0_0)
  exact (Keeps.step (State.hbSetMode_keeps ..) (by decide) (Keeps.step (State.meApplyDuty_keeps ..) (by decide) h_a0_1))

theorem State.meEnterBrake_keeps (s : State) (k : Nat) (r : Nat) : Keeps 536887297 s (State.meEnterBrake s k r) := by
  unfold State.meEnterBrake
  exact (Keeps.step (State.hbSetMode_keeps ..) (by decide) (Keeps.step (State.wr_keeps ..) (by decide) (Keeps.step (State.wr_keeps ..) (by decide)
      (Keeps.step (State.mapMe_keeps ..) (by decide) (Keeps.refl _ _)))))

theorem State.meStart_keeps (s : State) (k : Nat) (c : MeCmd) : Keeps 536887297 s (State.meStart s k c) := by
  unfold State.meStart
  extract_lets a0_0
  have h_a0_0 : Keeps 536887297 s a0_0 := (Keeps.step (State.mapMe_keeps ..) (by decide) (Keeps.refl _ _))
  exact (Keeps.step (State.meDriveOn_keeps ..) (by decide) (Keeps.step (State.wr_keeps ..) (by decide) h_a0_0))

theorem State.meCheckMove_keeps (s : State) (k : Nat) : Keeps 536887297 s (State.meCheckMove s k) := by
  unfold State.meCheckMove
  exact (Keeps.ite (Keeps.step (State.meEnterBrake_keeps ..) (by decide) (Keeps.refl _ _)) (Keeps.refl _ _))

theorem State.meBegin_keeps (s : State) (k : Nat) (c : MeCmd) : Keeps 1610629121 s (State.meBegin s k c) := by
  unfold State.meBegin
  exact (Keeps.ite (Keeps.step (State.meEnd_keeps ..) (by decide) (Keeps.refl _ _)) (Keeps.ite (Keeps.step (State.meFaultEnd_keeps ..) (by decide)
      (Keeps.refl _ _)) (Keeps.step (State.meCheckMove_keeps ..) (by decide) (Keeps.step (State.meStart_keeps ..) (by decide) (Keeps.refl _ _)))))

theorem State.meCommand_keeps (s : State) (k : Nat) (c : MeCmd) : Keeps 1610629121 s (State.meCommand s k c) := by
  unfold State.meCommand
  extract_lets a0_0 a0_1 a0_2 a0_3
  have h_a0_1 : Keeps 1610629121 s a0_1 := (Keeps.step (State.mapMe_keeps ..) (by decide) (Keeps.step (State.meEnd_keeps ..) (by decide) (Keeps.refl
      _ _)))
  have h_a0_2 : Keeps 1610629121 s a0_2 := (Keeps.step (State.meApplyDuty_keeps ..) (by decide) h_a0_1)
  have h_a0_3 : Keeps 1610629121 s a0_3 := (Keeps.step (State.meEnd_keeps ..) (by decide) (Keeps.refl _ _))
  exact (Keeps.ite (Keeps.refl _ _) (Keeps.ite (Keeps.step (State.sticky_keeps ..) (by decide) (Keeps.refl _ _)) (Keeps.ite (Keeps.ite (Keeps.step
      (State.meEnterBrake_keeps ..) (by decide) (Keeps.refl _ _)) (Keeps.step (State.sticky_keeps ..) (by decide) (Keeps.refl _ _))) (Keeps.ite
      (Keeps.ite (Keeps.step (State.meEnterBrake_keeps ..) (by decide) (Keeps.refl _ _)) (Keeps.refl _ _)) (Keeps.ite (Keeps.step
      (State.meFaultEnd_keeps ..) (by decide) (Keeps.refl _ _)) (Keeps.ite (Keeps.step (State.meBegin_keeps ..) (by decide) (Keeps.refl _ _))
      (Keeps.ite (Keeps.step (State.mapMe_keeps ..) (by decide) (Keeps.refl _ _)) (Keeps.ite (Keeps.ite (Keeps.step (State.meEnterBrake_keeps ..)
      (by decide) h_a0_2) (Keeps.step (State.meCheckMove_keeps ..) (by decide) h_a0_2)) (Keeps.step (State.mapMe_keeps ..) (by decide) (Keeps.step
      (State.meEnterBrake_keeps ..) (by decide) h_a0_3))))))))))

theorem State.meModeCommand_keeps (s : State) (k : Nat) (m : Nat) : Keeps 1610629121 s (State.meModeCommand s k m) := by
  unfold State.meModeCommand
  split
  · exact (Keeps.refl _ _)
  · exact (Keeps.step (State.meCommand_keeps ..) (by decide) (Keeps.step (State.wr_keeps ..) (by decide) (Keeps.refl _ _)))

theorem State.meSettled_keeps (s : State) (k : Nat) : Keeps 1610629121 s (State.meSettled s k) := by
  unfold State.meSettled
  extract_lets a0_0 a0_1 a0_2 a0_3 a0_4 a0_5
  have h_a0_2 : Keeps 1610629121 s a0_2 := (Keeps.ite (Keeps.refl _ _) (Keeps.step (State.meEnd_keeps ..) (by decide) (Keeps.refl _ _)))
  have h_a0_3 : Keeps 1610629121 s a0_3 := (Keeps.step (State.mapMe_keeps ..) (by decide) h_a0_2)
  have h_a0_4 : Keeps 1610629121 s a0_4 := (Keeps.step (State.wr_keeps ..) (by decide) h_a0_3)
  have h_a0_5 : Keeps 1610629121 s a0_5 := (Keeps.step (State.mapMe_keeps ..) (by decide) h_a0_4)
  clear_value a0_0 a0_1 a0_2 a0_3 a0_4 a0_5
  split
  · exact (Keeps.ite (Keeps.step (State.meCheckMove_keeps ..) (by decide) (Keeps.step (State.meStart_keeps ..) (by decide) h_a0_5)) (Keeps.step
      (State.meFaultEnd_keeps ..) (by decide) (Keeps.step (State.hbSetMode_keeps ..) (by decide) (Keeps.step (State.wr_keeps ..) (by decide)
      h_a0_5))))
  · exact (Keeps.step (State.hbSetMode_keeps ..) (by decide) (Keeps.step (State.wr_keeps ..) (by decide) h_a0_4))

theorem State.meLost_keeps (s : State) (k : Nat) : Keeps 1610629121 s (State.meLost s k) := by
  unfold State.meLost
  refine (Keeps.ite ?_ (Keeps.refl _ _))
  extract_lets a0_0 a0_1
  have h_a0_0 : Keeps 1610629121 s a0_0 := (Keeps.step (State.mapMe_keeps ..) (by decide) (Keeps.refl _ _))
  have h_a0_1 : Keeps 1610629121 s a0_1 := (Keeps.step (State.wr_keeps ..) (by decide) (Keeps.step (State.wr_keeps ..) (by decide) h_a0_0))
  exact (Keeps.step (State.meFaultEnd_keeps ..) (by decide) (Keeps.step (State.hbSetMode_keeps ..) (by decide) h_a0_1))

theorem State.meForceEnd_keeps (s : State) (k : Nat) : Keeps 1610629121 s (State.meForceEnd s k) := by
  unfold State.meForceEnd
  refine (Keeps.ite ?_ (Keeps.step (State.meLost_keeps ..) (by decide) (Keeps.refl _ _)))
  extract_lets a0_0 a0_1 a0_2
  have h_a0_1 : Keeps 1610629121 s a0_1 := (Keeps.step (State.mapMe_keeps ..) (by decide) (Keeps.refl _ _))
  have h_a0_2 : Keeps 1610629121 s a0_2 := (Keeps.step (State.hbSetMode_keeps ..) (by decide) (Keeps.step (State.wr_keeps ..) (by decide) h_a0_1))
  exact (Keeps.ite (Keeps.step (State.meFaultEnd_keeps ..) (by decide) h_a0_2) h_a0_2)

theorem State.meCheckReverse_keeps (s : State) (k : Nat) : Keeps 536887297 s (State.meCheckReverse s k) := by
  unfold State.meCheckReverse
  exact (Keeps.ite (Keeps.step (State.meEnterBrake_keeps ..) (by decide) (Keeps.refl _ _)) (Keeps.refl _ _))

theorem State.meCount_keeps (s : State) (k : Nat) (up : Bool) (us : Nat) : Keeps 536887297 s (State.meCount s k up us) := by
  unfold State.meCount
  extract_lets a0_0 a0_1 a0_2
  have h_a0_0 : Keeps 536887297 s a0_0 := (Keeps.step (State.setPos_keeps ..) (by decide) (Keeps.refl _ _))
  have h_a0_2 : Keeps 536887297 s a0_2 := (Keeps.step (State.wr_keeps ..) (by decide) h_a0_0)
  exact (Keeps.step (State.meCheckReverse_keeps ..) (by decide) (Keeps.step (State.meCheckMove_keeps ..) (by decide) h_a0_2))

theorem State.meReverseDrive_keeps (s : State) (k : Nat) : Keeps 536887297 s (State.meReverseDrive s k) := by
  unfold State.meReverseDrive
  extract_lets a0_0
  have h_a0_0 : Keeps 536887297 s a0_0 := (Keeps.step (State.mapMe_keeps ..) (by decide) (Keeps.refl _ _))
  exact (Keeps.step (State.meCheckReverse_keeps ..) (by decide) (Keeps.step (State.meDriveOn_keeps ..) (by decide) h_a0_0))

theorem State.mePinch_keeps (s : State) (k : Nat) : Keeps 1610629121 s (State.mePinch s k) := by
  unfold State.mePinch
  extract_lets a0_0 a0_1
  have h_a0_0 : Keeps 1610629121 s a0_0 := (Keeps.step (State.wr_keeps ..) (by decide) (Keeps.step (State.event_keeps ..) (by decide) (Keeps.step
      (State.count_keeps ..) (by decide) (Keeps.step (State.sticky_keeps ..) (by decide) (Keeps.refl _ _)))))
  have h_a0_1 : Keeps 1610629121 s a0_1 := (Keeps.step (State.mapMe_keeps ..) (by decide) h_a0_0)
  exact (Keeps.ite (Keeps.step (State.meReverseDrive_keeps ..) (by decide) h_a0_1) (Keeps.step (State.hbSetMode_keeps ..) (by decide) h_a0_1))

theorem State.meStop_keeps (s : State) (k : Nat) : Keeps 1610629121 s (State.meStop s k) := by
  unfold State.meStop
  extract_lets a0_0 a0_1
  have h_a0_0 : Keeps 1610629121 s a0_0 := (Keeps.step (State.count_keeps ..) (by decide) (Keeps.refl _ _))
  have h_a0_1 : Keeps 1610629121 s a0_1 := (Keeps.ite (Keeps.step (State.wr_keeps ..) (by decide) (Keeps.step (State.setPos_keeps ..) (by decide)
      h_a0_0)) h_a0_0)
  exact (Keeps.ite (Keeps.step (State.meEnterBrake_keeps ..) (by decide) (Keeps.step (State.event_keeps ..) (by decide) (Keeps.step
      (State.sticky_keeps ..) (by decide) h_a0_1))) (Keeps.step (State.meEnterBrake_keeps ..) (by decide) h_a0_1))

theorem State.meParkSwitch_keeps (s : State) (k : Nat) (active : Bool) : Keeps 536887297 s (State.meParkSwitch s k active) := by
  unfold State.meParkSwitch
  refine (Keeps.ite (Keeps.refl _ _) ?_)
  split
  · exact (Keeps.ite (Keeps.step (State.meEnterBrake_keeps ..) (by decide) (Keeps.refl _ _)) (Keeps.refl _ _))
  · exact (Keeps.ite (Keeps.step (State.mapMe_keeps ..) (by decide) (Keeps.refl _ _)) (Keeps.ite (Keeps.step (State.meEnterBrake_keeps ..) (by
      decide) (Keeps.refl _ _)) (Keeps.refl _ _)))
  · exact (Keeps.refl _ _)

theorem State.meHalfFault_keeps (s : State) (n : Nat) : Keeps 1610629121 s (State.meHalfFault s n) := by
  unfold State.meHalfFault
  exact (Keeps.ite (Keeps.step (State.meLost_keeps ..) (by decide) (Keeps.refl _ _)) (Keeps.refl _ _))

theorem State.allModes_keeps (s : State) (f : State → Nat → Nat) : Keeps 1610629121 s (State.allModes s f) := by
  unfold State.allModes
  extract_lets a0_0
  have h_a0_0 : Keeps 1610629121 s a0_0 := (Keeps.each (Keeps.refl _ _) (fun t1 y1 k1 => (Keeps.step (State.chMode_keeps ..) (by decide) k1)))
  exact (Keeps.each h_a0_0 (fun t2 y2 k2 => (Keeps.ite k2 (Keeps.step (State.meForceEnd_keeps ..) (by decide) k2))))

theorem State.failOff_keeps (s : State) : Keeps 1610629121 s (State.failOff s) := by
  unfold State.failOff
  extract_lets a0_0 a0_1
  have h_a0_0 : Keeps 1610629121 s a0_0 := (Keeps.step (State.allModes_keeps ..) (by decide) (Keeps.refl _ _))
  exact (Keeps.step (State.wr_keeps ..) (by decide) (Keeps.step (State.setBody_keeps ..) (by decide) h_a0_0))

theorem State.heartbeatRow_keeps (s : State) : Keeps 1610629121 s (State.heartbeatRow s) := by
  unfold State.heartbeatRow
  extract_lets a0_0 a0_1 a0_2 a0_3
  have h_a0_1 : Keeps 1610629121 s a0_1 := (Keeps.step (State.allModes_keeps ..) (by decide) (Keeps.refl _ _))
  have h_a0_3 : Keeps 1610629121 s a0_3 := (Keeps.step (State.wr_keeps ..) (by decide) (Keeps.step (State.setBody_keeps ..) (by decide) h_a0_1))
  exact (Keeps.ite (Keeps.step (State.event_keeps ..) (by decide) (Keeps.step (State.sticky_keeps ..) (by decide) h_a0_3)) h_a0_3)

theorem State.holdRow_keeps (s : State) : Keeps 1610629121 s (State.holdRow s) := by
  unfold State.holdRow
  refine (Keeps.ite (Keeps.step (State.heartbeatRow_keeps ..) (by decide) (Keeps.refl _ _)) ?_)
  extract_lets a0_0 a0_1
  have h_a0_0 : Keeps 1610629121 s a0_0 := (Keeps.step (State.allModes_keeps ..) (by decide) (Keeps.refl _ _))
  exact (Keeps.step (State.wr_keeps ..) (by decide) (Keeps.step (State.setBody_keeps ..) (by decide) h_a0_0))

theorem State.startFailedRow_keeps (s : State) : Keeps 1610629121 s (State.startFailedRow s) := by
  unfold State.startFailedRow
  exact (Keeps.step (State.allModes_keeps ..) (by decide) (Keeps.refl _ _))

theorem State.bodyInstalled_keeps (s : State) : Keeps 536887297 s (State.bodyInstalled s) := by
  unfold State.bodyInstalled
  refine (Keeps.each (Keeps.refl _ _) ?_)
  refine (fun t0 y0 k0 => ?_)
  refine (Keeps.ite ?_ k0)
  extract_lets a1_0
  have h_a1_0 : Keeps 536887297 s a1_0 := (Keeps.step (State.wr_keeps ..) (by decide) (Keeps.step (State.chLeave_keeps ..) (by decide) k0))
  exact (Keeps.step (State.chMode_keeps ..) (by decide) h_a1_0)

/-! ## WakeOps -/

theorem State.wioSync_keeps (s : State) : Keeps 537001984 s (State.wioSync s) := by
  unfold State.wioSync
  extract_lets a0_0 a0_1
  exact (Keeps.ite (Keeps.refl _ _) (Keeps.step (State.emit_keeps ..) (by decide) (Keeps.step (State.setWake_keeps ..) (by decide) (Keeps.refl _ _))))

theorem State.startPower_keeps (s : State) : Keeps 1073745920 s (State.startPower s) := by
  unfold State.startPower
  exact (Keeps.ite (Keeps.step (State.setPins_keeps ..) (by decide) (Keeps.refl _ _)) (Keeps.step (State.setPins_keeps ..) (by decide) (Keeps.refl _
      _)))

theorem State.clearPark_keeps (s : State) : Keeps 1 s (State.clearPark s) := by
  unfold State.clearPark
  exact (Keeps.step (State.wr_keeps ..) (by decide) (Keeps.step (State.wr_keeps ..) (by decide) (Keeps.refl _ _)))

theorem State.abandonPark_keeps (s : State) : Keeps 1610620929 s (State.abandonPark s) := by
  unfold State.abandonPark
  exact (Keeps.step (State.event_keeps ..) (by decide) (Keeps.step (State.sticky_keeps ..) (by decide) (Keeps.step (State.clearPark_keeps ..) (by
      decide) (Keeps.step (State.setPwr_keeps ..) (by decide) (Keeps.refl _ _)))))

theorem State.abortSelfTest_keeps (s : State) : Keeps 1610620929 s (State.abortSelfTest s) := by
  unfold State.abortSelfTest
  extract_lets a0_0 a0_1
  have h_a0_1 : Keeps 1610620929 s a0_1 := (Keeps.step (State.setPwr_keeps ..) (by decide) (Keeps.refl _ _))
  exact (Keeps.step (State.wr_keeps ..) (by decide) (Keeps.step (State.sticky_keeps ..) (by decide) h_a0_1))

theorem State.powerWake_keeps (s : State) : Keeps 1610625025 s (State.powerWake s) := by
  unfold State.powerWake
  split
  · exact (Keeps.step (State.startPower_keeps ..) (by decide) (Keeps.step (State.setPwr_keeps ..) (by decide) (Keeps.refl _ _)))
  · exact (Keeps.step (State.startPower_keeps ..) (by decide) (Keeps.step (State.setPwr_keeps ..) (by decide) (Keeps.refl _ _)))
  · split
    · exact (Keeps.ite (Keeps.step (State.abandonPark_keeps ..) (by decide) (Keeps.refl _ _)) (Keeps.step (State.abortSelfTest_keeps ..) (by decide)
        (Keeps.refl _ _)))
    · exact (Keeps.ite (Keeps.step (State.clearPark_keeps ..) (by decide) (Keeps.refl _ _)) (Keeps.step (State.startPower_keeps ..) (by decide)
        (Keeps.refl _ _)))
  · split
    · exact (Keeps.ite (Keeps.step (State.abandonPark_keeps ..) (by decide) (Keeps.refl _ _)) (Keeps.step (State.abortSelfTest_keeps ..) (by decide)
        (Keeps.refl _ _)))
    · exact (Keeps.ite (Keeps.step (State.clearPark_keeps ..) (by decide) (Keeps.refl _ _)) (Keeps.step (State.startPower_keeps ..) (by decide)
        (Keeps.refl _ _)))
  · exact (Keeps.refl _ _)
  · exact (Keeps.refl _ _)

theorem State.evalPartial_keeps (s : State) : Keeps 8192 s (State.evalPartial s) := by
  unfold State.evalPartial
  extract_lets a0_0 a0_1
  clear_value a0_0 a0_1
  split
  · exact (Keeps.step (State.setPwr_keeps ..) (by decide) (Keeps.refl _ _))
  · exact (Keeps.step (State.setPwr_keeps ..) (by decide) (Keeps.refl _ _))
  · exact (Keeps.refl _ _)

theorem State.enginesForced_keeps (s : State) : Keeps 1610629121 s (State.enginesForced s) := by
  unfold State.enginesForced
  refine (Keeps.ite (Keeps.refl _ _) ?_)
  extract_lets a0_0
  exact (Keeps.step (State.sticky_keeps ..) (by decide) (Keeps.each (Keeps.refl _ _) (fun t1 y1 k1 => (Keeps.step (State.meForceEnd_keeps ..) (by
      decide) k1))))

theorem State.entryBegins_keeps (s : State) : Keeps 1610637313 s (State.entryBegins s) := by
  unfold State.entryBegins
  extract_lets a0_0 a0_1
  have h_a0_1 : Keeps 1610637313 s a0_1 := (Keeps.step (State.setPwr_keeps ..) (by decide) (Keeps.refl _ _))
  exact (Keeps.ite (Keeps.step (State.enginesForced_keeps ..) (by decide) h_a0_1) h_a0_1)

theorem State.parkCheck_keeps (s : State) : Keeps 1610637313 s (State.parkCheck s) := by
  unfold State.parkCheck
  exact (Keeps.ite (Keeps.step (State.entryBegins_keeps ..) (by decide) (Keeps.refl _ _)) (Keeps.refl _ _))

theorem State.setNet_keeps (s : State) (n : Nat) (v : Nat) : Keeps 1610637313 s (State.setNet s n v) := by
  unfold State.setNet
  exact (Keeps.step (State.parkCheck_keeps ..) (by decide) (Keeps.step (State.evalPartial_keeps ..) (by decide) (Keeps.step (State.wr_keeps ..) (by
      decide) (Keeps.refl _ _))))

theorem State.sendNm_keeps (s : State) (p : Nat) (flags : Nat) : Keeps 1610743809 s (State.sendNm s p flags) := by
  unfold State.sendNm
  extract_lets a0_0 a0_1 a0_2 a0_3 a0_4 a0_5
  have h_a0_4 : Keeps 1610743809 s a0_4 := (Keeps.step (State.count_keeps ..) (by decide) (Keeps.step (State.emit_keeps ..) (by decide) (Keeps.refl
      _ _)))
  exact (Keeps.step (State.setWake_keeps ..) (by decide) h_a0_4)

theorem State.sendAlive_keeps (s : State) (p : Nat) : Keeps 1610743809 s (State.sendAlive s p) := by
  unfold State.sendAlive
  exact (Keeps.ite (Keeps.step (State.sendNm_keeps ..) (by decide) (Keeps.step (State.setWake_keeps ..) (by decide) (Keeps.refl _ _))) (Keeps.step
      (State.setWake_keeps ..) (by decide) (Keeps.refl _ _)))

theorem State.netSleep_keeps (s : State) (n : Nat) : Keeps 1644389777 s (State.netSleep s n) := by
  unfold State.netSleep
  refine (Keeps.ite ?_ ?_)
  · extract_lets a0_0 a0_1
    have h_a0_1 : Keeps 1644389777 s a0_1 := (Keeps.step (State.setWake_keeps ..) (by decide) (Keeps.refl _ _))
    exact (Keeps.step (State.sleepStart_keeps ..) (by decide) h_a0_1)
  · extract_lets a1_0 a1_1 a1_2
    have h_a1_1 : Keeps 1644389777 s a1_1 := (Keeps.step (State.setWake_keeps ..) (by decide) (Keeps.refl _ _))
    have h_a1_2 : Keeps 1644389777 s a1_2 := (Keeps.step (State.setNet_keeps ..) (by decide) h_a1_1)
    exact (Keeps.ite (Keeps.step (State.canToSleep_keeps ..) (by decide) h_a1_2) (Keeps.step (State.linToSleep_keeps ..) (by decide) h_a1_2))

theorem State.netWake_keeps (s : State) (n : Nat) : Keeps 1644324241 s (State.netWake s n) := by
  unfold State.netWake
  extract_lets a0_0 a0_1 a0_2
  have h_a0_0 : Keeps 1644324241 s a0_0 := (Keeps.step (State.event_keeps ..) (by decide) (Keeps.step (State.setNet_keeps ..) (by decide)
      (Keeps.refl _ _)))
  have h_a0_1 : Keeps 1644324241 s a0_1 := (Keeps.step (State.wr_keeps ..) (by decide) (Keeps.step (State.canWakeUp_keeps ..) (by decide) h_a0_0))
  exact (Keeps.ite (Keeps.step (State.ethWake_keeps ..) (by decide) h_a0_0) (Keeps.ite (Keeps.ite (Keeps.step (State.sendAlive_keeps ..) (by decide)
      h_a0_1) h_a0_1) (Keeps.step (State.setWake_keeps ..) (by decide) (Keeps.step (State.linWakeUp_keeps ..) (by decide) h_a0_0))))

theorem State.netAbort_keeps (s : State) (n : Nat) (isLocal : Bool) : Keeps 1610768385 s (State.netAbort s n isLocal) := by
  unfold State.netAbort
  extract_lets a0_0
  have h_a0_0 : Keeps 1610768385 s a0_0 := (Keeps.step (State.count_keeps ..) (by decide) (Keeps.step (State.sticky_keeps ..) (by decide)
      (Keeps.step (State.setNet_keeps ..) (by decide) (Keeps.refl _ _))))
  exact (Keeps.ite (Keeps.step (State.sendAlive_keeps ..) (by decide) h_a0_0) h_a0_0)

theorem State.evalNet_keeps (s : State) (n : Nat) : Keeps 1644389777 s (State.evalNet s n) := by
  unfold State.evalNet
  extract_lets a0_0 a0_1 a0_2 a0_3
  have h_a0_2 : Keeps 1644389777 s a0_2 := (Keeps.step (State.setNet_keeps ..) (by decide) (Keeps.refl _ _))
  exact (Keeps.ite (Keeps.ite (Keeps.step (State.setNet_keeps ..) (by decide) (Keeps.step (State.setWake_keeps ..) (by decide) (Keeps.refl _ _)))
      (Keeps.ite (Keeps.step (State.netAbort_keeps ..) (by decide) (Keeps.refl _ _)) (Keeps.ite (Keeps.ite (Keeps.refl _ _) (Keeps.step
      (State.sticky_keeps ..) (by decide) (Keeps.step (State.setWake_keeps ..) (by decide) (Keeps.refl _ _)))) (Keeps.ite (Keeps.step
      (State.netWake_keeps ..) (by decide) (Keeps.refl _ _)) (Keeps.refl _ _))))) (Keeps.ite (Keeps.ite h_a0_2 (Keeps.ite (Keeps.step
      (State.netSleep_keeps ..) (by decide) h_a0_2) (Keeps.step (State.setWake_keeps ..) (by decide) h_a0_2))) (Keeps.refl _ _)))

theorem State.evalNets_keeps (s : State) : Keeps 1644389777 s (State.evalNets s) := by
  unfold State.evalNets
  exact (Keeps.each (Keeps.refl _ _) (fun t0 y0 k0 => (Keeps.step (State.evalNet_keeps ..) (by decide) k0)))

theorem State.request_keeps (s : State) (pncs : Nat) (nets : List Nat) : Keeps 1644389777 s (State.request s pncs nets) := by
  unfold State.request
  extract_lets a0_0 a0_1 a0_2
  have h_a0_2 : Keeps 1644389777 s a0_2 := (Keeps.step (State.setWake_keeps ..) (by decide) (Keeps.refl _ _))
  exact (Keeps.step (State.evalNets_keeps ..) (by decide) (Keeps.ite h_a0_2 (Keeps.step (State.clearPark_keeps ..) (by decide) h_a0_2)))

theorem State.latch_keeps (s : State) (w : Nat) : Keeps 1610612737 s (State.latch s w) := by
  unfold State.latch
  extract_lets a0_0 a0_1 a0_2 a0_3 a0_4
  have h_a0_1 : Keeps 1610612737 s a0_1 := (Keeps.ite (Keeps.step (State.wr_keeps ..) (by decide) (Keeps.step (State.wr_keeps ..) (by decide)
      (Keeps.refl _ _))) (Keeps.refl _ _))
  have h_a0_3 : Keeps 1610612737 s a0_3 := (Keeps.step (State.wr_keeps ..) (by decide) h_a0_1)
  have h_a0_4 : Keeps 1610612737 s a0_4 := (Keeps.ite h_a0_3 (Keeps.step (State.irqRise_keeps ..) (by decide) (Keeps.step (State.wr_keeps ..) (by
      decide) h_a0_3)))
  exact (Keeps.step (State.event_keeps ..) (by decide) h_a0_4)

theorem State.pulseWio_keeps (s : State) : Keeps 537001984 s (State.pulseWio s) := by
  unfold State.pulseWio
  exact (Keeps.ite (Keeps.step (State.wioSync_keeps ..) (by decide) (Keeps.step (State.setWake_keeps ..) (by decide) (Keeps.refl _ _))) (Keeps.refl
      _ _))

theorem State.sourceEvent_keeps (s : State) (w : Nat) (nets : List Nat) : Keeps 1644393873 s (State.sourceEvent s w nets) := by
  unfold State.sourceEvent
  extract_lets a0_0 a0_1 a0_2 a0_3
  have h_a0_0 : Keeps 1644393873 s a0_0 := (Keeps.step (State.latch_keeps ..) (by decide) (Keeps.refl _ _))
  have h_a0_1 : Keeps 1644393873 s a0_1 := (Keeps.ite (Keeps.step (State.pulseWio_keeps ..) (by decide) h_a0_0) h_a0_0)
  have h_a0_3 : Keeps 1644393873 s a0_3 := (Keeps.step (State.request_keeps ..) (by decide) h_a0_1)
  exact (Keeps.ite h_a0_1 (Keeps.ite (Keeps.step (State.powerWake_keeps ..) (by decide) h_a0_3) h_a0_3))

theorem State.copyWake_keeps (s : State) (net : Nat) : Keeps 1644393873 s (State.copyWake s net) := by
  unfold State.copyWake
  exact (Keeps.step (State.sourceEvent_keeps ..) (by decide) (Keeps.refl _ _))

theorem State.netFrame_keeps (s : State) (n : Nat) : Keeps 1644393873 s (State.netFrame s n) := by
  unfold State.netFrame
  exact (Keeps.ite (Keeps.step (State.sourceEvent_keeps ..) (by decide) (Keeps.step (State.netAbort_keeps ..) (by decide) (Keeps.refl _ _)))
      (Keeps.refl _ _))

theorem State.ethSynced_keeps (s : State) (p : Nat) : Keeps 1644389777 s (State.ethSynced s p) := by
  unfold State.ethSynced
  refine (Keeps.ite ?_ (Keeps.ite (Keeps.step (State.evalNet_keeps ..) (by decide) (Keeps.step (State.event_keeps ..) (by decide) (Keeps.step
      (State.setNet_keeps ..) (by decide) (Keeps.refl _ _)))) (Keeps.refl _ _)))
  extract_lets a0_0 a0_1 a0_2
  have h_a0_1 : Keeps 1644389777 s a0_1 := (Keeps.step (State.setNet_keeps ..) (by decide) (Keeps.step (State.setWake_keeps ..) (by decide)
      (Keeps.refl _ _)))
  have h_a0_2 : Keeps 1644389777 s a0_2 := (Keeps.step (State.event_keeps ..) (by decide) h_a0_1)
  exact (Keeps.ite (Keeps.step (State.netWake_keeps ..) (by decide) h_a0_2) h_a0_2)

theorem State.wakeAll_keeps (s : State) : Keeps 1644324241 s (State.wakeAll s) := by
  unfold State.wakeAll
  extract_lets a0_0 a0_1
  have h_a0_1 : Keeps 1644324241 s a0_1 := (Keeps.step (State.setWake_keeps ..) (by decide) (Keeps.refl _ _))
  exact (Keeps.each h_a0_1 (fun t1 y1 k1 => (Keeps.ite (Keeps.step (State.netWake_keeps ..) (by decide) k1) (Keeps.step (State.setNet_keeps ..) (by
      decide) k1))))

/-! ## CanOps -/

theorem State.canEnqueue_keeps (s : State) (p : Nat) (c : Copy) : Keeps 1644426641 s (State.canEnqueue s p c) := by
  unfold State.canEnqueue
  extract_lets a0_0
  clear_value a0_0
  split
  · exact (Keeps.step (State.canDrop_keeps ..) (by decide) (Keeps.refl _ _))
  · refine (Keeps.ite (Keeps.step (State.canDrop_keeps ..) (by decide) (Keeps.refl _ _)) ?_)
    refine (Keeps.ite (Keeps.step (State.canDrop_keeps ..) (by decide) (Keeps.step (State.sticky_keeps ..) (by decide) (Keeps.refl _ _))) ?_)
    refine (Keeps.ite (Keeps.step (State.canDrop_keeps ..) (by decide) (Keeps.refl _ _)) ?_)
    refine (Keeps.ite (Keeps.step (State.canDrop_keeps ..) (by decide) (Keeps.refl _ _)) ?_)
    extract_lets a3_0 a3_1
    have h_a3_1 : Keeps 1644426641 s a3_1 := (Keeps.step (State.setTxq_keeps ..) (by decide) (Keeps.refl _ _))
    exact (Keeps.ite (Keeps.step (State.copyWake_keeps ..) (by decide) h_a3_1) h_a3_1)

theorem State.candDrop_keeps (s : State) (p : Nat) (x : CanCand) (reason : Nat) : Keeps 1610646673 s (State.candDrop s p x reason) := by
  unfold State.candDrop
  split
  · split
    · exact (Keeps.step (State.canDrop_keeps ..) (by decide) (Keeps.step (State.setTxq_keeps ..) (by decide) (Keeps.refl _ _)))
    · exact (Keeps.refl _ _)
  · exact (Keeps.step (State.objEnd_keeps ..) (by decide) (Keeps.refl _ _))

theorem State.canOffer_keeps (s : State) (p n : Nat) : KeepsP 1610646673 s (s.canOffer p n) := by
  suffices h : ∀ t, Keeps 1610646673 s t → KeepsP 1610646673 s (t.canOffer p n) from h s (Keeps.refl _ _)
  induction n with
  | zero => exact fun t h => KeepsP.mk h
  | succ n ih =>
    intro t h
    unfold State.canOffer
    split
    · exact KeepsP.mk h
    · refine KeepsP.ite (ih _ (Keeps.step (State.candDrop_keeps ..) (by decide) h)) ?_
      split
      · exact ih _ (Keeps.step (State.endCopy_keeps ..) (by decide) (Keeps.step (State.setTxq_keeps ..) (by decide) h))
      · exact KeepsP.mk h

theorem State.setCanSending_keeps (s : State) (p : Nat) (x : Option CanCand) : Keeps 32768 s (State.setCanSending s p x) := by
  unfold State.setCanSending
  exact (Keeps.step (State.setCan_keeps ..) (by decide) (Keeps.refl _ _))

theorem State.canTryFailed_keeps (s : State) (p : Nat) (x : CanCand) : Keeps 1610646673 s (State.canTryFailed s p x) := by
  unfold State.canTryFailed
  extract_lets a0_0 a0_1 a0_2
  have h_a0_1 : Keeps 1610646673 s a0_1 := (Keeps.step (State.setCan_keeps ..) (by decide) (Keeps.refl _ _))
  exact (Keeps.ite (Keeps.step (State.candDrop_keeps ..) (by decide) h_a0_1) (Keeps.ite (Keeps.step (State.candDrop_keeps ..) (by decide) h_a0_1)
      h_a0_1))

theorem State.canToRecover_keeps (s : State) (p : Nat) : Keeps 1 s (State.canToRecover s p) := by
  unfold State.canToRecover
  exact (Keeps.step (State.wr_keeps ..) (by decide) (Keeps.step (State.setCanState_keeps ..) (by decide) (Keeps.refl _ _)))

theorem State.canBusOffEntry_keeps (s : State) (p : Nat) : Keeps 1610646673 s (State.canBusOffEntry s p) := by
  unfold State.canBusOffEntry
  extract_lets a0_0 a0_1 a0_2
  have h_a0_0 : Keeps 1610646673 s a0_0 := (Keeps.step (State.sticky_keeps ..) (by decide) (Keeps.step (State.wr_keeps ..) (by decide) (Keeps.step
      (State.setCanState_keeps ..) (by decide) (Keeps.refl _ _))))
  have h_a0_1 : Keeps 1610646673 s a0_1 := (Keeps.step (State.setCanSending_keeps ..) (by decide) (Keeps.step (State.event_keeps ..) (by decide)
      (Keeps.step (State.count_keeps ..) (by decide) h_a0_0)))
  have h_a0_2 : Keeps 1610646673 s a0_2 := (Keeps.ite (Keeps.step (State.canDropCopies_keeps ..) (by decide) h_a0_1) h_a0_1)
  exact (Keeps.ite (Keeps.step (State.canToRecover_keeps ..) (by decide) h_a0_2) h_a0_2)

theorem State.canConfine_keeps (s : State) (p : Nat) (t : Nat) (r : Nat) : Keeps 1610646673 s (State.canConfine s p t r) := by
  unfold State.canConfine
  extract_lets a0_0 a0_1
  have h_a0_0 : Keeps 1610646673 s a0_0 := (Keeps.step (State.wr_keeps ..) (by decide) (Keeps.step (State.wr_keeps ..) (by decide) (Keeps.refl _ _)))
  have h_a0_1 : Keeps 1610646673 s a0_1 := (Keeps.ite (Keeps.step (State.event_keeps ..) (by decide) (Keeps.step (State.sticky_keeps ..) (by decide)
      (Keeps.step (State.setCanState_keeps ..) (by decide) h_a0_0))) h_a0_0)
  exact (Keeps.ite (Keeps.step (State.canBusOffEntry_keeps ..) (by decide) h_a0_1) (Keeps.ite (Keeps.step (State.event_keeps ..) (by decide)
      (Keeps.step (State.setCanState_keeps ..) (by decide) h_a0_1)) h_a0_1))

theorem State.canSentOk_keeps (s : State) (p : Nat) : Keeps 1610646673 s (State.canSentOk s p) := by
  unfold State.canSentOk
  exact (Keeps.step (State.canConfine_keeps ..) (by decide) (Keeps.refl _ _))

theorem State.canReceivedOk_keeps (s : State) (p : Nat) : Keeps 1610646673 s (State.canReceivedOk s p) := by
  unfold State.canReceivedOk
  exact (Keeps.step (State.canConfine_keeps ..) (by decide) (Keeps.refl _ _))

theorem State.xlRelease_keeps (s : State) (p : Nat) (e : Nat) : Keeps 1073774736 s (State.xlRelease s p e) := by
  unfold State.xlRelease
  split
  · exact (Keeps.refl _ _)
  · exact (Keeps.step (State.release_keeps ..) (by decide) (Keeps.step (State.setCan_keeps ..) (by decide) (Keeps.refl _ _)))

theorem State.xlHold_keeps (s : State) (p : Nat) (e : Nat) (fid : Nat) : Keeps 32896 s (State.xlHold s p e fid) := by
  unfold State.xlHold
  exact (Keeps.step (State.addRefs_keeps ..) (by decide) (Keeps.step (State.setCan_keeps ..) (by decide) (Keeps.refl _ _)))

theorem State.objClear_keeps (s : State) (p : Nat) (k : Nat) : Keeps 1073774737 s (State.objClear s p k) := by
  unfold State.objClear
  extract_lets a0_0 a0_1 a0_2
  have h_a0_0 : Keeps 1073774737 s a0_0 := (Keeps.step (State.xlRelease_keeps ..) (by decide) (Keeps.refl _ _))
  have h_a0_1 : Keeps 1073774737 s a0_1 := (Keeps.each h_a0_0 (fun t1 y1 k1 => (Keeps.step (State.wr_keeps ..) (by decide) k1)))
  exact (Keeps.step (State.setCan_keeps ..) (by decide) h_a0_1)

theorem State.objFill_keeps (s : State) (p : Nat) (k : Nat) (fid : Nat) (h : CanHdr) (data : List Nat) (ns : Nat) : Keeps 1073774737 s
    (State.objFill s p k fid h data ns) := by
  unfold State.objFill
  extract_lets a0_0 a0_1 a0_2 a0_3 a0_4 a0_5 a0_6 a0_7 a0_8
  have h_a0_0 : Keeps 1073774737 s a0_0 := (Keeps.step (State.xlRelease_keeps ..) (by decide) (Keeps.refl _ _))
  have h_a0_3 : Keeps 1073774737 s a0_3 := (Keeps.each h_a0_0 (fun t1 y1 k1 => (Keeps.step (State.setObj_keeps ..) (by decide) k1)))
  have h_a0_4 : Keeps 1073774737 s a0_4 := (Keeps.each h_a0_3 (fun t2 y2 k2 => (Keeps.step (State.setObj_keeps ..) (by decide) k2)))
  have h_a0_6 : Keeps 1073774737 s a0_6 := (Keeps.step (State.setCan_keeps ..) (by decide) h_a0_4)
  have h_a0_8 : Keeps 1073774737 s a0_8 := (Keeps.step (State.setObj_keeps ..) (by decide) h_a0_6)
  exact (Keeps.ite (Keeps.step (State.xlHold_keeps ..) (by decide) h_a0_8) h_a0_8)

theorem State.objStore_keeps (s : State) (p : Nat) (k : Nat) (fid : Nat) (h : CanHdr) (data : List Nat) (ns : Nat) : Keeps 1610645649 s
    (State.objStore s p k fid h data ns) := by
  unfold State.objStore
  extract_lets a0_0 a0_1 a0_2
  have h_a0_1 : Keeps 1610645649 s a0_1 := (Keeps.ite (Keeps.step (State.count_keeps ..) (by decide) (Keeps.step (State.sticky_keeps ..) (by decide)
      (Keeps.step (State.setObj_keeps ..) (by decide) (Keeps.refl _ _)))) (Keeps.refl _ _))
  have h_a0_2 : Keeps 1610645649 s a0_2 := (Keeps.step (State.setObj_keeps ..) (by decide) (Keeps.step (State.objFill_keeps ..) (by decide) h_a0_1))
  exact (Keeps.ite h_a0_2 (Keeps.step (State.event_keeps ..) (by decide) h_a0_2))

theorem State.setFifo_keeps (s : State) (p : Nat) (n : Nat) (c : FifoCfg) : Keeps 1 s (State.setFifo s p n c) := by
  unfold State.setFifo
  extract_lets a0_0 a0_1 a0_2 a0_3 a0_4
  have h_a0_2 : Keeps 1 s a0_2 := (Keeps.step (State.wr_keeps ..) (by decide) (Keeps.step (State.wr_keeps ..) (by decide) (Keeps.refl _ _)))
  have h_a0_3 : Keeps 1 s a0_3 := (Keeps.step (State.wr_keeps ..) (by decide) (Keeps.step (State.wr_keeps ..) (by decide) h_a0_2))
  have h_a0_4 : Keeps 1 s a0_4 := (Keeps.step (State.wr_keeps ..) (by decide) (Keeps.step (State.wr_keeps ..) (by decide) h_a0_3))
  exact (Keeps.step (State.wr_keeps ..) (by decide) (Keeps.step (State.wr_keeps ..) (by decide) h_a0_4))

theorem State.setFifoList_keeps (s : State) (p : Nat) (n : Nat) (l : List Nat) : Keeps 32768 s (State.setFifoList s p n l) := by
  unfold State.setFifoList
  exact (Keeps.step (State.setCan_keeps ..) (by decide) (Keeps.refl _ _))

theorem State.fifoConfigure_keeps (s : State) (p : Nat) (n : Nat) (c : FifoCfg) : Keeps 1073774737 s (State.fifoConfigure s p n c) := by
  unfold State.fifoConfigure
  extract_lets a0_0 a0_1 a0_2
  have h_a0_1 : Keeps 1073774737 s a0_1 := (Keeps.each (Keeps.refl _ _) (fun t1 y1 k1 => (Keeps.step (State.objClear_keeps ..) (by decide) k1)))
  have h_a0_2 : Keeps 1073774737 s a0_2 := (Keeps.each h_a0_1 (fun t2 y2 k2 => (Keeps.step (State.setObj_keeps ..) (by decide) k2)))
  exact (Keeps.step (State.setFifoList_keeps ..) (by decide) (Keeps.step (State.setFifo_keeps ..) (by decide) h_a0_2))

theorem State.fifoStore_keeps (s : State) (p : Nat) (n : Nat) (fid : Nat) (h : CanHdr) (data : List Nat) (ns : Nat) : Keeps 1610645649 s
    (State.fifoStore s p n fid h data ns) := by
  unfold State.fifoStore
  extract_lets a0_0 a0_1 a0_2
  clear_value a0_0 a0_1
  split
  · extract_lets a2_0
    have h_a2_0 : Keeps 1610645649 s a2_0 := (Keeps.step (State.setFifoList_keeps ..) (by decide) (Keeps.step (State.objFill_keeps ..) (by decide)
        (Keeps.refl _ _)))
    exact (Keeps.ite (Keeps.step (State.event_keeps ..) (by decide) h_a2_0) h_a2_0)
  · split
    · exact (Keeps.refl _ _)
    · exact (Keeps.ite (Keeps.step (State.count_keeps ..) (by decide) (Keeps.step (State.sticky_keeps ..) (by decide) (Keeps.refl _ _))) (Keeps.step
        (State.setFifoList_keeps ..) (by decide) (Keeps.step (State.count_keeps ..) (by decide) (Keeps.step (State.sticky_keeps ..) (by decide)
        (Keeps.step (State.objFill_keeps ..) (by decide) (Keeps.refl _ _))))))

theorem State.canStore_keeps (s : State) (p : Nat) (fid : Nat) (h : CanHdr) (data : List Nat) (ns : Nat) : Keeps 1610645649 s (State.canStore s p
    fid h data ns) := by
  unfold State.canStore
  split
  · exact (Keeps.step (State.objStore_keeps ..) (by decide) (Keeps.refl _ _))
  · exact (Keeps.ite (Keeps.step (State.fifoStore_keeps ..) (by decide) (Keeps.refl _ _)) (Keeps.ite (Keeps.step (State.fifoStore_keeps ..) (by
      decide) (Keeps.refl _ _)) (Keeps.refl _ _)))

theorem State.objToView_keeps (s : State) (p : Nat) (k : Nat) : Keeps 1073774737 s (State.objToView s p k) := by
  unfold State.objToView
  extract_lets a0_0 a0_1 a0_2 a0_3 a0_4
  have h_a0_0 : Keeps 1073774737 s a0_0 := (Keeps.step (State.xlRelease_keeps ..) (by decide) (Keeps.refl _ _))
  have h_a0_2 : Keeps 1073774737 s a0_2 := by
    unfold a0_2
    clear_value a0_0 a0_1
    split
    · exact (Keeps.step (State.xlHold_keeps ..) (by decide) h_a0_0)
    · exact h_a0_0
  have h_a0_3 : Keeps 1073774737 s a0_3 := (Keeps.each h_a0_2 (fun t3 y3 k3 => (Keeps.step (State.wr_keeps ..) (by decide) k3)))
  exact (Keeps.ite h_a0_3 (Keeps.step (State.wr_keeps ..) (by decide) h_a0_3))

theorem State.viewToObj_keeps (s : State) (p : Nat) (k : Nat) : Keeps 1073774737 s (State.viewToObj s p k) := by
  unfold State.viewToObj
  extract_lets a0_0 a0_1
  have h_a0_1 : Keeps 1073774737 s a0_1 := (Keeps.step (State.setObj_keeps ..) (by decide) (Keeps.step (State.objClear_keeps ..) (by decide)
      (Keeps.refl _ _)))
  exact (Keeps.each h_a0_1 (fun t1 y1 k1 => (Keeps.step (State.setObj_keeps ..) (by decide) k1)))

/-! ## GuardOps -/

theorem State.streamCheck_keeps (s : State) (f : Nat) (n : Nat) : KeepsP 1610612737 s (State.streamCheck s f n) := by
  unfold State.streamCheck
  extract_lets a0_0 a0_1 a0_2
  have h_a0_2 : Keeps 1610612737 s a0_2 := (Keeps.step (State.count_keeps ..) (by decide) (Keeps.step (State.sticky_keeps ..) (by decide)
      (Keeps.refl _ _)))
  exact (KeepsP.ite (KeepsP.mk (Keeps.step (State.count_keeps ..) (by decide) (Keeps.step (State.sticky_keeps ..) (by decide) (Keeps.refl _ _))))
      (KeepsP.ite (KeepsP.mk (Keeps.step (State.count_keeps ..) (by decide) (Keeps.step (State.sticky_keeps ..) (by decide) (Keeps.refl _ _))))
      (KeepsP.ite (KeepsP.mk (Keeps.ite (Keeps.step (State.event_keeps ..) (by decide) (Keeps.step (State.wr_keeps ..) (by decide) h_a0_2)) h_a0_2))
      (KeepsP.mk (Keeps.step (State.count_keeps ..) (by decide) (Keeps.refl _ _))))))

theorem State.sieve_keeps (s : State) (g : Nat) (src : Nat) (d : List Nat) : KeepsP 1610612737 s (State.sieve s g src d) := by
  unfold State.sieve
  extract_lets a0_0 a0_1
  clear_value a0_0
  split
  · exact (KeepsP.ite (KeepsP.mk (Keeps.refl _ _)) (KeepsP.mk (Keeps.step (State.sticky_keeps ..) (by decide) (Keeps.refl _ _))))
  · extract_lets a3_0 a3_1 a3_2 a3_3 a3_4 a3_5
    have h_a3_0 : Keeps 1610612737 s a3_0 := (Keeps.step (State.count_keeps ..) (by decide) (Keeps.refl _ _))
    have h_a3_4 : KeepsP 1610612737 s a3_4 := (KeepsP.ite (KeepsP.step (State.streamCheck_keeps ..) (by decide) h_a3_0) (KeepsP.mk h_a3_0))
    clear_value a3_0 a3_1 a3_2 a3_3 a3_4 a3_5
    refine (KeepsP.ite (KeepsP.mk (Keeps.step (State.sticky_keeps ..) (by decide) h_a3_0)) ?_)
    split
    · exact (KeepsP.mk h_a3_4)
    · exact (KeepsP.mk h_a3_4)

theorem State.canFilter_keeps (s : State) (g : Nat) (port : Nat) (h : CanHdr) : KeepsP 1610612737 s (State.canFilter s g port h) := by
  unfold State.canFilter
  split
  · exact (KeepsP.mk (Keeps.step (State.sticky_keeps ..) (by decide) (Keeps.refl _ _)))
  · extract_lets a2_0 a2_1
    have h_a2_0 : Keeps 1610612737 s a2_0 := (Keeps.step (State.count_keeps ..) (by decide) (Keeps.refl _ _))
    exact (KeepsP.ite (KeepsP.mk (Keeps.step (State.sticky_keeps ..) (by decide) h_a2_0)) (KeepsP.mk h_a2_0))

theorem State.fillBucket_keeps (s : State) (g : Nat) (i : Nat) : Keeps 262144 s (State.fillBucket s g i) := by
  unfold State.fillBucket
  extract_lets a0_0 a0_1
  exact (Keeps.step (State.setGuard_keeps ..) (by decide) (Keeps.refl _ _))

theorem State.bucketFlipped_keeps (s : State) (o : Nat) (n : Nat) (i : Nat) : Keeps 262144 s (State.bucketFlipped s o n i) := by
  unfold State.bucketFlipped
  exact (Keeps.ite (Keeps.step (State.fillBucket_keeps ..) (by decide) (Keeps.refl _ _)) (Keeps.step (State.setGuard_keeps ..) (by decide)
      (Keeps.refl _ _)))

theorem State.meter_keeps (s : State) (g : Nat) (i : Nat) (n : Nat) (yellowIn : Bool) : KeepsP 1074003969 s (State.meter s g i n yellowIn) := by
  unfold State.meter
  extract_lets a0_0 a0_1 a0_2 a0_3 a0_4
  exact (KeepsP.ite (KeepsP.mk (Keeps.step (State.count_keeps ..) (by decide) (Keeps.step (State.setGuard_keeps ..) (by decide) (Keeps.refl _ _))))
      (KeepsP.ite (KeepsP.mk (Keeps.step (State.count_keeps ..) (by decide) (Keeps.step (State.setGuard_keeps ..) (by decide) (Keeps.refl _ _))))
      (KeepsP.ite (KeepsP.mk (Keeps.step (State.count_keeps ..) (by decide) (Keeps.step (State.setGuard_keeps ..) (by decide) (Keeps.refl _ _))))
      (KeepsP.mk (Keeps.step (State.count_keeps ..) (by decide) (Keeps.step (State.setGuard_keeps ..) (by decide) (Keeps.refl _ _)))))))

theorem State.police_keeps (s : State) (g : Nat) (pol : Option Nat) (n : Nat) (yellowIn : Bool) (tc : Option Nat) : KeepsP 1610874881 s
    (State.police s g pol n yellowIn tc) := by
  unfold State.police
  split
  · exact (KeepsP.mk (Keeps.refl _ _))
  · refine (KeepsP.ite (KeepsP.mk (Keeps.refl _ _)) ?_)
    extract_lets a2_0
    have h_a2_0 : KeepsP 1610874881 s a2_0 := (KeepsP.step (State.meter_keeps ..) (by decide) (Keeps.refl _ _))
    clear_value a2_0
    split
    · exact (KeepsP.mk h_a2_0)
    · exact (KeepsP.mk (Keeps.step (State.event_keeps ..) (by decide) (Keeps.step (State.sticky_keeps ..) (by decide) h_a2_0)))
    · exact (KeepsP.ite (KeepsP.mk (Keeps.step (State.sticky_keeps ..) (by decide) h_a2_0)) (KeepsP.mk h_a2_0))

/-! ## MacsecOps -/

theorem State.secOpen_keeps (s : State) (p : Nat) (k : Nat) (a : Nat) (t : SecTag) (d : List Nat) : KeepsP 1610612737 s (State.secOpen s p k a t d)
    := by
  unfold State.secOpen
  extract_lets a0_0 a0_1 a0_2 a0_3 a0_4 a0_5 a0_6 a0_7 a0_8 a0_9 a0_10 a0_11 a0_12 a0_13 a0_14
  have h_a0_12 : Keeps 1610612737 s a0_12 := (Keeps.step (State.count_keeps ..) (by decide) (Keeps.refl _ _))
  have h_a0_13 : Keeps 1610612737 s a0_13 := (Keeps.step (State.event_keeps ..) (by decide) (Keeps.step (State.count_keeps ..) (by decide)
      (Keeps.step (State.sticky_keeps ..) (by decide) h_a0_12)))
  have h_a0_14 : Keeps 1610612737 s a0_14 := (Keeps.ite (Keeps.step (State.wr_keeps ..) (by decide) h_a0_12) h_a0_12)
  exact (KeepsP.ite (KeepsP.mk (Keeps.refl _ _)) (KeepsP.ite (KeepsP.mk (Keeps.refl _ _)) (KeepsP.ite (KeepsP.mk (Keeps.step (State.event_keeps ..)
      (by decide) (Keeps.step (State.count_keeps ..) (by decide) (Keeps.step (State.sticky_keeps ..) (by decide) (Keeps.refl _ _))))) (KeepsP.ite
      (KeepsP.ite (KeepsP.mk h_a0_13) (KeepsP.mk h_a0_13)) (KeepsP.mk (Keeps.step (State.count_keeps ..) (by decide) h_a0_14))))))

theorem State.secReceive_keeps (s : State) (p : Nat) (d : List Nat) : KeepsP 1610612737 s (State.secReceive s p d) := by
  unfold State.secReceive
  extract_lets a0_0 a0_1 a0_2 a0_3 a0_4
  have h_a0_4 : KeepsP 1610612737 s a0_4 := (KeepsP.mk (Keeps.step (State.count_keeps ..) (by decide) (Keeps.step (State.sticky_keeps ..) (by
      decide) (Keeps.refl _ _))))
  clear_value a0_0 a0_1 a0_3 a0_4
  refine (KeepsP.ite (KeepsP.mk (Keeps.refl _ _)) ?_)
  refine (KeepsP.ite ?_ ?_)
  · refine (KeepsP.mk ?_)
    split
    · exact (Keeps.step (State.count_keeps ..) (by decide) (Keeps.refl _ _))
    · exact (Keeps.refl _ _)
  · split
    · exact (KeepsP.ite (KeepsP.mk (Keeps.refl _ _)) (KeepsP.mk (Keeps.step (State.sticky_keeps ..) (by decide) (Keeps.refl _ _))))
    · refine (KeepsP.ite (KeepsP.mk (Keeps.step (State.sticky_keeps ..) (by decide) (Keeps.refl _ _))) ?_)
      split
      · exact h_a0_4
      · split
        · exact h_a0_4
        · exact (KeepsP.step (State.secOpen_keeps ..) (by decide) (Keeps.refl _ _))

theorem State.scToHalt_keeps (s : State) (k : Nat) : Keeps 1610612737 s (State.scToHalt s k) := by
  unfold State.scToHalt
  exact (Keeps.step (State.event_keeps ..) (by decide) (Keeps.step (State.sticky_keeps ..) (by decide) (Keeps.step (State.setScState_keeps ..) (by
      decide) (Keeps.refl _ _))))

theorem State.scExhausted_keeps (s : State) (k : Nat) : Keeps 1610874881 s (State.scExhausted s k) := by
  unfold State.scExhausted
  exact (Keeps.ite (Keeps.step (State.scSwitch_keeps ..) (by decide) (Keeps.refl _ _)) (Keeps.step (State.scToHalt_keeps ..) (by decide) (Keeps.refl
      _ _)))

theorem State.pnUsed_keeps (s : State) (k : Nat) (a : Nat) (pn : Nat) : Keeps 1610874881 s (State.pnUsed s k a pn) := by
  unfold State.pnUsed
  extract_lets a0_0 a0_1 a0_2 a0_3 a0_4 a0_5
  have h_a0_3 : Keeps 1610874881 s a0_3 := (Keeps.ite (Keeps.step (State.setGuard_keeps ..) (by decide) (Keeps.step (State.event_keeps ..) (by
      decide) (Keeps.step (State.sticky_keeps ..) (by decide) (Keeps.refl _ _)))) (Keeps.refl _ _))
  have h_a0_5 : Keeps 1610874881 s a0_5 := (Keeps.step (State.setGuard_keeps ..) (by decide) (Keeps.step (State.wr_keeps ..) (by decide) h_a0_3))
  exact (Keeps.ite (Keeps.step (State.wr_keeps ..) (by decide) h_a0_3) (Keeps.step (State.scExhausted_keeps ..) (by decide) h_a0_5))

theorem State.secProtect_keeps (s : State) (p : Nat) (d : List Nat) : KeepsP 1610874881 s (State.secProtect s p d) := by
  unfold State.secProtect
  extract_lets a0_0 a0_1 a0_2
  have h_a0_1 : Keeps 1610874881 s a0_1 := (Keeps.step (State.secyBoundary_keeps ..) (by decide) (Keeps.refl _ _))
  clear_value a0_0 a0_1 a0_2
  refine (KeepsP.ite (KeepsP.mk (Keeps.refl _ _)) ?_)
  split
  · exact (KeepsP.mk h_a0_1)
  · extract_lets a3_0 a3_1 a3_2 a3_3 a3_4 a3_5 a3_6 a3_7 a3_8 a3_9 a3_10 a3_11 a3_12 a3_13 a3_14 a3_15 a3_16 a3_17
    have h_a3_0 : Keeps 1610874881 s a3_0 := (Keeps.ite (Keeps.step (State.scExhausted_keeps ..) (by decide) h_a0_1) h_a0_1)
    have h_a3_1 : Keeps 1610874881 s a3_1 := (Keeps.ite (Keeps.step (State.scToHalt_keeps ..) (by decide) h_a3_0) h_a3_0)
    have h_a3_16 : Keeps 1610874881 s a3_16 := (Keeps.step (State.count_keeps ..) (by decide) h_a3_1)
    have h_a3_17 : Keeps 1610874881 s a3_17 := (Keeps.step (State.count_keeps ..) (by decide) h_a3_16)
    exact (KeepsP.ite (KeepsP.mk h_a3_1) (KeepsP.ite (KeepsP.mk h_a3_1) (KeepsP.ite (KeepsP.mk h_a3_1) (KeepsP.ite (KeepsP.mk h_a3_1) (KeepsP.mk
        (Keeps.step (State.pnUsed_keeps ..) (by decide) h_a3_17))))))

/-! ## PipeOps -/

theorem State.enterPipe_keeps (s : State) (fid : Nat) (src : Nat) (data : List Nat) (ring : Option Nat) (ringTc : Nat) (ask : Option StampAsk) (evt
    : Bool) : Keeps 128 s (State.enterPipe s fid src data ring ringTc ask evt) := by
  unfold State.enterPipe
  extract_lets a0_0 a0_1
  exact (Keeps.step (State.setFab_keeps ..) (by decide) (Keeps.refl _ _))

theorem State.arrive_keeps (s : State) (src : Nat) (cells : Nat) (data : List Nat) (can : Option CanHdr) (lin : Option Nat) (age : Nat) : Keeps
    1610613889 s (State.arrive s src cells data can lin age) := by
  unfold State.arrive
  refine (Keeps.ite (Keeps.step (State.stockpileFull_keeps ..) (by decide) (Keeps.refl _ _)) ?_)
  extract_lets a0_0 a0_1 a0_2 a0_3
  have h_a0_1 : Keeps 1610613889 s a0_1 := (Keeps.step (State.addFrame_keeps ..) (by decide) (Keeps.refl _ _))
  have h_a0_3 : Keeps 1610613889 s a0_3 := (Keeps.step (State.mapFrame_keeps ..) (by decide) h_a0_1)
  exact (Keeps.step (State.enterPipe_keeps ..) (by decide) h_a0_3)

theorem State.rxFailed_keeps (s : State) (p : Nat) (reason : Nat) (f : Field) : Keeps 1610612737 s (State.rxFailed s p reason f) := by
  unfold State.rxFailed
  extract_lets a0_0
  have h_a0_0 : Keeps 1610612737 s a0_0 := (Keeps.step (State.count_keeps ..) (by decide) (Keeps.refl _ _))
  exact (Keeps.ite (Keeps.step (State.sticky_keeps ..) (by decide) h_a0_0) h_a0_0)

/-! ## LinOps -/

theorem State.setLinData_keeps (s : State) (p : Nat) (i : Nat) (v : Nat) : Keeps 1 s (State.setLinData s p i v) := by
  unfold State.setLinData
  exact (Keeps.step (State.wr_keeps ..) (by decide) (Keeps.refl _ _))

theorem State.fillLin_keeps (s : State) (p : Nat) (i : Nat) (data : List Nat) : Keeps 1 s (State.fillLin s p i data) := by
  unfold State.fillLin
  extract_lets a0_0
  exact (Keeps.step (State.setLinData_keeps ..) (by decide) (Keeps.refl _ _))

theorem State.setLinSlot_keeps (s : State) (p : Nat) (x : LinSlot) : Keeps 65536 s (State.setLinSlot s p x) := by
  unfold State.setLinSlot
  exact (Keeps.step (State.setLin_keeps ..) (by decide) (Keeps.refl _ _))

theorem State.linReplace_keeps (s : State) (p : Nat) (i : Nat) : Keeps 1610679441 s (State.linReplace s p i) := by
  unfold State.linReplace
  extract_lets a0_0 a0_1
  have h_a0_0 : Keeps 1610679441 s a0_0 := (Keeps.ite (Keeps.step (State.linOwnerEnd_keeps ..) (by decide) (Keeps.step (State.sticky_keeps ..) (by
      decide) (Keeps.refl _ _))) (Keeps.refl _ _))
  have h_a0_1 : Keeps 1610679441 s a0_1 := by
    unfold a0_1
    clear_value a0_0
    split
    · exact h_a0_0
    · exact (Keeps.ite (Keeps.step (State.setLinSlot_keeps ..) (by decide) h_a0_0) h_a0_0)
  exact (Keeps.step (State.wr_keeps ..) (by decide) h_a0_1)

theorem State.linEnqueue_keeps (s : State) (p : Nat) (c : Copy) : Keeps 1644393873 s (State.linEnqueue s p c) := by
  unfold State.linEnqueue
  extract_lets a0_0 a0_1 a0_2 a0_3 a0_4
  have h_a0_2 : Keeps 1644393873 s a0_2 := (Keeps.step (State.fillLin_keeps ..) (by decide) (Keeps.step (State.linReplace_keeps ..) (by decide)
      (Keeps.refl _ _)))
  have h_a0_4 : Keeps 1644393873 s a0_4 := (Keeps.step (State.setLin_keeps ..) (by decide) h_a0_2)
  exact (Keeps.ite (Keeps.step (State.linEnd_keeps ..) (by decide) (Keeps.refl _ _)) (Keeps.ite (Keeps.step (State.linEnd_keeps ..) (by decide)
      (Keeps.step (State.sticky_keeps ..) (by decide) (Keeps.refl _ _))) (Keeps.ite (Keeps.step (State.linEnd_keeps ..) (by decide) (Keeps.refl _
      _)) (Keeps.ite (Keeps.step (State.linEnd_keeps ..) (by decide) (Keeps.refl _ _)) (Keeps.ite (Keeps.step (State.copyWake_keeps ..) (by decide)
      h_a0_4) h_a0_4)))))

theorem State.setLinPos_keeps (s : State) (p : Nat) (v : Nat) : Keeps 1 s (State.setLinPos s p v) := by
  unfold State.setLinPos
  exact (Keeps.step (State.wr_keeps ..) (by decide) (Keeps.refl _ _))

theorem State.slotOutcome_keeps (s : State) (p : Nat) (x : LinSlot) (code : Nat) : Keeps 1610612737 s (State.slotOutcome s p x code) := by
  unfold State.slotOutcome
  extract_lets a0_0 a0_1 a0_2
  have h_a0_1 : Keeps 1610612737 s a0_1 := (Keeps.step (State.wr_keeps ..) (by decide) (Keeps.refl _ _))
  exact (Keeps.ite (Keeps.ite h_a0_1 (Keeps.step (State.event_keeps ..) (by decide) (Keeps.step (State.sticky_keeps ..) (by decide) (Keeps.step
      (State.count_keeps ..) (by decide) h_a0_1)))) (Keeps.ite (Keeps.step (State.event_keeps ..) (by decide) (Keeps.step (State.sticky_keeps ..)
      (by decide) (Keeps.step (State.count_keeps ..) (by decide) h_a0_1))) (Keeps.ite (Keeps.step (State.event_keeps ..) (by decide) (Keeps.step
      (State.sticky_keeps ..) (by decide) (Keeps.step (State.count_keeps ..) (by decide) h_a0_1))) (Keeps.ite (Keeps.step (State.event_keeps ..) (by
      decide) (Keeps.step (State.sticky_keeps ..) (by decide) (Keeps.step (State.count_keeps ..) (by decide) h_a0_1))) (Keeps.ite (Keeps.step
      (State.count_keeps ..) (by decide) h_a0_1) h_a0_1)))))

theorem State.slotSent_keeps (s : State) (p : Nat) (x : LinSlot) : Keeps 1610679441 s (State.slotSent s p x) := by
  unfold State.slotSent
  extract_lets a0_0
  have h_a0_0 : Keeps 1610679441 s a0_0 := (Keeps.step (State.wr_keeps ..) (by decide) (Keeps.step (State.count_keeps ..) (by decide) (Keeps.refl _
      _)))
  exact (Keeps.ite (Keeps.step (State.wr_keeps ..) (by decide) (Keeps.step (State.linOwnerEnd_keeps ..) (by decide) h_a0_0)) h_a0_0)

theorem State.linAdvance_keeps (s : State) (p : Nat) (collided : Bool) : Keeps 1610678273 s (State.linAdvance s p collided) := by
  unfold State.linAdvance
  extract_lets a0_0 a0_1 a0_2 a0_3 a0_4 a0_5 a0_6 a0_7 a0_8
  have h_a0_3 : Keeps 1610678273 s a0_3 := (Keeps.step (State.setLin_keeps ..) (by decide) (Keeps.refl _ _))
  have h_a0_6 : Keeps 1610678273 s a0_6 := (Keeps.step (State.setLin_keeps ..) (by decide) h_a0_3)
  have h_a0_8 : Keeps 1610678273 s a0_8 := (Keeps.step (State.setLin_keeps ..) (by decide) h_a0_3)
  clear_value a0_0 a0_1 a0_2 a0_3 a0_4 a0_5 a0_6 a0_7 a0_8
  split
  · exact (Keeps.step (State.event_keeps ..) (by decide) (Keeps.step (State.linStart_keeps ..) (by decide) h_a0_3))
  · refine (Keeps.ite (Keeps.step (State.setLinPos_keeps ..) (by decide) (Keeps.step (State.wr_keeps ..) (by decide) h_a0_6)) ?_)
    split
    · exact (Keeps.ite (Keeps.step (State.setLinPos_keeps ..) (by decide) h_a0_3) (Keeps.step (State.setLinPos_keeps ..) (by decide) (Keeps.step
        (State.wr_keeps ..) (by decide) h_a0_8)))
    · exact (Keeps.step (State.setLinPos_keeps ..) (by decide) h_a0_3)

/-! ## RouteOps -/

theorem State.routeReason_keeps (s : State) (reason : Nat) : Keeps 1610612737 s (State.routeReason s reason) := by
  unfold State.routeReason
  extract_lets a0_0
  have h_a0_0 : Keeps 1610612737 s a0_0 := (Keeps.ite (Keeps.step (State.sticky_keeps ..) (by decide) (Keeps.step (State.count_keeps ..) (by decide)
      (Keeps.refl _ _))) (Keeps.ite (Keeps.step (State.sticky_keeps ..) (by decide) (Keeps.step (State.count_keeps ..) (by decide) (Keeps.refl _
      _))) (Keeps.ite (Keeps.step (State.sticky_keeps ..) (by decide) (Keeps.step (State.count_keeps ..) (by decide) (Keeps.refl _ _))) (Keeps.step
      (State.sticky_keeps ..) (by decide) (Keeps.step (State.count_keeps ..) (by decide) (Keeps.refl _ _))))))
  exact (Keeps.step (State.event_keeps ..) (by decide) h_a0_0)

theorem State.endRouted_keeps (s : State) (reason : Nat) (fid : Nat) : Keeps 1610613905 s (State.endRouted s reason fid) := by
  unfold State.endRouted
  exact (Keeps.step (State.endItem_keeps ..) (by decide) (Keeps.step (State.routeReason_keeps ..) (by decide) (Keeps.refl _ _)))

theorem State.form_keeps (s : State) (g : Nat) (o : Origin) (d : Dest) : KeepsP 524416 s (State.form s g o d) := by
  unfold State.form
  extract_lets a0_0 a0_1 a0_2 a0_3 a0_4 a0_5 a0_6 a0_7 a0_8 a0_9 a0_10
  have h_a0_2 : Keeps 524416 s a0_2 := (Keeps.step (State.setFab_keeps ..) (by decide) (Keeps.refl _ _))
  have h_a0_6 : KeepsP 524416 s a0_6 := (KeepsP.mk h_a0_2)
  have h_a0_9 : Keeps 524416 s a0_9 := (Keeps.ite (Keeps.step (State.setGw_keeps ..) (by decide) h_a0_2) h_a0_2)
  clear_value a0_0 a0_1 a0_2 a0_3 a0_6 a0_7 a0_8 a0_9 a0_10
  refine (KeepsP.ite ?_ ?_)
  · refine (KeepsP.ite (KeepsP.ite h_a0_6 (KeepsP.mk h_a0_9)) ?_)
    refine (KeepsP.ite (KeepsP.ite (KeepsP.mk h_a0_2) h_a0_6) ?_)
    split
    · refine (KeepsP.ite ?_ (KeepsP.ite (KeepsP.mk h_a0_2) h_a0_6))
      extract_lets a2_0 a2_1
      exact (KeepsP.mk (Keeps.step (State.setGw_keeps ..) (by decide) h_a0_2))
    · exact (KeepsP.ite (KeepsP.mk h_a0_2) h_a0_6)
    · exact h_a0_6
  · refine (KeepsP.ite ?_ ?_)
    · split
      · exact h_a0_6
      · exact (KeepsP.mk h_a0_2)
    · refine (KeepsP.ite (KeepsP.ite h_a0_6 (KeepsP.mk h_a0_2)) ?_)
      refine (KeepsP.ite ?_ (KeepsP.mk h_a0_2))
      refine (KeepsP.ite (KeepsP.mk h_a0_2) ?_)
      split
      · exact (KeepsP.mk h_a0_2)
      · exact (KeepsP.mk h_a0_2)
      · exact (KeepsP.mk h_a0_2)

theorem State.ringEnqueue_keeps (s : State) (c : Copy) : Keeps 1610613905 s (State.ringEnqueue s c) := by
  unfold State.ringEnqueue
  extract_lets a0_0 a0_1 a0_2
  exact (Keeps.ite (Keeps.step (State.endCopy_keeps ..) (by decide) (Keeps.refl _ _)) (Keeps.ite (Keeps.step (State.endCopy_keeps ..) (by decide)
      (Keeps.refl _ _)) (Keeps.step (State.setFab_keeps ..) (by decide) (Keeps.refl _ _))))

theorem State.ethEnqueue_keeps (s : State) (p : Nat) (c : Copy) : Keeps 1644389777 s (State.ethEnqueue s p c) := by
  unfold State.ethEnqueue
  extract_lets a0_0 a0_1
  have h_a0_1 : Keeps 1644389777 s a0_1 := (Keeps.step (State.hopEnqueue_keeps ..) (by decide) (Keeps.refl _ _))
  exact (Keeps.ite (Keeps.step (State.ethSynced_keeps ..) (by decide) (Keeps.step (State.ethWake_keeps ..) (by decide) h_a0_1)) h_a0_1)

theorem State.cmacFull_keeps (s : State) (c : Copy) : Keeps 1610613905 s (State.cmacFull s c) := by
  unfold State.cmacFull
  exact (Keeps.step (State.endCopy_keeps ..) (by decide) (Keeps.step (State.count_keeps ..) (by decide) (Keeps.refl _ _)))

theorem State.toAppend_keeps (s : State) (c : Copy) : Keeps 128 s (State.toAppend s c) := by
  unfold State.toAppend
  exact (Keeps.step (State.setFab_keeps ..) (by decide) (Keeps.refl _ _))

theorem State.canDispatch_keeps (s : State) (p : Nat) (c : Copy) : Keeps 1644426641 s (State.canDispatch s p c) := by
  unfold State.canDispatch
  extract_lets a0_0
  have h_a0_0 : Keeps 1644426641 s a0_0 := (Keeps.step (State.canEnqueue_keeps ..) (by decide) (Keeps.refl _ _))
  exact (Keeps.ite h_a0_0 (Keeps.ite (Keeps.step (State.cmacFull_keeps ..) (by decide) (Keeps.step (State.setTxq_keeps ..) (by decide) h_a0_0))
      (Keeps.step (State.toAppend_keeps ..) (by decide) h_a0_0)))

theorem State.linDispatch_keeps (s : State) (p : Nat) (c : Copy) : Keeps 1644393873 s (State.linDispatch s p c) := by
  unfold State.linDispatch
  exact (Keeps.ite (Keeps.step (State.linEnqueue_keeps ..) (by decide) (Keeps.refl _ _)) (Keeps.ite (Keeps.step (State.cmacFull_keeps ..) (by
      decide) (Keeps.refl _ _)) (Keeps.step (State.setFab_keeps ..) (by decide) (Keeps.step (State.toAppend_keeps ..) (by decide) (Keeps.refl _
      _)))))

theorem State.ringDispatch_keeps (s : State) (c : Copy) : Keeps 1610613905 s (State.ringDispatch s c) := by
  unfold State.ringDispatch
  exact (Keeps.ite (Keeps.step (State.ringEnqueue_keeps ..) (by decide) (Keeps.refl _ _)) (Keeps.ite (Keeps.step (State.cmacFull_keeps ..) (by
      decide) (Keeps.refl _ _)) (Keeps.step (State.setFab_keeps ..) (by decide) (Keeps.step (State.toAppend_keeps ..) (by decide) (Keeps.refl _
      _)))))

theorem State.dispatch_keeps (s : State) (c : Copy) : Keeps 1644426641 s (State.dispatch s c) := by
  unfold State.dispatch
  exact (Keeps.ite (Keeps.step (State.ethEnqueue_keeps ..) (by decide) (Keeps.refl _ _)) (Keeps.ite (Keeps.step (State.canDispatch_keeps ..) (by
      decide) (Keeps.refl _ _)) (Keeps.ite (Keeps.step (State.linDispatch_keeps ..) (by decide) (Keeps.refl _ _)) (Keeps.step
      (State.ringDispatch_keeps ..) (by decide) (Keeps.refl _ _)))))

theorem State.formRefused_keeps (s : State) (o : Origin) (d : Dest) (reason : Nat) : Keeps 1610613905 s (State.formRefused s o d reason) := by
  unfold State.formRefused
  extract_lets a0_0 a0_1
  have h_a0_0 : Keeps 1610613905 s a0_0 := (Keeps.ite (Keeps.step (State.count_keeps ..) (by decide) (Keeps.refl _ _)) (Keeps.refl _ _))
  have h_a0_1 : Keeps 1610613905 s a0_1 := (Keeps.ite (Keeps.step (State.routeReason_keeps ..) (by decide) h_a0_0) h_a0_0)
  exact (Keeps.step (State.release_keeps ..) (by decide) (Keeps.step (State.endFrame_keeps ..) (by decide) h_a0_1))

theorem State.makeCopies_keeps (s : State) (g : Nat) (o : Origin) (l : List Dest) : KeepsP 1611138193 s (s.makeCopies g o l) := by
  suffices h : ∀ t, Keeps 1611138193 s t → KeepsP 1611138193 s (t.makeCopies g o l) from h s (Keeps.refl _ _)
  induction l with
  | nil => exact fun t h => KeepsP.mk h
  | cons d r ih =>
    intro t h
    unfold State.makeCopies
    extract_lets a x
    have ha : Keeps 1611138193 s a := Keeps.step (State.addRefs_keeps ..) (by decide) h
    have hx : KeepsP 1611138193 s x := KeepsP.step (State.form_keeps ..) (by decide) ha
    split
    · exact KeepsP.mk (ih _ hx)
    · exact ih _ (Keeps.step (State.formRefused_keeps ..) (by decide) hx)

theorem State.releaseItem_keeps (s : State) (fid : Nat) : Keeps 1073741968 s (State.releaseItem s fid) := by
  unfold State.releaseItem
  split
  · exact (Keeps.refl _ _)
  · exact (Keeps.step (State.release_keeps ..) (by decide) (Keeps.refl _ _))

theorem State.mirrorCopy_keeps (s : State) (c : Copy) : Keeps 1644426641 s (State.mirrorCopy s c) := by
  unfold State.mirrorCopy
  exact (Keeps.ite (Keeps.step (State.setFab_keeps ..) (by decide) (Keeps.refl _ _)) (Keeps.step (State.dispatch_keeps ..) (by decide) (Keeps.refl _
      _)))

theorem State.mirrorTo_keeps (s : State) (k : Nat) (fid : Nat) (src : Nat) (cells : Nat) (data : List Nat) : Keeps 1644426641 s (State.mirrorTo s k
    fid src cells data) := by
  unfold State.mirrorTo
  extract_lets a0_0 a0_1 a0_2 a0_3 a0_4 a0_5
  have h_a0_5 : Keeps 1644426641 s a0_5 := (Keeps.step (State.addRefs_keeps ..) (by decide) (Keeps.step (State.setFab_keeps ..) (by decide)
      (Keeps.refl _ _)))
  exact (Keeps.ite (Keeps.refl _ _) (Keeps.step (State.mirrorCopy_keeps ..) (by decide) h_a0_5))

theorem State.mirrorIn_keeps (s : State) (p : Nat) (fid : Nat) (cells : Nat) (data : List Nat) : Keeps 1644426641 s (State.mirrorIn s p fid cells
    data) := by
  unfold State.mirrorIn
  exact (Keeps.each (Keeps.refl _ _) (fun t0 y0 k0 => (Keeps.ite (Keeps.step (State.mirrorTo_keeps ..) (by decide) k0) k0)))

theorem State.mirrorOut_keeps (s : State) (p : Nat) (c : Copy) : Keeps 1644426641 s (State.mirrorOut s p c) := by
  unfold State.mirrorOut
  exact (Keeps.each (Keeps.refl _ _) (fun t0 y0 k0 => (Keeps.ite (Keeps.step (State.mirrorTo_keeps ..) (by decide) k0) k0)))

/-! ## Gateway -/

theorem seExtract_keeps (e : Nat) (s : State) : Keeps 1611400337 s (seExtract e s) := by
  unfold seExtract
  refine (Keeps.ite (Keeps.refl _ _) ?_)
  split
  · exact (Keeps.refl _ _)
  · extract_lets a2_0
    have h_a2_0 : Keeps 1611400337 s a2_0 := (Keeps.step (State.seServed_keeps ..) (by decide) (Keeps.step (State.setExq_keeps ..) (by decide)
        (Keeps.refl _ _)))
    clear_value a2_0
    split
    · exact (Keeps.ite (Keeps.step (State.count_keeps ..) (by decide) (Keeps.step (State.sigStore_keeps ..) (by decide) h_a2_0)) h_a2_0)
    · extract_lets a5_0 a5_1
      have h_a5_1 : Keeps 1611400337 s a5_1 := (Keeps.each h_a2_0 (fun t6 y6 k6 => (Keeps.step (State.extractOne_keeps ..) (by decide) k6)))
      exact (Keeps.ite (Keeps.step (State.endItem_keeps ..) (by decide) h_a5_1) h_a5_1)

theorem execSeExtract_keeps (e : Fin 4) (s : State) : KeepsR 1611400337 s (execSeExtract e s) := by
  unfold execSeExtract
  exact (KeepsR.next (Keeps.step (seExtract_keeps ..) (by decide) (Keeps.step (fresh_keeps ..) (by decide) (Keeps.refl _ _))))

theorem execBodySourceReport_keeps (i : Fin 65536) (s : State) : KeepsR 1611137025 s (execBodySourceReport i s) := by
  unfold execBodySourceReport
  exact (KeepsR.next (Keeps.step (bodyReport_keeps ..) (by decide) (Keeps.step (fresh_keeps ..) (by decide) (Keeps.refl _ _))))

theorem execSignalTimeout_keeps (i : Fin 65536) (s : State) : KeepsR 1611137025 s (execSignalTimeout i s) := by
  unfold execSignalTimeout
  exact (KeepsR.next (Keeps.ite (Keeps.step (State.sigTimeout_keeps ..) (by decide) (Keeps.step (fresh_keeps ..) (by decide) (Keeps.refl _ _)))
      (Keeps.step (fresh_keeps ..) (by decide) (Keeps.refl _ _))))

theorem State.sigValueWrite_keeps (s : State) (init : Nat) (v : Nat) : Keeps 1611400193 s (State.sigValueWrite s init v) := by
  unfold State.sigValueWrite
  extract_lets a0_0 a0_1
  exact (Keeps.cmdWrite (by decide) (Keeps.refl _ _) (fun t1 k1 => (Keeps.ite (Keeps.step (State.sigStore_keeps ..) (by decide) k1) k1)) (fun _ =>
      Keeps.step (State.endAccess_keeps ..) (by decide) (Keeps.step (State.violate_keeps ..) (by decide) (Keeps.refl _ _))))

theorem execSigValueWrite_keeps (init : Initiator) (v : BitVec 64) (s : State) : KeepsR 1611400193 s (execSigValueWrite init v s) := by
  unfold execSigValueWrite
  exact (KeepsR.next (Keeps.step (State.sigValueWrite_keeps ..) (by decide) (Keeps.step (fresh_keeps ..) (by decide) (Keeps.refl _ _))))

theorem State.takeSink_keeps (s : State) (fn : Nat) : KeepsOQ 524288 s (State.takeSink s fn) := by
  unfold State.takeSink
  split
  · exact KeepsOQ.none
  · exact (KeepsOQ.some (KeepsQ.mk (Keeps.step (State.setGw_keeps ..) (by decide) (Keeps.refl _ _))))

theorem sinkOn_keeps (s : State) : Keeps 537411585 s (sinkOn s) := by
  unfold sinkOn
  split
  · exact (Keeps.refl _ _)
  · next p1_0 p1_1 e1 =>
      have q1 := KeepsOQ.get (T := 537411585) (a := s) (KeepsOQ.step (State.takeSink_keeps ..) (by decide) (Keeps.refl _ _)) e1
      exact (Keeps.ite q1 (Keeps.step (State.chCommand_keeps ..) (by decide) q1))

theorem sinkDuty_keeps (s : State) : Keeps 524289 s (sinkDuty s) := by
  unfold sinkDuty
  split
  · exact (Keeps.refl _ _)
  · next p1_0 p1_1 e1 =>
      have q1 := KeepsOQ.get (T := 524289) (a := s) (KeepsOQ.step (State.takeSink_keeps ..) (by decide) (Keeps.refl _ _)) e1
      exact (Keeps.ite q1 (Keeps.step (State.chSetDuty_keeps ..) (by decide) q1))

theorem sinkPhase_keeps (s : State) : Keeps 524289 s (sinkPhase s) := by
  unfold sinkPhase
  split
  · exact (Keeps.refl _ _)
  · next p1_0 p1_1 e1 =>
      have q1 := KeepsOQ.get (T := 524289) (a := s) (KeepsOQ.step (State.takeSink_keeps ..) (by decide) (Keeps.refl _ _)) e1
      exact (Keeps.ite q1 (Keeps.step (State.chSetPhase_keeps ..) (by decide) q1))

theorem sinkMove_keeps (s : State) : Keeps 1611153409 s (sinkMove s) := by
  unfold sinkMove
  split
  · exact (Keeps.refl _ _)
  · next p1_0 p1_1 e1 =>
      have q1 := KeepsOQ.get (T := 1611153409) (a := s) (KeepsOQ.step (State.takeSink_keeps ..) (by decide) (Keeps.refl _ _)) e1
      exact (Keeps.ite q1 (Keeps.step (State.meCommand_keeps ..) (by decide) (Keeps.step (State.wr_keeps ..) (by decide) q1)))

theorem sinkMode_keeps (s : State) : Keeps 1611153409 s (sinkMode s) := by
  unfold sinkMode
  split
  · exact (Keeps.refl _ _)
  · next p1_0 p1_1 e1 =>
      have q1 := KeepsOQ.get (T := 1611153409) (a := s) (KeepsOQ.step (State.takeSink_keeps ..) (by decide) (Keeps.refl _ _)) e1
      exact (Keeps.ite q1 (Keeps.step (State.meModeCommand_keeps ..) (by decide) q1))

theorem execSinkChOn_keeps (s : State) : KeepsR 537411585 s (execSinkChOn s) := by
  unfold execSinkChOn
  exact (KeepsR.next (Keeps.step (sinkOn_keeps ..) (by decide) (Keeps.step (fresh_keeps ..) (by decide) (Keeps.refl _ _))))

theorem execSinkChDuty_keeps (s : State) : KeepsR 537395201 s (execSinkChDuty s) := by
  unfold execSinkChDuty
  exact (KeepsR.next (Keeps.step (sinkDuty_keeps ..) (by decide) (Keeps.step (fresh_keeps ..) (by decide) (Keeps.refl _ _))))

theorem execSinkChPhase_keeps (s : State) : KeepsR 537395201 s (execSinkChPhase s) := by
  unfold execSinkChPhase
  exact (KeepsR.next (Keeps.step (sinkPhase_keeps ..) (by decide) (Keeps.step (fresh_keeps ..) (by decide) (Keeps.refl _ _))))

theorem execSinkMeMove_keeps (s : State) : KeepsR 1611153409 s (execSinkMeMove s) := by
  unfold execSinkMeMove
  exact (KeepsR.next (Keeps.step (sinkMove_keeps ..) (by decide) (Keeps.step (fresh_keeps ..) (by decide) (Keeps.refl _ _))))

theorem execSinkMeMode_keeps (s : State) : KeepsR 1611153409 s (execSinkMeMode s) := by
  unfold execSinkMeMode
  exact (KeepsR.next (Keeps.step (sinkMode_keeps ..) (by decide) (Keeps.step (fresh_keeps ..) (by decide) (Keeps.refl _ _))))

theorem pduCyclic_keeps (j : Nat) (s : State) : Keeps 1611137025 s (pduCyclic j s) := by
  unfold pduCyclic
  extract_lets a0_0 a0_1
  exact (Keeps.ite (Keeps.step (State.buildDue_keeps ..) (by decide) (Keeps.refl _ _)) (Keeps.refl _ _))

theorem execPduCyclicDue_keeps (j : Fin 8192) (s : State) : KeepsR 1611137025 s (execPduCyclicDue j s) := by
  unfold execPduCyclicDue
  exact (KeepsR.next (Keeps.step (pduCyclic_keeps ..) (by decide) (Keeps.step (fresh_keeps ..) (by decide) (Keeps.refl _ _))))

theorem State.pduSend_keeps (s : State) (init : Nat) : Keeps 1611138049 s (State.pduSend s init) := by
  unfold State.pduSend
  exact (Keeps.cmdField (by decide) (Keeps.refl _ _) (fun t0 k0 => (Keeps.step (State.sendBuild_keeps ..) (by decide) k0)) (fun _ => Keeps.step
      (State.endAccess_keeps ..) (by decide) (Keeps.step (State.violate_keeps ..) (by decide) (Keeps.refl _ _))))

theorem execPduSendCmd_keeps (init : Initiator) (s : State) : KeepsR 1611138049 s (execPduSendCmd init s) := by
  unfold execPduSendCmd
  exact (KeepsR.next (Keeps.step (State.pduSend_keeps ..) (by decide) (Keeps.step (fresh_keeps ..) (by decide) (Keeps.refl _ _))))

theorem pduMdt_keeps (j : Nat) (s : State) : Keeps 1611137025 s (pduMdt j s) := by
  unfold pduMdt
  refine (Keeps.ite (Keeps.refl _ _) ?_)
  extract_lets a0_0 a0_1 a0_2
  have h_a0_2 : Keeps 1611137025 s a0_2 := (Keeps.step (State.setGw_keeps ..) (by decide) (Keeps.refl _ _))
  exact (Keeps.ite (Keeps.step (State.buildDue_keeps ..) (by decide) h_a0_2) h_a0_2)

theorem execPduMdtExpiry_keeps (j : Fin 8192) (s : State) : KeepsR 1611137025 s (execPduMdtExpiry j s) := by
  unfold execPduMdtExpiry
  exact (KeepsR.next (Keeps.step (pduMdt_keeps ..) (by decide) (Keeps.step (fresh_keeps ..) (by decide) (Keeps.refl _ _))))

theorem pduRepeat_keeps (j : Nat) (s : State) : Keeps 1611137025 s (pduRepeat j s) := by
  unfold pduRepeat
  refine (Keeps.ite (Keeps.refl _ _) ?_)
  extract_lets a0_0 a0_1
  exact (Keeps.ite (Keeps.step (State.setGw_keeps ..) (by decide) (Keeps.refl _ _)) (Keeps.step (State.buildDue_keeps ..) (by decide) (Keeps.step
      (State.setGw_keeps ..) (by decide) (Keeps.refl _ _))))

theorem execPduRepeatExpiry_keeps (j : Fin 8192) (s : State) : KeepsR 1611137025 s (execPduRepeatExpiry j s) := by
  unfold execPduRepeatExpiry
  exact (KeepsR.next (Keeps.step (pduRepeat_keeps ..) (by decide) (Keeps.step (fresh_keeps ..) (by decide) (Keeps.refl _ _))))

theorem State.builtLate_keeps (s : State) (e : Nat) (j : Nat) : Keeps 1091043329 s (State.builtLate s e j) := by
  unfold State.builtLate
  extract_lets a0_0 a0_1 a0_2 a0_3 a0_4
  have h_a0_2 : Keeps 1091043329 s a0_2 := (Keeps.when (Keeps.refl _ _) (fun t1 k1 => (Keeps.step (State.count_keeps ..) (by decide) k1)))
  exact (Keeps.step (State.setUpd_keeps ..) (by decide) (Keeps.step (State.setGw_keeps ..) (by decide) h_a0_2))

theorem State.buildStarts_keeps (s : State) (j : Nat) : Keeps 524288 s (State.buildStarts s j) := by
  unfold State.buildStarts
  exact (Keeps.step (State.setGw_keeps ..) (by decide) (Keeps.refl _ _))

theorem State.buildItem_keeps (s : State) (j : Nat) (data : List Nat) : Keeps 1644950929 s (State.buildItem s j data) := by
  unfold State.buildItem
  extract_lets a0_0 a0_1 a0_2 a0_3 a0_4 a0_5 a0_6
  have h_a0_3 : Keeps 1644950929 s a0_3 := (Keeps.step (State.addFrame_keeps ..) (by decide) (Keeps.refl _ _))
  have h_a0_6 : KeepsP 1644950929 s a0_6 := (KeepsP.step (State.makeCopies_keeps ..) (by decide) h_a0_3)
  exact (Keeps.ite (Keeps.step (State.stockpileFull_keeps ..) (by decide) (Keeps.refl _ _)) (Keeps.ite (Keeps.step (State.endRouted_keeps ..) (by
      decide) h_a0_3) (Keeps.step (State.releaseItem_keeps ..) (by decide) (Keeps.each h_a0_6 (fun t1 y1 k1 => (Keeps.step (State.dispatch_keeps ..)
      (by decide) k1))))))

theorem pduBuild_keeps (e : Nat) (s : State) : Keeps 1661728145 s (pduBuild e s) := by
  unfold pduBuild
  refine (Keeps.ite (Keeps.refl _ _) ?_)
  split
  · exact (Keeps.refl _ _)
  · extract_lets a2_0 a2_1 a2_2
    have h_a2_0 : Keeps 1661728145 s a2_0 := (Keeps.step (State.seServed_keeps ..) (by decide) (Keeps.step (State.setBq_keeps ..) (by decide)
        (Keeps.refl _ _)))
    have h_a2_2 : Keeps 1661728145 s a2_2 := (Keeps.step (State.builtLate_keeps ..) (by decide) h_a2_0)
    exact (Keeps.ite (Keeps.step (State.sendDone_keeps ..) (by decide) (Keeps.step (State.buildSkip_keeps ..) (by decide) h_a2_0)) (Keeps.step
        (State.sendDone_keeps ..) (by decide) (Keeps.step (State.buildItem_keeps ..) (by decide) (Keeps.step (State.count_keeps ..) (by decide)
        (Keeps.step (State.buildStarts_keeps ..) (by decide) h_a2_2)))))

theorem execPduBuild_keeps (e : Fin 4) (s : State) : KeepsR 1661728145 s (execPduBuild e s) := by
  unfold execPduBuild
  exact (KeepsR.next (Keeps.step (pduBuild_keeps ..) (by decide) (Keeps.step (fresh_keeps ..) (by decide) (Keeps.refl _ _))))

/-! ## RingOps -/

theorem State.setTxDescs_keeps (s : State) (r : Nat) (l : List Desc) : Keeps 1073741840 s (State.setTxDescs s r l) := by
  unfold State.setTxDescs
  exact (Keeps.step (State.setHost_keeps ..) (by decide) (Keeps.refl _ _))

theorem State.setRxDescs_keeps (s : State) (r : Nat) (l : List Desc) : Keeps 1073741840 s (State.setRxDescs s r l) := by
  unfold State.setRxDescs
  exact (Keeps.step (State.setHost_keeps ..) (by decide) (Keeps.refl _ _))

theorem State.setTxFrames_keeps (s : State) (r : Nat) (l : List RingFrame) : Keeps 1073741840 s (State.setTxFrames s r l) := by
  unfold State.setTxFrames
  exact (Keeps.step (State.setHost_keeps ..) (by decide) (Keeps.refl _ _))

theorem State.setDone_keeps (s : State) (tx : Bool) (r : Nat) (l : List Nat) : Keeps 1073741840 s (State.setDone s tx r l) := by
  unfold State.setDone
  exact (Keeps.step (State.setHost_keeps ..) (by decide) (Keeps.refl _ _))

theorem State.setLaunch_keeps (s : State) (r : Nat) (x : Option RingFrame) : Keeps 1073741840 s (State.setLaunch s r x) := by
  unfold State.setLaunch
  exact (Keeps.step (State.setHost_keeps ..) (by decide) (Keeps.refl _ _))

theorem State.wbTx_keeps (s : State) (reach : Bool) (d : Desc) (how : Nat) : Keeps 1610613761 s (State.wbTx s reach d how) := by
  unfold State.wbTx
  refine (Keeps.ite (Keeps.step (State.endOther_keeps ..) (by decide) (Keeps.refl _ _)) ?_)
  extract_lets a0_0
  have h_a0_0 : Keeps 1610613761 s a0_0 := (Keeps.step (State.emit_keeps ..) (by decide) (Keeps.refl _ _))
  exact (Keeps.ite (Keeps.step (State.endOther_keeps ..) (by decide) h_a0_0) (Keeps.ite (Keeps.step (State.endOther_keeps ..) (by decide) h_a0_0)
      h_a0_0))

theorem State.wbRxEmpty_keeps (s : State) (reach : Bool) (d : Desc) (disp : Disp) (reason : Nat) : Keeps 1610613761 s (State.wbRxEmpty s reach d
    disp reason) := by
  unfold State.wbRxEmpty
  exact (Keeps.ite (Keeps.step (State.endOther_keeps ..) (by decide) (Keeps.refl _ _)) (Keeps.step (State.endOther_keeps ..) (by decide) (Keeps.step
      (State.emit_keeps ..) (by decide) (Keeps.refl _ _))))

theorem State.complete_keeps (s : State) (tx : Bool) (r : Nat) (idxs : List Nat) : Keeps 1073741841 s (State.complete s tx r idxs) := by
  unfold State.complete
  extract_lets a0_0 a0_1
  exact (Keeps.step (State.setDone_keeps ..) (by decide) (Keeps.step (State.wr_keeps ..) (by decide) (Keeps.refl _ _)))

theorem State.ringRaise_keeps (s : State) (tx : Bool) (r : Nat) : Keeps 1610612737 s (State.ringRaise s tx r) := by
  unfold State.ringRaise
  refine (Keeps.ite (Keeps.refl _ _) ?_)
  extract_lets a0_0
  have h_a0_0 : Keeps 1610612737 s a0_0 := (Keeps.step (State.sendVec_keeps ..) (by decide) (Keeps.step (State.wr_keeps ..) (by decide) (Keeps.refl
      _ _)))
  exact (Keeps.ite (Keeps.step (State.driveIrq_keeps ..) (by decide) h_a0_0) h_a0_0)

theorem State.ringIrq_keeps (s : State) (tx : Bool) (r : Nat) : Keeps 1610612753 s (State.ringIrq s tx r) := by
  unfold State.ringIrq
  extract_lets a0_0 a0_1 a0_2 a0_3
  have h_a0_2 : Keeps 1610612753 s a0_2 := (Keeps.step (State.ringRaise_keeps ..) (by decide) (Keeps.refl _ _))
  exact (Keeps.ite (Keeps.step (State.ringRaise_keeps ..) (by decide) (Keeps.refl _ _)) (Keeps.ite (Keeps.step (State.setHost_keeps ..) (by decide)
      (Keeps.refl _ _)) (Keeps.step (State.setHost_keeps ..) (by decide) h_a0_2)))

theorem State.wbFrame_keeps (s : State) (r : Nat) (f : RingFrame) (how : Nat) : Keeps 1610613777 s (State.wbFrame s r f how) := by
  unfold State.wbFrame
  extract_lets a0_0 a0_1
  have h_a0_1 : Keeps 1610613777 s a0_1 := (Keeps.foldl (Keeps.refl _ _) (fun t1 y1 k1 => (Keeps.step (State.wbTx_keeps ..) (by decide) k1)))
  exact (Keeps.ite h_a0_1 (Keeps.step (State.ringIrq_keeps ..) (by decide) (Keeps.ite h_a0_1 (Keeps.step (State.complete_keeps ..) (by decide)
      h_a0_1))))

theorem State.wbLoose_keeps (s : State) (r : Nat) (l : List Desc) (how : Nat) : Keeps 1610613777 s (State.wbLoose s r l how) := by
  unfold State.wbLoose
  extract_lets a0_0 a0_1
  have h_a0_1 : Keeps 1610613777 s a0_1 := (Keeps.foldl (Keeps.refl _ _) (fun t1 y1 k1 => (Keeps.step (State.wbTx_keeps ..) (by decide) k1)))
  exact (Keeps.ite (Keeps.step (State.ringIrq_keeps ..) (by decide) (Keeps.step (State.complete_keeps ..) (by decide) h_a0_1)) h_a0_1)

theorem State.txFlush_keeps (s : State) (r : Nat) : Keeps 1610613777 s (State.txFlush s r) := by
  unfold State.txFlush
  exact (Keeps.each (Keeps.step (State.setTxFrames_keeps ..) (by decide) (Keeps.refl _ _)) (fun t0 y0 k0 => (Keeps.step (State.wbFrame_keeps ..) (by
      decide) k0)))

theorem State.txStop_keeps (s : State) (r : Nat) : Keeps 1610613905 s (State.txStop s r) := by
  unfold State.txStop
  extract_lets a0_0 a0_1 a0_2 a0_3 a0_4
  have h_a0_1 : Keeps 1610613905 s a0_1 := (Keeps.step (State.wbLoose_keeps ..) (by decide) (Keeps.step (State.setTxDescs_keeps ..) (by decide)
      (Keeps.refl _ _)))
  have h_a0_2 : Keeps 1610613905 s a0_2 := by
    unfold a0_2
    clear_value a0_0 a0_1
    split
    · exact h_a0_1
    · exact (Keeps.step (State.wbFrame_keeps ..) (by decide) (Keeps.step (State.endItem_keeps ..) (by decide) (Keeps.step (State.setLaunch_keeps ..)
        (by decide) h_a0_1)))
  have h_a0_4 : Keeps 1610613905 s a0_4 := (Keeps.ite h_a0_2 (Keeps.foldl (Keeps.step (State.setTxFrames_keeps ..) (by decide) h_a0_2) (fun t3 y3 k3
      => (Keeps.foldl k3 (fun t4 y4 k4 => (Keeps.step (State.wbTx_keeps ..) (by decide) k4))))))
  exact (Keeps.step (State.wr_keeps ..) (by decide) h_a0_4)

theorem State.rxStop_keeps (s : State) (r : Nat) : Keeps 1610613905 s (State.rxStop s r) := by
  unfold State.rxStop
  extract_lets a0_0 a0_1 a0_2 a0_3 a0_4 a0_5 a0_6 a0_7
  have h_a0_2 : Keeps 1610613905 s a0_2 := (Keeps.foldl (Keeps.step (State.setRxDescs_keeps ..) (by decide) (Keeps.refl _ _)) (fun t1 y1 k1 =>
      (Keeps.step (State.wbRxEmpty_keeps ..) (by decide) k1)))
  have h_a0_3 : Keeps 1610613905 s a0_3 := (Keeps.ite (Keeps.step (State.ringIrq_keeps ..) (by decide) (Keeps.step (State.complete_keeps ..) (by
      decide) h_a0_2)) h_a0_2)
  have h_a0_6 : Keeps 1610613905 s a0_6 := (Keeps.step (State.setFab_keeps ..) (by decide) h_a0_3)
  have h_a0_7 : Keeps 1610613905 s a0_7 := (Keeps.foldl h_a0_6 (fun t2 y2 k2 => (Keeps.ite (Keeps.step (State.endCopy_keeps ..) (by decide) k2)
      (Keeps.step (State.endCopy_keeps ..) (by decide) k2))))
  exact (Keeps.step (State.wr_keeps ..) (by decide) h_a0_7)

theorem State.ringStop_keeps (s : State) (tx : Bool) (r : Nat) : Keeps 1610613905 s (State.ringStop s tx r) := by
  unfold State.ringStop
  exact (Keeps.ite (Keeps.step (State.txStop_keeps ..) (by decide) (Keeps.refl _ _)) (Keeps.step (State.rxStop_keeps ..) (by decide) (Keeps.refl _
      _)))

theorem State.stopRings_keeps (s : State) : Keeps 1610613905 s (State.stopRings s) := by
  unfold State.stopRings
  exact (Keeps.each (Keeps.refl _ _) (fun t0 y0 k0 => (Keeps.each k0 (fun t1 y1 k1 => (Keeps.ite (Keeps.step (State.ringStop_keeps ..) (by decide)
      (Keeps.ite (Keeps.step (State.txFlush_keeps ..) (by decide) k1) k1)) k1)))))

theorem State.descError_keeps (s : State) (tx : Bool) (r : Nat) : Keeps 1610613905 s (State.descError s tx r) := by
  unfold State.descError
  exact (Keeps.step (State.ringStop_keeps ..) (by decide) (Keeps.step (State.sticky_keeps ..) (by decide) (Keeps.refl _ _)))

theorem State.ringSubmit_keeps (s : State) (r : Nat) (l : List Desc) : Keeps 1610613905 s (State.ringSubmit s r l) := by
  unfold State.ringSubmit
  extract_lets a0_0 a0_1 a0_2 a0_3
  have h_a0_3 : Keeps 1610613905 s a0_3 := (Keeps.step (State.addFrame_keeps ..) (by decide) (Keeps.refl _ _))
  exact (Keeps.ite (Keeps.step (State.setTxFrames_keeps ..) (by decide) (Keeps.step (State.stockpileFull_keeps ..) (by decide) (Keeps.refl _ _)))
      (Keeps.ite (Keeps.step (State.setLaunch_keeps ..) (by decide) h_a0_3) (Keeps.step (State.enterPipe_keeps ..) (by decide) (Keeps.step
      (State.setTxFrames_keeps ..) (by decide) h_a0_3))))

theorem State.wbStray_keeps (s : State) (r : Nat) (l : List Desc) : Keeps 1879049233 s (State.wbStray s r l) := by
  unfold State.wbStray
  extract_lets a0_0 a0_1
  have h_a0_0 : KeepsQ 1879049233 s a0_0 := (KeepsQ.step (State.draw_keeps ..) (by decide) (Keeps.refl _ _))
  exact (Keeps.step (State.wbLoose_keeps ..) (by decide) h_a0_0)

theorem State.txTake_keeps (s : State) (r : Nat) (d : Desc) : Keeps 1879049361 s (State.txTake s r d) := by
  unfold State.txTake
  extract_lets a0_0 a0_1 a0_2 a0_3 a0_4
  have h_a0_1 : Keeps 1879049361 s a0_1 := (Keeps.ite (Keeps.step (State.wbStray_keeps ..) (by decide) (Keeps.step (State.setTxDescs_keeps ..) (by
      decide) (Keeps.refl _ _))) (Keeps.refl _ _))
  have h_a0_3 : Keeps 1879049361 s a0_3 := (Keeps.step (State.ringSubmit_keeps ..) (by decide) (Keeps.step (State.setTxDescs_keeps ..) (by decide)
      h_a0_1))
  have h_a0_4 : Keeps 1879049361 s a0_4 := (Keeps.step (State.setTxDescs_keeps ..) (by decide) h_a0_1)
  exact (Keeps.ite (Keeps.step (State.wbStray_keeps ..) (by decide) h_a0_1) (Keeps.ite (Keeps.ite h_a0_3 (Keeps.step (State.ringStop_keeps ..) (by
      decide) h_a0_3)) (Keeps.ite (Keeps.step (State.descError_keeps ..) (by decide) h_a0_4) h_a0_4)))

theorem State.rxTake_keeps (s : State) (r : Nat) (d : Desc) : Keeps 1610613905 s (State.rxTake s r d) := by
  unfold State.rxTake
  extract_lets a0_0
  have h_a0_0 : Keeps 1610613905 s a0_0 := (Keeps.step (State.setRxDescs_keeps ..) (by decide) (Keeps.refl _ _))
  exact (Keeps.ite (Keeps.step (State.descError_keeps ..) (by decide) h_a0_0) h_a0_0)

theorem State.rxDeliver_keeps (s : State) (r : Nat) (c : Copy) (l : List (Desc × List Nat)) : Keeps 1610613905 s (State.rxDeliver s r c l) := by
  unfold State.rxDeliver
  extract_lets a0_0 a0_1 a0_2 a0_3 a0_4
  have h_a0_2 : Keeps 1610613905 s a0_2 := (Keeps.foldl (Keeps.refl _ _) (fun t1 y1 k1 => (Keeps.step (State.emit_keeps ..) (by decide) k1)))
  have h_a0_4 : Keeps 1610613905 s a0_4 := by
    unfold a0_4
    clear_value a0_0 a0_1 a0_2 a0_3
    refine (Keeps.foldl h_a0_2 ?_)
    refine (fun t2 y2 k2 => ?_)
    split
    · exact (Keeps.step (State.emit_keeps ..) (by decide) k2)
  exact (Keeps.step (State.ringIrq_keeps ..) (by decide) (Keeps.step (State.endCopy_keeps ..) (by decide) (Keeps.step (State.complete_keeps ..) (by
      decide) h_a0_4)))

/-! ## EventOps -/

theorem State.spoilMany_keeps (s : State) (win : Nat) (d : Disp) (reason : Nat) (k : Item) (n : Nat) :
    Keeps 1610613761 s (s.spoilMany win d reason k n) := by
  unfold State.spoilMany
  refine Keeps.ite (Keeps.refl _ _) ?_
  extract_lets x r all y l z u
  have hx : Keeps 1610613761 s x := State.spoil_keeps ..
  refine Keeps.ite hx ?_
  have hy : Keeps 1610613761 s y := Keeps.step (State.count_keeps ..) (by decide) hx
  have hu : Keeps 1610613761 s u := Keeps.setFlt hy (by decide) fun hc =>
    ⟨hc.2.2.2.2.1, by rw [List.length_drop]; omega, hc.2.2.2.2.2.2⟩
  exact Keeps.ite (Keeps.step (State.count_keeps ..) (by decide) hu) hu

theorem State.evEnd_keeps (s : State) (i : Nat) (d : Disp) (reason : Nat) (n : Nat) : Keeps 1610613761 s (State.evEnd s i d reason n) := by
  unfold State.evEnd
  refine (Keeps.ite (Keeps.refl _ _) ?_)
  extract_lets a0_0 a0_1
  have h_a0_1 : Keeps 1610613761 s a0_1 := (Keeps.step (State.wr_keeps ..) (by decide) (Keeps.step (State.count_keeps ..) (by decide) (Keeps.refl _
      _)))
  clear_value a0_0 a0_1
  split
  · exact h_a0_1
  · exact h_a0_1
  · exact (Keeps.step (State.spoilMany_keeps ..) (by decide) h_a0_1)
  · exact (Keeps.step (State.spoilMany_keeps ..) (by decide) h_a0_1)

theorem State.setArmed_keeps (s : State) (i : Nat) (t : Int) : Keeps 8388609 s (State.setArmed s i t) := by
  unfold State.setArmed
  extract_lets a0_0 a0_1
  exact (Keeps.step (State.wr_keeps ..) (by decide) (Keeps.step (State.setEvp_keeps ..) (by decide) (Keeps.refl _ _)))

theorem State.unarm_keeps (s : State) (i : Nat) : Keeps 8388609 s (State.unarm s i) := by
  unfold State.unarm
  exact (Keeps.step (State.wr_keeps ..) (by decide) (Keeps.step (State.setEvp_keeps ..) (by decide) (Keeps.refl _ _)))

theorem State.evAdvance_keeps (s : State) (i : Nat) (a : ArmedEv) (k : Nat) : Keeps 8388609 s (State.evAdvance s i a k) := by
  unfold State.evAdvance
  extract_lets a0_0
  exact (Keeps.ite (Keeps.step (State.unarm_keeps ..) (by decide) (Keeps.refl _ _)) (Keeps.step (State.setArmed_keeps ..) (by decide) (Keeps.refl _
      _)))

theorem State.evOverrun_keeps (s : State) (i : Nat) (k : Nat) : Keeps 1610613761 s (State.evOverrun s i k) := by
  unfold State.evOverrun
  exact (Keeps.ite (Keeps.refl _ _) (Keeps.step (State.event_keeps ..) (by decide) (Keeps.step (State.sticky_keeps ..) (by decide) (Keeps.step
      (State.evEnd_keeps ..) (by decide) (Keeps.refl _ _)))))

theorem State.evFire_keeps (s : State) (i : Nat) (a : ArmedEv) (k : Nat) : Keeps 1619002369 s (State.evFire s i a k) := by
  unfold State.evFire
  extract_lets a0_0 a0_1 a0_2
  have h_a0_0 : Keeps 1619002369 s a0_0 := (Keeps.step (State.wr_keeps ..) (by decide) (Keeps.step (State.evOverrun_keeps ..) (by decide)
      (Keeps.refl _ _)))
  have h_a0_2 : Keeps 1619002369 s a0_2 := (Keeps.step (State.setEvp_keeps ..) (by decide) h_a0_0)
  exact (Keeps.step (State.evAdvance_keeps ..) (by decide) h_a0_2)

theorem State.evLate_keeps (s : State) (i : Nat) (a : ArmedEv) : Keeps 1619002369 s (State.evLate s i a) := by
  unfold State.evLate
  extract_lets a0_0
  exact (Keeps.ite (Keeps.step (State.event_keeps ..) (by decide) (Keeps.step (State.sticky_keeps ..) (by decide) (Keeps.step (State.evFire_keeps
      ..) (by decide) (Keeps.refl _ _)))) (Keeps.step (State.evAdvance_keeps ..) (by decide) (Keeps.step (State.evEnd_keeps ..) (by decide)
      (Keeps.refl _ _))))

theorem State.evArm_keeps (s : State) (i : Nat) : Keeps 1619002369 s (State.evArm s i) := by
  unfold State.evArm
  extract_lets a0_0 a0_1
  have h_a0_1 : Keeps 1619002369 s a0_1 := (Keeps.step (State.setArmed_keeps ..) (by decide) (Keeps.refl _ _))
  clear_value a0_0 a0_1
  split
  · exact h_a0_1
  · exact (Keeps.ite (Keeps.step (State.evLate_keeps ..) (by decide) h_a0_1) h_a0_1)

theorem State.evDrop_keeps (s : State) (i : Nat) (reason : Nat) : Keeps 1619002369 s (State.evDrop s i reason) := by
  unfold State.evDrop
  exact (Keeps.ite (Keeps.refl _ _) (Keeps.step (State.evEnd_keeps ..) (by decide) (Keeps.step (State.unarm_keeps ..) (by decide) (Keeps.refl _ _))))

theorem State.axisLost_keeps (s : State) (n : Nat) : Keeps 1619002369 s (State.axisLost s n) := by
  unfold State.axisLost
  exact (Keeps.each (Keeps.refl _ _) (fun t0 y0 k0 => (Keeps.ite (Keeps.step (State.evDrop_keeps ..) (by decide) k0) k0)))

theorem State.evEval_keeps (s : State) (i : Nat) : Keeps 1619002369 s (State.evEval s i) := by
  unfold State.evEval
  split
  · exact (Keeps.refl _ _)
  · extract_lets a2_0 a2_1 a2_2
    exact (Keeps.ite (Keeps.refl _ _) (Keeps.ite (Keeps.ite (Keeps.step (State.evFire_keeps ..) (by decide) (Keeps.refl _ _)) (Keeps.refl _ _))
        (Keeps.ite (Keeps.refl _ _) (Keeps.ite (Keeps.step (State.evFire_keeps ..) (by decide) (Keeps.refl _ _)) (Keeps.ite (Keeps.step
        (State.evFire_keeps ..) (by decide) (Keeps.refl _ _)) (Keeps.step (State.setEvp_keeps ..) (by decide) (Keeps.refl _ _)))))))

theorem State.evRefused_keeps (s : State) (i : Nat) : Keeps 1610613761 s (State.evRefused s i) := by
  unfold State.evRefused
  exact (Keeps.step (State.event_keeps ..) (by decide) (Keeps.step (State.sticky_keeps ..) (by decide) (Keeps.step (State.evEnd_keeps ..) (by
      decide) (Keeps.refl _ _))))

theorem State.evDone_keeps (s : State) (i : Nat) : Keeps 1610613761 s (State.evDone s i) := by
  unfold State.evDone
  exact (Keeps.step (State.evEnd_keeps ..) (by decide) (Keeps.refl _ _))

theorem State.takeAct_keeps (s : State) (k : Nat) : KeepsOQ 8388608 s (State.takeAct s k) := by
  unfold State.takeAct
  split
  · exact KeepsOQ.none
  · exact (KeepsOQ.ite (KeepsOQ.some (KeepsQ.mk (Keeps.step (State.setEvp_keeps ..) (by decide) (Keeps.refl _ _)))) KeepsOQ.none)

theorem State.ixAction_keeps (s : State) (act : Nat) (n : Nat) (arg : Nat) : KeepsO 1610629121 s (State.ixAction s act n arg) := by
  unfold State.ixAction
  exact (KeepsO.ite (KeepsO.ite KeepsO.none (KeepsO.some (Keeps.step (State.chCommand_keeps ..) (by decide) (Keeps.refl _ _)))) (KeepsO.ite
      (KeepsO.ite KeepsO.none (KeepsO.some (Keeps.step (State.chSetDuty_keeps ..) (by decide) (Keeps.refl _ _)))) (KeepsO.ite (KeepsO.ite
      KeepsO.none (KeepsO.some (Keeps.step (State.chSetPhase_keeps ..) (by decide) (Keeps.refl _ _)))) (KeepsO.ite (KeepsO.ite KeepsO.none
      (KeepsO.some (Keeps.step (State.meCommand_keeps ..) (by decide) (Keeps.step (State.wr_keeps ..) (by decide) (Keeps.refl _ _))))) (KeepsO.ite
      KeepsO.none (KeepsO.some (Keeps.step (State.meModeCommand_keeps ..) (by decide) (Keeps.refl _ _))))))))

theorem State.ixIssued_keeps (s : State) (act : Nat) : Keeps 1619018753 s (State.ixIssued s act) := by
  unfold State.ixIssued
  split
  · exact (Keeps.refl _ _)
  · next p1_0 p1_1 e1 =>
      have q1 := KeepsOQ.get (T := 1619018753) (a := s) (KeepsOQ.step (State.takeAct_keeps ..) (by decide) (Keeps.refl _ _)) e1
      split
      · exact (Keeps.step (State.evRefused_keeps ..) (by decide) q1)
      · next p3_0 e3 =>
          have q3 := KeepsO.get (T := 1619018753) (a := s) (KeepsO.step (State.ixAction_keeps ..) (by decide) q1) e3
          exact (Keeps.step (State.evDone_keeps ..) (by decide) q3)

theorem State.reportAll_keeps (s : State) (src : Nat) (u : Nat) (v : Nat) : Keeps 1611137025 s (State.reportAll s src u v) := by
  unfold State.reportAll
  exact (Keeps.each (Keeps.refl _ _) (fun t0 y0 k0 => (Keeps.step (State.report_keeps ..) (by decide) k0)))

theorem State.groupArm_keeps (s : State) (mask : Nat) : Keeps 1619002369 s (State.groupArm s mask) := by
  unfold State.groupArm
  exact (Keeps.each (Keeps.refl _ _) (fun t0 y0 k0 => (Keeps.ite (Keeps.step (State.evArm_keeps ..) (by decide) k0) k0)))

theorem State.groupDisarm_keeps (s : State) (mask : Nat) : Keeps 1619002369 s (State.groupDisarm s mask) := by
  unfold State.groupDisarm
  exact (Keeps.each (Keeps.refl _ _) (fun t0 y0 k0 => (Keeps.ite (Keeps.step (State.evDrop_keeps ..) (by decide) k0) k0)))

end Sys2Proof.Machine
end

