-- ==== Sys2Proof/Laws/Keeps3.lean ====
section
/-! SUPPORT. What each operation of these files can change: Classify, EgressOps, Axes, StageOps, ViewOps, SelOps, Wake, Can. The number is the mask of parts (Part.code). -/

namespace Sys2Proof.Machine

/-! ## Classify -/

theorem State.mapItem_keeps (s : State) (fid : Nat) (f : PipeItem → PipeItem) : Keeps 128 s (State.mapItem s fid f) := by
  unfold State.mapItem
  exact (Keeps.step (State.setFab_keeps ..) (by decide) (Keeps.refl _ _))

theorem State.dropItem_keeps (s : State) (fid : Nat) : Keeps 128 s (State.dropItem s fid) := by
  unfold State.dropItem
  exact (Keeps.step (State.setFab_keeps ..) (by decide) (Keeps.refl _ _))

theorem State.toVerify_keeps (s : State) (it : PipeItem) : Keeps 128 s (State.toVerify s it) := by
  unfold State.toVerify
  extract_lets a0_0 a0_1
  have h_a0_0 : Keeps 128 s a0_0 := (Keeps.step (State.dropItem_keeps ..) (by decide) (Keeps.refl _ _))
  exact (Keeps.step (State.setFab_keeps ..) (by decide) h_a0_0)

theorem State.stopItem_keeps (s : State) (win : Nat) (d : Disp) (reason : Nat) (fid : Nat) : Keeps 1610613905 s (State.stopItem s win d reason fid)
    := by
  unfold State.stopItem
  exact (Keeps.step (State.endItem_keeps ..) (by decide) (Keeps.step (State.dropItem_keeps ..) (by decide) (Keeps.refl _ _)))

theorem State.stopRouted_keeps (s : State) (reason : Nat) (fid : Nat) : Keeps 1610613905 s (State.stopRouted s reason fid) := by
  unfold State.stopRouted
  exact (Keeps.step (State.endRouted_keeps ..) (by decide) (Keeps.step (State.dropItem_keeps ..) (by decide) (Keeps.refl _ _)))

theorem State.stage2_keeps (s : State) (it : PipeItem) (f : Frame) : KeepsP 1610612737 s (State.stage2 s it f) := by
  unfold State.stage2
  split
  · exact (KeepsP.ite (KeepsP.step (State.canFilter_keeps ..) (by decide) (Keeps.refl _ _)) (KeepsP.mk (Keeps.step (State.sticky_keeps ..) (by
      decide) (Keeps.refl _ _))))
  · exact (KeepsP.mk (Keeps.refl _ _))
  · exact (KeepsP.step (State.sieve_keeps ..) (by decide) (Keeps.refl _ _))

theorem State.destLookup_keeps (s : State) (it : PipeItem) (src : Nat) (vid : Nat) (fid : Nat) : KeepsP 1073742337 s (State.destLookup s it src vid
    fid) := by
  unfold State.destLookup
  extract_lets a0_0 a0_1 a0_2 a0_3 a0_4
  have h_a0_3 : Keeps 1073742337 s a0_3 := (Keeps.step (State.count_keeps ..) (by decide) (Keeps.refl _ _))
  clear_value a0_0 a0_1 a0_2 a0_3 a0_4
  refine (KeepsP.ite (KeepsP.mk (Keeps.refl _ _)) ?_)
  split
  · extract_lets a2_0
    have h_a2_0 : Keeps 1073742337 s a2_0 := (Keeps.step (State.l2Hit_keeps ..) (by decide) (Keeps.refl _ _))
    exact (KeepsP.ite (KeepsP.mk h_a2_0) (KeepsP.ite (KeepsP.mk h_a2_0) (KeepsP.mk h_a2_0)))
  · exact (KeepsP.ite (KeepsP.mk h_a0_3) (KeepsP.ite (KeepsP.mk h_a0_3) (KeepsP.mk h_a0_3)))

theorem State.seamLookup_keeps (s : State) (it : PipeItem) (vid : Nat) : KeepsP 1073741825 s (State.seamLookup s it vid) := by
  unfold State.seamLookup
  extract_lets a0_0 a0_1
  have h_a0_1 : Keeps 1073741825 s a0_1 := (Keeps.step (State.count_keeps ..) (by decide) (Keeps.refl _ _))
  clear_value a0_0 a0_1
  refine (KeepsP.ite (KeepsP.mk (Keeps.refl _ _)) ?_)
  split
  · exact (KeepsP.mk (Keeps.step (State.count_keeps ..) (by decide) (Keeps.refl _ _)))
  · exact (KeepsP.mk h_a0_1)

theorem State.ethLookup_keeps (s : State) (it : PipeItem) (f : Frame) (rule : Option Nat) : KeepsP 1610613249 s (State.ethLookup s it f rule) := by
  unfold State.ethLookup
  extract_lets a0_0 a0_1 a0_2 a0_3 a0_4 a0_5
  have h_a0_5 : KeepsP 1610613249 s a0_5 := (KeepsP.ite (KeepsP.mk (Keeps.refl _ _)) (KeepsP.step (State.sourceLookup_keeps ..) (by decide)
      (Keeps.refl _ _)))
  clear_value a0_0 a0_1 a0_2 a0_3 a0_4 a0_5
  refine (KeepsP.ite (KeepsP.mk (Keeps.refl _ _)) ?_)
  refine (KeepsP.ite (KeepsP.mk (Keeps.refl _ _)) ?_)
  refine (KeepsP.ite (KeepsP.mk h_a0_5) ?_)
  split
  · exact (KeepsP.mk h_a0_5)
  · exact (KeepsP.ite (KeepsP.step (State.seamLookup_keeps ..) (by decide) h_a0_5) (KeepsP.step (State.destLookup_keeps ..) (by decide) h_a0_5))

theorem State.stage4_keeps (s : State) (it : PipeItem) (f : Frame) (gd : Guarded) : KeepsP 1610613249 s (State.stage4 s it f gd) := by
  unfold State.stage4
  split
  · exact (KeepsP.mk (Keeps.refl _ _))
  · exact (KeepsP.mk (Keeps.refl _ _))
  · exact (KeepsP.step (State.ethLookup_keeps ..) (by decide) (Keeps.refl _ _))

theorem State.frerRecover_keeps (s : State) (i : Nat) (seq : Nat) : KeepsP 1073741953 s (State.frerRecover s i seq) := by
  unfold State.frerRecover
  extract_lets a0_0 a0_1 a0_2 a0_3
  clear_value a0_0 a0_1 a0_3
  refine (KeepsP.ite (KeepsP.mk (Keeps.refl _ _)) ?_)
  split
  · exact (KeepsP.mk (Keeps.step (State.count_keeps ..) (by decide) (Keeps.step (State.setFab_keeps ..) (by decide) (Keeps.refl _ _))))
  · extract_lets a3_0
    exact (KeepsP.ite (KeepsP.ite (KeepsP.mk (Keeps.step (State.count_keeps ..) (by decide) (Keeps.refl _ _))) (KeepsP.mk (Keeps.step
        (State.count_keeps ..) (by decide) (Keeps.step (State.setFab_keeps ..) (by decide) (Keeps.refl _ _))))) (KeepsP.ite (KeepsP.mk (Keeps.step
        (State.count_keeps ..) (by decide) (Keeps.refl _ _))) (KeepsP.ite (KeepsP.ite (KeepsP.mk (Keeps.step (State.count_keeps ..) (by decide)
        (Keeps.refl _ _))) (KeepsP.mk (Keeps.step (State.count_keeps ..) (by decide) (Keeps.step (State.setFab_keeps ..) (by decide) (Keeps.refl _
        _))))) (KeepsP.mk (Keeps.step (State.count_keeps ..) (by decide) (Keeps.step (State.setFab_keeps ..) (by decide) (Keeps.refl _ _)))))))

theorem State.frer_keeps (s : State) (f : Frame) (d : List Nat) (gd : Guarded) : KeepsP 1073741953 s (State.frer s f d gd) := by
  unfold State.frer
  refine (KeepsP.ite ?_ ?_)
  · extract_lets a0_0 a0_1
    exact (KeepsP.mk (Keeps.step (State.setFab_keeps ..) (by decide) (Keeps.refl _ _)))
  · refine (KeepsP.ite ?_ (KeepsP.mk (Keeps.refl _ _)))
    split
    · extract_lets a2_0
      have h_a2_0 : KeepsP 1073741953 s a2_0 := (KeepsP.step (State.frerRecover_keeps ..) (by decide) (Keeps.refl _ _))
      exact (KeepsP.mk h_a2_0)
    · exact (KeepsP.mk (Keeps.refl _ _))

theorem State.extractions_keeps (s : State) (it : PipeItem) (f : Frame) (engines : List Nat) (only : Bool) : Keeps 1611138193 s (State.extractions s
    it f engines only) := by
  unfold State.extractions
  split
  · exact (Keeps.refl _ _)
  · extract_lets a2_0 a2_1 a2_2
    clear_value a2_0 a2_2
    refine (Keeps.each (Keeps.refl _ _) ?_)
    refine (fun t3 y3 k3 => ?_)
    split
    · extract_lets a5_0 a5_1
      exact (Keeps.ite (Keeps.ite (Keeps.step (State.stopItem_keeps ..) (by decide) k3) (Keeps.step (State.seLost_keeps ..) (by decide) k3))
          (Keeps.ite (Keeps.ite (Keeps.step (State.stopItem_keeps ..) (by decide) k3) (Keeps.step (State.seLost_keeps ..) (by decide) k3))
          (Keeps.step (State.setExq_keeps ..) (by decide) k3)))

theorem State.decapItem_keeps (s : State) (it : PipeItem) (f : Frame) (i : Nat) : Keeps 1610613905 s (State.decapItem s it f i) := by
  unfold State.decapItem
  extract_lets a0_0
  clear_value a0_0
  split
  · exact (Keeps.step (State.stopRouted_keeps ..) (by decide) (Keeps.refl _ _))
  · extract_lets a3_0
    have h_a3_0 : Keeps 1610613905 s a3_0 := by
      unfold a3_0
      refine (Keeps.each (Keeps.refl _ _) ?_)
      refine (fun t4 y4 k4 => ?_)
      extract_lets a5_0
      exact (Keeps.step (State.arrive_keeps ..) (by decide) k4)
    exact (Keeps.step (State.stopItem_keeps ..) (by decide) h_a3_0)

theorem State.finish_keeps (s : State) (it : PipeItem) (f : Frame) : Keeps 1644950929 s (State.finish s it f) := by
  unfold State.finish
  extract_lets a0_0 a0_1 a0_2 a0_3 a0_4 a0_5
  have h_a0_4 : Keeps 1644950929 s a0_4 := (Keeps.step (State.extractions_keeps ..) (by decide) (Keeps.refl _ _))
  have h_a0_5 : KeepsP 1644950929 s a0_5 := (KeepsP.step (State.makeCopies_keeps ..) (by decide) h_a0_4)
  exact (Keeps.ite (Keeps.step (State.dropItem_keeps ..) (by decide) h_a0_4) (Keeps.ite (Keeps.ite (Keeps.step (State.stopRouted_keeps ..) (by
      decide) h_a0_4) (Keeps.step (State.stopItem_keeps ..) (by decide) h_a0_4)) (Keeps.step (State.releaseItem_keeps ..) (by decide) (Keeps.each
      (Keeps.step (State.dropItem_keeps ..) (by decide) h_a0_5) (fun t1 y1 k1 => (Keeps.step (State.dispatch_keeps ..) (by decide) k1))))))

theorem State.finishOpen_keeps (s : State) (it : PipeItem) (f : Frame) : Keeps 1611138193 s (State.finishOpen s it f) := by
  unfold State.finishOpen
  extract_lets a0_0 a0_1 a0_2 a0_3 a0_4
  have h_a0_4 : KeepsP 1611138193 s a0_4 := (KeepsP.step (State.makeCopies_keeps ..) (by decide) (Keeps.refl _ _))
  exact (Keeps.ite (Keeps.step (State.mapItem_keeps ..) (by decide) (Keeps.refl _ _)) (Keeps.step (State.mapItem_keeps ..) (by decide) h_a0_4))

theorem State.afterLookup_keeps (s : State) (it : PipeItem) (f : Frame) : Keeps 1644950929 s (State.afterLookup s it f) := by
  unfold State.afterLookup
  split
  · exact (Keeps.ite (Keeps.step (State.finishOpen_keeps ..) (by decide) (Keeps.refl _ _)) (Keeps.step (State.finish_keeps ..) (by decide)
      (Keeps.refl _ _)))
  · extract_lets a2_0 a2_1 a2_2
    exact (Keeps.ite (Keeps.step (State.stopRouted_keeps ..) (by decide) (Keeps.refl _ _)) (Keeps.ite (Keeps.ite (Keeps.step (State.mapItem_keeps
        ..) (by decide) (Keeps.refl _ _)) (Keeps.step (State.finishOpen_keeps ..) (by decide) (Keeps.refl _ _))) (Keeps.ite (Keeps.ite (Keeps.step
        (State.stopItem_keeps ..) (by decide) (Keeps.step (State.count_keeps ..) (by decide) (Keeps.refl _ _))) (Keeps.step (State.toVerify_keeps
        ..) (by decide) (Keeps.refl _ _))) (Keeps.ite (Keeps.step (State.decapItem_keeps ..) (by decide) (Keeps.refl _ _)) (Keeps.step
        (State.finish_keeps ..) (by decide) (Keeps.refl _ _))))))

theorem State.afterVerify_keeps (s : State) (it : PipeItem) (f : Frame) : Keeps 1644950929 s (State.afterVerify s it f) := by
  unfold State.afterVerify
  split
  · exact (Keeps.step (State.finish_keeps ..) (by decide) (Keeps.refl _ _))
  · exact (Keeps.ite (Keeps.step (State.decapItem_keeps ..) (by decide) (Keeps.refl _ _)) (Keeps.step (State.finish_keeps ..) (by decide)
      (Keeps.refl _ _)))

theorem State.classify_keeps (s : State) (it : PipeItem) (f : Frame) : Keeps 1645213585 s (State.classify s it f) := by
  unfold State.classify
  extract_lets a0_0 a0_1
  have h_a0_0 : KeepsP 1645213585 s a0_0 := (KeepsP.step (State.stage2_keeps ..) (by decide) (Keeps.refl _ _))
  clear_value a0_0 a0_1
  split
  · exact (Keeps.step (State.stopItem_keeps ..) (by decide) h_a0_0)
  · refine (Keeps.ite (Keeps.step (State.mapItem_keeps ..) (by decide) h_a0_0) ?_)
    extract_lets a3_0 a3_1 a3_2
    have h_a3_0 : KeepsP 1645213585 s a3_0 := (KeepsP.step (State.police_keeps ..) (by decide) h_a0_0)
    have h_a3_1 : KeepsP 1645213585 s a3_1 := (KeepsP.step (State.stage4_keeps ..) (by decide) h_a3_0)
    have h_a3_2 : KeepsP 1645213585 s a3_2 := (KeepsP.step (State.frer_keeps ..) (by decide) h_a3_1)
    clear_value a3_0 a3_1 a3_2
    split
    · exact (Keeps.step (State.stopItem_keeps ..) (by decide) h_a3_0)
    · split
      · exact (Keeps.ite (Keeps.step (State.stopRouted_keeps ..) (by decide) h_a3_1) (Keeps.step (State.stopItem_keeps ..) (by decide) h_a3_1))
      · split
        · exact (Keeps.step (State.stopItem_keeps ..) (by decide) h_a3_2)
        · extract_lets a10_0
          exact (Keeps.step (State.afterLookup_keeps ..) (by decide) (Keeps.step (State.mapItem_keeps ..) (by decide) h_a3_2))

theorem State.classifyOpen_keeps (s : State) (it : PipeItem) (f : Frame) : Keeps 1645213585 s (State.classifyOpen s it f) := by
  unfold State.classifyOpen
  extract_lets a0_0
  have h_a0_0 : Keeps 1645213585 s a0_0 := (Keeps.step (State.classify_keeps ..) (by decide) (Keeps.refl _ _))
  exact (Keeps.ite h_a0_0 (Keeps.step (State.mapItem_keeps ..) (by decide) (Keeps.refl _ _)))

theorem classifyNext_keeps (s : State) : Keeps 1645213585 s (classifyNext s) := by
  unfold classifyNext
  refine (Keeps.ite (Keeps.refl _ _) ?_)
  split
  · exact (Keeps.refl _ _)
  · split
    · exact (Keeps.step (State.dropItem_keeps ..) (by decide) (Keeps.refl _ _))
    · exact (Keeps.ite (Keeps.ite (Keeps.step (State.mapItem_keeps ..) (by decide) (Keeps.refl _ _)) (Keeps.step (State.stopItem_keeps ..) (by
        decide) (Keeps.refl _ _))) (Keeps.ite (Keeps.step (State.classifyOpen_keeps ..) (by decide) (Keeps.refl _ _)) (Keeps.step
        (State.classify_keeps ..) (by decide) (Keeps.refl _ _))))

theorem execFrameClassify_keeps (s : State) : KeepsR 1645213585 s (execFrameClassify s) := by
  unfold execFrameClassify
  exact (KeepsR.next (Keeps.step (classifyNext_keeps ..) (by decide) (Keeps.step (fresh_keeps ..) (by decide) (Keeps.refl _ _))))

/-! ## EgressOps -/

theorem State.setStampQ_keeps (s : State) (p : Nat) (l : List StampRec) : Keeps 2097152 s (State.setStampQ s p l) := by
  unfold State.setStampQ
  exact (Keeps.step (State.setStamps_keeps ..) (by decide) (Keeps.refl _ _))

theorem State.takeStamp_keeps (s : State) (p : Nat) (c : Copy) : Keeps 1612709889 s (State.takeStamp s p c) := by
  unfold State.takeStamp
  refine (Keeps.ite (Keeps.refl _ _) ?_)
  split
  · exact (Keeps.refl _ _)
  · exact (Keeps.step (State.event_keeps ..) (by decide) (Keeps.step (State.count_keeps ..) (by decide) (Keeps.step (State.setStampQ_keeps ..) (by
      decide) (Keeps.refl _ _))))

theorem State.passOver_keeps (s : State) (p : Nat) (c : Nat) : Keeps 1610613905 s (State.passOver s p c) := by
  unfold State.passOver
  split
  · exact (Keeps.refl _ _)
  · exact (Keeps.ite (Keeps.refl _ _) (Keeps.ite (Keeps.step (State.endCopy_keeps ..) (by decide) (Keeps.step (State.sticky_keeps ..) (by decide)
      (Keeps.step (State.setQueue_keeps ..) (by decide) (Keeps.refl _ _)))) (Keeps.step (State.setQueue_keeps ..) (by decide) (Keeps.refl _ _))))

theorem State.markPassed_keeps (s : State) (p : Nat) : Keeps 1610613905 s (State.markPassed s p) := by
  unfold State.markPassed
  exact (Keeps.each (Keeps.refl _ _) (fun t0 y0 k0 => (Keeps.step (State.passOver_keeps ..) (by decide) k0)))

theorem State.startWaits_keeps (s : State) (p : Nat) : Keeps 2097152 s (State.startWaits s p) := by
  unfold State.startWaits
  exact (Keeps.each (Keeps.refl _ _) (fun t0 y0 k0 => (Keeps.ite (Keeps.step (State.setStamps_keeps ..) (by decide) k0) k0)))

theorem State.rxCounted_keeps (s : State) (p : Nat) (n : Nat) : Keeps 1073741825 s (State.rxCounted s p n) := by
  unfold State.rxCounted
  exact (Keeps.step (State.count_keeps ..) (by decide) (Keeps.step (State.count_keeps ..) (by decide) (Keeps.refl _ _)))

theorem State.stampAt_keeps (s : State) (fid : Nat) (age : Nat) : Keeps 128 s (State.stampAt s fid age) := by
  unfold State.stampAt
  extract_lets a0_0
  exact (Keeps.step (State.mapFrame_keeps ..) (by decide) (Keeps.refl _ _))

theorem State.handOn_keeps (s : State) (p : Nat) (fid : Nat) (d : List Nat) : Keeps 1610613905 s (State.handOn s p fid d) := by
  unfold State.handOn
  refine (Keeps.ite (Keeps.step (State.handOver_keeps ..) (by decide) (Keeps.refl _ _)) ?_)
  extract_lets a0_0
  have h_a0_0 : KeepsP 1610613905 s a0_0 := (KeepsP.step (State.secReceive_keeps ..) (by decide) (Keeps.refl _ _))
  clear_value a0_0
  split
  · exact (Keeps.step (State.endItem_keeps ..) (by decide) h_a0_0)
  · exact (Keeps.step (State.enterPipe_keeps ..) (by decide) (Keeps.step (State.mapFrame_keeps ..) (by decide) h_a0_0))

theorem State.ethReceive_keeps (s : State) (p : Nat) (d : List Nat) (symErr : Bool) (fcsOk : Bool) (age : Nat) : Keeps 1644426641 s
    (State.ethReceive s p d symErr fcsOk age) := by
  unfold State.ethReceive
  extract_lets a0_0 a0_1 a0_2 a0_3 a0_4
  have h_a0_2 : Keeps 1644426641 s a0_2 := (Keeps.step (State.rxCounted_keeps ..) (by decide) (Keeps.refl _ _))
  have h_a0_4 : Keeps 1644426641 s a0_4 := (Keeps.step (State.stampAt_keeps ..) (by decide) (Keeps.step (State.addFrame_keeps ..) (by decide) h_a0_2))
  clear_value a0_0 a0_1 a0_2 a0_3 a0_4
  refine (Keeps.ite (Keeps.step (State.stockpileFull_keeps ..) (by decide) (Keeps.refl _ _)) ?_)
  split
  · exact (Keeps.step (State.endFrame_keeps ..) (by decide) (Keeps.step (State.rxFailed_keeps ..) (by decide) (Keeps.refl _ _)))
  · exact (Keeps.step (State.handOn_keeps ..) (by decide) (Keeps.step (State.mirrorIn_keeps ..) (by decide) h_a0_4))

theorem State.lineOut_keeps (s : State) (p : Nat) (d : List Nat) (bad : Bool) : Keeps 536870912 s (State.lineOut s p d bad) := by
  unfold State.lineOut
  exact (Keeps.ite (Keeps.refl _ _) (Keeps.step (State.emit_keeps ..) (by decide) (Keeps.refl _ _)))

theorem State.looped_keeps (s : State) (p : Nat) (d : List Nat) (bad : Bool) : Keeps 1644426641 s (State.looped s p d bad) := by
  unfold State.looped
  exact (Keeps.ite (Keeps.step (State.ethReceive_keeps ..) (by decide) (Keeps.refl _ _)) (Keeps.refl _ _))

theorem State.readerEnd_keeps (s : State) (p : Nat) (c : Copy) (win : Nat) (d : Disp) (reason : Nat) : Keeps 1610876049 s (State.readerEnd s p c win
    d reason) := by
  unfold State.readerEnd
  exact (Keeps.step (State.secyBoundary_keeps ..) (by decide) (Keeps.step (State.endCopy_keeps ..) (by decide) (Keeps.step (State.payCredit_keeps
      ..) (by decide) (Keeps.step (State.setReader_keeps ..) (by decide) (Keeps.step (State.refreshCredit_keeps ..) (by decide) (Keeps.refl _
      _))))))

theorem State.readerBad_keeps (s : State) (p : Nat) (c : Copy) (win : Nat) (d : Disp) (reason : Nat) : Keeps 1644688785 s (State.readerBad s p c win
    d reason) := by
  unfold State.readerBad
  extract_lets a0_0
  have h_a0_0 : Keeps 1644688785 s a0_0 := (Keeps.step (State.count_keeps ..) (by decide) (Keeps.step (State.lineOut_keeps ..) (by decide)
      (Keeps.refl _ _)))
  exact (Keeps.step (State.looped_keeps ..) (by decide) (Keeps.step (State.readerEnd_keeps ..) (by decide) h_a0_0))

theorem State.txOversize_keeps (s : State) (p : Nat) : Keeps 1073741825 s (State.txOversize s p) := by
  unfold State.txOversize
  exact (Keeps.step (State.count_keeps ..) (by decide) (Keeps.refl _ _))

theorem State.oversized_keeps (s : State) (p : Nat) (c : Copy) : Keeps 1644688785 s (State.oversized s p c) := by
  unfold State.oversized
  exact (Keeps.step (State.readerBad_keeps ..) (by decide) (Keeps.step (State.txOversize_keeps ..) (by decide) (Keeps.refl _ _)))

theorem State.startSend_keeps (s : State) (p : Nat) (c : Copy) : Keeps 1612973201 s (State.startSend s p c) := by
  unfold State.startSend
  extract_lets a0_0
  have h_a0_0 : KeepsP 1612973201 s a0_0 := (KeepsP.ite (KeepsP.mk (Keeps.refl _ _)) (KeepsP.step (State.secProtect_keeps ..) (by decide)
      (Keeps.refl _ _)))
  clear_value a0_0
  split
  · exact (Keeps.step (State.secyBoundary_keeps ..) (by decide) (Keeps.step (State.endCopy_keeps ..) (by decide) (Keeps.step (State.setReader_keeps
      ..) (by decide) h_a0_0)))
  · extract_lets a3_0
    exact (Keeps.ite (Keeps.step (State.secyBoundary_keeps ..) (by decide) (Keeps.step (State.endCopy_keeps ..) (by decide) (Keeps.step
        (State.setReader_keeps ..) (by decide) (Keeps.step (State.txOversize_keeps ..) (by decide) h_a0_0)))) (Keeps.step (State.takeStamp_keeps ..)
        (by decide) (Keeps.step (State.setReader_keeps ..) (by decide) h_a0_0)))

theorem State.eccCorrected_keeps (s : State) (f : Frame) : Keeps 1342177281 s (State.eccCorrected s f) := by
  unfold State.eccCorrected
  extract_lets a0_0
  have h_a0_0 : KeepsQ 1342177281 s a0_0 := (KeepsQ.step (State.draw_keeps ..) (by decide) (Keeps.refl _ _))
  exact (Keeps.step (State.count_keeps ..) (by decide) h_a0_0)

theorem State.dequeue_keeps (s : State) (p : Nat) (c : Nat) : Keeps 1915221393 s (State.dequeue s p c) := by
  unfold State.dequeue
  split
  · exact (Keeps.refl _ _)
  · extract_lets a2_0 a2_1 a2_2 a2_3
    have h_a2_0 : Keeps 1915221393 s a2_0 := (Keeps.step (State.setQueue_keeps ..) (by decide) (Keeps.refl _ _))
    have h_a2_2 : Keeps 1915221393 s a2_2 := (Keeps.step (State.setStamps_keeps ..) (by decide) h_a2_0)
    have h_a2_3 : Keeps 1915221393 s a2_3 := (Keeps.ite (Keeps.step (State.sleepAbort_keeps ..) (by decide) h_a2_2) h_a2_2)
    clear_value a2_0 a2_1 a2_2 a2_3
    split
    · exact h_a2_3
    · extract_lets a5_0 a5_1
      have h_a5_0 : Keeps 1915221393 s a5_0 := (Keeps.step (State.eccCorrected_keeps ..) (by decide) h_a2_3)
      have h_a5_1 : Keeps 1915221393 s a5_1 := (Keeps.step (State.mirrorOut_keeps ..) (by decide) (Keeps.step (State.setReader_keeps ..) (by decide)
          h_a5_0))
      exact (Keeps.ite (Keeps.step (State.readerBad_keeps ..) (by decide) (Keeps.step (State.setReader_keeps ..) (by decide) h_a5_0)) (Keeps.ite
          (Keeps.step (State.startSend_keeps ..) (by decide) h_a5_1) (Keeps.ite (Keeps.step (State.secyBoundary_keeps ..) (by decide) (Keeps.step
          (State.cmacFull_keeps ..) (by decide) (Keeps.step (State.setReader_keeps ..) (by decide) h_a5_1))) (Keeps.step (State.toAppend_keeps ..)
          (by decide) h_a5_1))))

theorem State.setRxOpen_keeps (s : State) (p : Nat) (x : Option RxOpen) : Keeps 256 s (State.setRxOpen s p x) := by
  unfold State.setRxOpen
  exact (Keeps.step (State.setEth_keeps ..) (by decide) (Keeps.refl _ _))

theorem State.rxFirst_keeps (s : State) (p : Nat) (d : List Nat) (age : Nat) : Keeps 1610614145 s (State.rxFirst s p d age) := by
  unfold State.rxFirst
  extract_lets a0_0 a0_1 a0_2 a0_3 a0_4
  have h_a0_4 : Keeps 1610614145 s a0_4 := (Keeps.step (State.stampAt_keeps ..) (by decide) (Keeps.step (State.addFrame_keeps ..) (by decide)
      (Keeps.refl _ _)))
  exact (Keeps.ite (Keeps.step (State.setRxOpen_keeps ..) (by decide) (Keeps.step (State.stockpileFull_keeps ..) (by decide) (Keeps.refl _ _)))
      (Keeps.step (State.enterPipe_keeps ..) (by decide) (Keeps.step (State.addRefs_keeps ..) (by decide) (Keeps.step (State.setRxOpen_keeps ..) (by
      decide) h_a0_4))))

theorem State.growFrame_keeps (s : State) (fid : Nat) (cells : Nat) (n : Nat) (d : List Nat) : Keeps 128 s (State.growFrame s fid cells n d) := by
  unfold State.growFrame
  extract_lets a0_0 a0_1 a0_2
  have h_a0_1 : Keeps 128 s a0_1 := (Keeps.step (State.mapFrame_keeps ..) (by decide) (Keeps.refl _ _))
  exact (Keeps.step (State.setFab_keeps ..) (by decide) h_a0_1)

theorem State.dropQueued_keeps (s : State) (fid : Nat) (d : Disp) (reason : Nat) : Keeps 1610613905 s (State.dropQueued s fid d reason) := by
  unfold State.dropQueued
  refine (Keeps.each (Keeps.refl _ _) ?_)
  refine (fun t0 y0 k0 => ?_)
  refine (Keeps.each k0 ?_)
  refine (fun t1 y1 k1 => ?_)
  extract_lets a2_0
  exact (Keeps.foldl (Keeps.step (State.setQueue_keeps ..) (by decide) k1) (fun t3 y3 k3 => (Keeps.step (State.endCopy_keeps ..) (by decide) k3)))

theorem State.openItem_keeps (s : State) (p : Nat) (it : PipeItem) (d : Disp) (reason : Nat) (copies : Nat) : Keeps 1610613905 s (State.openItem s p
    it d reason copies) := by
  unfold State.openItem
  extract_lets a0_0 a0_1 a0_2 a0_3
  have h_a0_1 : Keeps 1610613905 s a0_1 := (Keeps.each (Keeps.refl _ _) (fun t1 y1 k1 => (Keeps.step (State.endCopy_keeps ..) (by decide) k1)))
  have h_a0_2 : Keeps 1610613905 s a0_2 := (Keeps.each h_a0_1 (fun t2 y2 k2 => (Keeps.step (State.release_keeps ..) (by decide) k2)))
  have h_a0_3 : Keeps 1610613905 s a0_3 := (Keeps.step (State.dropItem_keeps ..) (by decide) h_a0_2)
  exact (Keeps.ite (Keeps.step (State.releaseItem_keeps ..) (by decide) h_a0_3) (Keeps.step (State.endItem_keeps ..) (by decide) h_a0_3))

theorem State.openFailed_keeps (s : State) (p : Nat) (fid : Nat) (d : Disp) (reason : Nat) (copies : Nat) : Keeps 1644688785 s (State.openFailed s p
    fid d reason copies) := by
  unfold State.openFailed
  extract_lets a0_0 a0_1 a0_2 a0_3
  have h_a0_0 : Keeps 1644688785 s a0_0 := (Keeps.step (State.mapFrame_keeps ..) (by decide) (Keeps.refl _ _))
  have h_a0_1 : Keeps 1644688785 s a0_1 := by
    unfold a0_1
    clear_value a0_0
    refine (Keeps.each h_a0_0 ?_)
    refine (fun t1 y1 k1 => ?_)
    split
    · exact (Keeps.ite (Keeps.step (State.readerBad_keeps ..) (by decide) k1) k1)
    · exact k1
  have h_a0_2 : Keeps 1644688785 s a0_2 := (Keeps.step (State.dropQueued_keeps ..) (by decide) h_a0_1)
  have h_a0_3 : Keeps 1644688785 s a0_3 := by
    unfold a0_3
    clear_value a0_0 a0_1 a0_2
    split
    · exact h_a0_2
    · exact (Keeps.step (State.openItem_keeps ..) (by decide) h_a0_2)
  exact (Keeps.step (State.release_keeps ..) (by decide) h_a0_3)

theorem State.cutOversize_keeps (s : State) (fid : Nat) : Keeps 1644688785 s (State.cutOversize s fid) := by
  unfold State.cutOversize
  refine (Keeps.each (Keeps.refl _ _) ?_)
  refine (fun t0 y0 k0 => ?_)
  split
  · exact (Keeps.ite (Keeps.step (State.oversized_keeps ..) (by decide) k0) k0)
  · exact k0

theorem State.rxMore_keeps (s : State) (p : Nat) (d : List Nat) : Keeps 1644688785 s (State.rxMore s p d) := by
  unfold State.rxMore
  split
  · exact (Keeps.refl _ _)
  · extract_lets a2_0 a2_1 a2_2
    have h_a2_1 : Keeps 1644688785 s a2_1 := (Keeps.step (State.setRxOpen_keeps ..) (by decide) (Keeps.refl _ _))
    clear_value a2_0 a2_1 a2_2
    split
    · exact h_a2_1
    · exact (Keeps.ite (Keeps.step (State.setRxOpen_keeps ..) (by decide) (Keeps.step (State.openFailed_keeps ..) (by decide) (Keeps.step
        (State.sticky_keeps ..) (by decide) h_a2_1))) (Keeps.step (State.cutOversize_keeps ..) (by decide) (Keeps.step (State.growFrame_keeps ..)
        (by decide) h_a2_1)))

theorem State.rxEnded_keeps (s : State) (p : Nat) (f : Frame) : Keeps 1644426641 s (State.rxEnded s p f) := by
  unfold State.rxEnded
  split
  · exact (Keeps.step (State.handOn_keeps ..) (by decide) (Keeps.refl _ _))
  · extract_lets a2_0
    have h_a2_0 : Keeps 1644426641 s a2_0 := (Keeps.step (State.dropItem_keeps ..) (by decide) (Keeps.refl _ _))
    exact (Keeps.ite (Keeps.step (State.releaseItem_keeps ..) (by decide) (Keeps.step (State.releaseItem_keeps ..) (by decide) (Keeps.each h_a2_0
        (fun t3 y3 k3 => (Keeps.step (State.dispatch_keeps ..) (by decide) k3))))) (Keeps.step (State.handOn_keeps ..) (by decide) (Keeps.step
        (State.releaseItem_keeps ..) (by decide) h_a2_0)))

theorem State.rxLast_keeps (s : State) (p : Nat) (d : List Nat) (symErr : Bool) (fcsOk : Bool) : Keeps 1644688785 s (State.rxLast s p d symErr
    fcsOk) := by
  unfold State.rxLast
  extract_lets a0_0 a0_1
  have h_a0_0 : Keeps 1644688785 s a0_0 := (Keeps.step (State.rxMore_keeps ..) (by decide) (Keeps.refl _ _))
  have h_a0_1 : Keeps 1644688785 s a0_1 := (Keeps.step (State.setRxOpen_keeps ..) (by decide) h_a0_0)
  clear_value a0_0 a0_1
  split
  · exact h_a0_0
  · extract_lets a3_0
    have h_a3_0 : Keeps 1644688785 s a3_0 := by
      unfold a3_0
      split
      · exact h_a0_1
      · split
        · exact (Keeps.step (State.openFailed_keeps ..) (by decide) (Keeps.step (State.rxFailed_keeps ..) (by decide) h_a0_1))
        · extract_lets a8_0
          have h_a8_0 : Keeps 1644688785 s a8_0 := (Keeps.step (State.mirrorIn_keeps ..) (by decide) (Keeps.step (State.mapFrame_keeps ..) (by
              decide) (Keeps.step (State.rxCounted_keeps ..) (by decide) h_a0_1)))
          exact (Keeps.step (State.rxEnded_keeps ..) (by decide) h_a8_0)
    exact (Keeps.step (State.secyBoundary_keeps ..) (by decide) h_a3_0)

/-! ## Axes -/

theorem State.putAxCfg_keeps (s : State) (n : Nat) (v : Nat) : Keeps 1 s (State.putAxCfg s n v) := by
  unfold State.putAxCfg
  exact (Keeps.step (State.wr_keeps ..) (by decide) (Keeps.step (State.wr_keeps ..) (by decide) (Keeps.step (State.wr_keeps ..) (by decide)
      (Keeps.step (State.wr_keeps ..) (by decide) (Keeps.refl _ _)))))

theorem State.axStart_keeps (s : State) (n : Nat) : Keeps 1614807041 s (State.axStart s n) := by
  unfold State.axStart
  extract_lets a0_0 a0_1 a0_2 a0_3 a0_4 a0_5
  have h_a0_3 : Keeps 1614807041 s a0_3 := (Keeps.step (State.setAxis_keeps ..) (by decide) (Keeps.refl _ _))
  have h_a0_5 : Keeps 1614807041 s a0_5 := (Keeps.step (State.setAxis_keeps ..) (by decide) (Keeps.refl _ _))
  exact (Keeps.ite (Keeps.refl _ _) (Keeps.ite (Keeps.step (State.setAxState_keeps ..) (by decide) (Keeps.step (State.wr_keeps ..) (by decide)
      h_a0_3)) (Keeps.step (State.axSourceCheck_keeps ..) (by decide) (Keeps.step (State.setAxState_keeps ..) (by decide) (Keeps.step
      (State.wr_keeps ..) (by decide) h_a0_5)))))

theorem State.axStop_keeps (s : State) (n : Nat) : Keeps 1623196673 s (State.axStop s n) := by
  unfold State.axStop
  exact (Keeps.ite (Keeps.refl _ _) (Keeps.step (State.axisLost_keeps ..) (by decide) (Keeps.step (State.setAxis_keeps ..) (by decide) (Keeps.step
      (State.wr_keeps ..) (by decide) (Keeps.step (State.setAxState_keeps ..) (by decide) (Keeps.refl _ _))))))

theorem axCfgWrite_keeps (n : Nat) (v : Nat) (s : State) : Keeps 1623196673 s (axCfgWrite n v s) := by
  unfold axCfgWrite
  extract_lets a0_0 a0_1 a0_2
  have h_a0_1 : Keeps 1623196673 s a0_1 := (Keeps.step (State.putAxCfg_keeps ..) (by decide) (Keeps.refl _ _))
  exact (Keeps.ite (Keeps.step (State.axStart_keeps ..) (by decide) h_a0_1) (Keeps.ite (Keeps.step (State.axStop_keeps ..) (by decide) h_a0_1)
      h_a0_1))

theorem execAxisEnable_keeps (init : Initiator) (n : Fin 7) (low : Fin 128) (s : State) : KeepsR 1623196673 s (execAxisEnable init n low s) := by
  unfold execAxisEnable
  extract_lets a0_0
  have h_a0_0 : Keeps 1623196673 s a0_0 := (Keeps.step (fresh_keeps ..) (by decide) (Keeps.refl _ _))
  exact (KeepsR.next (Keeps.cmdWrite (by decide) h_a0_0 (fun t1 k1 => (Keeps.step (axCfgWrite_keeps ..) (by decide) k1)) (fun _ => Keeps.step
      (State.endAccess_keeps ..) (by decide) (Keeps.step (State.violate_keeps ..) (by decide) h_a0_0))))

theorem execAxisDisable_keeps (init : Initiator) (n : Fin 7) (low : Fin 128) (s : State) : KeepsR 1623196673 s (execAxisDisable init n low s) := by
  unfold execAxisDisable
  extract_lets a0_0
  have h_a0_0 : Keeps 1623196673 s a0_0 := (Keeps.step (fresh_keeps ..) (by decide) (Keeps.refl _ _))
  exact (KeepsR.next (Keeps.cmdWrite (by decide) h_a0_0 (fun t1 k1 => (Keeps.step (axCfgWrite_keeps ..) (by decide) k1)) (fun _ => Keeps.step
      (State.endAccess_keeps ..) (by decide) (Keeps.step (State.violate_keeps ..) (by decide) h_a0_0))))

theorem measured_keeps (n : Nat) (up : Bool) (s : State) : Keeps 1614807041 s (measured n up s) := by
  unfold measured
  refine (Keeps.ite (Keeps.refl _ _) ?_)
  extract_lets a0_0
  have h_a0_0 : Keeps 1614807041 s a0_0 := (Keeps.step (State.axSourceCheck_keeps ..) (by decide) (Keeps.refl _ _))
  exact (Keeps.ite h_a0_0 (Keeps.step (State.axUpdate_keeps ..) (by decide) h_a0_0))

theorem execAxisMeasuredUpdate_keeps (n : Fin 7) (up : Bool) (s : State) : KeepsR 1614807041 s (execAxisMeasuredUpdate n up s) := by
  unfold execAxisMeasuredUpdate
  exact (KeepsR.next (Keeps.step (measured_keeps ..) (by decide) (Keeps.step (fresh_keeps ..) (by decide) (Keeps.refl _ _))))

theorem stallTimeout_keeps (n : Nat) (s : State) : Keeps 1614807041 s (stallTimeout n s) := by
  unfold stallTimeout
  refine (Keeps.ite ?_ (Keeps.refl _ _))
  extract_lets a0_0 a0_1
  have h_a0_1 : Keeps 1614807041 s a0_1 := (Keeps.step (State.setAxState_keeps ..) (by decide) (Keeps.step (State.setAxis_keeps ..) (by decide)
      (Keeps.refl _ _)))
  exact (Keeps.step (State.event_keeps ..) (by decide) (Keeps.step (State.sticky_keeps ..) (by decide) h_a0_1))

theorem execAxisStallTimeout_keeps (n : Fin 7) (s : State) : KeepsR 1614807041 s (execAxisStallTimeout n s) := by
  unfold execAxisStallTimeout
  exact (KeepsR.next (Keeps.step (stallTimeout_keeps ..) (by decide) (Keeps.step (fresh_keeps ..) (by decide) (Keeps.refl _ _))))

theorem State.passedLate_keeps (s : State) (a : Nat) (i : Nat) : Keeps 1619002369 s (State.passedLate s a i) := by
  unfold State.passedLate
  split
  · exact (Keeps.ite (Keeps.step (State.evLate_keeps ..) (by decide) (Keeps.refl _ _)) (Keeps.refl _ _))
  · exact (Keeps.refl _ _)

theorem ax0Step_keeps (s : State) : Keeps 1619004417 s (ax0Step s) := by
  unfold ax0Step
  extract_lets a0_0 a0_1 a0_2 a0_3 a0_4 a0_5 a0_6
  have h_a0_0 : Keeps 1619004417 s a0_0 := (Keeps.each (Keeps.refl _ _) (fun t1 y1 k1 => (Keeps.step (State.evEval_keeps ..) (by decide) k1)))
  have h_a0_5 : Keeps 1619004417 s a0_5 := (Keeps.step (State.setAx0_keeps ..) (by decide) h_a0_0)
  have h_a0_6 : Keeps 1619004417 s a0_6 := (Keeps.each h_a0_5 (fun t2 y2 k2 => (Keeps.step (State.passedLate_keeps ..) (by decide) k2)))
  exact (Keeps.step (State.event_keeps ..) (by decide) (Keeps.step (State.sticky_keeps ..) (by decide) h_a0_6))

theorem execAx0Step_keeps (init : Initiator) (s : State) : KeepsR 1619004417 s (execAx0Step init s) := by
  unfold execAx0Step
  extract_lets a0_0
  have h_a0_0 : Keeps 1619004417 s a0_0 := (Keeps.step (fresh_keeps ..) (by decide) (Keeps.refl _ _))
  exact (KeepsR.next (Keeps.cmdField (by decide) h_a0_0 (fun t1 k1 => (Keeps.step (ax0Step_keeps ..) (by decide) k1)) (fun _ => Keeps.step
      (State.endAccess_keeps ..) (by decide) (Keeps.step (State.violate_keeps ..) (by decide) h_a0_0))))

theorem ax0Mark_keeps (s : State) : Keeps 1 s (ax0Mark s) := by
  unfold ax0Mark
  exact (Keeps.step (State.setAx0State_keeps ..) (by decide) (Keeps.refl _ _))

theorem execAx0Mark_keeps (init : Initiator) (s : State) : KeepsR 1610613761 s (execAx0Mark init s) := by
  unfold execAx0Mark
  exact (KeepsR.next (Keeps.cmdField (by decide) (Keeps.step (fresh_keeps ..) (by decide) (Keeps.refl _ _)) (fun t0 k0 => (Keeps.step (ax0Mark_keeps
      ..) (by decide) k0)) (fun _ => Keeps.step (State.endAccess_keeps ..) (by decide) (Keeps.step (State.violate_keeps ..) (by decide) (Keeps.step
      (fresh_keeps ..) (by decide) (Keeps.refl _ _))))))

theorem ax0Unsync_keeps (s : State) : Keeps 1 s (ax0Unsync s) := by
  unfold ax0Unsync
  exact (Keeps.step (State.setAx0State_keeps ..) (by decide) (Keeps.refl _ _))

theorem execAx0Unsync_keeps (init : Initiator) (s : State) : KeepsR 1610613761 s (execAx0Unsync init s) := by
  unfold execAx0Unsync
  exact (KeepsR.next (Keeps.cmdField (by decide) (Keeps.step (fresh_keeps ..) (by decide) (Keeps.refl _ _)) (fun t0 k0 => (Keeps.step
      (ax0Unsync_keeps ..) (by decide) k0)) (fun _ => Keeps.step (State.endAccess_keeps ..) (by decide) (Keeps.step (State.violate_keeps ..) (by
      decide) (Keeps.step (fresh_keeps ..) (by decide) (Keeps.refl _ _))))))

theorem servo_keeps (slew : Bool) (v : Nat) (s : State) : Keeps 2049 s (servo slew v s) := by
  unfold servo
  exact (Keeps.ite (Keeps.step (State.setAx0_keeps ..) (by decide) (Keeps.step (State.wr_keeps ..) (by decide) (Keeps.refl _ _))) (Keeps.step
      (State.wr_keeps ..) (by decide) (Keeps.refl _ _)))

theorem execAx0ServoUpdate_keeps (init : Initiator) (slew : Bool) (v : BitVec 32) (s : State) : KeepsR 1610615809 s (execAx0ServoUpdate init slew v
    s) := by
  unfold execAx0ServoUpdate
  exact (KeepsR.next (Keeps.cmdWrite (by decide) (Keeps.step (fresh_keeps ..) (by decide) (Keeps.refl _ _)) (fun t0 k0 => (Keeps.step (servo_keeps
      ..) (by decide) k0)) (fun _ => Keeps.step (State.endAccess_keeps ..) (by decide) (Keeps.step (State.violate_keeps ..) (by decide) (Keeps.step
      (fresh_keeps ..) (by decide) (Keeps.refl _ _))))))

theorem holdoverTimeout_keeps (s : State) : Keeps 1610612737 s (holdoverTimeout s) := by
  unfold holdoverTimeout
  exact (Keeps.ite (Keeps.step (State.event_keeps ..) (by decide) (Keeps.step (State.sticky_keeps ..) (by decide) (Keeps.step
      (State.setAx0State_keeps ..) (by decide) (Keeps.refl _ _)))) (Keeps.refl _ _))

theorem execAx0HoldoverTimeout_keeps (s : State) : KeepsR 1610612737 s (execAx0HoldoverTimeout s) := by
  unfold execAx0HoldoverTimeout
  exact (KeepsR.next (Keeps.step (holdoverTimeout_keeps ..) (by decide) (Keeps.step (fresh_keeps ..) (by decide) (Keeps.refl _ _))))

theorem copyUpdate_keeps (s : State) : Keeps 2048 s (copyUpdate s) := by
  unfold copyUpdate
  exact (Keeps.ite (Keeps.step (State.setAx0_keeps ..) (by decide) (Keeps.refl _ _)) (Keeps.refl _ _))

theorem execAx0CopyUpdate_keeps (s : State) : KeepsR 536872960 s (execAx0CopyUpdate s) := by
  unfold execAx0CopyUpdate
  exact (KeepsR.next (Keeps.step (copyUpdate_keeps ..) (by decide) (Keeps.step (fresh_keeps ..) (by decide) (Keeps.refl _ _))))

theorem State.mpSend_keeps (s : State) (p : Nat) (d : List Nat) (stamped : Bool) : Keeps 1879049361 s (State.mpSend s p d stamped) := by
  unfold State.mpSend
  extract_lets a0_0
  have h_a0_0 : KeepsQ 1879049361 s a0_0 := (KeepsQ.step (State.draw_keeps ..) (by decide) (Keeps.refl _ _))
  exact (Keeps.step (State.sendOwn_keeps ..) (by decide) h_a0_0)

theorem State.ptpRelay_keeps (s : State) (d : List Nat) (ty : Nat) (stamped : Bool) : Keeps 1879049361 s (State.ptpRelay s d ty stamped) := by
  unfold State.ptpRelay
  refine (Keeps.each (Keeps.refl _ _) ?_)
  refine (fun t0 y0 k0 => ?_)
  extract_lets a1_0
  have h_a1_0 : KeepsQ 1879049361 s a1_0 := (KeepsQ.step (State.draw_keeps ..) (by decide) k0)
  exact (Keeps.step (State.mpSend_keeps ..) (by decide) h_a1_0)

theorem State.ptpMessage_keeps (s : State) (p : Nat) (d : List Nat) : Keeps 1879051409 s (State.ptpMessage s p d) := by
  unfold State.ptpMessage
  extract_lets a0_0 a0_1 a0_2 a0_3
  have h_a0_2 : KeepsQ 1879051409 s a0_2 := (KeepsQ.step (State.draw_keeps ..) (by decide) (Keeps.refl _ _))
  have h_a0_3 : KeepsQ 1879051409 s a0_3 := (KeepsQ.step (State.draw_keeps ..) (by decide) h_a0_2)
  exact (Keeps.ite (Keeps.ite (Keeps.step (State.ptpRelay_keeps ..) (by decide) (Keeps.refl _ _)) (Keeps.refl _ _)) (Keeps.ite (Keeps.ite
      (Keeps.refl _ _) (Keeps.step (State.ptpRelay_keeps ..) (by decide) (Keeps.step (servo_keeps ..) (by decide) (Keeps.step (servo_keeps ..) (by
      decide) h_a0_3)))) (Keeps.ite (Keeps.step (State.mpSend_keeps ..) (by decide) (Keeps.step (State.mpSend_keeps ..) (by decide) (Keeps.refl _
      _))) (Keeps.refl _ _))))

theorem ptpReceived_keeps (p : Nat) (d : List Nat) (s : State) : Keeps 1879051409 s (ptpReceived p d s) := by
  unfold ptpReceived
  refine (Keeps.ite (Keeps.refl _ _) ?_)
  extract_lets a0_0 a0_1
  have h_a0_1 : Keeps 1879051409 s a0_1 := (Keeps.step (State.handedEnd_keeps ..) (by decide) (Keeps.refl _ _))
  exact (Keeps.ite (Keeps.step (State.ptpMessage_keeps ..) (by decide) h_a0_1) h_a0_1)

theorem execGptpFrameReceived_keeps (p : Fin 16) (d : List Byte) (_sec : BitVec 48) (_ns : BitVec 32) (s : State) : KeepsR 1879051409 s
    (execGptpFrameReceived p d _sec _ns s) := by
  unfold execGptpFrameReceived
  exact (KeepsR.next (Keeps.step (ptpReceived_keeps ..) (by decide) (Keeps.step (fresh_keeps ..) (by decide) (Keeps.refl _ _))))

/-! ## StageOps -/

theorem State.stageFull_keeps (s : State) (w : Nat) (init : Nat) (ofs : Nat) (data : Nat) : Keeps 1610613761 s (State.stageFull s w init ofs data)
    := by
  unfold State.stageFull
  exact (Keeps.step (State.violate_keeps ..) (by decide) (Keeps.step (State.sticky_keeps ..) (by decide) (Keeps.refl _ _)))

theorem State.pick_keeps (s : State) (n : Nat) : KeepsQ 268435456 s (State.pick s n) := by
  unfold State.pick
  exact (KeepsQ.mk (KeepsQ.step (State.draw_keeps ..) (by decide) (Keeps.refl _ _)))

theorem State.l2Supersede_keeps (s : State) (x : L2Way) : Keeps 512 s (State.l2Supersede s x) := by
  unfold State.l2Supersede
  exact (Keeps.step (State.setL2_keeps ..) (by decide) (Keeps.refl _ _))

theorem State.l2Place_keeps (s : State) (x : L2Way) : KeepsO 1342177793 s (State.l2Place s x) := by
  unfold State.l2Place
  extract_lets a0_0 a0_1 a0_2 a0_3
  have h_a0_3 : KeepsQ 1342177793 s a0_3 := (KeepsQ.step (State.pick_keeps ..) (by decide) (Keeps.refl _ _))
  clear_value a0_0 a0_1 a0_2 a0_3
  refine (KeepsO.ite (KeepsO.some (Keeps.step (State.l2Add_keeps ..) (by decide) (Keeps.refl _ _))) ?_)
  split
  · exact KeepsO.none
  · exact (KeepsO.some (Keeps.step (State.l2Add_keeps ..) (by decide) (Keeps.step (State.count_keeps ..) (by decide) (Keeps.step (State.l2Drop_keeps
      ..) (by decide) h_a0_3))))

theorem State.l2Stage_keeps (s : State) (x : L2Way) : KeepsP 1342177857 s (State.l2Stage s x) := by
  unfold State.l2Stage
  extract_lets a0_0 a0_1 a0_2 a0_3 a0_4
  have h_a0_3 : Keeps 1342177857 s a0_3 := (Keeps.step (State.addOvf_keeps ..) (by decide) (Keeps.step (State.l2Supersede_keeps ..) (by decide)
      (Keeps.refl _ _)))
  clear_value a0_0 a0_1 a0_2 a0_3 a0_4
  refine (KeepsP.ite (KeepsP.mk (Keeps.refl _ _)) ?_)
  refine (KeepsP.ite (KeepsP.mk (Keeps.step (State.stagedOne_keeps ..) (by decide) (Keeps.step (State.touch_keeps ..) (by decide) (Keeps.step
      (State.setTbl_keeps ..) (by decide) (Keeps.refl _ _))))) ?_)
  split
  · exact (KeepsP.mk (Keeps.step (State.stagedOne_keeps ..) (by decide) (Keeps.step (State.touch_keeps ..) (by decide) (Keeps.step
      (State.l2Map_keeps ..) (by decide) (Keeps.refl _ _)))))
  · split
    · next p3_0 e3 =>
        have q3 := KeepsO.get (T := 1342177857) (a := s) (KeepsO.step (State.l2Place_keeps ..) (by decide) (Keeps.refl _ _)) e3
        exact (KeepsP.mk (Keeps.step (State.stagedOne_keeps ..) (by decide) (Keeps.step (State.touch_keeps ..) (by decide) (Keeps.step
            (State.l2Supersede_keeps ..) (by decide) q3))))
    · exact (KeepsP.ite (KeepsP.mk (Keeps.refl _ _)) (KeepsP.mk (Keeps.step (State.stagedOne_keeps ..) (by decide) (Keeps.step (State.touch_keeps
        ..) (by decide) (Keeps.step (State.setTbl_keeps ..) (by decide) h_a0_3)))))

theorem State.l2Unstage_keeps (s : State) (fid : Nat) (mac : Nat) : KeepsP 577 s (State.l2Unstage s fid mac) := by
  unfold State.l2Unstage
  extract_lets a0_0 a0_1 a0_2
  clear_value a0_0 a0_1 a0_2
  refine (KeepsP.ite (KeepsP.mk (Keeps.step (State.stagedOne_keeps ..) (by decide) (Keeps.step (State.touch_keeps ..) (by decide) (Keeps.step
      (State.setTbl_keeps ..) (by decide) (Keeps.step (State.dropOvf_keeps ..) (by decide) (Keeps.refl _ _)))))) ?_)
  split
  · exact (KeepsP.mk (Keeps.refl _ _))
  · refine (KeepsP.ite (KeepsP.mk (Keeps.refl _ _)) ?_)
    extract_lets a3_0
    have h_a3_0 : Keeps 577 s a3_0 := (Keeps.ite (Keeps.step (State.l2Map_keeps ..) (by decide) (Keeps.refl _ _)) (Keeps.step (State.l2Drop_keeps
        ..) (by decide) (Keeps.refl _ _)))
    exact (KeepsP.mk (Keeps.step (State.stagedOne_keeps ..) (by decide) (Keeps.step (State.touch_keeps ..) (by decide) h_a3_0)))

theorem State.setPrefixes_keeps (s : State) (l : List Prefix) : Keeps 512 s (State.setPrefixes s l) := by
  unfold State.setPrefixes
  exact (Keeps.step (State.setTbl_keeps ..) (by decide) (Keeps.refl _ _))

theorem State.stand_keeps (s : State) (l : List Prefix) : Keeps 512 s (State.stand s l) := by
  unfold State.stand
  exact (Keeps.step (State.setTbl_keeps ..) (by decide) (Keeps.refl _ _))

theorem State.pfxSupersede_keeps (s : State) (x : Prefix) : Keeps 512 s (State.pfxSupersede s x) := by
  unfold State.pfxSupersede
  exact (Keeps.step (State.setPrefixes_keeps ..) (by decide) (Keeps.refl _ _))

theorem State.pfxStage_keeps (s : State) (x : Prefix) : KeepsP 577 s (State.pfxStage s x) := by
  unfold State.pfxStage
  extract_lets a0_0 a0_1 a0_2 a0_3 a0_4
  have h_a0_3 : Keeps 577 s a0_3 := (Keeps.step (State.addOvf_keeps ..) (by decide) (Keeps.step (State.pfxSupersede_keeps ..) (by decide)
      (Keeps.refl _ _)))
  exact (KeepsP.ite (KeepsP.mk (Keeps.refl _ _)) (KeepsP.ite (KeepsP.mk (Keeps.step (State.stagedOne_keeps ..) (by decide) (Keeps.step
      (State.touch_keeps ..) (by decide) (Keeps.step (State.setTbl_keeps ..) (by decide) (Keeps.refl _ _))))) (KeepsP.ite (KeepsP.mk (Keeps.step
      (State.stagedOne_keeps ..) (by decide) (Keeps.step (State.touch_keeps ..) (by decide) (Keeps.step (State.setPrefixes_keeps ..) (by decide)
      (Keeps.refl _ _))))) (KeepsP.ite (KeepsP.mk (Keeps.refl _ _)) (KeepsP.ite (KeepsP.mk (Keeps.step (State.stagedOne_keeps ..) (by decide)
      (Keeps.step (State.touch_keeps ..) (by decide) (Keeps.step (State.setPrefixes_keeps ..) (by decide) (Keeps.step (State.pfxSupersede_keeps ..)
      (by decide) (Keeps.refl _ _)))))) (KeepsP.ite (KeepsP.mk (Keeps.refl _ _)) (KeepsP.mk (Keeps.step (State.stagedOne_keeps ..) (by decide)
      (Keeps.step (State.touch_keeps ..) (by decide) (Keeps.step (State.setTbl_keeps ..) (by decide) h_a0_3))))))))))

theorem State.pfxUnstage_keeps (s : State) (x : Prefix) : KeepsP 577 s (State.pfxUnstage s x) := by
  unfold State.pfxUnstage
  extract_lets a0_0 a0_1 a0_2 a0_3
  have h_a0_2 : Keeps 577 s a0_2 := (Keeps.step (State.stand_keeps ..) (by decide) (Keeps.step (State.dropOvf_keeps ..) (by decide) (Keeps.refl _ _)))
  clear_value a0_0 a0_1 a0_2 a0_3
  refine (KeepsP.ite (KeepsP.mk (Keeps.step (State.stagedOne_keeps ..) (by decide) (Keeps.step (State.touch_keeps ..) (by decide) (Keeps.step
      (State.setTbl_keeps ..) (by decide) h_a0_2)))) ?_)
  split
  · exact (KeepsP.mk (Keeps.refl _ _))
  · refine (KeepsP.ite (KeepsP.mk (Keeps.refl _ _)) ?_)
    extract_lets a3_0
    have h_a3_0 : Keeps 577 s a3_0 := (Keeps.ite (Keeps.step (State.pfxSupersede_keeps ..) (by decide) (Keeps.refl _ _)) (Keeps.step
        (State.setPrefixes_keeps ..) (by decide) (Keeps.step (State.stand_keeps ..) (by decide) (Keeps.refl _ _))))
    exact (KeepsP.mk (Keeps.step (State.stagedOne_keeps ..) (by decide) (Keeps.step (State.touch_keeps ..) (by decide) h_a3_0)))

theorem State.keyedSettle_keeps (s : State) (g : Nat) : Keeps 512 s (State.keyedSettle s g) := by
  unfold State.keyedSettle
  exact (Keeps.step (State.setTbl_keeps ..) (by decide) (Keeps.refl _ _))

theorem State.discardDelta_keeps (s : State) : Keeps 577 s (State.discardDelta s) := by
  unfold State.discardDelta
  exact (Keeps.step (State.clearDelta_keeps ..) (by decide) (Keeps.step (State.keyedSettle_keeps ..) (by decide) (Keeps.each (Keeps.refl _ _) (fun
      t0 y0 k0 => (Keeps.step (State.restoreEntry_keeps ..) (by decide) k0)))))

/-! ## ViewOps -/

theorem State.selectView_keeps (s : State) (v : ViewTab) (next : Bool) (i : Nat) : Keeps 65 s (State.selectView s v next i) := by
  unfold State.selectView
  extract_lets a0_0
  have h_a0_0 : Keeps 65 s a0_0 := (Keeps.step (State.wr_keeps ..) (by decide) (Keeps.step (State.wr_keeps ..) (by decide) (Keeps.refl _ _)))
  exact (Keeps.step (State.loadView_keeps ..) (by decide) h_a0_0)

theorem State.bufBytes_keeps (s : State) (v : ViewTab) (a : Nat) (l : List Nat) : Keeps 64 s (s.bufBytes v a l) := by
  suffices h : ∀ t a, Keeps 64 s t → Keeps 64 s (t.bufBytes v a l) from h s a (Keeps.refl _ _)
  induction l with
  | nil => exact fun t a h => h
  | cons b r ih =>
    intro t a h
    exact ih _ _ (Keeps.each h fun _ _ k => Keeps.step (State.setBuf_keeps ..) (by decide) k)

theorem State.bufFit_keeps (s : State) (v : ViewTab) : Keeps 64 s (State.bufFit s v) := by
  unfold State.bufFit
  extract_lets a0_0
  exact (Keeps.each (Keeps.refl _ _) (fun t1 y1 k1 => (Keeps.step (State.setBuf_keeps ..) (by decide) k1)))

theorem State.nativePorts_keeps (s : State) (init : Nat) (v : ViewTab) : Keeps 64 s (State.nativePorts s init v) := by
  unfold State.nativePorts
  exact (Keeps.ite (Keeps.step (State.setBuf_keeps ..) (by decide) (Keeps.refl _ _)) (Keeps.refl _ _))

theorem State.stageView_keeps (s : State) (init : Nat) (v : ViewTab) (data : List Nat) : Keeps 1610613825 s (State.stageView s init v data) := by
  unfold State.stageView
  extract_lets a0_0 a0_1
  have h_a0_0 : Keeps 1610613825 s a0_0 := (Keeps.step (State.bufFit_keeps ..) (by decide) (Keeps.step (State.bufBytes_keeps ..) (by decide)
      (Keeps.refl _ _)))
  clear_value a0_0 a0_1
  refine (Keeps.cmdWrite (by decide) (Keeps.when (Keeps.refl _ _) (fun t1 k1 => (Keeps.step (State.sticky_keeps ..) (by decide) k1))) ?_ (fun _ =>
      Keeps.step (State.endAccess_keeps ..) (by decide) (Keeps.step (State.violate_keeps ..) (by decide) (Keeps.when (Keeps.refl _ _) (fun t1 k1 =>
      (Keeps.step (State.sticky_keeps ..) (by decide) k1))))))
  refine (fun t2 k2 => ?_)
  extract_lets a3_0 a3_1
  have h_a3_0 : Keeps 1610613825 s a3_0 := (Keeps.step (State.nativePorts_keeps ..) (by decide) (Keeps.step (State.bufFit_keeps ..) (by decide)
      (Keeps.step (State.bufBytes_keeps ..) (by decide) k2)))
  exact (Keeps.step (State.stageBuf_keeps ..) (by decide) h_a3_0)

/-! ## SelOps -/

theorem State.rawByte_keeps (s : State) (w : Nat) (ofs : Nat) (v : Nat) : Keeps 1 s (State.rawByte s w ofs v) := by
  unfold State.rawByte
  refine (Keeps.each (Keeps.refl _ _) ?_)
  refine (fun t0 y0 k0 => ?_)
  extract_lets a1_0
  exact (Keeps.step (State.wr_keeps ..) (by decide) k0)

theorem State.fitReg_keeps (s : State) (w : Nat) (ofs : Nat) : Keeps 1 s (State.fitReg s w ofs) := by
  unfold State.fitReg
  refine (Keeps.each (Keeps.refl _ _) ?_)
  refine (fun t0 y0 k0 => ?_)
  extract_lets a1_0
  exact (Keeps.step (State.wr_keeps ..) (by decide) k0)

theorem State.storeReg_keeps (s : State) (w : Nat) (o : Nat) (v : Nat) : Keeps 1 s (State.storeReg s w o v) := by
  unfold State.storeReg
  exact (Keeps.step (State.wrWide_keeps ..) (by decide) (Keeps.refl _ _))

/-! ## Wake -/

theorem netDetected_keeps (n : Nat) (s : State) : Keeps 1644393873 s (netDetected n s) := by
  unfold netDetected
  refine (Keeps.ite ?_ (Keeps.refl _ _))
  extract_lets a0_0
  have h_a0_0 : Keeps 1644393873 s a0_0 := (Keeps.ite (Keeps.step (State.count_keeps ..) (by decide) (Keeps.refl _ _)) (Keeps.refl _ _))
  exact (Keeps.step (State.sourceEvent_keeps ..) (by decide) h_a0_0)

theorem execNetworkWakeDetected_keeps (n : Fin 44) (s : State) : KeepsR 1644393873 s (execNetworkWakeDetected n s) := by
  unfold execNetworkWakeDetected
  exact (KeepsR.next (Keeps.step (netDetected_keeps ..) (by decide) (Keeps.step (fresh_keeps ..) (by decide) (Keeps.refl _ _))))

theorem wufDecoded_keeps (p : Nat) (f : WufFrame) (s : State) : Keeps 1644393873 s (wufDecoded p f s) := by
  unfold wufDecoded
  extract_lets a0_0 a0_1 a0_2
  have h_a0_1 : Keeps 1644393873 s a0_1 := (Keeps.step (State.wr_keeps ..) (by decide) (Keeps.refl _ _))
  have h_a0_2 : Keeps 1644393873 s a0_2 := (Keeps.step (State.wr_keeps ..) (by decide) (Keeps.refl _ _))
  exact (Keeps.ite (Keeps.refl _ _) (Keeps.ite (Keeps.ite (Keeps.step (netDetected_keeps ..) (by decide) h_a0_1) h_a0_1) (Keeps.ite (Keeps.step
      (netDetected_keeps ..) (by decide) h_a0_2) h_a0_2)))

theorem execCantWufFrameDecoded_keeps (p : Fin 16) (f : WufFrame) (s : State) : KeepsR 1644393873 s (execCantWufFrameDecoded p f s) := by
  unfold execCantWufFrameDecoded
  exact (KeepsR.next (Keeps.step (wufDecoded_keeps ..) (by decide) (Keeps.step (fresh_keeps ..) (by decide) (Keeps.refl _ _))))

theorem wakeIo_keeps (s : State) : Keeps 1644393873 s (wakeIo s) := by
  unfold wakeIo
  extract_lets a0_0
  exact (Keeps.ite (Keeps.refl _ _) (Keeps.step (State.sourceEvent_keeps ..) (by decide) (Keeps.refl _ _)))

theorem execWakeIoWake_keeps (s : State) : KeepsR 1644393873 s (execWakeIoWake s) := by
  unfold execWakeIoWake
  exact (KeepsR.next (Keeps.step (wakeIo_keeps ..) (by decide) (Keeps.step (fresh_keeps ..) (by decide) (Keeps.refl _ _))))

theorem wioPulseEnd_keeps (s : State) : Keeps 537001984 s (wioPulseEnd s) := by
  unfold wioPulseEnd
  exact (Keeps.step (State.wioSync_keeps ..) (by decide) (Keeps.step (State.setWake_keeps ..) (by decide) (Keeps.refl _ _)))

theorem execWakeIoPulseEnd_keeps (s : State) : KeepsR 537001984 s (execWakeIoPulseEnd s) := by
  unfold execWakeIoPulseEnd
  exact (KeepsR.next (Keeps.step (wioPulseEnd_keeps ..) (by decide) (Keeps.step (fresh_keeps ..) (by decide) (Keeps.refl _ _))))

theorem wkTimer_keeps (s : State) : Keeps 1644393873 s (wkTimer s) := by
  unfold wkTimer
  exact (Keeps.ite (Keeps.step (State.sourceEvent_keeps ..) (by decide) (Keeps.refl _ _)) (Keeps.refl _ _))

theorem execWkTimerExpiry_keeps (s : State) : KeepsR 1644393873 s (execWkTimerExpiry s) := by
  unfold execWkTimerExpiry
  exact (KeepsR.next (Keeps.step (wkTimer_keeps ..) (by decide) (Keeps.step (fresh_keeps ..) (by decide) (Keeps.refl _ _))))

theorem pncLocal_keeps (v : Nat) (s : State) : Keeps 1644393873 s (pncLocal v s) := by
  unfold pncLocal
  extract_lets a0_0 a0_1
  have h_a0_1 : Keeps 1644393873 s a0_1 := (Keeps.step (State.wr_keeps ..) (by decide) (Keeps.refl _ _))
  exact (Keeps.ite (Keeps.step (State.parkCheck_keeps ..) (by decide) (Keeps.step (State.evalNets_keeps ..) (by decide) h_a0_1)) (Keeps.step
      (State.evalNets_keeps ..) (by decide) (Keeps.step (State.sourceEvent_keeps ..) (by decide) (Keeps.step (State.clearPark_keeps ..) (by decide)
      h_a0_1))))

theorem execPncLocalWrite_keeps (init : Initiator) (v : BitVec 24) (s : State) : KeepsR 1644393873 s (execPncLocalWrite init v s) := by
  unfold execPncLocalWrite
  exact (KeepsR.next (Keeps.cmdWrite (by decide) (Keeps.step (fresh_keeps ..) (by decide) (Keeps.refl _ _)) (fun t0 k0 => (Keeps.step
      (pncLocal_keeps ..) (by decide) k0)) (fun _ => Keeps.step (State.endAccess_keeps ..) (by decide) (Keeps.step (State.violate_keeps ..) (by
      decide) (Keeps.step (fresh_keeps ..) (by decide) (Keeps.refl _ _))))))

theorem holdEnds_keeps (h : HoldOf) (s : State) : Keeps 1644389777 s (holdEnds h s) := by
  unfold holdEnds
  refine (Keeps.step (State.parkCheck_keeps ..) (by decide) ?_)
  refine (Keeps.step (State.evalNets_keeps ..) (by decide) ?_)
  split
  · exact (Keeps.step (State.setWake_keeps ..) (by decide) (Keeps.refl _ _))
  · exact (Keeps.step (State.setWake_keeps ..) (by decide) (Keeps.refl _ _))

theorem execPncHoldExpiry_keeps (h : HoldOf) (s : State) : KeepsR 1644389777 s (execPncHoldExpiry h s) := by
  unfold execPncHoldExpiry
  exact (KeepsR.next (Keeps.step (holdEnds_keeps ..) (by decide) (Keeps.step (fresh_keeps ..) (by decide) (Keeps.refl _ _))))

theorem readyDelay_keeps (n : Nat) (s : State) : Keeps 1644389777 s (readyDelay n s) := by
  unfold readyDelay
  exact (Keeps.ite (Keeps.step (State.netSleep_keeps ..) (by decide) (Keeps.refl _ _)) (Keeps.refl _ _))

theorem execNetReadyDelayExpiry_keeps (n : Fin 44) (s : State) : KeepsR 1644389777 s (execNetReadyDelayExpiry n s) := by
  unfold execNetReadyDelayExpiry
  exact (KeepsR.next (Keeps.step (readyDelay_keeps ..) (by decide) (Keeps.step (fresh_keeps ..) (by decide) (Keeps.refl _ _))))

theorem switchDone_keeps (n : Nat) (s : State) : Keeps 1644324241 s (switchDone n s) := by
  unfold switchDone
  refine (Keeps.ite (Keeps.refl _ _) ?_)
  extract_lets a0_0 a0_1 a0_2 a0_3
  have h_a0_2 : Keeps 1644324241 s a0_2 := (Keeps.step (State.setWake_keeps ..) (by decide) (Keeps.refl _ _))
  have h_a0_3 : Keeps 1644324241 s a0_3 := (Keeps.step (State.event_keeps ..) (by decide) (Keeps.step (State.setNet_keeps ..) (by decide) h_a0_2))
  exact (Keeps.ite (Keeps.step (State.netWake_keeps ..) (by decide) h_a0_3) h_a0_3)

theorem execTrxSwitchComplete_keeps (n : Fin 44) (s : State) : KeepsR 1644324241 s (execTrxSwitchComplete n s) := by
  unfold execTrxSwitchComplete
  exact (KeepsR.next (Keeps.step (switchDone_keeps ..) (by decide) (Keeps.step (fresh_keeps ..) (by decide) (Keeps.refl _ _))))

theorem ringStart_keeps (p : Nat) (s : State) : Keeps 1644389777 s (ringStart p s) := by
  unfold ringStart
  refine (Keeps.ite (Keeps.refl _ _) ?_)
  extract_lets a0_0 a0_1 a0_2
  have h_a0_1 : Keeps 1644389777 s a0_1 := (Keeps.step (State.setWake_keeps ..) (by decide) (Keeps.refl _ _))
  have h_a0_2 : Keeps 1644389777 s a0_2 := (Keeps.step (State.setNet_keeps ..) (by decide) (Keeps.step (State.wr_keeps ..) (by decide) h_a0_1))
  exact (Keeps.step (State.evalNet_keeps ..) (by decide) (Keeps.step (State.sendAlive_keeps ..) (by decide) h_a0_2))

theorem ringStop_keeps (p : Nat) (s : State) : Keeps 1644389777 s (ringStop p s) := by
  unfold ringStop
  refine (Keeps.ite (Keeps.refl _ _) ?_)
  extract_lets a0_0 a0_1 a0_2
  have h_a0_1 : Keeps 1644389777 s a0_1 := (Keeps.step (State.setWake_keeps ..) (by decide) (Keeps.refl _ _))
  exact (Keeps.ite (Keeps.step (State.evalNet_keeps ..) (by decide) (Keeps.step (State.setNet_keeps ..) (by decide) h_a0_1)) h_a0_1)

theorem nmWrite_keeps (v : Nat) (s : State) : Keeps 1644389777 s (nmWrite v s) := by
  unfold nmWrite
  extract_lets a0_0 a0_1 a0_2 a0_3
  have h_a0_2 : Keeps 1644389777 s a0_2 := (Keeps.step (State.wrWide_keeps ..) (by decide) (Keeps.refl _ _))
  have h_a0_3 : Keeps 1644389777 s a0_3 := (Keeps.step (State.wr_keeps ..) (by decide) h_a0_2)
  exact (Keeps.ite (Keeps.step (ringStop_keeps ..) (by decide) h_a0_3) (Keeps.ite (Keeps.step (ringStart_keeps ..) (by decide) h_a0_3) h_a0_3))

theorem execNmEnable_keeps (init : Initiator) (v : BitVec 64) (s : State) : KeepsR 1644389777 s (execNmEnable init v s) := by
  unfold execNmEnable
  exact (KeepsR.next (Keeps.cmdWrite (by decide) (Keeps.step (fresh_keeps ..) (by decide) (Keeps.refl _ _)) (fun t0 k0 => (Keeps.step (nmWrite_keeps
      ..) (by decide) k0)) (fun _ => Keeps.step (State.endAccess_keeps ..) (by decide) (Keeps.step (State.violate_keeps ..) (by decide) (Keeps.step
      (fresh_keeps ..) (by decide) (Keeps.refl _ _))))))

theorem ringSleep_keeps (p : Nat) (s : State) : Keeps 1644422545 s (ringSleep p s) := by
  unfold ringSleep
  extract_lets a0_0 a0_1
  have h_a0_1 : Keeps 1644422545 s a0_1 := (Keeps.step (State.setWake_keeps ..) (by decide) (Keeps.refl _ _))
  exact (Keeps.step (State.netSleep_keeps ..) (by decide) (Keeps.step (State.canDropCopies_keeps ..) (by decide) h_a0_1))

theorem ringAgree_keeps (p : Nat) (s : State) : Keeps 1644422545 s (ringAgree p s) := by
  unfold ringAgree
  extract_lets a0_0 a0_1 a0_2
  have h_a0_1 : Keeps 1644422545 s a0_1 := (Keeps.step (State.setWake_keeps ..) (by decide) (Keeps.refl _ _))
  have h_a0_2 : Keeps 1644422545 s a0_2 := (Keeps.step (State.setNet_keeps ..) (by decide) h_a0_1)
  exact (Keeps.ite (Keeps.step (ringSleep_keeps ..) (by decide) h_a0_2) h_a0_2)

theorem nmNote_keeps (p : Nat) (m : NmMsg) (s : State) : Keeps 1073872897 s (nmNote p m s) := by
  unfold nmNote
  extract_lets a0_0 a0_1 a0_2
  have h_a0_0 : Keeps 1073872897 s a0_0 := (Keeps.step (State.wr_keeps ..) (by decide) (Keeps.step (State.count_keeps ..) (by decide) (Keeps.refl _
      _)))
  exact (Keeps.step (State.setWake_keeps ..) (by decide) h_a0_0)

theorem nmReceived_keeps (p : Nat) (m : NmMsg) (s : State) : Keeps 1644426641 s (nmReceived p m s) := by
  unfold nmReceived
  refine (Keeps.ite (Keeps.refl _ _) ?_)
  extract_lets a0_0 a0_1 a0_2 a0_3 a0_4 a0_5
  have h_a0_1 : Keeps 1644426641 s a0_1 := (Keeps.step (nmNote_keeps ..) (by decide) (Keeps.refl _ _))
  have h_a0_2 : Keeps 1644426641 s a0_2 := (Keeps.ite (Keeps.step (State.netFrame_keeps ..) (by decide) h_a0_1) (Keeps.ite (Keeps.step
      (State.sourceEvent_keeps ..) (by decide) h_a0_1) h_a0_1))
  have h_a0_3 : Keeps 1644426641 s a0_3 := (Keeps.ite h_a0_2 (Keeps.step (State.request_keeps ..) (by decide) h_a0_2))
  have h_a0_4 : Keeps 1644426641 s a0_4 := (Keeps.ite (Keeps.step (State.evalNet_keeps ..) (by decide) (Keeps.step (State.setNet_keeps ..) (by
      decide) h_a0_3)) h_a0_3)
  exact (Keeps.ite (Keeps.ite (Keeps.step (ringAgree_keeps ..) (by decide) h_a0_4) (Keeps.ite (Keeps.step (State.sendAlive_keeps ..) (by decide)
      h_a0_4) h_a0_4)) (Keeps.ite (Keeps.step (State.setWake_keeps ..) (by decide) h_a0_4) h_a0_4))

theorem nmTtyp_keeps (p : Nat) (s : State) : Keeps 1644422545 s (nmTtyp p s) := by
  unfold nmTtyp
  extract_lets a0_0 a0_1 a0_2 a0_3 a0_4 a0_5 a0_6
  have h_a0_5 : Keeps 1644422545 s a0_5 := (Keeps.step (State.setWake_keeps ..) (by decide) (Keeps.refl _ _))
  have h_a0_6 : Keeps 1644422545 s a0_6 := (Keeps.step (State.sendNm_keeps ..) (by decide) h_a0_5)
  exact (Keeps.ite (Keeps.refl _ _) (Keeps.ite (Keeps.step (ringAgree_keeps ..) (by decide) h_a0_6) h_a0_6))

theorem execNmTtypExpiry_keeps (p : Fin 16) (s : State) : KeepsR 1644422545 s (execNmTtypExpiry p s) := by
  unfold execNmTtypExpiry
  exact (KeepsR.next (Keeps.step (nmTtyp_keeps ..) (by decide) (Keeps.step (fresh_keeps ..) (by decide) (Keeps.refl _ _))))

theorem nmTmax_keeps (p : Nat) (s : State) : Keeps 1610768385 s (nmTmax p s) := by
  unfold nmTmax
  extract_lets a0_0 a0_1 a0_2
  have h_a0_2 : Keeps 1610768385 s a0_2 := (Keeps.step (State.setWake_keeps ..) (by decide) (Keeps.refl _ _))
  exact (Keeps.ite (Keeps.step (State.event_keeps ..) (by decide) (Keeps.step (State.count_keeps ..) (by decide) (Keeps.step (State.sticky_keeps ..)
      (by decide) (Keeps.step (State.setNet_keeps ..) (by decide) h_a0_2)))) (Keeps.refl _ _))

theorem execNmTmaxTimeout_keeps (p : Fin 16) (s : State) : KeepsR 1610768385 s (execNmTmaxTimeout p s) := by
  unfold execNmTmaxTimeout
  exact (KeepsR.next (Keeps.step (nmTmax_keeps ..) (by decide) (Keeps.step (fresh_keeps ..) (by decide) (Keeps.refl _ _))))

theorem nmTerr_keeps (p : Nat) (s : State) : Keeps 1610743809 s (nmTerr p s) := by
  unfold nmTerr
  refine (Keeps.ite ?_ (Keeps.refl _ _))
  extract_lets a0_0 a0_1 a0_2
  have h_a0_1 : Keeps 1610743809 s a0_1 := (Keeps.step (State.sendNm_keeps ..) (by decide) (Keeps.refl _ _))
  exact (Keeps.step (State.setWake_keeps ..) (by decide) h_a0_1)

theorem execNmTerrTimer_keeps (p : Fin 16) (s : State) : KeepsR 1610743809 s (execNmTerrTimer p s) := by
  unfold execNmTerrTimer
  exact (KeepsR.next (Keeps.step (nmTerr_keeps ..) (by decide) (Keeps.step (fresh_keeps ..) (by decide) (Keeps.refl _ _))))

theorem nmTwbs_keeps (p : Nat) (s : State) : Keeps 1644422545 s (nmTwbs p s) := by
  unfold nmTwbs
  extract_lets a0_0
  exact (Keeps.ite (Keeps.step (ringSleep_keeps ..) (by decide) (Keeps.refl _ _)) (Keeps.refl _ _))

theorem execNmTwbsExpiry_keeps (p : Fin 16) (s : State) : KeepsR 1644422545 s (execNmTwbsExpiry p s) := by
  unfold execNmTwbsExpiry
  exact (KeepsR.next (Keeps.step (nmTwbs_keeps ..) (by decide) (Keeps.step (fresh_keeps ..) (by decide) (Keeps.refl _ _))))

theorem linRestart_keeps (p : Nat) (s : State) : Keeps 196609 s (linRestart p s) := by
  unfold linRestart
  refine (Keeps.ite ?_ (Keeps.refl _ _))
  extract_lets a0_0 a0_1
  have h_a0_1 : Keeps 196609 s a0_1 := (Keeps.step (State.setWake_keeps ..) (by decide) (Keeps.refl _ _))
  exact (Keeps.ite (Keeps.step (State.linStart_keeps ..) (by decide) (Keeps.step (State.setLinState_keeps ..) (by decide) h_a0_1)) h_a0_1)

theorem execLinWakeRestart_keeps (p : Fin 12) (s : State) : KeepsR 537067521 s (execLinWakeRestart p s) := by
  unfold execLinWakeRestart
  exact (KeepsR.next (Keeps.step (linRestart_keeps ..) (by decide) (Keeps.step (fresh_keeps ..) (by decide) (Keeps.refl _ _))))

/-! ## Can -/

theorem State.canFollowEn_keeps (s : State) (p : Nat) : Keeps 1610646673 s (State.canFollowEn s p) := by
  unfold State.canFollowEn
  refine (Keeps.ite (Keeps.ite (Keeps.step (State.wr_keeps ..) (by decide) (Keeps.step (State.wr_keeps ..) (by decide) (Keeps.step
      (State.setCanState_keeps ..) (by decide) (Keeps.refl _ _)))) (Keeps.refl _ _)) ?_)
  refine (Keeps.ite (Keeps.refl _ _) ?_)
  extract_lets a0_0 a0_1
  have h_a0_0 : Keeps 1610646673 s a0_0 := (Keeps.step (State.canDropAll_keeps ..) (by decide) (Keeps.step (State.setCanState_keeps ..) (by decide)
      (Keeps.refl _ _)))
  exact (Keeps.step (State.setCan_keeps ..) (by decide) h_a0_0)

theorem canCfgWrite_keeps (p : Nat) (v : Nat) (s : State) : Keeps 1610646673 s (canCfgWrite p v s) := by
  unfold canCfgWrite
  exact (Keeps.step (State.canFollowEn_keeps ..) (by decide) (Keeps.step (State.wrWide_keeps ..) (by decide) (Keeps.refl _ _)))

theorem canCfgCmd_keeps (init : Nat) (p : Nat) (v : Nat) (s : State) : Keeps 1610646673 s (canCfgCmd init p v s) := by
  unfold canCfgCmd
  exact (Keeps.cmdWrite (by decide) (Keeps.refl _ _) (fun t0 k0 => (Keeps.step (canCfgWrite_keeps ..) (by decide) k0)) (fun _ => Keeps.step
      (State.endAccess_keeps ..) (by decide) (Keeps.step (State.violate_keeps ..) (by decide) (Keeps.refl _ _))))

theorem execCanEnable_keeps (init : Initiator) (p : Fin 16) (low : Fin 128) (s : State) : KeepsR 1610646673 s (execCanEnable init p low s) := by
  unfold execCanEnable
  exact (KeepsR.next (Keeps.step (canCfgCmd_keeps ..) (by decide) (Keeps.step (fresh_keeps ..) (by decide) (Keeps.refl _ _))))

theorem execCanDisable_keeps (init : Initiator) (p : Fin 16) (low : Fin 128) (s : State) : KeepsR 1610646673 s (execCanDisable init p low s) := by
  unfold execCanDisable
  exact (KeepsR.next (Keeps.step (canCfgCmd_keeps ..) (by decide) (Keeps.step (fresh_keeps ..) (by decide) (Keeps.refl _ _))))

theorem State.canOnline_keeps (s : State) (p : Nat) : Keeps 1610743809 s (State.canOnline s p) := by
  unfold State.canOnline
  exact (Keeps.ite (Keeps.step (State.sendAlive_keeps ..) (by decide) (Keeps.refl _ _)) (Keeps.refl _ _))

theorem canIntegrated_keeps (p : Nat) (s : State) : Keeps 1610777745 s (canIntegrated p s) := by
  unfold canIntegrated
  exact (Keeps.ite (Keeps.refl _ _) (Keeps.ite (Keeps.step (State.event_keeps ..) (by decide) (Keeps.step (State.setCanState_keeps ..) (by decide)
      (Keeps.refl _ _))) (Keeps.step (State.canOnline_keeps ..) (by decide) (Keeps.step (State.canConfine_keeps ..) (by decide) (Keeps.step
      (State.event_keeps ..) (by decide) (Keeps.step (State.setCanState_keeps ..) (by decide) (Keeps.refl _ _)))))))

theorem execCanIntegrateDone_keeps (p : Fin 16) (s : State) : KeepsR 1610777745 s (execCanIntegrateDone p s) := by
  unfold execCanIntegrateDone
  exact (KeepsR.next (Keeps.step (canIntegrated_keeps ..) (by decide) (Keeps.step (fresh_keeps ..) (by decide) (Keeps.refl _ _))))

theorem ringReceived_keeps (p : Nat) (m : NmMsg) (s : State) : Keeps 1644426641 s (ringReceived p m s) := by
  unfold ringReceived
  exact (Keeps.ite (Keeps.refl _ _) (Keeps.step (nmReceived_keeps ..) (by decide) (Keeps.step (State.canReceivedOk_keeps ..) (by decide) (Keeps.refl
      _ _))))

theorem execNmMessageReceived_keeps (p : Fin 16) (m : NmMsg) (s : State) : KeepsR 1644426641 s (execNmMessageReceived p m s) := by
  unfold execNmMessageReceived
  exact (KeepsR.next (Keeps.step (ringReceived_keeps ..) (by decide) (Keeps.step (fresh_keeps ..) (by decide) (Keeps.refl _ _))))

theorem canReceived_keeps (p : Nat) (f : CanRx) (s : State) : Keeps 1644426641 s (canReceived p f s) := by
  unfold canReceived
  refine (Keeps.ite (Keeps.refl _ _) ?_)
  split
  · exact (Keeps.step (ringReceived_keeps ..) (by decide) (Keeps.refl _ _))
  · extract_lets a2_0 a2_1 a2_2 a2_3 a2_4
    have h_a2_0 : Keeps 1644426641 s a2_0 := (Keeps.step (State.canReceivedOk_keeps ..) (by decide) (Keeps.step (State.netFrame_keeps ..) (by
        decide) (Keeps.refl _ _)))
    have h_a2_1 : Keeps 1644426641 s a2_1 := (Keeps.step (State.count_keeps ..) (by decide) h_a2_0)
    have h_a2_4 : Keeps 1644426641 s a2_4 := (Keeps.step (State.arrive_keeps ..) (by decide) h_a2_1)
    exact (Keeps.ite h_a2_4 (Keeps.step (State.canStore_keeps ..) (by decide) h_a2_4))

theorem execCanFrameReceived_keeps (p : Fin 16) (f : CanRx) (s : State) : KeepsR 1644426641 s (execCanFrameReceived p f s) := by
  unfold execCanFrameReceived
  exact (KeepsR.next (Keeps.step (canReceived_keeps ..) (by decide) (Keeps.step (fresh_keeps ..) (by decide) (Keeps.refl _ _))))

theorem canPxe_keeps (p : Nat) (b : PxBit) (s : State) : Keeps 1610646673 s (canPxe p b s) := by
  unfold canPxe
  extract_lets a0_0 a0_1 a0_2 a0_3
  have h_a0_2 : Keeps 1610646673 s a0_2 := (Keeps.step (State.count_keeps ..) (by decide) (Keeps.step (State.sticky_keeps ..) (by decide)
      (Keeps.refl _ _)))
  have h_a0_3 : Keeps 1610646673 s a0_3 := (Keeps.step (State.count_keeps ..) (by decide) (Keeps.refl _ _))
  clear_value a0_0 a0_1 a0_2 a0_3
  refine (Keeps.ite (Keeps.refl _ _) ?_)
  refine (Keeps.ite ?_ (Keeps.ite h_a0_3 (Keeps.step (State.canConfine_keeps ..) (by decide) h_a0_3)))
  refine (Keeps.ite h_a0_2 ?_)
  refine (Keeps.step (State.setCanState_keeps ..) (by decide) ?_)
  split
  · exact (Keeps.step (State.canTryFailed_keeps ..) (by decide) h_a0_2)
  · exact h_a0_2

theorem execCanProtocolException_keeps (p : Fin 16) (b : PxBit) (s : State) : KeepsR 1610646673 s (execCanProtocolException p b s) := by
  unfold execCanProtocolException
  exact (KeepsR.next (Keeps.step (canPxe_keeps ..) (by decide) (Keeps.step (fresh_keeps ..) (by decide) (Keeps.refl _ _))))

theorem State.canTxError_keeps (s : State) (p : Nat) (x : CanCand) (inc : Nat) : Keeps 1610646673 s (State.canTxError s p x inc) := by
  unfold State.canTxError
  exact (Keeps.step (State.canConfine_keeps ..) (by decide) (Keeps.step (State.canTryFailed_keeps ..) (by decide) (Keeps.step (State.count_keeps ..)
      (by decide) (Keeps.refl _ _))))

theorem canArbitrate_keeps (p : Nat) (won : Bool) (s : State) : Keeps 1610646673 s (canArbitrate p won s) := by
  unfold canArbitrate
  refine (Keeps.ite (Keeps.refl _ _) ?_)
  extract_lets a0_0
  have h_a0_0 : KeepsP 1610646673 s a0_0 := (KeepsP.step (State.canOffer_keeps ..) (by decide) (Keeps.refl _ _))
  clear_value a0_0
  split
  · exact h_a0_0
  · refine (Keeps.ite (Keeps.step (State.canTxError_keeps ..) (by decide) h_a0_0) ?_)
    refine (Keeps.ite ?_ (Keeps.step (State.canTryFailed_keeps ..) (by decide) (Keeps.step (State.count_keeps ..) (by decide) h_a0_0)))
    extract_lets a3_0 a3_1 a3_2
    have h_a3_0 : Keeps 1610646673 s a3_0 := (Keeps.step (State.setCanSending_keeps ..) (by decide) h_a0_0)
    exact (Keeps.ite (Keeps.step (State.setCan_keeps ..) (by decide) h_a3_0) h_a3_0)

theorem execCanArbitration_keeps (p : Fin 16) (won : Bool) (s : State) : KeepsR 1610646673 s (execCanArbitration p won s) := by
  unfold execCanArbitration
  exact (KeepsR.next (Keeps.step (canArbitrate_keeps ..) (by decide) (Keeps.step (fresh_keeps ..) (by decide) (Keeps.refl _ _))))

theorem canSent_keeps (p : Nat) (s : State) : Keeps 1610646673 s (canSent p s) := by
  unfold canSent
  split
  · exact (Keeps.refl _ _)
  · refine (Keeps.ite (Keeps.step (State.canTxError_keeps ..) (by decide) (Keeps.refl _ _)) ?_)
    extract_lets a2_0 a2_1 a2_2 a2_3
    have h_a2_0 : Keeps 1610646673 s a2_0 := by
      unfold a2_0
      split
      · exact (Keeps.step (State.emit_keeps ..) (by decide) (Keeps.refl _ _))
      · exact (Keeps.refl _ _)
    have h_a2_2 : Keeps 1610646673 s a2_2 := (Keeps.step (State.setCan_keeps ..) (by decide) h_a2_0)
    have h_a2_3 : Keeps 1610646673 s a2_3 := (Keeps.step (State.canSentOk_keeps ..) (by decide) (Keeps.step (State.count_keeps ..) (by decide)
        h_a2_2))
    clear_value a2_0 a2_1 a2_2 a2_3
    split
    · split
      · exact (Keeps.step (State.endCopy_keeps ..) (by decide) (Keeps.step (State.setTxq_keeps ..) (by decide) h_a2_3))
      · exact h_a2_3
    · exact (Keeps.step (State.objEnd_keeps ..) (by decide) h_a2_3)

theorem execCanFrameSent_keeps (p : Fin 16) (s : State) : KeepsR 1610646673 s (execCanFrameSent p s) := by
  unfold execCanFrameSent
  exact (KeepsR.next (Keeps.step (canSent_keeps ..) (by decide) (Keeps.step (fresh_keeps ..) (by decide) (Keeps.refl _ _))))

theorem canError_keeps (p : Nat) (transmitting : Bool) (inc : CanInc) (s : State) : Keeps 1610646673 s (canError p transmitting inc s) := by
  unfold canError
  extract_lets a0_0 a0_1
  have h_a0_1 : Keeps 1610646673 s a0_1 := (Keeps.step (State.count_keeps ..) (by decide) (Keeps.refl _ _))
  clear_value a0_0 a0_1
  refine (Keeps.ite ?_ (Keeps.ite (Keeps.refl _ _) (Keeps.ite h_a0_1 (Keeps.step (State.canConfine_keeps ..) (by decide) h_a0_1))))
  split
  · exact (Keeps.refl _ _)
  · exact (Keeps.step (State.canTxError_keeps ..) (by decide) (Keeps.refl _ _))

theorem execCanBusError_keeps (p : Fin 16) (transmitting : Bool) (inc : CanInc) (s : State) : KeepsR 1610646673 s (execCanBusError p transmitting
    inc s) := by
  unfold execCanBusError
  exact (KeepsR.next (Keeps.step (canError_keeps ..) (by decide) (Keeps.step (fresh_keeps ..) (by decide) (Keeps.refl _ _))))

theorem boDelayEnd_keeps (p : Nat) (s : State) : Keeps 1 s (boDelayEnd p s) := by
  unfold boDelayEnd
  exact (Keeps.ite (Keeps.step (State.canToRecover_keeps ..) (by decide) (Keeps.refl _ _)) (Keeps.refl _ _))

theorem execCanBusoffDelay_keeps (p : Fin 16) (s : State) : KeepsR 536870913 s (execCanBusoffDelay p s) := by
  unfold execCanBusoffDelay
  exact (KeepsR.next (Keeps.step (boDelayEnd_keeps ..) (by decide) (Keeps.step (fresh_keeps ..) (by decide) (Keeps.refl _ _))))

theorem execCanRecoverCmd_keeps (init : Initiator) (p : Fin 16) (s : State) : KeepsR 1610613761 s (execCanRecoverCmd init p s) := by
  unfold execCanRecoverCmd
  exact (KeepsR.next (Keeps.cmdField (by decide) (Keeps.step (fresh_keeps ..) (by decide) (Keeps.refl _ _)) (fun t0 k0 => (Keeps.step
      (State.canToRecover_keeps ..) (by decide) k0)) (fun _ => Keeps.step (State.endAccess_keeps ..) (by decide) (Keeps.step (State.violate_keeps
      ..) (by decide) (Keeps.step (fresh_keeps ..) (by decide) (Keeps.refl _ _))))))

theorem canRecovered_keeps (p : Nat) (s : State) : Keeps 1610743809 s (canRecovered p s) := by
  unfold canRecovered
  refine (Keeps.ite (Keeps.refl _ _) ?_)
  extract_lets a0_0
  have h_a0_0 : Keeps 1610743809 s a0_0 := (Keeps.step (State.wr_keeps ..) (by decide) (Keeps.step (State.wr_keeps ..) (by decide) (Keeps.step
      (State.setCanState_keeps ..) (by decide) (Keeps.refl _ _))))
  exact (Keeps.step (State.canOnline_keeps ..) (by decide) (Keeps.step (State.event_keeps ..) (by decide) h_a0_0))

theorem execCanBusoffRecovered_keeps (p : Fin 16) (s : State) : KeepsR 1610743809 s (execCanBusoffRecovered p s) := by
  unfold execCanBusoffRecovered
  exact (KeepsR.next (Keeps.step (canRecovered_keeps ..) (by decide) (Keeps.step (fresh_keeps ..) (by decide) (Keeps.refl _ _))))

theorem objTake_keeps (p : Nat) (s : State) : Keeps 1073774737 s (objTake p s) := by
  unfold objTake
  extract_lets a0_0
  exact (Keeps.step (State.setObj_keeps ..) (by decide) (Keeps.step (State.setObj_keeps ..) (by decide) (Keeps.step (State.objToView_keeps ..) (by
      decide) (Keeps.refl _ _))))

theorem execCanObjTake_keeps (init : Initiator) (p : Fin 16) (s : State) : KeepsR 1610646673 s (execCanObjTake init p s) := by
  unfold execCanObjTake
  exact (KeepsR.next (Keeps.cmdField (by decide) (Keeps.step (fresh_keeps ..) (by decide) (Keeps.refl _ _)) (fun t0 k0 => (Keeps.step (objTake_keeps
      ..) (by decide) k0)) (fun _ => Keeps.step (State.endAccess_keeps ..) (by decide) (Keeps.step (State.violate_keeps ..) (by decide) (Keeps.step
      (fresh_keeps ..) (by decide) (Keeps.refl _ _))))))

theorem execCanObjStore_keeps (init : Initiator) (p : Fin 16) (s : State) : KeepsR 1610646673 s (execCanObjStore init p s) := by
  unfold execCanObjStore
  exact (KeepsR.next (Keeps.cmdField (by decide) (Keeps.step (fresh_keeps ..) (by decide) (Keeps.refl _ _)) (fun t0 k0 => (Keeps.step
      (State.viewToObj_keeps ..) (by decide) k0)) (fun _ => Keeps.step (State.endAccess_keeps ..) (by decide) (Keeps.step (State.violate_keeps ..)
      (by decide) (Keeps.step (fresh_keeps ..) (by decide) (Keeps.refl _ _))))))

theorem State.objSendOf_keeps (s : State) (p : Nat) (k : Nat) : Keeps 1610646657 s (State.objSendOf s p k) := by
  unfold State.objSendOf
  refine (Keeps.ite (Keeps.refl _ _) ?_)
  extract_lets a0_0 a0_1 a0_2 a0_3 a0_4
  have h_a0_0 : Keeps 1610646657 s a0_0 := (Keeps.step (State.setObj_keeps ..) (by decide) (Keeps.refl _ _))
  have h_a0_3 : Keeps 1610646657 s a0_3 := (Keeps.step (State.setFab_keeps ..) (by decide) h_a0_0)
  exact (Keeps.ite (Keeps.step (State.objEnd_keeps ..) (by decide) h_a0_0) (Keeps.step (State.setCan_keeps ..) (by decide) h_a0_3))

theorem objSend_keeps (p : Nat) (s : State) : Keeps 1610646657 s (objSend p s) := by
  unfold objSend
  exact (Keeps.step (State.objSendOf_keeps ..) (by decide) (Keeps.refl _ _))

theorem execCanObjSend_keeps (init : Initiator) (p : Fin 16) (s : State) : KeepsR 1610646657 s (execCanObjSend init p s) := by
  unfold execCanObjSend
  exact (KeepsR.next (Keeps.cmdField (by decide) (Keeps.step (fresh_keeps ..) (by decide) (Keeps.refl _ _)) (fun t0 k0 => (Keeps.step (objSend_keeps
      ..) (by decide) k0)) (fun _ => Keeps.step (State.endAccess_keeps ..) (by decide) (Keeps.step (State.violate_keeps ..) (by decide) (Keeps.step
      (fresh_keeps ..) (by decide) (Keeps.refl _ _))))))

theorem objAbort_keeps (p : Nat) (s : State) : Keeps 1610646529 s (objAbort p s) := by
  unfold objAbort
  extract_lets a0_0 a0_1
  exact (Keeps.ite (Keeps.refl _ _) (Keeps.ite (Keeps.step (State.setCan_keeps ..) (by decide) (Keeps.refl _ _)) (Keeps.step (State.objEnd_keeps ..)
      (by decide) (Keeps.refl _ _))))

theorem execCanObjAbort_keeps (init : Initiator) (p : Fin 16) (s : State) : KeepsR 1610646529 s (execCanObjAbort init p s) := by
  unfold execCanObjAbort
  exact (KeepsR.next (Keeps.cmdField (by decide) (Keeps.step (fresh_keeps ..) (by decide) (Keeps.refl _ _)) (fun t0 k0 => (Keeps.step
      (objAbort_keeps ..) (by decide) k0)) (fun _ => Keeps.step (State.endAccess_keeps ..) (by decide) (Keeps.step (State.violate_keeps ..) (by
      decide) (Keeps.step (fresh_keeps ..) (by decide) (Keeps.refl _ _))))))

theorem fifoPop_keeps (init : Nat) (p : Nat) (n : Nat) (spec : Bool) (s : State) : KeepsP 1610645649 s (fifoPop init p n spec s) := by
  unfold fifoPop
  split
  · exact (KeepsP.mk (Keeps.refl _ _))
  · refine (KeepsP.ite (KeepsP.mk (Keeps.step (State.specHit_keeps ..) (by decide) (Keeps.refl _ _))) ?_)
    extract_lets a2_0
    have h_a2_0 : Keeps 1610645649 s a2_0 := (Keeps.step (State.setObj_keeps ..) (by decide) (Keeps.step (State.setObj_keeps ..) (by decide)
        (Keeps.step (State.objToView_keeps ..) (by decide) (Keeps.refl _ _))))
    exact (KeepsP.mk (Keeps.step (State.setFifoList_keeps ..) (by decide) (Keeps.step (State.wr_keeps ..) (by decide) h_a2_0)))

theorem execCanFifoPop_keeps (init : Initiator) (p : Fin 16) (n : Fin 2) (spec : Bool) (s : State) : KeepsR 1610646673 s (execCanFifoPop init p n
    spec s) := by
  unfold execCanFifoPop
  exact (KeepsR.next (Keeps.cmdRead (by decide) (by decide) (Keeps.step (fresh_keeps ..) (by decide) (Keeps.refl _ _)) (fun t0 k0 => (KeepsP.step
      (fifoPop_keeps ..) (by decide) k0))))

theorem fifoWrite_keeps (p : Nat) (n : Nat) (v : Nat) (s : State) : Keeps 1073774737 s (fifoWrite p n v s) := by
  unfold fifoWrite
  exact (Keeps.ite (Keeps.refl _ _) (Keeps.step (State.fifoConfigure_keeps ..) (by decide) (Keeps.refl _ _)))

theorem execCanFifoConfig_keeps (init : Initiator) (p : Fin 16) (n : Fin 2) (v : BitVec 96) (s : State) : KeepsR 1610646673 s (execCanFifoConfig
    init p n v s) := by
  unfold execCanFifoConfig
  exact (KeepsR.next (Keeps.cmdWrite (by decide) (Keeps.step (fresh_keeps ..) (by decide) (Keeps.refl _ _)) (fun t0 k0 => (Keeps.step
      (fifoWrite_keeps ..) (by decide) k0)) (fun _ => Keeps.step (State.endAccess_keeps ..) (by decide) (Keeps.step (State.violate_keeps ..) (by
      decide) (Keeps.step (fresh_keeps ..) (by decide) (Keeps.refl _ _))))))

theorem cantFault_keeps (p : Nat) (f : TrxFault) (st : Field) (s : State) : Keeps 1610645505 s (cantFault p f st s) := by
  unfold cantFault
  refine (Keeps.ite (Keeps.refl _ _) ?_)
  extract_lets a0_0 a0_1 a0_2
  have h_a0_2 : Keeps 1610645505 s a0_2 := (Keeps.step (State.setCan_keeps ..) (by decide) (Keeps.step (State.sticky_keeps ..) (by decide)
      (Keeps.refl _ _)))
  exact (Keeps.ite (Keeps.step (State.event_keeps ..) (by decide) h_a0_2) h_a0_2)

theorem execCantTxdDomTimeout_keeps (p : Fin 16) (s : State) : KeepsR 1610645505 s (execCantTxdDomTimeout p s) := by
  unfold execCantTxdDomTimeout
  exact (KeepsR.next (Keeps.step (cantFault_keeps ..) (by decide) (Keeps.step (fresh_keeps ..) (by decide) (Keeps.refl _ _))))

theorem cantBusDom_keeps (p : Nat) (s : State) : Keeps 1610612737 s (cantBusDom p s) := by
  unfold cantBusDom
  exact (Keeps.ite (Keeps.step (State.sticky_keeps ..) (by decide) (Keeps.refl _ _)) (Keeps.refl _ _))

theorem execCantBusDomTimeout_keeps (p : Fin 16) (s : State) : KeepsR 1610612737 s (execCantBusDomTimeout p s) := by
  unfold execCantBusDomTimeout
  exact (KeepsR.next (Keeps.step (cantBusDom_keeps ..) (by decide) (Keeps.step (fresh_keeps ..) (by decide) (Keeps.refl _ _))))

theorem execCantOvertemp_keeps (p : Fin 16) (s : State) : KeepsR 1610645505 s (execCantOvertemp p s) := by
  unfold execCantOvertemp
  exact (KeepsR.next (Keeps.step (cantFault_keeps ..) (by decide) (Keeps.step (fresh_keeps ..) (by decide) (Keeps.refl _ _))))

theorem execCantUndervoltage_keeps (p : Fin 16) (s : State) : KeepsR 1610645505 s (execCantUndervoltage p s) := by
  unfold execCantUndervoltage
  exact (KeepsR.next (Keeps.step (cantFault_keeps ..) (by decide) (Keeps.step (fresh_keeps ..) (by decide) (Keeps.refl _ _))))

theorem cantClear_keeps (p : Nat) (f : TrxFault) (s : State) : Keeps 32768 s (cantClear p f s) := by
  unfold cantClear
  exact (Keeps.step (State.setCan_keeps ..) (by decide) (Keeps.refl _ _))

theorem execCantFaultClear_keeps (p : Fin 16) (f : TrxFault) (s : State) : KeepsR 536903680 s (execCantFaultClear p f s) := by
  unfold execCantFaultClear
  exact (KeepsR.next (Keeps.step (cantClear_keeps ..) (by decide) (Keeps.step (fresh_keeps ..) (by decide) (Keeps.refl _ _))))

end Sys2Proof.Machine
end

