-- ==== Sys2Proof/Laws/Keeps4.lean ====
section
/-! SUPPORT. What each operation of these files can change: Channels, Commit, Inputs, Reset, TrustMsg, Supply, Power. The number is the mask of parts (Part.code). -/

namespace Sys2Proof.Machine

/-! ## Channels -/

theorem execChCommand_keeps (init : Initiator) (n : Fin 72) (on : Bool) (s : State) : KeepsR 1610630145 s (execChCommand init n on s) := by
  unfold execChCommand
  exact (KeepsR.next (Keeps.cmdWrite (by decide) (Keeps.step (fresh_keeps ..) (by decide) (Keeps.refl _ _)) (fun t0 k0 => (Keeps.step
      (State.chCommand_keeps ..) (by decide) k0)) (fun _ => Keeps.step (State.endAccess_keeps ..) (by decide) (Keeps.step (State.violate_keeps ..)
      (by decide) (Keeps.step (fresh_keeps ..) (by decide) (Keeps.refl _ _))))))

theorem periodStart_keeps (n : Nat) (s : State) : Keeps 536887297 s (periodStart n s) := by
  unfold periodStart
  refine (Keeps.ite (Keeps.refl _ _) ?_)
  extract_lets a0_0
  have h_a0_0 : Keeps 536887297 s a0_0 := (Keeps.step (State.mapChan_keeps ..) (by decide) (Keeps.refl _ _))
  exact (Keeps.step (State.chEval_keeps ..) (by decide) (Keeps.step (State.chOutput_keeps ..) (by decide) (Keeps.when h_a0_0 (fun t1 k1 =>
      (Keeps.step (State.wr_keeps ..) (by decide) k1)))))

theorem execChPeriodStart_keeps (n : Fin 72) (s : State) : KeepsR 536887297 s (execChPeriodStart n s) := by
  unfold execChPeriodStart
  exact (KeepsR.next (Keeps.step (periodStart_keeps ..) (by decide) (Keeps.step (fresh_keeps ..) (by decide) (Keeps.refl _ _))))

theorem currentSample_keeps (n : Nat) (code : Nat) (s : State) : Keeps 1610629121 s (currentSample n code s) := by
  unfold currentSample
  refine (Keeps.ite (Keeps.refl _ _) ?_)
  extract_lets a0_0 a0_1 a0_2 a0_3 a0_4 a0_5 a0_6
  have h_a0_1 : Keeps 1610629121 s a0_1 := (Keeps.step (State.wr_keeps ..) (by decide) (Keeps.refl _ _))
  have h_a0_3 : Keeps 1610629121 s a0_3 := (Keeps.ite (Keeps.step (State.setBody_keeps ..) (by decide) h_a0_1) h_a0_1)
  have h_a0_5 : Keeps 1610629121 s a0_5 := (Keeps.step (State.mapChan_keeps ..) (by decide) h_a0_3)
  have h_a0_6 : Keeps 1610629121 s a0_6 := (Keeps.step (State.mapChan_keeps ..) (by decide) h_a0_3)
  exact (Keeps.ite h_a0_3 (Keeps.ite (Keeps.ite (Keeps.step (State.chResult_keeps ..) (by decide) h_a0_5) h_a0_5) (Keeps.ite (Keeps.step
      (State.chResult_keeps ..) (by decide) h_a0_6) h_a0_6)))

theorem execChCurrentSample_keeps (n : Fin 72) (code : Fin 65536) (s : State) : KeepsR 1611153409 s (execChCurrentSample n code s) := by
  unfold execChCurrentSample
  exact (KeepsR.next (Keeps.step (State.unitReports_keeps ..) (by decide) (Keeps.step (currentSample_keeps ..) (by decide) (Keeps.step (fresh_keeps
      ..) (by decide) (Keeps.refl _ _)))))

theorem execChShortCircuit_keeps (n : Fin 72) (s : State) : KeepsR 1610629121 s (execChShortCircuit n s) := by
  unfold execChShortCircuit
  exact (KeepsR.next (Keeps.step (State.meHalfFault_keeps ..) (by decide) (Keeps.step (State.chFault_keeps ..) (by decide) (Keeps.step (fresh_keeps
      ..) (by decide) (Keeps.refl _ _)))))

theorem overcurrent_keeps (n : Nat) (ma : Nat) (s : State) : Keeps 1610629121 s (overcurrent n ma s) := by
  unfold overcurrent
  exact (Keeps.ite (Keeps.refl _ _) (Keeps.step (State.meHalfFault_keeps ..) (by decide) (Keeps.step (State.chFault_keeps ..) (by decide)
      (Keeps.refl _ _))))

theorem execChOvercurrent_keeps (n : Fin 72) (ma : Fin 65536) (s : State) : KeepsR 1610629121 s (execChOvercurrent n ma s) := by
  unfold execChOvercurrent
  exact (KeepsR.next (Keeps.step (overcurrent_keeps ..) (by decide) (Keeps.step (fresh_keeps ..) (by decide) (Keeps.refl _ _))))

theorem execChThermalTrip_keeps (n : Fin 72) (s : State) : KeepsR 1610629121 s (execChThermalTrip n s) := by
  unfold execChThermalTrip
  exact (KeepsR.next (Keeps.step (State.meHalfFault_keeps ..) (by decide) (Keeps.step (State.chTrip_keeps ..) (by decide) (Keeps.step (fresh_keeps
      ..) (by decide) (Keeps.refl _ _)))))

theorem execChThermalLatchClear_keeps (n : Fin 72) (s : State) : KeepsR 1610629121 s (execChThermalLatchClear n s) := by
  unfold execChThermalLatchClear
  exact (KeepsR.next (Keeps.step (State.chCooled_keeps ..) (by decide) (Keeps.step (fresh_keeps ..) (by decide) (Keeps.refl _ _))))

theorem execChRetryDelayElapsed_keeps (n : Fin 72) (s : State) : KeepsR 1610629121 s (execChRetryDelayElapsed n s) := by
  unfold execChRetryDelayElapsed
  exact (KeepsR.next (Keeps.step (State.chDelayEnd_keeps ..) (by decide) (Keeps.step (fresh_keeps ..) (by decide) (Keeps.refl _ _))))

theorem faultFreeSecond_keeps (n : Nat) (s : State) : Keeps 1 s (faultFreeSecond n s) := by
  unfold faultFreeSecond
  exact (Keeps.ite (Keeps.step (State.wr_keeps ..) (by decide) (Keeps.refl _ _)) (Keeps.refl _ _))

theorem execChFaultFreeSecond_keeps (n : Fin 72) (s : State) : KeepsR 536870913 s (execChFaultFreeSecond n s) := by
  unfold execChFaultFreeSecond
  exact (KeepsR.next (Keeps.step (faultFreeSecond_keeps ..) (by decide) (Keeps.step (fresh_keeps ..) (by decide) (Keeps.refl _ _))))

theorem chClear_keeps (n : Nat) (s : State) : Keeps 1 s (chClear n s) := by
  unfold chClear
  exact (Keeps.ite (Keeps.step (State.wr_keeps ..) (by decide) (Keeps.step (State.wr_keeps ..) (by decide) (Keeps.refl _ _))) (Keeps.refl _ _))

theorem execChClear_keeps (init : Initiator) (n : Fin 72) (s : State) : KeepsR 1610613761 s (execChClear init n s) := by
  unfold execChClear
  exact (KeepsR.next (Keeps.cmdField (by decide) (Keeps.step (fresh_keeps ..) (by decide) (Keeps.refl _ _)) (fun t0 k0 => (Keeps.step (chClear_keeps
      ..) (by decide) k0)) (fun _ => Keeps.step (State.endAccess_keeps ..) (by decide) (Keeps.step (State.violate_keeps ..) (by decide) (Keeps.step
      (fresh_keeps ..) (by decide) (Keeps.refl _ _))))))

theorem offTest_keeps (n : Nat) (s : State) : Keeps 16384 s (offTest n s) := by
  unfold offTest
  exact (Keeps.ite (Keeps.step (State.mapChan_keeps ..) (by decide) (Keeps.refl _ _)) (Keeps.refl _ _))

theorem execChDiagCmd_keeps (init : Initiator) (n : Fin 72) (s : State) : KeepsR 1610630145 s (execChDiagCmd init n s) := by
  unfold execChDiagCmd
  exact (KeepsR.next (Keeps.cmdField (by decide) (Keeps.step (fresh_keeps ..) (by decide) (Keeps.refl _ _)) (fun t0 k0 => (Keeps.ite (Keeps.step
      (offTest_keeps ..) (by decide) (Keeps.step (State.wr_keeps ..) (by decide) k0)) k0)) (fun _ => Keeps.step (State.endAccess_keeps ..) (by
      decide) (Keeps.step (State.violate_keeps ..) (by decide) (Keeps.step (fresh_keeps ..) (by decide) (Keeps.refl _ _))))))

theorem execChOffStateTest_keeps (n : Fin 72) (s : State) : KeepsR 536887296 s (execChOffStateTest n s) := by
  unfold execChOffStateTest
  exact (KeepsR.next (Keeps.step (offTest_keeps ..) (by decide) (Keeps.step (fresh_keeps ..) (by decide) (Keeps.refl _ _))))

theorem offTestDone_keeps (n : Nat) (v1 : Nat) (v2 : Nat) (s : State) : Keeps 1610629121 s (offTestDone n v1 v2 s) := by
  unfold offTestDone
  refine (Keeps.ite ?_ (Keeps.refl _ _))
  extract_lets a0_0 a0_1
  have h_a0_0 : Keeps 1610629121 s a0_0 := (Keeps.step (State.testEnd_keeps ..) (by decide) (Keeps.refl _ _))
  exact (Keeps.ite h_a0_0 (Keeps.ite (Keeps.step (State.chResult_keeps ..) (by decide) (Keeps.step (State.chResult_keeps ..) (by decide) h_a0_0))
      (Keeps.step (State.chResult_keeps ..) (by decide) h_a0_0)))

theorem execChOffTestComplete_keeps (n : Fin 72) (v1 : Fin 65536) (v2 : Fin 65536) (s : State) : KeepsR 1610629121 s (execChOffTestComplete n v1 v2
    s) := by
  unfold execChOffTestComplete
  exact (KeepsR.next (Keeps.step (offTestDone_keeps ..) (by decide) (Keeps.step (fresh_keeps ..) (by decide) (Keeps.refl _ _))))

theorem execHbModeChange_keeps (init : Initiator) (k : Fin 6) (mode : Fin 8) (s : State) : KeepsR 1610630145 s (execHbModeChange init k mode s) := by
  unfold execHbModeChange
  exact (KeepsR.next (Keeps.cmdWrite (by decide) (Keeps.step (fresh_keeps ..) (by decide) (Keeps.refl _ _)) (fun t0 k0 => (Keeps.step
      (State.hbSetMode_keeps ..) (by decide) k0)) (fun _ => Keeps.step (State.endAccess_keeps ..) (by decide) (Keeps.step (State.violate_keeps ..)
      (by decide) (Keeps.step (fresh_keeps ..) (by decide) (Keeps.refl _ _))))))

theorem deadTimeEnd_keeps (k : Nat) (s : State) : Keeps 536887297 s (deadTimeEnd k s) := by
  unfold deadTimeEnd
  exact (Keeps.ite (Keeps.step (State.setSwitches_keeps ..) (by decide) (Keeps.refl _ _)) (Keeps.refl _ _))

theorem execHbDeadTimeEnd_keeps (k : Fin 6) (s : State) : KeepsR 536887297 s (execHbDeadTimeEnd k s) := by
  unfold execHbDeadTimeEnd
  exact (KeepsR.next (Keeps.step (deadTimeEnd_keeps ..) (by decide) (Keeps.step (fresh_keeps ..) (by decide) (Keeps.refl _ _))))

theorem thermDie_keeps (slug : Int) (s : State) (k : Nat) : Keeps 1610629121 s (thermDie slug s k) := by
  unfold thermDie
  extract_lets a0_0 a0_1 a0_2 a0_3 a0_4 a0_5 a0_6 a0_7 a0_8 a0_9 a0_10 a0_11 a0_12 a0_13 a0_14 a0_15
  have h_a0_11 : Keeps 1610629121 s a0_11 := (Keeps.step (State.setDie_keeps ..) (by decide) (Keeps.refl _ _))
  have h_a0_12 : Keeps 1610629121 s a0_12 := (Keeps.step (State.wr_keeps ..) (by decide) h_a0_11)
  have h_a0_13 : Keeps 1610629121 s a0_13 := (Keeps.step (State.wr_keeps ..) (by decide) h_a0_12)
  have h_a0_14 : Keeps 1610629121 s a0_14 := (Keeps.ite (Keeps.step (State.event_keeps ..) (by decide) (Keeps.step (State.sticky_keeps ..) (by
      decide) (Keeps.step (State.wr_keeps ..) (by decide) h_a0_13))) (Keeps.ite (Keeps.step (State.wr_keeps ..) (by decide) h_a0_13) h_a0_13))
  exact (Keeps.ite (Keeps.step (State.event_keeps ..) (by decide) (Keeps.step (State.sticky_keeps ..) (by decide) (Keeps.step (State.wr_keeps ..)
      (by decide) h_a0_14))) (Keeps.step (State.wr_keeps ..) (by decide) h_a0_14))

theorem thermUpdate_keeps (slug : BitVec 16) (s : State) : Keeps 1610629121 s (thermUpdate slug s) := by
  unfold thermUpdate
  extract_lets a0_0 a0_1
  have h_a0_0 : Keeps 1610629121 s a0_0 := (Keeps.step (State.wr_keeps ..) (by decide) (Keeps.refl _ _))
  have h_a0_1 : Keeps 1610629121 s a0_1 := (Keeps.each h_a0_0 (fun t1 y1 k1 => (Keeps.step (thermDie_keeps ..) (by decide) k1)))
  exact (Keeps.step (State.wr_keeps ..) (by decide) h_a0_1)

theorem execThermUpdate_keeps (slug : BitVec 16) (s : State) : KeepsR 1610629121 s (execThermUpdate slug s) := by
  unfold execThermUpdate
  exact (KeepsR.next (Keeps.step (thermUpdate_keeps ..) (by decide) (Keeps.step (fresh_keeps ..) (by decide) (Keeps.refl _ _))))

theorem State.setDer_keeps (s : State) (n : Nat) (v : Nat) : Keeps 1610612737 s (State.setDer s n v) := by
  unfold State.setDer
  exact (Keeps.step (State.chOutput_keeps ..) (by decide) (Keeps.step (State.event_keeps ..) (by decide) (Keeps.step (State.wr_keeps ..) (by decide)
      (Keeps.refl _ _))))

theorem derateStep_keeps (k : Nat) (s : State) : Keeps 1610612737 s (derateStep k s) := by
  unfold derateStep
  exact (Keeps.ite (Keeps.each (Keeps.refl _ _) (fun t0 y0 k0 => (Keeps.step (State.setDer_keeps ..) (by decide) k0))) (Keeps.refl _ _))

theorem execThermDerateStep_keeps (k : Fin 6) (s : State) : KeepsR 1610612737 s (execThermDerateStep k s) := by
  unfold execThermDerateStep
  exact (KeepsR.next (Keeps.step (derateStep_keeps ..) (by decide) (Keeps.step (fresh_keeps ..) (by decide) (Keeps.refl _ _))))

theorem restoreStep_keeps (k : Nat) (s : State) : Keeps 1610612737 s (restoreStep k s) := by
  unfold restoreStep
  extract_lets a0_0
  exact (Keeps.ite (Keeps.each (Keeps.refl _ _) (fun t1 y1 k1 => (Keeps.step (State.setDer_keeps ..) (by decide) k1))) (Keeps.refl _ _))

theorem execThermRestoreStep_keeps (k : Fin 6) (s : State) : KeepsR 1610612737 s (execThermRestoreStep k s) := by
  unfold execThermRestoreStep
  exact (KeepsR.next (Keeps.step (restoreStep_keeps ..) (by decide) (Keeps.step (fresh_keeps ..) (by decide) (Keeps.refl _ _))))

theorem resumeHold_keeps (s : State) : Keeps 1610629121 s (resumeHold s) := by
  unfold resumeHold
  extract_lets a0_0 a0_1
  have h_a0_0 : Keeps 1610629121 s a0_0 := (Keeps.step (State.allModes_keeps ..) (by decide) (Keeps.refl _ _))
  exact (Keeps.step (State.wr_keeps ..) (by decide) (Keeps.step (State.setBody_keeps ..) (by decide) h_a0_0))

theorem execChgResume_keeps (init : Initiator) (s : State) : KeepsR 1610630145 s (execChgResume init s) := by
  unfold execChgResume
  exact (KeepsR.next (Keeps.cmdField (by decide) (Keeps.step (fresh_keeps ..) (by decide) (Keeps.refl _ _)) (fun t0 k0 => (Keeps.step
      (resumeHold_keeps ..) (by decide) k0)) (fun _ => Keeps.step (State.endAccess_keeps ..) (by decide) (Keeps.step (State.violate_keeps ..) (by
      decide) (Keeps.step (fresh_keeps ..) (by decide) (Keeps.refl _ _))))))

theorem holdExpiry_keeps (s : State) : Keeps 1610629121 s (holdExpiry s) := by
  unfold holdExpiry
  refine (Keeps.ite ?_ (Keeps.refl _ _))
  extract_lets a0_0 a0_1 a0_2
  have h_a0_0 : Keeps 1610629121 s a0_0 := (Keeps.step (State.allModes_keeps ..) (by decide) (Keeps.refl _ _))
  have h_a0_2 : Keeps 1610629121 s a0_2 := (Keeps.step (State.wr_keeps ..) (by decide) (Keeps.step (State.setBody_keeps ..) (by decide) h_a0_0))
  exact (Keeps.step (State.event_keeps ..) (by decide) (Keeps.step (State.sticky_keeps ..) (by decide) h_a0_2))

theorem execHoldMaxExpiry_keeps (s : State) : KeepsR 1610629121 s (execHoldMaxExpiry s) := by
  unfold execHoldMaxExpiry
  exact (KeepsR.next (Keeps.step (holdExpiry_keeps ..) (by decide) (Keeps.step (fresh_keeps ..) (by decide) (Keeps.refl _ _))))

/-! ## Commit -/

theorem execStageSelect_keeps (init : Initiator) (v : ViewTab) (next : Bool) (i : BitVec 16) (s : State) : KeepsR 1610613825 s (execStageSelect init
    v next i s) := by
  unfold execStageSelect
  exact (KeepsR.next (Keeps.cmdWrite (by decide) (Keeps.step (fresh_keeps ..) (by decide) (Keeps.refl _ _)) (fun t0 k0 => (Keeps.step
      (State.selectView_keeps ..) (by decide) k0)) (fun _ => Keeps.step (State.endAccess_keeps ..) (by decide) (Keeps.step (State.violate_keeps ..)
      (by decide) (Keeps.step (fresh_keeps ..) (by decide) (Keeps.refl _ _))))))

theorem execStageEntryWrite_keeps (init : Initiator) (v : ViewTab) (data : List Byte) (s : State) : KeepsR 1610613825 s (execStageEntryWrite init v
    data s) := by
  unfold execStageEntryWrite
  exact (KeepsR.next (Keeps.step (State.stageView_keeps ..) (by decide) (Keeps.step (fresh_keeps ..) (by decide) (Keeps.refl _ _))))

theorem State.entryFlipped_keeps (s : State) (o : Nat) (n : Nat) (w : Nat) (i : Nat) : Keeps 1611399169 s (State.entryFlipped s o n w i) := by
  unfold State.entryFlipped
  extract_lets a0_0
  exact (Keeps.ite (Keeps.step (State.bucketFlipped_keeps ..) (by decide) (Keeps.refl _ _)) (Keeps.ite (Keeps.when (Keeps.refl _ _) (fun t1 k1 =>
      (Keeps.step (State.authStart_keeps ..) (by decide) k1))) (Keeps.ite (Keeps.when (Keeps.refl _ _) (fun t2 k2 => (Keeps.step
      (State.sigInstall_keeps ..) (by decide) k2))) (Keeps.ite (Keeps.when (Keeps.refl _ _) (fun t3 k3 => (Keeps.step (State.setGw_keeps ..) (by
      decide) k3))) (Keeps.refl _ _)))))

theorem State.tableFlipped_keeps (s : State) (o : Nat) (n : Nat) (w : Nat) : Keeps 1611399169 s (State.tableFlipped s o n w) := by
  unfold State.tableFlipped
  exact (Keeps.each (Keeps.refl _ _) (fun t0 y0 k0 => (Keeps.step (State.entryFlipped_keeps ..) (by decide) k0)))

theorem State.setLease_keeps (s : State) (b : Bool) : Keeps 64 s (State.setLease s b) := by
  unfold State.setLease
  exact (Keeps.step (State.setBench_keeps ..) (by decide) (Keeps.refl _ _))

theorem State.tblAcquire_keeps (s : State) (init : Nat) : Keeps 65 s (State.tblAcquire s init) := by
  unfold State.tblAcquire
  exact (Keeps.ite (Keeps.step (State.setLease_keeps ..) (by decide) (Keeps.step (State.wr_keeps ..) (by decide) (Keeps.refl _ _))) (Keeps.refl _ _))

theorem State.tblRelease_keeps (s : State) : Keeps 65 s (State.tblRelease s) := by
  unfold State.tblRelease
  exact (Keeps.step (State.setLease_keeps ..) (by decide) (Keeps.step (State.wr_keeps ..) (by decide) (Keeps.refl _ _)))

theorem execTblAcquire_keeps (init : Initiator) (rw : Fin 4) (s : State) : KeepsR 1610613825 s (execTblAcquire init rw s) := by
  unfold execTblAcquire
  refine (KeepsR.next ?_)
  unfold State.tblCtrl
  extract_lets a0_0
  exact (Keeps.cmdWrite (by decide) (Keeps.step (fresh_keeps ..) (by decide) (Keeps.refl _ _)) (fun t1 k1 => (Keeps.step (State.tblAcquire_keeps ..)
      (by decide) (Keeps.step (State.wr_keeps ..) (by decide) (Keeps.step (State.wr_keeps ..) (by decide) k1)))) (fun _ => Keeps.step
      (State.endAccess_keeps ..) (by decide) (Keeps.step (State.violate_keeps ..) (by decide) (Keeps.step (fresh_keeps ..) (by decide) (Keeps.refl _
      _)))))

theorem execTblRelease_keeps (init : Initiator) (rw : Fin 4) (s : State) : KeepsR 1610613825 s (execTblRelease init rw s) := by
  unfold execTblRelease
  refine (KeepsR.next ?_)
  unfold State.tblCtrl
  extract_lets a0_0
  exact (Keeps.cmdWrite (by decide) (Keeps.step (fresh_keeps ..) (by decide) (Keeps.refl _ _)) (fun t1 k1 => (Keeps.step (State.tblRelease_keeps ..)
      (by decide) (Keeps.step (State.wr_keeps ..) (by decide) (Keeps.step (State.wr_keeps ..) (by decide) k1)))) (fun _ => Keeps.step
      (State.endAccess_keeps ..) (by decide) (Keeps.step (State.violate_keeps ..) (by decide) (Keeps.step (fresh_keeps ..) (by decide) (Keeps.refl _
      _)))))

theorem execTblAbort_keeps (init : Initiator) (rw : Fin 4) (s : State) : KeepsR 1610614337 s (execTblAbort init rw s) := by
  unfold execTblAbort
  refine (KeepsR.next ?_)
  unfold State.tblCtrl
  extract_lets a0_0
  exact (Keeps.cmdWrite (by decide) (Keeps.step (fresh_keeps ..) (by decide) (Keeps.refl _ _)) (fun t1 k1 => (Keeps.step (State.discardDelta_keeps
      ..) (by decide) (Keeps.step (State.wr_keeps ..) (by decide) (Keeps.step (State.wr_keeps ..) (by decide) k1)))) (fun _ => Keeps.step
      (State.endAccess_keeps ..) (by decide) (Keeps.step (State.violate_keeps ..) (by decide) (Keeps.step (fresh_keeps ..) (by decide) (Keeps.refl _
      _)))))

theorem tblLeaseExpiry_keeps (s : State) : Keeps 1610614337 s (tblLeaseExpiry s) := by
  unfold tblLeaseExpiry
  refine (Keeps.ite (Keeps.refl _ _) ?_)
  extract_lets a0_0 a0_1
  have h_a0_1 : Keeps 1610614337 s a0_1 := (Keeps.when (Keeps.refl _ _) (fun t1 k1 => (Keeps.step (State.event_keeps ..) (by decide) (Keeps.step
      (State.discardDelta_keeps ..) (by decide) k1))))
  exact (Keeps.step (State.leaseRevoked_keeps ..) (by decide) (Keeps.step (State.tblRelease_keeps ..) (by decide) h_a0_1))

theorem execTblLeaseExpiry_keeps (s : State) : KeepsR 1610614337 s (execTblLeaseExpiry s) := by
  unfold execTblLeaseExpiry
  exact (KeepsR.next (Keeps.step (tblLeaseExpiry_keeps ..) (by decide) (Keeps.step (fresh_keeps ..) (by decide) (Keeps.refl _ _))))

theorem State.setPhase_keeps (s : State) (p : CommitPhase) : Keeps 64 s (State.setPhase s p) := by
  unfold State.setPhase
  exact (Keeps.step (State.setBench_keeps ..) (by decide) (Keeps.refl _ _))

theorem State.busy_keeps (s : State) : Keeps 1 s (State.busy s) := by
  unfold State.busy
  exact (Keeps.step (State.wr_keeps ..) (by decide) (Keeps.step (State.wr_keeps ..) (by decide) (Keeps.refl _ _)))

theorem State.flip_keeps (s : State) : Keeps 1611399169 s (State.flip s) := by
  unfold State.flip
  extract_lets a0_0 a0_1
  have h_a0_1 : Keeps 1611399169 s a0_1 := (Keeps.step (State.wr_keeps ..) (by decide) (Keeps.refl _ _))
  exact (Keeps.each h_a0_1 (fun t1 y1 k1 => (Keeps.step (State.tableFlipped_keeps ..) (by decide) k1)))

theorem State.commit_keeps (s : State) (force : Bool) : Keeps 1611399233 s (State.commit s force) := by
  unfold State.commit
  extract_lets a0_0 a0_1
  have h_a0_0 : Keeps 1611399233 s a0_0 := (Keeps.step (State.setLease_keeps ..) (by decide) (Keeps.refl _ _))
  exact (Keeps.ite (Keeps.step (State.setPhase_keeps ..) (by decide) (Keeps.step (State.flip_keeps ..) (by decide) (Keeps.step (State.busy_keeps ..)
      (by decide) h_a0_0))) (Keeps.ite (Keeps.step (State.sticky_keeps ..) (by decide) h_a0_0) (Keeps.step (State.setBench_keeps ..) (by decide)
      (Keeps.step (State.busy_keeps ..) (by decide) h_a0_0))))

theorem execTblCommit_keeps (init : Initiator) (rw : Fin 4) (s : State) : KeepsR 1611400257 s (execTblCommit init rw s) := by
  unfold execTblCommit
  refine (KeepsR.next ?_)
  unfold State.tblCtrl
  extract_lets a0_0
  exact (Keeps.cmdWrite (by decide) (Keeps.step (fresh_keeps ..) (by decide) (Keeps.refl _ _)) (fun t1 k1 => (Keeps.step (State.commit_keeps ..) (by
      decide) (Keeps.step (State.wr_keeps ..) (by decide) (Keeps.step (State.wr_keeps ..) (by decide) k1)))) (fun _ => Keeps.step
      (State.endAccess_keeps ..) (by decide) (Keeps.step (State.violate_keeps ..) (by decide) (Keeps.step (fresh_keeps ..) (by decide) (Keeps.refl _
      _)))))

theorem State.drainEnd_keeps (s : State) : Keeps 64 s (State.drainEnd s) := by
  unfold State.drainEnd
  refine (Keeps.ite (Keeps.refl _ _) ?_)
  split
  · exact (Keeps.step (State.setPhase_keeps ..) (by decide) (Keeps.refl _ _))
  · exact (Keeps.step (State.setPhase_keeps ..) (by decide) (Keeps.refl _ _))
  · exact (Keeps.refl _ _)

theorem execCommitDrainEnd_keeps (s : State) : KeepsR 536870976 s (execCommitDrainEnd s) := by
  unfold execCommitDrainEnd
  exact (KeepsR.next (Keeps.step (State.drainEnd_keeps ..) (by decide) (Keeps.step (fresh_keeps ..) (by decide) (Keeps.refl _ _))))

theorem State.reclaim_keeps (s : State) : Keeps 577 s (State.reclaim s) := by
  unfold State.reclaim
  extract_lets a0_0 a0_1 a0_2 a0_3
  have h_a0_1 : Keeps 577 s a0_1 := (Keeps.each (Keeps.refl _ _) (fun t1 y1 k1 => (Keeps.each k1 (fun t2 y2 k2 => (Keeps.step (State.setEnt_keeps
      ..) (by decide) k2)))))
  have h_a0_2 : Keeps 577 s a0_2 := (Keeps.step (State.keyedSettle_keeps ..) (by decide) h_a0_1)
  exact (Keeps.step (State.clearDelta_keeps ..) (by decide) (Keeps.step (State.setTbl_keeps ..) (by decide) h_a0_2))

theorem State.reclaimDone_keeps (s : State) : Keeps 1677722177 s (State.reclaimDone s) := by
  unfold State.reclaimDone
  refine (Keeps.ite (Keeps.refl _ _) ?_)
  extract_lets a0_0 a0_1 a0_2 a0_3 a0_4 a0_5 a0_6
  have h_a0_1 : Keeps 1677722177 s a0_1 := (Keeps.step (State.reclaim_keeps ..) (by decide) (Keeps.refl _ _))
  have h_a0_3 : Keeps 1677722177 s a0_3 := (Keeps.step (State.setBench_keeps ..) (by decide) h_a0_1)
  have h_a0_5 : Keeps 1677722177 s a0_5 := (Keeps.step (State.setLeg_keeps ..) (by decide) (Keeps.step (State.wr_keeps ..) (by decide) (Keeps.step
      (State.wr_keeps ..) (by decide) h_a0_3)))
  have h_a0_6 : Keeps 1677722177 s a0_6 := (Keeps.when h_a0_5 (fun t1 k1 => (Keeps.step (State.event_keeps ..) (by decide) (Keeps.step
      (State.count_keeps ..) (by decide) (Keeps.step (State.sticky_keeps ..) (by decide) k1)))))
  exact (Keeps.step (State.event_keeps ..) (by decide) (Keeps.step (State.count_keeps ..) (by decide) h_a0_6))

theorem execCommitReclaimDone_keeps (s : State) : KeepsR 1677722177 s (execCommitReclaimDone s) := by
  unfold execCommitReclaimDone
  exact (KeepsR.next (Keeps.step (State.reclaimDone_keeps ..) (by decide) (Keeps.step (fresh_keeps ..) (by decide) (Keeps.refl _ _))))

theorem State.releaseHeld_keeps (s : State) : Keeps 192 s (State.releaseHeld s) := by
  unfold State.releaseHeld
  extract_lets a0_0 a0_1 a0_2
  have h_a0_1 : Keeps 192 s a0_1 := (Keeps.step (State.setBench_keeps ..) (by decide) (Keeps.refl _ _))
  exact (Keeps.step (State.setFab_keeps ..) (by decide) h_a0_1)

theorem State.swapEntry_keeps (s : State) (w : Nat) (i : Nat) : Keeps 64 s (State.swapEntry s w i) := by
  unfold State.swapEntry
  refine (Keeps.each (Keeps.refl _ _) ?_)
  refine (fun t0 y0 k0 => ?_)
  extract_lets a1_0 a1_1
  exact (Keeps.step (State.setEnt_keeps ..) (by decide) (Keeps.step (State.setEnt_keeps ..) (by decide) k0))

theorem State.switchPaired_keeps (s : State) (w : Nat) : Keeps 1611399233 s (State.switchPaired s w) := by
  unfold State.switchPaired
  extract_lets a0_0 a0_1 a0_2 a0_3
  have h_a0_1 : Keeps 1611399233 s a0_1 := (Keeps.each (Keeps.refl _ _) (fun t1 y1 k1 => (Keeps.step (State.swapEntry_keeps ..) (by decide) k1)))
  have h_a0_3 : Keeps 1611399233 s a0_3 := (Keeps.step (State.setBench_keeps ..) (by decide) h_a0_1)
  exact (Keeps.each h_a0_3 (fun t2 y2 k2 => (Keeps.step (State.entryFlipped_keeps ..) (by decide) k2)))

theorem State.entryRejected_keeps (s : State) (code : Nat) (e : OvfEntry) : Keeps 1610612737 s (State.entryRejected s code e) := by
  unfold State.entryRejected
  extract_lets a0_0
  have h_a0_0 : Keeps 1610612737 s a0_0 := (Keeps.when (Keeps.refl _ _) (fun t1 k1 => (Keeps.step (State.wr_keeps ..) (by decide) (Keeps.step
      (State.wr_keeps ..) (by decide) k1))))
  exact (Keeps.step (State.sticky_keeps ..) (by decide) h_a0_0)

theorem State.placeViews_keeps (s : State) (w : Nat) (code : Nat) (valid : Field) : Keeps 1610612801 s (State.placeViews s w code valid) := by
  unfold State.placeViews
  extract_lets a0_0 a0_1 a0_2 a0_3
  exact (Keeps.each (Keeps.refl _ _) (fun t1 y1 k1 => (Keeps.step (State.entryRejected_keeps ..) (by decide) (Keeps.step (State.restoreEntry_keeps
      ..) (by decide) k1))))

theorem State.placeL2_keeps (s : State) (code : Nat) : Keeps 1610613249 s (State.placeL2 s code) := by
  unfold State.placeL2
  extract_lets a0_0 a0_1 a0_2 a0_3 a0_4
  have h_a0_3 : Keeps 1610613249 s a0_3 := (Keeps.each (Keeps.refl _ _) (fun t1 y1 k1 => (Keeps.step (State.setL2_keeps ..) (by decide) k1)))
  have h_a0_4 : Keeps 1610613249 s a0_4 := (Keeps.step (State.setL2_keeps ..) (by decide) h_a0_3)
  clear_value a0_0 a0_1 a0_2 a0_3 a0_4
  refine (Keeps.each h_a0_4 ?_)
  refine (fun t2 y2 k2 => ?_)
  extract_lets a3_0
  clear_value a3_0
  refine (Keeps.ite (Keeps.step (State.l2Add_keeps ..) (by decide) k2) ?_)
  split
  · exact (Keeps.step (State.entryRejected_keeps ..) (by decide) k2)
  · exact k2

theorem State.placePrefixes_keeps (s : State) (code : Nat) : Keeps 1610613249 s (State.placePrefixes s code) := by
  unfold State.placePrefixes
  extract_lets a0_0 a0_1 a0_2 a0_3 a0_4
  have h_a0_4 : Keeps 1610613249 s a0_4 := (Keeps.step (State.setPrefixes_keeps ..) (by decide) (Keeps.step (State.stand_keeps ..) (by decide)
      (Keeps.refl _ _)))
  clear_value a0_0 a0_1 a0_3 a0_4
  refine (Keeps.each h_a0_4 ?_)
  refine (fun t1 y1 k1 => ?_)
  refine (Keeps.ite (Keeps.step (State.setPrefixes_keeps ..) (by decide) k1) ?_)
  split
  · exact (Keeps.step (State.entryRejected_keeps ..) (by decide) k1)
  · exact k1

theorem State.switchSlotted_keeps (s : State) (w : Nat) (code : Nat) : Keeps 1610613313 s (State.switchSlotted s w code) := by
  unfold State.switchSlotted
  extract_lets a0_0 a0_1
  have h_a0_0 : Keeps 1610613313 s a0_0 := (Keeps.when (Keeps.refl _ _) (fun t1 k1 => (Keeps.ite (Keeps.step (State.placeL2_keeps ..) (by decide)
      k1) (Keeps.ite (Keeps.step (State.placePrefixes_keeps ..) (by decide) k1) (Keeps.ite (Keeps.step (State.placeViews_keeps ..) (by decide) k1)
      (Keeps.step (State.placeViews_keeps ..) (by decide) k1))))))
  exact (Keeps.step (State.setBench_keeps ..) (by decide) h_a0_0)

theorem State.splitEnd_keeps (s : State) : Keeps 193 s (State.splitEnd s) := by
  unfold State.splitEnd
  exact (Keeps.step (State.releaseHeld_keeps ..) (by decide) (Keeps.step (State.setPhase_keeps ..) (by decide) (Keeps.step (State.wr_keeps ..) (by
      decide) (Keeps.refl _ _))))

theorem State.splitDeletions_keeps (s : State) : Keeps 1611399233 s (State.splitDeletions s) := by
  unfold State.splitDeletions
  extract_lets a0_0 a0_1 a0_2 a0_3
  have h_a0_1 : Keeps 1611399233 s a0_1 := (Keeps.each (Keeps.refl _ _) (fun t1 y1 k1 => (Keeps.step (State.swapEntry_keeps ..) (by decide) k1)))
  have h_a0_2 : Keeps 1611399233 s a0_2 := (Keeps.each h_a0_1 (fun t2 y2 k2 => (Keeps.step (State.entryFlipped_keeps ..) (by decide) k2)))
  exact (Keeps.step (State.wr_keeps ..) (by decide) (Keeps.step (State.setBench_keeps ..) (by decide) h_a0_2))

theorem State.splitStep_keeps (s : State) : Keeps 1611399873 s (State.splitStep s) := by
  unfold State.splitStep
  refine (Keeps.ite (Keeps.refl _ _) ?_)
  extract_lets a0_0
  have h_a0_0 : Keeps 1611399873 s a0_0 := by
    unfold a0_0
    split
    · exact (Keeps.step (State.splitDeletions_keeps ..) (by decide) (Keeps.refl _ _))
    · extract_lets a3_0 a3_1
      have h_a3_1 : Keeps 1611399873 s a3_1 := (Keeps.ite (Keeps.step (State.switchSlotted_keeps ..) (by decide) (Keeps.refl _ _)) (Keeps.step
          (State.switchPaired_keeps ..) (by decide) (Keeps.refl _ _)))
      exact (Keeps.step (State.wr_keeps ..) (by decide) h_a3_1)
  exact (Keeps.ite (Keeps.step (State.splitEnd_keeps ..) (by decide) h_a0_0) h_a0_0)

theorem execSplitTableSwitch_keeps (s : State) : KeepsR 1611399873 s (execSplitTableSwitch s) := by
  unfold execSplitTableSwitch
  exact (KeepsR.next (Keeps.step (State.splitStep_keeps ..) (by decide) (Keeps.step (fresh_keeps ..) (by decide) (Keeps.refl _ _))))

theorem flowHoldExpiry_keeps (s : State) : Keeps 1610612929 s (flowHoldExpiry s) := by
  unfold flowHoldExpiry
  exact (Keeps.ite (Keeps.step (State.sticky_keeps ..) (by decide) (Keeps.step (State.releaseHeld_keeps ..) (by decide) (Keeps.refl _ _)))
      (Keeps.refl _ _))

theorem execFlowHoldExpiry_keeps (s : State) : KeepsR 1610612929 s (execFlowHoldExpiry s) := by
  unfold execFlowHoldExpiry
  exact (KeepsR.next (Keeps.step (flowHoldExpiry_keeps ..) (by decide) (Keeps.step (fresh_keeps ..) (by decide) (Keeps.refl _ _))))

/-! ## Inputs -/

theorem State.setSw_keeps (s : State) (n : Nat) (x : SwSt) : Keeps 16384 s (State.setSw s n x) := by
  unfold State.setSw
  exact (Keeps.step (State.setBody_keeps ..) (by decide) (Keeps.refl _ _))

theorem State.swChange_keeps (s : State) (n : Nat) (active : Bool) : Keeps 1644393873 s (State.swChange s n active) := by
  unfold State.swChange
  extract_lets a0_0 a0_1 a0_2
  have h_a0_0 : Keeps 1644393873 s a0_0 := (Keeps.step (State.wr_keeps ..) (by decide) (Keeps.refl _ _))
  have h_a0_1 : Keeps 1644393873 s a0_1 := (Keeps.step (State.event_keeps ..) (by decide) (Keeps.step (State.count_keeps ..) (by decide) h_a0_0))
  have h_a0_2 : Keeps 1644393873 s a0_2 := (Keeps.each h_a0_1 (fun t1 y1 k1 => (Keeps.ite (Keeps.step (State.meParkSwitch_keeps ..) (by decide) k1)
      k1)))
  exact (Keeps.ite (Keeps.step (State.sourceEvent_keeps ..) (by decide) h_a0_2) h_a0_2)

theorem State.swFollow_keeps (s : State) (n : Nat) (pol : Bool) : Keeps 1644393873 s (State.swFollow s n pol) := by
  unfold State.swFollow
  extract_lets a0_0 a0_1 a0_2
  exact (Keeps.ite (Keeps.refl _ _) (Keeps.step (State.swChange_keeps ..) (by decide) (Keeps.step (State.setSw_keeps ..) (by decide) (Keeps.refl _
      _))))

theorem swSample_keeps (n : Nat) (high : Bool) (s : State) : Keeps 1644393873 s (swSample n high s) := by
  unfold swSample
  refine (Keeps.ite (Keeps.refl _ _) ?_)
  extract_lets a0_0 a0_1 a0_2
  have h_a0_0 : Keeps 1644393873 s a0_0 := (Keeps.step (State.wr_keeps ..) (by decide) (Keeps.refl _ _))
  exact (Keeps.ite (Keeps.step (State.setSw_keeps ..) (by decide) h_a0_0) (Keeps.ite (Keeps.step (State.setSw_keeps ..) (by decide) h_a0_0)
      (Keeps.step (State.swChange_keeps ..) (by decide) (Keeps.step (State.setSw_keeps ..) (by decide) h_a0_0))))

theorem execSwSample_keeps (n : Fin 64) (high : Bool) (s : State) : KeepsR 1644918161 s (execSwSample n high s) := by
  unfold execSwSample
  exact (KeepsR.next (Keeps.step (State.unitReports_keeps ..) (by decide) (Keeps.step (swSample_keeps ..) (by decide) (Keeps.step (fresh_keeps ..)
      (by decide) (Keeps.refl _ _)))))

theorem swEdge_keeps (n : Nat) (high : Bool) (s : State) : Keeps 1644393873 s (swEdge n high s) := by
  unfold swEdge
  refine (Keeps.ite (Keeps.refl _ _) ?_)
  extract_lets a0_0 a0_1
  have h_a0_0 : Keeps 1644393873 s a0_0 := (Keeps.step (State.wr_keeps ..) (by decide) (Keeps.refl _ _))
  exact (Keeps.ite h_a0_0 (Keeps.step (State.swChange_keeps ..) (by decide) h_a0_0))

theorem execSwEdge_keeps (n : Fin 64) (high : Bool) (s : State) : KeepsR 1644918161 s (execSwEdge n high s) := by
  unfold execSwEdge
  exact (KeepsR.next (Keeps.step (State.unitReports_keeps ..) (by decide) (Keeps.step (swEdge_keeps ..) (by decide) (Keeps.step (fresh_keeps ..) (by
      decide) (Keeps.refl _ _)))))

theorem State.armInputs_keeps (s : State) : Keeps 16384 s (State.armInputs s) := by
  unfold State.armInputs
  exact (Keeps.each (Keeps.refl _ _) (fun t0 y0 k0 => (Keeps.step (State.setSw_keeps ..) (by decide) k0)))

theorem sense_keeps (levels : Nat) (s : State) (n : Nat) : Keeps 1644393873 s (sense levels s n) := by
  unfold sense
  extract_lets a0_0 a0_1
  exact (Keeps.ite (Keeps.step (State.setSw_keeps ..) (by decide) (Keeps.refl _ _)) (Keeps.ite (Keeps.step (State.setSw_keeps ..) (by decide)
      (Keeps.refl _ _)) (Keeps.step (State.sourceEvent_keeps ..) (by decide) (Keeps.step (State.sticky_keeps ..) (by decide) (Keeps.step
      (State.setSw_keeps ..) (by decide) (Keeps.refl _ _))))))

theorem senseCycle_keeps (levels : Nat) (s : State) : Keeps 1644393873 s (senseCycle levels s) := by
  unfold senseCycle
  exact (Keeps.ite (Keeps.each (Keeps.refl _ _) (fun t0 y0 k0 => (Keeps.step (sense_keeps ..) (by decide) k0))) (Keeps.refl _ _))

theorem execCyclicSenseCycle_keeps (levels : BitVec 64) (s : State) : KeepsR 1644393873 s (execCyclicSenseCycle levels s) := by
  unfold execCyclicSenseCycle
  exact (KeepsR.next (Keeps.step (senseCycle_keeps ..) (by decide) (Keeps.step (fresh_keeps ..) (by decide) (Keeps.refl _ _))))

theorem State.setAn_keeps (s : State) (n : Nat) (x : AnSt) : Keeps 16384 s (State.setAn s n x) := by
  unfold State.setAn
  exact (Keeps.step (State.setBody_keeps ..) (by decide) (Keeps.refl _ _))

theorem State.anValue_keeps (s : State) (n : Nat) (v : Nat) : Keeps 1610612737 s (State.anValue s n v) := by
  unfold State.anValue
  extract_lets a0_0 a0_1 a0_2 a0_3 a0_4
  have h_a0_3 : Keeps 1610612737 s a0_3 := (Keeps.step (State.wr_keeps ..) (by decide) (Keeps.refl _ _))
  have h_a0_4 : Keeps 1610612737 s a0_4 := (Keeps.ite (Keeps.step (State.event_keeps ..) (by decide) (Keeps.step (State.sticky_keeps ..) (by decide)
      h_a0_3)) h_a0_3)
  exact (Keeps.ite (Keeps.step (State.event_keeps ..) (by decide) (Keeps.step (State.sticky_keeps ..) (by decide) h_a0_4)) h_a0_4)

theorem conversion_keeps (n : Nat) (mv : Nat) (s : State) : Keeps 1610629121 s (conversion n mv s) := by
  unfold conversion
  refine (Keeps.ite (Keeps.refl _ _) ?_)
  extract_lets a0_0
  exact (Keeps.step (State.anValue_keeps ..) (by decide) (Keeps.step (State.setAn_keeps ..) (by decide) (Keeps.refl _ _)))

theorem execAnConversion_keeps (n : Fin 16) (mv : BitVec 16) (s : State) : KeepsR 1611153409 s (execAnConversion n mv s) := by
  unfold execAnConversion
  exact (KeepsR.next (Keeps.step (State.unitReports_keeps ..) (by decide) (Keeps.step (conversion_keeps ..) (by decide) (Keeps.step (fresh_keeps ..)
      (by decide) (Keeps.refl _ _)))))

theorem State.anOff_keeps (s : State) (n : Nat) : Keeps 16385 s (State.anOff s n) := by
  unfold State.anOff
  exact (Keeps.step (State.wr_keeps ..) (by decide) (Keeps.step (State.setAn_keeps ..) (by decide) (Keeps.refl _ _)))

/-! ## Reset -/

theorem State.resetFields_keeps (s : State) (reach : Nat → Bool) (keeps : Nat → Field → Bool) : Keeps 3 s (State.resetFields s reach keeps) := by
  unfold State.resetFields
  extract_lets a0_0 a0_1
  have h_a0_1 : Keeps 3 s a0_1 := (Keeps.step (State.setParity_keeps ..) (by decide) (Keeps.refl _ _))
  exact (Keeps.setWbuf (Keeps.setRegs h_a0_1 (by decide) (fun hc => filter_sorted hc.1 _)) (by decide) (fun hc => filter_sorted hc.2.1 _))

theorem State.debugClose_keeps (s : State) : Keeps 1048577 s (State.debugClose s) := by
  unfold State.debugClose
  exact (Keeps.step (State.setTrust_keeps ..) (by decide) (Keeps.step (State.wr_keeps ..) (by decide) (Keeps.refl _ _)))

theorem State.trustLost_keeps (s : State) : Keeps 1048576 s (State.trustLost s) := by
  unfold State.trustLost
  exact (Keeps.step (State.setTrust_keeps ..) (by decide) (Keeps.refl _ _))

theorem State.ringsOff_keeps (s : State) : Keeps 1610768385 s (State.ringsOff s) := by
  unfold State.ringsOff
  extract_lets a0_0 a0_1
  have h_a0_1 : Keeps 1610768385 s a0_1 := (Keeps.step (State.setWake_keeps ..) (by decide) (Keeps.refl _ _))
  clear_value a0_0 a0_1
  refine (Keeps.each h_a0_1 ?_)
  refine (fun t1 y1 k1 => ?_)
  extract_lets a2_0
  exact (Keeps.ite (Keeps.step (State.setNet_keeps ..) (by decide) k1) k1)

theorem State.trialEnds_keeps (s : State) : Keeps 1627389953 s (State.trialEnds s) := by
  unfold State.trialEnds
  refine (Keeps.ite ?_ (Keeps.refl _ _))
  extract_lets a0_0 a0_1
  exact (Keeps.step (State.sticky_keeps ..) (by decide) (Keeps.step (State.wr_keeps ..) (by decide) (Keeps.step (State.setUpd_keeps ..) (by decide)
      (Keeps.refl _ _))))

theorem State.gxLost_keeps (s : State) : Keeps 1744830461 s (State.gxLost s) := by
  unfold State.gxLost
  extract_lets a0_0 a0_1 a0_2 a0_3 a0_4 a0_5 a0_6 a0_7 a0_8 a0_9 a0_10 a0_11 a0_12 a0_13 a0_14 a0_15 a0_16 a0_17 a0_18
  have h_a0_2 : Keeps 1744830461 s a0_2 := (Keeps.step (State.setHost_keeps ..) (by decide) (Keeps.step (State.setFans_keeps ..) (by decide)
      (Keeps.setHolds (Keeps.refl _ _) (by decide) (fun _ => rfl))))
  have h_a0_4 : Keeps 1744830461 s a0_4 := (Keeps.step (State.setCfg_keeps ..) (by decide) h_a0_2)
  have h_a0_5 : Keeps 1744830461 s a0_5 := (Keeps.step (State.setTbl_keeps ..) (by decide) (Keeps.step (State.setEth_keeps ..) (by decide)
      (Keeps.step (State.setFab_keeps ..) (by decide) (Keeps.step (State.setBench_keeps ..) (by decide) h_a0_4))))
  have h_a0_7 : Keeps 1744830461 s a0_7 := (Keeps.setFlt h_a0_5 (by decide) (fun hc => ⟨hc.2.2.2.2.1, Nat.zero_le _, hc.2.2.2.2.2.2⟩))
  have h_a0_8 : Keeps 1744830461 s a0_8 := (Keeps.step (State.setEvp_keeps ..) (by decide) (Keeps.setAxes (Keeps.step (State.setAx0_keeps ..) (by
      decide) h_a0_7) (by decide) (fun _ => rfl)))
  have h_a0_11 : Keeps 1744830461 s a0_11 := (Keeps.step (State.setLin_keeps ..) (by decide) (Keeps.step (State.setCan_keeps ..) (by decide) h_a0_8))
  have h_a0_13 : Keeps 1744830461 s a0_13 := (Keeps.step (State.setGuard_keeps ..) (by decide) h_a0_11)
  have h_a0_14 : Keeps 1744830461 s a0_14 := (Keeps.step (State.trustLost_keeps ..) (by decide) (Keeps.step (State.setStamps_keeps ..) (by decide)
      (Keeps.step (State.setGw_keeps ..) (by decide) h_a0_13)))
  have h_a0_15 : Keeps 1744830461 s a0_15 := (Keeps.step (State.setLeg_keeps ..) (by decide) (Keeps.step (State.setDrk_keeps ..) (by decide)
      (Keeps.step (State.setUpd_keeps ..) (by decide) h_a0_14)))
  have h_a0_17 : Keeps 1744830461 s a0_17 := (Keeps.step (State.setPins_keeps ..) (by decide) h_a0_15)
  exact (Keeps.step (State.ringsOff_keeps ..) (by decide) (Keeps.step (State.setPwr_keeps ..) (by decide) h_a0_17))

theorem State.startCause_keeps (s : State) (c : Nat) (wd : Nat) : Keeps 8192 s (State.startCause s c wd) := by
  unfold State.startCause
  exact (Keeps.ite (Keeps.step (State.setPwr_keeps ..) (by decide) (Keeps.refl _ _)) (Keeps.refl _ _))

theorem State.entryEnds_keeps (s : State) : Keeps 1628446721 s (State.entryEnds s) := by
  unfold State.entryEnds
  extract_lets a0_0 a0_1
  have h_a0_1 : Keeps 1628446721 s a0_1 := (Keeps.step (State.setPwr_keeps ..) (by decide) (Keeps.step (State.trialEnds_keeps ..) (by decide)
      (Keeps.refl _ _)))
  exact (Keeps.step (State.debugClose_keeps ..) (by decide) (Keeps.step (State.clearPark_keeps ..) (by decide) h_a0_1))

theorem State.ixLost_keeps (s : State) : Keeps 1610727425 s (State.ixLost s) := by
  unfold State.ixLost
  extract_lets a0_0 a0_1 a0_2 a0_3 a0_4
  have h_a0_1 : Keeps 1610727425 s a0_1 := (Keeps.step (State.setBody_keeps ..) (by decide) (Keeps.refl _ _))
  have h_a0_2 : Keeps 1610727425 s a0_2 := (Keeps.each h_a0_1 (fun t1 y1 k1 => (Keeps.step (State.setMe_keeps ..) (by decide) (Keeps.step
      (State.meForceEnd_keeps ..) (by decide) k1))))
  exact (Keeps.step (State.setLin_keeps ..) (by decide) (Keeps.step (State.setCan_keeps ..) (by decide) h_a0_2))

theorem State.wdogReset_keeps (s : State) (why : Nat) : Keeps 1744830463 s (State.wdogReset s why) := by
  unfold State.wdogReset
  extract_lets a0_0 a0_1 a0_2
  have h_a0_0 : Keeps 1744830463 s a0_0 := (Keeps.step (State.startCause_keeps ..) (by decide) (Keeps.step (State.entryEnds_keeps ..) (by decide)
      (Keeps.step (State.heartbeatRow_keeps ..) (by decide) (Keeps.refl _ _))))
  have h_a0_1 : Keeps 1744830463 s a0_1 := (Keeps.step (State.resetFields_keeps ..) (by decide) (Keeps.step (State.gxLost_keeps ..) (by decide)
      h_a0_0))
  exact (Keeps.step (State.setPwr_keeps ..) (by decide) h_a0_1)

theorem State.coreReset_keeps (s : State) (c : ResetCode) : Keeps 1744830463 s (State.coreReset s c) := by
  unfold State.coreReset
  extract_lets a0_0 a0_1 a0_2 a0_3 a0_4 a0_5 a0_6 a0_7
  have h_a0_1 : Keeps 1744830463 s a0_1 := (Keeps.step (State.entryEnds_keeps ..) (by decide) (Keeps.step (State.failOff_keeps ..) (by decide)
      (Keeps.refl _ _)))
  have h_a0_3 : Keeps 1744830463 s a0_3 := (Keeps.step (State.setPwr_keeps ..) (by decide) h_a0_1)
  have h_a0_4 : Keeps 1744830463 s a0_4 := (Keeps.step (State.resetFields_keeps ..) (by decide) (Keeps.step (State.ixLost_keeps ..) (by decide)
      (Keeps.step (State.gxLost_keeps ..) (by decide) h_a0_3)))
  have h_a0_5 : Keeps 1744830463 s a0_5 := (Keeps.step (State.allModes_keeps ..) (by decide) h_a0_4)
  have h_a0_6 : Keeps 1744830463 s a0_6 := (Keeps.ite h_a0_5 (Keeps.step (State.wakeAll_keeps ..) (by decide) h_a0_5))
  exact (Keeps.step (State.setPwr_keeps ..) (by decide) h_a0_6)

theorem State.softReset_keeps (s : State) (cause : Nat) : Keeps 1744830463 s (State.softReset s cause) := by
  unfold State.softReset
  extract_lets a0_0 a0_1 a0_2 a0_3
  have h_a0_1 : Keeps 1744830463 s a0_1 := (Keeps.ite (Keeps.step (State.authWriteBack_keeps ..) (by decide) (Keeps.refl _ _)) (Keeps.refl _ _))
  have h_a0_2 : Keeps 1744830463 s a0_2 := (Keeps.step (State.coreReset_keeps ..) (by decide) (Keeps.step (State.startCause_keeps ..) (by decide)
      h_a0_1))
  exact (Keeps.step (State.setPwr_keeps ..) (by decide) h_a0_2)

/-! ## TrustMsg -/

theorem State.trmPut_keeps (s : State) (i : Nat) (b : Nat) : Keeps 1048576 s (State.trmPut s i b) := by
  unfold State.trmPut
  exact (Keeps.step (State.setTrust_keeps ..) (by decide) (Keeps.refl _ _))

theorem State.trmFill_keeps (s : State) (l : List Nat) : Keeps 1048576 s (State.trmFill s l) := by
  unfold State.trmFill
  exact (Keeps.step (State.setTrust_keeps ..) (by decide) (Keeps.refl _ _))

theorem State.trmFree_keeps (s : State) : Keeps 1048577 s (State.trmFree s) := by
  unfold State.trmFree
  extract_lets a0_0 a0_1 a0_2
  have h_a0_1 : Keeps 1048577 s a0_1 := (Keeps.step (State.setTrust_keeps ..) (by decide) (Keeps.refl _ _))
  have h_a0_2 : Keeps 1048577 s a0_2 := (Keeps.step (State.wr_keeps ..) (by decide) (Keeps.step (State.wr_keeps ..) (by decide) (Keeps.step
      (State.wr_keeps ..) (by decide) h_a0_1)))
  exact (Keeps.step (State.wr_keeps ..) (by decide) h_a0_2)

theorem State.trmClaim_keeps (s : State) (init : Nat) (ptr : Nat) : Keeps 1 s (State.trmClaim s init ptr) := by
  unfold State.trmClaim
  exact (Keeps.step (State.wr_keeps ..) (by decide) (Keeps.step (State.wr_keeps ..) (by decide) (Keeps.refl _ _)))

theorem State.trmStep_keeps (s : State) : Keeps 1 s (State.trmStep s) := by
  unfold State.trmStep
  exact (Keeps.step (State.wr_keeps ..) (by decide) (Keeps.refl _ _))

theorem State.trmRun_keeps (s : State) (op : Nat) (m : List Nat) (r : Nat) : Keeps 1048577 s (State.trmRun s op m r) := by
  unfold State.trmRun
  exact (Keeps.step (State.setTrust_keeps ..) (by decide) (Keeps.step (State.wr_keeps ..) (by decide) (Keeps.refl _ _)))

theorem State.trmMessage_keeps (s : State) (op : Nat) (ec : Bool) (hs : Bool) : Keeps 1048577 s (State.trmMessage s op ec hs) := by
  unfold State.trmMessage
  extract_lets a0_0 a0_1
  exact (Keeps.step (State.wr_keeps ..) (by decide) (Keeps.step (State.trmRun_keeps ..) (by decide) (Keeps.refl _ _)))

theorem State.setRoot_keeps (s : State) (r : Nat) (v : Option Nat) : Keeps 1048576 s (State.setRoot s r v) := by
  unfold State.setRoot
  extract_lets a0_0 a0_1
  exact (Keeps.step (State.setTrust_keeps ..) (by decide) (Keeps.refl _ _))

theorem State.slotsZero_keeps (s : State) : Keeps 1048577 s (State.slotsZero s) := by
  unfold State.slotsZero
  extract_lets a0_0 a0_1
  have h_a0_0 : Keeps 1048577 s a0_0 := (Keeps.setRegs (Keeps.refl _ _) (by decide) (fun hc => filter_sorted hc.1 _))
  exact (Keeps.step (State.setTrust_keeps ..) (by decide) h_a0_0)

theorem State.shadowsZero_keeps (s : State) : Keeps 1048577 s (State.shadowsZero s) := by
  unfold State.shadowsZero
  extract_lets a0_0 a0_1
  have h_a0_0 : Keeps 1048577 s a0_0 := (Keeps.setRegs (Keeps.refl _ _) (by decide) (fun hc => filter_sorted hc.1 _))
  exact (Keeps.step (State.setTrust_keeps ..) (by decide) h_a0_0)

theorem State.lcAdvance_keeps (s : State) (m : List Nat) : Keeps 1048577 s (State.lcAdvance s m) := by
  unfold State.lcAdvance
  extract_lets a0_0 a0_1 a0_2 a0_3
  have h_a0_3 : Keeps 1048577 s a0_3 := (Keeps.step (State.setTrust_keeps ..) (by decide) (Keeps.refl _ _))
  exact (Keeps.ite (Keeps.step (State.setTrust_keeps ..) (by decide) (Keeps.refl _ _)) (Keeps.ite (Keeps.step (State.setRoot_keeps ..) (by decide)
      (Keeps.step (State.setTrust_keeps ..) (by decide) (Keeps.refl _ _))) (Keeps.ite (Keeps.step (State.setRoot_keeps ..) (by decide) (Keeps.step
      (State.setRoot_keeps ..) (by decide) (Keeps.step (State.setTrust_keeps ..) (by decide) (Keeps.step (State.debugClose_keeps ..) (by decide)
      (Keeps.refl _ _))))) (Keeps.step (State.wr_keeps ..) (by decide) (Keeps.step (State.slotsZero_keeps ..) (by decide) h_a0_3)))))

theorem State.rootInstall_keeps (s : State) (m : List Nat) : Keeps 1056769 s (State.rootInstall s m) := by
  unfold State.rootInstall
  extract_lets a0_0 a0_1 a0_2
  have h_a0_1 : Keeps 1056769 s a0_1 := by
    unfold a0_1
    clear_value a0_0
    split
    · exact (Keeps.step (State.setRoot_keeps ..) (by decide) (Keeps.refl _ _))
    · exact (Keeps.refl _ _)
  exact (Keeps.ite (Keeps.step (State.wr_keeps ..) (by decide) (Keeps.step (State.setPwr_keeps ..) (by decide) h_a0_1)) h_a0_1)

theorem State.debugOpen_keeps (s : State) (m : List Nat) : Keeps 1048577 s (State.debugOpen s m) := by
  unfold State.debugOpen
  extract_lets a0_0 a0_1 a0_2 a0_3 a0_4
  have h_a0_2 : Keeps 1048577 s a0_2 := (Keeps.ite (Keeps.step (State.setTrust_keeps ..) (by decide) (Keeps.refl _ _)) (Keeps.refl _ _))
  have h_a0_3 : Keeps 1048577 s a0_3 := (Keeps.step (State.wr_keeps ..) (by decide) h_a0_2)
  exact (Keeps.step (State.setTrust_keeps ..) (by decide) h_a0_3)

theorem State.hssInstall_keeps (s : State) : Keeps 1048577 s (State.hssInstall s) := by
  unfold State.hssInstall
  extract_lets a0_0 a0_1 a0_2 a0_3 a0_4
  have h_a0_1 : Keeps 1048577 s a0_1 := (Keeps.step (State.setTrust_keeps ..) (by decide) (Keeps.refl _ _))
  have h_a0_2 : Keeps 1048577 s a0_2 := (Keeps.step (State.wr_keeps ..) (by decide) (Keeps.step (State.wr_keeps ..) (by decide) h_a0_1))
  exact (Keeps.step (State.wr_keeps ..) (by decide) (Keeps.step (State.trmFill_keeps ..) (by decide) h_a0_2))

theorem State.attested_keeps (s : State) (m : List Nat) : Keeps 1048577 s (State.attested s m) := by
  unfold State.attested
  exact (Keeps.step (State.wr_keeps ..) (by decide) (Keeps.step (State.trmFill_keeps ..) (by decide) (Keeps.refl _ _)))

theorem State.trmEnd_keeps (s : State) (r : Nat) : Keeps 1611661313 s (State.trmEnd s r) := by
  unfold State.trmEnd
  extract_lets a0_0 a0_1
  have h_a0_1 : Keeps 1611661313 s a0_1 := (Keeps.step (State.setTrust_keeps ..) (by decide) (Keeps.refl _ _))
  exact (Keeps.step (State.event_keeps ..) (by decide) (Keeps.step (State.wr_keeps ..) (by decide) (Keeps.step (State.wr_keeps ..) (by decide)
      h_a0_1)))

theorem State.trmDone_keeps (s : State) (ok : Bool) : Keeps 1880104961 s (State.trmDone s ok) := by
  unfold State.trmDone
  split
  · exact (Keeps.refl _ _)
  · refine (Keeps.ite (Keeps.step (State.trmEnd_keeps ..) (by decide) (Keeps.refl _ _)) ?_)
    refine (Keeps.ite (Keeps.step (State.trmEnd_keeps ..) (by decide) (Keeps.refl _ _)) ?_)
    extract_lets a2_0 a2_1
    have h_a2_0 : Keeps 1880104961 s a2_0 := (Keeps.ite (Keeps.step (State.lcAdvance_keeps ..) (by decide) (Keeps.refl _ _)) (Keeps.ite (Keeps.step
        (State.rootInstall_keeps ..) (by decide) (Keeps.refl _ _)) (Keeps.ite (Keeps.step (State.debugOpen_keeps ..) (by decide) (Keeps.refl _ _))
        (Keeps.ite (Keeps.step (State.debugClose_keeps ..) (by decide) (Keeps.refl _ _)) (Keeps.ite (Keeps.step (State.setDraws_keeps ..) (by
        decide) (Keeps.step (State.wr_keeps ..) (by decide) (Keeps.step (State.wr_keeps ..) (by decide) (Keeps.refl _ _)))) (Keeps.ite (Keeps.step
        (State.hssInstall_keeps ..) (by decide) (Keeps.refl _ _)) (Keeps.ite (Keeps.step (State.attested_keeps ..) (by decide) (Keeps.refl _ _))
        (Keeps.refl _ _))))))))
    have h_a2_1 : Keeps 1880104961 s a2_1 := (Keeps.step (State.trmEnd_keeps ..) (by decide) h_a2_0)
    exact (Keeps.ite (Keeps.step (State.trmFree_keeps ..) (by decide) h_a2_1) h_a2_1)

theorem State.setShState_keeps (s : State) (k : Nat) (v : Nat) : Keeps 1 s (State.setShState s k v) := by
  unfold State.setShState
  exact (Keeps.step (State.wr_keeps ..) (by decide) (Keeps.refl _ _))

theorem State.shadowByte_keeps (s : State) (init : Nat) (k : Nat) (i : Nat) (b : Nat) : Keeps 1048577 s (State.shadowByte s init k i b) := by
  unfold State.shadowByte
  refine (Keeps.ite (Keeps.refl _ _) ?_)
  extract_lets a0_0 a0_1 a0_2 a0_3
  have h_a0_1 : Keeps 1048577 s a0_1 := (Keeps.ite (Keeps.step (State.setTrust_keeps ..) (by decide) (Keeps.step (State.setShState_keeps ..) (by
      decide) (Keeps.refl _ _))) (Keeps.refl _ _))
  exact (Keeps.step (State.setTrust_keeps ..) (by decide) h_a0_1)

theorem State.shadowZero_keeps (s : State) (k : Nat) : Keeps 1048577 s (State.shadowZero s k) := by
  unfold State.shadowZero
  exact (Keeps.step (State.setTrust_keeps ..) (by decide) (Keeps.step (State.setShState_keeps ..) (by decide) (Keeps.refl _ _)))

theorem State.unwrapDone_keeps (s : State) (k : Nat) : Keeps 1611661313 s (State.unwrapDone s k) := by
  unfold State.unwrapDone
  refine (Keeps.ite (Keeps.refl _ _) ?_)
  extract_lets a0_0 a0_1 a0_2 a0_3
  have h_a0_2 : Keeps 1611661313 s a0_2 := (Keeps.step (State.setTrust_keeps ..) (by decide) (Keeps.refl _ _))
  clear_value a0_0 a0_1 a0_2 a0_3
  split
  · exact (Keeps.step (State.event_keeps ..) (by decide) (Keeps.step (State.setTrust_keeps ..) (by decide) (Keeps.step (State.setShState_keeps ..)
      (by decide) h_a0_2)))
  · exact (Keeps.step (State.event_keeps ..) (by decide) (Keeps.step (State.sticky_keeps ..) (by decide) (Keeps.step (State.setShState_keeps ..) (by
      decide) h_a0_2)))

theorem State.shadowCommit_keeps (s : State) (k : Nat) : Keeps 1048577 s (State.shadowCommit s k) := by
  unfold State.shadowCommit
  extract_lets a0_0 a0_1
  have h_a0_1 : Keeps 1048577 s a0_1 := (Keeps.step (State.setTrust_keeps ..) (by decide) (Keeps.refl _ _))
  exact (Keeps.step (State.shadowZero_keeps ..) (by decide) (Keeps.step (State.wr_keeps ..) (by decide) h_a0_1))

theorem State.slotLoad_keeps (s : State) (k : Nat) (b : Blob) (x : Nat) : Keeps 1048577 s (State.slotLoad s k b x) := by
  unfold State.slotLoad
  extract_lets a0_0 a0_1 a0_2 a0_3
  have h_a0_1 : Keeps 1048577 s a0_1 := (Keeps.foldl (Keeps.refl _ _) (fun t1 y1 k1 => (Keeps.step (State.wr_keeps ..) (by decide) k1)))
  have h_a0_2 : Keeps 1048577 s a0_2 := (Keeps.step (State.wr_keeps ..) (by decide) (Keeps.step (State.wr_keeps ..) (by decide) h_a0_1))
  exact (Keeps.step (State.setTrust_keeps ..) (by decide) (Keeps.step (State.wr_keeps ..) (by decide) h_a0_2))

theorem State.loadBlob_keeps (s : State) (k : Nat) (ofs : Nat) (c0 : Blob) (c1 : Blob) : Keeps 1611661313 s (State.loadBlob s k ofs c0 c1) := by
  unfold State.loadBlob
  extract_lets a0_0 a0_1 a0_2 a0_3 a0_4
  have h_a0_2 : Keeps 1611661313 s a0_2 := (Keeps.step (State.setTrust_keeps ..) (by decide) (Keeps.refl _ _))
  have h_a0_4 : Keeps 1611661313 s a0_4 := (Keeps.ite h_a0_2 (Keeps.step (State.wr_keeps ..) (by decide) h_a0_2))
  clear_value a0_1 a0_2 a0_3 a0_4
  split
  · exact (Keeps.step (State.slotLoad_keeps ..) (by decide) h_a0_2)
  · exact (Keeps.step (State.sticky_keeps ..) (by decide) h_a0_4)

theorem State.persisted_keeps (s : State) (ok : Bool) : Keeps 1611661313 s (State.persisted s ok) := by
  unfold State.persisted
  split
  · exact (Keeps.refl _ _)
  · extract_lets a2_0 a2_1 a2_2 a2_3
    have h_a2_1 : Keeps 1611661313 s a2_1 := (Keeps.step (State.wr_keeps ..) (by decide) (Keeps.step (State.setTrust_keeps ..) (by decide)
        (Keeps.refl _ _)))
    exact (Keeps.ite (Keeps.step (State.sticky_keeps ..) (by decide) h_a2_1) (Keeps.step (State.setTrust_keeps ..) (by decide) h_a2_1))

theorem State.tamperZero_keeps (s : State) (k : Nat) : Keeps 1611932673 s (State.tamperZero s k) := by
  unfold State.tamperZero
  extract_lets a0_0 a0_1 a0_2 a0_3 a0_4 a0_5
  have h_a0_1 : Keeps 1611932673 s a0_1 := (Keeps.step (State.authClear_keeps ..) (by decide) (Keeps.step (State.setTrust_keeps ..) (by decide)
      (Keeps.refl _ _)))
  have h_a0_2 : Keeps 1611932673 s a0_2 := (Keeps.ite (Keeps.step (State.wr_keeps ..) (by decide) h_a0_1) h_a0_1)
  have h_a0_4 : Keeps 1611932673 s a0_4 := (Keeps.step (State.count_keeps ..) (by decide) (Keeps.step (State.setPwr_keeps ..) (by decide) h_a0_2))
  have h_a0_5 : Keeps 1611932673 s a0_5 := (Keeps.ite (Keeps.step (State.wr_keeps ..) (by decide) h_a0_4) h_a0_4)
  exact (Keeps.step (State.event_keeps ..) (by decide) (Keeps.step (State.troubleRecord_keeps ..) (by decide) h_a0_5))

theorem State.tamperRestart_keeps (s : State) : Keeps 1744830463 s (State.tamperRestart s) := by
  unfold State.tamperRestart
  extract_lets a0_0 a0_1 a0_2 a0_3 a0_4 a0_5 a0_6 a0_7 a0_8
  have h_a0_2 : Keeps 1744830463 s a0_2 := (Keeps.step (State.entryEnds_keeps ..) (by decide) (Keeps.step (State.startCause_keeps ..) (by decide)
      (Keeps.refl _ _)))
  have h_a0_3 : Keeps 1744830463 s a0_3 := (Keeps.step (State.resetFields_keeps ..) (by decide) (Keeps.step (State.ixLost_keeps ..) (by decide)
      (Keeps.step (State.gxLost_keeps ..) (by decide) h_a0_2)))
  have h_a0_4 : Keeps 1744830463 s a0_4 := (Keeps.each h_a0_3 (fun t1 y1 k1 => (Keeps.step (State.wr_keeps ..) (by decide) k1)))
  have h_a0_5 : Keeps 1744830463 s a0_5 := (Keeps.each h_a0_4 (fun t2 y2 k2 => (Keeps.step (State.chOutput_keeps ..) (by decide) (Keeps.step
      (State.wr_keeps ..) (by decide) k2))))
  have h_a0_6 : Keeps 1744830463 s a0_6 := (Keeps.each h_a0_5 (fun t3 y3 k3 => (Keeps.step (State.hbApply_keeps ..) (by decide) k3)))
  have h_a0_7 : Keeps 1744830463 s a0_7 := (Keeps.step (State.wakeAll_keeps ..) (by decide) h_a0_6)
  exact (Keeps.step (State.setPwr_keeps ..) (by decide) h_a0_7)

theorem tamper_keeps (k : Nat) (s : State) : Keeps 1744830463 s (tamper k s) := by
  unfold tamper
  extract_lets a0_0 a0_1 a0_2 a0_3
  have h_a0_0 : Keeps 1744830463 s a0_0 := (Keeps.step (State.wr_keeps ..) (by decide) (Keeps.refl _ _))
  have h_a0_1 : Keeps 1744830463 s a0_1 := (Keeps.step (State.tamperZero_keeps ..) (by decide) h_a0_0)
  have h_a0_2 : Keeps 1744830463 s a0_2 := (Keeps.step (State.shadowsZero_keeps ..) (by decide) (Keeps.step (State.slotsZero_keeps ..) (by decide)
      h_a0_1))
  have h_a0_3 : Keeps 1744830463 s a0_3 := (Keeps.ite (Keeps.step (State.trmEnd_keeps ..) (by decide) h_a0_2) h_a0_2)
  exact (Keeps.ite h_a0_0 (Keeps.ite (Keeps.step (State.tamperRestart_keeps ..) (by decide) (Keeps.step (State.debugClose_keeps ..) (by decide)
      h_a0_3)) h_a0_1))

/-! ## Supply -/

theorem State.powerOff_keeps (s : State) : Keeps 1610747905 s (State.powerOff s) := by
  unfold State.powerOff
  exact (Keeps.step (State.wioSync_keeps ..) (by decide) (Keeps.step (State.wr_keeps ..) (by decide) (Keeps.step (State.setPins_keeps ..) (by
      decide) (Keeps.refl _ _))))

theorem State.wantStart_keeps (s : State) : Keeps 1073745920 s (State.wantStart s) := by
  unfold State.wantStart
  exact (Keeps.step (State.setPins_keeps ..) (by decide) (Keeps.refl _ _))

theorem State.recordFails_keeps (s : State) (l : List Fail) : Keeps 1610620929 s (State.recordFails s l) := by
  unfold State.recordFails
  extract_lets a0_0 a0_1 a0_2 a0_3
  have h_a0_1 : Keeps 1610620929 s a0_1 := by
    unfold a0_1
    clear_value a0_0
    refine (Keeps.each (Keeps.refl _ _) ?_)
    refine (fun t1 y1 k1 => ?_)
    extract_lets a2_0
    exact (Keeps.step (State.wr_keeps ..) (by decide) (Keeps.step (State.wr_keeps ..) (by decide) (Keeps.step (State.wr_keeps ..) (by decide)
        (Keeps.step (State.wr_keeps ..) (by decide) k1))))
  have h_a0_3 : Keeps 1610620929 s a0_3 := (Keeps.step (State.setPwr_keeps ..) (by decide) (Keeps.step (State.wr_keeps ..) (by decide) h_a0_1))
  exact (Keeps.ite h_a0_3 (Keeps.step (State.sticky_keeps ..) (by decide) h_a0_3))

theorem State.assignSpares_keeps (s : State) : Keeps 1610621057 s (State.assignSpares s) := by
  unfold State.assignSpares
  extract_lets a0_0 a0_1 a0_2 a0_3 a0_4 a0_5 a0_6 a0_7 a0_8 a0_9
  have h_a0_1 : Keeps 1610621057 s a0_1 := by
    unfold a0_1
    clear_value a0_0
    refine (Keeps.each (Keeps.refl _ _) ?_)
    refine (fun t1 y1 k1 => ?_)
    split
    · exact (Keeps.step (State.wr_keeps ..) (by decide) k1)
    · exact k1
  have h_a0_3 : Keeps 1610621057 s a0_3 := (Keeps.step (State.wr_keeps ..) (by decide) (Keeps.step (State.wr_keeps ..) (by decide) h_a0_1))
  have h_a0_4 : Keeps 1610621057 s a0_4 := (Keeps.step (State.wr_keeps ..) (by decide) h_a0_3)
  have h_a0_7 : Keeps 1610621057 s a0_7 := (Keeps.step (State.wr_keeps ..) (by decide) (Keeps.step (State.setFab_keeps ..) (by decide) h_a0_4))
  have h_a0_9 : Keeps 1610621057 s a0_9 := (Keeps.step (State.setPwr_keeps ..) (by decide) h_a0_7)
  exact (Keeps.ite h_a0_9 (Keeps.step (State.event_keeps ..) (by decide) (Keeps.step (State.sticky_keeps ..) (by decide) h_a0_9)))

theorem State.irqFresh_keeps (s : State) : Keeps 3 s (State.irqFresh s) := by
  unfold State.irqFresh
  exact (Keeps.step (State.resetFields_keeps ..) (by decide) (Keeps.refl _ _))

theorem State.hssCheck_keeps (s : State) : Keeps 1048577 s (State.hssCheck s) := by
  unfold State.hssCheck
  extract_lets a0_0 a0_1 a0_2
  have h_a0_1 : Keeps 1048577 s a0_1 := (Keeps.ite (Keeps.step (State.wr_keeps ..) (by decide) (Keeps.refl _ _)) (Keeps.refl _ _))
  exact (Keeps.step (State.setTrust_keeps ..) (by decide) h_a0_1)

theorem State.freshAtStart_keeps (s : State) : Keeps 1610620929 s (State.freshAtStart s) := by
  unfold State.freshAtStart
  extract_lets a0_0 a0_1
  have h_a0_0 : Keeps 1610620929 s a0_0 := (Keeps.ite (Keeps.step (State.authReload_keeps ..) (by decide) (Keeps.refl _ _)) (Keeps.step
      (State.authRestore_keeps ..) (by decide) (Keeps.refl _ _)))
  exact (Keeps.step (State.setPwr_keeps ..) (by decide) h_a0_0)

theorem State.gxStart_keeps (s : State) (xsrc : Bool) : Keeps 1678783651 s (State.gxStart s xsrc) := by
  unfold State.gxStart
  extract_lets a0_0 a0_1 a0_2 a0_3 a0_4 a0_5 a0_6 a0_7 a0_8 a0_9 a0_10 a0_11 a0_12 a0_13 a0_14 a0_15 a0_16 a0_17 a0_18
  have h_a0_0 : Keeps 1678783651 s a0_0 := (Keeps.step (State.irqFresh_keeps ..) (by decide) (Keeps.refl _ _))
  have h_a0_3 : Keeps 1678783651 s a0_3 := (Keeps.step (State.setPins_keeps ..) (by decide) (Keeps.setFlt h_a0_0 (by decide) (fun hc =>
      ⟨hc.2.2.2.2.1, hc.2.2.2.2.2.1, Nat.mod_lt _ (by decide)⟩)))
  have h_a0_4 : Keeps 1678783651 s a0_4 := (Keeps.step (State.wr_keeps ..) (by decide) h_a0_3)
  have h_a0_5 : Keeps 1678783651 s a0_5 := (Keeps.step (State.wr_keeps ..) (by decide) h_a0_4)
  have h_a0_6 : Keeps 1678783651 s a0_6 := (Keeps.step (State.wr_keeps ..) (by decide) h_a0_5)
  have h_a0_8 : Keeps 1678783651 s a0_8 := (Keeps.step (State.wr_keeps ..) (by decide) h_a0_6)
  have h_a0_10 : Keeps 1678783651 s a0_10 := (Keeps.step (State.setPwr_keeps ..) (by decide) h_a0_8)
  have h_a0_11 : Keeps 1678783651 s a0_11 := (Keeps.each h_a0_10 (fun t1 y1 k1 => (Keeps.step (State.wr_keeps ..) (by decide) k1)))
  have h_a0_12 : Keeps 1678783651 s a0_12 := (Keeps.ite (Keeps.step (State.event_keeps ..) (by decide) h_a0_11) h_a0_11)
  have h_a0_14 : Keeps 1678783651 s a0_14 := (Keeps.step (State.setPwr_keeps ..) (by decide) h_a0_12)
  have h_a0_16 : Keeps 1678783651 s a0_16 := (Keeps.step (State.setLeg_keeps ..) (by decide) h_a0_14)
  have h_a0_17 : Keeps 1678783651 s a0_17 := (Keeps.step (State.freshAtStart_keeps ..) (by decide) (Keeps.step (State.hssCheck_keeps ..) (by decide)
      h_a0_16))
  exact (Keeps.ite h_a0_17 (Keeps.step (State.setCfg_keeps ..) (by decide) (Keeps.step (State.assignSpares_keeps ..) (by decide) h_a0_17)))

/-- Everything but the queue may be lost; what is left is in canonical form. -/
theorem State.aonGone_keeps (s : State) (p : PowerState) (bor en : Bool) : Keeps 2147483647 s (s.aonGone p bor en) := by
  have all : ∀ u : Part, Nat.testBit 2147483647 u.code = false → False := by intro u; cases u <;> decide
  unfold State.aonGone
  extract_lets trial x y t a b c d r r1 r2
  have hx : Keeps 2147483647 s x := Keeps.step (State.failOff_keeps ..) (by decide) (Keeps.step (State.trialEnds_keeps ..) (by decide) (Keeps.refl _
      _))
  clear_value x trial
  have hr : Keeps 2147483647 s r := ⟨hx.1, fun _ => canon_like_reset rfl rfl rfl rfl rfl, fun u hu => (all u hu).elim⟩
  have h1 : Keeps 2147483647 s r1 := Keeps.each hr fun _ _ h => Keeps.step (State.wr_keeps ..) (by decide) h
  have h2 : Keeps 2147483647 s r2 := Keeps.each h1 fun _ _ h => Keeps.step (State.wr_keeps ..) (by decide) h
  exact Keeps.ite h2 (Keeps.step (State.wr_keeps ..) (by decide) (Keeps.step (State.wr_keeps ..) (by decide) h2))

theorem State.unmanagedSleep_keeps (s : State) (n : Nat) : Keeps 1610712209 s (State.unmanagedSleep s n) := by
  unfold State.unmanagedSleep
  refine (Keeps.ite (Keeps.refl _ _) ?_)
  refine (Keeps.ite (Keeps.step (State.hopDrain_keeps ..) (by decide) (Keeps.refl _ _)) ?_)
  refine (Keeps.ite ?_ ?_)
  · extract_lets a0_0 a0_1
    have h_a0_1 : Keeps 1610712209 s a0_1 := (Keeps.step (State.canDropCopies_keeps ..) (by decide) (Keeps.refl _ _))
    exact (Keeps.step (State.wr_keeps ..) (by decide) (Keeps.ite h_a0_1 (Keeps.step (State.setCanState_keeps ..) (by decide) h_a0_1)))
  · extract_lets a1_0 a1_1
    have h_a1_1 : Keeps 1610712209 s a1_1 := (Keeps.step (State.linDropAll_keeps ..) (by decide) (Keeps.refl _ _))
    exact (Keeps.step (State.wr_keeps ..) (by decide) (Keeps.ite h_a1_1 (Keeps.step (State.linStop_keeps ..) (by decide) h_a1_1)))

theorem State.enterPark_keeps (s : State) : Keeps 1610756097 s (State.enterPark s) := by
  unfold State.enterPark
  extract_lets a0_0 a0_1
  have h_a0_1 : Keeps 1610756097 s a0_1 := (Keeps.step (State.setPwr_keeps ..) (by decide) (Keeps.refl _ _))
  exact (Keeps.step (State.powerOff_keeps ..) (by decide) h_a0_1)

theorem State.parkCommit_keeps (s : State) : Keeps 1744830463 s (State.parkCommit s) := by
  unfold State.parkCommit
  extract_lets a0_0 a0_1 a0_2 a0_3 a0_4 a0_5 a0_6 a0_7 a0_8
  have h_a0_3 : Keeps 1744830463 s a0_3 := (Keeps.step (State.setPwr_keeps ..) (by decide) (Keeps.refl _ _))
  have h_a0_4 : Keeps 1744830463 s a0_4 := (Keeps.step (State.armInputs_keeps ..) (by decide) (Keeps.step (State.failOff_keeps ..) (by decide)
      h_a0_3))
  have h_a0_5 : Keeps 1744830463 s a0_5 := (Keeps.each h_a0_4 (fun t1 y1 k1 => (Keeps.step (State.unmanagedSleep_keeps ..) (by decide) k1)))
  have h_a0_6 : Keeps 1744830463 s a0_6 := (Keeps.ite (Keeps.step (State.wr_keeps ..) (by decide) h_a0_5) h_a0_5)
  have h_a0_7 : Keeps 1744830463 s a0_7 := (Keeps.step (State.resetFields_keeps ..) (by decide) (Keeps.step (State.gxLost_keeps ..) (by decide)
      (Keeps.step (State.clearPark_keeps ..) (by decide) h_a0_6)))
  exact (Keeps.ite (Keeps.step (State.setPwr_keeps ..) (by decide) h_a0_7) (Keeps.step (State.enterPark_keeps ..) (by decide) h_a0_7))

theorem State.parkEntry_keeps (s : State) : Keeps 1744830463 s (State.parkEntry s) := by
  unfold State.parkEntry
  exact (Keeps.step (State.parkCommit_keeps ..) (by decide) (Keeps.step (State.authWriteBack_keeps ..) (by decide) (Keeps.step
      (State.stopRings_keeps ..) (by decide) (Keeps.refl _ _))))

theorem State.selfTestDone_keeps (s : State) (fail : Bool) : Keeps 1610756097 s (State.selfTestDone s fail) := by
  unfold State.selfTestDone
  extract_lets a0_0 a0_1 a0_2 a0_3 a0_4
  have h_a0_0 : Keeps 1610756097 s a0_0 := (Keeps.step (State.recordFails_keeps ..) (by decide) (Keeps.refl _ _))
  have h_a0_1 : Keeps 1610756097 s a0_1 := (Keeps.ite (Keeps.step (State.sticky_keeps ..) (by decide) h_a0_0) h_a0_0)
  have h_a0_2 : Keeps 1610756097 s a0_2 := (Keeps.ite (Keeps.step (State.sticky_keeps ..) (by decide) h_a0_1) h_a0_1)
  have h_a0_4 : Keeps 1610756097 s a0_4 := (Keeps.step (State.setPwr_keeps ..) (by decide) (Keeps.step (State.wr_keeps ..) (by decide) h_a0_2))
  exact (Keeps.step (State.enterPark_keeps ..) (by decide) h_a0_4)

theorem State.mpLeases_keeps (s : State) : Keeps 1611662913 s (State.mpLeases s) := by
  unfold State.mpLeases
  extract_lets a0_0 a0_1
  have h_a0_0 : Keeps 1611662913 s a0_0 := (Keeps.ite (Keeps.step (tblLeaseExpiry_keeps ..) (by decide) (Keeps.refl _ _)) (Keeps.refl _ _))
  have h_a0_1 : Keeps 1611662913 s a0_1 := (Keeps.each h_a0_0 (fun t1 y1 k1 => (Keeps.ite (Keeps.step (State.leaseRevoked_keeps ..) (by decide)
      (Keeps.step (State.shadowZero_keeps ..) (by decide) k1)) k1)))
  exact (Keeps.ite (Keeps.step (State.leaseRevoked_keeps ..) (by decide) (Keeps.step (State.trmFree_keeps ..) (by decide) h_a0_1)) h_a0_1)

theorem State.mpWarm_keeps (s : State) : Keeps 1611687495 s (State.mpWarm s) := by
  unfold State.mpWarm
  extract_lets a0_0 a0_1 a0_2 a0_3
  have h_a0_0 : Keeps 1611687495 s a0_0 := (Keeps.step (State.holdRow_keeps ..) (by decide) (Keeps.step (State.mpLeases_keeps ..) (by decide)
      (Keeps.refl _ _)))
  have h_a0_1 : Keeps 1611687495 s a0_1 := (Keeps.step (State.resetFields_keeps ..) (by decide) h_a0_0)
  have h_a0_2 : Keeps 1611687495 s a0_2 := (Keeps.setHolds h_a0_1 (by decide) (fun hc => filter_sorted hc.2.2.1 _))
  exact (Keeps.step (State.wr_keeps ..) (by decide) (Keeps.step (State.setPwr_keeps ..) (by decide) h_a0_2))

/-! ## Power -/

theorem powerOn_keeps (vbatGood : Bool) (s : State) : Keeps 2147483647 s (powerOn vbatGood s) := by
  unfold powerOn
  exact (Keeps.ite (Keeps.refl _ _) (Keeps.ite (Keeps.step (State.aonGone_keeps ..) (by decide) (Keeps.refl _ _)) (Keeps.step (State.aonGone_keeps
      ..) (by decide) (Keeps.refl _ _))))

theorem execPowerOnReset_keeps (vbatGood : Bool) (s : State) : KeepsR 2147483647 s (execPowerOnReset vbatGood s) := by
  unfold execPowerOnReset
  exact (KeepsR.next (Keeps.step (powerOn_keeps ..) (by decide) (Keeps.step (fresh_keeps ..) (by decide) (Keeps.refl _ _))))

theorem aonLost_keeps (s : State) : Keeps 2147483647 s (aonLost s) := by
  unfold aonLost
  exact (Keeps.ite (Keeps.refl _ _) (Keeps.step (State.aonGone_keeps ..) (by decide) (Keeps.refl _ _)))

theorem execAonSupplyLost_keeps (s : State) : KeepsR 2147483647 s (execAonSupplyLost s) := by
  unfold execAonSupplyLost
  exact (KeepsR.next (Keeps.step (aonLost_keeps ..) (by decide) (Keeps.step (fresh_keeps ..) (by decide) (Keeps.refl _ _))))

theorem borBegin_keeps (s : State) : Keeps 1744830463 s (borBegin s) := by
  unfold borBegin
  refine (Keeps.ite (Keeps.refl _ _) ?_)
  extract_lets a0_0 a0_1 a0_2 a0_3 a0_4 a0_5 a0_6
  have h_a0_1 : Keeps 1744830463 s a0_1 := (Keeps.step (State.coreReset_keeps ..) (by decide) (Keeps.step (State.startCause_keeps ..) (by decide)
      (Keeps.when (Keeps.refl _ _) (fun t1 k1 => (Keeps.step (State.abandonPark_keeps ..) (by decide) k1)))))
  have h_a0_3 : Keeps 1744830463 s a0_3 := (Keeps.step (State.setPwr_keeps ..) (by decide) h_a0_1)
  have h_a0_5 : Keeps 1744830463 s a0_5 := (Keeps.ite (Keeps.step (State.powerOff_keeps ..) (by decide) h_a0_3) (Keeps.step (State.setPins_keeps ..)
      (by decide) h_a0_3))
  exact (Keeps.step (State.setPins_keeps ..) (by decide) h_a0_5)

theorem execBorBegin_keeps (s : State) : KeepsR 1744830463 s (execBorBegin s) := by
  unfold execBorBegin
  exact (KeepsR.next (Keeps.step (borBegin_keeps ..) (by decide) (Keeps.step (fresh_keeps ..) (by decide) (Keeps.refl _ _))))

theorem borEnd_keeps (s : State) : Keeps 1073754112 s (borEnd s) := by
  unfold borEnd
  extract_lets a0_0 a0_1 a0_2
  have h_a0_1 : Keeps 1073754112 s a0_1 := (Keeps.step (State.setPins_keeps ..) (by decide) (Keeps.refl _ _))
  exact (Keeps.ite (Keeps.step (State.startPower_keeps ..) (by decide) (Keeps.step (State.setPwr_keeps ..) (by decide) h_a0_1)) h_a0_1)

theorem execBorEnd_keeps (s : State) : KeepsR 1610625024 s (execBorEnd s) := by
  unfold execBorEnd
  exact (KeepsR.next (Keeps.step (borEnd_keeps ..) (by decide) (Keeps.step (fresh_keeps ..) (by decide) (Keeps.refl _ _))))

theorem pinReset_keeps (s : State) : Keeps 1744830463 s (pinReset s) := by
  unfold pinReset
  extract_lets a0_0 a0_1
  have h_a0_1 : Keeps 1744830463 s a0_1 := (Keeps.step (State.setPins_keeps ..) (by decide) (Keeps.refl _ _))
  exact (Keeps.ite h_a0_1 (Keeps.step (State.coreReset_keeps ..) (by decide) (Keeps.ite (Keeps.step (State.startCause_keeps ..) (by decide) h_a0_1)
      h_a0_1)))

theorem execPinReset_keeps (s : State) : KeepsR 1744830463 s (execPinReset s) := by
  unfold execPinReset
  exact (KeepsR.next (Keeps.step (pinReset_keeps ..) (by decide) (Keeps.step (fresh_keeps ..) (by decide) (Keeps.refl _ _))))

theorem pinResetEnd_keeps (s : State) : Keeps 1073754112 s (pinResetEnd s) := by
  unfold pinResetEnd
  extract_lets a0_0 a0_1 a0_2 a0_3
  have h_a0_1 : Keeps 1073754112 s a0_1 := (Keeps.step (State.setPins_keeps ..) (by decide) (Keeps.refl _ _))
  have h_a0_3 : Keeps 1073754112 s a0_3 := (Keeps.step (State.setPwr_keeps ..) (by decide) h_a0_1)
  exact (Keeps.ite (Keeps.ite h_a0_3 (Keeps.step (State.startPower_keeps ..) (by decide) h_a0_3)) h_a0_1)

theorem execPinResetEnd_keeps (s : State) : KeepsR 1610625024 s (execPinResetEnd s) := by
  unfold execPinResetEnd
  exact (KeepsR.next (Keeps.step (pinResetEnd_keeps ..) (by decide) (Keeps.step (fresh_keeps ..) (by decide) (Keeps.refl _ _))))

theorem modeSample_keeps (mv : Nat) (s : State) : Keeps 1677729793 s (modeSample mv s) := by
  unfold modeSample
  refine (Keeps.ite (Keeps.refl _ _) ?_)
  extract_lets a0_0 a0_1 a0_2 a0_3 a0_4
  have h_a0_2 : Keeps 1677729793 s a0_2 := (Keeps.step (State.setPwr_keeps ..) (by decide) (Keeps.step (State.wr_keeps ..) (by decide) (Keeps.refl _
      _)))
  have h_a0_4 : Keeps 1677729793 s a0_4 := (Keeps.step (State.setLeg_keeps ..) (by decide) h_a0_2)
  exact (Keeps.ite h_a0_4 (Keeps.step (State.sticky_keeps ..) (by decide) h_a0_4))

theorem execModeSample_keeps (mv : Fin 4096) (s : State) : KeepsR 1677729793 s (execModeSample mv s) := by
  unfold execModeSample
  exact (KeepsR.next (Keeps.step (modeSample_keeps ..) (by decide) (Keeps.step (fresh_keeps ..) (by decide) (Keeps.refl _ _))))

theorem limpEdge_keeps (k : Nat) (high : Bool) (s : State) : Keeps 536887297 s (limpEdge k high s) := by
  unfold limpEdge
  refine (Keeps.ite (Keeps.refl _ _) ?_)
  extract_lets a0_0 a0_1
  have h_a0_1 : Keeps 536887297 s a0_1 := (Keeps.step (State.wr_keeps ..) (by decide) (Keeps.refl _ _))
  exact (Keeps.each h_a0_1 (fun t1 y1 k1 => (Keeps.step (State.chOutput_keeps ..) (by decide) (Keeps.step (State.chEval_keeps ..) (by decide) k1))))

theorem execLimpInEdge_keeps (k : Fin 4) (high : Bool) (s : State) : KeepsR 536887297 s (execLimpInEdge k high s) := by
  unfold execLimpInEdge
  exact (KeepsR.next (Keeps.step (limpEdge_keeps ..) (by decide) (Keeps.step (fresh_keeps ..) (by decide) (Keeps.refl _ _))))

theorem execSafeNUpdate_keeps (s : State) : KeepsR 536870913 s (execSafeNUpdate s) := by
  unfold execSafeNUpdate
  exact (KeepsR.next (Keeps.step (State.wr_keeps ..) (by decide) (Keeps.step (fresh_keeps ..) (by decide) (Keeps.refl _ _))))

theorem pgoodHigh_keeps (s : State) : Keeps 1610747905 s (pgoodHigh s) := by
  unfold pgoodHigh
  exact (Keeps.ite (Keeps.step (State.wioSync_keeps ..) (by decide) (Keeps.step (State.wr_keeps ..) (by decide) (Keeps.step (State.setPins_keeps ..)
      (by decide) (Keeps.refl _ _)))) (Keeps.refl _ _))

theorem execGxPgoodHigh_keeps (s : State) : KeepsR 1610747905 s (execGxPgoodHigh s) := by
  unfold execGxPgoodHigh
  exact (KeepsR.next (Keeps.step (pgoodHigh_keeps ..) (by decide) (Keeps.step (fresh_keeps ..) (by decide) (Keeps.refl _ _))))

theorem pgoodTimeout_keeps (s : State) : Keeps 1610764289 s (pgoodTimeout s) := by
  unfold pgoodTimeout
  refine (Keeps.ite (Keeps.refl _ _) ?_)
  extract_lets a0_0 a0_1 a0_2
  have h_a0_1 : Keeps 1610764289 s a0_1 := (Keeps.step (State.powerOff_keeps ..) (by decide) (Keeps.refl _ _))
  exact (Keeps.ite (Keeps.step (State.wantStart_keeps ..) (by decide) (Keeps.step (State.setPins_keeps ..) (by decide) h_a0_1)) (Keeps.step
      (State.startFailedRow_keeps ..) (by decide) (Keeps.step (State.sticky_keeps ..) (by decide) (Keeps.step (State.setPins_keeps ..) (by decide)
      h_a0_1))))

theorem execGxPgoodTimeout_keeps (s : State) : KeepsR 1610764289 s (execGxPgoodTimeout s) := by
  unfold execGxPgoodTimeout
  exact (KeepsR.next (Keeps.step (pgoodTimeout_keeps ..) (by decide) (Keeps.step (fresh_keeps ..) (by decide) (Keeps.refl _ _))))

theorem pgoodLost_keeps (s : State) : Keeps 1744830463 s (pgoodLost s) := by
  unfold pgoodLost
  exact (Keeps.ite (Keeps.step (State.wantStart_keeps ..) (by decide) (Keeps.step (State.powerOff_keeps ..) (by decide) (Keeps.step
      (State.wdogReset_keeps ..) (by decide) (Keeps.refl _ _)))) (Keeps.refl _ _))

theorem execGxPgoodLost_keeps (s : State) : KeepsR 1744830463 s (execGxPgoodLost s) := by
  unfold execGxPgoodLost
  exact (KeepsR.next (Keeps.step (pgoodLost_keeps ..) (by decide) (Keeps.step (fresh_keeps ..) (by decide) (Keeps.refl _ _))))

theorem offTimeEnd_keeps (s : State) : Keeps 1073745920 s (offTimeEnd s) := by
  unfold offTimeEnd
  extract_lets a0_0 a0_1
  exact (Keeps.step (State.setPins_keeps ..) (by decide) (Keeps.refl _ _))

theorem execOffTimeEnd_keeps (s : State) : KeepsR 1610616832 s (execOffTimeEnd s) := by
  unfold execOffTimeEnd
  exact (KeepsR.next (Keeps.step (offTimeEnd_keeps ..) (by decide) (Keeps.step (fresh_keeps ..) (by decide) (Keeps.refl _ _))))

theorem gxRelease_keeps (xsrc : Bool) (s : State) : Keeps 1678783651 s (gxRelease xsrc s) := by
  unfold gxRelease
  exact (Keeps.ite (Keeps.step (State.gxStart_keeps ..) (by decide) (Keeps.refl _ _)) (Keeps.refl _ _))

theorem execGxResetRelease_keeps (xsrc : Bool) (s : State) : KeepsR 1678783651 s (execGxResetRelease xsrc s) := by
  unfold execGxResetRelease
  exact (KeepsR.next (Keeps.step (gxRelease_keeps ..) (by decide) (Keeps.step (fresh_keeps ..) (by decide) (Keeps.refl _ _))))

theorem clockLoss_keeps (s : State) : Keeps 1744830463 s (clockLoss s) := by
  unfold clockLoss
  exact (Keeps.ite (Keeps.step (State.wdogReset_keeps ..) (by decide) (Keeps.step (State.troubleRecord_keeps ..) (by decide) (Keeps.step
      (State.sticky_keeps ..) (by decide) (Keeps.refl _ _)))) (Keeps.refl _ _))

theorem execClockLoss_keeps (s : State) : KeepsR 1744830463 s (execClockLoss s) := by
  unfold execClockLoss
  exact (KeepsR.next (Keeps.step (clockLoss_keeps ..) (by decide) (Keeps.step (fresh_keeps ..) (by decide) (Keeps.refl _ _))))

theorem heartbeatLost_keeps (s : State) : Keeps 1744830463 s (heartbeatLost s) := by
  unfold heartbeatLost
  exact (Keeps.ite (Keeps.step (State.wdogReset_keeps ..) (by decide) (Keeps.step (State.troubleRecord_keeps ..) (by decide) (Keeps.refl _ _)))
      (Keeps.refl _ _))

theorem execGxHeartbeatLost_keeps (s : State) : KeepsR 1744830463 s (execGxHeartbeatLost s) := by
  unfold execGxHeartbeatLost
  exact (KeepsR.next (Keeps.step (heartbeatLost_keeps ..) (by decide) (Keeps.step (fresh_keeps ..) (by decide) (Keeps.refl _ _))))

theorem startupChecked_keeps (fails : List MemFail) (s : State) : Keeps 1610621089 s (startupChecked fails s) := by
  unfold startupChecked
  refine (Keeps.ite ?_ (Keeps.refl _ _))
  extract_lets a0_0 a0_1
  have h_a0_0 : Keeps 1610621089 s a0_0 := (Keeps.step (State.assignSpares_keeps ..) (by decide) (Keeps.step (State.recordFails_keeps ..) (by
      decide) (Keeps.refl _ _)))
  exact (Keeps.step (State.event_keeps ..) (by decide) (Keeps.step (State.setCfg_keeps ..) (by decide) h_a0_0))

theorem execStartupCheckDone_keeps (fails : List MemFail) (s : State) : KeepsR 1610621089 s (execStartupCheckDone fails s) := by
  unfold execStartupCheckDone
  exact (KeepsR.next (Keeps.step (startupChecked_keeps ..) (by decide) (Keeps.step (fresh_keeps ..) (by decide) (Keeps.refl _ _))))

theorem park_keeps (s : State) : Keeps 1610637313 s (park s) := by
  unfold park
  exact (Keeps.step (State.parkCheck_keeps ..) (by decide) (Keeps.step (State.wr_keeps ..) (by decide) (Keeps.step (State.wr_keeps ..) (by decide)
      (Keeps.refl _ _))))

theorem execPwrPark_keeps (init : Initiator) (s : State) : KeepsR 1610638337 s (execPwrPark init s) := by
  unfold execPwrPark
  exact (KeepsR.next (Keeps.cmdField (by decide) (Keeps.step (fresh_keeps ..) (by decide) (Keeps.refl _ _)) (fun t0 k0 => (Keeps.step (park_keeps
      ..) (by decide) k0)) (fun _ => Keeps.step (State.endAccess_keeps ..) (by decide) (Keeps.step (State.violate_keeps ..) (by decide) (Keeps.step
      (fresh_keeps ..) (by decide) (Keeps.refl _ _))))))

theorem State.cancelPark_keeps (s : State) : Keeps 1610620929 s (State.cancelPark s) := by
  unfold State.cancelPark
  exact (Keeps.ite (Keeps.step (State.abandonPark_keeps ..) (by decide) (Keeps.refl _ _)) (Keeps.step (State.clearPark_keeps ..) (by decide)
      (Keeps.refl _ _)))

theorem execPwrCancel_keeps (init : Initiator) (s : State) : KeepsR 1610621953 s (execPwrCancel init s) := by
  unfold execPwrCancel
  exact (KeepsR.next (Keeps.cmdField (by decide) (Keeps.step (fresh_keeps ..) (by decide) (Keeps.refl _ _)) (fun t0 k0 => (Keeps.step
      (State.cancelPark_keeps ..) (by decide) k0)) (fun _ => Keeps.step (State.endAccess_keeps ..) (by decide) (Keeps.step (State.violate_keeps ..)
      (by decide) (Keeps.step (fresh_keeps ..) (by decide) (Keeps.refl _ _))))))

theorem parkDelay_keeps (s : State) : Keeps 1610637313 s (parkDelay s) := by
  unfold parkDelay
  exact (Keeps.ite (Keeps.step (State.entryBegins_keeps ..) (by decide) (Keeps.refl _ _)) (Keeps.refl _ _))

theorem execParkDelayExpiry_keeps (s : State) : KeepsR 1610637313 s (execParkDelayExpiry s) := by
  unfold execParkDelayExpiry
  exact (KeepsR.next (Keeps.step (parkDelay_keeps ..) (by decide) (Keeps.step (fresh_keeps ..) (by decide) (Keeps.refl _ _))))

theorem parkBegin_keeps (s : State) : Keeps 1744830463 s (parkBegin s) := by
  unfold parkBegin
  exact (Keeps.ite (Keeps.step (State.parkEntry_keeps ..) (by decide) (Keeps.refl _ _)) (Keeps.refl _ _))

theorem execParkEntryBegin_keeps (s : State) : KeepsR 1744830463 s (execParkEntryBegin s) := by
  unfold execParkEntryBegin
  exact (KeepsR.next (Keeps.step (parkBegin_keeps ..) (by decide) (Keeps.step (fresh_keeps ..) (by decide) (Keeps.refl _ _))))

theorem parkWait_keeps (s : State) : Keeps 1610629121 s (parkWait s) := by
  unfold parkWait
  exact (Keeps.ite (Keeps.step (State.enginesForced_keeps ..) (by decide) (Keeps.refl _ _)) (Keeps.refl _ _))

theorem execParkMeWaitExpiry_keeps (s : State) : KeepsR 1610629121 s (execParkMeWaitExpiry s) := by
  unfold execParkMeWaitExpiry
  exact (KeepsR.next (Keeps.step (parkWait_keeps ..) (by decide) (Keeps.step (fresh_keeps ..) (by decide) (Keeps.refl _ _))))

theorem ixTested_keeps (fail : Bool) (s : State) : Keeps 8192 s (ixTested fail s) := by
  unfold ixTested
  exact (Keeps.ite (Keeps.step (State.setPwr_keeps ..) (by decide) (Keeps.refl _ _)) (Keeps.refl _ _))

theorem execIxSelftestDone_keeps (fail : Bool) (s : State) : KeepsR 536879104 s (execIxSelftestDone fail s) := by
  unfold execIxSelftestDone
  exact (KeepsR.next (Keeps.step (ixTested_keeps ..) (by decide) (Keeps.step (fresh_keeps ..) (by decide) (Keeps.refl _ _))))

theorem memTested_keeps (fails : List MemFail) (s : State) : Keeps 8192 s (memTested fails s) := by
  unfold memTested
  exact (Keeps.ite (Keeps.step (State.setPwr_keeps ..) (by decide) (Keeps.refl _ _)) (Keeps.refl _ _))

theorem execMemorySelftestDone_keeps (fails : List MemFail) (s : State) : KeepsR 536879104 s (execMemorySelftestDone fails s) := by
  unfold execMemorySelftestDone
  exact (KeepsR.next (Keeps.step (memTested_keeps ..) (by decide) (Keeps.step (fresh_keeps ..) (by decide) (Keeps.refl _ _))))

theorem gxTested_keeps (fail : Bool) (s : State) : Keeps 1610756097 s (gxTested fail s) := by
  unfold gxTested
  exact (Keeps.ite (Keeps.step (State.selfTestDone_keeps ..) (by decide) (Keeps.refl _ _)) (Keeps.refl _ _))

theorem execGxSelftestDone_keeps (fail : Bool) (s : State) : KeepsR 1610756097 s (execGxSelftestDone fail s) := by
  unfold execGxSelftestDone
  exact (KeepsR.next (Keeps.step (gxTested_keeps ..) (by decide) (Keeps.step (fresh_keeps ..) (by decide) (Keeps.refl _ _))))

theorem deepAfter_keeps (s : State) : Keeps 8195 s (deepAfter s) := by
  unfold deepAfter
  exact (Keeps.ite (Keeps.step (State.setPwr_keeps ..) (by decide) (Keeps.step (State.resetFields_keeps ..) (by decide) (Keeps.refl _ _)))
      (Keeps.refl _ _))

theorem execDeepAfterExpiry_keeps (s : State) : KeepsR 536879107 s (execDeepAfterExpiry s) := by
  unfold execDeepAfterExpiry
  exact (KeepsR.next (Keeps.step (deepAfter_keeps ..) (by decide) (Keeps.step (fresh_keeps ..) (by decide) (Keeps.refl _ _))))

theorem execSoftReset_keeps (init : Initiator) (s : State) : KeepsR 1744830463 s (execSoftReset init s) := by
  unfold execSoftReset
  exact (KeepsR.next (Keeps.cmdField (by decide) (Keeps.step (fresh_keeps ..) (by decide) (Keeps.refl _ _)) (fun t0 k0 => (Keeps.step
      (State.softReset_keeps ..) (by decide) k0)) (fun _ => Keeps.step (State.endAccess_keeps ..) (by decide) (Keeps.step (State.violate_keeps ..)
      (by decide) (Keeps.step (fresh_keeps ..) (by decide) (Keeps.refl _ _))))))

theorem mpwarm_keeps (src : Option Initiator) (s : State) : Keeps 1611687495 s (mpwarm src s) := by
  unfold mpwarm
  split
  · exact (Keeps.cmdField (by decide) (Keeps.refl _ _) (fun t1 k1 => (Keeps.step (State.mpWarm_keeps ..) (by decide) k1)) (fun _ => Keeps.step
      (State.endAccess_keeps ..) (by decide) (Keeps.step (State.violate_keeps ..) (by decide) (Keeps.refl _ _))))
  · exact (Keeps.ite (Keeps.step (State.mpWarm_keeps ..) (by decide) (Keeps.refl _ _)) (Keeps.refl _ _))

theorem execMpwarmReset_keeps (src : Option Initiator) (s : State) : KeepsR 1611687495 s (execMpwarmReset src s) := by
  unfold execMpwarmReset
  exact (KeepsR.next (Keeps.step (mpwarm_keeps ..) (by decide) (Keeps.step (fresh_keeps ..) (by decide) (Keeps.refl _ _))))

theorem mpRestart_keeps (s : State) : Keeps 8193 s (mpRestart s) := by
  unfold mpRestart
  exact (Keeps.ite (Keeps.step (State.wr_keeps ..) (by decide) (Keeps.step (State.setPwr_keeps ..) (by decide) (Keeps.refl _ _))) (Keeps.refl _ _))

theorem execMpRestart_keeps (s : State) : KeepsR 536879105 s (execMpRestart s) := by
  unfold execMpRestart
  exact (KeepsR.next (Keeps.step (mpRestart_keeps ..) (by decide) (Keeps.step (fresh_keeps ..) (by decide) (Keeps.refl _ _))))

theorem kick_keeps (v : Nat) (s : State) : Keeps 8192 s (kick v s) := by
  unfold kick
  exact (Keeps.ite (Keeps.step (State.setPwr_keeps ..) (by decide) (Keeps.refl _ _)) (Keeps.refl _ _))

theorem execWdKick_keeps (init : Initiator) (v : Byte) (s : State) : KeepsR 1610621953 s (execWdKick init v s) := by
  unfold execWdKick
  exact (KeepsR.next (Keeps.cmdWrite (by decide) (Keeps.step (fresh_keeps ..) (by decide) (Keeps.refl _ _)) (fun t0 k0 => (Keeps.step (kick_keeps
      ..) (by decide) k0)) (fun _ => Keeps.step (State.endAccess_keeps ..) (by decide) (Keeps.step (State.violate_keeps ..) (by decide) (Keeps.step
      (fresh_keeps ..) (by decide) (Keeps.refl _ _))))))

theorem mpWatchdog_keeps (s : State) : Keeps 1744830463 s (mpWatchdog s) := by
  unfold mpWatchdog
  refine (Keeps.ite (Keeps.refl _ _) ?_)
  extract_lets a0_0 a0_1
  have h_a0_0 : Keeps 1744830463 s a0_0 := (Keeps.step (State.troubleRecord_keeps ..) (by decide) (Keeps.step (State.sticky_keeps ..) (by decide)
      (Keeps.refl _ _)))
  exact (Keeps.ite (Keeps.step (State.wdogReset_keeps ..) (by decide) h_a0_0) (Keeps.step (State.setPwr_keeps ..) (by decide) (Keeps.step
      (State.mpWarm_keeps ..) (by decide) h_a0_0)))

theorem execMpWatchdogExpiry_keeps (s : State) : KeepsR 1744830463 s (execMpWatchdogExpiry s) := by
  unfold execMpWatchdogExpiry
  exact (KeepsR.next (Keeps.step (mpWatchdog_keeps ..) (by decide) (Keeps.step (fresh_keeps ..) (by decide) (Keeps.refl _ _))))

theorem hwWatchdog_keeps (s : State) : Keeps 1744830463 s (hwWatchdog s) := by
  unfold hwWatchdog
  refine (Keeps.ite ?_ (Keeps.refl _ _))
  extract_lets a0_0
  have h_a0_0 : Keeps 1744830463 s a0_0 := (Keeps.step (State.startCause_keeps ..) (by decide) (Keeps.step (State.troubleRecord_keeps ..) (by
      decide) (Keeps.step (State.sticky_keeps ..) (by decide) (Keeps.step (State.heartbeatRow_keeps ..) (by decide) (Keeps.refl _ _)))))
  exact (Keeps.step (State.coreReset_keeps ..) (by decide) h_a0_0)

theorem execHwWatchdogExpiry_keeps (s : State) : KeepsR 1744830463 s (execHwWatchdogExpiry s) := by
  unfold execHwWatchdogExpiry
  exact (KeepsR.next (Keeps.step (hwWatchdog_keeps ..) (by decide) (Keeps.step (fresh_keeps ..) (by decide) (Keeps.refl _ _))))

end Sys2Proof.Machine
end

