-- ==== Sys2Proof/Laws/Keeps5.lean ====
section
/-! SUPPORT. What each operation of these files can change: Trust, Lin, EthPort, Motion, Events, Rings. The number is the mask of parts (Part.code). -/

namespace Sys2Proof.Machine

/-! ## Trust -/

theorem execTrmClaim_keeps (init : Initiator) (ptr : Fin 8192) (s : State) : KeepsR 1610613761 s (execTrmClaim init ptr s) := by
  unfold execTrmClaim
  extract_lets a0_0
  have h_a0_0 : Keeps 1610613761 s a0_0 := (Keeps.step (fresh_keeps ..) (by decide) (Keeps.refl _ _))
  exact (KeepsR.next (Keeps.cmdWrite (by decide) h_a0_0 (fun t1 k1 => (Keeps.step (State.trmClaim_keeps ..) (by decide) k1)) (fun _ => Keeps.step
      (State.endAccess_keeps ..) (by decide) (Keeps.step (State.violate_keeps ..) (by decide) h_a0_0))))

theorem State.trmRead_keeps (s : State) (init : Nat) (spec : Bool) : KeepsP 1610613761 s (State.trmRead s init spec) := by
  unfold State.trmRead
  exact (KeepsP.ite (KeepsP.mk (Keeps.step (State.endAccess_keeps ..) (by decide) (Keeps.step (State.violate_keeps ..) (by decide) (Keeps.refl _
      _)))) (KeepsP.ite (KeepsP.mk (Keeps.step (State.specHit_keeps ..) (by decide) (Keeps.refl _ _))) (KeepsP.mk (Keeps.step (State.trmStep_keeps
      ..) (by decide) (Keeps.refl _ _)))))

theorem execTrmDataAccess_keeps (init : Initiator) (w : Option Byte) (spec : Bool) (s : State) : KeepsR 1611662337 s (execTrmDataAccess init w spec
    s) := by
  unfold execTrmDataAccess
  extract_lets a0_0
  have h_a0_0 : Keeps 1611662337 s a0_0 := (Keeps.step (fresh_keeps ..) (by decide) (Keeps.refl _ _))
  clear_value a0_0
  split
  · exact (KeepsR.next (Keeps.cmdWrite (by decide) h_a0_0 (fun t2 k2 => (Keeps.step (State.trmStep_keeps ..) (by decide) (Keeps.step
      (State.trmPut_keeps ..) (by decide) k2))) (fun _ => Keeps.step (State.endAccess_keeps ..) (by decide) (Keeps.step (State.violate_keeps ..) (by
      decide) h_a0_0))))
  · exact (KeepsR.next (Keeps.cmdRead (by decide) (by decide) h_a0_0 (fun t4 k4 => (KeepsP.step (State.trmRead_keeps ..) (by decide) k4))))

theorem trmLease_keeps (s : State) : Keeps 1611662337 s (trmLease s) := by
  unfold trmLease
  exact (Keeps.ite (Keeps.refl _ _) (Keeps.step (State.leaseRevoked_keeps ..) (by decide) (Keeps.step (State.trmFree_keeps ..) (by decide)
      (Keeps.refl _ _))))

theorem execTrmLeaseExpiry_keeps (s : State) : KeepsR 1611662337 s (execTrmLeaseExpiry s) := by
  unfold execTrmLeaseExpiry
  exact (KeepsR.next (Keeps.step (trmLease_keeps ..) (by decide) (Keeps.step (fresh_keeps ..) (by decide) (Keeps.refl _ _))))

theorem execTrmLcAdvance_keeps (init : Initiator) (ecdsaOk : Bool) (hssOk : Bool) (s : State) : KeepsR 1611662337 s (execTrmLcAdvance init ecdsaOk
    hssOk s) := by
  unfold execTrmLcAdvance
  refine (KeepsR.next ?_)
  unfold State.trmGo
  exact (Keeps.cmdWrite (by decide) (Keeps.step (fresh_keeps ..) (by decide) (Keeps.refl _ _)) (fun t0 k0 => (Keeps.step (State.trmMessage_keeps ..)
      (by decide) (Keeps.step (State.wr_keeps ..) (by decide) k0))) (fun _ => Keeps.step (State.endAccess_keeps ..) (by decide) (Keeps.step
      (State.violate_keeps ..) (by decide) (Keeps.step (fresh_keeps ..) (by decide) (Keeps.refl _ _)))))

theorem State.setLive_keeps (s : State) (live : Nat) : Keeps 1 s (State.setLive s live) := by
  unfold State.setLive
  exact (Keeps.step (State.wr_keeps ..) (by decide) (Keeps.step (State.wr_keeps ..) (by decide) (Keeps.step (State.wr_keeps ..) (by decide)
      (Keeps.refl _ _))))

theorem execTrmRootInstall_keeps (init : Initiator) (ecdsaOk : Bool) (hssOk : Bool) (live : Fin 8) (s : State) : KeepsR 1611662337 s
    (execTrmRootInstall init ecdsaOk hssOk live s) := by
  unfold execTrmRootInstall
  refine (KeepsR.next ?_)
  unfold State.trmGo
  exact (Keeps.cmdWrite (by decide) (Keeps.step (fresh_keeps ..) (by decide) (Keeps.refl _ _)) (fun t0 k0 => (Keeps.step (State.trmMessage_keeps ..)
      (by decide) (Keeps.step (State.setLive_keeps ..) (by decide) (Keeps.step (State.wr_keeps ..) (by decide) k0)))) (fun _ => Keeps.step
      (State.endAccess_keeps ..) (by decide) (Keeps.step (State.violate_keeps ..) (by decide) (Keeps.step (fresh_keeps ..) (by decide) (Keeps.refl _
      _)))))

theorem execTrmDebugOpen_keeps (init : Initiator) (ecdsaOk : Bool) (hssOk : Bool) (s : State) : KeepsR 1611662337 s (execTrmDebugOpen init ecdsaOk
    hssOk s) := by
  unfold execTrmDebugOpen
  refine (KeepsR.next ?_)
  unfold State.trmGo
  exact (Keeps.cmdWrite (by decide) (Keeps.step (fresh_keeps ..) (by decide) (Keeps.refl _ _)) (fun t0 k0 => (Keeps.step (State.trmMessage_keeps ..)
      (by decide) (Keeps.step (State.wr_keeps ..) (by decide) k0))) (fun _ => Keeps.step (State.endAccess_keeps ..) (by decide) (Keeps.step
      (State.violate_keeps ..) (by decide) (Keeps.step (fresh_keeps ..) (by decide) (Keeps.refl _ _)))))

theorem execTrmDebugClose_keeps (init : Initiator) (s : State) : KeepsR 1611662337 s (execTrmDebugClose init s) := by
  unfold execTrmDebugClose
  refine (KeepsR.next ?_)
  unfold State.trmGo
  exact (Keeps.cmdWrite (by decide) (Keeps.step (fresh_keeps ..) (by decide) (Keeps.refl _ _)) (fun t0 k0 => (Keeps.step (State.trmMessage_keeps ..)
      (by decide) (Keeps.step (State.wr_keeps ..) (by decide) k0))) (fun _ => Keeps.step (State.endAccess_keeps ..) (by decide) (Keeps.step
      (State.violate_keeps ..) (by decide) (Keeps.step (fresh_keeps ..) (by decide) (Keeps.refl _ _)))))

theorem execTrmHssInstall_keeps (init : Initiator) (ecdsaOk : Bool) (hssOk : Bool) (s : State) : KeepsR 1611662337 s (execTrmHssInstall init ecdsaOk
    hssOk s) := by
  unfold execTrmHssInstall
  refine (KeepsR.next ?_)
  unfold State.trmGo
  exact (Keeps.cmdWrite (by decide) (Keeps.step (fresh_keeps ..) (by decide) (Keeps.refl _ _)) (fun t0 k0 => (Keeps.step (State.trmMessage_keeps ..)
      (by decide) (Keeps.step (State.wr_keeps ..) (by decide) k0))) (fun _ => Keeps.step (State.endAccess_keeps ..) (by decide) (Keeps.step
      (State.violate_keeps ..) (by decide) (Keeps.step (fresh_keeps ..) (by decide) (Keeps.refl _ _)))))

theorem State.trmPlain_keeps (s : State) (op : Nat) : Keeps 1048577 s (State.trmPlain s op) := by
  unfold State.trmPlain
  exact (Keeps.step (State.trmRun_keeps ..) (by decide) (Keeps.refl _ _))

theorem execTrmNonce_keeps (init : Initiator) (s : State) : KeepsR 1611662337 s (execTrmNonce init s) := by
  unfold execTrmNonce
  refine (KeepsR.next ?_)
  unfold State.trmGo
  exact (Keeps.cmdWrite (by decide) (Keeps.step (fresh_keeps ..) (by decide) (Keeps.refl _ _)) (fun t0 k0 => (Keeps.step (State.trmPlain_keeps ..)
      (by decide) (Keeps.step (State.wr_keeps ..) (by decide) k0))) (fun _ => Keeps.step (State.endAccess_keeps ..) (by decide) (Keeps.step
      (State.violate_keeps ..) (by decide) (Keeps.step (fresh_keeps ..) (by decide) (Keeps.refl _ _)))))

theorem execTrmRelease_keeps (init : Initiator) (s : State) : KeepsR 1611662337 s (execTrmRelease init s) := by
  unfold execTrmRelease
  refine (KeepsR.next ?_)
  unfold State.trmGo
  exact (Keeps.cmdWrite (by decide) (Keeps.step (fresh_keeps ..) (by decide) (Keeps.refl _ _)) (fun t0 k0 => (Keeps.step (State.trmPlain_keeps ..)
      (by decide) (Keeps.step (State.wr_keeps ..) (by decide) k0))) (fun _ => Keeps.step (State.endAccess_keeps ..) (by decide) (Keeps.step
      (State.violate_keeps ..) (by decide) (Keeps.step (fresh_keeps ..) (by decide) (Keeps.refl _ _)))))

theorem execTrmBadOp_keeps (init : Initiator) (op : Fin 8) (s : State) : KeepsR 1611662337 s (execTrmBadOp init op s) := by
  unfold execTrmBadOp
  refine (KeepsR.next ?_)
  unfold State.trmGo
  exact (Keeps.cmdWrite (by decide) (Keeps.step (fresh_keeps ..) (by decide) (Keeps.refl _ _)) (fun t0 k0 => (Keeps.step (State.trmRun_keeps ..) (by
      decide) (Keeps.step (State.wr_keeps ..) (by decide) k0))) (fun _ => Keeps.step (State.endAccess_keeps ..) (by decide) (Keeps.step
      (State.violate_keeps ..) (by decide) (Keeps.step (fresh_keeps ..) (by decide) (Keeps.refl _ _)))))

theorem attest_keeps (s : State) : Keeps 1048577 s (attest s) := by
  unfold attest
  extract_lets a0_0 a0_1 a0_2 a0_3 a0_4 a0_5 a0_6 a0_7
  have h_a0_6 : Keeps 1048577 s a0_6 := (Keeps.step (State.setTrust_keeps ..) (by decide) (Keeps.step (State.wr_keeps ..) (by decide) (Keeps.refl _
      _)))
  have h_a0_7 : Keeps 1048577 s a0_7 := (Keeps.ite (Keeps.step (State.wr_keeps ..) (by decide) h_a0_6) h_a0_6)
  exact (Keeps.ite (Keeps.step (State.trmRun_keeps ..) (by decide) (Keeps.when (Keeps.refl _ _) (fun t1 k1 => (Keeps.step (State.wr_keeps ..) (by
      decide) k1)))) (Keeps.step (State.trmRun_keeps ..) (by decide) h_a0_7))

theorem execTrmAttest_keeps (init : Initiator) (s : State) : KeepsR 1611662337 s (execTrmAttest init s) := by
  unfold execTrmAttest
  refine (KeepsR.next ?_)
  unfold State.trmGo
  exact (Keeps.cmdWrite (by decide) (Keeps.step (fresh_keeps ..) (by decide) (Keeps.refl _ _)) (fun t0 k0 => (Keeps.step (attest_keeps ..) (by
      decide) (Keeps.step (State.wr_keeps ..) (by decide) k0))) (fun _ => Keeps.step (State.endAccess_keeps ..) (by decide) (Keeps.step
      (State.violate_keeps ..) (by decide) (Keeps.step (fresh_keeps ..) (by decide) (Keeps.refl _ _)))))

theorem execTrustOpComplete_keeps (writeOk : Bool) (s : State) : KeepsR 1880121345 s (execTrustOpComplete writeOk s) := by
  unfold execTrustOpComplete
  exact (KeepsR.next (Keeps.step (State.parkCheck_keeps ..) (by decide) (Keeps.step (State.trmDone_keeps ..) (by decide) (Keeps.step (fresh_keeps
      ..) (by decide) (Keeps.refl _ _)))))

theorem sessionOver_keeps (s : State) : Keeps 1611685889 s (sessionOver s) := by
  unfold sessionOver
  exact (Keeps.ite (Keeps.step (State.parkCheck_keeps ..) (by decide) (Keeps.step (State.debugClose_keeps ..) (by decide) (Keeps.refl _ _)))
      (Keeps.refl _ _))

theorem execDebugSessionExpiry_keeps (s : State) : KeepsR 1611685889 s (execDebugSessionExpiry s) := by
  unfold execDebugSessionExpiry
  exact (KeepsR.next (Keeps.step (sessionOver_keeps ..) (by decide) (Keeps.step (fresh_keeps ..) (by decide) (Keeps.refl _ _))))

theorem execKsShadowWrite_keeps (init : Initiator) (i : Fin 40) (v : Byte) (s : State) : KeepsR 1611662337 s (execKsShadowWrite init i v s) := by
  unfold execKsShadowWrite
  extract_lets a0_0
  have h_a0_0 : Keeps 1611662337 s a0_0 := (Keeps.step (fresh_keeps ..) (by decide) (Keeps.refl _ _))
  exact (KeepsR.next (Keeps.cmdWrite (by decide) h_a0_0 (fun t1 k1 => (Keeps.step (State.shadowByte_keeps ..) (by decide) k1)) (fun _ => Keeps.step
      (State.endAccess_keeps ..) (by decide) (Keeps.step (State.violate_keeps ..) (by decide) h_a0_0))))

theorem execKsUnwrapDone_keeps (k : Fin 256) (s : State) : KeepsR 1611661313 s (execKsUnwrapDone k s) := by
  unfold execKsUnwrapDone
  exact (KeepsR.next (Keeps.step (State.unwrapDone_keeps ..) (by decide) (Keeps.step (fresh_keeps ..) (by decide) (Keeps.refl _ _))))

theorem execKsCommit_keeps (init : Initiator) (s : State) : KeepsR 1611662337 s (execKsCommit init s) := by
  unfold execKsCommit
  extract_lets a0_0
  have h_a0_0 : Keeps 1611662337 s a0_0 := (Keeps.step (fresh_keeps ..) (by decide) (Keeps.refl _ _))
  exact (KeepsR.next (Keeps.cmdField (by decide) h_a0_0 (fun t1 k1 => (Keeps.step (State.shadowCommit_keeps ..) (by decide) k1)) (fun _ =>
      Keeps.step (State.endAccess_keeps ..) (by decide) (Keeps.step (State.violate_keeps ..) (by decide) h_a0_0))))

theorem execKsDiscard_keeps (init : Initiator) (s : State) : KeepsR 1611662337 s (execKsDiscard init s) := by
  unfold execKsDiscard
  extract_lets a0_0
  have h_a0_0 : Keeps 1611662337 s a0_0 := (Keeps.step (fresh_keeps ..) (by decide) (Keeps.refl _ _))
  exact (KeepsR.next (Keeps.cmdField (by decide) h_a0_0 (fun t1 k1 => (Keeps.step (State.shadowZero_keeps ..) (by decide) k1)) (fun _ => Keeps.step
      (State.endAccess_keeps ..) (by decide) (Keeps.step (State.violate_keeps ..) (by decide) h_a0_0))))

theorem persistStart_keeps (s : State) : Keeps 1048577 s (persistStart s) := by
  unfold persistStart
  exact (Keeps.step (State.setTrust_keeps ..) (by decide) (Keeps.step (State.wr_keeps ..) (by decide) (Keeps.refl _ _)))

theorem execKsPersist_keeps (init : Initiator) (s : State) : KeepsR 1611662337 s (execKsPersist init s) := by
  unfold execKsPersist
  exact (KeepsR.next (Keeps.cmdField (by decide) (Keeps.step (fresh_keeps ..) (by decide) (Keeps.refl _ _)) (fun t0 k0 => (Keeps.step
      (persistStart_keeps ..) (by decide) k0)) (fun _ => Keeps.step (State.endAccess_keeps ..) (by decide) (Keeps.step (State.violate_keeps ..) (by
      decide) (Keeps.step (fresh_keeps ..) (by decide) (Keeps.refl _ _))))))

theorem execKsPersistDone_keeps (ok : Bool) (s : State) : KeepsR 1611661313 s (execKsPersistDone ok s) := by
  unfold execKsPersistDone
  exact (KeepsR.next (Keeps.step (State.persisted_keeps ..) (by decide) (Keeps.step (fresh_keeps ..) (by decide) (Keeps.refl _ _))))

theorem shadowLease_keeps (k : Nat) (s : State) : Keeps 1611662337 s (shadowLease k s) := by
  unfold shadowLease
  exact (Keeps.ite (Keeps.refl _ _) (Keeps.step (State.leaseRevoked_keeps ..) (by decide) (Keeps.step (State.shadowZero_keeps ..) (by decide)
      (Keeps.refl _ _))))

theorem execKsShadowLeaseExpiry_keeps (k : Fin 256) (s : State) : KeepsR 1611662337 s (execKsShadowLeaseExpiry k s) := by
  unfold execKsShadowLeaseExpiry
  exact (KeepsR.next (Keeps.step (shadowLease_keeps ..) (by decide) (Keeps.step (fresh_keeps ..) (by decide) (Keeps.refl _ _))))

theorem execTamperDetected_keeps (src : Fin 3) (s : State) : KeepsR 1744830463 s (execTamperDetected src s) := by
  unfold execTamperDetected
  exact (KeepsR.next (Keeps.step (tamper_keeps ..) (by decide) (Keeps.step (fresh_keeps ..) (by decide) (Keeps.refl _ _))))

/-! ## Lin -/

theorem State.linFollowEn_keeps (s : State) (p : Nat) : Keeps 1610679441 s (State.linFollowEn s p) := by
  unfold State.linFollowEn
  exact (Keeps.ite (Keeps.ite (Keeps.step (State.setLinState_keeps ..) (by decide) (Keeps.refl _ _)) (Keeps.refl _ _)) (Keeps.ite (Keeps.refl _ _)
      (Keeps.step (State.linDropAll_keeps ..) (by decide) (Keeps.step (State.linStop_keeps ..) (by decide) (Keeps.refl _ _)))))

theorem linCfgWrite_keeps (p : Nat) (v : Nat) (s : State) : Keeps 1610679441 s (linCfgWrite p v s) := by
  unfold linCfgWrite
  exact (Keeps.step (State.linFollowEn_keeps ..) (by decide) (Keeps.step (State.wrWide_keeps ..) (by decide) (Keeps.refl _ _)))

theorem execLinEnable_keeps (init : Initiator) (p : Fin 12) (low : Fin 128) (s : State) : KeepsR 1610679441 s (execLinEnable init p low s) := by
  unfold execLinEnable
  exact (KeepsR.next (Keeps.cmdWrite (by decide) (Keeps.step (fresh_keeps ..) (by decide) (Keeps.refl _ _)) (fun t0 k0 => (Keeps.step
      (linCfgWrite_keeps ..) (by decide) k0)) (fun _ => Keeps.step (State.endAccess_keeps ..) (by decide) (Keeps.step (State.violate_keeps ..) (by
      decide) (Keeps.step (fresh_keeps ..) (by decide) (Keeps.refl _ _))))))

theorem execLinDisable_keeps (init : Initiator) (p : Fin 12) (low : Fin 128) (s : State) : KeepsR 1610679441 s (execLinDisable init p low s) := by
  unfold execLinDisable
  exact (KeepsR.next (Keeps.cmdWrite (by decide) (Keeps.step (fresh_keeps ..) (by decide) (Keeps.refl _ _)) (fun t0 k0 => (Keeps.step
      (linCfgWrite_keeps ..) (by decide) k0)) (fun _ => Keeps.step (State.endAccess_keeps ..) (by decide) (Keeps.step (State.violate_keeps ..) (by
      decide) (Keeps.step (fresh_keeps ..) (by decide) (Keeps.refl _ _))))))

theorem schedGo_keeps (p : Nat) (t : Nat) (s : State) : Keeps 65537 s (schedGo p t s) := by
  unfold schedGo
  extract_lets a0_0 a0_1
  have h_a0_0 : Keeps 65537 s a0_0 := (Keeps.step (State.wr_keeps ..) (by decide) (Keeps.refl _ _))
  exact (Keeps.ite (Keeps.step (State.wr_keeps ..) (by decide) (Keeps.step (State.setLin_keeps ..) (by decide) h_a0_0)) (Keeps.step
      (State.linStart_keeps ..) (by decide) h_a0_0))

theorem execLinSchedGo_keeps (init : Initiator) (p : Fin 12) (t : Fin 8) (s : State) : KeepsR 1610679297 s (execLinSchedGo init p t s) := by
  unfold execLinSchedGo
  exact (KeepsR.next (Keeps.cmdWrite (by decide) (Keeps.step (fresh_keeps ..) (by decide) (Keeps.refl _ _)) (fun t0 k0 => (Keeps.step (schedGo_keeps
      ..) (by decide) k0)) (fun _ => Keeps.step (State.endAccess_keeps ..) (by decide) (Keeps.step (State.violate_keeps ..) (by decide) (Keeps.step
      (fresh_keeps ..) (by decide) (Keeps.refl _ _))))))

theorem slotStart_keeps (p : Nat) (s : State) : Keeps 1610678273 s (slotStart p s) := by
  unfold slotStart
  refine (Keeps.ite (Keeps.refl _ _) ?_)
  extract_lets a0_0 a0_1 a0_2
  have h_a0_1 : Keeps 1610678273 s a0_1 := (Keeps.step (State.setLinSlot_keeps ..) (by decide) (Keeps.refl _ _))
  have h_a0_2 : Keeps 1610678273 s a0_2 := (Keeps.step (State.emit_keeps ..) (by decide) (Keeps.step (State.count_keeps ..) (by decide) h_a0_1))
  exact (Keeps.ite h_a0_1 (Keeps.ite (Keeps.step (State.emit_keeps ..) (by decide) h_a0_2) h_a0_2))

theorem execLinSlotStart_keeps (p : Fin 12) (s : State) : KeepsR 1610678273 s (execLinSlotStart p s) := by
  unfold execLinSlotStart
  exact (KeepsR.next (Keeps.step (slotStart_keeps ..) (by decide) (Keeps.step (fresh_keeps ..) (by decide) (Keeps.refl _ _))))

theorem responseDone_keeps (p : Nat) (data : List Nat) (s : State) : Keeps 1610679425 s (responseDone p data s) := by
  unfold responseDone
  split
  · exact (Keeps.refl _ _)
  · refine (Keeps.ite (Keeps.refl _ _) ?_)
    extract_lets a2_0 a2_1 a2_2 a2_3 a2_4
    have h_a2_2 : Keeps 1610679425 s a2_2 := (Keeps.step (State.count_keeps ..) (by decide) (Keeps.step (State.setLinSlot_keeps ..) (by decide)
        (Keeps.refl _ _)))
    have h_a2_3 : Keeps 1610679425 s a2_3 := (Keeps.step (State.wr_keeps ..) (by decide) (Keeps.step (State.fillLin_keeps ..) (by decide) h_a2_2))
    have h_a2_4 : Keeps 1610679425 s a2_4 := (Keeps.ite h_a2_3 (Keeps.step (State.event_keeps ..) (by decide) (Keeps.step (State.wr_keeps ..) (by
        decide) h_a2_3)))
    exact (Keeps.ite (Keeps.step (State.arrive_keeps ..) (by decide) h_a2_4) h_a2_4)

theorem execLinResponseComplete_keeps (p : Fin 12) (data : BitVec 64) (s : State) : KeepsR 1610679425 s (execLinResponseComplete p data s) := by
  unfold execLinResponseComplete
  exact (KeepsR.next (Keeps.step (responseDone_keeps ..) (by decide) (Keeps.step (fresh_keeps ..) (by decide) (Keeps.refl _ _))))

theorem linBitError_keeps (p : Nat) (s : State) : Keeps 1610678273 s (linBitError p s) := by
  unfold linBitError
  split
  · exact (Keeps.refl _ _)
  · exact (Keeps.ite (Keeps.refl _ _) (Keeps.step (State.slotOutcome_keeps ..) (by decide) (Keeps.step (State.setLinSlot_keeps ..) (by decide)
      (Keeps.refl _ _))))

theorem execLinBitError_keeps (p : Fin 12) (s : State) : KeepsR 1610678273 s (execLinBitError p s) := by
  unfold execLinBitError
  exact (KeepsR.next (Keeps.step (linBitError_keeps ..) (by decide) (Keeps.step (fresh_keeps ..) (by decide) (Keeps.refl _ _))))

theorem slotEnd_keeps (p : Nat) (e : LinEnd) (s : State) : Keeps 1610679441 s (slotEnd p e s) := by
  unfold slotEnd
  split
  · exact (Keeps.refl _ _)
  · extract_lets a2_0 a2_1
    have h_a2_1 : Keeps 1610679441 s a2_1 := (Keeps.ite (Keeps.step (State.slotOutcome_keeps ..) (by decide) (Keeps.refl _ _)) (Keeps.ite
        (Keeps.step (State.slotSent_keeps ..) (by decide) (Keeps.refl _ _)) (Keeps.refl _ _)))
    exact (Keeps.ite (Keeps.step (State.linGoToSleep_keeps ..) (by decide) h_a2_1) (Keeps.step (State.linAdvance_keeps ..) (by decide) h_a2_1))

theorem execLinSlotEnd_keeps (p : Fin 12) (e : LinEnd) (s : State) : KeepsR 1610679441 s (execLinSlotEnd p e s) := by
  unfold execLinSlotEnd
  exact (KeepsR.next (Keeps.step (slotEnd_keeps ..) (by decide) (Keeps.step (fresh_keeps ..) (by decide) (Keeps.refl _ _))))

theorem execLinHostCommit_keeps (init : Initiator) (p : Fin 12) (i : Fin 64) (data : BitVec 64) (s : State) : KeepsR 1610679441 s (execLinHostCommit
    init p i data s) := by
  unfold execLinHostCommit
  exact (KeepsR.next (Keeps.cmdWrite (by decide) (Keeps.step (fresh_keeps ..) (by decide) (Keeps.refl _ _)) (fun t0 k0 => (Keeps.step
      (State.setLinData_keeps ..) (by decide) (Keeps.step (State.linReplace_keeps ..) (by decide) k0))) (fun _ => Keeps.step (State.endAccess_keeps
      ..) (by decide) (Keeps.step (State.violate_keeps ..) (by decide) (Keeps.step (fresh_keeps ..) (by decide) (Keeps.refl _ _))))))

theorem sentryWrite_keeps (p : Nat) (e : Nat) (v : Nat) (s : State) : Keeps 1 s (sentryWrite p e v s) := by
  unfold sentryWrite
  extract_lets a0_0 a0_1
  have h_a0_1 : Keeps 1 s a0_1 := (Keeps.step (State.wr_keeps ..) (by decide) (Keeps.step (State.wr_keeps ..) (by decide) (Keeps.refl _ _)))
  exact (Keeps.step (State.wr_keeps ..) (by decide) (Keeps.step (State.wr_keeps ..) (by decide) h_a0_1))

theorem execLinSentryWrite_keeps (init : Initiator) (p : Fin 12) (e : Fin 128) (v : BitVec 32) (s : State) : KeepsR 1610613761 s (execLinSentryWrite
    init p e v s) := by
  unfold execLinSentryWrite
  exact (KeepsR.next (Keeps.cmdWrite (by decide) (Keeps.step (fresh_keeps ..) (by decide) (Keeps.refl _ _)) (fun t0 k0 => (Keeps.step
      (sentryWrite_keeps ..) (by decide) k0)) (fun _ => Keeps.step (State.endAccess_keeps ..) (by decide) (Keeps.step (State.violate_keeps ..) (by
      decide) (Keeps.step (fresh_keeps ..) (by decide) (Keeps.refl _ _))))))

theorem lintFault_keeps (p : Nat) (k : Nat) (st : Field) (s : State) : Keeps 1610678273 s (lintFault p k st s) := by
  unfold lintFault
  exact (Keeps.ite (Keeps.refl _ _) (Keeps.step (State.setLin_keeps ..) (by decide) (Keeps.step (State.sticky_keeps ..) (by decide) (Keeps.refl _
      _))))

theorem execLintTxdDomTimeout_keeps (p : Fin 12) (s : State) : KeepsR 1610678273 s (execLintTxdDomTimeout p s) := by
  unfold execLintTxdDomTimeout
  exact (KeepsR.next (Keeps.step (lintFault_keeps ..) (by decide) (Keeps.step (fresh_keeps ..) (by decide) (Keeps.refl _ _))))

theorem lintBusDom_keeps (p : Nat) (s : State) : Keeps 1610612737 s (lintBusDom p s) := by
  unfold lintBusDom
  exact (Keeps.ite (Keeps.refl _ _) (Keeps.step (State.sticky_keeps ..) (by decide) (Keeps.refl _ _)))

theorem execLintBusDomTimeout_keeps (p : Fin 12) (s : State) : KeepsR 1610612737 s (execLintBusDomTimeout p s) := by
  unfold execLintBusDomTimeout
  exact (KeepsR.next (Keeps.step (lintBusDom_keeps ..) (by decide) (Keeps.step (fresh_keeps ..) (by decide) (Keeps.refl _ _))))

theorem execLintOvertemp_keeps (p : Fin 12) (s : State) : KeepsR 1610678273 s (execLintOvertemp p s) := by
  unfold execLintOvertemp
  exact (KeepsR.next (Keeps.step (lintFault_keeps ..) (by decide) (Keeps.step (fresh_keeps ..) (by decide) (Keeps.refl _ _))))

theorem lintClear_keeps (p : Nat) (f : TrxFault) (s : State) : Keeps 65536 s (lintClear p f s) := by
  unfold lintClear
  extract_lets a0_0 a0_1
  exact (Keeps.step (State.setLin_keeps ..) (by decide) (Keeps.refl _ _))

theorem execLintFaultClear_keeps (p : Fin 12) (f : TrxFault) (s : State) : KeepsR 536936448 s (execLintFaultClear p f s) := by
  unfold execLintFaultClear
  exact (KeepsR.next (Keeps.step (lintClear_keeps ..) (by decide) (Keeps.step (fresh_keeps ..) (by decide) (Keeps.refl _ _))))

/-! ## EthPort -/

theorem ethCfgWrite_keeps (p : Nat) (v : Nat) (s : State) : Keeps 1644651921 s (ethCfgWrite p v s) := by
  unfold ethCfgWrite
  extract_lets a0_0
  have h_a0_0 : Keeps 1644651921 s a0_0 := (Keeps.step (State.wrWide_keeps ..) (by decide) (Keeps.refl _ _))
  exact (Keeps.step (State.peerSync_keeps ..) (by decide) (Keeps.step (State.ethSynced_keeps ..) (by decide) (Keeps.ite (Keeps.step
      (State.ethEnable_keeps ..) (by decide) h_a0_0) (Keeps.step (State.ethDisable_keeps ..) (by decide) h_a0_0))))

theorem execEthEnable_keeps (init : Initiator) (p : Fin 16) (low : Fin 128) (s : State) : KeepsR 1644651921 s (execEthEnable init p low s) := by
  unfold execEthEnable
  exact (KeepsR.next (Keeps.cmdWrite (by decide) (Keeps.step (fresh_keeps ..) (by decide) (Keeps.refl _ _)) (fun t0 k0 => (Keeps.step
      (ethCfgWrite_keeps ..) (by decide) k0)) (fun _ => Keeps.step (State.endAccess_keeps ..) (by decide) (Keeps.step (State.violate_keeps ..) (by
      decide) (Keeps.step (fresh_keeps ..) (by decide) (Keeps.refl _ _))))))

theorem execEthDisable_keeps (init : Initiator) (p : Fin 16) (low : Fin 128) (s : State) : KeepsR 1644651921 s (execEthDisable init p low s) := by
  unfold execEthDisable
  exact (KeepsR.next (Keeps.cmdWrite (by decide) (Keeps.step (fresh_keeps ..) (by decide) (Keeps.refl _ _)) (fun t0 k0 => (Keeps.step
      (ethCfgWrite_keeps ..) (by decide) k0)) (fun _ => Keeps.step (State.endAccess_keeps ..) (by decide) (Keeps.step (State.violate_keeps ..) (by
      decide) (Keeps.step (fresh_keeps ..) (by decide) (Keeps.refl _ _))))))

theorem linkUp_keeps (p : Nat) (r : EthRate) (full : Bool) (s : State) : Keeps 1644168593 s (linkUp p r full s) := by
  unfold linkUp
  refine (Keeps.ite (Keeps.refl _ _) ?_)
  split
  · exact (Keeps.step (State.ethGoUp_keeps ..) (by decide) (Keeps.refl _ _))
  · exact (Keeps.step (State.trainFail_keeps ..) (by decide) (Keeps.refl _ _))

theorem execEthLinkUp_keeps (p : Fin 16) (r : EthRate) (full : Bool) (s : State) : KeepsR 1644168593 s (execEthLinkUp p r full s) := by
  unfold execEthLinkUp
  exact (KeepsR.next (Keeps.step (linkUp_keeps ..) (by decide) (Keeps.step (fresh_keeps ..) (by decide) (Keeps.refl _ _))))

theorem linkTimeout_keeps (p : Nat) (s : State) : Keeps 1644168593 s (linkTimeout p s) := by
  unfold linkTimeout
  exact (Keeps.ite (Keeps.step (State.train_keeps ..) (by decide) (Keeps.step (State.trainFail_keeps ..) (by decide) (Keeps.refl _ _))) (Keeps.refl
      _ _))

theorem execEthLinkTimeout_keeps (p : Fin 16) (s : State) : KeepsR 1644168593 s (execEthLinkTimeout p s) := by
  unfold execEthLinkTimeout
  exact (KeepsR.next (Keeps.step (linkTimeout_keeps ..) (by decide) (Keeps.step (fresh_keeps ..) (by decide) (Keeps.refl _ _))))

theorem execEthLinkLost_keeps (p : Fin 16) (s : State) : KeepsR 1644651921 s (execEthLinkLost p s) := by
  unfold execEthLinkLost
  exact (KeepsR.next (Keeps.step (State.ethSynced_keeps ..) (by decide) (Keeps.step (State.linkLost_keeps ..) (by decide) (Keeps.step (fresh_keeps
      ..) (by decide) (Keeps.refl _ _)))))

theorem execEthSleepCmd_keeps (init : Initiator) (p : Fin 16) (s : State) : KeepsR 1644168593 s (execEthSleepCmd init p s) := by
  unfold execEthSleepCmd
  exact (KeepsR.next (Keeps.cmdField (by decide) (Keeps.step (fresh_keeps ..) (by decide) (Keeps.refl _ _)) (fun t0 k0 => (Keeps.step
      (State.sleepStart_keeps ..) (by decide) k0)) (fun _ => Keeps.step (State.endAccess_keeps ..) (by decide) (Keeps.step (State.violate_keeps ..)
      (by decide) (Keeps.step (fresh_keeps ..) (by decide) (Keeps.refl _ _))))))

theorem execEthWakeCmd_keeps (init : Initiator) (p : Fin 16) (s : State) : KeepsR 1644389777 s (execEthWakeCmd init p s) := by
  unfold execEthWakeCmd
  exact (KeepsR.next (Keeps.cmdField (by decide) (Keeps.step (fresh_keeps ..) (by decide) (Keeps.refl _ _)) (fun t0 k0 => (Keeps.step
      (State.ethSynced_keeps ..) (by decide) (Keeps.step (State.ethWake_keeps ..) (by decide) k0))) (fun _ => Keeps.step (State.endAccess_keeps ..)
      (by decide) (Keeps.step (State.violate_keeps ..) (by decide) (Keeps.step (fresh_keeps ..) (by decide) (Keeps.refl _ _))))))

theorem retrain_keeps (p : Nat) (s : State) : Keeps 1644430737 s (retrain p s) := by
  unfold retrain
  exact (Keeps.ite (Keeps.step (State.train_keeps ..) (by decide) (Keeps.refl _ _)) (Keeps.ite (Keeps.step (State.ethDrop_keeps ..) (by decide)
      (Keeps.refl _ _)) (Keeps.refl _ _)))

theorem execEthRetrainCmd_keeps (init : Initiator) (p : Fin 16) (s : State) : KeepsR 1644430737 s (execEthRetrainCmd init p s) := by
  unfold execEthRetrainCmd
  exact (KeepsR.next (Keeps.cmdField (by decide) (Keeps.step (fresh_keeps ..) (by decide) (Keeps.refl _ _)) (fun t0 k0 => (Keeps.step (retrain_keeps
      ..) (by decide) k0)) (fun _ => Keeps.step (State.endAccess_keeps ..) (by decide) (Keeps.step (State.violate_keeps ..) (by decide) (Keeps.step
      (fresh_keeps ..) (by decide) (Keeps.refl _ _))))))

theorem phyResetStart_keeps (p : Nat) (s : State) : Keeps 257 s (phyResetStart p s) := by
  unfold phyResetStart
  refine (Keeps.ite (Keeps.refl _ _) ?_)
  extract_lets a0_0 a0_1
  have h_a0_0 : Keeps 257 s a0_0 := (Keeps.step (State.phyReset_keeps ..) (by decide) (Keeps.step (State.wr_keeps ..) (by decide) (Keeps.refl _ _)))
  exact (Keeps.step (State.setEth_keeps ..) (by decide) h_a0_0)

theorem execEthPhyResetCmd_keeps (init : Initiator) (p : Fin 16) (s : State) : KeepsR 1610614017 s (execEthPhyResetCmd init p s) := by
  unfold execEthPhyResetCmd
  exact (KeepsR.next (Keeps.cmdField (by decide) (Keeps.step (fresh_keeps ..) (by decide) (Keeps.refl _ _)) (fun t0 k0 => (Keeps.step
      (phyResetStart_keeps ..) (by decide) k0)) (fun _ => Keeps.step (State.endAccess_keeps ..) (by decide) (Keeps.step (State.violate_keeps ..) (by
      decide) (Keeps.step (fresh_keeps ..) (by decide) (Keeps.refl _ _))))))

theorem pulseEnd_keeps (p : Nat) (s : State) : Keeps 257 s (pulseEnd p s) := by
  unfold pulseEnd
  refine (Keeps.ite (Keeps.refl _ _) ?_)
  extract_lets a0_0 a0_1
  have h_a0_1 : Keeps 257 s a0_1 := (Keeps.step (State.wr_keeps ..) (by decide) (Keeps.step (State.setEth_keeps ..) (by decide) (Keeps.refl _ _)))
  exact (Keeps.ite h_a0_1 (Keeps.step (State.phyReset_keeps ..) (by decide) h_a0_1))

theorem execPhyResetPulseEnd_keeps (p : Fin 16) (s : State) : KeepsR 536871169 s (execPhyResetPulseEnd p s) := by
  unfold execPhyResetPulseEnd
  exact (KeepsR.next (Keeps.step (pulseEnd_keeps ..) (by decide) (Keeps.step (fresh_keeps ..) (by decide) (Keeps.refl _ _))))

theorem phyRelease_keeps (s : State) : Keeps 256 s (phyRelease s) := by
  unfold phyRelease
  exact (Keeps.ite (Keeps.refl _ _) (Keeps.each (Keeps.refl _ _) (fun t0 y0 k0 => (Keeps.ite k0 (Keeps.step (State.phyReset_keeps ..) (by decide)
      k0)))))

theorem execPhyRstRelease_keeps (s : State) : KeepsR 536871168 s (execPhyRstRelease s) := by
  unfold execPhyRstRelease
  exact (KeepsR.next (Keeps.step (phyRelease_keeps ..) (by decide) (Keeps.step (fresh_keeps ..) (by decide) (Keeps.refl _ _))))

theorem loopWrite_keeps (p : Nat) (mode : Nat) (s : State) : Keeps 1644430737 s (loopWrite p mode s) := by
  unfold loopWrite
  extract_lets a0_0 a0_1 a0_2 a0_3
  have h_a0_1 : Keeps 1644430737 s a0_1 := (Keeps.step (State.readerDown_keeps ..) (by decide) (Keeps.step (State.wr_keeps ..) (by decide)
      (Keeps.refl _ _)))
  have h_a0_3 : Keeps 1644430737 s a0_3 := (Keeps.step (State.peerSync_keeps ..) (by decide) (Keeps.step (State.setEthState_keeps ..) (by decide)
      (Keeps.step (State.setEth_keeps ..) (by decide) h_a0_1)))
  exact (Keeps.ite (Keeps.refl _ _) (Keeps.ite (Keeps.ite (Keeps.step (State.train_keeps ..) (by decide) (Keeps.step (State.readerDown_keeps ..) (by
      decide) (Keeps.step (State.wr_keeps ..) (by decide) (Keeps.refl _ _)))) (Keeps.refl _ _)) (Keeps.ite (Keeps.step (State.wr_keeps ..) (by
      decide) h_a0_3) (Keeps.step (State.readerUp_keeps ..) (by decide) (Keeps.step (State.wr_keeps ..) (by decide) h_a0_3)))))

theorem execEthLoopWrite_keeps (init : Initiator) (p : Fin 16) (v : Byte) (s : State) : KeepsR 1644430737 s (execEthLoopWrite init p v s) := by
  unfold execEthLoopWrite
  exact (KeepsR.next (Keeps.cmdWrite (by decide) (Keeps.step (fresh_keeps ..) (by decide) (Keeps.refl _ _)) (fun t0 k0 => (Keeps.step
      (loopWrite_keeps ..) (by decide) k0)) (fun _ => Keeps.step (State.endAccess_keeps ..) (by decide) (Keeps.step (State.violate_keeps ..) (by
      decide) (Keeps.step (fresh_keeps ..) (by decide) (Keeps.refl _ _))))))

theorem drainEnd_keeps (p : Nat) (s : State) : Keeps 1644651921 s (drainEnd p s) := by
  unfold drainEnd
  exact (Keeps.ite (Keeps.refl _ _) (Keeps.ite (Keeps.step (State.emit_keeps ..) (by decide) (Keeps.step (State.setSleepStep_keeps ..) (by decide)
      (Keeps.refl _ _))) (Keeps.step (State.ethSynced_keeps ..) (by decide) (Keeps.step (State.sleepDone_keeps ..) (by decide) (Keeps.refl _ _)))))

theorem execEthSleepDrainEnd_keeps (p : Fin 16) (s : State) : KeepsR 1644651921 s (execEthSleepDrainEnd p s) := by
  unfold execEthSleepDrainEnd
  exact (KeepsR.next (Keeps.step (drainEnd_keeps ..) (by decide) (Keeps.step (fresh_keeps ..) (by decide) (Keeps.refl _ _))))

theorem drainTimeout_keeps (p : Nat) (s : State) : Keeps 1644168593 s (drainTimeout p s) := by
  unfold drainTimeout
  exact (Keeps.ite (Keeps.step (State.sleepAbort_keeps ..) (by decide) (Keeps.refl _ _)) (Keeps.refl _ _))

theorem execEthSleepDrainTimeout_keeps (p : Fin 16) (s : State) : KeepsR 1644168593 s (execEthSleepDrainTimeout p s) := by
  unfold execEthSleepDrainTimeout
  exact (KeepsR.next (Keeps.step (drainTimeout_keeps ..) (by decide) (Keeps.step (fresh_keeps ..) (by decide) (Keeps.refl _ _))))

theorem sleepAcked_keeps (p : Nat) (s : State) : Keeps 1644651921 s (sleepAcked p s) := by
  unfold sleepAcked
  exact (Keeps.ite (Keeps.step (State.ethSynced_keeps ..) (by decide) (Keeps.step (State.sleepDone_keeps ..) (by decide) (Keeps.refl _ _)))
      (Keeps.refl _ _))

theorem execEthSleepAckReceived_keeps (p : Fin 16) (s : State) : KeepsR 1644651921 s (execEthSleepAckReceived p s) := by
  unfold execEthSleepAckReceived
  exact (KeepsR.next (Keeps.step (sleepAcked_keeps ..) (by decide) (Keeps.step (fresh_keeps ..) (by decide) (Keeps.refl _ _))))

theorem ackTimeout_keeps (p : Nat) (s : State) : Keeps 1644168593 s (ackTimeout p s) := by
  unfold ackTimeout
  exact (Keeps.ite (Keeps.step (State.sleepAbort_keeps ..) (by decide) (Keeps.refl _ _)) (Keeps.refl _ _))

theorem execEthSleepAckTimeout_keeps (p : Fin 16) (s : State) : KeepsR 1644168593 s (execEthSleepAckTimeout p s) := by
  unfold execEthSleepAckTimeout
  exact (KeepsR.next (Keeps.step (ackTimeout_keeps ..) (by decide) (Keeps.step (fresh_keeps ..) (by decide) (Keeps.refl _ _))))

theorem sleepRequested_keeps (p : Nat) (s : State) : Keeps 1644168593 s (sleepRequested p s) := by
  unfold sleepRequested
  exact (Keeps.ite (Keeps.step (State.peerSync_keeps ..) (by decide) (Keeps.step (State.emit_keeps ..) (by decide) (Keeps.step
      (State.setSleepStep_keeps ..) (by decide) (Keeps.step (State.setEthState_keeps ..) (by decide) (Keeps.refl _ _))))) (Keeps.refl _ _))

theorem execEthSleepRequestReceived_keeps (p : Fin 16) (s : State) : KeepsR 1644168593 s (execEthSleepRequestReceived p s) := by
  unfold execEthSleepRequestReceived
  exact (KeepsR.next (Keeps.step (sleepRequested_keeps ..) (by decide) (Keeps.step (fresh_keeps ..) (by decide) (Keeps.refl _ _))))

theorem State.lineWake_keeps (s : State) (p : Nat) : Keeps 1644393873 s (State.lineWake s p) := by
  unfold State.lineWake
  exact (Keeps.step (State.sourceEvent_keeps ..) (by decide) (Keeps.step (State.ethSynced_keeps ..) (by decide) (Keeps.step (State.train_keeps ..)
      (by decide) (Keeps.step (State.event_keeps ..) (by decide) (Keeps.step (State.count_keeps ..) (by decide) (Keeps.refl _ _))))))

theorem wakeRequested_keeps (p : Nat) (s : State) : Keeps 1644393873 s (wakeRequested p s) := by
  unfold wakeRequested
  exact (Keeps.ite (Keeps.ite (Keeps.refl _ _) (Keeps.step (State.lineWake_keeps ..) (by decide) (Keeps.refl _ _))) (Keeps.ite (Keeps.step
      (State.sleepAbort_keeps ..) (by decide) (Keeps.refl _ _)) (Keeps.refl _ _)))

theorem execEthWakeRequestReceived_keeps (p : Fin 16) (s : State) : KeepsR 1644393873 s (execEthWakeRequestReceived p s) := by
  unfold execEthWakeRequestReceived
  exact (KeepsR.next (Keeps.step (wakeRequested_keeps ..) (by decide) (Keeps.step (fresh_keeps ..) (by decide) (Keeps.refl _ _))))

theorem wakePulse_keeps (p : Nat) (s : State) : Keeps 1644393873 s (wakePulse p s) := by
  unfold wakePulse
  exact (Keeps.ite (Keeps.refl _ _) (Keeps.ite (Keeps.step (State.lineWake_keeps ..) (by decide) (Keeps.refl _ _)) (Keeps.ite (Keeps.step
      (State.sleepAbort_keeps ..) (by decide) (Keeps.refl _ _)) (Keeps.refl _ _))))

theorem execEthWakePulseDetected_keeps (p : Fin 16) (s : State) : KeepsR 1644393873 s (execEthWakePulseDetected p s) := by
  unfold execEthWakePulseDetected
  exact (KeepsR.next (Keeps.step (wakePulse_keeps ..) (by decide) (Keeps.step (fresh_keeps ..) (by decide) (Keeps.refl _ _))))

theorem phyInt_keeps (p : Nat) (s : State) : Keeps 1644393873 s (phyInt p s) := by
  unfold phyInt
  refine (Keeps.ite (Keeps.refl _ _) ?_)
  extract_lets a0_0
  have h_a0_0 : Keeps 1644393873 s a0_0 := (Keeps.step (State.event_keeps ..) (by decide) (Keeps.step (State.sticky_keeps ..) (by decide)
      (Keeps.refl _ _)))
  exact (Keeps.ite (Keeps.step (State.lineWake_keeps ..) (by decide) h_a0_0) h_a0_0)

theorem execEthPhyInt_keeps (p : Fin 16) (s : State) : KeepsR 1644393873 s (execEthPhyInt p s) := by
  unfold execEthPhyInt
  exact (KeepsR.next (Keeps.step (phyInt_keeps ..) (by decide) (Keeps.step (fresh_keeps ..) (by decide) (Keeps.refl _ _))))

theorem mdioGo_keeps (p : Nat) (v : Nat) (s : State) : Keeps 257 s (mdioGo p v s) := by
  unfold mdioGo
  extract_lets a0_0 a0_1
  have h_a0_1 : Keeps 257 s a0_1 := (Keeps.step (State.wr_keeps ..) (by decide) (Keeps.step (State.wr_keeps ..) (by decide) (Keeps.step
      (State.wr_keeps ..) (by decide) (Keeps.refl _ _))))
  exact (Keeps.step (State.mdioPut_keeps ..) (by decide) h_a0_1)

theorem execMdioGo_keeps (init : Initiator) (p : Fin 6) (low : Fin 128) (s : State) : KeepsR 1610614017 s (execMdioGo init p low s) := by
  unfold execMdioGo
  exact (KeepsR.next (Keeps.cmdWrite (by decide) (Keeps.step (fresh_keeps ..) (by decide) (Keeps.refl _ _)) (fun t0 k0 => (Keeps.step (mdioGo_keeps
      ..) (by decide) k0)) (fun _ => Keeps.step (State.endAccess_keeps ..) (by decide) (Keeps.step (State.violate_keeps ..) (by decide) (Keeps.step
      (fresh_keeps ..) (by decide) (Keeps.refl _ _))))))

theorem State.mdioResult_keeps (s : State) (m : Mdio) (resp : Option Nat) : Keeps 1610612737 s (State.mdioResult s m resp) := by
  unfold State.mdioResult
  extract_lets a0_0 a0_1
  have h_a0_1 : Keeps 1610612737 s a0_1 := (Keeps.step (State.wr_keeps ..) (by decide) (Keeps.refl _ _))
  clear_value a0_0 a0_1
  refine (Keeps.ite h_a0_1 ?_)
  split
  · exact (Keeps.step (State.wr_keeps ..) (by decide) (Keeps.step (State.wr_keeps ..) (by decide) h_a0_1))
  · exact (Keeps.step (State.sticky_keeps ..) (by decide) (Keeps.step (State.wr_keeps ..) (by decide) (Keeps.step (State.wr_keeps ..) (by decide)
      h_a0_1)))

theorem State.mdioListed_keeps (s : State) (p : Nat) : Keeps 1644389777 s (State.mdioListed s p) := by
  unfold State.mdioListed
  extract_lets a0_0
  have h_a0_0 : Keeps 1644389777 s a0_0 := (Keeps.step (State.mdioListGo_keeps ..) (by decide) (Keeps.step (State.setMdioList_keeps ..) (by decide)
      (Keeps.refl _ _)))
  exact (Keeps.ite (Keeps.step (State.peerSync_keeps ..) (by decide) (Keeps.step (State.ethSynced_keeps ..) (by decide) (Keeps.step
      (State.ethEnable_keeps ..) (by decide) h_a0_0))) h_a0_0)

theorem mdioDone_keeps (b : Nat) (resp : Option Nat) (s : State) : Keeps 1644389777 s (mdioDone b resp s) := by
  unfold mdioDone
  split
  · exact (Keeps.refl _ _)
  · extract_lets a2_0
    have h_a2_0 : Keeps 1644389777 s a2_0 := (Keeps.step (State.event_keeps ..) (by decide) (Keeps.step (State.emit_keeps ..) (by decide)
        (Keeps.step (State.setBus_keeps ..) (by decide) (Keeps.refl _ _))))
    exact (Keeps.ite (Keeps.step (State.mdioListed_keeps ..) (by decide) h_a2_0) (Keeps.step (State.mdioResult_keeps ..) (by decide) h_a2_0))

theorem execMdioDone_keeps (bus : Fin 2) (resp : Option (BitVec 16)) (s : State) : KeepsR 1644389777 s (execMdioDone bus resp s) := by
  unfold execMdioDone
  exact (KeepsR.next (Keeps.step (mdioDone_keeps ..) (by decide) (Keeps.step (fresh_keeps ..) (by decide) (Keeps.refl _ _))))

/-! ## Motion -/

theorem State.meReports_keeps (s : State) (k : Nat) : Keeps 1611137025 s (State.meReports s k) := by
  unfold State.meReports
  exact (Keeps.step (State.unitReports_keeps ..) (by decide) (Keeps.step (State.unitReports_keeps ..) (by decide) (Keeps.refl _ _)))

theorem meSetEn_keeps (k : Nat) (en : Bool) (s : State) : Keeps 536887297 s (meSetEn k en s) := by
  unfold meSetEn
  extract_lets a0_0
  have h_a0_0 : Keeps 536887297 s a0_0 := (Keeps.step (State.wr_keeps ..) (by decide) (Keeps.refl _ _))
  exact (Keeps.ite (Keeps.step (State.hbSetMode_keeps ..) (by decide) (Keeps.step (State.wr_keeps ..) (by decide) (Keeps.step (State.wr_keeps ..)
      (by decide) h_a0_0))) (Keeps.ite (Keeps.step (State.hbSetMode_keeps ..) (by decide) (Keeps.step (State.wr_keeps ..) (by decide) (Keeps.step
      (State.wr_keeps ..) (by decide) h_a0_0))) h_a0_0))

theorem execMeEnable_keeps (init : Initiator) (k : Fin 6) (en : Bool) (s : State) : KeepsR 1610630145 s (execMeEnable init k en s) := by
  unfold execMeEnable
  exact (KeepsR.next (Keeps.cmdWrite (by decide) (Keeps.step (fresh_keeps ..) (by decide) (Keeps.refl _ _)) (fun t0 k0 => (Keeps.step (meSetEn_keeps
      ..) (by decide) k0)) (fun _ => Keeps.step (State.endAccess_keeps ..) (by decide) (Keeps.step (State.violate_keeps ..) (by decide) (Keeps.step
      (fresh_keeps ..) (by decide) (Keeps.refl _ _))))))

theorem execMeModeWrite_keeps (init : Initiator) (k : Fin 6) (mode : Fin 8) (s : State) : KeepsR 1610630145 s (execMeModeWrite init k mode s) := by
  unfold execMeModeWrite
  exact (KeepsR.next (Keeps.cmdWrite (by decide) (Keeps.step (fresh_keeps ..) (by decide) (Keeps.refl _ _)) (fun t0 k0 => (Keeps.step
      (State.meModeCommand_keeps ..) (by decide) k0)) (fun _ => Keeps.step (State.endAccess_keeps ..) (by decide) (Keeps.step (State.violate_keeps
      ..) (by decide) (Keeps.step (fresh_keeps ..) (by decide) (Keeps.refl _ _))))))

theorem execMeTargetWrite_keeps (init : Initiator) (k : Fin 6) (target : BitVec 32) (s : State) : KeepsR 1610630145 s (execMeTargetWrite init k
    target s) := by
  unfold execMeTargetWrite
  exact (KeepsR.next (Keeps.cmdWrite (by decide) (Keeps.step (fresh_keeps ..) (by decide) (Keeps.refl _ _)) (fun t0 k0 => (Keeps.step
      (State.meCommand_keeps ..) (by decide) (Keeps.step (State.wr_keeps ..) (by decide) k0))) (fun _ => Keeps.step (State.endAccess_keeps ..) (by
      decide) (Keeps.step (State.violate_keeps ..) (by decide) (Keeps.step (fresh_keeps ..) (by decide) (Keeps.refl _ _))))))

theorem execMeSetpos_keeps (init : Initiator) (k : Fin 6) (s : State) : KeepsR 1610613761 s (execMeSetpos init k s) := by
  unfold execMeSetpos
  exact (KeepsR.next (Keeps.cmdField (by decide) (Keeps.step (fresh_keeps ..) (by decide) (Keeps.refl _ _)) (fun t0 k0 => (Keeps.step
      (State.wr_keeps ..) (by decide) (Keeps.step (State.setPos_keeps ..) (by decide) k0))) (fun _ => Keeps.step (State.endAccess_keeps ..) (by
      decide) (Keeps.step (State.violate_keeps ..) (by decide) (Keeps.step (fresh_keeps ..) (by decide) (Keeps.refl _ _))))))

theorem rampStep_keeps (k : Nat) (volt : Nat) (s : State) : Keeps 16385 s (rampStep k volt s) := by
  unfold rampStep
  extract_lets a0_0
  have h_a0_0 : Keeps 16385 s a0_0 := (Keeps.step (State.mapMe_keeps ..) (by decide) (Keeps.refl _ _))
  exact (Keeps.ite (Keeps.step (State.meApplyDuty_keeps ..) (by decide) (Keeps.step (State.mapMe_keeps ..) (by decide) h_a0_0)) h_a0_0)

theorem execMeRampStep_keeps (k : Fin 6) (volt : Fin 65536) (s : State) : KeepsR 536887297 s (execMeRampStep k volt s) := by
  unfold execMeRampStep
  exact (KeepsR.next (Keeps.step (rampStep_keeps ..) (by decide) (Keeps.step (fresh_keeps ..) (by decide) (Keeps.refl _ _))))

theorem rippleSample_keeps (k : Nat) (us : Nat) (volt : Nat) (i : Int) (crossing : Bool) (s : State) : Keeps 1610629121 s (rippleSample k us volt i
    crossing s) := by
  unfold rippleSample
  exact (Keeps.ite (Keeps.refl _ _) (Keeps.ite (Keeps.step (State.sticky_keeps ..) (by decide) (Keeps.step (State.count_keeps ..) (by decide)
      (Keeps.refl _ _))) (Keeps.step (State.meCount_keeps ..) (by decide) (Keeps.refl _ _))))

theorem execMeRippleSample_keeps (k : Fin 6) (us : Fin 65536) (volt : BitVec 16) (i : BitVec 32) (crossing : Bool) (s : State) : KeepsR 1611153409 s
    (execMeRippleSample k us volt i crossing s) := by
  unfold execMeRippleSample
  exact (KeepsR.next (Keeps.step (State.meReports_keeps ..) (by decide) (Keeps.step (rippleSample_keeps ..) (by decide) (Keeps.step (fresh_keeps ..)
      (by decide) (Keeps.refl _ _)))))

theorem rippleInsert_keeps (k : Nat) (us : Nat) (volt : Nat) (i : Int) (s : State) : Keeps 1610629121 s (rippleInsert k us volt i s) := by
  unfold rippleInsert
  exact (Keeps.ite (Keeps.refl _ _) (Keeps.step (State.meCount_keeps ..) (by decide) (Keeps.step (State.sticky_keeps ..) (by decide) (Keeps.step
      (State.count_keeps ..) (by decide) (Keeps.refl _ _)))))

theorem execMeRippleInsert_keeps (k : Fin 6) (us : Fin 65536) (volt : BitVec 16) (i : BitVec 32) (s : State) : KeepsR 1611153409 s
    (execMeRippleInsert k us volt i s) := by
  unfold execMeRippleInsert
  exact (KeepsR.next (Keeps.step (State.meReports_keeps ..) (by decide) (Keeps.step (rippleInsert_keeps ..) (by decide) (Keeps.step (fresh_keeps ..)
      (by decide) (Keeps.refl _ _)))))

theorem hallEdge_keeps (k : Nat) (us : Nat) (up : Bool) (s : State) : Keeps 536887297 s (hallEdge k us up s) := by
  unfold hallEdge
  extract_lets a0_0 a0_1
  exact (Keeps.ite (Keeps.refl _ _) (Keeps.ite (Keeps.step (State.meCount_keeps ..) (by decide) (Keeps.refl _ _)) (Keeps.ite (Keeps.step
      (State.meCount_keeps ..) (by decide) (Keeps.refl _ _)) (Keeps.refl _ _))))

theorem execMeHallEdge_keeps (k : Fin 6) (us : Fin 65536) (up : Bool) (s : State) : KeepsR 1611153409 s (execMeHallEdge k us up s) := by
  unfold execMeHallEdge
  exact (KeepsR.next (Keeps.step (State.meReports_keeps ..) (by decide) (Keeps.step (hallEdge_keeps ..) (by decide) (Keeps.step (fresh_keeps ..) (by
      decide) (Keeps.refl _ _)))))

theorem endStop_keeps (k : Nat) (s : State) : Keeps 1610629121 s (endStop k s) := by
  unfold endStop
  exact (Keeps.ite (Keeps.step (State.meStop_keeps ..) (by decide) (Keeps.refl _ _)) (Keeps.refl _ _))

theorem execMeEndStop_keeps (k : Fin 6) (s : State) : KeepsR 1610629121 s (execMeEndStop k s) := by
  unfold execMeEndStop
  exact (KeepsR.next (Keeps.step (endStop_keeps ..) (by decide) (Keeps.step (fresh_keeps ..) (by decide) (Keeps.refl _ _))))

theorem forceEstimate_keeps (k : Nat) (i : Nat) (s : State) : Keeps 1610629121 s (forceEstimate k i s) := by
  unfold forceEstimate
  refine (Keeps.ite (Keeps.step (State.wr_keeps ..) (by decide) (Keeps.refl _ _)) ?_)
  extract_lets a0_0 a0_1 a0_2 a0_3 a0_4 a0_5
  have h_a0_4 : Keeps 1610629121 s a0_4 := (Keeps.step (State.mapMe_keeps ..) (by decide) (Keeps.refl _ _))
  have h_a0_5 : Keeps 1610629121 s a0_5 := (Keeps.step (State.wr_keeps ..) (by decide) h_a0_4)
  exact (Keeps.ite (Keeps.step (State.wr_keeps ..) (by decide) h_a0_4) (Keeps.ite (Keeps.step (State.mePinch_keeps ..) (by decide) h_a0_5) h_a0_5))

theorem execMeForceEstimate_keeps (k : Fin 6) (ma : Fin 65536) (s : State) : KeepsR 1610629121 s (execMeForceEstimate k ma s) := by
  unfold execMeForceEstimate
  exact (KeepsR.next (Keeps.step (forceEstimate_keeps ..) (by decide) (Keeps.step (fresh_keeps ..) (by decide) (Keeps.refl _ _))))

theorem reverseBrakeEnd_keeps (k : Nat) (s : State) : Keeps 536887297 s (reverseBrakeEnd k s) := by
  unfold reverseBrakeEnd
  exact (Keeps.ite (Keeps.step (State.meReverseDrive_keeps ..) (by decide) (Keeps.refl _ _)) (Keeps.refl _ _))

theorem execMeReverseBrakeEnd_keeps (k : Fin 6) (s : State) : KeepsR 536887297 s (execMeReverseBrakeEnd k s) := by
  unfold execMeReverseBrakeEnd
  exact (KeepsR.next (Keeps.step (reverseBrakeEnd_keeps ..) (by decide) (Keeps.step (fresh_keeps ..) (by decide) (Keeps.refl _ _))))

theorem parkTimeout_keeps (k : Nat) (s : State) : Keeps 1610629121 s (parkTimeout k s) := by
  unfold parkTimeout
  exact (Keeps.ite (Keeps.step (State.meEnterBrake_keeps ..) (by decide) (Keeps.step (State.sticky_keeps ..) (by decide) (Keeps.refl _ _)))
      (Keeps.refl _ _))

theorem execMeParkTimeout_keeps (k : Fin 6) (s : State) : KeepsR 1610629121 s (execMeParkTimeout k s) := by
  unfold execMeParkTimeout
  exact (KeepsR.next (Keeps.step (parkTimeout_keeps ..) (by decide) (Keeps.step (fresh_keeps ..) (by decide) (Keeps.refl _ _))))

theorem settleElapsed_keeps (k : Nat) (s : State) : Keeps 1610629121 s (settleElapsed k s) := by
  unfold settleElapsed
  extract_lets a0_0
  have h_a0_0 : Keeps 1610629121 s a0_0 := (Keeps.step (State.mapMe_keeps ..) (by decide) (Keeps.refl _ _))
  exact (Keeps.ite (Keeps.step (State.meSettled_keeps ..) (by decide) h_a0_0) (Keeps.step (State.wr_keeps ..) (by decide) h_a0_0))

theorem execMeSettleElapsed_keeps (k : Fin 6) (s : State) : KeepsR 1610629121 s (execMeSettleElapsed k s) := by
  unfold execMeSettleElapsed
  exact (KeepsR.next (Keeps.ite (Keeps.step (fresh_keeps ..) (by decide) (Keeps.refl _ _)) (Keeps.step (settleElapsed_keeps ..) (by decide)
      (Keeps.step (fresh_keeps ..) (by decide) (Keeps.refl _ _)))))

/-! ## Events -/

theorem armCmd_keeps (s : State) : Keeps 1619002369 s (armCmd s) := by
  unfold armCmd
  exact (Keeps.ite (Keeps.refl _ _) (Keeps.step (State.evArm_keeps ..) (by decide) (Keeps.refl _ _)))

theorem execEventArm_keeps (init : Initiator) (s : State) : KeepsR 1619002369 s (execEventArm init s) := by
  unfold execEventArm
  extract_lets a0_0
  have h_a0_0 : Keeps 1619002369 s a0_0 := (Keeps.step (fresh_keeps ..) (by decide) (Keeps.refl _ _))
  exact (KeepsR.next (Keeps.cmdField (by decide) h_a0_0 (fun t1 k1 => (Keeps.step (armCmd_keeps ..) (by decide) k1)) (fun _ => Keeps.step
      (State.endAccess_keeps ..) (by decide) (Keeps.step (State.violate_keeps ..) (by decide) h_a0_0))))

theorem disarmCmd_keeps (s : State) : Keeps 1619002369 s (disarmCmd s) := by
  unfold disarmCmd
  exact (Keeps.step (State.evDrop_keeps ..) (by decide) (Keeps.refl _ _))

theorem execEventDisarm_keeps (init : Initiator) (s : State) : KeepsR 1619002369 s (execEventDisarm init s) := by
  unfold execEventDisarm
  exact (KeepsR.next (Keeps.cmdField (by decide) (Keeps.step (fresh_keeps ..) (by decide) (Keeps.refl _ _)) (fun t0 k0 => (Keeps.step
      (disarmCmd_keeps ..) (by decide) k0)) (fun _ => Keeps.step (State.endAccess_keeps ..) (by decide) (Keeps.step (State.violate_keeps ..) (by
      decide) (Keeps.step (fresh_keeps ..) (by decide) (Keeps.refl _ _))))))

theorem groupArmCmd_keeps (s : State) : Keeps 1619002369 s (groupArmCmd s) := by
  unfold groupArmCmd
  exact (Keeps.step (State.groupArm_keeps ..) (by decide) (Keeps.refl _ _))

theorem execEventGroupArm_keeps (init : Initiator) (s : State) : KeepsR 1619002369 s (execEventGroupArm init s) := by
  unfold execEventGroupArm
  extract_lets a0_0
  have h_a0_0 : Keeps 1619002369 s a0_0 := (Keeps.step (fresh_keeps ..) (by decide) (Keeps.refl _ _))
  exact (KeepsR.next (Keeps.cmdField (by decide) h_a0_0 (fun t1 k1 => (Keeps.step (groupArmCmd_keeps ..) (by decide) k1)) (fun _ => Keeps.step
      (State.endAccess_keeps ..) (by decide) (Keeps.step (State.violate_keeps ..) (by decide) h_a0_0))))

theorem groupDisarmCmd_keeps (s : State) : Keeps 1619002369 s (groupDisarmCmd s) := by
  unfold groupDisarmCmd
  exact (Keeps.step (State.groupDisarm_keeps ..) (by decide) (Keeps.refl _ _))

theorem execEventGroupDisarm_keeps (init : Initiator) (s : State) : KeepsR 1619002369 s (execEventGroupDisarm init s) := by
  unfold execEventGroupDisarm
  exact (KeepsR.next (Keeps.cmdField (by decide) (Keeps.step (fresh_keeps ..) (by decide) (Keeps.refl _ _)) (fun t0 k0 => (Keeps.step
      (groupDisarmCmd_keeps ..) (by decide) k0)) (fun _ => Keeps.step (State.endAccess_keeps ..) (by decide) (Keeps.step (State.violate_keeps ..)
      (by decide) (Keeps.step (fresh_keeps ..) (by decide) (Keeps.refl _ _))))))

theorem evaluate_keeps (s : State) : Keeps 1623196673 s (evaluate s) := by
  unfold evaluate
  refine (Keeps.ite (Keeps.refl _ _) ?_)
  extract_lets a0_0
  have h_a0_0 : Keeps 1623196673 s a0_0 := (Keeps.each (Keeps.refl _ _) (fun t1 y1 k1 => (Keeps.step (State.evEval_keeps ..) (by decide) k1)))
  exact (Keeps.setAxes h_a0_0 (by decide) (fun hc => map_keys hc.2.2.2.1 fun _ => rfl))

theorem execEventPoolEvaluate_keeps (s : State) : KeepsR 1623196673 s (execEventPoolEvaluate s) := by
  unfold execEventPoolEvaluate
  exact (KeepsR.next (Keeps.step (evaluate_keeps ..) (by decide) (Keeps.step (fresh_keeps ..) (by decide) (Keeps.refl _ _))))

theorem actMark_keeps (s : State) : Keeps 1619002369 s (actMark s) := by
  unfold actMark
  split
  · exact (Keeps.refl _ _)
  · next p1_0 p1_1 e1 =>
      have q1 := KeepsOQ.get (T := 1619002369) (a := s) (KeepsOQ.step (State.takeAct_keeps ..) (by decide) (Keeps.refl _ _)) e1
      exact (Keeps.step (State.evDone_keeps ..) (by decide) q1)

theorem execActionMark_keeps (s : State) : KeepsR 1619002369 s (execActionMark s) := by
  unfold execActionMark
  exact (KeepsR.next (Keeps.step (actMark_keeps ..) (by decide) (Keeps.step (fresh_keeps ..) (by decide) (Keeps.refl _ _))))

theorem actLaunch_keeps (s : State) : Keeps 1619002513 s (actLaunch s) := by
  unfold actLaunch
  split
  · exact (Keeps.refl _ _)
  · next p1_0 p1_1 e1 =>
      have q1 := KeepsOQ.get (T := 1619002513) (a := s) (KeepsOQ.step (State.takeAct_keeps ..) (by decide) (Keeps.refl _ _)) e1
      extract_lets a2_0
      clear_value a2_0
      refine (Keeps.ite (Keeps.step (State.evRefused_keeps ..) (by decide) q1) ?_)
      split
      · exact (Keeps.step (State.event_keeps ..) (by decide) (Keeps.step (State.sticky_keeps ..) (by decide) (Keeps.step (State.evEnd_keeps ..) (by
          decide) q1)))
      · extract_lets a5_0 a5_1
        have h_a5_1 : Keeps 1619002513 s a5_1 := (Keeps.step (State.setTxFrames_keeps ..) (by decide) (Keeps.step (State.setLaunch_keeps ..) (by
            decide) q1))
        exact (Keeps.step (State.evDone_keeps ..) (by decide) (Keeps.step (State.enterPipe_keeps ..) (by decide) h_a5_1))

theorem execActionLaunch_keeps (s : State) : KeepsR 1619002513 s (execActionLaunch s) := by
  unfold execActionLaunch
  exact (KeepsR.next (Keeps.step (actLaunch_keeps ..) (by decide) (Keeps.step (fresh_keeps ..) (by decide) (Keeps.refl _ _))))

theorem actSendPdu_keeps (s : State) : Keeps 1619526657 s (actSendPdu s) := by
  unfold actSendPdu
  split
  · exact (Keeps.refl _ _)
  · next p1_0 p1_1 e1 =>
      have q1 := KeepsOQ.get (T := 1619526657) (a := s) (KeepsOQ.step (State.takeAct_keeps ..) (by decide) (Keeps.refl _ _)) e1
      extract_lets a2_0
      exact (Keeps.ite (Keeps.step (State.evRefused_keeps ..) (by decide) q1) (Keeps.ite (Keeps.step (State.evRefused_keeps ..) (by decide)
          (Keeps.step (State.buildDue_keeps ..) (by decide) q1)) (Keeps.step (State.evDone_keeps ..) (by decide) (Keeps.step (State.buildDue_keeps
          ..) (by decide) q1))))

theorem execActionSendPdu_keeps (s : State) : KeepsR 1619526657 s (execActionSendPdu s) := by
  unfold execActionSendPdu
  exact (KeepsR.next (Keeps.step (actSendPdu_keeps ..) (by decide) (Keeps.step (fresh_keeps ..) (by decide) (Keeps.refl _ _))))

theorem actGate_keeps (s : State) : Keeps 1619002497 s (actGate s) := by
  unfold actGate
  split
  · exact (Keeps.refl _ _)
  · next p1_0 p1_1 e1 =>
      have q1 := KeepsOQ.get (T := 1619002497) (a := s) (KeepsOQ.step (State.takeAct_keeps ..) (by decide) (Keeps.refl _ _)) e1
      exact (Keeps.ite (Keeps.step (State.evRefused_keeps ..) (by decide) q1) (Keeps.step (State.evDone_keeps ..) (by decide) (Keeps.each q1 (fun t2
          y2 k2 => (Keeps.step (State.setGate_keeps ..) (by decide) k2)))))

theorem execActionGate_keeps (s : State) : KeepsR 1619002497 s (execActionGate s) := by
  unfold execActionGate
  exact (KeepsR.next (Keeps.step (actGate_keeps ..) (by decide) (Keeps.step (fresh_keeps ..) (by decide) (Keeps.refl _ _))))

theorem actSgate_keeps (s : State) : Keeps 1619002369 s (actSgate s) := by
  unfold actSgate
  split
  · exact (Keeps.refl _ _)
  · next p1_0 p1_1 e1 =>
      have q1 := KeepsOQ.get (T := 1619002369) (a := s) (KeepsOQ.step (State.takeAct_keeps ..) (by decide) (Keeps.refl _ _)) e1
      extract_lets a2_0
      exact (Keeps.ite (Keeps.step (State.evRefused_keeps ..) (by decide) q1) (Keeps.step (State.evDone_keeps ..) (by decide) (Keeps.step
          (State.wr_keeps ..) (by decide) q1)))

theorem execActionSgate_keeps (s : State) : KeepsR 1619002369 s (execActionSgate s) := by
  unfold execActionSgate
  exact (KeepsR.next (Keeps.step (actSgate_keeps ..) (by decide) (Keeps.step (fresh_keeps ..) (by decide) (Keeps.refl _ _))))

theorem actChOn_keeps (s : State) : Keeps 1619018753 s (actChOn s) := by
  unfold actChOn
  exact (Keeps.step (State.ixIssued_keeps ..) (by decide) (Keeps.refl _ _))

theorem execActionChOn_keeps (s : State) : KeepsR 1619018753 s (execActionChOn s) := by
  unfold execActionChOn
  exact (KeepsR.next (Keeps.step (actChOn_keeps ..) (by decide) (Keeps.step (fresh_keeps ..) (by decide) (Keeps.refl _ _))))

theorem actChDuty_keeps (s : State) : Keeps 1619018753 s (actChDuty s) := by
  unfold actChDuty
  exact (Keeps.step (State.ixIssued_keeps ..) (by decide) (Keeps.refl _ _))

theorem execActionChDuty_keeps (s : State) : KeepsR 1619018753 s (execActionChDuty s) := by
  unfold execActionChDuty
  exact (KeepsR.next (Keeps.step (actChDuty_keeps ..) (by decide) (Keeps.step (fresh_keeps ..) (by decide) (Keeps.refl _ _))))

theorem actChPhase_keeps (s : State) : Keeps 1619018753 s (actChPhase s) := by
  unfold actChPhase
  exact (Keeps.step (State.ixIssued_keeps ..) (by decide) (Keeps.refl _ _))

theorem execActionChPhase_keeps (s : State) : KeepsR 1619018753 s (execActionChPhase s) := by
  unfold execActionChPhase
  exact (KeepsR.next (Keeps.step (actChPhase_keeps ..) (by decide) (Keeps.step (fresh_keeps ..) (by decide) (Keeps.refl _ _))))

theorem actSample_keeps (high : Bool) (mv : Nat) (s : State) : Keeps 1619526657 s (actSample high mv s) := by
  unfold actSample
  split
  · exact (Keeps.refl _ _)
  · next p1_0 p1_1 e1 =>
      have q1 := KeepsOQ.get (T := 1619526657) (a := s) (KeepsOQ.step (State.takeAct_keeps ..) (by decide) (Keeps.refl _ _)) e1
      exact (Keeps.ite (Keeps.ite (Keeps.step (State.evRefused_keeps ..) (by decide) q1) (Keeps.step (State.evDone_keeps ..) (by decide) (Keeps.step
          (State.reportAll_keeps ..) (by decide) q1))) (Keeps.ite (Keeps.step (State.evRefused_keeps ..) (by decide) q1) (Keeps.step
          (State.evDone_keeps ..) (by decide) (Keeps.step (State.reportAll_keeps ..) (by decide) q1))))

theorem execActionSample_keeps (x : PinReading) (s : State) : KeepsR 1619526657 s (execActionSample x s) := by
  unfold execActionSample
  exact (KeepsR.next (Keeps.step (actSample_keeps ..) (by decide) (Keeps.step (fresh_keeps ..) (by decide) (Keeps.refl _ _))))

theorem actSetSignal_keeps (s : State) : Keeps 1619788801 s (actSetSignal s) := by
  unfold actSetSignal
  split
  · exact (Keeps.refl _ _)
  · next p1_0 p1_1 e1 =>
      have q1 := KeepsOQ.get (T := 1619788801) (a := s) (KeepsOQ.step (State.takeAct_keeps ..) (by decide) (Keeps.refl _ _)) e1
      extract_lets a2_0 a2_1
      exact (Keeps.ite (Keeps.step (State.evRefused_keeps ..) (by decide) q1) (Keeps.step (State.evDone_keeps ..) (by decide) (Keeps.step
          (State.sigStore_keeps ..) (by decide) q1)))

theorem execActionSetSignal_keeps (s : State) : KeepsR 1619788801 s (execActionSetSignal s) := by
  unfold execActionSetSignal
  exact (KeepsR.next (Keeps.step (actSetSignal_keeps ..) (by decide) (Keeps.step (fresh_keeps ..) (by decide) (Keeps.refl _ _))))

theorem actMeMove_keeps (s : State) : Keeps 1619018753 s (actMeMove s) := by
  unfold actMeMove
  exact (Keeps.step (State.ixIssued_keeps ..) (by decide) (Keeps.refl _ _))

theorem execActionMeMove_keeps (s : State) : KeepsR 1619018753 s (execActionMeMove s) := by
  unfold execActionMeMove
  exact (KeepsR.next (Keeps.step (actMeMove_keeps ..) (by decide) (Keeps.step (fresh_keeps ..) (by decide) (Keeps.refl _ _))))

theorem actMeMode_keeps (s : State) : Keeps 1619018753 s (actMeMode s) := by
  unfold actMeMode
  exact (Keeps.step (State.ixIssued_keeps ..) (by decide) (Keeps.refl _ _))

theorem execActionMeMode_keeps (s : State) : KeepsR 1619018753 s (execActionMeMode s) := by
  unfold execActionMeMode
  exact (KeepsR.next (Keeps.step (actMeMode_keeps ..) (by decide) (Keeps.step (fresh_keeps ..) (by decide) (Keeps.refl _ _))))

theorem actGroups_keeps (s : State) : Keeps 1619002369 s (actGroups s) := by
  unfold actGroups
  split
  · exact (Keeps.refl _ _)
  · next p1_0 p1_1 e1 =>
      have q1 := KeepsOQ.get (T := 1619002369) (a := s) (KeepsOQ.step (State.takeAct_keeps ..) (by decide) (Keeps.refl _ _)) e1
      exact (Keeps.step (State.evDone_keeps ..) (by decide) (Keeps.step (State.groupArm_keeps ..) (by decide) (Keeps.step (State.groupDisarm_keeps
          ..) (by decide) q1)))

theorem execActionGroups_keeps (s : State) : KeepsR 1619002369 s (execActionGroups s) := by
  unfold execActionGroups
  exact (KeepsR.next (Keeps.step (actGroups_keeps ..) (by decide) (Keeps.step (fresh_keeps ..) (by decide) (Keeps.refl _ _))))

theorem State.timedAct_keeps (s : State) (i : Nat) (arg : Nat) : Keeps 1610630145 s (State.timedAct s i arg) := by
  unfold State.timedAct
  split
  · exact (Keeps.step (State.evRefused_keeps ..) (by decide) (Keeps.refl _ _))
  · next p1_0 e1 =>
      have q1 := KeepsO.get (T := 1610630145) (a := s) (KeepsO.step (State.ixAction_keeps ..) (by decide) (Keeps.refl _ _)) e1
      exact (Keeps.step (State.evDone_keeps ..) (by decide) q1)

theorem State.timedOne_keeps (s : State) (i : Nat) (a : ArmedEv) : Keeps 1619018753 s (State.timedOne s i a) := by
  unfold State.timedOne
  extract_lets a0_0 a0_1 a0_2
  exact (Keeps.step (State.timedAct_keeps ..) (by decide) (Keeps.step (State.evAdvance_keeps ..) (by decide) (Keeps.step (State.wr_keeps ..) (by
      decide) (Keeps.step (State.evOverrun_keeps ..) (by decide) (Keeps.refl _ _)))))

theorem timedApply_keeps (s : State) : Keeps 1619018753 s (timedApply s) := by
  unfold timedApply
  split
  · exact (Keeps.refl _ _)
  · exact (Keeps.step (State.timedOne_keeps ..) (by decide) (Keeps.refl _ _))

theorem execIxTimedActionApply_keeps (s : State) : KeepsR 1619018753 s (execIxTimedActionApply s) := by
  unfold execIxTimedActionApply
  exact (KeepsR.next (Keeps.step (timedApply_keeps ..) (by decide) (Keeps.step (fresh_keeps ..) (by decide) (Keeps.refl _ _))))

/-! ## Rings -/

theorem ringTail_keeps (tx : Bool) (r : Nat) (v : Nat) (s : State) : Keeps 1610613905 s (ringTail tx r v s) := by
  unfold ringTail
  extract_lets a0_0 a0_1
  have h_a0_0 : Keeps 1610613905 s a0_0 := (Keeps.step (State.wr_keeps ..) (by decide) (Keeps.refl _ _))
  exact (Keeps.ite (Keeps.step (State.descError_keeps ..) (by decide) h_a0_0) h_a0_0)

theorem execRingTailWrite_keeps (init : Initiator) (tx : Bool) (r : Fin 16) (v : BitVec 16) (s : State) : KeepsR 1610613905 s (execRingTailWrite
    init tx r v s) := by
  unfold execRingTailWrite
  exact (KeepsR.next (Keeps.cmdWrite (by decide) (Keeps.step (fresh_keeps ..) (by decide) (Keeps.refl _ _)) (fun t0 k0 => (Keeps.step
      (ringTail_keeps ..) (by decide) k0)) (fun _ => Keeps.step (State.endAccess_keeps ..) (by decide) (Keeps.step (State.violate_keeps ..) (by
      decide) (Keeps.step (fresh_keeps ..) (by decide) (Keeps.refl _ _))))))

theorem State.putCfg_keeps (s : State) (tx : Bool) (r : Nat) (low : Nat) : Keeps 1 s (State.putCfg s tx r low) := by
  unfold State.putCfg
  extract_lets a0_0
  have h_a0_0 : Keeps 1 s a0_0 := (Keeps.step (State.wr_keeps ..) (by decide) (Keeps.refl _ _))
  exact (Keeps.ite (Keeps.step (State.wr_keeps ..) (by decide) h_a0_0) h_a0_0)

theorem ringBegin_keeps (tx : Bool) (r : Nat) (low : Nat) (s : State) : Keeps 1610613777 s (ringBegin tx r low s) := by
  unfold ringBegin
  extract_lets a0_0 a0_1 a0_2 a0_3 a0_4 a0_5 a0_6
  have h_a0_1 : Keeps 1610613777 s a0_1 := (Keeps.step (State.wr_keeps ..) (by decide) (Keeps.step (State.putCfg_keeps ..) (by decide) (Keeps.refl _
      _)))
  have h_a0_2 : Keeps 1610613777 s a0_2 := (Keeps.step (State.wr_keeps ..) (by decide) (Keeps.step (State.wr_keeps ..) (by decide) (Keeps.step
      (State.wr_keeps ..) (by decide) h_a0_1)))
  have h_a0_3 : Keeps 1610613777 s a0_3 := (Keeps.step (State.setDone_keeps ..) (by decide) h_a0_2)
  have h_a0_5 : Keeps 1610613777 s a0_5 := (Keeps.step (State.wbLoose_keeps ..) (by decide) (Keeps.step (State.setTxDescs_keeps ..) (by decide)
      h_a0_3))
  have h_a0_6 : Keeps 1610613777 s a0_6 := (Keeps.step (State.setDone_keeps ..) (by decide) (Keeps.step (State.wr_keeps ..) (by decide) h_a0_5))
  exact (Keeps.ite h_a0_1 (Keeps.ite (Keeps.step (State.setTxFrames_keeps ..) (by decide) h_a0_6) h_a0_3))

theorem execRingEnSet_keeps (init : Initiator) (tx : Bool) (r : Fin 16) (low : Fin 128) (s : State) : KeepsR 1610613777 s (execRingEnSet init tx r
    low s) := by
  unfold execRingEnSet
  extract_lets a0_0
  have h_a0_0 : Keeps 1610613777 s a0_0 := (Keeps.step (fresh_keeps ..) (by decide) (Keeps.refl _ _))
  exact (KeepsR.next (Keeps.cmdWrite (by decide) h_a0_0 (fun t1 k1 => (Keeps.step (ringBegin_keeps ..) (by decide) k1)) (fun _ => Keeps.step
      (State.endAccess_keeps ..) (by decide) (Keeps.step (State.violate_keeps ..) (by decide) h_a0_0))))

theorem ringClear_keeps (tx : Bool) (r : Nat) (low : Nat) (s : State) : Keeps 1610613905 s (ringClear tx r low s) := by
  unfold ringClear
  extract_lets a0_0 a0_1 a0_2
  have h_a0_1 : Keeps 1610613905 s a0_1 := (Keeps.step (State.wr_keeps ..) (by decide) (Keeps.refl _ _))
  have h_a0_2 : Keeps 1610613905 s a0_2 := (Keeps.ite h_a0_1 (Keeps.ite (Keeps.step (State.txFlush_keeps ..) (by decide) h_a0_1) (Keeps.step
      (State.ringStop_keeps ..) (by decide) (Keeps.ite (Keeps.step (State.txFlush_keeps ..) (by decide) h_a0_1) h_a0_1))))
  exact (Keeps.step (State.putCfg_keeps ..) (by decide) h_a0_2)

theorem execRingEnClear_keeps (init : Initiator) (tx : Bool) (r : Fin 16) (low : Fin 128) (s : State) : KeepsR 1610613905 s (execRingEnClear init tx
    r low s) := by
  unfold execRingEnClear
  extract_lets a0_0
  have h_a0_0 : Keeps 1610613905 s a0_0 := (Keeps.step (fresh_keeps ..) (by decide) (Keeps.refl _ _))
  exact (KeepsR.next (Keeps.cmdWrite (by decide) h_a0_0 (fun t1 k1 => (Keeps.step (ringClear_keeps ..) (by decide) k1)) (fun _ => Keeps.step
      (State.endAccess_keeps ..) (by decide) (Keeps.step (State.violate_keeps ..) (by decide) h_a0_0))))

theorem ringFetch_keeps (tx : Bool) (r : Nat) (d : RingDesc) (s : State) : Keeps 1879049361 s (ringFetch tx r d s) := by
  unfold ringFetch
  exact (Keeps.ite (Keeps.refl _ _) (Keeps.ite (Keeps.step (State.txTake_keeps ..) (by decide) (Keeps.refl _ _)) (Keeps.step (State.rxTake_keeps ..)
      (by decide) (Keeps.refl _ _))))

theorem execRingDescFetch_keeps (tx : Bool) (r : Fin 16) (d : RingDesc) (s : State) : KeepsR 1879049361 s (execRingDescFetch tx r d s) := by
  unfold execRingDescFetch
  exact (KeepsR.next (Keeps.step (ringFetch_keeps ..) (by decide) (Keeps.step (fresh_keeps ..) (by decide) (Keeps.refl _ _))))

theorem launchFetch_keeps (r : Nat) (l : List RingDesc) (s : State) : Keeps 1879049361 s (launchFetch r l s) := by
  unfold launchFetch
  exact (Keeps.each (Keeps.refl _ _) (fun t0 y0 k0 => (Keeps.ite (Keeps.step (State.txTake_keeps ..) (by decide) k0) k0)))

theorem execLaunchFetch_keeps (r : Fin 16) (l : List RingDesc) (s : State) : KeepsR 1879049361 s (execLaunchFetch r l s) := by
  unfold execLaunchFetch
  exact (KeepsR.next (Keeps.step (launchFetch_keeps ..) (by decide) (Keeps.step (fresh_keeps ..) (by decide) (Keeps.refl _ _))))

theorem ringWriteback_keeps (tx : Bool) (r : Nat) (s : State) : Keeps 1610613905 s (ringWriteback tx r s) := by
  unfold ringWriteback
  refine (Keeps.ite (Keeps.refl _ _) ?_)
  refine (Keeps.ite ?_ ?_)
  · split
    · exact (Keeps.refl _ _)
    · exact (Keeps.step (State.wbFrame_keeps ..) (by decide) (Keeps.step (State.setTxFrames_keeps ..) (by decide) (Keeps.refl _ _)))
  · refine (Keeps.ite (Keeps.refl _ _) ?_)
    split
    · exact (Keeps.refl _ _)
    · refine (Keeps.ite (Keeps.step (State.ringHeadEnd_keeps ..) (by decide) (Keeps.refl _ _)) ?_)
      split
      · extract_lets a5_0 a5_1
        have h_a5_1 : Keeps 1610613905 s a5_1 := (Keeps.step (State.setFab_keeps ..) (by decide) (Keeps.step (State.setRxDescs_keeps ..) (by decide)
            (Keeps.refl _ _)))
        exact (Keeps.step (State.rxDeliver_keeps ..) (by decide) h_a5_1)
      · exact (Keeps.ite (Keeps.step (State.descError_keeps ..) (by decide) (Keeps.refl _ _)) (Keeps.refl _ _))

theorem execRingWriteback_keeps (tx : Bool) (r : Fin 16) (s : State) : KeepsR 1610613905 s (execRingWriteback tx r s) := by
  unfold execRingWriteback
  exact (KeepsR.next (Keeps.step (ringWriteback_keeps ..) (by decide) (Keeps.step (fresh_keeps ..) (by decide) (Keeps.refl _ _))))

theorem descLease_keeps (tx : Bool) (r : Nat) (s : State) : Keeps 1610613905 s (descLease tx r s) := by
  unfold descLease
  refine (Keeps.ite (Keeps.refl _ _) ?_)
  extract_lets a0_0 a0_1 a0_2
  have h_a0_0 : Keeps 1610613905 s a0_0 := (Keeps.step (State.leaseRevoked_keeps ..) (by decide) (Keeps.refl _ _))
  clear_value a0_0 a0_1 a0_2
  refine (Keeps.ite ?_ ?_)
  · split
    · exact h_a0_0
    · extract_lets a3_0
      have h_a3_0 : Keeps 1610613905 s a3_0 := (Keeps.step (State.wbRxEmpty_keeps ..) (by decide) (Keeps.step (State.setRxDescs_keeps ..) (by
          decide) h_a0_0))
      exact (Keeps.ite (Keeps.step (State.ringIrq_keeps ..) (by decide) (Keeps.step (State.complete_keeps ..) (by decide) h_a3_0)) h_a3_0)
  · split
    · exact (Keeps.step (State.wbFrame_keeps ..) (by decide) (Keeps.step (State.setTxFrames_keeps ..) (by decide) h_a0_0))
    · split
      · exact (Keeps.step (State.wbFrame_keeps ..) (by decide) (Keeps.step (State.endItem_keeps ..) (by decide) (Keeps.step (State.setLaunch_keeps
          ..) (by decide) h_a0_0)))
      · exact (Keeps.step (State.wbLoose_keeps ..) (by decide) (Keeps.step (State.setTxDescs_keeps ..) (by decide) h_a0_0))

theorem execRingDescLeaseExpiry_keeps (tx : Bool) (r : Fin 16) (s : State) : KeepsR 1610613905 s (execRingDescLeaseExpiry tx r s) := by
  unfold execRingDescLeaseExpiry
  exact (KeepsR.next (Keeps.step (descLease_keeps ..) (by decide) (Keeps.step (fresh_keeps ..) (by decide) (Keeps.refl _ _))))

theorem dmaError_keeps (tx : Bool) (r : Nat) (wrote : Bool) (s : State) : Keeps 1610613905 s (dmaError tx r wrote s) := by
  unfold dmaError
  refine (Keeps.ite (Keeps.refl _ _) ?_)
  extract_lets a0_0 a0_1 a0_2 a0_3
  have h_a0_0 : Keeps 1610613905 s a0_0 := (Keeps.step (State.sticky_keeps ..) (by decide) (Keeps.refl _ _))
  have h_a0_3 : Keeps 1610613905 s a0_3 := by
    unfold a0_3
    clear_value a0_0 a0_1 a0_2
    refine (Keeps.ite ?_ ?_)
    · refine (Keeps.ite ?_ (Keeps.step (State.wbLoose_keeps ..) (by decide) (Keeps.step (State.setTxDescs_keeps ..) (by decide) h_a0_0)))
      split
      · exact h_a0_0
      · exact (Keeps.foldl (Keeps.step (State.setTxFrames_keeps ..) (by decide) h_a0_0) (fun t3 y3 k3 => (Keeps.step (State.endOther_keeps ..) (by
          decide) k3)))
    · refine (Keeps.ite ?_ h_a0_0)
      split
      · exact h_a0_0
      · extract_lets a6_0 a6_1
        have h_a6_0 : Keeps 1610613905 s a6_0 := (Keeps.step (State.setFab_keeps ..) (by decide) h_a0_0)
        have h_a6_1 : Keeps 1610613905 s a6_1 := (Keeps.step (State.endCopy_keeps ..) (by decide) h_a6_0)
        clear_value a6_0 a6_1
        split
        · exact h_a6_1
        · exact (Keeps.foldl (Keeps.step (State.setRxDescs_keeps ..) (by decide) h_a6_1) (fun t9 y9 k9 => (Keeps.step (State.endOther_keeps ..) (by
            decide) k9)))
  exact (Keeps.step (State.ringStop_keeps ..) (by decide) h_a0_3)

theorem execHostDmaError_keeps (tx : Bool) (r : Fin 16) (wrote : Bool) (s : State) : KeepsR 1610613905 s (execHostDmaError tx r wrote s) := by
  unfold execHostDmaError
  exact (KeepsR.next (Keeps.step (dmaError_keeps ..) (by decide) (Keeps.step (fresh_keeps ..) (by decide) (Keeps.refl _ _))))

theorem imodEnd_keeps (tx : Bool) (r : Nat) (s : State) : Keeps 1610612753 s (imodEnd tx r s) := by
  unfold imodEnd
  extract_lets a0_0 a0_1 a0_2 a0_3
  have h_a0_3 : Keeps 1610612753 s a0_3 := (Keeps.step (State.setHost_keeps ..) (by decide) (Keeps.refl _ _))
  exact (Keeps.ite (Keeps.refl _ _) (Keeps.ite (Keeps.step (State.ringRaise_keeps ..) (by decide) h_a0_3) h_a0_3))

theorem execImodIntervalEnd_keeps (tx : Bool) (r : Fin 16) (s : State) : KeepsR 1610612753 s (execImodIntervalEnd tx r s) := by
  unfold execImodIntervalEnd
  exact (KeepsR.next (Keeps.step (imodEnd_keeps ..) (by decide) (Keeps.step (fresh_keeps ..) (by decide) (Keeps.refl _ _))))

theorem msixSend_keeps (v : Nat) (s : State) : Keeps 1610612752 s (msixSend v s) := by
  unfold msixSend
  exact (Keeps.ite (Keeps.step (State.emit_keeps ..) (by decide) (Keeps.step (State.setHost_keeps ..) (by decide) (Keeps.refl _ _))) (Keeps.refl _ _))

theorem execMsixPendingSend_keeps (v : Fin 64) (s : State) : KeepsR 1610612752 s (execMsixPendingSend v s) := by
  unfold execMsixPendingSend
  exact (KeepsR.next (Keeps.step (msixSend_keeps ..) (by decide) (Keeps.step (fresh_keeps ..) (by decide) (Keeps.refl _ _))))

theorem irqUpdate_keeps (s : State) : Keeps 1073745920 s (irqUpdate s) := by
  unfold irqUpdate
  exact (Keeps.step (State.setPins_keeps ..) (by decide) (Keeps.refl _ _))

theorem execIrqNUpdate_keeps (s : State) : KeepsR 1610616832 s (execIrqNUpdate s) := by
  unfold execIrqNUpdate
  exact (KeepsR.next (Keeps.step (irqUpdate_keeps ..) (by decide) (Keeps.step (fresh_keeps ..) (by decide) (Keeps.refl _ _))))

theorem State.setLink_keeps (s : State) (up : Bool) (rate : Nat) (width : Nat) : Keeps 1 s (State.setLink s up rate width) := by
  unfold State.setLink
  exact (Keeps.step (State.wr_keeps ..) (by decide) (Keeps.step (State.wr_keeps ..) (by decide) (Keeps.step (State.wr_keeps ..) (by decide)
      (Keeps.refl _ _))))

theorem perstLow_keeps (s : State) : Keeps 1610613905 s (perstLow s) := by
  unfold perstLow
  extract_lets a0_0 a0_1
  exact (Keeps.ite (Keeps.step (State.setHost_keeps ..) (by decide) (Keeps.refl _ _)) (Keeps.step (State.stopRings_keeps ..) (by decide) (Keeps.step
      (State.setLink_keeps ..) (by decide) (Keeps.step (State.setHost_keeps ..) (by decide) (Keeps.refl _ _)))))

theorem execPciePerstAssert_keeps (s : State) : KeepsR 1610613905 s (execPciePerstAssert s) := by
  unfold execPciePerstAssert
  exact (KeepsR.next (Keeps.step (perstLow_keeps ..) (by decide) (Keeps.step (fresh_keeps ..) (by decide) (Keeps.refl _ _))))

theorem execPciePerstRelease_keeps (s : State) : KeepsR 1610612752 s (execPciePerstRelease s) := by
  unfold execPciePerstRelease
  refine (KeepsR.next ?_)
  extract_lets a0_0 a0_1
  have h_a0_0 : Keeps 1610612752 s a0_0 := (Keeps.step (fresh_keeps ..) (by decide) (Keeps.refl _ _))
  exact (Keeps.step (State.setHost_keeps ..) (by decide) h_a0_0)

theorem linkDown_keeps (s : State) : Keeps 1610613905 s (linkDown s) := by
  unfold linkDown
  exact (Keeps.ite (Keeps.step (State.stopRings_keeps ..) (by decide) (Keeps.step (State.setLink_keeps ..) (by decide) (Keeps.refl _ _)))
      (Keeps.refl _ _))

theorem execPcieLinkDown_keeps (s : State) : KeepsR 1610613905 s (execPcieLinkDown s) := by
  unfold execPcieLinkDown
  exact (KeepsR.next (Keeps.step (linkDown_keeps ..) (by decide) (Keeps.step (fresh_keeps ..) (by decide) (Keeps.refl _ _))))

theorem State.pendAgain_keeps (s : State) : Keeps 1073741840 s (State.pendAgain s) := by
  unfold State.pendAgain
  extract_lets a0_0 a0_1 a0_2
  exact (Keeps.step (State.setHost_keeps ..) (by decide) (Keeps.refl _ _))

theorem State.hostSettings_keeps (s : State) : Keeps 1342177296 s (State.hostSettings s) := by
  unfold State.hostSettings
  extract_lets a0_0 a0_1 a0_2
  exact (Keeps.when (Keeps.step (State.setHost_keeps ..) (by decide) (KeepsQ.step (State.draw_keeps ..) (by decide) (Keeps.refl _ _))) (fun t1 k1 =>
      (Keeps.step (State.pendAgain_keeps ..) (by decide) k1)))

theorem linkTrained_keeps (rate : Nat) (two : Bool) (s : State) : Keeps 1342177297 s (linkTrained rate two s) := by
  unfold linkTrained
  exact (Keeps.ite (Keeps.step (State.hostSettings_keeps ..) (by decide) (Keeps.step (State.setLink_keeps ..) (by decide) (Keeps.refl _ _)))
      (Keeps.refl _ _))

theorem execPcieLinkUp_keeps (rate : Fin 3) (two : Bool) (s : State) : KeepsR 1879048209 s (execPcieLinkUp rate two s) := by
  unfold execPcieLinkUp
  exact (KeepsR.next (Keeps.step (linkTrained_keeps ..) (by decide) (Keeps.step (fresh_keeps ..) (by decide) (Keeps.refl _ _))))

end Sys2Proof.Machine
end

