-- ==== Sys2Proof/Laws/Keeps6.lean ====
section
/-! SUPPORT. What each operation of these files can change: Fabric, Guard, Tables, RegOps, LegacyOps, LoadOps. The number is the mask of parts (Part.code). -/

namespace Sys2Proof.Machine

/-! ## Fabric -/

theorem cutThrough_keeps (s : State) : Keeps 1644426641 s (cutThrough s) := by
  unfold cutThrough
  split
  · exact (Keeps.refl _ _)
  · extract_lets a2_0 a2_1
    have h_a2_1 : Keeps 1644426641 s a2_1 := (Keeps.step (State.mapItem_keeps ..) (by decide) (Keeps.refl _ _))
    exact (Keeps.each h_a2_1 (fun t3 y3 k3 => (Keeps.step (State.dispatch_keeps ..) (by decide) k3)))

theorem execCutThroughEnqueue_keeps (s : State) : KeepsR 1644426641 s (execCutThroughEnqueue s) := by
  unfold execCutThroughEnqueue
  exact (KeepsR.next (Keeps.step (cutThrough_keeps ..) (by decide) (Keeps.step (fresh_keeps ..) (by decide) (Keeps.refl _ _))))

theorem State.itemVerified_keeps (s : State) (it : PipeItem) (f : Frame) (strip : Nat) : Keeps 1644950929 s (State.itemVerified s it f strip) := by
  unfold State.itemVerified
  extract_lets a0_0
  exact (Keeps.step (State.afterVerify_keeps ..) (by decide) (Keeps.step (State.mapItem_keeps ..) (by decide) (Keeps.refl _ _)))

theorem State.candTaken_keeps (s : State) (c : Nat) (cand : Nat) (it : PipeItem) (f : Frame) : Keeps 1645213073 s (State.candTaken s c cand it f) :=
    by
  unfold State.candTaken
  extract_lets a0_0
  exact (Keeps.step (State.itemVerified_keeps ..) (by decide) (Keeps.step (State.verified_keeps ..) (by decide) (Keeps.refl _ _)))

theorem authItem_keeps (c : Nat) (e : Nat) (s : State) : Keeps 1645213073 s (authItem c e s) := by
  unfold authItem
  split
  · exact (Keeps.refl _ _)
  · split
    · exact (Keeps.ite (Keeps.refl _ _) (Keeps.step (State.candTaken_keeps ..) (by decide) (Keeps.refl _ _)))
    · refine (Keeps.ite (Keeps.step (State.stopItem_keeps ..) (by decide) (Keeps.refl _ _)) ?_)
      refine (Keeps.ite (Keeps.refl _ _) ?_)
      extract_lets a4_0
      have h_a4_0 : KeepsP 1645213073 s a4_0 := (KeepsP.step (State.authVerify_keeps ..) (by decide) (Keeps.refl _ _))
      clear_value a4_0
      split
      · exact (Keeps.step (State.itemVerified_keeps ..) (by decide) h_a4_0)
      · exact (Keeps.step (State.stopItem_keeps ..) (by decide) h_a4_0)
      · exact (Keeps.step (State.mapItem_keeps ..) (by decide) h_a4_0)

theorem execAuthVerify_keeps (c : Fin 4096) (e : Fin 4) (s : State) : KeepsR 1645213073 s (execAuthVerify c e s) := by
  unfold execAuthVerify
  exact (KeepsR.next (Keeps.step (authItem_keeps ..) (by decide) (Keeps.step (fresh_keeps ..) (by decide) (Keeps.refl _ _))))

theorem State.leaveAppend_keeps (s : State) (cid : Nat) : Keeps 128 s (State.leaveAppend s cid) := by
  unfold State.leaveAppend
  exact (Keeps.step (State.setFab_keeps ..) (by decide) (Keeps.refl _ _))

theorem State.appended_keeps (s : State) (c : Copy) (d : List Nat) : Keeps 1646785937 s (State.appended s c d) := by
  unfold State.appended
  extract_lets a0_0 a0_1 a0_2 a0_3 a0_4
  have h_a0_0 : Keeps 1646785937 s a0_0 := (Keeps.step (State.leaveAppend_keeps ..) (by decide) (Keeps.refl _ _))
  exact (Keeps.ite (Keeps.step (State.setTxq_keeps ..) (by decide) h_a0_0) (Keeps.ite (Keeps.step (State.linEnqueue_keeps ..) (by decide) h_a0_0)
      (Keeps.ite (Keeps.step (State.startSend_keeps ..) (by decide) h_a0_0) (Keeps.step (State.ringEnqueue_keeps ..) (by decide) h_a0_0))))

theorem State.appendEnded_keeps (s : State) (c : Copy) (d : Disp) (reason : Nat) : Keeps 1610646673 s (State.appendEnded s c d reason) := by
  unfold State.appendEnded
  extract_lets a0_0 a0_1
  have h_a0_0 : Keeps 1610646673 s a0_0 := (Keeps.step (State.leaveAppend_keeps ..) (by decide) (Keeps.refl _ _))
  have h_a0_1 : Keeps 1610646673 s a0_1 := (Keeps.ite (Keeps.step (State.setTxq_keeps ..) (by decide) h_a0_0) (Keeps.ite (Keeps.step
      (State.setReader_keeps ..) (by decide) h_a0_0) h_a0_0))
  exact (Keeps.step (State.endCopy_keeps ..) (by decide) h_a0_1)

theorem authCopy_keeps (c : Nat) (e : Nat) (s : State) : Keeps 1646785937 s (authCopy c e s) := by
  unfold authCopy
  split
  · exact (Keeps.refl _ _)
  · refine (Keeps.ite (Keeps.step (State.appendEnded_keeps ..) (by decide) (Keeps.refl _ _)) ?_)
    refine (Keeps.ite (Keeps.refl _ _) ?_)
    extract_lets a2_0 a2_1
    have h_a2_1 : KeepsP 1646785937 s a2_1 := (KeepsP.step (State.authAppend_keeps ..) (by decide) (Keeps.refl _ _))
    clear_value a2_0 a2_1
    split
    · exact (Keeps.step (State.appended_keeps ..) (by decide) h_a2_1)
    · exact (Keeps.step (State.appendEnded_keeps ..) (by decide) h_a2_1)
    · exact h_a2_1

theorem execAuthAppend_keeps (c : Fin 4096) (e : Fin 4) (s : State) : KeepsR 1646785937 s (execAuthAppend c e s) := by
  unfold execAuthAppend
  exact (KeepsR.next (Keeps.step (authCopy_keeps ..) (by decide) (Keeps.step (fresh_keeps ..) (by decide) (Keeps.refl _ _))))

theorem ceilWrite_keeps (c : Nat) (e : Nat) (s : State) : Keeps 1647310225 s (ceilWrite c e s) := by
  unfold ceilWrite
  refine (Keeps.ite (Keeps.refl _ _) ?_)
  extract_lets a0_0 a0_1
  have h_a0_1 : Keeps 1647310225 s a0_1 := (Keeps.step (State.ceilWritten_keeps ..) (by decide) (Keeps.refl _ _))
  clear_value a0_0 a0_1
  split
  · exact (Keeps.ite (Keeps.step (authCopy_keeps ..) (by decide) h_a0_1) h_a0_1)
  · split
    · exact h_a0_1
    · exact (Keeps.step (State.candTaken_keeps ..) (by decide) (Keeps.ite (Keeps.step (State.setAonFv_keeps ..) (by decide) h_a0_1) h_a0_1))

theorem execAuthCeilWrite_keeps (c : Fin 4096) (e : Fin 4) (s : State) : KeepsR 1647310225 s (execAuthCeilWrite c e s) := by
  unfold execAuthCeilWrite
  exact (KeepsR.next (Keeps.step (ceilWrite_keeps ..) (by decide) (Keeps.step (fresh_keeps ..) (by decide) (Keeps.refl _ _))))

theorem epochWrite_keeps (init : Nat) (v : Nat) (s : State) : Keeps 1610875905 s (epochWrite init v s) := by
  unfold epochWrite
  extract_lets a0_0 a0_1
  have h_a0_1 : Keeps 1610875905 s a0_1 := (Keeps.ite (Keeps.step (State.sticky_keeps ..) (by decide) (Keeps.refl _ _)) (Keeps.refl _ _))
  exact (Keeps.cmdWrite (by decide) h_a0_1 (fun t1 k1 => (Keeps.step (State.offerEpoch_keeps ..) (by decide) k1)) (fun _ => Keeps.step
      (State.endAccess_keeps ..) (by decide) (Keeps.step (State.violate_keeps ..) (by decide) h_a0_1)))

theorem execAuthEpochWrite_keeps (init : Initiator) (v : BitVec 24) (s : State) : KeepsR 1610875905 s (execAuthEpochWrite init v s) := by
  unfold execAuthEpochWrite
  exact (KeepsR.next (Keeps.step (epochWrite_keeps ..) (by decide) (Keeps.step (fresh_keeps ..) (by decide) (Keeps.refl _ _))))

theorem keyLease_keeps (o : KeyOp) (s : State) : Keeps 1644688785 s (keyLease o s) := by
  unfold keyLease
  split
  · split
    · exact (Keeps.refl _ _)
    · exact (Keeps.step (State.stopItem_keeps ..) (by decide) (Keeps.step (State.leaseRevoked_keeps ..) (by decide) (Keeps.refl _ _)))
  · split
    · exact (Keeps.refl _ _)
    · exact (Keeps.step (State.appendEnded_keeps ..) (by decide) (Keeps.step (State.leaseRevoked_keeps ..) (by decide) (Keeps.refl _ _)))
  · split
    · exact (Keeps.refl _ _)
    · exact (Keeps.ite (Keeps.step (State.readerBad_keeps ..) (by decide) (Keeps.step (State.leaseRevoked_keeps ..) (by decide) (Keeps.refl _ _)))
        (Keeps.refl _ _))
  · split
    · exact (Keeps.refl _ _)
    · split
      · exact (Keeps.refl _ _)
      · exact (Keeps.ite (Keeps.step (State.openFailed_keeps ..) (by decide) (Keeps.step (State.setRxOpen_keeps ..) (by decide) (Keeps.step
          (State.leaseRevoked_keeps ..) (by decide) (Keeps.refl _ _)))) (Keeps.refl _ _))

theorem execKeySessionLeaseExpiry_keeps (o : KeyOp) (s : State) : KeepsR 1644688785 s (execKeySessionLeaseExpiry o s) := by
  unfold execKeySessionLeaseExpiry
  exact (KeepsR.next (Keeps.step (keyLease_keeps ..) (by decide) (Keeps.step (fresh_keeps ..) (by decide) (Keeps.refl _ _))))

theorem egressDequeue_keeps (p : Nat) (s : State) : Keeps 1915221393 s (egressDequeue p s) := by
  unfold egressDequeue
  refine (Keeps.ite (Keeps.refl _ _) ?_)
  extract_lets a0_0
  have h_a0_0 : Keeps 1915221393 s a0_0 := (Keeps.step (State.startWaits_keeps ..) (by decide) (Keeps.step (State.markPassed_keeps ..) (by decide)
      (Keeps.step (State.refreshCredit_keeps ..) (by decide) (Keeps.refl _ _))))
  clear_value a0_0
  split
  · exact h_a0_0
  · exact (Keeps.step (State.dequeue_keeps ..) (by decide) h_a0_0)

theorem execEgressDequeue_keeps (p : Fin 16) (s : State) : KeepsR 1915221393 s (execEgressDequeue p s) := by
  unfold execEgressDequeue
  exact (KeepsR.next (Keeps.step (egressDequeue_keeps ..) (by decide) (Keeps.step (fresh_keeps ..) (by decide) (Keeps.refl _ _))))

theorem State.copySent_keeps (s : State) (p : Nat) (c : Copy) : Keeps 1644688785 s (State.copySent s p c) := by
  unfold State.copySent
  extract_lets a0_0 a0_1 a0_2 a0_3
  have h_a0_1 : Keeps 1644688785 s a0_1 := (Keeps.step (State.count_keeps ..) (by decide) (Keeps.step (State.lineOut_keeps ..) (by decide)
      (Keeps.refl _ _)))
  have h_a0_2 : Keeps 1644688785 s a0_2 := (Keeps.step (State.count_keeps ..) (by decide) h_a0_1)
  have h_a0_3 : Keeps 1644688785 s a0_3 := (Keeps.ite (Keeps.step (State.readerEnd_keeps ..) (by decide) (Keeps.step (State.count_keeps ..) (by
      decide) h_a0_2)) (Keeps.step (State.readerEnd_keeps ..) (by decide) h_a0_2))
  exact (Keeps.step (State.looped_keeps ..) (by decide) h_a0_3)

theorem lastByteSent_keeps (p : Nat) (s : State) : Keeps 1644688785 s (lastByteSent p s) := by
  unfold lastByteSent
  split
  · exact (Keeps.refl _ _)
  · refine (Keeps.ite (Keeps.refl _ _) ?_)
    extract_lets a2_0
    have h_a2_0 : KeepsP 1644688785 s a2_0 := (KeepsP.ite (KeepsP.mk (Keeps.refl _ _)) (KeepsP.step (State.secProtect_keeps ..) (by decide)
        (Keeps.refl _ _)))
    clear_value a2_0
    split
    · exact (Keeps.step (State.readerBad_keeps ..) (by decide) h_a2_0)
    · extract_lets a5_0
      exact (Keeps.ite (Keeps.step (State.oversized_keeps ..) (by decide) h_a2_0) (Keeps.step (State.copySent_keeps ..) (by decide) h_a2_0))

theorem execEgressLastByteSent_keeps (p : Fin 16) (s : State) : KeepsR 1644688785 s (execEgressLastByteSent p s) := by
  unfold execEgressLastByteSent
  exact (KeepsR.next (Keeps.step (lastByteSent_keeps ..) (by decide) (Keeps.step (fresh_keeps ..) (by decide) (Keeps.refl _ _))))

theorem ctUnderrun_keeps (p : Nat) (s : State) : Keeps 1644688785 s (ctUnderrun p s) := by
  unfold ctUnderrun
  split
  · exact (Keeps.refl _ _)
  · exact (Keeps.ite (Keeps.step (State.raiseCt_keeps ..) (by decide) (Keeps.step (State.readerBad_keeps ..) (by decide) (Keeps.refl _ _)))
      (Keeps.refl _ _))

theorem execCtUnderrun_keeps (p : Fin 16) (s : State) : KeepsR 1644688785 s (execCtUnderrun p s) := by
  unfold execCtUnderrun
  exact (KeepsR.next (Keeps.step (ctUnderrun_keeps ..) (by decide) (Keeps.step (fresh_keeps ..) (by decide) (Keeps.refl _ _))))

theorem State.retireCell_keeps (s : State) (fid : Nat) : Keeps 1610612865 s (State.retireCell s fid) := by
  unfold State.retireCell
  refine (Keeps.ite (Keeps.refl _ _) ?_)
  extract_lets a0_0 a0_1 a0_2
  have h_a0_0 : Keeps 1610612865 s a0_0 := (Keeps.step (State.mapFrame_keeps ..) (by decide) (Keeps.refl _ _))
  have h_a0_2 : Keeps 1610612865 s a0_2 := (Keeps.step (State.setFab_keeps ..) (by decide) h_a0_0)
  exact (Keeps.step (State.event_keeps ..) (by decide) (Keeps.step (State.sticky_keeps ..) (by decide) (Keeps.step (State.wr_keeps ..) (by decide)
      h_a0_2)))

theorem eccUncorr_keeps (x : CellRead) (s : State) : Keeps 1644688785 s (eccUncorr x s) := by
  unfold eccUncorr
  split
  · split
    · exact (Keeps.refl _ _)
    · exact (Keeps.step (State.readerBad_keeps ..) (by decide) (Keeps.step (State.retireCell_keeps ..) (by decide) (Keeps.refl _ _)))
  · split
    · split
      · extract_lets a6_0
        have h_a6_0 : Keeps 1644688785 s a6_0 := (Keeps.step (State.setTxq_keeps ..) (by decide) (Keeps.step (State.retireCell_keeps ..) (by decide)
            (Keeps.refl _ _)))
        exact (Keeps.step (State.endCopy_keeps ..) (by decide) (Keeps.step (State.setCanSending_keeps ..) (by decide) h_a6_0))
      · exact (Keeps.refl _ _)
    · exact (Keeps.refl _ _)
  · split
    · exact (Keeps.refl _ _)
    · exact (Keeps.step (State.ringHeadEnd_keeps ..) (by decide) (Keeps.step (State.retireCell_keeps ..) (by decide) (Keeps.refl _ _)))

theorem execStockpileEccUncorr_keeps (x : CellRead) (s : State) : KeepsR 1644688785 s (execStockpileEccUncorr x s) := by
  unfold execStockpileEccUncorr
  exact (KeepsR.next (Keeps.step (eccUncorr_keeps ..) (by decide) (Keeps.step (fresh_keeps ..) (by decide) (Keeps.refl _ _))))

theorem State.cellRevoked_keeps (s : State) (w : Nat) : Keeps 1610613761 s (State.cellRevoked s w) := by
  unfold State.cellRevoked
  exact (Keeps.step (State.leaseRevoked_keeps ..) (by decide) (Keeps.step (State.event_keeps ..) (by decide) (Keeps.step (State.sticky_keeps ..) (by
      decide) (Keeps.refl _ _))))

theorem cellLease_keeps (h : CellHolder) (s : State) : Keeps 1644688785 s (cellLease h s) := by
  unfold cellLease
  split
  · split
    · exact (Keeps.refl _ _)
    · split
      · exact (Keeps.refl _ _)
      · exact (Keeps.step (State.openFailed_keeps ..) (by decide) (Keeps.step (State.setRxOpen_keeps ..) (by decide) (Keeps.step
          (State.cellRevoked_keeps ..) (by decide) (Keeps.refl _ _))))
  · split
    · exact (Keeps.refl _ _)
    · exact (Keeps.step (State.readerBad_keeps ..) (by decide) (Keeps.step (State.cellRevoked_keeps ..) (by decide) (Keeps.refl _ _)))
  · exact (Keeps.ite (Keeps.refl _ _) (Keeps.step (State.ringHeadEnd_keeps ..) (by decide) (Keeps.step (State.cellRevoked_keeps ..) (by decide)
      (Keeps.refl _ _))))
  · split
    · exact (Keeps.refl _ _)
    · exact (Keeps.step (State.stopItem_keeps ..) (by decide) (Keeps.step (State.cellRevoked_keeps ..) (by decide) (Keeps.refl _ _)))

theorem execStockpileLeaseExpiry_keeps (h : CellHolder) (s : State) : KeepsR 1644688785 s (execStockpileLeaseExpiry h s) := by
  unfold execStockpileLeaseExpiry
  exact (KeepsR.next (Keeps.step (cellLease_keeps ..) (by decide) (Keeps.step (fresh_keeps ..) (by decide) (Keeps.refl _ _))))

theorem execHopperFlush_keeps (init : Initiator) (p : Fin 16) (s : State) : KeepsR 1610613905 s (execHopperFlush init p s) := by
  unfold execHopperFlush
  exact (KeepsR.next (Keeps.cmdField (by decide) (Keeps.step (fresh_keeps ..) (by decide) (Keeps.refl _ _)) (fun t0 k0 => (Keeps.step
      (State.wr_keeps ..) (by decide) (Keeps.step (State.hopDrain_keeps ..) (by decide) k0))) (fun _ => Keeps.step (State.endAccess_keeps ..) (by
      decide) (Keeps.step (State.violate_keeps ..) (by decide) (Keeps.step (fresh_keeps ..) (by decide) (Keeps.refl _ _))))))

theorem flushDone_keeps (p : Nat) (s : State) : Keeps 1610612737 s (flushDone p s) := by
  unfold flushDone
  exact (Keeps.ite (Keeps.step (State.event_keeps ..) (by decide) (Keeps.step (State.wr_keeps ..) (by decide) (Keeps.refl _ _))) (Keeps.refl _ _))

theorem execFlushComplete_keeps (p : Fin 16) (s : State) : KeepsR 1610612737 s (execFlushComplete p s) := by
  unfold execFlushComplete
  exact (KeepsR.next (Keeps.step (flushDone_keeps ..) (by decide) (Keeps.step (fresh_keeps ..) (by decide) (Keeps.refl _ _))))

theorem frerTimeout_keeps (i : Nat) (s : State) : Keeps 1073741953 s (frerTimeout i s) := by
  unfold frerTimeout
  exact (Keeps.ite (Keeps.step (State.count_keeps ..) (by decide) (Keeps.step (State.setFab_keeps ..) (by decide) (Keeps.refl _ _))) (Keeps.refl _ _))

theorem execFrerResetTimeout_keeps (i : Fin 256) (s : State) : KeepsR 1610612865 s (execFrerResetTimeout i s) := by
  unfold execFrerResetTimeout
  exact (KeepsR.next (Keeps.step (frerTimeout_keeps ..) (by decide) (Keeps.step (fresh_keeps ..) (by decide) (Keeps.refl _ _))))

/-! ## Guard -/

theorem State.wbRefill_keeps (s : State) (init : Nat) : Keeps 1610875905 s (State.wbRefill s init) := by
  unfold State.wbRefill
  exact (Keeps.cmdField (by decide) (Keeps.refl _ _) (fun t0 k0 => (Keeps.step (State.fillBucket_keeps ..) (by decide) k0)) (fun _ => Keeps.step
      (State.endAccess_keeps ..) (by decide) (Keeps.step (State.violate_keeps ..) (by decide) (Keeps.refl _ _))))

theorem execWbRefill_keeps (init : Initiator) (s : State) : KeepsR 1610875905 s (execWbRefill init s) := by
  unfold execWbRefill
  exact (KeepsR.next (Keeps.step (State.wbRefill_keeps ..) (by decide) (Keeps.step (fresh_keeps ..) (by decide) (Keeps.refl _ _))))

theorem State.streamUnblock_keeps (s : State) (init : Nat) : Keeps 1610613761 s (State.streamUnblock s init) := by
  unfold State.streamUnblock
  exact (Keeps.cmdWrite (by decide) (Keeps.refl _ _) (fun t0 k0 => (Keeps.step (State.wr_keeps ..) (by decide) k0)) (fun _ => Keeps.step
      (State.endAccess_keeps ..) (by decide) (Keeps.step (State.violate_keeps ..) (by decide) (Keeps.refl _ _))))

theorem execStreamUnblock_keeps (init : Initiator) (s : State) : KeepsR 1610613761 s (execStreamUnblock init s) := by
  unfold execStreamUnblock
  exact (KeepsR.next (Keeps.step (State.streamUnblock_keeps ..) (by decide) (Keeps.step (fresh_keeps ..) (by decide) (Keeps.refl _ _))))

theorem State.scWrite_keeps (s : State) (init : Nat) (v : Nat) : Keeps 1610875905 s (State.scWrite s init v) := by
  unfold State.scWrite
  exact (Keeps.cmdWrite (by decide) (Keeps.refl _ _) (fun t0 k0 => (Keeps.step (State.secyPut_keeps ..) (by decide) k0)) (fun _ => Keeps.step
      (State.endAccess_keeps ..) (by decide) (Keeps.step (State.violate_keeps ..) (by decide) (Keeps.refl _ _))))

theorem execMacsecScWrite_keeps (init : Initiator) (v : BitVec 96) (s : State) : KeepsR 1610875905 s (execMacsecScWrite init v s) := by
  unfold execMacsecScWrite
  exact (KeepsR.next (Keeps.step (State.scWrite_keeps ..) (by decide) (Keeps.step (fresh_keeps ..) (by decide) (Keeps.refl _ _))))

theorem State.saWrite_keeps (s : State) (init : Nat) (v : Nat) : Keeps 1610875905 s (State.saWrite s init v) := by
  unfold State.saWrite
  exact (Keeps.cmdWrite (by decide) (Keeps.refl _ _) (fun t0 k0 => (Keeps.step (State.secyPut_keeps ..) (by decide) k0)) (fun _ => Keeps.step
      (State.endAccess_keeps ..) (by decide) (Keeps.step (State.violate_keeps ..) (by decide) (Keeps.refl _ _))))

theorem execMacsecSaWrite_keeps (init : Initiator) (v : BitVec 224) (s : State) : KeepsR 1610875905 s (execMacsecSaWrite init v s) := by
  unfold execMacsecSaWrite
  exact (KeepsR.next (Keeps.step (State.saWrite_keeps ..) (by decide) (Keeps.step (fresh_keeps ..) (by decide) (Keeps.refl _ _))))

theorem State.secySwitch_keeps (s : State) (init : Nat) (autoSw : Bool) : Keeps 1610875905 s (State.secySwitch s init autoSw) := by
  unfold State.secySwitch
  extract_lets a0_0
  exact (Keeps.cmdWrite (by decide) (Keeps.refl _ _) (fun t1 k1 => (Keeps.step (State.switchSc_keeps ..) (by decide) (Keeps.step (State.wr_keeps ..)
      (by decide) k1))) (fun _ => Keeps.step (State.endAccess_keeps ..) (by decide) (Keeps.step (State.violate_keeps ..) (by decide) (Keeps.refl _
      _))))

theorem execMacsecSwitch_keeps (init : Initiator) (autoSw : Bool) (s : State) : KeepsR 1610875905 s (execMacsecSwitch init autoSw s) := by
  unfold execMacsecSwitch
  exact (KeepsR.next (Keeps.step (State.secySwitch_keeps ..) (by decide) (Keeps.step (fresh_keeps ..) (by decide) (Keeps.refl _ _))))

/-! ## Tables -/

theorem learnWrite_keeps (s : State) : Keeps 1610613249 s (learnWrite s) := by
  unfold learnWrite
  refine (Keeps.ite (Keeps.refl _ _) ?_)
  split
  · exact (Keeps.refl _ _)
  · extract_lets a2_0 a2_1 a2_2
    have h_a2_1 : Keeps 1610613249 s a2_1 := (Keeps.step (State.setTbl_keeps ..) (by decide) (Keeps.refl _ _))
    exact (Keeps.ite h_a2_1 (Keeps.ite (Keeps.step (State.count_keeps ..) (by decide) (Keeps.step (State.l2Add_keeps ..) (by decide) h_a2_1))
        (Keeps.step (State.event_keeps ..) (by decide) (Keeps.step (State.count_keeps ..) (by decide) (Keeps.step (State.sticky_keeps ..) (by
        decide) h_a2_1)))))

theorem execLearnEngineWrite_keeps (s : State) : KeepsR 1610613249 s (execLearnEngineWrite s) := by
  unfold execLearnEngineWrite
  exact (KeepsR.next (Keeps.step (learnWrite_keeps ..) (by decide) (Keeps.step (fresh_keeps ..) (by decide) (Keeps.refl _ _))))

theorem agerVisit_keeps (b : Nat) (s : State) : Keeps 512 s (agerVisit b s) := by
  unfold agerVisit
  refine (Keeps.ite (Keeps.refl _ _) ?_)
  extract_lets a0_0 a0_1 a0_2
  have h_a0_1 : Keeps 512 s a0_1 := (Keeps.step (State.setL2_keeps ..) (by decide) (Keeps.refl _ _))
  exact (Keeps.step (State.setTbl_keeps ..) (by decide) h_a0_1)

theorem execAgerVisit_keeps (b : Fin 8192) (s : State) : KeepsR 536871424 s (execAgerVisit b s) := by
  unfold execAgerVisit
  exact (KeepsR.next (Keeps.step (agerVisit_keeps ..) (by decide) (Keeps.step (fresh_keeps ..) (by decide) (Keeps.refl _ _))))

theorem ageRemoval_keeps (s : State) : Keeps 1073742337 s (ageRemoval s) := by
  unfold ageRemoval
  refine (Keeps.ite (Keeps.refl _ _) ?_)
  split
  · exact (Keeps.refl _ _)
  · extract_lets a2_0 a2_1
    have h_a2_1 : Keeps 1073742337 s a2_1 := (Keeps.step (State.setTbl_keeps ..) (by decide) (Keeps.refl _ _))
    clear_value a2_0 a2_1
    split
    · exact h_a2_1
    · exact (Keeps.ite (Keeps.step (State.count_keeps ..) (by decide) h_a2_1) (Keeps.step (State.count_keeps ..) (by decide) (Keeps.step
        (State.l2Drop_keeps ..) (by decide) h_a2_1)))

theorem execAgeRemoval_keeps (s : State) : KeepsR 1610613249 s (execAgeRemoval s) := by
  unfold execAgeRemoval
  exact (KeepsR.next (Keeps.step (ageRemoval_keeps ..) (by decide) (Keeps.step (fresh_keeps ..) (by decide) (Keeps.refl _ _))))

theorem State.setRehash_keeps (s : State) (st : Nat) (pass : Nat) : Keeps 1 s (State.setRehash s st pass) := by
  unfold State.setRehash
  exact (Keeps.step (State.wr_keeps ..) (by decide) (Keeps.step (State.wr_keeps ..) (by decide) (Keeps.refl _ _)))

theorem State.rehashGo_keeps (s : State) (init : Nat) (low : Nat) : Keeps 1610613761 s (State.rehashGo s init low) := by
  unfold State.rehashGo
  exact (Keeps.cmdWrite (by decide) (Keeps.refl _ _) (fun t0 k0 => (Keeps.step (State.setRehash_keeps ..) (by decide) (Keeps.step (State.wr_keeps
      ..) (by decide) (Keeps.step (State.wr_keeps ..) (by decide) k0)))) (fun _ => Keeps.step (State.endAccess_keeps ..) (by decide) (Keeps.step
      (State.violate_keeps ..) (by decide) (Keeps.refl _ _))))

theorem execL2RehashStart_keeps (init : Initiator) (low : Fin 128) (s : State) : KeepsR 1610613761 s (execL2RehashStart init low s) := by
  unfold execL2RehashStart
  exact (KeepsR.next (Keeps.step (State.rehashGo_keeps ..) (by decide) (Keeps.step (fresh_keeps ..) (by decide) (Keeps.refl _ _))))

theorem State.migrate_keeps (s : State) (w : L2Way) : Keeps 512 s (State.migrate s w) := by
  unfold State.migrate
  extract_lets a0_0
  exact (Keeps.ite (Keeps.step (State.l2Map_keeps ..) (by decide) (Keeps.refl _ _)) (Keeps.refl _ _))

theorem State.migratePass_keeps (s : State) (p : L2Way → Bool) : Keeps 512 s (State.migratePass s p) := by
  unfold State.migratePass
  exact (Keeps.each (Keeps.refl _ _) (fun t0 y0 k0 => (Keeps.step (State.migrate_keeps ..) (by decide) k0)))

theorem State.rehashDone_keeps (s : State) : Keeps 1610612737 s (State.rehashDone s) := by
  unfold State.rehashDone
  exact (Keeps.step (State.event_keeps ..) (by decide) (Keeps.step (State.wr_keeps ..) (by decide) (Keeps.step (State.setRehash_keeps ..) (by
      decide) (Keeps.refl _ _))))

theorem rehashPassEnd_keeps (s : State) : Keeps 1610613249 s (rehashPassEnd s) := by
  unfold rehashPassEnd
  refine (Keeps.ite (Keeps.refl _ _) ?_)
  extract_lets a0_0 a0_1 a0_2 a0_3 a0_4
  have h_a0_0 : Keeps 1610613249 s a0_0 := (Keeps.step (State.migratePass_keeps ..) (by decide) (Keeps.refl _ _))
  have h_a0_3 : Keeps 1610613249 s a0_3 := (Keeps.step (State.setL2_keeps ..) (by decide) h_a0_0)
  have h_a0_4 : Keeps 1610613249 s a0_4 := (Keeps.ite h_a0_3 (Keeps.step (State.sticky_keeps ..) (by decide) (Keeps.step (State.count_keeps ..) (by
      decide) h_a0_3)))
  exact (Keeps.ite (Keeps.step (State.rehashDone_keeps ..) (by decide) h_a0_0) (Keeps.ite (Keeps.step (State.setRehash_keeps ..) (by decide) h_a0_0)
      (Keeps.ite (Keeps.step (State.rehashDone_keeps ..) (by decide) h_a0_4) (Keeps.step (State.event_keeps ..) (by decide) (Keeps.step
      (State.sticky_keeps ..) (by decide) (Keeps.step (State.setRehash_keeps ..) (by decide) h_a0_4))))))

theorem execRehashPassEnd_keeps (s : State) : KeepsR 1610613249 s (execRehashPassEnd s) := by
  unfold execRehashPassEnd
  exact (KeepsR.next (Keeps.step (rehashPassEnd_keeps ..) (by decide) (Keeps.step (fresh_keeps ..) (by decide) (Keeps.refl _ _))))

theorem rehashRetry_keeps (s : State) : Keeps 1610613249 s (rehashRetry s) := by
  unfold rehashRetry
  refine (Keeps.ite (Keeps.refl _ _) ?_)
  extract_lets a0_0
  have h_a0_0 : Keeps 1610613249 s a0_0 := (Keeps.step (State.migratePass_keeps ..) (by decide) (Keeps.refl _ _))
  exact (Keeps.ite (Keeps.step (State.rehashDone_keeps ..) (by decide) h_a0_0) h_a0_0)

theorem execRehashStallRetry_keeps (s : State) : KeepsR 1610613249 s (execRehashStallRetry s) := by
  unfold execRehashStallRetry
  exact (KeepsR.next (Keeps.step (rehashRetry_keeps ..) (by decide) (Keeps.step (fresh_keeps ..) (by decide) (Keeps.refl _ _))))

theorem State.l2Show_keeps (s : State) (w : L2Way) : Keeps 1 s (State.l2Show s w) := by
  unfold State.l2Show
  extract_lets a0_0 a0_1 a0_2
  have h_a0_0 : Keeps 1 s a0_0 := (Keeps.step (State.wr_keeps ..) (by decide) (Keeps.step (State.wr_keeps ..) (by decide) (Keeps.refl _ _)))
  have h_a0_1 : Keeps 1 s a0_1 := (Keeps.step (State.wr_keeps ..) (by decide) (Keeps.step (State.wr_keeps ..) (by decide) h_a0_0))
  have h_a0_2 : Keeps 1 s a0_2 := (Keeps.step (State.wr_keeps ..) (by decide) (Keeps.step (State.wr_keeps ..) (by decide) h_a0_1))
  exact (Keeps.step (State.wr_keeps ..) (by decide) (Keeps.step (State.wr_keeps ..) (by decide) h_a0_2))

theorem State.l2Forget_keeps (s : State) (p : L2Way → Bool) : Keeps 512 s (State.l2Forget s p) := by
  unfold State.l2Forget
  exact (Keeps.step (State.setL2_keeps ..) (by decide) (Keeps.refl _ _))

theorem State.l2Op_keeps (s : State) (op : Nat) : KeepsP 1342177857 s (State.l2Op s op) := by
  unfold State.l2Op
  refine (KeepsP.ite ?_ (KeepsP.ite (KeepsP.step (State.l2Stage_keeps ..) (by decide) (Keeps.step (State.wr_keeps ..) (by decide) (Keeps.refl _ _)))
      (KeepsP.ite (KeepsP.step (State.l2Unstage_keeps ..) (by decide) (Keeps.refl _ _)) (KeepsP.ite (KeepsP.ite (KeepsP.mk (Keeps.step
      (State.l2Forget_keeps ..) (by decide) (Keeps.refl _ _))) (KeepsP.mk (Keeps.refl _ _))) (KeepsP.ite (KeepsP.mk (Keeps.step
      (State.l2Forget_keeps ..) (by decide) (Keeps.refl _ _))) (KeepsP.ite (KeepsP.mk (Keeps.step (State.l2Forget_keeps ..) (by decide) (Keeps.refl
      _ _))) (KeepsP.mk (Keeps.refl _ _))))))))
  split
  · exact (KeepsP.mk (Keeps.step (State.l2Show_keeps ..) (by decide) (Keeps.refl _ _)))
  · exact (KeepsP.mk (Keeps.step (State.wr_keeps ..) (by decide) (Keeps.refl _ _)))

theorem State.l2Start_keeps (s : State) (init : Nat) (op : Nat) : Keeps 1879049793 s (State.l2Start s init op) := by
  unfold State.l2Start
  extract_lets a0_0 a0_1 a0_2
  have h_a0_0 : KeepsP 1879049793 s a0_0 := (KeepsP.step (State.l2Op_keeps ..) (by decide) (Keeps.step (State.wr_keeps ..) (by decide) (Keeps.step
      (State.wr_keeps ..) (by decide) (Keeps.refl _ _))))
  have h_a0_2 : Keeps 1879049793 s a0_2 := (Keeps.step (State.setTbl_keeps ..) (by decide) h_a0_0)
  exact (Keeps.ite (Keeps.step (State.stageFull_keeps ..) (by decide) h_a0_2) h_a0_2)

theorem State.l2Go_keeps (s : State) (init : Nat) (op : Nat) : Keeps 1879049793 s (State.l2Go s init op) := by
  unfold State.l2Go
  exact (Keeps.cmdWrite (by decide) (Keeps.refl _ _) (fun t0 k0 => (Keeps.step (State.l2Start_keeps ..) (by decide) k0)) (fun _ => Keeps.step
      (State.endAccess_keeps ..) (by decide) (Keeps.step (State.violate_keeps ..) (by decide) (Keeps.refl _ _))))

theorem execL2CmdRead_keeps (init : Initiator) (s : State) : KeepsR 1879049793 s (execL2CmdRead init s) := by
  unfold execL2CmdRead
  exact (KeepsR.next (Keeps.step (State.l2Go_keeps ..) (by decide) (Keeps.step (fresh_keeps ..) (by decide) (Keeps.refl _ _))))

theorem execL2CmdStageStatic_keeps (init : Initiator) (s : State) : KeepsR 1879049793 s (execL2CmdStageStatic init s) := by
  unfold execL2CmdStageStatic
  exact (KeepsR.next (Keeps.step (State.l2Go_keeps ..) (by decide) (Keeps.step (fresh_keeps ..) (by decide) (Keeps.refl _ _))))

theorem execL2CmdStageDelete_keeps (init : Initiator) (s : State) : KeepsR 1879049793 s (execL2CmdStageDelete init s) := by
  unfold execL2CmdStageDelete
  exact (KeepsR.next (Keeps.step (State.l2Go_keeps ..) (by decide) (Keeps.step (fresh_keeps ..) (by decide) (Keeps.refl _ _))))

theorem execL2CmdRemoveLearned_keeps (init : Initiator) (s : State) : KeepsR 1879049793 s (execL2CmdRemoveLearned init s) := by
  unfold execL2CmdRemoveLearned
  exact (KeepsR.next (Keeps.step (State.l2Go_keeps ..) (by decide) (Keeps.step (fresh_keeps ..) (by decide) (Keeps.refl _ _))))

theorem execL2CmdFlushPort_keeps (init : Initiator) (s : State) : KeepsR 1879049793 s (execL2CmdFlushPort init s) := by
  unfold execL2CmdFlushPort
  exact (KeepsR.next (Keeps.step (State.l2Go_keeps ..) (by decide) (Keeps.step (fresh_keeps ..) (by decide) (Keeps.refl _ _))))

theorem execL2CmdFlushFid_keeps (init : Initiator) (s : State) : KeepsR 1879049793 s (execL2CmdFlushFid init s) := by
  unfold execL2CmdFlushFid
  exact (KeepsR.next (Keeps.step (State.l2Go_keeps ..) (by decide) (Keeps.step (fresh_keeps ..) (by decide) (Keeps.refl _ _))))

theorem execL2CmdBadOp_keeps (init : Initiator) (seven : Bool) (s : State) : KeepsR 1879049793 s (execL2CmdBadOp init seven s) := by
  unfold execL2CmdBadOp
  exact (KeepsR.next (Keeps.step (State.l2Go_keeps ..) (by decide) (Keeps.step (fresh_keeps ..) (by decide) (Keeps.refl _ _))))

theorem l2Complete_keeps (s : State) : Keeps 1610613249 s (l2Complete s) := by
  unfold l2Complete
  split
  · exact (Keeps.refl _ _)
  · exact (Keeps.step (State.event_keeps ..) (by decide) (Keeps.step (State.wr_keeps ..) (by decide) (Keeps.step (State.wr_keeps ..) (by decide)
      (Keeps.step (State.setTbl_keeps ..) (by decide) (Keeps.refl _ _)))))

theorem execL2CmdComplete_keeps (s : State) : KeepsR 1610613249 s (execL2CmdComplete s) := by
  unfold execL2CmdComplete
  exact (KeepsR.next (Keeps.step (l2Complete_keeps ..) (by decide) (Keeps.step (fresh_keeps ..) (by decide) (Keeps.refl _ _))))

theorem State.seamOp_keeps (s : State) (v6 : Bool) (op : Nat) : KeepsP 577 s (State.seamOp s v6 op) := by
  unfold State.seamOp
  refine (KeepsP.ite (KeepsP.mk (Keeps.refl _ _)) ?_)
  refine (KeepsP.ite ?_ (KeepsP.ite (KeepsP.mk (Keeps.refl _ _)) (KeepsP.ite (KeepsP.step (State.pfxStage_keeps ..) (by decide) (Keeps.refl _ _))
      (KeepsP.step (State.pfxUnstage_keeps ..) (by decide) (Keeps.refl _ _)))))
  split
  · exact (KeepsP.mk (Keeps.step (State.wr_keeps ..) (by decide) (Keeps.step (State.wr_keeps ..) (by decide) (Keeps.step (State.wr_keeps ..) (by
      decide) (Keeps.refl _ _)))))
  · exact (KeepsP.mk (Keeps.step (State.wr_keeps ..) (by decide) (Keeps.refl _ _)))

theorem State.seamStart_keeps (s : State) (init : Nat) (v6 : Bool) (op : Nat) : Keeps 1610614337 s (State.seamStart s init v6 op) := by
  unfold State.seamStart
  extract_lets a0_0 a0_1 a0_2
  have h_a0_0 : KeepsP 1610614337 s a0_0 := (KeepsP.step (State.seamOp_keeps ..) (by decide) (Keeps.step (State.wr_keeps ..) (by decide) (Keeps.step
      (State.wr_keeps ..) (by decide) (Keeps.step (State.wr_keeps ..) (by decide) (Keeps.refl _ _)))))
  have h_a0_2 : Keeps 1610614337 s a0_2 := (Keeps.step (State.setTbl_keeps ..) (by decide) h_a0_0)
  exact (Keeps.ite (Keeps.step (State.event_keeps ..) (by decide) (Keeps.step (State.sticky_keeps ..) (by decide) h_a0_2)) (Keeps.ite (Keeps.step
      (State.stageFull_keeps ..) (by decide) h_a0_2) h_a0_2))

theorem State.seamGo_keeps (s : State) (init : Nat) (v6 : Bool) (op : Nat) : Keeps 1610614337 s (State.seamGo s init v6 op) := by
  unfold State.seamGo
  exact (Keeps.cmdWrite (by decide) (Keeps.refl _ _) (fun t0 k0 => (Keeps.step (State.seamStart_keeps ..) (by decide) k0)) (fun _ => Keeps.step
      (State.endAccess_keeps ..) (by decide) (Keeps.step (State.violate_keeps ..) (by decide) (Keeps.refl _ _))))

theorem execSeamStageInsert_keeps (init : Initiator) (v6 : Bool) (s : State) : KeepsR 1610614337 s (execSeamStageInsert init v6 s) := by
  unfold execSeamStageInsert
  exact (KeepsR.next (Keeps.step (State.seamGo_keeps ..) (by decide) (Keeps.step (fresh_keeps ..) (by decide) (Keeps.refl _ _))))

theorem execSeamStageDelete_keeps (init : Initiator) (v6 : Bool) (s : State) : KeepsR 1610614337 s (execSeamStageDelete init v6 s) := by
  unfold execSeamStageDelete
  exact (KeepsR.next (Keeps.step (State.seamGo_keeps ..) (by decide) (Keeps.step (fresh_keeps ..) (by decide) (Keeps.refl _ _))))

theorem execSeamTestLookup_keeps (init : Initiator) (v6 : Bool) (s : State) : KeepsR 1610614337 s (execSeamTestLookup init v6 s) := by
  unfold execSeamTestLookup
  exact (KeepsR.next (Keeps.step (State.seamGo_keeps ..) (by decide) (Keeps.step (fresh_keeps ..) (by decide) (Keeps.refl _ _))))

theorem execSeamBadOp_keeps (init : Initiator) (v6 : Bool) (s : State) : KeepsR 1610614337 s (execSeamBadOp init v6 s) := by
  unfold execSeamBadOp
  exact (KeepsR.next (Keeps.step (State.seamGo_keeps ..) (by decide) (Keeps.step (fresh_keeps ..) (by decide) (Keeps.refl _ _))))

theorem seamComplete_keeps (s : State) : Keeps 1610613249 s (seamComplete s) := by
  unfold seamComplete
  split
  · exact (Keeps.refl _ _)
  · exact (Keeps.step (State.event_keeps ..) (by decide) (Keeps.step (State.wr_keeps ..) (by decide) (Keeps.step (State.wr_keeps ..) (by decide)
      (Keeps.step (State.setTbl_keeps ..) (by decide) (Keeps.refl _ _)))))

theorem execSeamCmdComplete_keeps (s : State) : KeepsR 1610613249 s (execSeamCmdComplete s) := by
  unfold execSeamCmdComplete
  exact (KeepsR.next (Keeps.step (seamComplete_keeps ..) (by decide) (Keeps.step (fresh_keeps ..) (by decide) (Keeps.refl _ _))))

/-! ## RegOps -/

theorem State.plainAct_keeps (s : State) (w : Nat) (o : Nat) (v : Nat) (refused : Bool) (t : State) : Keeps 1 t ((State.plainAct s w o v
    refused).run t) := by
  have h : KeepsA 1 t (State.plainAct s w o v refused) := by
    unfold State.plainAct
    exact (KeepsA.intro (fun t0 k0 => (Keeps.step (State.storeReg_keeps ..) (by decide) k0)))
  exact h.act (Keeps.refl _ _)

theorem State.handshake_keeps (s : State) (w : Nat) (v : Nat) : Keeps 1 s (State.handshake s w v) := by
  unfold State.handshake
  extract_lets a0_0 a0_1 a0_2
  have h_a0_0 : Keeps 1 s a0_0 := (Keeps.step (State.wr_keeps ..) (by decide) (Keeps.step (State.wr_keeps ..) (by decide) (Keeps.refl _ _)))
  have h_a0_2 : Keeps 1 s a0_2 := (Keeps.step (State.wr_keeps ..) (by decide) (Keeps.step (State.wr_keeps ..) (by decide) h_a0_0))
  exact (Keeps.step (State.wr_keeps ..) (by decide) h_a0_2)

theorem State.fanStart_keeps (s : State) (init : Nat) (w : Nat) (data : Nat) : Keeps 9 s (State.fanStart s init w data) := by
  unfold State.fanStart
  exact (Keeps.step (State.wr_keeps ..) (by decide) (Keeps.step (State.setFans_keeps ..) (by decide) (Keeps.refl _ _)))

theorem State.irqEnWrite_keeps (s : State) (w : Nat) (v : Nat) : Keeps 1610612737 s (State.irqEnWrite s w v) := by
  unfold State.irqEnWrite
  exact (Keeps.step (State.irqRise_keeps ..) (by decide) (Keeps.step (State.wr_keeps ..) (by decide) (Keeps.refl _ _)))

theorem State.irqRouteWrite_keeps (s : State) (w : Nat) (v : Nat) : Keeps 1073741825 s (State.irqRouteWrite s w v) := by
  unfold State.irqRouteWrite
  extract_lets a0_0
  have h_a0_0 : Keeps 1073741825 s a0_0 := (Keeps.step (State.wr_keeps ..) (by decide) (Keeps.step (State.wr_keeps ..) (by decide) (Keeps.refl _ _)))
  exact (Keeps.ite (Keeps.step (State.driveIrq_keeps ..) (by decide) h_a0_0) h_a0_0)

theorem State.commonAct_keeps (s : State) (init : Nat) (w : Nat) (o : Nat) (v : Nat) (t : State) : Keeps 1610612737 t ((State.commonAct s init w o
    v).run t) := by
  have h : KeepsA 1610612737 t (State.commonAct s init w o v) := by
    unfold State.commonAct
    exact (KeepsA.ite (KeepsA.intro (fun t0 k0 => (Keeps.step (State.handshake_keeps ..) (by decide) k0))) (KeepsA.ite (KeepsA.intro (fun t1 k1 =>
        (Keeps.step (State.wr_keeps ..) (by decide) k1))) (KeepsA.ite (KeepsA.intro (fun t2 k2 => (Keeps.step (State.irqEnWrite_keeps ..) (by
        decide) k2))) (KeepsA.ite (KeepsA.intro (fun t3 k3 => (Keeps.step (State.irqRouteWrite_keeps ..) (by decide) k3))) (KeepsA.intro (fun t4 k4
        => k4))))))
  exact h.act (Keeps.refl _ _)

theorem State.groupAct_keeps (s : State) (init : Nat) (w : Nat) (o : Nat) (v : Nat) (t : State) : Keeps 9 t ((State.groupAct s init w o v).run t) :=
    by
  have h : KeepsA 9 t (State.groupAct s init w o v) := by
    unfold State.groupAct
    exact (KeepsA.ite (KeepsA.intro (fun t0 k0 => (Keeps.step (State.fanStart_keeps ..) (by decide) k0))) (KeepsA.intro (fun t1 k1 => (Keeps.step
        (State.storeReg_keeps ..) (by decide) k1))))
  exact h.act (Keeps.refl _ _)

theorem State.hostAct_keeps (s : State) (w : Nat) (o : Nat) (v : Nat) (t : State) : Keeps 1610613905 t ((State.hostAct s w o v).run t) := by
  have h : KeepsA 1610613905 t (State.hostAct s w o v) := by
    unfold State.hostAct
    refine (KeepsA.ite (KeepsA.of (fun t => State.plainAct_keeps (t := t) ..) (by decide)) ?_)
    extract_lets a0_0 a0_1 a0_2 a0_3 a0_4
    clear_value a0_0 a0_1 a0_2 a0_3 a0_4
    refine (KeepsA.ite (KeepsA.of (fun t => State.plainAct_keeps (t := t) ..) (by decide)) ?_)
    refine (KeepsA.ite ?_ ?_)
    · refine (KeepsA.intro ?_)
      refine (fun t1 k1 => ?_)
      split
      · exact (Keeps.step (ringBegin_keeps ..) (by decide) k1)
      · exact (Keeps.step (ringClear_keeps ..) (by decide) k1)
    · refine (KeepsA.ite ?_ (KeepsA.ite (KeepsA.intro (fun t4 k4 => (Keeps.step (ringTail_keeps ..) (by decide) k4))) (KeepsA.of (fun t =>
        State.plainAct_keeps (t := t) ..) (by decide))))
      refine (KeepsA.intro ?_)
      refine (fun t2 k2 => ?_)
      extract_lets a3_0
      have h_a3_0 : Keeps 1610613905 t a3_0 := (Keeps.step (State.wr_keeps ..) (by decide) (Keeps.step (State.wr_keeps ..) (by decide) k2))
      exact (Keeps.ite (Keeps.step (State.driveIrq_keeps ..) (by decide) h_a3_0) h_a3_0)
  exact h.act (Keeps.refl _ _)

theorem State.pwrAct_keeps (s : State) (w : Nat) (o : Nat) (v : Nat) (t : State) : Keeps 1744830463 t ((State.pwrAct s w o v).run t) := by
  have h : KeepsA 1744830463 t (State.pwrAct s w o v) := by
    unfold State.pwrAct
    exact (KeepsA.ite (KeepsA.cmdReg (by decide) (KeepsL3.cons (fun t0 k0 => (Keeps.step (park_keeps ..) (by decide) k0)) (KeepsL3.cons (fun t1 k1
        => (Keeps.step (State.cancelPark_keeps ..) (by decide) k1)) (KeepsL3.cons (fun t2 k2 => (Keeps.step (State.softReset_keeps ..) (by decide)
        k2)) (KeepsL3.cons (fun t3 k3 => (Keeps.step (State.mpWarm_keeps ..) (by decide) k3)) KeepsL3.nil))))) (KeepsA.intro (fun t4 k4 =>
        (Keeps.step (State.parkCheck_keeps ..) (by decide) (Keeps.step (State.storeReg_keeps ..) (by decide) k4)))))
  exact h.act (Keeps.refl _ _)

theorem State.supAct_keeps (s : State) (init : Nat) (w : Nat) (o : Nat) (v : Nat) (t : State) : Keeps 8193 t ((State.supAct s init w o v).run t) := by
  have h : KeepsA 8193 t (State.supAct s init w o v) := by
    unfold State.supAct
    exact (KeepsA.ite (KeepsA.intro (fun t0 k0 => (Keeps.step (kick_keeps ..) (by decide) k0))) (KeepsA.ite (KeepsA.intro (fun t1 k1 => (Keeps.step
        (State.wr_keeps ..) (by decide) k1))) (KeepsA.of (fun t => State.plainAct_keeps (t := t) ..) (by decide))))
  exact h.act (Keeps.refl _ _)

theorem State.ksAct_keeps (s : State) (init : Nat) (w : Nat) (o : Nat) (v : Nat) (t : State) : Keeps 1048577 t ((State.ksAct s init w o v).run t) :=
    by
  have h : KeepsA 1048577 t (State.ksAct s init w o v) := by
    unfold State.ksAct
    exact (KeepsA.ite (KeepsA.cmdReg (by decide) (KeepsL3.cons (fun t0 k0 => (Keeps.step (State.shadowCommit_keeps ..) (by decide) k0))
        (KeepsL3.cons (fun t1 k1 => (Keeps.step (State.shadowZero_keeps ..) (by decide) k1)) (KeepsL3.cons (fun t2 k2 => (Keeps.step
        (persistStart_keeps ..) (by decide) k2)) KeepsL3.nil)))) (KeepsA.ite (KeepsA.intro (fun t3 k3 => (Keeps.step (State.shadowByte_keeps ..) (by
        decide) k3))) (KeepsA.ite (KeepsA.intro (fun t4 k4 => (Keeps.step (State.storeReg_keeps ..) (by decide) k4))) (KeepsA.of (fun t =>
        State.plainAct_keeps (t := t) ..) (by decide)))))
  exact h.act (Keeps.refl _ _)

theorem State.tamperAct_keeps (s : State) (w : Nat) (o : Nat) (v : Nat) (t : State) : Keeps 1 t ((State.tamperAct s w o v).run t) := by
  have h : KeepsA 1 t (State.tamperAct s w o v) := by
    unfold State.tamperAct
    extract_lets a0_0
    exact (KeepsA.intro (fun t1 k1 => (Keeps.step (State.storeReg_keeps ..) (by decide) k1)))
  exact h.act (Keeps.refl _ _)

theorem State.trmOp_keeps (s : State) (op : Nat) : Keeps 269484033 s (State.trmOp s op) := by
  unfold State.trmOp
  split
  · next p0_0 p0_1 e0 =>
      have q0 := KeepsQ.of (T := 269484033) (a := s) (KeepsQ.step (State.draw_keeps ..) (by decide) (Keeps.refl _ _)) e0
      split
      · next p1_0 p1_1 e1 =>
          have q1 := KeepsQ.of (T := 269484033) (a := s) (KeepsQ.step (State.draw_keeps ..) (by decide) q0) e1
          extract_lets a2_0 a2_1
          exact (Keeps.ite (Keeps.step (State.trmMessage_keeps ..) (by decide) q1) (Keeps.ite (Keeps.step (State.trmPlain_keeps ..) (by decide) q1)
              (Keeps.ite (Keeps.step (attest_keeps ..) (by decide) q1) (Keeps.step (State.trmRun_keeps ..) (by decide) q1))))

theorem State.attestAct_keeps (s : State) (init : Nat) (w : Nat) (o : Nat) (v : Nat) (t : State) : Keeps 269484033 t ((State.attestAct s init w o
    v).run t) := by
  have h : KeepsA 269484033 t (State.attestAct s init w o v) := by
    unfold State.attestAct
    refine (KeepsA.ite (KeepsA.intro (fun t0 k0 => (Keeps.step (State.trmClaim_keeps ..) (by decide) k0))) ?_)
    refine (KeepsA.ite (KeepsA.intro (fun t1 k1 => (Keeps.step (State.trmStep_keeps ..) (by decide) (Keeps.step (State.trmPut_keeps ..) (by decide)
        k1)))) ?_)
    refine (KeepsA.ite ?_ (KeepsA.ite (KeepsA.intro (fun t4 k4 => (Keeps.step (State.storeReg_keeps ..) (by decide) k4))) (KeepsA.of (fun t =>
        State.plainAct_keeps (t := t) ..) (by decide))))
    refine (KeepsA.intro ?_)
    refine (fun t2 k2 => ?_)
    extract_lets a3_0
    have h_a3_0 : Keeps 269484033 t a3_0 := (Keeps.step (State.wr_keeps ..) (by decide) k2)
    exact (Keeps.ite (Keeps.step (State.trmOp_keeps ..) (by decide) h_a3_0) h_a3_0)
  exact h.act (Keeps.refl _ _)

theorem State.tblAct_keeps (s : State) (init : Nat) (w : Nat) (o : Nat) (v : Nat) (t : State) : Keeps 1611399745 t ((State.tblAct s init w o v).run
    t) := by
  have h : KeepsA 1611399745 t (State.tblAct s init w o v) := by
    unfold State.tblAct
    refine (KeepsA.ite ?_ (KeepsA.of (fun t => State.plainAct_keeps (t := t) ..) (by decide)))
    extract_lets a0_0
    exact (KeepsA.cmdReg (by decide) (KeepsL3.cons (fun t1 k1 => (Keeps.step (State.commit_keeps ..) (by decide) k1)) (KeepsL3.cons (fun t2 k2 =>
        (Keeps.step (State.discardDelta_keeps ..) (by decide) k2)) (KeepsL3.cons (fun t3 k3 => (Keeps.step (State.tblAcquire_keeps ..) (by decide)
        k3)) (KeepsL3.cons (fun t4 k4 => (Keeps.step (State.tblRelease_keeps ..) (by decide) k4)) KeepsL3.nil)))))
  exact h.act (Keeps.refl _ _)

theorem State.stkAct_keeps (s : State) (w : Nat) (o : Nat) (v : Nat) (t : State) : Keeps 1 t ((State.stkAct s w o v).run t) := by
  have h : KeepsA 1 t (State.stkAct s w o v) := by
    unfold State.stkAct
    exact (KeepsA.ite (KeepsA.of (fun t => State.plainAct_keeps (t := t) ..) (by decide)) (KeepsA.of (fun t => State.plainAct_keeps (t := t) ..) (by
        decide)))
  exact h.act (Keeps.refl _ _)

theorem State.hopAct_keeps (s : State) (w : Nat) (o : Nat) (v : Nat) (t : State) : Keeps 1610613905 t ((State.hopAct s w o v).run t) := by
  have h : KeepsA 1610613905 t (State.hopAct s w o v) := by
    unfold State.hopAct
    refine (KeepsA.ite ?_ ?_)
    · extract_lets a0_0
      exact (KeepsA.cmdReg (by decide) (KeepsL3.cons (fun t1 k1 => (Keeps.step (State.wr_keeps ..) (by decide) (Keeps.step (State.hopDrain_keeps ..)
          (by decide) k1))) KeepsL3.nil))
    · refine (KeepsA.ite (KeepsA.intro (fun t2 k2 => (Keeps.each k2 (fun t3 y3 k3 => (Keeps.step (State.setGate_keeps ..) (by decide) k3))))) ?_)
      extract_lets a4_0
      have h_a4_0 : KeepsA 1610613905 t a4_0 := (KeepsA.of (fun t => State.plainAct_keeps (t := t) ..) (by decide))
      exact (KeepsA.intro (fun t5 k5 => (KeepsA.act h_a4_0 (Keeps.step (State.refreshCredit_keeps ..) (by decide) k5))))
  exact h.act (Keeps.refl _ _)

theorem State.ethAct_keeps (s : State) (w : Nat) (o : Nat) (v : Nat) (t : State) : Keeps 1644651921 t ((State.ethAct s w o v).run t) := by
  have h : KeepsA 1644651921 t (State.ethAct s w o v) := by
    unfold State.ethAct
    extract_lets a0_0
    exact (KeepsA.ite (KeepsA.intro (fun t1 k1 => (Keeps.step (ethCfgWrite_keeps ..) (by decide) k1))) (KeepsA.ite (KeepsA.cmdReg (by decide)
        (KeepsL3.cons (fun t2 k2 => (Keeps.step (State.sleepStart_keeps ..) (by decide) k2)) (KeepsL3.cons (fun t3 k3 => (Keeps.step
        (State.ethSynced_keeps ..) (by decide) (Keeps.step (State.ethWake_keeps ..) (by decide) k3))) (KeepsL3.cons (fun t4 k4 => (Keeps.step
        (retrain_keeps ..) (by decide) k4)) (KeepsL3.cons (fun t5 k5 => (Keeps.step (phyResetStart_keeps ..) (by decide) k5)) KeepsL3.nil)))))
        (KeepsA.ite (KeepsA.intro (fun t6 k6 => (Keeps.step (loopWrite_keeps ..) (by decide) k6))) (KeepsA.ite (KeepsA.intro (fun t7 k7 => k7))
        (KeepsA.ite (KeepsA.intro (fun t8 k8 => (Keeps.step (mdioGo_keeps ..) (by decide) k8))) (KeepsA.ite (KeepsA.of (fun t =>
        State.plainAct_keeps (t := t) ..) (by decide)) (KeepsA.of (fun t => State.plainAct_keeps (t := t) ..) (by decide))))))))
  exact h.act (Keeps.refl _ _)

theorem State.l2Act_keeps (s : State) (init : Nat) (w : Nat) (o : Nat) (v : Nat) (t : State) : Keeps 1879049793 t ((State.l2Act s init w o v).run t)
    := by
  have h : KeepsA 1879049793 t (State.l2Act s init w o v) := by
    unfold State.l2Act
    extract_lets a0_0
    exact (KeepsA.ite (KeepsA.cmdReg (by decide) (KeepsL3.cons (fun t1 k1 => (Keeps.step (State.setRehash_keeps ..) (by decide) (Keeps.step
        (State.wr_keeps ..) (by decide) (Keeps.step (State.wr_keeps ..) (by decide) k1)))) KeepsL3.nil)) (KeepsA.ite (KeepsA.of (fun t =>
        State.plainAct_keeps (t := t) ..) (by decide)) (KeepsA.ite (KeepsA.intro (fun t2 k2 => (Keeps.step (State.l2Start_keeps ..) (by decide)
        k2))) (KeepsA.of (fun t => State.plainAct_keeps (t := t) ..) (by decide)))))
  exact h.act (Keeps.refl _ _)

theorem State.seamAct_keeps (s : State) (init : Nat) (w : Nat) (o : Nat) (v : Nat) (t : State) : Keeps 1610614337 t ((State.seamAct s init w o
    v).run t) := by
  have h : KeepsA 1610614337 t (State.seamAct s init w o v) := by
    unfold State.seamAct
    extract_lets a0_0
    exact (KeepsA.ite (KeepsA.intro (fun t1 k1 => (Keeps.step (State.seamStart_keeps ..) (by decide) k1))) (KeepsA.of (fun t => State.plainAct_keeps
        (t := t) ..) (by decide)))
  exact h.act (Keeps.refl _ _)

theorem State.sjwFit_keeps (s : State) (w : Nat) (o : Nat) : Keeps 1 s (State.sjwFit s w o) := by
  unfold State.sjwFit
  extract_lets a0_0
  exact (Keeps.ite (Keeps.ite (Keeps.step (State.wr_keeps ..) (by decide) (Keeps.refl _ _)) (Keeps.refl _ _)) (Keeps.ite (Keeps.ite (Keeps.step
      (State.wr_keeps ..) (by decide) (Keeps.refl _ _)) (Keeps.refl _ _)) (Keeps.ite (Keeps.ite (Keeps.step (State.wr_keeps ..) (by decide)
      (Keeps.refl _ _)) (Keeps.refl _ _)) (Keeps.refl _ _))))

theorem State.canAct_keeps (s : State) (w : Nat) (o : Nat) (v : Nat) (t : State) : Keeps 1610646673 t ((State.canAct s w o v).run t) := by
  have h : KeepsA 1610646673 t (State.canAct s w o v) := by
    unfold State.canAct
    extract_lets a0_0 a0_1
    exact (KeepsA.ite (KeepsA.intro (fun t1 k1 => (Keeps.step (canCfgWrite_keeps ..) (by decide) k1))) (KeepsA.ite (KeepsA.cmdReg (by decide)
        (KeepsL3.cons (fun t2 k2 => (Keeps.step (State.canToRecover_keeps ..) (by decide) k2)) KeepsL3.nil)) (KeepsA.ite (KeepsA.intro (fun t3 k3 =>
        k3)) (KeepsA.ite (KeepsA.intro (fun t4 k4 => k4)) (KeepsA.ite (KeepsA.intro (fun t5 k5 => (Keeps.step (State.sjwFit_keeps ..) (by decide)
        (Keeps.step (State.storeReg_keeps ..) (by decide) k5)))) (KeepsA.ite (KeepsA.intro (fun t6 k6 => (Keeps.step (fifoWrite_keeps ..) (by
        decide) k6))) (KeepsA.ite (KeepsA.cmdReg (by decide) (KeepsL3.cons (fun t7 k7 => (Keeps.step (objTake_keeps ..) (by decide) k7))
        (KeepsL3.cons (fun t8 k8 => (Keeps.step (State.viewToObj_keeps ..) (by decide) k8)) (KeepsL3.cons (fun t9 k9 => (Keeps.step (objSend_keeps
        ..) (by decide) k9)) (KeepsL3.cons (fun t10 k10 => (Keeps.step (objAbort_keeps ..) (by decide) k10)) KeepsL3.nil))))) (KeepsA.of (fun t =>
        State.plainAct_keeps (t := t) ..) (by decide)))))))))
  exact h.act (Keeps.refl _ _)

theorem State.linAct_keeps (s : State) (w : Nat) (o : Nat) (v : Nat) (t : State) : Keeps 1610679441 t ((State.linAct s w o v).run t) := by
  have h : KeepsA 1610679441 t (State.linAct s w o v) := by
    unfold State.linAct
    extract_lets a0_0 a0_1 a0_2 a0_3
    clear_value a0_0 a0_2 a0_3
    refine (KeepsA.ite (KeepsA.intro (fun t1 k1 => (Keeps.step (linCfgWrite_keeps ..) (by decide) k1))) ?_)
    refine (KeepsA.ite (KeepsA.ite (KeepsA.intro (fun t2 k2 => (Keeps.step (schedGo_keeps ..) (by decide) k2))) (KeepsA.of (fun t =>
        State.plainAct_keeps (t := t) ..) (by decide))) ?_)
    refine (KeepsA.ite (KeepsA.of (fun t => State.plainAct_keeps (t := t) ..) (by decide)) ?_)
    refine (KeepsA.ite (KeepsA.intro (fun t3 k3 => (Keeps.step (sentryWrite_keeps ..) (by decide) k3))) ?_)
    refine (KeepsA.ite ?_ (KeepsA.of (fun t => State.plainAct_keeps (t := t) ..) (by decide)))
    refine (KeepsA.ite (KeepsA.intro (fun t4 k4 => (Keeps.step (State.setLinData_keeps ..) (by decide) (Keeps.step (State.linReplace_keeps ..) (by
        decide) k4)))) ?_)
    refine (KeepsA.intro ?_)
    refine (fun t5 k5 => ?_)
    extract_lets a6_0
    have h_a6_0 : Keeps 1610679441 t a6_0 := (Keeps.step (State.storeReg_keeps ..) (by decide) k5)
    exact (Keeps.ite (Keeps.step (State.wr_keeps ..) (by decide) h_a6_0) h_a6_0)
  exact h.act (Keeps.refl _ _)

theorem State.sigAct_keeps (s : State) (w : Nat) (o : Nat) (v : Nat) (t : State) : Keeps 1611399169 t ((State.sigAct s w o v).run t) := by
  have h : KeepsA 1611399169 t (State.sigAct s w o v) := by
    unfold State.sigAct
    refine (KeepsA.ite ?_ (KeepsA.of (fun t => State.plainAct_keeps (t := t) ..) (by decide)))
    extract_lets a0_0 a0_1
    exact (KeepsA.intro (fun t1 k1 => (Keeps.ite (Keeps.step (State.sigStore_keeps ..) (by decide) k1) k1)))
  exact h.act (Keeps.refl _ _)

theorem State.pduAct_keeps (s : State) (w : Nat) (o : Nat) (v : Nat) (t : State) : Keeps 1611137025 t ((State.pduAct s w o v).run t) := by
  have h : KeepsA 1611137025 t (State.pduAct s w o v) := by
    unfold State.pduAct
    exact (KeepsA.ite (KeepsA.cmdReg (by decide) (KeepsL3.cons (fun t0 k0 => (Keeps.step (State.sendBuild_keeps ..) (by decide) k0)) KeepsL3.nil))
        (KeepsA.of (fun t => State.plainAct_keeps (t := t) ..) (by decide)))
  exact h.act (Keeps.refl _ _)

theorem State.weighAct_keeps (s : State) (w : Nat) (o : Nat) (v : Nat) (t : State) : Keeps 262145 t ((State.weighAct s w o v).run t) := by
  have h : KeepsA 262145 t (State.weighAct s w o v) := by
    unfold State.weighAct
    exact (KeepsA.ite (KeepsA.cmdReg (by decide) (KeepsL3.cons (fun t0 k0 => (Keeps.step (State.fillBucket_keeps ..) (by decide) k0)) KeepsL3.nil))
        (KeepsA.of (fun t => State.plainAct_keeps (t := t) ..) (by decide)))
  exact h.act (Keeps.refl _ _)

theorem State.authAct_keeps (s : State) (w : Nat) (o : Nat) (v : Nat) (t : State) : Keeps 1610874881 t ((State.authAct s w o v).run t) := by
  have h : KeepsA 1610874881 t (State.authAct s w o v) := by
    unfold State.authAct
    refine (KeepsA.ite ?_ (KeepsA.ite (KeepsA.intro (fun t2 k2 => (Keeps.step (State.reserveChanged_keeps ..) (by decide) (Keeps.step
        (State.storeReg_keeps ..) (by decide) k2)))) (KeepsA.of (fun t => State.plainAct_keeps (t := t) ..) (by decide))))
    extract_lets a0_0
    exact (KeepsA.intro (fun t1 k1 => (Keeps.step (State.offerEpoch_keeps ..) (by decide) k1)))
  exact h.act (Keeps.refl _ _)

theorem State.msecAct_keeps (s : State) (w : Nat) (o : Nat) (v : Nat) (t : State) : Keeps 1610874881 t ((State.msecAct s w o v).run t) := by
  have h : KeepsA 1610874881 t (State.msecAct s w o v) := by
    unfold State.msecAct
    extract_lets a0_0
    exact (KeepsA.ite (KeepsA.intro (fun t1 k1 => (Keeps.ite (Keeps.step (State.secyPut_keeps ..) (by decide) k1) k1))) (KeepsA.ite (KeepsA.intro
        (fun t2 k2 => (Keeps.ite (Keeps.step (State.secyPut_keeps ..) (by decide) k2) k2))) (KeepsA.ite (KeepsA.ite (KeepsA.intro (fun t3 k3 =>
        (Keeps.step (State.switchSc_keeps ..) (by decide) (Keeps.step (State.wr_keeps ..) (by decide) k3)))) (KeepsA.of (fun t =>
        State.plainAct_keeps (t := t) ..) (by decide))) (KeepsA.of (fun t => State.plainAct_keeps (t := t) ..) (by decide)))))
  exact h.act (Keeps.refl _ _)

theorem State.axAct_keeps (s : State) (w : Nat) (o : Nat) (v : Nat) (t : State) : Keeps 1623198721 t ((State.axAct s w o v).run t) := by
  have h : KeepsA 1623198721 t (State.axAct s w o v) := by
    unfold State.axAct
    extract_lets a0_0
    exact (KeepsA.ite (KeepsA.ite (KeepsA.cmdReg (by decide) (KeepsL3.cons (fun t1 k1 => (Keeps.step (ax0Step_keeps ..) (by decide) k1))
        (KeepsL3.cons (fun t2 k2 => (Keeps.step (ax0Mark_keeps ..) (by decide) k2)) (KeepsL3.cons (fun t3 k3 => (Keeps.step (ax0Unsync_keeps ..) (by
        decide) k3)) KeepsL3.nil)))) (KeepsA.ite (KeepsA.intro (fun t4 k4 => (Keeps.step (servo_keeps ..) (by decide) k4))) (KeepsA.ite
        (KeepsA.intro (fun t5 k5 => (Keeps.step (servo_keeps ..) (by decide) k5))) (KeepsA.ite (KeepsA.of (fun t => State.plainAct_keeps (t := t)
        ..) (by decide)) (KeepsA.ite (KeepsA.intro (fun t6 k6 => k6)) (KeepsA.of (fun t => State.plainAct_keeps (t := t) ..) (by decide)))))))
        (KeepsA.ite (KeepsA.intro (fun t7 k7 => (Keeps.step (axCfgWrite_keeps ..) (by decide) k7))) (KeepsA.ite (KeepsA.intro (fun t8 k8 =>
        (Keeps.step (State.storeReg_keeps ..) (by decide) k8))) (KeepsA.ite (KeepsA.of (fun t => State.plainAct_keeps (t := t) ..) (by decide))
        (KeepsA.of (fun t => State.plainAct_keeps (t := t) ..) (by decide))))))
  exact h.act (Keeps.refl _ _)

theorem State.evpAct_keeps (s : State) (init : Nat) (w : Nat) (o : Nat) (v : Nat) (t : State) : Keeps 1619002369 t ((State.evpAct s init w o v).run
    t) := by
  have h : KeepsA 1619002369 t (State.evpAct s init w o v) := by
    unfold State.evpAct
    exact (KeepsA.ite (KeepsA.cmdReg (by decide) (KeepsL3.cons (fun t0 k0 => (Keeps.step (armCmd_keeps ..) (by decide) k0)) (KeepsL3.cons (fun t1 k1
        => (Keeps.step (disarmCmd_keeps ..) (by decide) k1)) (KeepsL3.cons (fun t2 k2 => (Keeps.step (groupArmCmd_keeps ..) (by decide) k2))
        (KeepsL3.cons (fun t3 k3 => (Keeps.step (groupDisarmCmd_keeps ..) (by decide) k3)) KeepsL3.nil))))) (KeepsA.ite (KeepsA.intro (fun t4 k4 =>
        (Keeps.step (State.storeReg_keeps ..) (by decide) k4))) (KeepsA.of (fun t => State.plainAct_keeps (t := t) ..) (by decide))))
  exact h.act (Keeps.refl _ _)

theorem State.chAct_keeps (s : State) (w : Nat) (o : Nat) (v : Nat) (t : State) : Keeps 536887297 t ((State.chAct s w o v).run t) := by
  have h : KeepsA 536887297 t (State.chAct s w o v) := by
    unfold State.chAct
    extract_lets a0_0
    clear_value a0_0
    refine (KeepsA.ite (KeepsA.intro (fun t1 k1 => (Keeps.step (State.storeReg_keeps ..) (by decide) k1))) ?_)
    refine (KeepsA.ite ?_ (KeepsA.ite (KeepsA.intro (fun t4 k4 => (Keeps.step (State.chCommand_keeps ..) (by decide) k4))) (KeepsA.ite (KeepsA.intro
        (fun t5 k5 => (Keeps.step (State.chEval_keeps ..) (by decide) (Keeps.step (State.storeReg_keeps ..) (by decide) k5)))) (KeepsA.ite
        (KeepsA.cmdReg (by decide) (KeepsL3.cons (fun t6 k6 => (Keeps.step (chClear_keeps ..) (by decide) k6)) (KeepsL3.cons (fun t7 k7 =>
        (Keeps.ite (Keeps.step (offTest_keeps ..) (by decide) (Keeps.step (State.wr_keeps ..) (by decide) k7)) k7)) KeepsL3.nil))) (KeepsA.of (fun t
        => State.plainAct_keeps (t := t) ..) (by decide))))))
    refine (KeepsA.intro ?_)
    refine (fun t2 k2 => ?_)
    extract_lets a3_0
    have h_a3_0 : Keeps 536887297 t a3_0 := (Keeps.step (State.storeReg_keeps ..) (by decide) k2)
    exact (Keeps.ite (Keeps.step (State.chOutput_keeps ..) (by decide) (Keeps.step (State.chEval_keeps ..) (by decide) h_a3_0)) h_a3_0)
  exact h.act (Keeps.refl _ _)

theorem State.bridgeAct_keeps (s : State) (w : Nat) (o : Nat) (v : Nat) (t : State) : Keeps 536887297 t ((State.bridgeAct s w o v).run t) := by
  have h : KeepsA 536887297 t (State.bridgeAct s w o v) := by
    unfold State.bridgeAct
    extract_lets a0_0
    exact (KeepsA.ite (KeepsA.intro (fun t1 k1 => (Keeps.ite k1 (Keeps.step (State.hbSetMode_keeps ..) (by decide) k1)))) (KeepsA.of (fun t =>
        State.plainAct_keeps (t := t) ..) (by decide)))
  exact h.act (Keeps.refl _ _)

theorem State.psAct_keeps (s : State) (w : Nat) (o : Nat) (v : Nat) (t : State) : Keeps 1 t ((State.psAct s w o v).run t) := by
  have h : KeepsA 1 t (State.psAct s w o v) := by
    unfold State.psAct
    exact (KeepsA.of (fun t => State.plainAct_keeps (t := t) ..) (by decide))
  exact h.act (Keeps.refl _ _)

theorem State.swAct_keeps (s : State) (w : Nat) (o : Nat) (v : Nat) (t : State) : Keeps 1644393873 t ((State.swAct s w o v).run t) := by
  have h : KeepsA 1644393873 t (State.swAct s w o v) := by
    unfold State.swAct
    exact (KeepsA.intro (fun t0 k0 => (Keeps.step (State.swFollow_keeps ..) (by decide) (Keeps.step (State.storeReg_keeps ..) (by decide) k0))))
  exact h.act (Keeps.refl _ _)

theorem State.anAct_keeps (s : State) (w : Nat) (o : Nat) (v : Nat) (t : State) : Keeps 16385 t ((State.anAct s w o v).run t) := by
  have h : KeepsA 16385 t (State.anAct s w o v) := by
    unfold State.anAct
    refine (KeepsA.intro ?_)
    refine (fun t0 k0 => ?_)
    extract_lets a1_0
    have h_a1_0 : Keeps 16385 t a1_0 := (Keeps.step (State.storeReg_keeps ..) (by decide) k0)
    exact (Keeps.ite (Keeps.step (State.anOff_keeps ..) (by decide) h_a1_0) h_a1_0)
  exact h.act (Keeps.refl _ _)

theorem State.meAct_keeps (s : State) (w : Nat) (o : Nat) (v : Nat) (t : State) : Keeps 1610629121 t ((State.meAct s w o v).run t) := by
  have h : KeepsA 1610629121 t (State.meAct s w o v) := by
    unfold State.meAct
    extract_lets a0_0 a0_1 a0_2
    clear_value a0_0 a0_1 a0_2
    refine (KeepsA.ite (KeepsA.intro (fun t1 k1 => (Keeps.step (State.meModeCommand_keeps ..) (by decide) k1))) ?_)
    refine (KeepsA.ite (KeepsA.cmdReg (by decide) (KeepsL3.cons (fun t2 k2 => (Keeps.step (State.wr_keeps ..) (by decide) (Keeps.step
        (State.setPos_keeps ..) (by decide) k2))) KeepsL3.nil)) ?_)
    refine (KeepsA.ite (KeepsA.intro (fun t3 k3 => (Keeps.step (State.meCommand_keeps ..) (by decide) (Keeps.step (State.wr_keeps ..) (by decide)
        k3)))) ?_)
    refine (KeepsA.ite ?_ (KeepsA.of (fun t => State.plainAct_keeps (t := t) ..) (by decide)))
    refine (KeepsA.intro ?_)
    refine (fun t4 k4 => ?_)
    extract_lets a5_0
    exact (Keeps.step (meSetEn_keeps ..) (by decide) (Keeps.step (State.wr_keeps ..) (by decide) (Keeps.step (State.storeReg_keeps ..) (by decide)
        k4)))
  exact h.act (Keeps.refl _ _)

theorem State.wakeAct_keeps (s : State) (w : Nat) (o : Nat) (v : Nat) (t : State) : Keeps 1644393873 t ((State.wakeAct s w o v).run t) := by
  have h : KeepsA 1644393873 t (State.wakeAct s w o v) := by
    unfold State.wakeAct
    exact (KeepsA.ite (KeepsA.intro (fun t0 k0 => (Keeps.step (pncLocal_keeps ..) (by decide) k0))) (KeepsA.ite (KeepsA.intro (fun t1 k1 =>
        (Keeps.step (nmWrite_keeps ..) (by decide) k1))) (KeepsA.ite (KeepsA.intro (fun t2 k2 => (Keeps.step (State.parkCheck_keeps ..) (by decide)
        (Keeps.step (State.evalNets_keeps ..) (by decide) (Keeps.step (State.storeReg_keeps ..) (by decide) k2))))) (KeepsA.ite (KeepsA.intro (fun
        t3 k3 => (Keeps.step (State.wioSync_keeps ..) (by decide) (Keeps.step (State.storeReg_keeps ..) (by decide) k3)))) (KeepsA.of (fun t =>
        State.plainAct_keeps (t := t) ..) (by decide))))))
  exact h.act (Keeps.refl _ _)

theorem cantWrite_keeps (w : Nat) (o : Nat) (v : Nat) (s : State) : Keeps 1 s (cantWrite w o v s) := by
  unfold cantWrite
  extract_lets a0_0
  have h_a0_0 : Keeps 1 s a0_0 := (Keeps.step (State.storeReg_keeps ..) (by decide) (Keeps.refl _ _))
  exact (Keeps.ite (Keeps.step (State.wr_keeps ..) (by decide) h_a0_0) h_a0_0)

theorem State.regAct_keeps (s : State) (init : Nat) (w : Nat) (o : Nat) (v : Nat) (t : State) : Keeps 2013265919 t ((State.regAct s init w o v).run
    t) := by
  have h : KeepsA 2013265919 t (State.regAct s init w o v) := by
    unfold State.regAct
    refine (KeepsA.ite (KeepsA.of (fun t => State.commonAct_keeps (t := t) ..) (by decide)) ?_)
    refine (KeepsA.ite (KeepsA.of (fun t => State.groupAct_keeps (t := t) ..) (by decide)) ?_)
    split
    · exact (KeepsA.of (fun t => State.hostAct_keeps (t := t) ..) (by decide))
    · exact (KeepsA.of (fun t => State.pwrAct_keeps (t := t) ..) (by decide))
    · exact (KeepsA.of (fun t => State.supAct_keeps (t := t) ..) (by decide))
    · exact (KeepsA.of (fun t => State.ksAct_keeps (t := t) ..) (by decide))
    · exact (KeepsA.of (fun t => State.tamperAct_keeps (t := t) ..) (by decide))
    · exact (KeepsA.of (fun t => State.attestAct_keeps (t := t) ..) (by decide))
    · exact (KeepsA.of (fun t => State.tblAct_keeps (t := t) ..) (by decide))
    · exact (KeepsA.of (fun t => State.stkAct_keeps (t := t) ..) (by decide))
    · exact (KeepsA.of (fun t => State.hopAct_keeps (t := t) ..) (by decide))
    · exact (KeepsA.of (fun t => State.ethAct_keeps (t := t) ..) (by decide))
    · exact (KeepsA.of (fun t => State.l2Act_keeps (t := t) ..) (by decide))
    · exact (KeepsA.of (fun t => State.seamAct_keeps (t := t) ..) (by decide))
    · exact (KeepsA.of (fun t => State.canAct_keeps (t := t) ..) (by decide))
    · exact (KeepsA.of (fun t => State.linAct_keeps (t := t) ..) (by decide))
    · exact (KeepsA.of (fun t => State.sigAct_keeps (t := t) ..) (by decide))
    · exact (KeepsA.of (fun t => State.pduAct_keeps (t := t) ..) (by decide))
    · exact (KeepsA.of (fun t => State.weighAct_keeps (t := t) ..) (by decide))
    · exact (KeepsA.of (fun t => State.authAct_keeps (t := t) ..) (by decide))
    · exact (KeepsA.of (fun t => State.msecAct_keeps (t := t) ..) (by decide))
    · exact (KeepsA.of (fun t => State.axAct_keeps (t := t) ..) (by decide))
    · exact (KeepsA.of (fun t => State.axAct_keeps (t := t) ..) (by decide))
    · exact (KeepsA.of (fun t => State.evpAct_keeps (t := t) ..) (by decide))
    · exact (KeepsA.ite (KeepsA.cmdReg (by decide) (KeepsL3.cons (fun t23 k23 => (Keeps.step (resumeHold_keeps ..) (by decide) k23)) KeepsL3.nil))
        (KeepsA.of (fun t => State.plainAct_keeps (t := t) ..) (by decide)))
    · exact (KeepsA.of (fun t => State.chAct_keeps (t := t) ..) (by decide))
    · exact (KeepsA.of (fun t => State.bridgeAct_keeps (t := t) ..) (by decide))
    · exact (KeepsA.of (fun t => State.psAct_keeps (t := t) ..) (by decide))
    · exact (KeepsA.of (fun t => State.swAct_keeps (t := t) ..) (by decide))
    · exact (KeepsA.of (fun t => State.anAct_keeps (t := t) ..) (by decide))
    · exact (KeepsA.of (fun t => State.meAct_keeps (t := t) ..) (by decide))
    · exact (KeepsA.of (fun t => State.wakeAct_keeps (t := t) ..) (by decide))
    · exact (KeepsA.intro (fun t32 k32 => (Keeps.step (cantWrite_keeps ..) (by decide) k32)))
    · exact (KeepsA.of (fun t => State.plainAct_keeps (t := t) ..) (by decide))
    · exact (KeepsA.of (fun t => State.plainAct_keeps (t := t) ..) (by decide))
    · exact (KeepsA.of (fun t => State.plainAct_keeps (t := t) ..) (by decide))
    · exact (KeepsA.of (fun t => State.plainAct_keeps (t := t) ..) (by decide))
    · exact (KeepsA.of (fun t => State.plainAct_keeps (t := t) ..) (by decide))
    · exact (KeepsA.of (fun t => State.plainAct_keeps (t := t) ..) (by decide))
    · exact (KeepsA.of (fun t => State.plainAct_keeps (t := t) ..) (by decide))
    · exact (KeepsA.of (fun t => State.plainAct_keeps (t := t) ..) (by decide))
    · exact (KeepsA.of (fun t => State.plainAct_keeps (t := t) ..) (by decide))
    · exact (KeepsA.of (fun t => State.plainAct_keeps (t := t) ..) (by decide))
    · exact (KeepsA.of (fun t => State.plainAct_keeps (t := t) ..) (by decide))
    · exact (KeepsA.of (fun t => State.plainAct_keeps (t := t) ..) (by decide))
    · exact (KeepsA.of (fun t => State.plainAct_keeps (t := t) ..) (by decide))
    · exact (KeepsA.of (fun t => State.plainAct_keeps (t := t) ..) (by decide))
    · exact (KeepsA.of (fun t => State.plainAct_keeps (t := t) ..) (by decide))
    · exact (KeepsA.of (fun t => State.plainAct_keeps (t := t) ..) (by decide))
    · exact (KeepsA.of (fun t => State.plainAct_keeps (t := t) ..) (by decide))
    · exact (KeepsA.of (fun t => State.plainAct_keeps (t := t) ..) (by decide))
    · exact (KeepsA.of (fun t => State.plainAct_keeps (t := t) ..) (by decide))
    · exact (KeepsA.of (fun t => State.plainAct_keeps (t := t) ..) (by decide))
    · exact (KeepsA.of (fun t => State.plainAct_keeps (t := t) ..) (by decide))
    · exact (KeepsA.of (fun t => State.plainAct_keeps (t := t) ..) (by decide))
    · exact (KeepsA.of (fun t => State.plainAct_keeps (t := t) ..) (by decide))
  exact h.act (Keeps.refl _ _)

theorem State.cleared_keeps (s : State) (w : Nat) (f : Field) : Keeps 1 s (State.cleared s w f) := by
  unfold State.cleared
  extract_lets a0_0
  exact (Keeps.ite (Keeps.each (Keeps.refl _ _) (fun t1 y1 k1 => (Keeps.step (State.wr_keeps ..) (by decide) k1))) (Keeps.ite (Keeps.ite (Keeps.each
      (Keeps.refl _ _) (fun t2 y2 k2 => (Keeps.step (State.wr_keeps ..) (by decide) k2))) (Keeps.refl _ _)) (Keeps.ite (Keeps.ite (Keeps.each
      (Keeps.refl _ _) (fun t3 y3 k3 => (Keeps.step (State.wr_keeps ..) (by decide) k3))) (Keeps.refl _ _)) (Keeps.ite (Keeps.each (Keeps.refl _ _)
      (fun t4 y4 k4 => (Keeps.step (State.wr_keeps ..) (by decide) k4))) (Keeps.ite (Keeps.each (Keeps.refl _ _) (fun t5 y5 k5 => (Keeps.step
      (State.wr_keeps ..) (by decide) k5))) (Keeps.ite (Keeps.each (Keeps.refl _ _) (fun t6 y6 k6 => (Keeps.step (State.wr_keeps ..) (by decide)
      k6))) (Keeps.ite (Keeps.each (Keeps.refl _ _) (fun t7 y7 k7 => (Keeps.step (State.wr_keeps ..) (by decide) k7))) (Keeps.ite (Keeps.each
      (Keeps.refl _ _) (fun t8 y8 k8 => (Keeps.step (State.wr_keeps ..) (by decide) k8))) (Keeps.ite (Keeps.ite (Keeps.each (Keeps.refl _ _) (fun t9
      y9 k9 => (Keeps.step (State.wr_keeps ..) (by decide) k9))) (Keeps.refl _ _)) (Keeps.ite (Keeps.each (Keeps.refl _ _) (fun t10 y10 k10 =>
      (Keeps.step (State.wr_keeps ..) (by decide) k10))) (Keeps.refl _ _)))))))))))

theorem State.w1cByte_keeps (s : State) (w : Nat) (ofs : Nat) (b : Nat) : Keeps 1 s (State.w1cByte s w ofs b) := by
  unfold State.w1cByte
  refine (Keeps.each (Keeps.refl _ _) ?_)
  refine (fun t0 y0 k0 => ?_)
  extract_lets a1_0 a1_1 a1_2
  exact (Keeps.ite k0 (Keeps.step (State.cleared_keeps ..) (by decide) (Keeps.step (State.wr_keeps ..) (by decide) k0)))

theorem State.hold_keeps (s : State) (w : Nat) (ofs : Nat) (b : Nat) : Keeps 2 s (State.hold s w ofs b) := by
  unfold State.hold
  exact (Keeps.setWbuf (Keeps.refl _ _) (by decide) (fun hc => store_sorted hc.2.1 _ _ _))

theorem State.dropHeld_keeps (s : State) (w : Nat) (o : Nat) (e : Nat) : Keeps 2 s (State.dropHeld s w o e) := by
  unfold State.dropHeld
  exact (Keeps.setWbuf (Keeps.refl _ _) (by decide) (fun hc => filter_sorted hc.2.1 _))

theorem State.viewAct_keeps (s : State) (init : Nat) (v : ViewTab) (ofs : Nat) (b : Nat) (t : State) : Keeps 65 t ((State.viewAct s init v ofs
    b).run t) := by
  have h : KeepsA 65 t (State.viewAct s init v ofs b) := by
    unfold State.viewAct
    refine (KeepsA.ite ?_ (KeepsA.intro (fun t2 k2 => (Keeps.step (State.bufBytes_keeps ..) (by decide) k2))))
    refine (KeepsA.intro ?_)
    refine (fun t0 k0 => ?_)
    extract_lets a1_0 a1_1
    have h_a1_0 : Keeps 65 t a1_0 := (Keeps.step (State.nativePorts_keeps ..) (by decide) (Keeps.step (State.bufFit_keeps ..) (by decide)
        (Keeps.step (State.bufBytes_keeps ..) (by decide) k0)))
    exact (Keeps.step (State.stageBuf_keeps ..) (by decide) h_a1_0)
  exact h.act (Keeps.refl _ _)

theorem State.byteAct_keeps (s : State) (init : Nat) (w : Nat) (ofs : Nat) (b : Nat) (t : State) : Keeps 2013265919 t ((State.byteAct s init w ofs
    b).run t) := by
  have h : KeepsA 2013265919 t (State.byteAct s init w ofs b) := by
    unfold State.byteAct
    unfold State.byteActBy
    split
    · exact (KeepsA.of (fun t => State.viewAct_keeps (t := t) ..) (by decide))
    · extract_lets a2_0 a2_1 a2_2 a2_3 a2_4 a2_5
      have h_a2_5 : KeepsA 2013265919 t a2_5 := (KeepsA.of (fun t => State.regAct_keeps (t := t) ..) (by decide))
      clear_value a2_0 a2_1 a2_2 a2_3 a2_4 a2_5
      refine (KeepsA.ite (KeepsA.intro (fun t3 k3 => k3)) ?_)
      refine (KeepsA.ite (KeepsA.intro (fun t4 k4 => (Keeps.step (State.w1cByte_keeps ..) (by decide) (Keeps.ite k4 (Keeps.step (State.hold_keeps
          ..) (by decide) k4))))) ?_)
      split
      · exact (KeepsA.intro (fun t6 k6 => (Keeps.step (State.dropHeld_keeps ..) (by decide) (Keeps.step (State.selectView_keeps ..) (by decide) k6))))
      · exact (KeepsA.intro (fun t8 k8 => (Keeps.step (State.w1cByte_keeps ..) (by decide) (Keeps.step (State.dropHeld_keeps ..) (by decide)
          (KeepsA.act h_a2_5 k8)))))
  exact h.act (Keeps.refl _ _)

/-! ## LegacyOps -/

theorem State.legByte_keeps (s : State) (load : Bool) (w : Nat) (ofs : Nat) (b : Nat) : KeepsP 2013265919 s (State.legByte s load w ofs b) := by
  unfold State.legByte
  extract_lets a0_0 a0_1
  have h_a0_1 : KeepsA 2013265919 s a0_1 := (KeepsA.of (fun t => State.byteAct_keeps (t := t) ..) (by decide))
  clear_value a0_0 a0_1
  refine (KeepsP.ite (KeepsP.mk (Keeps.refl _ _)) ?_)
  split
  · exact (KeepsP.mk (Keeps.step (State.violate_keeps ..) (by decide) (Keeps.refl _ _)))
  · exact (KeepsP.mk (KeepsA.act h_a0_1 (Keeps.refl _ _)))

theorem State.legBytes_keeps (s : State) (load : Bool) (w : Nat) (l : List (Nat × Nat)) : KeepsP 2013265919 s (s.legBytes load w l) := by
  suffices h : ∀ t, Keeps 2013265919 s t → KeepsP 2013265919 s (t.legBytes load w l) from h s (Keeps.refl _ _)
  induction l with
  | nil => exact fun t h => KeepsP.mk h
  | cons x r ih =>
    intro t h
    unfold State.legBytes
    have hx : KeepsP 2013265919 s (t.legByte load w x.1 x.2) := KeepsP.step (State.legByte_keeps ..) (by decide) h
    exact KeepsP.ite (ih _ hx) hx

theorem State.legRefuse_keeps (s : State) (load : Bool) (w : Nat) (ofs : Nat) (v : Nat) : KeepsP 1610613761 s (State.legRefuse s load w ofs v) := by
  unfold State.legRefuse
  exact (KeepsP.mk (Keeps.step (State.violate_keeps ..) (by decide) (Keeps.refl _ _)))

theorem State.xbTranslate_keeps (s : State) (p : Nat) : Keeps 1 s (State.xbTranslate s p) := by
  unfold State.xbTranslate
  extract_lets a0_0 a0_1
  exact (Keeps.step (State.wr_keeps ..) (by decide) (Keeps.step (State.wr_keeps ..) (by decide) (Keeps.step (State.wr_keeps ..) (by decide)
      (Keeps.step (State.wr_keeps ..) (by decide) (Keeps.refl _ _)))))

theorem State.xbTimingWrite_keeps (s : State) (p : Nat) (k : Nat) (v : Nat) : Keeps 1140850689 s (State.xbTimingWrite s p k v) := by
  unfold State.xbTimingWrite
  extract_lets a0_0 a0_1
  have h_a0_1 : Keeps 1140850689 s a0_1 := (Keeps.step (State.setLeg_keeps ..) (by decide) (Keeps.refl _ _))
  exact (Keeps.ite (Keeps.step (State.xbTranslate_keeps ..) (by decide) h_a0_1) h_a0_1)

theorem State.xbCanCtrl_keeps (s : State) (load : Bool) (p : Nat) (v : Nat) : KeepsP 2013265919 s (State.xbCanCtrl s load p v) := by
  unfold State.xbCanCtrl
  extract_lets a0_0 a0_1 a0_2
  have h_a0_1 : Keeps 2013265919 s a0_1 := (Keeps.ite (Keeps.step (State.xbTranslate_keeps ..) (by decide) (Keeps.refl _ _)) (Keeps.refl _ _))
  have h_a0_2 : KeepsP 2013265919 s a0_2 := (KeepsP.step (State.legByte_keeps ..) (by decide) h_a0_1)
  exact (KeepsP.ite (KeepsP.step (State.legRefuse_keeps ..) (by decide) (Keeps.refl _ _)) (KeepsP.ite (KeepsP.mk h_a0_2) (KeepsP.mk (Keeps.each
      h_a0_2 (fun t1 y1 k1 => (Keeps.step (State.wr_keeps ..) (by decide) k1))))))

theorem State.setBox_keeps (s : State) (p : Nat) (m : Nat) (b : Nat) (v : Nat) : Keeps 1140850688 s (State.setBox s p m b v) := by
  unfold State.setBox
  exact (Keeps.step (State.setLeg_keeps ..) (by decide) (Keeps.refl _ _))

theorem State.boxWrite_keeps (s : State) (p : Nat) (m : Nat) (b : Nat) (v : Nat) : Keeps 1140850688 s (State.boxWrite s p m b v) := by
  unfold State.boxWrite
  exact (Keeps.ite (Keeps.step (State.setBox_keeps ..) (by decide) (Keeps.refl _ _)) (Keeps.ite (Keeps.step (State.setBox_keeps ..) (by decide)
      (Keeps.refl _ _)) (Keeps.ite (Keeps.step (State.setBox_keeps ..) (by decide) (Keeps.refl _ _)) (Keeps.refl _ _))))

theorem State.boxTake_keeps (s : State) (p : Nat) (m : Nat) : Keeps 1140850689 s (State.boxTake s p m) := by
  unfold State.boxTake
  extract_lets a0_0 a0_1 a0_2 a0_3 a0_4 a0_5
  have h_a0_2 : Keeps 1140850689 s a0_2 := (Keeps.step (State.setBox_keeps ..) (by decide) (Keeps.refl _ _))
  have h_a0_3 : Keeps 1140850689 s a0_3 := (Keeps.each h_a0_2 (fun t1 y1 k1 => (Keeps.step (State.setBox_keeps ..) (by decide) k1)))
  have h_a0_4 : Keeps 1140850689 s a0_4 := (Keeps.step (State.setBox_keeps ..) (by decide) h_a0_3)
  have h_a0_5 : Keeps 1140850689 s a0_5 := (Keeps.each h_a0_4 (fun t2 y2 k2 => (Keeps.step (State.setBox_keeps ..) (by decide) k2)))
  exact (Keeps.step (State.setObj_keeps ..) (by decide) (Keeps.step (State.setObj_keeps ..) (by decide) h_a0_5))

theorem State.boxStore_keeps (s : State) (p : Nat) (m : Nat) : Keeps 1073774737 s (State.boxStore s p m) := by
  unfold State.boxStore
  extract_lets a0_0 a0_1 a0_2 a0_3 a0_4 a0_5 a0_6
  have h_a0_2 : Keeps 1073774737 s a0_2 := (Keeps.step (State.objClear_keeps ..) (by decide) (Keeps.refl _ _))
  have h_a0_4 : Keeps 1073774737 s a0_4 := (Keeps.step (State.setObj_keeps ..) (by decide) (Keeps.step (State.setObj_keeps ..) (by decide) h_a0_2))
  have h_a0_5 : Keeps 1073774737 s a0_5 := (Keeps.step (State.setObj_keeps ..) (by decide) (Keeps.step (State.setObj_keeps ..) (by decide) h_a0_4))
  have h_a0_6 : Keeps 1073774737 s a0_6 := (Keeps.step (State.setObj_keeps ..) (by decide) (Keeps.step (State.setObj_keeps ..) (by decide) h_a0_5))
  exact (Keeps.each h_a0_6 (fun t1 y1 k1 => (Keeps.step (State.setObj_keeps ..) (by decide) k1)))

theorem State.boxCommand_keeps (s : State) (load : Bool) (p : Nat) (m : Nat) (v : Nat) : KeepsP 1677755537 s (State.boxCommand s load p m v) := by
  unfold State.boxCommand
  extract_lets a0_0 a0_1 a0_2
  have h_a0_2 : Keeps 1677755537 s a0_2 := (Keeps.step (State.boxStore_keeps ..) (by decide) (Keeps.step (State.setBox_keeps ..) (by decide)
      (Keeps.refl _ _)))
  clear_value a0_0 a0_1 a0_2
  refine (KeepsP.ite (KeepsP.mk (Keeps.refl _ _)) ?_)
  split
  · exact (KeepsP.mk (Keeps.step (State.violate_keeps ..) (by decide) (Keeps.refl _ _)))
  · exact (KeepsP.mk (Keeps.ite (Keeps.step (State.objSendOf_keeps ..) (by decide) h_a0_2) h_a0_2))

theorem State.setSlotByte_keeps (s : State) (k : Nat) (b : Nat) (v : Nat) : Keeps 1140850688 s (State.setSlotByte s k b v) := by
  unfold State.setSlotByte
  exact (Keeps.step (State.setLeg_keeps ..) (by decide) (Keeps.refl _ _))

theorem State.stageEntry_keeps (s : State) (e : NewEntry) : KeepsO 65 s (State.stageEntry s e) := by
  unfold State.stageEntry
  extract_lets a0_0 a0_1
  have h_a0_1 : Keeps 65 s a0_1 := (Keeps.each (Keeps.refl _ _) (fun t1 y1 k1 => (Keeps.step (State.setEnt_keeps ..) (by decide) k1)))
  clear_value a0_0 a0_1
  split
  · exact KeepsO.none
  · extract_lets a4_0
    have h_a4_0 : Keeps 65 s a4_0 := (Keeps.ite (Keeps.step (State.addOvf_keeps ..) (by decide) h_a0_1) (Keeps.ite h_a0_1 (Keeps.step
        (State.dropOvf_keeps ..) (by decide) h_a0_1)))
    exact (KeepsO.some (Keeps.step (State.stagedOne_keeps ..) (by decide) (Keeps.step (State.touch_keeps ..) (by decide) h_a4_0)))

theorem State.stageEntries_keeps (s : State) (l : List NewEntry) : KeepsO 65 s (s.stageEntries l) := by
  suffices h : ∀ t, Keeps 65 s t → KeepsO 65 s (t.stageEntries l) from h s (Keeps.refl _ _)
  induction l with
  | nil => exact fun t h => KeepsO.some h
  | cons x r ih =>
    intro t h
    unfold State.stageEntries
    split
    · exact KeepsO.none
    · next u e => exact ih _ (KeepsO.get (KeepsO.step (State.stageEntry_keeps ..) (by decide) h) e)

theorem State.installEntry_keeps (s : State) (e : NewEntry) : Keeps 1611399233 s (State.installEntry s e) := by
  unfold State.installEntry
  extract_lets a0_0 a0_1
  exact (Keeps.each (Keeps.step (State.entryFlipped_keeps ..) (by decide) (Keeps.each (Keeps.refl _ _) (fun t1 y1 k1 => (Keeps.step
      (State.setEnt_keeps ..) (by decide) k1)))) (fun t2 y2 k2 => (Keeps.step (State.setEnt_keeps ..) (by decide) k2)))

theorem State.slotCommit_keeps (s : State) (load : Bool) (k : Nat) (v : Nat) : KeepsP 1678509121 s (State.slotCommit s load k v) := by
  unfold State.slotCommit
  extract_lets a0_0 a0_1 a0_2
  have h_a0_1 : Keeps 1678509121 s a0_1 := (Keeps.step (State.setSlotByte_keeps ..) (by decide) (Keeps.refl _ _))
  clear_value a0_0 a0_1 a0_2
  refine (KeepsP.ite (KeepsP.mk (Keeps.refl _ _)) ?_)
  refine (KeepsP.ite (KeepsP.step (State.legRefuse_keeps ..) (by decide) (Keeps.refl _ _)) ?_)
  refine (KeepsP.ite (KeepsP.mk (Keeps.each h_a0_1 (fun t1 y1 k1 => (Keeps.step (State.installEntry_keeps ..) (by decide) k1)))) ?_)
  refine (KeepsP.ite (KeepsP.step (State.legRefuse_keeps ..) (by decide) (Keeps.refl _ _)) ?_)
  split
  · exact (KeepsP.mk (Keeps.step (State.stageFull_keeps ..) (by decide) (Keeps.refl _ _)))
  · next p3_0 e3 =>
      have q3 := KeepsO.get (T := 1678509121) (a := s) (KeepsO.step (State.stageEntries_keeps ..) (by decide) (Keeps.step (State.tblAcquire_keeps
          ..) (by decide) h_a0_1)) e3
      exact (KeepsP.mk (Keeps.step (State.setLeg_keeps ..) (by decide) (Keeps.step (State.tblRelease_keeps ..) (by decide) (Keeps.step
          (State.commit_keeps ..) (by decide) q3))))

theorem State.outDuty_keeps (s : State) (load : Bool) (n : Nat) (d : Nat) : KeepsP 2013265919 s (State.outDuty s load n d) := by
  unfold State.outDuty
  extract_lets a0_0 a0_1 a0_2 a0_3
  have h_a0_2 : KeepsP 2013265919 s a0_2 := (KeepsP.step (State.legBytes_keeps ..) (by decide) (Keeps.refl _ _))
  exact (KeepsP.ite (KeepsP.mk (Keeps.step (State.setLeg_keeps ..) (by decide) h_a0_2)) (KeepsP.mk h_a0_2))

theorem State.xbSwitch_keeps (s : State) (load : Bool) (n : Nat) (v : Nat) : KeepsP 2013265919 s (State.xbSwitch s load n v) := by
  unfold State.xbSwitch
  exact (KeepsP.xbAns (KeepsP.step (State.legBytes_keeps ..) (by decide) (Keeps.refl _ _)))

theorem State.xbLinCtrl_keeps (s : State) (load : Bool) (i : Nat) (v : Nat) : KeepsP 2013265919 s (State.xbLinCtrl s load i v) := by
  unfold State.xbLinCtrl
  extract_lets a0_0 a0_1
  exact (KeepsP.xbAns (KeepsP.step (State.legBytes_keeps ..) (by decide) (Keeps.refl _ _)))

theorem State.xbIrqWrite_keeps (s : State) (a : Nat) (v : Nat) : Keeps 1140850688 s (State.xbIrqWrite s a v) := by
  unfold State.xbIrqWrite
  extract_lets a0_0 a0_1 a0_2
  have h_a0_2 : Keeps 1140850688 s a0_2 := (Keeps.step (State.setLeg_keeps ..) (by decide) (Keeps.refl _ _))
  exact (Keeps.ite (Keeps.step (State.driveIrq_keeps ..) (by decide) h_a0_2) h_a0_2)

theorem State.legacyWrite_keeps (s : State) (load : Bool) (a : Nat) (v : Nat) : KeepsP 2013265919 s (State.legacyWrite s load a v) := by
  unfold State.legacyWrite
  refine (KeepsP.ite (KeepsP.mk (Keeps.refl _ _)) ?_)
  refine (KeepsP.ite (KeepsP.mk (Keeps.step (State.xbIrqWrite_keeps ..) (by decide) (Keeps.refl _ _))) ?_)
  refine (KeepsP.ite ?_ ?_)
  · extract_lets a0_0 a0_1
    exact (KeepsP.ite (KeepsP.mk (Keeps.step (State.xbTimingWrite_keeps ..) (by decide) (Keeps.refl _ _))) (KeepsP.ite (KeepsP.step
        (State.xbCanCtrl_keeps ..) (by decide) (Keeps.refl _ _)) (KeepsP.mk (Keeps.refl _ _))))
  · refine (KeepsP.ite ?_ ?_)
    · extract_lets a1_0 a1_1
      exact (KeepsP.ite (KeepsP.xbAns (KeepsP.step (State.legByte_keeps ..) (by decide) (Keeps.refl _ _))) (KeepsP.ite (KeepsP.step
          (State.xbLinCtrl_keeps ..) (by decide) (Keeps.refl _ _)) (KeepsP.mk (Keeps.refl _ _))))
    · refine (KeepsP.ite ?_ ?_)
      · extract_lets a2_0 a2_1
        exact (KeepsP.xbAns (KeepsP.step (State.legByte_keeps ..) (by decide) (Keeps.refl _ _)))
      · refine (KeepsP.ite (KeepsP.step (State.outDuty_keeps ..) (by decide) (Keeps.refl _ _)) ?_)
        refine (KeepsP.ite (KeepsP.ite (KeepsP.xbAns (KeepsP.step (State.legByte_keeps ..) (by decide) (Keeps.refl _ _))) (KeepsP.mk (Keeps.refl _
            _))) ?_)
        refine (KeepsP.ite (KeepsP.mk (Keeps.refl _ _)) ?_)
        refine (KeepsP.ite (KeepsP.step (State.xbSwitch_keeps ..) (by decide) (Keeps.refl _ _)) ?_)
        refine (KeepsP.ite ?_ ?_)
        · extract_lets a3_0
          exact (KeepsP.ite (KeepsP.step (State.slotCommit_keeps ..) (by decide) (Keeps.refl _ _)) (KeepsP.mk (Keeps.step (State.setSlotByte_keeps
              ..) (by decide) (Keeps.refl _ _))))
        · refine (KeepsP.ite ?_ ?_)
          · extract_lets a4_0 a4_1
            exact (KeepsP.ite (KeepsP.step (State.boxCommand_keeps ..) (by decide) (Keeps.refl _ _)) (KeepsP.mk (Keeps.step (State.boxWrite_keeps
                ..) (by decide) (Keeps.refl _ _))))
          · refine (KeepsP.ite ?_ ?_)
            · extract_lets a5_0
              exact (KeepsP.xbAns (KeepsP.step (State.legByte_keeps ..) (by decide) (Keeps.refl _ _)))
            · refine (KeepsP.ite ?_ (KeepsP.mk (Keeps.refl _ _)))
              extract_lets a6_0
              exact (KeepsP.xbAns (KeepsP.step (State.legByte_keeps ..) (by decide) (Keeps.refl _ _)))

theorem State.legacyForce_keeps (s : State) (w : Nat) : Keeps 1 s (State.legacyForce s w) := by
  unfold State.legacyForce
  split
  · exact (Keeps.step (State.wr_keeps ..) (by decide) (Keeps.step (State.wr_keeps ..) (by decide) (Keeps.step (State.wr_keeps ..) (by decide)
      (Keeps.refl _ _))))
  · exact (Keeps.each (Keeps.refl _ _) (fun t2 y2 k2 => (Keeps.step (State.wr_keeps ..) (by decide) (Keeps.step (State.wr_keeps ..) (by decide) k2))))
  · exact (Keeps.step (State.wr_keeps ..) (by decide) (Keeps.step (State.wr_keeps ..) (by decide) (Keeps.refl _ _)))
  · exact (Keeps.step (State.wr_keeps ..) (by decide) (Keeps.step (State.wr_keeps ..) (by decide) (Keeps.refl _ _)))
  · exact (Keeps.refl _ _)

theorem State.legacyDefaults_keeps (s : State) : Keeps 1 s (State.legacyDefaults s) := by
  unfold State.legacyDefaults
  exact (Keeps.each (Keeps.refl _ _) (fun t0 y0 k0 => (Keeps.step (State.legacyForce_keeps ..) (by decide) k0)))

/-! ## LoadOps -/

theorem State.imgEntry_keeps (s : State) (w : Nat) (i : Nat) (vals : List (Field × Nat)) : KeepsO 1611399233 s (State.imgEntry s w i vals) := by
  unfold State.imgEntry
  extract_lets a0_0 a0_1 a0_2
  exact (KeepsO.ite KeepsO.none (KeepsO.some (Keeps.step (State.installEntry_keeps ..) (by decide) (Keeps.refl _ _))))

theorem State.imgReg_keeps (s : State) (w : Nat) (o : Nat) (v : Nat) : KeepsO 1610907793 s (State.imgReg s w o v) := by
  unfold State.imgReg
  extract_lets a0_0 a0_1 a0_2
  have h_a0_1 : KeepsO 1610907793 s a0_1 := (KeepsO.some (Keeps.step (State.storeReg_keeps ..) (by decide) (Keeps.refl _ _)))
  clear_value a0_0 a0_1 a0_2
  split
  · exact (KeepsO.ite (KeepsO.some (Keeps.step (State.wrWide_keeps ..) (by decide) (Keeps.refl _ _))) (KeepsO.ite (KeepsO.some (Keeps.refl _ _))
      (KeepsO.ite (KeepsO.ite KeepsO.none (KeepsO.some (Keeps.step (State.fifoConfigure_keeps ..) (by decide) (Keeps.refl _ _)))) (KeepsO.ite
      (KeepsO.ite (KeepsO.some (Keeps.refl _ _)) (KeepsO.ite KeepsO.none (KeepsO.some (Keeps.step (State.viewToObj_keeps ..) (by decide) (Keeps.refl
      _ _))))) (KeepsO.some (Keeps.step (State.sjwFit_keeps ..) (by decide) (Keeps.step (State.storeReg_keeps ..) (by decide) (Keeps.refl _
      _))))))))
  · exact (KeepsO.ite (KeepsO.some (Keeps.step (sentryWrite_keeps ..) (by decide) (Keeps.refl _ _))) (KeepsO.ite (KeepsO.some (Keeps.step
      (State.wr_keeps ..) (by decide) (Keeps.step (State.storeReg_keeps ..) (by decide) (Keeps.refl _ _)))) h_a0_1))
  · exact (KeepsO.ite (KeepsO.some (Keeps.step (State.wrWide_keeps ..) (by decide) (Keeps.refl _ _))) (KeepsO.ite (KeepsO.some (Keeps.step
      (State.storeReg_keeps ..) (by decide) (Keeps.refl _ _))) (KeepsO.ite (KeepsO.some (Keeps.refl _ _)) h_a0_1)))
  · exact (KeepsO.ite (KeepsO.some (Keeps.step (State.putAxCfg_keeps ..) (by decide) (Keeps.refl _ _))) h_a0_1)
  · exact (KeepsO.ite (KeepsO.some (Keeps.refl _ _)) h_a0_1)
  · exact (KeepsO.ite (KeepsO.some (Keeps.refl _ _)) h_a0_1)
  · exact (KeepsO.ite (KeepsO.some (Keeps.step (State.wr_keeps ..) (by decide) (Keeps.refl _ _))) h_a0_1)
  · exact (KeepsO.some (Keeps.step (State.storeReg_keeps ..) (by decide) (Keeps.refl _ _)))
  · exact (KeepsO.ite (KeepsO.some (Keeps.step (State.scStore_keeps ..) (by decide) (Keeps.refl _ _))) (KeepsO.ite (KeepsO.some (Keeps.step
      (State.saStore_keeps ..) (by decide) (Keeps.refl _ _))) h_a0_1))
  · exact (KeepsO.ite (KeepsO.some (Keeps.ite (Keeps.step (State.offerEpoch_keeps ..) (by decide) (Keeps.refl _ _)) (Keeps.refl _ _))) (KeepsO.ite
      (KeepsO.some (Keeps.step (State.reserveChanged_keeps ..) (by decide) (Keeps.step (State.storeReg_keeps ..) (by decide) (Keeps.refl _ _))))
      h_a0_1))
  · exact (KeepsO.ite KeepsO.none h_a0_1)
  · exact (KeepsO.ite KeepsO.none (KeepsO.ite (KeepsO.some (Keeps.refl _ _)) h_a0_1))
  · exact (KeepsO.ite (KeepsO.some (Keeps.step (State.handshake_keeps ..) (by decide) (Keeps.refl _ _))) h_a0_1)

theorem State.imgByte_keeps (s : State) (w : Nat) (ofs : Nat) (b : Nat) : KeepsO 1611432147 s (State.imgByte s w ofs b) := by
  unfold State.imgByte
  refine (KeepsO.ite KeepsO.none ?_)
  split
  · extract_lets a1_0 a1_1
    have h_a1_0 : Keeps 1611432147 s a1_0 := (Keeps.step (State.bufBytes_keeps ..) (by decide) (Keeps.refl _ _))
    exact (KeepsO.ite (KeepsO.step (State.imgEntry_keeps ..) (by decide) h_a1_0) (KeepsO.some h_a1_0))
  · extract_lets a3_0 a3_1 a3_2
    clear_value a3_0 a3_1 a3_2
    refine (KeepsO.ite (KeepsO.some (Keeps.refl _ _)) ?_)
    refine (KeepsO.ite (KeepsO.some (Keeps.ite (Keeps.refl _ _) (Keeps.step (State.hold_keeps ..) (by decide) (Keeps.refl _ _)))) ?_)
    split
    · exact (KeepsO.some (Keeps.step (State.dropHeld_keeps ..) (by decide) (Keeps.step (State.selectView_keeps ..) (by decide) (Keeps.refl _ _))))
    · exact (KeepsO.map (KeepsO.step (State.imgReg_keeps ..) (by decide) (Keeps.refl _ _)) (fun t6 k6 => (Keeps.step (State.dropHeld_keeps ..) (by
        decide) k6)))

theorem State.imgL2_keeps (s : State) (fid : Nat) (mac : Nat) (dropMove : Bool) (dlist : Bool) (dest : Nat) : KeepsO 1342177793 s (State.imgL2 s fid
    mac dropMove dlist dest) := by
  unfold State.imgL2
  extract_lets a0_0
  have h_a0_0 : Keeps 1342177793 s a0_0 := (Keeps.step (State.setL2_keeps ..) (by decide) (Keeps.refl _ _))
  exact (KeepsO.step (State.l2Place_keeps ..) (by decide) h_a0_0)

theorem State.imgPrefix_keeps (s : State) (v6 : Bool) (plen : Nat) (addr : Nat) (route : Nat) : KeepsO 512 s (State.imgPrefix s v6 plen addr route)
    := by
  unfold State.imgPrefix
  refine (KeepsO.ite KeepsO.none ?_)
  extract_lets a0_0 a0_1
  exact (KeepsO.ite (KeepsO.some (Keeps.step (State.setPrefixes_keeps ..) (by decide) (Keeps.refl _ _))) KeepsO.none)

theorem State.imgLegacy_keeps (s : State) (a : Nat) (v : Nat) : KeepsO 2013265919 s (State.imgLegacy s a v) := by
  unfold State.imgLegacy
  refine (KeepsO.ite KeepsO.none ?_)
  extract_lets a0_0
  have h_a0_0 : KeepsP 2013265919 s a0_0 := (KeepsP.step (State.legacyWrite_keeps ..) (by decide) (Keeps.refl _ _))
  exact (KeepsO.ite (KeepsO.some h_a0_0) KeepsO.none)

theorem State.imgRec_keeps (s : State) (r : ImgRec) : KeepsO 2013265919 s (State.imgRec s r) := by
  unfold State.imgRec
  split
  · exact (KeepsO.step (State.imgByte_keeps ..) (by decide) (Keeps.refl _ _))
  · exact (KeepsO.ite KeepsO.none (KeepsO.step (State.imgEntry_keeps ..) (by decide) (Keeps.refl _ _)))
  · exact (KeepsO.step (State.imgL2_keeps ..) (by decide) (Keeps.refl _ _))
  · exact (KeepsO.step (State.imgPrefix_keeps ..) (by decide) (Keeps.refl _ _))
  · exact (KeepsO.some (Keeps.step (State.loadBlob_keeps ..) (by decide) (Keeps.refl _ _)))
  · exact (KeepsO.ite KeepsO.none (KeepsO.some (Keeps.step (State.setMdioList_keeps ..) (by decide) (Keeps.refl _ _))))
  · exact (KeepsO.some (Keeps.step (State.setCfg_keeps ..) (by decide) (Keeps.refl _ _)))
  · exact (KeepsO.step (State.imgLegacy_keeps ..) (by decide) (Keeps.refl _ _))

theorem State.imgRecs_keeps (s : State) (l : List ImgRec) : KeepsO 2013265919 s (s.imgRecs l) := by
  suffices h : ∀ t, Keeps 2013265919 s t → KeepsO 2013265919 s (t.imgRecs l) from h s (Keeps.refl _ _)
  induction l with
  | nil => exact fun t h => KeepsO.some h
  | cons x r ih =>
    intro t h
    unfold State.imgRecs
    split
    · exact KeepsO.none
    · next u e => exact ih _ (KeepsO.get (KeepsO.step (State.imgRec_keeps ..) (by decide) h) e)

theorem State.installSection_keeps (s : State) (x : ImgSection) : KeepsL 2013265919 s (State.installSection s x) := by
  unfold State.installSection
  split
  · exact KeepsL.inr
  · refine (KeepsL.ite (KeepsL.inl (Keeps.step (State.sticky_keeps ..) (by decide) (Keeps.refl _ _))) ?_)
    split
    · exact KeepsL.inr
    · next p3_0 e3 =>
        have q3 := KeepsO.get (T := 2013265919) (a := s) (KeepsO.step (State.imgRecs_keeps ..) (by decide) (Keeps.refl _ _)) e3
        exact (KeepsL.inl q3)

theorem State.installSections_keeps (s : State) (l : List ImgSection) : KeepsP 2013265919 s (s.installSections l) := by
  suffices h : ∀ t, Keeps 2013265919 s t → KeepsP 2013265919 s (t.installSections l) from h s (Keeps.refl _ _)
  induction l with
  | nil => exact fun t h => KeepsP.mk h
  | cons x r ih =>
    intro t h
    unfold State.installSections
    split
    · exact KeepsP.mk h
    · next u e => exact ih _ (KeepsL.get (KeepsL.step (State.installSection_keeps ..) (by decide) h) e)

theorem State.unitReady_keeps (s : State) (w : Nat) : Keeps 1648878993 s (State.unitReady s w) := by
  unfold State.unitReady
  extract_lets a0_0 a0_1 a0_2 a0_3 a0_4 a0_5
  have h_a0_1 : Keeps 1648878993 s a0_1 := (Keeps.step (State.wr_keeps ..) (by decide) (Keeps.refl _ _))
  have h_a0_2 : Keeps 1648878993 s a0_2 := (Keeps.step (State.canFollowEn_keeps ..) (by decide) h_a0_1)
  have h_a0_3 : Keeps 1648878993 s a0_3 := (Keeps.step (State.linFollowEn_keeps ..) (by decide) h_a0_1)
  have h_a0_4 : Keeps 1648878993 s a0_4 := (Keeps.step (State.mdioListGo_keeps ..) (by decide) h_a0_1)
  clear_value a0_0 a0_1 a0_2 a0_3 a0_4 a0_5
  split
  · exact (Keeps.ite (Keeps.step (State.setCanState_keeps ..) (by decide) h_a0_2) h_a0_2)
  · exact (Keeps.ite (Keeps.step (State.setLinState_keeps ..) (by decide) h_a0_3) h_a0_3)
  · exact (Keeps.ite (Keeps.step (State.peerSync_keeps ..) (by decide) (Keeps.step (State.ethSynced_keeps ..) (by decide) (Keeps.step
      (State.ethEnable_keeps ..) (by decide) h_a0_4))) h_a0_4)
  · exact (Keeps.ite (Keeps.step (State.axStart_keeps ..) (by decide) h_a0_1) h_a0_1)
  · exact (Keeps.ite (Keeps.step (meSetEn_keeps ..) (by decide) h_a0_1) h_a0_1)
  · exact (Keeps.step (State.chOutput_keeps ..) (by decide) (Keeps.step (State.chEval_keeps ..) (by decide) h_a0_1))
  · exact (Keeps.step (State.hbAct_keeps ..) (by decide) h_a0_1)
  · exact (Keeps.each h_a0_1 (fun t9 y9 k9 => (Keeps.step (State.scEval_keeps ..) (by decide) k9)))
  · exact (Keeps.each h_a0_1 (fun t11 y11 k11 => (Keeps.step (State.peerSync_keeps ..) (by decide) k11)))
  · exact (Keeps.step (State.wioSync_keeps ..) (by decide) (Keeps.step (State.evalNets_keeps ..) (by decide) h_a0_1))
  · exact (Keeps.step (State.setGuard_keeps ..) (by decide) h_a0_1)
  · exact h_a0_1

theorem State.phaseReady_keeps (s : State) (p : Nat) : Keeps 1648878993 s (State.phaseReady s p) := by
  unfold State.phaseReady
  exact (Keeps.each (Keeps.refl _ _) (fun t0 y0 k0 => (Keeps.ite (Keeps.step (State.unitReady_keeps ..) (by decide) k0) k0)))

theorem State.cfgErr_keeps (s : State) (cause : Nat) (sect : Nat) : Keeps 1 s (State.cfgErr s cause sect) := by
  unfold State.cfgErr
  exact (Keeps.step (State.wr_keeps ..) (by decide) (Keeps.step (State.wr_keeps ..) (by decide) (Keeps.refl _ _)))

theorem State.slotBad_keeps (s : State) (k : Nat) : Keeps 1610612769 s (State.slotBad s k) := by
  unfold State.slotBad
  exact (Keeps.step (State.sticky_keeps ..) (by decide) (Keeps.step (State.setCfg_keeps ..) (by decide) (Keeps.refl _ _)))

theorem State.kmpOnly_keeps (s : State) (p : Nat) : Keeps 1 s (State.kmpOnly s p) := by
  unfold State.kmpOnly
  extract_lets a0_0 a0_1
  have h_a0_1 : Keeps 1 s a0_1 := (Keeps.step (State.wr_keeps ..) (by decide) (Keeps.step (State.wr_keeps ..) (by decide) (Keeps.step
      (State.wr_keeps ..) (by decide) (Keeps.step (State.wr_keeps ..) (by decide) (Keeps.refl _ _)))))
  exact (Keeps.step (State.wr_keeps ..) (by decide) (Keeps.step (State.wr_keeps ..) (by decide) h_a0_1))

theorem State.unconfigured_keeps (s : State) : Keeps 1648879025 s (State.unconfigured s) := by
  unfold State.unconfigured
  extract_lets a0_0 a0_1 a0_2 a0_3 a0_4 a0_5 a0_6
  have h_a0_0 : Keeps 1648879025 s a0_0 := (Keeps.step (State.wr_keeps ..) (by decide) (Keeps.step (State.wr_keeps ..) (by decide) (Keeps.step
      (State.wr_keeps ..) (by decide) (Keeps.refl _ _))))
  have h_a0_2 : Keeps 1648879025 s a0_2 := (Keeps.step (State.setCfg_keeps ..) (by decide) h_a0_0)
  have h_a0_4 : Keeps 1648879025 s a0_4 := (Keeps.step (State.startFailedRow_keeps ..) (by decide) (Keeps.step (State.setPwr_keeps ..) (by decide)
      h_a0_2))
  have h_a0_5 : Keeps 1648879025 s a0_5 := (Keeps.step (State.wr_keeps ..) (by decide) (Keeps.each h_a0_4 (fun t1 y1 k1 => (Keeps.step
      (State.kmpOnly_keeps ..) (by decide) k1))))
  have h_a0_6 : Keeps 1648879025 s a0_6 := (Keeps.each h_a0_5 (fun t2 y2 k2 => (Keeps.step (State.phaseReady_keeps ..) (by decide) k2)))
  exact (Keeps.step (State.wr_keeps ..) (by decide) h_a0_6)

theorem State.selectSlot_keeps (s : State) (c : Cand) : Keeps 1140858913 s (State.selectSlot s c) := by
  unfold State.selectSlot
  extract_lets a0_0 a0_1 a0_2 a0_3 a0_4 a0_5 a0_6 a0_7
  have h_a0_2 : Keeps 1140858913 s a0_2 := (Keeps.step (State.wr_keeps ..) (by decide) (Keeps.step (State.wr_keeps ..) (by decide) (Keeps.refl _ _)))
  have h_a0_4 : Keeps 1140858913 s a0_4 := (Keeps.step (State.setCfg_keeps ..) (by decide) h_a0_2)
  have h_a0_7 : Keeps 1140858913 s a0_7 := (Keeps.step (State.setLeg_keeps ..) (by decide) (Keeps.step (State.setPwr_keeps ..) (by decide) h_a0_4))
  exact (Keeps.ite (Keeps.each h_a0_7 (fun t1 y1 k1 => (Keeps.step (State.wr_keeps ..) (by decide) k1))) h_a0_7)

theorem State.tryCands_keeps (s : State) (l : List Cand) : Keeps 1715987889 s (s.tryCands l) := by
  suffices h : ∀ t, Keeps 1715987889 s t → Keeps 1715987889 s (t.tryCands l) from h s (Keeps.refl _ _)
  induction l with
  | nil => exact fun t h => Keeps.step (State.unconfigured_keeps ..) (by decide) h
  | cons x r ih =>
    intro t h
    unfold State.tryCands
    split
    · exact Keeps.step (State.selectSlot_keeps ..) (by decide) h
    · exact ih _ (Keeps.step (State.slotBad_keeps ..) (by decide) (Keeps.step (State.cfgErr_keeps ..) (by decide) h))

theorem State.phase0_keeps (s : State) (a : SlotImage) (b : SlotImage) : Keeps 1715987889 s (State.phase0 s a b) := by
  unfold State.phase0
  extract_lets a0_0 a0_1 a0_2
  have h_a0_1 : Keeps 1715987889 s a0_1 := by
    unfold a0_1
    clear_value a0_0
    refine (Keeps.each (Keeps.refl _ _) ?_)
    refine (fun t1 y1 k1 => ?_)
    split
    · exact (Keeps.step (State.cfgErr_keeps ..) (by decide) k1)
    · exact k1
  exact (Keeps.step (State.tryCands_keeps ..) (by decide) h_a0_1)

theorem State.loadFailed_keeps (s : State) (cause : Nat) (sect : Nat) : Keeps 1744830463 s (State.loadFailed s cause sect) := by
  unfold State.loadFailed
  exact (Keeps.step (State.softReset_keeps ..) (by decide) (Keeps.step (State.slotBad_keeps ..) (by decide) (Keeps.step (State.cfgErr_keeps ..) (by
      decide) (Keeps.refl _ _))))

theorem State.phase1Done_keeps (s : State) : Keeps 1644389777 s (State.phase1Done s) := by
  unfold State.phase1Done
  extract_lets a0_0
  have h_a0_0 : Keeps 1644389777 s a0_0 := (Keeps.step (State.wr_keeps ..) (by decide) (Keeps.step (State.bodyInstalled_keeps ..) (by decide)
      (Keeps.refl _ _)))
  exact (Keeps.step (State.parkCheck_keeps ..) (by decide) (Keeps.step (State.evalNets_keeps ..) (by decide) h_a0_0))

theorem State.installPhase_keeps (s : State) (p : Nat) : Keeps 2013265919 s (State.installPhase s p) := by
  unfold State.installPhase
  extract_lets a0_0 a0_1 a0_2 a0_3 a0_4 a0_5 a0_6
  have h_a0_2 : KeepsP 2013265919 s a0_2 := (KeepsP.step (State.installSections_keeps ..) (by decide) (Keeps.ite (Keeps.step
      (State.legacyDefaults_keeps ..) (by decide) (Keeps.refl _ _)) (Keeps.refl _ _)))
  have h_a0_3 : Keeps 2013265919 s a0_3 := (Keeps.ite (Keeps.step (State.legacyDefaults_keeps ..) (by decide) h_a0_2) h_a0_2)
  have h_a0_5 : Keeps 2013265919 s a0_5 := (Keeps.step (State.setCfg_keeps ..) (by decide) h_a0_3)
  have h_a0_6 : Keeps 2013265919 s a0_6 := (Keeps.step (State.phaseReady_keeps ..) (by decide) (Keeps.step (State.wr_keeps ..) (by decide) h_a0_5))
  clear_value a0_0 a0_2 a0_3 a0_4 a0_5 a0_6
  split
  · exact (Keeps.step (State.loadFailed_keeps ..) (by decide) h_a0_2)
  · split
    · exact (Keeps.step (State.loadFailed_keeps ..) (by decide) h_a0_3)
    · exact (Keeps.ite (Keeps.step (State.phase1Done_keeps ..) (by decide) h_a0_6) h_a0_6)

theorem State.reloadSlots_keeps (s : State) (w : Nat) (l : List ImgRec) : Keeps 1678508097 s (State.reloadSlots s w l) := by
  unfold State.reloadSlots
  extract_lets a0_0 a0_1 a0_2
  have h_a0_1 : Keeps 1678508097 s a0_1 := (Keeps.step (State.setLeg_keeps ..) (by decide) (Keeps.refl _ _))
  exact (Keeps.each (Keeps.refl _ _) (fun t1 y1 k1 => (Keeps.each k1 (fun t2 y2 k2 => (Keeps.step (State.installEntry_keeps ..) (by decide) k2)))))

theorem State.cardKept_keeps (s : State) (before : Tab Nat) (w : Nat) : Keeps 1 s (s.cardKept before w) := by
  unfold State.cardKept
  extract_lets kept hit x
  have hx : Keeps 1 s x := Keeps.setRegs (Keeps.refl _ _) (by decide) fun hc => by
    have h : ∀ (l : Tab Nat) (t : Tab Nat), t.sorted = true → Tab.sorted (l.foldl (fun t p => insertAt t p.1 p.2) t) = true := by
      intro l
      induction l with
      | nil => exact fun t k => k
      | cons p r ih => exact fun t k => ih _ (insertAt_sorted k _ _)
    exact h _ _ (filter_sorted hc.1 _)
  exact Keeps.step (State.setParity_keeps ..) (by decide) hx

theorem State.reloadUnit_keeps (s : State) (w : Nat) : Keeps 2013265919 s (State.reloadUnit s w) := by
  unfold State.reloadUnit
  extract_lets a0_0 a0_1 a0_2 a0_3
  have h_a0_1 : Keeps 2013265919 s a0_1 := (Keeps.each (Keeps.refl _ _) (fun t1 y1 k1 => (KeepsO.getD (KeepsO.step (State.imgRec_keeps ..) (by
      decide) k1) k1)))
  have h_a0_2 : Keeps 2013265919 s a0_2 := (Keeps.step (State.cardKept_keeps ..) (by decide) h_a0_1)
  have h_a0_3 : Keeps 2013265919 s a0_3 := (Keeps.ite (Keeps.step (State.reloadSlots_keeps ..) (by decide) h_a0_2) h_a0_2)
  exact (Keeps.step (State.unitReady_keeps ..) (by decide) (Keeps.ite (Keeps.step (State.legacyForce_keeps ..) (by decide) h_a0_3) h_a0_3))

end Sys2Proof.Machine
end

