-- ==== Sys2Proof/Laws/Keeps7.lean ====
section
/-! SUPPORT. What each operation of these files can change: DrkOps, Stamps, TreeOps, Tree, RegRead, UpdateOps, RegAccess, Faces, Derrick. The number is the mask of parts (Part.code). -/

namespace Sys2Proof.Machine

/-! ## DrkOps -/

theorem State.remoteWrite_keeps (s : State) (i : Nat) (origin : Nat) (ofs : Nat) (data : List Nat) : Keeps 1644168337 s (State.remoteWrite s i
    origin ofs data) := by
  unfold State.remoteWrite
  extract_lets a0_0 a0_1
  have h_a0_1 : Keeps 1644168337 s a0_1 := (Keeps.step (State.setDrk_keeps ..) (by decide) (Keeps.refl _ _))
  exact (Keeps.step (State.kmpPush_keeps ..) (by decide) h_a0_1)

theorem State.remoteHandshake_keeps (s : State) (w : Nat) (origin : Nat) (v : Nat) : Keeps 1644168337 s (State.remoteHandshake s w origin v) := by
  unfold State.remoteHandshake
  extract_lets a0_0 a0_1
  have h_a0_1 : Keeps 1644168337 s a0_1 := (Keeps.step (State.wr_keeps ..) (by decide) (Keeps.step (State.wr_keeps ..) (by decide) (Keeps.refl _ _)))
  exact (Keeps.ite (Keeps.step (State.fetch_keeps ..) (by decide) (Keeps.step (State.remoteWrite_keeps ..) (by decide) h_a0_1)) h_a0_1)

theorem State.remoteRead_keeps (s : State) (why : ReadFor) (i : Nat) (origin : Nat) (ofs : Nat) (len : Nat) (pre : List Nat) (spec : Bool) : KeepsP
    1644168337 s (State.remoteRead s why i origin ofs len pre spec) := by
  unfold State.remoteRead
  extract_lets a0_0 a0_1 a0_2 a0_3
  clear_value a0_0 a0_1 a0_2 a0_3
  split
  · exact (KeepsP.mk (Keeps.refl _ _))
  · exact (KeepsP.mk (Keeps.step (State.startRead_keeps ..) (by decide) (Keeps.refl _ _)))

theorem State.mapWrite_keeps (s : State) (i : Nat) (v : Nat) : Keeps 1644168337 s (State.mapWrite s i v) := by
  unfold State.mapWrite
  extract_lets a0_0 a0_1 a0_2 a0_3 a0_4
  have h_a0_0 : Keeps 1644168337 s a0_0 := (Keeps.step (State.wr_keeps ..) (by decide) (Keeps.step (State.wr_keeps ..) (by decide) (Keeps.refl _ _)))
  have h_a0_1 : Keeps 1644168337 s a0_1 := (Keeps.step (State.wr_keeps ..) (by decide) (Keeps.step (State.wr_keeps ..) (by decide) (Keeps.step
      (State.wr_keeps ..) (by decide) h_a0_0)))
  have h_a0_3 : Keeps 1644168337 s a0_3 := (Keeps.step (State.setDrk_keeps ..) (by decide) (Keeps.step (State.wr_keeps ..) (by decide) h_a0_1))
  exact (Keeps.ite (Keeps.ite (Keeps.step (State.fetch_keeps ..) (by decide) h_a0_3) h_a0_3) (Keeps.step (State.setDrk_keeps ..) (by decide) h_a0_3))

theorem State.drkAct_keeps (s : State) (w : Nat) (o : Nat) (v : Nat) (t : State) : Keeps 1644168337 t ((State.drkAct s w o v).run t) := by
  have h : KeepsA 1644168337 t (State.drkAct s w o v) := by
    unfold State.drkAct
    extract_lets a0_0
    exact (KeepsA.ite (KeepsA.intro (fun t1 k1 => (Keeps.each (Keeps.step (State.storeReg_keeps ..) (by decide) k1) (fun t2 y2 k2 => (Keeps.step
        (State.peerSync_keeps ..) (by decide) k2))))) (KeepsA.ite (KeepsA.intro (fun t3 k3 => (Keeps.ite k3 (Keeps.step (State.storeReg_keeps ..)
        (by decide) k3)))) (KeepsA.ite (KeepsA.intro (fun t4 k4 => (Keeps.step (State.mapWrite_keeps ..) (by decide) k4))) (KeepsA.of (fun t =>
        State.plainAct_keeps (t := t) ..) (by decide)))))
  exact h.act (Keeps.refl _ _)

/-! ## Stamps -/

theorem State.missRecord_keeps (s : State) (r : StampRec) : KeepsP 1612709889 s (State.missRecord s r) := by
  unfold State.missRecord
  exact (KeepsP.ite (KeepsP.mk (Keeps.step (State.event_keeps ..) (by decide) (Keeps.step (State.sticky_keeps ..) (by decide) (Keeps.refl _ _))))
      (KeepsP.mk (Keeps.step (State.setStamps_keeps ..) (by decide) (Keeps.refl _ _))))

theorem State.stampFreed_keeps (s : State) (ports : List Nat) : Keeps 2097280 s (State.stampFreed s ports) := by
  unfold State.stampFreed
  extract_lets a0_0 a0_1 a0_2 a0_3
  have h_a0_2 : Keeps 2097280 s a0_2 := (Keeps.step (State.setFab_keeps ..) (by decide) (Keeps.refl _ _))
  exact (Keeps.step (State.setStamps_keeps ..) (by decide) h_a0_2)

theorem txqPop_keeps (init : Nat) (spec : Bool) (s : State) : KeepsP 1612710017 s (txqPop init spec s) := by
  unfold txqPop
  extract_lets a0_0
  clear_value a0_0
  split
  · exact (KeepsP.mk (Keeps.refl _ _))
  · extract_lets a3_0
    clear_value a3_0
    refine (KeepsP.ite (KeepsP.mk (Keeps.ite (Keeps.refl _ _) (Keeps.step (State.specHit_keeps ..) (by decide) (Keeps.refl _ _)))) ?_)
    split
    · exact (KeepsP.mk (Keeps.refl _ _))
    · extract_lets a6_0
      have h_a6_0 : Keeps 1612710017 s a6_0 := (Keeps.step (State.wr_keeps ..) (by decide) (Keeps.step (State.wr_keeps ..) (by decide) (Keeps.step
          (State.wr_keeps ..) (by decide) (Keeps.refl _ _))))
      exact (KeepsP.mk (Keeps.step (State.stampFreed_keeps ..) (by decide) (Keeps.step (State.setStampQ_keeps ..) (by decide) h_a6_0)))

theorem execStampTxqPop_keeps (init : Initiator) (spec : Bool) (s : State) : KeepsR 1612711041 s (execStampTxqPop init spec s) := by
  unfold execStampTxqPop
  exact (KeepsR.next (Keeps.cmdRead (by decide) (by decide) (Keeps.step (fresh_keeps ..) (by decide) (Keeps.refl _ _)) (fun t0 k0 => (KeepsP.step
      (txqPop_keeps ..) (by decide) k0))))

theorem missPop_keeps (init : Nat) (spec : Bool) (s : State) : KeepsP 1612710017 s (missPop init spec s) := by
  unfold missPop
  extract_lets a0_0
  clear_value a0_0
  split
  · exact (KeepsP.mk (Keeps.refl _ _))
  · refine (KeepsP.ite (KeepsP.mk (Keeps.step (State.specHit_keeps ..) (by decide) (Keeps.refl _ _))) ?_)
    extract_lets a3_0 a3_1 a3_2
    have h_a3_0 : Keeps 1612710017 s a3_0 := (Keeps.step (State.wr_keeps ..) (by decide) (Keeps.step (State.wr_keeps ..) (by decide) (Keeps.step
        (State.wr_keeps ..) (by decide) (Keeps.refl _ _))))
    have h_a3_1 : Keeps 1612710017 s a3_1 := (Keeps.step (State.wr_keeps ..) (by decide) (Keeps.step (State.wr_keeps ..) (by decide) h_a3_0))
    exact (KeepsP.mk (Keeps.step (State.stampFreed_keeps ..) (by decide) (Keeps.step (State.setStamps_keeps ..) (by decide) h_a3_1)))

theorem execStampMissPop_keeps (init : Initiator) (spec : Bool) (s : State) : KeepsR 1612711041 s (execStampMissPop init spec s) := by
  unfold execStampMissPop
  exact (KeepsR.next (Keeps.cmdRead (by decide) (by decide) (Keeps.step (fresh_keeps ..) (by decide) (Keeps.refl _ _)) (fun t0 k0 => (KeepsP.step
      (missPop_keeps ..) (by decide) k0))))

theorem waitExpiry_keeps (p : Nat) (c : Nat) (s : State) : Keeps 1612710017 s (waitExpiry p c s) := by
  unfold waitExpiry
  refine (Keeps.ite (Keeps.refl _ _) ?_)
  extract_lets a0_0 a0_1
  have h_a0_1 : Keeps 1612710017 s a0_1 := (Keeps.step (State.setStamps_keeps ..) (by decide) (Keeps.refl _ _))
  clear_value a0_0 a0_1
  split
  · exact h_a0_1
  · split
    · exact h_a0_1
    · refine (Keeps.ite h_a0_1 ?_)
      extract_lets a5_0 a5_1
      have h_a5_0 : KeepsP 1612710017 s a5_0 := (KeepsP.step (State.missRecord_keeps ..) (by decide) h_a0_1)
      exact (Keeps.ite (Keeps.step (State.event_keeps ..) (by decide) (Keeps.step (State.sticky_keeps ..) (by decide) (Keeps.step
          (State.setQueue_keeps ..) (by decide) h_a5_0))) (Keeps.step (State.count_keeps ..) (by decide) (Keeps.step (State.setFab_keeps ..) (by
          decide) h_a5_0)))

theorem execStampWaitExpiry_keeps (p : Fin 16) (c : Fin 8) (s : State) : KeepsR 1612710017 s (execStampWaitExpiry p c s) := by
  unfold execStampWaitExpiry
  exact (KeepsR.next (Keeps.step (waitExpiry_keeps ..) (by decide) (Keeps.step (fresh_keeps ..) (by decide) (Keeps.refl _ _))))

theorem ageExpiry_keeps (p : Nat) (s : State) : Keeps 1612710017 s (ageExpiry p s) := by
  unfold ageExpiry
  split
  · exact (Keeps.refl _ _)
  · refine (Keeps.ite (Keeps.refl _ _) ?_)
    extract_lets a2_0
    have h_a2_0 : KeepsP 1612710017 s a2_0 := (KeepsP.step (State.missRecord_keeps ..) (by decide) (Keeps.refl _ _))
    exact (Keeps.ite (Keeps.step (State.sticky_keeps ..) (by decide) (Keeps.step (State.stampFreed_keeps ..) (by decide) (Keeps.step
        (State.setStampQ_keeps ..) (by decide) h_a2_0))) h_a2_0)

theorem execStampAgeExpiry_keeps (p : Fin 16) (s : State) : KeepsR 1612710017 s (execStampAgeExpiry p s) := by
  unfold execStampAgeExpiry
  exact (KeepsR.next (Keeps.step (ageExpiry_keeps ..) (by decide) (Keeps.step (fresh_keeps ..) (by decide) (Keeps.refl _ _))))

theorem State.stampReset_keeps (s : State) : Keeps 1612710017 s (State.stampReset s) := by
  unfold State.stampReset
  extract_lets a0_0
  have h_a0_0 : Keeps 1612710017 s a0_0 := by
    unfold a0_0
    refine (Keeps.each (Keeps.refl _ _) ?_)
    refine (fun t1 y1 k1 => ?_)
    refine (Keeps.each (Keeps.step (State.setStampQ_keeps ..) (by decide) k1) ?_)
    refine (fun t2 y2 k2 => ?_)
    extract_lets a3_0
    have h_a3_0 : KeepsP 1612710017 s a3_0 := (KeepsP.step (State.missRecord_keeps ..) (by decide) k2)
    exact (Keeps.ite h_a3_0 (Keeps.step (State.count_keeps ..) (by decide) h_a3_0))
  exact (Keeps.step (State.stampFreed_keeps ..) (by decide) h_a0_0)

/-! ## TreeOps -/

theorem State.seReset_keeps (s : State) (e : Nat) (fault : Bool) : Keeps 1611138193 s (State.seReset s e fault) := by
  unfold State.seReset
  extract_lets a0_0 a0_1 a0_2 a0_3
  have h_a0_1 : Keeps 1611138193 s a0_1 := (Keeps.step (State.setExq_keeps ..) (by decide) (Keeps.refl _ _))
  have h_a0_3 : Keeps 1611138193 s a0_3 := by
    unfold a0_3
    clear_value a0_0 a0_1
    split
    · exact h_a0_1
    · refine (Keeps.each ?_ ?_)
      · unfold a0_2
        split
        · exact (Keeps.ite (Keeps.ite (Keeps.step (State.endItem_keeps ..) (by decide) h_a0_1) (Keeps.step (State.endItem_keeps ..) (by decide)
            h_a0_1)) (Keeps.step (State.seLost_keeps ..) (by decide) h_a0_1))
        · exact (Keeps.step (State.seLost_keeps ..) (by decide) h_a0_1)
      · refine (fun t5 y5 k5 => ?_)
        unfold a0_2
        split
        · exact (Keeps.ite (Keeps.ite (Keeps.step (State.endItem_keeps ..) (by decide) k5) (Keeps.step (State.endItem_keeps ..) (by decide) k5))
            (Keeps.step (State.seLost_keeps ..) (by decide) k5))
        · exact (Keeps.step (State.seLost_keeps ..) (by decide) k5)
  exact (Keeps.each (Keeps.step (State.setBq_keeps ..) (by decide) h_a0_3) (fun t8 y8 k8 => (Keeps.step (State.sendDone_keeps ..) (by decide)
      (Keeps.step (State.buildSkip_keeps ..) (by decide) k8))))

theorem State.authReset_keeps (s : State) : Keeps 1610908817 s (State.authReset s) := by
  unfold State.authReset
  extract_lets a0_0 a0_1 a0_2 a0_3
  have h_a0_1 : Keeps 1610908817 s a0_1 := (Keeps.each (Keeps.refl _ _) (fun t1 y1 k1 => (Keeps.step (State.stopItem_keeps ..) (by decide)
      (Keeps.step (State.count_keeps ..) (by decide) k1))))
  have h_a0_2 : Keeps 1610908817 s a0_2 := (Keeps.each h_a0_1 (fun t2 y2 k2 => (Keeps.step (State.appendEnded_keeps ..) (by decide) (Keeps.step
      (State.count_keeps ..) (by decide) k2))))
  exact (Keeps.step (State.authWriteBack_keeps ..) (by decide) (Keeps.step (State.setFab_keeps ..) (by decide) h_a0_2))

theorem State.commitThrough_keeps (s : State) : Keeps 1678508737 s (State.commitThrough s) := by
  unfold State.commitThrough
  split
  · exact (Keeps.refl _ _)
  · exact (Keeps.step (State.setPhase_keeps ..) (by decide) (Keeps.refl _ _))
  · exact (Keeps.step (State.setPhase_keeps ..) (by decide) (Keeps.refl _ _))
  · exact (Keeps.step (State.splitStep_keeps ..) (by decide) (Keeps.refl _ _))
  · exact (Keeps.step (State.reclaimDone_keeps ..) (by decide) (Keeps.refl _ _))

theorem State.clearTable_keeps (s : State) (w : Nat) : Keeps 64 s (State.clearTable s w) := by
  unfold State.clearTable
  extract_lets a0_0 a0_1
  exact (Keeps.step (State.setBench_keeps ..) (by decide) (Keeps.refl _ _))

theorem State.meReset_keeps (s : State) (k : Nat) : Keeps 1610629121 s (State.meReset s k) := by
  unfold State.meReset
  exact (Keeps.ite (Keeps.refl _ _) (Keeps.ite (Keeps.step (State.normLost_keeps ..) (by decide) (Keeps.refl _ _)) (Keeps.step
      (State.meEnterBrake_keeps ..) (by decide) (Keeps.step (State.sticky_keeps ..) (by decide) (Keeps.step (State.normLost_keeps ..) (by decide)
      (Keeps.step (State.mapMe_keeps ..) (by decide) (Keeps.refl _ _)))))))

theorem State.drkReset_keeps (s : State) : Keeps 1644168337 s (State.drkReset s) := by
  unfold State.drkReset
  extract_lets a0_0 a0_1
  have h_a0_0 : Keeps 1644168337 s a0_0 := by
    unfold a0_0
    refine (Keeps.each (Keeps.refl _ _) ?_)
    refine (fun t1 y1 k1 => ?_)
    extract_lets a2_0 a2_1
    have h_a2_1 : Keeps 1644168337 s a2_1 := (Keeps.step (State.setPeerState_keeps ..) (by decide) (Keeps.step (State.peerAccount_keeps ..) (by
        decide) k1))
    exact (Keeps.ite k1 (Keeps.ite (Keeps.step (State.sticky_keeps ..) (by decide) h_a2_1) h_a2_1))
  exact (Keeps.step (State.setDrk_keeps ..) (by decide) h_a0_0)

theorem State.endWork_keeps (s : State) (w : Nat) (fault : Bool) : Keeps 1728047057 s (State.endWork s w fault) := by
  unfold State.endWork
  extract_lets a0_0 a0_1 a0_2 a0_3 a0_4 a0_5 a0_6 a0_7 a0_8 a0_9 a0_10 a0_11
  have h_a0_4 : Keeps 1728047057 s a0_4 := (Keeps.each (Keeps.step (State.canDropAll_keeps ..) (by decide) (Keeps.refl _ _)) (fun t1 y1 k1 =>
      (Keeps.step (State.objClear_keeps ..) (by decide) k1)))
  have h_a0_8 : Keeps 1728047057 s a0_8 := (Keeps.step (State.setGuard_keeps ..) (by decide) (Keeps.refl _ _))
  have h_a0_9 : Keeps 1728047057 s a0_9 := (Keeps.each h_a0_8 (fun t2 y2 k2 => (Keeps.step (State.setScState_keeps ..) (by decide) k2)))
  clear_value a0_0 a0_1 a0_2 a0_3 a0_4 a0_5 a0_6 a0_7 a0_8 a0_9 a0_10 a0_11
  split
  · exact (Keeps.step (State.loseSpiReads_keeps ..) (by decide) (Keeps.step (State.setHost_keeps ..) (by decide) (Keeps.step (State.stopRings_keeps
      ..) (by decide) (Keeps.refl _ _))))
  · exact (Keeps.step (State.hopDrain_keeps ..) (by decide) (Keeps.refl _ _))
  · exact (Keeps.step (State.setFab_keeps ..) (by decide) (Keeps.refl _ _))
  · exact (Keeps.step (State.discardDelta_keeps ..) (by decide) (Keeps.iter _ (Keeps.refl _ _) (fun t7 k7 => (Keeps.step (State.commitThrough_keeps
      ..) (by decide) k7))))
  · exact (Keeps.step (State.setTbl_keeps ..) (by decide) (Keeps.refl _ _))
  · exact (Keeps.step (State.setTbl_keeps ..) (by decide) (Keeps.refl _ _))
  · exact (Keeps.step (State.ethDisable_keeps ..) (by decide) (Keeps.step (State.mdioDrop_keeps ..) (by decide) (Keeps.refl _ _)))
  · exact (Keeps.step (State.setCanState_keeps ..) (by decide) (Keeps.step (State.setCan_keeps ..) (by decide) h_a0_4))
  · exact (Keeps.step (State.linStop_keeps ..) (by decide) (Keeps.step (State.linDropAll_keeps ..) (by decide) (Keeps.refl _ _)))
  · exact (Keeps.step (State.clearTable_keeps ..) (by decide) (Keeps.step (State.sigResetAll_keeps ..) (by decide) (Keeps.refl _ _)))
  · exact (Keeps.step (State.clearTable_keeps ..) (by decide) (Keeps.step (State.setGw_keeps ..) (by decide) (Keeps.refl _ _)))
  · exact (Keeps.step (State.clearTable_keeps ..) (by decide) (Keeps.refl _ _))
  · exact (Keeps.step (State.clearTable_keeps ..) (by decide) (Keeps.refl _ _))
  · exact (Keeps.step (State.clearTable_keeps ..) (by decide) (Keeps.refl _ _))
  · exact (Keeps.step (State.clearTable_keeps ..) (by decide) (Keeps.refl _ _))
  · exact (Keeps.step (State.clearTable_keeps ..) (by decide) (Keeps.each (Keeps.refl _ _) (fun t20 y20 k20 => (Keeps.step (State.wr_keeps ..) (by
      decide) k20))))
  · exact (Keeps.step (State.clearTable_keeps ..) (by decide) (Keeps.step (State.setGuard_keeps ..) (by decide) (Keeps.refl _ _)))
  · exact (Keeps.step (State.clearTable_keeps ..) (by decide) (Keeps.step (State.authReset_keeps ..) (by decide) (Keeps.refl _ _)))
  · exact (Keeps.each h_a0_9 (fun t24 y24 k24 => (Keeps.step (State.wr_keeps ..) (by decide) k24)))
  · exact (Keeps.step (State.seReset_keeps ..) (by decide) (Keeps.refl _ _))
  · exact (Keeps.step (State.axStop_keeps ..) (by decide) (Keeps.refl _ _))
  · exact (Keeps.step (State.axisLost_keeps ..) (by decide) (Keeps.refl _ _))
  · exact (Keeps.each (Keeps.refl _ _) (fun t29 y29 k29 => (Keeps.step (State.evDrop_keeps ..) (by decide) k29)))
  · exact (Keeps.step (State.stampReset_keeps ..) (by decide) (Keeps.refl _ _))
  · exact (Keeps.step (State.testEnd_keeps ..) (by decide) (Keeps.step (State.wr_keeps ..) (by decide) (Keeps.step (State.chLeave_keeps ..) (by
      decide) (Keeps.refl _ _))))
  · exact (Keeps.step (State.meReset_keeps ..) (by decide) (Keeps.refl _ _))
  · exact (Keeps.step (State.setSw_keeps ..) (by decide) (Keeps.refl _ _))
  · exact (Keeps.step (State.anOff_keeps ..) (by decide) (Keeps.refl _ _))
  · exact (Keeps.step (State.wakeAll_keeps ..) (by decide) (Keeps.refl _ _))
  · exact (Keeps.step (State.setTrust_keeps ..) (by decide) (Keeps.each (Keeps.refl _ _) (fun t37 y37 k37 => (Keeps.step (State.shadowZero_keeps ..)
      (by decide) k37))))
  · exact (Keeps.step (State.setTrust_keeps ..) (by decide) (Keeps.step (State.trmFree_keeps ..) (by decide) (Keeps.refl _ _)))
  · exact (Keeps.step (State.drkReset_keeps ..) (by decide) (Keeps.refl _ _))
  · exact (Keeps.refl _ _)
  · exact (Keeps.refl _ _)
  · exact (Keeps.refl _ _)
  · exact (Keeps.refl _ _)
  · exact (Keeps.refl _ _)
  · exact (Keeps.refl _ _)
  · exact (Keeps.refl _ _)
  · exact (Keeps.refl _ _)
  · exact (Keeps.refl _ _)
  · exact (Keeps.refl _ _)
  · exact (Keeps.refl _ _)
  · exact (Keeps.refl _ _)
  · exact (Keeps.refl _ _)
  · exact (Keeps.refl _ _)
  · exact (Keeps.refl _ _)
  · exact (Keeps.refl _ _)
  · exact (Keeps.refl _ _)
  · exact (Keeps.refl _ _)
  · exact (Keeps.refl _ _)
  · exact (Keeps.refl _ _)
  · exact (Keeps.refl _ _)
  · exact (Keeps.refl _ _)

theorem State.resetUnit_keeps (s : State) (w : Nat) (fault : Bool) : Keeps 1728047067 s (State.resetUnit s w fault) := by
  unfold State.resetUnit
  refine (Keeps.ite (Keeps.refl _ _) ?_)
  extract_lets a0_0 a0_1 a0_2
  have h_a0_0 : Keeps 1728047067 s a0_0 := (Keeps.step (State.endWork_keeps ..) (by decide) (Keeps.refl _ _))
  have h_a0_1 : Keeps 1728047067 s a0_1 := (Keeps.step (State.resetFields_keeps ..) (by decide) h_a0_0)
  have h_a0_2 : Keeps 1728047067 s a0_2 := (Keeps.step (State.setFans_keeps ..) (by decide) h_a0_1)
  exact (Keeps.step (State.wr_keeps ..) (by decide) h_a0_2)

theorem State.unitReset_keeps (s : State) (w : Nat) (fault : Bool) : Keeps 1728047067 s (State.unitReset s w fault) := by
  unfold State.unitReset
  extract_lets a0_0
  have h_a0_0 : Keeps 1728047067 s a0_0 := (Keeps.each (Keeps.refl _ _) (fun t1 y1 k1 => (Keeps.step (State.resetUnit_keeps ..) (by decide) k1)))
  exact (Keeps.step (State.axisSources_keeps ..) (by decide) (Keeps.step (State.wr_keeps ..) (by decide) h_a0_0))

theorem State.urstSettle_keeps (s : State) : Keeps 1 s (State.urstSettle s) := by
  unfold State.urstSettle
  exact (Keeps.each (Keeps.refl _ _) (fun t0 y0 k0 => (Keeps.ite k0 (Keeps.step (State.wr_keeps ..) (by decide) k0))))

theorem State.signalBack_keeps (s : State) (i : Nat) : Keeps 1611137025 s (State.signalBack s i) := by
  unfold State.signalBack
  exact (Keeps.ite (Keeps.refl _ _) (Keeps.step (State.sigInit_keeps ..) (by decide) (Keeps.refl _ _)))

theorem State.quietEntry_keeps (s : State) (e : NewEntry) : Keeps 64 s (State.quietEntry s e) := by
  unfold State.quietEntry
  exact (Keeps.each (Keeps.refl _ _) (fun t0 y0 k0 => (Keeps.each k0 (fun t1 y1 k1 => (Keeps.step (State.setEnt_keeps ..) (by decide) k1)))))

theorem State.imgQuiet_keeps (s : State) (r : ImgRec) : Keeps 1611432147 s (State.imgQuiet s r) := by
  unfold State.imgQuiet
  split
  · exact (Keeps.step (State.quietEntry_keeps ..) (by decide) (Keeps.refl _ _))
  · extract_lets a2_0 a2_1
    clear_value a2_0 a2_1
    split
    · exact (KeepsO.getD (KeepsO.step (State.imgByte_keeps ..) (by decide) (Keeps.refl _ _)) (Keeps.refl _ _))
    · extract_lets a5_0 a5_1
      have h_a5_0 : Keeps 1611432147 s a5_0 := (Keeps.step (State.bufBytes_keeps ..) (by decide) (Keeps.refl _ _))
      exact (Keeps.ite (Keeps.step (State.quietEntry_keeps ..) (by decide) h_a5_0) h_a5_0)
  · exact (Keeps.refl _ _)

theorem State.reloadSignals_keeps (s : State) : Keeps 1649403347 s (State.reloadSignals s) := by
  unfold State.reloadSignals
  extract_lets a0_0 a0_1 a0_2 a0_3 a0_4
  have h_a0_1 : Keeps 1649403347 s a0_1 := (Keeps.each (Keeps.refl _ _) (fun t1 y1 k1 => (Keeps.step (State.imgQuiet_keeps ..) (by decide) k1)))
  have h_a0_3 : Keeps 1649403347 s a0_3 := (Keeps.each h_a0_1 (fun t2 y2 k2 => (Keeps.step (State.signalBack_keeps ..) (by decide) k2)))
  have h_a0_4 : Keeps 1649403347 s a0_4 := (Keeps.each h_a0_3 (fun t3 y3 k3 => (Keeps.ite k3 (Keeps.step (State.wr_keeps ..) (by decide) k3))))
  exact (Keeps.step (State.unitReady_keeps ..) (by decide) h_a0_4)

theorem State.reloaded_keeps (s : State) (w : Nat) : Keeps 2013265919 s (State.reloaded s w) := by
  unfold State.reloaded
  refine (Keeps.ite (Keeps.refl _ _) ?_)
  extract_lets a0_0 a0_1
  have h_a0_0 : Keeps 2013265919 s a0_0 := (Keeps.ite (Keeps.step (State.kmpOnly_keeps ..) (by decide) (Keeps.refl _ _)) (Keeps.ite (Keeps.step
      (State.wr_keeps ..) (by decide) (Keeps.refl _ _)) (Keeps.refl _ _)))
  have h_a0_1 : Keeps 2013265919 s a0_1 := (Keeps.ite (Keeps.step (State.reloadSignals_keeps ..) (by decide) h_a0_0) (Keeps.step
      (State.reloadUnit_keeps ..) (by decide) h_a0_0))
  exact (Keeps.step (State.parkCheck_keeps ..) (by decide) (Keeps.step (State.axisSources_keeps ..) (by decide) (Keeps.step (State.urstSettle_keeps
      ..) (by decide) h_a0_1)))

/-! ## Tree -/

theorem execUnitReset_keeps (init : Initiator) (w : BitVec 12) (lock : Bool) (s : State) : KeepsR 1728047067 s (execUnitReset init w lock s) := by
  unfold execUnitReset
  extract_lets a0_0 a0_1
  exact (KeepsR.next (Keeps.cmdWrite (by decide) (Keeps.step (fresh_keeps ..) (by decide) (Keeps.refl _ _)) (fun t1 k1 => (Keeps.step
      (State.urstSettle_keeps ..) (by decide) (Keeps.step (State.unitReset_keeps ..) (by decide) (Keeps.step (State.wr_keeps ..) (by decide) k1))))
      (fun _ => Keeps.step (State.endAccess_keeps ..) (by decide) (Keeps.step (State.violate_keeps ..) (by decide) (Keeps.step (fresh_keeps ..) (by
      decide) (Keeps.refl _ _))))))

theorem execUnitReloadComplete_keeps (w : BitVec 12) (s : State) : KeepsR 2013265919 s (execUnitReloadComplete w s) := by
  unfold execUnitReloadComplete
  exact (KeepsR.next (Keeps.step (State.reloaded_keeps ..) (by decide) (Keeps.step (fresh_keeps ..) (by decide) (Keeps.refl _ _))))

theorem State.safeEntry_keeps (s : State) (w : Nat) : Keeps 1644447121 s (State.safeEntry s w) := by
  unfold State.safeEntry
  extract_lets a0_0 a0_1
  have h_a0_1 : Keeps 1644447121 s a0_1 := (Keeps.step (State.chOutput_keeps ..) (by decide) (Keeps.step (State.chEval_keeps ..) (by decide)
      (Keeps.refl _ _)))
  clear_value a0_0 a0_1
  split
  · exact (Keeps.ite (Keeps.step (loopWrite_keeps ..) (by decide) (Keeps.refl _ _)) (Keeps.refl _ _))
  · exact (Keeps.ite (Keeps.step (State.hbApply_keeps ..) (by decide) h_a0_1) h_a0_1)
  · exact (Keeps.step (State.hbApply_keeps ..) (by decide) (Keeps.refl _ _))
  · exact (Keeps.refl _ _)

theorem State.toSafe_keeps (s : State) (w : Nat) : Keeps 1648641425 s (State.toSafe s w) := by
  unfold State.toSafe
  refine (Keeps.ite (Keeps.refl _ _) ?_)
  extract_lets a0_0
  have h_a0_0 : Keeps 1648641425 s a0_0 := (Keeps.ite (Keeps.step (State.mapMe_keeps ..) (by decide) (Keeps.step (State.meCommand_keeps ..) (by
      decide) (Keeps.refl _ _))) (Keeps.refl _ _))
  exact (Keeps.step (State.axisSources_keeps ..) (by decide) (Keeps.step (State.safeEntry_keeps ..) (by decide) (Keeps.step (State.wr_keeps ..) (by
      decide) h_a0_0)))

theorem State.loseParity_keeps (s : State) (c : Nat) : Keeps 1 s (State.loseParity s c) := by
  unfold State.loseParity
  exact (Keeps.ite (Keeps.refl _ _) (Keeps.step (State.setParity_keeps ..) (by decide) (Keeps.refl _ _)))

theorem scrub_keeps (w : Nat) (k : Nat) (mismatch : Bool) (s : State) : Keeps 1648641425 s (scrub w k mismatch s) := by
  unfold scrub
  refine (Keeps.ite (Keeps.refl _ _) ?_)
  extract_lets a0_0
  have h_a0_0 : Keeps 1648641425 s a0_0 := (Keeps.ite (Keeps.step (State.loseParity_keeps ..) (by decide) (Keeps.refl _ _)) (Keeps.refl _ _))
  exact (Keeps.ite (Keeps.step (State.toSafe_keeps ..) (by decide) (Keeps.step (State.recordFault_keeps ..) (by decide) (Keeps.step
      (State.sticky_keeps ..) (by decide) h_a0_0))) h_a0_0)

theorem execScrubCheck_keeps (w : BitVec 12) (k : Fin 512) (mismatch : Bool) (s : State) : KeepsR 1648641425 s (execScrubCheck w k mismatch s) := by
  unfold execScrubCheck
  exact (KeepsR.next (Keeps.step (scrub_keeps ..) (by decide) (Keeps.step (fresh_keeps ..) (by decide) (Keeps.refl _ _))))

theorem State.gather_keeps (s : State) (g : Nat) : Keeps 1 s (State.gather s g) := by
  unfold State.gather
  extract_lets a0_0 a0_1
  have h_a0_1 : Keeps 1 s a0_1 := (Keeps.step (State.wr_keeps ..) (by decide) (Keeps.step (State.wr_keeps ..) (by decide) (Keeps.step
      (State.wr_keeps ..) (by decide) (Keeps.refl _ _))))
  exact (Keeps.step (State.wr_keeps ..) (by decide) (Keeps.step (State.wr_keeps ..) (by decide) h_a0_1))

theorem summaryUp_keeps (w : Nat) (s : State) : Keeps 1 s (summaryUp w s) := by
  unfold summaryUp
  refine (Keeps.ite (Keeps.refl _ _) ?_)
  split
  · exact (Keeps.refl _ _)
  · exact (Keeps.step (State.gather_keeps ..) (by decide) (Keeps.refl _ _))

theorem execSummaryPropagate_keeps (w : BitVec 12) (s : State) : KeepsR 536870913 s (execSummaryPropagate w s) := by
  unfold execSummaryPropagate
  exact (KeepsR.next (Keeps.step (summaryUp_keeps ..) (by decide) (Keeps.step (fresh_keeps ..) (by decide) (Keeps.refl _ _))))

theorem spoilPop_keeps (init : Nat) (spec : Bool) (s : State) : KeepsP 1610613761 s (spoilPop init spec s) := by
  unfold spoilPop
  extract_lets n idle
  refine KeepsP.ite (KeepsP.mk (Keeps.ite (Keeps.refl _ _) (Keeps.step (State.specHit_keeps ..) (by decide) (Keeps.refl _ _)))) ?_
  split
  · exact KeepsP.mk (Keeps.step (State.wr_keeps ..) (by decide) (Keeps.refl _ _))
  · next r l e =>
    refine KeepsP.mk (Keeps.setFlt (Keeps.step (State.wr_keeps ..) (by decide) (Keeps.refl _ _)) (by decide) fun hc => ⟨hc.2.2.2.2.1, ?_,
        hc.2.2.2.2.2.2⟩)
    have h : s.flt.spoil.length ≤ 1024 := hc.2.2.2.2.2.1
    rw [e, List.length_cons] at h
    exact Nat.le_of_succ_le h

theorem execSpoilPop_keeps (init : Initiator) (spec : Bool) (s : State) : KeepsR 1610613761 s (execSpoilPop init spec s) := by
  unfold execSpoilPop
  exact (KeepsR.next (Keeps.cmdRead (by decide) (by decide) (Keeps.step (fresh_keeps ..) (by decide) (Keeps.refl _ _)) (fun t0 k0 => (KeepsP.step
      (spoilPop_keeps ..) (by decide) k0))))

theorem troublePop_keeps (init : Nat) (spec : Bool) (s : State) : KeepsP 1610613761 s (troublePop init spec s) := by
  unfold troublePop
  extract_lets n idle
  refine KeepsP.ite (KeepsP.mk (Keeps.ite (Keeps.refl _ _) (Keeps.step (State.specHit_keeps ..) (by decide) (Keeps.refl _ _)))) ?_
  split
  · exact KeepsP.mk (Keeps.step (State.wr_keeps ..) (by decide) (Keeps.refl _ _))
  · next r l e =>
    refine KeepsP.mk (Keeps.setFlt (Keeps.step (State.wr_keeps ..) (by decide) (Keeps.refl _ _)) (by decide) fun hc => ⟨?_, hc.2.2.2.2.2⟩)
    have h : s.flt.trouble.length ≤ 64 := hc.2.2.2.2.1
    rw [e, List.length_cons] at h
    exact Nat.le_of_succ_le h

theorem execTroublePop_keeps (init : Initiator) (spec : Bool) (s : State) : KeepsR 1610613761 s (execTroublePop init spec s) := by
  unfold execTroublePop
  exact (KeepsR.next (Keeps.cmdRead (by decide) (by decide) (Keeps.step (fresh_keeps ..) (by decide) (Keeps.refl _ _)) (fun t0 k0 => (KeepsP.step
      (troublePop_keeps ..) (by decide) k0))))

theorem State.hostLeases_keeps (s : State) : Keeps 1644688785 s (State.hostLeases s) := by
  unfold State.hostLeases
  refine (Keeps.each (Keeps.refl _ _) ?_)
  refine (fun t0 y0 k0 => ?_)
  extract_lets a1_0 a1_1
  have h_a1_1 : Keeps 1644688785 s a1_1 := (Keeps.step (cellLease_keeps ..) (by decide) k0)
  exact (Keeps.iter _ h_a1_1 (fun t2 k2 => (Keeps.step (descLease_keeps ..) (by decide) (Keeps.step (descLease_keeps ..) (by decide) k2))))

theorem State.revokeUnit_keeps (s : State) (w : Nat) : Keeps 1644688785 s (State.revokeUnit s w) := by
  unfold State.revokeUnit
  extract_lets a0_0
  clear_value a0_0
  split
  · exact (Keeps.step (cellLease_keeps ..) (by decide) (Keeps.refl _ _))
  · exact (Keeps.step (cellLease_keeps ..) (by decide) (Keeps.refl _ _))
  · exact (Keeps.step (State.hostLeases_keeps ..) (by decide) (Keeps.refl _ _))
  · exact (Keeps.each (Keeps.refl _ _) (fun t5 y5 k5 => (Keeps.ite (Keeps.step (keyLease_keeps ..) (by decide) k5) (Keeps.ite (Keeps.step
      (keyLease_keeps ..) (by decide) k5) k5))))
  · exact (Keeps.ite (Keeps.step (cellLease_keeps ..) (by decide) (Keeps.refl _ _)) (Keeps.refl _ _))
  · exact (Keeps.refl _ _)

theorem unitWatchdog_keeps (w : Nat) (s : State) : Keeps 1728051163 s (unitWatchdog w s) := by
  unfold unitWatchdog
  extract_lets a0_0 a0_1 a0_2
  have h_a0_1 : Keeps 1728051163 s a0_1 := (Keeps.step (State.recordFault_keeps ..) (by decide) (Keeps.step (State.sticky_keeps ..) (by decide)
      (Keeps.refl _ _)))
  have h_a0_2 : Keeps 1728051163 s a0_2 := (Keeps.step (State.axisSources_keeps ..) (by decide) (Keeps.step (State.wr_keeps ..) (by decide) h_a0_1))
  exact (Keeps.ite (Keeps.refl _ _) (Keeps.ite h_a0_1 (Keeps.step (State.unitReset_keeps ..) (by decide) (Keeps.step (State.revokeUnit_keeps ..) (by
      decide) h_a0_2))))

theorem execUnitWatchdogExpiry_keeps (w : BitVec 12) (s : State) : KeepsR 1728051163 s (execUnitWatchdogExpiry w s) := by
  unfold execUnitWatchdogExpiry
  exact (KeepsR.next (Keeps.step (unitWatchdog_keeps ..) (by decide) (Keeps.step (fresh_keeps ..) (by decide) (Keeps.refl _ _))))

/-! ## RegRead -/

theorem State.takeHold_keeps (s : State) (holder : Nat) (w : Nat) (o : Nat) (idx : Nat) (v : Nat) : Keeps 4 s (State.takeHold s holder w o idx v) :=
    by
  unfold State.takeHold
  exact (Keeps.setHolds (Keeps.refl _ _) (by decide) (fun hc => insertAt_sorted hc.2.2.1 _ _))

theorem State.liveByte_keeps (s : State) (holder : Nat) (w : Nat) (o : Nat) (len : Nat) (idx : Nat) (ofs : Nat) (v : Nat) : KeepsP 4 s
    (State.liveByte s holder w o len idx ofs v) := by
  unfold State.liveByte
  refine (KeepsP.ite (KeepsP.mk (Keeps.step (State.takeHold_keeps ..) (by decide) (Keeps.refl _ _))) ?_)
  split
  · exact (KeepsP.mk (Keeps.refl _ _))
  · exact (KeepsP.mk (Keeps.refl _ _))

theorem State.tallyByte_keeps (s : State) (init : Nat) (holder : Nat) (w : Nat) (f : Field) (idx : Nat) (ofs : Nat) (quiet : Bool) (spec : Bool) :
    KeepsP 1610612741 s (State.tallyByte s init holder w f idx ofs quiet spec) := by
  unfold State.tallyByte
  extract_lets a0_0 a0_1
  clear_value a0_0 a0_1
  refine (KeepsP.ite (KeepsP.mk (Keeps.ite (Keeps.step (State.specHit_keeps ..) (by decide) (Keeps.refl _ _)) (Keeps.refl _ _))) ?_)
  refine (KeepsP.ite (KeepsP.mk (Keeps.step (State.wr_keeps ..) (by decide) (Keeps.step (State.takeHold_keeps ..) (by decide) (Keeps.refl _ _)))) ?_)
  split
  · exact (KeepsP.mk (Keeps.refl _ _))
  · exact (KeepsP.mk (Keeps.refl _ _))

theorem State.popByte_keeps (s : State) (init : Nat) (w : Nat) (ofs : Nat) (spec : Bool) : KeepsOP 1612743825 s (State.popByte s init w ofs spec) :=
    by
  unfold State.popByte
  split
  · exact (KeepsOP.ite (KeepsOP.some (KeepsP.step (spoilPop_keeps ..) (by decide) (Keeps.refl _ _))) (KeepsOP.ite (KeepsOP.some (KeepsP.step
      (troublePop_keeps ..) (by decide) (Keeps.refl _ _))) KeepsOP.none))
  · exact (KeepsOP.ite (KeepsOP.some (KeepsP.step (fifoPop_keeps ..) (by decide) (Keeps.refl _ _))) (KeepsOP.ite (KeepsOP.some (KeepsP.step
      (fifoPop_keeps ..) (by decide) (Keeps.refl _ _))) KeepsOP.none))
  · exact (KeepsOP.ite (KeepsOP.some (KeepsP.step (txqPop_keeps ..) (by decide) (Keeps.refl _ _))) (KeepsOP.ite (KeepsOP.some (KeepsP.step
      (missPop_keeps ..) (by decide) (Keeps.refl _ _))) KeepsOP.none))
  · exact (KeepsOP.ite (KeepsOP.some (KeepsP.step (State.trmRead_keeps ..) (by decide) (Keeps.refl _ _))) KeepsOP.none)
  · exact KeepsOP.none

theorem State.byteRead_keeps (s : State) (init : Nat) (holder : Nat) (w : Nat) (ofs : Nat) (u : Unit) (spec : Bool) : KeepsP 1881179285 s
    (State.byteRead s init holder w ofs u spec) := by
  unfold State.byteRead
  refine (KeepsP.ite (KeepsP.ite (KeepsP.step (State.liveByte_keeps ..) (by decide) (Keeps.refl _ _)) (KeepsP.mk (Keeps.refl _ _))) ?_)
  refine (KeepsP.ite (KeepsP.mk (Keeps.refl _ _)) ?_)
  split
  · next p0_0 e0 =>
      have q0 := KeepsOP.getP (T := 1881179285) (a := s) (KeepsOP.step (State.popByte_keeps ..) (by decide) (Keeps.refl _ _)) e0
      exact (KeepsP.mk q0)
  · split
    · exact (KeepsP.mk (Keeps.refl _ _))
    · split
      · exact (KeepsP.mk (Keeps.refl _ _))
      · extract_lets a6_0 a6_1 a6_2 a6_3 a6_4
        have h_a6_4 : Keeps 1881179285 s a6_4 := (Keeps.ite (Keeps.refl _ _) (KeepsQ.step (State.draw_keeps ..) (by decide) (Keeps.refl _ _)))
        exact (KeepsP.ite (KeepsP.step (State.tallyByte_keeps ..) (by decide) (Keeps.refl _ _)) (KeepsP.ite (KeepsP.step (State.liveByte_keeps ..)
            (by decide) (Keeps.refl _ _)) (KeepsP.ite (KeepsP.mk (KeepsQ.step (State.draw_keeps ..) (by decide) (Keeps.refl _ _))) (KeepsP.ite
            (KeepsP.mk h_a6_4) (KeepsP.mk (Keeps.refl _ _))))))

/-! ## UpdateOps -/

theorem State.stgReject_keeps (s : State) (cause : Nat) : Keeps 1610612737 s (State.stgReject s cause) := by
  unfold State.stgReject
  exact (Keeps.step (State.event_keeps ..) (by decide) (Keeps.step (State.wr_keeps ..) (by decide) (Keeps.step (State.sticky_keeps ..) (by decide)
      (Keeps.refl _ _))))

theorem State.stgDiscard_keeps (s : State) : Keeps 16777217 s (State.stgDiscard s) := by
  unfold State.stgDiscard
  exact (Keeps.step (State.setStg_keeps ..) (by decide) (Keeps.step (State.setUpd_keeps ..) (by decide) (Keeps.refl _ _)))

theorem State.endBlock_keeps (s : State) (b : UpdBlock) (d : Disp) (reason : Nat) : Keeps 1610613761 s (State.endBlock s b d reason) := by
  unfold State.endBlock
  extract_lets a0_0
  have h_a0_0 : Keeps 1610613761 s a0_0 := by
    unfold a0_0
    split
    · exact (Keeps.step (State.count_keeps ..) (by decide) (Keeps.refl _ _))
    · exact (Keeps.step (State.count_keeps ..) (by decide) (Keeps.refl _ _))
    · exact (Keeps.step (State.count_keeps ..) (by decide) (Keeps.refl _ _))
    · exact (Keeps.step (State.count_keeps ..) (by decide) (Keeps.refl _ _))
  exact (Keeps.step (State.endOther_keeps ..) (by decide) h_a0_0)

theorem State.stageBlock_keeps (s : State) (b : UpdBlock) (flashOk : Bool) : KeepsP 1627390977 s (State.stageBlock s b flashOk) := by
  unfold State.stageBlock
  extract_lets a0_0 a0_1 a0_2 a0_3 a0_4 a0_5
  have h_a0_3 : Keeps 1627390977 s a0_3 := (Keeps.step (State.endBlock_keeps ..) (by decide) (Keeps.refl _ _))
  have h_a0_5 : Keeps 1627390977 s a0_5 := (Keeps.step (State.endBlock_keeps ..) (by decide) (Keeps.refl _ _))
  clear_value a0_0 a0_1 a0_2 a0_3 a0_4 a0_5
  refine (KeepsP.ite ?_ (KeepsP.ite (KeepsP.mk (Keeps.step (State.endBlock_keeps ..) (by decide) (Keeps.refl _ _))) (KeepsP.ite (KeepsP.ite
      (KeepsP.ite (KeepsP.mk (Keeps.step (State.setStg_keeps ..) (by decide) (Keeps.refl _ _))) (KeepsP.mk (Keeps.step (State.stgReject_keeps ..)
      (by decide) (Keeps.step (State.stgDiscard_keeps ..) (by decide) (Keeps.refl _ _))))) (KeepsP.ite (KeepsP.mk (Keeps.step (State.endBlock_keeps
      ..) (by decide) (Keeps.refl _ _))) (KeepsP.ite (KeepsP.mk (Keeps.step (State.stgDiscard_keeps ..) (by decide) (Keeps.step
      (State.endBlock_keeps ..) (by decide) (Keeps.refl _ _)))) (KeepsP.mk (Keeps.step (State.setUpd_keeps ..) (by decide) h_a0_3))))) (KeepsP.ite
      (KeepsP.mk (Keeps.ite (Keeps.step (State.setStg_keeps ..) (by decide) h_a0_5) h_a0_5)) (KeepsP.mk (Keeps.refl _ _))))))
  refine (KeepsP.ite (KeepsP.mk (Keeps.refl _ _)) ?_)
  split
  · extract_lets a2_0
    have h_a2_0 : Keeps 1627390977 s a2_0 := (Keeps.step (State.setUpd_keeps ..) (by decide) (Keeps.step (State.stgReject_keeps ..) (by decide)
        (Keeps.step (State.endBlock_keeps ..) (by decide) (Keeps.refl _ _))))
    exact (KeepsP.mk (Keeps.ite h_a2_0 (Keeps.step (State.setStg_keeps ..) (by decide) h_a2_0)))
  · exact (KeepsP.ite (KeepsP.mk (Keeps.step (State.endBlock_keeps ..) (by decide) (Keeps.refl _ _))) (KeepsP.mk (Keeps.step (State.setStg_keeps ..)
      (by decide) (Keeps.step (State.setUpd_keeps ..) (by decide) h_a0_3))))

theorem State.sendBlock_keeps (s : State) (n : Nat) (b : UpdBlock) : Keeps 1644168337 s (State.sendBlock s n b) := by
  unfold State.sendBlock
  refine (Keeps.ite (Keeps.refl _ _) ?_)
  extract_lets a0_0 a0_1 a0_2
  clear_value a0_0 a0_1 a0_2
  refine (Keeps.each (Keeps.refl _ _) ?_)
  refine (fun t1 y1 k1 => ?_)
  split
  · exact (Keeps.step (State.kmpPush_keeps ..) (by decide) k1)

theorem State.forwardOne_keeps (s : State) : Keeps 1660945553 s (State.forwardOne s) := by
  unfold State.forwardOne
  split
  · refine (Keeps.ite (Keeps.refl _ _) ?_)
    extract_lets a1_0 a1_1
    exact (Keeps.step (State.sendBlock_keeps ..) (by decide) (Keeps.step (State.setUpd_keeps ..) (by decide) (Keeps.refl _ _)))
  · exact (Keeps.refl _ _)

theorem State.forwardFlow_keeps (s : State) : Keeps 1660945553 s (State.forwardFlow s) := by
  unfold State.forwardFlow
  exact (Keeps.iter _ (Keeps.refl _ _) (fun t0 k0 => (Keeps.step (State.forwardOne_keeps ..) (by decide) k0)))

theorem State.forwardBlock_keeps (s : State) (b : UpdBlock) : Keeps 1660945553 s (State.forwardBlock s b) := by
  unfold State.forwardBlock
  extract_lets a0_0 a0_1
  exact (Keeps.ite (Keeps.refl _ _) (Keeps.step (State.forwardFlow_keeps ..) (by decide) (Keeps.step (State.setUpd_keeps ..) (by decide) (Keeps.refl
      _ _))))

theorem State.ackBlock_keeps (s : State) (b : UpdBlock) (covered : Bool) : Keeps 1728054417 s (State.ackBlock s b covered) := by
  unfold State.ackBlock
  extract_lets a0_0 a0_1 a0_2 a0_3 a0_4
  have h_a0_3 : Keeps 1728054417 s a0_3 := (Keeps.step (State.setUpd_keeps ..) (by decide) (Keeps.refl _ _))
  clear_value a0_0 a0_1 a0_2 a0_3 a0_4
  split
  · exact (Keeps.ite (Keeps.step (State.kmpPush_keeps ..) (by decide) h_a0_3) h_a0_3)
  · exact (Keeps.step (State.setLeg_keeps ..) (by decide) h_a0_3)

theorem State.takeBlock_keeps (s : State) (b : UpdBlock) (flashOk : Bool) : Keeps 1728054417 s (State.takeBlock s b flashOk) := by
  unfold State.takeBlock
  refine (Keeps.ite (Keeps.step (State.endBlock_keeps ..) (by decide) (Keeps.refl _ _)) ?_)
  extract_lets a0_0
  have h_a0_0 : KeepsP 1728054417 s a0_0 := (KeepsP.step (State.stageBlock_keeps ..) (by decide) (Keeps.refl _ _))
  exact (Keeps.step (State.ackBlock_keeps ..) (by decide) (Keeps.step (State.forwardBlock_keeps ..) (by decide) h_a0_0))

theorem State.streamDead_keeps (s : State) (k : Nat) : Keeps 1660945553 s (State.streamDead s k) := by
  unfold State.streamDead
  extract_lets a0_0 a0_1 a0_2
  have h_a0_2 : Keeps 1660945553 s a0_2 := (Keeps.step (State.setUpd_keeps ..) (by decide) (Keeps.refl _ _))
  exact (Keeps.step (State.forwardFlow_keeps ..) (by decide) (Keeps.each h_a0_2 (fun t1 y1 k1 => (Keeps.step (State.endBlock_keeps ..) (by decide)
      k1))))

theorem State.typeRuns_keeps (s : State) (ty : Nat) : Keeps 16777216 s (State.typeRuns s ty) := by
  unfold State.typeRuns
  extract_lets a0_0 a0_1
  exact (Keeps.step (State.setUpd_keeps ..) (by decide) (Keeps.refl _ _))

theorem State.fwFail_keeps (s : State) : Keeps 1610612737 s (State.fwFail s) := by
  unfold State.fwFail
  exact (Keeps.step (State.sticky_keeps ..) (by decide) (Keeps.refl _ _))

theorem State.inPlace_keeps (s : State) (ty : Nat) (w : Nat) (fails : List Nat) : Keeps 1627389953 s (State.inPlace s ty w fails) := by
  unfold State.inPlace
  exact (Keeps.ite (Keeps.step (State.fwFail_keeps ..) (by decide) (Keeps.step (State.setUpd_keeps ..) (by decide) (Keeps.refl _ _))) (Keeps.step
      (State.typeRuns_keeps ..) (by decide) (Keeps.step (State.setUpd_keeps ..) (by decide) (Keeps.refl _ _))))

theorem State.keepPorts_keeps (s : State) (ty : Nat) : Keeps 16777216 s (State.keepPorts s ty) := by
  unfold State.keepPorts
  split
  · exact (Keeps.refl _ _)
  · exact (Keeps.step (State.setUpd_keeps ..) (by decide) (Keeps.refl _ _))

theorem State.dspStep_keeps (s : State) (p : Nat) (fails : List Nat) : Keeps 1661207953 s (State.dspStep s p fails) := by
  unfold State.dspStep
  extract_lets a0_0 a0_1 a0_2 a0_3
  have h_a0_1 : Keeps 1661207953 s a0_1 := (Keeps.step (State.inPlace_keeps ..) (by decide) (Keeps.step (State.keepPorts_keeps ..) (by decide)
      (Keeps.refl _ _)))
  have h_a0_3 : Keeps 1661207953 s a0_3 := (Keeps.ite h_a0_1 (Keeps.step (State.setUpd_keeps ..) (by decide) h_a0_1))
  exact (Keeps.step (retrain_keeps ..) (by decide) h_a0_3)

theorem State.beginStep_keeps (s : State) : Keeps 1628464711 s (State.beginStep s) := by
  unfold State.beginStep
  split
  · extract_lets a1_0 a1_1
    have h_a1_0 : Keeps 1628464711 s a1_0 := (Keeps.step (State.typeRuns_keeps ..) (by decide) (Keeps.step (State.mpWarm_keeps ..) (by decide)
        (Keeps.refl _ _)))
    exact (Keeps.ite h_a1_0 (Keeps.step (State.wr_keeps ..) (by decide) (Keeps.step (State.setUpd_keeps ..) (by decide) h_a1_0)))
  · exact (Keeps.refl _ _)

theorem State.nextStep_keeps (s : State) : Keeps 1628464711 s (State.nextStep s) := by
  unfold State.nextStep
  split
  · exact (Keeps.refl _ _)
  · exact (Keeps.step (State.beginStep_keeps ..) (by decide) (Keeps.step (State.setUpd_keeps ..) (by decide) (Keeps.refl _ _)))

theorem State.endFwStep_keeps (s : State) (x : ActStep) (fails : List Nat) : KeepsO 1661207953 s (State.endFwStep s x fails) := by
  unfold State.endFwStep
  split
  · exact (KeepsO.some (Keeps.ite (Keeps.step (State.fwFail_keeps ..) (by decide) (Keeps.refl _ _)) (Keeps.step (State.typeRuns_keeps ..) (by
      decide) (Keeps.step (State.setUpd_keeps ..) (by decide) (Keeps.refl _ _)))))
  · exact (KeepsO.some (Keeps.step (State.inPlace_keeps ..) (by decide) (Keeps.refl _ _)))
  · exact (KeepsO.some (Keeps.step (State.inPlace_keeps ..) (by decide) (Keeps.refl _ _)))
  · extract_lets a4_0 a4_1
    have h_a4_0 : Keeps 1661207953 s a4_0 := (Keeps.step (State.inPlace_keeps ..) (by decide) (Keeps.refl _ _))
    exact (KeepsO.some (Keeps.step (State.setUpd_keeps ..) (by decide) h_a4_0))
  · exact (KeepsO.some (Keeps.each (Keeps.refl _ _) (fun t6 y6 k6 => (Keeps.ite (Keeps.step (State.fwFail_keeps ..) (by decide) k6) (Keeps.step
      (State.typeRuns_keeps ..) (by decide) k6)))))
  · exact (KeepsO.some (Keeps.step (State.dspStep_keeps ..) (by decide) (Keeps.refl _ _)))
  · exact (KeepsO.ite (KeepsO.some (Keeps.step (State.fwFail_keeps ..) (by decide) (Keeps.step (State.setUpd_keeps ..) (by decide) (Keeps.refl _
      _)))) (KeepsO.ite (KeepsO.some (Keeps.refl _ _)) KeepsO.none))
  · exact KeepsO.none

theorem State.runSteps_keeps (s : State) (l : List ActStep) (reverse : Bool) : Keeps 1628464711 s (State.runSteps s l reverse) := by
  unfold State.runSteps
  exact (Keeps.step (State.beginStep_keeps ..) (by decide) (Keeps.step (State.setUpd_keeps ..) (by decide) (Keeps.refl _ _)))

theorem State.confirm_keeps (s : State) : Keeps 1627414529 s (State.confirm s) := by
  unfold State.confirm
  refine (Keeps.ite (Keeps.refl _ _) ?_)
  extract_lets a0_0 a0_1 a0_2 a0_3 a0_4
  have h_a0_1 : Keeps 1627414529 s a0_1 := (Keeps.step (State.wr_keeps ..) (by decide) (Keeps.step (State.wr_keeps ..) (by decide) (Keeps.refl _ _)))
  have h_a0_3 : Keeps 1627414529 s a0_3 := (Keeps.step (State.setUpd_keeps ..) (by decide) h_a0_1)
  have h_a0_4 : Keeps 1627414529 s a0_4 := by
    unfold a0_4
    clear_value a0_0 a0_1 a0_2 a0_3
    split
    · exact (Keeps.ite (Keeps.step (State.wr_keeps ..) (by decide) (Keeps.step (State.wr_keeps ..) (by decide) h_a0_3)) h_a0_3)
    · exact h_a0_3
  exact (Keeps.step (State.parkCheck_keeps ..) (by decide) (Keeps.step (State.event_keeps ..) (by decide) h_a0_4))

theorem State.fallBack_keeps (s : State) : Keeps 1628464711 s (State.fallBack s) := by
  unfold State.fallBack
  refine (Keeps.ite (Keeps.refl _ _) ?_)
  extract_lets a0_0 a0_1
  have h_a0_0 : Keeps 1628464711 s a0_0 := (Keeps.step (State.wr_keeps ..) (by decide) (Keeps.step (State.setUpd_keeps ..) (by decide) (Keeps.refl _
      _)))
  have h_a0_1 : Keeps 1628464711 s a0_1 := (Keeps.step (State.event_keeps ..) (by decide) (Keeps.step (State.sticky_keeps ..) (by decide) h_a0_0))
  exact (Keeps.step (State.parkCheck_keeps ..) (by decide) (Keeps.step (State.runSteps_keeps ..) (by decide) h_a0_1))

theorem State.discard_keeps (s : State) : Keeps 16777217 s (State.discard s) := by
  unfold State.discard
  exact (Keeps.ite (Keeps.step (State.stgDiscard_keeps ..) (by decide) (Keeps.refl _ _)) (Keeps.refl _ _))

theorem State.arm_keeps (s : State) : Keeps 1 s (State.arm s) := by
  unfold State.arm
  exact (Keeps.step (State.setStg_keeps ..) (by decide) (Keeps.refl _ _))

theorem State.cancel_keeps (s : State) : Keeps 1 s (State.cancel s) := by
  unfold State.cancel
  exact (Keeps.ite (Keeps.step (State.setStg_keeps ..) (by decide) (Keeps.refl _ _)) (Keeps.refl _ _))

theorem State.recover_keeps (s : State) : Keeps 1 s (State.recover s) := by
  unfold State.recover
  exact (Keeps.ite (Keeps.step (State.wr_keeps ..) (by decide) (Keeps.refl _ _)) (Keeps.refl _ _))

theorem State.recovered_keeps (s : State) (ok : Bool) : Keeps 1661207953 s (State.recovered s ok) := by
  unfold State.recovered
  refine (Keeps.ite (Keeps.refl _ _) ?_)
  extract_lets a0_0 a0_1 a0_2 a0_3 a0_4 a0_5
  have h_a0_0 : Keeps 1661207953 s a0_0 := (Keeps.step (State.wr_keeps ..) (by decide) (Keeps.refl _ _))
  clear_value a0_0 a0_1 a0_2 a0_3 a0_5
  split
  · exact h_a0_0
  · refine (Keeps.ite (Keeps.step (State.fwFail_keeps ..) (by decide) (Keeps.ite h_a0_0 (Keeps.step (State.setUpd_keeps ..) (by decide) h_a0_0))) ?_)
    extract_lets a3_0 a3_1
    have h_a3_0 : Keeps 1661207953 s a3_0 := (Keeps.step (State.setUpd_keeps ..) (by decide) h_a0_0)
    exact (Keeps.ite (Keeps.step (retrain_keeps ..) (by decide) (Keeps.step (State.setUpd_keeps ..) (by decide) (Keeps.step (State.keepPorts_keeps
        ..) (by decide) h_a3_0))) h_a3_0)

/-! ## RegAccess -/

theorem State.updAct_keeps (s : State) (init : Nat) (w : Nat) (o : Nat) (v : Nat) (t : State) : Keeps 1627414529 t ((State.updAct s init w o v).run
    t) := by
  have h : KeepsA 1627414529 t (State.updAct s init w o v) := by
    unfold State.updAct
    exact (KeepsA.ite (KeepsA.cmdReg (by decide) (KeepsL3.cons (fun t0 k0 => (Keeps.step (State.confirm_keeps ..) (by decide) k0)) (KeepsL3.cons
        (fun t1 k1 => (Keeps.step (State.discard_keeps ..) (by decide) k1)) (KeepsL3.cons (fun t2 k2 => (Keeps.step (State.arm_keeps ..) (by decide)
        k2)) (KeepsL3.cons (fun t3 k3 => (Keeps.step (State.cancel_keeps ..) (by decide) k3)) (KeepsL3.cons (fun t4 k4 => (Keeps.step
        (State.recover_keeps ..) (by decide) k4)) KeepsL3.nil)))))) (KeepsA.ite (KeepsA.of (fun t => State.plainAct_keeps (t := t) ..) (by decide))
        (KeepsA.of (fun t => State.plainAct_keeps (t := t) ..) (by decide))))
  exact h.act (Keeps.refl _ _)

theorem State.unitCtrlAct_keeps (s : State) (init : Nat) (w : Nat) (v : Nat) (t : State) : Keeps 1728047067 t ((State.unitCtrlAct s init w v).run t)
    := by
  have h : KeepsA 1728047067 t (State.unitCtrlAct s init w v) := by
    unfold State.unitCtrlAct
    extract_lets a0_0
    have h_a0_0 : KeepsA 1728047067 t a0_0 := (KeepsA.of (fun t => State.commonAct_keeps (t := t) ..) (by decide))
    exact (KeepsA.ite (KeepsA.intro (fun t1 k1 => (Keeps.step (State.urstSettle_keeps ..) (by decide) (Keeps.step (State.unitReset_keeps ..) (by
        decide) (KeepsA.act h_a0_0 k1))))) h_a0_0)
  exact h.act (Keeps.refl _ _)

theorem State.fullAct_keeps (s : State) (init : Nat) (w : Nat) (o : Nat) (v : Nat) (t : State) : Keeps 2013265919 t ((State.fullAct s init w o
    v).run t) := by
  have h : KeepsA 2013265919 t (State.fullAct s init w o v) := by
    unfold State.fullAct
    refine (KeepsA.ite (KeepsA.of (fun t => State.unitCtrlAct_keeps (t := t) ..) (by decide)) ?_)
    refine (KeepsA.ite (KeepsA.of (fun t => State.regAct_keeps (t := t) ..) (by decide)) ?_)
    split
    · exact (KeepsA.of (fun t => State.updAct_keeps (t := t) ..) (by decide))
    · exact (KeepsA.of (fun t => State.drkAct_keeps (t := t) ..) (by decide))
    · exact (KeepsA.of (fun t => State.regAct_keeps (t := t) ..) (by decide))
  exact h.act (Keeps.refl _ _)

theorem State.localByte_keeps (s : State) (init : Nat) (w : Nat) (ofs : Nat) (b : Nat) (t : State) : Keeps 2013265919 t ((State.localByte s init w
    ofs b).run t) := by
  have h : KeepsA 2013265919 t (State.localByte s init w ofs b) := by
    unfold State.localByte
    unfold State.byteActBy
    split
    · exact (KeepsA.of (fun t => State.viewAct_keeps (t := t) ..) (by decide))
    · extract_lets a2_0 a2_1 a2_2 a2_3 a2_4 a2_5
      have h_a2_5 : KeepsA 2013265919 t a2_5 := (KeepsA.of (fun t => State.fullAct_keeps (t := t) ..) (by decide))
      clear_value a2_0 a2_1 a2_2 a2_3 a2_4 a2_5
      refine (KeepsA.ite (KeepsA.intro (fun t3 k3 => k3)) ?_)
      refine (KeepsA.ite (KeepsA.intro (fun t4 k4 => (Keeps.step (State.w1cByte_keeps ..) (by decide) (Keeps.ite k4 (Keeps.step (State.hold_keeps
          ..) (by decide) k4))))) ?_)
      split
      · exact (KeepsA.intro (fun t6 k6 => (Keeps.step (State.dropHeld_keeps ..) (by decide) (Keeps.step (State.selectView_keeps ..) (by decide) k6))))
      · exact (KeepsA.intro (fun t8 k8 => (Keeps.step (State.w1cByte_keeps ..) (by decide) (Keeps.step (State.dropHeld_keeps ..) (by decide)
          (KeepsA.act h_a2_5 k8)))))
  exact h.act (Keeps.refl _ _)

theorem State.preByte_keeps (s : State) (w : Nat) (ofs : Nat) (b : Nat) : Keeps 66 s (State.preByte s w ofs b) := by
  unfold State.preByte
  split
  · exact (Keeps.step (State.bufBytes_keeps ..) (by decide) (Keeps.refl _ _))
  · exact (Keeps.ite (Keeps.step (State.hold_keeps ..) (by decide) (Keeps.refl _ _)) (Keeps.refl _ _))

theorem State.refusedByte_keeps (s : State) (init : Nat) (w : Nat) (ofs : Nat) (b : Nat) (k : Kind) : Keeps 1610613761 s (State.refusedByte s init w
    ofs b k) := by
  unfold State.refusedByte
  extract_lets a0_0
  have h_a0_0 : Keeps 1610613761 s a0_0 := (Keeps.ite (Keeps.step (State.sticky_keeps ..) (by decide) (Keeps.refl _ _)) (Keeps.refl _ _))
  exact (Keeps.step (State.violate_keeps ..) (by decide) h_a0_0)

theorem State.applyByte_keeps (s : State) (init : Nat) (w : Nat) (ofs : Nat) (b : Nat) : Keeps 2013265919 s (State.applyByte s init w ofs b) := by
  unfold State.applyByte
  refine (Keeps.ite (Keeps.refl _ _) ?_)
  extract_lets a0_0
  have h_a0_0 : Keeps 2013265919 s a0_0 := (KeepsA.act (KeepsA.of (fun t => State.localByte_keeps (t := t) ..) (by decide)) (Keeps.refl _ _))
  exact (Keeps.ite (Keeps.step (State.freshParity_keeps ..) (by decide) h_a0_0) h_a0_0)

theorem State.localWrite_keeps (s : State) (init : Nat) (w : Nat) (l : List (Nat × Nat)) : KeepsP 2013265919 s (State.localWrite s init w l) := by
  unfold State.localWrite
  split
  · exact (KeepsP.mk (Keeps.step (State.refusedByte_keeps ..) (by decide) (Keeps.when (Keeps.refl _ _) (fun t1 k1 => (Keeps.step (State.sticky_keeps
      ..) (by decide) k1)))))
  · exact (KeepsP.mk (Keeps.each (Keeps.refl _ _) (fun t3 y3 k3 => (Keeps.step (State.applyByte_keeps ..) (by decide) k3))))

theorem State.readByte_keeps (s : State) (init : Nat) (holder : Nat) (w : Nat) (ofs : Nat) (spec : Bool) : KeepsP 1881179285 s (State.readByte s
    init holder w ofs spec) := by
  unfold State.readByte
  split
  · exact (KeepsP.mk (Keeps.refl _ _))
  · exact (KeepsP.ite (KeepsP.step (State.byteRead_keeps ..) (by decide) (Keeps.refl _ _)) (KeepsP.mk (Keeps.refl _ _)))

theorem State.readBytes_keeps (s : State) (init holder w : Nat) (spec : Bool) (l : List Nat) :
    KeepsP 1881179285 s (s.readBytes init holder w spec l) := by
  suffices h : ∀ t, Keeps 1881179285 s t → KeepsP 1881179285 s (t.readBytes init holder w spec l) from h s (Keeps.refl _ _)
  induction l with
  | nil => exact fun t h => KeepsP.mk h
  | cons x r ih =>
    intro t h
    unfold State.readBytes
    exact KeepsP.mk (ih _ (KeepsP.step (State.readByte_keeps ..) (by decide) h))

theorem State.localRead_keeps (s : State) (init : Nat) (holder : Nat) (w : Nat) (l : List Nat) (spec : Bool) : KeepsP 1881179285 s (State.localRead
    s init holder w l spec) := by
  unfold State.localRead
  split
  · exact (KeepsP.mk (Keeps.step (State.violate_keeps ..) (by decide) (Keeps.refl _ _)))
  · extract_lets a2_0
    have h_a2_0 : KeepsP 1881179285 s a2_0 := (KeepsP.step (State.readBytes_keeps ..) (by decide) (Keeps.refl _ _))
    exact (KeepsP.mk h_a2_0)

theorem State.shapeRefused_keeps (s : State) (init : Nat) (addr : Nat) (isWrite : Bool) (data : Nat) : Keeps 1610613761 s (State.shapeRefused s init
    addr isWrite data) := by
  unfold State.shapeRefused
  extract_lets a0_0
  exact (Keeps.ite (Keeps.step (State.violate_keeps ..) (by decide) (Keeps.refl _ _)) (Keeps.ite (Keeps.refl _ _) (Keeps.step (State.violate_keeps
      ..) (by decide) (Keeps.refl _ _))))

theorem State.remoteDrv_keeps (s : State) (w : Nat) (origin : Nat) (x : Nat × Nat) : Keeps 1644168339 s (State.remoteDrv s w origin x) := by
  unfold State.remoteDrv
  refine (Keeps.ite (Keeps.step (State.hold_keeps ..) (by decide) (Keeps.refl _ _)) ?_)
  refine (Keeps.ite ?_ (Keeps.refl _ _))
  extract_lets a0_0
  exact (Keeps.step (State.dropHeld_keeps ..) (by decide) (Keeps.step (State.remoteHandshake_keeps ..) (by decide) (Keeps.refl _ _)))

theorem State.remoteWriteAll_keeps (s : State) (init : Nat) (w : Nat) (l : List (Nat × Nat)) : KeepsP 1644168339 s (State.remoteWriteAll s init w l)
    := by
  unfold State.remoteWriteAll
  extract_lets a0_0 a0_1
  clear_value a0_0 a0_1
  split
  · exact (KeepsP.mk (Keeps.refl _ _))
  · refine (KeepsP.ite (KeepsP.mk (Keeps.refl _ _)) ?_)
    split
    · exact (KeepsP.mk (Keeps.each (Keeps.refl _ _) (fun t4 y4 k4 => (Keeps.step (State.remoteDrv_keeps ..) (by decide) k4))))
    · exact (KeepsP.ite (KeepsP.mk (Keeps.step (State.violate_keeps ..) (by decide) (Keeps.refl _ _))) (KeepsP.mk (Keeps.step
        (State.remoteWrite_keeps ..) (by decide) (Keeps.each (Keeps.refl _ _) (fun t6 y6 k6 => (Keeps.step (State.remoteDrv_keeps ..) (by decide)
        k6))))))

theorem State.writeAccess_keeps (s : State) (init : Nat) (addr : Nat) (fix : Bool) (data : List Nat) : KeepsP 2013265919 s (State.writeAccess s init
    addr fix data) := by
  unfold State.writeAccess
  extract_lets a0_0 a0_1
  exact (KeepsP.ite (KeepsP.step (State.remoteWriteAll_keeps ..) (by decide) (Keeps.refl _ _)) (KeepsP.step (State.localWrite_keeps ..) (by decide)
      (Keeps.refl _ _)))

theorem State.remoteReadAll_keeps (s : State) (init : Nat) (w : Nat) (why : ReadFor) (l : List Nat) (spec : Bool) : KeepsP 1644168337 s
    (State.remoteReadAll s init w why l spec) := by
  unfold State.remoteReadAll
  extract_lets a0_0 a0_1
  clear_value a0_0 a0_1
  split
  · exact (KeepsP.mk (Keeps.refl _ _))
  · refine (KeepsP.ite (KeepsP.mk (Keeps.refl _ _)) ?_)
    split
    · exact (KeepsP.mk (Keeps.refl _ _))
    · refine (KeepsP.ite (KeepsP.mk (Keeps.step (State.violate_keeps ..) (by decide) (Keeps.refl _ _))) ?_)
      extract_lets a5_0
      have h_a5_0 : KeepsP 1644168337 s a5_0 := (KeepsP.step (State.remoteRead_keeps ..) (by decide) (Keeps.refl _ _))
      exact (KeepsP.mk h_a5_0)

theorem State.readAccess_keeps (s : State) (init : Nat) (addr : Nat) (n : Nat) (fix : Bool) (why : ReadFor) (spec : Bool) : KeepsP 1914733717 s
    (State.readAccess s init addr n fix why spec) := by
  unfold State.readAccess
  extract_lets a0_0 a0_1 a0_2
  have h_a0_2 : KeepsP 1914733717 s a0_2 := (KeepsP.step (State.localRead_keeps ..) (by decide) (Keeps.refl _ _))
  exact (KeepsP.ite (KeepsP.step (State.remoteReadAll_keeps ..) (by decide) (Keeps.refl _ _)) (KeepsP.mk h_a0_2))

theorem regWrite_keeps (init : Nat) (addr : Nat) (b : Nat) (s : State) : Keeps 2013265919 s (regWrite init addr b s) := by
  unfold regWrite
  refine (Keeps.ite (Keeps.refl _ _) ?_)
  extract_lets a0_0
  have h_a0_0 : KeepsP 2013265919 s a0_0 := (KeepsP.step (State.writeAccess_keeps ..) (by decide) (Keeps.refl _ _))
  exact (Keeps.ite h_a0_0 (Keeps.step (State.endAccess_keeps ..) (by decide) h_a0_0))

theorem execRegisterWrite_keeps (init : Initiator) (addr : Addr) (b : Byte) (s : State) : KeepsR 2013265919 s (execRegisterWrite init addr b s) := by
  unfold execRegisterWrite
  exact (KeepsR.next (Keeps.step (regWrite_keeps ..) (by decide) (Keeps.step (fresh_keeps ..) (by decide) (Keeps.refl _ _))))

theorem byteReads_keeps (init : Nat) (addr : Nat) (spec : Bool) (s : State) : Keeps 1914733717 s (byteReads init addr spec s) := by
  unfold byteReads
  refine (Keeps.ite (Keeps.refl _ _) ?_)
  extract_lets a0_0
  have h_a0_0 : KeepsP 1914733717 s a0_0 := (KeepsP.step (State.readAccess_keeps ..) (by decide) (Keeps.refl _ _))
  clear_value a0_0
  split
  · exact (Keeps.step (State.emit_keeps ..) (by decide) h_a0_0)
  · exact (Keeps.step (State.emit_keeps ..) (by decide) (Keeps.step (State.endAccess_keeps ..) (by decide) h_a0_0))
  · exact h_a0_0

theorem liveRead_keeps (init : Nat) (addr : Nat) (s : State) : Keeps 1914733717 s (liveRead init addr s) := by
  unfold liveRead
  exact (Keeps.ite (Keeps.step (byteReads_keeps ..) (by decide) (Keeps.refl _ _)) (Keeps.refl _ _))

theorem execLiveValueMsbRead_keeps (init : Initiator) (addr : Addr) (s : State) : KeepsR 1914733717 s (execLiveValueMsbRead init addr s) := by
  unfold execLiveValueMsbRead
  exact (KeepsR.next (Keeps.step (liveRead_keeps ..) (by decide) (Keeps.step (fresh_keeps ..) (by decide) (Keeps.refl _ _))))

theorem tallyRead_keeps (init : Nat) (addr : Nat) (s : State) : Keeps 1914733717 s (tallyRead init addr s) := by
  unfold tallyRead
  exact (Keeps.ite (Keeps.step (byteReads_keeps ..) (by decide) (Keeps.refl _ _)) (Keeps.refl _ _))

theorem execTallySnapshotRead_keeps (init : Initiator) (addr : Addr) (s : State) : KeepsR 1914733717 s (execTallySnapshotRead init addr s) := by
  unfold execTallySnapshotRead
  exact (KeepsR.next (Keeps.step (tallyRead_keeps ..) (by decide) (Keeps.step (fresh_keeps ..) (by decide) (Keeps.refl _ _))))

theorem execSpeculativeRead_keeps (init : Initiator) (addr : Addr) (s : State) : KeepsR 1914733717 s (execSpeculativeRead init addr s) := by
  unfold execSpeculativeRead
  exact (KeepsR.next (Keeps.step (byteReads_keeps ..) (by decide) (Keeps.step (fresh_keeps ..) (by decide) (Keeps.refl _ _))))

theorem driverVersion_keeps (init : Nat) (w : Nat) (maj : Nat) (min : Nat) (s : State) : Keeps 2013265919 s (driverVersion init w maj min s) := by
  unfold driverVersion
  refine (Keeps.ite (Keeps.refl _ _) ?_)
  extract_lets a0_0
  have h_a0_0 : KeepsP 2013265919 s a0_0 := (KeepsP.step (State.writeAccess_keeps ..) (by decide) (Keeps.refl _ _))
  exact (Keeps.ite h_a0_0 (Keeps.step (State.endAccess_keeps ..) (by decide) h_a0_0))

theorem execInterfaceHandshake_keeps (init : Initiator) (w : BitVec 12) (maj : Byte) (min : Byte) (s : State) : KeepsR 2013265919 s
    (execInterfaceHandshake init w maj min s) := by
  unfold execInterfaceHandshake
  exact (KeepsR.next (Keeps.step (driverVersion_keeps ..) (by decide) (Keeps.step (fresh_keeps ..) (by decide) (Keeps.refl _ _))))

theorem execFanoutStart_keeps (init : Initiator) (grp : BitVec 12) (data : Byte) (s : State) : KeepsR 1610613769 s (execFanoutStart init grp data s)
    := by
  unfold execFanoutStart
  extract_lets a0_0
  exact (KeepsR.next (Keeps.ite (Keeps.cmdWrite (by decide) (Keeps.step (fresh_keeps ..) (by decide) (Keeps.refl _ _)) (fun t1 k1 => (Keeps.step
      (State.fanStart_keeps ..) (by decide) k1)) (fun _ => Keeps.step (State.endAccess_keeps ..) (by decide) (Keeps.step (State.violate_keeps ..)
      (by decide) (Keeps.step (fresh_keeps ..) (by decide) (Keeps.refl _ _))))) (Keeps.step (fresh_keeps ..) (by decide) (Keeps.refl _ _))))

theorem fanWindow_keeps (w : Nat) (s : State) : Keeps 2013265919 s (fanWindow w s) := by
  unfold fanWindow
  split
  · exact (Keeps.refl _ _)
  · split
    · exact (Keeps.refl _ _)
    · extract_lets a4_0 a4_1 a4_2 a4_3 a4_4
      have h_a4_2 : Keeps 2013265919 s a4_2 := (Keeps.step (State.setFans_keeps ..) (by decide) (Keeps.refl _ _))
      have h_a4_3 : KeepsP 2013265919 s a4_3 := (KeepsP.step (State.localWrite_keeps ..) (by decide) h_a4_2)
      have h_a4_4 : Keeps 2013265919 s a4_4 := (Keeps.step (State.sticky_keeps ..) (by decide) h_a4_3)
      exact (Keeps.ite h_a4_2 (Keeps.ite h_a4_3 (Keeps.ite (Keeps.step (State.wr_keeps ..) (by decide) h_a4_4) h_a4_4)))

theorem execFanoutWindowWrite_keeps (grp : BitVec 12) (s : State) : KeepsR 2013265919 s (execFanoutWindowWrite grp s) := by
  unfold execFanoutWindowWrite
  exact (KeepsR.next (Keeps.step (fanWindow_keeps ..) (by decide) (Keeps.step (fresh_keeps ..) (by decide) (Keeps.refl _ _))))

theorem fanDone_keeps (w : Nat) (s : State) : Keeps 9 s (fanDone w s) := by
  unfold fanDone
  split
  · exact (Keeps.ite (Keeps.step (State.wr_keeps ..) (by decide) (Keeps.step (State.wr_keeps ..) (by decide) (Keeps.step (State.setFans_keeps ..)
      (by decide) (Keeps.refl _ _)))) (Keeps.refl _ _))
  · exact (Keeps.refl _ _)

theorem execFanoutComplete_keeps (grp : BitVec 12) (s : State) : KeepsR 536870921 s (execFanoutComplete grp s) := by
  unfold execFanoutComplete
  exact (KeepsR.next (Keeps.step (fanDone_keeps ..) (by decide) (Keeps.step (fresh_keeps ..) (by decide) (Keeps.refl _ _))))

theorem execDrkMapWrite_keeps (init : Initiator) (v : BitVec 32) (s : State) : KeepsR 1644168337 s (execDrkMapWrite init v s) := by
  unfold execDrkMapWrite
  extract_lets a0_0
  exact (KeepsR.next (Keeps.cmdWrite (by decide) (Keeps.step (fresh_keeps ..) (by decide) (Keeps.refl _ _)) (fun t1 k1 => (Keeps.step
      (State.mapWrite_keeps ..) (by decide) k1)) (fun _ => Keeps.step (State.endAccess_keeps ..) (by decide) (Keeps.step (State.violate_keeps ..)
      (by decide) (Keeps.step (fresh_keeps ..) (by decide) (Keeps.refl _ _))))))

/-! ## Faces -/

theorem State.spiBegin_keeps (s : State) : Keeps 1073741840 s (State.spiBegin s) := by
  unfold State.spiBegin
  exact (Keeps.step (State.setHost_keeps ..) (by decide) (Keeps.refl _ _))

theorem State.spiEnd_keeps (s : State) (prev : Nat) : Keeps 1073741840 s (State.spiEnd s prev) := by
  unfold State.spiEnd
  exact (Keeps.step (State.setHost_keeps ..) (by decide) (Keeps.refl _ _))

theorem State.spiShort_keeps (s : State) : Keeps 1610612737 s (State.spiShort s) := by
  unfold State.spiShort
  exact (Keeps.step (State.sticky_keeps ..) (by decide) (Keeps.refl _ _))

theorem State.legacyDiscard_keeps (s : State) (wr : Bool) (n : Nat) : Keeps 1677721601 s (State.legacyDiscard s wr n) := by
  unfold State.legacyDiscard
  extract_lets a0_0 a0_1
  have h_a0_0 : Keeps 1677721601 s a0_0 := (Keeps.step (State.emit_keeps ..) (by decide) (Keeps.refl _ _))
  exact (Keeps.step (State.setLeg_keeps ..) (by decide) (Keeps.step (State.spiShort_keeps ..) (by decide) h_a0_0))

theorem State.spiForeign_keeps (s : State) (wr : Bool) (n : Nat) : Keeps 1677721601 s (State.spiForeign s wr n) := by
  unfold State.spiForeign
  exact (Keeps.ite (Keeps.step (State.legacyDiscard_keeps ..) (by decide) (Keeps.refl _ _)) (Keeps.refl _ _))

theorem spiTooShort_keeps (n : Nat) (s : State) : Keeps 1677721617 s (spiTooShort n s) := by
  unfold spiTooShort
  refine (Keeps.ite (Keeps.ite (Keeps.step (State.spiForeign_keeps ..) (by decide) (Keeps.refl _ _)) (Keeps.refl _ _)) ?_)
  extract_lets a0_0
  exact (Keeps.step (State.emit_keeps ..) (by decide) (Keeps.step (State.spiEnd_keeps ..) (by decide) (Keeps.step (State.spiShort_keeps ..) (by
      decide) (Keeps.step (State.spiBegin_keeps ..) (by decide) (Keeps.refl _ _)))))

theorem execSpiFrameTooShort_keeps (n : Fin 4) (s : State) : KeepsR 1677721617 s (execSpiFrameTooShort n s) := by
  unfold execSpiFrameTooShort
  exact (KeepsR.next (Keeps.step (spiTooShort_keeps ..) (by decide) (Keeps.step (fresh_keeps ..) (by decide) (Keeps.refl _ _))))

theorem spiWrite_keeps (fix : Bool) (len : Nat) (addr : Nat) (rest : List Nat) (s : State) : Keeps 1677722641 s (spiWrite fix len addr rest s) := by
  unfold spiWrite
  refine (Keeps.ite (Keeps.step (State.spiForeign_keeps ..) (by decide) (Keeps.refl _ _)) ?_)
  extract_lets a0_0 a0_1 a0_2 a0_3 a0_4 a0_5 a0_6 a0_7 a0_8 a0_9 a0_10 a0_11
  have h_a0_2 : Keeps 1677722641 s a0_2 := (Keeps.step (State.spiBegin_keeps ..) (by decide) (Keeps.refl _ _))
  have h_a0_5 : Keeps 1677722641 s a0_5 := (Keeps.ite (Keeps.step (State.shapeRefused_keeps ..) (by decide) h_a0_2) h_a0_2)
  have h_a0_6 : Keeps 1677722641 s a0_6 := (Keeps.ite (Keeps.step (State.endAccess_keeps ..) (by decide) h_a0_5) h_a0_5)
  have h_a0_9 : Keeps 1677722641 s a0_9 := (Keeps.ite (Keeps.step (State.spiShort_keeps ..) (by decide) h_a0_6) (Keeps.ite (Keeps.step
      (State.sticky_keeps ..) (by decide) h_a0_6) h_a0_6))
  have h_a0_10 : Keeps 1677722641 s a0_10 := (Keeps.step (State.emit_keeps ..) (by decide) h_a0_9)
  exact (Keeps.ite (Keeps.step (State.spiEnd_keeps ..) (by decide) h_a0_10) (Keeps.ite (Keeps.step (State.spiEnd_keeps ..) (by decide) h_a0_10)
      (Keeps.step (State.setHost_keeps ..) (by decide) h_a0_10)))

theorem execSpiWriteFrame_keeps (fix : Bool) (len : Fin 64) (addr : Addr) (rest : List Byte) (s : State) : KeepsR 1677722641 s (execSpiWriteFrame
    fix len addr rest s) := by
  unfold execSpiWriteFrame
  exact (KeepsR.next (Keeps.step (spiWrite_keeps ..) (by decide) (Keeps.step (fresh_keeps ..) (by decide) (Keeps.refl _ _))))

theorem spiApply_keeps (s : State) : Keeps 2013265919 s (spiApply s) := by
  unfold spiApply
  split
  · exact (Keeps.refl _ _)
  · extract_lets a2_0 a2_1 a2_2 a2_3 a2_4 a2_5
    have h_a2_2 : Keeps 2013265919 s a2_2 := (Keeps.step (State.setHost_keeps ..) (by decide) (Keeps.refl _ _))
    have h_a2_3 : KeepsP 2013265919 s a2_3 := (KeepsP.step (State.writeAccess_keeps ..) (by decide) h_a2_2)
    have h_a2_4 : Keeps 2013265919 s a2_4 := (Keeps.ite h_a2_3 (Keeps.step (State.endAccess_keeps ..) (by decide) h_a2_3))
    exact (Keeps.ite (Keeps.step (State.setHost_keeps ..) (by decide) h_a2_4) h_a2_4)

theorem execSpiWriteApply_keeps (s : State) : KeepsR 2013265919 s (execSpiWriteApply s) := by
  unfold execSpiWriteApply
  exact (KeepsR.next (Keeps.step (spiApply_keeps ..) (by decide) (Keeps.step (fresh_keeps ..) (by decide) (Keeps.refl _ _))))

theorem State.spiReadNow_keeps (s : State) (fix : Bool) (len : Nat) (addr : Nat) (late : Bool) : KeepsP 1914733717 s (State.spiReadNow s fix len
    addr late) := by
  unfold State.spiReadNow
  extract_lets a0_0 a0_1 a0_2 a0_3
  have h_a0_3 : KeepsP 1914733717 s a0_3 := (KeepsP.step (State.readAccess_keeps ..) (by decide) (Keeps.refl _ _))
  clear_value a0_0 a0_1 a0_3
  refine (KeepsP.ite (KeepsP.mk (Keeps.step (State.shapeRefused_keeps ..) (by decide) (Keeps.refl _ _))) ?_)
  split
  · refine (KeepsP.ite ?_ (KeepsP.mk (Keeps.refl _ _)))
    split
    · exact (KeepsP.mk (Keeps.refl _ _))
    · exact (KeepsP.mk (Keeps.step (State.setHost_keeps ..) (by decide) (Keeps.refl _ _)))
  · refine (KeepsP.ite (KeepsP.mk (Keeps.step (State.setHost_keeps ..) (by decide) (Keeps.refl _ _))) ?_)
    split
    · exact (KeepsP.mk h_a0_3)
    · exact (KeepsP.mk h_a0_3)
    · exact (KeepsP.mk (Keeps.step (State.setHost_keeps ..) (by decide) h_a0_3))

theorem spiRead_keeps (fix : Bool) (len : Nat) (addr : Nat) (rest : List Nat) (late : Bool) (s : State) : Keeps 1981842581 s (spiRead fix len addr
    rest late s) := by
  unfold spiRead
  refine (Keeps.ite (Keeps.step (State.spiForeign_keeps ..) (by decide) (Keeps.refl _ _)) ?_)
  extract_lets a0_0 a0_1 a0_2 a0_3 a0_4 a0_5 a0_6 a0_7 a0_8 a0_9 a0_10 a0_11
  have h_a0_3 : Keeps 1981842581 s a0_3 := (Keeps.step (State.spiBegin_keeps ..) (by decide) (Keeps.refl _ _))
  have h_a0_5 : Keeps 1981842581 s a0_5 := (Keeps.ite h_a0_3 (Keeps.step (State.spiShort_keeps ..) (by decide) h_a0_3))
  have h_a0_8 : KeepsP 1981842581 s a0_8 := (KeepsP.ite (KeepsP.mk (Keeps.step (State.sticky_keeps ..) (by decide) h_a0_5)) (KeepsP.step
      (State.spiReadNow_keeps ..) (by decide) h_a0_5))
  have h_a0_9 : Keeps 1981842581 s a0_9 := (Keeps.ite (Keeps.step (State.endAccess_keeps ..) (by decide) h_a0_8) h_a0_8)
  exact (Keeps.ite (Keeps.step (State.emit_keeps ..) (by decide) (Keeps.step (State.spiEnd_keeps ..) (by decide) h_a0_5)) (Keeps.step
      (State.emit_keeps ..) (by decide) (Keeps.step (State.spiEnd_keeps ..) (by decide) h_a0_9)))

theorem execSpiReadFrame_keeps (fix : Bool) (len : Fin 64) (addr : Addr) (rest : List Byte) (late : Bool) (s : State) : KeepsR 1981842581 s
    (execSpiReadFrame fix len addr rest late s) := by
  unfold execSpiReadFrame
  exact (KeepsR.next (Keeps.step (spiRead_keeps ..) (by decide) (Keeps.step (fresh_keeps ..) (by decide) (Keeps.refl _ _))))

theorem delayedRead_keeps (s : State) : Keeps 1914733717 s (delayedRead s) := by
  unfold delayedRead
  split
  · exact (Keeps.refl _ _)
  · refine (Keeps.ite (Keeps.refl _ _) ?_)
    extract_lets a2_0 a2_1
    have h_a2_0 : KeepsP 1914733717 s a2_0 := (KeepsP.step (State.readAccess_keeps ..) (by decide) (Keeps.refl _ _))
    clear_value a2_0 a2_1
    split
    · exact (Keeps.step (State.setHost_keeps ..) (by decide) h_a2_0)
    · exact (Keeps.step (State.endAccess_keeps ..) (by decide) (Keeps.step (State.setHost_keeps ..) (by decide) h_a2_0))
    · exact h_a2_0

theorem execDelayedReadPerform_keeps (s : State) : KeepsR 1914733717 s (execDelayedReadPerform s) := by
  unfold execDelayedReadPerform
  exact (KeepsR.next (Keeps.step (delayedRead_keeps ..) (by decide) (Keeps.step (fresh_keeps ..) (by decide) (Keeps.refl _ _))))

theorem delayedLease_keeps (s : State) : Keeps 1644168209 s (delayedLease s) := by
  unfold delayedLease
  split
  · exact (Keeps.refl _ _)
  · refine (Keeps.ite (Keeps.refl _ _) ?_)
    extract_lets a2_0 a2_1 a2_2 a2_3
    have h_a2_1 : Keeps 1644168209 s a2_1 := (Keeps.step (State.loseSpiReads_keeps ..) (by decide) (Keeps.step (State.setHost_keeps ..) (by decide)
        (Keeps.refl _ _)))
    have h_a2_2 : Keeps 1644168209 s a2_2 := (Keeps.ite h_a2_1 (Keeps.step (State.wr_keeps ..) (by decide) h_a2_1))
    have h_a2_3 : Keeps 1644168209 s a2_3 := (Keeps.step (State.leaseRevoked_keeps ..) (by decide) (Keeps.step (State.sticky_keeps ..) (by decide)
        h_a2_2))
    exact (Keeps.ite h_a2_3 (Keeps.step (State.endOther_keeps ..) (by decide) h_a2_3))

theorem execDelayedReadLeaseExpiry_keeps (s : State) : KeepsR 1644168209 s (execDelayedReadLeaseExpiry s) := by
  unfold execDelayedReadLeaseExpiry
  exact (KeepsR.next (Keeps.step (delayedLease_keeps ..) (by decide) (Keeps.step (fresh_keeps ..) (by decide) (Keeps.refl _ _))))

theorem State.msixPut_keeps (s : State) (k : Nat) (b : Nat) : Keeps 1073741840 s (State.msixPut s k b) := by
  unfold State.msixPut
  refine (Keeps.ite ?_ (Keeps.refl _ _))
  extract_lets a0_0 a0_1
  exact (Keeps.step (State.setHost_keeps ..) (by decide) (Keeps.refl _ _))

theorem pcieRead_keeps (bar : Bar) (addr : Nat) (n : Nat) (tag : Nat) (s : State) : Keeps 1914733717 s (pcieRead bar addr n tag s) := by
  unfold pcieRead
  refine (Keeps.ite (Keeps.refl _ _) ?_)
  extract_lets a0_0 a0_1 a0_2
  have h_a0_2 : KeepsP 1914733717 s a0_2 := (KeepsP.step (State.readAccess_keeps ..) (by decide) (Keeps.refl _ _))
  clear_value a0_1 a0_2
  split
  · exact (Keeps.ite (Keeps.step (State.emit_keeps ..) (by decide) (Keeps.step (State.endAccess_keeps ..) (by decide) (Keeps.step
      (State.violate_keeps ..) (by decide) (Keeps.refl _ _)))) (Keeps.step (State.emit_keeps ..) (by decide) (Keeps.refl _ _)))
  · refine (Keeps.ite (Keeps.step (State.emit_keeps ..) (by decide) (Keeps.step (State.endAccess_keeps ..) (by decide) (Keeps.step
      (State.shapeRefused_keeps ..) (by decide) (Keeps.refl _ _)))) ?_)
    split
    · exact (Keeps.step (State.emit_keeps ..) (by decide) h_a0_2)
    · exact (Keeps.step (State.emit_keeps ..) (by decide) (Keeps.step (State.endAccess_keeps ..) (by decide) h_a0_2))
    · exact h_a0_2
  · refine (Keeps.ite (Keeps.step (State.emit_keeps ..) (by decide) (Keeps.step (State.endAccess_keeps ..) (by decide) (Keeps.step
      (State.shapeRefused_keeps ..) (by decide) (Keeps.refl _ _)))) ?_)
    split
    · exact (Keeps.step (State.emit_keeps ..) (by decide) h_a0_2)
    · exact (Keeps.step (State.emit_keeps ..) (by decide) (Keeps.step (State.endAccess_keeps ..) (by decide) h_a0_2))
    · exact h_a0_2

theorem execPcieReadRequest_keeps (bar : Bar) (addr : Addr) (len : BitVec 13) (tag : Byte) (s : State) : KeepsR 1914733717 s (execPcieReadRequest
    bar addr len tag s) := by
  unfold execPcieReadRequest
  exact (KeepsR.next (Keeps.step (pcieRead_keeps ..) (by decide) (Keeps.step (fresh_keeps ..) (by decide) (Keeps.refl _ _))))

theorem pcieWrite_keeps (bar : Bar) (addr : Nat) (data : List Nat) (s : State) : Keeps 2013265919 s (pcieWrite bar addr data s) := by
  unfold pcieWrite
  refine (Keeps.ite (Keeps.refl _ _) ?_)
  split
  · exact (Keeps.ite (Keeps.step (State.endAccess_keeps ..) (by decide) (Keeps.step (State.violate_keeps ..) (by decide) (Keeps.refl _ _)))
      (Keeps.each (Keeps.refl _ _) (fun t1 y1 k1 => (Keeps.step (State.msixPut_keeps ..) (by decide) k1))))
  · extract_lets a3_0 a3_1
    have h_a3_1 : KeepsP 2013265919 s a3_1 := (KeepsP.step (State.writeAccess_keeps ..) (by decide) (Keeps.refl _ _))
    exact (Keeps.ite (Keeps.step (State.endAccess_keeps ..) (by decide) (Keeps.step (State.shapeRefused_keeps ..) (by decide) (Keeps.refl _ _)))
        (Keeps.ite h_a3_1 (Keeps.step (State.endAccess_keeps ..) (by decide) h_a3_1)))
  · extract_lets a5_0 a5_1
    have h_a5_1 : KeepsP 2013265919 s a5_1 := (KeepsP.step (State.writeAccess_keeps ..) (by decide) (Keeps.refl _ _))
    exact (Keeps.ite (Keeps.step (State.endAccess_keeps ..) (by decide) (Keeps.step (State.shapeRefused_keeps ..) (by decide) (Keeps.refl _ _)))
        (Keeps.ite h_a5_1 (Keeps.step (State.endAccess_keeps ..) (by decide) h_a5_1)))

theorem execPcieWriteRequest_keeps (bar : Bar) (addr : Addr) (data : List Byte) (s : State) : KeepsR 2013265919 s (execPcieWriteRequest bar addr
    data s) := by
  unfold execPcieWriteRequest
  exact (KeepsR.next (Keeps.step (pcieWrite_keeps ..) (by decide) (Keeps.step (fresh_keeps ..) (by decide) (Keeps.refl _ _))))

/-! ## Derrick -/

theorem helloTimer_keeps (n : Nat) (s : State) : Keeps 1644168337 s (helloTimer n s) := by
  unfold helloTimer
  exact (Keeps.ite (Keeps.step (State.sendHello_keeps ..) (by decide) (Keeps.refl _ _)) (Keeps.refl _ _))

theorem execKmpHelloTimer_keeps (n : Fin 16) (s : State) : KeepsR 1644168337 s (execKmpHelloTimer n s) := by
  unfold execKmpHelloTimer
  exact (KeepsR.next (Keeps.step (helloTimer_keeps ..) (by decide) (Keeps.step (fresh_keeps ..) (by decide) (Keeps.refl _ _))))

theorem keepaliveTimer_keeps (n : Nat) (s : State) : Keeps 1644168337 s (keepaliveTimer n s) := by
  unfold keepaliveTimer
  exact (Keeps.ite (Keeps.step (State.sendKeepalive_keeps ..) (by decide) (Keeps.refl _ _)) (Keeps.refl _ _))

theorem execKmpKeepaliveTimer_keeps (n : Fin 16) (s : State) : KeepsR 1644168337 s (execKmpKeepaliveTimer n s) := by
  unfold execKmpKeepaliveTimer
  exact (KeepsR.next (Keeps.step (keepaliveTimer_keeps ..) (by decide) (Keeps.step (fresh_keeps ..) (by decide) (Keeps.refl _ _))))

theorem resendTimer_keeps (n : Nat) (k : Nat) (s : State) : Keeps 1644168337 s (resendTimer n k s) := by
  unfold resendTimer
  extract_lets a0_0 a0_1
  have h_a0_1 : Keeps 1644168337 s a0_1 := (Keeps.step (State.setLane_keeps ..) (by decide) (Keeps.refl _ _))
  exact (Keeps.ite (Keeps.refl _ _) (Keeps.ite (Keeps.step (State.peerLost_keeps ..) (by decide) (Keeps.refl _ _)) (Keeps.each h_a0_1 (fun t1 y1 k1
      => (Keeps.step (State.kmpOut_keeps ..) (by decide) (Keeps.step (State.count_keeps ..) (by decide) k1))))))

theorem execKmpResendTimer_keeps (n : Fin 16) (k : Fin 3) (s : State) : KeepsR 1644168337 s (execKmpResendTimer n k s) := by
  unfold execKmpResendTimer
  exact (KeepsR.next (Keeps.step (resendTimer_keeps ..) (by decide) (Keeps.step (fresh_keeps ..) (by decide) (Keeps.refl _ _))))

theorem peerTimeout_keeps (n : Nat) (s : State) : Keeps 1644168337 s (peerTimeout n s) := by
  unfold peerTimeout
  exact (Keeps.ite (Keeps.step (State.peerLost_keeps ..) (by decide) (Keeps.refl _ _)) (Keeps.refl _ _))

theorem execKmpPeerTimeout_keeps (n : Fin 16) (s : State) : KeepsR 1644168337 s (execKmpPeerTimeout n s) := by
  unfold execKmpPeerTimeout
  exact (KeepsR.next (Keeps.step (peerTimeout_keeps ..) (by decide) (Keeps.step (fresh_keeps ..) (by decide) (Keeps.refl _ _))))

theorem State.kmpDrop_keeps (s : State) (n : Nat) (reason : Nat) : Keeps 1610613761 s (State.kmpDrop s n reason) := by
  unfold State.kmpDrop
  exact (Keeps.step (State.endOther_keeps ..) (by decide) (Keeps.step (State.count_keeps ..) (by decide) (Keeps.step (State.sticky_keeps ..) (by
      decide) (Keeps.refl _ _))))

theorem State.kmpAcks_keeps (s : State) (n : Nat) (f : KmpRx) : Keeps 33554432 s (State.kmpAcks s n f) := by
  unfold State.kmpAcks
  exact (Keeps.step (State.laneAck_keeps ..) (by decide) (Keeps.step (State.laneAck_keeps ..) (by decide) (Keeps.step (State.laneAck_keeps ..) (by
      decide) (Keeps.refl _ _))))

theorem State.laneTaken_keeps (s : State) (n : Nat) (k : Nat) : Keeps 33554432 s (State.laneTaken s n k) := by
  unfold State.laneTaken
  refine (Keeps.ite (Keeps.refl _ _) ?_)
  extract_lets a0_0 a0_1 a0_2
  have h_a0_1 : Keeps 33554432 s a0_1 := (Keeps.step (State.setLane_keeps ..) (by decide) (Keeps.refl _ _))
  exact (Keeps.step (State.setPeer_keeps ..) (by decide) h_a0_1)

theorem State.peerUp_keeps (s : State) (n : Nat) (f : KmpRx) (b : List Nat) : Keeps 1644168337 s (State.peerUp s n f b) := by
  unfold State.peerUp
  extract_lets a0_0 a0_1 a0_2 a0_3
  have h_a0_1 : Keeps 1644168337 s a0_1 := (Keeps.step (State.setPeer_keeps ..) (by decide) (Keeps.refl _ _))
  have h_a0_2 : Keeps 1644168337 s a0_2 := (Keeps.step (State.wr_keeps ..) (by decide) (Keeps.step (State.wr_keeps ..) (by decide) (Keeps.step
      (State.wr_keeps ..) (by decide) h_a0_1)))
  have h_a0_3 : Keeps 1644168337 s a0_3 := (Keeps.step (State.event_keeps ..) (by decide) (Keeps.step (State.setPeerState_keeps ..) (by decide)
      h_a0_2))
  exact (Keeps.each h_a0_3 (fun t1 y1 k1 => (Keeps.step (State.fetch_keeps ..) (by decide) k1)))

theorem helloAct_keeps (n : Nat) (f : KmpRx) (s : State) : Keeps 1644168337 s (helloAct n f s) := by
  unfold helloAct
  extract_lets a0_0 a0_1 a0_2
  exact (Keeps.ite (Keeps.step (State.sendHello_keeps ..) (by decide) (Keeps.refl _ _)) (Keeps.ite (Keeps.step (State.peerUp_keeps ..) (by decide)
      (Keeps.refl _ _)) (Keeps.ite (Keeps.step (State.event_keeps ..) (by decide) (Keeps.step (State.sticky_keeps ..) (by decide) (Keeps.step
      (State.setPeerState_keeps ..) (by decide) (Keeps.refl _ _)))) (Keeps.refl _ _))))

theorem execKmpHelloReceived_keeps (n : Fin 16) (f : KmpRx) (s : State) : KeepsR 1644168337 s (execKmpHelloReceived n f s) := by
  unfold execKmpHelloReceived
  refine (KeepsR.next ?_)
  unfold State.kmpTake
  refine (Keeps.ite (Keeps.step (State.handedEnd_keeps ..) (by decide) (Keeps.step (fresh_keeps ..) (by decide) (Keeps.refl _ _))) ?_)
  split
  · exact (Keeps.step (State.kmpDrop_keeps ..) (by decide) (Keeps.step (State.handedEnd_keeps ..) (by decide) (Keeps.step (fresh_keeps ..) (by
      decide) (Keeps.refl _ _))))
  · extract_lets a2_0
    have h_a2_0 : KeepsP 1644168337 s a2_0 := (KeepsP.mk (Keeps.step (helloAct_keeps ..) (by decide) (Keeps.step (State.laneTaken_keeps ..) (by
        decide) (Keeps.step (State.kmpAcks_keeps ..) (by decide) (Keeps.step (fresh_keeps ..) (by decide) (Keeps.refl _ _))))))
    exact (Keeps.step (State.lanesFlow_keeps ..) (by decide) (Keeps.ite (Keeps.step (State.count_keeps ..) (by decide) (Keeps.step
        (State.handedEnd_keeps ..) (by decide) h_a2_0)) (Keeps.step (State.kmpDrop_keeps ..) (by decide) (Keeps.step (State.handedEnd_keeps ..) (by
        decide) h_a2_0))))

theorem execKmpKeepaliveReceived_keeps (n : Fin 16) (f : KmpRx) (s : State) : KeepsR 1644168337 s (execKmpKeepaliveReceived n f s) := by
  unfold execKmpKeepaliveReceived
  refine (KeepsR.next ?_)
  unfold State.kmpTake
  refine (Keeps.ite (Keeps.step (State.handedEnd_keeps ..) (by decide) (Keeps.step (fresh_keeps ..) (by decide) (Keeps.refl _ _))) ?_)
  split
  · exact (Keeps.step (State.kmpDrop_keeps ..) (by decide) (Keeps.step (State.handedEnd_keeps ..) (by decide) (Keeps.step (fresh_keeps ..) (by
      decide) (Keeps.refl _ _))))
  · extract_lets a2_0
    have h_a2_0 : KeepsP 1644168337 s a2_0 := (KeepsP.mk (Keeps.step (State.laneTaken_keeps ..) (by decide) (Keeps.step (State.kmpAcks_keeps ..) (by
        decide) (Keeps.step (fresh_keeps ..) (by decide) (Keeps.refl _ _)))))
    exact (Keeps.step (State.lanesFlow_keeps ..) (by decide) (Keeps.ite (Keeps.step (State.count_keeps ..) (by decide) (Keeps.step
        (State.handedEnd_keeps ..) (by decide) h_a2_0)) (Keeps.step (State.kmpDrop_keeps ..) (by decide) (Keeps.step (State.handedEnd_keeps ..) (by
        decide) h_a2_0))))

theorem writeAct_keeps (n : Nat) (b : List Nat) (s : State) : Keeps 2013265919 s (writeAct n b s) := by
  unfold writeAct
  extract_lets a0_0 a0_1
  exact (Keeps.ite (Keeps.step (State.shapeRefused_keeps ..) (by decide) (Keeps.refl _ _)) (KeepsP.step (State.writeAccess_keeps ..) (by decide)
      (Keeps.refl _ _)))

theorem execKmpWriteReceived_keeps (n : Fin 16) (f : KmpRx) (s : State) : KeepsR 2013265919 s (execKmpWriteReceived n f s) := by
  unfold execKmpWriteReceived
  refine (KeepsR.next ?_)
  unfold State.kmpTake
  refine (Keeps.ite (Keeps.step (State.handedEnd_keeps ..) (by decide) (Keeps.step (fresh_keeps ..) (by decide) (Keeps.refl _ _))) ?_)
  split
  · exact (Keeps.step (State.kmpDrop_keeps ..) (by decide) (Keeps.step (State.handedEnd_keeps ..) (by decide) (Keeps.step (fresh_keeps ..) (by
      decide) (Keeps.refl _ _))))
  · extract_lets a2_0
    have h_a2_0 : KeepsP 2013265919 s a2_0 := (KeepsP.mk (Keeps.step (writeAct_keeps ..) (by decide) (Keeps.step (State.laneTaken_keeps ..) (by
        decide) (Keeps.step (State.kmpAcks_keeps ..) (by decide) (Keeps.step (fresh_keeps ..) (by decide) (Keeps.refl _ _))))))
    exact (Keeps.step (State.lanesFlow_keeps ..) (by decide) (Keeps.ite (Keeps.step (State.count_keeps ..) (by decide) (Keeps.step
        (State.handedEnd_keeps ..) (by decide) h_a2_0)) (Keeps.step (State.kmpDrop_keeps ..) (by decide) (Keeps.step (State.handedEnd_keeps ..) (by
        decide) h_a2_0))))

theorem State.respond_keeps (s : State) (n : Nat) (tag : Nat) (hit : Bool) (body : List Nat) : Keeps 1644168337 s (State.respond s n tag hit body)
    := by
  unfold State.respond
  exact (Keeps.step (State.kmpPush_keeps ..) (by decide) (Keeps.refl _ _))

theorem readAct_keeps (n : Nat) (f : KmpRx) (s : State) : Keeps 1644168337 s (readAct n f s) := by
  unfold readAct
  extract_lets a0_0 a0_1
  exact (Keeps.ite (Keeps.step (State.respond_keeps ..) (by decide) (Keeps.refl _ _)) (Keeps.step (State.setPeer_keeps ..) (by decide) (Keeps.refl _
      _)))

theorem execKmpReadReceived_keeps (n : Fin 16) (f : KmpRx) (s : State) : KeepsR 1644168337 s (execKmpReadReceived n f s) := by
  unfold execKmpReadReceived
  refine (KeepsR.next ?_)
  unfold State.kmpTake
  refine (Keeps.ite (Keeps.step (State.handedEnd_keeps ..) (by decide) (Keeps.step (fresh_keeps ..) (by decide) (Keeps.refl _ _))) ?_)
  split
  · exact (Keeps.step (State.kmpDrop_keeps ..) (by decide) (Keeps.step (State.handedEnd_keeps ..) (by decide) (Keeps.step (fresh_keeps ..) (by
      decide) (Keeps.refl _ _))))
  · extract_lets a2_0
    have h_a2_0 : KeepsP 1644168337 s a2_0 := (KeepsP.mk (Keeps.step (readAct_keeps ..) (by decide) (Keeps.step (State.laneTaken_keeps ..) (by
        decide) (Keeps.step (State.kmpAcks_keeps ..) (by decide) (Keeps.step (fresh_keeps ..) (by decide) (Keeps.refl _ _))))))
    exact (Keeps.step (State.lanesFlow_keeps ..) (by decide) (Keeps.ite (Keeps.step (State.count_keeps ..) (by decide) (Keeps.step
        (State.handedEnd_keeps ..) (by decide) h_a2_0)) (Keeps.step (State.kmpDrop_keeps ..) (by decide) (Keeps.step (State.handedEnd_keeps ..) (by
        decide) h_a2_0))))

theorem State.inboundRead_keeps (s : State) (n : Nat) (r : InRead) : KeepsP 1881179285 s (State.inboundRead s n r) := by
  unfold State.inboundRead
  exact (KeepsP.ite (KeepsP.mk (Keeps.step (State.shapeRefused_keeps ..) (by decide) (Keeps.refl _ _))) (KeepsP.step (State.localRead_keeps ..) (by
      decide) (Keeps.refl _ _)))

theorem inboundPerform_keeps (n : Nat) (s : State) : Keeps 1914733717 s (inboundPerform n s) := by
  unfold inboundPerform
  split
  · exact (Keeps.refl _ _)
  · extract_lets a2_0 a2_1 a2_2
    have h_a2_2 : KeepsP 1914733717 s a2_2 := (KeepsP.step (State.inboundRead_keeps ..) (by decide) (Keeps.step (State.setPeer_keeps ..) (by decide)
        (Keeps.refl _ _)))
    exact (Keeps.step (State.respond_keeps ..) (by decide) h_a2_2)

theorem execKmpInboundReadPerform_keeps (n : Fin 16) (s : State) : KeepsR 1914733717 s (execKmpInboundReadPerform n s) := by
  unfold execKmpInboundReadPerform
  exact (KeepsR.next (Keeps.step (inboundPerform_keeps ..) (by decide) (Keeps.step (fresh_keeps ..) (by decide) (Keeps.refl _ _))))

theorem inboundLease_keeps (n : Nat) (s : State) : Keeps 1644168193 s (inboundLease n s) := by
  unfold inboundLease
  extract_lets a0_0 a0_1
  clear_value a0_0 a0_1
  split
  · extract_lets a2_0
    have h_a2_0 : Keeps 1644168193 s a2_0 := (Keeps.step (State.setPeer_keeps ..) (by decide) (Keeps.refl _ _))
    exact (Keeps.step (State.leaseRevoked_keeps ..) (by decide) (Keeps.step (State.count_keeps ..) (by decide) (Keeps.step (State.sticky_keeps ..)
        (by decide) h_a2_0)))
  · split
    · exact (Keeps.refl _ _)
    · exact (Keeps.step (State.leaseRevoked_keeps ..) (by decide) (Keeps.step (State.setPeer_keeps ..) (by decide) (Keeps.refl _ _)))

theorem execKmpInboundLeaseExpiry_keeps (n : Fin 16) (s : State) : KeepsR 1644168193 s (execKmpInboundLeaseExpiry n s) := by
  unfold execKmpInboundLeaseExpiry
  exact (KeepsR.next (Keeps.step (inboundLease_keeps ..) (by decide) (Keeps.step (fresh_keeps ..) (by decide) (Keeps.refl _ _))))

theorem State.peerSummary_keeps (s : State) (n : Nat) (v : Nat) : Keeps 1610612737 s (State.peerSummary s n v) := by
  unfold State.peerSummary
  extract_lets a0_0 a0_1 a0_2 a0_3
  have h_a0_1 : Keeps 1610612737 s a0_1 := (Keeps.step (State.wr_keeps ..) (by decide) (Keeps.refl _ _))
  exact (Keeps.ite (Keeps.step (State.event_keeps ..) (by decide) (Keeps.step (State.wr_keeps ..) (by decide) h_a0_1)) h_a0_1)

theorem State.descFetched_keeps (s : State) (i : Nat) (d : List Nat) : Keeps 33554433 s (State.descFetched s i d) := by
  unfold State.descFetched
  extract_lets a0_0 a0_1 a0_2 a0_3
  have h_a0_1 : Keeps 33554433 s a0_1 := (Keeps.step (State.wr_keeps ..) (by decide) (Keeps.step (State.wr_keeps ..) (by decide) (Keeps.refl _ _)))
  have h_a0_2 : Keeps 33554433 s a0_2 := (Keeps.step (State.wr_keeps ..) (by decide) h_a0_1)
  exact (Keeps.step (State.setDrk_keeps ..) (by decide) h_a0_2)

theorem State.faceData_keeps (s : State) (r : OutRead) (d : List Nat) : Keeps 1644167185 s (State.faceData s r d) := by
  unfold State.faceData
  extract_lets a0_0 a0_1
  clear_value a0_0 a0_1
  split
  · split
    · exact (Keeps.ite (Keeps.step (State.setHost_keeps ..) (by decide) (Keeps.refl _ _)) (Keeps.refl _ _))
    · exact (Keeps.refl _ _)
  · exact (Keeps.refl _ _)
  · exact (Keeps.step (State.emit_keeps ..) (by decide) (Keeps.refl _ _))
  · exact (Keeps.step (State.emit_keeps ..) (by decide) (Keeps.refl _ _))
  · exact (Keeps.step (State.peerSummary_keeps ..) (by decide) (Keeps.refl _ _))
  · exact (Keeps.ite (Keeps.step (State.descFetched_keeps ..) (by decide) (Keeps.refl _ _)) (Keeps.refl _ _))

theorem State.holdBlock_keeps (s : State) (r : OutRead) (d : List Nat) : Keeps 33554432 s (State.holdBlock s r d) := by
  unfold State.holdBlock
  exact (Keeps.ite (Keeps.step (State.setDrk_keeps ..) (by decide) (Keeps.refl _ _)) (Keeps.refl _ _))

theorem State.dropRead_keeps (s : State) (r : OutRead) : Keeps 33554432 s (State.dropRead s r) := by
  unfold State.dropRead
  exact (Keeps.step (State.setDrk_keeps ..) (by decide) (Keeps.refl _ _))

theorem responseAct_keeps (n : Nat) (f : KmpRx) (s : State) : KeepsP 1644168337 s (responseAct n f s) := by
  unfold responseAct
  extract_lets a0_0
  clear_value a0_0
  split
  · exact (KeepsP.mk (Keeps.refl _ _))
  · refine (KeepsP.ite (KeepsP.mk (Keeps.refl _ _)) ?_)
    extract_lets a3_0 a3_1
    have h_a3_0 : Keeps 1644168337 s a3_0 := (Keeps.ite (Keeps.step (State.sticky_keeps ..) (by decide) (Keeps.step (State.drkRecord_keeps ..) (by
        decide) (Keeps.refl _ _))) (Keeps.refl _ _))
    exact (KeepsP.ite (KeepsP.mk (Keeps.step (State.count_keeps ..) (by decide) (Keeps.step (State.setDrk_keeps ..) (by decide) h_a3_0)))
        (KeepsP.ite (KeepsP.mk (Keeps.step (State.fetchFlow_keeps ..) (by decide) (Keeps.step (State.holdBlock_keeps ..) (by decide) (Keeps.step
        (State.faceData_keeps ..) (by decide) (Keeps.step (State.dropRead_keeps ..) (by decide) h_a3_0))))) (KeepsP.mk (Keeps.step
        (State.fetchFlow_keeps ..) (by decide) (Keeps.step (State.readFail_keeps ..) (by decide) h_a3_0)))))

theorem execKmpResponseReceived_keeps (n : Fin 16) (f : KmpRx) (s : State) : KeepsR 1644168337 s (execKmpResponseReceived n f s) := by
  unfold execKmpResponseReceived
  refine (KeepsR.next ?_)
  unfold State.kmpTake
  refine (Keeps.ite (Keeps.step (State.handedEnd_keeps ..) (by decide) (Keeps.step (fresh_keeps ..) (by decide) (Keeps.refl _ _))) ?_)
  split
  · exact (Keeps.step (State.kmpDrop_keeps ..) (by decide) (Keeps.step (State.handedEnd_keeps ..) (by decide) (Keeps.step (fresh_keeps ..) (by
      decide) (Keeps.refl _ _))))
  · extract_lets a2_0
    have h_a2_0 : KeepsP 1644168337 s a2_0 := (KeepsP.step (responseAct_keeps ..) (by decide) (Keeps.step (State.laneTaken_keeps ..) (by decide)
        (Keeps.step (State.kmpAcks_keeps ..) (by decide) (Keeps.step (fresh_keeps ..) (by decide) (Keeps.refl _ _)))))
    exact (Keeps.step (State.lanesFlow_keeps ..) (by decide) (Keeps.ite (Keeps.step (State.count_keeps ..) (by decide) (Keeps.step
        (State.handedEnd_keeps ..) (by decide) h_a2_0)) (Keeps.step (State.kmpDrop_keeps ..) (by decide) (Keeps.step (State.handedEnd_keeps ..) (by
        decide) h_a2_0))))

theorem retryResend_keeps (k : Nat) (s : State) : Keeps 1644168337 s (retryResend k s) := by
  unfold retryResend
  split
  · exact (Keeps.ite (Keeps.refl _ _) (Keeps.step (State.sendRead_keeps ..) (by decide) (Keeps.step (State.dropRead_keeps ..) (by decide)
      (Keeps.refl _ _))))
  · exact (Keeps.refl _ _)

theorem execKmpRetryResend_keeps (k : Fin 16) (s : State) : KeepsR 1644168337 s (execKmpRetryResend k s) := by
  unfold execKmpRetryResend
  exact (KeepsR.next (Keeps.step (retryResend_keeps ..) (by decide) (Keeps.step (fresh_keeps ..) (by decide) (Keeps.refl _ _))))

theorem readTimeout_keeps (k : Nat) (s : State) : Keeps 1644168337 s (readTimeout k s) := by
  unfold readTimeout
  split
  · exact (Keeps.step (State.fetchFlow_keeps ..) (by decide) (Keeps.step (State.readFail_keeps ..) (by decide) (Keeps.refl _ _)))
  · exact (Keeps.refl _ _)

theorem execKmpReadTimeout_keeps (k : BitVec 12) (s : State) : KeepsR 1644168337 s (execKmpReadTimeout k s) := by
  unfold execKmpReadTimeout
  exact (KeepsR.next (Keeps.step (readTimeout_keeps ..) (by decide) (Keeps.step (fresh_keeps ..) (by decide) (Keeps.refl _ _))))

theorem prefetchExpiry_keeps (k : Nat) (s : State) : Keeps 33554432 s (prefetchExpiry k s) := by
  unfold prefetchExpiry
  exact (Keeps.step (State.setDrk_keeps ..) (by decide) (Keeps.refl _ _))

theorem execKmpPrefetchExpiry_keeps (k : BitVec 12) (s : State) : KeepsR 570425344 s (execKmpPrefetchExpiry k s) := by
  unfold execKmpPrefetchExpiry
  exact (KeepsR.next (Keeps.step (prefetchExpiry_keeps ..) (by decide) (Keeps.step (fresh_keeps ..) (by decide) (Keeps.refl _ _))))

theorem eventAct_keeps (n : Nat) (b : List Nat) (s : State) : Keeps 1610612737 s (eventAct n b s) := by
  unfold eventAct
  exact (Keeps.ite (Keeps.step (State.peerSummary_keeps ..) (by decide) (Keeps.refl _ _)) (Keeps.refl _ _))

theorem execKmpEventReceived_keeps (n : Fin 16) (f : KmpRx) (s : State) : KeepsR 1644168337 s (execKmpEventReceived n f s) := by
  unfold execKmpEventReceived
  refine (KeepsR.next ?_)
  unfold State.kmpTake
  refine (Keeps.ite (Keeps.step (State.handedEnd_keeps ..) (by decide) (Keeps.step (fresh_keeps ..) (by decide) (Keeps.refl _ _))) ?_)
  split
  · exact (Keeps.step (State.kmpDrop_keeps ..) (by decide) (Keeps.step (State.handedEnd_keeps ..) (by decide) (Keeps.step (fresh_keeps ..) (by
      decide) (Keeps.refl _ _))))
  · extract_lets a2_0
    have h_a2_0 : KeepsP 1644168337 s a2_0 := (KeepsP.mk (Keeps.step (eventAct_keeps ..) (by decide) (Keeps.step (State.laneTaken_keeps ..) (by
        decide) (Keeps.step (State.kmpAcks_keeps ..) (by decide) (Keeps.step (fresh_keeps ..) (by decide) (Keeps.refl _ _))))))
    exact (Keeps.step (State.lanesFlow_keeps ..) (by decide) (Keeps.ite (Keeps.step (State.count_keeps ..) (by decide) (Keeps.step
        (State.handedEnd_keeps ..) (by decide) h_a2_0)) (Keeps.step (State.kmpDrop_keeps ..) (by decide) (Keeps.step (State.handedEnd_keeps ..) (by
        decide) h_a2_0))))

theorem State.tellPeer_keeps (s : State) (n : Nat) : Keeps 1644168337 s (State.tellPeer s n) := by
  unfold State.tellPeer
  extract_lets a0_0 a0_1 a0_2
  exact (Keeps.ite (Keeps.refl _ _) (Keeps.ite (Keeps.step (State.setPeer_keeps ..) (by decide) (Keeps.refl _ _)) (Keeps.step (State.kmpPush_keeps
      ..) (by decide) (Keeps.step (State.setPeer_keeps ..) (by decide) (Keeps.refl _ _)))))

theorem execKmpEventSend_keeps (s : State) : KeepsR 1644168337 s (execKmpEventSend s) := by
  unfold execKmpEventSend
  exact (KeepsR.next (Keeps.each (Keeps.step (fresh_keeps ..) (by decide) (Keeps.refl _ _)) (fun t0 y0 k0 => (Keeps.step (State.tellPeer_keeps ..)
      (by decide) k0))))

theorem pollTimer_keeps (n : Nat) (s : State) : Keeps 1644168337 s (pollTimer n s) := by
  unfold pollTimer
  exact (Keeps.ite (Keeps.step (State.bridgeRead_keeps ..) (by decide) (Keeps.refl _ _)) (Keeps.refl _ _))

theorem execKmpPollTimer_keeps (n : Fin 16) (s : State) : KeepsR 1644168337 s (execKmpPollTimer n s) := by
  unfold execKmpPollTimer
  exact (KeepsR.next (Keeps.step (pollTimer_keeps ..) (by decide) (Keeps.step (fresh_keeps ..) (by decide) (Keeps.refl _ _))))

theorem segAct_keeps (n : Nat) (b : List Nat) (s : State) : KeepsP 50331648 s (segAct n b s) := by
  unfold segAct
  extract_lets a0_0 a0_1 a0_2 a0_3 a0_4 a0_5 a0_6
  have h_a0_4 : Keeps 50331648 s a0_4 := (Keeps.step (State.setPeer_keeps ..) (by decide) (Keeps.refl _ _))
  clear_value a0_0 a0_1 a0_2 a0_3 a0_4 a0_5 a0_6
  refine (KeepsP.ite (KeepsP.mk h_a0_4) ?_)
  refine (KeepsP.ite (KeepsP.mk (Keeps.step (State.setPeer_keeps ..) (by decide) (Keeps.refl _ _))) ?_)
  split
  · exact (KeepsP.mk (Keeps.step (State.setUpd_keeps ..) (by decide) h_a0_4))
  · exact (KeepsP.mk h_a0_4)

theorem execKmpUpdSegReceived_keeps (n : Fin 16) (f : KmpRx) (s : State) : KeepsR 1660945553 s (execKmpUpdSegReceived n f s) := by
  unfold execKmpUpdSegReceived
  refine (KeepsR.next ?_)
  unfold State.kmpTake
  refine (Keeps.ite (Keeps.step (State.handedEnd_keeps ..) (by decide) (Keeps.step (fresh_keeps ..) (by decide) (Keeps.refl _ _))) ?_)
  split
  · exact (Keeps.step (State.kmpDrop_keeps ..) (by decide) (Keeps.step (State.handedEnd_keeps ..) (by decide) (Keeps.step (fresh_keeps ..) (by
      decide) (Keeps.refl _ _))))
  · extract_lets a2_0
    have h_a2_0 : KeepsP 1660945553 s a2_0 := (KeepsP.step (segAct_keeps ..) (by decide) (Keeps.step (State.laneTaken_keeps ..) (by decide)
        (Keeps.step (State.kmpAcks_keeps ..) (by decide) (Keeps.step (fresh_keeps ..) (by decide) (Keeps.refl _ _)))))
    exact (Keeps.step (State.lanesFlow_keeps ..) (by decide) (Keeps.ite (Keeps.step (State.count_keeps ..) (by decide) (Keeps.step
        (State.handedEnd_keeps ..) (by decide) h_a2_0)) (Keeps.step (State.kmpDrop_keeps ..) (by decide) (Keeps.step (State.handedEnd_keeps ..) (by
        decide) h_a2_0))))

theorem execKmpUpdAckReceived_keeps (n : Fin 16) (f : KmpRx) (s : State) : KeepsR 1660945553 s (execKmpUpdAckReceived n f s) := by
  unfold execKmpUpdAckReceived
  refine (KeepsR.next ?_)
  unfold State.kmpTake
  refine (Keeps.ite (Keeps.step (State.handedEnd_keeps ..) (by decide) (Keeps.step (fresh_keeps ..) (by decide) (Keeps.refl _ _))) ?_)
  split
  · exact (Keeps.step (State.kmpDrop_keeps ..) (by decide) (Keeps.step (State.handedEnd_keeps ..) (by decide) (Keeps.step (fresh_keeps ..) (by
      decide) (Keeps.refl _ _))))
  · extract_lets a2_0
    have h_a2_0 : KeepsP 1660945553 s a2_0 := (KeepsP.mk (Keeps.step (State.setUpd_keeps ..) (by decide) (Keeps.step (State.laneTaken_keeps ..) (by
        decide) (Keeps.step (State.kmpAcks_keeps ..) (by decide) (Keeps.step (fresh_keeps ..) (by decide) (Keeps.refl _ _))))))
    exact (Keeps.step (State.lanesFlow_keeps ..) (by decide) (Keeps.ite (Keeps.step (State.count_keeps ..) (by decide) (Keeps.step
        (State.handedEnd_keeps ..) (by decide) h_a2_0)) (Keeps.step (State.kmpDrop_keeps ..) (by decide) (Keeps.step (State.handedEnd_keeps ..) (by
        decide) h_a2_0))))

end Sys2Proof.Machine
end

