-- ==== Sys2Proof/Laws/Keeps8.lean ====
section
/-! SUPPORT. What each operation of these files can change: Eth, Update, Legacy, Load. The number is the mask of parts (Part.code). -/

namespace Sys2Proof.Machine

/-! ## Eth -/

theorem ethRx_keeps (p : Nat) (x : EthRx) (s : State) : Keeps 1644688785 s (ethRx p x s) := by
  unfold ethRx
  extract_lets a0_0 a0_1
  have h_a0_1 : Keeps 1644688785 s a0_1 := (Keeps.ite (Keeps.step (State.emit_keeps ..) (by decide) (Keeps.refl _ _)) (Keeps.refl _ _))
  clear_value a0_0 a0_1
  split
  · exact (Keeps.ite (Keeps.step (State.ethReceive_keeps ..) (by decide) h_a0_1) h_a0_1)
  · exact (Keeps.ite (Keeps.step (State.rxFirst_keeps ..) (by decide) h_a0_1) h_a0_1)
  · exact (Keeps.step (State.rxMore_keeps ..) (by decide) h_a0_1)
  · exact (Keeps.step (State.rxLast_keeps ..) (by decide) h_a0_1)

theorem execEthFrameReceived_keeps (p : Fin 16) (x : EthRx) (s : State) : KeepsR 1644688785 s (execEthFrameReceived p x s) := by
  unfold execEthFrameReceived
  exact (KeepsR.next (Keeps.step (ethRx_keeps ..) (by decide) (Keeps.step (fresh_keeps ..) (by decide) (Keeps.refl _ _))))

/-! ## Update -/

theorem blockReceived_keeps (flashOk : Bool) (s : State) : Keeps 1728054417 s (blockReceived flashOk s) := by
  unfold blockReceived
  split
  · exact (Keeps.refl _ _)
  · exact (Keeps.step (State.takeBlock_keeps ..) (by decide) (Keeps.step (State.setUpd_keeps ..) (by decide) (Keeps.refl _ _)))

theorem execUpdBlockReceived_keeps (flashOk : Bool) (s : State) : KeepsR 1728054417 s (execUpdBlockReceived flashOk s) := by
  unfold execUpdBlockReceived
  exact (KeepsR.next (Keeps.step (blockReceived_keeps ..) (by decide) (Keeps.step (fresh_keeps ..) (by decide) (Keeps.refl _ _))))

theorem State.acked_keeps (s : State) (k : Nat) (blk : Nat) : Keeps 1660945553 s (State.acked s k blk) := by
  unfold State.acked
  extract_lets a0_0 a0_1 a0_2 a0_3
  have h_a0_3 : Keeps 1660945553 s a0_3 := (Keeps.step (State.setUpd_keeps ..) (by decide) (Keeps.refl _ _))
  exact (Keeps.step (State.forwardFlow_keeps ..) (by decide) (Keeps.each h_a0_3 (fun t1 y1 k1 => (Keeps.step (State.endOther_keeps ..) (by decide)
      k1))))

theorem ackReceived_keeps (s : State) : Keeps 1660945553 s (ackReceived s) := by
  unfold ackReceived
  split
  · exact (Keeps.refl _ _)
  · extract_lets a2_0 a2_1
    have h_a2_1 : Keeps 1660945553 s a2_1 := (Keeps.step (State.setUpd_keeps ..) (by decide) (Keeps.refl _ _))
    exact (Keeps.ite (Keeps.step (State.acked_keeps ..) (by decide) h_a2_1) h_a2_1)

theorem execUpdAckReceived_keeps (s : State) : KeepsR 1660945553 s (execUpdAckReceived s) := by
  unfold execUpdAckReceived
  exact (KeepsR.next (Keeps.step (ackReceived_keeps ..) (by decide) (Keeps.step (fresh_keeps ..) (by decide) (Keeps.refl _ _))))

theorem blockResend_keeps (k : Nat) (blk : Nat) (s : State) : Keeps 1660945553 s (blockResend k blk s) := by
  unfold blockResend
  extract_lets a0_0 a0_1
  clear_value a0_0 a0_1
  split
  · exact (Keeps.ite (Keeps.step (State.streamDead_keeps ..) (by decide) (Keeps.refl _ _)) (Keeps.step (State.sendBlock_keeps ..) (by decide)
      (Keeps.step (State.setUpd_keeps ..) (by decide) (Keeps.refl _ _))))
  · exact (Keeps.refl _ _)

theorem execUpdBlockResend_keeps (stream : BitVec 16) (blk : BitVec 32) (s : State) : KeepsR 1660945553 s (execUpdBlockResend stream blk s) := by
  unfold execUpdBlockResend
  exact (KeepsR.next (Keeps.step (blockResend_keeps ..) (by decide) (Keeps.step (fresh_keeps ..) (by decide) (Keeps.refl _ _))))

theorem streamTimeout_keeps (s : State) : Keeps 1627389953 s (streamTimeout s) := by
  unfold streamTimeout
  exact (Keeps.ite (Keeps.step (State.sticky_keeps ..) (by decide) (Keeps.step (State.stgDiscard_keeps ..) (by decide) (Keeps.refl _ _)))
      (Keeps.refl _ _))

theorem execUpdStreamTimeout_keeps (s : State) : KeepsR 1627389953 s (execUpdStreamTimeout s) := by
  unfold execUpdStreamTimeout
  exact (KeepsR.next (Keeps.step (streamTimeout_keeps ..) (by decide) (Keeps.step (fresh_keeps ..) (by decide) (Keeps.refl _ _))))

theorem State.stgRejected_keeps (s : State) (cause : Nat) : Keeps 1627389953 s (State.stgRejected s cause) := by
  unfold State.stgRejected
  exact (Keeps.step (State.stgReject_keeps ..) (by decide) (Keeps.step (State.stgDiscard_keeps ..) (by decide) (Keeps.refl _ _)))

theorem verifyDone_keeps (ec : Bool) (hs : Bool) (digest : Bool) (s : State) : Keeps 1627389953 s (verifyDone ec hs digest s) := by
  unfold verifyDone
  exact (Keeps.ite (Keeps.refl _ _) (Keeps.ite (Keeps.step (State.stgRejected_keeps ..) (by decide) (Keeps.refl _ _)) (Keeps.ite (Keeps.step
      (State.stgRejected_keeps ..) (by decide) (Keeps.refl _ _)) (Keeps.ite (Keeps.step (State.stgRejected_keeps ..) (by decide) (Keeps.refl _ _))
      (Keeps.ite (Keeps.step (State.stgRejected_keeps ..) (by decide) (Keeps.refl _ _)) (Keeps.step (State.setStg_keeps ..) (by decide) (Keeps.refl
      _ _)))))))

theorem execUpdVerifyDone_keeps (ec : Bool) (hs : Bool) (digest : Bool) (s : State) : KeepsR 1627389953 s (execUpdVerifyDone ec hs digest s) := by
  unfold execUpdVerifyDone
  exact (KeepsR.next (Keeps.step (verifyDone_keeps ..) (by decide) (Keeps.step (fresh_keeps ..) (by decide) (Keeps.refl _ _))))

theorem State.slotInstalled_keeps (s : State) : Keeps 16777248 s (State.slotInstalled s) := by
  unfold State.slotInstalled
  extract_lets a0_0 a0_1 a0_2
  have h_a0_1 : Keeps 16777248 s a0_1 := (Keeps.step (State.setCfg_keeps ..) (by decide) (Keeps.refl _ _))
  exact (Keeps.step (State.setUpd_keeps ..) (by decide) h_a0_1)

theorem installDone_keeps (ok : Bool) (s : State) : Keeps 1627389985 s (installDone ok s) := by
  unfold installDone
  refine (Keeps.ite (Keeps.refl _ _) ?_)
  extract_lets a0_0
  have h_a0_0 : Keeps 1627389985 s a0_0 := (Keeps.ite (Keeps.step (State.setUpd_keeps ..) (by decide) (Keeps.refl _ _)) (Keeps.step
      (State.slotInstalled_keeps ..) (by decide) (Keeps.refl _ _)))
  exact (Keeps.ite (Keeps.step (State.event_keeps ..) (by decide) (Keeps.step (State.setStg_keeps ..) (by decide) h_a0_0)) (Keeps.step
      (State.stgRejected_keeps ..) (by decide) h_a0_0))

theorem execUpdInstallDone_keeps (ok : Bool) (s : State) : KeepsR 1627389985 s (execUpdInstallDone ok s) := by
  unfold execUpdInstallDone
  exact (KeepsR.next (Keeps.step (installDone_keeps ..) (by decide) (Keeps.step (fresh_keeps ..) (by decide) (Keeps.refl _ _))))

theorem execUpdConfirm_keeps (init : Initiator) (s : State) : KeepsR 1627415553 s (execUpdConfirm init s) := by
  unfold execUpdConfirm
  exact (KeepsR.next (Keeps.cmdField (by decide) (Keeps.step (fresh_keeps ..) (by decide) (Keeps.refl _ _)) (fun t0 k0 => (Keeps.step
      (State.confirm_keeps ..) (by decide) k0)) (fun _ => Keeps.step (State.endAccess_keeps ..) (by decide) (Keeps.step (State.violate_keeps ..) (by
      decide) (Keeps.step (fresh_keeps ..) (by decide) (Keeps.refl _ _))))))

theorem execUpdDiscard_keeps (init : Initiator) (s : State) : KeepsR 1627390977 s (execUpdDiscard init s) := by
  unfold execUpdDiscard
  exact (KeepsR.next (Keeps.cmdField (by decide) (Keeps.step (fresh_keeps ..) (by decide) (Keeps.refl _ _)) (fun t0 k0 => (Keeps.step
      (State.discard_keeps ..) (by decide) k0)) (fun _ => Keeps.step (State.endAccess_keeps ..) (by decide) (Keeps.step (State.violate_keeps ..) (by
      decide) (Keeps.step (fresh_keeps ..) (by decide) (Keeps.refl _ _))))))

theorem execUpdArm_keeps (init : Initiator) (s : State) : KeepsR 1610613761 s (execUpdArm init s) := by
  unfold execUpdArm
  exact (KeepsR.next (Keeps.cmdField (by decide) (Keeps.step (fresh_keeps ..) (by decide) (Keeps.refl _ _)) (fun t0 k0 => (Keeps.step
      (State.arm_keeps ..) (by decide) k0)) (fun _ => Keeps.step (State.endAccess_keeps ..) (by decide) (Keeps.step (State.violate_keeps ..) (by
      decide) (Keeps.step (fresh_keeps ..) (by decide) (Keeps.refl _ _))))))

theorem execUpdCancel_keeps (init : Initiator) (s : State) : KeepsR 1610613761 s (execUpdCancel init s) := by
  unfold execUpdCancel
  exact (KeepsR.next (Keeps.cmdField (by decide) (Keeps.step (fresh_keeps ..) (by decide) (Keeps.refl _ _)) (fun t0 k0 => (Keeps.step
      (State.cancel_keeps ..) (by decide) k0)) (fun _ => Keeps.step (State.endAccess_keeps ..) (by decide) (Keeps.step (State.violate_keeps ..) (by
      decide) (Keeps.step (fresh_keeps ..) (by decide) (Keeps.refl _ _))))))

theorem execUpdRecover_keeps (init : Initiator) (s : State) : KeepsR 1610613761 s (execUpdRecover init s) := by
  unfold execUpdRecover
  exact (KeepsR.next (Keeps.cmdField (by decide) (Keeps.step (fresh_keeps ..) (by decide) (Keeps.refl _ _)) (fun t0 k0 => (Keeps.step
      (State.recover_keeps ..) (by decide) k0)) (fun _ => Keeps.step (State.endAccess_keeps ..) (by decide) (Keeps.step (State.violate_keeps ..) (by
      decide) (Keeps.step (fresh_keeps ..) (by decide) (Keeps.refl _ _))))))

theorem activationStart_keeps (s : State) : Keeps 1628464711 s (activationStart s) := by
  unfold activationStart
  refine (Keeps.ite ?_ (Keeps.refl _ _))
  extract_lets a0_0 a0_1
  have h_a0_1 : Keeps 1628464711 s a0_1 := (Keeps.step (State.setUpd_keeps ..) (by decide) (Keeps.refl _ _))
  exact (Keeps.step (State.runSteps_keeps ..) (by decide) (Keeps.step (State.setStg_keeps ..) (by decide) h_a0_1))

theorem execUpdActivationStart_keeps (s : State) : KeepsR 1628464711 s (execUpdActivationStart s) := by
  unfold execUpdActivationStart
  exact (KeepsR.next (Keeps.step (activationStart_keeps ..) (by decide) (Keeps.step (fresh_keeps ..) (by decide) (Keeps.refl _ _))))

theorem State.emptyTables_keeps (s : State) : Keeps 1140859456 s (State.emptyTables s) := by
  unfold State.emptyTables
  extract_lets a0_0 a0_1 a0_2 a0_3
  have h_a0_2 : Keeps 1140859456 s a0_2 := (Keeps.step (State.setLeg_keeps ..) (by decide) (Keeps.step (State.setTbl_keeps ..) (by decide)
      (Keeps.step (State.setBench_keeps ..) (by decide) (Keeps.refl _ _))))
  exact (Keeps.step (State.setPwr_keeps ..) (by decide) h_a0_2)

theorem State.benchedOf_keeps (s : State) (l : List ImgSection) : KeepsO 2013265919 s (State.benchedOf s l) := by
  unfold State.benchedOf
  exact (KeepsO.step (State.imgRecs_keeps ..) (by decide) (Keeps.step (State.emptyTables_keeps ..) (by decide) (Keeps.refl _ _)))

theorem State.stageKeyed_keeps (s : State) (o : State) (n : State) : KeepsO 1342177857 s (State.stageKeyed s o n) := by
  unfold State.stageKeyed
  extract_lets a0_0 a0_1 a0_2
  have h_a0_0 : KeepsO 1342177857 s a0_0 := by
    unfold a0_0
    refine (KeepsO.stageAll (Keeps.refl _ _) ?_)
    refine (fun t1 y1 k1 => ?_)
    extract_lets a2_0
    have h_a2_0 : KeepsP 1342177857 s a2_0 := (KeepsP.step (State.l2Unstage_keeps ..) (by decide) k1)
    exact (KeepsO.ite KeepsO.none (KeepsO.some h_a2_0))
  have h_a0_1 : KeepsO 1342177857 s a0_1 := by
    unfold a0_1
    clear_value a0_0
    refine (KeepsO.bind h_a0_0 ?_)
    refine (fun t3 k3 => ?_)
    refine (KeepsO.stageAll k3 ?_)
    refine (fun t4 y4 k4 => ?_)
    extract_lets a5_0
    have h_a5_0 : KeepsP 1342177857 s a5_0 := (KeepsP.step (State.l2Stage_keeps ..) (by decide) k4)
    exact (KeepsO.ite KeepsO.none (KeepsO.some h_a5_0))
  have h_a0_2 : KeepsO 1342177857 s a0_2 := by
    unfold a0_2
    clear_value a0_0 a0_1
    refine (KeepsO.bind h_a0_1 ?_)
    refine (fun t6 k6 => ?_)
    refine (KeepsO.stageAll k6 ?_)
    refine (fun t7 y7 k7 => ?_)
    extract_lets a8_0
    have h_a8_0 : KeepsP 1342177857 s a8_0 := (KeepsP.step (State.pfxUnstage_keeps ..) (by decide) k7)
    exact (KeepsO.ite KeepsO.none (KeepsO.some h_a8_0))
  clear_value a0_0 a0_1 a0_2
  refine (KeepsO.bind h_a0_2 ?_)
  refine (fun t9 k9 => ?_)
  refine (KeepsO.stageAll k9 ?_)
  refine (fun t10 y10 k10 => ?_)
  extract_lets a11_0
  have h_a11_0 : KeepsP 1342177857 s a11_0 := (KeepsP.step (State.pfxStage_keeps ..) (by decide) k10)
  exact (KeepsO.ite KeepsO.none (KeepsO.some h_a11_0))

theorem State.setTblCtrl_keeps (s : State) (v : Nat) : Keeps 1 s (State.setTblCtrl s v) := by
  unfold State.setTblCtrl
  exact (Keeps.step (State.wr_keeps ..) (by decide) (Keeps.step (State.wr_keeps ..) (by decide) (Keeps.refl _ _)))

theorem State.stageImages_keeps (s : State) (ctrl : Nat) (o : State) (n : State) : KeepsO 1342177857 s (State.stageImages s ctrl o n) := by
  unfold State.stageImages
  extract_lets a0_0 a0_1 a0_2
  have h_a0_0 : Keeps 1342177857 s a0_0 := (Keeps.step (State.setTblCtrl_keeps ..) (by decide) (Keeps.step (State.tblAcquire_keeps ..) (by decide)
      (Keeps.refl _ _)))
  exact (KeepsO.ite KeepsO.none (KeepsO.bind (KeepsO.step (State.stageEntries_keeps ..) (by decide) h_a0_0) (fun t1 k1 => (KeepsO.step
      (State.stageKeyed_keeps ..) (by decide) k1))))

theorem State.cfgAbort_keeps (s : State) (ctrl : Nat) : Keeps 1628464711 s (State.cfgAbort s ctrl) := by
  unfold State.cfgAbort
  extract_lets a0_0 a0_1
  have h_a0_0 : Keeps 1628464711 s a0_0 := (Keeps.step (State.setTblCtrl_keeps ..) (by decide) (Keeps.step (State.tblRelease_keeps ..) (by decide)
      (Keeps.step (State.discardDelta_keeps ..) (by decide) (Keeps.refl _ _))))
  exact (Keeps.step (State.beginStep_keeps ..) (by decide) (Keeps.step (State.setUpd_keeps ..) (by decide) h_a0_0))

theorem State.cfgBegin_keeps (s : State) (x : SlotImage) : Keeps 2013265919 s (State.cfgBegin s x) := by
  unfold State.cfgBegin
  extract_lets a0_0 a0_1 a0_2 a0_3 a0_4
  have h_a0_2 : KeepsO 2013265919 s a0_2 := (KeepsO.step (State.benchedOf_keeps ..) (by decide) (Keeps.refl _ _))
  have h_a0_3 : KeepsO 2013265919 s a0_3 := (KeepsO.step (State.benchedOf_keeps ..) (by decide) (Keeps.refl _ _))
  clear_value a0_0 a0_1 a0_2 a0_3 a0_4
  split
  · split
    · exact (Keeps.step (State.cfgAbort_keeps ..) (by decide) (Keeps.step (State.stageFull_keeps ..) (by decide) (Keeps.refl _ _)))
    · next p3_0 e3 =>
        have q3 := KeepsO.get (T := 2013265919) (a := s) (KeepsO.step (State.stageImages_keeps ..) (by decide) (Keeps.refl _ _)) e3
        extract_lets a4_0 a4_1
        have h_a4_0 : Keeps 2013265919 s a4_0 := (Keeps.step (State.commit_keeps ..) (by decide) (Keeps.step (State.authWriteBack_keeps ..) (by
            decide) q3))
        exact (Keeps.ite (Keeps.step (State.setUpd_keeps ..) (by decide) (Keeps.step (State.tblRelease_keeps ..) (by decide) h_a4_0)) (Keeps.step
            (State.cfgAbort_keeps ..) (by decide) h_a4_0))
  · exact (Keeps.step (State.cfgAbort_keeps ..) (by decide) (Keeps.refl _ _))

theorem State.runRec_keeps (s : State) (r : ImgRec) : Keeps 2013265919 s (State.runRec s r) := by
  unfold State.runRec
  split
  · exact (Keeps.ite (Keeps.refl _ _) (KeepsP.step (State.localWrite_keeps ..) (by decide) (Keeps.refl _ _)))
  · exact (Keeps.ite (Keeps.step (State.setSlotByte_keeps ..) (by decide) (Keeps.refl _ _)) (KeepsO.getD (KeepsO.step (State.imgLegacy_keeps ..) (by
      decide) (Keeps.refl _ _)) (Keeps.refl _ _)))
  · exact (KeepsO.getD (KeepsO.step (State.imgRec_keeps ..) (by decide) (Keeps.refl _ _)) (Keeps.refl _ _))
  · exact (KeepsO.getD (KeepsO.step (State.imgRec_keeps ..) (by decide) (Keeps.refl _ _)) (Keeps.refl _ _))
  · exact (Keeps.refl _ _)
  · exact (Keeps.refl _ _)
  · exact (Keeps.refl _ _)
  · exact (Keeps.refl _ _)

theorem State.cfgEnd_keeps (s : State) (x : SlotImage) : Keeps 2013265919 s (State.cfgEnd s x) := by
  unfold State.cfgEnd
  extract_lets a0_0 a0_1 a0_2 a0_3 a0_4 a0_5 a0_6
  have h_a0_1 : Keeps 2013265919 s a0_1 := (Keeps.each (Keeps.refl _ _) (fun t1 y1 k1 => (Keeps.ite (Keeps.each k1 (fun t2 y2 k2 => (Keeps.step
      (State.runRec_keeps ..) (by decide) k2))) (Keeps.step (State.sticky_keeps ..) (by decide) k1))))
  have h_a0_3 : Keeps 2013265919 s a0_3 := (Keeps.step (State.wr_keeps ..) (by decide) (Keeps.step (State.wr_keeps ..) (by decide) h_a0_1))
  have h_a0_5 : Keeps 2013265919 s a0_5 := (Keeps.step (State.setCfg_keeps ..) (by decide) h_a0_3)
  exact (Keeps.step (State.nextStep_keeps ..) (by decide) (Keeps.step (State.setUpd_keeps ..) (by decide) h_a0_5))

theorem State.cfgStep_keeps (s : State) (image : Option SlotImage) : Keeps 2013265919 s (State.cfgStep s image) := by
  unfold State.cfgStep
  split
  · exact (Keeps.ite (Keeps.refl _ _) (Keeps.step (State.cfgEnd_keeps ..) (by decide) (Keeps.refl _ _)))
  · exact (Keeps.refl _ _)
  · exact (Keeps.ite (Keeps.step (State.nextStep_keeps ..) (by decide) (Keeps.refl _ _)) (Keeps.ite (Keeps.refl _ _) (Keeps.step
      (State.cfgBegin_keeps ..) (by decide) (Keeps.refl _ _))))

theorem activationStep_keeps (fails : List Nat) (image : Option SlotImage) (s : State) : Keeps 2013265919 s (activationStep fails image s) := by
  unfold activationStep
  split
  · exact (Keeps.refl _ _)
  · exact (Keeps.step (State.cfgStep_keeps ..) (by decide) (Keeps.refl _ _))
  · split
    · exact (Keeps.refl _ _)
    · next p4_0 e4 =>
        have q4 := KeepsO.get (T := 2013265919) (a := s) (KeepsO.step (State.endFwStep_keeps ..) (by decide) (Keeps.refl _ _)) e4
        exact (Keeps.step (State.nextStep_keeps ..) (by decide) q4)

theorem execUpdActivationStep_keeps (fails : List Byte) (image : Option SlotImage) (s : State) : KeepsR 2013265919 s (execUpdActivationStep fails
    image s) := by
  unfold execUpdActivationStep
  exact (KeepsR.next (Keeps.step (activationStep_keeps ..) (by decide) (Keeps.step (fresh_keeps ..) (by decide) (Keeps.refl _ _))))

theorem execUpdTrialTimeout_keeps (s : State) : KeepsR 1628464711 s (execUpdTrialTimeout s) := by
  unfold execUpdTrialTimeout
  exact (KeepsR.next (Keeps.step (State.fallBack_keeps ..) (by decide) (Keeps.step (fresh_keeps ..) (by decide) (Keeps.refl _ _))))

theorem execRomRecoveryLoadDone_keeps (ok : Bool) (s : State) : KeepsR 1661207953 s (execRomRecoveryLoadDone ok s) := by
  unfold execRomRecoveryLoadDone
  exact (KeepsR.next (Keeps.step (State.recovered_keeps ..) (by decide) (Keeps.step (fresh_keeps ..) (by decide) (Keeps.refl _ _))))

/-! ## Legacy -/

theorem State.xbStat_keeps (s : State) : KeepsP 1 s (State.xbStat s) := by
  unfold State.xbStat
  exact (KeepsP.mk (Keeps.step (State.wr_keeps ..) (by decide) (Keeps.refl _ _)))

theorem State.xbCounter_keeps (s : State) (g : Nat) (k : Nat) : KeepsP 1140850688 s (State.xbCounter s g k) := by
  unfold State.xbCounter
  refine (KeepsP.ite ?_ (KeepsP.mk (Keeps.refl _ _)))
  extract_lets a0_0 a0_1 a0_2
  exact (KeepsP.mk (Keeps.step (State.setLeg_keeps ..) (by decide) (Keeps.refl _ _)))

theorem State.xbNative_keeps (s : State) (w : Nat) (ofs : Nat) : KeepsP 1881179285 s (State.xbNative s w ofs) := by
  unfold State.xbNative
  extract_lets a0_0
  have h_a0_0 : KeepsP 1881179285 s a0_0 := (KeepsP.step (State.localRead_keeps ..) (by decide) (Keeps.refl _ _))
  exact (KeepsP.mk h_a0_0)

theorem State.xbView_keeps (s : State) (k : Nat) : KeepsP 1881179285 s (State.xbView s k) := by
  unfold State.xbView
  exact (KeepsP.ite (KeepsP.step (State.xbNative_keeps ..) (by decide) (Keeps.refl _ _)) (KeepsP.ite (KeepsP.mk (Keeps.refl _ _)) (KeepsP.ite
      (KeepsP.mk (Keeps.refl _ _)) (KeepsP.ite (KeepsP.step (State.xbNative_keeps ..) (by decide) (Keeps.refl _ _)) (KeepsP.mk (Keeps.refl _ _))))))

theorem State.xbCanRead_keeps (s : State) (p : Nat) (k : Nat) : KeepsP 1140850688 s (State.xbCanRead s p k) := by
  unfold State.xbCanRead
  extract_lets a0_0
  exact (KeepsP.ite (KeepsP.mk (Keeps.refl _ _)) (KeepsP.ite (KeepsP.mk (Keeps.refl _ _)) (KeepsP.ite (KeepsP.mk (Keeps.refl _ _)) (KeepsP.ite
      (KeepsP.mk (Keeps.refl _ _)) (KeepsP.ite (KeepsP.mk (Keeps.refl _ _)) (KeepsP.ite (KeepsP.step (State.xbCounter_keeps ..) (by decide)
      (Keeps.refl _ _)) (KeepsP.mk (Keeps.refl _ _))))))))

theorem State.xbLinRead_keeps (s : State) (i : Nat) (k : Nat) : KeepsP 1140850688 s (State.xbLinRead s i k) := by
  unfold State.xbLinRead
  extract_lets a0_0
  exact (KeepsP.ite (KeepsP.mk (Keeps.refl _ _)) (KeepsP.ite (KeepsP.mk (Keeps.refl _ _)) (KeepsP.ite (KeepsP.step (State.xbCounter_keeps ..) (by
      decide) (Keeps.refl _ _)) (KeepsP.mk (Keeps.refl _ _)))))

theorem State.xbBoxRead_keeps (s : State) (p : Nat) (m : Nat) (b : Nat) : KeepsP 1140850689 s (State.xbBoxRead s p m b) := by
  unfold State.xbBoxRead
  exact (KeepsP.ite (KeepsP.mk (Keeps.step (State.boxTake_keeps ..) (by decide) (Keeps.refl _ _))) (KeepsP.mk (Keeps.refl _ _)))

theorem State.legacyReadAt_keeps (s : State) (a : Nat) : KeepsP 1948288149 s (State.legacyReadAt s a) := by
  unfold State.legacyReadAt
  refine (KeepsP.ite (KeepsP.mk (Keeps.refl _ _)) ?_)
  refine (KeepsP.ite (KeepsP.mk (Keeps.refl _ _)) ?_)
  refine (KeepsP.ite (KeepsP.step (State.xbStat_keeps ..) (by decide) (Keeps.refl _ _)) ?_)
  refine (KeepsP.ite (KeepsP.mk (Keeps.refl _ _)) ?_)
  refine (KeepsP.ite (KeepsP.mk (Keeps.refl _ _)) ?_)
  refine (KeepsP.ite (KeepsP.mk (Keeps.refl _ _)) ?_)
  refine (KeepsP.ite (KeepsP.mk (Keeps.refl _ _)) ?_)
  refine (KeepsP.ite (KeepsP.step (State.xbCanRead_keeps ..) (by decide) (Keeps.refl _ _)) ?_)
  refine (KeepsP.ite (KeepsP.step (State.xbLinRead_keeps ..) (by decide) (Keeps.refl _ _)) ?_)
  refine (KeepsP.ite ?_ (KeepsP.ite (KeepsP.mk (Keeps.refl _ _)) (KeepsP.ite (KeepsP.mk (Keeps.refl _ _)) (KeepsP.ite (KeepsP.mk (Keeps.refl _ _))
      (KeepsP.ite (KeepsP.mk (Keeps.refl _ _)) (KeepsP.ite (KeepsP.mk (Keeps.refl _ _)) (KeepsP.ite (KeepsP.step (State.xbBoxRead_keeps ..) (by
      decide) (Keeps.refl _ _)) (KeepsP.ite (KeepsP.step (State.xbNative_keeps ..) (by decide) (Keeps.refl _ _)) (KeepsP.ite (KeepsP.step
      (State.xbNative_keeps ..) (by decide) (Keeps.refl _ _)) (KeepsP.ite (KeepsP.step (State.xbView_keeps ..) (by decide) (Keeps.refl _ _))
      (KeepsP.ite (KeepsP.mk (Keeps.refl _ _)) (KeepsP.mk (Keeps.refl _ _)))))))))))))
  extract_lets a0_0 a0_1
  exact (KeepsP.mk (Keeps.refl _ _))

theorem State.slotsAgain_keeps (s : State) (l : List ImgRec) : Keeps 1678509633 s (State.slotsAgain s l) := by
  unfold State.slotsAgain
  extract_lets a0_0 a0_1
  have h_a0_1 : Keeps 1678509633 s a0_1 := (Keeps.step (State.setLeg_keeps ..) (by decide) (Keeps.refl _ _))
  clear_value a0_0 a0_1
  split
  · exact h_a0_1
  · split
    · exact (Keeps.step (State.stageFull_keeps ..) (by decide) (Keeps.step (State.tblRelease_keeps ..) (by decide) (Keeps.step
        (State.discardDelta_keeps ..) (by decide) (Keeps.step (State.tblAcquire_keeps ..) (by decide) h_a0_1))))
    · next p4_0 e4 =>
        have q4 := KeepsO.get (T := 1678509633) (a := s) (KeepsO.step (State.stageEntries_keeps ..) (by decide) (Keeps.step (State.tblAcquire_keeps
            ..) (by decide) h_a0_1)) e4
        exact (Keeps.step (State.setLeg_keeps ..) (by decide) (Keeps.step (State.tblRelease_keeps ..) (by decide) (Keeps.step (State.commit_keeps
            ..) (by decide) q4)))

theorem State.legacyReset_keeps (s : State) : KeepsP 2013265919 s (State.legacyReset s) := by
  unfold State.legacyReset
  extract_lets a0_0 a0_1 a0_2 a0_3 a0_4
  have h_a0_1 : Keeps 2013265919 s a0_1 := (Keeps.each (Keeps.refl _ _) (fun t1 y1 k1 => (Keeps.step (State.unitReset_keeps ..) (by decide) k1)))
  have h_a0_3 : Keeps 2013265919 s a0_3 := (Keeps.step (State.setLeg_keeps ..) (by decide) (Keeps.step (State.urstSettle_keeps ..) (by decide)
      h_a0_1))
  have h_a0_4 : Keeps 2013265919 s a0_4 := (Keeps.each h_a0_3 (fun t2 y2 k2 => (KeepsO.getD (KeepsO.step (State.imgRec_keeps ..) (by decide) k2) k2)))
  exact (KeepsP.ite (KeepsP.mk (Keeps.refl _ _)) (KeepsP.mk (Keeps.step (State.wr_keeps ..) (by decide) (Keeps.step (State.slotsAgain_keeps ..) (by
      decide) h_a0_4))))

theorem State.xbCtrl_keeps (s : State) (v : Nat) : KeepsP 2013265919 s (State.xbCtrl s v) := by
  unfold State.xbCtrl
  extract_lets a0_0
  exact (KeepsP.ite (KeepsP.step (State.legRefuse_keeps ..) (by decide) (Keeps.refl _ _)) (KeepsP.ite (KeepsP.ite (KeepsP.mk (Keeps.step
      (State.softReset_keeps ..) (by decide) (Keeps.refl _ _))) (KeepsP.step (State.legacyReset_keeps ..) (by decide) (Keeps.refl _ _))) (KeepsP.ite
      (KeepsP.ite (KeepsP.xbAns (KeepsP.step (State.legByte_keeps ..) (by decide) (Keeps.refl _ _))) (KeepsP.step (State.legRefuse_keeps ..) (by
      decide) (Keeps.refl _ _))) (KeepsP.mk (Keeps.refl _ _)))))

theorem State.xbUpdData_keeps (s : State) (v : Nat) : Keeps 1157627904 s (State.xbUpdData s v) := by
  unfold State.xbUpdData
  extract_lets a0_0 a0_1 a0_2 a0_3
  have h_a0_2 : Keeps 1157627904 s a0_2 := (Keeps.step (State.setLeg_keeps ..) (by decide) (Keeps.refl _ _))
  clear_value a0_0 a0_1 a0_2 a0_3
  refine (Keeps.ite (Keeps.step (State.setLeg_keeps ..) (by decide) (Keeps.refl _ _)) ?_)
  split
  · exact (Keeps.step (State.setUpd_keeps ..) (by decide) h_a0_2)
  · exact h_a0_2

theorem State.xbUpdAct_keeps (s : State) (v : Nat) : KeepsP 1610613761 s (State.xbUpdAct s v) := by
  unfold State.xbUpdAct
  refine (KeepsP.ite (KeepsP.mk (Keeps.refl _ _)) ?_)
  extract_lets a0_0 a0_1 a0_2 a0_3
  have h_a0_2 : Keeps 1610613761 s a0_2 := (Keeps.step (State.wr_keeps ..) (by decide) (Keeps.step (State.wr_keeps ..) (by decide) (Keeps.step
      (State.wr_keeps ..) (by decide) (Keeps.refl _ _))))
  have h_a0_3 : Keeps 1610613761 s a0_3 := (Keeps.step (State.wr_keeps ..) (by decide) (Keeps.step (State.wr_keeps ..) (by decide) h_a0_2))
  exact (KeepsP.ite (KeepsP.mk (Keeps.step (State.arm_keeps ..) (by decide) h_a0_3)) (KeepsP.step (State.legRefuse_keeps ..) (by decide) (Keeps.refl
      _ _)))

theorem State.legacyWriteAt_keeps (s : State) (a : Nat) (v : Nat) : KeepsP 2013265919 s (State.legacyWriteAt s a v) := by
  unfold State.legacyWriteAt
  exact (KeepsP.ite (KeepsP.mk (Keeps.refl _ _)) (KeepsP.ite (KeepsP.step (State.xbCtrl_keeps ..) (by decide) (Keeps.refl _ _)) (KeepsP.ite
      (KeepsP.mk (Keeps.refl _ _)) (KeepsP.ite (KeepsP.ite (KeepsP.mk (Keeps.step (State.xbUpdData_keeps ..) (by decide) (Keeps.refl _ _)))
      (KeepsP.ite (KeepsP.step (State.xbUpdAct_keeps ..) (by decide) (Keeps.refl _ _)) (KeepsP.mk (Keeps.refl _ _)))) (KeepsP.step
      (State.legacyWrite_keeps ..) (by decide) (Keeps.refl _ _))))))

theorem State.legacyWriteFrame_keeps (s : State) (a : Nat) (v : Nat) : Keeps 2013265919 s (State.legacyWriteFrame s a v) := by
  unfold State.legacyWriteFrame
  extract_lets a0_0 a0_1
  have h_a0_0 : KeepsP 2013265919 s a0_0 := (KeepsP.step (State.legacyWriteAt_keeps ..) (by decide) (Keeps.step (State.emit_keeps ..) (by decide)
      (Keeps.refl _ _)))
  exact (Keeps.step (State.setLeg_keeps ..) (by decide) h_a0_0)

theorem State.legacyReadFrame_keeps (s : State) (a : Nat) : Keeps 1948288149 s (State.legacyReadFrame s a) := by
  unfold State.legacyReadFrame
  extract_lets a0_0 a0_1 a0_2 a0_3
  have h_a0_0 : KeepsP 1948288149 s a0_0 := (KeepsP.step (State.legacyReadAt_keeps ..) (by decide) (Keeps.step (State.emit_keeps ..) (by decide)
      (Keeps.refl _ _)))
  have h_a0_2 : Keeps 1948288149 s a0_2 := (Keeps.step (State.setHost_keeps ..) (by decide) h_a0_0)
  exact (Keeps.step (State.setLeg_keeps ..) (by decide) h_a0_2)

theorem legacyFrame_keeps (l : List Nat) (s : State) : Keeps 2013265919 s (legacyFrame l s) := by
  unfold legacyFrame
  refine (Keeps.ite (Keeps.refl _ _) ?_)
  refine (Keeps.ite (Keeps.ite (Keeps.step (spiTooShort_keeps ..) (by decide) (Keeps.refl _ _)) (Keeps.refl _ _)) ?_)
  split
  · exact (Keeps.ite (Keeps.step (State.legacyWriteFrame_keeps ..) (by decide) (Keeps.refl _ _)) (Keeps.step (State.legacyReadFrame_keeps ..) (by
      decide) (Keeps.refl _ _)))
  · exact (Keeps.step (State.legacyDiscard_keeps ..) (by decide) (Keeps.refl _ _))

theorem legacyPut_keeps (a : Nat) (v : Nat) (s : State) : Keeps 2013265919 s (legacyPut a v s) := by
  unfold legacyPut
  exact (Keeps.step (legacyFrame_keeps ..) (by decide) (Keeps.refl _ _))

theorem legacyGet_keeps (a : Nat) (s : State) : Keeps 2013265919 s (legacyGet a s) := by
  unfold legacyGet
  exact (Keeps.step (legacyFrame_keeps ..) (by decide) (Keeps.refl _ _))

theorem execLegacyWriteFrame_keeps (bytes : List Byte) (s : State) : KeepsR 2013265919 s (execLegacyWriteFrame bytes s) := by
  unfold execLegacyWriteFrame
  exact (KeepsR.next (Keeps.step (legacyFrame_keeps ..) (by decide) (Keeps.step (fresh_keeps ..) (by decide) (Keeps.refl _ _))))

theorem execLegacyReadFrame_keeps (bytes : List Byte) (s : State) : KeepsR 2013265919 s (execLegacyReadFrame bytes s) := by
  unfold execLegacyReadFrame
  exact (KeepsR.next (Keeps.step (legacyFrame_keeps ..) (by decide) (Keeps.step (fresh_keeps ..) (by decide) (Keeps.refl _ _))))

theorem execLegacyRouteSlotCommit_keeps (k : Byte) (v : Byte) (s : State) : KeepsR 2013265919 s (execLegacyRouteSlotCommit k v s) := by
  unfold execLegacyRouteSlotCommit
  exact (KeepsR.next (Keeps.step (legacyPut_keeps ..) (by decide) (Keeps.step (fresh_keeps ..) (by decide) (Keeps.refl _ _))))

theorem execLegacyMailboxTake_keeps (p : Fin 6) (m : Fin 16) (s : State) : KeepsR 2013265919 s (execLegacyMailboxTake p m s) := by
  unfold execLegacyMailboxTake
  exact (KeepsR.next (Keeps.step (legacyGet_keeps ..) (by decide) (Keeps.step (fresh_keeps ..) (by decide) (Keeps.refl _ _))))

theorem execLegacyMailboxStore_keeps (p : Fin 6) (m : Fin 16) (v : Byte) (s : State) : KeepsR 2013265919 s (execLegacyMailboxStore p m v s) := by
  unfold execLegacyMailboxStore
  exact (KeepsR.next (Keeps.step (legacyPut_keeps ..) (by decide) (Keeps.step (fresh_keeps ..) (by decide) (Keeps.refl _ _))))

theorem execLegacyCounterSnapshot_keeps (k : Fin 10) (s : State) : KeepsR 2013265919 s (execLegacyCounterSnapshot k s) := by
  unfold execLegacyCounterSnapshot
  exact (KeepsR.next (Keeps.step (legacyGet_keeps ..) (by decide) (Keeps.step (fresh_keeps ..) (by decide) (Keeps.refl _ _))))

theorem execLegacyOutDutyWrite_keeps (n : Fin 24) (d : Byte) (s : State) : KeepsR 2013265919 s (execLegacyOutDutyWrite n d s) := by
  unfold execLegacyOutDutyWrite
  exact (KeepsR.next (Keeps.step (legacyPut_keeps ..) (by decide) (Keeps.step (fresh_keeps ..) (by decide) (Keeps.refl _ _))))

theorem execLegacyCanEnable_keeps (p : Fin 6) (listen : Bool) (s : State) : KeepsR 2013265919 s (execLegacyCanEnable p listen s) := by
  unfold execLegacyCanEnable
  exact (KeepsR.next (Keeps.step (legacyPut_keeps ..) (by decide) (Keeps.step (fresh_keeps ..) (by decide) (Keeps.refl _ _))))

theorem execLegacySrst_keeps (s : State) : KeepsR 2013265919 s (execLegacySrst s) := by
  unfold execLegacySrst
  exact (KeepsR.next (Keeps.step (legacyPut_keeps ..) (by decide) (Keeps.step (fresh_keeps ..) (by decide) (Keeps.refl _ _))))

theorem execLegacySleep_keeps (s : State) : KeepsR 2013265919 s (execLegacySleep s) := by
  unfold execLegacySleep
  exact (KeepsR.next (Keeps.step (legacyPut_keeps ..) (by decide) (Keeps.step (fresh_keeps ..) (by decide) (Keeps.refl _ _))))

theorem execLegacyUpdData_keeps (v : Byte) (s : State) : KeepsR 2013265919 s (execLegacyUpdData v s) := by
  unfold execLegacyUpdData
  exact (KeepsR.next (Keeps.step (legacyPut_keeps ..) (by decide) (Keeps.step (fresh_keeps ..) (by decide) (Keeps.refl _ _))))

theorem execLegacyUpdActivate_keeps (s : State) : KeepsR 2013265919 s (execLegacyUpdActivate s) := by
  unfold execLegacyUpdActivate
  exact (KeepsR.next (Keeps.step (legacyPut_keeps ..) (by decide) (Keeps.step (fresh_keeps ..) (by decide) (Keeps.refl _ _))))

/-! ## Load -/

theorem State.bankHolds_keeps (s : State) (d : Option FwDir) : Keeps 16777216 s (State.bankHolds s d) := by
  unfold State.bankHolds
  split
  · exact (Keeps.step (State.setUpd_keeps ..) (by decide) (Keeps.refl _ _))
  · exact (Keeps.refl _ _)

theorem State.fwStart_keeps (s : State) (fails : List Nat) : Keeps 1627398145 s (State.fwStart s fails) := by
  unfold State.fwStart
  extract_lets a0_0 a0_1 a0_2 a0_3 a0_4 a0_5 a0_6 a0_7 a0_8 a0_9 a0_10 a0_11
  have h_a0_7 : Keeps 1627398145 s a0_7 := (Keeps.step (State.setUpd_keeps ..) (by decide) (Keeps.refl _ _))
  have h_a0_8 : Keeps 1627398145 s a0_8 := (Keeps.ite (Keeps.step (State.sticky_keeps ..) (by decide) h_a0_7) h_a0_7)
  have h_a0_10 : Keeps 1627398145 s a0_10 := (Keeps.step (State.setPwr_keeps ..) (by decide) h_a0_8)
  have h_a0_11 : Keeps 1627398145 s a0_11 := (Keeps.ite h_a0_10 (Keeps.step (State.wr_keeps ..) (by decide) h_a0_10))
  exact (Keeps.ite h_a0_11 (Keeps.step (State.wr_keeps ..) (by decide) (Keeps.step (State.wr_keeps ..) (by decide) h_a0_11)))

theorem stepUp_keeps (x : Option Sfdp) (d : Option FwDir) (fails : List Nat) (s : State) : Keeps 1665660337 s (stepUp x d fails s) := by
  unfold stepUp
  refine (Keeps.ite (Keeps.refl _ _) ?_)
  split
  · exact (Keeps.step (State.unconfigured_keeps ..) (by decide) (Keeps.step (State.cfgErr_keeps ..) (by decide) (Keeps.refl _ _)))
  · refine (Keeps.ite (Keeps.step (State.unconfigured_keeps ..) (by decide) (Keeps.step (State.cfgErr_keeps ..) (by decide) (Keeps.refl _ _))) ?_)
    extract_lets a2_0 a2_1 a2_2 a2_3
    have h_a2_1 : Keeps 1665660337 s a2_1 := (Keeps.step (State.setPins_keeps ..) (by decide) (Keeps.refl _ _))
    have h_a2_2 : Keeps 1665660337 s a2_2 := (Keeps.step (State.fwStart_keeps ..) (by decide) (Keeps.step (State.bankHolds_keeps ..) (by decide)
        h_a2_1))
    exact (Keeps.step (State.setCfg_keeps ..) (by decide) h_a2_2)

theorem execNvmSfdpStepUp_keeps (x : Option Sfdp) (fw : Option FwDir) (fails : List Byte) (s : State) : KeepsR 1665660337 s (execNvmSfdpStepUp x fw
    fails s) := by
  unfold execNvmSfdpStepUp
  exact (KeepsR.next (Keeps.step (stepUp_keeps ..) (by decide) (Keeps.step (fresh_keeps ..) (by decide) (Keeps.refl _ _))))

theorem slotSelect_keeps (a : SlotImage) (b : SlotImage) (s : State) : Keeps 1715987889 s (slotSelect a b s) := by
  unfold slotSelect
  exact (Keeps.ite (Keeps.step (State.phase0_keeps ..) (by decide) (Keeps.refl _ _)) (Keeps.refl _ _))

theorem execConfigSlotSelect_keeps (a : SlotImage) (b : SlotImage) (s : State) : KeepsR 1715987889 s (execConfigSlotSelect a b s) := by
  unfold execConfigSlotSelect
  exact (KeepsR.next (Keeps.step (slotSelect_keeps ..) (by decide) (Keeps.step (fresh_keeps ..) (by decide) (Keeps.refl _ _))))

theorem phaseInstall_keeps (k : Nat) (s : State) : Keeps 2013265919 s (phaseInstall k s) := by
  unfold phaseInstall
  exact (Keeps.ite (Keeps.step (State.installPhase_keeps ..) (by decide) (Keeps.refl _ _)) (Keeps.refl _ _))

theorem execConfigPhaseInstall_keeps (k : Fin 3) (s : State) : KeepsR 2013265919 s (execConfigPhaseInstall k s) := by
  unfold execConfigPhaseInstall
  exact (KeepsR.next (Keeps.step (phaseInstall_keeps ..) (by decide) (Keeps.step (fresh_keeps ..) (by decide) (Keeps.refl _ _))))

end Sys2Proof.Machine
end

