-- ==== Sys2Proof/Laws/Open.lean ====
section
/-! SUPPORT. What an access does that the common rules let through: the write of a command of its own, the write of 1 to a CMD field, and
the read that acts. -/

namespace Sys2Proof.Machine

variable {s : State} {init : Initiator} {w ofs : Nat} {f : Field}

theorem Initiator_code_mp : init.code = initMp ↔ init = .mp := by
  cases init <;> simp [Initiator.code, initMp, initSpi, initPcie, initJtag, initPeer] <;> omega

theorem Initiator_code_spi : init.code = initSpi ↔ init = .spi := by
  cases init <;> simp [Initiator.code, initMp, initSpi, initPcie, initJtag, initPeer] <;> omega

theorem Initiator_code_jtag : init.code = initJtag ↔ init = .jtag := by
  cases init <;> simp [Initiator.code, initMp, initSpi, initPcie, initJtag, initPeer] <;> omega

theorem WriteOpen.not_ignored (h : WriteOpen s init w ofs) : s.writeIgnored w ofs = false := by
  obtain ⟨_, h1, h2, h3, _⟩ := h
  have : (unitOf w).isNone = false := by cases hu : unitOf w <;> simp_all
  have : ¬ ofs < 0x20 := by omega
  simp [State.writeIgnored, *, usReady, usOff]

theorem WriteOpen.no_kinds (h : WriteOpen s init w ofs) : s.commonKinds init.code w ofs = [] := by
  obtain ⟨_, _, _, h3, h4, h5, h6⟩ := h
  have a : (init.code == initJtag && decide (s.debugLevel < 2)) = false := by
    by_cases hj : init = .jtag
    · have := h4 hj; simp; intro _; omega
    · simp [Initiator_code_jtag, hj]
  have b : s.roHere init.code w = false := by
    unfold State.roHere
    by_cases hm : s.pwr.mode = 2
    · by_cases hl : isLegacy w = true
      · rcases h5 hm hl with h | h <;> simp [h, Initiator.code]
      · simp [hl]
    · simp [hm]
  have c : (decide (0x100 ≤ ofs) && init.code != initMp && s.on w UNIT_CTRL.LOCK) = false := by
    by_cases ho : 0x100 ≤ ofs
    · rcases h6 ho with h | h
      · simp [h, Initiator.code]
      · simp [h]
    · simp [ho]
  simp only [State.commonKinds, a, b, c, whenK, h3]
  simp [usReady, usHeld, usLoading]

/-- A write of a register that is open is decided by its card's own refusals alone; what is carried out finds fresh parity. -/
theorem WriteOpen.cmdWrite (h : WriteOpen s init w ofs) (data : Nat) (kinds : List Kind) (g : State → State) :
    s.cmdWrite init.code w ofs data kinds g = match firstKind kinds with
      | some k => (s.violate w init.code k true (w * 4096 + ofs) data).endAccess init.code
      | none => g (s.freshParity w ofs) :=
  State.cmdWrite_open s h.1 h.not_ignored h.no_kinds data kinds g

theorem WriteOpen.done (h : WriteOpen s init w ofs) {kinds : List Kind} (hk : kinds = []) (data : Nat) (g : State → State) :
    s.cmdWrite init.code w ofs data kinds g = g (s.freshParity w ofs) := by
  rw [h.cmdWrite, hk]; rfl

theorem CmdOpen.done (h : CmdOpen s init w f) {kinds : List Kind} (hk : kinds = []) (g : State → State) :
    s.cmdField init.code w f kinds g = g (s.freshParity w f.byteOfs) := by
  unfold State.cmdField
  exact h.1.done (by simp [hk, whenK, h.2]) _ _

/-- Opening is about the registers, the pins and the mode, not about the outputs. -/
@[simp] theorem WriteOpen_fresh : WriteOpen (fresh s) init w ofs ↔ WriteOpen s init w ofs := Iff.rfl
@[simp] theorem CmdOpen_fresh : CmdOpen (fresh s) init w f ↔ CmdOpen s init w f := Iff.rfl
@[simp] theorem ReadOpen_fresh : ReadOpen (fresh s) init w ↔ ReadOpen s init w := Iff.rfl

/-- A read that is served answers what its register gives. -/
theorem ReadOpen.served (h : ReadOpen s init w) (ofs len : Nat) (g : State → State × List Nat) :
    s.cmdRead init.code w ofs len g = (g s).1.emit (.readData init.code (g s).2) := by
  obtain ⟨h0, h1, h2, h3⟩ := h
  have h4 : (unitOf w).isNone = false := by cases hu : unitOf w <;> simp_all
  have a : (init.code == initJtag && decide (s.debugLevel < 1)) = false := by
    by_cases hj : init = .jtag
    · have := h3 hj; simp; intro _; omega
    · simp [Initiator_code_jtag, hj]
  have b : (s.unitState w == usOff) = false := by simp [h2]
  simp only [State.cmdRead, h0, h4, a, b, Bool.not_true, Bool.or_self, Bool.false_eq_true, if_false]

end Sys2Proof.Machine
end

