-- ==== Sys2Proof/Laws/Parts.lean ====
section
/-! SUPPORT. What a part outside the mask of an operation reads as after it. -/

namespace Sys2Proof.Machine

variable {m : Nat} {a b : State}

theorem Keeps.same (h : Keeps m a b) (p : Part) (hm : m.testBit p.code = false) : sameIn a b p := h.2.2 p hm

theorem Keeps.queue (h : Keeps m a b) : b.pending = a.pending := h.1
theorem Keeps.regs (h : Keeps m a b) (hm : m.testBit 0 = false) : b.regs = a.regs := (h.2.2 .regs hm).1
theorem Keeps.parity (h : Keeps m a b) (hm : m.testBit 0 = false) : b.parity = a.parity := (h.2.2 .regs hm).2
theorem Keeps.wbuf (h : Keeps m a b) (hm : m.testBit 1 = false) : b.wbuf = a.wbuf := h.2.2 .wbuf hm
theorem Keeps.holds (h : Keeps m a b) (hm : m.testBit 2 = false) : b.holds = a.holds := h.2.2 .holds hm
theorem Keeps.fans (h : Keeps m a b) (hm : m.testBit 3 = false) : b.fans = a.fans := h.2.2 .fans hm
theorem Keeps.cfg (h : Keeps m a b) (hm : m.testBit 5 = false) : b.cfg = a.cfg := h.2.2 .cfg hm
theorem Keeps.bench (h : Keeps m a b) (hm : m.testBit 6 = false) : b.bench = a.bench := h.2.2 .bench hm
theorem Keeps.fab (h : Keeps m a b) (hm : m.testBit 7 = false) : b.fab = a.fab := h.2.2 .fab hm
theorem Keeps.eth (h : Keeps m a b) (hm : m.testBit 8 = false) : b.eth = a.eth := h.2.2 .eth hm
theorem Keeps.tbl (h : Keeps m a b) (hm : m.testBit 9 = false) : b.tbl = a.tbl := h.2.2 .tbl hm
theorem Keeps.flt (h : Keeps m a b) (hm : m.testBit 10 = false) : b.flt = a.flt := h.2.2 .flt hm
theorem Keeps.ax0 (h : Keeps m a b) (hm : m.testBit 11 = false) : b.ax0 = a.ax0 := h.2.2 .ax0 hm
theorem Keeps.pwr (h : Keeps m a b) (hm : m.testBit 13 = false) : b.pwr = a.pwr := h.2.2 .pwr hm
theorem Keeps.body (h : Keeps m a b) (hm : m.testBit 14 = false) : b.body = a.body := h.2.2 .body hm
theorem Keeps.can (h : Keeps m a b) (hm : m.testBit 15 = false) : b.can = a.can := h.2.2 .can hm
theorem Keeps.lin (h : Keeps m a b) (hm : m.testBit 16 = false) : b.lin = a.lin := h.2.2 .lin hm
theorem Keeps.wake (h : Keeps m a b) (hm : m.testBit 17 = false) : b.wake = a.wake := h.2.2 .wake hm
theorem Keeps.guard (h : Keeps m a b) (hm : m.testBit 18 = false) : b.guard = a.guard := h.2.2 .guard hm
theorem Keeps.gw (h : Keeps m a b) (hm : m.testBit 19 = false) : b.gw = a.gw := h.2.2 .gw hm
theorem Keeps.trust (h : Keeps m a b) (hm : m.testBit 20 = false) : b.trust = a.trust := h.2.2 .trust hm
theorem Keeps.stamps (h : Keeps m a b) (hm : m.testBit 21 = false) : b.stamps = a.stamps := h.2.2 .stamps hm
theorem Keeps.axes (h : Keeps m a b) (hm : m.testBit 22 = false) : b.axes = a.axes := h.2.2 .axes hm
theorem Keeps.evp (h : Keeps m a b) (hm : m.testBit 23 = false) : b.evp = a.evp := h.2.2 .evp hm
theorem Keeps.upd (h : Keeps m a b) (hm : m.testBit 24 = false) : b.upd = a.upd := h.2.2 .upd hm
theorem Keeps.drk (h : Keeps m a b) (hm : m.testBit 25 = false) : b.drk = a.drk := h.2.2 .drk hm
theorem Keeps.clk (h : Keeps m a b) (hm : m.testBit 27 = false) : b.clk = a.clk := h.2.2 .clk hm
theorem Keeps.draws (h : Keeps m a b) (hm : m.testBit 28 = false) : b.draws = a.draws := h.2.2 .draws hm
theorem Keeps.outs (h : Keeps m a b) (hm : m.testBit 29 = false) : b.outs = a.outs := h.2.2 .outs hm
theorem Keeps.pins_rstLow (h : Keeps m a b) (hm : m.testBit 12 = false) : b.pins.rstLow = a.pins.rstLow := by
  have e := h.same .pins hm
  simp only [sameIn, PinSt.mk.injEq, true_and] at e
  exact e.1
theorem Keeps.pins_bor (h : Keeps m a b) (hm : m.testBit 12 = false) : b.pins.bor = a.pins.bor := by
  have e := h.same .pins hm
  simp only [sameIn, PinSt.mk.injEq, true_and] at e
  exact e.2.1
theorem Keeps.pins_pwrEn (h : Keeps m a b) (hm : m.testBit 12 = false) : b.pins.pwrEn = a.pins.pwrEn := by
  have e := h.same .pins hm
  simp only [sameIn, PinSt.mk.injEq, true_and] at e
  exact e.2.2.1
theorem Keeps.pins_pgood (h : Keeps m a b) (hm : m.testBit 12 = false) : b.pins.pgood = a.pins.pgood := by
  have e := h.same .pins hm
  simp only [sameIn, PinSt.mk.injEq, true_and] at e
  exact e.2.2.2.1
theorem Keeps.pins_gxRun (h : Keeps m a b) (hm : m.testBit 12 = false) : b.pins.gxRun = a.pins.gxRun := by
  have e := h.same .pins hm
  simp only [sameIn, PinSt.mk.injEq, true_and] at e
  exact e.2.2.2.2.1
theorem Keeps.pins_heartbeat (h : Keeps m a b) (hm : m.testBit 12 = false) : b.pins.heartbeat = a.pins.heartbeat := by
  have e := h.same .pins hm
  simp only [sameIn, PinSt.mk.injEq, true_and] at e
  exact e.2.2.2.2.2.1
theorem Keeps.pins_attempts (h : Keeps m a b) (hm : m.testBit 12 = false) : b.pins.attempts = a.pins.attempts := by
  have e := h.same .pins hm
  simp only [sameIn, PinSt.mk.injEq, true_and] at e
  exact e.2.2.2.2.2.2.1
theorem Keeps.pins_offTime (h : Keeps m a b) (hm : m.testBit 12 = false) : b.pins.offTime = a.pins.offTime := by
  have e := h.same .pins hm
  simp only [sameIn, PinSt.mk.injEq, true_and] at e
  exact e.2.2.2.2.2.2.2.1
theorem Keeps.pins_startWanted (h : Keeps m a b) (hm : m.testBit 12 = false) : b.pins.startWanted = a.pins.startWanted := by
  have e := h.same .pins hm
  simp only [sameIn, PinSt.mk.injEq, true_and] at e
  exact e.2.2.2.2.2.2.2.2.1
theorem Keeps.pins_sfdpDone (h : Keeps m a b) (hm : m.testBit 12 = false) : b.pins.sfdpDone = a.pins.sfdpDone := by
  have e := h.same .pins hm
  simp only [sameIn, PinSt.mk.injEq, true_and] at e
  exact e.2.2.2.2.2.2.2.2.2.1
theorem Keeps.pins_flashMode (h : Keeps m a b) (hm : m.testBit 12 = false) : b.pins.flashMode = a.pins.flashMode := by
  have e := h.same .pins hm
  simp only [sameIn, PinSt.mk.injEq, true_and] at e
  exact e.2.2.2.2.2.2.2.2.2.2
theorem Keeps.gxOn (h : Keeps m a b) (hm : m.testBit 12 = false) : b.gxOn = a.gxOn := h.pins_gxRun hm
theorem Keeps.rd (h : Keeps m a b) (hm : m.testBit 0 = false) (w : Nat) (f : Field) (i : Nat) : b.rd w f i = a.rd w f i :=
  State.rd_congr (h.regs hm) w f i

/-- What an answer of a command changes is at most what its lemma says. -/
theorem KeepsR.frame {c : Instr} {l : List Part} (h : ∀ s, KeepsR m s (exec c s))
    (hl : ∀ p, p ∉ l → m.testBit p.code = false) : FrameOf c l := fun s t e p hp => ((h s).keeps t e).2.2 p (hl p hp)

end Sys2Proof.Machine
end

