-- ==== Sys2Proof/Tests/Slice0.lean ====
section
/-! SUPPORT. Tests: states and operands that meet the hypotheses of the statements, clause by clause; a term that each check of WellFormed
refuses; single steps with values from the spec's text. -/

open Sys2Proof Sys2Proof.Machine

namespace Sys2Proof.Tests

set_option Elab.async false

/-- A state whose window w is open to every initiator: the block runs, the unit is READY and not locked, the mode is native. -/
def up (s : State) (w : Nat) : State :=
  ((((s.setPins { s.pins with gxRun := true, heartbeat := true }).setPwr { s.pwr with mode := 0, mpRun := true }).setLeg { s.leg with framing := false }).wr w DESC_STATE.STATE usReady).wr w UNIT_CTRL.LOCK 0

def anItem : PipeItem :=
  { fid := 1, stage := .atFilter, gen := 0, data := [1, 2, 3, 4, 5, 6, 7, 8], plan := .none, tc := none, ydei := false, frerGen := none,
    frerCut := false, vid := 0, strip := 0, secured := false, routed := false, inCtx := 0, cand := none, ring := none, ringTc := 0, ask := none,
    evt := false, made := false, ready := [] }

def aFrame : Frame :=
  { fid := 1, cells := 1, src := 0x23, data := [1, 2, 3, 4, 5, 6, 7, 8], stampSec := 0, stampNs := 0, can := none, lin := some 9,
    pduBuild := false, isOpen := false, len := 12, ecc := false, refs := 1, last := 0 }

/-- Route i of both Benches leads to signal engine e only. -/
def toEngine (s : State) (i e : Nat) : State :=
  [0, 1].foldl (fun s g => (((((s.setEnt g wRoute RT_ENTRY.VALID i 1).setEnt g wRoute RT_ENTRY.KIND i 0).setEnt g wRoute RT_ENTRY.DCOUNT i 1).setEnt
    g wRoute RT_ENTRY.DL_INDEX i 5).setEnt g wDlist DL_ENTRY.LAST 5 1).setEnt g wDlist DL_ENTRY.PORT 5 (0x50 + e))
    (((s.setBench { s.bench with phase := .idle }).wr wRoute DESC_STATE.STATE usReady).setUpd { s.upd with recovery := [], todo := [] })

/-- The pipeline holds one item. -/
def onlyItem (s : State) (it : PipeItem) (f : Frame) : State := s.setFab { s.fab with pipe := [it], frames := [f] }

/-- An item of LIN identifier id of port 3 whose route leads to engine e. -/
def linItem (s : State) (it : PipeItem) (f : Frame) (id : Fin 64) (e : Fin 4) : State :=
  onlyItem ((((toEngine s (256 + 64 * (f.src - 0x20) + id) e).wr wRoute RT_LIN_BASE.BASE 256).wr wRoute RT_LIN_BASE.VALID 1).setBank it.gen
    ((toEngine s (256 + 64 * (f.src - 0x20) + id) e).bank it.gen)) it f

def aCopy : Copy :=
  { cid := 1, fid := 1, dest := 0, src := 1, tc := 3, cells := 1, data := [1, 2, 3, 4, 5, 6, 7, 8], can := none, linId := 0, outCtx := 0,
    wrap := none, pdu := [1, 2], ct := false, sealed := false, mirror := false, pduBuild := false, stamp := none, evt := false, inSlot := false, enq := 0,
    ingressBad := false, ovr := false, passed := 0, untimed := false }

def aCan : CanHdr :=
  { fmt := 0, dlc := 0, ide := false, id := 0x123, rtr := false, brs := false, esi := false, sdt := 0, vcid := 0, sec := false, af := 0 }

/-- A usable CMAC key of 128 bits in slot k. -/
def cmacKey (s : State) (k : Nat) : State :=
  let s := (((s.wr wKS KS_ATTR.VALID 1 k).wr wKS KS_ATTR.ROOT 1 k).wr wKS KS_ATTR.CMAC 1 k).wr wKS KS_ATTR.LEN 0 k
  (s.setTrust { s.trust with otp := 2, service := false, roots := [(1, 7)] }).setPwr { s.pwr with tampered := false }

/-- Context c is ready in both Benches, with a latest value and a ceiling. -/
def authUp (s : State) (c dir v ceil : Nat) : State :=
  let s := [0, 1].foldl (fun s g => (((((s.setEnt g wAuth AUTH_CTX.VALID c 1).setEnt g wAuth AUTH_CTX.DIR c dir).setEnt g wAuth
    AUTH_CTX.AUTH_LEN c 0).setEnt g wAuth AUTH_CTX.KEY c 6).setEnt g wAuth AUTH_CTX.ACC_WIN c 9).setEnt g wAuth AUTH_CTX.TFV_BITS c 8)
    ((cmacKey s 6).setUpd { s.upd with recovery := [], todo := [] })
  (((s.wr wAuth AUTH_FV.FV v c).setAonFv c v (v + ceil)).setFvState c fvSync).setGuard
    { ((s.wr wAuth AUTH_FV.FV v c).setAonFv c v (v + ceil)).guard with ceilPend := [] }

def aWay : L2Way :=
  { bucket := 5, fid := 5, mac := 0x1234, static := false, act := false, h := 0, tag := 3, dropMove := false, dlist := false, dest := 2 }

/-- The tables' windows are open, and an initiator holds the staging lock. -/
def tabUp (s : State) (init : Initiator) : State :=
  let s := (((up (up (up s wTables) wL2) wSeam).wr wL2 L2_CMD.GO 0).wr wSeam SEAM_CMD.GO 0).wr wSeam SEAM_PLEN.PLEN 24
  ((s.wr wTables TBL_OWNER.OWNER init.code).wr wTables TBL_STAT.BUSY 0).setBench { s.bench with touched := [], ovf := [] }

/-- CAN port p in a state of its table, its windows open, the fastest legal timing of classical frames. -/
def canUp (s : State) (p st : Nat) : State :=
  let s := ((((up (up s (wCanT p)) (wCan p)).wr (wCan p) CAN_STATE.STATE st).wr (wCan p) CAN_NBT.BRP 4).wr (wCan p) CAN_NBT.TSEG1 30).wr
    (wCan p) CAN_NBT.TSEG2 10
  (((s.wr (wCan p) CAN_CTRL.RECOVER 0).wr (wCan p) CAN_CFG.LISTEN_ONLY 0).wr (wCanT p) CANT_MODE.MODE 0).setBench { s.bench with phase := .idle, holdOn := false }

def canRx (d : List Byte) : CanRx :=
  { fmt := 0, dlc := 3, ide := false, id := 0x123, rtr := false, brs := false, esi := false, sdt := 0, vcid := 0, sec := false, af := 0,
    data := d, age := 100 }

/-- LIN port p in a state of its table, its windows open, no slot and nothing pending. -/
def linUp (s : State) (p st : Nat) : State :=
  let s := (((up (up s (wLinT p)) (wLin p)).wr (wLin p) LIN_SCHED_STAT.STATE st).wr (wLin p) LIN_CFG.EN 1).wr (wLinT p) LINT_CTRL.MODE 0
  s.setLin { s.lin with slot := [], owner := [], pendTab := [], collTab := [], sleepDue := [] }

/-- Signal entry i of both Benches is in use: 8 bits at position 3 of its PDU, with a timeout. -/
def sigUp (s : State) (i : Nat) : State :=
  let s := (s.setPins { s.pins with gxRun := true }).setUpd { s.upd with recovery := [], todo := [] }
  let s := (s.setBench { s.bench with phase := .idle }).setGw { s.gw with exq := [], bq := [], served := [] }
  let s := [0, 1, 2, 3].foldl (fun s e => s.wr (wSE e) DESC_STATE.STATE usReady) s
  [0, 1].foldl (fun s g => (((((s.setEnt g wSignal SIG_ENTRY.VALID i 1).setEnt g wSignal SIG_ENTRY.SRC i 0).setEnt g wSignal SIG_ENTRY.LEN i
    8).setEnt g wSignal SIG_ENTRY.IN_START i 3).setEnt g wSignal SIG_ENTRY.TIMEOUT i 50).setEnt g wSignal SIG_ENTRY.SIGNED i 0) s

/-- PDU entry j of both Benches runs on engine e: 8 bytes, cyclic, one destination. -/
def pduUp (s : State) (j e : Nat) : State :=
  [0, 1].foldl (fun s g => ((((((s.setEnt g wPdu PDU_ENTRY.VALID j 1).setEnt g wPdu PDU_ENTRY.LEN j 8).setEnt g wPdu PDU_ENTRY.SE j e).setEnt g
    wPdu PDU_ENTRY.MODE j 1).setEnt g wPdu PDU_ENTRY.PERIOD j 10).setEnt g wPdu PDU_ENTRY.DCOUNT j 1).setEnt g wPdu PDU_ENTRY.DL_INDEX j 5)
    (sigUp s 77)

/-- Destination entry 5 of both Benches is CAN port p. -/
def toCan (s : State) (p : Nat) : State :=
  [0, 1].foldl (fun s g => (((s.setEnt g wDlist DL_ENTRY.LAST 5 1).setEnt g wDlist DL_ENTRY.PORT 5 (0x10 + p)).setEnt g wDlist
    DL_ENTRY.OUT_FMT 5 0).setEnt g wDlist DL_ENTRY.OUT_CTX 5 0) s

/-- Channel n in a protection state, in NORMAL, with a period and a duty. -/
def chUp (s : State) (n p : Nat) : State :=
  (((((up s (wCh n)).wr (wCh n) CH_STATE.CTRL ctrlNormal).wr (wCh n) CH_STATE.PROT p).wr (wCh n) CH_PERIOD.PERIOD 5000).wr (wCh n) CH_DUTY.DUTY
    65535).wr (wCh n) CH_RETRY_CNT.COUNT 0

/-- Motion engine k in a state, its bridge's channels in NORMAL. -/
def meUp (s : State) (k st : Nat) : State :=
  (((up (up (up s (wCh (2 * k))) (wCh (2 * k + 1))) (wME k)).wr (wCh (2 * k)) CH_STATE.CTRL ctrlNormal).wr (wCh (2 * k + 1)) CH_STATE.CTRL
    ctrlNormal).wr (wME k) ME_STATE.STATE st

/-- Engine k drives forward, closing, with every sample of its windows at zero current and speed. -/
def pinchUp (s : State) (k : Nat) : State :=
  let s := ((((meUp s k meDrive).wr (wME k) ME_CFG.PINCH_EN 1).wr (wME k) ME_CFG.CLOSE_DIR 1).wr (wME k) ME_STATE.DIRN 0).wr (wME k)
    ME_PINCH_WIN.BASE_WIN 2
  let s := (((s.wr (wME k) ME_BLANK.BLANK 1).wr (wME k) ME_PINCH_K.KI 100).wr (wME k) ME_PINCH_K.KS 1).wr (wME k) ME_PINCH_LIM.F_LIM 5
  let s := (((s.wr (wME k) ME_ZONE.ZONE_LO 0).wr (wME k) ME_ZONE.ZONE_HI 1000).wr (wME k) ME_POS.POS 10).wr (wME k) ME_REV.REV_BRK 5
  (s.wr (wME k) ME_SPEED.SPEED 0).mapMe k fun m => { m with samples := List.replicate 8 (0, 0) }

/-- Axis n in a state, with a source kind; its units are READY. -/
def axUp (s : State) (n src st : Nat) : State :=
  let s := ((up (up s (wAx n)) wEvp).wr (wAx n) AX_CFG.EN (if st = axOff then 0 else 1)).wr (wAx n) AX_CFG.SRC src
  let s := ((s.wr (wAx n) AX_CFG.KIND (if src = 1 then 1 else 0)).wr (wAx n) AX_CFG.FILT 0).setAxState n st
  let s := (s.wr wSignal DESC_STATE.STATE usReady).wr (wME 2) DESC_STATE.STATE usReady
  (((s.wr (wSW 3) DESC_STATE.STATE usReady).wr (wSW 4) DESC_STATE.STATE usReady).wr (wAx n) AX_SRC.UNIT_A (if src = 2 then 2 else 3)).wr
    (wAx n) AX_SRC.UNIT_B 4

/-- Event i, idle and selected: rising on AX3, MARK, no repetition. -/
def evUp (s : State) (i axis : Nat) : State :=
  let s := ((((axUp s 3 4 axRun).setEvp ⟨[], []⟩).wr wEvp EVP_SEL.EVENT i).wr wEvp EVP_ENTRY.AXIS axis i).wr wEvp EVP_ENTRY.ACTION 0 i
  let s := ((s.wr wEvp EVP_ENTRY.DIR 1 i).wr wEvp EVP_ENTRY.REPEAT 0 i).wr wEvp EVP_ENTRY.LATE_ACT 0 i
  ((s.wr wEvp EVP_ENTRY.EXACT 0 i).wr wEvp EVP_ENTRY.POS 4096 i).wr wEvp EVP_GROUP.GROUP (s.rd wEvp EVP_ENTRY.GROUP i)

/-- The event, armed. -/
def evAt (s : State) (i axis : Nat) (target : Int) (timed : Bool) : State :=
  ((evUp s i axis).wr wEvp EVP_STATE.ARMED 1 i).setEvp ⟨[(i, ⟨target, true, timed⟩)], []⟩

/-- Channel k is valid on a port in a direction, no association enabled. -/
def scUp (s : State) (k dir port : Nat) : State :=
  let s := ((s.setGuard { s.guard with secyPend := [] }).setFab { s.fab with reader := [] }).setEth { s.eth with rxOpen := [] }
  let s := (List.range 32).foldl (fun s j => s.wr wMacsec MSEC_SC.VALID 0 j) (up s wMacsec)
  let s := ((((s.wr wMacsec MSEC_SC_SEL.SC k).wr wMacsec MSEC_SC.VALID 1 k).wr wMacsec MSEC_SC.DIR dir k).wr wMacsec MSEC_SC.PORT port k).wr
    wMacsec MSEC_SC_STATE.ENC_SA 0 k
  let s := (((s.wr wMacsec MSEC_SA.EN 0 (2 * k)).wr wMacsec MSEC_SA.EN 0 (2 * k + 1)).wr wMacsec MSEC_SA.AN 0 (2 * k)).wr wMacsec MSEC_SA.AN 1
    (2 * k + 1)
  ((s.wr wMacsec MSEC_SC_CTRL.SWITCH 0 k).wr wMacsec MSEC_SA_SEL.SA 0).setScState k scOff

/-- Network n is managed by cluster 0, in a state; RUN, nothing requested, no hold, no source wakes the power. -/
def wkUp (s : State) (n st : Nat) : State :=
  let s := ((up s wWake).wr wPwr PWR_STATE.PEND 0).wr wWake WK_PNC_LOCAL.LOCAL 0
  let s := (s.wr wWake (WK_NET.MEMBER.elem n) 1).wr wWake (WK_NET_STATE.STATE.elem n) st
  let s := ((s.wr wWake (WK_ROUTE.PWR.elem n) 0).wr wWake (WK_ROUTE.PNC.elem n) 1).wr wWake (WK_NET_DLY.DELAY.elem n) 5
  let s := s.setWake { s.wake with
    pncHold := [], netHold := [], delay := [], late := [], ring := [], sleepInd := [], tTyp := [], ackDue := [], limpInd := [], alive := [],
    linWake := [], wioPulse := false, wioEnd := none }
  s.setPwr { s.pwr with state := .run, entryStep := none }

/-- CAN port p takes part in its ring as node 5; node 9 is present. -/
def ringUp (s : State) (p st : Nat) : State :=
  let s := canUp (wkUp s (16 + p) st) p canActive
  let s := ((s.wr wWake WK_NM_SEL.PORT p).wr wWake WK_NM_CFG.NODE 5 p).wr wWake WK_NM_PRESENT.PRESENT 512 p
  (s.wr wWake WK_NM_CFG.NM_EN 1 p).setWake { s.wake with ring := [p], tTyp := [p] }

/-- RUN with GX running, MP running, no entry, no pending PARK, no TAMPERED mark; every network asleep and nothing requested. -/
def parkUp (s : State) : State :=
  let s := ((((up (up s wPwr) wSup).wr wPwr PWR_CTRL.PARK 0).wr wPwr PWR_STATE.PEND 0).wr wPwr PWR_CTRL.SOFT 0).wr wWake WK_PNC_LOCAL.LOCAL 0
  let s := (List.range 44).foldl (fun s n => (s.wr wWake (WK_NET.MEMBER.elem n) 1).wr wWake (WK_NET_STATE.STATE.elem n) nsAsleep) s
  let s := (List.range 6).foldl (fun s k => s.wr (wME k) ME_STATE.STATE meIdle) s
  let s := ((s.setWake { s.wake with pncHold := [], netHold := [] }).wr wLC LC_STATE.DBG 0).wr wUpd UPD_FW_STAT.TRIAL 0
  s.setPwr { s.pwr with state := .run, entryStep := none, tampered := false, mpRun := true }

/-- The initiator owns the message buffer; no operation runs. -/
def trmUp (s : State) (init : Initiator) : State :=
  let s := ((up s wAttest).wr wAttest TRM_OWNER.OWNER init.code).wr wAttest TRM_CMD.GO 0
  s.setTrust { s.trust with run := none, otp := 2, service := false }

/-- Operation op runs; its checks gave result r. -/
def running (s : State) (op r : Nat) : State :=
  (trmUp s .mp).setTrust { (trmUp s .mp).trust with run := some ⟨op, [0, 0, 0, 0, op, 2], r⟩ }

/-- The selected slot is k; its shadow is in a state, its lease held by the initiator. -/
def ksUp (s : State) (init : Initiator) (k st : Nat) : State :=
  let s := (((up s wKS).wr wKS KS_SEL.SLOT k).setShState k st).wr wKS KS_CMD.COMMIT 0
  let s := ((s.wr wKS KS_CMD.DISCARD 0).wr wKS KS_CMD.PERSIST 0).wr wKS KS_SH_STATE.SH_LEN 24 k
  s.setTrust { s.trust with shOwner := [(k, init.code)], unwrapping := [], persist := none, otp := 2 }

/-- A staging area in a state, an inbox, nothing forwarded. -/
def updUp (s : State) (st : Nat) : State :=
  let s := ((((up s wUpd).setStg st).wr wUpd UPD_FW_STAT.TRIAL 0).wr wUpd UPD_CHAIN.DOWN 31).wr wUpd UPD_FW_CTRL.RECOVER 0
  let s := (((s.wr wUpd UPD_FW_CTRL.ARM 0).wr wUpd UPD_FW_CTRL.CANCEL 0).wr wUpd UPD_FW_CTRL.DISCARD 0).wr wUpd UPD_FW_CTRL.CONFIRM 0
  let s := ((s.wr wUpd UPD_ACT_TGT.TYPES 0).wr wUpd UPD_ACT_TGT.CFG 0).wr wUpd UPD_ACT_TIME.SEC (s.ax0.sec + 100)
  s.setUpd { s.upd with inbox := [], fwd := [], dead := [], acks := [], todo := [], kind := 1, stream := 7, stored := 2, newImage := none }

/-- A block of stream 7 with its right CRC. -/
def aBlock (blk : Nat) (d : List Nat) : UpdBlock :=
  { port := none, stream := 7, blk := blk, kind := 1, data := d,
    crc := crc32c 0xFFFFFFFF (blockBytes { port := none, stream := 7, blk := blk, kind := 1, data := d, crc := 0 }) }

/-- Peer n in a state; KMP runs on its port; nothing waits. -/
def drkUp (s : State) (n st : Nat) : State :=
  let s := ((((up s wDerrick).wr wDerrick DRK_CFG.EN 1).wr (wEth n) ETH_CFG.KMP_EN 1).wr (wEth n) ETH_STATE.STATE 2).setPeerState n st
  let s := ((s.wr wDerrick DRK_PEER.VER 0x11 n).wr wDerrick DRK_PEER.FEAT 15 n).wr wDerrick DRK_PEER.EVT_EN 1 n
  s.setDrk { s.drk with peers := [], reads := [], readQ := [], held := [], fetchQ := [] }

/-- A KMP frame of a TYPE with its payload, the first of its lane. -/
def aKmp (ty : Nat) (b : List Byte) : KmpRx :=
  { sa := 5, ver := 0x11, lane := BitVec.ofNat 8 (laneOf ty * 64), flags := 0, seq := 0, ackP := 0, ackC := 0, ackR := 0,
    plen := BitVec.ofNat 16 b.length, tag := 9, fence := 0, body := b }

def aRead (why : ReadFor) (peer : Nat) (sent : Bool) : OutRead :=
  { why := why, peer := peer, tag := 9, origin := 2, win := 0, addr := 0x341031, len := 1, want := 0x341031, wantLen := 1, pre := [],
    spec := false, sent := sent, began := 0 }

/-- UNCONFIGURED is over, and the SPI face carries the legacy framing in mode m. -/
def legUp (s : State) (m : Nat) : State :=
  let s := ((up s wRoot).wr wUpd UPD_CFG_STAT.UNCFG 0).wr wSup SUP_STRAP.MODE_CODE m
  (s.setLeg { s.leg with framing := true }).setPwr { s.pwr with mode := m }
/-- Every clause of SupplyAndGxPowerComplete has a state and operands that meet its hypotheses. -/
theorem witness_SupplyAndGxPowerComplete :
    (∃ (s : State), s.pwr.state = .off) ∧
    (∃ (s : State), s.pwr.state ≠ .off) ∧
    (∃ (s : State), s.pwr.state ≠ .off ∧ s.pins.bor = false) ∧
    (∃ (s : State), s.pwr.state = .backup) ∧
    (∃ (s : State), s.pins.pwrEn = true) ∧
    (∃ (s : State), s.pwr.state = .run ∧ s.pwr.entryStep = none ∧ s.pins.pwrEn = true ∧ s.pins.pgood = true ∧ s.pins.rstLow = false ∧ s.pins.bor = false ∧ s.gxOn = false) ∧
    (∃ (s : State), s.pins.pwrEn = true ∧ s.pins.pgood = false ∧ s.pins.attempts < 2) ∧
    (∃ (s : State), s.pins.pwrEn = true ∧ s.pins.pgood = false ∧ 2 ≤ s.pins.attempts) ∧
    (∃ (s : State), s.pins.pwrEn = true ∧ s.pins.pgood = true) ∧
    (∃ (s : State), s.pins.pwrEn = true ∧ s.pins.pgood = true) ∧
    (∃ (s : State), s.gxOn = true) := 
  ⟨⟨State.reset.setPwr { State.reset.pwr with state := .off }, by decide +kernel⟩, ⟨State.reset, by decide +kernel⟩, ⟨State.reset, by decide +kernel⟩, ⟨State.reset.setPwr { State.reset.pwr with state := .backup }, by decide +kernel⟩, ⟨State.reset.setPins { State.reset.pins with pwrEn := true }, by decide +kernel⟩, ⟨(State.reset.setPwr { State.reset.pwr with state := .run, entryStep := none }).setPins { State.reset.pins with pwrEn := true, pgood := true, rstLow := false, bor := false, gxRun := false }, by decide +kernel⟩, ⟨State.reset.setPins { State.reset.pins with pwrEn := true, pgood := false, attempts := 1 }, by decide +kernel⟩, ⟨State.reset.setPins { State.reset.pins with pwrEn := true, pgood := false, attempts := 2 }, by decide +kernel⟩, ⟨State.reset.setPins { State.reset.pins with pwrEn := true, pgood := true }, by decide +kernel⟩, ⟨State.reset.setPins { State.reset.pins with pwrEn := true, pgood := true }, by decide +kernel⟩, ⟨State.reset.setPins { State.reset.pins with gxRun := true }, by decide +kernel⟩⟩

/-- Every clause of SupervisorPinsComplete has a state and operands that meet its hypotheses. -/
theorem witness_SupervisorPinsComplete :
    (∃ (s : State), s.pwr.state ≠ .off) ∧
    (∃ (s : State), s.pwr.modeDue = true ∧ s.pwr.state ≠ .off) ∧
    (∃ (s : State), s.pwr.state ≠ .off) := 
  ⟨⟨State.reset, by decide +kernel⟩, ⟨State.reset.setPwr { State.reset.pwr with modeDue := true }, by decide +kernel⟩, ⟨State.reset, by decide +kernel⟩⟩

/-- Every clause of RegisterAccessComplete has a state and operands that meet its hypotheses. -/
theorem witness_RegisterAccessComplete :
    (∃ (s : State) (init : Initiator) (w : BitVec 12), WriteOpen s init w.toNat 0x31) ∧
    (∃ (s : State) (init : Initiator), ReadOpen s init (wAx 0)) ∧
    (∃ (s : State) (init : Initiator), ReadOpen s init wFabric) ∧
    (∃ (s : State) (init : Initiator), ReadOpen s init wFabric) ∧
    (∃ (s : State) (init : Initiator) (w : BitVec 12), WriteOpen s init w.toNat 0x20) ∧
    (∃ (s : State) (a : Addr), liveMsb (a.toNat / 4096) (a.toNat % 4096) = false) ∧
    (∃ (s : State) (a : Addr), tallyMsb (a.toNat / 4096) (a.toNat % 4096) = false) := 
  ⟨⟨up State.reset (0x341 : BitVec 12).toNat, .pcie, 0x341, by decide +kernel⟩, ⟨(up State.reset (wAx 0)).setAx0 { State.reset.ax0 with sec := 0x123456789ABC, ns := 77 }, .spi, by decide +kernel⟩, ⟨up State.reset wFabric, .mp, by decide +kernel⟩, ⟨up State.reset wFabric, .pcie, by decide +kernel⟩, ⟨up State.reset (0x210 : BitVec 12).toNat, .mp, 0x210, by decide +kernel⟩, ⟨State.reset, 0x000031, by decide +kernel⟩, ⟨State.reset, 0x000031, by decide +kernel⟩⟩

/-- Every clause of RefusedWriteLeavesARecord has a state and operands that meet its hypotheses. -/
theorem witness_RefusedWriteLeavesARecord :
    (∃ (s : State) (init : Initiator) (n : Fin 72), s.reaches init.code = true ∧ s.unitState (wCh n.val) = usReady ∧ s.on (wCh n.val) UNIT_CTRL.LOCK = true ∧ init ≠ .mp ∧ init ≠ .jtag ∧ s.pwr.mode ≠ 2) ∧
    (∃ (s : State) (init : Initiator) (n : Fin 72), s.reaches init.code = true ∧ s.unitState (wCh n.val) = usReady ∧ s.on (wCh n.val) UNIT_CTRL.LOCK = true ∧ init ≠ .mp ∧ init ≠ .jtag ∧ s.pwr.mode ≠ 2) ∧
    (∃ (s : State) (a : Addr), unitOf (a.toNat / 4096) = none ∧ isRemote (a.toNat / 4096) = false) := 
  ⟨⟨(up State.reset (wCh (3 : Fin 72).val)).wr (wCh (3 : Fin 72).val) UNIT_CTRL.LOCK 1, .spi, 3, by decide +kernel⟩, ⟨((up State.reset (wCh (71 : Fin 72).val)).wr (wCh (71 : Fin 72).val) UNIT_CTRL.LOCK 1).wr (wCh (71 : Fin 72).val) VIOL_ADDR.INIT 2, .spi, 71, by decide +kernel⟩, ⟨State.reset, 0x7FF000, by decide +kernel⟩⟩

/-- Every clause of FanoutAndUnitCommandsComplete has a state and operands that meet its hypotheses. -/
theorem witness_FanoutAndUnitCommandsComplete :
    (∃ (s : State) (init : Initiator) (g : BitVec 12), isGroup g.toNat = true ∧ WriteOpen s init g.toNat 0x104 ∧ s.fans.any (fun f => f.grp == g.toNat) = false) ∧
    (∃ (s : State) (g : BitVec 12) (w : BitVec 12) (d : Byte) (r : List Nat) (n : Nat), s.fans = [⟨g.toNat, initMp, 0x31, d.toNat, w.toNat :: r, n⟩] ∧ s.unitState w.toNat = usReady ∧ (unitOf w.toNat).isSome = true) ∧
    (∃ (s : State) (g : BitVec 12) (w : BitVec 12) (i : Nat) (o : Nat) (d : Nat) (r : List Nat) (n : Nat), s.fans = [⟨g.toNat, i, o, d, w.toNat :: r, n⟩] ∧ s.unitState w.toNat = usOff) ∧
    (∃ (s : State) (g : BitVec 12) (i : Nat) (o : Nat) (d : Nat) (n : Nat), s.fans = [⟨g.toNat, i, o, d, [], n⟩]) ∧
    (∃ (s : State) (init : Initiator) (w : BitVec 12) (lock : Bool), WriteOpen s init w.toNat 0x20 ∧ s.on w.toNat UNIT_CTRL.URST = false ∧ (init ≠ .mp → lock = false ∧ s.on w.toNat UNIT_CTRL.LOCK = false)) ∧
    (∃ (s : State) (w : BitVec 12), s.unitState w.toNat = usLoading ∧ phaseOf w.toNat + 3 ≤ s.cfg.stage) ∧
    (∃ (s : State) (w : BitVec 12) (k : Fin 512) (lost : Bool), (unitOf w.toNat).isSome = true ∧ s.unitState w.toNat ≠ usOff ∧ parityGroup w.toNat k.val = true ∧ lost = true ∨ s.parity.contains (w.toNat * 512 + k.val) = true) ∧
    (∃ (s : State) (w : BitVec 12) (g : Nat), (unitOf w.toNat).isSome = true ∧ (ancestorsOf w.toNat).find? isGroup = some g) ∧
    (∃ (s : State) (w : BitVec 12), (unitOf w.toNat).isSome = true ∧ w.toNat ≠ wMP ∧ s.unitState w.toNat = usReady ∨ s.unitState w.toNat = usSafe ∧ s.pwr.mpRun = true ∧ s.unitState wMP = usReady) ∧
    (∃ (s : State) (w : BitVec 12) (k : Fin 512), s.parity.contains (w.toNat * 512 + k.val) = false) := 
  ⟨⟨(up State.reset (0x201 : BitVec 12).toNat).setFans [], .pcie, 0x201, by decide +kernel⟩, ⟨(up State.reset (0x210 : BitVec 12).toNat).setFans [⟨(0x201 : BitVec 12).toNat, initMp, 0x31, (7 : Byte).toNat, (0x210 : BitVec 12).toNat :: ([0x211] : List Nat), (3 : Nat)⟩], 0x201, 0x210, 7, [0x211], 3, by decide +kernel⟩, ⟨(State.reset.wr (0x210 : BitVec 12).toNat DESC_STATE.STATE usOff).setFans [⟨(0x201 : BitVec 12).toNat, (3 : Nat), (0x31 : Nat), (7 : Nat), (0x210 : BitVec 12).toNat :: ([0x211] : List Nat), (3 : Nat)⟩], 0x201, 0x210, 3, 0x31, 7, [0x211], 3, by decide +kernel⟩, ⟨State.reset.setFans [⟨(0x201 : BitVec 12).toNat, (3 : Nat), (0x31 : Nat), (7 : Nat), [], (5 : Nat)⟩], 0x201, 3, 0x31, 7, 5, by decide +kernel⟩, ⟨(up State.reset (0x304 : BitVec 12).toNat).wr (0x304 : BitVec 12).toNat UNIT_CTRL.URST 0, .mp, 0x304, true, by decide +kernel⟩, ⟨((up State.reset (0x304 : BitVec 12).toNat).wr (0x304 : BitVec 12).toNat DESC_STATE.STATE usLoading).setCfg { State.reset.cfg with stage := 6 }, 0x304, by decide +kernel⟩, ⟨up State.reset (0x210 : BitVec 12).toNat, 0x210, 0x28, true, by decide +kernel⟩, ⟨State.reset, 0x210, 0x260, by decide +kernel⟩, ⟨(up (up State.reset (0x210 : BitVec 12).toNat) wMP), 0x210, by decide +kernel⟩, ⟨State.reset, 0x210, 0x28, by decide +kernel⟩⟩

/-- Every clause of LogPopsComplete has a state and operands that meet its hypotheses. -/
theorem witness_LogPopsComplete :
    (∃ (s : State) (init : Initiator) (r : BitVec 128) (l : List Nat), ReadOpen s init wRoot ∧ s.flt.spoil = r.toNat :: l) ∧
    (∃ (s : State) (init : Initiator), ReadOpen s init wRoot ∧ s.flt.spoil = []) ∧
    (∃ (s : State) (init : Initiator), ReadOpen s init wRoot) ∧
    (∃ (s : State) (init : Initiator) (r : BitVec 64) (l : List Nat), ReadOpen s init wRoot ∧ s.flt.trouble = r.toNat :: l) ∧
    (∃ (s : State) (init : Initiator), ReadOpen s init wRoot ∧ s.flt.trouble = []) := 
  ⟨⟨(up State.reset wRoot).setFlt { State.reset.flt with spoil := (0x1234 : BitVec 128).toNat :: ([5, 6] : List Nat) }, .spi, 0x1234, [5, 6], by decide +kernel⟩, ⟨(up State.reset wRoot).setFlt { State.reset.flt with spoil := [] }, .spi, by decide +kernel⟩, ⟨up State.reset wRoot, .mp, by decide +kernel⟩, ⟨(up State.reset wRoot).setFlt { State.reset.flt with trouble := (0x1234 : BitVec 64).toNat :: ([5, 6] : List Nat) }, .spi, 0x1234, [5, 6], by decide +kernel⟩, ⟨(up State.reset wRoot).setFlt { State.reset.flt with trouble := [] }, .spi, by decide +kernel⟩⟩

/-- Every clause of SpiFramesComplete has a state and operands that meet its hypotheses. -/
theorem witness_SpiFramesComplete :
    (∃ (s : State) (fix : Bool) (len : Fin 64) (addr : Addr) (rest : List Byte), s.gxOn = true ∧ s.leg.framing = false ∧ rest.length = len.val + 1 + b2n (s.on wHost HOST_SPI_CFG.CRC) ∧ ((s.on wHost HOST_SPI_CFG.CRC = true → crc8 (spiCommand true fix (len.val + 1) :: toBytes addr.toNat 3 ++ (rest.map BitVec.toNat).take (len.val + 1)) = (rest.map BitVec.toNat).getD (len.val + 1) 0)) ∧ fix = true ∨ addr.toNat % 4096 + len.val + 1 ≤ 4096 ∧ s.host.spiBuf.length < 4) ∧
    (∃ (s : State) (fix : Bool) (len : Fin 64) (addr : Addr) (rest : List Byte), s.gxOn = true ∧ s.leg.framing = false ∧ rest.length = len.val + 1 + b2n (s.on wHost HOST_SPI_CFG.CRC) ∧ ((s.on wHost HOST_SPI_CFG.CRC = true → crc8 (spiCommand true fix (len.val + 1) :: toBytes addr.toNat 3 ++ (rest.map BitVec.toNat).take (len.val + 1)) = (rest.map BitVec.toNat).getD (len.val + 1) 0)) ∧ fix = true ∨ addr.toNat % 4096 + len.val + 1 ≤ 4096 ∧ s.host.spiBuf.length < 4) ∧
    (∃ (s : State) (fix : Bool) (len : Fin 64) (addr : Addr) (rest : List Byte), s.gxOn = true ∧ s.leg.framing = false ∧ rest.length = len.val + 1 + b2n (s.on wHost HOST_SPI_CFG.CRC) ∧ ((s.on wHost HOST_SPI_CFG.CRC = true → crc8 (spiCommand true fix (len.val + 1) :: toBytes addr.toNat 3 ++ (rest.map BitVec.toNat).take (len.val + 1)) = (rest.map BitVec.toNat).getD (len.val + 1) 0)) ∧ fix = true ∨ addr.toNat % 4096 + len.val + 1 ≤ 4096 ∧ s.host.spiBuf.length < 4) ∧
    (∃ (s : State) (fix : Bool) (len : Fin 64) (addr : Addr) (rest : List Byte), s.gxOn = true ∧ s.leg.framing = false ∧ rest.length = len.val + 1 + b2n (s.on wHost HOST_SPI_CFG.CRC) ∧ ((s.on wHost HOST_SPI_CFG.CRC = true → crc8 (spiCommand true fix (len.val + 1) :: toBytes addr.toNat 3 ++ (rest.map BitVec.toNat).take (len.val + 1)) = (rest.map BitVec.toNat).getD (len.val + 1) 0)) ∧ fix = true ∨ addr.toNat % 4096 + len.val + 1 ≤ 4096 ∧ 4 ≤ s.host.spiBuf.length) ∧
    (∃ (s : State) (fix : Bool) (len : Fin 64) (addr : Addr) (rest : List Byte), s.gxOn = true ∧ s.leg.framing = false ∧ rest.length = len.val + 1 + b2n (s.on wHost HOST_SPI_CFG.CRC) ∧ fix = false ∧ 4096 < addr.toNat % 4096 + len.val + 1) ∧
    (∃ (s : State) (fix : Bool) (len : Fin 64) (addr : Addr) (rest : List Byte), s.gxOn = true ∧ s.leg.framing = false ∧ rest.length ≠ len.val + 1 + b2n (s.on wHost HOST_SPI_CFG.CRC) ∧ fix = true ∨ addr.toNat % 4096 + len.val + 1 ≤ 4096 ∧ s.host.spiBuf.length < 4) ∧
    (∃ (s : State) (fix : Bool) (len : Fin 64) (addr : Addr) (rest : List Byte), s.gxOn = true ∧ s.leg.framing = false ∧ s.on wHost HOST_SPI_CFG.CRC = true ∧ rest.length = len.val + 2 ∧ crc8 (spiCommand true fix (len.val + 1) :: toBytes addr.toNat 3 ++ (rest.map BitVec.toNat).take (len.val + 1)) ≠ (rest.map BitVec.toNat).getD (len.val + 1) 0 ∧ fix = true ∨ addr.toNat % 4096 + len.val + 1 ≤ 4096 ∧ s.host.spiBuf.length < 4) ∧
    (∃ (s : State) (w : BitVec 12) (fix : Bool) (b : Byte) (r : List SpiWrite), WriteOpen s .spi w.toNat 0x31 ∧ s.host.spiBuf = ⟨w.toNat * 4096 + 0x31, fix, [b.toNat]⟩ :: r) ∧
    (∃ (s : State), s.host.spiBuf = []) ∧
    (∃ (s : State) (w : BitVec 12) (fix : Bool) (rest : List Byte), ReadOpen s .spi w.toNat ∧ s.leg.framing = false ∧ rest.length = 2 * b2n (s.on wHost HOST_SPI_CFG.CRC) + s.rd wHost HOST_SPI_CFG.DUMMY + 2 ∧ (s.on wHost HOST_SPI_CFG.CRC = true → crc8 (spiCommand false fix 1 :: toBytes (addrOf w.toNat 0x31).toNat 3) = (rest.map BitVec.toNat).headD 0) ∧ s.host.delayed = none ∧ (s.host.spiBuf.all fun x => x.addr / 4096 != w.toNat) = true) ∧
    (∃ (s : State) (w : BitVec 12) (fix : Bool) (rest : List Byte), ReadOpen s .spi w.toNat ∧ s.leg.framing = false ∧ rest.length = 2 * b2n (s.on wHost HOST_SPI_CFG.CRC) + s.rd wHost HOST_SPI_CFG.DUMMY + 2 ∧ (s.on wHost HOST_SPI_CFG.CRC = true → crc8 (spiCommand false fix 1 :: toBytes (addrOf w.toNat 0x31).toNat 3) = (rest.map BitVec.toNat).headD 0) ∧ s.host.delayed = none ∧ (s.host.spiBuf.all fun x => x.addr / 4096 != w.toNat) = true) ∧
    (∃ (s : State) (len : Fin 64) (fix : Bool) (rest : List Byte) (addr : Addr), s.gxOn = true ∧ s.leg.framing = false ∧ rest.length = 2 * b2n (s.on wHost HOST_SPI_CFG.CRC) + s.rd wHost HOST_SPI_CFG.DUMMY + len.val + 2 ∧ (s.on wHost HOST_SPI_CFG.CRC = true → crc8 (spiCommand false fix (len.val + 1) :: toBytes addr.toNat 3) = (rest.map BitVec.toNat).headD 0) ∧ fix = true ∨ addr.toNat % 4096 + len.val + 1 ≤ 4096 ∧ s.host.delayed = none) ∧
    (∃ (s : State) (len : Fin 64) (fix : Bool) (rest : List Byte) (addr : Addr) (l : List Nat), s.gxOn = true ∧ s.leg.framing = false ∧ rest.length = 2 * b2n (s.on wHost HOST_SPI_CFG.CRC) + s.rd wHost HOST_SPI_CFG.DUMMY + len.val + 2 ∧ (s.on wHost HOST_SPI_CFG.CRC = true → crc8 (spiCommand false fix (len.val + 1) :: toBytes addr.toNat 3) = (rest.map BitVec.toNat).headD 0) ∧ fix = true ∨ addr.toNat % 4096 + len.val + 1 ≤ 4096 ∧ s.host.delayed = some ⟨addr.toNat, fix, len.val + 1, some (some l)⟩ ∧ l.length = len.val + 1) ∧
    (∃ (s : State) (len : Fin 64) (fix : Bool) (rest : List Byte) (addr : Addr) (d : DelayedRead), s.gxOn = true ∧ s.leg.framing = false ∧ rest.length = 2 * b2n (s.on wHost HOST_SPI_CFG.CRC) + s.rd wHost HOST_SPI_CFG.DUMMY + len.val + 2 ∧ (s.on wHost HOST_SPI_CFG.CRC = true → crc8 (spiCommand false fix (len.val + 1) :: toBytes addr.toNat 3) = (rest.map BitVec.toNat).headD 0) ∧ fix = true ∨ addr.toNat % 4096 + len.val + 1 ≤ 4096 ∧ s.host.delayed = some d ∧ d.addr ≠ addr.toNat ∨ d.fix ≠ fix ∨ d.len ≠ len.val + 1 ∨ d.done = none) ∧
    (∃ (s : State), s.gxOn = true ∧ s.leg.framing = false) ∧
    (∃ (s : State) (w : BitVec 12) (fix : Bool), ReadOpen s .spi w.toNat ∧ s.host.delayed = some ⟨w.toNat * 4096 + 0x31, fix, 1, none⟩ ∧ (s.host.spiBuf.all fun x => x.addr / 4096 != w.toNat) = true ∧ ((s.drk.reads ++ s.drk.readQ).all fun r => r.why != .spi) = true) ∧
    (∃ (s : State), s.host.delayed = none) ∧
    (∃ (s : State) (a : Addr) (fix : Bool) (n : Nat) (l : List Nat), s.host.delayed = some ⟨a.toNat, fix, n, some (some l)⟩) ∧
    (∃ (s : State), s.host.delayed = none) := 
  ⟨⟨(((up State.reset wHost).setLeg { State.reset.leg with framing := false }).wr wHost HOST_SPI_CFG.CRC 0).setHost { State.reset.host with spiBuf := [] }, false, 1, 0x341141, [1, 2], by decide +kernel⟩, ⟨(((up State.reset wHost).setLeg { State.reset.leg with framing := false }).wr wHost HOST_SPI_CFG.CRC 1).setHost { State.reset.host with spiBuf := [] }, false, 1, 0x341141, [1, 2, BitVec.ofNat 8 (crc8 [0x81, 0x34, 0x11, 0x41, 1, 2])], by decide +kernel⟩, ⟨(((up State.reset wHost).setLeg { State.reset.leg with framing := false }).wr wHost HOST_SPI_CFG.CRC 0).setHost { State.reset.host with spiBuf := [⟨0x341100, false, [1]⟩, ⟨0x341100, false, [1]⟩, ⟨0x341100, false, [1]⟩] }, true, 0, 0x341FFF, [1], by decide +kernel⟩, ⟨(((up State.reset wHost).setLeg { State.reset.leg with framing := false }).wr wHost HOST_SPI_CFG.CRC 0).setHost { State.reset.host with spiBuf := [⟨0x341100, false, [1]⟩, ⟨0x341100, false, [1]⟩, ⟨0x341100, false, [1]⟩, ⟨0x341100, false, [1]⟩] }, false, 1, 0x341141, [1, 2], by decide +kernel⟩, ⟨((up State.reset wHost).setLeg { State.reset.leg with framing := false }).wr wHost HOST_SPI_CFG.CRC 0, false, 1, 0x341FFF, [1, 2], by decide +kernel⟩, ⟨(((up State.reset wHost).setLeg { State.reset.leg with framing := false }).wr wHost HOST_SPI_CFG.CRC 0).setHost { State.reset.host with spiBuf := [] }, false, 1, 0x341141, [1], by decide +kernel⟩, ⟨(((up State.reset wHost).setLeg { State.reset.leg with framing := false }).wr wHost HOST_SPI_CFG.CRC 1).setHost { State.reset.host with spiBuf := [] }, false, 1, 0x341141, [1, 2, BitVec.ofNat 8 (crc8 [0x81, 0x34, 0x11, 0x41, 1, 2] + 1)], by decide +kernel⟩, ⟨(up State.reset (0x341 : BitVec 12).toNat).setHost { State.reset.host with spiBuf := ⟨(0x341 : BitVec 12).toNat * 4096 + 0x31, false, [(0x42 : Byte).toNat]⟩ :: ([] : List SpiWrite) }, 0x341, false, 0x42, [], by decide +kernel⟩, ⟨State.reset.setHost { State.reset.host with spiBuf := [] }, by decide +kernel⟩, ⟨((((up State.reset 0x341).setLeg { State.reset.leg with framing := false }).wr wHost HOST_SPI_CFG.CRC 0).wr wHost HOST_SPI_CFG.DUMMY 1).setHost { State.reset.host with spiBuf := [], delayed := none }, 0x341, false, [0, 0, 0], by decide +kernel⟩, ⟨((((up State.reset 0x341).setLeg { State.reset.leg with framing := false }).wr wHost HOST_SPI_CFG.CRC 1).wr wHost HOST_SPI_CFG.DUMMY 1).setHost { State.reset.host with spiBuf := [], delayed := none }, 0x341, false, [BitVec.ofNat 8 (crc8 [0, 0x34, 0x10, 0x31]), 0, 0, 0, 0], by decide +kernel⟩, ⟨((((up State.reset 0x341).setLeg { State.reset.leg with framing := false }).wr wHost HOST_SPI_CFG.CRC 0).wr wHost HOST_SPI_CFG.DUMMY 0).setHost { State.reset.host with spiBuf := [], delayed := none }, 3, true, [0, 0, 0, 0, 0], 0x341140, by decide +kernel⟩, ⟨((((up State.reset 0x341).setLeg { State.reset.leg with framing := false }).wr wHost HOST_SPI_CFG.CRC 0).wr wHost HOST_SPI_CFG.DUMMY 0).setHost { State.reset.host with spiBuf := [], delayed := some ⟨0x341140, true, 2, some (some [7, 8])⟩ }, 1, true, [0, 0, 0], 0x341140, [7, 8], by decide +kernel⟩, ⟨((((up State.reset 0x341).setLeg { State.reset.leg with framing := false }).wr wHost HOST_SPI_CFG.CRC 0).wr wHost HOST_SPI_CFG.DUMMY 0).setHost { State.reset.host with spiBuf := [], delayed := some ⟨0x341140, true, 2, some (some [7, 8])⟩ }, 1, true, [0, 0, 0], 0x341144, ⟨0x341140, true, 2, some (some [7, 8])⟩, by decide +kernel⟩, ⟨(up State.reset wHost).setLeg { State.reset.leg with framing := false }, by decide +kernel⟩, ⟨(up State.reset (0x341 : BitVec 12).toNat).setHost { State.reset.host with spiBuf := [], delayed := some ⟨(0x341 : BitVec 12).toNat * 4096 + 0x31, (true : Bool), 1, none⟩ }, 0x341, true, by decide +kernel⟩, ⟨State.reset.setHost { State.reset.host with delayed := none }, by decide +kernel⟩, ⟨(up State.reset wHost).setHost { State.reset.host with delayed := some ⟨(0x341140 : Addr).toNat, (false : Bool), (1 : Nat), some (some ([7] : List Nat))⟩ }, 0x341140, false, 1, [7], by decide +kernel⟩, ⟨State.reset.setHost { State.reset.host with delayed := none }, by decide +kernel⟩⟩

/-- Every clause of PcieComplete has a state and operands that meet its hypotheses. -/
theorem witness_PcieComplete :
    (∃ (s : State) (bar : Bar) (w : BitVec 12), bar ≠ .bar4 ∧ ReadOpen s .pcie w.toNat ∧ s.on wHost HOST_PCIE_LINK.UP = true ∧ s.host.perst = false ∧ s.pwr.mode ≠ 1) ∧
    (∃ (s : State) (bar : Bar) (w : BitVec 12), bar ≠ .bar4 ∧ WriteOpen s .pcie w.toNat 0x31 ∧ s.on wHost HOST_PCIE_LINK.UP = true ∧ s.host.perst = false ∧ s.pwr.mode ≠ 1) ∧
    (∃ (s : State), s.gxOn = true ∧ s.on wHost HOST_PCIE_LINK.UP = true ∧ s.host.perst = false ∧ s.pwr.mode ≠ 1) ∧
    (∃ (s : State), s.gxOn = true ∧ s.on wHost HOST_PCIE_LINK.UP = true ∧ s.host.perst = false ∧ s.pwr.mode ≠ 1 ∧ s.host.msixTab = []) ∧
    (∃ (s : State), s.on wHost HOST_PCIE_LINK.UP = true) ∧
    (∃ (s : State), s.gxOn = true ∧ s.host.perst = false ∧ s.pwr.mode ≠ 1 ∧ 3 ≤ s.cfg.stage ∧ s.unitState wHost = usReady) ∧
    (∃ (s : State) (tx : Bool) (r : Fin 16), look s.host.imodRun (ringCode tx r.val) false = true ∧ look s.host.imodHit (ringCode tx r.val) false = true) ∧
    (∃ (s : State) (tx : Bool) (r : Fin 16), look s.host.imodRun (ringCode tx r.val) false = true ∧ look s.host.imodHit (ringCode tx r.val) false = false) ∧
    (∃ (s : State) (v : Fin 64), s.gxOn = true ∧ s.host.msixOn = true ∧ s.host.busMaster = true ∧ s.host.perst = false ∧ s.on wHost HOST_PCIE_LINK.UP = true ∧ s.vecMasked v.val = false ∧ s.host.pba.testBit v.val = true) ∧
    (∃ (s : State), s.gxOn = false ∨ s.on wHost HOST_PCIE_LINK.UP = false ∨ s.host.perst = true ∨ s.pwr.mode = 1) ∧
    (∃ (s : State), s.gxOn = false ∨ s.on wHost HOST_PCIE_LINK.UP = false ∨ s.host.perst = true ∨ s.pwr.mode = 1) := 
  ⟨⟨((up State.reset (0x341 : BitVec 12).toNat).wr wHost HOST_PCIE_LINK.UP 1).setHost { State.reset.host with perst := false }, .bar0, 0x341, by decide +kernel⟩, ⟨((up State.reset (0x341 : BitVec 12).toNat).wr wHost HOST_PCIE_LINK.UP 1).setHost { State.reset.host with perst := false }, .bar2, 0x341, by decide +kernel⟩, ⟨((up State.reset wHost).wr wHost HOST_PCIE_LINK.UP 1).setHost { State.reset.host with perst := false }, by decide +kernel⟩, ⟨((up State.reset wHost).wr wHost HOST_PCIE_LINK.UP 1).setHost { State.reset.host with perst := false, msixTab := [] }, by decide +kernel⟩, ⟨State.reset.wr wHost HOST_PCIE_LINK.UP 1, by decide +kernel⟩, ⟨((up State.reset wHost).setHost { State.reset.host with perst := false }).setCfg { State.reset.cfg with stage := 3 }, by decide +kernel⟩, ⟨State.reset.setHost { State.reset.host with imodRun := store State.reset.host.imodRun (ringCode (true : Bool) (3 : Fin 16).val) true false, imodHit := store State.reset.host.imodHit (ringCode (true : Bool) (3 : Fin 16).val) true false }, true, 3, by decide +kernel⟩, ⟨State.reset.setHost { State.reset.host with imodRun := store State.reset.host.imodRun (ringCode (false : Bool) (3 : Fin 16).val) true false, imodHit := [] }, false, 3, by decide +kernel⟩, ⟨((up State.reset wHost).wr wHost HOST_PCIE_LINK.UP 1).setHost { State.reset.host with msixOn := true, busMaster := true, perst := false, msixTab := [(16 * (63 : Fin 64).val + 12, 0)], pba := 2 ^ (63 : Fin 64).val }, 63, by decide +kernel⟩, ⟨State.reset.setHost { State.reset.host with perst := true }, by decide +kernel⟩, ⟨State.reset.setHost { State.reset.host with perst := true }, by decide +kernel⟩⟩

/-- Every clause of HostRingsComplete has a state and operands that meet its hypotheses. -/
theorem witness_HostRingsComplete :
    (∃ (s : State) (init : Initiator) (tx : Bool) (r : Fin 16) (v : BitVec 16), WriteOpen s init wHost (fTail tx r.val).byteOfs ∧ (v.toNat + 65536 - s.ringHead tx r.val) % 65536 ≤ s.ringSize tx r.val ∨ s.ringSize tx r.val = 0) ∧
    (∃ (s : State) (init : Initiator) (tx : Bool) (r : Fin 16) (v : BitVec 16), WriteOpen s init wHost (fTail tx r.val).byteOfs ∧ s.ringSize tx r.val ≠ 0 ∧ s.ringSize tx r.val < (v.toNat + 65536 - s.ringHead tx r.val) % 65536) ∧
    (∃ (s : State) (init : Initiator) (tx : Bool) (r : Fin 16), WriteOpen s init wHost (fEn tx r.val).byteOfs ∧ s.on wHost (fEn tx r.val) = false) ∧
    (∃ (s : State) (init : Initiator) (tx : Bool) (r : Fin 16) (low : Fin 128), WriteOpen s init wHost (fEn tx r.val).byteOfs ∧ s.on wHost (fEn tx r.val) = true ∧ s.rd wHost (fRsize tx r.val) = (fRsize tx r.val).fit.apply (low.val % 16)) ∧
    (∃ (s : State) (r : Fin 16) (d : RingDesc), s.fetches false r.val = true ∧ 64 ≤ d.len.toNat) ∧
    (∃ (s : State) (r : Fin 16) (d : RingDesc), s.fetches true r.val = true ∧ s.launchMode r.val = false ∧ s.txDescs r.val = [] ∧ d.sop = true ∧ d.eop = false) ∧
    (∃ (s : State) (r : Fin 16) (fid : Nat) (d : Desc) (rest : List RingFrame), s.dmaOk = true ∧ s.txFramesOf r.val = ⟨fid, [d], some 0, false⟩ :: rest ∧ s.doneOf true r.val = [] ∧ d.idx = s.ringHead true r.val) ∧
    (∃ (s : State), s.gxOn = true) ∧
    (∃ (s : State) (r : Fin 16) (d : Desc) (rest : List Desc), s.gxOn = true ∧ s.rxDescs r.val = d :: rest) := 
  ⟨⟨up State.reset wHost, .pcie, true, 15, 5, by decide +kernel⟩, ⟨((((up State.reset wHost).wr wHost (fEn (false : Bool) (15 : Fin 16).val) 1).wr wHost (fRsize (false : Bool) (15 : Fin 16).val) 1).wr wHost (fHead (false : Bool) (15 : Fin 16).val) 0).wr wHost (fStopped (false : Bool) (15 : Fin 16).val) 0, .pcie, false, 15, 17, by decide +kernel⟩, ⟨(up State.reset wHost).wr wHost (fEn (true : Bool) (0 : Fin 16).val) 0, .mp, true, 0, by decide +kernel⟩, ⟨((up State.reset wHost).wr wHost (fEn (false : Bool) (7 : Fin 16).val) 1).wr wHost (fRsize (false : Bool) (7 : Fin 16).val) ((2 : Fin 128).val % 16), .mp, false, 7, 2, by decide +kernel⟩, ⟨(((((((up State.reset wHost).wr wHost HOST_PCIE_LINK.UP 1).setHost { State.reset.host with perst := false, busMaster := true, rxDesc := [], doneIdx := [] }).wr wHost (fRsize false (2 : Fin 16).val) 1).wr wHost (fEn false (2 : Fin 16).val) 1).wr wHost (fHead false (2 : Fin 16).val) 0).wr wHost (fTail false (2 : Fin 16).val) 4).wr wHost (fStopped false (2 : Fin 16).val) 0, 2, ⟨0x1000, 2048, false, false, false, 0, []⟩, by decide +kernel⟩, ⟨((((((((up State.reset wHost).wr wHost HOST_PCIE_LINK.UP 1).setHost { State.reset.host with perst := false, busMaster := true, txDesc := [], txFrames := [], launch := [], doneIdx := [] }).wr wHost (fRsize true (2 : Fin 16).val) 1).wr wHost (fEn true (2 : Fin 16).val) 1).wr wHost (fHead true (2 : Fin 16).val) 0).wr wHost (fTail true (2 : Fin 16).val) 4).wr wHost (fStopped true (2 : Fin 16).val) 0).wr wEvp EVP_LAUNCH.RINGS 0, 2, ⟨0x1000, 1, true, false, false, 0, [7]⟩, by decide +kernel⟩, ⟨((((up State.reset wHost).wr wHost HOST_PCIE_LINK.UP 1).setHost { State.reset.host with perst := false, busMaster := true, doneIdx := [] }).setTxFrames (3 : Fin 16).val (⟨(9 : Nat), [(⟨2, 0x40, 0x1000, 1, true, true, false, 0, [1]⟩ : Desc)], some 0, false⟩ :: ([] : List RingFrame))).wr wHost (fHead true (3 : Fin 16).val) (⟨2, 0x40, 0x1000, 1, true, true, false, 0, [1]⟩ : Desc).idx, 3, 9, ⟨2, 0x40, 0x1000, 1, true, true, false, 0, [1]⟩, [], by decide +kernel⟩, ⟨up State.reset wHost, by decide +kernel⟩, ⟨(up State.reset wHost).setRxDescs (3 : Fin 16).val ((⟨2, 0x40, 0x1000, 64, false, false, false, 0, []⟩ : Desc) :: ([] : List Desc)), 3, ⟨2, 0x40, 0x1000, 64, false, false, false, 0, []⟩, [], by decide +kernel⟩⟩

/-- Every clause of ConfigurationLoadCompletes has a state and operands that meet its hypotheses. -/
theorem witness_ConfigurationLoadCompletes :
    (∃ (s : State) (x : Sfdp), s.gxOn = true ∧ s.cfg.stage = 1 ∧ 64 ≤ x.mib.toNat) ∧
    (∃ (s : State) (x : Sfdp), s.gxOn = true ∧ s.cfg.stage = 1 ∧ x.mib.toNat < 64) ∧
    (∃ (s : State), s.gxOn = false ∨ s.cfg.stage ≠ 1) ∧
    (∃ (s : State), s.gxOn = true ∧ s.cfg.stage = 1) ∧
    (∃ (s : State) (a : SlotImage) (b : SlotImage), s.gxOn = true ∧ s.cfg.stage = 2 ∧ (s.slotFault 1 a).isSome = true ∧ (s.slotFault 2 b).isSome = true) ∧
    (∃ (s : State) (a : SlotImage) (b : SlotImage), s.gxOn = true ∧ s.cfg.stage = 2 ∧ s.slotFault 1 a = none ∧ s.phase0Fault a = none ∧ (s.slotFault 2 b).isSome = true) ∧
    (∃ (s : State) (a : SlotImage) (b : SlotImage), s.gxOn = true ∧ s.cfg.stage = 2 ∧ (s.slotFault 1 a).isSome = true ∧ s.slotFault 2 b = none ∧ s.phase0Fault b = none) ∧
    (∃ (s : State) (a : SlotImage) (b : SlotImage), s.gxOn = true ∧ s.cfg.stage = 2 ∧ s.slotFault 1 a = none ∧ s.slotFault 2 b = none ∧ s.phase0Fault a = none ∧ s.phase0Fault b = none) ∧
    (∃ (s : State), s.gxOn = false ∨ s.cfg.stage ≠ 2) ∧
    (∃ (s : State) (k : Fin 3), s.gxOn = true ∧ s.cfg.stage = k.val + 3 ∧ ((if k.val = 0 ∧ s.pwr.mode ≠ 0 then s.legacyDefaults else s).installSections (installOrder (s.cfg.sects.filter fun x => x.phase.toNat == k.val + 1))).2 = none ∧ (if k.val = 0 ∧ s.pwr.mode ≠ 0 then ((if k.val = 0 ∧ s.pwr.mode ≠ 0 then s.legacyDefaults else s).installSections (installOrder (s.cfg.sects.filter fun x => x.phase.toNat == k.val + 1))).1.legacyDefaults else ((if k.val = 0 ∧ s.pwr.mode ≠ 0 then s.legacyDefaults else s).installSections (installOrder (s.cfg.sects.filter fun x => x.phase.toNat == k.val + 1))).1).settingsFault (installOrder (s.cfg.sects.filter fun x => x.phase.toNat == k.val + 1)) = none) ∧
    (∃ (s : State) (k : Fin 3), s.gxOn = true ∧ s.cfg.stage = k.val + 3 ∧ ((if k.val = 0 ∧ s.pwr.mode ≠ 0 then s.legacyDefaults else s).installSections (installOrder (s.cfg.sects.filter fun x => x.phase.toNat == k.val + 1))).2 = none ∧ (if k.val = 0 ∧ s.pwr.mode ≠ 0 then ((if k.val = 0 ∧ s.pwr.mode ≠ 0 then s.legacyDefaults else s).installSections (installOrder (s.cfg.sects.filter fun x => x.phase.toNat == k.val + 1))).1.legacyDefaults else ((if k.val = 0 ∧ s.pwr.mode ≠ 0 then s.legacyDefaults else s).installSections (installOrder (s.cfg.sects.filter fun x => x.phase.toNat == k.val + 1))).1).settingsFault (installOrder (s.cfg.sects.filter fun x => x.phase.toNat == k.val + 1)) = none) ∧
    (∃ (s : State) (k : Fin 3), s.gxOn = true ∧ s.cfg.stage = k.val + 3 ∧ 1 ≤ s.rd wUpd UPD_CFG_STAT.SLOT ∧ s.rd wUpd UPD_CFG_STAT.SLOT ≤ 2 ∧ ((if k.val = 0 ∧ s.pwr.mode ≠ 0 then s.legacyDefaults else s).installSections (installOrder (s.cfg.sects.filter fun x => x.phase.toNat == k.val + 1))).2 ≠ none) ∧
    (∃ (s : State) (k : Fin 3), s.gxOn = false ∨ s.cfg.stage ≠ k.val + 3) := 
  ⟨⟨(up State.reset wUpd).setCfg { State.reset.cfg with stage := 1 }, ⟨64, 7, 6⟩, by decide +kernel⟩, ⟨(up State.reset wUpd).setCfg { State.reset.cfg with stage := 1 }, ⟨32, 7, 6⟩, by decide +kernel⟩, ⟨State.reset.setCfg { State.reset.cfg with stage := 4 }, by decide +kernel⟩, ⟨(up State.reset wUpd).setCfg { State.reset.cfg with stage := 1 }, by decide +kernel⟩, ⟨(up State.reset wUpd).setCfg { State.reset.cfg with stage := 2 }, ⟨[[1, 2]], false, false, []⟩, ⟨[], false, false, []⟩, by decide +kernel⟩, ⟨((((up State.reset wUpd).setCfg { State.reset.cfg with stage := 2, badA := false, badB := false }).setTrust { State.reset.trust with otp := 1 }).wr wSup SUP_STRAP.MODE_CODE 0).setPwr { State.reset.pwr with mode := 0, heldMode := none }, ⟨[[0x58, 0x42, 0x31, 0x36, 2, 0, 0, 1, 8, 84, 137, 127, 0, 0, 0, 0, 0, 1, 2]], true, true, []⟩, ⟨[], false, false, []⟩, by decide +kernel⟩, ⟨((((up State.reset wUpd).setCfg { State.reset.cfg with stage := 2, badA := false, badB := false }).setTrust { State.reset.trust with otp := 1 }).wr wSup SUP_STRAP.MODE_CODE 0).setPwr { State.reset.pwr with mode := 0, heldMode := none }, ⟨[], false, false, []⟩, ⟨[[0x58, 0x42, 0x31, 0x36, 2, 0, 0, 1, 8, 84, 137, 127, 0, 0, 0, 0, 0, 1, 2]], true, true, []⟩, by decide +kernel⟩, ⟨((((up State.reset wUpd).setCfg { State.reset.cfg with stage := 2, badA := false, badB := false }).setTrust { State.reset.trust with otp := 1 }).wr wSup SUP_STRAP.MODE_CODE 0).setPwr { State.reset.pwr with mode := 0, heldMode := none }, ⟨[[0x58, 0x42, 0x31, 0x36, 2, 0, 0, 1, 8, 84, 137, 127, 0, 0, 0, 0, 0, 1, 2]], true, true, []⟩, ⟨[[0x58, 0x42, 0x31, 0x36, 2, 0, 0, 1, 8, 84, 137, 127, 0, 0, 0, 0, 0, 1, 2]], true, true, []⟩, by decide +kernel⟩, ⟨State.reset.setCfg { State.reset.cfg with stage := 4 }, by decide +kernel⟩, ⟨((up State.reset wUpd).setCfg { State.reset.cfg with stage := (0 : Fin 3).val + 3, sects := [] }).setPwr { State.reset.pwr with mode := 0 }, 0, by decide +kernel⟩, ⟨((up State.reset wUpd).setCfg { State.reset.cfg with stage := (2 : Fin 3).val + 3, sects := [] }).setPwr { State.reset.pwr with mode := 0 }, 2, by decide +kernel⟩, ⟨(((up State.reset wUpd).setCfg { State.reset.cfg with stage := (1 : Fin 3).val + 3, sects := [⟨0, 0x77, true, false, BitVec.ofNat 8 ((1 : Fin 3).val + 1), 0, 4, 0, 0, [], []⟩] }).wr wUpd UPD_CFG_STAT.SLOT 1).setPwr { State.reset.pwr with mode := 0 }, 1, by decide +kernel⟩, ⟨State.reset.setCfg { State.reset.cfg with stage := 7 }, 1, by decide +kernel⟩⟩

/-- Every clause of StagingAndCommitComplete has a state and operands that meet its hypotheses. -/
theorem witness_StagingAndCommitComplete :
    (∃ (s : State) (init : Initiator) (v : ViewTab), WriteOpen s init v.win (v.sel.ofs + v.sel.len - 1)) ∧
    (∃ (s : State) (init : Initiator) (v : ViewTab) (data : List Byte), WriteOpen s init v.win v.commit ∧ init = .mp ∨ s.pwr.mode ≠ 2 ∧ ((s.bufBytes v (v.commit + 1 - data.length) (data.map BitVec.toNat)).bufFit v).viewKinds init.code v = []) ∧
    (∃ (s : State) (init : Initiator) (v : ViewTab) (data : List Byte), WriteOpen s init v.win v.commit ∧ init = .mp ∨ s.pwr.mode ≠ 2 ∧ ((s.bufBytes v (v.commit + 1 - data.length) (data.map BitVec.toNat)).bufFit v).viewKinds init.code v = []) ∧
    (∃ (s : State) (init : Initiator), CmdOpen s init wTables TBL_CTRL.ACQUIRE ∧ s.rd wTables TBL_OWNER.OWNER = 0) ∧
    (∃ (s : State) (init : Initiator), CmdOpen s init wTables TBL_CTRL.ACQUIRE ∧ s.rd wTables TBL_OWNER.OWNER ≠ 0) ∧
    (∃ (s : State) (init : Initiator), CmdOpen s init wTables TBL_CTRL.RELEASE ∧ s.rd wTables TBL_OWNER.OWNER = init.code) ∧
    (∃ (s : State) (init : Initiator), CmdOpen s init wTables TBL_CTRL.ABORT ∧ s.rd wTables TBL_OWNER.OWNER = init.code ∧ s.on wTables TBL_STAT.BUSY = false) ∧
    (∃ (s : State), s.bench.lease = true ∧ s.rd wTables TBL_OWNER.OWNER ≠ 0 ∧ s.on wTables TBL_STAT.BUSY = false) ∧
    (∃ (s : State) (init : Initiator), WriteOpen s init wTables 0x140 ∧ s.rd wTables TBL_OWNER.OWNER = init.code ∧ s.on wTables TBL_STAT.BUSY = false ∧ s.on wTables TBL_CTRL.COMMIT = false ∧ s.bench.ovf = []) ∧
    (∃ (s : State) (init : Initiator) (rw : Fin 4), WriteOpen s init wTables 0x140 ∧ s.rd wTables TBL_OWNER.OWNER = init.code ∧ s.on wTables TBL_STAT.BUSY = false ∧ s.on wTables TBL_CTRL.COMMIT = false ∧ s.bench.ovf ≠ [] ∧ 2 ≤ rw.val) ∧
    (∃ (s : State) (init : Initiator) (rw : Fin 4), WriteOpen s init wTables 0x140 ∧ s.rd wTables TBL_OWNER.OWNER = init.code ∧ s.on wTables TBL_STAT.BUSY = false ∧ s.on wTables TBL_CTRL.COMMIT = false ∧ s.bench.ovf ≠ [] ∧ rw.val < 2) ∧
    (∃ (s : State), s.bench.phase = .drain ∧ s.drained = true) ∧
    (∃ (s : State), s.bench.phase = .splitDrain ∧ s.drained = true) ∧
    (∃ (s : State), s.bench.phase = .reclaim) ∧
    (∃ (s : State) (w : Nat), s.bench.phase = .split ∧ s.toSwitch.head? = some w) ∧
    (∃ (s : State), s.bench.phase = .split ∧ s.toSwitch = []) ∧
    (∃ (s : State), s.bench.holdOn = true ∧ s.holdInForce = true) ∧
    (∃ (s : State), s.bench.holdOn = false) ∧
    (∃ (s : State), s.bench.phase ≠ .reclaim) ∧
    (∃ (s : State), s.bench.phase ≠ .split) ∧
    (∃ (s : State), s.drained = false) ∧
    (∃ (s : State), s.bench.lease = false ∨ s.rd wTables TBL_OWNER.OWNER = 0) := 
  ⟨⟨up State.reset (.canf : ViewTab).win, .spi, .canf, by decide +kernel⟩, ⟨((((up State.reset (.vlan : ViewTab).win).wr wTables TBL_OWNER.OWNER (.pcie : Initiator).code).wr wTables TBL_STAT.BUSY 0).setPwr { State.reset.pwr with fenced := [], mode := 0 }).setBench { State.reset.bench with touched := [], ovf := [] }, .pcie, .vlan, [0x42], by decide +kernel⟩, ⟨((((up State.reset (.route : ViewTab).win).wr wTables TBL_OWNER.OWNER (.spi : Initiator).code).wr wTables TBL_STAT.BUSY 0).setPwr { State.reset.pwr with fenced := [], mode := 0 }).setBench { State.reset.bench with touched := [], ovf := [] }, .spi, .route, [0x42, 7], by decide +kernel⟩, ⟨(up State.reset wTables).wr wTables TBL_OWNER.OWNER 0, .peer 15, by decide +kernel⟩, ⟨(up State.reset wTables).wr wTables TBL_OWNER.OWNER 3, .spi, by decide +kernel⟩, ⟨(up State.reset wTables).wr wTables TBL_OWNER.OWNER (.mp : Initiator).code, .mp, by decide +kernel⟩, ⟨(((up State.reset wTables).wr wTables TBL_OWNER.OWNER (.mp : Initiator).code).wr wTables TBL_STAT.BUSY 0).setBench { State.reset.bench with touched := [entryCode wVlan 3] }, .mp, by decide +kernel⟩, ⟨(((up State.reset wTables).wr wTables TBL_OWNER.OWNER 3).wr wTables TBL_STAT.BUSY 0).setBench { State.reset.bench with lease := true }, by decide +kernel⟩, ⟨((((up State.reset wTables).wr wTables TBL_OWNER.OWNER (.pcie : Initiator).code).wr wTables TBL_STAT.BUSY 0).wr wTables TBL_CTRL.COMMIT 0).setBench { State.reset.bench with ovf := [] }, .pcie, by decide +kernel⟩, ⟨((((up State.reset wTables).wr wTables TBL_OWNER.OWNER (.pcie : Initiator).code).wr wTables TBL_STAT.BUSY 0).wr wTables TBL_CTRL.COMMIT 0).setBench { State.reset.bench with ovf := [⟨wCanf, 5, 0⟩] }, .pcie, 3, by decide +kernel⟩, ⟨((((up State.reset wTables).wr wTables TBL_OWNER.OWNER (.pcie : Initiator).code).wr wTables TBL_STAT.BUSY 0).wr wTables TBL_CTRL.COMMIT 0).setBench { State.reset.bench with ovf := [⟨wCanf, 5, 0⟩] }, .pcie, 1, by decide +kernel⟩, ⟨((State.reset.setBench { State.reset.bench with phase := .drain }).setFab { State.reset.fab with pipe := [] }).setGw { State.reset.gw with exq := [] }, by decide +kernel⟩, ⟨((State.reset.setBench { State.reset.bench with phase := .splitDrain }).setFab { State.reset.fab with pipe := [] }).setGw { State.reset.gw with exq := [] }, by decide +kernel⟩, ⟨State.reset.setBench { State.reset.bench with phase := .reclaim }, by decide +kernel⟩, ⟨State.reset.setBench { State.reset.bench with phase := .split, touched := [entryCode (0x01A : Nat) 3], switched := [], ovf := [], deletions := [] }, 0x01A, by decide +kernel⟩, ⟨State.reset.setBench { State.reset.bench with phase := .split, touched := [], switched := [wVlan], ovf := [], deletions := [entryCode wVlan 3] }, by decide +kernel⟩, ⟨((State.reset.setBench { State.reset.bench with holdOn := true }).wr wTables TBL_CTRL.HOLD_EN 1).wr wTables TBL_HOLD_LIM.HOLD_LIM 5, by decide +kernel⟩, ⟨State.reset.setBench { State.reset.bench with holdOn := false }, by decide +kernel⟩, ⟨State.reset.setBench { State.reset.bench with phase := .drain }, by decide +kernel⟩, ⟨State.reset.setBench { State.reset.bench with phase := .drain }, by decide +kernel⟩, ⟨(State.reset.setBench { State.reset.bench with phase := .drain }).setFab { State.reset.fab with pipe := [{ anItem with gen := 3 }] }, by decide +kernel⟩, ⟨State.reset.wr wTables TBL_OWNER.OWNER 0, by decide +kernel⟩⟩

/-- Every clause of FrameReceptionAndClassification has a state and operands that meet its hypotheses. -/
theorem witness_FrameReceptionAndClassification :
    (∃ (s : State) (p : Fin 16) (d : List Byte), s.ethHears p = true ∧ s.rxOpen p = none ∧ s.admits p (cellsOf (min (d.length + 4) (s.maxFrame p))) = true ∧ s.rxCheck p (byteList d) (d.length + 4) false true = none ∧ s.rxTaken p (byteList d) = false ∧ s.secyOn p = false ∧ NoMirror s ∧ (s.fab.frames.all fun f => f.fid < s.fab.nextFid) = true) ∧
    (∃ (s : State) (p : Fin 16) (d : List Byte), s.ethHears p = true ∧ s.rxOpen p = none ∧ s.admits p (cellsOf (min (d.length + 4) (s.maxFrame p))) = true ∧ d.length < 60) ∧
    (∃ (s : State) (it : PipeItem) (f : Frame) (id : Fin 64) (e : Fin 4), s.activating .fs = false ∧ (s.inRom 0x013 && s.inRom 0x014) = false ∧ s.fab.pipe = [it] ∧ it.stage = .atFilter ∧ s.frame it.fid = some f ∧ f.lin = some id.val ∧ f.can = none ∧ f.isOpen = false ∧ 0x20 ≤ f.src ∧ s.on wRoute RT_LIN_BASE.VALID = true ∧ s.rd wRoute RT_LIN_BASE.BASE + 64 * (f.src - 0x20) + id.val ≤ 16383 ∧ ToEngine s it.gen (s.rd wRoute RT_LIN_BASE.BASE + 64 * (f.src - 0x20) + id.val) e ∧ s.ent it.gen wRoute RT_ENTRY.IN_CTX (s.rd wRoute RT_LIN_BASE.BASE + 64 * (f.src - 0x20) + id.val) = 0) ∧
    (∃ (s : State) (it : PipeItem) (f : Frame), s.activating .fs = false ∧ (s.inRom 0x013 && s.inRom 0x014) = false ∧ s.bench.phase = .idle ∧ s.fab.pipe = [it] ∧ it.stage = .atFilter ∧ s.frame it.fid = some f ∧ f.lin = none ∧ f.can = none ∧ f.refs = 1 ∧ s.sieveMatch it.gen (s.sieveKey f.src it.data) = none ∧ s.pdef f.src = true ∧ s.vlanOk it.gen (s.vidOf f.src it.data) = false) ∧
    (∃ (s : State) (p : Fin 16) (d : List Byte), s.ethHears p = true ∧ s.rxOpen p = none ∧ s.admits p (cellsOf (min (d.length + 4) (s.maxFrame p))) = true ∧ s.bench.phase = .idle ∧ (s.fab.frames.all fun f => f.fid < s.fab.nextFid) = true) ∧
    (∃ (s : State) (p : Fin 16), s.rxOpen p = none ∧ s.ethState p ≠ ethLoop) ∧
    (∃ (s : State) (p : Fin 16), s.ethHears p = false ∧ s.ethState p ≠ ethLoop) ∧
    (∃ (s : State), (s.fab.pipe.find? fun i => i.stage == .atFilter) = none) := 
  ⟨⟨((up State.reset (wEth (7 : Fin 16))).wr (wEth (7 : Fin 16)) ETH_STATE.STATE ethUp).wr (wEth (7 : Fin 16)) ETH_MAX_FRAME.MAX 1518, 7, List.replicate 60 0, by decide +kernel⟩, ⟨(up State.reset (wEth (7 : Fin 16))).wr (wEth (7 : Fin 16)) ETH_STATE.STATE ethUp, 7, [1, 2], by decide +kernel⟩, ⟨linItem State.reset (anItem : PipeItem) (aFrame : Frame) (9 : Fin 64) (2 : Fin 4), anItem, aFrame, 9, 2, by decide +kernel⟩, ⟨onlyItem ((((toEngine State.reset 1 1).wr wSieve DESC_STATE.STATE usLoading).wr wSieve SIEVE_PDEF.ETH 0xFFFF).wr wSieve SIEVE_PDEF.HOST 1) (anItem : PipeItem) ({ aFrame with lin := none, src := 1 } : Frame), anItem, { aFrame with lin := none, src := 1 }, by decide +kernel⟩, ⟨(((up State.reset (wEth (7 : Fin 16))).wr (wEth (7 : Fin 16)) ETH_STATE.STATE ethUp).setEth { State.reset.eth with rxOpen := [] }).setBench { State.reset.bench with phase := .idle }, 7, List.replicate 20 0, by decide +kernel⟩, ⟨State.reset.setEth { State.reset.eth with rxOpen := [] }, 7, by decide +kernel⟩, ⟨State.reset.wr (wEth (7 : Fin 16)) ETH_STATE.STATE ethDisabled, 7, by decide +kernel⟩, ⟨State.reset.setFab { State.reset.fab with pipe := [] }, by decide +kernel⟩⟩

/-- Every clause of EgressComplete has a state and operands that meet its hypotheses. -/
theorem witness_EgressComplete :
    (∃ (s : State) (it : PipeItem) (c : Copy) (p : Fin 16), s.fab.pipe = [it] ∧ it.stage = .atCut ∧ it.ready = [c] ∧ c.dest = p.val ∧ c.ct = true ∧ s.hopCtThr p ≠ 0 ∧ s.hopCtThr p * 64 ≤ it.data.length ∧ s.hopDown p = false ∧ s.ethState p ≠ ethSleeping ∧ c.evt = false ∧ s.hopQlim p c.tc ≠ 0 ∧ qCells (s.queue p c.tc) + c.cells ≤ s.hopQlim p c.tc) ∧
    (∃ (s : State) (p : Fin 16) (c : Copy), c.tc < 8 ∧ s.hopDown p = false ∧ (s.sending p).isNone = true ∧ s.secyOn p = false ∧ s.ethState p ≠ ethSleepReq ∧ s.fab.queues = [(qKey p c.tc, [c])] ∧ s.evp.armed = [] ∧ s.hopOpen p c.tc = true ∧ s.hopSlope p c.tc = 0 ∧ look s.fab.backPress (qKey p c.tc) false = false ∧ s.stampAsked p c = none ∧ NoMirror s ∧ (s.frame c.fid).map (·.ecc) = some false ∧ c.outCtx = 0 ∧ wireBytes c ≤ s.maxFrame p) ∧
    (∃ (s : State) (p : Fin 16) (k : Nat) (c : Copy) (r : List Copy), s.hopDown p = false ∧ (s.sending p).isNone = true ∧ s.secyOn p = false ∧ s.ethState p ≠ ethSleepReq ∧ (((s.refreshCredit p).markPassed p).startWaits p).serveClass p = some k ∧ (((s.refreshCredit p).markPassed p).startWaits p).queue p k = c :: r ∧ NoMirror s ∧ (s.frame c.fid).map (·.ecc) = some false ∧ c.outCtx = 0 ∧ wireBytes c ≤ s.maxFrame p) ∧
    (∃ (s : State) (p : Fin 16), s.hopDown p = true ∨ (s.sending p).isSome = true) ∧
    (∃ (s : State) (p : Fin 16) (c : Copy), s.sending p = some c ∧ c.outCtx = 0 ∧ s.frameOpen c.fid = false ∧ c.sealed = true ∨ s.secyOn p = false ∧ wireBytes c ≤ s.maxFrame p ∧ c.untimed = false ∧ s.ethState p ≠ ethLoop ∧ c.dest = p.val) ∧
    (∃ (s : State) (p : Fin 16), s.sending p = none) ∧
    (∃ (s : State) (p : Fin 16) (c : Copy), s.sending p = some c ∧ c.ct = true ∧ s.ethState p ≠ ethLoop ∧ c.dest = p.val) ∧
    (∃ (s : State) (init : Initiator) (p : Fin 16), CmdOpen s init (wHop p) HOP_CTRL.FLUSH) ∧
    (∃ (s : State) (p : Fin 16), s.on (wHop p) HOP_CTRL.FLUSH = true) ∧
    (∃ (s : State) (p : Fin 16), s.on (wHop p) HOP_CTRL.FLUSH = false) ∧
    (∃ (s : State) (p : Fin 16), s.sending p = none) ∧
    (∃ (s : State), (s.fab.pipe.any fun i => i.stage == .atCut && i.ready.any (s.cutReady i)) = false) := 
  ⟨⟨((((State.reset.wr (wHop (4 : Fin 16)) DESC_STATE.STATE usReady).wr (wHop (4 : Fin 16)) HOP_CT_THR.CT_THR 1).wr (wHop (4 : Fin 16)) HOP_STAT.DOWN 0).wr (wHop (4 : Fin 16)) (HOP_QLIM.QLIM.elem 3) 1024).setFab { State.reset.fab with pipe := [({ anItem with data := List.replicate 64 0, stage := .atCut, ready := [{ aCopy with dest := 4, ct := true }] } : PipeItem)], queues := [] }, { anItem with data := List.replicate 64 0, stage := .atCut, ready := [{ aCopy with dest := 4, ct := true }] }, { aCopy with dest := 4, ct := true }, 4, by decide +kernel⟩, ⟨((((State.reset.wr (wHop (4 : Fin 16)) DESC_STATE.STATE usReady).wr (wHop (4 : Fin 16)) HOP_STAT.DOWN 0).wr (wEth (4 : Fin 16)) ETH_MAX_FRAME.MAX 1518).setFab { State.reset.fab with queues := [(qKey (4 : Fin 16) (aCopy : Copy).tc, [(aCopy : Copy)])], reader := [], frames := [{ aFrame with fid := (aCopy : Copy).fid }] }).setEvp { State.reset.evp with armed := [] }, 4, aCopy, by decide +kernel⟩, ⟨((((State.reset.wr (wHop (4 : Fin 16)) DESC_STATE.STATE usReady).wr (wHop (4 : Fin 16)) HOP_STAT.DOWN 0).wr (wEth (4 : Fin 16)) ETH_MAX_FRAME.MAX 1518).setFab { State.reset.fab with queues := [(qKey (4 : Fin 16) 3, [aCopy, { aCopy with cid := 2 }])], reader := [], frames := [aFrame] }).setEvp { State.reset.evp with armed := [] }, 4, 3, aCopy, [{ aCopy with cid := 2 }], by decide +kernel⟩, ⟨State.reset.setFab { State.reset.fab with reader := [((4 : Fin 16).val, aCopy)] }, 4, by decide +kernel⟩, ⟨(State.reset.setFab { State.reset.fab with reader := [((4 : Fin 16).val, ({ aCopy with dest := 4, sealed := true } : Copy))], frames := [] }).wr (wEth (4 : Fin 16)) ETH_MAX_FRAME.MAX 1518, 4, { aCopy with dest := 4, sealed := true }, by decide +kernel⟩, ⟨State.reset.setFab { State.reset.fab with reader := [] }, 4, by decide +kernel⟩, ⟨State.reset.setFab { State.reset.fab with reader := [((4 : Fin 16).val, ({ aCopy with dest := 4, ct := true } : Copy))] }, 4, { aCopy with dest := 4, ct := true }, by decide +kernel⟩, ⟨(((up State.reset (wHop (4 : Fin 16))).wr (wHop (4 : Fin 16)) HOP_CTRL.FLUSH 0).wr (wHop (4 : Fin 16)) HOP_FLUSH_MASK.MASK 8).setFab { State.reset.fab with queues := [(qKey (4 : Fin 16) 3, [aCopy, aCopy])], frames := [] }, .mp, 4, by decide +kernel⟩, ⟨State.reset.wr (wHop (4 : Fin 16)) HOP_CTRL.FLUSH 1, 4, by decide +kernel⟩, ⟨State.reset.wr (wHop (4 : Fin 16)) HOP_CTRL.FLUSH 0, 4, by decide +kernel⟩, ⟨State.reset.setFab { State.reset.fab with reader := [] }, 4, by decide +kernel⟩, ⟨State.reset.setFab { State.reset.fab with pipe := [] }, by decide +kernel⟩⟩

/-- Every clause of StockpileAndFrerComplete has a state and operands that meet its hypotheses. -/
theorem witness_StockpileAndFrerComplete :
    (∃ (s : State) (p : Fin 16) (c : Copy), s.sending p = some c ∧ c.dest = p.val ∧ s.ethState p ≠ ethLoop ∧ s.copyBad c = false) ∧
    (∃ (s : State) (r : Fin 16) (c : Copy) (l : List Copy), look s.fab.ringQ r.val [] = c :: l ∧ s.copyBad c = false) ∧
    (∃ (s : State) (p : Fin 16) (c : Copy) (cid : Nat), s.canSending p = some (.copy cid) ∧ (s.txq p).find? (·.cid == cid) = some c ∧ s.copyBad c = false) ∧
    (∃ (s : State) (p : Fin 16), s.sending p = none) ∧
    (∃ (s : State) (p : Fin 16) (c : Copy), s.sending p = some c ∧ c.dest = p.val ∧ s.ethState p ≠ ethLoop) ∧
    (∃ (s : State) (r : Fin 16) (c : Copy) (l : List Copy), look s.fab.ringQ r.val [] = c :: l) ∧
    (∃ (s : State) (it : PipeItem) (f : Frame), s.fab.pipe = [it] ∧ s.fab.frames = [f] ∧ f.fid = it.fid ∧ f.refs = 1 ∧ f.isOpen = false) ∧
    (∃ (s : State) (p : Fin 16) (fd : Nat) (n : Nat), s.rxOpen p = some ⟨some fd, n⟩ ∧ s.ethState p ≠ ethLoop) ∧
    (∃ (s : State), s.fab.pipe = []) ∧
    (∃ (s : State) (i : Fin 256), s.on wFabric FAB_FRER_REC.EN i = true ∧ s.rd wFabric FAB_FRER_REC.RESET_TO i ≠ 0 ∧ (s.fab.frerRec.find? (·.1 == i.val)).isSome = true) ∧
    (∃ (s : State) (i : Fin 256), s.on wFabric FAB_FRER_REC.EN i = false ∨ s.rd wFabric FAB_FRER_REC.RESET_TO i = 0 ∨ (s.fab.frerRec.find? (·.1 == i.val)).isSome = false) := 
  ⟨⟨State.reset.setFab { State.reset.fab with reader := [((4 : Fin 16).val, ({ aCopy with dest := 4 } : Copy))], frames := [] }, 4, { aCopy with dest := 4 }, by decide +kernel⟩, ⟨State.reset.setFab { State.reset.fab with ringQ := [((2 : Fin 16).val, ({ aCopy with dest := 0x82 } : Copy) :: ([aCopy] : List Copy))], frames := [] }, 2, { aCopy with dest := 0x82 }, [aCopy], by decide +kernel⟩, ⟨(State.reset.setCan { State.reset.can with sending := [((4 : Fin 16).val, .copy 1)], txq := [((4 : Fin 16).val, [aCopy])] }).setFab { State.reset.fab with frames := [] }, 4, aCopy, 1, by decide +kernel⟩, ⟨State.reset.setFab { State.reset.fab with reader := [] }, 4, by decide +kernel⟩, ⟨State.reset.setFab { State.reset.fab with reader := [((4 : Fin 16).val, ({ aCopy with dest := 4 } : Copy))] }, 4, { aCopy with dest := 4 }, by decide +kernel⟩, ⟨State.reset.setFab { State.reset.fab with ringQ := [((2 : Fin 16).val, ({ aCopy with dest := 0x82 } : Copy) :: ([aCopy] : List Copy))], frames := [] }, 2, { aCopy with dest := 0x82 }, [aCopy], by decide +kernel⟩, ⟨onlyItem State.reset (anItem : PipeItem) (aFrame : Frame), anItem, aFrame, by decide +kernel⟩, ⟨(State.reset.setFab { State.reset.fab with pipe := [{ anItem with fid := (1 : Nat) }], reader := [], queues := [], frames := [{ aFrame with fid := (1 : Nat), isOpen := true, refs := 2 }] }).setEth { State.reset.eth with rxOpen := [((3 : Fin 16).val, ⟨some (1 : Nat), (100 : Nat)⟩)] }, 3, 1, 100, by decide +kernel⟩, ⟨State.reset.setFab { State.reset.fab with pipe := [] }, by decide +kernel⟩, ⟨((State.reset.wr wFabric FAB_FRER_REC.EN 1 (200 : Fin 256)).wr wFabric FAB_FRER_REC.RESET_TO 9 (200 : Fin 256)).setFab { State.reset.fab with frerRec := [((200 : Fin 256).val, ⟨5, 1⟩)] }, 200, by decide +kernel⟩, ⟨State.reset.wr wFabric FAB_FRER_REC.EN 0 (200 : Fin 256), 200, by decide +kernel⟩⟩

/-- Every clause of AuthenticationComplete has a state and operands that meet its hypotheses. -/
theorem witness_AuthenticationComplete :
    (∃ (s : State) (c : Fin 4096) (e : Fin 4) (it : PipeItem) (f : Frame) (i : Nat) (k : Nat) (v : BitVec 64), s.cmacRom = false ∧ f.can = none ∧ f.lin.isSome = true ∧ f.refs = 1 ∧ f.fid = it.fid ∧ it.plan = .route i ∧ it.strip = 0 ∧ ToEngine s it.gen i k ∧ k < 4 ∧ CmacReady s it.gen c e ∧ s.ent it.gen wAuth AUTH_CTX.DIR c = 0 ∧ s.fv c < v.toNat ∧ v.toNat - s.fv c ≤ max 1 (s.ctx it.gen AUTH_CTX.ACC_WIN c) ∧ v.toNat - s.fv c ≤ 2 ^ s.tfvBits it.gen c ∧ s.entOn it.gen wAuth AUTH_CTX.FLAT c = true ∨ v.toNat / 2 ^ 40 = s.fv c / 2 ^ 40 ∧ v.toNat < s.ceil c) ∧
    (∃ (s : State) (c : Fin 4096) (e : Fin 4) (p : Fin 16) (x : Copy) (h : CanHdr), s.cmacRom = false ∧ s.appendNext c = some x ∧ x.dest = 0x10 + p.val ∧ x.can = some h ∧ CmacReady s (s.genOf wAuth) c e ∧ s.ent (s.genOf wAuth) wAuth AUTH_CTX.DIR c = 1 ∧ s.fv c + 1 < s.ceil c ∧ x.data.length + s.trailerLen (s.genOf wAuth) c ≤ canLimit h.fmt ∧ s.fv c < 2 ^ 64 - 1) ∧
    (∃ (s : State) (c : Fin 4096) (e : Fin 4) (p : Fin 16) (x : Copy) (h : CanHdr), s.cmacRom = false ∧ s.guard.ceilPend.contains c.val = true ∧ (s.verifying c).isNone = true ∧ s.ceil c = s.fv c + 1 ∧ s.appendNext c = some x ∧ x.dest = 0x10 + p.val ∧ x.can = some h ∧ CmacReady s (s.genOf wAuth) c e ∧ s.ent (s.genOf wAuth) wAuth AUTH_CTX.DIR c = 1 ∧ x.data.length + s.trailerLen (s.genOf wAuth) c ≤ canLimit h.fmt ∧ s.fv c < 2 ^ 64 - 1) ∧
    (∃ (s : State) (c : Fin 4096), s.guard.ceilPend.contains c.val = true ∧ (s.verifying c).isNone = true ∧ s.appendNext c = none) ∧
    (∃ (s : State) (init : Initiator) (v : BitVec 24), WriteOpen s init wAuth 0x144 ∧ s.epochNew v.toNat = true) ∧
    (∃ (s : State) (init : Initiator) (v : BitVec 24), WriteOpen s init wAuth 0x144 ∧ s.epochNew v.toNat = false) ∧
    (∃ (s : State) (c : Fin 4096) (x : Copy), s.appendNext c = some x) ∧
    (∃ (s : State) (c : Fin 4096) (it : PipeItem) (f : Frame), s.verifying c = some (it, f) ∧ f.refs = 1) ∧
    (∃ (s : State) (p : Fin 6) (x : Copy) (k : Nat), s.sending p = some x ∧ s.secyOn p = true ∧ s.txSc p = some k ∧ x.outCtx = 0 ∧ s.ethState p ≠ ethLoop ∧ x.dest = p.val) ∧
    (∃ (s : State) (p : Fin 6) (n : Nat) (f : Frame), s.rxOpen p = some ⟨some f.fid, n⟩ ∧ s.frame f.fid = some f ∧ s.secyOn p = true ∧ s.rd wMacsec (MSEC_PORT.VALIDATE.elem p) ≠ 0 ∧ (secTag f.data).isSome = true ∧ s.ethState p ≠ ethLoop) ∧
    (∃ (s : State) (p : Fin 6), s.sending p = none) ∧
    (∃ (s : State) (c : Fin 4096), s.verifying c = none) ∧
    (∃ (s : State) (c : Fin 4096), s.appendNext c = none) ∧
    (∃ (s : State) (c : Fin 4096), s.guard.ceilPend.contains c.val = false) := 
  ⟨⟨authUp (toEngine State.reset 7 (2 : Nat)) (5 : Fin 4096) 0 ((0x10000000005 : BitVec 64).toNat - 3) 65536, 5, 1, { anItem with plan := .route 7 }, aFrame, 7, 2, 0x10000000005, by decide +kernel⟩, ⟨((authUp State.reset (5 : Fin 4096) 1 77 65536).setFab { State.reset.fab with appendQ := [({ aCopy with dest := 0x13, outCtx := 5, can := some aCan, data := [1, 2] } : Copy).cid], appendWait := [], reader := [] }).setCan { State.reset.can with txq := [((3 : Fin 16).val, [({ aCopy with dest := 0x13, outCtx := 5, can := some aCan, data := [1, 2] } : Copy)])] }, 5, 1, 3, { aCopy with dest := 0x13, outCtx := 5, can := some aCan, data := [1, 2] }, aCan, by decide +kernel⟩, ⟨(let s := ((authUp State.reset (5 : Fin 4096) 1 77 1).setFab { State.reset.fab with pipe := [], appendQ := [({ aCopy with dest := 0x13, outCtx := 5, can := some aCan, data := [1, 2] } : Copy).cid], appendWait := [], reader := [] }).setCan { State.reset.can with txq := [((3 : Fin 16).val, [({ aCopy with dest := 0x13, outCtx := 5, can := some aCan, data := [1, 2] } : Copy)])] }; s.setGuard { s.guard with ceilPend := [(5 : Fin 4096).val] }), 5, 1, 3, { aCopy with dest := 0x13, outCtx := 5, can := some aCan, data := [1, 2] }, aCan, by decide +kernel⟩, ⟨(State.reset.setGuard { State.reset.guard with ceilPend := [(77 : Fin 4096).val] }).setFab { State.reset.fab with pipe := [], appendQ := [], appendWait := [], reader := [] }, 77, by decide +kernel⟩, ⟨((up State.reset wAuth).wr wAuth AUTH_EPOCH.VALID 0).setGuard { State.reset.guard with started := [4, 9] }, .mp, 3, by decide +kernel⟩, ⟨((up State.reset wAuth).wr wAuth AUTH_EPOCH.VALID 1).wr wAuth AUTH_EPOCH.EPOCH 0xFFFFFF, .mp, 3, by decide +kernel⟩, ⟨State.reset.setFab { State.reset.fab with appendQ := [({ aCopy with dest := 0x23, outCtx := 5 } : Copy).cid], appendWait := [({ aCopy with dest := 0x23, outCtx := 5 } : Copy)], reader := [] }, 5, { aCopy with dest := 0x23, outCtx := 5 }, by decide +kernel⟩, ⟨onlyItem State.reset ({ anItem with stage := .atVerify, inCtx := 5 } : PipeItem) (aFrame : Frame), 5, { anItem with stage := .atVerify, inCtx := 5 }, aFrame, by decide +kernel⟩, ⟨((State.reset.setFab { State.reset.fab with reader := [((4 : Fin 6).val, ({ aCopy with dest := 4 } : Copy))] }).wr wMacsec (MSEC_PORT.EN.elem (4 : Fin 6)) 1).wr wMacsec MSEC_SC.VALID 1 0 |>.wr wMacsec MSEC_SC.DIR 1 0 |>.wr wMacsec MSEC_SC.PORT 4 0, 4, { aCopy with dest := 4 }, 0, by decide +kernel⟩, ⟨(((State.reset.wr wMacsec (MSEC_PORT.EN.elem (3 : Fin 6)) 1).wr wMacsec (MSEC_PORT.VALIDATE.elem (3 : Fin 6)) 1).setFab { State.reset.fab with pipe := [], reader := [], queues := [], frames := [({ aFrame with isOpen := true, data := List.replicate 12 0 ++ [0x88, 0xE5] ++ List.replicate 40 0 } : Frame)] }).setEth { State.reset.eth with rxOpen := [((3 : Fin 6).val, ⟨some 1, (40 : Nat)⟩)] }, 3, 40, { aFrame with isOpen := true, data := List.replicate 12 0 ++ [0x88, 0xE5] ++ List.replicate 40 0 }, by decide +kernel⟩, ⟨State.reset.setFab { State.reset.fab with reader := [] }, 4, by decide +kernel⟩, ⟨State.reset.setFab { State.reset.fab with pipe := [] }, 4, by decide +kernel⟩, ⟨State.reset.setFab { State.reset.fab with appendQ := [], appendWait := [], reader := [] }, 4, by decide +kernel⟩, ⟨State.reset.setGuard { State.reset.guard with ceilPend := [] }, 4, by decide +kernel⟩⟩

/-- Every clause of EthernetLinkComplete has a state and operands that meet its hypotheses. -/
theorem witness_EthernetLinkComplete :
    (∃ (s : State) (init : Initiator) (p : Fin 16) (low : Fin 128), WriteOpen s init (wEth p) 0x140 ∧ s.ethState p = ethDisabled ∧ ifAllowed p (bits low.val 6 4) = true ∧ s.mdioList p = []) ∧
    (∃ (s : State) (init : Initiator) (p : Fin 16) (low : Fin 128), WriteOpen s init (wEth p) 0x140 ∧ s.ethState p = ethDisabled ∧ ifAllowed p (bits low.val 6 4) = false) ∧
    (∃ (s : State) (init : Initiator) (p : Fin 16), WriteOpen s init (wEth p) 0x140) ∧
    (∃ (s : State) (p : Fin 16), s.ethState p = ethTraining ∧ s.inRom (wEth p) = false ∧ s.on (wEth p) ETH_CFG.AN = false) ∧
    (∃ (s : State) (p : Fin 16) (r : EthRate) (full : Bool), s.ethState p = ethTraining ∧ s.inRom (wEth p) = false ∧ s.on (wEth p) ETH_CFG.AN = true ∧ full = true ∧ if s.rd (wEth p) ETH_CFG.IF = 2 then 3 ≤ rateCode r else rateCode r = 2) ∧
    (∃ (s : State) (p : Fin 16) (r : EthRate) (full : Bool), s.ethState p = ethTraining ∧ s.inRom (wEth p) = false ∧ s.on (wEth p) ETH_CFG.AN = true ∧ full = false ∨ ¬ (if s.rd (wEth p) ETH_CFG.IF = 2 then 3 ≤ rateCode r else rateCode r = 2)) ∧
    (∃ (s : State) (p : Fin 16), s.ethState p ≠ ethTraining ∨ s.inRom (wEth p) = true) ∧
    (∃ (s : State) (p : Fin 16), s.ethState p ≠ ethTraining ∨ look s.eth.linkTo p false = false ∨ s.rd (wEth p) ETH_LINK_TO.LINK_TO = 0) ∧
    (∃ (s : State) (p : Fin 16), s.ethState p = ethSleepReq) ∧
    (∃ (s : State) (init : Initiator) (p : Fin 16), CmdOpen s init (wEth p) ETH_CTRL.RETRAIN ∧ s.ethState p = ethTraining) ∧
    (∃ (s : State) (p : Fin 16), s.ethState p = ethTraining ∧ look s.eth.linkTo p false = true ∧ s.rd (wEth p) ETH_LINK_TO.LINK_TO ≠ 0) ∧
    (∃ (s : State) (p : Fin 16), s.ethState p = ethUp) ∧
    (∃ (s : State) (init : Initiator) (p : Fin 16), CmdOpen s init (wEth p) ETH_CTRL.RETRAIN ∧ s.ethState p = ethUp) ∧
    (∃ (s : State) (init : Initiator) (p : Fin 16), CmdOpen s init (wEth p) ETH_CTRL.PHY_RESET ∧ p.val < 6) ∧
    (∃ (s : State) (p : Fin 16), look s.eth.pulse p false = true ∧ s.phyHeld p = false ∧ p.val < 6) ∧
    (∃ (s : State) (p : Fin 6), s.gxOn = true ∧ look s.eth.pulse p false = false ∧ s.phyHeld p = false) ∧
    (∃ (s : State) (p : Fin 6), s.gxOn = true ∧ look s.eth.pulse p false = true ∨ s.phyHeld p = true) ∧
    (∃ (s : State) (p : Fin 16), look s.eth.pulse p false = true ∧ s.phyHeld p = true) ∧
    (∃ (s : State) (p : Fin 16), look s.eth.pulse p false = false) ∧
    (∃ (s : State) (init : Initiator) (p : Fin 16) (v : Byte), WriteOpen s init (wEth p) 0x146 ∧ s.ethState p = ethUp ∧ s.rd (wEth p) ETH_LOOP.MODE = 0 ∧ v.toNat % 4 = 1 ∨ v.toNat % 4 = 2) ∧
    (∃ (s : State) (p : Fin 16), s.ethState p ≠ ethUp ∧ s.ethState p ≠ ethSleepReq ∧ ¬ (s.ethState p = ethDisabled)) ∧
    (∃ (s : State) (init : Initiator) (p : Fin 16) (v : Byte), WriteOpen s init (wEth p) 0x146 ∧ s.ethState p = ethUp ∧ s.rd (wEth p) ETH_LOOP.MODE = 0 ∧ v.toNat % 4 = 3) ∧
    (∃ (s : State) (init : Initiator) (p : Fin 16) (v : Byte), WriteOpen s init (wEth p) 0x146 ∧ s.ethState p = ethLoop ∧ s.rd (wEth p) ETH_LOOP.MODE ≠ 0 ∧ v.toNat % 4 = 0) := 
  ⟨⟨((up State.reset (wEth (8 : Fin 16))).wr (wEth (8 : Fin 16)) ETH_STATE.STATE 0).setEth { State.reset.eth with mdioList := [] }, .mp, 8, 80, by decide +kernel⟩, ⟨(up State.reset (wEth (8 : Fin 16))).wr (wEth (8 : Fin 16)) ETH_STATE.STATE 0, .mp, 8, 16, by decide +kernel⟩, ⟨(up State.reset (wEth (3 : Fin 16))).wr (wEth (3 : Fin 16)) ETH_STATE.STATE 2, .mp, 3, by decide +kernel⟩, ⟨(((up State.reset (wEth (3 : Fin 16))).setUpd { State.reset.upd with recovery := [] }).wr (wEth (3 : Fin 16)) ETH_STATE.STATE 1).wr (wEth (3 : Fin 16)) ETH_CFG.AN 0, 3, by decide +kernel⟩, ⟨((((up State.reset (wEth (1 : Fin 16))).setUpd { State.reset.upd with recovery := [] }).wr (wEth (1 : Fin 16)) ETH_STATE.STATE 1).wr (wEth (1 : Fin 16)) ETH_CFG.AN 1).wr (wEth (1 : Fin 16)) ETH_CFG.IF 2, 1, .r5G, true, by decide +kernel⟩, ⟨((((up State.reset (wEth (1 : Fin 16))).setUpd { State.reset.upd with recovery := [] }).wr (wEth (1 : Fin 16)) ETH_STATE.STATE 1).wr (wEth (1 : Fin 16)) ETH_CFG.AN 1).wr (wEth (1 : Fin 16)) ETH_CFG.IF 2, 1, .r1G, true, by decide +kernel⟩, ⟨State.reset.wr (wEth (1 : Fin 16)) ETH_STATE.STATE 2, 1, by decide +kernel⟩, ⟨State.reset.wr (wEth (1 : Fin 16)) ETH_STATE.STATE 2, 1, by decide +kernel⟩, ⟨(up State.reset (wEth (3 : Fin 16))).wr (wEth (3 : Fin 16)) ETH_STATE.STATE 3, 3, by decide +kernel⟩, ⟨((up State.reset (wEth (3 : Fin 16))).wr (wEth (3 : Fin 16)) ETH_CTRL.RETRAIN 0).wr (wEth (3 : Fin 16)) ETH_STATE.STATE 1, .pcie, 3, by decide +kernel⟩, ⟨(((up State.reset (wEth (3 : Fin 16))).wr (wEth (3 : Fin 16)) ETH_STATE.STATE 1).wr (wEth (3 : Fin 16)) ETH_LINK_TO.LINK_TO 5).setEth { State.reset.eth with linkTo := [((3 : Fin 16).val, true)] }, 3, by decide +kernel⟩, ⟨(up State.reset (wEth (3 : Fin 16))).wr (wEth (3 : Fin 16)) ETH_STATE.STATE 2, 3, by decide +kernel⟩, ⟨((up State.reset (wEth (3 : Fin 16))).wr (wEth (3 : Fin 16)) ETH_CTRL.RETRAIN 0).wr (wEth (3 : Fin 16)) ETH_STATE.STATE 2, .pcie, 3, by decide +kernel⟩, ⟨(up State.reset (wEth (5 : Fin 16))).wr (wEth (5 : Fin 16)) ETH_CTRL.PHY_RESET 0, .spi, 5, by decide +kernel⟩, ⟨((up State.reset (wEth (5 : Fin 16))).wr (wEth (5 : Fin 16)) ETH_STATE.STATE 2).setEth { State.reset.eth with pulse := [((5 : Fin 16).val, true)], phyHold := [], rstLow := [((5 : Fin 16).val, true)] }, 5, by decide +kernel⟩, ⟨((up State.reset (wEth (5 : Fin 6))).wr (wEth (5 : Fin 6)) ETH_STATE.STATE 0).setEth { State.reset.eth with pulse := [], phyHold := [], rstLow := [((5 : Fin 6).val, true)] }, 5, by decide +kernel⟩, ⟨(up State.reset (wEth (5 : Fin 6))).setEth { State.reset.eth with pulse := [((5 : Fin 6).val, true)], rstLow := [((5 : Fin 6).val, true)] }, 5, by decide +kernel⟩, ⟨(up State.reset (wEth (5 : Fin 16))).setEth { State.reset.eth with pulse := [((5 : Fin 16).val, true)], phyHold := [((5 : Fin 16).val, true)], rstLow := [((5 : Fin 16).val, true)] }, 5, by decide +kernel⟩, ⟨State.reset.setEth { State.reset.eth with pulse := [] }, 5, by decide +kernel⟩, ⟨((up State.reset (wEth (5 : Fin 16))).wr (wEth (5 : Fin 16)) ETH_STATE.STATE 2).wr (wEth (5 : Fin 16)) ETH_LOOP.MODE 0, .mp, 5, 2, by decide +kernel⟩, ⟨State.reset.wr (wEth (3 : Fin 16)) ETH_STATE.STATE 1, 3, by decide +kernel⟩, ⟨((up State.reset (wEth (5 : Fin 16))).wr (wEth (5 : Fin 16)) ETH_STATE.STATE 2).wr (wEth (5 : Fin 16)) ETH_LOOP.MODE 0, .mp, 5, 3, by decide +kernel⟩, ⟨((up State.reset (wEth (5 : Fin 16))).wr (wEth (5 : Fin 16)) ETH_STATE.STATE 5).wr (wEth (5 : Fin 16)) ETH_LOOP.MODE 1, .mp, 5, 0, by decide +kernel⟩⟩

/-- Every clause of EthernetSleepAndMdioComplete has a state and operands that meet its hypotheses. -/
theorem witness_EthernetSleepAndMdioComplete :
    (∃ (s : State) (init : Initiator) (p : Fin 16), CmdOpen s init (wEth p) ETH_CTRL.SLEEP ∧ s.ethState p = ethUp) ∧
    (∃ (s : State) (init : Initiator) (p : Fin 16), CmdOpen s init (wEth p) ETH_CTRL.WAKE ∧ s.ethState p = ethSleeping) ∧
    (∃ (s : State) (p : Fin 16), 6 ≤ p.val ∧ s.ethState p = ethSleepReq ∧ s.sleepStep p = .drain ∧ s.hopEmpty p = true ∧ s.on (wEth p) ETH_SLEEP_CFG.TC10_EN = true) ∧
    (∃ (s : State) (p : Fin 16), s.ethState p = ethSleepReq ∧ s.sleepStep p = .drain) ∧
    (∃ (s : State) (p : Fin 16), s.ethState p = ethSleepReq ∧ s.sleepStep p = .requested) ∧
    (∃ (s : State) (p : Fin 16), s.ethState p = ethSleepReq ∧ s.sleepStep p = .requested ∨ s.sleepStep p = .acked) ∧
    (∃ (s : State) (p : Fin 16), 6 ≤ p.val ∧ s.ethState p = ethUp ∧ s.isSafe (wEth p) = false ∧ s.hopEmpty p = true ∧ s.on (wEth p) ETH_SLEEP_CFG.TC10_EN = true ∧ s.on (wEth p) ETH_SLEEP_CFG.ACCEPT = true) ∧
    (∃ (s : State) (p : Fin 16), s.ethState p = ethSleepReq) ∧
    (∃ (s : State) (p : Fin 16), 6 ≤ p.val ∧ s.ethState p = ethSleeping) ∧
    (∃ (s : State) (p : Fin 16), p.val < 6 ∧ s.on (wEth p) ETH_PHY_CFG.PRESENT = true ∧ s.gxOn = true) ∧
    (∃ (s : State) (init : Initiator) (p : Fin 6), WriteOpen s init (wEth p) 0x151 ∧ s.on (wEth p) ETH_PHY_CFG.PRESENT = true ∧ s.mdioBusy p = false) ∧
    (∃ (s : State) (b : Fin 2) (m : Mdio) (l : List Mdio), s.bus b = m :: l ∧ m.list = false ∧ m.wr = false ∧ m.port < 6) ∧
    (∃ (s : State) (b : Fin 2) (m : Mdio) (l : List Mdio), s.bus b = m :: l ∧ m.list = false ∧ m.wr = false ∧ m.port < 6) ∧
    (∃ (s : State) (b : Fin 2) (m : Mdio) (l : List Mdio), s.bus b = m :: l ∧ m.list = false ∧ m.wr = true ∧ m.port < 6) ∧
    (∃ (s : State) (b : Fin 2), s.bus b = []) ∧
    (∃ (s : State) (p : Fin 16), s.ethState p = ethSleepReq ∧ s.sleepStep p = .drain ∧ s.hopEmpty p = true ∧ p.val < 6 ∨ s.on (wEth p) ETH_SLEEP_CFG.TC10_EN = false) ∧
    (∃ (s : State) (p : Fin 16), s.ethState p ≠ ethSleepReq ∨ s.sleepStep p ≠ .drain ∨ s.hopEmpty p = false) ∧
    (∃ (s : State) (p : Fin 16), s.ethState p ≠ ethSleepReq) ∧
    (∃ (s : State) (p : Fin 16), s.ethState p ≠ ethSleepReq) ∧
    (∃ (s : State) (p : Fin 16), s.ethState p ≠ ethSleepReq) ∧
    (∃ (s : State) (p : Fin 16), s.ethState p ≠ ethUp) ∧
    (∃ (s : State) (p : Fin 16), 6 ≤ p.val ∧ s.ethState p = ethSleeping) ∧
    (∃ (s : State) (p : Fin 16), s.ethState p = ethSleepReq ∧ 6 ≤ p.val) ∧
    (∃ (s : State) (p : Fin 16), s.ethState p ≠ ethSleepReq ∧ s.ethState p ≠ ethSleeping) ∧
    (∃ (s : State) (p : Fin 16), 6 ≤ p.val ∨ s.on (wEth p) ETH_PHY_CFG.PRESENT = false) := 
  ⟨⟨((up State.reset (wEth (9 : Fin 16))).wr (wEth (9 : Fin 16)) ETH_CTRL.SLEEP 0).wr (wEth (9 : Fin 16)) ETH_STATE.STATE 2, .mp, 9, by decide +kernel⟩, ⟨((up State.reset (wEth (9 : Fin 16))).wr (wEth (9 : Fin 16)) ETH_CTRL.WAKE 0).wr (wEth (9 : Fin 16)) ETH_STATE.STATE 4, .mp, 9, by decide +kernel⟩, ⟨(((State.reset.wr (wEth (9 : Fin 16)) ETH_STATE.STATE 3).wr (wEth (9 : Fin 16)) ETH_SLEEP_CFG.TC10_EN 1).setFab { State.reset.fab with queues := [], reader := [] }).setEth { State.reset.eth with sleep := [((9 : Fin 16).val, .drain)] }, 9, by decide +kernel⟩, ⟨(State.reset.wr (wEth (9 : Fin 16)) ETH_STATE.STATE 3).setEth { State.reset.eth with sleep := [((9 : Fin 16).val, .drain)] }, 9, by decide +kernel⟩, ⟨(State.reset.wr (wEth (9 : Fin 16)) ETH_STATE.STATE 3).setEth { State.reset.eth with sleep := [((9 : Fin 16).val, .requested)] }, 9, by decide +kernel⟩, ⟨(State.reset.wr (wEth (9 : Fin 16)) ETH_STATE.STATE 3).setEth { State.reset.eth with sleep := [((9 : Fin 16).val, .requested)] }, 9, by decide +kernel⟩, ⟨((((State.reset.wr (wEth (9 : Fin 16)) ETH_STATE.STATE 2).wr (wEth (9 : Fin 16)) DESC_STATE.STATE usReady).wr (wEth (9 : Fin 16)) ETH_SLEEP_CFG.TC10_EN 1).wr (wEth (9 : Fin 16)) ETH_SLEEP_CFG.ACCEPT 1).setFab { State.reset.fab with queues := [], reader := [] }, 9, by decide +kernel⟩, ⟨State.reset.wr (wEth (9 : Fin 16)) ETH_STATE.STATE 3, 9, by decide +kernel⟩, ⟨State.reset.wr (wEth (9 : Fin 16)) ETH_STATE.STATE 4, 9, by decide +kernel⟩, ⟨(up State.reset (wEth (2 : Fin 16))).wr (wEth (2 : Fin 16)) ETH_PHY_CFG.PRESENT 1, 2, by decide +kernel⟩, ⟨(((up State.reset (wEth (1 : Fin 6))).wr (wEth (1 : Fin 6)) ETH_PHY_CFG.PRESENT 1).wr (wEth (1 : Fin 6)) ETH_MDIO_CTRL.GO 0).setEth { State.reset.eth with mdioList := [], bus0 := [], bus1 := [] }, .mp, 1, by decide +kernel⟩, ⟨State.reset.setBus (1 : Fin 2) [(⟨2, false, false, true, 3, 4, 5, 6⟩ : Mdio)], 1, ⟨2, false, false, true, 3, 4, 5, 6⟩, [], by decide +kernel⟩, ⟨State.reset.setBus (1 : Fin 2) [(⟨2, false, false, false, 3, 4, 5, 6⟩ : Mdio)], 1, ⟨2, false, false, false, 3, 4, 5, 6⟩, [], by decide +kernel⟩, ⟨State.reset.setBus (1 : Fin 2) [(⟨2, true, false, true, 3, 4, 5, 6⟩ : Mdio)], 1, ⟨2, true, false, true, 3, 4, 5, 6⟩, [], by decide +kernel⟩, ⟨State.reset.setBus (1 : Fin 2) [], 1, by decide +kernel⟩, ⟨((State.reset.wr (wEth (3 : Fin 16)) ETH_STATE.STATE 3).setFab { State.reset.fab with queues := [], reader := [] }).setEth { State.reset.eth with sleep := [((3 : Fin 16).val, .drain)] }, 3, by decide +kernel⟩, ⟨State.reset.wr (wEth (3 : Fin 16)) ETH_STATE.STATE 2, 3, by decide +kernel⟩, ⟨State.reset.wr (wEth (3 : Fin 16)) ETH_STATE.STATE 2, 3, by decide +kernel⟩, ⟨State.reset.wr (wEth (3 : Fin 16)) ETH_STATE.STATE 2, 3, by decide +kernel⟩, ⟨State.reset.wr (wEth (3 : Fin 16)) ETH_STATE.STATE 2, 3, by decide +kernel⟩, ⟨State.reset.wr (wEth (9 : Fin 16)) ETH_STATE.STATE 1, 9, by decide +kernel⟩, ⟨State.reset.wr (wEth (9 : Fin 16)) ETH_STATE.STATE 4, 9, by decide +kernel⟩, ⟨State.reset.wr (wEth (9 : Fin 16)) ETH_STATE.STATE 3, 9, by decide +kernel⟩, ⟨State.reset.wr (wEth (9 : Fin 16)) ETH_STATE.STATE 1, 9, by decide +kernel⟩, ⟨State.reset.wr (wEth (9 : Fin 16)) ETH_STATE.STATE 1, 9, by decide +kernel⟩⟩

/-- Every clause of LearningAgingRehashComplete has a state and operands that meet its hypotheses. -/
theorem witness_LearningAgingRehashComplete :
    (∃ (s : State) (r : LearnReq) (q : List LearnReq), s.gxOn = true ∧ s.isSafe wL2 = false ∧ s.tbl.learnQ = r :: q ∧ (s.tbl.l2.any fun w => w.isKey r.fid r.mac && s.l2Probed r.fid r.mac w) = false ∧ s.l2Free (s.l2Bucket s.l2Cur r.fid r.mac) = true) ∧
    (∃ (s : State) (r : LearnReq) (q : List LearnReq), s.gxOn = true ∧ s.isSafe wL2 = false ∧ s.tbl.learnQ = r :: q ∧ (s.tbl.l2.any fun w => w.isKey r.fid r.mac && s.l2Probed r.fid r.mac w) = false ∧ s.l2Free (s.l2Bucket s.l2Cur r.fid r.mac) = false) ∧
    (∃ (s : State), s.gxOn = true ∧ s.isSafe wL2 = false ∧ s.rd wL2 L2_AGE_PERIOD.P ≠ 0) ∧
    (∃ (s : State) (r : L2Way) (w : L2Way) (l : List L2Way), s.gxOn = true ∧ s.isSafe wL2 = false ∧ s.tbl.removals = r :: l ∧ s.tbl.l2.find? (fun x => x.sameKey r && x.bucket == r.bucket && !x.static) = some w) ∧
    (∃ (s : State) (r : L2Way) (w : L2Way) (l : List L2Way), s.gxOn = true ∧ s.isSafe wL2 = false ∧ s.tbl.removals = r :: l ∧ s.tbl.l2.find? (fun x => x.sameKey r && x.bucket == r.bucket && !x.static) = some w) ∧
    (∃ (s : State) (w : L2Way) (l : List L2Way), s.gxOn = true ∧ s.isSafe wL2 = false ∧ s.tbl.removals = w :: l ∧ w.static = false ∧ s.tbl.l2 = [w]) ∧
    (∃ (s : State) (w : L2Way) (l : List L2Way), s.gxOn = true ∧ s.isSafe wL2 = false ∧ s.tbl.removals = w :: l ∧ w.static = false ∧ s.tbl.l2 = [w]) ∧
    (∃ (s : State) (init : Initiator), WriteOpen s init wL2 0x14A ∧ s.on wL2 L2_REHASH.START = false ∧ s.rehash = rhIdle) ∧
    (∃ (s : State), s.gxOn = true ∧ s.isSafe wL2 = false ∧ s.rehash = rhMigrate ∧ (s.migratePass fun _ => true).rehashLeft ≠ [] ∧ s.rd wL2 L2_REHASH.PASS < 3) ∧
    (∃ (s : State), s.gxOn = true ∧ s.isSafe wL2 = false ∧ s.rehash = rhMigrate ∧ ((s.migratePass fun _ => true).rehashLeft.any (·.static)) = true ∧ 3 ≤ s.rd wL2 L2_REHASH.PASS) ∧
    (∃ (s : State), s.gxOn = false ∨ s.isSafe wL2 = true ∨ s.rehash ≠ rhMigrate) ∧
    (∃ (s : State), s.gxOn = false ∨ s.isSafe wL2 = true ∨ s.rehash ≠ rhStalled) ∧
    (∃ (s : State), s.gxOn = false ∨ s.isSafe wL2 = true ∨ s.tbl.removals = []) ∧
    (∃ (s : State), s.gxOn = false ∨ s.isSafe wL2 = true ∨ s.tbl.learnQ = []) ∧
    (∃ (s : State), s.gxOn = false ∨ s.isSafe wL2 = true ∨ s.rd wL2 L2_AGE_PERIOD.P = 0) ∧
    (∃ (s : State), s.gxOn = true ∧ s.isSafe wL2 = false ∧ s.rehash = rhMigrate ∧ (s.tbl.l2.all fun w => w.h == s.l2Cur) = true) ∧
    (∃ (s : State) (w : L2Way), s.gxOn = true ∧ s.isSafe wL2 = false ∧ s.rehash = rhStalled ∧ w.static = true ∧ w.h = 1 - s.l2Cur ∧ s.l2Cur ≤ 1 ∧ s.tbl.l2 = [w]) := 
  ⟨⟨(up State.reset wL2).setTbl { State.reset.tbl with learnQ := (⟨5, 0x1234, 3⟩ : LearnReq) :: ([⟨6, 0x1234, 3⟩] : List LearnReq), l2 := [] }, ⟨5, 0x1234, 3⟩, [⟨6, 0x1234, 3⟩], by decide +kernel⟩, ⟨(up State.reset wL2).setTbl { State.reset.tbl with learnQ := (⟨5, 0x1234, 3⟩ : LearnReq) :: ([⟨6, 0x1234, 3⟩] : List LearnReq), l2 := List.replicate 4 { aWay with bucket := State.reset.l2Bucket State.reset.l2Cur (⟨5, 0x1234, 3⟩ : LearnReq).fid (⟨5, 0x1234, 3⟩ : LearnReq).mac, mac := (⟨5, 0x1234, 3⟩ : LearnReq).mac + 1 } }, ⟨5, 0x1234, 3⟩, [⟨6, 0x1234, 3⟩], by decide +kernel⟩, ⟨(up State.reset wL2).wr wL2 L2_AGE_PERIOD.P 10, by decide +kernel⟩, ⟨(up State.reset wL2).setTbl { State.reset.tbl with removals := (aWay : L2Way) :: ([] : List L2Way), l2 := [(aWay : L2Way)] }, aWay, aWay, [], by decide +kernel⟩, ⟨(up State.reset wL2).setTbl { State.reset.tbl with removals := ({ aWay with act := true } : L2Way) :: ([] : List L2Way), l2 := [({ aWay with act := true } : L2Way)] }, { aWay with act := true }, { aWay with act := true }, [], by decide +kernel⟩, ⟨(up State.reset wL2).setTbl { State.reset.tbl with removals := (aWay : L2Way) :: ([] : List L2Way), l2 := [(aWay : L2Way)] }, aWay, [], by decide +kernel⟩, ⟨(up State.reset wL2).setTbl { State.reset.tbl with removals := ({ aWay with act := true } : L2Way) :: ([] : List L2Way), l2 := [({ aWay with act := true } : L2Way)] }, { aWay with act := true }, [], by decide +kernel⟩, ⟨((up State.reset wL2).wr wL2 L2_REHASH.START 0).wr wL2 L2_REHASH.STATE 0, .mp, by decide +kernel⟩, ⟨(((up State.reset wL2).wr wL2 L2_REHASH.STATE 1).wr wL2 L2_REHASH.PASS 1).setTbl { State.reset.tbl with l2 := List.replicate 4 { aWay with h := State.reset.l2Cur, static := true, bucket := State.reset.l2Bucket State.reset.l2Cur 5 0x1234 } ++ [{ aWay with h := 1 - State.reset.l2Cur }] }, by decide +kernel⟩, ⟨(((up State.reset wL2).wr wL2 L2_REHASH.STATE 1).wr wL2 L2_REHASH.PASS 3).setTbl { State.reset.tbl with l2 := List.replicate 4 { aWay with h := State.reset.l2Cur, static := true, bucket := State.reset.l2Bucket State.reset.l2Cur 5 0x1234 } ++ [{ aWay with h := 1 - State.reset.l2Cur, static := true }] }, by decide +kernel⟩, ⟨State.reset.wr wL2 L2_REHASH.STATE 0, by decide +kernel⟩, ⟨State.reset.wr wL2 L2_REHASH.STATE 0, by decide +kernel⟩, ⟨State.reset.setTbl { State.reset.tbl with removals := [] }, by decide +kernel⟩, ⟨State.reset.setTbl { State.reset.tbl with learnQ := [] }, by decide +kernel⟩, ⟨State.reset.wr wL2 L2_AGE_PERIOD.P 0, by decide +kernel⟩, ⟨((up State.reset wL2).wr wL2 L2_REHASH.STATE 1).setTbl { State.reset.tbl with l2 := [{ aWay with h := State.reset.l2Cur }] }, by decide +kernel⟩, ⟨((up State.reset wL2).wr wL2 L2_REHASH.STATE 2).setTbl { State.reset.tbl with l2 := [({ aWay with static := true, h := 1 } : L2Way)] }, { aWay with static := true, h := 1 }, by decide +kernel⟩⟩

/-- Every clause of TableCommandsComplete has a state and operands that meet its hypotheses. -/
theorem witness_TableCommandsComplete :
    (∃ (s : State) (init : Initiator), WriteOpen s init wL2 0x150 ∧ s.on wL2 L2_CMD.GO = false ∧ (s.l2Find s.gen s.cmdFid s.cmdMac).isNone = true) ∧
    (∃ (s : State) (init : Initiator) (w : L2Way), WriteOpen s init wL2 0x150 ∧ s.on wL2 L2_CMD.GO = false ∧ s.l2Find s.gen s.cmdFid s.cmdMac = some w) ∧
    (∃ (s : State) (init : Initiator), WriteOpen s init wL2 0x150 ∧ s.on wL2 L2_CMD.GO = false ∧ s.stageKinds init.code wL2 = [] ∧ s.touchRoom wL2 (l2Key s.cmdFid s.cmdMac) = true ∧ s.inOvf wL2 (l2Key s.cmdFid s.cmdMac) = false ∧ (s.tbl.l2.any fun w => w.isKey s.cmdFid s.cmdMac) = false ∧ s.l2Free (s.l2Bucket s.l2Cur s.cmdFid s.cmdMac) = true) ∧
    (∃ (s : State) (init : Initiator) (w : L2Way), WriteOpen s init wL2 0x150 ∧ s.on wL2 L2_CMD.GO = false ∧ s.stageKinds init.code wL2 = [] ∧ s.touchRoom wL2 (l2Key s.cmdFid s.cmdMac) = true ∧ s.inOvf wL2 (l2Key s.cmdFid s.cmdMac) = false ∧ s.tbl.l2 = [w] ∧ w.isKey s.cmdFid s.cmdMac = true ∧ w.static = true ∧ w.tag = 3) ∧
    (∃ (s : State) (init : Initiator), WriteOpen s init wL2 0x150 ∧ s.on wL2 L2_CMD.GO = false) ∧
    (∃ (s : State) (init : Initiator), WriteOpen s init wL2 0x150 ∧ s.on wL2 L2_CMD.GO = false) ∧
    (∃ (s : State) (init : Initiator), WriteOpen s init wL2 0x150 ∧ s.on wL2 L2_CMD.GO = false) ∧
    (∃ (s : State) (init : Initiator), WriteOpen s init wL2 0x150 ∧ s.on wL2 L2_CMD.GO = false) ∧
    (∃ (s : State) (r : Fin 16), s.tbl.l2Run = some r.val) ∧
    (∃ (s : State) (init : Initiator) (v6 : Bool), WriteOpen s init wSeam 0x140 ∧ s.on wSeam SEAM_CMD.GO = false ∧ s.stageKinds init.code wSeam = [] ∧ s.cmdPlen ≤ famBits v6 ∧ s.touchRoom wSeam (pfxKey (s.cmdPrefix v6)) = true ∧ s.inOvf wSeam (pfxKey (s.cmdPrefix v6)) = false ∧ s.tbl.prefixes = [] ∧ s.tbl.pfxOvf = [] ∧ nodesFit [s.cmdPrefix v6] = true) ∧
    (∃ (s : State) (init : Initiator) (v6 : Bool), WriteOpen s init wSeam 0x140 ∧ s.on wSeam SEAM_CMD.GO = false ∧ s.stageKinds init.code wSeam = [] ∧ s.cmdPlen ≤ famBits v6 ∧ s.touchRoom wSeam (pfxKey (s.cmdPrefix v6)) = true ∧ s.inOvf wSeam (pfxKey (s.cmdPrefix v6)) = false ∧ s.tbl.prefixes = [{ s.cmdPrefix v6 with tag := 3 }]) ∧
    (∃ (s : State) (init : Initiator) (v6 : Bool) (q : Prefix), WriteOpen s init wSeam 0x140 ∧ s.on wSeam SEAM_CMD.GO = false ∧ s.seamFind s.gen v6 (s.cmdAddr v6) = some q) ∧
    (∃ (s : State) (init : Initiator), WriteOpen s init wSeam 0x140 ∧ s.on wSeam SEAM_CMD.GO = false) ∧
    (∃ (s : State) (r : Fin 8), s.tbl.seamRun = some r.val) ∧
    (∃ (s : State) (init : Initiator), WriteOpen s init wL2 0x150 ∧ s.on wL2 L2_CMD.GO = false ∧ s.stageKinds init.code wL2 = []) ∧
    (∃ (s : State) (init : Initiator), WriteOpen s init wL2 0x150 ∧ s.on wL2 L2_CMD.GO = false ∧ s.stageKinds init.code wL2 = [] ∧ (s.tbl.l2.any fun w => w.static && w.isKey s.cmdFid s.cmdMac) = false ∧ s.tbl.l2Ovf = []) ∧
    (∃ (s : State) (init : Initiator) (v6 : Bool), WriteOpen s init wSeam 0x140 ∧ s.on wSeam SEAM_CMD.GO = false ∧ s.seamFind s.gen v6 (s.cmdAddr v6) = none) ∧
    (∃ (s : State) (init : Initiator) (v6 : Bool), WriteOpen s init wSeam 0x140 ∧ s.on wSeam SEAM_CMD.GO = false ∧ s.stageKinds init.code wSeam = [] ∧ famBits v6 < s.cmdPlen) ∧
    (∃ (s : State), s.tbl.l2Run = none) ∧
    (∃ (s : State), s.tbl.seamRun = none) := 
  ⟨⟨((up State.reset wL2).wr wL2 L2_CMD.GO 0).setTbl { State.reset.tbl with l2 := [] }, .mp, by decide +kernel⟩, ⟨((up State.reset wL2).wr wL2 L2_CMD.GO 0).setTbl { State.reset.tbl with l2 := [({ aWay with fid := State.reset.cmdFid, mac := State.reset.cmdMac, tag := 3, bucket := State.reset.l2Bucket State.reset.l2Cur State.reset.cmdFid State.reset.cmdMac } : L2Way)] }, .mp, { aWay with fid := State.reset.cmdFid, mac := State.reset.cmdMac, tag := 3, bucket := State.reset.l2Bucket State.reset.l2Cur State.reset.cmdFid State.reset.cmdMac }, by decide +kernel⟩, ⟨(tabUp State.reset (.mp : Initiator)).setTbl { State.reset.tbl with l2 := [] }, .mp, by decide +kernel⟩, ⟨(tabUp State.reset (.mp : Initiator)).setTbl { State.reset.tbl with l2 := [({ aWay with static := true, fid := State.reset.cmdFid, mac := State.reset.cmdMac } : L2Way)] }, .mp, { aWay with static := true, fid := State.reset.cmdFid, mac := State.reset.cmdMac }, by decide +kernel⟩, ⟨(up State.reset wL2).wr wL2 L2_CMD.GO 0, .mp, by decide +kernel⟩, ⟨(up State.reset wL2).wr wL2 L2_CMD.GO 0, .mp, by decide +kernel⟩, ⟨(up State.reset wL2).wr wL2 L2_CMD.GO 0, .mp, by decide +kernel⟩, ⟨(up State.reset wL2).wr wL2 L2_CMD.GO 0, .mp, by decide +kernel⟩, ⟨State.reset.setTbl { State.reset.tbl with l2Run := some (3 : Fin 16).val }, 3, by decide +kernel⟩, ⟨(tabUp State.reset (.mp : Initiator)).setTbl { State.reset.tbl with prefixes := [], pfxOvf := [] }, .mp, true, by decide +kernel⟩, ⟨(tabUp State.reset (.mp : Initiator)).setTbl { State.reset.tbl with prefixes := [{ (tabUp State.reset (.mp : Initiator)).cmdPrefix (true : Bool) with tag := 3 }], pfxOvf := [] }, .mp, true, by decide +kernel⟩, ⟨(tabUp State.reset (.mp : Initiator)).setTbl { State.reset.tbl with prefixes := [⟨(true : Bool), 0, 0, 3, 77⟩] }, .mp, true, ⟨true, 0, 0, 3, 77⟩, by decide +kernel⟩, ⟨(up State.reset wSeam).wr wSeam SEAM_CMD.GO 0, .mp, by decide +kernel⟩, ⟨State.reset.setTbl { State.reset.tbl with seamRun := some (3 : Fin 8).val }, 3, by decide +kernel⟩, ⟨(tabUp State.reset (.mp : Initiator)), .mp, by decide +kernel⟩, ⟨(tabUp State.reset (.mp : Initiator)).setTbl { State.reset.tbl with l2 := [], l2Ovf := [] }, .mp, by decide +kernel⟩, ⟨(tabUp State.reset (.mp : Initiator)).setTbl { State.reset.tbl with prefixes := [] }, .mp, true, by decide +kernel⟩, ⟨(tabUp State.reset (.mp : Initiator)).wr wSeam SEAM_PLEN.PLEN 33, .mp, false, by decide +kernel⟩, ⟨State.reset.setTbl { State.reset.tbl with l2Run := none }, by decide +kernel⟩, ⟨State.reset.setTbl { State.reset.tbl with seamRun := none }, by decide +kernel⟩⟩

/-- Every clause of CanStatesComplete has a state and operands that meet its hypotheses. -/
theorem witness_CanStatesComplete :
    (∃ (s : State) (init : Initiator) (p : Fin 16) (low : Fin 128), WriteOpen s init (wCan p) 0x170 ∧ s.isSafe (wCan p) = false ∧ s.canState p = canOff ∧ s.canTimingOk p (canCfgFit p (128 + low.val)) = true) ∧
    (∃ (s : State) (init : Initiator) (p : Fin 16) (low : Fin 128), WriteOpen s init (wCan p) 0x170 ∧ s.canState p ≠ canOff ∧ bit low.val 2 = s.on (wCan p) CAN_CFG.LISTEN_ONLY) ∧
    (∃ (s : State) (p : Fin 16), s.canState p = canIntegrate ∧ s.on (wCan p) CAN_CFG.LISTEN_ONLY = true) ∧
    (∃ (s : State) (p : Fin 16), s.canState p = canIntegrate ∧ s.on (wCan p) CAN_CFG.LISTEN_ONLY = false ∧ s.tec p ≤ 127 ∧ s.rec' p ≤ 127 ∧ s.wake.alive.contains p.val = false) ∧
    (∃ (s : State) (p : Fin 16) (b : PxBit), s.hears p = true ∧ s.canState p ≠ canListen ∧ s.canSending p = none ∧ b = .res ∨ (b = .fdf ∧ s.on (wCan p) CAN_CFG.FD_EN = false) ∨ (b = .xlf ∧ s.on (wCan p) CAN_CFG.XL_EN = false) ∧ s.on (wCan p) CAN_CFG.PXHD = false) ∧
    (∃ (s : State) (p : Fin 16), s.canState p = canActive ∧ s.tec p ≤ 127 ∧ 120 ≤ s.rec' p ∧ s.rec' p ≤ 127) ∧
    (∃ (s : State) (p : Fin 16) (cid : Nat), s.canState p = canPassive ∧ s.canSending p = some (.copy cid) ∧ s.on (wCan p) CAN_CFG.DAR = false ∧ 248 ≤ s.tec p ∧ s.on (wCan p) CAN_BO_CFG.BO_AUTO = false) ∧
    (∃ (s : State) (p : Fin 16), s.canState p = canBusOff ∧ s.on (wCan p) CAN_BO_CFG.BO_AUTO = true) ∧
    (∃ (s : State) (init : Initiator) (p : Fin 16), CmdOpen s init (wCan p) CAN_CTRL.RECOVER ∧ s.canState p = canBusOff) ∧
    (∃ (s : State) (p : Fin 16), s.canState p = canRecover ∧ s.wake.alive.contains p.val = false) ∧
    (∃ (s : State) (init : Initiator) (p : Fin 16), WriteOpen s init (wCan p) 0x170 ∧ s.canState p = canOff) ∧
    (∃ (s : State) (p : Fin 16) (i : CanInc), s.canState p = canActive ∧ s.tec p ≤ 127 ∧ s.rec' p + incVal i ≤ 127) ∧
    (∃ (s : State) (p : Fin 16) (cid : Nat) (i : CanInc), s.canState p = canActive ∧ s.canSending p = some (.copy cid) ∧ s.on (wCan p) CAN_CFG.DAR = false ∧ s.tec p + incVal i ≤ 127 ∧ s.rec' p ≤ 127) ∧
    (∃ (s : State) (p : Fin 16), s.canSending p = none) ∧
    (∃ (s : State) (p : Fin 16), s.canState p = canActive ∧ s.tec p ≤ 127 ∧ s.rec' p ≤ 126 ∧ s.on (wCan p) CAN_CFG.PXHD = true ∧ s.hears p = true) ∧
    (∃ (s : State) (p : Fin 16), s.canState p ≠ canIntegrate) ∧
    (∃ (s : State) (p : Fin 16), s.canState p ≠ canBusOff ∨ s.on (wCan p) CAN_BO_CFG.BO_AUTO = false) ∧
    (∃ (s : State) (p : Fin 16), s.canState p ≠ canRecover) := 
  ⟨⟨canUp State.reset (9 : Fin 16) 0, .mp, 9, 0, by decide +kernel⟩, ⟨canUp State.reset (9 : Fin 16) 2, .mp, 9, 0, by decide +kernel⟩, ⟨(canUp State.reset (3 : Fin 16) 1).wr (wCan (3 : Fin 16)) CAN_CFG.LISTEN_ONLY 1, 3, by decide +kernel⟩, ⟨((canUp State.reset (3 : Fin 16) 1).wr (wCan (3 : Fin 16)) CAN_CFG.LISTEN_ONLY 0).setWake { State.reset.wake with alive := [] }, 3, by decide +kernel⟩, ⟨canUp State.reset (3 : Fin 16) 2, 3, .res, by decide +kernel⟩, ⟨(canUp State.reset (3 : Fin 16) 2).wr (wCan (3 : Fin 16)) CAN_ERRCNT.REC 125, 3, by decide +kernel⟩, ⟨((canUp State.reset (3 : Fin 16) 3).wr (wCan (3 : Fin 16)) CAN_ERRCNT.TEC 250).setCan { State.reset.can with sending := [((3 : Fin 16).val, .copy (7 : Nat))] }, 3, 7, by decide +kernel⟩, ⟨(canUp State.reset (3 : Fin 16) 4).wr (wCan (3 : Fin 16)) CAN_BO_CFG.BO_AUTO 1, 3, by decide +kernel⟩, ⟨canUp State.reset (3 : Fin 16) 4, .mp, 3, by decide +kernel⟩, ⟨(canUp State.reset (3 : Fin 16) 5).setWake { State.reset.wake with alive := [] }, 3, by decide +kernel⟩, ⟨canUp State.reset (9 : Fin 16) 0, .mp, 9, by decide +kernel⟩, ⟨canUp State.reset (3 : Fin 16) 2, 3, .one, by decide +kernel⟩, ⟨(canUp State.reset (3 : Fin 16) 2).setCan { State.reset.can with sending := [((3 : Fin 16).val, .copy (7 : Nat))] }, 3, 7, .eight, by decide +kernel⟩, ⟨State.reset.setCan { State.reset.can with sending := [] }, 3, by decide +kernel⟩, ⟨(canUp State.reset (3 : Fin 16) 2).wr (wCan (3 : Fin 16)) CAN_CFG.PXHD 1, 3, by decide +kernel⟩, ⟨State.reset.wr (wCan (3 : Fin 16)) CAN_STATE.STATE 2, 3, by decide +kernel⟩, ⟨State.reset.wr (wCan (3 : Fin 16)) CAN_STATE.STATE 2, 3, by decide +kernel⟩, ⟨State.reset.wr (wCan (3 : Fin 16)) CAN_STATE.STATE 2, 3, by decide +kernel⟩⟩

/-- Every clause of CanTrafficComplete has a state and operands that meet its hypotheses. -/
theorem witness_CanTrafficComplete :
    (∃ (s : State) (p : Fin 16) (f : CanRx), s.canReceives p f = true ∧ s.netState (netOfCan p) = nsAwake ∧ s.admits (0x10 + p.val) (canCells (rxHdr f) (rxBytes f).length) = true ∧ (s.fab.frames.all fun x => x.fid < s.fab.nextFid) = true ∧ (s.fab.pipe.all fun x => x.fid < s.fab.nextFid) = true ∧ (allObjects.any (s.objAccepts p (rxHdr f))) = false ∧ s.fifoAccepts p 0 (rxHdr f) = false ∧ s.fifoAccepts p 1 (rxHdr f) = false ∧ s.flowHeld (0x10 + p.val) = false) ∧
    (∃ (s : State) (p : Fin 16) (c : Copy) (h : CanHdr), s.canTalks p = true ∧ s.canSending p = none ∧ s.txq p = [c] ∧ c.outCtx = 0 ∧ c.can = some h ∧ h.fmt < 2 ∧ s.pendingObjects p = [] ∧ s.rd (wCan p) CAN_TXLIFE.TX_LIFE = 0 ∧ (s.frame c.fid).map (·.ecc) = some false ∧ s.canDrives p = true) ∧
    (∃ (s : State) (p : Fin 16) (c : Copy) (h : CanHdr), s.canTalks p = true ∧ s.canSending p = none ∧ s.txq p = [c] ∧ c.outCtx = 0 ∧ c.can = some h ∧ c.dest = 0x10 + p.val ∧ s.pendingObjects p = [] ∧ s.rd (wCan p) CAN_TXLIFE.TX_LIFE = 0 ∧ (s.frame c.fid).map (·.ecc) = some false ∧ s.canDrives p = true ∧ s.on (wCan p) CAN_CFG.DAR = true) ∧
    (∃ (s : State) (p : Fin 16) (c : Copy) (h : CanHdr), s.canSending p = some (.copy c.cid) ∧ s.txq p = [c] ∧ c.can = some h ∧ c.dest = 0x10 + p.val ∧ c.pduBuild = false ∧ s.canDrives p = true) ∧
    (∃ (s : State), s.ixOn = true) ∧
    (∃ (s : State), s.ixOn = true) ∧
    (∃ (s : State), s.ixOn = true) ∧
    (∃ (s : State), s.ixOn = true) ∧
    (∃ (s : State) (p : Fin 16) (f : CanRx), s.canReceives p f = false) ∧
    (∃ (s : State) (p : Fin 16) (c : Copy) (h : CanHdr), s.canTalks p = true ∧ s.canSending p = none ∧ s.txq p = [c] ∧ c.outCtx = 0 ∧ c.can = some h ∧ s.pendingObjects p = [] ∧ s.rd (wCan p) CAN_TXLIFE.TX_LIFE = 0 ∧ (s.frame c.fid).map (·.ecc) = some false ∧ s.canDrives p = false ∧ s.on (wCan p) CAN_CFG.DAR = false ∧ s.tec p ≤ 247) ∧
    (∃ (s : State) (p : Fin 16), s.canTalks p = false ∨ (s.canSending p).isSome = true) ∧
    (∃ (s : State) (p : Fin 16) (k : Fin 128), s.canSending p = some (.obj k.val) ∧ s.canDrives p = true) ∧
    (∃ (s : State) (p : Fin 16), s.canSending p = none) ∧
    (∃ (s : State), s.ixOn = false) := 
  ⟨⟨((canUp State.reset (3 : Fin 16) 2).wr (wCanT (3 : Fin 16)) CANT_MODE.MODE 0).wr wWake (WK_NET_STATE.STATE.elem (netOfCan (3 : Fin 16))) nsAwake, 3, canRx [1, 2, 3], by decide +kernel⟩, ⟨((canUp State.reset (3 : Fin 16) 2).setFab { State.reset.fab with frames := [{ aFrame with fid := ({ aCopy with can := some aCan } : Copy).fid }] }).setCan { State.reset.can with fault := [], txq := [((3 : Fin 16).val, [({ aCopy with can := some aCan } : Copy)])], sending := [] }, 3, { aCopy with can := some aCan }, aCan, by decide +kernel⟩, ⟨(((canUp State.reset (3 : Fin 16) 2).wr (wCan (3 : Fin 16)) CAN_CFG.DAR 1).setFab { State.reset.fab with frames := [{ aFrame with fid := ({ aCopy with can := some aCan, dest := 0x13 } : Copy).fid }] }).setCan { State.reset.can with fault := [], txq := [((3 : Fin 16).val, [({ aCopy with can := some aCan, dest := 0x13 } : Copy)])], sending := [] }, 3, { aCopy with can := some aCan, dest := 0x13 }, aCan, by decide +kernel⟩, ⟨(canUp State.reset (3 : Fin 16) 2).setCan { State.reset.can with fault := [], txq := [((3 : Fin 16).val, [({ aCopy with can := some aCan, dest := 0x13 } : Copy)])], sending := [((3 : Fin 16).val, .copy ({ aCopy with can := some aCan, dest := 0x13 } : Copy).cid)] }, 3, { aCopy with can := some aCan, dest := 0x13 }, aCan, by decide +kernel⟩, ⟨(canUp State.reset (3 : Fin 16) 2).setPwr { State.reset.pwr with state := .run }, by decide +kernel⟩, ⟨(canUp State.reset (3 : Fin 16) 2).setPwr { State.reset.pwr with state := .run }, by decide +kernel⟩, ⟨(canUp State.reset (3 : Fin 16) 2).setPwr { State.reset.pwr with state := .run }, by decide +kernel⟩, ⟨(canUp State.reset (3 : Fin 16) 2).setPwr { State.reset.pwr with state := .run }, by decide +kernel⟩, ⟨State.reset.wr (wCan (3 : Fin 16)) CAN_STATE.STATE canOff, 3, canRx [1, 2, 3], by decide +kernel⟩, ⟨(((canUp State.reset (3 : Fin 16) 2).wr (wCan (3 : Fin 16)) CAN_CFG.DAR 0).setFab { State.reset.fab with frames := [{ aFrame with fid := ({ aCopy with can := some aCan } : Copy).fid }] }).setCan { State.reset.can with fault := [((3 : Fin 16).val, 2)], txq := [((3 : Fin 16).val, [({ aCopy with can := some aCan } : Copy)])], sending := [] }, 3, { aCopy with can := some aCan }, aCan, by decide +kernel⟩, ⟨State.reset.wr (wCan (3 : Fin 16)) CAN_STATE.STATE canOff, 3, by decide +kernel⟩, ⟨(canUp State.reset (3 : Fin 16) 2).setCan { State.reset.can with fault := [], sending := [((3 : Fin 16).val, .obj (9 : Fin 128).val)] }, 3, 9, by decide +kernel⟩, ⟨State.reset.setCan { State.reset.can with sending := [] }, 3, by decide +kernel⟩, ⟨State.reset.setPwr { State.reset.pwr with state := .off }, by decide +kernel⟩⟩

/-- Every clause of CanObjectsComplete has a state and operands that meet its hypotheses. -/
theorem witness_CanObjectsComplete :
    (∃ (s : State) (init : Initiator) (p : Fin 16), CmdOpen s init (wCan p) CAN_OBJ_CMD.TAKE ∧ s.objSel p < 128) ∧
    (∃ (s : State) (init : Initiator) (p : Fin 16), CmdOpen s init (wCan p) CAN_OBJ_CMD.STORE ∧ s.objSel p < 128 ∧ s.storeRefused p = false ∧ s.rd (wCan p) CAN_OBJ_VIEW.TYPE ≠ 3) ∧
    (∃ (s : State) (init : Initiator) (p : Fin 16), CmdOpen s init (wCan p) CAN_OBJ_CMD.SEND ∧ s.objSel p < 128 ∧ s.isSafe (wCan p) = false ∧ s.obj p (s.objSel p) CAN_OBJ_VIEW.TXRQ = 0 ∧ s.obj p (s.objSel p) CAN_OBJ_VIEW.TYPE = 2 ∧ s.objUnfit p (s.objSel p) = false) ∧
    (∃ (s : State) (init : Initiator) (p : Fin 16), CmdOpen s init (wCan p) CAN_OBJ_CMD.ABORT ∧ s.objSel p < 128 ∧ s.obj p (s.objSel p) CAN_OBJ_VIEW.TXRQ = 1 ∧ s.canSending p = none) ∧
    (∃ (s : State) (init : Initiator) (p : Fin 16) (n : Fin 2) (k : Fin 128) (r : List Nat), ReadOpen s init (wCan p) ∧ s.specRead init.code (wCan p) false = false ∧ s.fifo p n = k.val :: r) ∧
    (∃ (s : State) (init : Initiator) (p : Fin 16) (n : Fin 2) (v : BitVec 96), WriteOpen s init (wCan p) (0x1AB + 16 * n.val) ∧ s.isSafe (wCan p) = false ∧ s.fifoRefused p n (fifoOf v.toNat) = false) ∧
    (∃ (s : State) (init : Initiator) (p : Fin 16), CmdOpen s init (wCan p) CAN_OBJ_CMD.SEND ∧ s.objSel p < 128 ∧ s.isSafe (wCan p) = false ∧ s.obj p (s.objSel p) CAN_OBJ_VIEW.TXRQ = 0 ∧ s.obj p (s.objSel p) CAN_OBJ_VIEW.TYPE = 2 ∧ s.objUnfit p (s.objSel p) = true) ∧
    (∃ (s : State) (init : Initiator) (p : Fin 16), CmdOpen s init (wCan p) CAN_OBJ_CMD.ABORT ∧ s.objSel p < 128 ∧ s.obj p (s.objSel p) CAN_OBJ_VIEW.TXRQ = 1 ∧ s.canSending p = some (.obj (s.objSel p))) ∧
    (∃ (s : State) (init : Initiator) (p : Fin 16) (n : Fin 2), ReadOpen s init (wCan p) ∧ s.fifo p n = []) ∧
    (∃ (s : State) (init : Initiator) (p : Fin 16) (n : Fin 2), ReadOpen s init (wCan p) ∧ s.fifo p n ≠ [] ∧ s.specRead init.code (wCan p) true = true) := 
  ⟨⟨(canUp State.reset (3 : Fin 16) 2).wr (wCan (3 : Fin 16)) CAN_OBJ_CMD.TAKE 0, .mp, 3, by decide +kernel⟩, ⟨(canUp State.reset (3 : Fin 16) 2).wr (wCan (3 : Fin 16)) CAN_OBJ_CMD.STORE 0, .mp, 3, by decide +kernel⟩, ⟨(((canUp State.reset (3 : Fin 16) 2).setObj (3 : Fin 16) (State.reset.objSel (3 : Fin 16)) CAN_OBJ_VIEW.TYPE 2).setObj (3 : Fin 16) (State.reset.objSel (3 : Fin 16)) CAN_OBJ_VIEW.FMT 0).setObj (3 : Fin 16) (State.reset.objSel (3 : Fin 16)) CAN_OBJ_VIEW.TXRQ 0, .mp, 3, by decide +kernel⟩, ⟨((canUp State.reset (3 : Fin 16) 2).setObj (3 : Fin 16) (State.reset.objSel (3 : Fin 16)) CAN_OBJ_VIEW.TXRQ 1).setCan { State.reset.can with sending := [] }, .mp, 3, by decide +kernel⟩, ⟨(canUp State.reset (3 : Fin 16) 2).setFifoList (3 : Fin 16) (1 : Fin 2) ((7 : Fin 128).val :: ([9] : List Nat)), .mp, 3, 1, 7, [9], by decide +kernel⟩, ⟨canUp State.reset (3 : Fin 16) 2, .mp, 3, 1, 0x000C0000000000000000000, by decide +kernel⟩, ⟨(((canUp State.reset (3 : Fin 16) 2).setObj (3 : Fin 16) (State.reset.objSel (3 : Fin 16)) CAN_OBJ_VIEW.TYPE 2).setObj (3 : Fin 16) (State.reset.objSel (3 : Fin 16)) CAN_OBJ_VIEW.LEN 65).setObj (3 : Fin 16) (State.reset.objSel (3 : Fin 16)) CAN_OBJ_VIEW.TXRQ 0, .mp, 3, by decide +kernel⟩, ⟨((canUp State.reset (3 : Fin 16) 2).setObj (3 : Fin 16) (State.reset.objSel (3 : Fin 16)) CAN_OBJ_VIEW.TXRQ 1).setCan { ((canUp State.reset (3 : Fin 16) 2).setObj (3 : Fin 16) (State.reset.objSel (3 : Fin 16)) CAN_OBJ_VIEW.TXRQ 1).can with sending := [((3 : Fin 16).val, .obj (State.reset.objSel (3 : Fin 16)))] }, .mp, 3, by decide +kernel⟩, ⟨(canUp State.reset (3 : Fin 16) 2).setFifoList (3 : Fin 16) (1 : Fin 2) [], .mp, 3, 1, by decide +kernel⟩, ⟨(canUp State.reset (3 : Fin 16) 2).setFifoList (3 : Fin 16) (1 : Fin 2) [4, 5], .mp, 3, 1, by decide +kernel⟩⟩

/-- Every clause of LinScheduleComplete has a state and operands that meet its hypotheses. -/
theorem witness_LinScheduleComplete :
    (∃ (s : State) (init : Initiator) (p : Fin 12), WriteOpen s init (wLin p) 0x170 ∧ s.linState p = linOff) ∧
    (∃ (s : State) (init : Initiator) (p : Fin 12), WriteOpen s init (wLin p) 0x170 ∧ s.linState p = linRun ∧ s.lin.owner = []) ∧
    (∃ (s : State) (init : Initiator) (p : Fin 12) (k : Fin 8), CmdOpen s init (wLin p) LIN_SCHED_CMD.GO ∧ s.isSafe (wLin p) = false ∧ s.linState p = linIdle ∧ s.tabLen p k ≠ 0) ∧
    (∃ (s : State) (init : Initiator) (p : Fin 12), CmdOpen s init (wLin p) LIN_SCHED_CMD.GO ∧ s.isSafe (wLin p) = false ∧ s.linState p = linRun) ∧
    (∃ (s : State) (p : Fin 12) (x : LinSlot), s.linState p = linRun ∧ s.linSlot p = none ∧ s.slotOf p (s.linPos p) = x ∧ x.expects = true ∧ x.sends = false) ∧
    (∃ (s : State) (p : Fin 12) (x : LinSlot), s.linState p = linRun ∧ s.linSlot p = none ∧ s.slotOf p (s.linPos p) = x ∧ x.sends = true) ∧
    (∃ (s : State) (p : Fin 12) (x : LinSlot), s.linSlot p = some x ∧ x.expects = true ∧ x.outcome = 0 ∧ x.id < 64 ∧ s.rd (wLinT p) LINT_CTRL.MODE ≤ 1 ∧ s.on (wLin p) (LIN_FRAME.ROUTE.elem x.id) = false ∧ s.linLen p x.id = 8) ∧
    (∃ (s : State) (p : Fin 12) (x : LinSlot), s.linSlot p = some x ∧ x.sends = true ∧ x.outcome = 0 ∧ x.id < 64) ∧
    (∃ (s : State) (p : Fin 12) (x : LinSlot), s.linSlot p = some x ∧ x.sends = true ∧ x.expects = false ∧ x.outcome = 0 ∧ x.same = true ∧ x.id < 64 ∧ s.lin.owner = [] ∧ s.lin.pendTab = [] ∧ s.lin.collTab = [] ∧ look s.lin.sleepDue p false = false) ∧
    (∃ (s : State) (p : Fin 12) (x : LinSlot), s.linSlot p = some x ∧ x.sends = false ∧ x.expects = true ∧ x.outcome = 0 ∧ x.event = false ∧ x.id < 64 ∧ look s.lin.sleepDue p false = false) ∧
    (∃ (s : State) (init : Initiator) (p : Fin 12) (e : Fin 64), WriteOpen s init (wLin p) (0x40F + 16 * e.val) ∧ s.lin.owner = [] ∧ s.linSlot p = none) ∧
    (∃ (s : State) (init : Initiator) (p : Fin 12) (e : Fin 128) (v : BitVec 32), WriteOpen s init (wLin p) (0x203 + 4 * e.val) ∧ s.sentryRefused p e v.toNat = false) ∧
    (∃ (s : State) (init : Initiator) (p : Fin 12), WriteOpen s init (wLin p) 0x170 ∧ s.linState p ≠ linOff) ∧
    (∃ (s : State) (init : Initiator) (p : Fin 12), WriteOpen s init (wLin p) 0x170 ∧ s.linState p = linOff) ∧
    (∃ (s : State) (p : Fin 12), s.linState p ≠ linRun ∨ (s.linSlot p).isSome = true) ∧
    (∃ (s : State) (p : Fin 12) (x : LinSlot), s.linState p = linRun ∧ s.linSlot p = none ∧ s.slotOf p (s.linPos p) = x ∧ x.expects = false ∧ x.sends = false) ∧
    (∃ (s : State) (p : Fin 12) (x : LinSlot), s.linSlot p = some x ∧ x.expects = true ∧ x.outcome = 0 ∧ x.id < 64 ∧ s.rd (wLinT p) LINT_CTRL.MODE ≤ 1 ∧ s.on (wLin p) (LIN_FRAME.ROUTE.elem x.id) = true ∧ s.flowHeld (0x20 + p.val) = false ∧ s.admits (0x20 + p.val) 1 = true ∧ (s.fab.frames.all fun x => x.fid < s.fab.nextFid) = true) ∧
    (∃ (s : State) (p : Fin 12), s.linSlot p = none) ∧
    (∃ (s : State) (p : Fin 12), s.linSlot p = none) ∧
    (∃ (s : State) (p : Fin 12), s.linSlot p = none) ∧
    (∃ (s : State) (p : Fin 12) (x : LinSlot), s.linSlot p = some x ∧ x.sends = false ∧ x.expects = true ∧ x.outcome = 0 ∧ x.event = false ∧ x.id < 64 ∧ look s.lin.sleepDue p false = false) := 
  ⟨⟨linUp State.reset (3 : Fin 12) 0, .mp, 3, by decide +kernel⟩, ⟨linUp State.reset (3 : Fin 12) 2, .mp, 3, by decide +kernel⟩, ⟨(linUp State.reset (3 : Fin 12) 1).wr (wLin (3 : Fin 12)) (LIN_TAB.LEN.elem (5 : Fin 8)) 3, .mp, 3, 5, by decide +kernel⟩, ⟨linUp State.reset (3 : Fin 12) 2, .mp, 3, by decide +kernel⟩, ⟨((((linUp State.reset (3 : Fin 12) 2).wr (wLin (3 : Fin 12)) LIN_SCHED_POS.POS 4).wr (wLin (3 : Fin 12)) (LIN_SENTRY.ID.elem 4) 9).wr (wLin (3 : Fin 12)) (LIN_FRAME.DIR.elem 9) 2).wr (wLin (3 : Fin 12)) (LIN_FRAME.LEN.elem 9) 4, 3, ⟨9, false, false, true, true, 0⟩, by decide +kernel⟩, ⟨((((linUp State.reset (3 : Fin 12) 2).wr (wLin (3 : Fin 12)) LIN_SCHED_POS.POS 4).wr (wLin (3 : Fin 12)) (LIN_SENTRY.ID.elem 4) 9).wr (wLin (3 : Fin 12)) (LIN_FRAME.DIR.elem 9) 1).wr (wLin (3 : Fin 12)) (LIN_FRAME.LEN.elem 9) 4, 3, ⟨9, false, true, false, true, 0⟩, by decide +kernel⟩, ⟨(((linUp State.reset (3 : Fin 12) 2).wr (wLin (3 : Fin 12)) (LIN_FRAME.LEN.elem 9) 8).wr (wLin (3 : Fin 12)) (LIN_FRAME.ROUTE.elem 9) 0).setLinSlot (3 : Fin 12) (⟨9, false, false, true, true, 0⟩ : LinSlot), 3, ⟨9, false, false, true, true, 0⟩, by decide +kernel⟩, ⟨(linUp State.reset (3 : Fin 12) 2).setLinSlot (3 : Fin 12) (⟨9, false, true, false, true, 0⟩ : LinSlot), 3, ⟨9, false, true, false, true, 0⟩, by decide +kernel⟩, ⟨(linUp State.reset (3 : Fin 12) 2).setLinSlot (3 : Fin 12) (⟨9, false, true, false, true, 0⟩ : LinSlot), 3, ⟨9, false, true, false, true, 0⟩, by decide +kernel⟩, ⟨(linUp State.reset (3 : Fin 12) 2).setLinSlot (3 : Fin 12) (⟨9, false, false, true, true, 0⟩ : LinSlot), 3, ⟨9, false, false, true, true, 0⟩, by decide +kernel⟩, ⟨linUp State.reset (3 : Fin 12) 2, .mp, 3, 17, by decide +kernel⟩, ⟨linUp State.reset (3 : Fin 12) 1, .mp, 3, 17, 0xA0240000, by decide +kernel⟩, ⟨linUp State.reset (3 : Fin 12) 2, .mp, 3, by decide +kernel⟩, ⟨linUp State.reset (3 : Fin 12) 0, .mp, 3, by decide +kernel⟩, ⟨linUp State.reset (3 : Fin 12) 1, 3, by decide +kernel⟩, ⟨(linUp State.reset (3 : Fin 12) 2).wr (wLin (3 : Fin 12)) (LIN_SENTRY.TYPE.elem (State.reset.linPos (3 : Fin 12))) 5, 3, ⟨0, false, false, false, true, 0⟩, by decide +kernel⟩, ⟨(((linUp State.reset (3 : Fin 12) 2).wr (wLin (3 : Fin 12)) (LIN_FRAME.LEN.elem 9) 8).wr (wLin (3 : Fin 12)) (LIN_FRAME.ROUTE.elem 9) 1).setLinSlot (3 : Fin 12) (⟨9, false, false, true, true, 0⟩ : LinSlot), 3, ⟨9, false, false, true, true, 0⟩, by decide +kernel⟩, ⟨linUp State.reset (3 : Fin 12) 2, 3, by decide +kernel⟩, ⟨linUp State.reset (3 : Fin 12) 2, 3, by decide +kernel⟩, ⟨linUp State.reset (3 : Fin 12) 2, 3, by decide +kernel⟩, ⟨(linUp State.reset (3 : Fin 12) 2).setLinSlot (3 : Fin 12) (⟨9, false, false, true, true, 0⟩ : LinSlot), 3, ⟨9, false, false, true, true, 0⟩, by decide +kernel⟩⟩

/-- Every clause of LinTransceiversComplete has a state and operands that meet its hypotheses. -/
theorem witness_LinTransceiversComplete :
    (∃ (s : State), s.pwr.state ≠ .backup ∧ s.pwr.state ≠ .off) ∧
    (∃ (s : State), s.pwr.state ≠ .backup ∧ s.pwr.state ≠ .off) ∧
    (∃ (s : State), s.pwr.state ≠ .backup ∧ s.pwr.state ≠ .off) ∧
    (∃ (s : State), s.pwr.state = .backup ∨ s.pwr.state = .off) ∧
    (∃ (s : State), s.pwr.state = .backup ∨ s.pwr.state = .off) ∧
    (∃ (s : State), s.pwr.state = .backup ∨ s.pwr.state = .off) := 
  ⟨⟨(linUp State.reset (3 : Fin 12) 2).setPwr { State.reset.pwr with state := .run }, by decide +kernel⟩, ⟨(linUp State.reset (3 : Fin 12) 2).setPwr { State.reset.pwr with state := .run }, by decide +kernel⟩, ⟨(linUp State.reset (3 : Fin 12) 2).setPwr { State.reset.pwr with state := .run }, by decide +kernel⟩, ⟨State.reset.setPwr { State.reset.pwr with state := .off }, by decide +kernel⟩, ⟨State.reset.setPwr { State.reset.pwr with state := .off }, by decide +kernel⟩, ⟨State.reset.setPwr { State.reset.pwr with state := .off }, by decide +kernel⟩⟩

/-- Every clause of SignalsComplete has a state and operands that meet its hypotheses. -/
theorem witness_SignalsComplete :
    (∃ (s : State) (e : Fin 4) (x : Extract) (i : Fin 65536), s.gxOn = true ∧ s.seWorks e = true ∧ s.exq e = [.pdu x] ∧ s.bq e = [] ∧ x.first = i.val ∧ x.count = 1 ∧ x.only = false ∧ s.bench.phase = .idle ∧ s.sig x.gen SIG_ENTRY.VALID i = 1 ∧ s.sig x.gen SIG_ENTRY.SRC i = 0 ∧ s.sigSigned x.gen i = false ∧ s.sig x.gen SIG_ENTRY.IN_UB_EN i = 0 ∧ sigInside (s.sig x.gen SIG_ENTRY.IN_ORD i == 1) (s.sig x.gen SIG_ENTRY.IN_START i) (s.sigLen x.gen i) x.data.length = true) ∧
    (∃ (s : State) (i : Fin 65536), s.gxOn = true ∧ s.sig (s.genOf wSignal) SIG_ENTRY.VALID i = 1 ∧ s.sig (s.genOf wSignal) SIG_ENTRY.TIMEOUT i ≠ 0 ∧ s.sig (s.genOf wSignal) SIG_ENTRY.TO_ACT i = 0 ∧ s.sigState i = siValid) ∧
    (∃ (s : State) (i : Fin 65536), s.gxOn = true ∧ s.sig (s.genOf wSignal) SIG_ENTRY.VALID i = 0) ∧
    (∃ (s : State) (init : Initiator), WriteOpen s init wSignal 0x167 ∧ s.rd wSignal SIG_SEL.INDEX < 65536 ∧ s.sig (s.genOf wSignal) SIG_ENTRY.SRC (s.rd wSignal SIG_SEL.INDEX) = 6 ∧ s.sig (s.genOf wSignal) SIG_ENTRY.VALID (s.rd wSignal SIG_SEL.INDEX) = 1) ∧
    (∃ (s : State) (i : Fin 65536) (n : Fin 72), s.gxOn = true ∧ s.sig (s.genOf wSignal) SIG_ENTRY.VALID i = 1 ∧ s.sig (s.genOf wSignal) SIG_ENTRY.SRC i = 1 ∧ s.sig (s.genOf wSignal) SIG_ENTRY.SRC_UNIT i = n.val ∧ s.unitState (wCh n) ≠ usOff ∧ s.inRom (wSE (i.val % 4)) = false ∧ (s.exq (i.val % 4)).length < 512 ∧ s.reportDue i.val (s.rd (wCh n) CH_CURRENT.CURRENT) = true) ∧
    (∃ (s : State) (n : Fin 72) (v : Int) (r : List SinkCmd), s.gw.sinkQ = ⟨1, n.val, v⟩ :: r ∧ isHalf n = true) ∧
    (∃ (s : State) (n : Fin 72) (v : Int) (r : List SinkCmd), s.gw.sinkQ = ⟨1, n.val, v⟩ :: r ∧ isHalf n = false ∧ v ≠ 0 ∧ ChIdle s n) ∧
    (∃ (s : State) (n : Fin 72) (r : List SinkCmd), s.gw.sinkQ = ⟨1, n.val, 0⟩ :: r ∧ isHalf n = false ∧ s.isSafe (wCh n) = false ∧ s.ctrl n = ctrlNormal ∧ s.prot n = protOn) ∧
    (∃ (s : State) (n : Fin 72) (v : Fin 65536) (r : List SinkCmd), s.gw.sinkQ = ⟨2, n.val, v.val⟩ :: r ∧ s.unitState (wCh n) = usReady) ∧
    (∃ (s : State) (n : Fin 72) (v : Fin 256) (r : List SinkCmd), s.gw.sinkQ = ⟨3, n.val, v.val⟩ :: r ∧ s.unitState (wCh n) = usReady) ∧
    (∃ (s : State) (k : Fin 6) (v : BitVec 32) (r : List SinkCmd), s.gw.sinkQ = ⟨4, k.val, v.toInt⟩ :: r) ∧
    (∃ (s : State) (k : Fin 6) (r : List SinkCmd), s.gw.sinkQ = ⟨5, k.val, 0⟩ :: r ∧ s.isSafe (wME k) = false ∧ s.meState k = meDrive) ∧
    (∃ (s : State) (e : Fin 4) (i : Fin 65536) (v : Nat), s.gxOn = true ∧ s.seWorks e = true ∧ s.exq e = [.report i.val v] ∧ s.bq e = [] ∧ s.sig (s.genOf wSignal) SIG_ENTRY.VALID i = 1) ∧
    (∃ (s : State) (e : Fin 4), s.gxOn = false ∨ s.seWorks e = false ∨ s.exq e = []) ∧
    (∃ (s : State) (i : Fin 65536), s.gxOn = false ∨ s.sig (s.genOf wSignal) SIG_ENTRY.VALID i = 0) ∧
    (∃ (s : State), (s.gw.sinkQ.all fun c => c.fn != 1) = true) ∧
    (∃ (s : State), (s.gw.sinkQ.all fun c => c.fn != 2) = true) ∧
    (∃ (s : State), (s.gw.sinkQ.all fun c => c.fn != 3) = true) ∧
    (∃ (s : State), (s.gw.sinkQ.all fun c => c.fn != 4) = true) ∧
    (∃ (s : State), (s.gw.sinkQ.all fun c => c.fn != 5) = true) ∧
    (∃ (s : State) (i : Fin 65536), s.gxOn = true ∧ s.sig (s.genOf wSignal) SIG_ENTRY.VALID i = 1 ∧ s.sig (s.genOf wSignal) SIG_ENTRY.TIMEOUT i ≠ 0 ∧ s.sig (s.genOf wSignal) SIG_ENTRY.TO_ACT i = 1 ∧ s.sigState i = siValid) := 
  ⟨⟨(sigUp State.reset (77 : Fin 65536)).setExq (2 : Fin 4) [.pdu (⟨1, [1, 2, 3, 4], 77, 1, 0, false⟩ : Extract)], 2, ⟨1, [1, 2, 3, 4], 77, 1, 0, false⟩, 77, by decide +kernel⟩, ⟨(sigUp State.reset (77 : Fin 65536)).wr wSignal SIG_STATE.STATE siValid (77 : Fin 65536), 77, by decide +kernel⟩, ⟨(State.reset.setPins { State.reset.pins with gxRun := true }), 12345, by decide +kernel⟩, ⟨((([0, 1].foldl (fun s g => s.setEnt g wSignal SIG_ENTRY.SRC 77 6) (up (sigUp State.reset 77) wSignal)))).wr wSignal SIG_SEL.INDEX 77, .mp, by decide +kernel⟩, ⟨([0, 1].foldl (fun s g => (s.setEnt g wSignal SIG_ENTRY.SRC (77 : Fin 65536) 1).setEnt g wSignal SIG_ENTRY.SRC_UNIT (77 : Fin 65536) (5 : Fin 72)) (up ((sigUp State.reset (77 : Fin 65536)).setGw { (sigUp State.reset (77 : Fin 65536)).gw with reported := [] }) (wCh (5 : Fin 72)))), 77, 5, by decide +kernel⟩, ⟨State.reset.setGw { State.reset.gw with sinkQ := ⟨1, (6 : Fin 72).val, (1 : Int)⟩ :: ([] : List SinkCmd) }, 6, 1, [], by decide +kernel⟩, ⟨((chUp State.reset (25 : Fin 72) 0).mapChan (25 : Fin 72) fun c => { c with hot := false }).setGw { State.reset.gw with sinkQ := ⟨1, (25 : Fin 72).val, (1 : Int)⟩ :: ([] : List SinkCmd) }, 25, 1, [], by decide +kernel⟩, ⟨(chUp State.reset (25 : Fin 72) 1).setGw { State.reset.gw with sinkQ := ⟨1, (25 : Fin 72).val, 0⟩ :: ([] : List SinkCmd) }, 25, [], by decide +kernel⟩, ⟨(up State.reset (wCh (5 : Fin 72))).setGw { State.reset.gw with sinkQ := ⟨2, (5 : Fin 72).val, (700 : Fin 65536).val⟩ :: ([] : List SinkCmd) }, 5, 700, [], by decide +kernel⟩, ⟨(up State.reset (wCh (5 : Fin 72))).setGw { State.reset.gw with sinkQ := ⟨3, (5 : Fin 72).val, (70 : Fin 256).val⟩ :: ([] : List SinkCmd) }, 5, 70, [], by decide +kernel⟩, ⟨State.reset.setGw { State.reset.gw with sinkQ := ⟨4, (5 : Fin 6).val, (0xFFFFFF00 : BitVec 32).toInt⟩ :: ([] : List SinkCmd) }, 5, 0xFFFFFF00, [], by decide +kernel⟩, ⟨(meUp State.reset (5 : Fin 6) meDrive).setGw { State.reset.gw with sinkQ := ⟨5, (5 : Fin 6).val, 0⟩ :: ([] : List SinkCmd) }, 5, [], by decide +kernel⟩, ⟨(sigUp State.reset (77 : Fin 65536)).setExq (2 : Fin 4) [.report (77 : Fin 65536).val (500 : Nat)], 2, 77, 500, by decide +kernel⟩, ⟨(sigUp State.reset 7).setExq (2 : Fin 4) [], 2, by decide +kernel⟩, ⟨State.reset.setPins { State.reset.pins with gxRun := false }, 77, by decide +kernel⟩, ⟨State.reset.setGw { State.reset.gw with sinkQ := [⟨2, 1, 1⟩] }, by decide +kernel⟩, ⟨State.reset.setGw { State.reset.gw with sinkQ := [⟨3, 1, 1⟩] }, by decide +kernel⟩, ⟨State.reset.setGw { State.reset.gw with sinkQ := [⟨4, 1, 1⟩] }, by decide +kernel⟩, ⟨State.reset.setGw { State.reset.gw with sinkQ := [⟨5, 1, 1⟩] }, by decide +kernel⟩, ⟨State.reset.setGw { State.reset.gw with sinkQ := [⟨1, 1, 1⟩] }, by decide +kernel⟩, ⟨([0, 1].foldl (fun s g => s.setEnt g wSignal SIG_ENTRY.TO_ACT (77 : Fin 65536) 1) (sigUp State.reset (77 : Fin 65536))).wr wSignal SIG_STATE.STATE siValid (77 : Fin 65536), 77, by decide +kernel⟩⟩

/-- Every clause of PduAssemblyComplete has a state and operands that meet its hypotheses. -/
theorem witness_PduAssemblyComplete :
    (∃ (s : State) (j : Fin 8192) (e : Fin 4), s.gxOn = true ∧ CanBuild s j e ∧ s.pdu (s.genOf wPdu) PDU_ENTRY.MODE j = 1 ∧ s.pdu (s.genOf wPdu) PDU_ENTRY.PERIOD j ≠ 0) ∧
    (∃ (s : State) (init : Initiator) (j : Fin 8192) (e : Fin 4), CmdOpen s init wPdu PDU_CMD.SEND ∧ CanBuild s j e ∧ s.rd wPdu PDU_SEL.INDEX = j.val) ∧
    (∃ (s : State) (j : Fin 8192) (e : Fin 4), CanBuild s j e ∧ s.gw.mdtRun.contains j.val = true ∧ s.gw.pend.contains j.val = true) ∧
    (∃ (s : State) (j : Fin 8192) (e : Fin 4), CanBuild s j e ∧ s.gw.repRun.contains j.val = true ∧ look s.gw.repLeft j 0 ≠ 0) ∧
    (∃ (s : State) (j : Fin 8192), s.gw.repRun.contains j.val = true ∧ look s.gw.repLeft j 0 = 0) ∧
    (∃ (s : State) (j : Fin 8192) (e : Fin 4) (p : Fin 16) (r : List Nat), s.gxOn = true ∧ s.seWorks e = true ∧ s.exq e = [] ∧ s.bq e = j.val :: r ∧ s.pduRuns j = true ∧ (s.packPdu j).length ≤ 8 ∧ s.admits srcPdu 1 = true ∧ (s.fab.frames.all fun f => f.fid < s.fab.nextFid) = true ∧ s.bench.phase = .idle ∧ s.pdu (s.genOf wPdu) PDU_ENTRY.DCOUNT j = 1 ∧ ToCan s (s.pdu (s.genOf wPdu) PDU_ENTRY.DL_INDEX j) p ∧ s.canState p ≠ canOff ∧ s.netState (netOfCan p) = nsAwake ∧ s.canRoom p false = true) ∧
    (∃ (s : State) (j : Fin 8192), s.gxOn = false ∨ s.pduRuns j = false ∨ s.pdu (s.genOf wPdu) PDU_ENTRY.PERIOD j = 0) ∧
    (∃ (s : State) (j : Fin 8192), s.gw.mdtRun.contains j.val = false) ∧
    (∃ (s : State) (j : Fin 8192), s.gw.mdtRun.contains j.val = true ∧ s.gw.pend.contains j.val = false) ∧
    (∃ (s : State) (j : Fin 8192), s.gw.repRun.contains j.val = false) ∧
    (∃ (s : State) (e : Fin 4), s.gxOn = false ∨ s.seWorks e = false ∨ s.bq e = []) ∧
    (∃ (s : State) (init : Initiator) (j : Fin 8192), CmdOpen s init wPdu PDU_CMD.SEND ∧ s.rd wPdu PDU_SEL.INDEX = j.val ∧ s.pduRuns j = false) := 
  ⟨⟨pduUp State.reset (77 : Fin 8192) (2 : Fin 4), 77, 2, by decide +kernel⟩, ⟨(up (pduUp State.reset (77 : Fin 8192) (2 : Fin 4)) wPdu).wr wPdu PDU_SEL.INDEX (77 : Fin 8192), .mp, 77, 2, by decide +kernel⟩, ⟨(pduUp State.reset (77 : Fin 8192) (2 : Fin 4)).setGw { (pduUp State.reset (77 : Fin 8192) (2 : Fin 4)).gw with mdtRun := [(77 : Fin 8192).val], pend := [(77 : Fin 8192).val, 5] }, 77, 2, by decide +kernel⟩, ⟨(pduUp State.reset (77 : Fin 8192) (2 : Fin 4)).setGw { (pduUp State.reset (77 : Fin 8192) (2 : Fin 4)).gw with repRun := [(77 : Fin 8192).val], repLeft := [((77 : Fin 8192).val, 3)] }, 77, 2, by decide +kernel⟩, ⟨(pduUp State.reset (77 : Fin 8192) 2).setGw { (pduUp State.reset (77 : Fin 8192) 2).gw with repRun := [(77 : Fin 8192).val], repLeft := [] }, 77, by decide +kernel⟩, ⟨toCan (((canUp (pduUp State.reset (77 : Fin 8192) (2 : Fin 4)) (9 : Fin 16) 2).wr wWake (WK_NET_STATE.STATE.elem (netOfCan (9 : Fin 16))) nsAwake).setBq (2 : Fin 4) ((77 : Fin 8192).val :: ([] : List Nat))) (9 : Fin 16), 77, 2, 9, [], by decide +kernel⟩, ⟨State.reset.setPins { State.reset.pins with gxRun := false }, 77, by decide +kernel⟩, ⟨State.reset.setGw { State.reset.gw with mdtRun := [] }, 77, by decide +kernel⟩, ⟨State.reset.setGw { State.reset.gw with mdtRun := [(77 : Fin 8192).val], pend := [] }, 77, by decide +kernel⟩, ⟨State.reset.setGw { State.reset.gw with repRun := [] }, 77, by decide +kernel⟩, ⟨(sigUp State.reset 7).setBq (2 : Fin 4) [], 2, by decide +kernel⟩, ⟨([0, 1].foldl (fun s g => s.setEnt g wPdu PDU_ENTRY.VALID (77 : Fin 8192) 0) (up State.reset wPdu)).wr wPdu PDU_SEL.INDEX (77 : Fin 8192), .mp, 77, by decide +kernel⟩⟩

/-- Every clause of GuardAndMacsecComplete has a state and operands that meet its hypotheses. -/
theorem witness_GuardAndMacsecComplete :
    (∃ (s : State) (init : Initiator), CmdOpen s init wWeigh WB_CMD.REFILL) ∧
    (∃ (s : State) (init : Initiator), WriteOpen s init wSieve 0x1C2) ∧
    (∃ (s : State) (init : Initiator) (v : BitVec 96), WriteOpen s init wMacsec 0x17B ∧ s.saOn s.selSc 0 = false ∧ s.saOn s.selSc 1 = false ∧ fieldOf v.toNat MSEC_SC.PORT < 6 ∧ s.secondTx s.selSc v.toNat = false ∧ s.guard.secyPend = [] ∧ s.secyBusy (.sc s.selSc v.toNat) = false) ∧
    (∃ (s : State) (init : Initiator) (v : BitVec 96), WriteOpen s init wMacsec 0x17B ∧ s.secyAll.saOn s.selSc 0 = true ∨ s.secyAll.saOn s.selSc 1 = true ∨ 6 ≤ fieldOf v.toNat MSEC_SC.PORT ∨ s.secyAll.secondTx s.selSc v.toNat = true) ∧
    (∃ (s : State) (init : Initiator) (v : BitVec 224), WriteOpen s init wMacsec 0x1A3 ∧ s.saOn s.selSc s.selSa = false ∧ s.anClash s.selSc s.selSa v.toNat = false ∧ s.guard.secyPend = [] ∧ s.secyBusy (.sa s.selSc s.selSa v.toNat) = false) ∧
    (∃ (s : State) (init : Initiator) (v : BitVec 224), WriteOpen s init wMacsec 0x1A3 ∧ s.saOn s.selSc s.selSa = false ∧ s.anClash s.selSc s.selSa v.toNat = false ∧ s.guard.secyPend = [] ∧ s.secyBusy (.sa s.selSc s.selSa v.toNat) = false ∧ fieldOf v.toNat MSEC_SA.EN = 1 ∧ s.sc s.selSc MSEC_SC.VALID = 1 ∧ s.sc s.selSc MSEC_SC.DIR = 1 ∧ s.encSa s.selSc = s.selSa ∧ s.scState s.selSc = scOff) ∧
    (∃ (s : State) (init : Initiator) (v : BitVec 224), WriteOpen s init wMacsec 0x1A3 ∧ s.onlyClears s.selSc s.selSa v.toNat = true ∧ s.anClash s.selSc s.selSa v.toNat = false ∧ s.scState s.selSc ≠ scEnc ∨ s.encSa s.selSc ≠ s.selSa ∧ s.guard.secyPend = [] ∧ s.secyBusy (.sa s.selSc s.selSa v.toNat) = false) ∧
    (∃ (s : State) (init : Initiator), WriteOpen s init wMacsec 0x17C ∧ s.scState s.selSc ≠ scOff ∧ s.guard.secyPend = [] ∧ s.saOn s.selSc (1 - s.encSa s.selSc) = true ∧ s.on wMacsec MSEC_SC_CTRL.SWITCH s.selSc = false ∧ s.sending (s.sc s.selSc MSEC_SC.PORT) = none) ∧
    (∃ (s : State) (init : Initiator), WriteOpen s init wMacsec 0x17C ∧ s.scState s.selSc = scEnc ∧ s.guard.secyPend = [] ∧ s.saOn s.selSc (1 - s.encSa s.selSc) = true ∧ s.on wMacsec MSEC_SC_CTRL.SWITCH s.selSc = false ∧ (s.sending (s.sc s.selSc MSEC_SC.PORT)).isSome = true) ∧
    (∃ (s : State) (init : Initiator), WriteOpen s init wMacsec 0x17C ∧ s.scState s.selSc = scOff ∧ s.on wMacsec MSEC_SC_CTRL.SWITCH s.selSc = false) ∧
    (∃ (s : State) (init : Initiator) (v : BitVec 224), WriteOpen s init wMacsec 0x1A3 ∧ s.saOn s.selSc s.selSa = false ∧ s.anClash s.selSc s.selSa v.toNat = false ∧ s.guard.secyPend = [] ∧ s.secyBusy (.sa s.selSc s.selSa v.toNat) = true) ∧
    (∃ (s : State) (init : Initiator) (v : BitVec 96), WriteOpen s init wMacsec 0x17B ∧ s.saOn s.selSc 0 = false ∧ s.saOn s.selSc 1 = false ∧ fieldOf v.toNat MSEC_SC.PORT < 6 ∧ s.secondTx s.selSc v.toNat = false ∧ s.guard.secyPend = [] ∧ s.secyBusy (.sc s.selSc v.toNat) = true) ∧
    (∃ (s : State) (init : Initiator), WriteOpen s init wMacsec 0x17C ∧ s.scState s.selSc = scEnc ∧ s.guard.secyPend = [] ∧ s.saOn s.selSc (1 - s.encSa s.selSc) = false) := 
  ⟨⟨(up State.reset wWeigh).wr wWeigh WB_CMD.REFILL 0, .mp, by decide +kernel⟩, ⟨up State.reset wSieve, .mp, by decide +kernel⟩, ⟨scUp State.reset 4 1 2, .mp, 0, by decide +kernel⟩, ⟨(scUp State.reset 4 1 2).wr wMacsec MSEC_SA.EN 1 8, .mp, 0, by decide +kernel⟩, ⟨scUp State.reset 4 1 2, .mp, 0, by decide +kernel⟩, ⟨scUp State.reset 4 1 2, .mp, BitVec.ofNat 224 (2 ^ 223), by decide +kernel⟩, ⟨saFields.foldl (fun s f => s.wr wMacsec f (if f == MSEC_SA.EN then 1 else 0) 8) (scUp State.reset 4 0 2), .mp, 0, by decide +kernel⟩, ⟨(((scUp State.reset 4 1 2).wr wMacsec MSEC_SA.EN 1 9).setScState 4 scEnc).setReader 2 none, .mp, by decide +kernel⟩, ⟨(((scUp State.reset 4 1 2).wr wMacsec MSEC_SA.EN 1 9).setScState 4 scEnc).setReader 2 (some aCopy), .mp, by decide +kernel⟩, ⟨scUp State.reset 4 1 2, .mp, by decide +kernel⟩, ⟨((scUp State.reset 4 1 2).setReader 2 (some aCopy)), .mp, BitVec.ofNat 224 (2 ^ 223), by decide +kernel⟩, ⟨((scUp State.reset 4 1 2).setReader 2 (some aCopy)), .mp, 0, by decide +kernel⟩, ⟨((scUp State.reset 4 1 2).setScState 4 scEnc), .mp, by decide +kernel⟩⟩

/-- Every clause of AxesComplete has a state and operands that meet its hypotheses. -/
theorem witness_AxesComplete :
    (∃ (s : State) (init : Initiator) (n : Fin 7) (low : Fin 128), WriteOpen s init (wAx (n.val + 1)) 0x140 ∧ s.axCfgByte (n.val + 1) < 128 ∧ low.val / 16 = 4) ∧
    (∃ (s : State) (init : Initiator) (n : Fin 7) (low : Fin 128), WriteOpen s init (wAx (n.val + 1)) 0x140 ∧ s.axCfgByte (n.val + 1) < 128 ∧ low.val / 16 = 2 ∧ s.unitState (wME (s.rd (wAx (n.val + 1)) AX_SRC.UNIT_A)) = usReady) ∧
    (∃ (s : State) (init : Initiator) (n : Fin 7) (low : Fin 128), WriteOpen s init (wAx (n.val + 1)) 0x140 ∧ s.axCfgByte (n.val + 1) = 128 + axCfgFit low ∧ s.axState (n.val + 1) ≠ axOff) ∧
    (∃ (s : State) (n : Fin 7), s.gxOn = true ∧ s.axState (n.val + 1) = axRun ∧ s.rd (wAx (n.val + 1)) AX_CFG.SRC = 1 ∨ s.rd (wAx (n.val + 1)) AX_CFG.SRC = 2 ∧ s.sourceReady (n.val + 1) = true ∧ 1 ≤ (s.axis (n.val + 1)).count) ∧
    (∃ (s : State) (n : Fin 7), s.gxOn = true ∧ s.axState (n.val + 1) = axRun ∧ s.rd (wAx (n.val + 1)) AX_CFG.SRC = 1 ∨ s.rd (wAx (n.val + 1)) AX_CFG.SRC = 2 ∧ s.sourceReady (n.val + 1) = true ∧ 1 ≤ (s.axis (n.val + 1)).count) ∧
    (∃ (s : State) (n : Fin 7) (up : Bool), s.gxOn = true ∧ s.axState (n.val + 1) = axRun ∧ s.rd (wAx (n.val + 1)) AX_CFG.SRC = 1 ∧ s.sourceReady (n.val + 1) = true ∧ 1 ≤ (s.axis (n.val + 1)).count ∧ (s.axis (n.val + 1)).lastD = (if up then -1 else 1)) ∧
    (∃ (s : State) (n : Fin 7), s.gxOn = true ∧ s.axState (n.val + 1) = axRun ∧ 1 ≤ s.rd (wAx (n.val + 1)) AX_STALL.STALL_TO ∧ 1 ≤ s.rd (wAx (n.val + 1)) AX_CFG.SRC ∧ s.rd (wAx (n.val + 1)) AX_CFG.SRC ≤ 3) ∧
    (∃ (s : State) (init : Initiator), CmdOpen s init (wAx 0) AX0_CTRL.STEP) ∧
    (∃ (s : State) (init : Initiator), CmdOpen s init (wAx 0) AX0_CTRL.MARK) ∧
    (∃ (s : State) (init : Initiator), CmdOpen s init (wAx 0) AX0_CTRL.UNSYNC) ∧
    (∃ (s : State) (init : Initiator), WriteOpen s init (wAx 0) 0x17F) ∧
    (∃ (s : State) (init : Initiator), WriteOpen s init (wAx 0) 0x183) ∧
    (∃ (s : State), s.gxOn = true ∧ s.ax0State = sync0 ∧ 1 ≤ s.rd (wAx 0) AX0_HOLD_TO.HOLD_TO) ∧
    (∃ (s : State), s.gxOn = true) ∧
    (∃ (s : State) (p : Fin 16) (d : List Byte), s.gxOn = true ∧ s.pwr.mpRun = true ∧ bit (s.rd (wAx 0) AX0_PTP.PTP_EN) p.val = true ∧ beNat (((byteList d).drop 12).take 2) = 0x88F7 ∧ (byteList d).getD 18 0 = s.rd (wAx 0) AX0_DOMAIN.DOMAIN ∧ (byteList d).getD 14 0 % 16 = 2 ∧ s.fab.handed = [] ∧ s.hopDown p = false ∧ (∀ k : Fin 8, s.queue p k = [] ∧ s.hopQlim p k ≠ 0 ∧ cellsOf (ptpWith (byteList d) 3 0).length ≤ s.hopQlim p k) ∧ s.admits noPort (cellsOf (ptpWith (byteList d) 3 0).length) = true) ∧
    (∃ (s : State) (p : Fin 16) (q : Fin 16) (d : List Byte), s.gxOn = true ∧ s.pwr.mpRun = true ∧ bit (s.rd (wAx 0) AX0_PTP.PTP_EN) p.val = true ∧ beNat (((byteList d).drop 12).take 2) = 0x88F7 ∧ (byteList d).getD 18 0 = s.rd (wAx 0) AX0_DOMAIN.DOMAIN ∧ (byteList d).getD 14 0 % 16 = 0 ∧ s.fab.handed = [] ∧ bit s.cfg.ptpSlaves p = true ∧ s.cfg.ptpMasters = 2 ^ q.val ∧ bit (s.rd (wAx 0) AX0_PTP.PTP_EN) q.val = true ∧ s.hopDown q = false ∧ (∀ k : Fin 8, s.queue q k = [] ∧ s.hopQlim q k ≠ 0 ∧ cellsOf (ptpWith (byteList d) 0 0).length ≤ s.hopQlim q k) ∧ s.admits noPort (cellsOf (ptpWith (byteList d) 0 0).length) = true) ∧
    (∃ (s : State) (p : Fin 16) (d : List Byte), s.gxOn = true ∧ s.pwr.mpRun = true ∧ bit (s.rd (wAx 0) AX0_PTP.PTP_EN) p.val = true ∧ beNat (((byteList d).drop 12).take 2) = 0x88F7 ∧ (byteList d).getD 18 0 = s.rd (wAx 0) AX0_DOMAIN.DOMAIN ∧ (byteList d).getD 14 0 % 16 = 8 ∧ s.fab.handed = [] ∧ bit s.cfg.ptpSlaves p = true ∧ s.cfg.ptpMasters = 0) ∧
    (∃ (s : State) (p : Fin 16) (d : List Byte), s.pwr.mpRun = false ∨ bit (s.rd (wAx 0) AX0_PTP.PTP_EN) p.val = false ∨ (byteList d).getD 18 0 ≠ s.rd (wAx 0) AX0_DOMAIN.DOMAIN ∧ s.fab.handed = []) ∧
    (∃ (s : State) (n : Fin 7), s.gxOn = true ∧ s.axState (n.val + 1) = axWait ∧ s.rd (wAx (n.val + 1)) AX_CFG.SRC = 3 ∧ s.sourceReady (n.val + 1) = true ∧ (s.axis (n.val + 1)).count = 0) ∧
    (∃ (s : State) (n : Fin 7), s.gxOn = true ∧ s.axState (n.val + 1) = axStalled ∧ s.rd (wAx (n.val + 1)) AX_CFG.SRC = 2 ∧ s.sourceReady (n.val + 1) = true ∧ 1 ≤ (s.axis (n.val + 1)).count) ∧
    (∃ (s : State) (n : Fin 7), s.gxOn = false ∨ s.axState (n.val + 1) = axOff) ∧
    (∃ (s : State) (n : Fin 7), s.gxOn = false ∨ s.axState (n.val + 1) ≠ axRun ∨ s.rd (wAx (n.val + 1)) AX_STALL.STALL_TO = 0) ∧
    (∃ (s : State), s.gxOn = false ∨ s.ax0State ≠ sync0 ∨ s.rd (wAx 0) AX0_HOLD_TO.HOLD_TO = 0) := 
  ⟨⟨axUp State.reset ((3 : Fin 7).val + 1) 0 axOff, .mp, 3, 64, by decide +kernel⟩, ⟨axUp State.reset ((3 : Fin 7).val + 1) 2 axOff, .mp, 3, 35, by decide +kernel⟩, ⟨axUp State.reset ((3 : Fin 7).val + 1) 4 axRun, .mp, 3, 64, by decide +kernel⟩, ⟨(axUp State.reset ((3 : Fin 7).val + 1) 1 axRun).setAxis ((3 : Fin 7).val + 1) { State.reset.axis ((3 : Fin 7).val + 1) with count := 4, lastD := 1 }, 3, by decide +kernel⟩, ⟨(axUp State.reset ((3 : Fin 7).val + 1) 2 axRun).setAxis ((3 : Fin 7).val + 1) { State.reset.axis ((3 : Fin 7).val + 1) with count := 4, lastD := -1 }, 3, by decide +kernel⟩, ⟨(axUp State.reset ((3 : Fin 7).val + 1) 1 axRun).setAxis ((3 : Fin 7).val + 1) { State.reset.axis ((3 : Fin 7).val + 1) with count := 4, lastD := -1 }, 3, true, by decide +kernel⟩, ⟨(axUp State.reset ((3 : Fin 7).val + 1) 1 axRun).wr (wAx ((3 : Fin 7).val + 1)) AX_STALL.STALL_TO 10, 3, by decide +kernel⟩, ⟨(up State.reset (wAx 0)).wr (wAx 0) AX0_CTRL.STEP 0, .mp, by decide +kernel⟩, ⟨(up State.reset (wAx 0)).wr (wAx 0) AX0_CTRL.MARK 0, .mp, by decide +kernel⟩, ⟨(up State.reset (wAx 0)).wr (wAx 0) AX0_CTRL.UNSYNC 0, .mp, by decide +kernel⟩, ⟨up State.reset (wAx 0), .mp, by decide +kernel⟩, ⟨up State.reset (wAx 0), .mp, by decide +kernel⟩, ⟨((up State.reset (wAx 0)).wr (wAx 0) AX0_HOLD_TO.HOLD_TO 8).setAx0State sync0, by decide +kernel⟩, ⟨up State.reset (wAx 0), by decide +kernel⟩, ⟨(List.range 8).foldl (fun s k => (s.wr (wHop 3) (HOP_QLIM.QLIM.elem k) 100).setQueue 3 k []) (((((up State.reset (wAx 0)).wr (wAx 0) AX0_PTP.PTP_EN 255).wr (wAx 0) AX0_DOMAIN.DOMAIN 0).wr (wHop 3) HOP_STAT.DOWN 0).setFab { State.reset.fab with handed := [] }), 3, List.replicate 12 0 ++ [0x88, 0xF7, 2, 2, 0, 44, 0, 0, 0, 0], by decide +kernel⟩, ⟨(List.range 8).foldl (fun s k => (s.wr (wHop (2 : Fin 16)) (HOP_QLIM.QLIM.elem k) 100).setQueue (2 : Fin 16) k []) (((((up State.reset (wAx 0)).setCfg { State.reset.cfg with ptpSlaves := 8, ptpMasters := 2 ^ (2 : Fin 16).val }).wr (wAx 0) AX0_PTP.PTP_EN 255).wr (wAx 0) AX0_DOMAIN.DOMAIN 0).wr (wHop (2 : Fin 16)) HOP_STAT.DOWN 0), 3, 2, List.replicate 12 0 ++ [0x88, 0xF7, 0, 2, 0, 44, 0, 0, 0, 0], by decide +kernel⟩, ⟨(((up State.reset (wAx 0)).setCfg { State.reset.cfg with ptpSlaves := 8, ptpMasters := 0 }).wr (wAx 0) AX0_PTP.PTP_EN 255).wr (wAx 0) AX0_DOMAIN.DOMAIN 0, 3, List.replicate 12 0 ++ [0x88, 0xF7, 8, 2, 0, 44, 0, 0, 0, 0], by decide +kernel⟩, ⟨(up State.reset (wAx 0)).wr (wAx 0) AX0_PTP.PTP_EN 4, 3, [], by decide +kernel⟩, ⟨((axUp State.reset ((3 : Fin 7).val + 1) 3 axWait).setAxis ((3 : Fin 7).val + 1) AxisSt.reset).wr wSignal SIG_VALUE.VALUE 77 ((axUp State.reset ((3 : Fin 7).val + 1) 3 axWait).rd (wAx ((3 : Fin 7).val + 1)) AX_SRC.SIG), 3, by decide +kernel⟩, ⟨(axUp State.reset ((3 : Fin 7).val + 1) 2 axStalled).setAxis ((3 : Fin 7).val + 1) { State.reset.axis ((3 : Fin 7).val + 1) with count := 4, lastD := 1 }, 3, by decide +kernel⟩, ⟨axUp State.reset ((3 : Fin 7).val + 1) 2 axOff, 3, by decide +kernel⟩, ⟨axUp State.reset ((3 : Fin 7).val + 1) 2 axOff, 3, by decide +kernel⟩, ⟨up State.reset (wAx 0), by decide +kernel⟩⟩

/-- Every clause of EventPoolComplete has a state and operands that meet its hypotheses. -/
theorem witness_EventPoolComplete :
    (∃ (s : State) (init : Initiator), CmdOpen s init wEvp EVP_CMD.ARM ∧ s.evArmed s.evSel = none ∧ s.evFits s.evSel = true ∧ s.evAxis s.evSel ≠ 0 ∨ (s.ax0Ns : Int) < s.evTarget s.evSel) ∧
    (∃ (s : State) (init : Initiator), CmdOpen s init wEvp EVP_CMD.ARM ∧ s.evArmed s.evSel = none ∧ s.evFits s.evSel = true ∧ s.evAxis s.evSel ≠ 0 ∨ (s.ax0Ns : Int) < s.evTarget s.evSel) ∧
    (∃ (s : State) (init : Initiator), CmdOpen s init wEvp EVP_CMD.ARM ∧ s.evArmed s.evSel = none ∧ s.evFits s.evSel = true ∧ s.evAxis s.evSel = 0 ∧ s.evTarget s.evSel ≤ (s.ax0Ns : Int) ∧ s.evRepeat s.evSel = 0 ∧ s.on wEvp EVP_ENTRY.LATE_ACT s.evSel = false) ∧
    (∃ (s : State) (init : Initiator), CmdOpen s init wEvp EVP_CMD.DISARM ∧ (s.evArmed s.evSel).isSome = true) ∧
    (∃ (s : State) (init : Initiator) (i : Fin 4096), CmdOpen s init wEvp EVP_CMD.GARM ∧ s.rd wEvp EVP_ENTRY.GROUP i = s.rd wEvp EVP_GROUP.GROUP ∧ s.evArmed i = none ∧ s.evFits i = true ∧ s.evAxis i ≠ 0) ∧
    (∃ (s : State) (init : Initiator) (i : Fin 4096), CmdOpen s init wEvp EVP_CMD.GDIS ∧ s.rd wEvp EVP_ENTRY.GROUP i = s.rd wEvp EVP_GROUP.GROUP ∧ (s.evArmed i).isSome = true) ∧
    (∃ (s : State) (i : Fin 4096) (a : ArmedEv), s.gxOn = true ∧ s.evp.armed = [(i.val, a)] ∧ s.evAxis i = 0 ∧ a.timed = false ∧ a.target ≤ (s.ax0Ns : Int) ∧ s.evRepeat i = 0) ∧
    (∃ (s : State) (i : Fin 4096) (a : ArmedEv), s.gxOn = true ∧ s.evp.armed = [(i.val, a)] ∧ s.evAxis i ≠ 0 ∧ s.axState (s.evAxis i) = axRun ∧ a.timed = false ∧ a.below = true ∧ a.target * axUnit ≤ s.evPos i ∧ s.on wEvp EVP_ENTRY.EXACT i = false ∧ s.evDir i = 1 ∧ s.evRepeat i = 0) ∧
    (∃ (s : State) (i : Fin 4096) (a : ArmedEv), s.gxOn = true ∧ s.evp.armed = [(i.val, a)] ∧ s.evAxis i ≠ 0 ∧ s.axState (s.evAxis i) ≠ axRun) ∧
    (∃ (s : State) (init : Initiator), CmdOpen s init wEvp EVP_CMD.ARM ∧ s.evArmed s.evSel = none ∧ s.evFits s.evSel = true ∧ s.evAxis s.evSel = 0 ∧ s.evTarget s.evSel ≤ (s.ax0Ns : Int) ∧ s.evRepeat s.evSel = 0 ∧ s.on wEvp EVP_ENTRY.LATE_ACT s.evSel = true) ∧
    (∃ (s : State) (init : Initiator), CmdOpen s init wEvp EVP_CMD.ARM ∧ (s.evArmed s.evSel).isSome = true ∨ s.evFits s.evSel = false) ∧
    (∃ (s : State) (init : Initiator), CmdOpen s init wEvp EVP_CMD.ARM ∧ (s.evArmed s.evSel).isSome = true ∨ s.evFits s.evSel = false) ∧
    (∃ (s : State) (i : Fin 4096) (a : ArmedEv), s.gxOn = true ∧ s.evp.armed = [(i.val, a)] ∧ a.timed = true ∨ (s.evAxis i = 0 ∧ (s.ax0Ns : Int) < a.target)) ∧
    (∃ (s : State) (i : Fin 4096) (a : ArmedEv), s.gxOn = true ∧ s.evp.armed = [(i.val, a)] ∧ a.timed = true ∨ (s.evAxis i = 0 ∧ (s.ax0Ns : Int) < a.target)) ∧
    (∃ (s : State) (i : Fin 4096) (a : ArmedEv) (k : Nat), s.gxOn = true ∧ s.evp.armed = [(i.val, a)] ∧ s.evAxis i = 0 ∧ a.timed = false ∧ s.evRepeat i = 100 ∧ (s.ax0Ns : Int) = a.target + 100 * k + 7 ∧ 1 ≤ k ∧ s.on wEvp EVP_STAT.OVERRUN = false) := 
  ⟨⟨(evUp State.reset 77 3).wr wEvp EVP_CMD.ARM 0, .mp, by decide +kernel⟩, ⟨((evUp State.reset 77 0).wr wEvp EVP_CMD.ARM 0).setAx0 ⟨0, 5, 0, 0, 0, 5⟩, .mp, by decide +kernel⟩, ⟨((evUp State.reset 77 0).wr wEvp EVP_CMD.ARM 0).setAx0 ⟨1, 5, 0, 0, 0, 5⟩, .mp, by decide +kernel⟩, ⟨(evAt State.reset 77 3 9 false).wr wEvp EVP_CMD.DISARM 0, .mp, by decide +kernel⟩, ⟨(evUp State.reset (78 : Fin 4096).val 3).wr wEvp EVP_CMD.GARM 0, .mp, 78, by decide +kernel⟩, ⟨(evAt State.reset (78 : Fin 4096).val 3 9 false).wr wEvp EVP_CMD.GDIS 0, .mp, 78, by decide +kernel⟩, ⟨((evAt State.reset (78 : Fin 4096).val 0 9 false).setAx0 ⟨1, 5, 0, 0, 0, 5⟩).setEvp ⟨[((78 : Fin 4096).val, (⟨9, true, false⟩ : ArmedEv))], []⟩, 78, ⟨9, true, false⟩, by decide +kernel⟩, ⟨(evAt State.reset (78 : Fin 4096).val 3 9 false).setEvp ⟨[((78 : Fin 4096).val, (⟨-9000000000000000, true, false⟩ : ArmedEv))], []⟩, 78, ⟨-9000000000000000, true, false⟩, by decide +kernel⟩, ⟨((evAt State.reset (78 : Fin 4096).val 3 9 false).setEvp ⟨[((78 : Fin 4096).val, (⟨-9, true, false⟩ : ArmedEv))], []⟩).setAxState 3 axWait, 78, ⟨-9, true, false⟩, by decide +kernel⟩, ⟨(((evUp State.reset 77 0).wr wEvp EVP_CMD.ARM 0).wr wEvp EVP_ENTRY.LATE_ACT 1 77).setAx0 ⟨1, 5, 0, 0, 0, 5⟩, .mp, by decide +kernel⟩, ⟨((evUp State.reset 77 3).wr wEvp EVP_CMD.ARM 0).wr wEvp EVP_ENTRY.ACTION 13 77, .mp, by decide +kernel⟩, ⟨(evAt State.reset 77 3 9 false).wr wEvp EVP_CMD.ARM 0, .mp, by decide +kernel⟩, ⟨(evAt State.reset (78 : Fin 4096).val 0 9 true).setEvp ⟨[((78 : Fin 4096).val, (⟨9, true, true⟩ : ArmedEv))], []⟩, 78, ⟨9, true, true⟩, by decide +kernel⟩, ⟨((evAt State.reset (78 : Fin 4096).val 0 9 false).setAx0 ⟨0, 5, 0, 0, 0, 5⟩).setEvp ⟨[((78 : Fin 4096).val, (⟨9, true, false⟩ : ArmedEv))], []⟩, 78, ⟨9, true, false⟩, by decide +kernel⟩, ⟨(((evAt State.reset (78 : Fin 4096).val 0 9 false).wr wEvp EVP_ENTRY.REPEAT 100 (78 : Fin 4096).val).setAx0 ⟨0, 316, 0, 0, 0, 5⟩).setEvp ⟨[((78 : Fin 4096).val, (⟨9, true, false⟩ : ArmedEv))], []⟩, 78, ⟨9, true, false⟩, 3, by decide +kernel⟩⟩

/-- Every clause of EventActionsComplete has a state and operands that meet its hypotheses. -/
theorem witness_EventActionsComplete :
    (∃ (s : State) (r : Fin 16) (f : RingFrame), s.shut wHost = false ∧ s.launchMode r = true ∧ s.launchOf r = some f) ∧
    (∃ (s : State) (j : Fin 8192) (e : Fin 4), s.shut wPdu = false ∧ CanBuild s j e) ∧
    (∃ (s : State) (p : Fin 16) (g : Nat) (k : Fin 8), s.shut (wHop p) = false ∧ bit g (8 + k) = true ∧ bit g k = true) ∧
    (∃ (s : State) (p : Fin 16) (g : Nat) (k : Fin 8), s.shut (wHop p) = false ∧ bit g (8 + k) = true ∧ bit g k = false) ∧
    (∃ (s : State), s.unitState wSieve ≠ usOff) ∧
    (∃ (s : State) (n : Fin 72) (g : Nat), s.unitState (wCh n) = usReady ∧ isHalf n = false ∧ ChIdle s n ∧ bit g 0 = true) ∧
    (∃ (s : State) (n : Fin 72), s.shut (wCh n) = false) ∧
    (∃ (s : State) (n : Fin 72), s.shut (wCh n) = false) ∧
    (∃ (s : State) (n : Fin 80) (x : Fin 4096), s.shut (if n.val < 64 then wSW n else wAN (n.val - 64)) = false ∧ s.validIn (s.genOf wSignal) wSignal SIG_ENTRY.VALID = [x.val] ∧ s.sig (s.genOf wSignal) SIG_ENTRY.SRC x = (if n.val < 64 then 2 else 3) ∧ s.sig (s.genOf wSignal) SIG_ENTRY.SRC_UNIT x = (if n.val < 64 then n.val else n.val - 64) ∧ s.inRom (wSE (x.val % 4)) = false ∧ (s.exq (x.val % 4)).length < 512) ∧
    (∃ (s : State) (x : Fin 4096), s.shut wSignal = false ∧ s.sig (s.genOf wSignal) SIG_ENTRY.VALID x = 1 ∧ s.sig (s.genOf wSignal) SIG_ENTRY.SRC x = 6 ∧ s.sigSigned (s.genOf wSignal) x = false) ∧
    (∃ (s : State) (k : Fin 6) (g : Nat), s.unitState (wME k) = usReady ∧ s.meState k = meIdle ∧ s.meMayDrive k = true ∧ s.rd (wME k) ME_TOL.TOL < (toSigned g 32 - s.mePos k).natAbs ∧ s.rd (wME k) ME_BRK.BRK_DIST < (toSigned g 32 - s.mePos k).natAbs ∧ g < 2 ^ 32) ∧
    (∃ (s : State) (k : Fin 6) (g : Nat), s.unitState (wME k) = usReady ∧ s.meState k = meIdle ∧ s.meMayDrive k = true ∧ g % 8 = 2) ∧
    (∃ (s : State) (x : Fin 4096) (g : Nat), bit (g / 65536) (s.rd wEvp EVP_ENTRY.GROUP x) = true ∧ g % 65536 = 0 ∧ (s.evArmed x).isSome = true) ∧
    (∃ (s : State) (x : Fin 4096) (g : Nat), bit (g % 65536) (s.rd wEvp EVP_ENTRY.GROUP x) = true ∧ g / 65536 = 0 ∧ s.evArmed x = none ∧ s.evFits x = true ∧ s.evAxis x ≠ 0) ∧
    (∃ (s : State) (n : Fin 72), s.shut (wCh n) = true) ∧
    (∃ (s : State) (i : Fin 4096) (a : ArmedEv) (n : Fin 72), s.evp.armed = [(i.val, a)] ∧ a.timed = true ∧ a.target ≤ s.ixNow ∧ s.evRepeat i = 0 ∧ s.rd wEvp EVP_ENTRY.ACTION i = 6 ∧ s.rd wEvp EVP_ENTRY.TARGET i = n.val ∧ s.shut (wCh n) = false) ∧
    (∃ (s : State) (r : Fin 16) (d : RingDesc), s.launchMode r = true ∧ s.launchOf r = none ∧ s.fetches true r = true ∧ s.on wHost (fEn true r) = true ∧ s.txDescs r = [] ∧ d.sop = true ∧ d.eop = true ∧ s.admits srcHost (cellsOf (s.makeDesc true r d).data.length) = true) ∧
    (∃ (s : State), (s.evp.queue.head?.map (·.act)) ≠ some 0) ∧
    (∃ (s : State), (s.evp.queue.head?.map (·.act)) ≠ some 1) ∧
    (∃ (s : State), (s.evp.queue.head?.map (·.act)) ≠ some 2) ∧
    (∃ (s : State), (s.evp.queue.head?.map (·.act)) ≠ some 3) ∧
    (∃ (s : State), (s.evp.queue.head?.map (·.act)) ≠ some 4) ∧
    (∃ (s : State), (s.evp.queue.head?.map (·.act)) ≠ some 5) ∧
    (∃ (s : State), (s.evp.queue.head?.map (·.act)) ≠ some 6) ∧
    (∃ (s : State), (s.evp.queue.head?.map (·.act)) ≠ some 7) ∧
    (∃ (s : State), (s.evp.queue.head?.map (·.act)) ≠ some 8) ∧
    (∃ (s : State), (s.evp.queue.head?.map (·.act)) ≠ some 9) ∧
    (∃ (s : State), (s.evp.queue.head?.map (·.act)) ≠ some 10) ∧
    (∃ (s : State), (s.evp.queue.head?.map (·.act)) ≠ some 11) ∧
    (∃ (s : State), (s.evp.queue.head?.map (·.act)) ≠ some 12) ∧
    (∃ (s : State) (r : Fin 16), s.shut wHost = true ∨ s.launchMode r = false) ∧
    (∃ (s : State) (r : Fin 16), s.shut wHost = false ∧ s.launchMode r = true ∧ s.launchOf r = none) ∧
    (∃ (s : State) (p : Fin 16), s.shut (wHop p) = true) ∧
    (∃ (s : State), s.unitState wSieve = usOff) ∧
    (∃ (s : State) (n : Fin 80), s.shut (if n.val < 64 then wSW n else wAN (n.val - 64)) = true) ∧
    (∃ (s : State) (x : Fin 4096), s.shut wSignal = true ∨ s.sig (s.genOf wSignal) SIG_ENTRY.VALID x ≠ 1 ∨ s.sig (s.genOf wSignal) SIG_ENTRY.SRC x ≠ 6) ∧
    (∃ (s : State) (k : Fin 6), s.shut (wME k) = true) ∧
    (∃ (s : State) (k : Fin 6), s.shut (wME k) = true) ∧
    (∃ (s : State) (n : Fin 72), s.shut (wCh n) = true) ∧
    (∃ (s : State) (n : Fin 72), s.shut (wCh n) = true) ∧
    (∃ (s : State) (r : Fin 16), s.fetches true r = false) ∧
    (∃ (s : State), (s.evp.armed.filter fun x => x.2.timed) = []) := 
  ⟨⟨((up State.reset wHost).wr wEvp EVP_LAUNCH.RINGS 65535).setLaunch (3 : Fin 16).val (some (⟨9, [], none, false⟩ : RingFrame)), 3, ⟨9, [], none, false⟩, by decide +kernel⟩, ⟨(pduUp (up State.reset wPdu) (30 : Fin 8192).val (2 : Fin 4).val), 30, 2, by decide +kernel⟩, ⟨up State.reset (wHop (3 : Fin 16).val), 3, 0xFF0F, 2, by decide +kernel⟩, ⟨up State.reset (wHop (3 : Fin 16).val), 3, 0xFF0F, 5, by decide +kernel⟩, ⟨up State.reset wSieve, by decide +kernel⟩, ⟨chUp State.reset (40 : Fin 72).val 0, 40, 1, by decide +kernel⟩, ⟨chUp State.reset (3 : Fin 72).val 0, 3, by decide +kernel⟩, ⟨chUp State.reset (3 : Fin 72).val 0, 3, by decide +kernel⟩, ⟨[0, 1].foldl (fun s e => (s.setEnt e wSignal SIG_ENTRY.SRC (6 : Fin 4096).val 2).setEnt e wSignal SIG_ENTRY.SRC_UNIT (6 : Fin 4096).val 7) (up (sigUp State.reset (6 : Fin 4096).val) (wSW 7)), 7, 6, by decide +kernel⟩, ⟨[0, 1].foldl (fun s e => s.setEnt e wSignal SIG_ENTRY.SRC (6 : Fin 4096).val 6) (up (sigUp State.reset (6 : Fin 4096).val) wSignal), 6, by decide +kernel⟩, ⟨((meUp State.reset (3 : Fin 6).val meIdle).wr (wME (3 : Fin 6).val) ME_TOL.TOL 5).wr (wME (3 : Fin 6).val) ME_BRK.BRK_DIST 9, 3, 0x40000000, by decide +kernel⟩, ⟨meUp State.reset (3 : Fin 6).val meIdle, 3, 2, by decide +kernel⟩, ⟨evAt State.reset (6 : Fin 4096).val 3 9 false, 6, 0xFFFF0000, by decide +kernel⟩, ⟨evUp State.reset (6 : Fin 4096).val 3, 6, 0xFFFF, by decide +kernel⟩, ⟨(chUp State.reset (40 : Fin 72).val 0).wr (wCh (40 : Fin 72).val) DESC_STATE.STATE usSafe, 40, by decide +kernel⟩, ⟨(((((chUp (evAt State.reset (5 : Fin 4096).val 0 9 true) (4 : Fin 72).val 0).wr wEvp EVP_ENTRY.ACTION 6 (5 : Fin 4096).val).wr wEvp EVP_ENTRY.TARGET (4 : Fin 72).val (5 : Fin 4096).val).wr wEvp EVP_ENTRY.ARG 77 (5 : Fin 4096).val).setAx0 ⟨0, 50, 0, 0, 0, 50⟩).setEvp ⟨[((5 : Fin 4096).val, (⟨9, true, true⟩ : ArmedEv))], []⟩, 5, ⟨9, true, true⟩, 4, by decide +kernel⟩, ⟨((((((((up State.reset wHost).wr wHost HOST_PCIE_LINK.UP 1).setHost { State.reset.host with perst := false, busMaster := true, txDesc := [], txFrames := [], launch := [], doneIdx := [] }).wr wHost (fRsize true (2 : Fin 16).val) 1).wr wHost (fEn true (2 : Fin 16).val) 1).wr wHost (fHead true (2 : Fin 16).val) 0).wr wHost (fTail true (2 : Fin 16).val) 4).wr wHost (fStopped true (2 : Fin 16).val) 0).wr wEvp EVP_LAUNCH.RINGS 65535, 2, ⟨0x1000, 4, true, true, false, 0, [7, 1, 2, 3]⟩, by decide +kernel⟩, ⟨State.reset.setEvp ⟨[], [⟨5, 1, 0, 0⟩, ⟨6, 0, 0, 0⟩]⟩, by decide +kernel⟩, ⟨State.reset.setEvp ⟨[], [⟨5, 2, 0, 0⟩, ⟨6, 1, 0, 0⟩]⟩, by decide +kernel⟩, ⟨State.reset.setEvp ⟨[], [⟨5, 3, 0, 0⟩, ⟨6, 2, 0, 0⟩]⟩, by decide +kernel⟩, ⟨State.reset.setEvp ⟨[], [⟨5, 4, 0, 0⟩, ⟨6, 3, 0, 0⟩]⟩, by decide +kernel⟩, ⟨State.reset.setEvp ⟨[], [⟨5, 5, 0, 0⟩, ⟨6, 4, 0, 0⟩]⟩, by decide +kernel⟩, ⟨State.reset.setEvp ⟨[], [⟨5, 6, 0, 0⟩, ⟨6, 5, 0, 0⟩]⟩, by decide +kernel⟩, ⟨State.reset.setEvp ⟨[], [⟨5, 7, 0, 0⟩, ⟨6, 6, 0, 0⟩]⟩, by decide +kernel⟩, ⟨State.reset.setEvp ⟨[], [⟨5, 8, 0, 0⟩, ⟨6, 7, 0, 0⟩]⟩, by decide +kernel⟩, ⟨State.reset.setEvp ⟨[], [⟨5, 9, 0, 0⟩, ⟨6, 8, 0, 0⟩]⟩, by decide +kernel⟩, ⟨State.reset.setEvp ⟨[], [⟨5, 10, 0, 0⟩, ⟨6, 9, 0, 0⟩]⟩, by decide +kernel⟩, ⟨State.reset.setEvp ⟨[], [⟨5, 11, 0, 0⟩, ⟨6, 10, 0, 0⟩]⟩, by decide +kernel⟩, ⟨State.reset.setEvp ⟨[], [⟨5, 12, 0, 0⟩, ⟨6, 11, 0, 0⟩]⟩, by decide +kernel⟩, ⟨State.reset.setEvp ⟨[], [⟨5, 0, 0, 0⟩, ⟨6, 12, 0, 0⟩]⟩, by decide +kernel⟩, ⟨(up State.reset wHost).wr wEvp EVP_LAUNCH.RINGS 0, 3, by decide +kernel⟩, ⟨((up State.reset wHost).wr wEvp EVP_LAUNCH.RINGS 65535).setLaunch (3 : Fin 16).val none, 3, by decide +kernel⟩, ⟨(up State.reset (wHop (3 : Fin 16).val)).wr (wHop (3 : Fin 16).val) DESC_STATE.STATE usSafe, 3, by decide +kernel⟩, ⟨(up State.reset wSieve).wr wSieve DESC_STATE.STATE usOff, by decide +kernel⟩, ⟨((up State.reset (wSW 7)).wr (wSW 7) DESC_STATE.STATE usSafe), 7, by decide +kernel⟩, ⟨[0, 1].foldl (fun s e => s.setEnt e wSignal SIG_ENTRY.SRC (6 : Fin 4096).val 1) (up (sigUp State.reset (6 : Fin 4096).val) wSignal), 6, by decide +kernel⟩, ⟨(meUp State.reset (3 : Fin 6).val meIdle).wr (wME (3 : Fin 6).val) DESC_STATE.STATE usSafe, 3, by decide +kernel⟩, ⟨(meUp State.reset (3 : Fin 6).val meIdle).wr (wME (3 : Fin 6).val) DESC_STATE.STATE usSafe, 3, by decide +kernel⟩, ⟨(chUp State.reset (40 : Fin 72).val 0).wr (wCh (40 : Fin 72).val) DESC_STATE.STATE usSafe, 40, by decide +kernel⟩, ⟨(chUp State.reset (40 : Fin 72).val 0).wr (wCh (40 : Fin 72).val) DESC_STATE.STATE usSafe, 40, by decide +kernel⟩, ⟨(up State.reset wHost).setHost { State.reset.host with perst := true }, 2, by decide +kernel⟩, ⟨State.reset.setEvp ⟨[], []⟩, by decide +kernel⟩⟩

/-- Every clause of StampsComplete has a state and operands that meet its hypotheses. -/
theorem witness_StampsComplete :
    (∃ (s : State) (e : StampRec) (l : List StampRec), ReadOpen s .mp wStamp ∧ s.stampQ (s.rd wStamp STP_TXQ_SEL.PORT) = e :: l ∧ e.owner = 0 ∧ e.tag < 2 ^ 32 ∧ e.time < 2 ^ 80 ∧ s.specRead initMp wStamp false = false) ∧
    (∃ (s : State) (init : Initiator), ReadOpen s init wStamp) ∧
    (∃ (s : State) (init : Initiator) (e : StampRec) (l : List StampRec), ReadOpen s init wStamp ∧ s.stamps.miss = e :: l ∧ s.specRead init.code wStamp false = false ∧ e.time < 2 ^ 80 ∧ e.tag < 2 ^ 32) ∧
    (∃ (s : State) (p : Fin 16) (e : StampRec) (l : List StampRec), s.stampQ p = e :: l ∧ s.rd wStamp STP_AGE.AGE ≠ 0 ∧ s.missFull = false) ∧
    (∃ (s : State) (p : Fin 16) (e : StampRec) (l : List StampRec), s.stampQ p = e :: l ∧ s.rd wStamp STP_AGE.AGE ≠ 0 ∧ s.missFull = true) ∧
    (∃ (s : State) (p : Fin 16) (c : Fin 8) (h : Copy) (l : List Copy) (owner : Nat) (tag : Nat), (s.stamps.waiting.find? (·.1 == qKey p c)).isSome = true ∧ s.queue p c = h :: l ∧ s.stampAsked p h = some (owner, tag) ∧ s.stampFull p = true ∧ s.missFull = false) ∧
    (∃ (s : State) (p : Fin 16) (c : Fin 8) (h : Copy) (l : List Copy) (owner : Nat) (tag : Nat), (s.stamps.waiting.find? (·.1 == qKey p c)).isSome = true ∧ s.queue p c = h :: l ∧ s.stampAsked p h = some (owner, tag) ∧ s.stampFull p = true ∧ s.missFull = true) ∧
    (∃ (s : State) (init : Initiator), ReadOpen s init wStamp ∧ s.stampQ (s.rd wStamp STP_TXQ_SEL.PORT) = []) ∧
    (∃ (s : State) (init : Initiator), ReadOpen s init wStamp ∧ s.stamps.miss = []) ∧
    (∃ (s : State) (p : Fin 16), s.stampQ p = [] ∨ s.rd wStamp STP_AGE.AGE = 0) ∧
    (∃ (s : State) (p : Fin 16) (c : Fin 8), (s.stamps.waiting.find? (·.1 == qKey p c)).isNone = true) := 
  ⟨⟨((up State.reset wStamp).wr wStamp STP_TXQ_SEL.PORT 3).setStampQ 3 ((⟨3, 0, 0, 7, 9⟩ : StampRec) :: ([] : List StampRec)), ⟨3, 0, 0, 7, 9⟩, [], by decide +kernel⟩, ⟨up State.reset wStamp, .mp, by decide +kernel⟩, ⟨(up State.reset wStamp).setStamps { State.reset.stamps with miss := (⟨3, 0, 0, 7, 9⟩ : StampRec) :: ([] : List StampRec) }, .mp, ⟨3, 0, 0, 7, 9⟩, [], by decide +kernel⟩, ⟨((up State.reset wStamp).wr wStamp STP_AGE.AGE 3).setStamps ⟨[((3 : Fin 16).val, (⟨3, 0, 0, 7, 9⟩ : StampRec) :: ([] : List StampRec))], [], []⟩, 3, ⟨3, 0, 0, 7, 9⟩, [], by decide +kernel⟩, ⟨((up State.reset wStamp).wr wStamp STP_AGE.AGE 3).setStamps ⟨[((3 : Fin 16).val, (⟨3, 0, 0, 7, 9⟩ : StampRec) :: ([] : List StampRec))], List.replicate 256 (⟨3, 0, 0, 7, 9⟩ : StampRec), []⟩, 3, ⟨3, 0, 0, 7, 9⟩, [], by decide +kernel⟩, ⟨((up State.reset wStamp).setQueue (3 : Fin 16).val (2 : Fin 8).val (({ aCopy with stamp := some ⟨1, 5, true⟩ } : Copy) :: ([] : List Copy))).setStamps ⟨[((3 : Fin 16).val, List.replicate 32 ⟨3, 0, 0, 7, 9⟩)], [], [(qKey (3 : Fin 16).val (2 : Fin 8).val, 0)]⟩, 3, 2, { aCopy with stamp := some ⟨1, 5, true⟩ }, [], 1, 5, by decide +kernel⟩, ⟨((up State.reset wStamp).setQueue (3 : Fin 16).val (2 : Fin 8).val (({ aCopy with stamp := some ⟨1, 5, true⟩ } : Copy) :: ([] : List Copy))).setStamps ⟨[((3 : Fin 16).val, List.replicate 32 ⟨3, 0, 0, 7, 9⟩)], List.replicate 256 ⟨3, 0, 0, 7, 9⟩, [(qKey (3 : Fin 16).val (2 : Fin 8).val, 0)]⟩, 3, 2, { aCopy with stamp := some ⟨1, 5, true⟩ }, [], 1, 5, by decide +kernel⟩, ⟨((up State.reset wStamp).wr wStamp STP_TXQ_SEL.PORT 3).setStampQ 3 [], .mp, by decide +kernel⟩, ⟨(up State.reset wStamp).setStamps { State.reset.stamps with miss := [] }, .mp, by decide +kernel⟩, ⟨State.reset.setStamps ⟨[], [], []⟩, 3, by decide +kernel⟩, ⟨State.reset.setStamps ⟨[], [], []⟩, 3, 2, by decide +kernel⟩⟩

/-- Every clause of ChannelsComplete has a state and operands that meet its hypotheses. -/
theorem witness_ChannelsComplete :
    (∃ (s : State) (init : Initiator) (n : Fin 72), WriteOpen s init (wCh n) 0x142 ∧ isHalf n = false ∧ ChIdle s n ∧ s.lockHeld n = false) ∧
    (∃ (s : State) (init : Initiator) (n : Fin 72), WriteOpen s init (wCh n) 0x142 ∧ isHalf n = true) ∧
    (∃ (s : State) (n : Fin 72), s.prot n = protOn ∧ s.lockReady n = true ∧ s.chWanted n = true ∧ s.rd (wCh n) CH_PERIOD.PERIOD ≠ 0) ∧
    (∃ (s : State) (n : Fin 72), isHalf n = false ∧ s.prot n = protOn ∧ s.lockReady n = true ∧ s.ctrl n = ctrlNormal ∧ s.rd (wCh n) CH_PERIOD.PERIOD = 0) ∧
    (∃ (s : State) (n : Fin 72), s.prot n ≠ protOn ∨ s.lockReady n = false) ∧
    (∃ (s : State) (n : Fin 72), s.prot n = protOn ∧ 4 * 65536 ≤ s.onTime n ∧ s.rd (wCh n) CH_OLON.OLON = 0) ∧
    (∃ (s : State) (n : Fin 72), s.prot n = protOn ∧ s.rd (wCh n) CH_RETRY_CNT.COUNT < s.rd (wCh n) CH_RETRY.LIMIT) ∧
    (∃ (s : State) (n : Fin 72), s.prot n = protOn ∧ s.rd (wCh n) CH_RETRY.LIMIT ≤ s.rd (wCh n) CH_RETRY_CNT.COUNT) ∧
    (∃ (s : State) (n : Fin 72) (ma : Fin 65536), s.prot n = protOn ∧ s.rd (wCh n) CH_OC_THR.OC_THR ≠ 0 ∧ s.ocThreshold n < ma.val ∧ s.rd (wCh n) CH_RETRY_CNT.COUNT < s.rd (wCh n) CH_RETRY.LIMIT) ∧
    (∃ (s : State) (n : Fin 72), s.prot n = protOn ∨ s.prot n = protRetry) ∧
    (∃ (s : State) (n : Fin 72), s.prot n = protTherm ∧ s.chWanted n = true ∧ s.rd (wCh n) CH_RETRY_CNT.COUNT < s.rd (wCh n) CH_RETRY.LIMIT) ∧
    (∃ (s : State) (n : Fin 72), s.prot n = protRetry ∧ s.chWanted n = true) ∧
    (∃ (s : State) (n : Fin 72), s.prot n = protOn) ∧
    (∃ (s : State) (init : Initiator) (n : Fin 72), CmdOpen s init (wCh n) CH_CMD.CLEAR ∧ s.prot n = protLatched) ∧
    (∃ (s : State) (init : Initiator) (n : Fin 72), CmdOpen s init (wCh n) CH_CMD.DIAG ∧ s.chTestable n = true) ∧
    (∃ (s : State) (n : Fin 72), s.chTestable n = true) ∧
    (∃ (s : State) (n : Fin 72), isHalf n = false ∧ (s.chan n).testing = true ∧ s.prot n = protOff) ∧
    (∃ (s : State) (n : Fin 72) (code : Fin 65536), s.prot n = protOn ∧ 4 * 65536 ≤ s.onTime n ∧ min 65535 (code.val * chLsb n) < s.rd (wCh n) CH_OLON.OLON ∧ (s.chan n).low = 7) ∧
    (∃ (s : State) (n : Fin 72), s.prot n ≠ protOn ∨ s.onTime n < 4 * 65536 ∧ s.fedBy 1 n = []) ∧
    (∃ (s : State) (n : Fin 72), isHalf n = false ∧ s.prot n ≠ protOn) ∧
    (∃ (s : State) (n : Fin 72) (ma : Fin 65536), s.rd (wCh n) CH_OC_THR.OC_THR = 0 ∨ ma.val ≤ s.ocThreshold n) ∧
    (∃ (s : State) (n : Fin 72), isHalf n = false ∧ s.prot n = protOff ∨ s.prot n = protLatched) ∧
    (∃ (s : State) (n : Fin 72), s.prot n = protTherm ∧ s.rd (wCh n) CH_RETRY.LIMIT ≤ s.rd (wCh n) CH_RETRY_CNT.COUNT) ∧
    (∃ (s : State) (n : Fin 72), s.prot n = protTherm ∧ s.chWanted n = false ∧ s.rd (wCh n) CH_RETRY_CNT.COUNT < s.rd (wCh n) CH_RETRY.LIMIT) ∧
    (∃ (s : State) (n : Fin 72), s.prot n = protRetry ∧ s.chWanted n = false) ∧
    (∃ (s : State) (n : Fin 72), s.prot n ≠ protRetry) ∧
    (∃ (s : State) (n : Fin 72), s.prot n ≠ protOn) ∧
    (∃ (s : State) (init : Initiator) (n : Fin 72), CmdOpen s init (wCh n) CH_CMD.CLEAR ∧ s.prot n ≠ protLatched) ∧
    (∃ (s : State) (n : Fin 72), s.chTestable n = false) ∧
    (∃ (s : State) (init : Initiator) (n : Fin 72), CmdOpen s init (wCh n) CH_CMD.DIAG ∧ s.chTestable n = false) ∧
    (∃ (s : State) (n : Fin 12), (s.chan (testUnit n)).testing = true ∧ s.prot (2 * (n / 2)) = protOff ∧ s.prot (2 * (n / 2) + 1) = protOff) ∧
    (∃ (s : State) (n : Fin 72), (s.chan (testUnit n)).testing = false) := 
  ⟨⟨chUp State.reset (40 : Fin 72) 0, .mp, 40, by decide +kernel⟩, ⟨chUp State.reset (5 : Fin 72) 0, .mp, 5, by decide +kernel⟩, ⟨(((chUp State.reset (40 : Fin 72) protOn).wr (wCh (40 : Fin 72)) CH_CTRL.ON 1).wr (wAx 0) AX0_LOCK_MAP.MAP 0).setChan (40 : Fin 72) { State.reset.chan (40 : Fin 72) with period := 5000 }, 40, by decide +kernel⟩, ⟨(((chUp State.reset (40 : Fin 72) protOn).wr (wCh (40 : Fin 72)) CH_PERIOD.PERIOD 0).wr (wAx 0) AX0_LOCK_MAP.MAP 0), 40, by decide +kernel⟩, ⟨chUp State.reset (40 : Fin 72) protOff, 40, by decide +kernel⟩, ⟨(chUp State.reset (40 : Fin 72) protOn).setChan (40 : Fin 72) { State.reset.chan (40 : Fin 72) with duty := 65535, period := 5000 }, 40, by decide +kernel⟩, ⟨(chUp State.reset (40 : Fin 72) protOn).wr (wCh (40 : Fin 72)) CH_RETRY.LIMIT 5, 40, by decide +kernel⟩, ⟨(chUp State.reset (40 : Fin 72) protOn).wr (wCh (40 : Fin 72)) CH_RETRY.LIMIT 0, 40, by decide +kernel⟩, ⟨((chUp State.reset (40 : Fin 72) protOn).wr (wCh (40 : Fin 72)) CH_RETRY.LIMIT 5).wr (wCh (40 : Fin 72)) CH_OC_THR.OC_THR 9, 40, 65535, by decide +kernel⟩, ⟨chUp State.reset (40 : Fin 72) protOn, 40, by decide +kernel⟩, ⟨((chUp State.reset (40 : Fin 72) protTherm).wr (wCh (40 : Fin 72)) CH_RETRY.LIMIT 5).wr (wCh (40 : Fin 72)) CH_CTRL.ON 1, 40, by decide +kernel⟩, ⟨(chUp State.reset (40 : Fin 72) protRetry).wr (wCh (40 : Fin 72)) CH_CTRL.ON 1, 40, by decide +kernel⟩, ⟨chUp State.reset (40 : Fin 72) protOn, 40, by decide +kernel⟩, ⟨(chUp State.reset (40 : Fin 72) protLatched).wr (wCh (40 : Fin 72)) CH_CMD.CLEAR 0, .mp, 40, by decide +kernel⟩, ⟨((chUp State.reset (40 : Fin 72) protOff).wr (wCh (40 : Fin 72)) CH_CMD.DIAG 0).wr (wCh (40 : Fin 72)) CH_CFG.OLOFF_EN 1, .mp, 40, by decide +kernel⟩, ⟨(chUp State.reset (40 : Fin 72) protOff).wr (wCh (40 : Fin 72)) CH_CFG.OLOFF_EN 1, 40, by decide +kernel⟩, ⟨(chUp State.reset (40 : Fin 72) protOff).setChan (40 : Fin 72) { State.reset.chan (40 : Fin 72) with testing := true }, 40, by decide +kernel⟩, ⟨((chUp State.reset (40 : Fin 72) protOn).wr (wCh (40 : Fin 72)) CH_OLON.OLON 900).setChan (40 : Fin 72) { State.reset.chan (40 : Fin 72) with duty := 65535, period := 5000, low := 7 }, 40, 3, by decide +kernel⟩, ⟨[0, 1].foldl (fun s g => s.setEnt g wSignal SIG_ENTRY.SRC 77 3) (sigUp (chUp State.reset (40 : Fin 72) protOff) 77), 40, by decide +kernel⟩, ⟨chUp State.reset (40 : Fin 72) protOff, 40, by decide +kernel⟩, ⟨(chUp State.reset (40 : Fin 72) protOn).wr (wCh (40 : Fin 72)) CH_OC_THR.OC_THR 0, 40, 65535, by decide +kernel⟩, ⟨chUp State.reset (40 : Fin 72) protOff, 40, by decide +kernel⟩, ⟨(chUp State.reset (40 : Fin 72) protTherm).wr (wCh (40 : Fin 72)) CH_RETRY.LIMIT 0, 40, by decide +kernel⟩, ⟨((chUp State.reset (40 : Fin 72) protTherm).wr (wCh (40 : Fin 72)) CH_RETRY.LIMIT 5).wr (wCh (40 : Fin 72)) CH_CTRL.ON 0, 40, by decide +kernel⟩, ⟨(chUp State.reset (40 : Fin 72) protRetry).wr (wCh (40 : Fin 72)) CH_CTRL.ON 0, 40, by decide +kernel⟩, ⟨chUp State.reset (40 : Fin 72) protOn, 40, by decide +kernel⟩, ⟨chUp State.reset (40 : Fin 72) protOff, 40, by decide +kernel⟩, ⟨(chUp State.reset (40 : Fin 72) protOn).wr (wCh (40 : Fin 72)) CH_CMD.CLEAR 0, .mp, 40, by decide +kernel⟩, ⟨(chUp State.reset (40 : Fin 72) protOff).wr (wCh (40 : Fin 72)) CH_CFG.OLOFF_EN 0, 40, by decide +kernel⟩, ⟨((chUp State.reset (40 : Fin 72) protOff).wr (wCh (40 : Fin 72)) CH_CMD.DIAG 0).wr (wCh (40 : Fin 72)) CH_CFG.OLOFF_EN 0, .mp, 40, by decide +kernel⟩, ⟨(chUp (chUp State.reset 4 protOff) 5 protOff).setChan 4 { State.reset.chan 4 with testing := true }, 5, by decide +kernel⟩, ⟨(chUp State.reset (40 : Fin 72) protOff).setChan (testUnit (40 : Fin 72)) { State.reset.chan (testUnit (40 : Fin 72)) with testing := false }, 40, by decide +kernel⟩⟩

/-- Every clause of BridgesAndThermalComplete has a state and operands that meet its hypotheses. -/
theorem witness_BridgesAndThermalComplete :
    (∃ (s : State) (init : Initiator) (k : Fin 6), WriteOpen s init (wHB k) 0x140 ∧ s.on (wHB k) HB_CTRL.ME_OWN = false) ∧
    (∃ (s : State) (k : Fin 6), look s.body.hbDead k false = true) ∧
    (∃ (s : State) (k : Fin 6) (n : Fin 72), s.on (wPS k) PS_STATE.DER = true ∧ (s.derateSet k).contains n.val = true) ∧
    (∃ (s : State) (k : Fin 6) (n : Fin 72), (s.die k).temp < ((s.rd wTherm THERM_CFG.TJ_DER : Int) - (max 1 (s.rd wTherm THERM_CFG.HYST) : Nat)) * 1000000 ∧ s.dieLoss k (s.restoreSet k).contains ≤ s.allot k * 1000000000 ∧ (s.restoreSet k).contains n.val = true) ∧
    (∃ (s : State), CmdOpen s .mp wChannels CHG_CTRL.RESUME) ∧
    (∃ (s : State) (init : Initiator), CmdOpen s init wChannels CHG_CTRL.RESUME ∧ init ≠ .mp) ∧
    (∃ (s : State), s.body.holdRun = true) ∧
    (∃ (s : State) (init : Initiator) (k : Fin 6), WriteOpen s init (wHB k) 0x140 ∧ s.on (wHB k) HB_CTRL.ME_OWN = false) ∧
    (∃ (s : State) (init : Initiator) (k : Fin 6) (m : Fin 8), WriteOpen s init (wHB k) 0x140 ∧ s.on (wHB k) HB_CTRL.ME_OWN = true ∧ m.val ≠ s.rd (wHB k) HB_CTRL.MODE) ∧
    (∃ (s : State) (k : Fin 6), look s.body.hbDead k false = false) ∧
    (∃ (s : State) (k : Fin 6), s.on (wPS k) PS_STATE.DER = false) ∧
    (∃ (s : State) (k : Fin 6), ((s.rd wTherm THERM_CFG.TJ_DER : Int) - (max 1 (s.rd wTherm THERM_CFG.HYST) : Nat)) * 1000000 ≤ (s.die k).temp) ∧
    (∃ (s : State), s.body.holdRun = false) := 
  ⟨⟨(up (chUp (chUp State.reset (2 * (3 : Fin 6)) 0) (2 * (3 : Fin 6) + 1) 0) (wHB (3 : Fin 6))).wr (wHB (3 : Fin 6)) HB_CTRL.ME_OWN 0, .mp, 3, by decide +kernel⟩, ⟨(up (chUp (chUp State.reset (2 * (3 : Fin 6)) 1) (2 * (3 : Fin 6) + 1) 1) (wHB (3 : Fin 6))).setBody { State.reset.body with hbDead := [((3 : Fin 6).val, true)] }, 3, by decide +kernel⟩, ⟨((chUp State.reset (71 : Fin 72) protOn).wr (wPS (5 : Fin 6)) PS_STATE.DER 1).wr (wCh (71 : Fin 72)) CH_DERATE.DER 8, 5, 71, by decide +kernel⟩, ⟨((((chUp State.reset (71 : Fin 72) protOff).wr (wCh (71 : Fin 72)) CH_DERATE.DER 4).setBody { State.reset.body with die := [] }).wr wTherm THERM_CFG.TJ_DER 150).wr (wPS (5 : Fin 6)) PS_ALLOT.ALLOT 60000, 5, 71, by decide +kernel⟩, ⟨(up State.reset wChannels).wr wChannels CHG_CTRL.RESUME 0, by decide +kernel⟩, ⟨(up State.reset wChannels).wr wChannels CHG_CTRL.RESUME 0, .pcie, by decide +kernel⟩, ⟨State.reset.setBody { State.reset.body with holdRun := true }, by decide +kernel⟩, ⟨(up (chUp (chUp State.reset (2 * (3 : Fin 6)) 0) (2 * (3 : Fin 6) + 1) 0) (wHB (3 : Fin 6))).wr (wHB (3 : Fin 6)) HB_CTRL.ME_OWN 0, .mp, 3, by decide +kernel⟩, ⟨((up (chUp (chUp State.reset (2 * (3 : Fin 6)) 0) (2 * (3 : Fin 6) + 1) 0) (wHB (3 : Fin 6))).wr (wHB (3 : Fin 6)) HB_CTRL.ME_OWN 1).wr (wHB (3 : Fin 6)) HB_CTRL.MODE 2, .mp, 3, 1, by decide +kernel⟩, ⟨State.reset.setBody { State.reset.body with hbDead := [] }, 3, by decide +kernel⟩, ⟨State.reset.wr (wPS (5 : Fin 6)) PS_STATE.DER 0, 5, by decide +kernel⟩, ⟨State.reset.setDie (5 : Fin 6) { State.reset.die (5 : Fin 6) with temp := 900000000 }, 5, by decide +kernel⟩, ⟨State.reset.setBody { State.reset.body with holdRun := false }, by decide +kernel⟩⟩

/-- Every clause of MotionEnginesComplete has a state and operands that meet its hypotheses. -/
theorem witness_MotionEnginesComplete :
    (∃ (s : State) (init : Initiator) (k : Fin 6), WriteOpen s init (wME k) 0x140 ∧ s.isSafe (wME k) = false ∧ s.meState k = meOff ∧ s.on (wME k) ME_CFG.EN = false ∧ s.meBadInputs k = false) ∧
    (∃ (s : State) (init : Initiator) (k : Fin 6), WriteOpen s init (wME k) 0x180 ∧ s.isSafe (wME k) = false ∧ s.meState k = meIdle ∧ s.meMayDrive k = true) ∧
    (∃ (s : State) (init : Initiator) (k : Fin 6) (x : BitVec 32), WriteOpen s init (wME k) 0x187 ∧ s.isSafe (wME k) = false ∧ s.meState k = meIdle ∧ s.meMayDrive k = true ∧ s.rd (wME k) ME_TOL.TOL < (x.toInt - s.mePos k).natAbs ∧ s.rd (wME k) ME_BRK.BRK_DIST < (x.toInt - s.mePos k).natAbs) ∧
    (∃ (s : State) (init : Initiator) (k : Fin 6), CmdOpen s init (wME k) ME_CTRL.SETPOS ∧ s.meState k = meIdle) ∧
    (∃ (s : State) (k : Fin 6), s.meState k = meDrive ∧ (s.me k).ramped = false) ∧
    (∃ (s : State) (k : Fin 6) (us : Fin 65536) (volt : BitVec 16) (i : BitVec 32), s.rd (wME k) ME_CFG.TRACK = 0 ∧ s.meState k = meDrive ∧ (s.me k).cmd = some (.run 2) ∧ 1000000 * emfUnit ≤ 2 * us.val * s.meEmf k volt.toNat i.toInt ∧ -2147483648 < s.mePos k ∧ s.mePos k < 2147483647) ∧
    (∃ (s : State) (k : Fin 6) (us : Fin 65536) (volt : BitVec 16) (i : BitVec 32), s.rd (wME k) ME_CFG.TRACK = 0 ∧ s.meState k = meDrive ∧ 2 * us.val * s.meEmf k volt.toNat i.toInt < 1000000 * emfUnit) ∧
    (∃ (s : State) (k : Fin 6) (volt : BitVec 16) (i : BitVec 32), s.rd (wME k) ME_CFG.TRACK = 0 ∧ s.meState k = meDrive ∧ (s.me k).cmd = some (.run 2) ∧ 50 * emfUnit ≤ s.meEmf k volt.toNat i.toInt ∧ -2147483648 < s.mePos k ∧ s.mePos k < 2147483647) ∧
    (∃ (s : State) (k : Fin 6) (us : Fin 65536), s.rd (wME k) ME_CFG.TRACK = 2 ∧ s.meState k = meIdle ∧ -2147483648 < s.mePos k ∧ s.mePos k < 2147483647 ∧ 40 ≤ us.val ∧ s.meBadInputs k = false) ∧
    (∃ (s : State) (k : Fin 6), s.rd (wME k) ME_STALL_MS.STALL_MS ≠ 0 ∧ s.meState k = meDrive ∧ 2 * s.rd (wME k) ME_BLANK.BLANK ≤ (s.me k).ms ∧ s.on (wME k) ME_CFG.REF_EN = false) ∧
    (∃ (s : State) (k : Fin 6), s.meState k ≠ meDrive) ∧
    (∃ (s : State) (k : Fin 6) (ma : Fin 65536), s.meState k = meDrive ∧ s.meEstimates k = true ∧ max 1 (s.rd (wME k) ME_PINCH_LIM.F_LIM) * 1000 * max 1 (s.rd (wME k) ME_PINCH_WIN.BASE_WIN) < forceScaled (s.rd (wME k) ME_PINCH_K.KI) (s.rd (wME k) ME_PINCH_K.KS) (max 1 (s.rd (wME k) ME_PINCH_WIN.BASE_WIN)) ma.val (toSigned (s.rd (wME k) ME_SPEED.SPEED) 16).natAbs (s.me k).samples ∧ s.meInZone k = true ∧ s.rd (wME k) ME_REV.REV_BRK ≠ 0) ∧
    (∃ (s : State) (k : Fin 6), s.meState k = meReverse ∧ (s.me k).revBrake = true ∧ s.rd (wME k) ME_REV_DIST.REV_DIST ≠ 0) ∧
    (∃ (s : State) (k : Fin 6), s.meState k = meDrive ∧ s.rd (wME k) ME_PARK_TO.PARK_TO ≠ 0 ∧ (s.me k).cmd = some .park) ∧
    (∃ (s : State) (k : Fin 6), s.meState k = meBrake ∧ (s.me k).cmd = some .park ∧ (s.me k).pend = none ∧ (s.me k).result = resDone) ∧
    (∃ (s : State) (init : Initiator) (k : Fin 6), WriteOpen s init (wME k) 0x140 ∧ s.isSafe (wME k) = false ∧ s.meState k = meIdle ∧ s.on (wME k) ME_CFG.EN = true) ∧
    (∃ (s : State) (init : Initiator) (k : Fin 6), WriteOpen s init (wME k) 0x140 ∧ s.meState k = meDrive ∧ s.on (wME k) ME_CFG.EN = true) ∧
    (∃ (s : State) (init : Initiator) (k : Fin 6), WriteOpen s init (wME k) 0x180 ∧ s.isSafe (wME k) = false ∧ s.meState k = meDrive) ∧
    (∃ (s : State) (init : Initiator) (k : Fin 6), WriteOpen s init (wME k) 0x180) ∧
    (∃ (s : State) (init : Initiator) (k : Fin 6) (x : BitVec 32), WriteOpen s init (wME k) 0x187 ∧ s.isSafe (wME k) = false ∧ s.meState k = meIdle ∧ (x.toInt - s.mePos k).natAbs ≤ s.rd (wME k) ME_TOL.TOL) ∧
    (∃ (s : State) (init : Initiator) (k : Fin 6), CmdOpen s init (wME k) ME_CTRL.SETPOS ∧ s.meState k ≠ meIdle) ∧
    (∃ (s : State) (k : Fin 6), s.meState k = meDrive ∧ (s.me k).ramped = true) ∧
    (∃ (s : State) (k : Fin 6), s.meState k = meOff ∨ s.meState k = meIdle ∨ s.meState k = meBrake) ∧
    (∃ (s : State) (k : Fin 6) (x : Bool), s.fedBy 4 k = [] ∧ s.fedBy 5 k = [] ∧ s.meRipples k = false ∨ x = false) ∧
    (∃ (s : State) (k : Fin 6) (volt : BitVec 16) (i : BitVec 32), s.fedBy 4 k = [] ∧ s.fedBy 5 k = [] ∧ s.meRipples k = false ∨ s.meEmf k volt.toNat i.toInt < 50 * emfUnit) ∧
    (∃ (s : State) (k : Fin 6), s.fedBy 4 k = [] ∧ s.fedBy 5 k = [] ∧ s.meState k = meOff ∨ s.rd (wME k) ME_CFG.TRACK = 0 ∨ s.meBadInputs k = true) ∧
    (∃ (s : State) (k : Fin 6), s.rd (wME k) ME_STALL_MS.STALL_MS = 0 ∨ (s.meState k ≠ meDrive ∧ s.meState k ≠ meReverse)) ∧
    (∃ (s : State) (k : Fin 6), s.meState k = meDrive ∧ s.meEstimates k = false) ∧
    (∃ (s : State) (k : Fin 6), s.meState k ≠ meReverse ∨ (s.me k).revBrake = false) ∧
    (∃ (s : State) (k : Fin 6), s.meState k ≠ meDrive ∨ s.rd (wME k) ME_PARK_TO.PARK_TO = 0) ∧
    (∃ (s : State) (k : Fin 6), s.meState k = meIdle ∨ s.meState k = meOff) ∧
    (∃ (s : State) (k : Fin 6), s.meState k = meDrive ∨ s.meState k = meReverse) := 
  ⟨⟨(meUp State.reset (3 : Fin 6) meOff).wr (wME (3 : Fin 6)) ME_CFG.EN 0, .mp, 3, by decide +kernel⟩, ⟨meUp State.reset (3 : Fin 6) meIdle, .mp, 3, by decide +kernel⟩, ⟨((meUp State.reset (3 : Fin 6) meIdle).wr (wME (3 : Fin 6)) ME_TOL.TOL 5).wr (wME (3 : Fin 6)) ME_BRK.BRK_DIST 9, .mp, 3, 0x00010000, by decide +kernel⟩, ⟨(meUp State.reset (3 : Fin 6) meIdle).wr (wME (3 : Fin 6)) ME_CTRL.SETPOS 0, .mp, 3, by decide +kernel⟩, ⟨meUp State.reset (3 : Fin 6) meDrive, 3, by decide +kernel⟩, ⟨(((((meUp State.reset (3 : Fin 6) meDrive).wr (wME (3 : Fin 6)) ME_CFG.TRACK 0).wr (wME (3 : Fin 6)) ME_MOTOR.KV 65535).wr (wCh ((meUp State.reset (3 : Fin 6) meDrive).meHalf (3 : Fin 6))) CH_DUTY.DUTY 65535).wr (wCh ((meUp State.reset (3 : Fin 6) meDrive).meHalf (3 : Fin 6))) CH_DERATE.DER 8).mapMe (3 : Fin 6) fun m => { m with cmd := some (.run 2), revBrake := false }, 3, 60000, 12000, 0, by decide +kernel⟩, ⟨(meUp State.reset (3 : Fin 6) meDrive).wr (wME (3 : Fin 6)) ME_CFG.TRACK 0, 3, 0, 12000, 0, by decide +kernel⟩, ⟨(((((meUp State.reset (3 : Fin 6) meDrive).wr (wME (3 : Fin 6)) ME_CFG.TRACK 0).wr (wME (3 : Fin 6)) ME_MOTOR.KV 65535).wr (wCh ((meUp State.reset (3 : Fin 6) meDrive).meHalf (3 : Fin 6))) CH_DUTY.DUTY 65535).wr (wCh ((meUp State.reset (3 : Fin 6) meDrive).meHalf (3 : Fin 6))) CH_DERATE.DER 8).mapMe (3 : Fin 6) fun m => { m with cmd := some (.run 2), revBrake := false }, 3, 12000, 0, by decide +kernel⟩, ⟨((((meUp State.reset (3 : Fin 6) meIdle).wr (wME (3 : Fin 6)) ME_CFG.TRACK 2).wr (wME (3 : Fin 6)) ME_INPUTS.HALL_A 8).wr (wME (3 : Fin 6)) ME_INPUTS.HALL_B 9 |>.wr (wSW 8) SW_CFG.MODE 2).wr (wSW 9) SW_CFG.MODE 2, 3, 500, by decide +kernel⟩, ⟨((meUp State.reset (3 : Fin 6) meDrive).wr (wME (3 : Fin 6)) ME_STALL_MS.STALL_MS 9).mapMe (3 : Fin 6) fun m => { m with ms := 1000 }, 3, by decide +kernel⟩, ⟨meUp State.reset (3 : Fin 6) meIdle, 3, by decide +kernel⟩, ⟨pinchUp State.reset (3 : Fin 6), 3, 5000, by decide +kernel⟩, ⟨((meUp State.reset (3 : Fin 6) meReverse).wr (wME (3 : Fin 6)) ME_REV_DIST.REV_DIST 9).mapMe (3 : Fin 6) fun m => { m with revBrake := true }, 3, by decide +kernel⟩, ⟨((meUp State.reset (3 : Fin 6) meDrive).wr (wME (3 : Fin 6)) ME_PARK_TO.PARK_TO 9).mapMe (3 : Fin 6) fun m => { m with cmd := some .park }, 3, by decide +kernel⟩, ⟨(meUp State.reset (3 : Fin 6) meBrake).mapMe (3 : Fin 6) fun m => { m with cmd := some .park, pend := none, result := resDone }, 3, by decide +kernel⟩, ⟨(meUp State.reset (3 : Fin 6) meIdle).wr (wME (3 : Fin 6)) ME_CFG.EN 1, .mp, 3, by decide +kernel⟩, ⟨(meUp State.reset (3 : Fin 6) meDrive).wr (wME (3 : Fin 6)) ME_CFG.EN 1, .mp, 3, by decide +kernel⟩, ⟨meUp State.reset (3 : Fin 6) meDrive, .mp, 3, by decide +kernel⟩, ⟨meUp State.reset (3 : Fin 6) meIdle, .mp, 3, by decide +kernel⟩, ⟨((meUp State.reset (3 : Fin 6) meIdle).wr (wME (3 : Fin 6)) ME_TOL.TOL 5).setPos (3 : Fin 6) 300, .mp, 3, 303, by decide +kernel⟩, ⟨(meUp State.reset (3 : Fin 6) meDrive).wr (wME (3 : Fin 6)) ME_CTRL.SETPOS 0, .mp, 3, by decide +kernel⟩, ⟨(meUp State.reset (3 : Fin 6) meDrive).mapMe (3 : Fin 6) fun m => { m with ramped := true }, 3, by decide +kernel⟩, ⟨meUp State.reset (3 : Fin 6) meIdle, 3, by decide +kernel⟩, ⟨[0, 1].foldl (fun s g => s.setEnt g wSignal SIG_ENTRY.SRC 77 1) (sigUp (meUp State.reset (3 : Fin 6) meIdle) 77), 3, true, by decide +kernel⟩, ⟨[0, 1].foldl (fun s g => s.setEnt g wSignal SIG_ENTRY.SRC 77 1) (sigUp (meUp State.reset (3 : Fin 6) meIdle) 77), 3, 12000, 0, by decide +kernel⟩, ⟨[0, 1].foldl (fun s g => s.setEnt g wSignal SIG_ENTRY.SRC 77 1) (sigUp (meUp State.reset (3 : Fin 6) meOff) 77), 3, by decide +kernel⟩, ⟨meUp State.reset (3 : Fin 6) meIdle, 3, by decide +kernel⟩, ⟨(pinchUp State.reset (3 : Fin 6)).wr (wME (3 : Fin 6)) ME_CFG.PINCH_EN 0, 3, by decide +kernel⟩, ⟨meUp State.reset (3 : Fin 6) meIdle, 3, by decide +kernel⟩, ⟨meUp State.reset (3 : Fin 6) meIdle, 3, by decide +kernel⟩, ⟨meUp State.reset (3 : Fin 6) meIdle, 3, by decide +kernel⟩, ⟨meUp State.reset (3 : Fin 6) meDrive, 3, by decide +kernel⟩⟩

/-- Every clause of InputsComplete has a state and operands that meet its hypotheses. -/
theorem witness_InputsComplete :
    (∃ (s : State) (n : Fin 64) (high : Bool), s.inputsRun = true ∧ s.unitState (wSW n) ≠ usOff ∧ s.rd (wSW n) SW_CFG.MODE = 1 ∧ s.swActive n high ≠ s.on (wSW n) SW_STATE.STATE ∧ s.rd (wSW n) SW_DEB.DEB ≤ (s.sw n).run + 1) ∧
    (∃ (s : State) (n : Fin 64) (high : Bool), s.inputsRun = true ∧ s.unitState (wSW n) ≠ usOff ∧ s.rd (wSW n) SW_CFG.MODE = 1 ∧ s.swActive n high ≠ s.on (wSW n) SW_STATE.STATE ∧ (s.sw n).run + 1 < s.rd (wSW n) SW_DEB.DEB) ∧
    (∃ (s : State) (n : Fin 64) (high : Bool), s.inputsRun = true ∧ s.unitState (wSW n) ≠ usOff ∧ s.rd (wSW n) SW_CFG.MODE = 2 ∧ s.swActive n high ≠ s.on (wSW n) SW_STATE.STATE) ∧
    (∃ (s : State) (n : Fin 64) (levels : BitVec 64), s.pwr.state = .park ∧ s.swArmed n = true ∧ s.swActive n (bit levels.toNat n) = (s.sw n).ref) ∧
    (∃ (s : State) (n : Fin 64) (levels : BitVec 64), s.pwr.state = .park ∧ s.body.sw = [(n.val, s.sw n)] ∧ s.swArmed n = true ∧ s.swActive n (bit levels.toNat n) ≠ (s.sw n).ref ∧ s.rd wInputs INP_PARK_DEB.PDEB ≤ (s.sw n).diff + 1) ∧
    (∃ (s : State) (n : Fin 16), s.inputsRun = true ∧ s.unitState (wAN n) ≠ usOff ∧ s.on (wAN n) AN_CFG.EN = true) ∧
    (∃ (s : State) (n : Fin 64), s.fedBy 2 n = [] ∧ s.inputsRun = false ∨ s.unitState (wSW n) = usOff ∨ s.rd (wSW n) SW_CFG.MODE ≠ 1) ∧
    (∃ (s : State) (n : Fin 64), s.fedBy 2 n = [] ∧ s.inputsRun = false ∨ s.unitState (wSW n) = usOff ∨ s.rd (wSW n) SW_CFG.MODE ≠ 2) ∧
    (∃ (s : State) (n : Fin 16), s.fedBy 3 n = [] ∧ s.inputsRun = false ∨ s.unitState (wAN n) = usOff ∨ s.on (wAN n) AN_CFG.EN = false) ∧
    (∃ (s : State) (n : Fin 16) (mv : BitVec 16), s.inputsRun = true ∧ s.unitState (wAN n) ≠ usOff ∧ s.on (wAN n) AN_CFG.EN = true ∧ s.rd (wAN n) AN_CFG.AVG = 0 ∧ s.anCode n mv.toNat < s.rd (wAN n) AN_LO.LO_THR ∧ s.rd (wAN n) AN_LO.LO_THR ≤ s.rd (wAN n) AN_VALUE.VALUE) ∧
    (∃ (s : State) (n : Fin 16) (mv : BitVec 16), s.inputsRun = true ∧ s.unitState (wAN n) ≠ usOff ∧ s.on (wAN n) AN_CFG.EN = true ∧ s.rd (wAN n) AN_CFG.AVG = 0 ∧ s.rd (wAN n) AN_HI.HI_THR < s.anCode n mv.toNat ∧ s.rd (wAN n) AN_VALUE.VALUE ≤ s.rd (wAN n) AN_HI.HI_THR) ∧
    (∃ (s : State), s.parked = false) := 
  ⟨⟨(((up State.reset (wSW (9 : Fin 64))).wr (wSW (9 : Fin 64)) SW_CFG.MODE 1).wr (wSW (9 : Fin 64)) SW_CFG.POL 1).setPwr { State.reset.pwr with state := .run } |>.setSw (9 : Fin 64) { run := 200, ref := false, diff := 0, armed := false }, 9, true, by decide +kernel⟩, ⟨((((up State.reset (wSW (9 : Fin 64))).wr (wSW (9 : Fin 64)) SW_CFG.MODE 1).wr (wSW (9 : Fin 64)) SW_CFG.POL 1).wr (wSW (9 : Fin 64)) SW_DEB.DEB 20).setPwr { State.reset.pwr with state := .run } |>.setSw (9 : Fin 64) { run := 2, ref := false, diff := 0, armed := false }, 9, true, by decide +kernel⟩, ⟨((up State.reset (wSW (9 : Fin 64))).wr (wSW (9 : Fin 64)) SW_CFG.MODE 2).wr (wSW (9 : Fin 64)) SW_CFG.POL 1 |>.setPwr { State.reset.pwr with state := .run }, 9, true, by decide +kernel⟩, ⟨((up State.reset (wSW (9 : Fin 64))).wr (wSW (9 : Fin 64)) SW_CFG.WAKE_EN 1).setPwr { State.reset.pwr with state := .park } |>.setSw (9 : Fin 64) { run := 0, ref := true, diff := 3, armed := true }, 9, 0, by decide +kernel⟩, ⟨((up State.reset (wSW (9 : Fin 64))).wr (wSW (9 : Fin 64)) SW_CFG.WAKE_EN 1).setPwr { State.reset.pwr with state := .park } |>.setBody { State.reset.body with sw := [((9 : Fin 64).val, { run := 0, ref := false, diff := 300, armed := true })] }, 9, 0, by decide +kernel⟩, ⟨((up State.reset (wAN (9 : Fin 16))).wr (wAN (9 : Fin 16)) AN_CFG.EN 1).setPwr { State.reset.pwr with state := .run }, 9, by decide +kernel⟩, ⟨[0, 1].foldl (fun s g => s.setEnt g wSignal SIG_ENTRY.SRC 77 1) (sigUp ((up State.reset (wSW (9 : Fin 64))).wr (wSW (9 : Fin 64)) SW_CFG.MODE 0) 77), 9, by decide +kernel⟩, ⟨[0, 1].foldl (fun s g => s.setEnt g wSignal SIG_ENTRY.SRC 77 1) (sigUp ((up State.reset (wSW (9 : Fin 64))).wr (wSW (9 : Fin 64)) SW_CFG.MODE 0) 77), 9, by decide +kernel⟩, ⟨[0, 1].foldl (fun s g => s.setEnt g wSignal SIG_ENTRY.SRC 77 1) (sigUp ((up State.reset (wAN (9 : Fin 16))).wr (wAN (9 : Fin 16)) AN_CFG.EN 0) 77), 9, by decide +kernel⟩, ⟨(((((up State.reset (wAN (9 : Fin 16))).wr (wAN (9 : Fin 16)) AN_CFG.EN 1).wr (wAN (9 : Fin 16)) AN_CFG.AVG 0).wr (wAN (9 : Fin 16)) AN_LO.LO_THR 900).wr (wAN (9 : Fin 16)) AN_VALUE.VALUE 2000).setPwr { State.reset.pwr with state := .run }, 9, 0, by decide +kernel⟩, ⟨(((((up State.reset (wAN (9 : Fin 16))).wr (wAN (9 : Fin 16)) AN_CFG.EN 1).wr (wAN (9 : Fin 16)) AN_CFG.AVG 0).wr (wAN (9 : Fin 16)) AN_HI.HI_THR 900).wr (wAN (9 : Fin 16)) AN_VALUE.VALUE 20).setPwr { State.reset.pwr with state := .run }, 9, 65000, by decide +kernel⟩, ⟨State.reset.setPwr { State.reset.pwr with state := .run }, by decide +kernel⟩⟩

/-- Every clause of WakeSourcesAndNetworksComplete has a state and operands that meet its hypotheses. -/
theorem witness_WakeSourcesAndNetworksComplete :
    (∃ (s : State) (n : Fin 44), s.detects n = true) ∧
    (∃ (s : State) (n : Fin 44), s.detects n = false) ∧
    (∃ (s : State) (p : Fin 16) (f : WufFrame), s.detects (netOfCan p) = true ∧ s.rd (wCanT p) CANT_ARM.ARM = 2 ∧ f.ok = true ∧ f.classical = true ∧ s.wufMatches p f = true) ∧
    (∃ (s : State) (p : Fin 16) (f : WufFrame), s.detects (netOfCan p) = true ∧ s.rd (wCanT p) CANT_ARM.ARM = 2 ∧ f.ok = true ∧ f.classical = true ∧ s.wufMatches p f = false) ∧
    (∃ (s : State) (p : Fin 16) (f : WufFrame), s.detects (netOfCan p) = true ∧ s.rd (wCanT p) CANT_ARM.ARM = 2 ∧ f.ok = false ∧ f.classical = true ∧ s.rd (wCanT p) CANT_FEC.FEC < 31 ∧ s.rd (wCanT p) CANT_FEC.FEC < s.rd (wCanT p) CANT_FEC_THR.FEC_THR) ∧
    (∃ (s : State), s.wioDriven = false ∧ s.wake.wioEnd = none ∧ s.pwr.state ≠ .backup ∧ s.pwr.state ≠ .off) ∧
    (∃ (s : State), s.wake.wioPulse = true ∧ s.wake.wioOut = true ∧ s.rd wWake WK_CFG.WIO_MODE = 1) ∧
    (∃ (s : State), s.wioDriven = s.wake.wioOut ∧ s.rd wWake WK_CFG.WIO_MODE ≠ 1) ∧
    (∃ (s : State), s.parked = true ∧ s.rd wWake WK_TIMER.TIMER ≠ 0) ∧
    (∃ (s : State) (init : Initiator), WriteOpen s init wWake 0x156) ∧
    (∃ (s : State) (n : Fin 44), isEthNet n = false ∧ s.wake.delay.contains n.val = true ∧ s.netState n = nsReady) ∧
    (∃ (s : State) (n : Fin 44), isEthNet n = true ∧ s.wake.delay.contains n.val = true ∧ s.netState n = nsReady ∧ s.ethState n = ethUp ∧ s.isSafe (wEth n) = false) ∧
    (∃ (s : State) (n : Fin 44), s.netState n = nsSwitch ∧ s.wake.late.contains n.val = false ∧ look s.lin.sleepDue (n - 32) false = false) ∧
    (∃ (s : State) (n : Fin 44), isCanNet n = true ∧ s.netState n = nsSwitch ∧ s.wake.late.contains n.val = true) ∧
    (∃ (s : State), s.wioDriven = true ∨ s.pwr.state = .backup ∨ s.pwr.state = .off) ∧
    (∃ (s : State), s.parked = false ∨ s.rd wWake WK_TIMER.TIMER = 0) ∧
    (∃ (s : State) (n : Fin 44), s.wake.delay.contains n.val = false ∨ s.netState n ≠ nsReady) ∧
    (∃ (s : State) (n : Fin 44), s.netState n ≠ nsSwitch ∨ (isLinNet n = true ∧ look s.lin.sleepDue (n - 32) false = true)) ∧
    (∃ (s : State) (p : Fin 16), s.detects (netOfCan p) = false ∨ s.rd (wCanT p) CANT_ARM.ARM ≠ 2) := 
  ⟨⟨((wkUp State.reset (20 : Fin 44) nsAsleep).wr (wCanT ((20 : Fin 44).val - 16)) CANT_MODE.MODE 2).wr (wCanT ((20 : Fin 44).val - 16)) CANT_ARM.ARM 1, 20, by decide +kernel⟩, ⟨wkUp State.reset (3 : Fin 44) nsAsleep, 3, by decide +kernel⟩, ⟨((((((wkUp State.reset (16 + (3 : Fin 16).val) nsAsleep).wr (wCanT (3 : Fin 16).val) CANT_MODE.MODE 2).wr (wCanT (3 : Fin 16).val) CANT_ARM.ARM 2).wr (wCanT (3 : Fin 16).val) CANT_ARM.DLC_EN 0).wr (wCanT (3 : Fin 16).val) CANT_WUF_MASK.MASK 0).wr (wCanT (3 : Fin 16).val) CANT_WUF_DATA.DATA 0).wr (wCanT (3 : Fin 16).val) CANT_WUF_ID.IDE 0, 3, ⟨true, true, false, 5, 2, 0⟩, by decide +kernel⟩, ⟨(((wkUp State.reset (16 + (3 : Fin 16).val) nsAsleep).wr (wCanT (3 : Fin 16).val) CANT_MODE.MODE 2).wr (wCanT (3 : Fin 16).val) CANT_ARM.ARM 2).wr (wCanT (3 : Fin 16).val) CANT_WUF_ID.IDE 1, 3, ⟨true, true, false, 5, 2, 0⟩, by decide +kernel⟩, ⟨((((wkUp State.reset (16 + (3 : Fin 16).val) nsAsleep).wr (wCanT (3 : Fin 16).val) CANT_MODE.MODE 2).wr (wCanT (3 : Fin 16).val) CANT_ARM.ARM 2).wr (wCanT (3 : Fin 16).val) CANT_FEC.FEC 1).wr (wCanT (3 : Fin 16).val) CANT_FEC_THR.FEC_THR 4, 3, ⟨false, true, false, 5, 2, 0⟩, by decide +kernel⟩, ⟨(wkUp State.reset 3 nsAwake).wr wWake WK_CFG.WIO_MODE 0, by decide +kernel⟩, ⟨((wkUp State.reset 3 nsAwake).wr wWake WK_CFG.WIO_MODE 1).setWake { State.reset.wake with wioPulse := true, wioOut := true }, by decide +kernel⟩, ⟨((wkUp State.reset 3 nsAwake).wr wWake WK_CFG.WIO_MODE 0).setWake { State.reset.wake with wioPulse := true, wioOut := false }, by decide +kernel⟩, ⟨((wkUp State.reset 3 nsAwake).wr wWake WK_TIMER.TIMER 9).setPwr { State.reset.pwr with state := .park }, by decide +kernel⟩, ⟨wkUp State.reset 3 nsAwake, .mp, by decide +kernel⟩, ⟨(wkUp State.reset (20 : Fin 44).val nsReady).setWake { State.reset.wake with delay := [(20 : Fin 44).val] }, 20, by decide +kernel⟩, ⟨((up (wkUp State.reset (3 : Fin 44).val nsReady) (wEth (3 : Fin 44).val)).wr (wEth (3 : Fin 44).val) ETH_STATE.STATE ethUp).setWake { State.reset.wake with delay := [(3 : Fin 44).val] }, 3, by decide +kernel⟩, ⟨(wkUp State.reset (20 : Fin 44).val nsSwitch).setLin { State.reset.lin with sleepDue := [] }, 20, by decide +kernel⟩, ⟨(wkUp State.reset (20 : Fin 44).val nsSwitch).setWake { State.reset.wake with late := [(20 : Fin 44).val] }, 20, by decide +kernel⟩, ⟨((wkUp State.reset 3 nsAwake).wr wWake WK_CFG.WIO_MODE 1).setWake { State.reset.wake with wioPulse := true }, by decide +kernel⟩, ⟨(wkUp State.reset 3 nsAwake).wr wWake WK_TIMER.TIMER 9, by decide +kernel⟩, ⟨wkUp State.reset (20 : Fin 44).val nsAwake, 20, by decide +kernel⟩, ⟨wkUp State.reset (20 : Fin 44).val nsAwake, 20, by decide +kernel⟩, ⟨(wkUp State.reset (16 + (3 : Fin 16).val) nsAwake).wr (wCanT (3 : Fin 16).val) CANT_ARM.ARM 1, 3, by decide +kernel⟩⟩

/-- Every clause of NetworkRingComplete has a state and operands that meet its hypotheses. -/
theorem witness_NetworkRingComplete :
    (∃ (s : State) (init : Initiator) (v : BitVec 64), WriteOpen s init wWake 0x60F ∧ bits v.toNat WK_NM_CFG.NM_EN.hi WK_NM_CFG.NM_EN.lo = 1 ∧ s.rd wWake WK_NM_SEL.PORT < 16 ∧ s.canTalks (s.rd wWake WK_NM_SEL.PORT) = true ∧ s.wake.ring.contains (s.rd wWake WK_NM_SEL.PORT) = false) ∧
    (∃ (s : State) (init : Initiator) (v : BitVec 64), WriteOpen s init wWake 0x60F ∧ bits v.toNat WK_NM_CFG.NM_EN.hi WK_NM_CFG.NM_EN.lo = 0 ∧ s.wake.ring.contains (s.rd wWake WK_NM_SEL.PORT) = true) ∧
    (∃ (s : State) (p : Fin 16), s.wake.ring.contains p.val = true ∧ s.hears p = true ∧ s.rd (wCanT p) CANT_MODE.MODE ≤ 1 ∧ s.tec p ≤ 255) ∧
    (∃ (s : State) (p : Fin 16), s.wake.ring.contains p.val = false ∨ s.hears p = false ∨ 1 < s.rd (wCanT p) CANT_MODE.MODE) ∧
    (∃ (s : State) (p : Fin 16), s.wake.tTyp.contains p.val = true ∧ s.canTalks p = true ∧ s.netState (netOfCan p) = nsAwake ∨ s.netState (netOfCan p) = nsReady ∧ s.wake.ackDue.contains p.val = false) ∧
    (∃ (s : State) (p : Fin 16), s.wake.tTyp.contains p.val = true ∧ s.canTalks p = true ∧ s.netState (netOfCan p) = nsReady ∧ s.wake.ackDue.contains p.val = true ∧ s.nm p WK_NM_CFG.T_WBS ≠ 0) ∧
    (∃ (s : State) (p : Fin 16), s.wake.ring.contains p.val = true ∧ s.netState (netOfCan p) = nsAwake ∨ s.netState (netOfCan p) = nsReady) ∧
    (∃ (s : State) (p : Fin 16), s.wake.ring.contains p.val = true ∧ s.netState (netOfCan p) = nsLimp ∧ s.canTalks p = true) ∧
    (∃ (s : State) (p : Fin 16), s.wake.ring.contains p.val = true ∧ s.netState (netOfCan p) = nsWait) ∧
    (∃ (s : State) (p : Fin 12), s.wake.linWake.contains p.val = true ∧ s.linState p = linSleep ∧ s.rd (wLin p) (LIN_TAB.LEN.elem (s.rd wWake (WK_NET.WTAB.elem (netOfLin p)))) ≠ 0) ∧
    (∃ (s : State) (p : Fin 16), s.wake.tTyp.contains p.val = false ∨ s.canTalks p = false) ∧
    (∃ (s : State) (p : Fin 16), s.wake.ring.contains p.val = false) ∧
    (∃ (s : State) (p : Fin 16), s.wake.ring.contains p.val = false ∨ s.netState (netOfCan p) ≠ nsLimp) ∧
    (∃ (s : State) (p : Fin 16), s.wake.ring.contains p.val = true ∧ s.netState (netOfCan p) = nsLimp ∧ s.wake.limpInd.contains p.val = true ∧ s.netWanted (netOfCan p) = false) ∧
    (∃ (s : State) (p : Fin 16), s.wake.ring.contains p.val = false ∨ s.netState (netOfCan p) = nsAwake ∨ s.netState (netOfCan p) = nsReady) ∧
    (∃ (s : State) (p : Fin 12), s.wake.linWake.contains p.val = false) := 
  ⟨⟨(ringUp State.reset 3 nsAwake).setWake { State.reset.wake with ring := [] }, .mp, BitVec.ofNat 64 (2 ^ 63), by decide +kernel⟩, ⟨ringUp State.reset 3 nsAwake, .mp, 0, by decide +kernel⟩, ⟨ringUp State.reset (3 : Fin 16).val nsAwake, 3, by decide +kernel⟩, ⟨wkUp State.reset (16 + (3 : Fin 16).val) nsAwake, 3, by decide +kernel⟩, ⟨ringUp State.reset (3 : Fin 16).val nsAwake, 3, by decide +kernel⟩, ⟨((ringUp State.reset (3 : Fin 16).val nsReady).wr wWake WK_NM_CFG.T_WBS 5 (3 : Fin 16).val).setWake { State.reset.wake with tTyp := [(3 : Fin 16).val], ackDue := [(3 : Fin 16).val], ring := [(3 : Fin 16).val] }, 3, by decide +kernel⟩, ⟨ringUp State.reset (3 : Fin 16).val nsAwake, 3, by decide +kernel⟩, ⟨ringUp State.reset (3 : Fin 16).val nsLimp, 3, by decide +kernel⟩, ⟨ringUp State.reset (3 : Fin 16).val nsWait, 3, by decide +kernel⟩, ⟨((linUp (wkUp State.reset (32 + (3 : Fin 12).val) nsAwake) (3 : Fin 12).val linSleep).wr (wLin (3 : Fin 12).val) (LIN_TAB.LEN.elem (State.reset.rd wWake (WK_NET.WTAB.elem (netOfLin (3 : Fin 12).val)))) 4).setWake { State.reset.wake with linWake := [(3 : Fin 12).val] }, 3, by decide +kernel⟩, ⟨(ringUp State.reset (3 : Fin 16).val nsAwake).setWake { State.reset.wake with tTyp := [] }, 3, by decide +kernel⟩, ⟨(ringUp State.reset (3 : Fin 16).val nsAwake).setWake { State.reset.wake with ring := [] }, 3, by decide +kernel⟩, ⟨ringUp State.reset (3 : Fin 16).val nsAwake, 3, by decide +kernel⟩, ⟨(((ringUp State.reset (3 : Fin 16).val nsLimp).wr wWake (WK_NET.MEMBER.elem (16 + (3 : Fin 16))) 1)).setWake { (ringUp State.reset (3 : Fin 16).val nsLimp).wake with limpInd := [(3 : Fin 16).val] }, 3, by decide +kernel⟩, ⟨ringUp State.reset (3 : Fin 16).val nsAwake, 3, by decide +kernel⟩, ⟨(wkUp State.reset (32 + (3 : Fin 12).val) nsAwake).setWake { State.reset.wake with linWake := [] }, 3, by decide +kernel⟩⟩

/-- Every clause of ParkEntryComplete has a state and operands that meet its hypotheses. -/
theorem witness_ParkEntryComplete :
    (∃ (s : State) (init : Initiator), CmdOpen s init wPwr PWR_CTRL.PARK ∧ s.pwr.tampered = false ∧ (s.parkAllowed && s.parkReady) = false) ∧
    (∃ (s : State) (init : Initiator), CmdOpen s init wPwr PWR_CTRL.PARK ∧ s.parkAllowed = true ∧ s.parkReady = true) ∧
    (∃ (s : State) (init : Initiator), CmdOpen s init wPwr PWR_CTRL.PARK ∧ s.pwr.tampered = true) ∧
    (∃ (s : State) (init : Initiator), CmdOpen s init wPwr PWR_CTRL.CANCEL ∧ s.pwr.entryStep = none ∨ s.on wPwr PWR_STATE.PEND = false) ∧
    (∃ (s : State), s.on wPwr PWR_CFG.PARK_AUTO = true ∧ s.parkAllowed = true ∧ s.parkReady = true) ∧
    (∃ (s : State), s.pwr.entryStep = some 0 ∧ s.enginesIdle = true ∧ s.on wPwr PWR_CFG.BIST_EN = false) ∧
    (∃ (s : State), s.pwr.entryStep = some 0 ∧ s.enginesIdle = true ∧ s.on wPwr PWR_CFG.BIST_EN = true) ∧
    (∃ (s : State), s.pwr.entryStep = some 0 ∧ s.enginesIdle = false) ∧
    (∃ (s : State), s.pwr.entryStep = some 5 ∨ s.pwr.entryStep = some 8) ∧
    (∃ (s : State), s.pwr.entryStep = some 5) ∧
    (∃ (s : State), s.pwr.entryStep = some 8 ∧ s.pwr.ixDone = true) ∧
    (∃ (s : State), s.pwr.state = .park ∧ s.pwr.aonDeepAfter ≠ 0) ∧
    (∃ (s : State) (init : Initiator) (k : Fin 4), CmdOpen s init wPwr PWR_CTRL.CANCEL ∧ s.pwr.entryStep = some k.val ∧ s.on wPwr PWR_STATE.PEND = true) ∧
    (∃ (s : State), s.on wPwr PWR_CFG.PARK_AUTO = false ∨ s.parkAllowed = false ∨ s.parkReady = false) ∧
    (∃ (s : State), s.pwr.entryStep ≠ some 0 ∨ s.enginesIdle = false) ∧
    (∃ (s : State), s.pwr.entryStep ≠ some 0 ∨ s.enginesIdle = true) ∧
    (∃ (s : State), s.pwr.entryStep = none) ∧
    (∃ (s : State), s.pwr.entryStep ≠ some 5) ∧
    (∃ (s : State), s.pwr.entryStep ≠ some 8 ∨ s.pwr.ixDone = false) ∧
    (∃ (s : State), s.pwr.state ≠ .park ∨ s.pwr.aonDeepAfter = 0) := 
  ⟨⟨(parkUp State.reset).setPwr { (parkUp State.reset).pwr with entryStep := some 5 }, .mp, by decide +kernel⟩, ⟨parkUp State.reset, .mp, by decide +kernel⟩, ⟨(parkUp State.reset).setPwr { (parkUp State.reset).pwr with tampered := true }, .mp, by decide +kernel⟩, ⟨(parkUp State.reset).wr wPwr PWR_CTRL.CANCEL 0, .mp, by decide +kernel⟩, ⟨(parkUp State.reset).wr wPwr PWR_CFG.PARK_AUTO 1, by decide +kernel⟩, ⟨((parkUp State.reset).wr wPwr PWR_CFG.BIST_EN 0).setPwr { (parkUp State.reset).pwr with entryStep := some 0 }, by decide +kernel⟩, ⟨((parkUp State.reset).wr wPwr PWR_CFG.BIST_EN 1).setPwr { (parkUp State.reset).pwr with entryStep := some 0 }, by decide +kernel⟩, ⟨((parkUp State.reset).wr (wME 2) ME_STATE.STATE meDrive).setPwr { (parkUp State.reset).pwr with entryStep := some 0 }, by decide +kernel⟩, ⟨State.reset.setPwr { State.reset.pwr with entryStep := some 5 }, by decide +kernel⟩, ⟨State.reset.setPwr { State.reset.pwr with entryStep := some 5 }, by decide +kernel⟩, ⟨State.reset.setPwr { State.reset.pwr with entryStep := some 8, ixDone := true }, by decide +kernel⟩, ⟨State.reset.setPwr { State.reset.pwr with state := .park, aonDeepAfter := 9 }, by decide +kernel⟩, ⟨(((parkUp State.reset).wr wPwr PWR_CTRL.CANCEL 0).wr wPwr PWR_STATE.PEND 1).setPwr { (parkUp State.reset).pwr with entryStep := some (0 : Fin 4).val }, .mp, 0, by decide +kernel⟩, ⟨(parkUp State.reset).wr wPwr PWR_CFG.PARK_AUTO 0, by decide +kernel⟩, ⟨parkUp State.reset, by decide +kernel⟩, ⟨parkUp State.reset, by decide +kernel⟩, ⟨parkUp State.reset, by decide +kernel⟩, ⟨parkUp State.reset, by decide +kernel⟩, ⟨parkUp State.reset, by decide +kernel⟩, ⟨parkUp State.reset, by decide +kernel⟩⟩

/-- Every clause of ResetsAndWatchdogsComplete has a state and operands that meet its hypotheses. -/
theorem witness_ResetsAndWatchdogsComplete :
    (∃ (s : State), s.gxOn = true ∧ s.on wPwr PWR_STATE.COLD = true ∧ s.cfg.stage = 0) ∧
    (∃ (s : State) (init : Initiator), CmdOpen s init wPwr PWR_CTRL.SOFT) ∧
    (∃ (s : State), s.gxOn = true) ∧
    (∃ (s : State) (init : Initiator), CmdOpen s init wPwr PWR_CTRL.MPWARM) ∧
    (∃ (s : State), s.gxOn = true ∧ s.pwr.mpRun = false ∧ 2 ≤ s.cfg.stage ∧ s.inRom wMP = false) ∧
    (∃ (s : State), WriteOpen s .mp wSup 0x151) ∧
    (∃ (s : State) (init : Initiator), WriteOpen s init wSup 0x151 ∧ init ≠ .mp) ∧
    (∃ (s : State), s.gxOn = true ∧ s.rd wSup SUP_WD_CFG.WD_PERIOD ≠ 0 ∧ s.pwr.wdFirst = false) ∧
    (∃ (s : State), s.gxOn = true ∧ s.rd wSup SUP_WD_CFG.WD_PERIOD ≠ 0 ∧ s.pwr.wdFirst = true) ∧
    (∃ (s : State), s.running = true) ∧
    (∃ (s : State), s.running = false) ∧
    (∃ (s : State), s.gxOn = false ∨ s.on wPwr PWR_STATE.COLD = false) ∧
    (∃ (s : State), s.gxOn = false) ∧
    (∃ (s : State), s.gxOn = false ∨ s.pwr.mpRun = true ∨ s.cfg.stage < 2) ∧
    (∃ (s : State) (v : Byte), WriteOpen s .mp wSup 0x151 ∧ v ≠ 0x5A) ∧
    (∃ (s : State), s.gxOn = false ∨ s.rd wSup SUP_WD_CFG.WD_PERIOD = 0) := 
  ⟨⟨((up State.reset wPwr).wr wPwr PWR_STATE.COLD 1).setCfg { State.reset.cfg with stage := 0 }, by decide +kernel⟩, ⟨parkUp State.reset, .mp, by decide +kernel⟩, ⟨parkUp State.reset, by decide +kernel⟩, ⟨(parkUp State.reset).wr wPwr PWR_CTRL.MPWARM 0, .mp, by decide +kernel⟩, ⟨((parkUp State.reset).setCfg { State.reset.cfg with stage := 2 }).setPwr { State.reset.pwr with mpRun := false }, by decide +kernel⟩, ⟨parkUp State.reset, by decide +kernel⟩, ⟨parkUp State.reset, .spi, by decide +kernel⟩, ⟨(parkUp State.reset).wr wSup SUP_WD_CFG.WD_PERIOD 5, by decide +kernel⟩, ⟨((parkUp State.reset).wr wSup SUP_WD_CFG.WD_PERIOD 5).setPwr { State.reset.pwr with wdFirst := true }, by decide +kernel⟩, ⟨parkUp State.reset, by decide +kernel⟩, ⟨(parkUp State.reset).setPwr { State.reset.pwr with state := .park }, by decide +kernel⟩, ⟨(up State.reset wPwr).wr wPwr PWR_STATE.COLD 0, by decide +kernel⟩, ⟨State.reset.setPins { State.reset.pins with gxRun := false }, by decide +kernel⟩, ⟨parkUp State.reset, by decide +kernel⟩, ⟨parkUp State.reset, 7, by decide +kernel⟩, ⟨(parkUp State.reset).wr wSup SUP_WD_CFG.WD_PERIOD 0, by decide +kernel⟩⟩

/-- Every clause of TrustMessagesComplete has a state and operands that meet its hypotheses. -/
theorem witness_TrustMessagesComplete :
    (∃ (s : State) (init : Initiator), WriteOpen s init wAttest 0x143 ∧ s.trmOwner = 0 ∨ s.trmOwner = init.code) ∧
    (∃ (s : State) (init : Initiator), WriteOpen s init wAttest 0x144 ∧ s.trmOwner = init.code) ∧
    (∃ (s : State) (init : Initiator), ReadOpen s init wAttest ∧ s.trmOwner = init.code ∧ s.specRead init.code wAttest false = false) ∧
    (∃ (s : State), s.trmOwner ≠ 0) ∧
    (∃ (s : State) (init : Initiator), WriteOpen s init wAttest 0x140 ∧ s.trmOwner = init.code ∧ s.on wAttest TRM_CMD.GO = false) ∧
    (∃ (s : State) (init : Initiator), WriteOpen s init wAttest 0x140 ∧ s.trmOwner = init.code ∧ s.on wAttest TRM_CMD.GO = false) ∧
    (∃ (s : State) (init : Initiator), WriteOpen s init wAttest 0x140 ∧ s.trmOwner = init.code ∧ s.on wAttest TRM_CMD.GO = false) ∧
    (∃ (s : State) (init : Initiator), WriteOpen s init wAttest 0x140 ∧ s.trmOwner = init.code ∧ s.on wAttest TRM_CMD.GO = false) ∧
    (∃ (s : State) (init : Initiator), WriteOpen s init wAttest 0x140 ∧ s.trmOwner = init.code ∧ s.on wAttest TRM_CMD.GO = false) ∧
    (∃ (s : State) (init : Initiator), WriteOpen s init wAttest 0x140 ∧ s.trmOwner = init.code ∧ s.on wAttest TRM_CMD.GO = false ∧ s.rd wAttest TRM_LEN.LEN ≠ 0) ∧
    (∃ (s : State) (init : Initiator), WriteOpen s init wAttest 0x140 ∧ s.trmOwner = init.code ∧ s.on wAttest TRM_CMD.GO = false ∧ s.rd wAttest TRM_LEN.LEN ≠ 0) ∧
    (∃ (s : State) (init : Initiator), WriteOpen s init wAttest 0x140 ∧ s.trmOwner = init.code ∧ s.on wAttest TRM_CMD.GO = false ∧ s.attCheck = 0) ∧
    (∃ (s : State) (init : Initiator), WriteOpen s init wAttest 0x140 ∧ s.trmOwner = init.code ∧ s.on wAttest TRM_CMD.GO = false ∧ s.attCheck ≠ 0) ∧
    (∃ (s : State) (init : Initiator), WriteOpen s init wAttest 0x140 ∧ s.trmOwner = init.code ∧ s.on wAttest TRM_CMD.GO = false) ∧
    (∃ (s : State) (r : TrustRun), s.trust.run = some r ∧ r.result ≠ 0) ∧
    (∃ (s : State) (r : TrustRun), s.trust.run = some r ∧ r.op = opAdvance ∧ msgArg r.msg = 2 ∧ r.result = 0) ∧
    (∃ (s : State) (r : TrustRun), s.trust.run = some r ∧ r.op = opClose ∧ r.result = 0) ∧
    (∃ (s : State), s.trust.session = true) ∧
    (∃ (s : State) (init : Initiator), WriteOpen s init wAttest 0x140 ∧ s.trmOwner ≠ init.code ∨ s.on wAttest TRM_CMD.GO = true) ∧
    (∃ (s : State) (init : Initiator), WriteOpen s init wAttest 0x140 ∧ s.trmOwner ≠ init.code ∨ s.on wAttest TRM_CMD.GO = true) ∧
    (∃ (s : State) (init : Initiator), WriteOpen s init wAttest 0x140 ∧ s.trmOwner ≠ init.code ∨ s.on wAttest TRM_CMD.GO = true) ∧
    (∃ (s : State) (init : Initiator), WriteOpen s init wAttest 0x140 ∧ s.trmOwner ≠ init.code ∨ s.on wAttest TRM_CMD.GO = true) ∧
    (∃ (s : State) (init : Initiator), WriteOpen s init wAttest 0x140 ∧ s.trmOwner ≠ init.code ∨ s.on wAttest TRM_CMD.GO = true) ∧
    (∃ (s : State) (init : Initiator), WriteOpen s init wAttest 0x140 ∧ s.trmOwner ≠ init.code ∨ s.on wAttest TRM_CMD.GO = true) ∧
    (∃ (s : State) (init : Initiator), WriteOpen s init wAttest 0x140 ∧ s.trmOwner ≠ init.code ∨ s.on wAttest TRM_CMD.GO = true) ∧
    (∃ (s : State) (init : Initiator), WriteOpen s init wAttest 0x140 ∧ s.trmOwner ≠ init.code ∨ s.on wAttest TRM_CMD.GO = true) ∧
    (∃ (s : State) (init : Initiator), WriteOpen s init wAttest 0x140 ∧ s.trmOwner ≠ init.code ∨ s.on wAttest TRM_CMD.GO = true) ∧
    (∃ (s : State) (init : Initiator), WriteOpen s init wAttest 0x143 ∧ s.trmOwner ≠ 0 ∧ s.trmOwner ≠ init.code) ∧
    (∃ (s : State) (init : Initiator), ReadOpen s init wAttest ∧ s.trmOwner ≠ init.code) ∧
    (∃ (s : State), s.trmOwner = 0) ∧
    (∃ (s : State) (r : TrustRun), s.trust.run = some r ∧ r.op = opOpen ∧ r.result = 0 ∧ msgArg r.msg < 4) ∧
    (∃ (s : State) (r : TrustRun), s.trust.run = some r ∧ r.op = opNonce ∧ r.result = 0) ∧
    (∃ (s : State) (r : TrustRun), s.trust.run = some r ∧ r.op = opHss ∧ r.result = 0) ∧
    (∃ (s : State) (r : TrustRun), s.trust.run = some r ∧ r.op = opRelease ∧ r.result = 0) ∧
    (∃ (s : State) (r : TrustRun), s.trust.run = some r ∧ r.op = opAttest ∧ r.result = 0 ∧ r.msg.length ≤ 8192) ∧
    (∃ (s : State) (r : TrustRun), s.trust.run = some r ∧ r.op = opAdvance ∧ r.result = 0) ∧
    (∃ (s : State), s.trust.run = none) ∧
    (∃ (s : State), s.trust.session = false) := 
  ⟨⟨trmUp State.reset .mp, .mp, by decide +kernel⟩, ⟨trmUp State.reset .mp, .mp, by decide +kernel⟩, ⟨trmUp State.reset .mp, .mp, by decide +kernel⟩, ⟨trmUp State.reset .mp, by decide +kernel⟩, ⟨trmUp State.reset .mp, .mp, by decide +kernel⟩, ⟨trmUp State.reset .mp, .mp, by decide +kernel⟩, ⟨trmUp State.reset .mp, .mp, by decide +kernel⟩, ⟨trmUp State.reset .mp, .mp, by decide +kernel⟩, ⟨trmUp State.reset .mp, .mp, by decide +kernel⟩, ⟨(trmUp State.reset .mp).wr wAttest TRM_LEN.LEN 1, .mp, by decide +kernel⟩, ⟨(trmUp State.reset .mp).wr wAttest TRM_LEN.LEN 1, .mp, by decide +kernel⟩, ⟨((((trmUp State.reset .mp).wr wAttest TRM_LEN.LEN 32).wr wAttest HSS_STATE.STATE 1).wr wAttest HSS_INDEX.INDEX 5).setTrust { (trmUp State.reset .mp).trust with identity := true }, .mp, by decide +kernel⟩, ⟨(trmUp State.reset .mp).wr wAttest TRM_LEN.LEN 31, .mp, by decide +kernel⟩, ⟨trmUp State.reset .mp, .mp, by decide +kernel⟩, ⟨(running State.reset 1 3).setTrust { State.reset.trust with run := some (⟨1, [], 3⟩ : TrustRun) }, ⟨1, [], 3⟩, by decide +kernel⟩, ⟨(running State.reset 1 0).setTrust { State.reset.trust with run := some (⟨1, [0, 0, 0, 0, 1, 2], 0⟩ : TrustRun) }, ⟨1, [0, 0, 0, 0, 1, 2], 0⟩, by decide +kernel⟩, ⟨(running State.reset 4 0).setTrust { State.reset.trust with run := some (⟨4, [0, 0, 0, 0, 4, 0], 0⟩ : TrustRun) }, ⟨4, [0, 0, 0, 0, 4, 0], 0⟩, by decide +kernel⟩, ⟨(trmUp State.reset .mp).setTrust { State.reset.trust with session := true }, by decide +kernel⟩, ⟨(trmUp State.reset .spi).wr wAttest TRM_CMD.GO 1, .mp, by decide +kernel⟩, ⟨(trmUp State.reset .spi).wr wAttest TRM_CMD.GO 1, .mp, by decide +kernel⟩, ⟨(trmUp State.reset .spi).wr wAttest TRM_CMD.GO 1, .mp, by decide +kernel⟩, ⟨(trmUp State.reset .spi).wr wAttest TRM_CMD.GO 1, .mp, by decide +kernel⟩, ⟨(trmUp State.reset .spi).wr wAttest TRM_CMD.GO 1, .mp, by decide +kernel⟩, ⟨(trmUp State.reset .spi).wr wAttest TRM_CMD.GO 1, .mp, by decide +kernel⟩, ⟨(trmUp State.reset .spi).wr wAttest TRM_CMD.GO 1, .mp, by decide +kernel⟩, ⟨(trmUp State.reset .spi).wr wAttest TRM_CMD.GO 1, .mp, by decide +kernel⟩, ⟨(trmUp State.reset .spi).wr wAttest TRM_CMD.GO 1, .mp, by decide +kernel⟩, ⟨trmUp State.reset .spi, .mp, by decide +kernel⟩, ⟨trmUp State.reset .spi, .mp, by decide +kernel⟩, ⟨(trmUp State.reset .mp).wr wAttest TRM_OWNER.OWNER 0, by decide +kernel⟩, ⟨(running State.reset 3 0).setTrust { State.reset.trust with run := some (⟨3, [0, 0, 0, 0, 3, 2], 0⟩ : TrustRun) }, ⟨3, [0, 0, 0, 0, 3, 2], 0⟩, by decide +kernel⟩, ⟨(running State.reset 5 0).setTrust { State.reset.trust with run := some (⟨5, [0, 0, 0, 0, 5, 0], 0⟩ : TrustRun) }, ⟨5, [0, 0, 0, 0, 5, 0], 0⟩, by decide +kernel⟩, ⟨(running State.reset 6 0).setTrust { State.reset.trust with run := some (⟨6, [0, 0, 0, 0, 6, 0], 0⟩ : TrustRun) }, ⟨6, [0, 0, 0, 0, 6, 0], 0⟩, by decide +kernel⟩, ⟨(running State.reset 8 0).setTrust { State.reset.trust with run := some (⟨8, [0, 0, 0, 0, 8, 0], 0⟩ : TrustRun) }, ⟨8, [0, 0, 0, 0, 8, 0], 0⟩, by decide +kernel⟩, ⟨(running State.reset 7 0).setTrust { State.reset.trust with run := some (⟨7, [0, 0, 0, 0, 7, 0], 0⟩ : TrustRun) }, ⟨7, [0, 0, 0, 0, 7, 0], 0⟩, by decide +kernel⟩, ⟨(running State.reset 1 0).setTrust { State.reset.trust with run := some (⟨1, [0, 0, 0, 0, 1, 2], 0⟩ : TrustRun) }, ⟨1, [0, 0, 0, 0, 1, 2], 0⟩, by decide +kernel⟩, ⟨trmUp State.reset .mp, by decide +kernel⟩, ⟨(trmUp State.reset .mp).setTrust { State.reset.trust with session := false }, by decide +kernel⟩⟩

/-- Every clause of KeySlotsAndTamperComplete has a state and operands that meet its hypotheses. -/
theorem witness_KeySlotsAndTamperComplete :
    (∃ (s : State) (init : Initiator) (i : Fin 40), WriteOpen s init wKS (0x150 + i.val) ∧ s.shState s.ksSel = shEmpty ∧ s.trust.unwrapping.contains s.ksSel = false ∧ s.shLen s.ksSel ≠ i.val + 1) ∧
    (∃ (s : State) (init : Initiator) (i : Fin 40), WriteOpen s init wKS (0x150 + i.val) ∧ s.shState s.ksSel = shLoading ∧ s.shOwner s.ksSel = init.code ∧ s.trust.unwrapping.contains s.ksSel = false ∧ s.shLen s.ksSel = i.val + 1) ∧
    (∃ (s : State) (k : Fin 256), s.shState k = shLoading ∧ s.trust.unwrapping.contains k.val = true ∧ s.on wKS KS_ATTR.REPL k = false) ∧
    (∃ (s : State) (init : Initiator), CmdOpen s init wKS KS_CMD.COMMIT ∧ s.shState s.ksSel = shVerified ∧ s.shOwner s.ksSel = init.code) ∧
    (∃ (s : State) (init : Initiator), CmdOpen s init wKS KS_CMD.COMMIT ∧ s.shState s.ksSel ≠ shVerified) ∧
    (∃ (s : State) (init : Initiator), CmdOpen s init wKS KS_CMD.DISCARD ∧ s.shState s.ksSel = shEmpty ∨ s.shOwner s.ksSel = init.code) ∧
    (∃ (s : State) (init : Initiator), CmdOpen s init wKS KS_CMD.PERSIST) ∧
    (∃ (s : State) (k : Nat), s.trust.persist = some k) ∧
    (∃ (s : State) (k : Nat), s.trust.persist = some k ∧ s.persistable k = true) ∧
    (∃ (s : State) (k : Fin 256), s.shState k ≠ shEmpty) ∧
    (∃ (s : State) (k : Fin 3), s.pwr.state ≠ .off ∧ s.on wTamper (tampEn k) = true) ∧
    (∃ (s : State) (k : Fin 3), s.on wTamper (tampEn k) = false) ∧
    (∃ (s : State) (init : Initiator) (i : Fin 40), WriteOpen s init wKS (0x150 + i.val) ∧ s.shState s.ksSel ≠ shEmpty ∧ s.shOwner s.ksSel ≠ init.code) ∧
    (∃ (s : State) (k : Fin 256), s.shState k ≠ shLoading ∨ s.trust.unwrapping.contains k.val = false) ∧
    (∃ (s : State) (init : Initiator), CmdOpen s init wKS KS_CMD.DISCARD ∧ s.shState s.ksSel ≠ shEmpty ∧ s.shOwner s.ksSel ≠ init.code) ∧
    (∃ (s : State), s.trust.persist = none) ∧
    (∃ (s : State) (k : Nat), s.trust.persist = some k ∧ s.persistable k = false) ∧
    (∃ (s : State) (k : Fin 256), s.shState k = shEmpty) ∧
    (∃ (s : State), s.pwr.state = .off) := 
  ⟨⟨ksUp State.reset .mp 7 shEmpty, .mp, 3, by decide +kernel⟩, ⟨ksUp State.reset .mp 7 shLoading, .mp, 23, by decide +kernel⟩, ⟨(ksUp State.reset .mp (7 : Fin 256).val shLoading).setTrust { State.reset.trust with unwrapping := [(7 : Fin 256).val] }, 7, by decide +kernel⟩, ⟨ksUp State.reset .mp 7 shVerified, .mp, by decide +kernel⟩, ⟨ksUp State.reset .mp 7 shFailed, .mp, by decide +kernel⟩, ⟨ksUp State.reset .mp 7 shFailed, .mp, by decide +kernel⟩, ⟨ksUp State.reset .mp 7 shEmpty, .mp, by decide +kernel⟩, ⟨(ksUp State.reset .mp (7 : Nat) shEmpty).setTrust { State.reset.trust with persist := some (7 : Nat) }, 7, by decide +kernel⟩, ⟨((ksUp State.reset .mp (7 : Nat) shEmpty).wr wKS KS_ATTR.VALID 1 (7 : Nat)).setTrust { State.reset.trust with persist := some (7 : Nat), blobRec := [((7 : Nat), 2)], roots := [(0, 5)] }, 7, by decide +kernel⟩, ⟨ksUp State.reset .mp (7 : Fin 256).val shFailed, 7, by decide +kernel⟩, ⟨(up State.reset wTamper).wr wTamper (tampEn (1 : Fin 3)) 1, 1, by decide +kernel⟩, ⟨(up State.reset wTamper).wr wTamper (tampEn (1 : Fin 3)) 0, 1, by decide +kernel⟩, ⟨ksUp State.reset .spi 7 shLoading, .mp, 3, by decide +kernel⟩, ⟨ksUp State.reset .mp (7 : Fin 256).val shEmpty, 7, by decide +kernel⟩, ⟨ksUp State.reset .spi 7 shFailed, .mp, by decide +kernel⟩, ⟨ksUp State.reset .mp 7 shEmpty, by decide +kernel⟩, ⟨((ksUp State.reset .mp (7 : Nat) shEmpty).wr wKS KS_ATTR.VALID 0 (7 : Nat)).setTrust { State.reset.trust with persist := some (7 : Nat) }, 7, by decide +kernel⟩, ⟨ksUp State.reset .mp (7 : Fin 256).val shEmpty, 7, by decide +kernel⟩, ⟨(up State.reset wTamper).setPwr { State.reset.pwr with state := .off }, by decide +kernel⟩⟩

/-- Every clause of UpdateStagingComplete has a state and operands that meet its hypotheses. -/
theorem witness_UpdateStagingComplete :
    (∃ (s : State) (b : UpdBlock) (r : List UpdBlock), s.upd.inbox = b :: r ∧ blockCrcOk b = false) ∧
    (∃ (s : State) (b : UpdBlock) (r : List UpdBlock) (x : Nat), s.upd.inbox = b :: r ∧ blockCrcOk b = true ∧ s.stg = stgIdle ∧ b.blk = 0 ∧ s.packageFault b.kind b.data = some x ∧ x < 16) ∧
    (∃ (s : State) (b : UpdBlock) (r : List UpdBlock), s.upd.inbox = b :: r ∧ blockCrcOk b = true ∧ s.stg = stgReceiving ∧ b.stream = s.upd.stream ∧ b.data ≠ [] ∧ b.blk = s.upd.stored ∧ stagedAt (b.blk + 1) ≤ flashEnd) ∧
    (∃ (s : State) (b : UpdBlock) (r : List UpdBlock), s.upd.inbox = b :: r ∧ blockCrcOk b = true ∧ s.stg = stgReceiving ∧ b.stream = s.upd.stream ∧ b.data = [] ∧ b.blk = s.upd.stored) ∧
    (∃ (s : State) (n : Fin 16) (k : Nat) (blk : Nat) (r : List (Nat × Nat × Nat)) (x : FwdBlock), s.upd.acks = (n.val, k, blk) :: r ∧ s.downPort = some n.val ∧ s.upd.fwd = [x] ∧ x.block.stream = k ∧ x.block.blk < blk ∧ x.sends ≠ 0) ∧
    (∃ (s : State) (n : Fin 16) (k : Nat) (blk : Nat) (r : List (Nat × Nat × Nat)), s.upd.acks = (n.val, k, blk) :: r ∧ s.downPort ≠ some n.val) ∧
    (∃ (s : State) (n : Fin 16) (k : BitVec 16) (blk : BitVec 32) (x : FwdBlock), s.downPort = some n.val ∧ s.upd.fwd = [x] ∧ x.block.stream = k.toNat ∧ x.block.blk = blk.toNat ∧ 1 ≤ x.sends ∧ x.sends ≠ 5) ∧
    (∃ (s : State) (n : Fin 16) (k : BitVec 16) (blk : BitVec 32) (x : FwdBlock), s.downPort = some n.val ∧ s.upd.fwd = [x] ∧ x.block.stream = k.toNat ∧ x.block.blk = blk.toNat ∧ x.sends = 5) ∧
    (∃ (s : State), s.stg = stgReceiving) ∧
    (∃ (s : State), s.stg = stgVerifying ∧ s.upd.kind ≠ 0) ∧
    (∃ (s : State), s.stg = stgStaged ∧ s.upd.kind ≠ 0 ∧ s.pwr.mpRun = true) ∧
    (∃ (s : State), CmdOpen s .mp wUpd UPD_FW_CTRL.CONFIRM ∧ s.onTrial = true ∧ s.allBuilt = true) ∧
    (∃ (s : State) (init : Initiator), CmdOpen s init wUpd UPD_FW_CTRL.CONFIRM ∧ init ≠ .mp) ∧
    (∃ (s : State) (init : Initiator), CmdOpen s init wUpd UPD_FW_CTRL.DISCARD ∧ s.stg = stgStaged ∨ s.stg = stgInstalled ∨ s.stg = stgArmed) ∧
    (∃ (s : State) (init : Initiator), CmdOpen s init wUpd UPD_FW_CTRL.ARM ∧ s.mayArm = true) ∧
    (∃ (s : State) (init : Initiator), CmdOpen s init wUpd UPD_FW_CTRL.CANCEL ∧ s.stg = stgArmed) ∧
    (∃ (s : State) (init : Initiator), CmdOpen s init wUpd UPD_FW_CTRL.RECOVER ∧ s.recWindow.isSome = true) ∧
    (∃ (s : State) (w : Nat), s.on wUpd UPD_FW_CTRL.RECOVER = true ∧ s.recWindow = some w ∧ s.rd wUpd UPD_REC.TYPE < 8) ∧
    (∃ (s : State) (w : Nat) (f : FwSet), s.on wUpd UPD_FW_CTRL.RECOVER = true ∧ s.recWindow = some w ∧ clsOf w ≠ .eth ∧ s.upd.bankSet (s.rd wUpd UPD_REC.BANK) = some f ∧ (f.images.any fun x => x.ty == s.rd wUpd UPD_REC.TYPE) = true) ∧
    (∃ (s : State) (n : Fin 16) (f : FwSet), s.on wUpd UPD_FW_CTRL.RECOVER = true ∧ s.recWindow = some (wEth n) ∧ s.upd.bankSet (s.rd wUpd UPD_REC.BANK) = some f ∧ (f.images.any fun x => x.ty == s.rd wUpd UPD_REC.TYPE) = true) ∧
    (∃ (s : State), s.on wUpd UPD_FW_CTRL.RECOVER = false) ∧
    (∃ (s : State), s.upd.inbox = []) ∧
    (∃ (s : State), s.upd.acks = []) ∧
    (∃ (s : State), s.upd.fwd = [] ∨ s.downPort = none) ∧
    (∃ (s : State), s.stg ≠ stgReceiving) ∧
    (∃ (s : State), s.stg ≠ stgVerifying) ∧
    (∃ (s : State), s.stg ≠ stgStaged) ∧
    (∃ (s : State), CmdOpen s .mp wUpd UPD_FW_CTRL.CONFIRM ∧ s.onTrial = false ∨ s.allBuilt = false) ∧
    (∃ (s : State) (init : Initiator), CmdOpen s init wUpd UPD_FW_CTRL.DISCARD ∧ s.stg ≠ stgStaged ∧ s.stg ≠ stgInstalled ∧ s.stg ≠ stgArmed) ∧
    (∃ (s : State) (init : Initiator), CmdOpen s init wUpd UPD_FW_CTRL.ARM ∧ s.mayArm = false) ∧
    (∃ (s : State) (init : Initiator), CmdOpen s init wUpd UPD_FW_CTRL.CANCEL ∧ s.stg ≠ stgArmed) ∧
    (∃ (s : State) (init : Initiator), CmdOpen s init wUpd UPD_FW_CTRL.RECOVER ∧ s.recWindow = none) := 
  ⟨⟨(updUp State.reset stgIdle).setUpd { (updUp State.reset stgIdle).upd with inbox := ({ aBlock 0 [1] with crc := 5 } : UpdBlock) :: ([] : List UpdBlock) }, { aBlock 0 [1] with crc := 5 }, [], by decide +kernel⟩, ⟨(updUp State.reset stgIdle).setUpd { (updUp State.reset stgIdle).upd with inbox := (aBlock 0 [1] : UpdBlock) :: ([] : List UpdBlock) }, aBlock 0 [1], [], 1, by decide +kernel⟩, ⟨(updUp State.reset stgReceiving).setUpd { (updUp State.reset stgIdle).upd with inbox := (aBlock 2 [1] : UpdBlock) :: ([] : List UpdBlock) }, aBlock 2 [1], [], by decide +kernel⟩, ⟨(updUp State.reset stgReceiving).setUpd { (updUp State.reset stgIdle).upd with inbox := (aBlock 2 [] : UpdBlock) :: ([] : List UpdBlock) }, aBlock 2 [], [], by decide +kernel⟩, ⟨((updUp State.reset stgIdle).wr wUpd UPD_CHAIN.DOWN (3 : Fin 16).val).setUpd { (updUp State.reset stgIdle).upd with acks := ((3 : Fin 16).val, (7 : Nat), (9 : Nat)) :: ([] : List (Nat × Nat × Nat)), fwd := [(⟨aBlock 2 [1], 2, 0⟩ : FwdBlock)] }, 3, 7, 9, [], ⟨aBlock 2 [1], 2, 0⟩, by decide +kernel⟩, ⟨((updUp State.reset stgIdle).wr wUpd UPD_CHAIN.DOWN 31).setUpd { (updUp State.reset stgIdle).upd with acks := ((3 : Fin 16).val, (7 : Nat), (9 : Nat)) :: ([] : List (Nat × Nat × Nat)) }, 3, 7, 9, [], by decide +kernel⟩, ⟨((updUp State.reset stgIdle).wr wUpd UPD_CHAIN.DOWN (3 : Fin 16).val).setUpd { (updUp State.reset stgIdle).upd with fwd := [(⟨aBlock 2 [1], 2, 0⟩ : FwdBlock)] }, 3, 7, 2, ⟨aBlock 2 [1], 2, 0⟩, by decide +kernel⟩, ⟨((updUp State.reset stgIdle).wr wUpd UPD_CHAIN.DOWN (3 : Fin 16).val).setUpd { (updUp State.reset stgIdle).upd with fwd := [(⟨aBlock 2 [1], 5, 0⟩ : FwdBlock)] }, 3, 7, 2, ⟨aBlock 2 [1], 5, 0⟩, by decide +kernel⟩, ⟨updUp State.reset stgReceiving, by decide +kernel⟩, ⟨updUp State.reset stgVerifying, by decide +kernel⟩, ⟨(updUp State.reset stgStaged).setPwr { State.reset.pwr with mpRun := true }, by decide +kernel⟩, ⟨(updUp State.reset stgIdle).wr wUpd UPD_FW_STAT.TRIAL 1, by decide +kernel⟩, ⟨(updUp State.reset stgIdle).wr wUpd UPD_FW_STAT.TRIAL 1, .spi, by decide +kernel⟩, ⟨updUp State.reset stgInstalled, .mp, by decide +kernel⟩, ⟨updUp State.reset stgInstalled, .mp, by decide +kernel⟩, ⟨updUp State.reset stgArmed, .mp, by decide +kernel⟩, ⟨((updUp State.reset stgIdle).wr wUpd UPD_REC.TYPE 3).wr wUpd UPD_REC.INST 2, .mp, by decide +kernel⟩, ⟨(((updUp State.reset stgIdle).wr wUpd UPD_REC.TYPE 3).wr wUpd UPD_REC.INST 2).wr wUpd UPD_FW_CTRL.RECOVER 1, wSE 2, by decide +kernel⟩, ⟨((((updUp State.reset stgIdle).wr wUpd UPD_REC.TYPE 3).wr wUpd UPD_REC.INST 2).wr wUpd UPD_FW_CTRL.RECOVER 1).setUpd { (updUp State.reset stgIdle).upd with bankA := some (⟨false, 0, 0, [⟨3, 0, 0, 0, 0⟩]⟩ : FwSet), bankB := some (⟨false, 0, 0, [⟨3, 0, 0, 0, 0⟩]⟩ : FwSet) }, wSE 2, ⟨false, 0, 0, [⟨3, 0, 0, 0, 0⟩]⟩, by decide +kernel⟩, ⟨((((updUp State.reset stgIdle).wr wUpd UPD_REC.TYPE 7).wr wUpd UPD_REC.INST 2).wr wUpd UPD_FW_CTRL.RECOVER 1).setUpd { (updUp State.reset stgIdle).upd with bankA := some (⟨false, 0, 0, [⟨7, 0, 0, 0, 0⟩]⟩ : FwSet), bankB := some (⟨false, 0, 0, [⟨7, 0, 0, 0, 0⟩]⟩ : FwSet) }, 2, ⟨false, 0, 0, [⟨7, 0, 0, 0, 0⟩]⟩, by decide +kernel⟩, ⟨updUp State.reset stgIdle, by decide +kernel⟩, ⟨updUp State.reset stgIdle, by decide +kernel⟩, ⟨updUp State.reset stgIdle, by decide +kernel⟩, ⟨updUp State.reset stgIdle, by decide +kernel⟩, ⟨updUp State.reset stgIdle, by decide +kernel⟩, ⟨updUp State.reset stgIdle, by decide +kernel⟩, ⟨updUp State.reset stgIdle, by decide +kernel⟩, ⟨(updUp State.reset stgIdle).wr wUpd UPD_FW_STAT.TRIAL 0, by decide +kernel⟩, ⟨updUp State.reset stgReceiving, .mp, by decide +kernel⟩, ⟨updUp State.reset stgIdle, .mp, by decide +kernel⟩, ⟨updUp State.reset stgInstalled, .mp, by decide +kernel⟩, ⟨((updUp State.reset stgIdle).wr wUpd UPD_REC.TYPE 1).wr wUpd UPD_REC.INST 2, .mp, by decide +kernel⟩⟩

/-- Every clause of ActivationComplete has a state and operands that meet its hypotheses. -/
theorem witness_ActivationComplete :
    (∃ (s : State), s.stg = stgArmed ∧ s.actTime ≤ s.ax0Ns ∧ s.upd.todo = []) ∧
    (∃ (s : State), s.stg ≠ stgArmed ∨ s.ax0Ns < s.actTime) ∧
    (∃ (s : State) (fails : List Byte) (r : List ActStep), s.upd.todo = .fs :: r ∧ (fails.map BitVec.toNat).contains 2 = false) ∧
    (∃ (s : State) (e : Fin 4) (r : List ActStep), s.upd.todo = .se e.val :: r) ∧
    (∃ (s : State), s.onTrial = true) ∧
    (∃ (s : State) (e : Fin 6) (r : List ActStep), s.upd.todo = .gcm e.val :: r) ∧
    (∃ (s : State) (e : Fin 4) (r : List ActStep), s.upd.todo = .cmac e.val :: r) ∧
    (∃ (s : State) (n : Fin 16) (r : List ActStep), s.upd.todo = .phy n.val :: r) ∧
    (∃ (s : State) (l : List Nat) (r : List ActStep), s.upd.todo = .canLin l :: r) ∧
    (∃ (s : State) (r : List ActStep), s.upd.todo = .mp :: r ∧ s.pwr.mpRun = true) ∧
    (∃ (s : State) (r : List ActStep), s.upd.todo = .mp :: r ∧ s.pwr.mpRun = false) ∧
    (∃ (s : State) (r : List ActStep), s.upd.todo = .cfg :: r ∧ s.upd.newImage = none ∧ s.on wUpd UPD_CFG_STAT.UNCFG = true) ∧
    (∃ (s : State) (x : SlotImage) (r : List ActStep), s.upd.todo = .cfg :: r ∧ s.upd.newImage = none ∧ s.on wUpd UPD_CFG_STAT.UNCFG = false ∧ s.pwr.mpRun = true ∧ s.tblOwner = 0 ∧ s.tblBusy = false ∧ s.imageUsable s.cfgTarget x = false) ∧
    (∃ (s : State) (r : List ActStep), s.upd.todo = .cfg :: r ∧ s.upd.newImage = none ∧ s.on wUpd UPD_CFG_STAT.UNCFG = false ∧ s.pwr.mpRun = false ∨ s.tblOwner ≠ 0 ∨ s.tblBusy = true) ∧
    (∃ (s : State), s.upd.todo = []) ∧
    (∃ (s : State), s.onTrial = false) := 
  ⟨⟨((updUp State.reset stgArmed).wr wUpd UPD_ACT_TIME.SEC 0).setAx0 ⟨3, 0, 0, 0, 0, 0⟩, by decide +kernel⟩, ⟨updUp State.reset stgArmed, by decide +kernel⟩, ⟨(updUp State.reset stgIdle).setUpd { (updUp State.reset stgIdle).upd with todo := .fs :: ([.se 1] : List ActStep) }, [], [.se 1], by decide +kernel⟩, ⟨(updUp State.reset stgIdle).setUpd { (updUp State.reset stgIdle).upd with todo := .se (2 : Fin 4).val :: ([] : List ActStep) }, 2, [], by decide +kernel⟩, ⟨(updUp State.reset stgIdle).wr wUpd UPD_FW_STAT.TRIAL 1, by decide +kernel⟩, ⟨(updUp State.reset stgIdle).setUpd { (updUp State.reset stgIdle).upd with todo := .gcm (2 : Fin 6).val :: ([] : List ActStep) }, 2, [], by decide +kernel⟩, ⟨(updUp State.reset stgIdle).setUpd { (updUp State.reset stgIdle).upd with todo := .cmac (2 : Fin 4).val :: ([] : List ActStep) }, 2, [], by decide +kernel⟩, ⟨(updUp State.reset stgIdle).setUpd { (updUp State.reset stgIdle).upd with todo := .phy (2 : Fin 16).val :: ([] : List ActStep) }, 2, [], by decide +kernel⟩, ⟨(updUp State.reset stgIdle).setUpd { (updUp State.reset stgIdle).upd with todo := .canLin ([8, 10] : List Nat) :: ([] : List ActStep) }, [8, 10], [], by decide +kernel⟩, ⟨((updUp State.reset stgIdle).setUpd { (updUp State.reset stgIdle).upd with todo := .mp :: ([] : List ActStep) }).setPwr { State.reset.pwr with mpRun := true }, [], by decide +kernel⟩, ⟨((updUp State.reset stgIdle).setUpd { (updUp State.reset stgIdle).upd with todo := .mp :: ([] : List ActStep) }).setPwr { State.reset.pwr with mpRun := false }, [], by decide +kernel⟩, ⟨((updUp State.reset stgIdle).setUpd { (updUp State.reset stgIdle).upd with todo := .cfg :: ([] : List ActStep), newImage := none }).wr wUpd UPD_CFG_STAT.UNCFG 1, [], by decide +kernel⟩, ⟨((((updUp State.reset stgIdle).setUpd { (updUp State.reset stgIdle).upd with todo := .cfg :: ([] : List ActStep), newImage := none }).wr wUpd UPD_CFG_STAT.UNCFG 0).setPwr { State.reset.pwr with mpRun := true }).wr wTables TBL_OWNER.OWNER 0 |>.wr wTables TBL_STAT.BUSY 0, ⟨[], true, true, []⟩, [], by decide +kernel⟩, ⟨(((updUp State.reset stgIdle).setUpd { (updUp State.reset stgIdle).upd with todo := .cfg :: ([] : List ActStep), newImage := none }).wr wUpd UPD_CFG_STAT.UNCFG 0).setPwr { State.reset.pwr with mpRun := false }, [], by decide +kernel⟩, ⟨(updUp State.reset stgIdle).setUpd { (updUp State.reset stgIdle).upd with todo := [] }, by decide +kernel⟩, ⟨updUp State.reset stgIdle, by decide +kernel⟩⟩

/-- Every clause of PeersComplete has a state and operands that meet its hypotheses. -/
theorem witness_PeersComplete :
    (∃ (s : State) (n : Fin 16), s.peerState n = psHello ∨ s.peerState n = psMismatch) ∧
    (∃ (s : State) (n : Fin 16), s.peerState n = psUp) ∧
    (∃ (s : State) (n : Fin 16) (k : Fin 3) (f : KmpFrame) (j : Fin 8), s.peerState n = psUp ∧ (s.lane n k).out = [(f, j.val)]) ∧
    (∃ (s : State) (n : Fin 16) (k : Fin 3) (f : KmpFrame), s.peerState n = psUp ∧ (s.lane n k).out = [(f, 8)]) ∧
    (∃ (s : State) (n : Fin 16), s.peerState n = psUp) ∧
    (∃ (s : State) (n : Fin 16) (f : KmpRx), KmpAccepted s n kmpHello f ∧ s.peerState n = psHello ∧ (payload f).headD 0 ≤ 1 ∧ 1 ≤ (payload f).getD 1 0) ∧
    (∃ (s : State) (n : Fin 16) (f : KmpRx), KmpAccepted s n kmpHello f ∧ s.peerState n = psHello ∧ 2 ≤ (payload f).headD 0) ∧
    (∃ (s : State) (n : Fin 16) (f : KmpRx), KmpAccepted s n kmpKeepalive f) ∧
    (∃ (s : State) (n : Fin 16) (f : KmpRx) (w : BitVec 12) (b : Fin 256), KmpAccepted s n kmpWrite f ∧ isRemote w.toNat = false ∧ payload f = [w.toNat / 16, w.toNat % 16 * 16, 0x31, 0, b.val] ∧ WriteOpen s (.peer n) w.toNat 0x31) ∧
    (∃ (s : State) (n : Fin 16) (f : KmpRx), KmpAccepted s n kmpRead f ∧ (s.kmpAcks n f).inTaken n < 4) ∧
    (∃ (s : State) (n : Fin 16) (f : KmpRx), KmpAccepted s n kmpEvent f ∧ s.on wDerrick DRK_PEER.EVT_EN n = true) ∧
    (∃ (s : State) (n : Fin 16) (f : KmpRx) (u : UpdBlock), KmpAccepted s n kmpUpdSeg f ∧ beAt (payload f) 0 2 = 0 ∧ beAt (payload f) 2 2 = (payload f).length - 4 ∧ parseBlock (some n.val) ((payload f).drop 4) = some u) ∧
    (∃ (s : State) (n : Fin 16) (f : KmpRx), KmpAccepted s n kmpUpdAck f) ∧
    (∃ (s : State) (init : Initiator) (v : BitVec 32), WriteOpen s init wDerrick 0x167 ∧ s.mapOn (s.rd wDerrick DRK_MSEL.IDX) = false ∧ bits v.toNat 11 0 < 0x800 ∧ bit v.toNat 31 = false) ∧
    (∃ (s : State) (init : Initiator) (v : BitVec 32), WriteOpen s init wDerrick 0x167 ∧ s.mapOn (s.rd wDerrick DRK_MSEL.IDX) = false ∧ bits v.toNat 11 0 < 0x800 ∧ bit v.toNat 31 = true ∧ s.peerState (bits v.toNat 27 24) ≠ psUp) ∧
    (∃ (s : State) (n : Fin 16) (f : KmpRx) (x : Nat), s.kmpOn n = true ∧ s.kmpFault n kmpHello f = some x) ∧
    (∃ (s : State) (n : Fin 16), s.kmpOn n = false ∧ s.fab.handed = []) ∧
    (∃ (s : State) (n : Fin 16) (f : KmpRx) (x : Nat), s.kmpOn n = true ∧ s.kmpFault n kmpKeepalive f = some x) ∧
    (∃ (s : State) (n : Fin 16), s.kmpOn n = false ∧ s.fab.handed = []) ∧
    (∃ (s : State) (n : Fin 16) (f : KmpRx) (x : Nat), s.kmpOn n = true ∧ s.kmpFault n kmpWrite f = some x) ∧
    (∃ (s : State) (n : Fin 16), s.kmpOn n = false ∧ s.fab.handed = []) ∧
    (∃ (s : State) (n : Fin 16) (f : KmpRx) (x : Nat), s.kmpOn n = true ∧ s.kmpFault n kmpRead f = some x) ∧
    (∃ (s : State) (n : Fin 16), s.kmpOn n = false ∧ s.fab.handed = []) ∧
    (∃ (s : State) (n : Fin 16) (f : KmpRx) (x : Nat), s.kmpOn n = true ∧ s.kmpFault n kmpEvent f = some x) ∧
    (∃ (s : State) (n : Fin 16), s.kmpOn n = false ∧ s.fab.handed = []) ∧
    (∃ (s : State) (n : Fin 16) (f : KmpRx) (x : Nat), s.kmpOn n = true ∧ s.kmpFault n kmpUpdSeg f = some x) ∧
    (∃ (s : State) (n : Fin 16), s.kmpOn n = false ∧ s.fab.handed = []) ∧
    (∃ (s : State) (n : Fin 16) (f : KmpRx) (x : Nat), s.kmpOn n = true ∧ s.kmpFault n kmpUpdAck f = some x) ∧
    (∃ (s : State) (n : Fin 16), s.kmpOn n = false ∧ s.fab.handed = []) ∧
    (∃ (s : State) (n : Fin 16) (f : KmpRx), KmpAccepted s n kmpHello f ∧ s.peerState n = psUp) ∧
    (∃ (s : State) (n : Fin 16) (f : KmpRx) (w : BitVec 12), KmpAccepted s n kmpWrite f ∧ isRemote w.toNat = true ∧ payload f = [w.toNat / 16, w.toNat % 16 * 16, 0x31, 0, 7]) ∧
    (∃ (s : State) (n : Fin 16) (f : KmpRx), KmpAccepted s n kmpRead f ∧ 4 ≤ (s.kmpAcks n f).inTaken n) ∧
    (∃ (s : State) (n : Fin 16) (f : KmpRx), KmpAccepted s n kmpEvent f ∧ s.on wDerrick DRK_PEER.EVT_EN n = false) ∧
    (∃ (s : State) (n : Fin 16) (f : KmpRx), KmpAccepted s n kmpUpdSeg f ∧ beAt (payload f) 0 2 ≠ 0 ∧ (s.peer n).partBlock = []) ∧
    (∃ (s : State) (n : Fin 16), s.peerState n ≠ psHello ∧ s.peerState n ≠ psMismatch) ∧
    (∃ (s : State) (n : Fin 16), s.peerState n ≠ psUp) ∧
    (∃ (s : State) (n : Fin 16), s.peerState n ≠ psUp) ∧
    (∃ (s : State) (n : Fin 16) (k : Fin 3), s.peerState n ≠ psUp ∨ (s.lane n k).out = []) ∧
    (∃ (s : State) (init : Initiator) (v : BitVec 32), WriteOpen s init wDerrick 0x167 ∧ s.mapFixed (s.rd wDerrick DRK_MSEL.IDX) v.toNat = true ∨ 0x800 ≤ bits v.toNat 11 0) := 
  ⟨⟨drkUp State.reset (3 : Fin 16) psHello, 3, by decide +kernel⟩, ⟨drkUp State.reset (3 : Fin 16) psUp, 3, by decide +kernel⟩, ⟨(drkUp State.reset (3 : Fin 16) psUp).setLane (3 : Fin 16) (1 : Fin 3) ⟨1, 0, [((⟨0x12, 0, 0, 0, 0, [1]⟩ : KmpFrame), (2 : Fin 8).val)], []⟩, 3, 1, ⟨0x12, 0, 0, 0, 0, [1]⟩, 2, by decide +kernel⟩, ⟨(drkUp State.reset (3 : Fin 16) psUp).setLane (3 : Fin 16) (1 : Fin 3) ⟨1, 0, [((⟨0x12, 0, 0, 0, 0, [1]⟩ : KmpFrame), 8)], []⟩, 3, 1, ⟨0x12, 0, 0, 0, 0, [1]⟩, by decide +kernel⟩, ⟨drkUp State.reset (3 : Fin 16) psUp, 3, by decide +kernel⟩, ⟨drkUp State.reset (3 : Fin 16) psHello, 3, aKmp 1 ([1, 1, 0, 15] ++ List.replicate 16 7 ++ [5, 0]), by decide +kernel⟩, ⟨drkUp State.reset (3 : Fin 16) psHello, 3, aKmp 1 ([2, 2, 0, 15] ++ List.replicate 16 7 ++ [5, 0]), by decide +kernel⟩, ⟨drkUp State.reset (3 : Fin 16) psUp, 3, aKmp 2 [], by decide +kernel⟩, ⟨up (drkUp State.reset (3 : Fin 16) psUp) (0x341 : BitVec 12).toNat, 3, aKmp 0x10 [0x34, 0x10, 0x31, 0, 0x42], 0x341, 0x42, by decide +kernel⟩, ⟨drkUp State.reset (3 : Fin 16) psUp, 3, aKmp 0x11 [0x34, 0x10, 0x31, 0], by decide +kernel⟩, ⟨drkUp State.reset (3 : Fin 16) psUp, 3, aKmp 0x20 [0x88], by decide +kernel⟩, ⟨drkUp State.reset (3 : Fin 16) psUp, 3, aKmp 0x30 [0, 0, 0, 14, 0, 7, 0, 0, 0, 2, 1, 0, 1, 9, 0, 0, 0, 5], ⟨some 3, 7, 2, 1, [9], 5⟩, by decide +kernel⟩, ⟨drkUp State.reset (3 : Fin 16) psUp, 3, aKmp 0x31 [0, 7, 0, 0, 0, 2], by decide +kernel⟩, ⟨(drkUp State.reset 3 psUp).wr wDerrick DRK_MAP.EN 0 (State.reset.rd wDerrick DRK_MSEL.IDX), .mp, 0x03000345, by decide +kernel⟩, ⟨(drkUp State.reset 3 psDown).wr wDerrick DRK_MAP.EN 0 (State.reset.rd wDerrick DRK_MSEL.IDX), .mp, 0x83000345, by decide +kernel⟩, ⟨drkUp State.reset (3 : Fin 16) psUp, 3, aKmp 1 [1, 2, 3], 0xB5, by decide +kernel⟩, ⟨(drkUp State.reset (3 : Fin 16) psUp).wr wDerrick DRK_CFG.EN 0, 3, by decide +kernel⟩, ⟨drkUp State.reset (3 : Fin 16) psUp, 3, aKmp 2 [1, 2, 3], 0xB5, by decide +kernel⟩, ⟨(drkUp State.reset (3 : Fin 16) psUp).wr wDerrick DRK_CFG.EN 0, 3, by decide +kernel⟩, ⟨drkUp State.reset (3 : Fin 16) psUp, 3, aKmp 16 [1, 2, 3], 0xB5, by decide +kernel⟩, ⟨(drkUp State.reset (3 : Fin 16) psUp).wr wDerrick DRK_CFG.EN 0, 3, by decide +kernel⟩, ⟨drkUp State.reset (3 : Fin 16) psUp, 3, aKmp 17 [1, 2, 3], 0xB5, by decide +kernel⟩, ⟨(drkUp State.reset (3 : Fin 16) psUp).wr wDerrick DRK_CFG.EN 0, 3, by decide +kernel⟩, ⟨drkUp State.reset (3 : Fin 16) psUp, 3, aKmp 32 [1, 2, 3], 0xB5, by decide +kernel⟩, ⟨(drkUp State.reset (3 : Fin 16) psUp).wr wDerrick DRK_CFG.EN 0, 3, by decide +kernel⟩, ⟨drkUp State.reset (3 : Fin 16) psUp, 3, aKmp 48 [1], 0xB5, by decide +kernel⟩, ⟨(drkUp State.reset (3 : Fin 16) psUp).wr wDerrick DRK_CFG.EN 0, 3, by decide +kernel⟩, ⟨drkUp State.reset (3 : Fin 16) psUp, 3, aKmp 49 [1, 2, 3], 0xB5, by decide +kernel⟩, ⟨(drkUp State.reset (3 : Fin 16) psUp).wr wDerrick DRK_CFG.EN 0, 3, by decide +kernel⟩, ⟨drkUp State.reset (3 : Fin 16) psUp, 3, aKmp 1 ([1, 1, 0, 15] ++ List.replicate 16 7 ++ [5, 0]), by decide +kernel⟩, ⟨drkUp State.reset (3 : Fin 16) psUp, 3, aKmp 0x10 [0x81, 0x10, 0x31, 0, 7], 0x811, by decide +kernel⟩, ⟨(drkUp State.reset (3 : Fin 16) psUp).setPeer (3 : Fin 16) { (drkUp State.reset (3 : Fin 16) psUp).peer (3 : Fin 16) with inReads := List.replicate 4 ⟨5, 2, false, 0, 1, 0⟩ }, 3, aKmp 0x11 [0x34, 0x10, 0x31, 0], by decide +kernel⟩, ⟨(drkUp State.reset (3 : Fin 16) psUp).wr wDerrick DRK_PEER.EVT_EN 0 (3 : Fin 16), 3, aKmp 0x20 [0x88], by decide +kernel⟩, ⟨drkUp State.reset (3 : Fin 16) psUp, 3, aKmp 0x30 [0, 5, 0, 14, 0], by decide +kernel⟩, ⟨drkUp State.reset (3 : Fin 16) psUp, 3, by decide +kernel⟩, ⟨drkUp State.reset (3 : Fin 16) psHello, 3, by decide +kernel⟩, ⟨drkUp State.reset (3 : Fin 16) psHello, 3, by decide +kernel⟩, ⟨drkUp State.reset (3 : Fin 16) psHello, 3, 1, by decide +kernel⟩, ⟨drkUp State.reset 3 psUp, .mp, 0x03000845, by decide +kernel⟩⟩

/-- Every clause of RemoteReadsComplete has a state and operands that meet its hypotheses. -/
theorem witness_RemoteReadsComplete :
    (∃ (s : State) (n : Fin 16) (tag : Nat) (org : Nat) (fence : Nat) (w : BitVec 12), (s.peer n).inReads = [⟨tag, org, false, w.toNat * 4096 + 0x31, 1, fence⟩] ∧ s.fenced n ⟨tag, org, false, w.toNat * 4096 + 0x31, 1, fence⟩ = true ∧ ReadOpen s (.peer n) w.toNat ∧ isRemote w.toNat = false) ∧
    (∃ (s : State) (n : Fin 16) (r : InRead) (l : List InRead), (s.lane n 1).wait = [] ∧ (s.peer n).inReads = r :: l) ∧
    (∃ (s : State) (n : Fin 16) (f : KmpFrame), (s.lane n 1).wait = [f] ∧ isPerformed f = true) ∧
    (∃ (s : State) (n : Fin 16) (f : KmpRx) (r : OutRead), KmpAccepted s n kmpResponse f ∧ s.drk.reads = [r] ∧ r.peer = n.val ∧ r.tag = f.tag.toNat ∧ r.sent = true ∧ r.why = .mp ∧ (payload f).headD 0 = spiOk ∧ (payload f).length = r.len + 1 ∧ bit f.flags.toNat 6 = false ∧ s.drk.readQ = [] ∧ s.drk.fetchQ = []) ∧
    (∃ (s : State) (n : Fin 16) (f : KmpRx) (r : OutRead), KmpAccepted s n kmpResponse f ∧ s.drk.reads = [r] ∧ r.peer = n.val ∧ r.tag = f.tag.toNat ∧ r.sent = true ∧ payload f = [spiRetry] ∧ bit f.flags.toNat 6 = false) ∧
    (∃ (s : State) (r : OutRead), s.drk.reads = [r] ∧ r.sent = false) ∧
    (∃ (s : State) (r : OutRead), s.drk.reads = [r] ∧ s.drk.readQ = [] ∧ s.drk.fetchQ = [] ∧ r.why = .mp) ∧
    (∃ (s : State) (n : Fin 16), s.peerState n = psUp ∧ s.feature n 1 = true ∧ s.on wDerrick DRK_PEER.EVT_EN n = true) ∧
    (∃ (s : State) (n : Fin 16), s.peerState n = psUp ∧ s.feature n 0 = true ∧ s.on wDerrick DRK_PEER.EVT_EN n = false ∧ s.trackerFree = true) ∧
    (∃ (s : State) (n : Fin 16) (f : KmpRx) (x : Nat), s.kmpOn n = true ∧ s.kmpFault n kmpResponse f = some x) ∧
    (∃ (s : State) (n : Fin 16), s.kmpOn n = false ∧ s.fab.handed = []) ∧
    (∃ (s : State) (n : Fin 16), takeFirst (s.fenced n) (s.peer n).inReads = none) ∧
    (∃ (s : State) (n : Fin 16), dropPerformed (s.lane n 1).wait = none ∧ (s.peer n).inReads = []) ∧
    (∃ (s : State) (n : Fin 16) (f : KmpRx), KmpAccepted s n kmpResponse f ∧ s.drk.reads = [] ∧ s.drk.readQ = [] ∧ s.drk.fetchQ = []) ∧
    (∃ (s : State) (n : Fin 16) (f : KmpRx) (r : OutRead), KmpAccepted s n kmpResponse f ∧ s.drk.reads = [r] ∧ r.peer = n.val ∧ r.tag = f.tag.toNat ∧ r.sent = true ∧ r.why = .mp ∧ payload f = [spiError] ∧ bit f.flags.toNat 6 = false ∧ s.drk.readQ = [] ∧ s.drk.fetchQ = []) ∧
    (∃ (s : State) (k : Fin 16) (r : OutRead), s.drk.reads[k.val]? = some r ∧ r.sent = true) ∧
    (∃ (s : State), s.drk.reads = [] ∧ s.drk.readQ = []) ∧
    (∃ (s : State) (n : Fin 16), s.peerState n ≠ psUp ∨ s.feature n 0 = false) ∧
    (∃ (s : State), (∀ n : Fin 16, s.peerState n ≠ psUp)) := 
  ⟨⟨(up (drkUp State.reset (3 : Fin 16) psUp) (0x341 : BitVec 12).toNat).setPeer (3 : Fin 16) { (drkUp State.reset (3 : Fin 16) psUp).peer (3 : Fin 16) with inReads := [⟨(5 : Nat), (2 : Nat), false, (0x341 : BitVec 12).toNat * 4096 + 0x31, 1, (0 : Nat)⟩] }, 3, 5, 2, 0, 0x341, by decide +kernel⟩, ⟨(drkUp State.reset (3 : Fin 16) psUp).setPeer (3 : Fin 16) { (drkUp State.reset (3 : Fin 16) psUp).peer (3 : Fin 16) with inReads := (⟨5, 2, false, 0, 1, 0⟩ : InRead) :: ([] : List InRead) }, 3, ⟨5, 2, false, 0, 1, 0⟩, [], by decide +kernel⟩, ⟨(drkUp State.reset (3 : Fin 16) psUp).setLane (3 : Fin 16) 1 ⟨1, 0, [], [(⟨0x12, 0, 0, 0, 0, [0x3C, 1]⟩ : KmpFrame)]⟩, 3, ⟨0x12, 0, 0, 0, 0, [0x3C, 1]⟩, by decide +kernel⟩, ⟨(drkUp State.reset (3 : Fin 16) psUp).setDrk { (drkUp State.reset (3 : Fin 16) psUp).drk with reads := [(aRead .mp 3 true : OutRead)] }, 3, aKmp 0x12 [0x3C, 7], aRead .mp 3 true, by decide +kernel⟩, ⟨(drkUp State.reset (3 : Fin 16) psUp).setDrk { (drkUp State.reset (3 : Fin 16) psUp).drk with reads := [(aRead .mp 3 true : OutRead)] }, 3, aKmp 0x12 [0x5A], aRead .mp 3 true, by decide +kernel⟩, ⟨(drkUp State.reset 3 psUp).setDrk { (drkUp State.reset 3 psUp).drk with reads := [(aRead .mp 3 false : OutRead)] }, aRead .mp 3 false, by decide +kernel⟩, ⟨(drkUp State.reset 3 psUp).setDrk { (drkUp State.reset 3 psUp).drk with reads := [(aRead .mp 3 true : OutRead)] }, aRead .mp 3 true, by decide +kernel⟩, ⟨drkUp State.reset (3 : Fin 16) psUp, 3, by decide +kernel⟩, ⟨(drkUp State.reset (3 : Fin 16) psUp).wr wDerrick DRK_PEER.EVT_EN 0 (3 : Fin 16), 3, by decide +kernel⟩, ⟨drkUp State.reset (3 : Fin 16) psUp, 3, aKmp 18 [1, 2, 3], 0xB5, by decide +kernel⟩, ⟨(drkUp State.reset (3 : Fin 16) psUp).wr wDerrick DRK_CFG.EN 0, 3, by decide +kernel⟩, ⟨drkUp State.reset (3 : Fin 16) psUp, 3, by decide +kernel⟩, ⟨drkUp State.reset (3 : Fin 16) psUp, 3, by decide +kernel⟩, ⟨drkUp State.reset (3 : Fin 16) psUp, 3, aKmp 0x12 [0x3C, 7], by decide +kernel⟩, ⟨(drkUp State.reset (3 : Fin 16) psUp).setDrk { (drkUp State.reset (3 : Fin 16) psUp).drk with reads := [(aRead .mp 3 true : OutRead)] }, 3, aKmp 0x12 [0xA5], aRead .mp 3 true, by decide +kernel⟩, ⟨(drkUp State.reset 3 psUp).setDrk { (drkUp State.reset 3 psUp).drk with reads := [(aRead .mp 3 true : OutRead)] }, 0, aRead .mp 3 true, by decide +kernel⟩, ⟨drkUp State.reset 3 psUp, by decide +kernel⟩, ⟨drkUp State.reset (3 : Fin 16) psHello, 3, by decide +kernel⟩, ⟨(List.range 16).foldl (fun s n => s.setPeerState n psHello) (drkUp State.reset 3 psHello), by decide +kernel⟩⟩

/-- Every clause of LegacyFramesComplete has a state and operands that meet its hypotheses. -/
theorem witness_LegacyFramesComplete :
    (∃ (s : State), s.gxOn = true ∧ s.leg.framing = true ∧ s.uncfg = false) ∧
    (∃ (s : State), s.gxOn = true ∧ s.leg.framing = true ∧ s.uncfg = true) ∧
    (∃ (s : State), s.gxOn = true ∧ s.leg.framing = true ∧ s.uncfg = false) ∧
    (∃ (s : State), s.gxOn = true ∧ s.leg.framing = true) ∧
    (∃ (s : State), s.gxOn = true ∧ s.leg.framing = true ∧ s.uncfg = false ∧ s.tblOwner ≠ 0) ∧
    (∃ (s : State) (k : Byte), s.gxOn = true ∧ s.leg.framing = true ∧ s.uncfg = false ∧ s.tblOwner = 0 ∧ s.tblBusy = false ∧ s.isSafe wTables = false ∧ ((s.slotEntries k.toNat).any fun e => s.stageBlocked e.win e.idx) = false ∧ bit (s.slotByte k.toNat 0) 7 = false ∧ s.bench.touched = [] ∧ s.bench.ovf = []) ∧
    (∃ (s : State), s.gxOn = true ∧ s.leg.framing = true ∧ s.uncfg = false) ∧
    (∃ (s : State) (p : Fin 6) (m : Fin 16) (v : Byte), s.gxOn = true ∧ s.leg.framing = true ∧ s.uncfg = false ∧ LegacyOpen s (wCan p) 0x201 ∧ s.storeRefusedFor p m = false ∧ bit v.toNat 4 = false) ∧
    (∃ (s : State), s.gxOn = true ∧ s.leg.framing = true ∧ s.uncfg = false) ∧
    (∃ (s : State) (n : Fin 24), s.gxOn = true ∧ s.leg.framing = true ∧ s.uncfg = false ∧ LegacyOpen s (wCh (12 + n.val)) 0x142 ∧ s.rd (wCh (12 + n.val)) CH_PERIOD.PERIOD = 5000 ∧ isHalf (12 + n.val) = false) ∧
    (∃ (s : State) (p : Fin 6), s.gxOn = true ∧ s.leg.framing = true ∧ s.uncfg = false ∧ LegacyOpen s (wCan p) 0x170 ∧ s.on (wCan p) CAN_CFG.EN = false ∧ s.xbBitsOk p = true ∧ s.isSafe (wCan p) = false ∧ 80 ≤ 5 * quanta (s.xbBits p).1 (s.xbBits p).2.1 ∧ s.canState p = canOff ∧ s.rd (wCan p) CAN_CFG.FD_EN = 0 ∧ s.rd (wCan p) CAN_CFG.XL_EN = 0 ∧ s.rd (wCanT p) CANT_MODE.MODE = 0) ∧
    (∃ (s : State), s.gxOn = true ∧ s.leg.framing = true ∧ s.uncfg = false ∧ s.legMode = 1) ∧
    (∃ (s : State), s.gxOn = true ∧ s.leg.framing = true ∧ s.uncfg = false ∧ s.legMode = 2 ∧ recSlots s.legacyRecs = []) ∧
    (∃ (s : State), s.gxOn = true ∧ s.leg.framing = true ∧ s.uncfg = false ∧ s.legMode = 1 ∧ LegacyOpen s wPwr 0x141 ∧ s.on wPwr PWR_CTRL.PARK = false ∧ s.isSafe wPwr = false ∧ s.pwr.tampered = false) ∧
    (∃ (s : State), s.gxOn = true ∧ s.leg.framing = true ∧ s.uncfg = false ∧ s.legMode = 2) ∧
    (∃ (s : State), s.gxOn = true ∧ s.leg.framing = true ∧ s.uncfg = false ∧ s.legMode = 1 ∧ s.leg.upd.length < 8) ∧
    (∃ (s : State), s.gxOn = true ∧ s.leg.framing = true ∧ s.uncfg = false ∧ s.legMode = 1 ∧ s.leg.upd.length = 12 ∧ beAt s.leg.upd 7 2 = 0) ∧
    (∃ (s : State), s.gxOn = true ∧ s.leg.framing = true ∧ s.uncfg = false ∧ s.legMode = 1 ∧ s.stg = stgInstalled ∧ s.upd.kind = 1 ∧ s.onTrial = false ∧ s.ax0.sec < 2 ^ 47 ∧ s.ax0.ns < 1000000000) ∧
    (∃ (n : Nat) (c : Instr) (s : State), IsLegacyFrame n c = true ∧ s.gxOn = false) ∧
    (∃ (c : Instr) (s : State), IsLegacyFrame 3 c = true ∧ s.gxOn = true ∧ s.leg.framing = false) ∧
    (∃ (s : State) (l : List Byte), s.gxOn = true ∧ s.leg.framing = false ∧ 3 < l.length) ∧
    (∃ (s : State) (l : List Byte), s.gxOn = true ∧ s.leg.framing = false ∧ 3 < l.length) ∧
    (∃ (s : State) (l : List Byte), s.gxOn = true ∧ s.leg.framing = true ∧ l.length ≠ 3) ∧
    (∃ (s : State) (l : List Byte), s.gxOn = true ∧ s.leg.framing = true ∧ l.length ≠ 3 ∧ l ≠ []) ∧
    (∃ (c : Instr) (s : State), IsLegacyPut c = true ∧ s.gxOn = true ∧ s.leg.framing = true ∧ s.uncfg = true) ∧
    (∃ (s : State), s.gxOn = true ∧ s.leg.framing = true ∧ s.uncfg = true) ∧
    (∃ (s : State), s.gxOn = true ∧ s.leg.framing = true ∧ s.uncfg = true) ∧
    (∃ (s : State) (k : Byte), s.gxOn = true ∧ s.leg.framing = true ∧ s.uncfg = false ∧ s.tblOwner = 0 ∧ s.tblBusy = false ∧ 8 < (s.slotDests k.toNat).length) ∧
    (∃ (s : State) (p : Fin 6) (m : Fin 16), s.gxOn = true ∧ s.leg.framing = true ∧ s.uncfg = false ∧ LegacyOpen s (wCan p) 0x201 ∧ s.storeRefusedFor p m = true) ∧
    (∃ (s : State) (p : Fin 6), s.gxOn = true ∧ s.leg.framing = true ∧ s.uncfg = false ∧ s.on (wCan p) CAN_CFG.EN = false ∧ s.xbBitsOk p = false) ∧
    (∃ (s : State), s.gxOn = true ∧ s.leg.framing = true ∧ s.uncfg = false ∧ s.legMode = 2 ∧ recSlots s.legacyRecs ≠ [] ∧ s.tblOwner ≠ 0) ∧
    (∃ (s : State), s.gxOn = true ∧ s.leg.framing = true ∧ s.uncfg = false ∧ s.legMode = 1 ∧ LegacyOpen s wPwr 0x141 ∧ s.pwr.tampered = true ∨ s.isSafe wPwr = true ∨ s.on wPwr PWR_CTRL.PARK = true) ∧
    (∃ (s : State), s.gxOn = true ∧ s.leg.framing = true ∧ s.uncfg = false ∧ s.legMode = 2) ∧
    (∃ (s : State), s.gxOn = true ∧ s.leg.framing = true ∧ s.uncfg = false ∧ s.legMode = 2) ∧
    (∃ (s : State), s.gxOn = true ∧ s.leg.framing = true ∧ s.uncfg = false ∧ s.legMode = 1 ∧ s.stg ≠ stgInstalled) ∧
    (∃ (s : State) (p : Fin 6), s.gxOn = true ∧ s.leg.framing = true ∧ s.uncfg = false ∧ LegacyOpen s (wCan p) 0x170 ∧ s.on (wCan p) CAN_CFG.EN = false ∧ s.xbBitsOk p = true ∧ s.isSafe (wCan p) = true ∨ 5 * quanta (s.xbBits p).1 (s.xbBits p).2.1 < 80) := 
  ⟨⟨legUp State.reset 1, by decide +kernel⟩, ⟨(legUp State.reset 1).wr wUpd UPD_CFG_STAT.UNCFG 1, by decide +kernel⟩, ⟨legUp State.reset 1, by decide +kernel⟩, ⟨legUp State.reset 1, by decide +kernel⟩, ⟨(legUp State.reset 1).wr wTables TBL_OWNER.OWNER 2, by decide +kernel⟩, ⟨((tabUp (legUp State.reset 1) .mp).wr wTables TBL_OWNER.OWNER 0).setLeg { (legUp State.reset 1).leg with slots := [] }, 3, by decide +kernel⟩, ⟨legUp State.reset 1, by decide +kernel⟩, ⟨((legUp (up State.reset (wCan (3 : Fin 6).val)) 1).wr (wCan (3 : Fin 6).val) CAN_OBJ_VIEW.TXRQ 0 ((4 : Fin 16).val + 1)).setLeg { (legUp State.reset 1).leg with boxes := [] }, 3, 4, 0x40, by decide +kernel⟩, ⟨legUp State.reset 1, by decide +kernel⟩, ⟨legUp (chUp State.reset (12 + (3 : Fin 24).val) 0) 1, 3, by decide +kernel⟩, ⟨(((legUp (canUp State.reset (3 : Fin 6).val canOff) 1).wr (wCan (3 : Fin 6).val) CAN_CFG.EN 0).wr (wCan (3 : Fin 6).val) CAN_CFG.FD_EN 0).setLeg { (legUp State.reset 1).leg with timing := [(4 * (3 : Fin 6).val + 1, 10), (4 * (3 : Fin 6).val + 2, 5)] }, 3, by decide +kernel⟩, ⟨legUp State.reset 1, by decide +kernel⟩, ⟨(legUp State.reset 2).setCfg { State.reset.cfg with image := [] }, by decide +kernel⟩, ⟨legUp (parkUp State.reset) 1, by decide +kernel⟩, ⟨legUp (parkUp State.reset) 2, by decide +kernel⟩, ⟨(legUp State.reset 1).setLeg { (legUp State.reset 1).leg with upd := [1, 2] }, by decide +kernel⟩, ⟨(legUp State.reset 1).setLeg { (legUp State.reset 1).leg with upd := [0, 7, 0, 0, 0, 2, 1, 0, 0, 1, 2, 3] }, by decide +kernel⟩, ⟨legUp (updUp State.reset stgInstalled) 1, by decide +kernel⟩, ⟨3, .legacySrst, State.reset, by decide +kernel⟩, ⟨.legacySrst, up State.reset wHost, by decide +kernel⟩, ⟨up State.reset wHost, [1, 2, 3, 4], by decide +kernel⟩, ⟨up State.reset wHost, [1, 2, 3, 4], by decide +kernel⟩, ⟨legUp State.reset 1, [1, 2], by decide +kernel⟩, ⟨legUp State.reset 1, [1, 2], by decide +kernel⟩, ⟨.legacySrst, (legUp State.reset 1).wr wUpd UPD_CFG_STAT.UNCFG 1, by decide +kernel⟩, ⟨(legUp State.reset 1).wr wUpd UPD_CFG_STAT.UNCFG 1, by decide +kernel⟩, ⟨(legUp State.reset 1).wr wUpd UPD_CFG_STAT.UNCFG 1, by decide +kernel⟩, ⟨(tabUp (legUp State.reset 1) .mp |>.wr wTables TBL_OWNER.OWNER 0).setLeg { (legUp State.reset 1).leg with slots := [(57, 0x3F), (58, 0xF)] }, 3, by decide +kernel⟩, ⟨(legUp (up State.reset (wCan (3 : Fin 6).val)) 1).wr (wCan (3 : Fin 6).val) CAN_OBJ_VIEW.TXRQ 1 ((4 : Fin 16).val + 1), 3, 4, by decide +kernel⟩, ⟨(((legUp (canUp State.reset (3 : Fin 6).val canOff) 1).wr (wCan (3 : Fin 6).val) CAN_CFG.EN 0)).setLeg { (legUp State.reset 1).leg with timing := [(4 * (3 : Fin 6).val + 1, 1), (4 * (3 : Fin 6).val, 64), (4 * (3 : Fin 6).val + 2, 8), (4 * (3 : Fin 6).val + 3, 4)] }, 3, by decide +kernel⟩, ⟨((legUp State.reset 2).wr wTables TBL_OWNER.OWNER 2).setCfg { State.reset.cfg with image := [⟨0, 0x80, true, false, 1, 0, 0, 0, 0, [], [.legacy 0x103F 1]⟩] }, by decide +kernel⟩, ⟨(legUp (parkUp State.reset) 1).wr wPwr PWR_CTRL.PARK 1, by decide +kernel⟩, ⟨legUp State.reset 2, by decide +kernel⟩, ⟨legUp (updUp State.reset stgInstalled) 2, by decide +kernel⟩, ⟨legUp (updUp State.reset stgArmed) 1, by decide +kernel⟩, ⟨(((legUp (canUp State.reset (3 : Fin 6).val canOff) 1).wr (wCan (3 : Fin 6).val) CAN_CFG.EN 0)).setLeg { (legUp State.reset 1).leg with timing := [(4 * (3 : Fin 6).val + 1, 4), (4 * (3 : Fin 6).val, 1), (4 * (3 : Fin 6).val + 2, 2), (4 * (3 : Fin 6).val + 3, 1)] }, 3, by decide +kernel⟩⟩

/-- Every clause of StepRunsTheFrontCommand has a state and operands that meet its hypotheses. -/
theorem witness_StepRunsTheFrontCommand :
    (∃ (c : Instr) (s : State) (rest : List Instr), s.pending = c :: rest) ∧
    (∃ s : State, s.pending = []) := 
  ⟨⟨.borEnd, State.reset.setPending [.borEnd], [], rfl⟩, ⟨State.reset, rfl⟩⟩

/-- Every clause of StepKeepsCanon has a state and operands that meet its hypotheses. -/
theorem witness_StepKeepsCanon :
    (∃ s t : State, Canon s ∧ step s = .next t) := 
  ⟨State.reset, State.reset.idle, by unfold Canon; decide +kernel, rfl⟩

/-- Every clause of BusyCommandIsAViolation has a state and operands that meet its hypotheses. -/
theorem witness_BusyCommandIsAViolation :
    (∃ (s : State) (init : Initiator) (w : Nat) (f : Field) (b : Byte), f ∈ fieldsAt w ∧ f.acc = .cmd ∧ WriteOpen s init w f.ofs ∧ (f = ETH_MDIO_CTRL.GO → w < wEth 6) ∧ b.getLsbD f.lo = true ∧ s.on w f (s.selOf w f.ofs) = true) ∧
    (∃ (s : State) (init : Initiator), WriteOpen s init wL2 L2_CMD.GO.ofs ∧ s.on wL2 L2_CMD.GO = true) := 
  ⟨⟨(up State.reset wL2).wr wL2 L2_CMD.GO 1, .spi, wL2, L2_CMD.GO, 0x80, by decide +kernel⟩, ⟨(up State.reset wL2).wr wL2 L2_CMD.GO 1, .spi, by decide +kernel⟩⟩

/-- Every clause of TwoCommandsInOneWriteAreRefused has a state and operands that meet its hypotheses. -/
theorem witness_TwoCommandsInOneWriteAreRefused :
    (∃ (s : State) (init : Initiator) (w ofs : Nat) (b : Byte), WriteOpen s init w ofs ∧ ofs < 4096 ∧ 2 ≤ ((fieldsIn w ofs).filter fun f => f.acc == .cmd && b.getLsbD f.lo).length ∧ s.rd w VIOL_ADDR.INIT = 0) := 
  ⟨up State.reset (wCh 3), .spi, wCh 3, 0x143, 0xC0, by decide +kernel⟩

/-- Every clause of ClearingStickyBitsClearsTheirRecords has a state and operands that meet its hypotheses. -/
theorem witness_ClearingStickyBitsClearsTheirRecords :
    (∃ (s : State) (init : Initiator) (w : BitVec 12) (b : Byte), WriteOpen s init w.toNat 0x21 ∧ s.on w.toNat UNIT_STICKY.VIOL = true ∧ b.getLsbD 6 = true) ∧
    (∃ (s : State) (init : Initiator) (w : BitVec 12) (b : Byte), WriteOpen s init w.toNat 0x21 ∧ s.on w.toNat UNIT_STICKY.CFG_PARITY = true ∧ b.getLsbD 7 = true ∧ s.rd w.toNat FAULT_ADDR.CAUSE = 1) ∧
    (∃ (s : State) (init : Initiator) (w : BitVec 12) (b : Byte), WriteOpen s init w.toNat 0x21 ∧ s.on w.toNat UNIT_STICKY.FAULT = true ∧ b.getLsbD 4 = true ∧ 2 ≤ s.rd w.toNat FAULT_ADDR.CAUSE ∧ s.rd w.toNat FAULT_ADDR.CAUSE ≤ 4) ∧
    (∃ (s : State) (init : Initiator) (w : Nat) (f : Field) (b : Byte), f ∈ fieldsAt w ∧ f.acc = .cmd ∧ WriteOpen s init w f.ofs ∧ (f = ETH_MDIO_CTRL.GO → w < wEth 6) ∧ b.getLsbD f.lo = true ∧ s.on w f (s.selOf w f.ofs) = true ∧ s.rd w VIOL_ADDR.INIT = 0) ∧
    (∃ (s : State) (w : BitVec 12) (k : Fin 512), (unitOf w.toNat).isSome = true ∧ s.unitState w.toNat ≠ usOff ∧ parityGroup w.toNat k.val = true ∧ s.rd w.toNat FAULT_ADDR.CAUSE = 0) ∧
    (∃ (s : State) (w : BitVec 12), (unitOf w.toNat).isSome = true ∧ w.toNat ≠ wMP ∧ s.unitState w.toNat = usReady ∨ s.unitState w.toNat = usSafe ∧ s.pwr.mpRun = true ∧ s.unitState wMP = usReady ∧ s.rd w.toNat FAULT_ADDR.CAUSE = 0) := 
  ⟨⟨((up State.reset (0x210 : BitVec 12).toNat).wr (0x210 : BitVec 12).toNat UNIT_STICKY.VIOL 1).wr (0x210 : BitVec 12).toNat VIOL_ADDR.WDATA 7, .spi, 0x210, 0x40, by decide +kernel⟩, ⟨(((up State.reset (0x210 : BitVec 12).toNat).wr (0x210 : BitVec 12).toNat UNIT_STICKY.CFG_PARITY 1).wr (0x210 : BitVec 12).toNat FAULT_ADDR.CAUSE 1).wr (0x210 : BitVec 12).toNat FAULT_ADDR.OFS 8, .spi, 0x210, 0x80, by decide +kernel⟩, ⟨(((up State.reset (0x210 : BitVec 12).toNat).wr (0x210 : BitVec 12).toNat UNIT_STICKY.FAULT 1).wr (0x210 : BitVec 12).toNat FAULT_ADDR.CAUSE 2).wr (0x210 : BitVec 12).toNat FAULT_ADDR.OFS 8, .spi, 0x210, 0x10, by decide +kernel⟩, ⟨(up State.reset wL2).wr wL2 L2_CMD.GO 1, .spi, wL2, L2_CMD.GO, 0x80, by decide +kernel⟩, ⟨up State.reset (0x210 : BitVec 12).toNat, 0x210, 0x28, by decide +kernel⟩, ⟨(up (up State.reset (0x210 : BitVec 12).toNat) wMP), 0x210, by decide +kernel⟩⟩

/-- Every clause of UnassignedWindows has a state and operands that meet its hypotheses. -/
theorem witness_UnassignedWindows :
    (∃ w, unitOf w = none) ∧
    (∃ (s : State) (init : Initiator) (a : Addr), unitOf (a.toNat / 4096) = none ∧ isRemote (a.toNat / 4096) = false ∧ s.reaches init.code = true) ∧
    (∃ (s : State) (a : Addr), unitOf (a.toNat / 4096) = none ∧ isRemote (a.toNat / 4096) = false) ∧
    (∃ (s : State) (w v : Nat) (u : Machine.Unit), unitOf w = some u ∧ v ∈ [s.descLink w u / 2 ^ 32, s.descLink w u / 2 ^ 16 % 2 ^ 16, s.descLink w u % 2 ^ 16]) := 
  ⟨⟨0x7FF, rfl⟩, ⟨up State.reset 0, .mp, 0x7FF000, by decide +kernel⟩, ⟨State.reset, 0x7FF000, by decide +kernel⟩, ⟨State.reset, 0, 0, ⟨1, 0, 0, dieGroup, .root⟩, by decide +kernel⟩⟩

/-- Every clause of FanoutsStayInTheModule has a state and operands that meet its hypotheses. -/
theorem witness_FanoutsStayInTheModule :
    (∃ (s : State) (w v : Nat), v ∈ s.fanReach w) ∧
    (∃ (c : Instr) (s t : State), (∀ f ∈ s.fans, ∀ v ∈ f.todo, v ∈ fixedWindows ∧ isRemote v = false) ∧ exec c s = .next t) := 
  ⟨⟨State.reset, 0x260, 0x210, by decide +kernel⟩, ⟨.borEnd, State.reset, _, by decide +kernel, rfl⟩⟩

/-- Every clause of TalliesSaturate has a state and operands that meet its hypotheses. -/
theorem witness_TalliesSaturate :
    (∃ (s : State) (w : Nat) (f : Field) (i : Nat), f ∈ fieldsAt w ∧ f.acc = .tally ∧ s.rd w f i < 2 ^ f.width) ∧
    (∃ (s : State) (p : Fin 16), s.ethState p = ethUp ∧ s.rd (wEth p) ETH_LINK_DOWNS.COUNT = 2 ^ ETH_LINK_DOWNS.COUNT.width - 1) := 
  ⟨⟨State.reset, wFabric, FAB_DELIVERED.COUNT, 0, by decide +kernel⟩, ⟨((up State.reset (wEth (3 : Fin 16))).wr (wEth (3 : Fin 16)) ETH_STATE.STATE 2).wr (wEth (3 : Fin 16)) ETH_LINK_DOWNS.COUNT 0xFFFFFFFF, 3, by decide +kernel⟩⟩


/-! ## What WellFormed refuses, one term for each check -/

def longList (n : Nat) : List Byte := List.replicate n 0

def aDesc (n : Nat) : RingDesc := { buf := 0, len := 4, sop := true, eop := true, tsreq := false, tag := 0, mem := longList n }

def aSect (blocks : List BlockReads) : ImgSection :=
  { idx := 0, ty := 1, mand := true, restart := false, phase := 1, ofs := 0, len := 0, target := 0, digest := 0, blocks := blocks, recs := [] }

def aSlot (l : List ImgSection) : SlotImage := { head := [], ecdsaOk := true, hssOk := true, sects := l }

def manyImages : FwDir :=
  { raise := false, svn := 0, seq := 0, images := List.replicate 12 { ty := 1, version := 0, ofs := 0, len := 0, sha := 0 } }

theorem test_wf_pcie_read : Instr.wellFormed (.pcieReadRequest .bar0 0 4097 0) = false := by decide +kernel
theorem test_wf_pcie_write : Instr.wellFormed (.pcieWriteRequest .bar0 0 (longList 4097)) = false := by decide +kernel
theorem test_wf_ring_desc : Instr.wellFormed (.ringDescFetch true 0 (aDesc 5)) = false := by decide +kernel
theorem test_wf_launch : Instr.wellFormed (.launchFetch 0 [aDesc 4, aDesc 5]) = false := by decide +kernel
theorem test_wf_bank_images : Instr.wellFormed (.nvmSfdpStepUp none (some manyImages) []) = false := by decide +kernel
theorem test_wf_bank_types : Instr.wellFormed (.nvmSfdpStepUp none none [12]) = false := by decide +kernel
theorem test_wf_slot_block : Instr.wellFormed (.configSlotSelect (aSlot [aSect [[longList 4095]]]) (aSlot [])) = false := by decide +kernel
theorem test_wf_slot_blocks : Instr.wellFormed (.configSlotSelect (aSlot []) (aSlot [aSect (List.replicate 2049 [])])) = false := by decide +kernel
theorem test_wf_slot_sections : Instr.wellFormed (.configSlotSelect (aSlot []) (aSlot (List.replicate 201 (aSect [])))) = false := by decide +kernel
theorem test_wf_slot_head (n : Nat) (h : 49168 < n) :
    Instr.wellFormed (.configSlotSelect { aSlot [] with head := [longList n] } (aSlot [])) = false := by
  have : ¬ n ≤ 49168 := by omega
  simp [Instr.wellFormed, SlotImage.fits, aSlot, longList, this]
theorem test_wf_stage_none : Instr.wellFormed (.stageEntryWrite .mp .vlan []) = false := by decide +kernel
theorem test_wf_stage_long : Instr.wellFormed (.stageEntryWrite .mp .vlan (longList 129)) = false := by decide +kernel
theorem test_wf_eth : Instr.wellFormed (.ethFrameReceived 0 (.more (longList 16385))) = false := by decide +kernel
theorem test_wf_can_length : Instr.wellFormed (.canFrameReceived 0 (canRx [1, 2])) = false := by decide +kernel
theorem test_wf_can_base_id : Instr.wellFormed (.canFrameReceived 0 { canRx [1, 2, 3] with id := 2048 }) = false := by decide +kernel
theorem test_wf_gptp : Instr.wellFormed (.gptpFrameReceived 0 (longList 16385) 0 0) = false := by decide +kernel
theorem test_wf_gptp_stamp : Instr.wellFormed (.gptpFrameReceived 0 [] 0 1000000000) = false := by decide
theorem test_wf_act_types : Instr.wellFormed (.updActivationStep [0] none) = false := by decide +kernel
theorem test_wf_act_image : Instr.wellFormed (.updActivationStep [] (some (aSlot [aSect [[longList 4095]]]))) = false := by decide +kernel
theorem test_wf_kmp_hello : Instr.wellFormed (.kmpHelloReceived 0 (aKmp 1 (longList 16385))) = false := by decide +kernel
theorem test_wf_kmp_keepalive : Instr.wellFormed (.kmpKeepaliveReceived 0 (aKmp 1 (longList 16385))) = false := by decide +kernel
theorem test_wf_kmp_write : Instr.wellFormed (.kmpWriteReceived 0 (aKmp 1 (longList 16385))) = false := by decide +kernel
theorem test_wf_kmp_read : Instr.wellFormed (.kmpReadReceived 0 (aKmp 1 (longList 16385))) = false := by decide +kernel
theorem test_wf_kmp_response : Instr.wellFormed (.kmpResponseReceived 0 (aKmp 1 (longList 16385))) = false := by decide +kernel
theorem test_wf_kmp_event : Instr.wellFormed (.kmpEventReceived 0 (aKmp 1 (longList 16385))) = false := by decide +kernel
theorem test_wf_kmp_seg : Instr.wellFormed (.kmpUpdSegReceived 0 (aKmp 1 (longList 16385))) = false := by decide +kernel
theorem test_wf_kmp_ack : Instr.wellFormed (.kmpUpdAckReceived 0 (aKmp 1 (longList 16385))) = false := by decide +kernel
theorem test_wf_good : Instr.wellFormed (.canFrameReceived 0 (canRx [1, 2, 3])) = true := by decide +kernel

/-! ## One step each, the expected value from the spec's text -/

/-- What a step leads to, where it answers a next state. -/
def stepTo (s : State) (c : Instr) (p : State → Bool) : Bool := match step (s.setPending [c]) with
  | .next t => p t
  | _ => false

/-- R49: CH210's DESC_IFV is 1.2; a driver of major 2 is met with 1.0 and VBASE. -/
theorem test_handshake_other_major :
    stepTo (up State.reset 0x210) (.interfaceHandshake .mp 0x210 2 0) (fun t =>
      t.rd 0x210 DESC_ACT.ACT_MAJ == 1 && t.rd 0x210 DESC_ACT.ACT_MIN == 0 && t.on 0x210 DESC_SUMMARY.VBASE) = true := by decide +kernel

/-- R87: under LOCK a write by SPI is refused with kind 3. -/
theorem test_locked_write :
    stepTo ((up State.reset 0x210).wr 0x210 UNIT_CTRL.LOCK 1) (.registerWrite .spi 0x210140 0x55) (fun t =>
      t.rd 0x210 VIOL_ADDR.KIND == 3 && t.rd 0x210 VIOL_ADDR.ADDR == 0x210140) = true := by decide +kernel

/-- R14: the most significant byte of a tally clears it. -/
theorem test_tally_snapshot :
    stepTo ((up State.reset wFabric).wr wFabric FAB_DELIVERED.COUNT 0x01020304) (.tallySnapshotRead .mp 0x010140) (fun t =>
      t.outs == [.readData 3 [1]] && t.rd wFabric FAB_DELIVERED.COUNT == 0) = true := by decide +kernel

/-- MODE strap: 500 mV is code 2. -/
theorem test_mode_code :
    stepTo (State.reset.setPwr { State.reset.pwr with modeDue := true }) (.modeSample 500) (fun t => t.rd wSup SUP_STRAP.MODE_CODE == 2) = true := by
  decide +kernel

/-- An empty queue: a cycle passes and no register changes. -/
theorem test_idle : (match step State.reset with | .next t => t.clk == 1 && t.regs == [] | _ => false) = true := by decide +kernel

/-- The table gives its rows no bits: no word spells a command. -/
theorem test_no_word : decodeTableWord 32 0xFFFFFFFF = none := rfl

end Sys2Proof.Tests
end

/-! SUPPORT. Which registers an operation leaves alone, as a relation between two states that composes. -/

namespace Sys2Proof.Machine

-- One proof after the other, as in the tests: proofs elaborated side by side after so long a text exhaust the memory for threads.
set_option Elab.async false

/-- From s to t every register field whose key is in K reads as before. -/
structure KeepsKeys (K : Nat → Prop) (s t : State) : Prop where
  rd : ∀ {w f i}, K (f.key w i) → t.rd w f i = s.rd w f i

section
variable {K : Nat → Prop} {s t u : State}

theorem KeepsKeys.refl (K : Nat → Prop) (s : State) : KeepsKeys K s s := ⟨fun _ => rfl⟩

theorem KeepsKeys.trans (h : KeepsKeys K s t) (g : KeepsKeys K t u) : KeepsKeys K s u :=
  ⟨fun hk => (g.rd hk).trans (h.rd hk)⟩

theorem KeepsKeys.of_regs (h : t.regs = s.regs) : KeepsKeys K s t := ⟨fun _ => State.rd_congr h ..⟩

/-- A key that is not in K differs from every key that is. -/
theorem ne_key_of_mem {k : Nat} (h : ¬ K k) {f : Field} {w i : Nat} (hf : K (f.key w i)) : k ≠ f.key w i :=
  fun e => h (e ▸ hf)

theorem State.wr_keepsKeys (s : State) {w : Nat} {f : Field} {i : Nat} (h : ¬ K (f.key w i)) (v : Nat) :
    KeepsKeys K s (s.wr w f v i) := ⟨fun hk => s.rd_wr_other (ne_key_of_mem h hk) v⟩

theorem State.event_keepsKeys (s : State) {w : Nat} (h : ¬ K (UNIT_IRQ_PEND.EV.key w 0)) (k : Nat) :
    KeepsKeys K s (s.event w k) := ⟨fun hk => s.rd_event_other (ne_key_of_mem h hk) k⟩

theorem State.count_keepsKeys (s : State) {w : Nat} {f : Field} {i : Nat} (h : ¬ K (f.key w i)) (n : Nat) :
    KeepsKeys K s (s.count w f i n) := ⟨fun hk => s.rd_count_other (ne_key_of_mem h hk) n⟩

theorem State.sticky_keepsKeys (s : State) {w : Nat} {f : Field} {i : Nat} (h : ¬ K (f.key w i))
    (ht : ¬ K (UNIT_IRQ_PEND.TROUBLE.key w 0)) : KeepsKeys K s (s.sticky w f i) :=
  ⟨fun hk => s.rd_sticky_other (ne_key_of_mem h hk) (ne_key_of_mem ht hk)⟩

/-- A record of the trouble log changes no register but the root's pending events (R453). -/
theorem State.troubleRecord_keepsKeys (s : State) (h : ¬ K (UNIT_IRQ_PEND.EV.key wRoot 0)) (c w ofs : Nat) :
    KeepsKeys K s (s.troubleRecord c w ofs) :=
  (KeepsKeys.of_regs (by rfl)).trans (State.event_keepsKeys _ h 1)

/-- The root's registers that an entry of the Spoil log may change (R457). -/
def spoilFields : List Field := [UNIT_IRQ_PEND.EV, SPOIL_OVERWRITTEN.COUNT, SPOIL_REASON_CNT.COUNT]

theorem State.spoil_keepsKeys (s : State) (h : ∀ g ∈ spoilFields, ¬ K (g.key wRoot 0)) (w : Nat) (d : Disp) (r : Nat) (k : Item) (a b : Nat) :
    KeepsKeys K s (s.spoil w d r k a b) := by
  have hev := h UNIT_IRQ_PEND.EV (by simp [spoilFields])
  have hover := h SPOIL_OVERWRITTEN.COUNT (by simp [spoilFields])
  have hreason := h SPOIL_REASON_CNT.COUNT (by simp [spoilFields])
  unfold State.spoil
  split
  · exact KeepsKeys.refl K s
  · extract_lets _ _ s1 _ s2 s3
    have h1 : KeepsKeys K s s1 := by
      unfold s1; split
      · exact s.count_keepsKeys hover 1
      · exact KeepsKeys.refl K s
    have h2 : KeepsKeys K s s2 := h1.trans (KeepsKeys.of_regs (by rfl))
    have h3 : KeepsKeys K s s3 := by
      unfold s3; split
      · exact h2.trans (s2.count_keepsKeys hreason 1)
      · exact h2
    exact h3.trans (s3.event_keepsKeys hev 0)

theorem State.endOther_keepsKeys (s : State) (h : ∀ g ∈ spoilFields, ¬ K (g.key wRoot 0)) (w : Nat) (d : Disp) (r : Nat) (k : Item) (a b : Nat) :
    KeepsKeys K s (s.endOther w d r k a b) := by
  cases d with
  | delivered => exact KeepsKeys.refl K s
  | untimed => exact KeepsKeys.refl K s
  | dropped => exact s.spoil_keepsKeys h ..
  | failed => exact s.spoil_keepsKeys h ..

theorem State.endAccess_keepsKeys (s : State) (h : ∀ g ∈ spoilFields, ¬ K (g.key wRoot 0)) (n : Nat) : KeepsKeys K s (s.endAccess n) := by
  unfold State.endAccess
  split
  · exact s.endOther_keepsKeys h ..
  · exact KeepsKeys.refl K s

/-- The record of a violation in its window, beside VIOL (VIOL_ADDR card). -/
def recordFields : List Field := [VIOL_ADDR.ADDR, VIOL_ADDR.INIT, VIOL_ADDR.KIND, VIOL_ADDR.WR, VIOL_ADDR.OVR, VIOL_ADDR.WDATA]

/-- After VIOL a violation writes its record alone, and raises the trouble log's event (R87). -/
theorem State.violate_keepsKeys (s : State) {w : Nat} (h : ∀ g ∈ recordFields, ¬ K (g.key w 0)) (he : ¬ K (UNIT_IRQ_PEND.EV.key wRoot 0))
    (n : Nat) (k : Kind) (b : Bool) (a d : Nat) : KeepsKeys K (s.sticky w UNIT_STICKY.VIOL) (s.violate w n k b a d) := by
  unfold State.violate
  extract_lets s1 s2 s3 s4 s5 s6
  split
  · have h2 : KeepsKeys K s1 s2 := s1.wr_keepsKeys (h VIOL_ADDR.ADDR (by simp [recordFields])) _
    have h3 : KeepsKeys K s2 s3 := s2.wr_keepsKeys (h VIOL_ADDR.INIT (by simp [recordFields])) _
    have h4 : KeepsKeys K s3 s4 := s3.wr_keepsKeys (h VIOL_ADDR.KIND (by simp [recordFields])) _
    have h5 : KeepsKeys K s4 s5 := s4.wr_keepsKeys (h VIOL_ADDR.WR (by simp [recordFields])) _
    have h6 : KeepsKeys K s5 s6 := s5.wr_keepsKeys (h VIOL_ADDR.WDATA (by simp [recordFields])) _
    exact ((((h2.trans h3).trans h4).trans h5).trans h6).trans (s6.troubleRecord_keepsKeys he ..)
  · exact s1.wr_keepsKeys (h VIOL_ADDR.OVR (by simp [recordFields])) _

end

end Sys2Proof.Machine

/-! SUPPORT. What a refused access leaves behind (R87): the record of the violation, and nothing else. -/

namespace Sys2Proof.Machine

-- One proof after the other, as in the tests: proofs elaborated side by side after so long a text exhaust the memory for threads.
set_option Elab.async false

/-! ## Places of the registers -/

/-- A window with a unit lies in a run of the window map (R46), which gives it its number and its class. -/
theorem exists_run {w : Nat} (h : (unitOf w).isSome = true) :
    ∃ r ∈ windowRuns, r.first ≤ w ∧ w < r.first + r.count ∧ instOf w = w - r.first ∧
      clsOf w = if r.cls = .axis ∧ w = r.first then .axis0 else r.cls := by
  obtain ⟨u, hu⟩ := Option.isSome_iff_exists.mp h
  obtain ⟨r, hr, hin⟩ := List.exists_of_findSome?_eq_some hu
  unfold unitIn at hin
  split at hin
  · next hb =>
    cases hin
    exact ⟨r, hr, hb.1, hb.2, by rw [instOf, hu], by rw [clsOf, hu]⟩
  · cases hin

theorem lt_of_unitOf {w : Nat} (h : (unitOf w).isSome = true) : w < 0x800 := by
  obtain ⟨r, hr, _, hlt, _⟩ := exists_run h
  have := (by decide +kernel : ∀ r ∈ windowRuns, r.first + r.count ≤ 0x800) r hr
  omega

/-- The fields of a card: those of every window, those of a group, and its class's own; AX0 is also an axis. -/
def cardFields (group : Bool) (c : Cls) : List Field :=
  commonFields ++ (if group then groupFields else []) ++ (if c = .axis0 then axisFields else []) ++ classFields c

theorem fieldsAt_eq {w : Nat} (h : (unitOf w).isSome = true) : fieldsAt w = cardFields (isGroup w) (clsOf w) := by
  obtain ⟨u, hu⟩ := Option.isSome_iff_exists.mp h
  simp [fieldsAt, cardFields, isGroup, clsOf, hu]

/-- A window that has fields has a unit. -/
theorem isSome_unitOf_of_field {w : Nat} {f : Field} (h : f ∈ fieldsAt w) : (unitOf w).isSome = true := by
  unfold fieldsAt at h
  split at h
  · cases h
  · next e => rw [e]; rfl

theorem mem_cardFields {g : Bool} {c : Cls} {f : Field} (h : f ∈ cardFields g c) :
    f ∈ commonFields ∨ f ∈ groupFields ∨ f ∈ axisFields ∨ f ∈ classFields c := by
  unfold cardFields at h
  simp only [List.mem_append] at h
  rcases h with ((h | h) | h) | h
  · exact .inl h
  · split at h
    · exact .inr (.inl h)
    · cases h
  · split at h
    · exact .inr (.inr (.inl h))
    · cases h
  · exact .inr (.inr (.inr h))

/-- The field lies in the window, beyond the common registers. -/
def Field.beyondCommon (f : Field) : Bool := Nat.ble 0x100 f.ofs && Nat.blt f.ofs 4096 && Nat.blt f.lo 1024

theorem classFields_beyondCommon (c : Cls) : c = .legacy ∨ c = .common ∨ (classFields c).all Field.beyondCommon = true := by
  cases c <;> decide +kernel

/-- No window carries the legacy map's cards or the common ones as its class's own. -/
theorem clsOf_ne {w : Nat} (h : (unitOf w).isSome = true) : clsOf w ≠ .legacy ∧ clsOf w ≠ .common := by
  obtain ⟨r, hr, _, _, _, hc⟩ := exists_run h
  have := (by decide +kernel : ∀ r ∈ windowRuns, r.cls ≠ .legacy ∧ r.cls ≠ .common) r hr
  rw [hc]
  split
  · decide
  · exact this

/-- The registers of a card lie in the window, and beside the common ones from 0x100 on (R37). -/
theorem mem_fieldsAt {w : Nat} {f : Field} (h : f ∈ fieldsAt w) :
    f ∈ commonFields ∨ 0x100 ≤ f.ofs ∧ f.ofs < 4096 ∧ f.lo < 1024 := by
  have hu := isSome_unitOf_of_field h
  have all {l : List Field} (hl : l.all Field.beyondCommon = true) (hf : f ∈ l) : 0x100 ≤ f.ofs ∧ f.ofs < 4096 ∧ f.lo < 1024 := by
    have := List.all_eq_true.mp hl f hf
    simpa [Field.beyondCommon, and_assoc] using this
  rw [fieldsAt_eq hu] at h
  rcases mem_cardFields h with h | h | h | h
  · exact .inl h
  · exact .inr (all (by decide +kernel) h)
  · exact .inr (all (by decide +kernel) h)
  · rcases classFields_beyondCommon (clsOf w) with hc | hc | hc
    · exact absurd hc (clsOf_ne hu).1
    · exact absurd hc (clsOf_ne hu).2
    · exact .inr (all hc h)

theorem fieldsAt_bounds {w : Nat} {f : Field} (h : f ∈ fieldsAt w) : f.ofs < 4096 ∧ f.lo < 1024 := by
  rcases mem_fieldsAt h with h | ⟨_, ho, hl⟩
  · exact (by decide +kernel : ∀ f ∈ commonFields, f.ofs < 4096 ∧ f.lo < 1024) f h
  · exact ⟨ho, hl⟩

/-- The place of a field in the register store tells the window, the register and the field's lowest bit. -/
theorem Field.place_of_key_eq {f g : Field} {v w i j : Nat} (hf : f.ofs < 4096 ∧ f.lo < 1024) (hg : g.ofs < 4096 ∧ g.lo < 1024)
    (hv : v < 4096) (hw : w < 4096) (h : f.key v i = g.key w j) : v = w ∧ f.ofs = g.ofs ∧ f.lo = g.lo := by
  unfold Field.key at h; omega

/-- What a violation writes in its own window. -/
def ownFields : List Field := UNIT_STICKY.VIOL :: UNIT_IRQ_PEND.TROUBLE :: recordFields

/-- No other card of any window has a field in the place of one that a violation writes there. -/
theorem ownFields_place {w : Nat} {f g : Field} (hf : f ∈ fieldsAt w) (hg : g ∈ ownFields) (ho : f.ofs = g.ofs) (hl : f.lo = g.lo) : f = g := by
  rcases mem_fieldsAt hf with h | ⟨h, _⟩
  · exact (by decide +kernel : ∀ f ∈ commonFields, ∀ g ∈ ownFields, f.ofs = g.ofs → f.lo = g.lo → f = g) f h g hg ho hl
  · have := (by decide : ∀ g ∈ ownFields, g.ofs < 0x100) g hg
    omega

/-- Nor has the root's for what the logs write there. -/
theorem spoilFields_place : ∀ f ∈ fieldsAt wRoot, ∀ g ∈ spoilFields, f.ofs = g.ofs → f.lo = g.lo → f = g := by decide +kernel

theorem ownFields_bounds : ∀ g ∈ ownFields, g.ofs < 4096 ∧ g.lo < 1024 := by decide
theorem spoilFields_bounds : ∀ g ∈ spoilFields, g.ofs < 4096 ∧ g.lo < 1024 := by decide
theorem ownFields_sub : ∀ g ∈ ownFields, g ∈ violationFields := by decide
theorem spoilFields_sub : ∀ g ∈ spoilFields, g ∈ violationFields := by decide

/-! ## A violation -/

/-- A refused access of initiator n to window w, from a state whose outputs are cleared: the record, and the item's end (R87, R499). -/
def State.refused (s : State) (w n : Nat) (k : Kind) (b : Bool) (a d : Nat) : State := ((fresh s).violate w n k b a d).endAccess n

section
variable {K : Nat → Prop} {w : Nat} (s : State) (n : Nat) (k : Kind) (b : Bool) (a d : Nat)

/-- A refused access leaves every register that is neither one of its window's violation registers nor one of the logs'. -/
theorem State.refused_keepsKeys (ho : ∀ g ∈ ownFields, ¬ K (g.key w 0)) (hr : ∀ g ∈ spoilFields, ¬ K (g.key wRoot 0)) :
    KeepsKeys K s (s.refused w n k b a d) := by
  have hs : KeepsKeys K s ((fresh s).sticky w UNIT_STICKY.VIOL) :=
    KeepsKeys.trans (t := fresh s) (KeepsKeys.of_regs rfl)
      ((fresh s).sticky_keepsKeys (ho UNIT_STICKY.VIOL (by simp [ownFields])) (ho UNIT_IRQ_PEND.TROUBLE (by simp [ownFields])))
  have hv := (fresh s).violate_keepsKeys (fun g hg => ho g (by simp [ownFields, hg])) (hr _ (by simp [spoilFields])) n k b a d
  exact (hs.trans hv).trans (State.endAccess_keepsKeys _ hr n)

theorem State.refused_viol : (s.refused w n k b a d).on w UNIT_STICKY.VIOL = true := by
  let t := (fresh s).sticky w UNIT_STICKY.VIOL
  have ne {g : Field} (hg : g.lo < 1024) (h : g.ofs % 4096 ≠ 0x21) (v : Nat) : ¬ g.key v 0 = UNIT_STICKY.VIOL.key w 0 :=
    Field.key_ne_ofs (g := UNIT_STICKY.VIOL) hg (by decide) h v w 0 0
  have hroot : ∀ g ∈ spoilFields, ¬ g.key wRoot 0 = UNIT_STICKY.VIOL.key w 0 := fun g hg =>
    ne (spoilFields_bounds g hg).2 ((by decide : ∀ g ∈ spoilFields, g.ofs % 4096 ≠ 0x21) g hg) _
  have hrec : ∀ g ∈ recordFields, ¬ g.key w 0 = UNIT_STICKY.VIOL.key w 0 := fun g hg =>
    ne ((by decide : ∀ g ∈ recordFields, g.lo < 1024) g hg) ((by decide : ∀ g ∈ recordFields, g.ofs % 4096 ≠ 0x21) g hg) _
  have hev := hroot UNIT_IRQ_PEND.EV List.mem_cons_self
  let K := (· = UNIT_STICKY.VIOL.key w 0)
  have hv : KeepsKeys K t ((fresh s).violate w n k b a d) := State.violate_keepsKeys (K := K) _ hrec hev n k b a d
  have hkeep : KeepsKeys K t (s.refused w n k b a d) := hv.trans (State.endAccess_keepsKeys (K := K) _ hroot n)
  have hset : t.rd w UNIT_STICKY.VIOL = 1 := State.rd_sticky_same _ (by decide) (by decide) (by decide) w 0
  have hread : (s.refused w n k b a d).rd w UNIT_STICKY.VIOL = 1 := (hkeep.rd rfl).trans hset
  rw [State.on, hread]; rfl

/-- Of the parts of the state a refused access changes the registers, the logs, the outputs and the interrupts at most. -/
theorem State.refused_onlyTouches : OnlyTouches [.regs, .flt, .outs, .irq] s (s.refused w n k b a d) := by
  have h : Keeps 1610613761 s (s.refused w n k b a d) :=
    Keeps.step (State.endAccess_keeps ..) (by decide) (Keeps.step (State.violate_keeps ..) (by decide)
      (Keeps.step (fresh_keeps s) (by decide) (Keeps.refl _ _)))
  intro p hp
  refine h.same p ?_
  revert hp; cases p <;> decide

/-- A refused access to a window of the map is a violation of that window. -/
theorem State.refused_violation (hw : (unitOf w).isSome = true) : Violation s (s.refused w n k b a d) w := by
  refine ⟨s.refused_viol n k b a d, s.refused_onlyTouches n k b a d, fun v f i hf hother => ?_⟩
  have hbound := fieldsAt_bounds hf
  have hv' : v < 4096 := Nat.lt_trans (lt_of_unitOf (isSome_unitOf_of_field hf)) (by decide)
  have hw' : w < 4096 := Nat.lt_trans (lt_of_unitOf hw) (by decide)
  have hown : ∀ g ∈ ownFields, ¬ g.key w 0 = f.key v i := by
    intro g hg e
    obtain ⟨rfl, ho, hl⟩ := Field.place_of_key_eq hbound (ownFields_bounds g hg) hv' hw' e.symm
    rcases hother with h | h
    · simp at h
    · exact h (ownFields_place hf hg ho hl ▸ ownFields_sub g hg)
  have hroot : ∀ g ∈ spoilFields, ¬ g.key wRoot 0 = f.key v i := by
    intro g hg e
    obtain ⟨rfl, ho, hl⟩ := Field.place_of_key_eq hbound (spoilFields_bounds g hg) hv' (by decide) e.symm
    rcases hother with h | h
    · simp at h
    · exact h (spoilFields_place f hf g hg ho hl ▸ spoilFields_sub g hg)
  exact (s.refused_keepsKeys (K := (· = f.key v i)) n k b a d hown hroot).rd rfl

/-- A field in no place that a violation writes, in any window, reads as before after a refused access. -/
theorem State.refused_rd {f : Field} (hf : f.lo < 1024) (hp : ∀ g ∈ violationFields, g.ofs % 4096 ≠ f.ofs % 4096 ∨ g.lo ≠ f.lo) (v i : Nat) :
    (s.refused w n k b a d).rd v f i = s.rd v f i := by
  have ne : ∀ g ∈ violationFields, g.lo < 1024 → ∀ x, ¬ g.key x 0 = f.key v i := fun g hg hl x =>
    (hp g hg).elim (fun h => Field.key_ne_ofs hl hf h x v 0 i) (fun h => Field.key_ne_lo hl hf h x v 0 i)
  exact (s.refused_keepsKeys (K := (· = f.key v i)) n k b a d
    (fun g hg => ne g (ownFields_sub g hg) (ownFields_bounds g hg).2 w)
    (fun g hg => ne g (spoilFields_sub g hg) (spoilFields_bounds g hg).2 wRoot)).rd rfl

end

end Sys2Proof.Machine

/-! SUPPORT. The CMD fields of the window map (R5), and that a card refuses a write of 1 to one that reads 1 (R8). -/

namespace Sys2Proof.Machine

-- One proof after the other, as in the tests: proofs elaborated side by side after so long a text exhaust the memory for threads.
set_option Elab.async false

/-! ## The CMD fields -/

/-- The CMD fields of a class's own cards. -/
def commandsOf (c : Cls) : List Field := (classFields c).filter (·.acc == .cmd)

/-- A CMD field is a bit of a register of one byte, in no place that a violation writes. -/
def Field.isCommandBit (f : Field) : Bool :=
  f.byteOfs == f.ofs && f.lo < 8 && f.ofs < 4096 && f.ofs != 0x144 && violationFields.all fun g => g.ofs % 4096 != f.ofs % 4096 || g.lo != f.lo

theorem commandsOf_isCommandBit (c : Cls) : ∀ f ∈ UNIT_CTRL.URST :: commandsOf c, f.isCommandBit = true := by
  cases c <;> decide +kernel

/-- A window's CMD fields are URST and those of its class. -/
theorem mem_commands {w : Nat} {f : Field} (h : f ∈ fieldsAt w) (hc : f.acc = .cmd) : f ∈ UNIT_CTRL.URST :: commandsOf (clsOf w) := by
  rw [fieldsAt_eq (isSome_unitOf_of_field h)] at h
  rcases mem_cardFields h with h | h | h | h
  · exact List.mem_cons.mpr (.inl ((by decide +kernel : ∀ f ∈ commonFields, f.acc = .cmd → f = UNIT_CTRL.URST) f h hc))
  · exact absurd hc ((by decide +kernel : ∀ f ∈ groupFields, f.acc ≠ .cmd) f h)
  · exact absurd hc ((by decide +kernel : ∀ f ∈ axisFields, f.acc ≠ .cmd) f h)
  · exact List.mem_cons_of_mem _ (List.mem_filter.mpr ⟨h, by rw [hc]; rfl⟩)

/-- The first card whose register has a byte at the CMD field's offset is a register of that byte alone. -/
def spansAlone (l : List Field) (ofs : Nat) : Bool := match l.filterMap (·.spans ofs) with
  | [] => false
  | g :: _ => g.ofs == ofs && g.len == 1

theorem cardFields_spansAlone (g : Bool) (c : Cls) :
    c = .legacy ∨ ∀ f ∈ UNIT_CTRL.URST :: commandsOf c, spansAlone (cardFields g c) f.ofs = true := by
  cases g <;> cases c <;> decide +kernel

theorem regSpan_of_spansAlone {w ofs : Nat} (h : spansAlone (fieldsAt w) ofs = true) :
    regSpan w ofs = (ofs, ofs) ∧ (regFields w ofs).isEmpty = false := by
  unfold spansAlone at h
  unfold regSpan regFields
  split at h
  · cases h
  · next g r e =>
    simp only [Bool.and_eq_true, beq_iff_eq] at h
    simp [e, h.1, h.2]

/-- No CMD field is part of an entry view or of a select register. -/
theorem view_of_command {w : Nat} {f : Field} (h : f ∈ UNIT_CTRL.URST :: commandsOf (clsOf w)) :
    viewAt w f.ofs = none ∧ viewOfSel w f.ofs = none := by
  have hv : ∀ v ∈ allViews, ∀ f ∈ UNIT_CTRL.URST :: commandsOf (clsOf v.win),
      ((viewFields v.win v.base).any fun g => (g.spans f.ofs).isSome) = false ∧
        inRange v.sel.ofs (v.sel.ofs + v.sel.len - 1) f.ofs = false := by decide +kernel
  constructor <;> refine List.find?_eq_none.mpr fun v hmem hin => ?_ <;>
    · simp only [Bool.and_eq_true, beq_iff_eq] at hin
      obtain ⟨rfl, hin⟩ := hin
      simp [hv v hmem f h] at hin

/-! ## Selected entries -/

/-- The windows with registers that a select register names the entry of. -/
def selectingWindows : List Nat :=
  [wFabric, wStockpile, wSieve, wCanf, wWeigh, wAuth, wMacsec, wSignal, wKS, wEvp, wWake, wDerrick]

theorem State.selOf_eq_zero (s : State) {w : Nat} (h : w ∉ selectingWindows) (ofs : Nat) : s.selOf w ofs = 0 := by
  simp only [selectingWindows, List.mem_cons, List.not_mem_nil, or_false, not_or] at h
  simp [State.selOf, h]

theorem State.selOf_urst (s : State) (w : Nat) : s.selOf w UNIT_CTRL.URST.ofs = 0 := by
  simp [State.selOf, UNIT_CTRL.URST, fld, inRange]

/-- Beside SWITCH of MACsec, no CMD field is an entry's. -/
theorem State.selOf_command (s : State) {w : Nat} {f : Field} (h : f ∈ commandsOf (clsOf w)) (hm : clsOf w ≠ .macsec) :
    s.selOf w f.ofs = 0 := by
  by_cases hw : w ∈ selectingWindows
  · have hplaces := (by decide +kernel : ∀ w ∈ selectingWindows, clsOf w ≠ .macsec → ∀ f ∈ commandsOf (clsOf w),
      (w, f.ofs) ∈ [(wWeigh, 0x166), (wKS, 0x14A), (wEvp, 0x142)]) w hw hm f h
    simp only [List.mem_cons, Prod.mk.injEq, List.not_mem_nil, or_false] at hplaces
    rcases hplaces with ⟨rfl, ho⟩ | ⟨rfl, ho⟩ | ⟨rfl, ho⟩ <;> rw [ho] <;> rfl
  · exact s.selOf_eq_zero hw _

/-! ## Refused by the card -/

/-- A register with CMD fields refuses the byte that names one which reads 1: with another one in the byte by R495, alone by R8. -/
theorem State.cmdReg_busy (s : State) {w o v : Nat} {l : List (Field × List Kind × (State → State))} {f : Field} (hf : f ∈ l.map (·.1))
    (hb : bit v f.lo = true) (hon : s.on w f = true) : (s.cmdReg w o v l).kinds ≠ [] := by
  obtain ⟨x, hx, rfl⟩ := List.mem_map.mp hf
  have hmem : x ∈ l.filter fun x => bit v x.1.lo := List.mem_filter.mpr ⟨hx, hb⟩
  unfold State.cmdReg
  split
  · next e => rw [e] at hmem; cases hmem
  · next g k r e =>
    rw [e, List.mem_singleton] at hmem
    subst hmem
    simp [whenK, hon]
  · simp

/-- A window of a class with cards of its own is a window of the map. -/
theorem isSome_unitOf_of_clsOf {w : Nat} (h : clsOf w ≠ .plain) : (unitOf w).isSome = true := by
  cases e : unitOf w with
  | none => simp [clsOf, e] at h
  | some u => rfl

/-- A window whose class is not AX0's lies in a run of that class. -/
theorem exists_run_of_clsOf {w : Nat} (hp : clsOf w ≠ .plain) (ha : clsOf w ≠ .axis0) :
    ∃ r ∈ windowRuns, r.cls = clsOf w ∧ r.first ≤ w ∧ w < r.first + r.count ∧ instOf w = w - r.first := by
  obtain ⟨r, hr, hle, hlt, hi, hc⟩ := exists_run (isSome_unitOf_of_clsOf hp)
  split at hc
  · exact absurd hc ha
  · exact ⟨r, hr, hc.symm, hle, hlt, hi⟩

theorem wEth_instOf {w : Nat} (h : clsOf w = .eth) : wEth (instOf w) = w := by
  obtain ⟨r, hr, hc, hle, _, hi⟩ := exists_run_of_clsOf (w := w) (by simp [h]) (by simp [h])
  have := (by decide +kernel : ∀ r ∈ windowRuns, r.cls = .eth → r.first = wEth 0) r hr (hc.trans h)
  rw [hi]; unfold wEth at *; omega

theorem eq_wMacsec {w : Nat} (h : clsOf w = .macsec) : w = wMacsec := by
  obtain ⟨r, hr, hc, hle, hlt, _⟩ := exists_run_of_clsOf (w := w) (by simp [h]) (by simp [h])
  have := (by decide +kernel : ∀ r ∈ windowRuns, r.cls = .macsec → r.first = wMacsec ∧ r.count = 1) r hr (hc.trans h)
  omega

theorem instOf_axis0 {w : Nat} (h : clsOf w = .axis0) : instOf w = 0 := by
  obtain ⟨r, hr, _, _, hi, hc⟩ := exists_run (isSome_unitOf_of_clsOf (w := w) (by simp [h]))
  split at hc
  · next e => omega
  · exact absurd (hc.symm.trans h) ((by decide +kernel : ∀ r ∈ windowRuns, r.cls ≠ .axis0) r hr)

/-- The cards of a class refuse the byte that names a CMD field which reads 1 (R8). -/
def RefusesBusy (c : Cls) : Prop :=
  ∀ (s : State) (init w v : Nat) (f : Field), clsOf w = c → f ∈ commandsOf c → (f = ETH_MDIO_CTRL.GO → w < wEth 6) →
    bit v f.lo = true → s.on w f (s.selOf w f.ofs) = true → (s.fullAct init w f.ofs v).kinds ≠ []

/-- So does a class all of whose CMD fields are in one register that has nothing but the general form. -/
theorem refusesBusy_of_cmdReg {c : Cls} (hm : c ≠ .macsec) {o : Nat} (ho : ∀ f ∈ commandsOf c, f.ofs = o)
    (h : ∀ (s : State) (init w v : Nat), clsOf w = c → ∃ l, s.fullAct init w o v = s.cmdReg w o v l ∧ commandsOf c = l.map (·.1)) :
    RefusesBusy c := by
  rintro s init w v f rfl hf _ hb hon
  obtain ⟨l, hact, hl⟩ := h s init w v rfl
  rw [s.selOf_command hf hm] at hon
  rw [ho f hf, hact]
  exact s.cmdReg_busy (hl ▸ hf) hb hon

theorem tables_refusesBusy : RefusesBusy .tables := refusesBusy_of_cmdReg (o := 0x140) (by decide) (by decide +kernel) fun s init w v hc =>
  ⟨_, by simp only [State.fullAct, State.regAct, State.tblAct, hc]; rfl, rfl⟩

theorem hopper_refusesBusy : RefusesBusy .hopper := refusesBusy_of_cmdReg (o := 0x140) (by decide) (by decide +kernel) fun s init w v hc =>
  ⟨_, by simp only [State.fullAct, State.regAct, State.hopAct, hc]; rfl, rfl⟩

theorem pdu_refusesBusy : RefusesBusy .pdu := refusesBusy_of_cmdReg (o := 0x142) (by decide) (by decide +kernel) fun s init w v hc =>
  ⟨_, by simp only [State.fullAct, State.regAct, State.pduAct, hc]; rfl, rfl⟩

theorem weigh_refusesBusy : RefusesBusy .weigh := refusesBusy_of_cmdReg (o := 0x166) (by decide) (by decide +kernel) fun s init w v hc =>
  ⟨_, by simp only [State.fullAct, State.regAct, State.weighAct, hc]; rfl, rfl⟩

theorem axis0_refusesBusy : RefusesBusy .axis0 := refusesBusy_of_cmdReg (o := 0x176) (by decide) (by decide +kernel) fun s init w v hc =>
  ⟨_, by simp only [State.fullAct, State.regAct, State.axAct, hc, instOf_axis0 hc]; rfl, rfl⟩

theorem evp_refusesBusy : RefusesBusy .evp := refusesBusy_of_cmdReg (o := 0x142) (by decide) (by decide +kernel) fun s init w v hc =>
  ⟨_, by simp only [State.fullAct, State.regAct, State.evpAct, hc]; rfl, rfl⟩

theorem channels_refusesBusy : RefusesBusy .channels := refusesBusy_of_cmdReg (o := 0x141) (by decide) (by decide +kernel) fun s init w v hc =>
  ⟨_, by simp only [State.fullAct, State.regAct, hc]; rfl, rfl⟩

theorem channel_refusesBusy : RefusesBusy .channel := refusesBusy_of_cmdReg (o := 0x143) (by decide) (by decide +kernel) fun s init w v hc =>
  ⟨_, by simp only [State.fullAct, State.regAct, State.chAct, hc]; rfl, rfl⟩

theorem motion_refusesBusy : RefusesBusy .motion := refusesBusy_of_cmdReg (o := 0x181) (by decide) (by decide +kernel) fun s init w v hc =>
  ⟨_, by simp only [State.fullAct, State.regAct, State.meAct, hc]; rfl, rfl⟩

theorem pwr_refusesBusy : RefusesBusy .pwr := refusesBusy_of_cmdReg (o := 0x141) (by decide) (by decide +kernel) fun s init w v hc =>
  ⟨_, by simp only [State.fullAct, State.regAct, State.pwrAct, hc]; rfl, rfl⟩

theorem ks_refusesBusy : RefusesBusy .ks := refusesBusy_of_cmdReg (o := 0x14A) (by decide) (by decide +kernel) fun s init w v hc =>
  ⟨_, by simp only [State.fullAct, State.regAct, State.ksAct, hc]; rfl, rfl⟩

theorem upd_refusesBusy : RefusesBusy .upd := refusesBusy_of_cmdReg (o := 0x141) (by decide) (by decide +kernel) fun s init w v hc =>
  ⟨_, by simp only [State.fullAct, State.updAct, hc]; rfl, rfl⟩

end Sys2Proof.Machine

/-! SUPPORT. R8 for the classes with two registers of CMD fields or with cards of a form of their own, for the byte write of an initiator, and
for the rows of the command table. -/

namespace Sys2Proof.Machine

-- One proof after the other, as in the tests: proofs elaborated side by side after so long a text exhaust the memory for threads.
set_option Elab.async false

theorem can_refusesBusy : RefusesBusy .can := by
  intro s init w v f hc hf _ hb hon
  rw [s.selOf_command (by rw [hc]; exact hf) (by rw [hc]; decide)] at hon
  have hregs := (by decide +kernel : ∀ f ∈ commandsOf .can, f.ofs = 0x172 ∧ f ∈ [CAN_CTRL.RECOVER] ∨
    f.ofs = 0x201 ∧ f ∈ [CAN_OBJ_CMD.TAKE, CAN_OBJ_CMD.STORE, CAN_OBJ_CMD.SEND, CAN_OBJ_CMD.ABORT]) f hf
  rcases hregs with ⟨ho, hl⟩ | ⟨ho, hl⟩ <;> rw [ho]
  · simp only [State.fullAct, State.regAct, State.canAct, hc]
    exact s.cmdReg_busy hl hb hon
  · simp only [State.fullAct, State.regAct, State.canAct, hc]
    exact s.cmdReg_busy hl hb hon

theorem eth_refusesBusy : RefusesBusy .eth := by
  intro s init w v f hc hf hmdio hb hon
  rw [s.selOf_command (by rw [hc]; exact hf) (by rw [hc]; decide)] at hon
  have hregs := (by decide +kernel : ∀ f ∈ commandsOf .eth, f = ETH_MDIO_CTRL.GO ∨
    f.ofs = 0x142 ∧ f ∈ [ETH_CTRL.SLEEP, ETH_CTRL.WAKE, ETH_CTRL.RETRAIN, ETH_CTRL.PHY_RESET]) f hf
  rcases hregs with rfl | ⟨ho, hl⟩
  · have hport : isSerdes (instOf w) = true := by
      have h1 := wEth_instOf hc
      have h2 := hmdio rfl
      unfold wEth at h1 h2
      simp only [isSerdes, decide_eq_true_eq]; omega
    have hgo : bit v 7 = true := hb
    have hbusy : s.mdioBusy (instOf w) = true := by simp [State.mdioBusy, wEth_instOf hc, hon]
    have hact : s.fullAct init w ETH_MDIO_CTRL.GO.ofs v = ⟨s.mdioKinds (instOf w), mdioGo (instOf w) v⟩ := by
      simp [State.fullAct, State.regAct, State.ethAct, hc, hport, hgo, ETH_MDIO_CTRL.GO, fld]
    simp [hact, State.mdioKinds, whenK, hbusy]
  · rw [ho]
    simp only [State.fullAct, State.regAct, State.ethAct, hc]
    exact s.cmdReg_busy hl hb hon

theorem l2_refusesBusy : RefusesBusy .l2 := by
  intro s init w v f hc hf _ hb hon
  rw [s.selOf_command (by rw [hc]; exact hf) (by rw [hc]; decide)] at hon
  have hregs := (by decide +kernel : ∀ f ∈ commandsOf .l2, f = L2_CMD.GO ∨ f.ofs = 0x14A ∧ f ∈ [L2_REHASH.START]) f hf
  rcases hregs with rfl | ⟨ho, hl⟩
  · have hact : (s.fullAct init w L2_CMD.GO.ofs v).kinds =
        whenK (s.on w L2_CMD.GO) .cmdBusy ++ whenK (v / 16 % 8 != 0 && s.isSafe w) .state ++
          (if v / 16 % 8 = 1 ∨ v / 16 % 8 = 2 then s.stageKinds init w else []) := by
      have hgo : bit v 7 = true := hb
      simp only [State.fullAct, State.regAct, State.l2Act, hc, hgo]; rfl
    simp [hact, whenK, hon]
  · rw [ho]
    simp only [State.fullAct, State.regAct, State.l2Act, hc]
    exact s.cmdReg_busy hl hb hon

theorem seam_refusesBusy : RefusesBusy .seam := by
  intro s init w v f hc hf _ hb hon
  rw [s.selOf_command (by rw [hc]; exact hf) (by rw [hc]; decide)] at hon
  obtain rfl := (by decide +kernel : ∀ f ∈ commandsOf .seam, f = SEAM_CMD.GO) f hf
  have hact : (s.fullAct init w SEAM_CMD.GO.ofs v).kinds =
      whenK (s.on w SEAM_CMD.GO) .cmdBusy ++ (if v / 32 % 4 < 2 then s.stageKinds init w else []) := by
    have hgo : bit v 7 = true := hb
    simp only [State.fullAct, State.regAct, State.seamAct, hc, hgo]; rfl
  simp [hact, whenK, hon]

theorem lin_refusesBusy : RefusesBusy .lin := by
  intro s init w v f hc hf _ hb hon
  rw [s.selOf_command (by rw [hc]; exact hf) (by rw [hc]; decide)] at hon
  obtain rfl := (by decide +kernel : ∀ f ∈ commandsOf .lin, f = LIN_SCHED_CMD.GO) f hf
  have hact : (s.fullAct init w LIN_SCHED_CMD.GO.ofs v).kinds =
      whenK (s.linState (instOf w) == linOff || s.linState (instOf w) == linSleep || s.isSafe w) .state ++
        whenK (s.on w LIN_SCHED_CMD.GO) .cmdBusy := by
    have hgo : bit v 7 = true := hb
    simp only [State.fullAct, State.regAct, State.linAct, hc, hgo]; rfl
  simp [hact, whenK, hon]

theorem attest_refusesBusy : RefusesBusy .attest := by
  intro s init w v f hc hf _ hb hon
  rw [s.selOf_command (by rw [hc]; exact hf) (by rw [hc]; decide)] at hon
  obtain rfl := (by decide +kernel : ∀ f ∈ commandsOf .attest, f = TRM_CMD.GO) f hf
  have hact : (s.fullAct init w TRM_CMD.GO.ofs v).kinds = s.trmKinds init ++ whenK (s.on w TRM_CMD.GO) .cmdBusy := by
    have hgo : bit v 7 = true := hb
    simp only [State.fullAct, State.regAct, State.attestAct, hc, hgo]; rfl
  simp [hact, whenK, hon]

/-- SWITCH is of the channel that MSEC_SC_SEL names (R288). -/
theorem macsec_refusesBusy : RefusesBusy .macsec := by
  intro s init w v f hc hf _ hb hon
  obtain rfl := eq_wMacsec hc
  obtain rfl := (by decide +kernel : ∀ f ∈ commandsOf .macsec, f = MSEC_SC_CTRL.SWITCH) f hf
  have hsel : s.selOf wMacsec MSEC_SC_CTRL.SWITCH.ofs = s.selSc := rfl
  have hact : (s.fullAct init wMacsec MSEC_SC_CTRL.SWITCH.ofs v).kinds = s.switchKinds s.selSc := by
    have hgo : bit v 7 = true := hb
    simp only [State.fullAct, State.regAct, State.msecAct, hc, hgo]; rfl
  rw [hsel] at hon
  simp [hact, State.switchKinds, whenK, hon]

theorem refusesBusy_of_none {c : Cls} (h : commandsOf c = []) : RefusesBusy c := by
  intro s init w v f _ hf
  rw [h] at hf
  cases hf

/-- The cards of every class that a window has. -/
theorem refusesBusy {c : Cls} (hl : c ≠ .legacy) (hc : c ≠ .common) : RefusesBusy c := by
  cases c with
  | legacy => exact absurd rfl hl
  | common => exact absurd rfl hc
  | tables => exact tables_refusesBusy
  | hopper => exact hopper_refusesBusy
  | pdu => exact pdu_refusesBusy
  | weigh => exact weigh_refusesBusy
  | axis0 => exact axis0_refusesBusy
  | evp => exact evp_refusesBusy
  | channels => exact channels_refusesBusy
  | channel => exact channel_refusesBusy
  | motion => exact motion_refusesBusy
  | pwr => exact pwr_refusesBusy
  | ks => exact ks_refusesBusy
  | upd => exact upd_refusesBusy
  | can => exact can_refusesBusy
  | eth => exact eth_refusesBusy
  | l2 => exact l2_refusesBusy
  | seam => exact seam_refusesBusy
  | lin => exact lin_refusesBusy
  | attest => exact attest_refusesBusy
  | macsec => exact macsec_refusesBusy
  | _ => exact refusesBusy_of_none rfl

/-- URST is refused while it reads 1, in every window. -/
theorem State.unitCtrlAct_busy (s : State) {init w v : Nat} (hb : bit v 7 = true) (hon : s.on w UNIT_CTRL.URST = true) :
    (s.unitCtrlAct init w v).kinds ≠ [] := by
  simp [State.unitCtrlAct, hb, whenK, hon]

/-- The card of every CMD field of the map refuses a write of 1 while it reads 1 (R8). -/
theorem State.fullAct_busy (s : State) {init w v : Nat} {f : Field} (hf : f ∈ fieldsAt w) (hc : f.acc = .cmd)
    (hm : f = ETH_MDIO_CTRL.GO → w < wEth 6) (hb : bit v f.lo = true) (hon : s.on w f (s.selOf w f.ofs) = true) :
    (s.fullAct init w f.ofs v).kinds ≠ [] := by
  rcases List.mem_cons.mp (mem_commands hf hc) with rfl | hcmd
  · rw [s.selOf_urst] at hon
    exact s.unitCtrlAct_busy hb hon
  · have hne := clsOf_ne (isSome_unitOf_of_field hf)
    exact refusesBusy hne.1 hne.2 s init w v f rfl hcmd hm hb hon

/-! ## The write of the byte -/

theorem firstKind_isSome {l : List Kind} (h : l ≠ []) : ∃ k, firstKind l = some k := by
  unfold firstKind
  have hfold : ∀ (l : List Kind) (a : Kind), ∃ k, l.foldl (fun a k => match a with
      | none => some k
      | some b => if k.rank < b.rank then some k else some b) (some a) = some k := by
    intro l
    induction l with
    | nil => exact fun a => ⟨a, rfl⟩
    | cons x r ih =>
      intro a
      simp only [List.foldl_cons]
      split <;> exact ih _
  cases l with
  | nil => exact absurd rfl h
  | cons x r => exact hfold r x

/-- What the byte of a CMD field is refused for is what its card says. -/
theorem State.localByte_command (s : State) {init w : Nat} {f : Field} (hf : f ∈ fieldsAt w) (hc : f.acc = .cmd) (b : Nat) :
    (s.localByte init w f.ofs b).kinds = (s.fullAct init w f.ofs b).kinds := by
  have hu := isSome_unitOf_of_field hf
  have hcmd := mem_commands hf hc
  obtain ⟨hspan, hne⟩ := regSpan_of_spansAlone (w := w) (ofs := f.ofs) (by
    rw [fieldsAt_eq hu]
    exact (cardFields_spansAlone _ _).resolve_left (clsOf_ne hu).1 f hcmd)
  obtain ⟨hview, hsel⟩ := view_of_command hcmd
  have hval : s.merged w f.ofs f.ofs b = b := by simp [State.merged, beNat]
  simp [State.localByte, State.byteActBy, hview, hspan, hne, hsel, hval]

/-- A write of 1 to a CMD field that reads 1 ends as a refused access. -/
theorem State.localWrite_busy (s : State) {init : Initiator} {w : Nat} {f : Field} (hf : f ∈ fieldsAt w) (hc : f.acc = .cmd)
    (ho : WriteOpen s init w f.ofs) (hm : f = ETH_MDIO_CTRL.GO → w < wEth 6) {b : Nat} (hb : bit b f.lo = true)
    (hon : s.on w f (s.selOf w f.ofs) = true) :
    ∃ k, s.localWrite init.code w [(f.ofs, b)] = (s.violate w init.code k true (w * 4096 + f.ofs) b, false) := by
  have hcmd := mem_commands hf hc
  have hview := (view_of_command hcmd).1
  have hplace : f.ofs ≠ 0x144 := by
    have := commandsOf_isCommandBit _ f hcmd
    simp [Field.isCommandBit] at this
    exact this.1.2
  have hkinds : (s.localByte init.code w f.ofs b).kinds ≠ [] := by
    rw [s.localByte_command hf hc]
    exact s.fullAct_busy hf hc hm hb hon
  obtain ⟨k, hk⟩ := firstKind_isSome hkinds
  have hbyte : s.byteKind init.code w f.ofs b = some k := by
    simp [State.byteKind, ho.not_ignored, ho.no_kinds, hk]
  refine ⟨k, ?_⟩
  simp [State.localWrite, State.writeFault, State.writeFull, hbyte, hview, State.when, State.refusedByte, hplace]

theorem toNat_addrOf {w ofs : Nat} (hw : w < 4096) (ho : ofs < 4096) :
    (addrOf w ofs).toNat / 4096 = w ∧ (addrOf w ofs).toNat % 4096 = ofs := by
  have : (addrOf w ofs).toNat = w * 4096 + ofs := by
    rw [addrOf, BitVec.toNat_ofNat]; omega
  omega

/-- R8 for the byte write of an initiator. -/
theorem registerWrite_busy {s : State} {init : Initiator} {w : Nat} {f : Field} {b : Byte} (hf : f ∈ fieldsAt w) (hc : f.acc = .cmd)
    (ho : WriteOpen s init w f.ofs) (hm : f = ETH_MDIO_CTRL.GO → w < wEth 6) (hb : b.getLsbD f.lo = true)
    (hon : s.on w f (s.selOf w f.ofs) = true) :
    ∃ k, exec (.registerWrite init (addrOf w f.ofs) b) s = .next (s.refused w init.code k true (w * 4096 + f.ofs) b.toNat) := by
  have hw := lt_of_unitOf (isSome_unitOf_of_field hf)
  obtain ⟨hwin, hofs⟩ := toNat_addrOf (w := w) (by omega) (fieldsAt_bounds hf).1
  have hbit : bit b.toNat f.lo = true := by
    rw [bit, ← hb, BitVec.getLsbD, Nat.testBit_eq_decide_div_mod_eq]; rfl
  obtain ⟨k, hk⟩ := (fresh s).localWrite_busy hf hc (WriteOpen_fresh.mpr ho) hm hbit hon
  have hlocal : isRemote w = false := by simp [isRemote]; omega
  have hreach : (fresh s).reaches init.code = true := ho.1
  refine ⟨k, congrArg Host.Outcome.next ?_⟩
  generalize (addrOf w f.ofs).toNat = a at hwin hofs ⊢
  simp [regWrite, hreach, State.writeAccess, hwin, hofs, hlocal, offsets, hk, State.refused]

/-! ## The commands of the table -/

/-- A command that is an open write refused by its card ends as a refused access. -/
theorem WriteOpen.completes_refused {s : State} {init : Initiator} {w ofs data : Nat} {c : Instr} {kinds : List Kind} {g : State → State}
    (ho : WriteOpen s init w ofs) (hk : kinds ≠ []) (hc : exec c s = .next ((fresh s).cmdWrite init.code w ofs data kinds g)) :
    ∃ k, exec c s = .next (s.refused w init.code k true (w * 4096 + ofs) data) := by
  obtain ⟨k, hk⟩ := firstKind_isSome hk
  refine ⟨k, ?_⟩
  rw [hc, (WriteOpen_fresh.mpr ho).cmdWrite, hk]
  rfl

/-- After a refused access a CMD field reads as before. -/
theorem State.refused_command {f : Field} (hf : f.isCommandBit = true) (s : State) (w n : Nat) (k : Kind) (b : Bool) (a d v i : Nat) :
    (s.refused w n k b a d).rd v f i = s.rd v f i := by
  simp only [Field.isCommandBit, Bool.and_eq_true, decide_eq_true_eq, List.all_eq_true, Bool.or_eq_true, bne_iff_ne] at hf
  obtain ⟨⟨⟨⟨_, hlo⟩, _⟩, _⟩, hplace⟩ := hf
  exact s.refused_rd n k b a d (by omega) hplace v i

section
variable {c : Initiator → Instr} {w : Nat} {f : Field} {kinds : State → Initiator → List Kind} {g : State → Initiator → State → State}

/-- A row of the command table that writes the byte of a CMD field, and that the field's reading 1 refuses. -/
theorem BusyRefused.of_write (hf : f.isCommandBit = true) {ofs : Nat} (ho : f.ofs = ofs) {data : State → Initiator → Nat}
    (hc : ∀ s init, exec (c init) s = .next ((fresh s).cmdWrite init.code w ofs (data s init) (kinds s init) (g s init)))
    (hk : ∀ s init, s.on w f = true → kinds s init ≠ []) : BusyRefused c w f := by
  subst ho
  intro s init hopen hon
  obtain ⟨k, hnext⟩ := hopen.completes_refused (hk s init hon) (hc s init)
  refine ⟨_, hnext, s.refused_violation _ _ _ _ _ hopen.2.1, ?_⟩
  rwa [State.on, State.refused_command hf]

/-- A row that is the write of 1 to a CMD field. -/
theorem BusyRefused.of_field (hf : f.isCommandBit = true)
    (hc : ∀ s init, exec (c init) s = .next ((fresh s).cmdField init.code w f (kinds s init) (g s init))) : BusyRefused c w f := by
  have hofs : f.byteOfs = f.ofs := by
    simp only [Field.isCommandBit, Bool.and_eq_true, beq_iff_eq] at hf
    exact hf.1.1.1.1
  refine .of_write hf hofs.symm (fun s init => hc s init) fun s init hon => ?_
  have hon' : (fresh s).on w f = true := hon
  simp [whenK, hon']

/-- The commands of TBL_CTRL. -/
theorem BusyRefused.of_tblCtrl (hf : f ∈ [TBL_CTRL.COMMIT, TBL_CTRL.ABORT, TBL_CTRL.ACQUIRE, TBL_CTRL.RELEASE]) {cmd rw : Nat}
    (hb : bit cmd f.lo = true) (hc : ∀ s init, exec (c init) s = .next ((fresh s).tblCtrl init.code cmd rw (kinds s init) (g s init))) :
    BusyRefused c wTables f := by
  have hcard := (by decide : ∀ f ∈ [TBL_CTRL.COMMIT, TBL_CTRL.ABORT, TBL_CTRL.ACQUIRE, TBL_CTRL.RELEASE],
    f.isCommandBit = true ∧ f.ofs = 0x140) f hf
  refine .of_write hcard.1 hcard.2 (fun s init => by rw [hc s init, State.tblCtrl]) fun s init hon => ?_
  have hbusy : ([TBL_CTRL.COMMIT, TBL_CTRL.ABORT, TBL_CTRL.ACQUIRE, TBL_CTRL.RELEASE].any
      fun f => bit cmd f.lo && (fresh s).on wTables f) = true :=
    List.any_eq_true.mpr ⟨f, hf, Bool.and_eq_true_iff.mpr ⟨hb, hon⟩⟩
  simp [whenK, hbusy]

/-- The commands of L2_CMD, of SEAM_CMD and of TRM_CMD: GO with an OP. -/
theorem BusyRefused.of_l2Go {op : Nat} (hc : ∀ s init, exec (c init) s = .next ((fresh s).l2Go init.code op)) :
    BusyRefused c wL2 L2_CMD.GO :=
  .of_write (by decide) rfl (fun s init => hc s init) fun s _ (hon : (fresh s).on wL2 L2_CMD.GO = true) => by simp [whenK, hon]

theorem BusyRefused.of_seamGo {v6 : Bool} {op : Nat} (hc : ∀ s init, exec (c init) s = .next ((fresh s).seamGo init.code v6 op)) :
    BusyRefused c wSeam SEAM_CMD.GO :=
  .of_write (by decide) rfl (fun s init => hc s init) fun s _ (hon : (fresh s).on wSeam SEAM_CMD.GO = true) => by simp [whenK, hon]

theorem BusyRefused.of_trmGo {op : Nat} {r : State → State} (hc : ∀ s init, exec (c init) s = .next ((fresh s).trmGo init.code op r)) :
    BusyRefused c wAttest TRM_CMD.GO :=
  .of_write (by decide) rfl (fun s init => hc s init) fun s _ (hon : (fresh s).on wAttest TRM_CMD.GO = true) => by simp [whenK, hon]

end

theorem unitReset_busyRefused (w : BitVec 12) (l : Bool) : BusyRefused (fun i => .unitReset i w l) w.toNat UNIT_CTRL.URST :=
  .of_write (by decide) rfl (fun _ _ => rfl) fun s _ (hon : (fresh s).on w.toNat UNIT_CTRL.URST = true) => by simp [whenK, hon]

theorem mdioGo_busyRefused (p : Fin 6) (l : Fin 128) : BusyRefused (.mdioGo · p l) (wEth p) ETH_MDIO_CTRL.GO :=
  .of_write (by decide) rfl (fun _ _ => rfl) fun s _ hon => by simp [State.mdioKinds, State.mdioBusy, whenK, hon]

theorem l2RehashStart_busyRefused (l : Fin 128) : BusyRefused (.l2RehashStart · l) wL2 L2_REHASH.START :=
  .of_write (by decide) rfl (fun _ _ => rfl) fun s _ (hon : (fresh s).on wL2 L2_REHASH.START = true) => by simp [whenK, hon]

theorem linSchedGo_busyRefused (p : Fin 12) (k : Fin 8) : BusyRefused (.linSchedGo · p k) (wLin p) LIN_SCHED_CMD.GO :=
  .of_write (by decide) rfl (fun _ _ => rfl) fun s _ hon => by simp [whenK, hon]

/-- Settles O50: a write of 1 to a CMD field that reads 1 is refused by its card, and a refused access leaves its record alone. -/
theorem busyCommandIsAViolation : Obligations.BusyCommandIsAViolation := by
  constructor
  · intro s init w f b hf hc ho hm hb hon
    obtain ⟨k, hnext⟩ := registerWrite_busy hf hc ho hm hb hon
    refine ⟨_, hnext, s.refused_violation _ _ _ _ _ ho.2.1, ?_⟩
    rwa [State.on, State.refused_command (commandsOf_isCommandBit _ f (mem_commands hf hc))]
  · exact
    ⟨unitReset_busyRefused,
      fun _ => .of_tblCtrl (by simp) rfl fun _ _ => rfl, fun _ => .of_tblCtrl (by simp) rfl fun _ _ => rfl,
      fun _ => .of_tblCtrl (by simp) rfl fun _ _ => rfl, fun _ => .of_tblCtrl (by simp) rfl fun _ _ => rfl,
      fun _ => .of_field (by decide) fun _ _ => rfl, fun _ => .of_field (by decide) fun _ _ => rfl,
      fun _ => .of_field (by decide) fun _ _ => rfl, fun _ => .of_field (by decide) fun _ _ => rfl,
      fun _ => .of_field (by decide) fun _ _ => rfl,
      mdioGo_busyRefused, l2RehashStart_busyRefused,
      .of_l2Go fun _ _ => rfl, .of_l2Go fun _ _ => rfl, .of_l2Go fun _ _ => rfl, .of_l2Go fun _ _ => rfl, .of_l2Go fun _ _ => rfl,
      .of_l2Go fun _ _ => rfl, fun _ => .of_l2Go fun _ _ => rfl,
      fun _ => .of_seamGo fun _ _ => rfl, fun _ => .of_seamGo fun _ _ => rfl, fun _ => .of_seamGo fun _ _ => rfl,
      fun _ => .of_seamGo fun _ _ => rfl,
      fun _ => .of_field (by decide) fun _ _ => rfl, fun _ => .of_field (by decide) fun _ _ => rfl,
      fun _ => .of_field (by decide) fun _ _ => rfl, fun _ => .of_field (by decide) fun _ _ => rfl,
      fun _ => .of_field (by decide) fun _ _ => rfl,
      linSchedGo_busyRefused,
      .of_field (by decide) fun _ _ => rfl, .of_field (by decide) fun _ _ => rfl, .of_field (by decide) fun _ _ => rfl,
      .of_field (by decide) fun _ _ => rfl, .of_field (by decide) fun _ _ => rfl, .of_field (by decide) fun _ _ => rfl,
      .of_field (by decide) fun _ _ => rfl, .of_field (by decide) fun _ _ => rfl, .of_field (by decide) fun _ _ => rfl,
      .of_field (by decide) fun _ _ => rfl,
      fun _ => .of_field (by decide) fun _ _ => rfl, fun _ => .of_field (by decide) fun _ _ => rfl,
      fun _ => .of_field (by decide) fun _ _ => rfl,
      .of_field (by decide) fun _ _ => rfl, .of_field (by decide) fun _ _ => rfl, .of_field (by decide) fun _ _ => rfl,
      fun _ _ => .of_trmGo fun _ _ => rfl, fun _ _ _ => .of_trmGo fun _ _ => rfl, fun _ _ => .of_trmGo fun _ _ => rfl,
      .of_trmGo fun _ _ => rfl, .of_trmGo fun _ _ => rfl, fun _ _ => .of_trmGo fun _ _ => rfl, .of_trmGo fun _ _ => rfl,
      .of_trmGo fun _ _ => rfl, fun _ => .of_trmGo fun _ _ => rfl,
      .of_field (by decide) fun _ _ => rfl, .of_field (by decide) fun _ _ => rfl, .of_field (by decide) fun _ _ => rfl,
      .of_field (by decide) fun _ _ => rfl, .of_field (by decide) fun _ _ => rfl, .of_field (by decide) fun _ _ => rfl,
      .of_field (by decide) fun _ _ => rfl, .of_field (by decide) fun _ _ => rfl⟩

end Sys2Proof.Machine

/-! SUPPORT. Operations that leave LINK_DOWNS of every Ethernet port as it is: what follows the loss of a link beside its count (R166), that
is the end of copies in the port's Hopper, training, and what the networks of R368 do. -/

namespace Sys2Proof.Machine

-- One proof after the other, as in the tests: proofs elaborated side by side after so long a text exhaust the memory for threads.
set_option Elab.async false

/-- The keys of LINK_DOWNS of the ports. -/
def DownsKey (k : Nat) : Prop := ∃ p : Fin 16, k = ETH_LINK_DOWNS.COUNT.key (wEth p) 0

/-- From s to t no LINK_DOWNS changes. -/
abbrev KeepsDowns (s t : State) : Prop := KeepsKeys DownsKey s t

/-- The field's register is at another offset than LINK_DOWNS. -/
def Field.offDowns (g : Field) : Bool := g.lo < 1024 && g.ofs % 4096 != 0x22C

theorem Field.offDowns_key {g : Field} (h : g.offDowns = true) (w i : Nat) : ¬ DownsKey (g.key w i) := by
  rintro ⟨p, e⟩
  simp only [offDowns, Bool.and_eq_true, decide_eq_true_eq, bne_iff_ne] at h
  exact Field.key_ne_ofs (g := ETH_LINK_DOWNS.COUNT) h.1 (by decide) h.2 _ _ _ _ e

/-- The windows beyond the Ethernet ports'. -/
theorem not_downsKey_of_window {w : Nat} (h : wEth 16 ≤ w) (g : Field) (i : Nat) : ¬ DownsKey (g.key w i) := by
  rintro ⟨p, e⟩
  have hp := p.isLt
  unfold wEth at h
  simp only [Field.key, wEth, ETH_LINK_DOWNS.COUNT, fld] at e
  omega

theorem Keeps.keepsKeys {K : Nat → Prop} {m : Nat} {a b : State} (h : Keeps m a b) (hm : m.testBit 0 = false := by decide) : KeepsKeys K a b :=
  .of_regs (h.regs hm)

section
variable {K : Nat → Prop} {a b c : State}

/-- The last operation first. -/
theorem KeepsKeys.step (h : KeepsKeys K b c) (hb : KeepsKeys K a b) : KeepsKeys K a c := hb.trans h

theorem KeepsKeys.ite {p : Prop} [Decidable p] (hb : KeepsKeys K a b) (hc : KeepsKeys K a c) : KeepsKeys K a (if p then b else c) := by
  split <;> assumption

theorem KeepsKeys.foldl {α : Type} {l : List α} {f : State → α → State} (hf : ∀ t x, KeepsKeys K t (f t x)) :
    ∀ s, KeepsKeys K s (l.foldl f s) := by
  induction l with
  | nil => exact .refl K
  | cons x r ih => exact fun s => (hf s x).trans (ih _)

theorem KeepsKeys.each {α : Type} {l : List α} {f : State → α → State} (hf : ∀ t x, KeepsKeys K t (f t x)) (s : State) :
    KeepsKeys K s (s.each l f) := .foldl hf s

theorem KeepsKeys.iter {f : State → State} (hf : ∀ t, KeepsKeys K t (f t)) : ∀ n s, KeepsKeys K s (Machine.iter f n s) := by
  intro n
  induction n with
  | zero => exact .refl K
  | succ n ih => exact fun s => (hf s).trans (ih _)

theorem KeepsKeys.when {f : State → State} (hf : ∀ t, KeepsKeys K t (f t)) (c : Bool) (s : State) : KeepsKeys K s (s.when c f) := by
  unfold State.when; split
  · exact hf s
  · exact .refl K s

end

variable (s : State)

/-! ## The operations on registers -/

theorem State.wr_keepsDowns (w : Nat) (g : Field) (v i : Nat) (h : g.offDowns = true := by decide) : KeepsDowns s (s.wr w g v i) :=
  s.wr_keepsKeys (Field.offDowns_key h w i) v

theorem State.count_keepsDowns (w : Nat) (g : Field) (i n : Nat) (h : g.offDowns = true := by decide) : KeepsDowns s (s.count w g i n) :=
  s.count_keepsKeys (Field.offDowns_key h w i) n

theorem State.sticky_keepsDowns (w : Nat) (g : Field) (i : Nat) (h : g.offDowns = true := by decide) : KeepsDowns s (s.sticky w g i) :=
  s.sticky_keepsKeys (Field.offDowns_key h w i) (Field.offDowns_key (by decide) w 0)

theorem State.event_keepsDowns (w k : Nat) : KeepsDowns s (s.event w k) := s.event_keepsKeys (Field.offDowns_key (by decide) w 0) k

/-- In the windows beyond the ports' any field may be written. -/
theorem State.wr_keepsDowns_of_window {w : Nat} (h : wEth 16 ≤ w) (g : Field) (v i : Nat) : KeepsDowns s (s.wr w g v i) :=
  s.wr_keepsKeys (not_downsKey_of_window h g i) v

theorem State.wrWide_keepsDowns {w : Nat} (h : wEth 16 ≤ w) (fs : List Field) (v i : Nat) : KeepsDowns s (s.wrWide w fs v i) :=
  .each (fun t g => t.wr_keepsDowns_of_window h g _ i) s

theorem State.spoil_keepsDowns (w : Nat) (d : Disp) (r : Nat) (k : Item) (a b : Nat) : KeepsDowns s (s.spoil w d r k a b) :=
  s.spoil_keepsKeys (fun g hg => Field.offDowns_key ((by decide : ∀ g ∈ spoilFields, g.offDowns = true) g hg) wRoot 0) ..

theorem State.endOther_keepsDowns (w : Nat) (d : Disp) (r : Nat) (k : Item) (a b : Nat) : KeepsDowns s (s.endOther w d r k a b) :=
  s.endOther_keepsKeys (fun g hg => Field.offDowns_key ((by decide : ∀ g ∈ spoilFields, g.offDowns = true) g hg) wRoot 0) ..

/-! ## The end of copies -/

theorem State.endFrame_keepsDowns (w : Nat) (d : Disp) (r : Nat) (build : Bool) (a b : Nat) : KeepsDowns s (s.endFrame w d r build a b) := by
  cases d with
  | delivered => exact s.count_keepsDowns ..
  | untimed => exact s.count_keepsDowns ..
  | dropped => exact .step (State.spoil_keepsDowns ..) (s.count_keepsDowns ..)
  | failed => exact .step (State.spoil_keepsDowns ..) (s.count_keepsDowns ..)

theorem State.endCopy_keepsDowns (w : Nat) (c : Copy) (d : Disp) (r : Nat) : KeepsDowns s (s.endCopy w c d r) := by
  unfold State.endCopy
  exact .step (State.release_keeps ..).keepsKeys (.step (State.endFrame_keepsDowns ..) (.ite (s.count_keepsDowns ..) (.refl ..)))

theorem State.hopDrain_keepsDowns (p : Nat) (l : List Nat) (d : Disp) (r : Nat) : KeepsDowns s (s.hopDrain p l d r) :=
  .each (fun t _ => .step (State.setQueue_keeps ..).keepsKeys (.foldl (fun u x => u.endCopy_keepsDowns _ x d r) t)) s

/-! ## MACsec's channel at the end of a frame -/

theorem State.setScState_keepsDowns (k v : Nat) : KeepsDowns s (s.setScState k v) := s.wr_keepsDowns ..

theorem State.scSwitch_keepsDowns (k : Nat) : KeepsDowns s (s.scSwitch k) := by
  unfold State.scSwitch
  exact .step (State.event_keepsDowns ..) (.step (State.wr_keepsDowns ..) (.step (State.setGuard_keeps ..).keepsKeys
    (.step (State.setScState_keepsDowns ..) (s.wr_keepsDowns ..))))

theorem State.scStore_keepsDowns (k v : Nat) : KeepsDowns s (s.scStore k v) := by
  unfold State.scStore
  exact .step (State.wr_keepsDowns ..) (.step (State.setGuard_keeps ..).keepsKeys
    (.step (State.setScState_keepsDowns ..) (s.wrWide_keepsDowns (w := wMacsec) (by decide) ..)))

theorem State.scEval_keepsDowns (k : Nat) : KeepsDowns s (s.scEval k) := .ite (s.setScState_keepsDowns ..) (.refl ..)

theorem State.saStore_keepsDowns (k a v : Nat) : KeepsDowns s (s.saStore k a v) := by
  unfold State.saStore
  exact .ite (s.wr_keepsDowns ..) (.step (State.scEval_keepsDowns ..) (.step (State.wr_keepsDowns ..) (.step (State.setGuard_keeps ..).keepsKeys
    (s.wrWide_keepsDowns (w := wMacsec) (by decide) ..))))

theorem State.secyApply_keepsDowns (x : SecyWrite) : KeepsDowns s (s.secyApply x) := by
  cases x with
  | sc k v => exact s.scStore_keepsDowns k v
  | sa k a v => exact s.saStore_keepsDowns k a v

theorem State.secySettle_keepsDowns : KeepsDowns s s.secySettle := by
  unfold State.secySettle
  exact .step (.foldl (fun t x => .ite (t.setGuard_keeps _).keepsKeys (t.secyApply_keepsDowns x)) _) (s.setGuard_keeps _).keepsKeys

theorem State.secyBoundary_keepsDowns (p : Nat) : KeepsDowns s (s.secyBoundary p) := by
  unfold State.secyBoundary
  extract_lets t
  have ht : KeepsDowns s t := s.secySettle_keepsDowns
  split
  · exact ht
  · exact .ite (.step (State.scSwitch_keepsDowns ..) ht) ht

theorem State.readerDown_keepsDowns (p : Nat) : KeepsDowns s (s.readerDown p) := by
  unfold State.readerDown
  extract_lets t u
  have ht : KeepsDowns s t := by
    unfold t; split
    · exact .refl ..
    · exact .step (State.secyBoundary_keepsDowns ..) (.step (State.endCopy_keepsDowns ..) (s.setReader_keeps ..).keepsKeys)
  exact .ite (.refl ..) (.step (u.wr_keepsDowns ..) (.step (t.hopDrain_keepsDowns ..) ht))

end Sys2Proof.Machine

/-! SUPPORT. The peer of a port that trains, and the port's own states, leave every LINK_DOWNS as it is. -/

namespace Sys2Proof.Machine

-- One proof after the other, as in the tests: proofs elaborated side by side after so long a text exhaust the memory for threads.
set_option Elab.async false

variable (s : State)

/-! ## Frames of the module's own, and Derrick's peer -/

theorem State.hopEnqueue_keepsDowns (p : Nat) (c : Copy) : KeepsDowns s (s.hopEnqueue p c) := by
  unfold State.hopEnqueue
  extract_lets t
  have ht : KeepsDowns s t := (s.refreshCredit_keeps p).keepsKeys
  exact .ite (.step (t.endCopy_keepsDowns ..) ht) (.ite (.step (t.setQueue_keeps ..).keepsKeys ht)
    (.ite (.step (t.endCopy_keepsDowns ..) ht) (.step (t.setQueue_keeps ..).keepsKeys ht)))

theorem State.sendOwn_keepsDowns (n tc : Nat) (l : List Nat) (x : Option StampAsk) : KeepsDowns s (s.sendOwn n tc l x) := by
  unfold State.sendOwn
  exact .ite (.step (State.hopEnqueue_keepsDowns ..) (.step (State.setFab_keeps ..).keepsKeys (s.addFrame_keeps ..).keepsKeys)) (.refl ..)

theorem State.kmpOut_keepsDowns (n : Nat) (f : KmpFrame) : KeepsDowns s (s.kmpOut n f) := by
  unfold State.kmpOut
  exact .step (State.sendOwn_keepsDowns ..) (.step (State.setPeer_keeps ..).keepsKeys (s.count_keepsDowns ..))

theorem State.sendHello_keepsDowns (n : Nat) : KeepsDowns s (s.sendHello n) := s.kmpOut_keepsDowns ..

theorem State.laneStep_keepsDowns (n k : Nat) : KeepsDowns s (s.laneStep n k) := by
  unfold State.laneStep
  extract_lets l
  split
  · exact .refl ..
  · exact .ite (.step (State.kmpOut_keepsDowns ..) (s.setLane_keeps ..).keepsKeys) (.refl ..)

theorem State.lanesFlow_keepsDowns (n : Nat) : KeepsDowns s (s.lanesFlow n) :=
  .each (fun t k => .iter (fun u => u.laneStep_keepsDowns n k) 32 t) s

theorem State.kmpPush_keepsDowns (n : Nat) (f : KmpFrame) : KeepsDowns s (s.kmpPush n f) := by
  unfold State.kmpPush
  extract_lets k l t
  have ht : KeepsDowns s t := (s.setLane_keeps ..).keepsKeys
  exact .step (State.lanesFlow_keepsDowns ..) (.ite (.step (t.setPeer_keeps ..).keepsKeys ht) ht)

theorem State.sendRead_keepsDowns (r : OutRead) : KeepsDowns s (s.sendRead r) := by
  unfold State.sendRead
  exact .step (State.kmpPush_keepsDowns ..) (s.setDrk_keeps _).keepsKeys

theorem State.startRead_keepsDowns (r : OutRead) : KeepsDowns s (s.startRead r) := .ite (s.sendRead_keepsDowns r) (s.setDrk_keeps _).keepsKeys

theorem State.fetchNext_keepsDowns : KeepsDowns s s.fetchNext := by
  unfold State.fetchNext
  refine .ite (.refl ..) ?_
  split
  · exact .step (State.sendRead_keepsDowns ..) (s.setDrk_keeps _).keepsKeys
  · exact .refl ..
  · extract_lets _ t
    have ht : KeepsDowns s t := (s.setDrk_keeps _).keepsKeys
    exact .ite (.step (t.startRead_keepsDowns _) ht) ht

theorem State.fetchFlow_keepsDowns : KeepsDowns s s.fetchFlow := .iter State.fetchNext_keepsDowns 16 s

theorem State.remErr_keepsDowns : KeepsDowns s s.remErr := .step (State.event_keepsDowns ..) (s.sticky_keepsDowns ..)

theorem State.drkRecord_keepsDowns (p k a : Nat) : KeepsDowns s (s.drkRecord p k a) := by
  unfold State.drkRecord
  exact .ite (.step (State.wr_keepsDowns ..) (.step (State.wr_keepsDowns ..) (s.wr_keepsDowns ..))) (.refl ..)

theorem State.readFail_keepsDowns (r : OutRead) (reason : Nat) : KeepsDowns s (s.readFail r reason) := by
  unfold State.readFail
  extract_lets _ t u
  have ht : KeepsDowns s t := (s.setDrk_keeps _).keepsKeys
  have hu : KeepsDowns s u := .step (t.count_keepsDowns ..) ht
  exact .ite ht (.ite (.step (u.remErr_keepsDowns) hu) (.step (State.faceFail_keeps ..).keepsKeys (.step (State.endOther_keepsDowns ..)
    (.step (State.remErr_keepsDowns _) (.step (u.drkRecord_keepsDowns ..) hu)))))

theorem State.setPeerState_keepsDowns (n v : Nat) : KeepsDowns s (s.setPeerState n v) := s.wr_keepsDowns ..

theorem State.peerAccount_keepsDowns (n : Nat) : KeepsDowns s (s.peerAccount n) := by
  unfold State.peerAccount
  extract_lets t x writes t1 lost t2 t3 _ t4 t5
  have h1 : KeepsDowns s t1 := .step (.each (fun u _ => .step (State.endOther_keepsDowns ..) (u.count_keepsDowns ..)) t)
    (.each (fun u r => u.readFail_keepsDowns r _) s)
  have h2 : KeepsDowns s t2 := .ite h1 (.step (State.count_keepsDowns ..) (.step (t1.sticky_keepsDowns ..) h1))
  have h4 : KeepsDowns s t4 := .step (t3.setDrk_keeps _).keepsKeys (.step (t2.setPeer_keeps ..).keepsKeys h2)
  have h5 : KeepsDowns s t5 := .step (State.wr_keepsDowns ..) (.step (State.wr_keepsDowns ..) (.step (t4.wr_keepsDowns ..) h4))
  exact .step (State.fetchFlow_keepsDowns _) (.step (t5.wr_keepsDowns_of_window (w := wDerrick) (by decide) ..) h5)

theorem State.peerSync_keepsDowns (n : Nat) : KeepsDowns s (s.peerSync n) := by
  unfold State.peerSync
  extract_lets was t
  have ht : KeepsDowns s t := .step (State.setPeerState_keepsDowns ..) (s.peerAccount_keepsDowns n)
  exact .ite (.ite (.step (State.sendHello_keepsDowns ..) (s.setPeerState_keepsDowns ..)) (.refl ..))
    (.ite (.refl ..) (.ite (.step (t.sticky_keepsDowns ..) ht) ht))

/-! ## The states of a port -/

theorem State.setEthState_keepsDowns (p v : Nat) : KeepsDowns s (s.setEthState p v) := s.wr_keepsDowns ..

theorem State.train_keepsDowns (p : Nat) : KeepsDowns s (s.train p) := by
  unfold State.train
  extract_lets t _ u v
  have ht : KeepsDowns s t := .step (State.wr_keepsDowns ..) (s.setEthState_keepsDowns ..)
  have hv : KeepsDowns s v := .step (u.setPhyHeld_keeps ..).keepsKeys (.step (t.setEth_keeps _).keepsKeys ht)
  exact .step (State.peerSync_keepsDowns ..) (.ite hv (.step (v.phyReset_keeps ..).keepsKeys hv))

theorem State.sleepFail_keepsDowns (p : Nat) : KeepsDowns s (s.sleepFail p) := by
  unfold State.sleepFail
  exact .step (State.setSleepStep_keeps ..).keepsKeys (.step (State.wr_keepsDowns ..) (s.sticky_keepsDowns ..))

theorem State.sleepAbort_keepsDowns (p : Nat) : KeepsDowns s (s.sleepAbort p) := by
  unfold State.sleepAbort
  exact .step (State.peerSync_keepsDowns ..) (.step (State.setEthState_keepsDowns ..) (s.sleepFail_keepsDowns p))

theorem State.sleepStart_keepsDowns (p : Nat) : KeepsDowns s (s.sleepStart p) := by
  unfold State.sleepStart
  exact .ite (.step (State.peerSync_keepsDowns ..) (.step (State.setSleepStep_keeps ..).keepsKeys
    (.step (State.wr_keepsDowns ..) (s.setEthState_keepsDowns ..)))) (.refl ..)

theorem State.ethWake_keepsDowns (p : Nat) : KeepsDowns s (s.ethWake p) := by
  unfold State.ethWake
  exact .ite (.step (State.train_keepsDowns ..) (.step (State.event_keepsDowns ..) (.ite (.refl ..) (s.emit_keeps _).keepsKeys)))
    (.ite (s.sleepAbort_keepsDowns p) (.refl ..))

end Sys2Proof.Machine

/-! SUPPORT. Channels, motion engines and networks leave every LINK_DOWNS as it is; and R13. -/

namespace Sys2Proof.Machine

-- One proof after the other, as in the tests: proofs elaborated side by side after so long a text exhaust the memory for threads.
set_option Elab.async false

variable (s : State)

/-! ## Channels and bridges -/

theorem State.chOutput_keepsDowns (n : Nat) : KeepsDowns s (s.chOutput n) := by
  unfold State.chOutput
  exact .ite (.refl ..) (.step (State.emit_keeps ..).keepsKeys (s.wr_keepsDowns ..))

theorem State.setSwitches_keepsDowns (k v : Nat) (x : Bool) : KeepsDowns s (s.setSwitches k v x) := by
  unfold State.setSwitches
  extract_lets _ b t
  have ht : KeepsDowns s t := (s.setBody_keeps _).keepsKeys
  exact .step (State.chOutput_keepsDowns ..) (.step (State.chOutput_keepsDowns ..) (.ite ht (.step (t.emit_keeps _).keepsKeys ht)))

theorem State.hbApply_keepsDowns (k : Nat) : KeepsDowns s (s.hbApply k) := s.setSwitches_keepsDowns ..

theorem State.hbFollow_keepsDowns (n : Nat) : KeepsDowns s (s.hbFollow n) := by
  unfold State.hbFollow
  exact .ite (.refl ..) (.step (State.hbApply_keepsDowns ..) (.when (fun t => (t.setBody_keeps _).keepsKeys) _ s))

theorem State.testEnd_keepsDowns (n : Nat) : KeepsDowns s (s.testEnd n) := by
  unfold State.testEnd
  extract_lets t u
  have hu : KeepsDowns s u := .step (t.wr_keepsDowns ..) (s.mapChan_keeps ..).keepsKeys
  exact .ite (.step (State.wr_keepsDowns ..) (.step (u.wr_keepsDowns ..) hu)) hu

theorem State.chEnterOn_keepsDowns (n : Nat) : KeepsDowns s (s.chEnterOn n) := by
  unfold State.chEnterOn
  exact .step (State.hbFollow_keepsDowns ..) (.step (State.chOutput_keepsDowns ..) (.step (State.testEnd_keepsDowns ..)
    (.step (State.mapChan_keeps ..).keepsKeys (s.wr_keepsDowns ..))))

theorem State.chLeave_keepsDowns (n p : Nat) : KeepsDowns s (s.chLeave n p) := by
  unfold State.chLeave
  exact .step (State.hbFollow_keepsDowns ..) (.step (State.chOutput_keepsDowns ..) (.step (State.wr_keepsDowns ..) (s.wr_keepsDowns ..)))

theorem State.chEval_keepsDowns (n : Nat) : KeepsDowns s (s.chEval n) :=
  .ite (.ite (s.chEnterOn_keepsDowns n) (.refl ..)) (.ite (s.chLeave_keepsDowns ..) (.refl ..))

theorem State.hbSetMode_keepsDowns (k m : Nat) : KeepsDowns s (s.hbSetMode k m) := by
  unfold State.hbSetMode State.hbAct
  exact .step (State.hbApply_keepsDowns ..) (.step (State.chEval_keepsDowns ..) (.step (State.chEval_keepsDowns ..) (s.wr_keepsDowns ..)))

/-! ## Motion engines, and the entry into PARK that ends them -/

theorem State.meFaultEnd_keepsDowns (k : Nat) : KeepsDowns s (s.meFaultEnd k) := by
  unfold State.meFaultEnd State.meEnd State.normLost
  extract_lets t
  have ht : KeepsDowns s t := .step (State.sticky_keepsDowns ..) (.step (State.event_keepsDowns ..) (s.wr_keepsDowns ..))
  exact .ite (.step (State.sticky_keepsDowns ..) (.step (t.wr_keepsDowns ..) ht)) ht

theorem State.meLost_keepsDowns (k : Nat) : KeepsDowns s (s.meLost k) := by
  unfold State.meLost
  exact .ite (.step (State.meFaultEnd_keepsDowns ..) (.step (State.hbSetMode_keepsDowns ..) (.step (State.wr_keepsDowns ..)
    (.step (State.wr_keepsDowns ..) (s.mapMe_keeps ..).keepsKeys)))) (.refl ..)

theorem State.meForceEnd_keepsDowns (k : Nat) : KeepsDowns s (s.meForceEnd k) := by
  unfold State.meForceEnd
  extract_lets _ t u
  have hu : KeepsDowns s u := .step (State.hbSetMode_keepsDowns ..) (.step (t.wr_keepsDowns ..) (s.mapMe_keeps ..).keepsKeys)
  exact .ite (.ite (.step (u.meFaultEnd_keepsDowns k) hu) hu) (s.meLost_keepsDowns k)

theorem State.enginesForced_keepsDowns : KeepsDowns s s.enginesForced := by
  unfold State.enginesForced
  exact .ite (.refl ..) (.step (State.sticky_keepsDowns ..) (.each (fun t k => t.meForceEnd_keepsDowns k) s))

theorem State.parkCheck_keepsDowns : KeepsDowns s s.parkCheck := by
  unfold State.parkCheck State.entryBegins
  extract_lets _ t
  have ht : KeepsDowns s t := (s.setPwr_keeps _).keepsKeys
  exact .ite (.ite (.step (t.enginesForced_keepsDowns) ht) ht) (.refl ..)

/-! ## Networks (R368) -/

theorem State.setNet_keepsDowns (n v : Nat) : KeepsDowns s (s.setNet n v) := by
  unfold State.setNet
  exact .step (State.parkCheck_keepsDowns _) (.step (State.evalPartial_keeps _).keepsKeys (s.wr_keepsDowns_of_window (w := wWake) (by decide) ..))

theorem State.canWakeUp_keepsDowns (p : Nat) : KeepsDowns s (s.canWakeUp p) := by
  unfold State.canWakeUp State.setCanState
  extract_lets t
  have ht : KeepsDowns s t := s.wr_keepsDowns ..
  exact .ite (.step (t.wr_keepsDowns ..) ht) ht

theorem State.sendNm_keepsDowns (p x : Nat) : KeepsDowns s (s.sendNm p x) := by
  unfold State.sendNm
  exact .step (State.setWake_keeps ..).keepsKeys (.step (State.count_keepsDowns ..) (s.emit_keeps _).keepsKeys)

theorem State.sendAlive_keepsDowns (p : Nat) : KeepsDowns s (s.sendAlive p) := by
  unfold State.sendAlive
  exact .ite (.step (State.sendNm_keepsDowns ..) (s.setWake_keeps _).keepsKeys) (s.setWake_keeps _).keepsKeys

theorem State.netWake_keepsDowns (n : Nat) : KeepsDowns s (s.netWake n) := by
  unfold State.netWake
  extract_lets t u
  have ht : KeepsDowns s t := .step (State.event_keepsDowns ..) (s.setNet_keepsDowns ..)
  have hu : KeepsDowns s u := .step (State.wr_keepsDowns ..) (.step (t.canWakeUp_keepsDowns _) ht)
  exact .ite (.step (t.ethWake_keepsDowns n) ht) (.ite (.ite (.step (u.sendAlive_keepsDowns _) hu) hu)
    (.step (State.setWake_keeps ..).keepsKeys (.step (State.emit_keeps ..).keepsKeys (.step (t.wr_keepsDowns ..) ht))))

theorem State.netAbort_keepsDowns (n : Nat) (x : Bool) : KeepsDowns s (s.netAbort n x) := by
  unfold State.netAbort
  extract_lets t
  have ht : KeepsDowns s t := .step (State.count_keepsDowns ..) (.step (State.sticky_keepsDowns ..) (s.setNet_keepsDowns ..))
  exact .ite (.step (t.sendAlive_keepsDowns _) ht) ht

theorem State.canToSleep_keepsDowns (p : Nat) : KeepsDowns s (s.canToSleep p) := by
  unfold State.canToSleep
  extract_lets _ t
  have ht : KeepsDowns s t := .ite (s.wr_keepsDowns ..) (.refl ..)
  exact .ite (.step (t.wr_keepsDowns ..) ht) (.step (State.wr_keepsDowns ..) (.step (t.wr_keepsDowns ..) ht))

theorem State.linStop_keepsDowns (p x : Nat) : KeepsDowns s (s.linStop p x) := by
  unfold State.linStop State.setLinState
  exact .step (State.wr_keepsDowns ..) (.step (State.wr_keepsDowns ..) (.step (State.wr_keepsDowns ..) (s.setLin_keeps _).keepsKeys))

theorem State.linToSleep_keepsDowns (p : Nat) : KeepsDowns s (s.linToSleep p) := by
  unfold State.linToSleep State.linGoToSleep
  exact .ite (s.wr_keepsDowns ..) (.ite (s.setLin_keeps _).keepsKeys (.step (State.wr_keepsDowns ..) (.step (State.linStop_keepsDowns ..)
    (.step (State.count_keepsDowns ..) (.step (State.emit_keeps ..).keepsKeys (s.emit_keeps _).keepsKeys)))))

theorem State.netSleep_keepsDowns (n : Nat) : KeepsDowns s (s.netSleep n) := by
  unfold State.netSleep
  extract_lets _ t u v
  have hv : KeepsDowns s v := .step (State.setNet_keepsDowns ..) (s.setWake_keeps _).keepsKeys
  exact .ite (.step (t.sleepStart_keepsDowns n) (s.setWake_keeps _).keepsKeys)
    (.ite (.step (v.canToSleep_keepsDowns _) hv) (.step (v.linToSleep_keepsDowns _) hv))

theorem State.evalNet_keepsDowns (n : Nat) : KeepsDowns s (s.evalNet n) := by
  unfold State.evalNet
  extract_lets st _ t
  have ht : KeepsDowns s t := s.setNet_keepsDowns ..
  exact .ite
    (.ite (.step (State.setNet_keepsDowns ..) (s.setWake_keeps _).keepsKeys) (.ite (s.netAbort_keepsDowns ..)
      (.ite (.ite (.refl ..) (.step (State.sticky_keepsDowns ..) (s.setWake_keeps _).keepsKeys)) (.ite (s.netWake_keepsDowns n) (.refl ..)))))
    (.ite (.ite ht (.ite (.step (t.netSleep_keepsDowns n) ht) (.step (t.setWake_keeps _).keepsKeys ht))) (.refl ..))

theorem State.ethSynced_keepsDowns (p : Nat) : KeepsDowns s (s.ethSynced p) := by
  unfold State.ethSynced
  extract_lets _ t u
  have hu : KeepsDowns s u := .step (State.event_keepsDowns ..) (.step (State.setNet_keepsDowns ..) (s.setWake_keeps _).keepsKeys)
  exact .ite (.ite (.step (u.netWake_keepsDowns p) hu) hu)
    (.ite (.step (State.evalNet_keepsDowns ..) (.step (State.event_keepsDowns ..) (s.setNet_keepsDowns ..))) (.refl ..))

/-! ## Saturation (R13) -/

/-- The sum, or all ones where the sum is beyond it. -/
theorem satAdd_eq_min (v n w : Nat) : satAdd v n w = Nat.min (2 ^ w - 1) (v + n) := by
  have h := Nat.two_pow_pos w
  have hmin : Nat.min (2 ^ w - 1) (v + n) = min (2 ^ w - 1) (v + n) := rfl
  unfold satAdd
  split <;> omega

/-- A full tally stays full. -/
theorem State.rd_count_full {w : Nat} {f : Field} {i : Nat} (h : s.rd w f i = 2 ^ f.width - 1) (n : Nat) :
    (s.count w f i n).rd w f i = 2 ^ f.width - 1 := by
  rw [State.rd_count_same, satAdd_eq_min, h]
  exact Nat.min_eq_left (Nat.le_add_right ..)

/-- Losing the link of a port in UP counts in LINK_DOWNS, and nothing that follows writes it (R166). -/
theorem State.linkLost_rd_downs {p : Fin 16} (h : s.ethState p = ethUp) :
    ((s.linkLost p).ethSynced p).rd (wEth p) ETH_LINK_DOWNS.COUNT =
      ((s.sticky (wEth p) ETH_STAT.LINK_LOST).count (wEth p) ETH_LINK_DOWNS.COUNT).rd (wEth p) ETH_LINK_DOWNS.COUNT := by
  have hkey : DownsKey (ETH_LINK_DOWNS.COUNT.key (wEth p) 0) := ⟨p, rfl⟩
  rw [State.linkLost, if_pos h, State.ethDrop]
  refine KeepsKeys.rd ?_ hkey
  exact .step (State.ethSynced_keepsDowns ..) (.step (State.train_keepsDowns ..) (.step (State.readerDown_keepsDowns ..)
    (State.event_keepsDowns ..)))

/-- Settles O55: a count is the saturated sum, and after the loss of a link only its count writes LINK_DOWNS. -/
theorem talliesSaturate : Obligations.TalliesSaturate := by
  constructor
  · intro s w f i n _ _ _
    rw [State.rd_count_same, satAdd_eq_min]
  · intro s p hup hfull
    refine ⟨_, rfl, ?_⟩
    have hkept : ((fresh s).sticky (wEth p) ETH_STAT.LINK_LOST).rd (wEth p) ETH_LINK_DOWNS.COUNT = s.rd (wEth p) ETH_LINK_DOWNS.COUNT :=
      ((fresh s).sticky_keepsDowns (wEth p) ETH_STAT.LINK_LOST 0).rd ⟨p, rfl⟩
    show (((fresh s).linkLost p).ethSynced p).rd (wEth p) ETH_LINK_DOWNS.COUNT = s.rd (wEth p) ETH_LINK_DOWNS.COUNT
    rw [(fresh s).linkLost_rd_downs hup, State.rd_count_full _ (hkept.trans hfull), hfull]

end Sys2Proof.Machine

/-! SUPPORT. Unassigned windows (R39): what a read and a write of one do, and where the links of a descriptor lead. -/

namespace Sys2Proof.Machine

-- One proof after the other, as in the tests: proofs elaborated side by side after so long a text exhaust the memory for threads.
set_option Elab.async false

/-! ## The window map -/

/-- The windows of a run are windows of the map (R46). -/
theorem isSome_unitOf_of_run {w : Nat} {r : WindowRun} (hr : r ∈ windowRuns) (hf : r.first ≤ w) (hl : w < r.first + r.count) :
    (unitOf w).isSome = true := by
  rw [unitOf, List.findSome?_isSome_iff]
  exact ⟨r, hr, by simp [unitIn, hf, hl]⟩

/-- The windows of the map are those with a unit (R46). -/
theorem mem_fixedWindows {w : Nat} : w ∈ fixedWindows ↔ (unitOf w).isSome = true := by
  constructor
  · intro h
    obtain ⟨r, hr, hw⟩ := List.mem_flatMap.mp h
    obtain ⟨i, hi, rfl⟩ := List.mem_map.mp hw
    exact isSome_unitOf_of_run hr (Nat.le_add_right ..) (by have := List.mem_range.mp hi; omega)
  · intro h
    obtain ⟨r, hr, hf, hl, _⟩ := exists_run h
    exact List.mem_flatMap.mpr ⟨r, hr, List.mem_map.mpr ⟨w - r.first, List.mem_range.mpr (by omega), by omega⟩⟩

theorem isSome_unitOf_of_mem_childrenOf {w v : Nat} (h : v ∈ childrenOf w) : (unitOf v).isSome = true :=
  mem_fixedWindows.mp (List.mem_filter.mp h).1

/-! ## Reads and writes of an unassigned window (R39) -/

section
variable {s : State} {w : Nat}

theorem State.readFault_unassigned (hw : unitOf w = none) (init : Nat) (l : List Nat) : s.readFault init w l = none := by
  simp [State.readFault, State.served, hw]

theorem State.readBytes_unassigned (hw : unitOf w = none) (init holder : Nat) (spec : Bool) (l : List Nat) :
    s.readBytes init holder w spec l = (s, l.map fun _ => 0) := by
  induction l with
  | nil => rfl
  | cons ofs r ih => simp [State.readBytes, State.readByte, hw, ih]

/-- A read of an unassigned window gives zeros (R39). -/
theorem State.localRead_unassigned (hw : unitOf w = none) (init holder : Nat) (l : List Nat) (spec : Bool) :
    s.localRead init holder w l spec = (s, some (l.map fun _ => 0)) := by
  simp [State.localRead, State.readFault_unassigned hw, State.readBytes_unassigned hw]

/-- A byte written to an unassigned window is ignored (R39). -/
theorem State.localWrite_unassigned (hw : unitOf w = none) (init ofs b : Nat) : s.localWrite init w [(ofs, b)] = (s, true) := by
  have hi : s.writeIgnored w ofs = true := by simp [State.writeIgnored, hw]
  simp [State.localWrite, State.writeFault, State.byteKind, State.each, State.applyByte, hi]

end

/-- The read of one byte without side effects gives the initiator 0, and changes nothing. -/
theorem speculativeRead_unassigned {s : State} {init : Initiator} {a : Addr} (hw : unitOf (a.toNat / 4096) = none)
    (hr : isRemote (a.toNat / 4096) = false) (hs : s.reaches init.code = true) :
    exec (.speculativeRead init a) s = .next ((fresh s).emit (.readData init.code [0])) := by
  have hs' : (fresh s).reaches init.code = true := hs
  show Host.Outcome.next (byteReads init.code a.toNat true (fresh s)) = _
  simp [byteReads, State.readAccess, offsets, State.localRead_unassigned hw, hr, hs']

/-- A byte written by any initiator changes nothing. -/
theorem registerWrite_unassigned {s : State} {init : Initiator} {a : Addr} (b : Byte) (hw : unitOf (a.toNat / 4096) = none)
    (hr : isRemote (a.toNat / 4096) = false) : Quiet (.registerWrite init a b) s := by
  show Host.Outcome.next (regWrite init.code a.toNat b.toNat (fresh s)) = _
  simp [regWrite, State.writeAccess, offsets, State.localWrite_unassigned hw, hr]

/-! ## The links of a descriptor (R47) -/

/-- The parent of a window of the map is one. -/
theorem isSome_unitOf_parent {w : Nat} {u : Unit} (hu : unitOf w = some u) : (unitOf u.parent).isSome = true := by
  have hall : ∀ w ∈ fixedWindows, ∀ u ∈ unitOf w, (unitOf u.parent).isSome = true := by decide +kernel
  exact hall w (mem_fixedWindows.mpr (by simp [hu])) u hu

theorem isSome_unitOf_headD {l : List Nat} (h : ∀ v ∈ l, (unitOf v).isSome = true) : (unitOf (l.headD 0)).isSome = true := by
  cases l with
  | nil => rfl
  | cons v r => exact h v List.mem_cons_self

/-- The first child that a window's descriptor names; under Derrick it is a mapped remote window (R47). -/
def State.firstChild (s : State) (w : Nat) : Nat :=
  if w = wDerrick then (match s.mapped with
      | [] => 0
      | i :: _ => 0x800 + i)
    else (childrenOf w).headD 0

/-- The window that a descriptor of this parent names as the next sibling (R47). -/
def nextSibling (w parent : Nat) : Nat := if w = 0 then 0 else ((childrenOf parent).find? (w < ·)).getD 0

theorem State.descLink_eq (s : State) (w : Nat) (u : Unit) :
    s.descLink w u = u.parent * 2 ^ 32 + s.firstChild w * 65536 + nextSibling w u.parent := rfl

theorem isSome_unitOf_nextSibling (w parent : Nat) : (unitOf (nextSibling w parent)).isSome = true := by
  unfold nextSibling
  split
  · rfl
  · cases hf : (childrenOf parent).find? (w < ·) with
    | none => rfl
    | some v => exact isSome_unitOf_of_mem_childrenOf (List.mem_of_find?_eq_some hf)

theorem State.firstChild_assigned (s : State) (w : Nat) :
    (unitOf (s.firstChild w)).isSome = true ∨ w = wDerrick ∧ ∃ i ∈ s.mapped, s.firstChild w = 0x800 + i := by
  unfold State.firstChild
  split
  · next hw =>
    split
    · exact .inl rfl
    · next i _ hm => exact .inr ⟨hw, i, by simp [hm], rfl⟩
  · exact .inl (isSome_unitOf_headD fun v => isSome_unitOf_of_mem_childrenOf)

/-- Where every mapped entry is one that DRK_MSEL can name, the links of a descriptor lead to assigned windows (R39, R47). -/
theorem State.descLink_assigned {s : State} (hm : ∀ i ∈ s.mapped, i < 0x800) {w v : Nat} {u : Unit} (hu : unitOf w = some u)
    (hv : v ∈ [s.descLink w u / 2 ^ 32, s.descLink w u / 2 ^ 16 % 2 ^ 16, s.descLink w u % 2 ^ 16]) :
    (unitOf v).isSome = true ∨ w = wDerrick ∧ ∃ i ∈ s.mapped, v = 0x800 + i := by
  have hsib := isSome_unitOf_nextSibling w u.parent
  have hlt := lt_of_unitOf hsib
  have hchild : s.firstChild w < 0x1000 := by
    rcases s.firstChild_assigned w with h | ⟨-, i, hi, e⟩
    · have := lt_of_unitOf h; omega
    · have := hm i hi; omega
  have hfields : v = u.parent ∨ v = s.firstChild w ∨ v = nextSibling w u.parent := by
    simp only [State.descLink_eq, List.mem_cons, List.not_mem_nil, or_false] at hv
    omega
  rcases hfields with rfl | rfl | rfl
  · exact .inl (isSome_unitOf_parent hu)
  · exact s.firstChild_assigned w
  · exact .inl hsib

/-- Refutes O53: an entry of the map file beyond those that DRK_MSEL can name overflows the 16 bits of a link. With entry 0xF804 alone mapped,
Derrick's first child reads as window 0x004, which the map does not assign. Where the mapped entries are within DRK_MSEL's range the links are as
R39 says (State.descLink_assigned), and so are the reads and writes of an unassigned window in every state. -/
theorem not_unassignedWindows : ¬ Obligations.UnassignedWindows := by
  rintro ⟨-, -, -, hlinks⟩
  have hunit : unitOf wDerrick = some ⟨0x00B2, 0, 0x360, dieGX, .derrick⟩ := by decide +kernel
  have hchild : (State.reset.wr wDerrick DRK_MAP.EN 1 0xF804).descLink wDerrick ⟨0x00B2, 0, 0x360, dieGX, .derrick⟩ / 2 ^ 16 % 2 ^ 16 = 4 := by
    decide +kernel
  rcases hlinks _ wDerrick _ _ hunit (List.mem_cons_of_mem _ List.mem_cons_self) with hassigned | ⟨-, i, -, hremote⟩
  · rw [hchild] at hassigned
    exact absurd hassigned (by decide +kernel)
  · rw [hchild] at hremote
    omega

end Sys2Proof.Machine

/-! SUPPORT. What a fan-out still has to write (R42, R45), and that a state in which these are windows of the map leads to such a state:
the operations that keep the fan-outs, and the resets that end them. -/

namespace Sys2Proof.Machine

-- One proof after the other, as in the tests: proofs elaborated side by side after so long a text exhaust the memory for threads.
set_option Elab.async false

/-- What every fan-out that runs still has to write are windows of the map, and none is remote. -/
structure FansInMap (s : State) : Prop where
  todo : ∀ f ∈ s.fans, ∀ v ∈ f.todo, v ∈ fixedWindows ∧ isRemote v = false

/-- The map assigns no remote window of itself (R46, R47). -/
theorem isRemote_of_mem_fixedWindows {v : Nat} (h : v ∈ fixedWindows) : isRemote v = false := by
  have := lt_of_unitOf (mem_fixedWindows.mp h)
  simp [isRemote]; omega

/-- A fan-out reaches windows of the map (R42, R45). -/
theorem State.mem_fixedWindows_of_fanReach {s : State} {w v : Nat} (h : v ∈ s.fanReach w) : v ∈ fixedWindows := by
  unfold State.fanReach at h
  simp only at h
  split at h <;> exact (List.mem_filter.mp h).1

section
variable {α β : Type} {s t : State} {m : Nat}

theorem FansInMap.of_fans (e : t.fans = s.fans) (h : FansInMap s) : FansInMap t := ⟨e ▸ h.todo⟩

theorem FansInMap.of_none (e : s.fans = []) : FansInMap s := ⟨by simp [e]⟩

/-- A state some of whose fan-outs go on as they are, the others having ended. -/
theorem FansInMap.filter (p : Fanout → Bool) (h : FansInMap s) : FansInMap (s.setFans (s.fans.filter p)) :=
  ⟨fun f hf => h.todo f (List.mem_filter.mp hf).1⟩

/-- An operation whose mask leaves out the fan-outs. -/
theorem Keeps.fansInMap (k : Keeps m s t) (h : FansInMap s) (hm : m.testBit 3 = false := by decide) : FansInMap t := h.of_fans (k.fans hm)

theorem KeepsO.fansInMap {o : Option State} (k : KeepsO m s o) (h : FansInMap s) (e : o = Option.some t)
    (hm : m.testBit 3 = false := by decide) : FansInMap t := (k.get e).fansInMap h hm

theorem FansInMap.ite {p : Prop} [Decidable p] (hs : FansInMap s) (ht : FansInMap t) : FansInMap (if p then s else t) := by
  split <;> assumption

theorem FansInMap.ite_fst {p : Prop} [Decidable p] {x y : State × β} (hx : FansInMap x.1) (hy : FansInMap y.1) :
    FansInMap (if p then x else y).1 := by
  split <;> assumption

theorem FansInMap.when {f : State → State} (c : Bool) (h : FansInMap s) (hf : FansInMap (f s)) : FansInMap (s.when c f) := .ite hf h

theorem FansInMap.each {l : List α} {f : State → α → State} (h : FansInMap s) (hf : ∀ t x, FansInMap t → FansInMap (f t x)) :
    FansInMap (s.each l f) := by
  unfold State.each
  induction l generalizing s with
  | nil => exact h
  | cons x r ih => exact ih (hf s x h)

theorem FansInMap.getD {o : Option State} (h : FansInMap s) (ho : ∀ t ∈ o, FansInMap t) : FansInMap (o.getD s) := by
  cases o with
  | none => exact h
  | some t => exact ho t rfl

theorem FansInMap.cmdWrite {init w ofs data : Nat} {kinds : List Kind} {g : State → State} (h : FansInMap s)
    (hg : ∀ t, FansInMap t → FansInMap (g t)) : FansInMap (s.cmdWrite init w ofs data kinds g) := by
  unfold State.cmdWrite
  refine .ite h ?_
  split
  · exact (State.endAccess_keeps ..).fansInMap ((State.violate_keeps ..).fansInMap h)
  · exact hg _ ((State.freshParity_keeps ..).fansInMap h)

end

/-! ## The resets that end every fan-out -/

/-- GX loses its state, and with it every fan-out (R33). -/
theorem State.gxLost_fansInMap (s : State) : FansInMap s.gxLost := .of_none (((State.ringsOff_keeps ..).fans rfl).trans rfl)

section
variable {s : State}

theorem State.wdogReset_fansInMap (s : State) (why : Nat) : FansInMap (s.wdogReset why) :=
  (State.setPwr_keeps ..).fansInMap ((State.resetFields_keeps ..).fansInMap (State.gxLost_fansInMap _))

theorem State.coreReset_fansInMap (s : State) (c : ResetCode) : FansInMap (s.coreReset c) := by
  unfold State.coreReset
  extract_lets _ _ _ _ lost modes
  have hlost : FansInMap lost :=
    (State.resetFields_keeps ..).fansInMap ((State.ixLost_keeps ..).fansInMap (State.gxLost_fansInMap _))
  have hmodes : FansInMap modes := (State.allModes_keeps ..).fansInMap hlost
  exact (State.setPwr_keeps ..).fansInMap (.ite hmodes ((State.wakeAll_keeps ..).fansInMap hmodes))

theorem State.softReset_fansInMap (s : State) (cause : Nat) : FansInMap (s.softReset cause) :=
  (State.setPwr_keeps ..).fansInMap (State.coreReset_fansInMap ..)

theorem State.tamperRestart_fansInMap (s : State) : FansInMap s.tamperRestart := by
  unfold State.tamperRestart
  extract_lets _ _ _ lost ctrls outs bridges woken
  have hlost : FansInMap lost :=
    (State.resetFields_keeps ..).fansInMap ((State.ixLost_keeps ..).fansInMap (State.gxLost_fansInMap _))
  have hctrls : FansInMap ctrls := hlost.each fun _ _ => (State.wr_keeps ..).fansInMap
  have houts : FansInMap outs := hctrls.each fun _ _ h => (State.chOutput_keeps ..).fansInMap ((State.wr_keeps ..).fansInMap h)
  have hbridges : FansInMap bridges := houts.each fun _ _ => (State.hbApply_keeps ..).fansInMap
  exact (State.setPwr_keeps ..).fansInMap ((State.wakeAll_keeps ..).fansInMap hbridges)

theorem State.parkCommit_fansInMap (s : State) : FansInMap s.parkCommit := by
  unfold State.parkCommit
  extract_lets _ _ _ _ _ _ _ lost
  have hlost : FansInMap lost := (State.resetFields_keeps ..).fansInMap (State.gxLost_fansInMap _)
  exact .ite ((State.setPwr_keeps ..).fansInMap hlost) ((State.enterPark_keeps ..).fansInMap hlost)

/-- The loss of AON leaves the state after a POR, which has no fan-out. -/
theorem State.aonGone_fansInMap (s : State) (p : PowerState) (bor en : Bool) : FansInMap (s.aonGone p bor en) := by
  unfold State.aonGone
  extract_lets _ _ _ _ _ _ _ _ r r1 r2
  have hr : FansInMap r := .of_none rfl
  have hr1 : FansInMap r1 := hr.each fun _ _ => (State.wr_keeps ..).fansInMap
  have hr2 : FansInMap r2 := hr1.each fun _ _ => (State.wr_keeps ..).fansInMap
  exact .ite hr2 ((State.wr_keeps ..).fansInMap ((State.wr_keeps ..).fansInMap hr2))

/-! ## The events that lead to them -/

theorem tamper_fansInMap (k : Nat) (h : FansInMap s) : FansInMap (tamper k s) := by
  unfold tamper
  extract_lets seen zeroed
  have hseen : FansInMap seen := (State.wr_keeps ..).fansInMap h
  exact .ite hseen (.ite (State.tamperRestart_fansInMap _) ((State.tamperZero_keeps ..).fansInMap hseen))

theorem powerOn_fansInMap (good : Bool) (h : FansInMap s) : FansInMap (powerOn good s) :=
  .ite h (.ite (State.aonGone_fansInMap ..) (State.aonGone_fansInMap ..))

theorem aonLost_fansInMap (h : FansInMap s) : FansInMap (aonLost s) := .ite h (State.aonGone_fansInMap ..)

theorem borBegin_fansInMap (h : FansInMap s) : FansInMap (borBegin s) := by
  unfold borBegin
  refine .ite h ?_
  extract_lets _ _ _ backup
  have hbackup : FansInMap backup := (State.setPwr_keeps ..).fansInMap (State.coreReset_fansInMap ..)
  exact (State.setPins_keeps ..).fansInMap
    (.ite ((State.powerOff_keeps ..).fansInMap hbackup) ((State.setPins_keeps ..).fansInMap hbackup))

theorem pinReset_fansInMap (h : FansInMap s) : FansInMap (pinReset s) :=
  .ite ((State.setPins_keeps ..).fansInMap h) (State.coreReset_fansInMap ..)

theorem pgoodLost_fansInMap (h : FansInMap s) : FansInMap (pgoodLost s) :=
  .ite ((State.wantStart_keeps ..).fansInMap ((State.powerOff_keeps ..).fansInMap (State.wdogReset_fansInMap ..))) h

theorem clockLoss_fansInMap (h : FansInMap s) : FansInMap (clockLoss s) := .ite (State.wdogReset_fansInMap ..) h

theorem heartbeatLost_fansInMap (h : FansInMap s) : FansInMap (heartbeatLost s) := .ite (State.wdogReset_fansInMap ..) h

theorem parkBegin_fansInMap (h : FansInMap s) : FansInMap (parkBegin s) := .ite (State.parkCommit_fansInMap _) h

theorem mpWatchdog_fansInMap (h : FansInMap s) : FansInMap (mpWatchdog s) := by
  unfold mpWatchdog
  refine .ite h ?_
  extract_lets seen
  have hseen : FansInMap seen := (State.troubleRecord_keeps ..).fansInMap ((State.sticky_keeps ..).fansInMap h)
  exact .ite (State.wdogReset_fansInMap ..) ((State.setPwr_keeps ..).fansInMap ((State.mpWarm_keeps ..).fansInMap hseen))

theorem hwWatchdog_fansInMap (h : FansInMap s) : FansInMap (hwWatchdog s) := .ite (State.coreReset_fansInMap ..) h

end

end Sys2Proof.Machine

/-! SUPPORT. What an access to a register leaves of the fan-outs: the start of one, the UNIT reset that ends one, and the cards of all
registers. -/

namespace Sys2Proof.Machine

-- One proof after the other, as in the tests: proofs elaborated side by side after so long a text exhaust the memory for threads.
set_option Elab.async false

/-- What the card of a register does takes a state whose fan-outs stay in the map to such a state. -/
structure Act.KeepsFansInMap (a : Act) : Prop where
  run : ∀ {s : State}, FansInMap s → FansInMap (a.run s)

theorem Act.KeepsFansInMap.of_keeps {a : Act} {m : Nat} (k : ∀ s, Keeps m s (a.run s)) (hm : m.testBit 3 = false := by decide) :
    a.KeepsFansInMap := ⟨fun {s} h => (k s).fansInMap h hm⟩

section
variable {s : State}

/-! ## UNIT resets -/

/-- A fan-out of a group that is reset has ended (R85). -/
theorem FansInMap.resetUnit (h : FansInMap s) (w : Nat) (fault : Bool) : FansInMap (s.resetUnit w fault) :=
  .ite h ((State.wr_keeps ..).fansInMap (.filter _ ((State.resetFields_keeps ..).fansInMap ((State.endWork_keeps ..).fansInMap h))))

theorem FansInMap.unitReset (h : FansInMap s) (w : Nat) (fault : Bool) : FansInMap (s.unitReset w fault) :=
  (State.axisSources_keeps ..).fansInMap ((State.wr_keeps ..).fansInMap (h.each fun _ v ht => ht.resetUnit v fault))

theorem unitWatchdog_fansInMap (w : Nat) (h : FansInMap s) : FansInMap (unitWatchdog w s) := by
  unfold unitWatchdog
  extract_lets _ faulted recovering
  have hfaulted : FansInMap faulted := (State.recordFault_keeps ..).fansInMap ((State.sticky_keeps ..).fansInMap h)
  have hrecovering : FansInMap recovering := (State.axisSources_keeps ..).fansInMap ((State.wr_keeps ..).fansInMap hfaulted)
  exact .ite h (.ite hfaulted (FansInMap.unitReset ((State.revokeUnit_keeps ..).fansInMap hrecovering) ..))

/-! ## The cards -/

/-- A fan-out that starts has the windows it reaches still to write (R42). -/
theorem FansInMap.fanStart (h : FansInMap s) (init w data : Nat) : FansInMap (s.fanStart init w data) := by
  refine (State.wr_keeps ..).fansInMap ⟨fun f hf v hv => ?_⟩
  rcases List.mem_append.mp hf with hold | hnew
  · exact h.todo f hold v hv
  · rw [List.mem_singleton.mp hnew] at hv
    have hmap := State.mem_fixedWindows_of_fanReach hv
    exact ⟨hmap, isRemote_of_mem_fixedWindows hmap⟩

theorem State.groupAct_keepsFansInMap (s : State) (init w o v : Nat) : (s.groupAct init w o v).KeepsFansInMap := by
  unfold State.groupAct
  split
  · exact ⟨fun h => h.fanStart ..⟩
  · exact ⟨(State.storeReg_keeps ..).fansInMap⟩

/-- A register with CMD fields stores the byte and runs at most one of its commands (R495). -/
theorem State.cmdReg_keepsFansInMap (s : State) (w o v : Nat) {l : List (Field × List Kind × (State → State))}
    (hl : ∀ x ∈ l, ∀ t, FansInMap t → FansInMap (x.2.2 t)) : (s.cmdReg w o v l).KeepsFansInMap := by
  unfold State.cmdReg
  split
  · exact ⟨(State.storeReg_keeps ..).fansInMap⟩
  · next f k g e =>
    have hmem : (f, k, g) ∈ l := (List.mem_filter.mp (e ▸ List.mem_singleton.mpr rfl)).1
    exact ⟨fun h => hl _ hmem _ ((State.storeReg_keeps ..).fansInMap h)⟩
  · exact ⟨id⟩

theorem State.pwrAct_keepsFansInMap (s : State) (w o v : Nat) : (s.pwrAct w o v).KeepsFansInMap := by
  unfold State.pwrAct
  split
  · refine s.cmdReg_keepsFansInMap w o v ?_
    simp only [List.forall_mem_cons, List.not_mem_nil, false_imp_iff, implies_true, and_true]
    exact ⟨fun _ => (park_keeps ..).fansInMap, fun _ => (State.cancelPark_keeps ..).fansInMap,
      fun t _ => t.softReset_fansInMap causeSoft, fun _ => (State.mpWarm_keeps ..).fansInMap⟩
  · exact ⟨fun h => (State.parkCheck_keeps ..).fansInMap ((State.storeReg_keeps ..).fansInMap h)⟩

/-- Of the cards beside UPD's and Derrick's, those of a group start a fan-out, and those of PWR reset the module. -/
theorem State.regAct_keepsFansInMap (s : State) (init w o v : Nat) : (s.regAct init w o v).KeepsFansInMap := by
  unfold State.regAct
  split
  · exact .of_keeps fun _ => State.commonAct_keeps ..
  split
  · exact s.groupAct_keepsFansInMap ..
  split
  · exact .of_keeps fun _ => State.hostAct_keeps ..
  · exact s.pwrAct_keepsFansInMap ..
  · exact .of_keeps fun _ => State.supAct_keeps ..
  · exact .of_keeps fun _ => State.ksAct_keeps ..
  · exact .of_keeps fun _ => State.tamperAct_keeps ..
  · exact .of_keeps fun _ => State.attestAct_keeps ..
  · exact .of_keeps fun _ => State.tblAct_keeps ..
  · exact .of_keeps fun _ => State.stkAct_keeps ..
  · exact .of_keeps fun _ => State.hopAct_keeps ..
  · exact .of_keeps fun _ => State.ethAct_keeps ..
  · exact .of_keeps fun _ => State.l2Act_keeps ..
  · exact .of_keeps fun _ => State.seamAct_keeps ..
  · exact .of_keeps fun _ => State.canAct_keeps ..
  · exact .of_keeps fun _ => State.linAct_keeps ..
  · exact .of_keeps fun _ => State.sigAct_keeps ..
  · exact .of_keeps fun _ => State.pduAct_keeps ..
  · exact .of_keeps fun _ => State.weighAct_keeps ..
  · exact .of_keeps fun _ => State.authAct_keeps ..
  · exact .of_keeps fun _ => State.msecAct_keeps ..
  · exact .of_keeps fun _ => State.axAct_keeps ..
  · exact .of_keeps fun _ => State.axAct_keeps ..
  · exact .of_keeps fun _ => State.evpAct_keeps ..
  · split
    · exact s.cmdReg_keepsFansInMap w o v fun x hx => by
        rw [List.mem_singleton.mp hx]
        exact fun _ => (resumeHold_keeps ..).fansInMap
    · exact .of_keeps fun _ => State.plainAct_keeps ..
  · exact .of_keeps fun _ => State.chAct_keeps ..
  · exact .of_keeps fun _ => State.bridgeAct_keeps ..
  · exact .of_keeps fun _ => State.psAct_keeps ..
  · exact .of_keeps fun _ => State.swAct_keeps ..
  · exact .of_keeps fun _ => State.anAct_keeps ..
  · exact .of_keeps fun _ => State.meAct_keeps ..
  · exact .of_keeps fun _ => State.wakeAct_keeps ..
  · exact ⟨(cantWrite_keeps ..).fansInMap⟩
  all_goals exact .of_keeps fun _ => State.plainAct_keeps ..

theorem State.unitCtrlAct_keepsFansInMap (s : State) (init w v : Nat) : (s.unitCtrlAct init w v).KeepsFansInMap := by
  have hcommon : (s.commonAct init w 0x020 v).KeepsFansInMap := .of_keeps fun _ => State.commonAct_keeps ..
  unfold State.unitCtrlAct
  extract_lets a
  split
  · exact ⟨fun h => (State.urstSettle_keeps ..).fansInMap ((hcommon.run h).unitReset w false)⟩
  · exact hcommon

theorem State.fullAct_keepsFansInMap (s : State) (init w o v : Nat) : (s.fullAct init w o v).KeepsFansInMap := by
  unfold State.fullAct
  split
  · exact s.unitCtrlAct_keepsFansInMap ..
  split
  · exact s.regAct_keepsFansInMap ..
  split
  · exact .of_keeps fun _ => State.updAct_keeps ..
  · exact .of_keeps fun _ => State.drkAct_keeps ..
  · exact s.regAct_keepsFansInMap ..

/-! ## A byte, and an access -/

/-- A byte does to the fan-outs what the card of the register it commits does. -/
theorem State.byteActBy_keepsFansInMap (s : State) {act : Nat → Nat → Act} (ha : ∀ o v, (act o v).KeepsFansInMap) (init w ofs b : Nat) :
    (s.byteActBy act init w ofs b).KeepsFansInMap := by
  unfold State.byteActBy
  split
  · exact .of_keeps fun _ => State.viewAct_keeps ..
  extract_lets
  split
  · exact ⟨id⟩
  split
  · exact ⟨fun h => (State.w1cByte_keeps ..).fansInMap (.ite h ((State.hold_keeps ..).fansInMap h))⟩
  split
  · exact ⟨fun h => (State.dropHeld_keeps ..).fansInMap ((State.selectView_keeps ..).fansInMap h)⟩
  · exact ⟨fun h => (State.w1cByte_keeps ..).fansInMap ((State.dropHeld_keeps ..).fansInMap ((ha _ _).run h))⟩

theorem State.byteAct_keepsFansInMap (s : State) (init w ofs b : Nat) : (s.byteAct init w ofs b).KeepsFansInMap :=
  s.byteActBy_keepsFansInMap (s.regAct_keepsFansInMap init w) ..

theorem State.localByte_keepsFansInMap (s : State) (init w ofs b : Nat) : (s.localByte init w ofs b).KeepsFansInMap :=
  s.byteActBy_keepsFansInMap (s.fullAct_keepsFansInMap init w) ..

theorem FansInMap.applyByte (h : FansInMap s) (init w ofs b : Nat) : FansInMap (s.applyByte init w ofs b) := by
  have hrun := (s.localByte_keepsFansInMap init w ofs b).run h
  exact .ite h (.ite ((State.freshParity_keeps ..).fansInMap hrun) hrun)

theorem FansInMap.localWrite (h : FansInMap s) (init w : Nat) (l : List (Nat × Nat)) : FansInMap (s.localWrite init w l).1 := by
  unfold State.localWrite
  split
  · exact (State.refusedByte_keeps ..).fansInMap (h.when _ ((State.sticky_keeps ..).fansInMap h))
  · exact h.each fun _ x ht => ht.applyByte init w x.1 x.2

theorem FansInMap.writeAccess (h : FansInMap s) (init addr : Nat) (fix : Bool) (data : List Nat) :
    FansInMap (s.writeAccess init addr fix data).1 :=
  .ite_fst ((State.remoteWriteAll_keeps ..).fansInMap h) (h.localWrite ..)

end

end Sys2Proof.Machine

/-! SUPPORT. The legacy personality, the records of an image and its activation: they write registers, reset units, and restart the module,
and start no fan-out outside the map. -/

namespace Sys2Proof.Machine

-- One proof after the other, as in the tests: proofs elaborated side by side after so long a text exhaust the memory for threads.
set_option Elab.async false

section
variable {s : State}

/-! ## Legacy registers over the native units (R467 to R472) -/

theorem FansInMap.legByte (h : FansInMap s) (load : Bool) (w ofs b : Nat) : FansInMap (s.legByte load w ofs b).1 := by
  unfold State.legByte
  refine .ite_fst h ?_
  split
  · exact (State.violate_keeps ..).fansInMap h
  · exact (s.byteAct_keepsFansInMap ..).run h

theorem FansInMap.legBytes (h : FansInMap s) (load : Bool) (w : Nat) (l : List (Nat × Nat)) : FansInMap (s.legBytes load w l).1 := by
  induction l generalizing s with
  | nil => exact h
  | cons x r ih => exact .ite_fst (ih (h.legByte load w x.1 x.2)) (h.legByte load w x.1 x.2)

theorem FansInMap.xbCanCtrl (h : FansInMap s) (load : Bool) (p v : Nat) : FansInMap (s.xbCanCtrl load p v).1 := by
  unfold State.xbCanCtrl
  extract_lets rise t r
  have ht : FansInMap t := .ite ((State.xbTranslate_keeps ..).fansInMap h) h
  have hr : FansInMap r.1 := ht.legByte ..
  exact .ite_fst ((State.violate_keeps ..).fansInMap h) (.ite_fst hr (hr.each fun _ _ => (State.wr_keeps ..).fansInMap))

theorem FansInMap.outDuty (h : FansInMap s) (load : Bool) (n d : Nat) : FansInMap (s.outDuty load n d).1 :=
  .ite_fst ((State.setLeg_keeps ..).fansInMap (h.legBytes ..)) (h.legBytes ..)

/-- A legacy write leads to a native byte, or to the personality's own state. -/
theorem FansInMap.legacyWrite (h : FansInMap s) (load : Bool) (a v : Nat) : FansInMap (s.legacyWrite load a v).1 := by
  unfold State.legacyWrite
  refine .ite_fst h (.ite_fst ((State.xbIrqWrite_keeps ..).fansInMap h) ?_)
  have hcan : FansInMap (s.xbCanCtrl load ((a - 0x100) / 0x40) v).1 := h.xbCanCtrl ..
  refine .ite_fst (.ite_fst ((State.xbTimingWrite_keeps ..).fansInMap h) (.ite_fst hcan h)) ?_
  refine .ite_fst (.ite_fst (h.legByte ..) (.ite_fst (h.legBytes ..) h)) ?_
  refine .ite_fst (h.legByte ..) (.ite_fst (h.outDuty ..) ?_)
  refine .ite_fst (.ite_fst (h.legByte ..) h) (.ite_fst h (.ite_fst (h.legBytes ..) ?_))
  refine .ite_fst (.ite_fst ((State.slotCommit_keeps ..).fansInMap h) ((State.setSlotByte_keeps ..).fansInMap h)) ?_
  refine .ite_fst (.ite_fst ((State.boxCommand_keeps ..).fansInMap h) ((State.boxWrite_keeps ..).fansInMap h)) ?_
  exact .ite_fst (h.legByte ..) (.ite_fst (h.legByte ..) h)

/-! ## Records of an image -/

theorem FansInMap.imgLegacy (h : FansInMap s) (a v : Nat) : ∀ t ∈ s.imgLegacy a v, FansInMap t := by
  intro t e
  simp only [State.imgLegacy, Option.mem_def, Option.ite_none_left_eq_some, Option.ite_none_right_eq_some, Option.some.injEq] at e
  obtain ⟨-, -, rfl⟩ := e
  exact h.legacyWrite ..

theorem FansInMap.imgRec (h : FansInMap s) (r : ImgRec) : ∀ t ∈ s.imgRec r, FansInMap t := by
  intro t e
  cases r with
  | reg a v => exact (State.imgByte_keeps ..).fansInMap h e
  | entry v i bytes =>
    simp only [State.imgRec, Option.mem_def, Option.ite_none_left_eq_some] at e
    exact (State.imgEntry_keeps ..).fansInMap h e.2
  | l2 fid mac dm dl dest => exact (State.imgL2_keeps ..).fansInMap h e
  | pfx v6 plen addr route => exact (State.imgPrefix_keeps ..).fansInMap h e
  | blob k ofs c0 c1 =>
    cases e
    exact (State.loadBlob_keeps ..).fansInMap h
  | mdio p devad reg data =>
    simp only [State.imgRec, Option.mem_def, Option.ite_none_left_eq_some, Option.some.injEq] at e
    obtain ⟨-, rfl⟩ := e
    exact (State.setMdioList_keeps ..).fansInMap h
  | ptp slaves masters =>
    cases e
    exact (State.setCfg_keeps ..).fansInMap h
  | legacy a v => exact h.imgLegacy _ _ t e

theorem FansInMap.imgRec_getD (h : FansInMap s) (r : ImgRec) : FansInMap ((s.imgRec r).getD s) := h.getD (h.imgRec r)

theorem FansInMap.imgRecs (h : FansInMap s) (l : List ImgRec) : ∀ t ∈ s.imgRecs l, FansInMap t := by
  induction l generalizing s with
  | nil => rintro t ⟨⟩; exact h
  | cons r l ih =>
    intro t e
    unfold State.imgRecs at e
    split at e
    · cases e
    · next u hu => exact ih (h.imgRec r u hu) t e

theorem FansInMap.installSection (h : FansInMap s) (x : ImgSection) {t : State} (e : s.installSection x = .inl t) : FansInMap t := by
  unfold State.installSection at e
  split at e
  · cases e
  split at e
  · cases e
    exact (State.sticky_keeps ..).fansInMap h
  split at e
  · cases e
  · next u hu =>
    cases e
    exact h.imgRecs _ _ hu

theorem FansInMap.installSections (h : FansInMap s) (l : List ImgSection) : FansInMap (s.installSections l).1 := by
  induction l generalizing s with
  | nil => exact h
  | cons x l ih =>
    unfold State.installSections
    split
    · exact h
    · next t e => exact ih (h.installSection x e)

theorem State.loadFailed_fansInMap (s : State) (cause sect : Nat) : FansInMap (s.loadFailed cause sect) := State.softReset_fansInMap ..

theorem FansInMap.installPhase (h : FansInMap s) (p : Nat) : FansInMap (s.installPhase p) := by
  unfold State.installPhase
  extract_lets l personality r own _ staged ready
  have hpers : ∀ t, FansInMap t → FansInMap (personality t) := fun t ht => .ite ((State.legacyDefaults_keeps ..).fansInMap ht) ht
  have hown : FansInMap own := hpers _ (FansInMap.installSections (hpers s h) l)
  split
  · exact State.loadFailed_fansInMap ..
  split
  · exact State.loadFailed_fansInMap ..
  have hready : FansInMap ready :=
    (State.phaseReady_keeps ..).fansInMap ((State.wr_keeps ..).fansInMap ((State.setCfg_keeps ..).fansInMap hown))
  exact .ite ((State.phase1Done_keeps ..).fansInMap hready) hready

theorem phaseInstall_fansInMap (k : Nat) (h : FansInMap s) : FansInMap (phaseInstall k s) := .ite (h.installPhase _) h

/-! ## The reload after a UNIT reset (R118) -/

theorem FansInMap.reloadUnit (h : FansInMap s) (w : Nat) : FansInMap (s.reloadUnit w) := by
  unfold State.reloadUnit
  extract_lets all t carded slots
  have ht : FansInMap t := h.each fun _ r hu => hu.imgRec_getD r
  have hcarded : FansInMap carded := (State.cardKept_keeps ..).fansInMap ht
  have hslots : FansInMap slots := .ite ((State.reloadSlots_keeps ..).fansInMap hcarded) hcarded
  exact (State.unitReady_keeps ..).fansInMap (.ite ((State.legacyForce_keeps ..).fansInMap hslots) hslots)

theorem FansInMap.reloaded (h : FansInMap s) (w : Nat) : FansInMap (s.reloaded w) := by
  unfold State.reloaded
  refine .ite h ?_
  extract_lets rom loaded
  have hrom : FansInMap rom := .ite ((State.kmpOnly_keeps ..).fansInMap h) (.ite ((State.wr_keeps ..).fansInMap h) h)
  have hloaded : FansInMap loaded := .ite ((State.reloadSignals_keeps ..).fansInMap hrom) (hrom.reloadUnit w)
  exact (State.parkCheck_keeps ..).fansInMap ((State.axisSources_keeps ..).fansInMap ((State.urstSettle_keeps ..).fansInMap hloaded))

/-! ## The activation of an image at run time (R129) -/

theorem FansInMap.cfgBegin (h : FansInMap s) (x : SlotImage) : FansInMap (s.cfgBegin x) := by
  have habort : ∀ t c, FansInMap t → FansInMap (t.cfgAbort c) := fun _ _ => (State.cfgAbort_keeps ..).fansInMap
  unfold State.cfgBegin
  extract_lets l later old new ctrl
  split
  · split
    · exact habort _ _ ((State.stageFull_keeps ..).fansInMap h)
    · next t e =>
      extract_lets committed
      have hcommitted : FansInMap committed := (State.commit_keeps ..).fansInMap
        ((State.authWriteBack_keeps ..).fansInMap ((State.stageImages_keeps ..).fansInMap h e))
      exact .ite ((State.setUpd_keeps ..).fansInMap ((State.tblRelease_keeps ..).fansInMap hcommitted)) (habort _ _ hcommitted)
  · exact habort _ _ h

theorem FansInMap.runRec (h : FansInMap s) (r : ImgRec) : FansInMap (s.runRec r) := by
  cases r with
  | reg a v => exact .ite h (h.localWrite ..)
  | legacy a v => exact .ite ((State.setSlotByte_keeps ..).fansInMap h) (h.getD (h.imgLegacy _ _))
  | blob k ofs c0 c1 => exact h.imgRec_getD (.blob k ofs c0 c1)
  | ptp slaves masters => exact h.imgRec_getD (.ptp slaves masters)
  | mdio p devad reg data => exact h
  | entry t i bytes => exact h
  | l2 fid mac dm dl dest => exact h
  | pfx v6 plen addr route => exact h

theorem FansInMap.cfgEnd (h : FansInMap s) (x : SlotImage) : FansInMap (s.cfgEnd x) := by
  unfold State.cfgEnd
  extract_lets _ installed
  have hinstalled : FansInMap installed :=
    h.each fun _ _ ht => .ite (ht.each fun _ r hu => hu.runRec r) ((State.sticky_keeps ..).fansInMap ht)
  exact (State.nextStep_keeps ..).fansInMap ((State.setUpd_keeps ..).fansInMap ((State.setCfg_keeps ..).fansInMap
    ((State.wr_keeps ..).fansInMap ((State.wr_keeps ..).fansInMap hinstalled))))

theorem FansInMap.cfgStep (h : FansInMap s) (image : Option SlotImage) : FansInMap (s.cfgStep image) := by
  unfold State.cfgStep
  split
  · exact .ite h (h.cfgEnd _)
  · exact h
  · exact .ite ((State.nextStep_keeps ..).fansInMap h) (.ite h (h.cfgBegin _))

theorem activationStep_fansInMap (fails : List Nat) (image : Option SlotImage) (h : FansInMap s) :
    FansInMap (activationStep fails image s) := by
  unfold activationStep
  split
  · exact h
  · exact h.cfgStep image
  split
  · exact h
  · next t e => exact (State.nextStep_keeps ..).fansInMap ((State.endFwStep_keeps ..).fansInMap h e)

/-! ## Frames of the legacy face (R465 to R477) -/

theorem FansInMap.legacyReset (h : FansInMap s) : FansInMap s.legacyReset.1 := by
  unfold State.legacyReset
  extract_lets l units _ settled loaded
  have hunits : FansInMap units := h.each fun _ w ht => ht.unitReset w false
  have hsettled : FansInMap settled := (State.setLeg_keeps ..).fansInMap ((State.urstSettle_keeps ..).fansInMap hunits)
  have hloaded : FansInMap loaded := hsettled.each fun _ r ht => ht.imgRec_getD r
  exact .ite_fst h ((State.wr_keeps ..).fansInMap ((State.slotsAgain_keeps ..).fansInMap hloaded))

theorem FansInMap.xbCtrl (h : FansInMap s) (v : Nat) : FansInMap (s.xbCtrl v).1 := by
  have hrefused : FansInMap (s.legRefuse false wPwr 0x141 v).1 := (State.violate_keeps ..).fansInMap h
  exact .ite_fst hrefused (.ite_fst (.ite_fst (State.softReset_fansInMap ..) h.legacyReset)
    (.ite_fst (.ite_fst (h.legByte ..) hrefused) h))

theorem FansInMap.legacyWriteAt (h : FansInMap s) (a v : Nat) : FansInMap (s.legacyWriteAt a v).1 :=
  .ite_fst h (.ite_fst (h.xbCtrl v) (.ite_fst h (.ite_fst (.ite_fst ((State.xbUpdData_keeps ..).fansInMap h)
    (.ite_fst ((State.xbUpdAct_keeps ..).fansInMap h) h)) (h.legacyWrite ..))))

theorem FansInMap.legacyWriteFrame (h : FansInMap s) (a v : Nat) : FansInMap (s.legacyWriteFrame a v) :=
  (State.setLeg_keeps ..).fansInMap (FansInMap.legacyWriteAt ((State.emit_keeps ..).fansInMap h) a v)

theorem legacyFrame_fansInMap (l : List Nat) (h : FansInMap s) : FansInMap (legacyFrame l s) := by
  unfold legacyFrame
  refine .ite h (.ite (.ite ((spiTooShort_keeps ..).fansInMap h) h) ?_)
  split
  · exact .ite (h.legacyWriteFrame ..) ((State.legacyReadFrame_keeps ..).fansInMap h)
  · exact (State.legacyDiscard_keeps ..).fansInMap h

end

end Sys2Proof.Machine

/-! SUPPORT. R45: the commands of a fan-out, the accesses of the faces, and every command of the table. -/

namespace Sys2Proof.Machine

-- One proof after the other, as in the tests: proofs elaborated side by side after so long a text exhaust the memory for threads.
set_option Elab.async false

section
variable {s : State}

/-! ## The commands of a fan-out (R42 to R44) -/

theorem FansInMap.fanoutStart (h : FansInMap s) (init : Initiator) (w data : Nat) :
    FansInMap (if isGroup w then s.cmdWrite init.code w 0x104 data (whenK (s.fanBusy w) .fanoutBusy ++ whenK (s.isSafe w) .state)
      fun s => s.fanStart init.code w data else s) :=
  .ite (h.cmdWrite fun _ ht => ht.fanStart ..) h

/-- The next window written is no longer to be written; the others are as before. -/
theorem fanWindow_fansInMap (w : Nat) (h : FansInMap s) : FansInMap (fanWindow w s) := by
  unfold fanWindow
  split
  · exact h
  · next f hfind =>
    split
    · exact h
    · next v r htodo =>
      extract_lets off put issued written rejected
      have hissued : FansInMap issued := by
        refine ⟨fun g hg => ?_⟩
        obtain ⟨x, hx, rfl⟩ := List.mem_map.mp hg
        split
        · exact fun u hu => h.todo f (List.mem_of_find?_eq_some hfind) u (htodo ▸ List.mem_cons_of_mem v hu)
        · exact h.todo x hx
      have hwritten : FansInMap written.1 := hissued.localWrite ..
      have hrejected : FansInMap rejected := (State.sticky_keeps ..).fansInMap hwritten
      exact .ite hissued (.ite hwritten (.ite ((State.wr_keeps ..).fansInMap hrejected) hrejected))

theorem fanDone_fansInMap (w : Nat) (h : FansInMap s) : FansInMap (fanDone w s) := by
  unfold fanDone
  split
  · exact .ite ((State.wr_keeps ..).fansInMap ((State.wr_keeps ..).fansInMap (h.filter _))) h
  · exact h

/-! ## Writes of the faces, of MP and of a peer -/

/-- A write whose refusal ends the access (R499). -/
theorem FansInMap.writeEnd (h : FansInMap s) (init addr : Nat) (fix : Bool) (data : List Nat) :
    FansInMap (if (s.writeAccess init addr fix data).2 then (s.writeAccess init addr fix data).1
      else (s.writeAccess init addr fix data).1.endAccess init) :=
  .ite (h.writeAccess ..) ((State.endAccess_keeps ..).fansInMap (h.writeAccess ..))

theorem regWrite_fansInMap (init addr b : Nat) (h : FansInMap s) : FansInMap (regWrite init addr b s) := .ite h (h.writeEnd ..)

theorem driverVersion_fansInMap (init w maj min : Nat) (h : FansInMap s) : FansInMap (driverVersion init w maj min s) :=
  .ite h (h.writeEnd ..)

theorem spiApply_fansInMap (h : FansInMap s) : FansInMap (spiApply s) := by
  unfold spiApply
  split
  · exact h
  · extract_lets last _ taken a applied
    have happlied : FansInMap applied := FansInMap.writeEnd ((State.setHost_keeps ..).fansInMap h) ..
    exact .ite ((State.setHost_keeps ..).fansInMap happlied) happlied

theorem pcieWrite_fansInMap (bar : Bar) (addr : Nat) (data : List Nat) (h : FansInMap s) : FansInMap (pcieWrite bar addr data s) := by
  have hrefused : FansInMap ((s.shapeRefused initPcie addr true (data.headD 0)).endAccess initPcie) :=
    (State.endAccess_keeps ..).fansInMap ((State.shapeRefused_keeps ..).fansInMap h)
  unfold pcieWrite
  refine .ite h ?_
  cases bar with
  | bar4 =>
    exact .ite ((State.endAccess_keeps ..).fansInMap ((State.violate_keeps ..).fansInMap h))
      (h.each fun _ _ => (State.msixPut_keeps ..).fansInMap)
  | bar0 => exact .ite hrefused (h.writeEnd ..)
  | bar2 => exact .ite hrefused (h.writeEnd ..)

/-- A write of a peer is a write access as any other. -/
theorem kmpWrite_fansInMap (n : Nat) (f : KmpRx) (h : FansInMap s) :
    FansInMap (s.kmpTake n kmpWrite f fun s => (writeAct n (payload f) s, true)) := by
  unfold State.kmpTake
  refine .ite ((State.handedEnd_keeps ..).fansInMap h) ?_
  split
  · exact (State.kmpDrop_keeps ..).fansInMap ((State.handedEnd_keeps ..).fansInMap h)
  · extract_lets r
    have htaken : FansInMap ((s.kmpAcks n f).laneTaken n (laneOf kmpWrite)) :=
      (State.laneTaken_keeps ..).fansInMap ((State.kmpAcks_keeps ..).fansInMap h)
    have hr : FansInMap r.1 := .ite ((State.shapeRefused_keeps ..).fansInMap htaken) (htaken.writeAccess ..)
    exact (State.lanesFlow_keeps ..).fansInMap ((State.count_keeps ..).fansInMap ((State.handedEnd_keeps ..).fansInMap hr))

end

/-! ## Every command -/

/-- The next state, where a command answers one, has only windows of the map still to be written by fan-outs. -/
structure NextInMap (r : Result) : Prop where
  fans : ∀ t, r = .next t → FansInMap t

theorem NextInMap.next {t : State} (h : FansInMap t) : NextInMap (.next t) := ⟨by rintro _ ⟨⟩; exact h⟩

theorem KeepsR.nextInMap {m : Nat} {s : State} {r : Result} (k : KeepsR m s r) (h : FansInMap s) (hm : m.testBit 3 = false := by decide) :
    NextInMap r := ⟨fun t e => (k.keeps t e).fansInMap h hm⟩

/-- Every command keeps the fan-outs as they are, or is one of those above. -/
theorem exec_nextInMap {s : State} (h : FansInMap s) (c : Instr) : NextInMap (exec c s) :=
  have hf : FansInMap (fresh s) := (fresh_keeps s).fansInMap h
  match c with
  | .registerWrite .. => .next (regWrite_fansInMap _ _ _ hf)
  | .liveValueMsbRead .. => (execLiveValueMsbRead_keeps ..).nextInMap h
  | .tallySnapshotRead .. => (execTallySnapshotRead_keeps ..).nextInMap h
  | .speculativeRead .. => (execSpeculativeRead_keeps ..).nextInMap h
  | .interfaceHandshake .. => .next (driverVersion_fansInMap _ _ _ _ hf)
  | .fanoutStart init grp data => .next (hf.fanoutStart init grp.toNat data.toNat)
  | .fanoutWindowWrite .. => .next (fanWindow_fansInMap _ hf)
  | .fanoutComplete .. => .next (fanDone_fansInMap _ hf)
  | .summaryPropagate .. => (execSummaryPropagate_keeps ..).nextInMap h
  | .unitReset .. => .next (hf.cmdWrite fun _ ht => (State.urstSettle_keeps ..).fansInMap (FansInMap.unitReset ((State.wr_keeps ..).fansInMap ht) ..))
  | .unitReloadComplete .. => .next (hf.reloaded _)
  | .scrubCheck .. => (execScrubCheck_keeps ..).nextInMap h
  | .gxHeartbeatLost => .next (heartbeatLost_fansInMap hf)
  | .powerOnReset .. => .next (powerOn_fansInMap _ hf)
  | .aonSupplyLost => .next (aonLost_fansInMap hf)
  | .pinReset => .next (pinReset_fansInMap hf)
  | .borBegin => .next (borBegin_fansInMap hf)
  | .borEnd => (execBorEnd_keeps ..).nextInMap h
  | .modeSample .. => (execModeSample_keeps ..).nextInMap h
  | .limpInEdge .. => (execLimpInEdge_keeps ..).nextInMap h
  | .safeNUpdate => (execSafeNUpdate_keeps ..).nextInMap h
  | .gxPgoodHigh => (execGxPgoodHigh_keeps ..).nextInMap h
  | .gxResetRelease .. => (execGxResetRelease_keeps ..).nextInMap h
  | .gxPgoodTimeout => (execGxPgoodTimeout_keeps ..).nextInMap h
  | .gxPgoodLost => .next (pgoodLost_fansInMap hf)
  | .offTimeEnd => (execOffTimeEnd_keeps ..).nextInMap h
  | .clockLoss => .next (clockLoss_fansInMap hf)
  | .spiWriteFrame .. => (execSpiWriteFrame_keeps ..).nextInMap h
  | .spiReadFrame .. => (execSpiReadFrame_keeps ..).nextInMap h
  | .spiFrameTooShort .. => (execSpiFrameTooShort_keeps ..).nextInMap h
  | .spiWriteApply => .next (spiApply_fansInMap hf)
  | .delayedReadPerform => (execDelayedReadPerform_keeps ..).nextInMap h
  | .delayedReadLeaseExpiry => (execDelayedReadLeaseExpiry_keeps ..).nextInMap h
  | .pcieReadRequest .. => (execPcieReadRequest_keeps ..).nextInMap h
  | .pcieWriteRequest .. => .next (pcieWrite_fansInMap _ _ _ hf)
  | .pciePerstAssert => (execPciePerstAssert_keeps ..).nextInMap h
  | .pcieLinkDown => (execPcieLinkDown_keeps ..).nextInMap h
  | .pcieLinkUp .. => (execPcieLinkUp_keeps ..).nextInMap h
  | .ringTailWrite .. => (execRingTailWrite_keeps ..).nextInMap h
  | .ringEnSet .. => (execRingEnSet_keeps ..).nextInMap h
  | .ringEnClear .. => (execRingEnClear_keeps ..).nextInMap h
  | .ringDescFetch .. => (execRingDescFetch_keeps ..).nextInMap h
  | .ringWriteback .. => (execRingWriteback_keeps ..).nextInMap h
  | .hostDmaError .. => (execHostDmaError_keeps ..).nextInMap h
  | .ringDescLeaseExpiry .. => (execRingDescLeaseExpiry_keeps ..).nextInMap h
  | .imodIntervalEnd .. => (execImodIntervalEnd_keeps ..).nextInMap h
  | .msixPendingSend .. => (execMsixPendingSend_keeps ..).nextInMap h
  | .irqNUpdate => (execIrqNUpdate_keeps ..).nextInMap h
  | .nvmSfdpStepUp .. => (execNvmSfdpStepUp_keeps ..).nextInMap h
  | .configSlotSelect .. => (execConfigSlotSelect_keeps ..).nextInMap h
  | .configPhaseInstall .. => .next (phaseInstall_fansInMap _ hf)
  | .stageSelect .. => (execStageSelect_keeps ..).nextInMap h
  | .stageEntryWrite .. => (execStageEntryWrite_keeps ..).nextInMap h
  | .tblAcquire .. => (execTblAcquire_keeps ..).nextInMap h
  | .tblCommit .. => (execTblCommit_keeps ..).nextInMap h
  | .tblAbort .. => (execTblAbort_keeps ..).nextInMap h
  | .tblRelease .. => (execTblRelease_keeps ..).nextInMap h
  | .tblLeaseExpiry => (execTblLeaseExpiry_keeps ..).nextInMap h
  | .commitDrainEnd => (execCommitDrainEnd_keeps ..).nextInMap h
  | .commitReclaimDone => (execCommitReclaimDone_keeps ..).nextInMap h
  | .splitTableSwitch => (execSplitTableSwitch_keeps ..).nextInMap h
  | .flowHoldExpiry => (execFlowHoldExpiry_keeps ..).nextInMap h
  | .ethFrameReceived .. => (execEthFrameReceived_keeps ..).nextInMap h
  | .cutThroughEnqueue => (execCutThroughEnqueue_keeps ..).nextInMap h
  | .frameClassify => (execFrameClassify_keeps ..).nextInMap h
  | .authVerify .. => (execAuthVerify_keeps ..).nextInMap h
  | .authAppend .. => (execAuthAppend_keeps ..).nextInMap h
  | .authCeilWrite .. => (execAuthCeilWrite_keeps ..).nextInMap h
  | .authEpochWrite .. => (execAuthEpochWrite_keeps ..).nextInMap h
  | .keySessionLeaseExpiry .. => (execKeySessionLeaseExpiry_keeps ..).nextInMap h
  | .egressDequeue .. => (execEgressDequeue_keeps ..).nextInMap h
  | .egressLastByteSent .. => (execEgressLastByteSent_keeps ..).nextInMap h
  | .ctUnderrun .. => (execCtUnderrun_keeps ..).nextInMap h
  | .stockpileEccUncorr .. => (execStockpileEccUncorr_keeps ..).nextInMap h
  | .stockpileLeaseExpiry .. => (execStockpileLeaseExpiry_keeps ..).nextInMap h
  | .hopperFlush .. => (execHopperFlush_keeps ..).nextInMap h
  | .flushComplete .. => (execFlushComplete_keeps ..).nextInMap h
  | .frerResetTimeout .. => (execFrerResetTimeout_keeps ..).nextInMap h
  | .ethEnable .. => (execEthEnable_keeps ..).nextInMap h
  | .ethDisable .. => (execEthDisable_keeps ..).nextInMap h
  | .ethLinkUp .. => (execEthLinkUp_keeps ..).nextInMap h
  | .ethLinkTimeout .. => (execEthLinkTimeout_keeps ..).nextInMap h
  | .ethLinkLost .. => (execEthLinkLost_keeps ..).nextInMap h
  | .ethSleepCmd .. => (execEthSleepCmd_keeps ..).nextInMap h
  | .ethWakeCmd .. => (execEthWakeCmd_keeps ..).nextInMap h
  | .ethRetrainCmd .. => (execEthRetrainCmd_keeps ..).nextInMap h
  | .ethPhyResetCmd .. => (execEthPhyResetCmd_keeps ..).nextInMap h
  | .phyResetPulseEnd .. => (execPhyResetPulseEnd_keeps ..).nextInMap h
  | .phyRstRelease => (execPhyRstRelease_keeps ..).nextInMap h
  | .ethLoopWrite .. => (execEthLoopWrite_keeps ..).nextInMap h
  | .ethSleepDrainEnd .. => (execEthSleepDrainEnd_keeps ..).nextInMap h
  | .ethSleepDrainTimeout .. => (execEthSleepDrainTimeout_keeps ..).nextInMap h
  | .ethSleepAckReceived .. => (execEthSleepAckReceived_keeps ..).nextInMap h
  | .ethSleepAckTimeout .. => (execEthSleepAckTimeout_keeps ..).nextInMap h
  | .ethSleepRequestReceived .. => (execEthSleepRequestReceived_keeps ..).nextInMap h
  | .ethWakeRequestReceived .. => (execEthWakeRequestReceived_keeps ..).nextInMap h
  | .ethWakePulseDetected .. => (execEthWakePulseDetected_keeps ..).nextInMap h
  | .ethPhyInt .. => (execEthPhyInt_keeps ..).nextInMap h
  | .mdioGo .. => (execMdioGo_keeps ..).nextInMap h
  | .mdioDone .. => (execMdioDone_keeps ..).nextInMap h
  | .learnEngineWrite => (execLearnEngineWrite_keeps ..).nextInMap h
  | .agerVisit .. => (execAgerVisit_keeps ..).nextInMap h
  | .ageRemoval => (execAgeRemoval_keeps ..).nextInMap h
  | .l2RehashStart .. => (execL2RehashStart_keeps ..).nextInMap h
  | .rehashPassEnd => (execRehashPassEnd_keeps ..).nextInMap h
  | .rehashStallRetry => (execRehashStallRetry_keeps ..).nextInMap h
  | .l2CmdRead .. => (execL2CmdRead_keeps ..).nextInMap h
  | .l2CmdStageStatic .. => (execL2CmdStageStatic_keeps ..).nextInMap h
  | .l2CmdStageDelete .. => (execL2CmdStageDelete_keeps ..).nextInMap h
  | .l2CmdRemoveLearned .. => (execL2CmdRemoveLearned_keeps ..).nextInMap h
  | .l2CmdFlushPort .. => (execL2CmdFlushPort_keeps ..).nextInMap h
  | .l2CmdFlushFid .. => (execL2CmdFlushFid_keeps ..).nextInMap h
  | .l2CmdBadOp .. => (execL2CmdBadOp_keeps ..).nextInMap h
  | .l2CmdComplete => (execL2CmdComplete_keeps ..).nextInMap h
  | .seamStageInsert .. => (execSeamStageInsert_keeps ..).nextInMap h
  | .seamStageDelete .. => (execSeamStageDelete_keeps ..).nextInMap h
  | .seamTestLookup .. => (execSeamTestLookup_keeps ..).nextInMap h
  | .seamBadOp .. => (execSeamBadOp_keeps ..).nextInMap h
  | .seamCmdComplete => (execSeamCmdComplete_keeps ..).nextInMap h
  | .canEnable .. => (execCanEnable_keeps ..).nextInMap h
  | .canDisable .. => (execCanDisable_keeps ..).nextInMap h
  | .canIntegrateDone .. => (execCanIntegrateDone_keeps ..).nextInMap h
  | .canFrameReceived .. => (execCanFrameReceived_keeps ..).nextInMap h
  | .canProtocolException .. => (execCanProtocolException_keeps ..).nextInMap h
  | .canArbitration .. => (execCanArbitration_keeps ..).nextInMap h
  | .canFrameSent .. => (execCanFrameSent_keeps ..).nextInMap h
  | .canBusError .. => (execCanBusError_keeps ..).nextInMap h
  | .canBusoffDelay .. => (execCanBusoffDelay_keeps ..).nextInMap h
  | .canRecoverCmd .. => (execCanRecoverCmd_keeps ..).nextInMap h
  | .canBusoffRecovered .. => (execCanBusoffRecovered_keeps ..).nextInMap h
  | .canObjTake .. => (execCanObjTake_keeps ..).nextInMap h
  | .canObjStore .. => (execCanObjStore_keeps ..).nextInMap h
  | .canObjSend .. => (execCanObjSend_keeps ..).nextInMap h
  | .canObjAbort .. => (execCanObjAbort_keeps ..).nextInMap h
  | .canFifoPop .. => (execCanFifoPop_keeps ..).nextInMap h
  | .canFifoConfig .. => (execCanFifoConfig_keeps ..).nextInMap h
  | .cantTxdDomTimeout .. => (execCantTxdDomTimeout_keeps ..).nextInMap h
  | .cantBusDomTimeout .. => (execCantBusDomTimeout_keeps ..).nextInMap h
  | .cantOvertemp .. => (execCantOvertemp_keeps ..).nextInMap h
  | .cantUndervoltage .. => (execCantUndervoltage_keeps ..).nextInMap h
  | .cantFaultClear .. => (execCantFaultClear_keeps ..).nextInMap h
  | .linEnable .. => (execLinEnable_keeps ..).nextInMap h
  | .linDisable .. => (execLinDisable_keeps ..).nextInMap h
  | .linSchedGo .. => (execLinSchedGo_keeps ..).nextInMap h
  | .linSlotStart .. => (execLinSlotStart_keeps ..).nextInMap h
  | .linResponseComplete .. => (execLinResponseComplete_keeps ..).nextInMap h
  | .linBitError .. => (execLinBitError_keeps ..).nextInMap h
  | .linSlotEnd .. => (execLinSlotEnd_keeps ..).nextInMap h
  | .linHostCommit .. => (execLinHostCommit_keeps ..).nextInMap h
  | .linSentryWrite .. => (execLinSentryWrite_keeps ..).nextInMap h
  | .lintTxdDomTimeout .. => (execLintTxdDomTimeout_keeps ..).nextInMap h
  | .lintBusDomTimeout .. => (execLintBusDomTimeout_keeps ..).nextInMap h
  | .lintOvertemp .. => (execLintOvertemp_keeps ..).nextInMap h
  | .seExtract .. => (execSeExtract_keeps ..).nextInMap h
  | .signalTimeout .. => (execSignalTimeout_keeps ..).nextInMap h
  | .sigValueWrite .. => (execSigValueWrite_keeps ..).nextInMap h
  | .bodySourceReport .. => (execBodySourceReport_keeps ..).nextInMap h
  | .sinkChOn => (execSinkChOn_keeps ..).nextInMap h
  | .sinkChDuty => (execSinkChDuty_keeps ..).nextInMap h
  | .sinkChPhase => (execSinkChPhase_keeps ..).nextInMap h
  | .sinkMeMove => (execSinkMeMove_keeps ..).nextInMap h
  | .sinkMeMode => (execSinkMeMode_keeps ..).nextInMap h
  | .pduCyclicDue .. => (execPduCyclicDue_keeps ..).nextInMap h
  | .pduSendCmd .. => (execPduSendCmd_keeps ..).nextInMap h
  | .pduMdtExpiry .. => (execPduMdtExpiry_keeps ..).nextInMap h
  | .pduRepeatExpiry .. => (execPduRepeatExpiry_keeps ..).nextInMap h
  | .pduBuild .. => (execPduBuild_keeps ..).nextInMap h
  | .wbRefill .. => (execWbRefill_keeps ..).nextInMap h
  | .streamUnblock .. => (execStreamUnblock_keeps ..).nextInMap h
  | .macsecScWrite .. => (execMacsecScWrite_keeps ..).nextInMap h
  | .macsecSaWrite .. => (execMacsecSaWrite_keeps ..).nextInMap h
  | .macsecSwitch .. => (execMacsecSwitch_keeps ..).nextInMap h
  | .axisEnable .. => (execAxisEnable_keeps ..).nextInMap h
  | .axisDisable .. => (execAxisDisable_keeps ..).nextInMap h
  | .axisMeasuredUpdate .. => (execAxisMeasuredUpdate_keeps ..).nextInMap h
  | .axisStallTimeout .. => (execAxisStallTimeout_keeps ..).nextInMap h
  | .ax0Step .. => (execAx0Step_keeps ..).nextInMap h
  | .ax0Mark .. => (execAx0Mark_keeps ..).nextInMap h
  | .ax0Unsync .. => (execAx0Unsync_keeps ..).nextInMap h
  | .ax0ServoUpdate .. => (execAx0ServoUpdate_keeps ..).nextInMap h
  | .ax0HoldoverTimeout => (execAx0HoldoverTimeout_keeps ..).nextInMap h
  | .ax0CopyUpdate => (execAx0CopyUpdate_keeps ..).nextInMap h
  | .gptpFrameReceived p d sec ns => (execGptpFrameReceived_keeps p d sec ns s).nextInMap h
  | .eventArm .. => (execEventArm_keeps ..).nextInMap h
  | .eventDisarm .. => (execEventDisarm_keeps ..).nextInMap h
  | .eventGroupArm .. => (execEventGroupArm_keeps ..).nextInMap h
  | .eventGroupDisarm .. => (execEventGroupDisarm_keeps ..).nextInMap h
  | .eventPoolEvaluate => (execEventPoolEvaluate_keeps ..).nextInMap h
  | .actionMark => (execActionMark_keeps ..).nextInMap h
  | .actionLaunch => (execActionLaunch_keeps ..).nextInMap h
  | .actionSendPdu => (execActionSendPdu_keeps ..).nextInMap h
  | .actionGate => (execActionGate_keeps ..).nextInMap h
  | .actionSgate => (execActionSgate_keeps ..).nextInMap h
  | .actionChOn => (execActionChOn_keeps ..).nextInMap h
  | .actionChDuty => (execActionChDuty_keeps ..).nextInMap h
  | .actionChPhase => (execActionChPhase_keeps ..).nextInMap h
  | .actionSample .. => (execActionSample_keeps ..).nextInMap h
  | .actionSetSignal => (execActionSetSignal_keeps ..).nextInMap h
  | .actionMeMove => (execActionMeMove_keeps ..).nextInMap h
  | .actionMeMode => (execActionMeMode_keeps ..).nextInMap h
  | .actionGroups => (execActionGroups_keeps ..).nextInMap h
  | .ixTimedActionApply => (execIxTimedActionApply_keeps ..).nextInMap h
  | .launchFetch .. => (execLaunchFetch_keeps ..).nextInMap h
  | .stampTxqPop .. => (execStampTxqPop_keeps ..).nextInMap h
  | .stampWaitExpiry .. => (execStampWaitExpiry_keeps ..).nextInMap h
  | .stampAgeExpiry .. => (execStampAgeExpiry_keeps ..).nextInMap h
  | .stampMissPop .. => (execStampMissPop_keeps ..).nextInMap h
  | .chCommand .. => (execChCommand_keeps ..).nextInMap h
  | .chPeriodStart .. => (execChPeriodStart_keeps ..).nextInMap h
  | .chCurrentSample .. => (execChCurrentSample_keeps ..).nextInMap h
  | .chShortCircuit .. => (execChShortCircuit_keeps ..).nextInMap h
  | .chOvercurrent .. => (execChOvercurrent_keeps ..).nextInMap h
  | .chThermalTrip .. => (execChThermalTrip_keeps ..).nextInMap h
  | .chThermalLatchClear .. => (execChThermalLatchClear_keeps ..).nextInMap h
  | .chRetryDelayElapsed .. => (execChRetryDelayElapsed_keeps ..).nextInMap h
  | .chFaultFreeSecond .. => (execChFaultFreeSecond_keeps ..).nextInMap h
  | .chClear .. => (execChClear_keeps ..).nextInMap h
  | .chDiagCmd .. => (execChDiagCmd_keeps ..).nextInMap h
  | .chOffStateTest .. => (execChOffStateTest_keeps ..).nextInMap h
  | .chOffTestComplete .. => (execChOffTestComplete_keeps ..).nextInMap h
  | .hbModeChange .. => (execHbModeChange_keeps ..).nextInMap h
  | .hbDeadTimeEnd .. => (execHbDeadTimeEnd_keeps ..).nextInMap h
  | .thermUpdate .. => (execThermUpdate_keeps ..).nextInMap h
  | .thermDerateStep .. => (execThermDerateStep_keeps ..).nextInMap h
  | .thermRestoreStep .. => (execThermRestoreStep_keeps ..).nextInMap h
  | .chgResume .. => (execChgResume_keeps ..).nextInMap h
  | .holdMaxExpiry => (execHoldMaxExpiry_keeps ..).nextInMap h
  | .swSample .. => (execSwSample_keeps ..).nextInMap h
  | .swEdge .. => (execSwEdge_keeps ..).nextInMap h
  | .cyclicSenseCycle .. => (execCyclicSenseCycle_keeps ..).nextInMap h
  | .anConversion .. => (execAnConversion_keeps ..).nextInMap h
  | .meEnable .. => (execMeEnable_keeps ..).nextInMap h
  | .meModeWrite .. => (execMeModeWrite_keeps ..).nextInMap h
  | .meTargetWrite .. => (execMeTargetWrite_keeps ..).nextInMap h
  | .meSetpos .. => (execMeSetpos_keeps ..).nextInMap h
  | .meRampStep .. => (execMeRampStep_keeps ..).nextInMap h
  | .meRippleSample .. => (execMeRippleSample_keeps ..).nextInMap h
  | .meRippleInsert .. => (execMeRippleInsert_keeps ..).nextInMap h
  | .meHallEdge .. => (execMeHallEdge_keeps ..).nextInMap h
  | .meEndStop .. => (execMeEndStop_keeps ..).nextInMap h
  | .meForceEstimate .. => (execMeForceEstimate_keeps ..).nextInMap h
  | .meReverseBrakeEnd .. => (execMeReverseBrakeEnd_keeps ..).nextInMap h
  | .meParkTimeout .. => (execMeParkTimeout_keeps ..).nextInMap h
  | .meSettleElapsed .. => (execMeSettleElapsed_keeps ..).nextInMap h
  | .networkWakeDetected .. => (execNetworkWakeDetected_keeps ..).nextInMap h
  | .cantWufFrameDecoded .. => (execCantWufFrameDecoded_keeps ..).nextInMap h
  | .wakeIoWake => (execWakeIoWake_keeps ..).nextInMap h
  | .wakeIoPulseEnd => (execWakeIoPulseEnd_keeps ..).nextInMap h
  | .wkTimerExpiry => (execWkTimerExpiry_keeps ..).nextInMap h
  | .pncLocalWrite .. => (execPncLocalWrite_keeps ..).nextInMap h
  | .pncHoldExpiry .. => (execPncHoldExpiry_keeps ..).nextInMap h
  | .netReadyDelayExpiry .. => (execNetReadyDelayExpiry_keeps ..).nextInMap h
  | .trxSwitchComplete .. => (execTrxSwitchComplete_keeps ..).nextInMap h
  | .nmEnable .. => (execNmEnable_keeps ..).nextInMap h
  | .nmMessageReceived .. => (execNmMessageReceived_keeps ..).nextInMap h
  | .nmTtypExpiry .. => (execNmTtypExpiry_keeps ..).nextInMap h
  | .nmTmaxTimeout .. => (execNmTmaxTimeout_keeps ..).nextInMap h
  | .nmTerrTimer .. => (execNmTerrTimer_keeps ..).nextInMap h
  | .nmTwbsExpiry .. => (execNmTwbsExpiry_keeps ..).nextInMap h
  | .linWakeRestart .. => (execLinWakeRestart_keeps ..).nextInMap h
  | .pwrPark .. => (execPwrPark_keeps ..).nextInMap h
  | .pwrCancel .. => (execPwrCancel_keeps ..).nextInMap h
  | .parkDelayExpiry => (execParkDelayExpiry_keeps ..).nextInMap h
  | .parkEntryBegin => .next (parkBegin_fansInMap hf)
  | .parkMeWaitExpiry => (execParkMeWaitExpiry_keeps ..).nextInMap h
  | .ixSelftestDone .. => (execIxSelftestDone_keeps ..).nextInMap h
  | .memorySelftestDone .. => (execMemorySelftestDone_keeps ..).nextInMap h
  | .gxSelftestDone .. => (execGxSelftestDone_keeps ..).nextInMap h
  | .deepAfterExpiry => (execDeepAfterExpiry_keeps ..).nextInMap h
  | .startupCheckDone .. => (execStartupCheckDone_keeps ..).nextInMap h
  | .softReset .. => .next (hf.cmdWrite fun _ _ => State.softReset_fansInMap ..)
  | .mpwarmReset .. => (execMpwarmReset_keeps ..).nextInMap h
  | .mpRestart => (execMpRestart_keeps ..).nextInMap h
  | .trmClaim .. => (execTrmClaim_keeps ..).nextInMap h
  | .trmDataAccess .. => (execTrmDataAccess_keeps ..).nextInMap h
  | .trmLeaseExpiry => (execTrmLeaseExpiry_keeps ..).nextInMap h
  | .trmLcAdvance .. => (execTrmLcAdvance_keeps ..).nextInMap h
  | .trmRootInstall .. => (execTrmRootInstall_keeps ..).nextInMap h
  | .trmDebugOpen .. => (execTrmDebugOpen_keeps ..).nextInMap h
  | .trmDebugClose .. => (execTrmDebugClose_keeps ..).nextInMap h
  | .trmNonce .. => (execTrmNonce_keeps ..).nextInMap h
  | .trmHssInstall .. => (execTrmHssInstall_keeps ..).nextInMap h
  | .trmAttest .. => (execTrmAttest_keeps ..).nextInMap h
  | .trmRelease .. => (execTrmRelease_keeps ..).nextInMap h
  | .trmBadOp .. => (execTrmBadOp_keeps ..).nextInMap h
  | .trustOpComplete .. => (execTrustOpComplete_keeps ..).nextInMap h
  | .debugSessionExpiry => (execDebugSessionExpiry_keeps ..).nextInMap h
  | .ksShadowWrite .. => (execKsShadowWrite_keeps ..).nextInMap h
  | .ksUnwrapDone .. => (execKsUnwrapDone_keeps ..).nextInMap h
  | .ksCommit .. => (execKsCommit_keeps ..).nextInMap h
  | .ksDiscard .. => (execKsDiscard_keeps ..).nextInMap h
  | .ksPersist .. => (execKsPersist_keeps ..).nextInMap h
  | .ksShadowLeaseExpiry .. => (execKsShadowLeaseExpiry_keeps ..).nextInMap h
  | .tamperDetected .. => .next (tamper_fansInMap _ hf)
  | .updBlockReceived .. => (execUpdBlockReceived_keeps ..).nextInMap h
  | .updAckReceived => (execUpdAckReceived_keeps ..).nextInMap h
  | .updBlockResend .. => (execUpdBlockResend_keeps ..).nextInMap h
  | .updStreamTimeout => (execUpdStreamTimeout_keeps ..).nextInMap h
  | .updVerifyDone .. => (execUpdVerifyDone_keeps ..).nextInMap h
  | .updInstallDone .. => (execUpdInstallDone_keeps ..).nextInMap h
  | .updConfirm .. => (execUpdConfirm_keeps ..).nextInMap h
  | .updDiscard .. => (execUpdDiscard_keeps ..).nextInMap h
  | .updArm .. => (execUpdArm_keeps ..).nextInMap h
  | .updCancel .. => (execUpdCancel_keeps ..).nextInMap h
  | .updRecover .. => (execUpdRecover_keeps ..).nextInMap h
  | .updActivationStart => (execUpdActivationStart_keeps ..).nextInMap h
  | .updActivationStep .. => .next (activationStep_fansInMap _ _ hf)
  | .updTrialTimeout => (execUpdTrialTimeout_keeps ..).nextInMap h
  | .kmpHelloTimer .. => (execKmpHelloTimer_keeps ..).nextInMap h
  | .kmpKeepaliveTimer .. => (execKmpKeepaliveTimer_keeps ..).nextInMap h
  | .kmpResendTimer .. => (execKmpResendTimer_keeps ..).nextInMap h
  | .kmpPeerTimeout .. => (execKmpPeerTimeout_keeps ..).nextInMap h
  | .kmpHelloReceived .. => (execKmpHelloReceived_keeps ..).nextInMap h
  | .kmpKeepaliveReceived .. => (execKmpKeepaliveReceived_keeps ..).nextInMap h
  | .kmpWriteReceived .. => .next (kmpWrite_fansInMap _ _ hf)
  | .kmpReadReceived .. => (execKmpReadReceived_keeps ..).nextInMap h
  | .kmpInboundReadPerform .. => (execKmpInboundReadPerform_keeps ..).nextInMap h
  | .kmpInboundLeaseExpiry .. => (execKmpInboundLeaseExpiry_keeps ..).nextInMap h
  | .kmpResponseReceived .. => (execKmpResponseReceived_keeps ..).nextInMap h
  | .kmpEventReceived .. => (execKmpEventReceived_keeps ..).nextInMap h
  | .kmpUpdSegReceived .. => (execKmpUpdSegReceived_keeps ..).nextInMap h
  | .kmpUpdAckReceived .. => (execKmpUpdAckReceived_keeps ..).nextInMap h
  | .kmpRetryResend .. => (execKmpRetryResend_keeps ..).nextInMap h
  | .kmpReadTimeout .. => (execKmpReadTimeout_keeps ..).nextInMap h
  | .kmpPrefetchExpiry .. => (execKmpPrefetchExpiry_keeps ..).nextInMap h
  | .kmpEventSend => (execKmpEventSend_keeps ..).nextInMap h
  | .kmpPollTimer .. => (execKmpPollTimer_keeps ..).nextInMap h
  | .drkMapWrite .. => (execDrkMapWrite_keeps ..).nextInMap h
  | .unitWatchdogExpiry .. => .next (unitWatchdog_fansInMap _ hf)
  | .wdKick .. => (execWdKick_keeps ..).nextInMap h
  | .mpWatchdogExpiry => .next (mpWatchdog_fansInMap hf)
  | .hwWatchdogExpiry => .next (hwWatchdog_fansInMap hf)
  | .spoilPop .. => (execSpoilPop_keeps ..).nextInMap h
  | .troublePop .. => (execTroublePop_keeps ..).nextInMap h
  | .legacyWriteFrame .. => .next (legacyFrame_fansInMap _ hf)
  | .legacyReadFrame .. => .next (legacyFrame_fansInMap _ hf)
  | .legacyRouteSlotCommit .. => .next (legacyFrame_fansInMap _ hf)
  | .legacyMailboxTake .. => .next (legacyFrame_fansInMap _ hf)
  | .legacyMailboxStore .. => .next (legacyFrame_fansInMap _ hf)
  | .legacyCounterSnapshot .. => .next (legacyFrame_fansInMap _ hf)
  | .legacyOutDutyWrite .. => .next (legacyFrame_fansInMap _ hf)
  | .legacyCanEnable .. => .next (legacyFrame_fansInMap _ hf)
  | .legacySrst => .next (legacyFrame_fansInMap _ hf)
  | .legacySleep => .next (legacyFrame_fansInMap _ hf)
  | .legacyUpdData .. => .next (legacyFrame_fansInMap _ hf)
  | .legacyUpdActivate => .next (legacyFrame_fansInMap _ hf)
  | .pinResetEnd => (execPinResetEnd_keeps ..).nextInMap h
  | .pciePerstRelease => (execPciePerstRelease_keeps ..).nextInMap h
  | .lintFaultClear .. => (execLintFaultClear_keeps ..).nextInMap h
  | .ksPersistDone .. => (execKsPersistDone_keeps ..).nextInMap h
  | .romRecoveryLoadDone .. => (execRomRecoveryLoadDone_keeps ..).nextInMap h

/-- Settles O54: the windows a fan-out reaches are windows of the map, and every command keeps those still to write among them. -/
theorem fanoutsStayInTheModule : Obligations.FanoutsStayInTheModule := by
  refine ⟨fun s w v hv => ?_, fun c s t h e => ((exec_nextInMap ⟨h⟩ c).fans t e).todo⟩
  have hmap := State.mem_fixedWindows_of_fanReach hv
  exact ⟨hmap, isRemote_of_mem_fixedWindows hmap⟩

end Sys2Proof.Machine

/-! SUPPORT. Operations that leave the records of faults and violations of every window as they are (R84, R87): the operations on registers,
and the end of items, of copies and of frames. -/

namespace Sys2Proof.Machine

-- One proof after the other, as in the tests: proofs elaborated side by side after so long a text exhaust the memory for threads.
set_option Elab.async false

/-- The keys of UNIT_STICKY, FAULT_ADDR and VIOL_ADDR of every window. -/
def RecordKey (k : Nat) : Prop := 0x21 ≤ k / 1024 % 4096 ∧ k / 1024 % 4096 < 0x30

/-- From s to t no register of a record changes. -/
abbrev KeepsRecords (s t : State) : Prop := KeepsKeys RecordKey s t

/-- The field's register is none of a record. -/
def Field.offRecords (g : Field) : Bool := g.lo < 1024 && (g.ofs % 4096 < 0x21 || 0x30 ≤ g.ofs % 4096)

theorem Field.offRecords_key {g : Field} (h : g.offRecords = true) (w i : Nat) : ¬ RecordKey (g.key w i) := by
  simp only [offRecords, Bool.and_eq_true, Bool.or_eq_true, decide_eq_true_eq] at h
  unfold RecordKey Field.key
  omega

section
variable {K : Nat → Prop}

theorem KeepsKeys.foldl_mem {α : Type} {l : List α} {f : State → α → State} (hf : ∀ x ∈ l, ∀ t, KeepsKeys K t (f t x)) :
    ∀ s, KeepsKeys K s (l.foldl f s) := by
  induction l with
  | nil => exact .refl K
  | cons x r ih => exact fun s => (hf x List.mem_cons_self s).trans (ih (fun y hy => hf y (List.mem_cons_of_mem _ hy)) _)

/-- Steps for the elements of a list, each of which may use that it is one. -/
theorem KeepsKeys.each_mem {α : Type} {l : List α} {f : State → α → State} (hf : ∀ x ∈ l, ∀ t, KeepsKeys K t (f t x)) (s : State) :
    KeepsKeys K s (s.each l f) := .foldl_mem hf s

/-- Steps for the numbers below a bound. -/
theorem KeepsKeys.each_range {n : Nat} {f : State → Nat → State} (hf : ∀ k < n, ∀ t, KeepsKeys K t (f t k)) (s : State) :
    KeepsKeys K s (s.each (List.range n) f) := .each_mem (fun k hk => hf k (List.mem_range.mp hk)) s

end

variable (s : State)

/-! ## The operations on registers -/

theorem State.wr_keepsRecords (w : Nat) (g : Field) (v i : Nat) (h : g.offRecords = true := by decide) : KeepsRecords s (s.wr w g v i) :=
  s.wr_keepsKeys (Field.offRecords_key h w i) v

theorem State.count_keepsRecords (w : Nat) (g : Field) (i n : Nat) (h : g.offRecords = true := by decide) :
    KeepsRecords s (s.count w g i n) := s.count_keepsKeys (Field.offRecords_key h w i) n

theorem State.sticky_keepsRecords (w : Nat) (g : Field) (i : Nat) (h : g.offRecords = true := by decide) :
    KeepsRecords s (s.sticky w g i) := s.sticky_keepsKeys (Field.offRecords_key h w i) (Field.offRecords_key (by decide) w 0)

theorem State.event_keepsRecords (w k : Nat) : KeepsRecords s (s.event w k) := s.event_keepsKeys (Field.offRecords_key (by decide) w 0) k

theorem State.wrWide_keepsRecords (w : Nat) (fs : List Field) (v i : Nat) (h : ∀ g ∈ fs, g.offRecords = true := by decide) :
    KeepsRecords s (s.wrWide w fs v i) := .each_mem (fun g hg t => t.wr_keepsRecords w g _ i (h g hg)) s

theorem State.troubleRecord_keepsRecords (c w o : Nat) : KeepsRecords s (s.troubleRecord c w o) :=
  s.troubleRecord_keepsKeys (Field.offRecords_key (by decide) wRoot 0) c w o

theorem spoilFields_offRecords : ∀ g ∈ spoilFields, ¬ RecordKey (g.key wRoot 0) := fun g hg =>
  Field.offRecords_key ((by decide : ∀ g ∈ spoilFields, g.offRecords = true) g hg) wRoot 0

theorem State.spoil_keepsRecords (w : Nat) (d : Disp) (r : Nat) (k : Item) (a b : Nat) : KeepsRecords s (s.spoil w d r k a b) :=
  s.spoil_keepsKeys spoilFields_offRecords ..

theorem State.endOther_keepsRecords (w : Nat) (d : Disp) (r : Nat) (k : Item) (a b : Nat) : KeepsRecords s (s.endOther w d r k a b) :=
  s.endOther_keepsKeys spoilFields_offRecords ..

theorem State.spoilMany_keepsRecords (w : Nat) (d : Disp) (r : Nat) (k : Item) (n : Nat) : KeepsRecords s (s.spoilMany w d r k n) := by
  unfold State.spoilMany
  extract_lets t _ _ u _ _ v
  have ht : KeepsRecords s t := s.spoil_keepsRecords ..
  have hu : KeepsRecords s u := .step (t.count_keepsRecords ..) ht
  have hv : KeepsRecords s v := hu.trans ⟨fun _ => u.rd_setFlt ..⟩
  exact .ite (.refl ..) (.ite ht (.ite (.step (v.count_keepsRecords ..) hv) hv))

/-! ## The end of items and copies -/

theorem State.endFrame_keepsRecords (w : Nat) (d : Disp) (r : Nat) (build : Bool) (a b : Nat) :
    KeepsRecords s (s.endFrame w d r build a b) := by
  cases d with
  | delivered => exact s.count_keepsRecords ..
  | untimed => exact s.count_keepsRecords ..
  | dropped => exact .step (State.spoil_keepsRecords ..) (s.count_keepsRecords ..)
  | failed => exact .step (State.spoil_keepsRecords ..) (s.count_keepsRecords ..)

theorem State.endCopy_keepsRecords (w : Nat) (c : Copy) (d : Disp) (r : Nat) : KeepsRecords s (s.endCopy w c d r) := by
  unfold State.endCopy
  exact .step (State.release_keeps ..).keepsKeys (.step (State.endFrame_keepsRecords ..) (.ite (s.count_keepsRecords ..) (.refl ..)))

theorem State.endItem_keepsRecords (w : Nat) (d : Disp) (r fid : Nat) : KeepsRecords s (s.endItem w d r fid) := by
  unfold State.endItem
  split
  · exact .refl ..
  · exact .step (State.release_keeps ..).keepsKeys (s.endFrame_keepsRecords ..)

theorem State.stopItem_keepsRecords (w : Nat) (d : Disp) (r fid : Nat) : KeepsRecords s (s.stopItem w d r fid) :=
  .step (State.endItem_keepsRecords ..) (s.dropItem_keeps ..).keepsKeys

theorem State.hopDrain_keepsRecords (p : Nat) (l : List Nat) (d : Disp) (r : Nat) : KeepsRecords s (s.hopDrain p l d r) :=
  .each (fun t _ => .step (State.setQueue_keeps ..).keepsKeys (.foldl (fun u x => u.endCopy_keepsRecords _ x d r) t)) s

theorem State.dropQueued_keepsRecords (fid : Nat) (d : Disp) (r : Nat) : KeepsRecords s (s.dropQueued fid d r) :=
  .each (fun t p => .each (fun u c => .step (.foldl (fun v x => v.endCopy_keepsRecords _ x d r) _) (u.setQueue_keeps ..).keepsKeys) t) s

theorem State.openItem_keepsRecords (p : Nat) (it : PipeItem) (d : Disp) (r k : Nat) : KeepsRecords s (s.openItem p it d r k) := by
  unfold State.openItem
  extract_lets waiting t u v
  have ht : KeepsRecords s t := .each (fun x c => x.endCopy_keepsRecords _ c d k) s
  have hu : KeepsRecords s u := .step (.each (fun x _ => (x.release_keeps ..).keepsKeys) t) ht
  have hv : KeepsRecords s v := .step (u.dropItem_keeps ..).keepsKeys hu
  exact .ite (.step (v.releaseItem_keeps ..).keepsKeys hv) (.step (v.endItem_keepsRecords ..) hv)

theorem State.hopEnqueue_keepsRecords (p : Nat) (c : Copy) : KeepsRecords s (s.hopEnqueue p c) := by
  unfold State.hopEnqueue
  extract_lets t
  have ht : KeepsRecords s t := (s.refreshCredit_keeps p).keepsKeys
  exact .ite (.step (t.endCopy_keepsRecords ..) ht) (.ite (.step (t.setQueue_keeps ..).keepsKeys ht)
    (.ite (.step (t.endCopy_keepsRecords ..) ht) (.step (t.setQueue_keeps ..).keepsKeys ht)))

/-! ## MACsec's channels -/

theorem State.setScState_keepsRecords (k v : Nat) : KeepsRecords s (s.setScState k v) := s.wr_keepsRecords ..

theorem State.scSwitch_keepsRecords (k : Nat) : KeepsRecords s (s.scSwitch k) := by
  unfold State.scSwitch
  exact .step (State.event_keepsRecords ..) (.step (State.wr_keepsRecords ..) (.step (State.setGuard_keeps ..).keepsKeys
    (.step (State.setScState_keepsRecords ..) (s.wr_keepsRecords ..))))

theorem State.scStore_keepsRecords (k v : Nat) : KeepsRecords s (s.scStore k v) := by
  unfold State.scStore
  exact .step (State.wr_keepsRecords ..) (.step (State.setGuard_keeps ..).keepsKeys
    (.step (State.setScState_keepsRecords ..) (s.wrWide_keepsRecords ..)))

theorem State.scEval_keepsRecords (k : Nat) : KeepsRecords s (s.scEval k) := .ite (s.setScState_keepsRecords ..) (.refl ..)

theorem State.saStore_keepsRecords (k a v : Nat) : KeepsRecords s (s.saStore k a v) := by
  unfold State.saStore
  exact .ite (s.wr_keepsRecords ..) (.step (State.scEval_keepsRecords ..) (.step (State.wr_keepsRecords ..)
    (.step (State.setGuard_keeps ..).keepsKeys (s.wrWide_keepsRecords ..))))

theorem State.secyApply_keepsRecords (x : SecyWrite) : KeepsRecords s (s.secyApply x) := by
  cases x with
  | sc k v => exact s.scStore_keepsRecords k v
  | sa k a v => exact s.saStore_keepsRecords k a v

theorem State.secySettle_keepsRecords : KeepsRecords s s.secySettle := by
  unfold State.secySettle
  exact .step (.foldl (fun t x => .ite (t.setGuard_keeps _).keepsKeys (t.secyApply_keepsRecords x)) _) (s.setGuard_keeps _).keepsKeys

theorem State.secyBoundary_keepsRecords (p : Nat) : KeepsRecords s (s.secyBoundary p) := by
  unfold State.secyBoundary
  extract_lets t
  have ht : KeepsRecords s t := s.secySettle_keepsRecords
  split
  · exact ht
  · exact .ite (.step (State.scSwitch_keepsRecords ..) ht) ht

theorem State.readerDown_keepsRecords (p : Nat) : KeepsRecords s (s.readerDown p) := by
  unfold State.readerDown
  extract_lets t u
  have ht : KeepsRecords s t := by
    unfold t; split
    · exact .refl ..
    · exact .step (State.secyBoundary_keepsRecords ..) (.step (State.endCopy_keepsRecords ..) (s.setReader_keeps ..).keepsKeys)
  exact .ite (.refl ..) (.step (u.wr_keepsRecords ..) (.step (t.hopDrain_keepsRecords ..) ht))

theorem State.readerEnd_keepsRecords (p : Nat) (c : Copy) (w : Nat) (d : Disp) (r : Nat) : KeepsRecords s (s.readerEnd p c w d r) := by
  unfold State.readerEnd
  exact .step (State.secyBoundary_keepsRecords ..) (.step (State.endCopy_keepsRecords ..) (.step (State.payCredit_keeps ..).keepsKeys
    (.step (State.setReader_keeps ..).keepsKeys (s.refreshCredit_keeps ..).keepsKeys)))

end Sys2Proof.Machine

/-! SUPPORT. The peer behind a port, the port's own states, channels, motion engines and networks leave the records of faults and violations
as they are. -/

namespace Sys2Proof.Machine

-- One proof after the other, as in the tests: proofs elaborated side by side after so long a text exhaust the memory for threads.
set_option Elab.async false

variable (s : State)

/-! ## Frames of the module's own, and Derrick's peer -/

theorem State.sendOwn_keepsRecords (n tc : Nat) (l : List Nat) (x : Option StampAsk) : KeepsRecords s (s.sendOwn n tc l x) := by
  unfold State.sendOwn
  exact .ite (.step (State.hopEnqueue_keepsRecords ..) (.step (State.setFab_keeps ..).keepsKeys (s.addFrame_keeps ..).keepsKeys)) (.refl ..)

theorem State.kmpOut_keepsRecords (n : Nat) (f : KmpFrame) : KeepsRecords s (s.kmpOut n f) := by
  unfold State.kmpOut
  exact .step (State.sendOwn_keepsRecords ..) (.step (State.setPeer_keeps ..).keepsKeys (s.count_keepsRecords ..))

theorem State.laneStep_keepsRecords (n k : Nat) : KeepsRecords s (s.laneStep n k) := by
  unfold State.laneStep
  extract_lets l
  split
  · exact .refl ..
  · exact .ite (.step (State.kmpOut_keepsRecords ..) (s.setLane_keeps ..).keepsKeys) (.refl ..)

theorem State.lanesFlow_keepsRecords (n : Nat) : KeepsRecords s (s.lanesFlow n) :=
  .each (fun t k => .iter (fun u => u.laneStep_keepsRecords n k) 32 t) s

theorem State.kmpPush_keepsRecords (n : Nat) (f : KmpFrame) : KeepsRecords s (s.kmpPush n f) := by
  unfold State.kmpPush
  extract_lets k l t
  have ht : KeepsRecords s t := (s.setLane_keeps ..).keepsKeys
  exact .step (State.lanesFlow_keepsRecords ..) (.ite (.step (t.setPeer_keeps ..).keepsKeys ht) ht)

theorem State.sendRead_keepsRecords (r : OutRead) : KeepsRecords s (s.sendRead r) := by
  unfold State.sendRead
  exact .step (State.kmpPush_keepsRecords ..) (s.setDrk_keeps _).keepsKeys

theorem State.fetchNext_keepsRecords : KeepsRecords s s.fetchNext := by
  unfold State.fetchNext State.bridgeRead State.startRead
  refine .ite (.refl ..) ?_
  split
  · exact .step (State.sendRead_keepsRecords ..) (s.setDrk_keeps _).keepsKeys
  · exact .refl ..
  · extract_lets _ t
    have ht : KeepsRecords s t := (s.setDrk_keeps _).keepsKeys
    exact .ite (.ite (.step (t.sendRead_keepsRecords _) ht) (.step (t.setDrk_keeps _).keepsKeys ht)) ht

theorem State.fetchFlow_keepsRecords : KeepsRecords s s.fetchFlow := .iter State.fetchNext_keepsRecords 16 s

theorem State.remErr_keepsRecords : KeepsRecords s s.remErr := .step (State.event_keepsRecords ..) (s.sticky_keepsRecords ..)

theorem State.drkRecord_keepsRecords (p k a : Nat) : KeepsRecords s (s.drkRecord p k a) := by
  unfold State.drkRecord
  exact .ite (.step (State.wr_keepsRecords ..) (.step (State.wr_keepsRecords ..) (s.wr_keepsRecords ..))) (.refl ..)

theorem State.readFail_keepsRecords (r : OutRead) (reason : Nat) : KeepsRecords s (s.readFail r reason) := by
  unfold State.readFail
  extract_lets _ t u
  have ht : KeepsRecords s t := (s.setDrk_keeps _).keepsKeys
  have hu : KeepsRecords s u := .step (t.count_keepsRecords ..) ht
  exact .ite ht (.ite (.step u.remErr_keepsRecords hu) (.step (State.faceFail_keeps ..).keepsKeys (.step (State.endOther_keepsRecords ..)
    (.step (State.remErr_keepsRecords _) (.step (u.drkRecord_keepsRecords ..) hu)))))

theorem State.setPeerState_keepsRecords (n v : Nat) : KeepsRecords s (s.setPeerState n v) := s.wr_keepsRecords ..

/-- The registers that are one for each peer. -/
theorem peerFields_offRecords : ∀ n < 16, (DRK_PSUM.SUM.elem n).offRecords = true := by decide

theorem State.peerAccount_keepsRecords {n : Nat} (hn : n < 16) : KeepsRecords s (s.peerAccount n) := by
  unfold State.peerAccount
  extract_lets t x writes t1 lost t2 t3 _ t4 t5
  have h1 : KeepsRecords s t1 := .step (.each (fun u _ => .step (State.endOther_keepsRecords ..) (u.count_keepsRecords ..)) t)
    (.each (fun u r => u.readFail_keepsRecords r _) s)
  have h2 : KeepsRecords s t2 := .ite h1 (.step (State.count_keepsRecords ..) (.step (t1.sticky_keepsRecords ..) h1))
  have h4 : KeepsRecords s t4 := .step (t3.setDrk_keeps _).keepsKeys (.step (t2.setPeer_keeps ..).keepsKeys h2)
  have h5 : KeepsRecords s t5 := .step (State.wr_keepsRecords ..) (.step (State.wr_keepsRecords ..) (.step (t4.wr_keepsRecords ..) h4))
  exact .step (State.fetchFlow_keepsRecords _) (.step (t5.wr_keepsRecords _ _ _ _ (peerFields_offRecords n hn)) h5)

theorem State.peerSync_keepsRecords {n : Nat} (hn : n < 16) : KeepsRecords s (s.peerSync n) := by
  unfold State.peerSync State.sendHello State.kmpLoose
  extract_lets was t
  have ht : KeepsRecords s t := .step (State.setPeerState_keepsRecords ..) (s.peerAccount_keepsRecords hn)
  exact .ite (.ite (.step (State.kmpOut_keepsRecords ..) (s.setPeerState_keepsRecords ..)) (.refl ..))
    (.ite (.refl ..) (.ite (.step (t.sticky_keepsRecords ..) ht) ht))

theorem State.drkReset_keepsRecords : KeepsRecords s s.drkReset := by
  unfold State.drkReset
  refine .step (State.setDrk_keeps ..).keepsKeys (.each_range (fun n hn t => ?_) s)
  extract_lets was u
  have hu : KeepsRecords t u := .step (State.setPeerState_keepsRecords ..) (t.peerAccount_keepsRecords hn)
  exact .ite (.refl ..) (.ite (.step (u.sticky_keepsRecords ..) hu) hu)

/-! ## The states of a port -/

theorem State.setEthState_keepsRecords (p v : Nat) : KeepsRecords s (s.setEthState p v) := s.wr_keepsRecords ..

theorem State.sleepFail_keepsRecords (p : Nat) : KeepsRecords s (s.sleepFail p) := by
  unfold State.sleepFail
  exact .step (State.setSleepStep_keeps ..).keepsKeys (.step (State.wr_keepsRecords ..) (s.sticky_keepsRecords ..))

section
variable {p : Nat} (hp : p < 16)
include hp

theorem State.train_keepsRecords : KeepsRecords s (s.train p) := by
  unfold State.train
  extract_lets t _ u v
  have ht : KeepsRecords s t := .step (State.wr_keepsRecords ..) (s.setEthState_keepsRecords ..)
  have hv : KeepsRecords s v := .step (u.setPhyHeld_keeps ..).keepsKeys (.step (t.setEth_keeps _).keepsKeys ht)
  exact .step (State.peerSync_keepsRecords _ hp) (.ite hv (.step (v.phyReset_keeps ..).keepsKeys hv))

theorem State.sleepAbort_keepsRecords : KeepsRecords s (s.sleepAbort p) := by
  unfold State.sleepAbort
  exact .step (State.peerSync_keepsRecords _ hp) (.step (State.setEthState_keepsRecords ..) (s.sleepFail_keepsRecords p))

theorem State.sleepStart_keepsRecords : KeepsRecords s (s.sleepStart p) := by
  unfold State.sleepStart
  exact .ite (.step (State.peerSync_keepsRecords _ hp) (.step (State.setSleepStep_keeps ..).keepsKeys
    (.step (State.wr_keepsRecords ..) (s.setEthState_keepsRecords ..)))) (.refl ..)

theorem State.ethWake_keepsRecords : KeepsRecords s (s.ethWake p) := by
  unfold State.ethWake
  exact .ite (.step (State.train_keepsRecords _ hp) (.step (State.event_keepsRecords ..) (.ite (.refl ..) (s.emit_keeps _).keepsKeys)))
    (.ite (s.sleepAbort_keepsRecords hp) (.refl ..))

theorem State.ethDisable_keepsRecords : KeepsRecords s (s.ethDisable p) := by
  unfold State.ethDisable
  extract_lets t u v
  have ht : KeepsRecords s t := .ite (s.sleepFail_keepsRecords p) (.refl ..)
  have hu : KeepsRecords s u := .step (State.setEthState_keepsRecords ..) (.step (t.readerDown_keepsRecords p) ht)
  have hv : KeepsRecords s v := .step (State.wr_keepsRecords ..) (.step (u.wr_keepsRecords ..) hu)
  exact .ite (.refl ..) (.step (State.peerSync_keepsRecords _ hp) (.step (State.setPhyHeld_keeps ..).keepsKeys
    (.step (State.phyReset_keeps ..).keepsKeys (.step (v.setEth_keeps _).keepsKeys hv))))

/-- The end of a loopback (R177). -/
theorem loopOff_keepsRecords : KeepsRecords s (loopWrite p 0 s) := by
  unfold loopWrite
  extract_lets st
  refine .ite (.refl ..) ?_
  rw [if_pos rfl]
  exact .ite (.step (State.train_keepsRecords _ hp) (.step (State.readerDown_keepsRecords ..) (s.wr_keepsRecords ..))) (.refl ..)

end

/-! ## Channels and bridges -/

theorem State.chOutput_keepsRecords (n : Nat) : KeepsRecords s (s.chOutput n) := by
  unfold State.chOutput
  exact .ite (.refl ..) (.step (State.emit_keeps ..).keepsKeys (s.wr_keepsRecords ..))

theorem State.setSwitches_keepsRecords (k v : Nat) (x : Bool) : KeepsRecords s (s.setSwitches k v x) := by
  unfold State.setSwitches
  extract_lets _ b t
  have ht : KeepsRecords s t := (s.setBody_keeps _).keepsKeys
  exact .step (State.chOutput_keepsRecords ..) (.step (State.chOutput_keepsRecords ..) (.ite ht (.step (t.emit_keeps _).keepsKeys ht)))

theorem State.hbApply_keepsRecords (k : Nat) : KeepsRecords s (s.hbApply k) := s.setSwitches_keepsRecords ..

theorem State.hbFollow_keepsRecords (n : Nat) : KeepsRecords s (s.hbFollow n) := by
  unfold State.hbFollow
  exact .ite (.refl ..) (.step (State.hbApply_keepsRecords ..) (.when (fun t => (t.setBody_keeps _).keepsKeys) _ s))

theorem State.testEnd_keepsRecords (n : Nat) : KeepsRecords s (s.testEnd n) := by
  unfold State.testEnd
  extract_lets t u
  have hu : KeepsRecords s u := .step (t.wr_keepsRecords ..) (s.mapChan_keeps ..).keepsKeys
  exact .ite (.step (State.wr_keepsRecords ..) (.step (u.wr_keepsRecords ..) hu)) hu

theorem State.chEnterOn_keepsRecords (n : Nat) : KeepsRecords s (s.chEnterOn n) := by
  unfold State.chEnterOn
  exact .step (State.hbFollow_keepsRecords ..) (.step (State.chOutput_keepsRecords ..) (.step (State.testEnd_keepsRecords ..)
    (.step (State.mapChan_keeps ..).keepsKeys (s.wr_keepsRecords ..))))

theorem State.chLeave_keepsRecords (n p : Nat) : KeepsRecords s (s.chLeave n p) := by
  unfold State.chLeave
  exact .step (State.hbFollow_keepsRecords ..) (.step (State.chOutput_keepsRecords ..) (.step (State.wr_keepsRecords ..)
    (s.wr_keepsRecords ..)))

theorem State.chEval_keepsRecords (n : Nat) : KeepsRecords s (s.chEval n) :=
  .ite (.ite (s.chEnterOn_keepsRecords n) (.refl ..)) (.ite (s.chLeave_keepsRecords ..) (.refl ..))

theorem State.hbSetMode_keepsRecords (k m : Nat) : KeepsRecords s (s.hbSetMode k m) := by
  unfold State.hbSetMode State.hbAct
  exact .step (State.hbApply_keepsRecords ..) (.step (State.chEval_keepsRecords ..) (.step (State.chEval_keepsRecords ..)
    (s.wr_keepsRecords ..)))

/-! ## Motion engines, and the entry into PARK that ends them -/

theorem State.normLost_keepsRecords (k : Nat) : KeepsRecords s (s.normLost k) :=
  .step (State.sticky_keepsRecords ..) (s.wr_keepsRecords ..)

theorem State.meFaultEnd_keepsRecords (k : Nat) : KeepsRecords s (s.meFaultEnd k) := by
  unfold State.meFaultEnd State.meEnd
  extract_lets t
  have ht : KeepsRecords s t := .step (State.sticky_keepsRecords ..) (.step (State.event_keepsRecords ..) (s.wr_keepsRecords ..))
  exact .ite (.step (t.normLost_keepsRecords k) ht) ht

theorem State.meLost_keepsRecords (k : Nat) : KeepsRecords s (s.meLost k) := by
  unfold State.meLost
  exact .ite (.step (State.meFaultEnd_keepsRecords ..) (.step (State.hbSetMode_keepsRecords ..) (.step (State.wr_keepsRecords ..)
    (.step (State.wr_keepsRecords ..) (s.mapMe_keeps ..).keepsKeys)))) (.refl ..)

theorem State.meForceEnd_keepsRecords (k : Nat) : KeepsRecords s (s.meForceEnd k) := by
  unfold State.meForceEnd
  extract_lets _ t u
  have hu : KeepsRecords s u := .step (State.hbSetMode_keepsRecords ..) (.step (t.wr_keepsRecords ..) (s.mapMe_keeps ..).keepsKeys)
  exact .ite (.ite (.step (u.meFaultEnd_keepsRecords k) hu) hu) (s.meLost_keepsRecords k)

theorem State.enginesForced_keepsRecords : KeepsRecords s s.enginesForced := by
  unfold State.enginesForced
  exact .ite (.refl ..) (.step (State.sticky_keepsRecords ..) (.each (fun t k => t.meForceEnd_keepsRecords k) s))

theorem State.parkCheck_keepsRecords : KeepsRecords s s.parkCheck := by
  unfold State.parkCheck State.entryBegins
  extract_lets _ t
  have ht : KeepsRecords s t := (s.setPwr_keeps _).keepsKeys
  exact .ite (.ite (.step t.enginesForced_keepsRecords ht) ht) (.refl ..)

theorem State.meEnterBrake_keepsRecords (k r : Nat) : KeepsRecords s (s.meEnterBrake k r) := by
  unfold State.meEnterBrake
  exact .step (State.hbSetMode_keepsRecords ..) (.step (State.wr_keepsRecords ..) (.step (State.wr_keepsRecords ..)
    (s.mapMe_keeps ..).keepsKeys))

theorem State.meReset_keepsRecords (k : Nat) : KeepsRecords s (s.meReset k) := by
  unfold State.meReset
  exact .ite (.refl ..) (.ite (s.normLost_keepsRecords k) (.step (State.meEnterBrake_keepsRecords ..) (.step (State.sticky_keepsRecords ..)
    (.step (State.normLost_keepsRecords ..) (s.mapMe_keeps ..).keepsKeys))))

/-- An engine that is told to stop. -/
theorem State.meStop_keepsRecords (k : Nat) : KeepsRecords s (s.meCommand k .stop) := by
  unfold State.meCommand
  extract_lets st
  refine .ite (.refl ..) (.ite (s.sticky_keepsRecords ..) (.ite ?_ ?_))
  · rw [if_pos rfl]
    exact s.meEnterBrake_keepsRecords ..
  · rw [if_pos rfl]
    exact .ite (s.meEnterBrake_keepsRecords ..) (.refl ..)

/-! ## Networks (R368) -/

/-- The states of the networks. -/
theorem netFields_offRecords : ∀ n < 44, (WK_NET_STATE.STATE.elem n).offRecords = true := by decide

theorem State.canWakeUp_keepsRecords (p : Nat) : KeepsRecords s (s.canWakeUp p) := by
  unfold State.canWakeUp State.setCanState
  extract_lets t
  have ht : KeepsRecords s t := s.wr_keepsRecords ..
  exact .ite (.step (t.wr_keepsRecords ..) ht) ht

theorem State.sendNm_keepsRecords (p x : Nat) : KeepsRecords s (s.sendNm p x) := by
  unfold State.sendNm
  exact .step (State.setWake_keeps ..).keepsKeys (.step (State.count_keepsRecords ..) (s.emit_keeps _).keepsKeys)

theorem State.sendAlive_keepsRecords (p : Nat) : KeepsRecords s (s.sendAlive p) := by
  unfold State.sendAlive
  exact .ite (.step (State.sendNm_keepsRecords ..) (s.setWake_keeps _).keepsKeys) (s.setWake_keeps _).keepsKeys

theorem State.canToSleep_keepsRecords (p : Nat) : KeepsRecords s (s.canToSleep p) := by
  unfold State.canToSleep
  extract_lets _ t
  have ht : KeepsRecords s t := .ite (s.wr_keepsRecords ..) (.refl ..)
  exact .ite (.step (t.wr_keepsRecords ..) ht) (.step (State.wr_keepsRecords ..) (.step (t.wr_keepsRecords ..) ht))

theorem State.linStop_keepsRecords (p x : Nat) : KeepsRecords s (s.linStop p x) := by
  unfold State.linStop State.setLinState
  exact .step (State.wr_keepsRecords ..) (.step (State.wr_keepsRecords ..) (.step (State.wr_keepsRecords ..) (s.setLin_keeps _).keepsKeys))

theorem State.linToSleep_keepsRecords (p : Nat) : KeepsRecords s (s.linToSleep p) := by
  unfold State.linToSleep State.linGoToSleep
  exact .ite (s.wr_keepsRecords ..) (.ite (s.setLin_keeps _).keepsKeys (.step (State.wr_keepsRecords ..)
    (.step (State.linStop_keepsRecords ..) (.step (State.count_keepsRecords ..) (.step (State.emit_keeps ..).keepsKeys
      (s.emit_keeps _).keepsKeys)))))

section
variable {n : Nat} (hn : n < 44)
include hn

theorem State.setNet_keepsRecords (v : Nat) : KeepsRecords s (s.setNet n v) := by
  unfold State.setNet
  exact .step (State.parkCheck_keepsRecords _) (.step (State.evalPartial_keeps _).keepsKeys
    (s.wr_keepsRecords _ _ _ _ (netFields_offRecords n hn)))

theorem State.netWake_keepsRecords : KeepsRecords s (s.netWake n) := by
  unfold State.netWake State.linWakeUp
  extract_lets t u
  have ht : KeepsRecords s t := .step (State.event_keepsRecords ..) (s.setNet_keepsRecords hn _)
  have hu : KeepsRecords s u := .step (State.wr_keepsRecords ..) (.step (t.canWakeUp_keepsRecords _) ht)
  split
  · next he => exact .step (t.ethWake_keepsRecords (of_decide_eq_true he)) ht
  · exact .ite (.ite (.step (u.sendAlive_keepsRecords _) hu) hu)
      (.step (State.setWake_keeps ..).keepsKeys (.step (State.emit_keeps ..).keepsKeys (.step (t.wr_keepsRecords ..) ht)))

theorem State.netAbort_keepsRecords (x : Bool) : KeepsRecords s (s.netAbort n x) := by
  unfold State.netAbort
  extract_lets t
  have ht : KeepsRecords s t := .step (State.count_keepsRecords ..) (.step (State.sticky_keepsRecords ..) (s.setNet_keepsRecords hn _))
  exact .ite (.step (t.sendAlive_keepsRecords _) ht) ht

theorem State.netSleep_keepsRecords : KeepsRecords s (s.netSleep n) := by
  unfold State.netSleep
  extract_lets _ t u v
  have hv : KeepsRecords s v := .step (State.setNet_keepsRecords _ hn _) (s.setWake_keeps _).keepsKeys
  split
  · next he => exact .step (t.sleepStart_keepsRecords (of_decide_eq_true he)) (s.setWake_keeps _).keepsKeys
  · exact .ite (.step (v.canToSleep_keepsRecords _) hv) (.step (v.linToSleep_keepsRecords _) hv)

theorem State.evalNet_keepsRecords : KeepsRecords s (s.evalNet n) := by
  unfold State.evalNet
  extract_lets st _ t
  have ht : KeepsRecords s t := s.setNet_keepsRecords hn _
  exact .ite
    (.ite (.step (State.setNet_keepsRecords _ hn _) (s.setWake_keeps _).keepsKeys) (.ite (s.netAbort_keepsRecords hn _)
      (.ite (.ite (.refl ..) (.step (State.sticky_keepsRecords ..) (s.setWake_keeps _).keepsKeys))
        (.ite (s.netWake_keepsRecords hn) (.refl ..)))))
    (.ite (.ite ht (.ite (.step (t.netSleep_keepsRecords hn) ht) (.step (t.setWake_keeps _).keepsKeys ht))) (.refl ..))

end

theorem State.ethSynced_keepsRecords {p : Nat} (hp : p < 16) : KeepsRecords s (s.ethSynced p) := by
  have hn : p < 44 := by omega
  unfold State.ethSynced
  extract_lets _ t u
  have hu : KeepsRecords s u := .step (State.event_keepsRecords ..) (.step (State.setNet_keepsRecords _ hn _) (s.setWake_keeps _).keepsKeys)
  exact .ite (.ite (.step (u.netWake_keepsRecords hn) hu) hu)
    (.ite (.step (State.evalNet_keepsRecords _ hn) (.step (State.event_keepsRecords ..) (s.setNet_keepsRecords hn _))) (.refl ..))

/-- Every managed network is wanted awake again (R378). -/
theorem State.wakeAll_keepsRecords : KeepsRecords s s.wakeAll := by
  unfold State.wakeAll
  refine .step (.each_mem (fun n hn t => ?_) _) (s.setWake_keeps _).keepsKeys
  have hn : n < 44 := List.mem_range.mp (List.mem_filter.mp hn).1
  exact .ite (t.netWake_keepsRecords hn) (t.setNet_keepsRecords hn _)

end Sys2Proof.Machine

/-! SUPPORT. Received frames, descriptor rings and commits of the tables leave the records of faults and violations as they are. -/

namespace Sys2Proof.Machine

-- One proof after the other, as in the tests: proofs elaborated side by side after so long a text exhaust the memory for threads.
set_option Elab.async false

theorem KeepsKeys.ite_fst {β : Type} {K : Nat → Prop} {a : State} {x y : State × β} {p : Prop} [Decidable p] (hx : KeepsKeys K a x.1)
    (hy : KeepsKeys K a y.1) : KeepsKeys K a (if p then x else y).1 := by
  split <;> assumption

variable (s : State)

/-! ## A frame that comes in -/

theorem State.ethEnqueue_keepsRecords {p : Nat} (hp : p < 16) (c : Copy) : KeepsRecords s (s.ethEnqueue p c) := by
  unfold State.ethEnqueue
  extract_lets _ t
  have ht : KeepsRecords s t := s.hopEnqueue_keepsRecords p c
  exact .ite (.step (State.ethSynced_keepsRecords _ hp) (.step (t.ethWake_keepsRecords hp) ht)) ht

theorem State.ringEnqueue_keepsRecords (c : Copy) : KeepsRecords s (s.ringEnqueue c) := by
  unfold State.ringEnqueue
  exact .ite (s.endCopy_keepsRecords ..) (.ite (s.endCopy_keepsRecords ..) (s.setFab_keeps _).keepsKeys)

/-- A copy for a port or a ring of the host, without an appended MAC. -/
theorem State.dispatch_keepsRecords {c : Copy} (hd : c.dest < 0x10 ∨ isRing c.dest = true) (ho : c.outCtx = 0) :
    KeepsRecords s (s.dispatch c) := by
  unfold State.dispatch
  split
  · next h => exact s.ethEnqueue_keepsRecords h c
  · next h =>
    have hr := hd.resolve_left h
    simp only [isRing, Bool.and_eq_true, decide_eq_true_eq] at hr
    have hcan : isCanPort c.dest = false := by simp [isCanPort]; omega
    have hlin : isLinPort c.dest = false := by simp [isLinPort]; omega
    simp only [hcan, hlin, Bool.false_eq_true, if_false, State.ringDispatch, ho, if_true]
    exact s.ringEnqueue_keepsRecords c

theorem State.mirrorTo_keepsRecords (k fid src cells : Nat) (data : List Nat) : KeepsRecords s (s.mirrorTo k fid src cells data) := by
  unfold State.mirrorTo State.mirrorCopy
  extract_lets dest ing egr cid _ t
  have ht : KeepsRecords s t := .step (State.addRefs_keeps ..).keepsKeys (s.setFab_keeps _).keepsKeys
  split
  · exact .refl ..
  · next h =>
    have hdest : dest < 0x10 ∨ isRing dest = true := by
      simp only [Bool.or_eq_true, Bool.not_eq_true', not_or, Bool.not_eq_false, decide_eq_true_eq] at h
      exact h.1
    exact .ite (.step (t.setFab_keeps _).keepsKeys ht) (.step (t.dispatch_keepsRecords hdest rfl) ht)

/-- The tally that a frame refused at its port counts in. -/
theorem State.rxCheck_offRecords {p n reason : Nat} {d : List Nat} {x y : Bool} {f : Field} (h : s.rxCheck p d n x y = some (reason, f)) :
    f.offRecords = true := by
  unfold State.rxCheck at h
  extract_lets w ty at h
  repeat' split at h
  all_goals cases h <;> decide

theorem State.secOpen_keepsRecords (p k a : Nat) (t : SecTag) (d : List Nat) : KeepsRecords s (s.secOpen p k a t d).1 := by
  unfold State.secOpen
  extract_lets w cipher slot lowest pn body icv key iv head good plain u v x
  have hu : KeepsRecords s u := s.count_keepsRecords ..
  have hv : KeepsRecords s v := .step (State.event_keepsRecords ..) (.step (State.count_keepsRecords ..) (.step (u.sticky_keepsRecords ..) hu))
  have hx : KeepsRecords s x := .ite (.step (u.wr_keepsRecords ..) hu) hu
  have hlate : KeepsRecords s (((s.sticky w MSEC_STAT.REPLAY).count w MSEC_IN_LATE.COUNT k).event w 0) :=
    .step (State.event_keepsRecords ..) (.step (State.count_keepsRecords ..) (s.sticky_keepsRecords ..))
  exact .ite_fst (.refl ..) (.ite_fst (.refl ..) (.ite_fst hlate
    (.ite_fst (.ite_fst hv hv) (.step (x.count_keepsRecords ..) hx))))

theorem State.secReceive_keepsRecords (p : Nat) (d : List Nat) : KeepsRecords s (s.secReceive p d).1 := by
  unfold State.secReceive
  extract_lets w mode scOfSci sci noSa
  have hno : KeepsRecords s noSa.1 := .step (State.count_keepsRecords ..) (s.sticky_keepsRecords ..)
  refine .ite_fst (.refl ..) (.ite_fst ?_ ?_)
  · show KeepsRecords s (match scOfSci sci with | some k => _ | none => _)
    split
    · exact s.count_keepsRecords ..
    · exact .refl ..
  · split
    · exact .ite_fst (.refl ..) (s.sticky_keepsRecords ..)
    · refine .ite_fst (s.sticky_keepsRecords ..) ?_
      split
      · exact hno
      · split
        · exact hno
        · exact s.secOpen_keepsRecords ..

theorem State.handOn_keepsRecords (p fid : Nat) (d : List Nat) : KeepsRecords s (s.handOn p fid d) := by
  unfold State.handOn
  extract_lets x
  have hx : KeepsRecords s x.1 := s.secReceive_keepsRecords p d
  refine .ite (s.handOver_keeps _).keepsKeys ?_
  split
  · exact .step (State.endItem_keepsRecords ..) hx
  · exact .step (State.enterPipe_keeps ..).keepsKeys (.step (State.mapFrame_keeps ..).keepsKeys hx)

theorem State.ethReceive_keepsRecords (p : Nat) (d : List Nat) (x y : Bool) (age : Nat) : KeepsRecords s (s.ethReceive p d x y age) := by
  unfold State.ethReceive State.stockpileFull State.rxFailed State.rxCounted State.mirrorIn
  extract_lets n cells t fid u
  refine .ite (.step (State.endFrame_keepsRecords ..) (s.sticky_keepsRecords ..)) ?_
  split
  · next reason f h =>
    extract_lets v
    have hv : KeepsRecords s v := s.count_keepsRecords _ f _ _ (s.rxCheck_offRecords h)
    exact .step (State.endFrame_keepsRecords ..) (.ite (.step (v.sticky_keepsRecords ..) hv) hv)
  · have ht : KeepsRecords s t := .step (State.count_keepsRecords ..) (s.count_keepsRecords ..)
    have hu : KeepsRecords s u := .step (State.stampAt_keeps ..).keepsKeys (.step (t.addFrame_keeps ..).keepsKeys ht)
    exact .step (State.handOn_keepsRecords ..) (.step (.each (fun v k => .ite (v.mirrorTo_keepsRecords ..) (.refl ..)) u) hu)

theorem State.readerBad_keepsRecords (p : Nat) (c : Copy) (w : Nat) (d : Disp) (r : Nat) : KeepsRecords s (s.readerBad p c w d r) := by
  unfold State.readerBad State.looped
  extract_lets t
  have ht : KeepsRecords s (t.readerEnd p c w d r) :=
    .step (t.readerEnd_keepsRecords ..) (.step (State.count_keepsRecords ..) (s.lineOut_keeps ..).keepsKeys)
  exact .ite (.step (State.ethReceive_keepsRecords ..) ht) ht

theorem State.openFailed_keepsRecords (p fid : Nat) (d : Disp) (r k : Nat) : KeepsRecords s (s.openFailed p fid d r k) := by
  unfold State.openFailed
  extract_lets t u v x
  have ht : KeepsRecords s t := (s.mapFrame_keeps ..).keepsKeys
  have hu : KeepsRecords s u := by
    refine .step (.each (fun y q => ?_) t) ht
    split
    · exact .ite (y.readerBad_keepsRecords ..) (.refl ..)
    · exact .refl ..
  have hv : KeepsRecords s v := .step (u.dropQueued_keepsRecords ..) hu
  have hx : KeepsRecords s x := by
    unfold x; split
    · exact hv
    · exact .step (v.openItem_keepsRecords ..) hv
  exact .step (State.release_keeps ..).keepsKeys hx

/-! ## Descriptor rings -/

theorem ringFields_offRecords : ∀ tx, ∀ r < 16, (fIrq tx r).offRecords = true ∧ (fHead tx r).offRecords = true ∧
    (fStopped tx r).offRecords = true := by decide

theorem State.wbTx_keepsRecords (x : Bool) (d : Desc) (how : Nat) : KeepsRecords s (s.wbTx x d how) := by
  unfold State.wbTx
  extract_lets t
  have ht : KeepsRecords s t := (s.emit_keeps _).keepsKeys
  exact .ite (s.endOther_keepsRecords ..) (.ite (.step (t.endOther_keepsRecords ..) ht) (.ite (.step (t.endOther_keepsRecords ..) ht) ht))

theorem State.wbRxEmpty_keepsRecords (x : Bool) (d : Desc) (k : Disp) (r : Nat) : KeepsRecords s (s.wbRxEmpty x d k r) := by
  unfold State.wbRxEmpty
  exact .ite (s.endOther_keepsRecords ..) (.step (State.endOther_keepsRecords ..) (s.emit_keeps _).keepsKeys)

section
variable {r : Nat} (hr : r < 16) (tx : Bool)
include hr

theorem State.ringRaise_keepsRecords : KeepsRecords s (s.ringRaise tx r) := by
  unfold State.ringRaise
  extract_lets t
  have ht : KeepsRecords s t := .step (State.sendVec_keeps ..).keepsKeys (s.wr_keepsRecords _ _ _ _ (ringFields_offRecords tx r hr).1)
  exact .ite (.refl ..) (.ite (.step (t.driveIrq_keeps).keepsKeys ht) ht)

theorem State.ringIrq_keepsRecords : KeepsRecords s (s.ringIrq tx r) := by
  unfold State.ringIrq
  exact .ite (s.ringRaise_keepsRecords hr tx) (.ite (s.setHost_keeps _).keepsKeys
    (.step (State.setHost_keeps ..).keepsKeys (s.ringRaise_keepsRecords hr tx)))

theorem State.complete_keepsRecords (l : List Nat) : KeepsRecords s (s.complete tx r l) := by
  unfold State.complete
  exact .step (State.setDone_keeps ..).keepsKeys (s.wr_keepsRecords _ _ _ _ (ringFields_offRecords tx r hr).2.1)

omit tx

theorem State.wbFrame_keepsRecords (f : RingFrame) (how : Nat) : KeepsRecords s (s.wbFrame r f how) := by
  unfold State.wbFrame
  extract_lets reach t
  have ht : KeepsRecords s t := .foldl (fun u d => u.wbTx_keepsRecords ..) s
  exact .ite ht (.step (State.ringIrq_keepsRecords _ hr true) (.ite ht (.step (t.complete_keepsRecords hr true _) ht)))

theorem State.wbLoose_keepsRecords (l : List Desc) (how : Nat) : KeepsRecords s (s.wbLoose r l how) := by
  unfold State.wbLoose
  extract_lets reach t
  have ht : KeepsRecords s t := .foldl (fun u d => u.wbTx_keepsRecords ..) s
  exact .ite (.step (State.ringIrq_keepsRecords _ hr true) (.step (t.complete_keepsRecords hr true _) ht)) ht

theorem State.txStop_keepsRecords : KeepsRecords s (s.txStop r) := by
  unfold State.txStop
  extract_lets l t u fs v
  have ht : KeepsRecords s t := .step (State.wbLoose_keepsRecords _ hr ..) (s.setTxDescs_keeps ..).keepsKeys
  have hu : KeepsRecords s u := by
    unfold u; split
    · exact ht
    · exact .step (State.wbFrame_keepsRecords _ hr ..) (.step (State.endItem_keepsRecords ..) (.step (t.setLaunch_keeps ..).keepsKeys ht))
  have hv : KeepsRecords s v := .ite hu (.step (.foldl (fun x f => .foldl (fun y d => y.wbTx_keepsRecords ..) x) _)
    (.step (u.setTxFrames_keeps ..).keepsKeys hu))
  exact .step (v.wr_keepsRecords _ _ _ _ (ringFields_offRecords true r hr).2.2) hv

theorem State.rxStop_keepsRecords : KeepsRecords s (s.rxStop r) := by
  unfold State.rxStop
  extract_lets reach l t u q _ v x
  have ht : KeepsRecords s t := .step (.foldl (fun y d => y.wbRxEmpty_keepsRecords ..) _) (s.setRxDescs_keeps ..).keepsKeys
  have hu : KeepsRecords s u := .ite (.step (State.ringIrq_keepsRecords _ hr false) (.step (t.complete_keepsRecords hr false _) ht)) ht
  have hv : KeepsRecords s v := .step (u.setFab_keeps _).keepsKeys hu
  have hx : KeepsRecords s x := .step (.foldl (fun y c => .ite (y.endCopy_keepsRecords ..) (y.endCopy_keepsRecords ..)) v) hv
  exact .step (x.wr_keepsRecords _ _ _ _ (ringFields_offRecords false r hr).2.2) hx

end

theorem State.stopRings_keepsRecords : KeepsRecords s s.stopRings := by
  unfold State.stopRings State.txFlush State.ringStop
  refine .each (fun t tx => .each_range (fun r hr u => .ite ?_ (.refl ..)) t) s
  cases tx with
  | false => exact u.rxStop_keepsRecords hr
  | true => exact .step (State.txStop_keepsRecords _ hr) (.step (.each (fun v f => v.wbFrame_keepsRecords hr ..) _)
      (u.setTxFrames_keeps ..).keepsKeys)

/-! ## Commits of the tables (R127) -/

theorem State.sinkSend_keepsRecords (i : Nat) : KeepsRecords s (s.sinkSend i) := by
  unfold State.sinkSend
  extract_lets g fn mode v
  refine .ite (.refl ..) ?_
  split
  · exact .step (State.event_keepsRecords ..) (s.sticky_keepsRecords ..)
  · exact (s.setGw_keeps _).keepsKeys

theorem State.sigInstall_keepsRecords (i : Nat) : KeepsRecords s (s.sigInstall i) := by
  unfold State.sigInstall
  exact .step (State.sinkSend_keepsRecords ..) (.step (State.wr_keepsRecords ..) (.step (State.wr_keepsRecords ..) (s.setGw_keeps _).keepsKeys))

theorem State.authStart_keepsRecords (c : Nat) : KeepsRecords s (s.authStart c) := by
  unfold State.authStart State.setFvState
  extract_lets flat epoch _ _ v t
  have ht : KeepsRecords s t := .ite (.refl ..) (.step (State.setAonFv_keeps ..).keepsKeys (.step (State.wr_keepsRecords ..)
    (s.setGuard_keeps _).keepsKeys))
  exact .step (State.ceilCheck_keeps ..).keepsKeys (.step (t.wr_keepsRecords ..) ht)

theorem State.entryFlipped_keepsRecords (o n w i : Nat) : KeepsRecords s (s.entryFlipped o n w i) := by
  unfold State.entryFlipped
  extract_lets rose
  exact .ite (s.bucketFlipped_keeps ..).keepsKeys (.ite (.when (fun t => t.authStart_keepsRecords i) _ s)
    (.ite (.when (fun t => t.sigInstall_keepsRecords i) _ s) (.ite (.when (fun t => (t.setGw_keeps _).keepsKeys) _ s) (.refl ..))))

theorem State.splitDeletions_keepsRecords : KeepsRecords s s.splitDeletions := by
  unfold State.splitDeletions
  exact .step (State.wr_keepsRecords ..) (.step (State.setBench_keeps ..).keepsKeys (.step (.each (fun t c => t.entryFlipped_keepsRecords ..) _)
    (.each (fun t c => (t.swapEntry_keeps ..).keepsKeys) s)))

theorem State.entryRejected_keepsRecords (code : Nat) (e : OvfEntry) : KeepsRecords s (s.entryRejected code e) := by
  unfold State.entryRejected
  exact .step (State.sticky_keepsRecords ..) (.when (fun t => .step (State.wr_keepsRecords ..) (t.wr_keepsRecords ..)) _ s)

theorem State.placeL2_keepsRecords (code : Nat) : KeepsRecords s (s.placeL2 code) := by
  unfold State.placeL2
  refine .step (.each (fun t x => ?_) _) (.step (State.setL2_keeps ..).keepsKeys (.each (fun t x => (t.setL2_keeps ..).keepsKeys) s))
  refine .ite (t.l2Add_keeps ..).keepsKeys ?_
  split
  · exact t.entryRejected_keepsRecords ..
  · exact .refl ..

theorem State.placePrefixes_keepsRecords (code : Nat) : KeepsRecords s (s.placePrefixes code) := by
  unfold State.placePrefixes
  refine .step (.each (fun t x => ?_) _) (.step (State.setPrefixes_keeps ..).keepsKeys (s.stand_keeps ..).keepsKeys)
  refine .ite (t.setPrefixes_keeps ..).keepsKeys ?_
  split
  · exact t.entryRejected_keepsRecords ..
  · exact .refl ..

theorem State.placeViews_keepsRecords (w code : Nat) (f : Field) : KeepsRecords s (s.placeViews w code f) :=
  .each (fun t e => .step (State.entryRejected_keepsRecords ..) (t.restoreEntry_keeps ..).keepsKeys) s

theorem State.switchSlotted_keepsRecords (w code : Nat) : KeepsRecords s (s.switchSlotted w code) := by
  unfold State.switchSlotted
  exact .step (State.setBench_keeps ..).keepsKeys (.when (fun t => .ite (t.placeL2_keepsRecords _) (.ite (t.placePrefixes_keepsRecords _)
    (.ite (t.placeViews_keepsRecords ..) (t.placeViews_keepsRecords ..)))) _ s)

theorem State.switchPaired_keepsRecords (w : Nat) : KeepsRecords s (s.switchPaired w) := by
  unfold State.switchPaired
  exact .step (.each (fun t i => t.entryFlipped_keepsRecords ..) _) (.step (State.setBench_keeps ..).keepsKeys
    (.each (fun t i => (t.swapEntry_keeps ..).keepsKeys) s))

theorem State.splitStep_keepsRecords : KeepsRecords s s.splitStep := by
  unfold State.splitStep State.splitEnd
  extract_lets t
  have ht : KeepsRecords s t := by
    unfold t; split
    · exact s.splitDeletions_keepsRecords
    · exact .step (State.wr_keepsRecords ..) (.ite (s.switchSlotted_keepsRecords ..) (s.switchPaired_keepsRecords ..))
  exact .ite (.refl ..) (.ite (.step (State.releaseHeld_keeps _).keepsKeys (.step (State.setPhase_keeps ..).keepsKeys
    (.step (t.wr_keepsRecords ..) ht))) ht)

theorem State.clearDelta_keepsRecords : KeepsRecords s s.clearDelta := .step (State.wr_keepsRecords ..) (s.setBench_keeps _).keepsKeys

theorem State.discardDelta_keepsRecords : KeepsRecords s s.discardDelta := by
  unfold State.discardDelta
  exact .step (State.clearDelta_keepsRecords _) (.step (State.keyedSettle_keeps ..).keepsKeys
    (.each (fun t e => (t.restoreEntry_keeps ..).keepsKeys) s))

theorem State.reclaim_keepsRecords : KeepsRecords s s.reclaim := by
  unfold State.reclaim
  exact .step (State.clearDelta_keepsRecords _) (.step (State.setTbl_keeps ..).keepsKeys (.step (State.keyedSettle_keeps ..).keepsKeys
    (.each (fun t e => .each (fun u f => (u.setEnt_keeps ..).keepsKeys) t) s)))

theorem State.reclaimDone_keepsRecords : KeepsRecords s s.reclaimDone := by
  unfold State.reclaimDone
  refine .ite (.refl ..) (.step (State.event_keepsRecords ..) (.step (State.count_keepsRecords ..) (.step (.when (fun t => ?_) _ _)
    (.step (State.setLeg_keeps ..).keepsKeys (.step (State.wr_keepsRecords ..) (.step (State.wr_keepsRecords ..)
      (.step (State.setBench_keeps ..).keepsKeys s.reclaim_keepsRecords)))))))
  exact .step (State.event_keepsRecords ..) (.step (State.count_keepsRecords ..) (t.sticky_keepsRecords ..))

theorem State.commitThrough_keepsRecords : KeepsRecords s s.commitThrough := by
  unfold State.commitThrough
  split
  · exact .refl ..
  · exact (s.setPhase_keeps _).keepsKeys
  · exact (s.setPhase_keeps _).keepsKeys
  · exact s.splitStep_keepsRecords
  · exact s.reclaimDone_keepsRecords

end Sys2Proof.Machine

/-! SUPPORT. The work that a UNIT reset ends and the entry into the safe state leave the records of faults and violations as they are
(R85, R458). -/

namespace Sys2Proof.Machine

-- One proof after the other, as in the tests: proofs elaborated side by side after so long a text exhaust the memory for threads.
set_option Elab.async false

variable (s : State)

/-! ## CAN and LIN -/

theorem State.canDropped_keepsRecords (p : Nat) : KeepsRecords s (s.canDropped p) :=
  .step (State.sticky_keepsRecords ..) (s.count_keepsRecords ..)

theorem State.objEnd_keepsRecords (p k : Nat) (d : Disp) (r : Nat) : KeepsRecords s (s.objEnd p k d r) := by
  unfold State.objEnd State.setObj
  extract_lets t _ u
  have ht : KeepsRecords s t := .step (State.wr_keepsRecords ..) (.step (State.wr_keepsRecords ..) (s.wr_keepsRecords ..))
  have hu : KeepsRecords s u := .step (t.setCan_keeps _).keepsKeys ht
  exact .step (State.event_keepsRecords ..) (.ite (.step (State.endOther_keepsRecords ..) (.step (u.canDropped_keepsRecords p) hu)) hu)

theorem State.canDropAll_keepsRecords (p r : Nat) : KeepsRecords s (s.canDropAll p r) := by
  unfold State.canDropAll State.canDropCopies State.canDrop
  refine .step (State.setCan_keeps ..).keepsKeys (.step (.each (fun t k => t.objEnd_keepsRecords ..) _)
    (.step (State.setTxq_keeps ..).keepsKeys (.foldl (fun t c => ?_) s)))
  exact .step (State.endCopy_keepsRecords ..) (.step (State.event_keepsRecords ..) (t.canDropped_keepsRecords p))

theorem objFields_offRecords : ∀ f ∈ objFields ++ objDataFields, f.offRecords = true := by decide

theorem State.objClear_keepsRecords (p k : Nat) : KeepsRecords s (s.objClear p k) := by
  unfold State.objClear
  exact .step (State.setCan_keeps ..).keepsKeys (.step (.each_mem (fun f hf t => t.wr_keepsRecords _ f _ _ (objFields_offRecords f hf)) _)
    (s.xlRelease_keeps ..).keepsKeys)

theorem State.linOwnerEnd_keepsRecords (p i : Nat) (d : Disp) (r : Nat) : KeepsRecords s (s.linOwnerEnd p i d r) := by
  unfold State.linOwnerEnd State.linEnd
  split
  · exact .refl ..
  · extract_lets _ t
    have ht : KeepsRecords s t := .ite (.step (State.event_keepsRecords ..) (.step (State.count_keepsRecords ..) (s.setLin_keeps _).keepsKeys))
      (s.setLin_keeps _).keepsKeys
    exact .step (State.release_keeps ..).keepsKeys (.step (t.endOther_keepsRecords ..) ht)

theorem linFields_offRecords : ∀ i < 64, (LIN_FRAME_STAT.UNSENT.elem i).offRecords = true := by decide

theorem State.linDropAll_keepsRecords (p r : Nat) : KeepsRecords s (s.linDropAll p r) :=
  .each_range (fun i hi t => .step (State.wr_keepsRecords _ _ _ _ _ (linFields_offRecords i hi)) (t.linOwnerEnd_keepsRecords ..)) s

/-! ## Signals, PDUs and AUTH -/

theorem State.sigInit_keepsRecords (i : Nat) : KeepsRecords s (s.sigInit i) := by
  unfold State.sigInit
  extract_lets old t
  have ht : KeepsRecords s t := .step (State.wr_keepsRecords ..) (s.wr_keepsRecords ..)
  exact .ite (.step (t.sinkSend_keepsRecords i) ht) ht

theorem State.sigResetAll_keepsRecords : KeepsRecords s s.sigResetAll :=
  .each (fun t i => .ite (t.sigInit_keepsRecords i) (.step (State.wr_keepsRecords ..) (t.wr_keepsRecords ..))) s

theorem State.appendEnded_keepsRecords (c : Copy) (d : Disp) (r : Nat) : KeepsRecords s (s.appendEnded c d r) := by
  unfold State.appendEnded
  extract_lets t
  have ht : KeepsRecords s t := (s.leaveAppend_keeps _).keepsKeys
  exact .step (State.endCopy_keepsRecords ..) (.ite (.step (t.setTxq_keeps ..).keepsKeys ht)
    (.ite (.step (t.setReader_keeps ..).keepsKeys ht) ht))

theorem State.authReset_keepsRecords : KeepsRecords s s.authReset := by
  unfold State.authReset
  exact .step (State.authWriteBack_keeps _).keepsKeys (.step (State.setFab_keeps ..).keepsKeys
    (.step (.each (fun t c => .step (State.appendEnded_keepsRecords ..) (t.count_keepsRecords ..)) _)
      (.each (fun t i => .step (State.stopItem_keepsRecords ..) (t.count_keepsRecords ..)) s)))

theorem State.seLost_keepsRecords (e : Nat) : KeepsRecords s (s.seLost e) := by
  unfold State.seLost
  extract_lets t
  have ht : KeepsRecords s t := s.count_keepsRecords ..
  exact .ite ht (.step (State.event_keepsRecords ..) (.step (t.sticky_keepsRecords ..) ht))

theorem State.buildSkip_keepsRecords : KeepsRecords s s.buildSkip :=
  .step (State.event_keepsRecords ..) (.step (State.sticky_keepsRecords ..) (s.count_keepsRecords ..))

theorem State.sendDone_keepsRecords (j : Nat) : KeepsRecords s (s.sendDone j) := by
  unfold State.sendDone
  exact .ite (.step (State.event_keepsRecords ..) (.step (State.wr_keepsRecords ..) (s.setGw_keeps _).keepsKeys)) (.refl ..)

theorem State.seReset_keepsRecords (e : Nat) (fault : Bool) : KeepsRecords s (s.seReset e fault) := by
  unfold State.seReset
  extract_lets q t one u
  have ht : KeepsRecords s t := (s.setExq_keeps ..).keepsKeys
  have hone : ∀ v w b, KeepsRecords v (one v w b) := by
    intro v w b
    cases w with
    | pdu x => exact .ite (.ite (v.endItem_keepsRecords ..) (v.endItem_keepsRecords ..)) (v.seLost_keepsRecords e)
    | report _ _ => exact v.seLost_keepsRecords e
  have hu : KeepsRecords s u := by
    unfold u
    clear_value q
    split
    · exact ht
    · exact .step (.each (fun v w => hone v w false) _) (.step (hone ..) ht)
  exact .step (.each (fun v j => .step (State.sendDone_keepsRecords ..) v.buildSkip_keepsRecords) _) (.step (u.setBq_keeps ..).keepsKeys hu)

/-! ## Events, axes and stamps -/

theorem State.evEnd_dropped_keepsRecords (i r n : Nat) : KeepsRecords s (s.evEnd i .dropped r n) := by
  unfold State.evEnd
  exact .ite (.refl ..) (.step (State.spoilMany_keepsRecords ..) (.step (State.wr_keepsRecords ..)
    (s.count_keepsRecords wEvp EVP_DROPPED.COUNT ..)))

theorem State.evDrop_keepsRecords (i r : Nat) : KeepsRecords s (s.evDrop i r) := by
  unfold State.evDrop State.unarm
  exact .ite (.refl ..) (.step (State.evEnd_dropped_keepsRecords ..) (.step (State.wr_keepsRecords ..) (s.setEvp_keeps _).keepsKeys))

theorem State.axisLost_keepsRecords (n : Nat) : KeepsRecords s (s.axisLost n) :=
  .each (fun t _ => .ite (t.evDrop_keepsRecords ..) (.refl ..)) s

theorem State.axStop_keepsRecords (n : Nat) : KeepsRecords s (s.axStop n) := by
  unfold State.axStop State.setAxState
  exact .ite (.refl ..) (.step (State.axisLost_keepsRecords ..) (.step (State.setAxis_keeps ..).keepsKeys
    (.step (State.wr_keepsRecords ..) (s.wr_keepsRecords ..))))

theorem State.axSourceCheck_keepsRecords (n : Nat) : KeepsRecords s (s.axSourceCheck n) := by
  unfold State.axSourceCheck State.setAxState
  exact .ite (.refl ..) (.ite (.ite (s.setAxis_keeps ..).keepsKeys (.refl ..)) (.ite (.refl ..) (.step (State.event_keepsRecords ..)
    (.step (State.sticky_keepsRecords ..) (.step (State.wr_keepsRecords ..) (s.setAxis_keeps ..).keepsKeys)))))

theorem State.axisSources_keepsRecords : KeepsRecords s s.axisSources := .ite (.each State.axSourceCheck_keepsRecords s) (.refl ..)

theorem State.missRecord_keepsRecords (x : StampRec) : KeepsRecords s (s.missRecord x).1 := by
  have hfull : KeepsRecords s ((s.sticky wStamp STP_STAT.MISS_FULL).event wStamp 1) :=
    .step (State.event_keepsRecords ..) (s.sticky_keepsRecords ..)
  exact .ite_fst hfull (s.setStamps_keeps _).keepsKeys

theorem State.stampReset_keepsRecords : KeepsRecords s s.stampReset := by
  unfold State.stampReset
  refine .step (State.stampFreed_keeps ..).keepsKeys (.each (fun t p => .step (.each (fun u e => ?_) _) (t.setStampQ_keeps ..).keepsKeys) s)
  exact .ite (u.missRecord_keepsRecords _) (.step (State.count_keepsRecords ..) (u.missRecord_keepsRecords _))

/-! ## What a UNIT reset ends in each class of unit -/

theorem State.trmFree_keepsRecords : KeepsRecords s s.trmFree := by
  unfold State.trmFree
  exact .step (State.wr_keepsRecords ..) (.step (State.wr_keepsRecords ..) (.step (State.wr_keepsRecords ..) (.step (State.wr_keepsRecords ..)
    (s.setTrust_keeps _).keepsKeys)))

theorem instOf_lt_of_eth {w : Nat} (h : clsOf w = .eth) : instOf w < 16 := by
  obtain ⟨r, hr, hc, _, hlt, hi⟩ := exists_run_of_clsOf (w := w) (by simp [h]) (by simp [h])
  have := (by decide +kernel : ∀ r ∈ windowRuns, r.cls = .eth → r.count = 16) r hr (hc.trans h)
  omega

theorem State.endWork_keepsRecords (w : Nat) (fault : Bool) : KeepsRecords s (s.endWork w fault) := by
  have htab {t : State} (h : KeepsRecords s t) : KeepsRecords s (t.clearTable w) := .step (t.clearTable_keeps w).keepsKeys h
  unfold State.endWork
  extract_lets n
  cases hc : clsOf w with
  | host => exact .step (State.loseSpiReads_keeps _).keepsKeys (.step (State.setHost_keeps ..).keepsKeys s.stopRings_keepsRecords)
  | hopper => exact s.hopDrain_keepsRecords ..
  | fabric => exact (s.setFab_keeps _).keepsKeys
  | tables => exact .step (State.discardDelta_keepsRecords _) (.iter State.commitThrough_keepsRecords 16 s)
  | l2 => exact (s.setTbl_keeps _).keepsKeys
  | seam => exact (s.setTbl_keeps _).keepsKeys
  | eth => exact .step (State.ethDisable_keepsRecords _ (instOf_lt_of_eth hc)) (s.mdioDrop_keeps _).keepsKeys
  | can => exact .step (State.wr_keepsRecords ..) (.step (State.setCan_keeps ..).keepsKeys (.step (.each (fun t k => t.objClear_keepsRecords ..) _)
      (s.canDropAll_keepsRecords ..)))
  | lin => exact .step (State.linStop_keepsRecords ..) (s.linDropAll_keepsRecords ..)
  | signal => exact htab s.sigResetAll_keepsRecords
  | pdu => exact htab (s.setGw_keeps _).keepsKeys
  | vlan => exact htab (.refl ..)
  | route => exact htab (.refl ..)
  | dlist => exact htab (.refl ..)
  | canf => exact htab (.refl ..)
  | sieve => exact htab (.each (fun t k => t.wr_keepsRecords ..) s)
  | weigh => exact htab (s.setGuard_keeps _).keepsKeys
  | auth => exact htab s.authReset_keepsRecords
  | macsec => exact .step (.each (fun t k => t.wr_keepsRecords ..) _) (.step (.each (fun t k => t.setScState_keepsRecords ..) _)
      (s.setGuard_keeps _).keepsKeys)
  | se => exact s.seReset_keepsRecords ..
  | axis => exact s.axStop_keepsRecords n
  | axis0 => exact s.axisLost_keepsRecords 0
  | evp => exact .each (fun t i => t.evDrop_keepsRecords ..) s
  | stamp => exact s.stampReset_keepsRecords
  | channel => exact .step (State.testEnd_keepsRecords ..) (.step (State.wr_keepsRecords ..) (s.chLeave_keepsRecords ..))
  | motion => exact s.meReset_keepsRecords n
  | switch => exact (s.setSw_keeps ..).keepsKeys
  | analog => exact .step (State.wr_keepsRecords ..) (s.setAn_keeps ..).keepsKeys
  | wake => exact s.wakeAll_keepsRecords
  | ks => exact .step (State.setTrust_keeps ..).keepsKeys (.each (fun t k => .step (State.setTrust_keeps ..).keepsKeys (t.wr_keepsRecords ..)) s)
  | attest => exact .step (State.setTrust_keeps ..).keepsKeys s.trmFree_keepsRecords
  | derrick => exact s.drkReset_keepsRecords
  | _ => exact .refl ..

/-! ## The safe state (R85) -/

theorem State.safeEntry_keepsRecords (w : Nat) : KeepsRecords s (s.safeEntry w) := by
  unfold State.safeEntry
  extract_lets n t
  have ht : KeepsRecords s t := .step (State.chOutput_keepsRecords ..) (s.chEval_keepsRecords n)
  cases hc : clsOf w with
  | eth => exact .ite (loopOff_keepsRecords s (instOf_lt_of_eth hc)) (.refl ..)
  | channel => exact .ite (.step (t.hbApply_keepsRecords _) ht) ht
  | bridge => exact s.hbApply_keepsRecords n
  | _ => exact .refl ..

theorem State.toSafe_keepsRecords (w : Nat) : KeepsRecords s (s.toSafe w) := by
  unfold State.toSafe
  exact .ite (.refl ..) (.step (State.axisSources_keepsRecords _) (.step (State.safeEntry_keepsRecords ..) (.step (State.wr_keepsRecords ..)
    (.ite (.step (State.mapMe_keeps ..).keepsKeys (s.meStop_keepsRecords _)) (.refl ..)))))

end Sys2Proof.Machine

/-! SUPPORT. A fault that is recorded in an empty FAULT_ADDR (R84), and what becomes of the record of a unit watchdog while the leases of its
unit are revoked and the unit is reset (R458, R459). -/

namespace Sys2Proof.Machine

-- One proof after the other, as in the tests: proofs elaborated side by side after so long a text exhaust the memory for threads.
set_option Elab.async false

/-! ## The registers of a record -/

/-- The field is in UNIT_STICKY, FAULT_ADDR or VIOL_ADDR. -/
def Field.inRecord (f : Field) : Bool := f.lo < 1024 && 0x21 ≤ f.ofs && f.ofs < 0x30

theorem Field.recordKey {f : Field} (h : f.inRecord = true) (w i : Nat) : RecordKey (f.key w i) := by
  simp only [inRecord, Bool.and_eq_true, decide_eq_true_eq] at h
  unfold RecordKey Field.key
  omega

theorem KeepsKeys.rd_record {s t : State} (h : KeepsRecords s t) (w : Nat) (f : Field) (hf : f.inRecord = true := by decide) :
    t.rd w f = s.rd w f := h.rd (Field.recordKey hf w 0)

/-- The registers of two windows lie in two places. -/
theorem Field.key_ne_of_window {f : Field} {v w : Nat} (h : v ≠ w) : f.key v 0 ≠ f.key w 0 := by
  unfold Field.key; omega

section
variable (s : State) (w : Nat)

/-- A sticky bit leaves the registers of a record but itself. -/
theorem State.rd_sticky_record {f g : Field} (h : f.lo < 1024 ∧ (f.ofs % 4096 ≠ g.ofs % 4096 ∨ f.lo ≠ g.lo)) (hg : g.inRecord = true)
    (v : Nat) :
    (s.sticky v f).rd w g = s.rd w g := by
  simp only [Field.inRecord, Bool.and_eq_true, decide_eq_true_eq] at hg
  have hkey : f.key v 0 ≠ g.key w 0 :=
    h.2.elim (fun ho => Field.key_ne_ofs h.1 hg.1.1 ho v w 0 0) (fun hl => Field.key_ne_lo h.1 hg.1.1 hl v w 0 0)
  have hofs : UNIT_IRQ_PEND.TROUBLE.ofs % 4096 ≠ g.ofs % 4096 := by simp only [UNIT_IRQ_PEND.TROUBLE, fld]; omega
  exact s.rd_sticky_other hkey (Field.key_ne_ofs (by decide) hg.1.1 hofs v w 0 0)

variable {s w}

/-- A fault recorded in an empty FAULT_ADDR writes its cause and its offset, and leaves OVR and the sticky bits (R84). -/
theorem State.rd_recordFault_empty (h : s.rd w FAULT_ADDR.CAUSE = 0) (c o k : Nat) :
    (s.recordFault w c o k).rd w FAULT_ADDR.CAUSE = c % 8 ∧ (s.recordFault w c o k).rd w FAULT_ADDR.OFS = o % 4096 ∧
      (s.recordFault w c o k).rd w FAULT_ADDR.OVR = s.rd w FAULT_ADDR.OVR ∧
      (s.recordFault w c o k).rd w UNIT_STICKY.CFG_PARITY = s.rd w UNIT_STICKY.CFG_PARITY ∧
      (s.recordFault w c o k).rd w UNIT_STICKY.FAULT = s.rd w UNIT_STICKY.FAULT := by
  have hlog (g : Field) (hg : g.inRecord = true) :=
    (((s.wr w FAULT_ADDR.CAUSE c).wr w FAULT_ADDR.OFS o).troubleRecord_keepsRecords k w o).rd_record w g hg
  rw [State.recordFault, if_pos h]
  simp (disch := decide) only [hlog, State.rd_wr_lo, State.rd_wr_same, and_true]
  exact ⟨rfl, rfl⟩

/-- A sticky bit and the record of its fault (R84). -/
theorem State.rd_sticky_recordFault {f : Field} (hf : f ∈ [UNIT_STICKY.CFG_PARITY, UNIT_STICKY.FAULT]) (h : s.rd w FAULT_ADDR.CAUSE = 0)
    (c o k : Nat) :
    ((s.sticky w f).recordFault w c o k).rd w f = 1 ∧ ((s.sticky w f).recordFault w c o k).rd w FAULT_ADDR.CAUSE = c % 8 ∧
      ((s.sticky w f).recordFault w c o k).rd w FAULT_ADDR.OFS = o % 4096 ∧
      ((s.sticky w f).recordFault w c o k).rd w FAULT_ADDR.OVR = s.rd w FAULT_ADDR.OVR := by
  have hcard := (by decide : ∀ f ∈ [UNIT_STICKY.CFG_PARITY, UNIT_STICKY.FAULT], (f.lo < 1024 ∧ 0 < f.width ∧ f.ofs = 0x21)) f hf
  obtain ⟨hlo, hwidth, hofs⟩ := hcard
  have hkept (g : Field) (hg : g.inRecord = true) (ho : g.ofs = 0x24) : (s.sticky w f).rd w g = s.rd w g :=
    s.rd_sticky_record w ⟨hlo, .inl (by omega)⟩ hg w
  have hset : (s.sticky w f).rd w f = 1 := s.rd_sticky_same hlo hwidth (by rw [hofs]; decide) w 0
  obtain ⟨hcause, hofs', hovr, hparity, hfault⟩ :=
    State.rd_recordFault_empty ((hkept FAULT_ADDR.CAUSE (by decide) rfl).trans h) c o k
  refine ⟨?_, hcause, hofs', hovr.trans (hkept _ (by decide) rfl)⟩
  simp only [List.mem_cons, List.not_mem_nil, or_false] at hf
  rcases hf with rfl | rfl
  · exact hparity.trans hset
  · exact hfault.trans hset

end

/-! ## The record of a unit watchdog -/

/-- The window holds the record of a unit watchdog's expiry (R459): FAULT, cause 4, offset 0. -/
structure WatchdogRecord (w : Nat) (s : State) : Prop where
  fault : s.rd w UNIT_STICKY.FAULT = 1
  cause : s.rd w FAULT_ADDR.CAUSE = 4
  ofs : s.rd w FAULT_ADDR.OFS = 0

namespace WatchdogRecord

section
variable {w : Nat} {s t : State}

theorem keep (h : WatchdogRecord w s) (k : KeepsRecords s t) : WatchdogRecord w t :=
  ⟨(k.rd_record ..).trans h.fault, (k.rd_record ..).trans h.cause, (k.rd_record ..).trans h.ofs⟩

theorem ite {p : Prop} [Decidable p] (hs : WatchdogRecord w s) (ht : WatchdogRecord w t) : WatchdogRecord w (if p then s else t) := by
  split <;> assumption

theorem each {α : Type} {l : List α} {f : State → α → State} (h : WatchdogRecord w s)
    (hf : ∀ x ∈ l, ∀ t, WatchdogRecord w t → WatchdogRecord w (f t x)) : WatchdogRecord w (s.each l f) := by
  unfold State.each
  induction l generalizing s with
  | nil => exact h
  | cons x r ih => exact ih (hf x List.mem_cons_self s h) fun y hy => hf y (List.mem_cons_of_mem _ hy)

theorem iter {f : State → State} (hf : ∀ t, WatchdogRecord w t → WatchdogRecord w (f t)) (n : Nat) (h : WatchdogRecord w s) :
    WatchdogRecord w (Machine.iter f n s) := by
  induction n generalizing s with
  | zero => exact h
  | succ n ih => exact ih (hf s h)

/-- A further fault of the unit sets OVR alone, and a fault of another is recorded there (R84). -/
theorem recordFault (h : WatchdogRecord w s) (v c o k : Nat) : WatchdogRecord w (s.recordFault v c o k) := by
  unfold State.recordFault
  split
  · next hempty =>
    have hvw : v ≠ w := fun e => by rw [e, h.cause] at hempty; cases hempty
    have hcause := (s.wr v FAULT_ADDR.CAUSE c).rd_wr_lo (f := FAULT_ADDR.OFS) (g := FAULT_ADDR.CAUSE) (by decide) (by decide) (by decide) v w o 0 0
    have hofs := (s.wr v FAULT_ADDR.CAUSE c).rd_wr_other (Field.key_ne_of_window (f := FAULT_ADDR.OFS) hvw) o
    refine keep ⟨?_, ?_, ?_⟩ (State.troubleRecord_keepsRecords ..)
    · simpa (disch := decide) only [State.rd_wr_ofs] using h.fault
    · rw [hcause, s.rd_wr_other (Field.key_ne_of_window hvw), h.cause]
    · rw [hofs, State.rd_wr_lo _ (by decide) (by decide) (by decide), h.ofs]
  · refine ⟨?_, ?_, ?_⟩
    · simpa (disch := decide) only [State.rd_wr_ofs] using h.fault
    · simpa (disch := decide) only [State.rd_wr_lo] using h.cause
    · simpa (disch := decide) only [State.rd_wr_lo] using h.ofs

/-! ## Revoked leases (R458) -/

theorem leaseRevoked (h : WatchdogRecord w s) (v : Nat) : WatchdogRecord w (s.leaseRevoked v) := by
  have hkept (g : Field) (hg : g.inRecord = true) (hne : UNIT_STICKY.LEASE.ofs % 4096 ≠ g.ofs % 4096 ∨ UNIT_STICKY.LEASE.lo ≠ g.lo) :
      (s.sticky v UNIT_STICKY.LEASE).rd w g = s.rd w g :=
    s.rd_sticky_record w ⟨by decide, hne⟩ hg v
  exact recordFault ⟨(hkept _ (by decide) (by decide)).trans h.fault, (hkept _ (by decide) (by decide)).trans h.cause,
    (hkept _ (by decide) (by decide)).trans h.ofs⟩ ..

theorem cellLease (h : WatchdogRecord w s) (x : CellHolder) : WatchdogRecord w (cellLease x s) := by
  have hrev (v : Nat) : WatchdogRecord w (s.cellRevoked v) :=
    (h.keep (.step (State.event_keepsRecords ..) (s.sticky_keepsRecords ..))).leaseRevoked v
  unfold Machine.cellLease
  cases x with
  | writer p =>
    dsimp only
    split
    · exact h
    · split
      · exact h
      · exact (hrev _).keep (.step (State.openFailed_keepsRecords ..) (State.setRxOpen_keeps ..).keepsKeys)
  | reader p =>
    dsimp only
    split
    · exact h
    · exact (hrev _).keep (State.readerBad_keepsRecords ..)
  | dma r =>
    refine ite h ((hrev wHost).keep ?_)
    unfold State.ringHeadEnd
    split
    · exact .refl ..
    · exact .step (State.endCopy_keepsRecords ..) (State.setFab_keeps ..).keepsKeys
  | stages =>
    dsimp only
    split
    · exact h
    · exact (hrev _).keep (State.stopItem_keepsRecords ..)

theorem descLease (h : WatchdogRecord w s) (tx : Bool) {r : Nat} (hr : r < 16) : WatchdogRecord w (descLease tx r s) := by
  unfold Machine.descLease
  refine ite h ((h.leaseRevoked wHost).keep ?_)
  generalize s.leaseRevoked wHost = u
  refine .ite ?_ ?_
  · split
    · exact .refl ..
    · extract_lets reach t
      have ht : KeepsRecords u t := .step (State.wbRxEmpty_keepsRecords ..) (u.setRxDescs_keeps ..).keepsKeys
      exact .ite (.step (State.ringIrq_keepsRecords _ hr false) (.step (t.complete_keepsRecords hr false _) ht)) ht
  · split
    · exact .step (State.wbFrame_keepsRecords _ hr ..) (u.setTxFrames_keeps ..).keepsKeys
    · split
      · exact .step (State.wbFrame_keepsRecords _ hr ..) (.step (State.endItem_keepsRecords ..) (u.setLaunch_keeps ..).keepsKeys)
      · exact .step (State.wbLoose_keepsRecords _ hr ..) (u.setTxDescs_keeps ..).keepsKeys

theorem keyLease_protect (h : WatchdogRecord w s) (p : Fin 6) : WatchdogRecord w (keyLease (.protect p) s) := by
  unfold keyLease
  dsimp only
  split
  · exact h
  · exact ite ((h.leaseRevoked _).keep (State.readerBad_keepsRecords ..)) h

theorem keyLease_receive (h : WatchdogRecord w s) (p : Fin 6) : WatchdogRecord w (keyLease (.receive p) s) := by
  unfold keyLease
  dsimp only
  split
  · exact h
  · split
    · exact h
    · exact ite ((h.leaseRevoked _).keep (.step (State.openFailed_keepsRecords ..) (State.setRxOpen_keeps ..).keepsKeys)) h

theorem hostLeases (h : WatchdogRecord w s) : WatchdogRecord w s.hostLeases :=
  h.each fun _ hr _ ht => iter (fun _ hu => (hu.descLease true (List.mem_range.mp hr)).descLease false (List.mem_range.mp hr)) _ (ht.cellLease _)

theorem revokeUnit (h : WatchdogRecord w s) (v : Nat) : WatchdogRecord w (s.revokeUnit v) := by
  unfold State.revokeUnit
  extract_lets n
  cases clsOf v with
  | eth => exact h.cellLease _
  | hopper => exact h.cellLease _
  | host => exact h.hostLeases
  | engine => exact h.each fun p _ _ ht => ite (ht.keyLease_protect p) (ite (ht.keyLease_receive p) ht)
  | plain => exact ite (h.cellLease _) h
  | _ => exact h

end

end WatchdogRecord

/-! ## The UNIT reset (R85) -/

/-- A filter leaves what stands under a key that it keeps. -/
theorem look_filter {α : Type} {t : Tab α} {p : Nat × α → Bool} {q : Nat} (h : ∀ x, p (q, x) = true) (d : α) :
    look (t.filter p) q d = look t q d := by
  induction t with
  | nil => rfl
  | cons x r ih =>
    obtain ⟨k, v⟩ := x
    by_cases hk : k = q
    · subst hk; simp [h, look]
    · rw [List.filter_cons]
      split <;> simp [look, hk, ih]

/-- A register of a record is the field of its key, in every window of the map. -/
theorem fieldOfKey_record {w : Nat} (hw : (unitOf w).isSome = true) {f : Field}
    (hf : f ∈ [UNIT_STICKY.FAULT, FAULT_ADDR.CAUSE, FAULT_ADDR.OFS]) : fieldOfKey (f.key w 0) = some f ∧ keyWin (f.key w 0) = w := by
  have hlt := lt_of_unitOf hw
  obtain ⟨hplace, hcommon⟩ := (by decide : ∀ f ∈ [UNIT_STICKY.FAULT, FAULT_ADDR.CAUSE, FAULT_ADDR.OFS],
    (f.lo < 1024 ∧ f.ofs < 4096) ∧ commonFields.find? (fun g => g.at_ f.ofs f.lo) = some f) f hf
  have hidx : keyIdx (f.key w 0) ≠ legacyIdx := by unfold keyIdx Field.key legacyIdx; omega
  have hwin : keyWin (f.key w 0) = w := by unfold keyWin Field.key; omega
  have hofs : keyOfs (f.key w 0) = f.ofs := by unfold keyOfs Field.key; omega
  have hlo : keyLo (f.key w 0) = f.lo := by unfold keyLo Field.key; omega
  refine ⟨?_, hwin⟩
  rw [fieldOfKey, if_neg hidx, hwin, hofs, hlo, fieldsAt_eq hw, cardFields]
  simp only [List.append_assoc, List.find?_append, hcommon, Option.some_or]

namespace WatchdogRecord

variable {w : Nat} {s : State}

/-- FAULT and FAULT_ADDR keep their values through a UNIT reset (R20). -/
theorem resetFields (hw : (unitOf w).isSome = true) (h : WatchdogRecord w s) (reach : Nat → Bool) :
    WatchdogRecord w (s.resetFields reach fun _ f => unitKeeps f) := by
  have hrd (f : Field) (hf : f ∈ [UNIT_STICKY.FAULT, FAULT_ADDR.CAUSE, FAULT_ADDR.OFS]) :
      (s.resetFields reach fun _ f => unitKeeps f).rd w f = s.rd w f := by
    obtain ⟨hfield, hwin⟩ := fieldOfKey_record hw hf
    have hkeep := (by decide : ∀ f ∈ [UNIT_STICKY.FAULT, FAULT_ADDR.CAUSE, FAULT_ADDR.OFS], unitKeeps f = true) f hf
    exact look_filter (fun x => by simp [hfield, hkeep]) _
  exact ⟨(hrd _ (by simp)).trans h.fault, (hrd _ (by simp)).trans h.cause, (hrd _ (by simp)).trans h.ofs⟩

theorem resetUnit (hw : (unitOf w).isSome = true) (h : WatchdogRecord w s) (v : Nat) (fault : Bool) : WatchdogRecord w (s.resetUnit v fault) := by
  unfold State.resetUnit
  exact ite h ((resetFields hw (h.keep (s.endWork_keepsRecords ..)) _).keep
    (.step (State.wr_keepsRecords ..) (State.setFans_keeps ..).keepsKeys))

theorem unitReset (hw : (unitOf w).isSome = true) (h : WatchdogRecord w s) (v : Nat) (fault : Bool) : WatchdogRecord w (s.unitReset v fault) := by
  unfold State.unitReset
  exact (each h fun x _ _ ht => ht.resetUnit hw x fault).keep (.step (State.axisSources_keepsRecords _) (State.wr_keepsRecords ..))

end WatchdogRecord

/-! ## The two events -/

section
variable {s : State} {w : Nat}

/-- A mismatch of parity enters an empty FAULT_ADDR with cause 1 and its offset, OVR as it was (R84, R91). -/
theorem scrub_records {k : Nat} (hw : (unitOf w).isSome = true) (hoff : s.unitState w ≠ usOff) (hgroup : parityGroup w k = true)
    (hempty : s.rd w FAULT_ADDR.CAUSE = 0) :
    (scrub w k true s).rd w UNIT_STICKY.CFG_PARITY = 1 ∧ (scrub w k true s).rd w FAULT_ADDR.CAUSE = 1 ∧
      (scrub w k true s).rd w FAULT_ADDR.OFS = 8 * k % 4096 ∧ (scrub w k true s).rd w FAULT_ADDR.OVR = s.rd w FAULT_ADDR.OVR := by
  have hsome : (unitOf w).isNone = false := by simp [← Option.not_isSome, hw]
  have hlost : w * 512 + k ∈ (s.loseParity (w * 512 + k)).parity := by
    unfold State.loseParity
    split
    · next h => exact List.contains_iff_mem.mp h
    · exact List.mem_cons_self
  have hregs : KeepsRecords s (s.loseParity (w * 512 + k)) := by
    unfold State.loseParity
    exact .ite (.refl ..) (.of_regs rfl)
  have hscrub : scrub w k true s =
      ((((s.loseParity (w * 512 + k)).sticky w UNIT_STICKY.CFG_PARITY).recordFault w 1 (8 * k) 1).toSafe w) := by
    simp [scrub, hsome, hoff, hgroup, hlost]
  have hsafe (f : Field) (hf : f.inRecord = true) := (State.toSafe_keepsRecords
    (((s.loseParity (w * 512 + k)).sticky w UNIT_STICKY.CFG_PARITY).recordFault w 1 (8 * k) 1) w).rd_record w f hf
  obtain ⟨hsticky, hcause, hofs, hovr⟩ := State.rd_sticky_recordFault (f := UNIT_STICKY.CFG_PARITY) (by simp)
    ((hregs.rd_record ..).trans hempty) 1 (8 * k) 1
  rw [hscrub, hsafe _ (by decide), hsafe _ (by decide), hsafe _ (by decide), hsafe _ (by decide)]
  exact ⟨hsticky, hcause, hofs, hovr.trans (hregs.rd_record ..)⟩

/-- The expiry of a unit watchdog enters an empty FAULT_ADDR with cause 4, and the recovery of the unit leaves the record (R91, R459). -/
theorem unitWatchdog_records (hw : (unitOf w).isSome = true) (hmp : w ≠ wMP) (hstate : s.unitState w = usReady ∨ s.unitState w = usSafe)
    (hempty : s.rd w FAULT_ADDR.CAUSE = 0) : WatchdogRecord w (unitWatchdog w s) := by
  have hsome : (unitOf w).isNone = false := by simp [← Option.not_isSome, hw]
  obtain ⟨hfault, hcause, hofs, _⟩ := State.rd_sticky_recordFault (f := UNIT_STICKY.FAULT) (by simp) hempty 4 0 5
  have hrec : WatchdogRecord w ((s.sticky w UNIT_STICKY.FAULT).recordFault w 4 0 5) := ⟨hfault, hcause, hofs⟩
  unfold unitWatchdog
  extract_lets st t u
  have hnot : ¬ ¬ (st = usReady ∨ st = usSafe) := not_not_intro hstate
  rw [if_neg (by simpa [hsome, hmp] using hnot)]
  have hu : WatchdogRecord w u := hrec.keep (.step (State.axisSources_keepsRecords _) (t.wr_keepsRecords ..))
  exact .ite hrec ((hu.revokeUnit w).unitReset hw w true)

end

end Sys2Proof.Machine

/-! SUPPORT. A byte written to UNIT_STICKY (R5, R91), the record of a violation in an empty VIOL_ADDR (R87), and R91. -/

namespace Sys2Proof.Machine

-- One proof after the other, as in the tests: proofs elaborated side by side after so long a text exhaust the memory for threads.
set_option Elab.async false

/-! ## The bits of UNIT_STICKY -/

/-- The bits of UNIT_STICKY. -/
def stickyFields : List Field := [UNIT_STICKY.CFG_PARITY, UNIT_STICKY.VIOL, UNIT_STICKY.LEASE, UNIT_STICKY.FAULT]

/-- The record of a fault in its window (FAULT_ADDR card). -/
def faultFields : List Field := [FAULT_ADDR.CAUSE, FAULT_ADDR.OVR, FAULT_ADDR.OFS]

/-- What falls with a bit of UNIT_STICKY (R91). -/
def State.recordOf (s : State) (w : Nat) (f : Field) : List Field :=
  if f = UNIT_STICKY.VIOL then recordFields
  else if f = UNIT_STICKY.CFG_PARITY ∧ s.rd w FAULT_ADDR.CAUSE = 1 then faultFields
  else if f = UNIT_STICKY.FAULT ∧ 2 ≤ s.rd w FAULT_ADDR.CAUSE then faultFields
  else []

/-- What a written byte does to one bit of UNIT_STICKY: `w1cByte` for that field alone. -/
def State.w1cBit (s : State) (w b : Nat) (f : Field) : State :=
  let mask := bits (b * 256 ^ (f.ofs + f.len - 1 - 0x21)) f.hi f.lo
  if s.rd w f &&& mask = 0 then s else (s.wr w f (s.rd w f - (s.rd w f &&& mask))).cleared w f

/-- In every window the bits in the byte are those four. -/
theorem fieldsIn_sticky {w : Nat} (hw : (unitOf w).isSome = true) : (fieldsIn w 0x21).filter (fun f => f.acc == .w1c) = stickyFields := by
  have hcards : ∀ g c, c = .legacy ∨ c = .common ∨
      ((cardFields g c).filterMap (·.cover 0x21)).filter (fun f => f.acc == .w1c) = stickyFields := by
    intro g c
    cases g <;> cases c <;> decide +kernel
  rw [fieldsIn, fieldsAt_eq hw]
  exact ((hcards _ _).resolve_left (clsOf_ne hw).1).resolve_left (clsOf_ne hw).2

theorem State.selOf_sticky (s : State) (w : Nat) : s.selOf w 0x21 = 0 := by simp [State.selOf, inRange]

theorem State.w1cByte_sticky (s : State) {w : Nat} (hw : (unitOf w).isSome = true) (b : Nat) :
    s.w1cByte w 0x21 b = s.each stickyFields fun t f => t.w1cBit w b f := by
  simp only [State.w1cByte, fieldsIn_sticky hw, State.selOf_sticky]
  rfl

/-- The registers of a record, bit by bit. -/
def allRecordFields : List Field := stickyFields ++ faultFields ++ recordFields

/-- Each has a place of its own. -/
theorem key_ne_of_ne {f g : Field} (hf : f ∈ allRecordFields) (hg : g ∈ allRecordFields) (h : f ≠ g) (w : Nat) : f.key w 0 ≠ g.key w 0 := by
  obtain ⟨hlf, hlg, hplace⟩ := (by decide : ∀ f ∈ allRecordFields, ∀ g ∈ allRecordFields, f ≠ g →
    f.lo < 1024 ∧ g.lo < 1024 ∧ (f.ofs % 4096 ≠ g.ofs % 4096 ∨ f.lo ≠ g.lo)) f hf g hg h
  exact hplace.elim (fun ho => Field.key_ne_ofs hlf hlg ho w w 0 0) (fun hl => Field.key_ne_lo hlf hlg hl w w 0 0)

section
variable (s : State) (w b : Nat)

theorem State.recordOf_viol : s.recordOf w UNIT_STICKY.VIOL = recordFields := rfl

theorem State.recordOf_parity : s.recordOf w UNIT_STICKY.CFG_PARITY = if s.rd w FAULT_ADDR.CAUSE = 1 then faultFields else [] := by
  simp [State.recordOf, show UNIT_STICKY.CFG_PARITY ≠ UNIT_STICKY.VIOL by decide, show UNIT_STICKY.CFG_PARITY ≠ UNIT_STICKY.FAULT by decide]

theorem State.recordOf_lease : s.recordOf w UNIT_STICKY.LEASE = [] := by
  simp [State.recordOf, show UNIT_STICKY.LEASE ≠ UNIT_STICKY.VIOL by decide, show UNIT_STICKY.LEASE ≠ UNIT_STICKY.CFG_PARITY by decide,
    show UNIT_STICKY.LEASE ≠ UNIT_STICKY.FAULT by decide]

theorem State.recordOf_fault : s.recordOf w UNIT_STICKY.FAULT = if 2 ≤ s.rd w FAULT_ADDR.CAUSE then faultFields else [] := by
  simp [State.recordOf, show UNIT_STICKY.FAULT ≠ UNIT_STICKY.VIOL by decide, show UNIT_STICKY.FAULT ≠ UNIT_STICKY.CFG_PARITY by decide]

variable {s w b} {f g : Field}

theorem State.recordOf_sub (f : Field) : s.recordOf w f ⊆ faultFields ++ recordFields := by
  have hfault := List.subset_append_left faultFields recordFields
  unfold State.recordOf
  split
  · exact List.subset_append_right ..
  · split
    · exact hfault
    · split
      · exact hfault
      · exact List.nil_subset _

/-- The record of a fault falls with no other bit than its own. -/
theorem State.recordOf_sub_of_ne (h : f ≠ UNIT_STICKY.VIOL) : s.recordOf w f ⊆ faultFields := by
  rw [State.recordOf, if_neg h]
  split
  · exact List.Subset.refl _
  · split
    · exact List.Subset.refl _
    · exact List.nil_subset _

theorem State.cleared_sticky (hf : f ∈ stickyFields) : s.cleared w f = s.each (s.recordOf w f) fun t g => t.wr w g 0 := by
  simp only [stickyFields, List.mem_cons, List.not_mem_nil, or_false] at hf
  rcases hf with rfl | rfl | rfl | rfl
  · rw [State.recordOf_parity]
    show (if s.rd w FAULT_ADDR.CAUSE = 1 then _ else s) = _
    split <;> rfl
  · rfl
  · rw [State.recordOf_lease]; rfl
  · rw [State.recordOf_fault]
    show (if 2 ≤ s.rd w FAULT_ADDR.CAUSE then _ else s) = _
    split <;> rfl

theorem State.recordOf_wr (hf : f ∈ stickyFields) (v : Nat) : (s.wr w f v).recordOf w f = s.recordOf w f := by
  have hplace := (by decide : ∀ f ∈ stickyFields, f.lo < 1024 ∧ f.ofs % 4096 ≠ FAULT_ADDR.CAUSE.ofs % 4096) f hf
  simp only [State.recordOf, State.rd_wr_ofs s hplace.1 (by decide : FAULT_ADDR.CAUSE.lo < 1024) hplace.2]

theorem mem_allRecordFields_of_sticky (hf : f ∈ stickyFields) (hg : g ∈ f :: s.recordOf w f) : g ∈ allRecordFields := by
  rcases List.mem_cons.mp hg with rfl | hg
  · exact List.mem_append_left _ (List.mem_append_left _ hf)
  · have := State.recordOf_sub f hg
    simp only [allRecordFields, List.mem_append] at this ⊢
    exact this.elim (.inl ∘ .inr) .inr

/-- A byte leaves in each step what does not fall with that step's bit. -/
theorem State.w1cBit_rd_other (hf : f ∈ stickyFields) (hg : g ∈ allRecordFields) (h : g ∉ f :: s.recordOf w f) :
    (s.w1cBit w b f).rd w g = s.rd w g := by
  have hne : ∀ x ∈ f :: s.recordOf w f, x.key w 0 ≠ g.key w 0 := fun x hx =>
    key_ne_of_ne (mem_allRecordFields_of_sticky hf hx) hg (fun e => h (e ▸ hx)) w
  unfold State.w1cBit
  extract_lets mask
  split
  · rfl
  · rw [State.cleared_sticky hf, State.recordOf_wr hf]
    have hzero : KeepsKeys (· = g.key w 0) (s.wr w f (s.rd w f - (s.rd w f &&& mask)))
        ((s.wr w f (s.rd w f - (s.rd w f &&& mask))).each (s.recordOf w f) fun t x => t.wr w x 0) :=
      .each_mem (fun x hx t => t.wr_keepsKeys (K := (· = g.key w 0)) (hne x (List.mem_cons_of_mem _ hx)) 0) _
    rw [hzero.rd rfl, s.rd_wr_other (hne f List.mem_cons_self)]

/-- Registers set to 0 one after the other read 0. -/
theorem State.rd_each_zero {l : List Field} (hl : l.Pairwise fun f g => f.key w 0 ≠ g.key w 0) (hg : g ∈ l) :
    (s.each l fun t x => t.wr w x 0).rd w g = 0 := by
  unfold State.each
  induction l generalizing s with
  | nil => cases hg
  | cons x r ih =>
    obtain ⟨hx, hr⟩ := List.pairwise_cons.mp hl
    rcases List.mem_cons.mp hg with rfl | hg
    · have hkeep : KeepsKeys (· = g.key w 0) (s.wr w g 0) (r.foldl (fun t x => t.wr w x 0) (s.wr w g 0)) :=
        .foldl_mem (fun y hy t => t.wr_keepsKeys (K := (· = g.key w 0)) (Ne.symm (hx y hy)) 0) _
      rw [List.foldl_cons, hkeep.rd rfl, State.rd_wr_same, Nat.zero_mod]
    · exact ih hr hg

/-- A set bit that the byte names falls, and its record with it (R91). -/
theorem State.w1cBit_rd_zero (hf : f ∈ stickyFields) (hon : s.rd w f = 1) (hb : bit b f.lo = true) :
    ∀ g ∈ f :: s.recordOf w f, (s.w1cBit w b f).rd w g = 0 := by
  obtain ⟨hhi, hlen⟩ := (by decide : ∀ f ∈ stickyFields, f.hi = f.lo ∧ f.ofs + f.len - 1 - 0x21 = 0) f hf
  have hmask : bits (b * 256 ^ (f.ofs + f.len - 1 - 0x21)) f.hi f.lo = 1 := by
    rw [hhi, hlen, bits, Nat.add_sub_cancel_left]
    simpa [bit] using hb
  have hdistinct : (f :: s.recordOf w f).Pairwise fun f g => f.key w 0 ≠ g.key w 0 := by
    have hnodup : (f :: s.recordOf w f).Nodup := by
      have hcards : ∀ f ∈ stickyFields, (f :: faultFields).Nodup ∧ (f :: recordFields).Nodup ∧ [f].Nodup := by decide
      obtain ⟨hfault, hrecord, hnone⟩ := hcards f hf
      unfold State.recordOf
      split
      · exact hrecord
      · split
        · exact hfault
        · split
          · exact hfault
          · exact hnone
    exact hnodup.imp_of_mem fun hx hy hne =>
      key_ne_of_ne (mem_allRecordFields_of_sticky hf hx) (mem_allRecordFields_of_sticky hf hy) hne w
  have hstep : s.w1cBit w b f = s.each (f :: s.recordOf w f) fun t x => t.wr w x 0 := by
    simp only [State.w1cBit, hmask, hon, State.cleared_sticky hf, State.recordOf_wr hf]
    rfl
  rw [hstep]
  exact fun g hg => State.rd_each_zero hdistinct hg

/-- VIOL and LEASE do not touch the record of a fault. -/
theorem State.w1cBit_rd_fault (t : State) (hf : f ∈ [UNIT_STICKY.VIOL, UNIT_STICKY.LEASE])
    (hg : g ∈ UNIT_STICKY.CFG_PARITY :: UNIT_STICKY.FAULT :: faultFields) : (t.w1cBit w b f).rd w g = t.rd w g := by
  have hfields := (by decide : ∀ g ∈ UNIT_STICKY.CFG_PARITY :: UNIT_STICKY.FAULT :: faultFields,
    g ∈ allRecordFields ∧ g ∉ UNIT_STICKY.VIOL :: recordFields ∧ g ∉ [UNIT_STICKY.LEASE]) g hg
  simp only [List.mem_cons, List.not_mem_nil, or_false] at hf
  rcases hf with rfl | rfl
  · exact State.w1cBit_rd_other (by decide) hfields.1 hfields.2.1
  · exact State.w1cBit_rd_other (by decide) hfields.1 (by rw [State.recordOf_lease]; exact hfields.2.2)

/-! ## The byte (R91) -/

variable (hw : (unitOf w).isSome = true)
include hw

/-- With VIOL falls VIOL_ADDR. -/
theorem State.w1cByte_viol (hon : s.rd w UNIT_STICKY.VIOL = 1) (hb : bit b 6 = true) :
    ∀ g ∈ UNIT_STICKY.VIOL :: recordFields, (s.w1cByte w 0x21 b).rd w g = 0 := by
  have hother (t : State) {f g : Field} (hf : f ∈ stickyFields) (hne : f ≠ UNIT_STICKY.VIOL) (hg : g ∈ UNIT_STICKY.VIOL :: recordFields) :
      (t.w1cBit w b f).rd w g = t.rd w g := by
    have hfields := (by decide : ∀ g ∈ UNIT_STICKY.VIOL :: recordFields, g ∈ allRecordFields ∧ g ∉ faultFields ∧
      (g ∈ stickyFields → g = UNIT_STICKY.VIOL)) g hg
    refine State.w1cBit_rd_other hf hfields.1 fun h => ?_
    rcases List.mem_cons.mp h with rfl | h
    · exact hne (hfields.2.2 hf)
    · exact hfields.2.1 (State.recordOf_sub_of_ne hne h)
  rw [s.w1cByte_sticky hw]
  intro g hg
  show ((((s.w1cBit w b UNIT_STICKY.CFG_PARITY).w1cBit w b UNIT_STICKY.VIOL).w1cBit w b UNIT_STICKY.LEASE).w1cBit w b UNIT_STICKY.FAULT).rd w g = 0
  rw [hother _ (by decide) (by decide) hg, hother _ (by decide) (by decide) hg]
  exact State.w1cBit_rd_zero (by decide) ((hother s (by decide) (by decide) List.mem_cons_self).trans hon) hb g hg

/-- With CFG_PARITY falls a FAULT_ADDR of cause 1. -/
theorem State.w1cByte_parity (hon : s.rd w UNIT_STICKY.CFG_PARITY = 1) (hcause : s.rd w FAULT_ADDR.CAUSE = 1) (hb : bit b 7 = true) :
    ∀ g ∈ UNIT_STICKY.CFG_PARITY :: faultFields, (s.w1cByte w 0x21 b).rd w g = 0 := by
  have hzero := State.w1cBit_rd_zero (f := UNIT_STICKY.CFG_PARITY) (by decide) hon hb
  rw [State.recordOf_parity, if_pos hcause] at hzero
  rw [s.w1cByte_sticky hw]
  intro g hg
  show ((((s.w1cBit w b UNIT_STICKY.CFG_PARITY).w1cBit w b UNIT_STICKY.VIOL).w1cBit w b UNIT_STICKY.LEASE).w1cBit w b UNIT_STICKY.FAULT).rd w g = 0
  generalize ht : ((s.w1cBit w b UNIT_STICKY.CFG_PARITY).w1cBit w b UNIT_STICKY.VIOL).w1cBit w b UNIT_STICKY.LEASE = t
  have hkept : ∀ g ∈ UNIT_STICKY.CFG_PARITY :: faultFields, t.rd w g = 0 := fun g hg => by
    have hg' := (by decide : ∀ g ∈ UNIT_STICKY.CFG_PARITY :: faultFields, g ∈ UNIT_STICKY.CFG_PARITY :: UNIT_STICKY.FAULT :: faultFields) g hg
    rw [← ht, State.w1cBit_rd_fault _ (by simp) hg', State.w1cBit_rd_fault _ (by simp) hg', hzero g hg]
  have hnone : t.recordOf w UNIT_STICKY.FAULT = [] := by
    rw [State.recordOf_fault, hkept FAULT_ADDR.CAUSE (by decide)]; rfl
  have hfields := (by decide : ∀ g ∈ UNIT_STICKY.CFG_PARITY :: faultFields, g ∈ allRecordFields ∧ g ∉ [UNIT_STICKY.FAULT]) g hg
  rw [State.w1cBit_rd_other (by decide) hfields.1 (by rw [hnone]; exact hfields.2), hkept g hg]

/-- With FAULT falls a FAULT_ADDR of another cause. -/
theorem State.w1cByte_fault (hon : s.rd w UNIT_STICKY.FAULT = 1) (hcause : 2 ≤ s.rd w FAULT_ADDR.CAUSE) (hb : bit b 4 = true) :
    ∀ g ∈ UNIT_STICKY.FAULT :: faultFields, (s.w1cByte w 0x21 b).rd w g = 0 := by
  rw [s.w1cByte_sticky hw]
  show ∀ g ∈ UNIT_STICKY.FAULT :: faultFields,
    ((((s.w1cBit w b UNIT_STICKY.CFG_PARITY).w1cBit w b UNIT_STICKY.VIOL).w1cBit w b UNIT_STICKY.LEASE).w1cBit w b UNIT_STICKY.FAULT).rd w g = 0
  generalize ht : ((s.w1cBit w b UNIT_STICKY.CFG_PARITY).w1cBit w b UNIT_STICKY.VIOL).w1cBit w b UNIT_STICKY.LEASE = t
  have hkept : ∀ g ∈ UNIT_STICKY.FAULT :: faultFields, t.rd w g = s.rd w g := fun g hg => by
    have hg' := (by decide : ∀ g ∈ UNIT_STICKY.FAULT :: faultFields,
      g ∈ UNIT_STICKY.CFG_PARITY :: UNIT_STICKY.FAULT :: faultFields ∧ g ∈ allRecordFields ∧ g ∉ [UNIT_STICKY.CFG_PARITY]) g hg
    have hnone : s.recordOf w UNIT_STICKY.CFG_PARITY = [] := by rw [State.recordOf_parity, if_neg (by omega)]
    rw [← ht, State.w1cBit_rd_fault _ (by simp) hg'.1, State.w1cBit_rd_fault _ (by simp) hg'.1,
      State.w1cBit_rd_other (by decide) hg'.2.1 (by rw [hnone]; exact hg'.2.2)]
  have hzero := State.w1cBit_rd_zero (f := UNIT_STICKY.FAULT) (by decide) ((hkept _ List.mem_cons_self).trans hon) hb
  rwa [State.recordOf_fault, hkept FAULT_ADDR.CAUSE (by decide), if_pos hcause] at hzero

end

/-! ## The write -/

/-- No byte of UNIT_STICKY is part of an entry view or of a select register. -/
theorem view_of_sticky (w : Nat) : viewAt w 0x21 = none ∧ viewOfSel w 0x21 = none := by
  have hviews : ∀ v ∈ allViews, ((viewFields v.win v.base).any fun g => (g.spans 0x21).isSome) = false ∧
      inRange v.sel.ofs (v.sel.ofs + v.sel.len - 1) 0x21 = false := by decide +kernel
  constructor <;> refine List.find?_eq_none.mpr fun v hmem hin => ?_ <;>
    · simp only [Bool.and_eq_true, beq_iff_eq] at hin
      obtain ⟨rfl, hin⟩ := hin
      simp [hviews v hmem] at hin

theorem regSpan_sticky {w : Nat} (hw : (unitOf w).isSome = true) : regSpan w 0x21 = (0x21, 0x21) ∧ (regFields w 0x21).isEmpty = false := by
  have hcards : ∀ g c, c = .common ∨ c = .legacy ∨ spansAlone (cardFields g c) 0x21 = true := by
    intro g c
    cases g <;> cases c <;> decide +kernel
  refine regSpan_of_spansAlone ?_
  rw [fieldsAt_eq hw]
  exact ((hcards _ _).resolve_left (clsOf_ne hw).2).resolve_left (clsOf_ne hw).1

/-- A byte of UNIT_STICKY that is open is carried out: its 1s clear (R5). -/
theorem registerWrite_sticky {s : State} {init : Initiator} {w : Nat} {b : Byte} (ho : WriteOpen s init w 0x21) :
    ∃ t u : State, exec (.registerWrite init (addrOf w 0x21) b) s = .next t ∧ u.regs = s.regs ∧ t.regs = (u.w1cByte w 0x21 b.toNat).regs := by
  have hw := ho.2.1
  have hlt := lt_of_unitOf hw
  obtain ⟨hwin, hofs⟩ := toNat_addrOf (w := w) (ofs := 0x21) (by omega) (by decide)
  obtain ⟨hspan, hfields⟩ := regSpan_sticky hw
  obtain ⟨hview, hsel⟩ := view_of_sticky w
  have hopen := WriteOpen_fresh.mpr ho
  have hact : (fresh s).localByte init.code w 0x21 b.toNat =
      ⟨[], fun t => (t.dropHeld w 0x21 0x21).w1cByte w 0x21 b.toNat⟩ := by
    simp [State.localByte, State.byteActBy, hview, hsel, hspan, hfields, State.fullAct, State.regAct, State.commonAct]
  have hkind : (fresh s).byteKind init.code w 0x21 b.toNat = none := by
    simp only [State.byteKind, hopen.not_ignored, hopen.no_kinds, hact]
    rfl
  have hwrite : (fresh s).localWrite init.code w [(0x21, b.toNat)] =
      ((((fresh s).dropHeld w 0x21 0x21).w1cByte w 0x21 b.toNat).freshParity w 0x21, true) := by
    simp [State.localWrite, State.writeFault, hkind, State.each, State.applyByte, hopen.not_ignored, hact, hspan]
  have hlocal : isRemote w = false := by simp [isRemote]; omega
  refine ⟨(((fresh s).dropHeld w 0x21 0x21).w1cByte w 0x21 b.toNat).freshParity w 0x21, (fresh s).dropHeld w 0x21 0x21, ?_, rfl, rfl⟩
  refine congrArg Host.Outcome.next ?_
  generalize (addrOf w 0x21).toNat = a at hwin hofs ⊢
  have hreach : (fresh s).reaches init.code = true := ho.1
  simp [regWrite, hreach, State.writeAccess, hwin, hofs, hlocal, offsets, hwrite]

/-! ## A violation -/

/-- A violation in a window whose VIOL_ADDR is empty writes the whole record, and leaves OVR (R87, R91). -/
theorem State.rd_refused_empty {s : State} {w : Nat} (h : s.rd w VIOL_ADDR.INIT = 0) (n : Nat) (k : Kind) (a d : Nat) :
    (s.refused w n k true a d).rd w VIOL_ADDR.ADDR = a % 2 ^ 24 ∧ (s.refused w n k true a d).rd w VIOL_ADDR.INIT = n % 2 ^ 8 ∧
      (s.refused w n k true a d).rd w VIOL_ADDR.KIND = k.code % 2 ^ 4 ∧ (s.refused w n k true a d).rd w VIOL_ADDR.WR = 1 ∧
      (s.refused w n k true a d).rd w VIOL_ADDR.WDATA = d % 2 ^ 8 ∧
      (s.refused w n k true a d).rd w VIOL_ADDR.OVR = s.rd w VIOL_ADDR.OVR := by
  have hend (g : Field) (hg : g.inRecord = true) : (s.refused w n k true a d).rd w g = ((fresh s).violate w n k true a d).rd w g :=
    KeepsKeys.rd_record (State.endAccess_keepsKeys _ spoilFields_offRecords n) w g hg
  let t := (fresh s).sticky w UNIT_STICKY.VIOL
  have hsticky (g : Field) (hg : g.inRecord = true) (ho : g.ofs = 0x28) : t.rd w g = s.rd w g :=
    (fresh s).rd_sticky_record w ⟨by decide, .inl (by rw [ho]; decide)⟩ hg w
  let u := ((((t.wr w VIOL_ADDR.ADDR a).wr w VIOL_ADDR.INIT n).wr w VIOL_ADDR.KIND k.code).wr w VIOL_ADDR.WR 1).wr w VIOL_ADDR.WDATA d
  have hviolate : (fresh s).violate w n k true a d = u.troubleRecord 6 w (a % 4096) :=
    if_pos ((hsticky VIOL_ADDR.INIT (by decide) rfl).trans h)
  have hlog (g : Field) (hg : g.inRecord = true) : (u.troubleRecord 6 w (a % 4096)).rd w g = u.rd w g :=
    (u.troubleRecord_keepsRecords ..).rd_record w g hg
  have hovr : t.rd w VIOL_ADDR.OVR = s.rd w VIOL_ADDR.OVR := hsticky _ (by decide) rfl
  simp (disch := decide) only [hend, hviolate, hlog, u, State.rd_wr_lo, State.rd_wr_same, hovr, and_true]
  exact ⟨rfl, rfl, rfl, rfl, rfl⟩

theorem Kind.code_pos (k : Kind) : 0 < k.code % 2 ^ 4 := by cases k <;> decide

theorem Initiator_code_lt (init : Initiator) : init.code < 2 ^ 8 := by
  cases init <;> simp [Initiator.code, initSpi, initPcie, initMp, initJtag, initPeer]
  omega

theorem bit_toNat (b : Byte) (k : Nat) : bit b.toNat k = b.getLsbD k := by
  rw [bit, BitVec.getLsbD, Nat.testBit_eq_decide_div_mod_eq]; rfl

/-! ## R91 -/

theorem State.on_eq_false {s : State} {w : Nat} {f : Field} (h : s.rd w f = 0) : s.on w f = false := by rw [State.on, h]; rfl

theorem State.on_eq_true {s : State} {w : Nat} {f : Field} : s.on w f = true ↔ s.rd w f = 1 := by rw [State.on, beq_iff_eq]

/-- A byte of UNIT_STICKY leaves in the registers what its 1s clear. -/
theorem completes_sticky {s : State} {init : Initiator} {w : Nat} {b : Byte} {P : State → Prop} {l : List Field} (ho : WriteOpen s init w 0x21)
    (hl : ∀ u : State, u.regs = s.regs → ∀ g ∈ l, (u.w1cByte w 0x21 b.toNat).rd w g = 0) (hP : ∀ t, (∀ g ∈ l, t.rd w g = 0) → P t) :
    Completes (.registerWrite init (addrOf w 0x21) b) s P := by
  obtain ⟨t, u, hnext, hu, ht⟩ := registerWrite_sticky (b := b) ho
  exact ⟨t, hnext, hP t fun g hg => (State.rd_congr ht ..).trans (hl u hu g hg)⟩

theorem clearsFaultRecord {w : Nat} {f : Field} {t : State} (h : ∀ g ∈ f :: faultFields, t.rd w g = 0) :
    t.on w f = false ∧ t.rd w FAULT_ADDR.CAUSE = 0 ∧ t.on w FAULT_ADDR.OVR = false ∧ t.rd w FAULT_ADDR.OFS = 0 :=
  ⟨State.on_eq_false (h _ (by simp)), h _ (by simp [faultFields]), State.on_eq_false (h _ (by simp [faultFields])), h _ (by simp [faultFields])⟩

/-- Settles O52: a bit of UNIT_STICKY that a byte clears takes its record with it, and a violation, a mismatch and a watchdog that find the
record empty write the whole of it, which nothing that follows in the same command changes. -/
theorem clearingStickyBitsClearsTheirRecords : Obligations.ClearingStickyBitsClearsTheirRecords := by
  refine ⟨fun s init w b ho hon hb => ?_, fun s init w b ho hon hb hcause => ?_, fun s init w b ho hon hb hcause => ?_,
    fun s init w f b hf hc ho hm hb hon hempty => ?_, fun s w k hw hoff hgroup hempty => ?_, fun s w hw hmp hstate _ _ hempty => ?_⟩
  · refine completes_sticky ho (fun u hu => u.w1cByte_viol ho.2.1 ((State.rd_congr hu ..).trans (State.on_eq_true.mp hon))
      ((bit_toNat b 6).trans hb)) fun t ht => ?_
    exact ⟨State.on_eq_false (ht _ (by simp)), ht _ (by simp [recordFields]), ht _ (by simp [recordFields]), ht _ (by simp [recordFields]),
      State.on_eq_false (ht _ (by simp [recordFields])), State.on_eq_false (ht _ (by simp [recordFields])), ht _ (by simp [recordFields])⟩
  · exact completes_sticky ho (fun u hu => u.w1cByte_parity ho.2.1 ((State.rd_congr hu ..).trans (State.on_eq_true.mp hon))
      ((State.rd_congr hu ..).trans hcause) ((bit_toNat b 7).trans hb)) fun t ht => clearsFaultRecord ht
  · exact completes_sticky ho (fun u hu => u.w1cByte_fault ho.2.1 ((State.rd_congr hu ..).trans (State.on_eq_true.mp hon))
      (Nat.le_trans hcause.1 (Nat.le_of_eq (State.rd_congr hu ..).symm)) ((bit_toNat b 4).trans hb)) fun t ht => clearsFaultRecord ht
  · obtain ⟨k, hnext⟩ := registerWrite_busy hf hc ho hm hb hon
    obtain ⟨haddr, hinit, hkind, hwr, hdata, hovr⟩ := State.rd_refused_empty hempty init.code k (w * 4096 + f.ofs) b.toNat
    have hw := lt_of_unitOf (isSome_unitOf_of_field hf)
    have hofs := (fieldsAt_bounds hf).1
    exact ⟨_, hnext, s.refused_viol .., haddr.trans (Nat.mod_eq_of_lt (by omega)), hinit.trans (Nat.mod_eq_of_lt (Initiator_code_lt init)),
      hkind ▸ k.code_pos, State.on_eq_true.mpr hwr, hdata.trans (Nat.mod_eq_of_lt b.isLt), hovr⟩
  · obtain ⟨hsticky, hcause, hofs, hovr⟩ := scrub_records (s := fresh s) hw hoff hgroup hempty
    exact ⟨_, rfl, State.on_eq_true.mpr hsticky, hcause, hofs.trans (Nat.mod_eq_of_lt (by omega)), hovr⟩
  · have hrec := unitWatchdog_records (s := fresh s) hw hmp hstate hempty
    exact ⟨_, rfl, State.on_eq_true.mpr hrec.fault, hrec.cause, hrec.ofs⟩

end Sys2Proof.Machine
